-- ==== Sys2Proof/Word.lean ====
section
/-! DEFINITION. Word.lean: the word types and the sparse table that holds keyed state.
Register words are 32 bits (18_register_access.md R409); a byte is 8 bits; counters of core cycles and of
fetch stamps are 64 bits (R419). A `Tab` is a finite map from a key to a value, kept as a list of pairs with
strictly rising keys, so that equal maps are equal lists. -/

namespace Sys2Proof

/-- One byte. -/
abbrev Byte := BitVec 8

/-- One register word (R409: every register access is a single 32-bit access). -/
abbrev Word := BitVec 32

/-- Sparse keyed state: pairs with strictly rising keys. -/
abbrev Tab (α : Type) := List (Nat × α)

end Sys2Proof
end

