-- ==== Sys2Proof/Syntax.lean ====
section
/-! DEFINITION. Syntax.lean: the commands the block takes, one constructor per row of spec/opcode_table.json.
The table gives the rows no bit encoding and no operands: the operands are those the row's rule names. Indexes of units are `Fin`,
fields software writes are bit vectors, measured quantities are numbers. -/

namespace Sys2Proof

/-- The actuators AU, AL, BU, BL, 0 to 3 (R30). -/
abbrev Act := Fin 4
/-- The channels CH0 to CH31 (R13). -/
abbrev Chan := Fin 32

/-- What NEIGHBOUR_DISCOVERY answers (R439): a neighbour solicitation or echo, or the end of duplicate address detection. -/
inductive NdKind where
  | solicitation | echo | dadOk (static : Bool) | dadDuplicate (static : Bool)
  deriving DecidableEq, Repr

/-- The participants of the power entry handshake (R478). -/
inductive Participant where
  | scheduler | parity | channels | churn | capture | metadataCache | dma | mce | vcm | spindle
  | portA | portB | zalene | powerController | serviceCores | recorder
  deriving DecidableEq, Repr

/-- What a participant answers (R478): DELAY means it will ACK within its bound; REFUSE carries its reason. -/
inductive Answer where
  | ack | delay | refuse (reason : BitVec 8)
  deriving DecidableEq, Repr

/-- One health sample (R502): indicator k and its value x in millionths of its unit; `events` is the count of the window
of a COUNT indicator. -/
structure Sample where
  k : BitVec 8
  x : Int
  deriving DecidableEq, Repr

/-- Who writes the download buffer (R516): NVMe Firmware Download of a port, or a dictionary source of R431. -/
inductive FwSource where
  | nvme (port : Fin 2) | od (src : Fin 16)
  deriving DecidableEq, Repr

/-- What the checks of R512 read from a firmware image (R510); the signature's verdict comes from the security engine (log 8). -/
structure ImageInfo where
  readError : Bool
  magicOk : Bool
  version : BitVec 16
  keyId : BitVec 8
  lengthOk : Bool
  svn : BitVec 32
  sigOk : Bool
  hash : BitVec 256
  deriving DecidableEq, Repr

/-- One record of a format image (R518). -/
structure FmtRecord where
  ix : BitVec 16
  sub : BitVec 8
  value : List Byte
  deriving DecidableEq, Repr


/-- What an I3C private read of an identity memory ends with (R48): its bytes, a NACK, or a transfer error. -/
inductive I3cResult where
  | data (bytes : List Byte) | nack | error
  deriving DecidableEq, Repr

/-- What an adaptation interval measured (R113, R123): the mean of |x| in 1/8 code, the mean of x in 1/8 LSB, positive less negative peak in
0.25 %, the accumulated phase gradient, or the error in 1/256 code and the sample of one tap. -/
inductive Adapt where
  | gain (mean8 : Nat) | offset (mean8 : Int) | asymmetry (diff : Int) | phase (grad : Int) | tap (t : Fin 15) (e256 x : Int)
  deriving DecidableEq, Repr

/-- How a calibration phase ended (R131, R132). -/
inductive CalResult where
  | done | lowYield | verify | link
  deriving DecidableEq, Repr

/-- How a rebuild ends (R187, R188): REBUILT, REBUILT_CORRECTED with the positions of wrong content, UNRECOVERABLE. -/
inductive RebuildResult where
  | rebuilt | corrected (wrong : List Nat) | unrecoverable
  deriving DecidableEq, Repr

/-- The live loop cells LC0 to LC41 (R214). -/
abbrev Cell := Fin 42

/-- What a TRU decodes of a clock-surface frame (R57, R63, R74): whether the frame mark is within 4 CSB of its place, the 16 index bits (none for a
half-cell pair 0b00 or 0b11), the 22 Gray bits of the cylinder ID with the positions of such pairs in it, the rms phase error in 1/1,000 CSB, the
carrier amplitude and gain in the codes of TRU_AMP, the burst amplitudes and the carrier amplitude in one unit. -/
structure Frame where
  mark : Bool
  index : Option (BitVec 16)
  gray : BitVec 22
  bad : List (Fin 22)
  rms : Nat
  amp : BitVec 8
  agc : BitVec 8
  a : Nat
  b : Nat
  c : Nat
  d : Nat
  carrier : Nat
  deriving DecidableEq, Repr

/-- What a channel reads of a wedge (R70, R92, R249): the sync mark's error in 1/64 coded bit (none where it is not in its window), the 14 ID bits
(none for a bad pair), the low Gray bits with the positions of bad pairs, the signed bursts and the preamble amplitude. -/
structure Wedge where
  sync : Option Int
  id : Option (BitVec 14)
  gray : BitVec 10
  bad : List (Fin 10)
  n : Int
  q : Int
  amp : Nat
  deriving DecidableEq, Repr


/-- Who reads or writes the buffer (R300): a DMA channel 16 e + c, the fetch of a participant (R382), a completion ring or queue's write, a metadata cache port, the
stripe parity engine on a stripe, the write channel of a channel reading a member, the capture and replay unit, MCE shadow replay, a service core. -/
inductive BufReq where
  | dma (id : Fin 64) | ring (n : BitVec 21) | comp (c : BitVec 19) | cache (port : Fin 4) | parity (stripe : BitVec 32) | channel (n : Chan)
  | replay | shadow | core (k : Fin 4)
  deriving DecidableEq, Repr

/-- What the arrays of the metadata cache answer (R328): clean, a corrected data error, an uncorrectable data error, a tag parity error. -/
inductive McFault where
  | clean | corrected | data | tag
  deriving DecidableEq, Repr

/-- How a PCIe read ends (R338): its bytes, or UR 0x02, CA 0x03, completion timeout 0x04, poisoned 0x05. -/
inductive CplAns where
  | data (bytes : List Byte) | ur | ca | timeout | poisoned
  deriving DecidableEq, Repr

/-- How an ATS Translation Request ends (R344, R345): translated address, R, W and the size as log2 of pages; or UR, CA, timeout. -/
inductive AtsAns where
  | grant (addr : BitVec 64) (r w : Bool) (size : Fin 19) | error
  deriving DecidableEq, Repr

/-- A PRG Response (R346). -/
inductive PrgCode where
  | success | invalid | failure
  deriving DecidableEq, Repr

/-- How the read of a ring or queue entry ends (R381, R386, R389): its bytes, a translation answered PENDING or FAULT, or a completion UR, CA, timeout,
poisoned. -/
inductive FetchAns where
  | entry (bytes : List Byte) | pending | fault | ur | ca | timeout | poisoned
  deriving DecidableEq, Repr

/-- How the DTU answers a host write of the ring engine (R389). -/
inductive WrAns where
  | ok | pending | fault
  deriving DecidableEq, Repr

/-- A PCIe configuration request (R343, R346, R353): a read of a register, or a write of ATS Enable, PRI Enable, PASID Enable, the outstanding page request
allocation, Max_Payload_Size or Max_Read_Request_Size in bytes, or of anything else. -/
inductive CfgReq where
  | read (off : BitVec 12) | ats (v : Bool) | pri (v : Bool) | pasid (v : Bool) | alloc (n : BitVec 32) | mps (n : Nat) | mrrs (n : Nat)
  | other (off : BitVec 12) (v : Word)
  deriving DecidableEq, Repr

/-- The commands (rows of the opcode table), each with the operands its rule names. -/
inductive Instr where
  /-- SLOT_MAP (R36). The PA12 link controller sends the acknowledged SLOT_MAP command, which connects a data head, or none, to a slot. -/
  | slotMap (a : Act) (slot : Fin 8) (head : BitVec 4)
  /-- SLOT_MODE (R36). The PA12 link controller sends the acknowledged SLOT_MODE command, which sets a slot to OFF, READ or WRITE_ARM. -/
  | slotMode (a : Act) (slot : Fin 8) (mode : BitVec 8)
  /-- READ_BIAS (R36). The link controller sends READ_BIAS, which sets the bias of one reader of a head. -/
  | readBias (a : Act) (head : BitVec 8) (reader : BitVec 8) (code : BitVec 8)
  /-- WRITE_CURRENT (R36). The link controller sends WRITE_CURRENT, which sets a head's write current and overshoot. -/
  | writeCurrent (a : Act) (head : BitVec 8) (code : BitVec 6) (amp : BitVec 4) (dur : BitVec 4)
  /-- HEATER (R36). The link controller sends HEATER, which sets a head's read or write heater power. -/
  | heater (a : Act) (head : BitVec 8) (sel : BitVec 8) (power : BitVec 10)
  /-- MA_DRIVE (R39). The link controller sends a posted MA_DRIVE frame carrying the milliactuator drive codes of up to 8 slots. -/
  | maDrive (a : Act) (entries : List (Fin 8 × BitVec 16))
  /-- STATUS_READ (R36). The link controller sends STATUS_READ and receives the PA12 temperature, fault flags and downstream CRC count. -/
  | statusRead (a : Act)
  /-- LINK_RESET (R36). The link controller sends LINK_RESET, which sets every slot to OFF, unmaps every head and zeroes every heater. -/
  | linkReset (a : Act)
  /-- ECHO (R36). The link controller sends ECHO, and the PA12 returns the same 8 bytes. -/
  | echo (a : Act) (bytes : BitVec 64)
  /-- PA12_RESPONSE (R37). A response frame arrives on the upstream lane; it is checked against the outstanding command, or it is discarded on a CRC or code error. -/
  | pa12Response (a : Act) (frame : List Byte) (bad : Bool)
  /-- PA12_RETRY_TIMEOUT (R38). No valid response has arrived 2.0 µs after an acknowledged command, so the command is retried; once MAX_RETRY is exhausted, the link is lost. -/
  | pa12RetryTimeout (a : Act)
  /-- HELD_SLOT_REQUEST_SEND (R33). A SLOT_MAP or SLOT_MODE request that was held because a gate was open is sent within 2 µs of the gate closing. -/
  | heldSlotRequestSend (a : Act)
  /-- PA12_LINK_ARBITRATE (R41). The downstream lane becomes free, and the next frame is granted by fixed priority among the MCE, the sequencers and the service cores. -/
  | pa12LinkArbitrate (a : Act)
  /-- DN_CRC (R39). The PA12 reports a discarded downstream frame; it counts as a C1, and more than 2 in one wedge period is a C2 on the servo. -/
  | dnCrc (a : Act)
  /-- WRITER_OPEN (R40). The PA12 reports an open writer; the head's write gate closes and the head is retired for writing (C2). -/
  | writerOpen (a : Act) (head : Fin 11)
  /-- WRITER_SHORT (R40). The PA12 reports a shorted writer, which is handled as WRITER_OPEN. -/
  | writerShort (a : Act) (head : Fin 11)
  /-- READER_FAULT (R127). The PA12 reports a reader bias fault; the reader is excluded from equalisation from the next field. -/
  | readerFault (a : Act) (head : Fin 11) (reader : Fin 3)
  /-- HEATER_FAULT (R40). The PA12 reports an open or shorted heater, and the head is retired (C2). -/
  | heaterFault (a : Act) (head : Fin 11)
  /-- MA_OVERCURRENT (R254). The PA12 reports a clamped milliactuator drive; OFFTRACK is set on the head (C1). -/
  | maOvercurrent (a : Act) (head : Fin 11)
  /-- OVERTEMP (R40). The PA12 reports a temperature above 140 °C, and all writes of the half-stack are inhibited until it falls below 130 °C (C2). -/
  | overtemp (a : Act) (celsius : Int)
  /-- PL_ENABLE (R43). A write of PL_CTRL.ENABLE enables the link and starts training at step 1. -/
  | plEnable (a : Act) (v : Bool)
  /-- PL_RETRAIN (R43). A write of PL_CTRL.RETRAIN restarts training at step 1. -/
  | plRetrain (a : Act)
  /-- LINK_TRAINING_STEP_DONE (R43). A training phase ends (symbol lock, 16 echoes checked, LINK_RESET sent), which advances the training or declares STATE = UP. -/
  | linkTrainingStepDone (a : Act)
  /-- LINK_TRAINING_TIMEOUT (R43). A training step exceeds its bound, so training repeats from step 1, up to 3 times, and then reads FAILED. -/
  | linkTrainingTimeout (a : Act)
  /-- LINK_RETRAIN_TIMER (R45). The 1 s timer after a link loss expires, and retraining is attempted. -/
  | linkRetrainTimer (a : Act)
  /-- IDENTITY_READ_START (R48). Identity reading starts on IDA and IDB in parallel: addresses are assigned and private reads are issued for each role. -/
  | identityReadStart
  /-- IDENTITY_TRANSFER_DONE (R48). An I3C private read of an identity memory completes or is NACKed; a NACK is retried up to 3 times. -/
  | identityTransferDone (role : Fin 12) (result : I3cResult)
  /-- IDENTITY_TRANSFER_TIMEOUT (R48). An identity transfer has not completed within 1 ms, and it is retried or the role is refused. -/
  | identityTransferTimeout (role : Fin 12)
  /-- MODULE_ADMISSION (R52). A role's record set is read whole, and its checks and signature decide ADMITTED or REFUSED. -/
  | moduleAdmission (role : Fin 12) (sigOk : Bool)
  /-- MOD_REREAD (R55). A write of MOD_ADMIT.REREAD requests a re-read of one role, which is refused with BUSY while the role's modules are in use. -/
  | modReread (role : Fin 12)
  /-- TRU_ENABLE_WRITE (R62). A write of TRU_CTRL.ENABLE or of HOLD is made; HOLD = 1 forces loss with cause FORCED. -/
  | truEnableWrite (a : Act) (enable : Bool) (hold : Bool)
  /-- TRU_ACQ_START (R62). The TRU leaves OFF for FREQ_ACQ once it is enabled, the clock head flies and the spindle is within 1 % of its target speed. -/
  | truAcqStart (a : Act)
  /-- TRU_FREQ_ACQUIRED (R64). The oscillator is within ±200 ppm of the carrier, and the TRU enters PHASE_ACQ. -/
  | truFreqAcquired (a : Act)
  /-- TRU_PHASE_ACQUIRED (R64). The phase error is below 0.125 CSB rms, and the TRU enters FRAME_SYNC. -/
  | truPhaseAcquired (a : Act)
  /-- TRU_FRAME (R63). A clock-surface frame is decoded; this checks for lock, sends the INDEX and wedge events and the position sample, and judges the FRAME loss criterion. -/
  | truFrame (a : Act) (f : Frame)
  /-- TRU_LOSS_PHASE (R65). 32 consecutive phase samples above 0.5 CSB declare loss of lock with cause PHASE. -/
  | truLossPhase (a : Act)
  /-- TRU_LOSS_AMPLITUDE (R65). The carrier amplitude has been outside its window for 256 CSB, which declares loss of lock with cause AMPLITUDE. -/
  | truLossAmplitude (a : Act)
  /-- RELOCK_LIMIT_EXPIRY (R77). RELOCK_LIMIT elapses without LOCKED, so the TRU goes to FAILED and the actuator parks. -/
  | relockLimitExpiry (a : Act)
  /-- TRU_REACQ (R82). A write of TRU_CTRL.REACQ restarts acquisition at FREQ_ACQ. -/
  | truReacq (a : Act)
  /-- CLOCK_HEAD_FAIL_TIMEOUT (R81). The clock head has given no carrier for 1 s after load, so it is declared failed and the actuator retired (C2). -/
  | clockHeadFailTimeout (a : Act)
  /-- SYNTH_SLEW_DONE (R68). A slot synthesiser settles at its new frequency, and SLEW clears. -/
  | synthSlewDone (n : Chan)
  /-- WEDGE_READ (R70). A wedge is read by an active head: its sync position updates the head's trim, its position sample is formed and outliers are counted. -/
  | wedgeRead (n : Chan) (w : Wedge)
  /-- HT_TRIM_WRITE (R73). A software write to HT_PHASE or HT_RRO lands whole, and an adaptation step due in the same cycle is discarded. -/
  | htTrimWrite (a : Act) (head : Fin 11) (rro : Bool) (v : Word)
  /-- SLOT_ALLOCATE (R119). At field offset −8 of a read field, the channel takes the lowest FREE slot record, or reports an overrun. -/
  | slotAllocate (n : Chan)
  /-- FIELD_READ_END (R119). A read field ends at offset 36,999, and its slot record becomes HELD. -/
  | fieldReadEnd (n : Chan) (mets : List (BitVec 6)) (readers : BitVec 3)
  /-- ADAPT_UPDATE (R113). An adaptation interval expires, and the gain, offset, asymmetry, phase or equaliser taps take one step. -/
  | adaptUpdate (n : Chan) (r : Fin 3) (m : Adapt)
  /-- TA_DETECT (R128). A thermal asperity is detected on a reader, and its span is equalised without that reader or erased. -/
  | taDetect (n : Chan) (readers : BitVec 3) (start : BitVec 32) (stop : BitVec 32)
  /-- FE_REG_WRITE (R129). A software write to a front-end or equaliser field applies at once, or is staged to the next field offset −8. -/
  | feRegWrite (n : Chan) (off : BitVec 11) (v : Word)
  /-- REEQ_REQUEST (R124). The Churn requests a re-equalisation of a HELD slot on port 1; a fourth request is refused back. -/
  | reeqRequest (n : Chan) (slot : Fin 4) (pos : Int) (profile : BitVec 3)
  /-- REEQ_DONE (R124). A re-equalisation on port 1 completes, and its values go to the granted lane. -/
  | reeqDone (n : Chan)
  /-- CAL_START (R131). A write of CAL_CTRL.START begins calibration of the named head. -/
  | calStart (n : Chan)
  /-- CAL_ABORT (R132). A write of CAL_CTRL.ABORT ends calibration with reason ABORTED. -/
  | calAbort (n : Chan)
  /-- CAL_PHASE_DONE (R131). A calibration phase reaches its sector count or fails LOW_YIELD, which advances the calibration or ends it. -/
  | calPhaseDone (n : Chan) (res : CalResult) (read : Nat) (vals : List (Nat × Nat)) (snr : BitVec 24)
  /-- LANE_REQUEST (R146). A channel requests a lane for a live sector, a retry step or a gang join. -/
  | laneRequest (n : Fin 33) (slot : Fin 4) (retry : Bool)
  /-- LANE_ALLOCATE (R147). In each Churn cycle a half's allocator grants at most one live, one retry and one gang request. -/
  | laneAllocate (half : Fin 2)
  /-- DECODE_ATTEMPT_START (R138). A decode attempt starts 64 Churn cycles after its last input value is in the buffer. -/
  | decodeAttemptStart (k : Fin 64)
  /-- SWEEP_END (R143). A global iteration ends: the syndrome is counted and the stopping rules decide convergence, non-convergence, stall or continuation. -/
  | sweepEnd (k : Fin 64) (unsat : BitVec 12) (flips : Nat) (checkerOk : Bool) (crcOk : Bool) (physOk : Bool) (tagOk : Bool)
  /-- OUTPUT_STORE_FREE (R149). An output-store entry frees, and a lane holding a converged result moves it into the store. -/
  | outputStoreFree (half : Fin 2)
  /-- RETRY_BUDGET_EXPIRY (R152). RETRY_BUDGET elapses, so the ladder ends with BUDGET after the attempt in progress. -/
  | retryBudgetExpiry (n : Chan) (slot : Fin 4)
  /-- LANE_RETIRE (R160). A write of LN_CTRL.RETIRE retires the lane after its running attempt. -/
  | laneRetire (k : Fin 64)
  /-- LANE_RESTORE (R160). A write of LN_CTRL.RESTORE runs the self-test of a retired lane. -/
  | laneRestore (k : Fin 64)
  /-- LANE_SELFTEST_DONE (R160). A lane self-test passes or fails, or times out, and the lane returns to IDLE or stays RETIRED. -/
  | laneSelftestDone (k : Fin 64) (pass : Bool)
  /-- LANE_FAULT (R159). An uncorrectable lane memory error or a checker fault stops the lane, returns its sectors and retires it. -/
  | laneFault (k : Fin 64) (checker : Bool)
  /-- CELL_FAULT (R158). A cell parity fault retires the cell, the partner cell takes over and the lane is degraded; a second cell retires the lane. -/
  | cellFault (k : Fin 64) (c : Fin 16)
  /-- LANE_MEMORY_CORRECTED (R157). A correctable lane memory error is corrected and counted (C1). -/
  | laneMemoryCorrected (k : Fin 64)
  /-- CODE_TABLE_FAULT (R157). A code-table copy fails its parity and is retired; when the other copy is already gone, the MED region restarts (C3). -/
  | codeTableFault (copy : Fin 2) (k : Fin 64) (cell : Fin 16)
  /-- SECTOR_ENCODE_DONE (R163). The write channel finishes the LDPC encoding of a sector read from its Pail. -/
  | sectorEncodeDone (n : Chan)
  /-- WRITE_SETUP (R168). WRITE_CURRENT, HEATER and SLOT_MODE WRITE_ARM are sent before a slot's first write, and SETUP holds the gate closed until all return OK. -/
  | writeSetup (n : Chan)
  /-- WR_CTRL_WRITE (R170). A write of WR_CTRL sets or clears the software inhibit cause, or enables the write channel. -/
  | wrCtrlWrite (n : Chan) (v : Word)
  /-- WRITE_HOLD_EXPIRY (R172). A head has stayed inhibited longer than WRITE_HOLD, and its member writes are rerouted. -/
  | writeHoldExpiry (a : Act) (head : Fin 11)
  /-- STRIPE_UPDATE_START (R180). A stripe update is formed in the Full, Delta or Reconstruct form, and its open-stripe entry is made. -/
  | stripeUpdateStart (stripe : BitVec 32) (pool : Fin 16)
  /-- PARITY_DONE (R180). The parity engine has the stripe's parity in Pails, and the members are released to the channels. -/
  | parityDone (stripe : BitVec 32) (busError : Bool)
  /-- MEMBER_WRITTEN (R182). A member write ends; when every masked member is written without a cut, the open-stripe entry is removed. -/
  | memberWritten (n : Chan)
  /-- REBUILD_START (R187). A member with an unrecovered status, or a hole, is rebuilt from D + 1 other members. -/
  | rebuildStart (stripe : BitVec 32) (pos : Fin 32) (pool : Fin 16)
  /-- REBUILD_DONE (R188). A rebuild ends REBUILT, REBUILT_CORRECTED or UNRECOVERABLE. -/
  | rebuildDone (stripe : BitVec 32) (pos : Fin 32) (result : RebuildResult)
  /-- VERIFY_READ (R190). On the next revolution after a recovery rewrite, a verify read is made, and the sector is reassigned if it fails. -/
  | verifyRead (code : BitVec 8)
  /-- RECOVERY_REWRITE (R191). A recovered or rebuilt sector is rewritten in place under a hazard entry. -/
  | recoveryRewrite
  /-- CAPTURE_DONE (R193). The copy of a CAPTURE slot record to HBM completes, and the slot returns to FREE. -/
  | captureDone (n : Chan)
  /-- CAP_NEXT (R192). A write of CR_CTRL.CAP_NEXT captures CAP_CH's next ladder end. -/
  | capNext
  /-- REPLAY_START (R194). A write of RP_CTRL.START replays a capture record through the chosen ladder steps. -/
  | replayStart
  /-- REPLAY_ABORT (R197). A write of RP_CTRL.ABORT ends the replay after the running attempt. -/
  | replayAbort
  /-- REPLAY_STEP_DONE (R194). A replay step's attempt ends, its results are written to the record and the next step runs. -/
  | replayStepDone
  /-- MICROWORD (R198). The sequencer executes one microword in a channel cycle: its conditions, branch, timed gate operations and event clears. -/
  | microword (n : Chan)
  /-- POP (R204). CMD POP moves the FIFO head into TARGET and sets FOC. -/
  | pop (n : Chan)
  /-- ADVANCE (R204). CMD ADVANCE releases TARGET as DONE and takes the next run sector, with the gate kept open. -/
  | advance (n : Chan)
  /-- DONE (R204). CMD DONE releases TARGET, and the channel reports its outcome. -/
  | done (n : Chan)
  /-- REQUEUE (R204). CMD REQUEUE releases TARGET as NOT_BEGUN or ABORTED. -/
  | requeue (n : Chan)
  /-- MAP (R204). CMD MAP requests SLOT_MAP and SLOT_MODE for TARGET's head. -/
  | map (n : Chan)
  /-- RETARGET (R204). CMD RETARGET sets FOC to the next admissible start of the target field. -/
  | retarget (n : Chan)
  /-- CALL (R202). A CALL word pushes IMM on the return stack, and a CALL on a full stack halts the sequencer. -/
  | call (n : Chan) (imm : BitVec 12) (next : BitVec 12)
  /-- RET (R202). A RET word pops the return address, and a RET on an empty stack halts the sequencer. -/
  | ret (n : Chan)
  /-- SEQUENCER_EVENT (R205). A WEDGE, INDEX, SHOCK, ABORT or KILL event is latched at the next instruction boundary. -/
  | sequencerEvent (n : Chan) (e : Fin 5) (bit : Option Nat)
  /-- SEQUENCER_ECC_ERROR (R207). A microword SEC-DED error is corrected, or it halts the sequencer and retires the channel. -/
  | sequencerEccError (n : Chan) (uncorrectable : Bool)
  /-- TGT_WDOG_EXPIRY (R207). TARGET has been held longer than TGT_WDOG, so the gates close, TARGET is requeued and execution restarts at ENTRY. -/
  | tgtWdogExpiry (n : Chan)
  /-- STAGE_LOAD (R211). STAGE_CMD LOAD checks the staged microcode image and copies it into the standby banks of the masked channels. -/
  | stageLoad (sigOk : Bool)
  /-- STAGE_SWAP (R211). STAGE_CMD SWAP sets SWAP_PEND in each masked channel. -/
  | stageSwap
  /-- STAGE_LOAD_SWAP (R208). STAGE_CMD LOAD then SWAP loads the staged image and requests a swap. -/
  | stageLoadSwap (sigOk : Bool)
  /-- SWAP_TAKE (R211). At the first swap point with SWAP_PEND set, the banks exchange and execution starts at ENTRY. -/
  | swapTake (n : Chan)
  /-- SWAP_LIMIT_EXPIRY (R211). SWAP_LIMIT elapses without a swap point, so SWAP_PEND clears with reason TIMEOUT. -/
  | swapLimitExpiry (n : Chan)
  /-- SQ_RUN (R212). A write of SQ_CTRL.RUN starts execution at ENTRY, or stops it at the next boundary. -/
  | sqRun (n : Chan) (v : Bool)
  /-- SQ_SWAP (R212). A write of SQ_CTRL.SWAP requests a swap on this channel. -/
  | sqSwap (n : Chan)
  /-- SQ_RESTART (R212). A write of SQ_CTRL.RESTART closes the gates, requeues TARGET, clears the stack and restarts at ENTRY. -/
  | sqRestart (n : Chan)
  /-- CELL_TRIGGER (R217). A loop cell's trigger arrives, and the cell becomes ready or replaces its pending input (overrun). -/
  | cellTrigger (n : Cell) (y : Word) (valid : Bool)
  /-- EVAL_COMPLETE (R221). A loop-cell evaluation completes; its output is delivered and saturation and residual supervision are applied. -/
  | evalComplete (n : Cell)
  /-- DEADLINE_MISS (R217). An evaluation's deadline passes before it has completed; the miss is counted (C1), and 4 misses in 100 evaluations are a C3. -/
  | deadlineMiss (n : Cell)
  /-- GAIN_SET_REQUEST (R226). A cell's owner requests a gain set, and it is taken by the next evaluation start with bumpless transfer. -/
  | gainSetRequest (n : Cell) (g : Fin 4)
  /-- PG_TARGET (R230). A profile target is given to a channel and is planned at once, or queued. -/
  | pgTarget (c : Fin 5) (target : Int)
  /-- PG_PERIOD (R229). A profile period elapses and the channel's x, v and a are updated; the profile ends after its last period. -/
  | pgPeriod (c : Fin 5)
  /-- PG_STOP (R230). A write of PG_CTRL.STOP ends a channel's profile at the next period. -/
  | pgStop (c : Fin 5)
  /-- MC_PEAK_CLR (R243). A write of MC_CTRL.PEAK_CLR clears MC_LOAD.PEAK. -/
  | mcPeakClr (lane : Fin 4)
  /-- REC_START (R240). REC_CMD START begins recording of the selected cells. -/
  | recStart
  /-- REC_STOP (R240). REC_CMD STOP stops the motion recording. -/
  | recStop
  /-- REC_CLEAR (R240). REC_CMD CLEAR clears the motion recording. -/
  | recClear
  /-- REPLAY_CMD_START (R242). REPLAY_CMD 1 starts the shadow replay from REPLAY_FROM. -/
  | replayCmdStart
  /-- REPLAY_CMD_STOP (R240). REPLAY_CMD 2 stops the shadow replay. -/
  | replayCmdStop
  /-- SHADOW_EVAL (R241). A shadow cell is evaluated in an idle lane cycle and compared with its source's output. -/
  | shadowEval (n : Fin 16)
  /-- SEEK_REQUEST (R250). A seek request plans the anchor and head displacements and starts the seek steps. -/
  | seekRequest (a : Act) (cyl : BitVec 20) (mask : BitVec 11) (writes : BitVec 11)
  /-- VCM_SAMPLE (R248). A clock-surface sample reaches the VCM cell, which forms its position estimate and judges settle and PRED_RUN. -/
  | vcmSample (a : Act) (duty : Nat) (current : Int)
  /-- SETTLE_TIMEOUT (R251). No FOLLOW is reached within the profile duration plus SETTLE_LIMIT, so the seek is repeated or the actuator parks. -/
  | settleTimeout (a : Act)
  /-- HEAD_JOG (R252). A slot remap or a change of J moves one head within its reach, or becomes a new seek. -/
  | headJog (a : Act) (head : Fin 11) (write : Bool)
  /-- SHOCK_QUALIFY (R255). A shock axis is qualified active, so SHOCK inhibits writes on every channel within 400 ns. -/
  | shockQualify (axis : Fin 3)
  /-- SK_HOLD_EXPIRY (R255). Every axis has been inactive for SK_HOLD, and SHOCK clears. -/
  | skHoldExpiry
  /-- VC_LOAD (R257). VC_CTRL.LOAD, or the start-up sequence, loads an unloaded actuator. -/
  | vcLoad (a : Act)
  /-- LOAD_STEP_DONE (R257). A load step's condition is met (carrier seen, velocity low, TRU locked), which advances the load. -/
  | loadStepDone (a : Act)
  /-- LOAD_STEP_TIMEOUT (R257). Load step 2 or 3 exceeds its bound; the actuator unloads and retries once, then is retired. -/
  | loadStepTimeout (a : Act)
  /-- VC_UNLOAD (R258). VC_CTRL.UNLOAD, a power entry or a fault reaction parks the actuator. -/
  | vcUnload (a : Act)
  /-- PARK_LATCHED (R258). The ramp velocity is low with the current above LATCH_I for 1 ms, so the actuator is latched UNLOADED. -/
  | parkLatched (a : Act)
  /-- PARK_LIMIT_EXPIRY (R258). PARK_LIMIT elapses before the latch, and an emergency retract is triggered (C1). -/
  | parkLimitExpiry (a : Act)
  /-- VC_RETRACT (R259). VC_CTRL.RETRACT, or another trigger, starts the emergency retract sequence. -/
  | vcRetract (a : Act)
  /-- RET_T1_EXPIRY (R259). RET_T1 elapses, and the latch pulse is applied. -/
  | retT1Expiry (a : Act)
  /-- RET_T2_EXPIRY (R259). RET_T2 elapses; the bridge is disabled and STATE becomes UNLOADED. -/
  | retT2Expiry (a : Act) (fast : Bool)
  /-- COIL_CURRENT_FAULT (R260). The coil current has differed from the demand by more than 10 % of VCM_IMAX for 10 µs, so the actuator retracts and is retired. -/
  | coilCurrentFault (a : Act)
  /-- VC_TARGET_WRITE (R262). A write of VC_TARGET in Test mode requests a seek of all mapped heads for read. -/
  | vcTargetWrite (a : Act) (cyl : BitVec 20)
  /-- SP_START (R271). SP_CTRL.START starts the spindle from STOPPED or COAST. -/
  | spStart
  /-- SP_STOP (R279). SP_CTRL.STOP parks the actuators, then brakes the spindle to STOPPED. -/
  | spStop
  /-- SP_COAST (R286). SP_CTRL.COAST turns the gates off into COAST, and is refused while an actuator is loaded. -/
  | spCoast
  /-- SP_RESET (R286). SP_CTRL.RESET clears the latched spindle faults from FAILED or DISABLED. -/
  | spReset (turning : Bool)
  /-- CURRENT_TICK (R264). A 40 kHz PWM period ends: the currents are sampled, the observer updated, the current cells triggered and overcurrent checked. -/
  | currentTick (iu : Int) (iv : Int) (vbus : BitVec 16)
  /-- SPEED_TICK (R274). A 1 ms speed tick triggers the speed group, updates the winding temperature and checks the fly speed. -/
  | speedTick (current : Nat) (power : Int) (ambient : Int) (csb : List Nat)
  /-- HOLD_PERIOD_SAMPLE (R277). In HOLD, each electrical period's floated-phase crossing gives a phase-error sample, and three agreeing samples restore the mode. -/
  | holdPeriodSample (x : Int)
  /-- HOLD_TIMEOUT (R277). 12 electrical periods pass in HOLD without recovery, so every actuator retracts and the spindle coasts (C3). -/
  | holdTimeout
  /-- DETECT_TIMEOUT (R271). 50 ms of DETECT pass without a crossing, and offset calibration begins. -/
  | detectTimeout
  /-- OFFSET_CAL_DONE (R265). The residual current offset measurement completes, or refuses the start with SENSE_OFFSET. -/
  | offsetCalDone (u : Int) (v : Int)
  /-- TEST_PULSE_DONE (R271). A rotor-angle test pulse ends and its current peak is measured; after 12 pulses the angle is chosen or the pulses are repeated. -/
  | testPulseDone (peak : Nat)
  /-- START_ATTEMPT_TIMEOUT (R271). Start step 8 exceeds its bound, and the attempt fails. -/
  | startAttemptTimeout
  /-- START_RESTART_DELAY (R271). The 500 ms gates-off delay after a failed start attempt ends, and the start restarts, or the spindle is FAILED after 3 attempts. -/
  | startRestartDelay
  /-- BEMF_CROSSING (R266). A back-EMF zero crossing is time-stamped, which serves DETECT, CATCH and braking. -/
  | bemfCrossing (interval : Nat) (angle : BitVec 16) (amplitude : Nat)
  /-- CROSSING_TIMEOUT (R279). 200 ms pass without a crossing; standstill is declared for CATCH, or for ZV_BRAKE to STOPPED. -/
  | crossingTimeout
  /-- OV1_CROSS (R280). V_BUS crosses OV1 or OV1 − OV1_HYST, and BRAKE is asserted or released. -/
  | ov1Cross (above : Bool)
  /-- CHOPPER_FAULT (R280). BRAKE has been held 200 µs with V_BUS still above OV1, so the chopper is declared faulty (C3). -/
  | chopperFault
  /-- OV2_TRIP (R281). V_BUS reaches OV2; all gates go off and the mode becomes DISABLED (C3). -/
  | ov2Trip
  /-- UNDERVOLT_TIMEOUT (R283). V_BUS has been below UV for 100 µs; PFAIL inhibit is set, a retract triggered and the spindle generates. -/
  | undervoltTimeout
  /-- HBM_TEMP_SAMPLE (R290). The 1 ms stack temperature reading sets the refresh multiplier, or raises a C4 after 10 readings above 125 °C. -/
  | hbmTempSample (t : Int)
  /-- REFRESH_DUE (R291). A bank's refresh falls due, and it is issued or postponed within the 8-interval arrears limit. -/
  | refreshDue (p : Fin 16) (bank : BitVec 8) (busy : Bool)
  /-- HBM_RETRACK (R292). TRACK_PERIOD elapses and the next PC is re-tracked; a failure is retried 3 times, then it is a C4. -/
  | hbmRetrack (ok : Bool)
  /-- HBM_TRAINING_DONE (R292). HBM PHY training ends; a failed PC is retired, or more than one failure is a C4. -/
  | hbmTrainingDone (failed : BitVec 16)
  /-- BUFFER_ZERO_FILL_DONE (R554). The zero fill of every row with valid check bits and parity completes. -/
  | bufferZeroFillDone
  /-- HBM_READ (R294). A buffer read is decoded by the light code: clean, corrected, or handed to the strong decode. -/
  | hbmRead (req : BufReq) (addr : Nat) (len : Nat) (upset : List (Nat × BitVec 72))
  /-- HBM_WRITE (R295). A buffer write is stored; narrow words take a read-modify-write, and the page parity is updated. -/
  | hbmWrite (req : BufReq) (addr : Nat) (bytes : List Byte) (upset : List (Nat × BitVec 72))
  /-- STRONG_DECODE (R297). A page is decoded by the RS interleaves with erasures; it is corrected and written back, or poisoned. -/
  | strongDecode (page : BitVec 23) (word : BitVec 8)
  /-- PARITY_ENTRY_WRITE (R298). A parity update-buffer entry is written to the page-parity region within 20 µs of its first merge. -/
  | parityEntryWrite (page : BitVec 23)
  /-- HBM_FLIP_ARM (R301). A write of HBM_FLIP_CTRL.ARM arms the flip mask for the next write to the chosen PC and page. -/
  | hbmFlipArm
  /-- SKIM_PAGE (R302). The Skimmer checks a page with both codes at DC4, restarting it on a requester write. -/
  | skimPage (p : Fin 16) (rewritten : Bool) (upset : List (Nat × BitVec 72))
  /-- SKIM_LAP_END (R303). A Skimmer lap ends, and its duration and count are recorded. -/
  | skimLapEnd (ms : BitVec 32)
  /-- SKIM_LAP_OVERDUE (R303). A lap exceeds SKIM_LAP_LIM, which raises the C0 event LAP_OVERDUE. -/
  | skimLapOverdue
  /-- SKIM_RESTART (R309). A write of SKIM_CTRL.RESTART abandons the lap, clears SKIM_LAP_MAX and starts a new lap. -/
  | skimRestart
  /-- SKIM_ENABLE (R303). A write of SKIM_CTRL.EN abandons the lap when cleared, or starts a new lap when set. -/
  | skimEnable (v : Bool)
  /-- CE_RATE_WINDOW (R304). A one-second window of corrected-word counts ends; 10 windows above CE_LIM in a row retire the PC. -/
  | ceRateWindow (p : Fin 16)
  /-- PC_RETIRE (R306). A PC is retired: its intake is held, its queue drained and relocation begun (C2), or a second retirement is a C4. -/
  | pcRetire (p : Fin 16)
  /-- HBM_PC_RETIRE (R304). A write of HBM_PC_CTRL.RETIRE retires the PC with cause SOFTWARE. -/
  | hbmPcRetire (p : Fin 16)
  /-- PC_QUEUE_DRAINED (R306). The retiring PC's issued requests complete, and intake resumes under the split rule. -/
  | pcQueueDrained (p : Fin 16)
  /-- RELOC_ROW (R306). One row of the retiring PC is copied to its target and the pointer advances; the last row makes the PC RETIRED. -/
  | relocRow (p : Fin 16)
  /-- PAIL_REQUEST (R317). A requester asks a pool for a Pail, and is answered GRANTED, EMPTY or NO_POOL. -/
  | pailRequest (pool : Fin 16) (rids : List (Fin 39))
  /-- PAIL_RELEASE (R315). A release names a Pail pointer, which is checked and freed or refused. -/
  | pailRelease (pool : Fin 16) (rid : Fin 39) (ptr : BitVec 64)
  /-- PAIL_DRAW (R555). A reserved Pail is drawn from the pool as the command's transfer needs it. -/
  | pailDraw (stamp : BitVec 64)
  /-- PAIL_REREQUEST (R318). One sector time after an EMPTY answer, the channel re-requests its Pail. -/
  | pailRerequest (n : Chan)
  /-- PAIL_WAIT_EXPIRY (R318). PAIL_WAIT elapses without a grant; the output-store entry is dropped and the sector is read again later. -/
  | pailWaitExpiry (n : Chan)
  /-- PAIL_MIN_CLR (R320). A write of PAIL_CTRL.MIN_CLR sets MIN_FREE to FREE. -/
  | pailMinClr (p : Fin 16)
  /-- MC_ACCESS (R322). A read or write to the cache window is looked up; it hits, issues a fill, or merges a write. -/
  | mcAccess (port : Fin 4) (addr : BitVec 34) (wr : Option (List Byte)) (len : Nat) (fault : McFault)
  /-- MC_FILL_DONE (R323). A line fill returns and is installed, or returns a bus error to its waiters. -/
  | mcFillDone (line : BitVec 27)
  /-- MERGE_DRAIN (R323). A merging-buffer entry reaches MERGE_AGE, or the buffer is at 24 entries, and the entry drains to HBM. -/
  | mergeDrain
  /-- MC_ENABLE_WRITE (R325). A write of MC_CTRL.EN enables the cache, or starts drain and invalidation. -/
  | mcEnableWrite (v : Bool)
  /-- MC_STATE_DONE (R325). INIT, drain or invalidation completes, and the cache state advances. -/
  | mcStateDone
  /-- MC_INV_GO (R327). A write of MC_INV_CTRL.GO starts a range invalidation walk. -/
  | mcInvGo
  /-- MC_INV_DONE (R327). A range invalidation walk ends, and INV_BUSY clears. -/
  | mcInvDone
  /-- MC_LOCK_EN (R326). A write of MC_LOCKk_BASE.EN locks way k to its range, refuses the lock, or unlocks the way. -/
  | mcLockEn (k : Fin 4) (v : Bool)
  /-- MC_PRELOAD (R326). A write of MC_LOCKk_SIZE.PRELOAD fills every line of the locked range. -/
  | mcPreload (k : Fin 4)
  /-- CH_DQ_DOORBELL (R331). The owner writes CH_DQ_TAIL, and the channel may enter the run list. -/
  | chDqDoorbell (e : Fin 4) (c : Fin 16) (v : Word)
  /-- CH_CQ_HEAD_WRITE (R335). The owner writes CH_CQ_HEAD, which frees completion slots and releases a WAIT_CQ channel. -/
  | chCqHeadWrite (e : Fin 4) (c : Fin 16) (v : Word)
  /-- CH_ENABLE (R342). A write of CH_CFG.EN enables a channel, disables it with an abort, or retries a failed record. -/
  | chEnable (e : Fin 4) (c : Fin 16) (v : Bool)
  /-- DESC_START (R335). The engine takes the head of its run list, reserves a completion slot and checks the descriptor header. -/
  | descStart (e : Fin 4)
  /-- BURST_ISSUE (R336). A translated burst of a descriptor is issued to its port. -/
  | burstIssue (e : Fin 4)
  /-- BURST_COMPLETE (R339). A burst's data lands or returns an error, and a bus error marks the descriptor bad. -/
  | burstComplete (e : Fin 4) (c : Fin 16) (pos : BitVec 32) (ans : CplAns)
  /-- RECORD_WRITE (R339). Once the descriptor's data has landed, its completion record is written and the interrupt raised. -/
  | recordWrite (e : Fin 4) (c : Fin 16) (fails : Bool)
  /-- DE_ABORT_GO (R341). A write of DE_ABORT.GO aborts a descriptor of channels 14 or 15. -/
  | deAbortGo (e : Fin 4)
  /-- INTERNAL_DESC_ABORT (R341). The scheduler or the object service aborts descriptors of channels 0 to 13 through the internal path. -/
  | internalDescAbort (ds : List (Fin 64 × BitVec 12))
  /-- DE_ENABLE_WRITE (R350). A write of DE_CTRL.EN stops the engine after the running descriptor, or restarts it. -/
  | deEnableWrite (e : Fin 4) (v : Bool)
  /-- ATS_RESPONSE (R345). An ATS translation completion arrives; it grants the access, parks the channel or gives a translation fault. -/
  | atsResponse (port : Fin 2) (pasid : Option (BitVec 20)) (page : BitVec 52) (ans : AtsAns)
  /-- ATS_INVALIDATE (R344). An ATS Invalidate Request removes ATC entries, and the completion is sent after the affected bursts. -/
  | atsInvalidate (port : Fin 2) (pasid : Option (BitVec 20)) (page : BitVec 52) (size : Fin 53)
  /-- PAGE_REQUEST_SEND (R346). A parked channel's page request is sent once a group index is free within the allocation. -/
  | pageRequestSend (port : Fin 2)
  /-- PRG_RESPONSE (R346). A PRG response arrives; Success rejoins the channels, and Invalid or Failure writes fault records. -/
  | prgResponse (port : Fin 2) (group : BitVec 9) (code : PrgCode)
  /-- PRI_TIMEOUT (R346). PRI_TIMEOUT elapses for a page request, and its channels write the PRI_TIMEOUT record. -/
  | priTimeout (port : Fin 2) (group : BitVec 9)
  /-- DMA_ENGINE_FAULT (R348). An engine state memory error is corrected, or retires the engine with a channel handover. -/
  | dmaEngineFault (e : Fin 4) (uncorrectable : Bool)
  /-- NVME_CREATE_IO_SQ (R356). The NVMe admin command Create I/O Submission Queue. -/
  | nvmeCreateIoSq (q : Fin 2) (cid : BitVec 16) (qid : BitVec 16) (size : BitVec 16) (pc : Bool) (prio : Fin 4) (cqid : BitVec 16) (base : BitVec 64) (pool : Fin 16)
  /-- NVME_DELETE_IO_SQ (R356). The NVMe admin command Delete I/O Submission Queue. -/
  | nvmeDeleteIoSq (q : Fin 2) (cid : BitVec 16) (qid : BitVec 16)
  /-- NVME_CREATE_IO_CQ (R356). The NVMe admin command Create I/O Completion Queue. -/
  | nvmeCreateIoCq (q : Fin 2) (cid : BitVec 16) (qid : BitVec 16) (size : BitVec 16) (pc : Bool) (vector : BitVec 16) (base : BitVec 64)
  /-- NVME_DELETE_IO_CQ (R356). The NVMe admin command Delete I/O Completion Queue. -/
  | nvmeDeleteIoCq (q : Fin 2) (cid : BitVec 16) (qid : BitVec 16)
  /-- GET_LOG_PAGE (R366). Get Log Page returns one of the supported log pages. -/
  | getLogPage (q : Fin 2) (cid : BitVec 16) (lid : BitVec 8) (rae : Bool) (offset : BitVec 64) (list : List (BitVec 64 × BitVec 32))
  /-- IDENTIFY (R356). Identify returns controller or namespace data for the supported CNS values. -/
  | identify (q : Fin 2) (cid : BitVec 16) (cns : BitVec 8) (nsid : BitVec 32) (list : List (BitVec 64 × BitVec 32))
  /-- NVME_ABORT (R362). The NVMe Abort command aborts a command under the commit-point rule. -/
  | nvmeAbort (q : Fin 2) (cid : BitVec 16) (sqid : BitVec 16) (target : BitVec 16)
  /-- SET_FEATURES (R356). Set Features sets one of the supported features. -/
  | setFeatures (q : Fin 2) (cid : BitVec 16) (fid : BitVec 8) (nsid : BitVec 32) (v : BitVec 32) (data : List Byte)
  /-- GET_FEATURES (R356). Get Features returns one of the supported features. -/
  | getFeatures (q : Fin 2) (cid : BitVec 16) (fid : BitVec 8) (nsid : BitVec 32) (list : List (BitVec 64 × BitVec 32))
  /-- ASYNCHRONOUS_EVENT_REQUEST (R355). An Asynchronous Event Request is queued, up to the limit of 4. -/
  | asynchronousEventRequest (q : Fin 2) (cid : BitVec 16)
  /-- FIRMWARE_DOWNLOAD (R516). Firmware Download writes one part into the shared download buffer. -/
  | firmwareDownload (q : Fin 2) (cid : BitVec 16) (offset : BitVec 32) (bytes : List Byte)
  /-- FIRMWARE_COMMIT (R516). Firmware Commit with actions 0 to 3 writes, pends or activates a firmware slot. -/
  | firmwareCommit (q : Fin 2) (cid : BitVec 16) (action : BitVec 3) (slot : BitVec 3) (im : ImageInfo)
  /-- MEDIA_PURGE (R363). The vendor MEDIA_PURGE writes format fill over every slot and clears the hole table. -/
  | mediaPurge (q : Fin 2) (cid : BitVec 16)
  /-- MEDIA_PURGE_DONE (R363). Every slot has been written by the purge, and the command completes. -/
  | mediaPurgeDone
  /-- NVME_FLUSH (R361). The NVMe Flush completes once every earlier-stamped write to its namespaces is durable. -/
  | nvmeFlush (q : Fin 2) (sq : BitVec 16) (cid : BitVec 16) (nsid : BitVec 32)
  /-- NVME_WRITE (R361). The NVMe Write is stamped, hazard-ordered and completed once installed, or once durable with FUA. -/
  | nvmeWrite (q : Fin 2) (sq : BitVec 16) (cid : BitVec 16) (nsid : BitVec 32) (lba : BitVec 64) (nlb : BitVec 16) (fua : Bool) (list : List (BitVec 64 × BitVec 32))
  /-- NVME_READ (R360). The NVMe Read is stamped and reads its sectors under hazard ordering. -/
  | nvmeRead (q : Fin 2) (sq : BitVec 16) (cid : BitVec 16) (nsid : BitVec 32) (lba : BitVec 64) (nlb : BitVec 16) (list : List (BitVec 64 × BitVec 32))
  /-- NVME_WRITE_ZEROES (R356). Write Zeroes writes zero-filled sectors through the stripe path. -/
  | nvmeWriteZeroes (q : Fin 2) (sq : BitVec 16) (cid : BitVec 16) (nsid : BitVec 32) (lba : BitVec 64) (nlb : BitVec 16) (fua : Bool)
  /-- NVME_COMPARE (R356). Compare reads its sectors at its stamp and reports Compare Failure on a mismatch. -/
  | nvmeCompare (q : Fin 2) (sq : BitVec 16) (cid : BitVec 16) (nsid : BitVec 32) (lba : BitVec 64) (nlb : BitVec 16) (mismatch : Bool) (list : List (BitVec 64 × BitVec 32))
  /-- DATASET_MANAGEMENT (R356). Dataset Management takes every attribute as a hint, and Deallocate frees nothing. -/
  | datasetManagement (q : Fin 2) (sq : BitVec 16) (cid : BitVec 16) (nsid : BitVec 32)
  /-- RESERVATION_REGISTER (R364). Reservation Register is stamped and changes the registrations in stamp order. -/
  | reservationRegister (q : Fin 2) (sq : BitVec 16) (cid : BitVec 16) (nsid : BitVec 32) (action : BitVec 3) (iekey : Bool) (cptpl : BitVec 2) (crkey : BitVec 64) (nrkey : BitVec 64)
  /-- RESERVATION_REPORT (R365). Reservation Report returns the reservation state. -/
  | reservationReport (q : Fin 2) (sq : BitVec 16) (cid : BitVec 16) (nsid : BitVec 32) (eds : Bool) (list : List (BitVec 64 × BitVec 32))
  /-- RESERVATION_ACQUIRE (R364). Reservation Acquire is stamped and acquires or preempts, aborting commands on preempt-and-abort. -/
  | reservationAcquire (q : Fin 2) (sq : BitVec 16) (cid : BitVec 16) (nsid : BitVec 32) (action : BitVec 3) (rtype : BitVec 8) (crkey : BitVec 64) (prkey : BitVec 64)
  /-- RESERVATION_RELEASE (R364). Reservation Release is stamped and releases or clears the reservation. -/
  | reservationRelease (q : Fin 2) (sq : BitVec 16) (cid : BitVec 16) (nsid : BitVec 32) (action : BitVec 3) (rtype : BitVec 8) (crkey : BitVec 64)
  /-- NVME_SQ_DOORBELL (R360). A host writes an NVMe submission-queue tail doorbell. -/
  | nvmeSqDoorbell (q : Fin 2) (sq : BitVec 16) (v : Word)
  /-- NVME_CQ_DOORBELL (R383). A host writes an NVMe completion-queue head doorbell, which returns credits. -/
  | nvmeCqDoorbell (q : Fin 2) (cq : BitVec 16) (v : Word)
  /-- CONTROLLER_RESET (R365). CC.EN := 0 resets one controller; its queued commands are aborted without a CQE. -/
  | controllerReset (q : Fin 2)
  /-- FUNCTION_LEVEL_RESET (R354). An FLR resets one port's function only. -/
  | functionLevelReset (q : Fin 2)
  /-- PORT_LINK_DOWN (R386). A port's link goes down or is reset, and its rings freeze with PORT_DOWN. -/
  | portLinkDown (q : Fin 2)
  /-- SR_DOORBELL (R377). A submission-ring tail doorbell is written, and TAIL is recorded or the ring freezes. -/
  | srDoorbell (n : BitVec 20) (v : Word) (headOwn : Bool)
  /-- CR_HEAD_DOORBELL (R378). A completion-ring head doorbell is written; credits return, the holdback drains, or the ring freezes with CQ_HEAD. -/
  | crHeadDoorbell (c : BitVec 18) (v : Word)
  /-- FETCH (R381). The ring holding the turn fetches the entry at its HEAD through the claim steps, and stamps it. -/
  | fetch (ans : FetchAns)
  /-- PREFETCH (R384). The ring engine reads entries ahead of HEAD, speculatively beyond TAIL. -/
  | prefetch (n : BitVec 20) (unit : BitVec 16) (ans : FetchAns)
  /-- ENTRY_RELEASE_WRITE (R374). A fetched entry is released by writing OWN = 0, in ring order. -/
  | entryReleaseWrite (n : BitVec 20) (ans : WrAns)
  /-- PAD (R372). A PAD entry is passed over and released without a stamp. -/
  | pad (n : BitVec 20) (len : BitVec 4)
  /-- READ (R371). A ring READ entry reads COUNT sectors to the host list. -/
  | read (n : BitVec 20) (nsid : BitVec 8) (cid : BitVec 32) (lba : BitVec 48) (count : BitVec 32) (list : List (BitVec 64 × BitVec 32))
  /-- WRITE (R371). A ring WRITE entry writes COUNT sectors from the host list. -/
  | write (n : BitVec 20) (nsid : BitVec 8) (cid : BitVec 32) (lba : BitVec 48) (count : BitVec 32) (fua : Bool) (list : List (BitVec 64 × BitVec 32))
  /-- FLUSH (R371). A ring FLUSH entry completes once the earlier writes are durable. -/
  | flush (n : BitVec 20) (nsid : BitVec 8) (cid : BitVec 32)
  /-- WRITE_ZEROES (R371). A ring WRITE_ZEROES entry writes zero-filled sectors. -/
  | writeZeroes (n : BitVec 20) (nsid : BitVec 8) (cid : BitVec 32) (lba : BitVec 48) (count : BitVec 32) (fua : Bool)
  /-- ABORT (R392). A ring ABORT entry reaches its target within 1 µs and aborts it under the commit-point rule. -/
  | abort (n : BitVec 20) (cid : BitVec 32) (ring : BitVec 20) (target : BitVec 32)
  /-- SECTOR_INSTALL (R385). A write sector's data is in its Pail and its earlier hazards are resolved, so the sector is installed. -/
  | sectorInstall (stamp : BitVec 64) (ix : BitVec 16)
  /-- COMMAND_FINISH (R383). A command finishes, and its completion entry is written to the ring or to its holdback. -/
  | commandFinish (stamp : BitVec 64) (ans : WrAns)
  /-- CR_VECTOR_SIGNAL (R379). A completion ring's MSI-X vector is signalled, at most once per microsecond. -/
  | crVectorSignal (c : BitVec 18)
  /-- SECTOR_DISPATCH (R393). The scheduler dispatches pending sector commands to the channel FIFOs in rotational order, and requests seeks. -/
  | sectorDispatch (a : Act) (at_ : BitVec 32)
  /-- RQ_CREATE (R394). RQ_CTRL.CREATE creates the selected ring from its staged fields. -/
  | rqCreate (set : Fin 2)
  /-- RQ_DELETE (R394). RQ_CTRL.DELETE drains and frees the selected ring. -/
  | rqDelete (set : Fin 2)
  /-- RQ_RESTART (R388). RQ_CTRL.RESTART restarts a frozen ring, with SKIP or without. -/
  | rqRestart (set : Fin 2) (entry : List Byte)
  /-- RQ_FREEZE (R386). RQ_CTRL.FREEZE freezes the selected ring with code SOFTWARE. -/
  | rqFreeze (set : Fin 2)
  /-- RQ_UPDATE (R394). RQ_CTRL.UPDATE applies WEIGHT, BURST and PREFETCH to an active ring at its next turn. -/
  | rqUpdate (set : Fin 2)
  /-- PUT (R403). An object PUT writes a new version of a key through the frontier and stripe updates. -/
  | put (n : BitVec 20) (cid : BitVec 32) (fua : Bool) (space : BitVec 8) (key : List Byte) (oflags : BitVec 16) (len : BitVec 32) (arg : BitVec 32) (list : List (BitVec 64 × BitVec 32))
  /-- GET (R403). An object GET reads a whole version of a key to the host. -/
  | get (n : BitVec 20) (cid : BitVec 32) (space : BitVec 8) (key : List Byte) (oflags : BitVec 16) (arg : BitVec 32) (list : List (BitVec 64 × BitVec 32))
  /-- DELETE (R403). An object DELETE clears a key's slot and frees its extents. -/
  | delete (n : BitVec 20) (cid : BitVec 32) (fua : Bool) (space : BitVec 8) (key : List Byte) (oflags : BitVec 16) (arg : BitVec 32)
  /-- LIST (R401). An object LIST returns the matching keys of up to 64 buckets. -/
  | list (n : BitVec 20) (cid : BitVec 32) (space : BitVec 8) (key : List Byte) (cursor : BitVec 32) (list : List (BitVec 64 × BitVec 32))
  /-- OBJECT_COMPACT (R404). Compaction moves the live values of the least-used full stripe to the frontier. -/
  | objectCompact (pool : Fin 16)
  /-- OBJECT_INDEX_LOAD (R405). At start-up every bucket is loaded into the image and the stripe table rebuilt. -/
  | objectIndexLoad (bad : List (BitVec 18))
  /-- BUCKET_RELOAD (R407). A bus error on the index image reloads the bucket from the media. -/
  | bucketReload (b : BitVec 18)
  /-- REGISTER_WRITE (R417). A register write with no row of its own crosses to its block and completes, or ends in a bus error. -/
  | registerWrite (q : Fin 8) (off : BitVec 24) (v : Word) (size : Nat)
  /-- REGISTER_ACCESS_TIMEOUT (R417). A block access is not complete 2 µs after it was taken, and it ends with bus error TIMEOUT. -/
  | registerAccessTimeout (q : Fin 8)
  /-- BIT_ALIAS_WRITE (R413). A write to the bit-alias window writes one control-page bit in Service mode. -/
  | bitAliasWrite (q : Fin 8) (r : Fin 5) (o : BitVec 13) (bit : Fin 32) (v : Word)
  /-- MASKED_WRITE (R414). A write to the masked-write window writes the masked bits of a control-page half. -/
  | maskedWrite (q : Fin 8) (r : Fin 5) (o : BitVec 13) (half : Fin 2) (v : Word)
  /-- MBX_GO (R420). A write of MBX_CTRL.GO moves a whole wide value to or from its owner. -/
  | mbxGo (q : Fin 8) (late : Bool)
  /-- CFG_COMMIT_GO (R424). A write of CFG_COMMIT.GO freezes the staged set and starts the CRC, range and admission checks. -/
  | cfgCommitGo (q : Fin 8)
  /-- CFG_CHECKS_DONE (R424). The commit checks end; the commit is refused, or it passes and the staged values are released at the commit point. -/
  | cfgChecksDone
  /-- CFG_MRAM_WRITTEN (R424). The committed configuration has been written to MRAM, and DONE is set. -/
  | cfgMramWritten
  /-- CFG_DISCARD (R422). A write of CFG_COMMIT.DISCARD returns the staged values to the running ones. -/
  | cfgDiscard (q : Fin 8)
  /-- OD_READ (R454). A host OD_CTRL.GO with OP READ reads a dictionary value or part. -/
  | odRead (q : Fin 8)
  /-- OD_WRITE (R454). A host OD_CTRL.GO with OP WRITE writes a dictionary value or part. -/
  | odWrite (q : Fin 8)
  /-- OD_INFO (R432). A host OD_CTRL.GO with OP INFO returns the type, class, flags and maximum length of an entry. -/
  | odInfo (q : Fin 8)
  /-- DICTIONARY_WRITE (R428). A dictionary write is applied, staged, stored or refused under its access class. -/
  | dictionaryWrite (src : Fin 16) (ix : BitVec 16) (sub : BitVec 8) (value : List Byte)
  /-- COMMIT (R434). The dictionary COMMIT entry starts a commit (GO) or a discard. -/
  | commit (src : Fin 16) (v : BitVec 8)
  /-- REGISTER_GATEWAY_DATA (R436). A read or write of the gateway DATA entry makes a register access at OFFSET. -/
  | registerGatewayData (src : Fin 16) (wr : Option Word)
  /-- ASSEMBLY_BUFFER_IDLE (R443). An assembly buffer has had no frame for 5 s and is released, which ends a write with SEGMENT. -/
  | assemblyBufferIdle (b : Fin 4)
  /-- DISCOVER (R442). A DISCOVER frame is received, and an ANNOUNCE is scheduled after the node delay. -/
  | discover
  /-- ANNOUNCE (R442). The node delay after a DISCOVER elapses, and ANNOUNCE is sent. -/
  | announce
  /-- SESSION_INIT (R446). A SESSION_INIT frame is checked and answered with SESSION_CHALLENGE. -/
  | sessionInit (key : Fin 8) (role : BitVec 8) (onCurve : Bool) (nonceC : BitVec 128)
  /-- SESSION_PROVE (R446). A SESSION_PROVE frame is verified and answered with SESSION_ACCEPT, or with AUTH. -/
  | sessionProve (session : BitVec 16) (sigOk : Bool) (macOk : Bool)
  /-- HANDSHAKE_TIMEOUT (R446). No PROVE has arrived 1 s after the challenge, and the handshake is abandoned. -/
  | handshakeTimeout (h : Fin 2)
  /-- SESSION_CLOSE (R446). A SESSION_CLOSE frame ends the session and releases its slot, buffers and events. -/
  | sessionClose (session : BitVec 16)
  /-- SESSION_IDLE_EXPIRY (R446). SESSION_IDLE passes without a valid frame, and the session ends. -/
  | sessionIdleExpiry (slot : Fin 8)
  /-- ZALENE_READ (R441). A Zalene READ frame reads an entry or its INFO. -/
  | zaleneRead (session : BitVec 16) (seq : BitVec 32) (ix : BitVec 16) (sub : BitVec 8) (running : Bool) (info : Bool)
  /-- ZALENE_WRITE (R441). A Zalene WRITE frame writes an entry of at most 1,024 bytes. -/
  | zaleneWrite (session : BitVec 16) (seq : BitVec 32) (ix : BitVec 16) (sub : BitVec 8) (value : List Byte)
  /-- SEG_READ (R443). A SEG_READ frame takes a snapshot at offset 0 or returns a part of the snapshot. -/
  | segRead (session : BitVec 16) (seq : BitVec 32) (ix : BitVec 16) (sub : BitVec 8) (offset : BitVec 32) (running : Bool)
  /-- SEG_WRITE (R443). A SEG_WRITE frame opens an assembly buffer with a window of 4. -/
  | segWrite (session : BitVec 16) (seq : BitVec 32) (ix : BitVec 16) (sub : BitVec 8) (total : BitVec 32)
  /-- SEGMENT (R443). A SEGMENT frame adds a part, is acknowledged, and writes the value when the assembly is complete. -/
  | segment (session : BitVec 16) (seq : BitVec 32) (offset : BitVec 32) (bytes : List Byte)
  /-- SEG_ABORT (R443). A SEG_ABORT frame ends the segmented transfer and releases its buffer. -/
  | segAbort (session : BitVec 16) (seq : BitVec 32)
  /-- ZALENE_MAC_FAIL (R445). A frame whose MAC fails is dropped and counted; 16 failures in 1 s close the session. -/
  | zaleneMacFail (session : BitVec 16)
  /-- EVENT_SEND (R450). The head of a session's event queue is sent as an EVENT frame. -/
  | eventSend (slot : Fin 8)
  /-- EVENT_ACK (R450). An EVENT_ACK for the outstanding sequence releases the next EVENT. -/
  | eventAck (session : BitVec 16) (seq : BitVec 32) (evseq : BitVec 32)
  /-- EVENT_ACK_TIMEOUT (R450). EVENT_ACK_T passes without an acknowledgement, and the EVENT is resent or, after 3 retries, the session closed. -/
  | eventAckTimeout (slot : Fin 8)
  /-- WAKE (R452). In P4 a WAKE frame that matches WAKE_CODE raises the ZALENE wake. -/
  | wake (code : BitVec 32)
  /-- NEIGHBOUR_DISCOVERY (R439). Neighbour discovery, duplicate address detection or ICMPv6 echo is answered. -/
  | neighbourDiscovery (kind : NdKind)
  /-- DUPLICATE_NODE (R438). Transmit activity is seen in the node's own opportunity 16 times within 1 s, which raises a C1. -/
  | duplicateNode
  /-- FAULT_REPORT (R461). A cell reports a fault to its block collector, which opens a record, counts a duplicate or merges it. -/
  | faultReport (blk : BitVec 7) (src : BitVec 16) (cell : BitVec 20) (detail : BitVec 32)
  /-- CHIP_RECORD_OPEN (R462). A region report reaches the chip collector, which opens the device record or merges into it. -/
  | chipRecordOpen (r : Fin 5)
  /-- C2_REMAPPED (R464). The owner reports the unit retired and its work remapped; completions resume and the record closes. -/
  | c2Remapped (us : Nat)
  /-- REGION_RESTART (R465). A C3 restarts its region once the affected actuators are parked, after the recorder flush. -/
  | regionRestart (r : Fin 5)
  /-- REGION_RESTART_DONE (R465). A region restart completes, and its record closes. -/
  | regionRestartDone (r : Fin 5) (us : Nat)
  /-- CHIP_FATAL (R466). A C4 latches the reaction sequencer: ALIVE stops, the rings freeze, ERR_FATAL is sent and the actuators retract. -/
  | chipFatal (src : BitVec 16)
  /-- FC_FORCE_GO (R459). A write of FC_FORCE.GO raises a source as if detected, or is refused. -/
  | fcForceGo
  /-- FC_CLEAR (R468). A write of FC_CTRL.CLEAR resets HIGHEST, and with it FLT_N. -/
  | fcClear
  /-- WD_KICK (R469). A write of WD_KICK reloads the watchdog with the right key, or counts a bad kick. -/
  | wdKick (key : BitVec 16)
  /-- WD_CTRL_WRITE (R469). A write of WD_CTRL sets PERIOD, or stops or restarts the count. -/
  | wdCtrlWrite (v : Word)
  /-- WATCHDOG_EXPIRY (R469). The AON watchdog expires, which is C4 source 0x1FC0. -/
  | watchdogExpiry
  /-- INPUT_QUALIFY (R470). A digital input holds a new level for FILT cycles and is qualified. -/
  | inputQualify (pin : Fin 5) (level : Bool)
  /-- INPUT_STUCK (R470). An input stays active past STUCK_T and is declared stuck. -/
  | inputStuck (pin : Fin 5)
  /-- INPUT_CHATTER (R470). An input exceeds EDGE_MAX and is declared chattering, holding its last stable value. -/
  | inputChatter (pin : Fin 5)
  /-- INPUT_REQUALIFY (R470). 10 ms pass quiet, and a stuck or chattering input is qualified again. -/
  | inputRequalify (pin : Fin 5)
  /-- PFAIL (R183). A qualified PFAIL_N sets the PFAIL inhibit, saves the open-stripe table and retracts. -/
  | pfail (vbus : BitVec 16)
  /-- TEMP_SENSE_WINDOW (R472). TEMP_SENSE has been outside or back inside its window for 1 s. -/
  | tempSenseWindow (inside : Bool)
  /-- PWR_GO (R476). A write of PWR_CTRL.GO requests a power state change. -/
  | pwrGo (q : Fin 8)
  /-- POWER_CMD (R476). The dictionary entry POWER_CMD requests a power state. -/
  | powerCmd (src : Fin 16) (v : BitVec 8)
  /-- IDLE_TIMER_EXPIRY (R476). IDLE_T1, IDLE_T2 or IDLE_T3 expires and requests the next deeper state. -/
  | idleTimerExpiry (k : Fin 3)
  /-- POWER_ENTRY_STAGE (R478). ENTRY is sent to a stage's participants. -/
  | powerEntryStage
  /-- PARTICIPANT_ACK (R478). A participant answers ACK, DELAY or REFUSE; the last ACK advances the stage or reaches the commit point. -/
  | participantAck (p : Participant) (answer : Answer)
  /-- PARTICIPANT_DELAY_TIMEOUT (R477). A participant exceeds its delay bound; the entry ends TIMEOUT, or goes on if forced. -/
  | participantDelayTimeout (p : Participant)
  /-- DOMAINS_SWITCHED (R479). The domains reach the target's states, and the entry ends OK with any latched wake replayed. -/
  | domainsSwitched
  /-- WAKE_EVENT (R480). A wake source (MEDIA, TIMER, PCIE, PWRDIS or REQUEST) is latched and aborts an entry or takes the part to P0. -/
  | wakeEvent (bit : Fin 6)
  /-- POWER_EXIT_DONE (R481). An exit from P1 to P4 completes, and POWER clears at P0. -/
  | powerExitDone
  /-- PWRDIS (R482). A qualified PWRDIS forces entry to P4 without refusal. -/
  | pwrdis
  /-- SW_RESET (R485). 0x5A3C written to SW_RESET.KEY resets the part, without sampling the straps. -/
  | swReset (key : BitVec 16)
  /-- POR (R543). An AON rail falls below its threshold, or POR releases after 100 µs. -/
  | por (released : Bool) (strap : BitVec 8)
  /-- RESET_N (R488). RESET_N is asserted, or released to start the start-up sequence. -/
  | resetN (released : Bool) (strap : BitVec 8)
  /-- PERST (R488). PERST_x_N is deasserted, which powers the port and starts link training. -/
  | perst (port : Fin 2) (deasserted : Bool)
  /-- CRYSTAL_LOSS (R484). No crystal edge for 1 µs, and AON switches to the internal oscillator (C1). -/
  | crystalLoss
  /-- PLL_LOCK_LOSS (R484). A system PLL loses lock (C4). -/
  | pllLockLoss (k : Fin 4)
  /-- STARTUP_STEP_DONE (R488). A start-up step's condition is met, and the next step runs. -/
  | startupStepDone (microOk : Bool)
  /-- STARTUP_TABLES_READ (R488). The defect, hole and open-stripe tables are read, stripes repaired and the namespaces made ready. -/
  | startupTablesRead (bad : List (BitVec 32 × Fin 32))
  /-- RECORD_STAGE (R493). A record enters the staging buffer with a SEQ, or is lost or suppressed. -/
  | recordStage
  /-- RECORDER_FLUSH (R494). A flush copies the staged records to MRAM and writes the header. -/
  | recorderFlush
  /-- FLUSH_TIMER (R494). 1 s passes since the last flush, and a flush starts. -/
  | flushTimer
  /-- RC_FLUSH (R494). RC_CTRL.FLUSH or CMD FLUSH starts a flush. -/
  | rcFlush
  /-- RC_FREEZE (R497). RC_CTRL.FREEZE or CMD FREEZE stops recorder writes to MRAM. -/
  | rcFreeze
  /-- RC_THAW (R497). RC_CTRL.THAW or CMD THAW ends a freeze with FREEZE_END. -/
  | rcThaw
  /-- FREEZE_LIMIT_EXPIRY (R497). FREEZE_LIMIT elapses and the freeze ends. -/
  | freezeLimitExpiry
  /-- RC_CLEAR (R498). RC_CTRL.CLEAR or CMD CLEAR clears the recorder outside Service mode. -/
  | rcClear
  /-- RC_READ_GO (R499). A write of RC_READ.GO reads one recorder slot whole. -/
  | rcReadGo (q : Fin 8) (corrupt : Bool)
  /-- PFAIL_HEADER_FINAL (R496). 1.8 ms after PFAIL_N, the last header is written and MRAM writes are blocked. -/
  | pfailHeaderFinal
  /-- HEALTH_INTERVAL (R502). The health interval ends; every indicator is sampled, the predictions computed and a SUMMARY recorded. -/
  | healthInterval (t : BitVec 32) (xs : List Sample)
  /-- KEY_SLOT_WRITE (R508). A key slot WRITE entry enrols or revokes a key under signature. -/
  | keySlotWrite (src : Fin 16) (mgmt : Bool) (slot : Fin 8) (key : BitVec 512) (role : BitVec 8) (sigOk : Bool)
  /-- SEC_CONFIRM (R513). SEC_CTRL.CONFIRM confirms the pending image in the selection record. -/
  | secConfirm (q : Fin 8)
  /-- SVN_COMMIT (R513). SEC_CTRL.SVN_COMMIT raises MIN_SVN to the running SVN, or is refused. -/
  | svnCommit (q : Fin 8)
  /-- SEC_RECOVERY (R525). SEC_CTRL.RECOVERY sets RECOVERY_REQ for the next reset. -/
  | secRecovery (q : Fin 8)
  /-- SEC_TEST (R515). SEC_CTRL.TEST sets TEST_REQ for the next reset. -/
  | secTest (q : Fin 8)
  /-- MODE_REQ (R515). The MODE_REQ entry requests Test or Recovery at the next reset. -/
  | modeReq (src : Fin 16) (v : BitVec 8)
  /-- FW_CHUNK (R516). A FW_CHUNK write places a download part at FW_OFFSET. -/
  | fwChunk (src : Fin 16) (bytes : List Byte)
  /-- DOWNLOAD_IDLE_TIMEOUT (R516). 10 s pass with no part written, and the download closes. -/
  | downloadIdleTimeout
  /-- FW_WRITE (R516). FW_CMD 1 WRITE verifies the image and writes it to the slot. -/
  | fwWrite (src : Fin 16) (im : ImageInfo)
  /-- FW_WRITE_AT_RESET (R516). FW_CMD 2 writes the slot and makes it PENDING. -/
  | fwWriteAtReset (src : Fin 16) (im : ImageInfo)
  /-- FW_ACTIVATE_AT_RESET (R516). FW_CMD 3 verifies the slot image and makes it PENDING. -/
  | fwActivateAtReset (src : Fin 16)
  /-- FW_WRITE_NOW (R517). FW_CMD 4 writes the slot and starts switch-over. -/
  | fwWriteNow (src : Fin 16) (im : ImageInfo)
  /-- SWITCHOVER_STEP_DONE (R517). A switch-over step (load, quiesce, handoff, confirm) completes and the next runs. -/
  | switchoverStepDone
  /-- SWITCHOVER_CONFIRM_TIMEOUT (R517). The new image does not confirm within 2 s; the banks exchange back with REVERTED. -/
  | switchoverConfirmTimeout
  /-- FORMAT_IMAGE (R518). A FORMAT_IMAGE write checks the signed image and writes its records as staged or PENDING values. -/
  | formatImage (src : Fin 16) (check : Fin 7) (records : List FmtRecord) (hash : BitVec 256)
  /-- QUOTE (R519). A read of QUOTE snapshots the measurements and returns a signed quote. -/
  | quote (src : Fin 16)
  /-- MT_RETIRE (R521). MT_CMD RETIRE retires the named channel, lane, pseudo-channel, DMA engine or head. -/
  | mtRetire (src : Fin 16)
  /-- MT_RESTORE (R520). MT_CMD RESTORE returns a retired unit to service, or gives RESET_ONLY or SELFTEST. -/
  | mtRestore (src : Fin 16) (selftest : Bool)
  /-- MT_RECALIBRATE (R523). MT_CMD RECALIBRATE calibrates a head over its chosen zone groups. -/
  | mtRecalibrate (src : Fin 16)
  /-- CHANNEL_REMAP (R521). A retired channel's head is unmapped and remapped to the lowest free slot of its actuator. -/
  | channelRemap (n : Fin 32)
  /-- DMA_ENGINE_HANDOVER (R522). A retired engine's channels pass to its successor and their descriptors restart. -/
  | dmaEngineHandover (e : Fin 4)
  /-- RECAL_GROUP_VISIT (R523). The actuator stands in a zone group to be recalibrated, or a 10 s wait expires and a seek is made. -/
  | recalGroupVisit (a : Fin 4) (g : Fin 8) (waited : Bool)
  /-- TRU_CARRIER_RETURN (R77). In HOLDOVER the clock-head carrier amplitude comes back within its window, and the TRU enters FREQ_ACQ from the held frequency. -/
  | truCarrierReturn (a : Act)
  /-- MEDIA_SCRUB (R185). The media scrub at DC3 reads and audits a stripe, and fills its holes once a writer is available. -/
  | mediaScrub (stripe : BitVec 32) (pool : Fin 16)
  /-- HBM_SELF_REFRESH_ENTRY (R474). In state SR, once no request has been pending for 10 µs, the stack enters self-refresh and the Skimmer pauses. -/
  | hbmSelfRefreshEntry
  /-- PCIE_CONFIG_ACCESS (R344). A host configuration request to a port is answered; CRS is returned before boot ends, and changes to ATS, PASID or PRI Enable, MPS or MRRS take effect (the ATC is cleared, page requests resume). -/
  | pcieConfigAccess (q : Fin 2) (req : CfgReq)
  /-- REGISTER_READ (R7). A register read returns its value; RC fields clear, and a read bus error returns Completer Abort, is logged in REG_ERR and raises its source. -/
  | registerRead (q : Fin 8) (off : BitVec 24) (size : Nat)
  /-- NVME_CONTROLLER_ENABLE (R488). The host writes CC.EN := 1, and the controller becomes ready and starts serving its admin queues. -/
  | nvmeControllerEnable (q : Fin 2) (asq : BitVec 64) (acq : BitVec 64) (asqs : BitVec 12) (acqs : BitVec 12) (wrr : Bool)
  deriving DecidableEq, Repr

end Sys2Proof
end

