-- ==== Sys2Proof/Decode.lean ====
section
/-! DEFINITION. Decode.lean: the command that a word of the opcode table spells. The table gives no row any bits: the block has no command
words, and a command reaches it as a register access, a frame, an entry of a ring or an event. So no word spells one. -/

namespace Sys2Proof

/-- The command spelled by a word of `nbits` bits: none, for no row of the table gives bits. -/
def decodeTableWord (_nbits _w : Nat) : Option Instr := none

end Sys2Proof
end

