-- ==== Sys2Proof/Config.lean ====
section
/-! DEFINITION. Config.lean: the values the spec leaves open.
`Config.freeValue` has no body: nothing in Lean can evaluate it. A meaning that needs a value the spec leaves open applies it to the
counter `State.free`, which it then advances (assumption log 1), so every use is a value of its own.

`Config.realFn` stands for the results of real-valued functions whose rounding the spec does not state (log 9). -/

namespace Sys2Proof

/-- A value the spec leaves open, named by the counter of uses (log 1). -/
opaque Config.freeValue : Nat → BitVec 64

/-- A value the spec leaves open that depends on the operands: the rounded result of a real-valued formula (log 9).
The first argument names the formula, the list holds its operands. -/
opaque Config.realFn : Nat → List Int → BitVec 64

/-- What differs from part to part and no rule states: serial number, MAC address (R433), device key and certificate (R518). -/
opaque Config.serial : List Byte
opaque Config.mac : List Byte
opaque Config.deviceKey : List Byte
opaque Config.deviceCert : List Byte

/-- The code tables the spec names but does not print: the Churn shift table (R136) and the Hsiao table (R294). -/
opaque Config.churnTable : List Byte
opaque Config.hsiaoTable : List Byte

/-- What a byte of the buffer holds before the fill of R554 (log 22). -/
opaque Config.rawByte : Nat → Byte

/-- The bytes of a sector read from the media or of computed parity, named by the free value it took (log 15). -/
opaque Config.mediaByte : Nat → Nat → Byte

end Sys2Proof
end

