-- ==== Sys2Proof/Machine/Bf24.lean ====
section
/-! DEFINITION. Bf24.lean: the block-floating quantities of 09_control_engine.md R219 and R220.
A BF24 word holds a 24-bit two's-complement mantissa M in bits [23:0] and an 8-bit two's-complement exponent E in bits [31:24]; its
value is M * 2^(E - 23). Inside a stage, values are exact dyadic numbers (m, e) of value m * 2^e. -/

namespace Sys2Proof

/-- An exact dyadic number m * 2^e. -/
structure Dy where
  m : Int
  e : Int
  deriving DecidableEq, Repr

/-- The signed value of an n-bit two's-complement pattern. -/
def sext (n : Nat) (v : Nat) : Int := if v % 2 ^ n < 2 ^ (n - 1) then ((v % 2 ^ n : Nat) : Int) else ((v % 2 ^ n : Nat) : Int) - ((2 ^ n : Nat) : Int)

/-- The n-bit two's-complement pattern of an integer. -/
def utrunc (n : Nat) (v : Int) : Nat := (v % ((2 ^ n : Nat) : Int)).toNat

/-- The mantissa of a BF24 word (R219). -/
def bfM (w : Nat) : Int := sext 24 w

/-- The exponent of a BF24 word (R219). -/
def bfE (w : Nat) : Int := sext 8 (w / 2 ^ 24)

/-- The value of a BF24 word (R219); M = 0 is zero, whatever E. -/
def bfVal (w : Nat) : Dy := if bfM w = 0 then ⟨0, 0⟩ else ⟨bfM w, bfE w - 23⟩

/-- The word of a mantissa and an exponent. -/
def bfWord (m e : Int) : Nat := utrunc 8 e * 2 ^ 24 + utrunc 24 m

/-- Both numbers over the smaller exponent. -/
def dyAlign (a b : Dy) : Int × Int :=
  if a.e ≤ b.e then (a.m, b.m * 2 ^ (b.e - a.e).toNat) else (a.m * 2 ^ (a.e - b.e).toNat, b.m)

def dyLe (a b : Dy) : Bool := decide ((dyAlign a b).1 ≤ (dyAlign a b).2)
def dyLt (a b : Dy) : Bool := decide ((dyAlign a b).1 < (dyAlign a b).2)
def dyAbs (a : Dy) : Dy := ⟨a.m.natAbs, a.e⟩
def dyNeg (a : Dy) : Dy := ⟨-a.m, a.e⟩
def dyInt (n : Int) : Dy := ⟨n, 0⟩
def dyMul (a b : Dy) : Dy := ⟨a.m * b.m, a.e + b.e⟩
def dyAdd (a b : Dy) : Dy := ⟨(dyAlign a b).1 + (dyAlign a b).2, min a.e b.e⟩
def dySub (a b : Dy) : Dy := dyAdd a (dyNeg b)

/-- Order of two BF24 words by value. -/
def bfLe (a b : Nat) : Bool := dyLe (bfVal a) (bfVal b)

/-- The exponent of a dyadic number in the sense of R220: the least E with |m * 2^e| < 2^E. -/
def dyExp (a : Dy) : Int := if a.m = 0 then -128 else a.e + (Nat.log2 a.m.natAbs : Int) + 1

/-- Rounds m * 2^e to a multiple of 2^u, to nearest with ties to even; the multiple. -/
def dyRound (a : Dy) (u : Int) : Int :=
  if u ≤ a.e then a.m * 2 ^ (a.e - u).toNat
  else
    let d : Int := 2 ^ (u - a.e).toNat
    let q := a.m / d
    let r := a.m % d
    if 2 * r < d then q else if d < 2 * r then q + 1 else if q % 2 = 0 then q else q + 1

/-- Every value of the block rounds into the mantissa range at exponent E. -/
def blockFits (l : List Dy) (E : Int) : Bool :=
  l.all (fun a => decide (-8388608 ≤ dyRound a (E - 23)) && decide (dyRound a (E - 23) ≤ 8388607))

/-- The smallest exponent at which the block fits: the largest exponent of a value, one less where a value -2^k still fits, or one more
where rounding carries out (R220, step 2). -/
def blockExp (l : List Dy) : Int :=
  let E := l.foldl (fun m a => max m (dyExp a)) (-128)
  if E - 1 ≥ -128 && blockFits l (E - 1) then E - 1 else if blockFits l E then E else E + 1

/-- The end of a stage (R220, steps 2 to 4): the block's words, and whether every mantissa saturated. -/
def blockWords (l : List Dy) : List Nat × Bool :=
  let E := blockExp l
  if E > 127 then
    (l.map (fun a => if a.m = 0 then 0 else bfWord (if a.m < 0 then -8388607 else 8388607) 127), true)
  else (l.map (fun a => bfWord (dyRound a (E - 23)) E), false)

/-- Discards the bits of a term below the accumulator's unit 2^u (R220, step 1). -/
def dyTrunc (u : Int) (a : Dy) : Int := if u ≤ a.e then a.m * 2 ^ (a.e - u).toNat else a.m / (2 ^ (u - a.e).toNat)

/-- A sum of terms as R220 step 1 forms it: each term carries its own exponent (that of its mantissa unit plus 23, or the sum of the
factors' exponents for a product); terms are aligned to the largest, and bits below 2^-32 of that mantissa unit are discarded. -/
def stageSum (l : List (Dy × Int)) : Dy :=
  let E := l.foldl (fun m a => max m a.2) (-256)
  ⟨l.foldl (fun acc a => acc + dyTrunc (E - 55) a.1) 0, E - 55⟩

/-- A term that is one BF24 word. -/
def bfTerm (w : Nat) : Dy × Int := (bfVal w, bfE w)

/-- A term that is the product of two BF24 words. -/
def bfProd (a b : Nat) : Dy × Int := (dyMul (bfVal a) (bfVal b), bfE a + bfE b)

/-- A term with the other sign. -/
def termNeg (t : Dy × Int) : Dy × Int := (dyNeg t.1, t.2)

/-- One dyadic value as a BF24 word of its own block. -/
def bfOf (a : Dy) : Nat := ((blockWords [a]).1).headD 0

/-- An integer as a BF24 word. -/
def bfOfInt (n : Int) : Nat := bfOf (dyInt n)

end Sys2Proof
end

