-- ==== Sys2Proof/Machine/State.lean ====
section
/-! DEFINITION. State.lean: the whole state of the block as plain data, the reasons a step can stop, and the state right after reset.
Register fields stand in two sparse tables keyed by window address and low bit (`regs`: staged or plain value; `regsRun`: value in force
of an RWC field, R421); a field that is not listed stands at the reset value its descriptor carries. Dictionary values stand in the same
way in `od` and `odRun`. Everything that no register or entry holds has a field of its own here. -/

namespace Sys2Proof.Machine
open Sys2Proof

/-- The ordering codes (00_scope.md R1, R2). -/
inductive Part where
  | a44 | a22
  deriving DecidableEq, Repr

/-! ### Register fields and dictionary entries -/

/-- The access codes of R7. -/
inductive Acc where
  | ro | rw | wo | w1c | w1s | rc | rwc | rws
  deriving DecidableEq, Repr

/-- One register field: where it lies (window offset of instance (0, 0), the strides and counts of its two instance indexes,
lowest bit, width), its reset value, an instance j with another reset value, and its access code. -/
structure Fld where
  base : Nat
  si : Nat
  ni : Nat
  sj : Nat
  nj : Nat
  lo : Nat
  width : Nat
  reset : Nat
  altJ : Nat
  altV : Nat
  acc : Acc
  deriving DecidableEq, Repr

/-- A dictionary value (R427): a number in its unsigned encoding, or a byte string (STR, OCTETS, DOMAIN). -/
inductive OdVal where
  | num (n : Nat)
  | bytes (b : List Byte)
  deriving DecidableEq, Repr

/-- A register access that waits in its crossing (R417). -/
structure Access where
  off : Nat
  wr : Option Nat
  deriving DecidableEq, Repr

/-! ### Fault collection (20_faults.md) -/

/-- A fault record (R462). -/
structure FaultRec where
  source : Nat
  cell : Nat
  cls : Nat
  time : Nat
  ovf : Bool
  dup : Nat
  merges : Nat
  merged : List Nat
  interrupt : Nat
  forced : Bool
  detail : Nat
  deriving DecidableEq, Repr

/-- What a region collector has passed towards the chip collector (R461, R462): an opened record, a merge report, or the
duplicates counted below an open record. -/
inductive UpReport where
  | opened (r : FaultRec)
  | merge (source cls : Nat)
  deriving DecidableEq, Repr

/-- The fault collectors and the reaction sequencer (R460 to R468). -/
structure Fc where
  block : Tab FaultRec
  region : Tab FaultRec
  up : List (Nat × UpReport)
  chip : Option FaultRec
  last : Option FaultRec
  c2Sources : List Nat
  c3Regions : List Nat
  restarting : List Nat
  restartEnd : Tab Nat
  alive : Bool
  deriving DecidableEq, Repr

/-! ### Recorder and health (22_recorder_health.md) -/

/-- A recorder record (R491); `ext` is the EXT field as two words. -/
structure Rec where
  seq : Nat
  kind : Nat
  cls : Nat
  ovf : Bool
  forced : Bool
  source : Nat
  time : Nat
  cell : Nat
  dup : Nat
  merges : Nat
  merged : List Nat
  interrupt : Nat
  power : Nat
  detail : Nat
  hostTime : Nat
  ext0 : Nat
  ext1 : Nat
  deriving DecidableEq, Repr

/-- The freeze state of the recorder (R497). -/
inductive Freeze where
  | running | freezing | frozen
  deriving DecidableEq, Repr

/-- The header of R495: what a flush writes and a start-up reads. -/
structure RecHeader where
  gen : Nat
  keepCount : Nat
  wrIdx : Nat
  wrapped : Bool
  seqNext : Nat
  clearCount : Nat
  lost : Nat
  suppressed : Nat
  laps : Nat
  deriving DecidableEq, Repr

/-- The event recorder (R493 to R498). `inbox` holds the records that wait to enter the staging buffer (one a core cycle);
`chip = true` in an inbox entry marks the record of the chip collector, which closes a C0 or C1 record (R460). -/
structure Recorder where
  inbox : List (Bool × Rec)
  staged : List Rec
  keep : Tab Rec
  ring : Tab Rec
  header : RecHeader
  cur : RecHeader
  rate : Nat
  flushing : Bool
  freeze : Freeze
  lostInFreeze : Nat
  blocked : Bool
  deriving DecidableEq, Repr

/-- One health indicator (R502 to R506): its history (t, x), its prediction and what it has raised. -/
structure Indicator where
  hist : List (Nat × Int)
  x : Int
  percent : Nat
  p50 : Nat
  p10 : Nat
  conf : Nat
  warned : Bool
  eol : Bool
  deriving DecidableEq, Repr

/-! ### Dictionary, Zalene link (19_object_dictionary.md) -/

/-- An assembly buffer of R443 in use; `parts` counts the segments of a write since the last acknowledgement, and is the next offset of a read. -/
structure Asm where
  src : Nat
  write : Bool
  ix : Nat
  sub : Nat
  total : Nat
  data : List Byte
  parts : Nat
  deriving DecidableEq, Repr

/-- What a Zalene session keeps as its last response (R444), with its SEQ. -/
structure Resp where
  type : Nat
  seq : Nat
  status : Nat
  payload : List Byte
  deriving DecidableEq, Repr

/-- The EVENT of a session that waits for its acknowledgement (R450): event sequence, SEQ of its frame, the LOST it carries. Its record is the
head of the session's queue. -/
structure EvOut where
  seq : Nat
  frame : Nat
  lost : Nat
  deriving DecidableEq, Repr

/-- An open Zalene session (R444 to R450); `macFails` holds the times of MAC failures within the last second (R445), `evSeq` the sequence of its
next EVENT, `retries` how often the one outstanding has been sent again. -/
structure Session where
  number : Nat
  key : Nat
  role : Nat
  rxSeq : Nat
  txSeq : Nat
  lastResp : Option Resp
  macFails : List Nat
  queue : List Rec
  outstanding : Option EvOut
  retries : Nat
  evSeq : Nat
  lost : Nat
  deriving DecidableEq, Repr

/-- Whose dictionary request waits for a register of a domain that powers on (R417, R431, R436): a request of a source without a port of its own,
a host bank of requester q, a Zalene session's frame. -/
inductive OdWho where
  | raw (src : Nat)
  | host (q : Nat)
  | zalene (slot type : Nat)
  deriving DecidableEq, Repr

/-- A handshake in progress (R446). -/
structure Handshake where
  number : Nat
  key : Nat
  role : Nat
  deriving DecidableEq, Repr

/-- The Zalene interface (R437 to R452). -/
structure Zalene where
  sessions : Tab Session
  handshakes : Tab Handshake
  nextNumber : Nat
  announce : Nat
  strap : Nat
  addrBad : Bool
  staticBad : Bool
  deriving DecidableEq, Repr

/-! ### Power and start-up (21_power_clocks_startup.md) -/

/-- What the power controller is doing (R479, R481, R482). -/
inductive PwrKind where
  | idle | entry | forced | exit
  deriving DecidableEq, Repr

/-- The power controller beside its registers: participants that have not yet answered for good and those that acknowledged (R479), whether the
next stage's ENTRY has been sent, actuators parked for the entry, state an exit leaves, PWRDIS qualified behind a commit point and P4 forced by it
(R482, R483), step of R488 running, whether POR or RESET_N is held, whether boot has ended (R353), namespaces ready (R488 step 12), PFAIL_N active,
why the last reset came (R485). -/
structure Pwr where
  kind : PwrKind
  waiting : List Participant
  acked : List Participant
  started : Bool
  parked : List Nat
  exitFrom : Nat
  pwrdisLater : Bool
  byPwrdis : Bool
  startStep : Nat
  por : Bool
  inReset : Bool
  bootDone : Bool
  ready : Bool
  pfail : Bool
  cause : Nat
  deriving DecidableEq, Repr

/-! ### Security and maintenance (23_security_maintenance.md) -/

/-- A key slot (R508). -/
inductive KeyState where
  | empty | enrolled | revoked
  deriving DecidableEq, Repr

structure KeySlot where
  st : KeyState
  key : BitVec 512
  role : Nat
  deriving DecidableEq, Repr

/-- The selection record of R511. -/
structure SelRec where
  gen : Nat
  active : Nat
  pending : Nat
  tries : Nat
  recoveryReq : Bool
  testReq : Bool
  deriving DecidableEq, Repr

/-- The download buffer (R516). -/
structure Download where
  owner : FwSource
  size : Nat
  parts : Nat
  deriving DecidableEq, Repr

/-- A switch-over in progress (R517): its slot, the slot that ran before, who committed the image, and the CID of an NVMe commit. -/
structure Switchover where
  slot : Nat
  old : Nat
  owner : FwSource
  cid : Nat
  deriving DecidableEq, Repr

/-- A recalibration in progress (R523): source, head 11 a + h, groups left, those that ended early once, the channel calibrating (0xFF none), whether it
was withdrawn for it. -/
structure Recal where
  src : Nat
  head : Nat
  groups : List Nat
  retried : List Nat
  slot : Nat
  withdrawn : Bool
  deriving DecidableEq, Repr

/-- Secure boot, keys, firmware, maintenance. -/
structure Sec where
  dm : Tab KeySlot
  mg : Tab KeySlot
  sel : SelRec
  imgA : ImageInfo
  imgB : ImageInfo
  minSvn : Nat
  revoke0 : Bool
  bootCount : Nat
  quoteCount : Nat
  modeCause : Nat
  dl : Option Download
  sw : Option Switchover
  formatReason : Nat
  formatHash : BitVec 256
  recal : List Recal
  deriving DecidableEq, Repr

/-! ### What the part sends out (MODEL'S OWN record of emissions, log 3) -/

/-- What leaves the block: the answer to a register access, a PA12 frame, a Zalene frame, a dictionary answer, a message on a
PCIe port, a write to host memory by the ring engine or the NVMe queues, and the other emissions named by their rules. -/
inductive Out where
  | bus (q cause : Nat) (data : Nat)
  | exception (core : Nat)
  | pa12 (a : Nat) (frame : List Byte)
  | zalene (type session seq status : Nat) (payload : List Byte)
  | od (src status : Nat) (value : List Byte)
  | odInfo (src type cls flags maxLen : Nat)
  | port (q : Nat) (what : String) (arg : Nat)
  | trace (n : Nat) (arg : Nat)
  | quote (src : Nat) (count : Nat) (bytes : List Byte)
  | note (what : String) (i arg : Nat)
  | buffer (req : BufReq) (busError : Bool) (bytes : List Byte)
  | hostWrite (q addr : Nat) (bytes : List Byte)
  deriving DecidableEq, Repr

/-! ### Ports, NVMe and rings (15_nvme_ports.md, 16_miofoest_rings.md) -/

/-- A data head i = 11 a + h beside its registers (R30): retirements and exclusions (R40, R71, R127, R168), and whether it waits for a
recalibration (R55). -/
structure HeadSt where
  retired : Bool
  retiredRead : Bool
  retiredWrite : Bool
  readerExcl : Nat
  uncal : Bool
  /-- Phase trim (R70, R71, R77): outliers in a row, wedges left of the re-learning and of the 2-wedge check, whether the last of them was
  good, wedges not found in HOLDOVER (R80), and whether the head waits in the widened window. -/
  outliers : Nat
  relearn : Nat
  check : Nat
  goodLast : Bool
  lostW : Nat
  /-- Servo (R247 to R254): planned displacement in 1/8,192 track, writing, good wedges in a row for read and for write, invalid wedges in a
  row, last wedge position in 1/4,096 track, radial offsets by zone group in 1/4,096 track, milliactuator saturated. -/
  disp : Int
  writing : Bool
  readRun : Nat
  writeRun : Nat
  badRun : Nat
  wedge : Int
  ro : Tab Int
  satur : Bool
  /-- Zone groups still to be calibrated after a re-admission (R55, R523). -/
  calLeft : List Nat

  deriving DecidableEq, Repr

/-- An NVMe submission queue: base, completion queue, size, head and tail, priority, Pail pool (log 25). -/
structure NvSq where
  base : Nat
  cq : Nat
  size : Nat
  head : Nat
  tail : Nat
  prio : Nat
  pool : Nat
  deriving DecidableEq, Repr

/-- A completion entry on its way to the host (R379, or a completion queue entry): command, submission ring, result, status of R380,
detail, ABORT_LATE. -/
structure CqEnt where
  cid : Nat
  ring : Nat
  result : Nat
  status : Nat
  detail : Nat
  late : Bool
  deriving DecidableEq, Repr

/-- An NVMe completion queue: base, size, write tail and host head as running counts, holdback, credits reserved, vector. -/
structure NvCq where
  base : Nat
  size : Nat
  tail : Nat
  head : Nat
  holdback : List CqEnt
  credits : Nat
  vector : Nat
  wait : Bool
  deriving DecidableEq, Repr

/-- A PCIe port and its NVMe controller (15_nvme_ports.md): the link; ATS, PRI and PASID Enable, page request allocation, Response Failure,
Max_Payload_Size, Max_Read_Request_Size (R343, R346, R353; log 24); whether configuration requests are answered (R353); CC.EN, CSTS.RDY,
CSTS.CFS, whether the queues are frozen; queues by identifier; features; outstanding Asynchronous Event Requests; error log (65,536 * queue + CID,
status, count) and reservation log (type + 256 * count, NSID), newest first. -/
structure Port where
  linkUp : Bool
  perst : Bool
  ats : Bool
  pri : Bool
  pasid : Bool
  alloc : Nat
  respFail : Bool
  mps : Nat
  mrrs : Nat
  en : Bool
  rdy : Bool
  cfs : Bool
  frozen : Bool
  sq : Tab NvSq
  cq : Tab NvCq
  feat : Tab Nat
  aer : List Nat
  errLog : List (Nat × Nat × Nat)
  resvLog : List (Nat × Nat)
  deriving DecidableEq, Repr

/-- A Pail pool beside its registers (13_pails_and_cache.md): indexes allocated, Pails reserved and undrawn per command (R555), requests
pending (R317), lowest free count, LOW_WATER raised, EMPTY answers. -/
structure Pool where
  alloc : List Nat
  reserved : Tab Nat
  waiting : List Nat
  minFree : Nat
  low : Bool
  emptyCount : Nat
  deriving DecidableEq, Repr

/-- A submission ring context (R369). -/
structure SubRing where
  st : Nat
  base : Nat
  attr : Nat
  cr : Nat
  size : Nat
  pool : Nat
  head : Nat
  tail : Nat
  full : Bool
  weight : Nat
  burst : Nat
  upd : Option (Nat × Nat × Nat)
  code : Nat
  cid : Nat
  errHead : Nat
  detail : Nat
  errStamp : Nat
  copies : List (Nat × List Byte)
  release : List Nat
  held : Bool
  deriving DecidableEq, Repr

/-- A completion ring context (R369, R383): state (0 FREE, 1 ACTIVE, 3 FROZEN), host address, attributes, size, vector and its enable, write
TAIL and host HEAD with their LAP bits as running counts modulo 2 N, holdback, credits reserved, freeze code, whether an entry write waits
for a page response, whether a signal is due. -/
structure CompRing where
  st : Nat
  base : Nat
  attr : Nat
  size : Nat
  vector : Nat
  irq : Bool
  tail : Nat
  head : Nat
  holdback : List CqEnt
  credits : Nat
  code : Nat
  detail : Nat
  errHead : Nat
  errStamp : Nat
  wait : Bool
  signal : Bool
  deriving DecidableEq, Repr

/-- What a stamped command does (R371, R356, R400); `other` is a reservation command. -/
inductive CmdOp where
  | read | write | zeroes | flush | abort | compare | put | get | delete | list | other
  deriving DecidableEq, Repr

/-- The object part of a command (R399): space, key, OFLAGS, VALUE_LEN, ARG, PASID of its ring with PASID_EN, extents allocated, and
whether its checks have been made (R402). -/
structure ObjCmd where
  space : Nat
  key : List Byte
  oflags : Nat
  valueLen : Nat
  arg : Nat
  pasid : Option Nat
  extents : List (Nat × Nat)
  checked : Bool
  stage : Nat
  deriving DecidableEq, Repr

/-- A stamped command with its hazard entry (R381, R385). `origin` is the participant number of R382; `ns` the namespace index k, 0xFF for
all; `xs` the data member indexes of an object command or recovery rewrite; `pails` the Pail of each Pail ordinal; `req` the sectors whose
source is chosen, `inPail` those whose data is in a Pail, `moved` those whose transfer has been issued, `landed` those whose transfer has
landed, `installed` the written sectors installed; `issued` says that the last data transfer is issued (R391); `fails` the outcomes met. -/
structure Cmd where
  stamp : Nat
  origin : Nat
  cid : Nat
  op : CmdOp
  ns : Nat
  lba : Nat
  count : Nat
  xs : List Nat
  fua : Bool
  port : Nat
  pasid : Option Nat
  priOk : Bool
  pool : Nat
  hlist : List (Nat × Nat)
  pails : Tab Nat
  req : List Nat
  inPail : List Nat
  moved : List Nat
  landed : List Nat
  installed : List Nat
  issued : Bool
  aborted : Bool
  late : Bool
  fails : List Nat
  detail : Nat
  result : Nat
  target : Nat × Nat
  obj : Option ObjCmd
  deriving DecidableEq, Repr

/-- A sector in a Pail that is newer than the media (R361): data member index, stamp of the write that installed it, its namespace, its
Pail, whether a stripe update has taken it, and the oldest stamp whose write of the sector is not durable yet. -/
structure Dirty where
  x : Nat
  stamp : Nat
  first : Nat
  ns : Nat
  pail : Nat
  busy : Bool
  deriving DecidableEq, Repr

/-! ### DMA and translation (14_dma_translation.md) -/

/-- A descriptor (R332) at its index; `owner` ties a descriptor of the command scheduler or object service to a command and its sectors. -/
structure Desc where
  index : Nat
  opcode : Nat
  flags : Nat
  port : Nat
  pasid : Option Nat
  tag : Nat
  addrA : Nat
  addrB : Nat
  length : Nat
  list : List (Nat × Nat)
  bad : Bool
  lost : Bool
  owner : Option (Nat × List Nat)
  deriving DecidableEq, Repr

/-- A descriptor being run or waiting for its record: bytes issued, bursts that have not landed (offset, bytes), parks, refusals in a row on
a page, abort state (0 none, 1 before the last burst, 2 after it), error (status, source, address, residue), whether it has ended. -/
structure RunDesc where
  d : Desc
  pos : Nat
  bursts : List (Nat × Nat)
  parks : Nat
  row : Nat
  rowPage : Nat
  abort : Nat
  err : Option (Nat × Nat × Nat × Nat)
  ended : Bool
  deriving DecidableEq, Repr

/-- A DMA channel beside its registers: descriptors of the owner in order (channels 0 to 13), the running or parked descriptor, issued
descriptors whose record is not written (oldest first), indexes marked for abort, whether a failed record waits (R340), completion slots
reserved. -/
structure DmaCh where
  q : List Desc
  run : Option RunDesc
  issued : List RunDesc
  marked : List Nat
  retry : Bool
  deriving DecidableEq, Repr

/-- A DMA engine: its run list of channel identifiers 16 e + c, the channel running, whether it is retired, whether its channels have been handed over,
whether software retired it (R522). -/
structure Engine where
  runs : List Nat
  running : Option Nat
  retired : Bool
  handed : Bool
  soft : Bool
  deriving DecidableEq, Repr

/-- An ATC entry (R344): port, PASID, page, translated page, permissions, size as log2 of pages. -/
structure AtcEnt where
  port : Nat
  pasid : Option Nat
  page : Nat
  addr : Nat
  r : Bool
  w : Bool
  size : Nat
  deriving DecidableEq, Repr

/-- Who waits for a page response (R346, R389): a DMA channel, a ring's entry fetch or release write, a completion ring's entry write. -/
inductive PriWho where
  | chan (id : Nat) | fetch (n : Nat) | release (n : Nat) | comp (c : Nat)
  deriving DecidableEq, Repr

/-- A page request (R346): group index once sent, port, PASID, page, access, who waits. -/
structure PageReq where
  group : Option Nat
  port : Nat
  pasid : Option Nat
  page : Nat
  write : Bool
  who : List PriWho
  deriving DecidableEq, Repr

/-- The translation unit: ways by 8 * set + way, tree pseudo-LRU bits by set, ATS requests outstanding (port, PASID, page), page requests in
order of fault, invalidations whose completion waits for bursts under way (port, PASID, page, log2 of pages). -/
structure Dtu where
  atc : Tab AtcEnt
  plru : Tab Nat
  ats : List (Nat × Option Nat × Nat)
  pri : List PageReq
  inval : List (Nat × Option Nat × Nat × Nat)
  deriving DecidableEq, Repr

/-! ### The object service (17_object_service.md) -/

/-- A slot of a bucket (R397). -/
structure ObjSlot where
  space : Nat
  key : List Byte
  extents : List (Nat × Nat)
  valueLen : Nat
  gen : Nat
  deriving DecidableEq, Repr

/-- An object stripe (R404): live sectors, 0 FREE, 1 OPEN, 2 FULL. -/
structure ObjStripe where
  live : Nat
  st : Nat
  deriving DecidableEq, Repr

/-- A change of a slot on its way to the media (R403 steps 4 to 6): the stamp of its command, the extents it replaced (pending-free), bucket,
slot and its new content; 0 while the value is not durable, 1 while the bucket is written, 2 once the bucket is durable. -/
structure ObjPend where
  stamp : Nat
  old : List (Nat × Nat)
  bucket : Nat
  slot : Nat
  new : Option ObjSlot
  st : Nat
  deriving DecidableEq, Repr

/-- The object service: slots of the image by 32 * bucket + slot and the slots the media hold, stripes that are not free by their place among the
object stripes, the frontier as next object sector of the open stripe, changes on their way to the media, whether the image has been loaded
(R395, R405). -/
structure Obj where
  slots : Tab ObjSlot
  media : Tab ObjSlot
  stripes : Tab ObjStripe
  front : Option Nat
  pend : List ObjPend
  loaded : Bool
  deriving DecidableEq, Repr

/-- A reservation registrant (R364): host, controller, key; and the reservation of a namespace. -/
structure Registrant where
  host : Nat
  ctrl : Nat
  key : Nat
  deriving DecidableEq, Repr

structure Resv where
  regs : List Registrant
  holder : Option Nat
  type : Nat
  gen : Nat
  ptpl : Bool
  deriving DecidableEq, Repr

/-- The ring engine (R382, R384, R390): pointer of the weighted tier, turns left, the turn in progress (participant, entries fetched),
the last strict urgent SQ served, whether fetching is paused, commands completed (participant, CID). -/
structure RingEng where
  ptr : Nat
  turns : Tab Nat
  turn : Option (Nat × Nat)
  strict : Nat
  ended : List (Nat × Nat)
  /-- Writes stamped below it must be on the media before fetching resumes after a restart of HST (20_faults.md R465). -/
  drain : Nat
  deriving DecidableEq, Repr

/-! ### Head stacks and identity memories (02_attached_modules.md) -/

/-- A PA12 frame without its start, SEQ, CRC and end (R34). -/
structure PlFrame where
  op : Nat
  payload : List Byte
  deriving DecidableEq, Repr

/-- A PA12 link controller beside its registers (R33, R38, R39, R41, R43, R45): the outstanding acknowledged command and its retries,
frames that wait for the downstream lane with their requester index, requests held for an open gate, whether a frame is being sent,
the training step (0 none) and repeats, DN_CRC events in this wedge period, the 1 s retraining timer, the over-temperature state, and
whether a link loss has taken the actuator out of service until re-admission. -/
structure Pl where
  outst : Option PlFrame
  retries : Nat
  queue : List (Nat × PlFrame)
  held : List PlFrame
  sending : Bool
  step : Nat
  tries : Nat
  wedgeDn : Nat
  retrain : Bool
  overtemp : Bool
  lost : Bool
  lastResp : Option (Nat × List Byte)
  deriving DecidableEq, Repr

/-- What the PA12s hold (R36), as the acknowledged commands have set it: head and mode of slot 8 a + k, bias of reader r of head
11 a + h at 3 (11 a + h) + r, write current word, heater power at 2 (11 a + h) + select, last drive of slot 8 a + k. -/
structure Pa12 where
  head : Tab Nat
  mode : Tab Nat
  bias : Tab Nat
  current : Tab Nat
  heater : Tab Nat
  drive : Tab Nat
  deriving DecidableEq, Repr

/-- An identity role beside MOD_ADMIT (R48, R50): failed tries of this read, bytes read so far, and the records of the last admitted set. -/
structure IdRole where
  tries : Nat
  buf : List Byte
  recs : List (Nat × List Byte)
  deriving DecidableEq, Repr

/-! ### Sector commands, channels, lanes (04 to 08) -/

/-- Why a sector is read or written: a host command, a stripe update's member, a stripe read for an update or a rebuild, a verify read,
a recovery rewrite, the media scrub. -/
inductive SecWhy where
  | host | member | stripeRead | rebuild | verify | rewrite | scrub
  deriving DecidableEq, Repr

/-- A sector command (R200): kind, head, cylinder, physical slot, Pail and fetch stamp; `act` names the half-stack, `pool` the pool of draw mode (R314) while no Pail is
held, `ix` the sector of its command or the member of its stripe, `verify` whether R190 asks for a verify read after it, `tag` the logical address and kind it must carry (R99), `x` the data member index or stripe. -/
structure SecCmd where
  write : Bool
  act : Nat
  head : Nat
  cyl : Nat
  pslot : Nat
  pail : Nat
  pool : Option Nat
  stamp : Nat
  ix : Nat
  x : Nat
  tag : Nat
  why : SecWhy
  aborted : Bool
  verify : Bool
  deriving DecidableEq, Repr

/-- A microcode bank (R208, R209): its words, ENTRY and IMAGE_ID. -/
structure Bank where
  words : List Nat
  entry : Nat
  imageId : Nat
  deriving DecidableEq, Repr

/-- A slot record of the sample buffer (R117 to R119) with its descriptor, its snapshot, and the retry ladder of its sector (R150 to R153):
state (FREE 0, FILLING 1, HELD 2, CAPTURE 3), ranked candidate offsets with their metrics, tried positions with the lowest UNSAT and
whether the attempt converged, step, iterations, and what the last attempt left. `drop` marks a sector to be discarded (R149). -/
structure SlotRec where
  st : Nat
  seed : Nat
  zone : Nat
  act : Nat
  head : Nat
  cyl : Nat
  surface : Nat
  pslot : Nat
  split : Nat
  mets : List Nat
  readers : Nat
  ta : Nat
  time : Nat
  taStart : Nat
  taEnd : Nat
  cmd : Option SecCmd
  snap : List (Nat × Nat)
  seq : Nat
  rank : List (Int × Nat)
  missed : Bool
  step : Nat
  tried : List (Int × Nat × Bool)
  iters : Nat
  itLast : Nat
  unsat : Nat
  lanes : Nat
  flips : Nat
  budget : Bool
  drop : Nat
  trig : Nat
  stat : Nat
  deriving DecidableEq, Repr

/-- A request for re-equalisation on port 1 (R124): slot record, sync position, profile. -/
structure Reeq where
  slot : Nat
  pos : Int
  profile : Nat
  deriving DecidableEq, Repr

/-- A channel beside its registers: its read gate and write gate (R33, R203). -/
structure ChanSt where
  rgate : Bool
  wgate : Bool
  bank0 : Bank
  bank1 : Bank
  stack : List Nat
  foc : Int
  tbit : Nat
  /-- TARGET (R200), whether its field has begun or been admitted, been cut, ended with the gate open, or may not open (R164). -/
  target : Option SecCmd
  begun : Bool
  cut : Bool
  ended : Bool
  barred : Bool
  /-- Frames verified when the field of TARGET began (R78). -/
  mark : Nat
  /-- The word at PC has issued already (it waits in WAIT mode or for its bit), so it is not late (R203). -/
  waiting : Bool
  fifo : List SecCmd
  reports : List (SecCmd × Nat)
  /-- Sample buffer (R117), software writes waiting for offset -8 (R129), the rollback due (R126), the count of fields read. -/
  sb : Tab SlotRec
  staged : List (Nat × Nat)
  rollback : Option (List (Nat × Nat))
  fieldSeq : Nat
  lastGood : Nat
  /-- Re-equalisation queue and the refused requests the Churn holds (R124). -/
  reeq : List Reeq
  refused : List Reeq
  /-- Head and zone group whose sets are loaded (R116), and the working values kept in SRAM. -/
  sets : Option (Nat × Nat)
  working : Tab (List (Nat × Nat))
  /-- Calibration (R131): the values to restore, paused by a seek; withdrawn from the scheduler. -/
  calOld : List (Nat × Nat)
  calPaused : Bool
  withdrawn : Bool
  /-- Write channel (R162, R168): encoded sectors, setup commands that returned OK, precompensation waiting for offset -8. -/
  encoded : List SecCmd
  setup : Nat
  pcStaged : Option Nat
  atSwap : Bool
  /-- Retired (R207, R521); the source whose RETIRE waits for a boundary. -/
  retired : Bool
  retireBy : Option Nat

  deriving DecidableEq, Repr

/-- Microcode staging (R208): the staged image, and the image of BOOT_IMAGE as loaded. -/
structure Stage where
  image : List Byte
  mask : Nat
  reason : Nat
  deriving DecidableEq, Repr

/-- A timing recovery unit beside its registers (R61 to R81): consecutive good and bad frames, the last frame number and cylinder, the
frames verified since reset, speed samples off, GATE_KILL, the widened wedge window, the half-stack retired by step 8 of
R77, the clock head flying, the gap in frames since the last verified frame. -/
structure Tru where
  good : Nat
  bad : Nat
  prev : Option (Nat × Nat)
  verified : Nat
  speedBad : Nat
  kill : Bool
  widened : Bool
  retired : Bool
  flying : Bool
  failed : Bool
  sample : Nat
  deriving DecidableEq, Repr

/-! ### The Churn (06_churn.md) -/

/-- A sector in a lane's input buffer: channel (32 for the replay channel VC) and slot record. -/
structure LJob where
  n : Nat
  k : Nat
  deriving DecidableEq, Repr

/-- A decode attempt (R143, R148): sweeps, lowest UNSAT, sweeps since it was bettered, gang width and members, gang join asked. -/
structure Att where
  job : LJob
  sweeps : Nat
  low : Nat
  since : Nat
  width : Nat
  members : List Nat
  asked : Bool
  deriving DecidableEq, Repr

/-- A lane beside its registers (R137, R149): input buffers, oldest first; the attempt running; a converged result that waits for the
output store, as its sector's status word. -/
structure LaneSt where
  ib : List LJob
  att : Option Att
  held : Option (LJob × Nat)
  deriving DecidableEq, Repr

/-- A request to a lane allocator (R147): kind 0 live, 1 retry, 2 gang join of the attempt on `lane`. -/
structure LaneReq where
  kind : Nat
  n : Nat
  k : Nat
  lane : Nat
  deriving DecidableEq, Repr

/-- A sector in an output store (R149): its command, where its slot record stands, and its status word. -/
structure StoreEnt where
  n : Nat
  k : Nat
  cmd : SecCmd
  status : Nat
  deriving DecidableEq, Repr

/-- A half of the Churn (R146, R147, R149): the lane at which the search starts, the channels at which each round robin starts, requests,
output store. -/
structure HalfSt where
  ptr : Nat
  rrLive : Nat
  rrRetry : Nat
  rrGang : Nat
  reqs : List LaneReq
  store : List StoreEnt
  deriving DecidableEq, Repr

/-- A capture record (R193): channel, trigger, status, SEQ, stamp, the slot record, and the replay fields. -/
structure CapRec where
  chan : Nat
  trig : Nat
  status : Nat
  seq : Nat
  stamp : Nat
  slot : SlotRec
  rpStatus : Nat
  rpSteps : List Nat
  deriving DecidableEq, Repr

/-- The capture and replay unit (R192 to R197): the ring of records, the capture sequence number, whether the area is full, copies waiting,
the replay's record index, remaining steps and last step's result, abort asked. -/
structure Cru where
  recs : Tab CapRec
  seq : Nat
  copies : List (Nat × Nat)
  rpIdx : Nat
  rpLeft : List Nat
  rpLast : Option (Nat × Nat × Bool)
  abort : Bool
  deriving DecidableEq, Repr

/-! ### Stripes (07_write_and_stripes.md) -/

/-- Form of a stripe update (R180). -/
inductive UpForm where
  | full | delta | reconstruct
  deriving DecidableEq, Repr

/-- A stripe update (R180, R182): stripe, members written by data position with their Pail, its command's stamp, its generation, form,
members still to be read, mask of members not yet written, whether parity is in its Pails, places of the members read, pool of its Pails. -/
structure Update where
  stripe : Nat
  pos : List (Nat × Nat)
  stamp : Nat
  gen : Nat
  form : UpForm
  reads : List Nat
  mask : List Nat
  parityDone : Bool
  tmp : List (Nat × Nat)
  pool : Nat
  deriving DecidableEq, Repr

/-- An open-stripe table entry (R182). -/
structure OpenStripe where
  stripe : Nat
  gen : Nat
  mask : List Nat
  deriving DecidableEq, Repr

/-- A hole table entry (R185); SUSPECT or OMITTED. -/
structure Hole where
  stripe : Nat
  pos : Nat
  suspect : Bool
  deriving DecidableEq, Repr

/-- A rebuild in progress (R187): stripe, lost member, the read it serves, whether its reads have been sent, members being read, pool. -/
structure Rebuild where
  stripe : Nat
  pos : Nat
  cmd : Option SecCmd
  started : Bool
  reads : List Nat
  pool : Nat
  deriving DecidableEq, Repr
/-! ### The motion control engine and the servo (09_control_engine.md, 10_actuators_servo.md) -/

/-- The input of an evaluation (R217, R221): y, r and FF of the trigger as BF24 words, whether y is valid, core-cycle count at the trigger. -/
structure CellIn where
  y : Nat
  r : Nat
  ff : Nat
  valid : Bool
  time : Nat
  deriving DecidableEq, Repr

/-- What an evaluation leaves (R221, R225): its input, the new states, u, P, D and FF for the group, SAT, transfer, clamp of the transfer,
exponent saturation, gain set. -/
structure CellOut where
  inp : CellIn
  e : Nat
  yf : Nat
  d : Nat
  i : Nat
  v : Nat
  u : Nat
  p : Nat
  bq : Tab (Nat × Nat)
  sat : Bool
  transfer : Bool
  clamp : Bool
  numeric : Bool
  gset : Nat
  deriving DecidableEq, Repr

/-- A loop cell beside its dictionary entries (R217, R221 to R226, R232, R242). -/
structure CellSt where
  iPrev : Nat
  dPrev : Nat
  ePrev : Nat
  yPrev : Nat
  vPrev : Nat
  uLast : Nat
  bq : Tab (Nat × Nat)
  gset : Nat
  greq : Option Nat
  due : Bool
  live : Bool
  ref : Nat
  ready : Option CellIn
  run : Option CellOut
  pend : Option CellIn
  last : Option CellOut
  sat : Nat
  satTotal : Nat
  evals : Nat
  misses : Nat
  overruns : Nat
  missAt : List Nat
  /-- Shadow (R241, R242): the input waiting with its source's u and EVAL, largest difference, RMS, first excess, inputs skipped. -/
  shadow : Option (CellIn × Nat × Nat × Nat)
  maxDiff : Nat
  rms : Nat
  first : Option Nat
  skipped : Nat
  deriving DecidableEq, Repr

/-- A profile generator channel (R228 to R230): x as BF24, v and a as BF24, position at rest in 1/4,096, segment counts, periods done, target,
queued target, STOP taken at the next period. -/
structure PgSt where
  x : Nat
  v : Nat
  a : Nat
  pos : Int
  plan : Option (Nat × Nat × Nat)
  k : Nat
  target : Int
  queued : Option Int
  stop : Bool
  deriving DecidableEq, Repr

/-- A residual check (R233): filtered residual, last positions and current, valid samples in a row, evaluations above the limit, raised. -/
structure Plaus where
  rf : Nat
  x1 : Int
  x2 : Int
  i1 : Int
  run : Nat
  overs : Nat
  deriving DecidableEq, Repr

/-- A motion record (R240). -/
structure MotRec where
  cell : Nat
  gset : Nat
  flags : Nat
  eval : Nat
  y : Nat
  r : Nat
  ff : Nat
  u : Nat
  time : Nat
  deriving DecidableEq, Repr

/-- Motion recording and replay beside 0xF020 (R240 to R242): records, REC_STATE, write index, lost, records left after a fault (mode 2),
REPLAY_STATE, next record, end of the replay. -/
structure MotRecd where
  recs : Tab MotRec
  st : Nat
  wr : Nat
  total : Nat
  lost : Nat
  left : Option Nat
  rpSt : Nat
  rpPos : Nat
  rpEnd : Nat
  deriving DecidableEq, Repr

/-- A seek (R250, R251): cylinder, heads admitted with their displacement in 1/8,192 track, writing heads, anchor in 1/8,192 track, step (1 gates closing, 2 profile, 3 settling, 4 following),
settled samples, whether it has been repeated. -/
structure Seek where
  cyl : Nat
  heads : List (Nat × Int)
  writes : List Nat
  anchor : Int
  step : Nat
  good : Nat
  repeated : Bool
  deriving DecidableEq, Repr

/-- An actuator beside its registers (R247 to R260): the seek, the request queued behind it, last two positions in 1/4,096 track, load step
(0 none), load retries, park step (0 none), retract step, whether the retract ended fast, wedge periods of quiet left after DN_CRC, heads a seek left
out, positions that this frame's wedges give (R248), whether the actuator retires when its unload or retract ends. -/
structure Servo where
  seek : Option Seek
  queued : Option (Nat × List Nat × List Nat)
  y1 : Int
  y2 : Int
  loadStep : Nat
  loadTries : Nat
  parkStep : Nat
  retract : Nat
  fast : Bool
  quiet : Nat
  refused : List Nat
  contrib : List Int
  retireAt : Bool
  deriving DecidableEq, Repr

/-- The spindle controller beside its registers (11_spindle.md). `step` is the step of R271 (0 none, 10 the 500 ms wait), `tries` the attempts
failed, `pulses` the current peaks measured, `double` whether PULSE_T is doubled. Observer (R269): stator currents of the last tick in mA, ef and
the speed as words of the observer's own format (log 9), electrical periods in a row with |err| below 10 and above 30 degrees and whether the period
so far is below and above. HOLD (R277): mode before it, samples, periods, frozen reference, the mode change that waits for it (1 START, 2 STOP,
3 COAST), power lost meanwhile. `g` is the group output (R227); `stopping` a STOP or chopper stop that waits for the actuators; `zvThen` what follows
standstill (0 STOPPED, 1 the start); `near` ticks within 1 %, `overs` periods of overcurrent, `crossings` crossings of CATCH with the last interval in
core cycles; winding and ambient temperature as BF24 (R275). -/
structure Spin where
  step : Nat
  tries : Nat
  pulses : List Nat
  double : Bool
  iA : Int
  iB : Int
  efA : Nat
  efB : Nat
  omega : Nat
  below : Nat
  above : Nat
  allBelow : Bool
  allAbove : Bool
  holdFrom : Nat
  samples : List Int
  holdN : Nat
  iqRef : Nat
  want : Nat
  lostPower : Bool
  g : Nat
  stopping : Bool
  chopStop : Bool
  zvThen : Nat
  near : Nat
  overs : Nat
  crossings : Nat
  winding : Nat
  ambient : Nat
  /-- After a restart of MOT (20_faults.md R465): 1 CATCH when the lanes return, 2 actuators reload at speed. -/
  restart : Nat
  deriving DecidableEq, Repr

/-! ### The buffer and the metadata cache (12_buffer_memory.md, 13_pails_and_cache.md) -/

/-- A request to the buffer that waits (R297, R306): requester, address, length, bytes of a write. -/
structure BufOp where
  req : BufReq
  addr : Nat
  len : Nat
  wr : Option (List Byte)
  deriving DecidableEq, Repr

/-- A pseudo-channel beside its registers: intake held (R306), cause met and not yet taken (R304), words corrected in this second, seconds in a row
above CE_LIM, times of the strong corrections (R304), failed re-tracks in a row (R292), next row and restarts of that row of the Skimmer (R302). -/
structure PcSt where
  held : Bool
  due : Nat
  ce : Nat
  ceBad : Nat
  scAt : List Nat
  retries : Nat
  row : Nat
  restarts : Nat
  deriving DecidableEq, Repr

/-- The ECC unit, the PCs and the Skimmer (R287 to R306). `err` holds the words whose stored 72 bits differ from their content, as a mask by word
address; `parity` the pages with an entry in the parity update buffer, oldest first; `poison` the lost words of poisoned pages as a mask; `flip` the
armed flip with its PC and page; `hot` the readings above 125 degrees in a row; `arrears` the refreshes postponed, by 256 * PC + bank; `waits` the
requests held; `media` the 4 KiB blocks that hold a sector read from the media, whose bytes are free values (log 15), and `overlay` the bytes written
into such blocks since. -/
structure Buf where
  err : Tab Nat
  parity : List Nat
  poison : Tab Nat
  flip : Option (Nat × Option Nat)
  hot : Nat
  arrears : Tab Nat
  pc : Tab PcSt
  waits : List BufOp
  track : Nat
  lap : Bool
  overdue : Bool
  filled : Bool
  selfRefresh : Bool
  media : Tab Nat
  overlay : Tab Nat
  deriving DecidableEq, Repr

/-- An outstanding fill (R323, R324, R326, R327): its line and way, who waits (port, address, length), whether it may be installed. -/
structure McFill where
  line : Nat
  way : Nat
  who : List (Nat × Nat × Nat)
  installs : Bool
  deriving DecidableEq, Repr

/-- A merging-buffer entry (R323): its 64-byte granule and the bytes written, by offset. -/
structure MergeEnt where
  granule : Nat
  bytes : Tab Nat
  deriving DecidableEq, Repr

/-- The metadata cache beside its registers: lines by 16 * set + way, tree pseudo-LRU bits by set, fills, merging buffer oldest first, the range
being invalidated, and reads that wait for a fill place. -/
structure Mcc where
  tags : Tab Nat
  plru : Tab Nat
  fills : List McFill
  merge : List MergeEnt
  inv : Option (Nat × Nat)
  waits : List (Nat × Nat × Nat)
  deriving DecidableEq, Repr

/-- The state of the ODC7. -/
structure State where
  /-- Ordering code (R1); DESIGN CHOICE A44 at reset (log 2). -/
  part : Part
  /-- Core-cycle count, wide value CORE_TIME (R419). -/
  coreTime : BitVec 64
  /-- Register fields (staged value of RWC fields). -/
  regs : Tab Nat
  /-- Value in force of RWC register fields (R421). -/
  regsRun : Tab Nat
  /-- Dictionary values: RW, RWS, and the staged value of RWC entries (R428), keyed 256 * index + subindex. -/
  od : Tab OdVal
  /-- Dictionary values in force of RWC entries and of the RWS entries checked at commit (R429). -/
  odRun : Tab OdVal
  /-- Entries that report PENDING (R429). -/
  odPending : List Nat
  /-- The dictionary store in MRAM (R430): the P values, and whether a copy is valid. -/
  store : Tab OdVal
  storeRegs : Tab Nat
  storeValid : Bool
  storeGen : Nat
  /-- Per-source entries: CRC_EXPECT, OFFSET, EVENT_MASK, NONCE and the other entries marked per source, keyed by entry and source. -/
  perSrc : Tab Nat
  nonce : Tab (List Byte)
  /-- Assembly buffers (R443). -/
  asm : Tab Asm
  /-- The request that waits in a register crossing of the gateway, and whether it writes (R431, R436). -/
  odWait : Option (OdWho × Bool)
  /-- The staged set frozen by a commit and who asked (R424). -/
  commitBoot : Bool
  failIndex : Nat
  failSub : Nat
  /-- Accesses that wait for a domain to come on (R417 step 3), by requester. -/
  crossing : Tab Access
  /-- Wide values beyond 32 bits (R419): HBM_FLIP_MASK, FETCH_STAMP, WRITE_GEN. -/
  flipMask : BitVec 72
  fetchStamp : BitVec 64
  writeGen : BitVec 64
  /-- Completion doorbell array: HEAD and LAP last written (R378, R411). -/
  crDoor : Tab Nat
  fc : Fc
  recd : Recorder
  health : Tab Indicator
  /-- Host time of the Timestamp feature, in ms, and the core time when it was set (R491). -/
  hostTime : Option (Nat × Nat)
  zl : Zalene
  pwr : Pwr
  sec : Sec
  /-- PCIe ports and NVMe controllers, by port. -/
  port : Tab Port
  /-- Submission and completion rings, by number; the ring engine; stamped commands; sectors newer than the media; the buffer's DMA. -/
  sr : Tab SubRing
  cr : Tab CompRing
  reng : RingEng
  cmds : List Cmd
  dirty : List Dirty
  dch : Tab DmaCh
  eng : Tab Engine
  dtu : Dtu
  obj : Obj
  /-- Reservations by namespace index, media purge in progress with its command (participant, CID) (R363, R364). -/
  resv : Tab Resv
  purge : Option (Nat × Nat)
  dropped : Nat
  /-- Churn code-table copies retired, bit c for copy c (06_churn.md R157). -/
  codeRetired : Nat
  /-- Pail pools, by number. -/
  pool : Tab Pool
  /-- Data heads, by 11 a + h. -/
  head : Tab HeadSt
  /-- PA12 link controllers, by actuator. -/
  plink : Tab Pl
  pa : Pa12
  /-- Identity roles. -/
  ident : Tab IdRole
  /-- Channels. -/
  chan : Tab ChanSt
  mstage : Stage
  /-- Microcode loaded at start-up is valid (R208). -/
  bootBad : Bool
  tru : Tab Tru
  /-- Calibration sets of (head, zone group), at 8 * (11 a + h) + g (R116). -/
  calSet : Tab (List (Nat × Nat))
  /-- Sectors that wait for the command scheduler to dispatch them (R393). -/
  sched : List SecCmd
  /-- Primary and grown defect lists (R102): key (surface, cylinder, slot), the GDL's with its spare slot (cylinder, slot). -/
  pdl : List (Nat × Nat × Nat)
  gdl : List (Nat × Nat × Nat × Nat × Nat)
  surfRetired : List Nat
  lane : Tab LaneSt
  half : Tab HalfSt
  cru : Cru
  updates : List Update
  openStripes : List OpenStripe
  savedStripes : Option (List OpenStripe)
  holes : List Hole
  rebuilds : List Rebuild
  /-- Members that wait for a verify read (R190), and recovery rewrites decided (R191). -/
  verifies : List SecCmd
  rewrites : List (SecCmd × Nat)
  /-- Sectors delivered to their Pails with their status code (R149, R154). -/
  ready : List (SecCmd × Nat)
  /-- Loop cells by number; cells started on each lane, the running one first; profile channels; residual checks (0 to 3 VCM, 4 spindle);
  motion recording; actuators; whether SHOCK is held. -/
  cell : Tab CellSt
  mlane : Tab (List Nat)
  pg : Tab PgSt
  plaus : Tab Plaus
  mrec : MotRecd
  servo : Tab Servo
  shockHeld : Bool
  /-- The spindle controller beside its registers. -/
  spin : Spin
  /-- The buffer: its bytes by address, in the canonical form of `Memory.wf`; the ECC unit; the metadata cache. -/
  mem : List Host.Cell
  buf : Buf
  mcc : Mcc

  /-- Lifetime counts (R366): 0 spin-ups, 1 failed start attempts, 2 actuator loads, 3 failed loads. -/
  life : Tab Nat
  /-- MODEL'S OWN: names the free values (log 1). -/
  free : Nat
  /-- MODEL'S OWN: what the part emitted, newest first (log 3). -/
  out : List Out
  /-- MODEL'S OWN: the commands waiting, first in first out. -/
  pending : List Instr
  deriving DecidableEq, Repr

/-- Why the machine would stop with a fault. -/
inductive Fault where
  /-- Raised by no command: the spec gives every command an effect, and an access that the spec calls an error is answered by
  a status, a bus error or a fault record, which are next states. Kept so that the type names its one reason; safe. -/
  | none
  deriving DecidableEq, Repr

/-- Why the model would refuse a command. -/
inductive Refusal where
  /-- The command has no meaning in the model yet. Raised by `exec`'s arms only; safe. -/
  | notModelled (mnemonic : String)
  deriving DecidableEq, Repr

def RecHeader.zero : RecHeader :=
  { gen := 0, keepCount := 0, wrIdx := 0, wrapped := false, seqNext := 0, clearCount := 0, lost := 0, suppressed := 0, laps := 0 }

/-- A flash slot that holds no image (log 30). -/
def blankImage : ImageInfo :=
  { readError := false, magicOk := false, version := 0, keyId := 0, lengthOk := false, svn := 0, sigOk := false, hash := 0 }

def Fc.reset : Fc :=
  { block := [], region := [], up := [], chip := none, last := none, c2Sources := [], c3Regions := [], restarting := [],
    restartEnd := [], alive := false }

def Recorder.reset : Recorder :=
  { inbox := [], staged := [], keep := [], ring := [], header := .zero, cur := .zero, rate := 0, flushing := false,
    freeze := .running, lostInFreeze := 0, blocked := false }

def Zalene.reset : Zalene :=
  { sessions := [], handshakes := [], nextNumber := 1, announce := 0, strap := 0, addrBad := false, staticBad := false }

def Pwr.reset : Pwr :=
  { kind := .idle, waiting := [], acked := [], started := false, parked := [], exitFrom := 0, pwrdisLater := false, byPwrdis := false,
    startStep := 1, por := false, inReset := false, bootDone := false, ready := false, pfail := false, cause := 1 }

/-- The selection record when no copy is valid (R512). -/
def SelRec.none : SelRec := { gen := 0, active := 0, pending := 0xFF, tries := 0, recoveryReq := false, testReq := false }

def Sec.reset : Sec :=
  { dm := [], mg := [], sel := .none, imgA := blankImage, imgB := blankImage, minSvn := 0, revoke0 := false, bootCount := 0,
    quoteCount := 0, modeCause := 0, dl := Option.none, sw := Option.none, formatReason := 0, formatHash := 0, recal := [] }

def Port.reset : Port :=
  { linkUp := false, perst := true, ats := false, pri := false, pasid := false, alloc := 0, respFail := false, mps := 128, mrrs := 512,
    en := false, rdy := false, cfs := false, frozen := false, sq := [], cq := [], feat := [], aer := [], errLog := [], resvLog := [] }

def SubRing.free : SubRing :=
  { st := 0, base := 0, attr := 0, cr := 0, size := 6, pool := 0, head := 0, tail := 0, full := false, weight := 1, burst := 1, upd := none, code := 0,
    cid := 0, errHead := 0, detail := 0, errStamp := 0, copies := [], release := [], held := false }
def CompRing.free : CompRing :=
  { st := 0, base := 0, attr := 0, size := 6, vector := 0, irq := false, tail := 0, head := 0, holdback := [], credits := 0, code := 0, detail := 0,
    errHead := 0, errStamp := 0, wait := false, signal := false }
def DmaCh.reset : DmaCh := { q := [], run := none, issued := [], marked := [], retry := false }
def Engine.reset : Engine := { runs := [], running := none, retired := false, handed := false, soft := false }
def Resv.none : Resv := { regs := [], holder := Option.none, type := 0, gen := 0, ptpl := false }

def Pool.reset : Pool := { alloc := [], reserved := [], waiting := [], minFree := 0, low := false, emptyCount := 0 }

def HeadSt.reset : HeadSt :=
  { retired := false, retiredRead := false, retiredWrite := false, readerExcl := 0
    , uncal := false
    , outliers := 0, relearn := 0, check := 0, goodLast := true, lostW := 0
    , disp := 0, writing := false, readRun := 0, writeRun := 0, badRun := 0, wedge := 0, ro := [], satur := false, calLeft := []

  }

def Pl.reset : Pl :=
  { outst := none, retries := 0, queue := [], held := [], sending := false, step := 0, tries := 0, wedgeDn := 0, retrain := false,
    overtemp := false, lost := false, lastResp := none }

/-- The PA12s after LINK_RESET (log 7). -/
def Pa12.reset : Pa12 := { head := [], mode := [], bias := [], current := [], heater := [], drive := [] }

def IdRole.reset : IdRole := { tries := 0, buf := [], recs := [] }

def Bank.blank : Bank := { words := [], entry := 0, imageId := 0 }

def SlotRec.free : SlotRec :=
  { st := 0, seed := 0, zone := 0, act := 0, head := 0, cyl := 0, surface := 0, pslot := 0, split := 0xFFFFFFFF, mets := [], readers := 0,
    ta := 0, time := 0, taStart := 0xFFFFFFFF, taEnd := 0, cmd := none, snap := [], seq := 0, rank := [], missed := false, step := 0, tried := [],
    iters := 0, itLast := 0, unsat := 0, lanes := 1, flips := 0, budget := false, drop := 0, trig := 0, stat := 0 }

def ChanSt.reset : ChanSt :=
  { rgate := false, wgate := false
    , bank0 := .blank, bank1 := .blank, stack := [], foc := 0, tbit := 0, target := none, begun := false, cut := false, ended := false,
    barred := false, mark := 0, waiting := false, fifo := [], reports := [], sb := [], staged := [], rollback := none, fieldSeq := 0, lastGood := 0, reeq := [],
    refused := [], sets := none, working := [], calOld := [], calPaused := false, withdrawn := false,
    encoded := [], setup := 0, pcStaged := none, atSwap := false, retired := false, retireBy := none

  }
def Tru.reset : Tru :=
  { good := 0, bad := 0, prev := none, verified := 0, speedBad := 0, kill := false, widened := false, retired := false, flying := false,
    failed := false, sample := 0 }
def LaneSt.reset : LaneSt := { ib := [], att := none, held := none }
def HalfSt.reset : HalfSt := { ptr := 0, rrLive := 0, rrRetry := 0, rrGang := 0, reqs := [], store := [] }
def CellSt.reset : CellSt :=
  { iPrev := 0, dPrev := 0, ePrev := 0, yPrev := 0, vPrev := 0, uLast := 0, bq := [], gset := 0, greq := none, due := false, live := false, ref := 0,
    ready := none, run := none, pend := none, last := none, sat := 0, satTotal := 0, evals := 0, misses := 0, overruns := 0, missAt := [], shadow := none,
    maxDiff := 0, rms := 0, first := none, skipped := 0 }
def PgSt.reset : PgSt := { x := 0, v := 0, a := 0, pos := 0, plan := none, k := 0, target := 0, queued := none, stop := false }
def Plaus.reset : Plaus := { rf := 0, x1 := 0, x2 := 0, i1 := 0, run := 0, overs := 0 }
def Servo.reset : Servo :=
  { seek := none, queued := none, y1 := 0, y2 := 0, loadStep := 0, loadTries := 0, parkStep := 0, retract := 0, fast := false, quiet := 0, refused := [], contrib := [], retireAt := false }
def Spin.reset : Spin :=
  { step := 0, tries := 0, pulses := [], double := false, iA := 0, iB := 0, efA := 0, efB := 0, omega := 0, below := 0, above := 0,
    allBelow := true, allAbove := true, holdFrom := 0, samples := [], holdN := 0, iqRef := 0, want := 0, lostPower := false, g := 0, stopping := false,
    chopStop := false, zvThen := 0, near := 0, overs := 0, crossings := 0, winding := 0, ambient := 0, restart := 0 }
def PcSt.reset : PcSt := { held := false, due := 0, ce := 0, ceBad := 0, scAt := [], retries := 0, row := 0, restarts := 0 }
def Buf.reset : Buf :=
  { err := [], parity := [], poison := [], flip := none, hot := 0, arrears := [], pc := [], waits := [], track := 0, lap := true, overdue := false,
    filled := false, selfRefresh := false, media := [], overlay := [] }
def Mcc.reset : Mcc := { tags := [], plru := [], fills := [], merge := [], inv := none, waits := [] }

/-- The machine right after reset: RESET_N released, step 1 of R488 reached, every register field at its reset value. -/
def State.reset : State :=
  { part := .a44, coreTime := 0, regs := [], regsRun := [], od := [], odRun := [], odPending := [], store := [], storeRegs := [],
    storeValid := false, storeGen := 0, perSrc := [], nonce := [], asm := [], odWait := .none, commitBoot := false, failIndex := 0, failSub := 0,
    crossing := [], flipMask := 0, fetchStamp := 0, writeGen := 0, crDoor := [], fc := .reset, recd := .reset, health := [], hostTime := none, zl := .reset, pwr := .reset, sec := .reset,
    port := [], sr := [], cr := [], reng := { ptr := 1050625, turns := [], turn := none, strict := 0, ended := [], drain := 0 }, cmds := [], dirty := [],
    dch := [], eng := [], dtu := { atc := [], plru := [], ats := [], pri := [], inval := [] },
    obj := { slots := [], media := [], stripes := [], front := none, pend := [], loaded := false }, resv := [], purge := none, dropped := 0,
    codeRetired := 0,
    pool := [],
    head := [],
    plink := [], pa := .reset, ident := [], chan := [],
    mstage := { image := [], mask := 0, reason := 0 }, bootBad := false, tru := [], calSet := [], sched := [], pdl := [], gdl := [], surfRetired := [],
    lane := [], half := [], cru := { recs := [], seq := 0, copies := [], rpIdx := 0, rpLeft := [], rpLast := none, abort := false }, updates := [], openStripes := [], savedStripes := none, holes := [], rebuilds := [], verifies := [], rewrites := [], ready := [],
    cell := [], mlane := [], pg := [], plaus := [], mrec := { recs := [], st := 0, wr := 0, total := 0, lost := 0, left := none, rpSt := 0, rpPos := 0, rpEnd := 0 },
    servo := [], shockHeld := false,
    spin := .reset,
    mem := [], buf := .reset, mcc := .reset,

    life := [], free := 0, out := [], pending := [] }

end Sys2Proof.Machine
end

