-- ==== Sys2Proof/Machine/Tab.lean ====
section
/-! DEFINITION. Tab.lean: reading and writing the sparse keyed state, in its one canonical form (keys strictly rising). -/

namespace Sys2Proof

/-- The value at a key, if it is listed. -/
def tabFind {α : Type} : Tab α → Nat → Option α
  | [], _ => none
  | (k, v) :: r, a => if k = a then some v else tabFind r a

/-- The value at a key, or `d` where nothing is listed. -/
def tabGet {α : Type} (d : α) (t : Tab α) (a : Nat) : α := (tabFind t a).getD d

/-- Lists `v` at key `a`, keeping the keys rising. -/
def tabSet {α : Type} : Tab α → Nat → α → Tab α
  | [], a, v => [(a, v)]
  | (k, w) :: r, a, v =>
    if a < k then (a, v) :: (k, w) :: r
    else if k = a then (a, v) :: r
    else (k, w) :: tabSet r a v

/-- Unlists key `a`. -/
def tabDel {α : Type} : Tab α → Nat → Tab α
  | [], _ => []
  | (k, w) :: r, a => if k = a then r else (k, w) :: tabDel r a

/-- Changes the value at a key with a function. -/
def tabMod {α : Type} (d : α) (t : Tab α) (a : Nat) (f : α → α) : Tab α := tabSet t a (f (tabGet d t a))

/-- The keys are strictly rising. -/
def tabWf {α : Type} : Tab α → Bool
  | [] => true
  | [_] => true
  | (k, _) :: (k', v') :: r => decide (k < k') && tabWf ((k', v') :: r)

/-- The keys listed. -/
def tabKeys {α : Type} (t : Tab α) : List Nat := t.map Prod.fst

end Sys2Proof
end

