-- ==== Sys2Proof/Machine/Dict.lean ====
section
/-! DEFINITION. Dict.lean: the descriptor of every object-dictionary entry: types (19_object_dictionary.md R427), access classes (R428),
persistence (R430), defaults and ranges, from the entry tables of all chapters. -/

namespace Sys2Proof.Machine
open Sys2Proof

/-- Type codes of R427. -/
inductive OdTy where
  | bool | u8 | u16 | u32 | u64 | i8 | i16 | i32 | i64 | bf24 | str | octets | domain
  deriving DecidableEq, Repr

/-- Access classes of R428. -/
inductive OdAcc where
  | const | ro | rw | wo | rws | rwc
  deriving DecidableEq, Repr

/-- One row: indexes ix to ix + n - 1, subindexes sub to sub + m - 1; type, class, P mark, checked at commit (R429), held per source,
range failures are PARAM (R235); range, maximum length, default on the A44 and on the A22, and a code for a default that is no plain number. -/
structure OdRow where
  ix : Nat
  n : Nat
  sub : Nat
  m : Nat
  ty : OdTy
  acc : OdAcc
  p : Bool
  chk : Bool
  perSrc : Bool
  par : Bool
  rng : Option (Nat × Nat)
  max : Nat
  d44 : Nat
  d22 : Nat
  sp : Nat
  deriving DecidableEq, Repr

def OdTy.code : OdTy → Nat
  | .bool => 1 | .u8 => 2 | .u16 => 3 | .u32 => 4 | .u64 => 5 | .i8 => 6 | .i16 => 7 | .i32 => 8 | .i64 => 9
  | .bf24 => 10 | .str => 11 | .octets => 12 | .domain => 13

/-- Length in bytes of a number type (R427); 0 for a byte string. -/
def OdTy.len : OdTy → Nat
  | .bool => 1 | .u8 => 1 | .u16 => 2 | .u32 => 4 | .u64 => 8 | .i8 => 1 | .i16 => 2 | .i32 => 4 | .i64 => 8 | .bf24 => 4
  | .str => 0 | .octets => 0 | .domain => 0

def OdTy.isNum (t : OdTy) : Bool := t.len != 0

def OdAcc.code : OdAcc → Nat
  | .const => 0 | .ro => 1 | .rw => 2 | .wo => 3 | .rws => 4 | .rwc => 5

/-- The key of an entry in `od`. -/
def odKey (ix sub : Nat) : Nat := ix * 256 + sub

/-- Bytes of a number, little-endian (R5). -/
def leBytes : Nat → Nat → List Byte
  | 0, _ => []
  | n + 1, v => BitVec.ofNat 8 v :: leBytes n (v / 256)

/-- The number of little-endian bytes (R5). -/
def leNat : List Byte → Nat
  | [] => 0
  | b :: r => b.toNat + 256 * leNat r

/-- The bytes of an ASCII text. -/
def ascii (t : String) : List Byte := t.toList.map (fun c => BitVec.ofNat 8 c.toNat)

/-- The reference format (04_zones_and_format.md R85): B, N, WSK and skew of zones Z0 to Z39. -/
def zoneRef : List (Nat × Nat × Nat × Nat) :=
  [(65103, 1348, 16275, 98), (64268, 1330, 16067, 96), (63434, 1313, 15858, 95), (62599, 1296, 15649, 94), (61764, 1278, 15441, 93),
   (60930, 1261, 15232, 91), (60095, 1244, 15023, 90), (59261, 1227, 14815, 89), (58426, 1209, 14606, 88), (57591, 1192, 14397, 86),
   (56757, 1175, 14189, 85), (55922, 1157, 13980, 84), (55087, 1140, 13771, 83), (54253, 1123, 13563, 81), (53418, 1105, 13354, 80),
   (52583, 1088, 13145, 79), (51749, 1071, 12937, 78), (50914, 1053, 12728, 76), (50079, 1036, 12519, 75), (49245, 1019, 12311, 74),
   (48410, 1001, 12102, 73), (47576, 984, 11894, 71), (46741, 967, 11685, 70), (45906, 949, 11476, 69), (45072, 932, 11268, 68),
   (44237, 915, 11059, 66), (43402, 897, 10850, 65), (42568, 880, 10642, 64), (41733, 863, 10433, 63), (40898, 845, 10224, 61),
   (40064, 828, 10016, 60), (39229, 811, 9807, 59), (38394, 793, 9598, 58), (37560, 776, 9390, 56), (36725, 759, 9181, 55),
   (35891, 741, 8972, 54), (35056, 724, 8764, 53), (34221, 707, 8555, 51), (33387, 689, 8346, 50), (32552, 672, 8138, 49)]

/-- Default of a zone entry (R88), column i of 0x3100 + z. -/
def zoneDefault (z i : Nat) : Nat :=
  let r := zoneRef.getD z (0, 0, 0, 0)
  match i with
  | 0 => 16000 * z
  | 1 => 16000 * z + 15999
  | 2 => if z = 39 then 64 else 80
  | 3 => r.1
  | 4 => r.2.1
  | 5 => r.2.2.1
  | _ => r.2.2.2

/-- EOL default of health indicator k (22_recorder_health.md R503), as a BF24 word; the two that follow another entry take its default. -/
def eolDefault (k : Nat) : Nat :=
  if k < 132 then (match k % 3 with | 0 => 0x4400000 | 1 => 0x97D0000 | _ => 0x4480000)
  else if k = 0x84 then 0x24CCCCD
  else if k = 0x85 then 0x1061A800
  else if k < 0x8E then (if k % 2 = 0 then 0x14493E00 else 0x400000)
  else if k = 0x8E then 0x1E773594
  else if k = 0x93 then 0x7400000 else 0x4400000

def odId : List OdRow :=
  [⟨0x1000, 1, 1, 1, .str, .const, false, false, false, false, none, 32, 0x0, 0x0, 1⟩,
   ⟨0x1000, 1, 2, 1, .str, .const, false, false, false, false, none, 32, 0x0, 0x0, 2⟩,
   ⟨0x1000, 1, 3, 1, .str, .const, false, false, false, false, none, 8, 0x0, 0x0, 3⟩,
   ⟨0x1000, 1, 4, 1, .str, .const, false, false, false, false, none, 24, 0x0, 0x0, 4⟩,
   ⟨0x1000, 1, 5, 1, .octets, .const, false, false, false, false, none, 6, 0x0, 0x0, 5⟩,
   ⟨0x1000, 1, 6, 1, .u16, .const, false, false, false, false, none, 0, 0x1, 0x1, 0⟩,
   ⟨0x1010, 1, 1, 1, .u8, .ro, false, false, false, false, none, 0, 0x0, 0x0, 0⟩,
   ⟨0x1010, 1, 2, 1, .bool, .rwc, true, false, false, false, none, 0, 0x0, 0x0, 0⟩,
   ⟨0x1010, 1, 3, 1, .u8, .rwc, true, false, false, false, some (0x0, 0xFF), 0, 0x0, 0x0, 0⟩,
   ⟨0x1010, 1, 4, 1, .u8, .rwc, true, false, false, false, some (0x1, 0xFF), 0, 0x8, 0x8, 0⟩,
   ⟨0x1010, 1, 5, 1, .u8, .rwc, true, false, false, false, some (0x1, 0xFF), 0, 0x20, 0x20, 0⟩,
   ⟨0x1010, 1, 6, 1, .u8, .rwc, true, false, false, false, some (0x0, 0xFF), 0, 0x0, 0x0, 0⟩,
   ⟨0x1010, 1, 7, 1, .u8, .rwc, true, false, false, false, some (0x1, 0xFF), 0, 0x80, 0x80, 0⟩,
   ⟨0x1010, 1, 8, 1, .u16, .rwc, true, false, false, false, some (0x400, 0xFFFF), 0, 0xC822, 0xC822, 0⟩,
   ⟨0x1010, 1, 9, 1, .octets, .rwc, true, false, false, false, none, 16, 0x0, 0x0, 6⟩,
   ⟨0x1010, 1, 10, 1, .u32, .rwc, true, false, false, false, none, 0, 0x0, 0x0, 0⟩,
   ⟨0x1020, 1, 1, 1, .u8, .ro, false, false, false, false, none, 0, 0x0, 0x0, 0⟩,
   ⟨0x1020, 1, 2, 1, .u16, .rwc, true, false, false, false, some (0xA, 0xE10), 0, 0x3C, 0x3C, 0⟩,
   ⟨0x1020, 1, 3, 1, .u16, .rwc, true, false, false, false, some (0xA, 0x1388), 0, 0x64, 0x64, 0⟩,
   ⟨0x1020, 1, 4, 1, .u32, .ro, false, false, false, false, none, 0, 0x0, 0x0, 0⟩,
   ⟨0x1020, 1, 5, 1, .u32, .ro, false, false, false, false, none, 0, 0x0, 0x0, 0⟩,
   ⟨0x1020, 1, 6, 1, .u8, .rw, false, false, true, false, none, 0, 0x0, 0x0, 0⟩,
   ⟨0x1200, 12, 1, 255, .domain, .ro, false, false, false, false, none, 131072, 0x0, 0x0, 7⟩]

def odDev : List OdRow :=
  [⟨0x2000, 1, 1, 1, .u8, .ro, false, false, false, false, none, 0, 0x0, 0x0, 0⟩,
   ⟨0x2001, 1, 1, 1, .u8, .wo, false, false, false, false, some (0x1, 0x2), 0, 0x0, 0x0, 0⟩,
   ⟨0x2001, 1, 2, 1, .u32, .rw, false, false, true, false, none, 0, 0x0, 0x0, 0⟩,
   ⟨0x2001, 1, 3, 1, .u8, .ro, false, false, false, false, none, 0, 0x0, 0x0, 0⟩,
   ⟨0x2001, 1, 4, 1, .u8, .ro, false, false, false, false, none, 0, 0x0, 0x0, 0⟩,
   ⟨0x2001, 1, 5, 1, .u8, .ro, false, false, false, false, none, 0, 0x0, 0x0, 0⟩,
   ⟨0x2001, 1, 6, 1, .u16, .ro, false, false, false, false, none, 0, 0x0, 0x0, 0⟩,
   ⟨0x2001, 1, 7, 1, .u8, .ro, false, false, false, false, none, 0, 0x0, 0x0, 0⟩,
   ⟨0x2001, 1, 8, 1, .u32, .ro, false, false, false, false, none, 0, 0x0, 0x0, 0⟩,
   ⟨0x2001, 1, 9, 1, .u32, .ro, false, false, false, false, none, 0, 0x0, 0x0, 0⟩,
   ⟨0x2002, 1, 1, 1, .u32, .rw, false, false, true, false, none, 0, 0x0, 0x0, 0⟩,
   ⟨0x2002, 1, 2, 1, .u32, .rw, false, false, false, false, none, 0, 0x0, 0x0, 0⟩,
   ⟨0x2010, 1, 1, 1, .u8, .rwc, true, false, false, false, some (0x4, 0x10), 0, 0x6, 0x6, 0⟩,
   ⟨0x2011, 1, 1, 1, .u8, .ro, false, false, false, false, none, 0, 0x0, 0x0, 0⟩,
   ⟨0x2011, 1, 2, 1, .u8, .ro, false, false, false, false, none, 0, 0x0, 0x0, 0⟩,
   ⟨0x2011, 1, 3, 1, .u8, .ro, false, false, false, false, none, 0, 0x0, 0x0, 0⟩,
   ⟨0x2011, 1, 4, 1, .u32, .ro, false, false, false, false, none, 0, 0x0, 0x0, 0⟩,
   ⟨0x2011, 1, 5, 1, .u32, .ro, false, false, false, false, none, 0, 0x0, 0x0, 0⟩,
   ⟨0x2020, 1, 1, 1, .u8, .ro, false, false, false, false, none, 0, 0x0, 0x0, 0⟩,
   ⟨0x2020, 1, 2, 1, .u8, .wo, false, false, false, false, some (0x0, 0x4), 0, 0x0, 0x0, 0⟩,
   ⟨0x2020, 1, 3, 1, .u32, .rwc, true, false, false, false, some (0x0, 0x5265C00), 0, 0x5, 0x5, 0⟩,
   ⟨0x2020, 1, 4, 1, .u32, .rwc, true, false, false, false, some (0x0, 0x5265C00), 0, 0x0, 0x0, 0⟩,
   ⟨0x2020, 1, 5, 1, .u32, .rwc, true, false, false, false, some (0x0, 0x5265C00), 0, 0x0, 0x0, 0⟩,
   ⟨0x2020, 1, 6, 1, .u16, .rwc, true, false, false, false, some (0x5, 0x258), 0, 0x3C, 0x3C, 0⟩,
   ⟨0x2020, 1, 7, 1, .u32, .rw, true, false, false, false, some (0x0, 0x278D00), 0, 0x0, 0x0, 0⟩,
   ⟨0x2020, 1, 8, 1, .u8, .ro, false, false, false, false, none, 0, 0x0, 0x0, 0⟩,
   ⟨0x2030, 1, 1, 1, .u16, .rw, false, false, true, false, none, 0, 0x0, 0x0, 0⟩,
   ⟨0x2030, 1, 2, 1, .u8, .wo, false, false, false, false, some (0x1, 0x3), 0, 0x0, 0x0, 0⟩,
   ⟨0x2030, 1, 3, 1, .u8, .rw, false, false, true, false, none, 0, 0xFF, 0xFF, 0⟩,
   ⟨0x2030, 1, 4, 1, .u8, .ro, false, false, true, false, none, 0, 0x0, 0x0, 0⟩,
   ⟨0x2030, 1, 5, 1, .u8, .ro, false, false, true, false, none, 0, 0x0, 0x0, 0⟩]

def odFmt : List OdRow :=
  [⟨0x3000, 1, 1, 1, .u8, .const, false, false, false, false, none, 0, 0x28, 0x28, 0⟩,
   ⟨0x3000, 1, 2, 1, .u8, .rws, true, false, false, false, some (0x0, 0x20), 0, 0x1C, 0x1C, 0⟩,
   ⟨0x3000, 1, 3, 1, .u8, .const, false, false, false, false, none, 0, 0x3, 0x3, 0⟩,
   ⟨0x3100, 40, 1, 1, .u32, .rws, true, true, false, false, none, 0, 0x0, 0x0, 20⟩,
   ⟨0x3100, 40, 2, 1, .u32, .rws, true, true, false, false, none, 0, 0x0, 0x0, 21⟩,
   ⟨0x3100, 40, 3, 1, .u16, .rws, true, true, false, false, none, 0, 0x0, 0x0, 22⟩,
   ⟨0x3100, 40, 4, 1, .u32, .rws, true, true, false, false, none, 0, 0x0, 0x0, 23⟩,
   ⟨0x3100, 40, 5, 1, .u16, .rws, true, true, false, false, none, 0, 0x0, 0x0, 24⟩,
   ⟨0x3100, 40, 6, 1, .u32, .rws, true, true, false, false, none, 0, 0x0, 0x0, 25⟩,
   ⟨0x3100, 40, 7, 1, .u16, .rws, true, true, false, false, none, 0, 0x0, 0x0, 26⟩,
   ⟨0x3201, 22, 1, 1, .u32, .ro, true, false, false, false, none, 0, 0x0, 0x0, 0⟩,
   ⟨0x3201, 22, 2, 1, .u32, .ro, true, false, false, false, none, 0, 0x0, 0x0, 0⟩,
   ⟨0x3201, 22, 3, 1, .u32, .ro, false, false, false, false, none, 0, 0x0, 0x0, 0⟩]

def odServo : List OdRow :=
  [⟨0x4000, 1, 1, 2, .u8, .rwc, true, false, false, false, none, 0, 0x8, 0x8, 0⟩,
   ⟨0x4000, 1, 3, 2, .u8, .rwc, true, false, false, false, none, 0, 0x8, 0x0, 0⟩,
   ⟨0x4010, 1, 1, 1, .u16, .rwc, true, false, false, true, some (0x3E8, 0x4E20), 0, 0x125C, 0x125C, 0⟩,
   ⟨0x4010, 1, 2, 1, .bf24, .rwc, true, false, false, true, some (0x0, 0x5500000), 0, 0x5400000, 0x5400000, 0⟩,
   ⟨0x4010, 1, 3, 1, .bf24, .rwc, true, false, false, true, some (0x1C00000, 0x1400000), 0, 0x0, 0x0, 0⟩,
   ⟨0x4010, 1, 4, 1, .bf24, .rwc, true, false, false, true, some (0xFA51EB85, 0x400000), 0, 0xFE4CCCCD, 0xFE4CCCCD, 0⟩,
   ⟨0x4010, 1, 5, 1, .bf24, .rwc, true, false, false, true, some (0xFA51EB85, 0x400000), 0, 0xFD51EB85, 0xFD51EB85, 0⟩,
   ⟨0x4010, 1, 6, 1, .bf24, .rwc, true, false, false, true, some (0xFA51EB85, 0x400000), 0, 0xFD7AE148, 0xFD7AE148, 0⟩,
   ⟨0x4010, 1, 7, 1, .bf24, .rwc, true, false, false, true, some (0xFA51EB85, 0x1400000), 0, 0xFC666666, 0xFC666666, 0⟩,
   ⟨0x4010, 1, 8, 1, .u8, .rwc, true, false, false, true, some (0x2, 0x40), 0, 0x8, 0x8, 0⟩,
   ⟨0x4010, 1, 9, 1, .u16, .rwc, true, false, false, true, some (0x1F4, 0xEA60), 0, 0x1388, 0x1388, 0⟩,
   ⟨0x4010, 1, 10, 1, .u8, .rwc, true, false, false, true, some (0x0, 0xF), 0, 0x8, 0x8, 0⟩,
   ⟨0x4010, 1, 11, 1, .bf24, .rwc, true, false, false, true, some (0xFD666666, 0x4400000), 0, 0x2400000, 0x2400000, 0⟩,
   ⟨0x4010, 1, 12, 1, .bf24, .rwc, true, false, false, true, some (0x1161A800, 0x184C4B40), 0, 0x165B8D80, 0x165B8D80, 0⟩,
   ⟨0x4010, 1, 13, 1, .bf24, .rwc, true, false, false, true, some (0x80000001, 0x7F7FFFFF), 0, 0xEB5087D8, 0xEB5087D8, 0⟩,
   ⟨0x4010, 1, 14, 1, .bf24, .rwc, true, false, false, true, some (0xFC666666, 0x4400000), 0, 0xFF4CCCCD, 0xFF4CCCCD, 0⟩,
   ⟨0x4010, 1, 15, 1, .u16, .rwc, true, false, false, true, some (0x14, 0x3E8), 0, 0x3C, 0x3C, 0⟩,
   ⟨0x4010, 1, 16, 1, .bf24, .rwc, true, false, false, true, some (0xFE666666, 0x3600000), 0, 0x1600000, 0x1600000, 0⟩,
   ⟨0x4010, 1, 17, 1, .u16, .rwc, true, false, false, true, some (0x1, 0x64), 0, 0x14, 0x14, 0⟩,
   ⟨0x4010, 1, 18, 1, .bf24, .rwc, true, false, false, true, some (0xFE666666, 0x3600000), 0, 0x2600000, 0x2600000, 0⟩,
   ⟨0x4010, 1, 19, 1, .u16, .rwc, true, false, false, true, some (0x1, 0x32), 0, 0x5, 0x5, 0⟩,
   ⟨0x4010, 1, 20, 1, .u16, .rwc, true, false, false, true, some (0x64, 0xC350), 0, 0x3E8, 0x3E8, 0⟩,
   ⟨0x4020, 4, 1, 1, .bf24, .rwc, true, false, false, false, none, 0, 0x0, 0x0, 0⟩,
   ⟨0x4020, 4, 4, 1, .bf24, .rwc, true, false, false, false, none, 0, 0x400000, 0x400000, 0⟩,
   ⟨0x4020, 4, 5, 1, .u8, .rwc, true, false, false, false, some (0x0, 0xF), 0, 0x4, 0x4, 0⟩,
   ⟨0x4020, 4, 6, 1, .u16, .rwc, true, false, false, false, none, 0, 0x5C, 0x5C, 0⟩,
   ⟨0x4020, 4, 7, 1, .u8, .rwc, true, false, false, false, some (0x0, 0x4), 0, 0x2, 0x2, 0⟩]

def odCellA : List OdRow :=
  [⟨0x4100, 32, 1, 1, .bool, .rwc, true, false, false, false, none, 0, 0x1, 0x1, 0⟩,
   ⟨0x4100, 32, 2, 1, .u8, .rwc, true, false, false, true, some (0x0, 0x6), 0, 0x0, 0x0, 0⟩,
   ⟨0x4100, 32, 3, 1, .u16, .rwc, true, false, false, true, some (0x1, 0xFFFF), 0, 0x2E, 0x2E, 0⟩,
   ⟨0x4100, 32, 4, 1, .u8, .rwc, true, false, false, true, some (0x0, 0x4), 0, 0x1, 0x1, 0⟩,
   ⟨0x4100, 32, 5, 1, .u8, .rwc, true, false, false, true, some (0x0, 0x1), 0, 0x1, 0x1, 0⟩,
   ⟨0x4100, 32, 6, 1, .bf24, .rwc, true, false, false, true, none, 0, 0x0, 0x0, 0⟩,
   ⟨0x4100, 32, 7, 1, .bf24, .rwc, true, false, false, true, none, 0, 0x0, 0x0, 0⟩,
   ⟨0x4100, 32, 16, 6, .bf24, .rwc, true, false, false, true, none, 0, 0x0, 0x0, 0⟩,
   ⟨0x4100, 32, 22, 1, .bf24, .rwc, true, false, false, true, none, 0, 0x1C00000, 0x1C00000, 0⟩,
   ⟨0x4100, 32, 23, 1, .bf24, .rwc, true, false, false, true, none, 0, 0x1400000, 0x1400000, 0⟩,
   ⟨0x4100, 32, 24, 6, .bf24, .rwc, true, false, false, true, none, 0, 0x0, 0x0, 0⟩,
   ⟨0x4100, 32, 30, 1, .bf24, .rwc, true, false, false, true, none, 0, 0x1C00000, 0x1C00000, 0⟩,
   ⟨0x4100, 32, 31, 1, .bf24, .rwc, true, false, false, true, none, 0, 0x1400000, 0x1400000, 0⟩,
   ⟨0x4100, 32, 32, 6, .bf24, .rwc, true, false, false, true, none, 0, 0x0, 0x0, 0⟩,
   ⟨0x4100, 32, 38, 1, .bf24, .rwc, true, false, false, true, none, 0, 0x1C00000, 0x1C00000, 0⟩,
   ⟨0x4100, 32, 39, 1, .bf24, .rwc, true, false, false, true, none, 0, 0x1400000, 0x1400000, 0⟩,
   ⟨0x4100, 32, 40, 6, .bf24, .rwc, true, false, false, true, none, 0, 0x0, 0x0, 0⟩,
   ⟨0x4100, 32, 46, 1, .bf24, .rwc, true, false, false, true, none, 0, 0x1C00000, 0x1C00000, 0⟩,
   ⟨0x4100, 32, 47, 1, .bf24, .rwc, true, false, false, true, none, 0, 0x1400000, 0x1400000, 0⟩,
   ⟨0x4100, 32, 48, 1, .bf24, .rwc, true, false, false, true, none, 0, 0x1400000, 0x1400000, 0⟩,
   ⟨0x4100, 32, 49, 4, .bf24, .rwc, true, false, false, true, none, 0, 0x0, 0x0, 0⟩,
   ⟨0x4100, 32, 53, 1, .bf24, .rwc, true, false, false, true, none, 0, 0x1400000, 0x1400000, 0⟩,
   ⟨0x4100, 32, 54, 4, .bf24, .rwc, true, false, false, true, none, 0, 0x0, 0x0, 0⟩,
   ⟨0x4100, 32, 58, 1, .bf24, .rwc, true, false, false, true, none, 0, 0x1400000, 0x1400000, 0⟩,
   ⟨0x4100, 32, 59, 4, .bf24, .rwc, true, false, false, true, none, 0, 0x0, 0x0, 0⟩,
   ⟨0x4100, 32, 63, 1, .bf24, .rwc, true, false, false, true, none, 0, 0x1400000, 0x1400000, 0⟩,
   ⟨0x4100, 32, 64, 4, .bf24, .rwc, true, false, false, true, none, 0, 0x0, 0x0, 0⟩,
   ⟨0x4100, 32, 68, 1, .bf24, .rwc, true, false, false, true, none, 0, 0x1400000, 0x1400000, 0⟩,
   ⟨0x4100, 32, 69, 4, .bf24, .rwc, true, false, false, true, none, 0, 0x0, 0x0, 0⟩,
   ⟨0x4100, 32, 73, 1, .bf24, .rwc, true, false, false, true, none, 0, 0x1400000, 0x1400000, 0⟩,
   ⟨0x4100, 32, 74, 4, .bf24, .rwc, true, false, false, true, none, 0, 0x0, 0x0, 0⟩,
   ⟨0x4100, 32, 78, 1, .bf24, .rwc, true, false, false, true, none, 0, 0x1400000, 0x1400000, 0⟩,
   ⟨0x4100, 32, 79, 4, .bf24, .rwc, true, false, false, true, none, 0, 0x0, 0x0, 0⟩,
   ⟨0x4100, 32, 83, 1, .bf24, .rwc, true, false, false, true, none, 0, 0x1400000, 0x1400000, 0⟩,
   ⟨0x4100, 32, 84, 4, .bf24, .rwc, true, false, false, true, none, 0, 0x0, 0x0, 0⟩,
   ⟨0x4100, 32, 88, 1, .bf24, .rwc, true, false, false, true, none, 0, 0x1400000, 0x1400000, 0⟩,
   ⟨0x4100, 32, 89, 4, .bf24, .rwc, true, false, false, true, none, 0, 0x0, 0x0, 0⟩,
   ⟨0x4100, 32, 93, 1, .bf24, .rwc, true, false, false, true, none, 0, 0x1400000, 0x1400000, 0⟩,
   ⟨0x4100, 32, 94, 4, .bf24, .rwc, true, false, false, true, none, 0, 0x0, 0x0, 0⟩]

def odCellB : List OdRow :=
  [⟨0x4120, 4, 1, 1, .bool, .rwc, true, false, false, false, none, 0, 0x1, 0x1, 0⟩,
   ⟨0x4120, 4, 2, 1, .u8, .rwc, true, false, false, true, some (0x0, 0x6), 0, 0x0, 0x0, 0⟩,
   ⟨0x4120, 4, 3, 1, .u16, .rwc, true, false, false, true, some (0x1, 0xFFFF), 0, 0x114, 0x114, 0⟩,
   ⟨0x4120, 4, 4, 1, .u8, .rwc, true, false, false, true, some (0x0, 0x4), 0, 0x2, 0x2, 0⟩,
   ⟨0x4120, 4, 5, 1, .u8, .rwc, true, false, false, true, some (0x0, 0x1), 0, 0x1, 0x1, 0⟩,
   ⟨0x4120, 4, 6, 1, .bf24, .rwc, true, false, false, true, none, 0, 0x0, 0x0, 0⟩,
   ⟨0x4120, 4, 7, 1, .bf24, .rwc, true, false, false, true, none, 0, 0x0, 0x0, 0⟩,
   ⟨0x4120, 4, 16, 6, .bf24, .rwc, true, false, false, true, none, 0, 0x0, 0x0, 0⟩,
   ⟨0x4120, 4, 22, 1, .bf24, .rwc, true, false, false, true, none, 0, 0x1C00000, 0x1C00000, 0⟩,
   ⟨0x4120, 4, 23, 1, .bf24, .rwc, true, false, false, true, none, 0, 0x1400000, 0x1400000, 0⟩,
   ⟨0x4120, 4, 24, 6, .bf24, .rwc, true, false, false, true, none, 0, 0x0, 0x0, 0⟩,
   ⟨0x4120, 4, 30, 1, .bf24, .rwc, true, false, false, true, none, 0, 0x1C00000, 0x1C00000, 0⟩,
   ⟨0x4120, 4, 31, 1, .bf24, .rwc, true, false, false, true, none, 0, 0x1400000, 0x1400000, 0⟩,
   ⟨0x4120, 4, 32, 6, .bf24, .rwc, true, false, false, true, none, 0, 0x0, 0x0, 0⟩,
   ⟨0x4120, 4, 38, 1, .bf24, .rwc, true, false, false, true, none, 0, 0x1C00000, 0x1C00000, 0⟩,
   ⟨0x4120, 4, 39, 1, .bf24, .rwc, true, false, false, true, none, 0, 0x1400000, 0x1400000, 0⟩,
   ⟨0x4120, 4, 40, 6, .bf24, .rwc, true, false, false, true, none, 0, 0x0, 0x0, 0⟩,
   ⟨0x4120, 4, 46, 1, .bf24, .rwc, true, false, false, true, none, 0, 0x1C00000, 0x1C00000, 0⟩,
   ⟨0x4120, 4, 47, 1, .bf24, .rwc, true, false, false, true, none, 0, 0x1400000, 0x1400000, 0⟩,
   ⟨0x4120, 4, 48, 1, .bf24, .rwc, true, false, false, true, none, 0, 0x1400000, 0x1400000, 0⟩,
   ⟨0x4120, 4, 49, 4, .bf24, .rwc, true, false, false, true, none, 0, 0x0, 0x0, 0⟩,
   ⟨0x4120, 4, 53, 1, .bf24, .rwc, true, false, false, true, none, 0, 0x1400000, 0x1400000, 0⟩,
   ⟨0x4120, 4, 54, 4, .bf24, .rwc, true, false, false, true, none, 0, 0x0, 0x0, 0⟩,
   ⟨0x4120, 4, 58, 1, .bf24, .rwc, true, false, false, true, none, 0, 0x1400000, 0x1400000, 0⟩,
   ⟨0x4120, 4, 59, 4, .bf24, .rwc, true, false, false, true, none, 0, 0x0, 0x0, 0⟩,
   ⟨0x4120, 4, 63, 1, .bf24, .rwc, true, false, false, true, none, 0, 0x1400000, 0x1400000, 0⟩,
   ⟨0x4120, 4, 64, 4, .bf24, .rwc, true, false, false, true, none, 0, 0x0, 0x0, 0⟩,
   ⟨0x4120, 4, 68, 1, .bf24, .rwc, true, false, false, true, none, 0, 0x1400000, 0x1400000, 0⟩,
   ⟨0x4120, 4, 69, 4, .bf24, .rwc, true, false, false, true, none, 0, 0x0, 0x0, 0⟩,
   ⟨0x4120, 4, 73, 1, .bf24, .rwc, true, false, false, true, none, 0, 0x1400000, 0x1400000, 0⟩,
   ⟨0x4120, 4, 74, 4, .bf24, .rwc, true, false, false, true, none, 0, 0x0, 0x0, 0⟩,
   ⟨0x4120, 4, 78, 1, .bf24, .rwc, true, false, false, true, none, 0, 0x1400000, 0x1400000, 0⟩,
   ⟨0x4120, 4, 79, 4, .bf24, .rwc, true, false, false, true, none, 0, 0x0, 0x0, 0⟩,
   ⟨0x4120, 4, 83, 1, .bf24, .rwc, true, false, false, true, none, 0, 0x1400000, 0x1400000, 0⟩,
   ⟨0x4120, 4, 84, 4, .bf24, .rwc, true, false, false, true, none, 0, 0x0, 0x0, 0⟩,
   ⟨0x4120, 4, 88, 1, .bf24, .rwc, true, false, false, true, none, 0, 0x1400000, 0x1400000, 0⟩,
   ⟨0x4120, 4, 89, 4, .bf24, .rwc, true, false, false, true, none, 0, 0x0, 0x0, 0⟩,
   ⟨0x4120, 4, 93, 1, .bf24, .rwc, true, false, false, true, none, 0, 0x1400000, 0x1400000, 0⟩,
   ⟨0x4120, 4, 94, 4, .bf24, .rwc, true, false, false, true, none, 0, 0x0, 0x0, 0⟩]

def odCellC : List OdRow :=
  [⟨0x4124, 2, 1, 1, .bool, .rwc, true, false, false, false, none, 0, 0x1, 0x1, 0⟩,
   ⟨0x4124, 2, 2, 1, .u8, .rwc, true, false, false, true, some (0x0, 0x6), 0, 0x0, 0x0, 0⟩,
   ⟨0x4124, 2, 3, 1, .u16, .rwc, true, false, false, true, some (0x1, 0xFFFF), 0, 0x190, 0x190, 0⟩,
   ⟨0x4124, 2, 4, 1, .u8, .rwc, true, false, false, true, some (0x0, 0x4), 0, 0x1, 0x1, 0⟩,
   ⟨0x4124, 2, 5, 1, .u8, .rwc, true, false, false, true, some (0x0, 0x1), 0, 0x1, 0x1, 0⟩,
   ⟨0x4124, 2, 6, 1, .bf24, .rwc, true, false, false, true, none, 0, 0x0, 0x0, 0⟩,
   ⟨0x4124, 2, 7, 1, .bf24, .rwc, true, false, false, true, none, 0, 0x0, 0x0, 0⟩,
   ⟨0x4124, 2, 16, 6, .bf24, .rwc, true, false, false, true, none, 0, 0x0, 0x0, 0⟩,
   ⟨0x4124, 2, 22, 1, .bf24, .rwc, true, false, false, true, none, 0, 0x1C00000, 0x1C00000, 0⟩,
   ⟨0x4124, 2, 23, 1, .bf24, .rwc, true, false, false, true, none, 0, 0x1400000, 0x1400000, 0⟩,
   ⟨0x4124, 2, 24, 6, .bf24, .rwc, true, false, false, true, none, 0, 0x0, 0x0, 0⟩,
   ⟨0x4124, 2, 30, 1, .bf24, .rwc, true, false, false, true, none, 0, 0x1C00000, 0x1C00000, 0⟩,
   ⟨0x4124, 2, 31, 1, .bf24, .rwc, true, false, false, true, none, 0, 0x1400000, 0x1400000, 0⟩,
   ⟨0x4124, 2, 32, 6, .bf24, .rwc, true, false, false, true, none, 0, 0x0, 0x0, 0⟩,
   ⟨0x4124, 2, 38, 1, .bf24, .rwc, true, false, false, true, none, 0, 0x1C00000, 0x1C00000, 0⟩,
   ⟨0x4124, 2, 39, 1, .bf24, .rwc, true, false, false, true, none, 0, 0x1400000, 0x1400000, 0⟩,
   ⟨0x4124, 2, 40, 6, .bf24, .rwc, true, false, false, true, none, 0, 0x0, 0x0, 0⟩,
   ⟨0x4124, 2, 46, 1, .bf24, .rwc, true, false, false, true, none, 0, 0x1C00000, 0x1C00000, 0⟩,
   ⟨0x4124, 2, 47, 1, .bf24, .rwc, true, false, false, true, none, 0, 0x1400000, 0x1400000, 0⟩,
   ⟨0x4124, 2, 48, 1, .bf24, .rwc, true, false, false, true, none, 0, 0x1400000, 0x1400000, 0⟩,
   ⟨0x4124, 2, 49, 4, .bf24, .rwc, true, false, false, true, none, 0, 0x0, 0x0, 0⟩,
   ⟨0x4124, 2, 53, 1, .bf24, .rwc, true, false, false, true, none, 0, 0x1400000, 0x1400000, 0⟩,
   ⟨0x4124, 2, 54, 4, .bf24, .rwc, true, false, false, true, none, 0, 0x0, 0x0, 0⟩,
   ⟨0x4124, 2, 58, 1, .bf24, .rwc, true, false, false, true, none, 0, 0x1400000, 0x1400000, 0⟩,
   ⟨0x4124, 2, 59, 4, .bf24, .rwc, true, false, false, true, none, 0, 0x0, 0x0, 0⟩,
   ⟨0x4124, 2, 63, 1, .bf24, .rwc, true, false, false, true, none, 0, 0x1400000, 0x1400000, 0⟩,
   ⟨0x4124, 2, 64, 4, .bf24, .rwc, true, false, false, true, none, 0, 0x0, 0x0, 0⟩,
   ⟨0x4124, 2, 68, 1, .bf24, .rwc, true, false, false, true, none, 0, 0x1400000, 0x1400000, 0⟩,
   ⟨0x4124, 2, 69, 4, .bf24, .rwc, true, false, false, true, none, 0, 0x0, 0x0, 0⟩,
   ⟨0x4124, 2, 73, 1, .bf24, .rwc, true, false, false, true, none, 0, 0x1400000, 0x1400000, 0⟩,
   ⟨0x4124, 2, 74, 4, .bf24, .rwc, true, false, false, true, none, 0, 0x0, 0x0, 0⟩,
   ⟨0x4124, 2, 78, 1, .bf24, .rwc, true, false, false, true, none, 0, 0x1400000, 0x1400000, 0⟩,
   ⟨0x4124, 2, 79, 4, .bf24, .rwc, true, false, false, true, none, 0, 0x0, 0x0, 0⟩,
   ⟨0x4124, 2, 83, 1, .bf24, .rwc, true, false, false, true, none, 0, 0x1400000, 0x1400000, 0⟩,
   ⟨0x4124, 2, 84, 4, .bf24, .rwc, true, false, false, true, none, 0, 0x0, 0x0, 0⟩,
   ⟨0x4124, 2, 88, 1, .bf24, .rwc, true, false, false, true, none, 0, 0x1400000, 0x1400000, 0⟩,
   ⟨0x4124, 2, 89, 4, .bf24, .rwc, true, false, false, true, none, 0, 0x0, 0x0, 0⟩,
   ⟨0x4124, 2, 93, 1, .bf24, .rwc, true, false, false, true, none, 0, 0x1400000, 0x1400000, 0⟩,
   ⟨0x4124, 2, 94, 4, .bf24, .rwc, true, false, false, true, none, 0, 0x0, 0x0, 0⟩]

def odCellD : List OdRow :=
  [⟨0x4126, 4, 1, 1, .bool, .rwc, true, false, false, false, none, 0, 0x1, 0x1, 0⟩,
   ⟨0x4126, 4, 2, 1, .u8, .rwc, true, false, false, true, some (0x0, 0x0), 0, 0x0, 0x0, 0⟩,
   ⟨0x4126, 4, 3, 1, .u16, .rwc, true, false, false, true, some (0x1, 0xFFFF), 0, 0x7D0, 0x7D0, 0⟩,
   ⟨0x4126, 4, 4, 1, .u8, .rwc, true, false, false, true, some (0x0, 0x4), 0, 0x1, 0x1, 0⟩,
   ⟨0x4126, 4, 5, 1, .u8, .rwc, true, false, false, true, some (0x0, 0x1), 0, 0x1, 0x1, 0⟩,
   ⟨0x4126, 4, 6, 1, .bf24, .rwc, true, false, false, true, none, 0, 0x0, 0x0, 0⟩,
   ⟨0x4126, 4, 7, 1, .bf24, .rwc, true, false, false, true, none, 0, 0x0, 0x0, 0⟩,
   ⟨0x4126, 4, 16, 6, .bf24, .rwc, true, false, false, true, none, 0, 0x0, 0x0, 0⟩,
   ⟨0x4126, 4, 22, 1, .bf24, .rwc, true, false, false, true, none, 0, 0x1C00000, 0x1C00000, 0⟩,
   ⟨0x4126, 4, 23, 1, .bf24, .rwc, true, false, false, true, none, 0, 0x1400000, 0x1400000, 0⟩,
   ⟨0x4126, 4, 24, 6, .bf24, .rwc, true, false, false, true, none, 0, 0x0, 0x0, 0⟩,
   ⟨0x4126, 4, 30, 1, .bf24, .rwc, true, false, false, true, none, 0, 0x1C00000, 0x1C00000, 0⟩,
   ⟨0x4126, 4, 31, 1, .bf24, .rwc, true, false, false, true, none, 0, 0x1400000, 0x1400000, 0⟩,
   ⟨0x4126, 4, 32, 6, .bf24, .rwc, true, false, false, true, none, 0, 0x0, 0x0, 0⟩,
   ⟨0x4126, 4, 38, 1, .bf24, .rwc, true, false, false, true, none, 0, 0x1C00000, 0x1C00000, 0⟩,
   ⟨0x4126, 4, 39, 1, .bf24, .rwc, true, false, false, true, none, 0, 0x1400000, 0x1400000, 0⟩,
   ⟨0x4126, 4, 40, 6, .bf24, .rwc, true, false, false, true, none, 0, 0x0, 0x0, 0⟩,
   ⟨0x4126, 4, 46, 1, .bf24, .rwc, true, false, false, true, none, 0, 0x1C00000, 0x1C00000, 0⟩,
   ⟨0x4126, 4, 47, 1, .bf24, .rwc, true, false, false, true, none, 0, 0x1400000, 0x1400000, 0⟩,
   ⟨0x4126, 4, 48, 1, .bf24, .rwc, true, false, false, true, none, 0, 0x1400000, 0x1400000, 0⟩,
   ⟨0x4126, 4, 49, 4, .bf24, .rwc, true, false, false, true, none, 0, 0x0, 0x0, 0⟩,
   ⟨0x4126, 4, 53, 1, .bf24, .rwc, true, false, false, true, none, 0, 0x1400000, 0x1400000, 0⟩,
   ⟨0x4126, 4, 54, 4, .bf24, .rwc, true, false, false, true, none, 0, 0x0, 0x0, 0⟩,
   ⟨0x4126, 4, 58, 1, .bf24, .rwc, true, false, false, true, none, 0, 0x1400000, 0x1400000, 0⟩,
   ⟨0x4126, 4, 59, 4, .bf24, .rwc, true, false, false, true, none, 0, 0x0, 0x0, 0⟩,
   ⟨0x4126, 4, 63, 1, .bf24, .rwc, true, false, false, true, none, 0, 0x1400000, 0x1400000, 0⟩,
   ⟨0x4126, 4, 64, 4, .bf24, .rwc, true, false, false, true, none, 0, 0x0, 0x0, 0⟩,
   ⟨0x4126, 4, 68, 1, .bf24, .rwc, true, false, false, true, none, 0, 0x1400000, 0x1400000, 0⟩,
   ⟨0x4126, 4, 69, 4, .bf24, .rwc, true, false, false, true, none, 0, 0x0, 0x0, 0⟩,
   ⟨0x4126, 4, 73, 1, .bf24, .rwc, true, false, false, true, none, 0, 0x1400000, 0x1400000, 0⟩,
   ⟨0x4126, 4, 74, 4, .bf24, .rwc, true, false, false, true, none, 0, 0x0, 0x0, 0⟩,
   ⟨0x4126, 4, 78, 1, .bf24, .rwc, true, false, false, true, none, 0, 0x1400000, 0x1400000, 0⟩,
   ⟨0x4126, 4, 79, 4, .bf24, .rwc, true, false, false, true, none, 0, 0x0, 0x0, 0⟩,
   ⟨0x4126, 4, 83, 1, .bf24, .rwc, true, false, false, true, none, 0, 0x1400000, 0x1400000, 0⟩,
   ⟨0x4126, 4, 84, 4, .bf24, .rwc, true, false, false, true, none, 0, 0x0, 0x0, 0⟩,
   ⟨0x4126, 4, 88, 1, .bf24, .rwc, true, false, false, true, none, 0, 0x1400000, 0x1400000, 0⟩,
   ⟨0x4126, 4, 89, 4, .bf24, .rwc, true, false, false, true, none, 0, 0x0, 0x0, 0⟩,
   ⟨0x4126, 4, 93, 1, .bf24, .rwc, true, false, false, true, none, 0, 0x1400000, 0x1400000, 0⟩,
   ⟨0x4126, 4, 94, 4, .bf24, .rwc, true, false, false, true, none, 0, 0x0, 0x0, 0⟩]

def odCellE : List OdRow :=
  [⟨0x4130, 16, 1, 1, .bool, .rwc, true, false, false, false, none, 0, 0x0, 0x0, 0⟩,
   ⟨0x4130, 16, 2, 1, .u8, .rwc, true, false, false, true, some (0x0, 0x6), 0, 0x0, 0x0, 0⟩,
   ⟨0x4130, 16, 3, 1, .u16, .rwc, true, false, false, true, some (0x1, 0xFFFF), 0, 0xFFFF, 0xFFFF, 0⟩,
   ⟨0x4130, 16, 4, 1, .u8, .rwc, true, false, false, true, some (0x0, 0x4), 0, 0x0, 0x0, 0⟩,
   ⟨0x4130, 16, 5, 1, .u8, .rwc, true, false, false, true, some (0x0, 0x1), 0, 0x1, 0x1, 0⟩,
   ⟨0x4130, 16, 6, 1, .bf24, .rwc, true, false, false, true, none, 0, 0x0, 0x0, 0⟩,
   ⟨0x4130, 16, 7, 1, .bf24, .rwc, true, false, false, true, none, 0, 0x0, 0x0, 0⟩,
   ⟨0x4130, 16, 9, 1, .u8, .rwc, true, false, false, true, some (0x0, 0x29), 0, 0x0, 0x0, 0⟩,
   ⟨0x4130, 16, 10, 1, .u8, .rwc, true, false, false, true, some (0x0, 0x2), 0, 0x0, 0x0, 0⟩,
   ⟨0x4130, 16, 11, 1, .bf24, .rwc, true, false, false, true, none, 0, 0x0, 0x0, 0⟩,
   ⟨0x4130, 16, 16, 6, .bf24, .rwc, true, false, false, true, none, 0, 0x0, 0x0, 0⟩,
   ⟨0x4130, 16, 22, 1, .bf24, .rwc, true, false, false, true, none, 0, 0x1C00000, 0x1C00000, 0⟩,
   ⟨0x4130, 16, 23, 1, .bf24, .rwc, true, false, false, true, none, 0, 0x1400000, 0x1400000, 0⟩,
   ⟨0x4130, 16, 24, 6, .bf24, .rwc, true, false, false, true, none, 0, 0x0, 0x0, 0⟩,
   ⟨0x4130, 16, 30, 1, .bf24, .rwc, true, false, false, true, none, 0, 0x1C00000, 0x1C00000, 0⟩,
   ⟨0x4130, 16, 31, 1, .bf24, .rwc, true, false, false, true, none, 0, 0x1400000, 0x1400000, 0⟩,
   ⟨0x4130, 16, 32, 6, .bf24, .rwc, true, false, false, true, none, 0, 0x0, 0x0, 0⟩,
   ⟨0x4130, 16, 38, 1, .bf24, .rwc, true, false, false, true, none, 0, 0x1C00000, 0x1C00000, 0⟩,
   ⟨0x4130, 16, 39, 1, .bf24, .rwc, true, false, false, true, none, 0, 0x1400000, 0x1400000, 0⟩,
   ⟨0x4130, 16, 40, 6, .bf24, .rwc, true, false, false, true, none, 0, 0x0, 0x0, 0⟩,
   ⟨0x4130, 16, 46, 1, .bf24, .rwc, true, false, false, true, none, 0, 0x1C00000, 0x1C00000, 0⟩,
   ⟨0x4130, 16, 47, 1, .bf24, .rwc, true, false, false, true, none, 0, 0x1400000, 0x1400000, 0⟩,
   ⟨0x4130, 16, 48, 1, .bf24, .rwc, true, false, false, true, none, 0, 0x1400000, 0x1400000, 0⟩,
   ⟨0x4130, 16, 49, 4, .bf24, .rwc, true, false, false, true, none, 0, 0x0, 0x0, 0⟩,
   ⟨0x4130, 16, 53, 1, .bf24, .rwc, true, false, false, true, none, 0, 0x1400000, 0x1400000, 0⟩,
   ⟨0x4130, 16, 54, 4, .bf24, .rwc, true, false, false, true, none, 0, 0x0, 0x0, 0⟩,
   ⟨0x4130, 16, 58, 1, .bf24, .rwc, true, false, false, true, none, 0, 0x1400000, 0x1400000, 0⟩,
   ⟨0x4130, 16, 59, 4, .bf24, .rwc, true, false, false, true, none, 0, 0x0, 0x0, 0⟩,
   ⟨0x4130, 16, 63, 1, .bf24, .rwc, true, false, false, true, none, 0, 0x1400000, 0x1400000, 0⟩,
   ⟨0x4130, 16, 64, 4, .bf24, .rwc, true, false, false, true, none, 0, 0x0, 0x0, 0⟩,
   ⟨0x4130, 16, 68, 1, .bf24, .rwc, true, false, false, true, none, 0, 0x1400000, 0x1400000, 0⟩,
   ⟨0x4130, 16, 69, 4, .bf24, .rwc, true, false, false, true, none, 0, 0x0, 0x0, 0⟩,
   ⟨0x4130, 16, 73, 1, .bf24, .rwc, true, false, false, true, none, 0, 0x1400000, 0x1400000, 0⟩,
   ⟨0x4130, 16, 74, 4, .bf24, .rwc, true, false, false, true, none, 0, 0x0, 0x0, 0⟩,
   ⟨0x4130, 16, 78, 1, .bf24, .rwc, true, false, false, true, none, 0, 0x1400000, 0x1400000, 0⟩,
   ⟨0x4130, 16, 79, 4, .bf24, .rwc, true, false, false, true, none, 0, 0x0, 0x0, 0⟩,
   ⟨0x4130, 16, 83, 1, .bf24, .rwc, true, false, false, true, none, 0, 0x1400000, 0x1400000, 0⟩,
   ⟨0x4130, 16, 84, 4, .bf24, .rwc, true, false, false, true, none, 0, 0x0, 0x0, 0⟩,
   ⟨0x4130, 16, 88, 1, .bf24, .rwc, true, false, false, true, none, 0, 0x1400000, 0x1400000, 0⟩,
   ⟨0x4130, 16, 89, 4, .bf24, .rwc, true, false, false, true, none, 0, 0x0, 0x0, 0⟩,
   ⟨0x4130, 16, 93, 1, .bf24, .rwc, true, false, false, true, none, 0, 0x1400000, 0x1400000, 0⟩,
   ⟨0x4130, 16, 94, 4, .bf24, .rwc, true, false, false, true, none, 0, 0x0, 0x0, 0⟩]

def odCellF : List OdRow :=
  [⟨0x4180, 42, 1, 1, .u64, .ro, false, false, false, false, none, 0, 0x0, 0x0, 0⟩,
   ⟨0x4180, 42, 2, 1, .u8, .ro, false, false, false, false, none, 0, 0x0, 0x0, 0⟩,
   ⟨0x4180, 42, 3, 1, .u16, .ro, false, false, false, false, none, 0, 0x0, 0x0, 0⟩,
   ⟨0x4180, 42, 4, 1, .u32, .ro, false, false, false, false, none, 0, 0x0, 0x0, 0⟩,
   ⟨0x4180, 42, 5, 1, .u32, .ro, false, false, false, false, none, 0, 0x0, 0x0, 0⟩,
   ⟨0x4180, 42, 6, 1, .bf24, .ro, false, false, false, false, none, 0, 0x0, 0x0, 0⟩,
   ⟨0x41B0, 16, 1, 1, .u64, .ro, false, false, false, false, none, 0, 0x0, 0x0, 0⟩,
   ⟨0x41B0, 16, 2, 1, .u8, .ro, false, false, false, false, none, 0, 0x0, 0x0, 0⟩,
   ⟨0x41B0, 16, 3, 1, .u16, .ro, false, false, false, false, none, 0, 0x0, 0x0, 0⟩,
   ⟨0x41B0, 16, 4, 1, .u32, .ro, false, false, false, false, none, 0, 0x0, 0x0, 0⟩,
   ⟨0x41B0, 16, 5, 1, .u32, .ro, false, false, false, false, none, 0, 0x0, 0x0, 0⟩,
   ⟨0x41B0, 16, 6, 1, .bf24, .ro, false, false, false, false, none, 0, 0x0, 0x0, 0⟩,
   ⟨0x41B0, 16, 7, 1, .bf24, .ro, false, false, false, false, none, 0, 0x0, 0x0, 0⟩,
   ⟨0x41B0, 16, 8, 1, .bf24, .ro, false, false, false, false, none, 0, 0x0, 0x0, 0⟩,
   ⟨0x41B0, 16, 9, 1, .u64, .ro, false, false, false, false, none, 0, 0x0, 0x0, 0⟩,
   ⟨0x41B0, 16, 10, 1, .u64, .ro, false, false, false, false, none, 0, 0x0, 0x0, 0⟩,
   ⟨0x4200, 44, 1, 8, .i32, .rws, true, false, false, false, none, 0, 0x80000000, 0x80000000, 0⟩,
   ⟨0x4200, 44, 9, 1, .bf24, .rws, true, false, false, false, none, 0, 0x1400000, 0x1400000, 0⟩]

def odSpin : List OdRow :=
  [⟨0x5010, 1, 1, 1, .u16, .rwc, true, false, false, true, some (0x3E8, 0x2710), 0, 0x1C20, 0x1C20, 0⟩,
   ⟨0x5010, 1, 2, 1, .bf24, .rwc, true, false, false, true, some (0x400000, 0x5500000), 0, 0x3400000, 0x3400000, 0⟩,
   ⟨0x5010, 1, 3, 1, .bf24, .rwc, true, false, false, true, some (0x1400000, 0x8640000), 0, 0x5600000, 0x5600000, 0⟩,
   ⟨0x5010, 1, 4, 1, .bf24, .rwc, true, false, false, true, some (0x6500000, 0x85A0000), 0, 0x76E0000, 0x76E0000, 0⟩,
   ⟨0x5010, 1, 5, 1, .bf24, .rwc, true, false, false, true, some (0x80000001, 0x7F7FFFFF), 0, 0x2400000, 0x2400000, 0⟩,
   ⟨0x5010, 1, 6, 1, .u16, .rwc, true, false, false, true, some (0x1, 0x1C20), 0, 0x258, 0x258, 0⟩,
   ⟨0x5010, 1, 7, 1, .bf24, .rwc, true, false, false, true, none, 0, 0x4680000, 0x4680000, 0⟩,
   ⟨0x5010, 1, 8, 1, .bf24, .rwc, true, false, false, true, some (0xFC666666, 0x2400000), 0, 0xFF4CCCCD, 0xFF4CCCCD, 0⟩,
   ⟨0x5010, 1, 9, 1, .bf24, .rwc, true, false, false, true, none, 0, 0x46E6666, 0x46E6666, 0⟩,
   ⟨0x5010, 1, 10, 1, .bf24, .rwc, true, false, false, true, none, 0, 0x4500000, 0x4500000, 0⟩,
   ⟨0x5010, 1, 11, 1, .u8, .rwc, true, false, false, true, some (0x5, 0x64), 0, 0x14, 0x14, 0⟩,
   ⟨0x5010, 1, 12, 1, .u8, .rwc, true, false, false, true, some (0x5, 0xC8), 0, 0x1E, 0x1E, 0⟩,
   ⟨0x5010, 1, 13, 1, .bf24, .rwc, true, false, false, true, some (0xFD666666, 0x5500000), 0, 0x2400000, 0x2400000, 0⟩,
   ⟨0x5010, 1, 14, 1, .u16, .rwc, true, false, false, true, some (0xA, 0x7D0), 0, 0x64, 0x64, 0⟩,
   ⟨0x5010, 1, 15, 1, .u16, .rwc, true, false, false, true, some (0x32, 0x7D0), 0, 0x12C, 0x12C, 0⟩,
   ⟨0x5010, 1, 16, 1, .u16, .rwc, true, false, false, true, some (0x32, 0x7D0), 0, 0xC8, 0xC8, 0⟩,
   ⟨0x5010, 1, 17, 1, .bf24, .rwc, true, false, false, true, some (0x400000, 0x5780000), 0, 0x2600000, 0x2600000, 0⟩,
   ⟨0x5010, 1, 18, 1, .bf24, .rwc, true, false, false, true, none, 0, 0x4580000, 0x4580000, 0⟩,
   ⟨0x5010, 1, 19, 1, .bf24, .rwc, true, false, false, true, some (0x400000, 0x5500000), 0, 0x2600000, 0x2600000, 0⟩,
   ⟨0x5010, 1, 20, 1, .bf24, .rwc, true, false, false, true, some (0x80000001, 0x7F7FFFFF), 0, 0x2400000, 0x2400000, 0⟩,
   ⟨0x5010, 1, 21, 1, .bf24, .rwc, true, false, false, true, some (0x400000, 0x5780000), 0, 0x4400000, 0x4400000, 0⟩,
   ⟨0x5010, 1, 22, 1, .bf24, .rwc, true, false, false, true, some (0x6920000, 0x77D0000), 0, 0x6780000, 0x6780000, 0⟩,
   ⟨0x5010, 1, 23, 1, .bf24, .rwc, true, false, false, true, some (0x0, 0x1400000), 0, 0xFC666666, 0xFC666666, 0⟩,
   ⟨0x5010, 1, 24, 1, .bf24, .rwc, true, false, false, true, some (0x80000001, 0x7F7FFFFF), 0, 0x6500000, 0x6500000, 0⟩,
   ⟨0x5010, 1, 25, 1, .bf24, .rwc, true, false, false, true, some (0x3400000, 0x6500000), 0, 0x4698F5C, 0x4698F5C, 0⟩,
   ⟨0x5010, 1, 26, 1, .bf24, .rwc, true, false, false, true, some (0x3400000, 0x6500000), 0, 0x4698F5C, 0x4698F5C, 0⟩,
   ⟨0x5020, 1, 1, 1, .bf24, .rwc, true, false, false, false, none, 0, 0x0, 0x0, 0⟩,
   ⟨0x5020, 1, 2, 1, .bf24, .rwc, true, false, false, false, none, 0, 0x0, 0x0, 0⟩,
   ⟨0x5020, 1, 3, 1, .bf24, .rwc, true, false, false, false, none, 0, 0x0, 0x0, 0⟩,
   ⟨0x5020, 1, 4, 1, .bf24, .rwc, true, false, false, false, none, 0, 0x3500000, 0x3500000, 0⟩,
   ⟨0x5020, 1, 5, 1, .u8, .rwc, true, false, false, false, some (0x0, 0xF), 0, 0x4, 0x4, 0⟩,
   ⟨0x5020, 1, 6, 1, .u16, .rwc, true, false, false, false, none, 0, 0x32, 0x32, 0⟩,
   ⟨0x5020, 1, 7, 1, .u8, .rwc, true, false, false, false, some (0x0, 0x4), 0, 0x1, 0x1, 0⟩]

def odChan : List OdRow :=
  [⟨0x6010, 1, 1, 1, .u8, .rws, true, false, false, false, some (0x0, 0xFF), 0, 0x18, 0x18, 0⟩,
   ⟨0x6010, 1, 2, 1, .u8, .rws, true, false, false, false, some (0x0, 0xFF), 0, 0xC0, 0xC0, 0⟩,
   ⟨0x6020, 1, 1, 1, .u8, .rwc, true, false, false, false, some (0x1, 0x10), 0, 0x10, 0x10, 0⟩,
   ⟨0x6020, 1, 2, 1, .u8, .rwc, true, false, false, false, some (0x0, 0xF), 0, 0x4, 0x4, 0⟩,
   ⟨0x6020, 1, 3, 1, .u8, .rwc, true, false, false, false, some (0x1, 0x4), 0, 0x4, 0x4, 0⟩,
   ⟨0x6020, 1, 4, 1, .u8, .rwc, true, false, false, false, some (0x2, 0xF), 0, 0x4, 0x4, 0⟩,
   ⟨0x6020, 1, 5, 1, .u16, .rwc, true, false, false, false, some (0x0, 0xF00), 0, 0x10, 0x10, 0⟩,
   ⟨0x6020, 1, 6, 1, .u8, .rwc, true, false, false, false, some (0x0, 0x3), 0, 0x1, 0x1, 0⟩,
   ⟨0x6020, 1, 7, 1, .u8, .rwc, true, false, false, false, some (0x1, 0x8), 0, 0x6, 0x6, 0⟩,
   ⟨0x6020, 1, 8, 1, .u16, .rwc, true, false, false, false, some (0x0, 0xFFFF), 0, 0x1FE, 0x1FE, 0⟩,
   ⟨0x6020, 1, 9, 1, .u16, .rwc, true, false, false, false, some (0x32, 0x1388), 0, 0x190, 0x190, 0⟩,
   ⟨0x6020, 1, 10, 1, .bool, .rwc, true, false, false, false, none, 0, 0x1, 0x1, 0⟩,
   ⟨0x6020, 1, 11, 1, .octets, .rwc, true, false, false, false, none, 32, 0x0, 0x0, 8⟩,
   ⟨0x6021, 1, 1, 1, .domain, .const, false, false, false, false, none, 69120, 0x0, 0x0, 9⟩,
   ⟨0x6030, 32, 1, 10, .u64, .ro, false, false, false, false, none, 0, 0x0, 0x0, 0⟩,
   ⟨0x6050, 1, 1, 1, .domain, .rws, true, false, false, false, none, 65632, 0x0, 0x0, 0⟩,
   ⟨0x6050, 1, 2, 1, .domain, .wo, false, false, false, false, none, 65632, 0x0, 0x0, 0⟩,
   ⟨0x6050, 1, 3, 1, .u32, .rw, false, false, false, false, none, 0, 0x0, 0x0, 0⟩,
   ⟨0x6050, 1, 4, 1, .u8, .wo, false, false, false, false, some (0x1, 0x3), 0, 0x0, 0x0, 0⟩,
   ⟨0x6050, 1, 5, 1, .u8, .ro, false, false, false, false, none, 0, 0x0, 0x0, 0⟩,
   ⟨0x6100, 44, 1, 1, .domain, .ro, true, false, false, false, none, 16, 0x0, 0x0, 0⟩,
   ⟨0x6200, 44, 1, 8, .domain, .ro, true, false, false, false, none, 131072, 0x0, 0x0, 0⟩,
   ⟨0x6300, 44, 1, 8, .domain, .rws, true, false, false, false, none, 8, 0x0, 0x0, 0⟩]

def odHost : List OdRow :=
  [⟨0x7010, 1, 1, 1, .u8, .rwc, true, false, false, false, some (0x0, 0x1), 0, 0x1, 0x1, 0⟩,
   ⟨0x7010, 1, 2, 1, .u8, .ro, false, false, false, false, none, 0, 0x0, 0x0, 0⟩,
   ⟨0x7010, 1, 3, 1, .u32, .ro, false, false, false, false, none, 0, 0x0, 0x0, 0⟩,
   ⟨0x7020, 1, 1, 1, .u64, .rws, true, true, false, false, none, 0, 0x380000000, 0x1B0000000, 0⟩,
   ⟨0x7020, 1, 2, 1, .bool, .rwc, true, false, false, false, none, 0, 0x1, 0x1, 0⟩,
   ⟨0x7020, 1, 3, 1, .u64, .ro, false, false, false, false, none, 0, 0x0, 0x0, 0⟩]

def odHealth : List OdRow :=
  [⟨0x8000, 1, 1, 1, .u16, .rwc, true, false, false, false, some (0xA, 0x5A0), 0, 0x3C, 0x3C, 0⟩,
   ⟨0x8000, 1, 2, 1, .u8, .ro, false, false, false, false, none, 0, 0x0, 0x0, 0⟩,
   ⟨0x8000, 1, 3, 1, .u16, .ro, false, false, false, false, none, 0, 0x0, 0x0, 0⟩,
   ⟨0x8000, 1, 4, 1, .u32, .rwc, true, false, false, false, some (0x18, 0x186A0), 0, 0x7D0, 0x7D0, 0⟩,
   ⟨0x8100, 148, 1, 1, .bf24, .ro, false, false, false, false, none, 0, 0x0, 0x0, 0⟩,
   ⟨0x8100, 148, 2, 1, .bf24, .rwc, true, false, false, false, none, 0, 0x0, 0x0, 10⟩,
   ⟨0x8100, 148, 3, 1, .u8, .ro, false, false, false, false, none, 0, 0x0, 0x0, 0⟩,
   ⟨0x8100, 148, 4, 1, .u32, .ro, false, false, false, false, none, 0, 0x0, 0x0, 0⟩,
   ⟨0x8100, 148, 5, 1, .u32, .ro, false, false, false, false, none, 0, 0x0, 0x0, 0⟩,
   ⟨0x8100, 148, 6, 1, .u8, .ro, false, false, false, false, none, 0, 0x0, 0x0, 0⟩,
   ⟨0x8100, 148, 7, 1, .domain, .ro, false, false, false, false, none, 256, 0x0, 0x0, 0⟩,
   ⟨0x9000, 1, 1, 1, .u16, .ro, false, false, false, false, none, 0, 0x0, 0x0, 0⟩,
   ⟨0x9000, 1, 2, 1, .u16, .ro, false, false, false, false, none, 0, 0x0, 0x0, 0⟩,
   ⟨0x9000, 1, 3, 1, .bool, .ro, false, false, false, false, none, 0, 0x0, 0x0, 0⟩,
   ⟨0x9000, 1, 4, 1, .u32, .ro, false, false, false, false, none, 0, 0x0, 0x0, 0⟩,
   ⟨0x9000, 1, 5, 1, .u32, .ro, false, false, false, false, none, 0, 0x0, 0x0, 0⟩,
   ⟨0x9000, 1, 6, 1, .u32, .ro, false, false, false, false, none, 0, 0x0, 0x0, 0⟩,
   ⟨0x9000, 1, 7, 1, .u16, .rwc, true, false, false, false, some (0x64, 0x2710), 0, 0x3E8, 0x3E8, 0⟩,
   ⟨0x9000, 1, 8, 1, .u16, .rwc, true, false, false, false, some (0x1, 0x258), 0, 0xA, 0xA, 0⟩,
   ⟨0x9000, 1, 9, 1, .u8, .wo, false, false, false, false, some (0x1, 0x4), 0, 0x0, 0x0, 0⟩,
   ⟨0x9000, 1, 10, 1, .u8, .ro, false, false, false, false, none, 0, 0x0, 0x0, 0⟩,
   ⟨0x9000, 1, 11, 1, .u32, .ro, false, false, false, false, none, 0, 0x0, 0x0, 0⟩,
   ⟨0x9000, 1, 12, 1, .u64, .ro, false, false, false, false, none, 0, 0x0, 0x0, 0⟩,
   ⟨0x9010, 2, 1, 8, .domain, .ro, false, false, false, false, none, 131072, 0x0, 0x0, 0⟩]

def odFault : List OdRow :=
  [⟨0xA001, 1, 1, 1, .domain, .const, false, false, false, false, none, 131072, 0x0, 0x0, 0⟩,
   ⟨0xA020, 1, 1, 1, .u8, .rwc, true, false, false, false, some (0x3, 0xFF), 0, 0x3, 0x3, 0⟩,
   ⟨0xA020, 1, 2, 1, .u8, .rwc, true, false, false, false, some (0x2, 0xFF), 0, 0x8, 0x8, 0⟩,
   ⟨0xA020, 1, 3, 1, .u16, .rwc, true, false, false, false, some (0x64, 0xEA60), 0, 0x3E8, 0x3E8, 0⟩,
   ⟨0xA021, 1, 1, 1, .u8, .rwc, true, false, false, false, some (0x3, 0xFF), 0, 0x3, 0x3, 0⟩,
   ⟨0xA021, 1, 2, 1, .u8, .rwc, true, false, false, false, some (0x2, 0xFF), 0, 0x8, 0x8, 0⟩,
   ⟨0xA021, 1, 3, 1, .u16, .rwc, true, false, false, false, some (0x64, 0xEA60), 0, 0x1388, 0x1388, 0⟩,
   ⟨0xA022, 1, 1, 1, .u8, .rwc, true, false, false, false, some (0x3, 0xFF), 0, 0x3, 0x3, 0⟩,
   ⟨0xA022, 1, 2, 1, .u8, .rwc, true, false, false, false, some (0x2, 0xFF), 0, 0x20, 0x20, 0⟩,
   ⟨0xA022, 1, 3, 1, .u16, .rwc, true, false, false, false, some (0x1, 0x64), 0, 0x2, 0x2, 0⟩,
   ⟨0xA023, 1, 1, 1, .u8, .rwc, true, false, false, false, some (0x3, 0xFF), 0, 0x3, 0x3, 0⟩,
   ⟨0xA023, 1, 2, 1, .u8, .rwc, true, false, false, false, some (0x2, 0xFF), 0, 0x20, 0x20, 0⟩,
   ⟨0xA023, 1, 3, 1, .u16, .rwc, true, false, false, false, some (0x1, 0x64), 0, 0x2, 0x2, 0⟩,
   ⟨0xA024, 1, 1, 1, .u8, .rwc, true, false, false, false, some (0x3, 0xFF), 0, 0x3, 0x3, 0⟩,
   ⟨0xA024, 1, 2, 1, .u8, .rwc, true, false, false, false, some (0x2, 0xFF), 0, 0x20, 0x20, 0⟩,
   ⟨0xA024, 1, 3, 1, .u16, .rwc, true, false, false, false, some (0x1, 0x64), 0, 0x2, 0x2, 0⟩]

def odSecM : List OdRow :=
  [⟨0xB001, 1, 1, 1, .u8, .rws, true, false, false, false, some (0x0, 0x3), 0, 0x3, 0x3, 0⟩,
   ⟨0xB002, 1, 1, 1, .octets, .const, false, false, false, false, none, 64, 0x0, 0x0, 11⟩,
   ⟨0xB002, 1, 2, 1, .domain, .const, false, false, false, false, none, 1024, 0x0, 0x0, 12⟩,
   ⟨0xB003, 1, 1, 1, .u8, .wo, false, false, false, false, some (0x1, 0x2), 0, 0x0, 0x0, 0⟩,
   ⟨0xB003, 1, 2, 1, .u8, .ro, false, false, false, false, none, 0, 0x0, 0x0, 0⟩,
   ⟨0xB010, 4, 1, 1, .u8, .ro, false, false, false, false, none, 0, 0x0, 0x0, 0⟩,
   ⟨0xB010, 4, 2, 1, .octets, .ro, false, false, false, false, none, 64, 0x0, 0x0, 0⟩,
   ⟨0xB010, 4, 3, 1, .octets, .wo, false, false, false, false, none, 128, 0x0, 0x0, 0⟩,
   ⟨0xB020, 8, 1, 1, .u8, .ro, false, false, false, false, none, 0, 0x0, 0x0, 0⟩,
   ⟨0xB020, 8, 2, 1, .octets, .ro, false, false, false, false, none, 64, 0x0, 0x0, 0⟩,
   ⟨0xB020, 8, 3, 1, .u8, .ro, false, false, false, false, none, 0, 0x0, 0x0, 0⟩,
   ⟨0xB020, 8, 4, 1, .octets, .wo, false, false, false, false, none, 129, 0x0, 0x0, 0⟩,
   ⟨0xB030, 1, 1, 1, .octets, .rw, false, false, true, false, none, 32, 0x0, 0x0, 0⟩,
   ⟨0xB030, 1, 2, 1, .domain, .ro, false, false, false, false, none, 296, 0x0, 0x0, 0⟩,
   ⟨0xB030, 1, 3, 1, .u64, .ro, false, false, false, false, none, 0, 0x0, 0x0, 0⟩,
   ⟨0xB040, 1, 1, 1, .domain, .wo, false, false, false, false, none, 131072, 0x0, 0x0, 0⟩,
   ⟨0xB040, 1, 2, 1, .u8, .ro, false, false, false, false, none, 0, 0x0, 0x0, 0⟩,
   ⟨0xB040, 1, 3, 1, .bool, .rws, true, false, false, false, none, 0, 0x1, 0x1, 0⟩,
   ⟨0xB050, 1, 1, 1, .u32, .rw, false, false, true, false, none, 0, 0x0, 0x0, 0⟩,
   ⟨0xB050, 1, 2, 1, .domain, .wo, false, false, false, false, none, 131072, 0x0, 0x0, 0⟩,
   ⟨0xB050, 1, 3, 1, .u8, .rw, false, false, true, false, some (0x1, 0x2), 0, 0x1, 0x1, 0⟩,
   ⟨0xB050, 1, 4, 1, .u8, .wo, false, false, false, false, some (0x1, 0x4), 0, 0x0, 0x0, 0⟩,
   ⟨0xB050, 1, 5, 1, .u8, .ro, false, false, false, false, none, 0, 0x0, 0x0, 0⟩]

def odData : List OdRow :=
  [⟨0xC010, 1, 1, 1, .u8, .rwc, true, false, false, false, some (0x8, 0x1C), 0, 0x14, 0x14, 0⟩,
   ⟨0xC010, 1, 2, 1, .u8, .rwc, true, false, false, false, some (0x2, 0x4), 0, 0x4, 0x4, 0⟩,
   ⟨0xC010, 1, 3, 1, .u32, .ro, false, false, false, false, none, 0, 0x0, 0x0, 0⟩,
   ⟨0xC010, 1, 4, 1, .u32, .ro, false, false, false, false, none, 0, 0x0, 0x0, 0⟩,
   ⟨0xC010, 1, 5, 1, .u16, .ro, false, false, false, false, none, 0, 0x0, 0x0, 0⟩,
   ⟨0xC010, 1, 6, 1, .bool, .rwc, true, false, false, false, none, 0, 0x1, 0x1, 0⟩,
   ⟨0xC010, 1, 7, 1, .u16, .rwc, true, false, false, false, some (0x64, 0xEA60), 0, 0x7D0, 0x7D0, 0⟩,
   ⟨0xC020, 1, 1, 1, .u32, .rwc, true, false, false, false, some (0x1, 0xF4240), 0, 0x40, 0x40, 0⟩,
   ⟨0xC020, 1, 2, 1, .u32, .rwc, true, false, false, false, some (0x1, 0xF4240), 0, 0x10, 0x10, 0⟩,
   ⟨0xC020, 1, 3, 1, .u32, .rwc, true, false, false, false, some (0x3E8, 0x5265C00), 0, 0x927C0, 0x927C0, 0⟩,
   ⟨0xC020, 1, 4, 1, .u16, .rwc, true, false, false, false, some (0xA, 0x3E8), 0, 0x64, 0x64, 0⟩,
   ⟨0xC021, 1, 1, 1, .octets, .const, false, false, false, false, none, 64, 0x0, 0x0, 13⟩,
   ⟨0xC030, 1, 1, 1, .u16, .rwc, true, false, false, false, some (0x14, 0x1388), 0, 0xC8, 0xC8, 0⟩,
   ⟨0xC040, 16, 1, 1, .u64, .rwc, true, false, false, false, none, 0, 0x0, 0x0, 0⟩,
   ⟨0xC040, 16, 2, 1, .u8, .rwc, true, false, false, false, some (0xC, 0x16), 0, 0xC, 0xC, 0⟩,
   ⟨0xC040, 16, 3, 1, .u32, .rwc, true, false, false, false, some (0x0, 0x40000), 0, 0x0, 0x0, 0⟩,
   ⟨0xC040, 16, 4, 1, .u32, .rwc, true, false, false, false, none, 0, 0x0, 0x0, 0⟩,
   ⟨0xC040, 16, 5, 1, .u32, .ro, false, false, false, false, none, 0, 0x0, 0x0, 0⟩,
   ⟨0xC040, 16, 6, 1, .u32, .ro, false, false, false, false, none, 0, 0x0, 0x0, 0⟩,
   ⟨0xC040, 16, 7, 1, .u64, .ro, false, false, false, false, none, 0, 0x0, 0x0, 0⟩,
   ⟨0xC050, 1, 1, 1, .u64, .rwc, true, false, false, false, none, 0, 0x0, 0x0, 0⟩,
   ⟨0xC050, 1, 2, 1, .u64, .rwc, true, false, false, false, none, 0, 0x0, 0x0, 0⟩,
   ⟨0xC050, 1, 3, 1, .u16, .rwc, true, false, false, false, some (0x10, 0xFFFF), 0, 0x100, 0x100, 0⟩,
   ⟨0xC060, 1, 1, 1, .u16, .rwc, true, false, false, false, some (0x80, 0x200), 0, 0x200, 0x200, 0⟩,
   ⟨0xC060, 1, 2, 1, .u16, .rwc, true, false, false, false, some (0xA, 0xEA60), 0, 0x3E8, 0x3E8, 0⟩,
   ⟨0xC060, 1, 3, 1, .u8, .rwc, true, false, false, false, some (0x1, 0xF), 0, 0x4, 0x4, 0⟩,
   ⟨0xC070, 1, 1, 1, .u32, .rwc, true, false, false, false, none, 0, 0xF4240, 0xF4240, 0⟩,
   ⟨0xC070, 1, 2, 1, .u8, .rwc, true, false, false, false, some (0xA, 0x12), 0, 0x10, 0x10, 0⟩,
   ⟨0xC070, 1, 3, 1, .u64, .rws, true, true, false, false, none, 0, 0x35F000000, 0x18F000000, 0⟩,
   ⟨0xC070, 1, 4, 1, .u8, .rwc, true, false, false, false, some (0x0, 0x5A), 0, 0x19, 0x19, 0⟩,
   ⟨0xC070, 1, 5, 1, .u64, .ro, false, false, false, false, none, 0, 0x0, 0x0, 0⟩,
   ⟨0xC070, 1, 6, 1, .u64, .ro, false, false, false, false, none, 0, 0x0, 0x0, 0⟩,
   ⟨0xC070, 1, 7, 1, .u8, .ro, false, false, false, false, none, 0, 0x0, 0x0, 0⟩,
   ⟨0xC071, 1, 1, 255, .u32, .rwc, true, false, false, false, none, 0, 0x0, 0x0, 0⟩]

def odDiag : List OdRow :=
  [⟨0xF010, 1, 1, 1, .u64, .rws, true, true, false, false, none, 0, 0x0, 0x0, 0⟩,
   ⟨0xF010, 1, 2, 1, .u32, .rws, true, true, false, false, some (0x1, 0x4000), 0, 0x1, 0x1, 0⟩,
   ⟨0xF011, 1, 1, 1, .u8, .rwc, true, false, false, false, some (0x1, 0x10), 0, 0x10, 0x10, 0⟩,
   ⟨0xF011, 1, 2, 1, .u8, .rwc, true, false, false, false, some (0x0, 0xF), 0, 0x4, 0x4, 0⟩,
   ⟨0xF011, 1, 3, 1, .u8, .rwc, true, false, false, false, some (0x1, 0x4), 0, 0x4, 0x4, 0⟩,
   ⟨0xF011, 1, 4, 1, .u8, .rwc, true, false, false, false, some (0x2, 0xF), 0, 0x4, 0x4, 0⟩,
   ⟨0xF011, 1, 5, 1, .u16, .rwc, true, false, false, false, some (0x0, 0xF00), 0, 0x10, 0x10, 0⟩,
   ⟨0xF011, 1, 6, 1, .u8, .rwc, true, false, false, false, some (0x0, 0x3), 0, 0x1, 0x1, 0⟩,
   ⟨0xF011, 1, 7, 1, .u8, .rwc, true, false, false, false, some (0x1, 0x8), 0, 0x6, 0x6, 0⟩,
   ⟨0xF011, 1, 8, 1, .u16, .rwc, true, false, false, false, some (0x0, 0xFFFF), 0, 0x1FE, 0x1FE, 0⟩,
   ⟨0xF011, 1, 9, 1, .u16, .rwc, true, false, false, false, some (0x32, 0x1388), 0, 0x190, 0x190, 0⟩,
   ⟨0xF011, 1, 10, 1, .bool, .rwc, true, false, false, false, none, 0, 0x1, 0x1, 0⟩,
   ⟨0xF011, 1, 11, 1, .octets, .rwc, true, false, false, false, none, 32, 0x0, 0x0, 8⟩,
   ⟨0xF020, 1, 1, 1, .u64, .rws, true, true, false, false, none, 0, 0x0, 0x0, 0⟩,
   ⟨0xF020, 1, 2, 1, .u32, .rws, true, true, false, false, some (0x1, 0x1000000), 0, 0x1, 0x1, 0⟩,
   ⟨0xF020, 1, 3, 1, .u64, .rw, false, false, false, false, none, 0, 0x0, 0x0, 0⟩,
   ⟨0xF020, 1, 4, 1, .u8, .wo, false, false, false, false, some (0x1, 0x3), 0, 0x0, 0x0, 0⟩,
   ⟨0xF020, 1, 5, 1, .u8, .rw, false, false, false, false, some (0x0, 0x2), 0, 0x0, 0x0, 0⟩,
   ⟨0xF020, 1, 6, 1, .u8, .ro, false, false, false, false, none, 0, 0x0, 0x0, 0⟩,
   ⟨0xF020, 1, 7, 1, .u32, .ro, false, false, false, false, none, 0, 0x0, 0x0, 0⟩,
   ⟨0xF020, 1, 8, 1, .u32, .ro, false, false, false, false, none, 0, 0x0, 0x0, 0⟩,
   ⟨0xF020, 1, 9, 1, .u8, .wo, false, false, false, false, some (0x1, 0x2), 0, 0x0, 0x0, 0⟩,
   ⟨0xF020, 1, 10, 1, .u32, .rw, false, false, false, false, none, 0, 0x0, 0x0, 0⟩,
   ⟨0xF020, 1, 11, 1, .u8, .ro, false, false, false, false, none, 0, 0x0, 0x0, 0⟩]

/-- Every row of the dictionary, in ascending index and subindex. -/
def odRows : List OdRow :=
  odId ++ odDev ++ odFmt ++ odServo ++ odCellA ++ odCellB ++ odCellC ++ odCellD ++ odCellE ++ odCellF ++ odSpin ++ odChan ++ odHost ++ odHealth ++ odFault ++ odSecM ++ odData ++ odDiag

/-- The row of an entry, if a chapter defines it. The reaction table 0xA100 to 0xA37F (20_faults.md R458) is not listed here: see `reactRow`. -/
def odRow (ix sub : Nat) : Option OdRow :=
  odRows.find? (fun r => decide (r.ix ≤ ix) && decide (ix < r.ix + r.n) && decide (r.sub ≤ sub) && decide (sub < r.sub + r.m))

/-- The default of an entry. -/
def OdRow.dflt (r : OdRow) (p : Part) (ix : Nat) : OdVal :=
  match r.sp with
  | 0 => if r.ty.isNum then .num (match p with | .a44 => r.d44 | .a22 => r.d22)
         else .bytes (if r.ty = .octets then List.replicate r.max 0 else [])
  | 1 => .bytes (ascii "Skelwald Microsystems")
  | 2 => .bytes (ascii (match p with | .a44 => "ODC7-A44-HB16-W" | .a22 => "ODC7-A22-HB8-W"))
  | 3 => .bytes (ascii "B0")
  | 4 => .bytes Config.serial
  | 5 => .bytes Config.mac
  | 6 => .bytes (List.replicate 16 0)
  | 7 => .bytes []
  | 8 => .bytes ((List.range 32).map (BitVec.ofNat 8))
  | 9 => .bytes Config.churnTable
  | 10 => .num (eolDefault (ix - 0x8100))
  | 11 => .bytes Config.deviceKey
  | 12 => .bytes Config.deviceCert
  | 13 => .bytes Config.hsiaoTable
  | n => .num (zoneDefault (ix - 0x3100) (n - 20))

/-- The default of entry (ix, sub), 0 where the entry is not in the table. -/
def odDefault (p : Part) (ix sub : Nat) : OdVal :=
  match odRow ix sub with
  | some r => r.dflt p ix
  | none => .num 0

/-- The number of a value. -/
def OdVal.toNum : OdVal → Nat
  | .num n => n
  | .bytes b => leNat b

/-- The encoded bytes of a value of a type (R427). -/
def OdVal.encode (t : OdTy) : OdVal → List Byte
  | .num n => leBytes t.len n
  | .bytes b => b

/-- The stored value of an entry: RW and RWS value, staged value of an RWC entry (R428). -/
def State.odGet (s : State) (ix sub : Nat) : OdVal := (tabFind s.od (odKey ix sub)).getD (odDefault s.part ix sub)

/-- The value in force of an RWC entry or of an RWS entry checked at commit (R428, R429). -/
def State.odInForce (s : State) (ix sub : Nat) : OdVal := (tabFind s.odRun (odKey ix sub)).getD (odDefault s.part ix sub)

/-- A number of the dictionary as stored (RW and RWS entries). -/
def State.ent (s : State) (ix sub : Nat) : Nat := (s.odGet ix sub).toNum

/-- A number of the dictionary in force (RWC entries, and RWS entries checked at commit). -/
def State.par (s : State) (ix sub : Nat) : Nat := (s.odInForce ix sub).toNum

/-- Stores a value. -/
def State.odPut (s : State) (ix sub : Nat) (v : OdVal) : State := { s with od := tabSet s.od (odKey ix sub) v }

/-- A per-source number (R431), `d` where nothing is held. -/
def State.src (s : State) (ix sub src d : Nat) : Nat := tabGet d s.perSrc (odKey ix sub * 16 + src)
def State.setSrc (s : State) (ix sub src v : Nat) : State := { s with perSrc := tabSet s.perSrc (odKey ix sub * 16 + src) v }

end Sys2Proof.Machine
end

