-- ==== Sys2Proof/Machine/Fields.lean ====
section
/-! DEFINITION. Fields.lean: one descriptor per register field, from the register tables of the spec.
Window offsets are those of 18_register_access.md R408 and R410 and of each block's own table; instance index i is the block
(unit, region or, for a banked register, requester), index j the register within its group. A banked copy of requester q stands at
16 MiB * q, above the window. -/

namespace Sys2Proof.Machine

/-- PL_CTRL.ENABLE [0:0], 02_attached_modules.md. 1 enables the link and starts training -/
def PL_CTRL_ENABLE : Fld := ⟨0x874000, 0x1000, 4, 0x0, 1, 0, 1, 0x0, 0, 0x0, .rw⟩
/-- PL_CTRL.RETRAIN [1:1], 02_attached_modules.md. Writing 1 restarts training at step 1 of R43 -/
def PL_CTRL_RETRAIN : Fld := ⟨0x874000, 0x1000, 4, 0x0, 1, 1, 1, 0x0, 0, 0x0, .wo⟩
/-- PL_CTRL.MAX_RETRY [5:4], 02_attached_modules.md. Retries per acknowledged command, 0 to 3 -/
def PL_CTRL_MAX_RETRY : Fld := ⟨0x874000, 0x1000, 4, 0x0, 1, 4, 2, 0x3, 0, 0x3, .rw⟩
/-- PL_STATUS.LINK_UP [0:0], 02_attached_modules.md. 1 while STATE = UP -/
def PL_STATUS_LINK_UP : Fld := ⟨0x874004, 0x1000, 4, 0x0, 1, 0, 1, 0x0, 0, 0x0, .ro⟩
/-- PL_STATUS.STATE [2:1], 02_attached_modules.md. 0 DOWN, 1 TRAIN, 2 UP, 3 FAILED -/
def PL_STATUS_STATE : Fld := ⟨0x874004, 0x1000, 4, 0x0, 1, 1, 2, 0x0, 0, 0x0, .ro⟩
/-- PL_STATUS.CMD_BUSY [3:3], 02_attached_modules.md. An acknowledged command is outstanding -/
def PL_STATUS_CMD_BUSY : Fld := ⟨0x874004, 0x1000, 4, 0x0, 1, 3, 1, 0x0, 0, 0x0, .ro⟩
/-- PL_STATUS.LAST_SEQ [7:4], 02_attached_modules.md. SEQ of the last acknowledged command -/
def PL_STATUS_LAST_SEQ : Fld := ⟨0x874004, 0x1000, 4, 0x0, 1, 4, 4, 0x0, 0, 0x0, .ro⟩
/-- PL_STATUS.CRC_ERR_DN [23:16], 02_attached_modules.md. DN_CRC events received; saturates at 255 -/
def PL_STATUS_CRC_ERR_DN : Fld := ⟨0x874004, 0x1000, 4, 0x0, 1, 16, 8, 0x0, 0, 0x0, .rc⟩
/-- PL_STATUS.CRC_ERR_UP [31:24], 02_attached_modules.md. Upstream frames discarded; saturates at 255 -/
def PL_STATUS_CRC_ERR_UP : Fld := ⟨0x874004, 0x1000, 4, 0x0, 1, 24, 8, 0x0, 0, 0x0, .rc⟩
/-- MOD_ADMIT.STATE [2:0], 02_attached_modules.md. 0 NOT_READ, 1 READING, 2 ADMITTED, 3 REFUSED, 4 ABSENT_EXPECTED -/
def MOD_ADMIT_STATE : Fld := ⟨0x20000, 0x0, 1, 0x4, 12, 0, 3, 0x0, 0, 0x0, .ro⟩
/-- MOD_ADMIT.REASON [15:8], 02_attached_modules.md. Reason of R52 -/
def MOD_ADMIT_REASON : Fld := ⟨0x20000, 0x0, 1, 0x4, 12, 8, 8, 0x0, 0, 0x0, .ro⟩
/-- MOD_ADMIT.KEY_INDEX [17:16], 02_attached_modules.md. KEY_INDEX of the last verified set -/
def MOD_ADMIT_KEY_INDEX : Fld := ⟨0x20000, 0x0, 1, 0x4, 12, 16, 2, 0x0, 0, 0x0, .ro⟩
/-- MOD_ADMIT.REREAD [31:31], 02_attached_modules.md. Writing 1 requests re-reading of this role; clears when STATE leaves READING -/
def MOD_ADMIT_REREAD : Fld := ⟨0x20000, 0x0, 1, 0x4, 12, 31, 1, 0x0, 0, 0x0, .w1s⟩
/-- TRU_CTRL.ENABLE [0:0], 03_clock_surface.md. 1 allows acquisition under R62 -/
def TRU_CTRL_ENABLE : Fld := ⟨0x870000, 0x1000, 4, 0x0, 1, 0, 1, 0x0, 0, 0x0, .rw⟩
/-- TRU_CTRL.REACQ [1:1], 03_clock_surface.md. Writing 1 restarts acquisition at FREQ_ACQ from any state other than OFF -/
def TRU_CTRL_REACQ : Fld := ⟨0x870000, 0x1000, 4, 0x0, 1, 1, 1, 0x0, 0, 0x0, .wo⟩
/-- TRU_CTRL.HOLD [2:2], 03_clock_surface.md. 1 forces loss with cause FORCED and keeps the TRU in HOLDOVER; 0 lets it reacquire -/
def TRU_CTRL_HOLD : Fld := ⟨0x870000, 0x1000, 4, 0x0, 1, 2, 1, 0x0, 0, 0x0, .rw⟩
/-- TRU_CFG.KP_SHIFT [3:0], 03_clock_surface.md. Phase-loop proportional gain 2^−KP_SHIFT -/
def TRU_CFG_KP_SHIFT : Fld := ⟨0x870004, 0x1000, 4, 0x0, 1, 0, 4, 0x6, 0, 0x6, .rwc⟩
/-- TRU_CFG.KI_SHIFT [7:4], 03_clock_surface.md. Phase-loop integral gain 2^−KI_SHIFT -/
def TRU_CFG_KI_SHIFT : Fld := ⟨0x870004, 0x1000, 4, 0x0, 1, 4, 4, 0xC, 0, 0xC, .rwc⟩
/-- TRU_CFG.RELOCK_LIMIT [15:8], 03_clock_surface.md. Relock limit in ms, 1 to 255; 0 is read as 1 -/
def TRU_CFG_RELOCK_LIMIT : Fld := ⟨0x870004, 0x1000, 4, 0x0, 1, 8, 8, 0x32, 0, 0x32, .rwc⟩
/-- TRU_CFG.PH_MU [18:16], 03_clock_surface.md. Phase-trim adaptation shift, 0 to 7 -/
def TRU_CFG_PH_MU : Fld := ⟨0x870004, 0x1000, 4, 0x0, 1, 16, 3, 0x3, 0, 0x3, .rwc⟩
/-- TRU_CFG.RRO_MU [21:19], 03_clock_surface.md. Once-around adaptation shift, 0 to 7 -/
def TRU_CFG_RRO_MU : Fld := ⟨0x870004, 0x1000, 4, 0x0, 1, 19, 3, 0x6, 0, 0x6, .rwc⟩
/-- TRU_CFG.QUAL_MIN [25:22], 03_clock_surface.md. Minimum QUAL for VALID -/
def TRU_CFG_QUAL_MIN : Fld := ⟨0x870004, 0x1000, 4, 0x0, 1, 22, 4, 0x6, 0, 0x6, .rwc⟩
/-- TRU_STATUS.STATE [2:0], 03_clock_surface.md. State of R61 -/
def TRU_STATUS_STATE : Fld := ⟨0x870008, 0x1000, 4, 0x0, 1, 0, 3, 0x0, 0, 0x0, .ro⟩
/-- TRU_STATUS.LOCKED [3:3], 03_clock_surface.md. 1 while STATE = LOCKED -/
def TRU_STATUS_LOCKED : Fld := ⟨0x870008, 0x1000, 4, 0x0, 1, 3, 1, 0x0, 0, 0x0, .ro⟩
/-- TRU_STATUS.LOSS_CAUSE [6:4], 03_clock_surface.md. Cause of the last loss, R65 -/
def TRU_STATUS_LOSS_CAUSE : Fld := ⟨0x870008, 0x1000, 4, 0x0, 1, 4, 3, 0x0, 0, 0x0, .ro⟩
/-- TRU_STATUS.LOSS_COUNT [23:16], 03_clock_surface.md. Losses declared; saturates at 255 -/
def TRU_STATUS_LOSS_COUNT : Fld := ⟨0x870008, 0x1000, 4, 0x0, 1, 16, 8, 0x0, 0, 0x0, .rc⟩
/-- TRU_STATUS.MISS_COUNT [31:24], 03_clock_surface.md. Single frames coasted under R64; saturates at 255 -/
def TRU_STATUS_MISS_COUNT : Fld := ⟨0x870008, 0x1000, 4, 0x0, 1, 24, 8, 0x0, 0, 0x0, .rc⟩
/-- TRU_AMP.AMP_LO [7:0], 03_clock_surface.md. Lower amplitude limit, in ADC codes peak-to-peak after gain -/
def TRU_AMP_AMP_LO : Fld := ⟨0x87000C, 0x1000, 4, 0x0, 1, 0, 8, 0x40, 0, 0x40, .rwc⟩
/-- TRU_AMP.AMP_HI [15:8], 03_clock_surface.md. Upper amplitude limit -/
def TRU_AMP_AMP_HI : Fld := ⟨0x87000C, 0x1000, 4, 0x0, 1, 8, 8, 0x7C, 0, 0x7C, .rwc⟩
/-- TRU_AMP.AMP [23:16], 03_clock_surface.md. Carrier amplitude over the last carrier field -/
def TRU_AMP_AMP : Fld := ⟨0x87000C, 0x1000, 4, 0x0, 1, 16, 8, 0x0, 0, 0x0, .ro⟩
/-- TRU_AMP.AGC [31:24], 03_clock_surface.md. Clock-head front-end gain, 0.25 dB per step from 0 dB -/
def TRU_AMP_AGC : Fld := ⟨0x87000C, 0x1000, 4, 0x0, 1, 24, 8, 0x0, 0, 0x0, .ro⟩
/-- TRU_POS.FRAME [9:0], 03_clock_surface.md. Frame number of the last sample -/
def TRU_POS_FRAME : Fld := ⟨0x870010, 0x1000, 4, 0x0, 1, 0, 10, 0x0, 0, 0x0, .ro⟩
/-- TRU_POS.CYL [31:10], 03_clock_surface.md. Clock-track number of the last sample -/
def TRU_POS_CYL : Fld := ⟨0x870010, 0x1000, 4, 0x0, 1, 10, 22, 0x0, 0, 0x0, .ro⟩
/-- TRU_PES.PES [15:0], 03_clock_surface.md. PES of the last sample, I16 -/
def TRU_PES_PES : Fld := ⟨0x870014, 0x1000, 4, 0x0, 1, 0, 16, 0x0, 0, 0x0, .ro⟩
/-- TRU_PES.QUAL [19:16], 03_clock_surface.md. QUAL of the last sample -/
def TRU_PES_QUAL : Fld := ⟨0x870014, 0x1000, 4, 0x0, 1, 16, 4, 0x0, 0, 0x0, .ro⟩
/-- TRU_PES.VALID [20:20], 03_clock_surface.md. VALID of the last sample -/
def TRU_PES_VALID : Fld := ⟨0x870014, 0x1000, 4, 0x0, 1, 20, 1, 0x0, 0, 0x0, .ro⟩
/-- HT_CTRL.FREEZE [10:0], 03_clock_surface.md. Bit h = 1 freezes adaptation of head h -/
def HT_CTRL_FREEZE : Fld := ⟨0x870018, 0x1000, 4, 0x0, 1, 0, 11, 0x0, 0, 0x0, .rw⟩
/-- SYN_NDIVk.BITS [16:0], 03_clock_surface.md. B, coded bits per frame in force on slot k -/
def SYN_NDIVk_BITS : Fld := ⟨0x870020, 0x1000, 4, 0x4, 8, 0, 17, 0x0, 0, 0x0, .ro⟩
/-- SYN_NDIVk.ZONE [22:17], 03_clock_surface.md. Zone of B -/
def SYN_NDIVk_ZONE : Fld := ⟨0x870020, 0x1000, 4, 0x4, 8, 17, 6, 0x0, 0, 0x0, .ro⟩
/-- SYN_NDIVk.SLEW [23:23], 03_clock_surface.md. 1 while the synthesiser is settling -/
def SYN_NDIVk_SLEW : Fld := ⟨0x870020, 0x1000, 4, 0x4, 8, 23, 1, 0x0, 0, 0x0, .ro⟩
/-- HT_PHASEh.PHT [17:0], 03_clock_surface.md. I18, in 1/1,024 CSB, ±128 CSB -/
def HT_PHASEh_PHT : Fld := ⟨0x870040, 0x1000, 4, 0x4, 11, 0, 18, 0x0, 0, 0x0, .rw⟩
/-- HT_PHASEh.CONVERGED [30:30], 03_clock_surface.md. 1 when R71 was last met -/
def HT_PHASEh_CONVERGED : Fld := ⟨0x870040, 0x1000, 4, 0x4, 11, 30, 1, 0x0, 0, 0x0, .ro⟩
/-- HT_PHASEh.OUTLIER [31:31], 03_clock_surface.md. 1 while the outlier count of R70 is non-zero -/
def HT_PHASEh_OUTLIER : Fld := ⟨0x870040, 0x1000, 4, 0x4, 11, 31, 1, 0x0, 0, 0x0, .ro⟩
/-- HT_RROh.RC [15:0], 03_clock_surface.md. I16, in 1/1,024 CSB -/
def HT_RROh_RC : Fld := ⟨0x870070, 0x1000, 4, 0x4, 11, 0, 16, 0x0, 0, 0x0, .rw⟩
/-- HT_RROh.RS [31:16], 03_clock_surface.md. I16, in 1/1,024 CSB -/
def HT_RROh_RS : Fld := ⟨0x870070, 0x1000, 4, 0x4, 11, 16, 16, 0x0, 0, 0x0, .rw⟩
/-- FE_CTRL.EN [0:0], 05_front_end.md. 1 enables the front end -/
def FE_CTRL_EN : Fld := ⟨0x810000, 0x1000, 32, 0x0, 1, 0, 1, 0x0, 0, 0x0, .rw⟩
/-- FE_CTRL.RDR_EN [3:1], 05_front_end.md. Bit r = 0 excludes reader r (R127) -/
def FE_CTRL_RDR_EN : Fld := ⟨0x810000, 0x1000, 32, 0x0, 1, 1, 3, 0x7, 0, 0x7, .rw⟩
/-- FE_CTRL.ROLLBACK [4:4], 05_front_end.md. Enables R126 -/
def FE_CTRL_ROLLBACK : Fld := ⟨0x810000, 0x1000, 32, 0x0, 1, 4, 1, 0x1, 0, 0x1, .rw⟩
/-- FE_CTRL.TA_EN [5:5], 05_front_end.md. Enables R128 -/
def FE_CTRL_TA_EN : Fld := ⟨0x810000, 0x1000, 32, 0x0, 1, 5, 1, 0x1, 0, 0x1, .rw⟩
/-- FE_FREEZE.GAIN [2:0], 05_front_end.md. Bit r freezes the gain of reader r -/
def FE_FREEZE_GAIN : Fld := ⟨0x810004, 0x1000, 32, 0x0, 1, 0, 3, 0x0, 0, 0x0, .rw⟩
/-- FE_FREEZE.OFS [6:4], 05_front_end.md. Offset -/
def FE_FREEZE_OFS : Fld := ⟨0x810004, 0x1000, 32, 0x0, 1, 4, 3, 0x0, 0, 0x0, .rw⟩
/-- FE_FREEZE.MRA [10:8], 05_front_end.md. Asymmetry -/
def FE_FREEZE_MRA : Fld := ⟨0x810004, 0x1000, 32, 0x0, 1, 8, 3, 0x0, 0, 0x0, .rw⟩
/-- FE_FREEZE.PHASE [14:12], 05_front_end.md. Phase; bit 13 has no effect -/
def FE_FREEZE_PHASE : Fld := ⟨0x810004, 0x1000, 32, 0x0, 1, 12, 3, 0x0, 0, 0x0, .rw⟩
/-- FE_FREEZE.TAPS [18:16], 05_front_end.md. Taps of reader r -/
def FE_FREEZE_TAPS : Fld := ⟨0x810004, 0x1000, 32, 0x0, 1, 16, 3, 0x0, 0, 0x0, .rw⟩
/-- FE_STATUS.RDR_ACT [2:0], 05_front_end.md. Readers in use -/
def FE_STATUS_RDR_ACT : Fld := ⟨0x810008, 0x1000, 32, 0x0, 1, 0, 3, 0x7, 0, 0x7, .ro⟩
/-- FE_STATUS.PH_SAT [5:3], 05_front_end.md. Bit r: phase saturated (R114) -/
def FE_STATUS_PH_SAT : Fld := ⟨0x810008, 0x1000, 32, 0x0, 1, 3, 3, 0x0, 0, 0x0, .ro⟩
/-- FE_STATUS.STAGED [6:6], 05_front_end.md. A write waits for a field boundary (R129) -/
def FE_STATUS_STAGED : Fld := ⟨0x810008, 0x1000, 32, 0x0, 1, 6, 1, 0x0, 0, 0x0, .ro⟩
/-- FE_STATUS.ROLLBACKS [15:8], 05_front_end.md. Rollbacks; saturates at 255 -/
def FE_STATUS_ROLLBACKS : Fld := ⟨0x810008, 0x1000, 32, 0x0, 1, 8, 8, 0x0, 0, 0x0, .rc⟩
/-- SB_STATUS.SLOT [7:0], 05_front_end.md. Two bits per slot record, SB0 in [1:0]; state of R119 -/
def SB_STATUS_SLOT : Fld := ⟨0x81000C, 0x1000, 32, 0x0, 1, 0, 8, 0x0, 0, 0x0, .ro⟩
/-- SB_STATUS.OVERRUN [15:8], 05_front_end.md. Overruns (R120); saturates at 255 -/
def SB_STATUS_OVERRUN : Fld := ⟨0x81000C, 0x1000, 32, 0x0, 1, 8, 8, 0x0, 0, 0x0, .rc⟩
/-- EQ_CTRL.EQ_MU [3:0], 05_front_end.md. LMS shift; values below 6 read as 6 -/
def EQ_CTRL_EQ_MU : Fld := ⟨0x810018, 0x1000, 32, 0x0, 1, 0, 4, 0xB, 0, 0xB, .rw⟩
/-- EQ_CTRL.UPD_DIV [6:4], 05_front_end.md. Tap update every 2^UPD_DIV bits -/
def EQ_CTRL_UPD_DIV : Fld := ⟨0x810018, 0x1000, 32, 0x0, 1, 4, 3, 0x3, 0, 0x3, .rw⟩
/-- EQ_TARGET.G1 [5:0], 05_front_end.md. I6, 1/32 units (reset +0.5) -/
def EQ_TARGET_G1 : Fld := ⟨0x81001C, 0x1000, 32, 0x0, 1, 0, 6, 0x10, 0, 0x10, .rw⟩
/-- EQ_TARGET.G2 [13:8], 05_front_end.md. I6, 1/32 units -/
def EQ_TARGET_G2 : Fld := ⟨0x81001C, 0x1000, 32, 0x0, 1, 8, 6, 0x0, 0, 0x0, .rw⟩
/-- EQ_TARGET.SCALE [20:16], 05_front_end.md. Codes per target unit, 1 to 31; 0 reads as 1 -/
def EQ_TARGET_SCALE : Fld := ⟨0x81001C, 0x1000, 32, 0x0, 1, 16, 5, 0x8, 0, 0x8, .rw⟩
/-- EQ_MSE.MSE [15:0], 05_front_end.md. Mean of e² over the last field's codeword, 1/256 code² -/
def EQ_MSE_MSE : Fld := ⟨0x810020, 0x1000, 32, 0x0, 1, 0, 16, 0x0, 0, 0x0, .ro⟩
/-- FE_TA.TA_THR [6:0], 05_front_end.md. Threshold, ADC codes -/
def FE_TA_TA_THR : Fld := ⟨0x810024, 0x1000, 32, 0x0, 1, 0, 7, 0x28, 0, 0x28, .rw⟩
/-- FE_TA.TA_LEN [15:8], 05_front_end.md. Span extension, units of 16 bits -/
def FE_TA_TA_LEN : Fld := ⟨0x810024, 0x1000, 32, 0x0, 1, 8, 8, 0x10, 0, 0x10, .rw⟩
/-- FE_TA.TA_COUNT [31:16], 05_front_end.md. Spans; saturates at 65,535 -/
def FE_TA_TA_COUNT : Fld := ⟨0x810024, 0x1000, 32, 0x0, 1, 16, 16, 0x0, 0, 0x0, .rc⟩
/-- FE_SNR.SNR [23:0], 05_front_end.md. Byte r: SNR of reader r, 0.25 dB units, over the last 64 preambles: fundamental power of the 0b1100 pattern over residua -/
def FE_SNR_SNR : Fld := ⟨0x810028, 0x1000, 32, 0x0, 1, 0, 24, 0x0, 0, 0x0, .ro⟩
/-- FE_GAIN_r.GAIN [7:0], 05_front_end.md. −4.000 dB + 0.125 dB × GAIN -/
def FE_GAIN_r_GAIN : Fld := ⟨0x810040, 0x1000, 32, 0x10, 3, 0, 8, 0x40, 0, 0x40, .rw⟩
/-- FE_GAIN_r.AGC_DZ [11:8], 05_front_end.md. Dead zone, 1/8 code -/
def FE_GAIN_r_AGC_DZ : Fld := ⟨0x810040, 0x1000, 32, 0x10, 3, 8, 4, 0x4, 0, 0x4, .rw⟩
/-- FE_GAIN_r.AGC_TGT [19:12], 05_front_end.md. Target mean |x|, codes -/
def FE_GAIN_r_AGC_TGT : Fld := ⟨0x810040, 0x1000, 32, 0x10, 3, 12, 8, 0x18, 0, 0x18, .rw⟩
/-- FE_OFS_r.OFS [7:0], 05_front_end.md. I8, 0.25 LSB -/
def FE_OFS_r_OFS : Fld := ⟨0x810044, 0x1000, 32, 0x10, 3, 0, 8, 0x0, 0, 0x0, .rw⟩
/-- FE_OFS_r.MRA [13:8], 05_front_end.md. I6, 0.5 % -/
def FE_OFS_r_MRA : Fld := ⟨0x810044, 0x1000, 32, 0x10, 3, 8, 6, 0x0, 0, 0x0, .rw⟩
/-- FE_OFS_r.OFS_DZ [19:16], 05_front_end.md. Dead zone, 1/8 LSB -/
def FE_OFS_r_OFS_DZ : Fld := ⟨0x810044, 0x1000, 32, 0x10, 3, 16, 4, 0x2, 0, 0x2, .rw⟩
/-- FE_OFS_r.MRA_DZ [23:20], 05_front_end.md. Dead zone, 0.25 % -/
def FE_OFS_r_MRA_DZ : Fld := ⟨0x810044, 0x1000, 32, 0x10, 3, 20, 4, 0x4, 0, 0x4, .rw⟩
/-- FE_CTF_r.FC [4:0], 05_front_end.md. Cutoff (0.2000 + 0.0125 × FC) × coded rate -/
def FE_CTF_r_FC : Fld := ⟨0x810048, 0x1000, 32, 0x10, 3, 0, 5, 0xC, 0, 0xC, .rw⟩
/-- FE_CTF_r.BOOST [12:8], 05_front_end.md. 0.5 dB × BOOST -/
def FE_CTF_r_BOOST : Fld := ⟨0x810048, 0x1000, 32, 0x10, 3, 8, 5, 0xC, 0, 0xC, .rw⟩
/-- FE_PHASE_r.INT [4:0], 05_front_end.md. Integer delay, coded bits -/
def FE_PHASE_r_INT : Fld := ⟨0x81004C, 0x1000, 32, 0x10, 3, 0, 5, 0x10, 0, 0x10, .rw⟩
/-- FE_PHASE_r.FRAC [10:5], 05_front_end.md. Fractional phase, 1/64 bit -/
def FE_PHASE_r_FRAC : Fld := ⟨0x81004C, 0x1000, 32, 0x10, 3, 5, 6, 0x0, 0, 0x0, .rw⟩
/-- FE_PHASE_r.PH_MU [14:12], 05_front_end.md. Phase interval exponent (R113) -/
def FE_PHASE_r_PH_MU : Fld := ⟨0x81004C, 0x1000, 32, 0x10, 3, 12, 3, 0x4, 0, 0x4, .rw⟩
/-- EQ_TAPr_t.TAP [9:0], 05_front_end.md. I10, 1/256 -/
def EQ_TAPr_t_TAP : Fld := ⟨0x810100, 0x1000, 32, 0x4, 45, 0, 10, 0x0, 22, 0x100, .rw⟩
/-- EQ_PROFp_r_t.TAP [9:0], 05_front_end.md. I10, 1/256; taps of a reader left out by the profile read as 0 and ignore writes -/
def EQ_PROFp_r_t_TAP : Fld := ⟨0x810200, 0x1000, 32, 0x4, 189, 0, 10, 0x0, 0, 0x0, .rw⟩
/-- CAL_CTRL.START [0:0], 05_front_end.md. Starts calibration; clears when STATE leaves IDLE -/
def CAL_CTRL_START : Fld := ⟨0x810010, 0x1000, 32, 0x0, 1, 0, 1, 0x0, 0, 0x0, .w1s⟩
/-- CAL_CTRL.ABORT [1:1], 05_front_end.md. Ends calibration with reason ABORTED -/
def CAL_CTRL_ABORT : Fld := ⟨0x810010, 0x1000, 32, 0x0, 1, 1, 1, 0x0, 0, 0x0, .w1s⟩
/-- CAL_CTRL.HEAD [11:8], 05_front_end.md. Head to calibrate, 0 to 10 -/
def CAL_CTRL_HEAD : Fld := ⟨0x810010, 0x1000, 32, 0x0, 1, 8, 4, 0x0, 0, 0x0, .rw⟩
/-- CAL_STATUS.STATE [1:0], 05_front_end.md. 0 IDLE, 1 RUNNING, 2 DONE, 3 FAILED -/
def CAL_STATUS_STATE : Fld := ⟨0x810014, 0x1000, 32, 0x0, 1, 0, 2, 0x0, 0, 0x0, .ro⟩
/-- CAL_STATUS.STEP [5:2], 05_front_end.md. Step of R131 in progress -/
def CAL_STATUS_STEP : Fld := ⟨0x810014, 0x1000, 32, 0x0, 1, 2, 4, 0x0, 0, 0x0, .ro⟩
/-- CAL_STATUS.REASON [15:8], 05_front_end.md. Reason of R132 -/
def CAL_STATUS_REASON : Fld := ⟨0x810014, 0x1000, 32, 0x0, 1, 8, 8, 0x0, 0, 0x0, .ro⟩
/-- CAL_STATUS.SECTORS [31:16], 05_front_end.md. Sectors read; saturates at 65,535 -/
def CAL_STATUS_SECTORS : Fld := ⟨0x810014, 0x1000, 32, 0x0, 1, 16, 16, 0x0, 0, 0x0, .ro⟩
/-- LN_CTRL.RETIRE [0:0], 06_churn.md. Retires the lane after its running attempt (R160); clears when STATE is RETIRED -/
def LN_CTRL_RETIRE : Fld := ⟨0x830000, 0x1000, 64, 0x0, 1, 0, 1, 0x0, 0, 0x0, .w1s⟩
/-- LN_CTRL.RESTORE [1:1], 06_churn.md. Runs the self-test of a retired lane; clears when the test ends -/
def LN_CTRL_RESTORE : Fld := ⟨0x830000, 0x1000, 64, 0x0, 1, 1, 1, 0x0, 0, 0x0, .w1s⟩
/-- LN_STATUS.STATE [2:0], 06_churn.md. 0 IDLE, 1 DECODE, 2 GANG_MEMBER, 3 RETIRING, 4 RETIRED, 5 SELF_TEST -/
def LN_STATUS_STATE : Fld := ⟨0x830004, 0x1000, 64, 0x0, 1, 0, 3, 0x0, 0, 0x0, .ro⟩
/-- LN_STATUS.DEGRADED [3:3], 06_churn.md. 1 when a cell is retired (R158) -/
def LN_STATUS_DEGRADED : Fld := ⟨0x830004, 0x1000, 64, 0x0, 1, 3, 1, 0x0, 0, 0x0, .ro⟩
/-- LN_STATUS.CHANNEL [8:4], 06_churn.md. Channel of the attempt running -/
def LN_STATUS_CHANNEL : Fld := ⟨0x830004, 0x1000, 64, 0x0, 1, 4, 5, 0x0, 0, 0x0, .ro⟩
/-- LN_STATUS.ITER [13:9], 06_churn.md. Sweeps of the attempt running -/
def LN_STATUS_ITER : Fld := ⟨0x830004, 0x1000, 64, 0x0, 1, 9, 5, 0x0, 0, 0x0, .ro⟩
/-- LN_STATUS.CELL_RET [31:16], 06_churn.md. Bit c = 1: cell c retired -/
def LN_STATUS_CELL_RET : Fld := ⟨0x830004, 0x1000, 64, 0x0, 1, 16, 16, 0x0, 0, 0x0, .ro⟩
/-- LN_SECT.SECTORS [31:0], 06_churn.md. Attempts ended on this lane; saturates -/
def LN_SECT_SECTORS : Fld := ⟨0x830008, 0x1000, 64, 0x0, 1, 0, 32, 0x0, 0, 0x0, .rc⟩
/-- LN_ITERS.ITERS [31:0], 06_churn.md. Sweeps run; saturates -/
def LN_ITERS_ITERS : Fld := ⟨0x83000C, 0x1000, 64, 0x0, 1, 0, 32, 0x0, 0, 0x0, .rc⟩
/-- LN_ERR.ECC_CORR [7:0], 06_churn.md. Corrected memory errors; saturates at 255 -/
def LN_ERR_ECC_CORR : Fld := ⟨0x830010, 0x1000, 64, 0x0, 1, 0, 8, 0x0, 0, 0x0, .rc⟩
/-- LN_ERR.RET_CAUSE [11:8], 06_churn.md. 0 NONE, 1 MEM_UE, 2 CELL, 3 CHECKER, 4 SOFTWARE, 5 SELFTEST -/
def LN_ERR_RET_CAUSE : Fld := ⟨0x830010, 0x1000, 64, 0x0, 1, 8, 4, 0x0, 0, 0x0, .ro⟩
/-- WR_CTRL.EN [0:0], 07_write_and_stripes.md. 1 enables the write channel -/
def WR_CTRL_EN : Fld := ⟨0x810600, 0x1000, 32, 0x0, 1, 0, 1, 0x0, 0, 0x0, .rw⟩
/-- WR_CTRL.INHIBIT [1:1], 07_write_and_stripes.md. Software inhibit, cause bit 0 -/
def WR_CTRL_INHIBIT : Fld := ⟨0x810600, 0x1000, 32, 0x0, 1, 1, 1, 0x0, 0, 0x0, .rw⟩
/-- WR_PRECOMP.PC1 [4:0], 07_write_and_stripes.md. 1/64 bit (R165) -/
def WR_PRECOMP_PC1 : Fld := ⟨0x810604, 0x1000, 32, 0x0, 1, 0, 5, 0x0, 0, 0x0, .rw⟩
/-- WR_PRECOMP.PC2 [9:5], 07_write_and_stripes.md. 1/64 bit -/
def WR_PRECOMP_PC2 : Fld := ⟨0x810604, 0x1000, 32, 0x0, 1, 5, 5, 0x0, 0, 0x0, .rw⟩
/-- WR_PRECOMP.PC_RUN [14:10], 07_write_and_stripes.md. 1/64 bit -/
def WR_PRECOMP_PC_RUN : Fld := ⟨0x810604, 0x1000, 32, 0x0, 1, 10, 5, 0x0, 0, 0x0, .rw⟩
/-- WR_STATUS.INHIBIT [13:0], 07_write_and_stripes.md. Causes of R170 -/
def WR_STATUS_INHIBIT : Fld := ⟨0x810608, 0x1000, 32, 0x0, 1, 0, 14, 0x2000, 0, 0x2000, .ro⟩
/-- WR_STATUS.UNDERRUN [23:16], 07_write_and_stripes.md. R164; saturates at 255 -/
def WR_STATUS_UNDERRUN : Fld := ⟨0x810608, 0x1000, 32, 0x0, 1, 16, 8, 0x0, 0, 0x0, .rc⟩
/-- WR_STATUS.SUSPECT [31:24], 07_write_and_stripes.md. Sectors cut (R171); saturates at 255 -/
def WR_STATUS_SUSPECT : Fld := ⟨0x810608, 0x1000, 32, 0x0, 1, 24, 8, 0x0, 0, 0x0, .rc⟩
/-- WR_HEAD.CURRENT [5:0], 07_write_and_stripes.md. Write current code in force -/
def WR_HEAD_CURRENT : Fld := ⟨0x81060C, 0x1000, 32, 0x0, 1, 0, 6, 0x0, 0, 0x0, .ro⟩
/-- WR_HEAD.HEATER [15:6], 07_write_and_stripes.md. Write heater code in force -/
def WR_HEAD_HEATER : Fld := ⟨0x81060C, 0x1000, 32, 0x0, 1, 6, 10, 0x0, 0, 0x0, .ro⟩
/-- CR_CTRL.CAP_EN [0:0], 07_write_and_stripes.md. Enables capture -/
def CR_CTRL_CAP_EN : Fld := ⟨0x878000, 0x0, 1, 0x0, 1, 0, 1, 0x0, 0, 0x0, .rw⟩
/-- CR_CTRL.WRAP [1:1], 07_write_and_stripes.md. R193 -/
def CR_CTRL_WRAP : Fld := ⟨0x878000, 0x0, 1, 0x0, 1, 1, 1, 0x0, 0, 0x0, .rw⟩
/-- CR_CTRL.CAP_NEXT [2:2], 07_write_and_stripes.md. Captures CAP_CH's next ladder end; clears when taken -/
def CR_CTRL_CAP_NEXT : Fld := ⟨0x878000, 0x0, 1, 0x0, 1, 2, 1, 0x0, 0, 0x0, .w1s⟩
/-- CR_CTRL.CAP_CH [12:8], 07_write_and_stripes.md. Channel -/
def CR_CTRL_CAP_CH : Fld := ⟨0x878000, 0x0, 1, 0x0, 1, 8, 5, 0x0, 0, 0x0, .rw⟩
/-- CR_CTRL.TRIG [22:16], 07_write_and_stripes.md. R192 -/
def CR_CTRL_TRIG : Fld := ⟨0x878000, 0x0, 1, 0x0, 1, 16, 7, 0x0, 0, 0x0, .rw⟩
/-- CR_STATUS.CAP_STATE [1:0], 07_write_and_stripes.md. 0 IDLE, 1 ARMED, 2 FULL -/
def CR_STATUS_CAP_STATE : Fld := ⟨0x878004, 0x0, 1, 0x0, 1, 0, 2, 0x0, 0, 0x0, .ro⟩
/-- CR_STATUS.CAP_MISSED [15:8], 07_write_and_stripes.md. Saturates at 255 -/
def CR_STATUS_CAP_MISSED : Fld := ⟨0x878004, 0x0, 1, 0x0, 1, 8, 8, 0x0, 0, 0x0, .rc⟩
/-- CAP_WR_IDX.IDX [31:0], 07_write_and_stripes.md. Next record index -/
def CAP_WR_IDX_IDX : Fld := ⟨0x878008, 0x0, 1, 0x0, 1, 0, 32, 0x0, 0, 0x0, .ro⟩
/-- RP_IDX.IDX [31:0], 07_write_and_stripes.md. Record to replay -/
def RP_IDX_IDX : Fld := ⟨0x87800C, 0x0, 1, 0x0, 1, 0, 32, 0x0, 0, 0x0, .rw⟩
/-- RP_CTRL.START [0:0], 07_write_and_stripes.md. Starts a replay; clears when STATE leaves IDLE -/
def RP_CTRL_START : Fld := ⟨0x878010, 0x0, 1, 0x0, 1, 0, 1, 0x0, 0, 0x0, .w1s⟩
/-- RP_CTRL.ABORT [1:1], 07_write_and_stripes.md. Ends the replay after the running attempt -/
def RP_CTRL_ABORT : Fld := ⟨0x878010, 0x0, 1, 0x0, 1, 1, 1, 0x0, 0, 0x0, .w1s⟩
/-- RP_CTRL.STEPS [16:8], 07_write_and_stripes.md. Bit s runs ladder step s -/
def RP_CTRL_STEPS : Fld := ⟨0x878010, 0x0, 1, 0x0, 1, 8, 9, 0x1FF, 0, 0x1FF, .rw⟩
/-- RP_STATUS.STATE [1:0], 07_write_and_stripes.md. 0 IDLE, 1 RUNNING, 2 DONE, 3 FAILED -/
def RP_STATUS_STATE : Fld := ⟨0x878014, 0x0, 1, 0x0, 1, 0, 2, 0x0, 0, 0x0, .ro⟩
/-- RP_STATUS.REASON [15:8], 07_write_and_stripes.md. Reason below -/
def RP_STATUS_REASON : Fld := ⟨0x878014, 0x0, 1, 0x0, 1, 8, 8, 0x0, 0, 0x0, .ro⟩
/-- SQ_CTRL.RUN [0:0], 08_galgil_sequencer.md. 1 starts execution at ENTRY of the active bank; 0 stops at the next boundary with gates closed and TARGET requeued -/
def SQ_CTRL_RUN : Fld := ⟨0x810700, 0x1000, 32, 0x0, 1, 0, 1, 0x0, 0, 0x0, .rw⟩
/-- SQ_CTRL.SWAP [1:1], 08_galgil_sequencer.md. Requests a swap (R211); clears when SWAP_PEND clears -/
def SQ_CTRL_SWAP : Fld := ⟨0x810700, 0x1000, 32, 0x0, 1, 1, 1, 0x0, 0, 0x0, .w1s⟩
/-- SQ_CTRL.RESTART [2:2], 08_galgil_sequencer.md. Closes gates, requeues TARGET, clears the stack and restarts at ENTRY; clears a halt -/
def SQ_CTRL_RESTART : Fld := ⟨0x810700, 0x1000, 32, 0x0, 1, 2, 1, 0x0, 0, 0x0, .w1s⟩
/-- SQ_STATUS.PC [11:0], 08_galgil_sequencer.md. Address of the word executing -/
def SQ_STATUS_PC : Fld := ⟨0x810704, 0x1000, 32, 0x0, 1, 0, 12, 0x0, 0, 0x0, .ro⟩
/-- SQ_STATUS.ACTIVE [12:12], 08_galgil_sequencer.md. Active bank -/
def SQ_STATUS_ACTIVE : Fld := ⟨0x810704, 0x1000, 32, 0x0, 1, 12, 1, 0x0, 0, 0x0, .ro⟩
/-- SQ_STATUS.STANDBY_VALID [13:13], 08_galgil_sequencer.md. Standby bank holds a verified image -/
def SQ_STATUS_STANDBY_VALID : Fld := ⟨0x810704, 0x1000, 32, 0x0, 1, 13, 1, 0x0, 0, 0x0, .ro⟩
/-- SQ_STATUS.SWAP_PEND [14:14], 08_galgil_sequencer.md. Swap waiting for a swap point -/
def SQ_STATUS_SWAP_PEND : Fld := ⟨0x810704, 0x1000, 32, 0x0, 1, 14, 1, 0x0, 0, 0x0, .ro⟩
/-- SQ_STATUS.HALTED [15:15], 08_galgil_sequencer.md. Halted by R207 -/
def SQ_STATUS_HALTED : Fld := ⟨0x810704, 0x1000, 32, 0x0, 1, 15, 1, 0x0, 0, 0x0, .ro⟩
/-- SQ_STATUS.EVT [20:16], 08_galgil_sequencer.md. Event latches of R205 -/
def SQ_STATUS_EVT : Fld := ⟨0x810704, 0x1000, 32, 0x0, 1, 16, 5, 0x0, 0, 0x0, .ro⟩
/-- SQ_STATUS.DEPTH [23:21], 08_galgil_sequencer.md. Return-stack entries, 0 to 4 -/
def SQ_STATUS_DEPTH : Fld := ⟨0x810704, 0x1000, 32, 0x0, 1, 21, 3, 0x0, 0, 0x0, .ro⟩
/-- SQ_STATUS.REASON [31:24], 08_galgil_sequencer.md. Reason of R210 for this channel's last load or swap -/
def SQ_STATUS_REASON : Fld := ⟨0x810704, 0x1000, 32, 0x0, 1, 24, 8, 0x0, 0, 0x0, .ro⟩
/-- SQ_CFG.TGT_WDOG [11:0], 08_galgil_sequencer.md. Target watchdog, units of 64 µs; 0 reads as 1 -/
def SQ_CFG_TGT_WDOG : Fld := ⟨0x810708, 0x1000, 32, 0x0, 1, 0, 12, 0x100, 0, 0x100, .rw⟩
/-- SQ_CFG.SWAP_LIMIT [19:12], 08_galgil_sequencer.md. Swap limit, ms, 1 to 255; 0 reads as 1 -/
def SQ_CFG_SWAP_LIMIT : Fld := ⟨0x810708, 0x1000, 32, 0x0, 1, 12, 8, 0x64, 0, 0x64, .rw⟩
/-- SQ_IMAGE.IMAGE_ID [31:0], 08_galgil_sequencer.md. IMAGE_ID of the active bank -/
def SQ_IMAGE_IMAGE_ID : Fld := ⟨0x81070C, 0x1000, 32, 0x0, 1, 0, 32, 0x0, 0, 0x0, .ro⟩
/-- SQ_IMAGE_SB.IMAGE_ID [31:0], 08_galgil_sequencer.md. IMAGE_ID of the standby bank -/
def SQ_IMAGE_SB_IMAGE_ID : Fld := ⟨0x810710, 0x1000, 32, 0x0, 1, 0, 32, 0x0, 0, 0x0, .ro⟩
/-- SQ_COUNT.LATE [15:0], 08_galgil_sequencer.md. Late TIMED words (R203); saturates -/
def SQ_COUNT_LATE : Fld := ⟨0x810714, 0x1000, 32, 0x0, 1, 0, 16, 0x0, 0, 0x0, .rc⟩
/-- SQ_COUNT.EV_OVR [23:16], 08_galgil_sequencer.md. Events on a set latch; saturates at 255 -/
def SQ_COUNT_EV_OVR : Fld := ⟨0x810714, 0x1000, 32, 0x0, 1, 16, 8, 0x0, 0, 0x0, .rc⟩
/-- SQ_COUNT.WDOG [31:24], 08_galgil_sequencer.md. Watchdog expiries; saturates at 255 -/
def SQ_COUNT_WDOG : Fld := ⟨0x810714, 0x1000, 32, 0x0, 1, 24, 8, 0x0, 0, 0x0, .rc⟩
/-- SQ_ERR.ECC_CORR [7:0], 08_galgil_sequencer.md. Corrected word errors; saturates at 255 -/
def SQ_ERR_ECC_CORR : Fld := ⟨0x810718, 0x1000, 32, 0x0, 1, 0, 8, 0x0, 0, 0x0, .rc⟩
/-- SQ_ERR.HALT_CAUSE [11:8], 08_galgil_sequencer.md. 0 NONE, 1 ECC_UE, 2 STACK -/
def SQ_ERR_HALT_CAUSE : Fld := ⟨0x810718, 0x1000, 32, 0x0, 1, 8, 4, 0x0, 0, 0x0, .ro⟩
/-- PG_CTRL.STOP [4:0], 09_control_engine.md. Bit c stops channel c (R230); clears when taken -/
def PG_CTRL_STOP : Fld := ⟨0x614000, 0x0, 1, 0x0, 1, 0, 5, 0x0, 0, 0x0, .w1s⟩
/-- PG_STATUS.BUSY [4:0], 09_control_engine.md. Bit c: channel c runs a profile -/
def PG_STATUS_BUSY : Fld := ⟨0x614004, 0x0, 1, 0x0, 1, 0, 5, 0x0, 0, 0x0, .ro⟩
/-- PG_STATUS.QUEUED [9:5], 09_control_engine.md. Bit c: a target is queued -/
def PG_STATUS_QUEUED : Fld := ⟨0x614004, 0x0, 1, 0x0, 1, 5, 5, 0x0, 0, 0x0, .ro⟩
/-- PG_JMAXc.JMAX [31:0], 09_control_engine.md. BF24 -/
def PG_JMAXc_JMAX : Fld := ⟨0x614010, 0x0, 1, 0x10, 5, 0, 32, 0x0, 0, 0x0, .rwc⟩
/-- PG_AMAXc.AMAX [31:0], 09_control_engine.md. BF24 -/
def PG_AMAXc_AMAX : Fld := ⟨0x614014, 0x0, 1, 0x10, 5, 0, 32, 0x0, 0, 0x0, .rwc⟩
/-- PG_VMAXc.VMAX [31:0], 09_control_engine.md. BF24 -/
def PG_VMAXc_VMAX : Fld := ⟨0x614018, 0x0, 1, 0x10, 5, 0, 32, 0x0, 0, 0x0, .rwc⟩
/-- PG_REMc.REM [23:0], 09_control_engine.md. Periods remaining in the running profile -/
def PG_REMc_REM : Fld := ⟨0x61401C, 0x0, 1, 0x10, 5, 0, 24, 0x0, 0, 0x0, .ro⟩
/-- MC_CTRL.PEAK_CLR [0:0], 09_control_engine.md. Clears MC_LOAD.PEAK; clears when done -/
def MC_CTRL_PEAK_CLR : Fld := ⟨0x610000, 0x1000, 4, 0x0, 1, 0, 1, 0x0, 0, 0x0, .w1s⟩
/-- MC_STATUS.CELL [5:0], 09_control_engine.md. Cell being evaluated -/
def MC_STATUS_CELL : Fld := ⟨0x610004, 0x1000, 4, 0x0, 1, 0, 6, 0x0, 0, 0x0, .ro⟩
/-- MC_STATUS.BUSY [6:6], 09_control_engine.md. An evaluation is in progress -/
def MC_STATUS_BUSY : Fld := ⟨0x610004, 0x1000, 4, 0x0, 1, 6, 1, 0x0, 0, 0x0, .ro⟩
/-- MC_STATUS.SHADOW [7:7], 09_control_engine.md. The evaluation is a shadow's -/
def MC_STATUS_SHADOW : Fld := ⟨0x610004, 0x1000, 4, 0x0, 1, 7, 1, 0x0, 0, 0x0, .ro⟩
/-- MC_STATUS.STAGE [11:8], 09_control_engine.md. Stage in progress -/
def MC_STATUS_STAGE : Fld := ⟨0x610004, 0x1000, 4, 0x0, 1, 8, 4, 0x0, 0, 0x0, .ro⟩
/-- MC_STATUS.READY [21:16], 09_control_engine.md. Ready live cells -/
def MC_STATUS_READY : Fld := ⟨0x610004, 0x1000, 4, 0x0, 1, 16, 6, 0x0, 0, 0x0, .ro⟩
/-- MC_LOAD.LOAD [15:0], 09_control_engine.md. Live busy cycles over the last 1 ms, in 1/65,536 of the lane -/
def MC_LOAD_LOAD : Fld := ⟨0x610008, 0x1000, 4, 0x0, 1, 0, 16, 0x0, 0, 0x0, .ro⟩
/-- MC_LOAD.PEAK [31:16], 09_control_engine.md. Highest LOAD since PEAK_CLR -/
def MC_LOAD_PEAK : Fld := ⟨0x610008, 0x1000, 4, 0x0, 1, 16, 16, 0x0, 0, 0x0, .ro⟩
/-- MC_MISS.MISS [15:0], 09_control_engine.md. Deadline misses (R217); saturates -/
def MC_MISS_MISS : Fld := ⟨0x61000C, 0x1000, 4, 0x0, 1, 0, 16, 0x0, 0, 0x0, .rc⟩
/-- MC_MISS.OVERRUN [31:16], 09_control_engine.md. Overruns (R217); saturates -/
def MC_MISS_OVERRUN : Fld := ⟨0x61000C, 0x1000, 4, 0x0, 1, 16, 16, 0x0, 0, 0x0, .rc⟩
/-- MC_ERR.ECC_CORR [7:0], 09_control_engine.md. Corrected cell-state errors; saturates at 255 -/
def MC_ERR_ECC_CORR : Fld := ⟨0x610010, 0x1000, 4, 0x0, 1, 0, 8, 0x0, 0, 0x0, .rc⟩
/-- MC_ERR.NUMERIC [15:8], 09_control_engine.md. Exponent saturations (R220); saturates at 255 -/
def MC_ERR_NUMERIC : Fld := ⟨0x610010, 0x1000, 4, 0x0, 1, 8, 8, 0x0, 0, 0x0, .rc⟩
/-- VC_CTRL.LOAD [0:0], 10_actuators_servo.md. R257; clears when STATE leaves UNLOADED -/
def VC_CTRL_LOAD : Fld := ⟨0x618000, 0x1000, 4, 0x0, 1, 0, 1, 0x0, 0, 0x0, .w1s⟩
/-- VC_CTRL.UNLOAD [1:1], 10_actuators_servo.md. R258; clears when taken -/
def VC_CTRL_UNLOAD : Fld := ⟨0x618000, 0x1000, 4, 0x0, 1, 1, 1, 0x0, 0, 0x0, .w1s⟩
/-- VC_CTRL.RETRACT [2:2], 10_actuators_servo.md. R259; clears when taken -/
def VC_CTRL_RETRACT : Fld := ⟨0x618000, 0x1000, 4, 0x0, 1, 2, 1, 0x0, 0, 0x0, .w1s⟩
/-- VC_STATUS.STATE [2:0], 10_actuators_servo.md. 0 UNLOADED, 1 LOADING, 2 SEEK, 3 SETTLE, 4 FOLLOW, 5 UNLOADING, 6 RETRACT, 7 RETIRED -/
def VC_STATUS_STATE : Fld := ⟨0x618004, 0x1000, 4, 0x0, 1, 0, 3, 0x0, 0, 0x0, .ro⟩
/-- VC_STATUS.GSEL [4:3], 10_actuators_servo.md. VCM gain set in force -/
def VC_STATUS_GSEL : Fld := ⟨0x618004, 0x1000, 4, 0x0, 1, 3, 2, 0x0, 0, 0x0, .ro⟩
/-- VC_STATUS.PRED_RUN [8:5], 10_actuators_servo.md. R248; saturates at 15 -/
def VC_STATUS_PRED_RUN : Fld := ⟨0x618004, 0x1000, 4, 0x0, 1, 5, 4, 0x0, 0, 0x0, .ro⟩
/-- VC_STATUS.SEEK_FAIL [23:16], 10_actuators_servo.md. Repeated seeks (R251); saturates at 255 -/
def VC_STATUS_SEEK_FAIL : Fld := ⟨0x618004, 0x1000, 4, 0x0, 1, 16, 8, 0x0, 0, 0x0, .rc⟩
/-- VC_STATUS.RETRACTS [31:24], 10_actuators_servo.md. Retracts; saturates at 255 -/
def VC_STATUS_RETRACTS : Fld := ⟨0x618004, 0x1000, 4, 0x0, 1, 24, 8, 0x0, 0, 0x0, .rc⟩
/-- VC_TARGET.CYL [19:0], 10_actuators_servo.md. Target cylinder c; a write in Test mode requests a seek of all mapped heads for read -/
def VC_TARGET_CYL : Fld := ⟨0x618008, 0x1000, 4, 0x0, 1, 0, 20, 0x0, 0, 0x0, .rw⟩
/-- VC_ANCHOR.X [31:0], 10_actuators_servo.md. Anchor, U32 in 1/4,096 track -/
def VC_ANCHOR_X : Fld := ⟨0x61800C, 0x1000, 4, 0x0, 1, 0, 32, 0x0, 0, 0x0, .ro⟩
/-- VC_CURRENT.I_MEAS [15:0], 10_actuators_servo.md. Measured coil current, I16, mA -/
def VC_CURRENT_I_MEAS : Fld := ⟨0x618010, 0x1000, 4, 0x0, 1, 0, 16, 0x0, 0, 0x0, .ro⟩
/-- VC_CURRENT.I_DEM [31:16], 10_actuators_servo.md. Demand u, I16, mA -/
def VC_CURRENT_I_DEM : Fld := ⟨0x618010, 0x1000, 4, 0x0, 1, 16, 16, 0x0, 0, 0x0, .ro⟩
/-- VC_HEADS.READ_RDY [10:0], 10_actuators_servo.md. Bit h: head h read-ready -/
def VC_HEADS_READ_RDY : Fld := ⟨0x618014, 0x1000, 4, 0x0, 1, 0, 11, 0x0, 0, 0x0, .ro⟩
/-- VC_HEADS.WRITE_RDY [26:16], 10_actuators_servo.md. Bit h: head h write-ready -/
def VC_HEADS_WRITE_RDY : Fld := ⟨0x618014, 0x1000, 4, 0x0, 1, 16, 11, 0x0, 0, 0x0, .ro⟩
/-- MA_STATUS.ACTIVE [10:0], 10_actuators_servo.md. Bit h: head h under milliactuator control -/
def MA_STATUS_ACTIVE : Fld := ⟨0x61C000, 0x1000, 4, 0x0, 1, 0, 11, 0x0, 0, 0x0, .ro⟩
/-- MA_STATUS.OVERCUR [26:16], 10_actuators_servo.md. Bit h: MA_OVERCURRENT reported -/
def MA_STATUS_OVERCUR : Fld := ⟨0x61C000, 0x1000, 4, 0x0, 1, 16, 11, 0x0, 0, 0x0, .w1c⟩
/-- SK_CTRL.QUAL [3:0], 10_actuators_servo.md. Qualification, AON cycles; 0 reads as 1 -/
def SK_CTRL_QUAL : Fld := ⟨0x620000, 0x0, 1, 0x0, 1, 0, 4, 0x2, 0, 0x2, .rw⟩
/-- SK_STATUS.ACTIVE [2:0], 10_actuators_servo.md. Bits X, Y, Z qualified active -/
def SK_STATUS_ACTIVE : Fld := ⟨0x620004, 0x0, 1, 0x0, 1, 0, 3, 0x0, 0, 0x0, .ro⟩
/-- SK_STATUS.FAILED [5:3], 10_actuators_servo.md. Failed sensor (R256) -/
def SK_STATUS_FAILED : Fld := ⟨0x620004, 0x0, 1, 0x0, 1, 3, 3, 0x0, 0, 0x0, .ro⟩
/-- SK_STATUS.CHATTER [8:6], 10_actuators_servo.md. Axis chattering -/
def SK_STATUS_CHATTER : Fld := ⟨0x620004, 0x0, 1, 0x0, 1, 6, 3, 0x0, 0, 0x0, .ro⟩
/-- SK_STATUS.COUNT [31:16], 10_actuators_servo.md. Qualified shocks; saturates at 65,535 -/
def SK_STATUS_COUNT : Fld := ⟨0x620004, 0x0, 1, 0x0, 1, 16, 16, 0x0, 0, 0x0, .rc⟩
/-- SP_CTRL.START [0:0], 11_spindle.md. R271; clears when taken -/
def SP_CTRL_START : Fld := ⟨0x621000, 0x0, 1, 0x0, 1, 0, 1, 0x0, 0, 0x0, .w1s⟩
/-- SP_CTRL.STOP [1:1], 11_spindle.md. R279; clears when taken -/
def SP_CTRL_STOP : Fld := ⟨0x621000, 0x0, 1, 0x0, 1, 1, 1, 0x0, 0, 0x0, .w1s⟩
/-- SP_CTRL.COAST [2:2], 11_spindle.md. Gates off, mode COAST; refused while an actuator is not UNLOADED -/
def SP_CTRL_COAST : Fld := ⟨0x621000, 0x0, 1, 0x0, 1, 2, 1, 0x0, 0, 0x0, .w1s⟩
/-- SP_CTRL.RESET [3:3], 11_spindle.md. From FAILED or DISABLED: clears latched faults, mode STOPPED or CATCH -/
def SP_CTRL_RESET : Fld := ⟨0x621000, 0x0, 1, 0x0, 1, 3, 1, 0x0, 0, 0x0, .w1s⟩
/-- SP_STATUS.MODE [3:0], 11_spindle.md. Mode of R267 -/
def SP_STATUS_MODE : Fld := ⟨0x621004, 0x0, 1, 0x0, 1, 0, 4, 0x0, 0, 0x0, .ro⟩
/-- SP_STATUS.LOCKED [4:4], 11_spindle.md. Observer LOCKED (R270) -/
def SP_STATUS_LOCKED : Fld := ⟨0x621004, 0x0, 1, 0x0, 1, 4, 1, 0x0, 0, 0x0, .ro⟩
/-- SP_STATUS.AT_SPEED [5:5], 11_spindle.md. R272 -/
def SP_STATUS_AT_SPEED : Fld := ⟨0x621004, 0x0, 1, 0x0, 1, 5, 1, 0x0, 0, 0x0, .ro⟩
/-- SP_STATUS.BRAKE [6:6], 11_spindle.md. BRAKE output asserted -/
def SP_STATUS_BRAKE : Fld := ⟨0x621004, 0x0, 1, 0x0, 1, 6, 1, 0x0, 0, 0x0, .ro⟩
/-- SP_STATUS.CHOP_FAULT [7:7], 11_spindle.md. R280, latched -/
def SP_STATUS_CHOP_FAULT : Fld := ⟨0x621004, 0x0, 1, 0x0, 1, 7, 1, 0x0, 0, 0x0, .ro⟩
/-- SP_STATUS.OV2 [8:8], 11_spindle.md. R281, latched -/
def SP_STATUS_OV2 : Fld := ⟨0x621004, 0x0, 1, 0x0, 1, 8, 1, 0x0, 0, 0x0, .ro⟩
/-- SP_STATUS.VLIM [9:9], 11_spindle.md. R264 -/
def SP_STATUS_VLIM : Fld := ⟨0x621004, 0x0, 1, 0x0, 1, 9, 1, 0x0, 0, 0x0, .ro⟩
/-- SP_STATUS.LOSS_COUNT [23:16], 11_spindle.md. Losses declared; saturates at 255 -/
def SP_STATUS_LOSS_COUNT : Fld := ⟨0x621004, 0x0, 1, 0x0, 1, 16, 8, 0x0, 0, 0x0, .rc⟩
/-- SP_STATUS.START_FAILS [31:24], 11_spindle.md. Failed start attempts; saturates at 255 -/
def SP_STATUS_START_FAILS : Fld := ⟨0x621004, 0x0, 1, 0x0, 1, 24, 8, 0x0, 0, 0x0, .rc⟩
/-- SP_SPEED.SPEED [15:0], 11_spindle.md. Measured speed, U16 in 0.25 rpm -/
def SP_SPEED_SPEED : Fld := ⟨0x621008, 0x0, 1, 0x0, 1, 0, 16, 0x0, 0, 0x0, .ro⟩
/-- SP_SPEED.ANGLE [31:16], 11_spindle.md. θ̂, 1/65,536 electrical turn -/
def SP_SPEED_ANGLE : Fld := ⟨0x621008, 0x0, 1, 0x0, 1, 16, 16, 0x0, 0, 0x0, .ro⟩
/-- SP_CURRENT.IQ [15:0], 11_spindle.md. i_q, I16, mA -/
def SP_CURRENT_IQ : Fld := ⟨0x62100C, 0x0, 1, 0x0, 1, 0, 16, 0x0, 0, 0x0, .ro⟩
/-- SP_CURRENT.ID [31:16], 11_spindle.md. i_d, I16, mA -/
def SP_CURRENT_ID : Fld := ⟨0x62100C, 0x0, 1, 0x0, 1, 16, 16, 0x0, 0, 0x0, .ro⟩
/-- SP_PHASE.IU [15:0], 11_spindle.md. i_U, I16, mA -/
def SP_PHASE_IU : Fld := ⟨0x621010, 0x0, 1, 0x0, 1, 0, 16, 0x0, 0, 0x0, .ro⟩
/-- SP_PHASE.IV [31:16], 11_spindle.md. i_V, I16, mA -/
def SP_PHASE_IV : Fld := ⟨0x621010, 0x0, 1, 0x0, 1, 16, 16, 0x0, 0, 0x0, .ro⟩
/-- SP_BUS.VBUS [15:0], 11_spindle.md. V_BUS, U16, mV -/
def SP_BUS_VBUS : Fld := ⟨0x621014, 0x0, 1, 0x0, 1, 0, 16, 0x0, 0, 0x0, .ro⟩
/-- SP_BUS.PIN [31:16], 11_spindle.md. Input power, I16, 10 mW; negative in regeneration -/
def SP_BUS_PIN : Fld := ⟨0x621014, 0x0, 1, 0x0, 1, 16, 16, 0x0, 0, 0x0, .ro⟩
/-- SP_TEMP.WINDING [15:0], 11_spindle.md. θ_w, I16, 1/16 °C -/
def SP_TEMP_WINDING : Fld := ⟨0x621018, 0x0, 1, 0x0, 1, 0, 16, 0x0, 0, 0x0, .ro⟩
/-- SP_TEMP.AMBIENT [31:16], 11_spindle.md. θ_amb, I16, 1/16 °C -/
def SP_TEMP_AMBIENT : Fld := ⟨0x621018, 0x0, 1, 0x0, 1, 16, 16, 0x0, 0, 0x0, .ro⟩
/-- SP_CAL.OFS_U [11:0], 11_spindle.md. Residual offset of ISU, I12, converter codes -/
def SP_CAL_OFS_U : Fld := ⟨0x62101C, 0x0, 1, 0x0, 1, 0, 12, 0x0, 0, 0x0, .ro⟩
/-- SP_CAL.OFS_V [23:12], 11_spindle.md. Residual offset of ISV -/
def SP_CAL_OFS_V : Fld := ⟨0x62101C, 0x0, 1, 0x0, 1, 12, 12, 0x0, 0, 0x0, .ro⟩
/-- ECC_CTRL.WB_EN [0:0], 12_buffer_memory.md. Write back light-code corrections (R294) -/
def ECC_CTRL_WB_EN : Fld := ⟨0x420000, 0x0, 1, 0x0, 1, 0, 1, 0x1, 0, 0x1, .rw⟩
/-- ECC_STATUS.TEMP [7:0], 12_buffer_memory.md. Stack temperature, I8, °C -/
def ECC_STATUS_TEMP : Fld := ⟨0x420004, 0x0, 1, 0x0, 1, 0, 8, 0x0, 0, 0x0, .ro⟩
/-- ECC_STATUS.REF_MULT [9:8], 12_buffer_memory.md. 0 ×1, 1 ×2, 2 ×4 (R290) -/
def ECC_STATUS_REF_MULT : Fld := ⟨0x420004, 0x0, 1, 0x0, 1, 8, 2, 0x0, 0, 0x0, .ro⟩
/-- ECC_STATUS.RESERVE_USED [10:10], 12_buffer_memory.md. 1 once a PC is retired -/
def ECC_STATUS_RESERVE_USED : Fld := ⟨0x420004, 0x0, 1, 0x0, 1, 10, 1, 0x0, 0, 0x0, .ro⟩
/-- ECC_STATUS.RETIRED_PC [14:11], 12_buffer_memory.md. PC retired, valid when RESERVE_USED = 1 -/
def ECC_STATUS_RETIRED_PC : Fld := ⟨0x420004, 0x0, 1, 0x0, 1, 11, 4, 0x0, 0, 0x0, .ro⟩
/-- ECC_STATUS.POISON [24:16], 12_buffer_memory.md. Poison-table entries in use -/
def ECC_STATUS_POISON : Fld := ⟨0x420004, 0x0, 1, 0x0, 1, 16, 9, 0x0, 0, 0x0, .ro⟩
/-- ECC_CE.COUNT [31:0], 12_buffer_memory.md. Light-code corrections; saturates -/
def ECC_CE_COUNT : Fld := ⟨0x420008, 0x0, 1, 0x0, 1, 0, 32, 0x0, 0, 0x0, .rc⟩
/-- ECC_SC.COUNT [31:0], 12_buffer_memory.md. Strong-code page corrections; saturates -/
def ECC_SC_COUNT : Fld := ⟨0x42000C, 0x0, 1, 0x0, 1, 0, 32, 0x0, 0, 0x0, .rc⟩
/-- ECC_UE.COUNT [31:0], 12_buffer_memory.md. Lost words; saturates -/
def ECC_UE_COUNT : Fld := ⟨0x420010, 0x0, 1, 0x0, 1, 0, 32, 0x0, 0, 0x0, .rc⟩
/-- ECC_LAST_UE.PAGE [22:0], 12_buffer_memory.md. Page of the last lost word -/
def ECC_LAST_UE_PAGE : Fld := ⟨0x420014, 0x0, 1, 0x0, 1, 0, 23, 0x0, 0, 0x0, .ro⟩
/-- ECC_LAST_UE.WORD [30:23], 12_buffer_memory.md. Word read, or found by the Skimmer -/
def ECC_LAST_UE_WORD : Fld := ⟨0x420014, 0x0, 1, 0x0, 1, 23, 8, 0x0, 0, 0x0, .ro⟩
/-- ECC_LAST_UE.VALID [31:31], 12_buffer_memory.md. 1 when a lost word is recorded -/
def ECC_LAST_UE_VALID : Fld := ⟨0x420014, 0x0, 1, 0x0, 1, 31, 1, 0x0, 0, 0x0, .rc⟩
/-- HBM_FLIP_CTRL.ARM [0:0], 12_buffer_memory.md. Arms the flip (R301); clears when taken -/
def HBM_FLIP_CTRL_ARM : Fld := ⟨0x420018, 0x0, 1, 0x0, 1, 0, 1, 0x0, 0, 0x0, .w1s⟩
/-- HBM_FLIP_CTRL.MATCH [1:1], 12_buffer_memory.md. 1 restricts the flip to HBM_FLIP_PAGE -/
def HBM_FLIP_CTRL_MATCH : Fld := ⟨0x420018, 0x0, 1, 0x0, 1, 1, 1, 0x0, 0, 0x0, .rw⟩
/-- HBM_FLIP_CTRL.PC [7:4], 12_buffer_memory.md. Pseudo-channel -/
def HBM_FLIP_CTRL_PC : Fld := ⟨0x420018, 0x0, 1, 0x0, 1, 4, 4, 0x0, 0, 0x0, .rw⟩
/-- HBM_FLIP_PAGE.PAGE [22:0], 12_buffer_memory.md. Page for MATCH -/
def HBM_FLIP_PAGE_PAGE : Fld := ⟨0x42001C, 0x0, 1, 0x0, 1, 0, 23, 0x0, 0, 0x0, .rw⟩
/-- HBM_PC_CTRL.RETIRE [0:0], 12_buffer_memory.md. Retires the PC (R304); clears when STATE is RETIRED -/
def HBM_PC_CTRL_RETIRE : Fld := ⟨0x410000, 0x1000, 16, 0x0, 1, 0, 1, 0x0, 0, 0x0, .w1s⟩
/-- HBM_PC_STATUS.STATE [1:0], 12_buffer_memory.md. 0 UNTRAINED, 1 ACTIVE, 2 RELOCATING, 3 RETIRED -/
def HBM_PC_STATUS_STATE : Fld := ⟨0x410004, 0x1000, 16, 0x0, 1, 0, 2, 0x0, 0, 0x0, .ro⟩
/-- HBM_PC_STATUS.POISON [12:8], 12_buffer_memory.md. Poisoned pages, 0 to 16 -/
def HBM_PC_STATUS_POISON : Fld := ⟨0x410004, 0x1000, 16, 0x0, 1, 8, 5, 0x0, 0, 0x0, .ro⟩
/-- HBM_PC_STATUS.CAUSE [18:16], 12_buffer_memory.md. 0 NONE, 1 TRAINING, 2 CE_RATE, 3 SC_RATE, 4 POISON, 5 SOFTWARE -/
def HBM_PC_STATUS_CAUSE : Fld := ⟨0x410004, 0x1000, 16, 0x0, 1, 16, 3, 0x0, 0, 0x0, .ro⟩
/-- HBM_PC_CE.COUNT [31:0], 12_buffer_memory.md. Light-code corrections; saturates -/
def HBM_PC_CE_COUNT : Fld := ⟨0x410008, 0x1000, 16, 0x0, 1, 0, 32, 0x0, 0, 0x0, .rc⟩
/-- HBM_PC_SC.SC [15:0], 12_buffer_memory.md. Strong corrections; saturates -/
def HBM_PC_SC_SC : Fld := ⟨0x41000C, 0x1000, 16, 0x0, 1, 0, 16, 0x0, 0, 0x0, .rc⟩
/-- HBM_PC_SC.UE [31:16], 12_buffer_memory.md. Lost words; saturates -/
def HBM_PC_SC_UE : Fld := ⟨0x41000C, 0x1000, 16, 0x0, 1, 16, 16, 0x0, 0, 0x0, .rc⟩
/-- HBM_PC_RELOC.PTR [19:0], 12_buffer_memory.md. Relocation pointer (R306) -/
def HBM_PC_RELOC_PTR : Fld := ⟨0x410010, 0x1000, 16, 0x0, 1, 0, 20, 0x0, 0, 0x0, .ro⟩
/-- HBM_PC_REFPEND.ARREARS [3:0], 12_buffer_memory.md. Largest bank arrears, 0 to 8 (R291) -/
def HBM_PC_REFPEND_ARREARS : Fld := ⟨0x410014, 0x1000, 16, 0x0, 1, 0, 4, 0x0, 0, 0x0, .ro⟩
/-- SKIM_CTRL.EN [0:0], 12_buffer_memory.md. Enables the Skimmer (R302) -/
def SKIM_CTRL_EN : Fld := ⟨0x421000, 0x0, 1, 0x0, 1, 0, 1, 0x1, 0, 0x1, .rw⟩
/-- SKIM_CTRL.RESTART [1:1], 12_buffer_memory.md. Abandons the lap, clears SKIM_LAP_MAX, starts a new lap -/
def SKIM_CTRL_RESTART : Fld := ⟨0x421000, 0x0, 1, 0x0, 1, 1, 1, 0x0, 0, 0x0, .w1s⟩
/-- SKIM_STATUS.RESTARTS [15:0], 12_buffer_memory.md. Page restarts; saturates -/
def SKIM_STATUS_RESTARTS : Fld := ⟨0x421004, 0x0, 1, 0x0, 1, 0, 16, 0x0, 0, 0x0, .rc⟩
/-- SKIM_STATUS.SKIPPED [31:16], 12_buffer_memory.md. Pages skipped; saturates -/
def SKIM_STATUS_SKIPPED : Fld := ⟨0x421004, 0x0, 1, 0x0, 1, 16, 16, 0x0, 0, 0x0, .rc⟩
/-- SKIM_LAP.LAST [31:0], 12_buffer_memory.md. Last lap, ms -/
def SKIM_LAP_LAST : Fld := ⟨0x421008, 0x0, 1, 0x0, 1, 0, 32, 0x0, 0, 0x0, .ro⟩
/-- SKIM_LAP_MAX.MAX [31:0], 12_buffer_memory.md. Longest lap since reset or RESTART, ms -/
def SKIM_LAP_MAX_MAX : Fld := ⟨0x42100C, 0x0, 1, 0x0, 1, 0, 32, 0x0, 0, 0x0, .ro⟩
/-- SKIM_FOUND.CORR [15:0], 12_buffer_memory.md. Corrections found; saturates -/
def SKIM_FOUND_CORR : Fld := ⟨0x421010, 0x0, 1, 0x0, 1, 0, 16, 0x0, 0, 0x0, .rc⟩
/-- SKIM_FOUND.UE [31:16], 12_buffer_memory.md. Pages poisoned by the Skimmer; saturates -/
def SKIM_FOUND_UE : Fld := ⟨0x421010, 0x0, 1, 0x0, 1, 16, 16, 0x0, 0, 0x0, .rc⟩
/-- SKIM_COUNT.LAP_COUNT [15:0], 12_buffer_memory.md. Laps completed; saturates -/
def SKIM_COUNT_LAP_COUNT : Fld := ⟨0x421014, 0x0, 1, 0x0, 1, 0, 16, 0x0, 0, 0x0, .ro⟩
/-- SKIM_COUNT.PROGRESS [31:16], 12_buffer_memory.md. Current lap, 1/65,536 -/
def SKIM_COUNT_PROGRESS : Fld := ⟨0x421014, 0x0, 1, 0x0, 1, 16, 16, 0x0, 0, 0x0, .ro⟩
/-- PAIL_STATUS.FREE [18:0], 13_pails_and_cache.md. Free Pails -/
def PAIL_STATUS_FREE : Fld := ⟨0x430000, 0x1000, 16, 0x0, 1, 0, 19, 0x0, 0, 0x0, .ro⟩
/-- PAIL_STATUS.EMPTY [19:19], 13_pails_and_cache.md. 1 while FREE = 0 -/
def PAIL_STATUS_EMPTY : Fld := ⟨0x430000, 0x1000, 16, 0x0, 1, 19, 1, 0x0, 0, 0x0, .ro⟩
/-- PAIL_STATUS.LOW [20:20], 13_pails_and_cache.md. 1 while FREE < LOW_WATER -/
def PAIL_STATUS_LOW : Fld := ⟨0x430000, 0x1000, 16, 0x0, 1, 20, 1, 0x0, 0, 0x0, .ro⟩
/-- PAIL_MIN.MIN_FREE [18:0], 13_pails_and_cache.md. Lowest FREE since reset, MIN_CLR or a change of the pool (R312) -/
def PAIL_MIN_MIN_FREE : Fld := ⟨0x430004, 0x1000, 16, 0x0, 1, 0, 19, 0x0, 0, 0x0, .ro⟩
/-- PAIL_CTRL.MIN_CLR [0:0], 13_pails_and_cache.md. Sets MIN_FREE to FREE; clears when done -/
def PAIL_CTRL_MIN_CLR : Fld := ⟨0x430008, 0x1000, 16, 0x0, 1, 0, 1, 0x0, 0, 0x0, .w1s⟩
/-- PAIL_EMPTY.COUNT [31:0], 13_pails_and_cache.md. EMPTY answers; saturates -/
def PAIL_EMPTY_COUNT : Fld := ⟨0x43000C, 0x1000, 16, 0x0, 1, 0, 32, 0x0, 0, 0x0, .rc⟩
/-- PAIL_ERR.RANGE [7:0], 13_pails_and_cache.md. RANGE answers; saturates at 255 -/
def PAIL_ERR_RANGE : Fld := ⟨0x430010, 0x1000, 16, 0x0, 1, 0, 8, 0x0, 0, 0x0, .rc⟩
/-- PAIL_ERR.ALIGN [15:8], 13_pails_and_cache.md. ALIGN answers; saturates at 255 -/
def PAIL_ERR_ALIGN : Fld := ⟨0x430010, 0x1000, 16, 0x0, 1, 8, 8, 0x0, 0, 0x0, .rc⟩
/-- PAIL_ERR.DOUBLE [23:16], 13_pails_and_cache.md. DOUBLE_FREE answers; saturates at 255 -/
def PAIL_ERR_DOUBLE : Fld := ⟨0x430010, 0x1000, 16, 0x0, 1, 16, 8, 0x0, 0, 0x0, .rc⟩
/-- PAIL_ERR.LAST_RID [29:24], 13_pails_and_cache.md. RID of the last error -/
def PAIL_ERR_LAST_RID : Fld := ⟨0x430010, 0x1000, 16, 0x0, 1, 24, 6, 0x0, 0, 0x0, .ro⟩
/-- PAIL_ERR.LAST_CAUSE [31:30], 13_pails_and_cache.md. 0 none, 1 RANGE, 2 ALIGN, 3 DOUBLE_FREE -/
def PAIL_ERR_LAST_CAUSE : Fld := ⟨0x430010, 0x1000, 16, 0x0, 1, 30, 2, 0x0, 0, 0x0, .ro⟩
/-- MC_CTRL.EN [0:0], 13_pails_and_cache.md. Enables the cache (R325) -/
def MCC_CTRL_EN : Fld := ⟨0x440000, 0x0, 1, 0x0, 1, 0, 1, 0x1, 0, 0x1, .rw⟩
/-- MC_STATUS.STATE [2:0], 13_pails_and_cache.md. 0 INIT, 1 ENABLED, 2 DRAINING, 3 INVALIDATING, 4 DISABLED -/
def MCC_STATUS_STATE : Fld := ⟨0x440004, 0x0, 1, 0x0, 1, 0, 3, 0x0, 0, 0x0, .ro⟩
/-- MC_STATUS.EN_PEND [3:3], 13_pails_and_cache.md. Enable waiting for DISABLED -/
def MCC_STATUS_EN_PEND : Fld := ⟨0x440004, 0x0, 1, 0x0, 1, 3, 1, 0x0, 0, 0x0, .ro⟩
/-- MC_STATUS.MB_USED [9:4], 13_pails_and_cache.md. Merging-buffer entries in use, 0 to 32 -/
def MCC_STATUS_MB_USED : Fld := ⟨0x440004, 0x0, 1, 0x0, 1, 4, 6, 0x0, 0, 0x0, .ro⟩
/-- MC_STATUS.INV_BUSY [10:10], 13_pails_and_cache.md. Range invalidation running -/
def MCC_STATUS_INV_BUSY : Fld := ⟨0x440004, 0x0, 1, 0x0, 1, 10, 1, 0x0, 0, 0x0, .ro⟩
/-- MC_STATUS.LOCKED [19:16], 13_pails_and_cache.md. Bit k: way k locked -/
def MCC_STATUS_LOCKED : Fld := ⟨0x440004, 0x0, 1, 0x0, 1, 16, 4, 0x0, 0, 0x0, .ro⟩
/-- MC_STATUS.LOCK_ERR [23:20], 13_pails_and_cache.md. Bit k: lock of range k refused -/
def MCC_STATUS_LOCK_ERR : Fld := ⟨0x440004, 0x0, 1, 0x0, 1, 20, 4, 0x0, 0, 0x0, .w1c⟩
/-- MC_HITS.COUNT [31:0], 13_pails_and_cache.md. Hits; saturates -/
def MCC_HITS_COUNT : Fld := ⟨0x440008, 0x0, 1, 0x0, 1, 0, 32, 0x0, 0, 0x0, .rc⟩
/-- MC_MISSES.COUNT [31:0], 13_pails_and_cache.md. Misses; saturates -/
def MCC_MISSES_COUNT : Fld := ⟨0x44000C, 0x0, 1, 0x0, 1, 0, 32, 0x0, 0, 0x0, .rc⟩
/-- MC_ERR.CORR [7:0], 13_pails_and_cache.md. Corrected data errors; saturates at 255 -/
def MCC_ERR_CORR : Fld := ⟨0x440010, 0x0, 1, 0x0, 1, 0, 8, 0x0, 0, 0x0, .rc⟩
/-- MC_ERR.INVAL [15:8], 13_pails_and_cache.md. Lines or sets invalidated for errors (R328); saturates at 255 -/
def MCC_ERR_INVAL : Fld := ⟨0x440010, 0x0, 1, 0x0, 1, 8, 8, 0x0, 0, 0x0, .rc⟩
/-- MC_INV_BASE.LINE [26:0], 13_pails_and_cache.md. First line, buffer address >> 7 -/
def MCC_INV_BASE_LINE : Fld := ⟨0x440014, 0x0, 1, 0x0, 1, 0, 27, 0x0, 0, 0x0, .rw⟩
/-- MC_INV_SIZE.LINES [26:0], 13_pails_and_cache.md. Lines in the range; 0 reads as 1 -/
def MCC_INV_SIZE_LINES : Fld := ⟨0x440018, 0x0, 1, 0x0, 1, 0, 27, 0x0, 0, 0x0, .rw⟩
/-- MC_INV_CTRL.GO [0:0], 13_pails_and_cache.md. Starts R327; clears when the walk ends -/
def MCC_INV_CTRL_GO : Fld := ⟨0x44001C, 0x0, 1, 0x0, 1, 0, 1, 0x0, 0, 0x0, .w1s⟩
/-- MC_LOCKk_BASE.LINE [26:0], 13_pails_and_cache.md. First line of range k; no effect while EN = 1 -/
def MCC_LOCKk_BASE_LINE : Fld := ⟨0x440020, 0x0, 1, 0x8, 4, 0, 27, 0x0, 0, 0x0, .rw⟩
/-- MC_LOCKk_BASE.EN [31:31], 13_pails_and_cache.md. Locks way k (R326) -/
def MCC_LOCKk_BASE_EN : Fld := ⟨0x440020, 0x0, 1, 0x8, 4, 31, 1, 0x0, 0, 0x0, .rw⟩
/-- MC_LOCKk_SIZE.LINES [12:0], 13_pails_and_cache.md. Lines, 1 to 4,096; 0 reads as 1; no effect while EN = 1 -/
def MCC_LOCKk_SIZE_LINES : Fld := ⟨0x440024, 0x0, 1, 0x8, 4, 0, 13, 0x0, 0, 0x0, .rw⟩
/-- MC_LOCKk_SIZE.PRELOAD [13:13], 13_pails_and_cache.md. Fills range k; clears when done -/
def MCC_LOCKk_SIZE_PRELOAD : Fld := ⟨0x440024, 0x0, 1, 0x8, 4, 13, 1, 0x0, 0, 0x0, .w1s⟩
/-- DE_CTRL.EN [0:0], 14_dma_translation.md. 0 stops the engine after the running descriptor's last burst -/
def DE_CTRL_EN : Fld := ⟨0x450000, 0x1000, 4, 0x0, 1, 0, 1, 0x1, 0, 0x1, .rw⟩
/-- DE_STATUS.RUN_CH [3:0], 14_dma_translation.md. Running channel -/
def DE_STATUS_RUN_CH : Fld := ⟨0x450004, 0x1000, 4, 0x0, 1, 0, 4, 0x0, 0, 0x0, .ro⟩
/-- DE_STATUS.BUSY [4:4], 14_dma_translation.md. A channel is running -/
def DE_STATUS_BUSY : Fld := ⟨0x450004, 0x1000, 4, 0x0, 1, 4, 1, 0x0, 0, 0x0, .ro⟩
/-- DE_STATUS.FOREIGN [5:5], 14_dma_translation.md. 1 while RUN_CH is a channel taken over from a retired engine; RUN_CH is then its number in that engine (R522) -/
def DE_STATUS_FOREIGN : Fld := ⟨0x450004, 0x1000, 4, 0x0, 1, 5, 1, 0x0, 0, 0x0, .ro⟩
/-- DE_STATUS.QUEUED [13:8], 14_dma_translation.md. Channels in the run list, 0 to 32, taken-over channels included -/
def DE_STATUS_QUEUED : Fld := ⟨0x450004, 0x1000, 4, 0x0, 1, 8, 6, 0x0, 0, 0x0, .ro⟩
/-- DE_STATUS.PARKED [31:16], 14_dma_translation.md. Bit c: channel c parked -/
def DE_STATUS_PARKED : Fld := ⟨0x450004, 0x1000, 4, 0x0, 1, 16, 16, 0x0, 0, 0x0, .ro⟩
/-- DE_IRQ.CH [15:0], 14_dma_translation.md. Bit c: interrupt from channel c (R339) -/
def DE_IRQ_CH : Fld := ⟨0x450008, 0x1000, 4, 0x0, 1, 0, 16, 0x0, 0, 0x0, .w1c⟩
/-- DE_IRQ_EN.EN [15:0], 14_dma_translation.md. Bit c enables channel c's interrupt -/
def DE_IRQ_EN_EN : Fld := ⟨0x45000C, 0x1000, 4, 0x0, 1, 0, 16, 0xFFFF, 0, 0xFFFF, .rw⟩
/-- DE_ABORT.CHANNEL [3:0], 14_dma_translation.md. Channel -/
def DE_ABORT_CHANNEL : Fld := ⟨0x450010, 0x1000, 4, 0x0, 1, 0, 4, 0x0, 0, 0x0, .rw⟩
/-- DE_ABORT.INDEX [27:16], 14_dma_translation.md. Descriptor index -/
def DE_ABORT_INDEX : Fld := ⟨0x450010, 0x1000, 4, 0x0, 1, 16, 12, 0x0, 0, 0x0, .rw⟩
/-- DE_ABORT.GO [31:31], 14_dma_translation.md. Starts the abort (R341); clears when RESULT leaves PENDING -/
def DE_ABORT_GO : Fld := ⟨0x450010, 0x1000, 4, 0x0, 1, 31, 1, 0x0, 0, 0x0, .w1s⟩
/-- DE_ABORT_STATUS.RESULT [2:0], 14_dma_translation.md. 0 NONE, 1 PENDING, 2 ABORTED, 3 ABORT_LATE, 4 ALREADY_COMPLETE, 5 ERROR -/
def DE_ABORT_STATUS_RESULT : Fld := ⟨0x450014, 0x1000, 4, 0x0, 1, 0, 3, 0x0, 0, 0x0, .ro⟩
/-- DE_OUTSTANDING.READS [6:0], 14_dma_translation.md. Read bursts outstanding, 0 to 64 -/
def DE_OUTSTANDING_READS : Fld := ⟨0x450018, 0x1000, 4, 0x0, 1, 0, 7, 0x0, 0, 0x0, .ro⟩
/-- DE_ERR.ECC_CORR [7:0], 14_dma_translation.md. Corrected state errors; saturates at 255 -/
def DE_ERR_ECC_CORR : Fld := ⟨0x45001C, 0x1000, 4, 0x0, 1, 0, 8, 0x0, 0, 0x0, .rc⟩
/-- DE_ERR.BAD_DESC [15:8], 14_dma_translation.md. BAD_DESC records; saturates at 255 -/
def DE_ERR_BAD_DESC : Fld := ⟨0x45001C, 0x1000, 4, 0x0, 1, 8, 8, 0x0, 0, 0x0, .rc⟩
/-- DE_ERR.BUS_ERR [23:16], 14_dma_translation.md. BUS_ERROR records; saturates at 255 -/
def DE_ERR_BUS_ERR : Fld := ⟨0x45001C, 0x1000, 4, 0x0, 1, 16, 8, 0x0, 0, 0x0, .rc⟩
/-- DE_ERR.XLATE [31:24], 14_dma_translation.md. XLATE_FAULT records; saturates at 255 -/
def DE_ERR_XLATE : Fld := ⟨0x45001C, 0x1000, 4, 0x0, 1, 24, 8, 0x0, 0, 0x0, .rc⟩
/-- CH_DQ_BASE.BASE [27:0], 14_dma_translation.md. Descriptor queue, buffer address >> 6 -/
def CH_DQ_BASE_BASE : Fld := ⟨0x450100, 0x1000, 4, 0x20, 16, 0, 28, 0x0, 0, 0x0, .rw⟩
/-- CH_CQ_BASE.BASE [28:0], 14_dma_translation.md. Completion queue, buffer address >> 5 -/
def CH_CQ_BASE_BASE : Fld := ⟨0x450104, 0x1000, 4, 0x20, 16, 0, 29, 0x0, 0, 0x0, .rw⟩
/-- CH_CFG.DQ_LOG2 [3:0], 14_dma_translation.md. Descriptor queue size, 2^DQ_LOG2 -/
def CH_CFG_DQ_LOG2 : Fld := ⟨0x450108, 0x1000, 4, 0x20, 16, 0, 4, 0x4, 0, 0x4, .rw⟩
/-- CH_CFG.CQ_LOG2 [7:4], 14_dma_translation.md. Completion queue size, 2^CQ_LOG2 -/
def CH_CFG_CQ_LOG2 : Fld := ⟨0x450108, 0x1000, 4, 0x20, 16, 4, 4, 0x4, 0, 0x4, .rw⟩
/-- CH_CFG.EN [8:8], 14_dma_translation.md. Enables the channel (R342); 1 in ERROR retries the record (R340) -/
def CH_CFG_EN : Fld := ⟨0x450108, 0x1000, 4, 0x20, 16, 8, 1, 0x0, 0, 0x0, .rw⟩
/-- CH_DQ_TAIL.INDEX [11:0], 14_dma_translation.md. Doorbell: next descriptor slot the owner will write -/
def CH_DQ_TAIL_INDEX : Fld := ⟨0x45010C, 0x1000, 4, 0x20, 16, 0, 12, 0x0, 0, 0x0, .rw⟩
/-- CH_DQ_TAIL.LAP [12:12], 14_dma_translation.md. Lap bit -/
def CH_DQ_TAIL_LAP : Fld := ⟨0x45010C, 0x1000, 4, 0x20, 16, 12, 1, 0x0, 0, 0x0, .rw⟩
/-- CH_DQ_HEAD.INDEX [11:0], 14_dma_translation.md. Next descriptor to run -/
def CH_DQ_HEAD_INDEX : Fld := ⟨0x450110, 0x1000, 4, 0x20, 16, 0, 12, 0x0, 0, 0x0, .ro⟩
/-- CH_DQ_HEAD.LAP [12:12], 14_dma_translation.md. Lap bit -/
def CH_DQ_HEAD_LAP : Fld := ⟨0x450110, 0x1000, 4, 0x20, 16, 12, 1, 0x0, 0, 0x0, .ro⟩
/-- CH_CQ_HEAD.INDEX [11:0], 14_dma_translation.md. Next record the owner will consume -/
def CH_CQ_HEAD_INDEX : Fld := ⟨0x450114, 0x1000, 4, 0x20, 16, 0, 12, 0x0, 0, 0x0, .rw⟩
/-- CH_CQ_HEAD.LAP [12:12], 14_dma_translation.md. Lap bit -/
def CH_CQ_HEAD_LAP : Fld := ⟨0x450114, 0x1000, 4, 0x20, 16, 12, 1, 0x0, 0, 0x0, .rw⟩
/-- CH_CQ_TAIL.INDEX [11:0], 14_dma_translation.md. Next record slot -/
def CH_CQ_TAIL_INDEX : Fld := ⟨0x450118, 0x1000, 4, 0x20, 16, 0, 12, 0x0, 0, 0x0, .ro⟩
/-- CH_CQ_TAIL.LAP [12:12], 14_dma_translation.md. Lap bit -/
def CH_CQ_TAIL_LAP : Fld := ⟨0x450118, 0x1000, 4, 0x20, 16, 12, 1, 0x0, 0, 0x0, .ro⟩
/-- CH_STATUS.STATE [2:0], 14_dma_translation.md. 0 DISABLED, 1 IDLE, 2 QUEUED, 3 RUNNING, 4 PARKED, 5 WAIT_CQ, 6 ERROR -/
def CH_STATUS_STATE : Fld := ⟨0x45011C, 0x1000, 4, 0x20, 16, 0, 3, 0x0, 0, 0x0, .ro⟩
/-- CH_STATUS.PARKS [15:8], 14_dma_translation.md. Parks; saturates at 255 -/
def CH_STATUS_PARKS : Fld := ⟨0x45011C, 0x1000, 4, 0x20, 16, 8, 8, 0x0, 0, 0x0, .rc⟩
/-- RQ_SEL.RING [19:0], 16_miofoest_rings.md. Ring number -/
def RQ_SEL_RING : Fld := ⟨0x214000, 0x0, 1, 0x40, 2, 0, 20, 0x0, 0, 0x0, .rw⟩
/-- RQ_SEL.CR [31:31], 16_miofoest_rings.md. 1 selects a completion ring -/
def RQ_SEL_CR : Fld := ⟨0x214000, 0x0, 1, 0x40, 2, 31, 1, 0x0, 0, 0x0, .rw⟩
/-- RQ_BASE_LO.BASE [31:0], 16_miofoest_rings.md. Staged; bits [11:0] read 0 -/
def RQ_BASE_LO_BASE : Fld := ⟨0x214004, 0x0, 1, 0x40, 2, 0, 32, 0x0, 0, 0x0, .rw⟩
/-- RQ_BASE_HI.BASE [31:0], 16_miofoest_rings.md. Staged -/
def RQ_BASE_HI_BASE : Fld := ⟨0x214008, 0x0, 1, 0x40, 2, 0, 32, 0x0, 0, 0x0, .rw⟩
/-- RQ_ATTR.ATTR [26:0], 16_miofoest_rings.md. Staged; layout of R369 -/
def RQ_ATTR_ATTR : Fld := ⟨0x21400C, 0x0, 1, 0x40, 2, 0, 27, 0x0, 0, 0x0, .rw⟩
/-- RQ_CFG.SIZE_LOG2 [4:0], 16_miofoest_rings.md. Staged, 6 to 16 -/
def RQ_CFG_SIZE_LOG2 : Fld := ⟨0x214010, 0x0, 1, 0x40, 2, 0, 5, 0x6, 0, 0x6, .rw⟩
/-- RQ_CFG.WEIGHT [15:8], 16_miofoest_rings.md. Staged; 0 reads as 1 -/
def RQ_CFG_WEIGHT : Fld := ⟨0x214010, 0x0, 1, 0x40, 2, 8, 8, 0x1, 0, 0x1, .rw⟩
/-- RQ_CFG.BURST [21:16], 16_miofoest_rings.md. Staged; burst − 1 -/
def RQ_CFG_BURST : Fld := ⟨0x214010, 0x0, 1, 0x40, 2, 16, 6, 0x0, 0, 0x0, .rw⟩
/-- RQ_CFG.POOL [25:22], 16_miofoest_rings.md. Staged -/
def RQ_CFG_POOL : Fld := ⟨0x214010, 0x0, 1, 0x40, 2, 22, 4, 0x0, 0, 0x0, .rw⟩
/-- RQ_BIND.TARGET [17:0], 16_miofoest_rings.md. Staged; completion ring of a submission ring, or MSI-X vector [10:0] of a completion ring -/
def RQ_BIND_TARGET : Fld := ⟨0x214014, 0x0, 1, 0x40, 2, 0, 18, 0x0, 0, 0x0, .rw⟩
/-- RQ_BIND.IRQ_EN [31:31], 16_miofoest_rings.md. Staged; completion rings only -/
def RQ_BIND_IRQ_EN : Fld := ⟨0x214014, 0x0, 1, 0x40, 2, 31, 1, 0x1, 0, 0x1, .rw⟩
/-- RQ_CTRL.CREATE [0:0], 16_miofoest_rings.md. Creates the selected ring; clears when done -/
def RQ_CTRL_CREATE : Fld := ⟨0x214018, 0x0, 1, 0x40, 2, 0, 1, 0x0, 0, 0x0, .w1s⟩
/-- RQ_CTRL.DELETE [1:1], 16_miofoest_rings.md. Submission ring to DRAINING, then FREE when its stamped commands complete; completion ring only with no ring bound -/
def RQ_CTRL_DELETE : Fld := ⟨0x214018, 0x0, 1, 0x40, 2, 1, 1, 0x0, 0, 0x0, .w1s⟩
/-- RQ_CTRL.RESTART [2:2], 16_miofoest_rings.md. R388 -/
def RQ_CTRL_RESTART : Fld := ⟨0x214018, 0x0, 1, 0x40, 2, 2, 1, 0x0, 0, 0x0, .w1s⟩
/-- RQ_CTRL.SKIP [3:3], 16_miofoest_rings.md. R388 -/
def RQ_CTRL_SKIP : Fld := ⟨0x214018, 0x0, 1, 0x40, 2, 3, 1, 0x0, 0, 0x0, .rw⟩
/-- RQ_CTRL.FREEZE [4:4], 16_miofoest_rings.md. Freezes with SOFTWARE -/
def RQ_CTRL_FREEZE : Fld := ⟨0x214018, 0x0, 1, 0x40, 2, 4, 1, 0x0, 0, 0x0, .w1s⟩
/-- RQ_CTRL.UPDATE [5:5], 16_miofoest_rings.md. Applies WEIGHT, BURST and PREFETCH to an active ring at its next turn -/
def RQ_CTRL_UPDATE : Fld := ⟨0x214018, 0x0, 1, 0x40, 2, 5, 1, 0x0, 0, 0x0, .w1s⟩
/-- RQ_STATUS.STATE [2:0], 16_miofoest_rings.md. Context STATE of the selected ring -/
def RQ_STATUS_STATE : Fld := ⟨0x21401C, 0x0, 1, 0x40, 2, 0, 3, 0x0, 0, 0x0, .ro⟩
/-- RQ_STATUS.BUSY [3:3], 16_miofoest_rings.md. Operation in progress, at most 1 µs, or the drain of DELETE -/
def RQ_STATUS_BUSY : Fld := ⟨0x21401C, 0x0, 1, 0x40, 2, 3, 1, 0x0, 0, 0x0, .ro⟩
/-- RQ_STATUS.RESULT [7:4], 16_miofoest_rings.md. 0 OK, 1 BAD_RING, 2 IN_USE, 3 NOT_FROZEN, 4 BOUND, 5 BAD_PARAM, 6 NO_CR -/
def RQ_STATUS_RESULT : Fld := ⟨0x21401C, 0x0, 1, 0x40, 2, 4, 4, 0x0, 0, 0x0, .ro⟩
/-- RQ_PTRS.HEAD [15:0], 16_miofoest_rings.md. HEAD; for a completion ring the host HEAD -/
def RQ_PTRS_HEAD : Fld := ⟨0x214020, 0x0, 1, 0x40, 2, 0, 16, 0x0, 0, 0x0, .ro⟩
/-- RQ_PTRS.TAIL [31:16], 16_miofoest_rings.md. TAIL -/
def RQ_PTRS_TAIL : Fld := ⟨0x214020, 0x0, 1, 0x40, 2, 16, 16, 0x0, 0, 0x0, .ro⟩
/-- RQ_ERR0.CODE [7:0], 16_miofoest_rings.md. R386 -/
def RQ_ERR0_CODE : Fld := ⟨0x214024, 0x0, 1, 0x40, 2, 0, 8, 0x0, 0, 0x0, .ro⟩
/-- RQ_ERR0.DETAIL [15:8], 16_miofoest_rings.md. R387 -/
def RQ_ERR0_DETAIL : Fld := ⟨0x214024, 0x0, 1, 0x40, 2, 8, 8, 0x0, 0, 0x0, .ro⟩
/-- RQ_ERR0.HEAD [31:16], 16_miofoest_rings.md. HEAD at the freeze -/
def RQ_ERR0_HEAD : Fld := ⟨0x214024, 0x0, 1, 0x40, 2, 16, 16, 0x0, 0, 0x0, .ro⟩
/-- RQ_ERR1.CID [31:0], 16_miofoest_rings.md. CID of the offending entry -/
def RQ_ERR1_CID : Fld := ⟨0x214028, 0x0, 1, 0x40, 2, 0, 32, 0x0, 0, 0x0, .ro⟩
/-- RQ_ERR2.STAMP [31:0], 16_miofoest_rings.md. Low 32 bits of the next stamp at the freeze -/
def RQ_ERR2_STAMP : Fld := ⟨0x21402C, 0x0, 1, 0x40, 2, 0, 32, 0x0, 0, 0x0, .ro⟩
/-- RE_STATUS.HAZARD [16:0], 16_miofoest_rings.md. Hazard entries in use, 0 to 65,536 -/
def RE_STATUS_HAZARD : Fld := ⟨0x214080, 0x0, 1, 0x0, 1, 0, 17, 0x0, 0, 0x0, .ro⟩
/-- RE_STATUS.PAUSED [17:17], 16_miofoest_rings.md. Fetching paused, table full -/
def RE_STATUS_PAUSED : Fld := ⟨0x214080, 0x0, 1, 0x0, 1, 17, 1, 0x0, 0, 0x0, .ro⟩
/-- RE_COUNT.FREEZES [15:0], 16_miofoest_rings.md. Ring freezes; saturates -/
def RE_COUNT_FREEZES : Fld := ⟨0x214084, 0x0, 1, 0x0, 1, 0, 16, 0x0, 0, 0x0, .rc⟩
/-- RE_COUNT.PAUSES [31:16], 16_miofoest_rings.md. Hazard pauses; saturates -/
def RE_COUNT_PAUSES : Fld := ⟨0x214084, 0x0, 1, 0x0, 1, 16, 16, 0x0, 0, 0x0, .rc⟩
/-- RE_STAMP_LO.STAMP [31:0], 16_miofoest_rings.md. Next stamp, low half -/
def RE_STAMP_LO_STAMP : Fld := ⟨0x214088, 0x0, 1, 0x0, 1, 0, 32, 0x0, 0, 0x0, .ro⟩
/-- RE_STAMP_HI.STAMP [31:0], 16_miofoest_rings.md. Next stamp, high half -/
def RE_STAMP_HI_STAMP : Fld := ⟨0x21408C, 0x0, 1, 0x0, 1, 0, 32, 0x0, 0, 0x0, .ro⟩
/-- SYS_MODE.MODE [1:0], 18_register_access.md. 0 Boot, 1 Test, 2 Service, 3 Recovery -/
def SYS_MODE_MODE : Fld := ⟨0x0, 0x0, 1, 0x0, 1, 0, 2, 0x0, 0, 0x0, .ro⟩
/-- REGION_WR_EN.REQ [7:0], 18_register_access.md. Bit q = 0 makes writes by requester q (R416) to this region a bus error with cause LOCKED; window writes to this registe -/
def REGION_WR_EN_REQ : Fld := ⟨0x4, 0x200000, 5, 0x0, 1, 0, 8, 0xFF, 0, 0xFF, .rws⟩
/-- REGION_TRACE.EN [0:0], 18_register_access.md. 1 passes the region's trace records, such as those of R201, to the trace port -/
def REGION_TRACE_EN : Fld := ⟨0x8, 0x200000, 5, 0x0, 1, 0, 1, 0x0, 0, 0x0, .rw⟩
/-- MBX_CTRL.WID [15:0], 18_register_access.md. Wide value (R419) -/
def MBX_CTRL_WID : Fld := ⟨0x22000, 0x1000000, 8, 0x0, 1, 0, 16, 0x0, 0, 0x0, .rw⟩
/-- MBX_CTRL.GO [16:16], 18_register_access.md. Starts a transfer (R420); clears when BUSY clears -/
def MBX_CTRL_GO : Fld := ⟨0x22000, 0x1000000, 8, 0x0, 1, 16, 1, 0x0, 0, 0x0, .w1s⟩
/-- MBX_CTRL.WRITE [17:17], 18_register_access.md. 0 read, 1 write -/
def MBX_CTRL_WRITE : Fld := ⟨0x22000, 0x1000000, 8, 0x0, 1, 17, 1, 0x0, 0, 0x0, .rw⟩
/-- MBX_STATUS.VALID [0:0], 18_register_access.md. Captured value valid -/
def MBX_STATUS_VALID : Fld := ⟨0x22004, 0x1000000, 8, 0x0, 1, 0, 1, 0x0, 0, 0x0, .ro⟩
/-- MBX_STATUS.BUSY [1:1], 18_register_access.md. Transfer in progress -/
def MBX_STATUS_BUSY : Fld := ⟨0x22004, 0x1000000, 8, 0x0, 1, 1, 1, 0x0, 0, 0x0, .ro⟩
/-- MBX_STATUS.RESULT [7:4], 18_register_access.md. R420 -/
def MBX_STATUS_RESULT : Fld := ⟨0x22004, 0x1000000, 8, 0x0, 1, 4, 4, 0x0, 0, 0x0, .ro⟩
/-- MBX_DATA.DATA [31:0], 18_register_access.md. Value words -/
def MBX_DATA_DATA : Fld := ⟨0x22008, 0x1000000, 8, 0x4, 4, 0, 32, 0x0, 0, 0x0, .rw⟩
/-- CFG_COMMIT.GO [0:0], 18_register_access.md. Starts a commit (R424); clears when taken -/
def CFG_COMMIT_GO : Fld := ⟨0x22018, 0x1000000, 8, 0x0, 1, 0, 1, 0x0, 0, 0x0, .w1s⟩
/-- CFG_COMMIT.DISCARD [1:1], 18_register_access.md. While IDLE: every staged RWC value := its running value; PENDING values of R429 are kept; no effect when written togethe -/
def CFG_COMMIT_DISCARD : Fld := ⟨0x22018, 0x1000000, 8, 0x0, 1, 1, 1, 0x0, 0, 0x0, .w1s⟩
/-- CFG_CRC_EXPECT.CRC [31:0], 18_register_access.md. Expected CRC of the staged set -/
def CFG_CRC_EXPECT_CRC : Fld := ⟨0x2201C, 0x1000000, 8, 0x0, 1, 0, 32, 0x0, 0, 0x0, .rw⟩
/-- CFG_STATUS.STATE [1:0], 18_register_access.md. 0 IDLE, 1 CHECKING, 2 APPLYING -/
def CFG_STATUS_STATE : Fld := ⟨0x22020, 0x0, 1, 0x0, 1, 0, 2, 0x0, 0, 0x0, .ro⟩
/-- CFG_STATUS.DONE [2:2], 18_register_access.md. Last commit ended -/
def CFG_STATUS_DONE : Fld := ⟨0x22020, 0x0, 1, 0x0, 1, 2, 1, 0x0, 0, 0x0, .w1c⟩
/-- CFG_STATUS.REFUSED [3:3], 18_register_access.md. Last commit refused -/
def CFG_STATUS_REFUSED : Fld := ⟨0x22020, 0x0, 1, 0x0, 1, 3, 1, 0x0, 0, 0x0, .ro⟩
/-- CFG_STATUS.CRC_BAD [4:4], 18_register_access.md. Refused for CRC mismatch -/
def CFG_STATUS_CRC_BAD : Fld := ⟨0x22020, 0x0, 1, 0x0, 1, 4, 1, 0x0, 0, 0x0, .ro⟩
/-- CFG_STATUS.REQ [7:5], 18_register_access.md. Requester of the last commit, low 3 bits of R416 -/
def CFG_STATUS_REQ : Fld := ⟨0x22020, 0x0, 1, 0x0, 1, 5, 3, 0x0, 0, 0x0, .ro⟩
/-- CFG_STATUS.REASON [15:8], 18_register_access.md. Commit reason of "The object dictionary and the Zalene link" -/
def CFG_STATUS_REASON : Fld := ⟨0x22020, 0x0, 1, 0x0, 1, 8, 8, 0x0, 0, 0x0, .ro⟩
/-- CFG_STATUS.BOOT [16:16], 18_register_access.md. 1 when the last commit was the start-up commit of R488 step 7; REQ then reads 0 and names no requester (R424) -/
def CFG_STATUS_BOOT : Fld := ⟨0x22020, 0x0, 1, 0x0, 1, 16, 1, 0x0, 0, 0x0, .ro⟩
/-- CFG_CRC_STAGED.CRC [31:0], 18_register_access.md. CRC of the set checked by the last commit -/
def CFG_CRC_STAGED_CRC : Fld := ⟨0x22024, 0x0, 1, 0x0, 1, 0, 32, 0x0, 0, 0x0, .ro⟩
/-- CFG_CRC_RUNNING.CRC [31:0], 18_register_access.md. CRC of the running set -/
def CFG_CRC_RUNNING_CRC : Fld := ⟨0x22028, 0x0, 1, 0x0, 1, 0, 32, 0x0, 0, 0x0, .ro⟩
/-- CFG_CTRL.CRC_REQ [0:0], 18_register_access.md. 1 makes the CRC check of R424 step 3 apply -/
def CFG_CTRL_CRC_REQ : Fld := ⟨0x2202C, 0x0, 1, 0x0, 1, 0, 1, 0x1, 0, 0x1, .rws⟩
/-- REG_ERR_ADDR.ADDR [23:0], 18_register_access.md. Window offset of the logged bus error -/
def REG_ERR_ADDR_ADDR : Fld := ⟨0x22030, 0x0, 1, 0x0, 1, 0, 24, 0x0, 0, 0x0, .ro⟩
/-- REG_ERR_INFO.REQ [2:0], 18_register_access.md. Requester -/
def REG_ERR_INFO_REQ : Fld := ⟨0x22034, 0x0, 1, 0x0, 1, 0, 3, 0x0, 0, 0x0, .ro⟩
/-- REG_ERR_INFO.WRITE [3:3], 18_register_access.md. 1 for a write -/
def REG_ERR_INFO_WRITE : Fld := ⟨0x22034, 0x0, 1, 0x0, 1, 3, 1, 0x0, 0, 0x0, .ro⟩
/-- REG_ERR_INFO.CAUSE [7:4], 18_register_access.md. Cause of R418 -/
def REG_ERR_INFO_CAUSE : Fld := ⟨0x22034, 0x0, 1, 0x0, 1, 4, 4, 0x0, 0, 0x0, .ro⟩
/-- REG_ERR_INFO.COUNT [31:16], 18_register_access.md. Bus errors; saturates at 65,535 -/
def REG_ERR_INFO_COUNT : Fld := ⟨0x22034, 0x0, 1, 0x0, 1, 16, 16, 0x0, 0, 0x0, .rc⟩
/-- OD_CTRL.GO [0:0], 19_object_dictionary.md. Starts the request; clears when BUSY clears -/
def OD_CTRL_GO : Fld := ⟨0x16000, 0x1000000, 8, 0x0, 1, 0, 1, 0x0, 0, 0x0, .w1s⟩
/-- OD_CTRL.OP [2:1], 19_object_dictionary.md. 0 READ, 1 WRITE, 2 INFO, 3 reserved -/
def OD_CTRL_OP : Fld := ⟨0x16000, 0x1000000, 8, 0x0, 1, 1, 2, 0x0, 0, 0x0, .rw⟩
/-- OD_CTRL.RUNNING [3:3], 19_object_dictionary.md. Read the value in force (R428) -/
def OD_CTRL_RUNNING : Fld := ⟨0x16000, 0x1000000, 8, 0x0, 1, 3, 1, 0x0, 0, 0x0, .rw⟩
/-- OD_CTRL.FIRST [4:4], 19_object_dictionary.md. First part: a read takes the snapshot; a write opens assembly -/
def OD_CTRL_FIRST : Fld := ⟨0x16000, 0x1000000, 8, 0x0, 1, 4, 1, 0x1, 0, 0x1, .rw⟩
/-- OD_CTRL.LAST [5:5], 19_object_dictionary.md. Last part of a write: the value is written -/
def OD_CTRL_LAST : Fld := ⟨0x16000, 0x1000000, 8, 0x0, 1, 5, 1, 0x1, 0, 0x1, .rw⟩
/-- OD_ADDR.INDEX [15:0], 19_object_dictionary.md. Index -/
def OD_ADDR_INDEX : Fld := ⟨0x16004, 0x1000000, 8, 0x0, 1, 0, 16, 0x0, 0, 0x0, .rw⟩
/-- OD_ADDR.SUBINDEX [23:16], 19_object_dictionary.md. Subindex -/
def OD_ADDR_SUBINDEX : Fld := ⟨0x16004, 0x1000000, 8, 0x0, 1, 16, 8, 0x0, 0, 0x0, .rw⟩
/-- OD_OFFSET.OFFSET [31:0], 19_object_dictionary.md. Byte offset of this part -/
def OD_OFFSET_OFFSET : Fld := ⟨0x16008, 0x1000000, 8, 0x0, 1, 0, 32, 0x0, 0, 0x0, .rw⟩
/-- OD_LEN.LEN [10:0], 19_object_dictionary.md. Bytes of this write part, 0 to 1,024; not used by READ or INFO (R454) -/
def OD_LEN_LEN : Fld := ⟨0x1600C, 0x1000000, 8, 0x0, 1, 0, 11, 0x0, 0, 0x0, .rw⟩
/-- OD_STATUS.BUSY [0:0], 19_object_dictionary.md. Request in progress -/
def OD_STATUS_BUSY : Fld := ⟨0x16010, 0x1000000, 8, 0x0, 1, 0, 1, 0x0, 0, 0x0, .ro⟩
/-- OD_STATUS.DONE [1:1], 19_object_dictionary.md. Request ended -/
def OD_STATUS_DONE : Fld := ⟨0x16010, 0x1000000, 8, 0x0, 1, 1, 1, 0x0, 0, 0x0, .w1c⟩
/-- OD_STATUS.STATUS [15:8], 19_object_dictionary.md. Status of R432 -/
def OD_STATUS_STATUS : Fld := ⟨0x16010, 0x1000000, 8, 0x0, 1, 8, 8, 0x0, 0, 0x0, .ro⟩
/-- OD_STATUS.RLEN [26:16], 19_object_dictionary.md. Bytes returned -/
def OD_STATUS_RLEN : Fld := ⟨0x16010, 0x1000000, 8, 0x0, 1, 16, 11, 0x0, 0, 0x0, .ro⟩
/-- OD_TOTAL.TOTAL [31:0], 19_object_dictionary.md. Length of the value read -/
def OD_TOTAL_TOTAL : Fld := ⟨0x16014, 0x1000000, 8, 0x0, 1, 0, 32, 0x0, 0, 0x0, .ro⟩
/-- OD_DATA.DATA [31:0], 19_object_dictionary.md. Value bytes, byte 0 in bits [7:0] of 0x400 -/
def OD_DATA_DATA : Fld := ⟨0x16400, 0x1000000, 8, 0x4, 256, 0, 32, 0x0, 0, 0x0, .rw⟩
/-- IF_STATUS.LEVEL [4:0], 20_faults.md. Bit i: input i qualified active -/
def IF_STATUS_LEVEL : Fld := ⟨0x11000, 0x0, 1, 0x0, 1, 0, 5, 0x0, 0, 0x0, .ro⟩
/-- IF_STATUS.STUCK [12:8], 20_faults.md. Bit i: input i stuck -/
def IF_STATUS_STUCK : Fld := ⟨0x11000, 0x0, 1, 0x0, 1, 8, 5, 0x0, 0, 0x0, .ro⟩
/-- IF_STATUS.CHATTER [20:16], 20_faults.md. Bit i: input i chattering -/
def IF_STATUS_CHATTER : Fld := ⟨0x11000, 0x0, 1, 0x0, 1, 16, 5, 0x0, 0, 0x0, .ro⟩
/-- IF_STATUS.TEMP_OOW [24:24], 20_faults.md. TEMP_SENSE out of window -/
def IF_STATUS_TEMP_OOW : Fld := ⟨0x11000, 0x0, 1, 0x0, 1, 24, 1, 0x0, 0, 0x0, .ro⟩
/-- IF_CFGi.FILT [7:0], 20_faults.md. In force (R471) -/
def IF_CFGi_FILT : Fld := ⟨0x11004, 0x0, 1, 0x4, 5, 0, 8, 0x3, 0, 0x3, .ro⟩
/-- IF_CFGi.EDGE_MAX [15:8], 20_faults.md. In force -/
def IF_CFGi_EDGE_MAX : Fld := ⟨0x11004, 0x0, 1, 0x4, 5, 8, 8, 0x0, 0, 0x0, .ro⟩
/-- IF_CFGi.STUCK_T [31:16], 20_faults.md. In force, ms -/
def IF_CFGi_STUCK_T : Fld := ⟨0x11004, 0x0, 1, 0x4, 5, 16, 16, 0x0, 0, 0x0, .ro⟩
/-- WD_CTRL.PERIOD [15:0], 20_faults.md. ms; 0 reads as 1; takes effect at the next reload (R469) -/
def WD_CTRL_PERIOD : Fld := ⟨0x12000, 0x0, 1, 0x0, 1, 0, 16, 0x7D0, 0, 0x7D0, .rw⟩
/-- WD_CTRL.EN [16:16], 20_faults.md. 0 stops the watchdog; 0 to 1 reloads the count (R469) -/
def WD_CTRL_EN : Fld := ⟨0x12000, 0x0, 1, 0x0, 1, 16, 1, 0x1, 0, 0x1, .rws⟩
/-- WD_KICK.KEY [15:0], 20_faults.md. R469 -/
def WD_KICK_KEY : Fld := ⟨0x12004, 0x0, 1, 0x0, 1, 0, 16, 0x0, 0, 0x0, .wo⟩
/-- WD_STATUS.REMAIN [15:0], 20_faults.md. ms left -/
def WD_STATUS_REMAIN : Fld := ⟨0x12008, 0x0, 1, 0x0, 1, 0, 16, 0x7D0, 0, 0x7D0, .ro⟩
/-- WD_STATUS.EXPIRED [16:16], 20_faults.md. Expired since reset -/
def WD_STATUS_EXPIRED : Fld := ⟨0x12008, 0x0, 1, 0x0, 1, 16, 1, 0x0, 0, 0x0, .ro⟩
/-- WD_STATUS.BAD_KICKS [31:24], 20_faults.md. Saturates at 255 -/
def WD_STATUS_BAD_KICKS : Fld := ⟨0x12008, 0x0, 1, 0x0, 1, 24, 8, 0x0, 0, 0x0, .rc⟩
/-- FC_CTRL.CLEAR [0:0], 20_faults.md. R468; clears when done -/
def FC_CTRL_CLEAR : Fld := ⟨0x13000, 0x0, 1, 0x0, 1, 0, 1, 0x0, 0, 0x0, .w1s⟩
/-- FC_CTRL.FLT_MIN [3:1], 20_faults.md. Lowest class that asserts FLT_N -/
def FC_CTRL_FLT_MIN : Fld := ⟨0x13000, 0x0, 1, 0x0, 1, 1, 3, 0x2, 0, 0x2, .rw⟩
/-- FC_STATUS.HIGHEST [2:0], 20_faults.md. R468 -/
def FC_STATUS_HIGHEST : Fld := ⟨0x13004, 0x0, 1, 0x0, 1, 0, 3, 0x0, 0, 0x0, .ro⟩
/-- FC_STATUS.ACTIVE [3:3], 20_faults.md. A chip record is active -/
def FC_STATUS_ACTIVE : Fld := ⟨0x13004, 0x0, 1, 0x0, 1, 3, 1, 0x0, 0, 0x0, .ro⟩
/-- FC_STATUS.FATAL [4:4], 20_faults.md. C4 latched -/
def FC_STATUS_FATAL : Fld := ⟨0x13004, 0x0, 1, 0x0, 1, 4, 1, 0x0, 0, 0x0, .ro⟩
/-- FC_STATUS.CLASS [7:5], 20_faults.md. CLASS of the active or last record -/
def FC_STATUS_CLASS : Fld := ⟨0x13004, 0x0, 1, 0x0, 1, 5, 3, 0x0, 0, 0x0, .ro⟩
/-- FC_STATUS.RECORDS [31:16], 20_faults.md. Records opened; saturates -/
def FC_STATUS_RECORDS : Fld := ⟨0x13004, 0x0, 1, 0x0, 1, 16, 16, 0x0, 0, 0x0, .rc⟩
/-- FC_SOURCE.SOURCE [15:0], 20_faults.md. Active or last record -/
def FC_SOURCE_SOURCE : Fld := ⟨0x13008, 0x0, 1, 0x0, 1, 0, 16, 0x0, 0, 0x0, .ro⟩
/-- FC_SOURCE.OVF [16:16], 20_faults.md.  -/
def FC_SOURCE_OVF : Fld := ⟨0x13008, 0x0, 1, 0x0, 1, 16, 1, 0x0, 0, 0x0, .ro⟩
/-- FC_SOURCE.FORCED [17:17], 20_faults.md.  -/
def FC_SOURCE_FORCED : Fld := ⟨0x13008, 0x0, 1, 0x0, 1, 17, 1, 0x0, 0, 0x0, .ro⟩
/-- FC_CELL.CELL [19:0], 20_faults.md.  -/
def FC_CELL_CELL : Fld := ⟨0x1300C, 0x0, 1, 0x0, 1, 0, 20, 0x0, 0, 0x0, .ro⟩
/-- FC_DUP.DUP [15:0], 20_faults.md.  -/
def FC_DUP_DUP : Fld := ⟨0x13010, 0x0, 1, 0x0, 1, 0, 16, 0x0, 0, 0x0, .ro⟩
/-- FC_DUP.MERGES [23:16], 20_faults.md.  -/
def FC_DUP_MERGES : Fld := ⟨0x13010, 0x0, 1, 0x0, 1, 16, 8, 0x0, 0, 0x0, .ro⟩
/-- FC_MERGED0.MERGED0, MERGED1 [31:0], 20_faults.md. [15:0], [31:16] -/
def FC_MERGED0_MERGED0__MERGED1 : Fld := ⟨0x13014, 0x0, 1, 0x0, 1, 0, 32, 0x0, 0, 0x0, .ro⟩
/-- FC_MERGED1.MERGED2, MERGED3 [31:0], 20_faults.md. [15:0], [31:16] -/
def FC_MERGED1_MERGED2__MERGED3 : Fld := ⟨0x13018, 0x0, 1, 0x0, 1, 0, 32, 0x0, 0, 0x0, .ro⟩
/-- FC_INTERRUPT.INTERRUPT [15:0], 20_faults.md. µs -/
def FC_INTERRUPT_INTERRUPT : Fld := ⟨0x1301C, 0x0, 1, 0x0, 1, 0, 16, 0x0, 0, 0x0, .ro⟩
/-- FC_FORCE.SOURCE [15:0], 20_faults.md. R459 -/
def FC_FORCE_SOURCE : Fld := ⟨0x13020, 0x0, 1, 0x0, 1, 0, 16, 0x0, 0, 0x0, .rw⟩
/-- FC_FORCE.GO [16:16], 20_faults.md. Clears when RESULT leaves PENDING -/
def FC_FORCE_GO : Fld := ⟨0x13020, 0x0, 1, 0x0, 1, 16, 1, 0x0, 0, 0x0, .w1s⟩
/-- FC_FORCE.RESULT [18:17], 20_faults.md. 0 NONE, 1 PENDING, 2 TAKEN, 3 REFUSED -/
def FC_FORCE_RESULT : Fld := ⟨0x13020, 0x0, 1, 0x0, 1, 17, 2, 0x0, 0, 0x0, .ro⟩
/-- FC_FORCE_CELL.CELL [19:0], 20_faults.md.  -/
def FC_FORCE_CELL_CELL : Fld := ⟨0x13024, 0x0, 1, 0x0, 1, 0, 20, 0x0, 0, 0x0, .rw⟩
/-- PWR_CTRL.TARGET [2:0], 21_power_clocks_startup.md. Requested state, 0 to 4; 5 to 7 end REFUSED or BUSY (R476) -/
def PWR_CTRL_TARGET : Fld := ⟨0x10000, 0x0, 1, 0x0, 1, 0, 3, 0x0, 0, 0x0, .rw⟩
/-- PWR_CTRL.GO [3:3], 21_power_clocks_startup.md. Requests TARGET (R476); clears when taken -/
def PWR_CTRL_GO : Fld := ⟨0x10000, 0x0, 1, 0x0, 1, 3, 1, 0x0, 0, 0x0, .w1s⟩
/-- PWR_STATUS.STATE [2:0], 21_power_clocks_startup.md. State in force -/
def PWR_STATUS_STATE : Fld := ⟨0x10004, 0x0, 1, 0x0, 1, 0, 3, 0x0, 0, 0x0, .ro⟩
/-- PWR_STATUS.BUSY [3:3], 21_power_clocks_startup.md. Entry or exit in progress -/
def PWR_STATUS_BUSY : Fld := ⟨0x10004, 0x0, 1, 0x0, 1, 3, 1, 0x0, 0, 0x0, .ro⟩
/-- PWR_STATUS.PEND [6:4], 21_power_clocks_startup.md. Target in progress -/
def PWR_STATUS_PEND : Fld := ⟨0x10004, 0x0, 1, 0x0, 1, 4, 3, 0x0, 0, 0x0, .ro⟩
/-- PWR_STATUS.COMMITTED [7:7], 21_power_clocks_startup.md. Commit point passed (R479) -/
def PWR_STATUS_COMMITTED : Fld := ⟨0x10004, 0x0, 1, 0x0, 1, 7, 1, 0x0, 0, 0x0, .ro⟩
/-- PWR_STATUS.RESULT [11:8], 21_power_clocks_startup.md. R477 -/
def PWR_STATUS_RESULT : Fld := ⟨0x10004, 0x0, 1, 0x0, 1, 8, 4, 0x0, 0, 0x0, .ro⟩
/-- PWR_STATUS.STAGE [14:12], 21_power_clocks_startup.md. Stage in progress, 1 to 5 (R478) -/
def PWR_STATUS_STAGE : Fld := ⟨0x10004, 0x0, 1, 0x0, 1, 12, 3, 0x0, 0, 0x0, .ro⟩
/-- PWR_STATUS.REQ_BUSY [15:15], 21_power_clocks_startup.md. A request ended BUSY since the last accepted request (R476) -/
def PWR_STATUS_REQ_BUSY : Fld := ⟨0x10004, 0x0, 1, 0x0, 1, 15, 1, 0x0, 0, 0x0, .ro⟩
/-- PWR_REFUSE.BLOCK [15:0], 21_power_clocks_startup.md. REGION and BLOCK as R455; NUMBER 0 -/
def PWR_REFUSE_BLOCK : Fld := ⟨0x10008, 0x0, 1, 0x0, 1, 0, 16, 0x0, 0, 0x0, .ro⟩
/-- PWR_REFUSE.REASON [23:16], 21_power_clocks_startup.md. R478 -/
def PWR_REFUSE_REASON : Fld := ⟨0x10008, 0x0, 1, 0x0, 1, 16, 8, 0x0, 0, 0x0, .ro⟩
/-- WAKE_EN.EN [5:0], 21_power_clocks_startup.md. Bits 0, 4 and 5 read 1 and ignore writes -/
def WAKE_EN_EN : Fld := ⟨0x1000C, 0x0, 1, 0x0, 1, 0, 6, 0x31, 0, 0x31, .rw⟩
/-- WAKE_STATUS.SEEN [5:0], 21_power_clocks_startup.md. Bit per source, latched -/
def WAKE_STATUS_SEEN : Fld := ⟨0x10010, 0x0, 1, 0x0, 1, 0, 6, 0x0, 0, 0x0, .w1c⟩
/-- WAKE_STATUS.REPLAY [6:6], 21_power_clocks_startup.md. A wake is latched for replay -/
def WAKE_STATUS_REPLAY : Fld := ⟨0x10010, 0x0, 1, 0x0, 1, 6, 1, 0x0, 0, 0x0, .ro⟩
/-- DOM_STATUS0.DOM [31:0], 21_power_clocks_startup.md. Domains 0 to 15, 2 bits each: 0 OFF, 1 RET, 2 SR or WAKE, 3 ON -/
def DOM_STATUS0_DOM : Fld := ⟨0x10014, 0x0, 1, 0x0, 1, 0, 32, 0x0, 0, 0x0, .ro⟩
/-- DOM_STATUS1.DOM [15:0], 21_power_clocks_startup.md. Domains 16 to 23 -/
def DOM_STATUS1_DOM : Fld := ⟨0x10018, 0x0, 1, 0x0, 1, 0, 16, 0x0, 0, 0x0, .ro⟩
/-- RST_CAUSE.CAUSE [3:0], 21_power_clocks_startup.md. R485, bits 0 to 3 -/
def RST_CAUSE_CAUSE : Fld := ⟨0x1001C, 0x0, 1, 0x0, 1, 0, 4, 0x0, 0, 0x0, .rc⟩
/-- SW_RESET.KEY [15:0], 21_power_clocks_startup.md. R485 -/
def SW_RESET_KEY : Fld := ⟨0x10020, 0x0, 1, 0x0, 1, 0, 16, 0x0, 0, 0x0, .wo⟩
/-- CLK_STATUS.AON_SRC [0:0], 21_power_clocks_startup.md. 0 internal oscillator, 1 crystal -/
def CLK_STATUS_AON_SRC : Fld := ⟨0x10024, 0x0, 1, 0x0, 1, 0, 1, 0x0, 0, 0x0, .ro⟩
/-- CLK_STATUS.LOCK [4:1], 21_power_clocks_startup.md. PLL_CORE, PLL_CHURN, PLL_MCE, PLL_HBM locked -/
def CLK_STATUS_LOCK : Fld := ⟨0x10024, 0x0, 1, 0x0, 1, 1, 4, 0x0, 0, 0x0, .ro⟩
/-- RC_CTRL.FREEZE [0:0], 22_recorder_health.md. R497; clears when taken -/
def RC_CTRL_FREEZE : Fld := ⟨0x14000, 0x0, 1, 0x0, 1, 0, 1, 0x0, 0, 0x0, .w1s⟩
/-- RC_CTRL.THAW [1:1], 22_recorder_health.md. R497; clears when taken -/
def RC_CTRL_THAW : Fld := ⟨0x14000, 0x0, 1, 0x0, 1, 1, 1, 0x0, 0, 0x0, .w1s⟩
/-- RC_CTRL.FLUSH [2:2], 22_recorder_health.md. R494; clears when the flush completes -/
def RC_CTRL_FLUSH : Fld := ⟨0x14000, 0x0, 1, 0x0, 1, 2, 1, 0x0, 0, 0x0, .w1s⟩
/-- RC_CTRL.CLEAR [3:3], 22_recorder_health.md. R498; clears when done -/
def RC_CTRL_CLEAR : Fld := ⟨0x14000, 0x0, 1, 0x0, 1, 3, 1, 0x0, 0, 0x0, .w1s⟩
/-- RC_STATUS.STATE [1:0], 22_recorder_health.md. 0 RUNNING, 1 FROZEN, 2 FLUSHING, 3 FREEZING -/
def RC_STATUS_STATE : Fld := ⟨0x14004, 0x0, 1, 0x0, 1, 0, 2, 0x0, 0, 0x0, .ro⟩
/-- RC_STATUS.KEEP_FULL [2:2], 22_recorder_health.md. KEEP_COUNT = 16,384 -/
def RC_STATUS_KEEP_FULL : Fld := ⟨0x14004, 0x0, 1, 0x0, 1, 2, 1, 0x0, 0, 0x0, .ro⟩
/-- RC_STATUS.WRAPPED [3:3], 22_recorder_health.md. Ring has wrapped -/
def RC_STATUS_WRAPPED : Fld := ⟨0x14004, 0x0, 1, 0x0, 1, 3, 1, 0x0, 0, 0x0, .ro⟩
/-- RC_STATUS.STAGED [13:4], 22_recorder_health.md. Records staged, 0 to 512 -/
def RC_STATUS_STAGED : Fld := ⟨0x14004, 0x0, 1, 0x0, 1, 4, 10, 0x0, 0, 0x0, .ro⟩
/-- RC_SEQ.SEQ_NEXT [31:0], 22_recorder_health.md. Next SEQ -/
def RC_SEQ_SEQ_NEXT : Fld := ⟨0x14008, 0x0, 1, 0x0, 1, 0, 32, 0x0, 0, 0x0, .ro⟩
/-- RC_LOST.LOST [15:0], 22_recorder_health.md. R493; saturates -/
def RC_LOST_LOST : Fld := ⟨0x1400C, 0x0, 1, 0x0, 1, 0, 16, 0x0, 0, 0x0, .rc⟩
/-- RC_LOST.SUPPRESSED [31:16], 22_recorder_health.md. R493; saturates -/
def RC_LOST_SUPPRESSED : Fld := ⟨0x1400C, 0x0, 1, 0x0, 1, 16, 16, 0x0, 0, 0x0, .rc⟩
/-- RC_RING.WR_IDX [13:0], 22_recorder_health.md. Next ring slot -/
def RC_RING_WR_IDX : Fld := ⟨0x14010, 0x0, 1, 0x0, 1, 0, 14, 0x0, 0, 0x0, .ro⟩
/-- RC_READ.INDEX [13:0], 22_recorder_health.md. Slot -/
def RC_READ_INDEX : Fld := ⟨0x14014, 0x1000000, 8, 0x0, 1, 0, 14, 0x0, 0, 0x0, .rw⟩
/-- RC_READ.AREA [14:14], 22_recorder_health.md. 0 keep, 1 ring -/
def RC_READ_AREA : Fld := ⟨0x14014, 0x1000000, 8, 0x0, 1, 14, 1, 0x0, 0, 0x0, .rw⟩
/-- RC_READ.GO [15:15], 22_recorder_health.md. Reads the slot; clears when RESULT leaves PENDING -/
def RC_READ_GO : Fld := ⟨0x14014, 0x1000000, 8, 0x0, 1, 15, 1, 0x0, 0, 0x0, .w1s⟩
/-- RC_READ.RESULT [18:16], 22_recorder_health.md. 0 NONE, 1 PENDING, 2 OK, 3 EMPTY, 4 CORRUPT -/
def RC_READ_RESULT : Fld := ⟨0x14014, 0x1000000, 8, 0x0, 1, 16, 3, 0x0, 0, 0x0, .ro⟩
/-- RC_DATA.DATA [31:0], 22_recorder_health.md. Record bytes 4w to 4w + 3 -/
def RC_DATA_DATA : Fld := ⟨0x14040, 0x1000000, 8, 0x4, 16, 0, 32, 0x0, 0, 0x0, .ro⟩
/-- SEC_STATUS.BOOT_SLOT [0:0], 23_security_maintenance.md. 0 A, 1 B: slot running -/
def SEC_STATUS_BOOT_SLOT : Fld := ⟨0x18000, 0x0, 1, 0x0, 1, 0, 1, 0x0, 0, 0x0, .ro⟩
/-- SEC_STATUS.PENDING_BOOT [1:1], 23_security_maintenance.md. Running image not yet confirmed (R513) -/
def SEC_STATUS_PENDING_BOOT : Fld := ⟨0x18000, 0x0, 1, 0x0, 1, 1, 1, 0x0, 0, 0x0, .ro⟩
/-- SEC_STATUS.RECOVERY [2:2], 23_security_maintenance.md. Recovery entered at boot -/
def SEC_STATUS_RECOVERY : Fld := ⟨0x18000, 0x0, 1, 0x0, 1, 2, 1, 0x0, 0, 0x0, .ro⟩
/-- SEC_STATUS.REVOKE0 [3:3], 23_security_maintenance.md. SK0 revoked by fuse -/
def SEC_STATUS_REVOKE0 : Fld := ⟨0x18000, 0x0, 1, 0x0, 1, 3, 1, 0x0, 0, 0x0, .ro⟩
/-- SEC_STATUS.REASON_A [15:8], 23_security_maintenance.md. Slot A's reason at boot (R512) -/
def SEC_STATUS_REASON_A : Fld := ⟨0x18000, 0x0, 1, 0x0, 1, 8, 8, 0x8, 0, 0x8, .ro⟩
/-- SEC_STATUS.REASON_B [23:16], 23_security_maintenance.md. Slot B's reason at boot -/
def SEC_STATUS_REASON_B : Fld := ⟨0x18000, 0x0, 1, 0x0, 1, 16, 8, 0x8, 0, 0x8, .ro⟩
/-- SEC_SVN.MIN_SVN [31:0], 23_security_maintenance.md. R513 -/
def SEC_SVN_MIN_SVN : Fld := ⟨0x18004, 0x0, 1, 0x0, 1, 0, 32, 0x0, 0, 0x0, .ro⟩
/-- SEC_FWSVN.FW_SVN [31:0], 23_security_maintenance.md. SVN of the running image -/
def SEC_FWSVN_FW_SVN : Fld := ⟨0x18008, 0x0, 1, 0x0, 1, 0, 32, 0x0, 0, 0x0, .ro⟩
/-- SEC_CTRL.CONFIRM [0:0], 23_security_maintenance.md. R513; clears when the record is written -/
def SEC_CTRL_CONFIRM : Fld := ⟨0x1800C, 0x0, 1, 0x0, 1, 0, 1, 0x0, 0, 0x0, .w1s⟩
/-- SEC_CTRL.SVN_COMMIT [1:1], 23_security_maintenance.md. R513; clears when done -/
def SEC_CTRL_SVN_COMMIT : Fld := ⟨0x1800C, 0x0, 1, 0x0, 1, 1, 1, 0x0, 0, 0x0, .w1s⟩
/-- SEC_CTRL.RECOVERY [2:2], 23_security_maintenance.md. Sets RECOVERY_REQ; takes effect at the next reset -/
def SEC_CTRL_RECOVERY : Fld := ⟨0x1800C, 0x0, 1, 0x0, 1, 2, 1, 0x0, 0, 0x0, .w1s⟩
/-- SEC_CTRL.TEST [3:3], 23_security_maintenance.md. Sets TEST_REQ; takes effect at the next reset (R515) -/
def SEC_CTRL_TEST : Fld := ⟨0x1800C, 0x0, 1, 0x0, 1, 3, 1, 0x0, 0, 0x0, .w1s⟩
/-- SEC_SWITCH.STATE [2:0], 23_security_maintenance.md. 0 IDLE, 1 VERIFY, 2 LOAD, 3 QUIESCE, 4 HANDOFF, 5 CONFIRM -/
def SEC_SWITCH_STATE : Fld := ⟨0x18010, 0x0, 1, 0x0, 1, 0, 3, 0x0, 0, 0x0, .ro⟩
/-- SEC_SWITCH.RESULT [15:8], 23_security_maintenance.md. R512 values; 0x10 REVERTED, 0x11 ABANDONED, 0x12 RUNNING_SLOT -/
def SEC_SWITCH_RESULT : Fld := ⟨0x18010, 0x0, 1, 0x0, 1, 8, 8, 0x0, 0, 0x0, .ro⟩
/-- SEC_QUOTES.COUNT [31:0], 23_security_maintenance.md. Low 32 bits of QUOTE_COUNT -/
def SEC_QUOTES_COUNT : Fld := ⟨0x18014, 0x0, 1, 0x0, 1, 0, 32, 0x0, 0, 0x0, .ro⟩

def fldsPL : List Fld :=
  [PL_CTRL_ENABLE, PL_CTRL_RETRAIN, PL_CTRL_MAX_RETRY, PL_STATUS_LINK_UP, PL_STATUS_STATE, PL_STATUS_CMD_BUSY,
   PL_STATUS_LAST_SEQ, PL_STATUS_CRC_ERR_DN, PL_STATUS_CRC_ERR_UP]

def fldsIDB : List Fld :=
  [ MOD_ADMIT_STATE, MOD_ADMIT_REASON, MOD_ADMIT_KEY_INDEX, MOD_ADMIT_REREAD]

def fldsTRU : List Fld :=
  [TRU_CTRL_ENABLE, TRU_CTRL_REACQ, TRU_CTRL_HOLD, TRU_CFG_KP_SHIFT, TRU_CFG_KI_SHIFT, TRU_CFG_RELOCK_LIMIT,
   TRU_CFG_PH_MU, TRU_CFG_RRO_MU, TRU_CFG_QUAL_MIN, TRU_STATUS_STATE, TRU_STATUS_LOCKED, TRU_STATUS_LOSS_CAUSE,
   TRU_STATUS_LOSS_COUNT, TRU_STATUS_MISS_COUNT, TRU_AMP_AMP_LO, TRU_AMP_AMP_HI, TRU_AMP_AMP, TRU_AMP_AGC,
   TRU_POS_FRAME, TRU_POS_CYL, TRU_PES_PES, TRU_PES_QUAL, TRU_PES_VALID, HT_CTRL_FREEZE,
   SYN_NDIVk_BITS, SYN_NDIVk_ZONE, SYN_NDIVk_SLEW, HT_PHASEh_PHT, HT_PHASEh_CONVERGED, HT_PHASEh_OUTLIER,
   HT_RROh_RC, HT_RROh_RS]

def fldsCH : List Fld :=
  [FE_CTRL_EN, FE_CTRL_RDR_EN, FE_CTRL_ROLLBACK, FE_CTRL_TA_EN, FE_FREEZE_GAIN, FE_FREEZE_OFS,
   FE_FREEZE_MRA, FE_FREEZE_PHASE, FE_FREEZE_TAPS, FE_STATUS_RDR_ACT, FE_STATUS_PH_SAT, FE_STATUS_STAGED,
   FE_STATUS_ROLLBACKS, SB_STATUS_SLOT, SB_STATUS_OVERRUN, EQ_CTRL_EQ_MU, EQ_CTRL_UPD_DIV, EQ_TARGET_G1,
   EQ_TARGET_G2, EQ_TARGET_SCALE, EQ_MSE_MSE, FE_TA_TA_THR, FE_TA_TA_LEN, FE_TA_TA_COUNT,
   FE_SNR_SNR, FE_GAIN_r_GAIN, FE_GAIN_r_AGC_DZ, FE_GAIN_r_AGC_TGT, FE_OFS_r_OFS, FE_OFS_r_MRA,
   FE_OFS_r_OFS_DZ, FE_OFS_r_MRA_DZ, FE_CTF_r_FC, FE_CTF_r_BOOST, FE_PHASE_r_INT, FE_PHASE_r_FRAC,
   FE_PHASE_r_PH_MU, EQ_TAPr_t_TAP, EQ_PROFp_r_t_TAP, CAL_CTRL_START, CAL_CTRL_ABORT, CAL_CTRL_HEAD,
   CAL_STATUS_STATE, CAL_STATUS_STEP, CAL_STATUS_REASON, CAL_STATUS_SECTORS, WR_CTRL_EN, WR_CTRL_INHIBIT,
   WR_PRECOMP_PC1, WR_PRECOMP_PC2, WR_PRECOMP_PC_RUN, WR_STATUS_INHIBIT, WR_STATUS_UNDERRUN, WR_STATUS_SUSPECT,
   WR_HEAD_CURRENT, WR_HEAD_HEATER, SQ_CTRL_RUN, SQ_CTRL_SWAP, SQ_CTRL_RESTART, SQ_STATUS_PC,
   SQ_STATUS_ACTIVE, SQ_STATUS_STANDBY_VALID, SQ_STATUS_SWAP_PEND, SQ_STATUS_HALTED, SQ_STATUS_EVT, SQ_STATUS_DEPTH,
   SQ_STATUS_REASON, SQ_CFG_TGT_WDOG, SQ_CFG_SWAP_LIMIT, SQ_IMAGE_IMAGE_ID, SQ_IMAGE_SB_IMAGE_ID, SQ_COUNT_LATE,
   SQ_COUNT_EV_OVR, SQ_COUNT_WDOG, SQ_ERR_ECC_CORR, SQ_ERR_HALT_CAUSE]

def fldsLANE : List Fld :=
  [LN_CTRL_RETIRE, LN_CTRL_RESTORE, LN_STATUS_STATE, LN_STATUS_DEGRADED, LN_STATUS_CHANNEL, LN_STATUS_ITER,
   LN_STATUS_CELL_RET, LN_SECT_SECTORS, LN_ITERS_ITERS, LN_ERR_ECC_CORR, LN_ERR_RET_CAUSE]

def fldsCRU : List Fld :=
  [CR_CTRL_CAP_EN, CR_CTRL_WRAP, CR_CTRL_CAP_NEXT, CR_CTRL_CAP_CH, CR_CTRL_TRIG, CR_STATUS_CAP_STATE,
   CR_STATUS_CAP_MISSED, CAP_WR_IDX_IDX, RP_IDX_IDX, RP_CTRL_START, RP_CTRL_ABORT, RP_CTRL_STEPS,
   RP_STATUS_STATE, RP_STATUS_REASON]

def fldsPG : List Fld :=
  [PG_CTRL_STOP, PG_STATUS_BUSY, PG_STATUS_QUEUED, PG_JMAXc_JMAX, PG_AMAXc_AMAX, PG_VMAXc_VMAX,
   PG_REMc_REM]

def fldsMCE : List Fld :=
  [MC_CTRL_PEAK_CLR, MC_STATUS_CELL, MC_STATUS_BUSY, MC_STATUS_SHADOW, MC_STATUS_STAGE, MC_STATUS_READY,
   MC_LOAD_LOAD, MC_LOAD_PEAK, MC_MISS_MISS, MC_MISS_OVERRUN, MC_ERR_ECC_CORR, MC_ERR_NUMERIC]

def fldsVCM : List Fld :=
  [VC_CTRL_LOAD, VC_CTRL_UNLOAD, VC_CTRL_RETRACT, VC_STATUS_STATE, VC_STATUS_GSEL, VC_STATUS_PRED_RUN,
   VC_STATUS_SEEK_FAIL, VC_STATUS_RETRACTS, VC_TARGET_CYL, VC_ANCHOR_X, VC_CURRENT_I_MEAS, VC_CURRENT_I_DEM,
   VC_HEADS_READ_RDY, VC_HEADS_WRITE_RDY]

def fldsMA : List Fld :=
  [MA_STATUS_ACTIVE, MA_STATUS_OVERCUR]

def fldsSHOCK : List Fld :=
  [SK_CTRL_QUAL, SK_STATUS_ACTIVE, SK_STATUS_FAILED, SK_STATUS_CHATTER, SK_STATUS_COUNT]

def fldsSPIN : List Fld :=
  [SP_CTRL_START, SP_CTRL_STOP, SP_CTRL_COAST, SP_CTRL_RESET, SP_STATUS_MODE, SP_STATUS_LOCKED,
   SP_STATUS_AT_SPEED, SP_STATUS_BRAKE, SP_STATUS_CHOP_FAULT, SP_STATUS_OV2, SP_STATUS_VLIM, SP_STATUS_LOSS_COUNT,
   SP_STATUS_START_FAILS, SP_SPEED_SPEED, SP_SPEED_ANGLE, SP_CURRENT_IQ, SP_CURRENT_ID, SP_PHASE_IU,
   SP_PHASE_IV, SP_BUS_VBUS, SP_BUS_PIN, SP_TEMP_WINDING, SP_TEMP_AMBIENT, SP_CAL_OFS_U,
   SP_CAL_OFS_V]

def fldsECC : List Fld :=
  [ECC_CTRL_WB_EN, ECC_STATUS_TEMP, ECC_STATUS_REF_MULT, ECC_STATUS_RESERVE_USED, ECC_STATUS_RETIRED_PC, ECC_STATUS_POISON,
   ECC_CE_COUNT, ECC_SC_COUNT, ECC_UE_COUNT, ECC_LAST_UE_PAGE, ECC_LAST_UE_WORD, ECC_LAST_UE_VALID,
   HBM_FLIP_CTRL_ARM, HBM_FLIP_CTRL_MATCH, HBM_FLIP_CTRL_PC, HBM_FLIP_PAGE_PAGE]

def fldsPC : List Fld :=
  [HBM_PC_CTRL_RETIRE, HBM_PC_STATUS_STATE, HBM_PC_STATUS_POISON, HBM_PC_STATUS_CAUSE, HBM_PC_CE_COUNT, HBM_PC_SC_SC,
   HBM_PC_SC_UE, HBM_PC_RELOC_PTR, HBM_PC_REFPEND_ARREARS]

def fldsSKIM : List Fld :=
  [SKIM_CTRL_EN, SKIM_CTRL_RESTART, SKIM_STATUS_RESTARTS, SKIM_STATUS_SKIPPED, SKIM_LAP_LAST, SKIM_LAP_MAX_MAX,
   SKIM_FOUND_CORR, SKIM_FOUND_UE, SKIM_COUNT_LAP_COUNT, SKIM_COUNT_PROGRESS]

def fldsPAIL : List Fld :=
  [PAIL_STATUS_FREE, PAIL_STATUS_EMPTY, PAIL_STATUS_LOW, PAIL_MIN_MIN_FREE, PAIL_CTRL_MIN_CLR, PAIL_EMPTY_COUNT,
   PAIL_ERR_RANGE, PAIL_ERR_ALIGN, PAIL_ERR_DOUBLE, PAIL_ERR_LAST_RID, PAIL_ERR_LAST_CAUSE]

def fldsMCC : List Fld :=
  [MCC_CTRL_EN, MCC_STATUS_STATE, MCC_STATUS_EN_PEND, MCC_STATUS_MB_USED, MCC_STATUS_INV_BUSY, MCC_STATUS_LOCKED,
   MCC_STATUS_LOCK_ERR, MCC_HITS_COUNT, MCC_MISSES_COUNT, MCC_ERR_CORR, MCC_ERR_INVAL, MCC_INV_BASE_LINE,
   MCC_INV_SIZE_LINES, MCC_INV_CTRL_GO, MCC_LOCKk_BASE_LINE, MCC_LOCKk_BASE_EN, MCC_LOCKk_SIZE_LINES, MCC_LOCKk_SIZE_PRELOAD]

def fldsDE : List Fld :=
  [DE_CTRL_EN, DE_STATUS_RUN_CH, DE_STATUS_BUSY, DE_STATUS_FOREIGN, DE_STATUS_QUEUED, DE_STATUS_PARKED,
   DE_IRQ_CH, DE_IRQ_EN_EN, DE_ABORT_CHANNEL, DE_ABORT_INDEX, DE_ABORT_GO, DE_ABORT_STATUS_RESULT,
   DE_OUTSTANDING_READS, DE_ERR_ECC_CORR, DE_ERR_BAD_DESC, DE_ERR_BUS_ERR, DE_ERR_XLATE, CH_DQ_BASE_BASE,
   CH_CQ_BASE_BASE, CH_CFG_DQ_LOG2, CH_CFG_CQ_LOG2, CH_CFG_EN, CH_DQ_TAIL_INDEX, CH_DQ_TAIL_LAP,
   CH_DQ_HEAD_INDEX, CH_DQ_HEAD_LAP, CH_CQ_HEAD_INDEX, CH_CQ_HEAD_LAP, CH_CQ_TAIL_INDEX, CH_CQ_TAIL_LAP,
   CH_STATUS_STATE, CH_STATUS_PARKS]

def fldsRE : List Fld :=
  [RQ_SEL_RING, RQ_SEL_CR, RQ_BASE_LO_BASE, RQ_BASE_HI_BASE, RQ_ATTR_ATTR, RQ_CFG_SIZE_LOG2,
   RQ_CFG_WEIGHT, RQ_CFG_BURST, RQ_CFG_POOL, RQ_BIND_TARGET, RQ_BIND_IRQ_EN, RQ_CTRL_CREATE,
   RQ_CTRL_DELETE, RQ_CTRL_RESTART, RQ_CTRL_SKIP, RQ_CTRL_FREEZE, RQ_CTRL_UPDATE, RQ_STATUS_STATE,
   RQ_STATUS_BUSY, RQ_STATUS_RESULT, RQ_PTRS_HEAD, RQ_PTRS_TAIL, RQ_ERR0_CODE, RQ_ERR0_DETAIL,
   RQ_ERR0_HEAD, RQ_ERR1_CID, RQ_ERR2_STAMP, RE_STATUS_HAZARD, RE_STATUS_PAUSED, RE_COUNT_FREEZES,
   RE_COUNT_PAUSES, RE_STAMP_LO_STAMP, RE_STAMP_HI_STAMP]

def fldsCTL : List Fld :=
  [SYS_MODE_MODE, REGION_WR_EN_REQ, REGION_TRACE_EN]

def fldsRAU : List Fld :=
  [MBX_CTRL_WID, MBX_CTRL_GO, MBX_CTRL_WRITE, MBX_STATUS_VALID, MBX_STATUS_BUSY, MBX_STATUS_RESULT,
   MBX_DATA_DATA, CFG_COMMIT_GO, CFG_COMMIT_DISCARD, CFG_CRC_EXPECT_CRC, CFG_STATUS_STATE, CFG_STATUS_DONE,
   CFG_STATUS_REFUSED, CFG_STATUS_CRC_BAD, CFG_STATUS_REQ, CFG_STATUS_REASON, CFG_STATUS_BOOT, CFG_CRC_STAGED_CRC,
   CFG_CRC_RUNNING_CRC, CFG_CTRL_CRC_REQ, REG_ERR_ADDR_ADDR, REG_ERR_INFO_REQ, REG_ERR_INFO_WRITE, REG_ERR_INFO_CAUSE,
   REG_ERR_INFO_COUNT]

def fldsOD : List Fld :=
  [OD_CTRL_GO, OD_CTRL_OP, OD_CTRL_RUNNING, OD_CTRL_FIRST, OD_CTRL_LAST, OD_ADDR_INDEX,
   OD_ADDR_SUBINDEX, OD_OFFSET_OFFSET, OD_LEN_LEN, OD_STATUS_BUSY, OD_STATUS_DONE, OD_STATUS_STATUS,
   OD_STATUS_RLEN, OD_TOTAL_TOTAL, OD_DATA_DATA]

def fldsIF : List Fld :=
  [IF_STATUS_LEVEL, IF_STATUS_STUCK, IF_STATUS_CHATTER, IF_STATUS_TEMP_OOW, IF_CFGi_FILT, IF_CFGi_EDGE_MAX,
   IF_CFGi_STUCK_T]

def fldsWD : List Fld :=
  [WD_CTRL_PERIOD, WD_CTRL_EN, WD_KICK_KEY, WD_STATUS_REMAIN, WD_STATUS_EXPIRED, WD_STATUS_BAD_KICKS]

def fldsFC : List Fld :=
  [FC_CTRL_CLEAR, FC_CTRL_FLT_MIN, FC_STATUS_HIGHEST, FC_STATUS_ACTIVE, FC_STATUS_FATAL, FC_STATUS_CLASS,
   FC_STATUS_RECORDS, FC_SOURCE_SOURCE, FC_SOURCE_OVF, FC_SOURCE_FORCED, FC_CELL_CELL, FC_DUP_DUP,
   FC_DUP_MERGES, FC_MERGED0_MERGED0__MERGED1, FC_MERGED1_MERGED2__MERGED3, FC_INTERRUPT_INTERRUPT, FC_FORCE_SOURCE, FC_FORCE_GO,
   FC_FORCE_RESULT, FC_FORCE_CELL_CELL]

def fldsPWR : List Fld :=
  [PWR_CTRL_TARGET, PWR_CTRL_GO, PWR_STATUS_STATE, PWR_STATUS_BUSY, PWR_STATUS_PEND, PWR_STATUS_COMMITTED,
   PWR_STATUS_RESULT, PWR_STATUS_STAGE, PWR_STATUS_REQ_BUSY, PWR_REFUSE_BLOCK, PWR_REFUSE_REASON, WAKE_EN_EN,
   WAKE_STATUS_SEEN, WAKE_STATUS_REPLAY, DOM_STATUS0_DOM, DOM_STATUS1_DOM, RST_CAUSE_CAUSE, SW_RESET_KEY,
   CLK_STATUS_AON_SRC, CLK_STATUS_LOCK]

def fldsRC : List Fld :=
  [RC_CTRL_FREEZE, RC_CTRL_THAW, RC_CTRL_FLUSH, RC_CTRL_CLEAR, RC_STATUS_STATE, RC_STATUS_KEEP_FULL,
   RC_STATUS_WRAPPED, RC_STATUS_STAGED, RC_SEQ_SEQ_NEXT, RC_LOST_LOST, RC_LOST_SUPPRESSED, RC_RING_WR_IDX,
   RC_READ_INDEX, RC_READ_AREA, RC_READ_GO, RC_READ_RESULT, RC_DATA_DATA]

def fldsSEC : List Fld :=
  [SEC_STATUS_BOOT_SLOT, SEC_STATUS_PENDING_BOOT, SEC_STATUS_RECOVERY, SEC_STATUS_REVOKE0, SEC_STATUS_REASON_A, SEC_STATUS_REASON_B,
   SEC_SVN_MIN_SVN, SEC_FWSVN_FW_SVN, SEC_CTRL_CONFIRM, SEC_CTRL_SVN_COMMIT, SEC_CTRL_RECOVERY, SEC_CTRL_TEST,
   SEC_SWITCH_STATE, SEC_SWITCH_RESULT, SEC_QUOTES_COUNT]

/-- Every register field of the part. -/
def allFlds : List Fld :=
  fldsPL ++ fldsIDB ++ fldsTRU ++ fldsCH ++ fldsLANE ++ fldsCRU ++ fldsPG ++ fldsMCE ++ fldsVCM ++ fldsMA ++ fldsSHOCK ++ fldsSPIN ++ fldsECC ++ fldsPC ++ fldsSKIM ++ fldsPAIL ++ fldsMCC ++ fldsDE ++ fldsRE ++ fldsCTL ++ fldsRAU ++ fldsOD ++ fldsIF ++ fldsWD ++ fldsFC ++ fldsPWR ++ fldsRC ++ fldsSEC

end Sys2Proof.Machine
end

