-- ==== Sys2Proof/Machine/Regs.lean ====
section
/-! DEFINITION. Regs.lean: reading and writing register fields, the one place that touches `regs` and `regsRun`. -/

namespace Sys2Proof.Machine
open Sys2Proof

/-- The key of instance (i, j) of a field: 32 * window offset + lowest bit. -/
def Fld.key (f : Fld) (i j : Nat) : Nat := (f.base + i * f.si + j * f.sj) * 32 + f.lo

/-- The reset value of instance j of a field. -/
def Fld.rst (f : Fld) (j : Nat) : Nat := if j = f.altJ then f.altV else f.reset

/-- The field's value: the staged value of an RWC field, the value of any other. -/
def State.rf (s : State) (f : Fld) (i : Nat := 0) (j : Nat := 0) : Nat := tabGet (f.rst j) s.regs (f.key i j)

/-- Sets a field; the value is cut to the field's width. -/
def State.wf (s : State) (f : Fld) (v : Nat) (i : Nat := 0) (j : Nat := 0) : State :=
  { s with regs := tabSet s.regs (f.key i j) (v % 2 ^ f.width) }

/-- The value in force of an RWC field (R421). -/
def State.run (s : State) (f : Fld) (i : Nat := 0) (j : Nat := 0) : Nat := tabGet (f.rst j) s.regsRun (f.key i j)

/-- A field of one bit as a Bool. -/
def State.rb (s : State) (f : Fld) (i : Nat := 0) (j : Nat := 0) : Bool := s.rf f i j == 1

/-- Sets a field of one bit. -/
def State.wb (s : State) (f : Fld) (b : Bool) (i : Nat := 0) (j : Nat := 0) : State := s.wf f b.toNat i j

/-- Adds n to a counting field that saturates at its largest value. -/
def State.cnt (s : State) (f : Fld) (i : Nat := 0) (j : Nat := 0) (n : Nat := 1) : State :=
  s.wf f (min (s.rf f i j + n) (2 ^ f.width - 1)) i j

/-- Bit b of a number. -/
def bitOf (v b : Nat) : Bool := v / 2 ^ b % 2 == 1

/-- A number with bit b set or cleared. -/
def setBit (v b : Nat) (x : Bool) : Nat := if bitOf v b then (if x then v else v - 2 ^ b) else (if x then v + 2 ^ b else v)

/-- Bit b of a field. -/
def State.rbit (s : State) (f : Fld) (b : Nat) (i : Nat := 0) (j : Nat := 0) : Bool := bitOf (s.rf f i j) b

/-- Sets bit b of a field. -/
def State.wbit (s : State) (f : Fld) (b : Nat) (x : Bool) (i : Nat := 0) (j : Nat := 0) : State :=
  s.wf f (setBit (s.rf f i j) b x) i j

/-- Adds an emission (log 3). -/
def State.emit (s : State) (o : Out) : State := { s with out := o :: s.out }

/-- The state after one free value has been used (log 1). -/
def State.useFree (s : State) : State := { s with free := s.free + 1 }

/-- Applies a function to the state if the condition holds. -/
def State.when (s : State) (c : Bool) (f : State → State) : State := if c then f s else s

end Sys2Proof.Machine
end

