-- ==== Sys2Proof/Machine/Sources.lean ====
section
/-! DEFINITION. Sources.lean: the fault sources of the part (20_faults.md R455 to R458, R553, and the fault tables of the chapters):
source IDs, default classes, floors, and the class in force. -/

namespace Sys2Proof.Machine
open Sys2Proof

/-- Regions (R455). -/
def SYS : Nat := 0
def HST : Nat := 1
def DAT : Nat := 2
def MOT : Nat := 3
def MED : Nat := 4

/-- Source ID (R455). -/
def srcId (region block number : Nat) : Nat := region * 8192 + block * 64 + number

def srcRegion (src : Nat) : Nat := src / 8192
def srcBlock (src : Nat) : Nat := src / 64 % 128
def srcNumber (src : Nat) : Nat := src % 64

/-- Sources of blocks b0 to b0 + nb - 1 of a region, numbers num to num + nn - 1: default class; `own` marks a class that the owner's
own entry sets (R458). -/
structure SrcRow where
  region : Nat
  b0 : Nat
  nb : Nat
  num : Nat
  nn : Nat
  cls : Nat
  own : Bool
  deriving DecidableEq, Repr

/-- The implemented sources (R457): the region-shared units of R456, the rows of R553, the rows of the chapters' fault tables, and the
sources the chapters raise with no number given, which take numbers from 32 on (log 28). -/
def srcRows : List SrcRow :=
  [ -- R456
    ⟨4, 127, 1, 0, 2, 2, false⟩, ⟨0, 127, 1, 0, 2, 4, false⟩,
    -- power controller R490; input filters R470, R472
    ⟨0, 0, 1, 0, 2, 1, false⟩, ⟨0, 0, 1, 2, 1, 4, false⟩, ⟨0, 1, 1, 0, 11, 1, false⟩,
    -- event recorder: no valid header (R495); MRAM controller: store lost (R430), health events (R506)
    ⟨0, 4, 1, 32, 1, 1, false⟩, ⟨0, 5, 1, 32, 1, 3, false⟩, ⟨0, 5, 1, 33, 2, 0, false⟩,
    -- Zalene interface: DUPLICATE_NODE (R438), duplicate address (R439), MAC failures (R445), event unacknowledged (R450)
    ⟨0, 7, 1, 32, 2, 1, false⟩, ⟨0, 7, 1, 34, 2, 0, false⟩,
    -- security engine: switch-over reverted (R517)
    ⟨0, 8, 1, 32, 1, 1, false⟩,
    -- I3C controllers: refused roles (R53)
    ⟨0, 14, 2, 32, 1, 2, false⟩, ⟨0, 14, 2, 33, 1, 3, false⟩,
    -- register access unit (R553)
    ⟨0, 18, 1, 1, 6, 0, false⟩, ⟨0, 18, 1, 7, 1, 1, false⟩, ⟨0, 18, 1, 8, 1, 0, false⟩,
    -- ports (15_nvme_ports.md): downtraining; ring engine freezes (R553); object service (17_object_service.md)
    ⟨1, 0, 2, 32, 1, 0, false⟩, ⟨1, 4, 1, 1, 11, 1, false⟩, ⟨1, 4, 1, 13, 1, 1, false⟩, ⟨1, 4, 1, 32, 1, 1, false⟩,
    ⟨1, 6, 1, 32, 1, 2, false⟩, ⟨1, 6, 1, 33, 1, 1, false⟩,
    -- pseudo-channels (12_buffer_memory.md): retired; ECC unit: light, strong, lost word, second PC, training, temperature; Skimmer
    ⟨2, 0, 16, 32, 1, 2, false⟩, ⟨2, 16, 1, 32, 3, 1, false⟩, ⟨2, 16, 1, 35, 3, 4, false⟩, ⟨2, 16, 1, 38, 1, 0, false⟩, ⟨0, 9, 4, 32, 1, 1, false⟩, ⟨2, 17, 1, 32, 1, 0, false⟩,
    -- Pail pools (R553); metadata cache (R328); stripe parity engine (R553), no spare slot, 90 % of spares (R105)
    ⟨2, 18, 16, 0, 4, 1, false⟩, ⟨2, 18, 16, 4, 1, 0, false⟩, ⟨2, 34, 1, 0, 8, 1, false⟩, ⟨2, 35, 1, 0, 5, 1, false⟩, ⟨2, 35, 1, 32, 1, 2, false⟩, ⟨2, 35, 1, 33, 1, 0, false⟩,
    -- DMA engines and DTU (R348)
    ⟨2, 36, 4, 0, 3, 1, false⟩, ⟨2, 36, 4, 3, 1, 2, false⟩, ⟨2, 36, 4, 4, 1, 1, false⟩, ⟨2, 40, 1, 4, 1, 1, false⟩,
    -- a retirement that would leave no DMA engine (R522)
    ⟨2, 36, 4, 32, 1, 4, false⟩,
    -- MCE lanes (R234); saturation and plausibility carry their owner's class
    ⟨3, 0, 4, 0, 1, 1, false⟩, ⟨3, 0, 4, 1, 1, 3, false⟩, ⟨3, 0, 4, 2, 2, 1, false⟩, ⟨3, 0, 4, 32, 1, 3, false⟩, ⟨3, 0, 4, 33, 1, 1, true⟩,
    ⟨3, 4, 1, 32, 1, 0, false⟩,
    -- VCM drivers (R260)
    ⟨3, 5, 4, 0, 2, 2, false⟩, ⟨3, 5, 4, 2, 1, 1, false⟩, ⟨3, 5, 4, 3, 1, 2, false⟩, ⟨3, 5, 4, 4, 2, 2, true⟩, ⟨3, 5, 4, 6, 3, 2, false⟩,
    ⟨3, 5, 4, 9, 1, 3, false⟩, ⟨3, 5, 4, 32, 2, 2, false⟩, ⟨3, 5, 4, 34, 1, 1, false⟩,
    -- shock qualifier (R553); spindle (R284)
    ⟨3, 13, 1, 0, 1, 0, false⟩, ⟨3, 13, 1, 1, 1, 2, false⟩,
    ⟨3, 14, 1, 0, 2, 3, false⟩, ⟨3, 14, 1, 2, 1, 1, false⟩, ⟨3, 14, 1, 3, 2, 3, false⟩, ⟨3, 14, 1, 5, 1, 1, false⟩, ⟨3, 14, 1, 6, 2, 3, false⟩,
    ⟨3, 14, 1, 8, 2, 1, false⟩, ⟨3, 14, 1, 10, 2, 1, true⟩, ⟨3, 14, 1, 32, 1, 3, false⟩,
    -- channels (R553)
    ⟨4, 0, 32, 0, 1, 1, false⟩, ⟨4, 0, 32, 1, 2, 2, false⟩, ⟨4, 0, 32, 3, 1, 1, false⟩, ⟨4, 0, 32, 4, 2, 0, false⟩, ⟨4, 0, 32, 6, 3, 1, false⟩,
    ⟨4, 0, 32, 9, 2, 2, false⟩, ⟨4, 0, 32, 11, 3, 0, false⟩, ⟨4, 0, 32, 14, 1, 1, false⟩, ⟨4, 0, 32, 32, 1, 2, false⟩, ⟨4, 0, 1, 33, 1, 3, false⟩,
    -- TRUs (R553)
    ⟨4, 32, 4, 0, 2, 2, false⟩, ⟨4, 32, 4, 2, 1, 1, false⟩, ⟨4, 32, 4, 3, 1, 2, false⟩,
    -- lanes (R157): correctable; uncorrectable, cell, checker; then the rows after the shared code table
    ⟨4, 36, 64, 0, 1, 1, false⟩, ⟨4, 36, 64, 1, 3, 2, false⟩,
    -- PA12 links (02_attached_modules.md R38 to R45): 32 retry, 33 DN_CRC, 35 link loss, 36 WRITER_OPEN, 37 WRITER_SHORT,
    -- 38 HEATER_FAULT, 39 MA_OVERCURRENT, 40 OVERTEMP
    ⟨4, 100, 4, 32, 2, 1, false⟩, ⟨4, 100, 4, 35, 4, 2, false⟩, ⟨4, 100, 4, 39, 1, 1, false⟩, ⟨4, 100, 4, 40, 1, 2, false⟩ ]

/-- The row of a source, if the part implements it. -/
def srcRow (src : Nat) : Option SrcRow :=
  srcRows.find? (fun r => r.region == srcRegion src && decide (r.b0 ≤ srcBlock src) && decide (srcBlock src < r.b0 + r.nb)
    && decide (r.num ≤ srcNumber src) && decide (srcNumber src < r.num + r.nn))

/-- The default class of a source (R457). -/
def srcDefault (src : Nat) : Nat := match srcRow src with | some r => r.cls | none => 0

/-- The floor of a source (R456, R457). -/
def srcFloor (src : Nat) : Nat :=
  match srcRow src with
  | some r => if r.own then 0 else if r.cls ≤ 1 then 0 else r.cls
  | none => 0

/-- Index and subindex of a source's entry in the reaction table (R458). -/
def reactIx (src : Nat) : Nat := 0xA100 + 0x80 * srcRegion src + srcBlock src
def reactSub (src : Nat) : Nat := srcNumber src + 1

/-- The source whose reaction entry is (ix, sub). -/
def reactSrc (ix sub : Nat) : Nat := srcId ((ix - 0xA100) / 0x80) ((ix - 0xA100) % 0x80) (sub - 1)

/-- The dictionary row of a reaction entry (R458): RWC, or RO where the owner's entry sets the class. -/
def reactRow (ix sub : Nat) : Option OdRow :=
  if 0xA100 ≤ ix ∧ ix < 0xA380 ∧ 1 ≤ sub then
    match srcRow (reactSrc ix sub) with
    | some r => some ⟨ix, 1, sub, 1, .u8, (if r.own then .ro else .rwc), true, false, false, false, none, 0, r.cls, r.cls, 0⟩
    | none => none
  else none

/-- The value of a source's reaction entry in force. -/
def State.react (s : State) (src : Nat) : Nat :=
  match tabFind s.odRun (odKey (reactIx src) (reactSub src)) with
  | some v => v.toNum
  | none => srcDefault src

/-- The class an owner's own entry gives (R458): SAT_CLASS (R223), RES_CLASS (R233); `cell` is the loop cell of a saturation. -/
def State.ownClass (s : State) (src cell : Nat) : Nat :=
  if srcRegion src = MOT ∧ srcBlock src < 4 then s.par (0x4100 + cell) 4
  else if srcRegion src = MOT ∧ srcBlock src = 14 then
    (if srcNumber src = 10 then s.par (0x4100 + cell) 4 else s.par 0x5020 7)
  else if srcNumber src = 4 then s.par (0x4100 + cell) 4
  else s.par (0x4020 + (srcBlock src - 5)) 7

/-- The source is masked (R458): recorded as C0, with no class reaction. -/
def State.masked (s : State) (src : Nat) : Bool :=
  match srcRow src with
  | some r => !r.own && bitOf (s.react src) 3
  | none => false

/-- The class in force of a source (R458). -/
def State.classOf (s : State) (src cell : Nat) : Nat :=
  match srcRow src with
  | some r => if r.own then s.ownClass src cell else if s.masked src then 0 else s.react src % 8
  | none => 0

end Sys2Proof.Machine
end

