-- ==== Sys2Proof/Machine/Ops.lean ====
section
/-! DEFINITION. Ops.lean: the operations that several commands share: records for the recorder, fault reports and their collection,
the reaction to a C4, write-inhibit causes, modes and domains. -/

namespace Sys2Proof.Machine
open Sys2Proof

/-- The result of a command: always a next state, for the spec gives every command an effect. -/
abbrev Res := Host.Outcome State Fault Refusal

/-- Writes a P entry and the MRAM store (R430). -/
def State.odKeep (s : State) (ix sub : Nat) (v : OdVal) : State :=
  { s.odPut ix sub v with store := tabSet s.store (odKey ix sub) v }

/-! ### Modes, parts, domains -/

/-- System modes (18_register_access.md R415). -/
def modeBoot : Nat := 0
def modeTest : Nat := 1
def modeService : Nat := 2
def modeRecovery : Nat := 3

def State.mode (s : State) : Nat := s.rf SYS_MODE_MODE
def State.setMode (s : State) (m : Nat) : State := s.wf SYS_MODE_MODE m

/-- The actuators the part has (R2, R11). -/
def State.nAct (s : State) : Nat := match s.part with | .a44 => 4 | .a22 => 2
def State.hasAct (s : State) (a : Nat) : Bool := decide (a < s.nAct)
/-- The channels the part has (R13). -/
def State.nChan (s : State) : Nat := 8 * s.nAct
/-- The lanes the part has (R2). -/
def State.nLane (s : State) : Nat := 16 * s.nAct

/-- Domain state codes of DOM_STATUS (21_power_clocks_startup.md R489): 0 OFF, 1 RET, 2 SR or WAKE, 3 ON. -/
def State.dom (s : State) (d : Nat) : Nat :=
  if d < 16 then s.rf DOM_STATUS0_DOM / 4 ^ d % 4 else s.rf DOM_STATUS1_DOM / 4 ^ (d - 16) % 4

/-- Puts two bits at place d of a packed value. -/
def put2 (v d x : Nat) : Nat := v - (v / 4 ^ d % 4) * 4 ^ d + (x % 4) * 4 ^ d

def State.setDom (s : State) (d x : Nat) : State :=
  if d < 16 then s.wf DOM_STATUS0_DOM (put2 (s.rf DOM_STATUS0_DOM) d x)
  else s.wf DOM_STATUS1_DOM (put2 (s.rf DOM_STATUS1_DOM) (d - 16) x)

/-- The domain numbers of R475. -/
def domAON : Nat := 0
def domSYS : Nat := 1
def domQ (q : Nat) : Nat := 2 + q
def domCHA : Nat := 10
def domCHB : Nat := 11
def domMOT : Nat := 12
def domSPN : Nat := 13
def domPX (p : Nat) : Nat := 14 + p
def domHBP : Nat := 16
def domBUF : Nat := 17
def domQUE : Nat := 18
def domOBJ : Nat := 19
def domMCC : Nat := 20
def domDMA : Nat := 21
def domMGT : Nat := 22
def domSVC : Nat := 23

/-- Core cycles per millisecond (R484: PLL_CORE is 1.2 GHz). -/
def cyclesPerMs : Nat := 1200000

/-- Host time in ms (22_recorder_health.md R491): the Timestamp feature, advanced since it was set; 0 if never set. -/
def State.hostMs (s : State) : Nat :=
  match s.hostTime with
  | some (t, c) => (t + (s.coreTime.toNat - c) / cyclesPerMs) % 2 ^ 48
  | none => 0

/-! ### Records (22_recorder_health.md R491 to R494) -/

/-- A record made now; SEQ is assigned on entry to the staging buffer (R493). -/
def State.mkRec (s : State) (kind cls source cell detail ext0 ext1 : Nat) : Rec :=
  { seq := 0, kind := kind, cls := cls, ovf := false, forced := false, source := source, time := s.coreTime.toNat, cell := cell, dup := 0,
    merges := 0, merged := [], interrupt := 0, power := s.rf PWR_STATUS_STATE + 8 * s.mode, detail := detail, hostTime := s.hostMs,
    ext0 := ext0, ext1 := ext1 }

/-- The record of a fault record (R491): kind 0 FAULT for C1 to C4, 1 EVENT for C0. -/
def State.faultRec (s : State) (r : FaultRec) : Rec :=
  { s.mkRec (if r.cls = 0 then 1 else 0) r.cls r.source r.cell r.detail 0 0 with
    ovf := r.ovf, forced := r.forced, time := r.time, dup := r.dup, merges := r.merges, merged := r.merged, interrupt := r.interrupt }

/-- Puts a record at the end of those that wait to enter the staging buffer, one per core cycle (R493). -/
def State.enqueueRec (s : State) (chip : Bool) (r : Rec) : State := { s with recd.inbox := s.recd.inbox ++ [(chip, r)] }

/-- Makes a mark (R492). -/
def State.mark (s : State) (code ext0 : Nat) : State := s.enqueueRec false (s.mkRec 3 0 0 0 code ext0 0)

/-- A flush starts, or the flush in progress is extended to the records staged meanwhile (R494). -/
def State.startFlush (s : State) : State := { s with recd.flushing := true }

/-- A lifetime count (R366) rises. -/
def State.lifeCount (s : State) (k : Nat) : State := { s with life := tabMod 0 s.life k (· + 1) }

/-! ### Channels, heads and gates (R30, R33, R40) -/

def State.ch (s : State) (n : Nat) : ChanSt := tabGet .reset s.chan n
def State.modCh (s : State) (n : Nat) (f : ChanSt → ChanSt) : State := { s with chan := tabMod .reset s.chan n f }

/-- Data head 11 a + h. -/
def headIx (a h : Nat) : Nat := 11 * a + h
def State.hd (s : State) (i : Nat) : HeadSt := tabGet .reset s.head i
def State.modHd (s : State) (i : Nat) (f : HeadSt → HeadSt) : State := { s with head := tabMod .reset s.head i f }

def State.plSt (s : State) (a : Nat) : Pl := tabGet .reset s.plink a
def State.modPl (s : State) (a : Nat) (f : Pl → Pl) : State := { s with plink := tabMod .reset s.plink a f }

/-- All channels of the part; the channels of one actuator. -/
def State.allChans (s : State) : List Nat := List.range s.nChan
def chansOf (a : Nat) : List Nat := (List.range 8).map (fun k => 8 * a + k)

/-- The head mapped to slot k of actuator a, 8 a + k being its channel; 0xF for none (R31). -/
def State.slotHead (s : State) (n : Nat) : Nat := tabGet 0xF s.pa.head n

/-- The channel whose slot maps head h of actuator a. -/
def State.headChan (s : State) (a h : Nat) : Option Nat := (chansOf a).find? (fun n => s.slotHead n == h)

/-- An event of R205 arrives at channel n: latched, or counted on a set latch. -/
def State.sqEvent (s : State) (n e : Nat) : State :=
  if s.rbit SQ_STATUS_EVT e n then s.cnt SQ_COUNT_EV_OVR n else s.wbit SQ_STATUS_EVT e true n

def evWEDGE : Nat := 0
def evINDEX : Nat := 1
def evSHOCK : Nat := 2
def evABORT : Nat := 3
def evKILL : Nat := 4

/-- The write gate of a channel closes at once (R170, R171): the pair returns to electrical idle (R32), and a sector being written is cut and
counted as suspect. -/
def State.cutWrite (s : State) (n : Nat) : State :=
  let c := s.ch n
  if c.wgate then
    let hit := c.begun && !c.ended && (match c.target with | some t => t.write | none => false)
    let s : State := if hit then s.cnt WR_STATUS_SUSPECT n else s
    s.modCh n (fun x => { x with wgate := false, cut := x.cut || hit })
  else s

/-- The read gate of a channel closes at once (R78): a field being read is cut, and its slot record is marked. -/
def State.cutRead (s : State) (n : Nat) : State :=
  let c := s.ch n
  if c.rgate then
    let hit := c.begun && !c.ended && (match c.target with | some t => !t.write | none => false)
    s.modCh n (fun x => { x with rgate := false, cut := x.cut || hit })
  else s

/-- Both gates of a channel close, bypassing its microcode (R77 step 2). -/
def State.shutGates (s : State) (n : Nat) : State := (s.cutWrite n).cutRead n

/-- The gates of a half-stack's 8 channels close (R45, R77). -/
def State.shutHalf (s : State) (a : Nat) : State := (chansOf a).foldl (fun t n => t.shutGates n) s

/-- Block number of the PA12 link controller and of the TRU of actuator a, in region MED (R410). -/
def plBlock (a : Nat) : Nat := 100 + a
def truBlock (a : Nat) : Nat := 32 + a

/-! ### Write inhibit (07_write_and_stripes.md R170) -/

def inhSOFTWARE : Nat := 0
def inhSHOCK : Nat := 1
def inhTIMEBASE : Nat := 2
def inhTRIM : Nat := 3
def inhOFFTRACK : Nat := 4
def inhWRITER : Nat := 5
def inhOVERTEMP : Nat := 6
def inhLINK : Nat := 7
def inhPFAIL : Nat := 8
def inhSURFACE : Nat := 9
def inhSPINDLE : Nat := 10
def inhPOWER : Nat := 11
def inhFAULT : Nat := 12
def inhSETUP : Nat := 13

/-- Causes of kind I stop at once and cut (R170). -/
def inhCuts (bit : Nat) : Bool := [inhSHOCK, inhTIMEBASE, inhTRIM, inhOFFTRACK, inhWRITER, inhLINK, inhSPINDLE, inhFAULT].contains bit

/-- Sets or clears a cause on one channel. A cause of kind I that rises closes the write gate and latches KILL (R170, R171, R205). -/
def State.inhibit (s : State) (bit : Nat) (x : Bool) (n : Nat) : State :=
  let rises := x && !s.rbit WR_STATUS_INHIBIT bit n
  let s : State := s.wbit WR_STATUS_INHIBIT bit x n
  if rises && inhCuts bit then (s.cutWrite n).sqEvent n evKILL else s

/-- Sets or clears a cause on a list of channels. -/
def State.inhibits (s : State) (bit : Nat) (x : Bool) (ns : List Nat) : State := ns.foldl (fun t n => t.inhibit bit x n) s

/-- A cause on every channel of the drive. -/
def State.inhibitAll (s : State) (bit : Nat) (x : Bool) : State := s.inhibits bit x s.allChans

/-! ### Actuators: park and retract triggers (10_actuators_servo.md R258, R259) -/

def acUNLOADED : Nat := 0
def acLOADING : Nat := 1
def acSEEK : Nat := 2
def acSETTLE : Nat := 3
def acFOLLOW : Nat := 4
def acUNLOADING : Nat := 5
def acRETRACT : Nat := 6
def acRETIRED : Nat := 7

def State.act (s : State) (a : Nat) : Nat := s.rf VC_STATUS_STATE a
def State.setAct (s : State) (a st : Nat) : State := s.wf VC_STATUS_STATE st a

/-- The actuator's heads are off the ramp. -/
def State.actLoaded (s : State) (a : Nat) : Bool := s.act a != acUNLOADED && s.act a != acRETIRED

def State.allUnloaded (s : State) : Bool := (List.range s.nAct).all (fun a => !s.actLoaded a)

/-- The actuator beside its registers. -/
def State.sv (s : State) (a : Nat) : Servo := tabGet .reset s.servo a
def State.modSv (s : State) (a : Nat) (f : Servo → Servo) : State := { s with servo := tabMod .reset s.servo a f }

/-- What a park or retract leaves of a seek (R253): the seek in progress ends, the request behind it is refused, no head is ready. -/
def State.dropSeek (s : State) (a : Nat) : State :=
  let s : State := match (s.sv a).queued with
    | some q => s.emit (.note "seek refused" a q.1)
    | none => s
  let s : State := s.modSv a (fun v => { v with seek := none, queued := none, loadStep := 0, parkStep := 0, contrib := [] })
  (s.wf VC_HEADS_READ_RDY 0 a).wf VC_HEADS_WRITE_RDY 0 a

/-- R259 step 1: a retract is triggered: write pairs to electrical idle, LINK_RESET handed to an UP link ahead of all that waits, STATE RETRACT;
a trigger during a retract is merged, and an unloaded or retired actuator has nothing to do. -/
def State.startRetract (s : State) (a : Nat) : State :=
  if s.actLoaded a && s.act a != acRETRACT then
    let s : State := (chansOf a).foldl (fun t n => t.cutWrite n) s
    let s : State := if s.rf PL_STATUS_STATE a = 2 then
        s.modPl a (fun p => { p with queue := (0, { op := 0x0E, payload := [] }) :: p.queue }) else s
    (((s.dropSeek a).modSv a (fun v => { v with retract := 1 })).setAct a acRETRACT).cnt VC_STATUS_RETRACTS a
  else s

def State.retractAll (s : State) : State := (List.range s.nAct).foldl (fun t a => t.startRetract a) s

/-- OFFTRACK set without a cut (R251 step 1, R258 step 1): no new field begins, and the fields in progress end. -/
def State.softOff (s : State) (ns : List Nat) : State := ns.foldl (fun t n => t.wbit WR_STATUS_INHIBIT inhOFFTRACK true n) s

/-- R258 step 1: a park is requested of a loaded actuator that is not unloading or retracting already. -/
def State.startPark (s : State) (a : Nat) : State :=
  if s.actLoaded a && s.act a != acUNLOADING && s.act a != acRETRACT then ((s.dropSeek a).softOff (chansOf a)).setAct a acUNLOADING else s

def State.parkAll (s : State) : State := (List.range s.nAct).foldl (fun t a => t.startPark a) s

/-! ### Ending a power entry (21_power_clocks_startup.md R477, R479 step 3) -/

/-- A refused flex, PA12 or VCM power stage, or a lost link that has not been re-admitted, keeps an actuator from loading (R45, R53). -/
def State.mayLoad (s : State) (a : Nat) : Bool :=
  let roles := match a with | 0 => [0, 2, 6] | 1 => [1, 3, 6] | 2 => [7, 9, 11] | _ => [8, 10, 11]
  roles.all (fun r => s.rf MOD_ADMIT_STATE 0 r != 3) && !(s.plSt a).lost

/-- Speed within 1 % of the target (R62, R257, R272). -/
def State.spinOk (s : State) : Bool :=
  let t := 4 * s.par 0x5010 1
  let v := s.rf SP_SPEED_SPEED
  decide (100 * (max v t - min v t) ≤ t)

/-- A load is requested of an unloaded actuator (10_actuators_servo.md R257 step 1): accepted with the spindle within 1 % of its target. -/
def State.startLoad (s : State) (a : Nat) : State :=
  if s.act a = acUNLOADED && s.hasAct a && s.mayLoad a && s.spinOk && !s.rbit WR_STATUS_INHIBIT inhPFAIL (8 * a) then
    (s.modSv a (fun v => { v with loadStep := 1, parkStep := 0, seek := none, queued := none })).setAct a acLOADING else s

/-- On the way out of P3, and after a restart of MOT that took the spindle down, the actuators load once the spindle is at speed (R481,
20_faults.md R465). -/
def State.exitLoad (s : State) : State :=
  if (s.pwr.kind = .exit ∧ s.pwr.exitFrom = 3) ∨ s.spin.restart = 2 then
    (List.range s.nAct).foldl (fun t a => t.startLoad a) ({ s with spin.restart := 0 } : State) else s

/-- Actuators parked for the entry reload (R479 step 3): one still UNLOADING resumes loading too. -/
def State.reloadParked (s : State) : State :=
  s.pwr.parked.foldl (fun t a => if t.act a = acUNLOADED ∨ t.act a = acUNLOADING then
      (t.modSv a (fun v => { v with loadStep := 1, parkStep := 0 })).setAct a acLOADING else t) s

/-- The number of a participant in the order of R478. -/
def partIndex : Participant → Nat
  | .scheduler => 0 | .parity => 1 | .channels => 2 | .churn => 3 | .capture => 4 | .metadataCache => 5 | .dma => 6 | .mce => 7
  | .vcm => 8 | .spindle => 9 | .portA => 10 | .portB => 11 | .zalene => 12 | .powerController => 13 | .serviceCores => 14 | .recorder => 15

/-- An entry that has not reached its commit point ends with a result; participants are released; `reload` says whether the actuators
parked for it reload. POWER (R170) stays only in P2 and deeper. -/
def State.abortEntry (s : State) (result : Nat) (reload : Bool) : State :=
  if (s.pwr.kind = .entry ∨ s.pwr.kind = .forced) ∧ s.rf PWR_STATUS_COMMITTED = 0 then
    let s : State := if reload then s.reloadParked else s
    let s : State := (((s.wf PWR_STATUS_RESULT result).wb PWR_STATUS_BUSY false).wf PWR_STATUS_STAGE 0).wf PWR_STATUS_PEND 0
    let s : State := if s.rf PWR_STATUS_STATE ≤ 1 then s.inhibitAll inhPOWER false else s
    let s : State := s.pwr.acked.foldl (fun t p => t.emit (.note "RELEASE" (partIndex p) 0)) s
    { s with pwr.kind := .idle, pwr.waiting := [], pwr.acked := [], pwr.parked := [], pwr.started := false }
  else s

/-! ### The reaction to a C4 (20_faults.md R466) -/

/-- R466 steps 1 to 6 and 8, taken once: FATAL latched, ALIVE stopped, FLT_N asserted (R468: always after a C4), FAULT on every channel,
every ring frozen with code CHIP (0x0C), NVMe queues frozen and CSTS.CFS set, ERR_FATAL on each port whose link is up, retract of every
loaded actuator, the staging buffer flushed; a power entry in progress ends ABORTED_FAULT (R479). -/
def State.chipFatal (s : State) : State :=
  if s.rb FC_STATUS_FATAL then s
  else
    let s : State := (s.wb FC_STATUS_FATAL true).wf FC_STATUS_HIGHEST 4
    let s : State := { s with fc.alive := false }
    let s : State := s.inhibitAll inhFAULT true
    let s : State := { s with sr := s.sr.map (fun p => if p.2.st = 1 ∨ p.2.st = 2 then (p.1, { p.2 with st := 3, code := 0x0C, copies := [] }) else p) }
    let s : State := { s with port := tabMod .reset (tabMod .reset s.port 0 (fun p => { p with cfs := true, frozen := true })) 1 (fun p => { p with cfs := true, frozen := true }) }
    let s : State := (s.port.filter (fun p => p.2.linkUp)).foldl (fun t p => t.emit (.port p.1 "ERR_FATAL" 0)) s
    let s : State := s.retractAll
    let s : State := if s.pwr.kind = .entry ∨ s.pwr.kind = .forced then (s.wf PWR_STATUS_COMMITTED 0).abortEntry 7 false else s
    s.startFlush

/-! ### Collection of fault reports (20_faults.md R460 to R463) -/

/-- A new fault record. -/
def State.newFault (s : State) (src cell cls detail : Nat) (forced : Bool) : FaultRec :=
  { source := src, cell := cell % 2 ^ 20, cls := cls, time := s.coreTime.toNat, ovf := false, dup := 0, merges := 0, merged := [],
    interrupt := 0, forced := forced, detail := detail % 2 ^ 32 }

/-- Counts n duplicates (R461, R462); DUP is 16 bits and saturates. -/
def FaultRec.addDup (r : FaultRec) (n : Nat) : FaultRec := { r with ovf := true, dup := min (r.dup + n) 65535 }

/-- Merges a report of another source (R463 steps 1 and 4). -/
def FaultRec.merge (r : FaultRec) (src cls : Nat) : FaultRec :=
  { r with merges := min (r.merges + 1) 255, merged := if r.merged.length < 4 then r.merged ++ [src] else r.merged, cls := max r.cls cls }

/-- Duplicates below an open record add to the records above that hold the same source (R462: summed over all levels). -/
def State.dupUp (s : State) (rg src n : Nat) : State :=
  let s : State := match tabFind s.fc.region rg with
    | some r => if r.source = src then { s with fc.region := tabSet s.fc.region rg (r.addDup n) } else s
    | none => s
  let s : State := { s with fc.up := s.fc.up.map (fun p => match p.2 with
      | .opened r => if p.1 = rg ∧ r.source = src then (p.1, UpReport.opened (r.addDup n)) else p
      | .merge _ _ => p) }
  match s.fc.chip with
  | some r => if r.source = src then { s with fc.chip := some (r.addDup n) } else s
  | none => s

/-- A block passes a report to its region collector (R462). -/
def State.toRegion (s : State) (rg : Nat) (r : FaultRec) : State :=
  match tabFind s.fc.region rg with
  | none => { s with fc.region := tabSet s.fc.region rg r, fc.up := s.fc.up ++ [(rg, .opened r)] }
  | some q =>
    if q.source = r.source then s.dupUp rg r.source (1 + r.dup)
    else { s with fc.region := tabSet s.fc.region rg (q.merge r.source r.cls), fc.up := s.fc.up ++ [(rg, .merge r.source r.cls)] }

/-- R461 (and R240: a C2 to C4 of the MOT region lets a recording in mode 2 run 1,024 records more): a cell of block `blk` of region `rg` reports source `src`; a C4 has a direct line to the reaction sequencer (R466). -/
def State.reportBy (s : State) (rg blk src cell cls detail : Nat) (forced : Bool) : State :=
  let key := rg * 128 + blk
  let s : State := if rg = MOT ∧ 2 ≤ cls ∧ s.mrec.st = 1 ∧ s.ent 0xF020 5 = 2 ∧ s.mrec.left.isNone then { s with mrec.left := some 1024 } else s
  let s : State := match tabFind s.fc.block key with
    | none =>
      let r := s.newFault src cell cls detail forced
      ({ s with fc.block := tabSet s.fc.block key r }).toRegion rg r
    | some q =>
      if q.source = src then ({ s with fc.block := tabSet s.fc.block key (q.addDup 1) }).dupUp rg src 1
      else
        let s : State := { s with fc.block := tabSet s.fc.block key (q.merge src cls) }
        match tabFind s.fc.region rg with
        | some g => { s with fc.region := tabSet s.fc.region rg (g.merge src cls), fc.up := s.fc.up ++ [(rg, .merge src cls)] }
        | none => s
  if cls = 4 then s.chipFatal else s

/-- A unit reports a source of its own block, in the source's class in force (R458). -/
def State.report (s : State) (src : Nat) (cell : Nat := 0) (detail : Nat := 0) : State :=
  s.reportBy (srcRegion src) (srcBlock src) src cell (s.classOf src cell) detail false

/-- A report whose class the reporting rule raises above the class in force (R456, R217, R284). -/
def State.reportAs (s : State) (src cls : Nat) (cell : Nat := 0) (detail : Nat := 0) : State :=
  s.reportBy (srcRegion src) (srcBlock src) src cell (max cls (s.classOf src cell)) detail false

/-- A reaction in progress takes on the unit of a C2 or the region of a C3 (R463 step 3). -/
def State.takeOn (s : State) (rg src cls : Nat) : State :=
  if cls = 2 then { s with fc.c2Sources := s.fc.c2Sources ++ [src] }
  else if cls = 3 then { s with fc.c3Regions := if s.fc.c3Regions.contains rg then s.fc.c3Regions else s.fc.c3Regions ++ [rg] }
  else s

/-- HIGHEST follows every record opened or raised (R468). -/
def State.raiseHighest (s : State) (cls : Nat) : State := s.wf FC_STATUS_HIGHEST (max (s.rf FC_STATUS_HIGHEST) cls)

/-- R460: the chip record closes; the collectors that fed it are cleared with it, and those whose report still waits for the chip stay. -/
def State.closeChip (s : State) : State :=
  match s.fc.chip with
  | none => s
  | some r =>
    let keep := fun g => s.fc.up.any (fun p => p.1 == g && (match p.2 with | .opened _ => true | .merge _ _ => false))
    { s with fc.chip := none, fc.last := some r, fc.c2Sources := [], fc.c3Regions := [],
             fc.region := s.fc.region.filter (fun p => keep p.1),
             fc.block := s.fc.block.filter (fun p => keep (p.1 / 128)) }

/-- New background work (scrub dispatch, compaction, health sampling, recovery rewrites) is held from QUIESCE until the new firmware takes the handoff
(23_security_maintenance.md R517 steps 2 to 4). -/
def State.bgHeld (s : State) : Bool := s.sec.sw.isSome && (s.rf SEC_SWITCH_STATE == 3 || s.rf SEC_SWITCH_STATE == 4)

end Sys2Proof.Machine
end

