-- ==== Sys2Proof/Machine/Hooks.lean ====
section
/-! DEFINITION. Hooks.lean: what a region restart, a change of power state and a reset do to the blocks of each region. -/

namespace Sys2Proof.Machine
open Sys2Proof

/-- The actuators a C3 of region `rg` parks (R465): none but for MOT (by retract) and MED. -/
def State.c3Acts (s : State) (rg src : Nat) : List Nat :=
  let all := List.range s.nAct
  if rg = MOT then all
  else if rg = MED then
    let b := srcBlock src
    if b < 32 then [b / 8] else if b < 36 then [b - 32] else if 100 ≤ b ∧ b < 104 then [b - 100] else all
  else []

/-- What a reset of every domain but AON loses, and what media, MRAM and P entries keep (R485). -/
def State.coldReset (s : State) : State :=
  { State.reset with
      part := s.part, store := s.store, storeRegs := s.storeRegs, storeValid := s.storeValid,
      storeGen := s.storeGen, writeGen := s.writeGen, resv := s.resv, savedStripes := s.savedStripes,
      purge := s.purge.map (fun _ => (2 ^ 32, 0)), calSet := s.calSet, pdl := s.pdl, gdl := s.gdl, surfRetired := s.surfRetired, holes := s.holes,
      obj.media := s.obj.media, port := s.port.map (fun p => (p.1, { Port.reset with perst := p.2.perst })), recd.keep := s.recd.keep, recd.ring := s.recd.ring, recd.header := s.recd.header, sec.dm := s.sec.dm,
      sec.mg := s.sec.mg, sec.sel := s.sec.sel, sec.imgA := s.sec.imgA, sec.imgB := s.sec.imgB, sec.minSvn := s.sec.minSvn,
      sec.revoke0 := s.sec.revoke0, sec.bootCount := s.sec.bootCount, sec.quoteCount := s.sec.quoteCount,
      health := s.health, life := s.life, zl.strap := s.zl.strap, free := s.free, out := s.out, pending := s.pending }

/-! ### What the commit checks ask of the blocks -/

/-- Pool p. -/
def State.pl (s : State) (p : Nat) : Pool := tabGet .reset s.pool p

/-- The pool holds an allocated or reserved Pail (13_pails_and_cache.md R312). -/
def State.poolHolds (s : State) (p : Nat) : Bool := (s.pl p).alloc != [] || (s.pl p).reserved.any (fun x => x.2 != 0)

/-- Every Pail of the pool is free, and MIN_FREE restarts at the new COUNT (R312). -/
def State.poolRestart (s : State) (p count : Nat) : State :=
  { s with pool := tabMod .reset s.pool p (fun q => { q with alloc := [], reserved := [], minFree := count, low := false }) }

/-- The capture area (R192) and the recording area (R240) count once an entry has placed them (log 33). -/
def State.capConfigured (s : State) : Bool := (tabFind s.od (odKey 0xF010 1)).isSome
def State.recConfigured (s : State) : Bool := (tabFind s.od (odKey 0xF020 1)).isSome

/-- Lanes of the part's halves that are not retired (09_control_engine.md R238). -/
def State.lanesLeft (s : State) : Nat := ((List.range s.nLane).filter (fun k => s.rf LN_STATUS_STATE k != 4 && s.rf LN_STATUS_STATE k != 3)).length

/-- R282: the bus rating in 0.1 V of record 0x0009 of the spindle power stage (role 5) while it is ADMITTED, or 14.0 V. -/
def State.busRating (s : State) : Nat :=
  match ((tabGet .reset s.ident 5).recs.find? (fun x => x.1 == 0x0009)) with
  | some x => if s.rf MOD_ADMIT_STATE 0 5 = 2 then (x.2.getD 0 0).toNat + 256 * (x.2.getD 1 0).toNat else 140
  | none => 140

end Sys2Proof.Machine
end

