-- ==== Sys2Proof/Machine/Memory.lean ====
section
/-! DEFINITION. Memory.lean: the bytes of the buffer, the light code on every word and the strong code on every page, poisoned pages, and the
metadata cache in front of them (12_buffer_memory.md R287 to R301, 13_pails_and_cache.md R321 to R324). -/

namespace Sys2Proof.Machine
open Sys2Proof

/-! ### The bytes (R287, R288). An unlisted address reads 0 (R554). -/

/-- The byte at an address. -/
def memGet : List Host.Cell → Nat → Byte
  | [], _ => 0
  | (k, v) :: r, a => if k = a then v else memGet r a

/-- Stores a byte, keeping the addresses rising and no zero listed. -/
def memSet : List Host.Cell → Nat → Byte → List Host.Cell
  | [], a, v => if v = 0 then [] else [(a, v)]
  | (k, w) :: r, a, v =>
    if a < k then (if v = 0 then (k, w) :: r else (a, v) :: (k, w) :: r)
    else if k = a then (if v = 0 then r else (a, v) :: r)
    else (k, w) :: memSet r a v

/-- Every listed address is at least `lo`, the addresses rise, and no listed byte is 0. -/
def memFrom : Nat → List Host.Cell → Bool
  | _, [] => true
  | lo, (k, v) :: r => decide (lo ≤ k) && (v != 0) && memFrom (k + 1) r

/-- The canonical form of memory. -/
def Memory.wf (m : List Host.Cell) : Bool := memFrom 0 m

/-- Stores bytes from an address on. -/
def memPut : List Host.Cell → Nat → List Byte → List Host.Cell
  | m, _, [] => m
  | m, a, b :: bs => memPut (memSet m a b) (a + 1) bs

/-- Drops the listed bytes of [a, a + n), which then read 0. -/
def memZero (m : List Host.Cell) (a n : Nat) : List Host.Cell := m.filter (fun c => !(decide (a ≤ c.1) && decide (c.1 < a + n)))

/-- A byte as a requester sees it: a block that holds a sector read from the media gives free values but for the bytes written since (log 15). -/
def State.byteAt (s : State) (a : Nat) : Byte :=
  if !s.buf.filled then Config.rawByte a
  else match tabFind s.buf.media (a / 4096) with
    | some id => (match tabFind s.buf.overlay a with
      | some v => BitVec.ofNat 8 v
      | none => Config.mediaByte id (a % 4096))
    | none => memGet s.mem a

def State.bytesAt (s : State) (a n : Nat) : List Byte := (List.range n).map (fun i => s.byteAt (a + i))

/-- A requester's bytes are stored. -/
def State.putByte (s : State) (a : Nat) (v : Byte) : State :=
  if (tabFind s.buf.media (a / 4096)).isSome then { s with buf.overlay := tabSet s.buf.overlay a v.toNat } else { s with mem := memSet s.mem a v }

def State.putBytes (s : State) : Nat → List Byte → State
  | _, [] => s
  | a, b :: bs => State.putBytes (s.putByte a b) (a + 1) bs

/-- Block k no longer holds a media sector: its bytes read 0 until written. -/
def State.clearBlock (s : State) (k : Nat) : State :=
  { s with buf.media := tabDel s.buf.media k, buf.overlay := s.buf.overlay.filter (fun p => p.1 / 4096 != k), mem := memZero s.mem (4096 * k) 4096 }

/-- A sector read from the media, or computed parity, fills a 4 KiB block: its bytes are a new free value (log 15). -/
def State.mediaBlock (s : State) (a : Nat) : State :=
  let s : State := s.clearBlock (a / 4096)
  ({ s with buf.media := tabSet s.buf.media (a / 4096) s.free } : State).useFree

/-! ### Places (R287, R288, R305) -/

/-- Capacity of the data region (12_buffer_memory.md R288). -/
def State.dataEnd (s : State) : Nat := match s.part with | .a44 => 0x3A0000000 | .a22 => 0x1D0000000

def State.rowsPerPc (s : State) : Nat := match s.part with | .a44 => 524288 | .a22 => 262144
/-- Rn: the rows that a retirement moves. -/
def State.rowsMoved (s : State) : Nat := s.rowsPerPc / 16 * 15
def pageOf (a : Nat) : Nat := a / 2048

/-- Page-parity word k of a page lies at byte 64 P of the page-parity region (R288). -/
def State.parityWord (s : State) (page k : Nat) : Nat := (s.dataEnd + 64 * page) / 8 + k

def pcUNTRAINED : Nat := 0
def pcACTIVE : Nat := 1
def pcRELOCATING : Nat := 2
def pcRETIRED : Nat := 3

def State.pcSt (s : State) (p : Nat) : Nat := s.rf HBM_PC_STATUS_STATE p
def State.pcv (s : State) (p : Nat) : PcSt := tabGet .reset s.buf.pc p
def State.modPc (s : State) (p : Nat) (f : PcSt → PcSt) : State := { s with buf.pc := tabMod .reset s.buf.pc p f }

/-- The retired or relocating PC and how many of its rows have moved. -/
def State.movedRows (s : State) : Option (Nat × Nat) :=
  ((List.range 16).find? (fun x => s.pcSt x == pcRETIRED || s.pcSt x == pcRELOCATING)).map (fun x => (x, if s.pcSt x = pcRETIRED then s.rowsMoved else s.rf HBM_PC_RELOC_PTR x))

/-- The first row behind the rows that a lap reads on PC p. -/
def State.lapRows (s : State) (p : Nat) : Nat :=
  match s.movedRows with
  | none => s.rowsMoved
  | some (x, n) => if p = x then s.rowsMoved else s.rowsMoved + (n + 14 - (p + 15 - x) % 16) / 15

def State.poolCount (s : State) (p : Nat) : Nat := s.par (0xC040 + p) 3
/-- FREE: reserved and undrawn Pails count as allocated (R555). -/
def State.poolFree (s : State) (p : Nat) : Nat :=
  s.poolCount p - (s.pl p).alloc.length - ((s.pl p).reserved.map Prod.snd).sum

/-- Where row r of a retired PC moves (R305). -/
def moveTarget (x r : Nat) : Nat := (x + 1 + r % 15) % 16

/-- The PC that holds a page now: its own, or the target of a row that has moved (R288, R305, R306). -/
def State.pcOf (s : State) (page : Nat) : Nat :=
  let p := page % 16
  let r := page / 16
  if s.pcSt p = pcRETIRED ∨ (s.pcSt p = pcRELOCATING ∧ !(s.pcv p).held ∧ r < s.rf HBM_PC_RELOC_PTR p) then moveTarget p r else p

/-! ### The light code (R294) -/

/-- Column j of the code: data columns from the table, check columns the unit vectors. -/
def lightColumn (j : Nat) : Nat :=
  if j < 64 then
    (List.range 8).foldl (fun v c => v + (if bitOf (Config.hsiaoTable.getD (8 * c + j / 8) 0).toNat (j % 8) then 2 ^ c else 0)) 0
  else 2 ^ (j - 64)

def popCount (m : Nat) : Nat := (List.range 72).countP (fun j => bitOf m j)
def syndrome (m : Nat) : Nat := (List.range 72).foldl (fun v j => if bitOf m j then Nat.xor v (lightColumn j) else v) 0

/-- How the light code takes a word whose stored bits differ by mask m: clean (`some (false, m)`), corrected to a remaining mask, or
uncorrectable. One wrong bit is corrected and two are uncorrectable in every SEC-DED code; more follow the table of 0xC021 (log 23). -/
def lightDecode (m : Nat) : Option (Bool × Nat) :=
  let n := popCount m
  if n = 0 then some (false, 0)
  else if n = 1 then some (true, 0)
  else if n = 2 then none
  else
    let y := syndrome m
    if y = 0 then some (false, m)
    else if popCount y % 2 = 1 then
      (match (List.range 72).find? (fun j => lightColumn j == y) with | some j => some (true, Nat.xor m (2 ^ j)) | none => none)
    else none

def State.errOf (s : State) (w : Nat) : Nat := tabGet 0 s.buf.err w
def State.setErr (s : State) (w m : Nat) : State := { s with buf.err := if m = 0 then tabDel s.buf.err w else tabSet s.buf.err w m }

/-- Bit errors that the cells have taken on since the last access. -/
def State.upsets (s : State) (l : List (Nat × BitVec 72)) : State := l.foldl (fun t p => t.setErr p.1 (Nat.xor (t.errOf p.1) p.2.toNat)) s

/-- A correction of the light code at word w (R294, R304). -/
def State.lightFix (s : State) (w left : Nat) : State :=
  let p := s.pcOf (w / 256)
  let s : State := if s.rb ECC_CTRL_WB_EN then s.setErr w left else s
  (((s.cnt ECC_CE_COUNT).cnt HBM_PC_CE_COUNT p).modPc p (fun x => { x with ce := x.ce + 1 })).report (srcId DAT 16 32) p w

/-! ### Poisoned pages (R299) -/

def State.lostMask (s : State) (page : Nat) : Nat := tabGet 0 s.buf.poison page
def State.poisoned (s : State) (page : Nat) : Bool := (tabFind s.buf.poison page).isSome
def State.lost (s : State) (w : Nat) : Bool := bitOf (s.lostMask (w / 256)) (w % 256)

/-- Poisoned pages of PC p. -/
def State.poisonOf (s : State) (p : Nat) : Nat := s.buf.poison.countP (fun e => e.1 % 16 == p)

/-- The counts that show the poison table. -/
def State.poisonCounts (s : State) (p : Nat) : State :=
  (s.wf ECC_STATUS_POISON s.buf.poison.length).wf HBM_PC_STATUS_POISON (s.poisonOf p) p

/-- A cause of retirement is met on PC p (R304); the first stands until it is taken. -/
def State.pcDue (s : State) (p cause : Nat) : State := if (s.pcv p).due = 0 then s.modPc p (fun x => { x with due := cause }) else s

/-- Words are lost (R299): the page enters the table or its mask grows; ECC_LAST_UE names word `at_`; at 16 pages the PC is retired. -/
def State.poison (s : State) (page at_ : Nat) (ws : List Nat) : State :=
  let new := ws.filter (fun w => !bitOf (s.lostMask page) w)
  let mask := new.foldl (fun m w => setBit m w true) (s.lostMask page)
  let p := page % 16
  let s : State := { s with buf.poison := tabSet s.buf.poison page mask }
  let s : State := new.foldl (fun t w => ((t.cnt ECC_UE_COUNT).cnt HBM_PC_SC_UE p).report (srcId DAT 16 34) p (256 * page + w)) s
  let s : State := if new = [] then s else ((s.wf ECC_LAST_UE_PAGE page).wf ECC_LAST_UE_WORD at_).wb ECC_LAST_UE_VALID true
  let s : State := s.poisonCounts p
  if 16 ≤ s.poisonOf p then s.pcDue p 4 else s

/-- A mask bit is cleared by a full write; with the last one the parity is recomputed and the entry removed (R299). -/
def State.unpoison (s : State) (w : Nat) : State :=
  let page := w / 256
  if !s.lost w then s
  else
    let m := setBit (s.lostMask page) (w % 256) false
    let s : State := { s with buf.poison := if m = 0 then tabDel s.buf.poison page else tabSet s.buf.poison page m }
    let s : State := if m = 0 then (List.range 8).foldl (fun t k => t.setErr (t.parityWord page k) 0) s else s
    s.poisonCounts (page % 16)

/-! ### The strong code (R296, R297) -/

/-- The words of a page whose stored bits differ, with their masks. -/
def State.pageErrs (s : State) (page : Nat) : List (Nat × Nat) := s.buf.err.filter (fun e => e.1 / 256 == page && e.1 < s.dataEnd / 8)

/-- Errors of the page's parity words, unless the update buffer holds its parity (R298). -/
def State.parityErrs (s : State) (page : Nat) : List (Nat × Nat) :=
  if s.buf.parity.contains page then []
  else ((List.range 8).map (fun k => (k, s.errOf (s.parityWord page k)))).filter (fun e => e.2 != 0)

/-- Interleave of byte q of word w (R296): page byte b belongs to interleave b mod 16. -/
def interleaveOf (w q : Nat) : Nat := (8 * w + q) % 16

/-- Bytes of the low 64 bits of a mask that differ. -/
def wrongBytes (m : Nat) : List Nat := (List.range 8).filter (fun q => m / 256 ^ q % 256 != 0)

/-- The erased words of a page. -/
def State.erased (s : State) (page : Nat) : List Nat := ((s.pageErrs page).filter (fun e => (lightDecode e.2).isNone)).map (fun e => e.1 % 256)

/-- e + 2t of interleave i (R297). -/
def State.rsLoad (s : State) (page i : Nat) : Nat :=
  let e := (s.erased page).countP (fun w => w % 2 == i / 8)
  let pe := ((s.parityErrs page).filter (fun x => (lightDecode x.2).isNone)).countP (fun x => x.1 == i / 2)
  let t := ((s.pageErrs page).map (fun x => match lightDecode x.2 with
    | some (_, m) => (wrongBytes m).countP (fun q => interleaveOf (x.1 % 256) q == i)
    | none => 0)).sum
  let pt := ((s.parityErrs page).map (fun x => match lightDecode x.2 with
    | some (_, m) => (wrongBytes m).countP (fun q => (8 * x.1 + q) / 4 == i)
    | none => 0)).sum
  e + 4 * pe + 2 * (t + pt)

/-- A strong correction is counted (R297, R304). -/
def State.strongCount (s : State) (page : Nat) : State :=
  let p := s.pcOf page
  let now := s.coreTime.toNat
  let recent := ((s.pcv p).scAt.filter (fun t => decide (now - t < 3600000 * cyclesPerMs))) ++ [now]
  let s : State := ((s.cnt ECC_SC_COUNT).cnt HBM_PC_SC_SC p).modPc p (fun x => { x with scAt := recent })
  let s : State := if s.par 0xC020 2 < recent.length then s.pcDue p 3 else s
  s.report (srcId DAT 16 33) p page

/-- A failed parity word is recomputed and written back, as a strong correction (R297). -/
def State.parityFix (s : State) (page : Nat) : State :=
  if (s.parityErrs page).any (fun x => (lightDecode x.2).isNone) then
    ((List.range 8).foldl (fun t k => t.setErr (t.parityWord page k) 0) s).strongCount page
  else s

/-- The strong decode of a page (R297, R299): within e + 2t of 4 in every interleave it is corrected and written back; else its erased words, or all
256 where there were none, are lost. A poisoned page has no decode. `at_` is the word read. -/
def State.strongDecode (s : State) (page at_ : Nat) : State :=
  if s.poisoned page then s
  else if (List.range 16).all (fun i => decide (s.rsLoad page i ≤ 4)) then
    let bad := s.pageErrs page
    let fixes := bad.any (fun e => match lightDecode e.2 with | some (_, m) => m != 0 | none => true)
    let s : State := s.parityFix page
    if fixes then (bad.foldl (fun t e => t.setErr e.1 0) s).strongCount page else s
  else s.poison page at_ (if s.erased page = [] then List.range 256 else s.erased page)

/-! ### Reads and writes of the stack -/

/-- The units of u bytes that bytes [a, a + n) touch; the words among them. -/
def unitsOf (u a n : Nat) : List Nat := if n = 0 then [] else (List.range ((a + n - 1) / u - a / u + 1)).map (· + a / u)
def wordsOf (a n : Nat) : List Nat := unitsOf 8 a n

/-- Outside the data region a request is a bus error (R289). -/
def State.inData (s : State) (a n : Nat) : Bool := decide (a + n ≤ s.dataEnd)

/-- One word is read: the light code, then the strong decode of its page where `strong` allows it here; on a poisoned page the light code alone. The
flag says that the word cannot be delivered. -/
def State.readWord (s : State) (w : Nat) : State × Bool :=
  if s.lost w then (s, true)
  else match lightDecode (s.errOf w) with
    | some (false, _) => (s, false)
    | some (true, m) => (s.lightFix w m, false)
    | none =>
      if s.poisoned (w / 256) then (s.poison (w / 256) (w % 256) [w % 256], true)
      else
        let s : State := s.strongDecode (w / 256) (w % 256)
        (s, s.lost w)

/-- Bytes are read at once, strong decodes included: true is a bus error. -/
def State.memRead (s : State) (a n : Nat) : State × Bool :=
  if !s.inData a n then (s, true)
  else (wordsOf a n).foldl (fun t w => let r := t.1.readWord w; (r.1, t.2 || r.2)) (s, false)

/-- The flip mask is applied to the first word of a write that matches (R301). -/
def State.flipTake (s : State) (w : Nat) : State :=
  match s.buf.flip with
  | none => s
  | some (pc, page) =>
    if (s.pcOf (w / 256) == pc) && (match page with | some p => p == w / 256 | none => true) then
      let m := s.flipMask.toNat
      let s : State := (s.setErr w (Nat.xor (s.errOf w) m)).wb HBM_FLIP_CTRL_ARM false
      { s with buf.flip := none, flipMask := 0 }
    else s

/-- One word of a write: the bytes that fall in it (R295, R299). True is a bus error for the request. -/
def State.writeWord (s : State) (w a : Nat) (bytes : List Byte) (fullPage : Bool) : State × Bool :=
  let lo := max a (8 * w)
  let hi := min (a + bytes.length) (8 * w + 8)
  let part := (bytes.drop (lo - a)).take (hi - lo)
  if hi - lo = 8 then
    let s : State := (s.putBytes lo part).setErr w 0
    let s : State := if fullPage then s else s.unpoison w
    (s.flipTake w, false)
  else
    let r := s.readWord w
    if r.2 then (r.1, true) else (((r.1.putBytes lo part).setErr w 0).flipTake w, false)

/-- A page's parity is updated through the update buffer (R298). A page of the table keeps its parity until its entry is removed (R299). -/
def State.parityMerge (s : State) (page : Nat) : State :=
  if s.poisoned page ∨ s.buf.parity.contains page then s else { s with buf.parity := s.buf.parity ++ [page] }

/-- An entry of the update buffer is written. -/
def State.parityFlush (s : State) (page : Nat) : State := { s with buf.parity := s.buf.parity.erase page }

/-- A request writes bytes (R295, R298, R299): true is a bus error to the requester. A partial write that finds the update buffer full waits for its
oldest entry. -/
def State.memWrite (s : State) (a : Nat) (bytes : List Byte) : State × Bool :=
  if !s.inData a bytes.length then (s, true)
  else
    let s : State := (unitsOf 4096 a bytes.length).foldl (fun t k =>
      if a ≤ 4096 * k ∧ 4096 * k + 4096 ≤ a + bytes.length then t.clearBlock k else t) s
    let covers := fun (page : Nat) => decide (a ≤ 2048 * page ∧ 2048 * page + 2048 ≤ a + bytes.length)
    let pages := unitsOf 2048 a bytes.length
    let s : State := pages.foldl (fun t page =>
      if covers page then
        -- a full page: the entry removed, the parity from the new data alone
        let t : State := { t with buf.poison := tabDel t.buf.poison page, buf.parity := t.buf.parity.erase page }
        ((List.range 8).foldl (fun u k => u.setErr (u.parityWord page k) 0) t).poisonCounts (page % 16)
      else
        let t : State := if 512 ≤ t.buf.parity.length ∧ !t.buf.parity.contains page then t.parityFlush (t.buf.parity.headD 0) else t
        t.parityMerge page) s
    (wordsOf a bytes.length).foldl (fun t w =>
      let r := t.1.writeWord w a bytes (covers (w / 256))
      (r.1, t.2 || r.2)) (s, false)

/-! ### The metadata cache (R321 to R324) -/

def mcINIT : Nat := 0
def mcENABLED : Nat := 1
def mcDRAINING : Nat := 2
def mcINVALIDATING : Nat := 3
def mcDISABLED : Nat := 4

def State.mcState (s : State) : Nat := s.rf MCC_STATUS_STATE
def State.winBase (s : State) : Nat := s.par 0xC050 1
def State.winSize (s : State) : Nat := s.par 0xC050 2
/-- The bytes touch the window. -/
def State.inWindow (s : State) (a n : Nat) : Bool := decide (s.winBase < a + n ∧ a < s.winBase + s.winSize)
def lineOf (a : Nat) : Nat := a / 128
def setOf (line : Nat) : Nat := line % 4096

/-- The lock range of way k that holds a line. -/
def State.lockOf (s : State) (line : Nat) : Option Nat :=
  (List.range 4).find? (fun k => s.rbit MCC_STATUS_LOCKED k
    && decide (s.rf MCC_LOCKk_BASE_LINE 0 k ≤ line ∧ line < s.rf MCC_LOCKk_BASE_LINE 0 k + max 1 (s.rf MCC_LOCKk_SIZE_LINES 0 k)))

/-- The way that holds a line. -/
def State.mcWay (s : State) (line : Nat) : Option Nat := (List.range 16).find? (fun w => tabFind s.mcc.tags (16 * setOf line + w) == some line)

/-- Tree pseudo-LRU over 16 ways: bit i of the tree (1 to 15) points to the half to be replaced; an access turns the bits on its path away. -/
def plruTouch (v way : Nat) : Nat :=
  ((List.range 4).foldl (fun x i =>
    let right := way / 2 ^ (3 - i) % 2
    (setBit x.1 x.2 (right == 0), 2 * x.2 + right)) (v, 1)).1

/-- The ways from the one the tree names, in the order in which the tree would give them up. -/
def plruOrder : Nat → Nat → Nat → List Nat
  | 0, _, node => [node - 16]
  | d + 1, v, node =>
    if bitOf v node then plruOrder d v (2 * node + 1) ++ plruOrder d v (2 * node) else plruOrder d v (2 * node) ++ plruOrder d v (2 * node + 1)

/-- The way a missed line goes to (R323, R326): its lock way; else the lowest invalid way, then tree pseudo-LRU, over the unlocked ways, leaving out
those that a fill of the set already has. -/
def State.mcVictim (s : State) (line : Nat) : Option Nat :=
  match s.lockOf line with
  | some k => some k
  | none =>
    let taken := (s.mcc.fills.filter (fun f => setOf f.line == setOf line)).map (·.way)
    let ok := fun w => !(decide (w < 4) && s.rbit MCC_STATUS_LOCKED w) && !taken.contains w
    match (List.range 16).find? (fun w => ok w && (tabFind s.mcc.tags (16 * setOf line + w)).isNone) with
    | some w => some w
    | none => (plruOrder 4 (tabGet 0 s.mcc.plru (setOf line)) 1).find? ok

/-- The merging buffer's entry count is a status field (R329). -/
def State.mbCount (s : State) : State := s.wf MCC_STATUS_MB_USED s.mcc.merge.length

/-- Runs of consecutive offsets of an entry's bytes: each is one write to HBM. -/
def runsOf : Tab Nat → List (Nat × List Byte)
  | [] => []
  | (o, v) :: r =>
    match runsOf r with
    | (o', bs) :: q => if o' = o + 1 then (o, BitVec.ofNat 8 v :: bs) :: q else (o, [BitVec.ofNat 8 v]) :: (o', bs) :: q
    | [] => [(o, [BitVec.ofNat 8 v])]

/-- An entry is written to HBM: one 64-byte write, or narrow writes under R295 (R323). -/
def State.mergeWrite (s : State) (e : MergeEnt) : State :=
  let s : State := { s with mcc.merge := s.mcc.merge.erase e }
  ((runsOf e.bytes).foldl (fun t r => (t.memWrite (64 * e.granule + r.1) r.2).1) s).mbCount

/-- The oldest entry drains. -/
def State.mergeDrain (s : State) : State := match s.mcc.merge with | e :: _ => s.mergeWrite e | [] => s

/-- Every entry for a line is written ahead of the drain order (R323). -/
def State.mergeLine (s : State) (line : Nat) : State :=
  (s.mcc.merge.filter (fun e => e.granule / 2 == line)).foldl (fun t e => t.mergeWrite e) s

/-- A write's bytes enter the merging buffer; one that finds all 32 entries in use waits for the oldest to drain. -/
def State.mergePut (s : State) (a : Nat) (v : Byte) : State :=
  let g := a / 64
  match s.mcc.merge.find? (fun e => e.granule == g) with
  | some e => { s with mcc.merge := s.mcc.merge.map (fun x => if x = e then { x with bytes := tabSet x.bytes (a % 64) v.toNat } else x) }
  | none =>
    let s : State := if 32 ≤ s.mcc.merge.length then s.mergeDrain else s
    ({ s with mcc.merge := s.mcc.merge ++ [{ granule := g, bytes := [(a % 64, v.toNat)] }] } : State).mbCount

def State.mergePuts (s : State) : Nat → List Byte → State
  | _, [] => s
  | a, b :: bs => State.mergePuts (s.mergePut a b) (a + 1) bs

/-- A byte of the window: the merging buffer over memory, for a line is never stale (R322). -/
def State.cachedByte (s : State) (a : Nat) : Byte :=
  match s.mcc.merge.find? (fun e => e.granule == a / 64) with
  | some e => (match tabFind e.bytes (a % 64) with | some v => BitVec.ofNat 8 v | none => s.byteAt a)
  | none => s.byteAt a

def State.cachedBytes (s : State) (a n : Nat) : List Byte := (List.range n).map (fun i => s.cachedByte (a + i))

/-- The entries that an access finds in the merging buffer while the cache drains are written first, oldest first (R325). -/
def State.drainTo (s : State) (a n : Nat) : State :=
  (s.mcc.merge.filter (fun e => decide (64 * e.granule < a + n ∧ a < 64 * e.granule + 64))).foldl (fun t e => t.mergeWrite e) s

/-- A write by any requester (R322): through the cache inside the window, straight to memory outside it. -/
def State.bufWrite (s : State) (a : Nat) (bytes : List Byte) : State × Bool :=
  if s.inWindow a bytes.length && s.mcState == mcENABLED then
    (if s.inData a bytes.length then (s.mergePuts a bytes, false) else (s, true))
  else if s.inWindow a bytes.length then (s.drainTo a bytes.length).memWrite a bytes
  else s.memWrite a bytes

/-- A read by a requester whose transfers are whole steps of their own: the bytes, or none on a bus error. -/
def State.bufRead (s : State) (a n : Nat) : State × Option (List Byte) :=
  let s : State := if s.inWindow a n then s.drainTo a n else s
  let r := s.memRead a n
  (r.1, if r.2 then none else some (r.1.bytesAt a n))

/-- The whole merging buffer is written, oldest first. -/
def State.mergeAll (s : State) : State := s.mcc.merge.foldl (fun t e => t.mergeWrite e) s

/-- Every line is invalidated, and no fill under way is installed. -/
def State.cacheFlush (s : State) : State :=
  { s with mcc.tags := [], mcc.fills := s.mcc.fills.map (fun f => { f with installs := false }) }

/-- A change of the window: the cache drains and is invalidated (R321). -/
def State.cacheEmpty (s : State) : State := s.mergeAll.cacheFlush

end Sys2Proof.Machine
end

