-- ==== Sys2Proof/Machine/Commit.lean ====
section
/-! DEFINITION. Commit.lean: the configuration set, its CRC and the checks of a commit (18_register_access.md R421, R424;
19_object_dictionary.md R435; 09_control_engine.md R235 to R239). Staged values are read by `ent`, values in force by `par`. -/

namespace Sys2Proof.Machine
open Sys2Proof

/-! ### CRC-32C (04_zones_and_format.md R100) -/

/-- One bit of the reflected CRC-32C, polynomial 0x1EDC6F41 (reflected 0x82F63B78). -/
def crc32cBit (c : Nat) : Nat := if c % 2 = 1 then Nat.xor (c / 2) 0x82F63B78 else c / 2
def crc32cByte (c : Nat) (b : Byte) : Nat := (List.range 8).foldl (fun x _ => crc32cBit x) (Nat.xor c b.toNat)

/-- CRC-32C of bytes: initial value and final inversion all ones. -/
def crc32c (l : List Byte) : Nat := Nat.xor (l.foldl crc32cByte 0xFFFFFFFF) 0xFFFFFFFF

/-! ### The configuration set (R421) -/

/-- The row of any entry, reaction table included. -/
def odRowAny (ix sub : Nat) : Option OdRow := match odRow ix sub with | some r => some r | none => reactRow ix sub

/-- Keys of the table's rows below an index bound, ascending in index and subindex. Rows of one index range have the same first index. -/
def rowKeys (rows : List OdRow) : List (Nat × Nat) :=
  let bases := (rows.map (fun r => (r.ix, r.n))).eraseDups
  bases.flatMap (fun b => (List.range b.2).flatMap (fun k =>
    (rows.filter (fun r => r.ix == b.1)).flatMap (fun r => (List.range r.m).map (fun j => (b.1 + k, r.sub + j)))))

/-- Keys of the reaction table, ascending (R458). -/
def reactKeys : List (Nat × Nat) :=
  (List.range 640).flatMap (fun i => ((List.range 64).filter (fun n => (reactRow (0xA100 + i) (n + 1)).isSome)).map (fun n => (0xA100 + i, n + 1)))

/-- Every entry, ascending in index and subindex. -/
def allKeys : List (Nat × Nat) :=
  rowKeys (odRows.filter (fun r => decide (r.ix < 0xA100))) ++ reactKeys ++ rowKeys (odRows.filter (fun r => decide (0xA100 ≤ r.ix)))

/-- The entry is RWC. -/
def isRwc (ix sub : Nat) : Bool := match odRowAny ix sub with | some r => r.acc == .rwc | none => false

/-- The entry is RWS and checked at commit (R429). -/
def isChk (ix sub : Nat) : Bool := match odRowAny ix sub with | some r => r.chk | none => false

/-- The default of an entry, reaction table included. -/
def State.dfltAny (s : State) (ix sub : Nat) : OdVal :=
  match odRowAny ix sub with | some r => r.dflt s.part ix | none => .num 0

/-- Stored value of an entry, reaction table included. -/
def State.stagedVal (s : State) (ix sub : Nat) : OdVal := (tabFind s.od (odKey ix sub)).getD (s.dfltAny ix sub)

/-- The serialised value: byte strings as they are, numbers by their type (R421). -/
def State.cfgBytes (s : State) (ix sub : Nat) : List Byte :=
  match odRowAny ix sub with
  | some r => let v := (s.stagedVal ix sub).encode r.ty
              leBytes 2 ix ++ leBytes 1 sub ++ leBytes 4 v.length ++ v
  | none => []

/-- The instances of an RWC register field the part has: PG channels, TRUs of its actuators. -/
def State.rwcFlds (s : State) : List (Nat × List Fld) :=
  ((List.range 5).flatMap (fun c =>
      [(PG_JMAXc_JMAX.base + 16 * c, [PG_JMAXc_JMAX]), (PG_AMAXc_AMAX.base + 16 * c, [PG_AMAXc_AMAX]),
       (PG_VMAXc_VMAX.base + 16 * c, [PG_VMAXc_VMAX])]))
  ++ ((List.range s.nAct).flatMap (fun a =>
      [(TRU_CFG_KP_SHIFT.base + 0x1000 * a, [TRU_CFG_KP_SHIFT, TRU_CFG_KI_SHIFT, TRU_CFG_RELOCK_LIMIT, TRU_CFG_PH_MU, TRU_CFG_RRO_MU, TRU_CFG_QUAL_MIN]),
       (TRU_AMP_AMP_LO.base + 0x1000 * a, [TRU_AMP_AMP_LO, TRU_AMP_AMP_HI])]))

/-- The staged register word at a window offset: its RWC fields, every other bit 0 (R421). -/
def State.cfgWord (s : State) (off : Nat) (fs : List Fld) : Nat :=
  fs.foldl (fun v f => v + (tabGet f.reset s.regs (off * 32 + f.lo)) * 2 ^ f.lo) 0

/-- The byte stream of R421. -/
def State.cfgStream (s : State) : List Byte :=
  (s.rwcFlds.flatMap (fun p => leBytes 4 p.1 ++ leBytes 4 (s.cfgWord p.1 p.2)))
  ++ ((allKeys.filter (fun k => isRwc k.1 k.2)).flatMap (fun k => s.cfgBytes k.1 k.2))

/-- The CRC of the staged set. -/
def State.cfgCrc (s : State) : Nat := crc32c s.cfgStream

/-! ### Range checks (R435 RANGE, R235 PARAM) -/

/-- The value lies in its row's range. -/
def OdRow.inRange (r : OdRow) (v : Nat) : Bool :=
  match r.rng with
  | none => true
  | some (lo, hi) => if r.ty = .bf24 then bfLe lo v && bfLe v hi else decide (lo ≤ v) && decide (v ≤ hi)

/-- Data cylinders of zone z (07_write_and_stripes.md R174): its range less its spares, and in Z39 less the system area of 16 cylinders. -/
def State.zoneCyls (s : State) (z : Nat) : Nat :=
  s.ent (0x3100 + z) 2 + 1 - s.ent (0x3100 + z) 1 - s.ent (0x3100 + z) 3 - (if z = 39 then 16 else 0)

/-- Stripes of zone z in a geometry of D and P (R175): floor (22 Hz N / K) with Hz = floor (Cz / 2), K = (D + P) / 2. -/
def State.zoneStripes (s : State) (z : Nat) : Nat :=
  let k := (s.ent 0xC010 1 + s.ent 0xC010 2) / 2
  if k = 0 then 0 else 22 * (s.zoneCyls z / 2) * s.ent (0x3100 + z) 5 / k

/-- STRIPES_TOTAL of the staged format and geometry (R173, R175). -/
def State.stripesTotal (s : State) : Nat := ((List.range 40).map s.zoneStripes).sum

/-- Ranges that are no plain interval: alignments (R311, R368, R395, R192, R240), sets of values (R349, R155), bounds by another entry
(R261, R285, R311, R395), reserved bits and the reaction table (R458). -/
def State.odd (s : State) (ix sub v : Nat) : Bool :=
  if 0xC040 ≤ ix ∧ ix < 0xC050 then
    (if sub = 1 then decide (v % 2 ^ (s.ent ix 2) = 0) else if sub = 4 then decide (v ≤ s.ent ix 3) else true)
  else if ix = 0xC050 then (if sub = 1 ∨ sub = 2 then decide (v % 128 = 0) else true)
  else if ix = 0xC060 ∧ sub = 1 then decide (v = 128 ∨ v = 256 ∨ v = 512)
  else if (ix = 0x6020 ∨ ix = 0xF011) ∧ sub = 3 then decide (v = 1 ∨ v = 2 ∨ v = 4)
  else if ix = 0x7020 ∧ sub = 1 then decide (v % 2 ^ 21 = 0)
  else if ix = 0xC070 then
    (if sub = 1 then decide (v ≤ s.stripesTotal / 2)
     else if sub = 2 then (match s.part with | .a44 => true | .a22 => decide (v ≤ 17))
     else if sub = 3 then decide (v % 2 ^ 21 = 0) else true)
  else if (ix = 0xF010 ∨ ix = 0xF020) ∧ sub = 1 then decide (v % 4096 = 0)
  else if 0xA100 ≤ ix ∧ ix < 0xA380 then
    (match reactRow ix sub with
     | some _ => let src := reactSrc ix sub
                 decide (v % 8 ≤ 4) && decide (srcFloor src ≤ v % 8) && (!bitOf v 3 || decide (srcFloor src ≤ 1))
     | none => true)
  else true

/-- The first entry out of range, in ascending index and subindex (R434); PARAM entries are judged later. -/
def State.rangeFail (s : State) : Option (Nat × Nat) :=
  allKeys.find? (fun k => match odRowAny k.1 k.2 with
    | some r => (r.acc == .rwc || r.chk) && !r.par && r.ty.isNum
        && !(r.inRange (s.stagedVal k.1 k.2).toNum && s.odd k.1 k.2 (s.stagedVal k.1 k.2).toNum)
    | none => false)

/-! ### FORMAT, STRIPE, POOL, PLACEMENT (R435) -/

/-- The format rules of 04_zones_and_format.md R88 in their order; the entry that the first failing rule names (R434). -/
def State.formatFail (s : State) : Option (Nat × Nat) :=
  let z := fun i j => s.ent (0x3100 + i) j
  let first := fun (p : Nat → Bool) => (List.range 40).find? p
  let named : Nat → Option Nat → Option (Nat × Nat) := fun sub o => o.map (fun i => (0x3100 + i, sub))
  (named 1 (first (fun i => decide (z i 2 < z i 1))))
  <|> (named 2 ((List.range 39).find? (fun i => decide (z (i + 1) 1 ≠ z i 2 + 1))))
  <|> (if 1048575 < z 39 2 then some (0x3100 + 39, 2) else none)
  <|> (named 4 ((List.range 39).find? (fun i => decide (z i 4 < z (i + 1) 4))))
  <|> (named 4 (first (fun i => decide (6 * (z i 4 - 160) / 289 < z i 5))))
  <|> (named 4 (first (fun i => decide (z i 4 ≤ z i 6))))
  <|> (named 5 (first (fun i => decide (z i 5 ≤ z i 7))))
  <|> (named 3 (first (fun i => decide (z i 3 < 16))))

/-- STRIPE (R173): D + P odd, or above 32. -/
def State.stripeFail (s : State) : Bool :=
  let w := s.ent 0xC010 1 + s.ent 0xC010 2
  decide (w % 2 = 1) || decide (32 < w)

/-- A pool's geometry changes (R312). -/
def State.poolChanged (s : State) (p : Nat) : Bool :=
  (s.odGet (0xC040 + p) 1 != s.odInForce (0xC040 + p) 1) || (s.odGet (0xC040 + p) 2 != s.odInForce (0xC040 + p) 2)
    || (s.odGet (0xC040 + p) 3 != s.odInForce (0xC040 + p) 3)

/-- POOL (R312): the first pool whose geometry changes while it holds an allocated or reserved Pail. -/
def State.poolFail (s : State) : Option (Nat × Nat) :=
  ((List.range 16).find? (fun p => s.poolChanged p && s.poolHolds p)).map (fun p => (0xC040 + p, 1))

/-- A placed area: the entry that names it, its base and its length in bytes. -/
structure Area where
  ix : Nat
  sub : Nat
  base : Nat
  len : Nat

/-- The staged areas (R311: Pails and side area; R192 capture; R240 recording; R368 rings; R395 object index; R321 cache window is a view
of other areas and need only lie inside). -/
def State.areas (s : State) : List Area :=
  ((List.range 16).map (fun p =>
    let sz := 2 ^ (s.ent (0xC040 + p) 2)
    { ix := 0xC040 + p, sub := 1, base := s.ent (0xC040 + p) 1, len := s.ent (0xC040 + p) 3 * (sz + sz / 128) : Area }))
  ++ [{ ix := 0x7020, sub := 1, base := s.ent 0x7020 1, len := 296 * 2 ^ 20 : Area },
      { ix := 0xC070, sub := 3, base := s.ent 0xC070 3, len := if s.ent 0xC070 1 = 0 then 0 else 4096 * 2 ^ (s.ent 0xC070 2) : Area },
      { ix := 0xF010, sub := 1, base := s.ent 0xF010 1, len := if s.capConfigured then s.ent 0xF010 2 * 106496 else 0 : Area }]

def Area.overlaps (a b : Area) : Bool := decide (0 < a.len ∧ 0 < b.len ∧ a.base < b.base + b.len ∧ b.base < a.base + a.len)

/-- PLACEMENT (R435): an area outside the data region, or overlapping another; the entry of lowest index. -/
def State.placementFail (s : State) : Option (Nat × Nat) :=
  let l := s.areas
  (l.find? (fun a => decide (0 < a.len ∧ s.dataEnd < a.base + a.len) || l.any (fun b => (a.ix != b.ix) && a.overlaps b))).map
    (fun a => (a.ix, a.sub))
  <|> (if 0 < s.ent 0xC050 2 ∧ s.dataEnd < s.ent 0xC050 1 + s.ent 0xC050 2 then some (0xC050, 1) else none)

/-! ### Admission (09_control_engine.md R235 to R239) -/

/-- What an admission check reports (R239): CHECK, LANE, CELL, DEMAND, ALLOWANCE. -/
structure Admission where
  check : Nat
  lane : Nat
  cell : Nat
  demand : Nat
  allowance : Nat
  deriving DecidableEq, Repr

def admit0 (c : Nat) : Admission := { check := c, lane := 0xFF, cell := 0xFF, demand := 0, allowance := 0 }

def State.actSlots (s : State) (a : Nat) : Nat := s.ent 0x4000 (a + 1)

/-- The lane of cell n (R214). -/
def cellLane (n : Nat) : Nat :=
  if n < 32 then (n / 8 + n % 8) % 4 else if n < 36 then n - 32 else if n = 36 then 2 else if n = 37 then 3 else if n < 42 then 1 else n % 4

/-- Base cost in lane cycles (R214). -/
def cellBase (n : Nat) : Nat := if n < 32 then 64 else if n < 36 then 112 else if n = 41 then 72 else 64

/-- Deadline in lane cycles (R214). -/
def cellDeadline (n : Nat) : Nat := if n < 32 then 800 else if n < 36 then 1600 else if n < 38 then 4000 else 80000

/-- Period of cell n as a fraction of lane cycles (R214): wedge and frame periods scale with the target speed. -/
def State.cellPeriod (s : State) (n : Nat) : Nat × Nat :=
  let rpm := max (s.ent 0x5010 1) 1
  if n < 32 then (62500000, rpm) else if n < 36 then (31250000, rpm) else if n < 38 then (10000, 1) else (400000, 1)

/-- Cost of a live cell (R215): 12 for each extra biquad, 8 while it is recorded. -/
def State.cellCost (s : State) (n : Nat) : Nat :=
  cellBase n + 12 * s.ent (0x4100 + n) 2 + (if bitOf (s.ent 0xF020 3) n then 8 else 0)

/-- The live cell counts for admission: enabled, its slot enabled, its actuator present (R214), its channel not retired (R521). -/
def State.cellLive (s : State) (n : Nat) : Bool :=
  (s.ent (0x4100 + n) 1 == 1) && (if n < 32 then decide (n % 8 < s.actSlots (n / 8)) && s.hasAct (n / 8) && !(s.ch n).retired
    else if n < 36 then s.hasAct (n - 32) else decide (n < 42))

/-- Demand at cell i (R236). -/
def State.demandAt (s : State) (cells : List Nat) (i : Nat) : Nat :=
  16 + ((cells.filter (fun j => decide (cellDeadline j ≤ cellDeadline i))).map (fun j =>
    let p := s.cellPeriod j
    s.cellCost j * ((cellDeadline i - cellDeadline j) * p.2 / p.1 + 1))).sum

/-- Load of a lane in 1/65,536, rounded up, over live cells and LIVE shadow cells (R237). -/
def State.laneLoad (s : State) (lane : Nat) : Nat :=
  let live := (List.range 42).filter (fun n => s.cellLive n && cellLane n == lane)
  let shadows := ((List.range 16).map (· + 48)).filter (fun n => cellLane n == lane && s.ent (0x4100 + n) 1 == 1 && s.ent (0x4100 + n) 10 == 1)
  let num := (live.map (fun n => let p := s.cellPeriod n; s.cellCost n * 65536 * p.2 * 1000000 / p.1)).sum
    + (shadows.map (fun n => let src := s.ent (0x4100 + n) 9
                             let p := s.cellPeriod src
                             (cellBase src + 12 * s.ent (0x4100 + n) 2) * 65536 * p.2 * 1000000 / p.1)).sum
  (num + 999999) / 1000000

def dyOne : Dy := ⟨1, 0⟩

/-- A biquad is admitted only if |a2| < 1 and |a1| < 1 + a2 (R222). -/
def biquadOk (a1 a2 : Nat) : Bool :=
  dyLt (dyAbs (bfVal a2)) dyOne && dyLt (dyAbs (bfVal a1)) (dyAdd dyOne (bfVal a2))

/-- PARAM of a cell (R223, R222): AD in [0, 1), I_LO not above I_HI, U_LO below U_HI in each set,
U_LO of LC39 to LC41 at least 0 (11_spindle.md R276), biquads of the chain. -/
def State.cellParamOk (s : State) (n : Nat) : Bool :=
  let e := fun sub => s.ent (0x4100 + n) sub
  (List.range 4).all (fun g =>
    bfLe 0 (e (0x12 + 8 * g)) && dyLt (bfVal (e (0x12 + 8 * g))) dyOne && bfLe (e (0x14 + 8 * g)) (e (0x15 + 8 * g))
      && dyLt (bfVal (e (0x16 + 8 * g))) (bfVal (e (0x17 + 8 * g)))
      && (!([39, 40, 41].contains n) || bfLe 0 (e (0x16 + 8 * g))))
  && (List.range 10).all (fun b => biquadOk (e (0x33 + 5 * b)) (e (0x34 + 5 * b)))

/-- The cells that exist: LC0 to LC41 and LC48 to LC63 (R214). -/
def cellList : List Nat := List.range 42 ++ (List.range 16).map (· + 48)

/-- Checks of entries against one another: the thresholds in order below the bus rating (11_spindle.md R282), and the bounds of R285. -/
def State.paramCross (s : State) : Bool :=
  let sp := fun sub => bfVal (s.ent 0x5010 sub)
  let sv := fun sub => bfVal (s.ent 0x4010 sub)
  -- R282
  dyLt (sp 10) (sp 18) && dyLt (sp 18) (dySub (sp 7) (sp 8)) && dyLt (sp 7) (sp 9) && dyLt (dyMul (sp 9) (dyInt 10)) (dyInt s.busRating)
  -- R285: bounds by other entries
  && dyLe (sp 13) (sp 2) && dyLe (sp 17) (sp 21) && dyLe (sp 19) (sp 2) && dyLe (sp 2) (sp 21)
  && decide (s.ent 0x5010 16 ≤ s.ent 0x5010 15)
  -- R261
  && dyLe (sv 5) (sv 6) && dyLe (sv 14) (sv 11)

/-- The first entry of PARAM out of its plain range; cells first report their index (R239). -/
def State.paramFail (s : State) : Option Admission :=
  match allKeys.find? (fun k => match odRowAny k.1 k.2 with
      | some r => r.par && r.ty.isNum && !(r.inRange (s.stagedVal k.1 k.2).toNum)
      | none => false) with
  | some k => some { admit0 4 with cell := if 0x4100 ≤ k.1 ∧ k.1 < 0x4140 then k.1 - 0x4100 else 0xFF }
  | none =>
    match cellList.find? (fun n => !s.cellParamOk n) with
    | some n => some { admit0 4 with cell := n }
    | none => if s.paramCross then none else some (admit0 4)

/-- A BF24 value is positive. -/
def bfPos (w : Nat) : Bool := dyLt ⟨0, 0⟩ (bfVal w)

/-- The admission checks in the order of R235; the first failing one. -/
def State.admission (s : State) : Option Admission :=
  let rpm := s.ent 0x5010 1
  -- 0x01 SLOTS
  if (List.range 4).any (fun a => decide (8 < s.actSlots a) || (!s.hasAct a && decide (0 < s.actSlots a))) then some (admit0 1)
  -- 0x02 SYNTH (03_clock_surface.md R67)
  else if (List.range 40).any (fun z =>
      let b := s.ent (0x3100 + z) 4
      decide (b < 26042 ∨ 69444 < b ∨ 768 * b * rpm < 2400000000 * 60 ∨ 6400000000 * 60 < 768 * b * rpm)) then some (admit0 2)
  else
    -- 0x03 CHURN (R238); the required rate in Gbit/s
    let slots := (s.allChans.filter (fun n => decide (n % 8 < s.actSlots (n / 8)) && !(s.ch n).retired)).length
    let need := slots * (768 * s.ent 0x3100 4 * rpm) * s.ent 0x2010 1
    if s.lanesLeft * 64 * 1000000000 * 60 < need then
      some { admit0 3 with demand := need / 60000000000, allowance := s.lanesLeft * 64 }
    else match s.paramFail with
    | some a => some a
    | none =>
      -- 0x05 PROFILE
      if (List.range 5).any (fun c =>
          (if c = 4 then true else s.hasAct c && s.ent (0x4120 + c) 1 == 1)
            && !(bfPos (s.rf PG_JMAXc_JMAX 0 c) && bfPos (s.rf PG_AMAXc_AMAX 0 c) && bfPos (s.rf PG_VMAXc_VMAX 0 c))) then some (admit0 5)
      else
        let cells := fun lane => (List.range 42).filter (fun n => s.cellLive n && cellLane n == lane)
        -- 0x06 DEADLINE (R236)
        match (List.range 4).findSome? (fun lane => (cells lane).findSome? (fun i =>
            if cellDeadline i < s.demandAt (cells lane) i then
              some { check := 6, lane := lane, cell := i, demand := s.demandAt (cells lane) i, allowance := cellDeadline i : Admission }
            else none)) with
        | some a => some a
        | none =>
          -- 0x07 LOAD (R237): 0.90 is 58,982 / 65,536 rounded down
          match (List.range 4).find? (fun lane => decide (58982 < s.laneLoad lane)) with
          | some lane => some { check := 7, lane := lane, cell := 0xFF, demand := s.laneLoad lane, allowance := 58982 }
          | none =>
            -- 0x08 RECORD (R240)
            let rec1 : Area := { ix := 0xF020, sub := 1, base := s.ent 0xF020 1, len := if s.recConfigured then s.ent 0xF020 2 * 32 else 0 }
            if decide (0 < rec1.len ∧ s.dataEnd < rec1.base + rec1.len) || s.areas.any (fun a => rec1.overlaps a) then some (admit0 8) else none

/-! ### The checks together (R435), release and discard -/

/-- Step 4 of R424: REASON, FAIL_INDEX, FAIL_SUB, and the admission report if the checks reached it. -/
def State.commitChecks (s : State) : Option (Nat × Nat × Nat × Option Admission) :=
  match s.rangeFail with
  | some k => some (2, k.1, k.2, none)
  | none => match s.formatFail with
    | some k => some (3, k.1, k.2, none)
    | none => if s.stripeFail then some (4, 0xC010, 1, none) else match s.poolFail with
      | some k => some (5, k.1, k.2, none)
      | none => match s.placementFail with
        | some k => some (6, k.1, k.2, none)
        | none => match s.admission with
          | some a => some (0x10 + a.check, 0, 0, some a)
          | none => none

/-- The admission report of the last commit (R239). -/
def State.setAdmission (s : State) (a : Admission) : State :=
  ((((s.odPut 0x2011 1 (.num a.check)).odPut 0x2011 2 (.num a.lane)).odPut 0x2011 3 (.num a.cell)).odPut 0x2011 4 (.num (a.demand % 2 ^ 32))).odPut
    0x2011 5 (.num (a.allowance % 2 ^ 32))

/-- The key of an RWC register field. -/
def rwcKey (k : Nat) : Bool :=
  [PG_JMAXc_JMAX, PG_AMAXc_AMAX, PG_VMAXc_VMAX, TRU_CFG_KP_SHIFT, TRU_CFG_KI_SHIFT, TRU_CFG_RELOCK_LIMIT, TRU_CFG_PH_MU, TRU_CFG_RRO_MU,
   TRU_CFG_QUAL_MIN, TRU_AMP_AMP_LO, TRU_AMP_AMP_HI].any (fun f => (List.range f.ni).any (fun i => (List.range f.nj).any (fun j => f.key i j == k)))

/-- A change of UDP_PORT or of the static address ends every Zalene session (19_object_dictionary.md R438); a new address is detected anew. -/
def State.linkChange (s : State) : State :=
  let port := s.odGet 0x1010 8 != s.odInForce 0x1010 8
  let addr := s.odGet 0x1010 9 != s.odInForce 0x1010 9
  let s : State := if port || addr then { s with zl.sessions := [], zl.handshakes := [], asm := s.asm.filter (fun p => decide (p.2.src < 8)) } else s
  if addr then { s with zl.staticBad := false } else s

/-- What a commit changes of loop cell n (09_control_engine.md R224): a disabled cell stops after its running evaluation; a change of the coefficients
of the gain set in force is a gain-set change. -/
def State.cellChange (s : State) (n : Nat) : State :=
  let ix := 0x4100 + n
  let c := tabGet .reset s.cell n
  if c = .reset then s
  else if s.ent ix 1 = 0 then { s with cell := tabSet s.cell n { c with live := false, ready := none, pend := none } }
  else if (List.range 8).any (fun k => s.odGet ix (0x10 + 8 * c.gset + k) != s.odInForce ix (0x10 + 8 * c.gset + k)) then
    { s with cell := tabSet s.cell n { c with due := true } }
  else s

/-- The commit point (R424 step 5): every staged and PENDING value comes into force in one core cycle; pools that change start empty
(R312), and a change of the cache window drains and invalidates the cache first (R321). -/
def State.release (s : State) : State :=
  let win := (s.odGet 0xC050 1 != s.odInForce 0xC050 1) || (s.odGet 0xC050 2 != s.odInForce 0xC050 2)
  let s : State := cellList.foldl (fun t n => t.cellChange n) (if win then s.cacheEmpty else s).linkChange
  let s : State := (List.range 16).foldl (fun t p => if s.poolChanged p then t.poolRestart p (s.ent (0xC040 + p) 3) else t) s
  { s with odRun := s.od, regsRun := s.regs.filter (fun p => rwcKey p.1), odPending := [] }

/-- DISCARD (R422): every staged RWC value becomes the running one; PENDING values stay. -/
def State.discard (s : State) : State :=
  { s with
    od := (s.odRun.filter (fun p => isRwc (p.1 / 256) (p.1 % 256))).foldl (fun t p => tabSet t p.1 p.2)
            (s.od.filter (fun p => !isRwc (p.1 / 256) (p.1 % 256))),
    regs := s.regsRun.foldl (fun t p => tabSet t p.1 p.2) (s.regs.filter (fun p => !rwcKey p.1)) }

/-- The P values go to the store (R430, R423): the other copy takes the next generation. -/
def State.saveStore (s : State) : State :=
  { s with
    store := s.od.filter (fun p => match odRowAny (p.1 / 256) (p.1 % 256) with | some r => r.p | none => false),
    storeRegs := s.regsRun, storeValid := true, storeGen := s.storeGen + 1 }

end Sys2Proof.Machine
end

