-- ==== Sys2Proof/Machine/Operands.lean ====
section
/-! DEFINITION. Operands.lean: the forms in which operands cross the block's edges: check codes and the frames of the PA12 link. -/

namespace Sys2Proof.Machine
open Sys2Proof

/-! ### CRC-8 of the PA12 link (02_attached_modules.md R35) -/

/-- One bit of the CRC-8 of polynomial 0x07. -/
def crc8Bit (c : Nat) : Nat := if 128 ≤ c then Nat.xor (c * 2 % 256) 7 else c * 2

def crc8Byte (c : Nat) (b : Byte) : Nat := (List.range 8).foldl (fun x _ => crc8Bit x) (Nat.xor c b.toNat)

/-- CRC-8: polynomial x^8 + x^2 + x + 1, initial value 0xFF, no reflection, no final XOR. -/
def crc8 (l : List Byte) : Nat := l.foldl crc8Byte 0xFF

/-- The characters of a frame between start and end (R34): OPCODE, SEQ, LEN, payload, CRC-8. -/
def plBytes (op seq : Nat) (payload : List Byte) : List Byte :=
  let body := [BitVec.ofNat 8 op, BitVec.ofNat 8 (seq % 16), BitVec.ofNat 8 payload.length] ++ payload
  body ++ [BitVec.ofNat 8 (crc8 body)]

/-- A received frame's OPCODE, SEQ and payload; none where R35 discards it: a wrong CRC, a LEN over 32 or one that does not fit. -/
def plParse (l : List Byte) : Option (Nat × Nat × List Byte) :=
  let len := (l.getD 2 0).toNat
  if l.length = 4 + len ∧ len ≤ 32 ∧ crc8 (l.take (3 + len)) = (l.getD (3 + len) 0).toNat then
    some ((l.getD 0 0).toNat, (l.getD 1 0).toNat % 16, (l.drop 3).take len)
  else none

/-- Number of payload byte k. -/
def plArg (p : List Byte) (k : Nat) : Nat := (p.getD k 0).toNat

/-- A byte of a payload. -/
def plByte (n : Nat) : Byte := BitVec.ofNat 8 n

/-- A 16-bit two's-complement pattern of an integer, saturated at ±32,767. -/
def i16sat (x : Int) : Nat := utrunc 16 (max (-32767) (min 32767 x))

/-- n / d as a BF24 word, rounded to nearest. -/
def bfOfRat (n : Int) (d : Nat) : Nat :=
  let q := n * 2 ^ 64 / (d : Int)
  let exact := q * (d : Int) = n * 2 ^ 64
  bfOf ⟨if exact then 2 * q else 2 * q + 1, -65⟩

/-- A quotient n / d rounded to an integer where the spec states no rounding: itself where it is one, else one of its two neighbours, left open
(log 9). `k` names the formula. -/
def openRound (k : Nat) (n : Int) (d : Nat) : Int :=
  if d = 0 then sext 32 (Config.realFn k [n]).toNat
  else if n % (d : Int) = 0 then n / (d : Int)
  else n / (d : Int) + ((Config.realFn k [n, d]).toNat % 2 : Nat)

/-- A quotient rounded to the nearest integer; a tie goes to a side the spec leaves open (log 9). -/
def nearRound (k : Nat) (n : Int) (d : Nat) : Int :=
  let r := 2 * (n % (d : Int))
  if d = 0 then sext 32 (Config.realFn k [n]).toNat
  else if r < (d : Int) then n / (d : Int)
  else if (d : Int) < r then n / (d : Int) + 1
  else n / (d : Int) + ((Config.realFn k [n, d]).toNat % 2 : Nat)

/-- A dyadic number in units of 2^-k, rounded as `openRound`. -/
def dyUnits (f : Nat) (a : Dy) (k : Nat) : Int :=
  let e := a.e + (k : Int)
  if 0 ≤ e then a.m * 2 ^ e.toNat else openRound f a.m (2 ^ (-e).toNat)

end Sys2Proof.Machine
end

