-- ==== Sys2Proof/Machine/Geometry.lean ====
section
/-! DEFINITION. Geometry.lean: zones, tracks, slots and stripes (04_zones_and_format.md, 07_write_and_stripes.md R173 to R179), the check
codes of the surfaces, and the sync search. Entries are those in force. -/

namespace Sys2Proof.Machine
open Sys2Proof

/-! ### Check codes and Gray code (03_clock_surface.md R58, R59; 04_zones_and_format.md R93) -/

/-- A CRC over bits given most significant bit first: width w, polynomial `poly` without its top bit, initial value 0. -/
def crcBits (w poly : Nat) (bits : List Bool) : Nat :=
  bits.foldl (fun c b =>
    let fb := (bitOf c (w - 1)) != b
    let c' := c * 2 % 2 ^ w
    if fb then Nat.xor c' poly else c') 0

/-- Bits hi down to 0 of a number. -/
def msbBits (n v : Nat) : List Bool := (List.range n).map (fun i => bitOf v (n - 1 - i))

/-- CRC-6 of a frame index: x^6 + x + 1 over bits [9:0] (R58). -/
def crc6 (f : Nat) : Nat := crcBits 6 0x03 (msbBits 10 f)

/-- CRC-5 of a wedge ID: x^5 + x^2 + 1 over bits [8:0] (R93). -/
def crc5 (k : Nat) : Nat := crcBits 5 0x05 (msbBits 9 k)

/-- The reflected Gray code of a number of 22 bits (R59), and its inverse. -/
def grayOf (n : Nat) : Nat := Nat.xor n (n / 2)
def grayInv (g : Nat) : Nat := (List.range 22).foldl (fun a i => Nat.xor a (g / 2 ^ (i + 1))) g

/-! ### Zones (R84, R88) -/

/-- Zone entries in force: FIRST_CYL 1, LAST_CYL 2, SPARE_CYLS 3, BITS_PER_FRAME 4, SLOTS 5, WSK 6, SKEW 7. -/
def State.zn (s : State) (z sub : Nat) : Nat := s.par (0x3100 + z) sub

/-- The zone of a cylinder. -/
def State.zoneOf (s : State) (c : Nat) : Option Nat := (List.range 40).find? (fun z => decide (s.zn z 1 ≤ c) && decide (c ≤ s.zn z 2))

/-- Zone group of a zone (R116). -/
def groupOf (z : Nat) : Nat := z / 5

/-- Data cylinders of a zone in force (R174). -/
def State.cylsOf (s : State) (z : Nat) : Nat := s.zn z 2 + 1 - s.zn z 1 - s.zn z 3 - (if z = 39 then 16 else 0)

/-- The zone is in the reference of spare cylinders: first spare cylinder (R84). -/
def State.spareFirst (s : State) (z : Nat) : Nat := s.zn z 1 + s.cylsOf z

/-- SEED of R95. -/
def seedOf (cyl pslot : Nat) : Nat :=
  let v := cyl % 32 * 2048 + pslot
  if v = 0 then 0xFFFF else v

/-- One step of the scrambler register x^16 + x^14 + x^13 + x^11 + 1 (R95): bit 15 is the output. -/
def scramStep (r : Nat) : Nat :=
  r * 2 % 65536 + ((bitOf r 15 != bitOf r 13) != (bitOf r 12 != bitOf r 10)).toNat

/-- Scrambler output bits 0 to n - 1. -/
def scramBits (seed : Nat) : Nat → List Bool
  | 0 => []
  | n + 1 => bitOf seed 15 :: scramBits (scramStep seed) n

/-! ### The track (R89 to R91) -/

/-- Data bits of a wedge interval. -/
def dataPerWedge (b : Nat) : Nat := 2 * b - 320

/-- Track bit of data bit d (R90). -/
def trackBit (b d : Nat) : Nat := d + 320 * (d / dataPerWedge b + 1)

/-- The track bit lies in a wedge. -/
def inWedge (b t : Nat) : Bool := decide (t % (2 * b) < 320)

/-- Data bits before track bit t (R90). -/
def dataBefore (b t : Nat) : Nat := t / (2 * b) * dataPerWedge b + (t % (2 * b) - 320)

/-- Data bits of a track. -/
def dataPerTrack (b : Nat) : Nat := 384 * dataPerWedge b

/-- Field offset of the first bit after a wedge split of slot j, or none (R90). -/
def splitOf (b j : Nat) : Option Nat :=
  let d := dataPerWedge b
  let first := 36992 * j
  let next := (first / d + 1) * d
  if next < first + 36992 then some (next - first) else none

/-- FOC for a target slot j at track bit t: offset 0 is the next start of the field at least 256 data bits ahead (R200). -/
def focFor (b t j : Nat) : Int :=
  let now : Int := dataBefore b t
  let start : Int := 36992 * j
  let ahead := start - now
  let per : Int := dataPerTrack b
  if 256 ≤ ahead then -ahead else -(ahead + per)

/-! ### Finding the sync mark (R107, R108, R109) -/

/-- A precedes B in the ranking of R107: higher metric, then smaller |offset|, then the negative offset. -/
def syncBefore (a b : Int × Nat) : Bool :=
  if a.2 ≠ b.2 then decide (b.2 < a.2)
  else if a.1.natAbs ≠ b.1.natAbs then decide (a.1.natAbs < b.1.natAbs)
  else decide (a.1 ≤ b.1)

def syncInsert (a : Int × Nat) : List (Int × Nat) → List (Int × Nat)
  | [] => [a]
  | b :: r => if syncBefore a b then a :: b :: r else b :: syncInsert a r

/-- The 17 candidates, best first. -/
def syncRank (mets : List Nat) : List (Int × Nat) :=
  ((List.range 17).map (fun (i : Nat) => ((i : Int) - 8, mets.getD i 0))).foldr syncInsert []

/-- The primary position and whether the mark was missed (R108). -/
def syncPrimary (thr : Nat) (rank : List (Int × Nat)) : Int × Bool :=
  match rank with
  | a :: _ => if thr ≤ a.2 then (a.1, false) else (0, true)
  | [] => (0, true)

/-! ### Logical slots (R102) -/

/-- Physical slots of a track in rotation order that are not in the PDL, with their numbers. -/
def State.goodSlots (s : State) (sf c : Nat) (z : Nat) : List Nat :=
  let n := s.zn z 5
  if n = 0 then [] else
    ((List.range n).map (fun i => (c * s.zn z 7 % n + i) % n)).filter (fun p => !s.pdl.contains (sf, c, p))

/-- Where logical slot l of cylinder c on surface sf lies: cylinder and physical slot (R102). A slot pushed off the track and not in the GDL
has a spare slot recorded at manufacture, which the GDL list carries too (log 10); none where nothing is recorded. -/
def State.physOf (s : State) (sf c l : Nat) : Option (Nat × Nat) :=
  match s.gdl.find? (fun e => e.1 == sf && e.2.1 == c && e.2.2.1 == l) with
  | some e => some (e.2.2.2.1, e.2.2.2.2)
  | none =>
    match s.zoneOf c with
    | none => none
    | some z => ((s.goodSlots sf c z)[l]?).map (fun p => (c, p))

/-! ### Stripes (R173 to R177) -/

def State.geoD (s : State) : Nat := s.par 0xC010 1
def State.geoP (s : State) : Nat := s.par 0xC010 2
def State.geoW (s : State) : Nat := s.geoD + s.geoP
def State.geoK (s : State) : Nat := s.geoW / 2

/-- Stripes of zone z in force (R175). -/
def State.stripesIn (s : State) (z : Nat) : Nat := if s.geoK = 0 then 0 else 22 * (s.cylsOf z / 2) * s.zn z 5 / s.geoK

/-- Zone and number within it of a stripe (R175). -/
def State.stripeZone (s : State) (id : Nat) : Option (Nat × Nat) :=
  let rec go : Nat → Nat → Nat → Option (Nat × Nat)
    | 0, _, _ => none
    | k + 1, z, j => if j < s.stripesIn z then some (z, j) else go k (z + 1) (j - s.stripesIn z)
  go 40 0 id

/-- Where a member lies: half-stack part (0 A, 1 B), surface, cylinder, logical slot (R174 to R176). -/
structure Place where
  part : Nat
  surface : Nat
  cyl : Nat
  lslot : Nat
  deriving DecidableEq, Repr

/-- Member m of stripe `id` (R174 to R176). -/
def State.place (s : State) (id m : Nat) : Option Place :=
  match s.stripeZone id with
  | none => none
  | some (z, j) =>
    let k := s.geoK
    let n := s.zn z 5
    if k = 0 ∨ n = 0 then none
    else
      let t := (m + id) % s.geoW
      let part := t / k
      let y := j * k + t % k
      let p := y / (22 * n)
      let r := y % (22 * n)
      some { part := part, surface := r % 22 + 1, cyl := s.zn z 1 + p + (if part = 1 then s.cylsOf z / 2 else 0), lslot := r / 22 }

/-- Actuator and head of a surface on a pivot (R12, R177). -/
def headOfSurface (pivot sf : Nat) : Nat × Nat := if sf ≤ 11 then (2 * pivot, sf - 1) else (2 * pivot + 1, sf - 12)

/-- Surface of head h of actuator a (R12). -/
def surfaceOf (a h : Nat) : Nat := if a % 2 = 0 then h + 1 else h + 12

/-- The pivot that owns a part (R177): on the A22, pivot A owns both. -/
def State.pivotOf (s : State) (part : Nat) : Nat := match s.part with | .a44 => part | .a22 => 0

/-- STRIPE_ID and member position of data member index X (R179). -/
def State.stripeOf (s : State) (x : Nat) : Nat × Nat := if s.geoD = 0 then (0, 0) else (x / s.geoD, x % s.geoD)

/-! ### Sector metadata (R99, R100) -/

/-- TAG of R99: logical address, namespace, kind. -/
def tagOf (addr ns kind : Nat) : Nat := addr % 2 ^ 48 + ns % 16 * 2 ^ 48 + kind % 16 * 2 ^ 52

/-- Metadata bytes 0 to 27 (R99). -/
def metaBytes (tag seq stripe pos d p cyl sf pslot : Nat) : List Byte :=
  leBytes 8 tag ++ leBytes 4 seq ++ leBytes 4 stripe ++ leBytes 1 pos ++ leBytes 1 (d % 32 + p % 8 * 32)
    ++ leBytes 6 (cyl % 2 ^ 20 + sf % 32 * 2 ^ 20 + pslot % 2048 * 2 ^ 25) ++ leBytes 4 0

/-- The 32 metadata bytes, with their CRC (R100). -/
def metaBlock (user : List Byte) (m : List Byte) : List Byte := m ++ leBytes 4 (crc32c (user ++ m))

/-! ### Reed-Solomon over GF(2^8) (R178) -/

/-- Multiplication by x modulo 0x11D. -/
def gfX (a : Nat) : Nat := if 128 ≤ a then Nat.xor (a * 2 % 256) 0x1D else a * 2

/-- Product in GF(2^8). -/
def gfMul (a b : Nat) : Nat :=
  ((List.range 8).foldl (fun (acc : Nat × Nat) i => (if bitOf b i then Nat.xor acc.1 acc.2 else acc.1, gfX acc.2)) (0, a)).1

/-- α^n. -/
def gfExp (n : Nat) : Nat := (List.range n).foldl (fun a _ => gfX a) 1

/-- Generator polynomial with roots α^0 to α^(p-1), highest coefficient first (R178). -/
def rsGen (p : Nat) : List Nat :=
  (List.range p).foldl (fun g i =>
    let shifted := g ++ [0]
    let scaled := 0 :: g.map (gfMul (gfExp i))
    List.zipWith Nat.xor shifted scaled) [1]

/-- Parity bytes of one byte offset: the remainder of the data, highest coefficient first (R178). -/
def rsParity (p : Nat) (data : List Nat) : List Nat :=
  let g := (rsGen p).drop 1
  data.foldl (fun r d =>
    let f := Nat.xor d (r.headD 0)
    List.zipWith Nat.xor (r.drop 1 ++ [0]) (g.map (gfMul f))) (List.replicate p 0)

end Sys2Proof.Machine
end

