-- ==== Sys2Proof/Machine/ChannelOps.lean ====
section
/-! DEFINITION. ChannelOps.lean: what the commands of a channel share: zone and sets, write setup, adaptive values, sector commands and
their outcomes (04_zones_and_format.md to 08_galgil_sequencer.md). -/

namespace Sys2Proof.Machine
open Sys2Proof

/-- Actuator and slot of a channel (R30). -/
def chAct (n : Nat) : Nat := n / 8
def chSlot (n : Nat) : Nat := n % 8

/-- The channel's quad domain is on (R198). -/
def State.quadOn (s : State) (n : Nat) : Bool := s.dom (domQ (n / 4)) == 3

/-- Where an actuator stands: the cylinder of its last position sample (R82). -/
def State.actCyl (s : State) (a : Nat) : Nat := s.rf TRU_POS_CYL a

def State.tr (s : State) (a : Nat) : Tru := tabGet .reset s.tru a
def State.modTr (s : State) (a : Nat) (f : Tru → Tru) : State := { s with tru := tabMod .reset s.tru a f }

/-- A channel reports one of its sources (R553). -/
def State.chReport (s : State) (n num : Nat) (cell : Nat := 0) (detail : Nat := 0) : State := s.report (srcId MED n num) cell detail

/-! ### Elements of the front end (R113, R115, R117) -/

/-- The elements a snapshot and a calibration set hold: taps, gain, offset, asymmetry, CTF, phase, target, profiles. -/
def feElems : List (Fld × Nat) :=
  (List.range 45).map (fun t => (EQ_TAPr_t_TAP, t))
  ++ (List.range 3).flatMap (fun r => [(FE_GAIN_r_GAIN, r), (FE_OFS_r_OFS, r), (FE_OFS_r_MRA, r), (FE_CTF_r_FC, r), (FE_CTF_r_BOOST, r),
      (FE_PHASE_r_INT, r), (FE_PHASE_r_FRAC, r)])
  ++ [(EQ_TARGET_G1, 0), (EQ_TARGET_G2, 0), (EQ_TARGET_SCALE, 0)]
  ++ (List.range 189).map (fun t => (EQ_PROFp_r_t_TAP, t))

/-- The adaptive elements (R113), which a rollback restores (R126). -/
def feAdaptive : List (Fld × Nat) :=
  (List.range 45).map (fun t => (EQ_TAPr_t_TAP, t))
  ++ (List.range 3).flatMap (fun r => [(FE_GAIN_r_GAIN, r), (FE_OFS_r_OFS, r), (FE_OFS_r_MRA, r), (FE_PHASE_r_INT, r), (FE_PHASE_r_FRAC, r)])

/-- Values of elements, in their order. -/
def State.feSnap (s : State) (n : Nat) (l : List (Fld × Nat)) : List (Nat × Nat) :=
  (List.range l.length).filterMap (fun i => (l[i]?).map (fun e => (i, s.rf e.1 n e.2)))

/-- Puts values of elements back. -/
def State.fePut (s : State) (n : Nat) (l : List (Fld × Nat)) (vs : List (Nat × Nat)) : State :=
  vs.foldl (fun t v => match l[v.1]? with | some e => t.wf e.1 v.2 n e.2 | none => t) s

/-! ### Zone, sets and setup (R68, R116, R166, R168) -/

/-- R168: the next write gate waits for a new setup; cause SETUP is set. -/
def State.setupNeed (s : State) (n : Nat) : State := (s.modCh n (fun c => { c with setup := 0 })).inhibit inhSETUP true n

/-- SETUP clears when the three commands have returned OK and SLEW = 0 (R170). -/
def State.setupCheck (s : State) (n : Nat) : State :=
  if (s.ch n).setup = 7 ∧ s.rf SYN_NDIVk_SLEW (chAct n) (chSlot n) = 0 then s.inhibit inhSETUP false n else s

/-- The synthesiser of a slot slews to the B of a zone (R68). -/
def State.retune (s : State) (n z : Nat) : State :=
  (((s.wf SYN_NDIVk_BITS (s.zn z 4) (chAct n) (chSlot n)).wf SYN_NDIVk_ZONE z (chAct n) (chSlot n)).wf SYN_NDIVk_SLEW 1 (chAct n) (chSlot n)).inhibit
    inhSETUP true n

/-- Key of a head's working values (R116) and of its sets. -/
def setKey (a h g : Nat) : Nat := 8 * headIx a h + g

/-- The write set of a head and zone group (R166): its bytes in the order of the rule (log 35). -/
def State.writeSet (s : State) (a h g : Nat) : List Byte :=
  match s.odGet (0x6300 + headIx a h) (g + 1) with | .bytes b => b | .num _ => []

/-- Loads the sets of a head for a zone group (R116, R166): the values in use are kept as working values of the head and group left; the
working values of the new one are taken if the part has not been reset since, or its persistent set. -/
def State.loadSets (s : State) (n h g : Nat) : State :=
  let a := chAct n
  let c := s.ch n
  if c.sets = some (h, g) then s
  else
    let s : State := match c.sets with
      | some (h0, g0) => s.modCh n (fun x => { x with working := tabSet x.working (8 * h0 + g0) (s.feSnap n feElems) })
      | none => s
    let s : State := match tabFind (s.ch n).working (8 * h + g) with
      | some w => s.fePut n feElems w
      | none => match tabFind s.calSet (setKey a h g) with
        | some w => s.fePut n feElems w
        | none => s
    let w := s.writeSet a h g
    let s : State := if w = [] then s else
      ((s.wf WR_PRECOMP_PC1 (plArg w 2) n).wf WR_PRECOMP_PC2 (plArg w 3) n).wf WR_PRECOMP_PC_RUN (plArg w 4) n
    (s.modCh n (fun x => { x with sets := some (h, g) })).setupNeed n

/-- A head has been mapped to a slot, or unmapped (R36, R68, R116): the zone where the actuator stands decides B and the sets. -/
def State.headMapped (s : State) (n h : Nat) : State :=
  if h = 0xF then s.setupNeed n
  else
    match s.zoneOf (s.actCyl (chAct n)) with
    | some z =>
      let s : State := if s.rf SYN_NDIVk_ZONE (chAct n) (chSlot n) = z ∧ s.rf SYN_NDIVk_BITS (chAct n) (chSlot n) = s.zn z 4 then s else s.retune n z
      (s.loadSets n h (groupOf z)).setupNeed n
    | none => s.setupNeed n

/-- What an acknowledged command that ended OK does in the ODC7 (R116, R168): a new mapping; the setup commands of the head's slot. -/
def State.plDone (s : State) (a op : Nat) (pay : List Byte) : State :=
  let mark : Nat → Nat → State → State := fun h bit t =>
    match t.headChan a h with
    | some n => (t.modCh n (fun c => { c with setup := setBit c.setup bit true })).setupCheck n
    | none => t
  match op with
  | 0x01 => s.headMapped (8 * a + plArg pay 0) (plArg pay 1)
  | 0x02 =>
    let n := 8 * a + plArg pay 0
    if plArg pay 1 = 2 then (s.modCh n (fun c => { c with setup := setBit c.setup 2 true })).setupCheck n
    else s.modCh n (fun c => { c with setup := setBit c.setup 2 false })
  | 0x04 =>
    let h := plArg pay 0
    let s : State := match s.headChan a h with | some n => s.wf WR_HEAD_CURRENT (plArg pay 1 % 64) n | none => s
    mark h 0 s
  | 0x05 =>
    let h := plArg pay 0
    if plArg pay 1 = 1 then
      let s : State := match s.headChan a h with | some n => s.wf WR_HEAD_HEATER ((plArg pay 2 + 256 * plArg pay 3) % 1024) n | none => s
      mark h 1 s
    else s
  | _ => s

/-- R168: any other error status of a setup command ends the head's writing: retired for writing, C2 with the PA12 status. -/
def State.plFailed (s : State) (a op : Nat) (pay : List Byte) (status : Nat) : State :=
  let fail : Nat → Nat → State → State := fun n h t =>
    (t.modHd (headIx a h) (fun x => { x with retiredWrite := true })).chReport n 10 h status
  match op with
  | 0x02 => if plArg pay 1 = 2 then (let n := 8 * a + plArg pay 0; if s.slotHead n = 0xF then s else fail n (s.slotHead n) s) else s
  | 0x04 => match s.headChan a (plArg pay 0) with | some n => fail n (plArg pay 0) s | none => s
  | 0x05 => if plArg pay 1 = 1 then (match s.headChan a (plArg pay 0) with | some n => fail n (plArg pay 0) s | none => s) else s
  | _ => s

/-! ### Heater codes (R167) -/

/-- Touchdown power, efficiency, read and write back-off of head h from record 0x0005 of its flex (R50). -/
def State.flyRec (s : State) (a h : Nat) : Nat × Nat × Nat × Nat :=
  let role := match a with | 0 => 0 | 1 => 1 | 2 => 7 | _ => 8
  let v := (((tabGet .reset s.ident role).recs.find? (fun x => x.1 == 5)).map Prod.snd).getD []
  (leNat ((v.drop (6 * h)).take 2), leNat ((v.drop (6 * h + 2)).take 2), leNat ((v.drop (6 * h + 4)).take 1), leNat ((v.drop (6 * h + 5)).take 1))

/-- floor(TD - 100 * BO / EFF), limited to 0 to 1,023 (R167). -/
def heaterCode (td eff bo : Nat) : Nat := if eff = 0 then 0 else min 1023 ((td * eff - 100 * bo) / eff)

/-- Write heater code, with the write set's override of the back-off. -/
def State.writeHeater (s : State) (a h g : Nat) : Nat :=
  let r := s.flyRec a h
  let ov := plArg (s.writeSet a h g) 5
  heaterCode r.1 r.2.1 (if ov = 0 then r.2.2.2 else ov)

/-! ### Sector commands -/

/-- A sector goes back to the command scheduler, with its stamp (R78, R171, R393). -/
def State.requeue (s : State) (c : SecCmd) : State := if c.aborted then s else { s with sched := s.sched ++ [c] }

/-- The read and write gates' permission of the half-stack (TIMEBASE of R202): the TRU is LOCKED and the head's gates are not held closed under
R71 or the check of R77 step 7. -/
def State.timebase (s : State) (n : Nat) : Bool :=
  let h := s.slotHead n
  s.rf TRU_STATUS_STATE (chAct n) == 4 && (h == 0xF || ((s.hd (headIx (chAct n) h)).relearn == 0 && (s.hd (headIx (chAct n) h)).check == 0))

/-- The lowest FREE slot record (R119). -/
def State.freeSlot (s : State) (n : Nat) : Option Nat := (List.range 4).find? (fun k => (tabGet .free (s.ch n).sb k).st == 0)

def State.slotRec (s : State) (n k : Nat) : SlotRec := tabGet .free (s.ch n).sb k
def State.modSlot (s : State) (n k : Nat) (f : SlotRec → SlotRec) : State := s.modCh n (fun c => { c with sb := tabMod .free c.sb k f })

/-- The slot record becomes FREE (R119). -/
def State.freeRec (s : State) (n k : Nat) : State := s.modCh n (fun c => { c with sb := tabDel c.sb k })

/-- Outcome of R204 for TARGET as it stands: 0 READ, 1 WRITTEN, 2 CUT, 3 NOT_BEGUN, 4 ABORTED. -/
def ChanSt.outcome (c : ChanSt) (t : SecCmd) : Nat :=
  if t.aborted ∧ !c.begun then 4
  else if c.cut then 2
  else if c.begun ∧ (c.ended ∨ (if t.write then c.wgate else c.rgate)) then (if t.write then 1 else 0)
  else 3

/-- The channel reports the outcome of a released sector (R204): a member's write is kept, with the count of verified frames when it began, for the command that ends it, and the sector
goes back to the scheduler when it was cut or not begun. -/
def State.releaseTarget (s : State) (n : Nat) (out : Nat) : State :=
  let c := s.ch n
  match c.target with
  | none => s
  | some t =>
    let s : State := s.modCh n (fun x => { x with target := none, begun := false, cut := false, ended := false, barred := false,
                                                  encoded := x.encoded.filter (fun e => e != t) })
    let s : State := if out = 1 then s.modCh n (fun x => { x with reports := x.reports ++ [(t, c.mark)] }) else s
    if out = 2 ∨ out = 3 then s.requeue t else s

end Sys2Proof.Machine
end

