-- ==== Sys2Proof/Machine/Transfers.lean ====
section
/-! DEFINITION. Transfers.lean: what the host's commands share (13_pails_and_cache.md to 17_object_service.md): places of sectors in Pails,
the pools, the range hazard table, the map of sectors newer than the media, and the queueing of transfers on the DMA channels. -/

namespace Sys2Proof.Machine
open Sys2Proof

/-! ### Pails (R311, R316, R555). A sector's place is 1024 * (2^18 * pool + Pail) + sector of the Pail. -/

def pailId (p i : Nat) : Nat := p * 2 ^ 18 + i
def pailPool (id : Nat) : Nat := id / 2 ^ 18
def pailIx (id : Nat) : Nat := id % 2 ^ 18
def placeOf (id k : Nat) : Nat := id * 1024 + k
def placePail (sp : Nat) : Nat := sp / 1024

def State.poolBase (s : State) (p : Nat) : Nat := s.par (0xC040 + p) 1
def State.poolSize (s : State) (p : Nat) : Nat := 2 ^ s.par (0xC040 + p) 2
/-- Sectors of one Pail of a pool. -/
def State.poolSectors (s : State) (p : Nat) : Nat := s.poolSize p / 4096

/-- Buffer address of a sector's place (R311). -/
def State.placeAddr (s : State) (sp : Nat) : Nat :=
  let id := placePail sp
  s.poolBase (pailPool id) + pailIx id * s.poolSize (pailPool id) + 4096 * (sp % 1024)

/-- A sector's content arrives at its place (log 15); places above the pools lie in the object image. -/
def State.fillSector (s : State) (sp : Nat) : State := if sp < 2 ^ 40 then s.mediaBlock (s.placeAddr sp) else s

def State.modPool (s : State) (p : Nat) (f : Pool → Pool) : State := { s with pool := tabMod .reset s.pool p f }

/-- The lowest index not in a rising list, from `i` on (R316). -/
def lowestFree : List Nat → Nat → Nat
  | [], i => i
  | a :: r, i => if a = i then lowestFree r (i + 1) else i

/-- Inserts an index into a rising list. -/
def insertIx (a : Nat) : List Nat → List Nat
  | [] => [a]
  | b :: r => if a < b then a :: b :: r else if a = b then b :: r else b :: insertIx a r

/-- FREE has fallen: MIN_FREE follows; below LOW_WATER one C0 event (R319, pool source 4 of R553). -/
def State.poolFell (s : State) (p : Nat) : State :=
  let free := s.poolFree p
  let s : State := s.modPool p (fun q => { q with minFree := min q.minFree free })
  if free < s.par (0xC040 + p) 4 ∧ !(s.pl p).low then (s.modPool p (fun q => { q with low := true })).report (srcId DAT (18 + p) 4) 0 free else s

/-- FREE has risen: the next LOW_WATER event is armed once it has reached LOW_WATER again (R319). -/
def State.poolRose (s : State) (p : Nat) : State :=
  if s.par (0xC040 + p) 4 ≤ s.poolFree p then s.modPool p (fun q => { q with low := false }) else s

/-- The lowest free Pail of a pool is allocated (R316). -/
def State.pailTake (s : State) (p : Nat) : State × Nat :=
  let i := lowestFree (s.pl p).alloc 0
  ((s.modPool p (fun q => { q with alloc := insertIx i q.alloc })).poolFell p, pailId p i)

/-- A Pail's bit is cleared. -/
def State.pailDrop (s : State) (id : Nat) : State :=
  (s.modPool (pailPool id) (fun q => { q with alloc := q.alloc.erase (pailIx id) })).poolRose (pailPool id)

/-- An EMPTY answer is counted (R311, R320). -/
def State.countEmpty (s : State) (p : Nat) : State :=
  (s.modPool p (fun q => { q with emptyCount := q.emptyCount + 1 })).cnt PAIL_EMPTY_COUNT p

/-! ### Namespaces and data members (R357, R358, R179, R396) -/

def State.nsCount (s : State) : Nat := if s.par 0x7010 1 = 1 then s.nAct else 1
def State.stripesNow (s : State) : Nat := ((List.range 40).map s.stripesIn).sum
/-- SN: stripes below those of the object service. -/
def State.hostStripes (s : State) : Nat := s.stripesNow - s.par 0xC070 1
def State.nsStripes (s : State) : Nat := s.hostStripes / s.nsCount
/-- NSZE (R358). -/
def State.nsze (s : State) : Nat := s.nsStripes * s.geoD

/-- X of LBA `l` of namespace index k (R358). -/
def State.xOf (s : State) (k l : Nat) : Nat :=
  if s.geoD = 0 then 0 else (l / s.geoD * s.nsCount + k) * s.geoD + l % s.geoD

/-- Namespace index and LBA of a data member, or none outside the namespaces. -/
def State.lbaOf (s : State) (x : Nat) : Option (Nat × Nat) :=
  if s.geoD = 0 then none
  else
    let j := x / s.geoD
    if j < s.nsStripes * s.nsCount then some (j % s.nsCount, j / s.nsCount * s.geoD + x % s.geoD) else none

/-- First object data member (R396). -/
def State.objX0 (s : State) : Nat := s.hostStripes * s.geoD

/-- TAG of a data member (R99, R396): user data kind 0x0; object values 0x2, index 0x3, namespace 0xF. -/
def State.tagX (s : State) (x : Nat) : Nat :=
  match s.lbaOf x with
  | some (k, l) => tagOf l k 0
  | none => tagOf x 0xF (if x - s.objX0 < 2 ^ (s.par 0xC070 2 + 1) then 3 else 2)

/-! ### Commands and hazards (R385) -/

def CmdOp.writes : CmdOp → Bool
  | .write | .zeroes | .put | .delete => true
  | _ => false
def CmdOp.reads : CmdOp → Bool
  | .read | .compare | .get | .list => true
  | _ => false

def State.cmd (s : State) (stamp : Nat) : Option Cmd := s.cmds.find? (fun c => c.stamp == stamp)
def State.modCmd (s : State) (stamp : Nat) (f : Cmd → Cmd) : State :=
  { s with cmds := s.cmds.map (fun c => if c.stamp = stamp then f c else c) }

/-- Place of data member x in a command's range. -/
def State.cmdIx (s : State) (c : Cmd) (x : Nat) : Option Nat :=
  if c.xs ≠ [] then c.xs.findIdx? (fun y => y == x)
  else if c.op.writes || c.op.reads then
    match s.lbaOf x with
    | some (k, l) => if k = c.ns ∧ c.lba ≤ l ∧ l < c.lba + c.count then some (l - c.lba) else none
    | none => none
  else none

/-- Data member of a command's sector i. -/
def State.cmdX (s : State) (c : Cmd) (i : Nat) : Nat := if c.xs ≠ [] then c.xs.getD i 0 else s.xOf c.ns (c.lba + i)

/-- Every write with an earlier stamp that covers sector x has installed it (R385). -/
def State.writesIn (s : State) (stamp x : Nat) : Bool :=
  s.cmds.all (fun c => !(c.op.writes && decide (c.stamp < stamp)) || (match s.cmdIx c x with | some i => c.installed.contains i | none => true))

/-- A read has had its transfer of sector i land; an object read's bucket counts as read when its last record has landed (R402). -/
def Cmd.hasLanded (c : Cmd) (i : Nat) : Bool :=
  match c.obj with
  | none => c.landed.contains i
  | some o => o.checked && c.req.all (fun r => c.landed.contains r)

/-- Every read with an earlier stamp that covers sector x has had its transfer of it land (R385). -/
def State.readsIn (s : State) (stamp x : Nat) : Bool :=
  s.cmds.all (fun c => !(c.op.reads && decide (c.stamp < stamp)) || (match s.cmdIx c x with | some i => c.hasLanded i | none => true))

/-- Where a sector newer than the media lies: the place of its latest installed write (R385's buffer map). -/
def State.dirtyAt (s : State) (x : Nat) : Option Dirty :=
  (s.dirty.filter (fun d => d.x == x)).foldl (fun b d => match b with | some e => if e.stamp ≤ d.stamp then some d else some e | none => some d) none

/-- The next fetch stamp is assigned (R381 step 6). -/
def State.newStamp (s : State) : State × Nat := ({ s with fetchStamp := s.fetchStamp + 1 }, s.fetchStamp.toNat)

/-! ### Pails in use -/

/-- A Pail is held by a command, by a sector newer than the media, or by a stripe update's parity or a queued sector. -/
def State.pailUsed (s : State) (id : Nat) : Bool :=
  s.cmds.any (fun c => c.pails.any (fun p => p.2 == id)) || s.dirty.any (fun d => placePail d.pail == id)
  || s.updates.any (fun u => u.pos.any (fun p => placePail p.2 == id) || u.tmp.any (fun p => placePail p.2 == id))
  || s.rewrites.any (fun r => placePail r.1.pail == id) || s.verifies.any (fun r => placePail r.pail == id)
  || s.sched.any (fun c => c.write && placePail c.pail == id)

/-- Releases those Pails of a list that nothing holds any more. -/
def State.pailsFree (s : State) (ids : List Nat) : State :=
  ids.foldl (fun t id => if t.pailUsed id || !(t.pl (pailPool id)).alloc.contains (pailIx id) then t else t.pailDrop id) s

/-! ### Descriptors on the internal channels (R330, R331, R393) -/

def State.dc (s : State) (id : Nat) : DmaCh := tabGet .reset s.dch id
def State.modDc (s : State) (id : Nat) (f : DmaCh → DmaCh) : State := { s with dch := tabMod .reset s.dch id f }
def State.en (s : State) (e : Nat) : Engine := tabGet .reset s.eng e
def State.modEn (s : State) (e : Nat) (f : Engine → Engine) : State := { s with eng := tabMod .reset s.eng e f }

/-- CH_STATUS.STATE codes (R351). -/
def chDISABLED : Nat := 0
def chIDLE : Nat := 1
def chQUEUED : Nat := 2
def chRUNNING : Nat := 3
def chPARKED : Nat := 4
def chWAITCQ : Nat := 5
def chERROR : Nat := 6

/-- Sizes outside 4 to 12 read as the nearest limit (R351). -/
def lim412 (v : Nat) : Nat := max 4 (min 12 v)

/-- The engine that runs a channel: its own, or the successor of a retired one (R522). -/
def State.engOf (s : State) (id : Nat) : Nat :=
  let e := id / 16
  match (List.range 4).find? (fun k => !(s.en ((e + k) % 4)).retired) with | some k => (e + k) % 4 | none => e

/-- Index and LAP as one running number modulo twice the size. -/
def ptrOf (log2 ix lap : Nat) : Nat := ix % 2 ^ log2 + lap * 2 ^ log2
def ptrGap (log2 a b : Nat) : Nat := (2 ^ (log2 + 1) + a - b) % 2 ^ (log2 + 1)

def State.dqLog (s : State) (id : Nat) : Nat := lim412 (s.rf CH_CFG_DQ_LOG2 (id / 16) (id % 16))
def State.cqLog (s : State) (id : Nat) : Nat := lim412 (s.rf CH_CFG_CQ_LOG2 (id / 16) (id % 16))
def State.dqTail (s : State) (id : Nat) : Nat := ptrOf (s.dqLog id) (s.rf CH_DQ_TAIL_INDEX (id / 16) (id % 16)) (s.rf CH_DQ_TAIL_LAP (id / 16) (id % 16))
def State.dqHead (s : State) (id : Nat) : Nat := ptrOf (s.dqLog id) (s.rf CH_DQ_HEAD_INDEX (id / 16) (id % 16)) (s.rf CH_DQ_HEAD_LAP (id / 16) (id % 16))
def State.cqTail (s : State) (id : Nat) : Nat := ptrOf (s.cqLog id) (s.rf CH_CQ_TAIL_INDEX (id / 16) (id % 16)) (s.rf CH_CQ_TAIL_LAP (id / 16) (id % 16))
def State.cqHead (s : State) (id : Nat) : Nat := ptrOf (s.cqLog id) (s.rf CH_CQ_HEAD_INDEX (id / 16) (id % 16)) (s.rf CH_CQ_HEAD_LAP (id / 16) (id % 16))

/-- Sets an index register and its LAP from a running number. -/
def State.setPtr (s : State) (ix lap : Fld) (id log2 v : Nat) : State :=
  (s.wf ix (v % 2 ^ log2) (id / 16) (id % 16)).wf lap (v / 2 ^ log2 % 2) (id / 16) (id % 16)

/-- Descriptors in the queue (R331). -/
def State.dqCount (s : State) (id : Nat) : Nat := ptrGap (s.dqLog id) (s.dqTail id) (s.dqHead id)

/-- A completion slot is free: records unconsumed and slots reserved stay below the size (R335). -/
def State.slotFree (s : State) (id : Nat) : Bool :=
  let c := s.dc id
  decide (ptrGap (s.cqLog id) (s.cqTail id) (s.cqHead id) + c.issued.length + (if c.run.isSome then 1 else 0) < 2 ^ s.cqLog id)

def State.chEn (s : State) (id : Nat) : Bool := s.rb CH_CFG_EN (id / 16) (id % 16)
def State.chState (s : State) (id : Nat) : Nat := s.rf CH_STATUS_STATE (id / 16) (id % 16)
def State.setCh (s : State) (id st : Nat) : State := s.wf CH_STATUS_STATE st (id / 16) (id % 16)

/-- A channel enters its engine's run list at the tail if it qualifies (R335); without a completion slot it waits (WAIT_CQ). -/
def State.chEnter (s : State) (id : Nat) : State :=
  let e := s.engOf id
  if !s.chEn id || s.chState id == chERROR || (s.dc id).run.isSome || (s.en e).runs.contains id || (s.en e).running == some id then s
  else if s.dqCount id = 0 then s.setCh id chIDLE
  else if !s.slotFree id then s.setCh id chWAITCQ
  else (s.modEn e (fun x => { x with runs := x.runs ++ [id] })).setCh id chQUEUED

/-- The channel of a list with the fewest descriptors queued; on a tie the lower engine, then the lower channel (R393). -/
def State.pickDma (s : State) (cs : List Nat) : Option Nat :=
  ((cs.filter s.chEn).foldl (fun b id => match b with
    | some x => if s.dqCount id < s.dqCount x then some id else some x
    | none => some id) none)

def schedChans : List Nat := (List.range 4).flatMap (fun e => (List.range 12).map (fun c => 16 * e + c))
def objChans : List Nat := (List.range 4).flatMap (fun e => [16 * e + 12, 16 * e + 13])

/-- The command scheduler or the object service writes a descriptor and its doorbell (R330, R331). -/
def State.queueDesc (s : State) (cs : List Nat) (d : Desc) : State :=
  match s.pickDma cs with
  | none => s
  | some id =>
    let t := s.dqTail id
    let s : State := s.modDc id (fun c => { c with q := c.q ++ [{ d with index := t % 2 ^ s.dqLog id }] })
    (s.setPtr CH_DQ_TAIL_INDEX CH_DQ_TAIL_LAP id (s.dqLog id) (t + 1)).chEnter id

/-- The part of a host list from byte `o` on, `n` bytes long (R333). -/
def listPart : List (Nat × Nat) → Nat → Nat → List (Nat × Nat)
  | [], _, _ => []
  | (a, l) :: r, o, n =>
    if n = 0 then []
    else if l ≤ o then listPart r (o - l) n
    else
      let k := min (l - o) n
      (a + o, k) :: listPart r 0 (n - k)

/-- The transfer of sectors [i, i + k) of a command between its host list and a place in the buffer (R332, R393). -/
def State.moveDesc (c : Cmd) (toHost : Bool) (i k addr : Nat) : Desc :=
  { index := 0, opcode := if toHost then 0x05 else 0x04, flags := if c.priOk then 2 else 0, port := c.port, pasid := c.pasid, tag := c.stamp,
    addrA := 0, addrB := addr, length := 4096 * k, list := listPart c.hlist (4096 * i) (4096 * k), bad := false, lost := false,
    owner := some (c.stamp, (List.range k).map (· + i)) }

/-! ### Sources of the sectors a command reads (R385, R186) -/

/-- Where a data member is read: half-stack, head, cylinder, physical slot. R186: through the home head, or the other pivot's head on the
same surface where the home head cannot be used. -/
def State.headUsable (s : State) (write : Bool) (a h : Nat) : Bool :=
  let d := s.hd (headIx a h)
  s.hasAct a && !d.retired && !(if write then d.retiredWrite else d.retiredRead) && !d.uncal && s.act a != acRETIRED && !(s.plSt a).lost && !(s.tr a).retired

/-- A head that may read now: loaded, not in HOLDOVER, not withdrawn for calibration (R186). -/
def State.headReads (s : State) (a h : Nat) : Bool :=
  s.headUsable false a h && s.actLoaded a && s.rf TRU_STATUS_STATE a != 5
  && (match s.headChan a h with | some n => !(s.ch n).withdrawn | none => true)

/-- A head that may write now: usable and its channel not inhibited beyond WRITE_HOLD, which WRITE_HOLD_EXPIRY marks by retirement of the route. -/
def State.headWrites (s : State) (a h : Nat) : Bool :=
  s.headUsable true a h && s.act a != acUNLOADED && !(s.surfRetired.contains (surfaceOf a h))

/-- Home and other head of a member's place (R177, R184). -/
def State.homeHead (s : State) (p : Place) : Nat × Nat := headOfSurface (s.pivotOf p.part) p.surface
def State.otherHead (s : State) (p : Place) : Option (Nat × Nat) :=
  match s.part with | .a44 => some (headOfSurface (1 - s.pivotOf p.part) p.surface) | .a22 => none

/-- Reader of a member (R186): the home head, else the other pivot's; the home head where neither can read now, for the sector waits for it. -/
def State.readHead (s : State) (p : Place) : Nat × Nat :=
  let h := s.homeHead p
  if s.headReads h.1 h.2 then h
  else match s.otherHead p with
    | some o => if s.headReads o.1 o.2 then o else h
    | none => h

/-- A sector command for member m of a stripe; its Pail is a place, or a pool in draw mode. -/
def State.memberCmd (s : State) (write : Bool) (stripe m : Nat) (why : SecWhy) (stamp ix place : Nat) (pool : Option Nat) (at_ : Option (Nat × Nat)) :
    Option SecCmd :=
  match s.place stripe m with
  | none => none
  | some p =>
    match s.physOf p.surface p.cyl p.lslot with
    | none => none
    | some (c, k) =>
      let h := match at_ with | some h => h | none => s.readHead p
      some { write := write, act := h.1, head := h.2, cyl := c, pslot := k, pail := place, pool := pool, stamp := stamp, ix := ix,
             x := if why = .host then stripe * s.geoD + m else stripe, tag := if m < s.geoD then s.tagX (stripe * s.geoD + m) else tagOf stripe 0xF 1,
             why := why, aborted := false, verify := false }

/-- A hole stands at a member, or its content is SUSPECT (R183, R185). -/
def State.holeAt (s : State) (stripe m : Nat) : Option Hole := s.holes.find? (fun h => h.stripe == stripe && h.pos == m)

/-- The outcome met by a command (R363, R380). -/
def State.cmdFail (s : State) (stamp code detail : Nat) : State :=
  s.modCmd stamp (fun c => { c with fails := c.fails ++ [code], detail := if c.fails = [] then detail else c.detail })

/-- The place a command's sector i takes in its own Pails, if that Pail is drawn. -/
def State.cmdPlace (s : State) (c : Cmd) (i : Nat) : Option Nat :=
  let n := s.poolSectors c.pool
  if n = 0 then none else (tabFind c.pails (i / n)).map (fun id => placeOf id (i % n))

/-- A sector read of a command gets its source (R385): the Pail of the latest earlier write, or the media, where a SUSPECT member gives an
unrecovered read, a hole a rebuild, and any other member a sector command. -/
def State.readSource (s : State) (c : Cmd) (i : Nat) : State :=
  let x := s.cmdX c i
  let s : State := s.modCmd c.stamp (fun k => { k with req := insertIx i k.req })
  match s.dirtyAt x with
  | some d =>
    let s : State := s.modCmd c.stamp (fun k => { k with inPail := insertIx i k.inPail })
    if c.op = .compare then s.modCmd c.stamp (fun k => { k with landed := insertIx i k.landed, moved := insertIx i k.moved })
    else s.queueDesc schedChans (State.moveDesc c true i 1 (s.placeAddr d.pail))
  | none =>
    let sp := s.stripeOf x
    let pl := s.cmdPlace c i
    match s.memberCmd false sp.1 sp.2 .host c.stamp i (pl.getD 0) (if pl.isSome then none else some c.pool) none with
    | none => (s.cmdFail c.stamp 0x07 0).modCmd c.stamp (fun k => { k with landed := insertIx i k.landed })
    | some k =>
      match s.holeAt sp.1 sp.2 with
      | some h => if h.suspect then (s.cmdFail c.stamp 0x07 0).modCmd c.stamp (fun k => { k with landed := insertIx i k.landed })
          else { s with rebuilds := s.rebuilds ++ [{ stripe := sp.1, pos := sp.2, cmd := some k, started := false, reads := [], pool := 0 }] }
      | none => { s with sched := s.sched ++ [k] }

/-- Single-sector reads draw their Pails; a multi-sector read waits for the Pail of each sector (R314, R381 step 5). -/
def State.readMay (s : State) (c : Cmd) (i : Nat) : Bool :=
  !c.req.contains i && s.writesIn c.stamp (s.cmdX c i) && (c.count = 1 || c.op = .compare || (s.cmdPlace c i).isSome || (s.dirtyAt (s.cmdX c i)).isSome)

/-- Every read that its hazards let go on takes its sources. -/
def State.readAdvance (s : State) : State :=
  s.cmds.foldl (fun t c => if (c.op = .read ∨ c.op = .compare) ∧ c.aborted = false then
      (List.range c.count).foldl (fun u i => match u.cmd c.stamp with
        | some k => if u.readMay k i then u.readSource k i else u
        | none => u) t
    else t) s

/-- The transfer of a command's sector is issued; the last data transfer is issued once every sector's is (R391). -/
def Cmd.markMoved (c : Cmd) (is : List Nat) : Cmd :=
  let m := is.foldl (fun l i => insertIx i l) c.moved
  { c with moved := m, issued := c.issued || (if c.obj.isSome then c.req.all (fun r => m.contains r) else decide (m.length = c.count)) }

/-- The transfer of value sector i of an object command; the sectors of a value are numbered from 1,000 on beside those of its bucket. The last
sector of a value, or of a buffer shorter than it, moves only the bytes it has (R403). -/
def State.objDesc (s : State) (c : Cmd) (o : ObjCmd) (toHost : Bool) (i place : Nat) : Desc :=
  let buf := (c.hlist.map Prod.snd).sum
  let len := min 4096 (min o.valueLen buf - 4096 * i)
  { State.moveDesc c toHost i 1 (s.placeAddr place) with length := len, list := listPart c.hlist (4096 * i) len, owner := some (c.stamp, [1000 + i]) }

/-- A value sector read for an object command is in a Pail drawn for it: a GET moves it to the host, a compaction keeps it for the new place. -/
def State.objReady (s : State) (c : Cmd) (ix pail : Nat) : State :=
  match c.obj with
  | none => s
  | some o =>
    let s : State := s.modCmd c.stamp (fun k => { k with inPail := insertIx ix k.inPail, pails := tabSet k.pails (1000000 + ix) (placePail pail) })
    if c.op = .put then s else s.queueDesc objChans (s.objDesc c o true (ix - 1000) pail)

/-- A sector read for a host command is in its Pail (R149, R393): its transfer to the host is queued. -/
def State.hostReady (s : State) (q : SecCmd) : State :=
  match s.cmd q.stamp with
  | none => s.pailsFree [placePail q.pail]
  | some c =>
    if c.aborted || c.landed.contains q.ix then s
    else if c.obj.isSome then s.objReady c q.ix q.pail
    else
      let n := s.poolSectors c.pool
      let own := (s.cmdPlace c q.ix).isSome || n == 0
      let s : State := s.modCmd q.stamp (fun k => { k with inPail := insertIx q.ix k.inPail })
      let s : State := s.modCmd q.stamp (fun k => { k with pails := if own then k.pails else tabSet k.pails (1000000 + q.ix) (placePail q.pail) })
      if c.op = .compare then s.modCmd q.stamp (fun k => { k with landed := insertIx q.ix k.landed, moved := insertIx q.ix k.moved })
      else s.queueDesc schedChans (State.moveDesc c true q.ix 1 (s.placeAddr q.pail))

/-! ### Installing (R385) -/

/-- A write's sector becomes the one that later reads see. The older copy of the sector is dropped unless a stripe update is writing it. -/
def State.install (s : State) (c : Cmd) (i : Nat) : State :=
  let x := s.cmdX c i
  match s.cmdPlace c i with
  | none => s
  | some sp =>
    let old := s.dirty.filter (fun d => d.x == x && !d.busy)
    let first := old.foldl (fun b d => min b d.first) c.stamp
    let s : State := { s with dirty := (s.dirty.filter (fun d => !(d.x == x && !d.busy))) ++ [{ x := x, stamp := c.stamp, first := first, ns := c.ns, pail := sp, busy := false }] }
    ((s.modCmd c.stamp (fun k => { k with installed := insertIx i k.installed })).pailsFree (old.map (fun d => placePail d.pail))).readAdvance

/-- The conditions of R385 for installing sector i. -/
def State.mayInstall (s : State) (c : Cmd) (i : Nat) : Bool :=
  c.inPail.contains i && !c.installed.contains i && s.readsIn c.stamp (s.cmdX c i) && s.writesIn c.stamp (s.cmdX c i)

end Sys2Proof.Machine
end

