-- ==== Sys2Proof/Machine/Cache.lean ====
section
/-! DEFINITION. Cache.lean: the metadata cache's commands (13_pails_and_cache.md R321 to R329). -/

namespace Sys2Proof.Machine
open Sys2Proof

/-- The source of an error of the cache's arrays (R328). -/
def srcCache : Nat := srcId DAT 34 0

/-- A fill is issued for a missed line (R323): the entries of the merging buffer for the line and for the victim's line are written first, and the
victim is dropped. A second miss on a line shares its fill; with 16 fills outstanding, or no way left in the set, the read waits. -/
def State.mcMiss (s : State) (line : Nat) (who : Nat × Nat × Nat) : State :=
  if s.mcc.fills.any (fun f => f.line == line) then
    { s with mcc.fills := s.mcc.fills.map (fun f => if f.line = line then { f with who := f.who ++ [who] } else f) }
  else if 16 ≤ s.mcc.fills.length then { s with mcc.waits := s.mcc.waits ++ [who] }
  else match s.mcVictim line with
    | none => { s with mcc.waits := s.mcc.waits ++ [who] }
    | some w =>
      let k := 16 * setOf line + w
      let s : State := match tabFind s.mcc.tags k with | some old => s.mergeLine old | none => s
      let s : State := s.mergeLine line
      { s with mcc.tags := tabDel s.mcc.tags k, mcc.fills := s.mcc.fills ++ [{ line := line, way := w, who := [who], installs := true }] }

/-- A hit: the tree turns away from the way. -/
def State.mcTouch (s : State) (line w : Nat) : State :=
  { s with mcc.plru := tabSet s.mcc.plru (setOf line) (plruTouch (tabGet 0 s.mcc.plru (setOf line)) w) }

/-- The answer to a read: a bus error where its bytes include a lost word (R324). -/
def State.mcAnswer (s : State) (who : Nat × Nat × Nat) : State :=
  let req : BufReq := .cache (Fin.ofNat 4 who.1)
  let r := s.memRead who.2.1 who.2.2
  if r.2 then r.1.emit (.buffer req true []) else r.1.emit (.buffer req false (r.1.cachedBytes who.2.1 who.2.2))

/-- A read of the window while ENABLED (R322, R323): each line is looked up; it is answered at once if every line hits. -/
def State.mcRead (s : State) (who : Nat × Nat × Nat) (counts : Bool) : State :=
  let lines := unitsOf 128 who.2.1 who.2.2
  let missed := lines.filter (fun l => (s.mcWay l).isNone)
  let s : State := lines.foldl (fun t l => match t.mcWay l with
    | some w => (if counts then t.cnt MCC_HITS_COUNT else t).mcTouch l w
    | none => if counts then t.cnt MCC_MISSES_COUNT else t) s
  if missed = [] then
    -- the line holds the data: no access to memory
    s.emit (.buffer (.cache (Fin.ofNat 4 who.1)) false (s.cachedBytes who.2.1 who.2.2))
  else missed.foldl (fun t l => t.mcMiss l who) s

/-- An error of the arrays met by an access that hits (R328): the line, or for a tag error the whole set, is invalidated. -/
def State.mcError (s : State) (line : Nat) (f : McFault) : State :=
  match f with
  | .clean => s
  | .corrected => (s.cnt MCC_ERR_CORR).report srcCache
  | .data =>
    let s : State := match s.mcWay line with | some w => { s with mcc.tags := tabDel s.mcc.tags (16 * setOf line + w) } | none => s
    (s.cnt MCC_ERR_INVAL).report srcCache
  | .tag => (({ s with mcc.tags := s.mcc.tags.filter (fun p => p.1 / 16 != setOf line) } : State).cnt MCC_ERR_INVAL).report srcCache

/-- MC_ACCESS (R322): outside the window, and in every state but ENABLED, memory serves the access (R325). -/
def State.mcAccess (s : State) (port a : Nat) (wr : Option (List Byte)) (n : Nat) (f : McFault) : State :=
  let req : BufReq := .cache (Fin.ofNat 4 port)
  let served := fun (s : State) => match wr with
    | some bytes => let r := s.bufWrite a bytes
                    r.1.emit (.buffer req r.2 [])
    | none => let r := s.bufRead a n
              (match r.2 with | some bs => r.1.emit (.buffer req false bs) | none => r.1.emit (.buffer req true []))
  let len := match wr with | some bytes => bytes.length | none => n
  if !s.inWindow a len || s.mcState != mcENABLED then served s
  else
    let hit := (unitsOf 128 a len).find? (fun l => (s.mcWay l).isSome)
    let s : State := match hit with | some l => s.mcError l f | none => s
    if hit.isSome ∧ (f = .data ∨ f = .tag) then served s
    else match wr with
      | some bytes =>
        let s : State := (unitsOf 128 a len).foldl (fun t l => match t.mcWay l with
          | some w => (t.cnt MCC_HITS_COUNT).mcTouch l w
          | none => t.cnt MCC_MISSES_COUNT) s
        let r := s.bufWrite a bytes
        r.1.emit (.buffer req r.2 [])
      | none => s.mcRead (port, a, n) true

def execMcAccess (port : Fin 4) (addr : BitVec 34) (wr : Option (List Byte)) (len : Nat) (fault : McFault) (s : State) : Res :=
  .next (s.mcAccess port.val addr.toNat wr len fault)

/-- MC_FILL_DONE (R323, R324): the line is installed, unless a bus error came back or an invalidation has passed its set; those who waited for it and
for no other line are answered, and the reads that waited for a fill place try again. -/
def State.mcFillDone (s : State) (line : Nat) : State :=
  match s.mcc.fills.find? (fun f => f.line == line) with
  | none => s
  | some f =>
    let r := s.memRead (128 * line) 128
    let s : State := { r.1 with mcc.fills := r.1.mcc.fills.erase f }
    let s : State := if !r.2 && f.installs && s.mcState == mcENABLED then
        ({ s with mcc.tags := tabSet s.mcc.tags (16 * setOf line + f.way) line } : State).mcTouch line f.way else s
    let s : State := f.who.foldl (fun t w => if t.mcc.fills.any (fun g => g.who.contains w) then t else t.mcAnswer w) s
    let again := s.mcc.waits
    again.foldl (fun t w => t.mcRead w false) { s with mcc.waits := [] }

def execMcFillDone (line : BitVec 27) (s : State) : Res := .next (s.mcFillDone line.toNat)

/-- MERGE_DRAIN (R323): the oldest entry drains. -/
def execMergeDrain (s : State) : Res := .next s.mergeDrain

/-- MC_ENABLE_WRITE (R325). -/
def State.mcEnable (s : State) (v : Bool) : State :=
  let st := s.mcState
  let s : State := s.wb MCC_CTRL_EN v
  if v then
    (if st = mcDISABLED then s.wf MCC_STATUS_STATE mcENABLED
     else if st = mcDRAINING ∨ st = mcINVALIDATING then s.wb MCC_STATUS_EN_PEND true else s)
  else
    let s : State := s.wb MCC_STATUS_EN_PEND false
    if st = mcENABLED then s.wf MCC_STATUS_STATE mcDRAINING else s

def execMcEnableWrite (v : Bool) (s : State) : Res := .next (s.mcEnable v)

/-- MC_STATE_DONE (R325): INIT, the drain (once the buffer is empty) or the invalidation has ended. -/
def State.mcStateDone (s : State) : State :=
  let st := s.mcState
  if st = mcINIT then s.cacheFlush.wf MCC_STATUS_STATE (if s.rb MCC_CTRL_EN then mcENABLED else mcDISABLED)
  else if st = mcDRAINING then (if s.mcc.merge = [] then s.wf MCC_STATUS_STATE mcINVALIDATING else s)
  else if st = mcINVALIDATING then
    (s.cacheFlush.wf MCC_STATUS_STATE (if s.rb MCC_STATUS_EN_PEND then mcENABLED else mcDISABLED)).wb MCC_STATUS_EN_PEND false
  else s

def execMcStateDone (s : State) : Res := .next s.mcStateDone

/-- MC_INV_GO (R327): a GO while a walk runs has no effect. -/
def State.mcInvGo (s : State) : State :=
  if s.mcc.inv.isSome then s
  else ({ s with mcc.inv := some (s.rf MCC_INV_BASE_LINE, max 1 (s.rf MCC_INV_SIZE_LINES)) } : State).wb MCC_STATUS_INV_BUSY true

def execMcInvGo (s : State) : Res := .next s.mcInvGo

/-- MC_INV_DONE (R327): every line of the range is invalid, a locked one too, and no fill of the range issued before is installed (R324). -/
def State.mcInvDone (s : State) : State :=
  match s.mcc.inv with
  | none => s
  | some (b, n) =>
    let inR := fun (l : Nat) => decide (b ≤ l ∧ l < b + n)
    let s : State := { s with mcc.inv := none, mcc.tags := s.mcc.tags.filter (fun p => !inR p.2),
                              mcc.fills := s.mcc.fills.map (fun f => if inR f.line then { f with installs := false } else f) }
    (s.wb MCC_STATUS_INV_BUSY false).wb MCC_INV_CTRL_GO false

def execMcInvDone (s : State) : Res := .next s.mcInvDone

/-- MC_LOCK_EN (R326): a lock invalidates way k in every set; it is refused where its range leaves the window or holds more than 4,096 lines. -/
def State.mcLock (s : State) (k : Nat) (v : Bool) : State :=
  if v then
    let b := s.rf MCC_LOCKk_BASE_LINE 0 k
    let n := max 1 (s.rf MCC_LOCKk_SIZE_LINES 0 k)
    if s.rb MCC_LOCKk_BASE_EN 0 k then s
    else if 4096 < n ∨ 128 * b < s.winBase ∨ s.winBase + s.winSize < 128 * (b + n) then s.wbit MCC_STATUS_LOCK_ERR k true
    else
      let s : State := { s with mcc.tags := s.mcc.tags.filter (fun p => p.1 % 16 != k),
                                mcc.fills := s.mcc.fills.map (fun f => if f.way = k then { f with installs := false } else f) }
      (s.wb MCC_LOCKk_BASE_EN true 0 k).wbit MCC_STATUS_LOCKED k true
  else (s.wb MCC_LOCKk_BASE_EN false 0 k).wbit MCC_STATUS_LOCKED k false

def execMcLockEn (k : Fin 4) (v : Bool) (s : State) : Res := .next (s.mcLock k.val v)

/-- MC_PRELOAD (R326): every line of a locked range is filled into its way; a line that memory answers with a bus error stays out. -/
def State.mcPreload (s : State) (k : Nat) : State :=
  if !s.rbit MCC_STATUS_LOCKED k || s.mcState != mcENABLED then s
  else (List.range (max 1 (s.rf MCC_LOCKk_SIZE_LINES 0 k))).foldl (fun t i =>
    let line := t.rf MCC_LOCKk_BASE_LINE 0 k + i
    if (t.mcWay line).isSome then t
    else
      let r := (t.mergeLine line).memRead (128 * line) 128
      if r.2 then r.1 else { r.1 with mcc.tags := tabSet r.1.mcc.tags (16 * setOf line + k) line }) s

def execMcPreload (k : Fin 4) (s : State) : Res := .next (s.mcPreload k.val)

end Sys2Proof.Machine
end

