-- ==== Sys2Proof/Machine/Pa12.lean ====
section
/-! DEFINITION. Pa12.lean: the PA12 control link (02_attached_modules.md R31 to R46). -/

namespace Sys2Proof.Machine
open Sys2Proof

/-! ### Sending a frame -/

/-- Requester indexes of R41. -/
def plMCE : Nat := 0
def plSEQ : Nat := 1
def plCORE : Nat := 2

/-- MA_DRIVE is posted, every other command acknowledged (R36). -/
def PlFrame.posted (f : PlFrame) : Bool := f.op == 0x06

/-- Two-byte entries of an MA_DRIVE payload: slot, drive low byte, drive high byte (R5, R36). -/
def maEntries : List Byte → List (Nat × Nat)
  | k :: lo :: hi :: r => (k.toNat, lo.toNat + 256 * hi.toNat) :: maEntries r
  | _ => []

def maPayload (l : List (Nat × Nat)) : List Byte := l.flatMap (fun e => [plByte e.1, plByte e.2, plByte (e.2 / 256)])

/-- What a command does at the PA12 (R36), as the model keeps it. -/
def Pa12.apply (p : Pa12) (a op : Nat) (pl : List Byte) : Pa12 :=
  match op with
  | 0x01 => { p with head := tabSet p.head (8 * a + plArg pl 0) (plArg pl 1) }
  | 0x02 => { p with mode := tabSet p.mode (8 * a + plArg pl 0) (plArg pl 1) }
  | 0x03 => { p with bias := tabSet p.bias (3 * headIx a (plArg pl 0) + plArg pl 1) (plArg pl 2) }
  | 0x04 => { p with current := tabSet p.current (headIx a (plArg pl 0)) (plArg pl 1 % 64 + 64 * (plArg pl 2 % 16) + 1024 * (plArg pl 3 % 16)) }
  | 0x05 => { p with heater := tabSet p.heater (2 * headIx a (plArg pl 0) + plArg pl 1) ((plArg pl 2 + 256 * plArg pl 3) % 1024) }
  | 0x06 => { p with drive := (maEntries pl).foldl (fun t e => tabSet t (8 * a + e.1) e.2) p.drive }
  | 0x0E => { p with head := (List.range 8).foldl (fun t k => tabDel t (8 * a + k)) p.head,
                     mode := (List.range 8).foldl (fun t k => tabDel t (8 * a + k)) p.mode,
                     heater := (List.range 22).foldl (fun t k => tabDel t (22 * a + k)) p.heater }
  | _ => p

/-- Puts a frame on the downstream lane (R34). A new acknowledged command takes the next SEQ (R38); the SEQ field of a posted frame has no
stated value and is a free one (log 1). -/
def State.plPut (s : State) (a : Nat) (f : PlFrame) : State :=
  if f.posted then
    let q := (Config.freeValue s.free).toNat
    let s : State := s.useFree.emit (.pa12 a (plBytes f.op q f.payload))
    { (s.modPl a (fun p => { p with sending := true })) with pa := s.pa.apply a f.op f.payload }
  else
    let seq := (s.rf PL_STATUS_LAST_SEQ a + 1) % 16
    let s : State := (s.wf PL_STATUS_LAST_SEQ seq a).wb PL_STATUS_CMD_BUSY true a
    (s.emit (.pa12 a (plBytes f.op seq f.payload))).modPl a (fun p => { p with outst := some f, retries := 0, sending := true })

/-- The frame may go now: the lane is free and, for an acknowledged command, none is outstanding (R38, R41). -/
def State.plFree (s : State) (a : Nat) (f : PlFrame) : Bool := !(s.plSt a).sending && (f.posted || (s.plSt a).outst.isNone)

def State.plUp (s : State) (a : Nat) : Bool := s.rf PL_STATUS_STATE a == 2

/-- Adds a frame to those waiting; values of MA_DRIVE join the frame that waits already, the newest for a slot replacing (R39, R42). -/
def plQueue (q : List (Nat × PlFrame)) (i : Nat) (f : PlFrame) : List (Nat × PlFrame) :=
  if f.posted then
    match q.find? (fun e => e.2.posted) with
    | none => q ++ [(i, f)]
    | some e =>
      let old := maEntries e.2.payload
      let new := maEntries f.payload
      let m := (old.filter (fun x => !new.any (fun y => y.1 == x.1))) ++ new
      q.map (fun x => if x.2.posted then (x.1, { x.2 with payload := maPayload m }) else x)
  else q ++ [(i, f)]

/-- A requester hands a frame to the link controller: sent at once when the lane is free and nothing of a lower index waits, or queued.
A link that is not UP sends nothing (log 34). -/
def State.plSend (s : State) (a i : Nat) (f : PlFrame) : State :=
  if s.plUp a then
    if s.plFree a f && (s.plSt a).queue.all (fun e => decide (i < e.1)) then s.plPut a f
    else s.modPl a (fun p => { p with queue := plQueue p.queue i f })
  else s

/-- The first frame of the lowest index that may go (R41). -/
def plNext (ackFree : Bool) (q : List (Nat × PlFrame)) : Option (Nat × PlFrame) :=
  (List.range 3).findSome? (fun i => q.find? (fun e => e.1 == i && (e.2.posted || ackFree)))

/-- The lane becomes free, and the next frame is granted (R41). -/
def State.plArbitrate (s : State) (a : Nat) : State :=
  let s : State := s.modPl a (fun p => { p with sending := false })
  match plNext (s.plSt a).outst.isNone (s.plSt a).queue with
  | none => s
  | some e => (s.modPl a (fun p => { p with queue := p.queue.erase e })).plPut a e.2

/-! ### Commands of the link (R36) -/

/-- R31: the head is mapped to another slot, or a request that waits or is outstanding maps it there. -/
def State.headTaken (s : State) (a slot h : Nat) : Bool :=
  h != 0xF &&
  ((List.range 8).any (fun k => k != slot && s.slotHead (8 * a + k) == h)
   || ((s.plSt a).outst.toList ++ (s.plSt a).queue.map Prod.snd ++ (s.plSt a).held).any
        (fun f => f.op == 0x01 && plArg f.payload 0 != slot && plArg f.payload 1 == h))

/-- Either gate of the slot's channel is open (R33). -/
def State.gateOpen (s : State) (n : Nat) : Bool := (s.ch n).rgate || (s.ch n).wgate

/-- SLOT_MAP and SLOT_MODE: held while a gate of the slot is open (R33). -/
def State.plSlotCmd (s : State) (a slot : Nat) (f : PlFrame) : State :=
  if s.gateOpen (8 * a + slot) then s.modPl a (fun p => { p with held := p.held ++ [f] }) else s.plSend a plSEQ f

/-- A SLOT_MAP request; one that names a head mapped to another slot is refused without a frame (R31). -/
def State.slotMap (s : State) (a slot h : Nat) : State :=
  if s.headTaken a slot h then s.emit (.note "SLOT_MAP refused" a slot)
  else s.plSlotCmd a slot { op := 0x01, payload := [plByte slot, plByte h] }

def execSlotMap (a : Act) (slot : Fin 8) (head : BitVec 4) (s : State) : Res := .next (s.slotMap a.val slot.val head.toNat)

def State.slotMode (s : State) (a slot mode : Nat) : State := s.plSlotCmd a slot { op := 0x02, payload := [plByte slot, plByte mode] }

def execSlotMode (a : Act) (slot : Fin 8) (mode : BitVec 8) (s : State) : Res := .next (s.slotMode a.val slot.val mode.toNat)

def execReadBias (a : Act) (head reader code : BitVec 8) (s : State) : Res :=
  .next (s.plSend a.val plCORE { op := 0x03, payload := [head, reader, code] })

def State.writeCurrent (s : State) (a head code amp dur : Nat) : State :=
  s.plSend a plCORE { op := 0x04, payload := [plByte head, plByte (code % 64), plByte (amp % 16), plByte (dur % 16)] }

def execWriteCurrent (a : Act) (head : BitVec 8) (code : BitVec 6) (amp dur : BitVec 4) (s : State) : Res :=
  .next (s.writeCurrent a.val head.toNat code.toNat amp.toNat dur.toNat)

def State.heater (s : State) (a head sel power : Nat) : State :=
  s.plSend a plCORE { op := 0x05, payload := [plByte head, plByte sel, plByte power, plByte (power / 256)] }

def execHeater (a : Act) (head sel : BitVec 8) (power : BitVec 10) (s : State) : Res := .next (s.heater a.val head.toNat sel.toNat power.toNat)

/-- The MCE hands drive values of slots to the link (R39, R42): at most 8 entries, one a slot. -/
def State.maDrive (s : State) (a : Nat) (l : List (Nat × Nat)) : State :=
  if l = [] then s else s.plSend a plMCE { op := 0x06, payload := maPayload (l.take 8) }

def execMaDrive (a : Act) (entries : List (Fin 8 × BitVec 16)) (s : State) : Res :=
  .next (s.maDrive a.val (entries.map (fun e => (e.1.val, e.2.toNat))))

def execStatusRead (a : Act) (s : State) : Res := .next (s.plSend a.val plCORE { op := 0x07, payload := [] })

def execLinkReset (a : Act) (s : State) : Res := .next (s.plSend a.val plCORE { op := 0x0E, payload := [] })

def execEcho (a : Act) (bytes : BitVec 64) (s : State) : Res :=
  .next (s.plSend a.val plCORE { op := 0x0F, payload := leBytes 8 bytes.toNat })

/-- A held request is sent once the slot's gates are closed (R33). -/
def execHeldSlotRequestSend (a : Act) (s : State) : Res :=
  match (s.plSt a.val).held with
  | [] => .next s
  | f :: r =>
    if s.gateOpen (8 * a.val + plArg f.payload 0) then .next s
    else .next ((s.modPl a.val (fun p => { p with held := r })).plSend a.val plSEQ f)

def execPa12LinkArbitrate (a : Act) (s : State) : Res := .next (s.plArbitrate a.val)

/-! ### Link training and loss (R43, R45) -/

/-- Training starts at step 1 where its condition holds: MOT on and ENABLE = 1 (R43). Frames that wait are dropped with the link. -/
def State.plTrain (s : State) (a : Nat) : State :=
  if s.dom domMOT = 3 ∧ s.rb PL_CTRL_ENABLE a then
    ((s.wf PL_STATUS_STATE 1 a).wb PL_STATUS_CMD_BUSY false a).modPl a
      (fun p => { p with step := 2, tries := 0, outst := none, queue := [], held := [], sending := false })
  else s

/-- R45: a C2 of the half-stack; write pairs idle and gates closed, the actuator parks, retraining is tried after 1 s; the link stays out
of service until re-admission. -/
def State.linkLoss (s : State) (a : Nat) : State :=
  let s : State := ((s.shutHalf a).inhibits inhLINK true (chansOf a)).wb PL_STATUS_CMD_BUSY false a
  let s : State := s.modPl a (fun p => { p with step := 0, outst := none, queue := [], held := [], sending := false, retrain := true, lost := true })
  (s.startPark a).report (srcId MED (plBlock a) 35)

/-- PL_ENABLE (R43, R46): a write of ENABLE. Writing 0 takes the link down (log 34). -/
def State.plEnable (s : State) (a : Nat) (v : Bool) : State :=
  let old := s.rb PL_CTRL_ENABLE a
  let s : State := s.wb PL_CTRL_ENABLE v a
  if v then (if old then s else s.plTrain a)
  else ((s.wf PL_STATUS_STATE 0 a).wb PL_STATUS_CMD_BUSY false a).modPl a
      (fun p => { p with step := 0, outst := none, queue := [], held := [], sending := false, retrain := false })

def execPlEnable (a : Act) (v : Bool) (s : State) : Res := .next (s.plEnable a.val v)

def execPlRetrain (a : Act) (s : State) : Res := .next (s.plTrain a.val)

/-- LINK_TRAINING_STEP_DONE (R43): step 2 ends with symbol lock and the 16 ECHO commands go out; step 3 ends with all echoes correct and
LINK_RESET goes out with the next SEQ; step 4 ends with STATE = UP. The sixteen SEQ steps of the echoes leave LAST_SEQ where it was. -/
def State.plTrained (s : State) (a : Nat) : State :=
  if s.rf PL_STATUS_STATE a ≠ 1 then s
  else match (s.plSt a).step with
    | 2 => (s.emit (.note "ECHO x 16" a 0)).modPl a (fun p => { p with step := 3 })
    | 3 =>
      let seq := (s.rf PL_STATUS_LAST_SEQ a + 1) % 16
      ((s.wf PL_STATUS_LAST_SEQ seq a).emit (.pa12 a (plBytes 0x0E seq []))).modPl a (fun p => { p with step := 4 })
    | 4 =>
      let s : State := (s.wf PL_STATUS_STATE 2 a).modPl a (fun p => { p with step := 0, tries := 0, retrain := false })
      { s with pa := s.pa.apply a 0x0E [] }
    | _ => s

def execLinkTrainingStepDone (a : Act) (s : State) : Res := .next (s.plTrained a.val)

/-- LINK_TRAINING_TIMEOUT (R43 step 5, R45). -/
def execLinkTrainingTimeout (a : Act) (s : State) : Res :=
  if s.rf PL_STATUS_STATE a.val ≠ 1 then .next s
  else if (s.plSt a.val).tries < 3 then .next (s.modPl a.val (fun p => { p with step := 2, tries := p.tries + 1 }))
  else .next ((s.wf PL_STATUS_STATE 3 a.val).linkLoss a.val)

/-- LINK_RETRAIN_TIMER (R45): once every 1 s while the link is lost. -/
def execLinkRetrainTimer (a : Act) (s : State) : Res :=
  .next (if (s.plSt a.val).retrain && s.rf PL_STATUS_STATE a.val != 1 then s.plTrain a.val else s)

/-! ### Responses, retries and events (R35, R37 to R40) -/

/-- PA12_RESPONSE (R35, R37, R38). `bad` marks a code or disparity error, or more than 38 characters. A response that matches the
outstanding command ends it, and OK applies its effect (R36); one that matches nothing is not taken. -/
def State.plResponse (s : State) (a : Nat) (l : List Byte) (bad : Bool) : State :=
  match if bad then none else plParse l with
  | none => s.cnt PL_STATUS_CRC_ERR_UP a
  | some (op, seq, pay) =>
    match (s.plSt a).outst with
    | none => s
    | some f =>
      if op = f.op + 128 ∧ seq = s.rf PL_STATUS_LAST_SEQ a then
        let s : State := (s.wb PL_STATUS_CMD_BUSY false a).modPl a
          (fun p => { p with outst := none, lastResp := some (plArg pay 0, pay.drop 1) })
        let s : State := s.emit (.note "PA12 status" a (plArg pay 0))
        if plArg pay 0 = 0 then ({ s with pa := s.pa.apply a f.op f.payload } : State).plDone a f.op f.payload
        else s.plFailed a f.op f.payload (plArg pay 0)
      else s

def execPa12Response (a : Act) (frame : List Byte) (bad : Bool) (s : State) : Res := .next (s.plResponse a.val frame bad)

/-- PA12_RETRY_TIMEOUT (R38): a retry repeats SEQ and is a C1; retries exhausted is link loss, and the link is DOWN. -/
def execPa12RetryTimeout (a : Act) (s : State) : Res :=
  match (s.plSt a.val).outst with
  | none => .next s
  | some f =>
    if (s.plSt a.val).retries < s.rf PL_CTRL_MAX_RETRY a.val then
      .next (((s.emit (.pa12 a.val (plBytes f.op (s.rf PL_STATUS_LAST_SEQ a.val) f.payload))).modPl a.val
        (fun p => { p with retries := p.retries + 1, sending := true })).report (srcId MED (plBlock a.val) 32))
    else .next ((s.wf PL_STATUS_STATE 0 a.val).linkLoss a.val)

/-- DN_CRC (R35, R39, R40): counted, a C1; the third in one wedge period is a C2 of the servo, and OFFTRACK holds on every head of the
half-stack until 16 wedge periods have passed without another (R260). -/
def execDnCrc (a : Act) (s : State) : Res :=
  let s : State := ((s.cnt PL_STATUS_CRC_ERR_DN a.val).modPl a.val (fun p => { p with wedgeDn := p.wedgeDn + 1 })).report
    (srcId MED (plBlock a.val) 33)
  let s : State := if 0 < (s.sv a.val).quiet then s.modSv a.val (fun v => { v with quiet := 17 }) else s
  .next (if (s.plSt a.val).wedgeDn = 3 then
      (((s.modSv a.val (fun v => { v with quiet := 17 })).wf VC_HEADS_WRITE_RDY 0 a.val).inhibits inhOFFTRACK true (chansOf a.val)).report
        (srcId MOT (5 + a.val) 3) a.val
    else s)

/-- R40, R170: cause WRITER on the channel the head is mapped to; its write gate closes. -/
def State.shutWrite (s : State) (a h : Nat) : State :=
  match s.headChan a h with
  | some n => s.inhibit inhWRITER true n
  | none => s

/-- WRITER_OPEN (R40). -/
def State.writerFault (s : State) (a h num : Nat) : State :=
  ((s.shutWrite a h).modHd (headIx a h) (fun x => { x with retiredWrite := true })).report (srcId MED (plBlock a) num) h

def execWriterOpen (a : Act) (head : Fin 11) (s : State) : Res := .next (s.writerFault a.val head.val 36)

/-- WRITER_SHORT (R40): as WRITER_OPEN. -/
def execWriterShort (a : Act) (head : Fin 11) (s : State) : Res := .next (s.writerFault a.val head.val 37)

/-- HEATER_FAULT (R40): the head is retired. -/
def execHeaterFault (a : Act) (head : Fin 11) (s : State) : Res :=
  .next ((s.modHd (headIx a.val head.val) (fun x => { x with retired := true })).report (srcId MED (plBlock a.val) 38) head.val)

/-- OVERTEMP (R40): above 140 °C every write of the half-stack is inhibited, until below 130 °C. -/
def execOvertemp (a : Act) (celsius : Int) (s : State) : Res :=
  if 140 < celsius then
    if (s.plSt a.val).overtemp then .next s
    else .next (((s.modPl a.val (fun p => { p with overtemp := true })).inhibits inhOVERTEMP true (chansOf a.val)).report
      (srcId MED (plBlock a.val) 40) 0)
  else if celsius < 130 ∧ (s.plSt a.val).overtemp then
    .next ((s.modPl a.val (fun p => { p with overtemp := false })).inhibits inhOVERTEMP false (chansOf a.val))
  else .next s

end Sys2Proof.Machine
end

