-- ==== Sys2Proof/Machine/Sequencer.lean ====
section
/-! DEFINITION. Sequencer.lean: the Galgil channel sequencer (08_galgil_sequencer.md). A MICROWORD command is one channel cycle, 8 coded bits. -/

namespace Sys2Proof.Machine
open Sys2Proof

/-! ### The microword (R201) -/

/-- Bits hi down to lo of a word. -/
def fieldOf (w lo width : Nat) : Nat := w / 2 ^ lo % 2 ^ width

def mwNEXT (w : Nat) : Nat := fieldOf w 0 12
def mwBMODE (w : Nat) : Nat := fieldOf w 12 3
def mwCOND (w : Nat) : Nat := fieldOf w 16 4
def mwCPOL (w : Nat) : Bool := bitOf w 20
def mwCOND2 (w : Nat) : Nat := fieldOf w 21 4
def mwC2POL (w : Nat) : Bool := bitOf w 25
def mwTIMED (w : Nat) : Bool := bitOf w 26
def mwSWP (w : Nat) : Bool := bitOf w 27
def mwAT (w : Nat) : Int := sext 17 (fieldOf w 28 17)
def mwRG (w : Nat) : Nat := fieldOf w 48 2
def mwWG (w : Nat) : Nat := fieldOf w 50 2
def mwCMD (w : Nat) : Nat := fieldOf w 52 3
def mwEVCLR (w : Nat) : Nat := fieldOf w 56 5
def mwIMM (w : Nat) : Nat := fieldOf w 64 12
def mwTRACE (w : Nat) : Nat := fieldOf w 80 8
def mwTRACEEN (w : Nat) : Bool := bitOf w 88

/-- The active and the standby bank (R208). -/
def State.sqBank (s : State) (n : Nat) : Bank := if s.rb SQ_STATUS_ACTIVE n then (s.ch n).bank1 else (s.ch n).bank0
def State.sqStandby (s : State) (n : Nat) : Bank := if s.rb SQ_STATUS_ACTIVE n then (s.ch n).bank0 else (s.ch n).bank1

/-- The word at PC. -/
def State.sqWord (s : State) (n : Nat) : Nat := (s.sqBank n).words.getD (s.rf SQ_STATUS_PC n) 0

/-! ### Conditions (R202) -/

/-- RUN_NEXT (R200): same kind, head and track, next physical slot; the slot after the last is never next. -/
def ChanSt.runNext (c : ChanSt) : Bool :=
  match c.target, c.fifo with
  | some t, f :: _ => t.write == f.write && t.head == f.head && t.act == f.act && t.cyl == f.cyl && f.pslot == t.pslot + 1
  | _, _ => false

/-- HEAD_OK: TARGET's head is mapped to this slot in the right mode, R168 is complete for a write, its sets are loaded and SLEW = 0. -/
def State.headOk (s : State) (n : Nat) : Bool :=
  match (s.ch n).target with
  | none => false
  | some t =>
    s.slotHead n == t.head
    && (if t.write then tabGet 0 s.pa.mode n == 2 && (s.ch n).setup == 7 else tabGet 0 s.pa.mode n != 0)
    && (match (s.ch n).sets with | some (h, _) => h == t.head | none => false)
    && s.rf SYN_NDIVk_SLEW (chAct n) (chSlot n) == 0

def State.sqCond (s : State) (n k : Nat) (at_ : Int) : Bool :=
  let c := s.ch n
  match k with
  | 0 => true
  | 1 => decide (at_ ≤ c.foc)
  | 2 => s.rbit SQ_STATUS_EVT 0 n
  | 3 => s.rbit SQ_STATUS_EVT 1 n
  | 4 => s.rbit SQ_STATUS_EVT 2 n
  | 5 => s.rbit SQ_STATUS_EVT 3 n
  | 6 => s.rbit SQ_STATUS_EVT 4 n
  | 7 => c.fifo != []
  | 8 => match c.target with | some t => t.write | none => false
  | 9 => s.headOk n
  | 10 => c.runNext
  | 11 => match c.target with | some t => c.encoded.contains t | none => false
  | 12 => match c.target with | some t => (if t.write then c.wgate else c.rgate) && c.begun | none => false
  | 13 => s.rf WR_STATUS_INHIBIT n != 0
  | 14 => s.timebase n
  | _ => false

/-! ### Halts, restarts (R207, R212) -/

/-- Gates close and TARGET goes back to the scheduler. -/
def State.sqDrop (s : State) (n : Nat) : State :=
  let s : State := s.shutGates n
  let c := s.ch n
  s.releaseTarget n (match c.target with | some t => (if t.aborted then 4 else if c.cut then 2 else 3) | none => 3)

/-- Execution starts at ENTRY of the active bank, the stack cleared. -/
def State.sqEntry (s : State) (n : Nat) : State :=
  ((s.modCh n (fun c => { c with stack := [], waiting := false, atSwap := false })).wf SQ_STATUS_PC (s.sqBank n).entry n).wf SQ_STATUS_DEPTH 0 n

/-- R207: the sequencer halts; TARGET and FIFO requeued; the channel is retired, a C2. -/
def State.sqHalt (s : State) (n cause : Nat) : State :=
  let s : State := s.sqDrop n
  let fifo := (s.ch n).fifo
  let s : State := fifo.foldl (fun t c => t.requeue c) (s.modCh n (fun c => { c with fifo := [], retired := true }))
  ((s.wb SQ_STATUS_HALTED true n).wf SQ_ERR_HALT_CAUSE cause n).chReport n (if cause = 1 then 1 else 2) 0 (s.rf SQ_STATUS_PC n)

/-- CALL: pushes a return address and goes to NEXT; on a full stack the sequencer halts (R202). -/
def State.sqCall (s : State) (n imm next : Nat) : State :=
  if 4 ≤ (s.ch n).stack.length then s.sqHalt n 2
  else ((s.modCh n (fun c => { c with stack := imm :: c.stack })).wf SQ_STATUS_PC next n).wf SQ_STATUS_DEPTH ((s.ch n).stack.length + 1) n

/-- RET: goes to the popped address; with none the sequencer halts (R202). -/
def State.sqRet (s : State) (n : Nat) : State :=
  match (s.ch n).stack with
  | [] => s.sqHalt n 2
  | a :: r => ((s.modCh n (fun c => { c with stack := r })).wf SQ_STATUS_PC a n).wf SQ_STATUS_DEPTH r.length n

/-! ### Commands of the microword (R204) -/

/-- Coded bits per frame in force on the slot. -/
def State.slotB (s : State) (n : Nat) : Nat := s.rf SYN_NDIVk_BITS (chAct n) (chSlot n)

/-- FOC for TARGET's next field (R200). -/
def State.setFoc (s : State) (n : Nat) : State :=
  match (s.ch n).target with
  | some t => s.modCh n (fun c => { c with foc := focFor (s.slotB n) c.tbit t.pslot, begun := false, ended := false, cut := false, barred := false })
  | none => s

/-- POP: the FIFO head to TARGET, FOC set; with an empty FIFO TARGET stays empty (R200). -/
def State.sqPop (s : State) (n : Nat) : State :=
  match (s.ch n).fifo with
  | [] => s.modCh n (fun c => { c with target := none })
  | f :: r => (s.modCh n (fun c => { c with target := some f, fifo := r })).setFoc n

/-- DONE: releases TARGET; the channel reports its outcome. -/
def State.sqDone (s : State) (n : Nat) : State :=
  match (s.ch n).target with
  | some t => s.releaseTarget n ((s.ch n).outcome t)
  | none => s

/-- ADVANCE: DONE, then the next run sector into TARGET with the gate left open; with RUN_NEXT = 0 it is DONE (R204). -/
def State.sqAdvance (s : State) (n : Nat) : State :=
  if (s.ch n).runNext then
    let s : State := s.sqDone n
    match (s.ch n).fifo with
    | f :: r => s.modCh n (fun c => { c with target := some f, fifo := r, foc := c.foc - 36992, begun := false, ended := false, cut := false, barred := false })
    | [] => s
  else s.sqDone n

/-- REQUEUE: releases TARGET with NOT_BEGUN, or ABORTED if its command is aborted. -/
def State.sqRequeue (s : State) (n : Nat) : State :=
  match (s.ch n).target with
  | some t => s.releaseTarget n (if t.aborted then 4 else 3)
  | none => s

/-- MAP: SLOT_MAP and SLOT_MODE for TARGET's head (R33, R41). The mode is READ for a read and WRITE_ARM for a write. -/
def State.sqMap (s : State) (n : Nat) : State :=
  match (s.ch n).target with
  | some t =>
    let s : State := if s.slotHead n = t.head then s else s.slotMap (chAct n) (chSlot n) t.head
    s.slotMode (chAct n) (chSlot n) (if t.write then 2 else 1)
  | none => s

def State.sqCmd (s : State) (n k : Nat) : State :=
  match k with
  | 1 => s.sqPop n
  | 2 => s.sqAdvance n
  | 3 => s.sqDone n
  | 4 => s.sqRequeue n
  | 5 => s.sqMap n
  | 6 => s.setFoc n
  | _ => s

def execPop (n : Chan) (s : State) : Res := .next (s.sqPop n.val)
def execAdvance (n : Chan) (s : State) : Res := .next (s.sqAdvance n.val)
def execDone (n : Chan) (s : State) : Res := .next (s.sqDone n.val)
def execRequeue (n : Chan) (s : State) : Res := .next (s.sqRequeue n.val)
def execMap (n : Chan) (s : State) : Res := .next (s.sqMap n.val)
def execRetarget (n : Chan) (s : State) : Res := .next (s.setFoc n.val)
def execCall (n : Chan) (imm next : BitVec 12) (s : State) : Res := .next (s.sqCall n.val imm.toNat next.toNat)
def execRet (n : Chan) (s : State) : Res := .next (s.sqRet n.val)

/-! ### Gates (R203) -/

/-- Opens that are not taken (R203, R170, R120, R164, R68; R251: no field begins until the head is ready). -/
def State.mayRead (s : State) (n : Nat) : Bool :=
  s.timebase n && s.rf SYN_NDIVk_SLEW (chAct n) (chSlot n) == 0 && (s.freeSlot n).isSome && s.rbit VC_HEADS_READ_RDY (s.slotHead n) (chAct n)
    && (match (s.ch n).target with | some t => !t.aborted | none => false) && s.rb FE_CTRL_EN n

def State.mayWrite (s : State) (n : Nat) : Bool :=
  s.timebase n && s.rf WR_STATUS_INHIBIT n == 0 && !(s.ch n).barred && s.rb WR_CTRL_EN n
    && (match (s.ch n).target with | some t => !t.aborted | none => false)

/-- The gate operations of a word; a late word's opens are not taken. A write opened at its field's offset 0 begins the field (R202 GATE_OK). -/
def State.sqGates (s : State) (n w : Nat) (late : Bool) (bit : Int) : State :=
  let s : State := match mwRG w with
    | 1 => if !late && s.mayRead n then s.modCh n (fun c => { c with rgate := true }) else s
    | 2 => s.modCh n (fun c => { c with rgate := false, ended := c.ended || (c.begun && decide (37000 ≤ bit)) })
    | _ => s
  match mwWG w with
  | 1 =>
    let tw := match (s.ch n).target with | some t => t.write | none => false
    if !late && s.mayWrite n then s.modCh n (fun c => { c with wgate := true, begun := c.begun || (tw && bit == 0), mark := if tw && bit == 0 then (s.tr (chAct n)).verified else c.mark }) else s
  | 2 => s.modCh n (fun c => { c with wgate := false, ended := c.ended || (c.begun && decide (36992 ≤ bit)) })
  | _ => s

/-! ### The field as bits pass (R199, R164, R204) -/

/-- The write channel's check at field offset -64: a sector not encoded does not open its gate; UNDERRUN and a C0 (R164). -/
def State.underrunCheck (s : State) (n : Nat) : State :=
  match (s.ch n).target with
  | some t =>
    if t.write && !(s.ch n).encoded.contains t then
      ((s.modCh n (fun c => { c with barred := true })).cnt WR_STATUS_UNDERRUN n).chReport n 5 0 t.pslot
    else s
  | none => s

/-- What happens at the bit with field offset `o` (R204): the check at -64; a write run's field begins at 0 or ends the run; a field ends
behind its last bit, and a gate left open after a release closes there. -/
def State.atOffset (s : State) (n : Nat) (o : Int) : State :=
  let c := s.ch n
  let w : Bool := match c.target with | some t => t.write | none => false
  if o = -64 then s.underrunCheck n
  else if o = 0 ∧ c.wgate ∧ w then
    if c.barred || s.rf WR_STATUS_INHIBIT n != 0 then s.modCh n (fun x => { x with wgate := false }) else s.modCh n (fun x => { x with begun := true, mark := (s.tr (chAct n)).verified })
  else if o = 36992 ∧ c.wgate then
    (if c.target.isNone then s.modCh n (fun x => { x with wgate := false }) else if c.begun ∧ w then s.modCh n (fun x => { x with ended := true }) else s)
  else if o = 37000 ∧ c.rgate then
    (if c.target.isNone then s.modCh n (fun x => { x with rgate := false }) else if c.begun ∧ !w then s.modCh n (fun x => { x with ended := true }) else s)
  else s

/-- One coded bit passes: the track bit advances; FOC advances unless the bit is a wedge bit, the last 8 bits of a wedge before offset 0
excepted (R199). -/
def State.passBit (s : State) (n : Nat) : State :=
  let b := s.slotB n
  let c := s.ch n
  if b = 0 then s
  else
    let t := c.tbit
    let counts := !inWedge b t || (decide (312 ≤ t % (2 * b)) && decide (-8 ≤ c.foc) && decide (c.foc < 0))
    let s : State := s.modCh n (fun x => { x with tbit := (t + 1) % (768 * b) })
    if counts then (s.modCh n (fun x => { x with foc := c.foc + 1 })).atOffset n (c.foc + 1) else s

/-- FOC values of the next 8 coded bits, as TIMED words see them (R203): the AT is reached when the bit at which FOC = AT lies in the cycle. -/
def State.reaches (s : State) (n : Nat) (at_ : Int) : Bool :=
  let t := (List.range 8).foldl (fun (x : State × Bool) _ => (x.1.passBit n, x.2 || (x.1.ch n).foc == at_)) (s, false)
  t.2

/-- 8 coded bits pass. -/
def State.pass8 (s : State) (n : Nat) : State := (List.range 8).foldl (fun t _ => t.passBit n) s

/-! ### Swap (R209, R211) -/

/-- The banks exchange at a swap point: execution at ENTRY of the standby bank, the stack cleared, event latches and FIFO kept. -/
def State.swapTake (s : State) (n : Nat) : State :=
  if s.rb SQ_STATUS_SWAP_PEND n && (s.ch n).atSwap then
    let s : State := ((s.wb SQ_STATUS_ACTIVE (!s.rb SQ_STATUS_ACTIVE n) n).wb SQ_STATUS_SWAP_PEND false n).wb SQ_CTRL_SWAP false n
    let s : State := (s.wf SQ_IMAGE_IMAGE_ID (s.sqBank n).imageId n).wf SQ_IMAGE_SB_IMAGE_ID (s.sqStandby n).imageId n
    s.sqEntry n
  else s

def execSwapTake (n : Chan) (s : State) : Res := .next (s.swapTake n.val)

/-! ### One channel cycle (R198, R202, R203) -/

/-- The branch of a word from its conditions. -/
def State.sqBranch (s : State) (n w : Nat) (c c2 : Bool) : State :=
  match mwBMODE w with
  | 0 => s.wf SQ_STATUS_PC (mwNEXT w) n
  | 1 => s.wf SQ_STATUS_PC (mwNEXT w / 2 * 2 + c.toNat) n
  | 2 => s.wf SQ_STATUS_PC (mwNEXT w / 4 * 4 + 2 * c.toNat + c2.toNat) n
  | 3 => if c then s.wf SQ_STATUS_PC (mwNEXT w) n else s
  | 4 => s.sqCall n (mwIMM w) (mwNEXT w)
  | 5 => s.sqRet n
  | _ => s

/-- R201 TRACE: a record of channel and address to the trace port when TRACE_EN = 1 and the region's trace is enabled. -/
def State.sqTrace (s : State) (n w : Nat) : State :=
  if mwTRACEEN w && s.rb REGION_TRACE_EN MED then s.emit (.trace n (mwTRACE w + 256 * s.rf SQ_STATUS_PC n)) else s

/-- The word at PC executes for one channel cycle. Its conditions read the state at the boundary that starts the cycle; gates, command,
branch and event clears follow; then the cycle's 8 bits have passed. A reserved mode or command does nothing (log 17). -/
def State.microword (s : State) (n : Nat) : State :=
  if !s.quadOn n || !s.rb SQ_CTRL_RUN n || s.rb SQ_STATUS_HALTED n then s
  else
    let s : State := s.swapTake n
    let w := s.sqWord n
    let at_ := mwAT w
    let foc := (s.ch n).foc
    let late := mwTIMED w && decide (at_ < foc) && !(s.ch n).waiting
    let fires := !mwTIMED w || late || s.reaches n at_
    let c := s.sqCond n (mwCOND w) at_ != mwCPOL w
    let c2 := s.sqCond n (mwCOND2 w) at_ != mwC2POL w
    let s : State := if late then (s.cnt SQ_COUNT_LATE n).chReport n 6 0 (s.rf SQ_STATUS_PC n) else s
    if !fires then (s.pass8 n).modCh n (fun x => { x with waiting := true })
    else
      let s : State := s.sqTrace n w
      let s : State := s.sqGates n w late (if mwTIMED w && !late then at_ else foc)
      let s : State := s.pass8 n
      let s : State := s.sqCmd n (mwCMD w)
      let stays := mwBMODE w == 3 && !c
      let s : State := s.sqBranch n w c c2
      let s : State := s.wf SQ_STATUS_EVT ((List.range 5).foldl (fun v e => if bitOf (mwEVCLR w) e then setBit v e false else v) (s.rf SQ_STATUS_EVT n)) n
      s.modCh n (fun x => { x with waiting := stays, atSwap := mwSWP w && !x.rgate && !x.wgate && x.target.isNone })

def execMicroword (n : Chan) (s : State) : Res := .next (s.microword n.val)

/-! ### Events (R205) -/

/-- The source of an event that reaches a sequencer: `bit` re-anchors the track bit counter at INDEX of a LOCKED TRU and at wedge sync marks
in HOLDOVER (R77, R199). -/
def State.seqEvent (s : State) (n e : Nat) (bit : Option Nat) : State :=
  let s : State := match bit with
    | some t => if e = evINDEX ∨ e = evWEDGE then s.modCh n (fun c => { c with tbit := t }) else s
    | none => s
  s.sqEvent n e

def execSequencerEvent (n : Chan) (e : Fin 5) (bit : Option Nat) (s : State) : Res := .next (s.seqEvent n.val e.val bit)

/-! ### Storage faults and the target watchdog (R207) -/

def execSequencerEccError (n : Chan) (uncorrectable : Bool) (s : State) : Res :=
  .next (if uncorrectable then s.sqHalt n.val 1
    else (s.cnt SQ_ERR_ECC_CORR n.val).chReport n.val 0 0 (s.rf SQ_STATUS_PC n.val))

/-- TGT_WDOG_EXPIRY (R207): TARGET is held; gates close, TARGET requeued, execution restarts at ENTRY. -/
def execTgtWdogExpiry (n : Chan) (s : State) : Res :=
  .next (if (s.ch n.val).target.isNone then s
    else ((((s.sqDrop n.val).sqEntry n.val).cnt SQ_COUNT_WDOG n.val).chReport n.val 3 0 (s.rf SQ_STATUS_PC n.val)))

/-! ### Images (R209 to R211) -/

/-- Byte fields of an image (R209). -/
def imgWords (b : List Byte) : Nat := leNat ((b.drop 12).take 2)
def imgEntry (b : List Byte) : Nat := leNat ((b.drop 14).take 2)
def imgKey (b : List Byte) : Nat := (b.getD 6 0).toNat
def imgWord (b : List Byte) (a : Nat) : Nat := leNat ((b.drop (32 + 16 * a)).take 16)
def imgList (b : List Byte) : List Nat := (List.range (imgWords b)).map (imgWord b)

/-- Reserved bits of a word are zero (R201). -/
def mwReserved (w : Nat) : Bool :=
  bitOf w 15 || fieldOf w 45 3 != 0 || bitOf w 55 || fieldOf w 61 3 != 0 || fieldOf w 76 4 != 0 || fieldOf w 89 39 != 0

/-- ADDRESS of R210: NEXT (the addresses the branch can form) and CALL's IMM below WORDS, alignment of R202. -/
def mwAddrBad (w words : Nat) : Bool :=
  let m := mwBMODE w
  decide (words ≤ mwNEXT w) || (m == 4 && decide (words ≤ mwIMM w)) || (m == 1 && mwNEXT w % 2 != 0) || (m == 2 && mwNEXT w % 4 != 0)

/-- ENCODING of R210. -/
def mwEncBad (w : Nat) : Bool :=
  decide (6 ≤ mwBMODE w) || mwCOND w == 15 || mwCOND2 w == 15 || mwRG w == 3 || mwWG w == 3 || mwCMD w == 7

/-- The drive-maker key slot is enrolled (R508, R209). -/
def State.keyOk (s : State) (k : Nat) : Bool := match tabFind s.sec.dm k with | some x => x.st == .enrolled | none => false

/-- The first failed check of R210 from 0x01 to 0x09, or 0x00; `sigOk` is the signature's verdict (log 8). -/
def State.imgReason (s : State) (b : List Byte) (sigOk : Bool) : Nat :=
  let w := imgWords b
  if b.take 4 ≠ [0x4F, 0x47, 0x53, 0x51] then 0x01
  else if leNat ((b.drop 4).take 2) ≠ 1 then 0x02
  else if w = 0 ∨ 4096 < w ∨ b.length ≠ 32 + 16 * w + 64 then 0x03
  else if !s.keyOk (imgKey b) then 0x04
  else if !sigOk then 0x05
  else if (b.getD 7 0) ≠ 0 ∨ leNat ((b.drop 16).take 16) ≠ 0 ∨ (imgList b).any mwReserved then 0x06
  else if w ≤ imgEntry b ∨ (imgList b).any (fun x => mwAddrBad x w) then 0x07
  else if (imgList b).any mwEncBad then 0x08
  else if !(imgList b).any mwSWP then 0x09
  else 0x00

def imgBank (b : List Byte) : Bank := { words := imgList b, entry := imgEntry b, imageId := leNat ((b.drop 8).take 4) }

/-- STAGE_MASK (R208), limited to the channels of the part. -/
def State.stageChans (s : State) : List Nat := s.allChans.filter (fun n => bitOf (s.ent 0x6050 3) n)

/-- Records the reason of a LOAD or SWAP for the masked channels and the dictionary (R208, R212). -/
def State.stageReason (s : State) (ns : List Nat) (r : Nat) : State :=
  { (ns.foldl (fun t n => t.wf SQ_STATUS_REASON r n) s) with mstage.reason := r }

/-- STAGE_LOAD (R210, R211 steps 1 and 2): a failed check changes no bank; BUSY where a swap is pending on a masked channel. -/
def State.stageLoad (s : State) (sigOk : Bool) : State :=
  let ns := s.stageChans
  let b := s.mstage.image
  let r := s.imgReason b sigOk
  let r := if r = 0 ∧ ns.any (fun n => s.rb SQ_STATUS_SWAP_PEND n) then 0x0A else r
  if r ≠ 0 then s.stageReason ns r
  else
    (ns.foldl (fun t n =>
      let t : State := if t.rb SQ_STATUS_ACTIVE n then t.modCh n (fun c => { c with bank0 := imgBank b }) else t.modCh n (fun c => { c with bank1 := imgBank b })
      (t.wb SQ_STATUS_STANDBY_VALID true n).wf SQ_IMAGE_SB_IMAGE_ID (imgBank b).imageId n) s).stageReason ns 0

def execStageLoad (sigOk : Bool) (s : State) : Res := .next (s.stageLoad sigOk)

/-- A swap request on one channel (R211 step 3): NO_STANDBY where the standby bank holds no verified image. -/
def State.swapReq (s : State) (n : Nat) : State :=
  if !s.rb SQ_STATUS_STANDBY_VALID n then (s.wf SQ_STATUS_REASON 0x0C n).wb SQ_CTRL_SWAP false n
  else if s.rb SQ_STATUS_SWAP_PEND n then s
  else (s.wb SQ_STATUS_SWAP_PEND true n).modCh n (fun c => { c with atSwap := false })

/-- STAGE_SWAP (R211 step 3). -/
def State.stageSwap (s : State) : State :=
  let ns := s.stageChans
  let bad := ns.any (fun n => !s.rb SQ_STATUS_STANDBY_VALID n)
  let s : State := ns.foldl (fun t n => (t.wf SQ_STATUS_REASON 0 n).swapReq n) s
  { s with mstage.reason := if bad then 0x0C else 0 }

def execStageSwap (s : State) : Res := .next s.stageSwap

/-- STAGE_LOAD_SWAP (R208): LOAD, then SWAP where the load passed. -/
def execStageLoadSwap (sigOk : Bool) (s : State) : Res :=
  let s : State := s.stageLoad sigOk
  .next (if s.mstage.reason = 0 then s.stageSwap else s)

/-- SWAP_LIMIT_EXPIRY (R211 step 5). -/
def execSwapLimitExpiry (n : Chan) (s : State) : Res :=
  .next (if s.rb SQ_STATUS_SWAP_PEND n.val then
      { (((s.wb SQ_STATUS_SWAP_PEND false n.val).wb SQ_CTRL_SWAP false n.val).wf SQ_STATUS_REASON 0x0B n.val) with mstage.reason := 0x0B }
    else s)

/-! ### Control writes (R212) -/

/-- SQ_RUN: 1 starts at ENTRY; 0 takes a swap at a swap point first, then stops with gates closed and TARGET requeued. A halt stands until
RESTART. No sequencer runs where the start-up image failed (R208) and no image has been loaded since. -/
def State.sqRun (s : State) (n : Nat) (v : Bool) : State :=
  let old := s.rb SQ_CTRL_RUN n
  if v then (if old then s else (s.wb SQ_CTRL_RUN true n).sqEntry n)
  else if old then ((s.swapTake n).sqDrop n).wb SQ_CTRL_RUN false n
  else s

def execSqRun (n : Chan) (v : Bool) (s : State) : Res := .next (s.sqRun n.val v)

/-- SQ_SWAP: while a swap is pending it has no further effect. -/
def State.sqSwap (s : State) (n : Nat) : State :=
  if s.rb SQ_STATUS_SWAP_PEND n then s else ((s.wb SQ_CTRL_SWAP true n).wf SQ_STATUS_REASON 0 n).swapReq n

def execSqSwap (n : Chan) (s : State) : Res := .next (s.sqSwap n.val)

/-- SQ_RESTART: gates close, TARGET requeued, stack cleared, ENTRY; a halt is cleared. -/
def State.sqRestart (s : State) (n : Nat) : State :=
  (((s.sqDrop n).sqEntry n).wb SQ_STATUS_HALTED false n).wf SQ_ERR_HALT_CAUSE 0 n

def execSqRestart (n : Chan) (s : State) : Res := .next (s.sqRestart n.val)

/-- Loads BOOT_IMAGE into BANK0 of every powered channel (R208), BANK0 active, and starts it; an image that fails a check leaves no sequencer
running and raises a C3 on MED. -/
def State.bootLoad (s : State) (sigOk : Bool) : State :=
  let b := match s.odGet 0x6050 1 with | .bytes b => b | .num _ => []
  let ns := s.allChans.filter (fun n => s.quadOn n)
  if s.imgReason b sigOk ≠ 0 then
    (({ (ns.foldl (fun t n => t.wb SQ_CTRL_RUN false n) s) with bootBad := true } : State)).report (srcId MED 0 33)
  else
    { (ns.foldl (fun t n =>
        ((((t.modCh n (fun c => { c with bank0 := imgBank b })).wb SQ_STATUS_ACTIVE false n).wf SQ_IMAGE_IMAGE_ID (imgBank b).imageId n).wb
          SQ_CTRL_RUN true n).sqEntry n) s) with bootBad := false }

end Sys2Proof.Machine
end

