-- ==== Sys2Proof/Machine/Channel.lean ====
section
/-! DEFINITION. Channel.lean: the read front end, the sample buffer, the equaliser's ports and calibration (05_front_end.md). -/

namespace Sys2Proof.Machine
open Sys2Proof

/-! ### Field offset -8 (R120, R126, R127, R129) -/

/-- Excluded readers of the head on a channel (R127): those software disabled and those the PA12 reported. -/
def State.excluded (s : State) (n r : Nat) : Bool :=
  !s.rbit FE_CTRL_RDR_EN r n || bitOf (s.hd (headIx (chAct n) (s.slotHead n))).readerExcl r

/-- Live taps from a profile p, 1 to 4 (R125). -/
def State.loadProfile (s : State) (n p : Nat) : State :=
  (List.range 45).foldl (fun t j => t.wf EQ_TAPr_t_TAP (t.rf EQ_PROFp_r_t_TAP n (48 * (p - 1) + j)) n j) s

/-- The exclusion is applied (R127): readers in use, taps, class. -/
def State.applyExcl (s : State) (n : Nat) : State :=
  let act := (List.range 3).foldl (fun v r => if s.excluded n r then v else v + 2 ^ r) 0
  let old := s.rf FE_STATUS_RDR_ACT n
  if act = old then s
  else
    let s : State := s.wf FE_STATUS_RDR_ACT act n
    let gone := (List.range 3).filter (fun r => bitOf old r && !bitOf act r)
    match gone with
    | [] => s
    | r :: _ =>
      if act = 3 ∨ act = 5 ∨ act = 6 then (s.loadProfile n (if act = 6 then 1 else if act = 5 then 2 else 3)).chReport n 8 r
      else if act = 2 then (s.loadProfile n 4).chReport n 8 r
      else
        let h := s.slotHead n
        (s.modHd (headIx (chAct n) h) (fun x => { x with retiredRead := true })).chReport n 9 h

/-- Writes that waited for a field boundary are applied (R129, R195). -/
def State.applyStaged (s : State) (n : Nat) : State :=
  let c := s.ch n
  let s : State := c.staged.foldl (fun t e => { t with regs := tabSet t.regs e.1 e.2 }) s
  let s : State := match c.pcStaged with
    | some v => ((s.wf WR_PRECOMP_PC1 v n).wf WR_PRECOMP_PC2 (v / 32) n).wf WR_PRECOMP_PC_RUN (v / 1024) n
    | none => s
  (s.modCh n (fun x => { x with staged := [], pcStaged := none })).wb FE_STATUS_STAGED false n

/-- A rollback that is due restores the adaptive values of the failed field, but not those software has written meanwhile (R126, R129). -/
def State.applyRollback (s : State) (n : Nat) : State :=
  match (s.ch n).rollback with
  | some vs =>
    let st := (s.ch n).staged.map Prod.fst
    let keep := vs.filter (fun v => match feElems[v.1]? with | some e => feAdaptive.contains e && !st.contains (e.1.key n e.2) | none => false)
    (s.fePut n feElems keep).modCh n (fun x => { x with rollback := none })
  | none => s

def State.atMinus8 (s : State) (n : Nat) : State := ((s.applyRollback n).applyStaged n).applyExcl n

/-! ### Slot records (R118 to R120) -/

/-- The record of a field that starts now (R118). -/
def State.newRec (s : State) (n : Nat) (t : SecCmd) : SlotRec :=
  let z := (s.zoneOf t.cyl).getD 0
  { SlotRec.free with
      st := 1, seed := seedOf t.cyl t.pslot, zone := z, act := chAct n, head := t.head, cyl := t.cyl, surface := surfaceOf (chAct n) t.head,
      pslot := t.pslot, split := (splitOf (s.slotB n) t.pslot).getD 0xFFFFFFFF, readers := s.rf FE_STATUS_RDR_ACT n,
      time := s.coreTime.toNat, cmd := some t, snap := s.feSnap n feElems, seq := (s.ch n).fieldSeq + 1 }

/-- SLOT_ALLOCATE (R119, R120): at field offset -8 of a field to be read the lowest FREE record is taken; with none the field is skipped,
OVERRUN counts and a C0 is raised. -/
def State.slotAllocate (s : State) (n : Nat) : State :=
  match (s.ch n).target with
  | none => s
  | some t =>
    if t.write then s.atMinus8 n
    else
      let s : State := s.atMinus8 n
      match s.freeSlot n with
      | none => (s.cnt SB_STATUS_OVERRUN n).chReport n 4 0 t.pslot
      | some k =>
        if (s.ch n).rgate && s.rbit VC_HEADS_READ_RDY (s.slotHead n) (chAct n) then
          (s.modSlot n k (fun _ => s.newRec n t)).modCh n (fun c => { c with begun := true, fieldSeq := c.fieldSeq + 1 })
        else s

def execSlotAllocate (n : Chan) (s : State) : Res := .next (s.slotAllocate n.val)

/-- The record being filled. -/
def State.filling (s : State) (n : Nat) : Option Nat := (List.range 4).find? (fun k => (s.slotRec n k).st == 1)

/-- FIELD_READ_END (R119, R107, R108): at offset 36,999 the record is HELD and its candidates are ranked; the samples of a field cut by
GATE_KILL are discarded (R78). -/
def State.fieldReadEnd (s : State) (n : Nat) (mets : List Nat) (readers : Nat) : State :=
  match s.filling n with
  | none => s
  | some k =>
    let s : State := s.modCh n (fun c => { c with ended := true })
    if (s.ch n).cut then s.freeRec n k
    else
      let rank := syncRank mets
      s.modSlot n k (fun r => { r with st := 2, mets := mets.take 17, rank := rank, ta := r.ta, readers := readers % 8,
                                       missed := (syncPrimary (s.ent 0x3000 2) rank).2 })

def execFieldReadEnd (n : Chan) (mets : List (BitVec 6)) (readers : BitVec 3) (s : State) : Res :=
  .next (s.fieldReadEnd n.val (mets.map BitVec.toNat) readers.toNat)

/-! ### Adaptation (R113, R114, R123) -/

/-- One step of a field towards a side, saturating at its range; `signed` fields are two's complement. -/
def stepField (width : Nat) (signed : Bool) (v : Nat) (d : Int) : Nat :=
  if signed then utrunc width (max (-(2 ^ (width - 1) : Int)) (min (2 ^ (width - 1) - 1) (sext width v + d)))
  else (max 0 (min (2 ^ width - 1) ((v : Int) + d))).toNat

/-- The LMS step of R123 for an error e in 1/256 code and a sample x: round((e x) >> EQ_MU) in 1/256 tap units, to nearest (log 36). -/
def lmsStep (mu : Nat) (e256 x : Int) : Int :=
  let d : Int := 2 ^ (max mu 6 + 8)
  (2 * (e256 * x) + d) / (2 * d)

/-- ADAPT_UPDATE (R113): one step of one element, if its reader is in use and its freeze bit is 0; the measurement is the operand. -/
def State.adapt (s : State) (n r : Nat) (m : Adapt) : State :=
  if !(s.ch n).rgate || !s.rbit FE_STATUS_RDR_ACT r n then s
  else match m with
    | .gain mean8 =>
      let tgt := 8 * s.rf FE_GAIN_r_AGC_TGT n r
      let far := decide (s.rf FE_GAIN_r_AGC_DZ n r ≤ max mean8 tgt - min mean8 tgt) && mean8 != tgt
      if far && !s.rbit FE_FREEZE_GAIN r n then
        s.wf FE_GAIN_r_GAIN (stepField 8 false (s.rf FE_GAIN_r_GAIN n r) (if mean8 < tgt then 1 else -1)) n r else s
    | .offset mean8 =>
      if decide (s.rf FE_OFS_r_OFS_DZ n r ≤ mean8.natAbs) && mean8 != 0 && !s.rbit FE_FREEZE_OFS r n then
        s.wf FE_OFS_r_OFS (stepField 8 true (s.rf FE_OFS_r_OFS n r) (if 0 < mean8 then -1 else 1)) n r else s
    | .asymmetry diff =>
      if decide (s.rf FE_OFS_r_MRA_DZ n r ≤ diff.natAbs) && diff != 0 && !s.rbit FE_FREEZE_MRA r n then
        s.wf FE_OFS_r_MRA (stepField 6 true (s.rf FE_OFS_r_MRA n r) (if 0 < diff then -1 else 1)) n r else s
    | .phase grad =>
      if r == 1 || grad == 0 || s.rbit FE_FREEZE_PHASE r n || s.rbit FE_STATUS_PH_SAT r n then s
      else
        let v := stepField 11 false (s.rf FE_PHASE_r_INT n r * 64 + s.rf FE_PHASE_r_FRAC n r) (if 0 < grad then 1 else -1)
        let s : State := (s.wf FE_PHASE_r_INT (v / 64) n r).wf FE_PHASE_r_FRAC v n r
        if v = 0 ∨ v = 2047 then (s.wbit FE_STATUS_PH_SAT r true n).chReport n 7 r else s
    | .tap t e256 x =>
      if s.rbit FE_FREEZE_TAPS r n then s
      else s.wf EQ_TAPr_t_TAP (stepField 10 true (s.rf EQ_TAPr_t_TAP n (15 * r + t.val)) (-(lmsStep (s.rf EQ_CTRL_EQ_MU n) e256 x))) n (15 * r + t.val)

def execAdaptUpdate (n : Chan) (r : Fin 3) (m : Adapt) (s : State) : Res := .next (s.adapt n.val r.val m)

/-- TA_DETECT (R128): the span is recorded in the field's descriptor and counted once. -/
def execTaDetect (n : Chan) (readers : BitVec 3) (start stop : BitVec 32) (s : State) : Res :=
  if !s.rb FE_CTRL_TA_EN n.val then .next s
  else
    let s : State := s.cnt FE_TA_TA_COUNT n.val
    match s.filling n.val with
    | none => .next s
    | some k => .next (s.modSlot n.val k (fun r =>
        { r with ta := (BitVec.ofNat 3 r.ta ||| readers).toNat, taStart := min r.taStart start.toNat,
                 taEnd := if r.taEnd = 0xFFFFFFFF then stop.toNat else max r.taEnd stop.toNat }))

/-! ### Software writes (R129) -/

/-- The fields whose writes wait for a field boundary. -/
def feWritable : List Fld :=
  [FE_GAIN_r_GAIN, FE_GAIN_r_AGC_DZ, FE_GAIN_r_AGC_TGT, FE_OFS_r_OFS, FE_OFS_r_MRA, FE_OFS_r_OFS_DZ, FE_OFS_r_MRA_DZ, FE_CTF_r_FC, FE_CTF_r_BOOST,
   FE_PHASE_r_INT, FE_PHASE_r_FRAC, FE_PHASE_r_PH_MU, EQ_TARGET_G1, EQ_TARGET_G2, EQ_TARGET_SCALE, EQ_TAPr_t_TAP, EQ_PROFp_r_t_TAP]

/-- The fields at an offset of a channel block (R130): field and instance. -/
def feAt (off : Nat) : List (Fld × Nat) :=
  feWritable.flatMap (fun f => ((List.range f.nj).filter (fun j => (f.base + j * f.sj) % 0x800 == off)).map (fun j => (f, j)))

/-- A profile tap of a reader the profile leaves out reads 0 and ignores writes; so do the gaps between profiles (R130). -/
def profIgnored (j : Nat) : Bool :=
  let p := j / 48 + 1
  let k := j % 48
  45 ≤ k || (if p = 4 then k / 15 != 1 else k / 15 + 1 == p)

/-- A software write of one field: at once with the read gate closed, else staged (R129). A write of FE_PHASE ends its saturation (R114). -/
def State.feWriteField (s : State) (n : Nat) (e : Fld × Nat) (v : Nat) : State :=
  if e.1 == EQ_PROFp_r_t_TAP && profIgnored e.2 then s
  else
    let s : State := if e.1 == FE_PHASE_r_INT then s.wbit FE_STATUS_PH_SAT e.2 false n else s
    if (s.ch n).rgate then
      let key := e.1.key n e.2
      (s.modCh n (fun c => { c with staged := (c.staged.filter (fun x => x.1 != key)) ++ [(key, v % 2 ^ e.1.width)] })).wb FE_STATUS_STAGED true n
    else s.wf e.1 v n e.2

/-- FE_REG_WRITE (R129): a word written at an offset of the channel block. -/
def State.feRegWrite (s : State) (n off v : Nat) : State :=
  (feAt off).foldl (fun t e => t.feWriteField n e (fieldOf v e.1.lo e.1.width)) s

def execFeRegWrite (n : Chan) (off : BitVec 11) (v : Word) (s : State) : Res := .next (s.feRegWrite n.val off.toNat v.toNat)

/-! ### Port 1 (R124) -/

/-- REEQ_REQUEST (R124, R125): queued with at most 3; a fourth is refused back and held by the Churn; profile 7 is refused. -/
def State.reeqRequest (s : State) (n : Nat) (q : Reeq) : State :=
  if q.profile = 7 ∨ (s.slotRec n q.slot).st ≠ 2 then s
  else if (s.ch n).reeq.length < 3 ∧ (s.ch n).refused = [] then s.modCh n (fun c => { c with reeq := c.reeq ++ [q] })
  else s.modCh n (fun c => { c with refused := c.refused ++ [q] })

def execReeqRequest (n : Chan) (slot : Fin 4) (pos : Int) (profile : BitVec 3) (s : State) : Res :=
  .next (s.reeqRequest n.val { slot := slot.val, pos := pos, profile := profile.toNat })

/-! ### Readers (R127) -/

/-- READER_FAULT (R40, R127): the reader is excluded at the next field offset -8. -/
def execReaderFault (a : Act) (head : Fin 11) (reader : Fin 3) (s : State) : Res :=
  .next (s.modHd (headIx a.val head.val) (fun x => { x with readerExcl := setBit x.readerExcl reader.val true }))

/-! ### Calibration (R131 to R133) -/

/-- MT_STATE and MT_REASON of a source (23_security_maintenance.md R520). -/
def State.setMt (s : State) (src st reason : Nat) : State := (s.setSrc 0x2030 4 src st).setSrc 0x2030 5 src reason

/-- A recalibration ends: its slot goes back to the scheduler. -/
def State.recalDrop (s : State) (r : Recal) : State := { s with sec.recal := s.sec.recal.filter (fun x => x.head != r.head) }

/-- The calibration of zone group g on channel n ended (R523): a group done leaves the list; one that ended early is tried once more at the next visit,
and a second failure ends the command with CAL. -/
def State.recalNote (s : State) (n g : Nat) (ok : Bool) : State :=
  match s.sec.recal.find? (fun r => r.slot == n) with
  | none => s
  | some r =>
    if ok then
      let left := r.groups.filter (· != g)
      if left = [] then (s.recalDrop r).setMt r.src 2 0
      else { s with sec.recal := s.sec.recal.map (fun x => if x.head = r.head then { x with groups := left, slot := 0xFF } else x) }
    else if r.retried.contains g then (s.recalDrop r).setMt r.src 3 0x05
    else { s with sec.recal := s.sec.recal.map (fun x => if x.head = r.head then { x with retried := g :: x.retried, slot := 0xFF } else x) }

/-- The zone group where an actuator stands. -/
def State.groupAt (s : State) (a : Nat) : Nat := groupOf ((s.zoneOf (s.actCyl a)).getD 0)

/-- An early end (R132): the previous set and bias are restored, the channel rejoins the scheduler, a C0 is recorded. -/
def State.calEnd (s : State) (n reason : Nat) : State :=
  let a := chAct n
  let h := s.rf CAL_CTRL_HEAD n
  let old := (s.ch n).calOld
  let s : State := s.fePut n feElems (old.filter (fun v => decide (v.1 < 1000)))
  let s : State := (old.filter (fun v => decide (1000 ≤ v.1))).foldl
    (fun t v => t.plSend a plCORE { op := 0x03, payload := [plByte h, plByte (v.1 - 1000), plByte v.2] }) s
  let s : State := ((s.wf CAL_STATUS_STATE 3 n).wf CAL_STATUS_REASON reason n).modCh n (fun c => { c with withdrawn := false, calPaused := false })
  (s.recalNote n (s.groupAt a) false).chReport n 11 h reason

/-- A calibration in progress ends early; otherwise nothing. -/
def State.calFail (s : State) (n reason : Nat) : State := if s.rf CAL_STATUS_STATE n = 1 then s.calEnd n reason else s

/-- CAL_START (R131 step 1, R132). -/
def State.calStart (s : State) (n : Nat) : State :=
  let a := chAct n
  let h := s.rf CAL_CTRL_HEAD n
  if s.rf CAL_STATUS_STATE n = 1 then s
  else
    let s : State := (((s.wf CAL_STATUS_STEP 1 n).wf CAL_STATUS_SECTORS 0 n).wf CAL_STATUS_REASON 0 n).modCh n (fun c => { c with
      calPaused := false,
      calOld := s.feSnap n feElems ++ (List.range 3).map (fun r => (1000 + r, tabGet 0 s.pa.bias (3 * headIx a h + r))) })
    if !s.actLoaded a || s.slotHead n != h || h == 0xF then s.calEnd n 0x01
    else if s.rf TRU_STATUS_STATE a ≠ 4 then s.calEnd n 0x02
    else if (chansOf a).any (fun m => m != n && s.rf CAL_STATUS_STATE m == 1) then s.calEnd n 0x07
    else (s.wf CAL_STATUS_STATE 1 n).modCh n (fun c => { c with withdrawn := true })

def execCalStart (n : Chan) (s : State) : Res := .next (s.calStart n.val)

/-- CAL_ABORT (R132). -/
def execCalAbort (n : Chan) (s : State) : Res := .next (s.calFail n.val 0x06)

/-- R133: a reader more than WEAK_DB below the best is reported. -/
def State.weakReaders (s : State) (n : Nat) : State :=
  let snr := fun r => s.rf FE_SNR_SNR n / 256 ^ r % 256
  let best := max (snr 0) (max (snr 1) (snr 2))
  (List.range 3).foldl (fun t r => if s.ent 0x6010 1 < best - snr r then t.chReport n 12 r (best - snr r) else t) s

/-- CAL_PHASE_DONE (R131): `vals` are the elements the phase set, `read` the sectors it read; the last step writes the set of the zone group
and the channel rejoins the scheduler. -/
def State.calPhase (s : State) (n : Nat) (res : CalResult) (read : Nat) (vals : List (Nat × Nat)) (snr : Nat) : State :=
  if s.rf CAL_STATUS_STATE n ≠ 1 ∨ (s.ch n).calPaused then s
  else
    let s : State := (s.cnt CAL_STATUS_SECTORS n 0 read).wf FE_SNR_SNR snr n
    match res with
    | .lowYield => s.calEnd n 0x04
    | .verify => s.calEnd n 0x05
    | .link => s.calEnd n 0x08
    | .done =>
      let a := chAct n
      let h := s.rf CAL_CTRL_HEAD n
      let step := s.rf CAL_STATUS_STEP n
      let s : State := s.fePut n feElems (vals.filter (fun v => decide (v.1 < 1000)))
      let s : State := (vals.filter (fun v => decide (1000 ≤ v.1))).foldl (fun t v =>
        t.plSend a plCORE { op := 0x03, payload := [plByte h, plByte (v.1 - 1000), plByte (min v.2 (t.ent 0x6010 2))] }) s
      if step < 9 then s.wf CAL_STATUS_STEP (step + 1) n
      else
        let g := s.groupAt a
        let s : State := { s with calSet := tabSet s.calSet (setKey a h g) (s.feSnap n feElems) }
        let s : State := ((s.wf CAL_STATUS_STATE 2 n).wf CAL_STATUS_REASON 0 n).modCh n (fun c => { c with withdrawn := false })
        let s : State := s.modHd (headIx a h) (fun x => { x with calLeft := x.calLeft.erase g, uncal := x.uncal && x.calLeft.erase g != [] })
        (s.weakReaders n).recalNote n g true

def execCalPhaseDone (n : Chan) (res : CalResult) (read : Nat) (vals : List (Nat × Nat)) (snr : BitVec 24) (s : State) : Res :=
  .next (s.calPhase n.val res read vals snr.toNat)

end Sys2Proof.Machine
end

