-- ==== Sys2Proof/Machine/Churn.lean ====
section
/-! DEFINITION. Churn.lean: lanes, their allocators, the retry ladder and the output stores (06_churn.md). Channel number 32 is the replay
channel VC (07_write_and_stripes.md R194). -/

namespace Sys2Proof.Machine
open Sys2Proof

/-! ### Lanes and policy -/

def lnIDLE : Nat := 0
def lnDECODE : Nat := 1
def lnGANG : Nat := 2
def lnRETIRING : Nat := 3
def lnRETIRED : Nat := 4
def lnSELFTEST : Nat := 5

def State.ln (s : State) (k : Nat) : LaneSt := tabGet .reset s.lane k
def State.modLn (s : State) (k : Nat) (f : LaneSt → LaneSt) : State := { s with lane := tabMod .reset s.lane k f }
def State.hf (s : State) (h : Nat) : HalfSt := tabGet .reset s.half h
def State.modHf (s : State) (h : Nat) (f : HalfSt → HalfSt) : State := { s with half := tabMod .reset s.half h f }
def State.lnSt (s : State) (k : Nat) : Nat := s.rf LN_STATUS_STATE k

/-- Half of a channel, VC on half 0 (R146, R194), and of a lane. -/
def halfOf (n : Nat) : Nat := if n = 32 then 0 else n / 16
def laneHalf (k : Nat) : Nat := k / 32

/-- The half's Churn domain is on. -/
def State.churnOn (s : State) (h : Nat) : Bool := s.dom (if h = 0 then domCHA else domCHB) == 3

/-- Decoding policy in force, index 0x6020, or 0xF011 for VC (R155, R194). -/
def State.pol (s : State) (n sub : Nat) : Nat := s.par (if n = 32 then 0xF011 else 0x6020) sub

/-- A statistic of a channel counts and saturates (R156); replay leaves them unchanged (R194). -/
def State.stat (s : State) (n sub by_ : Nat) : State :=
  if n = 32 then s else s.odPut (0x6030 + n) sub (.num (min (s.ent (0x6030 + n) sub + by_) (2 ^ 64 - 1)))

/-! ### The ladder (R150, R151) -/

/-- The best position: the tried position of lowest UNSAT, the lower step winning; attempts that converged do not compete (R151). -/
def bestOf : List (Int × Nat × Bool) → Option (Int × Nat)
  | [] => none
  | (p, u, conv) :: r =>
    match bestOf r with
    | none => if conv then none else some (p, u)
    | some (q, v) => if conv then some (q, v) else if u ≤ v then some (p, u) else some (q, v)

def SlotRec.primary (r : SlotRec) : Int := if r.missed then 0 else match r.rank with | a :: _ => a.1 | [] => 0

def SlotRec.best (r : SlotRec) : Int := match bestOf r.tried with | some (p, _) => p | none => r.primary

/-- The sync position of a step: primary, the next candidates in ranking order not tried yet, or the best position (R109, R150). -/
def SlotRec.posOf (r : SlotRec) (step : Nat) : Int :=
  if step = 0 then r.primary
  else if step ≤ 2 then
    match r.rank.find? (fun c => !r.tried.any (fun t => t.1 == c.1)) with
    | some c => c.1
    | none => r.primary
  else r.best

/-- SYNC_RANK of a position (R110): 0 at offset 0 after a missed mark, else its place in the ranking, 1 to 3. -/
def SlotRec.rankOf (r : SlotRec) (p : Int) : Nat :=
  if r.missed ∧ p = 0 then 0
  else min 3 ((r.rank.takeWhile (fun c => c.1 != p)).length + 1)

/-- The condition of a step (R150). -/
def SlotRec.stepOk (r : SlotRec) (step : Nat) : Bool :=
  let act := (List.range 3).countP (fun i => bitOf r.readers i)
  match step with
  | 2 => r.tried.length == 2
  | 3 => r.ta != 0
  | 5 => decide (2 ≤ act)
  | 6 => decide (2 ≤ act)
  | 7 => bitOf r.readers 1
  | _ => true

/-- Next step after `step` whose bit in LADDER_EN is 1 and whose condition holds. -/
def SlotRec.next (r : SlotRec) (en : Nat) : Option Nat :=
  (List.range 9).find? (fun k => decide (r.step < k) && bitOf en k && r.stepOk k)

/-- Readers in order of FE_SNR, lowest first; on equal SNR the higher index first (R151). -/
def snrOrder (snr : Nat) : List Nat :=
  let v := fun r => snr / 256 ^ r % 256
  let worse := fun a b => decide (v a < v b) || (v a == v b && decide (b < a))
  [2, 1, 0].foldr (fun a l => (l.takeWhile (fun b => worse b a)) ++ [a] ++ (l.dropWhile (fun b => worse b a))) []

/-- The profile of a ladder step (R125, R150). -/
def stepProfile (step snr : Nat) : Nat :=
  match step with
  | 3 => 5 | 4 => 6
  | 5 => (snrOrder snr).headD 0 + 1
  | 6 => (snrOrder snr).getD 1 0 + 1
  | 7 => 4
  | _ => 0

/-- The status word of R153. -/
def SlotRec.status (r : SlotRec) (code : Nat) : Nat :=
  let p := r.posOf r.step
  code + 2 ^ 8 * r.step + 2 ^ 12 * r.itLast + 2 ^ 17 * min r.iters 255 + 2 ^ 25 * utrunc 5 p + 2 ^ 30 * r.rankOf p + 2 ^ 32 * min r.unsat 4095
    + 2 ^ 44 * (r.lanes % 8) + 2 ^ 47 * (if r.ta = 0 then 0 else 1) + 2 ^ 48 * min r.flips 65535

/-! ### Requests and allocation (R146 to R148) -/

/-- A lane request joins those of its half, once. -/
def State.laneReq (s : State) (q : LaneReq) : State :=
  s.modHf (halfOf q.n) (fun h => if h.reqs.contains q then h else { h with reqs := h.reqs ++ [q] })

/-- LANE_REQUEST (R146): kind 0 live, 1 retry step; a gang join is asked by the attempt itself. -/
def execLaneRequest (n : Fin 33) (slot : Fin 4) (retry : Bool) (s : State) : Res :=
  .next (if (s.slotRec n.val slot.val).st = 0 then s else s.laneReq { kind := if retry then 1 else 0, n := n.val, k := slot.val, lane := 0 })

/-- The lane may take a sector: present, not retired or retiring, an input buffer empty. -/
def State.laneOpen (s : State) (k : Nat) : Bool := decide (k < s.nLane) && decide (s.lnSt k ≤ lnGANG) && decide ((s.ln k).ib.length < 2)

def State.laneIdle (s : State) (k : Nat) : Bool := s.lnSt k == lnIDLE && (s.ln k).ib == [] && (s.ln k).held.isNone && decide (k < s.nLane)

/-- Lanes of a half in order from its pointer. -/
def State.laneOrder (s : State) (h : Nat) : List Nat := (List.range 32).map (fun i => 32 * h + ((s.hf h).ptr + i) % 32)

/-- First lane of a list that satisfies p, every non-degraded lane before any degraded one (R158). -/
def State.pick (s : State) (l : List Nat) (p : Nat → Bool) : Option Nat :=
  match l.find? (fun k => p k && !s.rb LN_STATUS_DEGRADED k) with
  | some k => some k
  | none => l.find? p

/-- R146: rules 1 to 4 for channel n. -/
def State.chooseLane (s : State) (n : Nat) : Option Nat :=
  let h := halfOf n
  let own := s.laneOrder h
  let other := s.laneOrder (1 - h)
  (if n = 32 then none else s.pick [2 * n, 2 * n + 1] s.laneOpen)
  <|> (if s.churnOn h then s.pick own s.laneIdle <|> s.pick own s.laneOpen else none)
  <|> (if s.pol n 10 = 1 ∧ s.churnOn (1 - h) then s.pick other s.laneIdle <|> s.pick other s.laneOpen else none)

/-- Channels in round-robin order from a starting channel (R147): VC comes after the channels. -/
def rrOrder (start : Nat) : List Nat := (List.range 33).map (fun i => (start + i) % 33)

/-- The first request of a kind, in round-robin order, for which `f` finds an answer. -/
def pickReq {α : Type} (reqs : List LaneReq) (kind start : Nat) (f : LaneReq → Option α) : Option (LaneReq × α) :=
  (rrOrder start).findSome? (fun n => (reqs.filter (fun q => q.kind == kind && q.n == n)).findSome? (fun q => (f q).map (fun a => (q, a))))

/-- The pointer of a half passes the lane granted. -/
def State.passPtr (s : State) (k : Nat) : State := s.modHf (laneHalf k) (fun h => { h with ptr := (k + 1) % 32 })

/-- Grants a live or retry request. -/
def State.grantJob (s : State) (h kind : Nat) : State :=
  match pickReq (s.hf h).reqs kind (if kind = 0 then (s.hf h).rrLive else (s.hf h).rrRetry) (fun q => s.chooseLane q.n) with
  | none => s
  | some (q, k) =>
    let s : State := s.modHf h (fun x => { x with reqs := x.reqs.erase q, rrLive := if kind = 0 then (q.n + 1) % 33 else x.rrLive,
                                                  rrRetry := if kind = 1 then (q.n + 1) % 33 else x.rrRetry })
    (s.passPtr k).modLn k (fun l => { l with ib := l.ib ++ [{ n := q.n, k := q.k }] })

/-- The width of a gang (R148): the larger of 4 and 2 within GANG_MAX for which g - 1 IDLE lanes are free. -/
def gangWidth (max idle : Nat) : Option Nat := if 4 ≤ max ∧ 3 ≤ idle then some 4 else if 2 ≤ max ∧ 1 ≤ idle then some 2 else none

/-- Grants a gang join (R147, R148): all the lanes it joins at once, in lane-pointer order. -/
def State.grantGang (s : State) (h : Nat) : State :=
  let idle := (s.laneOrder h).filter s.laneIdle
  match pickReq (s.hf h).reqs 2 (s.hf h).rrGang (fun q => gangWidth (s.pol q.n 3) idle.length) with
  | none => s
  | some (q, g) =>
    let mem := idle.take (g - 1)
    let s : State := s.modHf h (fun x => { x with reqs := x.reqs.erase q, rrGang := (q.n + 1) % 33 })
    let s : State := mem.foldl (fun t k => ((t.passPtr k).wf LN_STATUS_STATE lnGANG k).wf LN_STATUS_CHANNEL q.n k) s
    s.modLn q.lane (fun l => { l with att := l.att.map (fun a => { a with width := g, members := mem }) })

/-- LANE_ALLOCATE (R147): at most one grant of each kind in a Churn cycle, live, retry, gang. -/
def execLaneAllocate (half : Fin 2) (s : State) : Res := .next (((s.grantJob half.val 0).grantJob half.val 1).grantGang half.val)

/-! ### Attempts (R138, R143) -/

/-- DECODE_ATTEMPT_START (R138): the older sector of the lane's buffers; the deep step asks for its gang before the first sweep (R148). -/
def State.attStart (s : State) (k : Nat) : State :=
  match (s.ln k).ib, (s.ln k).att, (s.ln k).held with
  | j :: _, none, none =>
    if s.lnSt k ≠ lnIDLE then s
    else
      let deep := (s.slotRec j.n j.k).step == 8
      let ask := deep && decide (1 < s.pol j.n 3)
      let s : State := s.modLn k (fun l => { l with att := some { job := j, sweeps := 0, low := 3841, since := 0, width := 1, members := [], asked := ask } })
      let s : State := ((s.wf LN_STATUS_STATE lnDECODE k).wf LN_STATUS_CHANNEL j.n k).wf LN_STATUS_ITER 0 k
      if ask then s.modHf (laneHalf k) (fun h => { h with reqs := h.reqs ++ [{ kind := 2, n := j.n, k := j.k, lane := k }] }) else s
  | _, _, _ => s

def execDecodeAttemptStart (k : Fin 64) (s : State) : Res := .next (s.attStart k.val)

/-- A member of a gang that ends returns to IDLE, or to RETIRED where its retirement waited for the attempt (R160). -/
def State.memberFree (s : State) (m : Nat) : State :=
  if s.lnSt m = lnGANG then s.wf LN_STATUS_STATE lnIDLE m
  else if s.lnSt m = lnRETIRING then ((s.wf LN_STATUS_STATE lnRETIRED m).wf LN_ERR_RET_CAUSE 4 m).wb LN_CTRL_RETIRE false m
  else s

/-- Lanes of a gang return to IDLE; requests of the attempt are withdrawn. -/
def State.attFree (s : State) (k : Nat) (a : Att) : State :=
  let s : State := a.members.foldl (fun t m => t.memberFree m) s
  let s : State := s.modHf (laneHalf k) (fun h => { h with reqs := h.reqs.filter (fun q => !(q.kind == 2 && q.lane == k)) })
  let retiring := s.lnSt k == lnRETIRING
  let s : State := s.modLn k (fun l => { l with att := none, ib := l.ib.filter (fun j => j != a.job) })
  if retiring then
    let rest := (s.ln k).ib
    let s : State := rest.foldl (fun t j => t.laneReq { kind := 1, n := j.n, k := j.k, lane := 0 }) (s.modLn k (fun l => { l with ib := [] }))
    ((s.wf LN_STATUS_STATE lnRETIRED k).wf LN_ERR_RET_CAUSE 4 k).wb LN_CTRL_RETIRE false k
  else s.wf LN_STATUS_STATE lnIDLE k

/-- An attempt has ended (R153, R156, R161): counts and what its status word shows. -/
def State.attCount (s : State) (k : Nat) (a : Att) (unsat flips : Nat) : State :=
  let r := s.slotRec a.job.n a.job.k
  let s : State := s.cnt LN_SECT_SECTORS k
  let s : State := if r.step = 0 then s.stat a.job.n 2 a.sweeps else s
  let s : State := if 1 < a.width then s.stat a.job.n 10 1 else s
  s.modSlot a.job.n a.job.k (fun x => { x with iters := min (x.iters + a.sweeps) 255, itLast := a.sweeps, unsat := unsat, lanes := a.width, flips := flips })

/-! ### Captures (R192, R193) -/

/-- TRIG bit of a ladder end: 0 every sector, 1 OK_SYNC, 2 OK_PROFILE, 3 OK_DEEP, 4 UNRECOVERED or BUDGET, 5 TAG_MISMATCH, 6 asperity. -/
def trigBits (code ta : Nat) : List Nat :=
  [0] ++ (if code = 1 then [1] else []) ++ (if code = 2 then [2] else []) ++ (if code = 3 then [3] else [])
    ++ (if code = 0x10 ∨ code = 0x12 then [4] else []) ++ (if code = 0x11 then [5] else []) ++ (if ta = 0 then [] else [6])

/-- A sector ends its ladder: its slot moves to CAPTURE where a trigger matches (R192, R193). -/
def State.capture (s : State) (n k code : Nat) : State :=
  let r := s.slotRec n k
  if !s.rb CR_CTRL_CAP_EN ∨ s.rf CR_CTRL_CAP_CH ≠ n ∨ s.rf CR_STATUS_CAP_STATE = 2 then s
  else
    let next := s.rb CR_CTRL_CAP_NEXT
    let hit := (trigBits code r.ta).find? (fun b => s.rbit CR_CTRL_TRIG b)
    match (if next then some 0xFF else hit) with
    | none => s
    | some b =>
      if (List.range 4).any (fun q => (s.slotRec n q).st == 3) then s.cnt CR_STATUS_CAP_MISSED
      else ((s.modSlot n k (fun x => { x with st := 3, trig := b, stat := r.status code })).wb CR_CTRL_CAP_NEXT false)

/-- The slot is released, unless it is captured (R119, R192). -/
def State.slotDone (s : State) (n k : Nat) : State := if (s.slotRec n k).st = 3 then s else s.freeRec n k

/-! ### The end of the ladder (R152 to R154) -/

/-- Statistics and faults of a status code (R154, R156). -/
def State.codeCount (s : State) (n k code status : Nat) : State :=
  let s : State := if code ≤ 0x12 then s.stat n 1 1 else s
  let s : State := match code with
    | 1 => s.stat n 3 1 | 2 => s.stat n 4 1 | 3 => s.stat n 5 1
    | 0x10 => s.stat n 6 1 | 0x12 => s.stat n 6 1 | 0x11 => s.stat n 7 1 | _ => s
  if n = 32 then s
  else if 1 ≤ code ∧ code ≤ 3 then s.chReport n 13 k (status % 2 ^ 32)
  else if 0x10 ≤ code ∧ code ≤ 0x12 then s.chReport n 14 k (status % 2 ^ 32)
  else s

/-- The sector goes to stripe rebuild (R152, R187). -/
def State.toRebuild (s : State) (c : SecCmd) : State :=
  if s.geoD = 0 then s
  else
    let sp := if c.why = .host then s.stripeOf c.x else (c.x, c.ix)
    { s with rebuilds := s.rebuilds ++ [{ stripe := sp.1, pos := sp.2, cmd := some c, started := false, reads := [], pool := 0 }] }

/-- R187 step 2: a member of a rebuild that fails is replaced by the next position in the order, data positions then parity positions, holes
skipped. -/
def State.rebuildMore (s : State) (stripe failed : Nat) : State :=
  match s.rebuilds.find? (fun r => r.stripe == stripe && r.started && r.reads.contains failed) with
  | none => s
  | some r =>
    let nextPos := (List.range s.geoW).find? (fun m => m != r.pos && !r.reads.contains m && (s.holeAt stripe m).isNone && decide (r.reads.foldl max 0 < m))
    match nextPos with
    | none => s
    | some m =>
      let s : State := { s with rebuilds := s.rebuilds.map (fun q => if q = r then { q with reads := q.reads ++ [m] } else q) }
      match s.memberCmd false stripe m .rebuild (match r.cmd with | some c => c.stamp | none => 0) m 0 (some r.pool) none with
      | some k => { s with sched := s.sched ++ [k] }
      | none => s

/-- A sector that is not recovered (R152): status, slot released or captured, rebuild for a host, update or scrub read. -/
def State.ladderFail (s : State) (n k code : Nat) : State :=
  let r := s.slotRec n k
  let s : State := s.codeCount n k code (r.status code)
  let s : State := if n = 32 then s else ((s.capture n k code).slotDone n k)
  match r.cmd with
  | some c => if n = 32 then s else (match c.why with
      | .verify => s
      | .rewrite => s
      | .rebuild => s.rebuildMore c.x c.ix
      | _ => s.toRebuild c)
  | none => s

/-- What follows a failed attempt at the current step (R109, R126, R150, R152). -/
def State.ladderStep (s : State) (n k : Nat) : State :=
  let r := s.slotRec n k
  let s : State := if r.step = 2 ∧ s.rb FE_CTRL_ROLLBACK n ∧ n ≠ 32 then
      ((if (s.ch n).lastGood ≤ r.seq then s.modCh n (fun c => { c with rollback := some r.snap }) else s)).cnt FE_STATUS_ROLLBACKS n
    else s
  if r.budget then s.ladderFail n k 0x12
  else match r.next (s.pol n 8) with
    | none => s.ladderFail n k 0x10
    | some st => s.modSlot n k (fun x => { x with step := st })

/-- A result enters the half's output store, or stays on its lane while the store is full (R149). -/
def State.toStore (s : State) (lane n k status : Nat) (c : SecCmd) : State :=
  let h := laneHalf lane
  if (s.hf h).store.length < 32 then s.modHf h (fun x => { x with store := x.store ++ [{ n := n, k := k, cmd := c, status := status }] })
  else s.modLn lane (fun l => { l with held := some ({ n := n, k := k }, status) })

/-- Code of a recovered sector by its step (R154). -/
def okCode (step : Nat) : Nat := if step = 0 then 0 else if step ≤ 2 then 1 else if step ≤ 7 then 2 else 3

/-- A converged attempt that passed R101 (R149). -/
def State.ladderOk (s : State) (lane n k : Nat) : State :=
  let r := s.slotRec n k
  let code := okCode r.step
  let st := r.status code
  let s : State := s.codeCount n k code st
  if n = 32 then s
  else
    let s : State := s.modCh n (fun c => { c with lastGood := max c.lastGood r.seq })
    let s : State := s.capture n k code
    match r.cmd with
    | some c => s.toStore lane n k st c
    | none => s

/-- A discarded attempt (R149): the slot is released; CUT requeues the sector, ABORTED drops it. -/
def State.ladderDrop (s : State) (n k : Nat) : State :=
  let r := s.slotRec n k
  let s : State := s.freeRec n k
  match r.cmd with
  | some c => if r.drop = 2 then s.requeue c else s
  | none => s

/-! ### Lane faults (R157 to R159) -/

def laneBlock (k : Nat) : Nat := 36 + k

/-- R159: the lane stops; each sector in its buffers returns as a retry-step request at its step and position; the lane reads RETIRED. -/
def State.laneOut (s : State) (k cause : Nat) : State :=
  let l := s.ln k
  let s : State := match l.att with
    | some a => a.members.foldl (fun t m => t.memberFree m) s
    | none => s
  let s : State := s.modHf (laneHalf k) (fun h => { h with reqs := h.reqs.filter (fun q => !(q.kind == 2 && q.lane == k)) })
  let s : State := l.ib.foldl (fun t j => t.laneReq { kind := 1, n := j.n, k := j.k, lane := 0 }) (s.modLn k (fun x => { x with ib := [], att := none }))
  -- a lane that was a member of another attempt's gang leaves it
  let s : State := { s with lane := s.lane.map (fun p => (p.1, { p.2 with att := p.2.att.map (fun a => { a with members := a.members.filter (fun m => m != k) }) })) }
  ((s.wf LN_STATUS_STATE lnRETIRED k).wf LN_ERR_RET_CAUSE cause k).wb LN_CTRL_RETIRE false k

/-- A lane fault with its C2 (R157): number 1 memory, 3 checker. -/
def State.laneFault (s : State) (k cause num : Nat) : State :=
  if s.lnSt k = lnRETIRED then s else (s.laneOut k cause).report (srcId MED (laneBlock k) num)

/-- LANE_FAULT (R157, R159): an uncorrectable memory error or a checker fault. -/
def execLaneFault (k : Fin 64) (checker : Bool) (s : State) : Res :=
  .next (if checker then s.laneFault k.val 3 3 else s.laneFault k.val 1 1)

/-- CELL_FAULT (R157, R158): the cell is retired and an attempt running restarts from its first sweep; a second cell retires the lane. -/
def execCellFault (k : Fin 64) (c : Fin 16) (s : State) : Res :=
  if s.rbit LN_STATUS_CELL_RET c.val k.val then .next s
  else
    let first := s.rf LN_STATUS_CELL_RET k.val == 0
    let s : State := (s.wbit LN_STATUS_CELL_RET c.val true k.val).wb LN_STATUS_DEGRADED true k.val
    let s : State := s.report (srcId MED (laneBlock k.val) 2) c.val
    if first then
      .next ((s.modLn k.val (fun l => { l with att := l.att.map (fun a => { a with sweeps := 0, low := 3841, since := 0 }) })).wf LN_STATUS_ITER 0 k.val)
    else .next (if s.lnSt k.val = lnRETIRED then s else s.laneOut k.val 2)

/-- LANE_MEMORY_CORRECTED (R157). -/
def execLaneMemoryCorrected (k : Fin 64) (s : State) : Res :=
  .next ((s.cnt LN_ERR_ECC_CORR k.val).report (srcId MED (laneBlock k.val) 0))

/-- CODE_TABLE_FAULT (R157, R456): the failing copy is retired, or with the other copy gone a C3 on MED; reported under the lane's block. -/
def execCodeTableFault (copy : Fin 2) (k : Fin 64) (cell : Fin 16) (s : State) : Res :=
  let src := 0x9FC0 + copy.val
  let other := bitOf s.codeRetired (1 - copy.val)
  let cls := if other then 3 else s.classOf src cell.val
  .next (({ s with codeRetired := setBit s.codeRetired copy.val true } : State).reportBy MED (laneBlock k.val) src cell.val cls 0 false)

/-! ### Sweeps (R143 to R145) -/

/-- The replay's attempt ends: its result waits for REPLAY_STEP_DONE (R194). -/
def State.vcEnd (s : State) (a : Att) (conv : Bool) : State := { s with cru.rpLast := some (a.low, a.sweeps, conv) }

/-- SWEEP_END (R143): the sweep's UNSAT and the verdicts of the checker and of R101 are operands. -/
def State.sweepEnd (s : State) (k unsat flips : Nat) (checkerOk crcOk physOk tagOk : Bool) : State :=
  match (s.ln k).att with
  | none => s
  | some a0 =>
    let n := a0.job.n
    let r := s.slotRec n a0.job.k
    let better := decide (unsat < a0.low)
    let a := { a0 with sweeps := a0.sweeps + 1, low := min a0.low unsat, since := if better then 0 else a0.since + 1 }
    let s : State := ((s.cnt LN_ITERS_ITERS k).wf LN_STATUS_ITER a.sweeps k).modLn k (fun l => { l with att := some a })
    let deep := r.step == 8
    if r.drop ≠ 0 then (s.attFree k a).ladderDrop n a.job.k
    else if unsat = 0 ∧ !checkerOk then s.laneFault k 3 3
    else if unsat = 0 then
      let s : State := (s.attCount k a unsat flips).attFree k a
      let s : State := if n = 32 then s.vcEnd a true else s
      if crcOk ∧ physOk ∧ tagOk then (if n = 32 then s else s.ladderOk k n a.job.k)
      else if crcOk ∧ physOk then (if n = 32 then s else s.ladderFail n a.job.k 0x11)
      else if n = 32 then s
      else
        let s : State := (s.stat n 8 1).modSlot n a.job.k (fun x => if x.step ≤ 2 then { x with tried := x.tried ++ [(x.posOf x.step, a.low, true)] } else x)
        s.ladderStep n a.job.k
    else if a.sweeps = (if deep then 16 else s.pol n 1) ∨ (!deep ∧ s.pol n 5 ≤ a.low ∧ s.pol n 4 ≤ a.since) then
      let s : State := (s.attCount k a unsat flips).attFree k a
      if n = 32 then s.vcEnd a false
      else
        (s.modSlot n a.job.k (fun x => if x.step ≤ 2 then { x with tried := x.tried ++ [(x.posOf x.step, a.low, false)] } else x)).ladderStep n a.job.k
    else if !a.asked ∧ !deep ∧ s.pol n 2 ≠ 0 ∧ a.sweeps = s.pol n 2 ∧ 1 < s.pol n 3 then
      (s.modLn k (fun l => { l with att := some { a with asked := true } })).modHf (laneHalf k)
        (fun h => { h with reqs := h.reqs ++ [{ kind := 2, n := n, k := a.job.k, lane := k }] })
    else s

def execSweepEnd (k : Fin 64) (unsat : BitVec 12) (flips : Nat) (checkerOk crcOk physOk tagOk : Bool) (s : State) : Res :=
  .next (s.sweepEnd k.val unsat.toNat flips checkerOk crcOk physOk tagOk)

/-- REEQ_DONE (R124): the oldest request ends; its sector's values are at its lane; a refused request is presented again, in order. -/
def execReeqDone (n : Chan) (s : State) : Res :=
  .next (s.modCh n.val (fun c => match c.reeq, c.refused with
    | _ :: r, q :: qs => { c with reeq := r ++ [q], refused := qs }
    | _ :: r, [] => { c with reeq := r }
    | [], _ => c))

/-! ### The output store (R149) -/

/-- What a delivered sector leaves: its Pail and status for the scheduler, and a rewrite for OK_PROFILE and OK_DEEP (R190). -/
def State.deliver (s : State) (e : StoreEnt) : State :=
  let code := e.status % 256
  let s : State := s.fillSector e.cmd.pail
  let s : State := if e.cmd.why = .host then s.hostReady e.cmd else { s with ready := s.ready ++ [(e.cmd, code)] }
  if code = 2 ∨ code = 3 then (if e.cmd.why = .verify then s else { s with rewrites := s.rewrites ++ [(e.cmd, code)] }) else s

/-- An entry of the store leaves it: the Pail has accepted the sector, the slot is released, and a lane that holds a converged result of the
half moves it into the store. -/
def State.storeFree (s : State) (h : Nat) (e : StoreEnt) (gives : Bool) : State :=
  let s : State := s.modHf h (fun x => { x with store := x.store.erase e })
  let s : State := if gives then s.deliver e else s
  let s : State := s.slotDone e.n e.k
  match ((List.range 32).map (fun i => 32 * h + i)).find? (fun k => (s.ln k).held.isSome) with
  | none => s
  | some k => match (s.ln k).held with
    | some (j, st) =>
      let s : State := s.modLn k (fun l => { l with held := none })
      match (s.slotRec j.n j.k).cmd with
      | some c => s.modHf h (fun x => { x with store := x.store ++ [{ n := j.n, k := j.k, cmd := c, status := st }] })
      | none => s
    | none => s

/-- OUTPUT_STORE_FREE (R149): the oldest entry whose command holds a Pail is written to it. -/
def execOutputStoreFree (half : Fin 2) (s : State) : Res :=
  match (s.hf half.val).store.find? (fun e => e.cmd.pool.isNone) with
  | some e => .next (s.storeFree half.val e true)
  | none => .next s

/-- RETRY_BUDGET_EXPIRY (R152): an attempt in progress completes first; with none in progress the ladder ends with BUDGET. -/
def execRetryBudgetExpiry (n : Chan) (slot : Fin 4) (s : State) : Res :=
  let r := s.slotRec n.val slot.val
  if r.st ≠ 2 ∨ r.step = 0 ∧ r.tried = [] then .next s
  else
    let s : State := s.modSlot n.val slot.val (fun x => { x with budget := true })
    let job : LJob := { n := n.val, k := slot.val }
    let busy := (List.range 64).any (fun k => (match (s.ln k).att with | some a => a.job == job | none => false))
    let stored := (List.range 2).any (fun h => (s.hf h).store.any (fun e => e.n == n.val && e.k == slot.val))
      || (List.range 64).any (fun k => (match (s.ln k).held with | some (j, _) => j == job | none => false))
    if busy || stored then .next s
    else
      let s : State := (List.range 64).foldl (fun t k => t.modLn k (fun l => if l.ib.contains job then { l with ib := l.ib.erase job } else l)) s
      let s : State := (List.range 2).foldl (fun t h => t.modHf h (fun x => { x with reqs := x.reqs.filter (fun q => !(q.n == n.val && q.k == slot.val)) })) s
      .next (s.ladderFail n.val slot.val 0x12)

/-! ### Retiring and restoring by software (R160) -/

/-- LANE_RETIRE: an idle lane retires at once, a decoding one after its attempt; no fault. -/
def State.laneRetire (s : State) (k : Nat) : State :=
  if s.lnSt k = lnIDLE then s.laneOut k 4
  else if s.lnSt k = lnDECODE ∨ s.lnSt k = lnGANG then (s.wf LN_STATUS_STATE lnRETIRING k).wb LN_CTRL_RETIRE true k
  else s

def execLaneRetire (k : Fin 64) (s : State) : Res := .next (s.laneRetire k.val)

/-- LANE_RESTORE: the self-test of a retired lane; one retired for CHECKER or CELL returns only after a reset. -/
def State.laneRestore (s : State) (k : Nat) : State :=
  if s.lnSt k = lnRETIRED ∧ s.rf LN_ERR_RET_CAUSE k ≠ 2 ∧ s.rf LN_ERR_RET_CAUSE k ≠ 3 then
    (s.wf LN_STATUS_STATE lnSELFTEST k).wb LN_CTRL_RESTORE true k
  else s

def execLaneRestore (k : Fin 64) (s : State) : Res := .next (s.laneRestore k.val)

/-- LANE_SELFTEST_DONE: a pass returns the lane to IDLE with its cells as they were; a fail or a timeout leaves it RETIRED, cause SELFTEST. -/
def State.laneTested (s : State) (k : Nat) (pass : Bool) : State :=
  if s.lnSt k ≠ lnSELFTEST then s
  else
    let s : State := s.wb LN_CTRL_RESTORE false k
    if pass then (s.wf LN_STATUS_STATE lnIDLE k).wf LN_ERR_RET_CAUSE 0 k else (s.wf LN_STATUS_STATE lnRETIRED k).wf LN_ERR_RET_CAUSE 5 k

def execLaneSelftestDone (k : Fin 64) (pass : Bool) (s : State) : Res := .next (s.laneTested k.val pass)

end Sys2Proof.Machine
end

