-- ==== Sys2Proof/Machine/Write.lean ====
section
/-! DEFINITION. Write.lean: the write channel, stripes, rebuild, capture and replay (07_write_and_stripes.md). -/

namespace Sys2Proof.Machine
open Sys2Proof

/-! ### The write channel (R162 to R168) -/

/-- The sector the write channel encodes next: the first write of TARGET and FIFO that it does not hold encoded; it holds two (R162). -/
def State.encodeNext (s : State) (n : Nat) : Option SecCmd :=
  let c := s.ch n
  if !s.rb WR_CTRL_EN n || !s.quadOn n || decide (2 ≤ c.encoded.length) then none
  else (c.target.toList ++ c.fifo).find? (fun t => t.write && !c.encoded.contains t)

/-- SECTOR_ENCODE_DONE (R162, R163). -/
def execSectorEncodeDone (n : Chan) (s : State) : Res :=
  .next (match s.encodeNext n.val with
    | some t => s.modCh n.val (fun c => { c with encoded := c.encoded ++ [t] })
    | none => s)

/-- WRITE_SETUP (R166 to R168): WRITE_CURRENT, HEATER with select 1 and SLOT_MODE WRITE_ARM go out for the head of the slot, from its write
set in the zone group loaded; SETUP holds the gate until all three have returned OK. -/
def State.writeSetup (s : State) (n : Nat) : State :=
  let a := chAct n
  match (s.ch n).sets with
  | none => s
  | some (h, g) =>
    let w := s.writeSet a h g
    let s : State := s.setupNeed n
    let s : State := s.writeCurrent a h (plArg w 0 % 64) (plArg w 1 % 16) (plArg w 1 / 16)
    let s : State := s.heater a h 1 (s.writeHeater a h g)
    s.slotMode a (chSlot n) 2

def execWriteSetup (n : Chan) (s : State) : Res := .next (s.writeSetup n.val)

/-- WR_CTRL_WRITE (R170, R195): EN and the software inhibit, cause bit 0. -/
def State.wrCtrl (s : State) (n v : Nat) : State :=
  let s : State := (s.wb WR_CTRL_EN (bitOf v 0) n).wb WR_CTRL_INHIBIT (bitOf v 1) n
  s.inhibit inhSOFTWARE (bitOf v 1) n

def execWrCtrlWrite (n : Chan) (v : Word) (s : State) : Res := .next (s.wrCtrl n.val v.toNat)

/-- A write to WR_PRECOMP (R195): at once, or at the next field offset -8 while a write gate is open. -/
def State.wrPrecomp (s : State) (n v : Nat) : State :=
  if (s.ch n).wgate then s.modCh n (fun c => { c with pcStaged := some v })
  else ((s.wf WR_PRECOMP_PC1 v n).wf WR_PRECOMP_PC2 (v / 32) n).wf WR_PRECOMP_PC_RUN (v / 1024) n

/-! ### Routing of member writes (R184) -/

/-- What R184 gives a member write: a head, a hole, or a write fault. -/
inductive Route where
  | head (a h : Nat) | hole | fault
  deriving DecidableEq, Repr

/-- Holes of a stripe. -/
def State.holesOf (s : State) (stripe : Nat) : Nat := s.holes.countP (fun h => h.stripe == stripe)

/-- The first rule of R184 that applies; `bad` are heads that WRITE_HOLD has excluded. -/
def State.route (s : State) (stripe m : Nat) (bad : List (Nat × Nat)) : Route :=
  match s.place stripe m with
  | none => .fault
  | some p =>
    let h := s.homeHead p
    let ok := fun (x : Nat × Nat) => s.headWrites x.1 x.2 && !bad.contains x
    if ok h then .head h.1 h.2
    else match (match s.otherHead p with | some o => if ok o then some o else none | none => none) with
      | some o => .head o.1 o.2
      | none =>
        let others := s.holes.countP (fun q => q.stripe == stripe && q.pos != m)
        if others + 1 ≤ s.geoP - 1 ∧ s.holes.length < 65536 then .hole else .fault

/-- A member is omitted and recorded as a hole, a C1 fault (R184, R185). -/
def State.omit_ (s : State) (stripe m : Nat) : State :=
  ({ s with holes := (s.holes.filter (fun h => !(h.stripe == stripe && h.pos == m))) ++ [{ stripe := stripe, pos := m, suspect := false }] } : State).report
    (srcId DAT 35 0) m stripe

/-- The update of a stripe in progress (R180). -/
def State.updateOf (s : State) (stripe : Nat) : Option Update := s.updates.find? (fun u => u.stripe == stripe)
def State.modUpdate (s : State) (stripe : Nat) (f : Update → Update) : State :=
  { s with updates := s.updates.map (fun u => if u.stripe = stripe then f u else u) }

/-! ### Updates (R180 to R182) -/

/-- The form with fewer member reads, Reconstruct on a tie and where a hole is to be filled (R180, R185). -/
def formOf (d p u : Nat) (fills : Bool) : UpForm :=
  if u = d then .full else if fills then .reconstruct else if u + p < d - u then .delta else .reconstruct

/-- Positions read by a form: none; the members replaced and the parity; the data members not replaced (R180). -/
def formReads (f : UpForm) (d p : Nat) (upd : List Nat) : List Nat :=
  match f with
  | .full => []
  | .delta => upd ++ (List.range p).map (· + d)
  | .reconstruct => (List.range d).filter (fun m => !upd.contains m)

/-- Takes n Pails of a pool, rising. -/
def State.takeMany (s : State) (p : Nat) : Nat → State × List Nat
  | 0 => (s, [])
  | n + 1 =>
    let r := s.pailTake p
    let q := State.takeMany r.1 p n
    (q.1, r.2 :: q.2)

/-- The new sectors of a stripe that no update has taken, with their member positions. -/
def State.freshOf (s : State) (stripe : Nat) : List (Nat × Dirty) :=
  (s.dirty.filter (fun d => !d.busy && s.geoD != 0 && d.x / s.geoD == stripe)).map (fun d => (d.x % s.geoD, d))

/-- A member is sent for reading: a hole to the rebuild, another to the scheduler, with its Pail. -/
def State.readMember (s : State) (stripe m stamp pail pool : Nat) (why : SecWhy) : State :=
  match s.memberCmd false stripe m why stamp m (placeOf pail 0) none none with
  | none => s
  | some k =>
    if (s.holeAt stripe m).isSome then { s with rebuilds := s.rebuilds ++ [{ stripe := stripe, pos := m, cmd := some k, started := false, reads := [], pool := pool }] }
    else { s with sched := s.sched ++ [k] }

/-- A stripe update is formed (R180 to R182, R184, R185). It waits while an update of the stripe is in progress, the open-stripe table is full,
or its pool has too few Pails. With `fill` it is formed for the holes alone. -/
def State.startUpdate (s : State) (stripe p : Nat) (fill : Bool) : State :=
  let d := s.geoD
  let fresh := s.freshOf stripe
  let upd := (List.range d).filter (fun m => fresh.any (fun f => f.1 == m))
  let holes := (s.holes.filter (fun h => h.stripe == stripe && !h.suspect)).map (·.pos)
  if (fresh = [] ∧ !fill) ∨ (s.updateOf stripe).isSome ∨ 4096 ≤ s.openStripes.length ∨ s.pwr.pfail then s
  else
    let form := formOf d s.geoP upd.length (holes != [])
    let reads := formReads form d s.geoP upd
    let write := upd ++ (holes.filter (fun m => decide (m < d) && !upd.contains m)) ++ (List.range s.geoP).map (· + d)
    let stamp := fresh.foldl (fun b f => max b f.2.stamp) 0
    let need := reads.length + s.geoP
    if write.any (fun m => s.route stripe m [] == .fault) then
      -- R184 rule 4: the writes complete with a write fault, the stripe is left unchanged
      let s : State := fresh.foldl (fun t f => t.cmdFail f.2.stamp 0x08 0) s
      let s : State := { s with dirty := s.dirty.filter (fun x => !(!x.busy && x.x / d == stripe)) }
      s.pailsFree (fresh.map (fun f => placePail f.2.pail))
    else if s.poolFree p < need then s.countEmpty p
    else
      let s : State := { s with writeGen := s.writeGen + 1 }
      let out := write.filter (fun m => s.route stripe m [] == .hole)
      let mask := write.filter (fun m => !out.contains m)
      let r := s.takeMany p need
      let s : State := r.1
      let tmp := (reads.zip r.2).map (fun x => (x.1, placeOf x.2 0))
      let par := ((List.range s.geoP).map (· + d)).zip ((r.2.drop reads.length).map (fun i => placeOf i 0))
      let pos := upd.map (fun m => (m, match fresh.find? (fun f => f.1 == m) with | some f => f.2.pail | none => 0)) ++ par
      let s : State := { s with
        openStripes := s.openStripes ++ [{ stripe := stripe, gen := s.writeGen.toNat, mask := mask }],
        updates := s.updates ++ [{ stripe := stripe, pos := pos, stamp := stamp, gen := s.writeGen.toNat, form := form, reads := reads, mask := mask,
                                   parityDone := false, tmp := tmp, pool := p }],
        dirty := s.dirty.map (fun x => if d ≠ 0 ∧ x.x / d = stripe then { x with busy := true } else x) }
      let s : State := out.foldl (fun t m => t.omit_ stripe m) s
      tmp.foldl (fun t x => t.readMember stripe x.1 stamp (placePail x.2) p .stripeRead) s

/-- STRIPE_UPDATE_START (R180): the pool its parity and read members are drawn from is the operand. -/
def execStripeUpdateStart (stripe : BitVec 32) (pool : Fin 16) (s : State) : Res := .next (s.startUpdate stripe.toNat pool.val false)

/-- The update's member reads have arrived in their Pails. -/
def State.readsDone (s : State) (u : Update) : Bool :=
  u.reads.all (fun m => s.ready.any (fun r => r.1.why == .stripeRead && r.1.x == u.stripe && r.1.ix == m))

/-- Pails an update held are released once nothing else holds them. -/
def State.dropUpdate (s : State) (u : Update) : State :=
  let s : State := { s with updates := s.updates.erase u,
                            ready := s.ready.filter (fun r => !(r.1.why == .stripeRead && r.1.x == u.stripe)),
                            sched := s.sched.filter (fun c => !(c.why == .stripeRead && c.x == u.stripe)) }
  s.pailsFree ((u.pos ++ u.tmp).map (fun x => placePail x.2))

/-- The sectors an update was writing are no longer newer than the media. -/
def State.dropDirty (s : State) (stripe : Nat) : State :=
  let gone := s.dirty.filter (fun x => x.busy && s.geoD != 0 && x.x / s.geoD == stripe)
  ({ s with dirty := s.dirty.filter (fun x => !gone.contains x) } : State).pailsFree (gone.map (fun x => placePail x.pail))

/-- PARITY_DONE (R180, R22): the parity is in its Pails and the members are released to the channels. A bus error abandons the update before
any member is released; its commands complete with an internal data error (R300). -/
def State.parityDone (s : State) (stripe : Nat) (busError : Bool) : State :=
  match s.updateOf stripe with
  | none => s
  | some u =>
    if u.parityDone then s
    else if busError then
      let ss := (s.dirty.filter (fun x => x.busy && s.geoD != 0 && x.x / s.geoD == stripe)).map (·.stamp)
      let s : State := ss.foldl (fun t k => t.cmdFail k 0x09 0) s
      (({ s with openStripes := s.openStripes.filter (fun o => o.stripe != stripe) } : State).dropUpdate u).dropDirty stripe
    else if !s.readsDone u then s
    else
      let s : State := { s with ready := s.ready.filter (fun r => !(r.1.why == .stripeRead && r.1.x == stripe)),
                                holes := s.holes.filter (fun h => !(h.stripe == stripe && u.mask.contains h.pos && !(h.suspect && !u.pos.any (fun x => x.1 == h.pos)))) }
      let s : State := s.modUpdate stripe (fun x => { x with parityDone := true })
      let s : State := (u.pos.filter (fun x => decide (s.geoD ≤ x.1))).foldl (fun t x => t.fillSector x.2) s
      u.mask.foldl (fun t m =>
        let pl := match (u.pos ++ u.tmp).find? (fun x => x.1 == m) with | some x => x.2 | none => 0
        match t.route stripe m [] with
        | .head a h => (match t.memberCmd true stripe m .member u.stamp m pl none (some (a, h)) with | some k => { t with sched := t.sched ++ [k] } | none => t)
        | _ => (match t.place stripe m with
          | some p => (match t.memberCmd true stripe m .member u.stamp m pl none (some (t.homeHead p)) with | some k => { t with sched := t.sched ++ [k] } | none => t)
          | none => t)) s

def execParityDone (stripe : BitVec 32) (busError : Bool) (s : State) : Res := .next (s.parityDone stripe.toNat busError)

/-- Objects whose value is durable write their bucket (17_object_service.md R403 step 5): bucket sectors are written from the image in HBM,
whose place is numbered above the Pools. -/
def imagePlace (x : Nat) : Nat := 2 ^ 40 + x * 1024

/-- The stripes an extent touches, by their place among the object stripes, with the sectors it has in each. -/
def extentParts (d : Nat) (e : Nat × Nat) : List (Nat × Nat) :=
  if d = 0 ∨ e.2 = 0 then []
  else (List.range ((e.1 + e.2 - 1) / d + 1 - e.1 / d)).map (fun i =>
    let t := e.1 / d + i
    (t, min (e.1 + e.2) ((t + 1) * d) - max e.1 (t * d)))

/-- Extents are freed: a stripe whose live count reaches 0 becomes free (R404). -/
def State.objRelease (s : State) (es : List (Nat × Nat)) : State :=
  (es.flatMap (extentParts s.geoD)).foldl (fun t p =>
    let x := tabGet { live := 0, st := 0 } t.obj.stripes p.1
    if x.live ≤ p.2 then { t with obj.stripes := tabDel t.obj.stripes p.1, obj.front := if x.st = 1 then none else t.obj.front }
    else { t with obj.stripes := tabSet t.obj.stripes p.1 { x with live := x.live - p.2 } }) s

/-- No GET stamped before `stamp` that reads a bucket still waits for its transfer (R403 step 6). -/
def State.getsIn (s : State) (stamp bucket : Nat) : Bool :=
  s.cmds.all (fun c => !(c.op == .get && decide (c.stamp < stamp) && c.xs.contains (s.objX0 + 2 * bucket)) || c.hasLanded 0)

/-- R403 steps 5 and 6: a change whose value is durable writes its bucket; a durable bucket holds the change on the media; the extents it replaced are
freed once the GETs stamped earlier have landed. -/
def State.objDurable (s : State) : State :=
  let quiet := fun (t : State) (e : ObjPend) => t.dirty.all (fun d => d.stamp != e.stamp)
  let s : State := (s.obj.pend.filter (fun e => e.st == 1 && quiet s e)).foldl (fun t e =>
    let k := 32 * e.bucket + e.slot
    { t with obj.pend := t.obj.pend.map (fun q => if q = e then { q with st := 2 } else q),
             obj.media := (match e.new with | some v => tabSet t.obj.media k v | none => tabDel t.obj.media k) }) s
  let s : State := (s.obj.pend.filter (fun e => e.st == 0 && quiet s e)).foldl (fun t e =>
    { t with obj.pend := t.obj.pend.map (fun q => if q = e then { q with st := 1 } else q),
             dirty := t.dirty ++ [{ x := t.objX0 + 2 * e.bucket, stamp := e.stamp, first := e.stamp, ns := 0xF, pail := imagePlace (2 * e.bucket), busy := false },
                                  { x := t.objX0 + 2 * e.bucket + 1, stamp := e.stamp, first := e.stamp, ns := 0xF, pail := imagePlace (2 * e.bucket + 1), busy := false }] }) s
  (s.obj.pend.filter (fun e => e.st == 2 && s.getsIn e.stamp e.bucket)).foldl (fun t e =>
    ({ t with obj.pend := t.obj.pend.erase e } : State).objRelease e.old) s

/-- A member of an update is off the mask: with the mask empty the stripe is durable, its entry is removed and its Pails are released (R182). -/
def State.maskOff (s : State) (stripe m : Nat) : State :=
  let s : State := { s with openStripes := s.openStripes.map (fun o => if o.stripe = stripe then { o with mask := o.mask.erase m } else o) }
  let s : State := s.modUpdate stripe (fun u => { u with mask := u.mask.erase m })
  match s.updateOf stripe with
  | none => s
  | some u =>
    if u.mask ≠ [] then s
    else
      let s : State := { s with openStripes := s.openStripes.filter (fun o => o.stripe != stripe) }
      ((s.dropUpdate u).dropDirty stripe).objDurable

/-- A recovery rewrite has been written (R190): its hazard entry goes, and its verify read is due where R190 asks for one. -/
def State.rewritten (s : State) (c : SecCmd) : State :=
  let s : State := { s with cmds := s.cmds.filter (fun k => k.stamp != c.stamp) }
  if c.verify then { s with verifies := s.verifies ++ [{ c with write := false, why := .verify }] }
  else s.pailsFree [placePail c.pail]

/-- MEMBER_WRITTEN (R182): the channel's oldest report of a written sector. It counts once a frame that follows the sector's start has been
verified, for until then a loss of lock would make it suspect (R78). -/
def State.memberWritten (s : State) (n : Nat) : State :=
  match (s.ch n).reports with
  | [] => s
  | (t, fr) :: r =>
    if fr = (s.tr (chAct n)).verified then s
    else
    let s : State := s.modCh n (fun c => { c with reports := r })
    if t.why = .rewrite then s.rewritten t else s.maskOff t.x t.ix

def execMemberWritten (n : Chan) (s : State) : Res := .next (s.memberWritten n.val)

/-! ### WRITE_HOLD (R172) -/

/-- The causes that R172 counts: not SOFTWARE and SETUP, nor the kind-B causes of drive scope. -/
def holdCounts (v : Nat) : Bool := (List.range 14).any (fun b => bitOf v b && b != inhSOFTWARE && b != inhSETUP && b != inhPFAIL && b != inhPOWER)

/-- A queued member write is routed again by R184, the head excluded. -/
def State.reroute (s : State) (bad : Nat × Nat) (c : SecCmd) : State :=
  match s.route c.x c.ix [bad] with
  | .head a h => { s with sched := s.sched ++ [{ c with act := a, head := h }] }
  | .hole => (s.omit_ c.x c.ix).maskOff c.x c.ix
  | .fault =>
    -- rule 4 after the update has begun: its commands fail, the member keeps waiting for a writer
    let ss := (s.dirty.filter (fun x => x.busy && s.geoD != 0 && x.x / s.geoD == c.x)).map (·.stamp)
    let s : State := ss.foldl (fun t k => t.cmdFail k 0x08 0) s
    { s with sched := s.sched ++ [c] }

/-- WRITE_HOLD_EXPIRY (R172): the member writes that wait for the head are routed by R184. -/
def State.holdExpiry (s : State) (a h : Nat) : State :=
  match s.headChan a h with
  | none => s
  | some n =>
    if !holdCounts (s.rf WR_STATUS_INHIBIT n) then s
    else
      let mine := fun (c : SecCmd) => c.write && c.why == .member && c.act == a && c.head == h
      let waiting := (s.sched.filter mine) ++ ((s.ch n).fifo.filter mine)
      let s : State := { s with sched := s.sched.filter (fun c => !mine c) }
      let s : State := s.modCh n (fun c => { c with fifo := c.fifo.filter (fun x => !mine x) })
      waiting.foldl (fun t c => t.reroute (a, h) c) s

def execWriteHoldExpiry (a : Act) (head : Fin 11) (s : State) : Res := .next (s.holdExpiry a.val head.val)

/-! ### Rebuild (R187, R188) -/

def State.findRebuild (s : State) (stripe m : Nat) : Option Rebuild := s.rebuilds.find? (fun r => r.stripe == stripe && r.pos == m)

/-- REBUILD_START (R187 step 1): D + 1 other members, data positions first, ascending, then parity, holes skipped; they are read in draw mode
from the operand's pool (R314). -/
def State.rebuildStart (s : State) (stripe m p : Nat) : State :=
  match s.findRebuild stripe m with
  | none => s
  | some r =>
    if r.started then s
    else
      let order := (List.range s.geoW).filter (fun k => k != m && (s.holeAt stripe k).isNone)
      let reads := order.take (s.geoD + 1)
      let s : State := { s with rebuilds := s.rebuilds.map (fun q => if q = r then { q with started := true, reads := reads, pool := p } else q) }
      reads.foldl (fun t k => match t.memberCmd false stripe k .rebuild (match r.cmd with | some c => c.stamp | none => 0) k 0 (some p) none with
        | some c => { t with sched := t.sched ++ [c] }
        | none => t) s

def execRebuildStart (stripe : BitVec 32) (pos : Fin 32) (pool : Fin 16) (s : State) : Res := .next (s.rebuildStart stripe.toNat pos.val pool.val)

/-- A member enters the hole table as SUSPECT (R183, R188). -/
def State.suspect (s : State) (stripe m : Nat) : State :=
  if s.holes.length < 65536 then
    { s with holes := (s.holes.filter (fun h => !(h.stripe == stripe && h.pos == m))) ++ [{ stripe := stripe, pos := m, suspect := true }] }
  else s

/-- The rewrite that R190 asks for: the member in place. -/
def State.rewriteDue (s : State) (c : SecCmd) (code : Nat) : State := { s with rewrites := s.rewrites ++ [(c, code)] }

/-- The rebuilt data reaches the read it serves: a host read's Pail, or an update's. A draw-mode read draws one here. -/
def State.rebuildDeliver (s : State) (c : SecCmd) : State :=
  match c.why with
  | .host =>
    (match c.pool with
     | some p =>
       if s.poolCount p = 0 then s.cmdFail c.stamp 0x09 0
       else if s.poolFree p = 0 then (s.countEmpty p).requeue c
       else
         let r := s.pailTake p
         (r.1.fillSector (placeOf r.2 0)).hostReady { c with pail := placeOf r.2 0, pool := none }
     | none => (s.fillSector c.pail).hostReady c)
  | .stripeRead => { s with ready := s.ready ++ [(c, 0)] }
  | _ => s

/-- REBUILD_DONE (R187, R188, R190). -/
def State.rebuildDone (s : State) (stripe m : Nat) (res : RebuildResult) : State :=
  match s.findRebuild stripe m with
  | none => s
  | some r =>
    if !r.started then s
    else
      let s : State := { s with rebuilds := s.rebuilds.erase r, ready := s.ready.filter (fun x => !(x.1.why == .rebuild && x.1.x == stripe)) }
      let fix := fun (t : State) (k : Nat) => match t.memberCmd true stripe k .rewrite 0 k (match r.cmd with | some c => c.pail | none => 0) none none with
        | some w => if (t.holeAt stripe k).isSome then t else t.rewriteDue w 0x20
        | none => t
      match res with
      | .rebuilt =>
        let s : State := (s.report (srcId DAT 35 1) m stripe)
        let s : State := match r.cmd with | some c => s.rebuildDeliver c | none => s
        fix s m
      | .corrected wrong =>
        let s : State := (s.report (srcId DAT 35 2) m stripe)
        let s : State := match r.cmd with | some c => s.rebuildDeliver c | none => s
        (m :: wrong).foldl fix s
      | .unrecoverable =>
        let s : State := ((s.report (srcId DAT 35 3) m stripe)).suspect stripe m
        match r.cmd with
        | some c =>
          if c.why = .host then
            (s.cmdFail c.stamp 0x07 0).modCmd c.stamp (fun k => { k with moved := insertIx c.ix k.moved, landed := insertIx c.ix k.landed })
          else if c.why = .stripeRead then { s with ready := s.ready ++ [(c, 0x10)] } else s
        | none => s

def execRebuildDone (stripe : BitVec 32) (pos : Fin 32) (result : RebuildResult) (s : State) : Res :=
  .next (s.rebuildDone stripe.toNat pos.val result)

/-! ### Recovery rewrites and reassignment (R104, R105, R190, R191) -/

/-- A later-stamped host write covers data member x: its data is installed, or its command is stamped (R191). -/
def State.laterWrite (s : State) (stamp x : Nat) : Bool :=
  s.dirty.any (fun d => d.x == x && decide (stamp ≤ d.stamp))
  || s.cmds.any (fun c => c.op.writes && decide (stamp < c.stamp) && (s.cmdIx c x).isSome)

/-- Data member, or none for a parity member, of a sector command: of a host read by its stripe and member. -/
def State.secMember (s : State) (c : SecCmd) : Nat × Nat := if c.why = .host then s.stripeOf c.x else (c.x, c.ix)

/-- The hazard entry of a recovery rewrite or reassignment: a one-sector write of the ODC7's own (R104, R191, R385); parity members stand
above the data members. -/
def hazardOf (stamp x : Nat) : Cmd :=
  { stamp := stamp, origin := 2 ^ 32, cid := 0, op := .write, ns := 0, lba := 0, count := 1, xs := [x], fua := false, port := 0, pasid := none, priOk := false,
    pool := 0, hlist := [], pails := [], req := [], inPail := [0], moved := [], landed := [], installed := [0], issued := true, aborted := false, late := false,
    fails := [], detail := 0, result := 0, target := (0, 0), obj := none }

/-- RECOVERY_REWRITE (R191): the oldest rewrite decided is stamped and entered in the hazard table as a one-sector write; it is dropped where
a host write has taken the sector. -/
def State.recoveryRewrite (s : State) : State :=
  match s.rewrites with
  | [] => s
  | (c, code) :: r =>
    let s : State := { s with rewrites := r }
    let mb := s.secMember c
    let x := mb.1 * s.geoD + mb.2
    let data := decide (mb.2 < s.geoD)
    if data && ((s.dirtyAt x).isSome || s.laterWrite (s.fetchStamp.toNat) x) then s.pailsFree [placePail c.pail]
    else
      let st := s.newStamp
      let s : State := st.1
      let verify : Bool := code == 0x20 || s.par 0xC010 6 == 1
      match s.memberCmd true mb.1 mb.2 .rewrite st.2 mb.2 c.pail none (some (c.act, c.head)) with
      | none => s
      | some w =>
        let w := { w with verify := verify }
        { s with cmds := s.cmds ++ [hazardOf st.2 (if data then x else 2 ^ 50 + mb.1)], sched := s.sched ++ [w] }

def execRecoveryRewrite (s : State) : Res := .next (if s.bgHeld then s else s.recoveryRewrite)

/-- Spare slots of a surface in a zone, in ascending cylinder and slot order. -/
def State.spareSlots (s : State) (z : Nat) : List (Nat × Nat) :=
  (List.range (s.zn z 3)).flatMap (fun i => (List.range (s.zn z 5)).map (fun k => (s.spareFirst z + i, k)))

/-- First free spare slot of a surface for zone z: the zone, then the nearest inward, then the nearest outward (R104). -/
def State.spareFor (s : State) (sf z : Nat) : Option (Nat × Nat) :=
  let used := (s.gdl.filter (fun e => e.1 == sf)).map (fun e => (e.2.2.2.1, e.2.2.2.2))
  let free := fun q => (s.spareSlots q).find? (fun c => !used.contains c && !s.pdl.contains (sf, c.1, c.2))
  (([z] ++ (List.range (39 - z)).map (fun i => z + 1 + i) ++ ((List.range z).reverse))).findSome? free

def State.spareTotal (s : State) : Nat := ((List.range 40).map (fun z => s.zn z 3 * s.zn z 5)).sum
def State.spareUsed (s : State) (sf : Nat) : Nat := s.gdl.countP (fun e => e.1 == sf)

/-- R105: a surface with no free spare slot is retired for writing. -/
def State.surfaceOut (s : State) (sf : Nat) : State :=
  let s : State := { s with surfRetired := insertIx sf s.surfRetired }
  let hit := fun n => let h := s.slotHead n; h != 0xF && surfaceOf (chAct n) h == sf
  (s.inhibits inhSURFACE true (s.allChans.filter hit)).report (srcId DAT 35 32) sf

/-- R104: member m of a stripe moves to a spare slot, stamped as a write; later commands use it. A later host write forbids it (R191). -/
def State.reassign (s : State) (c : SecCmd) : State :=
  match s.place c.x c.ix with
  | none => s
  | some p =>
    match s.zoneOf p.cyl with
    | none => s
    | some z =>
      match s.spareFor p.surface z with
      | none => s.surfaceOut p.surface
      | some (cy, sl) =>
        let st := s.newStamp
        let s : State := { st.1 with gdl := (st.1.gdl.filter (fun e => !(e.1 == p.surface && e.2.1 == p.cyl && e.2.2.1 == p.lslot))) ++ [(p.surface, p.cyl, p.lslot, cy, sl)] }
        let s : State := match s.memberCmd true c.x c.ix .rewrite st.2 c.ix c.pail none (some (c.act, c.head)) with
          | some w => { s with sched := s.sched ++ [w],
                               cmds := s.cmds ++ [hazardOf st.2 (if c.ix < s.geoD then c.x * s.geoD + c.ix else 2 ^ 50 + c.x)] }
          | none => s
        if 10 * s.spareUsed p.surface ≥ 9 * s.spareTotal ∧ 10 * (s.spareUsed p.surface - 1) < 9 * s.spareTotal then s.report (srcId DAT 35 33) p.surface else s

/-- VERIFY_READ (R190): the verify read of the oldest rewritten member ends with a status code; 0x02 or higher reassigns it. -/
def State.verifyRead (s : State) (code : Nat) : State :=
  match s.verifies with
  | [] => s
  | c :: r =>
    let s : State := { s with verifies := r }
    if 2 ≤ code ∧ !(decide (c.ix < s.geoD) && s.laterWrite c.stamp (c.x * s.geoD + c.ix)) then s.reassign c else s.pailsFree [placePail c.pail]

def execVerifyRead (code : BitVec 8) (s : State) : Res := .next (s.verifyRead code.toNat)

/-- MEDIA_SCRUB (R185): the scrub reads every member of a stripe at DC3, in draw mode, and fills its holes once a writer is available. -/
def State.mediaScrub (s : State) (stripe p : Nat) : State :=
  let holes := (s.holes.filter (fun h => h.stripe == stripe && !h.suspect)).map (·.pos)
  let s : State := if holes.any (fun m => match s.route stripe m [] with | .head _ _ => true | _ => false) then s.startUpdate stripe p true else s
  ((List.range s.geoW).filter (fun m => (s.holeAt stripe m).isNone)).foldl (fun t m =>
    match t.memberCmd false stripe m .scrub 0 m 0 (some p) none with
    | some c => { t with sched := t.sched ++ [c] }
    | none => t) s

def execMediaScrub (stripe : BitVec 32) (pool : Fin 16) (s : State) : Res :=
  .next (if s.bgHeld then s else s.mediaScrub stripe.toNat pool.val)

/-! ### Capture and replay (R192 to R197) -/

def capRecords (s : State) : Nat := s.ent 0xF010 2

/-- CAPTURE_DONE (R193): the record is written at CAP_WR_IDX; a full area stops capture where WRAP = 0. -/
def State.captureDone (s : State) (n : Nat) : State :=
  match (List.range 4).find? (fun k => (s.slotRec n k).st == 3) with
  | none => s
  | some k =>
    let r := s.slotRec n k
    let ix := s.rf CAP_WR_IDX_IDX
    let rec_ : CapRec := { chan := n, trig := r.trig, status := r.stat, seq := s.cru.seq, stamp := (match r.cmd with | some c => c.stamp | none => 0), slot := r,
                           rpStatus := 0, rpSteps := [] }
    let s : State := { s with cru.recs := tabSet s.cru.recs ix rec_, cru.seq := s.cru.seq + 1 }
    let s : State := s.wf CAP_WR_IDX_IDX (if capRecords s = 0 then 0 else (ix + 1) % capRecords s)
    let s : State := if capRecords s ≤ s.cru.recs.length ∧ s.rb CR_CTRL_WRAP = false then s.wf CR_STATUS_CAP_STATE 2 else s
    s.freeRec n k

def execCaptureDone (n : Chan) (s : State) : Res := .next (s.captureDone n.val)

/-- CAP_NEXT (R192). -/
def State.capNext (s : State) : State := s.wb CR_CTRL_CAP_NEXT true
def execCapNext (s : State) : Res := .next s.capNext

/-- A replay ends (R197): DONE with NONE, or FAILED with its reason. -/
def State.replayEnd (s : State) (reason : Nat) : State :=
  let s : State := (s.wf RP_STATUS_STATE (if reason = 0 then 2 else 3)).wf RP_STATUS_REASON reason
  (s.modCh 32 (fun c => { c with sb := [] })).modHf 0 (fun h => h)

/-- The word of a replay step (R193): lowest UNSAT, ITER, RUN, CONVERGED. -/
def rpWord (low iter : Nat) (run conv : Bool) : Nat := low % 4096 + iter % 32 * 4096 + (if run then 131072 else 0) + (if conv then 262144 else 0)

def State.setStep (s : State) (ix st w : Nat) : State :=
  { s with cru.recs := tabMod { chan := 0, trig := 0, status := 0, seq := 0, stamp := 0, slot := .free, rpStatus := 0, rpSteps := [] } s.cru.recs ix
             (fun r => { r with rpSteps := (r.rpSteps ++ List.replicate (9 - r.rpSteps.length) 0).set st w }) }

/-- The next enabled step runs, its sector asking for a lane as a retry step of VC (R194); a step whose condition does not hold is recorded
with RUN = 0. -/
def State.replayNext (s : State) : Nat → State
  | 0 => s.replayEnd 0
  | fuel + 1 =>
    match s.cru.rpLeft with
    | [] => s.replayEnd 0
    | st :: r =>
      let s : State := { s with cru.rpLeft := r, cru.rpLast := none }
      let k := s.slotRec 32 0
      if st ≠ 0 ∧ !k.stepOk st then State.replayNext (s.setStep s.cru.rpIdx st (rpWord 0 0 false false)) fuel
      else
        let s : State := { s with cru.rpLeft := st :: r }
        (s.modSlot 32 0 (fun x => { x with step := st })).laneReq { kind := 1, n := 32, k := 0, lane := 0 }

/-- REPLAY_START (R194, R197). -/
def State.replayStart (s : State) : State :=
  if s.rf RP_STATUS_STATE = 1 then s
  else
    let ix := s.rf RP_IDX_IDX
    let s : State := { s with cru.abort := false, cru.rpLast := none }
    if capRecords s ≤ ix then s.replayEnd 1
    else match tabFind s.cru.recs ix with
      | none => s.replayEnd 2
      | some r =>
        if !s.churnOn 0 && !(s.pol 32 10 == 1 && s.churnOn 1) then s.replayEnd 4
        else
          let steps := (List.range 9).filter (fun st => s.rbit RP_CTRL_STEPS st)
          let s : State := { s with cru.rpIdx := ix, cru.rpLeft := steps }
          let s : State := (s.wf RP_STATUS_STATE 1).wf RP_STATUS_REASON 0
          let s : State := s.modSlot 32 0 (fun _ => { r.slot with st := 2, step := 0, tried := [], iters := 0, itLast := 0, unsat := 0, cmd := none })
          s.replayNext 9

def execReplayStart (s : State) : Res := .next s.replayStart

/-- REPLAY_ABORT (R197). -/
def State.replayAbort (s : State) : State :=
  if s.rf RP_STATUS_STATE ≠ 1 then s
  else
    let busy := (List.range 64).any (fun k => (match (s.ln k).att with | some a => a.job.n == 32 | none => false)) || s.cru.rpLast.isSome
    if busy then { s with cru.abort := true } else s.replayEnd 3

def execReplayAbort (s : State) : Res := .next s.replayAbort

/-- REPLAY_STEP_DONE (R194): the step's results are in the record; the next step runs. The status word's code is that of the step if it
converged, else UNRECOVERED (log 37). -/
def State.replayStep (s : State) : State :=
  match s.cru.rpLast, s.cru.rpLeft with
  | some (low, iter, conv), st :: r =>
    if s.rf RP_STATUS_STATE ≠ 1 then s
    else
      let s : State := s.setStep s.cru.rpIdx st (rpWord low iter true conv)
      let s : State := s.modSlot 32 0 (fun x => if x.step ≤ 2 then { x with tried := x.tried ++ [(x.posOf x.step, low, conv)] } else x)
      let w := (s.slotRec 32 0).status (if conv then okCode st else 0x10)
      let s : State := { s with cru.rpLeft := r, cru.rpLast := none,
                                cru.recs := s.cru.recs.map (fun p => if p.1 = s.cru.rpIdx then (p.1, { p.2 with rpStatus := w }) else p) }
      if s.cru.abort then s.replayEnd 3 else s.replayNext 9
  | _, _ => s

def execReplayStepDone (s : State) : Res := .next s.replayStep

end Sys2Proof.Machine
end

