-- ==== Sys2Proof/Machine/Pails.lean ====
section
/-! DEFINITION. Pails.lean: requests to the Pail pools, releases and draws (13_pails_and_cache.md R311 to R320, R555). -/

namespace Sys2Proof.Machine
open Sys2Proof

/-- Answers (R315). -/
def ansGRANTED : Nat := 0
def ansEMPTY : Nat := 1
def ansRANGE : Nat := 2
def ansALIGN : Nat := 3
def ansDOUBLE_FREE : Nat := 4
def ansNO_POOL : Nat := 5

/-- The answer to a requester: its code, and the pointer of a grant. -/
def State.pailAnswer (s : State) (rid code ptr : Nat) : State := s.emit (.note "Pail answer" (16 * rid + code) ptr)

/-- The output-store entry for which channel n asks a Pail (of pool p, where one is named) (R314): the oldest in draw mode. -/
def State.drawEntry (s : State) (n : Nat) (p : Option Nat) : Option StoreEnt :=
  (s.hf (halfOf n)).store.find? (fun e => e.n == n && e.cmd.pool.isSome && (p.isNone || e.cmd.pool == p))

/-- The oldest WRITE_ZEROES that still needs a Pail of pool p, with the ordinal it needs. -/
def State.zeroesWant (s : State) (p : Nat) : Option (Nat × Nat) :=
  (s.cmds.find? (fun c => c.op == .zeroes && c.pool == p && !c.aborted && decide (c.inPail.length < c.count))).map (fun c => (c.stamp, c.pails.length))

/-- A Pail of a WRITE_ZEROES is filled with zeros (R391: the fill of the last sector's Pail is its last transfer). -/
def State.zeroFill (s : State) (stamp j id : Nat) : State :=
  match s.cmd stamp with
  | none => s
  | some c =>
    let n := s.poolSectors c.pool
    let is := (List.range n).filterMap (fun k => if j * n + k < c.count then some (j * n + k) else none)
    let s : State := is.foldl (fun t i => t.clearBlock (t.placeAddr (placeOf id (i % n)) / 4096)) s
    s.modCmd stamp (fun k => ({ k with pails := tabSet k.pails j id, inPail := is.foldl (fun l i => insertIx i l) k.inPail } : Cmd).markMoved is)

/-- The lowest free Pail goes to a requester (R316): to a channel's entry, which then leaves the output store (R149, R314); to a WRITE_ZEROES of the
scheduler; any other requester holds it by its pointer. -/
def State.pailGrant (s : State) (p rid : Nat) : State :=
  let r := s.pailTake p
  let s : State := r.1.pailAnswer rid ansGRANTED (r.1.placeAddr (placeOf r.2 0))
  if rid < 32 then
    match s.drawEntry rid (some p) with
    | some e =>
      let e' := { e with cmd := { e.cmd with pail := placeOf r.2 0, pool := none } }
      let s : State := s.modHf (halfOf rid) (fun h => { h with store := h.store.map (fun x => if x = e then e' else x) })
      s.storeFree (halfOf rid) e' true
    | none => s.pailDrop r.2
  else if rid = 33 then
    match s.zeroesWant p with
    | some (stamp, j) => s.zeroFill stamp j r.2
    | none => s
  else s

/-- The requests pending at a pool are settled for one core cycle (R317): the first in order is granted; a grant of the last free Pail, and an empty
pool, answer all others EMPTY. -/
def State.pailCycle (s : State) (p : Nat) : State :=
  let empty := fun (t : State) (rids : List Nat) => rids.foldl (fun u r => (u.countEmpty p).pailAnswer r ansEMPTY 0) (t.modPool p (fun q => { q with waiting := [] }))
  match (s.pl p).waiting with
  | [] => s
  | r :: rest =>
    if s.poolFree p = 0 then empty s (r :: rest)
    else
      let s : State := (s.modPool p (fun q => { q with waiting := rest })).pailGrant p r
      if s.poolFree p = 0 then empty s rest else s

/-- A draw-mode sector whose pool is disabled (R318): dropped and reported as failed; a host command completes with INTERNAL. -/
def State.drawFailed (s : State) (n p : Nat) : State :=
  match s.drawEntry n (some p) with
  | none => s
  | some e =>
    let s : State := s.storeFree (halfOf n) e false
    match e.cmd.why with
    | .host => (s.cmdFail e.cmd.stamp 0x09 0).modCmd e.cmd.stamp (fun k => { k with moved := insertIx e.cmd.ix k.moved, landed := insertIx e.cmd.ix k.landed })
    | .rebuild => s.rebuildMore e.cmd.x e.cmd.ix
    | _ => s

/-- A request reaches a disabled pool: NO_POOL, a C1 fault (R315). -/
def State.noPool (s : State) (p rid : Nat) : State :=
  let s : State := (s.report (srcId DAT (18 + p) 3) rid).pailAnswer rid ansNO_POOL 0
  if rid < 32 then s.drawFailed rid p else s

/-- PAIL_REQUEST (R317): the requests that arrive at a pool in one core cycle, ordered by RID behind those pending; then the cycle is settled. With no
request it is a later cycle. A requester has at most one request pending at a pool. -/
def State.pailRequest (s : State) (p : Nat) (rids : List Nat) : State :=
  let new := (rids.filter (fun r => !(s.pl p).waiting.contains r)).foldl (fun l r => insertIx r l) []
  if s.poolCount p = 0 then new.foldl (fun t r => t.noPool p r) s
  else (s.modPool p (fun q => { q with waiting := q.waiting ++ new })).pailCycle p

def execPailRequest (pool : Fin 16) (rids : List (Fin 39)) (s : State) : Res := .next (s.pailRequest pool.val (rids.map (·.val)))

/-- PAIL_ERR counts an answer of R315 and records its RID and cause. -/
def State.pailErr (s : State) (p rid code : Nat) : State :=
  let f := if code = ansRANGE then PAIL_ERR_RANGE else if code = ansALIGN then PAIL_ERR_ALIGN else PAIL_ERR_DOUBLE
  ((s.cnt f p).wf PAIL_ERR_LAST_RID rid p).wf PAIL_ERR_LAST_CAUSE (code - 1) p

/-- PAIL_RELEASE (R315, R319): checked in the order NO_POOL, RANGE, ALIGN, DOUBLE_FREE. -/
def State.pailRelease (s : State) (p rid ptr : Nat) : State :=
  let base := s.poolBase p
  let size := s.poolSize p
  let refuse := fun (t : State) (code : Nat) => ((t.report (srcId DAT (18 + p) (code - 2)) rid ptr).pailErr p rid code).pailAnswer rid code 0
  if s.poolCount p = 0 then (s.report (srcId DAT (18 + p) 3) rid ptr).pailAnswer rid ansNO_POOL 0
  else if ptr < base ∨ base + s.poolCount p * size ≤ ptr then refuse s ansRANGE
  else if (ptr - base) % size ≠ 0 then refuse s ansALIGN
  else if !(s.pl p).alloc.contains ((ptr - base) / size) then refuse s ansDOUBLE_FREE
  else s.pailDrop (pailId p ((ptr - base) / size))

def execPailRelease (pool : Fin 16) (rid : Fin 39) (ptr : BitVec 64) (s : State) : Res := .next (s.pailRelease pool.val rid.val ptr.toNat)

/-- The Pails a command still has reserved. -/
def State.reservedOf (s : State) (c : Cmd) : Nat := tabGet 0 (s.pl c.pool).reserved c.stamp

/-- A command's undrawn Pails return to the pool (R555). -/
def State.returnReserved (s : State) (c : Cmd) : State :=
  if s.reservedOf c = 0 then s else (s.modPool c.pool (fun q => { q with reserved := tabDel q.reserved c.stamp })).poolRose c.pool

/-- PAIL_DRAW (R555, R393): a reserved Pail is drawn, the lowest free one, for the next Pail ordinal of the command. A write's transfer of the sectors
it takes is queued; a multi-sector read's sectors of it may be read. -/
def State.pailDraw (s : State) (stamp : Nat) : State :=
  match s.cmd stamp with
  | none => s
  | some c =>
    let left := s.reservedOf c
    if left = 0 ∨ c.aborted then s
    else
      let s : State := s.modPool c.pool (fun q => { q with reserved := if left = 1 then tabDel q.reserved stamp else tabSet q.reserved stamp (left - 1) })
      let r := s.pailTake c.pool
      let j := c.pails.length
      let s : State := r.1.modCmd stamp (fun k => { k with pails := tabSet k.pails j r.2 })
      let n := s.poolSectors c.pool
      let cnt := min n (c.count - j * n)
      if c.op = .write then s.queueDesc schedChans (State.moveDesc c false (j * n) cnt (s.placeAddr (placeOf r.2 0))) else s.readAdvance

def execPailDraw (stamp : BitVec 64) (s : State) : Res := .next (s.pailDraw stamp.toNat)

/-- PAIL_REREQUEST (R318): one sector time after EMPTY the channel asks again. -/
def execPailRerequest (n : Chan) (s : State) : Res :=
  match s.drawEntry n.val none with
  | some e => .next (s.pailRequest (e.cmd.pool.getD 0) [n.val])
  | none => .next s

/-- PAIL_WAIT_EXPIRY (R318): the entry is dropped, its slot released, and the sector goes back to be read on a later revolution. -/
def execPailWaitExpiry (n : Chan) (s : State) : Res :=
  match s.drawEntry n.val none with
  | some e => .next ((s.storeFree (halfOf n.val) e false).requeue e.cmd)
  | none => .next s

/-- PAIL_MIN_CLR (R320). -/
def State.pailMinClr (s : State) (p : Nat) : State := s.modPool p (fun q => { q with minFree := s.poolFree p })
def execPailMinClr (p : Fin 16) (s : State) : Res := .next (s.pailMinClr p.val)

end Sys2Proof.Machine
end

