-- ==== Sys2Proof/Machine/Dma.lean ====
section
/-! DEFINITION. Dma.lean: the DMA engines, their channels and records, and the translation unit (14_dma_translation.md). A channel is named
16 e + c, e the engine that owns its registers. -/

namespace Sys2Proof.Machine
open Sys2Proof

/-- STATUS and ERR_SOURCE codes (R338). -/
def dmCOMPLETE : Nat := 0
def dmABORTED : Nat := 1
def dmBAD_DESC : Nat := 2
def dmBUS_ERROR : Nat := 3
def dmXLATE_FAULT : Nat := 4

/-- A field of a structure read from memory. -/
def fieldAt (bs : List Byte) (o n : Nat) : Nat := leNat ((bs.drop o).take n)

/-! ### Descriptors (R332 to R334) -/

/-- The elements of a host list up to the first that fails its check, which stands as an element of length 0 (R333, R334). -/
def listRead : List (Nat × Nat × Nat) → Nat → List (Nat × Nat)
  | [], _ => []
  | (a, l, res) :: r, left =>
    if l = 0 ∨ 16777216 < l ∨ res ≠ 0 ∨ left < l ∨ (r = [] ∧ l ≠ left) then [(a, 0)] else (a, l) :: listRead r (left - l)

/-- A descriptor as read from its slot by a channel of the service cores; a list is read with it, an element in a lost word standing as one of
length 0 at address 2^64. -/
def State.descOf (s : State) (ix : Nat) (bs : List Byte) : State × Desc :=
  let opcode := fieldAt bs 0 1
  let flags := fieldAt bs 1 1
  let port := fieldAt bs 2 1
  let pas := fieldAt bs 4 4
  let a := fieldAt bs 16 8
  let len := fieldAt bs 32 4
  let cnt := fieldAt bs 36 2
  let isList := opcode == 4 || opcode == 5
  let resv := decide (16 ≤ flags ∨ 2 ≤ port ∨ fieldAt bs 3 1 ≠ 0 ∨ 2 ^ 21 ≤ pas ∨ fieldAt bs 38 26 ≠ 0)
  let bad := decide (opcode = 0 ∨ 5 < opcode ∨ len = 0 ∨ 16777216 < len) || resv
    || (if isList then decide (cnt = 0 ∨ 4096 < cnt ∨ a % 16 ≠ 0) || !s.inData a (16 * cnt) else decide (cnt ≠ 0))
  let elems : State × List (Nat × Nat × Nat) := if isList && !bad then
      (List.range cnt).foldl (fun x i =>
        let r := x.1.bufRead (a + 16 * i) 16
        match r.2 with
        | some e => (r.1, x.2 ++ [(fieldAt e 0 8, fieldAt e 8 4, fieldAt e 12 4)])
        | none => (r.1, x.2 ++ [(2 ^ 64, 0, 0)])) (s, [])
    else (s, [])
  (elems.1, { index := ix, opcode := opcode, flags := flags, port := port % 2, pasid := if bitOf pas 20 then some (pas % 2 ^ 20) else none,
              tag := fieldAt bs 8 8, addrA := a, addrB := fieldAt bs 24 8, length := len,
              list := if isList then listRead elems.2 len else [(a, len)], bad := bad, lost := false, owner := none })

/-- A descriptor that could not be read (R340). -/
def lostDesc (ix : Nat) : Desc :=
  { index := ix, opcode := 0, flags := 0, port := 0, pasid := none, tag := 0, addrA := 0, addrB := 0, length := 0, list := [], bad := false, lost := true,
    owner := none }

def State.prt (s : State) (q : Nat) : Port := tabGet .reset s.port q
def State.modPrt (s : State) (q : Nat) (f : Port → Port) : State := { s with port := tabMod .reset s.port q f }

/-- Header checks (R334): format, buffer ranges, PASID on a port whose PASID Enable is 0. -/
def State.descBad (s : State) (d : Desc) : Bool :=
  d.bad || !s.inData d.addrB d.length || (d.opcode == 3 && !s.inData d.addrA d.length) || (d.pasid.isSome && d.opcode != 3 && !(s.prt d.port).pasid)

def Desc.toHost (d : Desc) : Bool := d.opcode == 2 || d.opcode == 5
def Desc.inside (d : Desc) : Bool := d.opcode == 3

/-- Host address and bytes left of the element at position `o`. -/
def elemAt : List (Nat × Nat) → Nat → Option (Nat × Nat)
  | [], _ => none
  | (a, l) :: r, o => if l ≤ o then (if l = 0 then some (a, 0) else elemAt r (o - l)) else some (a + o, l - o)

/-! ### Run order (R335) -/

/-- The channel's descriptor ends its run: DQ_HEAD advances, its record waits for its bursts, and the engine is free. -/
def State.descEnd (s : State) (id : Nat) (r : RunDesc) : State :=
  let e := s.engOf id
  let s : State := s.modDc id (fun c => { c with run := none, issued := c.issued ++ [{ r with ended := true }], marked := c.marked.erase r.d.index })
  let s : State := s.setPtr CH_DQ_HEAD_INDEX CH_DQ_HEAD_LAP id (s.dqLog id) (s.dqHead id + 1)
  let s : State := s.modEn e (fun x => { x with running := if x.running = some id then none else x.running, runs := x.runs.erase id })
  let s : State := { s with dtu.pri := s.dtu.pri.map (fun p => { p with who := p.who.filter (fun w => w != .chan id) }) }
  let s : State := { s with dtu.pri := s.dtu.pri.filter (fun p => p.group.isSome || p.who != []) }
  let s : State := if s.chState id = chERROR ∨ s.chState id = chDISABLED then s else s.setCh id chIDLE
  s.chEnter id

/-- The descriptor ends with an error: status, source, address; RESIDUE counts from byte `from_` (R334, R340, R346). -/
def State.descFail (s : State) (id : Nat) (r : RunDesc) (status src addr from_ : Nat) : State :=
  s.descEnd id { r with err := some (status, src, addr, r.d.length - from_) }

/-- DESC_START (R335): the head of the run list takes the engine. A channel that rejoins goes on with its descriptor; any other takes the next of its
queue, whose header is checked. -/
def State.descStart (s : State) (e : Nat) : State :=
  if (s.en e).retired || (s.en e).running.isSome || !s.rb DE_CTRL_EN e then s
  else match (s.en e).runs with
    | [] => s
    | id :: rest =>
      let s : State := s.modEn e (fun x => { x with runs := rest })
      match (s.dc id).run with
      | some _ => (s.modEn e (fun x => { x with running := some id })).setCh id chRUNNING
      | none =>
        if !s.chEn id || s.dqCount id = 0 then s
        else if !s.slotFree id then s.setCh id chWAITCQ
        else
          let ix := s.dqHead id % 2 ^ s.dqLog id
          let x : State × Desc := if id % 16 < 14 then
              (s.modDc id (fun c => { c with q := c.q.drop 1 }), (s.dc id).q.headD (lostDesc ix))
            else
              let r := s.bufRead (64 * s.rf CH_DQ_BASE_BASE (id / 16) (id % 16) + 64 * ix) 64
              match r.2 with
              | some bs => r.1.descOf ix bs
              | none => (r.1, lostDesc ix)
          let s : State := x.1
          let d := x.2
          let r : RunDesc := { d := d, pos := 0, bursts := [], parks := 0, row := 0, rowPage := 0, abort := 0, err := none, ended := false }
          let s : State := (s.modEn e (fun y => { y with running := some id })).setCh id chRUNNING
          let s : State := s.modDc id (fun c => { c with run := some r })
          if (s.dc id).marked.contains ix then s.descEnd id { r with abort := 1 }
          else if d.lost then s.descFail id r dmBUS_ERROR 1 (64 * s.rf CH_DQ_BASE_BASE (id / 16) (id % 16) + 64 * ix) 0
          else if s.descBad d then s.descFail id r dmBAD_DESC 0x0C 0 0
          else s

def execDescStart (e : Fin 4) (s : State) : Res := .next (s.descStart e.val)

/-! ### Translation (R343 to R345) -/

/-- The ATC entry that covers a page. -/
def State.atcFind (s : State) (port : Nat) (pasid : Option Nat) (page : Nat) : Option (Nat × AtcEnt) :=
  s.dtu.atc.find? (fun x => x.2.port == port && x.2.pasid == pasid && x.2.page / 2 ^ x.2.size == page / 2 ^ x.2.size)

/-- A response is kept: the set is the page modulo 512 (log 38), the victim the lowest invalid way, then tree pseudo-LRU over 8 ways. -/
def State.atcPut (s : State) (x : AtcEnt) : State :=
  let set := x.page % 512
  let old := s.dtu.atc.filter (fun y => !(y.2.port == x.port && y.2.pasid == x.pasid && y.2.page == x.page))
  let tree := tabGet 0 s.dtu.plru set
  let order := (plruOrder 3 tree 1).map (fun w => w + 8)
  let w := match (List.range 8).find? (fun w => (tabFind old (8 * set + w)).isNone) with | some w => w | none => order.headD 0
  let touch := ((List.range 3).foldl (fun v i =>
    let right := w / 2 ^ (2 - i) % 2
    (setBit v.1 v.2 (right == 0), 2 * v.2 + right)) (tree, 1)).1
  { s with dtu.atc := tabSet old (8 * set + w) x, dtu.plru := tabSet s.dtu.plru set touch }

/-- What a translation answers: an address, a request under way, or no permission to send the request at all. -/
inductive Xlate where
  | addr (a : Nat) | pending | fault
  deriving DecidableEq, Repr

/-- R343: an address of a port without ATS goes untranslated; a PASID on a port whose PASID Enable is 0 is answered FAULT; else the ATC answers, and a
miss sends an ATS Translation Request, at most 64 outstanding on a port. -/
def State.translate (s : State) (port : Nat) (pasid : Option Nat) (a : Nat) (write : Bool) : State × Xlate :=
  let p := s.prt port
  let page := a / 4096
  if pasid.isSome && !p.pasid then (s, .fault)
  else if !p.ats then (s, .addr a)
  else
    let hit := match s.atcFind port pasid page with | some x => if (if write then x.2.w else x.2.r) then some x.2 else none | none => none
    match hit with
    | some x => (s, .addr (x.addr + (page - x.page) * 4096 + a % 4096))
    | none =>
      if s.dtu.ats.contains (port, pasid, page) ∨ 64 ≤ s.dtu.ats.countP (fun y => y.1 == port) then (s, .pending)
      else (({ s with dtu.ats := s.dtu.ats ++ [(port, pasid, page)] } : State).emit (.port port "ATS Translation Request" page), .pending)

/-! ### Bursts (R336) -/

/-- Bytes of the next burst at position `r.pos`, with the host address or, inside the buffer, the source address. -/
def State.nextBurst (s : State) (r : RunDesc) : Option (Nat × Nat) :=
  match elemAt r.d.list r.pos with
  | none => none
  | some (a, left) =>
    if left = 0 then some (a, 0)
    else if r.d.inside then some (r.d.addrA + r.pos, min (s.par 0xC060 1) (r.d.length - r.pos))
    else
      let p := s.prt r.d.port
      let eff := min (s.par 0xC060 1) (if r.d.toHost then p.mps else p.mrrs)
      some (a, min (min eff left) (4096 - a % 4096))

/-- A burst has been issued: with the last one the descriptor leaves the engine, and the owner's last transfer may be issued (R391). -/
def State.burstIssued (s : State) (id : Nat) (r : RunDesc) (n : Nat) (waits : Bool) : State :=
  let r' := { r with pos := r.pos + n, bursts := if waits then r.bursts ++ [(r.pos, n)] else r.bursts, row := 0 }
  let s : State := s.modDc id (fun c => { c with run := some r' })
  if r.d.length ≤ r'.pos then
    let s : State := match r.d.owner with | some (stamp, is) => s.modCmd stamp (fun k => k.markMoved is) | none => s
    s.descEnd id r'
  else s

/-- BURST_ISSUE (R336, R343): the running channel's next burst, in address order. -/
def State.burstIssue (s : State) (e : Nat) : State :=
  match (s.en e).running with
  | none => s
  | some id =>
    match (s.dc id).run with
    | none => s
    | some r =>
      match s.nextBurst r with
      | none => s
      | some (a, n) =>
        if n = 0 then (if a = 2 ^ 64 then s.descFail id r dmBUS_ERROR 1 0 r.pos else s.descFail id r dmBAD_DESC 0x0C 0 r.pos)
        else if r.d.inside then
          let x := s.bufRead a n
          match x.2 with
          | none => x.1.descFail id r dmBUS_ERROR 1 a r.pos
          | some bs =>
            let y := x.1.bufWrite (r.d.addrB + r.pos) bs
            if y.2 then y.1.descFail id r dmBUS_ERROR 1 (r.d.addrB + r.pos) r.pos else y.1.burstIssued id r n false
        else if !r.d.toHost && 64 ≤ s.rf DE_OUTSTANDING_READS e then s
        else
          let x := s.translate r.d.port r.d.pasid a r.d.toHost
          match x.2 with
          | .pending => x.1
          | .fault => x.1.descFail id r dmXLATE_FAULT 6 a r.pos
          | .addr h =>
            if r.d.toHost then
              -- a burst whose buffer read fails is never sent (R340)
              let y := x.1.bufRead (r.d.addrB + r.pos) n
              match y.2 with
              | none => y.1.descFail id r dmBUS_ERROR 1 (r.d.addrB + r.pos) r.pos
              | some _ => (y.1.emit (.port r.d.port "memory write" h)).burstIssued id r n false
            else ((x.1.cnt DE_OUTSTANDING_READS e).emit (.port r.d.port "memory read" h)).burstIssued id r n true

def execBurstIssue (e : Fin 4) (s : State) : Res := .next (s.burstIssue e.val)

/-- A burst under way uses a page of an invalidated range (R344). -/
def State.invalBusy (s : State) (v : Nat × Option Nat × Nat × Nat) : Bool :=
  s.dch.any (fun c => (c.2.issued ++ c.2.run.toList).any (fun r => r.d.port == v.1 && r.d.pasid == v.2.1 && r.bursts.any (fun b =>
    match elemAt r.d.list b.1 with | some (a, _) => a / 4096 / 2 ^ v.2.2.2 == v.2.2.1 / 2 ^ v.2.2.2 | none => false)))

/-- The Invalidate Completions that no burst holds back any more are sent (R344). -/
def State.invalSend (s : State) : State :=
  let done := s.dtu.inval.filter (fun v => !s.invalBusy v)
  done.foldl (fun t v => t.emit (.port v.1 "Invalidate Completion" v.2.2.1)) { s with dtu.inval := s.dtu.inval.filter (fun v => s.invalBusy v) }

/-- The earliest failing burst of a descriptor decides (R340). -/
def RunDesc.mark (r : RunDesc) (src addr pos : Nat) : RunDesc :=
  let new := some (dmBUS_ERROR, src, addr, r.d.length - pos)
  { r with err := match r.err with
      | some (st, so, ad, re) => if st = dmBUS_ERROR ∧ r.d.length - pos ≤ re then some (st, so, ad, re) else new
      | none => new }

/-- BURST_COMPLETE (R339, R340): a read's data lands in the buffer, or an error marks the descriptor bad, and no further burst of it is issued. -/
def State.burstComplete (s : State) (id pos : Nat) (ans : CplAns) : State :=
  let has := fun (r : RunDesc) => r.bursts.any (fun b => b.1 == pos)
  match ((s.dc id).issued ++ (s.dc id).run.toList).find? has with
  | none => s
  | some r =>
    let n := match r.bursts.find? (fun b => b.1 == pos) with | some b => b.2 | none => 0
    let e := s.engOf id
    let s : State := s.wf DE_OUTSTANDING_READS (s.rf DE_OUTSTANDING_READS e - 1) e
    let host := match elemAt r.d.list pos with | some (a, _) => a | none => 0
    let w : State × Option (Nat × Nat) := match ans with
      | .data bs => let x := s.bufWrite (r.d.addrB + pos) (bs.take n)
                    (x.1, if x.2 then some (1, r.d.addrB + pos) else none)
      | .ur => (s, some (2, host))
      | .ca => (s, some (3, host))
      | .timeout => (s, some (4, host))
      | .poisoned => (s, some (5, host))
    let r' := { r with bursts := r.bursts.filter (fun b => b.1 != pos) }
    let r' := match w.2 with | some (src, a) => r'.mark src a pos | none => r'
    let s : State := w.1
    let s : State := if (s.dc id).run = some r then
        (let s : State := s.modDc id (fun c => { c with run := some r' })
         if w.2.isSome then s.descEnd id r' else s)
      else s.modDc id (fun c => { c with issued := c.issued.map (fun x => if x = r then r' else x) })
    s.invalSend

def execBurstComplete (e : Fin 4) (c : Fin 16) (pos : BitVec 32) (ans : CplAns) (s : State) : Res :=
  .next (s.burstComplete (16 * e.val + c.val) pos.toNat ans)

/-! ### Records (R337 to R342) -/

/-- Status, source, address and RESIDUE of a descriptor whose data has landed (R338, R341). -/
def RunDesc.outcome (r : RunDesc) : Nat × Nat × Nat × Nat :=
  match r.err with
  | some x => x
  | none => if r.abort = 1 then (dmABORTED, 0, 0, r.d.length - r.pos) else (dmCOMPLETE, 0, 0, 0)

/-- The 32 bytes of a record (R337); PHASE is 1 on laps with LAP = 0. -/
def recordBytes (r : RunDesc) (lap : Bool) : List Byte :=
  let o := r.outcome
  leBytes 8 (if r.d.lost then 0 else r.d.tag) ++ leBytes 4 o.2.2.2 ++ leBytes 1 o.1
    ++ leBytes 1 ((if r.abort = 2 then 1 else 0) + (if 0 < r.parks then 2 else 0) + (if lap then 0 else 128))
    ++ leBytes 2 r.d.index ++ leBytes 8 o.2.2.1 ++ leBytes 1 o.2.1 ++ leBytes 1 (min r.parks 255) ++ leBytes 6 0

/-- The scheduler or the object service takes a record (R330, R393): a write's sectors are in their Pails, a read's have landed; an error is the
command's DATA_TRANSFER with its source (R379, R380). -/
def State.ownerRecord (s : State) (r : RunDesc) : State :=
  match r.d.owner with
  | none => s
  | some (stamp, is) =>
    let o := r.outcome
    let add := fun (l : List Nat) => is.foldl (fun m i => insertIx i m) l
    let s : State := if o.1 = dmBUS_ERROR ∨ o.1 = dmXLATE_FAULT ∨ o.1 = dmBAD_DESC then s.cmdFail stamp 0x06 o.2.1 else s
    let s : State := s.modCmd stamp (fun k =>
      if r.d.toHost then { k with landed := add k.landed, installed := if o.1 = dmCOMPLETE then add k.installed else k.installed }
      else if o.1 = dmCOMPLETE then { k with inPail := add k.inPail } else { k with moved := add k.moved })
    s.objDurable

/-- RECORD_WRITE (R339, R340, R342): the record of the channel's oldest descriptor whose data has landed. `fails` says that the write fails: the channel
stops in ERROR until EN := 1 lets the record be written again. -/
def State.recordWrite (s : State) (id : Nat) (fails : Bool) : State :=
  match (s.dc id).issued with
  | [] => s
  | r :: rest =>
    let e := id / 16
    let c := id % 16
    if r.bursts ≠ [] ∨ s.chState id = chERROR then s
    else if fails then
      (((s.setCh id chERROR).modDc id (fun x => { x with retry := true })).modEn (s.engOf id) (fun x => { x with runs := x.runs.erase id })).report
        (srcId DAT (36 + e) 1) c
    else
      let t := s.cqTail id
      let lap := 2 ^ s.cqLog id ≤ t
      let s : State := s.modDc id (fun x => { x with issued := rest, retry := false })
      let s : State := if c < 14 then s
        else (s.bufWrite (32 * s.rf CH_CQ_BASE_BASE e c + 32 * (t % 2 ^ s.cqLog id)) (recordBytes r lap)).1
      let s : State := s.setPtr CH_CQ_TAIL_INDEX CH_CQ_TAIL_LAP id (s.cqLog id) (t + 1)
      let s : State := if c < 14 then (s.setPtr CH_CQ_HEAD_INDEX CH_CQ_HEAD_LAP id (s.cqLog id) (t + 1)).ownerRecord r else s
      let st := r.outcome.1
      let s : State := if bitOf r.d.flags 0 ∨ st ≠ dmCOMPLETE then s.wbit DE_IRQ_CH c true e else s
      let s : State := if st = dmBAD_DESC then s.cnt DE_ERR_BAD_DESC e else if st = dmBUS_ERROR then s.cnt DE_ERR_BUS_ERR e
        else if st = dmXLATE_FAULT then s.cnt DE_ERR_XLATE e else s
      let s : State := if 2 ≤ st then s.report (srcId DAT (36 + e) 0) c r.outcome.2.2.1 else s
      let s : State := if s.rf DE_ABORT_STATUS_RESULT e = 1 ∧ s.rf DE_ABORT_CHANNEL e = c ∧ s.rf DE_ABORT_INDEX e = r.d.index then
          (s.wf DE_ABORT_STATUS_RESULT (if 2 ≤ st then 5 else if r.abort = 2 then 3 else if st = dmABORTED then 2 else 5) e).wb DE_ABORT_GO false e
        else s
      s.chEnter id

def execRecordWrite (e : Fin 4) (c : Fin 16) (fails : Bool) (s : State) : Res := .next (s.recordWrite (16 * e.val + c.val) fails)

/-! ### Doorbells and enables (R331, R335, R342, R350) -/

/-- CH_DQ_DOORBELL (R330, R331): only channels 14 and 15 take register writes. -/
def State.dqDoorbell (s : State) (e c v : Nat) : State :=
  if c < 14 then s else ((s.wf CH_DQ_TAIL_INDEX v e c).wf CH_DQ_TAIL_LAP (v / 4096) e c).chEnter (16 * e + c)

def execChDqDoorbell (e : Fin 4) (c : Fin 16) (v : Word) (s : State) : Res := .next (s.dqDoorbell e.val c.val v.toNat)

/-- CH_CQ_HEAD_WRITE (R335): completion slots are freed, and a channel in WAIT_CQ enters the run list at the tail. -/
def State.cqHeadWrite (s : State) (e c v : Nat) : State :=
  if c < 14 then s else ((s.wf CH_CQ_HEAD_INDEX v e c).wf CH_CQ_HEAD_LAP (v / 4096) e c).chEnter (16 * e + c)

def execChCqHeadWrite (e : Fin 4) (c : Fin 16) (v : Word) (s : State) : Res := .next (s.cqHeadWrite e.val c.val v.toNat)

/-- A channel's four queue indices return to 0, LAP 0 (R342). -/
def State.chZero (s : State) (id : Nat) : State :=
  ((((s.setPtr CH_DQ_TAIL_INDEX CH_DQ_TAIL_LAP id (s.dqLog id) 0).setPtr CH_DQ_HEAD_INDEX CH_DQ_HEAD_LAP id (s.dqLog id) 0).setPtr
    CH_CQ_TAIL_INDEX CH_CQ_TAIL_LAP id (s.cqLog id) 0).setPtr CH_CQ_HEAD_INDEX CH_CQ_HEAD_LAP id (s.cqLog id) 0)

/-- CH_ENABLE (R340, R342): EN := 1 enables a disabled channel, and in ERROR lets the record be written again; EN := 0 aborts the running or parked
descriptor, and the later ones receive no record. -/
def State.chEnable (s : State) (e c : Nat) (v : Bool) : State :=
  let id := 16 * e + c
  if c < 14 then s
  else if v then
    if s.chState id = chERROR then ((s.setCh id chIDLE).modDc id (fun x => { x with retry := false })).chEnter id
    else if s.chState id = chDISABLED then (((s.chZero id).wb CH_CFG_EN true e c).setCh id chIDLE).chEnter id
    else s
  else
    let s : State := s.wb CH_CFG_EN false e c
    let s : State := s.modEn (s.engOf id) (fun x => { x with runs := x.runs.erase id })
    let s : State := match (s.dc id).run with | some r => s.descEnd id { r with abort := 1 } | none => s
    (s.modDc id (fun x => { x with q := [], marked := [], retry := false })).setCh id chDISABLED

def execChEnable (e : Fin 4) (c : Fin 16) (v : Bool) (s : State) : Res := .next (s.chEnable e.val c.val v)

/-- DE_ENABLE_WRITE (R350): 0 stops the engine after the running descriptor's last burst. The EN of a retired engine's page has no effect (R522). -/
def execDeEnableWrite (e : Fin 4) (v : Bool) (s : State) : Res := .next (s.wb DE_CTRL_EN v e.val)

/-! ### Abort (R341) -/

/-- The row of R341 that an abort of descriptor `ix` takes: true where a record will follow. -/
def State.descAbort (s : State) (id ix : Nat) : State × Bool :=
  let c := s.dc id
  if c.issued.any (fun r => r.d.index == ix) then
    (s.modDc id (fun x => { x with issued := x.issued.map (fun r => if r.d.index = ix ∧ r.abort = 0 then { r with abort := 2 } else r) }), true)
  else match c.run with
    | some r =>
      if r.d.index = ix then (s.descEnd id { r with abort := 1 }, true)
      else if (ptrGap (s.dqLog id) (s.dqTail id) (s.dqHead id) > (2 ^ s.dqLog id + ix - s.dqHead id % 2 ^ s.dqLog id) % 2 ^ s.dqLog id) then
        (s.modDc id (fun x => { x with marked := insertIx ix x.marked }), true)
      else (s, false)
    | none =>
      if (ptrGap (s.dqLog id) (s.dqTail id) (s.dqHead id) > (2 ^ s.dqLog id + ix - s.dqHead id % 2 ^ s.dqLog id) % 2 ^ s.dqLog id) ∧ ix < 2 ^ s.dqLog id then
        (s.modDc id (fun x => { x with marked := insertIx ix x.marked }), true)
      else (s, false)

/-- DE_ABORT_GO (R341): no effect while PENDING, nor for channels 0 to 13. -/
def State.deAbort (s : State) (e : Nat) : State :=
  let c := s.rf DE_ABORT_CHANNEL e
  if s.rf DE_ABORT_STATUS_RESULT e = 1 ∨ c < 14 then s
  else
    let r := s.descAbort (16 * e + c) (s.rf DE_ABORT_INDEX e)
    if r.2 then (r.1.wf DE_ABORT_STATUS_RESULT 1 e).wb DE_ABORT_GO true e else r.1.wf DE_ABORT_STATUS_RESULT 4 e

def execDeAbortGo (e : Fin 4) (s : State) : Res := .next (s.deAbort e.val)

/-- INTERNAL_DESC_ABORT (R341): any number of descriptors of channels 0 to 13. -/
def execInternalDescAbort (ds : List (Fin 64 × BitVec 12)) (s : State) : Res :=
  .next (ds.foldl (fun t d => if d.1.val % 16 < 14 then (t.descAbort d.1.val d.2.toNat).1 else t) s)

/-- The descriptors of a command are aborted through the internal path (R392). -/
def State.abortDescs (s : State) (stamp : Nat) : State :=
  s.dch.foldl (fun t c =>
    let mine := fun (d : Desc) => match d.owner with | some (k, _) => k == stamp | none => false
    let ixs := ((c.2.issued.map (·.d)) ++ (c.2.run.toList.map (·.d)) ++ c.2.q).filter mine
    ixs.foldl (fun u d => (u.descAbort c.1 d.index).1) t) s

/-! ### Page requests (R345, R346) -/

/-- Page requests are usable on a port: PRI Enable, and no Response Failure since (R345). -/
def State.priUsable (s : State) (port : Nat) : Bool := (s.prt port).pri && !(s.prt port).respFail

/-- A requester waits for a page: it joins the request for the same port, PASID and page, or its own waits in order of fault. -/
def State.priAsk (s : State) (port : Nat) (pasid : Option Nat) (page : Nat) (write : Bool) (who : PriWho) : State :=
  if s.dtu.pri.any (fun p => p.port == port && p.pasid == pasid && p.page == page) then
    { s with dtu.pri := s.dtu.pri.map (fun p => if p.port = port ∧ p.pasid = pasid ∧ p.page = page then { p with who := p.who ++ [who] } else p) }
  else { s with dtu.pri := s.dtu.pri ++ [{ group := none, port := port, pasid := pasid, page := page, write := write, who := [who] }] }

/-- Permission is missing for the running channel's next burst (R345, R346 steps 1, 2 and 6). -/
def State.refuse (s : State) (e id : Nat) (r : RunDesc) (a : Nat) : State :=
  let page := a / 4096
  let row := if r.rowPage = page then r.row else 0
  if !bitOf r.d.flags 1 || !s.priUsable r.d.port then s.descFail id r dmXLATE_FAULT 6 a r.pos
  else if s.par 0xC060 3 ≤ row then s.descFail id r dmXLATE_FAULT 0x0A a r.pos
  else
    let r' := { r with parks := min (r.parks + 1) 255, row := row + 1, rowPage := page }
    let s : State := s.modDc id (fun c => { c with run := some r' })
    let s : State := ((s.modEn e (fun x => { x with running := none })).setCh id chPARKED).cnt CH_STATUS_PARKS (id / 16) (id % 16)
    s.priAsk r.d.port r.d.pasid page r.d.toHost (.chan id)

/-- ATS_RESPONSE (R344, R345): the response is kept, and each running channel whose next burst waits for this page is granted, parked or failed. -/
def State.atsResponse (s : State) (port : Nat) (pasid : Option Nat) (page : Nat) (ans : AtsAns) : State :=
  if !s.dtu.ats.contains (port, pasid, page) then s
  else
    let s : State := { s with dtu.ats := s.dtu.ats.erase (port, pasid, page) }
    let s : State := match ans with
      | .grant a r w k => s.atcPut { port := port, pasid := pasid, page := page / 2 ^ k.val * 2 ^ k.val, addr := a.toNat / 4096 / 2 ^ k.val * 2 ^ k.val * 4096, r := r, w := w, size := k.val }
      | .error => s
    (List.range 4).foldl (fun t e => match (t.en e).running with
      | none => t
      | some id => match (t.dc id).run with
        | none => t
        | some r => match t.nextBurst r with
          | none => t
          | some (a, n) =>
            if n = 0 || r.d.inside || r.d.port != port || r.d.pasid != pasid || a / 4096 != page then t
            else match ans with
              | .error => t.descFail id r dmXLATE_FAULT 0x0B a r.pos
              | .grant _ rd wr _ => if (if r.d.toHost then wr else rd) then t else t.refuse e id r a) s

def execAtsResponse (port : Fin 2) (pasid : Option (BitVec 20)) (page : BitVec 52) (ans : AtsAns) (s : State) : Res :=
  .next (s.atsResponse port.val (pasid.map (·.toNat)) page.toNat ans)

/-- ATS_INVALIDATE (R344): the matching entries go at once; the completion follows the bursts issued with them. -/
def State.atsInvalidate (s : State) (port : Nat) (pasid : Option Nat) (page size : Nat) : State :=
  let hits := fun (x : AtcEnt) => x.port == port && x.pasid == pasid && x.page / 2 ^ (max x.size size) == page / 2 ^ (max x.size size)
  ({ s with dtu.atc := s.dtu.atc.filter (fun x => !hits x.2), dtu.inval := s.dtu.inval ++ [(port, pasid, page, size)] } : State).invalSend

def execAtsInvalidate (port : Fin 2) (pasid : Option (BitVec 20)) (page : BitVec 52) (size : Fin 53) (s : State) : Res :=
  .next (s.atsInvalidate port.val (pasid.map (·.toNat)) page.toNat size.val)

/-- PAGE_REQUEST_SEND (R346 steps 3 and 4): the oldest request of the port that has no group takes the lowest free one within the allocation. -/
def State.pageRequestSend (s : State) (port : Nat) : State :=
  let used := (s.dtu.pri.filter (fun p => p.port == port)).filterMap (·.group)
  match s.dtu.pri.find? (fun p => p.port == port && p.group.isNone) with
  | none => s
  | some q =>
    if !s.priUsable port || min (s.prt port).alloc 512 ≤ used.length then s
    else
      let g := lowestFree (used.foldl (fun l i => insertIx i l) []) 0
      let s : State := { s with dtu.pri := s.dtu.pri.map (fun p => if p = q then { p with group := some g } else p) }
      s.emit (.port port "Page Request" (q.page * 512 + g))

def execPageRequestSend (port : Fin 2) (s : State) : Res := .next (s.pageRequestSend port.val)

/-- Parked channels of a request rejoin at the head of their engines' run lists, the lower channel first (R335, R346 step 5). -/
def State.rejoin (s : State) (ids : List Nat) : State :=
  let back := (ids.filter (fun id => (s.dc id).run.isSome && s.chState id == chPARKED)).foldl (fun l i => insertIx i l) []
  let s : State := (List.range 4).foldl (fun t e => t.modEn e (fun x => { x with runs := back.filter (fun id => s.engOf id == e) ++ x.runs })) s
  back.foldl (fun t id => t.setCh id chQUEUED) s

/-- A parked channel's request is answered Invalid, Failure or not at all (R346 step 7): the record XLATE_FAULT with that source. -/
def State.priFail (s : State) (id src : Nat) : State :=
  match (s.dc id).run with
  | some r => if s.chState id = chPARKED then s.descFail id r dmXLATE_FAULT src (match s.nextBurst r with | some (a, _) => a | none => 0) r.pos else s
  | none => s

def whoChans (l : List PriWho) : List Nat := l.filterMap (fun w => match w with | .chan id => some id | _ => none)

/-! ### Engine faults and handover (R348, R522) -/

/-- The descriptors of a channel that have no record go back to their queue, to run from their first byte; an abort already seen stands. -/
def State.chRestart (s : State) (id : Nat) : State :=
  let c := s.dc id
  let back := c.issued ++ c.run.toList
  let n := c.issued.length
  let again := (back.filter (fun r => r.abort != 0)).foldl (fun l r => insertIx r.d.index l) c.marked
  let q := if id % 16 < 14 then back.map (·.d) ++ c.q else []
  let s : State := s.modDc id (fun x => { x with run := none, issued := [], q := q, marked := again })
  let s : State := s.setPtr CH_DQ_HEAD_INDEX CH_DQ_HEAD_LAP id (s.dqLog id) (2 ^ (s.dqLog id + 1) + s.dqHead id - n)
  let s : State := { s with dtu.pri := s.dtu.pri.map (fun p => { p with who := p.who.filter (fun w => w != .chan id) }) }
  if s.chState id = chDISABLED ∨ s.chState id = chERROR then s else s.setCh id chIDLE

/-- An engine leaves service: it runs nothing more, and its channels wait for the handover. -/
def State.engineOut (s : State) (e : Nat) : State :=
  (s.modEn e (fun x => { x with retired := true, handed := false, soft := false, running := none, runs := [] })).wf DE_OUTSTANDING_READS 0 e

/-- DMA_ENGINE_FAULT (R348, R522): a correctable error is corrected; an uncorrectable one retires the engine, C2, or C4 where no engine is left. -/
def State.engineFault (s : State) (e : Nat) (uncorrectable : Bool) : State :=
  if !uncorrectable then (s.cnt DE_ERR_ECC_CORR e).report (srcId DAT (36 + e) 2)
  else if (s.en e).retired then s
  else if (List.range 4).all (fun k => k == e || (s.en k).retired) then s.reportAs (srcId DAT (36 + e) 32) 4
  else (s.engineOut e).report (srcId DAT (36 + e) 3)

def execDmaEngineFault (e : Fin 4) (uncorrectable : Bool) (s : State) : Res := .next (s.engineFault e.val uncorrectable)

/-- The handover (R522): the successor runs the channels of the retired engine and those it had taken over, whose descriptors without a record start again. -/
def State.handover (s : State) (e : Nat) : State :=
  if !(s.en e).retired || (s.en e).handed then s
  else
    let taken := (List.range 4).filter (fun k => k == e || ((s.en k).retired && (List.range ((e + 4 - k) % 4)).all (fun i => (s.en ((k + i) % 4)).retired)))
    let ids := taken.flatMap (fun k => (List.range 16).map (fun c => 16 * k + c))
    let s : State := s.modEn e (fun x => { x with handed := true })
    ids.foldl (fun t id => (t.chRestart id).chEnter id) s

/-- DMA_ENGINE_HANDOVER (R522). -/
def execDmaEngineHandover (e : Fin 4) (s : State) : Res := .next (s.handover e.val)

/-- The owners' set-up of channels 0 to 13 (R330): at step 6 of R488. -/
def State.dmaSetup (s : State) : State :=
  (List.range 4).foldl (fun t e => (List.range 14).foldl (fun u c =>
    ((((u.wf CH_CFG_DQ_LOG2 12 e c).wf CH_CFG_CQ_LOG2 12 e c).wb CH_CFG_EN true e c).wf CH_STATUS_STATE chIDLE e c)) t) s

end Sys2Proof.Machine
end

