-- ==== Sys2Proof/Machine/Flags.lean ====
section
/-! DEFINITION. Flags.lean: the status flags and read-only register fields whose value follows from other state, stored once and computed
here for a register read. -/

namespace Sys2Proof.Machine
open Sys2Proof

/-- A computed field: the field, and its value in instance (i, j). -/
structure View where
  fld : Fld
  val : State → Nat → Nat → Nat

/-- The fault record the FC_ registers show: the active one, or the last (20_faults.md R473). -/
def State.fcRec (s : State) : Option FaultRec := match s.fc.chip with | some r => some r | none => s.fc.last

def fcv (f : FaultRec → Nat) : State → Nat → Nat → Nat := fun s _ _ => match s.fcRec with | some r => f r | none => 0

/-- Recorder state code (22_recorder_health.md R501): 0 RUNNING, 1 FROZEN, 2 FLUSHING, 3 FREEZING. -/
def State.rcState (s : State) : Nat :=
  match s.recd.freeze with
  | .frozen => 1
  | .freezing => 3
  | .running => if s.recd.flushing then 2 else 0

/-- Bits of a list of flags, the first in bit 0. -/
def bitsOf : List Bool → Nat
  | [] => 0
  | b :: r => b.toNat + 2 * bitsOf r

/-- The running evaluation of a lane (09_control_engine.md R216): the first of the cells started on it. -/
def State.laneCell (s : State) (k : Nat) : Option Nat := (tabGet [] s.mlane k).head?

/-- The submission ring and the completion ring that control set j selects (16_miofoest_rings.md R394). -/
def State.selSr (s : State) (j : Nat) : SubRing := tabGet .free s.sr (s.rf RQ_SEL_RING 0 j)
def State.selCr (s : State) (j : Nat) : CompRing := tabGet .free s.cr (s.rf RQ_SEL_RING 0 j)
def rqv (f : SubRing → Nat) (g : CompRing → Nat) : State → Nat → Nat → Nat :=
  fun s _ j => if s.rb RQ_SEL_CR 0 j then g (s.selCr j) else f (s.selSr j)

/-- DMA engine e (14_dma_translation.md R350). -/
def dev (f : State → Nat → Engine → Nat) : State → Nat → Nat → Nat := fun s e _ => f s e (tabGet .reset s.eng e)

/-- Rows left and rows read of the Skimmer's lap over the active PCs (12_buffer_memory.md R303). -/
def State.lapPart (s : State) (f : Nat → Nat) : Nat := (((List.range 16).filter (fun p => s.pcSt p == pcACTIVE)).map f).sum

/-- FLT_N is driven low (20_faults.md R468): HIGHEST is at least FLT_MIN, and always after a C4. -/
def State.fltN (s : State) : Bool := s.rb FC_STATUS_FATAL || decide (s.rf FC_CTRL_FLT_MIN ≤ s.rf FC_STATUS_HIGHEST)

def views : List View :=
  [ -- 02_attached_modules.md, 03_clock_surface.md
    ⟨PL_STATUS_LINK_UP, fun s a _ => if s.rf PL_STATUS_STATE a = 2 then 1 else 0⟩,
    ⟨TRU_STATUS_LOCKED, fun s a _ => if s.rf TRU_STATUS_STATE a = 4 then 1 else 0⟩,
    -- 03_clock_surface.md
    ⟨HT_PHASEh_OUTLIER, fun s a h => if (s.hd (headIx a h)).outliers = 0 then 0 else 1⟩,
    -- 05_front_end.md R119; the mean of the last field is a measurement (log 9)
    ⟨SB_STATUS_SLOT, fun s n _ => ((List.range 4).map (fun k => 4 ^ k * ((tabGet .free (s.ch n).sb k).st % 4))).sum⟩,
    ⟨EQ_MSE_MSE, fun s n _ => if (s.ch n).fieldSeq = 0 then 0 else (Config.realFn 128 [n, (s.ch n).fieldSeq]).toNat⟩,
    -- 07_write_and_stripes.md R192, R193
    ⟨CR_STATUS_CAP_STATE, fun s _ _ => if s.rf CR_STATUS_CAP_STATE = 2 ∧ s.rb CR_CTRL_WRAP = false then 2 else s.rf CR_CTRL_CAP_EN⟩,
    -- 09_control_engine.md R230, R243; the stage in progress is a matter of time (log 6)
    ⟨PG_STATUS_BUSY, fun s _ _ => bitsOf ((List.range 5).map (fun c => (tabGet .reset s.pg c).plan.isSome))⟩,
    ⟨PG_STATUS_QUEUED, fun s _ _ => bitsOf ((List.range 5).map (fun c => (tabGet .reset s.pg c).queued.isSome))⟩,
    ⟨PG_REMc_REM, fun s _ c => match (tabGet .reset s.pg c).plan with
      | some p => 4 * p.1 + 2 * p.2.1 + p.2.2 - (tabGet .reset s.pg c).k
      | none => 0⟩,
    ⟨MC_STATUS_CELL, fun s k _ => (s.laneCell k).getD 0⟩, ⟨MC_STATUS_BUSY, fun s k _ => (s.laneCell k).isSome.toNat⟩,
    ⟨MC_STATUS_SHADOW, fun s k _ => match s.laneCell k with | some n => if 48 ≤ n then 1 else 0 | none => 0⟩,
    ⟨MC_STATUS_STAGE, fun s k _ => match s.laneCell k with | some n => (Config.realFn 244 [k, n, s.free]).toNat | none => 0⟩,
    ⟨MC_STATUS_READY, fun s k _ => (s.cell.filter (fun p => cellLane p.1 == k && decide (p.1 < 48) && p.2.ready.isSome && p.2.run.isNone)).length⟩,
    -- 10_actuators_servo.md R256
    ⟨SK_STATUS_FAILED, fun s _ _ => s.rf IF_STATUS_STUCK / 4⟩, ⟨SK_STATUS_CHATTER, fun s _ _ => s.rf IF_STATUS_CHATTER / 4⟩,
    -- 12_buffer_memory.md R303, 13_pails_and_cache.md R319
    ⟨SKIM_COUNT_PROGRESS, fun s _ _ =>
      let rows := s.lapPart s.lapRows
      if rows = 0 then 0 else min 65535 (65536 * s.lapPart (fun p => min (s.lapRows p) (s.pcv p).row) / rows)⟩,
    ⟨PAIL_STATUS_FREE, fun s p _ => s.poolFree p⟩, ⟨PAIL_STATUS_EMPTY, fun s p _ => if s.poolFree p = 0 then 1 else 0⟩,
    ⟨PAIL_STATUS_LOW, fun s p _ => if s.poolFree p < s.par (0xC040 + p) 4 then 1 else 0⟩, ⟨PAIL_MIN_MIN_FREE, fun s p _ => (s.pl p).minFree⟩,
    -- 14_dma_translation.md R350, 23_security_maintenance.md R522
    ⟨DE_STATUS_RUN_CH, dev (fun _ _ x => match x.running with | some id => id % 16 | none => 0)⟩,
    ⟨DE_STATUS_BUSY, dev (fun _ _ x => x.running.isSome.toNat)⟩,
    ⟨DE_STATUS_FOREIGN, dev (fun _ e x => match x.running with | some id => if id / 16 = e then 0 else 1 | none => 0)⟩,
    ⟨DE_STATUS_QUEUED, dev (fun _ _ x => x.runs.length)⟩,
    ⟨DE_STATUS_PARKED, dev (fun s e _ => bitsOf ((List.range 16).map (fun c => s.rf CH_STATUS_STATE e c == 4)))⟩,
    -- 16_miofoest_rings.md R394
    ⟨RQ_STATUS_STATE, rqv (·.st) (·.st)⟩, ⟨RQ_STATUS_BUSY, rqv (fun r => if r.st = 4 then 1 else 0) (fun _ => 0)⟩,
    ⟨RQ_PTRS_HEAD, rqv (·.head) (fun r => r.head % 2 ^ r.size)⟩, ⟨RQ_PTRS_TAIL, rqv (·.tail) (fun r => r.tail % 2 ^ r.size)⟩,
    ⟨RQ_ERR0_CODE, rqv (·.code) (·.code)⟩, ⟨RQ_ERR0_DETAIL, rqv (·.detail) (·.detail)⟩, ⟨RQ_ERR0_HEAD, rqv (·.errHead) (·.errHead)⟩,
    ⟨RQ_ERR1_CID, rqv (·.cid) (fun _ => 0)⟩, ⟨RQ_ERR2_STAMP, rqv (·.errStamp) (·.errStamp)⟩,
    ⟨RE_STATUS_HAZARD, fun s _ _ => s.cmds.length⟩,
    ⟨RE_STAMP_LO_STAMP, fun s _ _ => s.fetchStamp.toNat⟩, ⟨RE_STAMP_HI_STAMP, fun s _ _ => s.fetchStamp.toNat / 2 ^ 32⟩,
    -- 20_faults.md R473
    ⟨FC_STATUS_ACTIVE, fun s _ _ => if s.fc.chip.isSome then 1 else 0⟩, ⟨FC_STATUS_CLASS, fcv (·.cls)⟩,
    ⟨FC_SOURCE_SOURCE, fcv (·.source)⟩, ⟨FC_SOURCE_OVF, fcv (·.ovf.toNat)⟩, ⟨FC_SOURCE_FORCED, fcv (·.forced.toNat)⟩,
    ⟨FC_CELL_CELL, fcv (·.cell)⟩, ⟨FC_DUP_DUP, fcv (·.dup)⟩, ⟨FC_DUP_MERGES, fcv (·.merges)⟩,
    ⟨FC_MERGED0_MERGED0__MERGED1, fcv (fun r => r.merged.getD 0 0 + 65536 * r.merged.getD 1 0)⟩,
    ⟨FC_MERGED1_MERGED2__MERGED3, fcv (fun r => r.merged.getD 2 0 + 65536 * r.merged.getD 3 0)⟩,
    ⟨FC_INTERRUPT_INTERRUPT, fcv (·.interrupt)⟩,
    ⟨IF_CFGi_FILT, fun s _ j => s.par (0xA020 + j) 1⟩, ⟨IF_CFGi_EDGE_MAX, fun s _ j => s.par (0xA020 + j) 2⟩,
    ⟨IF_CFGi_STUCK_T, fun s _ j => s.par (0xA020 + j) 3⟩,
    -- 22_recorder_health.md R501
    ⟨RC_STATUS_STATE, fun s _ _ => s.rcState⟩, ⟨RC_STATUS_KEEP_FULL, fun s _ _ => if s.recd.cur.keepCount = 16384 then 1 else 0⟩,
    ⟨RC_STATUS_WRAPPED, fun s _ _ => s.recd.cur.wrapped.toNat⟩, ⟨RC_STATUS_STAGED, fun s _ _ => s.recd.staged.length⟩,
    ⟨RC_SEQ_SEQ_NEXT, fun s _ _ => s.recd.cur.seqNext⟩, ⟨RC_RING_WR_IDX, fun s _ _ => s.recd.cur.wrIdx⟩,
    -- 23_security_maintenance.md R525
    ⟨SEC_SVN_MIN_SVN, fun s _ _ => s.sec.minSvn⟩, ⟨SEC_STATUS_REVOKE0, fun s _ _ => s.sec.revoke0.toNat⟩,
    ⟨SEC_QUOTES_COUNT, fun s _ _ => s.sec.quoteCount % 2 ^ 32⟩ ]

/-- The value a read of the field returns: computed where a view says so, stored otherwise. -/
def State.look (s : State) (f : Fld) (i j : Nat) : Nat :=
  match views.find? (fun v => v.fld == f) with
  | some v => v.val s i j % 2 ^ f.width
  | none => s.rf f i j

end Sys2Proof.Machine
end

