-- ==== Sys2Proof/Machine/Registers.lean ====
section
/-! DEFINITION. Registers.lean: register accesses, their checks and bus errors, the control-page windows, the mailbox, and the commit
(18_register_access.md). -/

namespace Sys2Proof.Machine
open Sys2Proof

/-! ### The window (R408, R410, R411) -/

/-- A run of block pages: first window offset, pages, decode size, domain of page k. -/
structure Page where
  base : Nat
  n : Nat
  size : Nat
  dom : Nat → Nat

/-- The block pages of R410 with the decode size each chapter states (4 KiB where it states none) and the domain of R27. -/
def pages : List Page :=
  [⟨0x010000, 1, 64, fun _ => domAON⟩, ⟨0x011000, 1, 32, fun _ => domAON⟩, ⟨0x012000, 1, 16, fun _ => domAON⟩, ⟨0x013000, 1, 64, fun _ => domAON⟩,
   ⟨0x014000, 1, 128, fun _ => domSYS⟩, ⟨0x015000, 1, 4096, fun _ => domSYS⟩, ⟨0x016000, 1, 0x800, fun _ => domMGT⟩, ⟨0x017000, 1, 4096, fun _ => domMGT⟩,
   ⟨0x018000, 1, 32, fun _ => domSYS⟩, ⟨0x019000, 4, 4096, fun _ => domSVC⟩, ⟨0x01D000, 3, 4096, fun _ => domSYS⟩, ⟨0x020000, 1, 64, fun _ => domSYS⟩,
   ⟨0x021000, 1, 4096, fun _ => domSYS⟩, ⟨0x022000, 1, 64, fun _ => domSYS⟩,
   ⟨0x210000, 2, 4096, fun k => domPX k⟩, ⟨0x212000, 2, 4096, fun k => domPX k⟩, ⟨0x214000, 1, 256, fun _ => domQUE⟩, ⟨0x215000, 1, 4096, fun _ => domQUE⟩,
   ⟨0x216000, 1, 4096, fun _ => domOBJ⟩,
   ⟨0x410000, 16, 32, fun _ => domBUF⟩, ⟨0x420000, 2, 32, fun _ => domBUF⟩, ⟨0x430000, 16, 32, fun _ => domBUF⟩, ⟨0x440000, 1, 64, fun _ => domMCC⟩,
   ⟨0x441000, 1, 4096, fun _ => domBUF⟩, ⟨0x450000, 4, 0x400, fun _ => domDMA⟩, ⟨0x458000, 1, 4096, fun _ => domDMA⟩,
   ⟨0x610000, 4, 64, fun _ => domMOT⟩, ⟨0x614000, 1, 128, fun _ => domMOT⟩, ⟨0x618000, 4, 32, fun _ => domMOT⟩, ⟨0x61C000, 4, 16, fun _ => domMOT⟩,
   ⟨0x620000, 1, 16, fun _ => domMOT⟩, ⟨0x621000, 1, 64, fun _ => domSPN⟩,
   ⟨0x810000, 32, 0x800, fun k => domQ (k / 4)⟩, ⟨0x830000, 64, 64, fun k => if k < 32 then domCHA else domCHB⟩, ⟨0x870000, 4, 256, fun _ => domMOT⟩,
   ⟨0x874000, 4, 8, fun _ => domMOT⟩, ⟨0x878000, 1, 64, fun _ => domCHA⟩]

/-- Pages of units that the ODC7-A22 lacks (R2, R410). -/
def State.pageAbsent (s : State) (off : Nat) : Bool :=
  match s.part with
  | .a44 => false
  | .a22 => decide ((0x820000 ≤ off ∧ off < 0x830000) ∨ (0x850000 ≤ off ∧ off < 0x870000) ∨ (0x872000 ≤ off ∧ off < 0x874000)
      ∨ (0x876000 ≤ off ∧ off < 0x878000) ∨ (0x61A000 ≤ off ∧ off < 0x61C000) ∨ (0x61E000 ≤ off ∧ off < 0x620000))

/-- Where an address lies (R408). -/
inductive Area18 where
  | control (r o : Nat)
  | block (base : Nat) (dom : Nat)
  | doorbell (c : Nat)
  | masked (r o half : Nat)
  | bits (r o bit : Nat)
  | unassigned
  deriving DecidableEq, Repr

/-- The block page of an address: its offset reduced by the decode size (R411). -/
def State.blockArea (s : State) (off : Nat) : Area18 :=
  if s.pageAbsent off then .unassigned
  else match pages.find? (fun p => decide (p.base ≤ off) && decide (off < p.base + 0x1000 * p.n)) with
    | some p => let k := (off - p.base) / 0x1000
                .block (p.base + 0x1000 * k + (off % 0x1000) % p.size) (p.dom k)
    | none => .unassigned

/-- R408, R410: the area of a window offset. -/
def State.area18 (s : State) (off : Nat) : Area18 :=
  if off < 0xA00000 then
    let r := off / 0x200000
    let o := off % 0x200000
    if o < 0x8000 then .control r o
    else if r = 1 ∧ 0x100000 ≤ o then .doorbell ((o - 0x100000) / 4)
    else s.blockArea off
  else if off < 0xA50000 then
    let c := (off - 0xA00000) / 8 * 4
    .masked (c / 0x8000) (c % 0x8000) ((off - 0xA00000) / 4 % 2)
  else if 0xB00000 ≤ off then
    let c := (off - 0xB00000) / 128 * 4
    .bits (c / 0x8000) (c % 0x8000) ((off - 0xB00000) / 4 % 32)
  else .unassigned

/-- Instance of a field at a canonical block address, for requester q (banked registers). -/
def Fld.at (f : Fld) (q addr : Nat) : Option (Nat × Nat) :=
  let t := if f.si = 0x1000000 then addr + q * 0x1000000 else addr
  if t < f.base then none
  else
    let d := t - f.base
    let i := if f.si = 0 then 0 else d / f.si
    let r := if f.si = 0 then d else d % f.si
    let j := if f.sj = 0 then 0 else r / f.sj
    if i < f.ni ∧ j < f.nj ∧ r = j * f.sj then some (i, j) else none

/-- The fields of the register at a canonical address. Requester 2 has no copy of the object dictionary block (19_object_dictionary.md R453). -/
def fieldsAt (q addr : Nat) : List (Fld × Nat × Nat) :=
  if q = 2 ∧ 0x16000 ≤ addr ∧ addr < 0x17000 then [] else
  allFlds.filterMap (fun f => (f.at q addr).map (fun p => (f, p.1, p.2)))

/-- The control-page register at offset o of region r: its fields (R415). -/
def ctlFields (r o : Nat) : List (Fld × Nat × Nat) := fieldsAt 0 (r * 0x200000 + o)

/-! ### Bus errors (R418, R422, R423) -/

def busUNASSIGNED : Nat := 1
def busSIZE : Nat := 2
def busDIRECT : Nat := 3
def busWINDOW : Nat := 4
def busLOCKED : Nat := 5
def busPOWERED_OFF : Nat := 6
def busTIMEOUT : Nat := 7
def busCOMMIT_BUSY : Nat := 8

/-- A bus error: REG_ERR names the first while COUNT = 0, COUNT counts each, and the source is reported (R423, R553). -/
def State.busError (s : State) (q off cause : Nat) (wr : Bool) : State :=
  let s : State := if s.rf REG_ERR_INFO_COUNT = 0 then
      ((((s.wf REG_ERR_ADDR_ADDR off).wf REG_ERR_INFO_REQ q).wb REG_ERR_INFO_WRITE wr).wf REG_ERR_INFO_CAUSE cause) else s
  (s.cnt REG_ERR_INFO_COUNT).report (srcId SYS 18 cause) q off

/-- The status that a bus error gives at the register gateway (19_object_dictionary.md R436). -/
def gwStatus (cause : Nat) : Nat :=
  match cause with
  | 0 => 0x00
  | 5 => 0x0B
  | 6 => 0x0C
  | 7 => 0x0D
  | 8 => 0x07
  | _ => 0x0E

/-- The ODC7 answers on an open session (19_object_dictionary.md R444): the next SEQ of its direction; the response is kept. -/
def State.zlPut (s : State) (slot type status : Nat) (payload : List Byte) : State :=
  match tabFind s.zl.sessions slot with
  | none => s
  | some x =>
    let n := (x.txSeq + 1) % 2 ^ 32
    let r : Resp := { type := type, seq := n, status := status, payload := payload }
    ({ s with zl.sessions := tabSet s.zl.sessions slot { x with txSeq := n, lastResp := some r } } : State).emit (.zalene type x.number n status payload)

/-- The payload of a READ response (R441): type code, reserved, length, value. -/
def readPayload (code : Nat) (v : List Byte) : List Byte := leBytes 1 code ++ leBytes 1 0 ++ leBytes 2 v.length ++ v

/-- The payload of a SEG_READ response (R441): total, part length, reserved, part. -/
def segPayload (total : Nat) (part : List Byte) : List Byte := leBytes 4 total ++ leBytes 2 part.length ++ leBytes 2 0 ++ part

/-- The payload of a SEG_ACK (R441): next offset, reserved. -/
def ackPayload (next : Nat) : List Byte := leBytes 4 next ++ leBytes 4 0

/-- Byte i of a value replaces byte i of OD_DATA; bytes beyond the value keep what they hold. -/
def State.hostData (s : State) (q : Nat) (v : List Byte) : State :=
  (List.range ((v.length + 3) / 4)).foldl (fun t i =>
    let old := t.rf OD_DATA_DATA q i
    let part := (v.drop (4 * i)).take 4
    t.wf OD_DATA_DATA (leNat (part ++ (leBytes 4 old).drop part.length)) q i) s

/-- A request of the host path ends (R453): STATUS, RLEN, DONE; GO and BUSY clear. -/
def State.hostDone (s : State) (q status : Nat) (v : List Byte) : State :=
  ((((((s.hostData q v).wf OD_STATUS_STATUS status q).wf OD_STATUS_RLEN v.length q).wb OD_STATUS_DONE true q).wb OD_STATUS_BUSY false q)).wb OD_CTRL_GO false q

/-- The answer to a gateway request that waited, a U32 where it read (R436). -/
def State.odReply (s : State) (w : OdWho) (status : Nat) (v : List Byte) : State :=
  match w with
  | .raw src => s.emit (.od src status v)
  | .host q => (if status = 0 ∧ v ≠ [] then s.wf OD_TOTAL_TOTAL v.length q else s).hostDone q status v
  | .zalene slot type =>
    s.zlPut slot type status (if type = 0x25 then ackPayload 4 else if status ≠ 0 ∨ v = [] then [] else if type = 0x22 then segPayload v.length v else readPayload 0x04 v)

/-- A gateway access that waited ends: its request is answered (R431). -/
def State.gatewayEnd (s : State) (cause value : Nat) : State :=
  match s.odWait with
  | none => s
  | some (w, wr) => ({ s with odWait := none } : State).odReply w (gwStatus cause) (if wr || cause != 0 then [] else leBytes 4 value)

/-- How a bus error reaches its requester (R418): Completer Abort on a port's read, nothing for a port's write, an exception of a
service core, the ERR flag of the trace unit; the dictionary engine takes the cause itself. -/
def State.busReply (s : State) (q cause : Nat) (wr : Bool) : State :=
  if q < 2 then (if wr then s else s.emit (.bus q cause 0))
  else if q = 2 then s.gatewayEnd cause 0
  else if q < 7 then s.emit (.exception (q - 3))
  else s.emit (.bus q cause 0)

/-! ### Reads -/

/-- The word of the register at a canonical address: WO fields read 0 (R7). -/
def State.wordAt (s : State) (fs : List (Fld × Nat × Nat)) : Nat :=
  fs.foldl (fun v p => if p.1.acc = .wo then v else v + s.look p.1 p.2.1 p.2.2 * 2 ^ p.1.lo) 0

/-- A read clears the RC fields of the register (R7). -/
def State.clearRc (s : State) (fs : List (Fld × Nat × Nat)) : State :=
  fs.foldl (fun t p => if p.1.acc = .rc then t.wf p.1 0 p.2.1 p.2.2 else t) s

/-- A region of SYS block pages that restarts answers POWERED_OFF (20_faults.md R465). -/
def State.domOff (s : State) (off d : Nat) : Bool := (s.dom d != 3 && d != domAON) || (s.fc.restarting.contains SYS && decide (0x14000 ≤ off ∧ off < 0x23000))

/-- The domain is powering on: an exit or the start-up is bringing it up (R417 step 3). -/
def State.domRising (s : State) (d : Nat) : Bool := s.pwr.kind == .exit && s.dom d != 3 && d != domAON

/-- A register read's result: bus-error cause (0 none) or a wait, the value, and the state. -/
structure Answer18 where
  cause : Nat
  waits : Bool
  value : Nat
  st : State

/-- A read by requester q (R409 to R412, R417). -/
def State.regRead (s : State) (q off size : Nat) : Answer18 :=
  if size ≠ 4 ∨ off % 4 ≠ 0 then ⟨busSIZE, false, 0, s⟩
  else match s.area18 off with
    | .unassigned => ⟨busUNASSIGNED, false, 0, s⟩
    | .control r o =>
      if s.dom domSYS ≠ 3 then ⟨busPOWERED_OFF, false, 0, s⟩
      else ⟨0, false, s.wordAt (ctlFields r o), s.clearRc (ctlFields r o)⟩
    | .masked r o h =>
      if s.dom domSYS ≠ 3 then ⟨busPOWERED_OFF, false, 0, s⟩ else ⟨0, false, s.wordAt (ctlFields r o) / 2 ^ (16 * h) % 65536, s⟩
    | .bits r o b =>
      if s.dom domSYS ≠ 3 then ⟨busPOWERED_OFF, false, 0, s⟩ else ⟨0, false, s.wordAt (ctlFields r o) / 2 ^ b % 2, s⟩
    | .doorbell c => if s.dom domQUE ≠ 3 then ⟨busPOWERED_OFF, false, 0, s⟩ else ⟨0, false, tabGet 0 s.crDoor c, s⟩
    | .block a d =>
      if s.domRising d then ⟨0, true, 0, s⟩
      else if s.domOff a d then ⟨busPOWERED_OFF, false, 0, s⟩
      else ⟨0, false, s.wordAt (fieldsAt q a), s.clearRc (fieldsAt q a)⟩

/-! ### Writes -/

/-- A field's new value under its access code (R7) when the mask m selects its bits: RW and RWS store (RWS outside Service mode),
RWC stages, W1C clears; the others act through their register's own command. -/
def State.writeFld (s : State) (f : Fld) (i j v m : Nat) : State :=
  let v' := v / 2 ^ f.lo % 2 ^ f.width
  let m' := m / 2 ^ f.lo % 2 ^ f.width
  let old := s.rf f i j
  let new := Nat.xor (Nat.land old (Nat.xor m' (2 ^ f.width - 1))) (Nat.land v' m')
  match f.acc with
  | .rw => s.wf f new i j
  | .rwc => s.wf f new i j
  | .rws => if s.mode = modeService then s else s.wf f new i j
  | .w1c => s.wf f (Nat.land old (Nat.xor (Nat.land v' m') (2 ^ f.width - 1))) i j
  | .w1s => s
  | .wo => s
  | .rc => s
  | .ro => s

/-- REGION_WR_EN bit q of region r (R415). -/
def State.wrEn (s : State) (q r : Nat) : Bool := s.rbit REGION_WR_EN_REQ q r

/-- A commit is CHECKING or APPLYING (R424). -/
def State.commitBusy (s : State) : Bool := s.rf CFG_STATUS_STATE != 0

/-- Register writes that a rule of the block makes void: SEC_CTRL from others than service cores (23_security_maintenance.md R525), the
channel registers of DMA channels 0 to 13, and bases and sizes while EN = 1 (14_dma_translation.md R330, R351). -/
def State.writeVoid (s : State) (q a : Nat) (f : Fld) (i j : Nat) : Bool :=
  (a == 0x1800C && !(3 ≤ q && q ≤ 6))
  || (decide (0x450100 ≤ a ∧ a < 0x454000 ∧ 0x100 ≤ a % 0x1000) && (decide (j < 14)
      || ((f == CH_DQ_BASE_BASE || f == CH_CQ_BASE_BASE || f == CH_CFG_DQ_LOG2 || f == CH_CFG_CQ_LOG2) && s.rf CH_CFG_EN i j == 1)))

/-- A window write to a control-page register (R412 to R414): value bits under mask m. WO fields of the control pages act only on 1. -/
def State.ctlWrite (s : State) (r o v m : Nat) : State :=
  (ctlFields r o).foldl (fun t p => t.writeFld p.1 p.2.1 p.2.2 v m) s

/-- A write by requester q: the cause of a bus error (0 none), whether it waits, and the state. Effects of W1S and WO bits are the
register's own command. -/
def State.regWrite (s : State) (q off size v : Nat) : Answer18 :=
  if size ≠ 4 ∨ off % 4 ≠ 0 then ⟨busSIZE, false, 0, s⟩
  else match s.area18 off with
    | .unassigned => ⟨busUNASSIGNED, false, 0, s⟩
    | .control _ _ => ⟨busDIRECT, false, 0, s⟩
    | .masked r o h =>
      if s.mode = modeService then ⟨busWINDOW, false, 0, s⟩
      else if o ≠ 4 ∧ !s.wrEn q r then ⟨busLOCKED, false, 0, s⟩
      else if s.dom domSYS ≠ 3 then ⟨busPOWERED_OFF, false, 0, s⟩
      else ⟨0, false, 0, s.ctlWrite r o (v % 65536 * 2 ^ (16 * h)) (v / 65536 % 65536 * 2 ^ (16 * h))⟩
    | .bits r o b =>
      if s.mode ≠ modeService then ⟨busWINDOW, false, 0, s⟩
      else if o ≠ 4 ∧ !s.wrEn q r then ⟨busLOCKED, false, 0, s⟩
      else if s.dom domSYS ≠ 3 then ⟨busPOWERED_OFF, false, 0, s⟩
      else ⟨0, false, 0, s.ctlWrite r o (v % 2 * 2 ^ b) (2 ^ b)⟩
    | .doorbell _ =>
      if !s.wrEn q HST then ⟨busLOCKED, false, 0, s⟩
      else if s.dom domQUE ≠ 3 then ⟨busPOWERED_OFF, false, 0, s⟩ else ⟨0, false, 0, s⟩
    | .block a d =>
      if !s.wrEn q (a / 0x200000) then ⟨busLOCKED, false, 0, s⟩
      else if s.domRising d then ⟨0, true, 0, s⟩
      else if s.domOff a d then ⟨busPOWERED_OFF, false, 0, s⟩
      else
        let fs := fieldsAt q a
        if s.commitBusy && fs.any (fun p => p.1.acc == .rwc) then ⟨busCOMMIT_BUSY, false, 0, s⟩
        else ⟨0, false, 0, fs.foldl (fun t p => if t.writeVoid q a p.1 p.2.1 p.2.2 then t else t.writeFld p.1 p.2.1 p.2.2 v 0xFFFFFFFF) s⟩

/-- A write's end: a bus error is logged and answered; a wait is kept (R417 step 3). -/
def State.endWrite (s : State) (q off v : Nat) (r : Answer18) : State :=
  if r.waits then { s with crossing := tabSet s.crossing q { off := off, wr := some v } }
  else if r.cause ≠ 0 then (s.busError q off r.cause true).busReply q r.cause true
  else if q = 2 then r.st.gatewayEnd 0 0 else r.st

/-- A read's end: the value goes to the requester. -/
def State.endRead (s : State) (q off : Nat) (r : Answer18) : State :=
  if r.waits then { s with crossing := tabSet s.crossing q { off := off, wr := none } }
  else if r.cause ≠ 0 then (s.busError q off r.cause false).busReply q r.cause false
  else if q = 2 then r.st.gatewayEnd 0 r.value else r.st.emit (.bus q 0 r.value)

end Sys2Proof.Machine
end

