-- ==== Sys2Proof/Machine/Mailbox.lean ====
section
/-! DEFINITION. Mailbox.lean: the control-page windows as commands, the mailbox and the configuration commit (18_register_access.md R412
to R424). -/

namespace Sys2Proof.Machine
open Sys2Proof

/-- REGISTER_ACCESS_TIMEOUT (R417 step 5): an access that waits in its crossing ends with TIMEOUT, C1; a late response is discarded. -/
def execRegisterAccessTimeout (q : Fin 8) (s : State) : Res :=
  match tabFind s.crossing q.val with
  | none => .next s
  | some a =>
    let s : State := { s with crossing := tabDel s.crossing q.val }
    .next ((s.busError q.val a.off busTIMEOUT a.wr.isSome).busReply q.val busTIMEOUT a.wr.isSome)

/-- Window offset of the alias word of bit b of the register at control offset C (R413). -/
def aliasAddr (r o b : Nat) : Nat := 0xB00000 + (r * 0x8000 + o) * 32 + b * 4

/-- Window offset of the masked-write word of half h (R414). -/
def maskedAddr (r o h : Nat) : Nat := 0xA00000 + 2 * (r * 0x8000 + o) + 4 * h

/-- BIT_ALIAS_WRITE (R413) to the register number o of region r's control page (offset 4 o). -/
def execBitAliasWrite (q : Fin 8) (r : Fin 5) (o : BitVec 13) (bit : Fin 32) (v : Word) (s : State) : Res :=
  let a := aliasAddr r.val (4 * o.toNat) bit.val
  .next (s.endWrite q.val a v.toNat (s.regWrite q.val a 4 v.toNat))

/-- MASKED_WRITE (R414) to half h of the register number o of region r's control page. -/
def execMaskedWrite (q : Fin 8) (r : Fin 5) (o : BitVec 13) (half : Fin 2) (v : Word) (s : State) : Res :=
  let a := maskedAddr r.val (4 * o.toNat) half.val
  .next (s.endWrite q.val a v.toNat (s.regWrite q.val a 4 v.toNat))

/-! ### The mailbox (R419, R420) -/

/-- A wide value: width, writable, owner's region and domain. -/
structure Wide where
  width : Nat
  rw : Bool
  region : Nat
  dom : Nat

/-- The wide values of R419. -/
def wideOf (wid : Nat) : Option Wide :=
  match wid with
  | 1 => some ⟨72, true, DAT, domBUF⟩
  | 2 => some ⟨64, false, HST, domQUE⟩
  | 3 => some ⟨64, false, SYS, domSYS⟩
  | 4 => some ⟨64, false, SYS, domSYS⟩
  | _ => none

def State.wideVal (s : State) (wid : Nat) : Nat :=
  match wid with
  | 1 => s.flipMask.toNat
  | 2 => s.fetchStamp.toNat
  | 3 => s.writeGen.toNat
  | 4 => s.coreTime.toNat
  | _ => 0

/-- RESULT codes of R420, in the order in which they are given. -/
def State.mbxResult (s : State) (q wid : Nat) (wr late : Bool) : Nat :=
  match wideOf wid with
  | none => 1
  | some w =>
    if wr && !w.rw then 2
    else if wr && !s.wrEn q w.region then 5
    else if s.dom w.dom ≠ 3 then 3
    else if late then 4
    else 0

/-- The mailbox words of requester q as one number. -/
def State.mbxData (s : State) (q : Nat) : Nat :=
  s.rf MBX_DATA_DATA q 0 + 2 ^ 32 * s.rf MBX_DATA_DATA q 1 + 2 ^ 64 * s.rf MBX_DATA_DATA q 2 + 2 ^ 96 * s.rf MBX_DATA_DATA q 3

/-- A whole value into the mailbox words; bits beyond its width read 0 (R419). -/
def State.setMbxData (s : State) (q v : Nat) : State :=
  (((s.wf MBX_DATA_DATA v q 0).wf MBX_DATA_DATA (v / 2 ^ 32) q 1).wf MBX_DATA_DATA (v / 2 ^ 64) q 2).wf MBX_DATA_DATA (v / 2 ^ 96) q 3

/-- A mailbox transfer, steps 1 to 4 of R420; GO while BUSY has no effect. -/
def State.mbxGo (s : State) (q : Nat) (late : Bool) : State :=
  if s.rb MBX_STATUS_BUSY q then s
  else
    let wid := s.rf MBX_CTRL_WID q
    let wr := s.rb MBX_CTRL_WRITE q
    let res := s.mbxResult q wid wr late
    let s : State := ((s.wb MBX_STATUS_VALID false q).wb MBX_STATUS_BUSY false q).wf MBX_STATUS_RESULT res q
    if res ≠ 0 then s
    else if wr then { s with flipMask := BitVec.ofNat 72 (s.mbxData q) }
    else (s.setMbxData q (s.wideVal wid)).wb MBX_STATUS_VALID true q

/-- MBX_GO (R420). -/
def execMbxGo (q : Fin 8) (late : Bool) (s : State) : Res := .next (s.mbxGo q.val late)

/-! ### The commit (R424) -/

/-- R424 step 1: a GO taken while IDLE freezes the staged set. -/
def State.commitGo (s : State) (q : Nat) : State :=
  if s.commitBusy then s
  else
    { (((((((s.wf CFG_STATUS_STATE 1).wf CFG_STATUS_REQ q).wb CFG_STATUS_DONE false).wb CFG_STATUS_REFUSED false).wb CFG_STATUS_CRC_BAD false).wb
        CFG_STATUS_BOOT false)) with commitBoot := false }

/-- CFG_COMMIT_GO (R424 step 1). -/
def execCfgCommitGo (q : Fin 8) (s : State) : Res := .next (s.commitGo q.val)

/-- The start-up commit of R488 step 7 starts: no CRC check, BOOT = 1, REQ = 0 (R424). -/
def State.commitGoBoot (s : State) : State :=
  if s.commitBusy then s else { (s.commitGo 0).wb CFG_STATUS_BOOT true with commitBoot := true }

/-- A commit is refused (R424 steps 3 and 4): the running configuration is unchanged. A refused start-up commit leaves the part in
Recovery mode (R488 step 7). -/
def State.commitRefuse (s : State) (reason ix sub : Nat) (crcBad : Bool) : State :=
  let t : State := ((((s.wb CFG_STATUS_REFUSED true).wb CFG_STATUS_CRC_BAD crcBad).wf CFG_STATUS_REASON reason).wb CFG_STATUS_DONE true).wf CFG_STATUS_STATE 0
  let t : State := { t with failIndex := ix, failSub := sub }
  if s.commitBoot then { t.setMode modeRecovery with sec.modeCause := 5 } else t

/-- R424 step 5: the commit point. Entries that blocks hold in working copies follow: zone tables and parameters are read where used. -/
def State.commitPass (s : State) : State :=
  let s : State := s.release
  let s : State := ((s.wf CFG_STATUS_STATE 2).wf CFG_STATUS_REASON 0).wf CFG_CRC_RUNNING_CRC (s.rf CFG_CRC_STAGED_CRC)
  { s.setAdmission (admit0 0) with failIndex := 0, failSub := 0 }

/-- Steps 2 to 5 of R424. -/
def State.commitChecked (s : State) : State :=
  if s.rf CFG_STATUS_STATE ≠ 1 then s
  else
    let s : State := s.wf CFG_CRC_STAGED_CRC s.cfgCrc
    if !s.commitBoot && s.rb CFG_CTRL_CRC_REQ && s.rf CFG_CRC_STAGED_CRC != s.rf CFG_CRC_EXPECT_CRC (s.rf CFG_STATUS_REQ) then
      s.commitRefuse 1 0 0 true
    else match s.commitChecks with
      | some (reason, ix, sub, some a) => (s.setAdmission a).commitRefuse reason ix sub false
      | some (reason, ix, sub, none) => s.commitRefuse reason ix sub false
      | none => s.commitPass

/-- CFG_CHECKS_DONE (R424 steps 2 to 5). -/
def execCfgChecksDone (s : State) : Res := .next s.commitChecked

/-- R424 step 6. -/
def State.commitStored (s : State) : State :=
  if s.rf CFG_STATUS_STATE = 2 then ((s.saveStore).wb CFG_STATUS_DONE true).wf CFG_STATUS_STATE 0 else s

/-- CFG_MRAM_WRITTEN (R424 step 6). -/
def execCfgMramWritten (s : State) : Res := .next s.commitStored

/-- CFG_DISCARD (R422): acts only while IDLE. -/
def execCfgDiscard (_q : Fin 8) (s : State) : Res := .next (if s.commitBusy then s else s.discard)

end Sys2Proof.Machine
end

