-- ==== Sys2Proof/Machine/Recorder.lean ====
section
/-! DEFINITION. Recorder.lean: the event recorder and the health monitor (22_recorder_health.md). -/

namespace Sys2Proof.Machine
open Sys2Proof

/-! ### Records (R491) -/

/-- Bytes 0 to 59 of a record. -/
def Rec.body (r : Rec) : List Byte :=
  leBytes 4 r.seq ++ leBytes 1 r.kind ++ leBytes 1 (r.cls % 8 + 8 * r.ovf.toNat + 16 * r.forced.toNat) ++ leBytes 2 r.source
  ++ leBytes 8 r.time ++ leBytes 4 (r.cell % 2 ^ 20) ++ leBytes 2 r.dup ++ leBytes 1 r.merges ++ leBytes 1 0
  ++ leBytes 2 (r.merged.getD 0 0) ++ leBytes 2 (r.merged.getD 1 0) ++ leBytes 2 (r.merged.getD 2 0) ++ leBytes 2 (r.merged.getD 3 0)
  ++ leBytes 2 r.interrupt ++ leBytes 1 r.power ++ leBytes 1 0 ++ leBytes 4 r.detail ++ leBytes 6 r.hostTime ++ leBytes 2 0
  ++ leBytes 4 r.ext0 ++ leBytes 4 r.ext1 ++ leBytes 4 0

/-- The 64 bytes of a record, with its CRC-32C. -/
def Rec.bytes (r : Rec) : List Byte := r.body ++ leBytes 4 (crc32c r.body)

/-! ### Storing (R494, R495) -/

/-- One record goes to the keep area (SEQ below 16,384) or to the ring (R494). -/
def Recorder.store (d : Recorder) (r : Rec) : Recorder :=
  if r.seq < 16384 then { d with keep := tabSet d.keep r.seq r, cur.keepCount := max d.cur.keepCount (r.seq + 1) }
  else
    let last := d.cur.wrIdx + 1 = 16384
    { d with
      ring := tabSet d.ring d.cur.wrIdx r,
      cur := { d.cur with
        wrIdx := (d.cur.wrIdx + 1) % 16384, wrapped := d.cur.wrapped || last, laps := if last then d.cur.laps + 1 else d.cur.laps } }

/-- The header is written to the next slot with the next generation (R495). -/
def Recorder.writeHeader (d : Recorder) : Recorder :=
  { d with cur.gen := d.cur.gen + 1, header := { d.cur with gen := d.cur.gen + 1 } }

/-- A flush copies the staged records to the MRAM in SEQ order and writes the header (R494). -/
def Recorder.flush (d : Recorder) : Recorder :=
  ({ d.staged.foldl Recorder.store d with staged := [] }).writeHeader

/-- Staged records may go to the MRAM: not frozen (R497), not after the last header of a power failure (R496). -/
def State.mramOpen (s : State) : Bool := s.recd.freeze != .frozen && !s.recd.blocked

/-- RECORDER_FLUSH (R494): the flush in progress completes; a pending freeze then takes hold (R497). -/
def execRecorderFlush (s : State) : Res :=
  if s.recd.flushing && s.mramOpen then
    let s : State := s.wb RC_CTRL_FLUSH false
    .next { s with recd := { s.recd.flush with flushing := false, freeze := if s.recd.freeze = .freezing then .frozen else s.recd.freeze } }
  else .next s

/-- FLUSH_TIMER (R494): 1 s since the last flush starts a flush; the rate count restarts (R493). -/
def execFlushTimer (s : State) : Res := .next ({ s with recd.rate := 0 } : State).startFlush

/-- RC_FLUSH (R494): RC_CTRL.FLUSH or CMD FLUSH. -/
def State.rcFlush (s : State) : State := (s.wb RC_CTRL_FLUSH true).startFlush
def execRcFlush (s : State) : Res := .next s.rcFlush

/-! ### Freeze (R497) -/

/-- The end of a freeze stages FREEZE_END and flushes. -/
def State.endFreeze (s : State) : State :=
  if s.recd.freeze = .running then s
  else (({ s with recd.freeze := .running } : State).mark 0x04 s.recd.lostInFreeze).startFlush

/-- A freeze: recorder writes stop once a flush in progress has completed; no effect while frozen. -/
def State.rcFreeze (s : State) : State :=
  if s.recd.freeze = .running then { s with recd.freeze := if s.recd.flushing then .freezing else .frozen, recd.lostInFreeze := 0 } else s

def execRcFreeze (s : State) : Res := .next s.rcFreeze

/-- RC_THAW, and the end of FREEZE_LIMIT (R497). -/
def execRcThaw (s : State) : Res := .next s.endFreeze
def execFreezeLimitExpiry (s : State) : Res := .next s.endFreeze

/-! ### Staging (R493) -/

/-- The record is a C0 or C1 record, which the buffer limits at 448 and at REC_RATE. -/
def Rec.minor (r : Rec) : Bool := decide (r.kind ≤ 1) && decide (r.cls ≤ 1)

/-- A record of a class in the EVENT_MASK of a session is queued for it (19_object_dictionary.md R450). -/
def State.queueEvents (s : State) (r : Rec) : State :=
  { s with zl.sessions := s.zl.sessions.map (fun p =>
      if bitOf (s.src 0x1020 6 (8 + p.1) 0) r.cls then
        (p.1, if p.2.queue.length < 64 then { p.2 with queue := p.2.queue ++ [r] } else { p.2 with lost := p.2.lost + 1 })
      else p) }

/-- A record enters the staging buffer, is lost or is suppressed. -/
def State.stage (s : State) (r : Rec) : State :=
  if r.minor && decide (s.par 0x9000 7 < s.recd.rate) then
    ({ s with recd.cur.suppressed := min (s.recd.cur.suppressed + 1) (2 ^ 32 - 1) } : State).cnt RC_LOST_SUPPRESSED
  else if (if r.minor then 448 else 512) ≤ s.recd.staged.length then
    ({ s with recd.cur.lost := min (s.recd.cur.lost + 1) (2 ^ 32 - 1),
              recd.lostInFreeze := if s.recd.freeze = .frozen then s.recd.lostInFreeze + 1 else s.recd.lostInFreeze } : State).cnt RC_LOST_LOST
  else
    let r := { r with seq := s.recd.cur.seqNext }
    let s : State := { s with recd.staged := s.recd.staged ++ [r], recd.cur.seqNext := s.recd.cur.seqNext + 1,
                              recd.rate := if r.minor then s.recd.rate + 1 else s.recd.rate }
    let s : State := s.queueEvents r
    if r.kind = 0 ∧ 3 ≤ r.cls then s.endFreeze.startFlush
    else if 256 ≤ s.recd.staged.length ∨ s.pwr.pfail then s.startFlush
    else s

/-- RECORD_STAGE (R493): the next waiting record enters; a C0 or C1 chip record then closes (R460). -/
def execRecordStage (s : State) : Res :=
  match s.recd.inbox with
  | [] => .next s
  | (chip, r) :: l =>
    let t : State := ({ s with recd.inbox := l } : State).stage r
    .next (if chip && r.minor then t.closeChip else t)

/-! ### Clear and read (R498, R499) -/

/-- A clear outside Service mode and not during a freeze: flush, zero the counts in a new header, count it, stage CLEARED as record 0. -/
def State.rcClear (s : State) : State :=
  if s.mode = modeService ∨ s.recd.freeze ≠ .running then s
  else
    let d := s.recd.flush
    let d := ({ d with cur.keepCount := 0, cur.wrIdx := 0, cur.wrapped := false, cur.seqNext := 0 }).writeHeader
    let d := { d with cur.clearCount := d.cur.clearCount + 1, flushing := false }
    let r := s.mkRec 3 0 0 0 0x01 d.cur.clearCount 0
    { s with recd := { d with staged := [r], cur.seqNext := 1 } }

def execRcClear (s : State) : Res := .next s.rcClear

/-- The record of a slot, or none beyond the counts (R498, R499): area 0 keep, 1 ring. -/
def State.rcSlot (s : State) (area ix : Nat) : Option Rec :=
  if area = 0 then (if ix < s.recd.cur.keepCount then tabFind s.recd.keep ix else none)
  else if s.recd.cur.wrapped || decide (ix < s.recd.cur.wrIdx) then tabFind s.recd.ring ix else none

/-- The 16 data words of a record. -/
def recWords (b : List Byte) : List Nat := (List.range 16).map (fun w => leNat ((b.drop (4 * w)).take 4))

/-- RC_READ_GO (R499): one record, whole; a slot whose CRC fails gives CORRUPT, and its words are what the slot holds, which the spec
does not state: free values (log 1). -/
def State.rcRead (s : State) (q : Nat) (corrupt : Bool) : State :=
  match s.rcSlot (s.rf RC_READ_AREA q) (s.rf RC_READ_INDEX q) with
  | none => s.wf RC_READ_RESULT 3 q
  | some r =>
    let ws := if corrupt then (List.range 16).map (fun w => (Config.freeValue (s.free + w)).toNat) else recWords r.bytes
    let t : State := (List.range 16).foldl (fun t w => t.wf RC_DATA_DATA (ws.getD w 0) q w) s
    let t : State := if corrupt then { t with free := t.free + 16 } else t
    t.wf RC_READ_RESULT (if corrupt then 4 else 2) q

def execRcReadGo (q : Fin 8) (corrupt : Bool) (s : State) : Res := .next (s.rcRead q.val corrupt)

/-- PFAIL_HEADER_FINAL (R496 step 4): the last header is written and further MRAM writes are blocked. -/
def execPfailHeaderFinal (s : State) : Res :=
  if s.pwr.pfail then
    let d := if s.mramOpen then s.recd.flush else s.recd.writeHeader
    .next { s with recd := { d with flushing := false, blocked := true } }
  else .next s

/-! ### Health (R502 to R506); values are in millionths of their unit -/

/-- Indicator k: 0 TREND rising, 1 TREND falling, 2 COUNT (R503). -/
def indModel (k : Nat) : Nat :=
  if k < 132 then (if k % 3 = 2 then 1 else 0)
  else if k = 0x84 then 0
  else if k = 0x85 then 2
  else if k < 0x8E then (if k % 2 = 0 then 2 else 0)
  else 2

/-- The part has the indicator's unit (R503: those of BU and BL are absent on the A22). -/
def State.indPresent (s : State) (k : Nat) : Bool :=
  if k < 132 then s.hasAct (k / 33) else if 0x86 ≤ k ∧ k < 0x8E then s.hasAct ((k - 0x86) / 2) else decide (k < 0x94)

/-- The indicator's unit is retired (R502): its head. -/
def State.indRetired (s : State) (k : Nat) : Bool := decide (k < 132) && (tabGet .reset s.head (k / 3)).retired

/-- A VCM RESIDUAL is OFF while G_V = 0 (R503). -/
def State.indOff (s : State) (k : Nat) : Bool :=
  decide (0x87 ≤ k ∧ k < 0x8E ∧ k % 2 = 1) && bfM (s.par (0x4020 + (k - 0x87) / 2) 1) == 0

/-- The indicator's EOL in millionths; the spindle's and the VCM residual's default follow their entries. -/
def State.indEol (s : State) (k : Nat) : Int :=
  let v := bfVal (s.par (0x8100 + k) 2)
  dyTrunc 0 ⟨v.m * 1000000, v.e⟩

/-- A full history: adjacent pairs become their means (R502). -/
def halve : List (Nat × Int) → List (Nat × Int)
  | a :: b :: r => ((a.1 + b.1) / 2, (a.2 + b.2) / 2) :: halve r
  | r => r

/-- Floor of a quotient, 0 below zero, all ones where it does not fit or the divisor is not positive (R504: no predicted end). -/
def hours (num den : Int) : Nat := if den ≤ 0 then 0xFFFFFFFF else min (num / den).toNat 0xFFFFFFFF

/-- The integer square root in millionths. -/
def sqrtMicro (v : Nat) : Nat := Nat.sqrt (v * 1000000000000)

/-- COUNT (R504): REMAIN_P50 and REMAIN_P10 of k events (in units) in dt hours. -/
def countPredict (eol x : Int) (k dt : Nat) : Nat × Nat :=
  let left := (eol - x)
  (hours (left * dt) ((k : Int) * 1000000), hours (left * dt * 100) ((100 * (k + 1) : Nat) * 1000000 + 128 * (sqrtMicro k : Int)))

/-- TREND (R504): least squares of x against t; the slope's sign, REMAIN_P50 and REMAIN_P10. -/
def trendPredict (h : List (Nat × Int)) (eol : Int) (tNow : Nat) : Int × Nat × Nat :=
  let n : Int := h.length
  let st := (h.map (fun p => (p.1 : Int))).sum
  let sx := (h.map (fun p => p.2)).sum
  let stt := (h.map (fun p => (p.1 : Int) * p.1)).sum
  let stx := (h.map (fun p => (p.1 : Int) * p.2)).sum
  let sxx := (h.map (fun p => p.2 * p.2)).sum
  let b := n * stx - st * sx
  let d := n * stt - st * st
  let y := n * sxx - sx * sx
  let top := (n * eol - sx) * d + b * st
  let se : Int := (Nat.sqrt ((y * d - b * b) / (n - 2)).toNat : Nat)
  let b' := 100 * b + 128 * se * b.sign
  let rem := fun (num den : Int) => if den = 0 then 0xFFFFFFFF else min ((num * den.sign) / (den * den.sign) - tNow).toNat 0xFFFFFFFF
  (b.sign, rem top (n * b), rem (100 * top) (n * b'))

/-- PERCENT, floored and saturated at 255. -/
def percentOf (num den : Int) : Nat := if den = 0 then 0 else min ((100 * num * den.sign) / (den * den.sign)).toNat 255

/-- One sample of one indicator (R502, R504). -/
def Indicator.sample (d : Indicator) (model : Nat) (eol : Int) (t : Nat) (x : Int) : Indicator :=
  let h := (if 32 ≤ d.hist.length then halve d.hist else d.hist) ++ [(t, x)]
  let first := (h.headD (t, x))
  if model = 2 then
    let k := ((x - first.2) / 1000000).toNat
    let p := countPredict eol x k (t - first.1)
    let ok := decide (4 ≤ k)
    { d with hist := h, x := x, percent := percentOf x eol, conf := if ok then 0 else 1,
             p50 := if ok then p.1 else 0xFFFFFFFF, p10 := if ok then p.2 else 0xFFFFFFFF }
  else
    let p := trendPredict h eol t
    let conf := if h.length < 8 then 1 else if p.1 = (if model = 0 then 1 else -1) then 0 else 2
    { d with hist := h, x := x, percent := percentOf (x - first.2) (eol - first.2), conf := conf,
             p50 := if conf = 0 then p.2.1 else 0xFFFFFFFF, p10 := if conf = 0 then p.2.2 else 0xFFFFFFFF }

def Indicator.none : Indicator :=
  { hist := [], x := 0, percent := 0, p50 := 0xFFFFFFFF, p10 := 0xFFFFFFFF, conf := 1, warned := false, eol := false }

def State.ind (s : State) (k : Nat) : Indicator := tabGet .none s.health k

/-- The health events of R506: HEALTH_WARN once below WARN_HOURS, again only after a rise; HEALTH_EOL once at 100 %. -/
def State.healthEvents (s : State) (k : Nat) : State :=
  let d := s.ind k
  let warn := decide (d.conf = 0 ∧ d.p10 < s.par 0x8000 4)
  let s : State := if warn && !d.warned then s.report (srcId SYS 5 33) k d.p10 else s
  let s : State := if decide (100 ≤ d.percent) && !d.eol then s.report (srcId SYS 5 34) k d.percent else s
  { s with health := tabSet s.health k { d with
      warned := warn || (d.warned && !decide (s.par 0x8000 4 < d.p10)), eol := d.eol || decide (100 ≤ d.percent) } }

/-- One sample taken at time t hours: a retired unit is not sampled. -/
def State.healthSample (s : State) (t : Nat) (x : Sample) : State :=
  let k := x.k.toNat
  if !s.indPresent k then s
  else if s.indRetired k then { s with health := tabMod .none s.health k (fun d => { d with conf := 3 }) }
  else if s.indOff k then { s with health := tabMod .none s.health k (fun d => { d with conf := 4 }) }
  else ({ s with health := tabMod .none s.health k (fun d => d.sample (indModel k) (s.indEol k) t x.x) } : State).healthEvents k

/-- PERCENT_USED: the highest PERCENT over indicators with CONF 0 to 2 (R505). -/
def State.percentUsed (s : State) : Nat :=
  (s.health.filter (fun p => decide (p.2.conf ≤ 2))).foldl (fun m p => max m p.2.percent) 0

/-- WORST: the instance with the least REMAIN_P10 (R505), the lowest on a tie. -/
def State.worst (s : State) : Nat × Indicator :=
  s.health.foldl (fun m p => if p.2.p10 < m.2.p10 then p else m) (0, s.ind 0)

/-- HEALTH_INTERVAL (R502): every indicator is sampled, and one SUMMARY record is made (R492). -/
def execHealthInterval (t : BitVec 32) (xs : List Sample) (s : State) : Res :=
  if s.bgHeld then .next s
  else
  let s : State := xs.foldl (fun u x => u.healthSample t.toNat x) s
  let w := s.worst
  .next (s.enqueueRec false (s.mkRec 2 0 0 0 0 (s.percentUsed + 256 * w.2.conf + 65536 * w.1) w.2.p10))

end Sys2Proof.Machine
end

