-- ==== Sys2Proof/Machine/Identity.lean ====
section
/-! DEFINITION. Identity.lean: identity memories and module admission (02_attached_modules.md R47 to R55). -/

namespace Sys2Proof.Machine
open Sys2Proof

/-- MOD_ADMIT.STATE (R54). -/
def modNOTREAD : Nat := 0
def modREADING : Nat := 1
def modADMITTED : Nat := 2
def modREFUSED : Nat := 3
def modABSENT : Nat := 4

/-- The role is of a head-stack flex, a PA12, a VCM power stage (R47). -/
def roleFlex (r : Nat) : Bool := r == 0 || r == 1 || r == 7 || r == 8
def rolePa (r : Nat) : Bool := r == 2 || r == 3 || r == 9 || r == 10
def roleVcm (r : Nat) : Bool := r == 6 || r == 11

/-- Actuators a role serves (R47, R53). -/
def roleActs (r : Nat) : List Nat :=
  match r with
  | 0 => [0] | 1 => [1] | 2 => [0] | 3 => [1] | 6 => [0, 1] | 7 => [2] | 8 => [3] | 9 => [2] | 10 => [3] | 11 => [2, 3] | _ => []

/-- The part has the role: on the A22 the roles of pivot B are absent (R47). -/
def State.hasRole (s : State) (r : Nat) : Bool := match s.part with | .a44 => true | .a22 => decide (r < 7)

def State.idr (s : State) (r : Nat) : IdRole := tabGet .reset s.ident r
def State.modIdr (s : State) (r : Nat) (f : IdRole → IdRole) : State := { s with ident := tabMod .reset s.ident r f }

/-- Roles read on bus IDA, block 14 of SYS, and IDB, block 15 (R47, R410). -/
def roleBlock (r : Nat) : Nat := if r < 7 then 14 else 15

/-- A role starts reading: the set is read from offset 0 (R48). -/
def State.roleStart (s : State) (r : Nat) : State :=
  (s.wf MOD_ADMIT_STATE modREADING 0 r).modIdr r (fun x => { x with tries := 0, buf := [] })

/-- IDENTITY_READ_START (R47, R48): every role present starts reading; on the A22 the roles of pivot B are ABSENT_EXPECTED. -/
def State.identityStart (s : State) : State :=
  (List.range 12).foldl (fun t r => if t.hasRole r then t.roleStart r else t.wf MOD_ADMIT_STATE modABSENT 0 r) s

def execIdentityReadStart (s : State) : Res := .next (if s.dom domSYS = 3 then s.identityStart else s)

/-- A role is refused with a reason (R52, R53): REREAD clears, C2 for a flex, PA12 or VCM stage, C3 for the motor module or its stage. -/
def State.roleRefuse (s : State) (r reason : Nat) : State :=
  let s : State := ((s.wf MOD_ADMIT_STATE modREFUSED 0 r).wf MOD_ADMIT_REASON reason 0 r).wb MOD_ADMIT_REREAD false 0 r
  s.report (srcId SYS (roleBlock r) (if r = 4 ∨ r = 5 then 33 else 32)) r

/-- A transfer failed: up to 3 retries, then the role is refused (R48). -/
def State.roleRetry (s : State) (r reason : Nat) : State :=
  if (s.idr r).tries < 3 then s.modIdr r (fun x => { x with tries := x.tries + 1 }) else s.roleRefuse r reason

/-- IDENTITY_TRANSFER_DONE (R48): the bytes of a private read follow those read before; a NACK is retried. -/
def execIdentityTransferDone (role : Fin 12) (result : I3cResult) (s : State) : Res :=
  if s.rf MOD_ADMIT_STATE 0 role.val ≠ modREADING then .next s
  else match result with
    | .data bytes => .next (s.modIdr role.val (fun x => { x with tries := 0, buf := x.buf ++ bytes }))
    | .nack => .next (s.roleRetry role.val 0x01)
    | .error => .next (s.roleRetry role.val 0x02)

/-- IDENTITY_TRANSFER_TIMEOUT (R48): not complete within 1 ms. -/
def execIdentityTransferTimeout (role : Fin 12) (s : State) : Res :=
  .next (if s.rf MOD_ADMIT_STATE 0 role.val = modREADING then s.roleRetry role.val 0x02 else s)

/-! ### The record set (R49, R50) -/

/-- The records of a body: TYPE, LEN, value; none where a record overruns it (R50, LENGTH of R52). `fuel` bounds their number. -/
def idRecords : Nat → List Byte → Option (List (Nat × List Byte))
  | 0, b => if b = [] then some [] else none
  | fuel + 1, b =>
    if b = [] then some []
    else
      let len := leNat ((b.drop 2).take 2)
      if b.length < 4 + len then none
      else (idRecords fuel (b.drop (4 + len))).map (fun r => (leNat (b.take 2), (b.drop 4).take len) :: r)

/-- The header fields of R49. -/
def idBodyLen (b : List Byte) : Nat := leNat ((b.drop 8).take 4)
def idKey (b : List Byte) : Nat := (b.getD 7 0).toNat
def idBody (b : List Byte) : List Byte := (b.drop 16).take (idBodyLen b)

/-- Number of the record types a role must hold (R50). -/
def roleNeeds (r : Nat) : List Nat :=
  if roleFlex r then [0x0001, 0x0002, 0x0003, 0x0004, 0x0005]
  else if rolePa r then [0x0001]
  else if r = 4 then [0x0001, 0x0006, 0x0007, 0x0008]
  else if r = 5 then [0x0001, 0x0009]
  else [0x0001, 0x0007, 0x0008, 0x0009]

/-- Little-endian number of w bytes at offset o of a record's value. -/
def recNat (v : List Byte) (o w : Nat) : Nat := leNat ((v.drop o).take w)
def recInt (v : List Byte) (o : Nat) : Int := sext 16 (recNat v o 2)

/-- A record's value lies within its limits (R50); an unknown type is skipped. A value too short for its fields is outside them. -/
def recInRange (r t : Nat) (v : List Byte) : Bool :=
  let per := if roleVcm r then 2 else 1
  match t with
  | 0x0001 => decide (v.length ≤ 32)
  | 0x0002 => decide (6 ≤ v.length) && recNat v 0 1 == 11 && recNat v 1 1 == 1
  | 0x0003 => decide (132 ≤ v.length) && (List.range 33).all (fun k => decide (-2000 ≤ recInt v (4 * k)) && decide (recInt v (4 * k) ≤ 2000))
  | 0x0004 => decide (880 ≤ v.length) && (List.range 440).all (fun k => decide (-10000 ≤ recInt v (2 * k)) && decide (recInt v (2 * k) ≤ 10000))
  | 0x0005 => decide (66 ≤ v.length) && (List.range 11).all (fun k => decide (recNat v (6 * k) 2 ≤ 1023))
  | 0x0006 => decide (1 ≤ v.length) && recNat v 0 1 % 2 == 0 && decide (4 ≤ recNat v 0 1) && decide (recNat v 0 1 ≤ 16)
  | 0x0007 => decide (4 * per ≤ v.length) && (List.range (2 * per)).all (fun k => recNat v (2 * k) 2 != 0)
  | 0x0008 => decide (4 * per ≤ v.length) && (List.range per).all (fun k => recNat v (4 * k) 4 != 0)
  | 0x0009 => decide (6 ≤ v.length) && decide (140 ≤ recNat v 0 2)
  | _ => true

/-- A type stands twice (R50). -/
def idDup : List (Nat × List Byte) → Bool
  | [] => false
  | x :: r => r.any (fun y => y.1 == x.1) || idDup r

def recOf (l : List (Nat × List Byte)) (t : Nat) : Option (List Byte) := (l.find? (fun x => x.1 == t)).map Prod.snd

/-- The key slot named by KEY_INDEX holds an enrolled drive-maker key (R51, R508). -/
def State.keyEnrolled (s : State) (k : Nat) : Bool := match tabFind s.sec.dm k with | some x => x.st == .enrolled | none => false

/-- The first check of R52 that fails, in the order of its table, or 0x00; `sigOk` is the signature's verdict (log 8). -/
def State.admitReason (s : State) (r : Nat) (sigOk : Bool) : Nat :=
  let b := (s.idr r).buf
  if b.take 4 ≠ [0x4F, 0x4C, 0x49, 0x44] then 0x03
  else if recNat b 4 2 ≠ 0x0001 then 0x04
  else if 8192 < idBodyLen b then 0x05
  else match idRecords 2048 (idBody b) with
    | none => 0x05
    | some l =>
      if !s.keyEnrolled (idKey b) then 0x06
      else if !sigOk then 0x07
      else if recNat b 6 1 ≠ r then 0x08
      else if !(roleNeeds r).all (fun t => (recOf l t).isSome) then 0x09
      else if idDup l || !l.all (fun x => recInRange r x.1 x.2) then 0x0A
      -- 11_spindle.md R282: a re-read of the spindle power stage (in P3, R55) with a rating not above the running OV2
      else if r = 5 ∧ s.rf PWR_STATUS_STATE = 3 ∧ dyLe (dyInt (match recOf l 0x0009 with | some v => recNat v 0 2 | none => 0)) (dyMul (bfVal (s.par 0x5010 9)) (dyInt 10)) then 0x0A
      else if (List.range 12).any (fun q => q != r && s.rf MOD_ADMIT_STATE 0 q == modADMITTED
                && (recOf (s.idr q).recs 0x0001).isSome && recOf (s.idr q).recs 0x0001 == recOf l 0x0001) then 0x0B
      else 0x00

/-- A half-stack returns to service after an admitted re-read of its flex or PA12 (R55, R170, R260): the link retrains, every head is re-admitted and
waits for recalibration, a retired actuator is unloaded again. -/
def State.readmit (s : State) (a : Nat) : State :=
  let s : State := (List.range 11).foldl (fun t h => t.modHd (headIx a h) (fun x =>
    { x with uncal := true, calLeft := List.range 8, retired := false, retiredRead := false, retiredWrite := false, readerExcl := 0 })) s
  let s : State := ((s.modPl a (fun p => { p with lost := false })).inhibits inhWRITER false (chansOf a)).inhibits inhLINK false (chansOf a)
  let s : State := if s.act a = acRETIRED then (s.setAct a acUNLOADED).modSv a (fun v => { v with retireAt := false, loadTries := 0 }) else s
  s.plTrain a

/-- MODULE_ADMISSION (R52, R53, R55): the set is used only when every check passes. -/
def State.moduleAdmit (s : State) (r : Nat) (sigOk : Bool) : State :=
  if s.rf MOD_ADMIT_STATE 0 r ≠ modREADING then s
  else
    let reason := s.admitReason r sigOk
    if reason ≠ 0 then s.roleRefuse r reason
    else
      let b := (s.idr r).buf
      let reread := s.rb MOD_ADMIT_REREAD 0 r
      let s : State := (((s.wf MOD_ADMIT_STATE modADMITTED 0 r).wf MOD_ADMIT_REASON 0 0 r).wf MOD_ADMIT_KEY_INDEX (idKey b) 0 r).wb
        MOD_ADMIT_REREAD false 0 r
      let s : State := s.modIdr r (fun x => { x with recs := (idRecords 2048 (idBody b)).getD [] })
      if reread && (roleFlex r || rolePa r) then (roleActs r).foldl (fun t a => t.readmit a) s else s

def execModuleAdmission (role : Fin 12) (sigOk : Bool) (s : State) : Res := .next (s.moduleAdmit role.val sigOk)

/-- The role's modules are out of use (R55). -/
def State.roleIdle (s : State) (r : Nat) : Bool :=
  if r = 4 ∨ r = 5 then s.rf PWR_STATUS_STATE == 3 && s.rf SP_STATUS_MODE == 0
  else (roleActs r).all (fun a => !s.actLoaded a)

/-- MOD_REREAD (R55): accepted while the role's modules are out of use, else REASON = BUSY with STATE unchanged. A read in progress goes on,
and a role the part does not have is not read. -/
def State.modReread (s : State) (r : Nat) : State :=
  if !s.hasRole r ∨ s.rf MOD_ADMIT_STATE 0 r = modREADING then s
  else if s.roleIdle r then (s.wb MOD_ADMIT_REREAD true 0 r).roleStart r
  else s.wf MOD_ADMIT_REASON 0x0D 0 r

def execModReread (role : Fin 12) (s : State) : Res := .next (s.modReread role.val)

end Sys2Proof.Machine
end

