-- ==== Sys2Proof/Machine/Tru.lean ====
section
/-! DEFINITION. Tru.lean: the timing recovery units (03_clock_surface.md): states, frames, position samples, loss of lock, phase trims. -/

namespace Sys2Proof.Machine
open Sys2Proof

/-! ### States (R61) -/

def truOFF : Nat := 0
def truFREQ : Nat := 1
def truPHASE : Nat := 2
def truSYNC : Nat := 3
def truLOCKED : Nat := 4
def truHOLDOVER : Nat := 5
def truFAILED : Nat := 6

def State.truSt (s : State) (a : Nat) : Nat := s.rf TRU_STATUS_STATE a
def State.setTru (s : State) (a st : Nat) : State := (s.modTr a (fun t => { t with good := 0, bad := 0, prev := none })).wf TRU_STATUS_STATE st a

/-- A TRU block reports one of its sources. -/
def State.truReport (s : State) (a num cell detail : Nat) : State := s.report (srcId MED (truBlock a) num) cell detail

/-- Gates of the half-stack close and TIMEBASE is set; every channel sees KILL (R77 steps 1 and 2, R205). -/
def State.gateKill (s : State) (a : Nat) : State :=
  let had := (chansOf a).filter (fun n => s.rbit WR_STATUS_INHIBIT inhTIMEBASE n)
  let s : State := (s.shutHalf a).inhibits inhTIMEBASE true (chansOf a)
  had.foldl (fun t n => t.sqEvent n evKILL) s

/-! ### Trims (R69 to R73, R83) -/

/-- Saves the trims of a half-stack (R83): PHT, RC and RS, little-endian in 4, 2 and 2 bytes (log 35). -/
def State.saveTrims (s : State) (a : Nat) : State :=
  (List.range 11).foldl (fun t h => t.odKeep (0x6100 + headIx a h) 1 (.bytes (leBytes 4 (t.rf HT_PHASEh_PHT a h)
    ++ leBytes 2 (t.rf HT_RROh_RC a h) ++ leBytes 2 (t.rf HT_RROh_RS a h)))) s

/-- Loads the saved trims (R83); a head without any re-learns over 8 wedges (R71). -/
def State.loadTrims (s : State) (a : Nat) : State :=
  (List.range 11).foldl (fun t h => match t.odGet (0x6100 + headIx a h) 1 with
    | .bytes b =>
      if b.length = 8 then
        ((t.wf HT_PHASEh_PHT (leNat (b.take 4)) a h).wf HT_RROh_RC (leNat ((b.drop 4).take 2)) a h).wf HT_RROh_RS (leNat (b.drop 6)) a h
      else t.modHd (headIx a h) (fun x => { x with relearn := 8, check := 0 })
    | .num _ => t.modHd (headIx a h) (fun x => { x with relearn := 8, check := 0 })) s

/-- Saturates at the range of an n-bit two's-complement field (R70). -/
def satN (n : Nat) (x : Int) : Nat := utrunc n (max (-(2 ^ (n - 1) : Int)) (min (2 ^ (n - 1) - 1) x))

/-- The error in 1/1,024 CSB of an error in 1/64 coded bit (R70): one coded bit is 4,096 / B CSB. -/
def trimError (b : Nat) (e64 : Int) : Int := openRound 70 (e64 * 65536) b

/-- e times the cosine or sine of 2 pi f / 768 (R70), an integer whose rounding the spec leaves open (log 9). -/
def trimTerm (sine : Bool) (e : Int) (f : Nat) : Int := sext 32 (Config.realFn 71 [if sine then 1 else 0, e, f]).toNat

/-- PHT, RC and RS after a wedge at frame f with error e in 1/1,024 CSB and shifts mu and rro; `full` adds e whole and freezes RC and RS (R71). -/
def State.trimUpdate (s : State) (a h f : Nat) (e : Int) (full : Bool) : State :=
  let mu := if full then 0 else s.run TRU_CFG_PH_MU a
  let s : State := s.wf HT_PHASEh_PHT (satN 18 (sext 18 (s.rf HT_PHASEh_PHT a h) + e / 2 ^ mu)) a h
  if full then s
  else
    let r := s.run TRU_CFG_RRO_MU a
    (s.wf HT_RROh_RC (satN 16 (sext 16 (s.rf HT_RROh_RC a h) + trimTerm false e f / 2 ^ r)) a h).wf HT_RROh_RS
      (satN 16 (sext 16 (s.rf HT_RROh_RS a h) + trimTerm true e f / 2 ^ r)) a h

/-- The head's channel may write again: the check or re-learning is over (R71, R77 step 7). -/
def State.trimRelease (s : State) (a h n : Nat) : State :=
  ((s.wf HT_PHASEh_CONVERGED 1 a h).inhibit inhTRIM false n).inhibit inhTIMEBASE false n

/-- R71: the head's data gates close, a C1 is raised and the trim is re-learned over 8 wedges. -/
def State.trimClose (s : State) (a h n : Nat) : State :=
  let s : State := (s.shutGates n).inhibit inhTRIM true n
  let s : State := (s.inhibit inhTIMEBASE false n).wf HT_PHASEh_CONVERGED 0 a h
  let s : State := s.modHd (headIx a h) (fun x => { x with relearn := 8, check := 0, outliers := 0, goodLast := false })
  s.truReport a 2 h 0

/-- One wedge's sync position reaches head h of actuator a on channel n (R70, R71, R77 step 7): error in 1/64 coded bit, frame of the wedge. -/
def State.trimWedge (s : State) (a h n f : Nat) (e64 : Int) : State :=
  let i := headIx a h
  let x := s.hd i
  let e := trimError (s.rf SYN_NDIVk_BITS a (chSlot n)) e64
  let near := decide (e64.natAbs ≤ 32)
  let frozen := s.rbit HT_CTRL_FREEZE h a
  if 0 < x.relearn then
    let s : State := if frozen then s else s.trimUpdate a h f e true
    let s : State := s.modHd i (fun y => { y with relearn := y.relearn - 1, goodLast := near })
    if 1 < x.relearn then s
    else if near && x.goodLast then s.trimRelease a h n
    else (s.modHd i (fun y => { y with retired := true })).truReport a 3 h 0
  else
    let s : State :=
      if frozen then s
      else if e64.natAbs ≤ 128 then (s.trimUpdate a h f e false).modHd i (fun y => { y with outliers := 0 })
      else s.modHd i (fun y => { y with outliers := y.outliers + 1 })
    let s : State := s.modHd i (fun y => { y with goodLast := near })
    if 0 < x.check then
      if !near then s.trimClose a h n
      else
        let s : State := s.modHd i (fun y => { y with check := y.check - 1 })
        if x.check = 1 then s.trimRelease a h n else s
    else if (s.hd i).outliers = 3 then s.trimClose a h n
    else s

/-- HT_TRIM_WRITE (R73): a software write of HT_PHASE or HT_RRO lands whole. An adaptation step due in the same cycle is a wedge that is not
delivered (log 5). -/
def State.trimWrite (s : State) (a h : Nat) (rro : Bool) (v : Nat) : State :=
  if rro then (s.wf HT_RROh_RC v a h).wf HT_RROh_RS (v / 65536) a h else s.wf HT_PHASEh_PHT v a h

def execHtTrimWrite (a : Act) (head : Fin 11) (rro : Bool) (v : Word) (s : State) : Res := .next (s.trimWrite a.val head.val rro v.toNat)

/-! ### Loss of lock (R65, R77, R78) -/

/-- R78: writes completed since the last verified frame are suspect and go back for rewrite; the commands in the FIFO go back too (R77 step 5). -/
def State.lossRequeue (s : State) (n : Nat) : State :=
  let v := (s.tr (chAct n)).verified
  let bad := (s.ch n).reports.filter (fun p => p.2 == v)
  let fifo := (s.ch n).fifo
  let s : State := s.modCh n (fun c => { c with reports := c.reports.filter (fun p => p.2 != v), fifo := [] })
  let s : State := bad.foldl (fun t p => (t.cnt WR_STATUS_SUSPECT n).requeue p.1) s
  fifo.foldl (fun t c => t.requeue c) s

/-- A LOCKED TRU declares loss of lock (R65, R77 steps 1 to 5); a TRU that is not LOCKED declares none (R79). -/
def State.truLoss (s : State) (a cause : Nat) : State :=
  if s.truSt a ≠ truLOCKED then s
  else
    let s : State := (((s.setTru a truHOLDOVER).wf TRU_STATUS_LOSS_CAUSE cause a).cnt TRU_STATUS_LOSS_COUNT a).gateKill a
    let s : State := (chansOf a).foldl (fun t n => (t.lossRequeue n).calFail n 0x02) s
    (s.modTr a (fun t => { t with kill := true, widened := true, speedBad := 0 })).truReport a 0 0 cause

def execTruLossPhase (a : Act) (s : State) : Res := .next (s.truLoss a.val 1)
def execTruLossAmplitude (a : Act) (s : State) : Res := .next (s.truLoss a.val 2)

/-- The TRU goes to OFF with its gates closed (R61). -/
def State.truOff (s : State) (a : Nat) : State :=
  if s.truSt a = truOFF then s
  else ((s.gateKill a).setTru a truOFF).modTr a (fun t => { t with kill := false, widened := false })

/-- TRU_ENABLE_WRITE (R61, R65, R82). -/
def State.truCtrl (s : State) (a : Nat) (enable hold : Bool) : State :=
  let s : State := (s.wb TRU_CTRL_ENABLE enable a).wb TRU_CTRL_HOLD hold a
  if !enable then s.truOff a
  else if hold then
    if s.truSt a = truLOCKED then s.truLoss a 5
    else if s.truSt a = truFREQ ∨ s.truSt a = truPHASE ∨ s.truSt a = truSYNC then s.setTru a truHOLDOVER
    else s
  else s

def execTruEnableWrite (a : Act) (enable hold : Bool) (s : State) : Res := .next (s.truCtrl a.val enable hold)

/-- TRU_ACQ_START (R62). -/
def execTruAcqStart (a : Act) (s : State) : Res :=
  if s.truSt a.val = truOFF ∧ s.rb TRU_CTRL_ENABLE a.val ∧ (s.tr a.val).flying ∧ s.spinOk then .next (s.setTru a.val truFREQ) else .next s

/-- TRU_FREQ_ACQUIRED (R64 step 2). -/
def execTruFreqAcquired (a : Act) (s : State) : Res := .next (if s.truSt a.val = truFREQ then s.setTru a.val truPHASE else s)

/-- TRU_PHASE_ACQUIRED (R64 step 3). -/
def execTruPhaseAcquired (a : Act) (s : State) : Res := .next (if s.truSt a.val = truPHASE then s.setTru a.val truSYNC else s)

/-- TRU_CARRIER_RETURN (R77 step 6): from HOLDOVER unless HOLD keeps it there. -/
def execTruCarrierReturn (a : Act) (s : State) : Res :=
  .next (if s.truSt a.val = truHOLDOVER ∧ !s.rb TRU_CTRL_HOLD a.val then s.setTru a.val truFREQ else s)

/-- TRU_REACQ (R82, R77 step 8): acquisition restarts at FREQ_ACQ from any state other than OFF; a half-stack retired by step 8 returns. -/
def State.truReacq (s : State) (a : Nat) : State :=
  if s.truSt a = truOFF then s
  else
    let s : State := if s.truSt a = truLOCKED then s.gateKill a else s
    (s.setTru a truFREQ).modTr a (fun t => { t with retired := false })

def execTruReacq (a : Act) (s : State) : Res := .next (s.truReacq a.val)

/-- RELOCK_LIMIT_EXPIRY (R77 step 8, R79): LOCKED decides over the expiry. -/
def execRelockLimitExpiry (a : Act) (s : State) : Res :=
  if (s.tr a.val).kill ∧ s.truSt a.val ≠ truLOCKED ∧ s.truSt a.val ≠ truOFF ∧ s.truSt a.val ≠ truFAILED then
    .next (((s.setTru a.val truFAILED).modTr a.val (fun t => { t with retired := true })).startPark a.val)
  else .next s

/-- CLOCK_HEAD_FAIL_TIMEOUT (R81): no carrier for 1 s after load; a C2, and the actuator unloads and is retired. -/
def execClockHeadFailTimeout (a : Act) (s : State) : Res :=
  if (s.tr a.val).flying ∧ s.truSt a.val = truFREQ ∧ !(s.tr a.val).failed then
    .next ((((s.modTr a.val (fun t => { t with failed := true })).startPark a.val).modSv a.val (fun v => { v with retireAt := true })).truReport a.val 1 0 0)
  else .next s

/-- SYNTH_SLEW_DONE (R68, R170). -/
def execSynthSlewDone (n : Chan) (s : State) : Res := .next ((s.wf SYN_NDIVk_SLEW 0 (chAct n.val) (chSlot n.val)).setupCheck n.val)

/-! ### Frames (R57 to R60, R63, R74 to R76) -/

/-- Frame number of a valid index field (R58). -/
def frameNumber (f : Frame) : Option Nat :=
  match f.index with
  | some v => if crc6 (v.toNat % 1024) = v.toNat / 1024 ∧ v.toNat % 1024 < 768 then some (v.toNat % 1024) else none
  | none => none

/-- The cylinder ID (R59, R74): one bad pair at the bit that changes between adjacent tracks is resolved by the sign of PES, the lower track where
the head is above its centre; any other bad pair gives none. -/
def grayResolve (bits : Nat) (bad : List Nat) (pes : Int) (dec : Nat → Nat) : Option Nat :=
  match bad with
  | [] => some (dec bits)
  | [b] =>
    let x := dec (setBit bits b false)
    let y := dec (setBit bits b true)
    if x + 1 = y ∨ y + 1 = x then
      (if 0 < pes then some (min x y) else if pes < 0 then some (max x y) else none)
    else none
  | _ => none

/-- PES in 1/4,096 track (R74). The rounding of 1024 n and 1024 |q| is open, and so is a burst pair of no amplitude (log 9). -/
def burstPes (a b c d : Nat) : Int :=
  let nn : Int := (a : Int) - b
  let nd := a + b
  let qn : Int := (c : Int) - d
  let qd := c + d
  if nd = 0 ∨ qd = 0 then sext 12 (Config.realFn 74 [a, b, c, d]).toNat
  else if nn.natAbs * qd ≤ qn.natAbs * nd then openRound 74 (1024 * nn) nd
  else
    let m := 2048 - openRound 74 (1024 * (qn.natAbs : Int)) qd
    max (-2048) (min 2047 (nn.sign * m))

/-- QUAL (R75), saturated at 15. -/
def burstQual (f : Frame) : Nat :=
  let sum := f.a + f.b + f.c + f.d
  if f.carrier = 0 then (Config.realFn 75 [sum]).toNat % 16 else (min 15 (openRound 75 (15 * (sum : Int)) (2 * f.carrier))).toNat

/-- The 64-bit position record (R75). -/
def posRecord (pos frame qual : Nat) (valid : Bool) : Nat :=
  pos % 2 ^ 34 + frame % 1024 * 2 ^ 34 + qual % 16 * 2 ^ 44 + (if valid then 2 ^ 48 else 0)

/-- Conditions of R63 but for the frame's sequence. -/
def State.frameGood (s : State) (a : Nat) (f : Frame) (prevCyl : Option Nat) (cyl : Option Nat) : Bool :=
  let near : Nat → Nat → Bool := fun x y => decide (x ≤ y + 1) && decide (y ≤ x + 1)
  let seek := (s.sv a).seek
  f.mark && decide (f.rms < 125) && decide (s.run TRU_AMP_AMP_LO a ≤ f.amp.toNat) && decide (f.amp.toNat ≤ s.run TRU_AMP_AMP_HI a)
    && (match cyl, prevCyl with
        | some c, some p => near c p || (match seek with | some k => decide (k.step ≤ 2) && near c k.cyl | none => false)
        | _, _ => false)

/-- Track bit at the frame mark of frame f on channel n (R57, R60, R89): the mark lies half a frame in, and wedge 0 WSK bits after the start of
frame 0. -/
def State.markBit (s : State) (n f : Nat) : Nat :=
  let b := s.rf SYN_NDIVk_BITS (chAct n) (chSlot n)
  let z := s.rf SYN_NDIVk_ZONE (chAct n) (chSlot n)
  (f * b + b / 2 + 768 * b - s.zn z 6) % (768 * b)

/-- INDEX and wedge events of a frame mark while LOCKED (R76, R199). -/
def State.frameEvents (s : State) (a f : Nat) : State :=
  (chansOf a).foldl (fun t n =>
    let t : State := if f = 0 then t.seqEvent n evINDEX (some (t.markBit n 0)) else t
    if f % 2 = 0 then t.seqEvent n evWEDGE none else t) s

/-- LOCKED is declared (R63, R77 step 7, R83): heads that hold a trim are checked on 2 wedges, the others re-learn it. -/
def State.truLocked (s : State) (a : Nat) : State :=
  let s : State := (s.wf TRU_STATUS_STATE truLOCKED a).modTr a (fun t => { t with kill := false, widened := false, bad := 0, retired := false, speedBad := 0 })
  (chansOf a).foldl (fun t n =>
    let h := t.slotHead n
    if h = 0xF then t.inhibit inhTIMEBASE false n
    else
      let i := headIx a h
      if 0 < (t.hd i).relearn then (t.inhibit inhTRIM true n).inhibit inhTIMEBASE false n
      else (t.modHd i (fun x => { x with check := 2, lostW := 0 })).inhibit inhTIMEBASE true n) s

/-- The sample of a frame that a LOCKED TRU sends (R74, R75), also shown in TRU_POS and TRU_PES. -/
def State.frameSample (s : State) (a : Nat) (f : Frame) (num : Nat) (okIndex : Bool) : State :=
  let pes := burstPes f.a f.b f.c f.d
  let cyl := grayResolve f.gray.toNat (f.bad.map Fin.val) pes grayInv
  let q := burstQual f
  let valid := okIndex && cyl.isSome && decide (s.run TRU_CFG_QUAL_MIN a ≤ q)
  let c := cyl.getD (s.rf TRU_POS_CYL a)
  let pos := ((c : Int) * 4096 + pes).toNat
  let s : State := ((s.wf TRU_POS_FRAME num a).wf TRU_POS_CYL c a).wf TRU_PES_PES (utrunc 16 pes) a
  ((s.wf TRU_PES_QUAL q a).wb TRU_PES_VALID valid a).modTr a (fun t => { t with sample := posRecord pos num q valid })

/-- TRU_FRAME. In FRAME_SYNC the first valid frame sets the sequence, and four more in a row that meet R63 declare LOCKED. In LOCKED the events
and the sample go out, a good frame is verified, a single bad frame is coasted, a second in a row is the FRAME criterion (R64, R65). -/
def State.truFrame (s : State) (a : Nat) (f : Frame) : State :=
  let t := s.tr a
  let pes := burstPes f.a f.b f.c f.d
  let cyl := grayResolve f.gray.toNat (f.bad.map Fin.val) pes grayInv
  let s : State := (s.wf TRU_AMP_AMP f.amp.toNat a).wf TRU_AMP_AGC f.agc.toNat a
  if s.truSt a = truSYNC then
    match f.mark, frameNumber f with
    | true, some k =>
      let inSeq := match t.prev with | some p => k == (p.1 + 1) % 768 | none => false
      let good := inSeq && s.frameGood a f (t.prev.map Prod.snd) cyl
      let c := match cyl with | some c => c | none => (match t.prev with | some p => p.2 | none => 0)
      let s : State := s.modTr a (fun u => { u with prev := some (k, c), good := if good then u.good + 1 else 0, verified := if good then u.verified + 1 else u.verified })
      if (s.tr a).good = 4 then s.truLocked a else s
    | _, _ => s.modTr a (fun u => { u with prev := none, good := 0 })
  else if s.truSt a = truLOCKED then
    let num := match t.prev with | some p => (p.1 + 1) % 768 | none => 0
    let ok := f.mark && frameNumber f == some num
    let s : State := (s.frameEvents a num).frameSample a f num ok
    let good := ok && s.frameGood a f (t.prev.map Prod.snd) cyl
    let c := match cyl with | some c => c | none => (match t.prev with | some p => p.2 | none => 0)
    let s : State := s.modTr a (fun u => { u with prev := some (num, c), bad := if ok then 0 else u.bad + 1, verified := if good then u.verified + 1 else u.verified })
    let s : State := if ok ∧ t.bad = 1 then s.cnt TRU_STATUS_MISS_COUNT a else s
    if (s.tr a).bad = 2 then s.truLoss a 3 else s
  else s

def execTruFrame (a : Act) (f : Frame) (s : State) : Res := .next (s.truFrame a.val f)

/-- R65 SPEED: the recovered CSB rate differs by more than 0.5 % from what the measured speed implies, at 3 speed samples in a row. -/
def State.truSpeed (s : State) (a csb : Nat) : State :=
  let want := 3145728 * s.rf SP_SPEED_SPEED
  let got := csb * 240
  if s.truSt a = truLOCKED ∧ want < 200 * (max got want - min got want) then
    let s : State := s.modTr a (fun t => { t with speedBad := t.speedBad + 1 })
    if (s.tr a).speedBad = 3 then s.truLoss a 4 else s
  else s.modTr a (fun t => { t with speedBad := 0 })

end Sys2Proof.Machine
end

