-- ==== Sys2Proof/Machine/Mce.lean ====
section
/-! DEFINITION. Mce.lean: the motion control engine (09_control_engine.md): loop cells, lanes, profiles, recording and shadows. A value named in
R221 or R222 is one block of R220 (log 18). -/

namespace Sys2Proof.Machine
open Sys2Proof

/-! ### Arithmetic of an evaluation (R219 to R222) -/

/-- One stage result: a sum of terms renormalised as a block of its own, and whether it saturated in exponent. -/
def stageOf (l : List (Dy × Int)) : Nat × Bool :=
  let r := blockWords [stageSum l]
  (r.1.headD 0, r.2)

/-- Smaller and larger of two BF24 words. -/
def bfMin (a b : Nat) : Nat := if bfLe a b then a else b
def bfMax (a b : Nat) : Nat := if bfLe a b then b else a

def bfGt (a b : Nat) : Bool := !bfLe a b

/-- Coefficient k of gain set g of cell n in force: 0 KP, 1 KI, 2 AD, 3 BD, 4 I_LO, 5 I_HI, 6 U_LO, 7 U_HI (R223). -/
def State.gain (s : State) (n g k : Nat) : Nat := s.par (0x4100 + n) (0x10 + 8 * g + k)

/-- Coefficient j of biquad b: 0 b0, 1 b1, 2 b2, 3 a1, 4 a2. -/
def State.bqCoef (s : State) (n b j : Nat) : Nat := s.par (0x4100 + n) (0x30 + 5 * b + j)

/-- One biquad (R222): output, states, exponent saturation. -/
def State.biquad (s : State) (n b : Nat) (st : Nat × Nat) (x : Nat) : Nat × (Nat × Nat) × Bool :=
  let c := s.bqCoef n b
  let o := stageOf [bfProd (c 0) x, bfTerm st.1]
  let s1 := stageOf [bfProd (c 1) x, termNeg (bfProd (c 3) o.1), bfTerm st.2]
  let s2 := stageOf [bfProd (c 2) x, termNeg (bfProd (c 4) o.1)]
  (o.1, (s1.1, s2.1), o.2 || s1.2 || s2.2)

/-- A chain of biquads: output, states, exponent saturation. -/
def State.bqChain (s : State) (n : Nat) (bs : List Nat) (st : Tab (Nat × Nat)) (x : Nat) : Nat × Tab (Nat × Nat) × Bool :=
  bs.foldl (fun acc b =>
    let r := s.biquad n b (tabGet (0, 0) acc.2.1 b) acc.1
    (r.1, tabSet acc.2.1 b r.2.1, acc.2.2 || r.2.2)) (x, st, false)

/-- The cells of the speed competition group, whose output chains are bypassed (R227). -/
def inGroup (n : Nat) : Bool := decide (38 ≤ n ∧ n ≤ 41)

/-- The evaluation of a cell with gain set g (R221); `tr` makes it a transfer (R225). -/
def State.evalCell (s : State) (n : Nat) (c : CellSt) (inp : CellIn) (g : Nat) (tr : Bool) : CellOut :=
  let k := s.gain n g
  let inC := s.bqChain n [0, 1] c.bq inp.y
  let yf := inC.1
  let e := stageOf [bfTerm inp.r, termNeg (bfTerm yf)]
  let p := stageOf [bfProd (k 0) e.1]
  let delta := if tr then (0, false)
    else if s.par (0x4100 + n) 5 = 0 then stageOf [bfTerm e.1, termNeg (bfTerm c.ePrev)]
    else stageOf [bfTerm c.yPrev, termNeg (bfTerm yf)]
  let d := if tr then (0, false) else stageOf [bfProd (k 2) c.dPrev, bfProd (k 3) delta.1]
  let iTry := stageOf [bfTerm c.iPrev, bfProd (k 1) e.1]
  let v1 := stageOf [bfTerm p.1, bfTerm iTry.1, bfTerm d.1, bfTerm inp.ff]
  let hold := (bfGt v1.1 (k 7) && bfGt e.1 0) || (bfGt (k 6) v1.1 && bfGt 0 e.1)
  let want := stageOf [bfTerm c.vPrev, termNeg (bfTerm p.1), termNeg (bfTerm inp.ff)]
  let i := if tr then bfMin (bfMax want.1 (k 4)) (k 5) else if hold then c.iPrev else bfMin (bfMax iTry.1 (k 4)) (k 5)
  let free := i == want.1
  let v2 := stageOf [bfTerm p.1, bfTerm i, bfTerm d.1, bfTerm inp.ff]
  let v := if tr && free then c.vPrev else v2.1
  let outC := if inGroup n then (v, inC.2.1, false) else s.bqChain n ((List.range (2 + s.par (0x4100 + n) 2)).map (· + 2)) inC.2.1 v
  let u := bfMin (bfMax outC.1 (k 6)) (k 7)
  { inp := inp, e := e.1, yf := yf, d := d.1, i := i, v := v, u := u, p := p.1, bq := outC.2.1, sat := !(bfLe u outC.1 && bfLe outC.1 u),
    transfer := tr, clamp := tr && !free,
    numeric := inC.2.2 || e.2 || p.2 || delta.2 || d.2 || (!tr && (iTry.2 || v1.2)) || (tr && want.2) || v2.2 || outC.2.2, gset := g }

/-! ### Cells and lanes (R213 to R217, R224, R226) -/

def State.lc (s : State) (n : Nat) : CellSt := tabGet .reset s.cell n
def State.modLc (s : State) (n : Nat) (f : CellSt → CellSt) : State := { s with cell := tabMod .reset s.cell n f }

/-- Absolute deadline in core cycles: the trigger plus the cell's lane cycles of 3 core cycles (R214). -/
def cellDue (n : Nat) (i : CellIn) : Nat := i.time + 3 * cellDeadline n

/-- A cell runs only where R214 and R267 let its trigger act. -/
def State.cellRuns (s : State) (n : Nat) : Bool :=
  s.par (0x4100 + n) 1 == 1 && s.dom domMOT == 3
  && (if n < 32 then
        let a := n / 8
        s.hasAct a && s.actLoaded a && decide (n % 8 < s.par 0x4000 (a + 1)) && s.slotHead n != 0xF && !(s.ch n).retired
      else if n < 36 then s.hasAct (n - 32) && s.actLoaded (n - 32)
      else if n < 38 then [2, 3, 4, 5, 8, 10].contains (s.rf SP_STATUS_MODE)
      else [3, 4, 8].contains (s.rf SP_STATUS_MODE))

/-- A cell becomes enabled or its gain set changes (R224): zero states, v_prev at PRESET, a transfer first. -/
def State.cellEnable (s : State) (n : Nat) : State :=
  s.modLc n (fun c => { c with iPrev := 0, dPrev := 0, ePrev := 0, yPrev := 0, vPrev := s.par (0x4100 + n) 6, bq := [], due := true, live := true, sat := 0 })

/-- The cell's input is taken: its gain set request is sampled and its evaluation is under way (R225, R226). -/
def State.cellBegin (s : State) (n : Nat) : State :=
  match (s.lc n).ready with
  | none => s
  | some i =>
    let s : State := if (s.lc n).live then s else s.cellEnable n
    let c := s.lc n
    let g := c.greq.getD c.gset
    let tr := c.due || g != c.gset
    let out := s.evalCell n c i g tr
    let s : State := s.modLc n (fun x => { x with ready := none, run := some out, gset := g, greq := none, due := false })
    { s with mlane := tabMod [] s.mlane (cellLane n) (fun l => n :: l) }

/-- The ready cell of a lane with the earliest deadline, the lower index on a tie (R216). -/
def State.cellPick (s : State) (lane : Nat) : Option (Nat × Nat) :=
  (List.range 42).foldl (fun (best : Option (Nat × Nat)) n =>
    if cellLane n = lane then
      match (s.lc n).ready with
      | some i => match best with
        | some b => if cellDue n i < b.2 then some (n, cellDue n i) else best
        | none => some (n, cellDue n i)
      | none => best
    else best) none

/-- The lane takes its next cell: one with a strictly earlier deadline displaces the evaluation in progress (R216). -/
def State.laneStep (s : State) (lane : Nat) : State :=
  match s.cellPick lane with
  | none => s
  | some (n, d) =>
    match tabGet [] s.mlane lane with
    | [] => s.cellBegin n
    | t :: _ => match (s.lc t).run with
      | some o => if d < cellDue t o.inp then s.cellBegin n else s
      | none => s.cellBegin n

/-- An overrun (R217). -/
def State.cellOverrun (s : State) (n : Nat) : State :=
  ((s.modLc n (fun c => { c with overruns := c.overruns + 1 })).cnt MC_MISS_OVERRUN (cellLane n)).report (srcId MOT (cellLane n) 2) n

/-- A trigger with its input (R217). -/
def State.cellTrig (s : State) (n y r ff : Nat) (valid : Bool) : State :=
  if !s.cellRuns n then (if s.par (0x4100 + n) 1 = 1 then s else s.modLc n (fun c => { c with live := false }))
  else
    let i : CellIn := { y := y, r := r, ff := ff, valid := valid, time := s.coreTime.toNat }
    let c := s.lc n
    let s : State :=
      if c.ready.isSome then (s.modLc n (fun x => { x with ready := some i })).cellOverrun n
      else if c.run.isSome then
        let t : State := s.modLc n (fun x => { x with pend := some i })
        if c.pend.isSome then t.cellOverrun n else t
      else s.modLc n (fun x => { x with ready := some i })
    s.laneStep (cellLane n)

/-- The last y of a cell, which an invalid sample repeats (R249). -/
def State.lastY (s : State) (n : Nat) : Nat := match (s.lc n).last with | some o => o.inp.y | none => 0

/-- FF of R221: FF_GAIN times the profile's acceleration for a VCM cell, 0 for the others (R274). -/
def State.ffOf (s : State) (n : Nat) : Nat :=
  if 32 ≤ n ∧ n < 36 then bfOf (dyMul (bfVal (s.par (0x4100 + n) 7)) (bfVal (tabGet .reset s.pg (n - 32)).a)) else 0

/-- CELL_TRIGGER (R217): the trigger source delivers y; r is the reference the owner holds for the cell. -/
def execCellTrigger (n : Cell) (y : Word) (valid : Bool) (s : State) : Res :=
  .next (s.cellTrig n.val (if valid then y.toNat else s.lastY n.val) (s.lc n.val).ref (s.ffOf n.val) valid)

/-- GAIN_SET_REQUEST (R226): a second request before the start replaces the first. -/
def State.gainReq (s : State) (n g : Nat) : State := s.modLc n (fun c => { c with greq := some g })

def execGainSetRequest (n : Cell) (g : Fin 4) (s : State) : Res := .next (s.gainReq n.val g.val)

/-- A mode change from not triggered to triggered is a transfer from the value given (R268). -/
def State.cellPreset (s : State) (n v : Nat) : State := s.modLc n (fun c => { c with vPrev := v, due := true, live := true })

/-- DEADLINE_MISS (R217): counted, a C1; four within 100 evaluations of the cell are a C3. -/
def State.deadlineMiss (s : State) (n : Nat) : State :=
  let c := s.lc n
  if c.ready.isNone && c.run.isNone then s
  else
    let lane := cellLane n
    let now := c.evals + 1
    let recent := (c.missAt ++ [now]).filter (fun e => decide (now < e + 100))
    let s : State := (s.modLc n (fun x => { x with misses := x.misses + 1, missAt := recent })).cnt MC_MISS_MISS lane
    let s : State := s.report (srcId MOT lane 2) n
    if 4 ≤ recent.length then s.report (srcId MOT lane 32) n else s

def execDeadlineMiss (n : Cell) (s : State) : Res := .next (s.deadlineMiss n.val)

/-! ### Recording (R240) -/

def State.recSize (s : State) : Nat := s.ent 0xF020 2

/-- A record of an evaluation (R240): mode 1 stops when full, mode 2 stops 1,024 records after a fault. -/
def State.recordEval (s : State) (n : Nat) (o : CellOut) (evals : Nat) (winner : Bool) : State :=
  if s.mrec.st ≠ 1 ∨ !bitOf (s.ent 0xF020 3) n ∨ s.recSize = 0 then s
  else
    let m := s.mrec
    let r : MotRec := { cell := n, gset := o.gset, flags := o.sat.toNat + 2 * o.transfer.toNat + 4 * winner.toNat + 8 * (!o.inp.valid).toNat,
                        eval := evals % 2 ^ 32, y := o.inp.y, r := o.inp.r, ff := o.inp.ff, u := o.u, time := o.inp.time }
    let wr := (m.wr + 1) % s.recSize
    let left := m.left.map (· - 1)
    let st := if s.ent 0xF020 5 = 1 ∧ m.total + 1 = s.recSize then 2 else if left = some 0 then 3 else 1
    { s with mrec := { m with recs := tabSet m.recs m.wr r, wr := wr, total := m.total + 1, left := left, st := st } }

/-- REC_CMD (R240): START goes on from the write index; CLEAR empties the ring. -/
def State.recStart (s : State) : State := { s with mrec.st := 1, mrec.left := none }
def State.recStop (s : State) : State := if s.mrec.st = 1 then { s with mrec.st := 0 } else s
def State.recClear (s : State) : State := { s with mrec.recs := [], mrec.wr := 0, mrec.total := 0, mrec.lost := 0, mrec.st := if s.mrec.st = 1 then 1 else 0 }

def execRecStart (s : State) : Res := .next s.recStart
def execRecStop (s : State) : Res := .next s.recStop
def execRecClear (s : State) : Res := .next s.recClear

/-! ### Shadows (R241, R242) -/

def shadowMode (s : State) (m : Nat) : Nat := if s.par (0x4100 + m) 1 = 1 then s.ent (0x4100 + m) 10 else 0

/-- The shadow cells. -/
def shadows : List Nat := (List.range 16).map (· + 48)

/-- A live evaluation reaches the LIVE shadows of its cell; a shadow still busy skips it. -/
def State.feedShadows (s : State) (n : Nat) (o : CellOut) (evals : Nat) : State :=
  shadows.foldl (fun t m =>
    if shadowMode t m = 1 ∧ t.ent (0x4100 + m) 9 = n then
      t.modLc m (fun c => match c.shadow with
        | some _ => { c with skipped := c.skipped + 1 }
        | none => { c with shadow := some (o.inp, o.gset, o.u, evals) })
    else t) s

/-- The replay offers its next record to the RECORD shadows of its cell; records with flag [3] and records of no shadow are passed over. It ends at
the write index as it stood, or at a record already overwritten (R242). `fuel` bounds the records passed. -/
def State.replayFeed (s : State) : Nat → State
  | 0 => s
  | fuel + 1 =>
    if s.mrec.rpSt ≠ 1 ∨ shadows.any (fun m => shadowMode s m == 2 && (s.lc m).shadow.isSome) then s
    else if s.mrec.rpEnd ≤ s.mrec.rpPos ∨ s.recSize < s.mrec.total - s.mrec.rpPos then { s with mrec.rpSt := 2 }
    else
      let r := tabFind s.mrec.recs (s.mrec.rpPos % s.recSize)
      let s : State := { s with mrec.rpPos := s.mrec.rpPos + 1 }
      let s : State := match r with
        | none => s
        | some x =>
          if bitOf x.flags 3 then s
          else shadows.foldl (fun t m =>
            if shadowMode t m = 2 ∧ t.ent (0x4100 + m) 9 = x.cell then
              t.modLc m (fun c => { c with shadow := some ({ y := x.y, r := x.r, ff := x.ff, valid := true, time := x.time }, x.gset, x.u, x.eval) })
            else t) s
      s.replayFeed fuel

/-- Running count of the record at an index of the ring. -/
def State.recCount (s : State) (ix : Nat) : Nat :=
  if s.mrec.total ≤ s.recSize then min ix s.mrec.total
  else if ix < s.mrec.wr then s.mrec.total - s.mrec.wr + ix else s.mrec.total - s.mrec.wr + ix - s.recSize

/-- REPLAY_CMD 1 (R240, R242): from REPLAY_FROM to the write index as it stands now. -/
def State.replayFrom (s : State) : State :=
  let s : State := { s with mrec.rpSt := 1, mrec.rpPos := s.recCount (s.ent 0xF020 10), mrec.rpEnd := s.mrec.total }
  s.replayFeed (s.recSize + 1)

/-- REPLAY_CMD 2: stops it. -/
def State.replayHalt (s : State) : State := if s.mrec.rpSt = 1 then { s with mrec.rpSt := 0 } else s

def execReplayCmdStart (s : State) : Res := .next s.replayFrom
def execReplayCmdStop (s : State) : Res := .next s.replayHalt

/-- SHADOW_EVAL (R216, R241, R242): only while no live cell of the lane is ready or running; u is compared with its source's. -/
def State.shadowEval (s : State) (m : Nat) : State :=
  let lane := cellLane m
  if (s.cellPick lane).isSome || tabGet [] s.mlane lane != [] then s
  else match (s.lc m).shadow with
    | none => s
    | some (i, g, u, ev) =>
      let s : State := if (s.lc m).live then s else s.cellEnable m
      let c := s.lc m
      let o := s.evalCell m c i g (c.due || g != c.gset)
      let d := bfOf (dyAbs (dySub (bfVal o.u) (bfVal u)))
      let s : State := s.modLc m (fun x =>
        { x with iPrev := o.i, dPrev := o.d, ePrev := o.e, yPrev := o.yf, vPrev := o.v, uLast := o.u, bq := o.bq, gset := g, due := false,
                 shadow := none, last := some o, evals := x.evals + 1, sat := if o.sat then x.sat + 1 else 0, maxDiff := bfMax x.maxDiff d,
                 rms := (Config.realFn 242 [x.rms, x.evals, d]).toNat % 2 ^ 32,
                 first := if x.first.isNone && bfGt d (s.ent (0x4100 + m) 11) then some ev else x.first })
      s.replayFeed (s.recSize + 1)

def execShadowEval (n : Fin 16) (s : State) : Res := .next (s.shadowEval (48 + n.val))

/-! ### Profiles (R228 to R231) -/

def State.pgc (s : State) (c : Nat) : PgSt := tabGet .reset s.pg c
def State.modPg (s : State) (c : Nat) (f : PgSt → PgSt) : State := { s with pg := tabMod .reset s.pg c f }

/-- A ratio of naturals. -/
structure Rat0 where
  n : Nat
  d : Nat

/-- A BF24 value that is positive, as a ratio. -/
def ratOf (w : Nat) : Rat0 :=
  let a := bfVal w
  if 0 ≤ a.e then { n := a.m.toNat * 2 ^ a.e.toNat, d := 1 } else { n := a.m.toNat, d := 2 ^ (-a.e).toNat }

/-- The least number that a condition holds of, the condition being monotone, below 2^32. -/
def leastNat (p : Nat → Bool) : Nat :=
  if p 0 then 0
  else 1 + (List.range 32).foldl (fun x i => if p (x + 2 ^ (31 - i)) then x else x + 2 ^ (31 - i)) 0

/-- a <= b for ratios given as products of numerators and of denominators. -/
def ratLe (an ad bn bd : Nat) : Bool := decide (an * bd ≤ bn * ad)

/-- The period of a channel in seconds (R228). -/
def State.pgPeriod (s : State) (c : Nat) : Rat0 := if c = 4 then { n := 1, d := 1000 } else { n := 60, d := 768 * max (s.par 0x5010 1) 1 }

/-- nj, na and nv of R228 for a distance dn / dd, computed exactly (log 19): ceilings of tj / T, ta / T and tv / T through the inequalities that
define them. Only where AMAX / JMAX sets tj are ta and tv of the acceleration-limited form; where VMAX sets it ta is 0, and where the distance
sets it ta and tv are 0. -/
def State.pgPlan (s : State) (c : Nat) (dn dd : Nat) : Nat × Nat × Nat :=
  let t := s.pgPeriod c
  let j := ratOf (s.run PG_JMAXc_JMAX 0 c)
  let a := ratOf (s.run PG_AMAXc_AMAX 0 c)
  let v := ratOf (s.run PG_VMAXc_VMAX 0 c)
  -- n T >= A/J, (n T)^2 J >= V, 2 J (n T)^3 >= d
  let byA := fun n => ratLe (a.n * j.d) (a.d * j.n) (n * t.n) t.d
  let byV := fun n => ratLe (v.n * j.d) (v.d * j.n) ((n * t.n) ^ 2) (t.d ^ 2)
  let byD := fun n => ratLe (dn * j.d) (dd * 2 * j.n) ((n * t.n) ^ 3) (t.d ^ 3)
  let nj := leastNat (fun n => byA n || byV n || byD n)
  -- tj = A/J is the least of the three: (A/J)^2 J <= V and 2 J (A/J)^3 <= d
  let aLim := ratLe (a.n ^ 2 * j.d) (a.d ^ 2 * j.n) v.n v.d && ratLe (2 * a.n ^ 3 * j.d ^ 2) (a.d ^ 3 * j.n ^ 2) dn dd
  let vLim := !aLim && ratLe (4 * v.n ^ 3 * j.d) (v.d ^ 3 * j.n) (dn ^ 2) (dd ^ 2)
  if aLim then
    -- V/A - A/J and the root form, as conditions on n T
    let tjn := a.n * j.d
    let tjd := a.d * j.n
    let byV2 := fun n => ratLe (v.n * a.d) (v.d * a.n) (tjn * t.d + n * t.n * tjd) (tjd * t.d)
    let byD2 := fun n =>
      let m := 2 * n * t.n * tjd + 3 * tjn * t.d
      let md := tjd * t.d
      ratLe (tjn ^ 2 * dd * a.n + 4 * dn * a.d * tjd ^ 2) (tjd ^ 2 * dd * a.n) (m ^ 2) (md ^ 2)
    let na := leastNat (fun n => byV2 n || byD2 n)
    -- cruise: ta = V/A - tj applies where it is the smaller, then tv = d/V - V/A - A/J
    let cruise := ratLe (v.n ^ 2 * a.d * j.n * a.d + v.n * a.n ^ 2 * v.d * j.d) (v.d ^ 2 * a.n * j.n * a.d) dn dd
    let byT := fun n =>
      -- n T + V/A + A/J >= d/V
      ratLe (dn * v.d) (dd * v.n) (n * t.n * v.d * a.n * a.d * j.n + v.n * a.d * t.d * a.d * j.n + a.n * j.d * t.d * v.d * a.n)
        (t.d * v.d * a.n * a.d * j.n)
    (nj, na, if cruise then leastNat byT else 0)
  else if vLim then
    -- n T + 2 sqrt(V/J) >= d/V: 4 V/J >= (d/V - n T)^2 or n T >= d/V
    let nv := leastNat (fun n =>
      ratLe (dn * v.d) (dd * v.n) (n * t.n) t.d ||
        (let gap := dn * v.d * t.d - n * t.n * dd * v.n
         let gd := dd * v.n * t.d
         ratLe (gap ^ 2) (gd ^ 2) (4 * v.n * j.d) (v.d * j.n)))
    (nj, 0, nv)
  else (nj, 0, 0)

def pgTotal (p : Nat × Nat × Nat) : Nat := 4 * p.1 + 2 * p.2.1 + p.2.2

/-- A channel plans from rest (R228). A distance of 0 is no profile. Positions are in 1/8,192 of the channel's unit. -/
def State.pgBegin (s : State) (c : Nat) (target : Int) : State :=
  let p := s.pgc c
  let d := (target - p.pos).natAbs
  if d = 0 then s.modPg c (fun q => { q with target := target, plan := none, k := 0, queued := none })
  else s.modPg c (fun q => { q with target := target, plan := some (s.pgPlan c d 8192), k := 0 })

/-- PG_TARGET (R230): planned at once when idle, queued while a profile runs. -/
def State.pgTarget (s : State) (c : Nat) (target : Int) : State :=
  if (s.pgc c).stop then s
  else if (s.pgc c).plan.isNone then s.pgBegin c target else s.modPg c (fun q => { q with queued := some target })

def execPgTarget (c : Fin 5) (target : Int) (s : State) : Res := .next (s.pgTarget c.val target)

/-- x, v and a after period k of a plan (R229): index 0 x, 1 v, 2 a; the rounding of the steps is open (log 9). -/
def pgWord (which : Nat) (p : PgSt) (plan : Nat × Nat × Nat) (k : Nat) : Nat :=
  (Config.realFn 229 [which, p.pos, p.target, plan.1, plan.2.1, plan.2.2, k]).toNat % 2 ^ 32

/-- A profile period (R229, R230). A stop holds x, clears v, a and the queue; the last period puts the channel on its target at rest, and a
queued target is planned then. -/
def State.pgStep (s : State) (c : Nat) : State :=
  let p := s.pgc c
  if p.stop then
    (s.modPg c (fun q => { q with plan := none, k := 0, v := 0, a := 0, queued := none, stop := false,
                                  pos := if q.plan.isSome then dyUnits 230 (bfVal q.x) 13 else q.pos })).wbit PG_CTRL_STOP c false
  else match p.plan with
    | none => s
    | some pl =>
      if pgTotal pl ≤ p.k + 1 then
        let s : State := s.modPg c (fun q => { q with x := bfOf ⟨q.target, -13⟩, v := 0, a := 0, pos := q.target, plan := none, k := 0 })
        match p.queued with
        | some t => (s.modPg c (fun q => { q with queued := none })).pgBegin c t
        | none => s
      else s.modPg c (fun q => { q with k := q.k + 1, x := pgWord 0 p pl (p.k + 1), v := pgWord 1 p pl (p.k + 1), a := pgWord 2 p pl (p.k + 1) })

/-- PG_STOP (R230, R231). -/
def State.pgStop (s : State) (c : Nat) : State := (s.modPg c (fun q => { q with stop := true })).wbit PG_CTRL_STOP c true

def execPgStop (c : Fin 5) (s : State) : Res := .next (s.pgStop c.val)

/-- MC_CTRL.PEAK_CLR (R243): clears the peak; the bit clears when done. -/
def execMcPeakClr (lane : Fin 4) (s : State) : Res := .next (s.wf MC_LOAD_PEAK 0 lane.val)

/-! ### The end of an evaluation (R221, R225, R227, R232, R233) -/

/-- Source of a cell's saturation fault (R232, R260, R284). -/
def satSource (n : Nat) : Nat := if n < 32 then srcId MOT (cellLane n) 33 else if n < 36 then srcId MOT (5 + (n - 32)) 4 else srcId MOT 14 10

/-- R254: OFFTRACK is set on the head of channel n, which is no longer ready to write. -/
def State.offTrack (s : State) (n : Nat) : State :=
  let a := chAct n
  let h := s.slotHead n
  if h = 0xF then s
  else ((s.wbit VC_HEADS_WRITE_RDY h false a).inhibit inhOFFTRACK true n).modHd (headIx a h) (fun x => { x with writeRun := 0 })

/-- Saturation supervision (R232): the fault is raised once, when the count reaches SAT_LIM; R254 for a milliactuator, a park for a VCM (R260). -/
def State.satCount (s : State) (n : Nat) (sat : Bool) : State :=
  if !sat then
    let s : State := s.modLc n (fun c => { c with sat := 0 })
    if n < 32 then s.modHd (headIx (n / 8) (s.slotHead n)) (fun x => { x with satur := false }) else s
  else
    let k := (s.lc n).sat + 1
    let s : State := s.modLc n (fun c => { c with sat := k, satTotal := c.satTotal + 1 })
    if k ≠ s.par (0x4100 + n) 3 then s
    else
      let s : State := s.report (satSource n) n
      if n < 32 then (s.modHd (headIx (n / 8) (s.slotHead n)) (fun x => { x with satur := true })).offTrack n
      else if n < 36 then s.startPark (n - 32)
      else s

/-- A residual against its limit (R233): RES_N in a row above RES_LIM raise the fault. `b` is the entry index, `r` the residual's operands. -/
def State.resCheck (s : State) (k b src : Nat) (r : List Int) : State :=
  let p := tabGet .reset s.plaus k
  let rf := (Config.realFn 233 ([(k : Int), (p.rf : Int), (s.par b 5 : Int), (s.par b 1 : Int), (s.par b 2 : Int), (s.par b 3 : Int)] ++ r)).toNat % 2 ^ 32
  let cnt := if bfGt rf (s.par b 4) then p.overs + 1 else 0
  let s : State := { s with plaus := tabSet s.plaus k { p with rf := rf, overs := cnt } }
  if cnt = s.par b 6 then s.report src else s

/-- The VCM residual (R233): formed with three valid samples in a row, from positions in 1/4,096 track and the measured current in mA. -/
def State.vcmResidual (s : State) (a : Nat) (valid : Bool) (x i : Int) : State :=
  let p := tabGet .reset s.plaus a
  if !valid then { s with plaus := tabSet s.plaus a { p with run := 0, overs := 0 } }
  else
    let s : State := { s with plaus := tabSet s.plaus a { p with run := min 3 (p.run + 1), x1 := x, x2 := p.x1, i1 := i } }
    if 2 ≤ p.run ∧ bfGt (s.par (0x4020 + a) 1) 0 then
      let before := (tabGet .reset s.plaus a).overs
      let s : State := s.resCheck a (0x4020 + a) (srcId MOT (5 + a) 5) [x, p.x1, p.x2, p.i1]
      if (tabGet .reset s.plaus a).overs = s.par (0x4020 + a) 6 ∧ before < s.par (0x4020 + a) 6 then s.startPark a else s
    else s

/-- The drive code of a milliactuator output (R218, R246). -/
def State.maCode (s : State) (a h u : Nat) : Nat :=
  let k := bfVal (s.ent (0x4200 + headIx a h) 9)
  let v := dyMul (bfVal u) (dyInt 1600)
  if k.m = 0 then utrunc 16 (sext 16 (Config.realFn 246 [u]).toNat)
  else
    let al := dyAlign v k
    let n := if al.2 < 0 then -al.1 else al.1
    i16sat (nearRound 246 n al.2.natAbs)

/-- The group's output after LC41 (R227): the least u wins, the others track it. A faulty chopper keeps it from being negative (R280). -/
def State.groupSelect (s : State) : State :=
  let us := [38, 39, 40, 41].map (fun m => (m, (s.lc m).uLast))
  let win := us.foldl (fun (b : Nat × Nat) x => if bfGt b.2 x.2 then x else b) (38, (s.lc 38).uLast)
  let g := win.2
  let s : State := us.foldl (fun t x =>
    match (t.lc x.1).last with
    | none => t
    | some o =>
      let t : State := t.recordEval x.1 o (t.lc x.1).evals (x.1 == win.1)
      if x.1 = win.1 then t.satCount x.1 o.sat
      else
        let k := t.gain x.1 o.gset
        let i := stageOf [bfTerm g, termNeg (bfTerm o.p), termNeg (bfTerm o.d), termNeg (bfTerm o.inp.ff)]
        t.modLc x.1 (fun c => { c with iPrev := bfMin (bfMax i.1 (k 4)) (k 5), vPrev := g })) s
  let g' := if s.rb SP_STATUS_CHOP_FAULT then bfMax g 0 else g
  let s : State := { s with spin.g := g' }
  if [3, 4, 8].contains (s.rf SP_STATUS_MODE) then s.modLc 37 (fun c => { c with ref := g' }) else s

/-- SP_STATUS.VLIM (R264): the voltage vector is longer than V_BUS / √3. -/
def State.vlim (s : State) : State :=
  let sq := fun w => dyMul (bfVal w) (bfVal w)
  let v := dyAdd (sq (s.lc 36).uLast) (sq (s.lc 37).uLast)
  let b : Nat := s.rf SP_BUS_VBUS
  s.wb SP_STATUS_VLIM (dyLt (dyInt (b * b)) (dyMul v (dyInt 3000000)))

/-- The output goes to the cell's owner (R218, R245, R264). -/
def State.deliver_ (s : State) (n : Nat) (o : CellOut) : State :=
  if n < 32 then
    let h := s.slotHead n
    if h = 0xF then s else s.maDrive (n / 8) [(n % 8, s.maCode (n / 8) h o.u)]
  else if n < 36 then
    let a := n - 32
    let s : State := s.wf VC_CURRENT_I_DEM (utrunc 16 (max (-32768) (min 32767 (dyUnits 245 (dyMul (bfVal o.u) (dyInt 1000)) 0)))) a
    s.vcmResidual a o.inp.valid (dyUnits 245 (bfVal o.inp.y) 12) (sext 16 (s.rf VC_CURRENT_I_MEAS a))
  else if n < 38 then s.vlim
  else s

/-- EVAL_COMPLETE: the running evaluation of a lane ends (R216, R221). -/
def State.evalDone (s : State) (n : Nat) : State :=
  let lane := cellLane n
  match tabGet [] s.mlane lane, (s.lc n).run with
  | t :: rest, some o =>
    if t ≠ n then s
    else
      let step := bfOf (dyAbs (dySub (bfVal o.v) (bfVal (s.lc n).vPrev)))
      let s : State := { s with mlane := tabSet s.mlane lane rest }
      let s : State := s.modLc n (fun c =>
        { c with iPrev := o.i, dPrev := o.d, ePrev := o.e, yPrev := o.yf, vPrev := o.v, uLast := o.u, bq := o.bq, run := none, last := some o,
                 evals := c.evals + 1, ready := c.pend, pend := none })
      let s : State := if o.clamp then s.report (srcId MOT 4 32) n step else s
      let s : State := if o.numeric then (s.cnt MC_ERR_NUMERIC lane).report (srcId MOT lane 3) n else s
      let busy := (Config.realFn 243 [lane, n, (s.lc n).evals, s.coreTime.toNat]).toNat % 65536
      let s : State := (s.wf MC_LOAD_LOAD busy lane).wf MC_LOAD_PEAK (max busy (s.rf MC_LOAD_PEAK lane)) lane
      let s : State := if inGroup n then s else (s.recordEval n o (s.lc n).evals false).satCount n o.sat
      let s : State := (s.feedShadows n o (s.lc n).evals).deliver_ n o
      let s : State := if n = 41 then s.groupSelect else s
      s.laneStep lane
  | _, _ => s

def execEvalComplete (n : Cell) (s : State) : Res := .next (s.evalDone n.val)

end Sys2Proof.Machine
end

