-- ==== Sys2Proof/Machine/Spindle.lean ====
section
/-! DEFINITION. Spindle.lean: spindle control (11_spindle.md). Currents are in mA, bus voltages in mV, speeds in 0.25 rpm, angles in 1/65,536 turn.
The observer's arithmetic has no stated number format: its results are open values of the operands of R269 (log 9). -/

namespace Sys2Proof.Machine
open Sys2Proof

/-! ### Modes (R267, R268, R272) -/

def spSTOPPED : Nat := 0
def spDETECT : Nat := 1
def spSTART : Nat := 2
def spACCEL : Nat := 3
def spRUN : Nat := 4
def spHOLD : Nat := 5
def spCOAST : Nat := 6
def spCATCH : Nat := 7
def spBRAKE : Nat := 8
def spZV : Nat := 9
def spGENERATE : Nat := 10
def spDISABLED : Nat := 11
def spFAILED : Nat := 12

def State.sp (s : State) : Nat := s.rf SP_STATUS_MODE
def State.modSpin (s : State) (f : Spin → Spin) : State := { s with spin := f s.spin }
def State.spReport (s : State) (num : Nat) (detail : Nat := 0) : State := s.report (srcId MOT 14 num) 0 detail

/-- Modes in which current ticks trigger LC36 and LC37, and speed ticks the group (R267). -/
def currentModes : List Nat := [spSTART, spACCEL, spRUN, spHOLD, spBRAKE, spGENERATE]
def groupModes : List Nat := [spACCEL, spRUN, spBRAKE]

/-- Gain set of a mode (R267). -/
def spGain (m : Nat) : Nat := if m = spSTART then 0 else if m = spACCEL then 1 else if m = spRUN ∨ m = spHOLD then 2 else 3

/-- SPINDLE clears when RUN is entered, or held, with the observer LOCKED (R272). -/
def State.spClear (s : State) : State := if s.sp = spRUN ∧ s.rb SP_STATUS_LOCKED then s.inhibitAll inhSPINDLE false else s

/-- A mode change (R267, R268, R272): v_prev presets and gain sets of the cells it starts; `vd` and `vq` are the voltage vector in force. -/
def State.spGo (s : State) (m vd vq : Nat) : State :=
  let old := s.sp
  let s : State := s.wf SP_STATUS_MODE m
  let s : State := if m = spRUN then s else (s.wb SP_STATUS_AT_SPEED false).inhibitAll inhSPINDLE true
  let s : State := if !currentModes.contains m then s.wb SP_STATUS_LOCKED false
    else
      let s : State := if currentModes.contains old then s else (s.cellPreset 36 vd).cellPreset 37 vq
      (s.gainReq 36 (spGain m)).gainReq 37 (spGain m)
  let s : State := if !groupModes.contains m then s
    else
      let iq := (s.lc 37).ref
      let s : State := if groupModes.contains old then s else [38, 39, 40, 41].foldl (fun t n => t.cellPreset n iq) { s with spin.g := iq }
      [38, 39, 40, 41].foldl (fun t n => t.gainReq n (spGain m)) s
  let s : State := s.modLc 36 (fun c => { c with ref := 0 })
  let s : State := if m = spSTART then s.modLc 37 (fun c => { c with ref := s.par 0x5010 13 })
    else if m = spHOLD then s.modLc 37 (fun c => { c with ref := s.spin.iqRef }) else s
  s.spClear

/-- A mode change with the cells' last vector, 0 when the bridge was off. -/
def State.spMode (s : State) (m : Nat) : State :=
  if currentModes.contains s.sp then s.spGo m (s.lc 36).uLast (s.lc 37).uLast else s.spGo m 0 0

/-- PG4 is planned from the measured speed to a target in rpm (R271, R273, R279). -/
def State.spPlan (s : State) (rpm : Nat) : State :=
  let v : Int := s.rf SP_SPEED_SPEED * 2048
  (s.modPg 4 (fun p => { p with pos := v, x := bfOf ⟨v, -13⟩, plan := none, queued := none, stop := false })).pgBegin 4 (rpm * 8192)

def State.spAccel (s : State) : State := (s.spMode spACCEL).spPlan (s.par 0x5010 1) |>.modSpin (fun p => { p with near := 0 })

/-- Both spindle modules are ADMITTED (R263). -/
def State.spAdmitted (s : State) : Bool := s.rf MOD_ADMIT_STATE 0 4 == modADMITTED && s.rf MOD_ADMIT_STATE 0 5 == modADMITTED

/-! ### Start (R271) -/

/-- Step 1: DETECT with the gates off. -/
def State.spDetect (s : State) : State := (s.spMode spDETECT).modSpin (fun p => { p with step := 1, pulses := [], double := false, crossings := 0 })

/-- SP_START (R271, R279, R280): from STOPPED or COAST, or from BRAKE; kept for later in HOLD; refused with a faulty chopper, without both modules,
and behind a STOP that is being carried out. -/
def State.spStart (s : State) : State :=
  if s.sp = spHOLD then s.modSpin (fun p => { p with want := 1 })
  else if s.rb SP_STATUS_CHOP_FAULT || !s.spAdmitted || s.spin.stopping then s
  else if s.sp = spSTOPPED ∨ s.sp = spCOAST then (s.modSpin (fun p => { p with tries := 0 })).spDetect
  else if s.sp = spBRAKE then s.spAccel
  else s

def execSpStart (s : State) : Res := .next s.spStart

/-- A failed attempt (R271): gates off for 500 ms; the third is START_FAIL. -/
def State.spAttemptFail (s : State) : State :=
  let n := s.spin.tries + 1
  let s : State := ((s.cnt SP_STATUS_START_FAILS).lifeCount 1).modSpin (fun p => { p with tries := n, step := if n = 3 then 0 else 10 })
  if n = 3 then (s.spMode spFAILED).spReport 1 else s.spMode spSTOPPED

/-- DETECT_TIMEOUT (R271 step 3). -/
def execDetectTimeout (s : State) : Res :=
  .next (if s.sp = spDETECT ∧ s.spin.step = 1 then s.modSpin (fun p => { p with step := 3 }) else s)

/-- OFFSET_CAL_DONE (R265): an offset beyond 5 % of the 12-bit converter range refuses the start. -/
def execOffsetCalDone (u v : Int) (s : State) : Res :=
  if s.sp = spDETECT ∧ s.spin.step = 3 then
    let s : State := (s.wf SP_CAL_OFS_U (utrunc 12 u)).wf SP_CAL_OFS_V (utrunc 12 v)
    if 4096 < 20 * u.natAbs ∨ 4096 < 20 * v.natAbs then .next (((s.spMode spFAILED).modSpin (fun p => { p with step := 0 })).spReport 0)
    else .next (s.modSpin (fun p => { p with step := 4, pulses := [], double := false }))
  else .next s

/-- Index of the largest peak, the first on a tie. -/
def peakIx (l : List Nat) : Nat := (List.range l.length).foldl (fun b i => if l.getD b 0 < l.getD i 0 then i else b) 0

/-- TEST_PULSE_DONE (R271 steps 4 to 7). The parabolic refinement of the angle is an open value (log 9). -/
def State.testPulse (s : State) (peak : Nat) : State :=
  if s.sp ≠ spDETECT ∨ s.spin.step ≠ 4 then s
  else
    let l := s.spin.pulses ++ [peak]
    if l.length < 12 then s.modSpin (fun p => { p with pulses := l })
    else
      let i := peakIx l
      if 103 * l.getD ((i + 6) % 12) 0 ≤ 100 * l.getD i 0 then
        let ang := (Config.realFn 271 (((i : Int)) :: l.map (fun (x : Nat) => (x : Int)))).toNat % 65536
        ((s.modSpin (fun p => { p with step := 7, pulses := [], below := 0, above := 0, allBelow := true, allAbove := true, omega := 0, efA := 0, efB := 0, iA := 0, iB := 0 })).wf
          SP_SPEED_ANGLE ang).spMode spSTART
      else if !s.spin.double then s.modSpin (fun p => { p with pulses := [], double := true })
      else (s.modSpin (fun p => { p with pulses := [] })).spAttemptFail

def execTestPulseDone (peak : Nat) (s : State) : Res := .next (s.testPulse peak)

/-- START_ATTEMPT_TIMEOUT (R271 step 8). -/
def execStartAttemptTimeout (s : State) : Res := .next (if s.sp = spSTART then s.spAttemptFail else s)

/-- START_RESTART_DELAY (R271). -/
def execStartRestartDelay (s : State) : Res := .next (if s.spin.step = 10 ∧ s.sp = spSTOPPED then s.spDetect else s)

/-! ### Braking and stopping (R279, R280) -/

def State.spZvBrake (s : State) (next : Nat) : State := (s.spMode spZV).modSpin (fun p => { p with zvThen := next, step := 0 })

/-- The actuators are UNLOADED: a STOP brakes, a chopper stop shorts the windings (R279, R280). -/
def State.spProceed (s : State) : State :=
  if !s.allUnloaded then s
  else
    let s : State := if s.spin.chopStop then
        let t : State := s.modSpin (fun p => { p with chopStop := false, stopping := false })
        if t.sp = spDISABLED ∨ t.sp = spFAILED ∨ t.sp = spSTOPPED then t else t.spZvBrake 0
      else s
    if s.spin.stopping then
      let s : State := s.modSpin (fun p => { p with stopping := false })
      if s.sp = spACCEL ∨ s.sp = spRUN then (s.spMode spBRAKE).spPlan 0
      else if s.sp = spDETECT ∨ s.sp = spSTART ∨ s.sp = spCATCH ∨ s.sp = spCOAST then s.spZvBrake 0
      else if s.sp = spHOLD then s.modSpin (fun p => { p with want := 2 })
      else s
    else s

/-- SP_STOP (R279): every loaded actuator parks first. A 500 ms wait of a failed start is ended. -/
def State.spStop (s : State) : State :=
  if s.sp = spDISABLED ∨ s.sp = spFAILED then s
  else if s.sp = spSTOPPED then s.modSpin (fun p => { p with step := 0 })
  else if s.sp = spHOLD then s.modSpin (fun p => { p with want := 2 })
  else (s.parkAll.modSpin (fun p => { p with stopping := true })).spProceed

def execSpStop (s : State) : Res := .next s.spStop

/-- SP_COAST (R286): refused while an actuator is not UNLOADED. -/
def State.spCoast (s : State) : State :=
  if !s.allUnloaded ∨ s.sp = spDISABLED ∨ s.sp = spFAILED ∨ s.sp = spSTOPPED then s
  else if s.sp = spHOLD then s.modSpin (fun p => { p with want := 3 })
  else (s.spMode spCOAST).modSpin (fun p => { p with step := 0 })

def execSpCoast (s : State) : Res := .next s.spCoast

/-- SP_RESET (R286): from FAILED or DISABLED; a rotor still turning is caught. -/
def State.spReset (s : State) (turning : Bool) : State :=
  if s.sp = spDISABLED ∨ s.sp = spFAILED then
    (((s.wb SP_STATUS_CHOP_FAULT false).wb SP_STATUS_OV2 false).spMode (if turning then spCATCH else spSTOPPED)).modSpin
      (fun p => { p with step := 0, tries := 0, crossings := 0, overs := 0, chopStop := false, stopping := false })
  else s

def execSpReset (turning : Bool) (s : State) : Res := .next (s.spReset turning)

/-- OV1_CROSS (R280): the BRAKE output follows the comparator in every mode. -/
def execOv1Cross (above : Bool) (s : State) : Res := .next (s.wb SP_STATUS_BRAKE above)

/-- CHOPPER_FAULT (R280). -/
def execChopperFault (s : State) : Res :=
  if s.rb SP_STATUS_BRAKE ∧ !s.rb SP_STATUS_CHOP_FAULT then
    let s : State := (s.wb SP_STATUS_CHOP_FAULT true).modSpin (fun p => { p with chopStop := true, g := bfMax p.g 0 })
    let s : State := if groupModes.contains s.sp then s.modLc 37 (fun c => { c with ref := bfMax c.ref 0 }) else s
    .next ((s.retractAll.spReport 6).spProceed)
  else .next s

/-- OV2_TRIP (R281): gates off, DISABLED, in any mode. -/
def execOv2Trip (s : State) : Res := .next (((s.spMode spDISABLED).wb SP_STATUS_OV2 true).spReport 7)

/-! ### Loss of lock (R270, R277) -/

/-- Observer loss (R277 steps 1 and 2). -/
def State.obsLoss (s : State) : State :=
  let iq := bfMin (s.lc 37).ref (s.par 0x5010 2)
  let s : State := s.modSpin (fun p => { p with holdFrom := s.sp, iqRef := iq, samples := [], holdN := 0, below := 0, above := 0 })
  (((s.wb SP_STATUS_LOCKED false).cnt SP_STATUS_LOSS_COUNT).spMode spHOLD).spReport 2

/-- The regulator of GENERATE (R283). -/
def State.genRef (s : State) : Nat :=
  let v := bfOfRat (s.rf SP_BUS_VBUS) 1000
  let x := stageOf [bfProd (s.par 0x5010 20) (stageOf [bfTerm (s.par 0x5010 18), termNeg (bfTerm v)]).1]
  let g := bfOf (dyNeg (bfVal (bfMin (s.par 0x5010 19) (bfMax 0 x.1))))
  if s.rb SP_STATUS_CHOP_FAULT then bfMax g 0 else g

def State.spGenerate (s : State) : State :=
  let s : State := s.spMode spGENERATE
  s.modLc 37 (fun c => { c with ref := s.genRef })

/-- A sector is being written on the half-stack. -/
def State.fieldWriting (s : State) (a : Nat) : Bool :=
  (chansOf a).any (fun n => let c := s.ch n
    c.wgate && c.begun && !c.ended && (match c.target with | some t => t.write | none => false))

/-- Power is lost (R283): write inhibit PFAIL, retract at the end of the fields being written, and GENERATE if the observer is LOCKED; in HOLD that waits for step 4 of R277. -/
def State.powerLost (s : State) : State :=
  let s : State := s.inhibitAll inhPFAIL true
  let s : State := (List.range s.nAct).foldl (fun t a => if t.fieldWriting a then t else t.startRetract a) s
  if s.sp = spHOLD then s.modSpin (fun p => { p with lostPower := true })
  else if s.rb SP_STATUS_LOCKED ∧ s.sp ≠ spGENERATE ∧ s.sp ≠ spDISABLED ∧ s.sp ≠ spFAILED then s.spGenerate
  else s

/-- PFAIL_N is deasserted (R283): back to ACCEL; the actuators stay unloaded. -/
def State.powerBack (s : State) : State :=
  let s : State := s.modSpin (fun p => { p with lostPower := false })
  if s.sp = spGENERATE then s.spAccel else s

/-- UNDERVOLT_TIMEOUT (R283, R284). -/
def execUndervoltTimeout (s : State) : Res := .next (s.powerLost.spReport 8)

/-- R278: below 80 % of the target with an actuator not UNLOADED. -/
def State.flySpeed (s : State) : State :=
  if !s.allUnloaded ∧ 5 * s.rf SP_SPEED_SPEED < 16 * s.par 0x5010 1 then s.retractAll.spReport 4 else s

/-- The mode returns from HOLD and a request that waited is applied (R277 step 4, R283). -/
def State.holdReturn (s : State) : State :=
  let w := s.spin.want
  let s : State := s.spMode s.spin.holdFrom
  let s : State := if groupModes.contains s.sp then s.modLc 37 (fun c => { c with ref := s.spin.g }) else s
  let pl := s.spin.lostPower
  let s : State := s.modSpin (fun p => { p with want := 0, lostPower := false, below := 0, above := 0, allBelow := true, allAbove := true })
  let s : State := if pl then s.spGenerate else s
  if w = 1 then s.spStart else if w = 2 then s.spStop else if w = 3 then s.spCoast else s

/-- HOLD_PERIOD_SAMPLE (R277 steps 3 and 4, R278): x is the crossing's angle less the estimate. The mean's rounding and the new speed are open. -/
def State.holdSample (s : State) (x : Int) : State :=
  if s.sp ≠ spHOLD then s
  else
    let l := (s.spin.samples ++ [x]).drop (s.spin.samples.length - 2)
    let s : State := s.flySpeed
    let s : State := s.modSpin (fun p => { p with samples := l, holdN := p.holdN + 1 })
    let mx := l.foldl max (l.headD 0)
    let mn := l.foldl min (l.headD 0)
    if l.length = 3 ∧ 36 * (mx - mn).natAbs ≤ 65536 then
      let mean := openRound 277 (l.foldl (· + ·) 0) 3
      let w := (Config.realFn 278 (((s.spin.omega : Nat) : Int) :: l)).toNat % 2 ^ 32
      let s : State := (s.wf SP_SPEED_ANGLE (utrunc 16 (s.rf SP_SPEED_ANGLE + mean))).modSpin (fun p => { p with omega := w })
      s.holdReturn
    else s

def execHoldPeriodSample (x : Int) (s : State) : Res := .next (s.holdSample x)

/-- HOLD_TIMEOUT (R277 steps 5 and 6): retract, COAST, a C3, then CATCH at once. -/
def execHoldTimeout (s : State) : Res :=
  if s.sp = spHOLD then
    let s : State := ((s.retractAll.spMode spCOAST).spReport 3).modSpin (fun p => { p with want := 0, lostPower := false, crossings := 0 })
    .next (s.spMode spCATCH)
  else .next s

/-! ### Current ticks (R264, R265, R269, R270) -/

/-- Pole pairs, phase resistance and inductance of the motor module (R263). -/
def State.motorRec (s : State) (t : Nat) : List Byte := (recOf (s.idr 4).recs t).getD []
def State.polePairs (s : State) : Nat := ((s.motorRec 6).getD 0 0).toNat / 2
def State.phaseR (s : State) : Nat := recNat (s.motorRec 7) 0 2
def State.phaseL (s : State) : Nat := recNat (s.motorRec 7) 2 2

/-- The results of R269 at one tick: err, and the observer with its new angle and speed. -/
def State.observe (s : State) (iu iv : Int) : Int × State :=
  let th : Int := s.rf SP_SPEED_ANGLE
  let vd : Int := (s.lc 36).uLast
  let vq : Int := (s.lc 37).uLast
  let old := s.spin
  let args : List Int := [vd, vq, th, iu, iv, old.iA, old.iB, s.phaseR, s.phaseL]
  let efA : Nat := (Config.realFn 269 ([0, (old.efA : Int)] ++ args)).toNat % 2 ^ 32
  let efB : Nat := (Config.realFn 269 ([1, (old.efB : Int)] ++ args)).toNat % 2 ^ 32
  let err := sext 16 (Config.realFn 270 [efA, efB, th]).toNat
  let omega : Nat := (Config.realFn 272 [old.omega, s.par 0x5010 24, err]).toNat % 2 ^ 32
  let ang := (Config.realFn 273 [th, omega, s.par 0x5010 23, err]).toNat % 65536
  let speed := (Config.realFn 274 [omega, s.polePairs]).toNat % 65536
  let s : State := s.modSpin (fun p => { p with iA := iu, iB := iv, efA := efA, efB := efB, omega := omega })
  (err, (s.wf SP_SPEED_ANGLE ang).wf SP_SPEED_SPEED speed)

/-- What one tick's err does to the lock (R270): an electrical period ends where the angle wraps; three periods below 10 degrees at OBS_MIN or more
lock, three above 30 degrees lose the lock. -/
def State.obsLock (s : State) (err : Int) (wrap : Bool) : State :=
  let lo := decide (36 * err.natAbs < 65536)
  let hi := decide (65536 < 12 * err.natAbs)
  let s : State := s.modSpin (fun p => { p with allBelow := p.allBelow && lo, allAbove := p.allAbove && hi })
  if !wrap then s
  else
    let s : State := s.modSpin (fun p => { p with below := if p.allBelow then p.below + 1 else 0, above := if p.allAbove then p.above + 1 else 0,
                                                  allBelow := true, allAbove := true })
    if s.rb SP_STATUS_LOCKED then
      if 3 ≤ s.spin.above then
        if [spACCEL, spRUN, spBRAKE, spGENERATE].contains s.sp then s.obsLoss else s.wb SP_STATUS_LOCKED false
      else s
    else if 3 ≤ s.spin.below ∧ 4 * s.par 0x5010 15 ≤ s.rf SP_SPEED_SPEED then (s.wb SP_STATUS_LOCKED true).spClear
    else s

/-- Phase current amplitude above OC_TRIP (R284): 4 (iu^2 + iu iv + iv^2) > 3 OC^2, in mA. -/
def State.overCurrent (s : State) (iu iv : Int) : Bool :=
  let oc := dyMul (bfVal (s.par 0x5010 21)) (bfVal (s.par 0x5010 21))
  dyLt (dyMul oc (dyInt 3000000)) (dyInt (4 * (iu * iu + iu * iv + iv * iv)))

/-- R284 OVERCURRENT: each period a C1; 64 in a row disable the spindle, a C3. -/
def State.currentCheck (s : State) (iu iv : Int) : State :=
  if s.overCurrent iu iv then
    let s : State := (s.modSpin (fun p => { p with overs := p.overs + 1 })).spReport 5
    if s.spin.overs = 64 then (s.spMode spDISABLED).spReport 32 else s
  else s.modSpin (fun p => { p with overs := 0 })

/-- CURRENT_TICK: the samples (converted to mA and mV by record 0x0009 less the residual offset, R265), the observer, the steps of R271, R279 and
R283 that it decides, and the triggers of LC36 and LC37. In HOLD the angle advances at the last speed (R277). -/
def State.currentTick (s : State) (iu iv : Int) (vbus : Nat) : State :=
  let s : State := ((s.wf SP_PHASE_IU (utrunc 16 iu)).wf SP_PHASE_IV (utrunc 16 iv)).wf SP_BUS_VBUS vbus
  if !currentModes.contains s.sp then s
  else
    let th := s.rf SP_SPEED_ANGLE
    let id := sext 16 (Config.realFn 268 [0, iu, iv, th]).toNat
    let iq := sext 16 (Config.realFn 268 [1, iu, iv, th]).toNat
    let s : State := (s.wf SP_CURRENT_ID (utrunc 16 id)).wf SP_CURRENT_IQ (utrunc 16 iq)
    let s : State := s.currentCheck iu iv
    let s : State :=
      if s.sp = spHOLD then s.wf SP_SPEED_ANGLE ((Config.realFn 276 [th, s.spin.omega]).toNat)
      else
        let r := s.observe iu iv
        r.2.obsLock r.1 (decide (r.2.rf SP_SPEED_ANGLE < th))
    let s : State := if s.sp = spSTART ∧ s.rb SP_STATUS_LOCKED then ((s.modSpin (fun p => { p with step := 0 })).spAccel).lifeCount 0 else s
    let s : State := if s.sp = spBRAKE ∧ s.rf SP_SPEED_SPEED ≤ 4 * s.par 0x5010 15 then s.spZvBrake 0 else s
    let s : State := if s.sp = spGENERATE then s.modLc 37 (fun c => { c with ref := s.genRef }) else s
    if currentModes.contains s.sp then
      let s : State := s.cellTrig 36 (bfOfRat id 1000) 0 0 true
      s.cellTrig 37 (bfOfRat iq 1000) (s.lc 37).ref 0 true
    else s

def execCurrentTick (iu iv : Int) (vbus : BitVec 16) (s : State) : Res := .next (s.currentTick iu iv vbus.toNat)

/-! ### Speed ticks (R272, R274, R275, R278) -/

/-- Temperatures of R275; the update's rounding is open. TEMP_RANGE is raised when T_AMB_DEF comes into use. -/
def State.spTemp (s : State) (ambient : Int) (current : Nat) : State :=
  let oow := s.rb IF_STATUS_TEMP_OOW
  let amb := if oow then s.par 0x5010 22 else bfOf ⟨ambient, -4⟩
  let s : State := if oow ∧ s.spin.ambient ≠ amb then s.spReport 9 else s
  let w := (Config.realFn 275 [s.spin.winding, amb, s.par 0x5010 5, s.par 0x5010 6, s.phaseR, current]).toNat % 2 ^ 32
  let s : State := s.modSpin (fun p => { p with winding := w, ambient := amb })
  (s.wf SP_TEMP_WINDING (utrunc 16 (dyUnits 275 (bfVal w) 4))).wf SP_TEMP_AMBIENT (utrunc 16 (dyUnits 275 (bfVal amb) 4))

/-- SPEED_TICK: `current` is the mean phase current amplitude in mA, `power` the mean input power in 10 mW, `ambient` the enclosure temperature in
1/16 °C, `csb` the recovered CSB rate of each TRU. -/
def State.speedTick (s : State) (current : Nat) (power ambient : Int) (csb : List Nat) : State :=
  let s : State := (s.wf SP_BUS_PIN (utrunc 16 power)).spTemp ambient current
  let speed := s.rf SP_SPEED_SPEED
  let s : State := if groupModes.contains s.sp then
      let s : State := s.cellTrig 38 (bfOf ⟨speed, -2⟩) (s.pgc 4).x 0 true
      let s : State := s.cellTrig 39 (bfOfRat current 1000) (s.par 0x5010 2) 0 true
      let s : State := s.cellTrig 40 (bfOfRat power 100) (s.par 0x5010 3) 0 true
      s.cellTrig 41 s.spin.winding (s.par 0x5010 4) 0 true
    else s
  let s : State :=
    if s.sp = spACCEL then
      let s : State := s.modSpin (fun p => { p with near := if s.spinOk then p.near + 1 else 0 })
      if 100 ≤ s.spin.near then ((s.spMode spRUN).wb SP_STATUS_AT_SPEED true).exitLoad else s
    else if s.sp = spRUN ∧ !s.spinOk then s.spAccel
    else s
  let p := tabGet .reset s.plaus 4
  let iq := sext 16 (s.rf SP_CURRENT_IQ)
  let s : State := { s with plaus := tabSet s.plaus 4 { p with x1 := speed, i1 := iq, run := 1 } }
  let s : State := if p.run = 1 ∧ bfGt (s.par 0x5020 1) 0 then s.resCheck 4 0x5020 (srcId MOT 14 11) [speed, p.x1, p.i1] else s
  let s : State := s.flySpeed
  (List.range s.nAct).foldl (fun t a => match csb[a]? with | some r => t.truSpeed a r | none => t) s

def execSpeedTick (current : Nat) (power ambient : Int) (csb : List Nat) (s : State) : Res := .next (s.speedTick current power ambient csb)

/-! ### Crossings (R266, R271, R273, R279) -/

/-- Speed in 0.25 rpm from the interval of one phase's successive crossings, half an electrical period, in core cycles (R273). -/
def State.catchSpeed (s : State) (interval : Nat) : Nat :=
  (max 0 (min 65535 (openRound 279 144000000000 (interval * s.polePairs)))).toNat

/-- BEMF_CROSSING: one is enough in DETECT; CATCH measures 2 electrical periods, 12 crossings of the three phases, then takes the rotor up or brakes
it (R273). `angle` is the rotor's angle and `amplitude` the back-EMF in mV by then. -/
def State.bemf (s : State) (interval angle amplitude : Nat) : State :=
  if s.sp = spDETECT ∧ s.spin.step = 1 then (s.spMode spCATCH).modSpin (fun p => { p with step := 0, crossings := 0 })
  else if s.sp = spCATCH then
    let n := s.spin.crossings + 1
    let s : State := s.modSpin (fun p => { p with crossings := n })
    if n < 12 then s
    else
      let v := s.catchSpeed interval
      let s : State := (s.wf SP_SPEED_SPEED v).modSpin (fun p => { p with crossings := 0 })
      if 4 * s.par 0x5010 16 ≤ v then
        let w := (Config.realFn 280 [interval, s.polePairs]).toNat % 2 ^ 32
        let s : State := (s.wf SP_SPEED_ANGLE angle).modSpin (fun p => { p with omega := w, near := 0, below := 0, above := 0, allBelow := true, allAbove := true })
        (s.spGo spACCEL 0 (bfOfRat amplitude 1000)).spPlan (s.par 0x5010 1)
      else s.spZvBrake 1
  else s

def execBemfCrossing (interval : Nat) (angle : BitVec 16) (amplitude : Nat) (s : State) : Res := .next (s.bemf interval angle.toNat amplitude)

/-- CROSSING_TIMEOUT: standstill (R273 step 4, R279 step 3). -/
def execCrossingTimeout (s : State) : Res :=
  let z : State := s.wf SP_SPEED_SPEED 0
  if s.sp = spCATCH then .next (z.spDetect.modSpin (fun p => { p with step := 3 }))
  else if s.sp = spZV then .next (if s.spin.zvThen = 1 then z.spDetect else (z.spMode spSTOPPED).modSpin (fun p => { p with step := 0 }))
  else .next s

end Sys2Proof.Machine
end

