-- ==== Sys2Proof/Machine/Servo.lean ====
section
/-! DEFINITION. Servo.lean: actuators, seeking and track following (10_actuators_servo.md), and the wedges that position and phase trim read
(03_clock_surface.md R70 to R80). Positions are in 1/4,096 track, displacements and anchors in 1/8,192. -/

namespace Sys2Proof.Machine
open Sys2Proof

/-! ### Quantities (R244 to R248) -/

def vcCell (a : Nat) : Nat := 32 + a

/-- Servo parameter of R261. -/
def State.svp (s : State) (k : Nat) : Nat := s.par 0x4010 k

/-- Heads mapped on an actuator with their channels. -/
def State.mappedHeads (s : State) (a : Nat) : List (Nat × Nat) :=
  (chansOf a).filterMap (fun n => if s.slotHead n = 0xF then none else some (s.slotHead n, n))

/-- RO(h, g) in 1/4,096 track, none where it is unknown (R247): as learned since the load, or as saved. -/
def State.roOf (s : State) (a h g : Nat) : Option Int :=
  match tabFind (s.hd (headIx a h)).ro g with
  | some v => some v
  | none => let v := s.ent (0x4200 + headIx a h) (g + 1)
            if v = 0x80000000 then none else some (sext 32 v)

/-- Writer-to-reader offset in 0.5 nm of a head for a zone (R50 record 0x0004). -/
def State.writerOfs (s : State) (a h z : Nat) : Int :=
  let role := match a with | 0 => 0 | 1 => 1 | 2 => 7 | _ => 8
  recInt ((recOf (s.idr role).recs 0x0004).getD []) (2 * (40 * h + z))

/-- J(h) (R248) in 1/4,096 track; the rounding to that unit is open (log 9). -/
def State.jog (s : State) (a h z : Nat) (write : Bool) : Int :=
  if write then openRound 247 (s.writerOfs a h z * 50 * 4096) (s.svp 1) else dyUnits 247 (bfVal (s.svp 3)) 12

/-- REACH of the head on channel n (R246): a displacement in 1/8,192 track lies within it. -/
def State.inReach (s : State) (n : Nat) (d : Int) : Bool :=
  let v := dyAbs ⟨d, -13⟩
  dyLe v (bfVal (s.svp 2)) && dyLe v (bfVal (s.gain n 2 7)) && dyLe v (dyNeg (bfVal (s.gain n 2 6)))

/-- A head's last output u(h) in 1/4,096 track. -/
def State.headU (s : State) (n : Nat) : Int := dyUnits 248 (bfVal (s.lc n).uLast) 12

/-- A bound of R261 in tracks holds for a position error in 1/4,096 track. -/
def within (e : Int) (lim : Nat) : Bool := dyLe (dyAbs ⟨e, -12⟩) (bfVal lim)

/-! ### Planning a seek (R250) -/

/-- o(h) of a head (R250): none where RO is unknown, which takes d(h) = 0 (R247). -/
def State.seekO (s : State) (a h z : Nat) (write : Bool) : Option Int := (s.roOf a h (groupOf z)).map (fun r => r - s.jog a h z write)

/-- Sum of the largest and smallest o of a set, the mid of R250 in 1/8,192 track. -/
def midSum (l : List Int) : Int :=
  match l with
  | [] => 0
  | x :: r => r.foldl max x + r.foldl min x

/-- The heads a seek admits, in ascending order (R250): head, channel, o. -/
def State.seekSet (s : State) (a z mask writes : Nat) : List (Nat × Nat × Option Int) :=
  (List.range 11).foldl (fun (acc : List (Nat × Nat × Option Int)) h =>
    if !bitOf mask h then acc
    else match s.headChan a h with
      | none => acc
      | some n =>
        match s.seekO a h z (bitOf writes h) with
        | none => acc ++ [(h, n, none)]
        | some o =>
          let l := acc ++ [(h, n, some o)]
          let m := midSum (l.filterMap (fun x => x.2.2))
          if l.all (fun x => match x.2.2 with | some v => s.inReach x.2.1 (m - 2 * v) | none => true) then l else acc) []

/-! ### Running a seek (R251) -/

/-- Heads that lie in the seek's list. -/
def Seek.disp (k : Seek) (h : Nat) : Option Int := (k.heads.find? (fun x => x.1 == h)).map Prod.snd

/-- The channels load the zone's B and sets when a seek starts (R68, R116, R166, R199); a calibration pauses, or ends with ZONE_CHANGE (R132). -/
def State.seekZone (s : State) (a z : Nat) : State :=
  (s.mappedHeads a).foldl (fun t x =>
    let n := x.2
    let g0 := match (t.ch n).sets with | some p => p.2 | none => groupOf z
    let t : State := if t.rf CAL_STATUS_STATE n = 1 then
        (if g0 = groupOf z then t.modCh n (fun c => { c with calPaused := true }) else t.calEnd n 0x03) else t
    let t : State := if t.rf SYN_NDIVk_ZONE a (chSlot n) = z ∧ t.rf SYN_NDIVk_BITS a (chSlot n) = t.zn z 4 then t else t.retune n z
    t.loadSets n x.1 (groupOf z)) s

/-- R250, R251 step 1. -/
def State.seekBegin (s : State) (a cyl mask writes : Nat) (again : Bool) : State :=
  let z := (s.zoneOf cyl).getD 39
  let set := s.seekSet a z mask writes
  let m := midSum (set.filterMap (fun x => x.2.2))
  let heads := set.map (fun x => (x.1, match x.2.2 with | some o => m - 2 * o | none => 0))
  let out := (List.range 11).filter (fun h => bitOf mask h && !heads.any (fun x => x.1 == h))
  let anchor : Int := (cyl : Int) * 8192 - m
  let s : State := (s.softOff (set.map (fun x => x.2.1))).setAct a acSEEK
  let s : State := (s.wf VC_HEADS_READ_RDY 0 a).wf VC_HEADS_WRITE_RDY 0 a
  let s : State := s.wf VC_ANCHOR_X (utrunc 32 (anchor / 2)) a
  let wr := (List.range 11).filter (fun h => bitOf writes h)
  let sk : Seek := { cyl := cyl, heads := heads, writes := wr, anchor := anchor, step := 1, good := 0, repeated := again }
  let s : State := s.modSv a (fun v => { v with refused := out, seek := some sk })
  let s : State := heads.foldl (fun t x => (t.wbit MA_STATUS_ACTIVE x.1 true a).modHd (headIx a x.1)
    (fun y => { y with disp := x.2, writing := bitOf writes x.1, readRun := 0, writeRun := 0, badRun := 0 })) s
  let s : State := if out = [] then s else s.emit (.note "heads left out" a (out.foldl (fun v h => v + 2 ^ h) 0))
  s.seekZone a z

/-- SEEK_REQUEST (R250, R253): taken by an actuator that settles or follows; a seek in its profile takes it as the queued one, and so does an
actuator that loads; any other state refuses it. -/
def State.seekReq (s : State) (a cyl mask writes : Nat) : State :=
  let st := s.act a
  let queue : State := s.modSv a (fun v => { v with queued := some (cyl, (List.range 11).filter (bitOf mask), (List.range 11).filter (bitOf writes)) })
  if !s.hasAct a then s
  else if st = acSEEK ∨ st = acLOADING then queue
  else if st = acSETTLE ∨ st = acFOLLOW then s.seekBegin a cyl mask writes false
  else s.emit (.note "seek refused" a cyl)

def execSeekRequest (a : Act) (cyl : BitVec 20) (mask writes : BitVec 11) (s : State) : Res :=
  .next (s.seekReq a.val cyl.toNat mask.toNat writes.toNat)

/-- VC_TARGET_WRITE (R262): a seek of all mapped heads for read in Test mode. -/
def State.vcTarget (s : State) (a cyl : Nat) : State :=
  let s : State := s.wf VC_TARGET_CYL cyl a
  if s.mode = modeTest then s.seekReq a cyl ((s.mappedHeads a).foldl (fun v x => setBit v x.1 true) 0) 0 else s

def execVcTargetWrite (a : Act) (cyl : BitVec 20) (s : State) : Res := .next (s.vcTarget a.val cyl.toNat)

def maskOf (l : List Nat) : Nat := l.foldl (fun v h => setBit v h true) 0

/-- R251 step 3: the VCM and the heads' cells pass to GS1 by transfer. -/
def State.settleEnter (s : State) (a : Nat) : State :=
  match (s.sv a).seek with
  | none => s
  | some k =>
    let s : State := ((s.modSv a (fun v => { v with seek := some { k with step := 3, good := 0 } })).setAct a acSETTLE).gainReq (vcCell a) 1
    let s : State := s.wf VC_STATUS_GSEL 1 a
    let s : State := k.heads.foldl (fun t x => match t.headChan a x.1 with | some n => t.gainReq n 1 | none => t) s
    (chansOf a).foldl (fun t n => if (t.ch n).calPaused then t.modCh n (fun c => { c with calPaused := false }) else t) s

/-- A queued request starts once the running profile has ended (R230, R253). -/
def State.seekNext (s : State) (a : Nat) : State :=
  match (s.sv a).queued with
  | some (c, m, w) => (s.modSv a (fun v => { v with queued := none })).seekBegin a c (maskOf m) (maskOf w) false
  | none => s.settleEnter a

/-- R251 step 2: with the gates closed the profile is planned, or the seek settles at once below one track. -/
def State.seekGo (s : State) (a : Nat) (k : Seek) : State :=
  let y := (s.sv a).y1
  let s : State := k.heads.foldl (fun t x => match t.headChan a x.1 with | some n => t.gainReq n 0 | none => t) s
  if (k.anchor - 2 * y).natAbs < 8192 then s.settleEnter a
  else
    let s : State := s.modPg a (fun p => { p with pos := 2 * y, x := bfOf ⟨2 * y, -13⟩, v := 0, a := 0, plan := none, queued := none, stop := false })
    (((s.pgBegin a k.anchor).modSv a (fun v => { v with seek := some { k with step := 2 } })).gainReq (vcCell a) 0).wf VC_STATUS_GSEL 0 a

/-- SETTLE_TIMEOUT (R251 step 7, R260). -/
def State.settleTimeout (s : State) (a : Nat) : State :=
  match (s.sv a).seek with
  | none => s
  | some k =>
    if s.act a ≠ acSEEK ∧ s.act a ≠ acSETTLE then s
    else if k.repeated then (s.startPark a).report (srcId MOT (5 + a) 7) a
    else
      let s : State := (s.cnt VC_STATUS_SEEK_FAIL a).report (srcId MOT (5 + a) 34) a
      s.seekBegin a k.cyl (maskOf (k.heads.map Prod.fst)) (maskOf k.writes) true

def execSettleTimeout (a : Act) (s : State) : Res := .next (s.settleTimeout a.val)

/-- HEAD_JOG (R252): within REACH of the anchor only the head's cell acts; else a seek to a new anchor. Heads no slot maps any more leave
milliactuator control. -/
def State.headJog (s : State) (a h : Nat) (write : Bool) : State :=
  match s.headChan a h, (s.sv a).seek with
  | some n, some k =>
    if s.act a ≠ acFOLLOW then s
    else
      let z := (s.zoneOf k.cyl).getD 39
      let s : State := (List.range 11).foldl (fun t j => if (t.headChan a j).isSome then t else t.wbit MA_STATUS_ACTIVE j false a) s
      let others := k.heads.filter (fun x => x.1 != h && (s.headChan a x.1).isSome)
      let ws := (k.writes.filter (fun j => j != h)) ++ (if write then [h] else [])
      let d := match s.seekO a h z write with | some o => (k.cyl : Int) * 8192 - k.anchor - 2 * o | none => 0
      if s.inReach n d then
        let s : State := ((s.inhibit inhOFFTRACK true n).wbit VC_HEADS_READ_RDY h false a).wbit VC_HEADS_WRITE_RDY h false a
        let s : State := s.modSv a (fun v => { v with seek := some { k with heads := others ++ [(h, d)], writes := ws } })
        let s : State := (s.wbit MA_STATUS_ACTIVE h true a).modHd (headIx a h)
          (fun y => { y with disp := d, writing := write, readRun := 0, writeRun := 0, badRun := 0 })
        s.gainReq n 0
      else s.seekBegin a k.cyl (maskOf (h :: others.map Prod.fst)) (maskOf ws) false
  | _, _ => s

def execHeadJog (a : Act) (head : Fin 11) (write : Bool) (s : State) : Res := .next (s.headJog a.val head.val write)

/-! ### Park and retract (R258 to R260) -/

/-- An actuator that has no head ready has its fields ended: both gates of its channels are closed. -/
def State.gatesShut (s : State) (a : Nat) : Bool := (chansOf a).all (fun n => !s.gateOpen n)

/-- Milliactuator cells disabled with drive 0 (R258 step 1). -/
def State.maOff (s : State) (a : Nat) : State :=
  let s : State := (chansOf a).foldl (fun t n => t.modLc n (fun c => { c with live := false, ready := none, pend := none, greq := none })) s
  (s.wf MA_STATUS_ACTIVE 0 a).maDrive a ((s.mappedHeads a).map (fun x => (chSlot x.2, 0)))

/-- Step 1 of R258 once the gates are closed: heaters 0 and slots OFF. -/
def State.parkStart (s : State) (a : Nat) : State :=
  let s : State := s.maOff a
  let s : State := (List.range 11).foldl (fun t h => (t.heater a h 0 0).heater a h 1 0) s
  let s : State := (List.range 8).foldl (fun t k => t.slotMode a k 0) s
  s.modSv a (fun v => { v with parkStep := 1 })

/-- The slots are OFF; a link that is not UP leaves the PA12 in LINK_RESET (R44). -/
def State.slotsOff (s : State) (a : Nat) : Bool := !s.plUp a || (chansOf a).all (fun n => tabGet 0 s.pa.mode n == 0)

/-- Step 3 of R258: onto the ramp. -/
def State.parkRamp (s : State) (a : Nat) : State :=
  let s : State := (s.modTr a (fun t => { t with flying := false })).truOff a
  ((s.modSv a (fun v => { v with parkStep := 3 })).gainReq (vcCell a) 3).wf VC_STATUS_GSEL 3 a

/-- Step 2 of R258: the profile to anchor 0; a half-stack that does not fly is on the ramp already. -/
def State.parkSeek (s : State) (a : Nat) : State :=
  if !(s.tr a).flying then s.parkRamp a
  else
    let y := (s.sv a).y1
    let s : State := s.modPg a (fun p => { p with pos := 2 * y, x := bfOf ⟨2 * y, -13⟩, v := 0, a := 0, plan := none, queued := none, stop := false })
    let s : State := (((s.pgBegin a 0).modSv a (fun v => { v with parkStep := 2 })).gainReq (vcCell a) 0).wf VC_STATUS_GSEL 0 a
    if (s.pgc a).plan.isNone then s.parkRamp a else s

/-- What a park does next at a VCM period (R258). -/
def State.parkStep_ (s : State) (a : Nat) : State :=
  match (s.sv a).parkStep with
  | 0 => if s.gatesShut a then s.parkStart a else s
  | 1 => if s.slotsOff a then s.parkSeek a else s
  | _ => s

/-- Saves the trims and RO of a half-stack (R83, R247). -/
def State.saveServo (s : State) (a : Nat) : State :=
  (List.range 11).foldl (fun t h =>
    let i := headIx a h
    ((t.hd i).ro.foldl (fun u p => u.odKeep (0x4200 + i) (p.1 + 1) (.num (utrunc 32 p.2))) t).modHd i (fun x => { x with ro := [] })) (s.saveTrims a)

/-- The actuator comes to rest on the latch: UNLOADED, or RETIRED where a fault asked for it; a first failed load is retried (R257, R258, R259). -/
def State.actRest (s : State) (a : Nat) : State :=
  let s : State := if (s.tr a).flying then (s.modTr a (fun t => { t with flying := false })).truOff a else s
  let s : State := (s.saveServo a).setAct a (if (s.sv a).retireAt then acRETIRED else acUNLOADED)
  let s : State := s.modSv a (fun v => { v with parkStep := 0, retract := 0, loadStep := 0, seek := none })
  s.spProceed

/-- PARK_LATCHED (R258 step 4, R257). -/
def State.parkLatched (s : State) (a : Nat) : State :=
  if s.act a = acUNLOADING ∧ (s.sv a).parkStep = 3 then
    let s : State := s.actRest a
    if (s.sv a).loadTries = 1 ∧ s.act a = acUNLOADED then s.startLoad a else s
  else s

def execParkLatched (a : Act) (s : State) : Res := .next (s.parkLatched a.val)

/-- PARK_LIMIT_EXPIRY (R258 step 5). -/
def execParkLimitExpiry (a : Act) (s : State) : Res :=
  .next (if s.act a.val = acUNLOADING then (s.startRetract a.val).report (srcId MOT (5 + a.val) 34) a.val else s)

/-- VC_UNLOAD and VC_RETRACT (R258, R259). -/
def execVcUnload (a : Act) (s : State) : Res := .next (s.startPark a.val)
def execVcRetract (a : Act) (s : State) : Res := .next (s.startRetract a.val)

/-- RET_T1_EXPIRY (R259 step 3): the latch pulse. -/
def execRetT1Expiry (a : Act) (s : State) : Res :=
  .next (if s.act a.val = acRETRACT ∧ (s.sv a.val).retract = 1 then s.modSv a.val (fun v => { v with retract := 2 }) else s)

/-- RET_T2_EXPIRY (R259 step 4, R260): an end at or above 1 % of RAMP_VEL retires the actuator, a C3. -/
def State.retractEnd (s : State) (a : Nat) (fast : Bool) : State :=
  if s.act a = acRETRACT ∧ (s.sv a).retract = 2 then
    let s : State := if fast then s.modSv a (fun v => { v with fast := true, retireAt := true }) else s
    let s : State := (chansOf a).foldl (fun t n => t.modLc n (fun c => { c with live := false, ready := none, pend := none, greq := none })) s
    let s : State := (s.wf MA_STATUS_ACTIVE 0 a).actRest a
    if fast then s.report (srcId MOT (5 + a) 9) a else s
  else s

def execRetT2Expiry (a : Act) (fast : Bool) (s : State) : Res := .next (s.retractEnd a.val fast)

/-- A fault that retracts and retires (R260). -/
def State.retractRetire (s : State) (a num : Nat) : State :=
  ((s.startRetract a).modSv a (fun v => { v with retireAt := true })).report (srcId MOT (5 + a) num) a

/-- COIL_CURRENT_FAULT (R260). -/
def execCoilCurrentFault (a : Act) (s : State) : Res := .next (if s.actLoaded a.val then s.retractRetire a.val 8 else s)

/-! ### Load (R257) -/

/-- VC_LOAD. -/
def State.vcLoad (s : State) (a : Nat) : State := (s.modSv a (fun v => { v with loadTries := 0 })).startLoad a
def execVcLoad (a : Act) (s : State) : Res := .next (s.vcLoad a.val)

/-- LOAD_STEP_DONE: the condition of the next step is met. A load that completes seeks to the first requested cylinder, or follows where it
stands until one is requested. -/
def State.loadNext (s : State) (a : Nat) : State :=
  if s.act a ≠ acLOADING then s
  else match (s.sv a).loadStep with
    | 2 =>
      let s : State := ((s.modSv a (fun v => { v with loadStep := 3 })).gainReq (vcCell a) 2).wf VC_STATUS_GSEL 2 a
      let s : State := (List.range 11).foldl (fun t h =>
        let r := t.flyRec a h
        t.heater a h 0 (heaterCode r.1 r.2.1 r.2.2.1)) s
      (s.mappedHeads a).foldl (fun t x => t.slotMode a (chSlot x.2) 1) s
    | 3 =>
      if s.truSt a ≠ truLOCKED then s
      else
        let y : Int := (s.tr a).sample % 2 ^ 34
        let s : State := ((s.modSv a (fun v => { v with loadStep := 0, loadTries := 0, y1 := y, y2 := y })).setAct a acFOLLOW).lifeCount 2
        let s : State := s.wf VC_ANCHOR_X (utrunc 32 y) a
        (match (s.sv a).queued with
          | some (c, m, w) => (s.modSv a (fun v => { v with queued := none })).seekBegin a c (maskOf m) (maskOf w) false
          | none => s)
    | _ =>
      let s : State := (s.modSv a (fun v => { v with loadStep := 2 })).loadTrims a
      s.modTr a (fun t => { t with flying := true, retired := false, failed := false })

def execLoadStepDone (a : Act) (s : State) : Res := .next (s.loadNext a.val)

/-- LOAD_STEP_TIMEOUT (R257, R260): step 2 or 3 fails; one retry, then a C2 and retirement. -/
def State.loadFail (s : State) (a : Nat) : State :=
  if s.act a ≠ acLOADING ∨ 3 ≤ (s.sv a).loadStep then s
  else
    let first := decide ((s.sv a).loadTries = 0)
    let s : State := ((s.modTr a (fun t => { t with flying := false })).truOff a).lifeCount 3
    let s : State := ((s.modSv a (fun v => { v with loadStep := 0, loadTries := v.loadTries + 1, parkStep := 3, retireAt := v.retireAt || !first })).setAct a acUNLOADING)
    let s : State := (s.gainReq (vcCell a) 3).wf VC_STATUS_GSEL 3 a
    if first then s else s.report (srcId MOT (5 + a) 32) a

def execLoadStepTimeout (a : Act) (s : State) : Res := .next (s.loadFail a.val)

/-! ### Clock-surface samples (R245, R248, R251) -/

/-- The sample of the frame (R75, R245): what a LOCKED TRU sent, else the next frame number with VALID = 0. -/
def State.nextSample (s : State) (a : Nat) : State :=
  if s.truSt a = truLOCKED then s
  else s.modTr a (fun t => { t with sample := posRecord (t.sample % 2 ^ 34) ((t.sample / 2 ^ 34 % 1024 + 1) % 768) 0 false })

def sampleValid (v : Nat) : Bool := bitOf v 48
def sampleFrame (v : Nat) : Nat := v / 2 ^ 34 % 1024
def samplePos (v : Nat) : Int := (v % 2 ^ 34 : Nat)

/-- Back-EMF velocity in tracks/s (R257's formula): duty in 1/65,536, current in mA, V_BUS in mV, R_C in mΩ, as BF24. -/
def State.coilVel (s : State) (a duty : Nat) (i : Int) : Nat :=
  let r : Int := recNat ((recOf (s.idr (if a < 2 then 6 else 11)).recs 0x0007).getD []) 0 2
  let mv : Int := (2 * (duty : Int) - 65536) * s.rf SP_BUS_VBUS * 1000 - r * i * 65536
  let kb := bfVal (s.svp 13)
  -- mv / (65,536 * 10^6) volts, divided by K_B
  if kb.m ≤ 0 then (Config.realFn 257 [mv]).toNat % 2 ^ 32
  else if 0 ≤ kb.e then bfOfRat mv (65536000000 * kb.m.toNat * 2 ^ kb.e.toNat) else bfOfRat (mv * 2 ^ (-kb.e).toNat) (65536000000 * kb.m.toNat)

/-- The position estimate of R248: rule, position in 1/4,096 track. -/
def State.estimate (s : State) (a : Nat) : Nat × Int :=
  let v := s.sv a
  let smp := (s.tr a).sample
  if sampleValid smp then (1, samplePos smp)
  else if sampleFrame smp % 2 = 0 ∧ v.contrib ≠ [] then (2, openRound 249 (v.contrib.foldl (· + ·) 0) v.contrib.length)
  else (3, 2 * v.y1 - v.y2)

/-- A wedge period begins on an even frame: DN_CRC events are counted afresh (R39), and a quiet time runs down (R260). -/
def State.wedgePeriod (s : State) (a : Nat) : State :=
  (s.modPl a (fun p => { p with wedgeDn := 0 })).modSv a (fun v => { v with quiet := v.quiet - 1 })

/-- R251 step 4 on a sample that settles. -/
def State.settleCheck (s : State) (a : Nat) (valid : Bool) (y : Int) : State :=
  match (s.sv a).seek with
  | some k =>
    if s.act a ≠ acSETTLE then s
    else
      let ok := valid && dyLe (dyAbs ⟨2 * y - k.anchor, -13⟩) (bfVal (s.svp 7))
      let n := if ok then k.good + 1 else 0
      if s.svp 8 ≤ n then
        (((s.modSv a (fun v => { v with seek := some { k with step := 4, good := n } })).setAct a acFOLLOW).gainReq (vcCell a) 2).wf VC_STATUS_GSEL 2 a
      else s.modSv a (fun v => { v with seek := some { k with good := n } })
  | none => s

/-- Reference of the VCM cell (R244, R257, R258): BF24 in tracks, or in tracks/s on the ramp. -/
def State.vcmRef (s : State) (a : Nat) (y : Int) : Nat :=
  let st := s.act a
  let v := s.sv a
  let ramp := s.svp 12
  if st = acLOADING then (if v.loadStep = 2 then 0 else if v.loadStep = 3 then bfOf ⟨y, -12⟩ else ramp)
  else if st = acUNLOADING ∧ v.parkStep = 3 then bfOf (dyNeg (bfVal ramp))
  else if st = acUNLOADING ∧ v.parkStep = 2 then (s.pgc a).x
  else match v.seek with
    | some k => if k.step = 1 then (s.lc (vcCell a)).ref else if k.step = 2 then (s.pgc a).x else bfOf ⟨k.anchor, -13⟩
    | none => (s.lc (vcCell a)).ref

/-- The VCM cell is under back-EMF control (R257, R258). -/
def State.onRamp (s : State) (a : Nat) : Bool :=
  (s.act a == acLOADING && decide ((s.sv a).loadStep ≤ 2)) || (s.act a == acUNLOADING && (s.sv a).parkStep == 3)

/-- VCM_SAMPLE: one frame period of the VCM block (R245, R248, R251, R258). A retract that PFAIL left to the end of a field starts here (R283). -/
def State.vcmSample (s : State) (a duty : Nat) (i : Int) : State :=
  let s : State := (s.wf VC_CURRENT_I_MEAS (utrunc 16 (max (-32768) (min 32767 i))) a).nextSample a
  let s : State := if sampleFrame (s.tr a).sample % 2 = 0 then s.wedgePeriod a else s
  let s : State := if s.rbit WR_STATUS_INHIBIT inhPFAIL (8 * a) && !s.fieldWriting a then s.startRetract a else s
  if !s.actLoaded a || s.act a == acRETRACT then s.modSv a (fun v => { v with contrib := [] })
  else if s.onRamp a then
    let s : State := s.modSv a (fun v => { v with contrib := [] })
    let r := s.vcmRef a 0
    let c := vcCell a
    let s : State := if (s.lc c).gset = 3 ∨ (s.lc c).greq = some 3 then s else s.gainReq c 3
    let s : State := s.wf VC_STATUS_GSEL 3 a
    (s.modLc c (fun x => { x with ref := r })).cellTrig c (s.coilVel a duty i) r 0 true
  else
    let e := s.estimate a
    let valid := decide (e.1 ≠ 3)
    let run := if e.1 = 3 then min 15 (s.rf VC_STATUS_PRED_RUN a + 1) else 0
    let s : State := (s.wf VC_STATUS_PRED_RUN run a).modSv a (fun v => { v with y2 := v.y1, y1 := e.2, contrib := [] })
    if run = 8 then s.retractRetire a 6
    else
      let s : State := s.settleCheck a (decide (e.1 = 1)) e.2
      let s : State := if s.act a = acUNLOADING then s.parkStep_ a else s
      let s : State := match (s.sv a).seek with
        | some k => if s.act a = acSEEK ∧ k.step = 1 ∧ s.gatesShut a then s.seekGo a k else s
        | none => s
      let r := s.vcmRef a e.2
      let c := vcCell a
      let s : State := s.modLc c (fun x => { x with ref := r })
      s.cellTrig c (bfOf ⟨e.2, -12⟩) r (s.ffOf c) valid

def execVcmSample (a : Act) (duty : Nat) (current : Int) (s : State) : Res := .next (s.vcmSample a.val duty current)

/-- PG_PERIOD (R229, R251 step 3, R258 step 3): the profile's end passes a seek to settling, or to the queued request, and a park to the ramp. -/
def State.pgPeriod_ (s : State) (c : Nat) : State :=
  let s : State := s.pgStep c
  if c < 4 ∧ (s.pgc c).plan.isNone then
    match (s.sv c).seek with
    | some k => if s.act c = acSEEK ∧ k.step = 2 then s.seekNext c else s
    | none => if s.act c = acUNLOADING ∧ (s.sv c).parkStep = 2 then s.parkRamp c else s
  else s

def execPgPeriod (c : Fin 5) (s : State) : Res := .next (s.pgPeriod_ c.val)

/-! ### Wedges (R70, R77, R80, R247, R249, R251, R254) -/

/-- Wedge number of a valid ID (R93). -/
def wedgeNumber (w : Wedge) : Option Nat :=
  match w.id with
  | some v => if crc5 (v.toNat % 512) = v.toNat / 512 ∧ v.toNat % 512 < 384 then some (v.toNat % 512) else none
  | none => none

/-- The low 11 bits of a cylinder with low Gray bits g and bit 10 given (R92). -/
def grayLow (g : Nat) (top : Bool) : Nat :=
  (List.range 10).foldl (fun v i => let b := 9 - i; setBit v b (bitOf v (b + 1) != bitOf g b)) (if top then 1024 else 0)

/-- The cylinder nearest a predicted position (1/4,096 track) whose low Gray bits match (R249). -/
def nearCyl (pred : Int) (g : Nat) : Int :=
  let base := pred / 4096 / 2048
  let c : List Int := [base - 1, base, base + 1].flatMap (fun b => [b * 2048 + grayLow g false, b * 2048 + grayLow g true])
  let ok := c.filter (fun x => decide (0 ≤ x))
  ok.foldl (fun (b : Int) x => if (x * 4096 - pred).natAbs < (b * 4096 - pred).natAbs then x else b) (ok.headD 0)

/-- PES of a wedge (R249). -/
def wedgePes (n q : Int) : Int := max (-2048) (min 2047 (nearRound 250 (2048 * n) (n.natAbs + q.natAbs)))

/-- The wedge position, none for an invalid sample (R249). An ambiguous bit follows R74. -/
def wedgePos (w : Wedge) (pred : Int) : Option Int :=
  if (wedgeNumber w).isNone || !(decide (0 < w.q) && decide (w.amp ≤ 2 * (w.n.natAbs + w.q.natAbs))) then none
  else
    let pes := wedgePes w.n w.q
    (grayResolve w.gray.toNat (w.bad.map Fin.val) pes (fun g => (nearCyl pred g).toNat)).map (fun c => (c : Int) * 4096 + pes)

/-- R80: in HOLDOVER and until lock returns, a wedge not found in the widened window three times takes the head out of milliactuator control; when
that is so of every active head the actuator parks. A wedge found re-anchors the channel's bit count (R77 step 3). -/
def State.holdoverWedge (s : State) (a h n : Nat) (w : Wedge) : State :=
  let i := headIx a h
  match w.sync with
  | some _ =>
    let s : State := s.modHd i (fun x => { x with lostW := 0 })
    (match wedgeNumber w with
      | some k => s.seqEvent n evWEDGE (some ((2 * k * s.slotB n + 176) % (768 * max (s.slotB n) 1)))
      | none => s.seqEvent n evWEDGE none)
  | none =>
    let s : State := s.modHd i (fun x => { x with lostW := x.lostW + 1 })
    if (s.hd i).lostW = 3 then
      let s : State := s.wbit MA_STATUS_ACTIVE h false a
      if s.rf MA_STATUS_ACTIVE a = 0 then (s.startPark a).report (srcId MOT (5 + a) 1) a else s
    else s

/-- An invalid wedge sample of a head under control (R249, R254, R260). -/
def State.wedgeBad (s : State) (a h n : Nat) : State :=
  let i := headIx a h
  let s : State := s.modHd i (fun x => { x with badRun := x.badRun + 1, readRun := 0, writeRun := 0 })
  let k := (s.hd i).badRun
  let s : State := if k = 2 ∧ s.act a = acFOLLOW then s.offTrack n else s
  if k = 16 ∧ s.act a = acFOLLOW then
    let s : State := ((s.wbit MA_STATUS_ACTIVE h false a).modHd i (fun x => { x with retired := true })).maDrive a [(chSlot n, 0)]
    s.report (srcId MOT (5 + a) 0) h
  else s

/-- RO is learned (R247): from the first settle where it is unknown, then filtered in FOLLOW. An offset beyond 511 tracks retires the head. -/
def State.roLearn (s : State) (a h n g : Nat) (pos : Int) : State :=
  let smp := (s.tr a).sample
  if !sampleValid smp then s
  else
    let m := pos - samplePos smp - s.headU n
    let i := headIx a h
    match s.roOf a h g with
    | none =>
      if 511 * 4096 < m.natAbs then (s.modHd i (fun x => { x with retired := true })).report (srcId MOT (5 + a) 33) h
      else s.modHd i (fun x => { x with ro := tabSet x.ro g m })
    | some r => if s.act a = acFOLLOW then s.modHd i (fun x => { x with ro := tabSet x.ro g (r + (m - r) / 2 ^ s.svp 10) }) else s

/-- A valid wedge sample of a settling or following head (R248 rule 2, R251 steps 5 and 6, R254). -/
def State.wedgeGood (s : State) (a h n : Nat) (k : Seek) (pos : Int) : State :=
  let i := headIx a h
  let z := (s.zoneOf k.cyl).getD 39
  let follow := decide (s.act a = acFOLLOW)
  let e := s.jog a h z (s.hd i).writing - (pos - (k.cyl : Int) * 4096)
  let s : State := s.roLearn a h n (groupOf z) pos
  let s : State := match follow, s.roOf a h (groupOf z) with
    | true, some r => s.modSv a (fun v => { v with contrib := v.contrib ++ [pos - r - s.headU n] })
    | _, _ => s
  let rr := if within e (s.svp 4) then (s.hd i).readRun + 1 else 0
  let wr := if follow && within e (s.svp 5) then (s.hd i).writeRun + 1 else 0
  let s : State := s.modHd i (fun x => { x with wedge := pos, badRun := 0, readRun := rr, writeRun := wr })
  let s : State := if 2 ≤ (s.hd i).readRun then s.wbit VC_HEADS_READ_RDY h true a else s
  if follow && !within e (s.svp 6) then s.offTrack n
  else if 2 ≤ (s.hd i).writeRun ∧ !(s.hd i).satur ∧ (s.sv a).quiet = 0 ∧ !s.shockHeld ∧ !s.rbit VC_HEADS_WRITE_RDY h a then
    let s : State := (s.inhibit inhOFFTRACK false n).wbit VC_HEADS_WRITE_RDY h true a
    s.gainReq n 2
  else s

/-- The milliactuator cell of the head's slot is triggered (R218, R244): the planned displacement in seek mode, position against jog after it. A jog
passes to GS1 once its evaluation in GS0 has begun (R252). -/
def State.maTrig (s : State) (a h n : Nat) (k : Seek) (pos : Option Int) : State :=
  let c := s.lc n
  let seekMode := decide (k.step ≤ 2) || c.greq == some 0
  if seekMode then
    let r := bfOf ⟨(s.hd (headIx a h)).disp, -13⟩
    (s.modLc n (fun x => { x with ref := r })).cellTrig n 0 r 0 true
  else
    let s : State := if c.gset = 0 ∧ c.greq = none then s.gainReq n 1 else s
    let z := (s.zoneOf k.cyl).getD 39
    let r := bfOf ⟨s.jog a h z (s.hd (headIx a h)).writing, -12⟩
    let s : State := s.modLc n (fun x => { x with ref := r })
    match pos with
    | some p => s.cellTrig n (bfOf ⟨p - (k.cyl : Int) * 4096, -12⟩) r 0 true
    | none => s.cellTrig n (s.lastY n) r 0 false

/-- WEDGE_READ: a wedge read by the head mapped to channel n with its slot in READ or WRITE_ARM. -/
def State.wedgeRead (s : State) (n : Nat) (w : Wedge) : State :=
  let a := chAct n
  let h := s.slotHead n
  let m := tabGet 0 s.pa.mode n
  if h = 0xF ∨ (m ≠ 1 ∧ m ≠ 2) ∨ !s.actLoaded a then s
  else
    let s : State := match s.truSt a with
      | 4 => (match w.sync, wedgeNumber w with
        | some e, some k => s.trimWedge a h n (2 * k) e
        | _, _ => s)
      | _ => if (s.tr a).widened then s.holdoverWedge a h n w else s
    match (s.sv a).seek with
    | none => s
    | some k =>
      if !s.rbit MA_STATUS_ACTIVE h a ∨ !(s.act a = acSEEK ∨ s.act a = acSETTLE ∨ s.act a = acFOLLOW) then s
      else
        let z := (s.zoneOf k.cyl).getD 39
        let pred := (s.sv a).y1 + (s.roOf a h (groupOf z)).getD 0 + s.headU n
        let pos := wedgePos w pred
        let s : State := if k.step ≤ 2 then s else match pos with
          | some p => s.wedgeGood a h n k p
          | none => s.wedgeBad a h n
        if s.rbit MA_STATUS_ACTIVE h a then s.maTrig a h n k pos else s

def execWedgeRead (n : Chan) (w : Wedge) (s : State) : Res := .next (s.wedgeRead n.val w)

/-- MA_OVERCURRENT (R40, R254, R260). -/
def execMaOvercurrent (a : Act) (head : Fin 11) (s : State) : Res :=
  let s : State := s.wbit MA_STATUS_OVERCUR head.val true a.val
  let s : State := match s.headChan a.val head.val with
    | some n => if s.act a.val = acFOLLOW then s.offTrack n else s
    | none => s
  .next (s.report (srcId MED (plBlock a.val) 39) head.val)

/-! ### Shock (R255, R256) -/

/-- SHOCK_QUALIFY (R255). -/
def State.shockOn (s : State) (axis : Nat) : State :=
  let s : State := { s with shockHeld := true }
  let s : State := ((s.wbit SK_STATUS_ACTIVE axis true).cnt SK_STATUS_COUNT).inhibitAll inhSHOCK true
  let s : State := s.allChans.foldl (fun t n => t.sqEvent n evSHOCK) s
  let s : State := s.allChans.foldl (fun t n => if t.act (chAct n) = acFOLLOW then t.offTrack n else t) s
  s.report (srcId MOT 13 0) axis

def execShockQualify (axis : Fin 3) (s : State) : Res := .next (s.shockOn axis.val)

/-- SK_HOLD_EXPIRY (R255, R256): no axis is active, failed or chattering. -/
def execSkHoldExpiry (s : State) : Res :=
  if s.rf SK_STATUS_ACTIVE = 0 ∧ s.rf IF_STATUS_STUCK / 4 % 8 = 0 ∧ s.rf IF_STATUS_CHATTER / 4 % 8 = 0 then
    let s : State := { s with shockHeld := false }
    .next (s.inhibitAll inhSHOCK false)
  else .next s

end Sys2Proof.Machine
end

