-- ==== Sys2Proof/Machine/Power.lean ====
section
/-! DEFINITION. Power.lean: power states, the entry handshake, wakes and exits, PWRDIS and PFAIL, clocks, resets and start-up
(21_power_clocks_startup.md), with the boot selection of 23_security_maintenance.md R512. -/

namespace Sys2Proof.Machine
open Sys2Proof

/-! ### Domains (R474, R475) -/

/-- A quad may be ON (R475): one of its four channels belongs to an enabled slot (R235). Quad q has channels 4 q to 4 q + 3. -/
def State.quadUsed (s : State) (q : Nat) : Bool := s.hasAct (q / 2) && decide (4 * (q % 2) < s.par 0x4000 (q / 2 + 1))

/-- The state of domain d in power state p (R475). -/
def State.domIn (s : State) (p d : Nat) : Nat :=
  let ch := if p = 0 then 3 else if p = 4 then 0 else 1
  if d = domAON then 3
  else if 2 ≤ d ∧ d ≤ 9 then (if s.quadUsed (d - 2) then ch else 0)
  else if d = domCHA then ch
  else if d = domCHB then (match s.part with | .a44 => ch | .a22 => 0)
  else if d = domMOT ∨ d = domSPN then (if p ≤ 2 then 3 else 0)
  else if d = domHBP then (if p ≤ 2 then 3 else if p = 3 then 2 else 0)
  else if d = domMGT then (if p = 4 then 2 else 3)
  else if p = 4 then 0 else 3

def State.setDoms (s : State) (p : Nat) (ds : List Nat) : State := ds.foldl (fun t d => t.setDom d (t.domIn p d)) s

/-- The domains whose state follows the data path: Q, Churn. -/
def domQCH : List Nat := [2, 3, 4, 5, 6, 7, 8, 9, 10, 11]

/-- The register of key k lies in a block page of one of the domains. -/
def keyIn (ds : List Nat) (k : Nat) : Bool :=
  let off := k / 32 % 0x1000000
  pages.any (fun p => decide (p.base ≤ off) && decide (off < p.base + 0x1000 * p.n) && ds.contains (p.dom ((off - p.base) / 0x1000)))

/-- MOT and SPN lose their contents when they go OFF (R474); values in force of the configuration set stay (R421). -/
def State.loseMotion (s : State) : State :=
  let keep := (List.range s.nAct).filter (fun a => s.act a == acRETIRED)
  let s : State := { s with
    regs := s.regs.filter (fun p => rwcKey p.1 || !keyIn [domMOT, domSPN] p.1),
    cell := [], mlane := [], pg := [], plaus := [], servo := [], tru := [], plink := [], spin := .reset, shockHeld := false }
  keep.foldl (fun t a => t.setAct a acRETIRED) s

/-- A domain that leaves ON for RET keeps the SRAMs R475 names; sample buffers, command FIFOs and Churn buffers are lost. -/
def State.loseQuads (s : State) : State :=
  { s with
    chan := s.chan.map (fun p => (p.1, { p.2 with target := none, fifo := [], sb := [], encoded := [], reeq := [], refused := [], begun := false,
                                                  rgate := false, wgate := false, stack := [], waiting := false })),
    lane := [], half := [] }

/-! ### Wakes and exits (R480, R481) -/

/-- The states in which wake source `bit` counts (R480). -/
def wakeStates (bit : Nat) : List Nat :=
  match bit with | 0 => [1, 2, 3] | 1 => [1, 2, 3, 4] | 2 => [4] | 3 => [3, 4] | 4 => [4] | _ => [1, 2, 3, 4]

/-- The wake source is enabled (R480); the timer needs a WAKE_TIMER, PWRDIS an entry forced by PWRDIS (R483). -/
def State.wakeOn (s : State) (bit : Nat) : Bool :=
  match bit with
  | 1 => s.rbit WAKE_EN_EN 1 && s.ent 0x2020 7 != 0
  | 2 => s.rbit WAKE_EN_EN 2 && s.par 0x1010 10 != 0
  | 3 => s.rbit WAKE_EN_EN 3
  | 4 => s.pwr.byPwrdis
  | _ => true

/-- The exit from the state in force begins (R481): from P2 the actuators load, from P3 the links train and the spindle starts, from P4 start-up
runs from step 3 as a reset of every domain but AON. -/
def State.exitBegin (s : State) : State :=
  let st := s.rf PWR_STATUS_STATE
  let s : State := { ((s.wb PWR_STATUS_BUSY true).wf PWR_STATUS_PEND 0).wb WAKE_STATUS_REPLAY false with pwr.kind := .exit, pwr.exitFrom := st, pwr.byPwrdis := false }
  if st = 2 then (List.range s.nAct).foldl (fun t a => t.startLoad a) s
  else if st = 3 then
    let s : State := s.setDoms 0 [domMOT, domSPN, domHBP]
    ((List.range s.nAct).foldl (fun t a => t.plTrain a) s).spStart
  else if st = 4 then { s.wbit RST_CAUSE_CAUSE 3 true with pwr.startStep := 2, pwr.cause := 8 }
  else s

/-- A wake (R480, R481): latched; before the commit point it aborts the entry and takes the part to P0, at or after it it waits for the replay. -/
def State.wake (s : State) (bit : Nat) : State :=
  let st := s.rf PWR_STATUS_STATE
  let counts := (wakeStates bit).contains st || (s.pwr.kind != .idle && (wakeStates bit).contains (s.rf PWR_STATUS_PEND))
  if !counts then s
  else
    let s : State := s.wbit WAKE_STATUS_SEEN bit true
    if !s.wakeOn bit then s
    else match s.pwr.kind with
      | .idle => if st = 0 then s else s.exitBegin
      | .entry =>
        if s.rb PWR_STATUS_COMMITTED then s.wb WAKE_STATUS_REPLAY true
        else
          let s : State := s.abortEntry 3 true
          if st = 0 then s else s.exitBegin
      | .forced => if s.rb PWR_STATUS_COMMITTED then s.wb WAKE_STATUS_REPLAY true else s
      | .exit => s

/-- WAKE_EVENT (R480). ZALENE comes from WAKE, and PWRDIS and REQUEST from their own steps; the row latches any of them. -/
def execWakeEvent (bit : Fin 6) (s : State) : Res := .next (s.wake bit.val)

/-- P0 is reached (R481): POWER clears, the sequencers run again from ENTRY, and heads re-settle. -/
def State.exitEnd (s : State) : State :=
  let st := s.pwr.exitFrom
  let s : State := (s.setDoms 0 domQCH).inhibitAll inhPOWER false
  let s : State := (((s.wf PWR_STATUS_STATE 0).wb PWR_STATUS_BUSY false).wf PWR_STATUS_PEND 0)
  let s : State := { s with pwr.kind := .idle }
  let s : State := if st = 4 then s else s.allChans.foldl (fun t n => if t.rb SQ_CTRL_RUN n then t.sqEntry n else t) s
  if st = 1 then (List.range s.nAct).foldl (fun t a => if t.act a = acFOLLOW then t.settleEnter a else t) s else s

/-- The exit's actuators have loaded, or cannot (R481). -/
def State.exitReady (s : State) : Bool :=
  let spin := s.sp == spRUN || s.sp == spFAILED || s.sp == spDISABLED || s.sp == spSTOPPED
  match s.pwr.exitFrom with
  | 1 => true
  | 2 => (List.range s.nAct).all (fun a => s.act a != acLOADING)
  | 3 => spin && (List.range s.nAct).all (fun a => s.act a != acLOADING)
  | _ => s.pwr.startStep == 12

/-- The exit ends once its conditions hold (R481). -/
def State.exitDone (s : State) : State := if s.pwr.kind = .exit ∧ s.exitReady then s.exitEnd else s

/-! ### Requests (R476) -/

def blkPOWER : Nat := srcId SYS 0 0

def State.refuseWith (s : State) (blk reason : Nat) : State := (s.wf PWR_REFUSE_BLOCK blk).wf PWR_REFUSE_REASON reason

/-- The image that slot 0 (A) or 1 (B) holds. -/
def State.image (s : State) (slot : Nat) : ImageInfo := if slot = 0 then s.sec.imgA else s.sec.imgB

/-- The image of a slot runs. -/
def State.runSlot (s : State) (slot : Nat) : State := (s.wf SEC_STATUS_BOOT_SLOT slot).wf SEC_FWSVN_FW_SVN (s.image slot).svn.toNat

/-- A switch-over is abandoned with the old image running (23_security_maintenance.md R517); its commit's completion is posted by the next
SWITCHOVER_STEP_DONE. -/
def State.swAbandon (s : State) : State :=
  match s.sec.sw with
  | some w =>
    if s.rf SEC_SWITCH_STATE = 0 then s
    else
      let s : State := if s.rf SEC_SWITCH_STATE = 5 then s.runSlot w.old else s
      (s.wf SEC_SWITCH_STATE 0).wf SEC_SWITCH_RESULT 0x11
  | none => s

/-- R479 step 1: the request is accepted. -/
def State.entryBegin (s : State) (t : Nat) (kind : PwrKind) : State :=
  let s : State := ((((s.wb PWR_STATUS_BUSY true).wf PWR_STATUS_PEND t).wf PWR_STATUS_RESULT 1).wb PWR_STATUS_COMMITTED false).wf PWR_STATUS_STAGE 0
  let s : State := (s.wb PWR_STATUS_REQ_BUSY false).wb WAKE_STATUS_REPLAY false
  let s : State := if 2 ≤ t then s.inhibitAll inhPOWER true else s
  let s : State := if 3 ≤ t ∧ s.rf SEC_SWITCH_STATE ≤ 3 then s.swAbandon else s
  { s with pwr.kind := kind, pwr.waiting := [], pwr.acked := [], pwr.parked := [], pwr.started := false, pwr.pwrdisLater := false }

/-- A request for power state t (R476). -/
def State.pwrRequest (s : State) (t : Nat) : State :=
  let st := s.rf PWR_STATUS_STATE
  match s.pwr.kind with
  | .idle =>
    if 4 < t then ((s.refuseWith blkPOWER 0x06).wf PWR_STATUS_RESULT 4).wb PWR_STATUS_REQ_BUSY false
    else if t = st then (s.wf PWR_STATUS_RESULT 2).wb PWR_STATUS_REQ_BUSY false
    else if t < st then (s.wb PWR_STATUS_REQ_BUSY false).wake 5
    else s.entryBegin t .entry
  | .exit => s.wb PWR_STATUS_REQ_BUSY true
  | _ => if t < s.rf PWR_STATUS_PEND then s.wake 5 else s.wb PWR_STATUS_REQ_BUSY true

/-- PWR_GO (R476): GO clears when taken. -/
def State.pwrGo (s : State) : State := (s.wb PWR_CTRL_GO false).pwrRequest (s.rf PWR_CTRL_TARGET)
def execPwrGo (_q : Fin 8) (s : State) : Res := .next s.pwrGo

/-- No sector command is queued or running (R476, R478). -/
def State.sectorsIdle (s : State) : Bool := s.sched == [] && s.allChans.all (fun n => (s.ch n).target == none && (s.ch n).fifo == [])

/-- IDLE_TIMER_EXPIRY (R476): IDLE_T1 to IDLE_T3 request P1 to P3; a request under way, or one taken before, makes the timer yield. -/
def execIdleTimerExpiry (k : Fin 3) (s : State) : Res :=
  .next (if s.par 0x2020 (3 + k.val) ≠ 0 ∧ s.pwr.kind = .idle ∧ s.pwr.startStep = 12 ∧ s.rf PWR_STATUS_STATE = k.val ∧ (k.val ≠ 0 ∨ s.sectorsIdle)
    then s.pwrRequest (k.val + 1) else s)

/-! ### The handshake (R478, R479) -/

/-- Stage and targets of a participant (R478). -/
def partStage : Participant → Nat
  | .scheduler | .parity => 1
  | .channels | .churn | .capture | .metadataCache | .dma | .mce => 2
  | .vcm => 3
  | .spindle => 4
  | _ => 5

def partFrom : Participant → Nat
  | .scheduler | .channels | .churn | .capture => 1
  | .vcm => 2
  | .parity | .mce | .spindle => 3
  | _ => 4

/-- The block that PWR_REFUSE names (R455); a group of like blocks gives its first. -/
def partBlock : Participant → Nat
  | .scheduler => srcId HST 5 0 | .parity => srcId DAT 35 0 | .channels => srcId MED 0 0 | .churn => srcId MED 36 0 | .capture => srcId MED 104 0
  | .metadataCache => srcId DAT 34 0 | .dma => srcId DAT 36 0 | .mce => srcId MOT 0 0 | .vcm => srcId MOT 5 0 | .spindle => srcId MOT 14 0
  | .portA => srcId HST 0 0 | .portB => srcId HST 1 0 | .zalene => srcId SYS 7 0 | .powerController => srcId SYS 0 0 | .serviceCores => srcId SYS 9 0
  | .recorder => srcId SYS 4 0

/-- A participant with no delay bound (R478). -/
def partUnbound : Participant → Bool
  | .mce | .portA | .portB | .zalene | .powerController => true
  | _ => false

def allParts : List Participant :=
  [.scheduler, .parity, .channels, .churn, .capture, .metadataCache, .dma, .mce, .vcm, .spindle, .portA, .portB, .zalene, .powerController, .serviceCores, .recorder]

/-- The participants of stage k for target t; a forced entry skips stage 1 (R482). -/
def State.stageParts (s : State) (k : Nat) : List Participant :=
  let t := s.rf PWR_STATUS_PEND
  if k = 1 ∧ s.pwr.kind = .forced then []
  else allParts.filter (fun p => partStage p == k && decide (partFrom p ≤ t))

/-- The node ID in force (19_object_dictionary.md R438). -/
def State.nodeId (s : State) : Nat := if s.par 0x1010 2 = 1 then s.par 0x1010 3 else s.zl.strap

/-- The condition of an ACK, as far as the block holds it (R478); a port's L2/L3 Ready and the firmware's quiescence are the participants' own. -/
def State.ackOk (s : State) (p : Participant) : Bool :=
  match p with
  | .scheduler => s.sectorsIdle
  | .parity => s.updates == [] && s.openStripes == [] && s.dirty == []
  | .channels => s.allChans.all (fun n => (s.ch n).target == none && (s.ch n).sb == [] && (s.ch n).encoded == [])
  | .churn => s.lane.all (fun l => l.2.att == none) && s.half.all (fun h => h.2.store == [])
  | .capture => s.rf RP_STATUS_STATE != 1
  | .metadataCache => s.mcc.merge == []
  | .dma => (List.range 64).all (fun id => s.chState id != chRUNNING && s.chState id != chPARKED)
  | .mce => s.mrec.st != 1
  | .vcm => s.allUnloaded
  | .spindle => s.sp == spSTOPPED || s.sp == spFAILED || (s.pwr.kind == .forced && s.sp == spZV)
  | .zalene => s.nodeId != 0 || s.pwr.kind == .forced
  | .powerController => s.pwr.kind == .forced || s.rbit WAKE_EN_EN 1 || s.wakeOn 2 || s.rbit WAKE_EN_EN 3
  | .recorder => s.recd.staged == [] && s.recd.inbox == []
  | _ => true

/-- The reason for which a participant refuses now (R478). -/
def State.refusal (s : State) (p : Participant) : Option Nat :=
  match p with
  | .capture => if s.rf RP_STATUS_STATE = 1 then some 0x01 else none
  | .mce => if s.mrec.st = 1 then some 0x01 else none
  | .portA => if (s.prt 0).linkUp then some 0x02 else none
  | .portB => if (s.prt 1).linkUp then some 0x02 else none
  | .zalene => if s.nodeId = 0 then some 0x03 else none
  | .powerController => if s.rbit WAKE_EN_EN 1 || s.wakeOn 2 || s.rbit WAKE_EN_EN 3 then none else some 0x04
  | _ => none

/-- What ENTRY makes a stage's participants do: the merging buffer drains, actuators park (a forced entry retracts them), the spindle stops (a
forced entry shorts it), the recorder flushes. -/
def State.stageAct (s : State) (k : Nat) : State :=
  let t := s.rf PWR_STATUS_PEND
  if k = 2 ∧ t = 4 then s.mergeAll
  else if k = 3 then
    let s : State := { s with pwr.parked := (List.range s.nAct).filter (fun a => s.actLoaded a) }
    if s.pwr.kind = .forced then s.retractAll else s.parkAll
  else if k = 4 then
    (if s.pwr.kind = .forced then (if s.sp = spSTOPPED ∨ s.sp = spFAILED ∨ s.sp = spDISABLED then s else s.spZvBrake 0) else s.spStop)
  else if k = 5 then s.startFlush
  else s

/-- The commit point (R479 step 4). -/
def State.commitPoint (s : State) : State := s.wb PWR_STATUS_COMMITTED true

/-- POWER_ENTRY_STAGE (R478, R479 step 2): the next stage with participants starts; an entry waits for a switch-over in HANDOFF or CONFIRM (R517). -/
def State.entryStage (s : State) : State :=
  if (s.pwr.kind = .entry ∨ s.pwr.kind = .forced) ∧ !s.pwr.started ∧ !s.rb PWR_STATUS_COMMITTED
      ∧ !(s.pwr.kind == .entry && decide (4 ≤ s.rf SEC_SWITCH_STATE) && decide (3 ≤ s.rf PWR_STATUS_PEND)) then
    match ([1, 2, 3, 4, 5].filter (fun k => decide (s.rf PWR_STATUS_STAGE < k))).find? (fun k => s.stageParts k != []) with
    | some k => ({ s.wf PWR_STATUS_STAGE k with pwr.started := true, pwr.waiting := s.stageParts k } : State).stageAct k
    | none => s.commitPoint
  else s

def execPowerEntryStage (s : State) : Res := .next s.entryStage

/-- A participant has acknowledged: with the last of the stage the next stage may start, with the last of all the entry commits. -/
def State.partDone (s : State) (p : Participant) : State :=
  let s : State := { s with pwr.waiting := s.pwr.waiting.erase p, pwr.acked := s.pwr.acked ++ [p] }
  if s.pwr.waiting ≠ [] then s
  else
    let s : State := { s with pwr.started := false }
    if ([1, 2, 3, 4, 5].filter (fun k => decide (s.rf PWR_STATUS_STAGE < k))).all (fun k => s.stageParts k == []) then s.commitPoint else s

/-- PARTICIPANT_ACK (R478, R479 step 3). No participant of a forced entry may refuse (R482). -/
def State.partAnswer (s : State) (p : Participant) (a : Answer) : State :=
  if !s.pwr.waiting.contains p then s
  else match a with
    | .ack => if s.ackOk p then s.partDone p else s
    | .delay => s
    | .refuse r => if s.pwr.kind = .entry ∧ s.refusal p = some r.toNat then (s.refuseWith (partBlock p) r.toNat).abortEntry 4 true else s

def execParticipantAck (p : Participant) (answer : Answer) (s : State) : Res := .next (s.partAnswer p answer)

/-- PARTICIPANT_DELAY_TIMEOUT (R477, R482, R490). -/
def State.partTimeout (s : State) (p : Participant) : State :=
  if !s.pwr.waiting.contains p || partUnbound p then s
  else
    let s : State := (s.refuseWith (partBlock p) 0).report (srcId SYS 0 0)
    if s.pwr.kind = .forced then s.partDone p else s.abortEntry 5 true

def execParticipantDelayTimeout (p : Participant) (s : State) : Res := .next (s.partTimeout p)

/-! ### PWRDIS (R482, R483) -/

/-- The scheduler stops at once: sector commands not yet begun are dropped, and the open-stripe table is copied to MRAM (R482, R183). -/
def State.dropSectors (s : State) : State :=
  { s with sched := [], verifies := [], rewrites := [], savedStripes := some s.openStripes,
           chan := s.chan.map (fun p => (p.1, { p.2 with fifo := [], target := if p.2.begun then p.2.target else none })) }

def State.forceEntry (s : State) : State := (s.entryBegin 4 .forced).dropSectors

/-- PWRDIS (R482): a qualified PWRDIS forces entry to P4; behind a commit point the ordinary entry completes first. -/
def State.pwrdis (s : State) : State :=
  let s : State := { s with pwr.byPwrdis := true }
  match s.pwr.kind with
  | .forced => s
  | .entry => if s.rb PWR_STATUS_COMMITTED then { s with pwr.pwrdisLater := true } else s.forceEntry
  | _ => if s.rf PWR_STATUS_STATE = 4 ∧ s.pwr.kind = .idle then s else s.forceEntry

def execPwrdis (s : State) : Res := .next s.pwrdis

/-- R479 steps 5 and 6: the domains have switched; OK, then a forced entry that waits, or the replay of a latched wake. -/
def State.domainsSwitched (s : State) : State :=
  if s.pwr.kind != .idle && s.pwr.kind != .exit && s.rb PWR_STATUS_COMMITTED then
    let t := s.rf PWR_STATUS_PEND
    let later := s.pwr.pwrdisLater
    let s : State := if t = 4 then
        let r := s.coldReset
        { r with regs := s.regs.filter (fun p => keyIn [domAON] p.1),
                 fc := { s.fc with block := [], region := [], up := [] }, pwr := { s.pwr with startStep := 2, ready := false, bootDone := false } }
      else
        let s : State := s.loseQuads
        let s : State := (List.range s.nAct).foldl (fun t a => if t.act a = acFOLLOW then ((t.softOff (chansOf a)).wf VC_HEADS_READ_RDY 0 a).wf VC_HEADS_WRITE_RDY 0 a else t) s
        if t = 3 then s.loseMotion else s
    let s : State := s.setDoms t (List.range 24)
    let s : State := (((s.wf PWR_STATUS_STATE t).wf PWR_STATUS_RESULT 2).wb PWR_STATUS_BUSY false).wf PWR_STATUS_STAGE 0
    let s : State := (s.wb PWR_STATUS_COMMITTED false).wf PWR_STATUS_PEND 0
    let s : State := { s with pwr.kind := .idle, pwr.waiting := [], pwr.acked := [], pwr.parked := [], pwr.started := false, pwr.pwrdisLater := false }
    if later ∧ t ≠ 4 then s.forceEntry
    else if s.rb WAKE_STATUS_REPLAY then s.exitBegin
    else s
  else s

def execDomainsSwitched (s : State) : Res := .next s.domainsSwitched

/-! ### Qualified inputs (20_faults.md R470; 11_spindle.md R283; 21_power_clocks_startup.md R483) -/

/-- PWRDIS deasserted (R483): a wake in P4; during the forced entry it is latched and replayed. -/
def State.pwrdisOff (s : State) : State :=
  if s.pwr.kind = .forced ∨ s.pwr.pwrdisLater then (s.wbit WAKE_STATUS_SEEN 4 true).wb WAKE_STATUS_REPLAY true else s.wake 4

/-- INPUT_QUALIFY (R470): a level held for FILT cycles is qualified; a chattering input holds its last stable value. PFAIL_N deasserted ends
GENERATE (R283), PWRDIS deasserted wakes (R483), a SHOCK input inactive ends its axis (R255); the active levels of PFAIL_N, PWRDIS and SHOCK act by
their own rows. -/
def State.inputQualify (s : State) (i : Nat) (level : Bool) : State :=
  if s.rbit IF_STATUS_CHATTER i then s
  else
    let fell := s.rbit IF_STATUS_LEVEL i && !level
    let s : State := s.wbit IF_STATUS_LEVEL i level
    if !fell then s
    else if i = 0 then ({ s with pwr.pfail := false } : State).powerBack
    else if i = 1 then s.pwrdisOff
    else s.wbit SK_STATUS_ACTIVE (i - 2) false

def execInputQualify (i : Fin 5) (level : Bool) (s : State) : Res := .next (s.inputQualify i.val level)

/-- PFAIL (R183, R283, R494, R496, R517): write inhibit PFAIL, the open-stripe table saved, retract, GENERATE; the POWER_FAIL mark is made, a freeze
ends and a flush starts; an entry before its commit point ends ABORTED_FAULT and does not reload; a switch-over is abandoned. -/
def State.pfail (s : State) (vbus : Nat) : State :=
  let s : State := { s with pwr.pfail := true, savedStripes := some s.openStripes }
  let s : State := (s.abortEntry 7 false).powerLost.swAbandon
  ((s.mark 0x02 vbus).endFreeze).startFlush

def execPfail (vbus : BitVec 16) (s : State) : Res := .next (s.pfail vbus.toNat)

/-! ### Clocks (R484, R490) -/

/-- CRYSTAL_LOSS: AON falls back to the internal oscillator, C1. -/
def execCrystalLoss (s : State) : Res :=
  .next (if s.rb CLK_STATUS_AON_SRC then (s.wb CLK_STATUS_AON_SRC false).report (srcId SYS 0 1) else s)

/-- PLL_LOCK_LOSS: PLL_CORE, PLL_CHURN, PLL_MCE, PLL_HBM; C4. -/
def execPllLockLoss (k : Fin 4) (s : State) : Res :=
  .next (if s.rbit CLK_STATUS_LOCK k.val then (s.wbit CLK_STATUS_LOCK k.val false).report (srcId SYS 0 2) else s)

/-! ### Resets (R485) -/

/-- Every domain is reset; RST_CAUSE names the source, and start-up begins at step 1 of R488. -/
def State.resetWith (s : State) (bit : Nat) : State :=
  let r := s.coldReset
  { r.wf RST_CAUSE_CAUSE (2 ^ bit) with pwr.cause := 2 ^ bit }

/-- The straps are sampled in step 1 of R488 (R530). -/
def State.sampleStrap (s : State) (strap : Nat) : State := { s with zl.strap := strap }

/-- SW_RESET (R485): the key resets every domain; the straps are not sampled again. -/
def State.swReset (s : State) (key : Nat) : State := if key = 0x5A3C then s.resetWith 2 else s
def execSwReset (key : BitVec 16) (s : State) : Res := .next (s.swReset key.toNat)

/-- RESET_N (R485, R488): while low it holds the part in reset; its release starts the start-up unless POR still governs. -/
def execResetN (released : Bool) (strap : BitVec 8) (s : State) : Res :=
  if !released then .next { s.coldReset with pwr.inReset := true, pwr.por := s.pwr.por }
  else if s.pwr.por then .next { s with pwr.inReset := false }
  else .next ((s.resetWith 1).sampleStrap strap.toNat)

/-- POR (R485, R543): asserted it resets every domain, and reservations that do not persist through power loss are gone (R364); its release starts
the start-up once RESET_N is high. -/
def execPor (released : Bool) (strap : BitVec 8) (s : State) : Res :=
  if !released then .next { s.coldReset with pwr.por := true, pwr.inReset := s.pwr.inReset, resv := s.resv.filter (fun p => p.2.ptpl) }
  else if s.pwr.inReset then .next { s with pwr.por := false }
  else .next ((s.resetWith 0).sampleStrap strap.toNat)

/-! ### Boot selection (23_security_maintenance.md R512, R515) -/

/-- The checks of verify, in order (R512). -/
def State.verifyImage (s : State) (i : ImageInfo) : Nat :=
  if i.readError then 1 else if !i.magicOk then 2 else if i.version ≠ 1 then 3 else if !i.lengthOk then 4
  else if i.keyId = 0 ∧ s.sec.revoke0 then 5 else if i.svn.toNat < s.sec.minSvn then 6 else if !i.sigOk then 7 else 0


/-- The selection record is written to the other copy with GEN + 1 (R511). -/
def State.writeSel (s : State) (f : SelRec → SelRec) : State := { s with sec.sel := { f s.sec.sel with gen := s.sec.sel.gen + 1 } }

def State.setReason (s : State) (slot r : Nat) : State := if slot = 0 then s.wf SEC_STATUS_REASON_A r else s.wf SEC_STATUS_REASON_B r

def State.enterRecovery (s : State) (cause : Nat) : State := { (s.setMode modeRecovery).wb SEC_STATUS_RECOVERY true with sec.modeCause := cause }

/-- A verified slot is started: TRIES counts a boot of a pending image, SYS_MODE is Service, or Test where TEST_REQ asked for it. -/
def State.bootSlot (s : State) (slot : Nat) (test : Bool) : State :=
  let pend := s.sec.sel.pending == slot
  let s : State := if pend then s.writeSel (fun r => { r with tries := r.tries + 1 }) else s
  let s : State := ((s.wf SEC_STATUS_BOOT_SLOT slot).wb SEC_STATUS_PENDING_BOOT pend).wf SEC_FWSVN_FW_SVN (s.image slot).svn.toNat
  { s.setMode (if test then modeTest else modeService) with sec.modeCause := if test then 1 else 0 }

/-- BOOT_SELECT (R512). A start-up whose dictionary store was invalid stays in Recovery (R430). -/
def State.bootSelect (s : State) : State :=
  let s : State := { s with sec.bootCount := s.sec.bootCount + 1 }
  if s.sec.sel.recoveryReq then s.enterRecovery 3
  else
    let test := s.sec.sel.testReq
    let s : State := if test then s.writeSel (fun r => { r with testReq := false }) else s
    let r := s.sec.sel
    let first := if r.pending ≠ 0xFF ∧ r.tries < 3 then r.pending else r.active
    let a := s.verifyImage (s.image first)
    let s : State := s.setReason first a
    let s : State := if a = 0 then s.bootSlot first test
      else
        let b := s.verifyImage (s.image (1 - first))
        let s : State := s.setReason (1 - first) b
        if b = 0 then s.bootSlot (1 - first) test else s.enterRecovery 2
    if s.storeValid then s else s.enterRecovery 4

/-! ### Start-up (R488) -/

/-- The persistent values are loaded (R430, R423): RWC values staged, others in force; without a valid copy every P entry has its default, a C3. -/
def State.loadStore (s : State) : State :=
  if s.storeValid then { s with od := s.store.foldl (fun t p => tabSet t p.1 p.2) s.od, regs := s.storeRegs.foldl (fun t p => tabSet t p.1 p.2) s.regs }
  else s.report (srcId SYS 5 32)

/-- The recorder's start (R495, R492): the newest valid header, or an empty recorder with a C1 and CLEARED; then the START mark. -/
def State.recorderStart (s : State) : State :=
  let s : State := if s.recd.header.gen = 0 then (s.report (srcId SYS 4 32)).mark 0x01 0 else { s with recd.cur := s.recd.header }
  s.mark 0x03 s.pwr.cause

/-- A port whose PERST_x_N is high has its domain on, and its link trains (R488 step 5). -/
def State.portUp (s : State) (q : Nat) : State :=
  if s.dom domSYS = 3 ∧ !(s.prt q).perst then (s.setDom (domPX q) 3).modPrt q (fun p => { p with linkUp := true }) else s

def State.rolesRead (s : State) : Bool :=
  (List.range 12).all (fun r => !s.hasRole r || (s.rf MOD_ADMIT_STATE 0 r != modNOTREAD && s.rf MOD_ADMIT_STATE 0 r != modREADING))

/-- Step 8: NVMe controllers accept CC.EN, Q, CH, MOT and SPN ON, microcode loaded, links trained. -/
def State.startPath (s : State) (microOk : Bool) : State :=
  let s : State := (s.setDoms 0 (domQCH ++ [domMOT, domSPN])).bootLoad microOk
  (List.range s.nAct).foldl (fun t a => t.plTrain a) s

/-- What step k of R488 does when the step before it has met its condition (none: the condition is not met). -/
def State.startNext (s : State) (microOk : Bool) : Option (Nat × State) :=
  match s.pwr.startStep with
  | 1 => some (2, { (s.wb CLK_STATUS_AON_SRC true).setDom domAON 3 with fc.alive := true })
  | 2 =>
    let s : State := ((s.setDoms 0 [domSYS, domSVC, domMGT]).wf CLK_STATUS_LOCK 15).setMode modeBoot
    some (3, (((s.loadStore).recorderStart).portUp 0).portUp 1)
  | 3 => some (4, s.bootSelect)
  | 4 =>
    let s : State := { s with pwr.bootDone := true }
    if s.mode = modeService ∨ s.mode = modeTest then
      some (6, (((s.setDoms 0 [domHBP, domBUF, domMCC, domDMA, domQUE, domOBJ]).dmaSetup).identityStart))
    else some (4, s)
  | 6 => if s.buf.filled && s.rolesRead then some (7, s.commitGoBoot) else none
  | 7 => if s.rf CFG_STATUS_STATE = 0 ∧ !s.rb CFG_STATUS_REFUSED ∧ s.mode ≠ modeRecovery then some (8, s.startPath microOk) else none
  | 8 => if s.spAdmitted then some (9, s.spStart) else none
  | 9 => if s.sp = spRUN ∧ s.rb SP_STATUS_AT_SPEED then some (10, (List.range s.nAct).foldl (fun t a => t.startLoad a) s) else none
  | 10 => if (List.range s.nAct).all (fun a => s.act a != acLOADING) then some (11, s) else none
  | _ => none

/-- STARTUP_STEP_DONE: a step's condition is met and the next step runs. Nothing starts while POR or RESET_N holds the part, in P4 without a wake, or
after a C4 (R466). -/
def State.startStepDone (s : State) (microOk : Bool) : State :=
  if s.pwr.inReset || s.pwr.por || s.rb FC_STATUS_FATAL || (s.rf PWR_STATUS_STATE == 4 && s.pwr.kind != .exit) then s
  else match s.startNext microOk with
    | some (k, t) => { t with pwr.startStep := k }
    | none => s

def execStartupStepDone (microOk : Bool) (s : State) : Res := .next (s.startStepDone microOk)

/-- Step 12 (R488, R515): the namespaces are ready, except in Test mode or while a purge runs (R363); an exit from P4 ends. -/
def State.startReady (s : State) : State :=
  let s : State := { s with pwr.ready := s.mode == modeService && s.purge.isNone }
  if s.pwr.kind = .exit then s.exitEnd else s

/-- STRIPE_REPAIR (R183): each saved stripe is read and its parity written with a new generation; a stripe whose member `bad` fails to decode has
that member SUSPECT. Without a saved table after a power loss a C1 is raised. -/
def State.stripeRepair (s : State) (bad : List (Nat × Nat)) : State :=
  match s.savedStripes with
  | some l =>
    let s : State := l.foldl (fun t o =>
      match bad.filter (fun b => b.1 == o.stripe) with
      | [] => { t with writeGen := t.writeGen + 1 }
      | bs => { t with holes := bs.foldl (fun hs b =>
          hs.filter (fun h => !(h.stripe == b.1 && h.pos == b.2)) ++ [{ stripe := b.1, pos := b.2, suspect := true }]) t.holes }) s
    { s with savedStripes := none }
  | none => if s.pwr.cause = 1 then s.report (srcId DAT 35 4) else s

/-- Steps 11 and 12 of R488 with the open-stripe table read (R183). -/
def State.tablesRead (s : State) (bad : List (Nat × Nat)) : State :=
  if s.pwr.startStep = 11 then ({ s.stripeRepair bad with pwr.startStep := 12 } : State).startReady else s

end Sys2Proof.Machine
end

