-- ==== Sys2Proof/Machine/Objects.lean ====
section
/-! DEFINITION. Objects.lean: the object service (17_object_service.md): the index image, the frontier, the execution of PUT, GET, DELETE and LIST,
compaction and the load of the index. Their fetch and completion are those of ring commands (16_miofoest_rings.md). -/

namespace Sys2Proof.Machine
open Sys2Proof

/-! ### Index and spaces (R395 to R398) -/

def State.objStripes (s : State) : Nat := s.par 0xC070 1
def State.objBuckets (s : State) : Nat := 2 ^ s.par 0xC070 2

/-- STATE of R395: OFF, LOADING, READY. -/
def State.objState (s : State) : Nat := if s.objStripes = 0 then 0 else if s.obj.loaded then 2 else 1

/-- The bucket of a key (R397). -/
def State.bucketOf (s : State) (space : Nat) (key : List Byte) : Nat := crc32c (BitVec.ofNat 8 space :: key) % s.objBuckets

/-- The slot of bucket b that holds a key, and its content. -/
def State.keySlot (s : State) (b space : Nat) (key : List Byte) : Option (Nat × ObjSlot) :=
  (List.range 32).findSome? (fun k => match tabFind s.obj.slots (32 * b + k) with
    | some v => if v.space = space ∧ v.key = key then some (k, v) else none
    | none => none)

/-- The lowest empty slot of a bucket (R397). -/
def State.emptySlot (s : State) (b : Nat) : Option Nat := (List.range 32).find? (fun k => (tabFind s.obj.slots (32 * b + k)).isNone)

/-- A command may not use its space (R398). -/
def State.objDenied (s : State) (op : CmdOp) (o : ObjCmd) : Bool :=
  let v := s.par 0xC071 o.space
  !bitOf v 21 || !(if bitOf v 20 then o.pasid == some (v % 2 ^ 20) else o.pasid.isNone) || (bitOf v 22 && op.writes)

/-- Data member indexes of the sectors of a bucket (R396). -/
def State.bucketXs (s : State) (b : Nat) : List Nat := [s.objX0 + 2 * b, s.objX0 + 2 * b + 1]

/-- Buckets a LIST may take (R401, R402). -/
def State.listBuckets (s : State) (start : Nat) : List Nat := (List.range (min 64 (s.objBuckets - start))).map (· + start)

/-- Data members of an object command's range (R402). -/
def State.objXs (s : State) (op : CmdOp) (o : ObjCmd) : List Nat :=
  if op = .list then (s.listBuckets o.arg).flatMap s.bucketXs else s.bucketXs (s.bucketOf o.space o.key)

/-! ### The frontier (R396, R404) -/

/-- First stripe, by its place among the object stripes, that holds values. -/
def State.valueFirst (s : State) : Nat := if s.geoD = 0 then 0 else (2 * s.objBuckets + s.geoD - 1) / s.geoD

/-- The free stripe of lowest STRIPE_ID. -/
def State.freeStripe (s : State) : Option Nat :=
  let t := lowestFree ((tabKeys s.obj.stripes).filter (fun k => decide (s.valueFirst ≤ k))) s.valueFirst
  if t < s.objStripes then some t else none

/-- The frontier: the lowest free sector of the open stripe, or the first of the next free one, which it opens. -/
def State.frontier (s : State) : Option (State × Nat) :=
  match s.obj.front with
  | some o => some (s, o)
  | none => s.freeStripe.map (fun t => ({ s with obj.stripes := tabSet s.obj.stripes t { live := 0, st := 1 } }, t * s.geoD))

/-- An extent of n sectors at o follows those taken: it lengthens the last where it can. -/
def addExtent (es : List (Nat × Nat)) (o n : Nat) : List (Nat × Nat) :=
  match es.getLast? with
  | some (a, l) => if a + l = o ∧ l + n ≤ 4096 then es.dropLast ++ [(a, l + n)] else es ++ [(o, n)]
  | none => [(o, n)]

/-- Takes sectors stripe by stripe from the frontier. -/
def State.objTake : Nat → State → Nat → List (Nat × Nat) → Option (State × List (Nat × Nat))
  | 0, s, need, es => if need = 0 then some (s, es) else none
  | fuel + 1, s, need, es =>
    if need = 0 then some (s, es)
    else match s.frontier with
      | none => none
      | some (s, o) =>
        let t := o / s.geoD
        let room := (t + 1) * s.geoD - o
        let n := min need room
        let x := tabGet { live := 0, st := 1 } s.obj.stripes t
        let s : State := { s with
          obj.stripes := tabSet s.obj.stripes t { live := x.live + n, st := if n = room then 2 else 1 },
          obj.front := if n = room then none else some (o + n) }
        State.objTake fuel s (need - n) (addExtent es o n)

/-- Allocates sectors in at most 6 extents (R403 step 1). -/
def State.objAlloc (s : State) (need : Nat) : Option (State × List (Nat × Nat)) :=
  if s.geoD = 0 then none
  else match State.objTake (need + 1) s need [] with
    | some (t, es) => if es.length ≤ 6 then some (t, es) else none
    | none => none

/-- Object sector i of a value. -/
def extentAt : List (Nat × Nat) → Nat → Nat
  | [], i => i
  | (a, n) :: r, i => if i < n then a + i else extentAt r (i - n)

/-! ### Execution (R402, R403) -/

def sectorsOf (len : Nat) : Nat := (len + 4095) / 4096

/-- The place of value sector i of a command: a Pail of its own, or its part of the Pails drawn for it. -/
def State.objPlace (s : State) (c : Cmd) (i : Nat) : Option Nat :=
  match tabFind c.pails (1001000 + i) with
  | some id => some (placeOf id 0)
  | none => s.cmdPlace c i

def State.modObj (s : State) (stamp : Nat) (f : ObjCmd → ObjCmd) : State := s.modCmd stamp (fun k => { k with obj := k.obj.map f })

/-- The Pails for n sectors are drawn under RID 34 (R313, R403); none on EMPTY, or where the pool is disabled (R315, R318). -/
def State.objPails (s : State) (c : Cmd) (n : Nat) : State × Bool :=
  let per := s.poolSectors c.pool
  if n = 0 then (s, true)
  else if s.poolCount c.pool = 0 ∨ per = 0 then (s.noPool c.pool 34, false)
  else
    let need := (n + per - 1) / per
    if s.poolFree c.pool < need then (s.countEmpty c.pool, false)
    else
      let r := s.takeMany c.pool need
      let add := fun (p : Tab Nat) => (List.range need).foldl (fun t j => tabSet t j (r.2.getD j 0)) p
      let s : State := r.1.modCmd c.stamp (fun k => { k with req := (List.range n).map (· + 1000), pails := add k.pails })
      (s, true)

/-- The transfers of a command's sectors are queued (R330, R393). -/
def State.objMoves (s : State) (stamp n : Nat) (toHost : Bool) : State :=
  (List.range n).foldl (fun t i => match t.cmd stamp with
    | some c => (match c.obj, t.objPlace c i with
      | some o, some sp => t.queueDesc objChans (t.objDesc c o toHost i sp)
      | _, _ => t)
    | none => t) s

/-- R403 steps 1 and 2 of a PUT whose space is open: conditions in the order of R407, sectors, Pails, transfer. -/
def State.objPut (s : State) (c : Cmd) (o : ObjCmd) : State :=
  let b := s.bucketOf o.space o.key
  let held := s.keySlot b o.space o.key
  let fail := fun (t : State) (code : Nat) => t.cmdFail c.stamp code 0
  if bitOf o.oflags 0 && held.isSome then fail s 0x21
  else if bitOf o.oflags 1 && !(match held with | some (_, v) => v.gen % 2 ^ 32 == o.arg | none => false) then fail s 0x22
  else if held.isNone && (s.emptySlot b).isNone then fail s 0x23
  else
    let n := sectorsOf o.valueLen
    match s.objAlloc n with
    | none => fail s 0x24
    | some (t, es) =>
      let r := t.objPails c n
      if !r.2 then fail (r.1.objRelease es) 0x25
      else
        let s : State := (r.1.modObj c.stamp (fun x => { x with extents := es, stage := 1 })).modCmd c.stamp (fun k => { k with result := c.stamp % 2 ^ 32 })
        -- the tail of the last sector is zero-filled
        let s : State := match s.cmd c.stamp with
          | some k => (match s.objPlace k (n - 1) with | some sp => if 0 < n then s.clearBlock (s.placeAddr sp / 4096) else s | none => s)
          | none => s
        s.objMoves c.stamp n false

/-- Value sector i of a command is read from x (R403): from the Pails of the PUT that installed it while they are held, else from the media. -/
def State.objSource (s : State) (stamp i x : Nat) : State :=
  match s.cmd stamp with
  | none => s
  | some c =>
    let done := fun (t : State) => (t.cmdFail stamp 0x07 0).modCmd stamp (fun k => { k with moved := insertIx (1000 + i) k.moved, landed := insertIx (1000 + i) k.landed })
    match s.dirtyAt x, c.obj with
    | some d, some o =>
      let s : State := s.modCmd stamp (fun k => { k with inPail := insertIx (1000 + i) k.inPail })
      if c.op = .get then s.queueDesc objChans (s.objDesc c o true i d.pail)
      else
        -- a value to be moved is copied into a Pail of its own
        let r := s.pailTake c.pool
        let s : State := r.1.modCmd stamp (fun k => { k with pails := tabSet k.pails (1001000 + i) r.2 })
        (s.memWrite (s.placeAddr (placeOf r.2 0)) (s.bytesAt (s.placeAddr d.pail) 4096)).1
    | _, _ =>
      let sp := s.stripeOf x
      match s.memberCmd false sp.1 sp.2 .host stamp (1000 + i) 0 (some c.pool) none with
      | none => done s
      | some k =>
        match s.holeAt sp.1 sp.2 with
        | some h => if h.suspect then done s
            else { s with rebuilds := s.rebuilds ++ [{ stripe := sp.1, pos := sp.2, cmd := some k, started := false, reads := [], pool := 0 }] }
        | none => { s with sched := s.sched ++ [k] }

def State.objSources (s : State) (stamp n : Nat) (es : List (Nat × Nat)) : State :=
  (List.range n).foldl (fun t i => t.objSource stamp i (t.objX0 + extentAt es i)) s

/-- A GET of a key held (R403): the first min(VALUE_LEN, buffer) bytes, SHORT_BUFFER where the buffer is shorter. -/
def State.objGet (s : State) (c : Cmd) (o : ObjCmd) (v : ObjSlot) : State :=
  let buf := (c.hlist.map Prod.snd).sum
  let n := sectorsOf (min v.valueLen buf)
  let s : State := s.modObj c.stamp (fun x => { x with valueLen := v.valueLen, extents := v.extents, stage := o.stage + 1 })
  let s : State := s.modCmd c.stamp (fun k => { k with result := v.valueLen, req := (List.range n).map (· + 1000) })
  let s : State := if buf < v.valueLen then s.cmdFail c.stamp 0x26 0 else s
  s.objSources c.stamp n v.extents

/-- The record of a key in a LIST (R401). -/
def listRecord (v : ObjSlot) : List Byte :=
  leBytes 1 v.key.length ++ leBytes 1 v.space ++ leBytes 2 0 ++ leBytes 4 v.valueLen ++ leBytes 8 v.gen
    ++ v.key ++ List.replicate ((16 - v.key.length % 16) % 16) 0

/-- The records of bucket b for a space and the first bytes of a key, in slot order. -/
def State.bucketRecords (s : State) (b : Nat) (o : ObjCmd) : List Byte :=
  (List.range 32).flatMap (fun k => match tabFind s.obj.slots (32 * b + k) with
    | some v => if v.space = o.space ∧ v.key.take o.key.length = o.key then listRecord v else []
    | none => [])

/-- Takes buckets while their records and the terminator fit: the records, and the first bucket not taken. -/
def State.listTake (s : State) (o : ObjCmd) (buf : Nat) : List Nat → List Byte → List Byte × Option Nat
  | [], acc => (acc, none)
  | b :: r, acc =>
    let x := acc ++ s.bucketRecords b o
    if x.length + 16 ≤ buf then State.listTake s o buf r x else (acc, some b)

/-- A LIST (R401). -/
def State.objList (s : State) (c : Cmd) (o : ObjCmd) : State :=
  let buf := (c.hlist.map Prod.snd).sum
  let bs := s.listBuckets o.arg
  let r := s.listTake o buf bs []
  let next := o.arg + bs.length
  let cursor := match r.2 with | some b => b | none => if s.objBuckets ≤ next then 0xFFFFFFFF else next
  if r.2 = some o.arg ∨ buf < 16 then (s.modCmd c.stamp (fun k => { k with result := o.arg })).cmdFail c.stamp 0x26 0
  else
    let bytes := r.1 ++ List.replicate 16 0
    let n := sectorsOf bytes.length
    let p := s.objPails c n
    if !p.2 then p.1.cmdFail c.stamp 0x25 0
    else
      let s : State := (p.1.modObj c.stamp (fun x => { x with valueLen := bytes.length, stage := 1 })).modCmd c.stamp (fun k => { k with result := cursor })
      let s : State := (List.range n).foldl (fun t i => match t.cmd c.stamp with
        | some k => (match t.objPlace k i with
          | some sp => (t.memWrite (t.placeAddr sp) ((bytes.drop (4096 * i)).take 4096)).1
          | none => t)
        | none => t) s
      s.objMoves c.stamp n true

/-- An object command's checks, in the order of R407. -/
def State.objCheck (s : State) (c : Cmd) (o : ObjCmd) : State :=
  let s : State := s.modObj c.stamp (fun x => { x with checked := true })
  let genBad := fun (v : ObjSlot) => bitOf o.oflags 1 && v.gen % 2 ^ 32 != o.arg
  let key := s.keySlot (s.bucketOf o.space o.key) o.space o.key
  if s.objState ≠ 2 then
    let s : State := s.cmdFail c.stamp 0x04 0
    if s.objStripes = 0 then s.cmdFail c.stamp 0x28 0 else s
  else if s.objDenied c.op o then s.cmdFail c.stamp 0x27 0
  else match c.op with
    | .put => s.objPut c o
    | .get => (match key with
      | none => s.cmdFail c.stamp 0x20 0
      | some (_, v) => if genBad v then s.cmdFail c.stamp 0x22 0 else s.objGet c o v)
    | .delete => (match key with
      | none => s.cmdFail c.stamp 0x20 0
      | some (_, v) => if genBad v then s.cmdFail c.stamp 0x22 0 else s)
    | .list => s.objList c o
    | _ => s

/-- The command may check its bucket (R402): every earlier write of it is installed, and one of the 512 contexts is free. -/
def State.objMay (s : State) (c : Cmd) (o : ObjCmd) : Bool :=
  !o.checked && !c.aborted && c.fails == [] && c.xs.all (fun x => s.writesIn c.stamp x)
    && decide (s.cmds.countP (fun k => match k.obj with | some p => p.checked | none => false) < 512)

/-- Every object command that may goes on, in stamp order. -/
def State.objAdvance (s : State) : State :=
  s.cmds.foldl (fun t c => match t.cmd c.stamp with
    | some k => (match k.obj with | some o => if t.objMay k o then t.objCheck k o else t | none => t)
    | none => t) s

/-- The value of a slot after step 3 of R403. -/
def newSlot (c : Cmd) (o : ObjCmd) : Option ObjSlot :=
  if c.op = .delete then none
  else some { space := o.space, key := o.key, extents := o.extents, valueLen := o.valueLen, gen := if c.origin = 2 ^ 32 then o.arg else c.stamp }

/-- A compaction's move is dropped (R404): a later PUT or DELETE of the key has been stamped, or the key is not what it was. -/
def State.moveStale (s : State) (c : Cmd) (o : ObjCmd) : Bool :=
  c.origin == 2 ^ 32 && (s.cmds.any (fun k => (k.op == .put || k.op == .delete) && k.origin != 2 ^ 32 && decide (c.stamp < k.stamp)
      && (match k.obj with | some p => p.space == o.space && p.key == o.key | none => false))
    || !(match s.keySlot (s.bucketOf o.space o.key) o.space o.key with | some (_, v) => v.gen == o.arg | none => false))

/-- Step 3 of R403 may be taken: the value is in its Pails, the earlier reads of the bucket have landed, the earlier writes are installed. -/
def State.objMayInstall (s : State) (c : Cmd) (o : ObjCmd) : Bool :=
  (c.op == .put || c.op == .delete) && o.checked && !c.aborted && c.fails == [] && c.installed == []
    && c.req.all (fun r => c.inPail.contains r) && c.xs.all (fun x => s.readsIn c.stamp x && s.writesIn c.stamp x)

/-- Step 3 of R403: the slot is written in the image, the value's sectors become the ones later reads see, and the change goes on to the media. -/
def State.objInstall (s : State) (c : Cmd) (o : ObjCmd) : State :=
  let b := s.bucketOf o.space o.key
  let held := s.keySlot b o.space o.key
  match (match held with | some (k, _) => some k | none => s.emptySlot b) with
  | none => s
  | some k =>
    let old := match held with | some (_, v) => v.extents | none => []
    let new := newSlot c o
    let ds : List Dirty := if c.op = .delete then []
      else (List.range (sectorsOf o.valueLen)).filterMap (fun i => (s.objPlace c i).map (fun sp =>
        { x := s.objX0 + extentAt o.extents i, stamp := c.stamp, first := c.stamp, ns := 0xF, pail := sp, busy := false }))
    let s : State := { s with
      obj.slots := (match new with | some v => tabSet s.obj.slots (32 * b + k) v | none => tabDel s.obj.slots (32 * b + k)),
      dirty := s.dirty ++ ds,
      obj.pend := s.obj.pend ++ [{ stamp := c.stamp, old := old, bucket := b, slot := k, new := new, st := 0 }] }
    let s : State := (s.modObj c.stamp (fun x => { x with stage := 2 })).modCmd c.stamp (fun x => { x with installed := [0, 1] })
    s.objDurable.objAdvance

/-- A command's change is durable (R403 steps 4 to 6). -/
def State.objIsDurable (s : State) (stamp : Nat) : Bool :=
  s.obj.pend.all (fun e => e.stamp != stamp || e.st == 2) && s.dirty.all (fun d => d.stamp != stamp)

/-! ### Compaction, load and reload (R404, R405, R407) -/

/-- The FULL stripe of lowest live share, below COMPACT_PCT; the lowest id on a tie. -/
def State.compactStripe (s : State) : Option Nat :=
  let ok := s.obj.stripes.filter (fun p => p.2.st == 2 && decide (100 * p.2.live < s.par 0xC070 4 * s.geoD))
  (ok.foldl (fun (b : Option (Nat × Nat)) p => match b with
    | some x => if p.2.live < x.2 then some (p.1, p.2.live) else some x
    | none => some (p.1, p.2.live)) none).map (·.1)

/-- A live value of a stripe moves to the frontier as an internal PUT that keeps its GEN. -/
def State.compactMove (s : State) (pool b : Nat) (v : ObjSlot) : State :=
  let n := sectorsOf v.valueLen
  if 65536 ≤ s.cmds.length ∨ s.poolFree pool < n then s
  else match s.objAlloc n with
    | none => s
    | some (t, es) =>
      let st := t.newStamp
      let o : ObjCmd := { space := v.space, key := v.key, oflags := 0, valueLen := v.valueLen, arg := v.gen, pasid := none, extents := es, checked := true, stage := 1 }
      let c : Cmd := { hazardOf st.2 0 with op := .put, xs := s.bucketXs b, ns := 0xF, count := 0, pool := pool, inPail := [], installed := [], issued := false,
                                            req := (List.range n).map (· + 1000), obj := some o }
      ({ st.1 with cmds := st.1.cmds ++ [c] } : State).objSources st.2 n v.extents

/-- OBJECT_COMPACT (R404): the pool from which the values are read is the operand. -/
def State.objCompact (s : State) (pool : Nat) : State :=
  if s.objState ≠ 2 then s
  else match s.compactStripe with
    | none => s
    | some t =>
      let hit := s.obj.slots.filter (fun p => p.2.extents.any (fun e => (extentParts s.geoD e).any (fun q => q.1 == t)))
      let fresh := hit.filter (fun p => !s.cmds.any (fun k => k.origin == 2 ^ 32 && (match k.obj with | some o => o.space == p.2.space && o.key == p.2.key | none => false)))
      fresh.foldl (fun u p => u.compactMove pool (p.1 / 32) p.2) s

def execObjectCompact (pool : Fin 16) (s : State) : Res := .next (if s.bgHeld then s else s.objCompact pool.val)

/-- The stripe table rebuilt from the extents of the slots (R405). -/
def stripesFrom (d : Nat) (slots : Tab ObjSlot) : Tab ObjStripe :=
  (slots.flatMap (fun p => p.2.extents.flatMap (extentParts d))).foldl (fun t q =>
    tabSet t q.1 { live := (tabGet { live := 0, st := 2 } t q.1).live + q.2, st := 2 }) []

/-- OBJECT_INDEX_LOAD (R405): every bucket is loaded into the image from the media; a bucket that is unrecoverable is loaded empty, a C2. -/
def State.objLoad (s : State) (bad : List Nat) : State :=
  if s.objStripes = 0 ∨ s.obj.loaded ∨ s.pwr.startStep < 11 then s
  else
    let slots := s.obj.media.filter (fun p => !bad.contains (p.1 / 32))
    let s : State := { s with obj.slots := slots, obj.media := slots, obj.stripes := stripesFrom s.geoD slots, obj.front := none, obj.pend := [], obj.loaded := true }
    (bad.foldl (fun t b => t.report (srcId HST 6 32) b b) s).objAdvance

def execObjectIndexLoad (bad : List (BitVec 18)) (s : State) : Res := .next (s.objLoad (bad.map (·.toNat)))

/-- BUCKET_RELOAD (R407): a bus error on the image, C1; the bucket is reloaded from the media, with the changes that are on their way there. -/
def State.bucketReload (s : State) (b : Nat) : State :=
  let s : State := s.report (srcId HST 6 33) b b
  let base := s.obj.slots.filter (fun p => p.1 / 32 != b)
  let slots := (s.obj.media.filter (fun p => p.1 / 32 == b)).foldl (fun t p => tabSet t p.1 p.2) base
  { s with obj.slots := (s.obj.pend.filter (fun e => e.bucket == b)).foldl (fun t e => match e.new with
      | some v => tabSet t (32 * b + e.slot) v
      | none => tabDel t (32 * b + e.slot)) slots }

def execBucketReload (b : BitVec 18) (s : State) : Res := .next (s.bucketReload b.toNat)

end Sys2Proof.Machine
end

