-- ==== Sys2Proof/Machine/Entries.lean ====
section
/-! DEFINITION. Entries.lean: the entries of submission rings, as bytes and as what they ask for (16_miofoest_rings.md R370 to R372,
17_object_service.md R399, R400). -/

namespace Sys2Proof.Machine
open Sys2Proof

/-- An entry that passes R370 and R371. -/
structure Entry where
  opcode : Nat
  units : Nat
  fua : Bool
  nsid : Nat
  cid : Nat
  lba : Nat
  count : Nat
  list : List (Nat × Nat)
  target : Nat × Nat
  obj : Option ObjCmd
  deriving DecidableEq, Repr

def byteOf (bs : List Byte) (k : Nat) : Nat := (bs.getD k 0).toNat

/-- Units of an entry and its OWN mark (R370). -/
def entryUnits (bs : List Byte) : Nat := byteOf bs 1 % 16 + 1
def entryOwn (bs : List Byte) : Bool := decide (128 ≤ byteOf bs 1)

/-- The host list elements in units [u, u + n), none where one breaks R333. -/
def entryList (bs : List Byte) (u n : Nat) : Option (List (Nat × Nat)) :=
  let es := (List.range n).map (fun i => (fieldAt bs (16 * (u + i)) 8, fieldAt bs (16 * (u + i) + 8) 4, fieldAt bs (16 * (u + i) + 12) 4))
  if es.all (fun e => decide (1 ≤ e.2.1 ∧ e.2.1 ≤ 16777216 ∧ e.2.2 = 0)) then some (es.map (fun e => (e.1, e.2.1))) else none

def listSum (l : List (Nat × Nat)) : Nat := (l.map Prod.snd).sum

/-- The fields that every entry has; reserved ones are 0 (R370, R6). -/
def entryHead (bs : List Byte) : Entry :=
  { opcode := byteOf bs 0, units := entryUnits bs, fua := bitOf (byteOf bs 2) 0, nsid := byteOf bs 3, cid := fieldAt bs 4 4, lba := fieldAt bs 8 6,
    count := 0, list := [], target := (0, 0), obj := none }

def headBad (bs : List Byte) : Bool := byteOf bs 1 / 16 % 8 != 0 || byteOf bs 2 / 2 != 0 || fieldAt bs 14 2 != 0

/-- COUNT of unit 1, none where it is out of range or the unit's reserved bytes are not 0 (R371). -/
def entryCount (bs : List Byte) : Option Nat :=
  let c := fieldAt bs 16 4
  if 1 ≤ c ∧ c ≤ 65536 ∧ fieldAt bs 20 12 = 0 then some c else none

/-- READ and WRITE (R371): the element lengths sum to COUNT * 4,096. -/
def parseMove (bs : List Byte) : Option Entry :=
  let h := entryHead bs
  if h.units < 3 then none
  else match entryCount bs, entryList bs 2 (h.units - 2) with
    | some c, some l => if listSum l = 4096 * c then some { h with count := c, list := l } else none
    | _, _ => none

/-- The OFLAGS an object opcode allows (R400). -/
def oflagsOk (op f : Nat) : Bool := if op = 0x40 then f ≤ 2 else if op = 0x43 then f == 0 else f == 0 || f == 2

/-- Object entries (R399, R400). -/
def parseObject (bs : List Byte) : Option Entry :=
  let h := entryHead bs
  let op := h.opcode
  let space := byteOf bs 16
  let klen := byteOf bs 17
  let ofl := fieldAt bs 18 2
  let vlen := fieldAt bs 20 4
  let ku := (klen + 15) / 16
  let e := h.units - 2 - ku
  if h.units < 2 + ku ∨ h.nsid ≠ 0 ∨ fieldAt bs 8 8 ≠ 0 ∨ space = 0 ∨ 128 < klen ∨ (klen = 0 ∧ op ≠ 0x43) ∨ !oflagsOk op ofl
      ∨ 16777216 < vlen ∨ (vlen ≠ 0 ∧ op ≠ 0x40) ∨ fieldAt bs 28 4 ≠ 0 then none
  else match entryList bs (2 + ku) e with
    | none => none
    | some l =>
      let fits := if op = 0x40 then (if vlen = 0 then e == 0 else decide (1 ≤ e) && listSum l == vlen) else if op = 0x42 then e == 0 else decide (1 ≤ e)
      if fits then
        some { h with list := l, obj := some { space := space, key := ((bs ++ List.replicate 256 0).drop 32).take klen, oflags := ofl, valueLen := vlen, arg := fieldAt bs 24 4,
                                               pasid := none, extents := [], checked := false, stage := 0 } }
      else none

/-- The entry that bytes hold; none is a FORMAT error (R371, R386). -/
def parseEntry (bs : List Byte) : Option Entry :=
  let h := entryHead bs
  if headBad bs then none
  else match h.opcode with
    | 0x00 => if h.units ≤ 15 then some h else none
    | 0x01 => parseMove bs
    | 0x02 => parseMove bs
    | 0x03 => if h.units = 1 then some h else none
    | 0x04 => if h.units = 2 then (entryCount bs).map (fun c => { h with count := c }) else none
    | 0x08 => if h.units = 2 ∧ fieldAt bs 16 4 < 2 ^ 20 ∧ fieldAt bs 24 8 = 0 then some { h with target := (fieldAt bs 16 4, fieldAt bs 20 4) } else none
    | 0x40 => parseObject bs
    | 0x41 => parseObject bs
    | 0x42 => parseObject bs
    | 0x43 => parseObject bs
    | _ => none

def opOf (opcode : Nat) : CmdOp :=
  match opcode with
  | 0x01 => .read | 0x02 => .write | 0x03 => .flush | 0x04 => .zeroes | 0x08 => .abort | 0x40 => .put | 0x41 => .get | 0x42 => .delete | 0x43 => .list
  | _ => .other

/-! ### Entries written out: the rows of the table that name an entry by its fields -/

/-- An entry that belongs to the ODC7, of `units` units. -/
def entryBytes (op units : Nat) (fua : Bool) (nsid cid lba : Nat) (rest : List Byte) : List Byte :=
  leBytes 1 op ++ leBytes 1 (128 + (units - 1)) ++ leBytes 1 fua.toNat ++ leBytes 1 nsid ++ leBytes 4 cid ++ leBytes 8 lba ++ rest

def listBytes (l : List (Nat × Nat)) : List Byte := l.flatMap (fun e => leBytes 8 e.1 ++ leBytes 4 e.2 ++ leBytes 4 0)

def moveEntry (op : Nat) (fua : Bool) (nsid cid lba count : Nat) (l : List (Nat × Nat)) : List Byte :=
  entryBytes op (2 + l.length) fua nsid cid lba (leBytes 4 count ++ leBytes 12 0 ++ listBytes l)

/-- Key bytes, zero-padded to whole units. -/
def keyUnits (key : List Byte) : List Byte := key ++ List.replicate ((16 - key.length % 16) % 16) 0

def objectEntry (op : Nat) (fua : Bool) (cid space : Nat) (key : List Byte) (oflags len arg : Nat) (l : List (Nat × Nat)) : List Byte :=
  entryBytes op (2 + (key.length + 15) / 16 + l.length) fua 0 cid 0
    (leBytes 1 space ++ leBytes 1 key.length ++ leBytes 2 oflags ++ leBytes 4 len ++ leBytes 8 arg ++ keyUnits key ++ listBytes l)

def operandList (l : List (BitVec 64 × BitVec 32)) : List (Nat × Nat) := l.map (fun e => (e.1.toNat, e.2.toNat))

end Sys2Proof.Machine
end

