-- ==== Sys2Proof/Machine/Finish.lean ====
section
/-! DEFINITION. Finish.lean: what ring entries and NVMe commands share: participants and turns, freezes, completions, aborts, and the claims of a
fetch (16_miofoest_rings.md R381 to R392, 15_nvme_ports.md R360 to R365). -/

namespace Sys2Proof.Machine
open Sys2Proof

/-! ### Participants (R382). SRn is n; SQ q of port A is 1,048,576 + q, of port B 1,049,601 + q. A completion ring is c, the CQ i of port q
262,144 + 1025 q + i. -/

def nSR : Nat := 1048576
def nCR : Nat := 262144
def nvPart (q i : Nat) : Nat := nSR + 1025 * q + i
def nvComp (q i : Nat) : Nat := nCR + 1025 * q + i
def partPort (p : Nat) : Nat := (p - nSR) / 1025
def partQ (p : Nat) : Nat := (p - nSR) % 1025

def State.sring (s : State) (n : Nat) : SubRing := tabGet .free s.sr n
def State.modSr (s : State) (n : Nat) (f : SubRing → SubRing) : State := { s with sr := tabMod .free s.sr n f }
def State.cring (s : State) (c : Nat) : CompRing := tabGet .free s.cr c
def State.modCr (s : State) (c : Nat) (f : CompRing → CompRing) : State := { s with cr := tabMod .free s.cr c f }

def NvSq.none : NvSq := { base := 0, cq := 0, size := 0, head := 0, tail := 0, prio := 0, pool := 0 }
def NvCq.none : NvCq := { base := 0, size := 0, tail := 0, head := 0, holdback := [], credits := 0, vector := 0, wait := false }
def State.nvSq (s : State) (q i : Nat) : NvSq := tabGet .none (s.prt q).sq i
def State.nvCq (s : State) (q i : Nat) : NvCq := tabGet .none (s.prt q).cq i
def State.modSq (s : State) (q i : Nat) (f : NvSq → NvSq) : State := s.modPrt q (fun p => { p with sq := tabMod .none p.sq i f })
def State.modCq (s : State) (q i : Nat) (f : NvCq → NvCq) : State := s.modPrt q (fun p => { p with cq := tabMod .none p.cq i f })

/-- The attributes of a ring context (R369). -/
def attrPasid (a : Nat) : Option Nat := if bitOf a 20 then some (a % 2 ^ 20) else none
def attrPri (a : Nat) : Bool := bitOf a 21
def attrPort (a : Nat) : Nat := a / 2 ^ 22 % 2
def attrPrefetch (a : Nat) : Nat := a / 2 ^ 23 % 16

/-- Units of a ring; entries of a completion ring. -/
def SubRing.n (r : SubRing) : Nat := 2 ^ r.size
def CompRing.n (r : CompRing) : Nat := 2 ^ r.size
/-- Units from HEAD to TAIL (R375). -/
def SubRing.covered (r : SubRing) : Nat := if r.full then r.n else (r.n + r.tail - r.head) % r.n
/-- Entries of a completion ring that the host has not consumed. -/
def CompRing.used (r : CompRing) : Nat := (2 * r.n + r.tail - r.head) % (2 * r.n)
def NvCq.used (c : NvCq) : Nat := if c.size = 0 then 0 else (2 * c.size + c.tail - c.head) % (2 * c.size)

/-- A submission ring may be fetched from (R381 step 1, R382, R383). -/
def State.srEligible (s : State) (n : Nat) : Bool :=
  let r := s.sring n
  let c := s.cring r.cr
  r.st == 1 && r.covered != 0 && c.st == 1 && decide (c.credits < c.n + 64)

/-- An NVMe submission queue may be fetched from (R360, R383). -/
def State.sqEligible (s : State) (q i : Nat) : Bool :=
  let p := s.prt q
  let x := s.nvSq q i
  let c := s.nvCq q x.cq
  p.en && p.rdy && !p.frozen && x.size != 0 && x.head != x.tail && c.size != 0 && decide (c.credits < c.size + 64)

def State.eligible (s : State) (p : Nat) : Bool := if p < nSR then s.srEligible p else s.sqEligible (partPort p) (partQ p)

/-- A feature of a controller; 0 where the host has set none (log 25). Feature 0x100 is the arbitration that CC.AMS selected. -/
def State.feature (s : State) (q fid : Nat) : Nat := tabGet (if fid = 0x06 then 1 else 0) (s.prt q).feat fid
def State.wrr (s : State) (q : Nat) : Bool := s.feature q 0x100 == 1

/-- Weight and burst of a participant (R382). -/
def State.partWeight (s : State) (p : Nat) : Nat :=
  if p < nSR then max 1 (s.sring p).weight
  else
    let q := partPort p
    let f := s.feature q 0x01
    if partQ p = 0 ∨ !s.wrr q then 1
    else match (s.nvSq q (partQ p)).prio with
      | 1 => min 255 (f / 2 ^ 24 % 256 + 1)
      | 2 => min 255 (f / 2 ^ 16 % 256 + 1)
      | _ => min 255 (f / 2 ^ 8 % 256 + 1)

def State.partBurst (s : State) (p : Nat) : Nat := if p < nSR then max 1 (s.sring p).burst else min 64 (2 ^ (s.feature (partPort p) 0x01 % 8))

/-- The NVMe queues of both ports that are eligible, in number order. -/
def State.nvReady (s : State) : List Nat :=
  [0, 1].flatMap (fun q => ((tabKeys (s.prt q).sq).filter (fun i => s.sqEligible q i)).map (nvPart q))

/-- The queue belongs to the strict tier (R382). -/
def State.isStrict (s : State) (p : Nat) : Bool :=
  if partQ p = 0 then s.par 0x7020 2 == 1 else s.wrr (partPort p) && (s.nvSq (partPort p) (partQ p)).prio == 0

/-- Members of a rising list in the cyclic order that starts behind a pointer. -/
def afterPtr (ptr : Nat) (l : List Nat) : List Nat := l.filter (fun p => decide (ptr < p)) ++ l.filter (fun p => decide (p ≤ ptr))

/-- The strict tier: admin queues of A and B, then the urgent queues in round robin. -/
def State.strictNext (s : State) : Option Nat :=
  let l := s.nvReady.filter s.isStrict
  match l.find? (fun p => partQ p == 0) with
  | some p => some p
  | none => (afterPtr s.reng.strict l).head?

def State.turnsLeft (s : State) (p : Nat) : Nat := (tabFind s.reng.turns p).getD (s.partWeight p)

/-- A staged update of a ring takes effect at its next turn (R394). -/
def State.applyUpdate (s : State) (p : Nat) : State :=
  if p < nSR then
    match (s.sring p).upd with
    | some (w, b, f) => s.modSr p (fun r => { r with weight := w, burst := b, attr := r.attr % 2 ^ 23 + f * 2 ^ 23, upd := none })
    | none => s
  else s

/-- The weighted tier gives the turn to the next participant with turns left (R382). -/
def State.pickTurn (s : State) : Option (State × Nat) :=
  let l := (tabKeys s.sr).filter s.srEligible ++ s.nvReady.filter (fun p => !s.isStrict p)
  let s : State := if l.any (fun p => s.turnsLeft p != 0) then s else { s with reng.turns := [] }
  match (afterPtr s.reng.ptr l).find? (fun p => s.turnsLeft p != 0) with
  | none => none
  | some p => some (({ s with reng.ptr := p, reng.turns := tabSet s.reng.turns p (s.turnsLeft p - 1), reng.turn := some (p, 0) } : State).applyUpdate p, p)

/-- Who fetches next (R382): none while fetching is paused, after a C4, or while HST restarts or its completed writes are not all on the media (R465). -/
def State.nextTurn (s : State) : Option (State × Nat) :=
  if s.rb RE_STATUS_PAUSED || s.rb FC_STATUS_FATAL || s.fc.restarting.contains HST || s.dirty.any (fun d => decide (d.stamp < s.reng.drain)) then none
  else match s.strictNext with
    | some p => some (if partQ p = 0 then s else { s with reng.strict := p }, p)
    | none => match s.reng.turn with
      | some (p, k) => if k < s.partBurst p && s.eligible p then some (s, p) else s.pickTurn
      | none => s.pickTurn

/-- A participant's turn ends (R382). -/
def State.turnEnd (s : State) (p : Nat) : State :=
  match s.reng.turn with
  | some (q, _) => if q = p then { s with reng.turn := none } else s
  | none => s

/-- An entry of the turn has been fetched. -/
def State.turnCount (s : State) (p : Nat) : State :=
  match s.reng.turn with
  | some (q, k) => if q = p then { s with reng.turn := some (q, k + 1) } else s
  | none => s

/-! ### Freezes (R386, R387) -/

/-- A page-request waiter goes away; a request nobody waits for and that has not been sent goes too. -/
def State.priDrop (s : State) (w : PriWho) : State :=
  let s : State := { s with dtu.pri := s.dtu.pri.map (fun p => { p with who := p.who.filter (fun x => x != w) }) }
  { s with dtu.pri := s.dtu.pri.filter (fun p => p.group.isSome || p.who != []) }

/-- A submission ring freezes: no fetch, its copies discarded, its Error Log written; a C1 (R386, R387, R553: cell the ring, DETAIL the CID). -/
def State.freezeRing (s : State) (n code detail cid : Nat) : State :=
  let r := s.sring n
  if r.st = 1 ∨ r.st = 2 then
    let st := s.fetchStamp.toNat % 2 ^ 32
    let s : State := s.modSr n (fun x => { x with st := 3, code := code, detail := detail, cid := cid, errHead := x.head, errStamp := st, copies := [] })
    (((s.priDrop (.fetch n)).turnEnd n).cnt RE_COUNT_FREEZES).report (srcId HST 4 code) n cid
  else s

/-- A completion ring freezes with CQ_FROZEN or CQ_HEAD; the rings bound to it freeze with CQ_FROZEN (R378, R389). -/
def State.freezeCr (s : State) (c code : Nat) : State :=
  let r := s.cring c
  if r.st ≠ 1 then s
  else
    let st := s.fetchStamp.toNat % 2 ^ 32
    let s : State := s.modCr c (fun x => { x with st := 3, code := code, errHead := x.head % x.n, errStamp := st, wait := false })
    let s : State := ((s.priDrop (.comp c)).cnt RE_COUNT_FREEZES).report (srcId HST 4 code) c
    (s.sr.filter (fun p => p.2.cr == c)).foldl (fun t p => t.freezeRing p.1 0x09 0 0) s

/-! ### Completions (R379, R380, R383) -/

/-- The bytes of a ring's completion entry; PHASE is 1 on laps with LAP = 0 (R379). -/
def compBytes (e : CqEnt) (lap : Bool) : List Byte :=
  leBytes 4 e.cid ++ leBytes 4 e.ring ++ leBytes 4 e.result ++ leBytes 1 e.status ++ leBytes 1 e.detail ++ leBytes 1 e.late.toNat
    ++ leBytes 1 (if lap then 0 else 128)

/-- An entry is written at TAIL; the vector is due a signal. -/
def State.crWrite (s : State) (c : Nat) (e : CqEnt) : State :=
  let r := s.cring c
  let s : State := s.modCr c (fun x => { x with tail := (x.tail + 1) % (2 * x.n), signal := x.signal || x.irq })
  s.emit (.hostWrite (attrPort r.attr) (r.base + 16 * (r.tail % r.n)) (compBytes e (decide (r.n ≤ r.tail))))

/-- The holdback drains into free slots, in order (R383). -/
def State.crDrain : Nat → State → Nat → State
  | 0, s, _ => s
  | k + 1, s, c =>
    let r := s.cring c
    match r.holdback with
    | [] => s
    | e :: rest =>
      if r.st ≠ 1 ∨ r.wait ∨ r.n ≤ r.used then s
      else State.crDrain k ((s.modCr c (fun x => { x with holdback := rest })).crWrite c e) c

/-- A finished command's entry can be taken: a ring that writes nothing holds 64 in its holdback, and more wait in their hazard entries (R388). -/
def State.crTakes (s : State) (c : Nat) : Bool :=
  let r := s.cring c
  !((r.st == 3 || r.wait) && decide (64 ≤ r.holdback.length))

/-- An entry goes to the completion ring if a slot is free and the holdback is empty, else to the holdback (R383); `ans` is the DTU's answer (R389). -/
def State.crPut (s : State) (c : Nat) (e : CqEnt) (ans : WrAns) : State :=
  let r := s.cring c
  let hold : State := s.modCr c (fun x => { x with holdback := x.holdback ++ [e] })
  if r.st ≠ 1 ∨ r.wait ∨ r.holdback ≠ [] ∨ r.n ≤ r.used then hold
  else match ans with
    | .ok => s.crWrite c e
    | .fault => hold.freezeCr c 0x09
    | .pending =>
      if s.priUsable (attrPort r.attr) then
        (hold.modCr c (fun x => { x with wait := true })).priAsk (attrPort r.attr) (attrPasid r.attr) ((r.base + 16 * (r.tail % r.n)) / 4096) true (.comp c)
      else hold.freezeCr c 0x09

/-- A value that the spec leaves open where it states no RESULT (log 1). -/
def State.openResult (s : State) (bits : Nat) : State × Nat := (s.useFree, (Config.freeValue s.free).toNat % 2 ^ bits)

/-- The completion of an entry that was not stamped (RING_FROZEN, SKIPPED), with the credit of R381; RESULT is left open. -/
def State.unstamped (s : State) (n status detail cid : Nat) : State :=
  let c := (s.sring n).cr
  let r := s.openResult 32
  let s : State := r.1.modCr c (fun x => { x with credits := x.credits + 1 })
  s.crPut c { cid := cid, ring := n, result := r.2, status := status, detail := detail, late := false } .ok

/-- An entry freezes its ring (R386). -/
def State.entryFrozen (s : State) (n code detail cid : Nat) : State := (s.freezeRing n code detail cid).unstamped n 0x0B code cid

/-! ### NVMe completion queues -/

/-- NVMe status as 256 * SCT + SC of an outcome (R363; the generic codes of NVMe 2.0 for the rest, log 25). -/
def nvStatus (code : Nat) : Nat :=
  match code with
  | 0x102 => 0x002 | 0x103 => 0x00F | 0x104 => 0x018
  | 0 => 0 | 1 => 0x007 | 4 => 0x082 | 5 => 0x083 | 6 => 0x004 | 7 => 0x281 | 8 => 0x280 | 9 => 0x006 | 0x0A => 0x080 | 0x100 => 0x285 | 0x101 => 0x00B
  | _ => 0x006

/-- The 16 bytes of a completion queue entry: Dword 0, SQ head and identifier, CID, phase tag and status. -/
def cqeBytes (e : CqEnt) (sqHead : Nat) (tag : Bool) : List Byte :=
  leBytes 4 e.result ++ leBytes 4 0 ++ leBytes 2 sqHead ++ leBytes 2 (partQ e.ring) ++ leBytes 2 e.cid
    ++ leBytes 2 (tag.toNat + 2 * (e.status % 256) + 512 * (e.status / 256 % 8))

def State.cqWrite (s : State) (q i : Nat) (e : CqEnt) : State :=
  let c := s.nvCq q i
  let s : State := s.modCq q i (fun x => { x with tail := (x.tail + 1) % (2 * x.size) })
  s.emit (.hostWrite q (c.base + 16 * (c.tail % max 1 c.size)) (cqeBytes e (s.nvSq q (partQ e.ring)).head (decide (c.tail < c.size))))

def State.cqDrain : Nat → State → Nat → Nat → State
  | 0, s, _, _ => s
  | k + 1, s, q, i =>
    let c := s.nvCq q i
    match c.holdback with
    | [] => s
    | e :: rest => if c.wait ∨ c.size ≤ c.used then s else State.cqDrain k ((s.modCq q i (fun x => { x with holdback := rest })).cqWrite q i e) q i

/-! ### What a command leaves behind -/

/-- A command has no descriptor of its own left. -/
def State.cmdQuiet (s : State) (stamp : Nat) : Bool :=
  s.dch.all (fun c => ((c.2.issued.map (·.d)) ++ (c.2.run.toList.map (·.d)) ++ c.2.q).all (fun d => match d.owner with | some (k, _) => k != stamp | none => true))

/-- The sector commands of a command are discarded: those that wait, those in FIFOs and TARGETs (ABORT, R205), those in the Churn (R149). -/
def State.abortSectors (s : State) (stamp : Nat) : State :=
  let mine := fun (c : SecCmd) => c.stamp == stamp && !c.write && (c.why == .host || c.why == .rebuild)
  let s : State := { s with sched := s.sched.filter (fun c => !mine c),
                            rebuilds := s.rebuilds.filter (fun r => match r.cmd with | some c => !(mine c) | none => true) }
  s.allChans.foldl (fun t n =>
    let c := t.ch n
    let hit := match c.target with | some x => mine x | none => false
    if !hit && !c.fifo.any mine && !c.sb.any (fun p => match p.2.cmd with | some x => mine x | none => false) then t
    else
      let off := fun (x : SecCmd) => if mine x then { x with aborted := true } else x
      let drops := fun (x : SlotRec) => match x.cmd with | some y => if mine y ∧ x.drop = 0 then { x with drop := 1 } else x | none => x
      let t : State := t.modCh n (fun c => { c with fifo := c.fifo.map off, target := c.target.map off, sb := c.sb.map (fun p => (p.1, drops p.2)) })
      if hit then t.sqEvent n evABORT else t) s

/-- The first row of R392: the target is aborted; sectors installed stay installed. -/
def State.abortCmd (s : State) (c : Cmd) : State :=
  let s : State := s.modCmd c.stamp (fun k => { k with aborted := true })
  ((s.abortDescs c.stamp).abortSectors c.stamp).returnReserved c

/-- The commands of a participant are aborted and their completions discarded (R386 PORT_DOWN, R365); their credits return. -/
def State.discardCmds (s : State) (p : Nat) : State :=
  (s.cmds.filter (fun c => c.origin == p)).foldl (fun t c =>
    let t : State := (t.abortCmd c).modCmd c.stamp (fun k => { k with origin := 2 ^ 32 })
    if p < nSR then t.modCr (t.sring p).cr (fun x => { x with credits := x.credits - 1 })
    else t.modCq (partPort p) (t.nvSq (partPort p) (partQ p)).cq (fun x => { x with credits := x.credits - 1 })) s

/-- CSTS.CFS of a controller (R386): its queues freeze and its commands end without a completion. -/
def State.ctrlFatal (s : State) (q : Nat) : State :=
  let s : State := s.modPrt q (fun p => { p with cfs := true, frozen := true })
  (tabKeys (s.prt q).sq).foldl (fun t i => t.discardCmds (nvPart q i)) s

/-- A command that ends with an error enters the Error Information log, of 64 entries (R366). -/
def State.logError (s : State) (q : Nat) (e : CqEnt) : State :=
  s.modPrt q (fun p => { p with errLog := ((65536 * partQ e.ring + e.cid, e.status, match p.errLog with | x :: _ => x.2.2 + 1 | [] => 1) :: p.errLog).take 64 })

/-- An entry for an NVMe completion queue; a fault fails the controller (R386). -/
def State.cqPut (s : State) (q i : Nat) (e : CqEnt) (ans : WrAns) : State :=
  let c := s.nvCq q i
  let s : State := if e.status = 0 then s else s.logError q e
  let hold : State := s.modCq q i (fun x => { x with holdback := x.holdback ++ [e] })
  if c.wait ∨ c.holdback ≠ [] ∨ c.size ≤ c.used then hold
  else match ans with
    | .ok => s.cqWrite q i e
    | .fault => s.ctrlFatal q
    | .pending => if s.priUsable q then (hold.modCq q i (fun x => { x with wait := true })).priAsk q none ((c.base + 16 * (c.tail % max 1 c.size)) / 4096) true (.comp (nvComp q i)) else s.ctrlFatal q

/-- A stamped command leaves: its hazard entry, Pails, reservation and unused sectors are free; a draining ring without commands is FREE (R394);
what waited for it goes on. -/
def State.cmdFree (s : State) (c : Cmd) : State :=
  let s : State := s.returnReserved c
  let s : State := { s with cmds := s.cmds.filter (fun k => k.stamp != c.stamp),
                            reng.ended := if c.origin = 2 ^ 32 then s.reng.ended else (c.origin, c.cid) :: s.reng.ended.filter (fun p => p != (c.origin, c.cid)) }
  let s : State := match c.obj with
    | some o => if c.op = .put ∧ c.installed = [] then s.objRelease o.extents else s
    | none => s
  let s : State := s.pailsFree (c.pails.map (·.2))
  let s : State := if s.cmds.length < 65536 then s.wb RE_STATUS_PAUSED false else s
  let s : State := if c.origin < nSR ∧ (s.sring c.origin).st = 4 ∧ s.cmds.all (fun k => k.origin != c.origin) then { s with sr := tabDel s.sr c.origin } else s
  s.objDurable.readAdvance.objAdvance

/-! ### When a command is finished (R361, R385, R402) -/

/-- A failure that ends a command's work; SHORT_BUFFER does not. -/
def Cmd.hard (c : Cmd) : Bool := c.fails.any (fun f => f != 0x26)

/-- Namespaces a FLUSH covers: its own, 0xFE every namespace, 0xFF every namespace and the objects (R361, R370, R405). -/
def flushCovers (ns k : Nat) : Bool := ns == 0xFF || (if ns = 0xFE then decide (k < 4) else k == ns)

/-- Every write a FLUSH covers is durable. -/
def State.flushDone (s : State) (c : Cmd) : Bool :=
  s.cmds.all (fun k => !(k.op.writes && decide (k.stamp < c.stamp) && k.origin != 2 ^ 32 && flushCovers c.ns k.ns && !k.aborted && !k.hard)
      || (if k.obj.isSome then k.installed != [] else k.installed.length == k.count))
    && s.dirty.all (fun d => !flushCovers c.ns d.ns || decide (c.stamp ≤ d.first))
    && (c.ns != 0xFF || s.obj.pend.all (fun e => decide (c.stamp ≤ e.stamp) || e.st == 2))

/-- A write is durable (R361 with FUA). -/
def State.writeDurable (s : State) (c : Cmd) : Bool :=
  (List.range c.count).all (fun i => s.dirty.all (fun d => d.x != s.cmdX c i || decide (c.stamp < d.first)))

/-- The command is finished: its completion entry may be written. -/
def State.cmdDone (s : State) (c : Cmd) : Bool :=
  if c.aborted then s.cmdQuiet c.stamp
  else match c.op with
    | .abort => true
    | .other => true
    | .flush => c.hard || s.flushDone c
    | .read | .compare => (c.hard && c.req == []) || (c.landed.length == c.count && s.cmdQuiet c.stamp)
    | .write | .zeroes => if c.hard then s.cmdQuiet c.stamp else c.installed.length == c.count && (!c.fua || s.writeDurable c)
    | .put | .delete =>
      (match c.obj with
       | some o => o.checked && (if c.hard then s.cmdQuiet c.stamp else c.installed != [] && (!c.fua || s.objIsDurable c.stamp))
       | none => true)
    | .get | .list =>
      (match c.obj with
       | some o => o.checked && c.req.all (fun r => c.landed.contains r) && s.cmdQuiet c.stamp
       | none => true)

/-- The order in which outcomes decide (R363, R407). -/
def precedence : List Nat := [4, 5, 0x28, 0x27, 0x20, 0x21, 0x22, 0x23, 0x24, 0x25, 0x101, 0x102, 0x103, 0x104, 0x0A, 6, 7, 8, 9, 0x100, 2, 3, 0x26]

/-- The status of a finished command (R380, R392). -/
def Cmd.status (c : Cmd) : Nat :=
  if c.aborted then 1
  else match precedence.find? (fun f => c.fails.contains f) with
    | some f => f
    | none => if c.op = .compare ∧ c.result = 1 then 0x100 else 0

/-- RESULT of a ring's completion (R379); left open where no rule states it. -/
def State.cmdResult (s : State) (c : Cmd) : State × Nat :=
  let st := c.status
  match c.op with
  | .read => (s, c.count - c.installed.length)
  | .write => (s, c.count - c.inPail.length)
  | .abort => if st = 0 then (s, c.result) else s.openResult 1
  | .put | .get | .delete | .list => if st = 0 ∨ st = 0x26 then (s, c.result) else s.openResult 32
  | _ => s.openResult 32

/-- COMMAND_FINISH (R383, R386, R389): a finished command's entry is written to its completion ring or goes to the holdback, its hazard entry frees. -/
def State.commandFinish (s : State) (stamp : Nat) (ans : WrAns) : State :=
  match s.cmd stamp with
  | none => s
  | some c =>
    if c.origin = 2 ^ 32 then (if (c.aborted || c.obj.isSome) && s.cmdDone c then s.cmdFree c else s)
    else if !s.cmdDone c then s
    else if c.origin < nSR then
      let cr := (s.sring c.origin).cr
      if !s.crTakes cr then s
      else
        let r := s.cmdResult c
        let e : CqEnt := { cid := c.cid, ring := c.origin, result := r.2, status := c.status, detail := if c.status = 6 then c.detail else 0, late := c.late }
        (r.1.crPut cr e ans).cmdFree c
    else
      let q := partPort c.origin
      let e : CqEnt := { cid := c.cid, ring := c.origin, result := 0, status := nvStatus c.status, detail := 0, late := c.late }
      (s.cqPut q (s.nvSq q (partQ c.origin)).cq e ans).cmdFree c

def execCommandFinish (stamp : BitVec 64) (ans : WrAns) (s : State) : Res := .next (s.commandFinish stamp.toNat ans)

/-! ### Aborts (R390 to R392) -/

/-- The row of R392 of a target: 0 aborted, 1 late, 2 already complete, 3 not found. `before` is the ABORT's stamp; an NVMe Abort has none. -/
def State.abortReach (s : State) (p cid : Nat) (before : Option Nat) : State × Nat :=
  match s.cmds.find? (fun c => c.origin == p && c.cid == cid && (match before with | some b => decide (c.stamp < b) | none => true)) with
  | some t =>
    let late := t.issued || t.op == .abort || t.op == .other || (t.op == .delete && t.installed != [])
    if late && !t.aborted then (s.modCmd t.stamp (fun k => { k with late := true }), 1) else (s.abortCmd t, 0)
  | none => (s, if s.reng.ended.contains (p, cid) then 2 else 3)

/-- An ABORT reaches its target (R390). -/
def State.abortRun (s : State) (c : Cmd) : State :=
  let r := s.abortReach c.target.1 c.target.2 (some c.stamp)
  if r.2 < 2 then r.1.modCmd c.stamp (fun k => { k with result := r.2 }) else r.1.cmdFail c.stamp r.2 0

/-! ### The claims of a fetch (R381) -/

/-- The outcomes under which no namespace is ready (R363, R488). -/
def State.notReady (s : State) : Bool :=
  !s.pwr.ready || s.sp == spFAILED || s.sp == spDISABLED || s.rf MOD_ADMIT_STATE 0 4 == 3 || s.rf MOD_ADMIT_STATE 0 5 == 3 || s.bootBad || s.purge.isSome
    || s.mode != modeService

def State.resvOf (s : State) (k : Nat) : Resv := tabGet .none s.resv k

/-- The reservation in force forbids a host's command (R364; the table of NVMe 2.0 for the six types, log 25). -/
def State.resvConflict (s : State) (k host : Nat) (write : Bool) : Bool :=
  let r := s.resvOf k
  let mine := r.holder == some host
  let reg := r.regs.any (fun x => x.host == host)
  match r.holder with
  | none => false
  | some _ => match r.type with
    | 1 => write && !mine
    | 2 => !mine
    | 3 => write && !reg
    | 4 => !reg
    | 5 => write && !reg
    | 6 => !reg
    | _ => false

/-- The host behind a port: its Host Identifier, or a host of its own while that is 0 (R364, log 25). -/
def State.hostOf (s : State) (q : Nat) : Nat := if s.feature q 0x81 = 0 then 2 ^ 128 + q else s.feature q 0x81

/-- What is decided at the stamp: readiness, reservation, range (R363, R364, R380). -/
def State.preFail (s : State) (c : Cmd) (nsOk : Bool) (host : Nat) : Option Nat :=
  let io := c.op == .read || c.op == .write || c.op == .zeroes || c.op == .compare || c.op == .flush
  if !io then none
  else if s.notReady then some 4
  else if (if c.ns < 4 then s.resvConflict c.ns host (c.op.writes || c.op == .flush)
      else c.op == .flush && (List.range s.nsCount).any (fun k => s.resvConflict k host true)) then some 5
  else if !nsOk then some (if nSR ≤ c.origin then 0x101 else 0x0A)
  else if c.op != .flush && decide (s.nsze < c.lba + c.count) then some 0x0A
  else none

/-- A reservation request is granted (R555). -/
def State.reserve (s : State) (p stamp n : Nat) : State := (s.modPool p (fun q => { q with reserved := tabSet q.reserved stamp n })).poolFell p

/-- A stamped command starts: its sources are taken, an ABORT reaches its target, the media wakes (R480). -/
def State.cmdStart (s : State) (stamp : Nat) : State :=
  match s.cmd stamp with
  | none => s
  | some c =>
    if c.fails ≠ [] then s
    else
      let s : State := match c.op with
        | .read | .compare => s.readAdvance
        | .abort => s.abortRun c
        | .put | .get | .delete | .list => s.objAdvance
        | _ => s
      let media := c.op.writes || (c.op.reads && s.sched.any (fun k => k.stamp == stamp)) || (c.op == .flush && s.dirty != [])
      if media then s.wake 0 else s

/-- Steps 3 to 6 of R381 for a command: false where a step fails; its turn has then ended. -/
def State.admitCmd (s : State) (c : Cmd) (nsOk : Bool) (host : Nat) : State × Bool :=
  let fail := fun (t : State) => (t.turnEnd c.origin, false)
  if 65536 ≤ s.cmds.length then fail ((s.wb RE_STATUS_PAUSED true).cnt RE_COUNT_PAUSES)
  else if c.op = .abort ∧ 64 ≤ s.cmds.countP (fun k => k.op == .abort) then fail s
  else
    let pre := match s.preFail c nsOk host with | some f => some f | none => c.fails.head?
    if pre.isNone && (c.op == .write || c.op == .zeroes) && decide (4096 ≤ s.openStripes.length) then fail s
    else
      let size := s.poolSize c.pool
      let need := if pre.isNone && (c.op == .write || (c.op == .read && decide (1 < c.count))) then (4096 * c.count + size - 1) / size else 0
      if need ≠ 0 ∧ s.poolCount c.pool = 0 then fail (s.noPool c.pool 33)
      else if need ≠ 0 ∧ s.poolFree c.pool < need then fail (s.countEmpty c.pool)
      else
        let st := s.newStamp
        let s : State := if need = 0 then st.1 else st.1.reserve c.pool st.2 need
        let s : State := { s with cmds := s.cmds ++ [{ c with stamp := st.2, fails := pre.toList }] }
        (s.cmdStart st.2, true)

/-- A command before its stamp. -/
def newCmd (origin cid : Nat) (op : CmdOp) : Cmd :=
  { stamp := 0, origin := origin, cid := cid, op := op, ns := 0, lba := 0, count := 0, xs := [], fua := false, port := 0, pasid := none, priOk := false,
    pool := 0, hlist := [], pails := [], req := [], inPail := [], moved := [], landed := [], installed := [], issued := false, aborted := false, late := false,
    fails := [], detail := 0, result := 0, target := (0, 0), obj := none }

end Sys2Proof.Machine
end

