-- ==== Sys2Proof/Machine/Rings.lean ====
section
/-! DEFINITION. Rings.lean: the submission and completion rings: fetch, prefetch, release, doorbells, page responses, ring operations, and the
dispatch of sector commands (16_miofoest_rings.md; 14_dma_translation.md R346). -/

namespace Sys2Proof.Machine
open Sys2Proof

/-! ### Fetching (R370 to R376, R381) -/

/-- The command of a ring entry. -/
def State.ringCmd (s : State) (n : Nat) (e : Entry) : Cmd :=
  let r := s.sring n
  let op := opOf e.opcode
  let obj := e.obj.map (fun o => { o with pasid := attrPasid r.attr })
  let xs := match obj with | some o => s.objXs op o | none => []
  { newCmd n e.cid op with
    ns := if obj.isSome then 0xF else if e.nsid = 0xFF then 0xFF else e.nsid - 1, lba := e.lba, count := e.count, xs := xs, fua := e.fua,
    port := attrPort r.attr, pasid := attrPasid r.attr, priOk := attrPri r.attr, pool := r.pool, hlist := e.list, target := e.target, obj := obj }

/-- NSID of an entry is in use (R357, R370). -/
def State.nsidOk (s : State) (e : Entry) : Bool := decide (1 ≤ e.nsid ∧ e.nsid ≤ s.nsCount) || (e.opcode == 0x03 && e.nsid == 0xFF)

/-- HEAD passes an entry, which queues for its release (R374). -/
def State.passEntry (s : State) (n units len : Nat) : State :=
  s.modSr n (fun r => { r with head := (r.head + units) % r.n, full := false, release := r.release ++ [16 * r.head + len],
                               copies := r.copies.filter (fun c => c.1 != r.head) })

/-- The entry at HEAD is checked in the order OWN, coverage, format, end of the ring, PAD (R370 to R376); a PAD is passed over, a command is claimed
and stamped (R381). -/
def State.entryTake (s : State) (n : Nat) (bs : List Byte) : State :=
  let r := s.sring n
  let units := entryUnits bs
  let cid := fieldAt bs 4 4
  if !entryOwn bs then s.entryFrozen n 0x04 0 cid
  else if r.covered < units then s.turnEnd n
  else match parseEntry bs with
    | none => s.entryFrozen n 0x01 0 cid
    | some e =>
      if r.n < r.head + units then s.entryFrozen n 0x02 0 cid
      else if e.opcode = 0 then
        (if r.head + units = r.n then s.passEntry n units (units - 1) else s.entryFrozen n 0x03 0 cid)
      else
        let x := s.admitCmd (s.ringCmd n e) (s.nsidOk e) (s.hostOf (attrPort r.attr))
        if x.2 then ((x.1.modCr r.cr (fun c => { c with credits := c.credits + 1 })).passEntry n units (units - 1)).turnCount n
        else x.1

/-- The fetch waits for a page: the ring is PARKED and skipped, its turns intact (R389). -/
def State.parkRing (s : State) (n : Nat) : State :=
  let r := s.sring n
  let unused := s.reng.turn == some (n, 0)
  let s : State := s.modSr n (fun x => { x with st := 2 })
  let s : State := if unused then { s with reng.turns := tabSet s.reng.turns n (s.turnsLeft n + 1) } else s
  (s.turnEnd n).priAsk (attrPort r.attr) (attrPasid r.attr) ((r.base + 16 * r.head) / 4096) false (.fetch n)

/-- Step 2 of R381: the entry comes from the prefetch copy or from the host; R386 names the freeze of a failed read. -/
def State.fetchEntry (s : State) (n : Nat) (ans : FetchAns) : State :=
  let r := s.sring n
  if (attrPasid r.attr).isSome && !(s.prt (attrPort r.attr)).pasid then s.entryFrozen n 0x07 0 0
  else match tabFind r.copies r.head with
    | some bs => s.entryTake n bs
    | none => match ans with
      | .entry bs => s.entryTake n bs
      | .pending => if attrPri r.attr && s.priUsable (attrPort r.attr) then s.parkRing n else s.entryFrozen n 0x07 0 0
      | .fault => s.entryFrozen n 0x07 0 0
      | .ur => s.entryFrozen n 0x06 2 0
      | .ca => s.entryFrozen n 0x06 3 0
      | .timeout => s.entryFrozen n 0x06 4 0
      | .poisoned => s.entryFrozen n 0x06 5 0

/-- FETCH (R381, R382): the ring that holds the turn fetches. An NVMe queue that holds it fetches by its command's own row, and a fetch of it that
fails makes its controller fatal (R386). -/
def State.fetch (s : State) (ans : FetchAns) : State :=
  match s.nextTurn with
  | some (t, p) => if p < nSR then t.fetchEntry p ans else match ans with | .entry _ => s | _ => t.ctrlFatal (partPort p)
  | none => s

def execFetch (ans : FetchAns) (s : State) : Res := .next (s.fetch ans)

/-- An entry of ring n, written out, is fetched: where n holds the turn, and the entry is one of at most 16 units. -/
def State.ringEntry (s : State) (n units : Nat) (bs : List Byte) : State :=
  match s.nextTurn with
  | some (t, p) => if p = n ∧ units ≤ 16 then
      (({ t with sr := tabMod .free t.sr n (fun r => { r with copies := r.copies.filter (fun c => c.1 != r.head) }) } : State).fetchEntry n (.entry bs)) else s
  | none => s

/-- PAD (R372, R374). -/
def execPad (n : BitVec 20) (len : BitVec 4) (s : State) : Res := .next (s.ringEntry n.toNat (len.toNat + 1) (entryBytes 0 (len.toNat + 1) false 0 0 0 []))

/-- READ, WRITE (R371). -/
def execRead (n : BitVec 20) (nsid : BitVec 8) (cid : BitVec 32) (lba : BitVec 48) (count : BitVec 32) (list : List (BitVec 64 × BitVec 32)) (s : State) : Res :=
  .next (s.ringEntry n.toNat (2 + list.length) (moveEntry 0x01 false nsid.toNat cid.toNat lba.toNat count.toNat (operandList list)))

def execWrite (n : BitVec 20) (nsid : BitVec 8) (cid : BitVec 32) (lba : BitVec 48) (count : BitVec 32) (fua : Bool) (list : List (BitVec 64 × BitVec 32))
    (s : State) : Res :=
  .next (s.ringEntry n.toNat (2 + list.length) (moveEntry 0x02 fua nsid.toNat cid.toNat lba.toNat count.toNat (operandList list)))

/-- FLUSH (R361, R371). -/
def execFlush (n : BitVec 20) (nsid : BitVec 8) (cid : BitVec 32) (s : State) : Res :=
  .next (s.ringEntry n.toNat 1 (entryBytes 0x03 1 false nsid.toNat cid.toNat 0 []))

/-- WRITE_ZEROES (R371). -/
def execWriteZeroes (n : BitVec 20) (nsid : BitVec 8) (cid : BitVec 32) (lba : BitVec 48) (count : BitVec 32) (fua : Bool) (s : State) : Res :=
  .next (s.ringEntry n.toNat 2 (entryBytes 0x04 2 fua nsid.toNat cid.toNat lba.toNat (leBytes 4 count.toNat ++ leBytes 12 0)))

/-- ABORT (R390, R392). -/
def execAbort (n : BitVec 20) (cid : BitVec 32) (ring : BitVec 20) (target : BitVec 32) (s : State) : Res :=
  .next (s.ringEntry n.toNat 2 (entryBytes 0x08 2 false 0 cid.toNat 0 (leBytes 4 ring.toNat ++ leBytes 4 target.toNat ++ leBytes 8 0)))

/-- PUT (17_object_service.md R399, R403). -/
def execPut (n : BitVec 20) (cid : BitVec 32) (fua : Bool) (space : BitVec 8) (key : List Byte) (oflags : BitVec 16) (len arg : BitVec 32)
    (list : List (BitVec 64 × BitVec 32)) (s : State) : Res :=
  .next (s.ringEntry n.toNat (2 + (key.length + 15) / 16 + list.length)
    (objectEntry 0x40 fua cid.toNat space.toNat key oflags.toNat len.toNat arg.toNat (operandList list)))

/-- GET (R403). -/
def execGet (n : BitVec 20) (cid : BitVec 32) (space : BitVec 8) (key : List Byte) (oflags : BitVec 16) (arg : BitVec 32)
    (list : List (BitVec 64 × BitVec 32)) (s : State) : Res :=
  .next (s.ringEntry n.toNat (2 + (key.length + 15) / 16 + list.length)
    (objectEntry 0x41 false cid.toNat space.toNat key oflags.toNat 0 arg.toNat (operandList list)))

/-- DELETE (R403). -/
def execDelete (n : BitVec 20) (cid : BitVec 32) (fua : Bool) (space : BitVec 8) (key : List Byte) (oflags : BitVec 16) (arg : BitVec 32) (s : State) : Res :=
  .next (s.ringEntry n.toNat (2 + (key.length + 15) / 16) (objectEntry 0x42 fua cid.toNat space.toNat key oflags.toNat 0 arg.toNat []))

/-- LIST (R401). -/
def execList (n : BitVec 20) (cid : BitVec 32) (space : BitVec 8) (key : List Byte) (cursor : BitVec 32) (list : List (BitVec 64 × BitVec 32))
    (s : State) : Res :=
  .next (s.ringEntry n.toNat (2 + (key.length + 15) / 16 + list.length)
    (objectEntry 0x43 false cid.toNat space.toNat key 0 0 cursor.toNat (operandList list)))

/-! ### Prefetch (R384) -/

/-- Units a copy takes in the prefetch store. -/
def copyUnits (r : SubRing) : Nat := (r.copies.map (fun c => entryUnits c.2)).sum

/-- The store holds 16,384 units: the copies of the participant whose turn lies furthest ahead go first. -/
def State.prefetchRoom (s : State) : State :=
  let total := fun (t : State) => (t.sr.map (fun p => copyUnits p.2)).sum
  let order := afterPtr s.reng.ptr (tabKeys (s.sr.filter (fun p => p.2.copies != [])))
  order.reverse.foldl (fun t n => if 16384 < total t then t.modSr n (fun r => { r with copies := [] }) else t) s

/-- PREFETCH (R384, R389): the entry whose header lies at `unit` is read ahead; beyond TAIL at most PREFETCH entries, and only with OWN = 1. -/
def State.prefetch (s : State) (n unit : Nat) (ans : FetchAns) : State :=
  let r := s.sring n
  let off := (r.n + unit - r.head) % r.n
  let beyond := decide (r.covered ≤ off)
  let spec := r.copies.countP (fun c => decide (r.covered ≤ (r.n + c.1 - r.head) % r.n))
  if !s.srEligible n || decide (r.n ≤ unit) || (beyond && decide (attrPrefetch r.attr ≤ spec)) then s
  else match ans with
    | .entry bs => if beyond && !entryOwn bs then s else (s.modSr n (fun x => { x with copies := tabSet x.copies unit bs })).prefetchRoom
    | _ => s

def execPrefetch (n : BitVec 20) (unit : BitVec 16) (ans : FetchAns) (s : State) : Res := .next (s.prefetch n.toNat unit.toNat ans)

/-! ### Release (R374, R389) -/

/-- ENTRY_RELEASE_WRITE: the oldest entry passed is released by writing its byte 1 with OWN = 0; a write that waits for a page holds the later ones. -/
def State.releaseWrite (s : State) (n : Nat) (ans : WrAns) : State :=
  let r := s.sring n
  match r.release with
  | [] => s
  | x :: rest =>
    if r.held then s
    else
      let a := r.base + 16 * (x / 16) + 1
      match ans with
      | .ok => (s.modSr n (fun y => { y with release := rest })).emit (.hostWrite (attrPort r.attr) a (leBytes 1 (x % 16)))
      | .pending =>
        if s.priUsable (attrPort r.attr) then (s.modSr n (fun y => { y with held := true })).priAsk (attrPort r.attr) (attrPasid r.attr) (a / 4096) true (.release n)
        else s.freezeRing n 0x08 0 0
      | .fault => s.freezeRing n 0x08 0 0

def execEntryReleaseWrite (n : BitVec 20) (ans : WrAns) (s : State) : Res := .next (s.releaseWrite n.toNat ans)

/-! ### Page responses (14_dma_translation.md R346; 16_miofoest_rings.md R389) -/

/-- A waiter's page has come. -/
def State.pageOk (s : State) (w : PriWho) : State :=
  match w with
  | .chan _ => s
  | .fetch n => if (s.sring n).st = 2 then s.modSr n (fun r => { r with st := 1 }) else s
  | .release n => s.modSr n (fun r => { r with held := false })
  | .comp c =>
    if c < nCR then State.crDrain 128 (s.modCr c (fun r => { r with wait := false })) c
    else
      let q := (c - nCR) / 1025
      let i := (c - nCR) % 1025
      State.cqDrain 128 (s.modCq q i (fun x => { x with wait := false })) q i

/-- A waiter's page will not come: PRI_INVALID 7, PRI_FAILURE 8, PRI_TIMEOUT 9. -/
def State.pageBad (s : State) (src : Nat) (w : PriWho) : State :=
  match w with
  | .chan id => s.priFail id src
  | .fetch n => if (s.sring n).st = 2 then s.freezeRing n 0x07 0 0 else s
  | .release n => (s.modSr n (fun r => { r with held := false })).freezeRing n 0x08 0 0
  | .comp c => if c < nCR then (s.modCr c (fun r => { r with wait := false })).freezeCr c 0x09 else s.ctrlFatal ((c - nCR) / 1025)

/-- The page request of a group ends. -/
def State.priEnd (s : State) (port group : Nat) : State × Option PageReq :=
  match s.dtu.pri.find? (fun p => p.port == port && p.group == some group) with
  | some p => ({ s with dtu.pri := s.dtu.pri.erase p }, some p)
  | none => (s, none)

/-- PRG_RESPONSE (R346): a Response Failure stops the port's page requests. -/
def State.prgResponse (s : State) (port group : Nat) (code : PrgCode) : State :=
  let r := s.priEnd port group
  match r.2 with
  | none => s
  | some p => match code with
    | .success => p.who.foldl (fun t w => t.pageOk w) (r.1.rejoin (whoChans p.who))
    | .invalid => p.who.foldl (fun t w => t.pageBad 7 w) r.1
    | .failure => p.who.foldl (fun t w => t.pageBad 8 w) (r.1.modPrt port (fun x => { x with respFail := true }))

def execPrgResponse (port : Fin 2) (group : BitVec 9) (code : PrgCode) (s : State) : Res := .next (s.prgResponse port.val group.toNat code)

/-- PRI_TIMEOUT (R346). -/
def execPriTimeout (port : Fin 2) (group : BitVec 9) (s : State) : Res :=
  .next (match (s.priEnd port.val group.toNat).2 with
    | none => s
    | some p => p.who.foldl (fun t w => t.pageBad 9 w) (s.priEnd port.val group.toNat).1)

/-! ### Doorbells (R375, R377, R378, R383) -/

/-- SR_DOORBELL (R375, R377): TAIL is bits [15:0]; with TAIL = HEAD the ring is full where the slot at HEAD has OWN = 1. -/
def State.srDoorbell (s : State) (n tail : Nat) (headOwn : Bool) : State :=
  let r := s.sring n
  if r.st = 1 ∨ r.st = 2 then
    if r.n ≤ tail then s.freezeRing n 0x05 0 0 else s.modSr n (fun x => { x with tail := tail, full := tail == x.head && headOwn })
  else if r.st = 3 then s.modSr n (fun x => { x with tail := tail, full := tail == x.head && headOwn })
  else { s with dropped := s.dropped + 1 }

def execSrDoorbell (n : BitVec 20) (v : Word) (headOwn : Bool) (s : State) : Res := .next (s.srDoorbell n.toNat (v.toNat % 65536) headOwn)

/-- CR_HEAD_DOORBELL (R378, R383): HEAD in bits [15:0], LAP in bit 16; entries consumed return their credits and the holdback drains. -/
def State.crDoorbell (s : State) (c v : Nat) : State :=
  let r := s.cring c
  let s : State := { s with crDoor := tabSet s.crDoor c (v % 2 ^ 17) }
  if r.st = 0 then s
  else
    let h := v % 65536 + v / 65536 % 2 * r.n
    let freed := (2 * r.n + h - r.head) % (2 * r.n)
    if r.n ≤ v % 65536 ∨ r.used < freed then s.freezeCr c 0x0D
    else State.crDrain 128 (s.modCr c (fun x => { x with head := h, credits := x.credits - freed })) c

def execCrHeadDoorbell (c : BitVec 18) (v : Word) (s : State) : Res := .next (s.crDoorbell c.toNat v.toNat)

/-- CR_VECTOR_SIGNAL (R379). -/
def execCrVectorSignal (c : BitVec 18) (s : State) : Res :=
  let r := s.cring c.toNat
  .next (if r.signal then (s.modCr c.toNat (fun x => { x with signal := false })).emit (.port (attrPort r.attr) "MSI-X" r.vector) else s)

/-- SECTOR_INSTALL (R385, R402): sector i of a write is installed once its data is in its Pail and its hazards are resolved; of an object command,
its change of the bucket. -/
def State.sectorInstall (s : State) (stamp i : Nat) : State :=
  match s.cmd stamp with
  | none => s
  | some c =>
    match c.obj with
    | some o =>
      if !s.objMayInstall c o then s
      else if s.moveStale c o then (s.modCmd stamp (fun k => { k with aborted := true })).commandFinish stamp .ok
      else s.objInstall c o
    | none => if (c.op = .write ∨ c.op = .zeroes) ∧ i < c.count ∧ !c.aborted ∧ s.mayInstall c i then (s.install c i).objAdvance else s

def execSectorInstall (stamp : BitVec 64) (i : BitVec 16) (s : State) : Res := .next (s.sectorInstall stamp.toNat i.toNat)

/-! ### Ring operations (R388, R394) -/

/-- RESULT codes of R394. -/
def rqOK : Nat := 0
def rqBAD_RING : Nat := 1
def rqIN_USE : Nat := 2
def rqNOT_FROZEN : Nat := 3
def rqBOUND : Nat := 4
def rqBAD_PARAM : Nat := 5
def rqNO_CR : Nat := 6

def State.rqRing (s : State) (j : Nat) : Nat := s.rf RQ_SEL_RING 0 j
def State.rqIsCr (s : State) (j : Nat) : Bool := s.rb RQ_SEL_CR 0 j
def State.rqDone (s : State) (j result : Nat) : State := s.wf RQ_STATUS_RESULT result 0 j

/-- The ring number is beyond the range of its kind. -/
def State.rqBad (s : State) (j : Nat) : Bool := s.rqIsCr j && decide (nCR ≤ s.rqRing j)

/-- The staged values of set j are out of range (R369, R394). -/
def State.rqParamBad (s : State) (j : Nat) : Bool :=
  let sz := s.rf RQ_CFG_SIZE_LOG2 0 j
  let a := s.rf RQ_ATTR_ATTR 0 j
  decide (sz < 6 ∨ 16 < sz) || s.rf RQ_BASE_LO_BASE 0 j % 4096 != 0 || (!s.rqIsCr j && decide (8 < attrPrefetch a))
    || ((attrPasid a).isSome && !(s.prt (attrPort a)).pasid) || (s.rqIsCr j && decide (2047 < s.rf RQ_BIND_TARGET 0 j))

def State.rqBase (s : State) (j : Nat) : Nat := s.rf RQ_BASE_LO_BASE 0 j + 2 ^ 32 * s.rf RQ_BASE_HI_BASE 0 j

/-- RQ_CREATE (R394). -/
def State.rqCreate (s : State) (j : Nat) : State :=
  let n := s.rqRing j
  let inUse := if s.rqIsCr j then (s.cring n).st != 0 else (s.sring n).st != 0
  if s.rqBad j then s.rqDone j rqBAD_RING
  else if inUse then s.rqDone j rqIN_USE
  else if s.rqParamBad j then s.rqDone j rqBAD_PARAM
  else if s.rqIsCr j then
    let r : CompRing := { CompRing.free with st := 1, base := s.rqBase j, attr := s.rf RQ_ATTR_ATTR 0 j, size := s.rf RQ_CFG_SIZE_LOG2 0 j,
                                             vector := s.rf RQ_BIND_TARGET 0 j, irq := s.rb RQ_BIND_IRQ_EN 0 j }
    ({ s with cr := tabSet s.cr n r } : State).rqDone j rqOK
  else if (s.cring (s.rf RQ_BIND_TARGET 0 j)).st ≠ 1 then s.rqDone j rqNO_CR
  else
    let r : SubRing := { SubRing.free with st := 1, base := s.rqBase j, attr := s.rf RQ_ATTR_ATTR 0 j, cr := s.rf RQ_BIND_TARGET 0 j,
                                           size := s.rf RQ_CFG_SIZE_LOG2 0 j, pool := s.rf RQ_CFG_POOL 0 j,
                                           weight := max 1 (s.rf RQ_CFG_WEIGHT 0 j), burst := s.rf RQ_CFG_BURST 0 j + 1 }
    ({ s with sr := tabSet s.sr n r } : State).rqDone j rqOK

def execRqCreate (set : Fin 2) (s : State) : Res := .next (s.rqCreate set.val)

/-- RQ_DELETE (R384, R394): a submission ring drains, then is FREE; a completion ring goes once no ring is bound to it. -/
def State.rqDelete (s : State) (j : Nat) : State :=
  let n := s.rqRing j
  if s.rqBad j then s.rqDone j rqBAD_RING
  else if s.rqIsCr j then
    (if s.sr.any (fun p => p.2.cr == n && p.2.st != 0) then s.rqDone j rqBOUND else (({ s with cr := tabDel s.cr n } : State).priDrop (.comp n)).rqDone j rqOK)
  else if (s.sring n).st = 0 then s.rqDone j rqOK
  else
    let s : State := ((s.modSr n (fun r => { r with st := 4, copies := [] })).priDrop (.fetch n)).turnEnd n
    let s : State := if s.cmds.all (fun k => k.origin != n) then { s.priDrop (.release n) with sr := tabDel s.sr n } else s
    s.rqDone j rqOK

def execRqDelete (set : Fin 2) (s : State) : Res := .next (s.rqDelete set.val)

/-- A restart clears the Error Log and makes the ring ACTIVE (R388). -/
def State.rqActive (s : State) (n : Nat) : State :=
  s.modSr n (fun r => { r with st := 1, code := 0, cid := 0, errHead := 0, detail := 0, errStamp := 0 })

/-- RQ_RESTART (R388): with SKIP the entry at HEAD is released without execution, a command with a SKIPPED completion, for which a restart waits until
a credit is free. -/
def State.rqRestart (s : State) (j : Nat) (bs : List Byte) : State :=
  let n := s.rqRing j
  let s : State := s.wb RQ_CTRL_RESTART false 0 j
  if s.rqBad j then s.rqDone j rqBAD_RING
  else if s.rqIsCr j then
    let r := s.cring n
    if r.st ≠ 3 ∨ r.code = 0x0C then s.rqDone j rqNOT_FROZEN
    else (State.crDrain 128 (s.modCr n (fun x => { x with st := 1, code := 0, detail := 0, errHead := 0, errStamp := 0, wait := false })) n).rqDone j rqOK
  else
    let r := s.sring n
    if r.st ≠ 3 ∨ r.code = 0x0C then s.rqDone j rqNOT_FROZEN
    else if !s.rb RQ_CTRL_SKIP 0 j ∨ r.covered = 0 then (s.rqActive n).rqDone j rqOK
    else
      let units := min (entryUnits bs) (r.n - r.head)
      let c := s.cring r.cr
      if byteOf bs 0 = 0 then ((s.rqActive n).passEntry n units (entryUnits bs - 1)).rqDone j rqOK
      else if c.st ≠ 1 ∨ c.n + 64 ≤ c.credits then s.wb RQ_CTRL_RESTART true 0 j
      else (((s.rqActive n).passEntry n units (entryUnits bs - 1)).unstamped n 0x0C 0 (fieldAt bs 4 4)).rqDone j rqOK

def execRqRestart (set : Fin 2) (entry : List Byte) (s : State) : Res := .next (s.rqRestart set.val entry)

/-- RQ_FREEZE (R386, R394): the selected ring freezes with SOFTWARE, and the rings bound to a selected completion ring with CQ_FROZEN. -/
def State.rqFreeze (s : State) (j : Nat) : State :=
  if s.rqBad j then s.rqDone j rqBAD_RING
  else (if s.rqIsCr j then s.freezeCr (s.rqRing j) 0x0A else s.freezeRing (s.rqRing j) 0x0A 0 0).rqDone j rqOK

def execRqFreeze (set : Fin 2) (s : State) : Res := .next (s.rqFreeze set.val)

/-- RQ_UPDATE (R394): WEIGHT, BURST and PREFETCH at the ring's next turn. -/
def State.rqUpdate (s : State) (j : Nat) : State :=
  let n := s.rqRing j
  let f := attrPrefetch (s.rf RQ_ATTR_ATTR 0 j)
  if s.rqBad j then s.rqDone j rqBAD_RING
  else if s.rqIsCr j then s
  else if 8 < f then s.rqDone j rqBAD_PARAM
  else if (s.sring n).st = 1 ∨ (s.sring n).st = 2 then
    (s.modSr n (fun r => { r with upd := some (max 1 (s.rf RQ_CFG_WEIGHT 0 j), s.rf RQ_CFG_BURST 0 j + 1, f) })).rqDone j rqOK
  else s

def execRqUpdate (set : Fin 2) (s : State) : Res := .next (s.rqUpdate set.val)

/-! ### Sector commands to the channels (R393, R186) -/

/-- The other pivot's head on the same surface. -/
def State.twin (s : State) (a h : Nat) : Option (Nat × Nat) :=
  match s.part with | .a44 => some (headOfSurface (1 - a / 2) (surfaceOf a h)) | .a22 => none

/-- A read whose head is withdrawn, retired or in HOLDOVER goes to the other pivot where that can read now. -/
def State.readTwin (s : State) (c : SecCmd) : SecCmd :=
  if c.write || s.headReads c.act c.head then c
  else match s.twin c.act c.head with
    | some (a, h) => if s.headReads a h then { c with act := a, head := h } else c
    | none => c

/-- Data bits from position `at_` of the track to the start of a command's slot. -/
def State.arrival (s : State) (at_ : Nat) (c : SecCmd) : Nat :=
  let per := dataPerTrack (s.zn ((s.zoneOf c.cyl).getD 39) 4)
  if per = 0 then 0 else (36992 * c.pslot + per - at_ % per) % per

def insertBy (lt : SecCmd → SecCmd → Bool) (a : SecCmd) : List SecCmd → List SecCmd
  | [] => [a]
  | b :: r => if lt a b then a :: b :: r else b :: insertBy lt a r

/-- A slot that dispatch may use: enabled, its channel neither retired (R521) nor withdrawn (R132). -/
def State.slotUsable (s : State) (n : Nat) : Bool := decide (n % 8 < s.par 0x4000 (n / 8 + 1)) && !(s.ch n).retired && !(s.ch n).withdrawn

/-- A command goes to its head's FIFO; a head with no slot is mapped to the lowest free one, and a head the seek did not take is jogged to. -/
def State.dispatchOne (s : State) (a : Nat) (heads : List Nat) (c : SecCmd) : State :=
  match s.headChan a c.head with
  | some n =>
    if !s.slotUsable n then s
    else if heads.contains c.head then
      (if (s.ch n).fifo.length < 8 then { s.modCh n (fun x => { x with fifo := x.fifo ++ [c] }) with sched := s.sched.erase c } else s)
    else s.headJog a c.head c.write
  | none =>
    match (chansOf a).find? (fun n => s.slotUsable n && s.slotHead n == 0xF) with
    | some n => s.slotMap a (n % 8) c.head
    | none => (match (chansOf a).find? (fun n => s.slotUsable n && (s.ch n).target == none && (s.ch n).fifo == []) with
      | some n => s.slotMap a (n % 8) c.head
      | none => s)

/-- The lowest-stamped command of a list. -/
def firstStamp (l : List SecCmd) : Option SecCmd :=
  l.foldl (fun b c => match b with | some x => if c.stamp < x.stamp then some c else some x | none => some c) none

/-- SECTOR_DISPATCH (R393): the pending commands of an actuator within its anchor's reach go to the FIFOs in order of rotational arrival, the lower stamp
first on a tie; with none in reach and its channels idle a seek is requested for the oldest (log 39). `at_` is the data bit now under the heads. -/
def State.dispatch (s : State) (a at_ : Nat) : State :=
  let s : State := { s with sched := s.sched.map (fun c => if c.act = a then s.readTwin c else c) }
  let mine := s.sched.filter (fun c => c.act == a)
  let lt := fun (x y : SecCmd) => let p := s.arrival at_ x; let q := s.arrival at_ y; decide (p < q) || (p == q && decide (x.stamp < y.stamp))
  let here : List SecCmd × List Nat := match (s.sv a).seek with
    | some k => if s.act a = acFOLLOW ∨ s.act a = acSETTLE then (mine.filter (fun c => c.cyl == k.cyl), k.heads.map Prod.fst) else ([], [])
    | none => ([], [])
  if here.1 ≠ [] then (here.1.foldl (fun l c => insertBy lt c l) []).foldl (fun t c => t.dispatchOne a here.2 c) s
  else if (s.act a = acFOLLOW ∨ s.act a = acSETTLE) ∧ (chansOf a).all (fun n => (s.ch n).target == none && (s.ch n).fifo == []) then
    match firstStamp mine with
    | none => s
    | some c =>
      let there := mine.filter (fun x => x.cyl == c.cyl)
      s.seekReq a c.cyl (maskOf (there.map (·.head))) (maskOf ((there.filter (·.write)).map (·.head)))
  else s

def execSectorDispatch (a : Act) (at_ : BitVec 32) (s : State) : Res := .next (s.dispatch a.val at_.toNat)

end Sys2Proof.Machine
end

