-- ==== Sys2Proof/Machine/Nvme.lean ====
section
/-! DEFINITION. Nvme.lean: the PCIe ports and the NVMe controllers (15_nvme_ports.md). Formats and codes that the rules take from NVMe 2.0 follow that
specification (log 25); a command's fields, its data pointer as a host list, and its verdicts are operands (log 26). -/

namespace Sys2Proof.Machine
open Sys2Proof

/-! ### Bytes for the host -/

/-- Bytes go to a host list, element by element. -/
def State.hostPut (s : State) (q : Nat) : List (Nat × Nat) → List Byte → State
  | [], _ => s
  | (a, l) :: r, bs => if bs = [] then s else State.hostPut (s.emit (.hostWrite q a (bs.take l))) q r (bs.drop l)

/-- n bytes that no rule states (log 1). -/
def State.freeBytes (s : State) (n : Nat) : State × List Byte := (s.useFree, (List.range n).map (Config.mediaByte s.free))

/-- Field bytes laid over a page from byte o on. -/
def overlay (bs : List Byte) (p : Nat × List Byte) : List Byte := bs.take p.1 ++ p.2 ++ bs.drop (p.1 + p.2.length)

/-- A page of n bytes whose stated fields are given; the other bytes are left open. -/
def State.page (s : State) (n : Nat) (fs : List (Nat × List Byte)) : State × List Byte := (s.freeBytes n |>.1, fs.foldl overlay (s.freeBytes n).2)

/-- A page whose other bytes are 0. -/
def zeroPage (n : Nat) (fs : List (Nat × List Byte)) : List Byte := fs.foldl overlay (List.replicate n 0)

/-! ### Admin commands -/

/-- The completion of an admin command: SCT and SC as 256 * SCT + SC, Dword 0. -/
def State.adminDone (s : State) (q cid status dword0 : Nat) : State :=
  s.cqPut q 0 { cid := cid, ring := nvPart q 0, result := dword0, status := status, detail := 0, late := false } .ok

/-- An admin command is fetched when its queue holds the turn (R360, R382), and completes with the status and Dword 0 it gives, or later. While a
switch-over runs, admin commands are held in their queue (23_security_maintenance.md R517). -/
def State.adminRun (s : State) (q cid : Nat) (f : State → State × Option (Nat × Nat)) : State :=
  if s.sec.sw.isSome then s
  else match s.nextTurn with
    | some (t, p) =>
      if p = nvPart q 0 then
        let t : State := t.modSq q 0 (fun x => { x with head := (x.head + 1) % max 1 x.size })
        let r := f ((t.modCq q 0 (fun x => { x with credits := x.credits + 1 })).turnCount p)
        match r.2 with
        | some (st, d) => r.1.adminDone q cid st d
        | none => r.1
      else s
    | none => s

def ok0 (s : State) : State × Option (Nat × Nat) := (s, some (0, 0))
def fail0 (s : State) (st : Nat) : State × Option (Nat × Nat) := (s, some (st, 0))

/-- In Recovery, beside the queues, only Identify, Get Log Page 0x03 and Firmware Download and Commit are served (23_security_maintenance.md R514). -/
def State.recoveryStops (s : State) : Bool := s.mode == modeRecovery

/-- Status codes (log 25): SCT 0 Invalid Command Opcode, Invalid Field, Namespace Not Ready, Invalid Namespace; SCT 1 Completion Queue Invalid, Invalid
Queue Identifier, Invalid Queue Size, Abort and Event Limits, Invalid Interrupt Vector, Invalid Log Page, Invalid Queue Deletion. -/
def scOPCODE : Nat := 0x001
def scFIELD : Nat := 0x002
def scABORTED : Nat := 0x007
def scINTERNAL : Nat := 0x006
def scNAMESPACE : Nat := 0x00B
def scSEQUENCE : Nat := 0x00C
def scNOTREADY : Nat := 0x082
def scCQ : Nat := 0x100
def scQID : Nat := 0x101
def scQSIZE : Nat := 0x102
def scAER : Nat := 0x105
def scVECTOR : Nat := 0x108
def scLOG : Nat := 0x109
def scQDELETE : Nat := 0x10C

/-- NVME_CREATE_IO_CQ (R355, R356): 0-based size up to 4,095, contiguous. -/
def State.createCq (s : State) (q qid size vector base : Nat) (pc : Bool) : State × Option (Nat × Nat) :=
  if qid = 0 ∨ 1024 < qid ∨ (s.nvCq q qid).size ≠ 0 then fail0 s scQID
  else if size = 0 ∨ 4095 < size then fail0 s scQSIZE
  else if 1024 < vector then fail0 s scVECTOR
  else if !pc then fail0 s scFIELD
  else ok0 (s.modCq q qid (fun _ => { NvCq.none with base := base, size := size + 1, vector := vector }))

def execNvmeCreateIoCq (q : Fin 2) (cid qid size : BitVec 16) (pc : Bool) (vector : BitVec 16) (base : BitVec 64) (s : State) : Res :=
  .next (s.adminRun q.val cid.toNat (fun t => t.createCq q.val qid.toNat size.toNat vector.toNat base.toNat pc))

/-- NVME_CREATE_IO_SQ (R355, R356). -/
def State.createSq (s : State) (q qid size prio cqid base pool : Nat) (pc : Bool) : State × Option (Nat × Nat) :=
  if qid = 0 ∨ 1024 < qid ∨ (s.nvSq q qid).size ≠ 0 then fail0 s scQID
  else if size = 0 ∨ 4095 < size then fail0 s scQSIZE
  else if cqid = 0 ∨ 1024 < cqid then fail0 s scQID
  else if (s.nvCq q cqid).size = 0 then fail0 s scCQ
  else if !pc then fail0 s scFIELD
  else ok0 (s.modSq q qid (fun _ => { NvSq.none with base := base, cq := cqid, size := size + 1, prio := prio, pool := pool }))

def execNvmeCreateIoSq (q : Fin 2) (cid qid size : BitVec 16) (pc : Bool) (prio : Fin 4) (cqid : BitVec 16) (base : BitVec 64) (pool : Fin 16)
    (s : State) : Res :=
  .next (s.adminRun q.val cid.toNat (fun t => t.createSq q.val qid.toNat size.toNat prio.val cqid.toNat base.toNat pool.val pc))

/-- NVME_DELETE_IO_SQ (R356): its commands are aborted and leave no completion. -/
def State.deleteSq (s : State) (q qid : Nat) : State × Option (Nat × Nat) :=
  if qid = 0 ∨ (s.nvSq q qid).size = 0 then fail0 s scQID
  else ok0 (((s.discardCmds (nvPart q qid)).turnEnd (nvPart q qid)).modPrt q (fun p => { p with sq := tabDel p.sq qid }))

def execNvmeDeleteIoSq (q : Fin 2) (cid qid : BitVec 16) (s : State) : Res := .next (s.adminRun q.val cid.toNat (fun t => t.deleteSq q.val qid.toNat))

/-- NVME_DELETE_IO_CQ (R356): refused while a submission queue is bound to it. -/
def State.deleteCq (s : State) (q qid : Nat) : State × Option (Nat × Nat) :=
  if qid = 0 ∨ (s.nvCq q qid).size = 0 then fail0 s scQID
  else if (s.prt q).sq.any (fun p => p.2.cq == qid && p.2.size != 0) then fail0 s scQDELETE
  else ok0 ((s.priDrop (.comp (nvComp q qid))).modPrt q (fun p => { p with cq := tabDel p.cq qid }))

def execNvmeDeleteIoCq (q : Fin 2) (cid qid : BitVec 16) (s : State) : Res := .next (s.adminRun q.val cid.toNat (fun t => t.deleteCq q.val qid.toNat))

/-! ### Identify (R355 to R359) -/

def State.nsidValid (s : State) (nsid : Nat) : Bool := decide (1 ≤ nsid ∧ nsid ≤ s.nsCount)

/-- Identify Controller (R355, R356, R364): CMIC, CNTLID, VER, CNTRLTYPE, OACS, ACL, AERL, FRMW, ELPE, NPSS, APSTA, SANICAP, SQES, CQES, NN, ONCS, FUSES, FNA,
VWC, AWUN, AWUPF. -/
def State.idController (s : State) (q : Nat) : State × List Byte :=
  s.page 4096 [(76, leBytes 1 3), (78, leBytes 2 (q + 1)), (80, leBytes 4 0x20000), (111, leBytes 1 1), (256, leBytes 2 4), (258, leBytes 1 7), (259, leBytes 1 3),
    (260, leBytes 1 0x14), (262, leBytes 1 63), (263, leBytes 1 0), (265, leBytes 1 0), (328, leBytes 4 0), (512, leBytes 1 0x66), (513, leBytes 1 0x44),
    (516, leBytes 4 s.nsCount), (520, leBytes 2 0x6D), (522, leBytes 2 0), (524, leBytes 1 0), (525, leBytes 1 7), (526, leBytes 4 0)]

/-- Identify Namespace (R355, R358, R359, R360): NSZE, NCAP, NUSE, one LBA format of 4,096 bytes without metadata or protection, NMIC, RESCAP, DLFEAT, NAWUN, NAWUPF,
NACWU, ENDGID. -/
def State.idNamespace (s : State) : State × List Byte :=
  s.page 4096 [(0, leBytes 8 s.nsze ++ leBytes 8 s.nsze ++ leBytes 8 s.nsze), (25, leBytes 5 0), (30, leBytes 1 1), (31, leBytes 1 0xFF), (33, leBytes 1 0),
    (34, leBytes 6 0), (102, leBytes 2 1), (128, leBytes 4 0xC0000)]

/-- IDENTIFY (R356): CNS 0x00, 0x01, 0x02, 0x03, 0x05, 0x06, 0x08. -/
def State.identify (s : State) (q cns nsid : Nat) : Option (State × List Byte) ⊕ Nat :=
  match cns with
  | 0x00 => if s.nsidValid nsid then .inl (some s.idNamespace) else .inr scNAMESPACE
  | 0x01 => .inl (some (s.idController q))
  | 0x02 => .inl (some (s, zeroPage 4096 [(0, ((List.range s.nsCount).filter (fun k => decide (nsid < k + 1))).flatMap (fun k => leBytes 4 (k + 1)))]))
  | 0x03 => if s.nsidValid nsid then .inl (some (s.freeBytes 4096)) else .inr scNAMESPACE
  | 0x05 => if s.nsidValid nsid then .inl (some (s.freeBytes 4096)) else .inr scNAMESPACE
  | 0x06 => .inl (some (s.freeBytes 4096))
  | 0x08 => if s.nsidValid nsid then .inl (some (s.page 4096 [(0, leBytes 3 0xFF0110), (12, leBytes 2 1), (14, leBytes 1 s.pwr.ready.toNat)])) else .inr scNAMESPACE
  | _ => .inr scFIELD

def execIdentify (q : Fin 2) (cid : BitVec 16) (cns : BitVec 8) (nsid : BitVec 32) (list : List (BitVec 64 × BitVec 32)) (s : State) : Res :=
  .next (s.adminRun q.val cid.toNat (fun t => match t.identify q.val cns.toNat nsid.toNat with
    | .inl (some r) => ok0 (r.1.hostPut q.val (operandList list) r.2)
    | .inl none => ok0 t
    | .inr st => fail0 t st))

/-! ### Log pages (R366, R367) -/

/-- Error Information: 64 entries of 64 bytes, newest first. -/
def State.logErrors (s : State) (q : Nat) : State × List Byte :=
  (s.prt q).errLog.foldl (fun t e =>
    let r := t.1.page 64 [(0, leBytes 8 e.2.2), (8, leBytes 2 (e.1 / 65536)), (10, leBytes 2 (e.1 % 65536)), (12, leBytes 2 (2 * (e.2.1 % 2048)))]
    (r.1, t.2 ++ r.2)) (s, [])

/-- Lowest share of free spare slots over the surfaces, in percent (R366, R105). -/
def State.spareLeft (s : State) : Nat :=
  (List.range 22).foldl (fun m i => min m (100 * (s.spareTotal - s.spareUsed (i + 1)) / max 1 s.spareTotal)) 100

/-- SMART / Health Information: Available Spare and Percentage Used; the temperatures are measured, and the progress of a purge is the firmware's. -/
def State.logHealth (s : State) : State × List Byte := s.page 512 [(3, leBytes 1 s.spareLeft), (5, leBytes 1 s.percentUsed)]

/-- Firmware Slot Information: the active slot and the next. -/
def State.logSlots (s : State) : State × List Byte :=
  s.page 512 [(0, leBytes 1 (s.sec.sel.active + 1 + (if s.sec.sel.pending = 0xFF then 0 else 16 * (s.sec.sel.pending + 1))))]

/-- Commands Supported and Effects: CSUPP of each command of R356. -/
def State.logEffects (s : State) : State × List Byte :=
  let at_ := fun (l : List Nat) (i : Nat) => i % 4 != 0 || !l.contains (i / 4)
  let admin := [0x00, 0x01, 0x02, 0x04, 0x05, 0x06, 0x08, 0x09, 0x0A, 0x0C, 0x10, 0x11, 0xC1]
  let io := [0x00, 0x01, 0x02, 0x05, 0x08, 0x09, 0x0D, 0x0E, 0x11, 0x15]
  let f := s.freeBytes 4096
  (f.1, f.2.mapIdx (fun i b =>
    let l := if i < 1024 then admin else io
    let j := i % 1024
    if 2048 ≤ i then 0 else if !l.contains (j / 4) then 0 else if at_ l j then b else b ||| 1))

/-- Rotational Media Information of endurance group 1: NUMA, NRS, SPINC, FSPINC, LDC, FLDC. -/
def State.logRotational (s : State) : List Byte :=
  let c := fun k => leBytes 4 (tabGet 0 s.life k % 2 ^ 32)
  zeroPage 512 [(0, leBytes 2 1), (2, leBytes 2 s.nAct), (4, leBytes 2 (s.par 0x5010 1)), (8, c 0 ++ c 1 ++ c 2 ++ c 3)]

/-- Reservation Notification: the oldest notification not read; type 0 where there is none. -/
def State.logResv (s : State) (q : Nat) : List Byte :=
  match (s.prt q).resvLog.getLast? with
  | none => zeroPage 64 []
  | some (x, ns) => zeroPage 64 [(0, leBytes 8 (x / 256)), (8, leBytes 1 (x % 256)), (9, leBytes 1 ((s.prt q).resvLog.length - 1)), (12, leBytes 4 ns)]

/-- The vendor Churn statistics page (R367), from the counters of R156. -/
def State.logChurn (s : State) : List Byte :=
  let lanes := List.range s.nLane
  let retired := lanes.filter (fun k => s.lnSt k == lnRETIRED)
  leBytes 2 1 ++ leBytes 1 s.nChan ++ leBytes 1 (s.nLane - retired.length) ++ leBytes 8 ((retired.map (fun k => 2 ^ k)).sum) ++ List.replicate 52 0
    ++ s.allChans.flatMap (fun n => (List.range 10).flatMap (fun i => leBytes 8 (s.ent (0x6030 + n) (i + 1))))

/-- A page by its LID; none where it is not supported. -/
def State.logPage (s : State) (q lid : Nat) : Option (State × List Byte) :=
  match lid with
  | 0x01 => some (s.logErrors q)
  | 0x02 => some s.logHealth
  | 0x03 => some s.logSlots
  | 0x05 => some s.logEffects
  | 0x16 => some (s, s.logRotational)
  | 0x80 => some (s, s.logResv q)
  | 0xC2 => some (s, s.logChurn)
  | _ => none

/-- An event waits for a reservation notification that has not been announced; it takes the oldest Asynchronous Event Request (R355, R365). Feature 0x102 marks it
announced until the page is read. -/
def State.eventPost (s : State) (q : Nat) : State :=
  match (s.prt q).aer with
  | cid :: rest =>
    if (s.prt q).resvLog ≠ [] ∧ s.feature q 0x102 = 0 then
      (s.modPrt q (fun p => { p with aer := rest, feat := tabSet p.feat 0x102 1 })).adminDone q cid 0 0x800006
    else s
  | [] => s

/-- GET_LOG_PAGE (R366): the Log Page Offset in 4-byte units, zeros beyond the page; with RAE = 0 a notification read leaves its log. -/
def State.getLog (s : State) (q lid offset : Nat) (rae : Bool) (list : List (Nat × Nat)) : State × Option (Nat × Nat) :=
  if s.recoveryStops && lid != 0x03 then fail0 s scOPCODE
  else if offset % 4 ≠ 0 then fail0 s scFIELD
  else match s.logPage q lid with
    | none => fail0 s scLOG
    | some (t, bs) =>
      let n := listSum list
      let t : State := t.hostPut q list (((bs.drop offset).take n) ++ List.replicate (n - (bs.drop offset).length) 0)
      let t : State := if lid = 0x80 ∧ !rae then (t.modPrt q (fun p => { p with resvLog := p.resvLog.dropLast, feat := tabDel p.feat 0x102 })).eventPost q else t
      ok0 t

def execGetLogPage (q : Fin 2) (cid : BitVec 16) (lid : BitVec 8) (rae : Bool) (offset : BitVec 64) (list : List (BitVec 64 × BitVec 32)) (s : State) : Res :=
  .next (s.adminRun q.val cid.toNat (fun t => t.getLog q.val lid.toNat offset.toNat rae (operandList list)))

/-- ASYNCHRONOUS_EVENT_REQUEST (R355): at most 4 are outstanding. -/
def State.eventAsk (s : State) (q cid : Nat) : State × Option (Nat × Nat) :=
  if s.recoveryStops then fail0 s scOPCODE
  else if 4 ≤ (s.prt q).aer.length then fail0 s scAER
  else ((s.modPrt q (fun p => { p with aer := p.aer ++ [cid] })).eventPost q, none)

def execAsynchronousEventRequest (q : Fin 2) (cid : BitVec 16) (s : State) : Res := .next (s.adminRun q.val cid.toNat (fun t => t.eventAsk q.val cid.toNat))

/-! ### Features (R356) -/

def featIds : List Nat := [0x01, 0x02, 0x04, 0x05, 0x06, 0x07, 0x08, 0x09, 0x0B, 0x0E, 0x81, 0x82, 0x83]

/-- The key of a feature; those of a namespace are held per NSID. -/
def featKey (fid nsid : Nat) : Nat := if fid = 0x05 ∨ fid = 0x82 then fid + 0x1000 * (nsid % 16) else fid

def State.setFeat (s : State) (q k v : Nat) : State := s.modPrt q (fun p => { p with feat := tabSet p.feat k v })

/-- NSIDs a namespace feature names. -/
def State.featNs (s : State) (nsid : Nat) : List Nat := if nsid = 2 ^ 32 - 1 then (List.range s.nsCount).map (· + 1) else [nsid]

/-- SET_FEATURES: PS0 is the one power state; Number of Queues reports 1,024 of each kind and comes before any I/O queue; the Host Identifier has 128 bits. -/
def State.setFeatures (s : State) (q fid nsid v : Nat) (data : List Byte) : State × Option (Nat × Nat) :=
  if s.recoveryStops then fail0 s scOPCODE
  else if !featIds.contains fid then fail0 s scFIELD
  else if fid = 0x02 then (if v % 32 = 0 then ok0 s else fail0 s scFIELD)
  else if fid = 0x06 then ok0 (s.setFeat q 0x06 (v % 2))
  else if fid = 0x07 then
    (if v % 65536 = 65535 ∨ v / 65536 = 65535 then fail0 s scFIELD
     else if (s.prt q).sq.any (fun p => p.1 != 0) || (s.prt q).cq.any (fun p => p.1 != 0) then fail0 s scSEQUENCE
     else (s, some (0, 0x03FF03FF)))
  else if fid = 0x0E then ok0 { s with hostTime := some (leNat (data.take 6), s.coreTime.toNat) }
  else if fid = 0x81 then (if v % 2 = 1 then ok0 (s.setFeat q 0x81 (leNat (data.take 16))) else fail0 s scFIELD)
  else if fid = 0x82 ∨ fid = 0x05 then
    (if (s.featNs nsid).all s.nsidValid then ok0 ((s.featNs nsid).foldl (fun t n => t.setFeat q (featKey fid n) v) s) else fail0 s scNAMESPACE)
  else if fid = 0x83 then
    (if (s.featNs nsid).all s.nsidValid then
       ok0 ((s.featNs nsid).foldl (fun t n => { t with resv := tabMod .none t.resv (n - 1) (fun r => { r with ptpl := v % 2 == 1 }) }) s)
     else fail0 s scNAMESPACE)
  else ok0 (s.setFeat q fid v)

def execSetFeatures (q : Fin 2) (cid : BitVec 16) (fid : BitVec 8) (nsid v : BitVec 32) (data : List Byte) (s : State) : Res :=
  .next (s.adminRun q.val cid.toNat (fun t => t.setFeatures q.val fid.toNat nsid.toNat v.toNat data))

/-- GET_FEATURES: Timestamp and Host Identifier are returned as data. -/
def State.getFeatures (s : State) (q fid nsid : Nat) (list : List (Nat × Nat)) : State × Option (Nat × Nat) :=
  if s.recoveryStops then fail0 s scOPCODE
  else if !featIds.contains fid then fail0 s scFIELD
  else if fid = 0x07 then (s, some (0, 0x03FF03FF))
  else if fid = 0x0E then ok0 (s.hostPut q list (leBytes 6 s.hostMs ++ leBytes 2 (if s.hostTime.isSome then 2 else 0)))
  else if fid = 0x81 then ok0 (s.hostPut q list (leBytes 16 (s.feature q 0x81)))
  else if fid = 0x82 ∨ fid = 0x05 then (if s.nsidValid nsid then (s, some (0, s.feature q (featKey fid nsid))) else fail0 s scNAMESPACE)
  else if fid = 0x83 then (if s.nsidValid nsid then (s, some (0, (s.resvOf (nsid - 1)).ptpl.toNat)) else fail0 s scNAMESPACE)
  else (s, some (0, s.feature q fid))

def execGetFeatures (q : Fin 2) (cid : BitVec 16) (fid : BitVec 8) (nsid : BitVec 32) (list : List (BitVec 64 × BitVec 32)) (s : State) : Res :=
  .next (s.adminRun q.val cid.toNat (fun t => t.getFeatures q.val fid.toNat nsid.toNat (operandList list)))

/-! ### Abort and purge (R362, R363) -/

/-- NVME_ABORT (R362): Dword 0 bit 0 is 0 only where the target is aborted before its last data transfer. -/
def State.nvAbort (s : State) (q sqid target : Nat) : State × Option (Nat × Nat) :=
  if s.recoveryStops then fail0 s scOPCODE
  else if sqid = 0 then
    (if (s.prt q).aer.contains target then
       ok0 ((s.modPrt q (fun p => { p with aer := p.aer.erase target })).adminDone q target scABORTED 0)
     else (s, some (0, 1)))
  else
    let r := s.abortReach (nvPart q sqid) target none
    (r.1, some (0, if r.2 = 0 then 0 else 1))

def execNvmeAbort (q : Fin 2) (cid sqid target : BitVec 16) (s : State) : Res :=
  .next (s.adminRun q.val cid.toNat (fun t => t.nvAbort q.val sqid.toNat target.toNat))

/-- MEDIA_PURGE (R363): no namespace is ready until it has ended. -/
def State.mediaPurge (s : State) (q cid : Nat) : State × Option (Nat × Nat) :=
  if s.recoveryStops then fail0 s scOPCODE
  else if s.purge.isSome then fail0 s scNOTREADY
  else ({ s with purge := some (nvPart q 0, cid), pwr.ready := false }, none)

def execMediaPurge (q : Fin 2) (cid : BitVec 16) (s : State) : Res := .next (s.adminRun q.val cid.toNat (fun t => t.mediaPurge q.val cid.toNat))

/-- MEDIA_PURGE_DONE (R363): every slot holds format fill and the hole table is empty; sectors still on their way to the media are written before. The
command completes unless its controller has been reset. -/
def State.purgeDone (s : State) : State :=
  match s.purge with
  | none => s
  | some (p, cid) =>
    if s.dirty ≠ [] ∨ s.updates ≠ [] then s
    else
      let s : State := { s with holes := [], purge := none, obj.slots := [], obj.media := [], obj.stripes := [], obj.pend := [], obj.front := none,
                                pwr.ready := s.pwr.startStep == 12 && s.mode == modeService }
      if p = 2 ^ 32 then s else s.adminDone (partPort p) cid 0 0

def execMediaPurgeDone (s : State) : Res := .next s.purgeDone

/-! ### I/O commands (R356, R360, R361) -/

/-- A stamped command of an I/O queue: fetched when its queue holds the turn, with the claims of R381. `eff` is what it does at its stamp where nothing has
failed, with the outcome it meets. -/
def State.nvRun (s : State) (q sq : Nat) (c : Cmd) (nsOk : Bool) (eff : State → Nat → State × Option Nat) : State :=
  match s.nextTurn with
  | some (t, p) =>
    if p = nvPart q sq ∧ sq ≠ 0 then
      let st := t.fetchStamp.toNat
      let x := t.admitCmd { c with pool := (t.nvSq q sq).pool } nsOk (t.hostOf q)
      if x.2 then
        let u : State := x.1.modCq q (t.nvSq q sq).cq (fun y => { y with credits := y.credits + 1 })
        let u : State := (u.modSq q sq (fun y => { y with head := (y.head + 1) % max 1 y.size })).turnCount p
        match u.cmd st with
        | some k => if k.fails ≠ [] then u else
            let r := eff u st
            (match r.2 with | some f => r.1.cmdFail st f 0 | none => r.1)
        | none => u
      else x.1
    else s
  | none => s

def noEff (s : State) (_ : Nat) : State × Option Nat := (s, none)

/-- The fields of a read or write; a data pointer that does not fit the length is Data SGL Length Invalid. -/
def State.nvCmd (s : State) (q sq cid : Nat) (op : CmdOp) (nsid lba nlb : Nat) (fua : Bool) (list : Option (List (Nat × Nat))) : Cmd :=
  { newCmd (nvPart q sq) cid op with
    ns := if s.nsidValid nsid then nsid - 1 else 0xFD, lba := lba, count := nlb + 1, fua := fua || s.feature q 0x06 == 0, port := q, hlist := list.getD [],
    fails := match list with | some l => if listSum l = 4096 * (nlb + 1) then [] else [0x103] | none => [] }

def execNvmeRead (q : Fin 2) (sq cid : BitVec 16) (nsid : BitVec 32) (lba : BitVec 64) (nlb : BitVec 16) (list : List (BitVec 64 × BitVec 32)) (s : State) : Res :=
  .next (s.nvRun q.val sq.toNat (s.nvCmd q.val sq.toNat cid.toNat .read nsid.toNat lba.toNat nlb.toNat false (some (operandList list))) (s.nsidValid nsid.toNat) noEff)

/-- NVME_WRITE (R361). -/
def execNvmeWrite (q : Fin 2) (sq cid : BitVec 16) (nsid : BitVec 32) (lba : BitVec 64) (nlb : BitVec 16) (fua : Bool) (list : List (BitVec 64 × BitVec 32))
    (s : State) : Res :=
  .next (s.nvRun q.val sq.toNat (s.nvCmd q.val sq.toNat cid.toNat .write nsid.toNat lba.toNat nlb.toNat fua (some (operandList list))) (s.nsidValid nsid.toNat) noEff)

/-- NVME_WRITE_ZEROES (R356): zero-filled sectors through the normal stripe path; DEAC is ignored. -/
def execNvmeWriteZeroes (q : Fin 2) (sq cid : BitVec 16) (nsid : BitVec 32) (lba : BitVec 64) (nlb : BitVec 16) (fua : Bool) (s : State) : Res :=
  .next (s.nvRun q.val sq.toNat (s.nvCmd q.val sq.toNat cid.toNat .zeroes nsid.toNat lba.toNat nlb.toNat fua none) (s.nsidValid nsid.toNat) noEff)

/-- NVME_COMPARE (R356, R360): it reads its sectors at its stamp; whether they differ from the host's data is an operand (log 26). -/
def execNvmeCompare (q : Fin 2) (sq cid : BitVec 16) (nsid : BitVec 32) (lba : BitVec 64) (nlb : BitVec 16) (mismatch : Bool) (list : List (BitVec 64 × BitVec 32))
    (s : State) : Res :=
  .next (s.nvRun q.val sq.toNat { s.nvCmd q.val sq.toNat cid.toNat .compare nsid.toNat lba.toNat nlb.toNat false (some (operandList list)) with result := mismatch.toNat }
    (s.nsidValid nsid.toNat) noEff)

/-- NVME_FLUSH (R361): NSID 0xFFFF_FFFF is every namespace. -/
def execNvmeFlush (q : Fin 2) (sq cid : BitVec 16) (nsid : BitVec 32) (s : State) : Res :=
  let every := decide (nsid.toNat = 2 ^ 32 - 1)
  .next (s.nvRun q.val sq.toNat
    { newCmd (nvPart q.val sq.toNat) cid.toNat .flush with ns := if every then 0xFE else if s.nsidValid nsid.toNat then nsid.toNat - 1 else 0xFD, port := q.val }
    (every || s.nsidValid nsid.toNat) noEff)

/-- A stamped command that moves no sector: DATASET_MANAGEMENT and the reservation commands. -/
def State.nvOther (s : State) (q sq cid nsid : Nat) (eff : State → Nat → State × Option Nat) : State :=
  s.nvRun q sq { newCmd (nvPart q sq) cid .other with
      ns := if s.nsidValid nsid then nsid - 1 else 0xFD, port := q, fails := if s.notReady then [4] else if s.nsidValid nsid then [] else [0x101] }
    (s.nsidValid nsid) eff

/-- DATASET_MANAGEMENT (R356): every attribute is a hint, and Deallocate frees nothing. -/
def execDatasetManagement (q : Fin 2) (sq cid : BitVec 16) (nsid : BitVec 32) (s : State) : Res :=
  .next (s.nvOther q.val sq.toNat cid.toNat nsid.toNat noEff)

/-! ### Reservations (R364, R365). Types are those of NVMe 2.0: 1 and 2 Write Exclusive and Exclusive Access, 3 and 4 Registrants Only, 5 and 6 All Registrants. -/

def State.modResv (s : State) (k : Nat) (f : Resv → Resv) : State := { s with resv := tabMod .none s.resv k f }
def Resv.isReg (r : Resv) (host : Nat) : Bool := r.regs.any (fun x => x.host == host)
def Resv.keyOf (r : Resv) (host : Nat) : Option Nat := (r.regs.find? (fun x => x.host == host)).map (·.key)
def Resv.allRegs (r : Resv) : Bool := r.type == 5 || r.type == 6
/-- A host holds the reservation: the holder, or every registrant. -/
def Resv.holds (r : Resv) (host : Nat) : Bool := match r.holder with | .none => false | .some h => h == host || (r.allRegs && r.isReg host)

/-- Notifications (R365): 1 registration preempted, 2 reservation released, 3 reservation preempted; to the controllers of the hosts named but the issuer's, unless
masked; in stamp order. -/
def State.notify (s : State) (q k type : Nat) (hosts : List Nat) : State :=
  [0, 1].foldl (fun t p =>
    if hosts.contains (t.hostOf p) && t.hostOf p != t.hostOf q && !bitOf (t.feature p (featKey 0x82 (k + 1))) type then
      let n := t.feature p 0x101 + 1
      ((t.setFeat p 0x101 n).modPrt p (fun x => { x with resvLog := (type + 256 * n, k + 1) :: x.resvLog })).eventPost p
    else t) s

/-- The reservation goes: the registrants of a Registrants Only or All Registrants type are told. -/
def State.resvFree (s : State) (q k : Nat) : State :=
  let r := s.resvOf k
  let s : State := s.modResv k (fun x => { x with holder := none, type := 0 })
  if 3 ≤ r.type then s.notify q k 2 (r.regs.map (·.host)) else s

/-- A registration goes; with the holder's, or the last of an All Registrants reservation, the reservation. -/
def State.resvDrop (s : State) (q k host : Nat) : State :=
  let r := s.resvOf k
  let left := r.regs.filter (fun x => x.host != host)
  let s : State := s.modResv k (fun x => { x with regs := left })
  if r.holder = some host then
    (if r.allRegs && left != [] then s.modResv k (fun x => { x with holder := left.head?.map (·.host) }) else s.resvFree q k)
  else s

def State.resvBump (s : State) (k : Nat) : State := s.modResv k (fun x => { x with gen := (x.gen + 1) % 2 ^ 32 })

/-- RESERVATION_REGISTER (R364): 0 register, 1 unregister, 2 replace; CPTPL 2 and 3 change Persist Through Power Loss. -/
def State.resvRegister (s : State) (q k action cptpl crkey nrkey : Nat) (iekey : Bool) : State × Option Nat :=
  let r := s.resvOf k
  let host := s.hostOf q
  let keyOk := iekey || r.keyOf host == some crkey
  let ptpl := fun (t : State) => if 2 ≤ cptpl then t.modResv k (fun x => { x with ptpl := cptpl == 3 }) else t
  if 3 ≤ action ∨ cptpl = 1 then (s, some 0x102)
  else if action = 0 then
    (match r.keyOf host with
     | some key => if key = nrkey then (ptpl s, none) else (s, some 5)
     | none => if 32 ≤ r.regs.length then (s, some 5)
        else (ptpl ((s.modResv k (fun x => { x with regs := x.regs ++ [{ host := host, ctrl := q + 1, key := nrkey }] })).resvBump k), none))
  else if !r.isReg host || !keyOk then (s, some 5)
  else if action = 1 then (ptpl ((s.resvDrop q k host).resvBump k), none)
  else (ptpl ((s.modResv k (fun x => { x with regs := x.regs.map (fun y => if y.host = host then { y with key := nrkey } else y) })).resvBump k), none)

def execReservationRegister (q : Fin 2) (sq cid : BitVec 16) (nsid : BitVec 32) (action : BitVec 3) (iekey : Bool) (cptpl : BitVec 2) (crkey nrkey : BitVec 64)
    (s : State) : Res :=
  .next (s.nvOther q.val sq.toNat cid.toNat nsid.toNat (fun t _ => t.resvRegister q.val (nsid.toNat - 1) action.toNat cptpl.toNat crkey.toNat nrkey.toNat iekey))

/-- A preempt-and-abort aborts the preempted hosts' commands with an earlier stamp under R362 (R365). -/
def State.abortHosts (s : State) (stamp : Nat) (hosts : List Nat) : State :=
  (s.cmds.filter (fun c => decide (c.stamp < stamp) && c.origin != 2 ^ 32 && hosts.contains (s.hostOf c.port))).foldl
    (fun t c => (t.abortReach c.origin c.cid (some stamp)).1) s

/-- Preempt (R364): the registrants of PRKEY lose their registration, and the reservation goes to the issuer where PRKEY names its holder, or with 0 every other
registrant of an All Registrants type. -/
def State.resvPreempt (s : State) (q k rtype prkey stamp : Nat) (abort : Bool) : State × Option Nat :=
  let r := s.resvOf k
  let host := s.hostOf q
  let all := r.holder.isSome && r.allRegs
  let hit := if all && prkey == 0 then r.regs.filter (fun x => x.host != host) else r.regs.filter (fun x => x.key == prkey)
  let takes := r.holder.isSome && (if all then prkey == 0 else (match r.holder with | some h => r.keyOf h == some prkey | none => false))
  if !all && prkey == 0 then (s, some 0x102)
  else if hit = [] && !takes then (s, some 5)
  else
    let gone := (hit.map (·.host)).filter (fun h => h != host)
    let s : State := if takes then s.modResv k (fun x => { x with holder := some host, type := rtype }) else s
    let s : State := gone.foldl (fun t h => t.resvDrop q k h) s
    let s : State := (s.resvBump k).notify q k 1 gone
    let s : State := if takes then s.notify q k 3 (r.holder.toList) else s
    let s : State := if takes && r.type != rtype && decide (3 ≤ r.type) then s.notify q k 2 ((s.resvOf k).regs.map (·.host)) else s
    (if abort then s.abortHosts stamp gone else s, none)

/-- RESERVATION_ACQUIRE (R364, R365): 0 acquire, 1 preempt, 2 preempt and abort. -/
def State.resvAcquire (s : State) (q k action rtype crkey prkey stamp : Nat) : State × Option Nat :=
  let r := s.resvOf k
  let host := s.hostOf q
  if 3 ≤ action ∨ rtype = 0 ∨ 6 < rtype then (s, some 0x102)
  else if r.keyOf host ≠ some crkey then (s, some 5)
  else if action = 0 then
    (match r.holder with
     | none => (s.modResv k (fun x => { x with holder := some host, type := rtype }), none)
     | some _ => if r.holds host && r.type == rtype then (s, none) else (s, some 5))
  else s.resvPreempt q k rtype prkey stamp (action == 2)

def execReservationAcquire (q : Fin 2) (sq cid : BitVec 16) (nsid : BitVec 32) (action : BitVec 3) (rtype : BitVec 8) (crkey prkey : BitVec 64) (s : State) : Res :=
  .next (s.nvOther q.val sq.toNat cid.toNat nsid.toNat (fun t st => t.resvAcquire q.val (nsid.toNat - 1) action.toNat rtype.toNat crkey.toNat prkey.toNat st))

/-- RESERVATION_RELEASE (R364): 0 release, 1 clear. -/
def State.resvRelease (s : State) (q k action rtype crkey : Nat) : State × Option Nat :=
  let r := s.resvOf k
  let host := s.hostOf q
  if 2 ≤ action then (s, some 0x102)
  else if r.keyOf host ≠ some crkey then (s, some 5)
  else if action = 1 then
    (((s.modResv k (fun x => { x with regs := [], holder := none, type := 0 })).resvBump k).notify q k 3 (r.regs.map (·.host)), none)
  else if !r.holds host then (s, none)
  else if r.type ≠ rtype then (s, some 0x102)
  else (s.resvFree q k, none)

def execReservationRelease (q : Fin 2) (sq cid : BitVec 16) (nsid : BitVec 32) (action : BitVec 3) (rtype : BitVec 8) (crkey : BitVec 64) (s : State) : Res :=
  .next (s.nvOther q.val sq.toNat cid.toNat nsid.toNat (fun t _ => t.resvRelease q.val (nsid.toNat - 1) action.toNat rtype.toNat crkey.toNat))

/-- The Reservation Status data structure in its extended form, for 128-bit host identifiers. -/
def State.resvBytes (s : State) (k : Nat) : List Byte :=
  let r := s.resvOf k
  zeroPage 64 [(0, leBytes 4 r.gen), (4, leBytes 1 r.type), (5, leBytes 2 r.regs.length), (9, leBytes 1 r.ptpl.toNat)]
    ++ r.regs.flatMap (fun x => zeroPage 64 [(0, leBytes 2 x.ctrl), (2, leBytes 1 (r.holds x.host).toNat), (8, leBytes 8 x.key), (16, leBytes 16 x.host)])

/-- RESERVATION_REPORT (R365): the state at the command's stamp; without EDS the identifier format is inconsistent. -/
def execReservationReport (q : Fin 2) (sq cid : BitVec 16) (nsid : BitVec 32) (eds : Bool) (list : List (BitVec 64 × BitVec 32)) (s : State) : Res :=
  .next (s.nvOther q.val sq.toNat cid.toNat nsid.toNat
    (fun t _ => if eds then (t.hostPut q.val (operandList list) (t.resvBytes (nsid.toNat - 1)), none) else (t, some 0x104)))

/-! ### Doorbells and controllers (R360, R383, R488) -/

/-- NVME_SQ_DOORBELL: the tail of an existing queue; a value beyond it is ignored. -/
def State.sqDoorbell (s : State) (q i v : Nat) : State :=
  let x := s.nvSq q i
  if (s.prt q).en && x.size != 0 && decide (v % 65536 < x.size) then s.modSq q i (fun y => { y with tail := v % 65536 }) else s

def execNvmeSqDoorbell (q : Fin 2) (sq : BitVec 16) (v : Word) (s : State) : Res := .next (s.sqDoorbell q.val sq.toNat v.toNat)

/-- NVME_CQ_DOORBELL (R383): entries consumed return their credits and the holdback drains; an unmoved head of a full queue means all of
its entries; a head beyond the entries written is ignored. -/
def State.cqDoorbell (s : State) (q i v : Nat) : State :=
  let c := s.nvCq q i
  let h := v % 65536
  if !(s.prt q).en || c.size == 0 || decide (c.size ≤ h) then s
  else
    let freed := (c.size + h - c.head % c.size) % c.size
    let freed := if freed = 0 ∧ c.used = c.size then c.size else freed
    if c.used < freed then s
    else State.cqDrain 128 (s.modCq q i (fun y => { y with head := (y.head + freed) % (2 * y.size), credits := y.credits - freed })) q i

def execNvmeCqDoorbell (q : Fin 2) (cq : BitVec 16) (v : Word) (s : State) : Res := .next (s.cqDoorbell q.val cq.toNat v.toNat)

/-- NVME_CONTROLLER_ENABLE (R488 step 8, R514): CC.EN := 1 creates the admin queues. In Recovery the controllers answer from the recovery function. -/
def State.ctrlEnable (s : State) (q asq acq asqs acqs : Nat) (wrr : Bool) : State :=
  let p := s.prt q
  if p.linkUp && !p.en && !p.cfs && (decide (8 ≤ s.pwr.startStep) || s.mode == modeRecovery) && asqs != 0 && acqs != 0 then
    s.modPrt q (fun x => { x with
      en := true, rdy := true, sq := [(0, { NvSq.none with base := asq, size := asqs + 1 })], cq := [(0, { NvCq.none with base := acq, size := acqs + 1 })],
      feat := tabSet x.feat 0x100 wrr.toNat })
  else s

def execNvmeControllerEnable (q : Fin 2) (asq acq : BitVec 64) (asqs acqs : BitVec 12) (wrr : Bool) (s : State) : Res :=
  .next (s.ctrlEnable q.val asq.toNat acq.toNat asqs.toNat acqs.toNat wrr)

/-- A controller resets (R365): its commands without a completion entry are aborted as in the first row of R362, and none is written; writes completed stay
in the buffer, reservations in force, and the other controller is not affected. After a C4 it stays fatal (R466). -/
def State.ctrlReset (s : State) (q : Nat) : State :=
  let s : State := (tabKeys (s.prt q).sq).foldl (fun t i => (t.discardCmds (nvPart q i)).turnEnd (nvPart q i)) s
  let s : State := (tabKeys (s.prt q).cq).foldl (fun t i => t.priDrop (.comp (nvComp q i))) s
  let s : State := { s with purge := s.purge.map (fun x => if x.1 = nvPart q 0 then (2 ^ 32, 0) else x) }
  let fatal := s.rb FC_STATUS_FATAL
  s.modPrt q (fun x => { x with en := false, rdy := false, cfs := fatal, frozen := fatal, sq := [], cq := [], feat := [], aer := [] })

def execControllerReset (q : Fin 2) (s : State) : Res := .next (s.ctrlReset q.val)

/-- A port resets (R354, R386, R344): its controller, its rings with PORT_DOWN, its translations and page requests, its configuration. The other port
goes on. -/
def State.portReset (s : State) (q : Nat) : State :=
  let s : State := s.ctrlReset q
  let mine := (s.sr.filter (fun x => x.2.st != 0 && attrPort x.2.attr == q)).map Prod.fst
  let s : State := mine.foldl (fun t n => (t.freezeRing n 0x0B 0 0).discardCmds n) s
  let lost := s.dtu.pri.filter (fun x => x.port == q)
  let s : State := { s with dtu.atc := s.dtu.atc.filter (fun x => x.2.port != q), dtu.ats := s.dtu.ats.filter (fun x => x.1 != q),
                            dtu.pri := s.dtu.pri.filter (fun x => x.port != q), dtu.inval := s.dtu.inval.filter (fun x => x.1 != q) }
  let s : State := lost.foldl (fun t x => x.who.foldl (fun u w => u.pageBad 9 w) t) s
  s.modPrt q (fun x => { Port.reset with perst := x.perst, linkUp := x.linkUp, cfs := x.cfs, frozen := x.frozen, errLog := x.errLog })

/-- FUNCTION_LEVEL_RESET (R354): the function, with the link up. -/
def execFunctionLevelReset (q : Fin 2) (s : State) : Res := .next (s.portReset q.val)

/-- PORT_LINK_DOWN (R354, R386). -/
def State.linkDown (s : State) (q : Nat) : State := (s.portReset q).modPrt q (fun x => { x with linkUp := false })
def execPortLinkDown (q : Fin 2) (s : State) : Res := .next (s.linkDown q.val)

/-- PERST (R480, R488 step 5): deasserted, the port is powered and its link trains, a wake from P3 and P4; asserted, the port resets and its domain is off. -/
def State.perstEdge (s : State) (q : Nat) (deasserted : Bool) : State :=
  if deasserted then
    let s : State := s.modPrt q (fun x => { x with perst := false })
    let s : State := if s.pwr.inReset || s.pwr.por then s else s.wake 3
    s.portUp q
  else ((s.linkDown q).modPrt q (fun x => { x with perst := true })).setDom (domPX q) 0

def execPerst (port : Fin 2) (deasserted : Bool) (s : State) : Res := .next (s.perstEdge port.val deasserted)

/-- PCIE_CONFIG_ACCESS (R343, R344, R346, R353, R488): Configuration Request Retry Status until boot has ended; a request that reaches a powered port shows that
its link is up. -/
def State.configAccess (s : State) (q : Nat) (r : CfgReq) : State :=
  if s.dom (domPX q) ≠ 3 ∨ (s.prt q).perst then s
  else
    let s : State := s.modPrt q (fun x => { x with linkUp := true })
    if !s.pwr.bootDone then s.emit (.port q "CRS" 0)
    else
      let s : State := s.emit (.port q "Cpl" 0)
      match r with
      | .read _ => s
      | .ats v =>
        let s : State := s.modPrt q (fun x => { x with ats := v })
        if v then s else { s with dtu.atc := s.dtu.atc.filter (fun x => x.2.port != q) }
      | .pri v => s.modPrt q (fun x => { x with pri := v, respFail := x.respFail && !(v && !x.pri) })
      | .pasid v => s.modPrt q (fun x => { x with pasid := v })
      | .alloc n => s.modPrt q (fun x => { x with alloc := n.toNat })
      | .mps n => if n = 128 ∨ n = 256 ∨ n = 512 then s.modPrt q (fun x => { x with mps := n }) else s
      | .mrrs n => if n = 128 ∨ n = 256 ∨ n = 512 ∨ n = 1024 ∨ n = 2048 ∨ n = 4096 then s.modPrt q (fun x => { x with mrrs := n }) else s
      | .other _ _ => s

def execPcieConfigAccess (q : Fin 2) (req : CfgReq) (s : State) : Res := .next (s.configAccess q.val req)

end Sys2Proof.Machine
end

