-- ==== Sys2Proof/Machine/Buffer.lean ====
section
/-! DEFINITION. Buffer.lean: the buffer's commands: temperature, refresh, training and fill, requests, the flip, the Skimmer and the retirement of
a pseudo-channel (12_buffer_memory.md R290 to R306, R554). -/

namespace Sys2Proof.Machine
open Sys2Proof

/-! ### Temperature, refresh, training (R290 to R292, R554) -/

/-- The refresh multiplier after a reading (R290): 0, 1, 2 for x1, x2, x4. -/
def refMult (m : Nat) (t : Int) : Nat :=
  if m = 0 then (if 105 < t then 2 else if 85 < t then 1 else 0)
  else if m = 1 then (if 105 < t then 2 else if t < 82 then 0 else 1)
  else if t < 82 then 0 else if t < 102 then 1 else 2

/-- HBM_TEMP_SAMPLE (R290): each change of multiplier is a C0 event; 10 readings in a row above 125 degrees are a C4. -/
def State.hbmTemp (s : State) (t : Int) : State :=
  let m := s.rf ECC_STATUS_REF_MULT
  let m' := refMult m t
  let hot := if 125 < t then s.buf.hot + 1 else 0
  let s : State := { (s.wf ECC_STATUS_TEMP (utrunc 8 t)).wf ECC_STATUS_REF_MULT m' with buf.hot := hot }
  let s : State := if m' = m then s else s.report (srcId DAT 16 38) 0 m'
  if hot = 10 then s.report (srcId DAT 16 37) else s

def execHbmTempSample (t : Int) (s : State) : Res := .next (s.hbmTemp t)

def State.pcRuns (s : State) (p : Nat) : Bool := s.pcSt p == pcACTIVE || s.pcSt p == pcRELOCATING

/-- REFRESH_DUE (R291): a refresh that is due while a DC0 or DC1 request waits for its bank is postponed, up to 8; an idle bank makes up its arrears. -/
def State.refreshDue (s : State) (p bank : Nat) (busy : Bool) : State :=
  if !s.pcRuns p then s
  else
    let k := 256 * p + bank
    let a := tabGet 0 s.buf.arrears k
    let a' := if busy then min 8 (a + 1) else 0
    let s : State := { s with buf.arrears := if a' = 0 then tabDel s.buf.arrears k else tabSet s.buf.arrears k a' }
    s.wf HBM_PC_REFPEND_ARREARS ((s.buf.arrears.filter (fun e => e.1 / 256 == p)).foldl (fun m e => max m e.2) 0) p

def execRefreshDue (p : Fin 16) (bank : BitVec 8) (busy : Bool) (s : State) : Res := .next (s.refreshDue p.val bank.toNat busy)

/-- HBM_RETRACK (R292, R306): the next running PC in turn; a fourth failure in a row, or any failure of a PC that relocates, is a C4. -/
def State.retrack (s : State) (ok : Bool) : State :=
  match ((List.range 16).map (fun i => (s.buf.track + i) % 16)).find? s.pcRuns with
  | none => s
  | some p =>
    if ok then { s.modPc p (fun x => { x with retries := 0 }) with buf.track := (p + 1) % 16 }
    else
      let n := (s.pcv p).retries + 1
      let s : State := { s.modPc p (fun x => { x with retries := n }) with buf.track := p }
      if n = 4 ∨ s.pcSt p = pcRELOCATING then s.report (srcId DAT 16 36) p else s

def execHbmRetrack (ok : Bool) (s : State) : Res := .next (s.retrack ok)

/-- The PC is retired: its rows are on the reserve, and no other PC can follow it (R304, R306). -/
def State.pcGone (s : State) (p : Nat) : State :=
  let s : State := ((s.wf HBM_PC_STATUS_STATE pcRETIRED p).wb HBM_PC_CTRL_RETIRE false p).wf HBM_PC_REFPEND_ARREARS 0 p
  let s : State := { s with buf.arrears := s.buf.arrears.filter (fun e => e.1 / 256 != p) }
  (s.wb ECC_STATUS_RESERVE_USED true).wf ECC_STATUS_RETIRED_PC p

/-- HBM_TRAINING_DONE (R292): a PC that fails is retired before use with an empty copy phase; more than one is a C4. -/
def State.trained (s : State) (failed : Nat) : State :=
  if s.dom domHBP ≠ 3 ∨ !(List.range 16).all (fun p => s.pcSt p == pcUNTRAINED) then s
  else
    let bad := (List.range 16).filter (fun p => bitOf failed p)
    let s : State := ((List.range 16).filter (fun p => !bad.contains p)).foldl (fun t p => t.wf HBM_PC_STATUS_STATE pcACTIVE p) s
    match bad with
    | [] => s
    | [p] => (((s.pcGone p).wf HBM_PC_STATUS_CAUSE 1 p).wf HBM_PC_RELOC_PTR s.rowsMoved p).report (srcId DAT p 32) p 1
    | _ => s.report (srcId DAT 16 36)

def execHbmTrainingDone (failed : BitVec 16) (s : State) : Res := .next (s.trained failed.toNat)

/-- BUFFER_ZERO_FILL_DONE (R554): every row of every active PC holds zeros and is clean under both codes. -/
def State.zeroFilled (s : State) : State :=
  if s.buf.filled ∨ (List.range 16).any (fun p => s.pcSt p == pcUNTRAINED) then s
  else { s with mem := [], buf.err := [], buf.parity := [], buf.poison := [], buf.media := [], buf.overlay := [], buf.filled := true }

def execBufferZeroFillDone (s : State) : Res := .next s.zeroFilled

/-! ### Requests (R289, R294, R295, R297, R300, R306) -/

/-- A write channel's member is lost (R300): a hole under rule 3 of R184, or a write fault under rule 4, which leaves the member SUSPECT. -/
def State.memberLost (s : State) (n a : Nat) : State :=
  let c := s.ch n
  let mine := fun (k : SecCmd) => k.write && k.why == .member && decide (s.placeAddr k.pail ≤ a ∧ a < s.placeAddr k.pail + 4096)
  match (c.encoded ++ c.target.toList ++ c.fifo).find? mine with
  | none => s
  | some k =>
    let s : State := s.modCh n (fun x => { x with encoded := x.encoded.erase k, fifo := x.fifo.erase k, target := if x.target = some k ∧ !x.begun then none else x.target })
    let others := s.holes.countP (fun q => q.stripe == k.x && q.pos != k.ix)
    if others + 1 ≤ s.geoP - 1 ∧ s.holes.length < 65536 then (s.omit_ k.x k.ix).maskOff k.x k.ix
    else
      let ss := (s.dirty.filter (fun x => x.busy && s.geoD != 0 && x.x / s.geoD == k.x)).map (·.stamp)
      ((ss.foldl (fun t j => t.cmdFail j 0x08 0) s).suspect k.x k.ix).maskOff k.x k.ix

/-- How a bus error reaches its requester (R300). A DMA channel and a metadata cache port take it themselves. -/
def State.busReact (s : State) (req : BufReq) (a : Nat) : State :=
  let s : State := s.emit (.buffer req true [])
  match req with
  | .dma _ => s
  | .ring n => if n.toNat < nSR then s.freezeRing n.toNat 0x06 1 0 else s.ctrlFatal (partPort n.toNat)
  | .comp c => if c.toNat < nCR then s.freezeCr c.toNat 0x09 else s.ctrlFatal ((c.toNat - nCR) / 1025)
  | .cache _ => s
  | .parity stripe => s.parityDone stripe.toNat true
  | .channel n => s.memberLost n.val a
  | .replay => if s.rf RP_STATUS_STATE = 1 then s.replayEnd 2 else s
  | .shadow => if s.mrec.rpSt = 1 then { s with mrec.rpSt := 2 } else s
  | .core k => (s.emit (.exception k.val)).report (srcId SYS (9 + k.val) 32)

/-- A page whose row waits: its PC's intake is held (R306). -/
def State.pageHeld (s : State) (page : Nat) : Bool := (s.pcv (page % 16)).held

/-- Pages of a read that need a strong decode first (R297). -/
def State.needsStrong (s : State) (a n : Nat) : List Nat :=
  ((wordsOf a n).filter (fun w => !s.lost w && !s.poisoned (w / 256) && (lightDecode (s.errOf w)).isNone)).map (fun w => w / 256)

/-- A request is served, or waits for its PC's intake or for the strong decode of a page. -/
def State.serveOp (s : State) (o : BufOp) : State :=
  if !s.inData o.addr o.len then s.busReact o.req o.addr
  else if (unitsOf 2048 o.addr o.len).any s.pageHeld then { s with buf.waits := s.buf.waits ++ [o] }
  else match o.wr with
    | some bytes =>
      let r := s.bufWrite o.addr bytes
      if r.2 then r.1.busReact o.req o.addr else r.1.emit (.buffer o.req false [])
    | none =>
      if s.needsStrong o.addr o.len ≠ [] then { s with buf.waits := s.buf.waits ++ [o] }
      else
        let r := s.bufRead o.addr o.len
        match r.2 with
        | some bs => r.1.emit (.buffer o.req false bs)
        | none => r.1.busReact o.req o.addr

/-- The requests that wait try again, in order. -/
def State.serveWaits (s : State) : State := s.buf.waits.foldl (fun t o => t.serveOp o) { s with buf.waits := [] }

/-- A request ends the stack's self-refresh. -/
def State.bufAwake (s : State) : State := { s with buf.selfRefresh := false }

/-- Bit errors of words inside the stack. -/
def State.upsetIn (s : State) (l : List (Nat × BitVec 72)) : State := s.upsets (l.filter (fun p => decide (p.1 < s.rowsPerPc * 4096)))

/-- HBM_READ (R294, R297, R300): `upset` names the bits that the cells have taken on (log 23). -/
def execHbmRead (req : BufReq) (addr len : Nat) (upset : List (Nat × BitVec 72)) (s : State) : Res :=
  .next ((s.bufAwake.upsetIn upset).serveOp { req := req, addr := addr, len := len, wr := none })

/-- HBM_WRITE (R295, R298, R299, R301). -/
def execHbmWrite (req : BufReq) (addr : Nat) (bytes : List Byte) (upset : List (Nat × BitVec 72)) (s : State) : Res :=
  .next ((s.bufAwake.upsetIn upset).serveOp { req := req, addr := addr, len := bytes.length, wr := some bytes })

/-- STRONG_DECODE (R297, R299): of a page that a read waits for; the reads that waited go on. -/
def State.strongDone (s : State) (page word : Nat) : State :=
  if s.buf.waits.any (fun o => o.wr.isNone && (s.needsStrong o.addr o.len).contains page) then (s.strongDecode page word).serveWaits else s

def execStrongDecode (page : BitVec 23) (word : BitVec 8) (s : State) : Res := .next (s.strongDone page.toNat word.toNat)

/-- PARITY_ENTRY_WRITE (R298). -/
def execParityEntryWrite (page : BitVec 23) (s : State) : Res := .next (s.parityFlush page.toNat)

/-- HBM_FLIP_ARM (R301): arms, or replaces the PC and page of a pending flip. -/
def State.flipArm (s : State) : State :=
  { s.wb HBM_FLIP_CTRL_ARM true with
    buf.flip := some (s.rf HBM_FLIP_CTRL_PC, if s.rb HBM_FLIP_CTRL_MATCH then some (s.rf HBM_FLIP_PAGE_PAGE) else none) }

def execHbmFlipArm (s : State) : Res := .next s.flipArm

/-- HBM_SELF_REFRESH_ENTRY (R290, R475): with HBP in SR and no request waiting; arrears are made up. -/
def execHbmSelfRefreshEntry (s : State) : Res :=
  .next (if s.dom domHBP = 2 ∧ s.buf.waits = [] then
      (List.range 16).foldl (fun t p => t.wf HBM_PC_REFPEND_ARREARS 0 p) { s with buf.selfRefresh := true, buf.arrears := [] }
    else s)

/-! ### The Skimmer (R302, R303) -/

def State.dataRows (s : State) : Nat := s.dataEnd / 32768

/-- A page of a row: of the data region with both codes, of the page-parity region with the light code; its errors are corrected. -/
def State.checkPage (s : State) (page : Nat) : State :=
  let errs := s.buf.err.filter (fun e => e.1 / 256 == page && !s.lost e.1)
  let s : State := errs.foldl (fun t e => match lightDecode e.2 with | some (true, m) => t.lightFix e.1 m | _ => t) s
  if page / 16 < s.dataRows then s.strongDecode page 0
  else (errs.filter (fun e => (lightDecode e.2).isNone)).foldl (fun t e => t.parityFix ((8 * e.1 - t.dataEnd) / 64)) s

/-- Corrections so far: light words and strong pages. -/
def State.fixCount (s : State) : Nat := s.rf ECC_CE_COUNT + s.rf ECC_SC_COUNT

/-- The page that row r of PC p holds; none for a reserve row without relocated content (R302, R305). -/
def State.rowPage (s : State) (p r : Nat) : Option Nat :=
  if r < s.rowsMoved then some (16 * r + p)
  else match s.movedRows with
    | none => none
    | some (x, n) =>
      let r' := 15 * (r - s.rowsMoved) + (p + 15 - x) % 16
      if p ≠ x ∧ r' < n then some (16 * r' + x) else none

def State.lapDone (s : State) : Bool := (List.range 16).all (fun p => s.pcSt p != pcACTIVE || decide (s.lapRows p ≤ (s.pcv p).row))

/-- The Skimmer goes to the next row of a PC. -/
def State.skimNext (s : State) (p : Nat) : State := s.modPc p (fun x => { x with row := x.row + 1, restarts := 0 })

/-- SKIM_PAGE (R302, R303): the next row of an active PC; a page written meanwhile starts again, and after 16 restarts in a row is skipped. -/
def State.skimPage (s : State) (p : Nat) (rewritten : Bool) : State :=
  let r := (s.pcv p).row
  if !s.rb SKIM_CTRL_EN || !s.buf.lap || s.pcSt p != pcACTIVE || !s.buf.filled || decide (s.lapRows p ≤ r) then s
  else match s.rowPage p r with
    | none => s.skimNext p
    | some page =>
      if rewritten then
        let s : State := s.cnt SKIM_STATUS_RESTARTS
        if (s.pcv p).restarts = 15 then (s.cnt SKIM_STATUS_SKIPPED).skimNext p else s.modPc p (fun x => { x with restarts := x.restarts + 1 })
      else
        let u := s.poisoned page
        let t := s.checkPage page
        let t : State := t.cnt SKIM_FOUND_CORR 0 0 (t.fixCount - s.fixCount)
        let t : State := if t.poisoned page && !u then t.cnt SKIM_FOUND_UE else t
        t.skimNext p

def execSkimPage (p : Fin 16) (rewritten : Bool) (upset : List (Nat × BitVec 72)) (s : State) : Res := .next ((s.upsetIn upset).skimPage p.val rewritten)

/-- A new lap starts. -/
def State.lapStart (s : State) : State :=
  (List.range 16).foldl (fun t p => t.modPc p (fun x => { x with row := 0, restarts := 0 })) { s with buf.lap := true, buf.overdue := false }

/-- SKIM_LAP_END (R303): every active PC has finished its rows. -/
def State.lapEnd (s : State) (ms : Nat) : State :=
  if !s.rb SKIM_CTRL_EN || !s.buf.lap || !s.lapDone then s
  else (((s.wf SKIM_LAP_LAST ms).wf SKIM_LAP_MAX_MAX (max ms (s.rf SKIM_LAP_MAX_MAX))).cnt SKIM_COUNT_LAP_COUNT).lapStart

def execSkimLapEnd (ms : BitVec 32) (s : State) : Res := .next (s.lapEnd ms.toNat)

/-- SKIM_LAP_OVERDUE (R303): one C0 event a lap; the lap runs on. -/
def execSkimLapOverdue (s : State) : Res :=
  .next (if s.rb SKIM_CTRL_EN && s.buf.lap && !s.buf.overdue then ({ s with buf.overdue := true } : State).report (srcId DAT 17 32) else s)

/-- SKIM_RESTART (R309): the lap is abandoned, SKIM_LAP_MAX cleared, and a new lap starts. -/
def State.skimRestart (s : State) : State :=
  let s : State := s.wf SKIM_LAP_MAX_MAX 0
  if s.rb SKIM_CTRL_EN then s.lapStart else s

def execSkimRestart (s : State) : Res := .next s.skimRestart

/-- SKIM_ENABLE (R303): clearing EN abandons the lap, setting it again starts a new one. -/
def State.skimEnable (s : State) (v : Bool) : State :=
  let was := s.rb SKIM_CTRL_EN
  let s : State := s.wb SKIM_CTRL_EN v
  if v then (if was then s else s.lapStart) else { s with buf.lap := false }

def execSkimEnable (v : Bool) (s : State) : Res := .next (s.skimEnable v)

/-! ### Retiring a pseudo-channel (R304 to R306) -/

/-- CE_RATE_WINDOW (R304): a second ends; 10 in a row above CE_LIM are the cause CE_RATE. -/
def State.ceWindow (s : State) (p : Nat) : State :=
  let n := if s.par 0xC020 1 < (s.pcv p).ce then (s.pcv p).ceBad + 1 else 0
  let s : State := s.modPc p (fun x => { x with ce := 0, ceBad := n })
  if 10 ≤ n then s.pcDue p 2 else s

def execCeRateWindow (p : Fin 16) (s : State) : Res := .next (s.ceWindow p.val)

/-- HBM_PC_RETIRE (R304): the cause SOFTWARE on an active PC. -/
def State.pcRetire (s : State) (p : Nat) : State := if s.pcSt p = pcACTIVE then (s.wb HBM_PC_CTRL_RETIRE true p).pcDue p 5 else s
def execHbmPcRetire (p : Fin 16) (s : State) : Res := .next (s.pcRetire p.val)

/-- PC_RETIRE (R304, R306 step 1): a cause met on an active PC is taken; on a second PC it is a C4. -/
def State.pcTake (s : State) (p : Nat) : State :=
  let due := (s.pcv p).due
  if due = 0 ∨ s.pcSt p ≠ pcACTIVE then s
  else
    let s : State := s.modPc p (fun x => { x with due := 0 })
    if s.movedRows.isSome then s.report (srcId DAT 16 35) p due
    else ((s.wf HBM_PC_STATUS_STATE pcRELOCATING p).wf HBM_PC_STATUS_CAUSE due p).modPc p (fun x => { x with held := true })

def execPcRetire (p : Fin 16) (s : State) : Res := .next (s.pcTake p.val)

/-- PC_QUEUE_DRAINED (R306 steps 2 and 3): the strong decodes and parity entries of the PC are complete; intake resumes under the split rule. -/
def State.pcDrained (s : State) (p : Nat) : State :=
  let decoding := s.buf.waits.any (fun o => o.wr.isNone && !(unitsOf 2048 o.addr o.len).any s.pageHeld && (s.needsStrong o.addr o.len).any (fun g => g % 16 == p))
  if !(s.pcv p).held || decoding then s
  else
    let s : State := { s with buf.parity := s.buf.parity.filter (fun g => g % 16 != p) }
    let s : State := (s.wf HBM_PC_RELOC_PTR 0 p).modPc p (fun x => { x with held := false })
    (s.report (srcId DAT p 32) p (s.rf HBM_PC_STATUS_CAUSE p)).serveWaits

def execPcQueueDrained (p : Fin 16) (s : State) : Res := .next (s.pcDrained p.val)

/-- RELOC_ROW (R306 steps 4 and 5): the row at the pointer is read with both codes and written to its target, a lost word as lost. -/
def State.relocRow (s : State) (p : Nat) : State :=
  let r := s.rf HBM_PC_RELOC_PTR p
  if s.pcSt p ≠ pcRELOCATING ∨ (s.pcv p).held ∨ s.rowsMoved ≤ r then s
  else
    let page := 16 * r + p
    let s : State := s.checkPage page
    let s : State := { s with buf.err := s.buf.err.filter (fun e => e.1 / 256 != page || s.lost e.1) }
    let s : State := s.wf HBM_PC_RELOC_PTR (r + 1) p
    if r + 1 = s.rowsMoved then s.pcGone p else s

def execRelocRow (p : Fin 16) (s : State) : Res := .next (s.relocRow p.val)

end Sys2Proof.Machine
end

