-- ==== Sys2Proof/Machine/Access.lean ====
section
/-! DEFINITION. Access.lean: how an entry of the object dictionary is found, checked and read (19_object_dictionary.md R425 to R432), with the
read-only entries of every chapter. -/

namespace Sys2Proof.Machine
open Sys2Proof

/-! ### Status codes (R432) -/

def odOK : Nat := 0x00
def odNOOBJECT : Nat := 0x01
def odNOSUB : Nat := 0x02
def odROLE : Nat := 0x03
def odREADONLY : Nat := 0x04
def odWRITEONLY : Nat := 0x05
def odMODE : Nat := 0x06
def odBUSY : Nat := 0x07
def odLENGTH : Nat := 0x08
def odBAD : Nat := 0x09
def odRANGE : Nat := 0x0A
def odLOCKED : Nat := 0x0B
def odOFF : Nat := 0x0C
def odTIMEOUT : Nat := 0x0D
def odBUS : Nat := 0x0E
def odNORES : Nat := 0x0F
def odSEGMENT : Nat := 0x10
def odNOSESSION : Nat := 0x11
def odAUTH : Nat := 0x12
def odFRAME : Nat := 0x13

/-! ### Entries (R425) -/

/-- The highest implemented subindex of an index, none where no chapter defines it. -/
def odHighest (ix : Nat) : Option Nat :=
  if 0xA100 ≤ ix ∧ ix < 0xA380 then
    ((List.range 64).reverse.find? (fun n => (reactRow ix (n + 1)).isSome)).map (· + 1)
  else
    match odRows.filter (fun r => decide (r.ix ≤ ix) && decide (ix < r.ix + r.n)) with
    | [] => none
    | rs => some (rs.foldl (fun m r => max m (r.sub + r.m - 1)) 0)

/-- Index 0x1200 + role holds the records of the role's last admitted set, by the low 8 bits of their TYPE, and the signature at 0xFF (R54, R425). -/
def State.idRec (s : State) (ix sub : Nat) : Option (List Byte) := ((s.idr (ix - 0x1200)).recs.find? (fun p => p.1 % 256 == sub)).map (·.2)

/-- The row of an entry; subindex 0 is a U8 CONST that holds the highest subindex. -/
def State.odEntry (s : State) (ix sub : Nat) : Option OdRow :=
  if sub = 0 then (odHighest ix).map (fun h => ⟨ix, 1, 0, 1, .u8, .const, false, false, false, false, none, 0, h, h, 0⟩)
  else if 0x1200 ≤ ix ∧ ix < 0x120C then (if (s.idRec ix sub).isSome then odRow ix sub else none)
  else odRowAny ix sub

/-! ### Roles (R428, R446, R449) -/

/-- The role of a source of R431: HOST_ROLE for the host banks, CONFIGURE for the service cores and the trace unit, a session's granted role. -/
def State.srcRole (s : State) (src : Nat) : Nat :=
  if src < 2 then s.ent 0xB001 1
  else if src < 7 then 3
  else if src = 7 then 0
  else match tabFind s.zl.sessions (src - 8) with | some x => x.role | none => 0

/-- The role an access needs (R428): READ 1, OPERATE 2, CONFIGURE 3; the gateway (R436), MODE_REQ (R515) and a written DOMAIN need CONFIGURE. -/
def odNeedRole (ix : Nat) (r : OdRow) (wr : Bool) : Nat :=
  if ix = 0x2002 then 3
  else if !wr then 1
  else if r.ty = .domain then 3
  else match r.acc with
    | .rws => 3
    | .rwc => 3
    | .rw => 2
    | .wo => if ix = 0xB003 then 3 else 2
    | _ => 1

/-- The entries that FORMAT_LOCK keeps for format images (23_security_maintenance.md R518). -/
def formatEntry (ix sub : Nat) : Bool :=
  decide (0x3100 ≤ ix ∧ ix ≤ 0x3127) || decide (0x4200 ≤ ix ∧ ix ≤ 0x422B) || decide (0x6200 ≤ ix ∧ ix ≤ 0x622B) || decide (0x6300 ≤ ix ∧ ix ≤ 0x632B)
    || (ix == 0xC010 && (sub == 1 || sub == 2))

/-- Entries that may be written outside Service mode only though they are WO: key slots (R508) and format images (R518). -/
def modeEntry (ix sub : Nat) : Bool :=
  (decide (0xB010 ≤ ix ∧ ix < 0xB014) && sub == 3) || (decide (0xB020 ≤ ix ∧ ix < 0xB028) && sub == 4) || (ix == 0xB040 && sub == 1)

/-! ### The checks of R432, in their order -/

/-- The checks from NO_OBJECT to COMMIT_BUSY; `role` is the role of the source, `img` a record of a format image. -/
def State.odPre (s : State) (role ix sub : Nat) (wr img : Bool) : Nat :=
  match odHighest ix, s.odEntry ix sub with
  | none, _ => odNOOBJECT
  | some _, none => odNOSUB
  | some _, some r =>
    if role < odNeedRole ix r wr ∨ role = 0 then odROLE
    else if wr && !img && formatEntry ix sub && s.ent 0xB040 3 == 1 then odROLE
    else if wr && (r.acc == .const || r.acc == .ro) then odREADONLY
    else if !wr && r.acc == .wo then odWRITEONLY
    else if wr && s.mode == modeService && (r.acc == .rws || modeEntry ix sub) then odMODE
    else if wr && s.commitBusy && (r.acc == .rwc || r.chk || (ix == 0x2001 && sub == 1)) then odBUSY
    else odOK

/-- A number has a reserved bit set (R6): the reaction table (R458), the object spaces (R398). -/
def odReserved (ix v : Nat) : Bool :=
  if 0xA100 ≤ ix ∧ ix < 0xA380 then decide (16 ≤ v) else if ix = 0xC071 then decide (2 ^ 23 ≤ v) else false

/-- LENGTH, BAD_VALUE and RANGE (R427, R432) of a written value; RWC entries and those of R429 are judged for RANGE at commit. -/
def State.odValue (s : State) (ix sub : Nat) (r : OdRow) (v : List Byte) : Nat :=
  let n := leNat v
  if (if r.ty.isNum then v.length != r.ty.len else if r.ty = .octets then v.length != r.max else decide (min r.max 131072 < v.length)) then odLENGTH
  else if (r.ty == .bool && decide (1 < n)) || (r.ty.isNum && odReserved ix n) then odBAD
  else if r.ty.isNum && (r.acc == .rw || r.acc == .wo || (r.acc == .rws && !r.chk)) && !(r.inRange n && s.odd ix sub n) then odRANGE
  else odOK

/-- The region and domain of the owner of an entry: SYS where no register holds it. -/
def odOwner (ix sub : Nat) : Nat × Nat :=
  if 0x4180 ≤ ix ∧ ix < 0x41C0 then (MOT, domMOT)
  else if 0xC040 ≤ ix ∧ ix < 0xC050 ∧ 5 ≤ sub then (DAT, domBUF)
  else if ix = 0xC070 ∧ 5 ≤ sub then (HST, domOBJ)
  else (SYS, domSYS)

/-- LOCKED (writes) and POWERED_OFF, judged against the owner. -/
def State.odPost (s : State) (ix sub : Nat) (wr : Bool) : Nat :=
  if wr && !s.wrEn 2 (odOwner ix sub).1 then odLOCKED
  else if s.dom (odOwner ix sub).2 ≠ 3 then odOFF
  else odOK

/-- The Zalene interface and the dictionary engine work: domain MGT is ON and SYS is not restarting (20_faults.md R465). -/
def State.zlOn (s : State) : Bool := s.dom domMGT == 3 && !s.fc.restarting.contains SYS

/-- The dictionary engine takes a request (R431): no request waits in a register crossing. -/
def State.odRuns (s : State) : Bool := s.zlOn && s.odWait.isNone

/-- All checks of a write. -/
def State.odWriteStatus (s : State) (role ix sub : Nat) (v : List Byte) (img : Bool) : Nat :=
  let a := s.odPre role ix sub true img
  if a ≠ odOK then a
  else match s.odEntry ix sub with
    | none => odNOSUB
    | some r =>
      let b := s.odValue ix sub r v
      if b ≠ odOK then b else if ix = 0x2002 ∧ sub = 2 then odOK else s.odPost ix sub true

/-! ### Values -/

/-- The cell whose entry sets the class of a source that its owner's entry rules (20_faults.md R458): its driver's cell, or the first of its lane. -/
def ownCell (src : Nat) : Nat :=
  if srcBlock src < 4 then ((List.range 42).find? (fun n => cellLane n == srcBlock src)).getD 0
  else if srcBlock src = 14 then 39 else 32 + (srcBlock src - 5)

/-- The list of implemented sources (20_faults.md R457). -/
def sourceList : List Byte :=
  ((List.range 40960).filter (fun id => (srcRow id).isSome)).flatMap (fun id =>
    let own := match srcRow id with | some r => r.own | none => false
    leBytes 2 id ++ leBytes 1 (srcDefault id) ++ leBytes 1 (srcFloor id) ++ leBytes 1 (own.toNat + 2 * (!own && decide (srcFloor id ≤ 1)).toNat)
      ++ leBytes 3 0)

/-- Free spare slots of a surface (04_zones_and_format.md R88, R104): not assigned, no primary defect. -/
def State.spareFree (s : State) (sf : Nat) : Nat :=
  s.spareTotal - s.spareUsed sf - s.pdl.countP (fun e => e.1 == sf
    && (List.range 40).any (fun z => decide (s.spareFirst z ≤ e.2.1) && decide (e.2.1 < s.spareFirst z + s.zn z 3) && decide (e.2.2 < s.zn z 5)))

/-- Object data sectors that can be allocated (17_object_service.md R395, R404): those of free stripes, and the rest of the open one. -/
def State.objFree (s : State) : Nat :=
  let used := s.obj.stripes.countP (fun p => decide (s.valueFirst ≤ p.1))
  (s.objStripes - s.valueFirst - used) * s.geoD
    + (match s.obj.front with | some o => if s.geoD = 0 then 0 else (o / s.geoD + 1) * s.geoD - o | none => 0)

/-- HISTORY of a health indicator (22_recorder_health.md R505): up to 32 pairs of t and x, the rest 0. -/
def Indicator.history (d : Indicator) : List Byte :=
  let b := (d.hist.take 32).flatMap (fun e => leBytes 4 e.1 ++ leBytes 4 (bfOfRat e.2 1000000))
  b ++ List.replicate (256 - b.length) 0

/-- 2,048 slots of a recorder area (22_recorder_health.md R500); slots that are not written read as zeros. -/
def State.rcArea (s : State) (area sub : Nat) : List Byte :=
  (List.range 2048).flatMap (fun i => match s.rcSlot area (2048 * (sub - 1) + i) with | some r => r.bytes | none => List.replicate 64 0)

/-- The 64 bytes of a key, X then Y (23_security_maintenance.md R507): octet i is bits 8 i of the operand. -/
def keyBytes (k : BitVec 512) : List Byte := leBytes 64 k.toNat

def KeyState.code : KeyState → Nat | .empty => 0 | .enrolled => 1 | .revoked => 2

def noKey : KeySlot := { st := .empty, key := 0, role := 0 }
def State.dmSlot (s : State) (k : Nat) : KeySlot := tabGet noKey s.sec.dm k
def State.mgSlot (s : State) (k : Nat) : KeySlot := tabGet noKey s.sec.mg k

/-- A read-only entry whose value follows from other state. -/
def State.roVal (s : State) (src ix sub : Nat) : Option OdVal :=
  let n := fun (v : Nat) => some (OdVal.num v)
  if ix = 0x1010 then (if sub = 1 then n s.zl.strap else none)
  else if ix = 0x1020 then (if sub = 1 then n s.zl.sessions.length else none)
  else if 0x1200 ≤ ix ∧ ix < 0x120C then (s.idRec ix sub).map OdVal.bytes
  else if ix = 0x2000 then n s.mode
  else if ix = 0x2001 then
    (match sub with
     | 3 => n (s.rf CFG_STATUS_STATE)
     | 4 => n ((s.rb CFG_STATUS_DONE).toNat + 2 * (s.rb CFG_STATUS_REFUSED).toNat + 4 * (s.rb CFG_STATUS_CRC_BAD).toNat)
     | 5 => n (s.rf CFG_STATUS_REASON)
     | 6 => n s.failIndex
     | 7 => n s.failSub
     | 8 => n (s.rf CFG_CRC_STAGED_CRC)
     | 9 => n (s.rf CFG_CRC_RUNNING_CRC)
     | _ => none)
  else if ix = 0x2020 then (if sub = 1 then n (s.rf PWR_STATUS_STATE) else if sub = 8 then n (s.rf PWR_STATUS_RESULT) else none)
  else if ix = 0x2030 then (if sub = 4 ∨ sub = 5 then n (s.src ix sub src 0) else none)
  else if 0x3201 ≤ ix ∧ ix < 0x3217 then
    (if sub = 1 then n (s.pdl.countP (fun e => e.1 == ix - 0x3200))
     else if sub = 2 then n (s.spareUsed (ix - 0x3200)) else n (s.spareFree (ix - 0x3200)))
  else if 0x4180 ≤ ix ∧ ix < 0x41C0 then
    let c := s.lc (ix - 0x4180)
    (match sub with
     | 1 => n (c.evals % 2 ^ 64)
     | 2 => n c.gset
     | 3 => n (min c.satTotal 65535)
     | 4 => n (min c.misses (2 ^ 32 - 1))
     | 5 => n (min c.overruns (2 ^ 32 - 1))
     | 6 => n c.uLast
     | 7 => n c.maxDiff
     | 8 => n c.rms
     | 9 => n (c.first.getD (2 ^ 64 - 1))
     | _ => n (c.skipped % 2 ^ 64))
  else if ix = 0x6050 then (if sub = 5 then n s.mstage.reason else none)
  else if 0x6200 ≤ ix ∧ ix < 0x622C then
    some (.bytes ((tabGet [] s.calSet (8 * (ix - 0x6200) + (sub - 1))).flatMap (fun e => leBytes 4 e.2)))
  else if ix = 0x7010 then (if sub = 2 then n s.nsCount else if sub = 3 then n s.nsStripes else none)
  else if ix = 0x7020 then (if sub = 3 then n s.dropped else none)
  else if ix = 0x8000 then (if sub = 2 then n s.percentUsed else if sub = 3 then n s.worst.1 else none)
  else if 0x8100 ≤ ix ∧ ix < 0x8194 then
    let d := s.ind (ix - 0x8100)
    (match sub with
     | 1 => n (bfOfRat d.x 1000000)
     | 3 => n d.percent
     | 4 => n d.p50
     | 5 => n d.p10
     | 6 => n d.conf
     | 7 => some (.bytes d.history)
     | _ => none)
  else if ix = 0x9000 then
    (match sub with
     | 1 => n s.recd.cur.keepCount
     | 2 => n s.recd.cur.wrIdx
     | 3 => n s.recd.cur.wrapped.toNat
     | 4 => n s.recd.cur.seqNext
     | 5 => n s.recd.cur.lost
     | 6 => n s.recd.cur.suppressed
     | 10 => n s.rcState
     | 11 => n s.recd.cur.clearCount
     | 12 => n s.recd.cur.laps
     | _ => none)
  else if ix = 0x9010 ∨ ix = 0x9011 then some (.bytes (s.rcArea (ix - 0x9010) sub))
  else if ix = 0xA001 then some (.bytes sourceList)
  else if 0xA100 ≤ ix ∧ ix < 0xA380 then
    (match srcRow (reactSrc ix sub) with
     | some r => if r.own then n (s.ownClass (reactSrc ix sub) (ownCell (reactSrc ix sub))) else none
     | none => none)
  else if ix = 0xB003 then (if sub = 2 then n s.sec.modeCause else none)
  else if 0xB010 ≤ ix ∧ ix < 0xB014 then
    let k := s.dmSlot (ix - 0xB010)
    (match sub with | 1 => n k.st.code | 2 => some (.bytes (keyBytes k.key)) | _ => none)
  else if 0xB020 ≤ ix ∧ ix < 0xB028 then
    let k := s.mgSlot (ix - 0xB020)
    (match sub with | 1 => n k.st.code | 2 => some (.bytes (keyBytes k.key)) | 3 => n k.role | _ => none)
  else if ix = 0xB030 then (if sub = 3 then n (s.sec.quoteCount % 2 ^ 64) else none)
  else if ix = 0xB040 then (if sub = 2 then n s.sec.formatReason else none)
  else if ix = 0xB050 then (if sub = 5 then n (s.rf SEC_SWITCH_RESULT) else none)
  else if ix = 0xC010 then
    (match sub with | 3 => n s.stripesNow | 4 => n s.holes.length | 5 => n s.openStripes.length | _ => none)
  else if 0xC040 ≤ ix ∧ ix < 0xC050 then
    (match sub with
     | 5 => n (s.poolFree (ix - 0xC040))
     | 6 => n (s.pl (ix - 0xC040)).minFree
     | 7 => n (s.pl (ix - 0xC040)).emptyCount
     | _ => none)
  else if ix = 0xC070 then (match sub with | 5 => n s.obj.slots.length | 6 => n s.objFree | 7 => n s.objState | _ => none)
  else if ix = 0xF020 then (match sub with | 6 => n s.mrec.st | 7 => n s.mrec.wr | 8 => n s.mrec.lost | 11 => n s.mrec.rpSt | _ => none)
  else none

/-- The value of an entry as a source reads it (R428): the staged value of RWC entries, or the one in force where RUNNING asks for it. -/
def State.odVal (s : State) (src ix sub : Nat) (running : Bool) : OdVal :=
  match s.odEntry ix sub with
  | none => .num 0
  | some r =>
    if sub = 0 then .num r.d44
    else if ix = 0xB030 ∧ sub = 1 then .bytes (tabGet (List.replicate 32 0) s.nonce src)
    else match s.roVal src ix sub with
      | some v => v
      | none =>
        if r.perSrc then .num (s.src ix sub src r.d44)
        else if running && (r.acc == .rwc || r.chk) then (tabFind s.odRun (odKey ix sub)).getD (r.dflt s.part ix)
        else (tabFind s.od (odKey ix sub)).getD (r.dflt s.part ix)

/-- The bytes a read returns (R427). -/
def State.odBytes (s : State) (src ix sub : Nat) (running : Bool) : List Byte :=
  match s.odEntry ix sub with
  | some r => (s.odVal src ix sub running).encode r.ty
  | none => []

/-- INFO (R432): type, class, flags, reserved, maximum length. -/
def State.odInfo (s : State) (ix sub : Nat) : List Byte :=
  match s.odEntry ix sub with
  | some r => leBytes 1 r.ty.code ++ leBytes 1 r.acc.code ++ leBytes 1 (r.p.toNat + 2 * (s.odPending.contains (odKey ix sub)).toNat) ++ leBytes 1 0
      ++ leBytes 4 (if r.ty.isNum then r.ty.len else min r.max 131072)
  | none => []

/-- The answer of the dictionary engine to a source. -/
def State.odAnswer (s : State) (src status : Nat) (v : List Byte) : State := s.emit (.od src status v)

end Sys2Proof.Machine
end

