-- ==== Sys2Proof/Machine/Faults.lean ====
section
/-! DEFINITION. Faults.lean: fault collection and reaction (20_faults.md). -/

namespace Sys2Proof.Machine
open Sys2Proof

/-- R465's table, columns "Actuators parked" and, for DAT, the gates closed by cause FAULT. -/
def State.c3Start (s : State) (rg src : Nat) : State :=
  if rg = MOT then (s.inhibitAll inhFAULT true).retractAll
  else if rg = DAT then s.inhibitAll inhFAULT true
  else if rg = MED then (s.c3Acts rg src).foldl (fun t a => (t.inhibits inhFAULT true (chansOf a)).startPark a) s
  else s

/-- The regions of the participants of the entry in progress (R478). -/
def State.entryRegions (s : State) : List Nat :=
  let t := s.rf PWR_STATUS_PEND
  if t = 4 then [SYS, HST, DAT, MOT, MED] else if t = 3 then [HST, DAT, MOT, MED] else if t = 2 then [HST, MOT, MED] else [HST, MED]

/-- The reaction that a record of class C3 starts before its restart (R465): flush, park or retract, gates closed; a second C3 of the
region within 1 s of its restart's end is a C4. A power entry in progress that has not committed ends ABORTED_FAULT (R479). -/
def State.c3Begin (s : State) (rg src : Nat) : State :=
  let s : State := if s.entryRegions.contains rg then s.abortEntry 7 (rg != MOT && rg != MED) else s
  match tabFind s.fc.restartEnd rg with
  | some t => if s.coreTime.toNat - t < 1000 * cyclesPerMs then s.chipFatal else s.startFlush.c3Start rg src
  | none => s.startFlush.c3Start rg src

/-- The reaction of a class opened or reached in the chip record (R463, R464 step 3, R465, R466). -/
def State.react1 (s : State) (rg src cls : Nat) : State :=
  let s : State := (s.takeOn rg src cls).raiseHighest cls
  if cls = 3 then s.c3Begin rg src else if cls = 4 then s.chipFatal else s

/-- The first report of region r that waits for the chip collector, and the rest. -/
def takeUp (r : Nat) : List (Nat × UpReport) → Option (UpReport × List (Nat × UpReport))
  | [] => none
  | p :: l => if p.1 = r then some (p.2, l) else (takeUp r l).map (fun q => (q.1, p :: q.2))

/-- The chip collector takes a report (R462): it opens the device's record, counts duplicates or merges. A C0 or C1 record goes to the
recorder and closes when it is staged (R460); a C4 record goes there at once and never closes. -/
def State.chipTake (s : State) (rg : Nat) (u : UpReport) : State :=
  match u, s.fc.chip with
  | .opened r, none =>
    let s : State := { s with fc.chip := some r }
    let s : State := (s.cnt FC_STATUS_RECORDS).react1 rg r.source r.cls
    if r.cls ≤ 1 ∨ r.cls = 4 then s.enqueueRec true (s.faultRec r) else s
  | .opened r, some c =>
    if c.source = r.source then { s with fc.chip := some (c.addDup (1 + r.dup)) }
    else ({ s with fc.chip := some (c.merge r.source r.cls) } : State).react1 rg r.source r.cls
  | .merge src cls, some c => ({ s with fc.chip := some (c.merge src cls) } : State).react1 rg src cls
  | .merge _ _, none => s

/-- CHIP_RECORD_OPEN (R462): the oldest waiting report of region r reaches the chip collector. -/
def execChipRecordOpen (r : Fin 5) (s : State) : Res :=
  match takeUp r.val s.fc.up with
  | none => .next s
  | some (u, l) => .next (({ s with fc.up := l } : State).chipTake r.val u)

/-- The chip record ends with a measured interruption and goes to the recorder (R460, R464 step 5). -/
def State.endRecord (s : State) (us : Nat) : State :=
  match s.fc.chip with
  | none => s
  | some r =>
    let r := { r with interrupt := min us 65535 }
    (({ s with fc.chip := some r } : State).enqueueRec false (s.faultRec r)).closeChip

/-- C2_REMAPPED (R464 step 5): completions resume, INTERRUPT is measured, the C2 record closes. -/
def execC2Remapped (us : Nat) (s : State) : Res :=
  match s.fc.chip with
  | some r => .next (if r.cls = 2 then s.endRecord us else s)
  | none => .next s

/-- The region waits for its restart: a record of class C3 names it (R463, R465). -/
def State.c3Waits (s : State) (r : Nat) : Bool :=
  (match s.fc.chip with | some c => c.cls == 3 | none => false) && s.fc.c3Regions.contains r && !s.fc.restarting.contains r

/-- The actuators that must be UNLOADED before region r restarts are so (R465). -/
def State.c3Parked (s : State) (r : Nat) : Bool :=
  match s.fc.chip with
  | some c => (s.c3Acts r c.source).all (fun a => !s.actLoaded a)
  | none => true

/-- CHIP_FATAL (R466): a C4 is detected or escalated. -/
def execChipFatal (src : BitVec 16) (s : State) : Res :=
  .next ((s.reportBy (srcRegion src.toNat) (srcBlock src.toNat) src.toNat 0 4 0 false).chipFatal)

/-- FC_CLEAR (R468): HIGHEST becomes the class of the active record, or 0; no effect after a C4. -/
def State.fcClear (s : State) : State :=
  if s.rb FC_STATUS_FATAL then s
  else s.wf FC_STATUS_HIGHEST (match s.fc.chip with | some r => r.cls | none => 0)

def execFcClear (s : State) : Res := .next s.fcClear

/-- The watchdog's period; 0 reads as 1 (R473). -/
def State.wdPeriod (s : State) : Nat := max (s.rf WD_CTRL_PERIOD) 1

/-- WD_KICK (R469): 0xA5C3 reloads the count; any other value is counted in BAD_KICKS. -/
def State.wdKick (s : State) (key : Nat) : State :=
  if key = 0xA5C3 then s.wf WD_STATUS_REMAIN s.wdPeriod else s.cnt WD_STATUS_BAD_KICKS

def execWdKick (key : BitVec 16) (s : State) : Res := .next (s.wdKick key.toNat)

/-- WD_CTRL_WRITE (R469): PERIOD takes effect at the next reload; EN is RWS, so it changes outside Service mode only (R7); EN 0 to 1
reloads the count. -/
def State.wdCtrl (s : State) (v : Nat) : State :=
  let t : State := s.wf WD_CTRL_PERIOD v
  if s.mode = modeService then t
  else
    let en := bitOf v 16
    let t : State := t.wb WD_CTRL_EN en
    if en && !s.rb WD_CTRL_EN then t.wf WD_STATUS_REMAIN t.wdPeriod else t

def execWdCtrlWrite (v : Word) (s : State) : Res := .next (s.wdCtrl v.toNat)

/-- WATCHDOG_EXPIRY (R469): a running watchdog expires, C4 source 0x1FC0; ALIVE stops (R467). A stopped one does not count. -/
def execWatchdogExpiry (s : State) : Res :=
  if s.rb WD_CTRL_EN then .next (((s.wb WD_STATUS_EXPIRED true).wf WD_STATUS_REMAIN 0).reportAs 0x1FC0 4) else .next s

/-- A qualified level of input i takes effect (R470): on PFAIL_N and PWRDIS their own commands follow; SHOCK inputs act through SHOCK_QUALIFY. -/
def State.setLevel (s : State) (i : Nat) (level : Bool) : State := s.wbit IF_STATUS_LEVEL i level

/-- INPUT_STUCK (R470): an input active past STUCK_T raises its stuck source, C1; a stuck SHOCK input merges the failed-sensor C2 of R256
and SHOCK stays set; PFAIL and PWRDIS stay honoured. -/
def execInputStuck (i : Fin 5) (s : State) : Res :=
  if s.rbit IF_STATUS_LEVEL i.val && !s.rbit IF_STATUS_STUCK i.val then
    let s : State := (s.wbit IF_STATUS_STUCK i.val true).report (srcId SYS 1 (2 * i.val))
    .next (if 2 ≤ i.val then (s.report (srcId MOT 13 1) (i.val - 2)).inhibitAll inhSHOCK true else s)
  else .next s

/-- INPUT_CHATTER (R470): more than EDGE_MAX qualified edges in 1 ms raise the chattering source, C1; the last stable value is held. -/
def execInputChatter (i : Fin 5) (s : State) : Res :=
  if s.rbit IF_STATUS_CHATTER i.val then .next s
  else
    let s : State := (s.wbit IF_STATUS_CHATTER i.val true).report (srcId SYS 1 (2 * i.val + 1))
    .next (if 2 ≤ i.val then s.inhibitAll inhSHOCK true else s)

/-- INPUT_REQUALIFY (R470): 10 ms with no raw edge end a chatter, 10 ms inactive end a stuck input. -/
def execInputRequalify (i : Fin 5) (s : State) : Res :=
  let s : State := if s.rbit IF_STATUS_STUCK i.val then s.wbit IF_STATUS_LEVEL i.val false else s
  .next ((s.wbit IF_STATUS_CHATTER i.val false).wbit IF_STATUS_STUCK i.val false)

/-- TEMP_SENSE_WINDOW (R472): 1 s outside the window is source 10 of the input filters, C1, and T_AMB_DEF is used (R275); 1 s inside
qualifies the input again. -/
def execTempSenseWindow (inside : Bool) (s : State) : Res :=
  if inside then .next (s.wb IF_STATUS_TEMP_OOW false)
  else if s.rb IF_STATUS_TEMP_OOW then .next s
  else .next ((s.wb IF_STATUS_TEMP_OOW true).report (srcId SYS 1 10))

end Sys2Proof.Machine
end

