-- ==== Sys2Proof/Machine/Security.lean ====
section
/-! DEFINITION. Security.lean: keys, boot confirmation, firmware download and switch-over, format images, attestation, retirement and recalibration
(23_security_maintenance.md). Signatures, hashes and what a firmware image holds are operands (log 8). -/

namespace Sys2Proof.Machine
open Sys2Proof

/-! ### Key slots (R508) -/

/-- A Zalene session ends: its slot, buffers and events are released (19_object_dictionary.md R446). -/
def State.sessionEnd (s : State) (slot : Nat) : State :=
  { s with zl.sessions := tabDel s.zl.sessions slot, asm := s.asm.filter (fun p => p.2.src != 8 + slot) }

/-- Sessions opened with a management key that is revoked close at once. -/
def State.closeKey (s : State) (slot : Nat) : State :=
  (s.zl.sessions.filter (fun p => p.2.key == slot)).foldl (fun t p => t.sessionEnd p.1) s

/-- The slots of a store: 4 drive-maker, 8 management. -/
def State.keySlots (s : State) (mgmt : Bool) : List KeySlot := if mgmt then (List.range 8).map s.mgSlot else (List.range 4).map s.dmSlot
def State.oneKey (s : State) (mgmt : Bool) (slot : Nat) : KeySlot := if mgmt then s.mgSlot slot else s.dmSlot slot
def State.putKey (s : State) (mgmt : Bool) (slot : Nat) (k : KeySlot) : State :=
  if mgmt then { s with sec.mg := tabSet s.sec.mg slot k } else { s with sec.dm := tabSet s.sec.dm slot k }

/-- The write of a key slot after the checks that every access makes: BAD_VALUE, RANGE, LOCKED, AUTH in the order of R432. -/
def State.keyPut (s : State) (mgmt : Bool) (slot : Nat) (key : BitVec 512) (role : Nat) (sigOk : Bool) : State × Nat :=
  let live := (s.keySlots mgmt).countP (fun k => k.st == .enrolled)
  let zero := key == 0
  if zero && live == 1 && (s.oneKey mgmt slot).st == .enrolled then (s, odBAD)
  else if mgmt && !zero && !decide (1 ≤ role ∧ role ≤ 3) then (s, odRANGE)
  else if !s.wrEn 2 SYS then (s, odLOCKED)
  else if live ≠ 0 ∧ !sigOk then (s, odAUTH)
  else if zero then
    let s : State := s.putKey mgmt slot { st := .revoked, key := 0, role := 0 }
    (if mgmt then s.closeKey slot else s, odOK)
  else (s.putKey mgmt slot { st := .enrolled, key := key, role := if mgmt then role else 0 }, odOK)

/-- Index of a key slot's entries. -/
def keyIx (mgmt : Bool) (slot : Nat) : Nat := if mgmt then 0xB020 + slot else 0xB010 + slot

def State.keyWrite (s : State) (src : Nat) (mgmt : Bool) (slot : Nat) (key : BitVec 512) (role : Nat) (sigOk : Bool) : State × Nat :=
  let a := s.odPre (s.srcRole src) (keyIx mgmt slot) (if mgmt then 4 else 3) true false
  if a ≠ odOK then (s, a) else s.keyPut mgmt slot key role sigOk

/-- A dictionary request that ends with a status and no value. -/
def State.odDone (s : State) (src : Nat) (r : State × Nat) : State := if s.odRuns then r.1.odAnswer src r.2 [] else s

/-- KEY_SLOT_WRITE (R508). -/
def execKeySlotWrite (src : Fin 16) (mgmt : Bool) (slot : Fin 8) (key : BitVec 512) (role : BitVec 8) (sigOk : Bool) (s : State) : Res :=
  .next (s.odDone src.val (s.keyWrite src.val mgmt slot.val key role.toNat sigOk))

/-! ### Confirmation, MIN_SVN, mode requests (R513 to R515, R525) -/

/-- The requester is a service core (R525). -/
def isCore (q : Nat) : Bool := decide (3 ≤ q) && decide (q ≤ 6)

/-- The commit of a switch-over completes: an NVMe commit gets its completion, a dictionary commit was answered when it was accepted. -/
def State.swDone (s : State) (w : Switchover) (status : Nat) : State :=
  let s : State := { s with sec.sw := none }
  match w.owner with
  | .nvme q => s.adminDone q.val w.cid status 0
  | .od _ => s

/-- Step 5 of R517: the record names the slot, and the commit completes. -/
def State.swConfirm (s : State) (w : Switchover) : State :=
  let s : State := s.writeSel (fun r => { r with active := w.slot })
  (((s.wf SEC_SWITCH_STATE 0).wf SEC_SWITCH_RESULT 0).wb SEC_STATUS_PENDING_BOOT false).swDone w 0

/-- CONFIRM (R513, R517): confirms a switch-over in its step 4, or a pending image once start-up has reached step 12. -/
def State.secConfirm (s : State) (q : Nat) : State :=
  if !isCore q then s
  else match s.sec.sw with
    | some w => if s.rf SEC_SWITCH_STATE = 5 then s.swConfirm w else s
    | none =>
      if s.pwr.startStep = 12 ∧ s.rb SEC_STATUS_PENDING_BOOT then
        (s.writeSel (fun r => { r with active := if r.pending = 0xFF then r.active else r.pending, pending := 0xFF, tries := 0 })).wb
          SEC_STATUS_PENDING_BOOT false
      else s

def execSecConfirm (q : Fin 8) (s : State) : Res := .next (s.secConfirm q.val)

/-- SVN_COMMIT (R513): MIN_SVN rises to the running image's SVN, unless the other slot holds a verified image of lower SVN. -/
def State.svnCommit (s : State) (q : Nat) : State :=
  let other := s.image (1 - s.rf SEC_STATUS_BOOT_SLOT)
  let run := s.rf SEC_FWSVN_FW_SVN
  if !isCore q then s
  else if s.verifyImage other = 0 ∧ other.svn.toNat < run then s
  else { s with sec.minSvn := max s.sec.minSvn run }

def execSvnCommit (q : Fin 8) (s : State) : Res := .next (s.svnCommit q.val)

def State.reqRecovery (s : State) : State := s.writeSel (fun r => { r with recoveryReq := true })
def State.reqTest (s : State) : State := s.writeSel (fun r => { r with testReq := true })

/-- SEC_RECOVERY and SEC_TEST (R525, R515): from a service core, for the next reset. -/
def execSecRecovery (q : Fin 8) (s : State) : Res := .next (if isCore q.val then s.reqRecovery else s)
def execSecTest (q : Fin 8) (s : State) : Res := .next (if isCore q.val then s.reqTest else s)

/-- MODE_REQ (R515): 1 TEST, 2 RECOVERY. -/
def State.modeReq (s : State) (v : Nat) : State := if v = 1 then s.reqTest else if v = 2 then s.reqRecovery else s

/-- A write of a WO entry of one byte: its checks, then what it does. -/
def State.odCommand (s : State) (src ix sub v : Nat) (f : State → State) : State × Nat :=
  let a := s.odWriteStatus (s.srcRole src) ix sub (leBytes 1 v) false
  if a ≠ odOK then (s, a) else (f s, odOK)

def execModeReq (src : Fin 16) (v : BitVec 8) (s : State) : Res :=
  .next (s.odDone src.val (s.odCommand src.val 0xB003 1 v.toNat (fun t => t.modeReq v.toNat)))

/-! ### Download (R516) -/

/-- A part of a download: accepted, or refused because another source owns the buffer (NO_RESOURCE), no download is open at that offset (SEGMENT), or the
part reaches beyond 4 MiB (RANGE). -/
def State.fwPart (s : State) (owner : FwSource) (offset len : Nat) : State × Nat :=
  match s.sec.dl with
  | some d =>
    if d.owner ≠ owner then (s, odNORES)
    else if 2 ^ 22 < offset + len then (s, odRANGE)
    else ({ s with sec.dl := some { d with size := max d.size (offset + len), parts := d.parts + 1 } }, odOK)
  | none =>
    if offset ≠ 0 then (s, odSEGMENT)
    else if 2 ^ 22 < len then (s, odRANGE)
    else ({ s with sec.dl := some { owner := owner, size := len, parts := 1 } }, odOK)

/-- FW_CHUNK (R516, R518): a DOMAIN of at most 131,072 bytes at FW_OFFSET. -/
def State.fwChunk (s : State) (src : Fin 16) (bytes : List Byte) : State × Nat :=
  let a := s.odWriteStatus (s.srcRole src.val) 0xB050 2 bytes false
  if a ≠ odOK then (s, a) else s.fwPart (.od src) (s.src 0xB050 1 src.val 0) bytes.length

/-- A dictionary request that needs the firmware is held while a switch-over runs (R517). -/
def State.odHeld (s : State) (src : Nat) (r : State × Nat) : State := if s.sec.sw.isSome then s else s.odDone src r

def execFwChunk (src : Fin 16) (bytes : List Byte) (s : State) : Res := .next (s.odHeld src.val (s.fwChunk src bytes))

/-- DOWNLOAD_IDLE_TIMEOUT (R516). -/
def execDownloadIdleTimeout (s : State) : Res := .next { s with sec.dl := none }

/-! ### Commits and switch-over (R516, R517) -/

def rsRUNNING : Nat := 0x12

/-- A slot's image is written (R516); in Recovery a verified write clears RECOVERY_REQ (R525). -/
def State.putImage (s : State) (slot : Nat) (i : ImageInfo) : State :=
  let s : State := if slot = 0 then { s with sec.imgA := i } else { s with sec.imgB := i }
  if s.mode = modeRecovery ∧ s.sec.sel.recoveryReq then s.writeSel (fun r => { r with recoveryReq := false }) else s

/-- PENDING := slot; its boots are counted anew. -/
def State.setPending (s : State) (slot : Nat) : State := s.writeSel (fun r => { r with pending := slot, tries := 0 })

/-- A commit of actions 0 to 3 on slot 0 A or 1 B: the reason of R512 or RUNNING_SLOT, 0 on success. -/
def State.fwCommit (s : State) (owner : FwSource) (cid action slot : Nat) (i : ImageInfo) : State × Nat :=
  let mine : Bool := match s.sec.dl with | some d => d.owner == owner | none => false
  let s : State := if action ≠ 2 ∧ mine then { s with sec.dl := none } else s
  let r := if action = 2 then s.verifyImage (s.image slot)
    else if s.mode ≠ modeRecovery ∧ slot = s.rf SEC_STATUS_BOOT_SLOT then rsRUNNING
    else if !mine then 0x02
    else s.verifyImage i
  let s : State := s.wf SEC_SWITCH_RESULT r
  if r ≠ 0 then (s, r)
  else
    let s : State := if action = 2 then s else s.putImage slot i
    let s : State := if action = 1 ∨ action = 2 then s.setPending slot else s
    (if action = 3 then { s.wf SEC_SWITCH_STATE 2 with sec.sw := some { slot := slot, old := s.rf SEC_STATUS_BOOT_SLOT, owner := owner, cid := cid } } else s, 0)

/-- The download buffer belongs to another source: its commit is refused like its parts. -/
def State.fwForeign (s : State) (owner : FwSource) (action : Nat) : Bool :=
  action != 2 && (match s.sec.dl with | some d => d.owner != owner | none => false)

/-- FW_CMD (R518): values 1 to 4 on FW_SLOT; FW_RESULT gives the outcome. -/
def State.fwCmd (s : State) (src : Fin 16) (v : Nat) (i : ImageInfo) : State × Nat :=
  let a := s.odWriteStatus (s.srcRole src.val) 0xB050 4 (leBytes 1 v) false
  if a ≠ odOK then (s, a)
  else if s.fwForeign (.od src) (v - 1) then (s, odNORES)
  else ((s.fwCommit (.od src) 0 (v - 1) (s.src 0xB050 3 src.val 1 - 1) i).1, odOK)

def execFwWrite (src : Fin 16) (im : ImageInfo) (s : State) : Res := .next (s.odHeld src.val (s.fwCmd src 1 im))
def execFwWriteAtReset (src : Fin 16) (im : ImageInfo) (s : State) : Res := .next (s.odHeld src.val (s.fwCmd src 2 im))
def execFwActivateAtReset (src : Fin 16) (s : State) : Res := .next (s.odHeld src.val (s.fwCmd src 3 blankImage))
def execFwWriteNow (src : Fin 16) (im : ImageInfo) (s : State) : Res := .next (s.odHeld src.val (s.fwCmd src 4 im))

/-- FIRMWARE_DOWNLOAD (R516). -/
def execFirmwareDownload (q : Fin 2) (cid : BitVec 16) (offset : BitVec 32) (bytes : List Byte) (s : State) : Res :=
  .next (s.adminRun q.val cid.toNat (fun t =>
    let r := t.fwPart (.nvme q) offset.toNat bytes.length
    (r.1, some (if r.2 = odOK then 0 else scFIELD, 0))))

/-- Slot of a Firmware Commit: 1 A, 2 B; 0 leaves the choice to the controller, which takes the slot not running (log 25). -/
def State.nvSlot (s : State) (slot : Nat) : Option Nat :=
  match slot with
  | 0 => some (1 - s.rf SEC_STATUS_BOOT_SLOT)
  | 1 => some 0
  | 2 => some 1
  | _ => none

/-- FIRMWARE_COMMIT (R516): Invalid Firmware Slot 0x106, Invalid Firmware Image 0x107; the completion of action 3 comes with step 5 of R517. -/
def State.nvCommit (s : State) (q : Fin 2) (cid action slot : Nat) (i : ImageInfo) : State × Option (Nat × Nat) :=
  if 3 < action then fail0 s scFIELD
  else match s.nvSlot slot with
    | none => fail0 s 0x106
    | some k =>
      if s.fwForeign (.nvme q) action then fail0 s scFIELD
      else
        let r := s.fwCommit (.nvme q) cid action k i
        if r.2 = rsRUNNING then fail0 r.1 0x106
        else if r.2 ≠ 0 then fail0 r.1 0x107
        else if action = 3 then (r.1, none)
        else ok0 r.1

def execFirmwareCommit (q : Fin 2) (cid : BitVec 16) (action slot : BitVec 3) (im : ImageInfo) (s : State) : Res :=
  .next (s.adminRun q.val cid.toNat (fun t => t.nvCommit q cid.toNat action.toNat slot.toNat im))

/-- SWITCHOVER_STEP_DONE (R517): LOAD, QUIESCE, HANDOFF, CONFIRM in turn; the watchdog is reloaded at steps 2 and 4; an abandoned one completes its
commit with Internal Error. -/
def State.swStep (s : State) : State :=
  match s.sec.sw with
  | none => s
  | some w =>
    match s.rf SEC_SWITCH_STATE with
    | 0 => s.swDone w scINTERNAL
    | 2 => (s.wf SEC_SWITCH_STATE 3).wf WD_STATUS_REMAIN s.wdPeriod
    | 3 => s.wf SEC_SWITCH_STATE 4
    | 4 => ((s.runSlot w.slot).wf SEC_SWITCH_STATE 5).wf WD_STATUS_REMAIN s.wdPeriod
    | _ => s.swConfirm w

def execSwitchoverStepDone (s : State) : Res := .next s.swStep

/-- SWITCHOVER_CONFIRM_TIMEOUT (R517 step 6): the banks exchange back, REVERTED, C1; the record is unchanged. -/
def State.swRevert (s : State) : State :=
  match s.sec.sw with
  | none => s
  | some w =>
    if s.rf SEC_SWITCH_STATE = 5 then
      ((((s.runSlot w.old).wf SEC_SWITCH_STATE 0).wf SEC_SWITCH_RESULT 0x10).swDone w scINTERNAL).report (srcId SYS 8 32) 0 w.slot
    else s

def execSwitchoverConfirmTimeout (s : State) : Res := .next s.swRevert

/-! ### Format images (R518) -/

/-- A stored value of an RWC or RWS entry (R428, R429): RWC staged; RWS stored and persisted, PENDING where it is checked at commit. -/
def State.odStore (s : State) (ix sub : Nat) (r : OdRow) (v : List Byte) : State :=
  let x : OdVal := if r.ty.isNum then .num (leNat v) else .bytes v
  if r.acc = .rwc then s.odPut ix sub x
  else
    let s : State := if r.p then s.odKeep ix sub x else s.odPut ix sub x
    if r.chk then { s with odPending := insertIx (odKey ix sub) s.odPending } else s

/-- A record names an entry that a format image may carry, and its value passes R427. -/
def State.fmtOk (s : State) (x : FmtRecord) : Bool :=
  let ix := x.ix.toNat
  let sub := x.sub.toNat
  (decide (0x3000 ≤ ix ∧ ix < 0x7000) || ix == 0xC010)
  && (match s.odEntry ix sub with
      | some r => (r.acc == .rws || r.acc == .rwc) && !(s.odValue ix sub r x.value == odLENGTH || s.odValue ix sub r x.value == odBAD)
      | none => false)

/-- A record is written as by a CONFIGURE source. -/
def State.fmtPut (s : State) (x : FmtRecord) : State :=
  match s.odEntry x.ix.toNat x.sub.toNat with
  | some r => if s.odWriteStatus 3 x.ix.toNat x.sub.toNat x.value true = odOK then s.odStore x.ix.toNat x.sub.toNat r x.value else s
  | none => s

/-- Applies an image whose checks of R210 gave `check`. -/
def State.fmtApply (s : State) (check : Nat) (records : List FmtRecord) (hash : BitVec 256) : State × Nat :=
  if check ≠ 0 then ({ s with sec.formatReason := check }, if check = 4 ∨ check = 5 then odAUTH else odBAD)
  else if !records.all s.fmtOk then ({ s with sec.formatReason := 0x0D }, odBAD)
  else ({ records.foldl (fun t x => t.fmtPut x) s with sec.formatReason := 0, sec.formatHash := hash }, odOK)

/-- FORMAT_IMAGE (R518). -/
def State.formatImage (s : State) (src check : Nat) (records : List FmtRecord) (hash : BitVec 256) : State × Nat :=
  let a := s.odPre (s.srcRole src) 0xB040 1 true false
  let b := s.odPost 0xB040 1 true
  if a ≠ odOK then (s, a) else if b ≠ odOK then (s, b) else s.fmtApply check records hash

def execFormatImage (src : Fin 16) (check : Fin 7) (records : List FmtRecord) (hash : BitVec 256) (s : State) : Res :=
  .next (s.odHeld src.val (s.formatImage src.val check.val records hash))

/-! ### Attestation (R519) -/

def hashBytes (h : BitVec 256) : List Byte := leBytes 32 h.toNat

/-- The 296 bytes of the quote: the hashes of microcode and keys, the running image's hash in Recovery, and the signature are free bytes (log 8). -/
def State.quoteBytes (s : State) (src : Nat) : State × List Byte :=
  let f := s.freeBytes 160
  let slot := s.rf SEC_STATUS_BOOT_SLOT
  let other := s.image (1 - slot)
  let count := s.sec.quoteCount + 1
  let b := [0x4F, 0x41, 0x54, 0x51] ++ leBytes 2 1 ++ leBytes 1 s.mode ++ leBytes 1 0
    ++ tabGet (List.replicate 32 0) s.nonce src
    ++ (if s.mode = modeRecovery then (f.2.drop 128).take 32 else hashBytes (s.image slot).hash)
    ++ (if s.verifyImage other = 0 then hashBytes other.hash else List.replicate 32 0)
    ++ f.2.take 32 ++ hashBytes s.sec.formatHash ++ (f.2.drop 32).take 32
    ++ leBytes 4 (s.rf CFG_CRC_RUNNING_CRC) ++ leBytes 4 s.sec.minSvn ++ leBytes 4 (s.rf SEC_FWSVN_FW_SVN) ++ leBytes 4 s.sec.bootCount
    ++ leBytes 8 count ++ leBytes 8 s.coreTime.toNat ++ (f.2.drop 64).take 64
  (f.1, b)

/-- A read of QUOTE: the count rises, and the quote is returned. -/
def State.quoteRead (s : State) (src : Nat) : State × List Byte :=
  let r := s.quoteBytes src
  let s : State := r.1
  ({ s with sec.quoteCount := s.sec.quoteCount + 1 }, r.2)

def State.quote (s : State) (src : Nat) : State :=
  let a := s.odPre (s.srcRole src) 0xB030 2 false false
  let b := s.odPost 0xB030 2 false
  if !s.odRuns then s
  else if a ≠ odOK then s.odAnswer src a []
  else if b ≠ odOK then s.odAnswer src b []
  else
    let r := s.quoteRead src
    (r.1.emit (.quote src (r.1.sec.quoteCount) r.2)).odAnswer src odOK r.2

def execQuote (src : Fin 16) (s : State) : Res := .next (s.quote src.val)

/-! ### Maintenance (R520 to R524) -/

def mtKind (u : Nat) : Nat := u / 4096
def mtNum (u : Nat) : Nat := u % 4096

/-- The unit exists on the part. -/
def State.mtUnitOk (s : State) (u : Nat) : Bool :=
  match mtKind u with
  | 0 => decide (mtNum u < s.nChan)
  | 1 => decide (mtNum u < s.nLane)
  | 2 => decide (mtNum u < 16)
  | 3 => decide (mtNum u < 4)
  | 4 => decide (mtNum u < 11 * s.nAct)
  | _ => false

/-- The channel stands at a boundary: gates closed, TARGET empty (R521). -/
def State.atBoundary (s : State) (n : Nat) : Bool := !(s.ch n).rgate && !(s.ch n).wgate && (s.ch n).target.isNone

/-- A channel retires: its FIFO is requeued and its loop cell disabled (R521 step 1). -/
def State.chanOut (s : State) (n : Nat) : State :=
  let fifo := (s.ch n).fifo
  let s : State := fifo.foldl (fun t c => t.requeue c) (s.modCh n (fun c => { c with fifo := [], retired := true, retireBy := none }))
  s.modLc n (fun c => { c with live := false, ready := none })

/-- RETIRE of a unit. -/
def State.mtRetire (s : State) (src : Nat) : State :=
  let u := s.src 0x2030 1 src 0
  let k := mtNum u
  let done := fun (t : State) => t.setMt src 2 0
  let fail := fun (r : Nat) => s.setMt src 3 r
  if !s.mtUnitOk u then fail 0x01
  else match mtKind u with
    | 0 =>
      if (s.ch k).retired || (s.ch k).retireBy.isSome then fail 0x03
      else if s.actLoaded (k / 8) && (chansOf (k / 8)).all (fun n => n == k || (s.ch n).retired) then fail 0x02
      else if s.atBoundary k then done (s.chanOut k)
      else (s.modCh k (fun c => { c with retireBy := some src })).setMt src 1 0
    | 1 => if s.lnSt k = lnRETIRED ∨ s.lnSt k = lnRETIRING then fail 0x03 else done (s.laneRetire k)
    | 2 => if s.pcSt k = pcRETIRED ∨ s.pcSt k = pcRELOCATING then fail 0x03 else done (s.pcRetire k)
    | 3 =>
      if (s.en k).retired then fail 0x03
      else if (List.range 4).all (fun e => e == k || (s.en e).retired) then fail 0x02
      else done ((s.engineOut k).modEn k (fun x => { x with soft := true }))
    | _ => if (s.hd k).retired then fail 0x03 else done (s.modHd k (fun x => { x with retired := true }))

/-- The checks of a write of MT_CMD, then its command. -/
def State.mtCommand (s : State) (src v : Nat) (f : State → State) : State := s.odHeld src (s.odCommand src 0x2030 2 v f)

/-- MT_RETIRE (R520, R521, R522, R524). -/
def execMtRetire (src : Fin 16) (s : State) : Res := .next (s.mtCommand src.val 1 (fun t => t.mtRetire src.val))

/-- A restored engine takes its channels back at their next descriptor boundary (R522). -/
def State.engineBack (s : State) (e : Nat) : State :=
  let s : State := s.modEn e (fun x => { x with retired := false, handed := false, soft := false })
  (List.range 16).foldl (fun t c =>
    let id := 16 * e + c
    let held := (List.range 4).any (fun k => (t.en k).runs.contains id)
    let t : State := (List.range 4).foldl (fun w k => w.modEn k (fun x => { x with runs := x.runs.erase id })) t
    if held then t.modEn e (fun x => { x with runs := x.runs ++ [id] }) else t) s

/-- RESTORE of a unit; `pass` is the verdict of the self-test of a lane, an engine or a head. -/
def State.mtRestore (s : State) (src : Nat) (pass : Bool) : State :=
  let u := s.src 0x2030 1 src 0
  let k := mtNum u
  let done := fun (t : State) => t.setMt src 2 0
  let fail := fun (t : State) (r : Nat) => t.setMt src 3 r
  if !s.mtUnitOk u then fail s 0x01
  else match mtKind u with
    | 0 =>
      if !(s.ch k).retired then fail s 0x03
      else if s.rf SQ_ERR_HALT_CAUSE k = 1 then fail s 0x07
      else done ((s.sqRestart k).modCh k (fun c => { c with retired := false }))
    | 1 =>
      if s.lnSt k ≠ lnRETIRED then fail s 0x03
      else if s.rf LN_ERR_RET_CAUSE k = 2 ∨ s.rf LN_ERR_RET_CAUSE k = 3 then fail s 0x07
      else if pass then done ((s.laneRestore k).laneTested k true) else fail ((s.laneRestore k).laneTested k false) 0x04
    | 2 => fail s 0x07
    | 3 =>
      if !(s.en k).retired then fail s 0x03
      else if !(s.en k).soft then fail s 0x07
      else if pass then done (s.engineBack k) else fail s 0x04
    | _ =>
      if !(s.hd k).retired then fail s 0x03
      else if pass then done (s.modHd k (fun x => { x with retired := false })) else fail s 0x04

def execMtRestore (src : Fin 16) (selftest : Bool) (s : State) : Res := .next (s.mtCommand src.val 2 (fun t => t.mtRestore src.val selftest))

/-- RECALIBRATE (R523): one at a time on an actuator; with no group chosen it is done. -/
def State.mtRecal (s : State) (src : Nat) : State :=
  let u := s.src 0x2030 1 src 0
  let k := mtNum u
  let groups := (List.range 8).filter (fun g => bitOf (s.src 0x2030 3 src 0xFF) g)
  if mtKind u ≠ 4 ∨ !s.mtUnitOk u then s.setMt src 3 0x01
  else if s.sec.recal.any (fun r => r.head / 11 == k / 11) then s.setMt src 3 0x06
  else if groups = [] then s.setMt src 2 0
  else { s.setMt src 1 0 with sec.recal := s.sec.recal ++ [{ src := src, head := k, groups := groups, retried := [], slot := 0xFF, withdrawn := false }] }

def execMtRecalibrate (src : Fin 16) (s : State) : Res := .next (s.mtCommand src.val 3 (fun t => t.mtRecal src.val))

/-- The highest-numbered slot of an actuator at a boundary, for a head that holds none (R523). -/
def State.spareSlot (s : State) (a : Nat) : Option Nat := (chansOf a).reverse.find? (fun n => s.slotUsable n && s.atBoundary n)

/-- RECAL_GROUP_VISIT (R523): groups in ascending order. Where the actuator stands in the group, the calibration of R131 starts on the head's slot, or a
slot is withdrawn and mapped to it; `waited` says that 10 s have passed, and the scheduler seeks to the group. -/
def State.recalVisit (s : State) (a g : Nat) (waited : Bool) : State :=
  match s.sec.recal.find? (fun r => r.head / 11 == a && r.slot == 0xFF) with
  | none => s
  | some r =>
    let h := r.head % 11
    if r.groups.head? ≠ some g then s
    else if s.groupAt a ≠ g then (if waited then s.seekReq a (s.zn (5 * g) 1) (2 ^ h) 0 else s)
    else match s.headChan a h with
      | some n =>
        let s : State := { s with sec.recal := s.sec.recal.map (fun x => if x.head = r.head then { x with slot := n } else x) }
        (s.wf CAL_CTRL_HEAD h n).calStart n
      | none => (match s.spareSlot a with
        | some n =>
          let s : State := { s with sec.recal := s.sec.recal.map (fun x => if x.head = r.head then { x with withdrawn := true } else x) }
          s.slotMap a (n % 8) h
        | none => s)

def execRecalGroupVisit (a : Fin 4) (g : Fin 8) (waited : Bool) (s : State) : Res := .next (s.recalVisit a.val g.val waited)

/-- CHANNEL_REMAP (R521): a RETIRE that waited is taken at the boundary; the retired channel's head is unmapped, and, if it has pending sectors and a slot
of the actuator is free, mapped to the lowest free slot by the frame behind the unmapping one. -/
def State.channelRemap (s : State) (n : Nat) : State :=
  let a := n / 8
  let s : State := match (s.ch n).retireBy with
    | some src => if s.atBoundary n then (s.chanOut n).setMt src 2 0 else s
    | none => s
  if !(s.ch n).retired then s
  else
    let h := s.slotHead n
    let s : State := s.modLc n (fun c => { c with live := false, ready := none })
    if h = 0xF then s
    else
      let s : State := s.slotMap a (n % 8) 0xF
      if s.sched.any (fun c => c.act == a && c.head == h) then
        match (chansOf a).find? (fun m => s.slotUsable m && s.slotHead m == 0xF) with
        | some m => s.plSlotCmd a (m % 8) { op := 0x01, payload := [plByte (m % 8), plByte h] }
        | none => s
      else s

def execChannelRemap (n : Fin 32) (s : State) : Res := .next (s.channelRemap n.val)

end Sys2Proof.Machine
end

