-- ==== Sys2Proof/Machine/Reactions.lean ====
section
/-! DEFINITION. Reactions.lean: the local action of each fault source, forced reports, and what the restart of a region does to its blocks
(20_faults.md R456, R459, R461, R465). -/

namespace Sys2Proof.Machine
open Sys2Proof

/-! ### Local actions (R455, R459, and the fault tables of the chapters) -/

/-- An action without the report that its own detection makes: the collectors stay as they are, but ALIVE stops with a C4. -/
def State.quiet (s : State) (f : State → State) : State :=
  let t : State := f s
  { t with fc := { s.fc with alive := t.fc.alive } }

/-- Region SYS: input filters, recorder and Zalene sources leave marks in status registers only. -/
def State.sysAction (s : State) (b num : Nat) : State :=
  if b = 1 then
    (if num = 10 then s.wb IF_STATUS_TEMP_OOW true
     else if num % 2 = 0 then
       let s : State := s.wbit IF_STATUS_STUCK (num / 2) true
       if 2 ≤ num / 2 then s.wbit SK_STATUS_ACTIVE (num / 2 - 2) true |>.inhibitAll inhSHOCK true else s
     else
       let s : State := s.wbit IF_STATUS_CHATTER (num / 2) true
       if 2 ≤ num / 2 then s.inhibitAll inhSHOCK true else s)
  else if b = 0 ∧ num = 1 then s.wb CLK_STATUS_AON_SRC false
  else if b = 18 then s.cnt REG_ERR_INFO_COUNT
  else s

/-- Region HST: a ring freezes; an object bucket has no action of its own. -/
def State.hstAction (s : State) (b num cell : Nat) : State :=
  if b = 4 ∧ 1 ≤ num ∧ num ≤ 11 then s.freezeRing cell num 0 0
  else if b = 4 ∧ num = 13 then s.freezeCr cell 0x0D
  else s

/-- Region DAT: memory and cache counters, refused releases, a DMA engine, a pseudo-channel. -/
def State.datAction (s : State) (b num cell : Nat) : State :=
  if b < 16 then (if s.pcSt b = pcACTIVE then s.pcDue b 5 else s)
  else if b = 16 ∧ num = 32 then (s.cnt ECC_CE_COUNT).cnt HBM_PC_CE_COUNT (cell % 16)
  else if b = 16 ∧ num = 34 then (s.cnt ECC_UE_COUNT).cnt HBM_PC_SC_UE (cell % 16)
  else if 18 ≤ b ∧ b < 34 ∧ num < 3 then s.pailErr (b - 18) cell (num + 2)
  else if b = 34 then (if num % 2 = 0 then s.cnt MCC_ERR_CORR else s.cnt MCC_ERR_INVAL)
  else if 36 ≤ b ∧ b < 40 then
    (if num = 2 then s.cnt DE_ERR_ECC_CORR (b - 36)
     else if num = 3 then (if (s.en (b - 36)).retired then s else s.engineOut (b - 36))
     else if num = 4 then { s with dtu.atc := [] }
     else s)
  else s

/-- Region MOT: lanes of the control engine, VCM drivers, shock qualifier, spindle. -/
def State.motAction (s : State) (b num cell : Nat) : State :=
  if b < 4 then
    (if num = 0 then s.cnt MC_ERR_ECC_CORR b
     else if num = 3 then s.cnt MC_ERR_NUMERIC b
     else s)
  else if 5 ≤ b ∧ b < 9 then
    let a := b - 5
    match num with
    | 0 => (s.wbit MA_STATUS_ACTIVE cell false a).modHd (headIx a cell) (fun x => { x with retired := true })
    | 1 => s.startPark a
    | 2 => (match s.headChan a cell with | some n => s.offTrack n | none => s)
    | 3 => ((s.modSv a (fun v => { v with quiet := 17 })).wf VC_HEADS_WRITE_RDY 0 a).inhibits inhOFFTRACK true (chansOf a)
    | 6 => s.retractRetire a 6
    | 8 => s.retractRetire a 8
    | 9 => s.modSv a (fun v => { v with fast := true, retireAt := true })
    | _ => if num = 4 ∨ num = 5 ∨ num = 7 then s.startPark a else s
  else if b = 13 then
    (if num = 0 then s.shockOn cell
     else s.inhibitAll inhSHOCK true)
  else if b = 14 then
    match num with
    | 0 => s.spMode spFAILED
    | 1 => s.spMode spFAILED
    | 2 => s.obsLoss
    | 4 => s.retractAll
    | 6 => (s.wb SP_STATUS_CHOP_FAULT true).retractAll.spProceed
    | 7 => (s.spMode spDISABLED).wb SP_STATUS_OV2 true
    | 8 => s.powerLost
    | 32 => s.spMode spDISABLED
    | _ => s
  else s

/-- Region MED: channels, TRUs, lanes, PA12 links, the shared code table. -/
def State.medAction (s : State) (b num cell : Nat) : State :=
  if b = 127 then { s with codeRetired := setBit s.codeRetired num true }
  else if b < 32 then
    match num with
    | 0 => s.cnt SQ_ERR_ECC_CORR b
    | 1 => s.sqHalt b 1
    | 2 => s.sqHalt b 2
    | 3 => ((s.sqDrop b).sqEntry b).cnt SQ_COUNT_WDOG b
    | 4 => s.cnt SB_STATUS_OVERRUN b
    | 5 => s.cnt WR_STATUS_UNDERRUN b
    | 6 => s.cnt SQ_COUNT_LATE b
    | 7 => s.wbit FE_STATUS_PH_SAT (cell % 3) true b
    | 8 => s.modHd (headIx (chAct b) (s.slotHead b)) (fun x => { x with readerExcl := setBit x.readerExcl (cell % 3) true }) |>.applyExcl b
    | 9 => s.modHd (headIx (chAct b) cell) (fun x => { x with retiredRead := true })
    | 10 => s.modHd (headIx (chAct b) cell) (fun x => { x with retiredWrite := true })
    | _ => s
  else if b < 36 then
    let a := b - 32
    match num with
    | 0 => s.truLoss a 5
    | 1 => ((s.modTr a (fun t => { t with failed := true })).startPark a).modSv a (fun v => { v with retireAt := true })
    | 2 => (match s.headChan a cell with | some n => s.trimClose a cell n | none => s)
    | _ => s.modHd (headIx a cell) (fun x => { x with retired := true })
  else if b < 100 then
    let k := b - 36
    match num with
    | 0 => s.cnt LN_ERR_ECC_CORR k
    | 1 => s.laneFault k 1 1
    | 2 => (s.wbit LN_STATUS_CELL_RET (cell % 16) true k).wb LN_STATUS_DEGRADED true k
    | _ => s.laneFault k 3 3
  else if b < 104 then
    let a := b - 100
    match num with
    | 33 => s.cnt PL_STATUS_CRC_ERR_DN a
    | 35 => s.linkLoss a
    | 36 => s.writerFault a cell 36
    | 37 => s.writerFault a cell 37
    | 38 => s.modHd (headIx a cell) (fun x => { x with retired := true })
    | 39 => s.wbit MA_STATUS_OVERCUR cell true a
    | 40 => (s.modPl a (fun p => { p with overtemp := true })).inhibits inhOVERTEMP true (chansOf a)
    | _ => s
  else s

/-- What the block of a source does when it detects it. -/
def State.localAction (s : State) (src cell : Nat) : State :=
  s.quiet (fun t => match srcRegion src with
    | 0 => t.sysAction (srcBlock src) (srcNumber src)
    | 1 => t.hstAction (srcBlock src) (srcNumber src) cell
    | 2 => t.datAction (srcBlock src) (srcNumber src) cell
    | 3 => t.motAction (srcBlock src) (srcNumber src) cell
    | _ => t.medAction (srcBlock src) (srcNumber src) cell)

/-! ### Reports (R456, R459, R461) -/

/-- The class a report carries: a Churn code-table copy that fails while the other copy is retired is reported in class C3 (R456). -/
def State.reportClass (s : State) (src cell : Nat) : Nat :=
  let other := if src = 0x9FC0 then bitOf s.codeRetired 1 else if src = 0x9FC1 then bitOf s.codeRetired 0 else false
  if other then 3 else s.classOf src cell

/-- FAULT_REPORT (R461). `blk` is the reporting cell's block: for a region-shared unit the source ID does not name it (R456). Correctable errors of the
cell-state memory have no row of their own and are counted with their report (09_control_engine.md R234). -/
def execFaultReport (blk : BitVec 7) (src : BitVec 16) (cell : BitVec 20) (detail : BitVec 32) (s : State) : Res :=
  let n := src.toNat
  let t : State := if srcRegion n = MOT ∧ srcBlock n < 4 ∧ srcNumber n = 0 then s.localAction n cell.toNat else s
  .next (t.reportBy (srcRegion n) blk.toNat n cell.toNat (s.reportClass n cell.toNat) detail.toNat false)

/-- FC_FORCE_GO (R459): GO while RESULT is PENDING has no effect; a source that is not implemented, or outside Test mode one whose class
in force is above C2, is REFUSED; else the block takes its local action and the source is reported as detected, with FORCED = 1. -/
def State.fcForce (s : State) : State :=
  if s.rf FC_FORCE_RESULT = 1 then s
  else
    let src := s.rf FC_FORCE_SOURCE
    let cell := s.rf FC_FORCE_CELL_CELL
    if (srcRow src).isSome && (s.mode == modeTest || decide (s.classOf src cell ≤ 2)) then
      ((s.localAction src cell).reportBy (srcRegion src) (srcBlock src) src cell (s.reportClass src cell) 0 true).wf FC_FORCE_RESULT 2
    else s.wf FC_FORCE_RESULT 3

def execFcForceGo (s : State) : Res := .next s.fcForce

/-! ### Region restarts (R465) -/

/-- SYS: accesses to SYS block pages end POWERED_OFF while it restarts; Zalene sessions are closed. -/
def State.restartSys (s : State) : State :=
  let s : State := s.swAbandon
  { s with zl.sessions := [], zl.handshakes := [], asm := [], odWait := none, crossing := tabDel s.crossing 2, sec.dl := none }

/-- A stamped command without completion ends INTERNAL; its own sectors and descriptors are dropped. -/
def State.cmdInternal (s : State) (c : Cmd) : State :=
  let s : State := s.abortCmd c
  s.modCmd c.stamp (fun k => { k with aborted := false, fails := [9], req := [], obj := k.obj.map (fun o => { o with checked := true }) })

/-- HST: ring engine, command scheduler, NVMe queue engines, object service. Fetching resumes once the completed writes are on the media. -/
def State.restartHst (s : State) : State :=
  let s : State := (s.cmds.filter (fun c => c.origin != 2 ^ 32)).foldl (fun t c => t.cmdInternal c) s
  let s : State := { s with sr := s.sr.map (fun p => (p.1, if p.2.st = 2 then { p.2 with st := 1, copies := [] } else { p.2 with copies := [] })) }
  let s : State := { s with dtu.pri := s.dtu.pri.map (fun p => { p with who := p.who.filter (fun w => match w with | .chan _ => true | _ => false) }) }
  { s with reng.turn := none, reng.drain := s.fetchStamp.toNat }

/-- The commands of a channel go back to the scheduler, and its gates close. -/
def State.chanRequeue (s : State) (n : Nat) : State :=
  let s : State := s.sqDrop n
  let fifo := (s.ch n).fifo
  fifo.foldl (fun t c => t.requeue c) (s.modCh n (fun c => { c with fifo := [] }))

/-- DAT: ECC unit, Skimmer, parity engine, metadata cache (R325), DMA engines, DTU. -/
def State.restartDat (s : State) : State :=
  let s : State := s.allChans.foldl (fun t n => t.chanRequeue n) s
  let s : State := s.cacheEmpty.wf MCC_STATUS_STATE mcINIT
  let s : State := if s.rb SKIM_CTRL_EN then s.lapStart else s
  let s : State := (List.range 4).foldl (fun t e => t.modEn e (fun x => { x with runs := [], running := none })) s
  let s : State := { s with dtu.atc := [] }
  (List.range 64).foldl (fun t id => if (t.en (id / 16)).retired && !(t.en (id / 16)).handed then t else (t.chRestart id).chEnter id) s

/-- The modes of the spindle that use the cells of the control engine. -/
def restartModes : List Nat := [spSTART, spACCEL, spRUN, spHOLD, spBRAKE, spGENERATE]

/-- MOT: lanes, profile generator, VCM drivers, milliactuator sets. -/
def State.restartMot (s : State) : State :=
  let s : State := if restartModes.contains s.sp then (s.spMode spCOAST).modSpin (fun p => { p with want := 0, lostPower := false, restart := 1 }) else s
  let s : State := { s with mlane := [], cell := s.cell.map (fun p => (p.1, { p.2 with run := none, ready := none, pend := none, greq := none })) }
  let s : State := { s with pg := s.pg.map (fun p => (p.1, { p.2 with v := 0, a := 0, plan := none, queued := none, stop := false })) }
  (List.range s.nAct).foldl (fun t a => (t.wf MA_STATUS_ACTIVE 0 a).wf VC_CURRENT_I_DEM 0 a) (s.wf PG_CTRL_STOP 0)

/-- The lanes of MOT return: the spindle goes to CATCH (R273), or the actuators reload under R257. -/
def State.restartMotDone (s : State) : State :=
  if s.spin.restart = 1 then (if s.sp = spCOAST then (s.spMode spCATCH).modSpin (fun p => { p with step := 0, crossings := 0, restart := 2 }) else s.modSpin (fun p => { p with restart := 0 }))
  else (List.range s.nAct).foldl (fun t a => t.startLoad a) s

/-- The actuators of a restart of MED. -/
def State.medActs (s : State) : List Nat := match s.fc.chip with | some r => s.c3Acts MED r.source | none => []

/-- A channel of MED restarts: its sample buffers are discarded and their sectors go back to the scheduler. -/
def State.chanDiscard (s : State) (n : Nat) : State :=
  let recs := (s.ch n).sb
  let s : State := (s.calFail n 0x06).chanRequeue n
  let s : State := recs.foldl (fun t p => match p.2.cmd with | some c => t.requeue c | none => t) (s.modCh n (fun c => { c with sb := [] }))
  let s : State := s.modHf (halfOf n) (fun h => { h with reqs := h.reqs.filter (fun q => q.n != n), store := h.store.filter (fun e => e.n != n) })
  (List.range s.nLane).foldl (fun t k =>
    let t : State := match (t.ln k).att with
      | some a => if a.job.n = n then t.attFree k a else t
      | none => t
    t.modLn k (fun l => { l with ib := l.ib.filter (fun j => j.n != n), held := match l.held with | some h => if h.1.n = n then none else l.held | none => none })) s

/-- MED: channels, TRUs, lanes, link controllers, capture unit. -/
def State.restartMed (s : State) : State :=
  let s : State := s.medActs.foldl (fun t a =>
    let t : State := (chansOf a).foldl (fun u n => u.chanDiscard n) t
    let t : State := (t.truOff a).wf PL_STATUS_STATE 0 a
    (t.wb PL_STATUS_CMD_BUSY false a).modPl a (fun p => { Pl.reset with lost := p.lost, overtemp := p.overtemp })) s
  let s : State := if s.rf RP_STATUS_STATE = 1 then s.replayEnd 6 else s
  { s with cru.copies := [] }

/-- MED returns: links train, microcode is reloaded from BOOT_IMAGE (R208), and the actuators reload. The signature's verdict is a free value (log 8). -/
def State.restartMedDone (s : State) : State :=
  let acts := s.medActs
  let s : State := acts.foldl (fun t a => if t.rb PL_CTRL_ENABLE a then t.plTrain a else t) s
  let s : State := s.useFree.bootLoad ((Config.freeValue s.free).toNat % 2 == 1)
  acts.foldl (fun t a => t.startLoad a) s

/-- REGION_RESTART (R465): once the affected actuators are unloaded, the staging buffer is flushed and the region's blocks restart. -/
def execRegionRestart (r : Fin 5) (s : State) : Res :=
  if s.c3Waits r.val && s.c3Parked r.val then
    let s : State := { (s.startFlush) with fc.restarting := s.fc.restarting ++ [r.val] }
    .next (if r.val = SYS then s.restartSys else if r.val = HST then s.restartHst else if r.val = DAT then s.restartDat
      else if r.val = MOT then s.restartMot else s.restartMed)
  else .next s

/-- REGION_RESTART_DONE (R465): the region is back; FAULT clears (R170); the record closes with the last region of the reaction. -/
def execRegionRestartDone (r : Fin 5) (us : Nat) (s : State) : Res :=
  if s.fc.restarting.contains r.val then
    let s : State := { s with fc.restarting := s.fc.restarting.erase r.val, fc.c3Regions := s.fc.c3Regions.erase r.val,
                              fc.restartEnd := tabSet s.fc.restartEnd r.val s.coreTime.toNat }
    let s : State := if r.val = MOT then s.restartMotDone else if r.val = MED then s.restartMedDone else s
    let s : State := if s.fc.restarting = [] ∧ s.rf FC_STATUS_FATAL = 0 then s.inhibitAll inhFAULT false else s
    .next (if s.fc.c3Regions = [] ∧ s.rf FC_STATUS_FATAL = 0 then s.endRecord us else s)
  else .next s

end Sys2Proof.Machine
end

