-- ==== Sys2Proof/Machine/RegEffects.lean ====
section
/-! DEFINITION. RegEffects.lean: what a register write does beyond its storage: the operation that each chapter gives its W1S, WO and enable
bits, applied by any requester's write (18_register_access.md R408 to R417). -/

namespace Sys2Proof.Machine
open Sys2Proof

/-- An enable bit of t takes the value it had in s before the write, so that its operation sees the change. -/
def State.keepOld (t s : State) (f : Fld) (i j : Nat) : State := t.wf f (s.rf f i j) i j

/-- Applies f where bit b of the written word is 1. -/
def State.onBit (t : State) (v b : Nat) (f : State → State) : State := if bitOf v b then f t else t

/-- Region SYS: power, watchdog, fault collector, recorder, security, modules, mailbox and commit. -/
def State.sysOp (s t : State) (q a v : Nat) : State :=
  match a with
  | 0x10000 => t.onBit v 3 State.pwrGo
  | 0x1000C => t.wf WAKE_EN_EN (Nat.lor v 0x31)
  | 0x10020 => t.swReset (v % 65536)
  | 0x12000 => s.wdCtrl v
  | 0x12004 => t.wdKick (v % 65536)
  | 0x13000 => t.onBit v 0 State.fcClear
  | 0x13020 => t.onBit v 16 State.fcForce
  | 0x14000 => (((t.onBit v 0 State.rcFreeze).onBit v 1 State.endFreeze).onBit v 2 State.rcFlush).onBit v 3 State.rcClear
  | 0x14014 => t.onBit v 15 (fun u => u.rcRead q false)
  | 0x1800C => (((t.onBit v 0 (fun u => u.secConfirm q)).onBit v 1 (fun u => u.svnCommit q)).onBit v 2
      (fun u => if isCore q then u.reqRecovery else u)).onBit v 3 (fun u => if isCore q then u.reqTest else u)
  | 0x22000 => t.onBit v 16 (fun u => u.mbxGo q false)
  | 0x22018 => if bitOf v 0 then t.commitGo q else if bitOf v 1 && !t.commitBusy then t.discard else t
  | _ => if 0x20000 ≤ a ∧ a < 0x20030 then t.onBit v 31 (fun u => u.modReread ((a - 0x20000) / 4)) else t

/-- Region HST: the queue control sets (16_miofoest_rings.md R394). The entry a RESTART reads from the ring is free bytes. -/
def State.hstOp (t : State) (a v : Nat) : State :=
  if 0x214000 ≤ a ∧ a < 0x214080 then
    let j := (a - 0x214000) / 0x40
    match a % 0x40 with
    | 0x04 => t.wf RQ_BASE_LO_BASE (v / 4096 * 4096) 0 j
    | 0x18 =>
      ((((t.onBit v 0 (fun u => u.rqCreate j)).onBit v 1 (fun u => u.rqDelete j)).onBit v 2 (fun u => (u.freeBytes 64).1.rqRestart j (u.freeBytes 64).2)).onBit v 4
        (fun u => u.rqFreeze j)).onBit v 5 (fun u => u.rqUpdate j)
    | _ => t
  else t

/-- Region DAT: buffer memory, Pails, cache, DMA engines. -/
def State.datOp (s t : State) (a v : Nat) : State :=
  let k := a / 0x1000 % 16
  if 0x410000 ≤ a ∧ a < 0x420000 then (if a % 0x1000 = 0 then t.onBit v 0 (fun u => u.pcRetire k) else t)
  else if a = 0x420018 then t.onBit v 0 State.flipArm
  else if a = 0x421000 then ((t.keepOld s SKIM_CTRL_EN 0 0).skimEnable (bitOf v 0)).onBit v 1 State.skimRestart
  else if 0x430000 ≤ a ∧ a < 0x440000 then (if a % 0x1000 = 8 then t.onBit v 0 (fun u => u.pailMinClr k) else t)
  else if a = 0x440000 then t.mcEnable (bitOf v 0)
  else if a = 0x44001C then t.onBit v 0 State.mcInvGo
  else if 0x440020 ≤ a ∧ a < 0x440040 then
    let w := (a - 0x440020) / 8
    let locked := s.rb MCC_LOCKk_BASE_EN 0 w
    if a % 8 = 0 then
      let t : State := t.keepOld s MCC_LOCKk_BASE_EN 0 w
      let t : State := if locked then t.keepOld s MCC_LOCKk_BASE_LINE 0 w else t
      t.mcLock w (bitOf v 31)
    else
      let t : State := if locked then t.keepOld s MCC_LOCKk_SIZE_LINES 0 w else t
      t.onBit v 13 (fun u => u.mcPreload w)
  else if 0x450000 ≤ a ∧ a < 0x454000 then
    if a % 0x1000 = 0x10 then t.onBit v 31 (fun u => u.deAbort k)
    else if 0x100 ≤ a % 0x1000 ∧ a % 0x1000 < 0x300 then
      let c := (a % 0x1000 - 0x100) / 0x20
      match a % 0x20 with
      | 0x08 => t.chEnable k c (bitOf v 8)
      | 0x0C => t.dqDoorbell k c v
      | 0x14 => t.cqHeadWrite k c v
      | _ => t
    else t
  else t

/-- Region MOT: control engine, profile generator, actuators, spindle. -/
def State.motOp (t : State) (a v : Nat) : State :=
  let k := a / 0x1000 % 4
  if 0x610000 ≤ a ∧ a < 0x614000 then (if a % 0x1000 = 0 then t.onBit v 0 (fun u => u.wf MC_LOAD_PEAK 0 k) else t)
  else if a = 0x614000 then (List.range 5).foldl (fun u c => u.onBit v c (fun w => w.pgStop c)) t
  else if 0x618000 ≤ a ∧ a < 0x61C000 then
    if a % 0x1000 = 0 then ((t.onBit v 0 (fun u => u.vcLoad k)).onBit v 1 (fun u => u.startPark k)).onBit v 2 (fun u => u.startRetract k)
    else if a % 0x1000 = 8 then t.vcTarget k v
    else t
  else if a = 0x621000 then
    (((t.onBit v 0 State.spStart).onBit v 1 State.spStop).onBit v 2 State.spCoast).onBit v 3 (fun u => u.spReset (u.rf SP_SPEED_SPEED != 0))
  else t

/-- Region MED, a page of a channel: front end and equaliser, calibration, write channel, sequencer. A write that the front end or the write channel stages
while a gate is open replaces the storage. -/
def State.chanOp (s t : State) (n off v : Nat) : State :=
  if feAt off ≠ [] then s.feRegWrite n off v
  else match off with
    | 0x010 => (t.onBit v 0 (fun u => u.calStart n)).onBit v 1 (fun u => u.calFail n 0x06)
    | 0x600 => s.wrCtrl n v
    | 0x604 => s.wrPrecomp n v
    | 0x700 => (((t.keepOld s SQ_CTRL_RUN n 0).sqRun n (bitOf v 0)).onBit v 1 (fun u => u.sqSwap n)).onBit v 2 (fun u => u.sqRestart n)
    | _ => t

/-- Region MED. -/
def State.medOp (s t : State) (a v : Nat) : State :=
  let k := a / 0x1000 % 4
  let o := a % 0x1000
  if 0x810000 ≤ a ∧ a < 0x830000 then s.chanOp t (a / 0x1000 - 0x810) o v
  else if 0x830000 ≤ a ∧ a < 0x870000 then
    let l := a / 0x1000 - 0x830
    if o = 0 then (t.onBit v 0 (fun u => u.laneRetire l)).onBit v 1 (fun u => u.laneRestore l) else t
  else if 0x870000 ≤ a ∧ a < 0x874000 then
    if o = 0 then (t.truCtrl k (bitOf v 0) (bitOf v 2)).onBit v 1 (fun u => u.truReacq k) else t
  else if 0x874000 ≤ a ∧ a < 0x878000 then
    if o = 0 then ((t.keepOld s PL_CTRL_ENABLE k 0).plEnable k (bitOf v 0)).onBit v 1 (fun u => u.plTrain k) else t
  else if a = 0x878000 then t.onBit v 2 State.capNext
  else if a = 0x878010 then (t.onBit v 0 State.replayStart).onBit v 1 State.replayAbort
  else t

/-- The operation of the register at canonical address a: s before the write, t with the word stored. -/
def State.regOp (s t : State) (q a v : Nat) : State :=
  match a / 0x200000 with
  | 0 => s.sysOp t q a v
  | 1 => t.hstOp a v
  | 2 => s.datOp t a v
  | 3 => t.motOp a v
  | _ => s.medOp t a v

/-- An accepted write of a block register with its effect; the doorbells of completion rings (16_miofoest_rings.md R378). -/
def State.regDo (s : State) (q off size v : Nat) : Answer18 :=
  let r := s.regWrite q off size v
  if r.cause ≠ 0 ∨ r.waits then r
  else match s.area18 off with
    | .block a _ => { r with st := s.regOp r.st q a v }
    | .doorbell c => { r with st := s.crDoorbell c v }
    | _ => r

end Sys2Proof.Machine
end

