-- ==== Sys2Proof/Machine/Dictionary.lean ====
section
/-! DEFINITION. Dictionary.lean: a read and a write of any entry of the object dictionary, with what a write of each entry does
(19_object_dictionary.md R427 to R436), and the host path (R453, R454). Verdicts on signatures that a bare write carries are free values (log 8). -/

namespace Sys2Proof.Machine
open Sys2Proof

/-- A verdict that the spec leaves to a unit outside the model: a bit of a free value. -/
def State.freeBit (s : State) : State × Bool := (s.useFree, (Config.freeValue s.free).toNat % 2 == 1)

/-- A firmware image's header and verdicts that no operand gives. -/
def State.freeImage (s : State) : State × ImageInfo :=
  let v := (Config.freeValue s.free).toNat
  let w := (Config.freeValue (s.free + 1)).toNat
  let h := leNat ((List.range 32).map (Config.mediaByte s.free))
  ({ s with free := s.free + 2 },
   { readError := bitOf v 0, magicOk := bitOf v 1, version := BitVec.ofNat 16 (v / 4), keyId := BitVec.ofNat 8 (v / 2 ^ 18), lengthOk := bitOf v 26,
     svn := BitVec.ofNat 32 w, sigOk := bitOf v 27, hash := BitVec.ofNat 256 h })

/-! ### Format images as bytes (23_security_maintenance.md R518) -/

/-- The records of a format image: U16 index, U8 subindex, U32 length, value; none where the bytes end early. -/
def fmtRecords : Nat → List Byte → Option (List FmtRecord × List Byte)
  | 0, b => some ([], b)
  | n + 1, b =>
    let len := leNat ((b.drop 3).take 4)
    if b.length < 7 + len then none
    else
      let x : FmtRecord := { ix := BitVec.ofNat 16 (leNat (b.take 2)), sub := BitVec.ofNat 8 (leNat ((b.drop 2).take 1)), value := (b.drop 7).take len }
      (fmtRecords n (b.drop (7 + len))).map (fun r => (x :: r.1, r.2))

/-- The first failed check of R210, values 0x01 to 0x06, of a format image; its key is named as in R209. -/
def State.fmtCheck (s : State) (b : List Byte) (sigOk : Bool) : Nat :=
  let rs := fmtRecords (leNat ((b.drop 12).take 2)) (b.drop 32)
  if b.take 4 ≠ [0x4F, 0x46, 0x4D, 0x54] then 0x01
  else if leNat ((b.drop 4).take 2) ≠ 1 then 0x02
  else if (match rs with | some r => r.2.length != 64 | none => true) then 0x03
  else if !s.keyOk (imgKey b) then 0x04
  else if !sigOk then 0x05
  else if (b.getD 7 0) ≠ 0 ∨ leNat ((b.drop 16).take 16) ≠ 0 then 0x06
  else 0x00

/-- A write of FORMAT_IMAGE. -/
def State.formatWrite (s : State) (src : Nat) (b : List Byte) : State × Nat :=
  let f := s.freeBit
  let h := f.1.freeBytes 32
  h.1.formatImage src (s.fmtCheck b f.2) (match fmtRecords (leNat ((b.drop 12).take 2)) (b.drop 32) with | some r => r.1 | none => [])
    (BitVec.ofNat 256 (leNat h.2))

/-! ### Writes -/

/-- GO of COMMIT (R434): the source's CRC_EXPECT goes into the engine's own bank, then CFG_COMMIT.GO is written. -/
def State.odCommit (s : State) (src v : Nat) : State :=
  if v = 1 then (s.wf CFG_CRC_EXPECT_CRC (s.src 0x2001 2 src 0) 2).commitGo 2 else if v = 2 && !s.commitBusy then s.discard else s

/-- STAGE_CMD (08_galgil_sequencer.md R208): 1 LOAD, 2 SWAP, 3 both. -/
def State.stageCmd (s : State) (v : Nat) : State :=
  let f := s.freeBit
  if v = 2 then s.stageSwap
  else
    let t : State := f.1.stageLoad f.2
    if v = 3 ∧ t.mstage.reason = 0 then t.stageSwap else t

/-- MT_CMD (R520). -/
def State.mtCmd (s : State) (src v : Nat) : State :=
  match v with
  | 1 => s.mtRetire src
  | 2 => s.freeBit.1.mtRestore src s.freeBit.2
  | _ => s.mtRecal src

/-- CMD of the recorder (22_recorder_health.md R500): 1 FREEZE, 2 THAW, 3 CLEAR, 4 FLUSH. A CLEAR in Service mode is answered MODE (R498). -/
def State.rcCmd (s : State) (v : Nat) : State :=
  match v with
  | 1 => s.rcFreeze
  | 2 => s.endFreeze
  | 3 => s.rcClear
  | _ => s.rcFlush

/-- What a write that has passed every check does (R428): WO entries act, RW entries hold the value, per source or persistent, the rest is stored. -/
def State.odAct (s : State) (src ix sub : Nat) (r : OdRow) (v : List Byte) : State × Nat :=
  let n := leNat v
  match ix, sub with
  | 0x2001, 1 => (s.odCommit src n, odOK)
  | 0x2020, 2 => (s.pwrRequest n, odOK)
  | 0x2030, 2 => (s.mtCmd src n, odOK)
  | 0x6050, 2 => ({ s with mstage.image := v }, odOK)
  | 0x6050, 4 => (s.stageCmd n, odOK)
  | 0x9000, 9 => if n = 3 ∧ s.mode = modeService then (s, odMODE) else (s.rcCmd n, odOK)
  | 0xB003, 1 => (s.modeReq n, odOK)
  | 0xB030, 1 => ({ s with nonce := tabSet s.nonce src v }, odOK)
  | 0xB050, 2 => s.fwPart (.od (Fin.ofNat 16 src)) (s.src 0xB050 1 src 0) v.length
  | 0xB050, 4 =>
    let o : FwSource := .od (Fin.ofNat 16 src)
    if s.fwForeign o (n - 1) then (s, odNORES)
    else
      let f := s.freeImage
      ((f.1.fwCommit o 0 (n - 1) (s.src 0xB050 3 src 1 - 1) (if n = 3 then blankImage else f.2)).1, odOK)
  | 0xF020, 4 => (if n = 1 then s.recStart else if n = 2 then s.recStop else s.recClear, odOK)
  | 0xF020, 9 => (if n = 1 then s.replayFrom else s.replayHalt, odOK)
  | _, _ =>
    if r.perSrc then (s.setSrc ix sub src n, odOK)
    else if r.acc = .rw then
      let x : OdVal := if r.ty.isNum then .num n else .bytes v
      (if r.p then s.odKeep ix sub x else s.odPut ix sub x, odOK)
    else if r.acc = .wo then (s, odOK)
    else (s.odStore ix sub r v, odOK)

/-- A write of a key slot's WRITE entry (23_security_maintenance.md R508): key, role, signature. -/
def State.keyBytesWrite (s : State) (src : Nat) (mgmt : Bool) (slot : Nat) (v : List Byte) : State × Nat :=
  let a := s.odPre (s.srcRole src) (keyIx mgmt slot) (if mgmt then 4 else 3) true false
  if a ≠ odOK then (s, a)
  else if v.length ≠ (if mgmt then 129 else 128) then (s, odLENGTH)
  else s.freeBit.1.keyPut mgmt slot (BitVec.ofNat 512 (leNat (v.take 64))) (if mgmt then leNat ((v.drop 64).take 1) else 0) s.freeBit.2

/-- A written value of an entry, all checks included; the gateway's DATA apart. -/
def State.odWrite (s : State) (src ix sub : Nat) (v : List Byte) : State × Nat :=
  if 0xB010 ≤ ix ∧ ix < 0xB014 ∧ sub = 3 then s.keyBytesWrite src false (ix - 0xB010) v
  else if 0xB020 ≤ ix ∧ ix < 0xB028 ∧ sub = 4 then s.keyBytesWrite src true (ix - 0xB020) v
  else
    let a := s.odWriteStatus (s.srcRole src) ix sub v false
    if a ≠ odOK then (s, a)
    else if ix = 0xB040 ∧ sub = 1 then s.formatWrite src v
    else match s.odEntry ix sub with
      | some r => s.odAct src ix sub r v
      | none => (s, odNOSUB)

/-! ### The gateway (R436) -/

/-- OFFSET of a source. -/
def State.gwOffset (s : State) (src : Nat) : Nat := s.src 0x2002 1 src 0

/-- An answered or waiting access of the gateway: the status and value of the request, none while it waits. -/
def State.gwEnd (s : State) (who : OdWho) (off : Nat) (wr : Option Nat) (r : Answer18) : State × Option (Nat × List Byte) :=
  if r.waits then ({ s with crossing := tabSet s.crossing 2 { off := off, wr := wr }, odWait := some (who, wr.isSome) }, none)
  else if r.cause ≠ 0 then (s.busError 2 off r.cause wr.isSome, some (gwStatus r.cause, []))
  else (r.st, some (odOK, if wr.isSome then [] else leBytes 4 r.value))

/-- A read of DATA. -/
def State.gwRead (s : State) (src : Nat) (who : OdWho) : State × Option (Nat × List Byte) :=
  let off := s.gwOffset src
  s.gwEnd who off none (s.regRead 2 off 4)

/-- A write of DATA. -/
def State.gwWrite (s : State) (src v : Nat) (who : OdWho) : State × Option (Nat × List Byte) :=
  let off := s.gwOffset src
  s.gwEnd who off (some v) (s.regDo 2 off 4 v)

/-! ### Requests (R431, R432) -/

/-- A write request: its status, none while it waits in a crossing. -/
def State.odWriteReq (s : State) (src ix sub : Nat) (v : List Byte) (who : OdWho) : State × Option (Nat × List Byte) :=
  if ix = 0x2002 ∧ sub = 2 then
    let a := s.odWriteStatus (s.srcRole src) ix sub v false
    if a ≠ odOK then (s, some (a, [])) else s.gwWrite src (leNat v) who
  else
    let r := s.odWrite src ix sub v
    (r.1, some (r.2, []))

/-- A read or INFO request (R428, R432). -/
def State.odReadReq (s : State) (src ix sub : Nat) (running info : Bool) (who : OdWho) : State × Option (Nat × List Byte) :=
  let a := s.odPre (s.srcRole src) ix sub false false
  let b := if ix = 0x2002 ∧ sub = 2 then odOK else s.odPost ix sub false
  if a ≠ odOK ∧ !(info && a == odWRITEONLY) then (s, some (a, []))
  else if b ≠ odOK then (s, some (b, []))
  else if info then (s, some (odOK, s.odInfo ix sub))
  else if ix = 0x2002 ∧ sub = 2 then s.gwRead src who
  else if ix = 0xB030 ∧ sub = 2 then
    let r := s.quoteRead src
    (r.1, some (odOK, r.2))
  else (s, some (odOK, s.odBytes src ix sub running))

/-- Entries whose request needs the firmware, and is held while a switch-over runs (23_security_maintenance.md R517). -/
def heldEntry (ix sub : Nat) : Bool := (ix == 0x2030 && sub == 2) || (ix == 0xB040 && sub == 1) || (ix == 0xB050 && (sub == 2 || sub == 4))

/-- The engine takes a write of the entry now. -/
def State.odTakes (s : State) (ix sub : Nat) : Bool := s.odRuns && !(s.sec.sw.isSome && heldEntry ix sub)

/-- A request of a source whose own port is not modelled is answered to the source. -/
def State.odRaw (src : Nat) (r : State × Option (Nat × List Byte)) : State :=
  match r.2 with
  | some a => r.1.odAnswer src a.1 a.2
  | none => r.1

/-- DICTIONARY_WRITE (R427 to R432). -/
def execDictionaryWrite (src : Fin 16) (ix : BitVec 16) (sub : BitVec 8) (value : List Byte) (s : State) : Res :=
  .next (if s.odTakes ix.toNat sub.toNat then State.odRaw src.val (s.odWriteReq src.val ix.toNat sub.toNat value (.raw src.val)) else s)

/-- COMMIT (R434). -/
def execCommit (src : Fin 16) (v : BitVec 8) (s : State) : Res :=
  .next (s.odDone src.val (s.odCommand src.val 0x2001 1 v.toNat (fun t => t.odCommit src.val v.toNat)))

/-- POWER_CMD (R486): requests power state v. -/
def execPowerCmd (src : Fin 16) (v : BitVec 8) (s : State) : Res :=
  .next (s.odDone src.val (s.odCommand src.val 0x2020 2 v.toNat (fun t => t.pwrRequest v.toNat)))

/-- REGISTER_GATEWAY_DATA (R436): a read (none) or a write of DATA. -/
def execRegisterGatewayData (src : Fin 16) (wr : Option Word) (s : State) : Res :=
  .next (if s.odRuns then State.odRaw src.val (match wr with
      | some v => s.odWriteReq src.val 0x2002 2 (leBytes 4 v.toNat) (.raw src.val)
      | none => s.odReadReq src.val 0x2002 2 false false (.raw src.val)) else s)

/-! ### Assembly buffers (R443, R454) -/

/-- The buffer that a source holds. -/
def State.asmOf (s : State) (src : Nat) : Option (Nat × Asm) := s.asm.find? (fun p => p.2.src == src)
def State.asmDrop (s : State) (src : Nat) : State := { s with asm := s.asm.filter (fun p => p.2.src != src) }

/-- Lowest free buffer of the 4. -/
def State.asmFree (s : State) : Option Nat := (List.range 4).find? (fun b => (tabFind s.asm b).isNone)

/-- A source opens a buffer; a transfer it held ends. -/
def State.asmOpen (s : State) (a : Asm) : State × Nat :=
  let s : State := s.asmDrop a.src
  match s.asmFree with
  | none => (s, odNORES)
  | some b => ({ s with asm := tabSet s.asm b a }, odOK)

/-! ### The host path (R453, R454) -/

/-- The source of a requester's bank: a port, a service core, the trace unit. Requester 2 has none. -/
def hostSrc (q : Nat) : Nat := if q < 2 then q else if q < 7 then q - 1 else 6

/-- The part in OD_DATA. -/
def State.hostPart (s : State) (q n : Nat) : List Byte := ((List.range 256).flatMap (fun i => leBytes 4 (s.rf OD_DATA_DATA q i))).take n

/-- A read part: the first takes the snapshot, and a value of more than 1,024 bytes holds a buffer; later parts follow contiguously (R454). -/
def State.hostReadFirst (s : State) (q src ix sub : Nat) (running : Bool) : State :=
  let r := s.odReadReq src ix sub running false (.host q)
  match r.2 with
  | none => r.1.wb OD_STATUS_BUSY true q
  | some (st, v) =>
    if st ≠ odOK then r.1.hostDone q st []
    else
      let s : State := r.1.wf OD_TOTAL_TOTAL v.length q
      if v.length ≤ 1024 then s.hostDone q odOK v
      else
        let o := s.asmOpen { src := src, write := false, ix := ix, sub := sub, total := v.length, data := v, parts := 1024 }
        o.1.hostDone q o.2 (if o.2 = odOK then v.take 1024 else [])

def State.hostReadNext (s : State) (q src ix sub off : Nat) : State :=
  match s.asmOf src with
  | none => s.hostDone q odSEGMENT []
  | some (b, a) =>
    if a.write || a.ix != ix || a.sub != sub || a.parts != off then (s.asmDrop src).hostDone q odSEGMENT []
    else
      let part := (a.data.drop off).take 1024
      let s : State := s.wf OD_TOTAL_TOTAL a.total q
      let s : State := if a.total ≤ off + part.length then s.asmDrop src else { s with asm := tabSet s.asm b { a with parts := off + part.length } }
      s.hostDone q odOK part

/-- The end of a host write. -/
def State.hostWritten (q : Nat) (r : State × Option (Nat × List Byte)) : State :=
  match r.2 with
  | some a => r.1.hostDone q a.1 []
  | none => r.1.wb OD_STATUS_BUSY true q

/-- A write part: one part alone is written at once; else parts are assembled and written as one value with the last (R443). -/
def State.hostWrite (s : State) (q src ix sub off : Nat) (first last : Bool) (part : List Byte) : State :=
  if first then
    if off ≠ 0 then s.hostDone q odSEGMENT []
    else if last then State.hostWritten q ((s.asmDrop src).odWriteReq src ix sub part (.host q))
    else
      let a := s.odPre (s.srcRole src) ix sub true false
      if a ≠ odOK then s.hostDone q a []
      else
        let o := s.asmOpen { src := src, write := true, ix := ix, sub := sub, total := 131072, data := part, parts := 1 }
        o.1.hostDone q o.2 []
  else match s.asmOf src with
    | none => s.hostDone q odSEGMENT []
    | some (b, a) =>
      if !a.write || a.ix != ix || a.sub != sub || a.data.length != off then (s.asmDrop src).hostDone q odSEGMENT []
      else if a.total < off + part.length then (s.asmDrop src).hostDone q odLENGTH []
      else if last then State.hostWritten q ((s.asmDrop src).odWriteReq src ix sub (a.data ++ part) (.host q))
      else ({ s with asm := tabSet s.asm b { a with data := a.data ++ part, parts := a.parts + 1 } } : State).hostDone q odOK []

/-- The request of bank q with operation op starts (R453). A GO while BUSY, of requester 2, or while the engine is stopped or its request is held has
no effect. OP 3 is reserved. -/
def State.hostGo (s : State) (q op : Nat) : State :=
  let ix := s.rf OD_ADDR_INDEX q
  let sub := s.rf OD_ADDR_SUBINDEX q
  let off := s.rf OD_OFFSET_OFFSET q
  let src := hostSrc q
  if q = 2 ∨ s.rb OD_STATUS_BUSY q ∨ !s.odRuns ∨ (op = 1 ∧ !s.odTakes ix sub) then s
  else
    let s : State := s.wb OD_STATUS_DONE false q
    match op with
    | 0 =>
      if s.rb OD_CTRL_FIRST q then
        (if off ≠ 0 then s.hostDone q odSEGMENT [] else s.hostReadFirst q src ix sub (s.rb OD_CTRL_RUNNING q))
      else s.hostReadNext q src ix sub off
    | 1 =>
      if 1024 < s.rf OD_LEN_LEN q then s.hostDone q odLENGTH []
      else s.hostWrite q src ix sub off (s.rb OD_CTRL_FIRST q) (s.rb OD_CTRL_LAST q) (s.hostPart q (s.rf OD_LEN_LEN q))
    | 2 =>
      let r := s.odReadReq src ix sub false true (.host q)
      (match r.2 with
       | some (st, v) => r.1.hostDone q st v
       | none => r.1)
    | _ => s.hostDone q odBAD []

/-- GO written together with OP, the other bits of OD_CTRL as they stand. -/
def State.hostOp (s : State) (q op : Nat) : State := if q = 2 then s else (s.wf OD_CTRL_OP op q).hostGo q op

/-- OD_READ, OD_WRITE, OD_INFO (R453): GO written with OP 0, 1, 2. -/
def execOdRead (q : Fin 8) (s : State) : Res := .next (s.hostOp q.val 0)
def execOdWrite (q : Fin 8) (s : State) : Res := .next (s.hostOp q.val 1)
def execOdInfo (q : Fin 8) (s : State) : Res := .next (s.hostOp q.val 2)

end Sys2Proof.Machine
end

