-- ==== Sys2Proof/Machine/Zalene.lean ====
section
/-! DEFINITION. Zalene.lean: the Zalene link: discovery, sessions, reads and writes, segmented transfers, events, wake (19_object_dictionary.md R437
to R452). Signatures, MACs and key agreement are operands; nonces and keys that the ODC7 makes are free bytes (log 8). -/

namespace Sys2Proof.Machine
open Sys2Proof

/-! ### Frames (R440, R441, R444) -/

/-- An answer on SESSION 0, whose SEQ the spec leaves open. -/
def State.zlSend0 (s : State) (type status : Nat) (payload : List Byte) : State :=
  s.useFree.emit (.zalene type 0 ((Config.freeValue s.free).toNat % 2 ^ 32) status payload)

/-- The open session of a number. -/
def State.zlFind (s : State) (number : Nat) : Option (Nat × Session) := s.zl.sessions.find? (fun p => p.2.number == number)

def State.putSession (s : State) (slot : Nat) (x : Session) : State := { s with zl.sessions := tabSet s.zl.sessions slot x }

/-- A counter of index 0x1020, saturating (R448). -/
def State.zlCount (s : State) (sub : Nat) : State := s.odPut 0x1020 sub (.num (min (s.ent 0x1020 sub + 1) (2 ^ 32 - 1)))

/-- A frame of an open session by its SEQ (R444): a greater one runs f, an equal one is answered with the kept response, a lower one is dropped. -/
def State.zlSeq (s : State) (slot : Nat) (x : Session) (seq : Nat) (f : State → State) : State :=
  if seq < x.rxSeq then s.zlCount 4
  else if seq = x.rxSeq then
    match x.lastResp with
    | some r => s.emit (.zalene r.type x.number r.seq r.status r.payload)
    | none => s
  else f (s.putSession slot { x with rxSeq := seq, lastResp := none })

/-- A request frame with a valid MAC; f gets the slot. -/
def State.zlRequest (s : State) (session seq type : Nat) (f : State → Nat → State) : State :=
  if !s.odRuns then s
  else if session = 0 then s.zlSend0 type odROLE []
  else match s.zlFind session with
    | none => s.zlSend0 type odNOSESSION []
    | some (slot, x) => s.zlSeq slot x seq (fun t => f t slot)

/-! ### Discovery and addresses (R439, R442) -/

/-- DISCOVER (R442): an ANNOUNCE follows after the node's delay. -/
def execDiscover (s : State) : Res := .next (if s.zlOn then { s with zl.announce := s.zl.announce + 1 } else s)

/-- The payload of ANNOUNCE (R441). -/
def State.announceBytes (s : State) : List Byte :=
  let str := fun sub => let b := s.odBytes 0 0x1000 sub false; leBytes 1 b.length ++ b
  s.odBytes 0 0x1000 5 false ++ leBytes 1 s.nodeId ++ leBytes 1 0 ++ str 2 ++ str 3 ++ str 4

/-- ANNOUNCE (R441, R442). -/
def execAnnounce (s : State) : Res :=
  .next (if s.zlOn && s.zl.announce != 0 then ({ s with zl.announce := s.zl.announce - 1 } : State).zlSend0 0x02 0 s.announceBytes else s)

/-- The fault numbers of the link in block SYS 7. -/
def zlNODE : Nat := 32
def zlADDR : Nat := 33
def zlCLOSED : Nat := 34

def State.zlReport (s : State) (num detail : Nat) : State := s.report (srcId SYS 7 num) 0 detail

/-- NEIGHBOUR_DISCOVERY (R439): a solicitation or an echo is answered; a duplicate address is not used, C1. -/
def State.neighbour (s : State) (k : NdKind) : State :=
  if !s.zlOn then s
  else match k with
    | .solicitation => s.emit (.note "neighbour advertisement" 0 0)
    | .echo => s.emit (.note "ICMPv6 echo reply" 0 0)
    | .dadOk st => if st then { s with zl.staticBad := false } else { s with zl.addrBad := false }
    | .dadDuplicate st => (if st then { s with zl.staticBad := true } else { s with zl.addrBad := true } : State).zlReport zlADDR st.toNat

def execNeighbourDiscovery (kind : NdKind) (s : State) : Res := .next (s.neighbour kind)

/-- DUPLICATE_NODE (R438): C1, and the node goes on. -/
def execDuplicateNode (s : State) : Res := .next (if s.zlOn then s.zlReport zlNODE s.nodeId else s)

/-! ### Sessions (R445, R446) -/

/-- The next session number that is not 0 and not in use. -/
def State.sessionNumber (s : State) : Nat :=
  let used := s.zl.sessions.map (fun p => p.2.number) ++ s.zl.handshakes.map (fun p => p.2.number)
  ((List.range 11).map (fun i => (s.zl.nextNumber + i - 1) % 65535 + 1)).find? (fun n => !used.contains n) |>.getD s.zl.nextNumber

/-- SESSION_INIT (R446 steps 1 and 2). -/
def State.sessionInit (s : State) (key role : Nat) (onCurve : Bool) : State :=
  let k := s.mgSlot key
  if !s.zlOn then s
  else if k.st ≠ .enrolled ∨ !onCurve then s.zlSend0 0x10 odAUTH []
  else if 8 ≤ s.zl.sessions.length then s.zlSend0 0x10 odNORES []
  else match (List.range 2).find? (fun h => (tabFind s.zl.handshakes h).isNone) with
    | none => s.zlSend0 0x10 odNORES []
    | some h =>
      let n := s.sessionNumber
      let s : State := { s with zl.handshakes := tabSet s.zl.handshakes h { number := n, key := key, role := min role k.role }, zl.nextNumber := n % 65535 + 1 }
      let f := s.freeBytes 144
      f.1.zlSend0 0x11 odOK (leBytes 2 n ++ leBytes 2 0 ++ f.2)

def execSessionInit (key : Fin 8) (role : BitVec 8) (onCurve : Bool) (_nonceC : BitVec 128) (s : State) : Res :=
  .next (s.sessionInit key.val role.toNat onCurve)

/-- A verified handshake becomes a session (R446 step 4); the sequence of its first EVENT is left open. -/
def State.sessionOpen (s : State) (slot : Nat) (h : Handshake) : State :=
  let x : Session := { number := h.number, key := h.key, role := h.role, rxSeq := 1, txSeq := 0, lastResp := none, macFails := [], queue := [],
                       outstanding := none, retries := 0, evSeq := (Config.freeValue s.free).toNat % 2 ^ 32, lost := 0 }
  (s.useFree.putSession slot x).zlPut slot 0x13 odOK (leBytes 1 h.role ++ leBytes 1 0 ++ leBytes 2 (s.par 0x1020 2))

/-- A MAC fails on an open session (R445): counted; the sixteenth within 1 s closes the session, C0. -/
def State.macFail (s : State) (slot : Nat) (x : Session) : State :=
  let now := s.coreTime.toNat
  let fails := x.macFails.filter (fun t => decide (now < t + 1000 * cyclesPerMs)) ++ [now]
  let s : State := (s.zlCount 5).putSession slot { x with macFails := fails }
  if 16 ≤ fails.length then (s.sessionEnd slot).zlReport zlCLOSED slot else s

/-- SESSION_PROVE (R446 steps 3 and 4); on a session already open it is a request with SEQ 1 (R444). -/
def State.sessionProve (s : State) (session : Nat) (sigOk macOk : Bool) : State :=
  if !s.zlOn then s
  else match s.zl.handshakes.find? (fun p => p.2.number == session) with
    | some (h, x) =>
      let s : State := { s with zl.handshakes := tabDel s.zl.handshakes h }
      if !sigOk || !macOk then s.zlSend0 0x12 odAUTH []
      else (match (List.range 8).find? (fun k => (tabFind s.zl.sessions k).isNone) with
        | some k => s.sessionOpen k x
        | none => s.zlSend0 0x12 odNORES [])
    | none =>
      match s.zlFind session with
      | some (slot, x) => if macOk then s.zlSeq slot x 1 (fun t => t) else s.macFail slot x
      | none => s.zlSend0 0x12 odNOSESSION []

def execSessionProve (session : BitVec 16) (sigOk macOk : Bool) (s : State) : Res := .next (s.sessionProve session.toNat sigOk macOk)

/-- HANDSHAKE_TIMEOUT (R446 step 3). -/
def execHandshakeTimeout (h : Fin 2) (s : State) : Res := .next { s with zl.handshakes := tabDel s.zl.handshakes h.val }

/-- SESSION_CLOSE (R446): answered, and the session ends. -/
def State.sessionClose (s : State) (session : Nat) : State :=
  if !s.zlOn then s
  else match s.zlFind session with
    | none => s.zlSend0 0x14 odNOSESSION []
    | some (slot, _) => (s.zlPut slot 0x14 odOK []).sessionEnd slot

def execSessionClose (session : BitVec 16) (s : State) : Res := .next (s.sessionClose session.toNat)

/-- SESSION_IDLE_EXPIRY (R446). -/
def execSessionIdleExpiry (slot : Fin 8) (s : State) : Res := .next (s.sessionEnd slot.val)

/-- ZALENE_MAC_FAIL (R445): dropped without a response. -/
def State.zlMacFail (s : State) (session : Nat) : State :=
  if !s.zlOn || session == 0 then s
  else match s.zlFind session with
    | none => s.zlSend0 0x00 odNOSESSION []
    | some (slot, x) => s.macFail slot x

def execZaleneMacFail (session : BitVec 16) (s : State) : Res := .next (s.zlMacFail session.toNat)

/-! ### READ and WRITE (R441) -/

/-- The type code of an entry. -/
def State.odCode (s : State) (ix sub : Nat) : Nat := match s.odEntry ix sub with | some r => r.ty.code | none => 0

/-- A READ on SESSION 0: the CONST entries of 0x1000 (R428). -/
def State.zlRead0 (s : State) (ix sub : Nat) (info : Bool) : State :=
  match odHighest ix, s.odEntry ix sub with
  | none, _ => s.zlSend0 0x20 odNOOBJECT []
  | some _, none => s.zlSend0 0x20 odNOSUB []
  | some _, some r =>
    if ix ≠ 0x1000 ∨ r.acc ≠ .const then s.zlSend0 0x20 odROLE []
    else s.zlSend0 0x20 odOK (if info then s.odInfo ix sub else readPayload r.ty.code (s.odBytes 0 ix sub false))

/-- The answer to a READ; a value that does not fit one frame is refused with LENGTH. -/
def State.zlReadEnd (slot ix sub : Nat) (info : Bool) (r : State × Option (Nat × List Byte)) : State :=
  match r.2 with
  | none => r.1
  | some (st, v) =>
    if st ≠ odOK then r.1.zlPut slot 0x20 st []
    else if info then r.1.zlPut slot 0x20 odOK v
    else if 1024 < v.length then r.1.zlPut slot 0x20 odLENGTH []
    else r.1.zlPut slot 0x20 odOK (readPayload (r.1.odCode ix sub) v)

def State.zlRead (s : State) (session seq ix sub : Nat) (running info : Bool) : State :=
  if session = 0 then (if s.odRuns then s.zlRead0 ix sub info else s)
  else s.zlRequest session seq 0x20 (fun t slot => State.zlReadEnd slot ix sub info (t.odReadReq (8 + slot) ix sub running info (.zalene slot 0x20)))

def execZaleneRead (session : BitVec 16) (seq : BitVec 32) (ix : BitVec 16) (sub : BitVec 8) (running info : Bool) (s : State) : Res :=
  .next (s.zlRead session.toNat seq.toNat ix.toNat sub.toNat running info)

/-- The answer to a request without a value. -/
def State.zlEnd (slot type : Nat) (payload : List Byte) (r : State × Option (Nat × List Byte)) : State :=
  match r.2 with
  | none => r.1
  | some (st, _) => r.1.zlPut slot type st payload

/-- WRITE: a value of at most 1,024 bytes. -/
def State.zlWrite (s : State) (session seq ix sub : Nat) (v : List Byte) : State :=
  if !s.odTakes ix sub then s
  else s.zlRequest session seq 0x21 (fun t slot =>
    if 1024 < v.length then t.zlPut slot 0x21 odFRAME []
    else State.zlEnd slot 0x21 [] (t.odWriteReq (8 + slot) ix sub v (.zalene slot 0x21)))

def execZaleneWrite (session : BitVec 16) (seq : BitVec 32) (ix : BitVec 16) (sub : BitVec 8) (value : List Byte) (s : State) : Res :=
  .next (s.zlWrite session.toNat seq.toNat ix.toNat sub.toNat value)

/-! ### Segmented transfers (R443) -/

/-- SEG_READ at offset 0: a snapshot, in a buffer where the value is longer than one part. -/
def State.segReadFirst (s : State) (slot ix sub : Nat) (running : Bool) : State :=
  let r := s.odReadReq (8 + slot) ix sub running false (.zalene slot 0x22)
  match r.2 with
  | none => r.1
  | some (st, v) =>
    if st ≠ odOK then r.1.zlPut slot 0x22 st []
    else if v.length ≤ 1024 then r.1.zlPut slot 0x22 odOK (segPayload v.length v)
    else
      let o := r.1.asmOpen { src := 8 + slot, write := false, ix := ix, sub := sub, total := v.length, data := v, parts := 1024 }
      o.1.zlPut slot 0x22 o.2 (if o.2 = odOK then segPayload v.length (v.take 1024) else [])

/-- A later SEG_READ: the next part of the snapshot. -/
def State.segReadNext (s : State) (slot ix sub off : Nat) : State :=
  match s.asmOf (8 + slot) with
  | none => s.zlPut slot 0x22 odSEGMENT []
  | some (b, a) =>
    if a.write || a.ix != ix || a.sub != sub || a.parts != off then (s.asmDrop (8 + slot)).zlPut slot 0x22 odSEGMENT []
    else
      let part := (a.data.drop off).take 1024
      let s : State := if a.total ≤ off + part.length then s.asmDrop (8 + slot) else { s with asm := tabSet s.asm b { a with parts := off + part.length } }
      s.zlPut slot 0x22 odOK (segPayload a.total part)

def execSegRead (session : BitVec 16) (seq : BitVec 32) (ix : BitVec 16) (sub : BitVec 8) (offset : BitVec 32) (running : Bool) (s : State) : Res :=
  .next (s.zlRequest session.toNat seq.toNat 0x22 (fun t slot =>
    if offset = 0 then t.segReadFirst slot ix.toNat sub.toNat running else t.segReadNext slot ix.toNat sub.toNat offset.toNat))

/-- SEG_WRITE: a buffer with a window of 4. -/
def State.segWrite (s : State) (slot ix sub total : Nat) : State :=
  let a := s.odPre (s.srcRole (8 + slot)) ix sub true false
  if a ≠ odOK then s.zlPut slot 0x23 a []
  else if 131072 < total then s.zlPut slot 0x23 odLENGTH []
  else
    let o := s.asmOpen { src := 8 + slot, write := true, ix := ix, sub := sub, total := total, data := [], parts := 0 }
    o.1.zlPut slot 0x23 o.2 (if o.2 = odOK then leBytes 1 4 ++ leBytes 3 0 else [])

def execSegWrite (session : BitVec 16) (seq : BitVec 32) (ix : BitVec 16) (sub : BitVec 8) (total : BitVec 32) (s : State) : Res :=
  .next (s.zlRequest session.toNat seq.toNat 0x23 (fun t slot => t.segWrite slot ix.toNat sub.toNat total.toNat))

/-- SEGMENT: contiguous parts; every fourth and the last are acknowledged, the last with the status of the write. -/
def State.segPart (s : State) (slot off : Nat) (bytes : List Byte) : State :=
  match s.asmOf (8 + slot) with
  | none => s.zlPut slot 0x25 odSEGMENT (ackPayload 0)
  | some (b, a) =>
    let data := a.data ++ bytes
    if 1024 < bytes.length then s.zlPut slot 0x24 odFRAME []
    else if !a.write || a.data.length != off || decide (a.total < data.length) then
      (s.asmDrop (8 + slot)).zlPut slot 0x25 odSEGMENT (ackPayload (if a.write then a.data.length else 0))
    else if data.length = a.total then
      State.zlEnd slot 0x25 (ackPayload a.total) ((s.asmDrop (8 + slot)).odWriteReq (8 + slot) a.ix a.sub data (.zalene slot 0x25))
    else if a.parts = 3 then
      ({ s with asm := tabSet s.asm b { a with data := data, parts := 0 } } : State).zlPut slot 0x25 odOK (ackPayload data.length)
    else { s with asm := tabSet s.asm b { a with data := data, parts := a.parts + 1 } }

/-- The engine takes the write that this part may complete. -/
def State.segTakes (s : State) (session : Nat) : Bool :=
  match s.zlFind session with
  | some (slot, _) => (match s.asmOf (8 + slot) with | some (_, a) => s.odTakes a.ix a.sub | none => true)
  | none => true

def execSegment (session : BitVec 16) (seq : BitVec 32) (offset : BitVec 32) (bytes : List Byte) (s : State) : Res :=
  .next (if s.segTakes session.toNat then s.zlRequest session.toNat seq.toNat 0x24 (fun t slot => t.segPart slot offset.toNat bytes) else s)

/-- SEG_ABORT. -/
def execSegAbort (session : BitVec 16) (seq : BitVec 32) (s : State) : Res :=
  .next (s.zlRequest session.toNat seq.toNat 0x26 (fun t slot => (t.asmDrop (8 + slot)).zlPut slot 0x26 odOK []))

/-- ASSEMBLY_BUFFER_IDLE: released after 5 s; a write of a session ends with SEGMENT. -/
def State.asmIdle (s : State) (b : Nat) : State :=
  match tabFind s.asm b with
  | none => s
  | some a =>
    let s : State := { s with asm := tabDel s.asm b }
    if a.write && decide (8 ≤ a.src) then s.zlPut (a.src - 8) 0x25 odSEGMENT (ackPayload a.data.length) else s

def execAssemblyBufferIdle (b : Fin 4) (s : State) : Res := .next (s.asmIdle b.val)

/-! ### Events (R450) -/

/-- The frame of the outstanding EVENT. -/
def State.eventFrame (s : State) (x : Session) (o : EvOut) (r : Rec) : State :=
  s.emit (.zalene 0x30 x.number o.frame 0 (leBytes 4 o.seq ++ leBytes 4 o.lost ++ r.bytes))

/-- EVENT_SEND: the head of the queue, while no EVENT is outstanding; LOST counts anew. -/
def State.eventSend (s : State) (slot : Nat) : State :=
  match tabFind s.zl.sessions slot with
  | none => s
  | some x =>
    match x.queue with
    | [] => s
    | r :: _ =>
      if !s.zlOn || x.outstanding.isSome then s
      else
        let n := (x.txSeq + 1) % 2 ^ 32
        let o : EvOut := { seq := x.evSeq, frame := n, lost := x.lost }
        (s.putSession slot { x with txSeq := n, outstanding := some o, retries := 0, evSeq := (x.evSeq + 1) % 2 ^ 32, lost := 0 }).eventFrame x o r

def execEventSend (slot : Fin 8) (s : State) : Res := .next (s.eventSend slot.val)

/-- EVENT_ACK: the outstanding sequence only; the record leaves the queue. -/
def State.eventAck (s : State) (slot evseq : Nat) : State :=
  match tabFind s.zl.sessions slot with
  | none => s
  | some x =>
    match x.outstanding with
    | some o => if o.seq = evseq then s.putSession slot { x with outstanding := none, retries := 0, queue := x.queue.drop 1 } else s
    | none => s

def execEventAck (session : BitVec 16) (seq evseq : BitVec 32) (s : State) : Res :=
  .next (s.zlRequest session.toNat seq.toNat 0x31 (fun t slot => t.eventAck slot evseq.toNat))

/-- EVENT_ACK_TIMEOUT: sent again up to 3 times, then the session closes, C0. -/
def State.eventTimeout (s : State) (slot : Nat) : State :=
  match tabFind s.zl.sessions slot with
  | none => s
  | some x =>
    match x.outstanding, x.queue with
    | some o, r :: _ =>
      if x.retries < 3 then (s.putSession slot { x with retries := x.retries + 1 }).eventFrame x o r
      else (s.sessionEnd slot).zlReport zlCLOSED slot
    | _, _ => s

def execEventAckTimeout (slot : Fin 8) (s : State) : Res := .next (if s.zlOn then s.eventTimeout slot.val else s)

/-! ### Wake (R452) -/

/-- WAKE: answered while the link runs; in P4 the detector compares the payload with WAKE_CODE, and a WAKE_CODE of 0 disables it. -/
def State.zlWake (s : State) (code : Nat) : State :=
  if s.zlOn then s.zlSend0 0x3F odOK []
  else if code ≠ 0 ∧ code = s.par 0x1010 10 then s.wake 2
  else s

def execWake (code : BitVec 32) (s : State) : Res := .next (s.zlWake code.toNat)

end Sys2Proof.Machine
end

