-- ==== Sys2Proof/Machine/RegisterCommands.lean ====
section
/-! DEFINITION. RegisterCommands.lean: register reads and writes by any requester, and the ends of power-on that complete accesses that waited
(18_register_access.md R408 to R418). -/

namespace Sys2Proof.Machine
open Sys2Proof

/-- A write with its whole effect: GO of the host path starts the request of the requester's bank (19_object_dictionary.md R453). -/
def State.regFull (s : State) (q off size v : Nat) : Answer18 :=
  let r := s.regDo q off size v
  if r.cause ≠ 0 ∨ r.waits ∨ !bitOf v 0 then r
  else match s.area18 off with
    | .block 0x16000 _ => { r with st := r.st.hostGo q (v / 2 % 4) }
    | _ => r

/-- The accesses that waited for a domain complete once no exit runs (R417 step 4), lower requester first. -/
def State.finishCrossings (s : State) : State :=
  if s.pwr.kind = .exit then s
  else s.crossing.foldl (fun t p => match p.2.wr with
    | some v => t.endWrite p.1 p.2.off v (t.regFull p.1 p.2.off 4 v)
    | none => t.endRead p.1 p.2.off (t.regRead p.1 p.2.off 4)) { s with crossing := [] }

/-- REGISTER_WRITE (R409 to R418). A requester whose access waits makes no other. -/
def State.regWriteCmd (s : State) (q off v size : Nat) : State :=
  if (tabFind s.crossing q).isSome then s else s.endWrite q off v (s.regFull q off size v)

def execRegisterWrite (q : Fin 8) (off : BitVec 24) (v : Word) (size : Nat) (s : State) : Res :=
  .next (s.regWriteCmd q.val off.toNat v.toNat size)

/-- REGISTER_READ (R409 to R418). -/
def State.regReadCmd (s : State) (q off size : Nat) : State :=
  if (tabFind s.crossing q).isSome then s else s.endRead q off (s.regRead q off size)

def execRegisterRead (q : Fin 8) (off : BitVec 24) (size : Nat) (s : State) : Res := .next (s.regReadCmd q.val off.toNat size)

/-- POWER_EXIT_DONE (21_power_clocks_startup.md R481). -/
def execPowerExitDone (s : State) : Res := .next s.exitDone.finishCrossings

/-- STARTUP_TABLES_READ (R488 steps 11 and 12, R183). -/
def execStartupTablesRead (bad : List (BitVec 32 × Fin 32)) (s : State) : Res :=
  .next (s.tablesRead (bad.map (fun b => (b.1.toNat, b.2.val)))).finishCrossings

end Sys2Proof.Machine
end

