-- ==== Sys2Proof/Machine/Dispatch.lean ====
section
/-! DEFINITION. Dispatch.lean: one arm per command, each a direct call of the command's meaning. -/

namespace Sys2Proof.Machine
open Sys2Proof

def exec (i : Instr) (s : State) : Host.Outcome State Fault Refusal :=
  match i with
  | .slotMap a slot head => Sys2Proof.Machine.execSlotMap a slot head s
  | .slotMode a slot mode => Sys2Proof.Machine.execSlotMode a slot mode s
  | .readBias a head reader code => Sys2Proof.Machine.execReadBias a head reader code s
  | .writeCurrent a head code amp dur => Sys2Proof.Machine.execWriteCurrent a head code amp dur s
  | .heater a head sel power => Sys2Proof.Machine.execHeater a head sel power s
  | .maDrive a entries => Sys2Proof.Machine.execMaDrive a entries s
  | .statusRead a => Sys2Proof.Machine.execStatusRead a s
  | .linkReset a => Sys2Proof.Machine.execLinkReset a s
  | .echo a bytes => Sys2Proof.Machine.execEcho a bytes s
  | .pa12Response a frame bad => Sys2Proof.Machine.execPa12Response a frame bad s
  | .pa12RetryTimeout a => Sys2Proof.Machine.execPa12RetryTimeout a s
  | .heldSlotRequestSend a => Sys2Proof.Machine.execHeldSlotRequestSend a s
  | .pa12LinkArbitrate a => Sys2Proof.Machine.execPa12LinkArbitrate a s
  | .dnCrc a => Sys2Proof.Machine.execDnCrc a s
  | .writerOpen a head => Sys2Proof.Machine.execWriterOpen a head s
  | .writerShort a head => Sys2Proof.Machine.execWriterShort a head s
  | .readerFault a head reader => Sys2Proof.Machine.execReaderFault a head reader s
  | .heaterFault a head => Sys2Proof.Machine.execHeaterFault a head s
  | .maOvercurrent a head => Sys2Proof.Machine.execMaOvercurrent a head s
  | .overtemp a celsius => Sys2Proof.Machine.execOvertemp a celsius s
  | .plEnable a v => Sys2Proof.Machine.execPlEnable a v s
  | .plRetrain a => Sys2Proof.Machine.execPlRetrain a s
  | .linkTrainingStepDone a => Sys2Proof.Machine.execLinkTrainingStepDone a s
  | .linkTrainingTimeout a => Sys2Proof.Machine.execLinkTrainingTimeout a s
  | .linkRetrainTimer a => Sys2Proof.Machine.execLinkRetrainTimer a s
  | .identityReadStart => Sys2Proof.Machine.execIdentityReadStart s
  | .identityTransferDone role result => Sys2Proof.Machine.execIdentityTransferDone role result s
  | .identityTransferTimeout role => Sys2Proof.Machine.execIdentityTransferTimeout role s
  | .moduleAdmission role sigOk => Sys2Proof.Machine.execModuleAdmission role sigOk s
  | .modReread role => Sys2Proof.Machine.execModReread role s
  | .truEnableWrite a enable hold => Sys2Proof.Machine.execTruEnableWrite a enable hold s
  | .truAcqStart a => Sys2Proof.Machine.execTruAcqStart a s
  | .truFreqAcquired a => Sys2Proof.Machine.execTruFreqAcquired a s
  | .truPhaseAcquired a => Sys2Proof.Machine.execTruPhaseAcquired a s
  | .truFrame a f => Sys2Proof.Machine.execTruFrame a f s
  | .truLossPhase a => Sys2Proof.Machine.execTruLossPhase a s
  | .truLossAmplitude a => Sys2Proof.Machine.execTruLossAmplitude a s
  | .relockLimitExpiry a => Sys2Proof.Machine.execRelockLimitExpiry a s
  | .truReacq a => Sys2Proof.Machine.execTruReacq a s
  | .clockHeadFailTimeout a => Sys2Proof.Machine.execClockHeadFailTimeout a s
  | .synthSlewDone n => Sys2Proof.Machine.execSynthSlewDone n s
  | .wedgeRead n w => Sys2Proof.Machine.execWedgeRead n w s
  | .htTrimWrite a head rro v => Sys2Proof.Machine.execHtTrimWrite a head rro v s
  | .slotAllocate n => Sys2Proof.Machine.execSlotAllocate n s
  | .fieldReadEnd n mets readers => Sys2Proof.Machine.execFieldReadEnd n mets readers s
  | .adaptUpdate n r m => Sys2Proof.Machine.execAdaptUpdate n r m s
  | .taDetect n readers start stop => Sys2Proof.Machine.execTaDetect n readers start stop s
  | .feRegWrite n off v => Sys2Proof.Machine.execFeRegWrite n off v s
  | .reeqRequest n slot pos profile => Sys2Proof.Machine.execReeqRequest n slot pos profile s
  | .reeqDone n => Sys2Proof.Machine.execReeqDone n s
  | .calStart n => Sys2Proof.Machine.execCalStart n s
  | .calAbort n => Sys2Proof.Machine.execCalAbort n s
  | .calPhaseDone n res read vals snr => Sys2Proof.Machine.execCalPhaseDone n res read vals snr s
  | .laneRequest n slot retry => Sys2Proof.Machine.execLaneRequest n slot retry s
  | .laneAllocate half => Sys2Proof.Machine.execLaneAllocate half s
  | .decodeAttemptStart k => Sys2Proof.Machine.execDecodeAttemptStart k s
  | .sweepEnd k unsat flips checkerOk crcOk physOk tagOk => Sys2Proof.Machine.execSweepEnd k unsat flips checkerOk crcOk physOk tagOk s
  | .outputStoreFree half => Sys2Proof.Machine.execOutputStoreFree half s
  | .retryBudgetExpiry n slot => Sys2Proof.Machine.execRetryBudgetExpiry n slot s
  | .laneRetire k => Sys2Proof.Machine.execLaneRetire k s
  | .laneRestore k => Sys2Proof.Machine.execLaneRestore k s
  | .laneSelftestDone k pass => Sys2Proof.Machine.execLaneSelftestDone k pass s
  | .laneFault k checker => Sys2Proof.Machine.execLaneFault k checker s
  | .cellFault k c => Sys2Proof.Machine.execCellFault k c s
  | .laneMemoryCorrected k => Sys2Proof.Machine.execLaneMemoryCorrected k s
  | .codeTableFault copy k cell => Sys2Proof.Machine.execCodeTableFault copy k cell s
  | .sectorEncodeDone n => Sys2Proof.Machine.execSectorEncodeDone n s
  | .writeSetup n => Sys2Proof.Machine.execWriteSetup n s
  | .wrCtrlWrite n v => Sys2Proof.Machine.execWrCtrlWrite n v s
  | .writeHoldExpiry a head => Sys2Proof.Machine.execWriteHoldExpiry a head s
  | .stripeUpdateStart stripe pool => Sys2Proof.Machine.execStripeUpdateStart stripe pool s
  | .parityDone stripe busError => Sys2Proof.Machine.execParityDone stripe busError s
  | .memberWritten n => Sys2Proof.Machine.execMemberWritten n s
  | .rebuildStart stripe pos pool => Sys2Proof.Machine.execRebuildStart stripe pos pool s
  | .rebuildDone stripe pos result => Sys2Proof.Machine.execRebuildDone stripe pos result s
  | .verifyRead code => Sys2Proof.Machine.execVerifyRead code s
  | .recoveryRewrite => Sys2Proof.Machine.execRecoveryRewrite s
  | .captureDone n => Sys2Proof.Machine.execCaptureDone n s
  | .capNext => Sys2Proof.Machine.execCapNext s
  | .replayStart => Sys2Proof.Machine.execReplayStart s
  | .replayAbort => Sys2Proof.Machine.execReplayAbort s
  | .replayStepDone => Sys2Proof.Machine.execReplayStepDone s
  | .microword n => Sys2Proof.Machine.execMicroword n s
  | .pop n => Sys2Proof.Machine.execPop n s
  | .advance n => Sys2Proof.Machine.execAdvance n s
  | .done n => Sys2Proof.Machine.execDone n s
  | .requeue n => Sys2Proof.Machine.execRequeue n s
  | .map n => Sys2Proof.Machine.execMap n s
  | .retarget n => Sys2Proof.Machine.execRetarget n s
  | .call n imm next => Sys2Proof.Machine.execCall n imm next s
  | .ret n => Sys2Proof.Machine.execRet n s
  | .sequencerEvent n e bit => Sys2Proof.Machine.execSequencerEvent n e bit s
  | .sequencerEccError n uncorrectable => Sys2Proof.Machine.execSequencerEccError n uncorrectable s
  | .tgtWdogExpiry n => Sys2Proof.Machine.execTgtWdogExpiry n s
  | .stageLoad sigOk => Sys2Proof.Machine.execStageLoad sigOk s
  | .stageSwap => Sys2Proof.Machine.execStageSwap s
  | .stageLoadSwap sigOk => Sys2Proof.Machine.execStageLoadSwap sigOk s
  | .swapTake n => Sys2Proof.Machine.execSwapTake n s
  | .swapLimitExpiry n => Sys2Proof.Machine.execSwapLimitExpiry n s
  | .sqRun n v => Sys2Proof.Machine.execSqRun n v s
  | .sqSwap n => Sys2Proof.Machine.execSqSwap n s
  | .sqRestart n => Sys2Proof.Machine.execSqRestart n s
  | .cellTrigger n y valid => Sys2Proof.Machine.execCellTrigger n y valid s
  | .evalComplete n => Sys2Proof.Machine.execEvalComplete n s
  | .deadlineMiss n => Sys2Proof.Machine.execDeadlineMiss n s
  | .gainSetRequest n g => Sys2Proof.Machine.execGainSetRequest n g s
  | .pgTarget c target => Sys2Proof.Machine.execPgTarget c target s
  | .pgPeriod c => Sys2Proof.Machine.execPgPeriod c s
  | .pgStop c => Sys2Proof.Machine.execPgStop c s
  | .mcPeakClr lane => Sys2Proof.Machine.execMcPeakClr lane s
  | .recStart => Sys2Proof.Machine.execRecStart s
  | .recStop => Sys2Proof.Machine.execRecStop s
  | .recClear => Sys2Proof.Machine.execRecClear s
  | .replayCmdStart => Sys2Proof.Machine.execReplayCmdStart s
  | .replayCmdStop => Sys2Proof.Machine.execReplayCmdStop s
  | .shadowEval n => Sys2Proof.Machine.execShadowEval n s
  | .seekRequest a cyl mask writes => Sys2Proof.Machine.execSeekRequest a cyl mask writes s
  | .vcmSample a duty current => Sys2Proof.Machine.execVcmSample a duty current s
  | .settleTimeout a => Sys2Proof.Machine.execSettleTimeout a s
  | .headJog a head write => Sys2Proof.Machine.execHeadJog a head write s
  | .shockQualify axis => Sys2Proof.Machine.execShockQualify axis s
  | .skHoldExpiry => Sys2Proof.Machine.execSkHoldExpiry s
  | .vcLoad a => Sys2Proof.Machine.execVcLoad a s
  | .loadStepDone a => Sys2Proof.Machine.execLoadStepDone a s
  | .loadStepTimeout a => Sys2Proof.Machine.execLoadStepTimeout a s
  | .vcUnload a => Sys2Proof.Machine.execVcUnload a s
  | .parkLatched a => Sys2Proof.Machine.execParkLatched a s
  | .parkLimitExpiry a => Sys2Proof.Machine.execParkLimitExpiry a s
  | .vcRetract a => Sys2Proof.Machine.execVcRetract a s
  | .retT1Expiry a => Sys2Proof.Machine.execRetT1Expiry a s
  | .retT2Expiry a fast => Sys2Proof.Machine.execRetT2Expiry a fast s
  | .coilCurrentFault a => Sys2Proof.Machine.execCoilCurrentFault a s
  | .vcTargetWrite a cyl => Sys2Proof.Machine.execVcTargetWrite a cyl s
  | .spStart => Sys2Proof.Machine.execSpStart s
  | .spStop => Sys2Proof.Machine.execSpStop s
  | .spCoast => Sys2Proof.Machine.execSpCoast s
  | .spReset turning => Sys2Proof.Machine.execSpReset turning s
  | .currentTick iu iv vbus => Sys2Proof.Machine.execCurrentTick iu iv vbus s
  | .speedTick current power ambient csb => Sys2Proof.Machine.execSpeedTick current power ambient csb s
  | .holdPeriodSample x => Sys2Proof.Machine.execHoldPeriodSample x s
  | .holdTimeout => Sys2Proof.Machine.execHoldTimeout s
  | .detectTimeout => Sys2Proof.Machine.execDetectTimeout s
  | .offsetCalDone u v => Sys2Proof.Machine.execOffsetCalDone u v s
  | .testPulseDone peak => Sys2Proof.Machine.execTestPulseDone peak s
  | .startAttemptTimeout => Sys2Proof.Machine.execStartAttemptTimeout s
  | .startRestartDelay => Sys2Proof.Machine.execStartRestartDelay s
  | .bemfCrossing interval angle amplitude => Sys2Proof.Machine.execBemfCrossing interval angle amplitude s
  | .crossingTimeout => Sys2Proof.Machine.execCrossingTimeout s
  | .ov1Cross above => Sys2Proof.Machine.execOv1Cross above s
  | .chopperFault => Sys2Proof.Machine.execChopperFault s
  | .ov2Trip => Sys2Proof.Machine.execOv2Trip s
  | .undervoltTimeout => Sys2Proof.Machine.execUndervoltTimeout s
  | .hbmTempSample t => Sys2Proof.Machine.execHbmTempSample t s
  | .refreshDue p bank busy => Sys2Proof.Machine.execRefreshDue p bank busy s
  | .hbmRetrack ok => Sys2Proof.Machine.execHbmRetrack ok s
  | .hbmTrainingDone failed => Sys2Proof.Machine.execHbmTrainingDone failed s
  | .bufferZeroFillDone => Sys2Proof.Machine.execBufferZeroFillDone s
  | .hbmRead req addr len upset => Sys2Proof.Machine.execHbmRead req addr len upset s
  | .hbmWrite req addr bytes upset => Sys2Proof.Machine.execHbmWrite req addr bytes upset s
  | .strongDecode page word => Sys2Proof.Machine.execStrongDecode page word s
  | .parityEntryWrite page => Sys2Proof.Machine.execParityEntryWrite page s
  | .hbmFlipArm => Sys2Proof.Machine.execHbmFlipArm s
  | .skimPage p rewritten upset => Sys2Proof.Machine.execSkimPage p rewritten upset s
  | .skimLapEnd ms => Sys2Proof.Machine.execSkimLapEnd ms s
  | .skimLapOverdue => Sys2Proof.Machine.execSkimLapOverdue s
  | .skimRestart => Sys2Proof.Machine.execSkimRestart s
  | .skimEnable v => Sys2Proof.Machine.execSkimEnable v s
  | .ceRateWindow p => Sys2Proof.Machine.execCeRateWindow p s
  | .pcRetire p => Sys2Proof.Machine.execPcRetire p s
  | .hbmPcRetire p => Sys2Proof.Machine.execHbmPcRetire p s
  | .pcQueueDrained p => Sys2Proof.Machine.execPcQueueDrained p s
  | .relocRow p => Sys2Proof.Machine.execRelocRow p s
  | .pailRequest pool rids => Sys2Proof.Machine.execPailRequest pool rids s
  | .pailRelease pool rid ptr => Sys2Proof.Machine.execPailRelease pool rid ptr s
  | .pailDraw stamp => Sys2Proof.Machine.execPailDraw stamp s
  | .pailRerequest n => Sys2Proof.Machine.execPailRerequest n s
  | .pailWaitExpiry n => Sys2Proof.Machine.execPailWaitExpiry n s
  | .pailMinClr p => Sys2Proof.Machine.execPailMinClr p s
  | .mcAccess port addr wr len fault => Sys2Proof.Machine.execMcAccess port addr wr len fault s
  | .mcFillDone line => Sys2Proof.Machine.execMcFillDone line s
  | .mergeDrain => Sys2Proof.Machine.execMergeDrain s
  | .mcEnableWrite v => Sys2Proof.Machine.execMcEnableWrite v s
  | .mcStateDone => Sys2Proof.Machine.execMcStateDone s
  | .mcInvGo => Sys2Proof.Machine.execMcInvGo s
  | .mcInvDone => Sys2Proof.Machine.execMcInvDone s
  | .mcLockEn k v => Sys2Proof.Machine.execMcLockEn k v s
  | .mcPreload k => Sys2Proof.Machine.execMcPreload k s
  | .chDqDoorbell e c v => Sys2Proof.Machine.execChDqDoorbell e c v s
  | .chCqHeadWrite e c v => Sys2Proof.Machine.execChCqHeadWrite e c v s
  | .chEnable e c v => Sys2Proof.Machine.execChEnable e c v s
  | .descStart e => Sys2Proof.Machine.execDescStart e s
  | .burstIssue e => Sys2Proof.Machine.execBurstIssue e s
  | .burstComplete e c pos ans => Sys2Proof.Machine.execBurstComplete e c pos ans s
  | .recordWrite e c fails => Sys2Proof.Machine.execRecordWrite e c fails s
  | .deAbortGo e => Sys2Proof.Machine.execDeAbortGo e s
  | .internalDescAbort ds => Sys2Proof.Machine.execInternalDescAbort ds s
  | .deEnableWrite e v => Sys2Proof.Machine.execDeEnableWrite e v s
  | .atsResponse port pasid page ans => Sys2Proof.Machine.execAtsResponse port pasid page ans s
  | .atsInvalidate port pasid page size => Sys2Proof.Machine.execAtsInvalidate port pasid page size s
  | .pageRequestSend port => Sys2Proof.Machine.execPageRequestSend port s
  | .prgResponse port group code => Sys2Proof.Machine.execPrgResponse port group code s
  | .priTimeout port group => Sys2Proof.Machine.execPriTimeout port group s
  | .dmaEngineFault e uncorrectable => Sys2Proof.Machine.execDmaEngineFault e uncorrectable s
  | .nvmeCreateIoSq q cid qid size pc prio cqid base pool => Sys2Proof.Machine.execNvmeCreateIoSq q cid qid size pc prio cqid base pool s
  | .nvmeDeleteIoSq q cid qid => Sys2Proof.Machine.execNvmeDeleteIoSq q cid qid s
  | .nvmeCreateIoCq q cid qid size pc vector base => Sys2Proof.Machine.execNvmeCreateIoCq q cid qid size pc vector base s
  | .nvmeDeleteIoCq q cid qid => Sys2Proof.Machine.execNvmeDeleteIoCq q cid qid s
  | .getLogPage q cid lid rae offset list => Sys2Proof.Machine.execGetLogPage q cid lid rae offset list s
  | .identify q cid cns nsid list => Sys2Proof.Machine.execIdentify q cid cns nsid list s
  | .nvmeAbort q cid sqid target => Sys2Proof.Machine.execNvmeAbort q cid sqid target s
  | .setFeatures q cid fid nsid v data => Sys2Proof.Machine.execSetFeatures q cid fid nsid v data s
  | .getFeatures q cid fid nsid list => Sys2Proof.Machine.execGetFeatures q cid fid nsid list s
  | .asynchronousEventRequest q cid => Sys2Proof.Machine.execAsynchronousEventRequest q cid s
  | .firmwareDownload q cid offset bytes => Sys2Proof.Machine.execFirmwareDownload q cid offset bytes s
  | .firmwareCommit q cid action slot im => Sys2Proof.Machine.execFirmwareCommit q cid action slot im s
  | .mediaPurge q cid => Sys2Proof.Machine.execMediaPurge q cid s
  | .mediaPurgeDone => Sys2Proof.Machine.execMediaPurgeDone s
  | .nvmeFlush q sq cid nsid => Sys2Proof.Machine.execNvmeFlush q sq cid nsid s
  | .nvmeWrite q sq cid nsid lba nlb fua list => Sys2Proof.Machine.execNvmeWrite q sq cid nsid lba nlb fua list s
  | .nvmeRead q sq cid nsid lba nlb list => Sys2Proof.Machine.execNvmeRead q sq cid nsid lba nlb list s
  | .nvmeWriteZeroes q sq cid nsid lba nlb fua => Sys2Proof.Machine.execNvmeWriteZeroes q sq cid nsid lba nlb fua s
  | .nvmeCompare q sq cid nsid lba nlb mismatch list => Sys2Proof.Machine.execNvmeCompare q sq cid nsid lba nlb mismatch list s
  | .datasetManagement q sq cid nsid => Sys2Proof.Machine.execDatasetManagement q sq cid nsid s
  | .reservationRegister q sq cid nsid action iekey cptpl crkey nrkey => Sys2Proof.Machine.execReservationRegister q sq cid nsid action iekey cptpl crkey nrkey s
  | .reservationReport q sq cid nsid eds list => Sys2Proof.Machine.execReservationReport q sq cid nsid eds list s
  | .reservationAcquire q sq cid nsid action rtype crkey prkey => Sys2Proof.Machine.execReservationAcquire q sq cid nsid action rtype crkey prkey s
  | .reservationRelease q sq cid nsid action rtype crkey => Sys2Proof.Machine.execReservationRelease q sq cid nsid action rtype crkey s
  | .nvmeSqDoorbell q sq v => Sys2Proof.Machine.execNvmeSqDoorbell q sq v s
  | .nvmeCqDoorbell q cq v => Sys2Proof.Machine.execNvmeCqDoorbell q cq v s
  | .controllerReset q => Sys2Proof.Machine.execControllerReset q s
  | .functionLevelReset q => Sys2Proof.Machine.execFunctionLevelReset q s
  | .portLinkDown q => Sys2Proof.Machine.execPortLinkDown q s
  | .srDoorbell n v headOwn => Sys2Proof.Machine.execSrDoorbell n v headOwn s
  | .crHeadDoorbell c v => Sys2Proof.Machine.execCrHeadDoorbell c v s
  | .fetch ans => Sys2Proof.Machine.execFetch ans s
  | .prefetch n unit ans => Sys2Proof.Machine.execPrefetch n unit ans s
  | .entryReleaseWrite n ans => Sys2Proof.Machine.execEntryReleaseWrite n ans s
  | .pad n len => Sys2Proof.Machine.execPad n len s
  | .read n nsid cid lba count list => Sys2Proof.Machine.execRead n nsid cid lba count list s
  | .write n nsid cid lba count fua list => Sys2Proof.Machine.execWrite n nsid cid lba count fua list s
  | .flush n nsid cid => Sys2Proof.Machine.execFlush n nsid cid s
  | .writeZeroes n nsid cid lba count fua => Sys2Proof.Machine.execWriteZeroes n nsid cid lba count fua s
  | .abort n cid ring target => Sys2Proof.Machine.execAbort n cid ring target s
  | .sectorInstall stamp ix => Sys2Proof.Machine.execSectorInstall stamp ix s
  | .commandFinish stamp ans => Sys2Proof.Machine.execCommandFinish stamp ans s
  | .crVectorSignal c => Sys2Proof.Machine.execCrVectorSignal c s
  | .sectorDispatch a at_ => Sys2Proof.Machine.execSectorDispatch a at_ s
  | .rqCreate set => Sys2Proof.Machine.execRqCreate set s
  | .rqDelete set => Sys2Proof.Machine.execRqDelete set s
  | .rqRestart set entry => Sys2Proof.Machine.execRqRestart set entry s
  | .rqFreeze set => Sys2Proof.Machine.execRqFreeze set s
  | .rqUpdate set => Sys2Proof.Machine.execRqUpdate set s
  | .put n cid fua space key oflags len arg list => Sys2Proof.Machine.execPut n cid fua space key oflags len arg list s
  | .get n cid space key oflags arg list => Sys2Proof.Machine.execGet n cid space key oflags arg list s
  | .delete n cid fua space key oflags arg => Sys2Proof.Machine.execDelete n cid fua space key oflags arg s
  | .list n cid space key cursor list => Sys2Proof.Machine.execList n cid space key cursor list s
  | .objectCompact pool => Sys2Proof.Machine.execObjectCompact pool s
  | .objectIndexLoad bad => Sys2Proof.Machine.execObjectIndexLoad bad s
  | .bucketReload b => Sys2Proof.Machine.execBucketReload b s
  | .registerWrite q off v size => Sys2Proof.Machine.execRegisterWrite q off v size s
  | .registerAccessTimeout q => Sys2Proof.Machine.execRegisterAccessTimeout q s
  | .bitAliasWrite q r o bit v => Sys2Proof.Machine.execBitAliasWrite q r o bit v s
  | .maskedWrite q r o half v => Sys2Proof.Machine.execMaskedWrite q r o half v s
  | .mbxGo q late => Sys2Proof.Machine.execMbxGo q late s
  | .cfgCommitGo q => Sys2Proof.Machine.execCfgCommitGo q s
  | .cfgChecksDone => Sys2Proof.Machine.execCfgChecksDone s
  | .cfgMramWritten => Sys2Proof.Machine.execCfgMramWritten s
  | .cfgDiscard q => Sys2Proof.Machine.execCfgDiscard q s
  | .odRead q => Sys2Proof.Machine.execOdRead q s
  | .odWrite q => Sys2Proof.Machine.execOdWrite q s
  | .odInfo q => Sys2Proof.Machine.execOdInfo q s
  | .dictionaryWrite src ix sub value => Sys2Proof.Machine.execDictionaryWrite src ix sub value s
  | .commit src v => Sys2Proof.Machine.execCommit src v s
  | .registerGatewayData src wr => Sys2Proof.Machine.execRegisterGatewayData src wr s
  | .assemblyBufferIdle b => Sys2Proof.Machine.execAssemblyBufferIdle b s
  | .discover => Sys2Proof.Machine.execDiscover s
  | .announce => Sys2Proof.Machine.execAnnounce s
  | .sessionInit key role onCurve nonceC => Sys2Proof.Machine.execSessionInit key role onCurve nonceC s
  | .sessionProve session sigOk macOk => Sys2Proof.Machine.execSessionProve session sigOk macOk s
  | .handshakeTimeout h => Sys2Proof.Machine.execHandshakeTimeout h s
  | .sessionClose session => Sys2Proof.Machine.execSessionClose session s
  | .sessionIdleExpiry slot => Sys2Proof.Machine.execSessionIdleExpiry slot s
  | .zaleneRead session seq ix sub running info => Sys2Proof.Machine.execZaleneRead session seq ix sub running info s
  | .zaleneWrite session seq ix sub value => Sys2Proof.Machine.execZaleneWrite session seq ix sub value s
  | .segRead session seq ix sub offset running => Sys2Proof.Machine.execSegRead session seq ix sub offset running s
  | .segWrite session seq ix sub total => Sys2Proof.Machine.execSegWrite session seq ix sub total s
  | .segment session seq offset bytes => Sys2Proof.Machine.execSegment session seq offset bytes s
  | .segAbort session seq => Sys2Proof.Machine.execSegAbort session seq s
  | .zaleneMacFail session => Sys2Proof.Machine.execZaleneMacFail session s
  | .eventSend slot => Sys2Proof.Machine.execEventSend slot s
  | .eventAck session seq evseq => Sys2Proof.Machine.execEventAck session seq evseq s
  | .eventAckTimeout slot => Sys2Proof.Machine.execEventAckTimeout slot s
  | .wake code => Sys2Proof.Machine.execWake code s
  | .neighbourDiscovery kind => Sys2Proof.Machine.execNeighbourDiscovery kind s
  | .duplicateNode => Sys2Proof.Machine.execDuplicateNode s
  | .faultReport blk src cell detail => Sys2Proof.Machine.execFaultReport blk src cell detail s
  | .chipRecordOpen r => Sys2Proof.Machine.execChipRecordOpen r s
  | .c2Remapped us => Sys2Proof.Machine.execC2Remapped us s
  | .regionRestart r => Sys2Proof.Machine.execRegionRestart r s
  | .regionRestartDone r us => Sys2Proof.Machine.execRegionRestartDone r us s
  | .chipFatal src => Sys2Proof.Machine.execChipFatal src s
  | .fcForceGo => Sys2Proof.Machine.execFcForceGo s
  | .fcClear => Sys2Proof.Machine.execFcClear s
  | .wdKick key => Sys2Proof.Machine.execWdKick key s
  | .wdCtrlWrite v => Sys2Proof.Machine.execWdCtrlWrite v s
  | .watchdogExpiry => Sys2Proof.Machine.execWatchdogExpiry s
  | .inputQualify pin level => Sys2Proof.Machine.execInputQualify pin level s
  | .inputStuck pin => Sys2Proof.Machine.execInputStuck pin s
  | .inputChatter pin => Sys2Proof.Machine.execInputChatter pin s
  | .inputRequalify pin => Sys2Proof.Machine.execInputRequalify pin s
  | .pfail vbus => Sys2Proof.Machine.execPfail vbus s
  | .tempSenseWindow inside => Sys2Proof.Machine.execTempSenseWindow inside s
  | .pwrGo q => Sys2Proof.Machine.execPwrGo q s
  | .powerCmd src v => Sys2Proof.Machine.execPowerCmd src v s
  | .idleTimerExpiry k => Sys2Proof.Machine.execIdleTimerExpiry k s
  | .powerEntryStage => Sys2Proof.Machine.execPowerEntryStage s
  | .participantAck p answer => Sys2Proof.Machine.execParticipantAck p answer s
  | .participantDelayTimeout p => Sys2Proof.Machine.execParticipantDelayTimeout p s
  | .domainsSwitched => Sys2Proof.Machine.execDomainsSwitched s
  | .wakeEvent bit => Sys2Proof.Machine.execWakeEvent bit s
  | .powerExitDone => Sys2Proof.Machine.execPowerExitDone s
  | .pwrdis => Sys2Proof.Machine.execPwrdis s
  | .swReset key => Sys2Proof.Machine.execSwReset key s
  | .por released strap => Sys2Proof.Machine.execPor released strap s
  | .resetN released strap => Sys2Proof.Machine.execResetN released strap s
  | .perst port deasserted => Sys2Proof.Machine.execPerst port deasserted s
  | .crystalLoss => Sys2Proof.Machine.execCrystalLoss s
  | .pllLockLoss k => Sys2Proof.Machine.execPllLockLoss k s
  | .startupStepDone microOk => Sys2Proof.Machine.execStartupStepDone microOk s
  | .startupTablesRead bad => Sys2Proof.Machine.execStartupTablesRead bad s
  | .recordStage => Sys2Proof.Machine.execRecordStage s
  | .recorderFlush => Sys2Proof.Machine.execRecorderFlush s
  | .flushTimer => Sys2Proof.Machine.execFlushTimer s
  | .rcFlush => Sys2Proof.Machine.execRcFlush s
  | .rcFreeze => Sys2Proof.Machine.execRcFreeze s
  | .rcThaw => Sys2Proof.Machine.execRcThaw s
  | .freezeLimitExpiry => Sys2Proof.Machine.execFreezeLimitExpiry s
  | .rcClear => Sys2Proof.Machine.execRcClear s
  | .rcReadGo q corrupt => Sys2Proof.Machine.execRcReadGo q corrupt s
  | .pfailHeaderFinal => Sys2Proof.Machine.execPfailHeaderFinal s
  | .healthInterval t xs => Sys2Proof.Machine.execHealthInterval t xs s
  | .keySlotWrite src mgmt slot key role sigOk => Sys2Proof.Machine.execKeySlotWrite src mgmt slot key role sigOk s
  | .secConfirm q => Sys2Proof.Machine.execSecConfirm q s
  | .svnCommit q => Sys2Proof.Machine.execSvnCommit q s
  | .secRecovery q => Sys2Proof.Machine.execSecRecovery q s
  | .secTest q => Sys2Proof.Machine.execSecTest q s
  | .modeReq src v => Sys2Proof.Machine.execModeReq src v s
  | .fwChunk src bytes => Sys2Proof.Machine.execFwChunk src bytes s
  | .downloadIdleTimeout => Sys2Proof.Machine.execDownloadIdleTimeout s
  | .fwWrite src im => Sys2Proof.Machine.execFwWrite src im s
  | .fwWriteAtReset src im => Sys2Proof.Machine.execFwWriteAtReset src im s
  | .fwActivateAtReset src => Sys2Proof.Machine.execFwActivateAtReset src s
  | .fwWriteNow src im => Sys2Proof.Machine.execFwWriteNow src im s
  | .switchoverStepDone => Sys2Proof.Machine.execSwitchoverStepDone s
  | .switchoverConfirmTimeout => Sys2Proof.Machine.execSwitchoverConfirmTimeout s
  | .formatImage src check records hash => Sys2Proof.Machine.execFormatImage src check records hash s
  | .quote src => Sys2Proof.Machine.execQuote src s
  | .mtRetire src => Sys2Proof.Machine.execMtRetire src s
  | .mtRestore src selftest => Sys2Proof.Machine.execMtRestore src selftest s
  | .mtRecalibrate src => Sys2Proof.Machine.execMtRecalibrate src s
  | .channelRemap n => Sys2Proof.Machine.execChannelRemap n s
  | .dmaEngineHandover e => Sys2Proof.Machine.execDmaEngineHandover e s
  | .recalGroupVisit a g waited => Sys2Proof.Machine.execRecalGroupVisit a g waited s
  | .truCarrierReturn a => Sys2Proof.Machine.execTruCarrierReturn a s
  | .mediaScrub stripe pool => Sys2Proof.Machine.execMediaScrub stripe pool s
  | .hbmSelfRefreshEntry => Sys2Proof.Machine.execHbmSelfRefreshEntry s
  | .pcieConfigAccess q req => Sys2Proof.Machine.execPcieConfigAccess q req s
  | .registerRead q off size => Sys2Proof.Machine.execRegisterRead q off size s
  | .nvmeControllerEnable q asq acq asqs acqs wrr => Sys2Proof.Machine.execNvmeControllerEnable q asq acq asqs acqs wrr s

end Sys2Proof.Machine
end

