-- ==== Sys2Proof/Safety.lean ====
section
/-! DEFINITION. Safety.lean: what holds of every state the block can be in and what every step keeps, in the terms the claims use. -/

namespace Sys2Proof.Machine
open Sys2Proof

/-- The state is in canonical form: the buffer's bytes and the register file list every address at most once, in rising order, and memory lists no
byte that equals what an unlisted address reads as, so that equal contents are equal data. -/
def State.canonical (s : State) : Bool := Memory.wf s.mem && tabWf s.regs && tabWf s.regsRun

/-- What every command keeps: the queue and the ordering code are untouched, MIN_SVN only rises (23_security_maintenance.md R513), the fuse REVOKE0 is no
command's to blow (R508), and the canonical form stays. -/
structure Kept (s t : State) : Prop where
  pending : t.pending = s.pending
  part : t.part = s.part
  minSvn : s.sec.minSvn ≤ t.sec.minSvn
  revoke0 : t.sec.revoke0 = s.sec.revoke0
  mem : Memory.wf s.mem = true → Memory.wf t.mem = true
  regs : tabWf s.regs = true ∧ tabWf s.regsRun = true → tabWf t.regs = true ∧ tabWf t.regsRun = true

/-! ### Words the statements use -/

/-- The link of actuator a is UP and its downstream lane takes a command at once: nothing is being sent, outstanding or waiting (02_attached_modules.md
R38, R41). -/
abbrev State.laneFree (s : State) (a : Nat) : Prop :=
  s.rf PL_STATUS_STATE a = 2 ∧ (s.plSt a).sending = false ∧ (s.plSt a).outst = none ∧ (s.plSt a).queue = []

/-- The state after an acknowledged command has been put on the downstream lane (R34, R38). -/
def State.pa12Sent (s : State) (a op : Nat) (payload : List Byte) : State :=
  let seq := (s.rf PL_STATUS_LAST_SEQ a + 1) % 16
  (((s.wf PL_STATUS_LAST_SEQ seq a).wb PL_STATUS_CMD_BUSY true a).emit (.pa12 a (plBytes op seq payload))).modPl a
    (fun p => { p with outst := some { op := op, payload := payload }, retries := 0, sending := true })

end Sys2Proof.Machine
end

