-- ==== Sys2Proof/WellFormed.lean ====
section
/-! DEFINITION. WellFormed.lean: what the commands' operands must satisfy beside their types for the command to be one that the block's
interfaces can carry. `exec` is total on every term; a term outside these limits is no command of the part. -/

namespace Sys2Proof

/-- Why a term is no command. -/
inductive IllFormed where
  /-- MA_DRIVE carries 1 to 8 entries, one a slot (02_attached_modules.md R36, R42). -/
  | driveEntries
  /-- A field has 17 sync candidates (04_zones_and_format.md R108). -/
  | syncMetrics
  /-- There are four timing recovery units (03_clock_surface.md R60). -/
  | rates
  /-- An access or a list names nothing. -/
  | noBytes
  /-- Requests of one pool cycle name each requester once, and at least one (13_pails_and_cache.md R317). -/
  | requesters
  /-- The bytes of a write are as many as its length says. -/
  | accessBytes
  /-- An entry read from a ring or queue is 1 to 16 units of 16 bytes (16_miofoest_rings.md R370). -/
  | entryLength
  /-- A firmware part is a whole number of dwords (15_nvme_ports.md R356). -/
  | dwords
  /-- An entry is at most 16 units: 14 for host list elements, and for an object entry its key's units with them (R370, 17_object_service.md R399). -/
  | entryUnits
  /-- A register access is 1, 2, 4 or 8 bytes on its bus (18_register_access.md R409). -/
  | accessSize
  deriving DecidableEq, Repr

/-- A number stands twice. -/
def hasDup : List Nat → Bool
  | [] => false
  | x :: r => r.contains x || hasDup r

/-- The reason if the term is bad. -/
def IllFormed.ok (bad : Bool) (r : IllFormed) : Option IllFormed := if bad then some r else none

/-- A fetched entry's bytes. -/
def IllFormed.badEntry : FetchAns → Option IllFormed
  | .entry b => ok (b.length == 0 || b.length % 16 != 0 || decide (256 < b.length)) .entryLength
  | _ => none

/-- KU + E of an object entry. -/
def IllFormed.objUnits (key : List Byte) (n : Nat) : Option IllFormed := ok (decide (255 < key.length) || decide (14 < (key.length + 15) / 16 + n)) .entryUnits

open IllFormed in
/-- The first check a term fails; none for a command. -/
def Instr.check : Instr → Option IllFormed
  | .maDrive _ entries => ok (entries.length == 0 || decide (8 < entries.length) || hasDup (entries.map (fun e => e.1.val))) .driveEntries
  | .fieldReadEnd _ mets _ => ok (mets.length != 17) .syncMetrics
  | .speedTick _ _ _ csb => ok (decide (4 < csb.length)) .rates
  | .hbmRead _ _ len _ => ok (len == 0) .noBytes
  | .hbmWrite _ _ bytes _ => ok (bytes.length == 0) .noBytes
  | .pailRequest _ rids => ok (rids.length == 0 || hasDup (rids.map Fin.val)) .requesters
  | .mcAccess _ _ wr len _ => ok (len == 0 || match wr with | some b => b.length != len | none => false) .accessBytes
  | .internalDescAbort ds => ok (ds.length == 0) .noBytes
  | .firmwareDownload _ _ _ bytes => ok (bytes.length == 0 || bytes.length % 4 != 0) .dwords
  | .fetch ans => badEntry ans
  | .prefetch _ _ ans => badEntry ans
  | .read _ _ _ _ _ hl => ok (decide (14 < hl.length)) .entryUnits
  | .write _ _ _ _ _ _ hl => ok (decide (14 < hl.length)) .entryUnits
  | .rqRestart _ entry => badEntry (.entry entry)
  | .put _ _ _ _ key _ _ _ hl => objUnits key hl.length
  | .get _ _ _ key _ _ hl => objUnits key hl.length
  | .delete _ _ _ _ key _ _ => objUnits key 0
  | .list _ _ _ key _ hl => objUnits key hl.length
  | .registerWrite _ _ _ size => ok (!([1, 2, 4, 8].contains size)) .accessSize
  | .registerRead _ _ size => ok (!([1, 2, 4, 8].contains size)) .accessSize
  | .slotMap .. | .slotMode .. | .readBias .. | .writeCurrent .. | .heater .. | .statusRead .. | .linkReset .. | .echo .. | .pa12Response ..
  | .pa12RetryTimeout .. | .heldSlotRequestSend .. | .pa12LinkArbitrate .. | .dnCrc .. | .writerOpen .. | .writerShort .. | .readerFault ..
  | .heaterFault .. | .maOvercurrent .. | .overtemp .. | .plEnable .. | .plRetrain .. | .linkTrainingStepDone .. | .linkTrainingTimeout ..
  | .linkRetrainTimer .. | .identityReadStart .. | .identityTransferDone .. | .identityTransferTimeout .. | .moduleAdmission .. | .modReread ..
  | .truEnableWrite .. | .truAcqStart .. | .truFreqAcquired .. | .truPhaseAcquired .. | .truFrame .. | .truLossPhase .. | .truLossAmplitude ..
  | .relockLimitExpiry .. | .truReacq .. | .clockHeadFailTimeout .. | .synthSlewDone .. | .wedgeRead .. | .htTrimWrite .. | .slotAllocate ..
  | .adaptUpdate .. | .taDetect .. | .feRegWrite .. | .reeqRequest .. | .reeqDone .. | .calStart .. | .calAbort .. | .calPhaseDone .. | .laneRequest ..
  | .laneAllocate .. | .decodeAttemptStart .. | .sweepEnd .. | .outputStoreFree .. | .retryBudgetExpiry .. | .laneRetire .. | .laneRestore ..
  | .laneSelftestDone .. | .laneFault .. | .cellFault .. | .laneMemoryCorrected .. | .codeTableFault .. | .sectorEncodeDone .. | .writeSetup ..
  | .wrCtrlWrite .. | .writeHoldExpiry .. | .stripeUpdateStart .. | .parityDone .. | .memberWritten .. | .rebuildStart .. | .rebuildDone ..
  | .verifyRead .. | .recoveryRewrite .. | .captureDone .. | .capNext .. | .replayStart .. | .replayAbort .. | .replayStepDone .. | .microword ..
  | .pop .. | .advance .. | .done .. | .requeue .. | .map .. | .retarget .. | .call .. | .ret .. | .sequencerEvent .. | .sequencerEccError ..
  | .tgtWdogExpiry .. | .stageLoad .. | .stageSwap .. | .stageLoadSwap .. | .swapTake .. | .swapLimitExpiry .. | .sqRun .. | .sqSwap .. | .sqRestart ..
  | .cellTrigger .. | .evalComplete .. | .deadlineMiss .. | .gainSetRequest .. | .pgTarget .. | .pgPeriod .. | .pgStop .. | .mcPeakClr .. | .recStart ..
  | .recStop .. | .recClear .. | .replayCmdStart .. | .replayCmdStop .. | .shadowEval .. | .seekRequest .. | .vcmSample .. | .settleTimeout ..
  | .headJog .. | .shockQualify .. | .skHoldExpiry .. | .vcLoad .. | .loadStepDone .. | .loadStepTimeout .. | .vcUnload .. | .parkLatched ..
  | .parkLimitExpiry .. | .vcRetract .. | .retT1Expiry .. | .retT2Expiry .. | .coilCurrentFault .. | .vcTargetWrite .. | .spStart .. | .spStop ..
  | .spCoast .. | .spReset .. | .currentTick .. | .holdPeriodSample .. | .holdTimeout .. | .detectTimeout .. | .offsetCalDone .. | .testPulseDone ..
  | .startAttemptTimeout .. | .startRestartDelay .. | .bemfCrossing .. | .crossingTimeout .. | .ov1Cross .. | .chopperFault .. | .ov2Trip ..
  | .undervoltTimeout .. | .hbmTempSample .. | .refreshDue .. | .hbmRetrack .. | .hbmTrainingDone .. | .bufferZeroFillDone .. | .strongDecode ..
  | .parityEntryWrite .. | .hbmFlipArm .. | .skimPage .. | .skimLapEnd .. | .skimLapOverdue .. | .skimRestart .. | .skimEnable .. | .ceRateWindow ..
  | .pcRetire .. | .hbmPcRetire .. | .pcQueueDrained .. | .relocRow .. | .pailRelease .. | .pailDraw .. | .pailRerequest .. | .pailWaitExpiry ..
  | .pailMinClr .. | .mcFillDone .. | .mergeDrain .. | .mcEnableWrite .. | .mcStateDone .. | .mcInvGo .. | .mcInvDone .. | .mcLockEn .. | .mcPreload ..
  | .chDqDoorbell .. | .chCqHeadWrite .. | .chEnable .. | .descStart .. | .burstIssue .. | .burstComplete .. | .recordWrite .. | .deAbortGo ..
  | .deEnableWrite .. | .atsResponse .. | .atsInvalidate .. | .pageRequestSend .. | .prgResponse .. | .priTimeout .. | .dmaEngineFault ..
  | .nvmeCreateIoSq .. | .nvmeDeleteIoSq .. | .nvmeCreateIoCq .. | .nvmeDeleteIoCq .. | .getLogPage .. | .identify .. | .nvmeAbort .. | .setFeatures ..
  | .getFeatures .. | .asynchronousEventRequest .. | .firmwareCommit .. | .mediaPurge .. | .mediaPurgeDone .. | .nvmeFlush .. | .nvmeWrite ..
  | .nvmeRead .. | .nvmeWriteZeroes .. | .nvmeCompare .. | .datasetManagement .. | .reservationRegister .. | .reservationReport ..
  | .reservationAcquire .. | .reservationRelease .. | .nvmeSqDoorbell .. | .nvmeCqDoorbell .. | .controllerReset .. | .functionLevelReset ..
  | .portLinkDown .. | .srDoorbell .. | .crHeadDoorbell .. | .entryReleaseWrite .. | .pad .. | .flush .. | .writeZeroes .. | .abort ..
  | .sectorInstall .. | .commandFinish .. | .crVectorSignal .. | .sectorDispatch .. | .rqCreate .. | .rqDelete .. | .rqFreeze .. | .rqUpdate ..
  | .objectCompact .. | .objectIndexLoad .. | .bucketReload .. | .registerAccessTimeout .. | .bitAliasWrite .. | .maskedWrite .. | .mbxGo ..
  | .cfgCommitGo .. | .cfgChecksDone .. | .cfgMramWritten .. | .cfgDiscard .. | .odRead .. | .odWrite .. | .odInfo .. | .dictionaryWrite .. | .commit ..
  | .registerGatewayData .. | .assemblyBufferIdle .. | .discover .. | .announce .. | .sessionInit .. | .sessionProve .. | .handshakeTimeout ..
  | .sessionClose .. | .sessionIdleExpiry .. | .zaleneRead .. | .zaleneWrite .. | .segRead .. | .segWrite .. | .segment .. | .segAbort ..
  | .zaleneMacFail .. | .eventSend .. | .eventAck .. | .eventAckTimeout .. | .wake .. | .neighbourDiscovery .. | .duplicateNode .. | .faultReport ..
  | .chipRecordOpen .. | .c2Remapped .. | .regionRestart .. | .regionRestartDone .. | .chipFatal .. | .fcForceGo .. | .fcClear .. | .wdKick ..
  | .wdCtrlWrite .. | .watchdogExpiry .. | .inputQualify .. | .inputStuck .. | .inputChatter .. | .inputRequalify .. | .pfail .. | .tempSenseWindow ..
  | .pwrGo .. | .powerCmd .. | .idleTimerExpiry .. | .powerEntryStage .. | .participantAck .. | .participantDelayTimeout .. | .domainsSwitched ..
  | .wakeEvent .. | .powerExitDone .. | .pwrdis .. | .swReset .. | .por .. | .resetN .. | .perst .. | .crystalLoss .. | .pllLockLoss ..
  | .startupStepDone .. | .startupTablesRead .. | .recordStage .. | .recorderFlush .. | .flushTimer .. | .rcFlush .. | .rcFreeze .. | .rcThaw ..
  | .freezeLimitExpiry .. | .rcClear .. | .rcReadGo .. | .pfailHeaderFinal .. | .healthInterval .. | .keySlotWrite .. | .secConfirm .. | .svnCommit ..
  | .secRecovery .. | .secTest .. | .modeReq .. | .fwChunk .. | .downloadIdleTimeout .. | .fwWrite .. | .fwWriteAtReset .. | .fwActivateAtReset ..
  | .fwWriteNow .. | .switchoverStepDone .. | .switchoverConfirmTimeout .. | .formatImage .. | .quote .. | .mtRetire .. | .mtRestore ..
  | .mtRecalibrate .. | .channelRemap .. | .dmaEngineHandover .. | .recalGroupVisit .. | .truCarrierReturn .. | .mediaScrub .. | .hbmSelfRefreshEntry ..
  | .pcieConfigAccess .. | .nvmeControllerEnable .. => none

/-- The term is a command. -/
def Instr.wellFormed (i : Instr) : Bool := i.check == none

end Sys2Proof
end

