-- ==== Sys2Proof/Certificates/Slice0/Obligations.lean ====
section
/-! DEFINITION. Obligations.lean: what the provers are asked to prove of the model. -/

open Sys2Proof Sys2Proof.Machine

/-- One step takes the command at the front of the queue. (R3) -/
def Obligations.StepTakesFrontCommand : Prop :=
  (∀ (c : Instr) (rest : List Instr) (s : State), step { s with pending := c :: rest } = exec c { s with pending := rest })
  ∧ (∀ s : State, s.pending = [] → step s = .next { s with coreTime := s.coreTime + 1 })

/-- Every step keeps memory and the register file in canonical form. (R287, R409, R421) -/
def Obligations.EveryStepKeepsCanonicalForm : Prop :=
  ∀ s t : State, s.canonical = true → step s = .next t → t.canonical = true

/-- The state right after reset is in canonical form. (R7, R409) -/
def Obligations.ResetIsCanonical : Prop :=
  State.reset.canonical = true ∧ State.reset.pending = [] ∧ ∀ (f : Fld) (i j : Nat), State.reset.rf f i j = f.rst j

/-- No command touches the queue or the ordering code, and every command completes. (R1, R2, R3) -/
def Obligations.CommandsLeaveQueueAndPart : Prop :=
  ∀ (i : Instr) (s : State), ∃ t : State, exec i s = .next t ∧ t.pending = s.pending ∧ t.part = s.part

/-- MIN_SVN only rises, and no command blows the fuse REVOKE0. (R508, R513) -/
def Obligations.RollbackCounterOnlyRises : Prop :=
  ∀ s t : State, step s = .next t → s.sec.minSvn ≤ t.sec.minSvn ∧ t.sec.revoke0 = s.sec.revoke0

/-- An acknowledged PA12 command goes out at once on a free lane. (R33, R34, R36, R38, R41) -/
def Obligations.AcknowledgedCommandsAreSentAtOnce : Prop :=
  ∀ (s : State) (a : Act), s.laneFree a.val →
    (∀ (slot : Fin 8) (head : BitVec 4), s.gateOpen (8 * a.val + slot.val) = false → s.headTaken a.val slot.val head.toNat = false →
      exec (.slotMap a slot head) s = .next (s.pa12Sent a.val 0x01 [BitVec.ofNat 8 slot.val, BitVec.ofNat 8 head.toNat]))
    ∧ (∀ (slot : Fin 8) (mode : BitVec 8), s.gateOpen (8 * a.val + slot.val) = false →
      exec (.slotMode a slot mode) s = .next (s.pa12Sent a.val 0x02 [BitVec.ofNat 8 slot.val, mode]))
    ∧ (∀ h r c : BitVec 8, exec (.readBias a h r c) s = .next (s.pa12Sent a.val 0x03 [h, r, c]))
    ∧ (∀ (h : BitVec 8) (c : BitVec 6) (amp dur : BitVec 4), exec (.writeCurrent a h c amp dur) s =
        .next (s.pa12Sent a.val 0x04 [h, BitVec.ofNat 8 c.toNat, BitVec.ofNat 8 amp.toNat, BitVec.ofNat 8 dur.toNat]))
    ∧ (∀ (h sel : BitVec 8) (p : BitVec 10), exec (.heater a h sel p) s =
        .next (s.pa12Sent a.val 0x05 [h, sel, BitVec.ofNat 8 (p.toNat % 256), BitVec.ofNat 8 (p.toNat / 256)]))
    ∧ exec (.statusRead a) s = .next (s.pa12Sent a.val 0x07 [])
    ∧ exec (.linkReset a) s = .next (s.pa12Sent a.val 0x0E [])
    ∧ (∀ b : BitVec 64, exec (.echo a b) s = .next (s.pa12Sent a.val 0x0F (leBytes 8 b.toNat)))

/-- A slot request waits for the gates of its slot, and a mapped head is refused. (R31, R33) -/
def Obligations.SlotRequestsWaitForClosedGates : Prop :=
  ∀ (s : State) (a : Act),
    (∀ (slot : Fin 8) (head : BitVec 4), s.gateOpen (8 * a.val + slot.val) = true → s.headTaken a.val slot.val head.toNat = false →
      exec (.slotMap a slot head) s = .next (s.modPl a.val (fun p =>
        { p with held := p.held ++ [{ op := 0x01, payload := [BitVec.ofNat 8 slot.val, BitVec.ofNat 8 head.toNat] }] })))
    ∧ (∀ (slot : Fin 8) (mode : BitVec 8), s.gateOpen (8 * a.val + slot.val) = true →
      exec (.slotMode a slot mode) s = .next (s.modPl a.val (fun p => { p with held := p.held ++ [{ op := 0x02, payload := [BitVec.ofNat 8 slot.val, mode] }] })))
    ∧ (∀ (slot : Fin 8) (head : BitVec 4), s.headTaken a.val slot.val head.toNat = true →
      exec (.slotMap a slot head) s = .next (s.emit (.note "SLOT_MAP refused" a.val slot.val)))
    ∧ (∀ (slot : Fin 8) (op : Nat) (v : Byte) (rest : List PlFrame), s.laneFree a.val → s.gateOpen (8 * a.val + slot.val) = false → (op = 0x01 ∨ op = 0x02) →
      (s.plSt a.val).held = { op := op, payload := [BitVec.ofNat 8 slot.val, v] } :: rest →
      exec (.heldSlotRequestSend a) s =
        .next ((s.modPl a.val (fun p => { p with held := rest })).pa12Sent a.val op [BitVec.ofNat 8 slot.val, v]))

/-- The posted frame, arbitration, training, an OK response. (R34, R36, R38, R41, R43) -/
def Obligations.LinkTrainingAndFrames : Prop :=
  ∀ (s : State) (a : Act),
    (∀ l : List (Fin 8 × BitVec 16), l ≠ [] → l.length ≤ 8 → s.laneFree a.val → ∃ t : State, exec (.maDrive a l) s = .next t
      ∧ t.pa = s.pa.apply a.val 0x06 (maPayload (l.map (fun e => (e.1.val, e.2.toNat)))) ∧ (t.plSt a.val).outst = none ∧ (t.plSt a.val).sending = true
      ∧ t.out = .pa12 a.val (plBytes 0x06 (Config.freeValue s.free).toNat (maPayload (l.map (fun e => (e.1.val, e.2.toNat))))) :: s.out ∧ t.regs = s.regs)
    ∧ ((s.plSt a.val).queue = [] →
      exec (.pa12LinkArbitrate a) s = .next (s.modPl a.val (fun p => { p with sending := false })))
    ∧ (s.dom domMOT = 3 → s.rb PL_CTRL_ENABLE a.val = false → ∃ t : State, exec (.plEnable a true) s = .next t ∧ t.rf PL_CTRL_ENABLE a.val = 1
      ∧ t.rf PL_STATUS_STATE a.val = 1 ∧ (t.plSt a.val).step = 2 ∧ (t.plSt a.val).outst = none ∧ (t.plSt a.val).queue = [] ∧ t.pa = s.pa)
    ∧ (s.dom domMOT = 3 → s.rb PL_CTRL_ENABLE a.val = true → ∃ t : State, exec (.plRetrain a) s = .next t
      ∧ t.rf PL_STATUS_STATE a.val = 1 ∧ t.rf PL_STATUS_CMD_BUSY a.val = 0 ∧ (t.plSt a.val).step = 2 ∧ (t.plSt a.val).outst = none ∧ t.pa = s.pa)
    ∧ (s.rf PL_STATUS_STATE a.val = 1 → (s.plSt a.val).step = 3 → exec (.linkTrainingStepDone a) s =
        .next (((s.wf PL_STATUS_LAST_SEQ ((s.rf PL_STATUS_LAST_SEQ a.val + 1) % 16) a.val).emit
          (.pa12 a.val (plBytes 0x0E ((s.rf PL_STATUS_LAST_SEQ a.val + 1) % 16) []))).modPl a.val (fun p => { p with step := 4 })))
    ∧ (s.rf PL_STATUS_STATE a.val = 1 → (s.plSt a.val).step = 4 → ∃ t : State, exec (.linkTrainingStepDone a) s = .next t
      ∧ t.rf PL_STATUS_STATE a.val = 2 ∧ (t.plSt a.val).step = 0 ∧ t.out = s.out)
    ∧ (s.rf PL_STATUS_STATE a.val = 1 → (s.plSt a.val).tries < 3 → exec (.linkTrainingTimeout a) s =
        .next (s.modPl a.val (fun p => { p with step := 2, tries := p.tries + 1 })))
    ∧ ((s.plSt a.val).retrain = true → s.rf PL_STATUS_STATE a.val = 0 → s.dom domMOT = 3 → s.rb PL_CTRL_ENABLE a.val = true →
      ∃ t : State, exec (.linkRetrainTimer a) s = .next t ∧ t.rf PL_STATUS_STATE a.val = 1 ∧ (t.plSt a.val).step = 2)
    ∧ ((s.plSt a.val).outst = some { op := 0x07, payload := [] } → ∀ (q : Fin 16) (p : List Byte), s.rf PL_STATUS_LAST_SEQ a.val = q.val → p.length ≤ 31 → ∃ t,
      exec (.pa12Response a (plBytes 0x87 q.val (0 :: p)) false) s = .next t
      ∧ t.rf PL_STATUS_CMD_BUSY a.val = 0 ∧ (t.plSt a.val).outst = none ∧ (t.plSt a.val).lastResp = some (0, p) ∧ t.pa = s.pa ∧ t.chan = s.chan ∧ t.head = s.head)

/-- The events of the PA12 and a retried command report their sources. (R38, R39, R40, R127, R170, R254) -/
def Obligations.Pa12EventsReportTheirFault : Prop :=
  ∀ (s : State) (a : Act),
    (∀ f : PlFrame, (s.plSt a.val).outst = some f → (s.plSt a.val).retries < s.rf PL_CTRL_MAX_RETRY a.val →
      exec (.pa12RetryTimeout a) s = .next (((s.emit (.pa12 a.val (plBytes f.op (s.rf PL_STATUS_LAST_SEQ a.val) f.payload))).modPl a.val
        (fun p => { p with retries := p.retries + 1, sending := true })).report (srcId MED (100 + a.val) 32)))
    ∧ ((s.plSt a.val).wedgeDn ≤ 1 → (s.sv a.val).quiet = 0 → ∃ t : State, exec (.dnCrc a) s = .next t
      ∧ t = ((s.cnt PL_STATUS_CRC_ERR_DN a.val).modPl a.val (fun p => { p with wedgeDn := p.wedgeDn + 1 })).report (srcId MED (100 + a.val) 33))
    ∧ (∀ (h : Fin 11) (n : Nat), s.headChan a.val h.val = some n →
      exec (.writerOpen a h) s = .next (((s.inhibit inhWRITER true n).modHd (11 * a.val + h.val) (fun x => { x with retiredWrite := true })).report (srcId MED (100 + a.val) 36) h.val)
      ∧ exec (.writerShort a h) s = .next (((s.inhibit inhWRITER true n).modHd (11 * a.val + h.val) (fun x => { x with retiredWrite := true })).report (srcId MED (100 + a.val) 37) h.val))
    ∧ (∀ h : Fin 11, s.headChan a.val h.val = none →
      exec (.writerOpen a h) s = .next ((s.modHd (11 * a.val + h.val) (fun x => { x with retiredWrite := true })).report (srcId MED (100 + a.val) 36) h.val))
    ∧ (∀ h : Fin 11, exec (.heaterFault a h) s = .next ((s.modHd (11 * a.val + h.val) (fun x => { x with retired := true })).report (srcId MED (100 + a.val) 38) h.val))
    ∧ (∀ (h : Fin 11) (r : Fin 3), exec (.readerFault a h r) s =
        .next (s.modHd (11 * a.val + h.val) (fun x => { x with readerExcl := setBit x.readerExcl r.val true })))
    ∧ (∀ h : Fin 11, s.headChan a.val h.val = none → exec (.maOvercurrent a h) s =
        .next ((s.wbit MA_STATUS_OVERCUR h.val true a.val).report (srcId MED (100 + a.val) 39) h.val))
    ∧ (∀ c : Int, 140 < c → (s.plSt a.val).overtemp = false → exec (.overtemp a c) s =
        .next (((s.modPl a.val (fun p => { p with overtemp := true })).inhibits inhOVERTEMP true ((List.range 8).map (fun k => 8 * a.val + k))).report (srcId MED (100 + a.val) 40)))
    ∧ (∀ c : Int, 130 ≤ c → c ≤ 140 → exec (.overtemp a c) s = .next s)
    ∧ (∀ c : Int, c < 130 → (s.plSt a.val).overtemp = true → exec (.overtemp a c) s =
        .next ((s.modPl a.val (fun p => { p with overtemp := false })).inhibits inhOVERTEMP false ((List.range 8).map (fun k => 8 * a.val + k))))

/-- Reading the identity memories and admitting the modules. (R47, R48, R52, R53, R54, R55) -/
def Obligations.IdentityMemoriesAreReadAndAdmitted : Prop :=
  ∀ (s : State) (r : Fin 12),
    (s.dom domSYS = 3 → s.part = .a44 → ∃ t : State, exec .identityReadStart s = .next t ∧ t.rf MOD_ADMIT_STATE 0 r.val = 1
      ∧ (t.idr r.val).tries = 0 ∧ (t.idr r.val).buf = [] ∧ (t.idr r.val).recs = (s.idr r.val).recs)
    ∧ (s.rf MOD_ADMIT_STATE 0 r.val = 1 →
      (∀ b : List Byte, exec (.identityTransferDone r (.data b)) s = .next (s.modIdr r.val (fun x => { x with tries := 0, buf := x.buf ++ b })))
      ∧ ((s.idr r.val).tries < 3 → exec (.identityTransferDone r .nack) s = .next (s.modIdr r.val (fun x => { x with tries := x.tries + 1 }))
          ∧ exec (.identityTransferTimeout r) s = .next (s.modIdr r.val (fun x => { x with tries := x.tries + 1 })))
      ∧ ((s.idr r.val).tries = 3 →
          exec (.identityTransferDone r .nack) s = .next ((((s.wf MOD_ADMIT_STATE 3 0 r.val).wf MOD_ADMIT_REASON 1 0 r.val).wb MOD_ADMIT_REREAD false 0 r.val).report
            (srcId SYS (if r.val < 7 then 14 else 15) (if r.val = 4 ∨ r.val = 5 then 33 else 32)) r.val)
          ∧ exec (.identityTransferTimeout r) s = .next ((((s.wf MOD_ADMIT_STATE 3 0 r.val).wf MOD_ADMIT_REASON 2 0 r.val).wb MOD_ADMIT_REREAD false 0 r.val).report
            (srcId SYS (if r.val < 7 then 14 else 15) (if r.val = 4 ∨ r.val = 5 then 33 else 32)) r.val))
      ∧ (∀ ok : Bool, s.admitReason r.val ok = 0 → s.rf MOD_ADMIT_REREAD 0 r.val = 0 → exec (.moduleAdmission r ok) s =
          .next (((((s.wf MOD_ADMIT_STATE 2 0 r.val).wf MOD_ADMIT_REASON 0 0 r.val).wf MOD_ADMIT_KEY_INDEX (idKey (s.idr r.val).buf) 0 r.val).wb MOD_ADMIT_REREAD false 0 r.val).modIdr
            r.val (fun x => { x with recs := (idRecords 2048 (idBody (s.idr r.val).buf)).getD [] }))))
    ∧ (s.part = .a44 → s.rf MOD_ADMIT_STATE 0 r.val = 2 → s.roleIdle r.val = true →
      exec (.modReread r) s = .next (((s.wb MOD_ADMIT_REREAD true 0 r.val).wf MOD_ADMIT_STATE 1 0 r.val).modIdr r.val (fun x => { x with tries := 0, buf := [] })))
    ∧ (s.part = .a44 → s.rf MOD_ADMIT_STATE 0 r.val = 2 → s.roleIdle r.val = false →
      exec (.modReread r) s = .next (s.wf MOD_ADMIT_REASON 0x0D 0 r.val))

/-- The states of the timing recovery unit. (R61, R62, R64, R77, R79, R81, R82) -/
def Obligations.TruStateMachine : Prop :=
  ∀ (s : State) (a : Act),
    let go (t : State) (st : Nat) : State := (t.modTr a.val (fun x => { x with good := 0, bad := 0, prev := none })).wf TRU_STATUS_STATE st a.val
    exec (.truEnableWrite a true false) s = .next ((s.wb TRU_CTRL_ENABLE true a.val).wb TRU_CTRL_HOLD false a.val)
    ∧ (s.rf TRU_STATUS_STATE a.val = 1 ∨ s.rf TRU_STATUS_STATE a.val = 2 ∨ s.rf TRU_STATUS_STATE a.val = 3 →
        exec (.truEnableWrite a true true) s = .next (go ((s.wb TRU_CTRL_ENABLE true a.val).wb TRU_CTRL_HOLD true a.val) 5))
    ∧ (s.rf TRU_STATUS_STATE a.val = 0 → s.rf TRU_CTRL_ENABLE a.val = 1 → (s.tr a.val).flying = true → s.spinOk = true → exec (.truAcqStart a) s = .next (go s 1))
    ∧ (s.rf TRU_STATUS_STATE a.val = 1 → exec (.truFreqAcquired a) s = .next (go s 2))
    ∧ (s.rf TRU_STATUS_STATE a.val = 2 → exec (.truPhaseAcquired a) s = .next (go s 3))
    ∧ (s.rf TRU_STATUS_STATE a.val = 5 → s.rf TRU_CTRL_HOLD a.val = 0 → exec (.truCarrierReturn a) s = .next (go s 1))
    ∧ (s.rf TRU_STATUS_STATE a.val = 5 → s.rf TRU_CTRL_HOLD a.val = 1 → exec (.truCarrierReturn a) s = .next s)
    ∧ (s.rf TRU_STATUS_STATE a.val = 5 ∨ s.rf TRU_STATUS_STATE a.val = 6 → exec (.truReacq a) s = .next ((go s 1).modTr a.val (fun x => { x with retired := false })))
    ∧ ((s.tr a.val).kill = true → s.rf TRU_STATUS_STATE a.val = 5 →
        exec (.relockLimitExpiry a) s = .next (((go s 6).modTr a.val (fun x => { x with retired := true })).startPark a.val))
    ∧ ((s.tr a.val).flying = true → s.rf TRU_STATUS_STATE a.val = 1 → (s.tr a.val).failed = false → exec (.clockHeadFailTimeout a) s =
        .next ((((s.modTr a.val (fun x => { x with failed := true })).startPark a.val).modSv a.val (fun v => { v with retireAt := true })).report (srcId MED (32 + a.val) 1)))
    ∧ ((s.tr a.val).failed = true → exec (.clockHeadFailTimeout a) s = .next s)

/-- A LOCKED unit that loses its phase or carrier goes to HOLDOVER and closes every gate. (R61, R65, R77, R78, R79, R205, R458) -/
def Obligations.LossOfLockHoldsTheHalfStack : Prop :=
  ∀ (s : State) (a : Act),
    (s.rf TRU_STATUS_STATE a.val = 4 → (∀ n, n < 32 → s.rf CAL_STATUS_STATE n ≠ 1) →
      ∀ (c : Instr) (k : Nat), (c = .truLossPhase a ∧ k = 1) ∨ (c = .truLossAmplitude a ∧ k = 2) →
      ∃ u : State, exec c s = .next (u.report (srcId MED (32 + a.val) 0) 0 k) ∧ u.rf TRU_STATUS_STATE a.val = 5 ∧ u.rf TRU_STATUS_LOSS_CAUSE a.val = k
        ∧ (u.tr a.val).kill = true ∧ (u.tr a.val).good = 0
        ∧ ∀ n, n / 8 = a.val → u.rbit WR_STATUS_INHIBIT 2 n = true ∧ (u.ch n).rgate = false ∧ (u.ch n).wgate = false)
    ∧ (s.rf TRU_STATUS_STATE a.val ≠ 4 → exec (.truLossPhase a) s = .next s ∧ exec (.truLossAmplitude a) s = .next s)

/-- Frames, wedges and trim writes of a half-stack. (R63, R64, R65, R68, R69, R70, R73, R74, R75) -/
def Obligations.FramesWedgesAndTrims : Prop :=
  ∀ (s : State) (a : Act) (n : Chan),
    (∀ f : Frame, s.rf TRU_STATUS_STATE a.val ≠ 3 → s.rf TRU_STATUS_STATE a.val ≠ 4 →
      exec (.truFrame a f) s = .next ((s.wf TRU_AMP_AMP f.amp.toNat a.val).wf TRU_AMP_AGC f.agc.toNat a.val))
    ∧ (∀ f : Frame, s.rf TRU_STATUS_STATE a.val = 3 → f.mark = false → exec (.truFrame a f) s =
      .next (((s.wf TRU_AMP_AMP f.amp.toNat a.val).wf TRU_AMP_AGC f.agc.toNat a.val).modTr a.val (fun u => { u with prev := none, good := 0 })))
    ∧ (∀ (f : Frame) (k : Nat), s.rf TRU_STATUS_STATE a.val = 3 → f.mark = true → frameNumber f = some k → (s.tr a.val).prev = none → f.bad = [] →
      exec (.truFrame a f) s = .next (((s.wf TRU_AMP_AMP f.amp.toNat a.val).wf TRU_AMP_AGC f.agc.toNat a.val).modTr a.val
        (fun u => { u with prev := some (k, grayInv f.gray.toNat), good := 0 })))
    ∧ (∀ w : Wedge, s.slotHead n.val = 0xF → exec (.wedgeRead n w) s = .next s)
    ∧ (∀ (w : Wedge) (e : Int) (k : Nat), s.slotHead n.val ≠ 0xF → tabGet 0 s.pa.mode n.val = 1 → s.actLoaded (n.val / 8) = true →
      s.rf TRU_STATUS_STATE (n.val / 8) = 4 → w.sync = some e → wedgeNumber w = some k → (s.sv (n.val / 8)).seek = none → s.rbit HT_CTRL_FREEZE (s.slotHead n.val) (n.val / 8) = false →
      e.natAbs ≤ 32 → (s.hd (11 * (n.val / 8) + s.slotHead n.val)).relearn = 0 → (s.hd (11 * (n.val / 8) + s.slotHead n.val)).check = 0 →
      (∀ f, (∃ t : State, exec (.wedgeRead n w) s = .next t ∧ t.run f = s.run f ∧ t.chan = s.chan ∧ t.fc = s.fc
        ∧ (t.hd (11 * (n.val / 8) + s.slotHead n.val)).outliers = 0 ∧ (t.hd (11 * (n.val / 8) + s.slotHead n.val)).goodLast = true)))
    ∧ (∀ (h : Fin 11) (v : Word), exec (.htTrimWrite a h false v) s = .next (s.wf HT_PHASEh_PHT v.toNat a.val h.val)
        ∧ exec (.htTrimWrite a h true v) s = .next ((s.wf HT_RROh_RC v.toNat a.val h.val).wf HT_RROh_RS (v.toNat / 65536) a.val h.val))
    ∧ ((s.ch n.val).setup ≠ 7 → exec (.synthSlewDone n) s = .next (s.wf SYN_NDIVk_SLEW 0 (n.val / 8) (n.val % 8)))
    ∧ ((s.ch n.val).setup = 7 → exec (.synthSlewDone n) s = .next ((s.wf SYN_NDIVk_SLEW 0 (n.val / 8) (n.val % 8)).wbit WR_STATUS_INHIBIT 13 false n.val))

/-- A read field takes the lowest free slot, is adapted and held. (R113, R114, R118, R119, R120, R123, R128) -/
def Obligations.FieldsAreReadIntoSlots : Prop :=
  ∀ (s : State) (n : Chan),
    let b := s.atMinus8 n.val
    (∀ (c : SecCmd) (k : Nat), (s.ch n.val).target = some c → c.write = false → b.freeSlot n.val = some k → (b.ch n.val).rgate = true →
      b.rbit VC_HEADS_READ_RDY (b.slotHead n.val) (n.val / 8) = true → exec (.slotAllocate n) s = .next ((b.modCh n.val (fun x =>
        { x with sb := tabSet x.sb k (b.newRec n.val c) })).modCh n.val (fun x => { x with begun := true, fieldSeq := x.fieldSeq + 1 })))
    ∧ (∀ c : SecCmd, (s.ch n.val).target = some c → c.write = false → b.freeSlot n.val = none →
      exec (.slotAllocate n) s = .next ((b.cnt SB_STATUS_OVERRUN n.val).report (srcId MED n.val 4) 0 c.pslot))
    ∧ (∀ (k : Nat) (mets : List (BitVec 6)) (rd : BitVec 3), s.filling n.val = some k → (s.ch n.val).cut = false → mets.length = 17 →
      ∃ t : State, exec (.fieldReadEnd n mets rd) s = .next t ∧ (t.slotRec n.val k).st = 2 ∧ (t.slotRec n.val k).mets = mets.map BitVec.toNat
        ∧ (t.slotRec n.val k).readers = rd.toNat ∧ (t.slotRec n.val k).rank = syncRank (mets.map BitVec.toNat) ∧ (t.slotRec n.val k).cmd = (s.slotRec n.val k).cmd
        ∧ t.regs = s.regs ∧ t.sched = s.sched ∧ t.mem = s.mem)
    ∧ (∀ (k : Nat) (mets : List (BitVec 6)) (rd : BitVec 3), s.filling n.val = some k → (s.ch n.val).cut = true →
      exec (.fieldReadEnd n mets rd) s = .next ((s.modCh n.val (fun c => { c with ended := true })).modCh n.val (fun c => { c with sb := tabDel c.sb k })))
    ∧ (∀ (r : Fin 3) (m : Nat), (s.ch n.val).rgate = true → s.rbit FE_STATUS_RDR_ACT r.val n.val = true → s.rbit FE_FREEZE_GAIN r.val n.val = false →
      m < 8 * s.rf FE_GAIN_r_AGC_TGT n.val r.val → s.rf FE_GAIN_r_AGC_DZ n.val r.val ≤ 8 * s.rf FE_GAIN_r_AGC_TGT n.val r.val - m → s.rf FE_GAIN_r_GAIN n.val r.val < 255 →
      exec (.adaptUpdate n r (.gain m)) s = .next (s.wf FE_GAIN_r_GAIN (s.rf FE_GAIN_r_GAIN n.val r.val + 1) n.val r.val))
    ∧ (∀ (r : Fin 3) (m : Adapt), (s.ch n.val).rgate = false → exec (.adaptUpdate n r m) s = .next s)
    ∧ (∀ (k : Nat) (rd : BitVec 3) (st sp : BitVec 32), s.rf FE_CTRL_TA_EN n.val = 1 → s.filling n.val = some k → (s.slotRec n.val k).ta = 0 →
      (s.slotRec n.val k).taStart = 0xFFFFFFFF → (s.slotRec n.val k).taEnd = 0 → ∃ t : State, exec (.taDetect n rd st sp) s = .next t
        ∧ (t.slotRec n.val k).ta = rd.toNat ∧ (t.slotRec n.val k).taStart = st.toNat ∧ (t.slotRec n.val k).taEnd = sp.toNat
        ∧ t.rf FE_TA_TA_COUNT n.val = min (s.rf FE_TA_TA_COUNT n.val + 1) (2 ^ FE_TA_TA_COUNT.width - 1))

/-- Writes of the front end, the equaliser's port 1 and calibration. (R124, R125, R129, R131, R132) -/
def Obligations.FrontEndWritesAndCalibration : Prop :=
  ∀ (s : State) (n : Chan),
    (∀ v : Word, (s.ch n.val).rgate = false → exec (.feRegWrite n 0x058 v) s =
      .next ((s.wf FE_CTF_r_FC (v.toNat % 32) n.val 1).wf FE_CTF_r_BOOST (v.toNat / 256 % 32) n.val 1))
    ∧ (∀ v : Word, (s.ch n.val).rgate = true → ∃ t : State, exec (.feRegWrite n 0x058 v) s = .next t ∧ t.rf FE_STATUS_STAGED n.val = 1
      ∧ t.rf FE_CTF_r_FC n.val 1 = s.rf FE_CTF_r_FC n.val 1 ∧ t.rf FE_CTF_r_BOOST n.val 1 = s.rf FE_CTF_r_BOOST n.val 1
      ∧ (FE_CTF_r_FC.key n.val 1, v.toNat % 32) ∈ (t.ch n.val).staged ∧ (FE_CTF_r_BOOST.key n.val 1, v.toNat / 256 % 32) ∈ (t.ch n.val).staged)
    ∧ (∀ (slot : Fin 4) (p : Int) (pr : BitVec 3), pr ≠ 7 → (s.slotRec n.val slot.val).st = 2 → (s.ch n.val).reeq.length < 3 → (s.ch n.val).refused = [] →
      exec (.reeqRequest n slot p pr) s = .next (s.modCh n.val (fun c => { c with reeq := c.reeq ++ [{ slot := slot.val, pos := p, profile := pr.toNat }] })))
    ∧ (∀ (slot : Fin 4) (p : Int) (pr : BitVec 3), pr ≠ 7 → (s.slotRec n.val slot.val).st = 2 → 3 ≤ (s.ch n.val).reeq.length →
      exec (.reeqRequest n slot p pr) s = .next (s.modCh n.val (fun c => { c with refused := c.refused ++ [{ slot := slot.val, pos := p, profile := pr.toNat }] })))
    ∧ (∀ (x y : Reeq) (r q : List Reeq), (s.ch n.val).reeq = x :: r → (s.ch n.val).refused = y :: q →
      ∃ t : State, exec (.reeqDone n) s = .next t ∧ (t.ch n.val).reeq = r ++ [y] ∧ (t.ch n.val).refused = q ∧ t.regs = s.regs)
    ∧ (s.rf CAL_STATUS_STATE n.val ≠ 1 → s.actLoaded (n.val / 8) = true → s.slotHead n.val = s.rf CAL_CTRL_HEAD n.val → s.slotHead n.val ≠ 0xF → s.rf TRU_STATUS_STATE (n.val / 8) = 4 →
      (∀ m, m < 32 → s.rf CAL_STATUS_STATE m ≠ 1) → ∃ t : State, exec (.calStart n) s = .next t ∧ t.rf CAL_STATUS_STATE n.val = 1 ∧ t.rf CAL_STATUS_STEP n.val = 1 ∧ t.rf CAL_STATUS_SECTORS n.val = 0
        ∧ (t.ch n.val).withdrawn = true ∧ (t.ch n.val).calPaused = false ∧ t.fc = s.fc ∧ t.out = s.out)
    ∧ (s.rf CAL_STATUS_STATE n.val ≠ 1 → exec (.calAbort n) s = .next s)
    ∧ (s.rf CAL_STATUS_STATE n.val = 1 → ∃ u : State, exec (.calAbort n) s = .next (u.report (srcId MED n.val 11) (s.rf CAL_CTRL_HEAD n.val) 6)
      ∧ u.rf CAL_STATUS_STATE n.val = 3 ∧ u.rf CAL_STATUS_REASON n.val = 6 ∧ u.fc = s.fc)
    ∧ (∀ (r : Nat) (snr : BitVec 24), s.rf CAL_STATUS_STATE n.val = 1 → (s.ch n.val).calPaused = false → s.rf CAL_STATUS_STEP n.val < 9 →
      exec (.calPhaseDone n .done r [] snr) s =
        .next (((s.cnt CAL_STATUS_SECTORS n.val 0 r).wf FE_SNR_SNR snr.toNat n.val).wf CAL_STATUS_STEP (s.rf CAL_STATUS_STEP n.val + 1) n.val))

/-- Requests, grants, attempts, the output store. (R138, R143, R146, R147, R149, R152) -/
def Obligations.LanesAreRequestedGrantedAndRun : Prop :=
  ∀ (s : State) (k : Fin 64) (n : Chan) (slot : Fin 4) (h : Fin 2),
    ((s.slotRec n.val slot.val).st ≠ 0 → (s.hf (n.val / 16)).reqs = [] → ∀ retry : Bool, exec (.laneRequest ⟨n.val, by omega⟩ slot retry) s =
      .next (s.modHf (n.val / 16) (fun x => { x with reqs := [{ kind := if retry then 1 else 0, n := n.val, k := slot.val, lane := 0 }] })))
    ∧ ((s.slotRec n.val slot.val).st = 0 → ∀ retry : Bool, exec (.laneRequest ⟨n.val, by omega⟩ slot retry) s = .next s)
    ∧ (∀ (q : LaneReq) (ln : Nat), (s.hf h.val).reqs = [q] → q.kind = 0 → q.n ≤ 32 → s.chooseLane q.n = some ln → ∃ t : State, exec (.laneAllocate h) s = .next t
      ∧ (t.ln ln).ib = (s.ln ln).ib ++ [{ n := q.n, k := q.k }] ∧ (t.hf h.val).reqs = [] ∧ (t.hf h.val).rrLive = (q.n + 1) % 33 ∧ t.regs = s.regs)
    ∧ (∀ (j : LJob) (r : List LJob), (s.ln k.val).ib = j :: r → (s.ln k.val).att = none → (s.ln k.val).held = none → s.rf LN_STATUS_STATE k.val = 0 →
      (s.slotRec j.n j.k).step < 8 → exec (.decodeAttemptStart k) s = .next ((((s.modLn k.val (fun l =>
        { l with att := some { job := j, sweeps := 0, low := 3841, since := 0, width := 1, members := [], asked := false } })).wf LN_STATUS_STATE 1 k.val).wf
          LN_STATUS_CHANNEL j.n k.val).wf LN_STATUS_ITER 0 k.val))
    ∧ (∀ (a : Att) (u : BitVec 12), (s.ln k.val).att = some a → (s.slotRec a.job.n a.job.k).drop = 0 → (s.slotRec a.job.n a.job.k).step < 8 → 0 < u.toNat → u.toNat < a.low →
      a.sweeps + 1 < s.pol a.job.n 1 → 0 < s.pol a.job.n 4 → a.asked = true → ∀ ok1 ok2 ok3 ok4, exec (.sweepEnd k u 0 ok1 ok2 ok3 ok4) s =
      .next (((s.cnt LN_ITERS_ITERS k.val).wf LN_STATUS_ITER (a.sweeps + 1) k.val).modLn k.val (fun l =>
        { l with att := some { a with sweeps := a.sweeps + 1, low := u.toNat, since := 0 } })))
    ∧ (∀ (e : StoreEnt) (r : List StoreEnt), (s.hf h.val).store = e :: r → e.cmd.pool = none → e.cmd.why = .host → e.status % 256 = 0 → (s.slotRec e.n e.k).st ≠ 3 →
      (∀ i, i < 32 → (s.ln (32 * h.val + i)).held = none) → ∃ t : State, exec (.outputStoreFree h) s = .next t ∧ (t.hf h.val).store = r ∧ (t.ch e.n).sb = tabDel (s.ch e.n).sb e.k)
    ∧ ((s.hf h.val).store = [] → exec (.outputStoreFree h) s = .next s)
    ∧ (∀ a : Att, (s.slotRec n.val slot.val).st = 2 → (s.slotRec n.val slot.val).step ≠ 0 → (s.ln k.val).att = some a → a.job = { n := n.val, k := slot.val } →
      exec (.retryBudgetExpiry n slot) s = .next (s.modCh n.val (fun c => { c with sb := tabMod .free c.sb slot.val (fun x => { x with budget := true }) })))

/-- Retirement, self-test and faults of lanes, cells and the code tables. (R157, R158, R159, R160, R456) -/
def Obligations.LaneAndCellFaults : Prop :=
  ∀ (s : State) (k : Fin 64),
    (s.rf LN_STATUS_STATE k.val = 0 → (s.ln k.val).ib = [] → (s.ln k.val).att = none → ∃ t : State, exec (.laneRetire k) s = .next t
      ∧ t.rf LN_STATUS_STATE k.val = 4 ∧ t.rf LN_ERR_RET_CAUSE k.val = 4 ∧ t.fc = s.fc ∧ t.chan = s.chan ∧ t.out = s.out)
    ∧ (s.rf LN_STATUS_STATE k.val = 1 → exec (.laneRetire k) s = .next ((s.wf LN_STATUS_STATE 3 k.val).wb LN_CTRL_RETIRE true k.val))
    ∧ (s.rf LN_STATUS_STATE k.val = 4 → s.rf LN_ERR_RET_CAUSE k.val ≠ 2 → s.rf LN_ERR_RET_CAUSE k.val ≠ 3 →
      exec (.laneRestore k) s = .next ((s.wf LN_STATUS_STATE 5 k.val).wb LN_CTRL_RESTORE true k.val))
    ∧ (s.rf LN_STATUS_STATE k.val = 4 → s.rf LN_ERR_RET_CAUSE k.val = 2 ∨ s.rf LN_ERR_RET_CAUSE k.val = 3 → exec (.laneRestore k) s = .next s)
    ∧ (s.rf LN_STATUS_STATE k.val = 5 →
      exec (.laneSelftestDone k true) s = .next (((s.wb LN_CTRL_RESTORE false k.val).wf LN_STATUS_STATE 0 k.val).wf LN_ERR_RET_CAUSE 0 k.val)
      ∧ exec (.laneSelftestDone k false) s = .next (((s.wb LN_CTRL_RESTORE false k.val).wf LN_STATUS_STATE 4 k.val).wf LN_ERR_RET_CAUSE 5 k.val))
    ∧ (s.rf LN_STATUS_STATE k.val ≠ 4 → (s.ln k.val).ib = [] → (s.ln k.val).att = none → ∀ c : Bool, ∃ u : State, exec (.laneFault k c) s =
      .next (u.report (srcId MED (36 + k.val) (if c then 3 else 1))) ∧ u.rf LN_STATUS_STATE k.val = 4 ∧ u.rf LN_ERR_RET_CAUSE k.val = (if c then 3 else 1) ∧ u.chan = s.chan)
    ∧ (s.rf LN_STATUS_STATE k.val = 4 → ∀ c : Bool, exec (.laneFault k c) s = .next s)
    ∧ (∀ c : Fin 16, s.rbit LN_STATUS_CELL_RET c.val k.val = true → exec (.cellFault k c) s = .next s)
    ∧ (∀ c : Fin 16, s.rf LN_STATUS_CELL_RET k.val = 0 → exec (.cellFault k c) s =
      .next (((((s.wbit LN_STATUS_CELL_RET c.val true k.val).wb LN_STATUS_DEGRADED true k.val).report (srcId MED (36 + k.val) 2) c.val).modLn k.val
        (fun l => { l with att := l.att.map (fun a => { a with sweeps := 0, low := 3841, since := 0 }) })).wf LN_STATUS_ITER 0 k.val))
    ∧ exec (.laneMemoryCorrected k) s = .next ((s.cnt LN_ERR_ECC_CORR k.val).report (srcId MED (36 + k.val) 0))
    ∧ (∀ (c : Fin 2) (cell : Fin 16), bitOf s.codeRetired (1 - c.val) = true → exec (.codeTableFault c k cell) s =
      .next (({ s with codeRetired := setBit s.codeRetired c.val true } : State).reportBy MED (36 + k.val) (0x9FC0 + c.val) cell.val 3 0 false))

/-- The write channel, stripe updates and members. (R162, R163, R168, R170, R172, R180, R182, R184, R195) -/
def Obligations.WriteChannelAndStripes : Prop :=
  ∀ (s : State) (n : Chan) (stripe : BitVec 32) (p : Fin 16),
    (∀ t : SecCmd, s.encodeNext n.val = some t → exec (.sectorEncodeDone n) s = .next (s.modCh n.val (fun c => { c with encoded := c.encoded ++ [t] })))
    ∧ (∀ (t : SecCmd) (r : List SecCmd), s.rf WR_CTRL_EN n.val = 1 → s.dom (2 + n.val / 4) = 3 → (s.ch n.val).encoded = [] → (s.ch n.val).target = none →
      (s.ch n.val).fifo = t :: r → t.write = true → s.encodeNext n.val = some t)
    ∧ ((s.ch n.val).sets = none → exec (.writeSetup n) s = .next s)
    ∧ (∀ h g : Nat, (s.ch n.val).sets = some (h, g) → ∃ t : State, exec (.writeSetup n) s = .next t ∧ (t.ch n.val).setup = 0 ∧ t.rbit WR_STATUS_INHIBIT 13 n.val = true
      ∧ t.sched = s.sched ∧ t.pa = s.pa)
    ∧ (exec (.wrCtrlWrite n 0) s = .next (((s.wb WR_CTRL_EN false n.val).wb WR_CTRL_INHIBIT false n.val).wbit WR_STATUS_INHIBIT 0 false n.val)
      ∧ exec (.wrCtrlWrite n 3) s = .next (((s.wb WR_CTRL_EN true n.val).wb WR_CTRL_INHIBIT true n.val).wbit WR_STATUS_INHIBIT 0 true n.val))
    ∧ (∀ (a : Act) (h : Fin 11), s.headChan a.val h.val = none → exec (.writeHoldExpiry a h) s = .next s)
    ∧ (∀ (a : Act) (h : Fin 11) (c : Chan) (w : SecCmd), s.headChan a.val h.val = some c.val → holdCounts (s.rf WR_STATUS_INHIBIT c.val) = true → s.sched = [w] → (s.ch c.val).fifo = [] →
      w.write = true → w.why = .member → w.act = a.val → w.head = h.val → ∀ b k, s.route w.x w.ix [(a.val, h.val)] = .head b k → ∃ t : State, exec (.writeHoldExpiry a h) s = .next t
      ∧ t.sched = [{ w with act := b, head := k }] ∧ t.holes = s.holes ∧ t.openStripes = s.openStripes)
    ∧ (s.freshOf stripe.toNat = [] → exec (.stripeUpdateStart stripe p) s = .next s)
    ∧ (∀ u : Update, s.updateOf stripe.toNat = some u → u.parityDone = false → (∀ d ∈ s.dirty, d.x / s.geoD ≠ stripe.toNat) → ∃ t : State,
      exec (.parityDone stripe true) s = .next t ∧ t.updates = s.updates.erase u ∧ t.openStripes = s.openStripes.filter (fun o => o.stripe != stripe.toNat)
      ∧ t.dirty = s.dirty ∧ t.sched = s.sched.filter (fun c => !(c.why == .stripeRead && c.x == u.stripe)))
    ∧ (∀ u : Update, s.updateOf stripe.toNat = some u → u.parityDone = false → s.readsDone u = false → exec (.parityDone stripe false) s = .next s)
    ∧ (∀ (t : SecCmd) (f : Nat) (r : List (SecCmd × Nat)), (s.ch n.val).reports = (t, f) :: r → f = (s.tr (n.val / 8)).verified → exec (.memberWritten n) s = .next s)
    ∧ (∀ (t : SecCmd) (f : Nat) (r : List (SecCmd × Nat)), (s.ch n.val).reports = (t, f) :: r → f ≠ (s.tr (n.val / 8)).verified → t.why = .rewrite → t.verify = true →
      exec (.memberWritten n) s = .next ({ (s.modCh n.val (fun c => { c with reports := r })) with cmds := s.cmds.filter (fun k => k.stamp != t.stamp), verifies := s.verifies ++ [{ t with write := false, why := .verify }] }))

/-- A full update opens its stripe and takes the next generation. (R180, R182, R184) -/
def Obligations.FullStripeUpdateOpensTheStripe : Prop :=
  ∀ (s : State) (stripe : BitVec 32) (p : Fin 16),
    0 < s.geoD → (∀ m, m < s.geoD → (s.freshOf stripe.toNat).any (fun f => f.1 == m) = true) → s.updateOf stripe.toNat = none → s.openStripes.length < 4096 → s.pwr.pfail = false →
    s.holes = [] → (∀ m, m < s.geoW → ∃ a h, s.route stripe.toNat m [] = .head a h) → s.geoP ≤ s.poolFree p.val →
    ∃ (t : State) (u : Update), exec (.stripeUpdateStart stripe p) s = .next t ∧ t.writeGen = s.writeGen + 1 ∧ t.updates = s.updates ++ [u] ∧ u.stripe = stripe.toNat ∧ u.form = .full
      ∧ u.reads = [] ∧ u.mask = List.range s.geoW ∧ u.gen = (s.writeGen + 1).toNat ∧ u.parityDone = false
      ∧ t.openStripes = s.openStripes ++ [{ stripe := stripe.toNat, gen := (s.writeGen + 1).toNat, mask := List.range s.geoW }]
      ∧ (∀ d ∈ t.dirty, d.x / s.geoD = stripe.toNat → d.busy = true) ∧ t.sched = s.sched ∧ t.holes = []

/-- Rebuilds, recovery rewrites, verify reads and the media scrub. (R185, R187, R188, R190, R191) -/
def Obligations.RebuildsRewritesAndVerifies : Prop :=
  ∀ (s : State) (stripe : BitVec 32) (m : Fin 32) (p : Fin 16),
    (s.rebuilds = [] → exec (.rebuildStart stripe m p) s = .next s ∧ ∀ r, exec (.rebuildDone stripe m r) s = .next s)
    ∧ (∀ r : Rebuild, s.rebuilds = [r] → r.stripe = stripe.toNat → r.pos = m.val → r.started = false → ∃ t : State, exec (.rebuildStart stripe m p) s = .next t
      ∧ t.rebuilds = [{ r with started := true, reads := ((List.range s.geoW).filter (fun k => k != m.val && (s.holeAt stripe.toNat k).isNone)).take (s.geoD + 1), pool := p.val }]
      ∧ t.holes = s.holes ∧ t.regs = s.regs)
    ∧ (∀ (r : Rebuild) (c : SecCmd), s.rebuilds = [r] → r.stripe = stripe.toNat → r.pos = m.val → r.started = true → r.cmd = some c → c.why = .stripeRead → ∃ t : State,
      exec (.rebuildDone stripe m .rebuilt) s = .next t ∧ t.rebuilds = [] ∧ (c, 0) ∈ t.ready)
    ∧ (∀ r : Rebuild, s.rebuilds = [r] → r.stripe = stripe.toNat → r.pos = m.val → r.started = true → r.cmd = none → s.holes = [] → ∃ t : State,
      exec (.rebuildDone stripe m .unrecoverable) s = .next t ∧ t.rebuilds = [] ∧ t.holes = [{ stripe := stripe.toNat, pos := m.val, suspect := true }])
    ∧ (s.rewrites = [] → exec .recoveryRewrite s = .next s)
    ∧ (∀ (c : SecCmd) (k x : Nat) (r : List (SecCmd × Nat)), s.bgHeld = false → s.rewrites = (c, k) :: r → c.why = .rewrite → c.ix < s.geoD → x = c.x * s.geoD + c.ix → (s.dirtyAt x).isSome = true →
      ∃ t : State, exec .recoveryRewrite s = .next t ∧ t.rewrites = r ∧ t.fetchStamp = s.fetchStamp ∧ t.cmds = s.cmds ∧ t.sched = s.sched)
    ∧ (∀ (c : SecCmd) (k : Nat) (r : List (SecCmd × Nat)), s.bgHeld = false → s.rewrites = (c, k) :: r → c.why = .rewrite → s.geoD ≤ c.ix → (s.place c.x c.ix).isSome = true →
      (∀ pl, s.place c.x c.ix = some pl → (s.physOf pl.surface pl.cyl pl.lslot).isSome = true) → ∃ t : State, exec .recoveryRewrite s = .next t ∧ t.rewrites = r
      ∧ t.fetchStamp = s.fetchStamp + 1 ∧ ∃ h w, t.cmds = s.cmds ++ [h] ∧ t.sched = s.sched ++ [w] ∧ w.write = true ∧ w.why = .rewrite ∧ w.x = c.x ∧ w.ix = c.ix)
    ∧ (s.verifies = [] → ∀ code, exec (.verifyRead code) s = .next s)
    ∧ (∀ (c : SecCmd) (r : List SecCmd) (code : BitVec 8), s.verifies = c :: r → code.toNat < 2 → ∃ t : State, exec (.verifyRead code) s = .next t ∧ t.verifies = r ∧ t.gdl = s.gdl
      ∧ t.cmds = s.cmds ∧ t.regs = s.regs)
    ∧ (s.holes = [] → s.geoD = 0 → s.geoP = 0 → exec (.mediaScrub stripe p) s = .next s)
    ∧ (s.holes = [] → ∃ t : State, exec (.mediaScrub stripe p) s = .next t ∧ t.holes = [] ∧ t.updates = s.updates ∧ t.regs = s.regs ∧ t.sched.length ≤ s.sched.length + s.geoW
      ∧ ∀ c ∈ t.sched, c ∈ s.sched ∨ (c.write = false ∧ c.why = .scrub ∧ c.x = stripe.toNat))

/-- Capture and replay. (R192, R193, R194, R197) -/
def Obligations.CaptureAndReplay : Prop :=
  ∀ (s : State) (n : Chan),
    exec .capNext s = .next (s.wb CR_CTRL_CAP_NEXT true)
    ∧ ((∀ k, k < 4 → (s.slotRec n.val k).st ≠ 3) → exec (.captureDone n) s = .next s)
    ∧ ((s.slotRec n.val 0).st = 3 → 0 < s.ent 0xF010 2 → ∃ t : State, exec (.captureDone n) s = .next t ∧ t.cru.seq = s.cru.seq + 1 ∧ (t.ch n.val).sb = tabDel (s.ch n.val).sb 0
      ∧ t.rf CAP_WR_IDX_IDX = ((s.rf CAP_WR_IDX_IDX + 1) % s.ent 0xF010 2) % 2 ^ CAP_WR_IDX_IDX.width ∧ ∃ r, tabFind t.cru.recs (s.rf CAP_WR_IDX_IDX) = some r
        ∧ r.chan = n.val ∧ r.seq = s.cru.seq ∧ r.trig = (s.slotRec n.val 0).trig ∧ r.status = (s.slotRec n.val 0).stat ∧ r.slot = s.slotRec n.val 0)
    ∧ (s.rf RP_STATUS_STATE = 1 → exec .replayStart s = .next s)
    ∧ (s.rf RP_STATUS_STATE ≠ 1 → s.ent 0xF010 2 ≤ s.rf RP_IDX_IDX → ∃ t : State, exec .replayStart s = .next t ∧ t.rf RP_STATUS_STATE = 3 ∧ t.rf RP_STATUS_REASON = 1 ∧ t.cru.recs = s.cru.recs)
    ∧ (s.rf RP_STATUS_STATE ≠ 1 → s.rf RP_IDX_IDX < s.ent 0xF010 2 → tabFind s.cru.recs (s.rf RP_IDX_IDX) = none → ∃ t : State, exec .replayStart s = .next t
      ∧ t.rf RP_STATUS_STATE = 3 ∧ t.rf RP_STATUS_REASON = 2 ∧ t.cru.recs = s.cru.recs)
    ∧ (∀ r : CapRec, s.rf RP_STATUS_STATE ≠ 1 → s.rf RP_IDX_IDX < s.ent 0xF010 2 → tabFind s.cru.recs (s.rf RP_IDX_IDX) = some r → s.dom 10 = 3 → s.rbit RP_CTRL_STEPS 0 = true →
      (s.hf 0).reqs = [] → ∃ t : State, exec .replayStart s = .next t ∧ t.rf RP_STATUS_STATE = 1 ∧ t.rf RP_STATUS_REASON = 0 ∧ (t.slotRec 32 0).st = 2
        ∧ (t.hf 0).reqs = [{ kind := 1, n := 32, k := 0, lane := 0 }] ∧ t.cru.recs = s.cru.recs)
    ∧ (s.rf RP_STATUS_STATE ≠ 1 → exec .replayAbort s = .next s)
    ∧ (s.rf RP_STATUS_STATE = 1 → (∀ k, k < 64 → (s.ln k).att = none) → s.cru.rpLast = none → ∃ t : State, exec .replayAbort s = .next t ∧ t.rf RP_STATUS_STATE = 3 ∧ t.rf RP_STATUS_REASON = 3)
    ∧ (∀ (low iter st : Nat) (conv : Bool) (r : List Nat), s.cru.rpLast = some (low, iter, conv) → s.cru.rpLeft = st :: r → s.rf RP_STATUS_STATE = 1 → s.cru.abort = true →
      st ≤ 8 → (tabFind s.cru.recs s.cru.rpIdx).isSome = true → ∃ t : State, exec .replayStepDone s = .next t ∧ t.rf RP_STATUS_STATE = 3 ∧ t.rf RP_STATUS_REASON = 3 ∧ t.cru.rpLeft = r
        ∧ ∃ q, tabFind t.cru.recs s.cru.rpIdx = some q ∧ q.rpSteps.getD st 0 = rpWord low iter true conv)

/-- The commands a microword gives the channel, taken alone. (R198, R200, R201, R202, R203, R204) -/
def Obligations.SequencerCommands : Prop :=
  ∀ (s : State) (n : Chan),
    ((s.ch n.val).fifo = [] → exec (.pop n) s = .next (s.modCh n.val (fun c => { c with target := none })))
    ∧ (∀ (f : SecCmd) (r : List SecCmd), (s.ch n.val).fifo = f :: r → ∃ t : State, exec (.pop n) s = .next t ∧ (t.ch n.val).target = some f ∧ (t.ch n.val).fifo = r
      ∧ (t.ch n.val).foc = focFor (s.rf SYN_NDIVk_BITS (n.val / 8) (n.val % 8)) (s.ch n.val).tbit f.pslot ∧ (t.ch n.val).begun = false ∧ t.regs = s.regs ∧ t.sched = s.sched)
    ∧ (∀ f : SecCmd, (s.ch n.val).target = some f → exec (.retarget n) s = .next (s.modCh n.val (fun c =>
        { c with foc := focFor (s.rf SYN_NDIVk_BITS (n.val / 8) (n.val % 8)) c.tbit f.pslot, begun := false, ended := false, cut := false, barred := false })))
    ∧ (∀ imm next : BitVec 12, (s.ch n.val).stack.length < 4 → exec (.call n imm next) s = .next (((s.modCh n.val (fun c => { c with stack := imm.toNat :: c.stack })).wf
        SQ_STATUS_PC next.toNat n.val).wf SQ_STATUS_DEPTH ((s.ch n.val).stack.length + 1) n.val))
    ∧ (∀ (a : Nat) (r : List Nat), (s.ch n.val).stack = a :: r → exec (.ret n) s = .next (((s.modCh n.val (fun c => { c with stack := r })).wf SQ_STATUS_PC a n.val).wf
        SQ_STATUS_DEPTH r.length n.val))
    ∧ ((s.ch n.val).target = none → exec (.done n) s = .next s ∧ exec (.map n) s = .next s ∧ exec (.requeue n) s = .next s)
    ∧ (∀ f : SecCmd, (s.ch n.val).target = some f → f.aborted = false → ∃ t : State, exec (.requeue n) s = .next t ∧ (t.ch n.val).target = none ∧ t.sched = s.sched ++ [f]
      ∧ (t.ch n.val).fifo = (s.ch n.val).fifo ∧ t.regs = s.regs)
    ∧ (∀ f : SecCmd, (s.ch n.val).target = some f → f.write = false → f.aborted = false → (s.ch n.val).cut = false → (s.ch n.val).begun = true → (s.ch n.val).ended = true →
      (∃ t : State, exec (.done n) s = .next t ∧ (t.ch n.val).target = none ∧ t.sched = s.sched ∧ t.regs = s.regs)
      ∧ ((s.ch n.val).fifo = [] → exec (.advance n) s = exec (.done n) s))
    ∧ (∀ f g : SecCmd, (s.ch n.val).target = some f → f.write = false → (s.ch n.val).fifo = [g] → g.write = false → g.head = f.head → g.act = f.act → g.cyl = f.cyl → g.pslot = f.pslot + 1 →
      (s.ch n.val).cut = false → (s.ch n.val).begun = true → (s.ch n.val).ended = true → ∃ t : State, exec (.advance n) s = .next t ∧ (t.ch n.val).target = some g ∧ (t.ch n.val).fifo = []
        ∧ (t.ch n.val).foc = (s.ch n.val).foc - 36992 ∧ (t.ch n.val).rgate = (s.ch n.val).rgate ∧ t.sched = s.sched)
    ∧ (∀ f : SecCmd, (s.ch n.val).target = some f → s.slotHead n.val = f.head → s.gateOpen (8 * (n.val / 8) + n.val % 8) = false → s.laneFree (n.val / 8) →
      exec (.map n) s = .next (s.pa12Sent (n.val / 8) 0x02 [BitVec.ofNat 8 (n.val % 8), if f.write then 2 else 1]))
    ∧ (s.rf SQ_CTRL_RUN n.val = 0 ∨ s.rf SQ_STATUS_HALTED n.val = 1 ∨ s.dom (2 + n.val / 4) ≠ 3 → exec (.microword n) s = .next s)

/-- Events, faults, images, swaps and control of the sequencer. (R198, R205, R207, R208, R209, R210, R211, R212) -/
def Obligations.SequencerControl : Prop :=
  ∀ (s : State) (n : Chan),
    (∀ w : Nat, s.rf SQ_CTRL_RUN n.val = 1 → s.rf SQ_STATUS_HALTED n.val = 0 → s.dom (2 + n.val / 4) = 3 → s.rf SQ_STATUS_SWAP_PEND n.val = 0 → s.rf SYN_NDIVk_BITS (n.val / 8) (n.val % 8) = 0 →
      s.sqWord n.val = w → w < 4096 → ∃ t : State, exec (.microword n) s = .next t ∧ t.rf SQ_STATUS_PC n.val = w ∧ (t.ch n.val).target = (s.ch n.val).target ∧ (t.ch n.val).fifo = (s.ch n.val).fifo
        ∧ (t.ch n.val).rgate = (s.ch n.val).rgate ∧ (t.ch n.val).wgate = (s.ch n.val).wgate ∧ (t.ch n.val).stack = (s.ch n.val).stack ∧ t.out = s.out)
    ∧ (∀ e : Fin 5, s.rbit SQ_STATUS_EVT e.val n.val = false → exec (.sequencerEvent n e none) s = .next (s.wbit SQ_STATUS_EVT e.val true n.val))
    ∧ (∀ e : Fin 5, s.rbit SQ_STATUS_EVT e.val n.val = true → exec (.sequencerEvent n e none) s = .next (s.cnt SQ_COUNT_EV_OVR n.val))
    ∧ exec (.sequencerEccError n false) s = .next ((s.cnt SQ_ERR_ECC_CORR n.val).report (srcId MED n.val 0) 0 (s.rf SQ_STATUS_PC n.val))
    ∧ ((s.ch n.val).target = none → (s.ch n.val).fifo = [] → ∃ u : State, exec (.sequencerEccError n true) s = .next (u.report (srcId MED n.val 1) 0 (s.rf SQ_STATUS_PC n.val))
      ∧ u.rf SQ_STATUS_HALTED n.val = 1 ∧ u.rf SQ_ERR_HALT_CAUSE n.val = 1 ∧ (u.ch n.val).rgate = false ∧ (u.ch n.val).wgate = false ∧ (u.ch n.val).retired = true)
    ∧ ((s.ch n.val).target = none → exec (.tgtWdogExpiry n) s = .next s)
    ∧ (∀ ok : Bool, s.imgReason s.mstage.image ok ≠ 0 → ∃ t : State, exec (.stageLoad ok) s = .next t ∧ t.mstage = { s.mstage with reason := s.imgReason s.mstage.image ok } ∧ t.chan = s.chan)
    ∧ (∀ (ok : Bool), s.imgReason s.mstage.image ok = 0 → s.stageChans = [n.val] → s.rf SQ_STATUS_SWAP_PEND n.val = 0 → s.rf SQ_STATUS_ACTIVE n.val = 0 →
      (∃ t : State, exec (.stageLoad ok) s = .next t ∧ (t.ch n.val).bank1 = imgBank s.mstage.image ∧ (t.ch n.val).bank0 = (s.ch n.val).bank0 ∧ t.rf SQ_STATUS_STANDBY_VALID n.val = 1
        ∧ t.rf SQ_STATUS_ACTIVE n.val = 0)
      ∧ (∃ t : State, exec (.stageLoadSwap ok) s = .next t ∧ (t.ch n.val).bank1 = imgBank s.mstage.image ∧ t.rf SQ_STATUS_SWAP_PEND n.val = 1))
    ∧ (s.stageChans = [n.val] → s.rf SQ_STATUS_STANDBY_VALID n.val = 0 → ∃ t : State, exec .stageSwap s = .next t ∧ t.mstage.reason = 0x0C ∧ t.rf SQ_STATUS_REASON n.val = 0x0C)
    ∧ (s.rf SQ_STATUS_SWAP_PEND n.val = 1 → exec (.swapLimitExpiry n) s = .next { (((s.wb SQ_STATUS_SWAP_PEND false n.val).wb SQ_CTRL_SWAP false n.val).wf SQ_STATUS_REASON 0x0B n.val) with
        mstage := { s.mstage with reason := 0x0B } })
    ∧ (s.rf SQ_STATUS_SWAP_PEND n.val = 1 → (s.ch n.val).atSwap = true → s.rf SQ_STATUS_ACTIVE n.val = 0 → ∃ t : State, exec (.swapTake n) s = .next t ∧ t.rf SQ_STATUS_ACTIVE n.val = 1
      ∧ t.rf SQ_STATUS_SWAP_PEND n.val = 0 ∧ t.rf SQ_STATUS_PC n.val = (s.ch n.val).bank1.entry % 2 ^ SQ_STATUS_PC.width ∧ (t.ch n.val).stack = [] ∧ (t.ch n.val).fifo = (s.ch n.val).fifo)
    ∧ (s.rf SQ_CTRL_RUN n.val = 0 → s.rf SQ_STATUS_ACTIVE n.val = 0 → ∃ t : State, exec (.sqRun n true) s = .next t ∧ t.rf SQ_CTRL_RUN n.val = 1
      ∧ t.rf SQ_STATUS_PC n.val = (s.ch n.val).bank0.entry % 2 ^ SQ_STATUS_PC.width ∧ (t.ch n.val).stack = [])
    ∧ (s.rf SQ_STATUS_SWAP_PEND n.val = 0 → s.rf SQ_STATUS_STANDBY_VALID n.val = 1 → ∃ t : State, exec (.sqSwap n) s = .next t ∧ t.rf SQ_STATUS_SWAP_PEND n.val = 1 ∧ t.rf SQ_STATUS_REASON n.val = 0)
    ∧ ((s.ch n.val).target = none → ∃ t : State, exec (.sqRestart n) s = .next t ∧ t.rf SQ_STATUS_HALTED n.val = 0 ∧ t.rf SQ_ERR_HALT_CAUSE n.val = 0 ∧ (t.ch n.val).stack = []
      ∧ (t.ch n.val).rgate = false ∧ (t.ch n.val).wgate = false ∧ t.rf SQ_STATUS_DEPTH n.val = 0)

/-- Triggers, evaluations, misses and shadows of the loop cells. (R214, R216, R217, R221, R226, R232, R241, R242) -/
def Obligations.LoopCellsRunAndMiss : Prop :=
  ∀ (s : State) (n : Cell),
    (∀ (y : Word) (v : Bool), s.par (0x4100 + n.val) 1 = 0 → exec (.cellTrigger n y v) s = .next (s.modLc n.val (fun c => { c with live := false })))
    ∧ (∀ y : Word, s.cellRuns n.val = true → (∀ m, m < 42 → (s.lc m).ready = none) → tabGet [] s.mlane (cellLane n.val) = [] → (s.lc n.val).run = none → (s.lc n.val).live = true →
      (s.lc n.val).due = false → ∀ i : CellIn, i = { y := y.toNat, r := (s.lc n.val).ref, ff := s.ffOf n.val, valid := true, time := s.coreTime.toNat } →
      ∃ t : State, exec (.cellTrigger n y true) s = .next t ∧ (t.lc n.val).ready = none ∧ (t.lc n.val).gset = (s.lc n.val).greq.getD (s.lc n.val).gset
        ∧ (t.lc n.val).run = some (s.evalCell n.val { s.lc n.val with ready := some i } i ((s.lc n.val).greq.getD (s.lc n.val).gset)
            ((s.lc n.val).greq.getD (s.lc n.val).gset != (s.lc n.val).gset))
        ∧ tabGet [] t.mlane (cellLane n.val) = [n.val] ∧ t.regs = s.regs)
    ∧ (∀ o : CellOut, tabGet [] s.mlane (cellLane n.val) = [n.val] → (s.lc n.val).run = some o → ∃ t : State, exec (.evalComplete n) s = .next t ∧ (t.lc n.val).last = some o
      ∧ (t.lc n.val).evals = (s.lc n.val).evals + 1 ∧ (t.lc n.val).uLast = o.u)
    ∧ ((s.lc n.val).run = none → exec (.evalComplete n) s = .next s)
    ∧ (∀ g : Fin 4, exec (.gainSetRequest n g) s = .next (s.modLc n.val (fun c => { c with greq := some g.val })))
    ∧ ((s.lc n.val).ready = none → (s.lc n.val).run = none → exec (.deadlineMiss n) s = .next s)
    ∧ ((s.lc n.val).run.isSome = true → (s.lc n.val).missAt = [] → exec (.deadlineMiss n) s = .next (((s.modLc n.val (fun x =>
        { x with misses := x.misses + 1, missAt := [(s.lc n.val).evals + 1] })).cnt MC_MISS_MISS (cellLane n.val)).report (srcId MOT (cellLane n.val) 2) n.val))
    ∧ (∀ m : Fin 16, (s.lc (48 + m.val)).shadow = none → exec (.shadowEval m) s = .next s)
    ∧ (∀ (m : Fin 16) (i : CellIn) (g u e : Nat), s.mrec.rpSt ≠ 1 → (∀ k, k < 42 → (s.lc k).ready = none) → tabGet [] s.mlane (cellLane (48 + m.val)) = [] → (s.lc (48 + m.val)).live = true →
      (s.lc (48 + m.val)).shadow = some (i, g, u, e) → ∃ (t : State) (o : CellOut), exec (.shadowEval m) s = .next t ∧ (t.lc (48 + m.val)).last = some o ∧ o.inp = i ∧ o.gset = g
        ∧ (t.lc (48 + m.val)).shadow = none ∧ (t.lc (48 + m.val)).evals = (s.lc (48 + m.val)).evals + 1 ∧ t.regs = s.regs ∧ ∀ k, k < 42 → t.lc k = s.lc k)

/-- Profile channels, the motion recording and its replay. (R228, R229, R230, R231, R240, R242, R243) -/
def Obligations.ProfilesRecordingAndReplay : Prop :=
  ∀ (s : State) (c : Fin 5),
    (∀ x : Int, (s.pgc c.val).stop = false → (s.pgc c.val).plan = none → x ≠ (s.pgc c.val).pos → exec (.pgTarget c x) s =
      .next (s.modPg c.val (fun q => { q with target := x, plan := some (s.pgPlan c.val (x - (s.pgc c.val).pos).natAbs 8192), k := 0 })))
    ∧ (∀ x : Int, (s.pgc c.val).stop = false → (s.pgc c.val).plan = none → x = (s.pgc c.val).pos → exec (.pgTarget c x) s =
      .next (s.modPg c.val (fun q => { q with target := x, plan := none, k := 0, queued := none })))
    ∧ (∀ x : Int, (s.pgc c.val).stop = false → (s.pgc c.val).plan.isSome = true → exec (.pgTarget c x) s = .next (s.modPg c.val (fun q => { q with queued := some x })))
    ∧ exec (.pgStop c) s = .next ((s.modPg c.val (fun q => { q with stop := true })).wbit PG_CTRL_STOP c.val true)
    ∧ ((s.pgc c.val).stop = true → (s.sv c.val).seek = none → s.rf VC_STATUS_STATE c.val ≠ 5 → ∃ t : State, exec (.pgPeriod c) s = .next t ∧ (t.pgc c.val).stop = false ∧ (t.pgc c.val).plan = none
      ∧ (t.pgc c.val).v = 0 ∧ (t.pgc c.val).a = 0 ∧ (t.pgc c.val).x = (s.pgc c.val).x ∧ (t.pgc c.val).queued = none)
    ∧ (∀ pl : Nat × Nat × Nat, (s.pgc c.val).stop = false → (s.pgc c.val).plan = some pl → 4 * pl.1 + 2 * pl.2.1 + pl.2.2 ≤ (s.pgc c.val).k + 1 → (s.pgc c.val).queued = none →
      (s.sv c.val).seek = none → s.rf VC_STATUS_STATE c.val ≠ 5 → ∃ t : State, exec (.pgPeriod c) s = .next t ∧ (t.pgc c.val).pos = (s.pgc c.val).target ∧ (t.pgc c.val).v = 0 ∧ (t.pgc c.val).a = 0
        ∧ (t.pgc c.val).plan = none ∧ t.regs = s.regs)
    ∧ (∀ l : Fin 4, exec (.mcPeakClr l) s = .next (s.wf MC_LOAD_PEAK 0 l.val))
    ∧ exec .recStart s = .next { s with mrec := { s.mrec with st := 1, left := none } }
    ∧ (s.mrec.st = 1 → exec .recStop s = .next { s with mrec := { s.mrec with st := 0 } })
    ∧ (s.mrec.st ≠ 1 → exec .recClear s = .next { s with mrec := { s.mrec with recs := [], wr := 0, total := 0, lost := 0, st := 0 } })
    ∧ (s.mrec.total = 0 → s.ent 0xF020 10 = 0 → (∀ m, (s.lc m).shadow = none) → ∃ t : State, exec .replayCmdStart s = .next t ∧ t.mrec.rpSt = 2 ∧ t.mrec.rpEnd = 0 ∧ t.cell = s.cell)
    ∧ (s.mrec.rpSt = 1 → exec .replayCmdStop s = .next { s with mrec := { s.mrec with rpSt := 0 } })

/-- Seeks, samples, head jogs and shock. (R245, R248, R250, R251, R252, R253, R254, R255, R256, R262) -/
def Obligations.SeeksSettleAndFollow : Prop :=
  ∀ (s : State) (a : Act),
    (∀ (c : BitVec 20) (m w : BitVec 11), s.hasAct a.val = true → s.act a.val = 2 ∨ s.act a.val = 1 → exec (.seekRequest a c m w) s =
      .next (s.modSv a.val (fun v => { v with queued := some (c.toNat, (List.range 11).filter (bitOf m.toNat), (List.range 11).filter (bitOf w.toNat)) })))
    ∧ (∀ (c : BitVec 20) (m w : BitVec 11), s.hasAct a.val = true → s.act a.val = 3 ∨ s.act a.val = 4 → s.mappedHeads a.val = [] → ∃ t : State, exec (.seekRequest a c m w) s = .next t
      ∧ t.act a.val = 2 ∧ t.rf VC_HEADS_READ_RDY a.val = 0 ∧ t.rf VC_HEADS_WRITE_RDY a.val = 0 ∧ (∃ k, (t.sv a.val).seek = some k ∧ k.cyl = c.toNat ∧ k.step = 1 ∧ k.heads = [] ∧ k.repeated = false)
      ∧ (t.sv a.val).refused = (List.range 11).filter (bitOf m.toNat))
    ∧ (∀ (c : BitVec 20) (m w : BitVec 11), s.hasAct a.val = true → s.act a.val = 0 ∨ s.act a.val = 5 ∨ s.act a.val = 6 ∨ s.act a.val = 7 → exec (.seekRequest a c m w) s =
      .next (s.emit (.note "seek refused" a.val c.toNat)))
    ∧ (∀ c : BitVec 20, s.rf SYS_MODE_MODE ≠ 1 → exec (.vcTargetWrite a c) s = .next (s.wf VC_TARGET_CYL c.toNat a.val))
    ∧ ((s.sv a.val).seek = none → exec (.settleTimeout a) s = .next s)
    ∧ (∀ k : Seek, (s.sv a.val).seek = some k → s.act a.val = 3 → k.repeated = true → exec (.settleTimeout a) s =
      .next ((s.startPark a.val).report (srcId MOT (5 + a.val) 7) a.val))
    ∧ (∀ k : Seek, (s.sv a.val).seek = some k → s.act a.val = 3 → k.repeated = false → exec (.settleTimeout a) s =
      .next (((s.cnt VC_STATUS_SEEK_FAIL a.val).report (srcId MOT (5 + a.val) 34) a.val).seekBegin a.val k.cyl (maskOf (k.heads.map Prod.fst)) (maskOf k.writes) true))
    ∧ (∀ (d : Nat) (i : Int), s.act a.val = 0 → s.rbit WR_STATUS_INHIBIT 8 (8 * a.val) = false → -32768 ≤ i → i ≤ 32767 → ∃ t : State, exec (.vcmSample a d i) s = .next t
      ∧ sext 16 (t.rf VC_CURRENT_I_MEAS a.val) = i ∧ (t.sv a.val).contrib = [] ∧ t.act a.val = 0 ∧ t.cell = s.cell ∧ t.fc = s.fc)
    ∧ (∀ (h : Fin 11) (w : Bool), s.headChan a.val h.val = none → exec (.headJog a h w) s = .next s)
    ∧ (∀ (h : Fin 11) (w : Bool) (n : Nat) (k : Seek), s.headChan a.val h.val = some n → (s.sv a.val).seek = some k → s.act a.val = 4 → s.rf MA_STATUS_ACTIVE a.val = 0 →
      s.seekO a.val h.val ((s.zoneOf k.cyl).getD 39) w = none → s.inReach n 0 = true → ∃ t : State, exec (.headJog a h w) s = .next t ∧ (t.hd (11 * a.val + h.val)).disp = 0
        ∧ (t.hd (11 * a.val + h.val)).writing = w ∧ (t.lc n).greq = some 0 ∧ t.act a.val = 4 ∧ t.rbit VC_HEADS_READ_RDY h.val a.val = false)
    ∧ (∀ x : Fin 3, (∀ b, b < 4 → s.act b ≠ 4) → ∃ u : State, exec (.shockQualify x) s = .next (u.report (srcId MOT 13 0) x.val) ∧ u.shockHeld = true ∧ u.rbit SK_STATUS_ACTIVE x.val = true
      ∧ ∀ n, n < s.nChan → u.rbit WR_STATUS_INHIBIT 1 n = true)
    ∧ (s.rf SK_STATUS_ACTIVE = 0 → s.rf IF_STATUS_STUCK = 0 → s.rf IF_STATUS_CHATTER = 0 → ∃ t : State, exec .skHoldExpiry s = .next t ∧ t.shockHeld = false
      ∧ ∀ n, n < s.nChan → t.rbit WR_STATUS_INHIBIT 1 n = false)
    ∧ (s.rf SK_STATUS_ACTIVE ≠ 0 → exec .skHoldExpiry s = .next s)

/-- Loading, parking and retracting the heads. (R257, R258, R259, R260) -/
def Obligations.LoadParkAndRetract : Prop :=
  ∀ (s : State) (a : Act),
    (s.act a.val = 0 → s.hasAct a.val = true → s.mayLoad a.val = true → s.spinOk = true → s.rbit WR_STATUS_INHIBIT 8 (8 * a.val) = false → ∃ t : State, exec (.vcLoad a) s = .next t
      ∧ t.act a.val = 1 ∧ (t.sv a.val).loadStep = 1 ∧ (t.sv a.val).loadTries = 0 ∧ (t.sv a.val).seek = none ∧ t.fc = s.fc)
    ∧ (s.act a.val = 1 → (s.sv a.val).loadStep = 1 → ∃ t : State, exec (.loadStepDone a) s = .next t ∧ (t.sv a.val).loadStep = 2 ∧ (t.tr a.val).flying = true ∧ (t.tr a.val).failed = false ∧ t.act a.val = 1)
    ∧ (s.act a.val = 1 → (s.sv a.val).loadStep = 2 → s.mappedHeads a.val = [] → s.rf PL_STATUS_STATE a.val ≠ 2 → exec (.loadStepDone a) s =
      .next (((s.modSv a.val (fun v => { v with loadStep := 3 })).modLc (32 + a.val) (fun c => { c with greq := some 2 })).wf VC_STATUS_GSEL 2 a.val))
    ∧ (s.act a.val ≠ 1 → exec (.loadStepDone a) s = .next s ∧ exec (.loadStepTimeout a) s = .next s)
    ∧ (s.act a.val = 1 → (s.sv a.val).loadStep = 1 → (s.sv a.val).loadTries = 0 → ∃ t : State, exec (.loadStepTimeout a) s = .next t ∧ t.act a.val = 5 ∧ (t.sv a.val).loadTries = 1
      ∧ (t.sv a.val).parkStep = 3 ∧ (t.sv a.val).retireAt = (s.sv a.val).retireAt ∧ t.fc = s.fc ∧ (t.tr a.val).flying = false)
    ∧ (s.act a.val = 4 → ∃ t : State, exec (.vcUnload a) s = .next t ∧ t.act a.val = 5 ∧ t.rf VC_HEADS_READ_RDY a.val = 0 ∧ t.rf VC_HEADS_WRITE_RDY a.val = 0 ∧ (t.sv a.val).seek = none
      ∧ (t.sv a.val).parkStep = 0 ∧ t.fc = s.fc ∧ t.lane = s.lane)
    ∧ (s.act a.val = 4 → ∃ t : State, exec (.vcRetract a) s = .next t ∧ t.act a.val = 6 ∧ (t.sv a.val).retract = 1 ∧ (t.sv a.val).seek = none
      ∧ t.rf VC_STATUS_RETRACTS a.val = min (s.rf VC_STATUS_RETRACTS a.val + 1) (2 ^ VC_STATUS_RETRACTS.width - 1) ∧ ∀ n, n / 8 = a.val → (t.ch n).wgate = false)
    ∧ (s.act a.val = 0 ∨ s.act a.val = 6 ∨ s.act a.val = 7 → exec (.vcRetract a) s = .next s ∧ exec (.vcUnload a) s = .next s)
    ∧ (s.act a.val ≠ 5 → exec (.parkLatched a) s = .next s ∧ exec (.parkLimitExpiry a) s = .next s)
    ∧ (s.act a.val = 5 → (s.sv a.val).parkStep = 3 → (s.sv a.val).retireAt = true → (s.sv a.val).loadTries ≠ 1 → s.spin.stopping = false → ∃ t : State, exec (.parkLatched a) s = .next t ∧ t.act a.val = 7
      ∧ (t.sv a.val).parkStep = 0 ∧ t.fc = s.fc)
    ∧ (s.act a.val = 5 → exec (.parkLimitExpiry a) s = .next ((s.startRetract a.val).report (srcId MOT (5 + a.val) 34) a.val))
    ∧ (s.act a.val = 6 → (s.sv a.val).retract = 1 → exec (.retT1Expiry a) s = .next (s.modSv a.val (fun v => { v with retract := 2 })))
    ∧ (s.act a.val = 6 → (s.sv a.val).retract = 2 → (s.sv a.val).retireAt = false → s.spin.stopping = false →
      (∃ t : State, exec (.retT2Expiry a false) s = .next t ∧ t.act a.val = 0 ∧ (t.sv a.val).retract = 0 ∧ t.fc = s.fc)
      ∧ (∃ u : State, exec (.retT2Expiry a true) s = .next (u.report (srcId MOT (5 + a.val) 9) a.val) ∧ u.act a.val = 7 ∧ (u.sv a.val).fast = true))
    ∧ (s.act a.val = 0 → exec (.coilCurrentFault a) s = .next s)
    ∧ (s.act a.val = 4 → exec (.coilCurrentFault a) s =
      .next (((s.startRetract a.val).modSv a.val (fun v => { v with retireAt := true })).report (srcId MOT (5 + a.val) 8) a.val))

/-- Starting, detecting, catching and resetting the spindle. (R263, R265, R267, R271, R273, R279, R286) -/
def Obligations.SpindleStartsAndCatches : Prop :=
  ∀ s : State,
    (s.sp = 5 → exec .spStart s = .next (s.modSpin (fun p => { p with want := 1 })))
    ∧ (s.sp ≠ 5 → s.rb SP_STATUS_CHOP_FAULT = true → exec .spStart s = .next s)
    ∧ (s.sp = 0 ∨ s.sp = 6 → s.rb SP_STATUS_CHOP_FAULT = false → s.spAdmitted = true → s.spin.stopping = false → ∃ t : State, exec .spStart s = .next t
      ∧ t.sp = 1 ∧ t.spin.step = 1 ∧ t.spin.tries = 0 ∧ t.rb SP_STATUS_AT_SPEED = false ∧ (∀ n, n < s.nChan → t.rbit WR_STATUS_INHIBIT 10 n = true) ∧ t.fc = s.fc)
    ∧ (s.sp = 1 → s.spin.step = 1 → exec .detectTimeout s = .next (s.modSpin (fun p => { p with step := 3 })))
    ∧ (s.sp ≠ 1 → exec .detectTimeout s = .next s)
    ∧ (∀ u v : Int, s.sp = 1 → s.spin.step = 3 → 20 * u.natAbs ≤ 4096 → 20 * v.natAbs ≤ 4096 → exec (.offsetCalDone u v) s =
      .next (((s.wf SP_CAL_OFS_U (utrunc 12 u)).wf SP_CAL_OFS_V (utrunc 12 v)).modSpin (fun p => { p with step := 4, pulses := [], double := false })))
    ∧ (∀ u v : Int, s.sp = 1 → s.spin.step = 3 → 4096 < 20 * u.natAbs ∨ 4096 < 20 * v.natAbs → ∃ t : State, exec (.offsetCalDone u v) s = .next (t.report (srcId MOT 14 0))
      ∧ t.sp = 12 ∧ t.spin.step = 0)
    ∧ (∀ p : Nat, s.sp = 1 → s.spin.step = 4 → s.spin.pulses.length < 11 → exec (.testPulseDone p) s = .next (s.modSpin (fun x => { x with pulses := s.spin.pulses ++ [p] })))
    ∧ (∀ (p i : Nat) (l : List Nat), s.sp = 1 → s.spin.step = 4 → l = s.spin.pulses ++ [p] → l.length = 12 → i = peakIx l →
      (103 * l.getD ((i + 6) % 12) 0 ≤ 100 * l.getD i 0 → ∃ t : State, exec (.testPulseDone p) s = .next t ∧ t.sp = 2 ∧ t.spin.step = 7 ∧ t.fc = s.fc)
      ∧ (100 * l.getD i 0 < 103 * l.getD ((i + 6) % 12) 0 → s.spin.double = false → exec (.testPulseDone p) s = .next (s.modSpin (fun x => { x with pulses := [], double := true }))))
    ∧ (s.sp = 2 → s.spin.tries ≠ 2 → ∃ t : State, exec .startAttemptTimeout s = .next t ∧ t.sp = 0 ∧ t.spin.step = 10 ∧ t.spin.tries = s.spin.tries + 1
      ∧ t.rf SP_STATUS_START_FAILS = min (s.rf SP_STATUS_START_FAILS + 1) (2 ^ SP_STATUS_START_FAILS.width - 1) ∧ t.fc = s.fc)
    ∧ (s.sp = 2 → s.spin.tries = 2 → ∃ t : State, exec .startAttemptTimeout s = .next (t.report (srcId MOT 14 1)) ∧ t.sp = 12 ∧ t.spin.tries = 3)
    ∧ (s.sp = 0 → s.spin.step = 10 → ∃ t : State, exec .startRestartDelay s = .next t ∧ t.sp = 1 ∧ t.spin.step = 1 ∧ t.spin.tries = s.spin.tries)
    ∧ (∀ (i : Nat) (g : BitVec 16) (m : Nat), s.sp = 1 → s.spin.step = 1 → ∃ t : State, exec (.bemfCrossing i g m) s = .next t ∧ t.sp = 7 ∧ t.spin.crossings = 0 ∧ t.fc = s.fc)
    ∧ (∀ (i : Nat) (g : BitVec 16) (m : Nat), s.sp = 7 → s.spin.crossings < 11 →
      exec (.bemfCrossing i g m) s = .next (s.modSpin (fun p => { p with crossings := s.spin.crossings + 1 })))
    ∧ (∀ (i : Nat) (g : BitVec 16) (m : Nat), s.sp = 7 → 11 ≤ s.spin.crossings → ∃ t : State, exec (.bemfCrossing i g m) s = .next t ∧ t.rf SP_SPEED_SPEED = s.catchSpeed i
      ∧ (4 * s.par 0x5010 16 ≤ s.catchSpeed i → t.sp = 3 ∧ t.rf SP_SPEED_ANGLE = g.toNat ∧ (t.lc 37).vPrev = bfOfRat m 1000)
      ∧ (s.catchSpeed i < 4 * s.par 0x5010 16 → t.sp = 9 ∧ t.spin.zvThen = 1))
    ∧ (s.sp = 7 → ∃ t : State, exec .crossingTimeout s = .next t ∧ t.sp = 1 ∧ t.spin.step = 3 ∧ t.rf SP_SPEED_SPEED = 0)
    ∧ (s.sp = 9 → s.spin.zvThen ≠ 1 → ∃ t : State, exec .crossingTimeout s = .next t ∧ t.sp = 0 ∧ t.spin.step = 0 ∧ t.rf SP_SPEED_SPEED = 0)
    ∧ (∀ b : Bool, s.sp = 11 ∨ s.sp = 12 → ∃ t : State, exec (.spReset b) s = .next t ∧ t.sp = (if b then 7 else 0) ∧ t.rb SP_STATUS_CHOP_FAULT = false ∧ t.rb SP_STATUS_OV2 = false
      ∧ t.spin.tries = 0 ∧ t.fc = s.fc)
    ∧ (∀ b : Bool, s.sp ≠ 11 → s.sp ≠ 12 → exec (.spReset b) s = .next s)

/-- Stopping, holding and protecting the spindle. (R272, R277, R278, R279, R280, R281, R283, R284, R286) -/
def Obligations.SpindleStopsHoldsAndTrips : Prop :=
  ∀ s : State,
    (s.sp = 11 ∨ s.sp = 12 → exec .spStop s = .next s ∧ exec .spCoast s = .next s)
    ∧ (s.sp = 0 → exec .spStop s = .next (s.modSpin (fun p => { p with step := 0 })))
    ∧ (s.sp = 5 → exec .spStop s = .next (s.modSpin (fun p => { p with want := 2 })))
    ∧ (s.sp = 3 ∨ s.sp = 4 → s.allUnloaded = true → s.spin.chopStop = false → ∃ t : State, exec .spStop s = .next t ∧ t.sp = 8 ∧ t.spin.stopping = false
      ∧ t.rb SP_STATUS_AT_SPEED = false ∧ (t.pgc 4).target = 0 ∧ t.fc = s.fc ∧ t.cmds = s.cmds)
    ∧ (s.sp = 1 ∨ s.sp = 2 ∨ s.sp = 6 ∨ s.sp = 7 → s.allUnloaded = true → s.spin.chopStop = false → ∃ t : State, exec .spStop s = .next t ∧ t.sp = 9 ∧ t.spin.stopping = false ∧ t.spin.zvThen = 0)
    ∧ (s.sp = 4 → s.allUnloaded = false → s.spin.chopStop = false → s.parkAll.allUnloaded = false → exec .spStop s = .next (s.parkAll.modSpin (fun p => { p with stopping := true })))
    ∧ (s.allUnloaded = false → exec .spCoast s = .next s)
    ∧ (s.allUnloaded = true → s.sp = 3 ∨ s.sp = 4 ∨ s.sp = 8 → ∃ t : State, exec .spCoast s = .next t ∧ t.sp = 6 ∧ t.rb SP_STATUS_LOCKED = false ∧ t.fc = s.fc)
    ∧ (∀ b : Bool, exec (.ov1Cross b) s = .next (s.wb SP_STATUS_BRAKE b))
    ∧ (s.rb SP_STATUS_BRAKE = false → exec .chopperFault s = .next s)
    ∧ (s.rb SP_STATUS_BRAKE = true → s.rb SP_STATUS_CHOP_FAULT = false → ∃ u : State, exec .chopperFault s = .next ((u.report (srcId MOT 14 6)).spProceed)
      ∧ u.rb SP_STATUS_CHOP_FAULT = true ∧ u.spin.chopStop = true ∧ u.sp = s.sp)
    ∧ (∃ u : State, exec .ov2Trip s = .next (u.report (srcId MOT 14 7)) ∧ u.sp = 11 ∧ u.rb SP_STATUS_OV2 = true ∧ u.rb SP_STATUS_LOCKED = false)
    ∧ (∃ u : State, exec .undervoltTimeout s = .next (u.report (srcId MOT 14 8)) ∧ (∀ n, n < s.nChan → u.rbit WR_STATUS_INHIBIT 8 n = true)
      ∧ (s.sp ≠ 5 → s.rb SP_STATUS_LOCKED = false → u.sp = s.sp) ∧ (s.sp = 5 → u.spin.lostPower = true)
      ∧ (s.sp = 4 → s.rb SP_STATUS_LOCKED = true → u.sp = 10))
    ∧ (∀ x : Int, s.sp ≠ 5 → exec (.holdPeriodSample x) s = .next s)
    ∧ (∀ x : Int, s.sp = 5 → s.spin.samples.length < 2 → s.allUnloaded = true → exec (.holdPeriodSample x) s =
      .next (s.modSpin (fun p => { p with samples := s.spin.samples ++ [x], holdN := s.spin.holdN + 1 })))
    ∧ (s.sp ≠ 5 → exec .holdTimeout s = .next s)
    ∧ (s.sp = 5 → ∃ t : State, exec .holdTimeout s = .next t ∧ t.sp = 7 ∧ t.spin.crossings = 0)
    ∧ (∀ (u v : Int) (b : BitVec 16), s.sp = 0 ∨ s.sp = 1 ∨ s.sp = 6 ∨ s.sp = 7 ∨ s.sp = 9 ∨ s.sp = 11 ∨ s.sp = 12 → exec (.currentTick u v b) s =
      .next (((s.wf SP_PHASE_IU (utrunc 16 u)).wf SP_PHASE_IV (utrunc 16 v)).wf SP_BUS_VBUS b.toNat))
    ∧ (∀ (u v : Int) (b : BitVec 16), s.sp = 5 → s.overCurrent u v = false → ∃ t : State, exec (.currentTick u v b) s = .next t ∧ t.rf SP_BUS_VBUS = b.toNat ∧ t.sp = 5 ∧ t.spin.overs = 0)
    ∧ (∀ (c : Nat) (p a : Int), s.sp = 4 → s.spinOk = false → s.rb IF_STATUS_TEMP_OOW = false → s.par 0x5020 1 = 0 → s.allUnloaded = true →
      ∃ t : State, exec (.speedTick c p a []) s = .next t ∧ t.sp = 3 ∧ t.rf SP_BUS_PIN = utrunc 16 p)

/-- What a request reads and writes in the buffer. (R287, R289, R294, R295, R297, R298, R301, R554) -/
def Obligations.BufferReadsAndWrites : Prop :=
  ∀ s : State,
    (∀ (req : BufReq) (a n : Nat), s.inWindow a n = false → a + n ≤ s.dataEnd → (unitsOf 2048 a n).any s.pageHeld = false → s.buf.err = [] → s.buf.poison = [] →
      exec (.hbmRead req a n []) s = .next ({ s with buf.selfRefresh := false }.emit (.buffer req false (s.bytesAt a n))))
    ∧ (∀ (req : BufReq) (a : Nat) (bs : List Byte), s.inWindow a bs.length = false → a + bs.length ≤ s.dataEnd → (unitsOf 2048 a bs.length).any s.pageHeld = false → s.buf.err = [] →
      s.buf.poison = [] → s.buf.flip = none → Memory.wf s.mem = true → s.buf.filled = true → (∀ k, tabFind (tabDel s.buf.media k) k = none) →
      ∃ t : State, exec (.hbmWrite req a bs []) s = .next (t.emit (.buffer req false [])) ∧ (∀ x, t.byteAt x = if a ≤ x ∧ x < a + bs.length then bs.getD (x - a) 0 else s.byteAt x)
        ∧ t.buf.err = [] ∧ t.buf.poison = [] ∧ t.cmds = s.cmds ∧ t.fc = s.fc)
    ∧ (∀ (req : BufReq) (a : Nat) (bs : List Byte) (pc : Nat), a % 8 = 0 → bs.length = 8 → s.inWindow a 8 = false → a + 8 ≤ s.dataEnd → (unitsOf 2048 a 8).any s.pageHeld = false →
      s.buf.err = [] → s.buf.poison = [] → s.buf.flip = some (pc, none) → s.pcOf (a / 2048) = pc →
      ∃ t : State, exec (.hbmWrite req a bs []) s = .next t ∧ t.buf.flip = none ∧ t.flipMask = 0 ∧ t.errOf (a / 8) = s.flipMask.toNat ∧ t.rb HBM_FLIP_CTRL_ARM = false)
    ∧ (∀ (e : Fin 64) (a n : Nat), s.dataEnd < a + n → exec (.hbmRead (.dma e) a n []) s = .next ({ s with buf.selfRefresh := false }.emit (.buffer (.dma e) true [])))
    ∧ (∀ (p : BitVec 23) (w : BitVec 8), s.buf.waits = [] → exec (.strongDecode p w) s = .next s)
    ∧ (∀ (p : BitVec 23) (w : BitVec 8) (o : BufOp), o ∈ s.buf.waits → o.wr = none → (s.needsStrong o.addr o.len).contains p.toNat = true →
      exec (.strongDecode p w) s = .next ((s.strongDecode p.toNat w.toNat).serveWaits))
    ∧ (∀ p : BitVec 23, exec (.parityEntryWrite p) s = .next { s with buf.parity := s.buf.parity.erase p.toNat })
    ∧ (s.rb HBM_FLIP_CTRL_MATCH = false → exec .hbmFlipArm s = .next { (s.wb HBM_FLIP_CTRL_ARM true) with buf.flip := some (s.rf HBM_FLIP_CTRL_PC, none) })
    ∧ (s.rb HBM_FLIP_CTRL_MATCH = true → exec .hbmFlipArm s = .next { (s.wb HBM_FLIP_CTRL_ARM true) with buf.flip := some (s.rf HBM_FLIP_CTRL_PC, some (s.rf HBM_FLIP_PAGE_PAGE)) })
    ∧ (s.buf.filled = false → (∀ p, p < 16 → s.pcSt p ≠ 0) → ∃ t : State, exec .bufferZeroFillDone s = .next t ∧ t.buf.filled = true ∧ (∀ x, t.byteAt x = 0) ∧ t.buf.err = [] ∧ t.buf.poison = []
      ∧ t.regs = s.regs)
    ∧ (s.buf.filled = true ∨ s.pcSt 0 = 0 → exec .bufferZeroFillDone s = .next s)

/-- Temperature, refresh, training and the retirement of a pseudo-channel. (R290, R291, R292, R304, R305, R306) -/
def Obligations.PseudoChannelsAreKeptAndRetired : Prop :=
  ∀ (s : State) (p : Fin 16),
    ((∀ t : Int, t ≤ 125 → refMult (s.rf ECC_STATUS_REF_MULT) t = s.rf ECC_STATUS_REF_MULT → exec (.hbmTempSample t) s =
        .next { ((s.wf ECC_STATUS_TEMP (utrunc 8 t)).wf ECC_STATUS_REF_MULT (s.rf ECC_STATUS_REF_MULT)) with buf.hot := 0 })
      ∧ (∀ (t : Int) (m : Nat), t ≤ 125 → m = refMult (s.rf ECC_STATUS_REF_MULT) t → m ≠ s.rf ECC_STATUS_REF_MULT → exec (.hbmTempSample t) s =
        .next ({ ((s.wf ECC_STATUS_TEMP (utrunc 8 t)).wf ECC_STATUS_REF_MULT m) with buf.hot := 0 }.report (srcId DAT 16 38) 0 m))
      ∧ (∀ t : Int, 125 < t → s.buf.hot = 9 → ∃ u : State, exec (.hbmTempSample t) s = .next (u.report (srcId DAT 16 37)) ∧ u.buf.hot = 10)
      ∧ (∀ t : Int, (105 < t → refMult 0 t = 2) ∧ (85 < t → t ≤ 105 → refMult 0 t = 1) ∧ (t ≤ 85 → refMult 0 t = 0) ∧ (105 < t → refMult 1 t = 2) ∧ (82 ≤ t → t ≤ 105 → refMult 1 t = 1)
        ∧ (t < 82 → refMult 1 t = 0) ∧ (102 ≤ t → refMult 2 t = 2) ∧ (82 ≤ t → t < 102 → refMult 2 t = 1) ∧ (t < 82 → refMult 2 t = 0)))
    ∧ (∀ (b : BitVec 8) (w : Bool), s.pcSt p.val = 0 ∨ s.pcSt p.val = 3 → exec (.refreshDue p b w) s = .next s)
    ∧ (∀ b : BitVec 8, s.pcSt p.val = 1 ∨ s.pcSt p.val = 2 → ∃ t : State, exec (.refreshDue p b true) s = .next t
      ∧ t.buf.arrears = tabSet s.buf.arrears (256 * p.val + b.toNat) (min 8 (tabGet 0 s.buf.arrears (256 * p.val + b.toNat) + 1)))
    ∧ (∀ q : Nat, ((List.range 16).map (fun i => (s.buf.track + i) % 16)).find? s.pcRuns = some q →
      exec (.hbmRetrack true) s = .next { (s.modPc q (fun x => { x with retries := 0 })) with buf.track := (q + 1) % 16 }
      ∧ ((s.pcv q).retries < 3 → s.pcSt q = 1 → exec (.hbmRetrack false) s = .next { (s.modPc q (fun x => { x with retries := (s.pcv q).retries + 1 })) with buf.track := q })
      ∧ ((s.pcv q).retries = 3 → exec (.hbmRetrack false) s = .next ({ (s.modPc q (fun x => { x with retries := 4 })) with buf.track := q }.report (srcId DAT 16 36) q)))
    ∧ (s.dom 16 = 3 → (∀ q, q < 16 → s.pcSt q = 0) →
      (∃ t : State, exec (.hbmTrainingDone 0) s = .next t ∧ (∀ q, q < 16 → t.pcSt q = 1) ∧ t.fc = s.fc)
      ∧ (∃ u : State, exec (.hbmTrainingDone (BitVec.ofNat 16 (2 ^ p.val))) s = .next (u.report (srcId DAT p.val 32) p.val 1) ∧ u.pcSt p.val = 3
        ∧ (∀ q, q < 16 → q ≠ p.val → u.pcSt q = 1) ∧ u.rb ECC_STATUS_RESERVE_USED = true ∧ u.rf ECC_STATUS_RETIRED_PC = p.val)
      ∧ (∃ u : State, exec (.hbmTrainingDone 0x8001) s = .next (u.report (srcId DAT 16 36))))
    ∧ (s.dom 16 = 2 → s.buf.waits = [] → ∃ t : State, exec .hbmSelfRefreshEntry s = .next t ∧ t.buf.selfRefresh = true ∧ t.buf.arrears = [] ∧ ∀ q, q < 16 → t.rf HBM_PC_REFPEND_ARREARS q = 0)
    ∧ (s.dom 16 ≠ 2 → exec .hbmSelfRefreshEntry s = .next s)
    ∧ ((s.pcv p.val).ce ≤ s.par 0xC020 1 → exec (.ceRateWindow p) s = .next (s.modPc p.val (fun x => { x with ce := 0, ceBad := 0 })))
    ∧ (s.par 0xC020 1 < (s.pcv p.val).ce → (s.pcv p.val).ceBad = 9 → (s.pcv p.val).due = 0 → ∃ t : State, exec (.ceRateWindow p) s = .next t ∧ (t.pcv p.val).due = 2 ∧ (t.pcv p.val).ce = 0)
    ∧ (s.pcSt p.val = 1 → (s.pcv p.val).due = 0 → exec (.hbmPcRetire p) s = .next ((s.wb HBM_PC_CTRL_RETIRE true p.val).modPc p.val (fun x => { x with due := 5 })))
    ∧ (s.pcSt p.val ≠ 1 → exec (.hbmPcRetire p) s = .next s ∧ exec (.pcRetire p) s = .next s)
    ∧ (∀ d : Fin 6, s.pcSt p.val = 1 → (s.pcv p.val).due = d.val → d.val ≠ 0 →
      (s.movedRows = none → ∃ t : State, exec (.pcRetire p) s = .next t ∧ t.pcSt p.val = 2 ∧ t.rf HBM_PC_STATUS_CAUSE p.val = d.val ∧ (t.pcv p.val).held = true ∧ (t.pcv p.val).due = 0 ∧ t.mem = s.mem)
      ∧ (s.movedRows.isSome = true → exec (.pcRetire p) s = .next ((s.modPc p.val (fun x => { x with due := 0 })).report (srcId DAT 16 35) p.val d.val)))
    ∧ ((s.pcv p.val).held = false → exec (.pcQueueDrained p) s = .next s)
    ∧ ((s.pcv p.val).held = true → s.buf.waits = [] → ∃ u : State, exec (.pcQueueDrained p) s =
      .next ((u.report (srcId DAT p.val 32) p.val (s.rf HBM_PC_STATUS_CAUSE p.val)).serveWaits) ∧ (u.pcv p.val).held = false ∧ u.rf HBM_PC_RELOC_PTR p.val = 0)
    ∧ (∀ r : Nat, s.pcSt p.val = 2 → (s.pcv p.val).held = false → s.rf HBM_PC_RELOC_PTR p.val = r → s.buf.err = [] → s.buf.poison = [] →
      (r + 1 < s.rowsMoved → exec (.relocRow p) s = .next (s.wf HBM_PC_RELOC_PTR (r + 1) p.val))
      ∧ (r + 1 = s.rowsMoved → ∃ t : State, exec (.relocRow p) s = .next t ∧ t.pcSt p.val = 3 ∧ t.rb ECC_STATUS_RESERVE_USED = true ∧ t.rf ECC_STATUS_RETIRED_PC = p.val ∧ t.mem = s.mem))
    ∧ (s.pcSt p.val ≠ 2 → exec (.relocRow p) s = .next s)

/-- The Skimmer's pages and laps. (R302, R303, R309) -/
def Obligations.TheSkimmerLaps : Prop :=
  ∀ s : State,
    (s.rb SKIM_CTRL_EN = true → exec (.skimEnable true) s = .next (s.wb SKIM_CTRL_EN true))
    ∧ (s.rb SKIM_CTRL_EN = false → ∃ t : State, exec (.skimEnable true) s = .next t ∧ t.rb SKIM_CTRL_EN = true ∧ t.buf.lap = true ∧ t.buf.overdue = false ∧ (∀ p, p < 16 → (t.pcv p).row = 0) ∧ t.mem = s.mem)
    ∧ exec (.skimEnable false) s = .next { (s.wb SKIM_CTRL_EN false) with buf.lap := false }
    ∧ (s.rb SKIM_CTRL_EN = false → exec .skimRestart s = .next (s.wf SKIM_LAP_MAX_MAX 0))
    ∧ (s.rb SKIM_CTRL_EN = true → ∃ t : State, exec .skimRestart s = .next t ∧ t.rf SKIM_LAP_MAX_MAX = 0 ∧ t.buf.lap = true ∧ ∀ p, p < 16 → (t.pcv p).row = 0 ∧ (t.pcv p).restarts = 0)
    ∧ (s.rb SKIM_CTRL_EN = true → s.buf.lap = true → s.buf.overdue = false → exec .skimLapOverdue s = .next ({ s with buf.overdue := true }.report (srcId DAT 17 32)))
    ∧ (s.buf.overdue = true → exec .skimLapOverdue s = .next s)
    ∧ (∀ ms : BitVec 32, s.lapDone = false → exec (.skimLapEnd ms) s = .next s)
    ∧ (∀ ms : BitVec 32, s.rb SKIM_CTRL_EN = true → s.buf.lap = true → s.lapDone = true → s.rf SKIM_LAP_MAX_MAX < 2 ^ 32 → ∃ t : State, exec (.skimLapEnd ms) s = .next t ∧ t.rf SKIM_LAP_LAST = ms.toNat
      ∧ t.rf SKIM_LAP_MAX_MAX = max ms.toNat (s.rf SKIM_LAP_MAX_MAX) ∧ t.rf SKIM_COUNT_LAP_COUNT = min (s.rf SKIM_COUNT_LAP_COUNT + 1) (2 ^ SKIM_COUNT_LAP_COUNT.width - 1)
      ∧ (∀ p, p < 16 → (t.pcv p).row = 0) ∧ t.buf.overdue = false)
    ∧ (∀ (p : Fin 16) (w : Bool), s.rb SKIM_CTRL_EN = false → exec (.skimPage p w []) s = .next s)
    ∧ (∀ (p : Fin 16) (r : Nat), s.rb SKIM_CTRL_EN = true → s.buf.lap = true → s.buf.filled = true → s.pcSt p.val = 1 → (s.pcv p.val).row = r → r < s.lapRows p.val →
      (s.rowPage p.val r).isSome = true →
        (s.buf.err = [] → s.buf.poison = [] → exec (.skimPage p false []) s = .next ((s.cnt SKIM_FOUND_CORR 0 0 0).skimNext p.val))
        ∧ ((s.pcv p.val).restarts ≠ 15 → exec (.skimPage p true []) s = .next ((s.cnt SKIM_STATUS_RESTARTS).modPc p.val (fun x => { x with restarts := x.restarts + 1 })))
        ∧ ((s.pcv p.val).restarts = 15 → exec (.skimPage p true []) s = .next (((s.cnt SKIM_STATUS_RESTARTS).cnt SKIM_STATUS_SKIPPED).skimNext p.val)))

/-- Requests to the Pail pools, releases and draws. (R311, R315, R316, R317, R318, R319, R320, R555) -/
def Obligations.PailsAreGrantedAndReturned : Prop :=
  ∀ (s : State) (p : Fin 16),
    (∀ (r : Fin 39) (i : Fin (2 ^ 18)), 34 ≤ r.val → (s.pl p.val).waiting = [] → s.poolCount p.val ≠ 0 → s.poolFree p.val ≠ 0 → s.par (0xC040 + p.val) 4 = 0 → lowestFree (s.pl p.val).alloc 0 = i.val →
      ∃ t : State, exec (.pailRequest p [r]) s = .next t ∧ t.out = .note "Pail answer" (16 * r.val) (s.poolBase p.val + i.val * s.poolSize p.val) :: s.out
        ∧ (t.pl p.val).alloc = insertIx i.val (s.pl p.val).alloc ∧ (t.pl p.val).waiting = [] ∧ t.fc = s.fc ∧ t.mem = s.mem)
    ∧ (∀ r : Fin 39, (s.pl p.val).waiting = [] → s.poolCount p.val ≠ 0 → s.poolFree p.val = 0 → ∃ t : State, exec (.pailRequest p [r]) s = .next t
      ∧ t.out = .note "Pail answer" (16 * r.val + 1) 0 :: s.out ∧ (t.pl p.val).alloc = (s.pl p.val).alloc
      ∧ t.rf PAIL_EMPTY_COUNT p.val = min (s.rf PAIL_EMPTY_COUNT p.val + 1) (2 ^ PAIL_EMPTY_COUNT.width - 1) ∧ t.fc = s.fc)
    ∧ (∀ r : Fin 39, 32 ≤ r.val → (s.pl p.val).waiting = [] → s.poolCount p.val = 0 → exec (.pailRequest p [r]) s =
      .next ((s.report (srcId DAT (18 + p.val) 3) r.val).emit (.note "Pail answer" (16 * r.val + 5) 0)))
    ∧ (∀ (r : Fin 39) (a : BitVec 64),
      (s.poolCount p.val = 0 → exec (.pailRelease p r a) s = .next ((s.report (srcId DAT (18 + p.val) 3) r.val a.toNat).emit (.note "Pail answer" (16 * r.val + 5) 0)))
      ∧ (s.poolCount p.val ≠ 0 → a.toNat < s.poolBase p.val ∨ s.poolBase p.val + s.poolCount p.val * s.poolSize p.val ≤ a.toNat → exec (.pailRelease p r a) s =
        .next (((s.report (srcId DAT (18 + p.val) 0) r.val a.toNat).pailErr p.val r.val 2).emit (.note "Pail answer" (16 * r.val + 2) 0)))
      ∧ (s.poolBase p.val ≤ a.toNat → a.toNat < s.poolBase p.val + s.poolCount p.val * s.poolSize p.val → (a.toNat - s.poolBase p.val) % s.poolSize p.val ≠ 0 → exec (.pailRelease p r a) s =
        .next (((s.report (srcId DAT (18 + p.val) 1) r.val a.toNat).pailErr p.val r.val 3).emit (.note "Pail answer" (16 * r.val + 3) 0)))
      ∧ (∀ i : Fin (2 ^ 18), a.toNat = s.poolBase p.val + i.val * s.poolSize p.val → i.val < s.poolCount p.val →
        ((s.pl p.val).alloc.contains i.val = false → exec (.pailRelease p r a) s =
          .next (((s.report (srcId DAT (18 + p.val) 2) r.val a.toNat).pailErr p.val r.val 4).emit (.note "Pail answer" (16 * r.val + 4) 0)))
        ∧ ((s.pl p.val).alloc.contains i.val = true → ∃ t : State, exec (.pailRelease p r a) s = .next t ∧ (t.pl p.val).alloc = (s.pl p.val).alloc.erase i.val ∧ (∀ q, q ≠ p.val → t.pl q = s.pl q)
          ∧ t.out = s.out ∧ t.fc = s.fc ∧ t.regs = s.regs)))
    ∧ (∀ n : BitVec 64, s.cmd n.toNat = none → exec (.pailDraw n) s = .next s)
    ∧ (∀ (n : BitVec 64) (c : Cmd), s.cmd n.toNat = some c → s.reservedOf c = 0 → c.stamp = n.toNat → exec (.pailDraw n) s = .next s)
    ∧ (∀ (n : BitVec 64) (c : Cmd), s.cmd n.toNat = some c → c.stamp = n.toNat → s.reservedOf c ≠ 0 → c.aborted = false → c.op = .write → ∃ t : State, exec (.pailDraw n) s = .next t
      ∧ (t.pl c.pool).alloc = insertIx (lowestFree (s.pl c.pool).alloc 0) (s.pl c.pool).alloc ∧ (∀ q, q ≠ c.pool → t.pl q = s.pl q)
      ∧ (2 ≤ s.reservedOf c → (t.pl c.pool).reserved = tabSet (s.pl c.pool).reserved c.stamp (s.reservedOf c - 1)))
    ∧ (∀ n : Chan, s.drawEntry n.val none = none → exec (.pailRerequest n) s = .next s ∧ exec (.pailWaitExpiry n) s = .next s)
    ∧ (∀ (n : Chan) (e : StoreEnt), s.drawEntry n.val none = some e → e.cmd.pool = some p.val → exec (.pailRerequest n) s = exec (.pailRequest p [Fin.castLE (by decide) n]) s)
    ∧ (∀ (n : Chan) (e : StoreEnt), s.drawEntry n.val none = some e → e.cmd.aborted = false → ∃ t : State, exec (.pailWaitExpiry n) s = .next t ∧ t.sched.getLast? = some e.cmd)
    ∧ exec (.pailMinClr p) s = .next (s.modPool p.val (fun q => { q with minFree := s.poolFree p.val }))

/-- Accesses, fills, drains and locks of the metadata cache. (R321, R322, R323, R324, R325, R326, R327, R328) -/
def Obligations.TheMetadataCacheServesItsWindow : Prop :=
  ∀ s : State,
    (∀ (q : Fin 4) (a : BitVec 34) (n : Nat), s.inWindow a.toNat n = false → a.toNat + n ≤ s.dataEnd → s.buf.err = [] → s.buf.poison = [] → exec (.mcAccess q a none n .clean) s =
      .next (s.emit (.buffer (.cache q) false (s.bytesAt a.toNat n))))
    ∧ (∀ (q : Fin 4) (a : BitVec 34) (n l w : Nat), s.inWindow a.toNat n = true → s.mcState = 1 → unitsOf 128 a.toNat n = [l] → s.mcWay l = some w → exec (.mcAccess q a none n .clean) s =
      .next (((s.cnt MCC_HITS_COUNT).mcTouch l w).emit (.buffer (.cache q) false (s.cachedBytes a.toNat n))))
    ∧ (∀ (q : Fin 4) (a : BitVec 34) (n l w : Nat), s.inWindow a.toNat n = true → s.mcState = 1 → unitsOf 128 a.toNat n = [l] → s.mcWay l = none → s.mcc.fills = [] → s.mcVictim l = some w →
      ∃ t : State, exec (.mcAccess q a none n .clean) s = .next t ∧ t.mcc.fills = [{ line := l, way := w, who := [(q.val, a.toNat, n)], installs := true }]
        ∧ t.rf MCC_MISSES_COUNT = min (s.rf MCC_MISSES_COUNT + 1) (2 ^ MCC_MISSES_COUNT.width - 1))
    ∧ (∀ (q : Fin 4) (a : BitVec 34) (bs : List Byte), s.inWindow a.toNat bs.length = true → s.mcState = 1 → a.toNat + bs.length ≤ s.dataEnd → s.mcc.merge = [] → bs.length ≤ 64 →
      ∃ t : State, exec (.mcAccess q a (some bs) 0 .clean) s = .next (t.emit (.buffer (.cache q) false [])) ∧ t.mem = s.mem
        ∧ ∀ x, t.cachedByte x = if a.toNat ≤ x ∧ x < a.toNat + bs.length then bs.getD (x - a.toNat) 0 else s.cachedByte x)
    ∧ (∀ l : BitVec 27, s.mcc.fills.find? (fun f => f.line == l.toNat) = none → exec (.mcFillDone l) s = .next s)
    ∧ (∀ (l : BitVec 27) (f : McFill), s.mcc.fills = [f] → f.line = l.toNat → f.installs = true → s.mcState = 1 → s.mcc.waits = [] → s.buf.err = [] → s.buf.poison = [] → 128 * l.toNat + 128 ≤ s.dataEnd →
      ∃ t : State, exec (.mcFillDone l) s = .next t ∧ t.mcc.fills = [] ∧ t.mcc.tags = tabSet s.mcc.tags (16 * setOf l.toNat + f.way) l.toNat ∧ t.mem = s.mem)
    ∧ (s.mcc.merge = [] → exec .mergeDrain s = .next s)
    ∧ (∀ (e : MergeEnt) (r : List MergeEnt), s.mcc.merge = e :: r → r.length < 64 → ∃ t : State, exec .mergeDrain s = .next t ∧ t.mcc.merge = r ∧ t.rf MCC_STATUS_MB_USED = r.length ∧ t.mcc.tags = s.mcc.tags)
    ∧ (s.mcState = 4 → exec (.mcEnableWrite true) s = .next ((s.wb MCC_CTRL_EN true).wf MCC_STATUS_STATE 1))
    ∧ (s.mcState = 2 ∨ s.mcState = 3 → exec (.mcEnableWrite true) s = .next ((s.wb MCC_CTRL_EN true).wb MCC_STATUS_EN_PEND true))
    ∧ (s.mcState = 1 → exec (.mcEnableWrite false) s = .next (((s.wb MCC_CTRL_EN false).wb MCC_STATUS_EN_PEND false).wf MCC_STATUS_STATE 2))
    ∧ (s.mcState ≠ 1 → exec (.mcEnableWrite false) s = .next ((s.wb MCC_CTRL_EN false).wb MCC_STATUS_EN_PEND false))
    ∧ (s.mcState = 0 → ∃ t : State, exec .mcStateDone s = .next t ∧ t.mcState = (if s.rb MCC_CTRL_EN then 1 else 4) ∧ t.mcc.tags = [] ∧ t.mcc.merge = s.mcc.merge)
    ∧ (s.mcState = 2 → s.mcc.merge = [] → exec .mcStateDone s = .next (s.wf MCC_STATUS_STATE 3))
    ∧ (s.mcState = 2 → s.mcc.merge ≠ [] → exec .mcStateDone s = .next s)
    ∧ (s.mcState = 3 → ∃ t : State, exec .mcStateDone s = .next t ∧ t.mcState = (if s.rb MCC_STATUS_EN_PEND then 1 else 4) ∧ t.rb MCC_STATUS_EN_PEND = false ∧ t.mcc.tags = [])
    ∧ (s.mcc.inv = none → exec .mcInvDone s = .next s ∧ exec .mcInvGo s =
      .next ({ s with mcc.inv := some (s.rf MCC_INV_BASE_LINE, max 1 (s.rf MCC_INV_SIZE_LINES)) }.wb MCC_STATUS_INV_BUSY true))
    ∧ (∀ b n : Nat, s.mcc.inv = some (b, n) → exec .mcInvGo s = .next s ∧ ∃ t : State, exec .mcInvDone s = .next t ∧ t.mcc.inv = none ∧ t.rb MCC_STATUS_INV_BUSY = false
      ∧ (∀ x, x ∈ t.mcc.tags ↔ x ∈ s.mcc.tags ∧ ¬ (b ≤ x.2 ∧ x.2 < b + n)) ∧ ∀ f, f ∈ t.mcc.fills → b ≤ f.line → f.line < b + n → f.installs = false)
    ∧ (∀ k : Fin 4, exec (.mcLockEn k false) s = .next ((s.wb MCC_LOCKk_BASE_EN false 0 k.val).wbit MCC_STATUS_LOCKED k.val false)
      ∧ (s.rb MCC_LOCKk_BASE_EN 0 k.val = true → exec (.mcLockEn k true) s = .next s)
      ∧ (s.rb MCC_LOCKk_BASE_EN 0 k.val = false → 128 * s.rf MCC_LOCKk_BASE_LINE 0 k.val < s.winBase → exec (.mcLockEn k true) s = .next (s.wbit MCC_STATUS_LOCK_ERR k.val true))
      ∧ (s.rb MCC_LOCKk_BASE_EN 0 k.val = false → s.winBase ≤ 128 * s.rf MCC_LOCKk_BASE_LINE 0 k.val → s.rf MCC_LOCKk_SIZE_LINES 0 k.val ≤ 4096 →
        128 * (s.rf MCC_LOCKk_BASE_LINE 0 k.val + max 1 (s.rf MCC_LOCKk_SIZE_LINES 0 k.val)) ≤ s.winBase + s.winSize → ∃ t : State, exec (.mcLockEn k true) s = .next t
        ∧ t.rb MCC_LOCKk_BASE_EN 0 k.val = true ∧ t.rbit MCC_STATUS_LOCKED k.val = true ∧ ∀ x, x ∈ t.mcc.tags ↔ x ∈ s.mcc.tags ∧ x.1 % 16 ≠ k.val)
      ∧ (s.rbit MCC_STATUS_LOCKED k.val = false → exec (.mcPreload k) s = .next s)
      ∧ (s.rbit MCC_STATUS_LOCKED k.val = true → s.mcState = 1 → s.rf MCC_LOCKk_SIZE_LINES 0 k.val = 0 → s.mcWay (s.rf MCC_LOCKk_BASE_LINE 0 k.val) = none → s.mcc.merge = [] → s.buf.err = [] →
        s.buf.poison = [] → 128 * s.rf MCC_LOCKk_BASE_LINE 0 k.val + 128 ≤ s.dataEnd → exec (.mcPreload k) s =
        .next { s with mcc.tags := tabSet s.mcc.tags (16 * setOf (s.rf MCC_LOCKk_BASE_LINE 0 k.val) + k.val) (s.rf MCC_LOCKk_BASE_LINE 0 k.val) }))

/-- Doorbells, descriptors, bursts and records of the DMA engines. (R330, R331, R334, R335, R336, R338, R339, R340, R342, R350) -/
def Obligations.DmaRunsDescriptors : Prop :=
  ∀ (s : State) (e : Fin 4) (c : Fin 16) (id : Nat), id = 16 * e.val + c.val →
    (∀ v : Word, c.val < 14 → exec (.chDqDoorbell e c v) s = .next s ∧ exec (.chCqHeadWrite e c v) s = .next s ∧ ∀ b, exec (.chEnable e c b) s = .next s)
    ∧ (∀ v : Word, 14 ≤ c.val → exec (.chDqDoorbell e c v) s = .next (((s.wf CH_DQ_TAIL_INDEX v.toNat e.val c.val).wf CH_DQ_TAIL_LAP (v.toNat / 4096) e.val c.val).chEnter id)
      ∧ exec (.chCqHeadWrite e c v) s = .next (((s.wf CH_CQ_HEAD_INDEX v.toNat e.val c.val).wf CH_CQ_HEAD_LAP (v.toNat / 4096) e.val c.val).chEnter id))
    ∧ (s.chEn id = true → s.chState id = 1 → (s.dc id).run = none → (s.en (s.engOf id)).runs.contains id = false → (s.en (s.engOf id)).running ≠ some id → s.dqCount id ≠ 0 → s.slotFree id = true →
      s.chEnter id = (s.modEn (s.engOf id) (fun x => { x with runs := x.runs ++ [id] })).wf CH_STATUS_STATE 2 e.val c.val)
    ∧ (14 ≤ c.val → s.chState id = 0 → ∃ t : State, exec (.chEnable e c true) s = .next t ∧ t.chState id = 1 ∧ t.chEn id = true ∧ t.dqTail id = 0 ∧ t.dqHead id = 0 ∧ t.cqTail id = 0 ∧ t.cqHead id = 0)
    ∧ (14 ≤ c.val → ∃ t : State, exec (.chEnable e c false) s = .next t ∧ t.chState id = 0 ∧ t.chEn id = false ∧ (t.dc id).run = none ∧ (t.dc id).q = [])
    ∧ (∀ b : Bool, exec (.deEnableWrite e b) s = .next (s.wb DE_CTRL_EN b e.val))
    ∧ ((s.en e.val).retired = true ∨ s.rb DE_CTRL_EN e.val = false ∨ (s.en e.val).runs = [] → exec (.descStart e) s = .next s)
    ∧ (∀ (d : Desc) (q : List Desc) (r : List Nat), c.val < 14 → (s.en e.val).retired = false → (s.en e.val).running = none → s.rb DE_CTRL_EN e.val = true → (s.en e.val).runs = id :: r →
      (s.dc id).run = none → (s.dc id).q = d :: q → s.chEn id = true → s.dqCount id ≠ 0 → s.slotFree id = true → (s.dc id).marked = [] → d.lost = false →
      (s.descBad d = false → ∃ t : State, exec (.descStart e) s = .next t ∧ (t.en e.val).running = some id ∧ (t.en e.val).runs = r ∧ t.chState id = 3 ∧ (t.dc id).q = q
        ∧ (t.dc id).run = some { d := d, pos := 0, bursts := [], parks := 0, row := 0, rowPage := 0, abort := 0, err := none, ended := false })
      ∧ (s.descBad d = true → ∃ (t : State) (x : RunDesc), exec (.descStart e) s = .next t ∧ (t.dc id).run = none ∧ (t.dc id).issued = (s.dc id).issued ++ [x] ∧ x.d = d ∧ x.err = some (2, 0x0C, 0, d.length)))
    ∧ ((s.en e.val).running = none → exec (.burstIssue e) s = .next s)
    ∧ (∀ (x : RunDesc) (a n : Nat), (s.en e.val).running = some id → (s.dc id).run = some x → s.nextBurst x = some (a, n) →
      (n ≠ 0 → x.d.inside = false → x.d.toHost = false → x.d.pasid = none → (s.prt x.d.port).ats = false → s.rf DE_OUTSTANDING_READS e.val < 64 → x.pos + n < x.d.length →
        exec (.burstIssue e) s = .next (((s.cnt DE_OUTSTANDING_READS e.val).emit (.port x.d.port "memory read" a)).modDc id
          (fun y => { y with run := some { x with pos := x.pos + n, bursts := x.bursts ++ [(x.pos, n)], row := 0 } })))
      ∧ (n ≠ 0 → x.d.inside = false → x.d.toHost = false → 64 ≤ s.rf DE_OUTSTANDING_READS e.val → exec (.burstIssue e) s = .next s)
      ∧ (n = 0 → a < 2 ^ 64 → ∃ t : State, exec (.burstIssue e) s = .next t ∧ (t.dc id).run = none
        ∧ (t.dc id).issued = (s.dc id).issued ++ [{ x with err := some (2, 0x0C, 0, x.d.length - x.pos), ended := true }]))
    ∧ (∀ (p : BitVec 32) (ans : CplAns), (s.dc id).issued = [] → (s.dc id).run = none → exec (.burstComplete e c p ans) s = .next s)
    ∧ (∀ (p : BitVec 32) (x : RunDesc) (n : Nat), (s.dc id).issued = [] → (s.dc id).run = some x → x.bursts = [(p.toNat, n)] → x.err = none → s.engOf id = e.val →
      (∀ bs : List Byte, bs.length = n → s.inWindow (x.d.addrB + p.toNat) n = false → x.d.addrB + p.toNat + n ≤ s.dataEnd → s.buf.err = [] → s.buf.poison = [] →
        ∃ t : State, exec (.burstComplete e c p (.data bs)) s = .next t ∧ (t.dc id).run = some { x with bursts := [] } ∧ t.rf DE_OUTSTANDING_READS e.val = s.rf DE_OUTSTANDING_READS e.val - 1)
      ∧ (∃ (t : State) (y : RunDesc), exec (.burstComplete e c p .ur) s = .next t ∧ (t.dc id).run = none ∧ (t.dc id).issued = [y] ∧ y.bursts = []
        ∧ y.err = some (3, 2, (match elemAt x.d.list p.toNat with | some (a, _) => a | none => 0), x.d.length - p.toNat)))
    ∧ (∀ b : Bool, (s.dc id).issued = [] → exec (.recordWrite e c b) s = .next s)
    ∧ (∀ (x : RunDesc) (r : List RunDesc), (s.dc id).issued = x :: r → x.bursts = [] → s.chState id ≠ 6 →
      (∃ t : State, exec (.recordWrite e c true) s = .next (t.report (srcId DAT (36 + e.val) 1) c.val) ∧ t.chState id = 6 ∧ (t.dc id).retry = true ∧ (t.dc id).issued = x :: r)
      ∧ (14 ≤ c.val → ∃ t : State, exec (.recordWrite e c false) s = .next t ∧ (t.dc id).issued = r ∧ t.cqTail id = (s.cqTail id + 1) % 2 ^ (s.cqLog id + 1)
        ∧ (bitOf x.d.flags 0 = true → t.rbit DE_IRQ_CH c.val e.val = true)))

/-- Aborts, engine faults, translations, page requests and configuration. (R341, R343, R344, R345, R346, R348, R353, R522) -/
def Obligations.DmaAbortsFaultsAndTranslations : Prop :=
  ∀ (s : State) (e : Fin 4),
    (s.rf DE_ABORT_STATUS_RESULT e.val = 1 ∨ s.rf DE_ABORT_CHANNEL e.val < 14 → exec (.deAbortGo e) s = .next s)
    ∧ (∀ c : Fin 16, 14 ≤ c.val → s.rf DE_ABORT_CHANNEL e.val = c.val → s.rf DE_ABORT_STATUS_RESULT e.val ≠ 1 →
      ((s.dc (16 * e.val + c.val)).issued = [] → (s.dc (16 * e.val + c.val)).run = none → s.dqCount (16 * e.val + c.val) = 0 → exec (.deAbortGo e) s = .next (s.wf DE_ABORT_STATUS_RESULT 4 e.val))
      ∧ (∀ x : RunDesc, (s.dc (16 * e.val + c.val)).issued = [x] → x.d.index = s.rf DE_ABORT_INDEX e.val → x.abort = 0 → ∃ t : State, exec (.deAbortGo e) s = .next t
        ∧ t.rf DE_ABORT_STATUS_RESULT e.val = 1 ∧ t.rb DE_ABORT_GO e.val = true ∧ (t.dc (16 * e.val + c.val)).issued = [{ x with abort := 2 }]))
    ∧ (∀ (i : Fin 64) (k : BitVec 12), 14 ≤ i.val % 16 → exec (.internalDescAbort [(i, k)]) s = .next s)
    ∧ (∀ (i : Fin 64) (k : BitVec 12) (x : RunDesc), i.val % 16 < 14 → (s.dc i.val).issued = [] → (s.dc i.val).run = some x → x.d.index = k.toNat → ∃ t : State,
      exec (.internalDescAbort [(i, k)]) s = .next t ∧ (t.dc i.val).run = none ∧ (t.dc i.val).issued = [{ x with abort := 1, ended := true }])
    ∧ (exec (.dmaEngineFault e false) s = .next ((s.cnt DE_ERR_ECC_CORR e.val).report (srcId DAT (36 + e.val) 2)))
    ∧ ((s.en e.val).retired = true → exec (.dmaEngineFault e true) s = .next s)
    ∧ ((s.en e.val).retired = false → (∃ k, k < 4 ∧ k ≠ e.val ∧ (s.en k).retired = false) → ∃ t : State, exec (.dmaEngineFault e true) s = .next (t.report (srcId DAT (36 + e.val) 3))
      ∧ (t.en e.val).retired = true ∧ (t.en e.val).running = none ∧ (t.en e.val).runs = [] ∧ t.rf DE_OUTSTANDING_READS e.val = 0)
    ∧ ((s.en e.val).retired = false → (∀ k, k < 4 → k ≠ e.val → (s.en k).retired = true) → exec (.dmaEngineFault e true) s = .next (s.reportAs (srcId DAT (36 + e.val) 32) 4))
    ∧ ((s.en e.val).retired = false ∨ (s.en e.val).handed = true → exec (.dmaEngineHandover e) s = .next s)
    ∧ ((s.en e.val).retired = true → (s.en e.val).handed = false → ∃ t : State, exec (.dmaEngineHandover e) s = .next t ∧ (t.en e.val).handed = true ∧ t.mem = s.mem)
    ∧ (∀ (q : Fin 2) (a : Option (BitVec 20)) (g : BitVec 52) (r : AtsAns), (q.val, a.map (·.toNat), g.toNat) ∉ s.dtu.ats → exec (.atsResponse q a g r) s = .next s)
    ∧ (∀ (q : Fin 2) (a : Option (BitVec 20)) (g : BitVec 52), (q.val, a.map (·.toNat), g.toNat) ∈ s.dtu.ats → (∀ k, k < 4 → (s.en k).running = none) →
      exec (.atsResponse q a g .error) s = .next { s with dtu.ats := s.dtu.ats.erase (q.val, a.map (·.toNat), g.toNat) }
      ∧ ∀ (h : BitVec 64) (r w : Bool), ∃ (t : State) (k : Nat), exec (.atsResponse q a g (.grant h r w 0)) s = .next t ∧ t.dtu.ats = s.dtu.ats.erase (q.val, a.map (·.toNat), g.toNat)
        ∧ (k, { port := q.val, pasid := a.map (·.toNat), page := g.toNat, addr := h.toNat / 4096 * 4096, r := r, w := w, size := 0 }) ∈ t.dtu.atc)
    ∧ (∀ (q : Fin 2) (a : Option (BitVec 20)) (g : BitVec 52), s.dch = [] → s.dtu.inval = [] → ∃ t : State, exec (.atsInvalidate q a g 0) s = .next t
      ∧ (∀ x, x ∈ t.dtu.atc ↔ x ∈ s.dtu.atc ∧ ¬ (x.2.port = q.val ∧ x.2.pasid = a.map (·.toNat) ∧ x.2.page / 2 ^ x.2.size = g.toNat / 2 ^ x.2.size))
      ∧ t.out = .port q.val "Invalidate Completion" g.toNat :: s.out ∧ t.dtu.inval = [])
    ∧ (∀ q : Fin 2, s.dtu.pri = [] → exec (.pageRequestSend q) s = .next s ∧ ∀ g c, exec (.prgResponse q g c) s = .next s ∧ exec (.priTimeout q g) s = .next s)
    ∧ (∀ (q : Fin 2) (x : PageReq), s.dtu.pri = [x] → x.port = q.val → x.group = none → s.priUsable q.val = true → 1 ≤ (s.prt q.val).alloc →
      exec (.pageRequestSend q) s = .next ({ s with dtu.pri := [{ x with group := some 0 }] }.emit (.port q.val "Page Request" (x.page * 512))))
    ∧ (∀ (q : Fin 2) (g : BitVec 9) (i : Nat) (x : PageReq) (r : RunDesc), s.dtu.pri = [x] → x.port = q.val → x.group = some g.toNat → x.who = [.chan i] → (s.dc i).run = some r → s.chState i = 4 →
      s.engOf i < 4 →
      (∃ t : State, exec (.prgResponse q g .success) s = .next t ∧ (t.en (s.engOf i)).runs = i :: (s.en (s.engOf i)).runs ∧ t.chState i = 2 ∧ t.dtu.pri = [] ∧ (t.dc i).run = some r)
      ∧ (∃ (t : State) (y : RunDesc), exec (.prgResponse q g .failure) s = .next t ∧ (t.prt q.val).respFail = true ∧ (t.dc i).issued = (s.dc i).issued ++ [y] ∧ (y.err.map (fun z => (z.1, z.2.1)) = some (4, 8)))
      ∧ (∃ (t : State) (y : RunDesc), exec (.prgResponse q g .invalid) s = .next t ∧ (t.dc i).issued = (s.dc i).issued ++ [y] ∧ (y.err.map (fun z => (z.1, z.2.1)) = some (4, 7)))
      ∧ (∃ (t : State) (y : RunDesc), exec (.priTimeout q g) s = .next t ∧ (t.dc i).issued = (s.dc i).issued ++ [y] ∧ (y.err.map (fun z => (z.1, z.2.1)) = some (4, 9))))
    ∧ (∀ (q : Fin 2) (r : CfgReq), s.dom (14 + q.val) ≠ 3 → exec (.pcieConfigAccess q r) s = .next s)
    ∧ (∀ q : Fin 2, s.dom (14 + q.val) = 3 → (s.prt q.val).perst = false →
      (∀ r : CfgReq, s.pwr.bootDone = false → exec (.pcieConfigAccess q r) s = .next ((s.modPrt q.val (fun x => { x with linkUp := true })).emit (.port q.val "CRS" 0)))
      ∧ (∀ v : Bool, s.pwr.bootDone = true → ∃ t : State, exec (.pcieConfigAccess q (.pasid v)) s = .next t ∧ (t.prt q.val).pasid = v ∧ (t.prt q.val).linkUp = true ∧ t.out = .port q.val "Cpl" 0 :: s.out)
      ∧ (s.pwr.bootDone = true → ∃ t : State, exec (.pcieConfigAccess q (.ats false)) s = .next t ∧ (t.prt q.val).ats = false ∧ ∀ x, x ∈ t.dtu.atc → x.2.port ≠ q.val))

/-- Admin commands of the NVMe controllers. (R355, R356, R360, R362, R363, R366, R517) -/
def Obligations.NvmeAdminCommands : Prop :=
  ∀ (s t u : State) (q : Fin 2) (cid : BitVec 16), s.nextTurn = some (t, nvPart q.val 0) →
    u = ((t.modSq q.val 0 (fun x => { x with head := (x.head + 1) % max 1 x.size })).modCq q.val 0 (fun x => { x with credits := x.credits + 1 })).turnCount (nvPart q.val 0) →
    ((∀ qid : BitVec 16, s.sec.sw ≠ none → exec (.nvmeDeleteIoSq q cid qid) s = .next s ∧ exec (.mediaPurge q cid) s = .next s)
    ∧ (s.sec.sw = none → ∀ qid n v : BitVec 16, ∀ base : BitVec 64,
      (1 ≤ qid.toNat → qid.toNat ≤ 1024 → (u.nvCq q.val qid.toNat).size = 0 → 1 ≤ n.toNat → n.toNat ≤ 4095 → v.toNat ≤ 1024 → exec (.nvmeCreateIoCq q cid qid n true v base) s =
        .next ((u.modCq q.val qid.toNat (fun _ => { NvCq.none with base := base.toNat, size := n.toNat + 1, vector := v.toNat })).adminDone q.val cid.toNat 0 0))
      ∧ ((u.nvCq q.val qid.toNat).size ≠ 0 → exec (.nvmeCreateIoCq q cid qid n true v base) s = .next (u.adminDone q.val cid.toNat 0x101 0))
      ∧ (1 ≤ qid.toNat → qid.toNat ≤ 1024 → (u.nvSq q.val qid.toNat).size = 0 → 1 ≤ n.toNat → n.toNat ≤ 4095 → 1 ≤ v.toNat → v.toNat ≤ 1024 → (u.nvCq q.val v.toNat).size ≠ 0 → ∀ (p : Fin 4) (l : Fin 16),
        exec (.nvmeCreateIoSq q cid qid n true p v base l) s =
        .next ((u.modSq q.val qid.toNat (fun _ => { NvSq.none with base := base.toNat, cq := v.toNat, size := n.toNat + 1, prio := p.val, pool := l.val })).adminDone q.val cid.toNat 0 0))
      ∧ (1 ≤ qid.toNat → qid.toNat ≤ 1024 → (u.nvSq q.val qid.toNat).size = 0 → n.toNat = 0 → ∀ (p : Fin 4) (l : Fin 16), exec (.nvmeCreateIoSq q cid qid n true p v base l) s = .next (u.adminDone q.val cid.toNat 0x102 0))
      ∧ (qid.toNat ≠ 0 → (u.nvSq q.val qid.toNat).size ≠ 0 → exec (.nvmeDeleteIoSq q cid qid) s =
        .next ((((u.discardCmds (nvPart q.val qid.toNat)).turnEnd (nvPart q.val qid.toNat)).modPrt q.val (fun p => { p with sq := tabDel p.sq qid.toNat })).adminDone q.val cid.toNat 0 0))
      ∧ (qid.toNat ≠ 0 → (u.nvCq q.val qid.toNat).size ≠ 0 → (u.prt q.val).sq.any (fun p => p.2.cq == qid.toNat && p.2.size != 0) = true → exec (.nvmeDeleteIoCq q cid qid) s = .next (u.adminDone q.val cid.toNat 0x10C 0))
      ∧ (qid.toNat ≠ 0 → (u.nvCq q.val qid.toNat).size ≠ 0 → (u.prt q.val).sq.any (fun p => p.2.cq == qid.toNat && p.2.size != 0) = false → exec (.nvmeDeleteIoCq q cid qid) s =
        .next (((u.priDrop (.comp (nvComp q.val qid.toNat))).modPrt q.val (fun p => { p with cq := tabDel p.cq qid.toNat })).adminDone q.val cid.toNat 0 0)))
    ∧ (s.sec.sw = none → u.mode ≠ 3 → ∀ (ns v : BitVec 32) (l : List (BitVec 64 × BitVec 32)) (data : List Byte) (o : BitVec 64) (b : Bool),
      exec (.identify q cid 2 ns l) s = .next ((u.hostPut q.val (operandList l)
        (zeroPage 4096 [(0, ((List.range u.nsCount).filter (fun k => decide (ns.toNat < k + 1))).flatMap (fun k => leBytes 4 (k + 1)))])).adminDone q.val cid.toNat 0 0)
      ∧ exec (.identify q cid 4 ns l) s = .next (u.adminDone q.val cid.toNat 0x002 0)
      ∧ (o.toNat % 4 = 0 → exec (.getLogPage q cid 0x16 b o l) s = .next ((u.hostPut q.val (operandList l)
        ((u.logRotational.drop o.toNat).take (listSum (operandList l)) ++ List.replicate (listSum (operandList l) - (u.logRotational.drop o.toNat).length) 0)).adminDone q.val cid.toNat 0 0))
      ∧ (o.toNat % 4 = 0 → exec (.getLogPage q cid 0x7F b o l) s = .next (u.adminDone q.val cid.toNat 0x109 0))
      ∧ exec (.setFeatures q cid 0x0E ns v data) s = .next ({ u with hostTime := some (leNat (data.take 6), u.coreTime.toNat) }.adminDone q.val cid.toNat 0 0)
      ∧ exec (.setFeatures q cid 0x03 ns v data) s = .next (u.adminDone q.val cid.toNat 0x002 0)
      ∧ exec (.getFeatures q cid 0x07 ns l) s = .next (u.adminDone q.val cid.toNat 0 0x03FF03FF)
      ∧ exec (.getFeatures q cid 0x03 ns l) s = .next (u.adminDone q.val cid.toNat 0x002 0)
      ∧ ((u.prt q.val).aer = [] → (u.prt q.val).resvLog = [] → exec (.asynchronousEventRequest q cid) s = .next (u.modPrt q.val (fun p => { p with aer := p.aer ++ [cid.toNat] })))
      ∧ (4 ≤ (u.prt q.val).aer.length → exec (.asynchronousEventRequest q cid) s = .next (u.adminDone q.val cid.toNat 0x105 0))
      ∧ (∀ i k : BitVec 16, i.toNat ≠ 0 → exec (.nvmeAbort q cid i k) s = .next ((u.abortReach (nvPart q.val i.toNat) k.toNat none).1.adminDone q.val cid.toNat 0
        (if (u.abortReach (nvPart q.val i.toNat) k.toNat none).2 = 0 then 0 else 1)))
      ∧ (u.purge = none → exec (.mediaPurge q cid) s = .next { u with purge := some (nvPart q.val 0, cid.toNat), pwr.ready := false })
      ∧ (u.purge ≠ none → exec (.mediaPurge q cid) s = .next (u.adminDone q.val cid.toNat 0x082 0))))
    ∧ (s.purge = none → exec .mediaPurgeDone s = .next s)
    ∧ (∀ k : Nat, s.purge = some (nvPart q.val 0, k) → (s.dirty ≠ [] → exec .mediaPurgeDone s = .next s)
      ∧ (s.dirty = [] → s.updates = [] → ∃ z : State, exec .mediaPurgeDone s = .next (z.adminDone q.val k 0 0) ∧ z.purge = none ∧ z.holes = [] ∧ z.obj.slots = []))

/-- I/O commands, reservations and the stamp of a fetch. (R356, R360, R361, R363, R364, R365, R381) -/
def Obligations.NvmeIoCommandsAndReservations : Prop :=
  ∀ (s t : State) (q : Fin 2) (i cid : BitVec 16), s.nextTurn = some (t, nvPart q.val i.toNat) → i.toNat ≠ 0 →
    (∀ (x : State) (nsid : BitVec 32) (lba : BitVec 64) (nlb : BitVec 16) (f m : Bool) (l : List (BitVec 64 × BitVec 32)) (c : Cmd) (d : Instr),
      (d = .nvmeRead q i cid nsid lba nlb l ∧ c = s.nvCmd q.val i.toNat cid.toNat .read nsid.toNat lba.toNat nlb.toNat false (some (operandList l)))
        ∨ (d = .nvmeWrite q i cid nsid lba nlb f l ∧ c = s.nvCmd q.val i.toNat cid.toNat .write nsid.toNat lba.toNat nlb.toNat f (some (operandList l)))
        ∨ (d = .nvmeWriteZeroes q i cid nsid lba nlb f ∧ c = s.nvCmd q.val i.toNat cid.toNat .zeroes nsid.toNat lba.toNat nlb.toNat f none)
        ∨ (d = .nvmeCompare q i cid nsid lba nlb m l ∧ c = { s.nvCmd q.val i.toNat cid.toNat .compare nsid.toNat lba.toNat nlb.toNat false (some (operandList l)) with result := m.toNat })
        ∨ (d = .nvmeFlush q i cid nsid ∧ nsid.toNat ≠ 2 ^ 32 - 1 ∧ c = { newCmd (nvPart q.val i.toNat) cid.toNat .flush with ns := if s.nsidValid nsid.toNat then nsid.toNat - 1 else 0xFD, port := q.val }) →
      (t.admitCmd { c with pool := (t.nvSq q.val i.toNat).pool } (s.nsidValid nsid.toNat) (t.hostOf q.val) = (x, true) → exec d s =
        .next (((x.modCq q.val (t.nvSq q.val i.toNat).cq (fun y => { y with credits := y.credits + 1 })).modSq q.val i.toNat (fun y => { y with head := (y.head + 1) % max 1 y.size })).turnCount
          (nvPart q.val i.toNat)))
      ∧ (t.admitCmd { c with pool := (t.nvSq q.val i.toNat).pool } (s.nsidValid nsid.toNat) (t.hostOf q.val) = (x, false) → exec d s = .next x)
      ∧ (t.notReady = true → t.cmds.length < 65536 → (∀ k ∈ t.cmds, k.stamp ≠ t.fetchStamp.toNat) → (t.admitCmd { c with pool := (t.nvSq q.val i.toNat).pool } (s.nsidValid nsid.toNat) (t.hostOf q.val)).1.cmds =
        t.cmds ++ [{ c with pool := (t.nvSq q.val i.toNat).pool, stamp := t.fetchStamp.toNat, fails := [4] }]))
    ∧ (∀ (u : State) (nsid : BitVec 32) (c : Cmd), s.notReady = false → s.nsidValid nsid.toNat = true → t.cmds.length < 65536 → (∀ k ∈ t.cmds, k.stamp ≠ t.fetchStamp.toNat) →
      c = { newCmd (nvPart q.val i.toNat) cid.toNat .other with ns := nsid.toNat - 1, port := q.val, pool := (t.nvSq q.val i.toNat).pool, stamp := t.fetchStamp.toNat } →
      u = ((({ t with fetchStamp := t.fetchStamp + 1, cmds := t.cmds ++ [c] }.modCq q.val (t.nvSq q.val i.toNat).cq (fun y => { y with credits := y.credits + 1 })).modSq q.val i.toNat
        (fun y => { y with head := (y.head + 1) % max 1 y.size })).turnCount (nvPart q.val i.toNat)) →
      exec (.datasetManagement q i cid nsid) s = .next u
      ∧ (∀ (n k : BitVec 64) (b : Bool), (u.resvOf (nsid.toNat - 1)).keyOf (u.hostOf q.val) = none → (u.resvOf (nsid.toNat - 1)).regs.length < 32 →
        exec (.reservationRegister q i cid nsid 0 b 0 k n) s =
        .next ((u.modResv (nsid.toNat - 1) (fun x => { x with regs := x.regs ++ [{ host := u.hostOf q.val, ctrl := q.val + 1, key := n.toNat }] })).resvBump (nsid.toNat - 1)))
      ∧ (∀ (n k : BitVec 64) (b : Bool) (m : Nat), (u.resvOf (nsid.toNat - 1)).keyOf (u.hostOf q.val) = some m → m ≠ n.toNat → exec (.reservationRegister q i cid nsid 0 b 0 k n) s =
        .next (u.cmdFail t.fetchStamp.toNat 5 0))
      ∧ (∀ (k p : BitVec 64) (y : Fin 6), (u.resvOf (nsid.toNat - 1)).keyOf (u.hostOf q.val) = some k.toNat → (u.resvOf (nsid.toNat - 1)).holder = none →
        exec (.reservationAcquire q i cid nsid 0 (BitVec.ofNat 8 (y.val + 1)) k p) s = .next (u.modResv (nsid.toNat - 1) (fun x => { x with holder := some (u.hostOf q.val), type := y.val + 1 })))
      ∧ (∀ (k p : BitVec 64) (y : Fin 6), (u.resvOf (nsid.toNat - 1)).keyOf (u.hostOf q.val) ≠ some k.toNat →
        exec (.reservationAcquire q i cid nsid 0 (BitVec.ofNat 8 (y.val + 1)) k p) s = .next (u.cmdFail t.fetchStamp.toNat 5 0))
      ∧ (∀ (k : BitVec 64) (y : BitVec 8), (u.resvOf (nsid.toNat - 1)).keyOf (u.hostOf q.val) = some k.toNat → (u.resvOf (nsid.toNat - 1)).holder = some (u.hostOf q.val) →
        ((u.resvOf (nsid.toNat - 1)).type = y.toNat → exec (.reservationRelease q i cid nsid 0 y k) s = .next (u.resvFree q.val (nsid.toNat - 1)))
        ∧ ((u.resvOf (nsid.toNat - 1)).type ≠ y.toNat → exec (.reservationRelease q i cid nsid 0 y k) s = .next (u.cmdFail t.fetchStamp.toNat 0x102 0)))
      ∧ (∀ l : List (BitVec 64 × BitVec 32), exec (.reservationReport q i cid nsid true l) s = .next (u.hostPut q.val (operandList l) (u.resvBytes (nsid.toNat - 1)))
        ∧ exec (.reservationReport q i cid nsid false l) s = .next (u.cmdFail t.fetchStamp.toNat 0x104 0)))

/-- Queue doorbells, controller enable and the resets of a port. (R354, R360, R365, R383, R488) -/
def Obligations.NvmeQueuesAndPortResets : Prop :=
  ∀ (s : State) (q : Fin 2),
    (∀ (i : BitVec 16) (v : Word), (s.prt q.val).en = true → v.toNat % 65536 < (s.nvSq q.val i.toNat).size → exec (.nvmeSqDoorbell q i v) s =
      .next (s.modSq q.val i.toNat (fun y => { y with tail := v.toNat % 65536 })))
    ∧ (∀ (i : BitVec 16) (v : Word), (s.prt q.val).en = false ∨ (s.nvSq q.val i.toNat).size ≤ v.toNat % 65536 → exec (.nvmeSqDoorbell q i v) s = .next s)
    ∧ (∀ (i : BitVec 16) (v : Word) (c : NvCq) (n : Nat), (s.prt q.val).en = true → s.nvCq q.val i.toNat = c → c.holdback = [] → v.toNat % 65536 < c.size → c.head < 2 * c.size →
      n = (c.size + v.toNat % 65536 - c.head % c.size) % c.size → n ≠ 0 → n ≤ c.used →
      exec (.nvmeCqDoorbell q i v) s = .next (s.modCq q.val i.toNat (fun y => { y with head := (y.head + n) % (2 * y.size), credits := y.credits - n })))
    ∧ (∀ (i : BitVec 16) (v : Word), (s.prt q.val).en = false ∨ (s.nvCq q.val i.toNat).size ≤ v.toNat % 65536 → exec (.nvmeCqDoorbell q i v) s = .next s)
    ∧ (∀ (a c : BitVec 64) (m n : BitVec 12) (w : Bool), (s.prt q.val).linkUp = true → (s.prt q.val).en = false → (s.prt q.val).cfs = false → 8 ≤ s.pwr.startStep → m.toNat ≠ 0 → n.toNat ≠ 0 →
      ∃ t : State, exec (.nvmeControllerEnable q a c m n w) s = .next t ∧ (t.prt q.val).en = true ∧ (t.prt q.val).rdy = true ∧ (t.nvSq q.val 0) = { NvSq.none with base := a.toNat, size := m.toNat + 1 }
        ∧ (t.nvCq q.val 0) = { NvCq.none with base := c.toNat, size := n.toNat + 1 } ∧ t.wrr q.val = w ∧ ∀ p, p ≠ q.val → t.prt p = s.prt p)
    ∧ (∀ (a c : BitVec 64) (m n : BitVec 12) (w : Bool), (s.prt q.val).linkUp = false ∨ (s.prt q.val).en = true → exec (.nvmeControllerEnable q a c m n w) s = .next s)
    ∧ (∃ t : State, exec (.controllerReset q) s = .next t ∧ (t.prt q.val).en = false ∧ (t.prt q.val).rdy = false ∧ (t.prt q.val).sq = [] ∧ (t.prt q.val).cq = [] ∧ (t.prt q.val).aer = []
      ∧ (t.prt q.val).cfs = s.rb FC_STATUS_FATAL ∧ t.resv = s.resv ∧ t.mem = s.mem ∧ t.dirty = s.dirty ∧ t.fc = s.fc)
    ∧ (∃ t : State, exec (.functionLevelReset q) s = .next t ∧ (t.prt q.val).en = false ∧ (t.prt q.val).sq = [] ∧ (t.prt q.val).ats = false ∧ (t.prt q.val).pri = false ∧ (t.prt q.val).pasid = false
      ∧ (t.prt q.val).linkUp = (s.prt q.val).linkUp ∧ (∀ x, x ∈ t.dtu.atc → x.2.port ≠ q.val) ∧ t.resv = s.resv ∧ t.mem = s.mem)
    ∧ (∃ t : State, exec (.portLinkDown q) s = .next t ∧ (t.prt q.val).linkUp = false ∧ (t.prt q.val).en = false ∧ (t.prt q.val).sq = [] ∧ (t.prt q.val).alloc = 0 ∧ t.resv = s.resv ∧ t.mem = s.mem)

/-- An entry written from its fields is read back as those fields. (R370, R371, R372, R390, R399, R400) -/
def Obligations.EntriesReadBack : Prop :=
  ∀ (fua : Bool) (nsid : BitVec 8) (cid : BitVec 32) (lba : BitVec 48) (l : List (BitVec 64 × BitVec 32)), (∀ x ∈ l, 1 ≤ x.2.toNat ∧ x.2.toNat ≤ 16777216) →
    (∀ op count : Nat, op = 1 ∨ op = 2 → 1 ≤ l.length → l.length ≤ 14 → 1 ≤ count → count ≤ 65536 → listSum (operandList l) = 4096 * count →
      parseEntry (moveEntry op fua nsid.toNat cid.toNat lba.toNat count (operandList l)) = some (Entry.mk op (2 + l.length) fua nsid.toNat cid.toNat lba.toNat
        count (operandList l) (0, 0) none)
      ∧ entryOwn (moveEntry op fua nsid.toNat cid.toNat lba.toNat count (operandList l)) = true ∧ entryUnits (moveEntry op fua nsid.toNat cid.toNat lba.toNat count (operandList l)) = 2 + l.length)
    ∧ (∀ n : Fin 15, parseEntry (entryBytes 0 (n.val + 1) false 0 0 0 []) = some (Entry.mk 0 (n.val + 1) false 0 0 0 0 [] (0, 0) none))
    ∧ parseEntry (entryBytes 0x03 1 false nsid.toNat cid.toNat 0 []) = some (Entry.mk 3 1 false nsid.toNat cid.toNat 0 0 [] (0, 0) none)
    ∧ (∀ count : Nat, 1 ≤ count → count ≤ 65536 → parseEntry (entryBytes 0x04 2 fua nsid.toNat cid.toNat lba.toNat (leBytes 4 count ++ leBytes 12 0)) =
      some (Entry.mk 4 2 fua nsid.toNat cid.toNat lba.toNat count [] (0, 0) none))
    ∧ (∀ (r : BitVec 20) (x : BitVec 32), parseEntry (entryBytes 0x08 2 false 0 cid.toNat 0 (leBytes 4 r.toNat ++ leBytes 4 x.toNat ++ leBytes 8 0)) =
      some (Entry.mk 8 2 false 0 cid.toNat 0 0 [] (r.toNat, x.toNat) none))
    ∧ (∀ (op ofl len : Nat) (space : BitVec 8) (key : List Byte) (arg : BitVec 32), space.toNat ≠ 0 → 1 ≤ key.length → key.length ≤ 128 → 2 + (key.length + 15) / 16 + l.length ≤ 16 →
      (op = 0x40 ∧ ofl ≤ 2 ∧ len ≤ 16777216 ∧ (len = 0 → l = []) ∧ (len ≠ 0 → l ≠ [] ∧ listSum (operandList l) = len)) ∨ (op = 0x41 ∧ (ofl = 0 ∨ ofl = 2) ∧ len = 0 ∧ l ≠ [])
        ∨ (op = 0x42 ∧ (ofl = 0 ∨ ofl = 2) ∧ len = 0 ∧ l = []) ∨ (op = 0x43 ∧ ofl = 0 ∧ len = 0 ∧ l ≠ []) →
      parseEntry (objectEntry op fua cid.toNat space.toNat key ofl len arg.toNat (operandList l)) = some (Entry.mk op (2 + (key.length + 15) / 16 + l.length) fua 0 cid.toNat
        0 0 (operandList l) (0, 0) (some { space := space.toNat, key := key, oflags := ofl, valueLen := len, arg := arg.toNat, pasid := none, extents := [], checked := false, stage := 0 })))

/-- Fetches, prefetches, releases, completions and installs. (R370, R372, R373, R374, R376, R379, R381, R383, R384, R385, R386, R391) -/
def Obligations.RingEntriesAreFetchedAndFinished : Prop :=
  ∀ (s : State) (n : BitVec 20),
    (s.nextTurn = none → ∀ a, exec (.fetch a) s = .next s)
    ∧ (∀ t w : State, s.nextTurn = some (t, n.toNat) → w = { t with sr := tabMod .free t.sr n.toNat (fun r => { r with copies := r.copies.filter (fun c => c.1 != r.head) }) } →
      attrPasid (w.sring n.toNat).attr = none →
      (∀ (d : Instr) (bs : List Byte) (e : Entry) (x : State) (b : Bool),
        (∃ (nsid : BitVec 8) (cid : BitVec 32) (lba : BitVec 48) (k : BitVec 32) (l : List (BitVec 64 × BitVec 32)), d = .read n nsid cid lba k l ∧ l.length ≤ 14
            ∧ bs = moveEntry 0x01 false nsid.toNat cid.toNat lba.toNat k.toNat (operandList l))
          ∨ (∃ (nsid : BitVec 8) (cid : BitVec 32) (lba : BitVec 48) (k : BitVec 32) (f : Bool) (l : List (BitVec 64 × BitVec 32)), d = .write n nsid cid lba k f l ∧ l.length ≤ 14
            ∧ bs = moveEntry 0x02 f nsid.toNat cid.toNat lba.toNat k.toNat (operandList l))
          ∨ (∃ (nsid : BitVec 8) (cid : BitVec 32), d = .flush n nsid cid ∧ bs = entryBytes 0x03 1 false nsid.toNat cid.toNat 0 [])
          ∨ (∃ (nsid : BitVec 8) (cid : BitVec 32) (lba : BitVec 48) (k : BitVec 32) (f : Bool), d = .writeZeroes n nsid cid lba k f
            ∧ bs = entryBytes 0x04 2 f nsid.toNat cid.toNat lba.toNat (leBytes 4 k.toNat ++ leBytes 12 0))
          ∨ (∃ (cid : BitVec 32) (r : BitVec 20) (y : BitVec 32), d = .abort n cid r y ∧ bs = entryBytes 0x08 2 false 0 cid.toNat 0 (leBytes 4 r.toNat ++ leBytes 4 y.toNat ++ leBytes 8 0))
          ∨ (∃ (cid : BitVec 32) (f : Bool) (p : BitVec 8) (key : List Byte) (o : BitVec 16) (v y : BitVec 32) (l : List (BitVec 64 × BitVec 32)), 2 + (key.length + 15) / 16 + l.length ≤ 16
            ∧ ((d = .put n cid f p key o v y l ∧ bs = objectEntry 0x40 f cid.toNat p.toNat key o.toNat v.toNat y.toNat (operandList l))
              ∨ (d = .get n cid p key o y l ∧ bs = objectEntry 0x41 false cid.toNat p.toNat key o.toNat 0 y.toNat (operandList l))
              ∨ (d = .delete n cid f p key o y ∧ l = [] ∧ bs = objectEntry 0x42 f cid.toNat p.toNat key o.toNat 0 y.toNat [])
              ∨ (d = .list n cid p key y l ∧ bs = objectEntry 0x43 false cid.toNat p.toNat key 0 0 y.toNat (operandList l)))) →
        parseEntry bs = some e → entryUnits bs ≤ (w.sring n.toNat).covered → (w.sring n.toNat).head + entryUnits bs ≤ (w.sring n.toNat).n →
        w.admitCmd (w.ringCmd n.toNat e) (w.nsidOk e) (w.hostOf (attrPort (w.sring n.toNat).attr)) = (x, b) →
        exec d s = .next (if b then ((x.modCr (w.sring n.toNat).cr (fun c => { c with credits := c.credits + 1 })).passEntry n.toNat (entryUnits bs) (entryUnits bs - 1)).turnCount n.toNat else x))
      ∧ (∀ k : BitVec 4, k.toNat < 15 → k.toNat + 1 ≤ (w.sring n.toNat).covered →
        ((w.sring n.toNat).head + (k.toNat + 1) = (w.sring n.toNat).n → exec (.pad n k) s = .next (w.passEntry n.toNat (k.toNat + 1) k.toNat))
        ∧ ((w.sring n.toNat).head + (k.toNat + 1) < (w.sring n.toNat).n → exec (.pad n k) s = .next (w.entryFrozen n.toNat 0x03 0 0)))
      ∧ ((t.sring n.toNat).copies = [] → attrPasid (t.sring n.toNat).attr = none → exec (.fetch .fault) s = .next (t.entryFrozen n.toNat 0x07 0 0) ∧ exec (.fetch .ur) s = .next (t.entryFrozen n.toNat 0x06 2 0)
        ∧ exec (.fetch .poisoned) s = .next (t.entryFrozen n.toNat 0x06 5 0)
        ∧ ∀ bs : List Byte, entryOwn bs = false → exec (.fetch (.entry bs)) s = .next (t.entryFrozen n.toNat 0x04 0 (fieldAt bs 4 4))))
    ∧ (∀ (u : BitVec 16) (a : FetchAns), s.srEligible n.toNat = false → exec (.prefetch n u a) s = .next s)
    ∧ (∀ (u : BitVec 16) (bs : List Byte), s.srEligible n.toNat = true → u.toNat < (s.sring n.toNat).n → ((s.sring n.toNat).n + u.toNat - (s.sring n.toNat).head) % (s.sring n.toNat).n < (s.sring n.toNat).covered →
      exec (.prefetch n u (.entry bs)) s = .next ((s.modSr n.toNat (fun x => { x with copies := tabSet x.copies u.toNat bs })).prefetchRoom))
    ∧ ((s.sring n.toNat).release = [] → ∀ a, exec (.entryReleaseWrite n a) s = .next s)
    ∧ (∀ (x : Nat) (r : List Nat), (s.sring n.toNat).release = x :: r → (s.sring n.toNat).held = false →
      exec (.entryReleaseWrite n .ok) s = .next ((s.modSr n.toNat (fun y => { y with release := r })).emit
        (.hostWrite (attrPort (s.sring n.toNat).attr) ((s.sring n.toNat).base + 16 * (x / 16) + 1) (leBytes 1 (x % 16))))
      ∧ exec (.entryReleaseWrite n .fault) s = .next (s.freezeRing n.toNat 0x08 0 0))
    ∧ (∀ (k : BitVec 64) (a : WrAns), s.cmd k.toNat = none → exec (.commandFinish k a) s = .next s ∧ ∀ i, exec (.sectorInstall k i) s = .next s)
    ∧ (∀ (k : BitVec 64) (a : WrAns) (c : Cmd), s.cmd k.toNat = some c → c.origin < nSR →
      (s.cmdDone c = false → exec (.commandFinish k a) s = .next s)
      ∧ (s.cmdDone c = true → s.crTakes (s.sring c.origin).cr = true → exec (.commandFinish k a) s = .next (((s.cmdResult c).1.crPut (s.sring c.origin).cr
        { cid := c.cid, ring := c.origin, result := (s.cmdResult c).2, status := c.status, detail := if c.status = 6 then c.detail else 0, late := c.late } a).cmdFree c)))
    ∧ (∀ (c : Nat) (e : CqEnt), (s.cring c).st = 1 → (s.cring c).wait = false →
      ((s.cring c).holdback = [] → (s.cring c).used < (s.cring c).n → s.crPut c e .ok = s.crWrite c e)
      ∧ ((s.cring c).n ≤ (s.cring c).used → s.crPut c e .ok = s.modCr c (fun x => { x with holdback := x.holdback ++ [e] })))
    ∧ (∀ (k : BitVec 64) (i : BitVec 16) (c : Cmd), s.cmd k.toNat = some c → c.obj = none → c.op = .write → c.aborted = false →
      (i.toNat < c.count → s.mayInstall c i.toNat = true → exec (.sectorInstall k i) s = .next ((s.install c i.toNat).objAdvance))
      ∧ (s.mayInstall c i.toNat = false → exec (.sectorInstall k i) s = .next s))

/-- Doorbells, ring operations and the dispatch of sectors. (R369, R375, R377, R378, R379, R386, R388, R393, R394) -/
def Obligations.RingDoorbellsAndControls : Prop :=
  ∀ s : State,
    (∀ (n : BitVec 20) (v : Word) (b : Bool), (s.sring n.toNat).st = 1 →
      (v.toNat % 65536 < (s.sring n.toNat).n → exec (.srDoorbell n v b) s = .next (s.modSr n.toNat (fun x => { x with tail := v.toNat % 65536, full := v.toNat % 65536 == x.head && b })))
      ∧ ((s.sring n.toNat).n ≤ v.toNat % 65536 → exec (.srDoorbell n v b) s = .next (s.freezeRing n.toNat 0x05 0 0)))
    ∧ (∀ (n : BitVec 20) (v : Word) (b : Bool), (s.sring n.toNat).st = 0 → exec (.srDoorbell n v b) s = .next { s with dropped := s.dropped + 1 })
    ∧ (∀ (c : BitVec 18) (v : Word), (s.cring c.toNat).st = 0 → exec (.crHeadDoorbell c v) s = .next { s with crDoor := tabSet s.crDoor c.toNat (v.toNat % 2 ^ 17) })
    ∧ (∀ (c : BitVec 18) (v : Word) (h : Nat), (s.cring c.toNat).st = 1 → h = v.toNat % 65536 + v.toNat / 65536 % 2 * (s.cring c.toNat).n →
      ((s.cring c.toNat).n ≤ v.toNat % 65536 → exec (.crHeadDoorbell c v) s = .next ({ s with crDoor := tabSet s.crDoor c.toNat (v.toNat % 2 ^ 17) }.freezeCr c.toNat 0x0D))
      ∧ (v.toNat % 65536 < (s.cring c.toNat).n → (s.cring c.toNat).holdback = [] → (2 * (s.cring c.toNat).n + h - (s.cring c.toNat).head) % (2 * (s.cring c.toNat).n) ≤ (s.cring c.toNat).used →
        exec (.crHeadDoorbell c v) s = .next ({ s with crDoor := tabSet s.crDoor c.toNat (v.toNat % 2 ^ 17) }.modCr c.toNat
          (fun x => { x with head := h, credits := x.credits - (2 * (s.cring c.toNat).n + h - (s.cring c.toNat).head) % (2 * (s.cring c.toNat).n) }))))
    ∧ (∀ c : BitVec 18, ((s.cring c.toNat).signal = false → exec (.crVectorSignal c) s = .next s)
      ∧ ((s.cring c.toNat).signal = true → exec (.crVectorSignal c) s =
        .next ((s.modCr c.toNat (fun x => { x with signal := false })).emit (.port (attrPort (s.cring c.toNat).attr) "MSI-X" (s.cring c.toNat).vector))))
    ∧ (∀ j : Fin 2, s.rqIsCr j.val = false →
      ((s.sring (s.rqRing j.val)).st ≠ 0 → exec (.rqCreate j) s = .next (s.rqDone j.val 2))
      ∧ ((s.sring (s.rqRing j.val)).st = 0 → s.rqParamBad j.val = true → exec (.rqCreate j) s = .next (s.rqDone j.val 5))
      ∧ ((s.sring (s.rqRing j.val)).st = 0 → s.rqParamBad j.val = false → (s.cring (s.rf RQ_BIND_TARGET 0 j.val)).st ≠ 1 → exec (.rqCreate j) s = .next (s.rqDone j.val 6))
      ∧ ((s.sring (s.rqRing j.val)).st = 0 → s.rqParamBad j.val = false → (s.cring (s.rf RQ_BIND_TARGET 0 j.val)).st = 1 → ∃ t : State, exec (.rqCreate j) s = .next (t.rqDone j.val 0)
        ∧ t.sring (s.rqRing j.val) = { SubRing.free with st := 1, base := s.rqBase j.val, attr := s.rf RQ_ATTR_ATTR 0 j.val, cr := s.rf RQ_BIND_TARGET 0 j.val, size := s.rf RQ_CFG_SIZE_LOG2 0 j.val, pool := s.rf RQ_CFG_POOL 0 j.val, weight := max 1 (s.rf RQ_CFG_WEIGHT 0 j.val), burst := s.rf RQ_CFG_BURST 0 j.val + 1 }
        ∧ t.regs = s.regs)
      ∧ ((s.sring (s.rqRing j.val)).st = 0 → exec (.rqDelete j) s = .next (s.rqDone j.val 0))
      ∧ ((s.sring (s.rqRing j.val)).st = 3 → (s.sring (s.rqRing j.val)).code ≠ 0x0C → s.rb RQ_CTRL_SKIP 0 j.val = false → ∀ bs, ∃ t : State, exec (.rqRestart j bs) s = .next t
        ∧ (t.sring (s.rqRing j.val)).st = 1 ∧ (t.sring (s.rqRing j.val)).code = 0 ∧ (t.sring (s.rqRing j.val)).head = (s.sring (s.rqRing j.val)).head ∧ t.rf RQ_STATUS_RESULT 0 j.val = 0)
      ∧ ((s.sring (s.rqRing j.val)).st ≠ 3 → ∀ bs, exec (.rqRestart j bs) s = .next ((s.wb RQ_CTRL_RESTART false 0 j.val).rqDone j.val 3))
      ∧ exec (.rqFreeze j) s = .next ((s.freezeRing (s.rqRing j.val) 0x0A 0 0).rqDone j.val 0)
      ∧ ((s.sring (s.rqRing j.val)).st = 1 → attrPrefetch (s.rf RQ_ATTR_ATTR 0 j.val) ≤ 8 → exec (.rqUpdate j) s =
        .next ((s.modSr (s.rqRing j.val) (fun r => { r with upd := some (max 1 (s.rf RQ_CFG_WEIGHT 0 j.val), s.rf RQ_CFG_BURST 0 j.val + 1, attrPrefetch (s.rf RQ_ATTR_ATTR 0 j.val)) })).rqDone j.val 0)))
    ∧ (∀ j : Fin 2, s.rqIsCr j.val = true → s.rqRing j.val < nCR → s.sr.any (fun p => p.2.cr == s.rqRing j.val && p.2.st != 0) = true → exec (.rqDelete j) s = .next (s.rqDone j.val 4))
    ∧ (∀ j : Fin 2, s.rqIsCr j.val = true → s.rqRing j.val < nCR → exec (.rqFreeze j) s = .next ((s.freezeCr (s.rqRing j.val) 0x0A).rqDone j.val 0))
    ∧ (∀ (n code : Nat), (s.sring n).st = 1 → ∃ u : State, s.freezeRing n code 0 0 = u.report (srcId HST 4 code) n 0 ∧ (u.sring n).st = 3 ∧ (u.sring n).code = code ∧ (u.sring n).errHead = (s.sring n).head
      ∧ (u.sring n).copies = [] ∧ u.cmds = s.cmds)
    ∧ (∀ (a : Act) (x : BitVec 32), (∀ c ∈ s.sched, c.act ≠ a.val) → exec (.sectorDispatch a x) s = .next s)
    ∧ (∀ (a : Act) (x : BitVec 32) (c : SecCmd) (k : Seek) (n : Nat), s.sched = [c] → c.act = a.val → c.write = true → s.act a.val = 4 → (s.sv a.val).seek = some k → k.cyl = c.cyl →
      s.headChan a.val c.head = some n → s.slotUsable n = true → (k.heads.map Prod.fst).contains c.head = true → (s.ch n).fifo.length < 8 →
      exec (.sectorDispatch a x) s = .next { (s.modCh n (fun y => { y with fifo := y.fifo ++ [c] })) with sched := [] })

/-- Checks of object commands, compaction, load and reload of the index. (R396, R398, R402, R403, R404, R405, R407) -/
def Obligations.ObjectsCompactLoadAndReload : Prop :=
  ∀ s : State,
    (∀ (c : Cmd) (o : ObjCmd) (t : State), t = s.modObj c.stamp (fun x => { x with checked := true }) →
      (s.objStripes ≠ 0 → s.obj.loaded = false → s.objCheck c o = t.cmdFail c.stamp 0x04 0)
      ∧ (s.objStripes = 0 → s.objCheck c o = (t.cmdFail c.stamp 0x04 0).cmdFail c.stamp 0x28 0)
      ∧ (s.objState = 2 → s.objDenied c.op o = true → s.objCheck c o = t.cmdFail c.stamp 0x27 0)
      ∧ (s.objState = 2 → s.objDenied c.op o = false → c.op = .get ∨ c.op = .delete →
        (s.keySlot (s.bucketOf o.space o.key) o.space o.key = none → s.objCheck c o = t.cmdFail c.stamp 0x20 0)
        ∧ (∀ (k : Nat) (v : ObjSlot), s.keySlot (s.bucketOf o.space o.key) o.space o.key = some (k, v) → bitOf o.oflags 1 = true → v.gen % 2 ^ 32 ≠ o.arg → s.objCheck c o = t.cmdFail c.stamp 0x22 0)))
    ∧ (∀ p : Fin 16, s.objState ≠ 2 ∨ s.compactStripe = none → exec (.objectCompact p) s = .next s)
    ∧ (∀ (p : Fin 16) (k : Nat), s.bgHeld = false → s.objState = 2 → s.compactStripe = some k → s.cmds = [] → exec (.objectCompact p) s =
      .next ((s.obj.slots.filter (fun x => x.2.extents.any (fun e => (extentParts s.geoD e).any (fun q => q.1 == k)))).foldl (fun u x => u.compactMove p.val (x.1 / 32) x.2) s))
    ∧ (∀ l : List (BitVec 18), s.objStripes = 0 ∨ s.obj.loaded = true ∨ s.pwr.startStep < 11 → exec (.objectIndexLoad l) s = .next s)
    ∧ (s.objStripes ≠ 0 → s.obj.loaded = false → 11 ≤ s.pwr.startStep → ∃ t : State, exec (.objectIndexLoad []) s = .next t.objAdvance ∧ t.obj.slots = s.obj.media ∧ t.obj.media = s.obj.media
      ∧ t.obj.loaded = true ∧ t.objState = 2 ∧ t.fc = s.fc)
    ∧ (∀ b : BitVec 18, s.obj.pend = [] → ∃ u : List (Nat × ObjSlot), exec (.bucketReload b) s = .next { (s.report (srcId HST 6 33) b.toNat b.toNat) with obj.slots := u }
      ∧ ∀ k, k / 32 ≠ b.toNat → tabFind u k = tabFind s.obj.slots k)

/-- Register reads and writes: values, frames, waits and bus errors. (R7, R408, R409, R411, R412, R415, R416, R417, R418, R423) -/
def Obligations.RegisterAccesses : Prop :=
  ∀ (s : State) (q : Fin 8) (off : BitVec 24) (v : Word),
    (∀ w, tabFind s.crossing q.val = some w → ∀ n, exec (.registerWrite q off v n) s = .next s ∧ exec (.registerRead q off n) s = .next s)
    ∧ (tabFind s.crossing q.val = none →
      (∀ n, n ≠ 4 ∨ off.toNat % 4 ≠ 0 → exec (.registerWrite q off v n) s = .next ((s.busError q.val off.toNat 2 true).busReply q.val 2 true)
        ∧ exec (.registerRead q off n) s = .next ((s.busError q.val off.toNat 2 false).busReply q.val 2 false))
      ∧ (off.toNat % 4 = 0 →
        (s.area18 off.toNat = .unassigned → exec (.registerWrite q off v 4) s = .next ((s.busError q.val off.toNat 1 true).busReply q.val 1 true)
          ∧ exec (.registerRead q off 4) s = .next ((s.busError q.val off.toNat 1 false).busReply q.val 1 false))
        ∧ (∀ r o, s.area18 off.toNat = .control r o → exec (.registerWrite q off v 4) s = .next ((s.busError q.val off.toNat 3 true).busReply q.val 3 true)
          ∧ (q.val ≠ 2 → s.dom domSYS = 3 → exec (.registerRead q off 4) s = .next ((s.clearRc (ctlFields r o)).emit (.bus q.val 0 (s.wordAt (ctlFields r o))))))
        ∧ (∀ r o b, s.area18 off.toNat = .bits r o b → q.val ≠ 2 → s.dom domSYS = 3 →
          exec (.registerRead q off 4) s = .next (s.emit (.bus q.val 0 (s.wordAt (ctlFields r o) / 2 ^ b % 2))))
        ∧ (∀ r o h, s.area18 off.toNat = .masked r o h → q.val ≠ 2 → s.dom domSYS = 3 →
          exec (.registerRead q off 4) s = .next (s.emit (.bus q.val 0 (s.wordAt (ctlFields r o) / 2 ^ (16 * h) % 65536))))
        ∧ (∀ a d, s.area18 off.toNat = .block a d →
          (s.wrEn q.val (a / 0x200000) = false → exec (.registerWrite q off v 4) s = .next ((s.busError q.val off.toNat 5 true).busReply q.val 5 true))
          ∧ (s.dom d ≠ 3 → d ≠ domAON → s.pwr.kind = .exit →
            (s.wrEn q.val (a / 0x200000) = true → exec (.registerWrite q off v 4) s = .next { s with crossing := tabSet s.crossing q.val { off := off.toNat, wr := some v.toNat } })
            ∧ exec (.registerRead q off 4) s = .next { s with crossing := tabSet s.crossing q.val { off := off.toNat, wr := none } })
          ∧ (s.dom d ≠ 3 → d ≠ domAON → s.pwr.kind ≠ .exit →
            (s.wrEn q.val (a / 0x200000) = true → exec (.registerWrite q off v 4) s = .next ((s.busError q.val off.toNat 6 true).busReply q.val 6 true))
            ∧ exec (.registerRead q off 4) s = .next ((s.busError q.val off.toNat 6 false).busReply q.val 6 false))
          ∧ (s.domRising d = false → s.domOff a d = false → s.wrEn q.val (a / 0x200000) = true →
            (s.commitBusy = true → (fieldsAt q.val a).any (fun p => p.1.acc == .rwc) = true → exec (.registerWrite q off v 4) s = .next ((s.busError q.val off.toNat 8 true).busReply q.val 8 true))
            ∧ (s.commitBusy = false → q.val ≠ 2 → a ≠ 0x16000 → ∃ t : State, exec (.registerWrite q off v 4) s = .next (s.regOp t q.val a v.toNat)
              ∧ { t with regs := s.regs } = s
              ∧ (∀ k, (∀ p ∈ fieldsAt q.val a, p.1.key p.2.1 p.2.2 ≠ k) → tabFind t.regs k = tabFind s.regs k)
              ∧ (((fieldsAt q.val a).map (fun p => p.1.key p.2.1 p.2.2)).Nodup → ∀ p ∈ fieldsAt q.val a,
                (p.1.acc = .ro ∨ p.1.acc = .wo ∨ p.1.acc = .w1s ∨ p.1.acc = .rc → t.rf p.1 p.2.1 p.2.2 = s.rf p.1 p.2.1 p.2.2)
                ∧ (p.1.acc = .rw → p.1.lo + p.1.width ≤ 32 → a ≠ 0x1800C → ¬ (0x450100 ≤ a ∧ a < 0x454000) → t.rf p.1 p.2.1 p.2.2 = v.toNat / 2 ^ p.1.lo % 2 ^ p.1.width))))
          ∧ (q.val ≠ 2 → s.domRising d = false → s.domOff a d = false → exec (.registerRead q off 4) s = .next ((s.clearRc (fieldsAt q.val a)).emit (.bus q.val 0 (s.wordAt (fieldsAt q.val a))))
            ∧ { s.clearRc (fieldsAt q.val a) with regs := s.regs } = s
            ∧ (((fieldsAt q.val a).map (fun p => p.1.key p.2.1 p.2.2)).Nodup → ∀ p ∈ fieldsAt q.val a,
              (s.clearRc (fieldsAt q.val a)).rf p.1 p.2.1 p.2.2 = if p.1.acc = .rc then 0 else s.rf p.1 p.2.1 p.2.2)))))
    ∧ (tabFind s.crossing q.val = none → exec (.registerAccessTimeout q) s = .next s)
    ∧ (∀ w, tabFind s.crossing q.val = some w → exec (.registerAccessTimeout q) s =
      .next (({ s with crossing := tabDel s.crossing q.val }.busError q.val w.off 7 w.wr.isSome).busReply q.val 7 w.wr.isSome))
    ∧ (∀ (o c : Nat) (wr : Bool), ∃ u : State, s.busError q.val o c wr = u.report (srcId SYS 18 c) q.val o ∧ { u with regs := s.regs } = s
      ∧ u.rf REG_ERR_INFO_COUNT = min (s.rf REG_ERR_INFO_COUNT + 1) (2 ^ REG_ERR_INFO_COUNT.width - 1)
      ∧ (s.rf REG_ERR_INFO_COUNT = 0 → u.rf REG_ERR_ADDR_ADDR = o % 2 ^ 24 ∧ u.rf REG_ERR_INFO_REQ = q.val ∧ u.rf REG_ERR_INFO_CAUSE = c % 2 ^ REG_ERR_INFO_CAUSE.width ∧ u.rb REG_ERR_INFO_WRITE = wr)
      ∧ (s.rf REG_ERR_INFO_COUNT ≠ 0 → u.rf REG_ERR_ADDR_ADDR = s.rf REG_ERR_ADDR_ADDR ∧ u.rf REG_ERR_INFO_CAUSE = s.rf REG_ERR_INFO_CAUSE))

/-- Bit-alias and masked writes, the mailbox and the commit. (R412, R413, R414, R415, R419, R420, R421, R422, R423, R424) -/
def Obligations.WindowsMailboxAndCommit : Prop :=
  ∀ (s : State) (q : Fin 8) (v : Word),
    (∀ (r : Fin 5) (o : BitVec 13) (b : Fin 32) (h : Fin 2),
      s.area18 (aliasAddr r.val (4 * o.toNat) b.val) = .bits r.val (4 * o.toNat) b.val ∧ s.area18 (maskedAddr r.val (4 * o.toNat) h.val) = .masked r.val (4 * o.toNat) h.val
      ∧ (q.val ≠ 2 → s.dom domSYS = 3 → o = 1 ∨ s.wrEn q.val r.val = true →
        (s.mode = modeService → exec (.bitAliasWrite q r o b v) s = .next (s.ctlWrite r.val (4 * o.toNat) (v.toNat % 2 * 2 ^ b.val) (2 ^ b.val))
          ∧ exec (.maskedWrite q r o h v) s = .next ((s.busError q.val (maskedAddr r.val (4 * o.toNat) h.val) 4 true).busReply q.val 4 true))
        ∧ (s.mode ≠ modeService → exec (.maskedWrite q r o h v) s = .next (s.ctlWrite r.val (4 * o.toNat) (v.toNat % 65536 * 2 ^ (16 * h.val)) (v.toNat / 65536 * 2 ^ (16 * h.val)))
          ∧ exec (.bitAliasWrite q r o b v) s = .next ((s.busError q.val (aliasAddr r.val (4 * o.toNat) b.val) 4 true).busReply q.val 4 true)))
      ∧ (s.mode = modeService → o ≠ 1 → s.wrEn q.val r.val = false →
        exec (.bitAliasWrite q r o b v) s = .next ((s.busError q.val (aliasAddr r.val (4 * o.toNat) b.val) 5 true).busReply q.val 5 true)))
    ∧ (∀ (r o w m : Nat), { s.ctlWrite r o w m with regs := s.regs } = s
      ∧ (∀ k, (∀ p ∈ ctlFields r o, p.1.key p.2.1 p.2.2 ≠ k) → tabFind (s.ctlWrite r o w m).regs k = tabFind s.regs k))
    ∧ (∀ r : Fin 5, s.mode ≠ modeService → (s.ctlWrite r.val 4 (v.toNat % 65536) (v.toNat / 65536)).rf REGION_WR_EN_REQ r.val =
      Nat.xor (Nat.land (s.rf REGION_WR_EN_REQ r.val) (Nat.xor (v.toNat / 65536 % 256) 255)) (Nat.land (v.toNat % 65536 % 256) (v.toNat / 65536 % 256)))
    ∧ (∀ late : Bool, (s.rb MBX_STATUS_BUSY q.val = true → exec (.mbxGo q late) s = .next s)
      ∧ (s.rb MBX_STATUS_BUSY q.val = false → ∃ t : State, exec (.mbxGo q late) s = .next t ∧ t.rf MBX_STATUS_RESULT q.val = s.mbxResult q.val (s.rf MBX_CTRL_WID q.val) (s.rb MBX_CTRL_WRITE q.val) late
        ∧ t.rb MBX_STATUS_BUSY q.val = false ∧ { t with regs := s.regs, flipMask := s.flipMask } = s
        ∧ (t.rf MBX_STATUS_RESULT q.val = 0 → s.rb MBX_CTRL_WRITE q.val = false → t.mbxData q.val = s.wideVal (s.rf MBX_CTRL_WID q.val) ∧ t.rb MBX_STATUS_VALID q.val = true ∧ t.flipMask = s.flipMask)
        ∧ (t.rf MBX_STATUS_RESULT q.val = 0 → s.rb MBX_CTRL_WRITE q.val = true → t.flipMask = BitVec.ofNat 72 (s.mbxData q.val) ∧ t.rb MBX_STATUS_VALID q.val = false)
        ∧ (t.rf MBX_STATUS_RESULT q.val ≠ 0 → t.mbxData q.val = s.mbxData q.val ∧ t.flipMask = s.flipMask ∧ t.rb MBX_STATUS_VALID q.val = false)))
    ∧ (s.commitBusy = true → exec (.cfgCommitGo q) s = .next s ∧ exec (.cfgDiscard q) s = .next s)
    ∧ (s.commitBusy = false → ∃ t : State, exec (.cfgCommitGo q) s = .next t ∧ t.rf CFG_STATUS_STATE = 1 ∧ t.rf CFG_STATUS_REQ = q.val ∧ t.rb CFG_STATUS_DONE = false ∧ t.rb CFG_STATUS_REFUSED = false
      ∧ t.rb CFG_STATUS_BOOT = false ∧ { t with regs := s.regs, commitBoot := s.commitBoot } = s)
    ∧ (s.rf CFG_STATUS_STATE ≠ 1 → exec .cfgChecksDone s = .next s)
    ∧ (s.rf CFG_STATUS_STATE = 1 → s.commitBoot = false → ∃ t : State, exec .cfgChecksDone s = .next t
      ∧ (s.rb CFG_CTRL_CRC_REQ = true → s.cfgCrc % 2 ^ 32 ≠ s.rf CFG_CRC_EXPECT_CRC (s.rf CFG_STATUS_REQ) → t.rb CFG_STATUS_REFUSED = true ∧ t.rb CFG_STATUS_CRC_BAD = true
        ∧ t.rf CFG_STATUS_REASON = 1 ∧ t.rf CFG_STATUS_STATE = 0 ∧ t.odRun = s.odRun ∧ t.regsRun = s.regsRun ∧ t.od = s.od)
      ∧ (s.rb CFG_CTRL_CRC_REQ = false → ∀ r ix sub a, (s.wf CFG_CRC_STAGED_CRC s.cfgCrc).commitChecks = some (r, ix, sub, a) → t.rb CFG_STATUS_REFUSED = true ∧ t.rf CFG_STATUS_REASON = r % 256
        ∧ t.failIndex = ix ∧ t.failSub = sub ∧ t.rf CFG_STATUS_STATE = 0 ∧ t.odRun = s.odRun ∧ t.regsRun = s.regsRun)
      ∧ (s.rb CFG_CTRL_CRC_REQ = false → (s.wf CFG_CRC_STAGED_CRC s.cfgCrc).commitChecks = none → s.odGet 0xC050 1 = s.odInForce 0xC050 1 → s.odGet 0xC050 2 = s.odInForce 0xC050 2 →
        t.odRun = s.od ∧ t.regsRun = (s.wf CFG_CRC_STAGED_CRC s.cfgCrc).regs.filter (fun p => rwcKey p.1) ∧ t.odPending = [] ∧ t.rf CFG_STATUS_STATE = 2 ∧ t.rf CFG_STATUS_REASON = 0
        ∧ t.rf CFG_CRC_RUNNING_CRC = s.cfgCrc % 2 ^ 32))
    ∧ (s.rf CFG_STATUS_STATE ≠ 2 → exec .cfgMramWritten s = .next s)
    ∧ (s.rf CFG_STATUS_STATE = 2 → ∃ t : State, exec .cfgMramWritten s = .next t ∧ t.storeValid = true ∧ t.storeRegs = s.regsRun ∧ t.storeGen = s.storeGen + 1 ∧ t.rf CFG_STATUS_STATE = 0
      ∧ t.rb CFG_STATUS_DONE = true ∧ t.store = s.saveStore.store ∧ t.odRun = s.odRun ∧ t.od = s.od)
    ∧ (s.commitBusy = false → (s.odRun.map Prod.fst).Nodup → ∃ t : State, exec (.cfgDiscard q) s = .next t ∧ { t with od := s.od, regs := s.regs } = s
      ∧ ∀ (ix : BitVec 16) (sub : BitVec 8), t.odGet ix.toNat sub.toNat = if isRwc ix.toNat sub.toNat = true then s.odInForce ix.toNat sub.toNat else s.odGet ix.toNat sub.toNat)

/-- Writes of the object dictionary: the order of the checks, what is stored, COMMIT and the register gateway. (R425, R426, R427, R428, R429, R431, R432, R434, R436, R476, R515) -/
def Obligations.DictionaryAccesses : Prop :=
  ∀ (s : State) (src : Fin 16) (ix : BitVec 16) (sub : BitVec 8) (v : List Byte),
    (s.odRuns = false → exec (.dictionaryWrite src ix sub v) s = .next s ∧ ∀ (b : BitVec 8) (w : Option Word), exec (.commit src b) s = .next s ∧ exec (.powerCmd src b) s = .next s
      ∧ exec (.modeReq src b) s = .next s ∧ exec (.registerGatewayData src w) s = .next s)
    ∧ (s.odRuns = true → s.sec.sw = none → ¬ (ix = 0x2002 ∧ sub = 2) → (s.ent 0xB040 3 = 1 → formatEntry ix.toNat sub.toNat = false) →
      (odHighest ix.toNat = none → exec (.dictionaryWrite src ix sub v) s = .next (s.emit (.od src.val 1 [])))
      ∧ (odHighest ix.toNat ≠ none → s.odEntry ix.toNat sub.toNat = none → exec (.dictionaryWrite src ix sub v) s = .next (s.emit (.od src.val 2 [])))
      ∧ (∀ r, odHighest ix.toNat ≠ none → s.odEntry ix.toNat sub.toNat = some r →
        (s.srcRole src.val < odNeedRole ix.toNat r true → exec (.dictionaryWrite src ix sub v) s = .next (s.emit (.od src.val 3 [])))
        ∧ (odNeedRole ix.toNat r true ≤ s.srcRole src.val → s.srcRole src.val ≠ 0 →
          (r.acc = .const ∨ r.acc = .ro → exec (.dictionaryWrite src ix sub v) s = .next (s.emit (.od src.val 4 [])))
          ∧ (r.acc = .rws → s.mode = modeService → exec (.dictionaryWrite src ix sub v) s = .next (s.emit (.od src.val 6 [])))
          ∧ (r.acc = .rwc → s.commitBusy = true → exec (.dictionaryWrite src ix sub v) s = .next (s.emit (.od src.val 7 [])))
          ∧ (r.acc = .rwc → s.commitBusy = false → r.ty.isNum = true → v.length ≠ r.ty.len → exec (.dictionaryWrite src ix sub v) s = .next (s.emit (.od src.val 8 [])))))
      ∧ (∀ r, s.odEntry ix.toNat sub.toNat = some r → s.odWriteStatus (s.srcRole src.val) ix.toNat sub.toNat v false = 0 → r.perSrc = false → r.ty.isNum = true →
        (r.acc = .rwc → exec (.dictionaryWrite src ix sub v) s = .next ({ s with od := tabSet s.od (odKey ix.toNat sub.toNat) (.num (leNat v)) }.emit (.od src.val 0 [])))
        ∧ (r.acc = .rws → ∃ t : State, exec (.dictionaryWrite src ix sub v) s = .next t ∧ t.odGet ix.toNat sub.toNat = .num (leNat v) ∧ t.odRun = s.odRun ∧ t.regs = s.regs
          ∧ (∀ k, k ≠ odKey ix.toNat sub.toNat → tabFind t.od k = tabFind s.od k ∧ tabFind t.store k = tabFind s.store k)
          ∧ t.store = (if r.p then tabSet s.store (odKey ix.toNat sub.toNat) (.num (leNat v)) else s.store)
          ∧ (odKey ix.toNat sub.toNat ∈ t.odPending ↔ r.chk = true ∨ odKey ix.toNat sub.toNat ∈ s.odPending))))
    ∧ (s.odRuns = true → ∀ b : BitVec 8,
      (∀ i j f g, (i, j, f, g) = (0x2001, 1, Instr.commit src b, s.odCommit src.val b.toNat) ∨ (i, j, f, g) = (0x2020, 2, Instr.powerCmd src b, s.pwrRequest b.toNat)
          ∨ (i, j, f, g) = (0xB003, 1, Instr.modeReq src b, s.modeReq b.toNat) →
        (s.odWriteStatus (s.srcRole src.val) i j [b] false = 0 → exec f s = .next (g.emit (.od src.val 0 [])))
        ∧ (s.odWriteStatus (s.srcRole src.val) i j [b] false ≠ 0 → exec f s = .next (s.emit (.od src.val (s.odWriteStatus (s.srcRole src.val) i j [b] false) []))))
      ∧ s.odCommit src.val 1 = (s.wf CFG_CRC_EXPECT_CRC (s.src 0x2001 2 src.val 0) 2).commitGo 2 ∧ (s.commitBusy = false → s.odCommit src.val 2 = s.discard))
    ∧ (s.odRuns = true → s.srcRole src.val = 3 → ∀ r : Answer18,
      (r = s.regRead 2 (s.gwOffset src.val) 4 →
        (r.waits = false → r.cause = 0 → exec (.registerGatewayData src none) s = .next (r.st.emit (.od src.val 0 (leBytes 4 r.value))))
        ∧ (r.waits = false → r.cause ≠ 0 → exec (.registerGatewayData src none) s = .next ((s.busError 2 (s.gwOffset src.val) r.cause false).emit (.od src.val (gwStatus r.cause) [])))
        ∧ (r.waits = true → exec (.registerGatewayData src none) s = .next { s with crossing := tabSet s.crossing 2 { off := s.gwOffset src.val, wr := none }, odWait := some (.raw src.val, false) }))
      ∧ (∀ w : Word, r = s.regDo 2 (s.gwOffset src.val) 4 w.toNat →
        (r.waits = false → r.cause = 0 → exec (.registerGatewayData src (some w)) s = .next (r.st.emit (.od src.val 0 [])))
        ∧ (r.waits = false → r.cause ≠ 0 → exec (.registerGatewayData src (some w)) s = .next ((s.busError 2 (s.gwOffset src.val) r.cause true).emit (.od src.val (gwStatus r.cause) [])))))
    ∧ (s.odRuns = true → s.srcRole src.val < 3 → s.srcRole src.val ≠ 0 → ∀ w, exec (.registerGatewayData src w) s = .next (s.emit (.od src.val 3 [])))

/-- The host path to the dictionary and the release of an idle assembly buffer. (R443, R453, R454) -/
def Obligations.HostPathAndBuffers : Prop :=
  ∀ (s : State) (q : Fin 8),
    (q.val = 2 → exec (.odRead q) s = .next s ∧ exec (.odWrite q) s = .next s ∧ exec (.odInfo q) s = .next s)
    ∧ (q.val ≠ 2 → s.rb OD_STATUS_BUSY q.val = true ∨ s.odRuns = false → exec (.odRead q) s = .next (s.wf OD_CTRL_OP 0 q.val) ∧ exec (.odWrite q) s = .next (s.wf OD_CTRL_OP 1 q.val)
      ∧ exec (.odInfo q) s = .next (s.wf OD_CTRL_OP 2 q.val))
    ∧ (∀ t : State, q.val ≠ 2 → s.rb OD_STATUS_BUSY q.val = false → s.odRuns = true → s.sec.sw = none → t = (s.wf OD_CTRL_OP 0 q.val).wb OD_STATUS_DONE false q.val →
      (s.rb OD_CTRL_FIRST q.val = true → s.rf OD_OFFSET_OFFSET q.val ≠ 0 → exec (.odRead q) s = .next (t.hostDone q.val 0x10 []))
      ∧ (s.rb OD_CTRL_FIRST q.val = false → s.asmOf (hostSrc q.val) = none → exec (.odRead q) s = .next (t.hostDone q.val 0x10 []))
      ∧ (∀ (r : State) (n : Nat) (v : List Byte), s.rb OD_CTRL_FIRST q.val = true → s.rf OD_OFFSET_OFFSET q.val = 0 → v.length ≤ 1024 →
        t.odReadReq (hostSrc q.val) (s.rf OD_ADDR_INDEX q.val) (s.rf OD_ADDR_SUBINDEX q.val) (s.rb OD_CTRL_RUNNING q.val) false (.host q.val) = (r, some (n, v)) → n < 256 → (n ≠ 0 → v = []) →
        ∃ u : State, exec (.odRead q) s = .next u ∧ u.rf OD_STATUS_STATUS q.val = n ∧ u.rf OD_STATUS_RLEN q.val = v.length ∧ u.hostPart q.val v.length = v ∧ u.rb OD_STATUS_DONE q.val = true
          ∧ u.rb OD_STATUS_BUSY q.val = false ∧ (n = 0 → u.rf OD_TOTAL_TOTAL q.val = v.length) ∧ { u with regs := r.regs } = r))
    ∧ (∀ t : State, q.val ≠ 2 → s.rb OD_STATUS_BUSY q.val = false → s.odRuns = true → s.sec.sw = none → t = (s.wf OD_CTRL_OP 1 q.val).wb OD_STATUS_DONE false q.val →
      (1024 < s.rf OD_LEN_LEN q.val → exec (.odWrite q) s = .next (t.hostDone q.val 0x08 []))
      ∧ (s.rf OD_LEN_LEN q.val ≤ 1024 → s.rb OD_CTRL_FIRST q.val = true → s.rf OD_OFFSET_OFFSET q.val ≠ 0 → exec (.odWrite q) s = .next (t.hostDone q.val 0x10 []))
      ∧ (∀ (r : State) (n : Nat), s.rf OD_LEN_LEN q.val ≤ 1024 → s.rb OD_CTRL_FIRST q.val = true → s.rb OD_CTRL_LAST q.val = true → s.rf OD_OFFSET_OFFSET q.val = 0 → s.asmOf (hostSrc q.val) = none →
        t.odWriteReq (hostSrc q.val) (s.rf OD_ADDR_INDEX q.val) (s.rf OD_ADDR_SUBINDEX q.val) (s.hostPart q.val (s.rf OD_LEN_LEN q.val)) (.host q.val) = (r, some (n, [])) →
        exec (.odWrite q) s = .next (r.hostDone q.val n [])))
    ∧ (∀ t : State, q.val ≠ 2 → s.rb OD_STATUS_BUSY q.val = false → s.odRuns = true → t = (s.wf OD_CTRL_OP 2 q.val).wb OD_STATUS_DONE false q.val →
      s.odPre (s.srcRole (hostSrc q.val)) (s.rf OD_ADDR_INDEX q.val) (s.rf OD_ADDR_SUBINDEX q.val) false false = 0 → s.odPost (s.rf OD_ADDR_INDEX q.val) (s.rf OD_ADDR_SUBINDEX q.val) false = 0 →
      exec (.odInfo q) s = .next (t.hostDone q.val 0 (s.odInfo (s.rf OD_ADDR_INDEX q.val) (s.rf OD_ADDR_SUBINDEX q.val)))
        ∧ (s.odInfo (s.rf OD_ADDR_INDEX q.val) (s.rf OD_ADDR_SUBINDEX q.val)).length = 8)
    ∧ (∀ b : Fin 4, (tabFind s.asm b.val = none → exec (.assemblyBufferIdle b) s = .next s)
      ∧ (∀ a, tabFind s.asm b.val = some a → a.write = false ∨ a.src < 8 → exec (.assemblyBufferIdle b) s = .next { s with asm := tabDel s.asm b.val })
      ∧ (∀ (a : Asm) (x : Session), tabFind s.asm b.val = some a → a.write = true → 8 ≤ a.src → tabFind s.zl.sessions (a.src - 8) = some x →
        ∃ t : State, exec (.assemblyBufferIdle b) s = .next t ∧ t.asm = tabDel s.asm b.val ∧ t.out.head? = some (.zalene 0x25 x.number ((x.txSeq + 1) % 2 ^ 32) 0x10 (leBytes 4 a.data.length ++ leBytes 4 0))
          ∧ t.regs = s.regs ∧ t.od = s.od))

/-- Discovery, handshakes, sessions, failed MACs, neighbours and WAKE on the Zalene link. (R438, R439, R441, R442, R443, R445, R446, R452, R480) -/
def Obligations.ZaleneSessions : Prop :=
  ∀ (s : State),
    (s.zlOn = false → exec .discover s = .next s ∧ exec .announce s = .next s ∧ exec .duplicateNode s = .next s
      ∧ (∀ k r c n, exec (.sessionInit k r c n) s = .next s) ∧ (∀ n a b, exec (.sessionProve n a b) s = .next s) ∧ (∀ n, exec (.sessionClose n) s = .next s ∧ exec (.zaleneMacFail n) s = .next s)
      ∧ (∀ k, exec (.neighbourDiscovery k) s = .next s)
      ∧ (∀ c : BitVec 32, (c.toNat = 0 ∨ c.toNat ≠ s.par 0x1010 10 → exec (.wake c) s = .next s) ∧ (c.toNat ≠ 0 → c.toNat = s.par 0x1010 10 → exec (.wake c) s = .next (s.wake 2))))
    ∧ (∀ (type status : Nat) (p : List Byte), s.zlSend0 type status p = { s with free := s.free + 1, out := .zalene type 0 ((Config.freeValue s.free).toNat % 2 ^ 32) status p :: s.out })
    ∧ (s.zlOn = true →
      exec .discover s = .next { s with zl.announce := s.zl.announce + 1 }
      ∧ (s.zl.announce = 0 → exec .announce s = .next s)
      ∧ (s.zl.announce ≠ 0 → exec .announce s = .next ({ s with zl.announce := s.zl.announce - 1 }.zlSend0 0x02 0 s.announceBytes))
      ∧ exec .duplicateNode s = .next (s.report (srcId SYS 7 32) 0 s.nodeId)
      ∧ exec (.neighbourDiscovery .solicitation) s = .next (s.emit (.note "neighbour advertisement" 0 0)) ∧ exec (.neighbourDiscovery .echo) s = .next (s.emit (.note "ICMPv6 echo reply" 0 0))
      ∧ exec (.neighbourDiscovery (.dadOk true)) s = .next { s with zl.staticBad := false } ∧ exec (.neighbourDiscovery (.dadOk false)) s = .next { s with zl.addrBad := false }
      ∧ exec (.neighbourDiscovery (.dadDuplicate true)) s = .next ({ s with zl.staticBad := true }.report (srcId SYS 7 33) 0 1)
      ∧ exec (.neighbourDiscovery (.dadDuplicate false)) s = .next ({ s with zl.addrBad := true }.report (srcId SYS 7 33) 0 0)
      ∧ (∀ c, exec (.wake c) s = .next (s.zlSend0 0x3F 0 []))
      ∧ (∀ (k : Fin 8) (r : BitVec 8) (c : Bool) (n : BitVec 128),
        ((s.mgSlot k.val).st ≠ .enrolled ∨ c = false → exec (.sessionInit k r c n) s = .next (s.zlSend0 0x10 0x12 []))
        ∧ ((s.mgSlot k.val).st = .enrolled → c = true → 8 ≤ s.zl.sessions.length → exec (.sessionInit k r c n) s = .next (s.zlSend0 0x10 0x0F []))
        ∧ ((s.mgSlot k.val).st = .enrolled → c = true → s.zl.sessions.length < 8 → (tabFind s.zl.handshakes 0).isSome = true → (tabFind s.zl.handshakes 1).isSome = true →
          exec (.sessionInit k r c n) s = .next (s.zlSend0 0x10 0x0F []))
        ∧ (∀ h : Fin 2, (s.mgSlot k.val).st = .enrolled → c = true → s.zl.sessions.length < 8 → s.zl.handshakes.length ≤ 2 → tabFind s.zl.handshakes h.val = none →
          (∀ g : Fin 2, g.val < h.val → (tabFind s.zl.handshakes g.val).isSome = true) → ∃ (t : State) (m : Nat), exec (.sessionInit k r c n) s = .next t ∧ 0 < m ∧ m ≤ 65535
            ∧ (∀ p ∈ s.zl.sessions, p.2.number ≠ m) ∧ (∀ p ∈ s.zl.handshakes, p.2.number ≠ m)
            ∧ t.zl.handshakes = tabSet s.zl.handshakes h.val { number := m, key := k.val, role := min r.toNat (s.mgSlot k.val).role }
            ∧ t.zl.sessions = s.zl.sessions ∧ t.regs = s.regs ∧ t.od = s.od))
      ∧ (∀ (n : BitVec 16) (a b : Bool) (h : Nat) (x : Handshake), s.zl.handshakes.find? (fun p => p.2.number == n.toNat) = some (h, x) →
        (a = false ∨ b = false → exec (.sessionProve n a b) s = .next ({ s with zl.handshakes := tabDel s.zl.handshakes h }.zlSend0 0x12 0x12 []))
        ∧ (∀ k : Fin 8, a = true → b = true → tabFind s.zl.sessions k.val = none → (∀ g : Fin 8, g.val < k.val → (tabFind s.zl.sessions g.val).isSome = true) →
          ∃ (t : State) (y : Session), exec (.sessionProve n a b) s = .next t ∧ t.zl.handshakes = tabDel s.zl.handshakes h ∧ t.zl.sessions = tabSet (tabSet s.zl.sessions k.val { y with txSeq := 0, lastResp := none }) k.val y
            ∧ y.number = x.number ∧ y.key = x.key ∧ y.role = x.role ∧ y.rxSeq = 1 ∧ y.txSeq = 1 ∧ y.queue = [] ∧ y.outstanding = none
            ∧ t.out = .zalene 0x13 x.number 1 0 (leBytes 1 x.role ++ leBytes 1 0 ++ leBytes 2 (s.par 0x1020 2)) :: s.out))
      ∧ (∀ (n : BitVec 16) (a b : Bool), s.zl.handshakes.find? (fun p => p.2.number == n.toNat) = none → s.zlFind n.toNat = none → exec (.sessionProve n a b) s = .next (s.zlSend0 0x12 0x11 []))
      ∧ (∀ n : BitVec 16, s.zlFind n.toNat = none → exec (.sessionClose n) s = .next (s.zlSend0 0x14 0x11 []) ∧ (n ≠ 0 → exec (.zaleneMacFail n) s = .next (s.zlSend0 0x00 0x11 [])))
      ∧ (∀ (n : BitVec 16) (k : Nat) (x : Session), s.zlFind n.toNat = some (k, x) → tabFind s.zl.sessions k = some x →
        (∃ t : State, exec (.sessionClose n) s = .next t ∧ t.out = .zalene 0x14 x.number ((x.txSeq + 1) % 2 ^ 32) 0 [] :: s.out ∧ t.asm = s.asm.filter (fun p => p.2.src != 8 + k)
          ∧ ∀ j, j ≠ k → tabFind t.zl.sessions j = tabFind s.zl.sessions j)
        ∧ (n ≠ 0 → ∀ l, l = x.macFails.filter (fun t => decide (s.coreTime.toNat < t + 1000 * cyclesPerMs)) ++ [s.coreTime.toNat] →
          (l.length < 16 → exec (.zaleneMacFail n) s = .next ((s.zlCount 5).putSession k { x with macFails := l }))
          ∧ (16 ≤ l.length → exec (.zaleneMacFail n) s = .next ((((s.zlCount 5).putSession k { x with macFails := l }).sessionEnd k).report (srcId SYS 7 34) 0 k)))))
    ∧ (∀ h : Fin 2, exec (.handshakeTimeout h) s = .next { s with zl.handshakes := tabDel s.zl.handshakes h.val })
    ∧ (∀ k : Fin 8, exec (.sessionIdleExpiry k) s = .next { s with zl.sessions := tabDel s.zl.sessions k.val, asm := s.asm.filter (fun p => p.2.src != 8 + k.val) })

/-- Requests of a Zalene session: sequence numbers, reads, writes, segmented transfers, events. (R428, R441, R443, R444, R445, R450) -/
def Obligations.ZaleneRequests : Prop :=
  ∀ (s : State) (n : BitVec 16) (q : BitVec 32) (ix : BitVec 16) (sub : BitVec 8) (v : List Byte) (off total ev : BitVec 32) (run info : Bool),
    (∀ (f : Instr) (type : Nat), (f, type) = (Instr.segRead n q ix sub off run, 0x22) ∨ (f, type) = (Instr.segWrite n q ix sub total, 0x23) ∨ (f, type) = (Instr.segAbort n q, 0x26)
        ∨ (f, type) = (Instr.eventAck n q ev, 0x31) ∨ (s.odTakes ix.toNat sub.toNat = true ∧ (f, type) = (Instr.zaleneWrite n q ix sub v, 0x21))
        ∨ (s.segTakes n.toNat = true ∧ (f, type) = (Instr.segment n q off v, 0x24)) ∨ (n ≠ 0 ∧ (f, type) = (Instr.zaleneRead n q ix sub run info, 0x20)) →
      (s.odRuns = false → exec f s = .next s)
      ∧ (s.odRuns = true → (n = 0 → exec f s = .next (s.zlSend0 type 3 [])) ∧ (n ≠ 0 → s.zlFind n.toNat = none → exec f s = .next (s.zlSend0 type 0x11 []))
        ∧ (∀ (k : Nat) (x : Session), n ≠ 0 → s.zlFind n.toNat = some (k, x) → (q.toNat < x.rxSeq → exec f s = .next (s.zlCount 4))
          ∧ (∀ r, q.toNat = x.rxSeq → x.lastResp = some r → exec f s = .next (s.emit (.zalene r.type x.number r.seq r.status r.payload))))))
    ∧ (∀ (k : Nat) (x : Session) (t : State), s.odRuns = true → s.sec.sw = none → n ≠ 0 → s.zlFind n.toNat = some (k, x) → x.rxSeq < q.toNat → t = s.putSession k { x with rxSeq := q.toNat, lastResp := none } →
      (∀ (r : State) (st : Nat) (w : List Byte), t.odReadReq (8 + k) ix.toNat sub.toNat run info (.zalene k 0x20) = (r, some (st, w)) →
        (st ≠ 0 → exec (.zaleneRead n q ix sub run info) s = .next (r.zlPut k 0x20 st []))
        ∧ (st = 0 → info = true → exec (.zaleneRead n q ix sub run info) s = .next (r.zlPut k 0x20 0 w))
        ∧ (st = 0 → info = false → w.length ≤ 1024 → exec (.zaleneRead n q ix sub run info) s = .next (r.zlPut k 0x20 0 (leBytes 1 (r.odCode ix.toNat sub.toNat) ++ leBytes 1 0 ++ leBytes 2 w.length ++ w))))
      ∧ (∀ (r : State) (st : Nat) (w : List Byte), v.length ≤ 1024 → t.odWriteReq (8 + k) ix.toNat sub.toNat v (.zalene k 0x21) = (r, some (st, w)) →
        exec (.zaleneWrite n q ix sub v) s = .next (r.zlPut k 0x21 st []))
      ∧ (∀ (r : State) (st : Nat) (w : List Byte), off = 0 → t.odReadReq (8 + k) ix.toNat sub.toNat run false (.zalene k 0x22) = (r, some (st, w)) →
        (st ≠ 0 → exec (.segRead n q ix sub off run) s = .next (r.zlPut k 0x22 st []))
        ∧ (st = 0 → w.length ≤ 1024 → exec (.segRead n q ix sub off run) s = .next (r.zlPut k 0x22 0 (leBytes 4 w.length ++ leBytes 2 w.length ++ leBytes 2 0 ++ w))))
      ∧ (s.asmOf (8 + k) = none → (off ≠ 0 → exec (.segRead n q ix sub off run) s = .next (t.zlPut k 0x22 0x10 [])) ∧ exec (.segment n q off v) s = .next (t.zlPut k 0x25 0x10 (leBytes 4 0 ++ leBytes 4 0)))
      ∧ (∀ (b : Nat) (a : Asm), s.asmOf (8 + k) = some (b, a) →
        (a.write = false → a.ix = ix.toNat → a.sub = sub.toNat → a.parts = off.toNat → off ≠ 0 → a.total = a.data.length → off.toNat < a.total → a.total ≤ off.toNat + 1024 →
          exec (.segRead n q ix sub off run) s = .next ({ t with asm := s.asm.filter (fun p => p.2.src != 8 + k) }.zlPut k 0x22 0
            (leBytes 4 a.total ++ leBytes 2 (a.total - off.toNat) ++ leBytes 2 0 ++ a.data.drop off.toNat)))
        ∧ (a.write = true → a.data.length = off.toNat → v.length ≤ 1024 → off.toNat + v.length < a.total →
          (a.parts < 3 → exec (.segment n q off v) s = .next { t with asm := tabSet s.asm b { a with data := a.data ++ v, parts := a.parts + 1 } })
          ∧ (a.parts = 3 → exec (.segment n q off v) s = .next ({ t with asm := tabSet s.asm b { a with data := a.data ++ v, parts := 0 } }.zlPut k 0x25 0 (leBytes 4 (off.toNat + v.length) ++ leBytes 4 0))))
        ∧ (a.write = true → a.data.length ≠ off.toNat → v.length ≤ 1024 →
          exec (.segment n q off v) s = .next ({ t with asm := s.asm.filter (fun p => p.2.src != 8 + k) }.zlPut k 0x25 0x10 (leBytes 4 a.data.length ++ leBytes 4 0)))
        ∧ (∀ (r : State) (st : Nat) (w : List Byte), a.write = true → a.data.length = off.toNat → v.length ≤ 1024 → off.toNat + v.length = a.total →
          { t with asm := s.asm.filter (fun p => p.2.src != 8 + k) }.odWriteReq (8 + k) a.ix a.sub (a.data ++ v) (.zalene k 0x25) = (r, some (st, w)) →
          exec (.segment n q off v) s = .next (r.zlPut k 0x25 st (leBytes 4 a.total ++ leBytes 4 0))))
      ∧ exec (.segAbort n q) s = .next ({ t with asm := s.asm.filter (fun p => p.2.src != 8 + k) }.zlPut k 0x26 0 [])
      ∧ (s.odPre x.role ix.toNat sub.toNat true false = 0 → tabFind s.zl.sessions k = some x → total.toNat ≤ 131072 →
        (∀ b : Fin 4, s.asmOf (8 + k) = none → tabFind s.asm b.val = none → (∀ g : Fin 4, g.val < b.val → (tabFind s.asm g.val).isSome = true) →
          exec (.segWrite n q ix sub total) s = .next ({ t with asm := tabSet s.asm b.val { src := 8 + k, write := true, ix := ix.toNat, sub := sub.toNat, total := total.toNat, data := [], parts := 0 } }.zlPut k 0x23 0 (leBytes 1 4 ++ leBytes 3 0)))
        ∧ (s.asmOf (8 + k) = none → (∀ g : Fin 4, (tabFind s.asm g.val).isSome = true) → exec (.segWrite n q ix sub total) s = .next (t.zlPut k 0x23 0x0F [])))
      ∧ (∀ o, tabFind s.zl.sessions k = some x → x.outstanding = some o →
        (o.seq = ev.toNat → exec (.eventAck n q ev) s = .next (t.putSession k { x with rxSeq := q.toNat, lastResp := none, outstanding := none, retries := 0, queue := x.queue.drop 1 }))
        ∧ (o.seq ≠ ev.toNat → exec (.eventAck n q ev) s = .next t)))
    ∧ (∀ (k : Fin 8) (x : Session) (type st : Nat) (p : List Byte), tabFind s.zl.sessions k.val = some x →
      s.zlPut k.val type st p = { s with zl.sessions := tabSet s.zl.sessions k.val { x with txSeq := (x.txSeq + 1) % 2 ^ 32, lastResp := some { type := type, seq := (x.txSeq + 1) % 2 ^ 32, status := st, payload := p } }, out := .zalene type x.number ((x.txSeq + 1) % 2 ^ 32) st p :: s.out }
      ∧ (x.queue = [] ∨ x.outstanding ≠ none ∨ s.zlOn = false → exec (.eventSend k) s = .next s)
      ∧ (∀ r l, x.queue = r :: l → x.outstanding = none → s.zlOn = true → exec (.eventSend k) s = .next ((s.putSession k.val { x with txSeq := (x.txSeq + 1) % 2 ^ 32, outstanding := some { seq := x.evSeq, frame := (x.txSeq + 1) % 2 ^ 32, lost := x.lost }, retries := 0, evSeq := (x.evSeq + 1) % 2 ^ 32, lost := 0 }).emit
        (.zalene 0x30 x.number ((x.txSeq + 1) % 2 ^ 32) 0 (leBytes 4 x.evSeq ++ leBytes 4 x.lost ++ r.bytes))))
      ∧ (∀ r l o, x.queue = r :: l → x.outstanding = some o → s.zlOn = true →
        (x.retries < 3 → exec (.eventAckTimeout k) s = .next ((s.putSession k.val { x with retries := x.retries + 1 }).emit (.zalene 0x30 x.number o.frame 0 (leBytes 4 o.seq ++ leBytes 4 o.lost ++ r.bytes))))
        ∧ (3 ≤ x.retries → exec (.eventAckTimeout k) s = .next ((s.sessionEnd k.val).report (srcId SYS 7 34) 0 k.val)))
      ∧ (x.outstanding = none → exec (.eventAckTimeout k) s = .next s))
    ∧ (s.odRuns = true → (ix ≠ 0x1000 → odHighest ix.toNat ≠ none → s.odEntry ix.toNat sub.toNat ≠ none → exec (.zaleneRead 0 q ix sub run info) s = .next (s.zlSend0 0x20 3 []))
      ∧ (∀ r, ix = 0x1000 → s.odEntry 0x1000 sub.toNat = some r → r.acc = .const → info = false → exec (.zaleneRead 0 q ix sub run info) s =
        .next (s.zlSend0 0x20 0 (leBytes 1 r.ty.code ++ leBytes 1 0 ++ leBytes 2 (s.odBytes 0 0x1000 sub.toNat false).length ++ s.odBytes 0 0x1000 sub.toNat false))))

/-- Reports open, duplicate or merge records; forced faults; CLEAR; the end of a C2. (R455, R456, R459, R460, R461, R462, R463, R464, R468) -/
def Obligations.FaultReportsAreCollected : Prop :=
  ∀ s : State,
    (∀ (rg blk src cell cls detail : Nat) (f : Bool), cls < 4 → rg ≠ MOT ∨ s.mrec.st ≠ 1 →
      (tabFind s.fc.block (rg * 128 + blk) = none → tabFind s.fc.region rg = none → s.reportBy rg blk src cell cls detail f =
        { s with fc.block := tabSet s.fc.block (rg * 128 + blk) (s.newFault src cell cls detail f), fc.region := tabSet s.fc.region rg (s.newFault src cell cls detail f), fc.up := s.fc.up ++ [(rg, .opened (s.newFault src cell cls detail f))] })
      ∧ (∀ q, tabFind s.fc.block (rg * 128 + blk) = none → tabFind s.fc.region rg = some q → q.source ≠ src → s.reportBy rg blk src cell cls detail f =
        { s with fc.block := tabSet s.fc.block (rg * 128 + blk) (s.newFault src cell cls detail f), fc.region := tabSet s.fc.region rg (q.merge src cls), fc.up := s.fc.up ++ [(rg, .merge src cls)] })
      ∧ (∀ q g, tabFind s.fc.block (rg * 128 + blk) = some q → q.source ≠ src → tabFind s.fc.region rg = some g → s.reportBy rg blk src cell cls detail f =
        { s with fc.block := tabSet s.fc.block (rg * 128 + blk) (q.merge src cls), fc.region := tabSet s.fc.region rg (g.merge src cls), fc.up := s.fc.up ++ [(rg, .merge src cls)] })
      ∧ (∀ q, tabFind s.fc.block (rg * 128 + blk) = some q → q.source = src → ∃ t : State, s.reportBy rg blk src cell cls detail f = t ∧ { t with fc := s.fc } = s
        ∧ t.fc.block = tabSet s.fc.block (rg * 128 + blk) { q with ovf := true, dup := min (q.dup + 1) 65535 } ∧ t.fc.up.length = s.fc.up.length
        ∧ (∀ r, s.fc.chip = some r → r.source = src → t.fc.chip = some { r with ovf := true, dup := min (r.dup + 1) 65535 }))
      ∧ { s.reportBy rg blk src cell cls detail f with fc := s.fc } = s)
    ∧ (∀ (b : BitVec 7) (src : BitVec 16) (cell : BitVec 20) (d : BitVec 32), ¬ (srcRegion src.toNat = MOT ∧ srcBlock src.toNat < 4 ∧ srcNumber src.toNat = 0) →
      exec (.faultReport b src cell d) s = .next (s.reportBy (srcRegion src.toNat) b.toNat src.toNat cell.toNat (s.reportClass src.toNat cell.toNat) d.toNat false))
    ∧ (∀ k : Fin 4, ∀ (c : BitVec 20) (d : BitVec 32), ∃ u : State, exec (.faultReport ⟨k.val, by omega⟩ (BitVec.ofNat 16 (srcId MOT k.val 0)) c d) s =
      .next (u.reportBy MOT k.val (srcId MOT k.val 0) c.toNat (s.classOf (srcId MOT k.val 0) c.toNat) d.toNat false) ∧ u.rf MC_ERR_ECC_CORR k.val = min (s.rf MC_ERR_ECC_CORR k.val + 1) (2 ^ MC_ERR_ECC_CORR.width - 1)
      ∧ u.fc = s.fc)
    ∧ (∀ r : Fin 5, (takeUp r.val s.fc.up = none → exec (.chipRecordOpen r) s = .next s)
      ∧ (∀ f l, takeUp r.val s.fc.up = some (.opened f, l) → s.fc.chip = none → f.cls ≤ 2 → ∃ t : State, exec (.chipRecordOpen r) s = .next t ∧ t.fc.chip = some f ∧ t.fc.up = l
        ∧ t.rf FC_STATUS_RECORDS = min (s.rf FC_STATUS_RECORDS + 1) (2 ^ FC_STATUS_RECORDS.width - 1) ∧ t.rf FC_STATUS_HIGHEST = max (s.rf FC_STATUS_HIGHEST) f.cls % 8
        ∧ (f.cls ≤ 1 → ∃ x : Rec, t.recd.inbox = s.recd.inbox ++ [(true, x)] ∧ x.source = f.source ∧ x.cls = f.cls ∧ x.detail = f.detail ∧ t.fc.c2Sources = s.fc.c2Sources)
        ∧ (f.cls = 2 → t.recd = s.recd ∧ t.fc.c2Sources = s.fc.c2Sources ++ [f.source]) ∧ t.fc.c3Regions = s.fc.c3Regions)
      ∧ (∀ f l c, takeUp r.val s.fc.up = some (.opened f, l) → s.fc.chip = some c → c.source = f.source → exec (.chipRecordOpen r) s = .next { s with fc.up := l, fc.chip := some (c.addDup (1 + f.dup)) })
      ∧ (∀ src cls l c, takeUp r.val s.fc.up = some (.merge src cls, l) → s.fc.chip = some c → cls ≤ 1 → exec (.chipRecordOpen r) s =
        .next { { s with fc.up := l, fc.chip := some (c.merge src cls) } with regs := (s.wf FC_STATUS_HIGHEST (max (s.rf FC_STATUS_HIGHEST) cls)).regs }))
    ∧ (∀ us : Nat, (s.fc.chip = none ∨ (∃ r, s.fc.chip = some r ∧ r.cls ≠ 2) → exec (.c2Remapped us) s = .next s)
      ∧ (∀ r, s.fc.chip = some r → r.cls = 2 → ∃ (t : State) (x : Rec), exec (.c2Remapped us) s = .next t ∧ t.fc.chip = none ∧ t.fc.last = some { r with interrupt := min us 65535 } ∧ t.fc.c2Sources = []
        ∧ t.recd.inbox = s.recd.inbox ++ [(false, x)] ∧ x.source = r.source ∧ x.interrupt = min us 65535 ∧ { t with fc := s.fc, recd.inbox := s.recd.inbox } = s))
    ∧ (s.rf FC_FORCE_RESULT = 1 → exec .fcForceGo s = .next s)
    ∧ (s.rf FC_FORCE_RESULT ≠ 1 → (srcRow (s.rf FC_FORCE_SOURCE)).isSome = false ∨ (s.mode ≠ modeTest ∧ 2 < s.classOf (s.rf FC_FORCE_SOURCE) (s.rf FC_FORCE_CELL_CELL)) →
      exec .fcForceGo s = .next (s.wf FC_FORCE_RESULT 3))
    ∧ (s.rf FC_FORCE_RESULT ≠ 1 → (srcRow (s.rf FC_FORCE_SOURCE)).isSome = true → s.mode = modeTest ∨ s.classOf (s.rf FC_FORCE_SOURCE) (s.rf FC_FORCE_CELL_CELL) ≤ 2 →
      ∃ u : State, exec .fcForceGo s = .next ((u.reportBy (srcRegion (s.rf FC_FORCE_SOURCE)) (srcBlock (s.rf FC_FORCE_SOURCE)) (s.rf FC_FORCE_SOURCE) (s.rf FC_FORCE_CELL_CELL)
        (s.reportClass (s.rf FC_FORCE_SOURCE) (s.rf FC_FORCE_CELL_CELL)) 0 true).wf FC_FORCE_RESULT 2) ∧ u = s.localAction (s.rf FC_FORCE_SOURCE) (s.rf FC_FORCE_CELL_CELL))
    ∧ (s.rb FC_STATUS_FATAL = true → exec .fcClear s = .next s)
    ∧ (s.rb FC_STATUS_FATAL = false → (s.fc.chip = none → exec .fcClear s = .next (s.wf FC_STATUS_HIGHEST 0)) ∧ (∀ r, s.fc.chip = some r → exec .fcClear s = .next (s.wf FC_STATUS_HIGHEST r.cls)))

/-- A C4 latches FATAL, stops ALIVE and freezes everything; a C3 restarts its region and its record closes with it. (R465, R466, R467, R468, R479) -/
def Obligations.ChipFatalAndRestarts : Prop :=
  ∀ s : State,
    (∀ src : BitVec 16, s.rb FC_STATUS_FATAL = false → ∃ t : State, exec (.chipFatal src) s = .next t ∧ t.rb FC_STATUS_FATAL = true ∧ t.rf FC_STATUS_HIGHEST = 4 ∧ t.fc.alive = false ∧ t.fltN = true
      ∧ (∀ n, n < s.nChan → t.rbit WR_STATUS_INHIBIT inhFAULT n = true) ∧ (∀ p ∈ t.sr, p.2.st ≠ 1 ∧ p.2.st ≠ 2) ∧ (∀ q : Fin 2, (t.prt q.val).cfs = true ∧ (t.prt q.val).frozen = true)
      ∧ (∀ a, a < s.nAct → t.act a = acRETRACT ∨ t.actLoaded a = false) ∧ t.recd.flushing = true ∧ t.od = s.od ∧ t.odRun = s.odRun)
    ∧ (s.rb FC_STATUS_FATAL = true → s.chipFatal = s)
    ∧ (∀ src : BitVec 16, s.rb FC_STATUS_FATAL = true → srcRegion src.toNat ≠ MOT → ∃ t : State, exec (.chipFatal src) s = .next t ∧ { t with fc := s.fc } = s ∧ t.fc.alive = s.fc.alive)
    ∧ (∀ r : Fin 5, (s.c3Waits r.val = false ∨ s.c3Parked r.val = false → exec (.regionRestart r) s = .next s)
      ∧ (s.c3Waits r.val = true → s.c3Parked r.val = true → ∃ t : State, exec (.regionRestart r) s = .next t
        ∧ (r.val = HST → t.reng.turn = none) ∧ (r.val = MED → t.cru.copies = [])
        ∧ (r.val = SYS → t.fc.restarting = s.fc.restarting ++ [SYS] ∧ t.zl.sessions = [] ∧ t.zl.handshakes = [] ∧ t.asm = [] ∧ t.recd.flushing = true ∧ t.odRun = s.odRun ∧ (s.sec.sw = none → t.regs = s.regs) ∧ (s.sec.sw.isSome = true → t.rf SEC_SWITCH_STATE = 0) ∧ t.sec.sw = s.sec.sw)
        ∧ (r.val = MOT → s.sp = spRUN → t.sp = spCOAST ∧ t.spin.restart = 1 ∧ t.fc.restarting = s.fc.restarting ++ [MOT]) ∧ (r.val = MOT → s.sp = spSTOPPED → t.sp = spSTOPPED))
      ∧ (s.fc.restarting.contains r.val = false → ∀ us, exec (.regionRestartDone r us) s = .next s)
      ∧ (s.fc.restarting = [r.val] → s.fc.c3Regions = [r.val] → s.rf FC_STATUS_FATAL = 0 → (r.val = SYS ∨ r.val = HST ∨ r.val = DAT) → ∀ (us : Nat) (f : FaultRec), s.fc.chip = some f →
        ∃ t : State, exec (.regionRestartDone r us) s = .next t ∧ t.fc.restarting = [] ∧ t.fc.chip = none ∧ t.fc.last = some { f with interrupt := min us 65535 }
          ∧ t.fc.restartEnd = tabSet s.fc.restartEnd r.val s.coreTime.toNat ∧ (∀ n, n < s.nChan → t.rbit WR_STATUS_INHIBIT inhFAULT n = false)))
    ∧ (∀ (rg src t0 : Nat), tabFind s.fc.restartEnd rg = some t0 → s.coreTime.toNat < t0 + 1000 * cyclesPerMs → t0 ≤ s.coreTime.toNat → s.entryRegions.contains rg = false → s.c3Begin rg src = s.chipFatal)

/-- Qualified inputs, stuck and chattering inputs, the temperature window and the AON watchdog. (R255, R283, R467, R469, R470, R472, R483) -/
def Obligations.InputsAndWatchdog : Prop :=
  ∀ (s : State) (i : Fin 5),
    (s.rbit IF_STATUS_CHATTER i.val = true → ∀ l, exec (.inputQualify i l) s = .next s)
    ∧ (s.rbit IF_STATUS_CHATTER i.val = false → exec (.inputQualify i true) s = .next (s.wbit IF_STATUS_LEVEL i.val true)
      ∧ (s.rbit IF_STATUS_LEVEL i.val = false → exec (.inputQualify i false) s = .next (s.wbit IF_STATUS_LEVEL i.val false))
      ∧ (s.rbit IF_STATUS_LEVEL i.val = true → (2 ≤ i.val → exec (.inputQualify i false) s = .next ((s.wbit IF_STATUS_LEVEL i.val false).wbit SK_STATUS_ACTIVE (i.val - 2) false))
        ∧ (i.val = 0 → exec (.inputQualify i false) s = .next { s.wbit IF_STATUS_LEVEL 0 false with pwr.pfail := false }.powerBack)
        ∧ (i.val = 1 → exec (.inputQualify i false) s = .next (s.wbit IF_STATUS_LEVEL 1 false).pwrdisOff)))
    ∧ (s.rbit IF_STATUS_LEVEL i.val = false ∨ s.rbit IF_STATUS_STUCK i.val = true → exec (.inputStuck i) s = .next s)
    ∧ (s.rbit IF_STATUS_LEVEL i.val = true → s.rbit IF_STATUS_STUCK i.val = false →
      (i.val < 2 → exec (.inputStuck i) s = .next ((s.wbit IF_STATUS_STUCK i.val true).report (srcId SYS 1 (2 * i.val))))
      ∧ (2 ≤ i.val → exec (.inputStuck i) s = .next ((((s.wbit IF_STATUS_STUCK i.val true).report (srcId SYS 1 (2 * i.val))).report (srcId MOT 13 1) (i.val - 2)).inhibitAll inhSHOCK true)))
    ∧ (s.rbit IF_STATUS_CHATTER i.val = true → exec (.inputChatter i) s = .next s)
    ∧ (s.rbit IF_STATUS_CHATTER i.val = false →
      (i.val < 2 → exec (.inputChatter i) s = .next ((s.wbit IF_STATUS_CHATTER i.val true).report (srcId SYS 1 (2 * i.val + 1))))
      ∧ (2 ≤ i.val → exec (.inputChatter i) s = .next (((s.wbit IF_STATUS_CHATTER i.val true).report (srcId SYS 1 (2 * i.val + 1))).inhibitAll inhSHOCK true)))
    ∧ (∃ t : State, exec (.inputRequalify i) s = .next t ∧ t.rbit IF_STATUS_CHATTER i.val = false ∧ t.rbit IF_STATUS_STUCK i.val = false ∧ { t with regs := s.regs } = s
      ∧ (s.rbit IF_STATUS_STUCK i.val = true → t.rbit IF_STATUS_LEVEL i.val = false) ∧ (s.rbit IF_STATUS_STUCK i.val = false → t.rf IF_STATUS_LEVEL = s.rf IF_STATUS_LEVEL))
    ∧ (∀ (n : Nat) (b : Nat), (s.inhibitAll inhSHOCK true).rbit WR_STATUS_INHIBIT inhSHOCK n = (decide (n < s.nChan) || s.rbit WR_STATUS_INHIBIT inhSHOCK n)
      ∧ (b < 14 → b ≠ inhSHOCK → (s.inhibitAll inhSHOCK true).rbit WR_STATUS_INHIBIT b n = s.rbit WR_STATUS_INHIBIT b n))
    ∧ exec (.tempSenseWindow true) s = .next (s.wb IF_STATUS_TEMP_OOW false)
    ∧ (s.rb IF_STATUS_TEMP_OOW = true → exec (.tempSenseWindow false) s = .next s)
    ∧ (s.rb IF_STATUS_TEMP_OOW = false → exec (.tempSenseWindow false) s = .next ((s.wb IF_STATUS_TEMP_OOW true).report (srcId SYS 1 10)))
    ∧ exec (.wdKick 0xA5C3) s = .next (s.wf WD_STATUS_REMAIN (max (s.rf WD_CTRL_PERIOD) 1))
    ∧ (∀ k : BitVec 16, k ≠ 0xA5C3 → exec (.wdKick k) s = .next (s.cnt WD_STATUS_BAD_KICKS))
    ∧ (∀ v : Word, (s.mode = modeService → exec (.wdCtrlWrite v) s = .next (s.wf WD_CTRL_PERIOD v.toNat))
      ∧ (s.mode ≠ modeService → ∃ t : State, exec (.wdCtrlWrite v) s = .next t ∧ t.rf WD_CTRL_PERIOD = v.toNat % 2 ^ WD_CTRL_PERIOD.width ∧ t.rb WD_CTRL_EN = v.getLsbD 16 ∧ { t with regs := s.regs } = s
        ∧ (v.getLsbD 16 = true → s.rb WD_CTRL_EN = false → t.rf WD_STATUS_REMAIN = max (v.toNat % 2 ^ WD_CTRL_PERIOD.width) 1)
        ∧ (v.getLsbD 16 = false ∨ s.rb WD_CTRL_EN = true → t.rf WD_STATUS_REMAIN = s.rf WD_STATUS_REMAIN)))
    ∧ (s.rb WD_CTRL_EN = false → exec .watchdogExpiry s = .next s)
    ∧ (s.rb WD_CTRL_EN = true → s.classOf 0x1FC0 0 ≤ 4 → exec .watchdogExpiry s = .next (((s.wb WD_STATUS_EXPIRED true).wf WD_STATUS_REMAIN 0).reportBy 0 127 0x1FC0 0 4 0 false))

/-- Requests, stages, participants and the commit point of a power entry; wakes; PWRDIS. (R170, R183, R476, R477, R478, R479, R480, R481, R482, R483) -/
def Obligations.PowerEntriesAndWakes : Prop :=
  ∀ s : State,
    (∀ q, exec (.pwrGo q) s = .next ((s.wb PWR_CTRL_GO false).pwrRequest (s.rf PWR_CTRL_TARGET)))
    ∧ (∀ n : Nat, (s.pwr.kind = .idle →
        (4 < n → ∃ t : State, s.pwrRequest n = t ∧ t.rf PWR_STATUS_RESULT = 4 ∧ t.rf PWR_REFUSE_REASON = 6 ∧ t.rf PWR_REFUSE_BLOCK = blkPOWER ∧ t.rb PWR_STATUS_REQ_BUSY = false ∧ { t with regs := s.regs } = s)
        ∧ (n ≤ 4 → n = s.rf PWR_STATUS_STATE → s.pwrRequest n = (s.wf PWR_STATUS_RESULT 2).wb PWR_STATUS_REQ_BUSY false)
        ∧ (n ≤ 4 → n < s.rf PWR_STATUS_STATE → s.pwrRequest n = (s.wb PWR_STATUS_REQ_BUSY false).wake 5)
        ∧ (n ≤ 4 → s.rf PWR_STATUS_STATE < n → ∃ t : State, s.pwrRequest n = t ∧ t.pwr.kind = .entry ∧ t.rb PWR_STATUS_BUSY = true ∧ t.rf PWR_STATUS_PEND = n ∧ t.rf PWR_STATUS_RESULT = 1
          ∧ t.rb PWR_STATUS_COMMITTED = false ∧ t.rf PWR_STATUS_STATE = s.rf PWR_STATUS_STATE ∧ t.pwr.waiting = [] ∧ t.pwr.started = false
          ∧ (2 ≤ n → ∀ c, c < s.nChan → t.rbit WR_STATUS_INHIBIT inhPOWER c = true) ∧ (n < 2 → ∀ c, t.rf WR_STATUS_INHIBIT c = s.rf WR_STATUS_INHIBIT c)))
      ∧ (s.pwr.kind = .exit → s.pwrRequest n = s.wb PWR_STATUS_REQ_BUSY true)
      ∧ (s.pwr.kind = .entry → s.rf PWR_STATUS_PEND ≤ n → s.pwrRequest n = s.wb PWR_STATUS_REQ_BUSY true)
      ∧ (s.pwr.kind = .entry → n < s.rf PWR_STATUS_PEND → s.pwrRequest n = s.wake 5))
    ∧ (∀ k : Fin 3, (s.par 0x2020 (3 + k.val) = 0 ∨ s.rf PWR_STATUS_STATE ≠ k.val ∨ s.pwr.kind ≠ .idle → exec (.idleTimerExpiry k) s = .next s)
      ∧ (s.par 0x2020 (3 + k.val) ≠ 0 → s.pwr.kind = .idle → s.pwr.startStep = 12 → s.rf PWR_STATUS_STATE = k.val → s.sectorsIdle = true → exec (.idleTimerExpiry k) s = .next (s.pwrRequest (k.val + 1))))
    ∧ (s.pwr.started = true ∨ s.rb PWR_STATUS_COMMITTED = true ∨ s.pwr.kind = .idle → exec .powerEntryStage s = .next s)
    ∧ (s.pwr.kind = .forced → s.pwr.started = false → s.rb PWR_STATUS_COMMITTED = false →
      (∀ k : Nat, s.rf PWR_STATUS_STAGE < k → k ≤ 5 → s.stageParts k ≠ [] → (∀ j, s.rf PWR_STATUS_STAGE < j → j < k → s.stageParts j = []) →
        exec .powerEntryStage s = .next ({ s.wf PWR_STATUS_STAGE k with pwr.started := true, pwr.waiting := s.stageParts k }.stageAct k))
      ∧ ((∀ k, s.rf PWR_STATUS_STAGE < k → k ≤ 5 → s.stageParts k = []) → exec .powerEntryStage s = .next (s.wb PWR_STATUS_COMMITTED true)))
    ∧ (∀ p : Participant, (p ∉ s.pwr.waiting → (∀ a, exec (.participantAck p a) s = .next s) ∧ exec (.participantDelayTimeout p) s = .next s)
      ∧ (p ∈ s.pwr.waiting → exec (.participantAck p .delay) s = .next s ∧ (s.ackOk p = false → exec (.participantAck p .ack) s = .next s)
        ∧ (s.ackOk p = true → s.pwr.waiting.erase p ≠ [] → exec (.participantAck p .ack) s = .next { s with pwr.waiting := s.pwr.waiting.erase p, pwr.acked := s.pwr.acked ++ [p] })
        ∧ (s.ackOk p = true → s.pwr.waiting = [p] → s.rf PWR_STATUS_STAGE = 5 → exec (.participantAck p .ack) s = .next ({ s with pwr.waiting := [], pwr.acked := s.pwr.acked ++ [p], pwr.started := false }.wb PWR_STATUS_COMMITTED true))
        ∧ (∀ r : BitVec 8, s.pwr.kind = .entry → s.refusal p = some r.toNat → exec (.participantAck p (.refuse r)) s = .next ((s.refuseWith (partBlock p) r.toNat).abortEntry 4 true))
        ∧ (partUnbound p = true → exec (.participantDelayTimeout p) s = .next s)
        ∧ (partUnbound p = false → s.pwr.kind = .entry → exec (.participantDelayTimeout p) s = .next (((s.refuseWith (partBlock p) 0).report (srcId SYS 0 0)).abortEntry 5 true))))
    ∧ (∀ b : Fin 6, s.pwr.kind = .idle →
      ((wakeStates b.val).contains (s.rf PWR_STATUS_STATE) = false → exec (.wakeEvent b) s = .next s)
      ∧ ((wakeStates b.val).contains (s.rf PWR_STATUS_STATE) = true → s.wakeOn b.val = false → exec (.wakeEvent b) s = .next (s.wbit WAKE_STATUS_SEEN b.val true))
      ∧ (s.rf PWR_STATUS_STATE = 1 → b.val = 0 ∨ b.val = 5 → ∃ t : State, exec (.wakeEvent b) s = .next t ∧ t.pwr.kind = .exit ∧ t.pwr.exitFrom = 1 ∧ t.rb PWR_STATUS_BUSY = true ∧ t.rbit WAKE_STATUS_SEEN b.val = true))
    ∧ (∀ b : Fin 6, s.pwr.kind = .entry → s.rb PWR_STATUS_COMMITTED = true → b.val = 0 ∨ b.val = 5 → (wakeStates b.val).contains (s.rf PWR_STATUS_PEND) = true →
      exec (.wakeEvent b) s = .next ((s.wbit WAKE_STATUS_SEEN b.val true).wb WAKE_STATUS_REPLAY true))
    ∧ (∀ b : Bool, (s.pwr.kind = .entry ∨ s.pwr.kind = .forced) → s.rf PWR_STATUS_COMMITTED = 0 → ∃ t : State, s.abortEntry 4 b = t ∧ t.pwr.kind = .idle ∧ t.rf PWR_STATUS_RESULT = 4 ∧ t.rb PWR_STATUS_BUSY = false
      ∧ t.rf PWR_STATUS_STAGE = 0 ∧ t.rf PWR_STATUS_PEND = 0 ∧ t.pwr.waiting = [] ∧ t.rf PWR_STATUS_STATE = s.rf PWR_STATUS_STATE ∧ (s.rf PWR_STATUS_STATE ≤ 1 → ∀ c, c < s.nChan → t.rbit WR_STATUS_INHIBIT inhPOWER c = false))
    ∧ ((s.pwr.kind = .forced → exec .pwrdis s = .next { s with pwr.byPwrdis := true })
      ∧ (s.pwr.kind = .entry → s.rb PWR_STATUS_COMMITTED = true → exec .pwrdis s = .next { s with pwr.byPwrdis := true, pwr.pwrdisLater := true })
      ∧ (s.pwr.kind = .idle → s.rf PWR_STATUS_STATE = 4 → exec .pwrdis s = .next { s with pwr.byPwrdis := true })
      ∧ (s.pwr.kind = .idle → s.rf PWR_STATUS_STATE ≠ 4 → ∃ t : State, exec .pwrdis s = .next t ∧ t.pwr.kind = .forced ∧ t.rf PWR_STATUS_PEND = 4 ∧ t.sched = [] ∧ t.savedStripes = some s.openStripes ∧ t.pwr.byPwrdis = true
        ∧ ∀ c, c < s.nChan → t.rbit WR_STATUS_INHIBIT inhPOWER c = true))

/-- Domain switches and exits, resets, lost clocks, the steps of start-up. (R363, R430, R466, R474, R475, R479, R481, R484, R485, R488, R490, R512) -/
def Obligations.ResetsClocksAndStartUp : Prop :=
  ∀ s : State,
    (∀ k : BitVec 16, k ≠ 0x5A3C → exec (.swReset k) s = .next s)
    ∧ (∀ (c : Instr) (bit : Nat) (strap : BitVec 8), (c, bit) = (Instr.swReset 0x5A3C, 2) ∨ (s.pwr.por = false ∧ (c, bit) = (Instr.resetN true strap, 1)) ∨ (s.pwr.inReset = false ∧ (c, bit) = (Instr.por true strap, 0)) →
      ∃ t : State, exec c s = .next t ∧ t.rf RST_CAUSE_CAUSE = 2 ^ bit ∧ t.mode = modeBoot ∧ t.pwr.startStep = State.reset.pwr.startStep ∧ t.cmds = [] ∧ t.sr = [] ∧ t.dirty = [] ∧ t.zl.sessions = [] ∧ t.od = [] ∧ t.odRun = []
        ∧ t.store = s.store ∧ t.storeValid = s.storeValid ∧ t.writeGen = s.writeGen ∧ t.holes = s.holes ∧ t.gdl = s.gdl ∧ t.pdl = s.pdl ∧ t.recd.keep = s.recd.keep ∧ t.recd.ring = s.recd.ring ∧ t.recd.header = s.recd.header
        ∧ t.sec.dm = s.sec.dm ∧ t.sec.mg = s.sec.mg ∧ t.sec.minSvn = s.sec.minSvn ∧ t.sec.imgA = s.sec.imgA ∧ t.sec.imgB = s.sec.imgB ∧ t.health = s.health ∧ t.part = s.part ∧ t.pending = s.pending
        ∧ t.zl.strap = (if bit = 2 then s.zl.strap else strap.toNat))
    ∧ (∀ strap : BitVec 8, (∃ t : State, exec (.resetN false strap) s = .next t ∧ t.pwr.inReset = true ∧ t.pwr.por = s.pwr.por ∧ t.cmds = [] ∧ t.store = s.store)
      ∧ (∃ t : State, exec (.por false strap) s = .next t ∧ t.pwr.por = true ∧ t.pwr.inReset = s.pwr.inReset ∧ t.cmds = [] ∧ t.store = s.store ∧ t.resv = s.resv.filter (fun p => p.2.ptpl))
      ∧ (s.pwr.por = true → exec (.resetN true strap) s = .next { s with pwr.inReset := false }) ∧ (s.pwr.inReset = true → exec (.por true strap) s = .next { s with pwr.por := false }))
    ∧ (s.rb CLK_STATUS_AON_SRC = false → exec .crystalLoss s = .next s)
    ∧ (s.rb CLK_STATUS_AON_SRC = true → exec .crystalLoss s = .next ((s.wb CLK_STATUS_AON_SRC false).report (srcId SYS 0 1)))
    ∧ (∀ k : Fin 4, (s.rbit CLK_STATUS_LOCK k.val = false → exec (.pllLockLoss k) s = .next s)
      ∧ (s.rbit CLK_STATUS_LOCK k.val = true → exec (.pllLockLoss k) s = .next ((s.wbit CLK_STATUS_LOCK k.val false).report (srcId SYS 0 2))))
    ∧ (∀ m : Bool, (s.pwr.inReset = true ∨ s.pwr.por = true ∨ s.rb FC_STATUS_FATAL = true ∨ (s.rf PWR_STATUS_STATE = 4 ∧ s.pwr.kind ≠ .exit) → exec (.startupStepDone m) s = .next s)
      ∧ (s.pwr.inReset = false → s.pwr.por = false → s.rb FC_STATUS_FATAL = false → s.rf PWR_STATUS_STATE ≠ 4 →
        (s.pwr.startStep = 1 → ∃ t : State, exec (.startupStepDone m) s = .next t ∧ t.pwr.startStep = 2 ∧ t.fc.alive = true ∧ t.dom domAON = 3)
        ∧ (s.pwr.startStep = 3 → exec (.startupStepDone m) s = .next { s.bootSelect with pwr.startStep := 4 })
        ∧ (s.pwr.startStep = 4 → s.mode ≠ modeService → s.mode ≠ modeTest → exec (.startupStepDone m) s = .next { s with pwr.bootDone := true, pwr.startStep := 4 })
        ∧ (s.pwr.startStep = 6 → s.buf.filled = false ∨ s.rolesRead = false → exec (.startupStepDone m) s = .next s)
        ∧ (s.pwr.startStep = 6 → s.buf.filled = true → s.rolesRead = true → exec (.startupStepDone m) s = .next { s.commitGoBoot with pwr.startStep := 7 })
        ∧ (s.pwr.startStep = 7 → s.rf CFG_STATUS_STATE ≠ 0 ∨ s.rb CFG_STATUS_REFUSED = true ∨ s.mode = modeRecovery → exec (.startupStepDone m) s = .next s)
        ∧ (s.pwr.startStep = 8 → s.spAdmitted = false → exec (.startupStepDone m) s = .next s)
        ∧ (s.pwr.startStep = 8 → s.spAdmitted = true → exec (.startupStepDone m) s = .next { s.spStart with pwr.startStep := 9 })
        ∧ (s.pwr.startStep = 9 → s.sp ≠ spRUN → exec (.startupStepDone m) s = .next s)
        ∧ (s.pwr.startStep = 10 → (∀ a, a < s.nAct → s.act a ≠ acLOADING) → exec (.startupStepDone m) s = .next { s with pwr.startStep := 11 })
        ∧ (s.pwr.startStep = 12 → exec (.startupStepDone m) s = .next s)))
    ∧ (∀ l, s.crossing = [] → s.pwr.kind = .idle →
      (s.pwr.startStep ≠ 11 → exec (.startupTablesRead l) s = .next s)
      ∧ (s.pwr.startStep = 11 → ∃ t : State, exec (.startupTablesRead l) s = .next t ∧ t.pwr.startStep = 12 ∧ (s.savedStripes ≠ none → t.pwr.ready = (s.mode == modeService && s.purge.isNone) ∧ t.savedStripes = none ∧ t.regs = s.regs)))
    ∧ (s.pwr.kind = .exit → s.exitReady = false → exec .powerExitDone s = .next s)
    ∧ (s.pwr.kind = .exit → s.exitReady = true → s.crossing = [] → s.pwr.exitFrom = 2 → ∃ t : State, exec .powerExitDone s = .next t ∧ t.rf PWR_STATUS_STATE = 0 ∧ t.rb PWR_STATUS_BUSY = false ∧ t.pwr.kind = .idle
      ∧ ∀ c, c < s.nChan → t.rbit WR_STATUS_INHIBIT inhPOWER c = false)
    ∧ (s.pwr.kind = .idle ∨ s.pwr.kind = .exit ∨ s.rb PWR_STATUS_COMMITTED = false → exec .domainsSwitched s = .next s)
    ∧ (∀ n : Nat, s.pwr.kind = .entry → s.rb PWR_STATUS_COMMITTED = true → s.rf PWR_STATUS_PEND = n → 1 ≤ n → n ≤ 3 → s.pwr.pwrdisLater = false → s.rb WAKE_STATUS_REPLAY = false → ∃ t : State, exec .domainsSwitched s = .next t
      ∧ t.rf PWR_STATUS_STATE = n ∧ t.rf PWR_STATUS_RESULT = 2 ∧ t.rb PWR_STATUS_BUSY = false ∧ t.rb PWR_STATUS_COMMITTED = false ∧ t.pwr.kind = .idle ∧ t.dom domCHA = 1 ∧ t.dom domAON = 3 ∧ t.dom domMGT = 3
      ∧ (n = 3 → t.dom domMOT = 0) ∧ (n ≤ 2 → t.dom domMOT = 3) ∧ t.lane = [] ∧ t.od = s.od ∧ t.odRun = s.odRun)

/-- Records enter the staging buffer, flushes store them, freezes hold them, reads return them whole. (R491, R493, R494, R495, R496, R497, R499, R502, R503) -/
def Obligations.RecorderStagesAndFlushes : Prop :=
  ∀ s : State,
    (s.recd.inbox = [] → exec .recordStage s = .next s)
    ∧ (∀ (chip : Bool) (r : Rec) (l : List (Bool × Rec)), s.recd.inbox = (chip, r) :: l →
      (chip = false → r.minor = true → s.par 0x9000 7 < s.recd.rate → ∃ t : State, exec .recordStage s = .next t ∧ t.recd = { s.recd with inbox := l, cur.suppressed := min (s.recd.cur.suppressed + 1) (2 ^ 32 - 1) }
        ∧ { t with regs := s.regs, recd := s.recd } = s)
      ∧ (chip = false → r.minor = false → 512 ≤ s.recd.staged.length → s.recd.freeze = .running → ∃ t : State, exec .recordStage s = .next t ∧ t.recd = { s.recd with inbox := l, cur.lost := min (s.recd.cur.lost + 1) (2 ^ 32 - 1) }
        ∧ { t with regs := s.regs, recd := s.recd } = s)
      ∧ (chip = false → r.minor = true → s.recd.rate ≤ s.par 0x9000 7 → s.recd.staged.length < 255 → s.pwr.pfail = false → ∃ t : State, exec .recordStage s = .next t
        ∧ t.recd = { s.recd with inbox := l, staged := s.recd.staged ++ [{ r with seq := s.recd.cur.seqNext }], cur.seqNext := s.recd.cur.seqNext + 1, rate := s.recd.rate + 1 }
        ∧ t.zl.sessions.length = s.zl.sessions.length ∧ t.regs = s.regs)
      ∧ (chip = false → r.kind = 2 ∨ r.kind = 3 → 255 ≤ s.recd.staged.length → s.recd.staged.length < 512 → ∃ t : State, exec .recordStage s = .next t ∧ t.recd.flushing = true
        ∧ t.recd.staged = s.recd.staged ++ [{ r with seq := s.recd.cur.seqNext }]))
    ∧ (s.recd.flushing = false ∨ s.recd.freeze = .frozen ∨ s.recd.blocked = true → exec .recorderFlush s = .next s)
    ∧ (s.recd.flushing = true → s.recd.freeze ≠ .frozen → s.recd.blocked = false → ∃ t : State, exec .recorderFlush s = .next t ∧ t.recd.staged = [] ∧ t.recd.flushing = false ∧ t.recd.header = t.recd.cur
      ∧ t.recd.cur.gen = s.recd.cur.gen + 1 ∧ t.recd.cur.seqNext = s.recd.cur.seqNext ∧ t.recd.inbox = s.recd.inbox ∧ (s.recd.freeze = .freezing → t.recd.freeze = .frozen) ∧ (s.recd.freeze = .running → t.recd.freeze = .running)
      ∧ ((∀ r ∈ s.recd.staged, r.seq < 16384) → (s.recd.staged.map (fun r => r.seq)).Nodup → t.recd.ring = s.recd.ring ∧ (∀ r ∈ s.recd.staged, tabFind t.recd.keep r.seq = some r ∧ r.seq < t.recd.cur.keepCount)
        ∧ ∀ k, (∀ r ∈ s.recd.staged, r.seq ≠ k) → tabFind t.recd.keep k = tabFind s.recd.keep k)
      ∧ (∀ r, s.recd.staged = [r] → 16384 ≤ r.seq → t.recd.ring = tabSet s.recd.ring s.recd.cur.wrIdx r ∧ t.recd.cur.wrIdx = (s.recd.cur.wrIdx + 1) % 16384 ∧ t.recd.keep = s.recd.keep))
    ∧ exec .flushTimer s = .next { s with recd.rate := 0, recd.flushing := true }
    ∧ exec .rcFlush s = .next { s.wb RC_CTRL_FLUSH true with recd.flushing := true }
    ∧ (s.recd.freeze = .running → exec .rcFreeze s = .next { s with recd.freeze := if s.recd.flushing then .freezing else .frozen, recd.lostInFreeze := 0 } ∧ exec .rcThaw s = .next s ∧ exec .freezeLimitExpiry s = .next s)
    ∧ (s.recd.freeze ≠ .running → exec .rcFreeze s = .next s
      ∧ (∀ c : Instr, c = .rcThaw ∨ c = .freezeLimitExpiry → exec c s = .next { s with recd.freeze := .running, recd.inbox := s.recd.inbox ++ [(false, s.mkRec 3 0 0 0 0x04 s.recd.lostInFreeze 0)], recd.flushing := true }))
    ∧ (∀ r : Rec, r.body.length = 60 ∧ r.bytes = r.body ++ leBytes 4 (crc32c r.body) ∧ r.bytes.length = 64)
    ∧ (∀ q : Fin 8, (∀ b, s.rcSlot (s.rf RC_READ_AREA q.val) (s.rf RC_READ_INDEX q.val) = none → exec (.rcReadGo q b) s = .next (s.wf RC_READ_RESULT 3 q.val))
      ∧ (∀ r, s.rcSlot (s.rf RC_READ_AREA q.val) (s.rf RC_READ_INDEX q.val) = some r →
        (∃ t : State, exec (.rcReadGo q false) s = .next t ∧ t.rf RC_READ_RESULT q.val = 2 ∧ { t with regs := s.regs } = s ∧ (∀ w, w < 16 → t.rf RC_DATA_DATA q.val w = leNat ((r.bytes.drop (4 * w)).take 4)))
        ∧ (∃ t : State, exec (.rcReadGo q true) s = .next t ∧ t.rf RC_READ_RESULT q.val = 4 ∧ { t with regs := s.regs, free := s.free } = s)))
    ∧ (s.pwr.pfail = false → exec .pfailHeaderFinal s = .next s)
    ∧ (s.pwr.pfail = true → ∃ t : State, exec .pfailHeaderFinal s = .next t ∧ t.recd.blocked = true ∧ t.recd.flushing = false ∧ t.recd.header = t.recd.cur ∧ t.recd.cur.gen = s.recd.cur.gen + 1 ∧ { t with recd := s.recd } = s
      ∧ (s.recd.freeze ≠ .frozen → s.recd.blocked = false → t.recd.staged = []) ∧ (s.recd.freeze = .frozen → t.recd.staged = s.recd.staged))
    ∧ (∀ h : BitVec 32, (s.bgHeld = false → exec (.healthInterval h []) s = .next { s with recd.inbox := s.recd.inbox ++ [(false, s.mkRec 2 0 0 0 0 (s.percentUsed + 256 * s.worst.2.conf + 65536 * s.worst.1) s.worst.2.p10)] })
      ∧ ∀ x : Sample, (s.indPresent x.k.toNat = false → s.healthSample h.toNat x = s)
        ∧ (s.indPresent x.k.toNat = true → s.indRetired x.k.toNat = true → s.healthSample h.toNat x = { s with health := tabSet s.health x.k.toNat { s.ind x.k.toNat with conf := 3 } })
        ∧ (s.indPresent x.k.toNat = true → s.indRetired x.k.toNat = false → s.indOff x.k.toNat = true → s.healthSample h.toNat x = { s with health := tabSet s.health x.k.toNat { s.ind x.k.toNat with conf := 4 } }))

/-- A clear outside Service mode flushes, zeroes the counts in a new header, counts itself and stages CLEARED as record 0. (R498) -/
def Obligations.RecorderClear : Prop :=
  ∀ s : State,
    (s.mode = modeService ∨ s.recd.freeze ≠ .running → exec .rcClear s = .next s ∧ s.rcClear = s)
    ∧ (s.mode ≠ modeService → s.recd.freeze = .running → ∃ (t : State) (d : Recorder), exec .rcClear s = .next t ∧ s.rcClear = t ∧ { t with recd := s.recd } = s ∧ d = s.recd.flush
      ∧ t.recd.keep = d.keep ∧ t.recd.ring = d.ring ∧ t.recd.header.gen = d.cur.gen + 1 ∧ t.recd.header.keepCount = 0 ∧ t.recd.header.wrIdx = 0 ∧ t.recd.header.wrapped = false ∧ t.recd.header.seqNext = 0
      ∧ t.recd.cur.keepCount = 0 ∧ t.recd.cur.wrIdx = 0 ∧ t.recd.cur.wrapped = false ∧ t.recd.cur.clearCount = s.recd.cur.clearCount + 1
      ∧ (∃ r : Rec, t.recd.staged = [r] ∧ r.seq = 0 ∧ r.kind = 3 ∧ r.detail = 0x01 ∧ r.ext0 = s.recd.cur.clearCount + 1 ∧ t.recd.cur.seqNext = 1)
      ∧ (∀ r ∈ s.recd.staged, r.seq < 16384 → (s.recd.staged.map (fun x => x.seq)).Nodup → tabFind t.recd.keep r.seq = some r)
      ∧ (∀ area ix, t.rcSlot area ix = none) ∧ (∀ (q : Fin 8) (b : Bool), exec (.rcReadGo q b) t = .next (t.wf RC_READ_RESULT 3 q.val)))
    ∧ (∀ (area ix : Nat) (q : Fin 8) (b : Bool), s.rf RC_READ_AREA q.val = area → s.rf RC_READ_INDEX q.val = ix → (area = 0 ∧ s.recd.cur.keepCount ≤ ix) ∨ (area = 1 ∧ s.recd.cur.wrapped = false ∧ s.recd.cur.wrIdx ≤ ix) →
      exec (.rcReadGo q b) s = .next (s.wf RC_READ_RESULT 3 q.val))
    ∧ (∀ src : Fin 16, s.odRuns = true → s.sec.sw = none → 2 ≤ s.srcRole src.val → s.wrEn 2 SYS = true → s.dom domSYS = 3 →
      (s.mode = modeService → exec (.dictionaryWrite src 0x9000 9 [3]) s = .next (s.emit (.od src.val 0x06 [])))
      ∧ (s.mode ≠ modeService → exec (.dictionaryWrite src 0x9000 9 [3]) s = .next (s.rcClear.emit (.od src.val 0 []))))
    ∧ (∀ q : Fin 8, q.val ≠ 2 → tabFind s.crossing q.val = none → s.wrEn q.val 0 = true → s.dom domSYS = 3 → s.fc.restarting = [] → exec (.registerWrite q 0x014000 8 4) s = .next s.rcClear)

/-- The bit-alias window reads one bit and writes one bit. (R413) -/
def Obligations.BitAliasWindow : Prop :=
  ∀ (s : State) (q : Fin 8) (r : Fin 5) (o : BitVec 13) (b : Fin 32) (v : Word), q.val ≠ 2 → s.dom domSYS = 3 → tabFind s.crossing q.val = none →
    ∀ (c a : Nat), c = r.val * 0x8000 + 4 * o.toNat → a = 0xB00000 + c * 32 + b.val * 4 →
    s.area18 a = .bits r.val (4 * o.toNat) b.val
    ∧ (∃ x : Nat, x < 2 ∧ x = s.wordAt (ctlFields r.val (4 * o.toNat)) / 2 ^ b.val % 2 ∧ exec (.registerRead q (BitVec.ofNat 24 a) 4) s = .next (s.emit (.bus q.val 0 x)))
    ∧ exec (.bitAliasWrite q r o b v) s = exec (.bitAliasWrite q r o b (v &&& 1)) s
    ∧ (s.mode = modeService → o = 1 ∨ s.wrEn q.val r.val = true → ∃ t : State, exec (.bitAliasWrite q r o b v) s = .next t ∧ { t with regs := s.regs } = s
      ∧ (∀ p ∈ ctlFields r.val (4 * o.toNat),
        (∀ k, k < p.1.width → p.1.lo + k ≠ b.val → bitOf (t.rf p.1 p.2.1 p.2.2) k = bitOf (s.rf p.1 p.2.1 p.2.2) k)
        ∧ (p.1.acc = .rw → p.1.lo ≤ b.val → b.val < p.1.lo + p.1.width → bitOf (t.rf p.1 p.2.1 p.2.2) (b.val - p.1.lo) = v.getLsbD 0)
        ∧ (p.1.acc = .w1c → p.1.lo ≤ b.val → b.val < p.1.lo + p.1.width → bitOf (t.rf p.1 p.2.1 p.2.2) (b.val - p.1.lo) = (bitOf (s.rf p.1 p.2.1 p.2.2) (b.val - p.1.lo) && !v.getLsbD 0))
        ∧ (p.1.acc = .ro ∨ p.1.acc = .rc ∨ p.1.acc = .rws → t.rf p.1 p.2.1 p.2.2 = s.rf p.1 p.2.1 p.2.2))
      ∧ (∀ k, (∀ p ∈ ctlFields r.val (4 * o.toNat), p.1.key p.2.1 p.2.2 ≠ k) → tabFind t.regs k = tabFind s.regs k))

/-- Key slots, confirmation, MIN_SVN, requests for the next reset, and the quote. (R508, R510, R511, R513, R515, R519, R525, R432) -/
def Obligations.KeysConfirmationsAndQuote : Prop :=
  ∀ s : State,
    (∀ (src : Fin 16) (m : Bool) (k : Fin 8) (key : BitVec 512) (role : BitVec 8) (sig : Bool) (a : Nat), a = s.odPre (s.srcRole src.val) (keyIx m k.val) (if m then 4 else 3) true false →
      (s.odRuns = false → exec (.keySlotWrite src m k key role sig) s = .next s ∧ exec (.quote src) s = .next s)
      ∧ (s.odRuns = true → a ≠ 0 → exec (.keySlotWrite src m k key role sig) s = .next (s.emit (.od src.val a [])))
      ∧ (s.odRuns = true → a = 0 → ∀ live : Nat, live = (s.keySlots m).countP (fun x => x.st == .enrolled) →
        (key = 0 → live = 1 → (s.oneKey m k.val).st = .enrolled → exec (.keySlotWrite src m k key role sig) s = .next (s.emit (.od src.val 9 [])))
        ∧ (key ≠ 0 → m = true → role.toNat = 0 ∨ 3 < role.toNat → exec (.keySlotWrite src m k key role sig) s = .next (s.emit (.od src.val 10 [])))
        ∧ ((key = 0 → live ≠ 1 ∨ (s.oneKey m k.val).st ≠ .enrolled) → (key ≠ 0 → m = true → 1 ≤ role.toNat ∧ role.toNat ≤ 3) →
          (s.wrEn 2 SYS = false → exec (.keySlotWrite src m k key role sig) s = .next (s.emit (.od src.val odLOCKED [])))
          ∧ (s.wrEn 2 SYS = true → live ≠ 0 → sig = false → exec (.keySlotWrite src m k key role sig) s = .next (s.emit (.od src.val odAUTH [])))
          ∧ (s.wrEn 2 SYS = true → live = 0 ∨ sig = true →
            (key ≠ 0 → exec (.keySlotWrite src m k key role sig) s = .next ((s.putKey m k.val { st := .enrolled, key := key, role := if m then role.toNat else 0 }).emit (.od src.val 0 [])))
            ∧ (key = 0 → ∃ t : State, exec (.keySlotWrite src m k key role sig) s = .next (t.emit (.od src.val 0 [])) ∧ t.oneKey m k.val = { st := .revoked, key := 0, role := 0 } ∧ t.regs = s.regs ∧ (m = false → t.zl = s.zl)
              ∧ (∀ j, j < 8 → j ≠ k.val → t.mgSlot j = s.mgSlot j ∧ t.dmSlot j = s.dmSlot j) ∧ (∀ (n : Nat) (x : Session), m = true → s.zl.sessions = [(n, x)] → t.zl.sessions = if x.key = k.val then [] else [(n, x)])))))
      ∧ (0 < (s.keySlots m).countP (fun x => x.st == .enrolled) → ∃ t : State, exec (.keySlotWrite src m k key role sig) s = .next t ∧ 0 < (t.keySlots m).countP (fun x => x.st == .enrolled)))
    ∧ (∀ q : Fin 8, (q.val < 3 ∨ 6 < q.val → ∀ c : Instr, c = .secConfirm q ∨ c = .svnCommit q ∨ c = .secRecovery q ∨ c = .secTest q → exec c s = .next s)
      ∧ (3 ≤ q.val → q.val ≤ 6 →
        (s.sec.sw = none → s.pwr.startStep ≠ 12 ∨ s.rb SEC_STATUS_PENDING_BOOT = false → exec (.secConfirm q) s = .next s)
        ∧ (s.sec.sw = none → s.pwr.startStep = 12 → s.rb SEC_STATUS_PENDING_BOOT = true → s.sec.sel.pending ≠ 0xFF → ∃ t : State, exec (.secConfirm q) s = .next t ∧ t.rb SEC_STATUS_PENDING_BOOT = false
          ∧ t.sec = { s.sec with sel := { s.sec.sel with active := s.sec.sel.pending, pending := 0xFF, tries := 0, gen := s.sec.sel.gen + 1 } } ∧ t.od = s.od)
        ∧ (∀ i : ImageInfo, i = s.image (1 - s.rf SEC_STATUS_BOOT_SLOT) →
          (s.verifyImage i = 0 → i.svn.toNat < s.rf SEC_FWSVN_FW_SVN → exec (.svnCommit q) s = .next s)
          ∧ (s.verifyImage i ≠ 0 ∨ s.rf SEC_FWSVN_FW_SVN ≤ i.svn.toNat → ∃ t : State, exec (.svnCommit q) s = .next t ∧ s.sec.minSvn ≤ t.sec.minSvn ∧ s.rf SEC_FWSVN_FW_SVN ≤ t.sec.minSvn ∧ { t with sec.minSvn := s.sec.minSvn } = s))
        ∧ exec (.secRecovery q) s = .next { s with sec.sel := { s.sec.sel with recoveryReq := true, gen := s.sec.sel.gen + 1 } }
        ∧ exec (.secTest q) s = .next { s with sec.sel := { s.sec.sel with testReq := true, gen := s.sec.sel.gen + 1 } }))
    ∧ (∀ (src : Fin 16) (a : Nat), s.odRuns = true → a = s.odPre (s.srcRole src.val) 0xB030 2 false false → (a ≠ 0 → exec (.quote src) s = .next (s.emit (.od src.val a [])))
      ∧ (a = 0 → s.dom (odOwner 0xB030 2).2 ≠ 3 → exec (.quote src) s = .next (s.emit (.od src.val odOFF [])))
      ∧ (a = 0 → s.dom (odOwner 0xB030 2).2 = 3 → ∃ (t : State) (b : List Byte), exec (.quote src) s = .next t ∧ t.out = .od src.val 0 b :: .quote src.val (s.sec.quoteCount + 1) b :: s.out
        ∧ t.sec.quoteCount = s.sec.quoteCount + 1 ∧ { t with out := s.out, free := s.free, sec.quoteCount := s.sec.quoteCount } = s ∧ b.take 4 = [0x4F, 0x41, 0x54, 0x51]
        ∧ (tabFind s.nonce src.val = none → b.length = 296 ∧ b[6]? = some (BitVec.ofNat 8 s.mode) ∧ (b.drop 8).take 32 = List.replicate 32 0 ∧ leNat ((b.drop 204).take 4) = s.sec.minSvn % 2 ^ 32
          ∧ leNat ((b.drop 216).take 8) = (s.sec.quoteCount + 1) % 2 ^ 64 ∧ leNat ((b.drop 224).take 8) = s.coreTime.toNat % 2 ^ 64)))

/-- Download parts, commits, and the steps of a switch-over. (R512, R513, R516, R517, R518, R432) -/
def Obligations.FirmwareDownloadsCommitsAndSwitchover : Prop :=
  ∀ s : State,
    (∀ (src : Fin 16) (q : Fin 2) (cid : BitVec 16) (im : ImageInfo) (bytes : List Byte) (o : BitVec 32) (x y : BitVec 3), s.sec.sw.isSome = true →
      (∀ c : Instr, c = .fwChunk src bytes ∨ c = .fwWrite src im ∨ c = .fwWriteAtReset src im ∨ c = .fwActivateAtReset src ∨ c = .fwWriteNow src im ∨ c = .mtRetire src ∨ c = .mtRecalibrate src ∨ c = .firmwareDownload q cid o bytes ∨ c = .firmwareCommit q cid x y im →
        exec c s = .next s)
      ∧ (s.rf SEC_SWITCH_STATE = 3 ∨ s.rf SEC_SWITCH_STATE = 4 → ∀ (c : Instr) (p : Fin 16) (h : BitVec 32) (l : List Sample), c = .recoveryRewrite ∨ c = .mediaScrub h p ∨ c = .objectCompact p ∨ c = .healthInterval h l → exec c s = .next s))
    ∧ (∀ (src : Fin 16) (l : List Byte) (a o : Nat), s.odRuns = true → s.sec.sw = none → a = s.odWriteStatus (s.srcRole src.val) 0xB050 2 l false → o = s.src 0xB050 1 src.val 0 →
      (a ≠ 0 → exec (.fwChunk src l) s = .next (s.emit (.od src.val a [])))
      ∧ (a = 0 → (s.sec.dl = none → (o ≠ 0 → exec (.fwChunk src l) s = .next (s.emit (.od src.val odSEGMENT []))) ∧ (o = 0 → l.length ≤ 2 ^ 22 →
          exec (.fwChunk src l) s = .next ({ s with sec.dl := some { owner := .od src, size := l.length, parts := 1 } }.emit (.od src.val 0 []))))
        ∧ (∀ d : Download, s.sec.dl = some d → (d.owner ≠ .od src → exec (.fwChunk src l) s = .next (s.emit (.od src.val odNORES [])))
          ∧ (d.owner = .od src → 2 ^ 22 < o + l.length → exec (.fwChunk src l) s = .next (s.emit (.od src.val odRANGE [])))
          ∧ (d.owner = .od src → o + l.length ≤ 2 ^ 22 → exec (.fwChunk src l) s = .next ({ s with sec.dl := some { d with size := max d.size (o + l.length), parts := d.parts + 1 } }.emit (.od src.val 0 []))))))
    ∧ exec .downloadIdleTimeout s = .next { s with sec.dl := none }
    ∧ (∀ (src : Fin 16) (im : ImageInfo) (d : Download) (j : Nat), s.odRuns = true → s.sec.sw = none → s.src 0xB050 3 src.val 1 = j + 1 → j < 2 →
      (∀ (v : Nat) (c : Instr), (v = 1 ∧ c = .fwWrite src im) ∨ (v = 2 ∧ c = .fwWriteAtReset src im) ∨ (v = 4 ∧ c = .fwWriteNow src im) → s.odWriteStatus (s.srcRole src.val) 0xB050 4 (leBytes 1 v) false = 0 → s.sec.dl = some d →
        (d.owner ≠ .od src → exec c s = .next (s.emit (.od src.val odNORES [])))
        ∧ (d.owner = .od src → ∃ t : State, exec c s = .next (t.emit (.od src.val 0 [])) ∧ t.sec.dl = none ∧ t.od = s.od ∧ t.out = s.out ∧ t.image (1 - j) = s.image (1 - j)
          ∧ (s.mode ≠ modeRecovery → j = s.rf SEC_STATUS_BOOT_SLOT → t.rf SEC_SWITCH_RESULT = 0x12 ∧ t.sec = { s.sec with dl := none })
          ∧ (s.mode = modeRecovery ∨ j ≠ s.rf SEC_STATUS_BOOT_SLOT →
            (s.verifyImage im ≠ 0 → t.rf SEC_SWITCH_RESULT = s.verifyImage im ∧ t.sec = { s.sec with dl := none })
            ∧ (s.verifyImage im = 0 → t.rf SEC_SWITCH_RESULT = 0 ∧ t.image j = im ∧ t.sec.sel.active = s.sec.sel.active ∧ (v = 2 → t.sec.sel.pending = j ∧ t.sec.sel.tries = 0) ∧ (v ≠ 2 → t.sec.sel.pending = s.sec.sel.pending)
              ∧ (v = 4 → t.rf SEC_SWITCH_STATE = 2 ∧ t.sec.sw = some { slot := j, old := s.rf SEC_STATUS_BOOT_SLOT, owner := .od src, cid := 0 }) ∧ (v ≠ 4 → t.sec.sw = none)
              ∧ (s.mode = modeRecovery → s.sec.sel.recoveryReq = true → t.sec.sel.recoveryReq = false)))))
      ∧ (s.odWriteStatus (s.srcRole src.val) 0xB050 4 (leBytes 1 3) false = 0 → ∃ t : State, exec (.fwActivateAtReset src) s = .next (t.emit (.od src.val 0 [])) ∧ t.rf SEC_SWITCH_RESULT = s.verifyImage (s.image j)
        ∧ t.sec = if s.verifyImage (s.image j) = 0 then { s.sec with sel := { s.sec.sel with pending := j, tries := 0, gen := s.sec.sel.gen + 1 } } else s.sec))
    ∧ (∀ (t u : State) (q : Fin 2) (cid : BitVec 16) (im : ImageInfo) (l : List Byte) (o : BitVec 32) (j : BitVec 3), s.sec.sw = none → s.nextTurn = some (t, nvPart q.val 0) →
      u = ((t.modSq q.val 0 (fun x => { x with head := (x.head + 1) % max 1 x.size })).modCq q.val 0 (fun x => { x with credits := x.credits + 1 })).turnCount (nvPart q.val 0) →
      (u.sec.dl = none → (o.toNat ≠ 0 → exec (.firmwareDownload q cid o l) s = .next (u.adminDone q.val cid.toNat scFIELD 0))
        ∧ (o.toNat = 0 → l.length ≤ 2 ^ 22 → exec (.firmwareDownload q cid o l) s = .next ({ u with sec.dl := some { owner := .nvme q, size := l.length, parts := 1 } }.adminDone q.val cid.toNat 0 0)))
      ∧ (∀ d : Download, u.sec.dl = some d → d.owner ≠ .nvme q → exec (.firmwareDownload q cid o l) s = .next (u.adminDone q.val cid.toNat scFIELD 0) ∧ exec (.firmwareCommit q cid 0 1 im) s = .next (u.adminDone q.val cid.toNat scFIELD 0))
      ∧ (2 < j.toNat → exec (.firmwareCommit q cid 0 j im) s = .next (u.adminDone q.val cid.toNat 0x106 0)) ∧ exec (.firmwareCommit q cid 4 1 im) s = .next (u.adminDone q.val cid.toNat scFIELD 0)
      ∧ (∀ d : Download, u.sec.dl = some d → d.owner = .nvme q → u.rf SEC_STATUS_BOOT_SLOT = 0 → u.mode ≠ modeRecovery → ∃ w : State, w.sec.dl = none
        ∧ exec (.firmwareCommit q cid 1 1 im) s = .next (w.adminDone q.val cid.toNat 0x106 0) ∧ w.rf SEC_SWITCH_RESULT = 0x12
        ∧ (u.verifyImage im ≠ 0 → ∃ x : State, exec (.firmwareCommit q cid 3 0 im) s = .next (x.adminDone q.val cid.toNat 0x107 0) ∧ x.rf SEC_SWITCH_RESULT = u.verifyImage im ∧ x.image 1 = u.image 1)
        ∧ (u.verifyImage im = 0 → (∃ x : State, exec (.firmwareCommit q cid 0 2 im) s = .next (x.adminDone q.val cid.toNat 0 0) ∧ x.image 1 = im ∧ x.image 0 = u.image 0 ∧ x.sec.sel = u.sec.sel)
          ∧ (∃ x : State, exec (.firmwareCommit q cid 3 2 im) s = .next x ∧ x.image 1 = im ∧ x.rf SEC_SWITCH_STATE = 2 ∧ x.sec.sw = some { slot := 1, old := 0, owner := .nvme q, cid := cid.toNat } ∧ x.port = u.port ∧ x.out = u.out))))
    ∧ (s.sec.sw = none → exec .switchoverStepDone s = .next s ∧ exec .switchoverConfirmTimeout s = .next s)
    ∧ (∀ w : Switchover, s.sec.sw = some w →
      (s.rf SEC_SWITCH_STATE = 2 → exec .switchoverStepDone s = .next ((s.wf SEC_SWITCH_STATE 3).wf WD_STATUS_REMAIN s.wdPeriod)) ∧ (s.rf SEC_SWITCH_STATE = 3 → exec .switchoverStepDone s = .next (s.wf SEC_SWITCH_STATE 4))
      ∧ (s.rf SEC_SWITCH_STATE = 4 → w.slot < 2 → ∃ t : State, exec .switchoverStepDone s = .next t ∧ t.rf SEC_SWITCH_STATE = 5 ∧ t.rf SEC_STATUS_BOOT_SLOT = w.slot ∧ t.rf SEC_FWSVN_FW_SVN = (s.image w.slot).svn.toNat ∧ { t with regs := s.regs } = s)
      ∧ (s.rf SEC_SWITCH_STATE ≠ 5 → exec .switchoverConfirmTimeout s = .next s)
      ∧ (∀ src : Fin 16, w.owner = .od src → (s.rf SEC_SWITCH_STATE = 0 → exec .switchoverStepDone s = .next { s with sec.sw := none })
        ∧ (s.rf SEC_SWITCH_STATE = 5 → (∀ k : Fin 8, 3 ≤ k.val → k.val ≤ 6 → exec (.secConfirm k) s = exec .switchoverStepDone s)
          ∧ (∃ t : State, exec .switchoverStepDone s = .next t ∧ t.rf SEC_SWITCH_STATE = 0 ∧ t.rf SEC_SWITCH_RESULT = 0 ∧ t.rb SEC_STATUS_PENDING_BOOT = false ∧ t.sec = { s.sec with sw := none, sel := { s.sec.sel with active := w.slot, gen := s.sec.sel.gen + 1 } })
          ∧ (w.old < 2 → ∃ u : State, exec .switchoverConfirmTimeout s = .next (u.report (srcId SYS 8 32) 0 w.slot) ∧ u.rf SEC_SWITCH_STATE = 0 ∧ u.rf SEC_SWITCH_RESULT = 0x10 ∧ u.rf SEC_STATUS_BOOT_SLOT = w.old ∧ u.sec = { s.sec with sw := none })))
      ∧ (∀ (k : Nat) (e : PwrKind), k = 3 ∨ k = 4 → (s.rf SEC_SWITCH_STATE = 2 ∨ s.rf SEC_SWITCH_STATE = 3 → (s.entryBegin k e).rf SEC_SWITCH_STATE = 0 ∧ (s.entryBegin k e).rf SEC_SWITCH_RESULT = 0x11)
        ∧ (s.rf SEC_SWITCH_STATE = 4 ∨ s.rf SEC_SWITCH_STATE = 5 → (s.entryBegin k e).rf SEC_SWITCH_STATE = s.rf SEC_SWITCH_STATE)))

/-- Retirement, restoring and recalibration of units, the remap of a retired channel, and format images. (R518, R520, R521, R522, R523, R524, R207, R306, R427, R432) -/
def Obligations.MaintenanceAndFormatImages : Prop :=
  ∀ s : State,
    (∀ (src : Fin 16) (u k : Nat), s.odRuns = true → s.sec.sw = none → u = s.src 0x2030 1 src.val 0 → k = mtNum u →
      (∀ (v : Nat) (c : Instr) (b : Bool), (v = 1 ∧ c = .mtRetire src) ∨ (v = 2 ∧ c = .mtRestore src b) ∨ (v = 3 ∧ c = .mtRecalibrate src) →
        (∀ a, a = s.odWriteStatus (s.srcRole src.val) 0x2030 2 (leBytes 1 v) false → a ≠ 0 → exec c s = .next (s.emit (.od src.val a [])))
        ∧ (s.odWriteStatus (s.srcRole src.val) 0x2030 2 (leBytes 1 v) false = 0 → ∃ t : State, exec c s = .next (t.emit (.od src.val 0 []))
          ∧ (s.mtUnitOk u = false → t = s.setMt src.val 3 1)
          ∧ (s.mtUnitOk u = true →
            (v = 1 →
              (mtKind u = 0 → ((s.ch k).retired = true ∨ (s.ch k).retireBy ≠ none → t = s.setMt src.val 3 3)
                ∧ ((s.ch k).retired = false → (s.ch k).retireBy = none → s.actLoaded (k / 8) = true → (∀ n ∈ chansOf (k / 8), n ≠ k → (s.ch n).retired = true) → t = s.setMt src.val 3 2)
                ∧ ((s.ch k).retired = false → (s.ch k).retireBy = none → s.actLoaded (k / 8) = false → s.atBoundary k = false → t = (s.modCh k (fun x => { x with retireBy := some src.val })).setMt src.val 1 0)
                ∧ ((s.ch k).retired = false → (s.ch k).retireBy = none → s.actLoaded (k / 8) = false → s.atBoundary k = true → (t.ch k).retired = true ∧ (t.ch k).fifo = [] ∧ (t.lc k).live = false ∧ t.src 0x2030 4 src.val 0 = 2 ∧ t.src 0x2030 5 src.val 0 = 0))
              ∧ (mtKind u = 1 → (s.lnSt k = lnRETIRED ∨ s.lnSt k = lnRETIRING → t = s.setMt src.val 3 3) ∧ (s.lnSt k = lnIDLE → t.lnSt k = lnRETIRED ∧ t.src 0x2030 4 src.val 0 = 2))
              ∧ (mtKind u = 2 → (s.pcSt k = pcRETIRED ∨ s.pcSt k = pcRELOCATING → t = s.setMt src.val 3 3) ∧ (s.pcSt k = pcACTIVE → t.src 0x2030 4 src.val 0 = 2 ∧ (t.pcv k).due ≠ 0))
              ∧ (mtKind u = 3 → ((s.en k).retired = true → t = s.setMt src.val 3 3) ∧ ((s.en k).retired = false → (∀ e, e < 4 → e ≠ k → (s.en e).retired = true) → t = s.setMt src.val 3 2)
                ∧ (∀ e, e < 4 → e ≠ k → (s.en e).retired = false → (s.en k).retired = false → (t.en k).retired = true ∧ (t.en k).soft = true ∧ t.en e = s.en e ∧ t.src 0x2030 4 src.val 0 = 2))
              ∧ (mtKind u = 4 → t = if (s.hd k).retired = true then s.setMt src.val 3 3 else (s.modHd k (fun x => { x with retired := true })).setMt src.val 2 0))
            ∧ (v = 2 →
              (mtKind u = 0 → ((s.ch k).retired = false → t = s.setMt src.val 3 3) ∧ ((s.ch k).retired = true → s.rf SQ_ERR_HALT_CAUSE k = 1 → t = s.setMt src.val 3 7) ∧ ((s.ch k).retired = true → s.rf SQ_ERR_HALT_CAUSE k ≠ 1 → (t.ch k).retired = false ∧ t.src 0x2030 4 src.val 0 = 2))
              ∧ (mtKind u = 1 → (s.lnSt k ≠ lnRETIRED → t = s.setMt src.val 3 3) ∧ (s.lnSt k = lnRETIRED → s.rf LN_ERR_RET_CAUSE k = 2 ∨ s.rf LN_ERR_RET_CAUSE k = 3 → t = s.setMt src.val 3 7)
                ∧ (s.lnSt k = lnRETIRED → s.rf LN_ERR_RET_CAUSE k = 4 → t.lnSt k = (if b then lnIDLE else lnRETIRED) ∧ t.src 0x2030 4 src.val 0 = (if b then 2 else 3) ∧ t.src 0x2030 5 src.val 0 = (if b then 0 else 4)))
              ∧ (mtKind u = 2 → t = s.setMt src.val 3 7)
              ∧ (mtKind u = 3 → ((s.en k).retired = false → t = s.setMt src.val 3 3) ∧ ((s.en k).retired = true → (s.en k).soft = false → t = s.setMt src.val 3 7) ∧ ((s.en k).retired = true → (s.en k).soft = true → (b = false → t = s.setMt src.val 3 4) ∧ (b = true → (t.en k).retired = false ∧ t.src 0x2030 4 src.val 0 = 2)))
              ∧ (mtKind u = 4 → t = if (s.hd k).retired = false then s.setMt src.val 3 3 else if b then (s.modHd k (fun x => { x with retired := false })).setMt src.val 2 0 else s.setMt src.val 3 4))
            ∧ (v = 3 → (mtKind u ≠ 4 → t = s.setMt src.val 3 1)
              ∧ (mtKind u = 4 → ((∃ r ∈ s.sec.recal, r.head / 11 = k / 11) → t = s.setMt src.val 3 6) ∧ ((∀ r ∈ s.sec.recal, r.head / 11 ≠ k / 11) → (s.src 0x2030 3 src.val 0xFF = 0 → t = s.setMt src.val 2 0)
                ∧ (s.src 0x2030 3 src.val 0xFF = 6 → t = { s.setMt src.val 1 0 with sec.recal := s.sec.recal ++ [{ src := src.val, head := k, groups := [1, 2], retried := [], slot := 0xFF, withdrawn := false }] }))))))))
    ∧ (∀ (a : Fin 4) (g : Fin 8) (w : Bool),
      ((∀ r ∈ s.sec.recal, r.head / 11 ≠ a.val ∨ r.slot ≠ 0xFF) → exec (.recalGroupVisit a g w) s = .next s)
      ∧ (∀ (r : Recal) (l : List Nat), s.sec.recal = [r] → r.head / 11 = a.val → r.slot = 0xFF → r.groups = g.val :: l →
        (∀ h : Fin 8, h ≠ g → exec (.recalGroupVisit a h w) s = .next s)
        ∧ (s.groupAt a.val ≠ g.val → exec (.recalGroupVisit a g w) s = .next (if w then s.seekReq a.val (s.zn (5 * g.val) 1) (2 ^ (r.head % 11)) 0 else s))
        ∧ (s.groupAt a.val = g.val → (s.headChan a.val (r.head % 11) = none → (s.spareSlot a.val = none → exec (.recalGroupVisit a g w) s = .next s)
            ∧ (∀ n, s.spareSlot a.val = some n → exec (.recalGroupVisit a g w) s = .next ({ s with sec.recal := [{ r with withdrawn := true }] }.slotMap a.val (n % 8) (r.head % 11))))
          ∧ (∀ n, s.headChan a.val (r.head % 11) = some n → s.rf CAL_STATUS_STATE n ≠ 1 → s.actLoaded a.val = true → s.rf TRU_STATUS_STATE a.val = 4 → (∀ m ∈ chansOf a.val, s.rf CAL_STATUS_STATE m ≠ 1) → ∃ t : State,
            exec (.recalGroupVisit a g w) s = .next t ∧ t.sec = { s.sec with recal := [{ r with slot := n }] } ∧ t.rf CAL_CTRL_HEAD n = r.head % 11 ∧ t.rf CAL_STATUS_STATE n = 1 ∧ (t.ch n).withdrawn = true))))
    ∧ (∀ n : Fin 32, ((s.ch n.val).retired = false → (s.ch n.val).retireBy = none ∨ s.atBoundary n.val = false → exec (.channelRemap n) s = .next s)
      ∧ (∀ src : Nat, (s.ch n.val).retired = false → (s.ch n.val).retireBy = some src → s.atBoundary n.val = true → ∃ t : State, exec (.channelRemap n) s = .next t ∧ (t.ch n.val).retired = true ∧ (t.ch n.val).retireBy = none
        ∧ (t.ch n.val).fifo = [] ∧ (t.lc n.val).live = false ∧ t.src 0x2030 4 src 0 = 2)
      ∧ ((s.ch n.val).retired = true → (s.ch n.val).retireBy = none → ∀ t : State, t = s.modLc n.val (fun c => { c with live := false, ready := none }) →
        (s.slotHead n.val = 0xF → exec (.channelRemap n) s = .next t) ∧ (s.slotHead n.val ≠ 0xF → s.sched = [] → exec (.channelRemap n) s = .next (t.slotMap (n.val / 8) (n.val % 8) 0xF))))
    ∧ (∀ (src : Fin 16) (check : Fin 7) (l : List FmtRecord) (h : BitVec 256), s.odRuns = true → s.sec.sw = none →
      (∀ a, a = s.odPre (s.srcRole src.val) 0xB040 1 true false → a ≠ 0 → exec (.formatImage src check l h) s = .next (s.emit (.od src.val a [])))
      ∧ (s.odPre (s.srcRole src.val) 0xB040 1 true false = 0 → (s.wrEn 2 (odOwner 0xB040 1).1 = false → exec (.formatImage src check l h) s = .next (s.emit (.od src.val odLOCKED [])))
        ∧ (s.odPost 0xB040 1 true = 0 →
          (check.val ≠ 0 → exec (.formatImage src check l h) s = .next ({ s with sec.formatReason := check.val }.emit (.od src.val (if check.val = 4 ∨ check.val = 5 then odAUTH else 9) [])))
          ∧ (check.val = 0 → (∃ x ∈ l, s.fmtOk x = false) → exec (.formatImage src check l h) s = .next ({ s with sec.formatReason := 0x0D }.emit (.od src.val 9 [])))
          ∧ (check.val = 0 → (∀ x ∈ l, s.fmtOk x = true) → ∃ t : State, exec (.formatImage src check l h) s = .next (t.emit (.od src.val 0 [])) ∧ t.sec.formatReason = 0 ∧ t.sec.formatHash = h ∧ t.regs = s.regs ∧ t.odRun = s.odRun ∧ t.out = s.out
            ∧ (l = [] → t.od = s.od)
            ∧ (∀ (x : FmtRecord) (r : OdRow), l = [x] → s.odEntry x.ix.toNat x.sub.toNat = some r → r.acc = .rwc → s.odWriteStatus 3 x.ix.toNat x.sub.toNat x.value true = 0 →
              t.od = (s.odPut x.ix.toNat x.sub.toNat (if r.ty.isNum then .num (leNat x.value) else .bytes x.value)).od ∧ t.odPending = s.odPending)))))
end

