-- ==== Sys2Proof/Laws/Kept.lean ====
section
/-! SUPPORT. Laws/Kept.lean: how the relation `Kept` composes. Every operation of the machine has one lemma kept_<operation> in the files beside this one:
if what it is given has been kept since s0, then so has what it answers. -/

namespace Sys2Proof.Machine
open Sys2Proof

theorem Kept.refl (s : State) : Kept s s := ⟨rfl, rfl, Nat.le_refl _, rfl, id, id⟩

theorem Kept.trans {s t u : State} (a : Kept s t) (b : Kept t u) : Kept s u :=
  ⟨b.pending.trans a.pending, b.part.trans a.part, Nat.le_trans a.minSvn b.minSvn, b.revoke0.trans a.revoke0, fun h => b.mem (a.mem h),
   fun h => b.regs (a.regs h)⟩

/-- A record update that touches none of the fields that matter. -/
theorem Kept.upd {s0 y t : State} (h : Kept s0 y) (h1 : t.pending = y.pending) (h2 : t.part = y.part) (h3 : t.sec.minSvn = y.sec.minSvn) (h4 : t.sec.revoke0 = y.sec.revoke0)
    (h5 : t.mem = y.mem) (h6 : t.regs = y.regs) (h7 : t.regsRun = y.regsRun) : Kept s0 t :=
  ⟨h1.trans h.pending, h2.trans h.part, h3 ▸ h.minSvn, h4.trans h.revoke0, fun k => h5 ▸ h.mem k, fun k => by rw [h6, h7]; exact h.regs k⟩

theorem Kept.ite {s0 a b : State} {c : Prop} [Decidable c] (ha : Kept s0 a) (hb : Kept s0 b) : Kept s0 (if c then a else b) := by
  split <;> assumption
theorem Kept.dite {s0 : State} {c : Prop} [Decidable c] {a : c → State} {b : ¬c → State} (ha : ∀ h, Kept s0 (a h)) (hb : ∀ h, Kept s0 (b h)) :
    Kept s0 (if h : c then a h else b h) := by
  split <;> simp_all
theorem Kept.ite1 {α : Type} {s0 : State} {a b : State × α} {c : Prop} [Decidable c] (ha : Kept s0 a.1) (hb : Kept s0 b.1) :
    Kept s0 (if c then a else b).1 := by split <;> assumption
theorem Kept.mk1 {α : Type} {s0 a : State} {b : α} (h : Kept s0 a) : Kept s0 (a, b).1 := h

theorem Kept.foldl {α : Type} {s0 a : State} {f : State → α → State} {l : List α} (ha : Kept s0 a) (hf : ∀ t x, Kept s0 t → Kept s0 (f t x)) :
    Kept s0 (l.foldl f a) := by
  induction l generalizing a with
  | nil => exact ha
  | cons x r ih => exact ih (hf a x ha)

theorem Kept.foldl1 {α β : Type} {s0 : State} {a : State × β} {f : State × β → α → State × β} {l : List α} (ha : Kept s0 a.1)
    (hf : ∀ t x, Kept s0 t.1 → Kept s0 (f t x).1) : Kept s0 (l.foldl f a).1 := by
  induction l generalizing a with
  | nil => exact ha
  | cons x r ih => exact ih (hf a x ha)

/-- The same of an operation that may answer nothing. -/
def KeptO {α : Type} (s : State) (o : Option (State × α)) : Prop := ∀ p, o = some p → Kept s p.1
theorem KeptO.none {α : Type} {s : State} : KeptO (α := α) s Option.none := fun _ e => by cases e
theorem KeptO.some {α : Type} {s : State} {p : State × α} (h : Kept s p.1) : KeptO s (Option.some p) := fun _ e => by cases e; exact h
theorem KeptO.get {α : Type} {s : State} {o : Option (State × α)} {p : State × α} (h : KeptO s o) (e : o = Option.some p) : Kept s p.1 := h p e
def KeptO2 {α : Type} (s : State) (o : Option (α × State)) : Prop := ∀ p, o = some p → Kept s p.2
theorem KeptO2.none {α : Type} {s : State} : KeptO2 (α := α) s Option.none := fun _ e => by cases e
theorem KeptO2.some {α : Type} {s : State} {p : α × State} (h : Kept s p.2) : KeptO2 s (Option.some p) := fun _ e => by cases e; exact h
theorem KeptO2.get {α : Type} {s : State} {o : Option (α × State)} {p : α × State} (h : KeptO2 s o) (e : o = Option.some p) : Kept s p.2 := h p e

/-- The same of the answer of a command: it is a next state that has been kept. -/
def KeptR (s : State) (r : Res) : Prop := ∀ t, r = .next t → Kept s t

theorem KeptR.next {s t : State} (h : Kept s t) : KeptR s (.next t) := fun _ e => by cases e; exact h
theorem KeptR.ite {s : State} {a b : Res} {c : Prop} [Decidable c] (ha : KeptR s a) (hb : KeptR s b) : KeptR s (if c then a else b) := by
  split <;> assumption

end Sys2Proof.Machine
end

