-- ==== Sys2Proof/Laws/KeptDict.lean ====
section
/-! SUPPORT. Laws/KeptDict.lean: the operations of Machine/Dict.lean answer states that have been kept (Safety.lean). -/

namespace Sys2Proof.Machine
open Sys2Proof

theorem kept_odPut {s0 : State} (a0 : State) (a1 : Nat) (a2 : Nat) (a3 : OdVal) (ha0 : Kept s0 a0) : Kept s0 (State.odPut a0 a1 a2 a3) := by
  delta State.odPut
  exact Kept.upd ha0 rfl rfl rfl rfl rfl rfl rfl

theorem kept_setSrc {s0 : State} (a0 : State) (a1 : Nat) (a2 : Nat) (a3 : Nat) (a4 : Nat) (ha0 : Kept s0 a0) : Kept s0 (State.setSrc a0 a1 a2 a3 a4) := by
  delta State.setSrc
  exact Kept.upd ha0 rfl rfl rfl rfl rfl rfl rfl

end Sys2Proof.Machine
end

