-- ==== Sys2Proof/Laws/Tab.lean ====
section
/-! SUPPORT. Laws of the sparse table: read after write, what a write leaves alone, and that a write keeps the canonical form. -/

namespace Sys2Proof

@[simp] theorem tabFind_tabSet_same {α : Type} (t : Tab α) (a : Nat) (v : α) : tabFind (tabSet t a v) a = some v := by
  induction t with
  | nil => simp [tabSet, tabFind]
  | cons p r ih =>
    obtain ⟨k, w⟩ := p
    simp only [tabSet]
    split
    · simp [tabFind]
    · split
      · simp [tabFind]
      · rename_i h1 h2
        simp [tabFind, h2, ih]

theorem tabFind_tabSet_ne {α : Type} (t : Tab α) (a b : Nat) (v : α) (h : b ≠ a) :
    tabFind (tabSet t a v) b = tabFind t b := by
  induction t with
  | nil => simp [tabSet, tabFind, Ne.symm h]
  | cons p r ih =>
    obtain ⟨k, w⟩ := p
    simp only [tabSet]
    split
    · simp [tabFind, Ne.symm h]
    · split
      · rename_i h1 h2
        subst h2
        simp [tabFind, Ne.symm h]
      · simp only [tabFind]
        split <;> simp_all

@[simp] theorem tabGet_tabSet_same {α : Type} (d : α) (t : Tab α) (a : Nat) (v : α) : tabGet d (tabSet t a v) a = v := by
  simp [tabGet]

theorem tabGet_tabSet_ne {α : Type} (d : α) (t : Tab α) (a b : Nat) (v : α) (h : b ≠ a) :
    tabGet d (tabSet t a v) b = tabGet d t b := by
  simp [tabGet, tabFind_tabSet_ne t a b v h]

theorem tabGet_tabMod_same {α : Type} (d : α) (t : Tab α) (a : Nat) (f : α → α) :
    tabGet d (tabMod d t a f) a = f (tabGet d t a) := by simp [tabMod]

theorem tabGet_tabMod_ne {α : Type} (d : α) (t : Tab α) (a b : Nat) (f : α → α) (h : b ≠ a) :
    tabGet d (tabMod d t a f) b = tabGet d t b := by simp [tabMod, tabGet_tabSet_ne d t a b _ h]

/-- The first key after a write is the smaller of the two. -/
theorem tabWf_cons_iff {α : Type} (k : Nat) (v : α) (t : Tab α) :
    tabWf ((k, v) :: t) = true ↔ (∀ p ∈ t.head?, k < p.1) ∧ tabWf t = true := by
  cases t with
  | nil => simp [tabWf]
  | cons p r => obtain ⟨k', v'⟩ := p; simp [tabWf]

theorem tabSet_head {α : Type} (t : Tab α) (a : Nat) (v : α) (k : Nat) (hk : k < a)
    (h : ∀ p ∈ t.head?, k < p.1) : ∀ p ∈ (tabSet t a v).head?, k < p.1 := by
  cases t with
  | nil => simp [tabSet]; exact hk
  | cons p r =>
    obtain ⟨k', v'⟩ := p
    simp only [tabSet]
    split
    · simpa using hk
    · split
      · simpa using hk
      · simpa using h

/-- A write keeps the keys strictly rising. -/
theorem tabWf_tabSet {α : Type} (t : Tab α) (a : Nat) (v : α) (h : tabWf t = true) : tabWf (tabSet t a v) = true := by
  induction t with
  | nil => simp [tabSet, tabWf]
  | cons p r ih =>
    obtain ⟨k, w⟩ := p
    have h' := (tabWf_cons_iff k w r).1 h
    simp only [tabSet]
    split
    · rename_i hlt
      exact (tabWf_cons_iff a v _).2 ⟨by simpa using hlt, h⟩
    · split
      · rename_i h1 h2
        subst h2
        exact (tabWf_cons_iff k v r).2 h'
      · rename_i h1 h2
        exact (tabWf_cons_iff k w _).2 ⟨tabSet_head r a v k (by omega) h'.1, ih h'.2⟩

theorem tabWf_tabMod {α : Type} (d : α) (t : Tab α) (a : Nat) (f : α → α) (h : tabWf t = true) :
    tabWf (tabMod d t a f) = true := tabWf_tabSet t a _ h

/-- Every key of a canonical table is above a bound that its first key is above. -/
theorem tabWf_bound {α : Type} (t : Tab α) (k : Nat) (h : tabWf t = true) (hk : ∀ p ∈ t.head?, k < p.1) : ∀ p ∈ t, k < p.1 := by
  induction t generalizing k with
  | nil => simp
  | cons q r ih =>
    obtain ⟨k', v⟩ := q
    have h' := (tabWf_cons_iff k' v r).1 h
    have hk' : k < k' := by simpa using hk
    intro p hp
    rcases List.mem_cons.1 hp with rfl | hp
    · exact hk'
    · exact Nat.lt_trans hk' (ih k' h'.2 h'.1 p hp)

/-- Dropping entries keeps the canonical form. -/
theorem tabWf_filter {α : Type} (t : Tab α) (f : Nat × α → Bool) (h : tabWf t = true) : tabWf (t.filter f) = true := by
  induction t with
  | nil => rfl
  | cons q r ih =>
    obtain ⟨k, v⟩ := q
    have h' := (tabWf_cons_iff k v r).1 h
    simp only [List.filter_cons]
    split
    · refine (tabWf_cons_iff k v _).2 ⟨fun p hp => ?_, ih h'.2⟩
      exact tabWf_bound r k h'.2 h'.1 p ((List.mem_filter.1 (List.mem_of_mem_head? hp)).1)
    · exact ih h'.2

/-- Writing a list of entries keeps the canonical form. -/
theorem tabWf_foldl_tabSet {α β : Type} (l : List β) (key : β → Nat) (val : β → α) (t : Tab α) (h : tabWf t = true) :
    tabWf (l.foldl (fun u p => tabSet u (key p) (val p)) t) = true := by
  induction l generalizing t with
  | nil => exact h
  | cons p r ih => exact ih _ (tabWf_tabSet t _ _ h)

end Sys2Proof
end

