-- ==== Sys2Proof/Laws/KeptRegs.lean ====
section
/-! SUPPORT. Laws/KeptRegs.lean: the operations of Machine/Regs.lean answer states that have been kept (Safety.lean). -/

namespace Sys2Proof.Machine
open Sys2Proof

theorem kept_wf {s0 : State} (a0 : State) (a1 : Fld) (a2 a3 a4 : Nat) (ha0 : Kept s0 a0) : Kept s0 (State.wf a0 a1 a2 a3 a4) :=
  ⟨ha0.pending, ha0.part, ha0.minSvn, ha0.revoke0, ha0.mem, fun h => ⟨tabWf_tabSet _ _ _ (ha0.regs h).1, (ha0.regs h).2⟩⟩

theorem kept_wb {s0 : State} (a0 : State) (a1 : Fld) (a2 : Bool) (a3 : Nat) (a4 : Nat) (ha0 : Kept s0 a0) : Kept s0 (State.wb a0 a1 a2 a3 a4) := by
  delta State.wb
  exact kept_wf _ _ _ _ _ ha0

theorem kept_cnt {s0 : State} (a0 : State) (a1 : Fld) (a2 : Nat) (a3 : Nat) (a4 : Nat) (ha0 : Kept s0 a0) : Kept s0 (State.cnt a0 a1 a2 a3 a4) := by
  delta State.cnt
  exact kept_wf _ _ _ _ _ ha0

theorem kept_wbit {s0 : State} (a0 : State) (a1 : Fld) (a2 : Nat) (a3 : Bool) (a4 : Nat) (a5 : Nat) (ha0 : Kept s0 a0) : Kept s0 (State.wbit a0 a1 a2 a3 a4 a5) := by
  delta State.wbit
  exact kept_wf _ _ _ _ _ ha0

theorem kept_emit {s0 : State} (a0 : State) (a1 : Out) (ha0 : Kept s0 a0) : Kept s0 (State.emit a0 a1) := by
  delta State.emit
  exact Kept.upd ha0 rfl rfl rfl rfl rfl rfl rfl

theorem kept_useFree {s0 : State} (a0 : State) (ha0 : Kept s0 a0) : Kept s0 (State.useFree a0) := by
  delta State.useFree
  exact Kept.upd ha0 rfl rfl rfl rfl rfl rfl rfl

theorem kept_when {s0 : State} (a0 : State) (a1 : Bool) (a2 : State → State) (ha0 : Kept s0 a0) (ha2 : ∀ z0, (Kept s0 z0) → Kept s0 (a2 z0)) : Kept s0 (State.when a0 a1 a2) := by
  delta State.when
  refine Kept.ite ?_ ?_
  · apply ha2
    · exact ha0
  · exact ha0

end Sys2Proof.Machine
end

