-- ==== Sys2Proof/Laws/KeptOps.lean ====
section
/-! SUPPORT. Laws/KeptOps.lean: the operations of Machine/Ops.lean answer states that have been kept (Safety.lean). -/

namespace Sys2Proof.Machine
open Sys2Proof

theorem kept_odKeep {s0 : State} (a0 : State) (a1 : Nat) (a2 : Nat) (a3 : OdVal) (ha0 : Kept s0 a0) : Kept s0 (State.odKeep a0 a1 a2 a3) := by
  delta State.odKeep
  extract_lets +onlyGivenNames -merge -useContext x0
  have h0 : Kept s0 x0 := by unfold x0; exact kept_odPut _ _ _ _ ha0
  clear_value x0
  exact Kept.upd h0 rfl rfl rfl rfl rfl rfl rfl

theorem kept_setMode {s0 : State} (a0 : State) (a1 : Nat) (ha0 : Kept s0 a0) : Kept s0 (State.setMode a0 a1) := by
  delta State.setMode
  exact kept_wf _ _ _ _ _ ha0

theorem kept_setDom {s0 : State} (a0 : State) (a1 : Nat) (a2 : Nat) (ha0 : Kept s0 a0) : Kept s0 (State.setDom a0 a1 a2) := by
  delta State.setDom
  exact Kept.ite (kept_wf _ _ _ _ _ ha0) (kept_wf _ _ _ _ _ ha0)

theorem kept_enqueueRec {s0 : State} (a0 : State) (a1 : Bool) (a2 : Rec) (ha0 : Kept s0 a0) : Kept s0 (State.enqueueRec a0 a1 a2) := by
  delta State.enqueueRec
  exact Kept.upd ha0 rfl rfl rfl rfl rfl rfl rfl

theorem kept_mark {s0 : State} (a0 : State) (a1 : Nat) (a2 : Nat) (ha0 : Kept s0 a0) : Kept s0 (State.mark a0 a1 a2) := by
  delta State.mark
  exact kept_enqueueRec _ _ _ ha0

theorem kept_startFlush {s0 : State} (a0 : State) (ha0 : Kept s0 a0) : Kept s0 (State.startFlush a0) := by
  delta State.startFlush
  exact Kept.upd ha0 rfl rfl rfl rfl rfl rfl rfl

theorem kept_lifeCount {s0 : State} (a0 : State) (a1 : Nat) (ha0 : Kept s0 a0) : Kept s0 (State.lifeCount a0 a1) := by
  delta State.lifeCount
  exact Kept.upd ha0 rfl rfl rfl rfl rfl rfl rfl

theorem kept_modCh {s0 : State} (a0 : State) (a1 : Nat) (a2 : ChanSt → ChanSt) (ha0 : Kept s0 a0) : Kept s0 (State.modCh a0 a1 a2) := by
  delta State.modCh
  exact Kept.upd ha0 rfl rfl rfl rfl rfl rfl rfl

theorem kept_modHd {s0 : State} (a0 : State) (a1 : Nat) (a2 : HeadSt → HeadSt) (ha0 : Kept s0 a0) : Kept s0 (State.modHd a0 a1 a2) := by
  delta State.modHd
  exact Kept.upd ha0 rfl rfl rfl rfl rfl rfl rfl

theorem kept_modPl {s0 : State} (a0 : State) (a1 : Nat) (a2 : Pl → Pl) (ha0 : Kept s0 a0) : Kept s0 (State.modPl a0 a1 a2) := by
  delta State.modPl
  exact Kept.upd ha0 rfl rfl rfl rfl rfl rfl rfl

theorem kept_sqEvent {s0 : State} (a0 : State) (a1 : Nat) (a2 : Nat) (ha0 : Kept s0 a0) : Kept s0 (State.sqEvent a0 a1 a2) := by
  delta State.sqEvent
  exact Kept.ite (kept_cnt _ _ _ _ _ ha0) (kept_wbit _ _ _ _ _ _ ha0)

theorem kept_cutWrite {s0 : State} (a0 : State) (a1 : Nat) (ha0 : Kept s0 a0) : Kept s0 (State.cutWrite a0 a1) := by
  delta State.cutWrite
  extract_lets +onlyGivenNames -merge -useContext x0
  try clear_value x0
  refine Kept.ite ?_ ?_
  · extract_lets +onlyGivenNames -merge -useContext x1
    try clear_value x1
    extract_lets +onlyGivenNames -merge -useContext x2
    have h2 : Kept s0 x2 := by unfold x2; exact Kept.ite (kept_cnt _ _ _ _ _ ha0) ha0
    clear_value x2
    exact kept_modCh _ _ _ h2
  · exact ha0

theorem kept_cutRead {s0 : State} (a0 : State) (a1 : Nat) (ha0 : Kept s0 a0) : Kept s0 (State.cutRead a0 a1) := by
  delta State.cutRead
  extract_lets +onlyGivenNames -merge -useContext x0
  try clear_value x0
  refine Kept.ite ?_ ?_
  · extract_lets +onlyGivenNames -merge -useContext x1
    try clear_value x1
    exact kept_modCh _ _ _ ha0
  · exact ha0

theorem kept_shutGates {s0 : State} (a0 : State) (a1 : Nat) (ha0 : Kept s0 a0) : Kept s0 (State.shutGates a0 a1) := by
  delta State.shutGates
  exact kept_cutRead _ _ (kept_cutWrite _ _ ha0)

theorem kept_shutHalf {s0 : State} (a0 : State) (a1 : Nat) (ha0 : Kept s0 a0) : Kept s0 (State.shutHalf a0 a1) := by
  delta State.shutHalf
  refine Kept.foldl ?_ ?_
  · exact ha0
  · intro y0 y1 hy0
    exact kept_shutGates _ _ hy0

theorem kept_inhibit {s0 : State} (a0 : State) (a1 : Nat) (a2 : Bool) (a3 : Nat) (ha0 : Kept s0 a0) : Kept s0 (State.inhibit a0 a1 a2 a3) := by
  delta State.inhibit
  extract_lets +onlyGivenNames -merge -useContext x0
  try clear_value x0
  extract_lets +onlyGivenNames -merge -useContext x1
  have h1 : Kept s0 x1 := by unfold x1; exact kept_wbit _ _ _ _ _ _ ha0
  clear_value x1
  exact Kept.ite (kept_sqEvent _ _ _ (kept_cutWrite _ _ h1)) h1

theorem kept_inhibits {s0 : State} (a0 : State) (a1 : Nat) (a2 : Bool) (a3 : List Nat) (ha0 : Kept s0 a0) : Kept s0 (State.inhibits a0 a1 a2 a3) := by
  delta State.inhibits
  refine Kept.foldl ?_ ?_
  · exact ha0
  · intro y0 y1 hy0
    exact kept_inhibit _ _ _ _ hy0

theorem kept_inhibitAll {s0 : State} (a0 : State) (a1 : Nat) (a2 : Bool) (ha0 : Kept s0 a0) : Kept s0 (State.inhibitAll a0 a1 a2) := by
  delta State.inhibitAll
  exact kept_inhibits _ _ _ _ ha0

theorem kept_setAct {s0 : State} (a0 : State) (a1 : Nat) (a2 : Nat) (ha0 : Kept s0 a0) : Kept s0 (State.setAct a0 a1 a2) := by
  delta State.setAct
  exact kept_wf _ _ _ _ _ ha0

theorem kept_modSv {s0 : State} (a0 : State) (a1 : Nat) (a2 : Servo → Servo) (ha0 : Kept s0 a0) : Kept s0 (State.modSv a0 a1 a2) := by
  delta State.modSv
  exact Kept.upd ha0 rfl rfl rfl rfl rfl rfl rfl

theorem kept_dropSeek {s0 : State} (a0 : State) (a1 : Nat) (ha0 : Kept s0 a0) : Kept s0 (State.dropSeek a0 a1) := by
  delta State.dropSeek
  extract_lets +onlyGivenNames -merge -useContext x0
  have h0 : Kept s0 x0 := by
    unfold x0
    split
    · exact kept_emit _ _ ha0
    · exact ha0
  clear_value x0
  extract_lets +onlyGivenNames -merge -useContext x1
  have h1 : Kept s0 x1 := by unfold x1; exact kept_modSv _ _ _ h0
  clear_value x1
  exact kept_wf _ _ _ _ _ (kept_wf _ _ _ _ _ h1)

theorem kept_startRetract {s0 : State} (a0 : State) (a1 : Nat) (ha0 : Kept s0 a0) : Kept s0 (State.startRetract a0 a1) := by
  delta State.startRetract
  refine Kept.ite ?_ ?_
  · extract_lets +onlyGivenNames -merge -useContext x0
    have h0 : Kept s0 x0 := by
      unfold x0
      refine Kept.foldl ?_ ?_
      · exact ha0
      · intro y1 y2 hy1
        exact kept_cutWrite _ _ hy1
    clear_value x0
    extract_lets +onlyGivenNames -merge -useContext x3
    have h3 : Kept s0 x3 := by unfold x3; exact Kept.ite (kept_modPl _ _ _ h0) h0
    clear_value x3
    exact kept_cnt _ _ _ _ _ (kept_setAct _ _ _ (kept_modSv _ _ _ (kept_dropSeek _ _ h3)))
  · exact ha0

theorem kept_retractAll {s0 : State} (a0 : State) (ha0 : Kept s0 a0) : Kept s0 (State.retractAll a0) := by
  delta State.retractAll
  refine Kept.foldl ?_ ?_
  · exact ha0
  · intro y0 y1 hy0
    exact kept_startRetract _ _ hy0

theorem kept_softOff {s0 : State} (a0 : State) (a1 : List Nat) (ha0 : Kept s0 a0) : Kept s0 (State.softOff a0 a1) := by
  delta State.softOff
  refine Kept.foldl ?_ ?_
  · exact ha0
  · intro y0 y1 hy0
    exact kept_wbit _ _ _ _ _ _ hy0

theorem kept_startPark {s0 : State} (a0 : State) (a1 : Nat) (ha0 : Kept s0 a0) : Kept s0 (State.startPark a0 a1) := by
  delta State.startPark
  exact Kept.ite (kept_setAct _ _ _ (kept_softOff _ _ (kept_dropSeek _ _ ha0))) ha0

theorem kept_parkAll {s0 : State} (a0 : State) (ha0 : Kept s0 a0) : Kept s0 (State.parkAll a0) := by
  delta State.parkAll
  refine Kept.foldl ?_ ?_
  · exact ha0
  · intro y0 y1 hy0
    exact kept_startPark _ _ hy0

theorem kept_startLoad {s0 : State} (a0 : State) (a1 : Nat) (ha0 : Kept s0 a0) : Kept s0 (State.startLoad a0 a1) := by
  delta State.startLoad
  exact Kept.ite (kept_setAct _ _ _ (kept_modSv _ _ _ ha0)) ha0

theorem kept_exitLoad {s0 : State} (a0 : State) (ha0 : Kept s0 a0) : Kept s0 (State.exitLoad a0) := by
  delta State.exitLoad
  refine Kept.ite ?_ ?_
  · refine Kept.foldl ?_ ?_
    · exact Kept.upd ha0 rfl rfl rfl rfl rfl rfl rfl
    · intro y0 y1 hy0
      exact kept_startLoad _ _ hy0
  · exact ha0

theorem kept_reloadParked {s0 : State} (a0 : State) (ha0 : Kept s0 a0) : Kept s0 (State.reloadParked a0) := by
  delta State.reloadParked
  refine Kept.foldl ?_ ?_
  · exact ha0
  · intro y0 y1 hy0
    exact Kept.ite (kept_setAct _ _ _ (kept_modSv _ _ _ hy0)) hy0

theorem kept_abortEntry {s0 : State} (a0 : State) (a1 : Nat) (a2 : Bool) (ha0 : Kept s0 a0) : Kept s0 (State.abortEntry a0 a1 a2) := by
  delta State.abortEntry
  refine Kept.ite ?_ ?_
  · extract_lets +onlyGivenNames -merge -useContext x0
    have h0 : Kept s0 x0 := by unfold x0; exact Kept.ite (kept_reloadParked _ ha0) ha0
    clear_value x0
    extract_lets +onlyGivenNames -merge -useContext x1
    have h1 : Kept s0 x1 := by unfold x1; exact kept_wf _ _ _ _ _ (kept_wf _ _ _ _ _ (kept_wb _ _ _ _ _ (kept_wf _ _ _ _ _ h0)))
    clear_value x1
    extract_lets +onlyGivenNames -merge -useContext x2
    have h2 : Kept s0 x2 := by unfold x2; exact Kept.ite (kept_inhibitAll _ _ _ h1) h1
    clear_value x2
    extract_lets +onlyGivenNames -merge -useContext x3
    have h3 : Kept s0 x3 := by
      unfold x3
      refine Kept.foldl ?_ ?_
      · exact h2
      · intro y4 y5 hy4
        exact kept_emit _ _ hy4
    clear_value x3
    exact Kept.upd h3 rfl rfl rfl rfl rfl rfl rfl
  · exact ha0

theorem kept_chipFatal {s0 : State} (a0 : State) (ha0 : Kept s0 a0) : Kept s0 (State.chipFatal a0) := by
  delta State.chipFatal
  refine Kept.ite ?_ ?_
  · exact ha0
  · extract_lets +onlyGivenNames -merge -useContext x0
    have h0 : Kept s0 x0 := by unfold x0; exact kept_wf _ _ _ _ _ (kept_wb _ _ _ _ _ ha0)
    clear_value x0
    extract_lets +onlyGivenNames -merge -useContext x1
    try clear_value x1
    extract_lets +onlyGivenNames -merge -useContext x2
    have h2 : Kept s0 x2 := by unfold x2; exact Kept.upd h0 rfl rfl rfl rfl rfl rfl rfl
    clear_value x2
    extract_lets +onlyGivenNames -merge -useContext x3
    have h3 : Kept s0 x3 := by unfold x3; exact kept_inhibitAll _ _ _ h2
    clear_value x3
    extract_lets +onlyGivenNames -merge -useContext x4
    have h4 : Kept s0 x4 := by unfold x4; exact Kept.upd h3 rfl rfl rfl rfl rfl rfl rfl
    clear_value x4
    extract_lets +onlyGivenNames -merge -useContext x5
    have h5 : Kept s0 x5 := by unfold x5; exact Kept.upd h4 rfl rfl rfl rfl rfl rfl rfl
    clear_value x5
    extract_lets +onlyGivenNames -merge -useContext x6
    have h6 : Kept s0 x6 := by
      unfold x6
      refine Kept.foldl ?_ ?_
      · exact h5
      · intro y7 y8 hy7
        exact kept_emit _ _ hy7
    clear_value x6
    extract_lets +onlyGivenNames -merge -useContext x9
    have h9 : Kept s0 x9 := by unfold x9; exact kept_retractAll _ h6
    clear_value x9
    extract_lets +onlyGivenNames -merge -useContext x10
    have h10 : Kept s0 x10 := by unfold x10; exact Kept.ite (kept_abortEntry _ _ _ (kept_wf _ _ _ _ _ h9)) h9
    clear_value x10
    exact kept_startFlush _ h10

theorem kept_dupUp {s0 : State} (a0 : State) (a1 : Nat) (a2 : Nat) (a3 : Nat) (ha0 : Kept s0 a0) : Kept s0 (State.dupUp a0 a1 a2 a3) := by
  delta State.dupUp
  extract_lets +onlyGivenNames -merge -useContext x0
  try clear_value x0
  extract_lets +onlyGivenNames -merge -useContext x1
  have h1 : Kept s0 x1 := by
    unfold x1
    split
    · exact Kept.ite (Kept.upd ha0 rfl rfl rfl rfl rfl rfl rfl) ha0
    · exact ha0
  clear_value x1
  extract_lets +onlyGivenNames -merge -useContext x2
  try clear_value x2
  extract_lets +onlyGivenNames -merge -useContext x3
  have h3 : Kept s0 x3 := by unfold x3; exact Kept.upd h1 rfl rfl rfl rfl rfl rfl rfl
  clear_value x3
  split
  · exact Kept.ite (Kept.upd h3 rfl rfl rfl rfl rfl rfl rfl) h3
  · exact h3

theorem kept_toRegion {s0 : State} (a0 : State) (a1 : Nat) (a2 : FaultRec) (ha0 : Kept s0 a0) : Kept s0 (State.toRegion a0 a1 a2) := by
  delta State.toRegion
  split
  · exact Kept.upd ha0 rfl rfl rfl rfl rfl rfl rfl
  · exact Kept.ite (kept_dupUp _ _ _ _ ha0) (Kept.upd ha0 rfl rfl rfl rfl rfl rfl rfl)

theorem kept_reportBy {s0 : State} (a0 : State) (a1 : Nat) (a2 : Nat) (a3 : Nat) (a4 : Nat) (a5 : Nat) (a6 : Nat) (a7 : Bool) (ha0 : Kept s0 a0) : Kept s0 (State.reportBy a0 a1 a2 a3 a4 a5 a6 a7) := by
  delta State.reportBy
  extract_lets +onlyGivenNames -merge -useContext x0
  try clear_value x0
  extract_lets +onlyGivenNames -merge -useContext x1
  try clear_value x1
  extract_lets +onlyGivenNames -merge -useContext x2
  have h2 : Kept s0 x2 := by unfold x2; exact Kept.ite (Kept.upd ha0 rfl rfl rfl rfl rfl rfl rfl) ha0
  clear_value x2
  extract_lets +onlyGivenNames -merge -useContext x3
  try clear_value x3
  extract_lets +onlyGivenNames -merge -useContext x4
  try clear_value x4
  extract_lets +onlyGivenNames -merge -useContext x5
  try clear_value x5
  extract_lets +onlyGivenNames -merge -useContext x6
  try clear_value x6
  extract_lets +onlyGivenNames -merge -useContext x7
  have h7 : Kept s0 x7 := by
    unfold x7
    split
    · exact kept_toRegion _ _ _ (Kept.upd h2 rfl rfl rfl rfl rfl rfl rfl)
    · refine Kept.ite ?_ ?_
      · exact kept_dupUp _ _ _ _ (Kept.upd h2 rfl rfl rfl rfl rfl rfl rfl)
      · extract_lets +onlyGivenNames -merge -useContext x8
        have h8 : Kept s0 x8 := by unfold x8; exact Kept.upd h2 rfl rfl rfl rfl rfl rfl rfl
        clear_value x8
        split
        · exact Kept.upd h8 rfl rfl rfl rfl rfl rfl rfl
        · exact h8
  clear_value x7
  exact Kept.ite (kept_chipFatal _ h7) h7

theorem kept_report {s0 : State} (a0 : State) (a1 : Nat) (a2 : Nat) (a3 : Nat) (ha0 : Kept s0 a0) : Kept s0 (State.report a0 a1 a2 a3) := by
  delta State.report
  exact kept_reportBy _ _ _ _ _ _ _ _ ha0

theorem kept_reportAs {s0 : State} (a0 : State) (a1 : Nat) (a2 : Nat) (a3 : Nat) (a4 : Nat) (ha0 : Kept s0 a0) : Kept s0 (State.reportAs a0 a1 a2 a3 a4) := by
  delta State.reportAs
  exact kept_reportBy _ _ _ _ _ _ _ _ ha0

theorem kept_takeOn {s0 : State} (a0 : State) (a1 : Nat) (a2 : Nat) (a3 : Nat) (ha0 : Kept s0 a0) : Kept s0 (State.takeOn a0 a1 a2 a3) := by
  delta State.takeOn
  exact Kept.ite (Kept.upd ha0 rfl rfl rfl rfl rfl rfl rfl) (Kept.ite (Kept.upd ha0 rfl rfl rfl rfl rfl rfl rfl) ha0)

theorem kept_raiseHighest {s0 : State} (a0 : State) (a1 : Nat) (ha0 : Kept s0 a0) : Kept s0 (State.raiseHighest a0 a1) := by
  delta State.raiseHighest
  exact kept_wf _ _ _ _ _ ha0

theorem kept_closeChip {s0 : State} (a0 : State) (ha0 : Kept s0 a0) : Kept s0 (State.closeChip a0) := by
  delta State.closeChip
  split
  · exact ha0
  · extract_lets +onlyGivenNames -merge -useContext x0
    try clear_value x0
    exact Kept.upd ha0 rfl rfl rfl rfl rfl rfl rfl

end Sys2Proof.Machine
end

