-- ==== Sys2Proof/Laws/KeptHooks.lean ====
section
/-! SUPPORT. Laws/KeptHooks.lean: the operations of Machine/Hooks.lean answer states that have been kept (Safety.lean). -/

namespace Sys2Proof.Machine
open Sys2Proof

theorem kept_coldReset {s0 : State} (a0 : State) (ha0 : Kept s0 a0) : Kept s0 (State.coldReset a0) :=
  ⟨ha0.pending, ha0.part, ha0.minSvn, ha0.revoke0, fun _ => rfl, fun _ => ⟨rfl, rfl⟩⟩

theorem kept_poolRestart {s0 : State} (a0 : State) (a1 : Nat) (a2 : Nat) (ha0 : Kept s0 a0) : Kept s0 (State.poolRestart a0 a1 a2) := by
  delta State.poolRestart
  exact Kept.upd ha0 rfl rfl rfl rfl rfl rfl rfl

end Sys2Proof.Machine
end

