-- ==== Sys2Proof/Laws/Mem.lean ====
section
/-! SUPPORT. Laws/Mem.lean: every operation on the buffer's bytes keeps their canonical form; a byte reads back as it was stored, and a store leaves every
other address alone. -/

namespace Sys2Proof.Machine
open Sys2Proof

theorem memFrom_weaken {lo lo' : Nat} (hle : lo ≤ lo') : ∀ {m : List Host.Cell}, memFrom lo' m = true → memFrom lo m = true
  | [], _ => rfl
  | (k, v) :: r, h => by
    simp only [memFrom, Bool.and_eq_true, decide_eq_true_eq, bne_iff_ne] at h ⊢
    exact ⟨⟨Nat.le_trans hle h.1.1, h.1.2⟩, h.2⟩

theorem memSet_from {lo a : Nat} (v : Byte) (hlo : lo ≤ a) : ∀ {m : List Host.Cell}, memFrom lo m = true → memFrom lo (memSet m a v) = true
  | [], _ => by
    simp only [memSet]
    split
    · rfl
    · simp_all [memFrom]
  | (k, w) :: r, h => by
    have h' := h
    simp only [memFrom, Bool.and_eq_true, decide_eq_true_eq, bne_iff_ne] at h
    simp only [memSet]
    split
    · rename_i hlt
      split
      · exact h'
      · rename_i hv
        simp only [memFrom, Bool.and_eq_true, decide_eq_true_eq, bne_iff_ne]
        exact ⟨⟨hlo, hv⟩, ⟨hlt, h.1.2⟩, h.2⟩
    · split
      · rename_i h1 h2
        subst h2
        split
        · exact memFrom_weaken (by omega) h.2
        · rename_i hv
          simp only [memFrom, Bool.and_eq_true, decide_eq_true_eq, bne_iff_ne]
          exact ⟨⟨hlo, hv⟩, h.2⟩
      · rename_i h1 h2
        simp only [memFrom, Bool.and_eq_true, decide_eq_true_eq, bne_iff_ne]
        exact ⟨h.1, memSet_from v (by omega) h.2⟩

/-- Storing a byte keeps the canonical form. -/
theorem memSet_wf (m : List Host.Cell) (a : Nat) (v : Byte) (h : Memory.wf m = true) : Memory.wf (memSet m a v) = true :=
  memSet_from v (Nat.zero_le a) h

theorem memFilter_from (f : Host.Cell → Bool) : ∀ {lo : Nat} {m : List Host.Cell}, memFrom lo m = true → memFrom lo (m.filter f) = true
  | _, [], _ => rfl
  | lo, (k, v) :: r, h => by
    simp only [memFrom, Bool.and_eq_true, decide_eq_true_eq, bne_iff_ne] at h
    simp only [List.filter_cons]
    split
    · simp only [memFrom, Bool.and_eq_true, decide_eq_true_eq, bne_iff_ne]
      exact ⟨h.1, memFilter_from f h.2⟩
    · exact memFilter_from f (memFrom_weaken (by omega) h.2)

/-- Clearing a range keeps the canonical form. -/
theorem memZero_wf (m : List Host.Cell) (a n : Nat) (h : Memory.wf m = true) : Memory.wf (memZero m a n) = true := memFilter_from _ h

/-- Storing bytes keeps the canonical form. -/
theorem memPut_wf : ∀ (bs : List Byte) (m : List Host.Cell) (a : Nat), Memory.wf m = true → Memory.wf (memPut m a bs) = true
  | [], _, _, h => h
  | b :: bs, m, a, h => memPut_wf bs _ _ (memSet_wf m a b h)

/-- No listed address of a canonical tail lies below its bound. -/
theorem memGet_below {lo a : Nat} (hlt : a < lo) : ∀ {m : List Host.Cell}, memFrom lo m = true → memGet m a = 0
  | [], _ => rfl
  | (k, w) :: r, h => by
    simp only [memFrom, Bool.and_eq_true, decide_eq_true_eq, bne_iff_ne] at h
    have hk : k ≠ a := by omega
    simp only [memGet, hk, if_false]
    exact memGet_below (by omega) h.2

theorem memGet_memSet_from {lo a : Nat} (v : Byte) : ∀ {m : List Host.Cell}, memFrom lo m = true → memGet (memSet m a v) a = v
  | [], _ => by
    simp only [memSet]
    split <;> simp_all [memGet]
  | (k, w) :: r, h => by
    simp only [memFrom, Bool.and_eq_true, decide_eq_true_eq, bne_iff_ne] at h
    simp only [memSet]
    split
    · rename_i hlt
      split
      · rename_i hv
        have hk : k ≠ a := by omega
        simp only [memGet, hk, if_false, hv]
        exact memGet_below (by omega) h.2
      · simp [memGet]
    · split
      · rename_i h1 h2
        subst h2
        split
        · rename_i hv
          rw [hv]
          exact memGet_below (by omega) h.2
        · simp [memGet]
      · rename_i h1 h2
        simp only [memGet, h2, if_false]
        exact memGet_memSet_from v h.2

/-- A stored byte reads back. -/
theorem memGet_memSet_same (m : List Host.Cell) (a : Nat) (v : Byte) (h : Memory.wf m = true) : memGet (memSet m a v) a = v := memGet_memSet_from v h

/-- A store leaves every other address alone. -/
theorem memGet_memSet_ne {a b : Nat} (v : Byte) (hne : b ≠ a) : ∀ (m : List Host.Cell), memGet (memSet m a v) b = memGet m b
  | [] => by
    simp only [memSet]
    split
    · rfl
    · simp [memGet, Ne.symm hne]
  | (k, w) :: r => by
    simp only [memSet]
    split
    · split
      · rfl
      · simp [memGet, Ne.symm hne]
    · split
      · rename_i h1 h2
        subst h2
        split <;> simp [memGet, Ne.symm hne]
      · simp only [memGet]
        split
        · rfl
        · exact memGet_memSet_ne v hne r

end Sys2Proof.Machine
end

