-- ==== Sys2Proof/Laws/KeptMemory.lean ====
section
/-! SUPPORT. Laws/KeptMemory.lean: the operations of Machine/Memory.lean answer states that have been kept (Safety.lean). -/

namespace Sys2Proof.Machine
open Sys2Proof

theorem kept_putByte {s0 : State} (a0 : State) (a1 : Nat) (a2 : Byte) (ha0 : Kept s0 a0) : Kept s0 (State.putByte a0 a1 a2) := by
  delta State.putByte
  refine Kept.ite ?_ ?_
  · exact Kept.upd ha0 rfl rfl rfl rfl rfl rfl rfl
  · exact ⟨ha0.pending, ha0.part, ha0.minSvn, ha0.revoke0, fun h => memSet_wf _ _ _ (ha0.mem h), ha0.regs⟩

theorem kept_putBytes {s0 : State} (a0 : State) (a1 : Nat) (a2 : List Byte) (ha0 : Kept s0 a0) : Kept s0 (State.putBytes a0 a1 a2) := by
  induction a2 generalizing a0 a1 with
  | nil => exact ha0
  | cons b bs ih => exact ih _ _ (kept_putByte _ _ _ ha0)

theorem kept_clearBlock {s0 : State} (a0 : State) (a1 : Nat) (ha0 : Kept s0 a0) : Kept s0 (State.clearBlock a0 a1) :=
  ⟨ha0.pending, ha0.part, ha0.minSvn, ha0.revoke0, fun h => memZero_wf _ _ _ (ha0.mem h), ha0.regs⟩

theorem kept_mediaBlock {s0 : State} (a0 : State) (a1 : Nat) (ha0 : Kept s0 a0) : Kept s0 (State.mediaBlock a0 a1) := by
  delta State.mediaBlock
  extract_lets +onlyGivenNames -merge -useContext x0
  have h0 : Kept s0 x0 := by unfold x0; exact kept_clearBlock _ _ ha0
  clear_value x0
  exact kept_useFree _ (Kept.upd h0 rfl rfl rfl rfl rfl rfl rfl)

theorem kept_modPc {s0 : State} (a0 : State) (a1 : Nat) (a2 : PcSt → PcSt) (ha0 : Kept s0 a0) : Kept s0 (State.modPc a0 a1 a2) := by
  delta State.modPc
  exact Kept.upd ha0 rfl rfl rfl rfl rfl rfl rfl

theorem kept_setErr {s0 : State} (a0 : State) (a1 : Nat) (a2 : Nat) (ha0 : Kept s0 a0) : Kept s0 (State.setErr a0 a1 a2) := by
  delta State.setErr
  exact Kept.upd ha0 rfl rfl rfl rfl rfl rfl rfl

theorem kept_upsets {s0 : State} (a0 : State) (a1 : List (Nat × BitVec 72)) (ha0 : Kept s0 a0) : Kept s0 (State.upsets a0 a1) := by
  delta State.upsets
  refine Kept.foldl ?_ ?_
  · exact ha0
  · intro y0 y1 hy0
    exact kept_setErr _ _ _ hy0

theorem kept_lightFix {s0 : State} (a0 : State) (a1 : Nat) (a2 : Nat) (ha0 : Kept s0 a0) : Kept s0 (State.lightFix a0 a1 a2) := by
  delta State.lightFix
  extract_lets +onlyGivenNames -merge -useContext x0
  try clear_value x0
  extract_lets +onlyGivenNames -merge -useContext x1
  have h1 : Kept s0 x1 := by unfold x1; exact Kept.ite (kept_setErr _ _ _ ha0) ha0
  clear_value x1
  exact kept_report _ _ _ _ (kept_modPc _ _ _ (kept_cnt _ _ _ _ _ (kept_cnt _ _ _ _ _ h1)))

theorem kept_poisonCounts {s0 : State} (a0 : State) (a1 : Nat) (ha0 : Kept s0 a0) : Kept s0 (State.poisonCounts a0 a1) := by
  delta State.poisonCounts
  exact kept_wf _ _ _ _ _ (kept_wf _ _ _ _ _ ha0)

theorem kept_pcDue {s0 : State} (a0 : State) (a1 : Nat) (a2 : Nat) (ha0 : Kept s0 a0) : Kept s0 (State.pcDue a0 a1 a2) := by
  delta State.pcDue
  exact Kept.ite (kept_modPc _ _ _ ha0) ha0

theorem kept_poison {s0 : State} (a0 : State) (a1 : Nat) (a2 : Nat) (a3 : List Nat) (ha0 : Kept s0 a0) : Kept s0 (State.poison a0 a1 a2 a3) := by
  delta State.poison
  extract_lets +onlyGivenNames -merge -useContext x0
  try clear_value x0
  extract_lets +onlyGivenNames -merge -useContext x1
  try clear_value x1
  extract_lets +onlyGivenNames -merge -useContext x2
  try clear_value x2
  extract_lets +onlyGivenNames -merge -useContext x3
  try clear_value x3
  extract_lets +onlyGivenNames -merge -useContext x4
  have h4 : Kept s0 x4 := by unfold x4; exact Kept.upd ha0 rfl rfl rfl rfl rfl rfl rfl
  clear_value x4
  extract_lets +onlyGivenNames -merge -useContext x5
  have h5 : Kept s0 x5 := by
    unfold x5
    refine Kept.foldl ?_ ?_
    · exact h4
    · intro y6 y7 hy6
      exact kept_report _ _ _ _ (kept_cnt _ _ _ _ _ (kept_cnt _ _ _ _ _ hy6))
  clear_value x5
  extract_lets +onlyGivenNames -merge -useContext x8
  have h8 : Kept s0 x8 := by unfold x8; exact Kept.ite h5 (kept_wb _ _ _ _ _ (kept_wf _ _ _ _ _ (kept_wf _ _ _ _ _ h5)))
  clear_value x8
  extract_lets +onlyGivenNames -merge -useContext x9
  have h9 : Kept s0 x9 := by unfold x9; exact kept_poisonCounts _ _ h8
  clear_value x9
  exact Kept.ite (kept_pcDue _ _ _ h9) h9

theorem kept_unpoison {s0 : State} (a0 : State) (a1 : Nat) (ha0 : Kept s0 a0) : Kept s0 (State.unpoison a0 a1) := by
  delta State.unpoison
  extract_lets +onlyGivenNames -merge -useContext x0
  try clear_value x0
  refine Kept.ite ?_ ?_
  · exact ha0
  · extract_lets +onlyGivenNames -merge -useContext x1
    try clear_value x1
    extract_lets +onlyGivenNames -merge -useContext x2
    try clear_value x2
    extract_lets +onlyGivenNames -merge -useContext x3
    have h3 : Kept s0 x3 := by unfold x3; exact Kept.upd ha0 rfl rfl rfl rfl rfl rfl rfl
    clear_value x3
    extract_lets +onlyGivenNames -merge -useContext x4
    have h4 : Kept s0 x4 := by
      unfold x4
      refine Kept.ite ?_ ?_
      · refine Kept.foldl ?_ ?_
        · exact h3
        · intro y5 y6 hy5
          exact kept_setErr _ _ _ hy5
      · exact h3
    clear_value x4
    exact kept_poisonCounts _ _ h4

theorem kept_strongCount {s0 : State} (a0 : State) (a1 : Nat) (ha0 : Kept s0 a0) : Kept s0 (State.strongCount a0 a1) := by
  delta State.strongCount
  extract_lets +onlyGivenNames -merge -useContext x0
  try clear_value x0
  extract_lets +onlyGivenNames -merge -useContext x1
  try clear_value x1
  extract_lets +onlyGivenNames -merge -useContext x2
  try clear_value x2
  extract_lets +onlyGivenNames -merge -useContext x3
  have h3 : Kept s0 x3 := by unfold x3; exact kept_modPc _ _ _ (kept_cnt _ _ _ _ _ (kept_cnt _ _ _ _ _ ha0))
  clear_value x3
  extract_lets +onlyGivenNames -merge -useContext x4
  have h4 : Kept s0 x4 := by unfold x4; exact Kept.ite (kept_pcDue _ _ _ h3) h3
  clear_value x4
  exact kept_report _ _ _ _ h4

theorem kept_parityFix {s0 : State} (a0 : State) (a1 : Nat) (ha0 : Kept s0 a0) : Kept s0 (State.parityFix a0 a1) := by
  delta State.parityFix
  refine Kept.ite ?_ ?_
  · with_reducible apply kept_strongCount
    · refine Kept.foldl ?_ ?_
      · exact ha0
      · intro y0 y1 hy0
        exact kept_setErr _ _ _ hy0
  · exact ha0

theorem kept_strongDecode {s0 : State} (a0 : State) (a1 : Nat) (a2 : Nat) (ha0 : Kept s0 a0) : Kept s0 (State.strongDecode a0 a1 a2) := by
  delta State.strongDecode
  refine Kept.ite ?_ ?_
  · exact ha0
  · refine Kept.ite ?_ ?_
    · extract_lets +onlyGivenNames -merge -useContext x0
      try clear_value x0
      extract_lets +onlyGivenNames -merge -useContext x1
      try clear_value x1
      extract_lets +onlyGivenNames -merge -useContext x2
      have h2 : Kept s0 x2 := by unfold x2; exact kept_parityFix _ _ ha0
      clear_value x2
      refine Kept.ite ?_ ?_
      · with_reducible apply kept_strongCount
        · refine Kept.foldl ?_ ?_
          · exact h2
          · intro y3 y4 hy3
            exact kept_setErr _ _ _ hy3
      · exact h2
    · exact kept_poison _ _ _ _ ha0

theorem kept_readWord {s0 : State} (a0 : State) (a1 : Nat) (ha0 : Kept s0 a0) : Kept s0 (State.readWord a0 a1).1 := by
  delta State.readWord
  refine Kept.ite1 ?_ ?_
  · exact Kept.mk1 ha0
  · split
    · exact Kept.mk1 ha0
    · exact Kept.mk1 (kept_lightFix _ _ _ ha0)
    · refine Kept.ite1 ?_ ?_
      · exact Kept.mk1 (kept_poison _ _ _ _ ha0)
      · extract_lets +onlyGivenNames -merge -useContext x0
        have h0 : Kept s0 x0 := by unfold x0; exact kept_strongDecode _ _ _ ha0
        clear_value x0
        exact Kept.mk1 h0

theorem kept_memRead {s0 : State} (a0 : State) (a1 : Nat) (a2 : Nat) (ha0 : Kept s0 a0) : Kept s0 (State.memRead a0 a1 a2).1 := by
  delta State.memRead
  refine Kept.ite1 ?_ ?_
  · exact Kept.mk1 ha0
  · refine Kept.foldl1 ?_ ?_
    · exact Kept.mk1 ha0
    · intro y0 y1 hy0
      extract_lets +onlyGivenNames -merge -useContext x2
      have h2 : Kept s0 x2.1 := by unfold x2; exact kept_readWord _ _ hy0
      clear_value x2
      exact Kept.mk1 h2

theorem kept_flipTake {s0 : State} (a0 : State) (a1 : Nat) (ha0 : Kept s0 a0) : Kept s0 (State.flipTake a0 a1) := by
  delta State.flipTake
  split
  · exact ha0
  · refine Kept.ite ?_ ?_
    · extract_lets +onlyGivenNames -merge -useContext x0
      try clear_value x0
      extract_lets +onlyGivenNames -merge -useContext x1
      have h1 : Kept s0 x1 := by unfold x1; exact kept_wb _ _ _ _ _ (kept_setErr _ _ _ ha0)
      clear_value x1
      exact Kept.upd h1 rfl rfl rfl rfl rfl rfl rfl
    · exact ha0

theorem kept_writeWord {s0 : State} (a0 : State) (a1 : Nat) (a2 : Nat) (a3 : List Byte) (a4 : Bool) (ha0 : Kept s0 a0) : Kept s0 (State.writeWord a0 a1 a2 a3 a4).1 := by
  delta State.writeWord
  extract_lets +onlyGivenNames -merge -useContext x0
  try clear_value x0
  extract_lets +onlyGivenNames -merge -useContext x1
  try clear_value x1
  extract_lets +onlyGivenNames -merge -useContext x2
  try clear_value x2
  refine Kept.ite1 ?_ ?_
  · extract_lets +onlyGivenNames -merge -useContext x3
    have h3 : Kept s0 x3 := by unfold x3; exact kept_setErr _ _ _ (kept_putBytes _ _ _ ha0)
    clear_value x3
    extract_lets +onlyGivenNames -merge -useContext x4
    have h4 : Kept s0 x4 := by unfold x4; exact Kept.ite h3 (kept_unpoison _ _ h3)
    clear_value x4
    exact Kept.mk1 (kept_flipTake _ _ h4)
  · extract_lets +onlyGivenNames -merge -useContext x5
    have h5 : Kept s0 x5.1 := by unfold x5; exact kept_readWord _ _ ha0
    clear_value x5
    exact Kept.ite1 (Kept.mk1 h5) (Kept.mk1 (kept_flipTake _ _ (kept_setErr _ _ _ (kept_putBytes _ _ _ h5))))

theorem kept_parityMerge {s0 : State} (a0 : State) (a1 : Nat) (ha0 : Kept s0 a0) : Kept s0 (State.parityMerge a0 a1) := by
  delta State.parityMerge
  exact Kept.ite ha0 (Kept.upd ha0 rfl rfl rfl rfl rfl rfl rfl)

theorem kept_parityFlush {s0 : State} (a0 : State) (a1 : Nat) (ha0 : Kept s0 a0) : Kept s0 (State.parityFlush a0 a1) := by
  delta State.parityFlush
  exact Kept.upd ha0 rfl rfl rfl rfl rfl rfl rfl

theorem kept_memWrite {s0 : State} (a0 : State) (a1 : Nat) (a2 : List Byte) (ha0 : Kept s0 a0) : Kept s0 (State.memWrite a0 a1 a2).1 := by
  delta State.memWrite
  refine Kept.ite1 ?_ ?_
  · exact Kept.mk1 ha0
  · extract_lets +onlyGivenNames -merge -useContext x0
    have h0 : Kept s0 x0 := by
      unfold x0
      refine Kept.foldl ?_ ?_
      · exact ha0
      · intro y1 y2 hy1
        exact Kept.ite (kept_clearBlock _ _ hy1) hy1
    clear_value x0
    extract_lets +onlyGivenNames -merge -useContext x3
    try clear_value x3
    extract_lets +onlyGivenNames -merge -useContext x4
    try clear_value x4
    extract_lets +onlyGivenNames -merge -useContext x5
    have h5 : Kept s0 x5 := by
      unfold x5
      refine Kept.foldl ?_ ?_
      · exact h0
      · intro y6 y7 hy6
        refine Kept.ite ?_ ?_
        · extract_lets +onlyGivenNames -merge -useContext x8
          try clear_value x8
          extract_lets +onlyGivenNames -merge -useContext x9
          have h9 : Kept s0 x9 := by unfold x9; exact Kept.upd hy6 rfl rfl rfl rfl rfl rfl rfl
          clear_value x9
          with_reducible apply kept_poisonCounts
          · refine Kept.foldl ?_ ?_
            · exact h9
            · intro y10 y11 hy10
              exact kept_setErr _ _ _ hy10
        · extract_lets +onlyGivenNames -merge -useContext x12
          have h12 : Kept s0 x12 := by unfold x12; exact Kept.ite (kept_parityFlush _ _ hy6) hy6
          clear_value x12
          exact kept_parityMerge _ _ h12
    clear_value x5
    refine Kept.foldl1 ?_ ?_
    · exact Kept.mk1 h5
    · intro y13 y14 hy13
      extract_lets +onlyGivenNames -merge -useContext x15
      have h15 : Kept s0 x15.1 := by unfold x15; exact kept_writeWord _ _ _ _ _ hy13
      clear_value x15
      exact Kept.mk1 h15

theorem kept_mbCount {s0 : State} (a0 : State) (ha0 : Kept s0 a0) : Kept s0 (State.mbCount a0) := by
  delta State.mbCount
  exact kept_wf _ _ _ _ _ ha0

theorem kept_mergeWrite {s0 : State} (a0 : State) (a1 : MergeEnt) (ha0 : Kept s0 a0) : Kept s0 (State.mergeWrite a0 a1) := by
  delta State.mergeWrite
  extract_lets +onlyGivenNames -merge -useContext x0
  try clear_value x0
  extract_lets +onlyGivenNames -merge -useContext x1
  have h1 : Kept s0 x1 := by unfold x1; exact Kept.upd ha0 rfl rfl rfl rfl rfl rfl rfl
  clear_value x1
  with_reducible apply kept_mbCount
  · refine Kept.foldl ?_ ?_
    · exact h1
    · intro y2 y3 hy2
      exact kept_memWrite _ _ _ hy2

theorem kept_mergeDrain {s0 : State} (a0 : State) (ha0 : Kept s0 a0) : Kept s0 (State.mergeDrain a0) := by
  delta State.mergeDrain
  split
  · exact kept_mergeWrite _ _ ha0
  · exact ha0

theorem kept_mergeLine {s0 : State} (a0 : State) (a1 : Nat) (ha0 : Kept s0 a0) : Kept s0 (State.mergeLine a0 a1) := by
  delta State.mergeLine
  refine Kept.foldl ?_ ?_
  · exact ha0
  · intro y0 y1 hy0
    exact kept_mergeWrite _ _ hy0

theorem kept_mergePut {s0 : State} (a0 : State) (a1 : Nat) (a2 : Byte) (ha0 : Kept s0 a0) : Kept s0 (State.mergePut a0 a1 a2) := by
  delta State.mergePut
  extract_lets +onlyGivenNames -merge -useContext x0
  try clear_value x0
  split
  · exact Kept.upd ha0 rfl rfl rfl rfl rfl rfl rfl
  · extract_lets +onlyGivenNames -merge -useContext x1
    have h1 : Kept s0 x1 := by unfold x1; exact Kept.ite (kept_mergeDrain _ ha0) ha0
    clear_value x1
    exact kept_mbCount _ (Kept.upd h1 rfl rfl rfl rfl rfl rfl rfl)

theorem kept_mergePuts {s0 : State} (a0 : State) (a1 : Nat) (a2 : List Byte) (ha0 : Kept s0 a0) : Kept s0 (State.mergePuts a0 a1 a2) := by
  induction a2 generalizing a0 a1 with
  | nil => exact ha0
  | cons b bs ih => exact ih _ _ (kept_mergePut _ _ _ ha0)

theorem kept_drainTo {s0 : State} (a0 : State) (a1 : Nat) (a2 : Nat) (ha0 : Kept s0 a0) : Kept s0 (State.drainTo a0 a1 a2) := by
  delta State.drainTo
  refine Kept.foldl ?_ ?_
  · exact ha0
  · intro y0 y1 hy0
    exact kept_mergeWrite _ _ hy0

theorem kept_bufWrite {s0 : State} (a0 : State) (a1 : Nat) (a2 : List Byte) (ha0 : Kept s0 a0) : Kept s0 (State.bufWrite a0 a1 a2).1 := by
  delta State.bufWrite
  exact Kept.ite1 (Kept.ite1 (Kept.mk1 (kept_mergePuts _ _ _ ha0)) (Kept.mk1 ha0)) (Kept.ite1 (kept_memWrite _ _ _ (kept_drainTo _ _ _ ha0)) (kept_memWrite _ _ _ ha0))

theorem kept_bufRead {s0 : State} (a0 : State) (a1 : Nat) (a2 : Nat) (ha0 : Kept s0 a0) : Kept s0 (State.bufRead a0 a1 a2).1 := by
  delta State.bufRead
  extract_lets +onlyGivenNames -merge -useContext x0
  have h0 : Kept s0 x0 := by unfold x0; exact Kept.ite (kept_drainTo _ _ _ ha0) ha0
  clear_value x0
  extract_lets +onlyGivenNames -merge -useContext x1
  have h1 : Kept s0 x1.1 := by unfold x1; exact kept_memRead _ _ _ h0
  clear_value x1
  exact Kept.mk1 h1

theorem kept_mergeAll {s0 : State} (a0 : State) (ha0 : Kept s0 a0) : Kept s0 (State.mergeAll a0) := by
  delta State.mergeAll
  refine Kept.foldl ?_ ?_
  · exact ha0
  · intro y0 y1 hy0
    exact kept_mergeWrite _ _ hy0

theorem kept_cacheFlush {s0 : State} (a0 : State) (ha0 : Kept s0 a0) : Kept s0 (State.cacheFlush a0) := by
  delta State.cacheFlush
  exact Kept.upd ha0 rfl rfl rfl rfl rfl rfl rfl

theorem kept_cacheEmpty {s0 : State} (a0 : State) (ha0 : Kept s0 a0) : Kept s0 (State.cacheEmpty a0) := by
  delta State.cacheEmpty
  exact kept_cacheFlush _ (kept_mergeAll _ ha0)

end Sys2Proof.Machine
end

