-- ==== Sys2Proof/Laws/KeptCommit.lean ====
section
/-! SUPPORT. Laws/KeptCommit.lean: the operations of Machine/Commit.lean answer states that have been kept (Safety.lean). -/

namespace Sys2Proof.Machine
open Sys2Proof

theorem kept_setAdmission {s0 : State} (a0 : State) (a1 : Admission) (ha0 : Kept s0 a0) : Kept s0 (State.setAdmission a0 a1) := by
  delta State.setAdmission
  exact kept_odPut _ _ _ _ (kept_odPut _ _ _ _ (kept_odPut _ _ _ _ (kept_odPut _ _ _ _ (kept_odPut _ _ _ _ ha0))))

theorem kept_linkChange {s0 : State} (a0 : State) (ha0 : Kept s0 a0) : Kept s0 (State.linkChange a0) := by
  delta State.linkChange
  extract_lets +onlyGivenNames -merge -useContext x0
  try clear_value x0
  extract_lets +onlyGivenNames -merge -useContext x1
  try clear_value x1
  extract_lets +onlyGivenNames -merge -useContext x2
  try clear_value x2
  extract_lets +onlyGivenNames -merge -useContext x3
  have h3 : Kept s0 x3 := by unfold x3; exact Kept.ite (Kept.upd ha0 rfl rfl rfl rfl rfl rfl rfl) ha0
  clear_value x3
  exact Kept.ite (Kept.upd h3 rfl rfl rfl rfl rfl rfl rfl) h3

theorem kept_cellChange {s0 : State} (a0 : State) (a1 : Nat) (ha0 : Kept s0 a0) : Kept s0 (State.cellChange a0 a1) := by
  delta State.cellChange
  extract_lets +onlyGivenNames -merge -useContext x0
  try clear_value x0
  extract_lets +onlyGivenNames -merge -useContext x1
  try clear_value x1
  exact Kept.ite ha0 (Kept.ite (Kept.upd ha0 rfl rfl rfl rfl rfl rfl rfl) (Kept.ite (Kept.upd ha0 rfl rfl rfl rfl rfl rfl rfl) ha0))

theorem kept_release {s0 : State} (a0 : State) (ha0 : Kept s0 a0) : Kept s0 (State.release a0) := by
  delta State.release
  extract_lets +onlyGivenNames -merge -useContext x0
  try clear_value x0
  extract_lets +onlyGivenNames -merge -useContext x1
  have h1 : Kept s0 x1 := by
    unfold x1
    refine Kept.foldl ?_ ?_
    · exact kept_linkChange _ (Kept.ite (kept_cacheEmpty _ ha0) ha0)
    · intro y2 y3 hy2
      exact kept_cellChange _ _ hy2
  clear_value x1
  extract_lets +onlyGivenNames -merge -useContext x4
  have h4 : Kept s0 x4 := by
    unfold x4
    refine Kept.foldl ?_ ?_
    · exact h1
    · intro y5 y6 hy5
      exact Kept.ite (kept_poolRestart _ _ _ hy5) hy5
  clear_value x4
  exact ⟨h4.pending, h4.part, h4.minSvn, h4.revoke0, h4.mem, fun h => ⟨(h4.regs h).1, tabWf_filter _ _ (h4.regs h).1⟩⟩

theorem kept_discard {s0 : State} (a0 : State) (ha0 : Kept s0 a0) : Kept s0 (State.discard a0) :=
  ⟨ha0.pending, ha0.part, ha0.minSvn, ha0.revoke0, ha0.mem, fun h => ⟨tabWf_foldl_tabSet _ _ _ _ (tabWf_filter _ _ (ha0.regs h).1), (ha0.regs h).2⟩⟩

theorem kept_saveStore {s0 : State} (a0 : State) (ha0 : Kept s0 a0) : Kept s0 (State.saveStore a0) := by
  delta State.saveStore
  exact Kept.upd ha0 rfl rfl rfl rfl rfl rfl rfl

end Sys2Proof.Machine
end

