-- ==== Sys2Proof/Laws/KeptChannelOps.lean ====
section
/-! SUPPORT. Laws/KeptChannelOps.lean: the operations of Machine/ChannelOps.lean answer states that have been kept (Safety.lean). -/

namespace Sys2Proof.Machine
open Sys2Proof

theorem kept_modTr {s0 : State} (a0 : State) (a1 : Nat) (a2 : Tru → Tru) (ha0 : Kept s0 a0) : Kept s0 (State.modTr a0 a1 a2) := by
  delta State.modTr
  exact Kept.upd ha0 rfl rfl rfl rfl rfl rfl rfl

theorem kept_chReport {s0 : State} (a0 : State) (a1 : Nat) (a2 : Nat) (a3 : Nat) (a4 : Nat) (ha0 : Kept s0 a0) : Kept s0 (State.chReport a0 a1 a2 a3 a4) := by
  delta State.chReport
  exact kept_report _ _ _ _ ha0

theorem kept_fePut {s0 : State} (a0 : State) (a1 : Nat) (a2 : List (Fld × Nat)) (a3 : List (Nat × Nat)) (ha0 : Kept s0 a0) : Kept s0 (State.fePut a0 a1 a2 a3) := by
  delta State.fePut
  refine Kept.foldl ?_ ?_
  · exact ha0
  · intro y0 y1 hy0
    split
    · exact kept_wf _ _ _ _ _ hy0
    · exact hy0

theorem kept_setupNeed {s0 : State} (a0 : State) (a1 : Nat) (ha0 : Kept s0 a0) : Kept s0 (State.setupNeed a0 a1) := by
  delta State.setupNeed
  exact kept_inhibit _ _ _ _ (kept_modCh _ _ _ ha0)

theorem kept_setupCheck {s0 : State} (a0 : State) (a1 : Nat) (ha0 : Kept s0 a0) : Kept s0 (State.setupCheck a0 a1) := by
  delta State.setupCheck
  exact Kept.ite (kept_inhibit _ _ _ _ ha0) ha0

theorem kept_retune {s0 : State} (a0 : State) (a1 : Nat) (a2 : Nat) (ha0 : Kept s0 a0) : Kept s0 (State.retune a0 a1 a2) := by
  delta State.retune
  exact kept_inhibit _ _ _ _ (kept_wf _ _ _ _ _ (kept_wf _ _ _ _ _ (kept_wf _ _ _ _ _ ha0)))

theorem kept_loadSets {s0 : State} (a0 : State) (a1 : Nat) (a2 : Nat) (a3 : Nat) (ha0 : Kept s0 a0) : Kept s0 (State.loadSets a0 a1 a2 a3) := by
  delta State.loadSets
  extract_lets +onlyGivenNames -merge -useContext x0
  try clear_value x0
  extract_lets +onlyGivenNames -merge -useContext x1
  try clear_value x1
  refine Kept.ite ?_ ?_
  · exact ha0
  · extract_lets +onlyGivenNames -merge -useContext x2
    have h2 : Kept s0 x2 := by
      unfold x2
      split
      · exact kept_modCh _ _ _ ha0
      · exact ha0
    clear_value x2
    extract_lets +onlyGivenNames -merge -useContext x3
    have h3 : Kept s0 x3 := by
      unfold x3
      split
      · exact kept_fePut _ _ _ _ h2
      · split
        · exact kept_fePut _ _ _ _ h2
        · exact h2
    clear_value x3
    extract_lets +onlyGivenNames -merge -useContext x4
    try clear_value x4
    extract_lets +onlyGivenNames -merge -useContext x5
    have h5 : Kept s0 x5 := by unfold x5; exact Kept.ite h3 (kept_wf _ _ _ _ _ (kept_wf _ _ _ _ _ (kept_wf _ _ _ _ _ h3)))
    clear_value x5
    exact kept_setupNeed _ _ (kept_modCh _ _ _ h5)

theorem kept_headMapped {s0 : State} (a0 : State) (a1 : Nat) (a2 : Nat) (ha0 : Kept s0 a0) : Kept s0 (State.headMapped a0 a1 a2) := by
  delta State.headMapped
  refine Kept.ite ?_ ?_
  · exact kept_setupNeed _ _ ha0
  · split
    · extract_lets +onlyGivenNames -merge -useContext x0
      have h0 : Kept s0 x0 := by unfold x0; exact Kept.ite ha0 (kept_retune _ _ _ ha0)
      clear_value x0
      exact kept_setupNeed _ _ (kept_loadSets _ _ _ _ h0)
    · exact kept_setupNeed _ _ ha0

theorem kept_plDone {s0 : State} (a0 : State) (a1 : Nat) (a2 : Nat) (a3 : List Byte) (ha0 : Kept s0 a0) : Kept s0 (State.plDone a0 a1 a2 a3) := by
  delta State.plDone
  extract_lets +onlyGivenNames -merge -useContext x0
  have h0 : ∀ y1 y2 y3, (Kept s0 y3) → Kept s0 (x0 y1 y2 y3) := by
    intro y1 y2 y3 hy3
    unfold x0
    split
    · exact kept_setupCheck _ _ (kept_modCh _ _ _ hy3)
    · exact hy3
  clear_value x0
  split
  · exact kept_headMapped _ _ _ ha0
  · extract_lets +onlyGivenNames -merge -useContext x4
    try clear_value x4
    exact Kept.ite (kept_setupCheck _ _ (kept_modCh _ _ _ ha0)) (kept_modCh _ _ _ ha0)
  · extract_lets +onlyGivenNames -merge -useContext x5
    try clear_value x5
    extract_lets +onlyGivenNames -merge -useContext x6
    have h6 : Kept s0 x6 := by
      unfold x6
      split
      · exact kept_wf _ _ _ _ _ ha0
      · exact ha0
    clear_value x6
    apply h0
    · exact h6
  · extract_lets +onlyGivenNames -merge -useContext x7
    try clear_value x7
    refine Kept.ite ?_ ?_
    · extract_lets +onlyGivenNames -merge -useContext x8
      have h8 : Kept s0 x8 := by
        unfold x8
        split
        · exact kept_wf _ _ _ _ _ ha0
        · exact ha0
      clear_value x8
      apply h0
      · exact h8
    · exact ha0
  · exact ha0

theorem kept_plFailed {s0 : State} (a0 : State) (a1 : Nat) (a2 : Nat) (a3 : List Byte) (a4 : Nat) (ha0 : Kept s0 a0) : Kept s0 (State.plFailed a0 a1 a2 a3 a4) := by
  delta State.plFailed
  extract_lets +onlyGivenNames -merge -useContext x0
  have h0 : ∀ y1 y2 y3, (Kept s0 y3) → Kept s0 (x0 y1 y2 y3) := by
    intro y1 y2 y3 hy3
    unfold x0
    exact kept_chReport _ _ _ _ _ (kept_modHd _ _ _ hy3)
  clear_value x0
  split
  · refine Kept.ite ?_ ?_
    · extract_lets +onlyGivenNames -merge -useContext x4
      try clear_value x4
      refine Kept.ite ?_ ?_
      · exact ha0
      · apply h0
        · exact ha0
    · exact ha0
  · split
    · apply h0
      · exact ha0
    · exact ha0
  · refine Kept.ite ?_ ?_
    · split
      · apply h0
        · exact ha0
      · exact ha0
    · exact ha0
  · exact ha0

theorem kept_requeue {s0 : State} (a0 : State) (a1 : SecCmd) (ha0 : Kept s0 a0) : Kept s0 (State.requeue a0 a1) := by
  delta State.requeue
  exact Kept.ite ha0 (Kept.upd ha0 rfl rfl rfl rfl rfl rfl rfl)

theorem kept_modSlot {s0 : State} (a0 : State) (a1 : Nat) (a2 : Nat) (a3 : SlotRec → SlotRec) (ha0 : Kept s0 a0) : Kept s0 (State.modSlot a0 a1 a2 a3) := by
  delta State.modSlot
  exact kept_modCh _ _ _ ha0

theorem kept_freeRec {s0 : State} (a0 : State) (a1 : Nat) (a2 : Nat) (ha0 : Kept s0 a0) : Kept s0 (State.freeRec a0 a1 a2) := by
  delta State.freeRec
  exact kept_modCh _ _ _ ha0

theorem kept_releaseTarget {s0 : State} (a0 : State) (a1 : Nat) (a2 : Nat) (ha0 : Kept s0 a0) : Kept s0 (State.releaseTarget a0 a1 a2) := by
  delta State.releaseTarget
  extract_lets +onlyGivenNames -merge -useContext x0
  try clear_value x0
  split
  · exact ha0
  · extract_lets +onlyGivenNames -merge -useContext x1
    have h1 : Kept s0 x1 := by unfold x1; exact kept_modCh _ _ _ ha0
    clear_value x1
    extract_lets +onlyGivenNames -merge -useContext x2
    have h2 : Kept s0 x2 := by unfold x2; exact Kept.ite (kept_modCh _ _ _ h1) h1
    clear_value x2
    exact Kept.ite (kept_requeue _ _ h2) h2

end Sys2Proof.Machine
end

