-- ==== Sys2Proof/Laws/KeptTransfers.lean ====
section
/-! SUPPORT. Laws/KeptTransfers.lean: the operations of Machine/Transfers.lean answer states that have been kept (Safety.lean). -/

namespace Sys2Proof.Machine
open Sys2Proof

theorem kept_fillSector {s0 : State} (a0 : State) (a1 : Nat) (ha0 : Kept s0 a0) : Kept s0 (State.fillSector a0 a1) := by
  delta State.fillSector
  exact Kept.ite (kept_mediaBlock _ _ ha0) ha0

theorem kept_modPool {s0 : State} (a0 : State) (a1 : Nat) (a2 : Pool → Pool) (ha0 : Kept s0 a0) : Kept s0 (State.modPool a0 a1 a2) := by
  delta State.modPool
  exact Kept.upd ha0 rfl rfl rfl rfl rfl rfl rfl

theorem kept_poolFell {s0 : State} (a0 : State) (a1 : Nat) (ha0 : Kept s0 a0) : Kept s0 (State.poolFell a0 a1) := by
  delta State.poolFell
  extract_lets +onlyGivenNames -merge -useContext x0
  try clear_value x0
  extract_lets +onlyGivenNames -merge -useContext x1
  have h1 : Kept s0 x1 := by unfold x1; exact kept_modPool _ _ _ ha0
  clear_value x1
  exact Kept.ite (kept_report _ _ _ _ (kept_modPool _ _ _ h1)) h1

theorem kept_poolRose {s0 : State} (a0 : State) (a1 : Nat) (ha0 : Kept s0 a0) : Kept s0 (State.poolRose a0 a1) := by
  delta State.poolRose
  exact Kept.ite (kept_modPool _ _ _ ha0) ha0

theorem kept_pailTake {s0 : State} (a0 : State) (a1 : Nat) (ha0 : Kept s0 a0) : Kept s0 (State.pailTake a0 a1).1 := by
  delta State.pailTake
  extract_lets +onlyGivenNames -merge -useContext x0
  try clear_value x0
  exact Kept.mk1 (kept_poolFell _ _ (kept_modPool _ _ _ ha0))

theorem kept_pailDrop {s0 : State} (a0 : State) (a1 : Nat) (ha0 : Kept s0 a0) : Kept s0 (State.pailDrop a0 a1) := by
  delta State.pailDrop
  exact kept_poolRose _ _ (kept_modPool _ _ _ ha0)

theorem kept_countEmpty {s0 : State} (a0 : State) (a1 : Nat) (ha0 : Kept s0 a0) : Kept s0 (State.countEmpty a0 a1) := by
  delta State.countEmpty
  exact kept_cnt _ _ _ _ _ (kept_modPool _ _ _ ha0)

theorem kept_modCmd {s0 : State} (a0 : State) (a1 : Nat) (a2 : Cmd → Cmd) (ha0 : Kept s0 a0) : Kept s0 (State.modCmd a0 a1 a2) := by
  delta State.modCmd
  exact Kept.upd ha0 rfl rfl rfl rfl rfl rfl rfl

theorem kept_newStamp {s0 : State} (a0 : State) (ha0 : Kept s0 a0) : Kept s0 (State.newStamp a0).1 := by
  delta State.newStamp
  exact Kept.mk1 (Kept.upd ha0 rfl rfl rfl rfl rfl rfl rfl)

theorem kept_pailsFree {s0 : State} (a0 : State) (a1 : List Nat) (ha0 : Kept s0 a0) : Kept s0 (State.pailsFree a0 a1) := by
  delta State.pailsFree
  refine Kept.foldl ?_ ?_
  · exact ha0
  · intro y0 y1 hy0
    exact Kept.ite hy0 (kept_pailDrop _ _ hy0)

theorem kept_modDc {s0 : State} (a0 : State) (a1 : Nat) (a2 : DmaCh → DmaCh) (ha0 : Kept s0 a0) : Kept s0 (State.modDc a0 a1 a2) := by
  delta State.modDc
  exact Kept.upd ha0 rfl rfl rfl rfl rfl rfl rfl

theorem kept_modEn {s0 : State} (a0 : State) (a1 : Nat) (a2 : Engine → Engine) (ha0 : Kept s0 a0) : Kept s0 (State.modEn a0 a1 a2) := by
  delta State.modEn
  exact Kept.upd ha0 rfl rfl rfl rfl rfl rfl rfl

theorem kept_setPtr {s0 : State} (a0 : State) (a1 : Fld) (a2 : Fld) (a3 : Nat) (a4 : Nat) (a5 : Nat) (ha0 : Kept s0 a0) : Kept s0 (State.setPtr a0 a1 a2 a3 a4 a5) := by
  delta State.setPtr
  exact kept_wf _ _ _ _ _ (kept_wf _ _ _ _ _ ha0)

theorem kept_setCh {s0 : State} (a0 : State) (a1 : Nat) (a2 : Nat) (ha0 : Kept s0 a0) : Kept s0 (State.setCh a0 a1 a2) := by
  delta State.setCh
  exact kept_wf _ _ _ _ _ ha0

theorem kept_chEnter {s0 : State} (a0 : State) (a1 : Nat) (ha0 : Kept s0 a0) : Kept s0 (State.chEnter a0 a1) := by
  delta State.chEnter
  extract_lets +onlyGivenNames -merge -useContext x0
  try clear_value x0
  exact Kept.ite ha0 (Kept.ite (kept_setCh _ _ _ ha0) (Kept.ite (kept_setCh _ _ _ ha0) (kept_setCh _ _ _ (kept_modEn _ _ _ ha0))))

theorem kept_queueDesc {s0 : State} (a0 : State) (a1 : List Nat) (a2 : Desc) (ha0 : Kept s0 a0) : Kept s0 (State.queueDesc a0 a1 a2) := by
  delta State.queueDesc
  split
  · exact ha0
  · extract_lets +onlyGivenNames -merge -useContext x0
    try clear_value x0
    extract_lets +onlyGivenNames -merge -useContext x1
    have h1 : Kept s0 x1 := by unfold x1; exact kept_modDc _ _ _ ha0
    clear_value x1
    exact kept_chEnter _ _ (kept_setPtr _ _ _ _ _ _ h1)

theorem kept_cmdFail {s0 : State} (a0 : State) (a1 : Nat) (a2 : Nat) (a3 : Nat) (ha0 : Kept s0 a0) : Kept s0 (State.cmdFail a0 a1 a2 a3) := by
  delta State.cmdFail
  exact kept_modCmd _ _ _ ha0

theorem kept_readSource {s0 : State} (a0 : State) (a1 : Cmd) (a2 : Nat) (ha0 : Kept s0 a0) : Kept s0 (State.readSource a0 a1 a2) := by
  delta State.readSource
  extract_lets +onlyGivenNames -merge -useContext x0
  try clear_value x0
  extract_lets +onlyGivenNames -merge -useContext x1
  have h1 : Kept s0 x1 := by unfold x1; exact kept_modCmd _ _ _ ha0
  clear_value x1
  split
  · extract_lets +onlyGivenNames -merge -useContext x2
    have h2 : Kept s0 x2 := by unfold x2; exact kept_modCmd _ _ _ h1
    clear_value x2
    exact Kept.ite (kept_modCmd _ _ _ h2) (kept_queueDesc _ _ _ h2)
  · extract_lets +onlyGivenNames -merge -useContext x3
    try clear_value x3
    extract_lets +onlyGivenNames -merge -useContext x4
    try clear_value x4
    split
    · exact kept_modCmd _ _ _ (kept_cmdFail _ _ _ _ h1)
    · split
      · exact Kept.ite (kept_modCmd _ _ _ (kept_cmdFail _ _ _ _ h1)) (Kept.upd h1 rfl rfl rfl rfl rfl rfl rfl)
      · exact Kept.upd h1 rfl rfl rfl rfl rfl rfl rfl

theorem kept_readAdvance {s0 : State} (a0 : State) (ha0 : Kept s0 a0) : Kept s0 (State.readAdvance a0) := by
  delta State.readAdvance
  refine Kept.foldl ?_ ?_
  · exact ha0
  · intro y0 y1 hy0
    refine Kept.ite ?_ ?_
    · refine Kept.foldl ?_ ?_
      · exact hy0
      · intro y2 y3 hy2
        split
        · exact Kept.ite (kept_readSource _ _ _ hy2) hy2
        · exact hy2
    · exact hy0

theorem kept_objReady {s0 : State} (a0 : State) (a1 : Cmd) (a2 : Nat) (a3 : Nat) (ha0 : Kept s0 a0) : Kept s0 (State.objReady a0 a1 a2 a3) := by
  delta State.objReady
  split
  · exact ha0
  · extract_lets +onlyGivenNames -merge -useContext x0
    have h0 : Kept s0 x0 := by unfold x0; exact kept_modCmd _ _ _ ha0
    clear_value x0
    exact Kept.ite h0 (kept_queueDesc _ _ _ h0)

theorem kept_hostReady {s0 : State} (a0 : State) (a1 : SecCmd) (ha0 : Kept s0 a0) : Kept s0 (State.hostReady a0 a1) := by
  delta State.hostReady
  split
  · exact kept_pailsFree _ _ ha0
  · refine Kept.ite ?_ ?_
    · exact ha0
    · refine Kept.ite ?_ ?_
      · exact kept_objReady _ _ _ _ ha0
      · extract_lets +onlyGivenNames -merge -useContext x0
        try clear_value x0
        extract_lets +onlyGivenNames -merge -useContext x1
        try clear_value x1
        extract_lets +onlyGivenNames -merge -useContext x2
        have h2 : Kept s0 x2 := by unfold x2; exact kept_modCmd _ _ _ ha0
        clear_value x2
        extract_lets +onlyGivenNames -merge -useContext x3
        have h3 : Kept s0 x3 := by unfold x3; exact kept_modCmd _ _ _ h2
        clear_value x3
        exact Kept.ite (kept_modCmd _ _ _ h3) (kept_queueDesc _ _ _ h3)

theorem kept_install {s0 : State} (a0 : State) (a1 : Cmd) (a2 : Nat) (ha0 : Kept s0 a0) : Kept s0 (State.install a0 a1 a2) := by
  delta State.install
  extract_lets +onlyGivenNames -merge -useContext x0
  try clear_value x0
  split
  · exact ha0
  · extract_lets +onlyGivenNames -merge -useContext x1
    try clear_value x1
    extract_lets +onlyGivenNames -merge -useContext x2
    try clear_value x2
    extract_lets +onlyGivenNames -merge -useContext x3
    have h3 : Kept s0 x3 := by unfold x3; exact Kept.upd ha0 rfl rfl rfl rfl rfl rfl rfl
    clear_value x3
    exact kept_readAdvance _ (kept_pailsFree _ _ (kept_modCmd _ _ _ h3))

end Sys2Proof.Machine
end

