-- ==== Sys2Proof/Laws/KeptCache.lean ====
section
/-! SUPPORT. Laws/KeptCache.lean: the operations of Machine/Cache.lean answer states that have been kept (Safety.lean). -/

namespace Sys2Proof.Machine
open Sys2Proof

theorem kept_mcMiss {s0 : State} (a0 : State) (a1 : Nat) (a2 : Nat × Nat × Nat) (ha0 : Kept s0 a0) : Kept s0 (State.mcMiss a0 a1 a2) := by
  delta State.mcMiss
  refine Kept.ite ?_ ?_
  · exact Kept.upd ha0 rfl rfl rfl rfl rfl rfl rfl
  · refine Kept.ite ?_ ?_
    · exact Kept.upd ha0 rfl rfl rfl rfl rfl rfl rfl
    · split
      · exact Kept.upd ha0 rfl rfl rfl rfl rfl rfl rfl
      · extract_lets +onlyGivenNames -merge -useContext x0
        try clear_value x0
        extract_lets +onlyGivenNames -merge -useContext x1
        have h1 : Kept s0 x1 := by
          unfold x1
          split
          · exact kept_mergeLine _ _ ha0
          · exact ha0
        clear_value x1
        extract_lets +onlyGivenNames -merge -useContext x2
        have h2 : Kept s0 x2 := by unfold x2; exact kept_mergeLine _ _ h1
        clear_value x2
        exact Kept.upd h2 rfl rfl rfl rfl rfl rfl rfl

theorem kept_mcTouch {s0 : State} (a0 : State) (a1 : Nat) (a2 : Nat) (ha0 : Kept s0 a0) : Kept s0 (State.mcTouch a0 a1 a2) := by
  delta State.mcTouch
  exact Kept.upd ha0 rfl rfl rfl rfl rfl rfl rfl

theorem kept_mcAnswer {s0 : State} (a0 : State) (a1 : Nat × Nat × Nat) (ha0 : Kept s0 a0) : Kept s0 (State.mcAnswer a0 a1) := by
  delta State.mcAnswer
  extract_lets +onlyGivenNames -merge -useContext x0
  try clear_value x0
  extract_lets +onlyGivenNames -merge -useContext x1
  have h1 : Kept s0 x1.1 := by unfold x1; exact kept_memRead _ _ _ ha0
  clear_value x1
  exact Kept.ite (kept_emit _ _ h1) (kept_emit _ _ h1)

theorem kept_mcRead {s0 : State} (a0 : State) (a1 : Nat × Nat × Nat) (a2 : Bool) (ha0 : Kept s0 a0) : Kept s0 (State.mcRead a0 a1 a2) := by
  delta State.mcRead
  extract_lets +onlyGivenNames -merge -useContext x0
  try clear_value x0
  extract_lets +onlyGivenNames -merge -useContext x1
  try clear_value x1
  extract_lets +onlyGivenNames -merge -useContext x2
  have h2 : Kept s0 x2 := by
    unfold x2
    refine Kept.foldl ?_ ?_
    · exact ha0
    · intro y3 y4 hy3
      split
      · exact kept_mcTouch _ _ _ (Kept.ite (kept_cnt _ _ _ _ _ hy3) hy3)
      · exact Kept.ite (kept_cnt _ _ _ _ _ hy3) hy3
  clear_value x2
  refine Kept.ite ?_ ?_
  · exact kept_emit _ _ h2
  · refine Kept.foldl ?_ ?_
    · exact h2
    · intro y5 y6 hy5
      exact kept_mcMiss _ _ _ hy5

theorem kept_mcError {s0 : State} (a0 : State) (a1 : Nat) (a2 : McFault) (ha0 : Kept s0 a0) : Kept s0 (State.mcError a0 a1 a2) := by
  delta State.mcError
  split
  · exact ha0
  · exact kept_report _ _ _ _ (kept_cnt _ _ _ _ _ ha0)
  · extract_lets +onlyGivenNames -merge -useContext x0
    try clear_value x0
    extract_lets +onlyGivenNames -merge -useContext x1
    have h1 : Kept s0 x1 := by
      unfold x1
      split
      · exact Kept.upd ha0 rfl rfl rfl rfl rfl rfl rfl
      · exact ha0
    clear_value x1
    exact kept_report _ _ _ _ (kept_cnt _ _ _ _ _ h1)
  · exact kept_report _ _ _ _ (kept_cnt _ _ _ _ _ (Kept.upd ha0 rfl rfl rfl rfl rfl rfl rfl))

theorem kept_mcAccess {s0 : State} (a0 : State) (a1 : Nat) (a2 : Nat) (a3 : Option (List Byte)) (a4 : Nat) (a5 : McFault) (ha0 : Kept s0 a0) : Kept s0 (State.mcAccess a0 a1 a2 a3 a4 a5) := by
  delta State.mcAccess
  extract_lets +onlyGivenNames -merge -useContext x0
  try clear_value x0
  extract_lets +onlyGivenNames -merge -useContext x1
  have h1 : ∀ y2, (Kept s0 y2) → Kept s0 (x1 y2) := by
    intro y2 hy2
    unfold x1
    split
    · extract_lets +onlyGivenNames -merge -useContext x3
      have h3 : Kept s0 x3.1 := by unfold x3; exact kept_bufWrite _ _ _ hy2
      clear_value x3
      exact kept_emit _ _ h3
    · extract_lets +onlyGivenNames -merge -useContext x4
      have h4 : Kept s0 x4.1 := by unfold x4; exact kept_bufRead _ _ _ hy2
      clear_value x4
      split
      · exact kept_emit _ _ h4
      · exact kept_emit _ _ h4
  clear_value x1
  extract_lets +onlyGivenNames -merge -useContext x5
  try clear_value x5
  refine Kept.ite ?_ ?_
  · apply h1
    · exact ha0
  · extract_lets +onlyGivenNames -merge -useContext x6
    try clear_value x6
    extract_lets +onlyGivenNames -merge -useContext x7
    have h7 : Kept s0 x7 := by
      unfold x7
      split
      · exact kept_mcError _ _ _ ha0
      · exact ha0
    clear_value x7
    refine Kept.ite ?_ ?_
    · apply h1
      · exact h7
    · split
      · extract_lets +onlyGivenNames -merge -useContext x8
        have h8 : Kept s0 x8 := by
          unfold x8
          refine Kept.foldl ?_ ?_
          · exact h7
          · intro y9 y10 hy9
            split
            · exact kept_mcTouch _ _ _ (kept_cnt _ _ _ _ _ hy9)
            · exact kept_cnt _ _ _ _ _ hy9
        clear_value x8
        extract_lets +onlyGivenNames -merge -useContext x11
        have h11 : Kept s0 x11.1 := by unfold x11; exact kept_bufWrite _ _ _ h8
        clear_value x11
        exact kept_emit _ _ h11
      · exact kept_mcRead _ _ _ h7

theorem kept_execMcAccess {s0 : State} (a0 : Fin 4) (a1 : BitVec 34) (a2 : Option (List Byte)) (a3 : Nat) (a4 : McFault) (a5 : State) (ha5 : Kept s0 a5) : KeptR s0 (execMcAccess a0 a1 a2 a3 a4 a5) := by
  delta execMcAccess
  exact KeptR.next (kept_mcAccess _ _ _ _ _ _ ha5)

theorem kept_mcFillDone {s0 : State} (a0 : State) (a1 : Nat) (ha0 : Kept s0 a0) : Kept s0 (State.mcFillDone a0 a1) := by
  delta State.mcFillDone
  split
  · exact ha0
  · extract_lets +onlyGivenNames -merge -useContext x0
    have h0 : Kept s0 x0.1 := by unfold x0; exact kept_memRead _ _ _ ha0
    clear_value x0
    extract_lets +onlyGivenNames -merge -useContext x1
    have h1 : Kept s0 x1 := by unfold x1; exact h0
    clear_value x1
    extract_lets +onlyGivenNames -merge -useContext x2
    try clear_value x2
    extract_lets +onlyGivenNames -merge -useContext x3
    have h3 : Kept s0 x3 := by unfold x3; exact Kept.upd h1 rfl rfl rfl rfl rfl rfl rfl
    clear_value x3
    extract_lets +onlyGivenNames -merge -useContext x4
    try clear_value x4
    extract_lets +onlyGivenNames -merge -useContext x5
    have h5 : Kept s0 x5 := by unfold x5; exact Kept.ite (kept_mcTouch _ _ _ (Kept.upd h3 rfl rfl rfl rfl rfl rfl rfl)) h3
    clear_value x5
    extract_lets +onlyGivenNames -merge -useContext x6
    have h6 : Kept s0 x6 := by
      unfold x6
      refine Kept.foldl ?_ ?_
      · exact h5
      · intro y7 y8 hy7
        exact Kept.ite hy7 (kept_mcAnswer _ _ hy7)
    clear_value x6
    extract_lets +onlyGivenNames -merge -useContext x9
    try clear_value x9
    refine Kept.foldl ?_ ?_
    · exact Kept.upd h6 rfl rfl rfl rfl rfl rfl rfl
    · intro y10 y11 hy10
      exact kept_mcRead _ _ _ hy10

theorem kept_execMcFillDone {s0 : State} (a0 : BitVec 27) (a1 : State) (ha1 : Kept s0 a1) : KeptR s0 (execMcFillDone a0 a1) := by
  delta execMcFillDone
  exact KeptR.next (kept_mcFillDone _ _ ha1)

theorem kept_execMergeDrain {s0 : State} (a0 : State) (ha0 : Kept s0 a0) : KeptR s0 (execMergeDrain a0) := by
  delta execMergeDrain
  exact KeptR.next (kept_mergeDrain _ ha0)

theorem kept_mcEnable {s0 : State} (a0 : State) (a1 : Bool) (ha0 : Kept s0 a0) : Kept s0 (State.mcEnable a0 a1) := by
  delta State.mcEnable
  extract_lets +onlyGivenNames -merge -useContext x0
  try clear_value x0
  extract_lets +onlyGivenNames -merge -useContext x1
  have h1 : Kept s0 x1 := by unfold x1; exact kept_wb _ _ _ _ _ ha0
  clear_value x1
  refine Kept.ite ?_ ?_
  · exact Kept.ite (kept_wf _ _ _ _ _ h1) (Kept.ite (kept_wb _ _ _ _ _ h1) h1)
  · extract_lets +onlyGivenNames -merge -useContext x2
    have h2 : Kept s0 x2 := by unfold x2; exact kept_wb _ _ _ _ _ h1
    clear_value x2
    exact Kept.ite (kept_wf _ _ _ _ _ h2) h2

theorem kept_execMcEnableWrite {s0 : State} (a0 : Bool) (a1 : State) (ha1 : Kept s0 a1) : KeptR s0 (execMcEnableWrite a0 a1) := by
  delta execMcEnableWrite
  exact KeptR.next (kept_mcEnable _ _ ha1)

theorem kept_mcStateDone {s0 : State} (a0 : State) (ha0 : Kept s0 a0) : Kept s0 (State.mcStateDone a0) := by
  delta State.mcStateDone
  extract_lets +onlyGivenNames -merge -useContext x0
  try clear_value x0
  exact Kept.ite (kept_wf _ _ _ _ _ (kept_cacheFlush _ ha0)) (Kept.ite (Kept.ite (kept_wf _ _ _ _ _ ha0) ha0) (Kept.ite (kept_wb _ _ _ _ _ (kept_wf _ _ _ _ _ (kept_cacheFlush _ ha0))) ha0))

theorem kept_execMcStateDone {s0 : State} (a0 : State) (ha0 : Kept s0 a0) : KeptR s0 (execMcStateDone a0) := by
  delta execMcStateDone
  exact KeptR.next (kept_mcStateDone _ ha0)

theorem kept_mcInvGo {s0 : State} (a0 : State) (ha0 : Kept s0 a0) : Kept s0 (State.mcInvGo a0) := by
  delta State.mcInvGo
  exact Kept.ite ha0 (kept_wb _ _ _ _ _ (Kept.upd ha0 rfl rfl rfl rfl rfl rfl rfl))

theorem kept_execMcInvGo {s0 : State} (a0 : State) (ha0 : Kept s0 a0) : KeptR s0 (execMcInvGo a0) := by
  delta execMcInvGo
  exact KeptR.next (kept_mcInvGo _ ha0)

theorem kept_mcInvDone {s0 : State} (a0 : State) (ha0 : Kept s0 a0) : Kept s0 (State.mcInvDone a0) := by
  delta State.mcInvDone
  split
  · exact ha0
  · extract_lets +onlyGivenNames -merge -useContext x0
    try clear_value x0
    extract_lets +onlyGivenNames -merge -useContext x1
    try clear_value x1
    extract_lets +onlyGivenNames -merge -useContext x2
    have h2 : Kept s0 x2 := by unfold x2; exact Kept.upd ha0 rfl rfl rfl rfl rfl rfl rfl
    clear_value x2
    exact kept_wb _ _ _ _ _ (kept_wb _ _ _ _ _ h2)

theorem kept_execMcInvDone {s0 : State} (a0 : State) (ha0 : Kept s0 a0) : KeptR s0 (execMcInvDone a0) := by
  delta execMcInvDone
  exact KeptR.next (kept_mcInvDone _ ha0)

theorem kept_mcLock {s0 : State} (a0 : State) (a1 : Nat) (a2 : Bool) (ha0 : Kept s0 a0) : Kept s0 (State.mcLock a0 a1 a2) := by
  delta State.mcLock
  refine Kept.ite ?_ ?_
  · extract_lets +onlyGivenNames -merge -useContext x0
    try clear_value x0
    extract_lets +onlyGivenNames -merge -useContext x1
    try clear_value x1
    refine Kept.ite ?_ ?_
    · exact ha0
    · refine Kept.ite ?_ ?_
      · exact kept_wbit _ _ _ _ _ _ ha0
      · extract_lets +onlyGivenNames -merge -useContext x2
        try clear_value x2
        extract_lets +onlyGivenNames -merge -useContext x3
        have h3 : Kept s0 x3 := by unfold x3; exact Kept.upd ha0 rfl rfl rfl rfl rfl rfl rfl
        clear_value x3
        exact kept_wbit _ _ _ _ _ _ (kept_wb _ _ _ _ _ h3)
  · exact kept_wbit _ _ _ _ _ _ (kept_wb _ _ _ _ _ ha0)

theorem kept_execMcLockEn {s0 : State} (a0 : Fin 4) (a1 : Bool) (a2 : State) (ha2 : Kept s0 a2) : KeptR s0 (execMcLockEn a0 a1 a2) := by
  delta execMcLockEn
  exact KeptR.next (kept_mcLock _ _ _ ha2)

theorem kept_mcPreload {s0 : State} (a0 : State) (a1 : Nat) (ha0 : Kept s0 a0) : Kept s0 (State.mcPreload a0 a1) := by
  delta State.mcPreload
  refine Kept.ite ?_ ?_
  · exact ha0
  · refine Kept.foldl ?_ ?_
    · exact ha0
    · intro y0 y1 hy0
      extract_lets +onlyGivenNames -merge -useContext x2
      try clear_value x2
      refine Kept.ite ?_ ?_
      · exact hy0
      · extract_lets +onlyGivenNames -merge -useContext x3
        have h3 : Kept s0 x3.1 := by unfold x3; exact kept_memRead _ _ _ (kept_mergeLine _ _ hy0)
        clear_value x3
        refine Kept.ite ?_ ?_
        · exact h3
        · extract_lets +onlyGivenNames -merge -useContext x4
          have h4 : Kept s0 x4 := by unfold x4; exact h3
          clear_value x4
          exact Kept.upd h4 rfl rfl rfl rfl rfl rfl rfl

theorem kept_execMcPreload {s0 : State} (a0 : Fin 4) (a1 : State) (ha1 : Kept s0 a1) : KeptR s0 (execMcPreload a0 a1) := by
  delta execMcPreload
  exact KeptR.next (kept_mcPreload _ _ ha1)

end Sys2Proof.Machine
end

