-- ==== Sys2Proof/Laws/KeptPa12.lean ====
section
/-! SUPPORT. Laws/KeptPa12.lean: the operations of Machine/Pa12.lean answer states that have been kept (Safety.lean). -/

namespace Sys2Proof.Machine
open Sys2Proof

theorem kept_plPut {s0 : State} (a0 : State) (a1 : Nat) (a2 : PlFrame) (ha0 : Kept s0 a0) : Kept s0 (State.plPut a0 a1 a2) := by
  delta State.plPut
  refine Kept.ite ?_ ?_
  · extract_lets +onlyGivenNames -merge -useContext x0
    try clear_value x0
    extract_lets +onlyGivenNames -merge -useContext x1
    have h1 : Kept s0 x1 := by unfold x1; exact kept_emit _ _ (kept_useFree _ ha0)
    clear_value x1
    extract_lets +onlyGivenNames -merge -useContext x2
    have h2 : Kept s0 x2 := by unfold x2; exact kept_modPl _ _ _ h1
    clear_value x2
    exact Kept.upd h2 rfl rfl rfl rfl rfl rfl rfl
  · extract_lets +onlyGivenNames -merge -useContext x3
    try clear_value x3
    extract_lets +onlyGivenNames -merge -useContext x4
    have h4 : Kept s0 x4 := by unfold x4; exact kept_wb _ _ _ _ _ (kept_wf _ _ _ _ _ ha0)
    clear_value x4
    exact kept_modPl _ _ _ (kept_emit _ _ h4)

theorem kept_plSend {s0 : State} (a0 : State) (a1 : Nat) (a2 : Nat) (a3 : PlFrame) (ha0 : Kept s0 a0) : Kept s0 (State.plSend a0 a1 a2 a3) := by
  delta State.plSend
  exact Kept.ite (Kept.ite (kept_plPut _ _ _ ha0) (kept_modPl _ _ _ ha0)) ha0

theorem kept_plArbitrate {s0 : State} (a0 : State) (a1 : Nat) (ha0 : Kept s0 a0) : Kept s0 (State.plArbitrate a0 a1) := by
  delta State.plArbitrate
  extract_lets +onlyGivenNames -merge -useContext x0
  have h0 : Kept s0 x0 := by unfold x0; exact kept_modPl _ _ _ ha0
  clear_value x0
  split
  · exact h0
  · exact kept_plPut _ _ _ (kept_modPl _ _ _ h0)

theorem kept_plSlotCmd {s0 : State} (a0 : State) (a1 : Nat) (a2 : Nat) (a3 : PlFrame) (ha0 : Kept s0 a0) : Kept s0 (State.plSlotCmd a0 a1 a2 a3) := by
  delta State.plSlotCmd
  exact Kept.ite (kept_modPl _ _ _ ha0) (kept_plSend _ _ _ _ ha0)

theorem kept_slotMap {s0 : State} (a0 : State) (a1 : Nat) (a2 : Nat) (a3 : Nat) (ha0 : Kept s0 a0) : Kept s0 (State.slotMap a0 a1 a2 a3) := by
  delta State.slotMap
  exact Kept.ite (kept_emit _ _ ha0) (kept_plSlotCmd _ _ _ _ ha0)

theorem kept_execSlotMap {s0 : State} (a0 : Act) (a1 : Fin 8) (a2 : BitVec 4) (a3 : State) (ha3 : Kept s0 a3) : KeptR s0 (execSlotMap a0 a1 a2 a3) := by
  delta execSlotMap
  exact KeptR.next (kept_slotMap _ _ _ _ ha3)

theorem kept_slotMode {s0 : State} (a0 : State) (a1 : Nat) (a2 : Nat) (a3 : Nat) (ha0 : Kept s0 a0) : Kept s0 (State.slotMode a0 a1 a2 a3) := by
  delta State.slotMode
  exact kept_plSlotCmd _ _ _ _ ha0

theorem kept_execSlotMode {s0 : State} (a0 : Act) (a1 : Fin 8) (a2 : BitVec 8) (a3 : State) (ha3 : Kept s0 a3) : KeptR s0 (execSlotMode a0 a1 a2 a3) := by
  delta execSlotMode
  exact KeptR.next (kept_slotMode _ _ _ _ ha3)

theorem kept_execReadBias {s0 : State} (a0 : Act) (a1 : BitVec 8) (a2 : BitVec 8) (a3 : BitVec 8) (a4 : State) (ha4 : Kept s0 a4) : KeptR s0 (execReadBias a0 a1 a2 a3 a4) := by
  delta execReadBias
  exact KeptR.next (kept_plSend _ _ _ _ ha4)

theorem kept_writeCurrent {s0 : State} (a0 : State) (a1 : Nat) (a2 : Nat) (a3 : Nat) (a4 : Nat) (a5 : Nat) (ha0 : Kept s0 a0) : Kept s0 (State.writeCurrent a0 a1 a2 a3 a4 a5) := by
  delta State.writeCurrent
  exact kept_plSend _ _ _ _ ha0

theorem kept_execWriteCurrent {s0 : State} (a0 : Act) (a1 : BitVec 8) (a2 : BitVec 6) (a3 : BitVec 4) (a4 : BitVec 4) (a5 : State) (ha5 : Kept s0 a5) : KeptR s0 (execWriteCurrent a0 a1 a2 a3 a4 a5) := by
  delta execWriteCurrent
  exact KeptR.next (kept_writeCurrent _ _ _ _ _ _ ha5)

theorem kept_heater {s0 : State} (a0 : State) (a1 : Nat) (a2 : Nat) (a3 : Nat) (a4 : Nat) (ha0 : Kept s0 a0) : Kept s0 (State.heater a0 a1 a2 a3 a4) := by
  delta State.heater
  exact kept_plSend _ _ _ _ ha0

theorem kept_execHeater {s0 : State} (a0 : Act) (a1 : BitVec 8) (a2 : BitVec 8) (a3 : BitVec 10) (a4 : State) (ha4 : Kept s0 a4) : KeptR s0 (execHeater a0 a1 a2 a3 a4) := by
  delta execHeater
  exact KeptR.next (kept_heater _ _ _ _ _ ha4)

theorem kept_maDrive {s0 : State} (a0 : State) (a1 : Nat) (a2 : List (Nat × Nat)) (ha0 : Kept s0 a0) : Kept s0 (State.maDrive a0 a1 a2) := by
  delta State.maDrive
  exact Kept.ite ha0 (kept_plSend _ _ _ _ ha0)

theorem kept_execMaDrive {s0 : State} (a0 : Act) (a1 : List (Fin 8 × BitVec 16)) (a2 : State) (ha2 : Kept s0 a2) : KeptR s0 (execMaDrive a0 a1 a2) := by
  delta execMaDrive
  exact KeptR.next (kept_maDrive _ _ _ ha2)

theorem kept_execStatusRead {s0 : State} (a0 : Act) (a1 : State) (ha1 : Kept s0 a1) : KeptR s0 (execStatusRead a0 a1) := by
  delta execStatusRead
  exact KeptR.next (kept_plSend _ _ _ _ ha1)

theorem kept_execLinkReset {s0 : State} (a0 : Act) (a1 : State) (ha1 : Kept s0 a1) : KeptR s0 (execLinkReset a0 a1) := by
  delta execLinkReset
  exact KeptR.next (kept_plSend _ _ _ _ ha1)

theorem kept_execEcho {s0 : State} (a0 : Act) (a1 : BitVec 64) (a2 : State) (ha2 : Kept s0 a2) : KeptR s0 (execEcho a0 a1 a2) := by
  delta execEcho
  exact KeptR.next (kept_plSend _ _ _ _ ha2)

theorem kept_execHeldSlotRequestSend {s0 : State} (a0 : Act) (a1 : State) (ha1 : Kept s0 a1) : KeptR s0 (execHeldSlotRequestSend a0 a1) := by
  delta execHeldSlotRequestSend
  split
  · exact KeptR.next ha1
  · exact KeptR.ite (KeptR.next ha1) (KeptR.next (kept_plSend _ _ _ _ (kept_modPl _ _ _ ha1)))

theorem kept_execPa12LinkArbitrate {s0 : State} (a0 : Act) (a1 : State) (ha1 : Kept s0 a1) : KeptR s0 (execPa12LinkArbitrate a0 a1) := by
  delta execPa12LinkArbitrate
  exact KeptR.next (kept_plArbitrate _ _ ha1)

theorem kept_plTrain {s0 : State} (a0 : State) (a1 : Nat) (ha0 : Kept s0 a0) : Kept s0 (State.plTrain a0 a1) := by
  delta State.plTrain
  exact Kept.ite (kept_modPl _ _ _ (kept_wb _ _ _ _ _ (kept_wf _ _ _ _ _ ha0))) ha0

theorem kept_linkLoss {s0 : State} (a0 : State) (a1 : Nat) (ha0 : Kept s0 a0) : Kept s0 (State.linkLoss a0 a1) := by
  delta State.linkLoss
  extract_lets +onlyGivenNames -merge -useContext x0
  have h0 : Kept s0 x0 := by unfold x0; exact kept_wb _ _ _ _ _ (kept_inhibits _ _ _ _ (kept_shutHalf _ _ ha0))
  clear_value x0
  extract_lets +onlyGivenNames -merge -useContext x1
  have h1 : Kept s0 x1 := by unfold x1; exact kept_modPl _ _ _ h0
  clear_value x1
  exact kept_report _ _ _ _ (kept_startPark _ _ h1)

theorem kept_plEnable {s0 : State} (a0 : State) (a1 : Nat) (a2 : Bool) (ha0 : Kept s0 a0) : Kept s0 (State.plEnable a0 a1 a2) := by
  delta State.plEnable
  extract_lets +onlyGivenNames -merge -useContext x0
  try clear_value x0
  extract_lets +onlyGivenNames -merge -useContext x1
  have h1 : Kept s0 x1 := by unfold x1; exact kept_wb _ _ _ _ _ ha0
  clear_value x1
  exact Kept.ite (Kept.ite h1 (kept_plTrain _ _ h1)) (kept_modPl _ _ _ (kept_wb _ _ _ _ _ (kept_wf _ _ _ _ _ h1)))

theorem kept_execPlEnable {s0 : State} (a0 : Act) (a1 : Bool) (a2 : State) (ha2 : Kept s0 a2) : KeptR s0 (execPlEnable a0 a1 a2) := by
  delta execPlEnable
  exact KeptR.next (kept_plEnable _ _ _ ha2)

theorem kept_execPlRetrain {s0 : State} (a0 : Act) (a1 : State) (ha1 : Kept s0 a1) : KeptR s0 (execPlRetrain a0 a1) := by
  delta execPlRetrain
  exact KeptR.next (kept_plTrain _ _ ha1)

theorem kept_plTrained {s0 : State} (a0 : State) (a1 : Nat) (ha0 : Kept s0 a0) : Kept s0 (State.plTrained a0 a1) := by
  delta State.plTrained
  refine Kept.ite ?_ ?_
  · exact ha0
  · split
    · exact kept_modPl _ _ _ (kept_emit _ _ ha0)
    · extract_lets +onlyGivenNames -merge -useContext x0
      try clear_value x0
      exact kept_modPl _ _ _ (kept_emit _ _ (kept_wf _ _ _ _ _ ha0))
    · extract_lets +onlyGivenNames -merge -useContext x1
      have h1 : Kept s0 x1 := by unfold x1; exact kept_modPl _ _ _ (kept_wf _ _ _ _ _ ha0)
      clear_value x1
      exact Kept.upd h1 rfl rfl rfl rfl rfl rfl rfl
    · exact ha0

theorem kept_execLinkTrainingStepDone {s0 : State} (a0 : Act) (a1 : State) (ha1 : Kept s0 a1) : KeptR s0 (execLinkTrainingStepDone a0 a1) := by
  delta execLinkTrainingStepDone
  exact KeptR.next (kept_plTrained _ _ ha1)

theorem kept_execLinkTrainingTimeout {s0 : State} (a0 : Act) (a1 : State) (ha1 : Kept s0 a1) : KeptR s0 (execLinkTrainingTimeout a0 a1) := by
  delta execLinkTrainingTimeout
  exact KeptR.ite (KeptR.next ha1) (KeptR.ite (KeptR.next (kept_modPl _ _ _ ha1)) (KeptR.next (kept_linkLoss _ _ (kept_wf _ _ _ _ _ ha1))))

theorem kept_execLinkRetrainTimer {s0 : State} (a0 : Act) (a1 : State) (ha1 : Kept s0 a1) : KeptR s0 (execLinkRetrainTimer a0 a1) := by
  delta execLinkRetrainTimer
  exact KeptR.next (Kept.ite (kept_plTrain _ _ ha1) ha1)

theorem kept_plResponse {s0 : State} (a0 : State) (a1 : Nat) (a2 : List Byte) (a3 : Bool) (ha0 : Kept s0 a0) : Kept s0 (State.plResponse a0 a1 a2 a3) := by
  delta State.plResponse
  split
  · exact kept_cnt _ _ _ _ _ ha0
  · split
    · exact ha0
    · refine Kept.ite ?_ ?_
      · extract_lets +onlyGivenNames -merge -useContext x0
        have h0 : Kept s0 x0 := by unfold x0; exact kept_modPl _ _ _ (kept_wb _ _ _ _ _ ha0)
        clear_value x0
        extract_lets +onlyGivenNames -merge -useContext x1
        have h1 : Kept s0 x1 := by unfold x1; exact kept_emit _ _ h0
        clear_value x1
        exact Kept.ite (kept_plDone _ _ _ _ (Kept.upd h1 rfl rfl rfl rfl rfl rfl rfl)) (kept_plFailed _ _ _ _ _ h1)
      · exact ha0

theorem kept_execPa12Response {s0 : State} (a0 : Act) (a1 : List Byte) (a2 : Bool) (a3 : State) (ha3 : Kept s0 a3) : KeptR s0 (execPa12Response a0 a1 a2 a3) := by
  delta execPa12Response
  exact KeptR.next (kept_plResponse _ _ _ _ ha3)

theorem kept_execPa12RetryTimeout {s0 : State} (a0 : Act) (a1 : State) (ha1 : Kept s0 a1) : KeptR s0 (execPa12RetryTimeout a0 a1) := by
  delta execPa12RetryTimeout
  split
  · exact KeptR.next ha1
  · exact KeptR.ite (KeptR.next (kept_report _ _ _ _ (kept_modPl _ _ _ (kept_emit _ _ ha1)))) (KeptR.next (kept_linkLoss _ _ (kept_wf _ _ _ _ _ ha1)))

theorem kept_execDnCrc {s0 : State} (a0 : Act) (a1 : State) (ha1 : Kept s0 a1) : KeptR s0 (execDnCrc a0 a1) := by
  delta execDnCrc
  extract_lets +onlyGivenNames -merge -useContext x0
  have h0 : Kept s0 x0 := by unfold x0; exact kept_report _ _ _ _ (kept_modPl _ _ _ (kept_cnt _ _ _ _ _ ha1))
  clear_value x0
  extract_lets +onlyGivenNames -merge -useContext x1
  have h1 : Kept s0 x1 := by unfold x1; exact Kept.ite (kept_modSv _ _ _ h0) h0
  clear_value x1
  exact KeptR.next (Kept.ite (kept_report _ _ _ _ (kept_inhibits _ _ _ _ (kept_wf _ _ _ _ _ (kept_modSv _ _ _ h1)))) h1)

theorem kept_shutWrite {s0 : State} (a0 : State) (a1 : Nat) (a2 : Nat) (ha0 : Kept s0 a0) : Kept s0 (State.shutWrite a0 a1 a2) := by
  delta State.shutWrite
  split
  · exact kept_inhibit _ _ _ _ ha0
  · exact ha0

theorem kept_writerFault {s0 : State} (a0 : State) (a1 : Nat) (a2 : Nat) (a3 : Nat) (ha0 : Kept s0 a0) : Kept s0 (State.writerFault a0 a1 a2 a3) := by
  delta State.writerFault
  exact kept_report _ _ _ _ (kept_modHd _ _ _ (kept_shutWrite _ _ _ ha0))

theorem kept_execWriterOpen {s0 : State} (a0 : Act) (a1 : Fin 11) (a2 : State) (ha2 : Kept s0 a2) : KeptR s0 (execWriterOpen a0 a1 a2) := by
  delta execWriterOpen
  exact KeptR.next (kept_writerFault _ _ _ _ ha2)

theorem kept_execWriterShort {s0 : State} (a0 : Act) (a1 : Fin 11) (a2 : State) (ha2 : Kept s0 a2) : KeptR s0 (execWriterShort a0 a1 a2) := by
  delta execWriterShort
  exact KeptR.next (kept_writerFault _ _ _ _ ha2)

theorem kept_execHeaterFault {s0 : State} (a0 : Act) (a1 : Fin 11) (a2 : State) (ha2 : Kept s0 a2) : KeptR s0 (execHeaterFault a0 a1 a2) := by
  delta execHeaterFault
  exact KeptR.next (kept_report _ _ _ _ (kept_modHd _ _ _ ha2))

theorem kept_execOvertemp {s0 : State} (a0 : Act) (a1 : Int) (a2 : State) (ha2 : Kept s0 a2) : KeptR s0 (execOvertemp a0 a1 a2) := by
  delta execOvertemp
  exact KeptR.ite (KeptR.ite (KeptR.next ha2) (KeptR.next (kept_report _ _ _ _ (kept_inhibits _ _ _ _ (kept_modPl _ _ _ ha2))))) (KeptR.ite (KeptR.next (kept_inhibits _ _ _ _ (kept_modPl _ _ _ ha2))) (KeptR.next ha2))

end Sys2Proof.Machine
end

