-- ==== Sys2Proof/Laws/KeptSequencer.lean ====
section
/-! SUPPORT. Laws/KeptSequencer.lean: the operations of Machine/Sequencer.lean answer states that have been kept (Safety.lean). -/

namespace Sys2Proof.Machine
open Sys2Proof

theorem kept_sqDrop {s0 : State} (a0 : State) (a1 : Nat) (ha0 : Kept s0 a0) : Kept s0 (State.sqDrop a0 a1) := by
  delta State.sqDrop
  extract_lets +onlyGivenNames -merge -useContext x0
  have h0 : Kept s0 x0 := by unfold x0; exact kept_shutGates _ _ ha0
  clear_value x0
  extract_lets +onlyGivenNames -merge -useContext x1
  try clear_value x1
  exact kept_releaseTarget _ _ _ h0

theorem kept_sqEntry {s0 : State} (a0 : State) (a1 : Nat) (ha0 : Kept s0 a0) : Kept s0 (State.sqEntry a0 a1) := by
  delta State.sqEntry
  exact kept_wf _ _ _ _ _ (kept_wf _ _ _ _ _ (kept_modCh _ _ _ ha0))

theorem kept_sqHalt {s0 : State} (a0 : State) (a1 : Nat) (a2 : Nat) (ha0 : Kept s0 a0) : Kept s0 (State.sqHalt a0 a1 a2) := by
  delta State.sqHalt
  extract_lets +onlyGivenNames -merge -useContext x0
  have h0 : Kept s0 x0 := by unfold x0; exact kept_sqDrop _ _ ha0
  clear_value x0
  extract_lets +onlyGivenNames -merge -useContext x1
  try clear_value x1
  extract_lets +onlyGivenNames -merge -useContext x2
  have h2 : Kept s0 x2 := by
    unfold x2
    refine Kept.foldl ?_ ?_
    · exact kept_modCh _ _ _ h0
    · intro y3 y4 hy3
      exact kept_requeue _ _ hy3
  clear_value x2
  exact kept_chReport _ _ _ _ _ (kept_wf _ _ _ _ _ (kept_wb _ _ _ _ _ h2))

theorem kept_sqCall {s0 : State} (a0 : State) (a1 : Nat) (a2 : Nat) (a3 : Nat) (ha0 : Kept s0 a0) : Kept s0 (State.sqCall a0 a1 a2 a3) := by
  delta State.sqCall
  exact Kept.ite (kept_sqHalt _ _ _ ha0) (kept_wf _ _ _ _ _ (kept_wf _ _ _ _ _ (kept_modCh _ _ _ ha0)))

theorem kept_sqRet {s0 : State} (a0 : State) (a1 : Nat) (ha0 : Kept s0 a0) : Kept s0 (State.sqRet a0 a1) := by
  delta State.sqRet
  split
  · exact kept_sqHalt _ _ _ ha0
  · exact kept_wf _ _ _ _ _ (kept_wf _ _ _ _ _ (kept_modCh _ _ _ ha0))

theorem kept_setFoc {s0 : State} (a0 : State) (a1 : Nat) (ha0 : Kept s0 a0) : Kept s0 (State.setFoc a0 a1) := by
  delta State.setFoc
  split
  · exact kept_modCh _ _ _ ha0
  · exact ha0

theorem kept_sqPop {s0 : State} (a0 : State) (a1 : Nat) (ha0 : Kept s0 a0) : Kept s0 (State.sqPop a0 a1) := by
  delta State.sqPop
  split
  · exact kept_modCh _ _ _ ha0
  · exact kept_setFoc _ _ (kept_modCh _ _ _ ha0)

theorem kept_sqDone {s0 : State} (a0 : State) (a1 : Nat) (ha0 : Kept s0 a0) : Kept s0 (State.sqDone a0 a1) := by
  delta State.sqDone
  split
  · exact kept_releaseTarget _ _ _ ha0
  · exact ha0

theorem kept_sqAdvance {s0 : State} (a0 : State) (a1 : Nat) (ha0 : Kept s0 a0) : Kept s0 (State.sqAdvance a0 a1) := by
  delta State.sqAdvance
  refine Kept.ite ?_ ?_
  · extract_lets +onlyGivenNames -merge -useContext x0
    have h0 : Kept s0 x0 := by unfold x0; exact kept_sqDone _ _ ha0
    clear_value x0
    split
    · exact kept_modCh _ _ _ h0
    · exact h0
  · exact kept_sqDone _ _ ha0

theorem kept_sqRequeue {s0 : State} (a0 : State) (a1 : Nat) (ha0 : Kept s0 a0) : Kept s0 (State.sqRequeue a0 a1) := by
  delta State.sqRequeue
  split
  · exact kept_releaseTarget _ _ _ ha0
  · exact ha0

theorem kept_sqMap {s0 : State} (a0 : State) (a1 : Nat) (ha0 : Kept s0 a0) : Kept s0 (State.sqMap a0 a1) := by
  delta State.sqMap
  split
  · extract_lets +onlyGivenNames -merge -useContext x0
    have h0 : Kept s0 x0 := by unfold x0; exact Kept.ite ha0 (kept_slotMap _ _ _ _ ha0)
    clear_value x0
    exact kept_slotMode _ _ _ _ h0
  · exact ha0

theorem kept_sqCmd {s0 : State} (a0 : State) (a1 : Nat) (a2 : Nat) (ha0 : Kept s0 a0) : Kept s0 (State.sqCmd a0 a1 a2) := by
  delta State.sqCmd
  split
  · exact kept_sqPop _ _ ha0
  · exact kept_sqAdvance _ _ ha0
  · exact kept_sqDone _ _ ha0
  · exact kept_sqRequeue _ _ ha0
  · exact kept_sqMap _ _ ha0
  · exact kept_setFoc _ _ ha0
  · exact ha0

theorem kept_execPop {s0 : State} (a0 : Chan) (a1 : State) (ha1 : Kept s0 a1) : KeptR s0 (execPop a0 a1) := by
  delta execPop
  exact KeptR.next (kept_sqPop _ _ ha1)

theorem kept_execAdvance {s0 : State} (a0 : Chan) (a1 : State) (ha1 : Kept s0 a1) : KeptR s0 (execAdvance a0 a1) := by
  delta execAdvance
  exact KeptR.next (kept_sqAdvance _ _ ha1)

theorem kept_execDone {s0 : State} (a0 : Chan) (a1 : State) (ha1 : Kept s0 a1) : KeptR s0 (execDone a0 a1) := by
  delta execDone
  exact KeptR.next (kept_sqDone _ _ ha1)

theorem kept_execRequeue {s0 : State} (a0 : Chan) (a1 : State) (ha1 : Kept s0 a1) : KeptR s0 (execRequeue a0 a1) := by
  delta execRequeue
  exact KeptR.next (kept_sqRequeue _ _ ha1)

theorem kept_execMap {s0 : State} (a0 : Chan) (a1 : State) (ha1 : Kept s0 a1) : KeptR s0 (execMap a0 a1) := by
  delta execMap
  exact KeptR.next (kept_sqMap _ _ ha1)

theorem kept_execRetarget {s0 : State} (a0 : Chan) (a1 : State) (ha1 : Kept s0 a1) : KeptR s0 (execRetarget a0 a1) := by
  delta execRetarget
  exact KeptR.next (kept_setFoc _ _ ha1)

theorem kept_execCall {s0 : State} (a0 : Chan) (a1 : BitVec 12) (a2 : BitVec 12) (a3 : State) (ha3 : Kept s0 a3) : KeptR s0 (execCall a0 a1 a2 a3) := by
  delta execCall
  exact KeptR.next (kept_sqCall _ _ _ _ ha3)

theorem kept_execRet {s0 : State} (a0 : Chan) (a1 : State) (ha1 : Kept s0 a1) : KeptR s0 (execRet a0 a1) := by
  delta execRet
  exact KeptR.next (kept_sqRet _ _ ha1)

theorem kept_sqGates {s0 : State} (a0 : State) (a1 : Nat) (a2 : Nat) (a3 : Bool) (a4 : Int) (ha0 : Kept s0 a0) : Kept s0 (State.sqGates a0 a1 a2 a3 a4) := by
  delta State.sqGates
  extract_lets +onlyGivenNames -merge -useContext x0
  have h0 : Kept s0 x0 := by
    unfold x0
    split
    · exact Kept.ite (kept_modCh _ _ _ ha0) ha0
    · exact kept_modCh _ _ _ ha0
    · exact ha0
  clear_value x0
  split
  · extract_lets +onlyGivenNames -merge -useContext x1
    try clear_value x1
    exact Kept.ite (kept_modCh _ _ _ h0) h0
  · exact kept_modCh _ _ _ h0
  · exact h0

theorem kept_underrunCheck {s0 : State} (a0 : State) (a1 : Nat) (ha0 : Kept s0 a0) : Kept s0 (State.underrunCheck a0 a1) := by
  delta State.underrunCheck
  split
  · exact Kept.ite (kept_chReport _ _ _ _ _ (kept_cnt _ _ _ _ _ (kept_modCh _ _ _ ha0))) ha0
  · exact ha0

theorem kept_atOffset {s0 : State} (a0 : State) (a1 : Nat) (a2 : Int) (ha0 : Kept s0 a0) : Kept s0 (State.atOffset a0 a1 a2) := by
  delta State.atOffset
  extract_lets +onlyGivenNames -merge -useContext x0
  try clear_value x0
  extract_lets +onlyGivenNames -merge -useContext x1
  try clear_value x1
  exact Kept.ite (kept_underrunCheck _ _ ha0) (Kept.ite (Kept.ite (kept_modCh _ _ _ ha0) (kept_modCh _ _ _ ha0)) (Kept.ite (Kept.ite (kept_modCh _ _ _ ha0) (Kept.ite (kept_modCh _ _ _ ha0) ha0)) (Kept.ite (Kept.ite (kept_modCh _ _ _ ha0) (Kept.ite (kept_modCh _ _ _ ha0) ha0)) ha0)))

theorem kept_passBit {s0 : State} (a0 : State) (a1 : Nat) (ha0 : Kept s0 a0) : Kept s0 (State.passBit a0 a1) := by
  delta State.passBit
  extract_lets +onlyGivenNames -merge -useContext x0
  try clear_value x0
  extract_lets +onlyGivenNames -merge -useContext x1
  try clear_value x1
  refine Kept.ite ?_ ?_
  · exact ha0
  · extract_lets +onlyGivenNames -merge -useContext x2
    try clear_value x2
    extract_lets +onlyGivenNames -merge -useContext x3
    try clear_value x3
    extract_lets +onlyGivenNames -merge -useContext x4
    have h4 : Kept s0 x4 := by unfold x4; exact kept_modCh _ _ _ ha0
    clear_value x4
    exact Kept.ite (kept_atOffset _ _ _ (kept_modCh _ _ _ h4)) h4

theorem kept_pass8 {s0 : State} (a0 : State) (a1 : Nat) (ha0 : Kept s0 a0) : Kept s0 (State.pass8 a0 a1) := by
  delta State.pass8
  refine Kept.foldl ?_ ?_
  · exact ha0
  · intro y0 y1 hy0
    exact kept_passBit _ _ hy0

theorem kept_swapTake {s0 : State} (a0 : State) (a1 : Nat) (ha0 : Kept s0 a0) : Kept s0 (State.swapTake a0 a1) := by
  delta State.swapTake
  refine Kept.ite ?_ ?_
  · extract_lets +onlyGivenNames -merge -useContext x0
    have h0 : Kept s0 x0 := by unfold x0; exact kept_wb _ _ _ _ _ (kept_wb _ _ _ _ _ (kept_wb _ _ _ _ _ ha0))
    clear_value x0
    extract_lets +onlyGivenNames -merge -useContext x1
    have h1 : Kept s0 x1 := by unfold x1; exact kept_wf _ _ _ _ _ (kept_wf _ _ _ _ _ h0)
    clear_value x1
    exact kept_sqEntry _ _ h1
  · exact ha0

theorem kept_execSwapTake {s0 : State} (a0 : Chan) (a1 : State) (ha1 : Kept s0 a1) : KeptR s0 (execSwapTake a0 a1) := by
  delta execSwapTake
  exact KeptR.next (kept_swapTake _ _ ha1)

theorem kept_sqBranch {s0 : State} (a0 : State) (a1 : Nat) (a2 : Nat) (a3 : Bool) (a4 : Bool) (ha0 : Kept s0 a0) : Kept s0 (State.sqBranch a0 a1 a2 a3 a4) := by
  delta State.sqBranch
  split
  · exact kept_wf _ _ _ _ _ ha0
  · exact kept_wf _ _ _ _ _ ha0
  · exact kept_wf _ _ _ _ _ ha0
  · exact Kept.ite (kept_wf _ _ _ _ _ ha0) ha0
  · exact kept_sqCall _ _ _ _ ha0
  · exact kept_sqRet _ _ ha0
  · exact ha0

theorem kept_sqTrace {s0 : State} (a0 : State) (a1 : Nat) (a2 : Nat) (ha0 : Kept s0 a0) : Kept s0 (State.sqTrace a0 a1 a2) := by
  delta State.sqTrace
  exact Kept.ite (kept_emit _ _ ha0) ha0

theorem kept_microword {s0 : State} (a0 : State) (a1 : Nat) (ha0 : Kept s0 a0) : Kept s0 (State.microword a0 a1) := by
  delta State.microword
  refine Kept.ite ?_ ?_
  · exact ha0
  · extract_lets +onlyGivenNames -merge -useContext x0
    have h0 : Kept s0 x0 := by unfold x0; exact kept_swapTake _ _ ha0
    clear_value x0
    extract_lets +onlyGivenNames -merge -useContext x1
    try clear_value x1
    extract_lets +onlyGivenNames -merge -useContext x2
    try clear_value x2
    extract_lets +onlyGivenNames -merge -useContext x3
    try clear_value x3
    extract_lets +onlyGivenNames -merge -useContext x4
    try clear_value x4
    extract_lets +onlyGivenNames -merge -useContext x5
    try clear_value x5
    extract_lets +onlyGivenNames -merge -useContext x6
    try clear_value x6
    extract_lets +onlyGivenNames -merge -useContext x7
    try clear_value x7
    extract_lets +onlyGivenNames -merge -useContext x8
    have h8 : Kept s0 x8 := by unfold x8; exact Kept.ite (kept_chReport _ _ _ _ _ (kept_cnt _ _ _ _ _ h0)) h0
    clear_value x8
    refine Kept.ite ?_ ?_
    · exact kept_modCh _ _ _ (kept_pass8 _ _ h8)
    · extract_lets +onlyGivenNames -merge -useContext x9
      have h9 : Kept s0 x9 := by unfold x9; exact kept_sqTrace _ _ _ h8
      clear_value x9
      extract_lets +onlyGivenNames -merge -useContext x10
      have h10 : Kept s0 x10 := by unfold x10; exact kept_sqGates _ _ _ _ _ h9
      clear_value x10
      extract_lets +onlyGivenNames -merge -useContext x11
      have h11 : Kept s0 x11 := by unfold x11; exact kept_pass8 _ _ h10
      clear_value x11
      extract_lets +onlyGivenNames -merge -useContext x12
      have h12 : Kept s0 x12 := by unfold x12; exact kept_sqCmd _ _ _ h11
      clear_value x12
      extract_lets +onlyGivenNames -merge -useContext x13
      try clear_value x13
      extract_lets +onlyGivenNames -merge -useContext x14
      have h14 : Kept s0 x14 := by unfold x14; exact kept_sqBranch _ _ _ _ _ h12
      clear_value x14
      extract_lets +onlyGivenNames -merge -useContext x15
      have h15 : Kept s0 x15 := by unfold x15; exact kept_wf _ _ _ _ _ h14
      clear_value x15
      exact kept_modCh _ _ _ h15

theorem kept_execMicroword {s0 : State} (a0 : Chan) (a1 : State) (ha1 : Kept s0 a1) : KeptR s0 (execMicroword a0 a1) := by
  delta execMicroword
  exact KeptR.next (kept_microword _ _ ha1)

theorem kept_seqEvent {s0 : State} (a0 : State) (a1 : Nat) (a2 : Nat) (a3 : Option Nat) (ha0 : Kept s0 a0) : Kept s0 (State.seqEvent a0 a1 a2 a3) := by
  delta State.seqEvent
  extract_lets +onlyGivenNames -merge -useContext x0
  have h0 : Kept s0 x0 := by
    unfold x0
    split
    · exact Kept.ite (kept_modCh _ _ _ ha0) ha0
    · exact ha0
  clear_value x0
  exact kept_sqEvent _ _ _ h0

theorem kept_execSequencerEvent {s0 : State} (a0 : Chan) (a1 : Fin 5) (a2 : Option Nat) (a3 : State) (ha3 : Kept s0 a3) : KeptR s0 (execSequencerEvent a0 a1 a2 a3) := by
  delta execSequencerEvent
  exact KeptR.next (kept_seqEvent _ _ _ _ ha3)

theorem kept_execSequencerEccError {s0 : State} (a0 : Chan) (a1 : Bool) (a2 : State) (ha2 : Kept s0 a2) : KeptR s0 (execSequencerEccError a0 a1 a2) := by
  delta execSequencerEccError
  exact KeptR.next (Kept.ite (kept_sqHalt _ _ _ ha2) (kept_chReport _ _ _ _ _ (kept_cnt _ _ _ _ _ ha2)))

theorem kept_execTgtWdogExpiry {s0 : State} (a0 : Chan) (a1 : State) (ha1 : Kept s0 a1) : KeptR s0 (execTgtWdogExpiry a0 a1) := by
  delta execTgtWdogExpiry
  exact KeptR.next (Kept.ite ha1 (kept_chReport _ _ _ _ _ (kept_cnt _ _ _ _ _ (kept_sqEntry _ _ (kept_sqDrop _ _ ha1)))))

theorem kept_stageReason {s0 : State} (a0 : State) (a1 : List Nat) (a2 : Nat) (ha0 : Kept s0 a0) : Kept s0 (State.stageReason a0 a1 a2) := by
  delta State.stageReason
  extract_lets +onlyGivenNames -merge -useContext x0
  have h0 : Kept s0 x0 := by
    unfold x0
    refine Kept.foldl ?_ ?_
    · exact ha0
    · intro y1 y2 hy1
      exact kept_wf _ _ _ _ _ hy1
  clear_value x0
  exact Kept.upd h0 rfl rfl rfl rfl rfl rfl rfl

theorem kept_stageLoad {s0 : State} (a0 : State) (a1 : Bool) (ha0 : Kept s0 a0) : Kept s0 (State.stageLoad a0 a1) := by
  delta State.stageLoad
  extract_lets +onlyGivenNames -merge -useContext x0
  try clear_value x0
  extract_lets +onlyGivenNames -merge -useContext x1
  try clear_value x1
  extract_lets +onlyGivenNames -merge -useContext x2
  try clear_value x2
  extract_lets +onlyGivenNames -merge -useContext x3
  try clear_value x3
  refine Kept.ite ?_ ?_
  · exact kept_stageReason _ _ _ ha0
  · with_reducible apply kept_stageReason
    · refine Kept.foldl ?_ ?_
      · exact ha0
      · intro y4 y5 hy4
        extract_lets +onlyGivenNames -merge -useContext x6
        have h6 : Kept s0 x6 := by unfold x6; exact Kept.ite (kept_modCh _ _ _ hy4) (kept_modCh _ _ _ hy4)
        clear_value x6
        exact kept_wf _ _ _ _ _ (kept_wb _ _ _ _ _ h6)

theorem kept_execStageLoad {s0 : State} (a0 : Bool) (a1 : State) (ha1 : Kept s0 a1) : KeptR s0 (execStageLoad a0 a1) := by
  delta execStageLoad
  exact KeptR.next (kept_stageLoad _ _ ha1)

theorem kept_swapReq {s0 : State} (a0 : State) (a1 : Nat) (ha0 : Kept s0 a0) : Kept s0 (State.swapReq a0 a1) := by
  delta State.swapReq
  exact Kept.ite (kept_wb _ _ _ _ _ (kept_wf _ _ _ _ _ ha0)) (Kept.ite ha0 (kept_modCh _ _ _ (kept_wb _ _ _ _ _ ha0)))

theorem kept_stageSwap {s0 : State} (a0 : State) (ha0 : Kept s0 a0) : Kept s0 (State.stageSwap a0) := by
  delta State.stageSwap
  extract_lets +onlyGivenNames -merge -useContext x0
  try clear_value x0
  extract_lets +onlyGivenNames -merge -useContext x1
  try clear_value x1
  extract_lets +onlyGivenNames -merge -useContext x2
  have h2 : Kept s0 x2 := by
    unfold x2
    refine Kept.foldl ?_ ?_
    · exact ha0
    · intro y3 y4 hy3
      exact kept_swapReq _ _ (kept_wf _ _ _ _ _ hy3)
  clear_value x2
  exact Kept.upd h2 rfl rfl rfl rfl rfl rfl rfl

theorem kept_execStageSwap {s0 : State} (a0 : State) (ha0 : Kept s0 a0) : KeptR s0 (execStageSwap a0) := by
  delta execStageSwap
  exact KeptR.next (kept_stageSwap _ ha0)

theorem kept_execStageLoadSwap {s0 : State} (a0 : Bool) (a1 : State) (ha1 : Kept s0 a1) : KeptR s0 (execStageLoadSwap a0 a1) := by
  delta execStageLoadSwap
  extract_lets +onlyGivenNames -merge -useContext x0
  have h0 : Kept s0 x0 := by unfold x0; exact kept_stageLoad _ _ ha1
  clear_value x0
  exact KeptR.next (Kept.ite (kept_stageSwap _ h0) h0)

theorem kept_execSwapLimitExpiry {s0 : State} (a0 : Chan) (a1 : State) (ha1 : Kept s0 a1) : KeptR s0 (execSwapLimitExpiry a0 a1) := by
  delta execSwapLimitExpiry
  refine KeptR.next ?_
  refine Kept.ite ?_ ?_
  · extract_lets +onlyGivenNames -merge -useContext x0
    have h0 : Kept s0 x0 := by unfold x0; exact kept_wf _ _ _ _ _ (kept_wb _ _ _ _ _ (kept_wb _ _ _ _ _ ha1))
    clear_value x0
    exact Kept.upd h0 rfl rfl rfl rfl rfl rfl rfl
  · exact ha1

theorem kept_sqRun {s0 : State} (a0 : State) (a1 : Nat) (a2 : Bool) (ha0 : Kept s0 a0) : Kept s0 (State.sqRun a0 a1 a2) := by
  delta State.sqRun
  extract_lets +onlyGivenNames -merge -useContext x0
  try clear_value x0
  exact Kept.ite (Kept.ite ha0 (kept_sqEntry _ _ (kept_wb _ _ _ _ _ ha0))) (Kept.ite (kept_wb _ _ _ _ _ (kept_sqDrop _ _ (kept_swapTake _ _ ha0))) ha0)

theorem kept_execSqRun {s0 : State} (a0 : Chan) (a1 : Bool) (a2 : State) (ha2 : Kept s0 a2) : KeptR s0 (execSqRun a0 a1 a2) := by
  delta execSqRun
  exact KeptR.next (kept_sqRun _ _ _ ha2)

theorem kept_sqSwap {s0 : State} (a0 : State) (a1 : Nat) (ha0 : Kept s0 a0) : Kept s0 (State.sqSwap a0 a1) := by
  delta State.sqSwap
  exact Kept.ite ha0 (kept_swapReq _ _ (kept_wf _ _ _ _ _ (kept_wb _ _ _ _ _ ha0)))

theorem kept_execSqSwap {s0 : State} (a0 : Chan) (a1 : State) (ha1 : Kept s0 a1) : KeptR s0 (execSqSwap a0 a1) := by
  delta execSqSwap
  exact KeptR.next (kept_sqSwap _ _ ha1)

theorem kept_sqRestart {s0 : State} (a0 : State) (a1 : Nat) (ha0 : Kept s0 a0) : Kept s0 (State.sqRestart a0 a1) := by
  delta State.sqRestart
  exact kept_wf _ _ _ _ _ (kept_wb _ _ _ _ _ (kept_sqEntry _ _ (kept_sqDrop _ _ ha0)))

theorem kept_execSqRestart {s0 : State} (a0 : Chan) (a1 : State) (ha1 : Kept s0 a1) : KeptR s0 (execSqRestart a0 a1) := by
  delta execSqRestart
  exact KeptR.next (kept_sqRestart _ _ ha1)

theorem kept_bootLoad {s0 : State} (a0 : State) (a1 : Bool) (ha0 : Kept s0 a0) : Kept s0 (State.bootLoad a0 a1) := by
  delta State.bootLoad
  extract_lets +onlyGivenNames -merge -useContext x0
  try clear_value x0
  extract_lets +onlyGivenNames -merge -useContext x1
  try clear_value x1
  refine Kept.ite ?_ ?_
  · with_reducible apply kept_report
    · extract_lets +onlyGivenNames -merge -useContext x2
      have h2 : Kept s0 x2 := by
        unfold x2
        refine Kept.foldl ?_ ?_
        · exact ha0
        · intro y3 y4 hy3
          exact kept_wb _ _ _ _ _ hy3
      clear_value x2
      exact Kept.upd h2 rfl rfl rfl rfl rfl rfl rfl
  · extract_lets +onlyGivenNames -merge -useContext x5
    have h5 : Kept s0 x5 := by
      unfold x5
      refine Kept.foldl ?_ ?_
      · exact ha0
      · intro y6 y7 hy6
        exact kept_sqEntry _ _ (kept_wb _ _ _ _ _ (kept_wf _ _ _ _ _ (kept_wb _ _ _ _ _ (kept_modCh _ _ _ hy6))))
    clear_value x5
    exact Kept.upd h5 rfl rfl rfl rfl rfl rfl rfl

end Sys2Proof.Machine
end

