-- ==== Sys2Proof/Laws/KeptChannel.lean ====
section
/-! SUPPORT. Laws/KeptChannel.lean: the operations of Machine/Channel.lean answer states that have been kept (Safety.lean). -/

namespace Sys2Proof.Machine
open Sys2Proof

theorem kept_loadProfile {s0 : State} (a0 : State) (a1 : Nat) (a2 : Nat) (ha0 : Kept s0 a0) : Kept s0 (State.loadProfile a0 a1 a2) := by
  delta State.loadProfile
  refine Kept.foldl ?_ ?_
  · exact ha0
  · intro y0 y1 hy0
    exact kept_wf _ _ _ _ _ hy0

theorem kept_applyExcl {s0 : State} (a0 : State) (a1 : Nat) (ha0 : Kept s0 a0) : Kept s0 (State.applyExcl a0 a1) := by
  delta State.applyExcl
  extract_lets +onlyGivenNames -merge -useContext x0
  try clear_value x0
  extract_lets +onlyGivenNames -merge -useContext x1
  try clear_value x1
  refine Kept.ite ?_ ?_
  · exact ha0
  · extract_lets +onlyGivenNames -merge -useContext x2
    have h2 : Kept s0 x2 := by unfold x2; exact kept_wf _ _ _ _ _ ha0
    clear_value x2
    extract_lets +onlyGivenNames -merge -useContext x3
    try clear_value x3
    split
    · exact h2
    · refine Kept.ite ?_ ?_
      · exact kept_chReport _ _ _ _ _ (kept_loadProfile _ _ _ h2)
      · refine Kept.ite ?_ ?_
        · exact kept_chReport _ _ _ _ _ (kept_loadProfile _ _ _ h2)
        · extract_lets +onlyGivenNames -merge -useContext x4
          try clear_value x4
          exact kept_chReport _ _ _ _ _ (kept_modHd _ _ _ h2)

theorem kept_applyStaged {s0 : State} (a0 : State) (a1 : Nat) (ha0 : Kept s0 a0) : Kept s0 (State.applyStaged a0 a1) := by
  delta State.applyStaged
  extract_lets +onlyGivenNames -merge -useContext x0
  try clear_value x0
  extract_lets +onlyGivenNames -merge -useContext x1
  have h1 : Kept s0 x1 := by
    unfold x1
    refine Kept.foldl ?_ ?_
    · exact ha0
    · intro y2 y3 hy2
      exact ⟨hy2.pending, hy2.part, hy2.minSvn, hy2.revoke0, hy2.mem, fun h => ⟨tabWf_tabSet _ _ _ (hy2.regs h).1, (hy2.regs h).2⟩⟩
  clear_value x1
  extract_lets +onlyGivenNames -merge -useContext x4
  have h4 : Kept s0 x4 := by
    unfold x4
    split
    · exact kept_wf _ _ _ _ _ (kept_wf _ _ _ _ _ (kept_wf _ _ _ _ _ h1))
    · exact h1
  clear_value x4
  exact kept_wb _ _ _ _ _ (kept_modCh _ _ _ h4)

theorem kept_applyRollback {s0 : State} (a0 : State) (a1 : Nat) (ha0 : Kept s0 a0) : Kept s0 (State.applyRollback a0 a1) := by
  delta State.applyRollback
  split
  · extract_lets +onlyGivenNames -merge -useContext x0
    try clear_value x0
    extract_lets +onlyGivenNames -merge -useContext x1
    try clear_value x1
    exact kept_modCh _ _ _ (kept_fePut _ _ _ _ ha0)
  · exact ha0

theorem kept_atMinus8 {s0 : State} (a0 : State) (a1 : Nat) (ha0 : Kept s0 a0) : Kept s0 (State.atMinus8 a0 a1) := by
  delta State.atMinus8
  exact kept_applyExcl _ _ (kept_applyStaged _ _ (kept_applyRollback _ _ ha0))

theorem kept_slotAllocate {s0 : State} (a0 : State) (a1 : Nat) (ha0 : Kept s0 a0) : Kept s0 (State.slotAllocate a0 a1) := by
  delta State.slotAllocate
  split
  · exact ha0
  · refine Kept.ite ?_ ?_
    · exact kept_atMinus8 _ _ ha0
    · extract_lets +onlyGivenNames -merge -useContext x0
      have h0 : Kept s0 x0 := by unfold x0; exact kept_atMinus8 _ _ ha0
      clear_value x0
      split
      · exact kept_chReport _ _ _ _ _ (kept_cnt _ _ _ _ _ h0)
      · exact Kept.ite (kept_modCh _ _ _ (kept_modSlot _ _ _ _ h0)) h0

theorem kept_execSlotAllocate {s0 : State} (a0 : Chan) (a1 : State) (ha1 : Kept s0 a1) : KeptR s0 (execSlotAllocate a0 a1) := by
  delta execSlotAllocate
  exact KeptR.next (kept_slotAllocate _ _ ha1)

theorem kept_fieldReadEnd {s0 : State} (a0 : State) (a1 : Nat) (a2 : List Nat) (a3 : Nat) (ha0 : Kept s0 a0) : Kept s0 (State.fieldReadEnd a0 a1 a2 a3) := by
  delta State.fieldReadEnd
  split
  · exact ha0
  · extract_lets +onlyGivenNames -merge -useContext x0
    have h0 : Kept s0 x0 := by unfold x0; exact kept_modCh _ _ _ ha0
    clear_value x0
    refine Kept.ite ?_ ?_
    · exact kept_freeRec _ _ _ h0
    · extract_lets +onlyGivenNames -merge -useContext x1
      try clear_value x1
      exact kept_modSlot _ _ _ _ h0

theorem kept_execFieldReadEnd {s0 : State} (a0 : Chan) (a1 : List (BitVec 6)) (a2 : BitVec 3) (a3 : State) (ha3 : Kept s0 a3) : KeptR s0 (execFieldReadEnd a0 a1 a2 a3) := by
  delta execFieldReadEnd
  exact KeptR.next (kept_fieldReadEnd _ _ _ _ ha3)

theorem kept_adapt {s0 : State} (a0 : State) (a1 : Nat) (a2 : Nat) (a3 : Adapt) (ha0 : Kept s0 a0) : Kept s0 (State.adapt a0 a1 a2 a3) := by
  delta State.adapt
  refine Kept.ite ?_ ?_
  · exact ha0
  · split
    · extract_lets +onlyGivenNames -merge -useContext x0
      try clear_value x0
      extract_lets +onlyGivenNames -merge -useContext x1
      try clear_value x1
      exact Kept.ite (kept_wf _ _ _ _ _ ha0) ha0
    · exact Kept.ite (kept_wf _ _ _ _ _ ha0) ha0
    · exact Kept.ite (kept_wf _ _ _ _ _ ha0) ha0
    · refine Kept.ite ?_ ?_
      · exact ha0
      · extract_lets +onlyGivenNames -merge -useContext x2
        try clear_value x2
        extract_lets +onlyGivenNames -merge -useContext x3
        have h3 : Kept s0 x3 := by unfold x3; exact kept_wf _ _ _ _ _ (kept_wf _ _ _ _ _ ha0)
        clear_value x3
        exact Kept.ite (kept_chReport _ _ _ _ _ (kept_wbit _ _ _ _ _ _ h3)) h3
    · exact Kept.ite ha0 (kept_wf _ _ _ _ _ ha0)

theorem kept_execAdaptUpdate {s0 : State} (a0 : Chan) (a1 : Fin 3) (a2 : Adapt) (a3 : State) (ha3 : Kept s0 a3) : KeptR s0 (execAdaptUpdate a0 a1 a2 a3) := by
  delta execAdaptUpdate
  exact KeptR.next (kept_adapt _ _ _ _ ha3)

theorem kept_execTaDetect {s0 : State} (a0 : Chan) (a1 : BitVec 3) (a2 : BitVec 32) (a3 : BitVec 32) (a4 : State) (ha4 : Kept s0 a4) : KeptR s0 (execTaDetect a0 a1 a2 a3 a4) := by
  delta execTaDetect
  refine KeptR.ite ?_ ?_
  · exact KeptR.next ha4
  · extract_lets +onlyGivenNames -merge -useContext x0
    have h0 : Kept s0 x0 := by unfold x0; exact kept_cnt _ _ _ _ _ ha4
    clear_value x0
    split
    · exact KeptR.next h0
    · exact KeptR.next (kept_modSlot _ _ _ _ h0)

theorem kept_feWriteField {s0 : State} (a0 : State) (a1 : Nat) (a2 : Fld × Nat) (a3 : Nat) (ha0 : Kept s0 a0) : Kept s0 (State.feWriteField a0 a1 a2 a3) := by
  delta State.feWriteField
  refine Kept.ite ?_ ?_
  · exact ha0
  · extract_lets +onlyGivenNames -merge -useContext x0
    have h0 : Kept s0 x0 := by unfold x0; exact Kept.ite (kept_wbit _ _ _ _ _ _ ha0) ha0
    clear_value x0
    refine Kept.ite ?_ ?_
    · extract_lets +onlyGivenNames -merge -useContext x1
      try clear_value x1
      exact kept_wb _ _ _ _ _ (kept_modCh _ _ _ h0)
    · exact kept_wf _ _ _ _ _ h0

theorem kept_feRegWrite {s0 : State} (a0 : State) (a1 : Nat) (a2 : Nat) (a3 : Nat) (ha0 : Kept s0 a0) : Kept s0 (State.feRegWrite a0 a1 a2 a3) := by
  delta State.feRegWrite
  refine Kept.foldl ?_ ?_
  · exact ha0
  · intro y0 y1 hy0
    exact kept_feWriteField _ _ _ _ hy0

theorem kept_execFeRegWrite {s0 : State} (a0 : Chan) (a1 : BitVec 11) (a2 : Word) (a3 : State) (ha3 : Kept s0 a3) : KeptR s0 (execFeRegWrite a0 a1 a2 a3) := by
  delta execFeRegWrite
  exact KeptR.next (kept_feRegWrite _ _ _ _ ha3)

theorem kept_reeqRequest {s0 : State} (a0 : State) (a1 : Nat) (a2 : Reeq) (ha0 : Kept s0 a0) : Kept s0 (State.reeqRequest a0 a1 a2) := by
  delta State.reeqRequest
  exact Kept.ite ha0 (Kept.ite (kept_modCh _ _ _ ha0) (kept_modCh _ _ _ ha0))

theorem kept_execReeqRequest {s0 : State} (a0 : Chan) (a1 : Fin 4) (a2 : Int) (a3 : BitVec 3) (a4 : State) (ha4 : Kept s0 a4) : KeptR s0 (execReeqRequest a0 a1 a2 a3 a4) := by
  delta execReeqRequest
  exact KeptR.next (kept_reeqRequest _ _ _ ha4)

theorem kept_execReaderFault {s0 : State} (a0 : Act) (a1 : Fin 11) (a2 : Fin 3) (a3 : State) (ha3 : Kept s0 a3) : KeptR s0 (execReaderFault a0 a1 a2 a3) := by
  delta execReaderFault
  exact KeptR.next (kept_modHd _ _ _ ha3)

theorem kept_setMt {s0 : State} (a0 : State) (a1 : Nat) (a2 : Nat) (a3 : Nat) (ha0 : Kept s0 a0) : Kept s0 (State.setMt a0 a1 a2 a3) := by
  delta State.setMt
  exact kept_setSrc _ _ _ _ _ (kept_setSrc _ _ _ _ _ ha0)

theorem kept_recalDrop {s0 : State} (a0 : State) (a1 : Recal) (ha0 : Kept s0 a0) : Kept s0 (State.recalDrop a0 a1) := by
  delta State.recalDrop
  exact Kept.upd ha0 rfl rfl rfl rfl rfl rfl rfl

theorem kept_recalNote {s0 : State} (a0 : State) (a1 : Nat) (a2 : Nat) (a3 : Bool) (ha0 : Kept s0 a0) : Kept s0 (State.recalNote a0 a1 a2 a3) := by
  delta State.recalNote
  split
  · exact ha0
  · refine Kept.ite ?_ ?_
    · extract_lets +onlyGivenNames -merge -useContext x0
      try clear_value x0
      exact Kept.ite (kept_setMt _ _ _ _ (kept_recalDrop _ _ ha0)) (Kept.upd ha0 rfl rfl rfl rfl rfl rfl rfl)
    · exact Kept.ite (kept_setMt _ _ _ _ (kept_recalDrop _ _ ha0)) (Kept.upd ha0 rfl rfl rfl rfl rfl rfl rfl)

theorem kept_calEnd {s0 : State} (a0 : State) (a1 : Nat) (a2 : Nat) (ha0 : Kept s0 a0) : Kept s0 (State.calEnd a0 a1 a2) := by
  delta State.calEnd
  extract_lets +onlyGivenNames -merge -useContext x0
  try clear_value x0
  extract_lets +onlyGivenNames -merge -useContext x1
  try clear_value x1
  extract_lets +onlyGivenNames -merge -useContext x2
  try clear_value x2
  extract_lets +onlyGivenNames -merge -useContext x3
  have h3 : Kept s0 x3 := by unfold x3; exact kept_fePut _ _ _ _ ha0
  clear_value x3
  extract_lets +onlyGivenNames -merge -useContext x4
  have h4 : Kept s0 x4 := by
    unfold x4
    refine Kept.foldl ?_ ?_
    · exact h3
    · intro y5 y6 hy5
      exact kept_plSend _ _ _ _ hy5
  clear_value x4
  extract_lets +onlyGivenNames -merge -useContext x7
  have h7 : Kept s0 x7 := by unfold x7; exact kept_modCh _ _ _ (kept_wf _ _ _ _ _ (kept_wf _ _ _ _ _ h4))
  clear_value x7
  exact kept_chReport _ _ _ _ _ (kept_recalNote _ _ _ _ h7)

theorem kept_calFail {s0 : State} (a0 : State) (a1 : Nat) (a2 : Nat) (ha0 : Kept s0 a0) : Kept s0 (State.calFail a0 a1 a2) := by
  delta State.calFail
  exact Kept.ite (kept_calEnd _ _ _ ha0) ha0

theorem kept_calStart {s0 : State} (a0 : State) (a1 : Nat) (ha0 : Kept s0 a0) : Kept s0 (State.calStart a0 a1) := by
  delta State.calStart
  extract_lets +onlyGivenNames -merge -useContext x0
  try clear_value x0
  extract_lets +onlyGivenNames -merge -useContext x1
  try clear_value x1
  refine Kept.ite ?_ ?_
  · exact ha0
  · extract_lets +onlyGivenNames -merge -useContext x2
    have h2 : Kept s0 x2 := by unfold x2; exact kept_modCh _ _ _ (kept_wf _ _ _ _ _ (kept_wf _ _ _ _ _ (kept_wf _ _ _ _ _ ha0)))
    clear_value x2
    exact Kept.ite (kept_calEnd _ _ _ h2) (Kept.ite (kept_calEnd _ _ _ h2) (Kept.ite (kept_calEnd _ _ _ h2) (kept_modCh _ _ _ (kept_wf _ _ _ _ _ h2))))

theorem kept_execCalStart {s0 : State} (a0 : Chan) (a1 : State) (ha1 : Kept s0 a1) : KeptR s0 (execCalStart a0 a1) := by
  delta execCalStart
  exact KeptR.next (kept_calStart _ _ ha1)

theorem kept_execCalAbort {s0 : State} (a0 : Chan) (a1 : State) (ha1 : Kept s0 a1) : KeptR s0 (execCalAbort a0 a1) := by
  delta execCalAbort
  exact KeptR.next (kept_calFail _ _ _ ha1)

theorem kept_weakReaders {s0 : State} (a0 : State) (a1 : Nat) (ha0 : Kept s0 a0) : Kept s0 (State.weakReaders a0 a1) := by
  delta State.weakReaders
  extract_lets +onlyGivenNames -merge -useContext x0
  try clear_value x0
  extract_lets +onlyGivenNames -merge -useContext x1
  try clear_value x1
  refine Kept.foldl ?_ ?_
  · exact ha0
  · intro y2 y3 hy2
    exact Kept.ite (kept_chReport _ _ _ _ _ hy2) hy2

theorem kept_calPhase {s0 : State} (a0 : State) (a1 : Nat) (a2 : CalResult) (a3 : Nat) (a4 : List (Nat × Nat)) (a5 : Nat) (ha0 : Kept s0 a0) : Kept s0 (State.calPhase a0 a1 a2 a3 a4 a5) := by
  delta State.calPhase
  refine Kept.ite ?_ ?_
  · exact ha0
  · extract_lets +onlyGivenNames -merge -useContext x0
    have h0 : Kept s0 x0 := by unfold x0; exact kept_wf _ _ _ _ _ (kept_cnt _ _ _ _ _ ha0)
    clear_value x0
    split
    · exact kept_calEnd _ _ _ h0
    · exact kept_calEnd _ _ _ h0
    · exact kept_calEnd _ _ _ h0
    · extract_lets +onlyGivenNames -merge -useContext x1
      try clear_value x1
      extract_lets +onlyGivenNames -merge -useContext x2
      try clear_value x2
      extract_lets +onlyGivenNames -merge -useContext x3
      try clear_value x3
      extract_lets +onlyGivenNames -merge -useContext x4
      have h4 : Kept s0 x4 := by unfold x4; exact kept_fePut _ _ _ _ h0
      clear_value x4
      extract_lets +onlyGivenNames -merge -useContext x5
      have h5 : Kept s0 x5 := by
        unfold x5
        refine Kept.foldl ?_ ?_
        · exact h4
        · intro y6 y7 hy6
          exact kept_plSend _ _ _ _ hy6
      clear_value x5
      refine Kept.ite ?_ ?_
      · exact kept_wf _ _ _ _ _ h5
      · extract_lets +onlyGivenNames -merge -useContext x8
        try clear_value x8
        extract_lets +onlyGivenNames -merge -useContext x9
        have h9 : Kept s0 x9 := by unfold x9; exact Kept.upd h5 rfl rfl rfl rfl rfl rfl rfl
        clear_value x9
        extract_lets +onlyGivenNames -merge -useContext x10
        have h10 : Kept s0 x10 := by unfold x10; exact kept_modCh _ _ _ (kept_wf _ _ _ _ _ (kept_wf _ _ _ _ _ h9))
        clear_value x10
        extract_lets +onlyGivenNames -merge -useContext x11
        have h11 : Kept s0 x11 := by unfold x11; exact kept_modHd _ _ _ h10
        clear_value x11
        exact kept_recalNote _ _ _ _ (kept_weakReaders _ _ h11)

theorem kept_execCalPhaseDone {s0 : State} (a0 : Chan) (a1 : CalResult) (a2 : Nat) (a3 : List (Nat × Nat)) (a4 : BitVec 24) (a5 : State) (ha5 : Kept s0 a5) : KeptR s0 (execCalPhaseDone a0 a1 a2 a3 a4 a5) := by
  delta execCalPhaseDone
  exact KeptR.next (kept_calPhase _ _ _ _ _ _ ha5)

end Sys2Proof.Machine
end

