-- ==== Sys2Proof/Laws/KeptChurn.lean ====
section
/-! SUPPORT. Laws/KeptChurn.lean: the operations of Machine/Churn.lean answer states that have been kept (Safety.lean). -/

namespace Sys2Proof.Machine
open Sys2Proof

theorem kept_modLn {s0 : State} (a0 : State) (a1 : Nat) (a2 : LaneSt → LaneSt) (ha0 : Kept s0 a0) : Kept s0 (State.modLn a0 a1 a2) := by
  delta State.modLn
  exact Kept.upd ha0 rfl rfl rfl rfl rfl rfl rfl

theorem kept_modHf {s0 : State} (a0 : State) (a1 : Nat) (a2 : HalfSt → HalfSt) (ha0 : Kept s0 a0) : Kept s0 (State.modHf a0 a1 a2) := by
  delta State.modHf
  exact Kept.upd ha0 rfl rfl rfl rfl rfl rfl rfl

theorem kept_stat {s0 : State} (a0 : State) (a1 : Nat) (a2 : Nat) (a3 : Nat) (ha0 : Kept s0 a0) : Kept s0 (State.stat a0 a1 a2 a3) := by
  delta State.stat
  exact Kept.ite ha0 (kept_odPut _ _ _ _ ha0)

theorem kept_laneReq {s0 : State} (a0 : State) (a1 : LaneReq) (ha0 : Kept s0 a0) : Kept s0 (State.laneReq a0 a1) := by
  delta State.laneReq
  exact kept_modHf _ _ _ ha0

theorem kept_execLaneRequest {s0 : State} (a0 : Fin 33) (a1 : Fin 4) (a2 : Bool) (a3 : State) (ha3 : Kept s0 a3) : KeptR s0 (execLaneRequest a0 a1 a2 a3) := by
  delta execLaneRequest
  exact KeptR.next (Kept.ite ha3 (kept_laneReq _ _ ha3))

theorem kept_passPtr {s0 : State} (a0 : State) (a1 : Nat) (ha0 : Kept s0 a0) : Kept s0 (State.passPtr a0 a1) := by
  delta State.passPtr
  exact kept_modHf _ _ _ ha0

theorem kept_grantJob {s0 : State} (a0 : State) (a1 : Nat) (a2 : Nat) (ha0 : Kept s0 a0) : Kept s0 (State.grantJob a0 a1 a2) := by
  delta State.grantJob
  split
  · exact ha0
  · extract_lets +onlyGivenNames -merge -useContext x0
    have h0 : Kept s0 x0 := by unfold x0; exact kept_modHf _ _ _ ha0
    clear_value x0
    exact kept_modLn _ _ _ (kept_passPtr _ _ h0)

theorem kept_grantGang {s0 : State} (a0 : State) (a1 : Nat) (ha0 : Kept s0 a0) : Kept s0 (State.grantGang a0 a1) := by
  delta State.grantGang
  extract_lets +onlyGivenNames -merge -useContext x0
  try clear_value x0
  split
  · exact ha0
  · extract_lets +onlyGivenNames -merge -useContext x1
    try clear_value x1
    extract_lets +onlyGivenNames -merge -useContext x2
    have h2 : Kept s0 x2 := by unfold x2; exact kept_modHf _ _ _ ha0
    clear_value x2
    extract_lets +onlyGivenNames -merge -useContext x3
    have h3 : Kept s0 x3 := by
      unfold x3
      refine Kept.foldl ?_ ?_
      · exact h2
      · intro y4 y5 hy4
        exact kept_wf _ _ _ _ _ (kept_wf _ _ _ _ _ (kept_passPtr _ _ hy4))
    clear_value x3
    exact kept_modLn _ _ _ h3

theorem kept_execLaneAllocate {s0 : State} (a0 : Fin 2) (a1 : State) (ha1 : Kept s0 a1) : KeptR s0 (execLaneAllocate a0 a1) := by
  delta execLaneAllocate
  exact KeptR.next (kept_grantGang _ _ (kept_grantJob _ _ _ (kept_grantJob _ _ _ ha1)))

theorem kept_attStart {s0 : State} (a0 : State) (a1 : Nat) (ha0 : Kept s0 a0) : Kept s0 (State.attStart a0 a1) := by
  delta State.attStart
  split
  · refine Kept.ite ?_ ?_
    · exact ha0
    · extract_lets +onlyGivenNames -merge -useContext x0
      try clear_value x0
      extract_lets +onlyGivenNames -merge -useContext x1
      try clear_value x1
      extract_lets +onlyGivenNames -merge -useContext x2
      have h2 : Kept s0 x2 := by unfold x2; exact kept_modLn _ _ _ ha0
      clear_value x2
      extract_lets +onlyGivenNames -merge -useContext x3
      have h3 : Kept s0 x3 := by unfold x3; exact kept_wf _ _ _ _ _ (kept_wf _ _ _ _ _ (kept_wf _ _ _ _ _ h2))
      clear_value x3
      exact Kept.ite (kept_modHf _ _ _ h3) h3
  · exact ha0

theorem kept_execDecodeAttemptStart {s0 : State} (a0 : Fin 64) (a1 : State) (ha1 : Kept s0 a1) : KeptR s0 (execDecodeAttemptStart a0 a1) := by
  delta execDecodeAttemptStart
  exact KeptR.next (kept_attStart _ _ ha1)

theorem kept_memberFree {s0 : State} (a0 : State) (a1 : Nat) (ha0 : Kept s0 a0) : Kept s0 (State.memberFree a0 a1) := by
  delta State.memberFree
  exact Kept.ite (kept_wf _ _ _ _ _ ha0) (Kept.ite (kept_wb _ _ _ _ _ (kept_wf _ _ _ _ _ (kept_wf _ _ _ _ _ ha0))) ha0)

theorem kept_attFree {s0 : State} (a0 : State) (a1 : Nat) (a2 : Att) (ha0 : Kept s0 a0) : Kept s0 (State.attFree a0 a1 a2) := by
  delta State.attFree
  extract_lets +onlyGivenNames -merge -useContext x0
  have h0 : Kept s0 x0 := by
    unfold x0
    refine Kept.foldl ?_ ?_
    · exact ha0
    · intro y1 y2 hy1
      exact kept_memberFree _ _ hy1
  clear_value x0
  extract_lets +onlyGivenNames -merge -useContext x3
  have h3 : Kept s0 x3 := by unfold x3; exact kept_modHf _ _ _ h0
  clear_value x3
  extract_lets +onlyGivenNames -merge -useContext x4
  try clear_value x4
  extract_lets +onlyGivenNames -merge -useContext x5
  have h5 : Kept s0 x5 := by unfold x5; exact kept_modLn _ _ _ h3
  clear_value x5
  refine Kept.ite ?_ ?_
  · extract_lets +onlyGivenNames -merge -useContext x6
    try clear_value x6
    extract_lets +onlyGivenNames -merge -useContext x7
    have h7 : Kept s0 x7 := by
      unfold x7
      refine Kept.foldl ?_ ?_
      · exact kept_modLn _ _ _ h5
      · intro y8 y9 hy8
        exact kept_laneReq _ _ hy8
    clear_value x7
    exact kept_wb _ _ _ _ _ (kept_wf _ _ _ _ _ (kept_wf _ _ _ _ _ h7))
  · exact kept_wf _ _ _ _ _ h5

theorem kept_attCount {s0 : State} (a0 : State) (a1 : Nat) (a2 : Att) (a3 : Nat) (a4 : Nat) (ha0 : Kept s0 a0) : Kept s0 (State.attCount a0 a1 a2 a3 a4) := by
  delta State.attCount
  extract_lets +onlyGivenNames -merge -useContext x0
  try clear_value x0
  extract_lets +onlyGivenNames -merge -useContext x1
  have h1 : Kept s0 x1 := by unfold x1; exact kept_cnt _ _ _ _ _ ha0
  clear_value x1
  extract_lets +onlyGivenNames -merge -useContext x2
  have h2 : Kept s0 x2 := by unfold x2; exact Kept.ite (kept_stat _ _ _ _ h1) h1
  clear_value x2
  extract_lets +onlyGivenNames -merge -useContext x3
  have h3 : Kept s0 x3 := by unfold x3; exact Kept.ite (kept_stat _ _ _ _ h2) h2
  clear_value x3
  exact kept_modSlot _ _ _ _ h3

theorem kept_capture {s0 : State} (a0 : State) (a1 : Nat) (a2 : Nat) (a3 : Nat) (ha0 : Kept s0 a0) : Kept s0 (State.capture a0 a1 a2 a3) := by
  delta State.capture
  extract_lets +onlyGivenNames -merge -useContext x0
  try clear_value x0
  refine Kept.ite ?_ ?_
  · exact ha0
  · extract_lets +onlyGivenNames -merge -useContext x1
    try clear_value x1
    extract_lets +onlyGivenNames -merge -useContext x2
    try clear_value x2
    split
    · exact ha0
    · exact Kept.ite (kept_cnt _ _ _ _ _ ha0) (kept_wb _ _ _ _ _ (kept_modSlot _ _ _ _ ha0))

theorem kept_slotDone {s0 : State} (a0 : State) (a1 : Nat) (a2 : Nat) (ha0 : Kept s0 a0) : Kept s0 (State.slotDone a0 a1 a2) := by
  delta State.slotDone
  exact Kept.ite ha0 (kept_freeRec _ _ _ ha0)

theorem kept_codeCount {s0 : State} (a0 : State) (a1 : Nat) (a2 : Nat) (a3 : Nat) (a4 : Nat) (ha0 : Kept s0 a0) : Kept s0 (State.codeCount a0 a1 a2 a3 a4) := by
  delta State.codeCount
  extract_lets +onlyGivenNames -merge -useContext x0
  have h0 : Kept s0 x0 := by unfold x0; exact Kept.ite (kept_stat _ _ _ _ ha0) ha0
  clear_value x0
  extract_lets +onlyGivenNames -merge -useContext x1
  have h1 : Kept s0 x1 := by
    unfold x1
    split
    · exact kept_stat _ _ _ _ h0
    · exact kept_stat _ _ _ _ h0
    · exact kept_stat _ _ _ _ h0
    · exact kept_stat _ _ _ _ h0
    · exact kept_stat _ _ _ _ h0
    · exact kept_stat _ _ _ _ h0
    · exact h0
  clear_value x1
  exact Kept.ite h1 (Kept.ite (kept_chReport _ _ _ _ _ h1) (Kept.ite (kept_chReport _ _ _ _ _ h1) h1))

theorem kept_toRebuild {s0 : State} (a0 : State) (a1 : SecCmd) (ha0 : Kept s0 a0) : Kept s0 (State.toRebuild a0 a1) := by
  delta State.toRebuild
  refine Kept.ite ?_ ?_
  · exact ha0
  · extract_lets +onlyGivenNames -merge -useContext x0
    try clear_value x0
    exact Kept.upd ha0 rfl rfl rfl rfl rfl rfl rfl

theorem kept_rebuildMore {s0 : State} (a0 : State) (a1 : Nat) (a2 : Nat) (ha0 : Kept s0 a0) : Kept s0 (State.rebuildMore a0 a1 a2) := by
  delta State.rebuildMore
  split
  · exact ha0
  · extract_lets +onlyGivenNames -merge -useContext x0
    try clear_value x0
    split
    · exact ha0
    · extract_lets +onlyGivenNames -merge -useContext x1
      have h1 : Kept s0 x1 := by unfold x1; exact Kept.upd ha0 rfl rfl rfl rfl rfl rfl rfl
      clear_value x1
      split
      · exact Kept.upd h1 rfl rfl rfl rfl rfl rfl rfl
      · exact h1

theorem kept_ladderFail {s0 : State} (a0 : State) (a1 : Nat) (a2 : Nat) (a3 : Nat) (ha0 : Kept s0 a0) : Kept s0 (State.ladderFail a0 a1 a2 a3) := by
  delta State.ladderFail
  extract_lets +onlyGivenNames -merge -useContext x0
  try clear_value x0
  extract_lets +onlyGivenNames -merge -useContext x1
  have h1 : Kept s0 x1 := by unfold x1; exact kept_codeCount _ _ _ _ _ ha0
  clear_value x1
  extract_lets +onlyGivenNames -merge -useContext x2
  have h2 : Kept s0 x2 := by unfold x2; exact Kept.ite h1 (kept_slotDone _ _ _ (kept_capture _ _ _ _ h1))
  clear_value x2
  split
  · refine Kept.ite ?_ ?_
    · exact h2
    · split
      · exact h2
      · exact h2
      · exact kept_rebuildMore _ _ _ h2
      · exact kept_toRebuild _ _ h2
  · exact h2

theorem kept_ladderStep {s0 : State} (a0 : State) (a1 : Nat) (a2 : Nat) (ha0 : Kept s0 a0) : Kept s0 (State.ladderStep a0 a1 a2) := by
  delta State.ladderStep
  extract_lets +onlyGivenNames -merge -useContext x0
  try clear_value x0
  extract_lets +onlyGivenNames -merge -useContext x1
  have h1 : Kept s0 x1 := by unfold x1; exact Kept.ite (kept_cnt _ _ _ _ _ (Kept.ite (kept_modCh _ _ _ ha0) ha0)) ha0
  clear_value x1
  refine Kept.ite ?_ ?_
  · exact kept_ladderFail _ _ _ _ h1
  · split
    · exact kept_ladderFail _ _ _ _ h1
    · exact kept_modSlot _ _ _ _ h1

theorem kept_toStore {s0 : State} (a0 : State) (a1 : Nat) (a2 : Nat) (a3 : Nat) (a4 : Nat) (a5 : SecCmd) (ha0 : Kept s0 a0) : Kept s0 (State.toStore a0 a1 a2 a3 a4 a5) := by
  delta State.toStore
  extract_lets +onlyGivenNames -merge -useContext x0
  try clear_value x0
  exact Kept.ite (kept_modHf _ _ _ ha0) (kept_modLn _ _ _ ha0)

theorem kept_ladderOk {s0 : State} (a0 : State) (a1 : Nat) (a2 : Nat) (a3 : Nat) (ha0 : Kept s0 a0) : Kept s0 (State.ladderOk a0 a1 a2 a3) := by
  delta State.ladderOk
  extract_lets +onlyGivenNames -merge -useContext x0
  try clear_value x0
  extract_lets +onlyGivenNames -merge -useContext x1
  try clear_value x1
  extract_lets +onlyGivenNames -merge -useContext x2
  try clear_value x2
  extract_lets +onlyGivenNames -merge -useContext x3
  have h3 : Kept s0 x3 := by unfold x3; exact kept_codeCount _ _ _ _ _ ha0
  clear_value x3
  refine Kept.ite ?_ ?_
  · exact h3
  · extract_lets +onlyGivenNames -merge -useContext x4
    have h4 : Kept s0 x4 := by unfold x4; exact kept_modCh _ _ _ h3
    clear_value x4
    extract_lets +onlyGivenNames -merge -useContext x5
    have h5 : Kept s0 x5 := by unfold x5; exact kept_capture _ _ _ _ h4
    clear_value x5
    split
    · exact kept_toStore _ _ _ _ _ _ h5
    · exact h5

theorem kept_ladderDrop {s0 : State} (a0 : State) (a1 : Nat) (a2 : Nat) (ha0 : Kept s0 a0) : Kept s0 (State.ladderDrop a0 a1 a2) := by
  delta State.ladderDrop
  extract_lets +onlyGivenNames -merge -useContext x0
  try clear_value x0
  extract_lets +onlyGivenNames -merge -useContext x1
  have h1 : Kept s0 x1 := by unfold x1; exact kept_freeRec _ _ _ ha0
  clear_value x1
  split
  · exact Kept.ite (kept_requeue _ _ h1) h1
  · exact h1

theorem kept_laneOut {s0 : State} (a0 : State) (a1 : Nat) (a2 : Nat) (ha0 : Kept s0 a0) : Kept s0 (State.laneOut a0 a1 a2) := by
  delta State.laneOut
  extract_lets +onlyGivenNames -merge -useContext x0
  try clear_value x0
  extract_lets +onlyGivenNames -merge -useContext x1
  have h1 : Kept s0 x1 := by
    unfold x1
    split
    · refine Kept.foldl ?_ ?_
      · exact ha0
      · intro y2 y3 hy2
        exact kept_memberFree _ _ hy2
    · exact ha0
  clear_value x1
  extract_lets +onlyGivenNames -merge -useContext x4
  have h4 : Kept s0 x4 := by unfold x4; exact kept_modHf _ _ _ h1
  clear_value x4
  extract_lets +onlyGivenNames -merge -useContext x5
  have h5 : Kept s0 x5 := by
    unfold x5
    refine Kept.foldl ?_ ?_
    · exact kept_modLn _ _ _ h4
    · intro y6 y7 hy6
      exact kept_laneReq _ _ hy6
  clear_value x5
  extract_lets +onlyGivenNames -merge -useContext x8
  have h8 : Kept s0 x8 := by unfold x8; exact Kept.upd h5 rfl rfl rfl rfl rfl rfl rfl
  clear_value x8
  exact kept_wb _ _ _ _ _ (kept_wf _ _ _ _ _ (kept_wf _ _ _ _ _ h8))

theorem kept_laneFault {s0 : State} (a0 : State) (a1 : Nat) (a2 : Nat) (a3 : Nat) (ha0 : Kept s0 a0) : Kept s0 (State.laneFault a0 a1 a2 a3) := by
  delta State.laneFault
  exact Kept.ite ha0 (kept_report _ _ _ _ (kept_laneOut _ _ _ ha0))

theorem kept_execLaneFault {s0 : State} (a0 : Fin 64) (a1 : Bool) (a2 : State) (ha2 : Kept s0 a2) : KeptR s0 (execLaneFault a0 a1 a2) := by
  delta execLaneFault
  exact KeptR.next (Kept.ite (kept_laneFault _ _ _ _ ha2) (kept_laneFault _ _ _ _ ha2))

theorem kept_execCellFault {s0 : State} (a0 : Fin 64) (a1 : Fin 16) (a2 : State) (ha2 : Kept s0 a2) : KeptR s0 (execCellFault a0 a1 a2) := by
  delta execCellFault
  refine KeptR.ite ?_ ?_
  · exact KeptR.next ha2
  · extract_lets +onlyGivenNames -merge -useContext x0
    try clear_value x0
    extract_lets +onlyGivenNames -merge -useContext x1
    have h1 : Kept s0 x1 := by unfold x1; exact kept_wb _ _ _ _ _ (kept_wbit _ _ _ _ _ _ ha2)
    clear_value x1
    extract_lets +onlyGivenNames -merge -useContext x2
    have h2 : Kept s0 x2 := by unfold x2; exact kept_report _ _ _ _ h1
    clear_value x2
    exact KeptR.ite (KeptR.next (kept_wf _ _ _ _ _ (kept_modLn _ _ _ h2))) (KeptR.next (Kept.ite h2 (kept_laneOut _ _ _ h2)))

theorem kept_execLaneMemoryCorrected {s0 : State} (a0 : Fin 64) (a1 : State) (ha1 : Kept s0 a1) : KeptR s0 (execLaneMemoryCorrected a0 a1) := by
  delta execLaneMemoryCorrected
  exact KeptR.next (kept_report _ _ _ _ (kept_cnt _ _ _ _ _ ha1))

theorem kept_execCodeTableFault {s0 : State} (a0 : Fin 2) (a1 : Fin 64) (a2 : Fin 16) (a3 : State) (ha3 : Kept s0 a3) : KeptR s0 (execCodeTableFault a0 a1 a2 a3) := by
  delta execCodeTableFault
  extract_lets +onlyGivenNames -merge -useContext x0
  try clear_value x0
  extract_lets +onlyGivenNames -merge -useContext x1
  try clear_value x1
  extract_lets +onlyGivenNames -merge -useContext x2
  try clear_value x2
  exact KeptR.next (kept_reportBy _ _ _ _ _ _ _ _ (Kept.upd ha3 rfl rfl rfl rfl rfl rfl rfl))

theorem kept_vcEnd {s0 : State} (a0 : State) (a1 : Att) (a2 : Bool) (ha0 : Kept s0 a0) : Kept s0 (State.vcEnd a0 a1 a2) := by
  delta State.vcEnd
  exact Kept.upd ha0 rfl rfl rfl rfl rfl rfl rfl

theorem kept_sweepEnd {s0 : State} (a0 : State) (a1 : Nat) (a2 : Nat) (a3 : Nat) (a4 : Bool) (a5 : Bool) (a6 : Bool) (a7 : Bool) (ha0 : Kept s0 a0) : Kept s0 (State.sweepEnd a0 a1 a2 a3 a4 a5 a6 a7) := by
  delta State.sweepEnd
  split
  · exact ha0
  · extract_lets +onlyGivenNames -merge -useContext x0
    try clear_value x0
    extract_lets +onlyGivenNames -merge -useContext x1
    try clear_value x1
    extract_lets +onlyGivenNames -merge -useContext x2
    try clear_value x2
    extract_lets +onlyGivenNames -merge -useContext x3
    try clear_value x3
    extract_lets +onlyGivenNames -merge -useContext x4
    have h4 : Kept s0 x4 := by unfold x4; exact kept_modLn _ _ _ (kept_wf _ _ _ _ _ (kept_cnt _ _ _ _ _ ha0))
    clear_value x4
    extract_lets +onlyGivenNames -merge -useContext x5
    try clear_value x5
    refine Kept.ite ?_ ?_
    · exact kept_ladderDrop _ _ _ (kept_attFree _ _ _ h4)
    · refine Kept.ite ?_ ?_
      · exact kept_laneFault _ _ _ _ h4
      · refine Kept.ite ?_ ?_
        · extract_lets +onlyGivenNames -merge -useContext x6
          have h6 : Kept s0 x6 := by unfold x6; exact kept_attFree _ _ _ (kept_attCount _ _ _ _ _ h4)
          clear_value x6
          extract_lets +onlyGivenNames -merge -useContext x7
          have h7 : Kept s0 x7 := by unfold x7; exact Kept.ite (kept_vcEnd _ _ _ h6) h6
          clear_value x7
          refine Kept.ite ?_ ?_
          · exact Kept.ite h7 (kept_ladderOk _ _ _ _ h7)
          · refine Kept.ite ?_ ?_
            · exact Kept.ite h7 (kept_ladderFail _ _ _ _ h7)
            · refine Kept.ite ?_ ?_
              · exact h7
              · extract_lets +onlyGivenNames -merge -useContext x8
                have h8 : Kept s0 x8 := by unfold x8; exact kept_modSlot _ _ _ _ (kept_stat _ _ _ _ h7)
                clear_value x8
                exact kept_ladderStep _ _ _ h8
        · refine Kept.ite ?_ ?_
          · extract_lets +onlyGivenNames -merge -useContext x9
            have h9 : Kept s0 x9 := by unfold x9; exact kept_attFree _ _ _ (kept_attCount _ _ _ _ _ h4)
            clear_value x9
            exact Kept.ite (kept_vcEnd _ _ _ h9) (kept_ladderStep _ _ _ (kept_modSlot _ _ _ _ h9))
          · exact Kept.ite (kept_modHf _ _ _ (kept_modLn _ _ _ h4)) h4

theorem kept_execSweepEnd {s0 : State} (a0 : Fin 64) (a1 : BitVec 12) (a2 : Nat) (a3 : Bool) (a4 : Bool) (a5 : Bool) (a6 : Bool) (a7 : State) (ha7 : Kept s0 a7) : KeptR s0 (execSweepEnd a0 a1 a2 a3 a4 a5 a6 a7) := by
  delta execSweepEnd
  exact KeptR.next (kept_sweepEnd _ _ _ _ _ _ _ _ ha7)

theorem kept_execReeqDone {s0 : State} (a0 : Chan) (a1 : State) (ha1 : Kept s0 a1) : KeptR s0 (execReeqDone a0 a1) := by
  delta execReeqDone
  exact KeptR.next (kept_modCh _ _ _ ha1)

theorem kept_deliver {s0 : State} (a0 : State) (a1 : StoreEnt) (ha0 : Kept s0 a0) : Kept s0 (State.deliver a0 a1) := by
  delta State.deliver
  extract_lets +onlyGivenNames -merge -useContext x0
  try clear_value x0
  extract_lets +onlyGivenNames -merge -useContext x1
  have h1 : Kept s0 x1 := by unfold x1; exact kept_fillSector _ _ ha0
  clear_value x1
  extract_lets +onlyGivenNames -merge -useContext x2
  have h2 : Kept s0 x2 := by unfold x2; exact Kept.ite (kept_hostReady _ _ h1) (Kept.upd h1 rfl rfl rfl rfl rfl rfl rfl)
  clear_value x2
  exact Kept.ite (Kept.ite h2 (Kept.upd h2 rfl rfl rfl rfl rfl rfl rfl)) h2

theorem kept_storeFree {s0 : State} (a0 : State) (a1 : Nat) (a2 : StoreEnt) (a3 : Bool) (ha0 : Kept s0 a0) : Kept s0 (State.storeFree a0 a1 a2 a3) := by
  delta State.storeFree
  extract_lets +onlyGivenNames -merge -useContext x0
  have h0 : Kept s0 x0 := by unfold x0; exact kept_modHf _ _ _ ha0
  clear_value x0
  extract_lets +onlyGivenNames -merge -useContext x1
  have h1 : Kept s0 x1 := by unfold x1; exact Kept.ite (kept_deliver _ _ h0) h0
  clear_value x1
  extract_lets +onlyGivenNames -merge -useContext x2
  have h2 : Kept s0 x2 := by unfold x2; exact kept_slotDone _ _ _ h1
  clear_value x2
  split
  · exact h2
  · split
    · extract_lets +onlyGivenNames -merge -useContext x3
      have h3 : Kept s0 x3 := by unfold x3; exact kept_modLn _ _ _ h2
      clear_value x3
      split
      · exact kept_modHf _ _ _ h3
      · exact h3
    · exact h2

theorem kept_execOutputStoreFree {s0 : State} (a0 : Fin 2) (a1 : State) (ha1 : Kept s0 a1) : KeptR s0 (execOutputStoreFree a0 a1) := by
  delta execOutputStoreFree
  split
  · exact KeptR.next (kept_storeFree _ _ _ _ ha1)
  · exact KeptR.next ha1

theorem kept_execRetryBudgetExpiry {s0 : State} (a0 : Chan) (a1 : Fin 4) (a2 : State) (ha2 : Kept s0 a2) : KeptR s0 (execRetryBudgetExpiry a0 a1 a2) := by
  delta execRetryBudgetExpiry
  extract_lets +onlyGivenNames -merge -useContext x0
  try clear_value x0
  refine KeptR.ite ?_ ?_
  · exact KeptR.next ha2
  · extract_lets +onlyGivenNames -merge -useContext x1
    have h1 : Kept s0 x1 := by unfold x1; exact kept_modSlot _ _ _ _ ha2
    clear_value x1
    extract_lets +onlyGivenNames -merge -useContext x2
    try clear_value x2
    extract_lets +onlyGivenNames -merge -useContext x3
    try clear_value x3
    extract_lets +onlyGivenNames -merge -useContext x4
    try clear_value x4
    refine KeptR.ite ?_ ?_
    · exact KeptR.next h1
    · extract_lets +onlyGivenNames -merge -useContext x5
      have h5 : Kept s0 x5 := by
        unfold x5
        refine Kept.foldl ?_ ?_
        · exact h1
        · intro y6 y7 hy6
          exact kept_modLn _ _ _ hy6
      clear_value x5
      extract_lets +onlyGivenNames -merge -useContext x8
      have h8 : Kept s0 x8 := by
        unfold x8
        refine Kept.foldl ?_ ?_
        · exact h5
        · intro y9 y10 hy9
          exact kept_modHf _ _ _ hy9
      clear_value x8
      exact KeptR.next (kept_ladderFail _ _ _ _ h8)

theorem kept_laneRetire {s0 : State} (a0 : State) (a1 : Nat) (ha0 : Kept s0 a0) : Kept s0 (State.laneRetire a0 a1) := by
  delta State.laneRetire
  exact Kept.ite (kept_laneOut _ _ _ ha0) (Kept.ite (kept_wb _ _ _ _ _ (kept_wf _ _ _ _ _ ha0)) ha0)

theorem kept_execLaneRetire {s0 : State} (a0 : Fin 64) (a1 : State) (ha1 : Kept s0 a1) : KeptR s0 (execLaneRetire a0 a1) := by
  delta execLaneRetire
  exact KeptR.next (kept_laneRetire _ _ ha1)

theorem kept_laneRestore {s0 : State} (a0 : State) (a1 : Nat) (ha0 : Kept s0 a0) : Kept s0 (State.laneRestore a0 a1) := by
  delta State.laneRestore
  exact Kept.ite (kept_wb _ _ _ _ _ (kept_wf _ _ _ _ _ ha0)) ha0

theorem kept_execLaneRestore {s0 : State} (a0 : Fin 64) (a1 : State) (ha1 : Kept s0 a1) : KeptR s0 (execLaneRestore a0 a1) := by
  delta execLaneRestore
  exact KeptR.next (kept_laneRestore _ _ ha1)

theorem kept_laneTested {s0 : State} (a0 : State) (a1 : Nat) (a2 : Bool) (ha0 : Kept s0 a0) : Kept s0 (State.laneTested a0 a1 a2) := by
  delta State.laneTested
  refine Kept.ite ?_ ?_
  · exact ha0
  · extract_lets +onlyGivenNames -merge -useContext x0
    have h0 : Kept s0 x0 := by unfold x0; exact kept_wb _ _ _ _ _ ha0
    clear_value x0
    exact Kept.ite (kept_wf _ _ _ _ _ (kept_wf _ _ _ _ _ h0)) (kept_wf _ _ _ _ _ (kept_wf _ _ _ _ _ h0))

theorem kept_execLaneSelftestDone {s0 : State} (a0 : Fin 64) (a1 : Bool) (a2 : State) (ha2 : Kept s0 a2) : KeptR s0 (execLaneSelftestDone a0 a1 a2) := by
  delta execLaneSelftestDone
  exact KeptR.next (kept_laneTested _ _ _ ha2)

end Sys2Proof.Machine
end

