-- ==== Sys2Proof/Laws/KeptWrite.lean ====
section
/-! SUPPORT. Laws/KeptWrite.lean: the operations of Machine/Write.lean answer states that have been kept (Safety.lean). -/

namespace Sys2Proof.Machine
open Sys2Proof

theorem kept_execSectorEncodeDone {s0 : State} (a0 : Chan) (a1 : State) (ha1 : Kept s0 a1) : KeptR s0 (execSectorEncodeDone a0 a1) := by
  delta execSectorEncodeDone
  refine KeptR.next ?_
  split
  · exact kept_modCh _ _ _ ha1
  · exact ha1

theorem kept_writeSetup {s0 : State} (a0 : State) (a1 : Nat) (ha0 : Kept s0 a0) : Kept s0 (State.writeSetup a0 a1) := by
  delta State.writeSetup
  extract_lets +onlyGivenNames -merge -useContext x0
  try clear_value x0
  split
  · exact ha0
  · extract_lets +onlyGivenNames -merge -useContext x1
    try clear_value x1
    extract_lets +onlyGivenNames -merge -useContext x2
    have h2 : Kept s0 x2 := by unfold x2; exact kept_setupNeed _ _ ha0
    clear_value x2
    extract_lets +onlyGivenNames -merge -useContext x3
    have h3 : Kept s0 x3 := by unfold x3; exact kept_writeCurrent _ _ _ _ _ _ h2
    clear_value x3
    extract_lets +onlyGivenNames -merge -useContext x4
    have h4 : Kept s0 x4 := by unfold x4; exact kept_heater _ _ _ _ _ h3
    clear_value x4
    exact kept_slotMode _ _ _ _ h4

theorem kept_execWriteSetup {s0 : State} (a0 : Chan) (a1 : State) (ha1 : Kept s0 a1) : KeptR s0 (execWriteSetup a0 a1) := by
  delta execWriteSetup
  exact KeptR.next (kept_writeSetup _ _ ha1)

theorem kept_wrCtrl {s0 : State} (a0 : State) (a1 : Nat) (a2 : Nat) (ha0 : Kept s0 a0) : Kept s0 (State.wrCtrl a0 a1 a2) := by
  delta State.wrCtrl
  extract_lets +onlyGivenNames -merge -useContext x0
  have h0 : Kept s0 x0 := by unfold x0; exact kept_wb _ _ _ _ _ (kept_wb _ _ _ _ _ ha0)
  clear_value x0
  exact kept_inhibit _ _ _ _ h0

theorem kept_execWrCtrlWrite {s0 : State} (a0 : Chan) (a1 : Word) (a2 : State) (ha2 : Kept s0 a2) : KeptR s0 (execWrCtrlWrite a0 a1 a2) := by
  delta execWrCtrlWrite
  exact KeptR.next (kept_wrCtrl _ _ _ ha2)

theorem kept_wrPrecomp {s0 : State} (a0 : State) (a1 : Nat) (a2 : Nat) (ha0 : Kept s0 a0) : Kept s0 (State.wrPrecomp a0 a1 a2) := by
  delta State.wrPrecomp
  exact Kept.ite (kept_modCh _ _ _ ha0) (kept_wf _ _ _ _ _ (kept_wf _ _ _ _ _ (kept_wf _ _ _ _ _ ha0)))

theorem kept_omit_ {s0 : State} (a0 : State) (a1 : Nat) (a2 : Nat) (ha0 : Kept s0 a0) : Kept s0 (State.omit_ a0 a1 a2) := by
  delta State.omit_
  exact kept_report _ _ _ _ (Kept.upd ha0 rfl rfl rfl rfl rfl rfl rfl)

theorem kept_modUpdate {s0 : State} (a0 : State) (a1 : Nat) (a2 : Update → Update) (ha0 : Kept s0 a0) : Kept s0 (State.modUpdate a0 a1 a2) := by
  delta State.modUpdate
  exact Kept.upd ha0 rfl rfl rfl rfl rfl rfl rfl

theorem kept_takeMany {s0 : State} (a0 : State) (a1 a2 : Nat) (ha0 : Kept s0 a0) : Kept s0 (State.takeMany a0 a1 a2).1 := by
  induction a2 generalizing a0 with
  | zero => exact ha0
  | succ n ih => exact ih _ (kept_pailTake _ _ ha0)

theorem kept_readMember {s0 : State} (a0 : State) (a1 : Nat) (a2 : Nat) (a3 : Nat) (a4 : Nat) (a5 : Nat) (a6 : SecWhy) (ha0 : Kept s0 a0) : Kept s0 (State.readMember a0 a1 a2 a3 a4 a5 a6) := by
  delta State.readMember
  split
  · exact ha0
  · exact Kept.ite (Kept.upd ha0 rfl rfl rfl rfl rfl rfl rfl) (Kept.upd ha0 rfl rfl rfl rfl rfl rfl rfl)

theorem kept_startUpdate {s0 : State} (a0 : State) (a1 : Nat) (a2 : Nat) (a3 : Bool) (ha0 : Kept s0 a0) : Kept s0 (State.startUpdate a0 a1 a2 a3) := by
  delta State.startUpdate
  extract_lets +onlyGivenNames -merge -useContext x0
  try clear_value x0
  extract_lets +onlyGivenNames -merge -useContext x1
  try clear_value x1
  extract_lets +onlyGivenNames -merge -useContext x2
  try clear_value x2
  extract_lets +onlyGivenNames -merge -useContext x3
  try clear_value x3
  refine Kept.ite ?_ ?_
  · exact ha0
  · extract_lets +onlyGivenNames -merge -useContext x4
    try clear_value x4
    extract_lets +onlyGivenNames -merge -useContext x5
    try clear_value x5
    extract_lets +onlyGivenNames -merge -useContext x6
    try clear_value x6
    extract_lets +onlyGivenNames -merge -useContext x7
    try clear_value x7
    extract_lets +onlyGivenNames -merge -useContext x8
    try clear_value x8
    refine Kept.ite ?_ ?_
    · extract_lets +onlyGivenNames -merge -useContext x9
      have h9 : Kept s0 x9 := by
        unfold x9
        refine Kept.foldl ?_ ?_
        · exact ha0
        · intro y10 y11 hy10
          exact kept_cmdFail _ _ _ _ hy10
      clear_value x9
      extract_lets +onlyGivenNames -merge -useContext x12
      have h12 : Kept s0 x12 := by unfold x12; exact Kept.upd h9 rfl rfl rfl rfl rfl rfl rfl
      clear_value x12
      exact kept_pailsFree _ _ h12
    · refine Kept.ite ?_ ?_
      · exact kept_countEmpty _ _ ha0
      · extract_lets +onlyGivenNames -merge -useContext x13
        have h13 : Kept s0 x13 := by unfold x13; exact Kept.upd ha0 rfl rfl rfl rfl rfl rfl rfl
        clear_value x13
        extract_lets +onlyGivenNames -merge -useContext x14
        try clear_value x14
        extract_lets +onlyGivenNames -merge -useContext x15
        try clear_value x15
        extract_lets +onlyGivenNames -merge -useContext x16
        have h16 : Kept s0 x16.1 := by unfold x16; exact kept_takeMany _ _ _ h13
        clear_value x16
        extract_lets +onlyGivenNames -merge -useContext x17
        have h17 : Kept s0 x17 := by unfold x17; exact h16
        clear_value x17
        extract_lets +onlyGivenNames -merge -useContext x18
        try clear_value x18
        extract_lets +onlyGivenNames -merge -useContext x19
        try clear_value x19
        extract_lets +onlyGivenNames -merge -useContext x20
        try clear_value x20
        extract_lets +onlyGivenNames -merge -useContext x21
        have h21 : Kept s0 x21 := by unfold x21; exact Kept.upd h17 rfl rfl rfl rfl rfl rfl rfl
        clear_value x21
        extract_lets +onlyGivenNames -merge -useContext x22
        have h22 : Kept s0 x22 := by
          unfold x22
          refine Kept.foldl ?_ ?_
          · exact h21
          · intro y23 y24 hy23
            exact kept_omit_ _ _ _ hy23
        clear_value x22
        refine Kept.foldl ?_ ?_
        · exact h22
        · intro y25 y26 hy25
          exact kept_readMember _ _ _ _ _ _ _ hy25

theorem kept_execStripeUpdateStart {s0 : State} (a0 : BitVec 32) (a1 : Fin 16) (a2 : State) (ha2 : Kept s0 a2) : KeptR s0 (execStripeUpdateStart a0 a1 a2) := by
  delta execStripeUpdateStart
  exact KeptR.next (kept_startUpdate _ _ _ _ ha2)

theorem kept_dropUpdate {s0 : State} (a0 : State) (a1 : Update) (ha0 : Kept s0 a0) : Kept s0 (State.dropUpdate a0 a1) := by
  delta State.dropUpdate
  extract_lets +onlyGivenNames -merge -useContext x0
  have h0 : Kept s0 x0 := by unfold x0; exact Kept.upd ha0 rfl rfl rfl rfl rfl rfl rfl
  clear_value x0
  exact kept_pailsFree _ _ h0

theorem kept_dropDirty {s0 : State} (a0 : State) (a1 : Nat) (ha0 : Kept s0 a0) : Kept s0 (State.dropDirty a0 a1) := by
  delta State.dropDirty
  extract_lets +onlyGivenNames -merge -useContext x0
  try clear_value x0
  exact kept_pailsFree _ _ (Kept.upd ha0 rfl rfl rfl rfl rfl rfl rfl)

theorem kept_parityDone {s0 : State} (a0 : State) (a1 : Nat) (a2 : Bool) (ha0 : Kept s0 a0) : Kept s0 (State.parityDone a0 a1 a2) := by
  delta State.parityDone
  split
  · exact ha0
  · refine Kept.ite ?_ ?_
    · exact ha0
    · refine Kept.ite ?_ ?_
      · extract_lets +onlyGivenNames -merge -useContext x0
        try clear_value x0
        extract_lets +onlyGivenNames -merge -useContext x1
        have h1 : Kept s0 x1 := by
          unfold x1
          refine Kept.foldl ?_ ?_
          · exact ha0
          · intro y2 y3 hy2
            exact kept_cmdFail _ _ _ _ hy2
        clear_value x1
        exact kept_dropDirty _ _ (kept_dropUpdate _ _ (Kept.upd h1 rfl rfl rfl rfl rfl rfl rfl))
      · refine Kept.ite ?_ ?_
        · exact ha0
        · extract_lets +onlyGivenNames -merge -useContext x4
          have h4 : Kept s0 x4 := by unfold x4; exact Kept.upd ha0 rfl rfl rfl rfl rfl rfl rfl
          clear_value x4
          extract_lets +onlyGivenNames -merge -useContext x5
          have h5 : Kept s0 x5 := by unfold x5; exact kept_modUpdate _ _ _ h4
          clear_value x5
          extract_lets +onlyGivenNames -merge -useContext x6
          have h6 : Kept s0 x6 := by
            unfold x6
            refine Kept.foldl ?_ ?_
            · exact h5
            · intro y7 y8 hy7
              exact kept_fillSector _ _ hy7
          clear_value x6
          refine Kept.foldl ?_ ?_
          · exact h6
          · intro y9 y10 hy9
            extract_lets +onlyGivenNames -merge -useContext x11
            try clear_value x11
            split
            · split
              · exact Kept.upd hy9 rfl rfl rfl rfl rfl rfl rfl
              · exact hy9
            · split
              · split
                · exact Kept.upd hy9 rfl rfl rfl rfl rfl rfl rfl
                · exact hy9
              · exact hy9

theorem kept_execParityDone {s0 : State} (a0 : BitVec 32) (a1 : Bool) (a2 : State) (ha2 : Kept s0 a2) : KeptR s0 (execParityDone a0 a1 a2) := by
  delta execParityDone
  exact KeptR.next (kept_parityDone _ _ _ ha2)

theorem kept_objRelease {s0 : State} (a0 : State) (a1 : List (Nat × Nat)) (ha0 : Kept s0 a0) : Kept s0 (State.objRelease a0 a1) := by
  delta State.objRelease
  refine Kept.foldl ?_ ?_
  · exact ha0
  · intro y0 y1 hy0
    extract_lets +onlyGivenNames -merge -useContext x2
    try clear_value x2
    exact Kept.ite (Kept.upd hy0 rfl rfl rfl rfl rfl rfl rfl) (Kept.upd hy0 rfl rfl rfl rfl rfl rfl rfl)

theorem kept_objDurable {s0 : State} (a0 : State) (ha0 : Kept s0 a0) : Kept s0 (State.objDurable a0) := by
  delta State.objDurable
  extract_lets +onlyGivenNames -merge -useContext x0
  try clear_value x0
  extract_lets +onlyGivenNames -merge -useContext x1
  have h1 : Kept s0 x1 := by
    unfold x1
    refine Kept.foldl ?_ ?_
    · exact ha0
    · intro y2 y3 hy2
      extract_lets +onlyGivenNames -merge -useContext x4
      try clear_value x4
      exact Kept.upd hy2 rfl rfl rfl rfl rfl rfl rfl
  clear_value x1
  extract_lets +onlyGivenNames -merge -useContext x5
  have h5 : Kept s0 x5 := by
    unfold x5
    refine Kept.foldl ?_ ?_
    · exact h1
    · intro y6 y7 hy6
      exact Kept.upd hy6 rfl rfl rfl rfl rfl rfl rfl
  clear_value x5
  refine Kept.foldl ?_ ?_
  · exact h5
  · intro y8 y9 hy8
    exact kept_objRelease _ _ (Kept.upd hy8 rfl rfl rfl rfl rfl rfl rfl)

theorem kept_maskOff {s0 : State} (a0 : State) (a1 : Nat) (a2 : Nat) (ha0 : Kept s0 a0) : Kept s0 (State.maskOff a0 a1 a2) := by
  delta State.maskOff
  extract_lets +onlyGivenNames -merge -useContext x0
  have h0 : Kept s0 x0 := by unfold x0; exact Kept.upd ha0 rfl rfl rfl rfl rfl rfl rfl
  clear_value x0
  extract_lets +onlyGivenNames -merge -useContext x1
  have h1 : Kept s0 x1 := by unfold x1; exact kept_modUpdate _ _ _ h0
  clear_value x1
  split
  · exact h1
  · refine Kept.ite ?_ ?_
    · exact h1
    · extract_lets +onlyGivenNames -merge -useContext x2
      have h2 : Kept s0 x2 := by unfold x2; exact Kept.upd h1 rfl rfl rfl rfl rfl rfl rfl
      clear_value x2
      exact kept_objDurable _ (kept_dropDirty _ _ (kept_dropUpdate _ _ h2))

theorem kept_rewritten {s0 : State} (a0 : State) (a1 : SecCmd) (ha0 : Kept s0 a0) : Kept s0 (State.rewritten a0 a1) := by
  delta State.rewritten
  extract_lets +onlyGivenNames -merge -useContext x0
  have h0 : Kept s0 x0 := by unfold x0; exact Kept.upd ha0 rfl rfl rfl rfl rfl rfl rfl
  clear_value x0
  exact Kept.ite (Kept.upd h0 rfl rfl rfl rfl rfl rfl rfl) (kept_pailsFree _ _ h0)

theorem kept_memberWritten {s0 : State} (a0 : State) (a1 : Nat) (ha0 : Kept s0 a0) : Kept s0 (State.memberWritten a0 a1) := by
  delta State.memberWritten
  split
  · exact ha0
  · refine Kept.ite ?_ ?_
    · exact ha0
    · extract_lets +onlyGivenNames -merge -useContext x0
      have h0 : Kept s0 x0 := by unfold x0; exact kept_modCh _ _ _ ha0
      clear_value x0
      exact Kept.ite (kept_rewritten _ _ h0) (kept_maskOff _ _ _ h0)

theorem kept_execMemberWritten {s0 : State} (a0 : Chan) (a1 : State) (ha1 : Kept s0 a1) : KeptR s0 (execMemberWritten a0 a1) := by
  delta execMemberWritten
  exact KeptR.next (kept_memberWritten _ _ ha1)

theorem kept_reroute {s0 : State} (a0 : State) (a1 : Nat × Nat) (a2 : SecCmd) (ha0 : Kept s0 a0) : Kept s0 (State.reroute a0 a1 a2) := by
  delta State.reroute
  split
  · exact Kept.upd ha0 rfl rfl rfl rfl rfl rfl rfl
  · exact kept_maskOff _ _ _ (kept_omit_ _ _ _ ha0)
  · extract_lets +onlyGivenNames -merge -useContext x0
    try clear_value x0
    extract_lets +onlyGivenNames -merge -useContext x1
    have h1 : Kept s0 x1 := by
      unfold x1
      refine Kept.foldl ?_ ?_
      · exact ha0
      · intro y2 y3 hy2
        exact kept_cmdFail _ _ _ _ hy2
    clear_value x1
    exact Kept.upd h1 rfl rfl rfl rfl rfl rfl rfl

theorem kept_holdExpiry {s0 : State} (a0 : State) (a1 : Nat) (a2 : Nat) (ha0 : Kept s0 a0) : Kept s0 (State.holdExpiry a0 a1 a2) := by
  delta State.holdExpiry
  split
  · exact ha0
  · refine Kept.ite ?_ ?_
    · exact ha0
    · extract_lets +onlyGivenNames -merge -useContext x0
      try clear_value x0
      extract_lets +onlyGivenNames -merge -useContext x1
      try clear_value x1
      extract_lets +onlyGivenNames -merge -useContext x2
      have h2 : Kept s0 x2 := by unfold x2; exact Kept.upd ha0 rfl rfl rfl rfl rfl rfl rfl
      clear_value x2
      extract_lets +onlyGivenNames -merge -useContext x3
      have h3 : Kept s0 x3 := by unfold x3; exact kept_modCh _ _ _ h2
      clear_value x3
      refine Kept.foldl ?_ ?_
      · exact h3
      · intro y4 y5 hy4
        exact kept_reroute _ _ _ hy4

theorem kept_execWriteHoldExpiry {s0 : State} (a0 : Act) (a1 : Fin 11) (a2 : State) (ha2 : Kept s0 a2) : KeptR s0 (execWriteHoldExpiry a0 a1 a2) := by
  delta execWriteHoldExpiry
  exact KeptR.next (kept_holdExpiry _ _ _ ha2)

theorem kept_rebuildStart {s0 : State} (a0 : State) (a1 : Nat) (a2 : Nat) (a3 : Nat) (ha0 : Kept s0 a0) : Kept s0 (State.rebuildStart a0 a1 a2 a3) := by
  delta State.rebuildStart
  split
  · exact ha0
  · refine Kept.ite ?_ ?_
    · exact ha0
    · extract_lets +onlyGivenNames -merge -useContext x0
      try clear_value x0
      extract_lets +onlyGivenNames -merge -useContext x1
      try clear_value x1
      extract_lets +onlyGivenNames -merge -useContext x2
      have h2 : Kept s0 x2 := by unfold x2; exact Kept.upd ha0 rfl rfl rfl rfl rfl rfl rfl
      clear_value x2
      refine Kept.foldl ?_ ?_
      · exact h2
      · intro y3 y4 hy3
        split
        · exact Kept.upd hy3 rfl rfl rfl rfl rfl rfl rfl
        · exact hy3

theorem kept_execRebuildStart {s0 : State} (a0 : BitVec 32) (a1 : Fin 32) (a2 : Fin 16) (a3 : State) (ha3 : Kept s0 a3) : KeptR s0 (execRebuildStart a0 a1 a2 a3) := by
  delta execRebuildStart
  exact KeptR.next (kept_rebuildStart _ _ _ _ ha3)

theorem kept_suspect {s0 : State} (a0 : State) (a1 : Nat) (a2 : Nat) (ha0 : Kept s0 a0) : Kept s0 (State.suspect a0 a1 a2) := by
  delta State.suspect
  exact Kept.ite (Kept.upd ha0 rfl rfl rfl rfl rfl rfl rfl) ha0

theorem kept_rewriteDue {s0 : State} (a0 : State) (a1 : SecCmd) (a2 : Nat) (ha0 : Kept s0 a0) : Kept s0 (State.rewriteDue a0 a1 a2) := by
  delta State.rewriteDue
  exact Kept.upd ha0 rfl rfl rfl rfl rfl rfl rfl

theorem kept_rebuildDeliver {s0 : State} (a0 : State) (a1 : SecCmd) (ha0 : Kept s0 a0) : Kept s0 (State.rebuildDeliver a0 a1) := by
  delta State.rebuildDeliver
  split
  · split
    · refine Kept.ite ?_ ?_
      · exact kept_cmdFail _ _ _ _ ha0
      · refine Kept.ite ?_ ?_
        · exact kept_requeue _ _ (kept_countEmpty _ _ ha0)
        · extract_lets +onlyGivenNames -merge -useContext x0
          have h0 : Kept s0 x0.1 := by unfold x0; exact kept_pailTake _ _ ha0
          clear_value x0
          exact kept_hostReady _ _ (kept_fillSector _ _ h0)
    · exact kept_hostReady _ _ (kept_fillSector _ _ ha0)
  · exact Kept.upd ha0 rfl rfl rfl rfl rfl rfl rfl
  · exact ha0

theorem kept_rebuildDone {s0 : State} (a0 : State) (a1 : Nat) (a2 : Nat) (a3 : RebuildResult) (ha0 : Kept s0 a0) : Kept s0 (State.rebuildDone a0 a1 a2 a3) := by
  delta State.rebuildDone
  split
  · exact ha0
  · refine Kept.ite ?_ ?_
    · exact ha0
    · extract_lets +onlyGivenNames -merge -useContext x0
      have h0 : Kept s0 x0 := by unfold x0; exact Kept.upd ha0 rfl rfl rfl rfl rfl rfl rfl
      clear_value x0
      extract_lets +onlyGivenNames -merge -useContext x1
      have h1 : ∀ y2 y3, (Kept s0 y2) → Kept s0 (x1 y2 y3) := by
        intro y2 y3 hy2
        unfold x1
        split
        · exact Kept.ite hy2 (kept_rewriteDue _ _ _ hy2)
        · exact hy2
      clear_value x1
      split
      · extract_lets +onlyGivenNames -merge -useContext x4
        have h4 : Kept s0 x4 := by unfold x4; exact kept_report _ _ _ _ h0
        clear_value x4
        extract_lets +onlyGivenNames -merge -useContext x5
        have h5 : Kept s0 x5 := by
          unfold x5
          split
          · exact kept_rebuildDeliver _ _ h4
          · exact h4
        clear_value x5
        apply h1
        · exact h5
      · extract_lets +onlyGivenNames -merge -useContext x6
        have h6 : Kept s0 x6 := by unfold x6; exact kept_report _ _ _ _ h0
        clear_value x6
        extract_lets +onlyGivenNames -merge -useContext x7
        have h7 : Kept s0 x7 := by
          unfold x7
          split
          · exact kept_rebuildDeliver _ _ h6
          · exact h6
        clear_value x7
        refine Kept.foldl ?_ ?_
        · exact h7
        · intro y8 y9 hy8
          apply h1
          · exact hy8
      · extract_lets +onlyGivenNames -merge -useContext x10
        have h10 : Kept s0 x10 := by unfold x10; exact kept_suspect _ _ _ (kept_report _ _ _ _ h0)
        clear_value x10
        split
        · exact Kept.ite (kept_modCmd _ _ _ (kept_cmdFail _ _ _ _ h10)) (Kept.ite (Kept.upd h10 rfl rfl rfl rfl rfl rfl rfl) h10)
        · exact h10

theorem kept_execRebuildDone {s0 : State} (a0 : BitVec 32) (a1 : Fin 32) (a2 : RebuildResult) (a3 : State) (ha3 : Kept s0 a3) : KeptR s0 (execRebuildDone a0 a1 a2 a3) := by
  delta execRebuildDone
  exact KeptR.next (kept_rebuildDone _ _ _ _ ha3)

theorem kept_recoveryRewrite {s0 : State} (a0 : State) (ha0 : Kept s0 a0) : Kept s0 (State.recoveryRewrite a0) := by
  delta State.recoveryRewrite
  split
  · exact ha0
  · extract_lets +onlyGivenNames -merge -useContext x0
    have h0 : Kept s0 x0 := by unfold x0; exact Kept.upd ha0 rfl rfl rfl rfl rfl rfl rfl
    clear_value x0
    extract_lets +onlyGivenNames -merge -useContext x1
    try clear_value x1
    extract_lets +onlyGivenNames -merge -useContext x2
    try clear_value x2
    extract_lets +onlyGivenNames -merge -useContext x3
    try clear_value x3
    refine Kept.ite ?_ ?_
    · exact kept_pailsFree _ _ h0
    · extract_lets +onlyGivenNames -merge -useContext x4
      have h4 : Kept s0 x4.1 := by unfold x4; exact kept_newStamp _ h0
      clear_value x4
      extract_lets +onlyGivenNames -merge -useContext x5
      have h5 : Kept s0 x5 := by unfold x5; exact h4
      clear_value x5
      extract_lets +onlyGivenNames -merge -useContext x6
      try clear_value x6
      split
      · exact h5
      · extract_lets +onlyGivenNames -merge -useContext x7
        try clear_value x7
        exact Kept.upd h5 rfl rfl rfl rfl rfl rfl rfl

theorem kept_execRecoveryRewrite {s0 : State} (a0 : State) (ha0 : Kept s0 a0) : KeptR s0 (execRecoveryRewrite a0) := by
  delta execRecoveryRewrite
  exact KeptR.next (Kept.ite ha0 (kept_recoveryRewrite _ ha0))

theorem kept_surfaceOut {s0 : State} (a0 : State) (a1 : Nat) (ha0 : Kept s0 a0) : Kept s0 (State.surfaceOut a0 a1) := by
  delta State.surfaceOut
  extract_lets +onlyGivenNames -merge -useContext x0
  have h0 : Kept s0 x0 := by unfold x0; exact Kept.upd ha0 rfl rfl rfl rfl rfl rfl rfl
  clear_value x0
  extract_lets +onlyGivenNames -merge -useContext x1
  try clear_value x1
  exact kept_report _ _ _ _ (kept_inhibits _ _ _ _ h0)

theorem kept_reassign {s0 : State} (a0 : State) (a1 : SecCmd) (ha0 : Kept s0 a0) : Kept s0 (State.reassign a0 a1) := by
  delta State.reassign
  split
  · exact ha0
  · split
    · exact ha0
    · split
      · exact kept_surfaceOut _ _ ha0
      · extract_lets +onlyGivenNames -merge -useContext x0
        have h0 : Kept s0 x0.1 := by unfold x0; exact kept_newStamp _ ha0
        clear_value x0
        extract_lets +onlyGivenNames -merge -useContext x1
        have h1 : Kept s0 x1 := by unfold x1; exact h0
        clear_value x1
        extract_lets +onlyGivenNames -merge -useContext x2
        have h2 : Kept s0 x2 := by unfold x2; exact Kept.upd h1 rfl rfl rfl rfl rfl rfl rfl
        clear_value x2
        extract_lets +onlyGivenNames -merge -useContext x3
        have h3 : Kept s0 x3 := by
          unfold x3
          split
          · exact Kept.upd h2 rfl rfl rfl rfl rfl rfl rfl
          · exact h2
        clear_value x3
        exact Kept.ite (kept_report _ _ _ _ h3) h3

theorem kept_verifyRead {s0 : State} (a0 : State) (a1 : Nat) (ha0 : Kept s0 a0) : Kept s0 (State.verifyRead a0 a1) := by
  delta State.verifyRead
  split
  · exact ha0
  · extract_lets +onlyGivenNames -merge -useContext x0
    have h0 : Kept s0 x0 := by unfold x0; exact Kept.upd ha0 rfl rfl rfl rfl rfl rfl rfl
    clear_value x0
    exact Kept.ite (kept_reassign _ _ h0) (kept_pailsFree _ _ h0)

theorem kept_execVerifyRead {s0 : State} (a0 : BitVec 8) (a1 : State) (ha1 : Kept s0 a1) : KeptR s0 (execVerifyRead a0 a1) := by
  delta execVerifyRead
  exact KeptR.next (kept_verifyRead _ _ ha1)

theorem kept_mediaScrub {s0 : State} (a0 : State) (a1 : Nat) (a2 : Nat) (ha0 : Kept s0 a0) : Kept s0 (State.mediaScrub a0 a1 a2) := by
  delta State.mediaScrub
  extract_lets +onlyGivenNames -merge -useContext x0
  try clear_value x0
  extract_lets +onlyGivenNames -merge -useContext x1
  have h1 : Kept s0 x1 := by unfold x1; exact Kept.ite (kept_startUpdate _ _ _ _ ha0) ha0
  clear_value x1
  refine Kept.foldl ?_ ?_
  · exact h1
  · intro y2 y3 hy2
    split
    · exact Kept.upd hy2 rfl rfl rfl rfl rfl rfl rfl
    · exact hy2

theorem kept_execMediaScrub {s0 : State} (a0 : BitVec 32) (a1 : Fin 16) (a2 : State) (ha2 : Kept s0 a2) : KeptR s0 (execMediaScrub a0 a1 a2) := by
  delta execMediaScrub
  exact KeptR.next (Kept.ite ha2 (kept_mediaScrub _ _ _ ha2))

theorem kept_captureDone {s0 : State} (a0 : State) (a1 : Nat) (ha0 : Kept s0 a0) : Kept s0 (State.captureDone a0 a1) := by
  delta State.captureDone
  split
  · exact ha0
  · extract_lets +onlyGivenNames -merge -useContext x0
    try clear_value x0
    extract_lets +onlyGivenNames -merge -useContext x1
    try clear_value x1
    extract_lets +onlyGivenNames -merge -useContext x2
    try clear_value x2
    extract_lets +onlyGivenNames -merge -useContext x3
    try clear_value x3
    extract_lets +onlyGivenNames -merge -useContext x4
    have h4 : Kept s0 x4 := by unfold x4; exact Kept.upd ha0 rfl rfl rfl rfl rfl rfl rfl
    clear_value x4
    extract_lets +onlyGivenNames -merge -useContext x5
    have h5 : Kept s0 x5 := by unfold x5; exact kept_wf _ _ _ _ _ h4
    clear_value x5
    extract_lets +onlyGivenNames -merge -useContext x6
    have h6 : Kept s0 x6 := by unfold x6; exact Kept.ite (kept_wf _ _ _ _ _ h5) h5
    clear_value x6
    exact kept_freeRec _ _ _ h6

theorem kept_execCaptureDone {s0 : State} (a0 : Chan) (a1 : State) (ha1 : Kept s0 a1) : KeptR s0 (execCaptureDone a0 a1) := by
  delta execCaptureDone
  exact KeptR.next (kept_captureDone _ _ ha1)

theorem kept_capNext {s0 : State} (a0 : State) (ha0 : Kept s0 a0) : Kept s0 (State.capNext a0) := by
  delta State.capNext
  exact kept_wb _ _ _ _ _ ha0

theorem kept_execCapNext {s0 : State} (a0 : State) (ha0 : Kept s0 a0) : KeptR s0 (execCapNext a0) := by
  delta execCapNext
  exact KeptR.next (kept_capNext _ ha0)

theorem kept_replayEnd {s0 : State} (a0 : State) (a1 : Nat) (ha0 : Kept s0 a0) : Kept s0 (State.replayEnd a0 a1) := by
  delta State.replayEnd
  extract_lets +onlyGivenNames -merge -useContext x0
  have h0 : Kept s0 x0 := by unfold x0; exact kept_wf _ _ _ _ _ (kept_wf _ _ _ _ _ ha0)
  clear_value x0
  exact kept_modHf _ _ _ (kept_modCh _ _ _ h0)

theorem kept_setStep {s0 : State} (a0 : State) (a1 : Nat) (a2 : Nat) (a3 : Nat) (ha0 : Kept s0 a0) : Kept s0 (State.setStep a0 a1 a2 a3) := by
  delta State.setStep
  exact Kept.upd ha0 rfl rfl rfl rfl rfl rfl rfl

theorem kept_replayNext {s0 : State} (a0 : State) (a1 : Nat) (ha0 : Kept s0 a0) : Kept s0 (State.replayNext a0 a1) := by
  induction a1 generalizing a0 with
  | zero => exact kept_replayEnd _ _ ha0
  | succ n ih =>
    simp only [State.replayNext]
    split
    · exact kept_replayEnd _ _ ha0
    · split
      · exact ih _ (kept_setStep _ _ _ _ (Kept.upd ha0 rfl rfl rfl rfl rfl rfl rfl))
      · exact kept_laneReq _ _ (kept_modSlot _ _ _ _ (Kept.upd ha0 rfl rfl rfl rfl rfl rfl rfl))

theorem kept_replayStart {s0 : State} (a0 : State) (ha0 : Kept s0 a0) : Kept s0 (State.replayStart a0) := by
  delta State.replayStart
  refine Kept.ite ?_ ?_
  · exact ha0
  · extract_lets +onlyGivenNames -merge -useContext x0
    try clear_value x0
    extract_lets +onlyGivenNames -merge -useContext x1
    try clear_value x1
    extract_lets +onlyGivenNames -merge -useContext x2
    have h2 : Kept s0 x2 := by unfold x2; exact Kept.upd ha0 rfl rfl rfl rfl rfl rfl rfl
    clear_value x2
    refine Kept.ite ?_ ?_
    · exact kept_replayEnd _ _ h2
    · split
      · exact kept_replayEnd _ _ h2
      · refine Kept.ite ?_ ?_
        · exact kept_replayEnd _ _ h2
        · extract_lets +onlyGivenNames -merge -useContext x3
          try clear_value x3
          extract_lets +onlyGivenNames -merge -useContext x4
          try clear_value x4
          extract_lets +onlyGivenNames -merge -useContext x5
          have h5 : Kept s0 x5 := by unfold x5; exact Kept.upd h2 rfl rfl rfl rfl rfl rfl rfl
          clear_value x5
          extract_lets +onlyGivenNames -merge -useContext x6
          have h6 : Kept s0 x6 := by unfold x6; exact kept_wf _ _ _ _ _ (kept_wf _ _ _ _ _ h5)
          clear_value x6
          extract_lets +onlyGivenNames -merge -useContext x7
          try clear_value x7
          extract_lets +onlyGivenNames -merge -useContext x8
          have h8 : Kept s0 x8 := by unfold x8; exact kept_modSlot _ _ _ _ h6
          clear_value x8
          exact kept_replayNext _ _ h8

theorem kept_execReplayStart {s0 : State} (a0 : State) (ha0 : Kept s0 a0) : KeptR s0 (execReplayStart a0) := by
  delta execReplayStart
  exact KeptR.next (kept_replayStart _ ha0)

theorem kept_replayAbort {s0 : State} (a0 : State) (ha0 : Kept s0 a0) : Kept s0 (State.replayAbort a0) := by
  delta State.replayAbort
  refine Kept.ite ?_ ?_
  · exact ha0
  · extract_lets +onlyGivenNames -merge -useContext x0
    try clear_value x0
    exact Kept.ite (Kept.upd ha0 rfl rfl rfl rfl rfl rfl rfl) (kept_replayEnd _ _ ha0)

theorem kept_execReplayAbort {s0 : State} (a0 : State) (ha0 : Kept s0 a0) : KeptR s0 (execReplayAbort a0) := by
  delta execReplayAbort
  exact KeptR.next (kept_replayAbort _ ha0)

theorem kept_replayStep {s0 : State} (a0 : State) (ha0 : Kept s0 a0) : Kept s0 (State.replayStep a0) := by
  delta State.replayStep
  split
  · refine Kept.ite ?_ ?_
    · exact ha0
    · extract_lets +onlyGivenNames -merge -useContext x0
      have h0 : Kept s0 x0 := by unfold x0; exact kept_setStep _ _ _ _ ha0
      clear_value x0
      extract_lets +onlyGivenNames -merge -useContext x1
      have h1 : Kept s0 x1 := by unfold x1; exact kept_modSlot _ _ _ _ h0
      clear_value x1
      extract_lets +onlyGivenNames -merge -useContext x2
      try clear_value x2
      extract_lets +onlyGivenNames -merge -useContext x3
      try clear_value x3
      extract_lets +onlyGivenNames -merge -useContext x4
      have h4 : Kept s0 x4 := by unfold x4; exact Kept.upd h1 rfl rfl rfl rfl rfl rfl rfl
      clear_value x4
      exact Kept.ite (kept_replayEnd _ _ h4) (kept_replayNext _ _ h4)
  · exact ha0

theorem kept_execReplayStepDone {s0 : State} (a0 : State) (ha0 : Kept s0 a0) : KeptR s0 (execReplayStepDone a0) := by
  delta execReplayStepDone
  exact KeptR.next (kept_replayStep _ ha0)

end Sys2Proof.Machine
end

