-- ==== Sys2Proof/Laws/KeptPails.lean ====
section
/-! SUPPORT. Laws/KeptPails.lean: the operations of Machine/Pails.lean answer states that have been kept (Safety.lean). -/

namespace Sys2Proof.Machine
open Sys2Proof

theorem kept_pailAnswer {s0 : State} (a0 : State) (a1 : Nat) (a2 : Nat) (a3 : Nat) (ha0 : Kept s0 a0) : Kept s0 (State.pailAnswer a0 a1 a2 a3) := by
  delta State.pailAnswer
  exact kept_emit _ _ ha0

theorem kept_zeroFill {s0 : State} (a0 : State) (a1 : Nat) (a2 : Nat) (a3 : Nat) (ha0 : Kept s0 a0) : Kept s0 (State.zeroFill a0 a1 a2 a3) := by
  delta State.zeroFill
  split
  · exact ha0
  · extract_lets +onlyGivenNames -merge -useContext x0
    try clear_value x0
    extract_lets +onlyGivenNames -merge -useContext x1
    try clear_value x1
    extract_lets +onlyGivenNames -merge -useContext x2
    have h2 : Kept s0 x2 := by
      unfold x2
      refine Kept.foldl ?_ ?_
      · exact ha0
      · intro y3 y4 hy3
        exact kept_clearBlock _ _ hy3
    clear_value x2
    exact kept_modCmd _ _ _ h2

theorem kept_pailGrant {s0 : State} (a0 : State) (a1 : Nat) (a2 : Nat) (ha0 : Kept s0 a0) : Kept s0 (State.pailGrant a0 a1 a2) := by
  delta State.pailGrant
  extract_lets +onlyGivenNames -merge -useContext x0
  have h0 : Kept s0 x0.1 := by unfold x0; exact kept_pailTake _ _ ha0
  clear_value x0
  extract_lets +onlyGivenNames -merge -useContext x1
  have h1 : Kept s0 x1 := by unfold x1; exact kept_pailAnswer _ _ _ _ h0
  clear_value x1
  refine Kept.ite ?_ ?_
  · split
    · extract_lets +onlyGivenNames -merge -useContext x2
      try clear_value x2
      extract_lets +onlyGivenNames -merge -useContext x3
      try clear_value x3
      extract_lets +onlyGivenNames -merge -useContext x4
      have h4 : Kept s0 x4 := by unfold x4; exact kept_modHf _ _ _ h1
      clear_value x4
      exact kept_storeFree _ _ _ _ h4
    · exact kept_pailDrop _ _ h1
  · refine Kept.ite ?_ ?_
    · split
      · exact kept_zeroFill _ _ _ _ h1
      · exact h1
    · exact h1

theorem kept_pailCycle {s0 : State} (a0 : State) (a1 : Nat) (ha0 : Kept s0 a0) : Kept s0 (State.pailCycle a0 a1) := by
  delta State.pailCycle
  extract_lets +onlyGivenNames -merge -useContext x0
  have h0 : ∀ y1 y2, (Kept s0 y1) → Kept s0 (x0 y1 y2) := by
    intro y1 y2 hy1
    unfold x0
    refine Kept.foldl ?_ ?_
    · exact kept_modPool _ _ _ hy1
    · intro y3 y4 hy3
      exact kept_pailAnswer _ _ _ _ (kept_countEmpty _ _ hy3)
  clear_value x0
  split
  · exact ha0
  · refine Kept.ite ?_ ?_
    · apply h0
      · exact ha0
    · extract_lets +onlyGivenNames -merge -useContext x5
      have h5 : Kept s0 x5 := by unfold x5; exact kept_pailGrant _ _ _ (kept_modPool _ _ _ ha0)
      clear_value x5
      refine Kept.ite ?_ ?_
      · apply h0
        · exact h5
      · exact h5

theorem kept_drawFailed {s0 : State} (a0 : State) (a1 : Nat) (a2 : Nat) (ha0 : Kept s0 a0) : Kept s0 (State.drawFailed a0 a1 a2) := by
  delta State.drawFailed
  split
  · exact ha0
  · extract_lets +onlyGivenNames -merge -useContext x0
    have h0 : Kept s0 x0 := by unfold x0; exact kept_storeFree _ _ _ _ ha0
    clear_value x0
    split
    · exact kept_modCmd _ _ _ (kept_cmdFail _ _ _ _ h0)
    · exact kept_rebuildMore _ _ _ h0
    · exact h0

theorem kept_noPool {s0 : State} (a0 : State) (a1 : Nat) (a2 : Nat) (ha0 : Kept s0 a0) : Kept s0 (State.noPool a0 a1 a2) := by
  delta State.noPool
  extract_lets +onlyGivenNames -merge -useContext x0
  have h0 : Kept s0 x0 := by unfold x0; exact kept_pailAnswer _ _ _ _ (kept_report _ _ _ _ ha0)
  clear_value x0
  exact Kept.ite (kept_drawFailed _ _ _ h0) h0

theorem kept_pailRequest {s0 : State} (a0 : State) (a1 : Nat) (a2 : List Nat) (ha0 : Kept s0 a0) : Kept s0 (State.pailRequest a0 a1 a2) := by
  delta State.pailRequest
  extract_lets +onlyGivenNames -merge -useContext x0
  try clear_value x0
  refine Kept.ite ?_ ?_
  · refine Kept.foldl ?_ ?_
    · exact ha0
    · intro y1 y2 hy1
      exact kept_noPool _ _ _ hy1
  · exact kept_pailCycle _ _ (kept_modPool _ _ _ ha0)

theorem kept_execPailRequest {s0 : State} (a0 : Fin 16) (a1 : List (Fin 39)) (a2 : State) (ha2 : Kept s0 a2) : KeptR s0 (execPailRequest a0 a1 a2) := by
  delta execPailRequest
  exact KeptR.next (kept_pailRequest _ _ _ ha2)

theorem kept_pailErr {s0 : State} (a0 : State) (a1 : Nat) (a2 : Nat) (a3 : Nat) (ha0 : Kept s0 a0) : Kept s0 (State.pailErr a0 a1 a2 a3) := by
  delta State.pailErr
  extract_lets +onlyGivenNames -merge -useContext x0
  try clear_value x0
  exact kept_wf _ _ _ _ _ (kept_wf _ _ _ _ _ (kept_cnt _ _ _ _ _ ha0))

theorem kept_pailRelease {s0 : State} (a0 : State) (a1 : Nat) (a2 : Nat) (a3 : Nat) (ha0 : Kept s0 a0) : Kept s0 (State.pailRelease a0 a1 a2 a3) := by
  delta State.pailRelease
  extract_lets +onlyGivenNames -merge -useContext x0
  try clear_value x0
  extract_lets +onlyGivenNames -merge -useContext x1
  try clear_value x1
  extract_lets +onlyGivenNames -merge -useContext x2
  have h2 : ∀ y3 y4, (Kept s0 y3) → Kept s0 (x2 y3 y4) := by
    intro y3 y4 hy3
    unfold x2
    exact kept_pailAnswer _ _ _ _ (kept_pailErr _ _ _ _ (kept_report _ _ _ _ hy3))
  clear_value x2
  refine Kept.ite ?_ ?_
  · exact kept_pailAnswer _ _ _ _ (kept_report _ _ _ _ ha0)
  · refine Kept.ite ?_ ?_
    · apply h2
      · exact ha0
    · refine Kept.ite ?_ ?_
      · apply h2
        · exact ha0
      · refine Kept.ite ?_ ?_
        · apply h2
          · exact ha0
        · exact kept_pailDrop _ _ ha0

theorem kept_execPailRelease {s0 : State} (a0 : Fin 16) (a1 : Fin 39) (a2 : BitVec 64) (a3 : State) (ha3 : Kept s0 a3) : KeptR s0 (execPailRelease a0 a1 a2 a3) := by
  delta execPailRelease
  exact KeptR.next (kept_pailRelease _ _ _ _ ha3)

theorem kept_returnReserved {s0 : State} (a0 : State) (a1 : Cmd) (ha0 : Kept s0 a0) : Kept s0 (State.returnReserved a0 a1) := by
  delta State.returnReserved
  exact Kept.ite ha0 (kept_poolRose _ _ (kept_modPool _ _ _ ha0))

theorem kept_pailDraw {s0 : State} (a0 : State) (a1 : Nat) (ha0 : Kept s0 a0) : Kept s0 (State.pailDraw a0 a1) := by
  delta State.pailDraw
  split
  · exact ha0
  · extract_lets +onlyGivenNames -merge -useContext x0
    try clear_value x0
    refine Kept.ite ?_ ?_
    · exact ha0
    · extract_lets +onlyGivenNames -merge -useContext x1
      have h1 : Kept s0 x1 := by unfold x1; exact kept_modPool _ _ _ ha0
      clear_value x1
      extract_lets +onlyGivenNames -merge -useContext x2
      have h2 : Kept s0 x2.1 := by unfold x2; exact kept_pailTake _ _ h1
      clear_value x2
      extract_lets +onlyGivenNames -merge -useContext x3
      try clear_value x3
      extract_lets +onlyGivenNames -merge -useContext x4
      have h4 : Kept s0 x4 := by unfold x4; exact kept_modCmd _ _ _ h2
      clear_value x4
      extract_lets +onlyGivenNames -merge -useContext x5
      try clear_value x5
      extract_lets +onlyGivenNames -merge -useContext x6
      try clear_value x6
      exact Kept.ite (kept_queueDesc _ _ _ h4) (kept_readAdvance _ h4)

theorem kept_execPailDraw {s0 : State} (a0 : BitVec 64) (a1 : State) (ha1 : Kept s0 a1) : KeptR s0 (execPailDraw a0 a1) := by
  delta execPailDraw
  exact KeptR.next (kept_pailDraw _ _ ha1)

theorem kept_execPailRerequest {s0 : State} (a0 : Chan) (a1 : State) (ha1 : Kept s0 a1) : KeptR s0 (execPailRerequest a0 a1) := by
  delta execPailRerequest
  split
  · exact KeptR.next (kept_pailRequest _ _ _ ha1)
  · exact KeptR.next ha1

theorem kept_execPailWaitExpiry {s0 : State} (a0 : Chan) (a1 : State) (ha1 : Kept s0 a1) : KeptR s0 (execPailWaitExpiry a0 a1) := by
  delta execPailWaitExpiry
  split
  · exact KeptR.next (kept_requeue _ _ (kept_storeFree _ _ _ _ ha1))
  · exact KeptR.next ha1

theorem kept_pailMinClr {s0 : State} (a0 : State) (a1 : Nat) (ha0 : Kept s0 a0) : Kept s0 (State.pailMinClr a0 a1) := by
  delta State.pailMinClr
  exact kept_modPool _ _ _ ha0

theorem kept_execPailMinClr {s0 : State} (a0 : Fin 16) (a1 : State) (ha1 : Kept s0 a1) : KeptR s0 (execPailMinClr a0 a1) := by
  delta execPailMinClr
  exact KeptR.next (kept_pailMinClr _ _ ha1)

end Sys2Proof.Machine
end

