-- ==== Sys2Proof/Laws/KeptDma.lean ====
section
/-! SUPPORT. Laws/KeptDma.lean: the operations of Machine/Dma.lean answer states that have been kept (Safety.lean). -/

namespace Sys2Proof.Machine
open Sys2Proof

theorem kept_descOf {s0 : State} (a0 : State) (a1 : Nat) (a2 : List Byte) (ha0 : Kept s0 a0) : Kept s0 (State.descOf a0 a1 a2).1 := by
  delta State.descOf
  extract_lets +onlyGivenNames -merge -useContext x0
  try clear_value x0
  extract_lets +onlyGivenNames -merge -useContext x1
  try clear_value x1
  extract_lets +onlyGivenNames -merge -useContext x2
  try clear_value x2
  extract_lets +onlyGivenNames -merge -useContext x3
  try clear_value x3
  extract_lets +onlyGivenNames -merge -useContext x4
  try clear_value x4
  extract_lets +onlyGivenNames -merge -useContext x5
  try clear_value x5
  extract_lets +onlyGivenNames -merge -useContext x6
  try clear_value x6
  extract_lets +onlyGivenNames -merge -useContext x7
  try clear_value x7
  extract_lets +onlyGivenNames -merge -useContext x8
  try clear_value x8
  extract_lets +onlyGivenNames -merge -useContext x9
  try clear_value x9
  extract_lets +onlyGivenNames -merge -useContext x10
  have h10 : Kept s0 x10.1 := by
    unfold x10
    refine Kept.ite1 ?_ ?_
    · refine Kept.foldl1 ?_ ?_
      · exact Kept.mk1 ha0
      · intro y11 y12 hy11
        extract_lets +onlyGivenNames -merge -useContext x13
        have h13 : Kept s0 x13.1 := by unfold x13; exact kept_bufRead _ _ _ hy11
        clear_value x13
        split
        · exact Kept.mk1 h13
        · exact Kept.mk1 h13
    · exact Kept.mk1 ha0
  clear_value x10
  exact Kept.mk1 h10

theorem kept_modPrt {s0 : State} (a0 : State) (a1 : Nat) (a2 : Port → Port) (ha0 : Kept s0 a0) : Kept s0 (State.modPrt a0 a1 a2) := by
  delta State.modPrt
  exact Kept.upd ha0 rfl rfl rfl rfl rfl rfl rfl

theorem kept_descEnd {s0 : State} (a0 : State) (a1 : Nat) (a2 : RunDesc) (ha0 : Kept s0 a0) : Kept s0 (State.descEnd a0 a1 a2) := by
  delta State.descEnd
  extract_lets +onlyGivenNames -merge -useContext x0
  try clear_value x0
  extract_lets +onlyGivenNames -merge -useContext x1
  have h1 : Kept s0 x1 := by unfold x1; exact kept_modDc _ _ _ ha0
  clear_value x1
  extract_lets +onlyGivenNames -merge -useContext x2
  have h2 : Kept s0 x2 := by unfold x2; exact kept_setPtr _ _ _ _ _ _ h1
  clear_value x2
  extract_lets +onlyGivenNames -merge -useContext x3
  have h3 : Kept s0 x3 := by unfold x3; exact kept_modEn _ _ _ h2
  clear_value x3
  extract_lets +onlyGivenNames -merge -useContext x4
  try clear_value x4
  extract_lets +onlyGivenNames -merge -useContext x5
  have h5 : Kept s0 x5 := by unfold x5; exact Kept.upd h3 rfl rfl rfl rfl rfl rfl rfl
  clear_value x5
  extract_lets +onlyGivenNames -merge -useContext x6
  try clear_value x6
  extract_lets +onlyGivenNames -merge -useContext x7
  have h7 : Kept s0 x7 := by unfold x7; exact Kept.upd h5 rfl rfl rfl rfl rfl rfl rfl
  clear_value x7
  extract_lets +onlyGivenNames -merge -useContext x8
  have h8 : Kept s0 x8 := by unfold x8; exact Kept.ite h7 (kept_setCh _ _ _ h7)
  clear_value x8
  exact kept_chEnter _ _ h8

theorem kept_descFail {s0 : State} (a0 : State) (a1 : Nat) (a2 : RunDesc) (a3 : Nat) (a4 : Nat) (a5 : Nat) (a6 : Nat) (ha0 : Kept s0 a0) : Kept s0 (State.descFail a0 a1 a2 a3 a4 a5 a6) := by
  delta State.descFail
  exact kept_descEnd _ _ _ ha0

theorem kept_descStart {s0 : State} (a0 : State) (a1 : Nat) (ha0 : Kept s0 a0) : Kept s0 (State.descStart a0 a1) := by
  delta State.descStart
  refine Kept.ite ?_ ?_
  · exact ha0
  · split
    · exact ha0
    · extract_lets +onlyGivenNames -merge -useContext x0
      have h0 : Kept s0 x0 := by unfold x0; exact kept_modEn _ _ _ ha0
      clear_value x0
      split
      · exact kept_setCh _ _ _ (kept_modEn _ _ _ h0)
      · refine Kept.ite ?_ ?_
        · exact h0
        · refine Kept.ite ?_ ?_
          · exact kept_setCh _ _ _ h0
          · extract_lets +onlyGivenNames -merge -useContext x1
            try clear_value x1
            extract_lets +onlyGivenNames -merge -useContext x2
            have h2 : Kept s0 x2.1 := by unfold x2; exact kept_bufRead _ _ _ h0
            clear_value x2
            extract_lets +onlyGivenNames -merge -useContext x3
            have h3 : Kept s0 x3.1 := by
              unfold x3
              refine Kept.ite1 ?_ ?_
              · exact Kept.mk1 (kept_modDc _ _ _ h0)
              · split
                · exact kept_descOf _ _ _ h2
                · exact Kept.mk1 h2
            clear_value x3
            extract_lets +onlyGivenNames -merge -useContext x4
            have h4 : Kept s0 x4 := by unfold x4; exact h3
            clear_value x4
            extract_lets +onlyGivenNames -merge -useContext x5
            try clear_value x5
            extract_lets +onlyGivenNames -merge -useContext x6
            try clear_value x6
            extract_lets +onlyGivenNames -merge -useContext x7
            have h7 : Kept s0 x7 := by unfold x7; exact kept_setCh _ _ _ (kept_modEn _ _ _ h4)
            clear_value x7
            extract_lets +onlyGivenNames -merge -useContext x8
            have h8 : Kept s0 x8 := by unfold x8; exact kept_modDc _ _ _ h7
            clear_value x8
            exact Kept.ite (kept_descEnd _ _ _ h8) (Kept.ite (kept_descFail _ _ _ _ _ _ _ h8) (Kept.ite (kept_descFail _ _ _ _ _ _ _ h8) h8))

theorem kept_execDescStart {s0 : State} (a0 : Fin 4) (a1 : State) (ha1 : Kept s0 a1) : KeptR s0 (execDescStart a0 a1) := by
  delta execDescStart
  exact KeptR.next (kept_descStart _ _ ha1)

theorem kept_atcPut {s0 : State} (a0 : State) (a1 : AtcEnt) (ha0 : Kept s0 a0) : Kept s0 (State.atcPut a0 a1) := by
  delta State.atcPut
  extract_lets +onlyGivenNames -merge -useContext x0
  try clear_value x0
  extract_lets +onlyGivenNames -merge -useContext x1
  try clear_value x1
  extract_lets +onlyGivenNames -merge -useContext x2
  try clear_value x2
  extract_lets +onlyGivenNames -merge -useContext x3
  try clear_value x3
  extract_lets +onlyGivenNames -merge -useContext x4
  try clear_value x4
  extract_lets +onlyGivenNames -merge -useContext x5
  try clear_value x5
  exact Kept.upd ha0 rfl rfl rfl rfl rfl rfl rfl

theorem kept_translate {s0 : State} (a0 : State) (a1 : Nat) (a2 : Option Nat) (a3 : Nat) (a4 : Bool) (ha0 : Kept s0 a0) : Kept s0 (State.translate a0 a1 a2 a3 a4).1 := by
  delta State.translate
  extract_lets +onlyGivenNames -merge -useContext x0
  try clear_value x0
  extract_lets +onlyGivenNames -merge -useContext x1
  try clear_value x1
  refine Kept.ite1 ?_ ?_
  · exact Kept.mk1 ha0
  · refine Kept.ite1 ?_ ?_
    · exact Kept.mk1 ha0
    · extract_lets +onlyGivenNames -merge -useContext x2
      try clear_value x2
      split
      · exact Kept.mk1 ha0
      · exact Kept.ite1 (Kept.mk1 ha0) (Kept.mk1 (kept_emit _ _ (Kept.upd ha0 rfl rfl rfl rfl rfl rfl rfl)))

theorem kept_burstIssued {s0 : State} (a0 : State) (a1 : Nat) (a2 : RunDesc) (a3 : Nat) (a4 : Bool) (ha0 : Kept s0 a0) : Kept s0 (State.burstIssued a0 a1 a2 a3 a4) := by
  delta State.burstIssued
  extract_lets +onlyGivenNames -merge -useContext x0
  try clear_value x0
  extract_lets +onlyGivenNames -merge -useContext x1
  have h1 : Kept s0 x1 := by unfold x1; exact kept_modDc _ _ _ ha0
  clear_value x1
  refine Kept.ite ?_ ?_
  · extract_lets +onlyGivenNames -merge -useContext x2
    have h2 : Kept s0 x2 := by
      unfold x2
      split
      · exact kept_modCmd _ _ _ h1
      · exact h1
    clear_value x2
    exact kept_descEnd _ _ _ h2
  · exact h1

theorem kept_burstIssue {s0 : State} (a0 : State) (a1 : Nat) (ha0 : Kept s0 a0) : Kept s0 (State.burstIssue a0 a1) := by
  delta State.burstIssue
  split
  · exact ha0
  · split
    · exact ha0
    · split
      · exact ha0
      · refine Kept.ite ?_ ?_
        · exact Kept.ite (kept_descFail _ _ _ _ _ _ _ ha0) (kept_descFail _ _ _ _ _ _ _ ha0)
        · refine Kept.ite ?_ ?_
          · extract_lets +onlyGivenNames -merge -useContext x0
            have h0 : Kept s0 x0.1 := by unfold x0; exact kept_bufRead _ _ _ ha0
            clear_value x0
            split
            · exact kept_descFail _ _ _ _ _ _ _ h0
            · extract_lets +onlyGivenNames -merge -useContext x1
              have h1 : Kept s0 x1.1 := by unfold x1; exact kept_bufWrite _ _ _ h0
              clear_value x1
              exact Kept.ite (kept_descFail _ _ _ _ _ _ _ h1) (kept_burstIssued _ _ _ _ _ h1)
          · refine Kept.ite ?_ ?_
            · exact ha0
            · extract_lets +onlyGivenNames -merge -useContext x2
              have h2 : Kept s0 x2.1 := by unfold x2; exact kept_translate _ _ _ _ _ ha0
              clear_value x2
              split
              · exact h2
              · exact kept_descFail _ _ _ _ _ _ _ h2
              · refine Kept.ite ?_ ?_
                · extract_lets +onlyGivenNames -merge -useContext x3
                  have h3 : Kept s0 x3.1 := by unfold x3; exact kept_bufRead _ _ _ h2
                  clear_value x3
                  split
                  · exact kept_descFail _ _ _ _ _ _ _ h3
                  · exact kept_burstIssued _ _ _ _ _ (kept_emit _ _ h3)
                · exact kept_burstIssued _ _ _ _ _ (kept_emit _ _ (kept_cnt _ _ _ _ _ h2))

theorem kept_execBurstIssue {s0 : State} (a0 : Fin 4) (a1 : State) (ha1 : Kept s0 a1) : KeptR s0 (execBurstIssue a0 a1) := by
  delta execBurstIssue
  exact KeptR.next (kept_burstIssue _ _ ha1)

theorem kept_invalSend {s0 : State} (a0 : State) (ha0 : Kept s0 a0) : Kept s0 (State.invalSend a0) := by
  delta State.invalSend
  extract_lets +onlyGivenNames -merge -useContext x0
  try clear_value x0
  refine Kept.foldl ?_ ?_
  · exact Kept.upd ha0 rfl rfl rfl rfl rfl rfl rfl
  · intro y1 y2 hy1
    exact kept_emit _ _ hy1

theorem kept_burstComplete {s0 : State} (a0 : State) (a1 : Nat) (a2 : Nat) (a3 : CplAns) (ha0 : Kept s0 a0) : Kept s0 (State.burstComplete a0 a1 a2 a3) := by
  delta State.burstComplete
  extract_lets +onlyGivenNames -merge -useContext x0
  try clear_value x0
  split
  · exact ha0
  · extract_lets +onlyGivenNames -merge -useContext x1
    try clear_value x1
    extract_lets +onlyGivenNames -merge -useContext x2
    try clear_value x2
    extract_lets +onlyGivenNames -merge -useContext x3
    have h3 : Kept s0 x3 := by unfold x3; exact kept_wf _ _ _ _ _ ha0
    clear_value x3
    extract_lets +onlyGivenNames -merge -useContext x4
    try clear_value x4
    extract_lets +onlyGivenNames -merge -useContext x5
    have h5 : Kept s0 x5.1 := by
      unfold x5
      split
      · extract_lets +onlyGivenNames -merge -useContext x6
        have h6 : Kept s0 x6.1 := by unfold x6; exact kept_bufWrite _ _ _ h3
        clear_value x6
        exact Kept.mk1 h6
      · exact Kept.mk1 h3
      · exact Kept.mk1 h3
      · exact Kept.mk1 h3
      · exact Kept.mk1 h3
    clear_value x5
    extract_lets +onlyGivenNames -merge -useContext x7
    try clear_value x7
    extract_lets +onlyGivenNames -merge -useContext x8
    try clear_value x8
    extract_lets +onlyGivenNames -merge -useContext x9
    have h9 : Kept s0 x9 := by unfold x9; exact h5
    clear_value x9
    extract_lets +onlyGivenNames -merge -useContext x10
    have h10 : Kept s0 x10 := by unfold x10; exact kept_modDc _ _ _ h9
    clear_value x10
    extract_lets +onlyGivenNames -merge -useContext x11
    have h11 : Kept s0 x11 := by unfold x11; exact Kept.ite (Kept.ite (kept_descEnd _ _ _ h10) h10) (kept_modDc _ _ _ h9)
    clear_value x11
    exact kept_invalSend _ h11

theorem kept_execBurstComplete {s0 : State} (a0 : Fin 4) (a1 : Fin 16) (a2 : BitVec 32) (a3 : CplAns) (a4 : State) (ha4 : Kept s0 a4) : KeptR s0 (execBurstComplete a0 a1 a2 a3 a4) := by
  delta execBurstComplete
  exact KeptR.next (kept_burstComplete _ _ _ _ ha4)

theorem kept_ownerRecord {s0 : State} (a0 : State) (a1 : RunDesc) (ha0 : Kept s0 a0) : Kept s0 (State.ownerRecord a0 a1) := by
  delta State.ownerRecord
  split
  · exact ha0
  · extract_lets +onlyGivenNames -merge -useContext x0
    try clear_value x0
    extract_lets +onlyGivenNames -merge -useContext x1
    try clear_value x1
    extract_lets +onlyGivenNames -merge -useContext x2
    have h2 : Kept s0 x2 := by unfold x2; exact Kept.ite (kept_cmdFail _ _ _ _ ha0) ha0
    clear_value x2
    extract_lets +onlyGivenNames -merge -useContext x3
    have h3 : Kept s0 x3 := by unfold x3; exact kept_modCmd _ _ _ h2
    clear_value x3
    exact kept_objDurable _ h3

theorem kept_recordWrite {s0 : State} (a0 : State) (a1 : Nat) (a2 : Bool) (ha0 : Kept s0 a0) : Kept s0 (State.recordWrite a0 a1 a2) := by
  delta State.recordWrite
  split
  · exact ha0
  · extract_lets +onlyGivenNames -merge -useContext x0
    try clear_value x0
    extract_lets +onlyGivenNames -merge -useContext x1
    try clear_value x1
    refine Kept.ite ?_ ?_
    · exact ha0
    · refine Kept.ite ?_ ?_
      · exact kept_report _ _ _ _ (kept_modEn _ _ _ (kept_modDc _ _ _ (kept_setCh _ _ _ ha0)))
      · extract_lets +onlyGivenNames -merge -useContext x2
        try clear_value x2
        extract_lets +onlyGivenNames -merge -useContext x3
        try clear_value x3
        extract_lets +onlyGivenNames -merge -useContext x4
        have h4 : Kept s0 x4 := by unfold x4; exact kept_modDc _ _ _ ha0
        clear_value x4
        extract_lets +onlyGivenNames -merge -useContext x5
        have h5 : Kept s0 x5 := by unfold x5; exact Kept.ite h4 (kept_bufWrite _ _ _ h4)
        clear_value x5
        extract_lets +onlyGivenNames -merge -useContext x6
        have h6 : Kept s0 x6 := by unfold x6; exact kept_setPtr _ _ _ _ _ _ h5
        clear_value x6
        extract_lets +onlyGivenNames -merge -useContext x7
        have h7 : Kept s0 x7 := by unfold x7; exact Kept.ite (kept_ownerRecord _ _ (kept_setPtr _ _ _ _ _ _ h6)) h6
        clear_value x7
        extract_lets +onlyGivenNames -merge -useContext x8
        try clear_value x8
        extract_lets +onlyGivenNames -merge -useContext x9
        have h9 : Kept s0 x9 := by unfold x9; exact Kept.ite (kept_wbit _ _ _ _ _ _ h7) h7
        clear_value x9
        extract_lets +onlyGivenNames -merge -useContext x10
        have h10 : Kept s0 x10 := by unfold x10; exact Kept.ite (kept_cnt _ _ _ _ _ h9) (Kept.ite (kept_cnt _ _ _ _ _ h9) (Kept.ite (kept_cnt _ _ _ _ _ h9) h9))
        clear_value x10
        extract_lets +onlyGivenNames -merge -useContext x11
        have h11 : Kept s0 x11 := by unfold x11; exact Kept.ite (kept_report _ _ _ _ h10) h10
        clear_value x11
        extract_lets +onlyGivenNames -merge -useContext x12
        have h12 : Kept s0 x12 := by unfold x12; exact Kept.ite (kept_wb _ _ _ _ _ (kept_wf _ _ _ _ _ h11)) h11
        clear_value x12
        exact kept_chEnter _ _ h12

theorem kept_execRecordWrite {s0 : State} (a0 : Fin 4) (a1 : Fin 16) (a2 : Bool) (a3 : State) (ha3 : Kept s0 a3) : KeptR s0 (execRecordWrite a0 a1 a2 a3) := by
  delta execRecordWrite
  exact KeptR.next (kept_recordWrite _ _ _ ha3)

theorem kept_dqDoorbell {s0 : State} (a0 : State) (a1 : Nat) (a2 : Nat) (a3 : Nat) (ha0 : Kept s0 a0) : Kept s0 (State.dqDoorbell a0 a1 a2 a3) := by
  delta State.dqDoorbell
  exact Kept.ite ha0 (kept_chEnter _ _ (kept_wf _ _ _ _ _ (kept_wf _ _ _ _ _ ha0)))

theorem kept_execChDqDoorbell {s0 : State} (a0 : Fin 4) (a1 : Fin 16) (a2 : Word) (a3 : State) (ha3 : Kept s0 a3) : KeptR s0 (execChDqDoorbell a0 a1 a2 a3) := by
  delta execChDqDoorbell
  exact KeptR.next (kept_dqDoorbell _ _ _ _ ha3)

theorem kept_cqHeadWrite {s0 : State} (a0 : State) (a1 : Nat) (a2 : Nat) (a3 : Nat) (ha0 : Kept s0 a0) : Kept s0 (State.cqHeadWrite a0 a1 a2 a3) := by
  delta State.cqHeadWrite
  exact Kept.ite ha0 (kept_chEnter _ _ (kept_wf _ _ _ _ _ (kept_wf _ _ _ _ _ ha0)))

theorem kept_execChCqHeadWrite {s0 : State} (a0 : Fin 4) (a1 : Fin 16) (a2 : Word) (a3 : State) (ha3 : Kept s0 a3) : KeptR s0 (execChCqHeadWrite a0 a1 a2 a3) := by
  delta execChCqHeadWrite
  exact KeptR.next (kept_cqHeadWrite _ _ _ _ ha3)

theorem kept_chZero {s0 : State} (a0 : State) (a1 : Nat) (ha0 : Kept s0 a0) : Kept s0 (State.chZero a0 a1) := by
  delta State.chZero
  exact kept_setPtr _ _ _ _ _ _ (kept_setPtr _ _ _ _ _ _ (kept_setPtr _ _ _ _ _ _ (kept_setPtr _ _ _ _ _ _ ha0)))

theorem kept_chEnable {s0 : State} (a0 : State) (a1 : Nat) (a2 : Nat) (a3 : Bool) (ha0 : Kept s0 a0) : Kept s0 (State.chEnable a0 a1 a2 a3) := by
  delta State.chEnable
  extract_lets +onlyGivenNames -merge -useContext x0
  try clear_value x0
  refine Kept.ite ?_ ?_
  · exact ha0
  · refine Kept.ite ?_ ?_
    · exact Kept.ite (kept_chEnter _ _ (kept_modDc _ _ _ (kept_setCh _ _ _ ha0))) (Kept.ite (kept_chEnter _ _ (kept_setCh _ _ _ (kept_wb _ _ _ _ _ (kept_chZero _ _ ha0)))) ha0)
    · extract_lets +onlyGivenNames -merge -useContext x1
      have h1 : Kept s0 x1 := by unfold x1; exact kept_wb _ _ _ _ _ ha0
      clear_value x1
      extract_lets +onlyGivenNames -merge -useContext x2
      have h2 : Kept s0 x2 := by unfold x2; exact kept_modEn _ _ _ h1
      clear_value x2
      extract_lets +onlyGivenNames -merge -useContext x3
      have h3 : Kept s0 x3 := by
        unfold x3
        split
        · exact kept_descEnd _ _ _ h2
        · exact h2
      clear_value x3
      exact kept_setCh _ _ _ (kept_modDc _ _ _ h3)

theorem kept_execChEnable {s0 : State} (a0 : Fin 4) (a1 : Fin 16) (a2 : Bool) (a3 : State) (ha3 : Kept s0 a3) : KeptR s0 (execChEnable a0 a1 a2 a3) := by
  delta execChEnable
  exact KeptR.next (kept_chEnable _ _ _ _ ha3)

theorem kept_execDeEnableWrite {s0 : State} (a0 : Fin 4) (a1 : Bool) (a2 : State) (ha2 : Kept s0 a2) : KeptR s0 (execDeEnableWrite a0 a1 a2) := by
  delta execDeEnableWrite
  exact KeptR.next (kept_wb _ _ _ _ _ ha2)

theorem kept_descAbort {s0 : State} (a0 : State) (a1 : Nat) (a2 : Nat) (ha0 : Kept s0 a0) : Kept s0 (State.descAbort a0 a1 a2).1 := by
  delta State.descAbort
  extract_lets +onlyGivenNames -merge -useContext x0
  try clear_value x0
  refine Kept.ite1 ?_ ?_
  · exact Kept.mk1 (kept_modDc _ _ _ ha0)
  · split
    · exact Kept.ite1 (Kept.mk1 (kept_descEnd _ _ _ ha0)) (Kept.ite1 (Kept.mk1 (kept_modDc _ _ _ ha0)) (Kept.mk1 ha0))
    · exact Kept.ite1 (Kept.mk1 (kept_modDc _ _ _ ha0)) (Kept.mk1 ha0)

theorem kept_deAbort {s0 : State} (a0 : State) (a1 : Nat) (ha0 : Kept s0 a0) : Kept s0 (State.deAbort a0 a1) := by
  delta State.deAbort
  extract_lets +onlyGivenNames -merge -useContext x0
  try clear_value x0
  refine Kept.ite ?_ ?_
  · exact ha0
  · extract_lets +onlyGivenNames -merge -useContext x1
    have h1 : Kept s0 x1.1 := by unfold x1; exact kept_descAbort _ _ _ ha0
    clear_value x1
    exact Kept.ite (kept_wb _ _ _ _ _ (kept_wf _ _ _ _ _ h1)) (kept_wf _ _ _ _ _ h1)

theorem kept_execDeAbortGo {s0 : State} (a0 : Fin 4) (a1 : State) (ha1 : Kept s0 a1) : KeptR s0 (execDeAbortGo a0 a1) := by
  delta execDeAbortGo
  exact KeptR.next (kept_deAbort _ _ ha1)

theorem kept_execInternalDescAbort {s0 : State} (a0 : List (Fin 64 × BitVec 12)) (a1 : State) (ha1 : Kept s0 a1) : KeptR s0 (execInternalDescAbort a0 a1) := by
  delta execInternalDescAbort
  refine KeptR.next ?_
  refine Kept.foldl ?_ ?_
  · exact ha1
  · intro y0 y1 hy0
    exact Kept.ite (kept_descAbort _ _ _ hy0) hy0

theorem kept_abortDescs {s0 : State} (a0 : State) (a1 : Nat) (ha0 : Kept s0 a0) : Kept s0 (State.abortDescs a0 a1) := by
  delta State.abortDescs
  refine Kept.foldl ?_ ?_
  · exact ha0
  · intro y0 y1 hy0
    extract_lets +onlyGivenNames -merge -useContext x2
    try clear_value x2
    extract_lets +onlyGivenNames -merge -useContext x3
    try clear_value x3
    refine Kept.foldl ?_ ?_
    · exact hy0
    · intro y4 y5 hy4
      exact kept_descAbort _ _ _ hy4

theorem kept_priAsk {s0 : State} (a0 : State) (a1 : Nat) (a2 : Option Nat) (a3 : Nat) (a4 : Bool) (a5 : PriWho) (ha0 : Kept s0 a0) : Kept s0 (State.priAsk a0 a1 a2 a3 a4 a5) := by
  delta State.priAsk
  exact Kept.ite (Kept.upd ha0 rfl rfl rfl rfl rfl rfl rfl) (Kept.upd ha0 rfl rfl rfl rfl rfl rfl rfl)

theorem kept_refuse {s0 : State} (a0 : State) (a1 : Nat) (a2 : Nat) (a3 : RunDesc) (a4 : Nat) (ha0 : Kept s0 a0) : Kept s0 (State.refuse a0 a1 a2 a3 a4) := by
  delta State.refuse
  extract_lets +onlyGivenNames -merge -useContext x0
  try clear_value x0
  extract_lets +onlyGivenNames -merge -useContext x1
  try clear_value x1
  refine Kept.ite ?_ ?_
  · exact kept_descFail _ _ _ _ _ _ _ ha0
  · refine Kept.ite ?_ ?_
    · exact kept_descFail _ _ _ _ _ _ _ ha0
    · extract_lets +onlyGivenNames -merge -useContext x2
      try clear_value x2
      extract_lets +onlyGivenNames -merge -useContext x3
      have h3 : Kept s0 x3 := by unfold x3; exact kept_modDc _ _ _ ha0
      clear_value x3
      extract_lets +onlyGivenNames -merge -useContext x4
      have h4 : Kept s0 x4 := by unfold x4; exact kept_cnt _ _ _ _ _ (kept_setCh _ _ _ (kept_modEn _ _ _ h3))
      clear_value x4
      exact kept_priAsk _ _ _ _ _ _ h4

theorem kept_atsResponse {s0 : State} (a0 : State) (a1 : Nat) (a2 : Option Nat) (a3 : Nat) (a4 : AtsAns) (ha0 : Kept s0 a0) : Kept s0 (State.atsResponse a0 a1 a2 a3 a4) := by
  delta State.atsResponse
  refine Kept.ite ?_ ?_
  · exact ha0
  · extract_lets +onlyGivenNames -merge -useContext x0
    try clear_value x0
    extract_lets +onlyGivenNames -merge -useContext x1
    have h1 : Kept s0 x1 := by unfold x1; exact Kept.upd ha0 rfl rfl rfl rfl rfl rfl rfl
    clear_value x1
    extract_lets +onlyGivenNames -merge -useContext x2
    have h2 : Kept s0 x2 := by
      unfold x2
      split
      · exact kept_atcPut _ _ h1
      · exact h1
    clear_value x2
    refine Kept.foldl ?_ ?_
    · exact h2
    · intro y3 y4 hy3
      split
      · exact hy3
      · split
        · exact hy3
        · split
          · exact hy3
          · refine Kept.ite ?_ ?_
            · exact hy3
            · split
              · exact kept_descFail _ _ _ _ _ _ _ hy3
              · exact Kept.ite hy3 (kept_refuse _ _ _ _ _ hy3)

theorem kept_execAtsResponse {s0 : State} (a0 : Fin 2) (a1 : Option (BitVec 20)) (a2 : BitVec 52) (a3 : AtsAns) (a4 : State) (ha4 : Kept s0 a4) : KeptR s0 (execAtsResponse a0 a1 a2 a3 a4) := by
  delta execAtsResponse
  exact KeptR.next (kept_atsResponse _ _ _ _ _ ha4)

theorem kept_atsInvalidate {s0 : State} (a0 : State) (a1 : Nat) (a2 : Option Nat) (a3 : Nat) (a4 : Nat) (ha0 : Kept s0 a0) : Kept s0 (State.atsInvalidate a0 a1 a2 a3 a4) := by
  delta State.atsInvalidate
  extract_lets +onlyGivenNames -merge -useContext x0
  try clear_value x0
  exact kept_invalSend _ (Kept.upd ha0 rfl rfl rfl rfl rfl rfl rfl)

theorem kept_execAtsInvalidate {s0 : State} (a0 : Fin 2) (a1 : Option (BitVec 20)) (a2 : BitVec 52) (a3 : Fin 53) (a4 : State) (ha4 : Kept s0 a4) : KeptR s0 (execAtsInvalidate a0 a1 a2 a3 a4) := by
  delta execAtsInvalidate
  exact KeptR.next (kept_atsInvalidate _ _ _ _ _ ha4)

theorem kept_pageRequestSend {s0 : State} (a0 : State) (a1 : Nat) (ha0 : Kept s0 a0) : Kept s0 (State.pageRequestSend a0 a1) := by
  delta State.pageRequestSend
  extract_lets +onlyGivenNames -merge -useContext x0
  try clear_value x0
  split
  · exact ha0
  · refine Kept.ite ?_ ?_
    · exact ha0
    · extract_lets +onlyGivenNames -merge -useContext x1
      try clear_value x1
      extract_lets +onlyGivenNames -merge -useContext x2
      try clear_value x2
      extract_lets +onlyGivenNames -merge -useContext x3
      have h3 : Kept s0 x3 := by unfold x3; exact Kept.upd ha0 rfl rfl rfl rfl rfl rfl rfl
      clear_value x3
      exact kept_emit _ _ h3

theorem kept_execPageRequestSend {s0 : State} (a0 : Fin 2) (a1 : State) (ha1 : Kept s0 a1) : KeptR s0 (execPageRequestSend a0 a1) := by
  delta execPageRequestSend
  exact KeptR.next (kept_pageRequestSend _ _ ha1)

theorem kept_rejoin {s0 : State} (a0 : State) (a1 : List Nat) (ha0 : Kept s0 a0) : Kept s0 (State.rejoin a0 a1) := by
  delta State.rejoin
  extract_lets +onlyGivenNames -merge -useContext x0
  try clear_value x0
  extract_lets +onlyGivenNames -merge -useContext x1
  have h1 : Kept s0 x1 := by
    unfold x1
    refine Kept.foldl ?_ ?_
    · exact ha0
    · intro y2 y3 hy2
      exact kept_modEn _ _ _ hy2
  clear_value x1
  refine Kept.foldl ?_ ?_
  · exact h1
  · intro y4 y5 hy4
    exact kept_setCh _ _ _ hy4

theorem kept_priFail {s0 : State} (a0 : State) (a1 : Nat) (a2 : Nat) (ha0 : Kept s0 a0) : Kept s0 (State.priFail a0 a1 a2) := by
  delta State.priFail
  split
  · exact Kept.ite (kept_descFail _ _ _ _ _ _ _ ha0) ha0
  · exact ha0

theorem kept_chRestart {s0 : State} (a0 : State) (a1 : Nat) (ha0 : Kept s0 a0) : Kept s0 (State.chRestart a0 a1) := by
  delta State.chRestart
  extract_lets +onlyGivenNames -merge -useContext x0
  try clear_value x0
  extract_lets +onlyGivenNames -merge -useContext x1
  try clear_value x1
  extract_lets +onlyGivenNames -merge -useContext x2
  try clear_value x2
  extract_lets +onlyGivenNames -merge -useContext x3
  try clear_value x3
  extract_lets +onlyGivenNames -merge -useContext x4
  try clear_value x4
  extract_lets +onlyGivenNames -merge -useContext x5
  have h5 : Kept s0 x5 := by unfold x5; exact kept_modDc _ _ _ ha0
  clear_value x5
  extract_lets +onlyGivenNames -merge -useContext x6
  have h6 : Kept s0 x6 := by unfold x6; exact kept_setPtr _ _ _ _ _ _ h5
  clear_value x6
  extract_lets +onlyGivenNames -merge -useContext x7
  try clear_value x7
  extract_lets +onlyGivenNames -merge -useContext x8
  have h8 : Kept s0 x8 := by unfold x8; exact Kept.upd h6 rfl rfl rfl rfl rfl rfl rfl
  clear_value x8
  exact Kept.ite h8 (kept_setCh _ _ _ h8)

theorem kept_engineOut {s0 : State} (a0 : State) (a1 : Nat) (ha0 : Kept s0 a0) : Kept s0 (State.engineOut a0 a1) := by
  delta State.engineOut
  exact kept_wf _ _ _ _ _ (kept_modEn _ _ _ ha0)

theorem kept_engineFault {s0 : State} (a0 : State) (a1 : Nat) (a2 : Bool) (ha0 : Kept s0 a0) : Kept s0 (State.engineFault a0 a1 a2) := by
  delta State.engineFault
  exact Kept.ite (kept_report _ _ _ _ (kept_cnt _ _ _ _ _ ha0)) (Kept.ite ha0 (Kept.ite (kept_reportAs _ _ _ _ _ ha0) (kept_report _ _ _ _ (kept_engineOut _ _ ha0))))

theorem kept_execDmaEngineFault {s0 : State} (a0 : Fin 4) (a1 : Bool) (a2 : State) (ha2 : Kept s0 a2) : KeptR s0 (execDmaEngineFault a0 a1 a2) := by
  delta execDmaEngineFault
  exact KeptR.next (kept_engineFault _ _ _ ha2)

theorem kept_handover {s0 : State} (a0 : State) (a1 : Nat) (ha0 : Kept s0 a0) : Kept s0 (State.handover a0 a1) := by
  delta State.handover
  refine Kept.ite ?_ ?_
  · exact ha0
  · extract_lets +onlyGivenNames -merge -useContext x0
    try clear_value x0
    extract_lets +onlyGivenNames -merge -useContext x1
    try clear_value x1
    extract_lets +onlyGivenNames -merge -useContext x2
    have h2 : Kept s0 x2 := by unfold x2; exact kept_modEn _ _ _ ha0
    clear_value x2
    refine Kept.foldl ?_ ?_
    · exact h2
    · intro y3 y4 hy3
      exact kept_chEnter _ _ (kept_chRestart _ _ hy3)

theorem kept_execDmaEngineHandover {s0 : State} (a0 : Fin 4) (a1 : State) (ha1 : Kept s0 a1) : KeptR s0 (execDmaEngineHandover a0 a1) := by
  delta execDmaEngineHandover
  exact KeptR.next (kept_handover _ _ ha1)

theorem kept_dmaSetup {s0 : State} (a0 : State) (ha0 : Kept s0 a0) : Kept s0 (State.dmaSetup a0) := by
  delta State.dmaSetup
  refine Kept.foldl ?_ ?_
  · exact ha0
  · intro y0 y1 hy0
    refine Kept.foldl ?_ ?_
    · exact hy0
    · intro y2 y3 hy2
      exact kept_wf _ _ _ _ _ (kept_wb _ _ _ _ _ (kept_wf _ _ _ _ _ (kept_wf _ _ _ _ _ hy2)))

end Sys2Proof.Machine
end

