-- ==== Sys2Proof/Laws/KeptRegisters.lean ====
section
/-! SUPPORT. Laws/KeptRegisters.lean: the operations of Machine/Registers.lean answer states that have been kept (Safety.lean). -/

namespace Sys2Proof.Machine
open Sys2Proof

theorem kept_busError {s0 : State} (a0 : State) (a1 : Nat) (a2 : Nat) (a3 : Nat) (a4 : Bool) (ha0 : Kept s0 a0) : Kept s0 (State.busError a0 a1 a2 a3 a4) := by
  delta State.busError
  extract_lets +onlyGivenNames -merge -useContext x0
  have h0 : Kept s0 x0 := by unfold x0; exact Kept.ite (kept_wf _ _ _ _ _ (kept_wb _ _ _ _ _ (kept_wf _ _ _ _ _ (kept_wf _ _ _ _ _ ha0)))) ha0
  clear_value x0
  exact kept_report _ _ _ _ (kept_cnt _ _ _ _ _ h0)

theorem kept_zlPut {s0 : State} (a0 : State) (a1 : Nat) (a2 : Nat) (a3 : Nat) (a4 : List Byte) (ha0 : Kept s0 a0) : Kept s0 (State.zlPut a0 a1 a2 a3 a4) := by
  delta State.zlPut
  split
  · exact ha0
  · extract_lets +onlyGivenNames -merge -useContext x0
    try clear_value x0
    extract_lets +onlyGivenNames -merge -useContext x1
    try clear_value x1
    exact kept_emit _ _ (Kept.upd ha0 rfl rfl rfl rfl rfl rfl rfl)

theorem kept_hostData {s0 : State} (a0 : State) (a1 : Nat) (a2 : List Byte) (ha0 : Kept s0 a0) : Kept s0 (State.hostData a0 a1 a2) := by
  delta State.hostData
  refine Kept.foldl ?_ ?_
  · exact ha0
  · intro y0 y1 hy0
    extract_lets +onlyGivenNames -merge -useContext x2
    try clear_value x2
    extract_lets +onlyGivenNames -merge -useContext x3
    try clear_value x3
    exact kept_wf _ _ _ _ _ hy0

theorem kept_hostDone {s0 : State} (a0 : State) (a1 : Nat) (a2 : Nat) (a3 : List Byte) (ha0 : Kept s0 a0) : Kept s0 (State.hostDone a0 a1 a2 a3) := by
  delta State.hostDone
  exact kept_wb _ _ _ _ _ (kept_wb _ _ _ _ _ (kept_wb _ _ _ _ _ (kept_wf _ _ _ _ _ (kept_wf _ _ _ _ _ (kept_hostData _ _ _ ha0)))))

theorem kept_odReply {s0 : State} (a0 : State) (a1 : OdWho) (a2 : Nat) (a3 : List Byte) (ha0 : Kept s0 a0) : Kept s0 (State.odReply a0 a1 a2 a3) := by
  delta State.odReply
  split
  · exact kept_emit _ _ ha0
  · exact kept_hostDone _ _ _ _ (Kept.ite (kept_wf _ _ _ _ _ ha0) ha0)
  · exact kept_zlPut _ _ _ _ _ ha0

theorem kept_gatewayEnd {s0 : State} (a0 : State) (a1 : Nat) (a2 : Nat) (ha0 : Kept s0 a0) : Kept s0 (State.gatewayEnd a0 a1 a2) := by
  delta State.gatewayEnd
  split
  · exact ha0
  · exact kept_odReply _ _ _ _ (Kept.upd ha0 rfl rfl rfl rfl rfl rfl rfl)

theorem kept_busReply {s0 : State} (a0 : State) (a1 : Nat) (a2 : Nat) (a3 : Bool) (ha0 : Kept s0 a0) : Kept s0 (State.busReply a0 a1 a2 a3) := by
  delta State.busReply
  exact Kept.ite (Kept.ite ha0 (kept_emit _ _ ha0)) (Kept.ite (kept_gatewayEnd _ _ _ ha0) (Kept.ite (kept_emit _ _ ha0) (kept_emit _ _ ha0)))

theorem kept_clearRc {s0 : State} (a0 : State) (a1 : List (Fld × Nat × Nat)) (ha0 : Kept s0 a0) : Kept s0 (State.clearRc a0 a1) := by
  delta State.clearRc
  refine Kept.foldl ?_ ?_
  · exact ha0
  · intro y0 y1 hy0
    exact Kept.ite (kept_wf _ _ _ _ _ hy0) hy0

theorem kept_regRead {s0 : State} (a0 : State) (a1 : Nat) (a2 : Nat) (a3 : Nat) (ha0 : Kept s0 a0) : Kept s0 (State.regRead a0 a1 a2 a3).st := by
  delta State.regRead
  split
  · show Kept s0 _
    exact ha0
  · split
    · show Kept s0 _
      exact ha0
    · split
      · show Kept s0 _
        exact ha0
      · show Kept s0 _
        exact kept_clearRc _ _ ha0
    · split
      · show Kept s0 _
        exact ha0
      · show Kept s0 _
        exact ha0
    · split
      · show Kept s0 _
        exact ha0
      · show Kept s0 _
        exact ha0
    · split
      · show Kept s0 _
        exact ha0
      · show Kept s0 _
        exact ha0
    · split
      · show Kept s0 _
        exact ha0
      · split
        · show Kept s0 _
          exact ha0
        · show Kept s0 _
          exact kept_clearRc _ _ ha0

theorem kept_writeFld {s0 : State} (a0 : State) (a1 : Fld) (a2 : Nat) (a3 : Nat) (a4 : Nat) (a5 : Nat) (ha0 : Kept s0 a0) : Kept s0 (State.writeFld a0 a1 a2 a3 a4 a5) := by
  delta State.writeFld
  extract_lets +onlyGivenNames -merge -useContext x0
  try clear_value x0
  extract_lets +onlyGivenNames -merge -useContext x1
  try clear_value x1
  extract_lets +onlyGivenNames -merge -useContext x2
  try clear_value x2
  extract_lets +onlyGivenNames -merge -useContext x3
  try clear_value x3
  split
  · exact kept_wf _ _ _ _ _ ha0
  · exact kept_wf _ _ _ _ _ ha0
  · exact Kept.ite ha0 (kept_wf _ _ _ _ _ ha0)
  · exact kept_wf _ _ _ _ _ ha0
  · exact ha0
  · exact ha0
  · exact ha0
  · exact ha0

theorem kept_ctlWrite {s0 : State} (a0 : State) (a1 : Nat) (a2 : Nat) (a3 : Nat) (a4 : Nat) (ha0 : Kept s0 a0) : Kept s0 (State.ctlWrite a0 a1 a2 a3 a4) := by
  delta State.ctlWrite
  refine Kept.foldl ?_ ?_
  · exact ha0
  · intro y0 y1 hy0
    exact kept_writeFld _ _ _ _ _ _ hy0

theorem kept_regWrite {s0 : State} (a0 : State) (a1 : Nat) (a2 : Nat) (a3 : Nat) (a4 : Nat) (ha0 : Kept s0 a0) : Kept s0 (State.regWrite a0 a1 a2 a3 a4).st := by
  delta State.regWrite
  split
  · show Kept s0 _
    exact ha0
  · split
    · show Kept s0 _
      exact ha0
    · show Kept s0 _
      exact ha0
    · split
      · show Kept s0 _
        exact ha0
      · split
        · show Kept s0 _
          exact ha0
        · split
          · show Kept s0 _
            exact ha0
          · show Kept s0 _
            exact kept_ctlWrite _ _ _ _ _ ha0
    · split
      · show Kept s0 _
        exact ha0
      · split
        · show Kept s0 _
          exact ha0
        · split
          · show Kept s0 _
            exact ha0
          · show Kept s0 _
            exact kept_ctlWrite _ _ _ _ _ ha0
    · split
      · show Kept s0 _
        exact ha0
      · split
        · show Kept s0 _
          exact ha0
        · show Kept s0 _
          exact ha0
    · split
      · show Kept s0 _
        exact ha0
      · split
        · show Kept s0 _
          exact ha0
        · split
          · show Kept s0 _
            exact ha0
          · extract_lets +onlyGivenNames -merge -useContext x0
            try clear_value x0
            split
            · show Kept s0 _
              exact ha0
            · show Kept s0 _
              refine Kept.foldl ?_ ?_
              · exact ha0
              · intro y1 y2 hy1
                exact Kept.ite hy1 (kept_writeFld _ _ _ _ _ _ hy1)

theorem kept_endWrite {s0 : State} (a0 : State) (a1 : Nat) (a2 : Nat) (a3 : Nat) (a4 : Answer18) (ha0 : Kept s0 a0) (ha4 : Kept s0 a4.st) : Kept s0 (State.endWrite a0 a1 a2 a3 a4) := by
  delta State.endWrite
  refine Kept.ite ?_ ?_
  · exact Kept.upd ha0 rfl rfl rfl rfl rfl rfl rfl
  · refine Kept.ite ?_ ?_
    · exact kept_busReply _ _ _ _ (kept_busError _ _ _ _ _ ha0)
    · refine Kept.ite ?_ ?_
      · with_reducible apply kept_gatewayEnd
        · exact ha4
      · exact ha4

theorem kept_endRead {s0 : State} (a0 : State) (a1 : Nat) (a2 : Nat) (a3 : Answer18) (ha0 : Kept s0 a0) (ha3 : Kept s0 a3.st) : Kept s0 (State.endRead a0 a1 a2 a3) := by
  delta State.endRead
  refine Kept.ite ?_ ?_
  · exact Kept.upd ha0 rfl rfl rfl rfl rfl rfl rfl
  · refine Kept.ite ?_ ?_
    · exact kept_busReply _ _ _ _ (kept_busError _ _ _ _ _ ha0)
    · refine Kept.ite ?_ ?_
      · with_reducible apply kept_gatewayEnd
        · exact ha3
      · with_reducible apply kept_emit
        · exact ha3

end Sys2Proof.Machine
end

