-- ==== Sys2Proof/Laws/KeptMailbox.lean ====
section
/-! SUPPORT. Laws/KeptMailbox.lean: the operations of Machine/Mailbox.lean answer states that have been kept (Safety.lean). -/

namespace Sys2Proof.Machine
open Sys2Proof

theorem kept_execRegisterAccessTimeout {s0 : State} (a0 : Fin 8) (a1 : State) (ha1 : Kept s0 a1) : KeptR s0 (execRegisterAccessTimeout a0 a1) := by
  delta execRegisterAccessTimeout
  split
  · exact KeptR.next ha1
  · extract_lets +onlyGivenNames -merge -useContext x0
    have h0 : Kept s0 x0 := by unfold x0; exact Kept.upd ha1 rfl rfl rfl rfl rfl rfl rfl
    clear_value x0
    exact KeptR.next (kept_busReply _ _ _ _ (kept_busError _ _ _ _ _ h0))

theorem kept_execBitAliasWrite {s0 : State} (a0 : Fin 8) (a1 : Fin 5) (a2 : BitVec 13) (a3 : Fin 32) (a4 : Word) (a5 : State) (ha5 : Kept s0 a5) : KeptR s0 (execBitAliasWrite a0 a1 a2 a3 a4 a5) := by
  delta execBitAliasWrite
  extract_lets +onlyGivenNames -merge -useContext x0
  try clear_value x0
  exact KeptR.next (kept_endWrite _ _ _ _ _ ha5 (kept_regWrite _ _ _ _ _ ha5))

theorem kept_execMaskedWrite {s0 : State} (a0 : Fin 8) (a1 : Fin 5) (a2 : BitVec 13) (a3 : Fin 2) (a4 : Word) (a5 : State) (ha5 : Kept s0 a5) : KeptR s0 (execMaskedWrite a0 a1 a2 a3 a4 a5) := by
  delta execMaskedWrite
  extract_lets +onlyGivenNames -merge -useContext x0
  try clear_value x0
  exact KeptR.next (kept_endWrite _ _ _ _ _ ha5 (kept_regWrite _ _ _ _ _ ha5))

theorem kept_setMbxData {s0 : State} (a0 : State) (a1 : Nat) (a2 : Nat) (ha0 : Kept s0 a0) : Kept s0 (State.setMbxData a0 a1 a2) := by
  delta State.setMbxData
  exact kept_wf _ _ _ _ _ (kept_wf _ _ _ _ _ (kept_wf _ _ _ _ _ (kept_wf _ _ _ _ _ ha0)))

theorem kept_mbxGo {s0 : State} (a0 : State) (a1 : Nat) (a2 : Bool) (ha0 : Kept s0 a0) : Kept s0 (State.mbxGo a0 a1 a2) := by
  delta State.mbxGo
  refine Kept.ite ?_ ?_
  · exact ha0
  · extract_lets +onlyGivenNames -merge -useContext x0
    try clear_value x0
    extract_lets +onlyGivenNames -merge -useContext x1
    try clear_value x1
    extract_lets +onlyGivenNames -merge -useContext x2
    try clear_value x2
    extract_lets +onlyGivenNames -merge -useContext x3
    have h3 : Kept s0 x3 := by unfold x3; exact kept_wf _ _ _ _ _ (kept_wb _ _ _ _ _ (kept_wb _ _ _ _ _ ha0))
    clear_value x3
    exact Kept.ite h3 (Kept.ite (Kept.upd h3 rfl rfl rfl rfl rfl rfl rfl) (kept_wb _ _ _ _ _ (kept_setMbxData _ _ _ h3)))

theorem kept_execMbxGo {s0 : State} (a0 : Fin 8) (a1 : Bool) (a2 : State) (ha2 : Kept s0 a2) : KeptR s0 (execMbxGo a0 a1 a2) := by
  delta execMbxGo
  exact KeptR.next (kept_mbxGo _ _ _ ha2)

theorem kept_commitGo {s0 : State} (a0 : State) (a1 : Nat) (ha0 : Kept s0 a0) : Kept s0 (State.commitGo a0 a1) := by
  delta State.commitGo
  refine Kept.ite ?_ ?_
  · exact ha0
  · extract_lets +onlyGivenNames -merge -useContext x0
    have h0 : Kept s0 x0 := by unfold x0; exact kept_wb _ _ _ _ _ (kept_wb _ _ _ _ _ (kept_wb _ _ _ _ _ (kept_wb _ _ _ _ _ (kept_wf _ _ _ _ _ (kept_wf _ _ _ _ _ ha0)))))
    clear_value x0
    exact Kept.upd h0 rfl rfl rfl rfl rfl rfl rfl

theorem kept_execCfgCommitGo {s0 : State} (a0 : Fin 8) (a1 : State) (ha1 : Kept s0 a1) : KeptR s0 (execCfgCommitGo a0 a1) := by
  delta execCfgCommitGo
  exact KeptR.next (kept_commitGo _ _ ha1)

theorem kept_commitGoBoot {s0 : State} (a0 : State) (ha0 : Kept s0 a0) : Kept s0 (State.commitGoBoot a0) := by
  delta State.commitGoBoot
  refine Kept.ite ?_ ?_
  · exact ha0
  · extract_lets +onlyGivenNames -merge -useContext x0
    have h0 : Kept s0 x0 := by unfold x0; exact kept_wb _ _ _ _ _ (kept_commitGo _ _ ha0)
    clear_value x0
    exact Kept.upd h0 rfl rfl rfl rfl rfl rfl rfl

theorem kept_commitRefuse {s0 : State} (a0 : State) (a1 : Nat) (a2 : Nat) (a3 : Nat) (a4 : Bool) (ha0 : Kept s0 a0) : Kept s0 (State.commitRefuse a0 a1 a2 a3 a4) := by
  delta State.commitRefuse
  extract_lets +onlyGivenNames -merge -useContext x0
  have h0 : Kept s0 x0 := by unfold x0; exact kept_wf _ _ _ _ _ (kept_wb _ _ _ _ _ (kept_wf _ _ _ _ _ (kept_wb _ _ _ _ _ (kept_wb _ _ _ _ _ ha0))))
  clear_value x0
  extract_lets +onlyGivenNames -merge -useContext x1
  have h1 : Kept s0 x1 := by unfold x1; exact Kept.upd h0 rfl rfl rfl rfl rfl rfl rfl
  clear_value x1
  refine Kept.ite ?_ ?_
  · extract_lets +onlyGivenNames -merge -useContext x2
    have h2 : Kept s0 x2 := by unfold x2; exact kept_setMode _ _ h1
    clear_value x2
    exact Kept.upd h2 rfl rfl rfl rfl rfl rfl rfl
  · exact h1

theorem kept_commitPass {s0 : State} (a0 : State) (ha0 : Kept s0 a0) : Kept s0 (State.commitPass a0) := by
  delta State.commitPass
  extract_lets +onlyGivenNames -merge -useContext x0
  have h0 : Kept s0 x0 := by unfold x0; exact kept_release _ ha0
  clear_value x0
  extract_lets +onlyGivenNames -merge -useContext x1
  have h1 : Kept s0 x1 := by unfold x1; exact kept_wf _ _ _ _ _ (kept_wf _ _ _ _ _ (kept_wf _ _ _ _ _ h0))
  clear_value x1
  extract_lets +onlyGivenNames -merge -useContext x2
  have h2 : Kept s0 x2 := by unfold x2; exact kept_setAdmission _ _ h1
  clear_value x2
  exact Kept.upd h2 rfl rfl rfl rfl rfl rfl rfl

theorem kept_commitChecked {s0 : State} (a0 : State) (ha0 : Kept s0 a0) : Kept s0 (State.commitChecked a0) := by
  delta State.commitChecked
  refine Kept.ite ?_ ?_
  · exact ha0
  · extract_lets +onlyGivenNames -merge -useContext x0
    have h0 : Kept s0 x0 := by unfold x0; exact kept_wf _ _ _ _ _ ha0
    clear_value x0
    refine Kept.ite ?_ ?_
    · exact kept_commitRefuse _ _ _ _ _ h0
    · split
      · exact kept_commitRefuse _ _ _ _ _ (kept_setAdmission _ _ h0)
      · exact kept_commitRefuse _ _ _ _ _ h0
      · exact kept_commitPass _ h0

theorem kept_execCfgChecksDone {s0 : State} (a0 : State) (ha0 : Kept s0 a0) : KeptR s0 (execCfgChecksDone a0) := by
  delta execCfgChecksDone
  exact KeptR.next (kept_commitChecked _ ha0)

theorem kept_commitStored {s0 : State} (a0 : State) (ha0 : Kept s0 a0) : Kept s0 (State.commitStored a0) := by
  delta State.commitStored
  exact Kept.ite (kept_wf _ _ _ _ _ (kept_wb _ _ _ _ _ (kept_saveStore _ ha0))) ha0

theorem kept_execCfgMramWritten {s0 : State} (a0 : State) (ha0 : Kept s0 a0) : KeptR s0 (execCfgMramWritten a0) := by
  delta execCfgMramWritten
  exact KeptR.next (kept_commitStored _ ha0)

theorem kept_execCfgDiscard {s0 : State} (a0 : Fin 8) (a1 : State) (ha1 : Kept s0 a1) : KeptR s0 (execCfgDiscard a0 a1) := by
  delta execCfgDiscard
  exact KeptR.next (Kept.ite ha1 (kept_discard _ ha1))

end Sys2Proof.Machine
end

