-- ==== Sys2Proof/Laws/KeptRecorder.lean ====
section
/-! SUPPORT. Laws/KeptRecorder.lean: the operations of Machine/Recorder.lean answer states that have been kept (Safety.lean). -/

namespace Sys2Proof.Machine
open Sys2Proof

theorem kept_execRecorderFlush {s0 : State} (a0 : State) (ha0 : Kept s0 a0) : KeptR s0 (execRecorderFlush a0) := by
  delta execRecorderFlush
  refine KeptR.ite ?_ ?_
  · extract_lets +onlyGivenNames -merge -useContext x0
    have h0 : Kept s0 x0 := by unfold x0; exact kept_wb _ _ _ _ _ ha0
    clear_value x0
    exact KeptR.next (Kept.upd h0 rfl rfl rfl rfl rfl rfl rfl)
  · exact KeptR.next ha0

theorem kept_execFlushTimer {s0 : State} (a0 : State) (ha0 : Kept s0 a0) : KeptR s0 (execFlushTimer a0) := by
  delta execFlushTimer
  exact KeptR.next (kept_startFlush _ (Kept.upd ha0 rfl rfl rfl rfl rfl rfl rfl))

theorem kept_rcFlush {s0 : State} (a0 : State) (ha0 : Kept s0 a0) : Kept s0 (State.rcFlush a0) := by
  delta State.rcFlush
  exact kept_startFlush _ (kept_wb _ _ _ _ _ ha0)

theorem kept_execRcFlush {s0 : State} (a0 : State) (ha0 : Kept s0 a0) : KeptR s0 (execRcFlush a0) := by
  delta execRcFlush
  exact KeptR.next (kept_rcFlush _ ha0)

theorem kept_endFreeze {s0 : State} (a0 : State) (ha0 : Kept s0 a0) : Kept s0 (State.endFreeze a0) := by
  delta State.endFreeze
  exact Kept.ite ha0 (kept_startFlush _ (kept_mark _ _ _ (Kept.upd ha0 rfl rfl rfl rfl rfl rfl rfl)))

theorem kept_rcFreeze {s0 : State} (a0 : State) (ha0 : Kept s0 a0) : Kept s0 (State.rcFreeze a0) := by
  delta State.rcFreeze
  exact Kept.ite (Kept.upd ha0 rfl rfl rfl rfl rfl rfl rfl) ha0

theorem kept_execRcFreeze {s0 : State} (a0 : State) (ha0 : Kept s0 a0) : KeptR s0 (execRcFreeze a0) := by
  delta execRcFreeze
  exact KeptR.next (kept_rcFreeze _ ha0)

theorem kept_execRcThaw {s0 : State} (a0 : State) (ha0 : Kept s0 a0) : KeptR s0 (execRcThaw a0) := by
  delta execRcThaw
  exact KeptR.next (kept_endFreeze _ ha0)

theorem kept_execFreezeLimitExpiry {s0 : State} (a0 : State) (ha0 : Kept s0 a0) : KeptR s0 (execFreezeLimitExpiry a0) := by
  delta execFreezeLimitExpiry
  exact KeptR.next (kept_endFreeze _ ha0)

theorem kept_queueEvents {s0 : State} (a0 : State) (a1 : Rec) (ha0 : Kept s0 a0) : Kept s0 (State.queueEvents a0 a1) := by
  delta State.queueEvents
  exact Kept.upd ha0 rfl rfl rfl rfl rfl rfl rfl

theorem kept_stage {s0 : State} (a0 : State) (a1 : Rec) (ha0 : Kept s0 a0) : Kept s0 (State.stage a0 a1) := by
  delta State.stage
  refine Kept.ite ?_ ?_
  · exact kept_cnt _ _ _ _ _ (Kept.upd ha0 rfl rfl rfl rfl rfl rfl rfl)
  · refine Kept.ite ?_ ?_
    · exact kept_cnt _ _ _ _ _ (Kept.upd ha0 rfl rfl rfl rfl rfl rfl rfl)
    · extract_lets +onlyGivenNames -merge -useContext x0
      try clear_value x0
      extract_lets +onlyGivenNames -merge -useContext x1
      try clear_value x1
      extract_lets +onlyGivenNames -merge -useContext x2
      try clear_value x2
      extract_lets +onlyGivenNames -merge -useContext x3
      have h3 : Kept s0 x3 := by unfold x3; exact Kept.upd ha0 rfl rfl rfl rfl rfl rfl rfl
      clear_value x3
      extract_lets +onlyGivenNames -merge -useContext x4
      have h4 : Kept s0 x4 := by unfold x4; exact kept_queueEvents _ _ h3
      clear_value x4
      exact Kept.ite (kept_startFlush _ (kept_endFreeze _ h4)) (Kept.ite (kept_startFlush _ h4) h4)

theorem kept_execRecordStage {s0 : State} (a0 : State) (ha0 : Kept s0 a0) : KeptR s0 (execRecordStage a0) := by
  delta execRecordStage
  split
  · exact KeptR.next ha0
  · extract_lets +onlyGivenNames -merge -useContext x0
    try clear_value x0
    extract_lets +onlyGivenNames -merge -useContext x1
    have h1 : Kept s0 x1 := by unfold x1; exact kept_stage _ _ (Kept.upd ha0 rfl rfl rfl rfl rfl rfl rfl)
    clear_value x1
    exact KeptR.next (Kept.ite (kept_closeChip _ h1) h1)

theorem kept_rcClear {s0 : State} (a0 : State) (ha0 : Kept s0 a0) : Kept s0 (State.rcClear a0) := by
  delta State.rcClear
  refine Kept.ite ?_ ?_
  · exact ha0
  · extract_lets +onlyGivenNames -merge -useContext x0
    try clear_value x0
    extract_lets +onlyGivenNames -merge -useContext x1
    try clear_value x1
    extract_lets +onlyGivenNames -merge -useContext x2
    try clear_value x2
    extract_lets +onlyGivenNames -merge -useContext x3
    try clear_value x3
    extract_lets +onlyGivenNames -merge -useContext x4
    try clear_value x4
    extract_lets +onlyGivenNames -merge -useContext x5
    try clear_value x5
    exact Kept.upd ha0 rfl rfl rfl rfl rfl rfl rfl

theorem kept_execRcClear {s0 : State} (a0 : State) (ha0 : Kept s0 a0) : KeptR s0 (execRcClear a0) := by
  delta execRcClear
  exact KeptR.next (kept_rcClear _ ha0)

theorem kept_rcRead {s0 : State} (a0 : State) (a1 : Nat) (a2 : Bool) (ha0 : Kept s0 a0) : Kept s0 (State.rcRead a0 a1 a2) := by
  delta State.rcRead
  split
  · exact kept_wf _ _ _ _ _ ha0
  · extract_lets +onlyGivenNames -merge -useContext x0
    try clear_value x0
    extract_lets +onlyGivenNames -merge -useContext x1
    have h1 : Kept s0 x1 := by
      unfold x1
      refine Kept.foldl ?_ ?_
      · exact ha0
      · intro y2 y3 hy2
        exact kept_wf _ _ _ _ _ hy2
    clear_value x1
    extract_lets +onlyGivenNames -merge -useContext x4
    have h4 : Kept s0 x4 := by unfold x4; exact Kept.ite (Kept.upd h1 rfl rfl rfl rfl rfl rfl rfl) h1
    clear_value x4
    exact kept_wf _ _ _ _ _ h4

theorem kept_execRcReadGo {s0 : State} (a0 : Fin 8) (a1 : Bool) (a2 : State) (ha2 : Kept s0 a2) : KeptR s0 (execRcReadGo a0 a1 a2) := by
  delta execRcReadGo
  exact KeptR.next (kept_rcRead _ _ _ ha2)

theorem kept_execPfailHeaderFinal {s0 : State} (a0 : State) (ha0 : Kept s0 a0) : KeptR s0 (execPfailHeaderFinal a0) := by
  delta execPfailHeaderFinal
  refine KeptR.ite ?_ ?_
  · extract_lets +onlyGivenNames -merge -useContext x0
    try clear_value x0
    exact KeptR.next (Kept.upd ha0 rfl rfl rfl rfl rfl rfl rfl)
  · exact KeptR.next ha0

theorem kept_healthEvents {s0 : State} (a0 : State) (a1 : Nat) (ha0 : Kept s0 a0) : Kept s0 (State.healthEvents a0 a1) := by
  delta State.healthEvents
  extract_lets +onlyGivenNames -merge -useContext x0
  try clear_value x0
  extract_lets +onlyGivenNames -merge -useContext x1
  try clear_value x1
  extract_lets +onlyGivenNames -merge -useContext x2
  have h2 : Kept s0 x2 := by unfold x2; exact Kept.ite (kept_report _ _ _ _ ha0) ha0
  clear_value x2
  extract_lets +onlyGivenNames -merge -useContext x3
  have h3 : Kept s0 x3 := by unfold x3; exact Kept.ite (kept_report _ _ _ _ h2) h2
  clear_value x3
  exact Kept.upd h3 rfl rfl rfl rfl rfl rfl rfl

theorem kept_healthSample {s0 : State} (a0 : State) (a1 : Nat) (a2 : Sample) (ha0 : Kept s0 a0) : Kept s0 (State.healthSample a0 a1 a2) := by
  delta State.healthSample
  extract_lets +onlyGivenNames -merge -useContext x0
  try clear_value x0
  exact Kept.ite ha0 (Kept.ite (Kept.upd ha0 rfl rfl rfl rfl rfl rfl rfl) (Kept.ite (Kept.upd ha0 rfl rfl rfl rfl rfl rfl rfl) (kept_healthEvents _ _ (Kept.upd ha0 rfl rfl rfl rfl rfl rfl rfl))))

theorem kept_execHealthInterval {s0 : State} (a0 : BitVec 32) (a1 : List Sample) (a2 : State) (ha2 : Kept s0 a2) : KeptR s0 (execHealthInterval a0 a1 a2) := by
  delta execHealthInterval
  refine KeptR.ite (KeptR.next ha2) ?_
  extract_lets +onlyGivenNames -merge -useContext x0
  have h0 : Kept s0 x0 := by
    unfold x0
    refine Kept.foldl ?_ ?_
    · exact ha2
    · intro y1 y2 hy1
      exact kept_healthSample _ _ _ hy1
  clear_value x0
  extract_lets +onlyGivenNames -merge -useContext x3
  try clear_value x3
  exact KeptR.next (kept_enqueueRec _ _ _ h0)

end Sys2Proof.Machine
end

