-- ==== Sys2Proof/Laws/KeptIdentity.lean ====
section
/-! SUPPORT. Laws/KeptIdentity.lean: the operations of Machine/Identity.lean answer states that have been kept (Safety.lean). -/

namespace Sys2Proof.Machine
open Sys2Proof

theorem kept_modIdr {s0 : State} (a0 : State) (a1 : Nat) (a2 : IdRole → IdRole) (ha0 : Kept s0 a0) : Kept s0 (State.modIdr a0 a1 a2) := by
  delta State.modIdr
  exact Kept.upd ha0 rfl rfl rfl rfl rfl rfl rfl

theorem kept_roleStart {s0 : State} (a0 : State) (a1 : Nat) (ha0 : Kept s0 a0) : Kept s0 (State.roleStart a0 a1) := by
  delta State.roleStart
  exact kept_modIdr _ _ _ (kept_wf _ _ _ _ _ ha0)

theorem kept_identityStart {s0 : State} (a0 : State) (ha0 : Kept s0 a0) : Kept s0 (State.identityStart a0) := by
  delta State.identityStart
  refine Kept.foldl ?_ ?_
  · exact ha0
  · intro y0 y1 hy0
    exact Kept.ite (kept_roleStart _ _ hy0) (kept_wf _ _ _ _ _ hy0)

theorem kept_execIdentityReadStart {s0 : State} (a0 : State) (ha0 : Kept s0 a0) : KeptR s0 (execIdentityReadStart a0) := by
  delta execIdentityReadStart
  exact KeptR.next (Kept.ite (kept_identityStart _ ha0) ha0)

theorem kept_roleRefuse {s0 : State} (a0 : State) (a1 : Nat) (a2 : Nat) (ha0 : Kept s0 a0) : Kept s0 (State.roleRefuse a0 a1 a2) := by
  delta State.roleRefuse
  extract_lets +onlyGivenNames -merge -useContext x0
  have h0 : Kept s0 x0 := by unfold x0; exact kept_wb _ _ _ _ _ (kept_wf _ _ _ _ _ (kept_wf _ _ _ _ _ ha0))
  clear_value x0
  exact kept_report _ _ _ _ h0

theorem kept_roleRetry {s0 : State} (a0 : State) (a1 : Nat) (a2 : Nat) (ha0 : Kept s0 a0) : Kept s0 (State.roleRetry a0 a1 a2) := by
  delta State.roleRetry
  exact Kept.ite (kept_modIdr _ _ _ ha0) (kept_roleRefuse _ _ _ ha0)

theorem kept_execIdentityTransferDone {s0 : State} (a0 : Fin 12) (a1 : I3cResult) (a2 : State) (ha2 : Kept s0 a2) : KeptR s0 (execIdentityTransferDone a0 a1 a2) := by
  delta execIdentityTransferDone
  refine KeptR.ite ?_ ?_
  · exact KeptR.next ha2
  · split
    · exact KeptR.next (kept_modIdr _ _ _ ha2)
    · exact KeptR.next (kept_roleRetry _ _ _ ha2)
    · exact KeptR.next (kept_roleRetry _ _ _ ha2)

theorem kept_execIdentityTransferTimeout {s0 : State} (a0 : Fin 12) (a1 : State) (ha1 : Kept s0 a1) : KeptR s0 (execIdentityTransferTimeout a0 a1) := by
  delta execIdentityTransferTimeout
  exact KeptR.next (Kept.ite (kept_roleRetry _ _ _ ha1) ha1)

theorem kept_readmit {s0 : State} (a0 : State) (a1 : Nat) (ha0 : Kept s0 a0) : Kept s0 (State.readmit a0 a1) := by
  delta State.readmit
  extract_lets +onlyGivenNames -merge -useContext x0
  have h0 : Kept s0 x0 := by
    unfold x0
    refine Kept.foldl ?_ ?_
    · exact ha0
    · intro y1 y2 hy1
      exact kept_modHd _ _ _ hy1
  clear_value x0
  extract_lets +onlyGivenNames -merge -useContext x3
  have h3 : Kept s0 x3 := by unfold x3; exact kept_inhibits _ _ _ _ (kept_inhibits _ _ _ _ (kept_modPl _ _ _ h0))
  clear_value x3
  extract_lets +onlyGivenNames -merge -useContext x4
  have h4 : Kept s0 x4 := by unfold x4; exact Kept.ite (kept_modSv _ _ _ (kept_setAct _ _ _ h3)) h3
  clear_value x4
  exact kept_plTrain _ _ h4

theorem kept_moduleAdmit {s0 : State} (a0 : State) (a1 : Nat) (a2 : Bool) (ha0 : Kept s0 a0) : Kept s0 (State.moduleAdmit a0 a1 a2) := by
  delta State.moduleAdmit
  refine Kept.ite ?_ ?_
  · exact ha0
  · extract_lets +onlyGivenNames -merge -useContext x0
    try clear_value x0
    refine Kept.ite ?_ ?_
    · exact kept_roleRefuse _ _ _ ha0
    · extract_lets +onlyGivenNames -merge -useContext x1
      try clear_value x1
      extract_lets +onlyGivenNames -merge -useContext x2
      try clear_value x2
      extract_lets +onlyGivenNames -merge -useContext x3
      have h3 : Kept s0 x3 := by unfold x3; exact kept_wb _ _ _ _ _ (kept_wf _ _ _ _ _ (kept_wf _ _ _ _ _ (kept_wf _ _ _ _ _ ha0)))
      clear_value x3
      extract_lets +onlyGivenNames -merge -useContext x4
      have h4 : Kept s0 x4 := by unfold x4; exact kept_modIdr _ _ _ h3
      clear_value x4
      refine Kept.ite ?_ ?_
      · refine Kept.foldl ?_ ?_
        · exact h4
        · intro y5 y6 hy5
          exact kept_readmit _ _ hy5
      · exact h4

theorem kept_execModuleAdmission {s0 : State} (a0 : Fin 12) (a1 : Bool) (a2 : State) (ha2 : Kept s0 a2) : KeptR s0 (execModuleAdmission a0 a1 a2) := by
  delta execModuleAdmission
  exact KeptR.next (kept_moduleAdmit _ _ _ ha2)

theorem kept_modReread {s0 : State} (a0 : State) (a1 : Nat) (ha0 : Kept s0 a0) : Kept s0 (State.modReread a0 a1) := by
  delta State.modReread
  exact Kept.ite ha0 (Kept.ite (kept_roleStart _ _ (kept_wb _ _ _ _ _ ha0)) (kept_wf _ _ _ _ _ ha0))

theorem kept_execModReread {s0 : State} (a0 : Fin 12) (a1 : State) (ha1 : Kept s0 a1) : KeptR s0 (execModReread a0 a1) := by
  delta execModReread
  exact KeptR.next (kept_modReread _ _ ha1)

end Sys2Proof.Machine
end

