-- ==== Sys2Proof/Laws/KeptTru.lean ====
section
/-! SUPPORT. Laws/KeptTru.lean: the operations of Machine/Tru.lean answer states that have been kept (Safety.lean). -/

namespace Sys2Proof.Machine
open Sys2Proof

theorem kept_setTru {s0 : State} (a0 : State) (a1 : Nat) (a2 : Nat) (ha0 : Kept s0 a0) : Kept s0 (State.setTru a0 a1 a2) := by
  delta State.setTru
  exact kept_wf _ _ _ _ _ (kept_modTr _ _ _ ha0)

theorem kept_truReport {s0 : State} (a0 : State) (a1 : Nat) (a2 : Nat) (a3 : Nat) (a4 : Nat) (ha0 : Kept s0 a0) : Kept s0 (State.truReport a0 a1 a2 a3 a4) := by
  delta State.truReport
  exact kept_report _ _ _ _ ha0

theorem kept_gateKill {s0 : State} (a0 : State) (a1 : Nat) (ha0 : Kept s0 a0) : Kept s0 (State.gateKill a0 a1) := by
  delta State.gateKill
  extract_lets +onlyGivenNames -merge -useContext x0
  try clear_value x0
  extract_lets +onlyGivenNames -merge -useContext x1
  have h1 : Kept s0 x1 := by unfold x1; exact kept_inhibits _ _ _ _ (kept_shutHalf _ _ ha0)
  clear_value x1
  refine Kept.foldl ?_ ?_
  · exact h1
  · intro y2 y3 hy2
    exact kept_sqEvent _ _ _ hy2

theorem kept_saveTrims {s0 : State} (a0 : State) (a1 : Nat) (ha0 : Kept s0 a0) : Kept s0 (State.saveTrims a0 a1) := by
  delta State.saveTrims
  refine Kept.foldl ?_ ?_
  · exact ha0
  · intro y0 y1 hy0
    exact kept_odKeep _ _ _ _ hy0

theorem kept_loadTrims {s0 : State} (a0 : State) (a1 : Nat) (ha0 : Kept s0 a0) : Kept s0 (State.loadTrims a0 a1) := by
  delta State.loadTrims
  refine Kept.foldl ?_ ?_
  · exact ha0
  · intro y0 y1 hy0
    split
    · exact Kept.ite (kept_wf _ _ _ _ _ (kept_wf _ _ _ _ _ (kept_wf _ _ _ _ _ hy0))) (kept_modHd _ _ _ hy0)
    · exact kept_modHd _ _ _ hy0

theorem kept_trimUpdate {s0 : State} (a0 : State) (a1 : Nat) (a2 : Nat) (a3 : Nat) (a4 : Int) (a5 : Bool) (ha0 : Kept s0 a0) : Kept s0 (State.trimUpdate a0 a1 a2 a3 a4 a5) := by
  delta State.trimUpdate
  extract_lets +onlyGivenNames -merge -useContext x0
  try clear_value x0
  extract_lets +onlyGivenNames -merge -useContext x1
  have h1 : Kept s0 x1 := by unfold x1; exact kept_wf _ _ _ _ _ ha0
  clear_value x1
  refine Kept.ite ?_ ?_
  · exact h1
  · extract_lets +onlyGivenNames -merge -useContext x2
    try clear_value x2
    exact kept_wf _ _ _ _ _ (kept_wf _ _ _ _ _ h1)

theorem kept_trimRelease {s0 : State} (a0 : State) (a1 : Nat) (a2 : Nat) (a3 : Nat) (ha0 : Kept s0 a0) : Kept s0 (State.trimRelease a0 a1 a2 a3) := by
  delta State.trimRelease
  exact kept_inhibit _ _ _ _ (kept_inhibit _ _ _ _ (kept_wf _ _ _ _ _ ha0))

theorem kept_trimClose {s0 : State} (a0 : State) (a1 : Nat) (a2 : Nat) (a3 : Nat) (ha0 : Kept s0 a0) : Kept s0 (State.trimClose a0 a1 a2 a3) := by
  delta State.trimClose
  extract_lets +onlyGivenNames -merge -useContext x0
  have h0 : Kept s0 x0 := by unfold x0; exact kept_inhibit _ _ _ _ (kept_shutGates _ _ ha0)
  clear_value x0
  extract_lets +onlyGivenNames -merge -useContext x1
  have h1 : Kept s0 x1 := by unfold x1; exact kept_wf _ _ _ _ _ (kept_inhibit _ _ _ _ h0)
  clear_value x1
  extract_lets +onlyGivenNames -merge -useContext x2
  have h2 : Kept s0 x2 := by unfold x2; exact kept_modHd _ _ _ h1
  clear_value x2
  exact kept_truReport _ _ _ _ _ h2

theorem kept_trimWedge {s0 : State} (a0 : State) (a1 : Nat) (a2 : Nat) (a3 : Nat) (a4 : Nat) (a5 : Int) (ha0 : Kept s0 a0) : Kept s0 (State.trimWedge a0 a1 a2 a3 a4 a5) := by
  delta State.trimWedge
  extract_lets +onlyGivenNames -merge -useContext x0
  try clear_value x0
  extract_lets +onlyGivenNames -merge -useContext x1
  try clear_value x1
  extract_lets +onlyGivenNames -merge -useContext x2
  try clear_value x2
  extract_lets +onlyGivenNames -merge -useContext x3
  try clear_value x3
  extract_lets +onlyGivenNames -merge -useContext x4
  try clear_value x4
  refine Kept.ite ?_ ?_
  · extract_lets +onlyGivenNames -merge -useContext x5
    have h5 : Kept s0 x5 := by unfold x5; exact Kept.ite ha0 (kept_trimUpdate _ _ _ _ _ _ ha0)
    clear_value x5
    extract_lets +onlyGivenNames -merge -useContext x6
    have h6 : Kept s0 x6 := by unfold x6; exact kept_modHd _ _ _ h5
    clear_value x6
    exact Kept.ite h6 (Kept.ite (kept_trimRelease _ _ _ _ h6) (kept_truReport _ _ _ _ _ (kept_modHd _ _ _ h6)))
  · extract_lets +onlyGivenNames -merge -useContext x7
    have h7 : Kept s0 x7 := by unfold x7; exact Kept.ite ha0 (Kept.ite (kept_modHd _ _ _ (kept_trimUpdate _ _ _ _ _ _ ha0)) (kept_modHd _ _ _ ha0))
    clear_value x7
    extract_lets +onlyGivenNames -merge -useContext x8
    have h8 : Kept s0 x8 := by unfold x8; exact kept_modHd _ _ _ h7
    clear_value x8
    refine Kept.ite ?_ ?_
    · refine Kept.ite ?_ ?_
      · exact kept_trimClose _ _ _ _ h8
      · extract_lets +onlyGivenNames -merge -useContext x9
        have h9 : Kept s0 x9 := by unfold x9; exact kept_modHd _ _ _ h8
        clear_value x9
        exact Kept.ite (kept_trimRelease _ _ _ _ h9) h9
    · exact Kept.ite (kept_trimClose _ _ _ _ h8) h8

theorem kept_trimWrite {s0 : State} (a0 : State) (a1 : Nat) (a2 : Nat) (a3 : Bool) (a4 : Nat) (ha0 : Kept s0 a0) : Kept s0 (State.trimWrite a0 a1 a2 a3 a4) := by
  delta State.trimWrite
  exact Kept.ite (kept_wf _ _ _ _ _ (kept_wf _ _ _ _ _ ha0)) (kept_wf _ _ _ _ _ ha0)

theorem kept_execHtTrimWrite {s0 : State} (a0 : Act) (a1 : Fin 11) (a2 : Bool) (a3 : Word) (a4 : State) (ha4 : Kept s0 a4) : KeptR s0 (execHtTrimWrite a0 a1 a2 a3 a4) := by
  delta execHtTrimWrite
  exact KeptR.next (kept_trimWrite _ _ _ _ _ ha4)

theorem kept_lossRequeue {s0 : State} (a0 : State) (a1 : Nat) (ha0 : Kept s0 a0) : Kept s0 (State.lossRequeue a0 a1) := by
  delta State.lossRequeue
  extract_lets +onlyGivenNames -merge -useContext x0
  try clear_value x0
  extract_lets +onlyGivenNames -merge -useContext x1
  try clear_value x1
  extract_lets +onlyGivenNames -merge -useContext x2
  try clear_value x2
  extract_lets +onlyGivenNames -merge -useContext x3
  have h3 : Kept s0 x3 := by unfold x3; exact kept_modCh _ _ _ ha0
  clear_value x3
  extract_lets +onlyGivenNames -merge -useContext x4
  have h4 : Kept s0 x4 := by
    unfold x4
    refine Kept.foldl ?_ ?_
    · exact h3
    · intro y5 y6 hy5
      exact kept_requeue _ _ (kept_cnt _ _ _ _ _ hy5)
  clear_value x4
  refine Kept.foldl ?_ ?_
  · exact h4
  · intro y7 y8 hy7
    exact kept_requeue _ _ hy7

theorem kept_truLoss {s0 : State} (a0 : State) (a1 : Nat) (a2 : Nat) (ha0 : Kept s0 a0) : Kept s0 (State.truLoss a0 a1 a2) := by
  delta State.truLoss
  refine Kept.ite ?_ ?_
  · exact ha0
  · extract_lets +onlyGivenNames -merge -useContext x0
    have h0 : Kept s0 x0 := by unfold x0; exact kept_gateKill _ _ (kept_cnt _ _ _ _ _ (kept_wf _ _ _ _ _ (kept_setTru _ _ _ ha0)))
    clear_value x0
    extract_lets +onlyGivenNames -merge -useContext x1
    have h1 : Kept s0 x1 := by
      unfold x1
      refine Kept.foldl ?_ ?_
      · exact h0
      · intro y2 y3 hy2
        exact kept_calFail _ _ _ (kept_lossRequeue _ _ hy2)
    clear_value x1
    exact kept_truReport _ _ _ _ _ (kept_modTr _ _ _ h1)

theorem kept_execTruLossPhase {s0 : State} (a0 : Act) (a1 : State) (ha1 : Kept s0 a1) : KeptR s0 (execTruLossPhase a0 a1) := by
  delta execTruLossPhase
  exact KeptR.next (kept_truLoss _ _ _ ha1)

theorem kept_execTruLossAmplitude {s0 : State} (a0 : Act) (a1 : State) (ha1 : Kept s0 a1) : KeptR s0 (execTruLossAmplitude a0 a1) := by
  delta execTruLossAmplitude
  exact KeptR.next (kept_truLoss _ _ _ ha1)

theorem kept_truOff {s0 : State} (a0 : State) (a1 : Nat) (ha0 : Kept s0 a0) : Kept s0 (State.truOff a0 a1) := by
  delta State.truOff
  exact Kept.ite ha0 (kept_modTr _ _ _ (kept_setTru _ _ _ (kept_gateKill _ _ ha0)))

theorem kept_truCtrl {s0 : State} (a0 : State) (a1 : Nat) (a2 : Bool) (a3 : Bool) (ha0 : Kept s0 a0) : Kept s0 (State.truCtrl a0 a1 a2 a3) := by
  delta State.truCtrl
  extract_lets +onlyGivenNames -merge -useContext x0
  have h0 : Kept s0 x0 := by unfold x0; exact kept_wb _ _ _ _ _ (kept_wb _ _ _ _ _ ha0)
  clear_value x0
  exact Kept.ite (kept_truOff _ _ h0) (Kept.ite (Kept.ite (kept_truLoss _ _ _ h0) (Kept.ite (kept_setTru _ _ _ h0) h0)) h0)

theorem kept_execTruEnableWrite {s0 : State} (a0 : Act) (a1 : Bool) (a2 : Bool) (a3 : State) (ha3 : Kept s0 a3) : KeptR s0 (execTruEnableWrite a0 a1 a2 a3) := by
  delta execTruEnableWrite
  exact KeptR.next (kept_truCtrl _ _ _ _ ha3)

theorem kept_execTruAcqStart {s0 : State} (a0 : Act) (a1 : State) (ha1 : Kept s0 a1) : KeptR s0 (execTruAcqStart a0 a1) := by
  delta execTruAcqStart
  exact KeptR.ite (KeptR.next (kept_setTru _ _ _ ha1)) (KeptR.next ha1)

theorem kept_execTruFreqAcquired {s0 : State} (a0 : Act) (a1 : State) (ha1 : Kept s0 a1) : KeptR s0 (execTruFreqAcquired a0 a1) := by
  delta execTruFreqAcquired
  exact KeptR.next (Kept.ite (kept_setTru _ _ _ ha1) ha1)

theorem kept_execTruPhaseAcquired {s0 : State} (a0 : Act) (a1 : State) (ha1 : Kept s0 a1) : KeptR s0 (execTruPhaseAcquired a0 a1) := by
  delta execTruPhaseAcquired
  exact KeptR.next (Kept.ite (kept_setTru _ _ _ ha1) ha1)

theorem kept_execTruCarrierReturn {s0 : State} (a0 : Act) (a1 : State) (ha1 : Kept s0 a1) : KeptR s0 (execTruCarrierReturn a0 a1) := by
  delta execTruCarrierReturn
  exact KeptR.next (Kept.ite (kept_setTru _ _ _ ha1) ha1)

theorem kept_truReacq {s0 : State} (a0 : State) (a1 : Nat) (ha0 : Kept s0 a0) : Kept s0 (State.truReacq a0 a1) := by
  delta State.truReacq
  refine Kept.ite ?_ ?_
  · exact ha0
  · extract_lets +onlyGivenNames -merge -useContext x0
    have h0 : Kept s0 x0 := by unfold x0; exact Kept.ite (kept_gateKill _ _ ha0) ha0
    clear_value x0
    exact kept_modTr _ _ _ (kept_setTru _ _ _ h0)

theorem kept_execTruReacq {s0 : State} (a0 : Act) (a1 : State) (ha1 : Kept s0 a1) : KeptR s0 (execTruReacq a0 a1) := by
  delta execTruReacq
  exact KeptR.next (kept_truReacq _ _ ha1)

theorem kept_execRelockLimitExpiry {s0 : State} (a0 : Act) (a1 : State) (ha1 : Kept s0 a1) : KeptR s0 (execRelockLimitExpiry a0 a1) := by
  delta execRelockLimitExpiry
  exact KeptR.ite (KeptR.next (kept_startPark _ _ (kept_modTr _ _ _ (kept_setTru _ _ _ ha1)))) (KeptR.next ha1)

theorem kept_execClockHeadFailTimeout {s0 : State} (a0 : Act) (a1 : State) (ha1 : Kept s0 a1) : KeptR s0 (execClockHeadFailTimeout a0 a1) := by
  delta execClockHeadFailTimeout
  exact KeptR.ite (KeptR.next (kept_truReport _ _ _ _ _ (kept_modSv _ _ _ (kept_startPark _ _ (kept_modTr _ _ _ ha1))))) (KeptR.next ha1)

theorem kept_execSynthSlewDone {s0 : State} (a0 : Chan) (a1 : State) (ha1 : Kept s0 a1) : KeptR s0 (execSynthSlewDone a0 a1) := by
  delta execSynthSlewDone
  exact KeptR.next (kept_setupCheck _ _ (kept_wf _ _ _ _ _ ha1))

theorem kept_frameEvents {s0 : State} (a0 : State) (a1 : Nat) (a2 : Nat) (ha0 : Kept s0 a0) : Kept s0 (State.frameEvents a0 a1 a2) := by
  delta State.frameEvents
  refine Kept.foldl ?_ ?_
  · exact ha0
  · intro y0 y1 hy0
    extract_lets +onlyGivenNames -merge -useContext x2
    have h2 : Kept s0 x2 := by unfold x2; exact Kept.ite (kept_seqEvent _ _ _ _ hy0) hy0
    clear_value x2
    exact Kept.ite (kept_seqEvent _ _ _ _ h2) h2

theorem kept_truLocked {s0 : State} (a0 : State) (a1 : Nat) (ha0 : Kept s0 a0) : Kept s0 (State.truLocked a0 a1) := by
  delta State.truLocked
  extract_lets +onlyGivenNames -merge -useContext x0
  have h0 : Kept s0 x0 := by unfold x0; exact kept_modTr _ _ _ (kept_wf _ _ _ _ _ ha0)
  clear_value x0
  refine Kept.foldl ?_ ?_
  · exact h0
  · intro y1 y2 hy1
    extract_lets +onlyGivenNames -merge -useContext x3
    try clear_value x3
    refine Kept.ite ?_ ?_
    · exact kept_inhibit _ _ _ _ hy1
    · extract_lets +onlyGivenNames -merge -useContext x4
      try clear_value x4
      exact Kept.ite (kept_inhibit _ _ _ _ (kept_inhibit _ _ _ _ hy1)) (kept_inhibit _ _ _ _ (kept_modHd _ _ _ hy1))

theorem kept_frameSample {s0 : State} (a0 : State) (a1 : Nat) (a2 : Frame) (a3 : Nat) (a4 : Bool) (ha0 : Kept s0 a0) : Kept s0 (State.frameSample a0 a1 a2 a3 a4) := by
  delta State.frameSample
  extract_lets +onlyGivenNames -merge -useContext x0
  try clear_value x0
  extract_lets +onlyGivenNames -merge -useContext x1
  try clear_value x1
  extract_lets +onlyGivenNames -merge -useContext x2
  try clear_value x2
  extract_lets +onlyGivenNames -merge -useContext x3
  try clear_value x3
  extract_lets +onlyGivenNames -merge -useContext x4
  try clear_value x4
  extract_lets +onlyGivenNames -merge -useContext x5
  try clear_value x5
  extract_lets +onlyGivenNames -merge -useContext x6
  have h6 : Kept s0 x6 := by unfold x6; exact kept_wf _ _ _ _ _ (kept_wf _ _ _ _ _ (kept_wf _ _ _ _ _ ha0))
  clear_value x6
  exact kept_modTr _ _ _ (kept_wb _ _ _ _ _ (kept_wf _ _ _ _ _ h6))

theorem kept_truFrame {s0 : State} (a0 : State) (a1 : Nat) (a2 : Frame) (ha0 : Kept s0 a0) : Kept s0 (State.truFrame a0 a1 a2) := by
  delta State.truFrame
  extract_lets +onlyGivenNames -merge -useContext x0
  try clear_value x0
  extract_lets +onlyGivenNames -merge -useContext x1
  try clear_value x1
  extract_lets +onlyGivenNames -merge -useContext x2
  try clear_value x2
  extract_lets +onlyGivenNames -merge -useContext x3
  have h3 : Kept s0 x3 := by unfold x3; exact kept_wf _ _ _ _ _ (kept_wf _ _ _ _ _ ha0)
  clear_value x3
  refine Kept.ite ?_ ?_
  · split
    · extract_lets +onlyGivenNames -merge -useContext x4
      try clear_value x4
      extract_lets +onlyGivenNames -merge -useContext x5
      try clear_value x5
      extract_lets +onlyGivenNames -merge -useContext x6
      try clear_value x6
      extract_lets +onlyGivenNames -merge -useContext x7
      have h7 : Kept s0 x7 := by unfold x7; exact kept_modTr _ _ _ h3
      clear_value x7
      exact Kept.ite (kept_truLocked _ _ h7) h7
    · exact kept_modTr _ _ _ h3
  · refine Kept.ite ?_ ?_
    · extract_lets +onlyGivenNames -merge -useContext x8
      try clear_value x8
      extract_lets +onlyGivenNames -merge -useContext x9
      try clear_value x9
      extract_lets +onlyGivenNames -merge -useContext x10
      have h10 : Kept s0 x10 := by unfold x10; exact kept_frameSample _ _ _ _ _ (kept_frameEvents _ _ _ h3)
      clear_value x10
      extract_lets +onlyGivenNames -merge -useContext x11
      try clear_value x11
      extract_lets +onlyGivenNames -merge -useContext x12
      try clear_value x12
      extract_lets +onlyGivenNames -merge -useContext x13
      have h13 : Kept s0 x13 := by unfold x13; exact kept_modTr _ _ _ h10
      clear_value x13
      extract_lets +onlyGivenNames -merge -useContext x14
      have h14 : Kept s0 x14 := by unfold x14; exact Kept.ite (kept_cnt _ _ _ _ _ h13) h13
      clear_value x14
      exact Kept.ite (kept_truLoss _ _ _ h14) h14
    · exact h3

theorem kept_execTruFrame {s0 : State} (a0 : Act) (a1 : Frame) (a2 : State) (ha2 : Kept s0 a2) : KeptR s0 (execTruFrame a0 a1 a2) := by
  delta execTruFrame
  exact KeptR.next (kept_truFrame _ _ _ ha2)

theorem kept_truSpeed {s0 : State} (a0 : State) (a1 : Nat) (a2 : Nat) (ha0 : Kept s0 a0) : Kept s0 (State.truSpeed a0 a1 a2) := by
  delta State.truSpeed
  extract_lets +onlyGivenNames -merge -useContext x0
  try clear_value x0
  extract_lets +onlyGivenNames -merge -useContext x1
  try clear_value x1
  refine Kept.ite ?_ ?_
  · extract_lets +onlyGivenNames -merge -useContext x2
    have h2 : Kept s0 x2 := by unfold x2; exact kept_modTr _ _ _ ha0
    clear_value x2
    exact Kept.ite (kept_truLoss _ _ _ h2) h2
  · exact kept_modTr _ _ _ ha0

end Sys2Proof.Machine
end

