-- ==== Sys2Proof/Laws/KeptMce.lean ====
section
/-! SUPPORT. Laws/KeptMce.lean: the operations of Machine/Mce.lean answer states that have been kept (Safety.lean). -/

namespace Sys2Proof.Machine
open Sys2Proof

theorem kept_modLc {s0 : State} (a0 : State) (a1 : Nat) (a2 : CellSt → CellSt) (ha0 : Kept s0 a0) : Kept s0 (State.modLc a0 a1 a2) := by
  delta State.modLc
  exact Kept.upd ha0 rfl rfl rfl rfl rfl rfl rfl

theorem kept_cellEnable {s0 : State} (a0 : State) (a1 : Nat) (ha0 : Kept s0 a0) : Kept s0 (State.cellEnable a0 a1) := by
  delta State.cellEnable
  exact kept_modLc _ _ _ ha0

theorem kept_cellBegin {s0 : State} (a0 : State) (a1 : Nat) (ha0 : Kept s0 a0) : Kept s0 (State.cellBegin a0 a1) := by
  delta State.cellBegin
  split
  · exact ha0
  · extract_lets +onlyGivenNames -merge -useContext x0
    have h0 : Kept s0 x0 := by unfold x0; exact Kept.ite ha0 (kept_cellEnable _ _ ha0)
    clear_value x0
    extract_lets +onlyGivenNames -merge -useContext x1
    try clear_value x1
    extract_lets +onlyGivenNames -merge -useContext x2
    try clear_value x2
    extract_lets +onlyGivenNames -merge -useContext x3
    try clear_value x3
    extract_lets +onlyGivenNames -merge -useContext x4
    try clear_value x4
    extract_lets +onlyGivenNames -merge -useContext x5
    have h5 : Kept s0 x5 := by unfold x5; exact kept_modLc _ _ _ h0
    clear_value x5
    exact Kept.upd h5 rfl rfl rfl rfl rfl rfl rfl

theorem kept_laneStep {s0 : State} (a0 : State) (a1 : Nat) (ha0 : Kept s0 a0) : Kept s0 (State.laneStep a0 a1) := by
  delta State.laneStep
  split
  · exact ha0
  · split
    · exact kept_cellBegin _ _ ha0
    · split
      · exact Kept.ite (kept_cellBegin _ _ ha0) ha0
      · exact kept_cellBegin _ _ ha0

theorem kept_cellOverrun {s0 : State} (a0 : State) (a1 : Nat) (ha0 : Kept s0 a0) : Kept s0 (State.cellOverrun a0 a1) := by
  delta State.cellOverrun
  exact kept_report _ _ _ _ (kept_cnt _ _ _ _ _ (kept_modLc _ _ _ ha0))

theorem kept_cellTrig {s0 : State} (a0 : State) (a1 : Nat) (a2 : Nat) (a3 : Nat) (a4 : Nat) (a5 : Bool) (ha0 : Kept s0 a0) : Kept s0 (State.cellTrig a0 a1 a2 a3 a4 a5) := by
  delta State.cellTrig
  refine Kept.ite ?_ ?_
  · exact Kept.ite ha0 (kept_modLc _ _ _ ha0)
  · extract_lets +onlyGivenNames -merge -useContext x0
    try clear_value x0
    extract_lets +onlyGivenNames -merge -useContext x1
    try clear_value x1
    extract_lets +onlyGivenNames -merge -useContext x2
    have h2 : Kept s0 x2 := by unfold x2; exact kept_modLc _ _ _ ha0
    clear_value x2
    extract_lets +onlyGivenNames -merge -useContext x3
    have h3 : Kept s0 x3 := by unfold x3; exact Kept.ite (kept_cellOverrun _ _ (kept_modLc _ _ _ ha0)) (Kept.ite (Kept.ite (kept_cellOverrun _ _ h2) h2) (kept_modLc _ _ _ ha0))
    clear_value x3
    exact kept_laneStep _ _ h3

theorem kept_execCellTrigger {s0 : State} (a0 : Cell) (a1 : Word) (a2 : Bool) (a3 : State) (ha3 : Kept s0 a3) : KeptR s0 (execCellTrigger a0 a1 a2 a3) := by
  delta execCellTrigger
  exact KeptR.next (kept_cellTrig _ _ _ _ _ _ ha3)

theorem kept_gainReq {s0 : State} (a0 : State) (a1 : Nat) (a2 : Nat) (ha0 : Kept s0 a0) : Kept s0 (State.gainReq a0 a1 a2) := by
  delta State.gainReq
  exact kept_modLc _ _ _ ha0

theorem kept_execGainSetRequest {s0 : State} (a0 : Cell) (a1 : Fin 4) (a2 : State) (ha2 : Kept s0 a2) : KeptR s0 (execGainSetRequest a0 a1 a2) := by
  delta execGainSetRequest
  exact KeptR.next (kept_gainReq _ _ _ ha2)

theorem kept_cellPreset {s0 : State} (a0 : State) (a1 : Nat) (a2 : Nat) (ha0 : Kept s0 a0) : Kept s0 (State.cellPreset a0 a1 a2) := by
  delta State.cellPreset
  exact kept_modLc _ _ _ ha0

theorem kept_deadlineMiss {s0 : State} (a0 : State) (a1 : Nat) (ha0 : Kept s0 a0) : Kept s0 (State.deadlineMiss a0 a1) := by
  delta State.deadlineMiss
  extract_lets +onlyGivenNames -merge -useContext x0
  try clear_value x0
  refine Kept.ite ?_ ?_
  · exact ha0
  · extract_lets +onlyGivenNames -merge -useContext x1
    try clear_value x1
    extract_lets +onlyGivenNames -merge -useContext x2
    try clear_value x2
    extract_lets +onlyGivenNames -merge -useContext x3
    try clear_value x3
    extract_lets +onlyGivenNames -merge -useContext x4
    have h4 : Kept s0 x4 := by unfold x4; exact kept_cnt _ _ _ _ _ (kept_modLc _ _ _ ha0)
    clear_value x4
    extract_lets +onlyGivenNames -merge -useContext x5
    have h5 : Kept s0 x5 := by unfold x5; exact kept_report _ _ _ _ h4
    clear_value x5
    exact Kept.ite (kept_report _ _ _ _ h5) h5

theorem kept_execDeadlineMiss {s0 : State} (a0 : Cell) (a1 : State) (ha1 : Kept s0 a1) : KeptR s0 (execDeadlineMiss a0 a1) := by
  delta execDeadlineMiss
  exact KeptR.next (kept_deadlineMiss _ _ ha1)

theorem kept_recordEval {s0 : State} (a0 : State) (a1 : Nat) (a2 : CellOut) (a3 : Nat) (a4 : Bool) (ha0 : Kept s0 a0) : Kept s0 (State.recordEval a0 a1 a2 a3 a4) := by
  delta State.recordEval
  refine Kept.ite ?_ ?_
  · exact ha0
  · extract_lets +onlyGivenNames -merge -useContext x0
    try clear_value x0
    extract_lets +onlyGivenNames -merge -useContext x1
    try clear_value x1
    extract_lets +onlyGivenNames -merge -useContext x2
    try clear_value x2
    extract_lets +onlyGivenNames -merge -useContext x3
    try clear_value x3
    extract_lets +onlyGivenNames -merge -useContext x4
    try clear_value x4
    exact Kept.upd ha0 rfl rfl rfl rfl rfl rfl rfl

theorem kept_recStart {s0 : State} (a0 : State) (ha0 : Kept s0 a0) : Kept s0 (State.recStart a0) := by
  delta State.recStart
  exact Kept.upd ha0 rfl rfl rfl rfl rfl rfl rfl

theorem kept_recStop {s0 : State} (a0 : State) (ha0 : Kept s0 a0) : Kept s0 (State.recStop a0) := by
  delta State.recStop
  exact Kept.ite (Kept.upd ha0 rfl rfl rfl rfl rfl rfl rfl) ha0

theorem kept_recClear {s0 : State} (a0 : State) (ha0 : Kept s0 a0) : Kept s0 (State.recClear a0) := by
  delta State.recClear
  exact Kept.upd ha0 rfl rfl rfl rfl rfl rfl rfl

theorem kept_execRecStart {s0 : State} (a0 : State) (ha0 : Kept s0 a0) : KeptR s0 (execRecStart a0) := by
  delta execRecStart
  exact KeptR.next (kept_recStart _ ha0)

theorem kept_execRecStop {s0 : State} (a0 : State) (ha0 : Kept s0 a0) : KeptR s0 (execRecStop a0) := by
  delta execRecStop
  exact KeptR.next (kept_recStop _ ha0)

theorem kept_execRecClear {s0 : State} (a0 : State) (ha0 : Kept s0 a0) : KeptR s0 (execRecClear a0) := by
  delta execRecClear
  exact KeptR.next (kept_recClear _ ha0)

theorem kept_feedShadows {s0 : State} (a0 : State) (a1 : Nat) (a2 : CellOut) (a3 : Nat) (ha0 : Kept s0 a0) : Kept s0 (State.feedShadows a0 a1 a2 a3) := by
  delta State.feedShadows
  refine Kept.foldl ?_ ?_
  · exact ha0
  · intro y0 y1 hy0
    exact Kept.ite (kept_modLc _ _ _ hy0) hy0

theorem kept_replayFeed {s0 : State} (a0 : State) (a1 : Nat) (ha0 : Kept s0 a0) : Kept s0 (State.replayFeed a0 a1) := by
  induction a1 generalizing a0 with
  | zero => exact ha0
  | succ n ih =>
    simp only [State.replayFeed]
    split
    · exact ha0
    · split
      · exact Kept.upd ha0 rfl rfl rfl rfl rfl rfl rfl
      · apply ih
        split
        · exact Kept.upd ha0 rfl rfl rfl rfl rfl rfl rfl
        · refine Kept.ite (Kept.upd ha0 rfl rfl rfl rfl rfl rfl rfl) (Kept.foldl (Kept.upd ha0 rfl rfl rfl rfl rfl rfl rfl) ?_)
          intro t m h
          exact Kept.ite (kept_modLc _ _ _ h) h

theorem kept_replayFrom {s0 : State} (a0 : State) (ha0 : Kept s0 a0) : Kept s0 (State.replayFrom a0) := by
  delta State.replayFrom
  extract_lets +onlyGivenNames -merge -useContext x0
  try clear_value x0
  extract_lets +onlyGivenNames -merge -useContext x1
  have h1 : Kept s0 x1 := by unfold x1; exact Kept.upd ha0 rfl rfl rfl rfl rfl rfl rfl
  clear_value x1
  exact kept_replayFeed _ _ h1

theorem kept_replayHalt {s0 : State} (a0 : State) (ha0 : Kept s0 a0) : Kept s0 (State.replayHalt a0) := by
  delta State.replayHalt
  exact Kept.ite (Kept.upd ha0 rfl rfl rfl rfl rfl rfl rfl) ha0

theorem kept_execReplayCmdStart {s0 : State} (a0 : State) (ha0 : Kept s0 a0) : KeptR s0 (execReplayCmdStart a0) := by
  delta execReplayCmdStart
  exact KeptR.next (kept_replayFrom _ ha0)

theorem kept_execReplayCmdStop {s0 : State} (a0 : State) (ha0 : Kept s0 a0) : KeptR s0 (execReplayCmdStop a0) := by
  delta execReplayCmdStop
  exact KeptR.next (kept_replayHalt _ ha0)

theorem kept_shadowEval {s0 : State} (a0 : State) (a1 : Nat) (ha0 : Kept s0 a0) : Kept s0 (State.shadowEval a0 a1) := by
  delta State.shadowEval
  extract_lets +onlyGivenNames -merge -useContext x0
  try clear_value x0
  refine Kept.ite ?_ ?_
  · exact ha0
  · split
    · exact ha0
    · extract_lets +onlyGivenNames -merge -useContext x1
      have h1 : Kept s0 x1 := by unfold x1; exact Kept.ite ha0 (kept_cellEnable _ _ ha0)
      clear_value x1
      extract_lets +onlyGivenNames -merge -useContext x2
      try clear_value x2
      extract_lets +onlyGivenNames -merge -useContext x3
      try clear_value x3
      extract_lets +onlyGivenNames -merge -useContext x4
      try clear_value x4
      extract_lets +onlyGivenNames -merge -useContext x5
      have h5 : Kept s0 x5 := by unfold x5; exact kept_modLc _ _ _ h1
      clear_value x5
      exact kept_replayFeed _ _ h5

theorem kept_execShadowEval {s0 : State} (a0 : Fin 16) (a1 : State) (ha1 : Kept s0 a1) : KeptR s0 (execShadowEval a0 a1) := by
  delta execShadowEval
  exact KeptR.next (kept_shadowEval _ _ ha1)

theorem kept_modPg {s0 : State} (a0 : State) (a1 : Nat) (a2 : PgSt → PgSt) (ha0 : Kept s0 a0) : Kept s0 (State.modPg a0 a1 a2) := by
  delta State.modPg
  exact Kept.upd ha0 rfl rfl rfl rfl rfl rfl rfl

theorem kept_pgBegin {s0 : State} (a0 : State) (a1 : Nat) (a2 : Int) (ha0 : Kept s0 a0) : Kept s0 (State.pgBegin a0 a1 a2) := by
  delta State.pgBegin
  extract_lets +onlyGivenNames -merge -useContext x0
  try clear_value x0
  extract_lets +onlyGivenNames -merge -useContext x1
  try clear_value x1
  exact Kept.ite (kept_modPg _ _ _ ha0) (kept_modPg _ _ _ ha0)

theorem kept_pgTarget {s0 : State} (a0 : State) (a1 : Nat) (a2 : Int) (ha0 : Kept s0 a0) : Kept s0 (State.pgTarget a0 a1 a2) := by
  delta State.pgTarget
  exact Kept.ite ha0 (Kept.ite (kept_pgBegin _ _ _ ha0) (kept_modPg _ _ _ ha0))

theorem kept_execPgTarget {s0 : State} (a0 : Fin 5) (a1 : Int) (a2 : State) (ha2 : Kept s0 a2) : KeptR s0 (execPgTarget a0 a1 a2) := by
  delta execPgTarget
  exact KeptR.next (kept_pgTarget _ _ _ ha2)

theorem kept_pgStep {s0 : State} (a0 : State) (a1 : Nat) (ha0 : Kept s0 a0) : Kept s0 (State.pgStep a0 a1) := by
  delta State.pgStep
  extract_lets +onlyGivenNames -merge -useContext x0
  try clear_value x0
  refine Kept.ite ?_ ?_
  · exact kept_wbit _ _ _ _ _ _ (kept_modPg _ _ _ ha0)
  · split
    · exact ha0
    · refine Kept.ite ?_ ?_
      · extract_lets +onlyGivenNames -merge -useContext x1
        have h1 : Kept s0 x1 := by unfold x1; exact kept_modPg _ _ _ ha0
        clear_value x1
        split
        · exact kept_pgBegin _ _ _ (kept_modPg _ _ _ h1)
        · exact h1
      · exact kept_modPg _ _ _ ha0

theorem kept_pgStop {s0 : State} (a0 : State) (a1 : Nat) (ha0 : Kept s0 a0) : Kept s0 (State.pgStop a0 a1) := by
  delta State.pgStop
  exact kept_wbit _ _ _ _ _ _ (kept_modPg _ _ _ ha0)

theorem kept_execPgStop {s0 : State} (a0 : Fin 5) (a1 : State) (ha1 : Kept s0 a1) : KeptR s0 (execPgStop a0 a1) := by
  delta execPgStop
  exact KeptR.next (kept_pgStop _ _ ha1)

theorem kept_execMcPeakClr {s0 : State} (a0 : Fin 4) (a1 : State) (ha1 : Kept s0 a1) : KeptR s0 (execMcPeakClr a0 a1) := by
  delta execMcPeakClr
  exact KeptR.next (kept_wf _ _ _ _ _ ha1)

theorem kept_offTrack {s0 : State} (a0 : State) (a1 : Nat) (ha0 : Kept s0 a0) : Kept s0 (State.offTrack a0 a1) := by
  delta State.offTrack
  extract_lets +onlyGivenNames -merge -useContext x0
  try clear_value x0
  extract_lets +onlyGivenNames -merge -useContext x1
  try clear_value x1
  exact Kept.ite ha0 (kept_modHd _ _ _ (kept_inhibit _ _ _ _ (kept_wbit _ _ _ _ _ _ ha0)))

theorem kept_satCount {s0 : State} (a0 : State) (a1 : Nat) (a2 : Bool) (ha0 : Kept s0 a0) : Kept s0 (State.satCount a0 a1 a2) := by
  delta State.satCount
  refine Kept.ite ?_ ?_
  · extract_lets +onlyGivenNames -merge -useContext x0
    have h0 : Kept s0 x0 := by unfold x0; exact kept_modLc _ _ _ ha0
    clear_value x0
    exact Kept.ite (kept_modHd _ _ _ h0) h0
  · extract_lets +onlyGivenNames -merge -useContext x1
    try clear_value x1
    extract_lets +onlyGivenNames -merge -useContext x2
    have h2 : Kept s0 x2 := by unfold x2; exact kept_modLc _ _ _ ha0
    clear_value x2
    refine Kept.ite ?_ ?_
    · exact h2
    · extract_lets +onlyGivenNames -merge -useContext x3
      have h3 : Kept s0 x3 := by unfold x3; exact kept_report _ _ _ _ h2
      clear_value x3
      exact Kept.ite (kept_offTrack _ _ (kept_modHd _ _ _ h3)) (Kept.ite (kept_startPark _ _ h3) h3)

theorem kept_resCheck {s0 : State} (a0 : State) (a1 : Nat) (a2 : Nat) (a3 : Nat) (a4 : List Int) (ha0 : Kept s0 a0) : Kept s0 (State.resCheck a0 a1 a2 a3 a4) := by
  delta State.resCheck
  extract_lets +onlyGivenNames -merge -useContext x0
  try clear_value x0
  extract_lets +onlyGivenNames -merge -useContext x1
  try clear_value x1
  extract_lets +onlyGivenNames -merge -useContext x2
  try clear_value x2
  extract_lets +onlyGivenNames -merge -useContext x3
  have h3 : Kept s0 x3 := by unfold x3; exact Kept.upd ha0 rfl rfl rfl rfl rfl rfl rfl
  clear_value x3
  exact Kept.ite (kept_report _ _ _ _ h3) h3

theorem kept_vcmResidual {s0 : State} (a0 : State) (a1 : Nat) (a2 : Bool) (a3 : Int) (a4 : Int) (ha0 : Kept s0 a0) : Kept s0 (State.vcmResidual a0 a1 a2 a3 a4) := by
  delta State.vcmResidual
  extract_lets +onlyGivenNames -merge -useContext x0
  try clear_value x0
  refine Kept.ite ?_ ?_
  · exact Kept.upd ha0 rfl rfl rfl rfl rfl rfl rfl
  · extract_lets +onlyGivenNames -merge -useContext x1
    have h1 : Kept s0 x1 := by unfold x1; exact Kept.upd ha0 rfl rfl rfl rfl rfl rfl rfl
    clear_value x1
    refine Kept.ite ?_ ?_
    · extract_lets +onlyGivenNames -merge -useContext x2
      try clear_value x2
      extract_lets +onlyGivenNames -merge -useContext x3
      have h3 : Kept s0 x3 := by unfold x3; exact kept_resCheck _ _ _ _ _ h1
      clear_value x3
      exact Kept.ite (kept_startPark _ _ h3) h3
    · exact h1

theorem kept_groupSelect {s0 : State} (a0 : State) (ha0 : Kept s0 a0) : Kept s0 (State.groupSelect a0) := by
  delta State.groupSelect
  extract_lets +onlyGivenNames -merge -useContext x0
  try clear_value x0
  extract_lets +onlyGivenNames -merge -useContext x1
  try clear_value x1
  extract_lets +onlyGivenNames -merge -useContext x2
  try clear_value x2
  extract_lets +onlyGivenNames -merge -useContext x3
  have h3 : Kept s0 x3 := by
    unfold x3
    refine Kept.foldl ?_ ?_
    · exact ha0
    · intro y4 y5 hy4
      split
      · exact hy4
      · extract_lets +onlyGivenNames -merge -useContext x6
        have h6 : Kept s0 x6 := by unfold x6; exact kept_recordEval _ _ _ _ _ hy4
        clear_value x6
        refine Kept.ite ?_ ?_
        · exact kept_satCount _ _ _ h6
        · extract_lets +onlyGivenNames -merge -useContext x7
          try clear_value x7
          extract_lets +onlyGivenNames -merge -useContext x8
          try clear_value x8
          exact kept_modLc _ _ _ h6
  clear_value x3
  extract_lets +onlyGivenNames -merge -useContext x9
  try clear_value x9
  extract_lets +onlyGivenNames -merge -useContext x10
  try clear_value x10
  extract_lets +onlyGivenNames -merge -useContext x11
  have h11 : Kept s0 x11 := by unfold x11; exact Kept.upd h3 rfl rfl rfl rfl rfl rfl rfl
  clear_value x11
  exact Kept.ite (kept_modLc _ _ _ h11) h11

theorem kept_vlim {s0 : State} (a0 : State) (ha0 : Kept s0 a0) : Kept s0 (State.vlim a0) := by
  delta State.vlim
  extract_lets +onlyGivenNames -merge -useContext x0
  try clear_value x0
  extract_lets +onlyGivenNames -merge -useContext x1
  try clear_value x1
  extract_lets +onlyGivenNames -merge -useContext x2
  try clear_value x2
  exact kept_wb _ _ _ _ _ ha0

theorem kept_deliver_ {s0 : State} (a0 : State) (a1 : Nat) (a2 : CellOut) (ha0 : Kept s0 a0) : Kept s0 (State.deliver_ a0 a1 a2) := by
  delta State.deliver_
  refine Kept.ite ?_ ?_
  · extract_lets +onlyGivenNames -merge -useContext x0
    try clear_value x0
    exact Kept.ite ha0 (kept_maDrive _ _ _ ha0)
  · refine Kept.ite ?_ ?_
    · extract_lets +onlyGivenNames -merge -useContext x1
      try clear_value x1
      extract_lets +onlyGivenNames -merge -useContext x2
      have h2 : Kept s0 x2 := by unfold x2; exact kept_wf _ _ _ _ _ ha0
      clear_value x2
      exact kept_vcmResidual _ _ _ _ _ h2
    · exact Kept.ite (kept_vlim _ ha0) ha0

theorem kept_evalDone {s0 : State} (a0 : State) (a1 : Nat) (ha0 : Kept s0 a0) : Kept s0 (State.evalDone a0 a1) := by
  delta State.evalDone
  extract_lets +onlyGivenNames -merge -useContext x0
  try clear_value x0
  split
  · refine Kept.ite ?_ ?_
    · exact ha0
    · extract_lets +onlyGivenNames -merge -useContext x1
      try clear_value x1
      extract_lets +onlyGivenNames -merge -useContext x2
      have h2 : Kept s0 x2 := by unfold x2; exact Kept.upd ha0 rfl rfl rfl rfl rfl rfl rfl
      clear_value x2
      extract_lets +onlyGivenNames -merge -useContext x3
      have h3 : Kept s0 x3 := by unfold x3; exact kept_modLc _ _ _ h2
      clear_value x3
      extract_lets +onlyGivenNames -merge -useContext x4
      have h4 : Kept s0 x4 := by unfold x4; exact Kept.ite (kept_report _ _ _ _ h3) h3
      clear_value x4
      extract_lets +onlyGivenNames -merge -useContext x5
      have h5 : Kept s0 x5 := by unfold x5; exact Kept.ite (kept_report _ _ _ _ (kept_cnt _ _ _ _ _ h4)) h4
      clear_value x5
      extract_lets +onlyGivenNames -merge -useContext x6
      try clear_value x6
      extract_lets +onlyGivenNames -merge -useContext x7
      have h7 : Kept s0 x7 := by unfold x7; exact kept_wf _ _ _ _ _ (kept_wf _ _ _ _ _ h5)
      clear_value x7
      extract_lets +onlyGivenNames -merge -useContext x8
      have h8 : Kept s0 x8 := by unfold x8; exact Kept.ite h7 (kept_satCount _ _ _ (kept_recordEval _ _ _ _ _ h7))
      clear_value x8
      extract_lets +onlyGivenNames -merge -useContext x9
      have h9 : Kept s0 x9 := by unfold x9; exact kept_deliver_ _ _ _ (kept_feedShadows _ _ _ _ h8)
      clear_value x9
      extract_lets +onlyGivenNames -merge -useContext x10
      have h10 : Kept s0 x10 := by unfold x10; exact Kept.ite (kept_groupSelect _ h9) h9
      clear_value x10
      exact kept_laneStep _ _ h10
  · exact ha0

theorem kept_execEvalComplete {s0 : State} (a0 : Cell) (a1 : State) (ha1 : Kept s0 a1) : KeptR s0 (execEvalComplete a0 a1) := by
  delta execEvalComplete
  exact KeptR.next (kept_evalDone _ _ ha1)

end Sys2Proof.Machine
end

