-- ==== Sys2Proof/Laws/KeptSpindle.lean ====
section
/-! SUPPORT. Laws/KeptSpindle.lean: the operations of Machine/Spindle.lean answer states that have been kept (Safety.lean). -/

namespace Sys2Proof.Machine
open Sys2Proof

theorem kept_modSpin {s0 : State} (a0 : State) (a1 : Spin → Spin) (ha0 : Kept s0 a0) : Kept s0 (State.modSpin a0 a1) := by
  delta State.modSpin
  exact Kept.upd ha0 rfl rfl rfl rfl rfl rfl rfl

theorem kept_spReport {s0 : State} (a0 : State) (a1 : Nat) (a2 : Nat) (ha0 : Kept s0 a0) : Kept s0 (State.spReport a0 a1 a2) := by
  delta State.spReport
  exact kept_report _ _ _ _ ha0

theorem kept_spClear {s0 : State} (a0 : State) (ha0 : Kept s0 a0) : Kept s0 (State.spClear a0) := by
  delta State.spClear
  exact Kept.ite (kept_inhibitAll _ _ _ ha0) ha0

theorem kept_spGo {s0 : State} (a0 : State) (a1 : Nat) (a2 : Nat) (a3 : Nat) (ha0 : Kept s0 a0) : Kept s0 (State.spGo a0 a1 a2 a3) := by
  delta State.spGo
  extract_lets +onlyGivenNames -merge -useContext x0
  try clear_value x0
  extract_lets +onlyGivenNames -merge -useContext x1
  have h1 : Kept s0 x1 := by unfold x1; exact kept_wf _ _ _ _ _ ha0
  clear_value x1
  extract_lets +onlyGivenNames -merge -useContext x2
  have h2 : Kept s0 x2 := by unfold x2; exact Kept.ite h1 (kept_inhibitAll _ _ _ (kept_wb _ _ _ _ _ h1))
  clear_value x2
  extract_lets +onlyGivenNames -merge -useContext x3
  have h3 : Kept s0 x3 := by unfold x3; exact Kept.ite h2 (kept_cellPreset _ _ _ (kept_cellPreset _ _ _ h2))
  clear_value x3
  extract_lets +onlyGivenNames -merge -useContext x4
  have h4 : Kept s0 x4 := by unfold x4; exact Kept.ite (kept_wb _ _ _ _ _ h2) (kept_gainReq _ _ _ (kept_gainReq _ _ _ h3))
  clear_value x4
  extract_lets +onlyGivenNames -merge -useContext x5
  try clear_value x5
  extract_lets +onlyGivenNames -merge -useContext x6
  try clear_value x6
  extract_lets +onlyGivenNames -merge -useContext x7
  have h7 : Kept s0 x7 := by
    unfold x7
    refine Kept.ite ?_ ?_
    · exact h4
    · refine Kept.foldl ?_ ?_
      · exact Kept.upd h4 rfl rfl rfl rfl rfl rfl rfl
      · intro y8 y9 hy8
        exact kept_cellPreset _ _ _ hy8
  clear_value x7
  extract_lets +onlyGivenNames -merge -useContext x10
  have h10 : Kept s0 x10 := by
    unfold x10
    refine Kept.ite ?_ ?_
    · exact h4
    · refine Kept.foldl ?_ ?_
      · exact h7
      · intro y11 y12 hy11
        exact kept_gainReq _ _ _ hy11
  clear_value x10
  extract_lets +onlyGivenNames -merge -useContext x13
  have h13 : Kept s0 x13 := by unfold x13; exact kept_modLc _ _ _ h10
  clear_value x13
  extract_lets +onlyGivenNames -merge -useContext x14
  have h14 : Kept s0 x14 := by unfold x14; exact Kept.ite (kept_modLc _ _ _ h13) (Kept.ite (kept_modLc _ _ _ h13) h13)
  clear_value x14
  exact kept_spClear _ h14

theorem kept_spMode {s0 : State} (a0 : State) (a1 : Nat) (ha0 : Kept s0 a0) : Kept s0 (State.spMode a0 a1) := by
  delta State.spMode
  exact Kept.ite (kept_spGo _ _ _ _ ha0) (kept_spGo _ _ _ _ ha0)

theorem kept_spPlan {s0 : State} (a0 : State) (a1 : Nat) (ha0 : Kept s0 a0) : Kept s0 (State.spPlan a0 a1) := by
  delta State.spPlan
  extract_lets +onlyGivenNames -merge -useContext x0
  try clear_value x0
  exact kept_pgBegin _ _ _ (kept_modPg _ _ _ ha0)

theorem kept_spAccel {s0 : State} (a0 : State) (ha0 : Kept s0 a0) : Kept s0 (State.spAccel a0) := by
  delta State.spAccel
  exact kept_modSpin _ _ (kept_spPlan _ _ (kept_spMode _ _ ha0))

theorem kept_spDetect {s0 : State} (a0 : State) (ha0 : Kept s0 a0) : Kept s0 (State.spDetect a0) := by
  delta State.spDetect
  exact kept_modSpin _ _ (kept_spMode _ _ ha0)

theorem kept_spStart {s0 : State} (a0 : State) (ha0 : Kept s0 a0) : Kept s0 (State.spStart a0) := by
  delta State.spStart
  exact Kept.ite (kept_modSpin _ _ ha0) (Kept.ite ha0 (Kept.ite (kept_spDetect _ (kept_modSpin _ _ ha0)) (Kept.ite (kept_spAccel _ ha0) ha0)))

theorem kept_execSpStart {s0 : State} (a0 : State) (ha0 : Kept s0 a0) : KeptR s0 (execSpStart a0) := by
  delta execSpStart
  exact KeptR.next (kept_spStart _ ha0)

theorem kept_spAttemptFail {s0 : State} (a0 : State) (ha0 : Kept s0 a0) : Kept s0 (State.spAttemptFail a0) := by
  delta State.spAttemptFail
  extract_lets +onlyGivenNames -merge -useContext x0
  try clear_value x0
  extract_lets +onlyGivenNames -merge -useContext x1
  have h1 : Kept s0 x1 := by unfold x1; exact kept_modSpin _ _ (kept_lifeCount _ _ (kept_cnt _ _ _ _ _ ha0))
  clear_value x1
  exact Kept.ite (kept_spReport _ _ _ (kept_spMode _ _ h1)) (kept_spMode _ _ h1)

theorem kept_execDetectTimeout {s0 : State} (a0 : State) (ha0 : Kept s0 a0) : KeptR s0 (execDetectTimeout a0) := by
  delta execDetectTimeout
  exact KeptR.next (Kept.ite (kept_modSpin _ _ ha0) ha0)

theorem kept_execOffsetCalDone {s0 : State} (a0 : Int) (a1 : Int) (a2 : State) (ha2 : Kept s0 a2) : KeptR s0 (execOffsetCalDone a0 a1 a2) := by
  delta execOffsetCalDone
  refine KeptR.ite ?_ ?_
  · extract_lets +onlyGivenNames -merge -useContext x0
    have h0 : Kept s0 x0 := by unfold x0; exact kept_wf _ _ _ _ _ (kept_wf _ _ _ _ _ ha2)
    clear_value x0
    exact KeptR.ite (KeptR.next (kept_spReport _ _ _ (kept_modSpin _ _ (kept_spMode _ _ h0)))) (KeptR.next (kept_modSpin _ _ h0))
  · exact KeptR.next ha2

theorem kept_testPulse {s0 : State} (a0 : State) (a1 : Nat) (ha0 : Kept s0 a0) : Kept s0 (State.testPulse a0 a1) := by
  delta State.testPulse
  refine Kept.ite ?_ ?_
  · exact ha0
  · extract_lets +onlyGivenNames -merge -useContext x0
    try clear_value x0
    refine Kept.ite ?_ ?_
    · exact kept_modSpin _ _ ha0
    · extract_lets +onlyGivenNames -merge -useContext x1
      try clear_value x1
      refine Kept.ite ?_ ?_
      · extract_lets +onlyGivenNames -merge -useContext x2
        try clear_value x2
        exact kept_spMode _ _ (kept_wf _ _ _ _ _ (kept_modSpin _ _ ha0))
      · exact Kept.ite (kept_modSpin _ _ ha0) (kept_spAttemptFail _ (kept_modSpin _ _ ha0))

theorem kept_execTestPulseDone {s0 : State} (a0 : Nat) (a1 : State) (ha1 : Kept s0 a1) : KeptR s0 (execTestPulseDone a0 a1) := by
  delta execTestPulseDone
  exact KeptR.next (kept_testPulse _ _ ha1)

theorem kept_execStartAttemptTimeout {s0 : State} (a0 : State) (ha0 : Kept s0 a0) : KeptR s0 (execStartAttemptTimeout a0) := by
  delta execStartAttemptTimeout
  exact KeptR.next (Kept.ite (kept_spAttemptFail _ ha0) ha0)

theorem kept_execStartRestartDelay {s0 : State} (a0 : State) (ha0 : Kept s0 a0) : KeptR s0 (execStartRestartDelay a0) := by
  delta execStartRestartDelay
  exact KeptR.next (Kept.ite (kept_spDetect _ ha0) ha0)

theorem kept_spZvBrake {s0 : State} (a0 : State) (a1 : Nat) (ha0 : Kept s0 a0) : Kept s0 (State.spZvBrake a0 a1) := by
  delta State.spZvBrake
  exact kept_modSpin _ _ (kept_spMode _ _ ha0)

theorem kept_spProceed {s0 : State} (a0 : State) (ha0 : Kept s0 a0) : Kept s0 (State.spProceed a0) := by
  delta State.spProceed
  refine Kept.ite ?_ ?_
  · exact ha0
  · extract_lets +onlyGivenNames -merge -useContext x0
    have h0 : Kept s0 x0 := by unfold x0; exact kept_modSpin _ _ ha0
    clear_value x0
    extract_lets +onlyGivenNames -merge -useContext x1
    have h1 : Kept s0 x1 := by unfold x1; exact Kept.ite (Kept.ite h0 (kept_spZvBrake _ _ h0)) ha0
    clear_value x1
    refine Kept.ite ?_ ?_
    · extract_lets +onlyGivenNames -merge -useContext x2
      have h2 : Kept s0 x2 := by unfold x2; exact kept_modSpin _ _ h1
      clear_value x2
      exact Kept.ite (kept_spPlan _ _ (kept_spMode _ _ h2)) (Kept.ite (kept_spZvBrake _ _ h2) (Kept.ite (kept_modSpin _ _ h2) h2))
    · exact h1

theorem kept_spStop {s0 : State} (a0 : State) (ha0 : Kept s0 a0) : Kept s0 (State.spStop a0) := by
  delta State.spStop
  exact Kept.ite ha0 (Kept.ite (kept_modSpin _ _ ha0) (Kept.ite (kept_modSpin _ _ ha0) (kept_spProceed _ (kept_modSpin _ _ (kept_parkAll _ ha0)))))

theorem kept_execSpStop {s0 : State} (a0 : State) (ha0 : Kept s0 a0) : KeptR s0 (execSpStop a0) := by
  delta execSpStop
  exact KeptR.next (kept_spStop _ ha0)

theorem kept_spCoast {s0 : State} (a0 : State) (ha0 : Kept s0 a0) : Kept s0 (State.spCoast a0) := by
  delta State.spCoast
  exact Kept.ite ha0 (Kept.ite (kept_modSpin _ _ ha0) (kept_modSpin _ _ (kept_spMode _ _ ha0)))

theorem kept_execSpCoast {s0 : State} (a0 : State) (ha0 : Kept s0 a0) : KeptR s0 (execSpCoast a0) := by
  delta execSpCoast
  exact KeptR.next (kept_spCoast _ ha0)

theorem kept_spReset {s0 : State} (a0 : State) (a1 : Bool) (ha0 : Kept s0 a0) : Kept s0 (State.spReset a0 a1) := by
  delta State.spReset
  exact Kept.ite (kept_modSpin _ _ (kept_spMode _ _ (kept_wb _ _ _ _ _ (kept_wb _ _ _ _ _ ha0)))) ha0

theorem kept_execSpReset {s0 : State} (a0 : Bool) (a1 : State) (ha1 : Kept s0 a1) : KeptR s0 (execSpReset a0 a1) := by
  delta execSpReset
  exact KeptR.next (kept_spReset _ _ ha1)

theorem kept_execOv1Cross {s0 : State} (a0 : Bool) (a1 : State) (ha1 : Kept s0 a1) : KeptR s0 (execOv1Cross a0 a1) := by
  delta execOv1Cross
  exact KeptR.next (kept_wb _ _ _ _ _ ha1)

theorem kept_execChopperFault {s0 : State} (a0 : State) (ha0 : Kept s0 a0) : KeptR s0 (execChopperFault a0) := by
  delta execChopperFault
  refine KeptR.ite ?_ ?_
  · extract_lets +onlyGivenNames -merge -useContext x0
    have h0 : Kept s0 x0 := by unfold x0; exact kept_modSpin _ _ (kept_wb _ _ _ _ _ ha0)
    clear_value x0
    extract_lets +onlyGivenNames -merge -useContext x1
    have h1 : Kept s0 x1 := by unfold x1; exact Kept.ite (kept_modLc _ _ _ h0) h0
    clear_value x1
    exact KeptR.next (kept_spProceed _ (kept_spReport _ _ _ (kept_retractAll _ h1)))
  · exact KeptR.next ha0

theorem kept_execOv2Trip {s0 : State} (a0 : State) (ha0 : Kept s0 a0) : KeptR s0 (execOv2Trip a0) := by
  delta execOv2Trip
  exact KeptR.next (kept_spReport _ _ _ (kept_wb _ _ _ _ _ (kept_spMode _ _ ha0)))

theorem kept_obsLoss {s0 : State} (a0 : State) (ha0 : Kept s0 a0) : Kept s0 (State.obsLoss a0) := by
  delta State.obsLoss
  extract_lets +onlyGivenNames -merge -useContext x0
  try clear_value x0
  extract_lets +onlyGivenNames -merge -useContext x1
  have h1 : Kept s0 x1 := by unfold x1; exact kept_modSpin _ _ ha0
  clear_value x1
  exact kept_spReport _ _ _ (kept_spMode _ _ (kept_cnt _ _ _ _ _ (kept_wb _ _ _ _ _ h1)))

theorem kept_spGenerate {s0 : State} (a0 : State) (ha0 : Kept s0 a0) : Kept s0 (State.spGenerate a0) := by
  delta State.spGenerate
  extract_lets +onlyGivenNames -merge -useContext x0
  have h0 : Kept s0 x0 := by unfold x0; exact kept_spMode _ _ ha0
  clear_value x0
  exact kept_modLc _ _ _ h0

theorem kept_powerLost {s0 : State} (a0 : State) (ha0 : Kept s0 a0) : Kept s0 (State.powerLost a0) := by
  delta State.powerLost
  extract_lets +onlyGivenNames -merge -useContext x0
  have h0 : Kept s0 x0 := by unfold x0; exact kept_inhibitAll _ _ _ ha0
  clear_value x0
  extract_lets +onlyGivenNames -merge -useContext x1
  have h1 : Kept s0 x1 := by
    unfold x1
    refine Kept.foldl ?_ ?_
    · exact h0
    · intro y2 y3 hy2
      exact Kept.ite hy2 (kept_startRetract _ _ hy2)
  clear_value x1
  exact Kept.ite (kept_modSpin _ _ h1) (Kept.ite (kept_spGenerate _ h1) h1)

theorem kept_powerBack {s0 : State} (a0 : State) (ha0 : Kept s0 a0) : Kept s0 (State.powerBack a0) := by
  delta State.powerBack
  extract_lets +onlyGivenNames -merge -useContext x0
  have h0 : Kept s0 x0 := by unfold x0; exact kept_modSpin _ _ ha0
  clear_value x0
  exact Kept.ite (kept_spAccel _ h0) h0

theorem kept_execUndervoltTimeout {s0 : State} (a0 : State) (ha0 : Kept s0 a0) : KeptR s0 (execUndervoltTimeout a0) := by
  delta execUndervoltTimeout
  exact KeptR.next (kept_spReport _ _ _ (kept_powerLost _ ha0))

theorem kept_flySpeed {s0 : State} (a0 : State) (ha0 : Kept s0 a0) : Kept s0 (State.flySpeed a0) := by
  delta State.flySpeed
  exact Kept.ite (kept_spReport _ _ _ (kept_retractAll _ ha0)) ha0

theorem kept_holdReturn {s0 : State} (a0 : State) (ha0 : Kept s0 a0) : Kept s0 (State.holdReturn a0) := by
  delta State.holdReturn
  extract_lets +onlyGivenNames -merge -useContext x0
  try clear_value x0
  extract_lets +onlyGivenNames -merge -useContext x1
  have h1 : Kept s0 x1 := by unfold x1; exact kept_spMode _ _ ha0
  clear_value x1
  extract_lets +onlyGivenNames -merge -useContext x2
  have h2 : Kept s0 x2 := by unfold x2; exact Kept.ite (kept_modLc _ _ _ h1) h1
  clear_value x2
  extract_lets +onlyGivenNames -merge -useContext x3
  try clear_value x3
  extract_lets +onlyGivenNames -merge -useContext x4
  have h4 : Kept s0 x4 := by unfold x4; exact kept_modSpin _ _ h2
  clear_value x4
  extract_lets +onlyGivenNames -merge -useContext x5
  have h5 : Kept s0 x5 := by unfold x5; exact Kept.ite (kept_spGenerate _ h4) h4
  clear_value x5
  exact Kept.ite (kept_spStart _ h5) (Kept.ite (kept_spStop _ h5) (Kept.ite (kept_spCoast _ h5) h5))

theorem kept_holdSample {s0 : State} (a0 : State) (a1 : Int) (ha0 : Kept s0 a0) : Kept s0 (State.holdSample a0 a1) := by
  delta State.holdSample
  refine Kept.ite ?_ ?_
  · exact ha0
  · extract_lets +onlyGivenNames -merge -useContext x0
    try clear_value x0
    extract_lets +onlyGivenNames -merge -useContext x1
    have h1 : Kept s0 x1 := by unfold x1; exact kept_flySpeed _ ha0
    clear_value x1
    extract_lets +onlyGivenNames -merge -useContext x2
    have h2 : Kept s0 x2 := by unfold x2; exact kept_modSpin _ _ h1
    clear_value x2
    extract_lets +onlyGivenNames -merge -useContext x3
    try clear_value x3
    extract_lets +onlyGivenNames -merge -useContext x4
    try clear_value x4
    refine Kept.ite ?_ ?_
    · extract_lets +onlyGivenNames -merge -useContext x5
      try clear_value x5
      extract_lets +onlyGivenNames -merge -useContext x6
      try clear_value x6
      extract_lets +onlyGivenNames -merge -useContext x7
      have h7 : Kept s0 x7 := by unfold x7; exact kept_modSpin _ _ (kept_wf _ _ _ _ _ h2)
      clear_value x7
      exact kept_holdReturn _ h7
    · exact h2

theorem kept_execHoldPeriodSample {s0 : State} (a0 : Int) (a1 : State) (ha1 : Kept s0 a1) : KeptR s0 (execHoldPeriodSample a0 a1) := by
  delta execHoldPeriodSample
  exact KeptR.next (kept_holdSample _ _ ha1)

theorem kept_execHoldTimeout {s0 : State} (a0 : State) (ha0 : Kept s0 a0) : KeptR s0 (execHoldTimeout a0) := by
  delta execHoldTimeout
  refine KeptR.ite ?_ ?_
  · extract_lets +onlyGivenNames -merge -useContext x0
    have h0 : Kept s0 x0 := by unfold x0; exact kept_modSpin _ _ (kept_spReport _ _ _ (kept_spMode _ _ (kept_retractAll _ ha0)))
    clear_value x0
    exact KeptR.next (kept_spMode _ _ h0)
  · exact KeptR.next ha0

theorem kept_observe {s0 : State} (a0 : State) (a1 : Int) (a2 : Int) (ha0 : Kept s0 a0) : Kept s0 (State.observe a0 a1 a2).2 := by
  delta State.observe
  extract_lets +onlyGivenNames -merge -useContext x0
  try clear_value x0
  extract_lets +onlyGivenNames -merge -useContext x1
  try clear_value x1
  extract_lets +onlyGivenNames -merge -useContext x2
  try clear_value x2
  extract_lets +onlyGivenNames -merge -useContext x3
  try clear_value x3
  extract_lets +onlyGivenNames -merge -useContext x4
  try clear_value x4
  extract_lets +onlyGivenNames -merge -useContext x5
  try clear_value x5
  extract_lets +onlyGivenNames -merge -useContext x6
  try clear_value x6
  extract_lets +onlyGivenNames -merge -useContext x7
  try clear_value x7
  extract_lets +onlyGivenNames -merge -useContext x8
  try clear_value x8
  extract_lets +onlyGivenNames -merge -useContext x9
  try clear_value x9
  extract_lets +onlyGivenNames -merge -useContext x10
  try clear_value x10
  extract_lets +onlyGivenNames -merge -useContext x11
  have h11 : Kept s0 x11 := by unfold x11; exact kept_modSpin _ _ ha0
  clear_value x11
  show Kept s0 _
  exact kept_wf _ _ _ _ _ (kept_wf _ _ _ _ _ h11)

theorem kept_obsLock {s0 : State} (a0 : State) (a1 : Int) (a2 : Bool) (ha0 : Kept s0 a0) : Kept s0 (State.obsLock a0 a1 a2) := by
  delta State.obsLock
  extract_lets +onlyGivenNames -merge -useContext x0
  try clear_value x0
  extract_lets +onlyGivenNames -merge -useContext x1
  try clear_value x1
  extract_lets +onlyGivenNames -merge -useContext x2
  have h2 : Kept s0 x2 := by unfold x2; exact kept_modSpin _ _ ha0
  clear_value x2
  refine Kept.ite ?_ ?_
  · exact h2
  · extract_lets +onlyGivenNames -merge -useContext x3
    have h3 : Kept s0 x3 := by unfold x3; exact kept_modSpin _ _ h2
    clear_value x3
    exact Kept.ite (Kept.ite (Kept.ite (kept_obsLoss _ h3) (kept_wb _ _ _ _ _ h3)) h3) (Kept.ite (kept_spClear _ (kept_wb _ _ _ _ _ h3)) h3)

theorem kept_currentCheck {s0 : State} (a0 : State) (a1 : Int) (a2 : Int) (ha0 : Kept s0 a0) : Kept s0 (State.currentCheck a0 a1 a2) := by
  delta State.currentCheck
  refine Kept.ite ?_ ?_
  · extract_lets +onlyGivenNames -merge -useContext x0
    have h0 : Kept s0 x0 := by unfold x0; exact kept_spReport _ _ _ (kept_modSpin _ _ ha0)
    clear_value x0
    exact Kept.ite (kept_spReport _ _ _ (kept_spMode _ _ h0)) h0
  · exact kept_modSpin _ _ ha0

theorem kept_currentTick {s0 : State} (a0 : State) (a1 : Int) (a2 : Int) (a3 : Nat) (ha0 : Kept s0 a0) : Kept s0 (State.currentTick a0 a1 a2 a3) := by
  delta State.currentTick
  extract_lets +onlyGivenNames -merge -useContext x0
  have h0 : Kept s0 x0 := by unfold x0; exact kept_wf _ _ _ _ _ (kept_wf _ _ _ _ _ (kept_wf _ _ _ _ _ ha0))
  clear_value x0
  refine Kept.ite ?_ ?_
  · exact h0
  · extract_lets +onlyGivenNames -merge -useContext x1
    try clear_value x1
    extract_lets +onlyGivenNames -merge -useContext x2
    try clear_value x2
    extract_lets +onlyGivenNames -merge -useContext x3
    try clear_value x3
    extract_lets +onlyGivenNames -merge -useContext x4
    have h4 : Kept s0 x4 := by unfold x4; exact kept_wf _ _ _ _ _ (kept_wf _ _ _ _ _ h0)
    clear_value x4
    extract_lets +onlyGivenNames -merge -useContext x5
    have h5 : Kept s0 x5 := by unfold x5; exact kept_currentCheck _ _ _ h4
    clear_value x5
    extract_lets +onlyGivenNames -merge -useContext x6
    have h6 : Kept s0 x6.2 := by unfold x6; exact kept_observe _ _ _ h5
    clear_value x6
    extract_lets +onlyGivenNames -merge -useContext x7
    have h7 : Kept s0 x7 := by
      unfold x7
      refine Kept.ite ?_ ?_
      · exact kept_wf _ _ _ _ _ h5
      · with_reducible apply kept_obsLock
        · exact h6
    clear_value x7
    extract_lets +onlyGivenNames -merge -useContext x8
    have h8 : Kept s0 x8 := by unfold x8; exact Kept.ite (kept_lifeCount _ _ (kept_spAccel _ (kept_modSpin _ _ h7))) h7
    clear_value x8
    extract_lets +onlyGivenNames -merge -useContext x9
    have h9 : Kept s0 x9 := by unfold x9; exact Kept.ite (kept_spZvBrake _ _ h8) h8
    clear_value x9
    extract_lets +onlyGivenNames -merge -useContext x10
    have h10 : Kept s0 x10 := by unfold x10; exact Kept.ite (kept_modLc _ _ _ h9) h9
    clear_value x10
    refine Kept.ite ?_ ?_
    · extract_lets +onlyGivenNames -merge -useContext x11
      have h11 : Kept s0 x11 := by unfold x11; exact kept_cellTrig _ _ _ _ _ _ h10
      clear_value x11
      exact kept_cellTrig _ _ _ _ _ _ h11
    · exact h10

theorem kept_execCurrentTick {s0 : State} (a0 : Int) (a1 : Int) (a2 : BitVec 16) (a3 : State) (ha3 : Kept s0 a3) : KeptR s0 (execCurrentTick a0 a1 a2 a3) := by
  delta execCurrentTick
  exact KeptR.next (kept_currentTick _ _ _ _ ha3)

theorem kept_spTemp {s0 : State} (a0 : State) (a1 : Int) (a2 : Nat) (ha0 : Kept s0 a0) : Kept s0 (State.spTemp a0 a1 a2) := by
  delta State.spTemp
  extract_lets +onlyGivenNames -merge -useContext x0
  try clear_value x0
  extract_lets +onlyGivenNames -merge -useContext x1
  try clear_value x1
  extract_lets +onlyGivenNames -merge -useContext x2
  have h2 : Kept s0 x2 := by unfold x2; exact Kept.ite (kept_spReport _ _ _ ha0) ha0
  clear_value x2
  extract_lets +onlyGivenNames -merge -useContext x3
  try clear_value x3
  extract_lets +onlyGivenNames -merge -useContext x4
  have h4 : Kept s0 x4 := by unfold x4; exact kept_modSpin _ _ h2
  clear_value x4
  exact kept_wf _ _ _ _ _ (kept_wf _ _ _ _ _ h4)

theorem kept_speedTick {s0 : State} (a0 : State) (a1 : Nat) (a2 : Int) (a3 : Int) (a4 : List Nat) (ha0 : Kept s0 a0) : Kept s0 (State.speedTick a0 a1 a2 a3 a4) := by
  delta State.speedTick
  extract_lets +onlyGivenNames -merge -useContext x0
  have h0 : Kept s0 x0 := by unfold x0; exact kept_spTemp _ _ _ (kept_wf _ _ _ _ _ ha0)
  clear_value x0
  extract_lets +onlyGivenNames -merge -useContext x1
  try clear_value x1
  extract_lets +onlyGivenNames -merge -useContext x2
  have h2 : Kept s0 x2 := by unfold x2; exact kept_cellTrig _ _ _ _ _ _ h0
  clear_value x2
  extract_lets +onlyGivenNames -merge -useContext x3
  have h3 : Kept s0 x3 := by unfold x3; exact kept_cellTrig _ _ _ _ _ _ h2
  clear_value x3
  extract_lets +onlyGivenNames -merge -useContext x4
  have h4 : Kept s0 x4 := by unfold x4; exact kept_cellTrig _ _ _ _ _ _ h3
  clear_value x4
  extract_lets +onlyGivenNames -merge -useContext x5
  have h5 : Kept s0 x5 := by unfold x5; exact Kept.ite (kept_cellTrig _ _ _ _ _ _ h4) h0
  clear_value x5
  extract_lets +onlyGivenNames -merge -useContext x6
  have h6 : Kept s0 x6 := by unfold x6; exact kept_modSpin _ _ h5
  clear_value x6
  extract_lets +onlyGivenNames -merge -useContext x7
  have h7 : Kept s0 x7 := by unfold x7; exact Kept.ite (Kept.ite (kept_exitLoad _ (kept_wb _ _ _ _ _ (kept_spMode _ _ h6))) h6) (Kept.ite (kept_spAccel _ h5) h5)
  clear_value x7
  extract_lets +onlyGivenNames -merge -useContext x8
  try clear_value x8
  extract_lets +onlyGivenNames -merge -useContext x9
  try clear_value x9
  extract_lets +onlyGivenNames -merge -useContext x10
  have h10 : Kept s0 x10 := by unfold x10; exact Kept.upd h7 rfl rfl rfl rfl rfl rfl rfl
  clear_value x10
  extract_lets +onlyGivenNames -merge -useContext x11
  have h11 : Kept s0 x11 := by unfold x11; exact Kept.ite (kept_resCheck _ _ _ _ _ h10) h10
  clear_value x11
  extract_lets +onlyGivenNames -merge -useContext x12
  have h12 : Kept s0 x12 := by unfold x12; exact kept_flySpeed _ h11
  clear_value x12
  refine Kept.foldl ?_ ?_
  · exact h12
  · intro y13 y14 hy13
    split
    · exact kept_truSpeed _ _ _ hy13
    · exact hy13

theorem kept_execSpeedTick {s0 : State} (a0 : Nat) (a1 : Int) (a2 : Int) (a3 : List Nat) (a4 : State) (ha4 : Kept s0 a4) : KeptR s0 (execSpeedTick a0 a1 a2 a3 a4) := by
  delta execSpeedTick
  exact KeptR.next (kept_speedTick _ _ _ _ _ ha4)

theorem kept_bemf {s0 : State} (a0 : State) (a1 : Nat) (a2 : Nat) (a3 : Nat) (ha0 : Kept s0 a0) : Kept s0 (State.bemf a0 a1 a2 a3) := by
  delta State.bemf
  refine Kept.ite ?_ ?_
  · exact kept_modSpin _ _ (kept_spMode _ _ ha0)
  · refine Kept.ite ?_ ?_
    · extract_lets +onlyGivenNames -merge -useContext x0
      try clear_value x0
      extract_lets +onlyGivenNames -merge -useContext x1
      have h1 : Kept s0 x1 := by unfold x1; exact kept_modSpin _ _ ha0
      clear_value x1
      refine Kept.ite ?_ ?_
      · exact h1
      · extract_lets +onlyGivenNames -merge -useContext x2
        try clear_value x2
        extract_lets +onlyGivenNames -merge -useContext x3
        have h3 : Kept s0 x3 := by unfold x3; exact kept_modSpin _ _ (kept_wf _ _ _ _ _ h1)
        clear_value x3
        refine Kept.ite ?_ ?_
        · extract_lets +onlyGivenNames -merge -useContext x4
          try clear_value x4
          extract_lets +onlyGivenNames -merge -useContext x5
          have h5 : Kept s0 x5 := by unfold x5; exact kept_modSpin _ _ (kept_wf _ _ _ _ _ h3)
          clear_value x5
          exact kept_spPlan _ _ (kept_spGo _ _ _ _ h5)
        · exact kept_spZvBrake _ _ h3
    · exact ha0

theorem kept_execBemfCrossing {s0 : State} (a0 : Nat) (a1 : BitVec 16) (a2 : Nat) (a3 : State) (ha3 : Kept s0 a3) : KeptR s0 (execBemfCrossing a0 a1 a2 a3) := by
  delta execBemfCrossing
  exact KeptR.next (kept_bemf _ _ _ _ ha3)

theorem kept_execCrossingTimeout {s0 : State} (a0 : State) (ha0 : Kept s0 a0) : KeptR s0 (execCrossingTimeout a0) := by
  delta execCrossingTimeout
  extract_lets +onlyGivenNames -merge -useContext x0
  have h0 : Kept s0 x0 := by unfold x0; exact kept_wf _ _ _ _ _ ha0
  clear_value x0
  exact KeptR.ite (KeptR.next (kept_modSpin _ _ (kept_spDetect _ h0))) (KeptR.ite (KeptR.next (Kept.ite (kept_spDetect _ h0) (kept_modSpin _ _ (kept_spMode _ _ h0)))) (KeptR.next ha0))

end Sys2Proof.Machine
end

