-- ==== Sys2Proof/Laws/KeptServo.lean ====
section
/-! SUPPORT. Laws/KeptServo.lean: the operations of Machine/Servo.lean answer states that have been kept (Safety.lean). -/

namespace Sys2Proof.Machine
open Sys2Proof

theorem kept_seekZone {s0 : State} (a0 : State) (a1 : Nat) (a2 : Nat) (ha0 : Kept s0 a0) : Kept s0 (State.seekZone a0 a1 a2) := by
  delta State.seekZone
  refine Kept.foldl ?_ ?_
  · exact ha0
  · intro y0 y1 hy0
    extract_lets +onlyGivenNames -merge -useContext x2
    try clear_value x2
    extract_lets +onlyGivenNames -merge -useContext x3
    try clear_value x3
    extract_lets +onlyGivenNames -merge -useContext x4
    have h4 : Kept s0 x4 := by unfold x4; exact Kept.ite (Kept.ite (kept_modCh _ _ _ hy0) (kept_calEnd _ _ _ hy0)) hy0
    clear_value x4
    extract_lets +onlyGivenNames -merge -useContext x5
    have h5 : Kept s0 x5 := by unfold x5; exact Kept.ite h4 (kept_retune _ _ _ h4)
    clear_value x5
    exact kept_loadSets _ _ _ _ h5

theorem kept_seekBegin {s0 : State} (a0 : State) (a1 : Nat) (a2 : Nat) (a3 : Nat) (a4 : Nat) (a5 : Bool) (ha0 : Kept s0 a0) : Kept s0 (State.seekBegin a0 a1 a2 a3 a4 a5) := by
  delta State.seekBegin
  extract_lets +onlyGivenNames -merge -useContext x0
  try clear_value x0
  extract_lets +onlyGivenNames -merge -useContext x1
  try clear_value x1
  extract_lets +onlyGivenNames -merge -useContext x2
  try clear_value x2
  extract_lets +onlyGivenNames -merge -useContext x3
  try clear_value x3
  extract_lets +onlyGivenNames -merge -useContext x4
  try clear_value x4
  extract_lets +onlyGivenNames -merge -useContext x5
  try clear_value x5
  extract_lets +onlyGivenNames -merge -useContext x6
  have h6 : Kept s0 x6 := by unfold x6; exact kept_setAct _ _ _ (kept_softOff _ _ ha0)
  clear_value x6
  extract_lets +onlyGivenNames -merge -useContext x7
  have h7 : Kept s0 x7 := by unfold x7; exact kept_wf _ _ _ _ _ (kept_wf _ _ _ _ _ h6)
  clear_value x7
  extract_lets +onlyGivenNames -merge -useContext x8
  have h8 : Kept s0 x8 := by unfold x8; exact kept_wf _ _ _ _ _ h7
  clear_value x8
  extract_lets +onlyGivenNames -merge -useContext x9
  try clear_value x9
  extract_lets +onlyGivenNames -merge -useContext x10
  try clear_value x10
  extract_lets +onlyGivenNames -merge -useContext x11
  have h11 : Kept s0 x11 := by unfold x11; exact kept_modSv _ _ _ h8
  clear_value x11
  extract_lets +onlyGivenNames -merge -useContext x12
  have h12 : Kept s0 x12 := by
    unfold x12
    refine Kept.foldl ?_ ?_
    · exact h11
    · intro y13 y14 hy13
      exact kept_modHd _ _ _ (kept_wbit _ _ _ _ _ _ hy13)
  clear_value x12
  extract_lets +onlyGivenNames -merge -useContext x15
  have h15 : Kept s0 x15 := by unfold x15; exact Kept.ite h12 (kept_emit _ _ h12)
  clear_value x15
  exact kept_seekZone _ _ _ h15

theorem kept_seekReq {s0 : State} (a0 : State) (a1 : Nat) (a2 : Nat) (a3 : Nat) (a4 : Nat) (ha0 : Kept s0 a0) : Kept s0 (State.seekReq a0 a1 a2 a3 a4) := by
  delta State.seekReq
  extract_lets +onlyGivenNames -merge -useContext x0
  try clear_value x0
  extract_lets +onlyGivenNames -merge -useContext x1
  have h1 : Kept s0 x1 := by unfold x1; exact kept_modSv _ _ _ ha0
  clear_value x1
  exact Kept.ite ha0 (Kept.ite h1 (Kept.ite (kept_seekBegin _ _ _ _ _ _ ha0) (kept_emit _ _ ha0)))

theorem kept_execSeekRequest {s0 : State} (a0 : Act) (a1 : BitVec 20) (a2 : BitVec 11) (a3 : BitVec 11) (a4 : State) (ha4 : Kept s0 a4) : KeptR s0 (execSeekRequest a0 a1 a2 a3 a4) := by
  delta execSeekRequest
  exact KeptR.next (kept_seekReq _ _ _ _ _ ha4)

theorem kept_vcTarget {s0 : State} (a0 : State) (a1 : Nat) (a2 : Nat) (ha0 : Kept s0 a0) : Kept s0 (State.vcTarget a0 a1 a2) := by
  delta State.vcTarget
  extract_lets +onlyGivenNames -merge -useContext x0
  have h0 : Kept s0 x0 := by unfold x0; exact kept_wf _ _ _ _ _ ha0
  clear_value x0
  exact Kept.ite (kept_seekReq _ _ _ _ _ h0) h0

theorem kept_execVcTargetWrite {s0 : State} (a0 : Act) (a1 : BitVec 20) (a2 : State) (ha2 : Kept s0 a2) : KeptR s0 (execVcTargetWrite a0 a1 a2) := by
  delta execVcTargetWrite
  exact KeptR.next (kept_vcTarget _ _ _ ha2)

theorem kept_settleEnter {s0 : State} (a0 : State) (a1 : Nat) (ha0 : Kept s0 a0) : Kept s0 (State.settleEnter a0 a1) := by
  delta State.settleEnter
  split
  · exact ha0
  · extract_lets +onlyGivenNames -merge -useContext x0
    have h0 : Kept s0 x0 := by unfold x0; exact kept_gainReq _ _ _ (kept_setAct _ _ _ (kept_modSv _ _ _ ha0))
    clear_value x0
    extract_lets +onlyGivenNames -merge -useContext x1
    have h1 : Kept s0 x1 := by unfold x1; exact kept_wf _ _ _ _ _ h0
    clear_value x1
    extract_lets +onlyGivenNames -merge -useContext x2
    have h2 : Kept s0 x2 := by
      unfold x2
      refine Kept.foldl ?_ ?_
      · exact h1
      · intro y3 y4 hy3
        split
        · exact kept_gainReq _ _ _ hy3
        · exact hy3
    clear_value x2
    refine Kept.foldl ?_ ?_
    · exact h2
    · intro y5 y6 hy5
      exact Kept.ite (kept_modCh _ _ _ hy5) hy5

theorem kept_seekNext {s0 : State} (a0 : State) (a1 : Nat) (ha0 : Kept s0 a0) : Kept s0 (State.seekNext a0 a1) := by
  delta State.seekNext
  split
  · exact kept_seekBegin _ _ _ _ _ _ (kept_modSv _ _ _ ha0)
  · exact kept_settleEnter _ _ ha0

theorem kept_seekGo {s0 : State} (a0 : State) (a1 : Nat) (a2 : Seek) (ha0 : Kept s0 a0) : Kept s0 (State.seekGo a0 a1 a2) := by
  delta State.seekGo
  extract_lets +onlyGivenNames -merge -useContext x0
  try clear_value x0
  extract_lets +onlyGivenNames -merge -useContext x1
  have h1 : Kept s0 x1 := by
    unfold x1
    refine Kept.foldl ?_ ?_
    · exact ha0
    · intro y2 y3 hy2
      split
      · exact kept_gainReq _ _ _ hy2
      · exact hy2
  clear_value x1
  refine Kept.ite ?_ ?_
  · exact kept_settleEnter _ _ h1
  · extract_lets +onlyGivenNames -merge -useContext x4
    have h4 : Kept s0 x4 := by unfold x4; exact kept_modPg _ _ _ h1
    clear_value x4
    exact kept_wf _ _ _ _ _ (kept_gainReq _ _ _ (kept_modSv _ _ _ (kept_pgBegin _ _ _ h4)))

theorem kept_settleTimeout {s0 : State} (a0 : State) (a1 : Nat) (ha0 : Kept s0 a0) : Kept s0 (State.settleTimeout a0 a1) := by
  delta State.settleTimeout
  split
  · exact ha0
  · refine Kept.ite ?_ ?_
    · exact ha0
    · refine Kept.ite ?_ ?_
      · exact kept_report _ _ _ _ (kept_startPark _ _ ha0)
      · extract_lets +onlyGivenNames -merge -useContext x0
        have h0 : Kept s0 x0 := by unfold x0; exact kept_report _ _ _ _ (kept_cnt _ _ _ _ _ ha0)
        clear_value x0
        exact kept_seekBegin _ _ _ _ _ _ h0

theorem kept_execSettleTimeout {s0 : State} (a0 : Act) (a1 : State) (ha1 : Kept s0 a1) : KeptR s0 (execSettleTimeout a0 a1) := by
  delta execSettleTimeout
  exact KeptR.next (kept_settleTimeout _ _ ha1)

theorem kept_headJog {s0 : State} (a0 : State) (a1 : Nat) (a2 : Nat) (a3 : Bool) (ha0 : Kept s0 a0) : Kept s0 (State.headJog a0 a1 a2 a3) := by
  delta State.headJog
  split
  · refine Kept.ite ?_ ?_
    · exact ha0
    · extract_lets +onlyGivenNames -merge -useContext x0
      try clear_value x0
      extract_lets +onlyGivenNames -merge -useContext x1
      have h1 : Kept s0 x1 := by
        unfold x1
        refine Kept.foldl ?_ ?_
        · exact ha0
        · intro y2 y3 hy2
          exact Kept.ite hy2 (kept_wbit _ _ _ _ _ _ hy2)
      clear_value x1
      extract_lets +onlyGivenNames -merge -useContext x4
      try clear_value x4
      extract_lets +onlyGivenNames -merge -useContext x5
      try clear_value x5
      extract_lets +onlyGivenNames -merge -useContext x6
      try clear_value x6
      refine Kept.ite ?_ ?_
      · extract_lets +onlyGivenNames -merge -useContext x7
        have h7 : Kept s0 x7 := by unfold x7; exact kept_wbit _ _ _ _ _ _ (kept_wbit _ _ _ _ _ _ (kept_inhibit _ _ _ _ h1))
        clear_value x7
        extract_lets +onlyGivenNames -merge -useContext x8
        have h8 : Kept s0 x8 := by unfold x8; exact kept_modSv _ _ _ h7
        clear_value x8
        extract_lets +onlyGivenNames -merge -useContext x9
        have h9 : Kept s0 x9 := by unfold x9; exact kept_modHd _ _ _ (kept_wbit _ _ _ _ _ _ h8)
        clear_value x9
        exact kept_gainReq _ _ _ h9
      · exact kept_seekBegin _ _ _ _ _ _ h1
  · exact ha0

theorem kept_execHeadJog {s0 : State} (a0 : Act) (a1 : Fin 11) (a2 : Bool) (a3 : State) (ha3 : Kept s0 a3) : KeptR s0 (execHeadJog a0 a1 a2 a3) := by
  delta execHeadJog
  exact KeptR.next (kept_headJog _ _ _ _ ha3)

theorem kept_maOff {s0 : State} (a0 : State) (a1 : Nat) (ha0 : Kept s0 a0) : Kept s0 (State.maOff a0 a1) := by
  delta State.maOff
  extract_lets +onlyGivenNames -merge -useContext x0
  have h0 : Kept s0 x0 := by
    unfold x0
    refine Kept.foldl ?_ ?_
    · exact ha0
    · intro y1 y2 hy1
      exact kept_modLc _ _ _ hy1
  clear_value x0
  exact kept_maDrive _ _ _ (kept_wf _ _ _ _ _ h0)

theorem kept_parkStart {s0 : State} (a0 : State) (a1 : Nat) (ha0 : Kept s0 a0) : Kept s0 (State.parkStart a0 a1) := by
  delta State.parkStart
  extract_lets +onlyGivenNames -merge -useContext x0
  have h0 : Kept s0 x0 := by unfold x0; exact kept_maOff _ _ ha0
  clear_value x0
  extract_lets +onlyGivenNames -merge -useContext x1
  have h1 : Kept s0 x1 := by
    unfold x1
    refine Kept.foldl ?_ ?_
    · exact h0
    · intro y2 y3 hy2
      exact kept_heater _ _ _ _ _ (kept_heater _ _ _ _ _ hy2)
  clear_value x1
  extract_lets +onlyGivenNames -merge -useContext x4
  have h4 : Kept s0 x4 := by
    unfold x4
    refine Kept.foldl ?_ ?_
    · exact h1
    · intro y5 y6 hy5
      exact kept_slotMode _ _ _ _ hy5
  clear_value x4
  exact kept_modSv _ _ _ h4

theorem kept_parkRamp {s0 : State} (a0 : State) (a1 : Nat) (ha0 : Kept s0 a0) : Kept s0 (State.parkRamp a0 a1) := by
  delta State.parkRamp
  extract_lets +onlyGivenNames -merge -useContext x0
  have h0 : Kept s0 x0 := by unfold x0; exact kept_truOff _ _ (kept_modTr _ _ _ ha0)
  clear_value x0
  exact kept_wf _ _ _ _ _ (kept_gainReq _ _ _ (kept_modSv _ _ _ h0))

theorem kept_parkSeek {s0 : State} (a0 : State) (a1 : Nat) (ha0 : Kept s0 a0) : Kept s0 (State.parkSeek a0 a1) := by
  delta State.parkSeek
  refine Kept.ite ?_ ?_
  · exact kept_parkRamp _ _ ha0
  · extract_lets +onlyGivenNames -merge -useContext x0
    try clear_value x0
    extract_lets +onlyGivenNames -merge -useContext x1
    have h1 : Kept s0 x1 := by unfold x1; exact kept_modPg _ _ _ ha0
    clear_value x1
    extract_lets +onlyGivenNames -merge -useContext x2
    have h2 : Kept s0 x2 := by unfold x2; exact kept_wf _ _ _ _ _ (kept_gainReq _ _ _ (kept_modSv _ _ _ (kept_pgBegin _ _ _ h1)))
    clear_value x2
    exact Kept.ite (kept_parkRamp _ _ h2) h2

theorem kept_parkStep_ {s0 : State} (a0 : State) (a1 : Nat) (ha0 : Kept s0 a0) : Kept s0 (State.parkStep_ a0 a1) := by
  delta State.parkStep_
  split
  · exact Kept.ite (kept_parkStart _ _ ha0) ha0
  · exact Kept.ite (kept_parkSeek _ _ ha0) ha0
  · exact ha0

theorem kept_saveServo {s0 : State} (a0 : State) (a1 : Nat) (ha0 : Kept s0 a0) : Kept s0 (State.saveServo a0 a1) := by
  delta State.saveServo
  refine Kept.foldl ?_ ?_
  · exact kept_saveTrims _ _ ha0
  · intro y0 y1 hy0
    extract_lets +onlyGivenNames -merge -useContext x2
    try clear_value x2
    with_reducible apply kept_modHd
    · refine Kept.foldl ?_ ?_
      · exact hy0
      · intro y3 y4 hy3
        exact kept_odKeep _ _ _ _ hy3

theorem kept_actRest {s0 : State} (a0 : State) (a1 : Nat) (ha0 : Kept s0 a0) : Kept s0 (State.actRest a0 a1) := by
  delta State.actRest
  extract_lets +onlyGivenNames -merge -useContext x0
  have h0 : Kept s0 x0 := by unfold x0; exact Kept.ite (kept_truOff _ _ (kept_modTr _ _ _ ha0)) ha0
  clear_value x0
  extract_lets +onlyGivenNames -merge -useContext x1
  have h1 : Kept s0 x1 := by unfold x1; exact kept_setAct _ _ _ (kept_saveServo _ _ h0)
  clear_value x1
  extract_lets +onlyGivenNames -merge -useContext x2
  have h2 : Kept s0 x2 := by unfold x2; exact kept_modSv _ _ _ h1
  clear_value x2
  exact kept_spProceed _ h2

theorem kept_parkLatched {s0 : State} (a0 : State) (a1 : Nat) (ha0 : Kept s0 a0) : Kept s0 (State.parkLatched a0 a1) := by
  delta State.parkLatched
  refine Kept.ite ?_ ?_
  · extract_lets +onlyGivenNames -merge -useContext x0
    have h0 : Kept s0 x0 := by unfold x0; exact kept_actRest _ _ ha0
    clear_value x0
    exact Kept.ite (kept_startLoad _ _ h0) h0
  · exact ha0

theorem kept_execParkLatched {s0 : State} (a0 : Act) (a1 : State) (ha1 : Kept s0 a1) : KeptR s0 (execParkLatched a0 a1) := by
  delta execParkLatched
  exact KeptR.next (kept_parkLatched _ _ ha1)

theorem kept_execParkLimitExpiry {s0 : State} (a0 : Act) (a1 : State) (ha1 : Kept s0 a1) : KeptR s0 (execParkLimitExpiry a0 a1) := by
  delta execParkLimitExpiry
  exact KeptR.next (Kept.ite (kept_report _ _ _ _ (kept_startRetract _ _ ha1)) ha1)

theorem kept_execVcUnload {s0 : State} (a0 : Act) (a1 : State) (ha1 : Kept s0 a1) : KeptR s0 (execVcUnload a0 a1) := by
  delta execVcUnload
  exact KeptR.next (kept_startPark _ _ ha1)

theorem kept_execVcRetract {s0 : State} (a0 : Act) (a1 : State) (ha1 : Kept s0 a1) : KeptR s0 (execVcRetract a0 a1) := by
  delta execVcRetract
  exact KeptR.next (kept_startRetract _ _ ha1)

theorem kept_execRetT1Expiry {s0 : State} (a0 : Act) (a1 : State) (ha1 : Kept s0 a1) : KeptR s0 (execRetT1Expiry a0 a1) := by
  delta execRetT1Expiry
  exact KeptR.next (Kept.ite (kept_modSv _ _ _ ha1) ha1)

theorem kept_retractEnd {s0 : State} (a0 : State) (a1 : Nat) (a2 : Bool) (ha0 : Kept s0 a0) : Kept s0 (State.retractEnd a0 a1 a2) := by
  delta State.retractEnd
  refine Kept.ite ?_ ?_
  · extract_lets +onlyGivenNames -merge -useContext x0
    have h0 : Kept s0 x0 := by unfold x0; exact Kept.ite (kept_modSv _ _ _ ha0) ha0
    clear_value x0
    extract_lets +onlyGivenNames -merge -useContext x1
    have h1 : Kept s0 x1 := by
      unfold x1
      refine Kept.foldl ?_ ?_
      · exact h0
      · intro y2 y3 hy2
        exact kept_modLc _ _ _ hy2
    clear_value x1
    extract_lets +onlyGivenNames -merge -useContext x4
    have h4 : Kept s0 x4 := by unfold x4; exact kept_actRest _ _ (kept_wf _ _ _ _ _ h1)
    clear_value x4
    exact Kept.ite (kept_report _ _ _ _ h4) h4
  · exact ha0

theorem kept_execRetT2Expiry {s0 : State} (a0 : Act) (a1 : Bool) (a2 : State) (ha2 : Kept s0 a2) : KeptR s0 (execRetT2Expiry a0 a1 a2) := by
  delta execRetT2Expiry
  exact KeptR.next (kept_retractEnd _ _ _ ha2)

theorem kept_retractRetire {s0 : State} (a0 : State) (a1 : Nat) (a2 : Nat) (ha0 : Kept s0 a0) : Kept s0 (State.retractRetire a0 a1 a2) := by
  delta State.retractRetire
  exact kept_report _ _ _ _ (kept_modSv _ _ _ (kept_startRetract _ _ ha0))

theorem kept_execCoilCurrentFault {s0 : State} (a0 : Act) (a1 : State) (ha1 : Kept s0 a1) : KeptR s0 (execCoilCurrentFault a0 a1) := by
  delta execCoilCurrentFault
  exact KeptR.next (Kept.ite (kept_retractRetire _ _ _ ha1) ha1)

theorem kept_vcLoad {s0 : State} (a0 : State) (a1 : Nat) (ha0 : Kept s0 a0) : Kept s0 (State.vcLoad a0 a1) := by
  delta State.vcLoad
  exact kept_startLoad _ _ (kept_modSv _ _ _ ha0)

theorem kept_execVcLoad {s0 : State} (a0 : Act) (a1 : State) (ha1 : Kept s0 a1) : KeptR s0 (execVcLoad a0 a1) := by
  delta execVcLoad
  exact KeptR.next (kept_vcLoad _ _ ha1)

theorem kept_loadNext {s0 : State} (a0 : State) (a1 : Nat) (ha0 : Kept s0 a0) : Kept s0 (State.loadNext a0 a1) := by
  delta State.loadNext
  refine Kept.ite ?_ ?_
  · exact ha0
  · split
    · extract_lets +onlyGivenNames -merge -useContext x0
      have h0 : Kept s0 x0 := by unfold x0; exact kept_wf _ _ _ _ _ (kept_gainReq _ _ _ (kept_modSv _ _ _ ha0))
      clear_value x0
      extract_lets +onlyGivenNames -merge -useContext x1
      have h1 : Kept s0 x1 := by
        unfold x1
        refine Kept.foldl ?_ ?_
        · exact h0
        · intro y2 y3 hy2
          extract_lets +onlyGivenNames -merge -useContext x4
          try clear_value x4
          exact kept_heater _ _ _ _ _ hy2
      clear_value x1
      refine Kept.foldl ?_ ?_
      · exact h1
      · intro y5 y6 hy5
        exact kept_slotMode _ _ _ _ hy5
    · refine Kept.ite ?_ ?_
      · exact ha0
      · extract_lets +onlyGivenNames -merge -useContext x7
        try clear_value x7
        extract_lets +onlyGivenNames -merge -useContext x8
        have h8 : Kept s0 x8 := by unfold x8; exact kept_lifeCount _ _ (kept_setAct _ _ _ (kept_modSv _ _ _ ha0))
        clear_value x8
        extract_lets +onlyGivenNames -merge -useContext x9
        have h9 : Kept s0 x9 := by unfold x9; exact kept_wf _ _ _ _ _ h8
        clear_value x9
        split
        · exact kept_seekBegin _ _ _ _ _ _ (kept_modSv _ _ _ h9)
        · exact h9
    · extract_lets +onlyGivenNames -merge -useContext x10
      have h10 : Kept s0 x10 := by unfold x10; exact kept_loadTrims _ _ (kept_modSv _ _ _ ha0)
      clear_value x10
      exact kept_modTr _ _ _ h10

theorem kept_execLoadStepDone {s0 : State} (a0 : Act) (a1 : State) (ha1 : Kept s0 a1) : KeptR s0 (execLoadStepDone a0 a1) := by
  delta execLoadStepDone
  exact KeptR.next (kept_loadNext _ _ ha1)

theorem kept_loadFail {s0 : State} (a0 : State) (a1 : Nat) (ha0 : Kept s0 a0) : Kept s0 (State.loadFail a0 a1) := by
  delta State.loadFail
  refine Kept.ite ?_ ?_
  · exact ha0
  · extract_lets +onlyGivenNames -merge -useContext x0
    try clear_value x0
    extract_lets +onlyGivenNames -merge -useContext x1
    have h1 : Kept s0 x1 := by unfold x1; exact kept_lifeCount _ _ (kept_truOff _ _ (kept_modTr _ _ _ ha0))
    clear_value x1
    extract_lets +onlyGivenNames -merge -useContext x2
    have h2 : Kept s0 x2 := by unfold x2; exact kept_setAct _ _ _ (kept_modSv _ _ _ h1)
    clear_value x2
    extract_lets +onlyGivenNames -merge -useContext x3
    have h3 : Kept s0 x3 := by unfold x3; exact kept_wf _ _ _ _ _ (kept_gainReq _ _ _ h2)
    clear_value x3
    exact Kept.ite h3 (kept_report _ _ _ _ h3)

theorem kept_execLoadStepTimeout {s0 : State} (a0 : Act) (a1 : State) (ha1 : Kept s0 a1) : KeptR s0 (execLoadStepTimeout a0 a1) := by
  delta execLoadStepTimeout
  exact KeptR.next (kept_loadFail _ _ ha1)

theorem kept_nextSample {s0 : State} (a0 : State) (a1 : Nat) (ha0 : Kept s0 a0) : Kept s0 (State.nextSample a0 a1) := by
  delta State.nextSample
  exact Kept.ite ha0 (kept_modTr _ _ _ ha0)

theorem kept_wedgePeriod {s0 : State} (a0 : State) (a1 : Nat) (ha0 : Kept s0 a0) : Kept s0 (State.wedgePeriod a0 a1) := by
  delta State.wedgePeriod
  exact kept_modSv _ _ _ (kept_modPl _ _ _ ha0)

theorem kept_settleCheck {s0 : State} (a0 : State) (a1 : Nat) (a2 : Bool) (a3 : Int) (ha0 : Kept s0 a0) : Kept s0 (State.settleCheck a0 a1 a2 a3) := by
  delta State.settleCheck
  split
  · refine Kept.ite ?_ ?_
    · exact ha0
    · extract_lets +onlyGivenNames -merge -useContext x0
      try clear_value x0
      extract_lets +onlyGivenNames -merge -useContext x1
      try clear_value x1
      exact Kept.ite (kept_wf _ _ _ _ _ (kept_gainReq _ _ _ (kept_setAct _ _ _ (kept_modSv _ _ _ ha0)))) (kept_modSv _ _ _ ha0)
  · exact ha0

theorem kept_vcmSample {s0 : State} (a0 : State) (a1 : Nat) (a2 : Nat) (a3 : Int) (ha0 : Kept s0 a0) : Kept s0 (State.vcmSample a0 a1 a2 a3) := by
  delta State.vcmSample
  extract_lets +onlyGivenNames -merge -useContext x0
  have h0 : Kept s0 x0 := by unfold x0; exact kept_nextSample _ _ (kept_wf _ _ _ _ _ ha0)
  clear_value x0
  extract_lets +onlyGivenNames -merge -useContext x1
  have h1 : Kept s0 x1 := by unfold x1; exact Kept.ite (kept_wedgePeriod _ _ h0) h0
  clear_value x1
  extract_lets +onlyGivenNames -merge -useContext x2
  have h2 : Kept s0 x2 := by unfold x2; exact Kept.ite (kept_startRetract _ _ h1) h1
  clear_value x2
  refine Kept.ite ?_ ?_
  · exact kept_modSv _ _ _ h2
  · refine Kept.ite ?_ ?_
    · extract_lets +onlyGivenNames -merge -useContext x3
      have h3 : Kept s0 x3 := by unfold x3; exact kept_modSv _ _ _ h2
      clear_value x3
      extract_lets +onlyGivenNames -merge -useContext x4
      try clear_value x4
      extract_lets +onlyGivenNames -merge -useContext x5
      try clear_value x5
      extract_lets +onlyGivenNames -merge -useContext x6
      have h6 : Kept s0 x6 := by unfold x6; exact Kept.ite h3 (kept_gainReq _ _ _ h3)
      clear_value x6
      extract_lets +onlyGivenNames -merge -useContext x7
      have h7 : Kept s0 x7 := by unfold x7; exact kept_wf _ _ _ _ _ h6
      clear_value x7
      exact kept_cellTrig _ _ _ _ _ _ (kept_modLc _ _ _ h7)
    · extract_lets +onlyGivenNames -merge -useContext x8
      try clear_value x8
      extract_lets +onlyGivenNames -merge -useContext x9
      try clear_value x9
      extract_lets +onlyGivenNames -merge -useContext x10
      try clear_value x10
      extract_lets +onlyGivenNames -merge -useContext x11
      have h11 : Kept s0 x11 := by unfold x11; exact kept_modSv _ _ _ (kept_wf _ _ _ _ _ h2)
      clear_value x11
      refine Kept.ite ?_ ?_
      · exact kept_retractRetire _ _ _ h11
      · extract_lets +onlyGivenNames -merge -useContext x12
        have h12 : Kept s0 x12 := by unfold x12; exact kept_settleCheck _ _ _ _ h11
        clear_value x12
        extract_lets +onlyGivenNames -merge -useContext x13
        have h13 : Kept s0 x13 := by unfold x13; exact Kept.ite (kept_parkStep_ _ _ h12) h12
        clear_value x13
        extract_lets +onlyGivenNames -merge -useContext x14
        have h14 : Kept s0 x14 := by
          unfold x14
          split
          · exact Kept.ite (kept_seekGo _ _ _ h13) h13
          · exact h13
        clear_value x14
        extract_lets +onlyGivenNames -merge -useContext x15
        try clear_value x15
        extract_lets +onlyGivenNames -merge -useContext x16
        try clear_value x16
        extract_lets +onlyGivenNames -merge -useContext x17
        have h17 : Kept s0 x17 := by unfold x17; exact kept_modLc _ _ _ h14
        clear_value x17
        exact kept_cellTrig _ _ _ _ _ _ h17

theorem kept_execVcmSample {s0 : State} (a0 : Act) (a1 : Nat) (a2 : Int) (a3 : State) (ha3 : Kept s0 a3) : KeptR s0 (execVcmSample a0 a1 a2 a3) := by
  delta execVcmSample
  exact KeptR.next (kept_vcmSample _ _ _ _ ha3)

theorem kept_pgPeriod_ {s0 : State} (a0 : State) (a1 : Nat) (ha0 : Kept s0 a0) : Kept s0 (State.pgPeriod_ a0 a1) := by
  delta State.pgPeriod_
  extract_lets +onlyGivenNames -merge -useContext x0
  have h0 : Kept s0 x0 := by unfold x0; exact kept_pgStep _ _ ha0
  clear_value x0
  refine Kept.ite ?_ ?_
  · split
    · exact Kept.ite (kept_seekNext _ _ h0) h0
    · exact Kept.ite (kept_parkRamp _ _ h0) h0
  · exact h0

theorem kept_execPgPeriod {s0 : State} (a0 : Fin 5) (a1 : State) (ha1 : Kept s0 a1) : KeptR s0 (execPgPeriod a0 a1) := by
  delta execPgPeriod
  exact KeptR.next (kept_pgPeriod_ _ _ ha1)

theorem kept_holdoverWedge {s0 : State} (a0 : State) (a1 : Nat) (a2 : Nat) (a3 : Nat) (a4 : Wedge) (ha0 : Kept s0 a0) : Kept s0 (State.holdoverWedge a0 a1 a2 a3 a4) := by
  delta State.holdoverWedge
  extract_lets +onlyGivenNames -merge -useContext x0
  try clear_value x0
  split
  · extract_lets +onlyGivenNames -merge -useContext x1
    have h1 : Kept s0 x1 := by unfold x1; exact kept_modHd _ _ _ ha0
    clear_value x1
    split
    · exact kept_seqEvent _ _ _ _ h1
    · exact kept_seqEvent _ _ _ _ h1
  · extract_lets +onlyGivenNames -merge -useContext x2
    have h2 : Kept s0 x2 := by unfold x2; exact kept_modHd _ _ _ ha0
    clear_value x2
    refine Kept.ite ?_ ?_
    · extract_lets +onlyGivenNames -merge -useContext x3
      have h3 : Kept s0 x3 := by unfold x3; exact kept_wbit _ _ _ _ _ _ h2
      clear_value x3
      exact Kept.ite (kept_report _ _ _ _ (kept_startPark _ _ h3)) h3
    · exact h2

theorem kept_wedgeBad {s0 : State} (a0 : State) (a1 : Nat) (a2 : Nat) (a3 : Nat) (ha0 : Kept s0 a0) : Kept s0 (State.wedgeBad a0 a1 a2 a3) := by
  delta State.wedgeBad
  extract_lets +onlyGivenNames -merge -useContext x0
  try clear_value x0
  extract_lets +onlyGivenNames -merge -useContext x1
  have h1 : Kept s0 x1 := by unfold x1; exact kept_modHd _ _ _ ha0
  clear_value x1
  extract_lets +onlyGivenNames -merge -useContext x2
  try clear_value x2
  extract_lets +onlyGivenNames -merge -useContext x3
  have h3 : Kept s0 x3 := by unfold x3; exact Kept.ite (kept_offTrack _ _ h1) h1
  clear_value x3
  refine Kept.ite ?_ ?_
  · extract_lets +onlyGivenNames -merge -useContext x4
    have h4 : Kept s0 x4 := by unfold x4; exact kept_maDrive _ _ _ (kept_modHd _ _ _ (kept_wbit _ _ _ _ _ _ h3))
    clear_value x4
    exact kept_report _ _ _ _ h4
  · exact h3

theorem kept_roLearn {s0 : State} (a0 : State) (a1 : Nat) (a2 : Nat) (a3 : Nat) (a4 : Nat) (a5 : Int) (ha0 : Kept s0 a0) : Kept s0 (State.roLearn a0 a1 a2 a3 a4 a5) := by
  delta State.roLearn
  extract_lets +onlyGivenNames -merge -useContext x0
  try clear_value x0
  refine Kept.ite ?_ ?_
  · exact ha0
  · extract_lets +onlyGivenNames -merge -useContext x1
    try clear_value x1
    extract_lets +onlyGivenNames -merge -useContext x2
    try clear_value x2
    split
    · exact Kept.ite (kept_report _ _ _ _ (kept_modHd _ _ _ ha0)) (kept_modHd _ _ _ ha0)
    · exact Kept.ite (kept_modHd _ _ _ ha0) ha0

theorem kept_wedgeGood {s0 : State} (a0 : State) (a1 : Nat) (a2 : Nat) (a3 : Nat) (a4 : Seek) (a5 : Int) (ha0 : Kept s0 a0) : Kept s0 (State.wedgeGood a0 a1 a2 a3 a4 a5) := by
  delta State.wedgeGood
  extract_lets +onlyGivenNames -merge -useContext x0
  try clear_value x0
  extract_lets +onlyGivenNames -merge -useContext x1
  try clear_value x1
  extract_lets +onlyGivenNames -merge -useContext x2
  try clear_value x2
  extract_lets +onlyGivenNames -merge -useContext x3
  try clear_value x3
  extract_lets +onlyGivenNames -merge -useContext x4
  have h4 : Kept s0 x4 := by unfold x4; exact kept_roLearn _ _ _ _ _ _ ha0
  clear_value x4
  extract_lets +onlyGivenNames -merge -useContext x5
  have h5 : Kept s0 x5 := by
    unfold x5
    split
    · exact kept_modSv _ _ _ h4
    · exact h4
  clear_value x5
  extract_lets +onlyGivenNames -merge -useContext x6
  try clear_value x6
  extract_lets +onlyGivenNames -merge -useContext x7
  try clear_value x7
  extract_lets +onlyGivenNames -merge -useContext x8
  have h8 : Kept s0 x8 := by unfold x8; exact kept_modHd _ _ _ h5
  clear_value x8
  extract_lets +onlyGivenNames -merge -useContext x9
  have h9 : Kept s0 x9 := by unfold x9; exact Kept.ite (kept_wbit _ _ _ _ _ _ h8) h8
  clear_value x9
  refine Kept.ite ?_ ?_
  · exact kept_offTrack _ _ h9
  · refine Kept.ite ?_ ?_
    · extract_lets +onlyGivenNames -merge -useContext x10
      have h10 : Kept s0 x10 := by unfold x10; exact kept_wbit _ _ _ _ _ _ (kept_inhibit _ _ _ _ h9)
      clear_value x10
      exact kept_gainReq _ _ _ h10
    · exact h9

theorem kept_maTrig {s0 : State} (a0 : State) (a1 : Nat) (a2 : Nat) (a3 : Nat) (a4 : Seek) (a5 : Option Int) (ha0 : Kept s0 a0) : Kept s0 (State.maTrig a0 a1 a2 a3 a4 a5) := by
  delta State.maTrig
  extract_lets +onlyGivenNames -merge -useContext x0
  try clear_value x0
  extract_lets +onlyGivenNames -merge -useContext x1
  try clear_value x1
  refine Kept.ite ?_ ?_
  · extract_lets +onlyGivenNames -merge -useContext x2
    try clear_value x2
    exact kept_cellTrig _ _ _ _ _ _ (kept_modLc _ _ _ ha0)
  · extract_lets +onlyGivenNames -merge -useContext x3
    have h3 : Kept s0 x3 := by unfold x3; exact Kept.ite (kept_gainReq _ _ _ ha0) ha0
    clear_value x3
    extract_lets +onlyGivenNames -merge -useContext x4
    try clear_value x4
    extract_lets +onlyGivenNames -merge -useContext x5
    try clear_value x5
    extract_lets +onlyGivenNames -merge -useContext x6
    have h6 : Kept s0 x6 := by unfold x6; exact kept_modLc _ _ _ h3
    clear_value x6
    split
    · exact kept_cellTrig _ _ _ _ _ _ h6
    · exact kept_cellTrig _ _ _ _ _ _ h6

theorem kept_wedgeRead {s0 : State} (a0 : State) (a1 : Nat) (a2 : Wedge) (ha0 : Kept s0 a0) : Kept s0 (State.wedgeRead a0 a1 a2) := by
  delta State.wedgeRead
  extract_lets +onlyGivenNames -merge -useContext x0
  try clear_value x0
  extract_lets +onlyGivenNames -merge -useContext x1
  try clear_value x1
  extract_lets +onlyGivenNames -merge -useContext x2
  try clear_value x2
  refine Kept.ite ?_ ?_
  · exact ha0
  · extract_lets +onlyGivenNames -merge -useContext x3
    have h3 : Kept s0 x3 := by
      unfold x3
      split
      · split
        · exact kept_trimWedge _ _ _ _ _ _ ha0
        · exact ha0
      · exact Kept.ite (kept_holdoverWedge _ _ _ _ _ ha0) ha0
    clear_value x3
    split
    · exact h3
    · refine Kept.ite ?_ ?_
      · exact h3
      · extract_lets +onlyGivenNames -merge -useContext x4
        try clear_value x4
        extract_lets +onlyGivenNames -merge -useContext x5
        try clear_value x5
        extract_lets +onlyGivenNames -merge -useContext x6
        try clear_value x6
        extract_lets +onlyGivenNames -merge -useContext x7
        have h7 : Kept s0 x7 := by
          unfold x7
          refine Kept.ite ?_ ?_
          · exact h3
          · split
            · exact kept_wedgeGood _ _ _ _ _ _ h3
            · exact kept_wedgeBad _ _ _ _ h3
        clear_value x7
        exact Kept.ite (kept_maTrig _ _ _ _ _ _ h7) h7

theorem kept_execWedgeRead {s0 : State} (a0 : Chan) (a1 : Wedge) (a2 : State) (ha2 : Kept s0 a2) : KeptR s0 (execWedgeRead a0 a1 a2) := by
  delta execWedgeRead
  exact KeptR.next (kept_wedgeRead _ _ _ ha2)

theorem kept_execMaOvercurrent {s0 : State} (a0 : Act) (a1 : Fin 11) (a2 : State) (ha2 : Kept s0 a2) : KeptR s0 (execMaOvercurrent a0 a1 a2) := by
  delta execMaOvercurrent
  extract_lets +onlyGivenNames -merge -useContext x0
  have h0 : Kept s0 x0 := by unfold x0; exact kept_wbit _ _ _ _ _ _ ha2
  clear_value x0
  extract_lets +onlyGivenNames -merge -useContext x1
  have h1 : Kept s0 x1 := by
    unfold x1
    split
    · exact Kept.ite (kept_offTrack _ _ h0) h0
    · exact h0
  clear_value x1
  exact KeptR.next (kept_report _ _ _ _ h1)

theorem kept_shockOn {s0 : State} (a0 : State) (a1 : Nat) (ha0 : Kept s0 a0) : Kept s0 (State.shockOn a0 a1) := by
  delta State.shockOn
  extract_lets +onlyGivenNames -merge -useContext x0
  have h0 : Kept s0 x0 := by unfold x0; exact Kept.upd ha0 rfl rfl rfl rfl rfl rfl rfl
  clear_value x0
  extract_lets +onlyGivenNames -merge -useContext x1
  have h1 : Kept s0 x1 := by unfold x1; exact kept_inhibitAll _ _ _ (kept_cnt _ _ _ _ _ (kept_wbit _ _ _ _ _ _ h0))
  clear_value x1
  extract_lets +onlyGivenNames -merge -useContext x2
  have h2 : Kept s0 x2 := by
    unfold x2
    refine Kept.foldl ?_ ?_
    · exact h1
    · intro y3 y4 hy3
      exact kept_sqEvent _ _ _ hy3
  clear_value x2
  extract_lets +onlyGivenNames -merge -useContext x5
  have h5 : Kept s0 x5 := by
    unfold x5
    refine Kept.foldl ?_ ?_
    · exact h2
    · intro y6 y7 hy6
      exact Kept.ite (kept_offTrack _ _ hy6) hy6
  clear_value x5
  exact kept_report _ _ _ _ h5

theorem kept_execShockQualify {s0 : State} (a0 : Fin 3) (a1 : State) (ha1 : Kept s0 a1) : KeptR s0 (execShockQualify a0 a1) := by
  delta execShockQualify
  exact KeptR.next (kept_shockOn _ _ ha1)

theorem kept_execSkHoldExpiry {s0 : State} (a0 : State) (ha0 : Kept s0 a0) : KeptR s0 (execSkHoldExpiry a0) := by
  delta execSkHoldExpiry
  refine KeptR.ite ?_ ?_
  · extract_lets +onlyGivenNames -merge -useContext x0
    have h0 : Kept s0 x0 := by unfold x0; exact Kept.upd ha0 rfl rfl rfl rfl rfl rfl rfl
    clear_value x0
    exact KeptR.next (kept_inhibitAll _ _ _ h0)
  · exact KeptR.next ha0

end Sys2Proof.Machine
end

