-- ==== Sys2Proof/Laws/KeptPower.lean ====
section
/-! SUPPORT. Laws/KeptPower.lean: the operations of Machine/Power.lean answer states that have been kept (Safety.lean). -/

namespace Sys2Proof.Machine
open Sys2Proof

theorem kept_setDoms {s0 : State} (a0 : State) (a1 : Nat) (a2 : List Nat) (ha0 : Kept s0 a0) : Kept s0 (State.setDoms a0 a1 a2) := by
  delta State.setDoms
  refine Kept.foldl ?_ ?_
  · exact ha0
  · intro y0 y1 hy0
    exact kept_setDom _ _ _ hy0

theorem kept_loseMotion {s0 : State} (a0 : State) (ha0 : Kept s0 a0) : Kept s0 (State.loseMotion a0) := by
  delta State.loseMotion
  extract_lets +onlyGivenNames -merge -useContext x0
  try clear_value x0
  extract_lets +onlyGivenNames -merge -useContext x1
  have h1 : Kept s0 x1 := by unfold x1; exact ⟨ha0.pending, ha0.part, ha0.minSvn, ha0.revoke0, ha0.mem, fun h => ⟨tabWf_filter _ _ (ha0.regs h).1, (ha0.regs h).2⟩⟩
  clear_value x1
  refine Kept.foldl ?_ ?_
  · exact h1
  · intro y2 y3 hy2
    exact kept_setAct _ _ _ hy2

theorem kept_loseQuads {s0 : State} (a0 : State) (ha0 : Kept s0 a0) : Kept s0 (State.loseQuads a0) := by
  delta State.loseQuads
  exact Kept.upd ha0 rfl rfl rfl rfl rfl rfl rfl

theorem kept_exitBegin {s0 : State} (a0 : State) (ha0 : Kept s0 a0) : Kept s0 (State.exitBegin a0) := by
  delta State.exitBegin
  extract_lets +onlyGivenNames -merge -useContext x0
  try clear_value x0
  extract_lets +onlyGivenNames -merge -useContext x1
  have h1 : Kept s0 x1 := by unfold x1; exact kept_wb _ _ _ _ _ (kept_wf _ _ _ _ _ (kept_wb _ _ _ _ _ ha0))
  clear_value x1
  extract_lets +onlyGivenNames -merge -useContext x2
  try clear_value x2
  extract_lets +onlyGivenNames -merge -useContext x3
  have h3 : Kept s0 x3 := by unfold x3; exact Kept.upd h1 rfl rfl rfl rfl rfl rfl rfl
  clear_value x3
  refine Kept.ite ?_ ?_
  · refine Kept.foldl ?_ ?_
    · exact h3
    · intro y4 y5 hy4
      exact kept_startLoad _ _ hy4
  · refine Kept.ite ?_ ?_
    · extract_lets +onlyGivenNames -merge -useContext x6
      have h6 : Kept s0 x6 := by unfold x6; exact kept_setDoms _ _ _ h3
      clear_value x6
      with_reducible apply kept_spStart
      · refine Kept.foldl ?_ ?_
        · exact h6
        · intro y7 y8 hy7
          exact kept_plTrain _ _ hy7
    · refine Kept.ite ?_ ?_
      · extract_lets +onlyGivenNames -merge -useContext x9
        have h9 : Kept s0 x9 := by unfold x9; exact kept_wbit _ _ _ _ _ _ h3
        clear_value x9
        exact Kept.upd h9 rfl rfl rfl rfl rfl rfl rfl
      · exact h3

theorem kept_wake {s0 : State} (a0 : State) (a1 : Nat) (ha0 : Kept s0 a0) : Kept s0 (State.wake a0 a1) := by
  delta State.wake
  extract_lets +onlyGivenNames -merge -useContext x0
  try clear_value x0
  extract_lets +onlyGivenNames -merge -useContext x1
  try clear_value x1
  refine Kept.ite ?_ ?_
  · exact ha0
  · extract_lets +onlyGivenNames -merge -useContext x2
    have h2 : Kept s0 x2 := by unfold x2; exact kept_wbit _ _ _ _ _ _ ha0
    clear_value x2
    refine Kept.ite ?_ ?_
    · exact h2
    · split
      · exact Kept.ite h2 (kept_exitBegin _ h2)
      · refine Kept.ite ?_ ?_
        · exact kept_wb _ _ _ _ _ h2
        · extract_lets +onlyGivenNames -merge -useContext x3
          have h3 : Kept s0 x3 := by unfold x3; exact kept_abortEntry _ _ _ h2
          clear_value x3
          exact Kept.ite h3 (kept_exitBegin _ h3)
      · exact Kept.ite (kept_wb _ _ _ _ _ h2) h2
      · exact h2

theorem kept_execWakeEvent {s0 : State} (a0 : Fin 6) (a1 : State) (ha1 : Kept s0 a1) : KeptR s0 (execWakeEvent a0 a1) := by
  delta execWakeEvent
  exact KeptR.next (kept_wake _ _ ha1)

theorem kept_exitEnd {s0 : State} (a0 : State) (ha0 : Kept s0 a0) : Kept s0 (State.exitEnd a0) := by
  delta State.exitEnd
  extract_lets +onlyGivenNames -merge -useContext x0
  try clear_value x0
  extract_lets +onlyGivenNames -merge -useContext x1
  have h1 : Kept s0 x1 := by unfold x1; exact kept_inhibitAll _ _ _ (kept_setDoms _ _ _ ha0)
  clear_value x1
  extract_lets +onlyGivenNames -merge -useContext x2
  have h2 : Kept s0 x2 := by unfold x2; exact kept_wf _ _ _ _ _ (kept_wb _ _ _ _ _ (kept_wf _ _ _ _ _ h1))
  clear_value x2
  extract_lets +onlyGivenNames -merge -useContext x3
  try clear_value x3
  extract_lets +onlyGivenNames -merge -useContext x4
  have h4 : Kept s0 x4 := by unfold x4; exact Kept.upd h2 rfl rfl rfl rfl rfl rfl rfl
  clear_value x4
  extract_lets +onlyGivenNames -merge -useContext x5
  have h5 : Kept s0 x5 := by
    unfold x5
    refine Kept.ite ?_ ?_
    · exact h4
    · refine Kept.foldl ?_ ?_
      · exact h4
      · intro y6 y7 hy6
        exact Kept.ite (kept_sqEntry _ _ hy6) hy6
  clear_value x5
  refine Kept.ite ?_ ?_
  · refine Kept.foldl ?_ ?_
    · exact h5
    · intro y8 y9 hy8
      exact Kept.ite (kept_settleEnter _ _ hy8) hy8
  · exact h5

theorem kept_exitDone {s0 : State} (a0 : State) (ha0 : Kept s0 a0) : Kept s0 (State.exitDone a0) := by
  delta State.exitDone
  exact Kept.ite (kept_exitEnd _ ha0) ha0

theorem kept_refuseWith {s0 : State} (a0 : State) (a1 : Nat) (a2 : Nat) (ha0 : Kept s0 a0) : Kept s0 (State.refuseWith a0 a1 a2) := by
  delta State.refuseWith
  exact kept_wf _ _ _ _ _ (kept_wf _ _ _ _ _ ha0)

theorem kept_runSlot {s0 : State} (a0 : State) (a1 : Nat) (ha0 : Kept s0 a0) : Kept s0 (State.runSlot a0 a1) := by
  delta State.runSlot
  exact kept_wf _ _ _ _ _ (kept_wf _ _ _ _ _ ha0)

theorem kept_swAbandon {s0 : State} (a0 : State) (ha0 : Kept s0 a0) : Kept s0 (State.swAbandon a0) := by
  delta State.swAbandon
  split
  · refine Kept.ite ha0 ?_
    extract_lets +onlyGivenNames -merge -useContext x0
    have h0 : Kept s0 x0 := by unfold x0; exact Kept.ite (kept_runSlot _ _ ha0) ha0
    clear_value x0
    exact kept_wf _ _ _ _ _ (kept_wf _ _ _ _ _ h0)
  · exact ha0

theorem kept_entryBegin {s0 : State} (a0 : State) (a1 : Nat) (a2 : PwrKind) (ha0 : Kept s0 a0) : Kept s0 (State.entryBegin a0 a1 a2) := by
  delta State.entryBegin
  extract_lets +onlyGivenNames -merge -useContext x0
  have h0 : Kept s0 x0 := by unfold x0; exact kept_wf _ _ _ _ _ (kept_wb _ _ _ _ _ (kept_wf _ _ _ _ _ (kept_wf _ _ _ _ _ (kept_wb _ _ _ _ _ ha0))))
  clear_value x0
  extract_lets +onlyGivenNames -merge -useContext x1
  have h1 : Kept s0 x1 := by unfold x1; exact kept_wb _ _ _ _ _ (kept_wb _ _ _ _ _ h0)
  clear_value x1
  extract_lets +onlyGivenNames -merge -useContext x2
  have h2 : Kept s0 x2 := by unfold x2; exact Kept.ite (kept_inhibitAll _ _ _ h1) h1
  clear_value x2
  extract_lets +onlyGivenNames -merge -useContext x3
  have h3 : Kept s0 x3 := by unfold x3; exact Kept.ite (kept_swAbandon _ h2) h2
  clear_value x3
  exact Kept.upd h3 rfl rfl rfl rfl rfl rfl rfl

theorem kept_pwrRequest {s0 : State} (a0 : State) (a1 : Nat) (ha0 : Kept s0 a0) : Kept s0 (State.pwrRequest a0 a1) := by
  delta State.pwrRequest
  extract_lets +onlyGivenNames -merge -useContext x0
  try clear_value x0
  split
  · exact Kept.ite (kept_wb _ _ _ _ _ (kept_wf _ _ _ _ _ (kept_refuseWith _ _ _ ha0))) (Kept.ite (kept_wb _ _ _ _ _ (kept_wf _ _ _ _ _ ha0)) (Kept.ite (kept_wake _ _ (kept_wb _ _ _ _ _ ha0)) (kept_entryBegin _ _ _ ha0)))
  · exact kept_wb _ _ _ _ _ ha0
  · exact Kept.ite (kept_wake _ _ ha0) (kept_wb _ _ _ _ _ ha0)

theorem kept_pwrGo {s0 : State} (a0 : State) (ha0 : Kept s0 a0) : Kept s0 (State.pwrGo a0) := by
  delta State.pwrGo
  exact kept_pwrRequest _ _ (kept_wb _ _ _ _ _ ha0)

theorem kept_execPwrGo {s0 : State} (a0 : Fin 8) (a1 : State) (ha1 : Kept s0 a1) : KeptR s0 (execPwrGo a0 a1) := by
  delta execPwrGo
  exact KeptR.next (kept_pwrGo _ ha1)

theorem kept_execIdleTimerExpiry {s0 : State} (a0 : Fin 3) (a1 : State) (ha1 : Kept s0 a1) : KeptR s0 (execIdleTimerExpiry a0 a1) := by
  delta execIdleTimerExpiry
  exact KeptR.next (Kept.ite (kept_pwrRequest _ _ ha1) ha1)

theorem kept_stageAct {s0 : State} (a0 : State) (a1 : Nat) (ha0 : Kept s0 a0) : Kept s0 (State.stageAct a0 a1) := by
  delta State.stageAct
  extract_lets +onlyGivenNames -merge -useContext x0
  try clear_value x0
  refine Kept.ite ?_ ?_
  · exact kept_mergeAll _ ha0
  · refine Kept.ite ?_ ?_
    · extract_lets +onlyGivenNames -merge -useContext x1
      try clear_value x1
      extract_lets +onlyGivenNames -merge -useContext x2
      have h2 : Kept s0 x2 := by unfold x2; exact Kept.upd ha0 rfl rfl rfl rfl rfl rfl rfl
      clear_value x2
      exact Kept.ite (kept_retractAll _ h2) (kept_parkAll _ h2)
    · exact Kept.ite (Kept.ite (Kept.ite ha0 (kept_spZvBrake _ _ ha0)) (kept_spStop _ ha0)) (Kept.ite (kept_startFlush _ ha0) ha0)

theorem kept_commitPoint {s0 : State} (a0 : State) (ha0 : Kept s0 a0) : Kept s0 (State.commitPoint a0) := by
  delta State.commitPoint
  exact kept_wb _ _ _ _ _ ha0

theorem kept_entryStage {s0 : State} (a0 : State) (ha0 : Kept s0 a0) : Kept s0 (State.entryStage a0) := by
  delta State.entryStage
  refine Kept.ite ?_ ?_
  · split
    · with_reducible apply kept_stageAct
      · extract_lets +onlyGivenNames -merge -useContext x0
        have h0 : Kept s0 x0 := by unfold x0; exact kept_wf _ _ _ _ _ ha0
        clear_value x0
        exact Kept.upd h0 rfl rfl rfl rfl rfl rfl rfl
    · exact kept_commitPoint _ ha0
  · exact ha0

theorem kept_execPowerEntryStage {s0 : State} (a0 : State) (ha0 : Kept s0 a0) : KeptR s0 (execPowerEntryStage a0) := by
  delta execPowerEntryStage
  exact KeptR.next (kept_entryStage _ ha0)

theorem kept_partDone {s0 : State} (a0 : State) (a1 : Participant) (ha0 : Kept s0 a0) : Kept s0 (State.partDone a0 a1) := by
  delta State.partDone
  extract_lets +onlyGivenNames -merge -useContext x0
  try clear_value x0
  extract_lets +onlyGivenNames -merge -useContext x1
  have h1 : Kept s0 x1 := by unfold x1; exact Kept.upd ha0 rfl rfl rfl rfl rfl rfl rfl
  clear_value x1
  refine Kept.ite ?_ ?_
  · exact h1
  · extract_lets +onlyGivenNames -merge -useContext x2
    try clear_value x2
    extract_lets +onlyGivenNames -merge -useContext x3
    have h3 : Kept s0 x3 := by unfold x3; exact Kept.upd h1 rfl rfl rfl rfl rfl rfl rfl
    clear_value x3
    exact Kept.ite (kept_commitPoint _ h3) h3

theorem kept_partAnswer {s0 : State} (a0 : State) (a1 : Participant) (a2 : Answer) (ha0 : Kept s0 a0) : Kept s0 (State.partAnswer a0 a1 a2) := by
  delta State.partAnswer
  refine Kept.ite ?_ ?_
  · exact ha0
  · split
    · exact Kept.ite (kept_partDone _ _ ha0) ha0
    · exact ha0
    · exact Kept.ite (kept_abortEntry _ _ _ (kept_refuseWith _ _ _ ha0)) ha0

theorem kept_execParticipantAck {s0 : State} (a0 : Participant) (a1 : Answer) (a2 : State) (ha2 : Kept s0 a2) : KeptR s0 (execParticipantAck a0 a1 a2) := by
  delta execParticipantAck
  exact KeptR.next (kept_partAnswer _ _ _ ha2)

theorem kept_partTimeout {s0 : State} (a0 : State) (a1 : Participant) (ha0 : Kept s0 a0) : Kept s0 (State.partTimeout a0 a1) := by
  delta State.partTimeout
  refine Kept.ite ?_ ?_
  · exact ha0
  · extract_lets +onlyGivenNames -merge -useContext x0
    have h0 : Kept s0 x0 := by unfold x0; exact kept_report _ _ _ _ (kept_refuseWith _ _ _ ha0)
    clear_value x0
    exact Kept.ite (kept_partDone _ _ h0) (kept_abortEntry _ _ _ h0)

theorem kept_execParticipantDelayTimeout {s0 : State} (a0 : Participant) (a1 : State) (ha1 : Kept s0 a1) : KeptR s0 (execParticipantDelayTimeout a0 a1) := by
  delta execParticipantDelayTimeout
  exact KeptR.next (kept_partTimeout _ _ ha1)

theorem kept_dropSectors {s0 : State} (a0 : State) (ha0 : Kept s0 a0) : Kept s0 (State.dropSectors a0) := by
  delta State.dropSectors
  exact Kept.upd ha0 rfl rfl rfl rfl rfl rfl rfl

theorem kept_forceEntry {s0 : State} (a0 : State) (ha0 : Kept s0 a0) : Kept s0 (State.forceEntry a0) := by
  delta State.forceEntry
  exact kept_dropSectors _ (kept_entryBegin _ _ _ ha0)

theorem kept_pwrdis {s0 : State} (a0 : State) (ha0 : Kept s0 a0) : Kept s0 (State.pwrdis a0) := by
  delta State.pwrdis
  extract_lets +onlyGivenNames -merge -useContext x0
  try clear_value x0
  extract_lets +onlyGivenNames -merge -useContext x1
  have h1 : Kept s0 x1 := by unfold x1; exact Kept.upd ha0 rfl rfl rfl rfl rfl rfl rfl
  clear_value x1
  split
  · exact h1
  · exact Kept.ite (Kept.upd h1 rfl rfl rfl rfl rfl rfl rfl) (kept_forceEntry _ h1)
  · exact Kept.ite h1 (kept_forceEntry _ h1)

theorem kept_execPwrdis {s0 : State} (a0 : State) (ha0 : Kept s0 a0) : KeptR s0 (execPwrdis a0) := by
  delta execPwrdis
  exact KeptR.next (kept_pwrdis _ ha0)

theorem kept_domainsSwitched {s0 : State} (a0 : State) (ha0 : Kept s0 a0) : Kept s0 (State.domainsSwitched a0) := by
  delta State.domainsSwitched
  refine Kept.ite ?_ ?_
  · extract_lets +onlyGivenNames -merge -useContext x0
    try clear_value x0
    extract_lets +onlyGivenNames -merge -useContext x1
    try clear_value x1
    extract_lets +onlyGivenNames -merge -useContext x2
    have h2 : Kept s0 x2 := by unfold x2; exact kept_coldReset _ ha0
    clear_value x2
    extract_lets +onlyGivenNames -merge -useContext x3
    try clear_value x3
    extract_lets +onlyGivenNames -merge -useContext x4
    try clear_value x4
    extract_lets +onlyGivenNames -merge -useContext x5
    have h5 : Kept s0 x5 := by unfold x5; exact kept_loseQuads _ ha0
    clear_value x5
    extract_lets +onlyGivenNames -merge -useContext x6
    have h6 : Kept s0 x6 := by
      unfold x6
      refine Kept.foldl ?_ ?_
      · exact h5
      · intro y7 y8 hy7
        exact Kept.ite (kept_wf _ _ _ _ _ (kept_wf _ _ _ _ _ (kept_softOff _ _ hy7))) hy7
    clear_value x6
    extract_lets +onlyGivenNames -merge -useContext x9
    have h9 : Kept s0 x9 := by unfold x9; exact Kept.ite (⟨h2.pending, h2.part, h2.minSvn, h2.revoke0, h2.mem, fun h => ⟨tabWf_filter _ _ (ha0.regs h).1, (h2.regs h).2⟩⟩) (Kept.ite (kept_loseMotion _ h6) h6)
    clear_value x9
    extract_lets +onlyGivenNames -merge -useContext x10
    have h10 : Kept s0 x10 := by unfold x10; exact kept_setDoms _ _ _ h9
    clear_value x10
    extract_lets +onlyGivenNames -merge -useContext x11
    have h11 : Kept s0 x11 := by unfold x11; exact kept_wf _ _ _ _ _ (kept_wb _ _ _ _ _ (kept_wf _ _ _ _ _ (kept_wf _ _ _ _ _ h10)))
    clear_value x11
    extract_lets +onlyGivenNames -merge -useContext x12
    have h12 : Kept s0 x12 := by unfold x12; exact kept_wf _ _ _ _ _ (kept_wb _ _ _ _ _ h11)
    clear_value x12
    extract_lets +onlyGivenNames -merge -useContext x13
    try clear_value x13
    extract_lets +onlyGivenNames -merge -useContext x14
    have h14 : Kept s0 x14 := by unfold x14; exact Kept.upd h12 rfl rfl rfl rfl rfl rfl rfl
    clear_value x14
    exact Kept.ite (kept_forceEntry _ h14) (Kept.ite (kept_exitBegin _ h14) h14)
  · exact ha0

theorem kept_execDomainsSwitched {s0 : State} (a0 : State) (ha0 : Kept s0 a0) : KeptR s0 (execDomainsSwitched a0) := by
  delta execDomainsSwitched
  exact KeptR.next (kept_domainsSwitched _ ha0)

theorem kept_pwrdisOff {s0 : State} (a0 : State) (ha0 : Kept s0 a0) : Kept s0 (State.pwrdisOff a0) := by
  delta State.pwrdisOff
  exact Kept.ite (kept_wb _ _ _ _ _ (kept_wbit _ _ _ _ _ _ ha0)) (kept_wake _ _ ha0)

theorem kept_inputQualify {s0 : State} (a0 : State) (a1 : Nat) (a2 : Bool) (ha0 : Kept s0 a0) : Kept s0 (State.inputQualify a0 a1 a2) := by
  delta State.inputQualify
  refine Kept.ite ?_ ?_
  · exact ha0
  · extract_lets +onlyGivenNames -merge -useContext x0
    try clear_value x0
    extract_lets +onlyGivenNames -merge -useContext x1
    have h1 : Kept s0 x1 := by unfold x1; exact kept_wbit _ _ _ _ _ _ ha0
    clear_value x1
    exact Kept.ite h1 (Kept.ite (kept_powerBack _ (Kept.upd h1 rfl rfl rfl rfl rfl rfl rfl)) (Kept.ite (kept_pwrdisOff _ h1) (kept_wbit _ _ _ _ _ _ h1)))

theorem kept_execInputQualify {s0 : State} (a0 : Fin 5) (a1 : Bool) (a2 : State) (ha2 : Kept s0 a2) : KeptR s0 (execInputQualify a0 a1 a2) := by
  delta execInputQualify
  exact KeptR.next (kept_inputQualify _ _ _ ha2)

theorem kept_pfail {s0 : State} (a0 : State) (a1 : Nat) (ha0 : Kept s0 a0) : Kept s0 (State.pfail a0 a1) := by
  delta State.pfail
  extract_lets +onlyGivenNames -merge -useContext x0
  try clear_value x0
  extract_lets +onlyGivenNames -merge -useContext x1
  have h1 : Kept s0 x1 := by unfold x1; exact Kept.upd ha0 rfl rfl rfl rfl rfl rfl rfl
  clear_value x1
  extract_lets +onlyGivenNames -merge -useContext x2
  have h2 : Kept s0 x2 := by unfold x2; exact kept_swAbandon _ (kept_powerLost _ (kept_abortEntry _ _ _ h1))
  clear_value x2
  exact kept_startFlush _ (kept_endFreeze _ (kept_mark _ _ _ h2))

theorem kept_execPfail {s0 : State} (a0 : BitVec 16) (a1 : State) (ha1 : Kept s0 a1) : KeptR s0 (execPfail a0 a1) := by
  delta execPfail
  exact KeptR.next (kept_pfail _ _ ha1)

theorem kept_execCrystalLoss {s0 : State} (a0 : State) (ha0 : Kept s0 a0) : KeptR s0 (execCrystalLoss a0) := by
  delta execCrystalLoss
  exact KeptR.next (Kept.ite (kept_report _ _ _ _ (kept_wb _ _ _ _ _ ha0)) ha0)

theorem kept_execPllLockLoss {s0 : State} (a0 : Fin 4) (a1 : State) (ha1 : Kept s0 a1) : KeptR s0 (execPllLockLoss a0 a1) := by
  delta execPllLockLoss
  exact KeptR.next (Kept.ite (kept_report _ _ _ _ (kept_wbit _ _ _ _ _ _ ha1)) ha1)

theorem kept_resetWith {s0 : State} (a0 : State) (a1 : Nat) (ha0 : Kept s0 a0) : Kept s0 (State.resetWith a0 a1) := by
  delta State.resetWith
  extract_lets +onlyGivenNames -merge -useContext x0
  have h0 : Kept s0 x0 := by unfold x0; exact kept_coldReset _ ha0
  clear_value x0
  extract_lets +onlyGivenNames -merge -useContext x1
  have h1 : Kept s0 x1 := by unfold x1; exact kept_wf _ _ _ _ _ h0
  clear_value x1
  exact Kept.upd h1 rfl rfl rfl rfl rfl rfl rfl

theorem kept_sampleStrap {s0 : State} (a0 : State) (a1 : Nat) (ha0 : Kept s0 a0) : Kept s0 (State.sampleStrap a0 a1) := by
  delta State.sampleStrap
  exact Kept.upd ha0 rfl rfl rfl rfl rfl rfl rfl

theorem kept_swReset {s0 : State} (a0 : State) (a1 : Nat) (ha0 : Kept s0 a0) : Kept s0 (State.swReset a0 a1) := by
  delta State.swReset
  exact Kept.ite (kept_resetWith _ _ ha0) ha0

theorem kept_execSwReset {s0 : State} (a0 : BitVec 16) (a1 : State) (ha1 : Kept s0 a1) : KeptR s0 (execSwReset a0 a1) := by
  delta execSwReset
  exact KeptR.next (kept_swReset _ _ ha1)

theorem kept_execResetN {s0 : State} (a0 : Bool) (a1 : BitVec 8) (a2 : State) (ha2 : Kept s0 a2) : KeptR s0 (execResetN a0 a1 a2) := by
  delta execResetN
  refine KeptR.ite ?_ ?_
  · refine KeptR.next ?_
    extract_lets +onlyGivenNames -merge -useContext x0
    have h0 : Kept s0 x0 := by unfold x0; exact kept_coldReset _ ha2
    clear_value x0
    exact Kept.upd h0 rfl rfl rfl rfl rfl rfl rfl
  · exact KeptR.ite (KeptR.next (Kept.upd ha2 rfl rfl rfl rfl rfl rfl rfl)) (KeptR.next (kept_sampleStrap _ _ (kept_resetWith _ _ ha2)))

theorem kept_execPor {s0 : State} (a0 : Bool) (a1 : BitVec 8) (a2 : State) (ha2 : Kept s0 a2) : KeptR s0 (execPor a0 a1 a2) := by
  delta execPor
  refine KeptR.ite ?_ ?_
  · refine KeptR.next ?_
    extract_lets +onlyGivenNames -merge -useContext x0
    have h0 : Kept s0 x0 := by unfold x0; exact kept_coldReset _ ha2
    clear_value x0
    exact Kept.upd h0 rfl rfl rfl rfl rfl rfl rfl
  · exact KeptR.ite (KeptR.next (Kept.upd ha2 rfl rfl rfl rfl rfl rfl rfl)) (KeptR.next (kept_sampleStrap _ _ (kept_resetWith _ _ ha2)))

theorem kept_writeSel {s0 : State} (a0 : State) (a1 : SelRec → SelRec) (ha0 : Kept s0 a0) : Kept s0 (State.writeSel a0 a1) := by
  delta State.writeSel
  exact Kept.upd ha0 rfl rfl rfl rfl rfl rfl rfl

theorem kept_setReason {s0 : State} (a0 : State) (a1 : Nat) (a2 : Nat) (ha0 : Kept s0 a0) : Kept s0 (State.setReason a0 a1 a2) := by
  delta State.setReason
  exact Kept.ite (kept_wf _ _ _ _ _ ha0) (kept_wf _ _ _ _ _ ha0)

theorem kept_enterRecovery {s0 : State} (a0 : State) (a1 : Nat) (ha0 : Kept s0 a0) : Kept s0 (State.enterRecovery a0 a1) := by
  delta State.enterRecovery
  extract_lets +onlyGivenNames -merge -useContext x0
  have h0 : Kept s0 x0 := by unfold x0; exact kept_wb _ _ _ _ _ (kept_setMode _ _ ha0)
  clear_value x0
  exact Kept.upd h0 rfl rfl rfl rfl rfl rfl rfl

theorem kept_bootSlot {s0 : State} (a0 : State) (a1 : Nat) (a2 : Bool) (ha0 : Kept s0 a0) : Kept s0 (State.bootSlot a0 a1 a2) := by
  delta State.bootSlot
  extract_lets +onlyGivenNames -merge -useContext x0
  try clear_value x0
  extract_lets +onlyGivenNames -merge -useContext x1
  have h1 : Kept s0 x1 := by unfold x1; exact Kept.ite (kept_writeSel _ _ ha0) ha0
  clear_value x1
  extract_lets +onlyGivenNames -merge -useContext x2
  have h2 : Kept s0 x2 := by unfold x2; exact kept_wf _ _ _ _ _ (kept_wb _ _ _ _ _ (kept_wf _ _ _ _ _ h1))
  clear_value x2
  extract_lets +onlyGivenNames -merge -useContext x3
  have h3 : Kept s0 x3 := by unfold x3; exact kept_setMode _ _ h2
  clear_value x3
  exact Kept.upd h3 rfl rfl rfl rfl rfl rfl rfl

theorem kept_bootSelect {s0 : State} (a0 : State) (ha0 : Kept s0 a0) : Kept s0 (State.bootSelect a0) := by
  delta State.bootSelect
  extract_lets +onlyGivenNames -merge -useContext x0
  extract_lets +onlyGivenNames -merge -useContext x1
  have h1 : Kept s0 x1 := by unfold x1; exact Kept.upd ha0 rfl rfl rfl rfl rfl rfl rfl
  clear_value x1
  refine Kept.ite ?_ ?_
  · exact kept_enterRecovery _ _ h1
  · extract_lets +onlyGivenNames -merge -useContext x2
    try clear_value x2
    extract_lets +onlyGivenNames -merge -useContext x3
    have h3 : Kept s0 x3 := by unfold x3; exact Kept.ite (kept_writeSel _ _ h1) h1
    clear_value x3
    extract_lets +onlyGivenNames -merge -useContext x4
    try clear_value x4
    extract_lets +onlyGivenNames -merge -useContext x5
    try clear_value x5
    extract_lets +onlyGivenNames -merge -useContext x6
    try clear_value x6
    extract_lets +onlyGivenNames -merge -useContext x7
    have h7 : Kept s0 x7 := by unfold x7; exact kept_setReason _ _ _ h3
    clear_value x7
    extract_lets +onlyGivenNames -merge -useContext x8
    try clear_value x8
    extract_lets +onlyGivenNames -merge -useContext x9
    have h9 : Kept s0 x9 := by unfold x9; exact kept_setReason _ _ _ h7
    clear_value x9
    extract_lets +onlyGivenNames -merge -useContext x10
    have h10 : Kept s0 x10 := by unfold x10; exact Kept.ite (kept_bootSlot _ _ _ h7) (Kept.ite (kept_bootSlot _ _ _ h9) (kept_enterRecovery _ _ h9))
    clear_value x10
    exact Kept.ite h10 (kept_enterRecovery _ _ h10)

theorem kept_loadStore {s0 : State} (a0 : State) (ha0 : Kept s0 a0) : Kept s0 (State.loadStore a0) := by
  delta State.loadStore
  exact Kept.ite (⟨ha0.pending, ha0.part, ha0.minSvn, ha0.revoke0, ha0.mem, fun h => ⟨tabWf_foldl_tabSet _ _ _ _ (ha0.regs h).1, (ha0.regs h).2⟩⟩) (kept_report _ _ _ _ ha0)

theorem kept_recorderStart {s0 : State} (a0 : State) (ha0 : Kept s0 a0) : Kept s0 (State.recorderStart a0) := by
  delta State.recorderStart
  extract_lets +onlyGivenNames -merge -useContext x0
  try clear_value x0
  extract_lets +onlyGivenNames -merge -useContext x1
  have h1 : Kept s0 x1 := by unfold x1; exact Kept.ite (kept_mark _ _ _ (kept_report _ _ _ _ ha0)) (Kept.upd ha0 rfl rfl rfl rfl rfl rfl rfl)
  clear_value x1
  exact kept_mark _ _ _ h1

theorem kept_portUp {s0 : State} (a0 : State) (a1 : Nat) (ha0 : Kept s0 a0) : Kept s0 (State.portUp a0 a1) := by
  delta State.portUp
  exact Kept.ite (kept_modPrt _ _ _ (kept_setDom _ _ _ ha0)) ha0

theorem kept_startPath {s0 : State} (a0 : State) (a1 : Bool) (ha0 : Kept s0 a0) : Kept s0 (State.startPath a0 a1) := by
  delta State.startPath
  extract_lets +onlyGivenNames -merge -useContext x0
  have h0 : Kept s0 x0 := by unfold x0; exact kept_bootLoad _ _ (kept_setDoms _ _ _ ha0)
  clear_value x0
  refine Kept.foldl ?_ ?_
  · exact h0
  · intro y1 y2 hy1
    exact kept_plTrain _ _ hy1

theorem kept_startNext {s0 : State} (a0 : State) (a1 : Bool) (ha0 : Kept s0 a0) : KeptO2 s0 (State.startNext a0 a1) := by
  delta State.startNext
  split
  · refine KeptO2.some ?_
    show Kept s0 _
    extract_lets +onlyGivenNames -merge -useContext x0
    have h0 : Kept s0 x0 := by unfold x0; exact kept_setDom _ _ _ (kept_wb _ _ _ _ _ ha0)
    clear_value x0
    exact Kept.upd h0 rfl rfl rfl rfl rfl rfl rfl
  · extract_lets +onlyGivenNames -merge -useContext x1
    have h1 : Kept s0 x1 := by unfold x1; exact kept_setMode _ _ (kept_wf _ _ _ _ _ (kept_setDoms _ _ _ ha0))
    clear_value x1
    refine KeptO2.some ?_
    show Kept s0 _
    exact kept_portUp _ _ (kept_portUp _ _ (kept_recorderStart _ (kept_loadStore _ h1)))
  · refine KeptO2.some ?_
    show Kept s0 _
    exact kept_bootSelect _ ha0
  · extract_lets +onlyGivenNames -merge -useContext x2
    try clear_value x2
    extract_lets +onlyGivenNames -merge -useContext x3
    have h3 : Kept s0 x3 := by unfold x3; exact Kept.upd ha0 rfl rfl rfl rfl rfl rfl rfl
    clear_value x3
    split
    · refine KeptO2.some ?_
      show Kept s0 _
      exact kept_identityStart _ (kept_dmaSetup _ (kept_setDoms _ _ _ h3))
    · refine KeptO2.some ?_
      show Kept s0 _
      exact h3
  · split
    · refine KeptO2.some ?_
      show Kept s0 _
      exact kept_commitGoBoot _ ha0
    · exact KeptO2.none
  · split
    · refine KeptO2.some ?_
      show Kept s0 _
      exact kept_startPath _ _ ha0
    · exact KeptO2.none
  · split
    · refine KeptO2.some ?_
      show Kept s0 _
      exact kept_spStart _ ha0
    · exact KeptO2.none
  · split
    · refine KeptO2.some ?_
      show Kept s0 _
      refine Kept.foldl ?_ ?_
      · exact ha0
      · intro y4 y5 hy4
        exact kept_startLoad _ _ hy4
    · exact KeptO2.none
  · split
    · refine KeptO2.some ?_
      show Kept s0 _
      exact ha0
    · exact KeptO2.none
  · exact KeptO2.none

theorem kept_startStepDone {s0 : State} (a0 : State) (a1 : Bool) (ha0 : Kept s0 a0) : Kept s0 (State.startStepDone a0 a1) := by
  delta State.startStepDone
  refine Kept.ite ?_ ?_
  · exact ha0
  · split
    · rename_i v0 w0 e0
      have h0 : Kept s0 w0 := by
        refine KeptO2.get (p := (v0, w0)) ?_ e0
        exact kept_startNext _ _ ha0
      exact Kept.upd h0 rfl rfl rfl rfl rfl rfl rfl
    · exact ha0

theorem kept_execStartupStepDone {s0 : State} (a0 : Bool) (a1 : State) (ha1 : Kept s0 a1) : KeptR s0 (execStartupStepDone a0 a1) := by
  delta execStartupStepDone
  exact KeptR.next (kept_startStepDone _ _ ha1)

theorem kept_startReady {s0 : State} (a0 : State) (ha0 : Kept s0 a0) : Kept s0 (State.startReady a0) := by
  delta State.startReady
  extract_lets +onlyGivenNames -merge -useContext x0
  try clear_value x0
  extract_lets +onlyGivenNames -merge -useContext x1
  have h1 : Kept s0 x1 := by unfold x1; exact Kept.upd ha0 rfl rfl rfl rfl rfl rfl rfl
  clear_value x1
  exact Kept.ite (kept_exitEnd _ h1) h1

theorem kept_stripeRepair {s0 : State} (a0 : State) (a1 : List (Nat × Nat)) (ha0 : Kept s0 a0) : Kept s0 (State.stripeRepair a0 a1) := by
  delta State.stripeRepair
  split
  · extract_lets +onlyGivenNames -merge -useContext x0
    have h0 : Kept s0 x0 := by
      unfold x0
      refine Kept.foldl ?_ ?_
      · exact ha0
      · intro y1 y2 hy1
        split
        · exact Kept.upd hy1 rfl rfl rfl rfl rfl rfl rfl
        · exact Kept.upd hy1 rfl rfl rfl rfl rfl rfl rfl
    clear_value x0
    exact Kept.upd h0 rfl rfl rfl rfl rfl rfl rfl
  · exact Kept.ite (kept_report _ _ _ _ ha0) ha0

theorem kept_tablesRead {s0 : State} (a0 : State) (a1 : List (Nat × Nat)) (ha0 : Kept s0 a0) : Kept s0 (State.tablesRead a0 a1) := by
  delta State.tablesRead
  refine Kept.ite ?_ ?_
  · with_reducible apply kept_startReady
    · extract_lets +onlyGivenNames -merge -useContext x0
      have h0 : Kept s0 x0 := by unfold x0; exact kept_stripeRepair _ _ ha0
      clear_value x0
      exact Kept.upd h0 rfl rfl rfl rfl rfl rfl rfl
  · exact ha0

end Sys2Proof.Machine
end

