-- ==== Sys2Proof/Laws/KeptObjects.lean ====
section
/-! SUPPORT. Laws/KeptObjects.lean: the operations of Machine/Objects.lean answer states that have been kept (Safety.lean). -/

namespace Sys2Proof.Machine
open Sys2Proof

theorem kept_frontier {s0 : State} (a0 : State) (ha0 : Kept s0 a0) : KeptO s0 (State.frontier a0) := by
  delta State.frontier
  split
  · exact KeptO.some ha0
  · intro p e
    obtain ⟨t, _, e⟩ := Option.map_eq_some_iff.1 e
    subst e
    exact Kept.upd ha0 rfl rfl rfl rfl rfl rfl rfl

theorem kept_objTake {s0 : State} (a0 : Nat) (a1 : State) (a2 : Nat) (a3 : List (Nat × Nat)) (ha1 : Kept s0 a1) : KeptO s0 (State.objTake a0 a1 a2 a3) := by
  induction a0 generalizing a1 a2 a3 with
  | zero =>
    simp only [State.objTake]
    split
    · exact KeptO.some ha1
    · exact KeptO.none
  | succ n ih =>
    simp only [State.objTake]
    split
    · exact KeptO.some ha1
    · split
      · exact KeptO.none
      · rename_i v w e
        have h : Kept s0 v := KeptO.get (p := (v, w)) (kept_frontier _ ha1) e
        exact ih _ _ _ (Kept.upd h rfl rfl rfl rfl rfl rfl rfl)

theorem kept_objAlloc {s0 : State} (a0 : State) (a1 : Nat) (ha0 : Kept s0 a0) : KeptO s0 (State.objAlloc a0 a1) := by
  delta State.objAlloc
  split
  · exact KeptO.none
  · split
    · rename_i v0 w0 e0
      have h0 : Kept s0 v0 := by
        refine KeptO.get (p := (v0, w0)) ?_ e0
        exact kept_objTake _ _ _ _ ha0
      split
      · refine KeptO.some ?_
        exact Kept.mk1 h0
      · exact KeptO.none
    · exact KeptO.none

theorem kept_modObj {s0 : State} (a0 : State) (a1 : Nat) (a2 : ObjCmd → ObjCmd) (ha0 : Kept s0 a0) : Kept s0 (State.modObj a0 a1 a2) := by
  delta State.modObj
  exact kept_modCmd _ _ _ ha0

theorem kept_objPails {s0 : State} (a0 : State) (a1 : Cmd) (a2 : Nat) (ha0 : Kept s0 a0) : Kept s0 (State.objPails a0 a1 a2).1 := by
  delta State.objPails
  extract_lets +onlyGivenNames -merge -useContext x0
  try clear_value x0
  refine Kept.ite1 ?_ ?_
  · exact Kept.mk1 ha0
  · refine Kept.ite1 ?_ ?_
    · exact Kept.mk1 (kept_noPool _ _ _ ha0)
    · extract_lets +onlyGivenNames -merge -useContext x1
      try clear_value x1
      refine Kept.ite1 ?_ ?_
      · exact Kept.mk1 (kept_countEmpty _ _ ha0)
      · extract_lets +onlyGivenNames -merge -useContext x2
        have h2 : Kept s0 x2.1 := by unfold x2; exact kept_takeMany _ _ _ ha0
        clear_value x2
        extract_lets +onlyGivenNames -merge -useContext x3
        try clear_value x3
        extract_lets +onlyGivenNames -merge -useContext x4
        have h4 : Kept s0 x4 := by unfold x4; exact kept_modCmd _ _ _ h2
        clear_value x4
        exact Kept.mk1 h4

theorem kept_objMoves {s0 : State} (a0 : State) (a1 : Nat) (a2 : Nat) (a3 : Bool) (ha0 : Kept s0 a0) : Kept s0 (State.objMoves a0 a1 a2 a3) := by
  delta State.objMoves
  refine Kept.foldl ?_ ?_
  · exact ha0
  · intro y0 y1 hy0
    split
    · split
      · exact kept_queueDesc _ _ _ hy0
      · exact hy0
    · exact hy0

theorem kept_objPut {s0 : State} (a0 : State) (a1 : Cmd) (a2 : ObjCmd) (ha0 : Kept s0 a0) : Kept s0 (State.objPut a0 a1 a2) := by
  delta State.objPut
  extract_lets +onlyGivenNames -merge -useContext x0
  try clear_value x0
  extract_lets +onlyGivenNames -merge -useContext x1
  try clear_value x1
  extract_lets +onlyGivenNames -merge -useContext x2
  have h2 : ∀ y3 y4, (Kept s0 y3) → Kept s0 (x2 y3 y4) := by
    intro y3 y4 hy3
    unfold x2
    exact kept_cmdFail _ _ _ _ hy3
  clear_value x2
  refine Kept.ite ?_ ?_
  · apply h2
    · exact ha0
  · refine Kept.ite ?_ ?_
    · apply h2
      · exact ha0
    · refine Kept.ite ?_ ?_
      · apply h2
        · exact ha0
      · extract_lets +onlyGivenNames -merge -useContext x5
        try clear_value x5
        split
        · apply h2
          · exact ha0
        · rename_i v6 w6 e6
          have h6 : Kept s0 v6 := by
            refine KeptO.get (p := (v6, w6)) ?_ e6
            exact kept_objAlloc _ _ ha0
          extract_lets +onlyGivenNames -merge -useContext x7
          have h7 : Kept s0 x7.1 := by unfold x7; exact kept_objPails _ _ _ h6
          clear_value x7
          refine Kept.ite ?_ ?_
          · apply h2
            · exact kept_objRelease _ _ h7
          · extract_lets +onlyGivenNames -merge -useContext x8
            have h8 : Kept s0 x8 := by unfold x8; exact kept_modCmd _ _ _ (kept_modObj _ _ _ h7)
            clear_value x8
            extract_lets +onlyGivenNames -merge -useContext x9
            have h9 : Kept s0 x9 := by
              unfold x9
              split
              · split
                · exact Kept.ite (kept_clearBlock _ _ h8) h8
                · exact h8
              · exact h8
            clear_value x9
            exact kept_objMoves _ _ _ _ h9

theorem kept_objSource {s0 : State} (a0 : State) (a1 : Nat) (a2 : Nat) (a3 : Nat) (ha0 : Kept s0 a0) : Kept s0 (State.objSource a0 a1 a2 a3) := by
  delta State.objSource
  split
  · exact ha0
  · extract_lets +onlyGivenNames -merge -useContext x0
    have h0 : ∀ y1, (Kept s0 y1) → Kept s0 (x0 y1) := by
      intro y1 hy1
      unfold x0
      exact kept_modCmd _ _ _ (kept_cmdFail _ _ _ _ hy1)
    clear_value x0
    split
    · extract_lets +onlyGivenNames -merge -useContext x2
      have h2 : Kept s0 x2 := by unfold x2; exact kept_modCmd _ _ _ ha0
      clear_value x2
      refine Kept.ite ?_ ?_
      · exact kept_queueDesc _ _ _ h2
      · extract_lets +onlyGivenNames -merge -useContext x3
        have h3 : Kept s0 x3.1 := by unfold x3; exact kept_pailTake _ _ h2
        clear_value x3
        extract_lets +onlyGivenNames -merge -useContext x4
        have h4 : Kept s0 x4 := by unfold x4; exact kept_modCmd _ _ _ h3
        clear_value x4
        exact kept_memWrite _ _ _ h4
    · extract_lets +onlyGivenNames -merge -useContext x5
      try clear_value x5
      split
      · apply h0
        · exact ha0
      · split
        · refine Kept.ite ?_ ?_
          · apply h0
            · exact ha0
          · exact Kept.upd ha0 rfl rfl rfl rfl rfl rfl rfl
        · exact Kept.upd ha0 rfl rfl rfl rfl rfl rfl rfl

theorem kept_objSources {s0 : State} (a0 : State) (a1 : Nat) (a2 : Nat) (a3 : List (Nat × Nat)) (ha0 : Kept s0 a0) : Kept s0 (State.objSources a0 a1 a2 a3) := by
  delta State.objSources
  refine Kept.foldl ?_ ?_
  · exact ha0
  · intro y0 y1 hy0
    exact kept_objSource _ _ _ _ hy0

theorem kept_objGet {s0 : State} (a0 : State) (a1 : Cmd) (a2 : ObjCmd) (a3 : ObjSlot) (ha0 : Kept s0 a0) : Kept s0 (State.objGet a0 a1 a2 a3) := by
  delta State.objGet
  extract_lets +onlyGivenNames -merge -useContext x0
  try clear_value x0
  extract_lets +onlyGivenNames -merge -useContext x1
  try clear_value x1
  extract_lets +onlyGivenNames -merge -useContext x2
  have h2 : Kept s0 x2 := by unfold x2; exact kept_modObj _ _ _ ha0
  clear_value x2
  extract_lets +onlyGivenNames -merge -useContext x3
  have h3 : Kept s0 x3 := by unfold x3; exact kept_modCmd _ _ _ h2
  clear_value x3
  extract_lets +onlyGivenNames -merge -useContext x4
  have h4 : Kept s0 x4 := by unfold x4; exact Kept.ite (kept_cmdFail _ _ _ _ h3) h3
  clear_value x4
  exact kept_objSources _ _ _ _ h4

theorem kept_objList {s0 : State} (a0 : State) (a1 : Cmd) (a2 : ObjCmd) (ha0 : Kept s0 a0) : Kept s0 (State.objList a0 a1 a2) := by
  delta State.objList
  extract_lets +onlyGivenNames -merge -useContext x0
  try clear_value x0
  extract_lets +onlyGivenNames -merge -useContext x1
  try clear_value x1
  extract_lets +onlyGivenNames -merge -useContext x2
  try clear_value x2
  extract_lets +onlyGivenNames -merge -useContext x3
  try clear_value x3
  extract_lets +onlyGivenNames -merge -useContext x4
  try clear_value x4
  refine Kept.ite ?_ ?_
  · exact kept_cmdFail _ _ _ _ (kept_modCmd _ _ _ ha0)
  · extract_lets +onlyGivenNames -merge -useContext x5
    try clear_value x5
    extract_lets +onlyGivenNames -merge -useContext x6
    try clear_value x6
    extract_lets +onlyGivenNames -merge -useContext x7
    have h7 : Kept s0 x7.1 := by unfold x7; exact kept_objPails _ _ _ ha0
    clear_value x7
    refine Kept.ite ?_ ?_
    · exact kept_cmdFail _ _ _ _ h7
    · extract_lets +onlyGivenNames -merge -useContext x8
      have h8 : Kept s0 x8 := by unfold x8; exact kept_modCmd _ _ _ (kept_modObj _ _ _ h7)
      clear_value x8
      extract_lets +onlyGivenNames -merge -useContext x9
      have h9 : Kept s0 x9 := by
        unfold x9
        refine Kept.foldl ?_ ?_
        · exact h8
        · intro y10 y11 hy10
          split
          · split
            · exact kept_memWrite _ _ _ hy10
            · exact hy10
          · exact hy10
      clear_value x9
      exact kept_objMoves _ _ _ _ h9

theorem kept_objCheck {s0 : State} (a0 : State) (a1 : Cmd) (a2 : ObjCmd) (ha0 : Kept s0 a0) : Kept s0 (State.objCheck a0 a1 a2) := by
  delta State.objCheck
  extract_lets +onlyGivenNames -merge -useContext x0
  have h0 : Kept s0 x0 := by unfold x0; exact kept_modObj _ _ _ ha0
  clear_value x0
  extract_lets +onlyGivenNames -merge -useContext x1
  try clear_value x1
  extract_lets +onlyGivenNames -merge -useContext x2
  try clear_value x2
  refine Kept.ite ?_ ?_
  · extract_lets +onlyGivenNames -merge -useContext x3
    have h3 : Kept s0 x3 := by unfold x3; exact kept_cmdFail _ _ _ _ h0
    clear_value x3
    exact Kept.ite (kept_cmdFail _ _ _ _ h3) h3
  · refine Kept.ite ?_ ?_
    · exact kept_cmdFail _ _ _ _ h0
    · split
      · exact kept_objPut _ _ _ h0
      · split
        · exact kept_cmdFail _ _ _ _ h0
        · exact Kept.ite (kept_cmdFail _ _ _ _ h0) (kept_objGet _ _ _ _ h0)
      · split
        · exact kept_cmdFail _ _ _ _ h0
        · exact Kept.ite (kept_cmdFail _ _ _ _ h0) h0
      · exact kept_objList _ _ _ h0
      · exact h0

theorem kept_objAdvance {s0 : State} (a0 : State) (ha0 : Kept s0 a0) : Kept s0 (State.objAdvance a0) := by
  delta State.objAdvance
  refine Kept.foldl ?_ ?_
  · exact ha0
  · intro y0 y1 hy0
    split
    · split
      · exact Kept.ite (kept_objCheck _ _ _ hy0) hy0
      · exact hy0
    · exact hy0

theorem kept_objInstall {s0 : State} (a0 : State) (a1 : Cmd) (a2 : ObjCmd) (ha0 : Kept s0 a0) : Kept s0 (State.objInstall a0 a1 a2) := by
  delta State.objInstall
  extract_lets +onlyGivenNames -merge -useContext x0
  try clear_value x0
  extract_lets +onlyGivenNames -merge -useContext x1
  try clear_value x1
  split
  · exact ha0
  · extract_lets +onlyGivenNames -merge -useContext x2
    try clear_value x2
    extract_lets +onlyGivenNames -merge -useContext x3
    try clear_value x3
    extract_lets +onlyGivenNames -merge -useContext x4
    try clear_value x4
    extract_lets +onlyGivenNames -merge -useContext x5
    try clear_value x5
    extract_lets +onlyGivenNames -merge -useContext x6
    have h6 : Kept s0 x6 := by unfold x6; exact Kept.upd ha0 rfl rfl rfl rfl rfl rfl rfl
    clear_value x6
    extract_lets +onlyGivenNames -merge -useContext x7
    have h7 : Kept s0 x7 := by unfold x7; exact kept_modCmd _ _ _ (kept_modObj _ _ _ h6)
    clear_value x7
    exact kept_objAdvance _ (kept_objDurable _ h7)

theorem kept_compactMove {s0 : State} (a0 : State) (a1 : Nat) (a2 : Nat) (a3 : ObjSlot) (ha0 : Kept s0 a0) : Kept s0 (State.compactMove a0 a1 a2 a3) := by
  delta State.compactMove
  extract_lets +onlyGivenNames -merge -useContext x0
  try clear_value x0
  refine Kept.ite ?_ ?_
  · exact ha0
  · split
    · exact ha0
    · rename_i v1 w1 e1
      have h1 : Kept s0 v1 := by
        refine KeptO.get (p := (v1, w1)) ?_ e1
        exact kept_objAlloc _ _ ha0
      extract_lets +onlyGivenNames -merge -useContext x2
      have h2 : Kept s0 x2.1 := by unfold x2; exact kept_newStamp _ h1
      clear_value x2
      extract_lets +onlyGivenNames -merge -useContext x3
      try clear_value x3
      extract_lets +onlyGivenNames -merge -useContext x4
      try clear_value x4
      extract_lets +onlyGivenNames -merge -useContext x5
      try clear_value x5
      with_reducible apply kept_objSources
      · extract_lets +onlyGivenNames -merge -useContext x6
        have h6 : Kept s0 x6 := by unfold x6; exact h2
        clear_value x6
        exact Kept.upd h6 rfl rfl rfl rfl rfl rfl rfl

theorem kept_objCompact {s0 : State} (a0 : State) (a1 : Nat) (ha0 : Kept s0 a0) : Kept s0 (State.objCompact a0 a1) := by
  delta State.objCompact
  refine Kept.ite ?_ ?_
  · exact ha0
  · split
    · exact ha0
    · extract_lets +onlyGivenNames -merge -useContext x0
      try clear_value x0
      extract_lets +onlyGivenNames -merge -useContext x1
      try clear_value x1
      refine Kept.foldl ?_ ?_
      · exact ha0
      · intro y2 y3 hy2
        exact kept_compactMove _ _ _ _ hy2

theorem kept_execObjectCompact {s0 : State} (a0 : Fin 16) (a1 : State) (ha1 : Kept s0 a1) : KeptR s0 (execObjectCompact a0 a1) := by
  delta execObjectCompact
  exact KeptR.next (Kept.ite ha1 (kept_objCompact _ _ ha1))

theorem kept_objLoad {s0 : State} (a0 : State) (a1 : List Nat) (ha0 : Kept s0 a0) : Kept s0 (State.objLoad a0 a1) := by
  delta State.objLoad
  refine Kept.ite ?_ ?_
  · exact ha0
  · extract_lets +onlyGivenNames -merge -useContext x0
    try clear_value x0
    extract_lets +onlyGivenNames -merge -useContext x1
    try clear_value x1
    extract_lets +onlyGivenNames -merge -useContext x2
    have h2 : Kept s0 x2 := by unfold x2; exact Kept.upd ha0 rfl rfl rfl rfl rfl rfl rfl
    clear_value x2
    with_reducible apply kept_objAdvance
    · refine Kept.foldl ?_ ?_
      · exact h2
      · intro y3 y4 hy3
        exact kept_report _ _ _ _ hy3

theorem kept_execObjectIndexLoad {s0 : State} (a0 : List (BitVec 18)) (a1 : State) (ha1 : Kept s0 a1) : KeptR s0 (execObjectIndexLoad a0 a1) := by
  delta execObjectIndexLoad
  exact KeptR.next (kept_objLoad _ _ ha1)

theorem kept_bucketReload {s0 : State} (a0 : State) (a1 : Nat) (ha0 : Kept s0 a0) : Kept s0 (State.bucketReload a0 a1) := by
  delta State.bucketReload
  extract_lets +onlyGivenNames -merge -useContext x0
  have h0 : Kept s0 x0 := by unfold x0; exact kept_report _ _ _ _ ha0
  clear_value x0
  extract_lets +onlyGivenNames -merge -useContext x1
  try clear_value x1
  extract_lets +onlyGivenNames -merge -useContext x2
  try clear_value x2
  exact Kept.upd h0 rfl rfl rfl rfl rfl rfl rfl

theorem kept_execBucketReload {s0 : State} (a0 : BitVec 18) (a1 : State) (ha1 : Kept s0 a1) : KeptR s0 (execBucketReload a0 a1) := by
  delta execBucketReload
  exact KeptR.next (kept_bucketReload _ _ ha1)

end Sys2Proof.Machine
end

