-- ==== Sys2Proof/Laws/KeptFinish.lean ====
section
/-! SUPPORT. Laws/KeptFinish.lean: the operations of Machine/Finish.lean answer states that have been kept (Safety.lean). -/

namespace Sys2Proof.Machine
open Sys2Proof

theorem kept_modSr {s0 : State} (a0 : State) (a1 : Nat) (a2 : SubRing → SubRing) (ha0 : Kept s0 a0) : Kept s0 (State.modSr a0 a1 a2) := by
  delta State.modSr
  exact Kept.upd ha0 rfl rfl rfl rfl rfl rfl rfl

theorem kept_modCr {s0 : State} (a0 : State) (a1 : Nat) (a2 : CompRing → CompRing) (ha0 : Kept s0 a0) : Kept s0 (State.modCr a0 a1 a2) := by
  delta State.modCr
  exact Kept.upd ha0 rfl rfl rfl rfl rfl rfl rfl

theorem kept_modSq {s0 : State} (a0 : State) (a1 : Nat) (a2 : Nat) (a3 : NvSq → NvSq) (ha0 : Kept s0 a0) : Kept s0 (State.modSq a0 a1 a2 a3) := by
  delta State.modSq
  exact kept_modPrt _ _ _ ha0

theorem kept_modCq {s0 : State} (a0 : State) (a1 : Nat) (a2 : Nat) (a3 : NvCq → NvCq) (ha0 : Kept s0 a0) : Kept s0 (State.modCq a0 a1 a2 a3) := by
  delta State.modCq
  exact kept_modPrt _ _ _ ha0

theorem kept_applyUpdate {s0 : State} (a0 : State) (a1 : Nat) (ha0 : Kept s0 a0) : Kept s0 (State.applyUpdate a0 a1) := by
  delta State.applyUpdate
  refine Kept.ite ?_ ?_
  · split
    · exact kept_modSr _ _ _ ha0
    · exact ha0
  · exact ha0

theorem kept_pickTurn {s0 : State} (a0 : State) (ha0 : Kept s0 a0) : KeptO s0 (State.pickTurn a0) := by
  delta State.pickTurn
  extract_lets +onlyGivenNames -merge -useContext x0
  try clear_value x0
  extract_lets +onlyGivenNames -merge -useContext x1
  try clear_value x1
  extract_lets +onlyGivenNames -merge -useContext x2
  have h2 : Kept s0 x2 := by unfold x2; exact Kept.ite ha0 (Kept.upd ha0 rfl rfl rfl rfl rfl rfl rfl)
  clear_value x2
  split
  · exact KeptO.none
  · refine KeptO.some ?_
    exact Kept.mk1 (kept_applyUpdate _ _ (Kept.upd h2 rfl rfl rfl rfl rfl rfl rfl))

theorem kept_nextTurn {s0 : State} (a0 : State) (ha0 : Kept s0 a0) : KeptO s0 (State.nextTurn a0) := by
  delta State.nextTurn
  split
  · exact KeptO.none
  · split
    · refine KeptO.some ?_
      exact Kept.mk1 (Kept.ite ha0 (Kept.upd ha0 rfl rfl rfl rfl rfl rfl rfl))
    · split
      · split
        · refine KeptO.some ?_
          exact Kept.mk1 ha0
        · exact kept_pickTurn _ ha0
      · exact kept_pickTurn _ ha0

theorem kept_turnEnd {s0 : State} (a0 : State) (a1 : Nat) (ha0 : Kept s0 a0) : Kept s0 (State.turnEnd a0 a1) := by
  delta State.turnEnd
  split
  · exact Kept.ite (Kept.upd ha0 rfl rfl rfl rfl rfl rfl rfl) ha0
  · exact ha0

theorem kept_turnCount {s0 : State} (a0 : State) (a1 : Nat) (ha0 : Kept s0 a0) : Kept s0 (State.turnCount a0 a1) := by
  delta State.turnCount
  split
  · exact Kept.ite (Kept.upd ha0 rfl rfl rfl rfl rfl rfl rfl) ha0
  · exact ha0

theorem kept_priDrop {s0 : State} (a0 : State) (a1 : PriWho) (ha0 : Kept s0 a0) : Kept s0 (State.priDrop a0 a1) := by
  delta State.priDrop
  extract_lets +onlyGivenNames -merge -useContext x0
  try clear_value x0
  extract_lets +onlyGivenNames -merge -useContext x1
  have h1 : Kept s0 x1 := by unfold x1; exact Kept.upd ha0 rfl rfl rfl rfl rfl rfl rfl
  clear_value x1
  exact Kept.upd h1 rfl rfl rfl rfl rfl rfl rfl

theorem kept_freezeRing {s0 : State} (a0 : State) (a1 : Nat) (a2 : Nat) (a3 : Nat) (a4 : Nat) (ha0 : Kept s0 a0) : Kept s0 (State.freezeRing a0 a1 a2 a3 a4) := by
  delta State.freezeRing
  extract_lets +onlyGivenNames -merge -useContext x0
  try clear_value x0
  refine Kept.ite ?_ ?_
  · extract_lets +onlyGivenNames -merge -useContext x1
    try clear_value x1
    extract_lets +onlyGivenNames -merge -useContext x2
    have h2 : Kept s0 x2 := by unfold x2; exact kept_modSr _ _ _ ha0
    clear_value x2
    exact kept_report _ _ _ _ (kept_cnt _ _ _ _ _ (kept_turnEnd _ _ (kept_priDrop _ _ h2)))
  · exact ha0

theorem kept_freezeCr {s0 : State} (a0 : State) (a1 : Nat) (a2 : Nat) (ha0 : Kept s0 a0) : Kept s0 (State.freezeCr a0 a1 a2) := by
  delta State.freezeCr
  extract_lets +onlyGivenNames -merge -useContext x0
  try clear_value x0
  refine Kept.ite ?_ ?_
  · exact ha0
  · extract_lets +onlyGivenNames -merge -useContext x1
    try clear_value x1
    extract_lets +onlyGivenNames -merge -useContext x2
    have h2 : Kept s0 x2 := by unfold x2; exact kept_modCr _ _ _ ha0
    clear_value x2
    extract_lets +onlyGivenNames -merge -useContext x3
    have h3 : Kept s0 x3 := by unfold x3; exact kept_report _ _ _ _ (kept_cnt _ _ _ _ _ (kept_priDrop _ _ h2))
    clear_value x3
    refine Kept.foldl ?_ ?_
    · exact h3
    · intro y4 y5 hy4
      exact kept_freezeRing _ _ _ _ _ hy4

theorem kept_crWrite {s0 : State} (a0 : State) (a1 : Nat) (a2 : CqEnt) (ha0 : Kept s0 a0) : Kept s0 (State.crWrite a0 a1 a2) := by
  delta State.crWrite
  extract_lets +onlyGivenNames -merge -useContext x0
  try clear_value x0
  extract_lets +onlyGivenNames -merge -useContext x1
  have h1 : Kept s0 x1 := by unfold x1; exact kept_modCr _ _ _ ha0
  clear_value x1
  exact kept_emit _ _ h1

theorem kept_crDrain {s0 : State} (a0 : Nat) (a1 : State) (a2 : Nat) (ha1 : Kept s0 a1) : Kept s0 (State.crDrain a0 a1 a2) := by
  induction a0 generalizing a1 with
  | zero => exact ha1
  | succ n ih =>
    simp only [State.crDrain]
    split
    · exact ha1
    · exact Kept.ite ha1 (ih _ (kept_crWrite _ _ _ (kept_modCr _ _ _ ha1)))

theorem kept_crPut {s0 : State} (a0 : State) (a1 : Nat) (a2 : CqEnt) (a3 : WrAns) (ha0 : Kept s0 a0) : Kept s0 (State.crPut a0 a1 a2 a3) := by
  delta State.crPut
  extract_lets +onlyGivenNames -merge -useContext x0
  try clear_value x0
  extract_lets +onlyGivenNames -merge -useContext x1
  have h1 : Kept s0 x1 := by unfold x1; exact kept_modCr _ _ _ ha0
  clear_value x1
  refine Kept.ite ?_ ?_
  · exact h1
  · split
    · exact kept_crWrite _ _ _ ha0
    · exact kept_freezeCr _ _ _ h1
    · exact Kept.ite (kept_priAsk _ _ _ _ _ _ (kept_modCr _ _ _ h1)) (kept_freezeCr _ _ _ h1)

theorem kept_openResult {s0 : State} (a0 : State) (a1 : Nat) (ha0 : Kept s0 a0) : Kept s0 (State.openResult a0 a1).1 := by
  delta State.openResult
  exact Kept.mk1 (kept_useFree _ ha0)

theorem kept_unstamped {s0 : State} (a0 : State) (a1 : Nat) (a2 : Nat) (a3 : Nat) (a4 : Nat) (ha0 : Kept s0 a0) : Kept s0 (State.unstamped a0 a1 a2 a3 a4) := by
  delta State.unstamped
  extract_lets +onlyGivenNames -merge -useContext x0
  try clear_value x0
  extract_lets +onlyGivenNames -merge -useContext x1
  have h1 : Kept s0 x1.1 := by unfold x1; exact kept_openResult _ _ ha0
  clear_value x1
  extract_lets +onlyGivenNames -merge -useContext x2
  have h2 : Kept s0 x2 := by unfold x2; exact kept_modCr _ _ _ h1
  clear_value x2
  exact kept_crPut _ _ _ _ h2

theorem kept_entryFrozen {s0 : State} (a0 : State) (a1 : Nat) (a2 : Nat) (a3 : Nat) (a4 : Nat) (ha0 : Kept s0 a0) : Kept s0 (State.entryFrozen a0 a1 a2 a3 a4) := by
  delta State.entryFrozen
  exact kept_unstamped _ _ _ _ _ (kept_freezeRing _ _ _ _ _ ha0)

theorem kept_cqWrite {s0 : State} (a0 : State) (a1 : Nat) (a2 : Nat) (a3 : CqEnt) (ha0 : Kept s0 a0) : Kept s0 (State.cqWrite a0 a1 a2 a3) := by
  delta State.cqWrite
  extract_lets +onlyGivenNames -merge -useContext x0
  try clear_value x0
  extract_lets +onlyGivenNames -merge -useContext x1
  have h1 : Kept s0 x1 := by unfold x1; exact kept_modCq _ _ _ _ ha0
  clear_value x1
  exact kept_emit _ _ h1

theorem kept_cqDrain {s0 : State} (a0 : Nat) (a1 : State) (a2 a3 : Nat) (ha1 : Kept s0 a1) : Kept s0 (State.cqDrain a0 a1 a2 a3) := by
  induction a0 generalizing a1 with
  | zero => exact ha1
  | succ n ih =>
    simp only [State.cqDrain]
    split
    · exact ha1
    · exact Kept.ite ha1 (ih _ (kept_cqWrite _ _ _ _ (kept_modCq _ _ _ _ ha1)))

theorem kept_abortSectors {s0 : State} (a0 : State) (a1 : Nat) (ha0 : Kept s0 a0) : Kept s0 (State.abortSectors a0 a1) := by
  delta State.abortSectors
  extract_lets +onlyGivenNames -merge -useContext x0
  try clear_value x0
  extract_lets +onlyGivenNames -merge -useContext x1
  have h1 : Kept s0 x1 := by unfold x1; exact Kept.upd ha0 rfl rfl rfl rfl rfl rfl rfl
  clear_value x1
  refine Kept.foldl ?_ ?_
  · exact h1
  · intro y2 y3 hy2
    extract_lets +onlyGivenNames -merge -useContext x4
    try clear_value x4
    extract_lets +onlyGivenNames -merge -useContext x5
    try clear_value x5
    refine Kept.ite ?_ ?_
    · exact hy2
    · extract_lets +onlyGivenNames -merge -useContext x6
      try clear_value x6
      extract_lets +onlyGivenNames -merge -useContext x7
      try clear_value x7
      extract_lets +onlyGivenNames -merge -useContext x8
      have h8 : Kept s0 x8 := by unfold x8; exact kept_modCh _ _ _ hy2
      clear_value x8
      exact Kept.ite (kept_sqEvent _ _ _ h8) h8

theorem kept_abortCmd {s0 : State} (a0 : State) (a1 : Cmd) (ha0 : Kept s0 a0) : Kept s0 (State.abortCmd a0 a1) := by
  delta State.abortCmd
  extract_lets +onlyGivenNames -merge -useContext x0
  have h0 : Kept s0 x0 := by unfold x0; exact kept_modCmd _ _ _ ha0
  clear_value x0
  exact kept_returnReserved _ _ (kept_abortSectors _ _ (kept_abortDescs _ _ h0))

theorem kept_discardCmds {s0 : State} (a0 : State) (a1 : Nat) (ha0 : Kept s0 a0) : Kept s0 (State.discardCmds a0 a1) := by
  delta State.discardCmds
  refine Kept.foldl ?_ ?_
  · exact ha0
  · intro y0 y1 hy0
    extract_lets +onlyGivenNames -merge -useContext x2
    have h2 : Kept s0 x2 := by unfold x2; exact kept_modCmd _ _ _ (kept_abortCmd _ _ hy0)
    clear_value x2
    exact Kept.ite (kept_modCr _ _ _ h2) (kept_modCq _ _ _ _ h2)

theorem kept_ctrlFatal {s0 : State} (a0 : State) (a1 : Nat) (ha0 : Kept s0 a0) : Kept s0 (State.ctrlFatal a0 a1) := by
  delta State.ctrlFatal
  extract_lets +onlyGivenNames -merge -useContext x0
  have h0 : Kept s0 x0 := by unfold x0; exact kept_modPrt _ _ _ ha0
  clear_value x0
  refine Kept.foldl ?_ ?_
  · exact h0
  · intro y1 y2 hy1
    exact kept_discardCmds _ _ hy1

theorem kept_logError {s0 : State} (a0 : State) (a1 : Nat) (a2 : CqEnt) (ha0 : Kept s0 a0) : Kept s0 (State.logError a0 a1 a2) := by
  delta State.logError
  exact kept_modPrt _ _ _ ha0

theorem kept_cqPut {s0 : State} (a0 : State) (a1 : Nat) (a2 : Nat) (a3 : CqEnt) (a4 : WrAns) (ha0 : Kept s0 a0) : Kept s0 (State.cqPut a0 a1 a2 a3 a4) := by
  delta State.cqPut
  extract_lets +onlyGivenNames -merge -useContext x0
  try clear_value x0
  extract_lets +onlyGivenNames -merge -useContext x1
  have h1 : Kept s0 x1 := by unfold x1; exact Kept.ite ha0 (kept_logError _ _ _ ha0)
  clear_value x1
  extract_lets +onlyGivenNames -merge -useContext x2
  have h2 : Kept s0 x2 := by unfold x2; exact kept_modCq _ _ _ _ h1
  clear_value x2
  refine Kept.ite ?_ ?_
  · exact h2
  · split
    · exact kept_cqWrite _ _ _ _ h1
    · exact kept_ctrlFatal _ _ h1
    · exact Kept.ite (kept_priAsk _ _ _ _ _ _ (kept_modCq _ _ _ _ h2)) (kept_ctrlFatal _ _ h1)

theorem kept_cmdFree {s0 : State} (a0 : State) (a1 : Cmd) (ha0 : Kept s0 a0) : Kept s0 (State.cmdFree a0 a1) := by
  delta State.cmdFree
  extract_lets +onlyGivenNames -merge -useContext x0
  have h0 : Kept s0 x0 := by unfold x0; exact kept_returnReserved _ _ ha0
  clear_value x0
  extract_lets +onlyGivenNames -merge -useContext x1
  try clear_value x1
  extract_lets +onlyGivenNames -merge -useContext x2
  have h2 : Kept s0 x2 := by unfold x2; exact Kept.upd h0 rfl rfl rfl rfl rfl rfl rfl
  clear_value x2
  extract_lets +onlyGivenNames -merge -useContext x3
  have h3 : Kept s0 x3 := by
    unfold x3
    split
    · exact Kept.ite (kept_objRelease _ _ h2) h2
    · exact h2
  clear_value x3
  extract_lets +onlyGivenNames -merge -useContext x4
  have h4 : Kept s0 x4 := by unfold x4; exact kept_pailsFree _ _ h3
  clear_value x4
  extract_lets +onlyGivenNames -merge -useContext x5
  have h5 : Kept s0 x5 := by unfold x5; exact Kept.ite (kept_wb _ _ _ _ _ h4) h4
  clear_value x5
  extract_lets +onlyGivenNames -merge -useContext x6
  have h6 : Kept s0 x6 := by unfold x6; exact Kept.ite (Kept.upd h5 rfl rfl rfl rfl rfl rfl rfl) h5
  clear_value x6
  exact kept_objAdvance _ (kept_readAdvance _ (kept_objDurable _ h6))

theorem kept_cmdResult {s0 : State} (a0 : State) (a1 : Cmd) (ha0 : Kept s0 a0) : Kept s0 (State.cmdResult a0 a1).1 := by
  delta State.cmdResult
  extract_lets +onlyGivenNames -merge -useContext x0
  try clear_value x0
  split
  · exact Kept.mk1 ha0
  · exact Kept.mk1 ha0
  · exact Kept.ite1 (Kept.mk1 ha0) (kept_openResult _ _ ha0)
  · exact Kept.ite1 (Kept.mk1 ha0) (kept_openResult _ _ ha0)
  · exact Kept.ite1 (Kept.mk1 ha0) (kept_openResult _ _ ha0)
  · exact Kept.ite1 (Kept.mk1 ha0) (kept_openResult _ _ ha0)
  · exact Kept.ite1 (Kept.mk1 ha0) (kept_openResult _ _ ha0)
  · exact kept_openResult _ _ ha0

theorem kept_commandFinish {s0 : State} (a0 : State) (a1 : Nat) (a2 : WrAns) (ha0 : Kept s0 a0) : Kept s0 (State.commandFinish a0 a1 a2) := by
  delta State.commandFinish
  split
  · exact ha0
  · refine Kept.ite ?_ ?_
    · exact Kept.ite (kept_cmdFree _ _ ha0) ha0
    · refine Kept.ite ?_ ?_
      · exact ha0
      · refine Kept.ite ?_ ?_
        · extract_lets +onlyGivenNames -merge -useContext x0
          try clear_value x0
          refine Kept.ite ?_ ?_
          · exact ha0
          · extract_lets +onlyGivenNames -merge -useContext x1
            have h1 : Kept s0 x1.1 := by unfold x1; exact kept_cmdResult _ _ ha0
            clear_value x1
            extract_lets +onlyGivenNames -merge -useContext x2
            try clear_value x2
            exact kept_cmdFree _ _ (kept_crPut _ _ _ _ h1)
        · extract_lets +onlyGivenNames -merge -useContext x3
          try clear_value x3
          extract_lets +onlyGivenNames -merge -useContext x4
          try clear_value x4
          exact kept_cmdFree _ _ (kept_cqPut _ _ _ _ _ ha0)

theorem kept_execCommandFinish {s0 : State} (a0 : BitVec 64) (a1 : WrAns) (a2 : State) (ha2 : Kept s0 a2) : KeptR s0 (execCommandFinish a0 a1 a2) := by
  delta execCommandFinish
  exact KeptR.next (kept_commandFinish _ _ _ ha2)

theorem kept_abortReach {s0 : State} (a0 : State) (a1 : Nat) (a2 : Nat) (a3 : Option Nat) (ha0 : Kept s0 a0) : Kept s0 (State.abortReach a0 a1 a2 a3).1 := by
  delta State.abortReach
  split
  · extract_lets +onlyGivenNames -merge -useContext x0
    try clear_value x0
    exact Kept.ite1 (Kept.mk1 (kept_modCmd _ _ _ ha0)) (Kept.mk1 (kept_abortCmd _ _ ha0))
  · exact Kept.mk1 ha0

theorem kept_abortRun {s0 : State} (a0 : State) (a1 : Cmd) (ha0 : Kept s0 a0) : Kept s0 (State.abortRun a0 a1) := by
  delta State.abortRun
  extract_lets +onlyGivenNames -merge -useContext x0
  have h0 : Kept s0 x0.1 := by unfold x0; exact kept_abortReach _ _ _ _ ha0
  clear_value x0
  exact Kept.ite (kept_modCmd _ _ _ h0) (kept_cmdFail _ _ _ _ h0)

theorem kept_reserve {s0 : State} (a0 : State) (a1 : Nat) (a2 : Nat) (a3 : Nat) (ha0 : Kept s0 a0) : Kept s0 (State.reserve a0 a1 a2 a3) := by
  delta State.reserve
  exact kept_poolFell _ _ (kept_modPool _ _ _ ha0)

theorem kept_cmdStart {s0 : State} (a0 : State) (a1 : Nat) (ha0 : Kept s0 a0) : Kept s0 (State.cmdStart a0 a1) := by
  delta State.cmdStart
  split
  · exact ha0
  · refine Kept.ite ?_ ?_
    · exact ha0
    · extract_lets +onlyGivenNames -merge -useContext x0
      have h0 : Kept s0 x0 := by
        unfold x0
        split
        · exact kept_readAdvance _ ha0
        · exact kept_readAdvance _ ha0
        · exact kept_abortRun _ _ ha0
        · exact kept_objAdvance _ ha0
        · exact kept_objAdvance _ ha0
        · exact kept_objAdvance _ ha0
        · exact kept_objAdvance _ ha0
        · exact ha0
      clear_value x0
      extract_lets +onlyGivenNames -merge -useContext x1
      try clear_value x1
      exact Kept.ite (kept_wake _ _ h0) h0

theorem kept_admit {s0 : State} (a0 : State) (a1 : Cmd) (a2 : Bool) (a3 : Nat) (ha0 : Kept s0 a0) : Kept s0 (State.admitCmd a0 a1 a2 a3).1 := by
  delta State.admitCmd
  extract_lets +onlyGivenNames -merge -useContext x0
  have h0 : ∀ y1, (Kept s0 y1) → Kept s0 (x0 y1).1 := by
    intro y1 hy1
    unfold x0
    exact Kept.mk1 (kept_turnEnd _ _ hy1)
  clear_value x0
  refine Kept.ite1 ?_ ?_
  · apply h0
    · exact kept_cnt _ _ _ _ _ (kept_wb _ _ _ _ _ ha0)
  · refine Kept.ite1 ?_ ?_
    · apply h0
      · exact ha0
    · extract_lets +onlyGivenNames -merge -useContext x2
      try clear_value x2
      refine Kept.ite1 ?_ ?_
      · apply h0
        · exact ha0
      · extract_lets +onlyGivenNames -merge -useContext x3
        try clear_value x3
        extract_lets +onlyGivenNames -merge -useContext x4
        try clear_value x4
        refine Kept.ite1 ?_ ?_
        · apply h0
          · exact kept_noPool _ _ _ ha0
        · refine Kept.ite1 ?_ ?_
          · apply h0
            · exact kept_countEmpty _ _ ha0
          · extract_lets +onlyGivenNames -merge -useContext x5
            have h5 : Kept s0 x5.1 := by unfold x5; exact kept_newStamp _ ha0
            clear_value x5
            extract_lets +onlyGivenNames -merge -useContext x6
            have h6 : Kept s0 x6 := by unfold x6; exact Kept.ite h5 (kept_reserve _ _ _ _ h5)
            clear_value x6
            extract_lets +onlyGivenNames -merge -useContext x7
            have h7 : Kept s0 x7 := by unfold x7; exact Kept.upd h6 rfl rfl rfl rfl rfl rfl rfl
            clear_value x7
            exact Kept.mk1 (kept_cmdStart _ _ h7)

end Sys2Proof.Machine
end

