-- ==== Sys2Proof/Laws/KeptRings.lean ====
section
/-! SUPPORT. Laws/KeptRings.lean: the operations of Machine/Rings.lean answer states that have been kept (Safety.lean). -/

namespace Sys2Proof.Machine
open Sys2Proof

theorem kept_passEntry {s0 : State} (a0 : State) (a1 : Nat) (a2 : Nat) (a3 : Nat) (ha0 : Kept s0 a0) : Kept s0 (State.passEntry a0 a1 a2 a3) := by
  delta State.passEntry
  exact kept_modSr _ _ _ ha0

theorem kept_entryTake {s0 : State} (a0 : State) (a1 : Nat) (a2 : List Byte) (ha0 : Kept s0 a0) : Kept s0 (State.entryTake a0 a1 a2) := by
  delta State.entryTake
  extract_lets +onlyGivenNames -merge -useContext x0
  try clear_value x0
  extract_lets +onlyGivenNames -merge -useContext x1
  try clear_value x1
  extract_lets +onlyGivenNames -merge -useContext x2
  try clear_value x2
  refine Kept.ite ?_ ?_
  · exact kept_entryFrozen _ _ _ _ _ ha0
  · refine Kept.ite ?_ ?_
    · exact kept_turnEnd _ _ ha0
    · split
      · exact kept_entryFrozen _ _ _ _ _ ha0
      · refine Kept.ite ?_ ?_
        · exact kept_entryFrozen _ _ _ _ _ ha0
        · refine Kept.ite ?_ ?_
          · exact Kept.ite (kept_passEntry _ _ _ _ ha0) (kept_entryFrozen _ _ _ _ _ ha0)
          · extract_lets +onlyGivenNames -merge -useContext x3
            have h3 : Kept s0 x3.1 := by unfold x3; exact kept_admit _ _ _ _ ha0
            clear_value x3
            exact Kept.ite (kept_turnCount _ _ (kept_passEntry _ _ _ _ (kept_modCr _ _ _ h3))) h3

theorem kept_parkRing {s0 : State} (a0 : State) (a1 : Nat) (ha0 : Kept s0 a0) : Kept s0 (State.parkRing a0 a1) := by
  delta State.parkRing
  extract_lets +onlyGivenNames -merge -useContext x0
  try clear_value x0
  extract_lets +onlyGivenNames -merge -useContext x1
  try clear_value x1
  extract_lets +onlyGivenNames -merge -useContext x2
  have h2 : Kept s0 x2 := by unfold x2; exact kept_modSr _ _ _ ha0
  clear_value x2
  extract_lets +onlyGivenNames -merge -useContext x3
  try clear_value x3
  extract_lets +onlyGivenNames -merge -useContext x4
  have h4 : Kept s0 x4 := by unfold x4; exact Kept.ite (Kept.upd h2 rfl rfl rfl rfl rfl rfl rfl) h2
  clear_value x4
  exact kept_priAsk _ _ _ _ _ _ (kept_turnEnd _ _ h4)

theorem kept_fetchEntry {s0 : State} (a0 : State) (a1 : Nat) (a2 : FetchAns) (ha0 : Kept s0 a0) : Kept s0 (State.fetchEntry a0 a1 a2) := by
  delta State.fetchEntry
  extract_lets +onlyGivenNames -merge -useContext x0
  try clear_value x0
  refine Kept.ite ?_ ?_
  · exact kept_entryFrozen _ _ _ _ _ ha0
  · split
    · exact kept_entryTake _ _ _ ha0
    · split
      · exact kept_entryTake _ _ _ ha0
      · exact Kept.ite (kept_parkRing _ _ ha0) (kept_entryFrozen _ _ _ _ _ ha0)
      · exact kept_entryFrozen _ _ _ _ _ ha0
      · exact kept_entryFrozen _ _ _ _ _ ha0
      · exact kept_entryFrozen _ _ _ _ _ ha0
      · exact kept_entryFrozen _ _ _ _ _ ha0
      · exact kept_entryFrozen _ _ _ _ _ ha0

theorem kept_fetch {s0 : State} (a0 : State) (a1 : FetchAns) (ha0 : Kept s0 a0) : Kept s0 (State.fetch a0 a1) := by
  delta State.fetch
  split
  · rename_i v0 w0 e0
    have h0 : Kept s0 v0 := by
      refine KeptO.get (p := (v0, w0)) ?_ e0
      exact kept_nextTurn _ ha0
    refine Kept.ite ?_ ?_
    · exact kept_fetchEntry _ _ _ h0
    · split
      · exact ha0
      · exact kept_ctrlFatal _ _ h0
  · exact ha0

theorem kept_execFetch {s0 : State} (a0 : FetchAns) (a1 : State) (ha1 : Kept s0 a1) : KeptR s0 (execFetch a0 a1) := by
  delta execFetch
  exact KeptR.next (kept_fetch _ _ ha1)

theorem kept_ringEntry {s0 : State} (a0 : State) (a1 : Nat) (a2 : Nat) (a3 : List Byte) (ha0 : Kept s0 a0) : Kept s0 (State.ringEntry a0 a1 a2 a3) := by
  delta State.ringEntry
  split
  · rename_i v0 w0 e0
    have h0 : Kept s0 v0 := by
      refine KeptO.get (p := (v0, w0)) ?_ e0
      exact kept_nextTurn _ ha0
    exact Kept.ite (kept_fetchEntry _ _ _ (Kept.upd h0 rfl rfl rfl rfl rfl rfl rfl)) ha0
  · exact ha0

theorem kept_execPad {s0 : State} (a0 : BitVec 20) (a1 : BitVec 4) (a2 : State) (ha2 : Kept s0 a2) : KeptR s0 (execPad a0 a1 a2) := by
  delta execPad
  exact KeptR.next (kept_ringEntry _ _ _ _ ha2)

theorem kept_execRead {s0 : State} (a0 : BitVec 20) (a1 : BitVec 8) (a2 : BitVec 32) (a3 : BitVec 48) (a4 : BitVec 32) (a5 : List (BitVec 64 × BitVec 32)) (a6 : State) (ha6 : Kept s0 a6) : KeptR s0 (execRead a0 a1 a2 a3 a4 a5 a6) := by
  delta execRead
  exact KeptR.next (kept_ringEntry _ _ _ _ ha6)

theorem kept_execWrite {s0 : State} (a0 : BitVec 20) (a1 : BitVec 8) (a2 : BitVec 32) (a3 : BitVec 48) (a4 : BitVec 32) (a5 : Bool) (a6 : List (BitVec 64 × BitVec 32)) (a7 : State) (ha7 : Kept s0 a7) : KeptR s0 (execWrite a0 a1 a2 a3 a4 a5 a6 a7) := by
  delta execWrite
  exact KeptR.next (kept_ringEntry _ _ _ _ ha7)

theorem kept_execFlush {s0 : State} (a0 : BitVec 20) (a1 : BitVec 8) (a2 : BitVec 32) (a3 : State) (ha3 : Kept s0 a3) : KeptR s0 (execFlush a0 a1 a2 a3) := by
  delta execFlush
  exact KeptR.next (kept_ringEntry _ _ _ _ ha3)

theorem kept_execWriteZeroes {s0 : State} (a0 : BitVec 20) (a1 : BitVec 8) (a2 : BitVec 32) (a3 : BitVec 48) (a4 : BitVec 32) (a5 : Bool) (a6 : State) (ha6 : Kept s0 a6) : KeptR s0 (execWriteZeroes a0 a1 a2 a3 a4 a5 a6) := by
  delta execWriteZeroes
  exact KeptR.next (kept_ringEntry _ _ _ _ ha6)

theorem kept_execAbort {s0 : State} (a0 : BitVec 20) (a1 : BitVec 32) (a2 : BitVec 20) (a3 : BitVec 32) (a4 : State) (ha4 : Kept s0 a4) : KeptR s0 (execAbort a0 a1 a2 a3 a4) := by
  delta execAbort
  exact KeptR.next (kept_ringEntry _ _ _ _ ha4)

theorem kept_execPut {s0 : State} (a0 : BitVec 20) (a1 : BitVec 32) (a2 : Bool) (a3 : BitVec 8) (a4 : List Byte) (a5 : BitVec 16) (a6 : BitVec 32) (a7 : BitVec 32) (a8 : List (BitVec 64 × BitVec 32)) (a9 : State) (ha9 : Kept s0 a9) : KeptR s0 (execPut a0 a1 a2 a3 a4 a5 a6 a7 a8 a9) := by
  delta execPut
  exact KeptR.next (kept_ringEntry _ _ _ _ ha9)

theorem kept_execGet {s0 : State} (a0 : BitVec 20) (a1 : BitVec 32) (a2 : BitVec 8) (a3 : List Byte) (a4 : BitVec 16) (a5 : BitVec 32) (a6 : List (BitVec 64 × BitVec 32)) (a7 : State) (ha7 : Kept s0 a7) : KeptR s0 (execGet a0 a1 a2 a3 a4 a5 a6 a7) := by
  delta execGet
  exact KeptR.next (kept_ringEntry _ _ _ _ ha7)

theorem kept_execDelete {s0 : State} (a0 : BitVec 20) (a1 : BitVec 32) (a2 : Bool) (a3 : BitVec 8) (a4 : List Byte) (a5 : BitVec 16) (a6 : BitVec 32) (a7 : State) (ha7 : Kept s0 a7) : KeptR s0 (execDelete a0 a1 a2 a3 a4 a5 a6 a7) := by
  delta execDelete
  exact KeptR.next (kept_ringEntry _ _ _ _ ha7)

theorem kept_execList {s0 : State} (a0 : BitVec 20) (a1 : BitVec 32) (a2 : BitVec 8) (a3 : List Byte) (a4 : BitVec 32) (a5 : List (BitVec 64 × BitVec 32)) (a6 : State) (ha6 : Kept s0 a6) : KeptR s0 (execList a0 a1 a2 a3 a4 a5 a6) := by
  delta execList
  exact KeptR.next (kept_ringEntry _ _ _ _ ha6)

theorem kept_prefetchRoom {s0 : State} (a0 : State) (ha0 : Kept s0 a0) : Kept s0 (State.prefetchRoom a0) := by
  delta State.prefetchRoom
  extract_lets +onlyGivenNames -merge -useContext x0
  try clear_value x0
  extract_lets +onlyGivenNames -merge -useContext x1
  try clear_value x1
  refine Kept.foldl ?_ ?_
  · exact ha0
  · intro y2 y3 hy2
    exact Kept.ite (kept_modSr _ _ _ hy2) hy2

theorem kept_prefetch {s0 : State} (a0 : State) (a1 : Nat) (a2 : Nat) (a3 : FetchAns) (ha0 : Kept s0 a0) : Kept s0 (State.prefetch a0 a1 a2 a3) := by
  delta State.prefetch
  extract_lets +onlyGivenNames -merge -useContext x0
  try clear_value x0
  extract_lets +onlyGivenNames -merge -useContext x1
  try clear_value x1
  extract_lets +onlyGivenNames -merge -useContext x2
  try clear_value x2
  extract_lets +onlyGivenNames -merge -useContext x3
  try clear_value x3
  refine Kept.ite ?_ ?_
  · exact ha0
  · split
    · exact Kept.ite ha0 (kept_prefetchRoom _ (kept_modSr _ _ _ ha0))
    · exact ha0

theorem kept_execPrefetch {s0 : State} (a0 : BitVec 20) (a1 : BitVec 16) (a2 : FetchAns) (a3 : State) (ha3 : Kept s0 a3) : KeptR s0 (execPrefetch a0 a1 a2 a3) := by
  delta execPrefetch
  exact KeptR.next (kept_prefetch _ _ _ _ ha3)

theorem kept_releaseWrite {s0 : State} (a0 : State) (a1 : Nat) (a2 : WrAns) (ha0 : Kept s0 a0) : Kept s0 (State.releaseWrite a0 a1 a2) := by
  delta State.releaseWrite
  extract_lets +onlyGivenNames -merge -useContext x0
  try clear_value x0
  split
  · exact ha0
  · refine Kept.ite ?_ ?_
    · exact ha0
    · extract_lets +onlyGivenNames -merge -useContext x1
      try clear_value x1
      split
      · exact kept_emit _ _ (kept_modSr _ _ _ ha0)
      · exact Kept.ite (kept_priAsk _ _ _ _ _ _ (kept_modSr _ _ _ ha0)) (kept_freezeRing _ _ _ _ _ ha0)
      · exact kept_freezeRing _ _ _ _ _ ha0

theorem kept_execEntryReleaseWrite {s0 : State} (a0 : BitVec 20) (a1 : WrAns) (a2 : State) (ha2 : Kept s0 a2) : KeptR s0 (execEntryReleaseWrite a0 a1 a2) := by
  delta execEntryReleaseWrite
  exact KeptR.next (kept_releaseWrite _ _ _ ha2)

theorem kept_pageOk {s0 : State} (a0 : State) (a1 : PriWho) (ha0 : Kept s0 a0) : Kept s0 (State.pageOk a0 a1) := by
  delta State.pageOk
  split
  · exact ha0
  · exact Kept.ite (kept_modSr _ _ _ ha0) ha0
  · exact kept_modSr _ _ _ ha0
  · refine Kept.ite ?_ ?_
    · exact kept_crDrain _ _ _ (kept_modCr _ _ _ ha0)
    · extract_lets +onlyGivenNames -merge -useContext x0
      try clear_value x0
      extract_lets +onlyGivenNames -merge -useContext x1
      try clear_value x1
      exact kept_cqDrain _ _ _ _ (kept_modCq _ _ _ _ ha0)

theorem kept_pageBad {s0 : State} (a0 : State) (a1 : Nat) (a2 : PriWho) (ha0 : Kept s0 a0) : Kept s0 (State.pageBad a0 a1 a2) := by
  delta State.pageBad
  split
  · exact kept_priFail _ _ _ ha0
  · exact Kept.ite (kept_freezeRing _ _ _ _ _ ha0) ha0
  · exact kept_freezeRing _ _ _ _ _ (kept_modSr _ _ _ ha0)
  · exact Kept.ite (kept_freezeCr _ _ _ (kept_modCr _ _ _ ha0)) (kept_ctrlFatal _ _ ha0)

theorem kept_priEnd {s0 : State} (a0 : State) (a1 : Nat) (a2 : Nat) (ha0 : Kept s0 a0) : Kept s0 (State.priEnd a0 a1 a2).1 := by
  delta State.priEnd
  split
  · exact Kept.mk1 (Kept.upd ha0 rfl rfl rfl rfl rfl rfl rfl)
  · exact Kept.mk1 ha0

theorem kept_prgResponse {s0 : State} (a0 : State) (a1 : Nat) (a2 : Nat) (a3 : PrgCode) (ha0 : Kept s0 a0) : Kept s0 (State.prgResponse a0 a1 a2 a3) := by
  delta State.prgResponse
  extract_lets +onlyGivenNames -merge -useContext x0
  have h0 : Kept s0 x0.1 := by unfold x0; exact kept_priEnd _ _ _ ha0
  clear_value x0
  split
  · exact ha0
  · split
    · refine Kept.foldl ?_ ?_
      · exact kept_rejoin _ _ h0
      · intro y1 y2 hy1
        exact kept_pageOk _ _ hy1
    · refine Kept.foldl ?_ ?_
      · exact h0
      · intro y3 y4 hy3
        exact kept_pageBad _ _ _ hy3
    · refine Kept.foldl ?_ ?_
      · exact kept_modPrt _ _ _ h0
      · intro y5 y6 hy5
        exact kept_pageBad _ _ _ hy5

theorem kept_execPrgResponse {s0 : State} (a0 : Fin 2) (a1 : BitVec 9) (a2 : PrgCode) (a3 : State) (ha3 : Kept s0 a3) : KeptR s0 (execPrgResponse a0 a1 a2 a3) := by
  delta execPrgResponse
  exact KeptR.next (kept_prgResponse _ _ _ _ ha3)

theorem kept_execPriTimeout {s0 : State} (a0 : Fin 2) (a1 : BitVec 9) (a2 : State) (ha2 : Kept s0 a2) : KeptR s0 (execPriTimeout a0 a1 a2) := by
  delta execPriTimeout
  refine KeptR.next ?_
  split
  · exact ha2
  · refine Kept.foldl ?_ ?_
    · exact kept_priEnd _ _ _ ha2
    · intro y0 y1 hy0
      exact kept_pageBad _ _ _ hy0

theorem kept_srDoorbell {s0 : State} (a0 : State) (a1 : Nat) (a2 : Nat) (a3 : Bool) (ha0 : Kept s0 a0) : Kept s0 (State.srDoorbell a0 a1 a2 a3) := by
  delta State.srDoorbell
  extract_lets +onlyGivenNames -merge -useContext x0
  try clear_value x0
  exact Kept.ite (Kept.ite (kept_freezeRing _ _ _ _ _ ha0) (kept_modSr _ _ _ ha0)) (Kept.ite (kept_modSr _ _ _ ha0) (Kept.upd ha0 rfl rfl rfl rfl rfl rfl rfl))

theorem kept_execSrDoorbell {s0 : State} (a0 : BitVec 20) (a1 : Word) (a2 : Bool) (a3 : State) (ha3 : Kept s0 a3) : KeptR s0 (execSrDoorbell a0 a1 a2 a3) := by
  delta execSrDoorbell
  exact KeptR.next (kept_srDoorbell _ _ _ _ ha3)

theorem kept_crDoorbell {s0 : State} (a0 : State) (a1 : Nat) (a2 : Nat) (ha0 : Kept s0 a0) : Kept s0 (State.crDoorbell a0 a1 a2) := by
  delta State.crDoorbell
  extract_lets +onlyGivenNames -merge -useContext x0
  try clear_value x0
  extract_lets +onlyGivenNames -merge -useContext x1
  have h1 : Kept s0 x1 := by unfold x1; exact Kept.upd ha0 rfl rfl rfl rfl rfl rfl rfl
  clear_value x1
  refine Kept.ite ?_ ?_
  · exact h1
  · extract_lets +onlyGivenNames -merge -useContext x2
    try clear_value x2
    extract_lets +onlyGivenNames -merge -useContext x3
    try clear_value x3
    exact Kept.ite (kept_freezeCr _ _ _ h1) (kept_crDrain _ _ _ (kept_modCr _ _ _ h1))

theorem kept_execCrHeadDoorbell {s0 : State} (a0 : BitVec 18) (a1 : Word) (a2 : State) (ha2 : Kept s0 a2) : KeptR s0 (execCrHeadDoorbell a0 a1 a2) := by
  delta execCrHeadDoorbell
  exact KeptR.next (kept_crDoorbell _ _ _ ha2)

theorem kept_execCrVectorSignal {s0 : State} (a0 : BitVec 18) (a1 : State) (ha1 : Kept s0 a1) : KeptR s0 (execCrVectorSignal a0 a1) := by
  delta execCrVectorSignal
  extract_lets +onlyGivenNames -merge -useContext x0
  try clear_value x0
  exact KeptR.next (Kept.ite (kept_emit _ _ (kept_modCr _ _ _ ha1)) ha1)

theorem kept_sectorInstall {s0 : State} (a0 : State) (a1 : Nat) (a2 : Nat) (ha0 : Kept s0 a0) : Kept s0 (State.sectorInstall a0 a1 a2) := by
  delta State.sectorInstall
  split
  · exact ha0
  · split
    · exact Kept.ite ha0 (Kept.ite (kept_commandFinish _ _ _ (kept_modCmd _ _ _ ha0)) (kept_objInstall _ _ _ ha0))
    · exact Kept.ite (kept_objAdvance _ (kept_install _ _ _ ha0)) ha0

theorem kept_execSectorInstall {s0 : State} (a0 : BitVec 64) (a1 : BitVec 16) (a2 : State) (ha2 : Kept s0 a2) : KeptR s0 (execSectorInstall a0 a1 a2) := by
  delta execSectorInstall
  exact KeptR.next (kept_sectorInstall _ _ _ ha2)

theorem kept_rqDone {s0 : State} (a0 : State) (a1 : Nat) (a2 : Nat) (ha0 : Kept s0 a0) : Kept s0 (State.rqDone a0 a1 a2) := by
  delta State.rqDone
  exact kept_wf _ _ _ _ _ ha0

theorem kept_rqCreate {s0 : State} (a0 : State) (a1 : Nat) (ha0 : Kept s0 a0) : Kept s0 (State.rqCreate a0 a1) := by
  delta State.rqCreate
  extract_lets +onlyGivenNames -merge -useContext x0
  try clear_value x0
  extract_lets +onlyGivenNames -merge -useContext x1
  try clear_value x1
  refine Kept.ite ?_ ?_
  · exact kept_rqDone _ _ _ ha0
  · refine Kept.ite ?_ ?_
    · exact kept_rqDone _ _ _ ha0
    · refine Kept.ite ?_ ?_
      · exact kept_rqDone _ _ _ ha0
      · refine Kept.ite ?_ ?_
        · extract_lets +onlyGivenNames -merge -useContext x2
          try clear_value x2
          extract_lets +onlyGivenNames -merge -useContext x3
          try clear_value x3
          exact kept_rqDone _ _ _ (Kept.upd ha0 rfl rfl rfl rfl rfl rfl rfl)
        · refine Kept.ite ?_ ?_
          · exact kept_rqDone _ _ _ ha0
          · extract_lets +onlyGivenNames -merge -useContext x4
            try clear_value x4
            extract_lets +onlyGivenNames -merge -useContext x5
            try clear_value x5
            exact kept_rqDone _ _ _ (Kept.upd ha0 rfl rfl rfl rfl rfl rfl rfl)

theorem kept_execRqCreate {s0 : State} (a0 : Fin 2) (a1 : State) (ha1 : Kept s0 a1) : KeptR s0 (execRqCreate a0 a1) := by
  delta execRqCreate
  exact KeptR.next (kept_rqCreate _ _ ha1)

theorem kept_rqDelete {s0 : State} (a0 : State) (a1 : Nat) (ha0 : Kept s0 a0) : Kept s0 (State.rqDelete a0 a1) := by
  delta State.rqDelete
  extract_lets +onlyGivenNames -merge -useContext x0
  try clear_value x0
  refine Kept.ite ?_ ?_
  · exact kept_rqDone _ _ _ ha0
  · refine Kept.ite ?_ ?_
    · exact Kept.ite (kept_rqDone _ _ _ ha0) (kept_rqDone _ _ _ (kept_priDrop _ _ (Kept.upd ha0 rfl rfl rfl rfl rfl rfl rfl)))
    · refine Kept.ite ?_ ?_
      · exact kept_rqDone _ _ _ ha0
      · extract_lets +onlyGivenNames -merge -useContext x1
        have h1 : Kept s0 x1 := by unfold x1; exact kept_turnEnd _ _ (kept_priDrop _ _ (kept_modSr _ _ _ ha0))
        clear_value x1
        extract_lets +onlyGivenNames -merge -useContext x2
        have h2 : Kept s0 x2 := by unfold x2; exact kept_priDrop _ _ h1
        clear_value x2
        extract_lets +onlyGivenNames -merge -useContext x3
        have h3 : Kept s0 x3 := by unfold x3; exact Kept.ite (Kept.upd h2 rfl rfl rfl rfl rfl rfl rfl) h1
        clear_value x3
        exact kept_rqDone _ _ _ h3

theorem kept_execRqDelete {s0 : State} (a0 : Fin 2) (a1 : State) (ha1 : Kept s0 a1) : KeptR s0 (execRqDelete a0 a1) := by
  delta execRqDelete
  exact KeptR.next (kept_rqDelete _ _ ha1)

theorem kept_rqActive {s0 : State} (a0 : State) (a1 : Nat) (ha0 : Kept s0 a0) : Kept s0 (State.rqActive a0 a1) := by
  delta State.rqActive
  exact kept_modSr _ _ _ ha0

theorem kept_rqRestart {s0 : State} (a0 : State) (a1 : Nat) (a2 : List Byte) (ha0 : Kept s0 a0) : Kept s0 (State.rqRestart a0 a1 a2) := by
  delta State.rqRestart
  extract_lets +onlyGivenNames -merge -useContext x0
  try clear_value x0
  extract_lets +onlyGivenNames -merge -useContext x1
  have h1 : Kept s0 x1 := by unfold x1; exact kept_wb _ _ _ _ _ ha0
  clear_value x1
  refine Kept.ite ?_ ?_
  · exact kept_rqDone _ _ _ h1
  · refine Kept.ite ?_ ?_
    · extract_lets +onlyGivenNames -merge -useContext x2
      try clear_value x2
      exact Kept.ite (kept_rqDone _ _ _ h1) (kept_rqDone _ _ _ (kept_crDrain _ _ _ (kept_modCr _ _ _ h1)))
    · extract_lets +onlyGivenNames -merge -useContext x3
      try clear_value x3
      refine Kept.ite ?_ ?_
      · exact kept_rqDone _ _ _ h1
      · refine Kept.ite ?_ ?_
        · exact kept_rqDone _ _ _ (kept_rqActive _ _ h1)
        · extract_lets +onlyGivenNames -merge -useContext x4
          try clear_value x4
          extract_lets +onlyGivenNames -merge -useContext x5
          try clear_value x5
          exact Kept.ite (kept_rqDone _ _ _ (kept_passEntry _ _ _ _ (kept_rqActive _ _ h1))) (Kept.ite (kept_wb _ _ _ _ _ h1) (kept_rqDone _ _ _ (kept_unstamped _ _ _ _ _ (kept_passEntry _ _ _ _ (kept_rqActive _ _ h1)))))

theorem kept_execRqRestart {s0 : State} (a0 : Fin 2) (a1 : List Byte) (a2 : State) (ha2 : Kept s0 a2) : KeptR s0 (execRqRestart a0 a1 a2) := by
  delta execRqRestart
  exact KeptR.next (kept_rqRestart _ _ _ ha2)

theorem kept_rqFreeze {s0 : State} (a0 : State) (a1 : Nat) (ha0 : Kept s0 a0) : Kept s0 (State.rqFreeze a0 a1) := by
  delta State.rqFreeze
  exact Kept.ite (kept_rqDone _ _ _ ha0) (kept_rqDone _ _ _ (Kept.ite (kept_freezeCr _ _ _ ha0) (kept_freezeRing _ _ _ _ _ ha0)))

theorem kept_execRqFreeze {s0 : State} (a0 : Fin 2) (a1 : State) (ha1 : Kept s0 a1) : KeptR s0 (execRqFreeze a0 a1) := by
  delta execRqFreeze
  exact KeptR.next (kept_rqFreeze _ _ ha1)

theorem kept_rqUpdate {s0 : State} (a0 : State) (a1 : Nat) (ha0 : Kept s0 a0) : Kept s0 (State.rqUpdate a0 a1) := by
  delta State.rqUpdate
  extract_lets +onlyGivenNames -merge -useContext x0
  try clear_value x0
  extract_lets +onlyGivenNames -merge -useContext x1
  try clear_value x1
  exact Kept.ite (kept_rqDone _ _ _ ha0) (Kept.ite ha0 (Kept.ite (kept_rqDone _ _ _ ha0) (Kept.ite (kept_rqDone _ _ _ (kept_modSr _ _ _ ha0)) ha0)))

theorem kept_execRqUpdate {s0 : State} (a0 : Fin 2) (a1 : State) (ha1 : Kept s0 a1) : KeptR s0 (execRqUpdate a0 a1) := by
  delta execRqUpdate
  exact KeptR.next (kept_rqUpdate _ _ ha1)

theorem kept_dispatchOne {s0 : State} (a0 : State) (a1 : Nat) (a2 : List Nat) (a3 : SecCmd) (ha0 : Kept s0 a0) : Kept s0 (State.dispatchOne a0 a1 a2 a3) := by
  delta State.dispatchOne
  split
  · refine Kept.ite ?_ ?_
    · exact ha0
    · refine Kept.ite ?_ ?_
      · refine Kept.ite ?_ ?_
        · extract_lets +onlyGivenNames -merge -useContext x0
          have h0 : Kept s0 x0 := by unfold x0; exact kept_modCh _ _ _ ha0
          clear_value x0
          exact Kept.upd h0 rfl rfl rfl rfl rfl rfl rfl
        · exact ha0
      · exact kept_headJog _ _ _ _ ha0
  · split
    · exact kept_slotMap _ _ _ _ ha0
    · split
      · exact kept_slotMap _ _ _ _ ha0
      · exact ha0

theorem kept_dispatch {s0 : State} (a0 : State) (a1 : Nat) (a2 : Nat) (ha0 : Kept s0 a0) : Kept s0 (State.dispatch a0 a1 a2) := by
  delta State.dispatch
  extract_lets +onlyGivenNames -merge -useContext x0
  have h0 : Kept s0 x0 := by unfold x0; exact Kept.upd ha0 rfl rfl rfl rfl rfl rfl rfl
  clear_value x0
  extract_lets +onlyGivenNames -merge -useContext x1
  try clear_value x1
  extract_lets +onlyGivenNames -merge -useContext x2
  try clear_value x2
  extract_lets +onlyGivenNames -merge -useContext x3
  try clear_value x3
  refine Kept.ite ?_ ?_
  · refine Kept.foldl ?_ ?_
    · exact h0
    · intro y4 y5 hy4
      exact kept_dispatchOne _ _ _ _ hy4
  · refine Kept.ite ?_ ?_
    · split
      · exact h0
      · extract_lets +onlyGivenNames -merge -useContext x6
        try clear_value x6
        exact kept_seekReq _ _ _ _ _ h0
    · exact h0

theorem kept_execSectorDispatch {s0 : State} (a0 : Act) (a1 : BitVec 32) (a2 : State) (ha2 : Kept s0 a2) : KeptR s0 (execSectorDispatch a0 a1 a2) := by
  delta execSectorDispatch
  exact KeptR.next (kept_dispatch _ _ _ ha2)

end Sys2Proof.Machine
end

