-- ==== Sys2Proof/Laws/KeptNvme.lean ====
section
/-! SUPPORT. Laws/KeptNvme.lean: the operations of Machine/Nvme.lean answer states that have been kept (Safety.lean). -/

namespace Sys2Proof.Machine
open Sys2Proof

theorem kept_hostPut {s0 : State} (a0 : State) (a1 : Nat) (a2 : List (Nat × Nat)) (a3 : List Byte) (ha0 : Kept s0 a0) : Kept s0 (State.hostPut a0 a1 a2 a3) := by
  induction a2 generalizing a0 a3 with
  | nil => exact ha0
  | cons p r ih => exact Kept.ite ha0 (ih _ _ (kept_emit _ _ ha0))

theorem kept_freeBytes {s0 : State} (a0 : State) (a1 : Nat) (ha0 : Kept s0 a0) : Kept s0 (State.freeBytes a0 a1).1 := by
  delta State.freeBytes
  exact Kept.mk1 (kept_useFree _ ha0)

theorem kept_page {s0 : State} (a0 : State) (a1 : Nat) (a2 : List (Nat × List Byte)) (ha0 : Kept s0 a0) : Kept s0 (State.page a0 a1 a2).1 := by
  delta State.page
  exact Kept.mk1 (kept_freeBytes _ _ ha0)

theorem kept_adminDone {s0 : State} (a0 : State) (a1 : Nat) (a2 : Nat) (a3 : Nat) (a4 : Nat) (ha0 : Kept s0 a0) : Kept s0 (State.adminDone a0 a1 a2 a3 a4) := by
  delta State.adminDone
  exact kept_cqPut _ _ _ _ _ ha0

theorem kept_adminRun {s0 : State} (a0 : State) (a1 : Nat) (a2 : Nat) (a3 : State → State × Option (Nat × Nat)) (ha0 : Kept s0 a0) (ha3 : ∀ z0, (Kept s0 z0) → Kept s0 (a3 z0).1) : Kept s0 (State.adminRun a0 a1 a2 a3) := by
  delta State.adminRun
  refine Kept.ite ?_ ?_
  · exact ha0
  · split
    · rename_i v0 w0 e0
      have h0 : Kept s0 v0 := by
        refine KeptO.get (p := (v0, w0)) ?_ e0
        exact kept_nextTurn _ ha0
      refine Kept.ite ?_ ?_
      · extract_lets +onlyGivenNames -merge -useContext x1
        have h1 : Kept s0 x1 := by unfold x1; exact kept_modSq _ _ _ _ h0
        clear_value x1
        extract_lets +onlyGivenNames -merge -useContext x2
        have h2 : Kept s0 x2.1 := by
          unfold x2
          apply ha3
          · exact kept_turnCount _ _ (kept_modCq _ _ _ _ h1)
        clear_value x2
        split
        · exact kept_adminDone _ _ _ _ _ h2
        · exact h2
      · exact ha0
    · exact ha0

theorem kept_ok0 {s0 : State} (a0 : State) (ha0 : Kept s0 a0) : Kept s0 (ok0 a0).1 := by
  delta ok0
  exact Kept.mk1 ha0

theorem kept_fail0 {s0 : State} (a0 : State) (a1 : Nat) (ha0 : Kept s0 a0) : Kept s0 (fail0 a0 a1).1 := by
  delta fail0
  exact Kept.mk1 ha0

theorem kept_createCq {s0 : State} (a0 : State) (a1 : Nat) (a2 : Nat) (a3 : Nat) (a4 : Nat) (a5 : Nat) (a6 : Bool) (ha0 : Kept s0 a0) : Kept s0 (State.createCq a0 a1 a2 a3 a4 a5 a6).1 := by
  delta State.createCq
  exact Kept.ite1 (kept_fail0 _ _ ha0) (Kept.ite1 (kept_fail0 _ _ ha0) (Kept.ite1 (kept_fail0 _ _ ha0) (Kept.ite1 (kept_fail0 _ _ ha0) (kept_ok0 _ (kept_modCq _ _ _ _ ha0)))))

theorem kept_execNvmeCreateIoCq {s0 : State} (a0 : Fin 2) (a1 : BitVec 16) (a2 : BitVec 16) (a3 : BitVec 16) (a4 : Bool) (a5 : BitVec 16) (a6 : BitVec 64) (a7 : State) (ha7 : Kept s0 a7) : KeptR s0 (execNvmeCreateIoCq a0 a1 a2 a3 a4 a5 a6 a7) := by
  delta execNvmeCreateIoCq
  refine KeptR.next ?_
  with_reducible apply kept_adminRun
  · exact ha7
  · intro y0 hy0
    exact kept_createCq _ _ _ _ _ _ _ hy0

theorem kept_createSq {s0 : State} (a0 : State) (a1 : Nat) (a2 : Nat) (a3 : Nat) (a4 : Nat) (a5 : Nat) (a6 : Nat) (a7 : Nat) (a8 : Bool) (ha0 : Kept s0 a0) : Kept s0 (State.createSq a0 a1 a2 a3 a4 a5 a6 a7 a8).1 := by
  delta State.createSq
  exact Kept.ite1 (kept_fail0 _ _ ha0) (Kept.ite1 (kept_fail0 _ _ ha0) (Kept.ite1 (kept_fail0 _ _ ha0) (Kept.ite1 (kept_fail0 _ _ ha0) (Kept.ite1 (kept_fail0 _ _ ha0) (kept_ok0 _ (kept_modSq _ _ _ _ ha0))))))

theorem kept_execNvmeCreateIoSq {s0 : State} (a0 : Fin 2) (a1 : BitVec 16) (a2 : BitVec 16) (a3 : BitVec 16) (a4 : Bool) (a5 : Fin 4) (a6 : BitVec 16) (a7 : BitVec 64) (a8 : Fin 16) (a9 : State) (ha9 : Kept s0 a9) : KeptR s0 (execNvmeCreateIoSq a0 a1 a2 a3 a4 a5 a6 a7 a8 a9) := by
  delta execNvmeCreateIoSq
  refine KeptR.next ?_
  with_reducible apply kept_adminRun
  · exact ha9
  · intro y0 hy0
    exact kept_createSq _ _ _ _ _ _ _ _ _ hy0

theorem kept_deleteSq {s0 : State} (a0 : State) (a1 : Nat) (a2 : Nat) (ha0 : Kept s0 a0) : Kept s0 (State.deleteSq a0 a1 a2).1 := by
  delta State.deleteSq
  exact Kept.ite1 (kept_fail0 _ _ ha0) (kept_ok0 _ (kept_modPrt _ _ _ (kept_turnEnd _ _ (kept_discardCmds _ _ ha0))))

theorem kept_execNvmeDeleteIoSq {s0 : State} (a0 : Fin 2) (a1 : BitVec 16) (a2 : BitVec 16) (a3 : State) (ha3 : Kept s0 a3) : KeptR s0 (execNvmeDeleteIoSq a0 a1 a2 a3) := by
  delta execNvmeDeleteIoSq
  refine KeptR.next ?_
  with_reducible apply kept_adminRun
  · exact ha3
  · intro y0 hy0
    exact kept_deleteSq _ _ _ hy0

theorem kept_deleteCq {s0 : State} (a0 : State) (a1 : Nat) (a2 : Nat) (ha0 : Kept s0 a0) : Kept s0 (State.deleteCq a0 a1 a2).1 := by
  delta State.deleteCq
  exact Kept.ite1 (kept_fail0 _ _ ha0) (Kept.ite1 (kept_fail0 _ _ ha0) (kept_ok0 _ (kept_modPrt _ _ _ (kept_priDrop _ _ ha0))))

theorem kept_execNvmeDeleteIoCq {s0 : State} (a0 : Fin 2) (a1 : BitVec 16) (a2 : BitVec 16) (a3 : State) (ha3 : Kept s0 a3) : KeptR s0 (execNvmeDeleteIoCq a0 a1 a2 a3) := by
  delta execNvmeDeleteIoCq
  refine KeptR.next ?_
  with_reducible apply kept_adminRun
  · exact ha3
  · intro y0 hy0
    exact kept_deleteCq _ _ _ hy0

theorem kept_idController {s0 : State} (a0 : State) (a1 : Nat) (ha0 : Kept s0 a0) : Kept s0 (State.idController a0 a1).1 := by
  delta State.idController
  exact kept_page _ _ _ ha0

theorem kept_idNamespace {s0 : State} (a0 : State) (ha0 : Kept s0 a0) : Kept s0 (State.idNamespace a0).1 := by
  delta State.idNamespace
  exact kept_page _ _ _ ha0

theorem kept_identify {s0 : State} (a0 : State) (a1 a2 a3 : Nat) (ha0 : Kept s0 a0) (r : State × List Byte) (e : State.identify a0 a1 a2 a3 = .inl (some r)) :
    Kept s0 r.1 := by
  have hb : ∀ n, Kept s0 (a0.freeBytes n).1 := fun n => kept_freeBytes _ _ ha0
  delta State.identify at e
  split at e <;> (try split at e) <;> cases e
  · exact kept_idNamespace _ ha0
  · exact kept_idController _ _ ha0
  · exact ha0
  · exact hb 4096
  · exact hb 4096
  · exact hb 4096
  · exact kept_page _ _ _ ha0

theorem kept_execIdentify {s0 : State} (a0 : Fin 2) (a1 : BitVec 16) (a2 : BitVec 8) (a3 : BitVec 32) (a4 : List (BitVec 64 × BitVec 32)) (a5 : State) (ha5 : Kept s0 a5) :
    KeptR s0 (execIdentify a0 a1 a2 a3 a4 a5) := by
  delta execIdentify
  refine KeptR.next (kept_adminRun _ _ _ _ ha5 ?_)
  intro t h
  split
  · rename_i r e
    exact kept_ok0 _ (kept_hostPut _ _ _ _ (kept_identify _ _ _ _ h r e))
  · exact kept_ok0 _ h
  · exact kept_fail0 _ _ h

theorem kept_logErrors {s0 : State} (a0 : State) (a1 : Nat) (ha0 : Kept s0 a0) : Kept s0 (State.logErrors a0 a1).1 := by
  delta State.logErrors
  refine Kept.foldl1 ?_ ?_
  · exact Kept.mk1 ha0
  · intro y0 y1 hy0
    extract_lets +onlyGivenNames -merge -useContext x2
    have h2 : Kept s0 x2.1 := by unfold x2; exact kept_page _ _ _ hy0
    clear_value x2
    exact Kept.mk1 h2

theorem kept_logHealth {s0 : State} (a0 : State) (ha0 : Kept s0 a0) : Kept s0 (State.logHealth a0).1 := by
  delta State.logHealth
  exact kept_page _ _ _ ha0

theorem kept_logSlots {s0 : State} (a0 : State) (ha0 : Kept s0 a0) : Kept s0 (State.logSlots a0).1 := by
  delta State.logSlots
  exact kept_page _ _ _ ha0

theorem kept_logEffects {s0 : State} (a0 : State) (ha0 : Kept s0 a0) : Kept s0 (State.logEffects a0).1 := by
  delta State.logEffects
  extract_lets +onlyGivenNames -merge -useContext x0
  try clear_value x0
  extract_lets +onlyGivenNames -merge -useContext x1
  try clear_value x1
  extract_lets +onlyGivenNames -merge -useContext x2
  try clear_value x2
  extract_lets +onlyGivenNames -merge -useContext x3
  have h3 : Kept s0 x3.1 := by unfold x3; exact kept_freeBytes _ _ ha0
  clear_value x3
  exact Kept.mk1 h3

theorem kept_logPage {s0 : State} (a0 : State) (a1 : Nat) (a2 : Nat) (ha0 : Kept s0 a0) : KeptO s0 (State.logPage a0 a1 a2) := by
  delta State.logPage
  split
  · refine KeptO.some ?_
    exact kept_logErrors _ _ ha0
  · refine KeptO.some ?_
    exact kept_logHealth _ ha0
  · refine KeptO.some ?_
    exact kept_logSlots _ ha0
  · refine KeptO.some ?_
    exact kept_logEffects _ ha0
  · refine KeptO.some ?_
    exact Kept.mk1 ha0
  · refine KeptO.some ?_
    exact Kept.mk1 ha0
  · refine KeptO.some ?_
    exact Kept.mk1 ha0
  · exact KeptO.none

theorem kept_eventPost {s0 : State} (a0 : State) (a1 : Nat) (ha0 : Kept s0 a0) : Kept s0 (State.eventPost a0 a1) := by
  delta State.eventPost
  split
  · exact Kept.ite (kept_adminDone _ _ _ _ _ (kept_modPrt _ _ _ ha0)) ha0
  · exact ha0

theorem kept_getLog {s0 : State} (a0 : State) (a1 : Nat) (a2 : Nat) (a3 : Nat) (a4 : Bool) (a5 : List (Nat × Nat)) (ha0 : Kept s0 a0) : Kept s0 (State.getLog a0 a1 a2 a3 a4 a5).1 := by
  delta State.getLog
  refine Kept.ite1 ?_ ?_
  · exact kept_fail0 _ _ ha0
  · refine Kept.ite1 ?_ ?_
    · exact kept_fail0 _ _ ha0
    · split
      · exact kept_fail0 _ _ ha0
      · rename_i v0 w0 e0
        have h0 : Kept s0 v0 := by
          refine KeptO.get (p := (v0, w0)) ?_ e0
          exact kept_logPage _ _ _ ha0
        extract_lets +onlyGivenNames -merge -useContext x1
        try clear_value x1
        extract_lets +onlyGivenNames -merge -useContext x2
        have h2 : Kept s0 x2 := by unfold x2; exact kept_hostPut _ _ _ _ h0
        clear_value x2
        extract_lets +onlyGivenNames -merge -useContext x3
        have h3 : Kept s0 x3 := by unfold x3; exact Kept.ite (kept_eventPost _ _ (kept_modPrt _ _ _ h2)) h2
        clear_value x3
        exact kept_ok0 _ h3

theorem kept_execGetLogPage {s0 : State} (a0 : Fin 2) (a1 : BitVec 16) (a2 : BitVec 8) (a3 : Bool) (a4 : BitVec 64) (a5 : List (BitVec 64 × BitVec 32)) (a6 : State) (ha6 : Kept s0 a6) : KeptR s0 (execGetLogPage a0 a1 a2 a3 a4 a5 a6) := by
  delta execGetLogPage
  refine KeptR.next ?_
  with_reducible apply kept_adminRun
  · exact ha6
  · intro y0 hy0
    exact kept_getLog _ _ _ _ _ _ hy0

theorem kept_eventAsk {s0 : State} (a0 : State) (a1 : Nat) (a2 : Nat) (ha0 : Kept s0 a0) : Kept s0 (State.eventAsk a0 a1 a2).1 := by
  delta State.eventAsk
  exact Kept.ite1 (kept_fail0 _ _ ha0) (Kept.ite1 (kept_fail0 _ _ ha0) (Kept.mk1 (kept_eventPost _ _ (kept_modPrt _ _ _ ha0))))

theorem kept_execAsynchronousEventRequest {s0 : State} (a0 : Fin 2) (a1 : BitVec 16) (a2 : State) (ha2 : Kept s0 a2) : KeptR s0 (execAsynchronousEventRequest a0 a1 a2) := by
  delta execAsynchronousEventRequest
  refine KeptR.next ?_
  with_reducible apply kept_adminRun
  · exact ha2
  · intro y0 hy0
    exact kept_eventAsk _ _ _ hy0

theorem kept_setFeat {s0 : State} (a0 : State) (a1 : Nat) (a2 : Nat) (a3 : Nat) (ha0 : Kept s0 a0) : Kept s0 (State.setFeat a0 a1 a2 a3) := by
  delta State.setFeat
  exact kept_modPrt _ _ _ ha0

theorem kept_setFeatures {s0 : State} (a0 : State) (a1 : Nat) (a2 : Nat) (a3 : Nat) (a4 : Nat) (a5 : List Byte) (ha0 : Kept s0 a0) : Kept s0 (State.setFeatures a0 a1 a2 a3 a4 a5).1 := by
  delta State.setFeatures
  refine Kept.ite1 ?_ ?_
  · exact kept_fail0 _ _ ha0
  · refine Kept.ite1 ?_ ?_
    · exact kept_fail0 _ _ ha0
    · refine Kept.ite1 ?_ ?_
      · exact Kept.ite1 (kept_ok0 _ ha0) (kept_fail0 _ _ ha0)
      · refine Kept.ite1 ?_ ?_
        · exact kept_ok0 _ (kept_setFeat _ _ _ _ ha0)
        · refine Kept.ite1 ?_ ?_
          · exact Kept.ite1 (kept_fail0 _ _ ha0) (Kept.ite1 (kept_fail0 _ _ ha0) (Kept.mk1 ha0))
          · refine Kept.ite1 ?_ ?_
            · exact kept_ok0 _ (Kept.upd ha0 rfl rfl rfl rfl rfl rfl rfl)
            · refine Kept.ite1 ?_ ?_
              · exact Kept.ite1 (kept_ok0 _ (kept_setFeat _ _ _ _ ha0)) (kept_fail0 _ _ ha0)
              · refine Kept.ite1 ?_ ?_
                · refine Kept.ite1 ?_ ?_
                  · with_reducible apply kept_ok0
                    · refine Kept.foldl ?_ ?_
                      · exact ha0
                      · intro y0 y1 hy0
                        exact kept_setFeat _ _ _ _ hy0
                  · exact kept_fail0 _ _ ha0
                · refine Kept.ite1 ?_ ?_
                  · refine Kept.ite1 ?_ ?_
                    · with_reducible apply kept_ok0
                      · refine Kept.foldl ?_ ?_
                        · exact ha0
                        · intro y2 y3 hy2
                          exact Kept.upd hy2 rfl rfl rfl rfl rfl rfl rfl
                    · exact kept_fail0 _ _ ha0
                  · exact kept_ok0 _ (kept_setFeat _ _ _ _ ha0)

theorem kept_execSetFeatures {s0 : State} (a0 : Fin 2) (a1 : BitVec 16) (a2 : BitVec 8) (a3 : BitVec 32) (a4 : BitVec 32) (a5 : List Byte) (a6 : State) (ha6 : Kept s0 a6) : KeptR s0 (execSetFeatures a0 a1 a2 a3 a4 a5 a6) := by
  delta execSetFeatures
  refine KeptR.next ?_
  with_reducible apply kept_adminRun
  · exact ha6
  · intro y0 hy0
    exact kept_setFeatures _ _ _ _ _ _ hy0

theorem kept_getFeatures {s0 : State} (a0 : State) (a1 : Nat) (a2 : Nat) (a3 : Nat) (a4 : List (Nat × Nat)) (ha0 : Kept s0 a0) : Kept s0 (State.getFeatures a0 a1 a2 a3 a4).1 := by
  delta State.getFeatures
  exact Kept.ite1 (kept_fail0 _ _ ha0) (Kept.ite1 (kept_fail0 _ _ ha0) (Kept.ite1 (Kept.mk1 ha0) (Kept.ite1 (kept_ok0 _ (kept_hostPut _ _ _ _ ha0)) (Kept.ite1 (kept_ok0 _ (kept_hostPut _ _ _ _ ha0)) (Kept.ite1 (Kept.ite1 (Kept.mk1 ha0) (kept_fail0 _ _ ha0)) (Kept.ite1 (Kept.ite1 (Kept.mk1 ha0) (kept_fail0 _ _ ha0)) (Kept.mk1 ha0)))))))

theorem kept_execGetFeatures {s0 : State} (a0 : Fin 2) (a1 : BitVec 16) (a2 : BitVec 8) (a3 : BitVec 32) (a4 : List (BitVec 64 × BitVec 32)) (a5 : State) (ha5 : Kept s0 a5) : KeptR s0 (execGetFeatures a0 a1 a2 a3 a4 a5) := by
  delta execGetFeatures
  refine KeptR.next ?_
  with_reducible apply kept_adminRun
  · exact ha5
  · intro y0 hy0
    exact kept_getFeatures _ _ _ _ _ hy0

theorem kept_nvAbort {s0 : State} (a0 : State) (a1 : Nat) (a2 : Nat) (a3 : Nat) (ha0 : Kept s0 a0) : Kept s0 (State.nvAbort a0 a1 a2 a3).1 := by
  delta State.nvAbort
  refine Kept.ite1 ?_ ?_
  · exact kept_fail0 _ _ ha0
  · refine Kept.ite1 ?_ ?_
    · exact Kept.ite1 (kept_ok0 _ (kept_adminDone _ _ _ _ _ (kept_modPrt _ _ _ ha0))) (Kept.mk1 ha0)
    · extract_lets +onlyGivenNames -merge -useContext x0
      have h0 : Kept s0 x0.1 := by unfold x0; exact kept_abortReach _ _ _ _ ha0
      clear_value x0
      exact Kept.mk1 h0

theorem kept_execNvmeAbort {s0 : State} (a0 : Fin 2) (a1 : BitVec 16) (a2 : BitVec 16) (a3 : BitVec 16) (a4 : State) (ha4 : Kept s0 a4) : KeptR s0 (execNvmeAbort a0 a1 a2 a3 a4) := by
  delta execNvmeAbort
  refine KeptR.next ?_
  with_reducible apply kept_adminRun
  · exact ha4
  · intro y0 hy0
    exact kept_nvAbort _ _ _ _ hy0

theorem kept_mediaPurge {s0 : State} (a0 : State) (a1 : Nat) (a2 : Nat) (ha0 : Kept s0 a0) : Kept s0 (State.mediaPurge a0 a1 a2).1 := by
  delta State.mediaPurge
  exact Kept.ite1 (kept_fail0 _ _ ha0) (Kept.ite1 (kept_fail0 _ _ ha0) (Kept.mk1 (Kept.upd ha0 rfl rfl rfl rfl rfl rfl rfl)))

theorem kept_execMediaPurge {s0 : State} (a0 : Fin 2) (a1 : BitVec 16) (a2 : State) (ha2 : Kept s0 a2) : KeptR s0 (execMediaPurge a0 a1 a2) := by
  delta execMediaPurge
  refine KeptR.next ?_
  with_reducible apply kept_adminRun
  · exact ha2
  · intro y0 hy0
    exact kept_mediaPurge _ _ _ hy0

theorem kept_purgeDone {s0 : State} (a0 : State) (ha0 : Kept s0 a0) : Kept s0 (State.purgeDone a0) := by
  delta State.purgeDone
  split
  · exact ha0
  · refine Kept.ite ?_ ?_
    · exact ha0
    · extract_lets +onlyGivenNames -merge -useContext x0
      try clear_value x0
      extract_lets +onlyGivenNames -merge -useContext x1
      try clear_value x1
      extract_lets +onlyGivenNames -merge -useContext x2
      have h2 : Kept s0 x2 := by unfold x2; exact Kept.upd ha0 rfl rfl rfl rfl rfl rfl rfl
      clear_value x2
      exact Kept.ite h2 (kept_adminDone _ _ _ _ _ h2)

theorem kept_execMediaPurgeDone {s0 : State} (a0 : State) (ha0 : Kept s0 a0) : KeptR s0 (execMediaPurgeDone a0) := by
  delta execMediaPurgeDone
  exact KeptR.next (kept_purgeDone _ ha0)

theorem kept_nvRun {s0 : State} (a0 : State) (a1 : Nat) (a2 : Nat) (a3 : Cmd) (a4 : Bool) (a5 : State → Nat → State × Option Nat) (ha0 : Kept s0 a0) (ha5 : ∀ z0 z1, (Kept s0 z0) → Kept s0 (a5 z0 z1).1) : Kept s0 (State.nvRun a0 a1 a2 a3 a4 a5) := by
  delta State.nvRun
  split
  · rename_i v0 w0 e0
    have h0 : Kept s0 v0 := by
      refine KeptO.get (p := (v0, w0)) ?_ e0
      exact kept_nextTurn _ ha0
    refine Kept.ite ?_ ?_
    · extract_lets +onlyGivenNames -merge -useContext x1
      try clear_value x1
      extract_lets +onlyGivenNames -merge -useContext x2
      have h2 : Kept s0 x2.1 := by unfold x2; exact kept_admit _ _ _ _ h0
      clear_value x2
      refine Kept.ite ?_ ?_
      · extract_lets +onlyGivenNames -merge -useContext x3
        have h3 : Kept s0 x3 := by unfold x3; exact kept_modCq _ _ _ _ h2
        clear_value x3
        extract_lets +onlyGivenNames -merge -useContext x4
        have h4 : Kept s0 x4 := by unfold x4; exact kept_turnCount _ _ (kept_modSq _ _ _ _ h3)
        clear_value x4
        split
        · refine Kept.ite ?_ ?_
          · exact h4
          · extract_lets +onlyGivenNames -merge -useContext x5
            have h5 : Kept s0 x5.1 := by
              unfold x5
              apply ha5
              · exact h4
            clear_value x5
            split
            · exact kept_cmdFail _ _ _ _ h5
            · exact h5
        · exact h4
      · exact h2
    · exact ha0
  · exact ha0

theorem kept_noEff {s0 : State} (a0 : State) (a1 : Nat) (ha0 : Kept s0 a0) : Kept s0 (noEff a0 a1).1 := by
  delta noEff
  exact Kept.mk1 ha0

theorem kept_execNvmeRead {s0 : State} (a0 : Fin 2) (a1 : BitVec 16) (a2 : BitVec 16) (a3 : BitVec 32) (a4 : BitVec 64) (a5 : BitVec 16) (a6 : List (BitVec 64 × BitVec 32)) (a7 : State) (ha7 : Kept s0 a7) : KeptR s0 (execNvmeRead a0 a1 a2 a3 a4 a5 a6 a7) := by
  delta execNvmeRead
  refine KeptR.next ?_
  with_reducible apply kept_nvRun
  · exact ha7
  · intro y0 y1 hy0
    exact kept_noEff _ _ hy0

theorem kept_execNvmeWrite {s0 : State} (a0 : Fin 2) (a1 : BitVec 16) (a2 : BitVec 16) (a3 : BitVec 32) (a4 : BitVec 64) (a5 : BitVec 16) (a6 : Bool) (a7 : List (BitVec 64 × BitVec 32)) (a8 : State) (ha8 : Kept s0 a8) : KeptR s0 (execNvmeWrite a0 a1 a2 a3 a4 a5 a6 a7 a8) := by
  delta execNvmeWrite
  refine KeptR.next ?_
  with_reducible apply kept_nvRun
  · exact ha8
  · intro y0 y1 hy0
    exact kept_noEff _ _ hy0

theorem kept_execNvmeWriteZeroes {s0 : State} (a0 : Fin 2) (a1 : BitVec 16) (a2 : BitVec 16) (a3 : BitVec 32) (a4 : BitVec 64) (a5 : BitVec 16) (a6 : Bool) (a7 : State) (ha7 : Kept s0 a7) : KeptR s0 (execNvmeWriteZeroes a0 a1 a2 a3 a4 a5 a6 a7) := by
  delta execNvmeWriteZeroes
  refine KeptR.next ?_
  with_reducible apply kept_nvRun
  · exact ha7
  · intro y0 y1 hy0
    exact kept_noEff _ _ hy0

theorem kept_execNvmeCompare {s0 : State} (a0 : Fin 2) (a1 : BitVec 16) (a2 : BitVec 16) (a3 : BitVec 32) (a4 : BitVec 64) (a5 : BitVec 16) (a6 : Bool) (a7 : List (BitVec 64 × BitVec 32)) (a8 : State) (ha8 : Kept s0 a8) : KeptR s0 (execNvmeCompare a0 a1 a2 a3 a4 a5 a6 a7 a8) := by
  delta execNvmeCompare
  refine KeptR.next ?_
  with_reducible apply kept_nvRun
  · exact ha8
  · intro y0 y1 hy0
    exact kept_noEff _ _ hy0

theorem kept_execNvmeFlush {s0 : State} (a0 : Fin 2) (a1 : BitVec 16) (a2 : BitVec 16) (a3 : BitVec 32) (a4 : State) (ha4 : Kept s0 a4) : KeptR s0 (execNvmeFlush a0 a1 a2 a3 a4) := by
  delta execNvmeFlush
  extract_lets +onlyGivenNames -merge -useContext x0
  try clear_value x0
  refine KeptR.next ?_
  with_reducible apply kept_nvRun
  · exact ha4
  · intro y1 y2 hy1
    exact kept_noEff _ _ hy1

theorem kept_nvOther {s0 : State} (a0 : State) (a1 : Nat) (a2 : Nat) (a3 : Nat) (a4 : Nat) (a5 : State → Nat → State × Option Nat) (ha0 : Kept s0 a0) (ha5 : ∀ z0 z1, (Kept s0 z0) → Kept s0 (a5 z0 z1).1) : Kept s0 (State.nvOther a0 a1 a2 a3 a4 a5) := by
  delta State.nvOther
  with_reducible apply kept_nvRun
  · exact ha0
  · intro y0 y1 hy0
    apply ha5
    · exact hy0

theorem kept_execDatasetManagement {s0 : State} (a0 : Fin 2) (a1 : BitVec 16) (a2 : BitVec 16) (a3 : BitVec 32) (a4 : State) (ha4 : Kept s0 a4) : KeptR s0 (execDatasetManagement a0 a1 a2 a3 a4) := by
  delta execDatasetManagement
  refine KeptR.next ?_
  with_reducible apply kept_nvOther
  · exact ha4
  · intro y0 y1 hy0
    exact kept_noEff _ _ hy0

theorem kept_modResv {s0 : State} (a0 : State) (a1 : Nat) (a2 : Resv → Resv) (ha0 : Kept s0 a0) : Kept s0 (State.modResv a0 a1 a2) := by
  delta State.modResv
  exact Kept.upd ha0 rfl rfl rfl rfl rfl rfl rfl

theorem kept_notify {s0 : State} (a0 : State) (a1 : Nat) (a2 : Nat) (a3 : Nat) (a4 : List Nat) (ha0 : Kept s0 a0) : Kept s0 (State.notify a0 a1 a2 a3 a4) := by
  delta State.notify
  refine Kept.foldl ?_ ?_
  · exact ha0
  · intro y0 y1 hy0
    refine Kept.ite ?_ ?_
    · extract_lets +onlyGivenNames -merge -useContext x2
      try clear_value x2
      exact kept_eventPost _ _ (kept_modPrt _ _ _ (kept_setFeat _ _ _ _ hy0))
    · exact hy0

theorem kept_resvFree {s0 : State} (a0 : State) (a1 : Nat) (a2 : Nat) (ha0 : Kept s0 a0) : Kept s0 (State.resvFree a0 a1 a2) := by
  delta State.resvFree
  extract_lets +onlyGivenNames -merge -useContext x0
  try clear_value x0
  extract_lets +onlyGivenNames -merge -useContext x1
  have h1 : Kept s0 x1 := by unfold x1; exact kept_modResv _ _ _ ha0
  clear_value x1
  exact Kept.ite (kept_notify _ _ _ _ _ h1) h1

theorem kept_resvDrop {s0 : State} (a0 : State) (a1 : Nat) (a2 : Nat) (a3 : Nat) (ha0 : Kept s0 a0) : Kept s0 (State.resvDrop a0 a1 a2 a3) := by
  delta State.resvDrop
  extract_lets +onlyGivenNames -merge -useContext x0
  try clear_value x0
  extract_lets +onlyGivenNames -merge -useContext x1
  try clear_value x1
  extract_lets +onlyGivenNames -merge -useContext x2
  have h2 : Kept s0 x2 := by unfold x2; exact kept_modResv _ _ _ ha0
  clear_value x2
  exact Kept.ite (Kept.ite (kept_modResv _ _ _ h2) (kept_resvFree _ _ _ h2)) h2

theorem kept_resvBump {s0 : State} (a0 : State) (a1 : Nat) (ha0 : Kept s0 a0) : Kept s0 (State.resvBump a0 a1) := by
  delta State.resvBump
  exact kept_modResv _ _ _ ha0

theorem kept_resvRegister {s0 : State} (a0 : State) (a1 : Nat) (a2 : Nat) (a3 : Nat) (a4 : Nat) (a5 : Nat) (a6 : Nat) (a7 : Bool) (ha0 : Kept s0 a0) : Kept s0 (State.resvRegister a0 a1 a2 a3 a4 a5 a6 a7).1 := by
  delta State.resvRegister
  extract_lets +onlyGivenNames -merge -useContext x0
  try clear_value x0
  extract_lets +onlyGivenNames -merge -useContext x1
  try clear_value x1
  extract_lets +onlyGivenNames -merge -useContext x2
  try clear_value x2
  extract_lets +onlyGivenNames -merge -useContext x3
  have h3 : ∀ y4, (Kept s0 y4) → Kept s0 (x3 y4) := by
    intro y4 hy4
    unfold x3
    exact Kept.ite (kept_modResv _ _ _ hy4) hy4
  clear_value x3
  refine Kept.ite1 ?_ ?_
  · exact Kept.mk1 ha0
  · refine Kept.ite1 ?_ ?_
    · split
      · refine Kept.ite1 ?_ ?_
        · refine Kept.mk1 ?_
          apply h3
          · exact ha0
        · exact Kept.mk1 ha0
      · refine Kept.ite1 ?_ ?_
        · exact Kept.mk1 ha0
        · refine Kept.mk1 ?_
          apply h3
          · exact kept_resvBump _ _ (kept_modResv _ _ _ ha0)
    · refine Kept.ite1 ?_ ?_
      · exact Kept.mk1 ha0
      · refine Kept.ite1 ?_ ?_
        · refine Kept.mk1 ?_
          apply h3
          · exact kept_resvBump _ _ (kept_resvDrop _ _ _ _ ha0)
        · refine Kept.mk1 ?_
          apply h3
          · exact kept_resvBump _ _ (kept_modResv _ _ _ ha0)

theorem kept_execReservationRegister {s0 : State} (a0 : Fin 2) (a1 : BitVec 16) (a2 : BitVec 16) (a3 : BitVec 32) (a4 : BitVec 3) (a5 : Bool) (a6 : BitVec 2) (a7 : BitVec 64) (a8 : BitVec 64) (a9 : State) (ha9 : Kept s0 a9) : KeptR s0 (execReservationRegister a0 a1 a2 a3 a4 a5 a6 a7 a8 a9) := by
  delta execReservationRegister
  refine KeptR.next ?_
  with_reducible apply kept_nvOther
  · exact ha9
  · intro y0 y1 hy0
    exact kept_resvRegister _ _ _ _ _ _ _ _ hy0

theorem kept_abortHosts {s0 : State} (a0 : State) (a1 : Nat) (a2 : List Nat) (ha0 : Kept s0 a0) : Kept s0 (State.abortHosts a0 a1 a2) := by
  delta State.abortHosts
  refine Kept.foldl ?_ ?_
  · exact ha0
  · intro y0 y1 hy0
    exact kept_abortReach _ _ _ _ hy0

theorem kept_resvPreempt {s0 : State} (a0 : State) (a1 : Nat) (a2 : Nat) (a3 : Nat) (a4 : Nat) (a5 : Nat) (a6 : Bool) (ha0 : Kept s0 a0) : Kept s0 (State.resvPreempt a0 a1 a2 a3 a4 a5 a6).1 := by
  delta State.resvPreempt
  extract_lets +onlyGivenNames -merge -useContext x0
  try clear_value x0
  extract_lets +onlyGivenNames -merge -useContext x1
  try clear_value x1
  extract_lets +onlyGivenNames -merge -useContext x2
  try clear_value x2
  extract_lets +onlyGivenNames -merge -useContext x3
  try clear_value x3
  extract_lets +onlyGivenNames -merge -useContext x4
  try clear_value x4
  refine Kept.ite1 ?_ ?_
  · exact Kept.mk1 ha0
  · refine Kept.ite1 ?_ ?_
    · exact Kept.mk1 ha0
    · extract_lets +onlyGivenNames -merge -useContext x5
      try clear_value x5
      extract_lets +onlyGivenNames -merge -useContext x6
      have h6 : Kept s0 x6 := by unfold x6; exact Kept.ite (kept_modResv _ _ _ ha0) ha0
      clear_value x6
      extract_lets +onlyGivenNames -merge -useContext x7
      have h7 : Kept s0 x7 := by
        unfold x7
        refine Kept.foldl ?_ ?_
        · exact h6
        · intro y8 y9 hy8
          exact kept_resvDrop _ _ _ _ hy8
      clear_value x7
      extract_lets +onlyGivenNames -merge -useContext x10
      have h10 : Kept s0 x10 := by unfold x10; exact kept_notify _ _ _ _ _ (kept_resvBump _ _ h7)
      clear_value x10
      extract_lets +onlyGivenNames -merge -useContext x11
      have h11 : Kept s0 x11 := by unfold x11; exact Kept.ite (kept_notify _ _ _ _ _ h10) h10
      clear_value x11
      extract_lets +onlyGivenNames -merge -useContext x12
      have h12 : Kept s0 x12 := by unfold x12; exact Kept.ite (kept_notify _ _ _ _ _ h11) h11
      clear_value x12
      exact Kept.mk1 (Kept.ite (kept_abortHosts _ _ _ h12) h12)

theorem kept_resvAcquire {s0 : State} (a0 : State) (a1 : Nat) (a2 : Nat) (a3 : Nat) (a4 : Nat) (a5 : Nat) (a6 : Nat) (a7 : Nat) (ha0 : Kept s0 a0) : Kept s0 (State.resvAcquire a0 a1 a2 a3 a4 a5 a6 a7).1 := by
  delta State.resvAcquire
  extract_lets +onlyGivenNames -merge -useContext x0
  try clear_value x0
  extract_lets +onlyGivenNames -merge -useContext x1
  try clear_value x1
  refine Kept.ite1 ?_ ?_
  · exact Kept.mk1 ha0
  · refine Kept.ite1 ?_ ?_
    · exact Kept.mk1 ha0
    · refine Kept.ite1 ?_ ?_
      · split
        · exact Kept.mk1 (kept_modResv _ _ _ ha0)
        · exact Kept.ite1 (Kept.mk1 ha0) (Kept.mk1 ha0)
      · exact kept_resvPreempt _ _ _ _ _ _ _ ha0

theorem kept_execReservationAcquire {s0 : State} (a0 : Fin 2) (a1 : BitVec 16) (a2 : BitVec 16) (a3 : BitVec 32) (a4 : BitVec 3) (a5 : BitVec 8) (a6 : BitVec 64) (a7 : BitVec 64) (a8 : State) (ha8 : Kept s0 a8) : KeptR s0 (execReservationAcquire a0 a1 a2 a3 a4 a5 a6 a7 a8) := by
  delta execReservationAcquire
  refine KeptR.next ?_
  with_reducible apply kept_nvOther
  · exact ha8
  · intro y0 y1 hy0
    exact kept_resvAcquire _ _ _ _ _ _ _ _ hy0

theorem kept_resvRelease {s0 : State} (a0 : State) (a1 : Nat) (a2 : Nat) (a3 : Nat) (a4 : Nat) (a5 : Nat) (ha0 : Kept s0 a0) : Kept s0 (State.resvRelease a0 a1 a2 a3 a4 a5).1 := by
  delta State.resvRelease
  extract_lets +onlyGivenNames -merge -useContext x0
  try clear_value x0
  extract_lets +onlyGivenNames -merge -useContext x1
  try clear_value x1
  exact Kept.ite1 (Kept.mk1 ha0) (Kept.ite1 (Kept.mk1 ha0) (Kept.ite1 (Kept.mk1 (kept_notify _ _ _ _ _ (kept_resvBump _ _ (kept_modResv _ _ _ ha0)))) (Kept.ite1 (Kept.mk1 ha0) (Kept.ite1 (Kept.mk1 ha0) (Kept.mk1 (kept_resvFree _ _ _ ha0))))))

theorem kept_execReservationRelease {s0 : State} (a0 : Fin 2) (a1 : BitVec 16) (a2 : BitVec 16) (a3 : BitVec 32) (a4 : BitVec 3) (a5 : BitVec 8) (a6 : BitVec 64) (a7 : State) (ha7 : Kept s0 a7) : KeptR s0 (execReservationRelease a0 a1 a2 a3 a4 a5 a6 a7) := by
  delta execReservationRelease
  refine KeptR.next ?_
  with_reducible apply kept_nvOther
  · exact ha7
  · intro y0 y1 hy0
    exact kept_resvRelease _ _ _ _ _ _ hy0

theorem kept_execReservationReport {s0 : State} (a0 : Fin 2) (a1 : BitVec 16) (a2 : BitVec 16) (a3 : BitVec 32) (a4 : Bool) (a5 : List (BitVec 64 × BitVec 32)) (a6 : State) (ha6 : Kept s0 a6) : KeptR s0 (execReservationReport a0 a1 a2 a3 a4 a5 a6) := by
  delta execReservationReport
  refine KeptR.next ?_
  with_reducible apply kept_nvOther
  · exact ha6
  · intro y0 y1 hy0
    exact Kept.ite1 (Kept.mk1 (kept_hostPut _ _ _ _ hy0)) (Kept.mk1 hy0)

theorem kept_sqDoorbell {s0 : State} (a0 : State) (a1 : Nat) (a2 : Nat) (a3 : Nat) (ha0 : Kept s0 a0) : Kept s0 (State.sqDoorbell a0 a1 a2 a3) := by
  delta State.sqDoorbell
  extract_lets +onlyGivenNames -merge -useContext x0
  try clear_value x0
  exact Kept.ite (kept_modSq _ _ _ _ ha0) ha0

theorem kept_execNvmeSqDoorbell {s0 : State} (a0 : Fin 2) (a1 : BitVec 16) (a2 : Word) (a3 : State) (ha3 : Kept s0 a3) : KeptR s0 (execNvmeSqDoorbell a0 a1 a2 a3) := by
  delta execNvmeSqDoorbell
  exact KeptR.next (kept_sqDoorbell _ _ _ _ ha3)

theorem kept_cqDoorbell {s0 : State} (a0 : State) (a1 : Nat) (a2 : Nat) (a3 : Nat) (ha0 : Kept s0 a0) : Kept s0 (State.cqDoorbell a0 a1 a2 a3) := by
  delta State.cqDoorbell
  extract_lets +onlyGivenNames -merge -useContext x0
  try clear_value x0
  extract_lets +onlyGivenNames -merge -useContext x1
  try clear_value x1
  refine Kept.ite ?_ ?_
  · exact ha0
  · extract_lets +onlyGivenNames -merge -useContext x2
    try clear_value x2
    extract_lets +onlyGivenNames -merge -useContext x3
    try clear_value x3
    exact Kept.ite ha0 (kept_cqDrain _ _ _ _ (kept_modCq _ _ _ _ ha0))

theorem kept_execNvmeCqDoorbell {s0 : State} (a0 : Fin 2) (a1 : BitVec 16) (a2 : Word) (a3 : State) (ha3 : Kept s0 a3) : KeptR s0 (execNvmeCqDoorbell a0 a1 a2 a3) := by
  delta execNvmeCqDoorbell
  exact KeptR.next (kept_cqDoorbell _ _ _ _ ha3)

theorem kept_ctrlEnable {s0 : State} (a0 : State) (a1 : Nat) (a2 : Nat) (a3 : Nat) (a4 : Nat) (a5 : Nat) (a6 : Bool) (ha0 : Kept s0 a0) : Kept s0 (State.ctrlEnable a0 a1 a2 a3 a4 a5 a6) := by
  delta State.ctrlEnable
  extract_lets +onlyGivenNames -merge -useContext x0
  try clear_value x0
  exact Kept.ite (kept_modPrt _ _ _ ha0) ha0

theorem kept_execNvmeControllerEnable {s0 : State} (a0 : Fin 2) (a1 : BitVec 64) (a2 : BitVec 64) (a3 : BitVec 12) (a4 : BitVec 12) (a5 : Bool) (a6 : State) (ha6 : Kept s0 a6) : KeptR s0 (execNvmeControllerEnable a0 a1 a2 a3 a4 a5 a6) := by
  delta execNvmeControllerEnable
  exact KeptR.next (kept_ctrlEnable _ _ _ _ _ _ _ ha6)

theorem kept_ctrlReset {s0 : State} (a0 : State) (a1 : Nat) (ha0 : Kept s0 a0) : Kept s0 (State.ctrlReset a0 a1) := by
  delta State.ctrlReset
  extract_lets +onlyGivenNames -merge -useContext x0
  have h0 : Kept s0 x0 := by
    unfold x0
    refine Kept.foldl ?_ ?_
    · exact ha0
    · intro y1 y2 hy1
      exact kept_turnEnd _ _ (kept_discardCmds _ _ hy1)
  clear_value x0
  extract_lets +onlyGivenNames -merge -useContext x3
  have h3 : Kept s0 x3 := by
    unfold x3
    refine Kept.foldl ?_ ?_
    · exact h0
    · intro y4 y5 hy4
      exact kept_priDrop _ _ hy4
  clear_value x3
  extract_lets +onlyGivenNames -merge -useContext x6
  have h6 : Kept s0 x6 := by unfold x6; exact Kept.upd h3 rfl rfl rfl rfl rfl rfl rfl
  clear_value x6
  extract_lets +onlyGivenNames -merge -useContext x7
  try clear_value x7
  exact kept_modPrt _ _ _ h6

theorem kept_execControllerReset {s0 : State} (a0 : Fin 2) (a1 : State) (ha1 : Kept s0 a1) : KeptR s0 (execControllerReset a0 a1) := by
  delta execControllerReset
  exact KeptR.next (kept_ctrlReset _ _ ha1)

theorem kept_portReset {s0 : State} (a0 : State) (a1 : Nat) (ha0 : Kept s0 a0) : Kept s0 (State.portReset a0 a1) := by
  delta State.portReset
  extract_lets +onlyGivenNames -merge -useContext x0
  have h0 : Kept s0 x0 := by unfold x0; exact kept_ctrlReset _ _ ha0
  clear_value x0
  extract_lets +onlyGivenNames -merge -useContext x1
  try clear_value x1
  extract_lets +onlyGivenNames -merge -useContext x2
  have h2 : Kept s0 x2 := by
    unfold x2
    refine Kept.foldl ?_ ?_
    · exact h0
    · intro y3 y4 hy3
      exact kept_discardCmds _ _ (kept_freezeRing _ _ _ _ _ hy3)
  clear_value x2
  extract_lets +onlyGivenNames -merge -useContext x5
  try clear_value x5
  extract_lets +onlyGivenNames -merge -useContext x6
  try clear_value x6
  extract_lets +onlyGivenNames -merge -useContext x7
  have h7 : Kept s0 x7 := by unfold x7; exact Kept.upd h2 rfl rfl rfl rfl rfl rfl rfl
  clear_value x7
  extract_lets +onlyGivenNames -merge -useContext x8
  have h8 : Kept s0 x8 := by
    unfold x8
    refine Kept.foldl ?_ ?_
    · exact h7
    · intro y9 y10 hy9
      refine Kept.foldl ?_ ?_
      · exact hy9
      · intro y11 y12 hy11
        exact kept_pageBad _ _ _ hy11
  clear_value x8
  exact kept_modPrt _ _ _ h8

theorem kept_execFunctionLevelReset {s0 : State} (a0 : Fin 2) (a1 : State) (ha1 : Kept s0 a1) : KeptR s0 (execFunctionLevelReset a0 a1) := by
  delta execFunctionLevelReset
  exact KeptR.next (kept_portReset _ _ ha1)

theorem kept_linkDown {s0 : State} (a0 : State) (a1 : Nat) (ha0 : Kept s0 a0) : Kept s0 (State.linkDown a0 a1) := by
  delta State.linkDown
  exact kept_modPrt _ _ _ (kept_portReset _ _ ha0)

theorem kept_execPortLinkDown {s0 : State} (a0 : Fin 2) (a1 : State) (ha1 : Kept s0 a1) : KeptR s0 (execPortLinkDown a0 a1) := by
  delta execPortLinkDown
  exact KeptR.next (kept_linkDown _ _ ha1)

theorem kept_perstEdge {s0 : State} (a0 : State) (a1 : Nat) (a2 : Bool) (ha0 : Kept s0 a0) : Kept s0 (State.perstEdge a0 a1 a2) := by
  delta State.perstEdge
  refine Kept.ite ?_ ?_
  · extract_lets +onlyGivenNames -merge -useContext x0
    have h0 : Kept s0 x0 := by unfold x0; exact kept_modPrt _ _ _ ha0
    clear_value x0
    extract_lets +onlyGivenNames -merge -useContext x1
    have h1 : Kept s0 x1 := by unfold x1; exact Kept.ite h0 (kept_wake _ _ h0)
    clear_value x1
    exact kept_portUp _ _ h1
  · exact kept_setDom _ _ _ (kept_modPrt _ _ _ (kept_linkDown _ _ ha0))

theorem kept_execPerst {s0 : State} (a0 : Fin 2) (a1 : Bool) (a2 : State) (ha2 : Kept s0 a2) : KeptR s0 (execPerst a0 a1 a2) := by
  delta execPerst
  exact KeptR.next (kept_perstEdge _ _ _ ha2)

theorem kept_configAccess {s0 : State} (a0 : State) (a1 : Nat) (a2 : CfgReq) (ha0 : Kept s0 a0) : Kept s0 (State.configAccess a0 a1 a2) := by
  delta State.configAccess
  refine Kept.ite ?_ ?_
  · exact ha0
  · extract_lets +onlyGivenNames -merge -useContext x0
    have h0 : Kept s0 x0 := by unfold x0; exact kept_modPrt _ _ _ ha0
    clear_value x0
    refine Kept.ite ?_ ?_
    · exact kept_emit _ _ h0
    · extract_lets +onlyGivenNames -merge -useContext x1
      have h1 : Kept s0 x1 := by unfold x1; exact kept_emit _ _ h0
      clear_value x1
      split
      · exact h1
      · extract_lets +onlyGivenNames -merge -useContext x2
        have h2 : Kept s0 x2 := by unfold x2; exact kept_modPrt _ _ _ h1
        clear_value x2
        exact Kept.ite h2 (Kept.upd h2 rfl rfl rfl rfl rfl rfl rfl)
      · exact kept_modPrt _ _ _ h1
      · exact kept_modPrt _ _ _ h1
      · exact kept_modPrt _ _ _ h1
      · exact Kept.ite (kept_modPrt _ _ _ h1) h1
      · exact Kept.ite (kept_modPrt _ _ _ h1) h1
      · exact h1

theorem kept_execPcieConfigAccess {s0 : State} (a0 : Fin 2) (a1 : CfgReq) (a2 : State) (ha2 : Kept s0 a2) : KeptR s0 (execPcieConfigAccess a0 a1 a2) := by
  delta execPcieConfigAccess
  exact KeptR.next (kept_configAccess _ _ _ ha2)

end Sys2Proof.Machine
end

