-- ==== Sys2Proof/Laws/KeptBuffer.lean ====
section
/-! SUPPORT. Laws/KeptBuffer.lean: the operations of Machine/Buffer.lean answer states that have been kept (Safety.lean). -/

namespace Sys2Proof.Machine
open Sys2Proof

theorem kept_hbmTemp {s0 : State} (a0 : State) (a1 : Int) (ha0 : Kept s0 a0) : Kept s0 (State.hbmTemp a0 a1) := by
  delta State.hbmTemp
  extract_lets +onlyGivenNames -merge -useContext x0
  try clear_value x0
  extract_lets +onlyGivenNames -merge -useContext x1
  try clear_value x1
  extract_lets +onlyGivenNames -merge -useContext x2
  try clear_value x2
  extract_lets +onlyGivenNames -merge -useContext x3
  have h3 : Kept s0 x3 := by unfold x3; exact kept_wf _ _ _ _ _ (kept_wf _ _ _ _ _ ha0)
  clear_value x3
  extract_lets +onlyGivenNames -merge -useContext x4
  try clear_value x4
  extract_lets +onlyGivenNames -merge -useContext x5
  have h5 : Kept s0 x5 := by unfold x5; exact Kept.upd h3 rfl rfl rfl rfl rfl rfl rfl
  clear_value x5
  extract_lets +onlyGivenNames -merge -useContext x6
  have h6 : Kept s0 x6 := by unfold x6; exact Kept.ite h5 (kept_report _ _ _ _ h5)
  clear_value x6
  exact Kept.ite (kept_report _ _ _ _ h6) h6

theorem kept_execHbmTempSample {s0 : State} (a0 : Int) (a1 : State) (ha1 : Kept s0 a1) : KeptR s0 (execHbmTempSample a0 a1) := by
  delta execHbmTempSample
  exact KeptR.next (kept_hbmTemp _ _ ha1)

theorem kept_refreshDue {s0 : State} (a0 : State) (a1 : Nat) (a2 : Nat) (a3 : Bool) (ha0 : Kept s0 a0) : Kept s0 (State.refreshDue a0 a1 a2 a3) := by
  delta State.refreshDue
  refine Kept.ite ?_ ?_
  · exact ha0
  · extract_lets +onlyGivenNames -merge -useContext x0
    try clear_value x0
    extract_lets +onlyGivenNames -merge -useContext x1
    try clear_value x1
    extract_lets +onlyGivenNames -merge -useContext x2
    try clear_value x2
    extract_lets +onlyGivenNames -merge -useContext x3
    try clear_value x3
    extract_lets +onlyGivenNames -merge -useContext x4
    have h4 : Kept s0 x4 := by unfold x4; exact Kept.upd ha0 rfl rfl rfl rfl rfl rfl rfl
    clear_value x4
    exact kept_wf _ _ _ _ _ h4

theorem kept_execRefreshDue {s0 : State} (a0 : Fin 16) (a1 : BitVec 8) (a2 : Bool) (a3 : State) (ha3 : Kept s0 a3) : KeptR s0 (execRefreshDue a0 a1 a2 a3) := by
  delta execRefreshDue
  exact KeptR.next (kept_refreshDue _ _ _ _ ha3)

theorem kept_retrack {s0 : State} (a0 : State) (a1 : Bool) (ha0 : Kept s0 a0) : Kept s0 (State.retrack a0 a1) := by
  delta State.retrack
  split
  · exact ha0
  · refine Kept.ite ?_ ?_
    · extract_lets +onlyGivenNames -merge -useContext x0
      have h0 : Kept s0 x0 := by unfold x0; exact kept_modPc _ _ _ ha0
      clear_value x0
      exact Kept.upd h0 rfl rfl rfl rfl rfl rfl rfl
    · extract_lets +onlyGivenNames -merge -useContext x1
      try clear_value x1
      extract_lets +onlyGivenNames -merge -useContext x2
      have h2 : Kept s0 x2 := by unfold x2; exact kept_modPc _ _ _ ha0
      clear_value x2
      extract_lets +onlyGivenNames -merge -useContext x3
      try clear_value x3
      extract_lets +onlyGivenNames -merge -useContext x4
      have h4 : Kept s0 x4 := by unfold x4; exact Kept.upd h2 rfl rfl rfl rfl rfl rfl rfl
      clear_value x4
      exact Kept.ite (kept_report _ _ _ _ h4) h4

theorem kept_execHbmRetrack {s0 : State} (a0 : Bool) (a1 : State) (ha1 : Kept s0 a1) : KeptR s0 (execHbmRetrack a0 a1) := by
  delta execHbmRetrack
  exact KeptR.next (kept_retrack _ _ ha1)

theorem kept_pcGone {s0 : State} (a0 : State) (a1 : Nat) (ha0 : Kept s0 a0) : Kept s0 (State.pcGone a0 a1) := by
  delta State.pcGone
  extract_lets +onlyGivenNames -merge -useContext x0
  have h0 : Kept s0 x0 := by unfold x0; exact kept_wf _ _ _ _ _ (kept_wb _ _ _ _ _ (kept_wf _ _ _ _ _ ha0))
  clear_value x0
  extract_lets +onlyGivenNames -merge -useContext x1
  try clear_value x1
  extract_lets +onlyGivenNames -merge -useContext x2
  have h2 : Kept s0 x2 := by unfold x2; exact Kept.upd h0 rfl rfl rfl rfl rfl rfl rfl
  clear_value x2
  exact kept_wf _ _ _ _ _ (kept_wb _ _ _ _ _ h2)

theorem kept_trained {s0 : State} (a0 : State) (a1 : Nat) (ha0 : Kept s0 a0) : Kept s0 (State.trained a0 a1) := by
  delta State.trained
  refine Kept.ite ?_ ?_
  · exact ha0
  · extract_lets +onlyGivenNames -merge -useContext x0
    try clear_value x0
    extract_lets +onlyGivenNames -merge -useContext x1
    have h1 : Kept s0 x1 := by
      unfold x1
      refine Kept.foldl ?_ ?_
      · exact ha0
      · intro y2 y3 hy2
        exact kept_wf _ _ _ _ _ hy2
    clear_value x1
    split
    · exact h1
    · exact kept_report _ _ _ _ (kept_wf _ _ _ _ _ (kept_wf _ _ _ _ _ (kept_pcGone _ _ h1)))
    · exact kept_report _ _ _ _ h1

theorem kept_execHbmTrainingDone {s0 : State} (a0 : BitVec 16) (a1 : State) (ha1 : Kept s0 a1) : KeptR s0 (execHbmTrainingDone a0 a1) := by
  delta execHbmTrainingDone
  exact KeptR.next (kept_trained _ _ ha1)

theorem kept_zeroFilled {s0 : State} (a0 : State) (ha0 : Kept s0 a0) : Kept s0 (State.zeroFilled a0) := by
  delta State.zeroFilled
  exact Kept.ite ha0 (⟨ha0.pending, ha0.part, ha0.minSvn, ha0.revoke0, fun _ => rfl, ha0.regs⟩)

theorem kept_execBufferZeroFillDone {s0 : State} (a0 : State) (ha0 : Kept s0 a0) : KeptR s0 (execBufferZeroFillDone a0) := by
  delta execBufferZeroFillDone
  exact KeptR.next (kept_zeroFilled _ ha0)

theorem kept_memberLost {s0 : State} (a0 : State) (a1 : Nat) (a2 : Nat) (ha0 : Kept s0 a0) : Kept s0 (State.memberLost a0 a1 a2) := by
  delta State.memberLost
  extract_lets +onlyGivenNames -merge -useContext x0
  try clear_value x0
  extract_lets +onlyGivenNames -merge -useContext x1
  try clear_value x1
  split
  · exact ha0
  · extract_lets +onlyGivenNames -merge -useContext x2
    have h2 : Kept s0 x2 := by unfold x2; exact kept_modCh _ _ _ ha0
    clear_value x2
    extract_lets +onlyGivenNames -merge -useContext x3
    try clear_value x3
    refine Kept.ite ?_ ?_
    · exact kept_maskOff _ _ _ (kept_omit_ _ _ _ h2)
    · extract_lets +onlyGivenNames -merge -useContext x4
      try clear_value x4
      with_reducible apply kept_maskOff
      · with_reducible apply kept_suspect
        · refine Kept.foldl ?_ ?_
          · exact h2
          · intro y5 y6 hy5
            exact kept_cmdFail _ _ _ _ hy5

theorem kept_busReact {s0 : State} (a0 : State) (a1 : BufReq) (a2 : Nat) (ha0 : Kept s0 a0) : Kept s0 (State.busReact a0 a1 a2) := by
  delta State.busReact
  extract_lets +onlyGivenNames -merge -useContext x0
  have h0 : Kept s0 x0 := by unfold x0; exact kept_emit _ _ ha0
  clear_value x0
  split
  · exact h0
  · exact Kept.ite (kept_freezeRing _ _ _ _ _ h0) (kept_ctrlFatal _ _ h0)
  · exact Kept.ite (kept_freezeCr _ _ _ h0) (kept_ctrlFatal _ _ h0)
  · exact h0
  · exact kept_parityDone _ _ _ h0
  · exact kept_memberLost _ _ _ h0
  · exact Kept.ite (kept_replayEnd _ _ h0) h0
  · exact Kept.ite (Kept.upd h0 rfl rfl rfl rfl rfl rfl rfl) h0
  · exact kept_report _ _ _ _ (kept_emit _ _ h0)

theorem kept_serveOp {s0 : State} (a0 : State) (a1 : BufOp) (ha0 : Kept s0 a0) : Kept s0 (State.serveOp a0 a1) := by
  delta State.serveOp
  refine Kept.ite ?_ ?_
  · exact kept_busReact _ _ _ ha0
  · refine Kept.ite ?_ ?_
    · exact Kept.upd ha0 rfl rfl rfl rfl rfl rfl rfl
    · split
      · extract_lets +onlyGivenNames -merge -useContext x0
        have h0 : Kept s0 x0.1 := by unfold x0; exact kept_bufWrite _ _ _ ha0
        clear_value x0
        exact Kept.ite (kept_busReact _ _ _ h0) (kept_emit _ _ h0)
      · refine Kept.ite ?_ ?_
        · exact Kept.upd ha0 rfl rfl rfl rfl rfl rfl rfl
        · extract_lets +onlyGivenNames -merge -useContext x1
          have h1 : Kept s0 x1.1 := by unfold x1; exact kept_bufRead _ _ _ ha0
          clear_value x1
          split
          · exact kept_emit _ _ h1
          · exact kept_busReact _ _ _ h1

theorem kept_serveWaits {s0 : State} (a0 : State) (ha0 : Kept s0 a0) : Kept s0 (State.serveWaits a0) := by
  delta State.serveWaits
  refine Kept.foldl ?_ ?_
  · exact Kept.upd ha0 rfl rfl rfl rfl rfl rfl rfl
  · intro y0 y1 hy0
    exact kept_serveOp _ _ hy0

theorem kept_bufAwake {s0 : State} (a0 : State) (ha0 : Kept s0 a0) : Kept s0 (State.bufAwake a0) := by
  delta State.bufAwake
  exact Kept.upd ha0 rfl rfl rfl rfl rfl rfl rfl

theorem kept_upsetIn {s0 : State} (a0 : State) (a1 : List (Nat × BitVec 72)) (ha0 : Kept s0 a0) : Kept s0 (State.upsetIn a0 a1) := by
  delta State.upsetIn
  exact kept_upsets _ _ ha0

theorem kept_execHbmRead {s0 : State} (a0 : BufReq) (a1 : Nat) (a2 : Nat) (a3 : List (Nat × BitVec 72)) (a4 : State) (ha4 : Kept s0 a4) : KeptR s0 (execHbmRead a0 a1 a2 a3 a4) := by
  delta execHbmRead
  exact KeptR.next (kept_serveOp _ _ (kept_upsetIn _ _ (kept_bufAwake _ ha4)))

theorem kept_execHbmWrite {s0 : State} (a0 : BufReq) (a1 : Nat) (a2 : List Byte) (a3 : List (Nat × BitVec 72)) (a4 : State) (ha4 : Kept s0 a4) : KeptR s0 (execHbmWrite a0 a1 a2 a3 a4) := by
  delta execHbmWrite
  exact KeptR.next (kept_serveOp _ _ (kept_upsetIn _ _ (kept_bufAwake _ ha4)))

theorem kept_strongDone {s0 : State} (a0 : State) (a1 : Nat) (a2 : Nat) (ha0 : Kept s0 a0) : Kept s0 (State.strongDone a0 a1 a2) := by
  delta State.strongDone
  exact Kept.ite (kept_serveWaits _ (kept_strongDecode _ _ _ ha0)) ha0

theorem kept_execStrongDecode {s0 : State} (a0 : BitVec 23) (a1 : BitVec 8) (a2 : State) (ha2 : Kept s0 a2) : KeptR s0 (execStrongDecode a0 a1 a2) := by
  delta execStrongDecode
  exact KeptR.next (kept_strongDone _ _ _ ha2)

theorem kept_execParityEntryWrite {s0 : State} (a0 : BitVec 23) (a1 : State) (ha1 : Kept s0 a1) : KeptR s0 (execParityEntryWrite a0 a1) := by
  delta execParityEntryWrite
  exact KeptR.next (kept_parityFlush _ _ ha1)

theorem kept_flipArm {s0 : State} (a0 : State) (ha0 : Kept s0 a0) : Kept s0 (State.flipArm a0) := by
  delta State.flipArm
  extract_lets +onlyGivenNames -merge -useContext x0
  have h0 : Kept s0 x0 := by unfold x0; exact kept_wb _ _ _ _ _ ha0
  clear_value x0
  exact Kept.upd h0 rfl rfl rfl rfl rfl rfl rfl

theorem kept_execHbmFlipArm {s0 : State} (a0 : State) (ha0 : Kept s0 a0) : KeptR s0 (execHbmFlipArm a0) := by
  delta execHbmFlipArm
  exact KeptR.next (kept_flipArm _ ha0)

theorem kept_execHbmSelfRefreshEntry {s0 : State} (a0 : State) (ha0 : Kept s0 a0) : KeptR s0 (execHbmSelfRefreshEntry a0) := by
  delta execHbmSelfRefreshEntry
  refine KeptR.next ?_
  refine Kept.ite ?_ ?_
  · refine Kept.foldl ?_ ?_
    · exact Kept.upd ha0 rfl rfl rfl rfl rfl rfl rfl
    · intro y0 y1 hy0
      exact kept_wf _ _ _ _ _ hy0
  · exact ha0

theorem kept_checkPage {s0 : State} (a0 : State) (a1 : Nat) (ha0 : Kept s0 a0) : Kept s0 (State.checkPage a0 a1) := by
  delta State.checkPage
  extract_lets +onlyGivenNames -merge -useContext x0
  try clear_value x0
  extract_lets +onlyGivenNames -merge -useContext x1
  have h1 : Kept s0 x1 := by
    unfold x1
    refine Kept.foldl ?_ ?_
    · exact ha0
    · intro y2 y3 hy2
      split
      · exact kept_lightFix _ _ _ hy2
      · exact hy2
  clear_value x1
  refine Kept.ite ?_ ?_
  · exact kept_strongDecode _ _ _ h1
  · refine Kept.foldl ?_ ?_
    · exact h1
    · intro y4 y5 hy4
      exact kept_parityFix _ _ hy4

theorem kept_skimNext {s0 : State} (a0 : State) (a1 : Nat) (ha0 : Kept s0 a0) : Kept s0 (State.skimNext a0 a1) := by
  delta State.skimNext
  exact kept_modPc _ _ _ ha0

theorem kept_skimPage {s0 : State} (a0 : State) (a1 : Nat) (a2 : Bool) (ha0 : Kept s0 a0) : Kept s0 (State.skimPage a0 a1 a2) := by
  delta State.skimPage
  extract_lets +onlyGivenNames -merge -useContext x0
  try clear_value x0
  refine Kept.ite ?_ ?_
  · exact ha0
  · split
    · exact kept_skimNext _ _ ha0
    · refine Kept.ite ?_ ?_
      · extract_lets +onlyGivenNames -merge -useContext x1
        have h1 : Kept s0 x1 := by unfold x1; exact kept_cnt _ _ _ _ _ ha0
        clear_value x1
        exact Kept.ite (kept_skimNext _ _ (kept_cnt _ _ _ _ _ h1)) (kept_modPc _ _ _ h1)
      · extract_lets +onlyGivenNames -merge -useContext x2
        try clear_value x2
        extract_lets +onlyGivenNames -merge -useContext x3
        have h3 : Kept s0 x3 := by unfold x3; exact kept_checkPage _ _ ha0
        clear_value x3
        extract_lets +onlyGivenNames -merge -useContext x4
        have h4 : Kept s0 x4 := by unfold x4; exact kept_cnt _ _ _ _ _ h3
        clear_value x4
        extract_lets +onlyGivenNames -merge -useContext x5
        have h5 : Kept s0 x5 := by unfold x5; exact Kept.ite (kept_cnt _ _ _ _ _ h4) h4
        clear_value x5
        exact kept_skimNext _ _ h5

theorem kept_execSkimPage {s0 : State} (a0 : Fin 16) (a1 : Bool) (a2 : List (Nat × BitVec 72)) (a3 : State) (ha3 : Kept s0 a3) : KeptR s0 (execSkimPage a0 a1 a2 a3) := by
  delta execSkimPage
  exact KeptR.next (kept_skimPage _ _ _ (kept_upsetIn _ _ ha3))

theorem kept_lapStart {s0 : State} (a0 : State) (ha0 : Kept s0 a0) : Kept s0 (State.lapStart a0) := by
  delta State.lapStart
  refine Kept.foldl ?_ ?_
  · exact Kept.upd ha0 rfl rfl rfl rfl rfl rfl rfl
  · intro y0 y1 hy0
    exact kept_modPc _ _ _ hy0

theorem kept_lapEnd {s0 : State} (a0 : State) (a1 : Nat) (ha0 : Kept s0 a0) : Kept s0 (State.lapEnd a0 a1) := by
  delta State.lapEnd
  exact Kept.ite ha0 (kept_lapStart _ (kept_cnt _ _ _ _ _ (kept_wf _ _ _ _ _ (kept_wf _ _ _ _ _ ha0))))

theorem kept_execSkimLapEnd {s0 : State} (a0 : BitVec 32) (a1 : State) (ha1 : Kept s0 a1) : KeptR s0 (execSkimLapEnd a0 a1) := by
  delta execSkimLapEnd
  exact KeptR.next (kept_lapEnd _ _ ha1)

theorem kept_execSkimLapOverdue {s0 : State} (a0 : State) (ha0 : Kept s0 a0) : KeptR s0 (execSkimLapOverdue a0) := by
  delta execSkimLapOverdue
  exact KeptR.next (Kept.ite (kept_report _ _ _ _ (Kept.upd ha0 rfl rfl rfl rfl rfl rfl rfl)) ha0)

theorem kept_skimRestart {s0 : State} (a0 : State) (ha0 : Kept s0 a0) : Kept s0 (State.skimRestart a0) := by
  delta State.skimRestart
  extract_lets +onlyGivenNames -merge -useContext x0
  have h0 : Kept s0 x0 := by unfold x0; exact kept_wf _ _ _ _ _ ha0
  clear_value x0
  exact Kept.ite (kept_lapStart _ h0) h0

theorem kept_execSkimRestart {s0 : State} (a0 : State) (ha0 : Kept s0 a0) : KeptR s0 (execSkimRestart a0) := by
  delta execSkimRestart
  exact KeptR.next (kept_skimRestart _ ha0)

theorem kept_skimEnable {s0 : State} (a0 : State) (a1 : Bool) (ha0 : Kept s0 a0) : Kept s0 (State.skimEnable a0 a1) := by
  delta State.skimEnable
  extract_lets +onlyGivenNames -merge -useContext x0
  try clear_value x0
  extract_lets +onlyGivenNames -merge -useContext x1
  have h1 : Kept s0 x1 := by unfold x1; exact kept_wb _ _ _ _ _ ha0
  clear_value x1
  exact Kept.ite (Kept.ite h1 (kept_lapStart _ h1)) (Kept.upd h1 rfl rfl rfl rfl rfl rfl rfl)

theorem kept_execSkimEnable {s0 : State} (a0 : Bool) (a1 : State) (ha1 : Kept s0 a1) : KeptR s0 (execSkimEnable a0 a1) := by
  delta execSkimEnable
  exact KeptR.next (kept_skimEnable _ _ ha1)

theorem kept_ceWindow {s0 : State} (a0 : State) (a1 : Nat) (ha0 : Kept s0 a0) : Kept s0 (State.ceWindow a0 a1) := by
  delta State.ceWindow
  extract_lets +onlyGivenNames -merge -useContext x0
  try clear_value x0
  extract_lets +onlyGivenNames -merge -useContext x1
  have h1 : Kept s0 x1 := by unfold x1; exact kept_modPc _ _ _ ha0
  clear_value x1
  exact Kept.ite (kept_pcDue _ _ _ h1) h1

theorem kept_execCeRateWindow {s0 : State} (a0 : Fin 16) (a1 : State) (ha1 : Kept s0 a1) : KeptR s0 (execCeRateWindow a0 a1) := by
  delta execCeRateWindow
  exact KeptR.next (kept_ceWindow _ _ ha1)

theorem kept_pcRetire {s0 : State} (a0 : State) (a1 : Nat) (ha0 : Kept s0 a0) : Kept s0 (State.pcRetire a0 a1) := by
  delta State.pcRetire
  exact Kept.ite (kept_pcDue _ _ _ (kept_wb _ _ _ _ _ ha0)) ha0

theorem kept_execHbmPcRetire {s0 : State} (a0 : Fin 16) (a1 : State) (ha1 : Kept s0 a1) : KeptR s0 (execHbmPcRetire a0 a1) := by
  delta execHbmPcRetire
  exact KeptR.next (kept_pcRetire _ _ ha1)

theorem kept_pcTake {s0 : State} (a0 : State) (a1 : Nat) (ha0 : Kept s0 a0) : Kept s0 (State.pcTake a0 a1) := by
  delta State.pcTake
  extract_lets +onlyGivenNames -merge -useContext x0
  try clear_value x0
  refine Kept.ite ?_ ?_
  · exact ha0
  · extract_lets +onlyGivenNames -merge -useContext x1
    have h1 : Kept s0 x1 := by unfold x1; exact kept_modPc _ _ _ ha0
    clear_value x1
    exact Kept.ite (kept_report _ _ _ _ h1) (kept_modPc _ _ _ (kept_wf _ _ _ _ _ (kept_wf _ _ _ _ _ h1)))

theorem kept_execPcRetire {s0 : State} (a0 : Fin 16) (a1 : State) (ha1 : Kept s0 a1) : KeptR s0 (execPcRetire a0 a1) := by
  delta execPcRetire
  exact KeptR.next (kept_pcTake _ _ ha1)

theorem kept_pcDrained {s0 : State} (a0 : State) (a1 : Nat) (ha0 : Kept s0 a0) : Kept s0 (State.pcDrained a0 a1) := by
  delta State.pcDrained
  extract_lets +onlyGivenNames -merge -useContext x0
  try clear_value x0
  refine Kept.ite ?_ ?_
  · exact ha0
  · extract_lets +onlyGivenNames -merge -useContext x1
    try clear_value x1
    extract_lets +onlyGivenNames -merge -useContext x2
    have h2 : Kept s0 x2 := by unfold x2; exact Kept.upd ha0 rfl rfl rfl rfl rfl rfl rfl
    clear_value x2
    extract_lets +onlyGivenNames -merge -useContext x3
    have h3 : Kept s0 x3 := by unfold x3; exact kept_modPc _ _ _ (kept_wf _ _ _ _ _ h2)
    clear_value x3
    exact kept_serveWaits _ (kept_report _ _ _ _ h3)

theorem kept_execPcQueueDrained {s0 : State} (a0 : Fin 16) (a1 : State) (ha1 : Kept s0 a1) : KeptR s0 (execPcQueueDrained a0 a1) := by
  delta execPcQueueDrained
  exact KeptR.next (kept_pcDrained _ _ ha1)

theorem kept_relocRow {s0 : State} (a0 : State) (a1 : Nat) (ha0 : Kept s0 a0) : Kept s0 (State.relocRow a0 a1) := by
  delta State.relocRow
  extract_lets +onlyGivenNames -merge -useContext x0
  try clear_value x0
  refine Kept.ite ?_ ?_
  · exact ha0
  · extract_lets +onlyGivenNames -merge -useContext x1
    try clear_value x1
    extract_lets +onlyGivenNames -merge -useContext x2
    have h2 : Kept s0 x2 := by unfold x2; exact kept_checkPage _ _ ha0
    clear_value x2
    extract_lets +onlyGivenNames -merge -useContext x3
    try clear_value x3
    extract_lets +onlyGivenNames -merge -useContext x4
    have h4 : Kept s0 x4 := by unfold x4; exact Kept.upd h2 rfl rfl rfl rfl rfl rfl rfl
    clear_value x4
    extract_lets +onlyGivenNames -merge -useContext x5
    have h5 : Kept s0 x5 := by unfold x5; exact kept_wf _ _ _ _ _ h4
    clear_value x5
    exact Kept.ite (kept_pcGone _ _ h5) h5

theorem kept_execRelocRow {s0 : State} (a0 : Fin 16) (a1 : State) (ha1 : Kept s0 a1) : KeptR s0 (execRelocRow a0 a1) := by
  delta execRelocRow
  exact KeptR.next (kept_relocRow _ _ ha1)

end Sys2Proof.Machine
end

