-- ==== Sys2Proof/Laws/KeptAccess.lean ====
section
/-! SUPPORT. Laws/KeptAccess.lean: the operations of Machine/Access.lean answer states that have been kept (Safety.lean). -/

namespace Sys2Proof.Machine
open Sys2Proof

theorem kept_odAnswer {s0 : State} (a0 : State) (a1 : Nat) (a2 : Nat) (a3 : List Byte) (ha0 : Kept s0 a0) : Kept s0 (State.odAnswer a0 a1 a2 a3) := by
  delta State.odAnswer
  exact kept_emit _ _ ha0

end Sys2Proof.Machine
end

