-- ==== Sys2Proof/Laws/KeptFaults.lean ====
section
/-! SUPPORT. Laws/KeptFaults.lean: the operations of Machine/Faults.lean answer states that have been kept (Safety.lean). -/

namespace Sys2Proof.Machine
open Sys2Proof

theorem kept_c3Start {s0 : State} (a0 : State) (a1 : Nat) (a2 : Nat) (ha0 : Kept s0 a0) : Kept s0 (State.c3Start a0 a1 a2) := by
  delta State.c3Start
  refine Kept.ite ?_ ?_
  · exact kept_retractAll _ (kept_inhibitAll _ _ _ ha0)
  · refine Kept.ite ?_ ?_
    · exact kept_inhibitAll _ _ _ ha0
    · refine Kept.ite ?_ ?_
      · refine Kept.foldl ?_ ?_
        · exact ha0
        · intro y0 y1 hy0
          exact kept_startPark _ _ (kept_inhibits _ _ _ _ hy0)
      · exact ha0

theorem kept_c3Begin {s0 : State} (a0 : State) (a1 : Nat) (a2 : Nat) (ha0 : Kept s0 a0) : Kept s0 (State.c3Begin a0 a1 a2) := by
  delta State.c3Begin
  extract_lets +onlyGivenNames -merge -useContext x0
  have h0 : Kept s0 x0 := by unfold x0; exact Kept.ite (kept_abortEntry _ _ _ ha0) ha0
  clear_value x0
  split
  · exact Kept.ite (kept_chipFatal _ h0) (kept_c3Start _ _ _ (kept_startFlush _ h0))
  · exact kept_c3Start _ _ _ (kept_startFlush _ h0)

theorem kept_react1 {s0 : State} (a0 : State) (a1 : Nat) (a2 : Nat) (a3 : Nat) (ha0 : Kept s0 a0) : Kept s0 (State.react1 a0 a1 a2 a3) := by
  delta State.react1
  extract_lets +onlyGivenNames -merge -useContext x0
  have h0 : Kept s0 x0 := by unfold x0; exact kept_raiseHighest _ _ (kept_takeOn _ _ _ _ ha0)
  clear_value x0
  exact Kept.ite (kept_c3Begin _ _ _ h0) (Kept.ite (kept_chipFatal _ h0) h0)

theorem kept_chipTake {s0 : State} (a0 : State) (a1 : Nat) (a2 : UpReport) (ha0 : Kept s0 a0) : Kept s0 (State.chipTake a0 a1 a2) := by
  delta State.chipTake
  split
  · extract_lets +onlyGivenNames -merge -useContext x0
    try clear_value x0
    extract_lets +onlyGivenNames -merge -useContext x1
    have h1 : Kept s0 x1 := by unfold x1; exact Kept.upd ha0 rfl rfl rfl rfl rfl rfl rfl
    clear_value x1
    extract_lets +onlyGivenNames -merge -useContext x2
    have h2 : Kept s0 x2 := by unfold x2; exact kept_react1 _ _ _ _ (kept_cnt _ _ _ _ _ h1)
    clear_value x2
    exact Kept.ite (kept_enqueueRec _ _ _ h2) h2
  · exact Kept.ite (Kept.upd ha0 rfl rfl rfl rfl rfl rfl rfl) (kept_react1 _ _ _ _ (Kept.upd ha0 rfl rfl rfl rfl rfl rfl rfl))
  · exact kept_react1 _ _ _ _ (Kept.upd ha0 rfl rfl rfl rfl rfl rfl rfl)
  · exact ha0

theorem kept_execChipRecordOpen {s0 : State} (a0 : Fin 5) (a1 : State) (ha1 : Kept s0 a1) : KeptR s0 (execChipRecordOpen a0 a1) := by
  delta execChipRecordOpen
  split
  · exact KeptR.next ha1
  · exact KeptR.next (kept_chipTake _ _ _ (Kept.upd ha1 rfl rfl rfl rfl rfl rfl rfl))

theorem kept_endRecord {s0 : State} (a0 : State) (a1 : Nat) (ha0 : Kept s0 a0) : Kept s0 (State.endRecord a0 a1) := by
  delta State.endRecord
  split
  · exact ha0
  · extract_lets +onlyGivenNames -merge -useContext x0
    try clear_value x0
    exact kept_closeChip _ (kept_enqueueRec _ _ _ (Kept.upd ha0 rfl rfl rfl rfl rfl rfl rfl))

theorem kept_execC2Remapped {s0 : State} (a0 : Nat) (a1 : State) (ha1 : Kept s0 a1) : KeptR s0 (execC2Remapped a0 a1) := by
  delta execC2Remapped
  split
  · exact KeptR.next (Kept.ite (kept_endRecord _ _ ha1) ha1)
  · exact KeptR.next ha1

theorem kept_execChipFatal {s0 : State} (a0 : BitVec 16) (a1 : State) (ha1 : Kept s0 a1) : KeptR s0 (execChipFatal a0 a1) := by
  delta execChipFatal
  exact KeptR.next (kept_chipFatal _ (kept_reportBy _ _ _ _ _ _ _ _ ha1))

theorem kept_fcClear {s0 : State} (a0 : State) (ha0 : Kept s0 a0) : Kept s0 (State.fcClear a0) := by
  delta State.fcClear
  exact Kept.ite ha0 (kept_wf _ _ _ _ _ ha0)

theorem kept_execFcClear {s0 : State} (a0 : State) (ha0 : Kept s0 a0) : KeptR s0 (execFcClear a0) := by
  delta execFcClear
  exact KeptR.next (kept_fcClear _ ha0)

theorem kept_wdKick {s0 : State} (a0 : State) (a1 : Nat) (ha0 : Kept s0 a0) : Kept s0 (State.wdKick a0 a1) := by
  delta State.wdKick
  exact Kept.ite (kept_wf _ _ _ _ _ ha0) (kept_cnt _ _ _ _ _ ha0)

theorem kept_execWdKick {s0 : State} (a0 : BitVec 16) (a1 : State) (ha1 : Kept s0 a1) : KeptR s0 (execWdKick a0 a1) := by
  delta execWdKick
  exact KeptR.next (kept_wdKick _ _ ha1)

theorem kept_wdCtrl {s0 : State} (a0 : State) (a1 : Nat) (ha0 : Kept s0 a0) : Kept s0 (State.wdCtrl a0 a1) := by
  delta State.wdCtrl
  extract_lets +onlyGivenNames -merge -useContext x0
  have h0 : Kept s0 x0 := by unfold x0; exact kept_wf _ _ _ _ _ ha0
  clear_value x0
  refine Kept.ite ?_ ?_
  · exact h0
  · extract_lets +onlyGivenNames -merge -useContext x1
    try clear_value x1
    extract_lets +onlyGivenNames -merge -useContext x2
    have h2 : Kept s0 x2 := by unfold x2; exact kept_wb _ _ _ _ _ h0
    clear_value x2
    exact Kept.ite (kept_wf _ _ _ _ _ h2) h2

theorem kept_execWdCtrlWrite {s0 : State} (a0 : Word) (a1 : State) (ha1 : Kept s0 a1) : KeptR s0 (execWdCtrlWrite a0 a1) := by
  delta execWdCtrlWrite
  exact KeptR.next (kept_wdCtrl _ _ ha1)

theorem kept_execWatchdogExpiry {s0 : State} (a0 : State) (ha0 : Kept s0 a0) : KeptR s0 (execWatchdogExpiry a0) := by
  delta execWatchdogExpiry
  exact KeptR.ite (KeptR.next (kept_reportAs _ _ _ _ _ (kept_wf _ _ _ _ _ (kept_wb _ _ _ _ _ ha0)))) (KeptR.next ha0)

theorem kept_setLevel {s0 : State} (a0 : State) (a1 : Nat) (a2 : Bool) (ha0 : Kept s0 a0) : Kept s0 (State.setLevel a0 a1 a2) := by
  delta State.setLevel
  exact kept_wbit _ _ _ _ _ _ ha0

theorem kept_execInputStuck {s0 : State} (a0 : Fin 5) (a1 : State) (ha1 : Kept s0 a1) : KeptR s0 (execInputStuck a0 a1) := by
  delta execInputStuck
  refine KeptR.ite ?_ ?_
  · extract_lets +onlyGivenNames -merge -useContext x0
    have h0 : Kept s0 x0 := by unfold x0; exact kept_report _ _ _ _ (kept_wbit _ _ _ _ _ _ ha1)
    clear_value x0
    exact KeptR.next (Kept.ite (kept_inhibitAll _ _ _ (kept_report _ _ _ _ h0)) h0)
  · exact KeptR.next ha1

theorem kept_execInputChatter {s0 : State} (a0 : Fin 5) (a1 : State) (ha1 : Kept s0 a1) : KeptR s0 (execInputChatter a0 a1) := by
  delta execInputChatter
  refine KeptR.ite ?_ ?_
  · exact KeptR.next ha1
  · extract_lets +onlyGivenNames -merge -useContext x0
    have h0 : Kept s0 x0 := by unfold x0; exact kept_report _ _ _ _ (kept_wbit _ _ _ _ _ _ ha1)
    clear_value x0
    exact KeptR.next (Kept.ite (kept_inhibitAll _ _ _ h0) h0)

theorem kept_execInputRequalify {s0 : State} (a0 : Fin 5) (a1 : State) (ha1 : Kept s0 a1) : KeptR s0 (execInputRequalify a0 a1) := by
  delta execInputRequalify
  extract_lets +onlyGivenNames -merge -useContext x0
  have h0 : Kept s0 x0 := by unfold x0; exact Kept.ite (kept_wbit _ _ _ _ _ _ ha1) ha1
  clear_value x0
  exact KeptR.next (kept_wbit _ _ _ _ _ _ (kept_wbit _ _ _ _ _ _ h0))

theorem kept_execTempSenseWindow {s0 : State} (a0 : Bool) (a1 : State) (ha1 : Kept s0 a1) : KeptR s0 (execTempSenseWindow a0 a1) := by
  delta execTempSenseWindow
  exact KeptR.ite (KeptR.next (kept_wb _ _ _ _ _ ha1)) (KeptR.ite (KeptR.next ha1) (KeptR.next (kept_report _ _ _ _ (kept_wb _ _ _ _ _ ha1))))

end Sys2Proof.Machine
end

