-- ==== Sys2Proof/Laws/KeptSecurity.lean ====
section
/-! SUPPORT. Laws/KeptSecurity.lean: the operations of Machine/Security.lean answer states that have been kept (Safety.lean). -/

namespace Sys2Proof.Machine
open Sys2Proof

theorem kept_sessionEnd {s0 : State} (a0 : State) (a1 : Nat) (ha0 : Kept s0 a0) : Kept s0 (State.sessionEnd a0 a1) := by
  delta State.sessionEnd
  exact Kept.upd ha0 rfl rfl rfl rfl rfl rfl rfl

theorem kept_closeKey {s0 : State} (a0 : State) (a1 : Nat) (ha0 : Kept s0 a0) : Kept s0 (State.closeKey a0 a1) := by
  delta State.closeKey
  refine Kept.foldl ?_ ?_
  · exact ha0
  · intro y0 y1 hy0
    exact kept_sessionEnd _ _ hy0

theorem kept_putKey {s0 : State} (a0 : State) (a1 : Bool) (a2 : Nat) (a3 : KeySlot) (ha0 : Kept s0 a0) : Kept s0 (State.putKey a0 a1 a2 a3) := by
  delta State.putKey
  exact Kept.ite (Kept.upd ha0 rfl rfl rfl rfl rfl rfl rfl) (Kept.upd ha0 rfl rfl rfl rfl rfl rfl rfl)

theorem kept_keyPut {s0 : State} (a0 : State) (a1 : Bool) (a2 : Nat) (a3 : BitVec 512) (a4 : Nat) (a5 : Bool) (ha0 : Kept s0 a0) : Kept s0 (State.keyPut a0 a1 a2 a3 a4 a5).1 := by
  delta State.keyPut
  extract_lets +onlyGivenNames -merge -useContext x0
  try clear_value x0
  extract_lets +onlyGivenNames -merge -useContext x1
  try clear_value x1
  refine Kept.ite1 ?_ ?_
  · exact Kept.mk1 ha0
  · refine Kept.ite1 ?_ ?_
    · exact Kept.mk1 ha0
    · refine Kept.ite1 ?_ ?_
      · exact Kept.mk1 ha0
      · refine Kept.ite1 ?_ ?_
        · exact Kept.mk1 ha0
        · refine Kept.ite1 ?_ ?_
          · extract_lets +onlyGivenNames -merge -useContext x2
            have h2 : Kept s0 x2 := by unfold x2; exact kept_putKey _ _ _ _ ha0
            clear_value x2
            exact Kept.mk1 (Kept.ite (kept_closeKey _ _ h2) h2)
          · exact Kept.mk1 (kept_putKey _ _ _ _ ha0)

theorem kept_keyWrite {s0 : State} (a0 : State) (a1 : Nat) (a2 : Bool) (a3 : Nat) (a4 : BitVec 512) (a5 : Nat) (a6 : Bool) (ha0 : Kept s0 a0) : Kept s0 (State.keyWrite a0 a1 a2 a3 a4 a5 a6).1 := by
  delta State.keyWrite
  extract_lets +onlyGivenNames -merge -useContext x0
  try clear_value x0
  exact Kept.ite1 (Kept.mk1 ha0) (kept_keyPut _ _ _ _ _ _ ha0)

theorem kept_odDone {s0 : State} (a0 : State) (a1 : Nat) (a2 : State × Nat) (ha0 : Kept s0 a0) (ha2 : Kept s0 a2.1) : Kept s0 (State.odDone a0 a1 a2) := by
  delta State.odDone
  exact Kept.ite (kept_odAnswer _ _ _ _ ha2) ha0

theorem kept_execKeySlotWrite {s0 : State} (a0 : Fin 16) (a1 : Bool) (a2 : Fin 8) (a3 : BitVec 512) (a4 : BitVec 8) (a5 : Bool) (a6 : State) (ha6 : Kept s0 a6) : KeptR s0 (execKeySlotWrite a0 a1 a2 a3 a4 a5 a6) := by
  delta execKeySlotWrite
  exact KeptR.next (kept_odDone _ _ _ ha6 (kept_keyWrite _ _ _ _ _ _ _ ha6))

theorem kept_swDone {s0 : State} (a0 : State) (a1 : Switchover) (a2 : Nat) (ha0 : Kept s0 a0) : Kept s0 (State.swDone a0 a1 a2) := by
  delta State.swDone
  extract_lets +onlyGivenNames -merge -useContext x0
  extract_lets +onlyGivenNames -merge -useContext x1
  have h1 : Kept s0 x1 := by unfold x1; exact Kept.upd ha0 rfl rfl rfl rfl rfl rfl rfl
  clear_value x1
  split
  · exact kept_adminDone _ _ _ _ _ h1
  · exact h1

theorem kept_swConfirm {s0 : State} (a0 : State) (a1 : Switchover) (ha0 : Kept s0 a0) : Kept s0 (State.swConfirm a0 a1) := by
  delta State.swConfirm
  extract_lets +onlyGivenNames -merge -useContext x0
  have h0 : Kept s0 x0 := by unfold x0; exact kept_writeSel _ _ ha0
  clear_value x0
  exact kept_swDone _ _ _ (kept_wb _ _ _ _ _ (kept_wf _ _ _ _ _ (kept_wf _ _ _ _ _ h0)))

theorem kept_secConfirm {s0 : State} (a0 : State) (a1 : Nat) (ha0 : Kept s0 a0) : Kept s0 (State.secConfirm a0 a1) := by
  delta State.secConfirm
  refine Kept.ite ?_ ?_
  · exact ha0
  · split
    · exact Kept.ite (kept_swConfirm _ _ ha0) ha0
    · exact Kept.ite (kept_wb _ _ _ _ _ (kept_writeSel _ _ ha0)) ha0

theorem kept_execSecConfirm {s0 : State} (a0 : Fin 8) (a1 : State) (ha1 : Kept s0 a1) : KeptR s0 (execSecConfirm a0 a1) := by
  delta execSecConfirm
  exact KeptR.next (kept_secConfirm _ _ ha1)

theorem kept_svnCommit {s0 : State} (a0 : State) (a1 : Nat) (ha0 : Kept s0 a0) : Kept s0 (State.svnCommit a0 a1) := by
  delta State.svnCommit
  refine Kept.ite ha0 (Kept.ite ha0 ?_)
  exact ⟨ha0.pending, ha0.part, Nat.le_trans ha0.minSvn (Nat.le_max_left _ _), ha0.revoke0, ha0.mem, ha0.regs⟩

theorem kept_execSvnCommit {s0 : State} (a0 : Fin 8) (a1 : State) (ha1 : Kept s0 a1) : KeptR s0 (execSvnCommit a0 a1) := by
  delta execSvnCommit
  exact KeptR.next (kept_svnCommit _ _ ha1)

theorem kept_reqRecovery {s0 : State} (a0 : State) (ha0 : Kept s0 a0) : Kept s0 (State.reqRecovery a0) := by
  delta State.reqRecovery
  exact kept_writeSel _ _ ha0

theorem kept_reqTest {s0 : State} (a0 : State) (ha0 : Kept s0 a0) : Kept s0 (State.reqTest a0) := by
  delta State.reqTest
  exact kept_writeSel _ _ ha0

theorem kept_execSecRecovery {s0 : State} (a0 : Fin 8) (a1 : State) (ha1 : Kept s0 a1) : KeptR s0 (execSecRecovery a0 a1) := by
  delta execSecRecovery
  exact KeptR.next (Kept.ite (kept_reqRecovery _ ha1) ha1)

theorem kept_execSecTest {s0 : State} (a0 : Fin 8) (a1 : State) (ha1 : Kept s0 a1) : KeptR s0 (execSecTest a0 a1) := by
  delta execSecTest
  exact KeptR.next (Kept.ite (kept_reqTest _ ha1) ha1)

theorem kept_modeReq {s0 : State} (a0 : State) (a1 : Nat) (ha0 : Kept s0 a0) : Kept s0 (State.modeReq a0 a1) := by
  delta State.modeReq
  exact Kept.ite (kept_reqTest _ ha0) (Kept.ite (kept_reqRecovery _ ha0) ha0)

theorem kept_odCommand {s0 : State} (a0 : State) (a1 : Nat) (a2 : Nat) (a3 : Nat) (a4 : Nat) (a5 : State → State) (ha0 : Kept s0 a0) (ha5 : ∀ z0, (Kept s0 z0) → Kept s0 (a5 z0)) : Kept s0 (State.odCommand a0 a1 a2 a3 a4 a5).1 := by
  delta State.odCommand
  extract_lets +onlyGivenNames -merge -useContext x0
  try clear_value x0
  refine Kept.ite1 ?_ ?_
  · exact Kept.mk1 ha0
  · refine Kept.mk1 ?_
    apply ha5
    · exact ha0

theorem kept_execModeReq {s0 : State} (a0 : Fin 16) (a1 : BitVec 8) (a2 : State) (ha2 : Kept s0 a2) : KeptR s0 (execModeReq a0 a1 a2) := by
  delta execModeReq
  refine KeptR.next ?_
  with_reducible apply kept_odDone
  · exact ha2
  · with_reducible apply kept_odCommand
    · exact ha2
    · intro y0 hy0
      exact kept_modeReq _ _ hy0

theorem kept_fwPart {s0 : State} (a0 : State) (a1 : FwSource) (a2 : Nat) (a3 : Nat) (ha0 : Kept s0 a0) : Kept s0 (State.fwPart a0 a1 a2 a3).1 := by
  delta State.fwPart
  split
  · exact Kept.ite1 (Kept.mk1 ha0) (Kept.ite1 (Kept.mk1 ha0) (Kept.mk1 (Kept.upd ha0 rfl rfl rfl rfl rfl rfl rfl)))
  · exact Kept.ite1 (Kept.mk1 ha0) (Kept.ite1 (Kept.mk1 ha0) (Kept.mk1 (Kept.upd ha0 rfl rfl rfl rfl rfl rfl rfl)))

theorem kept_fwChunk {s0 : State} (a0 : State) (a1 : Fin 16) (a2 : List Byte) (ha0 : Kept s0 a0) : Kept s0 (State.fwChunk a0 a1 a2).1 := by
  delta State.fwChunk
  extract_lets +onlyGivenNames -merge -useContext x0
  try clear_value x0
  exact Kept.ite1 (Kept.mk1 ha0) (kept_fwPart _ _ _ _ ha0)

theorem kept_odHeld {s0 : State} (a0 : State) (a1 : Nat) (a2 : State × Nat) (ha0 : Kept s0 a0) (ha2 : Kept s0 a2.1) : Kept s0 (State.odHeld a0 a1 a2) := by
  delta State.odHeld
  exact Kept.ite ha0 (kept_odDone _ _ _ ha0 ha2)

theorem kept_execFwChunk {s0 : State} (a0 : Fin 16) (a1 : List Byte) (a2 : State) (ha2 : Kept s0 a2) : KeptR s0 (execFwChunk a0 a1 a2) := by
  delta execFwChunk
  exact KeptR.next (kept_odHeld _ _ _ ha2 (kept_fwChunk _ _ _ ha2))

theorem kept_execDownloadIdleTimeout {s0 : State} (a0 : State) (ha0 : Kept s0 a0) : KeptR s0 (execDownloadIdleTimeout a0) := by
  delta execDownloadIdleTimeout
  exact KeptR.next (Kept.upd ha0 rfl rfl rfl rfl rfl rfl rfl)

theorem kept_putImage {s0 : State} (a0 : State) (a1 : Nat) (a2 : ImageInfo) (ha0 : Kept s0 a0) : Kept s0 (State.putImage a0 a1 a2) := by
  delta State.putImage
  extract_lets +onlyGivenNames -merge -useContext x0
  extract_lets +onlyGivenNames -merge -useContext x1
  extract_lets +onlyGivenNames -merge -useContext x2
  have h2 : Kept s0 x2 := by unfold x2; exact Kept.ite (Kept.upd ha0 rfl rfl rfl rfl rfl rfl rfl) (Kept.upd ha0 rfl rfl rfl rfl rfl rfl rfl)
  clear_value x2
  exact Kept.ite (kept_writeSel _ _ h2) h2

theorem kept_setPending {s0 : State} (a0 : State) (a1 : Nat) (ha0 : Kept s0 a0) : Kept s0 (State.setPending a0 a1) := by
  delta State.setPending
  exact kept_writeSel _ _ ha0

theorem kept_fwCommit {s0 : State} (a0 : State) (a1 : FwSource) (a2 : Nat) (a3 : Nat) (a4 : Nat) (a5 : ImageInfo) (ha0 : Kept s0 a0) : Kept s0 (State.fwCommit a0 a1 a2 a3 a4 a5).1 := by
  delta State.fwCommit
  extract_lets +onlyGivenNames -merge -useContext x0
  try clear_value x0
  extract_lets +onlyGivenNames -merge -useContext x1
  extract_lets +onlyGivenNames -merge -useContext x2
  have h2 : Kept s0 x2 := by unfold x2; exact Kept.ite (Kept.upd ha0 rfl rfl rfl rfl rfl rfl rfl) ha0
  clear_value x2
  extract_lets +onlyGivenNames -merge -useContext x3
  try clear_value x3
  extract_lets +onlyGivenNames -merge -useContext x4
  have h4 : Kept s0 x4 := by unfold x4; exact kept_wf _ _ _ _ _ h2
  clear_value x4
  refine Kept.ite1 ?_ ?_
  · exact Kept.mk1 h4
  · extract_lets +onlyGivenNames -merge -useContext x5
    have h5 : Kept s0 x5 := by unfold x5; exact Kept.ite h4 (kept_putImage _ _ _ h4)
    clear_value x5
    extract_lets +onlyGivenNames -merge -useContext x6
    have h6 : Kept s0 x6 := by unfold x6; exact Kept.ite (kept_setPending _ _ h5) h5
    clear_value x6
    refine Kept.mk1 ?_
    refine Kept.ite ?_ ?_
    · extract_lets +onlyGivenNames -merge -useContext x7
      have h7 : Kept s0 x7 := by unfold x7; exact kept_wf _ _ _ _ _ h6
      clear_value x7
      exact Kept.upd h7 rfl rfl rfl rfl rfl rfl rfl
    · exact h6

theorem kept_fwCmd {s0 : State} (a0 : State) (a1 : Fin 16) (a2 : Nat) (a3 : ImageInfo) (ha0 : Kept s0 a0) : Kept s0 (State.fwCmd a0 a1 a2 a3).1 := by
  delta State.fwCmd
  extract_lets +onlyGivenNames -merge -useContext x0
  try clear_value x0
  exact Kept.ite1 (Kept.mk1 ha0) (Kept.ite1 (Kept.mk1 ha0) (Kept.mk1 (kept_fwCommit _ _ _ _ _ _ ha0)))

theorem kept_execFwWrite {s0 : State} (a0 : Fin 16) (a1 : ImageInfo) (a2 : State) (ha2 : Kept s0 a2) : KeptR s0 (execFwWrite a0 a1 a2) := by
  delta execFwWrite
  exact KeptR.next (kept_odHeld _ _ _ ha2 (kept_fwCmd _ _ _ _ ha2))

theorem kept_execFwWriteAtReset {s0 : State} (a0 : Fin 16) (a1 : ImageInfo) (a2 : State) (ha2 : Kept s0 a2) : KeptR s0 (execFwWriteAtReset a0 a1 a2) := by
  delta execFwWriteAtReset
  exact KeptR.next (kept_odHeld _ _ _ ha2 (kept_fwCmd _ _ _ _ ha2))

theorem kept_execFwActivateAtReset {s0 : State} (a0 : Fin 16) (a1 : State) (ha1 : Kept s0 a1) : KeptR s0 (execFwActivateAtReset a0 a1) := by
  delta execFwActivateAtReset
  exact KeptR.next (kept_odHeld _ _ _ ha1 (kept_fwCmd _ _ _ _ ha1))

theorem kept_execFwWriteNow {s0 : State} (a0 : Fin 16) (a1 : ImageInfo) (a2 : State) (ha2 : Kept s0 a2) : KeptR s0 (execFwWriteNow a0 a1 a2) := by
  delta execFwWriteNow
  exact KeptR.next (kept_odHeld _ _ _ ha2 (kept_fwCmd _ _ _ _ ha2))

theorem kept_execFirmwareDownload {s0 : State} (a0 : Fin 2) (a1 : BitVec 16) (a2 : BitVec 32) (a3 : List Byte) (a4 : State) (ha4 : Kept s0 a4) : KeptR s0 (execFirmwareDownload a0 a1 a2 a3 a4) := by
  delta execFirmwareDownload
  refine KeptR.next ?_
  with_reducible apply kept_adminRun
  · exact ha4
  · intro y0 hy0
    extract_lets +onlyGivenNames -merge -useContext x1
    have h1 : Kept s0 x1.1 := by unfold x1; exact kept_fwPart _ _ _ _ hy0
    clear_value x1
    exact Kept.mk1 h1

theorem kept_nvCommit {s0 : State} (a0 : State) (a1 : Fin 2) (a2 : Nat) (a3 : Nat) (a4 : Nat) (a5 : ImageInfo) (ha0 : Kept s0 a0) : Kept s0 (State.nvCommit a0 a1 a2 a3 a4 a5).1 := by
  delta State.nvCommit
  refine Kept.ite1 ?_ ?_
  · exact kept_fail0 _ _ ha0
  · split
    · exact kept_fail0 _ _ ha0
    · refine Kept.ite1 ?_ ?_
      · exact kept_fail0 _ _ ha0
      · extract_lets +onlyGivenNames -merge -useContext x0
        have h0 : Kept s0 x0.1 := by unfold x0; exact kept_fwCommit _ _ _ _ _ _ ha0
        clear_value x0
        exact Kept.ite1 (kept_fail0 _ _ h0) (Kept.ite1 (kept_fail0 _ _ h0) (Kept.ite1 (Kept.mk1 h0) (kept_ok0 _ h0)))

theorem kept_execFirmwareCommit {s0 : State} (a0 : Fin 2) (a1 : BitVec 16) (a2 : BitVec 3) (a3 : BitVec 3) (a4 : ImageInfo) (a5 : State) (ha5 : Kept s0 a5) : KeptR s0 (execFirmwareCommit a0 a1 a2 a3 a4 a5) := by
  delta execFirmwareCommit
  refine KeptR.next ?_
  with_reducible apply kept_adminRun
  · exact ha5
  · intro y0 hy0
    exact kept_nvCommit _ _ _ _ _ _ hy0

theorem kept_swStep {s0 : State} (a0 : State) (ha0 : Kept s0 a0) : Kept s0 (State.swStep a0) := by
  delta State.swStep
  split
  · exact ha0
  · split
    · exact kept_swDone _ _ _ ha0
    · exact kept_wf _ _ _ _ _ (kept_wf _ _ _ _ _ ha0)
    · exact kept_wf _ _ _ _ _ ha0
    · exact kept_wf _ _ _ _ _ (kept_wf _ _ _ _ _ (kept_runSlot _ _ ha0))
    · exact kept_swConfirm _ _ ha0

theorem kept_execSwitchoverStepDone {s0 : State} (a0 : State) (ha0 : Kept s0 a0) : KeptR s0 (execSwitchoverStepDone a0) := by
  delta execSwitchoverStepDone
  exact KeptR.next (kept_swStep _ ha0)

theorem kept_swRevert {s0 : State} (a0 : State) (ha0 : Kept s0 a0) : Kept s0 (State.swRevert a0) := by
  delta State.swRevert
  split
  · exact ha0
  · exact Kept.ite (kept_report _ _ _ _ (kept_swDone _ _ _ (kept_wf _ _ _ _ _ (kept_wf _ _ _ _ _ (kept_runSlot _ _ ha0))))) ha0

theorem kept_execSwitchoverConfirmTimeout {s0 : State} (a0 : State) (ha0 : Kept s0 a0) : KeptR s0 (execSwitchoverConfirmTimeout a0) := by
  delta execSwitchoverConfirmTimeout
  exact KeptR.next (kept_swRevert _ ha0)

theorem kept_odStore {s0 : State} (a0 : State) (a1 : Nat) (a2 : Nat) (a3 : OdRow) (a4 : List Byte) (ha0 : Kept s0 a0) : Kept s0 (State.odStore a0 a1 a2 a3 a4) := by
  delta State.odStore
  extract_lets +onlyGivenNames -merge -useContext x0
  try clear_value x0
  refine Kept.ite ?_ ?_
  · exact kept_odPut _ _ _ _ ha0
  · extract_lets +onlyGivenNames -merge -useContext x1
    have h1 : Kept s0 x1 := by unfold x1; exact Kept.ite (kept_odKeep _ _ _ _ ha0) (kept_odPut _ _ _ _ ha0)
    clear_value x1
    exact Kept.ite (Kept.upd h1 rfl rfl rfl rfl rfl rfl rfl) h1

theorem kept_fmtPut {s0 : State} (a0 : State) (a1 : FmtRecord) (ha0 : Kept s0 a0) : Kept s0 (State.fmtPut a0 a1) := by
  delta State.fmtPut
  split
  · exact Kept.ite (kept_odStore _ _ _ _ _ ha0) ha0
  · exact ha0

theorem kept_fmtApply {s0 : State} (a0 : State) (a1 : Nat) (a2 : List FmtRecord) (a3 : BitVec 256) (ha0 : Kept s0 a0) : Kept s0 (State.fmtApply a0 a1 a2 a3).1 := by
  delta State.fmtApply
  refine Kept.ite1 ?_ ?_
  · exact Kept.mk1 (Kept.upd ha0 rfl rfl rfl rfl rfl rfl rfl)
  · refine Kept.ite1 ?_ ?_
    · exact Kept.mk1 (Kept.upd ha0 rfl rfl rfl rfl rfl rfl rfl)
    · refine Kept.mk1 ?_
      extract_lets +onlyGivenNames -merge -useContext x0
      have h0 : Kept s0 x0 := by
        unfold x0
        refine Kept.foldl ?_ ?_
        · exact ha0
        · intro y1 y2 hy1
          exact kept_fmtPut _ _ hy1
      clear_value x0
      exact Kept.upd h0 rfl rfl rfl rfl rfl rfl rfl

theorem kept_formatImage {s0 : State} (a0 : State) (a1 : Nat) (a2 : Nat) (a3 : List FmtRecord) (a4 : BitVec 256) (ha0 : Kept s0 a0) : Kept s0 (State.formatImage a0 a1 a2 a3 a4).1 := by
  delta State.formatImage
  extract_lets +onlyGivenNames -merge -useContext x0
  try clear_value x0
  extract_lets +onlyGivenNames -merge -useContext x1
  try clear_value x1
  exact Kept.ite1 (Kept.mk1 ha0) (Kept.ite1 (Kept.mk1 ha0) (kept_fmtApply _ _ _ _ ha0))

theorem kept_execFormatImage {s0 : State} (a0 : Fin 16) (a1 : Fin 7) (a2 : List FmtRecord) (a3 : BitVec 256) (a4 : State) (ha4 : Kept s0 a4) : KeptR s0 (execFormatImage a0 a1 a2 a3 a4) := by
  delta execFormatImage
  exact KeptR.next (kept_odHeld _ _ _ ha4 (kept_formatImage _ _ _ _ _ ha4))

theorem kept_quoteBytes {s0 : State} (a0 : State) (a1 : Nat) (ha0 : Kept s0 a0) : Kept s0 (State.quoteBytes a0 a1).1 := by
  delta State.quoteBytes
  extract_lets +onlyGivenNames -merge -useContext x0
  have h0 : Kept s0 x0.1 := by unfold x0; exact kept_freeBytes _ _ ha0
  clear_value x0
  extract_lets +onlyGivenNames -merge -useContext x1
  try clear_value x1
  extract_lets +onlyGivenNames -merge -useContext x2
  try clear_value x2
  extract_lets +onlyGivenNames -merge -useContext x3
  try clear_value x3
  extract_lets +onlyGivenNames -merge -useContext x4
  try clear_value x4
  exact Kept.mk1 h0

theorem kept_quoteRead {s0 : State} (a0 : State) (a1 : Nat) (ha0 : Kept s0 a0) : Kept s0 (State.quoteRead a0 a1).1 := by
  delta State.quoteRead
  extract_lets +onlyGivenNames -merge -useContext x0
  have h0 : Kept s0 x0.1 := by unfold x0; exact kept_quoteBytes _ _ ha0
  clear_value x0
  extract_lets +onlyGivenNames -merge -useContext x1
  have h1 : Kept s0 x1 := by unfold x1; exact h0
  clear_value x1
  exact Kept.mk1 (Kept.upd h1 rfl rfl rfl rfl rfl rfl rfl)

theorem kept_quote {s0 : State} (a0 : State) (a1 : Nat) (ha0 : Kept s0 a0) : Kept s0 (State.quote a0 a1) := by
  delta State.quote
  extract_lets +onlyGivenNames -merge -useContext x0
  try clear_value x0
  extract_lets +onlyGivenNames -merge -useContext x1
  try clear_value x1
  refine Kept.ite ?_ ?_
  · exact ha0
  · refine Kept.ite ?_ ?_
    · exact kept_odAnswer _ _ _ _ ha0
    · refine Kept.ite ?_ ?_
      · exact kept_odAnswer _ _ _ _ ha0
      · extract_lets +onlyGivenNames -merge -useContext x2
        have h2 : Kept s0 x2.1 := by unfold x2; exact kept_quoteRead _ _ ha0
        clear_value x2
        exact kept_odAnswer _ _ _ _ (kept_emit _ _ h2)

theorem kept_execQuote {s0 : State} (a0 : Fin 16) (a1 : State) (ha1 : Kept s0 a1) : KeptR s0 (execQuote a0 a1) := by
  delta execQuote
  exact KeptR.next (kept_quote _ _ ha1)

theorem kept_chanOut {s0 : State} (a0 : State) (a1 : Nat) (ha0 : Kept s0 a0) : Kept s0 (State.chanOut a0 a1) := by
  delta State.chanOut
  extract_lets +onlyGivenNames -merge -useContext x0
  try clear_value x0
  extract_lets +onlyGivenNames -merge -useContext x1
  have h1 : Kept s0 x1 := by
    unfold x1
    refine Kept.foldl ?_ ?_
    · exact kept_modCh _ _ _ ha0
    · intro y2 y3 hy2
      exact kept_requeue _ _ hy2
  clear_value x1
  exact kept_modLc _ _ _ h1

theorem kept_mtRetire {s0 : State} (a0 : State) (a1 : Nat) (ha0 : Kept s0 a0) : Kept s0 (State.mtRetire a0 a1) := by
  delta State.mtRetire
  extract_lets +onlyGivenNames -merge -useContext x0
  try clear_value x0
  extract_lets +onlyGivenNames -merge -useContext x1
  try clear_value x1
  extract_lets +onlyGivenNames -merge -useContext x2
  have h2 : ∀ y3, (Kept s0 y3) → Kept s0 (x2 y3) := by
    intro y3 hy3
    unfold x2
    exact kept_setMt _ _ _ _ hy3
  clear_value x2
  extract_lets +onlyGivenNames -merge -useContext x4
  have h4 : ∀ y5, Kept s0 (x4 y5) := by
    intro y5
    unfold x4
    exact kept_setMt _ _ _ _ ha0
  clear_value x4
  refine Kept.ite ?_ ?_
  · apply h4
  · split
    · refine Kept.ite ?_ ?_
      · apply h4
      · refine Kept.ite ?_ ?_
        · apply h4
        · refine Kept.ite ?_ ?_
          · apply h2
            · exact kept_chanOut _ _ ha0
          · exact kept_setMt _ _ _ _ (kept_modCh _ _ _ ha0)
    · refine Kept.ite ?_ ?_
      · apply h4
      · apply h2
        · exact kept_laneRetire _ _ ha0
    · refine Kept.ite ?_ ?_
      · apply h4
      · apply h2
        · exact kept_pcRetire _ _ ha0
    · refine Kept.ite ?_ ?_
      · apply h4
      · refine Kept.ite ?_ ?_
        · apply h4
        · apply h2
          · exact kept_modEn _ _ _ (kept_engineOut _ _ ha0)
    · refine Kept.ite ?_ ?_
      · apply h4
      · apply h2
        · exact kept_modHd _ _ _ ha0

theorem kept_mtCommand {s0 : State} (a0 : State) (a1 : Nat) (a2 : Nat) (a3 : State → State) (ha0 : Kept s0 a0) (ha3 : ∀ z0, (Kept s0 z0) → Kept s0 (a3 z0)) : Kept s0 (State.mtCommand a0 a1 a2 a3) := by
  delta State.mtCommand
  with_reducible apply kept_odHeld
  · exact ha0
  · with_reducible apply kept_odCommand
    · exact ha0
    · intro y0 hy0
      apply ha3
      · exact hy0

theorem kept_execMtRetire {s0 : State} (a0 : Fin 16) (a1 : State) (ha1 : Kept s0 a1) : KeptR s0 (execMtRetire a0 a1) := by
  delta execMtRetire
  refine KeptR.next ?_
  with_reducible apply kept_mtCommand
  · exact ha1
  · intro y0 hy0
    exact kept_mtRetire _ _ hy0

theorem kept_engineBack {s0 : State} (a0 : State) (a1 : Nat) (ha0 : Kept s0 a0) : Kept s0 (State.engineBack a0 a1) := by
  delta State.engineBack
  extract_lets +onlyGivenNames -merge -useContext x0
  have h0 : Kept s0 x0 := by unfold x0; exact kept_modEn _ _ _ ha0
  clear_value x0
  refine Kept.foldl ?_ ?_
  · exact h0
  · intro y1 y2 hy1
    extract_lets +onlyGivenNames -merge -useContext x3
    try clear_value x3
    extract_lets +onlyGivenNames -merge -useContext x4
    try clear_value x4
    extract_lets +onlyGivenNames -merge -useContext x5
    have h5 : Kept s0 x5 := by
      unfold x5
      refine Kept.foldl ?_ ?_
      · exact hy1
      · intro y6 y7 hy6
        exact kept_modEn _ _ _ hy6
    clear_value x5
    exact Kept.ite (kept_modEn _ _ _ h5) h5

theorem kept_mtRestore {s0 : State} (a0 : State) (a1 : Nat) (a2 : Bool) (ha0 : Kept s0 a0) : Kept s0 (State.mtRestore a0 a1 a2) := by
  delta State.mtRestore
  extract_lets +onlyGivenNames -merge -useContext x0
  try clear_value x0
  extract_lets +onlyGivenNames -merge -useContext x1
  try clear_value x1
  extract_lets +onlyGivenNames -merge -useContext x2
  have h2 : ∀ y3, (Kept s0 y3) → Kept s0 (x2 y3) := by
    intro y3 hy3
    unfold x2
    exact kept_setMt _ _ _ _ hy3
  clear_value x2
  extract_lets +onlyGivenNames -merge -useContext x4
  have h4 : ∀ y5 y6, (Kept s0 y5) → Kept s0 (x4 y5 y6) := by
    intro y5 y6 hy5
    unfold x4
    exact kept_setMt _ _ _ _ hy5
  clear_value x4
  refine Kept.ite ?_ ?_
  · apply h4
    · exact ha0
  · split
    · refine Kept.ite ?_ ?_
      · apply h4
        · exact ha0
      · refine Kept.ite ?_ ?_
        · apply h4
          · exact ha0
        · apply h2
          · exact kept_modCh _ _ _ (kept_sqRestart _ _ ha0)
    · refine Kept.ite ?_ ?_
      · apply h4
        · exact ha0
      · refine Kept.ite ?_ ?_
        · apply h4
          · exact ha0
        · refine Kept.ite ?_ ?_
          · apply h2
            · exact kept_laneTested _ _ _ (kept_laneRestore _ _ ha0)
          · apply h4
            · exact kept_laneTested _ _ _ (kept_laneRestore _ _ ha0)
    · apply h4
      · exact ha0
    · refine Kept.ite ?_ ?_
      · apply h4
        · exact ha0
      · refine Kept.ite ?_ ?_
        · apply h4
          · exact ha0
        · refine Kept.ite ?_ ?_
          · apply h2
            · exact kept_engineBack _ _ ha0
          · apply h4
            · exact ha0
    · refine Kept.ite ?_ ?_
      · apply h4
        · exact ha0
      · refine Kept.ite ?_ ?_
        · apply h2
          · exact kept_modHd _ _ _ ha0
        · apply h4
          · exact ha0

theorem kept_execMtRestore {s0 : State} (a0 : Fin 16) (a1 : Bool) (a2 : State) (ha2 : Kept s0 a2) : KeptR s0 (execMtRestore a0 a1 a2) := by
  delta execMtRestore
  refine KeptR.next ?_
  with_reducible apply kept_mtCommand
  · exact ha2
  · intro y0 hy0
    exact kept_mtRestore _ _ _ hy0

theorem kept_mtRecal {s0 : State} (a0 : State) (a1 : Nat) (ha0 : Kept s0 a0) : Kept s0 (State.mtRecal a0 a1) := by
  delta State.mtRecal
  extract_lets +onlyGivenNames -merge -useContext x0
  try clear_value x0
  extract_lets +onlyGivenNames -merge -useContext x1
  try clear_value x1
  extract_lets +onlyGivenNames -merge -useContext x2
  try clear_value x2
  refine Kept.ite ?_ ?_
  · exact kept_setMt _ _ _ _ ha0
  · refine Kept.ite ?_ ?_
    · exact kept_setMt _ _ _ _ ha0
    · refine Kept.ite ?_ ?_
      · exact kept_setMt _ _ _ _ ha0
      · extract_lets +onlyGivenNames -merge -useContext x3
        have h3 : Kept s0 x3 := by unfold x3; exact kept_setMt _ _ _ _ ha0
        clear_value x3
        exact Kept.upd h3 rfl rfl rfl rfl rfl rfl rfl

theorem kept_execMtRecalibrate {s0 : State} (a0 : Fin 16) (a1 : State) (ha1 : Kept s0 a1) : KeptR s0 (execMtRecalibrate a0 a1) := by
  delta execMtRecalibrate
  refine KeptR.next ?_
  with_reducible apply kept_mtCommand
  · exact ha1
  · intro y0 hy0
    exact kept_mtRecal _ _ hy0

theorem kept_recalVisit {s0 : State} (a0 : State) (a1 : Nat) (a2 : Nat) (a3 : Bool) (ha0 : Kept s0 a0) : Kept s0 (State.recalVisit a0 a1 a2 a3) := by
  delta State.recalVisit
  split
  · exact ha0
  · extract_lets +onlyGivenNames -merge -useContext x0
    try clear_value x0
    refine Kept.ite ?_ ?_
    · exact ha0
    · refine Kept.ite ?_ ?_
      · exact Kept.ite (kept_seekReq _ _ _ _ _ ha0) ha0
      · split
        · extract_lets +onlyGivenNames -merge -useContext x1
          extract_lets +onlyGivenNames -merge -useContext x2
          have h2 : Kept s0 x2 := by unfold x2; exact Kept.upd ha0 rfl rfl rfl rfl rfl rfl rfl
          clear_value x2
          exact kept_calStart _ _ (kept_wf _ _ _ _ _ h2)
        · split
          · extract_lets +onlyGivenNames -merge -useContext x3
            extract_lets +onlyGivenNames -merge -useContext x4
            have h4 : Kept s0 x4 := by unfold x4; exact Kept.upd ha0 rfl rfl rfl rfl rfl rfl rfl
            clear_value x4
            exact kept_slotMap _ _ _ _ h4
          · exact ha0

theorem kept_execRecalGroupVisit {s0 : State} (a0 : Fin 4) (a1 : Fin 8) (a2 : Bool) (a3 : State) (ha3 : Kept s0 a3) : KeptR s0 (execRecalGroupVisit a0 a1 a2 a3) := by
  delta execRecalGroupVisit
  exact KeptR.next (kept_recalVisit _ _ _ _ ha3)

theorem kept_channelRemap {s0 : State} (a0 : State) (a1 : Nat) (ha0 : Kept s0 a0) : Kept s0 (State.channelRemap a0 a1) := by
  delta State.channelRemap
  extract_lets +onlyGivenNames -merge -useContext x0
  try clear_value x0
  extract_lets +onlyGivenNames -merge -useContext x1
  have h1 : Kept s0 x1 := by
    unfold x1
    split
    · exact Kept.ite (kept_setMt _ _ _ _ (kept_chanOut _ _ ha0)) ha0
    · exact ha0
  clear_value x1
  refine Kept.ite ?_ ?_
  · exact h1
  · extract_lets +onlyGivenNames -merge -useContext x2
    try clear_value x2
    extract_lets +onlyGivenNames -merge -useContext x3
    have h3 : Kept s0 x3 := by unfold x3; exact kept_modLc _ _ _ h1
    clear_value x3
    refine Kept.ite ?_ ?_
    · exact h3
    · extract_lets +onlyGivenNames -merge -useContext x4
      have h4 : Kept s0 x4 := by unfold x4; exact kept_slotMap _ _ _ _ h3
      clear_value x4
      refine Kept.ite ?_ ?_
      · split
        · exact kept_plSlotCmd _ _ _ _ h4
        · exact h4
      · exact h4

theorem kept_execChannelRemap {s0 : State} (a0 : Fin 32) (a1 : State) (ha1 : Kept s0 a1) : KeptR s0 (execChannelRemap a0 a1) := by
  delta execChannelRemap
  exact KeptR.next (kept_channelRemap _ _ ha1)

end Sys2Proof.Machine
end

