-- ==== Sys2Proof/Laws/KeptReactions.lean ====
section
/-! SUPPORT. Laws/KeptReactions.lean: the operations of Machine/Reactions.lean answer states that have been kept (Safety.lean). -/

namespace Sys2Proof.Machine
open Sys2Proof

theorem kept_quiet {s0 : State} (a0 : State) (a1 : State → State) (ha0 : Kept s0 a0) (ha1 : ∀ z0, (Kept s0 z0) → Kept s0 (a1 z0)) : Kept s0 (State.quiet a0 a1) := by
  delta State.quiet
  extract_lets +onlyGivenNames -merge -useContext x0
  have h0 : Kept s0 x0 := by
    unfold x0
    apply ha1
    · exact ha0
  clear_value x0
  exact Kept.upd h0 rfl rfl rfl rfl rfl rfl rfl

theorem kept_sysAction {s0 : State} (a0 : State) (a1 : Nat) (a2 : Nat) (ha0 : Kept s0 a0) : Kept s0 (State.sysAction a0 a1 a2) := by
  delta State.sysAction
  refine Kept.ite ?_ ?_
  · refine Kept.ite ?_ ?_
    · exact kept_wb _ _ _ _ _ ha0
    · refine Kept.ite ?_ ?_
      · extract_lets +onlyGivenNames -merge -useContext x0
        have h0 : Kept s0 x0 := by unfold x0; exact kept_wbit _ _ _ _ _ _ ha0
        clear_value x0
        exact Kept.ite (kept_inhibitAll _ _ _ (kept_wbit _ _ _ _ _ _ h0)) h0
      · extract_lets +onlyGivenNames -merge -useContext x1
        have h1 : Kept s0 x1 := by unfold x1; exact kept_wbit _ _ _ _ _ _ ha0
        clear_value x1
        exact Kept.ite (kept_inhibitAll _ _ _ h1) h1
  · exact Kept.ite (kept_wb _ _ _ _ _ ha0) (Kept.ite (kept_cnt _ _ _ _ _ ha0) ha0)

theorem kept_hstAction {s0 : State} (a0 : State) (a1 : Nat) (a2 : Nat) (a3 : Nat) (ha0 : Kept s0 a0) : Kept s0 (State.hstAction a0 a1 a2 a3) := by
  delta State.hstAction
  exact Kept.ite (kept_freezeRing _ _ _ _ _ ha0) (Kept.ite (kept_freezeCr _ _ _ ha0) ha0)

theorem kept_datAction {s0 : State} (a0 : State) (a1 : Nat) (a2 : Nat) (a3 : Nat) (ha0 : Kept s0 a0) : Kept s0 (State.datAction a0 a1 a2 a3) := by
  delta State.datAction
  exact Kept.ite (Kept.ite (kept_pcDue _ _ _ ha0) ha0) (Kept.ite (kept_cnt _ _ _ _ _ (kept_cnt _ _ _ _ _ ha0)) (Kept.ite (kept_cnt _ _ _ _ _ (kept_cnt _ _ _ _ _ ha0)) (Kept.ite (kept_pailErr _ _ _ _ ha0) (Kept.ite (Kept.ite (kept_cnt _ _ _ _ _ ha0) (kept_cnt _ _ _ _ _ ha0)) (Kept.ite (Kept.ite (kept_cnt _ _ _ _ _ ha0) (Kept.ite (Kept.ite ha0 (kept_engineOut _ _ ha0)) (Kept.ite (Kept.upd ha0 rfl rfl rfl rfl rfl rfl rfl) ha0))) ha0)))))

theorem kept_motAction {s0 : State} (a0 : State) (a1 : Nat) (a2 : Nat) (a3 : Nat) (ha0 : Kept s0 a0) : Kept s0 (State.motAction a0 a1 a2 a3) := by
  delta State.motAction
  refine Kept.ite ?_ ?_
  · exact Kept.ite (kept_cnt _ _ _ _ _ ha0) (Kept.ite (kept_cnt _ _ _ _ _ ha0) ha0)
  · refine Kept.ite ?_ ?_
    · extract_lets +onlyGivenNames -merge -useContext x0
      try clear_value x0
      split
      · exact kept_modHd _ _ _ (kept_wbit _ _ _ _ _ _ ha0)
      · exact kept_startPark _ _ ha0
      · split
        · exact kept_offTrack _ _ ha0
        · exact ha0
      · exact kept_inhibits _ _ _ _ (kept_wf _ _ _ _ _ (kept_modSv _ _ _ ha0))
      · exact kept_retractRetire _ _ _ ha0
      · exact kept_retractRetire _ _ _ ha0
      · exact kept_modSv _ _ _ ha0
      · exact Kept.ite (kept_startPark _ _ ha0) ha0
    · refine Kept.ite ?_ ?_
      · exact Kept.ite (kept_shockOn _ _ ha0) (kept_inhibitAll _ _ _ ha0)
      · refine Kept.ite ?_ ?_
        · split
          · exact kept_spMode _ _ ha0
          · exact kept_spMode _ _ ha0
          · exact kept_obsLoss _ ha0
          · exact kept_retractAll _ ha0
          · exact kept_spProceed _ (kept_retractAll _ (kept_wb _ _ _ _ _ ha0))
          · exact kept_wb _ _ _ _ _ (kept_spMode _ _ ha0)
          · exact kept_powerLost _ ha0
          · exact kept_spMode _ _ ha0
          · exact ha0
        · exact ha0

theorem kept_medAction {s0 : State} (a0 : State) (a1 : Nat) (a2 : Nat) (a3 : Nat) (ha0 : Kept s0 a0) : Kept s0 (State.medAction a0 a1 a2 a3) := by
  delta State.medAction
  refine Kept.ite ?_ ?_
  · exact Kept.upd ha0 rfl rfl rfl rfl rfl rfl rfl
  · refine Kept.ite ?_ ?_
    · split
      · exact kept_cnt _ _ _ _ _ ha0
      · exact kept_sqHalt _ _ _ ha0
      · exact kept_sqHalt _ _ _ ha0
      · exact kept_cnt _ _ _ _ _ (kept_sqEntry _ _ (kept_sqDrop _ _ ha0))
      · exact kept_cnt _ _ _ _ _ ha0
      · exact kept_cnt _ _ _ _ _ ha0
      · exact kept_cnt _ _ _ _ _ ha0
      · exact kept_wbit _ _ _ _ _ _ ha0
      · exact kept_applyExcl _ _ (kept_modHd _ _ _ ha0)
      · exact kept_modHd _ _ _ ha0
      · exact kept_modHd _ _ _ ha0
      · exact ha0
    · refine Kept.ite ?_ ?_
      · extract_lets +onlyGivenNames -merge -useContext x0
        try clear_value x0
        split
        · exact kept_truLoss _ _ _ ha0
        · exact kept_modSv _ _ _ (kept_startPark _ _ (kept_modTr _ _ _ ha0))
        · split
          · exact kept_trimClose _ _ _ _ ha0
          · exact ha0
        · exact kept_modHd _ _ _ ha0
      · refine Kept.ite ?_ ?_
        · extract_lets +onlyGivenNames -merge -useContext x1
          try clear_value x1
          split
          · exact kept_cnt _ _ _ _ _ ha0
          · exact kept_laneFault _ _ _ _ ha0
          · exact kept_wb _ _ _ _ _ (kept_wbit _ _ _ _ _ _ ha0)
          · exact kept_laneFault _ _ _ _ ha0
        · refine Kept.ite ?_ ?_
          · extract_lets +onlyGivenNames -merge -useContext x2
            try clear_value x2
            split
            · exact kept_cnt _ _ _ _ _ ha0
            · exact kept_linkLoss _ _ ha0
            · exact kept_writerFault _ _ _ _ ha0
            · exact kept_writerFault _ _ _ _ ha0
            · exact kept_modHd _ _ _ ha0
            · exact kept_wbit _ _ _ _ _ _ ha0
            · exact kept_inhibits _ _ _ _ (kept_modPl _ _ _ ha0)
            · exact ha0
          · exact ha0

theorem kept_localAction {s0 : State} (a0 : State) (a1 : Nat) (a2 : Nat) (ha0 : Kept s0 a0) : Kept s0 (State.localAction a0 a1 a2) := by
  delta State.localAction
  with_reducible apply kept_quiet
  · exact ha0
  · intro y0 hy0
    split
    · exact kept_sysAction _ _ _ hy0
    · exact kept_hstAction _ _ _ _ hy0
    · exact kept_datAction _ _ _ _ hy0
    · exact kept_motAction _ _ _ _ hy0
    · exact kept_medAction _ _ _ _ hy0

theorem kept_execFaultReport {s0 : State} (a0 : BitVec 7) (a1 : BitVec 16) (a2 : BitVec 20) (a3 : BitVec 32) (a4 : State) (ha4 : Kept s0 a4) : KeptR s0 (execFaultReport a0 a1 a2 a3 a4) := by
  delta execFaultReport
  extract_lets +onlyGivenNames -merge -useContext x0
  try clear_value x0
  extract_lets +onlyGivenNames -merge -useContext x1
  have h1 : Kept s0 x1 := by unfold x1; exact Kept.ite (kept_localAction _ _ _ ha4) ha4
  clear_value x1
  exact KeptR.next (kept_reportBy _ _ _ _ _ _ _ _ h1)

theorem kept_fcForce {s0 : State} (a0 : State) (ha0 : Kept s0 a0) : Kept s0 (State.fcForce a0) := by
  delta State.fcForce
  refine Kept.ite ?_ ?_
  · exact ha0
  · extract_lets +onlyGivenNames -merge -useContext x0
    try clear_value x0
    extract_lets +onlyGivenNames -merge -useContext x1
    try clear_value x1
    exact Kept.ite (kept_wf _ _ _ _ _ (kept_reportBy _ _ _ _ _ _ _ _ (kept_localAction _ _ _ ha0))) (kept_wf _ _ _ _ _ ha0)

theorem kept_execFcForceGo {s0 : State} (a0 : State) (ha0 : Kept s0 a0) : KeptR s0 (execFcForceGo a0) := by
  delta execFcForceGo
  exact KeptR.next (kept_fcForce _ ha0)

theorem kept_restartSys {s0 : State} (a0 : State) (ha0 : Kept s0 a0) : Kept s0 (State.restartSys a0) := by
  delta State.restartSys
  extract_lets +onlyGivenNames -merge -useContext x0
  have h0 : Kept s0 x0 := by unfold x0; exact kept_swAbandon _ ha0
  clear_value x0
  exact Kept.upd h0 rfl rfl rfl rfl rfl rfl rfl

theorem kept_cmdInternal {s0 : State} (a0 : State) (a1 : Cmd) (ha0 : Kept s0 a0) : Kept s0 (State.cmdInternal a0 a1) := by
  delta State.cmdInternal
  extract_lets +onlyGivenNames -merge -useContext x0
  have h0 : Kept s0 x0 := by unfold x0; exact kept_abortCmd _ _ ha0
  clear_value x0
  exact kept_modCmd _ _ _ h0

theorem kept_restartHst {s0 : State} (a0 : State) (ha0 : Kept s0 a0) : Kept s0 (State.restartHst a0) := by
  delta State.restartHst
  extract_lets +onlyGivenNames -merge -useContext x0
  have h0 : Kept s0 x0 := by
    unfold x0
    refine Kept.foldl ?_ ?_
    · exact ha0
    · intro y1 y2 hy1
      exact kept_cmdInternal _ _ hy1
  clear_value x0
  extract_lets +onlyGivenNames -merge -useContext x3
  have h3 : Kept s0 x3 := by unfold x3; exact Kept.upd h0 rfl rfl rfl rfl rfl rfl rfl
  clear_value x3
  extract_lets +onlyGivenNames -merge -useContext x4
  try clear_value x4
  extract_lets +onlyGivenNames -merge -useContext x5
  have h5 : Kept s0 x5 := by unfold x5; exact Kept.upd h3 rfl rfl rfl rfl rfl rfl rfl
  clear_value x5
  exact Kept.upd h5 rfl rfl rfl rfl rfl rfl rfl

theorem kept_chanRequeue {s0 : State} (a0 : State) (a1 : Nat) (ha0 : Kept s0 a0) : Kept s0 (State.chanRequeue a0 a1) := by
  delta State.chanRequeue
  extract_lets +onlyGivenNames -merge -useContext x0
  have h0 : Kept s0 x0 := by unfold x0; exact kept_sqDrop _ _ ha0
  clear_value x0
  extract_lets +onlyGivenNames -merge -useContext x1
  try clear_value x1
  refine Kept.foldl ?_ ?_
  · exact kept_modCh _ _ _ h0
  · intro y2 y3 hy2
    exact kept_requeue _ _ hy2

theorem kept_restartDat {s0 : State} (a0 : State) (ha0 : Kept s0 a0) : Kept s0 (State.restartDat a0) := by
  delta State.restartDat
  extract_lets +onlyGivenNames -merge -useContext x0
  have h0 : Kept s0 x0 := by
    unfold x0
    refine Kept.foldl ?_ ?_
    · exact ha0
    · intro y1 y2 hy1
      exact kept_chanRequeue _ _ hy1
  clear_value x0
  extract_lets +onlyGivenNames -merge -useContext x3
  have h3 : Kept s0 x3 := by unfold x3; exact kept_wf _ _ _ _ _ (kept_cacheEmpty _ h0)
  clear_value x3
  extract_lets +onlyGivenNames -merge -useContext x4
  have h4 : Kept s0 x4 := by unfold x4; exact Kept.ite (kept_lapStart _ h3) h3
  clear_value x4
  extract_lets +onlyGivenNames -merge -useContext x5
  have h5 : Kept s0 x5 := by
    unfold x5
    refine Kept.foldl ?_ ?_
    · exact h4
    · intro y6 y7 hy6
      exact kept_modEn _ _ _ hy6
  clear_value x5
  extract_lets +onlyGivenNames -merge -useContext x8
  try clear_value x8
  extract_lets +onlyGivenNames -merge -useContext x9
  have h9 : Kept s0 x9 := by unfold x9; exact Kept.upd h5 rfl rfl rfl rfl rfl rfl rfl
  clear_value x9
  refine Kept.foldl ?_ ?_
  · exact h9
  · intro y10 y11 hy10
    exact Kept.ite hy10 (kept_chEnter _ _ (kept_chRestart _ _ hy10))

theorem kept_restartMot {s0 : State} (a0 : State) (ha0 : Kept s0 a0) : Kept s0 (State.restartMot a0) := by
  delta State.restartMot
  extract_lets +onlyGivenNames -merge -useContext x0
  have h0 : Kept s0 x0 := by unfold x0; exact Kept.ite (kept_modSpin _ _ (kept_spMode _ _ ha0)) ha0
  clear_value x0
  extract_lets +onlyGivenNames -merge -useContext x1
  have h1 : Kept s0 x1 := by unfold x1; exact Kept.upd h0 rfl rfl rfl rfl rfl rfl rfl
  clear_value x1
  extract_lets +onlyGivenNames -merge -useContext x2
  have h2 : Kept s0 x2 := by unfold x2; exact Kept.upd h1 rfl rfl rfl rfl rfl rfl rfl
  clear_value x2
  refine Kept.foldl ?_ ?_
  · exact kept_wf _ _ _ _ _ h2
  · intro y3 y4 hy3
    exact kept_wf _ _ _ _ _ (kept_wf _ _ _ _ _ hy3)

theorem kept_restartMotDone {s0 : State} (a0 : State) (ha0 : Kept s0 a0) : Kept s0 (State.restartMotDone a0) := by
  delta State.restartMotDone
  refine Kept.ite ?_ ?_
  · exact Kept.ite (kept_modSpin _ _ (kept_spMode _ _ ha0)) (kept_modSpin _ _ ha0)
  · refine Kept.foldl ?_ ?_
    · exact ha0
    · intro y0 y1 hy0
      exact kept_startLoad _ _ hy0

theorem kept_chanDiscard {s0 : State} (a0 : State) (a1 : Nat) (ha0 : Kept s0 a0) : Kept s0 (State.chanDiscard a0 a1) := by
  delta State.chanDiscard
  extract_lets +onlyGivenNames -merge -useContext x0
  try clear_value x0
  extract_lets +onlyGivenNames -merge -useContext x1
  have h1 : Kept s0 x1 := by unfold x1; exact kept_chanRequeue _ _ (kept_calFail _ _ _ ha0)
  clear_value x1
  extract_lets +onlyGivenNames -merge -useContext x2
  have h2 : Kept s0 x2 := by
    unfold x2
    refine Kept.foldl ?_ ?_
    · exact kept_modCh _ _ _ h1
    · intro y3 y4 hy3
      split
      · exact kept_requeue _ _ hy3
      · exact hy3
  clear_value x2
  extract_lets +onlyGivenNames -merge -useContext x5
  have h5 : Kept s0 x5 := by unfold x5; exact kept_modHf _ _ _ h2
  clear_value x5
  refine Kept.foldl ?_ ?_
  · exact h5
  · intro y6 y7 hy6
    extract_lets +onlyGivenNames -merge -useContext x8
    have h8 : Kept s0 x8 := by
      unfold x8
      split
      · exact Kept.ite (kept_attFree _ _ _ hy6) hy6
      · exact hy6
    clear_value x8
    exact kept_modLn _ _ _ h8

theorem kept_restartMed {s0 : State} (a0 : State) (ha0 : Kept s0 a0) : Kept s0 (State.restartMed a0) := by
  delta State.restartMed
  extract_lets +onlyGivenNames -merge -useContext x0
  try clear_value x0
  extract_lets +onlyGivenNames -merge -useContext x1
  have h1 : Kept s0 x1 := by
    unfold x1
    refine Kept.foldl ?_ ?_
    · exact ha0
    · intro y2 y3 hy2
      extract_lets +onlyGivenNames -merge -useContext x4
      have h4 : Kept s0 x4 := by
        unfold x4
        refine Kept.foldl ?_ ?_
        · exact hy2
        · intro y5 y6 hy5
          exact kept_chanDiscard _ _ hy5
      clear_value x4
      extract_lets +onlyGivenNames -merge -useContext x7
      have h7 : Kept s0 x7 := by unfold x7; exact kept_wf _ _ _ _ _ (kept_truOff _ _ h4)
      clear_value x7
      exact kept_modPl _ _ _ (kept_wb _ _ _ _ _ h7)
  clear_value x1
  extract_lets +onlyGivenNames -merge -useContext x8
  have h8 : Kept s0 x8 := by unfold x8; exact Kept.ite (kept_replayEnd _ _ h1) h1
  clear_value x8
  exact Kept.upd h8 rfl rfl rfl rfl rfl rfl rfl

theorem kept_restartMedDone {s0 : State} (a0 : State) (ha0 : Kept s0 a0) : Kept s0 (State.restartMedDone a0) := by
  delta State.restartMedDone
  extract_lets +onlyGivenNames -merge -useContext x0
  try clear_value x0
  extract_lets +onlyGivenNames -merge -useContext x1
  have h1 : Kept s0 x1 := by
    unfold x1
    refine Kept.foldl ?_ ?_
    · exact ha0
    · intro y2 y3 hy2
      exact Kept.ite (kept_plTrain _ _ hy2) hy2
  clear_value x1
  extract_lets +onlyGivenNames -merge -useContext x4
  have h4 : Kept s0 x4 := by unfold x4; exact kept_bootLoad _ _ (kept_useFree _ h1)
  clear_value x4
  refine Kept.foldl ?_ ?_
  · exact h4
  · intro y5 y6 hy5
    exact kept_startLoad _ _ hy5

theorem kept_execRegionRestart {s0 : State} (a0 : Fin 5) (a1 : State) (ha1 : Kept s0 a1) : KeptR s0 (execRegionRestart a0 a1) := by
  delta execRegionRestart
  refine KeptR.ite ?_ ?_
  · extract_lets +onlyGivenNames -merge -useContext x0
    have h0 : Kept s0 x0 := by unfold x0; exact kept_startFlush _ ha1
    clear_value x0
    extract_lets +onlyGivenNames -merge -useContext x1
    try clear_value x1
    extract_lets +onlyGivenNames -merge -useContext x2
    have h2 : Kept s0 x2 := by unfold x2; exact Kept.upd h0 rfl rfl rfl rfl rfl rfl rfl
    clear_value x2
    exact KeptR.next (Kept.ite (kept_restartSys _ h2) (Kept.ite (kept_restartHst _ h2) (Kept.ite (kept_restartDat _ h2) (Kept.ite (kept_restartMot _ h2) (kept_restartMed _ h2)))))
  · exact KeptR.next ha1

theorem kept_execRegionRestartDone {s0 : State} (a0 : Fin 5) (a1 : Nat) (a2 : State) (ha2 : Kept s0 a2) : KeptR s0 (execRegionRestartDone a0 a1 a2) := by
  delta execRegionRestartDone
  refine KeptR.ite ?_ ?_
  · extract_lets +onlyGivenNames -merge -useContext x0
    try clear_value x0
    extract_lets +onlyGivenNames -merge -useContext x1
    have h1 : Kept s0 x1 := by unfold x1; exact Kept.upd ha2 rfl rfl rfl rfl rfl rfl rfl
    clear_value x1
    extract_lets +onlyGivenNames -merge -useContext x2
    have h2 : Kept s0 x2 := by unfold x2; exact Kept.ite (kept_restartMotDone _ h1) (Kept.ite (kept_restartMedDone _ h1) h1)
    clear_value x2
    extract_lets +onlyGivenNames -merge -useContext x3
    have h3 : Kept s0 x3 := by unfold x3; exact Kept.ite (kept_inhibitAll _ _ _ h2) h2
    clear_value x3
    exact KeptR.next (Kept.ite (kept_endRecord _ _ h3) h3)
  · exact KeptR.next ha2

end Sys2Proof.Machine
end

