-- ==== Sys2Proof/Laws/KeptRegEffects.lean ====
section
/-! SUPPORT. Laws/KeptRegEffects.lean: the operations of Machine/RegEffects.lean answer states that have been kept (Safety.lean). -/

namespace Sys2Proof.Machine
open Sys2Proof

theorem kept_keepOld {s0 : State} (a0 : State) (a1 : State) (a2 : Fld) (a3 : Nat) (a4 : Nat) (ha0 : Kept s0 a0) (ha1 : Kept s0 a1) : Kept s0 (State.keepOld a0 a1 a2 a3 a4) := by
  delta State.keepOld
  exact kept_wf _ _ _ _ _ ha0

theorem kept_onBit {s0 : State} (a0 : State) (a1 : Nat) (a2 : Nat) (a3 : State → State) (ha0 : Kept s0 a0) (ha3 : ∀ z0, (Kept s0 z0) → Kept s0 (a3 z0)) : Kept s0 (State.onBit a0 a1 a2 a3) := by
  delta State.onBit
  refine Kept.ite ?_ ?_
  · apply ha3
    · exact ha0
  · exact ha0

theorem kept_sysOp {s0 : State} (a0 : State) (a1 : State) (a2 : Nat) (a3 : Nat) (a4 : Nat) (ha0 : Kept s0 a0) (ha1 : Kept s0 a1) : Kept s0 (State.sysOp a0 a1 a2 a3 a4) := by
  delta State.sysOp
  split
  · with_reducible apply kept_onBit
    · exact ha1
    · intro y0 hy0
      exact kept_pwrGo _ hy0
  · exact kept_wf _ _ _ _ _ ha1
  · exact kept_swReset _ _ ha1
  · exact kept_wdCtrl _ _ ha0
  · exact kept_wdKick _ _ ha1
  · with_reducible apply kept_onBit
    · exact ha1
    · intro y1 hy1
      exact kept_fcClear _ hy1
  · with_reducible apply kept_onBit
    · exact ha1
    · intro y2 hy2
      exact kept_fcForce _ hy2
  · with_reducible apply kept_onBit
    · with_reducible apply kept_onBit
      · with_reducible apply kept_onBit
        · with_reducible apply kept_onBit
          · exact ha1
          · intro y3 hy3
            exact kept_rcFreeze _ hy3
        · intro y4 hy4
          exact kept_endFreeze _ hy4
      · intro y5 hy5
        exact kept_rcFlush _ hy5
    · intro y6 hy6
      exact kept_rcClear _ hy6
  · with_reducible apply kept_onBit
    · exact ha1
    · intro y7 hy7
      exact kept_rcRead _ _ _ hy7
  · with_reducible apply kept_onBit
    · with_reducible apply kept_onBit
      · with_reducible apply kept_onBit
        · with_reducible apply kept_onBit
          · exact ha1
          · intro y8 hy8
            exact kept_secConfirm _ _ hy8
        · intro y9 hy9
          exact kept_svnCommit _ _ hy9
      · intro y10 hy10
        exact Kept.ite (kept_reqRecovery _ hy10) hy10
    · intro y11 hy11
      exact Kept.ite (kept_reqTest _ hy11) hy11
  · with_reducible apply kept_onBit
    · exact ha1
    · intro y12 hy12
      exact kept_mbxGo _ _ _ hy12
  · exact Kept.ite (kept_commitGo _ _ ha1) (Kept.ite (kept_discard _ ha1) ha1)
  · refine Kept.ite ?_ ?_
    · with_reducible apply kept_onBit
      · exact ha1
      · intro y13 hy13
        exact kept_modReread _ _ hy13
    · exact ha1

theorem kept_hstOp {s0 : State} (a0 : State) (a1 : Nat) (a2 : Nat) (ha0 : Kept s0 a0) : Kept s0 (State.hstOp a0 a1 a2) := by
  delta State.hstOp
  refine Kept.ite ?_ ?_
  · extract_lets +onlyGivenNames -merge -useContext x0
    try clear_value x0
    split
    · exact kept_wf _ _ _ _ _ ha0
    · with_reducible apply kept_onBit
      · with_reducible apply kept_onBit
        · with_reducible apply kept_onBit
          · with_reducible apply kept_onBit
            · with_reducible apply kept_onBit
              · exact ha0
              · intro y1 hy1
                exact kept_rqCreate _ _ hy1
            · intro y2 hy2
              exact kept_rqDelete _ _ hy2
          · intro y3 hy3
            exact kept_rqRestart _ _ _ (kept_freeBytes _ _ hy3)
        · intro y4 hy4
          exact kept_rqFreeze _ _ hy4
      · intro y5 hy5
        exact kept_rqUpdate _ _ hy5
    · exact ha0
  · exact ha0

theorem kept_datOp {s0 : State} (a0 : State) (a1 : State) (a2 : Nat) (a3 : Nat) (ha0 : Kept s0 a0) (ha1 : Kept s0 a1) : Kept s0 (State.datOp a0 a1 a2 a3) := by
  delta State.datOp
  extract_lets +onlyGivenNames -merge -useContext x0
  try clear_value x0
  refine Kept.ite ?_ ?_
  · refine Kept.ite ?_ ?_
    · with_reducible apply kept_onBit
      · exact ha1
      · intro y1 hy1
        exact kept_pcRetire _ _ hy1
    · exact ha1
  · refine Kept.ite ?_ ?_
    · with_reducible apply kept_onBit
      · exact ha1
      · intro y2 hy2
        exact kept_flipArm _ hy2
    · refine Kept.ite ?_ ?_
      · with_reducible apply kept_onBit
        · exact kept_skimEnable _ _ (kept_keepOld _ _ _ _ _ ha1 ha0)
        · intro y3 hy3
          exact kept_skimRestart _ hy3
      · refine Kept.ite ?_ ?_
        · refine Kept.ite ?_ ?_
          · with_reducible apply kept_onBit
            · exact ha1
            · intro y4 hy4
              exact kept_pailMinClr _ _ hy4
          · exact ha1
        · refine Kept.ite ?_ ?_
          · exact kept_mcEnable _ _ ha1
          · refine Kept.ite ?_ ?_
            · with_reducible apply kept_onBit
              · exact ha1
              · intro y5 hy5
                exact kept_mcInvGo _ hy5
            · refine Kept.ite ?_ ?_
              · extract_lets +onlyGivenNames -merge -useContext x6
                try clear_value x6
                extract_lets +onlyGivenNames -merge -useContext x7
                try clear_value x7
                refine Kept.ite ?_ ?_
                · extract_lets +onlyGivenNames -merge -useContext x8
                  have h8 : Kept s0 x8 := by unfold x8; exact kept_keepOld _ _ _ _ _ ha1 ha0
                  clear_value x8
                  extract_lets +onlyGivenNames -merge -useContext x9
                  have h9 : Kept s0 x9 := by unfold x9; exact Kept.ite (kept_keepOld _ _ _ _ _ h8 ha0) h8
                  clear_value x9
                  exact kept_mcLock _ _ _ h9
                · extract_lets +onlyGivenNames -merge -useContext x10
                  have h10 : Kept s0 x10 := by unfold x10; exact Kept.ite (kept_keepOld _ _ _ _ _ ha1 ha0) ha1
                  clear_value x10
                  with_reducible apply kept_onBit
                  · exact h10
                  · intro y11 hy11
                    exact kept_mcPreload _ _ hy11
              · refine Kept.ite ?_ ?_
                · refine Kept.ite ?_ ?_
                  · with_reducible apply kept_onBit
                    · exact ha1
                    · intro y12 hy12
                      exact kept_deAbort _ _ hy12
                  · refine Kept.ite ?_ ?_
                    · extract_lets +onlyGivenNames -merge -useContext x13
                      try clear_value x13
                      split
                      · exact kept_chEnable _ _ _ _ ha1
                      · exact kept_dqDoorbell _ _ _ _ ha1
                      · exact kept_cqHeadWrite _ _ _ _ ha1
                      · exact ha1
                    · exact ha1
                · exact ha1

theorem kept_motOp {s0 : State} (a0 : State) (a1 : Nat) (a2 : Nat) (ha0 : Kept s0 a0) : Kept s0 (State.motOp a0 a1 a2) := by
  delta State.motOp
  extract_lets +onlyGivenNames -merge -useContext x0
  try clear_value x0
  refine Kept.ite ?_ ?_
  · refine Kept.ite ?_ ?_
    · with_reducible apply kept_onBit
      · exact ha0
      · intro y1 hy1
        exact kept_wf _ _ _ _ _ hy1
    · exact ha0
  · refine Kept.ite ?_ ?_
    · refine Kept.foldl ?_ ?_
      · exact ha0
      · intro y2 y3 hy2
        with_reducible apply kept_onBit
        · exact hy2
        · intro y4 hy4
          exact kept_pgStop _ _ hy4
    · refine Kept.ite ?_ ?_
      · refine Kept.ite ?_ ?_
        · with_reducible apply kept_onBit
          · with_reducible apply kept_onBit
            · with_reducible apply kept_onBit
              · exact ha0
              · intro y5 hy5
                exact kept_vcLoad _ _ hy5
            · intro y6 hy6
              exact kept_startPark _ _ hy6
          · intro y7 hy7
            exact kept_startRetract _ _ hy7
        · exact Kept.ite (kept_vcTarget _ _ _ ha0) ha0
      · refine Kept.ite ?_ ?_
        · with_reducible apply kept_onBit
          · with_reducible apply kept_onBit
            · with_reducible apply kept_onBit
              · with_reducible apply kept_onBit
                · exact ha0
                · intro y8 hy8
                  exact kept_spStart _ hy8
              · intro y9 hy9
                exact kept_spStop _ hy9
            · intro y10 hy10
              exact kept_spCoast _ hy10
          · intro y11 hy11
            exact kept_spReset _ _ hy11
        · exact ha0

theorem kept_chanOp {s0 : State} (a0 : State) (a1 : State) (a2 : Nat) (a3 : Nat) (a4 : Nat) (ha0 : Kept s0 a0) (ha1 : Kept s0 a1) : Kept s0 (State.chanOp a0 a1 a2 a3 a4) := by
  delta State.chanOp
  refine Kept.ite ?_ ?_
  · exact kept_feRegWrite _ _ _ _ ha0
  · split
    · with_reducible apply kept_onBit
      · with_reducible apply kept_onBit
        · exact ha1
        · intro y0 hy0
          exact kept_calStart _ _ hy0
      · intro y1 hy1
        exact kept_calFail _ _ _ hy1
    · exact kept_wrCtrl _ _ _ ha0
    · exact kept_wrPrecomp _ _ _ ha0
    · with_reducible apply kept_onBit
      · with_reducible apply kept_onBit
        · exact kept_sqRun _ _ _ (kept_keepOld _ _ _ _ _ ha1 ha0)
        · intro y2 hy2
          exact kept_sqSwap _ _ hy2
      · intro y3 hy3
        exact kept_sqRestart _ _ hy3
    · exact ha1

theorem kept_medOp {s0 : State} (a0 : State) (a1 : State) (a2 : Nat) (a3 : Nat) (ha0 : Kept s0 a0) (ha1 : Kept s0 a1) : Kept s0 (State.medOp a0 a1 a2 a3) := by
  delta State.medOp
  extract_lets +onlyGivenNames -merge -useContext x0
  try clear_value x0
  extract_lets +onlyGivenNames -merge -useContext x1
  try clear_value x1
  refine Kept.ite ?_ ?_
  · exact kept_chanOp _ _ _ _ _ ha0 ha1
  · refine Kept.ite ?_ ?_
    · extract_lets +onlyGivenNames -merge -useContext x2
      try clear_value x2
      refine Kept.ite ?_ ?_
      · with_reducible apply kept_onBit
        · with_reducible apply kept_onBit
          · exact ha1
          · intro y3 hy3
            exact kept_laneRetire _ _ hy3
        · intro y4 hy4
          exact kept_laneRestore _ _ hy4
      · exact ha1
    · refine Kept.ite ?_ ?_
      · refine Kept.ite ?_ ?_
        · with_reducible apply kept_onBit
          · exact kept_truCtrl _ _ _ _ ha1
          · intro y5 hy5
            exact kept_truReacq _ _ hy5
        · exact ha1
      · refine Kept.ite ?_ ?_
        · refine Kept.ite ?_ ?_
          · with_reducible apply kept_onBit
            · exact kept_plEnable _ _ _ (kept_keepOld _ _ _ _ _ ha1 ha0)
            · intro y6 hy6
              exact kept_plTrain _ _ hy6
          · exact ha1
        · refine Kept.ite ?_ ?_
          · with_reducible apply kept_onBit
            · exact ha1
            · intro y7 hy7
              exact kept_capNext _ hy7
          · refine Kept.ite ?_ ?_
            · with_reducible apply kept_onBit
              · with_reducible apply kept_onBit
                · exact ha1
                · intro y8 hy8
                  exact kept_replayStart _ hy8
              · intro y9 hy9
                exact kept_replayAbort _ hy9
            · exact ha1

theorem kept_regOp {s0 : State} (a0 : State) (a1 : State) (a2 : Nat) (a3 : Nat) (a4 : Nat) (ha0 : Kept s0 a0) (ha1 : Kept s0 a1) : Kept s0 (State.regOp a0 a1 a2 a3 a4) := by
  delta State.regOp
  split
  · exact kept_sysOp _ _ _ _ _ ha0 ha1
  · exact kept_hstOp _ _ _ ha1
  · exact kept_datOp _ _ _ _ ha0 ha1
  · exact kept_motOp _ _ _ ha1
  · exact kept_medOp _ _ _ _ ha0 ha1

theorem kept_regDo {s0 : State} (a0 : State) (a1 : Nat) (a2 : Nat) (a3 : Nat) (a4 : Nat) (ha0 : Kept s0 a0) : Kept s0 (State.regDo a0 a1 a2 a3 a4).st := by
  delta State.regDo
  extract_lets +onlyGivenNames -merge -useContext x0
  have h0 : Kept s0 x0.st := by unfold x0; exact kept_regWrite _ _ _ _ _ ha0
  clear_value x0
  split
  · exact h0
  · split
    · show Kept s0 _
      with_reducible apply kept_regOp
      · exact ha0
      · exact h0
    · show Kept s0 _
      exact kept_crDoorbell _ _ _ ha0
    · exact h0

end Sys2Proof.Machine
end

