-- ==== Sys2Proof/Laws/KeptDictionary.lean ====
section
/-! SUPPORT. Laws/KeptDictionary.lean: the operations of Machine/Dictionary.lean answer states that have been kept (Safety.lean). -/

namespace Sys2Proof.Machine
open Sys2Proof

theorem kept_freeBit {s0 : State} (a0 : State) (ha0 : Kept s0 a0) : Kept s0 (State.freeBit a0).1 := by
  delta State.freeBit
  exact Kept.mk1 (kept_useFree _ ha0)

theorem kept_freeImage {s0 : State} (a0 : State) (ha0 : Kept s0 a0) : Kept s0 (State.freeImage a0).1 := by
  delta State.freeImage
  extract_lets +onlyGivenNames -merge -useContext x0
  try clear_value x0
  extract_lets +onlyGivenNames -merge -useContext x1
  try clear_value x1
  extract_lets +onlyGivenNames -merge -useContext x2
  try clear_value x2
  exact Kept.mk1 (Kept.upd ha0 rfl rfl rfl rfl rfl rfl rfl)

theorem kept_formatWrite {s0 : State} (a0 : State) (a1 : Nat) (a2 : List Byte) (ha0 : Kept s0 a0) : Kept s0 (State.formatWrite a0 a1 a2).1 := by
  delta State.formatWrite
  extract_lets +onlyGivenNames -merge -useContext x0
  have h0 : Kept s0 x0.1 := by unfold x0; exact kept_freeBit _ ha0
  clear_value x0
  extract_lets +onlyGivenNames -merge -useContext x1
  have h1 : Kept s0 x1.1 := by unfold x1; exact kept_freeBytes _ _ h0
  clear_value x1
  exact kept_formatImage _ _ _ _ _ h1

theorem kept_odCommit {s0 : State} (a0 : State) (a1 : Nat) (a2 : Nat) (ha0 : Kept s0 a0) : Kept s0 (State.odCommit a0 a1 a2) := by
  delta State.odCommit
  exact Kept.ite (kept_commitGo _ _ (kept_wf _ _ _ _ _ ha0)) (Kept.ite (kept_discard _ ha0) ha0)

theorem kept_stageCmd {s0 : State} (a0 : State) (a1 : Nat) (ha0 : Kept s0 a0) : Kept s0 (State.stageCmd a0 a1) := by
  delta State.stageCmd
  extract_lets +onlyGivenNames -merge -useContext x0
  have h0 : Kept s0 x0.1 := by unfold x0; exact kept_freeBit _ ha0
  clear_value x0
  refine Kept.ite ?_ ?_
  · exact kept_stageSwap _ ha0
  · extract_lets +onlyGivenNames -merge -useContext x1
    have h1 : Kept s0 x1 := by unfold x1; exact kept_stageLoad _ _ h0
    clear_value x1
    exact Kept.ite (kept_stageSwap _ h1) h1

theorem kept_mtCmd {s0 : State} (a0 : State) (a1 : Nat) (a2 : Nat) (ha0 : Kept s0 a0) : Kept s0 (State.mtCmd a0 a1 a2) := by
  delta State.mtCmd
  split
  · exact kept_mtRetire _ _ ha0
  · exact kept_mtRestore _ _ _ (kept_freeBit _ ha0)
  · exact kept_mtRecal _ _ ha0

theorem kept_rcCmd {s0 : State} (a0 : State) (a1 : Nat) (ha0 : Kept s0 a0) : Kept s0 (State.rcCmd a0 a1) := by
  delta State.rcCmd
  split
  · exact kept_rcFreeze _ ha0
  · exact kept_endFreeze _ ha0
  · exact kept_rcClear _ ha0
  · exact kept_rcFlush _ ha0

theorem kept_odAct {s0 : State} (a0 : State) (a1 : Nat) (a2 : Nat) (a3 : Nat) (a4 : OdRow) (a5 : List Byte) (ha0 : Kept s0 a0) : Kept s0 (State.odAct a0 a1 a2 a3 a4 a5).1 := by
  delta State.odAct
  extract_lets +onlyGivenNames -merge -useContext x0
  try clear_value x0
  split
  · exact Kept.mk1 (kept_odCommit _ _ _ ha0)
  · exact Kept.mk1 (kept_pwrRequest _ _ ha0)
  · exact Kept.mk1 (kept_mtCmd _ _ _ ha0)
  · exact Kept.mk1 (Kept.upd ha0 rfl rfl rfl rfl rfl rfl rfl)
  · exact Kept.mk1 (kept_stageCmd _ _ ha0)
  · exact Kept.ite1 (Kept.mk1 ha0) (Kept.mk1 (kept_rcCmd _ _ ha0))
  · exact Kept.mk1 (kept_modeReq _ _ ha0)
  · exact Kept.mk1 (Kept.upd ha0 rfl rfl rfl rfl rfl rfl rfl)
  · exact kept_fwPart _ _ _ _ ha0
  · extract_lets +onlyGivenNames -merge -useContext x1
    try clear_value x1
    refine Kept.ite1 ?_ ?_
    · exact Kept.mk1 ha0
    · extract_lets +onlyGivenNames -merge -useContext x2
      have h2 : Kept s0 x2.1 := by unfold x2; exact kept_freeImage _ ha0
      clear_value x2
      exact Kept.mk1 (kept_fwCommit _ _ _ _ _ _ h2)
  · exact Kept.mk1 (Kept.ite (kept_recStart _ ha0) (Kept.ite (kept_recStop _ ha0) (kept_recClear _ ha0)))
  · exact Kept.mk1 (Kept.ite (kept_replayFrom _ ha0) (kept_replayHalt _ ha0))
  · refine Kept.ite1 ?_ ?_
    · exact Kept.mk1 (kept_setSrc _ _ _ _ _ ha0)
    · refine Kept.ite1 ?_ ?_
      · extract_lets +onlyGivenNames -merge -useContext x3
        try clear_value x3
        exact Kept.mk1 (Kept.ite (kept_odKeep _ _ _ _ ha0) (kept_odPut _ _ _ _ ha0))
      · exact Kept.ite1 (Kept.mk1 ha0) (Kept.mk1 (kept_odStore _ _ _ _ _ ha0))

theorem kept_keyBytesWrite {s0 : State} (a0 : State) (a1 : Nat) (a2 : Bool) (a3 : Nat) (a4 : List Byte) (ha0 : Kept s0 a0) : Kept s0 (State.keyBytesWrite a0 a1 a2 a3 a4).1 := by
  delta State.keyBytesWrite
  extract_lets +onlyGivenNames -merge -useContext x0
  try clear_value x0
  exact Kept.ite1 (Kept.mk1 ha0) (Kept.ite1 (Kept.mk1 ha0) (kept_keyPut _ _ _ _ _ _ (kept_freeBit _ ha0)))

theorem kept_odWrite {s0 : State} (a0 : State) (a1 : Nat) (a2 : Nat) (a3 : Nat) (a4 : List Byte) (ha0 : Kept s0 a0) : Kept s0 (State.odWrite a0 a1 a2 a3 a4).1 := by
  delta State.odWrite
  refine Kept.ite1 ?_ ?_
  · exact kept_keyBytesWrite _ _ _ _ _ ha0
  · refine Kept.ite1 ?_ ?_
    · exact kept_keyBytesWrite _ _ _ _ _ ha0
    · extract_lets +onlyGivenNames -merge -useContext x0
      try clear_value x0
      refine Kept.ite1 ?_ ?_
      · exact Kept.mk1 ha0
      · refine Kept.ite1 ?_ ?_
        · exact kept_formatWrite _ _ _ ha0
        · split
          · exact kept_odAct _ _ _ _ _ _ ha0
          · exact Kept.mk1 ha0

theorem kept_gwEnd {s0 : State} (a0 : State) (a1 : OdWho) (a2 : Nat) (a3 : Option Nat) (a4 : Answer18) (ha0 : Kept s0 a0) (ha4 : Kept s0 a4.st) : Kept s0 (State.gwEnd a0 a1 a2 a3 a4).1 := by
  delta State.gwEnd
  refine Kept.ite1 ?_ ?_
  · exact Kept.mk1 (Kept.upd ha0 rfl rfl rfl rfl rfl rfl rfl)
  · refine Kept.ite1 ?_ ?_
    · exact Kept.mk1 (kept_busError _ _ _ _ _ ha0)
    · refine Kept.mk1 ?_
      exact ha4

theorem kept_gwRead {s0 : State} (a0 : State) (a1 : Nat) (a2 : OdWho) (ha0 : Kept s0 a0) : Kept s0 (State.gwRead a0 a1 a2).1 := by
  delta State.gwRead
  extract_lets +onlyGivenNames -merge -useContext x0
  try clear_value x0
  exact kept_gwEnd _ _ _ _ _ ha0 (kept_regRead _ _ _ _ ha0)

theorem kept_gwWrite {s0 : State} (a0 : State) (a1 : Nat) (a2 : Nat) (a3 : OdWho) (ha0 : Kept s0 a0) : Kept s0 (State.gwWrite a0 a1 a2 a3).1 := by
  delta State.gwWrite
  extract_lets +onlyGivenNames -merge -useContext x0
  try clear_value x0
  exact kept_gwEnd _ _ _ _ _ ha0 (kept_regDo _ _ _ _ _ ha0)

theorem kept_odWriteReq {s0 : State} (a0 : State) (a1 : Nat) (a2 : Nat) (a3 : Nat) (a4 : List Byte) (a5 : OdWho) (ha0 : Kept s0 a0) : Kept s0 (State.odWriteReq a0 a1 a2 a3 a4 a5).1 := by
  delta State.odWriteReq
  refine Kept.ite1 ?_ ?_
  · extract_lets +onlyGivenNames -merge -useContext x0
    try clear_value x0
    exact Kept.ite1 (Kept.mk1 ha0) (kept_gwWrite _ _ _ _ ha0)
  · extract_lets +onlyGivenNames -merge -useContext x1
    have h1 : Kept s0 x1.1 := by unfold x1; exact kept_odWrite _ _ _ _ _ ha0
    clear_value x1
    exact Kept.mk1 h1

theorem kept_odReadReq {s0 : State} (a0 : State) (a1 : Nat) (a2 : Nat) (a3 : Nat) (a4 : Bool) (a5 : Bool) (a6 : OdWho) (ha0 : Kept s0 a0) : Kept s0 (State.odReadReq a0 a1 a2 a3 a4 a5 a6).1 := by
  delta State.odReadReq
  extract_lets +onlyGivenNames -merge -useContext x0
  try clear_value x0
  extract_lets +onlyGivenNames -merge -useContext x1
  try clear_value x1
  refine Kept.ite1 ?_ ?_
  · exact Kept.mk1 ha0
  · refine Kept.ite1 ?_ ?_
    · exact Kept.mk1 ha0
    · refine Kept.ite1 ?_ ?_
      · exact Kept.mk1 ha0
      · refine Kept.ite1 ?_ ?_
        · exact kept_gwRead _ _ _ ha0
        · refine Kept.ite1 ?_ ?_
          · extract_lets +onlyGivenNames -merge -useContext x2
            have h2 : Kept s0 x2.1 := by unfold x2; exact kept_quoteRead _ _ ha0
            clear_value x2
            exact Kept.mk1 h2
          · exact Kept.mk1 ha0

theorem kept_odRaw {s0 : State} (a0 : Nat) (a1 : State × Option (Nat × List Byte)) (ha1 : Kept s0 a1.1) : Kept s0 (State.odRaw a0 a1) := by
  delta State.odRaw
  split
  · exact kept_odAnswer _ _ _ _ ha1
  · exact ha1

theorem kept_execDictionaryWrite {s0 : State} (a0 : Fin 16) (a1 : BitVec 16) (a2 : BitVec 8) (a3 : List Byte) (a4 : State) (ha4 : Kept s0 a4) : KeptR s0 (execDictionaryWrite a0 a1 a2 a3 a4) := by
  delta execDictionaryWrite
  exact KeptR.next (Kept.ite (kept_odRaw _ _ (kept_odWriteReq _ _ _ _ _ _ ha4)) ha4)

theorem kept_execCommit {s0 : State} (a0 : Fin 16) (a1 : BitVec 8) (a2 : State) (ha2 : Kept s0 a2) : KeptR s0 (execCommit a0 a1 a2) := by
  delta execCommit
  refine KeptR.next ?_
  with_reducible apply kept_odDone
  · exact ha2
  · with_reducible apply kept_odCommand
    · exact ha2
    · intro y0 hy0
      exact kept_odCommit _ _ _ hy0

theorem kept_execPowerCmd {s0 : State} (a0 : Fin 16) (a1 : BitVec 8) (a2 : State) (ha2 : Kept s0 a2) : KeptR s0 (execPowerCmd a0 a1 a2) := by
  delta execPowerCmd
  refine KeptR.next ?_
  with_reducible apply kept_odDone
  · exact ha2
  · with_reducible apply kept_odCommand
    · exact ha2
    · intro y0 hy0
      exact kept_pwrRequest _ _ hy0

theorem kept_execRegisterGatewayData {s0 : State} (a0 : Fin 16) (a1 : Option Word) (a2 : State) (ha2 : Kept s0 a2) : KeptR s0 (execRegisterGatewayData a0 a1 a2) := by
  delta execRegisterGatewayData
  refine KeptR.next ?_
  refine Kept.ite ?_ ?_
  · with_reducible apply kept_odRaw
    · split
      · exact kept_odWriteReq _ _ _ _ _ _ ha2
      · exact kept_odReadReq _ _ _ _ _ _ _ ha2
  · exact ha2

theorem kept_asmDrop {s0 : State} (a0 : State) (a1 : Nat) (ha0 : Kept s0 a0) : Kept s0 (State.asmDrop a0 a1) := by
  delta State.asmDrop
  exact Kept.upd ha0 rfl rfl rfl rfl rfl rfl rfl

theorem kept_asmOpen {s0 : State} (a0 : State) (a1 : Asm) (ha0 : Kept s0 a0) : Kept s0 (State.asmOpen a0 a1).1 := by
  delta State.asmOpen
  extract_lets +onlyGivenNames -merge -useContext x0
  have h0 : Kept s0 x0 := by unfold x0; exact kept_asmDrop _ _ ha0
  clear_value x0
  split
  · exact Kept.mk1 h0
  · exact Kept.mk1 (Kept.upd h0 rfl rfl rfl rfl rfl rfl rfl)

theorem kept_hostReadFirst {s0 : State} (a0 : State) (a1 : Nat) (a2 : Nat) (a3 : Nat) (a4 : Nat) (a5 : Bool) (ha0 : Kept s0 a0) : Kept s0 (State.hostReadFirst a0 a1 a2 a3 a4 a5) := by
  delta State.hostReadFirst
  extract_lets +onlyGivenNames -merge -useContext x0
  have h0 : Kept s0 x0.1 := by unfold x0; exact kept_odReadReq _ _ _ _ _ _ _ ha0
  clear_value x0
  split
  · exact kept_wb _ _ _ _ _ h0
  · refine Kept.ite ?_ ?_
    · exact kept_hostDone _ _ _ _ h0
    · extract_lets +onlyGivenNames -merge -useContext x1
      have h1 : Kept s0 x1 := by unfold x1; exact kept_wf _ _ _ _ _ h0
      clear_value x1
      refine Kept.ite ?_ ?_
      · exact kept_hostDone _ _ _ _ h1
      · extract_lets +onlyGivenNames -merge -useContext x2
        have h2 : Kept s0 x2.1 := by unfold x2; exact kept_asmOpen _ _ h1
        clear_value x2
        exact kept_hostDone _ _ _ _ h2

theorem kept_hostReadNext {s0 : State} (a0 : State) (a1 : Nat) (a2 : Nat) (a3 : Nat) (a4 : Nat) (a5 : Nat) (ha0 : Kept s0 a0) : Kept s0 (State.hostReadNext a0 a1 a2 a3 a4 a5) := by
  delta State.hostReadNext
  split
  · exact kept_hostDone _ _ _ _ ha0
  · refine Kept.ite ?_ ?_
    · exact kept_hostDone _ _ _ _ (kept_asmDrop _ _ ha0)
    · extract_lets +onlyGivenNames -merge -useContext x0
      try clear_value x0
      extract_lets +onlyGivenNames -merge -useContext x1
      have h1 : Kept s0 x1 := by unfold x1; exact kept_wf _ _ _ _ _ ha0
      clear_value x1
      extract_lets +onlyGivenNames -merge -useContext x2
      have h2 : Kept s0 x2 := by unfold x2; exact Kept.ite (kept_asmDrop _ _ h1) (Kept.upd h1 rfl rfl rfl rfl rfl rfl rfl)
      clear_value x2
      exact kept_hostDone _ _ _ _ h2

theorem kept_hostWritten {s0 : State} (a0 : Nat) (a1 : State × Option (Nat × List Byte)) (ha1 : Kept s0 a1.1) : Kept s0 (State.hostWritten a0 a1) := by
  delta State.hostWritten
  split
  · exact kept_hostDone _ _ _ _ ha1
  · exact kept_wb _ _ _ _ _ ha1

theorem kept_hostWrite {s0 : State} (a0 : State) (a1 : Nat) (a2 : Nat) (a3 : Nat) (a4 : Nat) (a5 : Nat) (a6 : Bool) (a7 : Bool) (a8 : List Byte) (ha0 : Kept s0 a0) : Kept s0 (State.hostWrite a0 a1 a2 a3 a4 a5 a6 a7 a8) := by
  delta State.hostWrite
  refine Kept.ite ?_ ?_
  · refine Kept.ite ?_ ?_
    · exact kept_hostDone _ _ _ _ ha0
    · refine Kept.ite ?_ ?_
      · exact kept_hostWritten _ _ (kept_odWriteReq _ _ _ _ _ _ (kept_asmDrop _ _ ha0))
      · extract_lets +onlyGivenNames -merge -useContext x0
        try clear_value x0
        refine Kept.ite ?_ ?_
        · exact kept_hostDone _ _ _ _ ha0
        · extract_lets +onlyGivenNames -merge -useContext x1
          have h1 : Kept s0 x1.1 := by unfold x1; exact kept_asmOpen _ _ ha0
          clear_value x1
          exact kept_hostDone _ _ _ _ h1
  · split
    · exact kept_hostDone _ _ _ _ ha0
    · exact Kept.ite (kept_hostDone _ _ _ _ (kept_asmDrop _ _ ha0)) (Kept.ite (kept_hostDone _ _ _ _ (kept_asmDrop _ _ ha0)) (Kept.ite (kept_hostWritten _ _ (kept_odWriteReq _ _ _ _ _ _ (kept_asmDrop _ _ ha0))) (kept_hostDone _ _ _ _ (Kept.upd ha0 rfl rfl rfl rfl rfl rfl rfl))))

theorem kept_hostGo {s0 : State} (a0 : State) (a1 : Nat) (a2 : Nat) (ha0 : Kept s0 a0) : Kept s0 (State.hostGo a0 a1 a2) := by
  delta State.hostGo
  extract_lets +onlyGivenNames -merge -useContext x0
  try clear_value x0
  extract_lets +onlyGivenNames -merge -useContext x1
  try clear_value x1
  extract_lets +onlyGivenNames -merge -useContext x2
  try clear_value x2
  extract_lets +onlyGivenNames -merge -useContext x3
  try clear_value x3
  refine Kept.ite ?_ ?_
  · exact ha0
  · extract_lets +onlyGivenNames -merge -useContext x4
    have h4 : Kept s0 x4 := by unfold x4; exact kept_wb _ _ _ _ _ ha0
    clear_value x4
    split
    · exact Kept.ite (Kept.ite (kept_hostDone _ _ _ _ h4) (kept_hostReadFirst _ _ _ _ _ _ h4)) (kept_hostReadNext _ _ _ _ _ _ h4)
    · exact Kept.ite (kept_hostDone _ _ _ _ h4) (kept_hostWrite _ _ _ _ _ _ _ _ _ h4)
    · extract_lets +onlyGivenNames -merge -useContext x5
      have h5 : Kept s0 x5.1 := by unfold x5; exact kept_odReadReq _ _ _ _ _ _ _ h4
      clear_value x5
      split
      · exact kept_hostDone _ _ _ _ h5
      · exact h5
    · exact kept_hostDone _ _ _ _ h4

theorem kept_hostOp {s0 : State} (a0 : State) (a1 : Nat) (a2 : Nat) (ha0 : Kept s0 a0) : Kept s0 (State.hostOp a0 a1 a2) := by
  delta State.hostOp
  exact Kept.ite ha0 (kept_hostGo _ _ _ (kept_wf _ _ _ _ _ ha0))

theorem kept_execOdRead {s0 : State} (a0 : Fin 8) (a1 : State) (ha1 : Kept s0 a1) : KeptR s0 (execOdRead a0 a1) := by
  delta execOdRead
  exact KeptR.next (kept_hostOp _ _ _ ha1)

theorem kept_execOdWrite {s0 : State} (a0 : Fin 8) (a1 : State) (ha1 : Kept s0 a1) : KeptR s0 (execOdWrite a0 a1) := by
  delta execOdWrite
  exact KeptR.next (kept_hostOp _ _ _ ha1)

theorem kept_execOdInfo {s0 : State} (a0 : Fin 8) (a1 : State) (ha1 : Kept s0 a1) : KeptR s0 (execOdInfo a0 a1) := by
  delta execOdInfo
  exact KeptR.next (kept_hostOp _ _ _ ha1)

end Sys2Proof.Machine
end

