-- ==== Sys2Proof/Laws/KeptZalene.lean ====
section
/-! SUPPORT. Laws/KeptZalene.lean: the operations of Machine/Zalene.lean answer states that have been kept (Safety.lean). -/

namespace Sys2Proof.Machine
open Sys2Proof

theorem kept_zlSend0 {s0 : State} (a0 : State) (a1 : Nat) (a2 : Nat) (a3 : List Byte) (ha0 : Kept s0 a0) : Kept s0 (State.zlSend0 a0 a1 a2 a3) := by
  delta State.zlSend0
  exact kept_emit _ _ (kept_useFree _ ha0)

theorem kept_putSession {s0 : State} (a0 : State) (a1 : Nat) (a2 : Session) (ha0 : Kept s0 a0) : Kept s0 (State.putSession a0 a1 a2) := by
  delta State.putSession
  exact Kept.upd ha0 rfl rfl rfl rfl rfl rfl rfl

theorem kept_zlCount {s0 : State} (a0 : State) (a1 : Nat) (ha0 : Kept s0 a0) : Kept s0 (State.zlCount a0 a1) := by
  delta State.zlCount
  exact kept_odPut _ _ _ _ ha0

theorem kept_zlSeq {s0 : State} (a0 : State) (a1 : Nat) (a2 : Session) (a3 : Nat) (a4 : State → State) (ha0 : Kept s0 a0) (ha4 : ∀ z0, (Kept s0 z0) → Kept s0 (a4 z0)) : Kept s0 (State.zlSeq a0 a1 a2 a3 a4) := by
  delta State.zlSeq
  refine Kept.ite ?_ ?_
  · exact kept_zlCount _ _ ha0
  · refine Kept.ite ?_ ?_
    · split
      · exact kept_emit _ _ ha0
      · exact ha0
    · apply ha4
      · exact kept_putSession _ _ _ ha0

theorem kept_zlRequest {s0 : State} (a0 : State) (a1 : Nat) (a2 : Nat) (a3 : Nat) (a4 : State → Nat → State) (ha0 : Kept s0 a0) (ha4 : ∀ z0 z1, (Kept s0 z0) → Kept s0 (a4 z0 z1)) : Kept s0 (State.zlRequest a0 a1 a2 a3 a4) := by
  delta State.zlRequest
  refine Kept.ite ?_ ?_
  · exact ha0
  · refine Kept.ite ?_ ?_
    · exact kept_zlSend0 _ _ _ _ ha0
    · split
      · exact kept_zlSend0 _ _ _ _ ha0
      · with_reducible apply kept_zlSeq
        · exact ha0
        · intro y0 hy0
          apply ha4
          · exact hy0

theorem kept_execDiscover {s0 : State} (a0 : State) (ha0 : Kept s0 a0) : KeptR s0 (execDiscover a0) := by
  delta execDiscover
  exact KeptR.next (Kept.ite (Kept.upd ha0 rfl rfl rfl rfl rfl rfl rfl) ha0)

theorem kept_execAnnounce {s0 : State} (a0 : State) (ha0 : Kept s0 a0) : KeptR s0 (execAnnounce a0) := by
  delta execAnnounce
  exact KeptR.next (Kept.ite (kept_zlSend0 _ _ _ _ (Kept.upd ha0 rfl rfl rfl rfl rfl rfl rfl)) ha0)

theorem kept_zlReport {s0 : State} (a0 : State) (a1 : Nat) (a2 : Nat) (ha0 : Kept s0 a0) : Kept s0 (State.zlReport a0 a1 a2) := by
  delta State.zlReport
  exact kept_report _ _ _ _ ha0

theorem kept_neighbour {s0 : State} (a0 : State) (a1 : NdKind) (ha0 : Kept s0 a0) : Kept s0 (State.neighbour a0 a1) := by
  delta State.neighbour
  refine Kept.ite ?_ ?_
  · exact ha0
  · split
    · exact kept_emit _ _ ha0
    · exact kept_emit _ _ ha0
    · exact Kept.ite (Kept.upd ha0 rfl rfl rfl rfl rfl rfl rfl) (Kept.upd ha0 rfl rfl rfl rfl rfl rfl rfl)
    · exact kept_zlReport _ _ _ (Kept.ite (Kept.upd ha0 rfl rfl rfl rfl rfl rfl rfl) (Kept.upd ha0 rfl rfl rfl rfl rfl rfl rfl))

theorem kept_execNeighbourDiscovery {s0 : State} (a0 : NdKind) (a1 : State) (ha1 : Kept s0 a1) : KeptR s0 (execNeighbourDiscovery a0 a1) := by
  delta execNeighbourDiscovery
  exact KeptR.next (kept_neighbour _ _ ha1)

theorem kept_execDuplicateNode {s0 : State} (a0 : State) (ha0 : Kept s0 a0) : KeptR s0 (execDuplicateNode a0) := by
  delta execDuplicateNode
  exact KeptR.next (Kept.ite (kept_zlReport _ _ _ ha0) ha0)

theorem kept_sessionInit {s0 : State} (a0 : State) (a1 : Nat) (a2 : Nat) (a3 : Bool) (ha0 : Kept s0 a0) : Kept s0 (State.sessionInit a0 a1 a2 a3) := by
  delta State.sessionInit
  extract_lets +onlyGivenNames -merge -useContext x0
  try clear_value x0
  refine Kept.ite ?_ ?_
  · exact ha0
  · refine Kept.ite ?_ ?_
    · exact kept_zlSend0 _ _ _ _ ha0
    · refine Kept.ite ?_ ?_
      · exact kept_zlSend0 _ _ _ _ ha0
      · split
        · exact kept_zlSend0 _ _ _ _ ha0
        · extract_lets +onlyGivenNames -merge -useContext x1
          try clear_value x1
          extract_lets +onlyGivenNames -merge -useContext x2
          try clear_value x2
          extract_lets +onlyGivenNames -merge -useContext x3
          have h3 : Kept s0 x3 := by unfold x3; exact Kept.upd ha0 rfl rfl rfl rfl rfl rfl rfl
          clear_value x3
          extract_lets +onlyGivenNames -merge -useContext x4
          have h4 : Kept s0 x4.1 := by unfold x4; exact kept_freeBytes _ _ h3
          clear_value x4
          exact kept_zlSend0 _ _ _ _ h4

theorem kept_execSessionInit {s0 : State} (a0 : Fin 8) (a1 : BitVec 8) (a2 : Bool) (a3 : BitVec 128) (a4 : State) (ha4 : Kept s0 a4) : KeptR s0 (execSessionInit a0 a1 a2 a3 a4) := by
  delta execSessionInit
  exact KeptR.next (kept_sessionInit _ _ _ _ ha4)

theorem kept_sessionOpen {s0 : State} (a0 : State) (a1 : Nat) (a2 : Handshake) (ha0 : Kept s0 a0) : Kept s0 (State.sessionOpen a0 a1 a2) := by
  delta State.sessionOpen
  extract_lets +onlyGivenNames -merge -useContext x0
  try clear_value x0
  exact kept_zlPut _ _ _ _ _ (kept_putSession _ _ _ (kept_useFree _ ha0))

theorem kept_macFail {s0 : State} (a0 : State) (a1 : Nat) (a2 : Session) (ha0 : Kept s0 a0) : Kept s0 (State.macFail a0 a1 a2) := by
  delta State.macFail
  extract_lets +onlyGivenNames -merge -useContext x0
  try clear_value x0
  extract_lets +onlyGivenNames -merge -useContext x1
  try clear_value x1
  extract_lets +onlyGivenNames -merge -useContext x2
  have h2 : Kept s0 x2 := by unfold x2; exact kept_putSession _ _ _ (kept_zlCount _ _ ha0)
  clear_value x2
  exact Kept.ite (kept_zlReport _ _ _ (kept_sessionEnd _ _ h2)) h2

theorem kept_sessionProve {s0 : State} (a0 : State) (a1 : Nat) (a2 : Bool) (a3 : Bool) (ha0 : Kept s0 a0) : Kept s0 (State.sessionProve a0 a1 a2 a3) := by
  delta State.sessionProve
  refine Kept.ite ?_ ?_
  · exact ha0
  · split
    · extract_lets +onlyGivenNames -merge -useContext x0
      try clear_value x0
      extract_lets +onlyGivenNames -merge -useContext x1
      have h1 : Kept s0 x1 := by unfold x1; exact Kept.upd ha0 rfl rfl rfl rfl rfl rfl rfl
      clear_value x1
      refine Kept.ite ?_ ?_
      · exact kept_zlSend0 _ _ _ _ h1
      · split
        · exact kept_sessionOpen _ _ _ h1
        · exact kept_zlSend0 _ _ _ _ h1
    · split
      · refine Kept.ite ?_ ?_
        · with_reducible apply kept_zlSeq
          · exact ha0
          · intro y2 hy2
            exact hy2
        · exact kept_macFail _ _ _ ha0
      · exact kept_zlSend0 _ _ _ _ ha0

theorem kept_execSessionProve {s0 : State} (a0 : BitVec 16) (a1 : Bool) (a2 : Bool) (a3 : State) (ha3 : Kept s0 a3) : KeptR s0 (execSessionProve a0 a1 a2 a3) := by
  delta execSessionProve
  exact KeptR.next (kept_sessionProve _ _ _ _ ha3)

theorem kept_execHandshakeTimeout {s0 : State} (a0 : Fin 2) (a1 : State) (ha1 : Kept s0 a1) : KeptR s0 (execHandshakeTimeout a0 a1) := by
  delta execHandshakeTimeout
  exact KeptR.next (Kept.upd ha1 rfl rfl rfl rfl rfl rfl rfl)

theorem kept_sessionClose {s0 : State} (a0 : State) (a1 : Nat) (ha0 : Kept s0 a0) : Kept s0 (State.sessionClose a0 a1) := by
  delta State.sessionClose
  refine Kept.ite ?_ ?_
  · exact ha0
  · split
    · exact kept_zlSend0 _ _ _ _ ha0
    · exact kept_sessionEnd _ _ (kept_zlPut _ _ _ _ _ ha0)

theorem kept_execSessionClose {s0 : State} (a0 : BitVec 16) (a1 : State) (ha1 : Kept s0 a1) : KeptR s0 (execSessionClose a0 a1) := by
  delta execSessionClose
  exact KeptR.next (kept_sessionClose _ _ ha1)

theorem kept_execSessionIdleExpiry {s0 : State} (a0 : Fin 8) (a1 : State) (ha1 : Kept s0 a1) : KeptR s0 (execSessionIdleExpiry a0 a1) := by
  delta execSessionIdleExpiry
  exact KeptR.next (kept_sessionEnd _ _ ha1)

theorem kept_zlMacFail {s0 : State} (a0 : State) (a1 : Nat) (ha0 : Kept s0 a0) : Kept s0 (State.zlMacFail a0 a1) := by
  delta State.zlMacFail
  refine Kept.ite ?_ ?_
  · exact ha0
  · split
    · exact kept_zlSend0 _ _ _ _ ha0
    · exact kept_macFail _ _ _ ha0

theorem kept_execZaleneMacFail {s0 : State} (a0 : BitVec 16) (a1 : State) (ha1 : Kept s0 a1) : KeptR s0 (execZaleneMacFail a0 a1) := by
  delta execZaleneMacFail
  exact KeptR.next (kept_zlMacFail _ _ ha1)

theorem kept_zlRead0 {s0 : State} (a0 : State) (a1 : Nat) (a2 : Nat) (a3 : Bool) (ha0 : Kept s0 a0) : Kept s0 (State.zlRead0 a0 a1 a2 a3) := by
  delta State.zlRead0
  split
  · exact kept_zlSend0 _ _ _ _ ha0
  · exact kept_zlSend0 _ _ _ _ ha0
  · exact Kept.ite (kept_zlSend0 _ _ _ _ ha0) (kept_zlSend0 _ _ _ _ ha0)

theorem kept_zlReadEnd {s0 : State} (a0 : Nat) (a1 : Nat) (a2 : Nat) (a3 : Bool) (a4 : State × Option (Nat × List Byte)) (ha4 : Kept s0 a4.1) : Kept s0 (State.zlReadEnd a0 a1 a2 a3 a4) := by
  delta State.zlReadEnd
  split
  · exact ha4
  · exact Kept.ite (kept_zlPut _ _ _ _ _ ha4) (Kept.ite (kept_zlPut _ _ _ _ _ ha4) (Kept.ite (kept_zlPut _ _ _ _ _ ha4) (kept_zlPut _ _ _ _ _ ha4)))

theorem kept_zlRead {s0 : State} (a0 : State) (a1 : Nat) (a2 : Nat) (a3 : Nat) (a4 : Nat) (a5 : Bool) (a6 : Bool) (ha0 : Kept s0 a0) : Kept s0 (State.zlRead a0 a1 a2 a3 a4 a5 a6) := by
  delta State.zlRead
  refine Kept.ite ?_ ?_
  · exact Kept.ite (kept_zlRead0 _ _ _ _ ha0) ha0
  · with_reducible apply kept_zlRequest
    · exact ha0
    · intro y0 y1 hy0
      exact kept_zlReadEnd _ _ _ _ _ (kept_odReadReq _ _ _ _ _ _ _ hy0)

theorem kept_execZaleneRead {s0 : State} (a0 : BitVec 16) (a1 : BitVec 32) (a2 : BitVec 16) (a3 : BitVec 8) (a4 : Bool) (a5 : Bool) (a6 : State) (ha6 : Kept s0 a6) : KeptR s0 (execZaleneRead a0 a1 a2 a3 a4 a5 a6) := by
  delta execZaleneRead
  exact KeptR.next (kept_zlRead _ _ _ _ _ _ _ ha6)

theorem kept_zlEnd {s0 : State} (a0 : Nat) (a1 : Nat) (a2 : List Byte) (a3 : State × Option (Nat × List Byte)) (ha3 : Kept s0 a3.1) : Kept s0 (State.zlEnd a0 a1 a2 a3) := by
  delta State.zlEnd
  split
  · exact ha3
  · exact kept_zlPut _ _ _ _ _ ha3

theorem kept_zlWrite {s0 : State} (a0 : State) (a1 : Nat) (a2 : Nat) (a3 : Nat) (a4 : Nat) (a5 : List Byte) (ha0 : Kept s0 a0) : Kept s0 (State.zlWrite a0 a1 a2 a3 a4 a5) := by
  delta State.zlWrite
  refine Kept.ite ?_ ?_
  · exact ha0
  · with_reducible apply kept_zlRequest
    · exact ha0
    · intro y0 y1 hy0
      exact Kept.ite (kept_zlPut _ _ _ _ _ hy0) (kept_zlEnd _ _ _ _ (kept_odWriteReq _ _ _ _ _ _ hy0))

theorem kept_execZaleneWrite {s0 : State} (a0 : BitVec 16) (a1 : BitVec 32) (a2 : BitVec 16) (a3 : BitVec 8) (a4 : List Byte) (a5 : State) (ha5 : Kept s0 a5) : KeptR s0 (execZaleneWrite a0 a1 a2 a3 a4 a5) := by
  delta execZaleneWrite
  exact KeptR.next (kept_zlWrite _ _ _ _ _ _ ha5)

theorem kept_segReadFirst {s0 : State} (a0 : State) (a1 : Nat) (a2 : Nat) (a3 : Nat) (a4 : Bool) (ha0 : Kept s0 a0) : Kept s0 (State.segReadFirst a0 a1 a2 a3 a4) := by
  delta State.segReadFirst
  extract_lets +onlyGivenNames -merge -useContext x0
  have h0 : Kept s0 x0.1 := by unfold x0; exact kept_odReadReq _ _ _ _ _ _ _ ha0
  clear_value x0
  split
  · exact h0
  · refine Kept.ite ?_ ?_
    · exact kept_zlPut _ _ _ _ _ h0
    · refine Kept.ite ?_ ?_
      · exact kept_zlPut _ _ _ _ _ h0
      · extract_lets +onlyGivenNames -merge -useContext x1
        have h1 : Kept s0 x1.1 := by unfold x1; exact kept_asmOpen _ _ h0
        clear_value x1
        exact kept_zlPut _ _ _ _ _ h1

theorem kept_segReadNext {s0 : State} (a0 : State) (a1 : Nat) (a2 : Nat) (a3 : Nat) (a4 : Nat) (ha0 : Kept s0 a0) : Kept s0 (State.segReadNext a0 a1 a2 a3 a4) := by
  delta State.segReadNext
  split
  · exact kept_zlPut _ _ _ _ _ ha0
  · refine Kept.ite ?_ ?_
    · exact kept_zlPut _ _ _ _ _ (kept_asmDrop _ _ ha0)
    · extract_lets +onlyGivenNames -merge -useContext x0
      try clear_value x0
      extract_lets +onlyGivenNames -merge -useContext x1
      have h1 : Kept s0 x1 := by unfold x1; exact Kept.ite (kept_asmDrop _ _ ha0) (Kept.upd ha0 rfl rfl rfl rfl rfl rfl rfl)
      clear_value x1
      exact kept_zlPut _ _ _ _ _ h1

theorem kept_execSegRead {s0 : State} (a0 : BitVec 16) (a1 : BitVec 32) (a2 : BitVec 16) (a3 : BitVec 8) (a4 : BitVec 32) (a5 : Bool) (a6 : State) (ha6 : Kept s0 a6) : KeptR s0 (execSegRead a0 a1 a2 a3 a4 a5 a6) := by
  delta execSegRead
  refine KeptR.next ?_
  with_reducible apply kept_zlRequest
  · exact ha6
  · intro y0 y1 hy0
    exact Kept.ite (kept_segReadFirst _ _ _ _ _ hy0) (kept_segReadNext _ _ _ _ _ hy0)

theorem kept_segWrite {s0 : State} (a0 : State) (a1 : Nat) (a2 : Nat) (a3 : Nat) (a4 : Nat) (ha0 : Kept s0 a0) : Kept s0 (State.segWrite a0 a1 a2 a3 a4) := by
  delta State.segWrite
  extract_lets +onlyGivenNames -merge -useContext x0
  try clear_value x0
  refine Kept.ite ?_ ?_
  · exact kept_zlPut _ _ _ _ _ ha0
  · refine Kept.ite ?_ ?_
    · exact kept_zlPut _ _ _ _ _ ha0
    · extract_lets +onlyGivenNames -merge -useContext x1
      have h1 : Kept s0 x1.1 := by unfold x1; exact kept_asmOpen _ _ ha0
      clear_value x1
      exact kept_zlPut _ _ _ _ _ h1

theorem kept_execSegWrite {s0 : State} (a0 : BitVec 16) (a1 : BitVec 32) (a2 : BitVec 16) (a3 : BitVec 8) (a4 : BitVec 32) (a5 : State) (ha5 : Kept s0 a5) : KeptR s0 (execSegWrite a0 a1 a2 a3 a4 a5) := by
  delta execSegWrite
  refine KeptR.next ?_
  with_reducible apply kept_zlRequest
  · exact ha5
  · intro y0 y1 hy0
    exact kept_segWrite _ _ _ _ _ hy0

theorem kept_segPart {s0 : State} (a0 : State) (a1 : Nat) (a2 : Nat) (a3 : List Byte) (ha0 : Kept s0 a0) : Kept s0 (State.segPart a0 a1 a2 a3) := by
  delta State.segPart
  split
  · exact kept_zlPut _ _ _ _ _ ha0
  · extract_lets +onlyGivenNames -merge -useContext x0
    try clear_value x0
    exact Kept.ite (kept_zlPut _ _ _ _ _ ha0) (Kept.ite (kept_zlPut _ _ _ _ _ (kept_asmDrop _ _ ha0)) (Kept.ite (kept_zlEnd _ _ _ _ (kept_odWriteReq _ _ _ _ _ _ (kept_asmDrop _ _ ha0))) (Kept.ite (kept_zlPut _ _ _ _ _ (Kept.upd ha0 rfl rfl rfl rfl rfl rfl rfl)) (Kept.upd ha0 rfl rfl rfl rfl rfl rfl rfl))))

theorem kept_execSegment {s0 : State} (a0 : BitVec 16) (a1 : BitVec 32) (a2 : BitVec 32) (a3 : List Byte) (a4 : State) (ha4 : Kept s0 a4) : KeptR s0 (execSegment a0 a1 a2 a3 a4) := by
  delta execSegment
  refine KeptR.next ?_
  refine Kept.ite ?_ ?_
  · with_reducible apply kept_zlRequest
    · exact ha4
    · intro y0 y1 hy0
      exact kept_segPart _ _ _ _ hy0
  · exact ha4

theorem kept_execSegAbort {s0 : State} (a0 : BitVec 16) (a1 : BitVec 32) (a2 : State) (ha2 : Kept s0 a2) : KeptR s0 (execSegAbort a0 a1 a2) := by
  delta execSegAbort
  refine KeptR.next ?_
  with_reducible apply kept_zlRequest
  · exact ha2
  · intro y0 y1 hy0
    exact kept_zlPut _ _ _ _ _ (kept_asmDrop _ _ hy0)

theorem kept_asmIdle {s0 : State} (a0 : State) (a1 : Nat) (ha0 : Kept s0 a0) : Kept s0 (State.asmIdle a0 a1) := by
  delta State.asmIdle
  split
  · exact ha0
  · extract_lets +onlyGivenNames -merge -useContext x0
    have h0 : Kept s0 x0 := by unfold x0; exact Kept.upd ha0 rfl rfl rfl rfl rfl rfl rfl
    clear_value x0
    exact Kept.ite (kept_zlPut _ _ _ _ _ h0) h0

theorem kept_execAssemblyBufferIdle {s0 : State} (a0 : Fin 4) (a1 : State) (ha1 : Kept s0 a1) : KeptR s0 (execAssemblyBufferIdle a0 a1) := by
  delta execAssemblyBufferIdle
  exact KeptR.next (kept_asmIdle _ _ ha1)

theorem kept_eventFrame {s0 : State} (a0 : State) (a1 : Session) (a2 : EvOut) (a3 : Rec) (ha0 : Kept s0 a0) : Kept s0 (State.eventFrame a0 a1 a2 a3) := by
  delta State.eventFrame
  exact kept_emit _ _ ha0

theorem kept_eventSend {s0 : State} (a0 : State) (a1 : Nat) (ha0 : Kept s0 a0) : Kept s0 (State.eventSend a0 a1) := by
  delta State.eventSend
  split
  · exact ha0
  · split
    · exact ha0
    · refine Kept.ite ?_ ?_
      · exact ha0
      · extract_lets +onlyGivenNames -merge -useContext x0
        try clear_value x0
        extract_lets +onlyGivenNames -merge -useContext x1
        try clear_value x1
        exact kept_eventFrame _ _ _ _ (kept_putSession _ _ _ ha0)

theorem kept_execEventSend {s0 : State} (a0 : Fin 8) (a1 : State) (ha1 : Kept s0 a1) : KeptR s0 (execEventSend a0 a1) := by
  delta execEventSend
  exact KeptR.next (kept_eventSend _ _ ha1)

theorem kept_eventAck {s0 : State} (a0 : State) (a1 : Nat) (a2 : Nat) (ha0 : Kept s0 a0) : Kept s0 (State.eventAck a0 a1 a2) := by
  delta State.eventAck
  split
  · exact ha0
  · split
    · exact Kept.ite (kept_putSession _ _ _ ha0) ha0
    · exact ha0

theorem kept_execEventAck {s0 : State} (a0 : BitVec 16) (a1 : BitVec 32) (a2 : BitVec 32) (a3 : State) (ha3 : Kept s0 a3) : KeptR s0 (execEventAck a0 a1 a2 a3) := by
  delta execEventAck
  refine KeptR.next ?_
  with_reducible apply kept_zlRequest
  · exact ha3
  · intro y0 y1 hy0
    exact kept_eventAck _ _ _ hy0

theorem kept_eventTimeout {s0 : State} (a0 : State) (a1 : Nat) (ha0 : Kept s0 a0) : Kept s0 (State.eventTimeout a0 a1) := by
  delta State.eventTimeout
  split
  · exact ha0
  · split
    · exact Kept.ite (kept_eventFrame _ _ _ _ (kept_putSession _ _ _ ha0)) (kept_zlReport _ _ _ (kept_sessionEnd _ _ ha0))
    · exact ha0

theorem kept_execEventAckTimeout {s0 : State} (a0 : Fin 8) (a1 : State) (ha1 : Kept s0 a1) : KeptR s0 (execEventAckTimeout a0 a1) := by
  delta execEventAckTimeout
  exact KeptR.next (Kept.ite (kept_eventTimeout _ _ ha1) ha1)

theorem kept_zlWake {s0 : State} (a0 : State) (a1 : Nat) (ha0 : Kept s0 a0) : Kept s0 (State.zlWake a0 a1) := by
  delta State.zlWake
  exact Kept.ite (kept_zlSend0 _ _ _ _ ha0) (Kept.ite (kept_wake _ _ ha0) ha0)

theorem kept_execWake {s0 : State} (a0 : BitVec 32) (a1 : State) (ha1 : Kept s0 a1) : KeptR s0 (execWake a0 a1) := by
  delta execWake
  exact KeptR.next (kept_zlWake _ _ ha1)

end Sys2Proof.Machine
end

