-- ==== Sys2Proof/Laws/KeptRegisterCommands.lean ====
section
/-! SUPPORT. Laws/KeptRegisterCommands.lean: the operations of Machine/RegisterCommands.lean answer states that have been kept (Safety.lean). -/

namespace Sys2Proof.Machine
open Sys2Proof

theorem kept_regFull {s0 : State} (a0 : State) (a1 : Nat) (a2 : Nat) (a3 : Nat) (a4 : Nat) (ha0 : Kept s0 a0) : Kept s0 (State.regFull a0 a1 a2 a3 a4).st := by
  delta State.regFull
  extract_lets +onlyGivenNames -merge -useContext x0
  have h0 : Kept s0 x0.st := by unfold x0; exact kept_regDo _ _ _ _ _ ha0
  clear_value x0
  split
  · exact h0
  · split
    · show Kept s0 _
      with_reducible apply kept_hostGo
      · exact h0
    · exact h0

theorem kept_finishCrossings {s0 : State} (a0 : State) (ha0 : Kept s0 a0) : Kept s0 (State.finishCrossings a0) := by
  delta State.finishCrossings
  refine Kept.ite ?_ ?_
  · exact ha0
  · refine Kept.foldl ?_ ?_
    · exact Kept.upd ha0 rfl rfl rfl rfl rfl rfl rfl
    · intro y0 y1 hy0
      split
      · exact kept_endWrite _ _ _ _ _ hy0 (kept_regFull _ _ _ _ _ hy0)
      · exact kept_endRead _ _ _ _ hy0 (kept_regRead _ _ _ _ hy0)

theorem kept_regWriteCmd {s0 : State} (a0 : State) (a1 : Nat) (a2 : Nat) (a3 : Nat) (a4 : Nat) (ha0 : Kept s0 a0) : Kept s0 (State.regWriteCmd a0 a1 a2 a3 a4) := by
  delta State.regWriteCmd
  exact Kept.ite ha0 (kept_endWrite _ _ _ _ _ ha0 (kept_regFull _ _ _ _ _ ha0))

theorem kept_execRegisterWrite {s0 : State} (a0 : Fin 8) (a1 : BitVec 24) (a2 : Word) (a3 : Nat) (a4 : State) (ha4 : Kept s0 a4) : KeptR s0 (execRegisterWrite a0 a1 a2 a3 a4) := by
  delta execRegisterWrite
  exact KeptR.next (kept_regWriteCmd _ _ _ _ _ ha4)

theorem kept_regReadCmd {s0 : State} (a0 : State) (a1 : Nat) (a2 : Nat) (a3 : Nat) (ha0 : Kept s0 a0) : Kept s0 (State.regReadCmd a0 a1 a2 a3) := by
  delta State.regReadCmd
  exact Kept.ite ha0 (kept_endRead _ _ _ _ ha0 (kept_regRead _ _ _ _ ha0))

theorem kept_execRegisterRead {s0 : State} (a0 : Fin 8) (a1 : BitVec 24) (a2 : Nat) (a3 : State) (ha3 : Kept s0 a3) : KeptR s0 (execRegisterRead a0 a1 a2 a3) := by
  delta execRegisterRead
  exact KeptR.next (kept_regReadCmd _ _ _ _ ha3)

theorem kept_execPowerExitDone {s0 : State} (a0 : State) (ha0 : Kept s0 a0) : KeptR s0 (execPowerExitDone a0) := by
  delta execPowerExitDone
  exact KeptR.next (kept_finishCrossings _ (kept_exitDone _ ha0))

theorem kept_execStartupTablesRead {s0 : State} (a0 : List (BitVec 32 × Fin 32)) (a1 : State) (ha1 : Kept s0 a1) : KeptR s0 (execStartupTablesRead a0 a1) := by
  delta execStartupTablesRead
  exact KeptR.next (kept_finishCrossings _ (kept_tablesRead _ _ ha1))

end Sys2Proof.Machine
end

