-- ==== Sys2Proof/Laws/State.lean ====
section
/-! SUPPORT. Laws/State.lean: what each update of the state leaves and what it writes: one lemma for every field under every update, and for every keyed table
a read after a write. -/

namespace Sys2Proof.Machine
open Sys2Proof

@[simp] theorem rf_wf_same (s : State) (f : Fld) (v i j : Nat) : (s.wf f v i j).rf f i j = v % 2 ^ f.width := by
  simp [State.rf, State.wf]

theorem rf_wf_ne (s : State) (f g : Fld) (v i j i' j' : Nat) (h : g.key i' j' ≠ f.key i j) :
    (s.wf f v i j).rf g i' j' = s.rf g i' j' := by
  simp [State.rf, State.wf, tabGet_tabSet_ne _ _ _ _ _ h]

/-- A field read after a field written, whichever they are. -/
theorem rf_wf (s : State) (f g : Fld) (v i j i' j' : Nat) :
    (s.wf f v i j).rf g i' j' = if g.key i' j' = f.key i j then v % 2 ^ f.width else s.rf g i' j' := by
  split
  · next h => simp [State.rf, State.wf, h]
  · next h => exact rf_wf_ne s f g v i j i' j' h

/-- A flag written is read. -/
@[simp] theorem rf_wb_same (s : State) (f : Fld) (b : Bool) (i j : Nat) : (s.wb f b i j).rf f i j = b.toNat % 2 ^ f.width := by
  simp [State.wb]

theorem rf_wb (s : State) (f g : Fld) (b : Bool) (i j i' j' : Nat) :
    (s.wb f b i j).rf g i' j' = if g.key i' j' = f.key i j then b.toNat % 2 ^ f.width else s.rf g i' j' := rf_wf ..

@[simp] theorem run_wf (s : State) (f g : Fld) (v i j i' j' : Nat) : (s.wf f v i j).run g i' j' = s.run g i' j' := rfl
@[simp] theorem run_wb (s : State) (f g : Fld) (b : Bool) (i j i' j' : Nat) : (s.wb f b i j).run g i' j' = s.run g i' j' := rfl

@[simp] theorem wf_regs_wf (s : State) (f : Fld) (v i j : Nat) (h : tabWf s.regs = true) : tabWf (s.wf f v i j).regs = true :=
  tabWf_tabSet _ _ _ h

/-! ### A keyed table read after its update -/

@[simp] theorem ch_modCh_same (s : State) (n : Nat) (f) : (s.modCh n f).ch n = f (s.ch n) := by simp [State.ch, State.modCh, tabMod]
theorem ch_modCh_ne (s : State) (n k : Nat) (f) (h : k ≠ n) : (s.modCh n f).ch k = s.ch k := by simp [State.ch, State.modCh, tabMod, tabGet_tabSet_ne _ _ _ _ _ h]
@[simp] theorem hd_modHd_same (s : State) (n : Nat) (f) : (s.modHd n f).hd n = f (s.hd n) := by simp [State.hd, State.modHd, tabMod]
theorem hd_modHd_ne (s : State) (n k : Nat) (f) (h : k ≠ n) : (s.modHd n f).hd k = s.hd k := by simp [State.hd, State.modHd, tabMod, tabGet_tabSet_ne _ _ _ _ _ h]
@[simp] theorem plSt_modPl_same (s : State) (n : Nat) (f) : (s.modPl n f).plSt n = f (s.plSt n) := by simp [State.plSt, State.modPl, tabMod]
theorem plSt_modPl_ne (s : State) (n k : Nat) (f) (h : k ≠ n) : (s.modPl n f).plSt k = s.plSt k := by simp [State.plSt, State.modPl, tabMod, tabGet_tabSet_ne _ _ _ _ _ h]
@[simp] theorem sv_modSv_same (s : State) (n : Nat) (f) : (s.modSv n f).sv n = f (s.sv n) := by simp [State.sv, State.modSv, tabMod]
theorem sv_modSv_ne (s : State) (n k : Nat) (f) (h : k ≠ n) : (s.modSv n f).sv k = s.sv k := by simp [State.sv, State.modSv, tabMod, tabGet_tabSet_ne _ _ _ _ _ h]
@[simp] theorem tr_modTr_same (s : State) (n : Nat) (f) : (s.modTr n f).tr n = f (s.tr n) := by simp [State.tr, State.modTr, tabMod]
theorem tr_modTr_ne (s : State) (n k : Nat) (f) (h : k ≠ n) : (s.modTr n f).tr k = s.tr k := by simp [State.tr, State.modTr, tabMod, tabGet_tabSet_ne _ _ _ _ _ h]
@[simp] theorem ln_modLn_same (s : State) (n : Nat) (f) : (s.modLn n f).ln n = f (s.ln n) := by simp [State.ln, State.modLn, tabMod]
theorem ln_modLn_ne (s : State) (n k : Nat) (f) (h : k ≠ n) : (s.modLn n f).ln k = s.ln k := by simp [State.ln, State.modLn, tabMod, tabGet_tabSet_ne _ _ _ _ _ h]
@[simp] theorem hf_modHf_same (s : State) (n : Nat) (f) : (s.modHf n f).hf n = f (s.hf n) := by simp [State.hf, State.modHf, tabMod]
theorem hf_modHf_ne (s : State) (n k : Nat) (f) (h : k ≠ n) : (s.modHf n f).hf k = s.hf k := by simp [State.hf, State.modHf, tabMod, tabGet_tabSet_ne _ _ _ _ _ h]
@[simp] theorem prt_modPrt_same (s : State) (n : Nat) (f) : (s.modPrt n f).prt n = f (s.prt n) := by simp [State.prt, State.modPrt, tabMod]
theorem prt_modPrt_ne (s : State) (n k : Nat) (f) (h : k ≠ n) : (s.modPrt n f).prt k = s.prt k := by simp [State.prt, State.modPrt, tabMod, tabGet_tabSet_ne _ _ _ _ _ h]
@[simp] theorem sring_modSr_same (s : State) (n : Nat) (f) : (s.modSr n f).sring n = f (s.sring n) := by simp [State.sring, State.modSr, tabMod]
theorem sring_modSr_ne (s : State) (n k : Nat) (f) (h : k ≠ n) : (s.modSr n f).sring k = s.sring k := by simp [State.sring, State.modSr, tabMod, tabGet_tabSet_ne _ _ _ _ _ h]
@[simp] theorem cring_modCr_same (s : State) (n : Nat) (f) : (s.modCr n f).cring n = f (s.cring n) := by simp [State.cring, State.modCr, tabMod]
theorem cring_modCr_ne (s : State) (n k : Nat) (f) (h : k ≠ n) : (s.modCr n f).cring k = s.cring k := by simp [State.cring, State.modCr, tabMod, tabGet_tabSet_ne _ _ _ _ _ h]
@[simp] theorem idr_modIdr_same (s : State) (n : Nat) (f) : (s.modIdr n f).idr n = f (s.idr n) := by simp [State.idr, State.modIdr, tabMod]
theorem idr_modIdr_ne (s : State) (n k : Nat) (f) (h : k ≠ n) : (s.modIdr n f).idr k = s.idr k := by simp [State.idr, State.modIdr, tabMod, tabGet_tabSet_ne _ _ _ _ _ h]
@[simp] theorem lc_modLc_same (s : State) (n : Nat) (f) : (s.modLc n f).lc n = f (s.lc n) := by simp [State.lc, State.modLc, tabMod]
theorem lc_modLc_ne (s : State) (n k : Nat) (f) (h : k ≠ n) : (s.modLc n f).lc k = s.lc k := by simp [State.lc, State.modLc, tabMod, tabGet_tabSet_ne _ _ _ _ _ h]
@[simp] theorem pgc_modPg_same (s : State) (n : Nat) (f) : (s.modPg n f).pgc n = f (s.pgc n) := by simp [State.pgc, State.modPg, tabMod]
theorem pgc_modPg_ne (s : State) (n k : Nat) (f) (h : k ≠ n) : (s.modPg n f).pgc k = s.pgc k := by simp [State.pgc, State.modPg, tabMod, tabGet_tabSet_ne _ _ _ _ _ h]
@[simp] theorem pcv_modPc_same (s : State) (n : Nat) (f) : (s.modPc n f).pcv n = f (s.pcv n) := by simp [State.pcv, State.modPc, tabMod]
theorem pcv_modPc_ne (s : State) (n k : Nat) (f) (h : k ≠ n) : (s.modPc n f).pcv k = s.pcv k := by simp [State.pcv, State.modPc, tabMod, tabGet_tabSet_ne _ _ _ _ _ h]
@[simp] theorem resvOf_modResv_same (s : State) (n : Nat) (f) : (s.modResv n f).resvOf n = f (s.resvOf n) := by simp [State.resvOf, State.modResv, tabMod]
theorem resvOf_modResv_ne (s : State) (n k : Nat) (f) (h : k ≠ n) : (s.modResv n f).resvOf k = s.resvOf k := by simp [State.resvOf, State.modResv, tabMod, tabGet_tabSet_ne _ _ _ _ _ h]
@[simp] theorem pl_modPool_same (s : State) (n : Nat) (f) : (s.modPool n f).pl n = f (s.pl n) := by simp [State.pl, State.modPool, tabMod]
theorem pl_modPool_ne (s : State) (n k : Nat) (f) (h : k ≠ n) : (s.modPool n f).pl k = s.pl k := by simp [State.pl, State.modPool, tabMod, tabGet_tabSet_ne _ _ _ _ _ h]
@[simp] theorem dc_modDc_same (s : State) (n : Nat) (f) : (s.modDc n f).dc n = f (s.dc n) := by simp [State.dc, State.modDc, tabMod]
theorem dc_modDc_ne (s : State) (n k : Nat) (f) (h : k ≠ n) : (s.modDc n f).dc k = s.dc k := by simp [State.dc, State.modDc, tabMod, tabGet_tabSet_ne _ _ _ _ _ h]
@[simp] theorem en_modEn_same (s : State) (n : Nat) (f) : (s.modEn n f).en n = f (s.en n) := by simp [State.en, State.modEn, tabMod]
theorem en_modEn_ne (s : State) (n k : Nat) (f) (h : k ≠ n) : (s.modEn n f).en k = s.en k := by simp [State.en, State.modEn, tabMod, tabGet_tabSet_ne _ _ _ _ _ h]

/-! ### Accessors under updates of other fields -/

@[simp] theorem ch_wf (s : State) (g : Fld) (v i j : Nat) (k : Nat) : (s.wf g v i j).ch k = s.ch k := rfl
@[simp] theorem hd_wf (s : State) (g : Fld) (v i j : Nat) (k : Nat) : (s.wf g v i j).hd k = s.hd k := rfl
@[simp] theorem plSt_wf (s : State) (g : Fld) (v i j : Nat) (k : Nat) : (s.wf g v i j).plSt k = s.plSt k := rfl
@[simp] theorem sv_wf (s : State) (g : Fld) (v i j : Nat) (k : Nat) : (s.wf g v i j).sv k = s.sv k := rfl
@[simp] theorem tr_wf (s : State) (g : Fld) (v i j : Nat) (k : Nat) : (s.wf g v i j).tr k = s.tr k := rfl
@[simp] theorem ln_wf (s : State) (g : Fld) (v i j : Nat) (k : Nat) : (s.wf g v i j).ln k = s.ln k := rfl
@[simp] theorem hf_wf (s : State) (g : Fld) (v i j : Nat) (k : Nat) : (s.wf g v i j).hf k = s.hf k := rfl
@[simp] theorem prt_wf (s : State) (g : Fld) (v i j : Nat) (k : Nat) : (s.wf g v i j).prt k = s.prt k := rfl
@[simp] theorem sring_wf (s : State) (g : Fld) (v i j : Nat) (k : Nat) : (s.wf g v i j).sring k = s.sring k := rfl
@[simp] theorem cring_wf (s : State) (g : Fld) (v i j : Nat) (k : Nat) : (s.wf g v i j).cring k = s.cring k := rfl
@[simp] theorem idr_wf (s : State) (g : Fld) (v i j : Nat) (k : Nat) : (s.wf g v i j).idr k = s.idr k := rfl
@[simp] theorem lc_wf (s : State) (g : Fld) (v i j : Nat) (k : Nat) : (s.wf g v i j).lc k = s.lc k := rfl
@[simp] theorem pgc_wf (s : State) (g : Fld) (v i j : Nat) (k : Nat) : (s.wf g v i j).pgc k = s.pgc k := rfl
@[simp] theorem pcv_wf (s : State) (g : Fld) (v i j : Nat) (k : Nat) : (s.wf g v i j).pcv k = s.pcv k := rfl
@[simp] theorem resvOf_wf (s : State) (g : Fld) (v i j : Nat) (k : Nat) : (s.wf g v i j).resvOf k = s.resvOf k := rfl
@[simp] theorem pl_wf (s : State) (g : Fld) (v i j : Nat) (k : Nat) : (s.wf g v i j).pl k = s.pl k := rfl
@[simp] theorem dc_wf (s : State) (g : Fld) (v i j : Nat) (k : Nat) : (s.wf g v i j).dc k = s.dc k := rfl
@[simp] theorem en_wf (s : State) (g : Fld) (v i j : Nat) (k : Nat) : (s.wf g v i j).en k = s.en k := rfl
@[simp] theorem rf_emit (s : State) (o : Out) (g' : Fld) (i' j' : Nat) : (s.emit o).rf g' i' j' = s.rf g' i' j' := rfl
@[simp] theorem rb_emit (s : State) (o : Out) (g' : Fld) (i' j' : Nat) : (s.emit o).rb g' i' j' = s.rb g' i' j' := rfl
@[simp] theorem run_emit (s : State) (o : Out) (g' : Fld) (i' j' : Nat) : (s.emit o).run g' i' j' = s.run g' i' j' := rfl
@[simp] theorem ch_emit (s : State) (o : Out) (k : Nat) : (s.emit o).ch k = s.ch k := rfl
@[simp] theorem hd_emit (s : State) (o : Out) (k : Nat) : (s.emit o).hd k = s.hd k := rfl
@[simp] theorem plSt_emit (s : State) (o : Out) (k : Nat) : (s.emit o).plSt k = s.plSt k := rfl
@[simp] theorem sv_emit (s : State) (o : Out) (k : Nat) : (s.emit o).sv k = s.sv k := rfl
@[simp] theorem tr_emit (s : State) (o : Out) (k : Nat) : (s.emit o).tr k = s.tr k := rfl
@[simp] theorem ln_emit (s : State) (o : Out) (k : Nat) : (s.emit o).ln k = s.ln k := rfl
@[simp] theorem hf_emit (s : State) (o : Out) (k : Nat) : (s.emit o).hf k = s.hf k := rfl
@[simp] theorem prt_emit (s : State) (o : Out) (k : Nat) : (s.emit o).prt k = s.prt k := rfl
@[simp] theorem sring_emit (s : State) (o : Out) (k : Nat) : (s.emit o).sring k = s.sring k := rfl
@[simp] theorem cring_emit (s : State) (o : Out) (k : Nat) : (s.emit o).cring k = s.cring k := rfl
@[simp] theorem idr_emit (s : State) (o : Out) (k : Nat) : (s.emit o).idr k = s.idr k := rfl
@[simp] theorem lc_emit (s : State) (o : Out) (k : Nat) : (s.emit o).lc k = s.lc k := rfl
@[simp] theorem pgc_emit (s : State) (o : Out) (k : Nat) : (s.emit o).pgc k = s.pgc k := rfl
@[simp] theorem pcv_emit (s : State) (o : Out) (k : Nat) : (s.emit o).pcv k = s.pcv k := rfl
@[simp] theorem resvOf_emit (s : State) (o : Out) (k : Nat) : (s.emit o).resvOf k = s.resvOf k := rfl
@[simp] theorem pl_emit (s : State) (o : Out) (k : Nat) : (s.emit o).pl k = s.pl k := rfl
@[simp] theorem dc_emit (s : State) (o : Out) (k : Nat) : (s.emit o).dc k = s.dc k := rfl
@[simp] theorem en_emit (s : State) (o : Out) (k : Nat) : (s.emit o).en k = s.en k := rfl
@[simp] theorem rf_useFree (s : State)  (g' : Fld) (i' j' : Nat) : (s.useFree ).rf g' i' j' = s.rf g' i' j' := rfl
@[simp] theorem rb_useFree (s : State)  (g' : Fld) (i' j' : Nat) : (s.useFree ).rb g' i' j' = s.rb g' i' j' := rfl
@[simp] theorem run_useFree (s : State)  (g' : Fld) (i' j' : Nat) : (s.useFree ).run g' i' j' = s.run g' i' j' := rfl
@[simp] theorem ch_useFree (s : State)  (k : Nat) : (s.useFree ).ch k = s.ch k := rfl
@[simp] theorem hd_useFree (s : State)  (k : Nat) : (s.useFree ).hd k = s.hd k := rfl
@[simp] theorem plSt_useFree (s : State)  (k : Nat) : (s.useFree ).plSt k = s.plSt k := rfl
@[simp] theorem sv_useFree (s : State)  (k : Nat) : (s.useFree ).sv k = s.sv k := rfl
@[simp] theorem tr_useFree (s : State)  (k : Nat) : (s.useFree ).tr k = s.tr k := rfl
@[simp] theorem ln_useFree (s : State)  (k : Nat) : (s.useFree ).ln k = s.ln k := rfl
@[simp] theorem hf_useFree (s : State)  (k : Nat) : (s.useFree ).hf k = s.hf k := rfl
@[simp] theorem prt_useFree (s : State)  (k : Nat) : (s.useFree ).prt k = s.prt k := rfl
@[simp] theorem sring_useFree (s : State)  (k : Nat) : (s.useFree ).sring k = s.sring k := rfl
@[simp] theorem cring_useFree (s : State)  (k : Nat) : (s.useFree ).cring k = s.cring k := rfl
@[simp] theorem idr_useFree (s : State)  (k : Nat) : (s.useFree ).idr k = s.idr k := rfl
@[simp] theorem lc_useFree (s : State)  (k : Nat) : (s.useFree ).lc k = s.lc k := rfl
@[simp] theorem pgc_useFree (s : State)  (k : Nat) : (s.useFree ).pgc k = s.pgc k := rfl
@[simp] theorem pcv_useFree (s : State)  (k : Nat) : (s.useFree ).pcv k = s.pcv k := rfl
@[simp] theorem resvOf_useFree (s : State)  (k : Nat) : (s.useFree ).resvOf k = s.resvOf k := rfl
@[simp] theorem pl_useFree (s : State)  (k : Nat) : (s.useFree ).pl k = s.pl k := rfl
@[simp] theorem dc_useFree (s : State)  (k : Nat) : (s.useFree ).dc k = s.dc k := rfl
@[simp] theorem en_useFree (s : State)  (k : Nat) : (s.useFree ).en k = s.en k := rfl
@[simp] theorem rf_modCh (s : State) (n : Nat) (f : ChanSt → ChanSt) (g' : Fld) (i' j' : Nat) : (s.modCh n f).rf g' i' j' = s.rf g' i' j' := rfl
@[simp] theorem rb_modCh (s : State) (n : Nat) (f : ChanSt → ChanSt) (g' : Fld) (i' j' : Nat) : (s.modCh n f).rb g' i' j' = s.rb g' i' j' := rfl
@[simp] theorem run_modCh (s : State) (n : Nat) (f : ChanSt → ChanSt) (g' : Fld) (i' j' : Nat) : (s.modCh n f).run g' i' j' = s.run g' i' j' := rfl
@[simp] theorem hd_modCh (s : State) (n : Nat) (f : ChanSt → ChanSt) (k : Nat) : (s.modCh n f).hd k = s.hd k := rfl
@[simp] theorem plSt_modCh (s : State) (n : Nat) (f : ChanSt → ChanSt) (k : Nat) : (s.modCh n f).plSt k = s.plSt k := rfl
@[simp] theorem sv_modCh (s : State) (n : Nat) (f : ChanSt → ChanSt) (k : Nat) : (s.modCh n f).sv k = s.sv k := rfl
@[simp] theorem tr_modCh (s : State) (n : Nat) (f : ChanSt → ChanSt) (k : Nat) : (s.modCh n f).tr k = s.tr k := rfl
@[simp] theorem ln_modCh (s : State) (n : Nat) (f : ChanSt → ChanSt) (k : Nat) : (s.modCh n f).ln k = s.ln k := rfl
@[simp] theorem hf_modCh (s : State) (n : Nat) (f : ChanSt → ChanSt) (k : Nat) : (s.modCh n f).hf k = s.hf k := rfl
@[simp] theorem prt_modCh (s : State) (n : Nat) (f : ChanSt → ChanSt) (k : Nat) : (s.modCh n f).prt k = s.prt k := rfl
@[simp] theorem sring_modCh (s : State) (n : Nat) (f : ChanSt → ChanSt) (k : Nat) : (s.modCh n f).sring k = s.sring k := rfl
@[simp] theorem cring_modCh (s : State) (n : Nat) (f : ChanSt → ChanSt) (k : Nat) : (s.modCh n f).cring k = s.cring k := rfl
@[simp] theorem idr_modCh (s : State) (n : Nat) (f : ChanSt → ChanSt) (k : Nat) : (s.modCh n f).idr k = s.idr k := rfl
@[simp] theorem lc_modCh (s : State) (n : Nat) (f : ChanSt → ChanSt) (k : Nat) : (s.modCh n f).lc k = s.lc k := rfl
@[simp] theorem pgc_modCh (s : State) (n : Nat) (f : ChanSt → ChanSt) (k : Nat) : (s.modCh n f).pgc k = s.pgc k := rfl
@[simp] theorem pcv_modCh (s : State) (n : Nat) (f : ChanSt → ChanSt) (k : Nat) : (s.modCh n f).pcv k = s.pcv k := rfl
@[simp] theorem resvOf_modCh (s : State) (n : Nat) (f : ChanSt → ChanSt) (k : Nat) : (s.modCh n f).resvOf k = s.resvOf k := rfl
@[simp] theorem pl_modCh (s : State) (n : Nat) (f : ChanSt → ChanSt) (k : Nat) : (s.modCh n f).pl k = s.pl k := rfl
@[simp] theorem dc_modCh (s : State) (n : Nat) (f : ChanSt → ChanSt) (k : Nat) : (s.modCh n f).dc k = s.dc k := rfl
@[simp] theorem en_modCh (s : State) (n : Nat) (f : ChanSt → ChanSt) (k : Nat) : (s.modCh n f).en k = s.en k := rfl
@[simp] theorem rf_modHd (s : State) (n : Nat) (f : HeadSt → HeadSt) (g' : Fld) (i' j' : Nat) : (s.modHd n f).rf g' i' j' = s.rf g' i' j' := rfl
@[simp] theorem rb_modHd (s : State) (n : Nat) (f : HeadSt → HeadSt) (g' : Fld) (i' j' : Nat) : (s.modHd n f).rb g' i' j' = s.rb g' i' j' := rfl
@[simp] theorem run_modHd (s : State) (n : Nat) (f : HeadSt → HeadSt) (g' : Fld) (i' j' : Nat) : (s.modHd n f).run g' i' j' = s.run g' i' j' := rfl
@[simp] theorem ch_modHd (s : State) (n : Nat) (f : HeadSt → HeadSt) (k : Nat) : (s.modHd n f).ch k = s.ch k := rfl
@[simp] theorem plSt_modHd (s : State) (n : Nat) (f : HeadSt → HeadSt) (k : Nat) : (s.modHd n f).plSt k = s.plSt k := rfl
@[simp] theorem sv_modHd (s : State) (n : Nat) (f : HeadSt → HeadSt) (k : Nat) : (s.modHd n f).sv k = s.sv k := rfl
@[simp] theorem tr_modHd (s : State) (n : Nat) (f : HeadSt → HeadSt) (k : Nat) : (s.modHd n f).tr k = s.tr k := rfl
@[simp] theorem ln_modHd (s : State) (n : Nat) (f : HeadSt → HeadSt) (k : Nat) : (s.modHd n f).ln k = s.ln k := rfl
@[simp] theorem hf_modHd (s : State) (n : Nat) (f : HeadSt → HeadSt) (k : Nat) : (s.modHd n f).hf k = s.hf k := rfl
@[simp] theorem prt_modHd (s : State) (n : Nat) (f : HeadSt → HeadSt) (k : Nat) : (s.modHd n f).prt k = s.prt k := rfl
@[simp] theorem sring_modHd (s : State) (n : Nat) (f : HeadSt → HeadSt) (k : Nat) : (s.modHd n f).sring k = s.sring k := rfl
@[simp] theorem cring_modHd (s : State) (n : Nat) (f : HeadSt → HeadSt) (k : Nat) : (s.modHd n f).cring k = s.cring k := rfl
@[simp] theorem idr_modHd (s : State) (n : Nat) (f : HeadSt → HeadSt) (k : Nat) : (s.modHd n f).idr k = s.idr k := rfl
@[simp] theorem lc_modHd (s : State) (n : Nat) (f : HeadSt → HeadSt) (k : Nat) : (s.modHd n f).lc k = s.lc k := rfl
@[simp] theorem pgc_modHd (s : State) (n : Nat) (f : HeadSt → HeadSt) (k : Nat) : (s.modHd n f).pgc k = s.pgc k := rfl
@[simp] theorem pcv_modHd (s : State) (n : Nat) (f : HeadSt → HeadSt) (k : Nat) : (s.modHd n f).pcv k = s.pcv k := rfl
@[simp] theorem resvOf_modHd (s : State) (n : Nat) (f : HeadSt → HeadSt) (k : Nat) : (s.modHd n f).resvOf k = s.resvOf k := rfl
@[simp] theorem pl_modHd (s : State) (n : Nat) (f : HeadSt → HeadSt) (k : Nat) : (s.modHd n f).pl k = s.pl k := rfl
@[simp] theorem dc_modHd (s : State) (n : Nat) (f : HeadSt → HeadSt) (k : Nat) : (s.modHd n f).dc k = s.dc k := rfl
@[simp] theorem en_modHd (s : State) (n : Nat) (f : HeadSt → HeadSt) (k : Nat) : (s.modHd n f).en k = s.en k := rfl
@[simp] theorem rf_modPl (s : State) (n : Nat) (f : Pl → Pl) (g' : Fld) (i' j' : Nat) : (s.modPl n f).rf g' i' j' = s.rf g' i' j' := rfl
@[simp] theorem rb_modPl (s : State) (n : Nat) (f : Pl → Pl) (g' : Fld) (i' j' : Nat) : (s.modPl n f).rb g' i' j' = s.rb g' i' j' := rfl
@[simp] theorem run_modPl (s : State) (n : Nat) (f : Pl → Pl) (g' : Fld) (i' j' : Nat) : (s.modPl n f).run g' i' j' = s.run g' i' j' := rfl
@[simp] theorem ch_modPl (s : State) (n : Nat) (f : Pl → Pl) (k : Nat) : (s.modPl n f).ch k = s.ch k := rfl
@[simp] theorem hd_modPl (s : State) (n : Nat) (f : Pl → Pl) (k : Nat) : (s.modPl n f).hd k = s.hd k := rfl
@[simp] theorem sv_modPl (s : State) (n : Nat) (f : Pl → Pl) (k : Nat) : (s.modPl n f).sv k = s.sv k := rfl
@[simp] theorem tr_modPl (s : State) (n : Nat) (f : Pl → Pl) (k : Nat) : (s.modPl n f).tr k = s.tr k := rfl
@[simp] theorem ln_modPl (s : State) (n : Nat) (f : Pl → Pl) (k : Nat) : (s.modPl n f).ln k = s.ln k := rfl
@[simp] theorem hf_modPl (s : State) (n : Nat) (f : Pl → Pl) (k : Nat) : (s.modPl n f).hf k = s.hf k := rfl
@[simp] theorem prt_modPl (s : State) (n : Nat) (f : Pl → Pl) (k : Nat) : (s.modPl n f).prt k = s.prt k := rfl
@[simp] theorem sring_modPl (s : State) (n : Nat) (f : Pl → Pl) (k : Nat) : (s.modPl n f).sring k = s.sring k := rfl
@[simp] theorem cring_modPl (s : State) (n : Nat) (f : Pl → Pl) (k : Nat) : (s.modPl n f).cring k = s.cring k := rfl
@[simp] theorem idr_modPl (s : State) (n : Nat) (f : Pl → Pl) (k : Nat) : (s.modPl n f).idr k = s.idr k := rfl
@[simp] theorem lc_modPl (s : State) (n : Nat) (f : Pl → Pl) (k : Nat) : (s.modPl n f).lc k = s.lc k := rfl
@[simp] theorem pgc_modPl (s : State) (n : Nat) (f : Pl → Pl) (k : Nat) : (s.modPl n f).pgc k = s.pgc k := rfl
@[simp] theorem pcv_modPl (s : State) (n : Nat) (f : Pl → Pl) (k : Nat) : (s.modPl n f).pcv k = s.pcv k := rfl
@[simp] theorem resvOf_modPl (s : State) (n : Nat) (f : Pl → Pl) (k : Nat) : (s.modPl n f).resvOf k = s.resvOf k := rfl
@[simp] theorem pl_modPl (s : State) (n : Nat) (f : Pl → Pl) (k : Nat) : (s.modPl n f).pl k = s.pl k := rfl
@[simp] theorem dc_modPl (s : State) (n : Nat) (f : Pl → Pl) (k : Nat) : (s.modPl n f).dc k = s.dc k := rfl
@[simp] theorem en_modPl (s : State) (n : Nat) (f : Pl → Pl) (k : Nat) : (s.modPl n f).en k = s.en k := rfl
@[simp] theorem rf_modSv (s : State) (n : Nat) (f : Servo → Servo) (g' : Fld) (i' j' : Nat) : (s.modSv n f).rf g' i' j' = s.rf g' i' j' := rfl
@[simp] theorem rb_modSv (s : State) (n : Nat) (f : Servo → Servo) (g' : Fld) (i' j' : Nat) : (s.modSv n f).rb g' i' j' = s.rb g' i' j' := rfl
@[simp] theorem run_modSv (s : State) (n : Nat) (f : Servo → Servo) (g' : Fld) (i' j' : Nat) : (s.modSv n f).run g' i' j' = s.run g' i' j' := rfl
@[simp] theorem ch_modSv (s : State) (n : Nat) (f : Servo → Servo) (k : Nat) : (s.modSv n f).ch k = s.ch k := rfl
@[simp] theorem hd_modSv (s : State) (n : Nat) (f : Servo → Servo) (k : Nat) : (s.modSv n f).hd k = s.hd k := rfl
@[simp] theorem plSt_modSv (s : State) (n : Nat) (f : Servo → Servo) (k : Nat) : (s.modSv n f).plSt k = s.plSt k := rfl
@[simp] theorem tr_modSv (s : State) (n : Nat) (f : Servo → Servo) (k : Nat) : (s.modSv n f).tr k = s.tr k := rfl
@[simp] theorem ln_modSv (s : State) (n : Nat) (f : Servo → Servo) (k : Nat) : (s.modSv n f).ln k = s.ln k := rfl
@[simp] theorem hf_modSv (s : State) (n : Nat) (f : Servo → Servo) (k : Nat) : (s.modSv n f).hf k = s.hf k := rfl
@[simp] theorem prt_modSv (s : State) (n : Nat) (f : Servo → Servo) (k : Nat) : (s.modSv n f).prt k = s.prt k := rfl
@[simp] theorem sring_modSv (s : State) (n : Nat) (f : Servo → Servo) (k : Nat) : (s.modSv n f).sring k = s.sring k := rfl
@[simp] theorem cring_modSv (s : State) (n : Nat) (f : Servo → Servo) (k : Nat) : (s.modSv n f).cring k = s.cring k := rfl
@[simp] theorem idr_modSv (s : State) (n : Nat) (f : Servo → Servo) (k : Nat) : (s.modSv n f).idr k = s.idr k := rfl
@[simp] theorem lc_modSv (s : State) (n : Nat) (f : Servo → Servo) (k : Nat) : (s.modSv n f).lc k = s.lc k := rfl
@[simp] theorem pgc_modSv (s : State) (n : Nat) (f : Servo → Servo) (k : Nat) : (s.modSv n f).pgc k = s.pgc k := rfl
@[simp] theorem pcv_modSv (s : State) (n : Nat) (f : Servo → Servo) (k : Nat) : (s.modSv n f).pcv k = s.pcv k := rfl
@[simp] theorem resvOf_modSv (s : State) (n : Nat) (f : Servo → Servo) (k : Nat) : (s.modSv n f).resvOf k = s.resvOf k := rfl
@[simp] theorem pl_modSv (s : State) (n : Nat) (f : Servo → Servo) (k : Nat) : (s.modSv n f).pl k = s.pl k := rfl
@[simp] theorem dc_modSv (s : State) (n : Nat) (f : Servo → Servo) (k : Nat) : (s.modSv n f).dc k = s.dc k := rfl
@[simp] theorem en_modSv (s : State) (n : Nat) (f : Servo → Servo) (k : Nat) : (s.modSv n f).en k = s.en k := rfl
@[simp] theorem rf_modTr (s : State) (n : Nat) (f : Tru → Tru) (g' : Fld) (i' j' : Nat) : (s.modTr n f).rf g' i' j' = s.rf g' i' j' := rfl
@[simp] theorem rb_modTr (s : State) (n : Nat) (f : Tru → Tru) (g' : Fld) (i' j' : Nat) : (s.modTr n f).rb g' i' j' = s.rb g' i' j' := rfl
@[simp] theorem run_modTr (s : State) (n : Nat) (f : Tru → Tru) (g' : Fld) (i' j' : Nat) : (s.modTr n f).run g' i' j' = s.run g' i' j' := rfl
@[simp] theorem ch_modTr (s : State) (n : Nat) (f : Tru → Tru) (k : Nat) : (s.modTr n f).ch k = s.ch k := rfl
@[simp] theorem hd_modTr (s : State) (n : Nat) (f : Tru → Tru) (k : Nat) : (s.modTr n f).hd k = s.hd k := rfl
@[simp] theorem plSt_modTr (s : State) (n : Nat) (f : Tru → Tru) (k : Nat) : (s.modTr n f).plSt k = s.plSt k := rfl
@[simp] theorem sv_modTr (s : State) (n : Nat) (f : Tru → Tru) (k : Nat) : (s.modTr n f).sv k = s.sv k := rfl
@[simp] theorem ln_modTr (s : State) (n : Nat) (f : Tru → Tru) (k : Nat) : (s.modTr n f).ln k = s.ln k := rfl
@[simp] theorem hf_modTr (s : State) (n : Nat) (f : Tru → Tru) (k : Nat) : (s.modTr n f).hf k = s.hf k := rfl
@[simp] theorem prt_modTr (s : State) (n : Nat) (f : Tru → Tru) (k : Nat) : (s.modTr n f).prt k = s.prt k := rfl
@[simp] theorem sring_modTr (s : State) (n : Nat) (f : Tru → Tru) (k : Nat) : (s.modTr n f).sring k = s.sring k := rfl
@[simp] theorem cring_modTr (s : State) (n : Nat) (f : Tru → Tru) (k : Nat) : (s.modTr n f).cring k = s.cring k := rfl
@[simp] theorem idr_modTr (s : State) (n : Nat) (f : Tru → Tru) (k : Nat) : (s.modTr n f).idr k = s.idr k := rfl
@[simp] theorem lc_modTr (s : State) (n : Nat) (f : Tru → Tru) (k : Nat) : (s.modTr n f).lc k = s.lc k := rfl
@[simp] theorem pgc_modTr (s : State) (n : Nat) (f : Tru → Tru) (k : Nat) : (s.modTr n f).pgc k = s.pgc k := rfl
@[simp] theorem pcv_modTr (s : State) (n : Nat) (f : Tru → Tru) (k : Nat) : (s.modTr n f).pcv k = s.pcv k := rfl
@[simp] theorem resvOf_modTr (s : State) (n : Nat) (f : Tru → Tru) (k : Nat) : (s.modTr n f).resvOf k = s.resvOf k := rfl
@[simp] theorem pl_modTr (s : State) (n : Nat) (f : Tru → Tru) (k : Nat) : (s.modTr n f).pl k = s.pl k := rfl
@[simp] theorem dc_modTr (s : State) (n : Nat) (f : Tru → Tru) (k : Nat) : (s.modTr n f).dc k = s.dc k := rfl
@[simp] theorem en_modTr (s : State) (n : Nat) (f : Tru → Tru) (k : Nat) : (s.modTr n f).en k = s.en k := rfl
@[simp] theorem rf_modLn (s : State) (n : Nat) (f : LaneSt → LaneSt) (g' : Fld) (i' j' : Nat) : (s.modLn n f).rf g' i' j' = s.rf g' i' j' := rfl
@[simp] theorem rb_modLn (s : State) (n : Nat) (f : LaneSt → LaneSt) (g' : Fld) (i' j' : Nat) : (s.modLn n f).rb g' i' j' = s.rb g' i' j' := rfl
@[simp] theorem run_modLn (s : State) (n : Nat) (f : LaneSt → LaneSt) (g' : Fld) (i' j' : Nat) : (s.modLn n f).run g' i' j' = s.run g' i' j' := rfl
@[simp] theorem ch_modLn (s : State) (n : Nat) (f : LaneSt → LaneSt) (k : Nat) : (s.modLn n f).ch k = s.ch k := rfl
@[simp] theorem hd_modLn (s : State) (n : Nat) (f : LaneSt → LaneSt) (k : Nat) : (s.modLn n f).hd k = s.hd k := rfl
@[simp] theorem plSt_modLn (s : State) (n : Nat) (f : LaneSt → LaneSt) (k : Nat) : (s.modLn n f).plSt k = s.plSt k := rfl
@[simp] theorem sv_modLn (s : State) (n : Nat) (f : LaneSt → LaneSt) (k : Nat) : (s.modLn n f).sv k = s.sv k := rfl
@[simp] theorem tr_modLn (s : State) (n : Nat) (f : LaneSt → LaneSt) (k : Nat) : (s.modLn n f).tr k = s.tr k := rfl
@[simp] theorem hf_modLn (s : State) (n : Nat) (f : LaneSt → LaneSt) (k : Nat) : (s.modLn n f).hf k = s.hf k := rfl
@[simp] theorem prt_modLn (s : State) (n : Nat) (f : LaneSt → LaneSt) (k : Nat) : (s.modLn n f).prt k = s.prt k := rfl
@[simp] theorem sring_modLn (s : State) (n : Nat) (f : LaneSt → LaneSt) (k : Nat) : (s.modLn n f).sring k = s.sring k := rfl
@[simp] theorem cring_modLn (s : State) (n : Nat) (f : LaneSt → LaneSt) (k : Nat) : (s.modLn n f).cring k = s.cring k := rfl
@[simp] theorem idr_modLn (s : State) (n : Nat) (f : LaneSt → LaneSt) (k : Nat) : (s.modLn n f).idr k = s.idr k := rfl
@[simp] theorem lc_modLn (s : State) (n : Nat) (f : LaneSt → LaneSt) (k : Nat) : (s.modLn n f).lc k = s.lc k := rfl
@[simp] theorem pgc_modLn (s : State) (n : Nat) (f : LaneSt → LaneSt) (k : Nat) : (s.modLn n f).pgc k = s.pgc k := rfl
@[simp] theorem pcv_modLn (s : State) (n : Nat) (f : LaneSt → LaneSt) (k : Nat) : (s.modLn n f).pcv k = s.pcv k := rfl
@[simp] theorem resvOf_modLn (s : State) (n : Nat) (f : LaneSt → LaneSt) (k : Nat) : (s.modLn n f).resvOf k = s.resvOf k := rfl
@[simp] theorem pl_modLn (s : State) (n : Nat) (f : LaneSt → LaneSt) (k : Nat) : (s.modLn n f).pl k = s.pl k := rfl
@[simp] theorem dc_modLn (s : State) (n : Nat) (f : LaneSt → LaneSt) (k : Nat) : (s.modLn n f).dc k = s.dc k := rfl
@[simp] theorem en_modLn (s : State) (n : Nat) (f : LaneSt → LaneSt) (k : Nat) : (s.modLn n f).en k = s.en k := rfl
@[simp] theorem rf_modHf (s : State) (n : Nat) (f : HalfSt → HalfSt) (g' : Fld) (i' j' : Nat) : (s.modHf n f).rf g' i' j' = s.rf g' i' j' := rfl
@[simp] theorem rb_modHf (s : State) (n : Nat) (f : HalfSt → HalfSt) (g' : Fld) (i' j' : Nat) : (s.modHf n f).rb g' i' j' = s.rb g' i' j' := rfl
@[simp] theorem run_modHf (s : State) (n : Nat) (f : HalfSt → HalfSt) (g' : Fld) (i' j' : Nat) : (s.modHf n f).run g' i' j' = s.run g' i' j' := rfl
@[simp] theorem ch_modHf (s : State) (n : Nat) (f : HalfSt → HalfSt) (k : Nat) : (s.modHf n f).ch k = s.ch k := rfl
@[simp] theorem hd_modHf (s : State) (n : Nat) (f : HalfSt → HalfSt) (k : Nat) : (s.modHf n f).hd k = s.hd k := rfl
@[simp] theorem plSt_modHf (s : State) (n : Nat) (f : HalfSt → HalfSt) (k : Nat) : (s.modHf n f).plSt k = s.plSt k := rfl
@[simp] theorem sv_modHf (s : State) (n : Nat) (f : HalfSt → HalfSt) (k : Nat) : (s.modHf n f).sv k = s.sv k := rfl
@[simp] theorem tr_modHf (s : State) (n : Nat) (f : HalfSt → HalfSt) (k : Nat) : (s.modHf n f).tr k = s.tr k := rfl
@[simp] theorem ln_modHf (s : State) (n : Nat) (f : HalfSt → HalfSt) (k : Nat) : (s.modHf n f).ln k = s.ln k := rfl
@[simp] theorem prt_modHf (s : State) (n : Nat) (f : HalfSt → HalfSt) (k : Nat) : (s.modHf n f).prt k = s.prt k := rfl
@[simp] theorem sring_modHf (s : State) (n : Nat) (f : HalfSt → HalfSt) (k : Nat) : (s.modHf n f).sring k = s.sring k := rfl
@[simp] theorem cring_modHf (s : State) (n : Nat) (f : HalfSt → HalfSt) (k : Nat) : (s.modHf n f).cring k = s.cring k := rfl
@[simp] theorem idr_modHf (s : State) (n : Nat) (f : HalfSt → HalfSt) (k : Nat) : (s.modHf n f).idr k = s.idr k := rfl
@[simp] theorem lc_modHf (s : State) (n : Nat) (f : HalfSt → HalfSt) (k : Nat) : (s.modHf n f).lc k = s.lc k := rfl
@[simp] theorem pgc_modHf (s : State) (n : Nat) (f : HalfSt → HalfSt) (k : Nat) : (s.modHf n f).pgc k = s.pgc k := rfl
@[simp] theorem pcv_modHf (s : State) (n : Nat) (f : HalfSt → HalfSt) (k : Nat) : (s.modHf n f).pcv k = s.pcv k := rfl
@[simp] theorem resvOf_modHf (s : State) (n : Nat) (f : HalfSt → HalfSt) (k : Nat) : (s.modHf n f).resvOf k = s.resvOf k := rfl
@[simp] theorem pl_modHf (s : State) (n : Nat) (f : HalfSt → HalfSt) (k : Nat) : (s.modHf n f).pl k = s.pl k := rfl
@[simp] theorem dc_modHf (s : State) (n : Nat) (f : HalfSt → HalfSt) (k : Nat) : (s.modHf n f).dc k = s.dc k := rfl
@[simp] theorem en_modHf (s : State) (n : Nat) (f : HalfSt → HalfSt) (k : Nat) : (s.modHf n f).en k = s.en k := rfl
@[simp] theorem rf_modPrt (s : State) (n : Nat) (f : Port → Port) (g' : Fld) (i' j' : Nat) : (s.modPrt n f).rf g' i' j' = s.rf g' i' j' := rfl
@[simp] theorem rb_modPrt (s : State) (n : Nat) (f : Port → Port) (g' : Fld) (i' j' : Nat) : (s.modPrt n f).rb g' i' j' = s.rb g' i' j' := rfl
@[simp] theorem run_modPrt (s : State) (n : Nat) (f : Port → Port) (g' : Fld) (i' j' : Nat) : (s.modPrt n f).run g' i' j' = s.run g' i' j' := rfl
@[simp] theorem ch_modPrt (s : State) (n : Nat) (f : Port → Port) (k : Nat) : (s.modPrt n f).ch k = s.ch k := rfl
@[simp] theorem hd_modPrt (s : State) (n : Nat) (f : Port → Port) (k : Nat) : (s.modPrt n f).hd k = s.hd k := rfl
@[simp] theorem plSt_modPrt (s : State) (n : Nat) (f : Port → Port) (k : Nat) : (s.modPrt n f).plSt k = s.plSt k := rfl
@[simp] theorem sv_modPrt (s : State) (n : Nat) (f : Port → Port) (k : Nat) : (s.modPrt n f).sv k = s.sv k := rfl
@[simp] theorem tr_modPrt (s : State) (n : Nat) (f : Port → Port) (k : Nat) : (s.modPrt n f).tr k = s.tr k := rfl
@[simp] theorem ln_modPrt (s : State) (n : Nat) (f : Port → Port) (k : Nat) : (s.modPrt n f).ln k = s.ln k := rfl
@[simp] theorem hf_modPrt (s : State) (n : Nat) (f : Port → Port) (k : Nat) : (s.modPrt n f).hf k = s.hf k := rfl
@[simp] theorem sring_modPrt (s : State) (n : Nat) (f : Port → Port) (k : Nat) : (s.modPrt n f).sring k = s.sring k := rfl
@[simp] theorem cring_modPrt (s : State) (n : Nat) (f : Port → Port) (k : Nat) : (s.modPrt n f).cring k = s.cring k := rfl
@[simp] theorem idr_modPrt (s : State) (n : Nat) (f : Port → Port) (k : Nat) : (s.modPrt n f).idr k = s.idr k := rfl
@[simp] theorem lc_modPrt (s : State) (n : Nat) (f : Port → Port) (k : Nat) : (s.modPrt n f).lc k = s.lc k := rfl
@[simp] theorem pgc_modPrt (s : State) (n : Nat) (f : Port → Port) (k : Nat) : (s.modPrt n f).pgc k = s.pgc k := rfl
@[simp] theorem pcv_modPrt (s : State) (n : Nat) (f : Port → Port) (k : Nat) : (s.modPrt n f).pcv k = s.pcv k := rfl
@[simp] theorem resvOf_modPrt (s : State) (n : Nat) (f : Port → Port) (k : Nat) : (s.modPrt n f).resvOf k = s.resvOf k := rfl
@[simp] theorem pl_modPrt (s : State) (n : Nat) (f : Port → Port) (k : Nat) : (s.modPrt n f).pl k = s.pl k := rfl
@[simp] theorem dc_modPrt (s : State) (n : Nat) (f : Port → Port) (k : Nat) : (s.modPrt n f).dc k = s.dc k := rfl
@[simp] theorem en_modPrt (s : State) (n : Nat) (f : Port → Port) (k : Nat) : (s.modPrt n f).en k = s.en k := rfl
@[simp] theorem rf_modSr (s : State) (n : Nat) (f : SubRing → SubRing) (g' : Fld) (i' j' : Nat) : (s.modSr n f).rf g' i' j' = s.rf g' i' j' := rfl
@[simp] theorem rb_modSr (s : State) (n : Nat) (f : SubRing → SubRing) (g' : Fld) (i' j' : Nat) : (s.modSr n f).rb g' i' j' = s.rb g' i' j' := rfl
@[simp] theorem run_modSr (s : State) (n : Nat) (f : SubRing → SubRing) (g' : Fld) (i' j' : Nat) : (s.modSr n f).run g' i' j' = s.run g' i' j' := rfl
@[simp] theorem ch_modSr (s : State) (n : Nat) (f : SubRing → SubRing) (k : Nat) : (s.modSr n f).ch k = s.ch k := rfl
@[simp] theorem hd_modSr (s : State) (n : Nat) (f : SubRing → SubRing) (k : Nat) : (s.modSr n f).hd k = s.hd k := rfl
@[simp] theorem plSt_modSr (s : State) (n : Nat) (f : SubRing → SubRing) (k : Nat) : (s.modSr n f).plSt k = s.plSt k := rfl
@[simp] theorem sv_modSr (s : State) (n : Nat) (f : SubRing → SubRing) (k : Nat) : (s.modSr n f).sv k = s.sv k := rfl
@[simp] theorem tr_modSr (s : State) (n : Nat) (f : SubRing → SubRing) (k : Nat) : (s.modSr n f).tr k = s.tr k := rfl
@[simp] theorem ln_modSr (s : State) (n : Nat) (f : SubRing → SubRing) (k : Nat) : (s.modSr n f).ln k = s.ln k := rfl
@[simp] theorem hf_modSr (s : State) (n : Nat) (f : SubRing → SubRing) (k : Nat) : (s.modSr n f).hf k = s.hf k := rfl
@[simp] theorem prt_modSr (s : State) (n : Nat) (f : SubRing → SubRing) (k : Nat) : (s.modSr n f).prt k = s.prt k := rfl
@[simp] theorem cring_modSr (s : State) (n : Nat) (f : SubRing → SubRing) (k : Nat) : (s.modSr n f).cring k = s.cring k := rfl
@[simp] theorem idr_modSr (s : State) (n : Nat) (f : SubRing → SubRing) (k : Nat) : (s.modSr n f).idr k = s.idr k := rfl
@[simp] theorem lc_modSr (s : State) (n : Nat) (f : SubRing → SubRing) (k : Nat) : (s.modSr n f).lc k = s.lc k := rfl
@[simp] theorem pgc_modSr (s : State) (n : Nat) (f : SubRing → SubRing) (k : Nat) : (s.modSr n f).pgc k = s.pgc k := rfl
@[simp] theorem pcv_modSr (s : State) (n : Nat) (f : SubRing → SubRing) (k : Nat) : (s.modSr n f).pcv k = s.pcv k := rfl
@[simp] theorem resvOf_modSr (s : State) (n : Nat) (f : SubRing → SubRing) (k : Nat) : (s.modSr n f).resvOf k = s.resvOf k := rfl
@[simp] theorem pl_modSr (s : State) (n : Nat) (f : SubRing → SubRing) (k : Nat) : (s.modSr n f).pl k = s.pl k := rfl
@[simp] theorem dc_modSr (s : State) (n : Nat) (f : SubRing → SubRing) (k : Nat) : (s.modSr n f).dc k = s.dc k := rfl
@[simp] theorem en_modSr (s : State) (n : Nat) (f : SubRing → SubRing) (k : Nat) : (s.modSr n f).en k = s.en k := rfl
@[simp] theorem rf_modCr (s : State) (n : Nat) (f : CompRing → CompRing) (g' : Fld) (i' j' : Nat) : (s.modCr n f).rf g' i' j' = s.rf g' i' j' := rfl
@[simp] theorem rb_modCr (s : State) (n : Nat) (f : CompRing → CompRing) (g' : Fld) (i' j' : Nat) : (s.modCr n f).rb g' i' j' = s.rb g' i' j' := rfl
@[simp] theorem run_modCr (s : State) (n : Nat) (f : CompRing → CompRing) (g' : Fld) (i' j' : Nat) : (s.modCr n f).run g' i' j' = s.run g' i' j' := rfl
@[simp] theorem ch_modCr (s : State) (n : Nat) (f : CompRing → CompRing) (k : Nat) : (s.modCr n f).ch k = s.ch k := rfl
@[simp] theorem hd_modCr (s : State) (n : Nat) (f : CompRing → CompRing) (k : Nat) : (s.modCr n f).hd k = s.hd k := rfl
@[simp] theorem plSt_modCr (s : State) (n : Nat) (f : CompRing → CompRing) (k : Nat) : (s.modCr n f).plSt k = s.plSt k := rfl
@[simp] theorem sv_modCr (s : State) (n : Nat) (f : CompRing → CompRing) (k : Nat) : (s.modCr n f).sv k = s.sv k := rfl
@[simp] theorem tr_modCr (s : State) (n : Nat) (f : CompRing → CompRing) (k : Nat) : (s.modCr n f).tr k = s.tr k := rfl
@[simp] theorem ln_modCr (s : State) (n : Nat) (f : CompRing → CompRing) (k : Nat) : (s.modCr n f).ln k = s.ln k := rfl
@[simp] theorem hf_modCr (s : State) (n : Nat) (f : CompRing → CompRing) (k : Nat) : (s.modCr n f).hf k = s.hf k := rfl
@[simp] theorem prt_modCr (s : State) (n : Nat) (f : CompRing → CompRing) (k : Nat) : (s.modCr n f).prt k = s.prt k := rfl
@[simp] theorem sring_modCr (s : State) (n : Nat) (f : CompRing → CompRing) (k : Nat) : (s.modCr n f).sring k = s.sring k := rfl
@[simp] theorem idr_modCr (s : State) (n : Nat) (f : CompRing → CompRing) (k : Nat) : (s.modCr n f).idr k = s.idr k := rfl
@[simp] theorem lc_modCr (s : State) (n : Nat) (f : CompRing → CompRing) (k : Nat) : (s.modCr n f).lc k = s.lc k := rfl
@[simp] theorem pgc_modCr (s : State) (n : Nat) (f : CompRing → CompRing) (k : Nat) : (s.modCr n f).pgc k = s.pgc k := rfl
@[simp] theorem pcv_modCr (s : State) (n : Nat) (f : CompRing → CompRing) (k : Nat) : (s.modCr n f).pcv k = s.pcv k := rfl
@[simp] theorem resvOf_modCr (s : State) (n : Nat) (f : CompRing → CompRing) (k : Nat) : (s.modCr n f).resvOf k = s.resvOf k := rfl
@[simp] theorem pl_modCr (s : State) (n : Nat) (f : CompRing → CompRing) (k : Nat) : (s.modCr n f).pl k = s.pl k := rfl
@[simp] theorem dc_modCr (s : State) (n : Nat) (f : CompRing → CompRing) (k : Nat) : (s.modCr n f).dc k = s.dc k := rfl
@[simp] theorem en_modCr (s : State) (n : Nat) (f : CompRing → CompRing) (k : Nat) : (s.modCr n f).en k = s.en k := rfl
@[simp] theorem rf_modIdr (s : State) (n : Nat) (f : IdRole → IdRole) (g' : Fld) (i' j' : Nat) : (s.modIdr n f).rf g' i' j' = s.rf g' i' j' := rfl
@[simp] theorem rb_modIdr (s : State) (n : Nat) (f : IdRole → IdRole) (g' : Fld) (i' j' : Nat) : (s.modIdr n f).rb g' i' j' = s.rb g' i' j' := rfl
@[simp] theorem run_modIdr (s : State) (n : Nat) (f : IdRole → IdRole) (g' : Fld) (i' j' : Nat) : (s.modIdr n f).run g' i' j' = s.run g' i' j' := rfl
@[simp] theorem ch_modIdr (s : State) (n : Nat) (f : IdRole → IdRole) (k : Nat) : (s.modIdr n f).ch k = s.ch k := rfl
@[simp] theorem hd_modIdr (s : State) (n : Nat) (f : IdRole → IdRole) (k : Nat) : (s.modIdr n f).hd k = s.hd k := rfl
@[simp] theorem plSt_modIdr (s : State) (n : Nat) (f : IdRole → IdRole) (k : Nat) : (s.modIdr n f).plSt k = s.plSt k := rfl
@[simp] theorem sv_modIdr (s : State) (n : Nat) (f : IdRole → IdRole) (k : Nat) : (s.modIdr n f).sv k = s.sv k := rfl
@[simp] theorem tr_modIdr (s : State) (n : Nat) (f : IdRole → IdRole) (k : Nat) : (s.modIdr n f).tr k = s.tr k := rfl
@[simp] theorem ln_modIdr (s : State) (n : Nat) (f : IdRole → IdRole) (k : Nat) : (s.modIdr n f).ln k = s.ln k := rfl
@[simp] theorem hf_modIdr (s : State) (n : Nat) (f : IdRole → IdRole) (k : Nat) : (s.modIdr n f).hf k = s.hf k := rfl
@[simp] theorem prt_modIdr (s : State) (n : Nat) (f : IdRole → IdRole) (k : Nat) : (s.modIdr n f).prt k = s.prt k := rfl
@[simp] theorem sring_modIdr (s : State) (n : Nat) (f : IdRole → IdRole) (k : Nat) : (s.modIdr n f).sring k = s.sring k := rfl
@[simp] theorem cring_modIdr (s : State) (n : Nat) (f : IdRole → IdRole) (k : Nat) : (s.modIdr n f).cring k = s.cring k := rfl
@[simp] theorem lc_modIdr (s : State) (n : Nat) (f : IdRole → IdRole) (k : Nat) : (s.modIdr n f).lc k = s.lc k := rfl
@[simp] theorem pgc_modIdr (s : State) (n : Nat) (f : IdRole → IdRole) (k : Nat) : (s.modIdr n f).pgc k = s.pgc k := rfl
@[simp] theorem pcv_modIdr (s : State) (n : Nat) (f : IdRole → IdRole) (k : Nat) : (s.modIdr n f).pcv k = s.pcv k := rfl
@[simp] theorem resvOf_modIdr (s : State) (n : Nat) (f : IdRole → IdRole) (k : Nat) : (s.modIdr n f).resvOf k = s.resvOf k := rfl
@[simp] theorem pl_modIdr (s : State) (n : Nat) (f : IdRole → IdRole) (k : Nat) : (s.modIdr n f).pl k = s.pl k := rfl
@[simp] theorem dc_modIdr (s : State) (n : Nat) (f : IdRole → IdRole) (k : Nat) : (s.modIdr n f).dc k = s.dc k := rfl
@[simp] theorem en_modIdr (s : State) (n : Nat) (f : IdRole → IdRole) (k : Nat) : (s.modIdr n f).en k = s.en k := rfl
@[simp] theorem rf_modLc (s : State) (n : Nat) (f : CellSt → CellSt) (g' : Fld) (i' j' : Nat) : (s.modLc n f).rf g' i' j' = s.rf g' i' j' := rfl
@[simp] theorem rb_modLc (s : State) (n : Nat) (f : CellSt → CellSt) (g' : Fld) (i' j' : Nat) : (s.modLc n f).rb g' i' j' = s.rb g' i' j' := rfl
@[simp] theorem run_modLc (s : State) (n : Nat) (f : CellSt → CellSt) (g' : Fld) (i' j' : Nat) : (s.modLc n f).run g' i' j' = s.run g' i' j' := rfl
@[simp] theorem ch_modLc (s : State) (n : Nat) (f : CellSt → CellSt) (k : Nat) : (s.modLc n f).ch k = s.ch k := rfl
@[simp] theorem hd_modLc (s : State) (n : Nat) (f : CellSt → CellSt) (k : Nat) : (s.modLc n f).hd k = s.hd k := rfl
@[simp] theorem plSt_modLc (s : State) (n : Nat) (f : CellSt → CellSt) (k : Nat) : (s.modLc n f).plSt k = s.plSt k := rfl
@[simp] theorem sv_modLc (s : State) (n : Nat) (f : CellSt → CellSt) (k : Nat) : (s.modLc n f).sv k = s.sv k := rfl
@[simp] theorem tr_modLc (s : State) (n : Nat) (f : CellSt → CellSt) (k : Nat) : (s.modLc n f).tr k = s.tr k := rfl
@[simp] theorem ln_modLc (s : State) (n : Nat) (f : CellSt → CellSt) (k : Nat) : (s.modLc n f).ln k = s.ln k := rfl
@[simp] theorem hf_modLc (s : State) (n : Nat) (f : CellSt → CellSt) (k : Nat) : (s.modLc n f).hf k = s.hf k := rfl
@[simp] theorem prt_modLc (s : State) (n : Nat) (f : CellSt → CellSt) (k : Nat) : (s.modLc n f).prt k = s.prt k := rfl
@[simp] theorem sring_modLc (s : State) (n : Nat) (f : CellSt → CellSt) (k : Nat) : (s.modLc n f).sring k = s.sring k := rfl
@[simp] theorem cring_modLc (s : State) (n : Nat) (f : CellSt → CellSt) (k : Nat) : (s.modLc n f).cring k = s.cring k := rfl
@[simp] theorem idr_modLc (s : State) (n : Nat) (f : CellSt → CellSt) (k : Nat) : (s.modLc n f).idr k = s.idr k := rfl
@[simp] theorem pgc_modLc (s : State) (n : Nat) (f : CellSt → CellSt) (k : Nat) : (s.modLc n f).pgc k = s.pgc k := rfl
@[simp] theorem pcv_modLc (s : State) (n : Nat) (f : CellSt → CellSt) (k : Nat) : (s.modLc n f).pcv k = s.pcv k := rfl
@[simp] theorem resvOf_modLc (s : State) (n : Nat) (f : CellSt → CellSt) (k : Nat) : (s.modLc n f).resvOf k = s.resvOf k := rfl
@[simp] theorem pl_modLc (s : State) (n : Nat) (f : CellSt → CellSt) (k : Nat) : (s.modLc n f).pl k = s.pl k := rfl
@[simp] theorem dc_modLc (s : State) (n : Nat) (f : CellSt → CellSt) (k : Nat) : (s.modLc n f).dc k = s.dc k := rfl
@[simp] theorem en_modLc (s : State) (n : Nat) (f : CellSt → CellSt) (k : Nat) : (s.modLc n f).en k = s.en k := rfl
@[simp] theorem rf_modPg (s : State) (n : Nat) (f : PgSt → PgSt) (g' : Fld) (i' j' : Nat) : (s.modPg n f).rf g' i' j' = s.rf g' i' j' := rfl
@[simp] theorem rb_modPg (s : State) (n : Nat) (f : PgSt → PgSt) (g' : Fld) (i' j' : Nat) : (s.modPg n f).rb g' i' j' = s.rb g' i' j' := rfl
@[simp] theorem run_modPg (s : State) (n : Nat) (f : PgSt → PgSt) (g' : Fld) (i' j' : Nat) : (s.modPg n f).run g' i' j' = s.run g' i' j' := rfl
@[simp] theorem ch_modPg (s : State) (n : Nat) (f : PgSt → PgSt) (k : Nat) : (s.modPg n f).ch k = s.ch k := rfl
@[simp] theorem hd_modPg (s : State) (n : Nat) (f : PgSt → PgSt) (k : Nat) : (s.modPg n f).hd k = s.hd k := rfl
@[simp] theorem plSt_modPg (s : State) (n : Nat) (f : PgSt → PgSt) (k : Nat) : (s.modPg n f).plSt k = s.plSt k := rfl
@[simp] theorem sv_modPg (s : State) (n : Nat) (f : PgSt → PgSt) (k : Nat) : (s.modPg n f).sv k = s.sv k := rfl
@[simp] theorem tr_modPg (s : State) (n : Nat) (f : PgSt → PgSt) (k : Nat) : (s.modPg n f).tr k = s.tr k := rfl
@[simp] theorem ln_modPg (s : State) (n : Nat) (f : PgSt → PgSt) (k : Nat) : (s.modPg n f).ln k = s.ln k := rfl
@[simp] theorem hf_modPg (s : State) (n : Nat) (f : PgSt → PgSt) (k : Nat) : (s.modPg n f).hf k = s.hf k := rfl
@[simp] theorem prt_modPg (s : State) (n : Nat) (f : PgSt → PgSt) (k : Nat) : (s.modPg n f).prt k = s.prt k := rfl
@[simp] theorem sring_modPg (s : State) (n : Nat) (f : PgSt → PgSt) (k : Nat) : (s.modPg n f).sring k = s.sring k := rfl
@[simp] theorem cring_modPg (s : State) (n : Nat) (f : PgSt → PgSt) (k : Nat) : (s.modPg n f).cring k = s.cring k := rfl
@[simp] theorem idr_modPg (s : State) (n : Nat) (f : PgSt → PgSt) (k : Nat) : (s.modPg n f).idr k = s.idr k := rfl
@[simp] theorem lc_modPg (s : State) (n : Nat) (f : PgSt → PgSt) (k : Nat) : (s.modPg n f).lc k = s.lc k := rfl
@[simp] theorem pcv_modPg (s : State) (n : Nat) (f : PgSt → PgSt) (k : Nat) : (s.modPg n f).pcv k = s.pcv k := rfl
@[simp] theorem resvOf_modPg (s : State) (n : Nat) (f : PgSt → PgSt) (k : Nat) : (s.modPg n f).resvOf k = s.resvOf k := rfl
@[simp] theorem pl_modPg (s : State) (n : Nat) (f : PgSt → PgSt) (k : Nat) : (s.modPg n f).pl k = s.pl k := rfl
@[simp] theorem dc_modPg (s : State) (n : Nat) (f : PgSt → PgSt) (k : Nat) : (s.modPg n f).dc k = s.dc k := rfl
@[simp] theorem en_modPg (s : State) (n : Nat) (f : PgSt → PgSt) (k : Nat) : (s.modPg n f).en k = s.en k := rfl
@[simp] theorem rf_modPc (s : State) (n : Nat) (f : PcSt → PcSt) (g' : Fld) (i' j' : Nat) : (s.modPc n f).rf g' i' j' = s.rf g' i' j' := rfl
@[simp] theorem rb_modPc (s : State) (n : Nat) (f : PcSt → PcSt) (g' : Fld) (i' j' : Nat) : (s.modPc n f).rb g' i' j' = s.rb g' i' j' := rfl
@[simp] theorem run_modPc (s : State) (n : Nat) (f : PcSt → PcSt) (g' : Fld) (i' j' : Nat) : (s.modPc n f).run g' i' j' = s.run g' i' j' := rfl
@[simp] theorem ch_modPc (s : State) (n : Nat) (f : PcSt → PcSt) (k : Nat) : (s.modPc n f).ch k = s.ch k := rfl
@[simp] theorem hd_modPc (s : State) (n : Nat) (f : PcSt → PcSt) (k : Nat) : (s.modPc n f).hd k = s.hd k := rfl
@[simp] theorem plSt_modPc (s : State) (n : Nat) (f : PcSt → PcSt) (k : Nat) : (s.modPc n f).plSt k = s.plSt k := rfl
@[simp] theorem sv_modPc (s : State) (n : Nat) (f : PcSt → PcSt) (k : Nat) : (s.modPc n f).sv k = s.sv k := rfl
@[simp] theorem tr_modPc (s : State) (n : Nat) (f : PcSt → PcSt) (k : Nat) : (s.modPc n f).tr k = s.tr k := rfl
@[simp] theorem ln_modPc (s : State) (n : Nat) (f : PcSt → PcSt) (k : Nat) : (s.modPc n f).ln k = s.ln k := rfl
@[simp] theorem hf_modPc (s : State) (n : Nat) (f : PcSt → PcSt) (k : Nat) : (s.modPc n f).hf k = s.hf k := rfl
@[simp] theorem prt_modPc (s : State) (n : Nat) (f : PcSt → PcSt) (k : Nat) : (s.modPc n f).prt k = s.prt k := rfl
@[simp] theorem sring_modPc (s : State) (n : Nat) (f : PcSt → PcSt) (k : Nat) : (s.modPc n f).sring k = s.sring k := rfl
@[simp] theorem cring_modPc (s : State) (n : Nat) (f : PcSt → PcSt) (k : Nat) : (s.modPc n f).cring k = s.cring k := rfl
@[simp] theorem idr_modPc (s : State) (n : Nat) (f : PcSt → PcSt) (k : Nat) : (s.modPc n f).idr k = s.idr k := rfl
@[simp] theorem lc_modPc (s : State) (n : Nat) (f : PcSt → PcSt) (k : Nat) : (s.modPc n f).lc k = s.lc k := rfl
@[simp] theorem pgc_modPc (s : State) (n : Nat) (f : PcSt → PcSt) (k : Nat) : (s.modPc n f).pgc k = s.pgc k := rfl
@[simp] theorem resvOf_modPc (s : State) (n : Nat) (f : PcSt → PcSt) (k : Nat) : (s.modPc n f).resvOf k = s.resvOf k := rfl
@[simp] theorem pl_modPc (s : State) (n : Nat) (f : PcSt → PcSt) (k : Nat) : (s.modPc n f).pl k = s.pl k := rfl
@[simp] theorem dc_modPc (s : State) (n : Nat) (f : PcSt → PcSt) (k : Nat) : (s.modPc n f).dc k = s.dc k := rfl
@[simp] theorem en_modPc (s : State) (n : Nat) (f : PcSt → PcSt) (k : Nat) : (s.modPc n f).en k = s.en k := rfl
@[simp] theorem rf_modResv (s : State) (n : Nat) (f : Resv → Resv) (g' : Fld) (i' j' : Nat) : (s.modResv n f).rf g' i' j' = s.rf g' i' j' := rfl
@[simp] theorem rb_modResv (s : State) (n : Nat) (f : Resv → Resv) (g' : Fld) (i' j' : Nat) : (s.modResv n f).rb g' i' j' = s.rb g' i' j' := rfl
@[simp] theorem run_modResv (s : State) (n : Nat) (f : Resv → Resv) (g' : Fld) (i' j' : Nat) : (s.modResv n f).run g' i' j' = s.run g' i' j' := rfl
@[simp] theorem ch_modResv (s : State) (n : Nat) (f : Resv → Resv) (k : Nat) : (s.modResv n f).ch k = s.ch k := rfl
@[simp] theorem hd_modResv (s : State) (n : Nat) (f : Resv → Resv) (k : Nat) : (s.modResv n f).hd k = s.hd k := rfl
@[simp] theorem plSt_modResv (s : State) (n : Nat) (f : Resv → Resv) (k : Nat) : (s.modResv n f).plSt k = s.plSt k := rfl
@[simp] theorem sv_modResv (s : State) (n : Nat) (f : Resv → Resv) (k : Nat) : (s.modResv n f).sv k = s.sv k := rfl
@[simp] theorem tr_modResv (s : State) (n : Nat) (f : Resv → Resv) (k : Nat) : (s.modResv n f).tr k = s.tr k := rfl
@[simp] theorem ln_modResv (s : State) (n : Nat) (f : Resv → Resv) (k : Nat) : (s.modResv n f).ln k = s.ln k := rfl
@[simp] theorem hf_modResv (s : State) (n : Nat) (f : Resv → Resv) (k : Nat) : (s.modResv n f).hf k = s.hf k := rfl
@[simp] theorem prt_modResv (s : State) (n : Nat) (f : Resv → Resv) (k : Nat) : (s.modResv n f).prt k = s.prt k := rfl
@[simp] theorem sring_modResv (s : State) (n : Nat) (f : Resv → Resv) (k : Nat) : (s.modResv n f).sring k = s.sring k := rfl
@[simp] theorem cring_modResv (s : State) (n : Nat) (f : Resv → Resv) (k : Nat) : (s.modResv n f).cring k = s.cring k := rfl
@[simp] theorem idr_modResv (s : State) (n : Nat) (f : Resv → Resv) (k : Nat) : (s.modResv n f).idr k = s.idr k := rfl
@[simp] theorem lc_modResv (s : State) (n : Nat) (f : Resv → Resv) (k : Nat) : (s.modResv n f).lc k = s.lc k := rfl
@[simp] theorem pgc_modResv (s : State) (n : Nat) (f : Resv → Resv) (k : Nat) : (s.modResv n f).pgc k = s.pgc k := rfl
@[simp] theorem pcv_modResv (s : State) (n : Nat) (f : Resv → Resv) (k : Nat) : (s.modResv n f).pcv k = s.pcv k := rfl
@[simp] theorem pl_modResv (s : State) (n : Nat) (f : Resv → Resv) (k : Nat) : (s.modResv n f).pl k = s.pl k := rfl
@[simp] theorem dc_modResv (s : State) (n : Nat) (f : Resv → Resv) (k : Nat) : (s.modResv n f).dc k = s.dc k := rfl
@[simp] theorem en_modResv (s : State) (n : Nat) (f : Resv → Resv) (k : Nat) : (s.modResv n f).en k = s.en k := rfl
@[simp] theorem rf_modPool (s : State) (n : Nat) (f : Pool → Pool) (g' : Fld) (i' j' : Nat) : (s.modPool n f).rf g' i' j' = s.rf g' i' j' := rfl
@[simp] theorem rb_modPool (s : State) (n : Nat) (f : Pool → Pool) (g' : Fld) (i' j' : Nat) : (s.modPool n f).rb g' i' j' = s.rb g' i' j' := rfl
@[simp] theorem run_modPool (s : State) (n : Nat) (f : Pool → Pool) (g' : Fld) (i' j' : Nat) : (s.modPool n f).run g' i' j' = s.run g' i' j' := rfl
@[simp] theorem ch_modPool (s : State) (n : Nat) (f : Pool → Pool) (k : Nat) : (s.modPool n f).ch k = s.ch k := rfl
@[simp] theorem hd_modPool (s : State) (n : Nat) (f : Pool → Pool) (k : Nat) : (s.modPool n f).hd k = s.hd k := rfl
@[simp] theorem plSt_modPool (s : State) (n : Nat) (f : Pool → Pool) (k : Nat) : (s.modPool n f).plSt k = s.plSt k := rfl
@[simp] theorem sv_modPool (s : State) (n : Nat) (f : Pool → Pool) (k : Nat) : (s.modPool n f).sv k = s.sv k := rfl
@[simp] theorem tr_modPool (s : State) (n : Nat) (f : Pool → Pool) (k : Nat) : (s.modPool n f).tr k = s.tr k := rfl
@[simp] theorem ln_modPool (s : State) (n : Nat) (f : Pool → Pool) (k : Nat) : (s.modPool n f).ln k = s.ln k := rfl
@[simp] theorem hf_modPool (s : State) (n : Nat) (f : Pool → Pool) (k : Nat) : (s.modPool n f).hf k = s.hf k := rfl
@[simp] theorem prt_modPool (s : State) (n : Nat) (f : Pool → Pool) (k : Nat) : (s.modPool n f).prt k = s.prt k := rfl
@[simp] theorem sring_modPool (s : State) (n : Nat) (f : Pool → Pool) (k : Nat) : (s.modPool n f).sring k = s.sring k := rfl
@[simp] theorem cring_modPool (s : State) (n : Nat) (f : Pool → Pool) (k : Nat) : (s.modPool n f).cring k = s.cring k := rfl
@[simp] theorem idr_modPool (s : State) (n : Nat) (f : Pool → Pool) (k : Nat) : (s.modPool n f).idr k = s.idr k := rfl
@[simp] theorem lc_modPool (s : State) (n : Nat) (f : Pool → Pool) (k : Nat) : (s.modPool n f).lc k = s.lc k := rfl
@[simp] theorem pgc_modPool (s : State) (n : Nat) (f : Pool → Pool) (k : Nat) : (s.modPool n f).pgc k = s.pgc k := rfl
@[simp] theorem pcv_modPool (s : State) (n : Nat) (f : Pool → Pool) (k : Nat) : (s.modPool n f).pcv k = s.pcv k := rfl
@[simp] theorem resvOf_modPool (s : State) (n : Nat) (f : Pool → Pool) (k : Nat) : (s.modPool n f).resvOf k = s.resvOf k := rfl
@[simp] theorem dc_modPool (s : State) (n : Nat) (f : Pool → Pool) (k : Nat) : (s.modPool n f).dc k = s.dc k := rfl
@[simp] theorem en_modPool (s : State) (n : Nat) (f : Pool → Pool) (k : Nat) : (s.modPool n f).en k = s.en k := rfl
@[simp] theorem rf_modDc (s : State) (n : Nat) (f : DmaCh → DmaCh) (g' : Fld) (i' j' : Nat) : (s.modDc n f).rf g' i' j' = s.rf g' i' j' := rfl
@[simp] theorem rb_modDc (s : State) (n : Nat) (f : DmaCh → DmaCh) (g' : Fld) (i' j' : Nat) : (s.modDc n f).rb g' i' j' = s.rb g' i' j' := rfl
@[simp] theorem run_modDc (s : State) (n : Nat) (f : DmaCh → DmaCh) (g' : Fld) (i' j' : Nat) : (s.modDc n f).run g' i' j' = s.run g' i' j' := rfl
@[simp] theorem ch_modDc (s : State) (n : Nat) (f : DmaCh → DmaCh) (k : Nat) : (s.modDc n f).ch k = s.ch k := rfl
@[simp] theorem hd_modDc (s : State) (n : Nat) (f : DmaCh → DmaCh) (k : Nat) : (s.modDc n f).hd k = s.hd k := rfl
@[simp] theorem plSt_modDc (s : State) (n : Nat) (f : DmaCh → DmaCh) (k : Nat) : (s.modDc n f).plSt k = s.plSt k := rfl
@[simp] theorem sv_modDc (s : State) (n : Nat) (f : DmaCh → DmaCh) (k : Nat) : (s.modDc n f).sv k = s.sv k := rfl
@[simp] theorem tr_modDc (s : State) (n : Nat) (f : DmaCh → DmaCh) (k : Nat) : (s.modDc n f).tr k = s.tr k := rfl
@[simp] theorem ln_modDc (s : State) (n : Nat) (f : DmaCh → DmaCh) (k : Nat) : (s.modDc n f).ln k = s.ln k := rfl
@[simp] theorem hf_modDc (s : State) (n : Nat) (f : DmaCh → DmaCh) (k : Nat) : (s.modDc n f).hf k = s.hf k := rfl
@[simp] theorem prt_modDc (s : State) (n : Nat) (f : DmaCh → DmaCh) (k : Nat) : (s.modDc n f).prt k = s.prt k := rfl
@[simp] theorem sring_modDc (s : State) (n : Nat) (f : DmaCh → DmaCh) (k : Nat) : (s.modDc n f).sring k = s.sring k := rfl
@[simp] theorem cring_modDc (s : State) (n : Nat) (f : DmaCh → DmaCh) (k : Nat) : (s.modDc n f).cring k = s.cring k := rfl
@[simp] theorem idr_modDc (s : State) (n : Nat) (f : DmaCh → DmaCh) (k : Nat) : (s.modDc n f).idr k = s.idr k := rfl
@[simp] theorem lc_modDc (s : State) (n : Nat) (f : DmaCh → DmaCh) (k : Nat) : (s.modDc n f).lc k = s.lc k := rfl
@[simp] theorem pgc_modDc (s : State) (n : Nat) (f : DmaCh → DmaCh) (k : Nat) : (s.modDc n f).pgc k = s.pgc k := rfl
@[simp] theorem pcv_modDc (s : State) (n : Nat) (f : DmaCh → DmaCh) (k : Nat) : (s.modDc n f).pcv k = s.pcv k := rfl
@[simp] theorem resvOf_modDc (s : State) (n : Nat) (f : DmaCh → DmaCh) (k : Nat) : (s.modDc n f).resvOf k = s.resvOf k := rfl
@[simp] theorem pl_modDc (s : State) (n : Nat) (f : DmaCh → DmaCh) (k : Nat) : (s.modDc n f).pl k = s.pl k := rfl
@[simp] theorem en_modDc (s : State) (n : Nat) (f : DmaCh → DmaCh) (k : Nat) : (s.modDc n f).en k = s.en k := rfl
@[simp] theorem rf_modEn (s : State) (n : Nat) (f : Engine → Engine) (g' : Fld) (i' j' : Nat) : (s.modEn n f).rf g' i' j' = s.rf g' i' j' := rfl
@[simp] theorem rb_modEn (s : State) (n : Nat) (f : Engine → Engine) (g' : Fld) (i' j' : Nat) : (s.modEn n f).rb g' i' j' = s.rb g' i' j' := rfl
@[simp] theorem run_modEn (s : State) (n : Nat) (f : Engine → Engine) (g' : Fld) (i' j' : Nat) : (s.modEn n f).run g' i' j' = s.run g' i' j' := rfl
@[simp] theorem ch_modEn (s : State) (n : Nat) (f : Engine → Engine) (k : Nat) : (s.modEn n f).ch k = s.ch k := rfl
@[simp] theorem hd_modEn (s : State) (n : Nat) (f : Engine → Engine) (k : Nat) : (s.modEn n f).hd k = s.hd k := rfl
@[simp] theorem plSt_modEn (s : State) (n : Nat) (f : Engine → Engine) (k : Nat) : (s.modEn n f).plSt k = s.plSt k := rfl
@[simp] theorem sv_modEn (s : State) (n : Nat) (f : Engine → Engine) (k : Nat) : (s.modEn n f).sv k = s.sv k := rfl
@[simp] theorem tr_modEn (s : State) (n : Nat) (f : Engine → Engine) (k : Nat) : (s.modEn n f).tr k = s.tr k := rfl
@[simp] theorem ln_modEn (s : State) (n : Nat) (f : Engine → Engine) (k : Nat) : (s.modEn n f).ln k = s.ln k := rfl
@[simp] theorem hf_modEn (s : State) (n : Nat) (f : Engine → Engine) (k : Nat) : (s.modEn n f).hf k = s.hf k := rfl
@[simp] theorem prt_modEn (s : State) (n : Nat) (f : Engine → Engine) (k : Nat) : (s.modEn n f).prt k = s.prt k := rfl
@[simp] theorem sring_modEn (s : State) (n : Nat) (f : Engine → Engine) (k : Nat) : (s.modEn n f).sring k = s.sring k := rfl
@[simp] theorem cring_modEn (s : State) (n : Nat) (f : Engine → Engine) (k : Nat) : (s.modEn n f).cring k = s.cring k := rfl
@[simp] theorem idr_modEn (s : State) (n : Nat) (f : Engine → Engine) (k : Nat) : (s.modEn n f).idr k = s.idr k := rfl
@[simp] theorem lc_modEn (s : State) (n : Nat) (f : Engine → Engine) (k : Nat) : (s.modEn n f).lc k = s.lc k := rfl
@[simp] theorem pgc_modEn (s : State) (n : Nat) (f : Engine → Engine) (k : Nat) : (s.modEn n f).pgc k = s.pgc k := rfl
@[simp] theorem pcv_modEn (s : State) (n : Nat) (f : Engine → Engine) (k : Nat) : (s.modEn n f).pcv k = s.pcv k := rfl
@[simp] theorem resvOf_modEn (s : State) (n : Nat) (f : Engine → Engine) (k : Nat) : (s.modEn n f).resvOf k = s.resvOf k := rfl
@[simp] theorem pl_modEn (s : State) (n : Nat) (f : Engine → Engine) (k : Nat) : (s.modEn n f).pl k = s.pl k := rfl
@[simp] theorem dc_modEn (s : State) (n : Nat) (f : Engine → Engine) (k : Nat) : (s.modEn n f).dc k = s.dc k := rfl
@[simp] theorem rf_modCmd (s : State) (n : Nat) (f : Cmd → Cmd) (g' : Fld) (i' j' : Nat) : (s.modCmd n f).rf g' i' j' = s.rf g' i' j' := rfl
@[simp] theorem rb_modCmd (s : State) (n : Nat) (f : Cmd → Cmd) (g' : Fld) (i' j' : Nat) : (s.modCmd n f).rb g' i' j' = s.rb g' i' j' := rfl
@[simp] theorem run_modCmd (s : State) (n : Nat) (f : Cmd → Cmd) (g' : Fld) (i' j' : Nat) : (s.modCmd n f).run g' i' j' = s.run g' i' j' := rfl
@[simp] theorem ch_modCmd (s : State) (n : Nat) (f : Cmd → Cmd) (k : Nat) : (s.modCmd n f).ch k = s.ch k := rfl
@[simp] theorem hd_modCmd (s : State) (n : Nat) (f : Cmd → Cmd) (k : Nat) : (s.modCmd n f).hd k = s.hd k := rfl
@[simp] theorem plSt_modCmd (s : State) (n : Nat) (f : Cmd → Cmd) (k : Nat) : (s.modCmd n f).plSt k = s.plSt k := rfl
@[simp] theorem sv_modCmd (s : State) (n : Nat) (f : Cmd → Cmd) (k : Nat) : (s.modCmd n f).sv k = s.sv k := rfl
@[simp] theorem tr_modCmd (s : State) (n : Nat) (f : Cmd → Cmd) (k : Nat) : (s.modCmd n f).tr k = s.tr k := rfl
@[simp] theorem ln_modCmd (s : State) (n : Nat) (f : Cmd → Cmd) (k : Nat) : (s.modCmd n f).ln k = s.ln k := rfl
@[simp] theorem hf_modCmd (s : State) (n : Nat) (f : Cmd → Cmd) (k : Nat) : (s.modCmd n f).hf k = s.hf k := rfl
@[simp] theorem prt_modCmd (s : State) (n : Nat) (f : Cmd → Cmd) (k : Nat) : (s.modCmd n f).prt k = s.prt k := rfl
@[simp] theorem sring_modCmd (s : State) (n : Nat) (f : Cmd → Cmd) (k : Nat) : (s.modCmd n f).sring k = s.sring k := rfl
@[simp] theorem cring_modCmd (s : State) (n : Nat) (f : Cmd → Cmd) (k : Nat) : (s.modCmd n f).cring k = s.cring k := rfl
@[simp] theorem idr_modCmd (s : State) (n : Nat) (f : Cmd → Cmd) (k : Nat) : (s.modCmd n f).idr k = s.idr k := rfl
@[simp] theorem lc_modCmd (s : State) (n : Nat) (f : Cmd → Cmd) (k : Nat) : (s.modCmd n f).lc k = s.lc k := rfl
@[simp] theorem pgc_modCmd (s : State) (n : Nat) (f : Cmd → Cmd) (k : Nat) : (s.modCmd n f).pgc k = s.pgc k := rfl
@[simp] theorem pcv_modCmd (s : State) (n : Nat) (f : Cmd → Cmd) (k : Nat) : (s.modCmd n f).pcv k = s.pcv k := rfl
@[simp] theorem resvOf_modCmd (s : State) (n : Nat) (f : Cmd → Cmd) (k : Nat) : (s.modCmd n f).resvOf k = s.resvOf k := rfl
@[simp] theorem pl_modCmd (s : State) (n : Nat) (f : Cmd → Cmd) (k : Nat) : (s.modCmd n f).pl k = s.pl k := rfl
@[simp] theorem dc_modCmd (s : State) (n : Nat) (f : Cmd → Cmd) (k : Nat) : (s.modCmd n f).dc k = s.dc k := rfl
@[simp] theorem en_modCmd (s : State) (n : Nat) (f : Cmd → Cmd) (k : Nat) : (s.modCmd n f).en k = s.en k := rfl
@[simp] theorem rf_modSpin (s : State) (f : Spin → Spin) (g' : Fld) (i' j' : Nat) : (s.modSpin f).rf g' i' j' = s.rf g' i' j' := rfl
@[simp] theorem rb_modSpin (s : State) (f : Spin → Spin) (g' : Fld) (i' j' : Nat) : (s.modSpin f).rb g' i' j' = s.rb g' i' j' := rfl
@[simp] theorem run_modSpin (s : State) (f : Spin → Spin) (g' : Fld) (i' j' : Nat) : (s.modSpin f).run g' i' j' = s.run g' i' j' := rfl
@[simp] theorem ch_modSpin (s : State) (f : Spin → Spin) (k : Nat) : (s.modSpin f).ch k = s.ch k := rfl
@[simp] theorem hd_modSpin (s : State) (f : Spin → Spin) (k : Nat) : (s.modSpin f).hd k = s.hd k := rfl
@[simp] theorem plSt_modSpin (s : State) (f : Spin → Spin) (k : Nat) : (s.modSpin f).plSt k = s.plSt k := rfl
@[simp] theorem sv_modSpin (s : State) (f : Spin → Spin) (k : Nat) : (s.modSpin f).sv k = s.sv k := rfl
@[simp] theorem tr_modSpin (s : State) (f : Spin → Spin) (k : Nat) : (s.modSpin f).tr k = s.tr k := rfl
@[simp] theorem ln_modSpin (s : State) (f : Spin → Spin) (k : Nat) : (s.modSpin f).ln k = s.ln k := rfl
@[simp] theorem hf_modSpin (s : State) (f : Spin → Spin) (k : Nat) : (s.modSpin f).hf k = s.hf k := rfl
@[simp] theorem prt_modSpin (s : State) (f : Spin → Spin) (k : Nat) : (s.modSpin f).prt k = s.prt k := rfl
@[simp] theorem sring_modSpin (s : State) (f : Spin → Spin) (k : Nat) : (s.modSpin f).sring k = s.sring k := rfl
@[simp] theorem cring_modSpin (s : State) (f : Spin → Spin) (k : Nat) : (s.modSpin f).cring k = s.cring k := rfl
@[simp] theorem idr_modSpin (s : State) (f : Spin → Spin) (k : Nat) : (s.modSpin f).idr k = s.idr k := rfl
@[simp] theorem lc_modSpin (s : State) (f : Spin → Spin) (k : Nat) : (s.modSpin f).lc k = s.lc k := rfl
@[simp] theorem pgc_modSpin (s : State) (f : Spin → Spin) (k : Nat) : (s.modSpin f).pgc k = s.pgc k := rfl
@[simp] theorem pcv_modSpin (s : State) (f : Spin → Spin) (k : Nat) : (s.modSpin f).pcv k = s.pcv k := rfl
@[simp] theorem resvOf_modSpin (s : State) (f : Spin → Spin) (k : Nat) : (s.modSpin f).resvOf k = s.resvOf k := rfl
@[simp] theorem pl_modSpin (s : State) (f : Spin → Spin) (k : Nat) : (s.modSpin f).pl k = s.pl k := rfl
@[simp] theorem dc_modSpin (s : State) (f : Spin → Spin) (k : Nat) : (s.modSpin f).dc k = s.dc k := rfl
@[simp] theorem en_modSpin (s : State) (f : Spin → Spin) (k : Nat) : (s.modSpin f).en k = s.en k := rfl
@[simp] theorem ch_wb (s : State) (g : Fld) (b : Bool) (i j k : Nat) : (s.wb g b i j).ch k = s.ch k := rfl
@[simp] theorem hd_wb (s : State) (g : Fld) (b : Bool) (i j k : Nat) : (s.wb g b i j).hd k = s.hd k := rfl
@[simp] theorem plSt_wb (s : State) (g : Fld) (b : Bool) (i j k : Nat) : (s.wb g b i j).plSt k = s.plSt k := rfl
@[simp] theorem sv_wb (s : State) (g : Fld) (b : Bool) (i j k : Nat) : (s.wb g b i j).sv k = s.sv k := rfl
@[simp] theorem tr_wb (s : State) (g : Fld) (b : Bool) (i j k : Nat) : (s.wb g b i j).tr k = s.tr k := rfl
@[simp] theorem ln_wb (s : State) (g : Fld) (b : Bool) (i j k : Nat) : (s.wb g b i j).ln k = s.ln k := rfl
@[simp] theorem hf_wb (s : State) (g : Fld) (b : Bool) (i j k : Nat) : (s.wb g b i j).hf k = s.hf k := rfl
@[simp] theorem prt_wb (s : State) (g : Fld) (b : Bool) (i j k : Nat) : (s.wb g b i j).prt k = s.prt k := rfl
@[simp] theorem sring_wb (s : State) (g : Fld) (b : Bool) (i j k : Nat) : (s.wb g b i j).sring k = s.sring k := rfl
@[simp] theorem cring_wb (s : State) (g : Fld) (b : Bool) (i j k : Nat) : (s.wb g b i j).cring k = s.cring k := rfl
@[simp] theorem idr_wb (s : State) (g : Fld) (b : Bool) (i j k : Nat) : (s.wb g b i j).idr k = s.idr k := rfl
@[simp] theorem lc_wb (s : State) (g : Fld) (b : Bool) (i j k : Nat) : (s.wb g b i j).lc k = s.lc k := rfl
@[simp] theorem pgc_wb (s : State) (g : Fld) (b : Bool) (i j k : Nat) : (s.wb g b i j).pgc k = s.pgc k := rfl
@[simp] theorem pcv_wb (s : State) (g : Fld) (b : Bool) (i j k : Nat) : (s.wb g b i j).pcv k = s.pcv k := rfl
@[simp] theorem resvOf_wb (s : State) (g : Fld) (b : Bool) (i j k : Nat) : (s.wb g b i j).resvOf k = s.resvOf k := rfl
@[simp] theorem pl_wb (s : State) (g : Fld) (b : Bool) (i j k : Nat) : (s.wb g b i j).pl k = s.pl k := rfl
@[simp] theorem dc_wb (s : State) (g : Fld) (b : Bool) (i j k : Nat) : (s.wb g b i j).dc k = s.dc k := rfl
@[simp] theorem en_wb (s : State) (g : Fld) (b : Bool) (i j k : Nat) : (s.wb g b i j).en k = s.en k := rfl

/-! ### Fields under updates -/

@[simp] theorem partF_wf (s : State) (g : Fld) (v i j : Nat) : (s.wf g v i j).part = s.part := rfl
@[simp] theorem coreTimeF_wf (s : State) (g : Fld) (v i j : Nat) : (s.wf g v i j).coreTime = s.coreTime := rfl
@[simp] theorem regsRunF_wf (s : State) (g : Fld) (v i j : Nat) : (s.wf g v i j).regsRun = s.regsRun := rfl
@[simp] theorem odF_wf (s : State) (g : Fld) (v i j : Nat) : (s.wf g v i j).od = s.od := rfl
@[simp] theorem odRunF_wf (s : State) (g : Fld) (v i j : Nat) : (s.wf g v i j).odRun = s.odRun := rfl
@[simp] theorem odPendingF_wf (s : State) (g : Fld) (v i j : Nat) : (s.wf g v i j).odPending = s.odPending := rfl
@[simp] theorem storeF_wf (s : State) (g : Fld) (v i j : Nat) : (s.wf g v i j).store = s.store := rfl
@[simp] theorem storeRegsF_wf (s : State) (g : Fld) (v i j : Nat) : (s.wf g v i j).storeRegs = s.storeRegs := rfl
@[simp] theorem storeValidF_wf (s : State) (g : Fld) (v i j : Nat) : (s.wf g v i j).storeValid = s.storeValid := rfl
@[simp] theorem storeGenF_wf (s : State) (g : Fld) (v i j : Nat) : (s.wf g v i j).storeGen = s.storeGen := rfl
@[simp] theorem perSrcF_wf (s : State) (g : Fld) (v i j : Nat) : (s.wf g v i j).perSrc = s.perSrc := rfl
@[simp] theorem nonceF_wf (s : State) (g : Fld) (v i j : Nat) : (s.wf g v i j).nonce = s.nonce := rfl
@[simp] theorem asmF_wf (s : State) (g : Fld) (v i j : Nat) : (s.wf g v i j).asm = s.asm := rfl
@[simp] theorem odWaitF_wf (s : State) (g : Fld) (v i j : Nat) : (s.wf g v i j).odWait = s.odWait := rfl
@[simp] theorem commitBootF_wf (s : State) (g : Fld) (v i j : Nat) : (s.wf g v i j).commitBoot = s.commitBoot := rfl
@[simp] theorem failIndexF_wf (s : State) (g : Fld) (v i j : Nat) : (s.wf g v i j).failIndex = s.failIndex := rfl
@[simp] theorem failSubF_wf (s : State) (g : Fld) (v i j : Nat) : (s.wf g v i j).failSub = s.failSub := rfl
@[simp] theorem crossingF_wf (s : State) (g : Fld) (v i j : Nat) : (s.wf g v i j).crossing = s.crossing := rfl
@[simp] theorem flipMaskF_wf (s : State) (g : Fld) (v i j : Nat) : (s.wf g v i j).flipMask = s.flipMask := rfl
@[simp] theorem fetchStampF_wf (s : State) (g : Fld) (v i j : Nat) : (s.wf g v i j).fetchStamp = s.fetchStamp := rfl
@[simp] theorem writeGenF_wf (s : State) (g : Fld) (v i j : Nat) : (s.wf g v i j).writeGen = s.writeGen := rfl
@[simp] theorem crDoorF_wf (s : State) (g : Fld) (v i j : Nat) : (s.wf g v i j).crDoor = s.crDoor := rfl
@[simp] theorem fcF_wf (s : State) (g : Fld) (v i j : Nat) : (s.wf g v i j).fc = s.fc := rfl
@[simp] theorem recdF_wf (s : State) (g : Fld) (v i j : Nat) : (s.wf g v i j).recd = s.recd := rfl
@[simp] theorem healthF_wf (s : State) (g : Fld) (v i j : Nat) : (s.wf g v i j).health = s.health := rfl
@[simp] theorem hostTimeF_wf (s : State) (g : Fld) (v i j : Nat) : (s.wf g v i j).hostTime = s.hostTime := rfl
@[simp] theorem zlF_wf (s : State) (g : Fld) (v i j : Nat) : (s.wf g v i j).zl = s.zl := rfl
@[simp] theorem pwrF_wf (s : State) (g : Fld) (v i j : Nat) : (s.wf g v i j).pwr = s.pwr := rfl
@[simp] theorem secF_wf (s : State) (g : Fld) (v i j : Nat) : (s.wf g v i j).sec = s.sec := rfl
@[simp] theorem portF_wf (s : State) (g : Fld) (v i j : Nat) : (s.wf g v i j).port = s.port := rfl
@[simp] theorem srF_wf (s : State) (g : Fld) (v i j : Nat) : (s.wf g v i j).sr = s.sr := rfl
@[simp] theorem crF_wf (s : State) (g : Fld) (v i j : Nat) : (s.wf g v i j).cr = s.cr := rfl
@[simp] theorem rengF_wf (s : State) (g : Fld) (v i j : Nat) : (s.wf g v i j).reng = s.reng := rfl
@[simp] theorem cmdsF_wf (s : State) (g : Fld) (v i j : Nat) : (s.wf g v i j).cmds = s.cmds := rfl
@[simp] theorem dirtyF_wf (s : State) (g : Fld) (v i j : Nat) : (s.wf g v i j).dirty = s.dirty := rfl
@[simp] theorem dchF_wf (s : State) (g : Fld) (v i j : Nat) : (s.wf g v i j).dch = s.dch := rfl
@[simp] theorem engF_wf (s : State) (g : Fld) (v i j : Nat) : (s.wf g v i j).eng = s.eng := rfl
@[simp] theorem dtuF_wf (s : State) (g : Fld) (v i j : Nat) : (s.wf g v i j).dtu = s.dtu := rfl
@[simp] theorem objF_wf (s : State) (g : Fld) (v i j : Nat) : (s.wf g v i j).obj = s.obj := rfl
@[simp] theorem resvF_wf (s : State) (g : Fld) (v i j : Nat) : (s.wf g v i j).resv = s.resv := rfl
@[simp] theorem purgeF_wf (s : State) (g : Fld) (v i j : Nat) : (s.wf g v i j).purge = s.purge := rfl
@[simp] theorem droppedF_wf (s : State) (g : Fld) (v i j : Nat) : (s.wf g v i j).dropped = s.dropped := rfl
@[simp] theorem codeRetiredF_wf (s : State) (g : Fld) (v i j : Nat) : (s.wf g v i j).codeRetired = s.codeRetired := rfl
@[simp] theorem poolF_wf (s : State) (g : Fld) (v i j : Nat) : (s.wf g v i j).pool = s.pool := rfl
@[simp] theorem headF_wf (s : State) (g : Fld) (v i j : Nat) : (s.wf g v i j).head = s.head := rfl
@[simp] theorem plinkF_wf (s : State) (g : Fld) (v i j : Nat) : (s.wf g v i j).plink = s.plink := rfl
@[simp] theorem paF_wf (s : State) (g : Fld) (v i j : Nat) : (s.wf g v i j).pa = s.pa := rfl
@[simp] theorem identF_wf (s : State) (g : Fld) (v i j : Nat) : (s.wf g v i j).ident = s.ident := rfl
@[simp] theorem chanF_wf (s : State) (g : Fld) (v i j : Nat) : (s.wf g v i j).chan = s.chan := rfl
@[simp] theorem mstageF_wf (s : State) (g : Fld) (v i j : Nat) : (s.wf g v i j).mstage = s.mstage := rfl
@[simp] theorem bootBadF_wf (s : State) (g : Fld) (v i j : Nat) : (s.wf g v i j).bootBad = s.bootBad := rfl
@[simp] theorem truF_wf (s : State) (g : Fld) (v i j : Nat) : (s.wf g v i j).tru = s.tru := rfl
@[simp] theorem calSetF_wf (s : State) (g : Fld) (v i j : Nat) : (s.wf g v i j).calSet = s.calSet := rfl
@[simp] theorem schedF_wf (s : State) (g : Fld) (v i j : Nat) : (s.wf g v i j).sched = s.sched := rfl
@[simp] theorem pdlF_wf (s : State) (g : Fld) (v i j : Nat) : (s.wf g v i j).pdl = s.pdl := rfl
@[simp] theorem gdlF_wf (s : State) (g : Fld) (v i j : Nat) : (s.wf g v i j).gdl = s.gdl := rfl
@[simp] theorem surfRetiredF_wf (s : State) (g : Fld) (v i j : Nat) : (s.wf g v i j).surfRetired = s.surfRetired := rfl
@[simp] theorem laneF_wf (s : State) (g : Fld) (v i j : Nat) : (s.wf g v i j).lane = s.lane := rfl
@[simp] theorem halfF_wf (s : State) (g : Fld) (v i j : Nat) : (s.wf g v i j).half = s.half := rfl
@[simp] theorem cruF_wf (s : State) (g : Fld) (v i j : Nat) : (s.wf g v i j).cru = s.cru := rfl
@[simp] theorem updatesF_wf (s : State) (g : Fld) (v i j : Nat) : (s.wf g v i j).updates = s.updates := rfl
@[simp] theorem openStripesF_wf (s : State) (g : Fld) (v i j : Nat) : (s.wf g v i j).openStripes = s.openStripes := rfl
@[simp] theorem savedStripesF_wf (s : State) (g : Fld) (v i j : Nat) : (s.wf g v i j).savedStripes = s.savedStripes := rfl
@[simp] theorem holesF_wf (s : State) (g : Fld) (v i j : Nat) : (s.wf g v i j).holes = s.holes := rfl
@[simp] theorem rebuildsF_wf (s : State) (g : Fld) (v i j : Nat) : (s.wf g v i j).rebuilds = s.rebuilds := rfl
@[simp] theorem verifiesF_wf (s : State) (g : Fld) (v i j : Nat) : (s.wf g v i j).verifies = s.verifies := rfl
@[simp] theorem rewritesF_wf (s : State) (g : Fld) (v i j : Nat) : (s.wf g v i j).rewrites = s.rewrites := rfl
@[simp] theorem readyF_wf (s : State) (g : Fld) (v i j : Nat) : (s.wf g v i j).ready = s.ready := rfl
@[simp] theorem cellF_wf (s : State) (g : Fld) (v i j : Nat) : (s.wf g v i j).cell = s.cell := rfl
@[simp] theorem mlaneF_wf (s : State) (g : Fld) (v i j : Nat) : (s.wf g v i j).mlane = s.mlane := rfl
@[simp] theorem pgF_wf (s : State) (g : Fld) (v i j : Nat) : (s.wf g v i j).pg = s.pg := rfl
@[simp] theorem plausF_wf (s : State) (g : Fld) (v i j : Nat) : (s.wf g v i j).plaus = s.plaus := rfl
@[simp] theorem mrecF_wf (s : State) (g : Fld) (v i j : Nat) : (s.wf g v i j).mrec = s.mrec := rfl
@[simp] theorem servoF_wf (s : State) (g : Fld) (v i j : Nat) : (s.wf g v i j).servo = s.servo := rfl
@[simp] theorem shockHeldF_wf (s : State) (g : Fld) (v i j : Nat) : (s.wf g v i j).shockHeld = s.shockHeld := rfl
@[simp] theorem spinF_wf (s : State) (g : Fld) (v i j : Nat) : (s.wf g v i j).spin = s.spin := rfl
@[simp] theorem memF_wf (s : State) (g : Fld) (v i j : Nat) : (s.wf g v i j).mem = s.mem := rfl
@[simp] theorem bufF_wf (s : State) (g : Fld) (v i j : Nat) : (s.wf g v i j).buf = s.buf := rfl
@[simp] theorem mccF_wf (s : State) (g : Fld) (v i j : Nat) : (s.wf g v i j).mcc = s.mcc := rfl
@[simp] theorem lifeF_wf (s : State) (g : Fld) (v i j : Nat) : (s.wf g v i j).life = s.life := rfl
@[simp] theorem freeF_wf (s : State) (g : Fld) (v i j : Nat) : (s.wf g v i j).free = s.free := rfl
@[simp] theorem outF_wf (s : State) (g : Fld) (v i j : Nat) : (s.wf g v i j).out = s.out := rfl
@[simp] theorem pendingF_wf (s : State) (g : Fld) (v i j : Nat) : (s.wf g v i j).pending = s.pending := rfl
@[simp] theorem partF_emit (s : State) (o : Out) : (s.emit o).part = s.part := rfl
@[simp] theorem coreTimeF_emit (s : State) (o : Out) : (s.emit o).coreTime = s.coreTime := rfl
@[simp] theorem regsF_emit (s : State) (o : Out) : (s.emit o).regs = s.regs := rfl
@[simp] theorem regsRunF_emit (s : State) (o : Out) : (s.emit o).regsRun = s.regsRun := rfl
@[simp] theorem odF_emit (s : State) (o : Out) : (s.emit o).od = s.od := rfl
@[simp] theorem odRunF_emit (s : State) (o : Out) : (s.emit o).odRun = s.odRun := rfl
@[simp] theorem odPendingF_emit (s : State) (o : Out) : (s.emit o).odPending = s.odPending := rfl
@[simp] theorem storeF_emit (s : State) (o : Out) : (s.emit o).store = s.store := rfl
@[simp] theorem storeRegsF_emit (s : State) (o : Out) : (s.emit o).storeRegs = s.storeRegs := rfl
@[simp] theorem storeValidF_emit (s : State) (o : Out) : (s.emit o).storeValid = s.storeValid := rfl
@[simp] theorem storeGenF_emit (s : State) (o : Out) : (s.emit o).storeGen = s.storeGen := rfl
@[simp] theorem perSrcF_emit (s : State) (o : Out) : (s.emit o).perSrc = s.perSrc := rfl
@[simp] theorem nonceF_emit (s : State) (o : Out) : (s.emit o).nonce = s.nonce := rfl
@[simp] theorem asmF_emit (s : State) (o : Out) : (s.emit o).asm = s.asm := rfl
@[simp] theorem odWaitF_emit (s : State) (o : Out) : (s.emit o).odWait = s.odWait := rfl
@[simp] theorem commitBootF_emit (s : State) (o : Out) : (s.emit o).commitBoot = s.commitBoot := rfl
@[simp] theorem failIndexF_emit (s : State) (o : Out) : (s.emit o).failIndex = s.failIndex := rfl
@[simp] theorem failSubF_emit (s : State) (o : Out) : (s.emit o).failSub = s.failSub := rfl
@[simp] theorem crossingF_emit (s : State) (o : Out) : (s.emit o).crossing = s.crossing := rfl
@[simp] theorem flipMaskF_emit (s : State) (o : Out) : (s.emit o).flipMask = s.flipMask := rfl
@[simp] theorem fetchStampF_emit (s : State) (o : Out) : (s.emit o).fetchStamp = s.fetchStamp := rfl
@[simp] theorem writeGenF_emit (s : State) (o : Out) : (s.emit o).writeGen = s.writeGen := rfl
@[simp] theorem crDoorF_emit (s : State) (o : Out) : (s.emit o).crDoor = s.crDoor := rfl
@[simp] theorem fcF_emit (s : State) (o : Out) : (s.emit o).fc = s.fc := rfl
@[simp] theorem recdF_emit (s : State) (o : Out) : (s.emit o).recd = s.recd := rfl
@[simp] theorem healthF_emit (s : State) (o : Out) : (s.emit o).health = s.health := rfl
@[simp] theorem hostTimeF_emit (s : State) (o : Out) : (s.emit o).hostTime = s.hostTime := rfl
@[simp] theorem zlF_emit (s : State) (o : Out) : (s.emit o).zl = s.zl := rfl
@[simp] theorem pwrF_emit (s : State) (o : Out) : (s.emit o).pwr = s.pwr := rfl
@[simp] theorem secF_emit (s : State) (o : Out) : (s.emit o).sec = s.sec := rfl
@[simp] theorem portF_emit (s : State) (o : Out) : (s.emit o).port = s.port := rfl
@[simp] theorem srF_emit (s : State) (o : Out) : (s.emit o).sr = s.sr := rfl
@[simp] theorem crF_emit (s : State) (o : Out) : (s.emit o).cr = s.cr := rfl
@[simp] theorem rengF_emit (s : State) (o : Out) : (s.emit o).reng = s.reng := rfl
@[simp] theorem cmdsF_emit (s : State) (o : Out) : (s.emit o).cmds = s.cmds := rfl
@[simp] theorem dirtyF_emit (s : State) (o : Out) : (s.emit o).dirty = s.dirty := rfl
@[simp] theorem dchF_emit (s : State) (o : Out) : (s.emit o).dch = s.dch := rfl
@[simp] theorem engF_emit (s : State) (o : Out) : (s.emit o).eng = s.eng := rfl
@[simp] theorem dtuF_emit (s : State) (o : Out) : (s.emit o).dtu = s.dtu := rfl
@[simp] theorem objF_emit (s : State) (o : Out) : (s.emit o).obj = s.obj := rfl
@[simp] theorem resvF_emit (s : State) (o : Out) : (s.emit o).resv = s.resv := rfl
@[simp] theorem purgeF_emit (s : State) (o : Out) : (s.emit o).purge = s.purge := rfl
@[simp] theorem droppedF_emit (s : State) (o : Out) : (s.emit o).dropped = s.dropped := rfl
@[simp] theorem codeRetiredF_emit (s : State) (o : Out) : (s.emit o).codeRetired = s.codeRetired := rfl
@[simp] theorem poolF_emit (s : State) (o : Out) : (s.emit o).pool = s.pool := rfl
@[simp] theorem headF_emit (s : State) (o : Out) : (s.emit o).head = s.head := rfl
@[simp] theorem plinkF_emit (s : State) (o : Out) : (s.emit o).plink = s.plink := rfl
@[simp] theorem paF_emit (s : State) (o : Out) : (s.emit o).pa = s.pa := rfl
@[simp] theorem identF_emit (s : State) (o : Out) : (s.emit o).ident = s.ident := rfl
@[simp] theorem chanF_emit (s : State) (o : Out) : (s.emit o).chan = s.chan := rfl
@[simp] theorem mstageF_emit (s : State) (o : Out) : (s.emit o).mstage = s.mstage := rfl
@[simp] theorem bootBadF_emit (s : State) (o : Out) : (s.emit o).bootBad = s.bootBad := rfl
@[simp] theorem truF_emit (s : State) (o : Out) : (s.emit o).tru = s.tru := rfl
@[simp] theorem calSetF_emit (s : State) (o : Out) : (s.emit o).calSet = s.calSet := rfl
@[simp] theorem schedF_emit (s : State) (o : Out) : (s.emit o).sched = s.sched := rfl
@[simp] theorem pdlF_emit (s : State) (o : Out) : (s.emit o).pdl = s.pdl := rfl
@[simp] theorem gdlF_emit (s : State) (o : Out) : (s.emit o).gdl = s.gdl := rfl
@[simp] theorem surfRetiredF_emit (s : State) (o : Out) : (s.emit o).surfRetired = s.surfRetired := rfl
@[simp] theorem laneF_emit (s : State) (o : Out) : (s.emit o).lane = s.lane := rfl
@[simp] theorem halfF_emit (s : State) (o : Out) : (s.emit o).half = s.half := rfl
@[simp] theorem cruF_emit (s : State) (o : Out) : (s.emit o).cru = s.cru := rfl
@[simp] theorem updatesF_emit (s : State) (o : Out) : (s.emit o).updates = s.updates := rfl
@[simp] theorem openStripesF_emit (s : State) (o : Out) : (s.emit o).openStripes = s.openStripes := rfl
@[simp] theorem savedStripesF_emit (s : State) (o : Out) : (s.emit o).savedStripes = s.savedStripes := rfl
@[simp] theorem holesF_emit (s : State) (o : Out) : (s.emit o).holes = s.holes := rfl
@[simp] theorem rebuildsF_emit (s : State) (o : Out) : (s.emit o).rebuilds = s.rebuilds := rfl
@[simp] theorem verifiesF_emit (s : State) (o : Out) : (s.emit o).verifies = s.verifies := rfl
@[simp] theorem rewritesF_emit (s : State) (o : Out) : (s.emit o).rewrites = s.rewrites := rfl
@[simp] theorem readyF_emit (s : State) (o : Out) : (s.emit o).ready = s.ready := rfl
@[simp] theorem cellF_emit (s : State) (o : Out) : (s.emit o).cell = s.cell := rfl
@[simp] theorem mlaneF_emit (s : State) (o : Out) : (s.emit o).mlane = s.mlane := rfl
@[simp] theorem pgF_emit (s : State) (o : Out) : (s.emit o).pg = s.pg := rfl
@[simp] theorem plausF_emit (s : State) (o : Out) : (s.emit o).plaus = s.plaus := rfl
@[simp] theorem mrecF_emit (s : State) (o : Out) : (s.emit o).mrec = s.mrec := rfl
@[simp] theorem servoF_emit (s : State) (o : Out) : (s.emit o).servo = s.servo := rfl
@[simp] theorem shockHeldF_emit (s : State) (o : Out) : (s.emit o).shockHeld = s.shockHeld := rfl
@[simp] theorem spinF_emit (s : State) (o : Out) : (s.emit o).spin = s.spin := rfl
@[simp] theorem memF_emit (s : State) (o : Out) : (s.emit o).mem = s.mem := rfl
@[simp] theorem bufF_emit (s : State) (o : Out) : (s.emit o).buf = s.buf := rfl
@[simp] theorem mccF_emit (s : State) (o : Out) : (s.emit o).mcc = s.mcc := rfl
@[simp] theorem lifeF_emit (s : State) (o : Out) : (s.emit o).life = s.life := rfl
@[simp] theorem freeF_emit (s : State) (o : Out) : (s.emit o).free = s.free := rfl
@[simp] theorem pendingF_emit (s : State) (o : Out) : (s.emit o).pending = s.pending := rfl
@[simp] theorem partF_useFree (s : State)  : (s.useFree ).part = s.part := rfl
@[simp] theorem coreTimeF_useFree (s : State)  : (s.useFree ).coreTime = s.coreTime := rfl
@[simp] theorem regsF_useFree (s : State)  : (s.useFree ).regs = s.regs := rfl
@[simp] theorem regsRunF_useFree (s : State)  : (s.useFree ).regsRun = s.regsRun := rfl
@[simp] theorem odF_useFree (s : State)  : (s.useFree ).od = s.od := rfl
@[simp] theorem odRunF_useFree (s : State)  : (s.useFree ).odRun = s.odRun := rfl
@[simp] theorem odPendingF_useFree (s : State)  : (s.useFree ).odPending = s.odPending := rfl
@[simp] theorem storeF_useFree (s : State)  : (s.useFree ).store = s.store := rfl
@[simp] theorem storeRegsF_useFree (s : State)  : (s.useFree ).storeRegs = s.storeRegs := rfl
@[simp] theorem storeValidF_useFree (s : State)  : (s.useFree ).storeValid = s.storeValid := rfl
@[simp] theorem storeGenF_useFree (s : State)  : (s.useFree ).storeGen = s.storeGen := rfl
@[simp] theorem perSrcF_useFree (s : State)  : (s.useFree ).perSrc = s.perSrc := rfl
@[simp] theorem nonceF_useFree (s : State)  : (s.useFree ).nonce = s.nonce := rfl
@[simp] theorem asmF_useFree (s : State)  : (s.useFree ).asm = s.asm := rfl
@[simp] theorem odWaitF_useFree (s : State)  : (s.useFree ).odWait = s.odWait := rfl
@[simp] theorem commitBootF_useFree (s : State)  : (s.useFree ).commitBoot = s.commitBoot := rfl
@[simp] theorem failIndexF_useFree (s : State)  : (s.useFree ).failIndex = s.failIndex := rfl
@[simp] theorem failSubF_useFree (s : State)  : (s.useFree ).failSub = s.failSub := rfl
@[simp] theorem crossingF_useFree (s : State)  : (s.useFree ).crossing = s.crossing := rfl
@[simp] theorem flipMaskF_useFree (s : State)  : (s.useFree ).flipMask = s.flipMask := rfl
@[simp] theorem fetchStampF_useFree (s : State)  : (s.useFree ).fetchStamp = s.fetchStamp := rfl
@[simp] theorem writeGenF_useFree (s : State)  : (s.useFree ).writeGen = s.writeGen := rfl
@[simp] theorem crDoorF_useFree (s : State)  : (s.useFree ).crDoor = s.crDoor := rfl
@[simp] theorem fcF_useFree (s : State)  : (s.useFree ).fc = s.fc := rfl
@[simp] theorem recdF_useFree (s : State)  : (s.useFree ).recd = s.recd := rfl
@[simp] theorem healthF_useFree (s : State)  : (s.useFree ).health = s.health := rfl
@[simp] theorem hostTimeF_useFree (s : State)  : (s.useFree ).hostTime = s.hostTime := rfl
@[simp] theorem zlF_useFree (s : State)  : (s.useFree ).zl = s.zl := rfl
@[simp] theorem pwrF_useFree (s : State)  : (s.useFree ).pwr = s.pwr := rfl
@[simp] theorem secF_useFree (s : State)  : (s.useFree ).sec = s.sec := rfl
@[simp] theorem portF_useFree (s : State)  : (s.useFree ).port = s.port := rfl
@[simp] theorem srF_useFree (s : State)  : (s.useFree ).sr = s.sr := rfl
@[simp] theorem crF_useFree (s : State)  : (s.useFree ).cr = s.cr := rfl
@[simp] theorem rengF_useFree (s : State)  : (s.useFree ).reng = s.reng := rfl
@[simp] theorem cmdsF_useFree (s : State)  : (s.useFree ).cmds = s.cmds := rfl
@[simp] theorem dirtyF_useFree (s : State)  : (s.useFree ).dirty = s.dirty := rfl
@[simp] theorem dchF_useFree (s : State)  : (s.useFree ).dch = s.dch := rfl
@[simp] theorem engF_useFree (s : State)  : (s.useFree ).eng = s.eng := rfl
@[simp] theorem dtuF_useFree (s : State)  : (s.useFree ).dtu = s.dtu := rfl
@[simp] theorem objF_useFree (s : State)  : (s.useFree ).obj = s.obj := rfl
@[simp] theorem resvF_useFree (s : State)  : (s.useFree ).resv = s.resv := rfl
@[simp] theorem purgeF_useFree (s : State)  : (s.useFree ).purge = s.purge := rfl
@[simp] theorem droppedF_useFree (s : State)  : (s.useFree ).dropped = s.dropped := rfl
@[simp] theorem codeRetiredF_useFree (s : State)  : (s.useFree ).codeRetired = s.codeRetired := rfl
@[simp] theorem poolF_useFree (s : State)  : (s.useFree ).pool = s.pool := rfl
@[simp] theorem headF_useFree (s : State)  : (s.useFree ).head = s.head := rfl
@[simp] theorem plinkF_useFree (s : State)  : (s.useFree ).plink = s.plink := rfl
@[simp] theorem paF_useFree (s : State)  : (s.useFree ).pa = s.pa := rfl
@[simp] theorem identF_useFree (s : State)  : (s.useFree ).ident = s.ident := rfl
@[simp] theorem chanF_useFree (s : State)  : (s.useFree ).chan = s.chan := rfl
@[simp] theorem mstageF_useFree (s : State)  : (s.useFree ).mstage = s.mstage := rfl
@[simp] theorem bootBadF_useFree (s : State)  : (s.useFree ).bootBad = s.bootBad := rfl
@[simp] theorem truF_useFree (s : State)  : (s.useFree ).tru = s.tru := rfl
@[simp] theorem calSetF_useFree (s : State)  : (s.useFree ).calSet = s.calSet := rfl
@[simp] theorem schedF_useFree (s : State)  : (s.useFree ).sched = s.sched := rfl
@[simp] theorem pdlF_useFree (s : State)  : (s.useFree ).pdl = s.pdl := rfl
@[simp] theorem gdlF_useFree (s : State)  : (s.useFree ).gdl = s.gdl := rfl
@[simp] theorem surfRetiredF_useFree (s : State)  : (s.useFree ).surfRetired = s.surfRetired := rfl
@[simp] theorem laneF_useFree (s : State)  : (s.useFree ).lane = s.lane := rfl
@[simp] theorem halfF_useFree (s : State)  : (s.useFree ).half = s.half := rfl
@[simp] theorem cruF_useFree (s : State)  : (s.useFree ).cru = s.cru := rfl
@[simp] theorem updatesF_useFree (s : State)  : (s.useFree ).updates = s.updates := rfl
@[simp] theorem openStripesF_useFree (s : State)  : (s.useFree ).openStripes = s.openStripes := rfl
@[simp] theorem savedStripesF_useFree (s : State)  : (s.useFree ).savedStripes = s.savedStripes := rfl
@[simp] theorem holesF_useFree (s : State)  : (s.useFree ).holes = s.holes := rfl
@[simp] theorem rebuildsF_useFree (s : State)  : (s.useFree ).rebuilds = s.rebuilds := rfl
@[simp] theorem verifiesF_useFree (s : State)  : (s.useFree ).verifies = s.verifies := rfl
@[simp] theorem rewritesF_useFree (s : State)  : (s.useFree ).rewrites = s.rewrites := rfl
@[simp] theorem readyF_useFree (s : State)  : (s.useFree ).ready = s.ready := rfl
@[simp] theorem cellF_useFree (s : State)  : (s.useFree ).cell = s.cell := rfl
@[simp] theorem mlaneF_useFree (s : State)  : (s.useFree ).mlane = s.mlane := rfl
@[simp] theorem pgF_useFree (s : State)  : (s.useFree ).pg = s.pg := rfl
@[simp] theorem plausF_useFree (s : State)  : (s.useFree ).plaus = s.plaus := rfl
@[simp] theorem mrecF_useFree (s : State)  : (s.useFree ).mrec = s.mrec := rfl
@[simp] theorem servoF_useFree (s : State)  : (s.useFree ).servo = s.servo := rfl
@[simp] theorem shockHeldF_useFree (s : State)  : (s.useFree ).shockHeld = s.shockHeld := rfl
@[simp] theorem spinF_useFree (s : State)  : (s.useFree ).spin = s.spin := rfl
@[simp] theorem memF_useFree (s : State)  : (s.useFree ).mem = s.mem := rfl
@[simp] theorem bufF_useFree (s : State)  : (s.useFree ).buf = s.buf := rfl
@[simp] theorem mccF_useFree (s : State)  : (s.useFree ).mcc = s.mcc := rfl
@[simp] theorem lifeF_useFree (s : State)  : (s.useFree ).life = s.life := rfl
@[simp] theorem outF_useFree (s : State)  : (s.useFree ).out = s.out := rfl
@[simp] theorem pendingF_useFree (s : State)  : (s.useFree ).pending = s.pending := rfl
@[simp] theorem partF_modCh (s : State) (n : Nat) (f : ChanSt → ChanSt) : (s.modCh n f).part = s.part := rfl
@[simp] theorem coreTimeF_modCh (s : State) (n : Nat) (f : ChanSt → ChanSt) : (s.modCh n f).coreTime = s.coreTime := rfl
@[simp] theorem regsF_modCh (s : State) (n : Nat) (f : ChanSt → ChanSt) : (s.modCh n f).regs = s.regs := rfl
@[simp] theorem regsRunF_modCh (s : State) (n : Nat) (f : ChanSt → ChanSt) : (s.modCh n f).regsRun = s.regsRun := rfl
@[simp] theorem odF_modCh (s : State) (n : Nat) (f : ChanSt → ChanSt) : (s.modCh n f).od = s.od := rfl
@[simp] theorem odRunF_modCh (s : State) (n : Nat) (f : ChanSt → ChanSt) : (s.modCh n f).odRun = s.odRun := rfl
@[simp] theorem odPendingF_modCh (s : State) (n : Nat) (f : ChanSt → ChanSt) : (s.modCh n f).odPending = s.odPending := rfl
@[simp] theorem storeF_modCh (s : State) (n : Nat) (f : ChanSt → ChanSt) : (s.modCh n f).store = s.store := rfl
@[simp] theorem storeRegsF_modCh (s : State) (n : Nat) (f : ChanSt → ChanSt) : (s.modCh n f).storeRegs = s.storeRegs := rfl
@[simp] theorem storeValidF_modCh (s : State) (n : Nat) (f : ChanSt → ChanSt) : (s.modCh n f).storeValid = s.storeValid := rfl
@[simp] theorem storeGenF_modCh (s : State) (n : Nat) (f : ChanSt → ChanSt) : (s.modCh n f).storeGen = s.storeGen := rfl
@[simp] theorem perSrcF_modCh (s : State) (n : Nat) (f : ChanSt → ChanSt) : (s.modCh n f).perSrc = s.perSrc := rfl
@[simp] theorem nonceF_modCh (s : State) (n : Nat) (f : ChanSt → ChanSt) : (s.modCh n f).nonce = s.nonce := rfl
@[simp] theorem asmF_modCh (s : State) (n : Nat) (f : ChanSt → ChanSt) : (s.modCh n f).asm = s.asm := rfl
@[simp] theorem odWaitF_modCh (s : State) (n : Nat) (f : ChanSt → ChanSt) : (s.modCh n f).odWait = s.odWait := rfl
@[simp] theorem commitBootF_modCh (s : State) (n : Nat) (f : ChanSt → ChanSt) : (s.modCh n f).commitBoot = s.commitBoot := rfl
@[simp] theorem failIndexF_modCh (s : State) (n : Nat) (f : ChanSt → ChanSt) : (s.modCh n f).failIndex = s.failIndex := rfl
@[simp] theorem failSubF_modCh (s : State) (n : Nat) (f : ChanSt → ChanSt) : (s.modCh n f).failSub = s.failSub := rfl
@[simp] theorem crossingF_modCh (s : State) (n : Nat) (f : ChanSt → ChanSt) : (s.modCh n f).crossing = s.crossing := rfl
@[simp] theorem flipMaskF_modCh (s : State) (n : Nat) (f : ChanSt → ChanSt) : (s.modCh n f).flipMask = s.flipMask := rfl
@[simp] theorem fetchStampF_modCh (s : State) (n : Nat) (f : ChanSt → ChanSt) : (s.modCh n f).fetchStamp = s.fetchStamp := rfl
@[simp] theorem writeGenF_modCh (s : State) (n : Nat) (f : ChanSt → ChanSt) : (s.modCh n f).writeGen = s.writeGen := rfl
@[simp] theorem crDoorF_modCh (s : State) (n : Nat) (f : ChanSt → ChanSt) : (s.modCh n f).crDoor = s.crDoor := rfl
@[simp] theorem fcF_modCh (s : State) (n : Nat) (f : ChanSt → ChanSt) : (s.modCh n f).fc = s.fc := rfl
@[simp] theorem recdF_modCh (s : State) (n : Nat) (f : ChanSt → ChanSt) : (s.modCh n f).recd = s.recd := rfl
@[simp] theorem healthF_modCh (s : State) (n : Nat) (f : ChanSt → ChanSt) : (s.modCh n f).health = s.health := rfl
@[simp] theorem hostTimeF_modCh (s : State) (n : Nat) (f : ChanSt → ChanSt) : (s.modCh n f).hostTime = s.hostTime := rfl
@[simp] theorem zlF_modCh (s : State) (n : Nat) (f : ChanSt → ChanSt) : (s.modCh n f).zl = s.zl := rfl
@[simp] theorem pwrF_modCh (s : State) (n : Nat) (f : ChanSt → ChanSt) : (s.modCh n f).pwr = s.pwr := rfl
@[simp] theorem secF_modCh (s : State) (n : Nat) (f : ChanSt → ChanSt) : (s.modCh n f).sec = s.sec := rfl
@[simp] theorem portF_modCh (s : State) (n : Nat) (f : ChanSt → ChanSt) : (s.modCh n f).port = s.port := rfl
@[simp] theorem srF_modCh (s : State) (n : Nat) (f : ChanSt → ChanSt) : (s.modCh n f).sr = s.sr := rfl
@[simp] theorem crF_modCh (s : State) (n : Nat) (f : ChanSt → ChanSt) : (s.modCh n f).cr = s.cr := rfl
@[simp] theorem rengF_modCh (s : State) (n : Nat) (f : ChanSt → ChanSt) : (s.modCh n f).reng = s.reng := rfl
@[simp] theorem cmdsF_modCh (s : State) (n : Nat) (f : ChanSt → ChanSt) : (s.modCh n f).cmds = s.cmds := rfl
@[simp] theorem dirtyF_modCh (s : State) (n : Nat) (f : ChanSt → ChanSt) : (s.modCh n f).dirty = s.dirty := rfl
@[simp] theorem dchF_modCh (s : State) (n : Nat) (f : ChanSt → ChanSt) : (s.modCh n f).dch = s.dch := rfl
@[simp] theorem engF_modCh (s : State) (n : Nat) (f : ChanSt → ChanSt) : (s.modCh n f).eng = s.eng := rfl
@[simp] theorem dtuF_modCh (s : State) (n : Nat) (f : ChanSt → ChanSt) : (s.modCh n f).dtu = s.dtu := rfl
@[simp] theorem objF_modCh (s : State) (n : Nat) (f : ChanSt → ChanSt) : (s.modCh n f).obj = s.obj := rfl
@[simp] theorem resvF_modCh (s : State) (n : Nat) (f : ChanSt → ChanSt) : (s.modCh n f).resv = s.resv := rfl
@[simp] theorem purgeF_modCh (s : State) (n : Nat) (f : ChanSt → ChanSt) : (s.modCh n f).purge = s.purge := rfl
@[simp] theorem droppedF_modCh (s : State) (n : Nat) (f : ChanSt → ChanSt) : (s.modCh n f).dropped = s.dropped := rfl
@[simp] theorem codeRetiredF_modCh (s : State) (n : Nat) (f : ChanSt → ChanSt) : (s.modCh n f).codeRetired = s.codeRetired := rfl
@[simp] theorem poolF_modCh (s : State) (n : Nat) (f : ChanSt → ChanSt) : (s.modCh n f).pool = s.pool := rfl
@[simp] theorem headF_modCh (s : State) (n : Nat) (f : ChanSt → ChanSt) : (s.modCh n f).head = s.head := rfl
@[simp] theorem plinkF_modCh (s : State) (n : Nat) (f : ChanSt → ChanSt) : (s.modCh n f).plink = s.plink := rfl
@[simp] theorem paF_modCh (s : State) (n : Nat) (f : ChanSt → ChanSt) : (s.modCh n f).pa = s.pa := rfl
@[simp] theorem identF_modCh (s : State) (n : Nat) (f : ChanSt → ChanSt) : (s.modCh n f).ident = s.ident := rfl
@[simp] theorem mstageF_modCh (s : State) (n : Nat) (f : ChanSt → ChanSt) : (s.modCh n f).mstage = s.mstage := rfl
@[simp] theorem bootBadF_modCh (s : State) (n : Nat) (f : ChanSt → ChanSt) : (s.modCh n f).bootBad = s.bootBad := rfl
@[simp] theorem truF_modCh (s : State) (n : Nat) (f : ChanSt → ChanSt) : (s.modCh n f).tru = s.tru := rfl
@[simp] theorem calSetF_modCh (s : State) (n : Nat) (f : ChanSt → ChanSt) : (s.modCh n f).calSet = s.calSet := rfl
@[simp] theorem schedF_modCh (s : State) (n : Nat) (f : ChanSt → ChanSt) : (s.modCh n f).sched = s.sched := rfl
@[simp] theorem pdlF_modCh (s : State) (n : Nat) (f : ChanSt → ChanSt) : (s.modCh n f).pdl = s.pdl := rfl
@[simp] theorem gdlF_modCh (s : State) (n : Nat) (f : ChanSt → ChanSt) : (s.modCh n f).gdl = s.gdl := rfl
@[simp] theorem surfRetiredF_modCh (s : State) (n : Nat) (f : ChanSt → ChanSt) : (s.modCh n f).surfRetired = s.surfRetired := rfl
@[simp] theorem laneF_modCh (s : State) (n : Nat) (f : ChanSt → ChanSt) : (s.modCh n f).lane = s.lane := rfl
@[simp] theorem halfF_modCh (s : State) (n : Nat) (f : ChanSt → ChanSt) : (s.modCh n f).half = s.half := rfl
@[simp] theorem cruF_modCh (s : State) (n : Nat) (f : ChanSt → ChanSt) : (s.modCh n f).cru = s.cru := rfl
@[simp] theorem updatesF_modCh (s : State) (n : Nat) (f : ChanSt → ChanSt) : (s.modCh n f).updates = s.updates := rfl
@[simp] theorem openStripesF_modCh (s : State) (n : Nat) (f : ChanSt → ChanSt) : (s.modCh n f).openStripes = s.openStripes := rfl
@[simp] theorem savedStripesF_modCh (s : State) (n : Nat) (f : ChanSt → ChanSt) : (s.modCh n f).savedStripes = s.savedStripes := rfl
@[simp] theorem holesF_modCh (s : State) (n : Nat) (f : ChanSt → ChanSt) : (s.modCh n f).holes = s.holes := rfl
@[simp] theorem rebuildsF_modCh (s : State) (n : Nat) (f : ChanSt → ChanSt) : (s.modCh n f).rebuilds = s.rebuilds := rfl
@[simp] theorem verifiesF_modCh (s : State) (n : Nat) (f : ChanSt → ChanSt) : (s.modCh n f).verifies = s.verifies := rfl
@[simp] theorem rewritesF_modCh (s : State) (n : Nat) (f : ChanSt → ChanSt) : (s.modCh n f).rewrites = s.rewrites := rfl
@[simp] theorem readyF_modCh (s : State) (n : Nat) (f : ChanSt → ChanSt) : (s.modCh n f).ready = s.ready := rfl
@[simp] theorem cellF_modCh (s : State) (n : Nat) (f : ChanSt → ChanSt) : (s.modCh n f).cell = s.cell := rfl
@[simp] theorem mlaneF_modCh (s : State) (n : Nat) (f : ChanSt → ChanSt) : (s.modCh n f).mlane = s.mlane := rfl
@[simp] theorem pgF_modCh (s : State) (n : Nat) (f : ChanSt → ChanSt) : (s.modCh n f).pg = s.pg := rfl
@[simp] theorem plausF_modCh (s : State) (n : Nat) (f : ChanSt → ChanSt) : (s.modCh n f).plaus = s.plaus := rfl
@[simp] theorem mrecF_modCh (s : State) (n : Nat) (f : ChanSt → ChanSt) : (s.modCh n f).mrec = s.mrec := rfl
@[simp] theorem servoF_modCh (s : State) (n : Nat) (f : ChanSt → ChanSt) : (s.modCh n f).servo = s.servo := rfl
@[simp] theorem shockHeldF_modCh (s : State) (n : Nat) (f : ChanSt → ChanSt) : (s.modCh n f).shockHeld = s.shockHeld := rfl
@[simp] theorem spinF_modCh (s : State) (n : Nat) (f : ChanSt → ChanSt) : (s.modCh n f).spin = s.spin := rfl
@[simp] theorem memF_modCh (s : State) (n : Nat) (f : ChanSt → ChanSt) : (s.modCh n f).mem = s.mem := rfl
@[simp] theorem bufF_modCh (s : State) (n : Nat) (f : ChanSt → ChanSt) : (s.modCh n f).buf = s.buf := rfl
@[simp] theorem mccF_modCh (s : State) (n : Nat) (f : ChanSt → ChanSt) : (s.modCh n f).mcc = s.mcc := rfl
@[simp] theorem lifeF_modCh (s : State) (n : Nat) (f : ChanSt → ChanSt) : (s.modCh n f).life = s.life := rfl
@[simp] theorem freeF_modCh (s : State) (n : Nat) (f : ChanSt → ChanSt) : (s.modCh n f).free = s.free := rfl
@[simp] theorem outF_modCh (s : State) (n : Nat) (f : ChanSt → ChanSt) : (s.modCh n f).out = s.out := rfl
@[simp] theorem pendingF_modCh (s : State) (n : Nat) (f : ChanSt → ChanSt) : (s.modCh n f).pending = s.pending := rfl
@[simp] theorem partF_modHd (s : State) (n : Nat) (f : HeadSt → HeadSt) : (s.modHd n f).part = s.part := rfl
@[simp] theorem coreTimeF_modHd (s : State) (n : Nat) (f : HeadSt → HeadSt) : (s.modHd n f).coreTime = s.coreTime := rfl
@[simp] theorem regsF_modHd (s : State) (n : Nat) (f : HeadSt → HeadSt) : (s.modHd n f).regs = s.regs := rfl
@[simp] theorem regsRunF_modHd (s : State) (n : Nat) (f : HeadSt → HeadSt) : (s.modHd n f).regsRun = s.regsRun := rfl
@[simp] theorem odF_modHd (s : State) (n : Nat) (f : HeadSt → HeadSt) : (s.modHd n f).od = s.od := rfl
@[simp] theorem odRunF_modHd (s : State) (n : Nat) (f : HeadSt → HeadSt) : (s.modHd n f).odRun = s.odRun := rfl
@[simp] theorem odPendingF_modHd (s : State) (n : Nat) (f : HeadSt → HeadSt) : (s.modHd n f).odPending = s.odPending := rfl
@[simp] theorem storeF_modHd (s : State) (n : Nat) (f : HeadSt → HeadSt) : (s.modHd n f).store = s.store := rfl
@[simp] theorem storeRegsF_modHd (s : State) (n : Nat) (f : HeadSt → HeadSt) : (s.modHd n f).storeRegs = s.storeRegs := rfl
@[simp] theorem storeValidF_modHd (s : State) (n : Nat) (f : HeadSt → HeadSt) : (s.modHd n f).storeValid = s.storeValid := rfl
@[simp] theorem storeGenF_modHd (s : State) (n : Nat) (f : HeadSt → HeadSt) : (s.modHd n f).storeGen = s.storeGen := rfl
@[simp] theorem perSrcF_modHd (s : State) (n : Nat) (f : HeadSt → HeadSt) : (s.modHd n f).perSrc = s.perSrc := rfl
@[simp] theorem nonceF_modHd (s : State) (n : Nat) (f : HeadSt → HeadSt) : (s.modHd n f).nonce = s.nonce := rfl
@[simp] theorem asmF_modHd (s : State) (n : Nat) (f : HeadSt → HeadSt) : (s.modHd n f).asm = s.asm := rfl
@[simp] theorem odWaitF_modHd (s : State) (n : Nat) (f : HeadSt → HeadSt) : (s.modHd n f).odWait = s.odWait := rfl
@[simp] theorem commitBootF_modHd (s : State) (n : Nat) (f : HeadSt → HeadSt) : (s.modHd n f).commitBoot = s.commitBoot := rfl
@[simp] theorem failIndexF_modHd (s : State) (n : Nat) (f : HeadSt → HeadSt) : (s.modHd n f).failIndex = s.failIndex := rfl
@[simp] theorem failSubF_modHd (s : State) (n : Nat) (f : HeadSt → HeadSt) : (s.modHd n f).failSub = s.failSub := rfl
@[simp] theorem crossingF_modHd (s : State) (n : Nat) (f : HeadSt → HeadSt) : (s.modHd n f).crossing = s.crossing := rfl
@[simp] theorem flipMaskF_modHd (s : State) (n : Nat) (f : HeadSt → HeadSt) : (s.modHd n f).flipMask = s.flipMask := rfl
@[simp] theorem fetchStampF_modHd (s : State) (n : Nat) (f : HeadSt → HeadSt) : (s.modHd n f).fetchStamp = s.fetchStamp := rfl
@[simp] theorem writeGenF_modHd (s : State) (n : Nat) (f : HeadSt → HeadSt) : (s.modHd n f).writeGen = s.writeGen := rfl
@[simp] theorem crDoorF_modHd (s : State) (n : Nat) (f : HeadSt → HeadSt) : (s.modHd n f).crDoor = s.crDoor := rfl
@[simp] theorem fcF_modHd (s : State) (n : Nat) (f : HeadSt → HeadSt) : (s.modHd n f).fc = s.fc := rfl
@[simp] theorem recdF_modHd (s : State) (n : Nat) (f : HeadSt → HeadSt) : (s.modHd n f).recd = s.recd := rfl
@[simp] theorem healthF_modHd (s : State) (n : Nat) (f : HeadSt → HeadSt) : (s.modHd n f).health = s.health := rfl
@[simp] theorem hostTimeF_modHd (s : State) (n : Nat) (f : HeadSt → HeadSt) : (s.modHd n f).hostTime = s.hostTime := rfl
@[simp] theorem zlF_modHd (s : State) (n : Nat) (f : HeadSt → HeadSt) : (s.modHd n f).zl = s.zl := rfl
@[simp] theorem pwrF_modHd (s : State) (n : Nat) (f : HeadSt → HeadSt) : (s.modHd n f).pwr = s.pwr := rfl
@[simp] theorem secF_modHd (s : State) (n : Nat) (f : HeadSt → HeadSt) : (s.modHd n f).sec = s.sec := rfl
@[simp] theorem portF_modHd (s : State) (n : Nat) (f : HeadSt → HeadSt) : (s.modHd n f).port = s.port := rfl
@[simp] theorem srF_modHd (s : State) (n : Nat) (f : HeadSt → HeadSt) : (s.modHd n f).sr = s.sr := rfl
@[simp] theorem crF_modHd (s : State) (n : Nat) (f : HeadSt → HeadSt) : (s.modHd n f).cr = s.cr := rfl
@[simp] theorem rengF_modHd (s : State) (n : Nat) (f : HeadSt → HeadSt) : (s.modHd n f).reng = s.reng := rfl
@[simp] theorem cmdsF_modHd (s : State) (n : Nat) (f : HeadSt → HeadSt) : (s.modHd n f).cmds = s.cmds := rfl
@[simp] theorem dirtyF_modHd (s : State) (n : Nat) (f : HeadSt → HeadSt) : (s.modHd n f).dirty = s.dirty := rfl
@[simp] theorem dchF_modHd (s : State) (n : Nat) (f : HeadSt → HeadSt) : (s.modHd n f).dch = s.dch := rfl
@[simp] theorem engF_modHd (s : State) (n : Nat) (f : HeadSt → HeadSt) : (s.modHd n f).eng = s.eng := rfl
@[simp] theorem dtuF_modHd (s : State) (n : Nat) (f : HeadSt → HeadSt) : (s.modHd n f).dtu = s.dtu := rfl
@[simp] theorem objF_modHd (s : State) (n : Nat) (f : HeadSt → HeadSt) : (s.modHd n f).obj = s.obj := rfl
@[simp] theorem resvF_modHd (s : State) (n : Nat) (f : HeadSt → HeadSt) : (s.modHd n f).resv = s.resv := rfl
@[simp] theorem purgeF_modHd (s : State) (n : Nat) (f : HeadSt → HeadSt) : (s.modHd n f).purge = s.purge := rfl
@[simp] theorem droppedF_modHd (s : State) (n : Nat) (f : HeadSt → HeadSt) : (s.modHd n f).dropped = s.dropped := rfl
@[simp] theorem codeRetiredF_modHd (s : State) (n : Nat) (f : HeadSt → HeadSt) : (s.modHd n f).codeRetired = s.codeRetired := rfl
@[simp] theorem poolF_modHd (s : State) (n : Nat) (f : HeadSt → HeadSt) : (s.modHd n f).pool = s.pool := rfl
@[simp] theorem plinkF_modHd (s : State) (n : Nat) (f : HeadSt → HeadSt) : (s.modHd n f).plink = s.plink := rfl
@[simp] theorem paF_modHd (s : State) (n : Nat) (f : HeadSt → HeadSt) : (s.modHd n f).pa = s.pa := rfl
@[simp] theorem identF_modHd (s : State) (n : Nat) (f : HeadSt → HeadSt) : (s.modHd n f).ident = s.ident := rfl
@[simp] theorem chanF_modHd (s : State) (n : Nat) (f : HeadSt → HeadSt) : (s.modHd n f).chan = s.chan := rfl
@[simp] theorem mstageF_modHd (s : State) (n : Nat) (f : HeadSt → HeadSt) : (s.modHd n f).mstage = s.mstage := rfl
@[simp] theorem bootBadF_modHd (s : State) (n : Nat) (f : HeadSt → HeadSt) : (s.modHd n f).bootBad = s.bootBad := rfl
@[simp] theorem truF_modHd (s : State) (n : Nat) (f : HeadSt → HeadSt) : (s.modHd n f).tru = s.tru := rfl
@[simp] theorem calSetF_modHd (s : State) (n : Nat) (f : HeadSt → HeadSt) : (s.modHd n f).calSet = s.calSet := rfl
@[simp] theorem schedF_modHd (s : State) (n : Nat) (f : HeadSt → HeadSt) : (s.modHd n f).sched = s.sched := rfl
@[simp] theorem pdlF_modHd (s : State) (n : Nat) (f : HeadSt → HeadSt) : (s.modHd n f).pdl = s.pdl := rfl
@[simp] theorem gdlF_modHd (s : State) (n : Nat) (f : HeadSt → HeadSt) : (s.modHd n f).gdl = s.gdl := rfl
@[simp] theorem surfRetiredF_modHd (s : State) (n : Nat) (f : HeadSt → HeadSt) : (s.modHd n f).surfRetired = s.surfRetired := rfl
@[simp] theorem laneF_modHd (s : State) (n : Nat) (f : HeadSt → HeadSt) : (s.modHd n f).lane = s.lane := rfl
@[simp] theorem halfF_modHd (s : State) (n : Nat) (f : HeadSt → HeadSt) : (s.modHd n f).half = s.half := rfl
@[simp] theorem cruF_modHd (s : State) (n : Nat) (f : HeadSt → HeadSt) : (s.modHd n f).cru = s.cru := rfl
@[simp] theorem updatesF_modHd (s : State) (n : Nat) (f : HeadSt → HeadSt) : (s.modHd n f).updates = s.updates := rfl
@[simp] theorem openStripesF_modHd (s : State) (n : Nat) (f : HeadSt → HeadSt) : (s.modHd n f).openStripes = s.openStripes := rfl
@[simp] theorem savedStripesF_modHd (s : State) (n : Nat) (f : HeadSt → HeadSt) : (s.modHd n f).savedStripes = s.savedStripes := rfl
@[simp] theorem holesF_modHd (s : State) (n : Nat) (f : HeadSt → HeadSt) : (s.modHd n f).holes = s.holes := rfl
@[simp] theorem rebuildsF_modHd (s : State) (n : Nat) (f : HeadSt → HeadSt) : (s.modHd n f).rebuilds = s.rebuilds := rfl
@[simp] theorem verifiesF_modHd (s : State) (n : Nat) (f : HeadSt → HeadSt) : (s.modHd n f).verifies = s.verifies := rfl
@[simp] theorem rewritesF_modHd (s : State) (n : Nat) (f : HeadSt → HeadSt) : (s.modHd n f).rewrites = s.rewrites := rfl
@[simp] theorem readyF_modHd (s : State) (n : Nat) (f : HeadSt → HeadSt) : (s.modHd n f).ready = s.ready := rfl
@[simp] theorem cellF_modHd (s : State) (n : Nat) (f : HeadSt → HeadSt) : (s.modHd n f).cell = s.cell := rfl
@[simp] theorem mlaneF_modHd (s : State) (n : Nat) (f : HeadSt → HeadSt) : (s.modHd n f).mlane = s.mlane := rfl
@[simp] theorem pgF_modHd (s : State) (n : Nat) (f : HeadSt → HeadSt) : (s.modHd n f).pg = s.pg := rfl
@[simp] theorem plausF_modHd (s : State) (n : Nat) (f : HeadSt → HeadSt) : (s.modHd n f).plaus = s.plaus := rfl
@[simp] theorem mrecF_modHd (s : State) (n : Nat) (f : HeadSt → HeadSt) : (s.modHd n f).mrec = s.mrec := rfl
@[simp] theorem servoF_modHd (s : State) (n : Nat) (f : HeadSt → HeadSt) : (s.modHd n f).servo = s.servo := rfl
@[simp] theorem shockHeldF_modHd (s : State) (n : Nat) (f : HeadSt → HeadSt) : (s.modHd n f).shockHeld = s.shockHeld := rfl
@[simp] theorem spinF_modHd (s : State) (n : Nat) (f : HeadSt → HeadSt) : (s.modHd n f).spin = s.spin := rfl
@[simp] theorem memF_modHd (s : State) (n : Nat) (f : HeadSt → HeadSt) : (s.modHd n f).mem = s.mem := rfl
@[simp] theorem bufF_modHd (s : State) (n : Nat) (f : HeadSt → HeadSt) : (s.modHd n f).buf = s.buf := rfl
@[simp] theorem mccF_modHd (s : State) (n : Nat) (f : HeadSt → HeadSt) : (s.modHd n f).mcc = s.mcc := rfl
@[simp] theorem lifeF_modHd (s : State) (n : Nat) (f : HeadSt → HeadSt) : (s.modHd n f).life = s.life := rfl
@[simp] theorem freeF_modHd (s : State) (n : Nat) (f : HeadSt → HeadSt) : (s.modHd n f).free = s.free := rfl
@[simp] theorem outF_modHd (s : State) (n : Nat) (f : HeadSt → HeadSt) : (s.modHd n f).out = s.out := rfl
@[simp] theorem pendingF_modHd (s : State) (n : Nat) (f : HeadSt → HeadSt) : (s.modHd n f).pending = s.pending := rfl
@[simp] theorem partF_modPl (s : State) (n : Nat) (f : Pl → Pl) : (s.modPl n f).part = s.part := rfl
@[simp] theorem coreTimeF_modPl (s : State) (n : Nat) (f : Pl → Pl) : (s.modPl n f).coreTime = s.coreTime := rfl
@[simp] theorem regsF_modPl (s : State) (n : Nat) (f : Pl → Pl) : (s.modPl n f).regs = s.regs := rfl
@[simp] theorem regsRunF_modPl (s : State) (n : Nat) (f : Pl → Pl) : (s.modPl n f).regsRun = s.regsRun := rfl
@[simp] theorem odF_modPl (s : State) (n : Nat) (f : Pl → Pl) : (s.modPl n f).od = s.od := rfl
@[simp] theorem odRunF_modPl (s : State) (n : Nat) (f : Pl → Pl) : (s.modPl n f).odRun = s.odRun := rfl
@[simp] theorem odPendingF_modPl (s : State) (n : Nat) (f : Pl → Pl) : (s.modPl n f).odPending = s.odPending := rfl
@[simp] theorem storeF_modPl (s : State) (n : Nat) (f : Pl → Pl) : (s.modPl n f).store = s.store := rfl
@[simp] theorem storeRegsF_modPl (s : State) (n : Nat) (f : Pl → Pl) : (s.modPl n f).storeRegs = s.storeRegs := rfl
@[simp] theorem storeValidF_modPl (s : State) (n : Nat) (f : Pl → Pl) : (s.modPl n f).storeValid = s.storeValid := rfl
@[simp] theorem storeGenF_modPl (s : State) (n : Nat) (f : Pl → Pl) : (s.modPl n f).storeGen = s.storeGen := rfl
@[simp] theorem perSrcF_modPl (s : State) (n : Nat) (f : Pl → Pl) : (s.modPl n f).perSrc = s.perSrc := rfl
@[simp] theorem nonceF_modPl (s : State) (n : Nat) (f : Pl → Pl) : (s.modPl n f).nonce = s.nonce := rfl
@[simp] theorem asmF_modPl (s : State) (n : Nat) (f : Pl → Pl) : (s.modPl n f).asm = s.asm := rfl
@[simp] theorem odWaitF_modPl (s : State) (n : Nat) (f : Pl → Pl) : (s.modPl n f).odWait = s.odWait := rfl
@[simp] theorem commitBootF_modPl (s : State) (n : Nat) (f : Pl → Pl) : (s.modPl n f).commitBoot = s.commitBoot := rfl
@[simp] theorem failIndexF_modPl (s : State) (n : Nat) (f : Pl → Pl) : (s.modPl n f).failIndex = s.failIndex := rfl
@[simp] theorem failSubF_modPl (s : State) (n : Nat) (f : Pl → Pl) : (s.modPl n f).failSub = s.failSub := rfl
@[simp] theorem crossingF_modPl (s : State) (n : Nat) (f : Pl → Pl) : (s.modPl n f).crossing = s.crossing := rfl
@[simp] theorem flipMaskF_modPl (s : State) (n : Nat) (f : Pl → Pl) : (s.modPl n f).flipMask = s.flipMask := rfl
@[simp] theorem fetchStampF_modPl (s : State) (n : Nat) (f : Pl → Pl) : (s.modPl n f).fetchStamp = s.fetchStamp := rfl
@[simp] theorem writeGenF_modPl (s : State) (n : Nat) (f : Pl → Pl) : (s.modPl n f).writeGen = s.writeGen := rfl
@[simp] theorem crDoorF_modPl (s : State) (n : Nat) (f : Pl → Pl) : (s.modPl n f).crDoor = s.crDoor := rfl
@[simp] theorem fcF_modPl (s : State) (n : Nat) (f : Pl → Pl) : (s.modPl n f).fc = s.fc := rfl
@[simp] theorem recdF_modPl (s : State) (n : Nat) (f : Pl → Pl) : (s.modPl n f).recd = s.recd := rfl
@[simp] theorem healthF_modPl (s : State) (n : Nat) (f : Pl → Pl) : (s.modPl n f).health = s.health := rfl
@[simp] theorem hostTimeF_modPl (s : State) (n : Nat) (f : Pl → Pl) : (s.modPl n f).hostTime = s.hostTime := rfl
@[simp] theorem zlF_modPl (s : State) (n : Nat) (f : Pl → Pl) : (s.modPl n f).zl = s.zl := rfl
@[simp] theorem pwrF_modPl (s : State) (n : Nat) (f : Pl → Pl) : (s.modPl n f).pwr = s.pwr := rfl
@[simp] theorem secF_modPl (s : State) (n : Nat) (f : Pl → Pl) : (s.modPl n f).sec = s.sec := rfl
@[simp] theorem portF_modPl (s : State) (n : Nat) (f : Pl → Pl) : (s.modPl n f).port = s.port := rfl
@[simp] theorem srF_modPl (s : State) (n : Nat) (f : Pl → Pl) : (s.modPl n f).sr = s.sr := rfl
@[simp] theorem crF_modPl (s : State) (n : Nat) (f : Pl → Pl) : (s.modPl n f).cr = s.cr := rfl
@[simp] theorem rengF_modPl (s : State) (n : Nat) (f : Pl → Pl) : (s.modPl n f).reng = s.reng := rfl
@[simp] theorem cmdsF_modPl (s : State) (n : Nat) (f : Pl → Pl) : (s.modPl n f).cmds = s.cmds := rfl
@[simp] theorem dirtyF_modPl (s : State) (n : Nat) (f : Pl → Pl) : (s.modPl n f).dirty = s.dirty := rfl
@[simp] theorem dchF_modPl (s : State) (n : Nat) (f : Pl → Pl) : (s.modPl n f).dch = s.dch := rfl
@[simp] theorem engF_modPl (s : State) (n : Nat) (f : Pl → Pl) : (s.modPl n f).eng = s.eng := rfl
@[simp] theorem dtuF_modPl (s : State) (n : Nat) (f : Pl → Pl) : (s.modPl n f).dtu = s.dtu := rfl
@[simp] theorem objF_modPl (s : State) (n : Nat) (f : Pl → Pl) : (s.modPl n f).obj = s.obj := rfl
@[simp] theorem resvF_modPl (s : State) (n : Nat) (f : Pl → Pl) : (s.modPl n f).resv = s.resv := rfl
@[simp] theorem purgeF_modPl (s : State) (n : Nat) (f : Pl → Pl) : (s.modPl n f).purge = s.purge := rfl
@[simp] theorem droppedF_modPl (s : State) (n : Nat) (f : Pl → Pl) : (s.modPl n f).dropped = s.dropped := rfl
@[simp] theorem codeRetiredF_modPl (s : State) (n : Nat) (f : Pl → Pl) : (s.modPl n f).codeRetired = s.codeRetired := rfl
@[simp] theorem poolF_modPl (s : State) (n : Nat) (f : Pl → Pl) : (s.modPl n f).pool = s.pool := rfl
@[simp] theorem headF_modPl (s : State) (n : Nat) (f : Pl → Pl) : (s.modPl n f).head = s.head := rfl
@[simp] theorem paF_modPl (s : State) (n : Nat) (f : Pl → Pl) : (s.modPl n f).pa = s.pa := rfl
@[simp] theorem identF_modPl (s : State) (n : Nat) (f : Pl → Pl) : (s.modPl n f).ident = s.ident := rfl
@[simp] theorem chanF_modPl (s : State) (n : Nat) (f : Pl → Pl) : (s.modPl n f).chan = s.chan := rfl
@[simp] theorem mstageF_modPl (s : State) (n : Nat) (f : Pl → Pl) : (s.modPl n f).mstage = s.mstage := rfl
@[simp] theorem bootBadF_modPl (s : State) (n : Nat) (f : Pl → Pl) : (s.modPl n f).bootBad = s.bootBad := rfl
@[simp] theorem truF_modPl (s : State) (n : Nat) (f : Pl → Pl) : (s.modPl n f).tru = s.tru := rfl
@[simp] theorem calSetF_modPl (s : State) (n : Nat) (f : Pl → Pl) : (s.modPl n f).calSet = s.calSet := rfl
@[simp] theorem schedF_modPl (s : State) (n : Nat) (f : Pl → Pl) : (s.modPl n f).sched = s.sched := rfl
@[simp] theorem pdlF_modPl (s : State) (n : Nat) (f : Pl → Pl) : (s.modPl n f).pdl = s.pdl := rfl
@[simp] theorem gdlF_modPl (s : State) (n : Nat) (f : Pl → Pl) : (s.modPl n f).gdl = s.gdl := rfl
@[simp] theorem surfRetiredF_modPl (s : State) (n : Nat) (f : Pl → Pl) : (s.modPl n f).surfRetired = s.surfRetired := rfl
@[simp] theorem laneF_modPl (s : State) (n : Nat) (f : Pl → Pl) : (s.modPl n f).lane = s.lane := rfl
@[simp] theorem halfF_modPl (s : State) (n : Nat) (f : Pl → Pl) : (s.modPl n f).half = s.half := rfl
@[simp] theorem cruF_modPl (s : State) (n : Nat) (f : Pl → Pl) : (s.modPl n f).cru = s.cru := rfl
@[simp] theorem updatesF_modPl (s : State) (n : Nat) (f : Pl → Pl) : (s.modPl n f).updates = s.updates := rfl
@[simp] theorem openStripesF_modPl (s : State) (n : Nat) (f : Pl → Pl) : (s.modPl n f).openStripes = s.openStripes := rfl
@[simp] theorem savedStripesF_modPl (s : State) (n : Nat) (f : Pl → Pl) : (s.modPl n f).savedStripes = s.savedStripes := rfl
@[simp] theorem holesF_modPl (s : State) (n : Nat) (f : Pl → Pl) : (s.modPl n f).holes = s.holes := rfl
@[simp] theorem rebuildsF_modPl (s : State) (n : Nat) (f : Pl → Pl) : (s.modPl n f).rebuilds = s.rebuilds := rfl
@[simp] theorem verifiesF_modPl (s : State) (n : Nat) (f : Pl → Pl) : (s.modPl n f).verifies = s.verifies := rfl
@[simp] theorem rewritesF_modPl (s : State) (n : Nat) (f : Pl → Pl) : (s.modPl n f).rewrites = s.rewrites := rfl
@[simp] theorem readyF_modPl (s : State) (n : Nat) (f : Pl → Pl) : (s.modPl n f).ready = s.ready := rfl
@[simp] theorem cellF_modPl (s : State) (n : Nat) (f : Pl → Pl) : (s.modPl n f).cell = s.cell := rfl
@[simp] theorem mlaneF_modPl (s : State) (n : Nat) (f : Pl → Pl) : (s.modPl n f).mlane = s.mlane := rfl
@[simp] theorem pgF_modPl (s : State) (n : Nat) (f : Pl → Pl) : (s.modPl n f).pg = s.pg := rfl
@[simp] theorem plausF_modPl (s : State) (n : Nat) (f : Pl → Pl) : (s.modPl n f).plaus = s.plaus := rfl
@[simp] theorem mrecF_modPl (s : State) (n : Nat) (f : Pl → Pl) : (s.modPl n f).mrec = s.mrec := rfl
@[simp] theorem servoF_modPl (s : State) (n : Nat) (f : Pl → Pl) : (s.modPl n f).servo = s.servo := rfl
@[simp] theorem shockHeldF_modPl (s : State) (n : Nat) (f : Pl → Pl) : (s.modPl n f).shockHeld = s.shockHeld := rfl
@[simp] theorem spinF_modPl (s : State) (n : Nat) (f : Pl → Pl) : (s.modPl n f).spin = s.spin := rfl
@[simp] theorem memF_modPl (s : State) (n : Nat) (f : Pl → Pl) : (s.modPl n f).mem = s.mem := rfl
@[simp] theorem bufF_modPl (s : State) (n : Nat) (f : Pl → Pl) : (s.modPl n f).buf = s.buf := rfl
@[simp] theorem mccF_modPl (s : State) (n : Nat) (f : Pl → Pl) : (s.modPl n f).mcc = s.mcc := rfl
@[simp] theorem lifeF_modPl (s : State) (n : Nat) (f : Pl → Pl) : (s.modPl n f).life = s.life := rfl
@[simp] theorem freeF_modPl (s : State) (n : Nat) (f : Pl → Pl) : (s.modPl n f).free = s.free := rfl
@[simp] theorem outF_modPl (s : State) (n : Nat) (f : Pl → Pl) : (s.modPl n f).out = s.out := rfl
@[simp] theorem pendingF_modPl (s : State) (n : Nat) (f : Pl → Pl) : (s.modPl n f).pending = s.pending := rfl
@[simp] theorem partF_modSv (s : State) (n : Nat) (f : Servo → Servo) : (s.modSv n f).part = s.part := rfl
@[simp] theorem coreTimeF_modSv (s : State) (n : Nat) (f : Servo → Servo) : (s.modSv n f).coreTime = s.coreTime := rfl
@[simp] theorem regsF_modSv (s : State) (n : Nat) (f : Servo → Servo) : (s.modSv n f).regs = s.regs := rfl
@[simp] theorem regsRunF_modSv (s : State) (n : Nat) (f : Servo → Servo) : (s.modSv n f).regsRun = s.regsRun := rfl
@[simp] theorem odF_modSv (s : State) (n : Nat) (f : Servo → Servo) : (s.modSv n f).od = s.od := rfl
@[simp] theorem odRunF_modSv (s : State) (n : Nat) (f : Servo → Servo) : (s.modSv n f).odRun = s.odRun := rfl
@[simp] theorem odPendingF_modSv (s : State) (n : Nat) (f : Servo → Servo) : (s.modSv n f).odPending = s.odPending := rfl
@[simp] theorem storeF_modSv (s : State) (n : Nat) (f : Servo → Servo) : (s.modSv n f).store = s.store := rfl
@[simp] theorem storeRegsF_modSv (s : State) (n : Nat) (f : Servo → Servo) : (s.modSv n f).storeRegs = s.storeRegs := rfl
@[simp] theorem storeValidF_modSv (s : State) (n : Nat) (f : Servo → Servo) : (s.modSv n f).storeValid = s.storeValid := rfl
@[simp] theorem storeGenF_modSv (s : State) (n : Nat) (f : Servo → Servo) : (s.modSv n f).storeGen = s.storeGen := rfl
@[simp] theorem perSrcF_modSv (s : State) (n : Nat) (f : Servo → Servo) : (s.modSv n f).perSrc = s.perSrc := rfl
@[simp] theorem nonceF_modSv (s : State) (n : Nat) (f : Servo → Servo) : (s.modSv n f).nonce = s.nonce := rfl
@[simp] theorem asmF_modSv (s : State) (n : Nat) (f : Servo → Servo) : (s.modSv n f).asm = s.asm := rfl
@[simp] theorem odWaitF_modSv (s : State) (n : Nat) (f : Servo → Servo) : (s.modSv n f).odWait = s.odWait := rfl
@[simp] theorem commitBootF_modSv (s : State) (n : Nat) (f : Servo → Servo) : (s.modSv n f).commitBoot = s.commitBoot := rfl
@[simp] theorem failIndexF_modSv (s : State) (n : Nat) (f : Servo → Servo) : (s.modSv n f).failIndex = s.failIndex := rfl
@[simp] theorem failSubF_modSv (s : State) (n : Nat) (f : Servo → Servo) : (s.modSv n f).failSub = s.failSub := rfl
@[simp] theorem crossingF_modSv (s : State) (n : Nat) (f : Servo → Servo) : (s.modSv n f).crossing = s.crossing := rfl
@[simp] theorem flipMaskF_modSv (s : State) (n : Nat) (f : Servo → Servo) : (s.modSv n f).flipMask = s.flipMask := rfl
@[simp] theorem fetchStampF_modSv (s : State) (n : Nat) (f : Servo → Servo) : (s.modSv n f).fetchStamp = s.fetchStamp := rfl
@[simp] theorem writeGenF_modSv (s : State) (n : Nat) (f : Servo → Servo) : (s.modSv n f).writeGen = s.writeGen := rfl
@[simp] theorem crDoorF_modSv (s : State) (n : Nat) (f : Servo → Servo) : (s.modSv n f).crDoor = s.crDoor := rfl
@[simp] theorem fcF_modSv (s : State) (n : Nat) (f : Servo → Servo) : (s.modSv n f).fc = s.fc := rfl
@[simp] theorem recdF_modSv (s : State) (n : Nat) (f : Servo → Servo) : (s.modSv n f).recd = s.recd := rfl
@[simp] theorem healthF_modSv (s : State) (n : Nat) (f : Servo → Servo) : (s.modSv n f).health = s.health := rfl
@[simp] theorem hostTimeF_modSv (s : State) (n : Nat) (f : Servo → Servo) : (s.modSv n f).hostTime = s.hostTime := rfl
@[simp] theorem zlF_modSv (s : State) (n : Nat) (f : Servo → Servo) : (s.modSv n f).zl = s.zl := rfl
@[simp] theorem pwrF_modSv (s : State) (n : Nat) (f : Servo → Servo) : (s.modSv n f).pwr = s.pwr := rfl
@[simp] theorem secF_modSv (s : State) (n : Nat) (f : Servo → Servo) : (s.modSv n f).sec = s.sec := rfl
@[simp] theorem portF_modSv (s : State) (n : Nat) (f : Servo → Servo) : (s.modSv n f).port = s.port := rfl
@[simp] theorem srF_modSv (s : State) (n : Nat) (f : Servo → Servo) : (s.modSv n f).sr = s.sr := rfl
@[simp] theorem crF_modSv (s : State) (n : Nat) (f : Servo → Servo) : (s.modSv n f).cr = s.cr := rfl
@[simp] theorem rengF_modSv (s : State) (n : Nat) (f : Servo → Servo) : (s.modSv n f).reng = s.reng := rfl
@[simp] theorem cmdsF_modSv (s : State) (n : Nat) (f : Servo → Servo) : (s.modSv n f).cmds = s.cmds := rfl
@[simp] theorem dirtyF_modSv (s : State) (n : Nat) (f : Servo → Servo) : (s.modSv n f).dirty = s.dirty := rfl
@[simp] theorem dchF_modSv (s : State) (n : Nat) (f : Servo → Servo) : (s.modSv n f).dch = s.dch := rfl
@[simp] theorem engF_modSv (s : State) (n : Nat) (f : Servo → Servo) : (s.modSv n f).eng = s.eng := rfl
@[simp] theorem dtuF_modSv (s : State) (n : Nat) (f : Servo → Servo) : (s.modSv n f).dtu = s.dtu := rfl
@[simp] theorem objF_modSv (s : State) (n : Nat) (f : Servo → Servo) : (s.modSv n f).obj = s.obj := rfl
@[simp] theorem resvF_modSv (s : State) (n : Nat) (f : Servo → Servo) : (s.modSv n f).resv = s.resv := rfl
@[simp] theorem purgeF_modSv (s : State) (n : Nat) (f : Servo → Servo) : (s.modSv n f).purge = s.purge := rfl
@[simp] theorem droppedF_modSv (s : State) (n : Nat) (f : Servo → Servo) : (s.modSv n f).dropped = s.dropped := rfl
@[simp] theorem codeRetiredF_modSv (s : State) (n : Nat) (f : Servo → Servo) : (s.modSv n f).codeRetired = s.codeRetired := rfl
@[simp] theorem poolF_modSv (s : State) (n : Nat) (f : Servo → Servo) : (s.modSv n f).pool = s.pool := rfl
@[simp] theorem headF_modSv (s : State) (n : Nat) (f : Servo → Servo) : (s.modSv n f).head = s.head := rfl
@[simp] theorem plinkF_modSv (s : State) (n : Nat) (f : Servo → Servo) : (s.modSv n f).plink = s.plink := rfl
@[simp] theorem paF_modSv (s : State) (n : Nat) (f : Servo → Servo) : (s.modSv n f).pa = s.pa := rfl
@[simp] theorem identF_modSv (s : State) (n : Nat) (f : Servo → Servo) : (s.modSv n f).ident = s.ident := rfl
@[simp] theorem chanF_modSv (s : State) (n : Nat) (f : Servo → Servo) : (s.modSv n f).chan = s.chan := rfl
@[simp] theorem mstageF_modSv (s : State) (n : Nat) (f : Servo → Servo) : (s.modSv n f).mstage = s.mstage := rfl
@[simp] theorem bootBadF_modSv (s : State) (n : Nat) (f : Servo → Servo) : (s.modSv n f).bootBad = s.bootBad := rfl
@[simp] theorem truF_modSv (s : State) (n : Nat) (f : Servo → Servo) : (s.modSv n f).tru = s.tru := rfl
@[simp] theorem calSetF_modSv (s : State) (n : Nat) (f : Servo → Servo) : (s.modSv n f).calSet = s.calSet := rfl
@[simp] theorem schedF_modSv (s : State) (n : Nat) (f : Servo → Servo) : (s.modSv n f).sched = s.sched := rfl
@[simp] theorem pdlF_modSv (s : State) (n : Nat) (f : Servo → Servo) : (s.modSv n f).pdl = s.pdl := rfl
@[simp] theorem gdlF_modSv (s : State) (n : Nat) (f : Servo → Servo) : (s.modSv n f).gdl = s.gdl := rfl
@[simp] theorem surfRetiredF_modSv (s : State) (n : Nat) (f : Servo → Servo) : (s.modSv n f).surfRetired = s.surfRetired := rfl
@[simp] theorem laneF_modSv (s : State) (n : Nat) (f : Servo → Servo) : (s.modSv n f).lane = s.lane := rfl
@[simp] theorem halfF_modSv (s : State) (n : Nat) (f : Servo → Servo) : (s.modSv n f).half = s.half := rfl
@[simp] theorem cruF_modSv (s : State) (n : Nat) (f : Servo → Servo) : (s.modSv n f).cru = s.cru := rfl
@[simp] theorem updatesF_modSv (s : State) (n : Nat) (f : Servo → Servo) : (s.modSv n f).updates = s.updates := rfl
@[simp] theorem openStripesF_modSv (s : State) (n : Nat) (f : Servo → Servo) : (s.modSv n f).openStripes = s.openStripes := rfl
@[simp] theorem savedStripesF_modSv (s : State) (n : Nat) (f : Servo → Servo) : (s.modSv n f).savedStripes = s.savedStripes := rfl
@[simp] theorem holesF_modSv (s : State) (n : Nat) (f : Servo → Servo) : (s.modSv n f).holes = s.holes := rfl
@[simp] theorem rebuildsF_modSv (s : State) (n : Nat) (f : Servo → Servo) : (s.modSv n f).rebuilds = s.rebuilds := rfl
@[simp] theorem verifiesF_modSv (s : State) (n : Nat) (f : Servo → Servo) : (s.modSv n f).verifies = s.verifies := rfl
@[simp] theorem rewritesF_modSv (s : State) (n : Nat) (f : Servo → Servo) : (s.modSv n f).rewrites = s.rewrites := rfl
@[simp] theorem readyF_modSv (s : State) (n : Nat) (f : Servo → Servo) : (s.modSv n f).ready = s.ready := rfl
@[simp] theorem cellF_modSv (s : State) (n : Nat) (f : Servo → Servo) : (s.modSv n f).cell = s.cell := rfl
@[simp] theorem mlaneF_modSv (s : State) (n : Nat) (f : Servo → Servo) : (s.modSv n f).mlane = s.mlane := rfl
@[simp] theorem pgF_modSv (s : State) (n : Nat) (f : Servo → Servo) : (s.modSv n f).pg = s.pg := rfl
@[simp] theorem plausF_modSv (s : State) (n : Nat) (f : Servo → Servo) : (s.modSv n f).plaus = s.plaus := rfl
@[simp] theorem mrecF_modSv (s : State) (n : Nat) (f : Servo → Servo) : (s.modSv n f).mrec = s.mrec := rfl
@[simp] theorem shockHeldF_modSv (s : State) (n : Nat) (f : Servo → Servo) : (s.modSv n f).shockHeld = s.shockHeld := rfl
@[simp] theorem spinF_modSv (s : State) (n : Nat) (f : Servo → Servo) : (s.modSv n f).spin = s.spin := rfl
@[simp] theorem memF_modSv (s : State) (n : Nat) (f : Servo → Servo) : (s.modSv n f).mem = s.mem := rfl
@[simp] theorem bufF_modSv (s : State) (n : Nat) (f : Servo → Servo) : (s.modSv n f).buf = s.buf := rfl
@[simp] theorem mccF_modSv (s : State) (n : Nat) (f : Servo → Servo) : (s.modSv n f).mcc = s.mcc := rfl
@[simp] theorem lifeF_modSv (s : State) (n : Nat) (f : Servo → Servo) : (s.modSv n f).life = s.life := rfl
@[simp] theorem freeF_modSv (s : State) (n : Nat) (f : Servo → Servo) : (s.modSv n f).free = s.free := rfl
@[simp] theorem outF_modSv (s : State) (n : Nat) (f : Servo → Servo) : (s.modSv n f).out = s.out := rfl
@[simp] theorem pendingF_modSv (s : State) (n : Nat) (f : Servo → Servo) : (s.modSv n f).pending = s.pending := rfl
@[simp] theorem partF_modTr (s : State) (n : Nat) (f : Tru → Tru) : (s.modTr n f).part = s.part := rfl
@[simp] theorem coreTimeF_modTr (s : State) (n : Nat) (f : Tru → Tru) : (s.modTr n f).coreTime = s.coreTime := rfl
@[simp] theorem regsF_modTr (s : State) (n : Nat) (f : Tru → Tru) : (s.modTr n f).regs = s.regs := rfl
@[simp] theorem regsRunF_modTr (s : State) (n : Nat) (f : Tru → Tru) : (s.modTr n f).regsRun = s.regsRun := rfl
@[simp] theorem odF_modTr (s : State) (n : Nat) (f : Tru → Tru) : (s.modTr n f).od = s.od := rfl
@[simp] theorem odRunF_modTr (s : State) (n : Nat) (f : Tru → Tru) : (s.modTr n f).odRun = s.odRun := rfl
@[simp] theorem odPendingF_modTr (s : State) (n : Nat) (f : Tru → Tru) : (s.modTr n f).odPending = s.odPending := rfl
@[simp] theorem storeF_modTr (s : State) (n : Nat) (f : Tru → Tru) : (s.modTr n f).store = s.store := rfl
@[simp] theorem storeRegsF_modTr (s : State) (n : Nat) (f : Tru → Tru) : (s.modTr n f).storeRegs = s.storeRegs := rfl
@[simp] theorem storeValidF_modTr (s : State) (n : Nat) (f : Tru → Tru) : (s.modTr n f).storeValid = s.storeValid := rfl
@[simp] theorem storeGenF_modTr (s : State) (n : Nat) (f : Tru → Tru) : (s.modTr n f).storeGen = s.storeGen := rfl
@[simp] theorem perSrcF_modTr (s : State) (n : Nat) (f : Tru → Tru) : (s.modTr n f).perSrc = s.perSrc := rfl
@[simp] theorem nonceF_modTr (s : State) (n : Nat) (f : Tru → Tru) : (s.modTr n f).nonce = s.nonce := rfl
@[simp] theorem asmF_modTr (s : State) (n : Nat) (f : Tru → Tru) : (s.modTr n f).asm = s.asm := rfl
@[simp] theorem odWaitF_modTr (s : State) (n : Nat) (f : Tru → Tru) : (s.modTr n f).odWait = s.odWait := rfl
@[simp] theorem commitBootF_modTr (s : State) (n : Nat) (f : Tru → Tru) : (s.modTr n f).commitBoot = s.commitBoot := rfl
@[simp] theorem failIndexF_modTr (s : State) (n : Nat) (f : Tru → Tru) : (s.modTr n f).failIndex = s.failIndex := rfl
@[simp] theorem failSubF_modTr (s : State) (n : Nat) (f : Tru → Tru) : (s.modTr n f).failSub = s.failSub := rfl
@[simp] theorem crossingF_modTr (s : State) (n : Nat) (f : Tru → Tru) : (s.modTr n f).crossing = s.crossing := rfl
@[simp] theorem flipMaskF_modTr (s : State) (n : Nat) (f : Tru → Tru) : (s.modTr n f).flipMask = s.flipMask := rfl
@[simp] theorem fetchStampF_modTr (s : State) (n : Nat) (f : Tru → Tru) : (s.modTr n f).fetchStamp = s.fetchStamp := rfl
@[simp] theorem writeGenF_modTr (s : State) (n : Nat) (f : Tru → Tru) : (s.modTr n f).writeGen = s.writeGen := rfl
@[simp] theorem crDoorF_modTr (s : State) (n : Nat) (f : Tru → Tru) : (s.modTr n f).crDoor = s.crDoor := rfl
@[simp] theorem fcF_modTr (s : State) (n : Nat) (f : Tru → Tru) : (s.modTr n f).fc = s.fc := rfl
@[simp] theorem recdF_modTr (s : State) (n : Nat) (f : Tru → Tru) : (s.modTr n f).recd = s.recd := rfl
@[simp] theorem healthF_modTr (s : State) (n : Nat) (f : Tru → Tru) : (s.modTr n f).health = s.health := rfl
@[simp] theorem hostTimeF_modTr (s : State) (n : Nat) (f : Tru → Tru) : (s.modTr n f).hostTime = s.hostTime := rfl
@[simp] theorem zlF_modTr (s : State) (n : Nat) (f : Tru → Tru) : (s.modTr n f).zl = s.zl := rfl
@[simp] theorem pwrF_modTr (s : State) (n : Nat) (f : Tru → Tru) : (s.modTr n f).pwr = s.pwr := rfl
@[simp] theorem secF_modTr (s : State) (n : Nat) (f : Tru → Tru) : (s.modTr n f).sec = s.sec := rfl
@[simp] theorem portF_modTr (s : State) (n : Nat) (f : Tru → Tru) : (s.modTr n f).port = s.port := rfl
@[simp] theorem srF_modTr (s : State) (n : Nat) (f : Tru → Tru) : (s.modTr n f).sr = s.sr := rfl
@[simp] theorem crF_modTr (s : State) (n : Nat) (f : Tru → Tru) : (s.modTr n f).cr = s.cr := rfl
@[simp] theorem rengF_modTr (s : State) (n : Nat) (f : Tru → Tru) : (s.modTr n f).reng = s.reng := rfl
@[simp] theorem cmdsF_modTr (s : State) (n : Nat) (f : Tru → Tru) : (s.modTr n f).cmds = s.cmds := rfl
@[simp] theorem dirtyF_modTr (s : State) (n : Nat) (f : Tru → Tru) : (s.modTr n f).dirty = s.dirty := rfl
@[simp] theorem dchF_modTr (s : State) (n : Nat) (f : Tru → Tru) : (s.modTr n f).dch = s.dch := rfl
@[simp] theorem engF_modTr (s : State) (n : Nat) (f : Tru → Tru) : (s.modTr n f).eng = s.eng := rfl
@[simp] theorem dtuF_modTr (s : State) (n : Nat) (f : Tru → Tru) : (s.modTr n f).dtu = s.dtu := rfl
@[simp] theorem objF_modTr (s : State) (n : Nat) (f : Tru → Tru) : (s.modTr n f).obj = s.obj := rfl
@[simp] theorem resvF_modTr (s : State) (n : Nat) (f : Tru → Tru) : (s.modTr n f).resv = s.resv := rfl
@[simp] theorem purgeF_modTr (s : State) (n : Nat) (f : Tru → Tru) : (s.modTr n f).purge = s.purge := rfl
@[simp] theorem droppedF_modTr (s : State) (n : Nat) (f : Tru → Tru) : (s.modTr n f).dropped = s.dropped := rfl
@[simp] theorem codeRetiredF_modTr (s : State) (n : Nat) (f : Tru → Tru) : (s.modTr n f).codeRetired = s.codeRetired := rfl
@[simp] theorem poolF_modTr (s : State) (n : Nat) (f : Tru → Tru) : (s.modTr n f).pool = s.pool := rfl
@[simp] theorem headF_modTr (s : State) (n : Nat) (f : Tru → Tru) : (s.modTr n f).head = s.head := rfl
@[simp] theorem plinkF_modTr (s : State) (n : Nat) (f : Tru → Tru) : (s.modTr n f).plink = s.plink := rfl
@[simp] theorem paF_modTr (s : State) (n : Nat) (f : Tru → Tru) : (s.modTr n f).pa = s.pa := rfl
@[simp] theorem identF_modTr (s : State) (n : Nat) (f : Tru → Tru) : (s.modTr n f).ident = s.ident := rfl
@[simp] theorem chanF_modTr (s : State) (n : Nat) (f : Tru → Tru) : (s.modTr n f).chan = s.chan := rfl
@[simp] theorem mstageF_modTr (s : State) (n : Nat) (f : Tru → Tru) : (s.modTr n f).mstage = s.mstage := rfl
@[simp] theorem bootBadF_modTr (s : State) (n : Nat) (f : Tru → Tru) : (s.modTr n f).bootBad = s.bootBad := rfl
@[simp] theorem calSetF_modTr (s : State) (n : Nat) (f : Tru → Tru) : (s.modTr n f).calSet = s.calSet := rfl
@[simp] theorem schedF_modTr (s : State) (n : Nat) (f : Tru → Tru) : (s.modTr n f).sched = s.sched := rfl
@[simp] theorem pdlF_modTr (s : State) (n : Nat) (f : Tru → Tru) : (s.modTr n f).pdl = s.pdl := rfl
@[simp] theorem gdlF_modTr (s : State) (n : Nat) (f : Tru → Tru) : (s.modTr n f).gdl = s.gdl := rfl
@[simp] theorem surfRetiredF_modTr (s : State) (n : Nat) (f : Tru → Tru) : (s.modTr n f).surfRetired = s.surfRetired := rfl
@[simp] theorem laneF_modTr (s : State) (n : Nat) (f : Tru → Tru) : (s.modTr n f).lane = s.lane := rfl
@[simp] theorem halfF_modTr (s : State) (n : Nat) (f : Tru → Tru) : (s.modTr n f).half = s.half := rfl
@[simp] theorem cruF_modTr (s : State) (n : Nat) (f : Tru → Tru) : (s.modTr n f).cru = s.cru := rfl
@[simp] theorem updatesF_modTr (s : State) (n : Nat) (f : Tru → Tru) : (s.modTr n f).updates = s.updates := rfl
@[simp] theorem openStripesF_modTr (s : State) (n : Nat) (f : Tru → Tru) : (s.modTr n f).openStripes = s.openStripes := rfl
@[simp] theorem savedStripesF_modTr (s : State) (n : Nat) (f : Tru → Tru) : (s.modTr n f).savedStripes = s.savedStripes := rfl
@[simp] theorem holesF_modTr (s : State) (n : Nat) (f : Tru → Tru) : (s.modTr n f).holes = s.holes := rfl
@[simp] theorem rebuildsF_modTr (s : State) (n : Nat) (f : Tru → Tru) : (s.modTr n f).rebuilds = s.rebuilds := rfl
@[simp] theorem verifiesF_modTr (s : State) (n : Nat) (f : Tru → Tru) : (s.modTr n f).verifies = s.verifies := rfl
@[simp] theorem rewritesF_modTr (s : State) (n : Nat) (f : Tru → Tru) : (s.modTr n f).rewrites = s.rewrites := rfl
@[simp] theorem readyF_modTr (s : State) (n : Nat) (f : Tru → Tru) : (s.modTr n f).ready = s.ready := rfl
@[simp] theorem cellF_modTr (s : State) (n : Nat) (f : Tru → Tru) : (s.modTr n f).cell = s.cell := rfl
@[simp] theorem mlaneF_modTr (s : State) (n : Nat) (f : Tru → Tru) : (s.modTr n f).mlane = s.mlane := rfl
@[simp] theorem pgF_modTr (s : State) (n : Nat) (f : Tru → Tru) : (s.modTr n f).pg = s.pg := rfl
@[simp] theorem plausF_modTr (s : State) (n : Nat) (f : Tru → Tru) : (s.modTr n f).plaus = s.plaus := rfl
@[simp] theorem mrecF_modTr (s : State) (n : Nat) (f : Tru → Tru) : (s.modTr n f).mrec = s.mrec := rfl
@[simp] theorem servoF_modTr (s : State) (n : Nat) (f : Tru → Tru) : (s.modTr n f).servo = s.servo := rfl
@[simp] theorem shockHeldF_modTr (s : State) (n : Nat) (f : Tru → Tru) : (s.modTr n f).shockHeld = s.shockHeld := rfl
@[simp] theorem spinF_modTr (s : State) (n : Nat) (f : Tru → Tru) : (s.modTr n f).spin = s.spin := rfl
@[simp] theorem memF_modTr (s : State) (n : Nat) (f : Tru → Tru) : (s.modTr n f).mem = s.mem := rfl
@[simp] theorem bufF_modTr (s : State) (n : Nat) (f : Tru → Tru) : (s.modTr n f).buf = s.buf := rfl
@[simp] theorem mccF_modTr (s : State) (n : Nat) (f : Tru → Tru) : (s.modTr n f).mcc = s.mcc := rfl
@[simp] theorem lifeF_modTr (s : State) (n : Nat) (f : Tru → Tru) : (s.modTr n f).life = s.life := rfl
@[simp] theorem freeF_modTr (s : State) (n : Nat) (f : Tru → Tru) : (s.modTr n f).free = s.free := rfl
@[simp] theorem outF_modTr (s : State) (n : Nat) (f : Tru → Tru) : (s.modTr n f).out = s.out := rfl
@[simp] theorem pendingF_modTr (s : State) (n : Nat) (f : Tru → Tru) : (s.modTr n f).pending = s.pending := rfl
@[simp] theorem partF_modLn (s : State) (n : Nat) (f : LaneSt → LaneSt) : (s.modLn n f).part = s.part := rfl
@[simp] theorem coreTimeF_modLn (s : State) (n : Nat) (f : LaneSt → LaneSt) : (s.modLn n f).coreTime = s.coreTime := rfl
@[simp] theorem regsF_modLn (s : State) (n : Nat) (f : LaneSt → LaneSt) : (s.modLn n f).regs = s.regs := rfl
@[simp] theorem regsRunF_modLn (s : State) (n : Nat) (f : LaneSt → LaneSt) : (s.modLn n f).regsRun = s.regsRun := rfl
@[simp] theorem odF_modLn (s : State) (n : Nat) (f : LaneSt → LaneSt) : (s.modLn n f).od = s.od := rfl
@[simp] theorem odRunF_modLn (s : State) (n : Nat) (f : LaneSt → LaneSt) : (s.modLn n f).odRun = s.odRun := rfl
@[simp] theorem odPendingF_modLn (s : State) (n : Nat) (f : LaneSt → LaneSt) : (s.modLn n f).odPending = s.odPending := rfl
@[simp] theorem storeF_modLn (s : State) (n : Nat) (f : LaneSt → LaneSt) : (s.modLn n f).store = s.store := rfl
@[simp] theorem storeRegsF_modLn (s : State) (n : Nat) (f : LaneSt → LaneSt) : (s.modLn n f).storeRegs = s.storeRegs := rfl
@[simp] theorem storeValidF_modLn (s : State) (n : Nat) (f : LaneSt → LaneSt) : (s.modLn n f).storeValid = s.storeValid := rfl
@[simp] theorem storeGenF_modLn (s : State) (n : Nat) (f : LaneSt → LaneSt) : (s.modLn n f).storeGen = s.storeGen := rfl
@[simp] theorem perSrcF_modLn (s : State) (n : Nat) (f : LaneSt → LaneSt) : (s.modLn n f).perSrc = s.perSrc := rfl
@[simp] theorem nonceF_modLn (s : State) (n : Nat) (f : LaneSt → LaneSt) : (s.modLn n f).nonce = s.nonce := rfl
@[simp] theorem asmF_modLn (s : State) (n : Nat) (f : LaneSt → LaneSt) : (s.modLn n f).asm = s.asm := rfl
@[simp] theorem odWaitF_modLn (s : State) (n : Nat) (f : LaneSt → LaneSt) : (s.modLn n f).odWait = s.odWait := rfl
@[simp] theorem commitBootF_modLn (s : State) (n : Nat) (f : LaneSt → LaneSt) : (s.modLn n f).commitBoot = s.commitBoot := rfl
@[simp] theorem failIndexF_modLn (s : State) (n : Nat) (f : LaneSt → LaneSt) : (s.modLn n f).failIndex = s.failIndex := rfl
@[simp] theorem failSubF_modLn (s : State) (n : Nat) (f : LaneSt → LaneSt) : (s.modLn n f).failSub = s.failSub := rfl
@[simp] theorem crossingF_modLn (s : State) (n : Nat) (f : LaneSt → LaneSt) : (s.modLn n f).crossing = s.crossing := rfl
@[simp] theorem flipMaskF_modLn (s : State) (n : Nat) (f : LaneSt → LaneSt) : (s.modLn n f).flipMask = s.flipMask := rfl
@[simp] theorem fetchStampF_modLn (s : State) (n : Nat) (f : LaneSt → LaneSt) : (s.modLn n f).fetchStamp = s.fetchStamp := rfl
@[simp] theorem writeGenF_modLn (s : State) (n : Nat) (f : LaneSt → LaneSt) : (s.modLn n f).writeGen = s.writeGen := rfl
@[simp] theorem crDoorF_modLn (s : State) (n : Nat) (f : LaneSt → LaneSt) : (s.modLn n f).crDoor = s.crDoor := rfl
@[simp] theorem fcF_modLn (s : State) (n : Nat) (f : LaneSt → LaneSt) : (s.modLn n f).fc = s.fc := rfl
@[simp] theorem recdF_modLn (s : State) (n : Nat) (f : LaneSt → LaneSt) : (s.modLn n f).recd = s.recd := rfl
@[simp] theorem healthF_modLn (s : State) (n : Nat) (f : LaneSt → LaneSt) : (s.modLn n f).health = s.health := rfl
@[simp] theorem hostTimeF_modLn (s : State) (n : Nat) (f : LaneSt → LaneSt) : (s.modLn n f).hostTime = s.hostTime := rfl
@[simp] theorem zlF_modLn (s : State) (n : Nat) (f : LaneSt → LaneSt) : (s.modLn n f).zl = s.zl := rfl
@[simp] theorem pwrF_modLn (s : State) (n : Nat) (f : LaneSt → LaneSt) : (s.modLn n f).pwr = s.pwr := rfl
@[simp] theorem secF_modLn (s : State) (n : Nat) (f : LaneSt → LaneSt) : (s.modLn n f).sec = s.sec := rfl
@[simp] theorem portF_modLn (s : State) (n : Nat) (f : LaneSt → LaneSt) : (s.modLn n f).port = s.port := rfl
@[simp] theorem srF_modLn (s : State) (n : Nat) (f : LaneSt → LaneSt) : (s.modLn n f).sr = s.sr := rfl
@[simp] theorem crF_modLn (s : State) (n : Nat) (f : LaneSt → LaneSt) : (s.modLn n f).cr = s.cr := rfl
@[simp] theorem rengF_modLn (s : State) (n : Nat) (f : LaneSt → LaneSt) : (s.modLn n f).reng = s.reng := rfl
@[simp] theorem cmdsF_modLn (s : State) (n : Nat) (f : LaneSt → LaneSt) : (s.modLn n f).cmds = s.cmds := rfl
@[simp] theorem dirtyF_modLn (s : State) (n : Nat) (f : LaneSt → LaneSt) : (s.modLn n f).dirty = s.dirty := rfl
@[simp] theorem dchF_modLn (s : State) (n : Nat) (f : LaneSt → LaneSt) : (s.modLn n f).dch = s.dch := rfl
@[simp] theorem engF_modLn (s : State) (n : Nat) (f : LaneSt → LaneSt) : (s.modLn n f).eng = s.eng := rfl
@[simp] theorem dtuF_modLn (s : State) (n : Nat) (f : LaneSt → LaneSt) : (s.modLn n f).dtu = s.dtu := rfl
@[simp] theorem objF_modLn (s : State) (n : Nat) (f : LaneSt → LaneSt) : (s.modLn n f).obj = s.obj := rfl
@[simp] theorem resvF_modLn (s : State) (n : Nat) (f : LaneSt → LaneSt) : (s.modLn n f).resv = s.resv := rfl
@[simp] theorem purgeF_modLn (s : State) (n : Nat) (f : LaneSt → LaneSt) : (s.modLn n f).purge = s.purge := rfl
@[simp] theorem droppedF_modLn (s : State) (n : Nat) (f : LaneSt → LaneSt) : (s.modLn n f).dropped = s.dropped := rfl
@[simp] theorem codeRetiredF_modLn (s : State) (n : Nat) (f : LaneSt → LaneSt) : (s.modLn n f).codeRetired = s.codeRetired := rfl
@[simp] theorem poolF_modLn (s : State) (n : Nat) (f : LaneSt → LaneSt) : (s.modLn n f).pool = s.pool := rfl
@[simp] theorem headF_modLn (s : State) (n : Nat) (f : LaneSt → LaneSt) : (s.modLn n f).head = s.head := rfl
@[simp] theorem plinkF_modLn (s : State) (n : Nat) (f : LaneSt → LaneSt) : (s.modLn n f).plink = s.plink := rfl
@[simp] theorem paF_modLn (s : State) (n : Nat) (f : LaneSt → LaneSt) : (s.modLn n f).pa = s.pa := rfl
@[simp] theorem identF_modLn (s : State) (n : Nat) (f : LaneSt → LaneSt) : (s.modLn n f).ident = s.ident := rfl
@[simp] theorem chanF_modLn (s : State) (n : Nat) (f : LaneSt → LaneSt) : (s.modLn n f).chan = s.chan := rfl
@[simp] theorem mstageF_modLn (s : State) (n : Nat) (f : LaneSt → LaneSt) : (s.modLn n f).mstage = s.mstage := rfl
@[simp] theorem bootBadF_modLn (s : State) (n : Nat) (f : LaneSt → LaneSt) : (s.modLn n f).bootBad = s.bootBad := rfl
@[simp] theorem truF_modLn (s : State) (n : Nat) (f : LaneSt → LaneSt) : (s.modLn n f).tru = s.tru := rfl
@[simp] theorem calSetF_modLn (s : State) (n : Nat) (f : LaneSt → LaneSt) : (s.modLn n f).calSet = s.calSet := rfl
@[simp] theorem schedF_modLn (s : State) (n : Nat) (f : LaneSt → LaneSt) : (s.modLn n f).sched = s.sched := rfl
@[simp] theorem pdlF_modLn (s : State) (n : Nat) (f : LaneSt → LaneSt) : (s.modLn n f).pdl = s.pdl := rfl
@[simp] theorem gdlF_modLn (s : State) (n : Nat) (f : LaneSt → LaneSt) : (s.modLn n f).gdl = s.gdl := rfl
@[simp] theorem surfRetiredF_modLn (s : State) (n : Nat) (f : LaneSt → LaneSt) : (s.modLn n f).surfRetired = s.surfRetired := rfl
@[simp] theorem halfF_modLn (s : State) (n : Nat) (f : LaneSt → LaneSt) : (s.modLn n f).half = s.half := rfl
@[simp] theorem cruF_modLn (s : State) (n : Nat) (f : LaneSt → LaneSt) : (s.modLn n f).cru = s.cru := rfl
@[simp] theorem updatesF_modLn (s : State) (n : Nat) (f : LaneSt → LaneSt) : (s.modLn n f).updates = s.updates := rfl
@[simp] theorem openStripesF_modLn (s : State) (n : Nat) (f : LaneSt → LaneSt) : (s.modLn n f).openStripes = s.openStripes := rfl
@[simp] theorem savedStripesF_modLn (s : State) (n : Nat) (f : LaneSt → LaneSt) : (s.modLn n f).savedStripes = s.savedStripes := rfl
@[simp] theorem holesF_modLn (s : State) (n : Nat) (f : LaneSt → LaneSt) : (s.modLn n f).holes = s.holes := rfl
@[simp] theorem rebuildsF_modLn (s : State) (n : Nat) (f : LaneSt → LaneSt) : (s.modLn n f).rebuilds = s.rebuilds := rfl
@[simp] theorem verifiesF_modLn (s : State) (n : Nat) (f : LaneSt → LaneSt) : (s.modLn n f).verifies = s.verifies := rfl
@[simp] theorem rewritesF_modLn (s : State) (n : Nat) (f : LaneSt → LaneSt) : (s.modLn n f).rewrites = s.rewrites := rfl
@[simp] theorem readyF_modLn (s : State) (n : Nat) (f : LaneSt → LaneSt) : (s.modLn n f).ready = s.ready := rfl
@[simp] theorem cellF_modLn (s : State) (n : Nat) (f : LaneSt → LaneSt) : (s.modLn n f).cell = s.cell := rfl
@[simp] theorem mlaneF_modLn (s : State) (n : Nat) (f : LaneSt → LaneSt) : (s.modLn n f).mlane = s.mlane := rfl
@[simp] theorem pgF_modLn (s : State) (n : Nat) (f : LaneSt → LaneSt) : (s.modLn n f).pg = s.pg := rfl
@[simp] theorem plausF_modLn (s : State) (n : Nat) (f : LaneSt → LaneSt) : (s.modLn n f).plaus = s.plaus := rfl
@[simp] theorem mrecF_modLn (s : State) (n : Nat) (f : LaneSt → LaneSt) : (s.modLn n f).mrec = s.mrec := rfl
@[simp] theorem servoF_modLn (s : State) (n : Nat) (f : LaneSt → LaneSt) : (s.modLn n f).servo = s.servo := rfl
@[simp] theorem shockHeldF_modLn (s : State) (n : Nat) (f : LaneSt → LaneSt) : (s.modLn n f).shockHeld = s.shockHeld := rfl
@[simp] theorem spinF_modLn (s : State) (n : Nat) (f : LaneSt → LaneSt) : (s.modLn n f).spin = s.spin := rfl
@[simp] theorem memF_modLn (s : State) (n : Nat) (f : LaneSt → LaneSt) : (s.modLn n f).mem = s.mem := rfl
@[simp] theorem bufF_modLn (s : State) (n : Nat) (f : LaneSt → LaneSt) : (s.modLn n f).buf = s.buf := rfl
@[simp] theorem mccF_modLn (s : State) (n : Nat) (f : LaneSt → LaneSt) : (s.modLn n f).mcc = s.mcc := rfl
@[simp] theorem lifeF_modLn (s : State) (n : Nat) (f : LaneSt → LaneSt) : (s.modLn n f).life = s.life := rfl
@[simp] theorem freeF_modLn (s : State) (n : Nat) (f : LaneSt → LaneSt) : (s.modLn n f).free = s.free := rfl
@[simp] theorem outF_modLn (s : State) (n : Nat) (f : LaneSt → LaneSt) : (s.modLn n f).out = s.out := rfl
@[simp] theorem pendingF_modLn (s : State) (n : Nat) (f : LaneSt → LaneSt) : (s.modLn n f).pending = s.pending := rfl
@[simp] theorem partF_modHf (s : State) (n : Nat) (f : HalfSt → HalfSt) : (s.modHf n f).part = s.part := rfl
@[simp] theorem coreTimeF_modHf (s : State) (n : Nat) (f : HalfSt → HalfSt) : (s.modHf n f).coreTime = s.coreTime := rfl
@[simp] theorem regsF_modHf (s : State) (n : Nat) (f : HalfSt → HalfSt) : (s.modHf n f).regs = s.regs := rfl
@[simp] theorem regsRunF_modHf (s : State) (n : Nat) (f : HalfSt → HalfSt) : (s.modHf n f).regsRun = s.regsRun := rfl
@[simp] theorem odF_modHf (s : State) (n : Nat) (f : HalfSt → HalfSt) : (s.modHf n f).od = s.od := rfl
@[simp] theorem odRunF_modHf (s : State) (n : Nat) (f : HalfSt → HalfSt) : (s.modHf n f).odRun = s.odRun := rfl
@[simp] theorem odPendingF_modHf (s : State) (n : Nat) (f : HalfSt → HalfSt) : (s.modHf n f).odPending = s.odPending := rfl
@[simp] theorem storeF_modHf (s : State) (n : Nat) (f : HalfSt → HalfSt) : (s.modHf n f).store = s.store := rfl
@[simp] theorem storeRegsF_modHf (s : State) (n : Nat) (f : HalfSt → HalfSt) : (s.modHf n f).storeRegs = s.storeRegs := rfl
@[simp] theorem storeValidF_modHf (s : State) (n : Nat) (f : HalfSt → HalfSt) : (s.modHf n f).storeValid = s.storeValid := rfl
@[simp] theorem storeGenF_modHf (s : State) (n : Nat) (f : HalfSt → HalfSt) : (s.modHf n f).storeGen = s.storeGen := rfl
@[simp] theorem perSrcF_modHf (s : State) (n : Nat) (f : HalfSt → HalfSt) : (s.modHf n f).perSrc = s.perSrc := rfl
@[simp] theorem nonceF_modHf (s : State) (n : Nat) (f : HalfSt → HalfSt) : (s.modHf n f).nonce = s.nonce := rfl
@[simp] theorem asmF_modHf (s : State) (n : Nat) (f : HalfSt → HalfSt) : (s.modHf n f).asm = s.asm := rfl
@[simp] theorem odWaitF_modHf (s : State) (n : Nat) (f : HalfSt → HalfSt) : (s.modHf n f).odWait = s.odWait := rfl
@[simp] theorem commitBootF_modHf (s : State) (n : Nat) (f : HalfSt → HalfSt) : (s.modHf n f).commitBoot = s.commitBoot := rfl
@[simp] theorem failIndexF_modHf (s : State) (n : Nat) (f : HalfSt → HalfSt) : (s.modHf n f).failIndex = s.failIndex := rfl
@[simp] theorem failSubF_modHf (s : State) (n : Nat) (f : HalfSt → HalfSt) : (s.modHf n f).failSub = s.failSub := rfl
@[simp] theorem crossingF_modHf (s : State) (n : Nat) (f : HalfSt → HalfSt) : (s.modHf n f).crossing = s.crossing := rfl
@[simp] theorem flipMaskF_modHf (s : State) (n : Nat) (f : HalfSt → HalfSt) : (s.modHf n f).flipMask = s.flipMask := rfl
@[simp] theorem fetchStampF_modHf (s : State) (n : Nat) (f : HalfSt → HalfSt) : (s.modHf n f).fetchStamp = s.fetchStamp := rfl
@[simp] theorem writeGenF_modHf (s : State) (n : Nat) (f : HalfSt → HalfSt) : (s.modHf n f).writeGen = s.writeGen := rfl
@[simp] theorem crDoorF_modHf (s : State) (n : Nat) (f : HalfSt → HalfSt) : (s.modHf n f).crDoor = s.crDoor := rfl
@[simp] theorem fcF_modHf (s : State) (n : Nat) (f : HalfSt → HalfSt) : (s.modHf n f).fc = s.fc := rfl
@[simp] theorem recdF_modHf (s : State) (n : Nat) (f : HalfSt → HalfSt) : (s.modHf n f).recd = s.recd := rfl
@[simp] theorem healthF_modHf (s : State) (n : Nat) (f : HalfSt → HalfSt) : (s.modHf n f).health = s.health := rfl
@[simp] theorem hostTimeF_modHf (s : State) (n : Nat) (f : HalfSt → HalfSt) : (s.modHf n f).hostTime = s.hostTime := rfl
@[simp] theorem zlF_modHf (s : State) (n : Nat) (f : HalfSt → HalfSt) : (s.modHf n f).zl = s.zl := rfl
@[simp] theorem pwrF_modHf (s : State) (n : Nat) (f : HalfSt → HalfSt) : (s.modHf n f).pwr = s.pwr := rfl
@[simp] theorem secF_modHf (s : State) (n : Nat) (f : HalfSt → HalfSt) : (s.modHf n f).sec = s.sec := rfl
@[simp] theorem portF_modHf (s : State) (n : Nat) (f : HalfSt → HalfSt) : (s.modHf n f).port = s.port := rfl
@[simp] theorem srF_modHf (s : State) (n : Nat) (f : HalfSt → HalfSt) : (s.modHf n f).sr = s.sr := rfl
@[simp] theorem crF_modHf (s : State) (n : Nat) (f : HalfSt → HalfSt) : (s.modHf n f).cr = s.cr := rfl
@[simp] theorem rengF_modHf (s : State) (n : Nat) (f : HalfSt → HalfSt) : (s.modHf n f).reng = s.reng := rfl
@[simp] theorem cmdsF_modHf (s : State) (n : Nat) (f : HalfSt → HalfSt) : (s.modHf n f).cmds = s.cmds := rfl
@[simp] theorem dirtyF_modHf (s : State) (n : Nat) (f : HalfSt → HalfSt) : (s.modHf n f).dirty = s.dirty := rfl
@[simp] theorem dchF_modHf (s : State) (n : Nat) (f : HalfSt → HalfSt) : (s.modHf n f).dch = s.dch := rfl
@[simp] theorem engF_modHf (s : State) (n : Nat) (f : HalfSt → HalfSt) : (s.modHf n f).eng = s.eng := rfl
@[simp] theorem dtuF_modHf (s : State) (n : Nat) (f : HalfSt → HalfSt) : (s.modHf n f).dtu = s.dtu := rfl
@[simp] theorem objF_modHf (s : State) (n : Nat) (f : HalfSt → HalfSt) : (s.modHf n f).obj = s.obj := rfl
@[simp] theorem resvF_modHf (s : State) (n : Nat) (f : HalfSt → HalfSt) : (s.modHf n f).resv = s.resv := rfl
@[simp] theorem purgeF_modHf (s : State) (n : Nat) (f : HalfSt → HalfSt) : (s.modHf n f).purge = s.purge := rfl
@[simp] theorem droppedF_modHf (s : State) (n : Nat) (f : HalfSt → HalfSt) : (s.modHf n f).dropped = s.dropped := rfl
@[simp] theorem codeRetiredF_modHf (s : State) (n : Nat) (f : HalfSt → HalfSt) : (s.modHf n f).codeRetired = s.codeRetired := rfl
@[simp] theorem poolF_modHf (s : State) (n : Nat) (f : HalfSt → HalfSt) : (s.modHf n f).pool = s.pool := rfl
@[simp] theorem headF_modHf (s : State) (n : Nat) (f : HalfSt → HalfSt) : (s.modHf n f).head = s.head := rfl
@[simp] theorem plinkF_modHf (s : State) (n : Nat) (f : HalfSt → HalfSt) : (s.modHf n f).plink = s.plink := rfl
@[simp] theorem paF_modHf (s : State) (n : Nat) (f : HalfSt → HalfSt) : (s.modHf n f).pa = s.pa := rfl
@[simp] theorem identF_modHf (s : State) (n : Nat) (f : HalfSt → HalfSt) : (s.modHf n f).ident = s.ident := rfl
@[simp] theorem chanF_modHf (s : State) (n : Nat) (f : HalfSt → HalfSt) : (s.modHf n f).chan = s.chan := rfl
@[simp] theorem mstageF_modHf (s : State) (n : Nat) (f : HalfSt → HalfSt) : (s.modHf n f).mstage = s.mstage := rfl
@[simp] theorem bootBadF_modHf (s : State) (n : Nat) (f : HalfSt → HalfSt) : (s.modHf n f).bootBad = s.bootBad := rfl
@[simp] theorem truF_modHf (s : State) (n : Nat) (f : HalfSt → HalfSt) : (s.modHf n f).tru = s.tru := rfl
@[simp] theorem calSetF_modHf (s : State) (n : Nat) (f : HalfSt → HalfSt) : (s.modHf n f).calSet = s.calSet := rfl
@[simp] theorem schedF_modHf (s : State) (n : Nat) (f : HalfSt → HalfSt) : (s.modHf n f).sched = s.sched := rfl
@[simp] theorem pdlF_modHf (s : State) (n : Nat) (f : HalfSt → HalfSt) : (s.modHf n f).pdl = s.pdl := rfl
@[simp] theorem gdlF_modHf (s : State) (n : Nat) (f : HalfSt → HalfSt) : (s.modHf n f).gdl = s.gdl := rfl
@[simp] theorem surfRetiredF_modHf (s : State) (n : Nat) (f : HalfSt → HalfSt) : (s.modHf n f).surfRetired = s.surfRetired := rfl
@[simp] theorem laneF_modHf (s : State) (n : Nat) (f : HalfSt → HalfSt) : (s.modHf n f).lane = s.lane := rfl
@[simp] theorem cruF_modHf (s : State) (n : Nat) (f : HalfSt → HalfSt) : (s.modHf n f).cru = s.cru := rfl
@[simp] theorem updatesF_modHf (s : State) (n : Nat) (f : HalfSt → HalfSt) : (s.modHf n f).updates = s.updates := rfl
@[simp] theorem openStripesF_modHf (s : State) (n : Nat) (f : HalfSt → HalfSt) : (s.modHf n f).openStripes = s.openStripes := rfl
@[simp] theorem savedStripesF_modHf (s : State) (n : Nat) (f : HalfSt → HalfSt) : (s.modHf n f).savedStripes = s.savedStripes := rfl
@[simp] theorem holesF_modHf (s : State) (n : Nat) (f : HalfSt → HalfSt) : (s.modHf n f).holes = s.holes := rfl
@[simp] theorem rebuildsF_modHf (s : State) (n : Nat) (f : HalfSt → HalfSt) : (s.modHf n f).rebuilds = s.rebuilds := rfl
@[simp] theorem verifiesF_modHf (s : State) (n : Nat) (f : HalfSt → HalfSt) : (s.modHf n f).verifies = s.verifies := rfl
@[simp] theorem rewritesF_modHf (s : State) (n : Nat) (f : HalfSt → HalfSt) : (s.modHf n f).rewrites = s.rewrites := rfl
@[simp] theorem readyF_modHf (s : State) (n : Nat) (f : HalfSt → HalfSt) : (s.modHf n f).ready = s.ready := rfl
@[simp] theorem cellF_modHf (s : State) (n : Nat) (f : HalfSt → HalfSt) : (s.modHf n f).cell = s.cell := rfl
@[simp] theorem mlaneF_modHf (s : State) (n : Nat) (f : HalfSt → HalfSt) : (s.modHf n f).mlane = s.mlane := rfl
@[simp] theorem pgF_modHf (s : State) (n : Nat) (f : HalfSt → HalfSt) : (s.modHf n f).pg = s.pg := rfl
@[simp] theorem plausF_modHf (s : State) (n : Nat) (f : HalfSt → HalfSt) : (s.modHf n f).plaus = s.plaus := rfl
@[simp] theorem mrecF_modHf (s : State) (n : Nat) (f : HalfSt → HalfSt) : (s.modHf n f).mrec = s.mrec := rfl
@[simp] theorem servoF_modHf (s : State) (n : Nat) (f : HalfSt → HalfSt) : (s.modHf n f).servo = s.servo := rfl
@[simp] theorem shockHeldF_modHf (s : State) (n : Nat) (f : HalfSt → HalfSt) : (s.modHf n f).shockHeld = s.shockHeld := rfl
@[simp] theorem spinF_modHf (s : State) (n : Nat) (f : HalfSt → HalfSt) : (s.modHf n f).spin = s.spin := rfl
@[simp] theorem memF_modHf (s : State) (n : Nat) (f : HalfSt → HalfSt) : (s.modHf n f).mem = s.mem := rfl
@[simp] theorem bufF_modHf (s : State) (n : Nat) (f : HalfSt → HalfSt) : (s.modHf n f).buf = s.buf := rfl
@[simp] theorem mccF_modHf (s : State) (n : Nat) (f : HalfSt → HalfSt) : (s.modHf n f).mcc = s.mcc := rfl
@[simp] theorem lifeF_modHf (s : State) (n : Nat) (f : HalfSt → HalfSt) : (s.modHf n f).life = s.life := rfl
@[simp] theorem freeF_modHf (s : State) (n : Nat) (f : HalfSt → HalfSt) : (s.modHf n f).free = s.free := rfl
@[simp] theorem outF_modHf (s : State) (n : Nat) (f : HalfSt → HalfSt) : (s.modHf n f).out = s.out := rfl
@[simp] theorem pendingF_modHf (s : State) (n : Nat) (f : HalfSt → HalfSt) : (s.modHf n f).pending = s.pending := rfl
@[simp] theorem partF_modPrt (s : State) (n : Nat) (f : Port → Port) : (s.modPrt n f).part = s.part := rfl
@[simp] theorem coreTimeF_modPrt (s : State) (n : Nat) (f : Port → Port) : (s.modPrt n f).coreTime = s.coreTime := rfl
@[simp] theorem regsF_modPrt (s : State) (n : Nat) (f : Port → Port) : (s.modPrt n f).regs = s.regs := rfl
@[simp] theorem regsRunF_modPrt (s : State) (n : Nat) (f : Port → Port) : (s.modPrt n f).regsRun = s.regsRun := rfl
@[simp] theorem odF_modPrt (s : State) (n : Nat) (f : Port → Port) : (s.modPrt n f).od = s.od := rfl
@[simp] theorem odRunF_modPrt (s : State) (n : Nat) (f : Port → Port) : (s.modPrt n f).odRun = s.odRun := rfl
@[simp] theorem odPendingF_modPrt (s : State) (n : Nat) (f : Port → Port) : (s.modPrt n f).odPending = s.odPending := rfl
@[simp] theorem storeF_modPrt (s : State) (n : Nat) (f : Port → Port) : (s.modPrt n f).store = s.store := rfl
@[simp] theorem storeRegsF_modPrt (s : State) (n : Nat) (f : Port → Port) : (s.modPrt n f).storeRegs = s.storeRegs := rfl
@[simp] theorem storeValidF_modPrt (s : State) (n : Nat) (f : Port → Port) : (s.modPrt n f).storeValid = s.storeValid := rfl
@[simp] theorem storeGenF_modPrt (s : State) (n : Nat) (f : Port → Port) : (s.modPrt n f).storeGen = s.storeGen := rfl
@[simp] theorem perSrcF_modPrt (s : State) (n : Nat) (f : Port → Port) : (s.modPrt n f).perSrc = s.perSrc := rfl
@[simp] theorem nonceF_modPrt (s : State) (n : Nat) (f : Port → Port) : (s.modPrt n f).nonce = s.nonce := rfl
@[simp] theorem asmF_modPrt (s : State) (n : Nat) (f : Port → Port) : (s.modPrt n f).asm = s.asm := rfl
@[simp] theorem odWaitF_modPrt (s : State) (n : Nat) (f : Port → Port) : (s.modPrt n f).odWait = s.odWait := rfl
@[simp] theorem commitBootF_modPrt (s : State) (n : Nat) (f : Port → Port) : (s.modPrt n f).commitBoot = s.commitBoot := rfl
@[simp] theorem failIndexF_modPrt (s : State) (n : Nat) (f : Port → Port) : (s.modPrt n f).failIndex = s.failIndex := rfl
@[simp] theorem failSubF_modPrt (s : State) (n : Nat) (f : Port → Port) : (s.modPrt n f).failSub = s.failSub := rfl
@[simp] theorem crossingF_modPrt (s : State) (n : Nat) (f : Port → Port) : (s.modPrt n f).crossing = s.crossing := rfl
@[simp] theorem flipMaskF_modPrt (s : State) (n : Nat) (f : Port → Port) : (s.modPrt n f).flipMask = s.flipMask := rfl
@[simp] theorem fetchStampF_modPrt (s : State) (n : Nat) (f : Port → Port) : (s.modPrt n f).fetchStamp = s.fetchStamp := rfl
@[simp] theorem writeGenF_modPrt (s : State) (n : Nat) (f : Port → Port) : (s.modPrt n f).writeGen = s.writeGen := rfl
@[simp] theorem crDoorF_modPrt (s : State) (n : Nat) (f : Port → Port) : (s.modPrt n f).crDoor = s.crDoor := rfl
@[simp] theorem fcF_modPrt (s : State) (n : Nat) (f : Port → Port) : (s.modPrt n f).fc = s.fc := rfl
@[simp] theorem recdF_modPrt (s : State) (n : Nat) (f : Port → Port) : (s.modPrt n f).recd = s.recd := rfl
@[simp] theorem healthF_modPrt (s : State) (n : Nat) (f : Port → Port) : (s.modPrt n f).health = s.health := rfl
@[simp] theorem hostTimeF_modPrt (s : State) (n : Nat) (f : Port → Port) : (s.modPrt n f).hostTime = s.hostTime := rfl
@[simp] theorem zlF_modPrt (s : State) (n : Nat) (f : Port → Port) : (s.modPrt n f).zl = s.zl := rfl
@[simp] theorem pwrF_modPrt (s : State) (n : Nat) (f : Port → Port) : (s.modPrt n f).pwr = s.pwr := rfl
@[simp] theorem secF_modPrt (s : State) (n : Nat) (f : Port → Port) : (s.modPrt n f).sec = s.sec := rfl
@[simp] theorem srF_modPrt (s : State) (n : Nat) (f : Port → Port) : (s.modPrt n f).sr = s.sr := rfl
@[simp] theorem crF_modPrt (s : State) (n : Nat) (f : Port → Port) : (s.modPrt n f).cr = s.cr := rfl
@[simp] theorem rengF_modPrt (s : State) (n : Nat) (f : Port → Port) : (s.modPrt n f).reng = s.reng := rfl
@[simp] theorem cmdsF_modPrt (s : State) (n : Nat) (f : Port → Port) : (s.modPrt n f).cmds = s.cmds := rfl
@[simp] theorem dirtyF_modPrt (s : State) (n : Nat) (f : Port → Port) : (s.modPrt n f).dirty = s.dirty := rfl
@[simp] theorem dchF_modPrt (s : State) (n : Nat) (f : Port → Port) : (s.modPrt n f).dch = s.dch := rfl
@[simp] theorem engF_modPrt (s : State) (n : Nat) (f : Port → Port) : (s.modPrt n f).eng = s.eng := rfl
@[simp] theorem dtuF_modPrt (s : State) (n : Nat) (f : Port → Port) : (s.modPrt n f).dtu = s.dtu := rfl
@[simp] theorem objF_modPrt (s : State) (n : Nat) (f : Port → Port) : (s.modPrt n f).obj = s.obj := rfl
@[simp] theorem resvF_modPrt (s : State) (n : Nat) (f : Port → Port) : (s.modPrt n f).resv = s.resv := rfl
@[simp] theorem purgeF_modPrt (s : State) (n : Nat) (f : Port → Port) : (s.modPrt n f).purge = s.purge := rfl
@[simp] theorem droppedF_modPrt (s : State) (n : Nat) (f : Port → Port) : (s.modPrt n f).dropped = s.dropped := rfl
@[simp] theorem codeRetiredF_modPrt (s : State) (n : Nat) (f : Port → Port) : (s.modPrt n f).codeRetired = s.codeRetired := rfl
@[simp] theorem poolF_modPrt (s : State) (n : Nat) (f : Port → Port) : (s.modPrt n f).pool = s.pool := rfl
@[simp] theorem headF_modPrt (s : State) (n : Nat) (f : Port → Port) : (s.modPrt n f).head = s.head := rfl
@[simp] theorem plinkF_modPrt (s : State) (n : Nat) (f : Port → Port) : (s.modPrt n f).plink = s.plink := rfl
@[simp] theorem paF_modPrt (s : State) (n : Nat) (f : Port → Port) : (s.modPrt n f).pa = s.pa := rfl
@[simp] theorem identF_modPrt (s : State) (n : Nat) (f : Port → Port) : (s.modPrt n f).ident = s.ident := rfl
@[simp] theorem chanF_modPrt (s : State) (n : Nat) (f : Port → Port) : (s.modPrt n f).chan = s.chan := rfl
@[simp] theorem mstageF_modPrt (s : State) (n : Nat) (f : Port → Port) : (s.modPrt n f).mstage = s.mstage := rfl
@[simp] theorem bootBadF_modPrt (s : State) (n : Nat) (f : Port → Port) : (s.modPrt n f).bootBad = s.bootBad := rfl
@[simp] theorem truF_modPrt (s : State) (n : Nat) (f : Port → Port) : (s.modPrt n f).tru = s.tru := rfl
@[simp] theorem calSetF_modPrt (s : State) (n : Nat) (f : Port → Port) : (s.modPrt n f).calSet = s.calSet := rfl
@[simp] theorem schedF_modPrt (s : State) (n : Nat) (f : Port → Port) : (s.modPrt n f).sched = s.sched := rfl
@[simp] theorem pdlF_modPrt (s : State) (n : Nat) (f : Port → Port) : (s.modPrt n f).pdl = s.pdl := rfl
@[simp] theorem gdlF_modPrt (s : State) (n : Nat) (f : Port → Port) : (s.modPrt n f).gdl = s.gdl := rfl
@[simp] theorem surfRetiredF_modPrt (s : State) (n : Nat) (f : Port → Port) : (s.modPrt n f).surfRetired = s.surfRetired := rfl
@[simp] theorem laneF_modPrt (s : State) (n : Nat) (f : Port → Port) : (s.modPrt n f).lane = s.lane := rfl
@[simp] theorem halfF_modPrt (s : State) (n : Nat) (f : Port → Port) : (s.modPrt n f).half = s.half := rfl
@[simp] theorem cruF_modPrt (s : State) (n : Nat) (f : Port → Port) : (s.modPrt n f).cru = s.cru := rfl
@[simp] theorem updatesF_modPrt (s : State) (n : Nat) (f : Port → Port) : (s.modPrt n f).updates = s.updates := rfl
@[simp] theorem openStripesF_modPrt (s : State) (n : Nat) (f : Port → Port) : (s.modPrt n f).openStripes = s.openStripes := rfl
@[simp] theorem savedStripesF_modPrt (s : State) (n : Nat) (f : Port → Port) : (s.modPrt n f).savedStripes = s.savedStripes := rfl
@[simp] theorem holesF_modPrt (s : State) (n : Nat) (f : Port → Port) : (s.modPrt n f).holes = s.holes := rfl
@[simp] theorem rebuildsF_modPrt (s : State) (n : Nat) (f : Port → Port) : (s.modPrt n f).rebuilds = s.rebuilds := rfl
@[simp] theorem verifiesF_modPrt (s : State) (n : Nat) (f : Port → Port) : (s.modPrt n f).verifies = s.verifies := rfl
@[simp] theorem rewritesF_modPrt (s : State) (n : Nat) (f : Port → Port) : (s.modPrt n f).rewrites = s.rewrites := rfl
@[simp] theorem readyF_modPrt (s : State) (n : Nat) (f : Port → Port) : (s.modPrt n f).ready = s.ready := rfl
@[simp] theorem cellF_modPrt (s : State) (n : Nat) (f : Port → Port) : (s.modPrt n f).cell = s.cell := rfl
@[simp] theorem mlaneF_modPrt (s : State) (n : Nat) (f : Port → Port) : (s.modPrt n f).mlane = s.mlane := rfl
@[simp] theorem pgF_modPrt (s : State) (n : Nat) (f : Port → Port) : (s.modPrt n f).pg = s.pg := rfl
@[simp] theorem plausF_modPrt (s : State) (n : Nat) (f : Port → Port) : (s.modPrt n f).plaus = s.plaus := rfl
@[simp] theorem mrecF_modPrt (s : State) (n : Nat) (f : Port → Port) : (s.modPrt n f).mrec = s.mrec := rfl
@[simp] theorem servoF_modPrt (s : State) (n : Nat) (f : Port → Port) : (s.modPrt n f).servo = s.servo := rfl
@[simp] theorem shockHeldF_modPrt (s : State) (n : Nat) (f : Port → Port) : (s.modPrt n f).shockHeld = s.shockHeld := rfl
@[simp] theorem spinF_modPrt (s : State) (n : Nat) (f : Port → Port) : (s.modPrt n f).spin = s.spin := rfl
@[simp] theorem memF_modPrt (s : State) (n : Nat) (f : Port → Port) : (s.modPrt n f).mem = s.mem := rfl
@[simp] theorem bufF_modPrt (s : State) (n : Nat) (f : Port → Port) : (s.modPrt n f).buf = s.buf := rfl
@[simp] theorem mccF_modPrt (s : State) (n : Nat) (f : Port → Port) : (s.modPrt n f).mcc = s.mcc := rfl
@[simp] theorem lifeF_modPrt (s : State) (n : Nat) (f : Port → Port) : (s.modPrt n f).life = s.life := rfl
@[simp] theorem freeF_modPrt (s : State) (n : Nat) (f : Port → Port) : (s.modPrt n f).free = s.free := rfl
@[simp] theorem outF_modPrt (s : State) (n : Nat) (f : Port → Port) : (s.modPrt n f).out = s.out := rfl
@[simp] theorem pendingF_modPrt (s : State) (n : Nat) (f : Port → Port) : (s.modPrt n f).pending = s.pending := rfl
@[simp] theorem partF_modSr (s : State) (n : Nat) (f : SubRing → SubRing) : (s.modSr n f).part = s.part := rfl
@[simp] theorem coreTimeF_modSr (s : State) (n : Nat) (f : SubRing → SubRing) : (s.modSr n f).coreTime = s.coreTime := rfl
@[simp] theorem regsF_modSr (s : State) (n : Nat) (f : SubRing → SubRing) : (s.modSr n f).regs = s.regs := rfl
@[simp] theorem regsRunF_modSr (s : State) (n : Nat) (f : SubRing → SubRing) : (s.modSr n f).regsRun = s.regsRun := rfl
@[simp] theorem odF_modSr (s : State) (n : Nat) (f : SubRing → SubRing) : (s.modSr n f).od = s.od := rfl
@[simp] theorem odRunF_modSr (s : State) (n : Nat) (f : SubRing → SubRing) : (s.modSr n f).odRun = s.odRun := rfl
@[simp] theorem odPendingF_modSr (s : State) (n : Nat) (f : SubRing → SubRing) : (s.modSr n f).odPending = s.odPending := rfl
@[simp] theorem storeF_modSr (s : State) (n : Nat) (f : SubRing → SubRing) : (s.modSr n f).store = s.store := rfl
@[simp] theorem storeRegsF_modSr (s : State) (n : Nat) (f : SubRing → SubRing) : (s.modSr n f).storeRegs = s.storeRegs := rfl
@[simp] theorem storeValidF_modSr (s : State) (n : Nat) (f : SubRing → SubRing) : (s.modSr n f).storeValid = s.storeValid := rfl
@[simp] theorem storeGenF_modSr (s : State) (n : Nat) (f : SubRing → SubRing) : (s.modSr n f).storeGen = s.storeGen := rfl
@[simp] theorem perSrcF_modSr (s : State) (n : Nat) (f : SubRing → SubRing) : (s.modSr n f).perSrc = s.perSrc := rfl
@[simp] theorem nonceF_modSr (s : State) (n : Nat) (f : SubRing → SubRing) : (s.modSr n f).nonce = s.nonce := rfl
@[simp] theorem asmF_modSr (s : State) (n : Nat) (f : SubRing → SubRing) : (s.modSr n f).asm = s.asm := rfl
@[simp] theorem odWaitF_modSr (s : State) (n : Nat) (f : SubRing → SubRing) : (s.modSr n f).odWait = s.odWait := rfl
@[simp] theorem commitBootF_modSr (s : State) (n : Nat) (f : SubRing → SubRing) : (s.modSr n f).commitBoot = s.commitBoot := rfl
@[simp] theorem failIndexF_modSr (s : State) (n : Nat) (f : SubRing → SubRing) : (s.modSr n f).failIndex = s.failIndex := rfl
@[simp] theorem failSubF_modSr (s : State) (n : Nat) (f : SubRing → SubRing) : (s.modSr n f).failSub = s.failSub := rfl
@[simp] theorem crossingF_modSr (s : State) (n : Nat) (f : SubRing → SubRing) : (s.modSr n f).crossing = s.crossing := rfl
@[simp] theorem flipMaskF_modSr (s : State) (n : Nat) (f : SubRing → SubRing) : (s.modSr n f).flipMask = s.flipMask := rfl
@[simp] theorem fetchStampF_modSr (s : State) (n : Nat) (f : SubRing → SubRing) : (s.modSr n f).fetchStamp = s.fetchStamp := rfl
@[simp] theorem writeGenF_modSr (s : State) (n : Nat) (f : SubRing → SubRing) : (s.modSr n f).writeGen = s.writeGen := rfl
@[simp] theorem crDoorF_modSr (s : State) (n : Nat) (f : SubRing → SubRing) : (s.modSr n f).crDoor = s.crDoor := rfl
@[simp] theorem fcF_modSr (s : State) (n : Nat) (f : SubRing → SubRing) : (s.modSr n f).fc = s.fc := rfl
@[simp] theorem recdF_modSr (s : State) (n : Nat) (f : SubRing → SubRing) : (s.modSr n f).recd = s.recd := rfl
@[simp] theorem healthF_modSr (s : State) (n : Nat) (f : SubRing → SubRing) : (s.modSr n f).health = s.health := rfl
@[simp] theorem hostTimeF_modSr (s : State) (n : Nat) (f : SubRing → SubRing) : (s.modSr n f).hostTime = s.hostTime := rfl
@[simp] theorem zlF_modSr (s : State) (n : Nat) (f : SubRing → SubRing) : (s.modSr n f).zl = s.zl := rfl
@[simp] theorem pwrF_modSr (s : State) (n : Nat) (f : SubRing → SubRing) : (s.modSr n f).pwr = s.pwr := rfl
@[simp] theorem secF_modSr (s : State) (n : Nat) (f : SubRing → SubRing) : (s.modSr n f).sec = s.sec := rfl
@[simp] theorem portF_modSr (s : State) (n : Nat) (f : SubRing → SubRing) : (s.modSr n f).port = s.port := rfl
@[simp] theorem crF_modSr (s : State) (n : Nat) (f : SubRing → SubRing) : (s.modSr n f).cr = s.cr := rfl
@[simp] theorem rengF_modSr (s : State) (n : Nat) (f : SubRing → SubRing) : (s.modSr n f).reng = s.reng := rfl
@[simp] theorem cmdsF_modSr (s : State) (n : Nat) (f : SubRing → SubRing) : (s.modSr n f).cmds = s.cmds := rfl
@[simp] theorem dirtyF_modSr (s : State) (n : Nat) (f : SubRing → SubRing) : (s.modSr n f).dirty = s.dirty := rfl
@[simp] theorem dchF_modSr (s : State) (n : Nat) (f : SubRing → SubRing) : (s.modSr n f).dch = s.dch := rfl
@[simp] theorem engF_modSr (s : State) (n : Nat) (f : SubRing → SubRing) : (s.modSr n f).eng = s.eng := rfl
@[simp] theorem dtuF_modSr (s : State) (n : Nat) (f : SubRing → SubRing) : (s.modSr n f).dtu = s.dtu := rfl
@[simp] theorem objF_modSr (s : State) (n : Nat) (f : SubRing → SubRing) : (s.modSr n f).obj = s.obj := rfl
@[simp] theorem resvF_modSr (s : State) (n : Nat) (f : SubRing → SubRing) : (s.modSr n f).resv = s.resv := rfl
@[simp] theorem purgeF_modSr (s : State) (n : Nat) (f : SubRing → SubRing) : (s.modSr n f).purge = s.purge := rfl
@[simp] theorem droppedF_modSr (s : State) (n : Nat) (f : SubRing → SubRing) : (s.modSr n f).dropped = s.dropped := rfl
@[simp] theorem codeRetiredF_modSr (s : State) (n : Nat) (f : SubRing → SubRing) : (s.modSr n f).codeRetired = s.codeRetired := rfl
@[simp] theorem poolF_modSr (s : State) (n : Nat) (f : SubRing → SubRing) : (s.modSr n f).pool = s.pool := rfl
@[simp] theorem headF_modSr (s : State) (n : Nat) (f : SubRing → SubRing) : (s.modSr n f).head = s.head := rfl
@[simp] theorem plinkF_modSr (s : State) (n : Nat) (f : SubRing → SubRing) : (s.modSr n f).plink = s.plink := rfl
@[simp] theorem paF_modSr (s : State) (n : Nat) (f : SubRing → SubRing) : (s.modSr n f).pa = s.pa := rfl
@[simp] theorem identF_modSr (s : State) (n : Nat) (f : SubRing → SubRing) : (s.modSr n f).ident = s.ident := rfl
@[simp] theorem chanF_modSr (s : State) (n : Nat) (f : SubRing → SubRing) : (s.modSr n f).chan = s.chan := rfl
@[simp] theorem mstageF_modSr (s : State) (n : Nat) (f : SubRing → SubRing) : (s.modSr n f).mstage = s.mstage := rfl
@[simp] theorem bootBadF_modSr (s : State) (n : Nat) (f : SubRing → SubRing) : (s.modSr n f).bootBad = s.bootBad := rfl
@[simp] theorem truF_modSr (s : State) (n : Nat) (f : SubRing → SubRing) : (s.modSr n f).tru = s.tru := rfl
@[simp] theorem calSetF_modSr (s : State) (n : Nat) (f : SubRing → SubRing) : (s.modSr n f).calSet = s.calSet := rfl
@[simp] theorem schedF_modSr (s : State) (n : Nat) (f : SubRing → SubRing) : (s.modSr n f).sched = s.sched := rfl
@[simp] theorem pdlF_modSr (s : State) (n : Nat) (f : SubRing → SubRing) : (s.modSr n f).pdl = s.pdl := rfl
@[simp] theorem gdlF_modSr (s : State) (n : Nat) (f : SubRing → SubRing) : (s.modSr n f).gdl = s.gdl := rfl
@[simp] theorem surfRetiredF_modSr (s : State) (n : Nat) (f : SubRing → SubRing) : (s.modSr n f).surfRetired = s.surfRetired := rfl
@[simp] theorem laneF_modSr (s : State) (n : Nat) (f : SubRing → SubRing) : (s.modSr n f).lane = s.lane := rfl
@[simp] theorem halfF_modSr (s : State) (n : Nat) (f : SubRing → SubRing) : (s.modSr n f).half = s.half := rfl
@[simp] theorem cruF_modSr (s : State) (n : Nat) (f : SubRing → SubRing) : (s.modSr n f).cru = s.cru := rfl
@[simp] theorem updatesF_modSr (s : State) (n : Nat) (f : SubRing → SubRing) : (s.modSr n f).updates = s.updates := rfl
@[simp] theorem openStripesF_modSr (s : State) (n : Nat) (f : SubRing → SubRing) : (s.modSr n f).openStripes = s.openStripes := rfl
@[simp] theorem savedStripesF_modSr (s : State) (n : Nat) (f : SubRing → SubRing) : (s.modSr n f).savedStripes = s.savedStripes := rfl
@[simp] theorem holesF_modSr (s : State) (n : Nat) (f : SubRing → SubRing) : (s.modSr n f).holes = s.holes := rfl
@[simp] theorem rebuildsF_modSr (s : State) (n : Nat) (f : SubRing → SubRing) : (s.modSr n f).rebuilds = s.rebuilds := rfl
@[simp] theorem verifiesF_modSr (s : State) (n : Nat) (f : SubRing → SubRing) : (s.modSr n f).verifies = s.verifies := rfl
@[simp] theorem rewritesF_modSr (s : State) (n : Nat) (f : SubRing → SubRing) : (s.modSr n f).rewrites = s.rewrites := rfl
@[simp] theorem readyF_modSr (s : State) (n : Nat) (f : SubRing → SubRing) : (s.modSr n f).ready = s.ready := rfl
@[simp] theorem cellF_modSr (s : State) (n : Nat) (f : SubRing → SubRing) : (s.modSr n f).cell = s.cell := rfl
@[simp] theorem mlaneF_modSr (s : State) (n : Nat) (f : SubRing → SubRing) : (s.modSr n f).mlane = s.mlane := rfl
@[simp] theorem pgF_modSr (s : State) (n : Nat) (f : SubRing → SubRing) : (s.modSr n f).pg = s.pg := rfl
@[simp] theorem plausF_modSr (s : State) (n : Nat) (f : SubRing → SubRing) : (s.modSr n f).plaus = s.plaus := rfl
@[simp] theorem mrecF_modSr (s : State) (n : Nat) (f : SubRing → SubRing) : (s.modSr n f).mrec = s.mrec := rfl
@[simp] theorem servoF_modSr (s : State) (n : Nat) (f : SubRing → SubRing) : (s.modSr n f).servo = s.servo := rfl
@[simp] theorem shockHeldF_modSr (s : State) (n : Nat) (f : SubRing → SubRing) : (s.modSr n f).shockHeld = s.shockHeld := rfl
@[simp] theorem spinF_modSr (s : State) (n : Nat) (f : SubRing → SubRing) : (s.modSr n f).spin = s.spin := rfl
@[simp] theorem memF_modSr (s : State) (n : Nat) (f : SubRing → SubRing) : (s.modSr n f).mem = s.mem := rfl
@[simp] theorem bufF_modSr (s : State) (n : Nat) (f : SubRing → SubRing) : (s.modSr n f).buf = s.buf := rfl
@[simp] theorem mccF_modSr (s : State) (n : Nat) (f : SubRing → SubRing) : (s.modSr n f).mcc = s.mcc := rfl
@[simp] theorem lifeF_modSr (s : State) (n : Nat) (f : SubRing → SubRing) : (s.modSr n f).life = s.life := rfl
@[simp] theorem freeF_modSr (s : State) (n : Nat) (f : SubRing → SubRing) : (s.modSr n f).free = s.free := rfl
@[simp] theorem outF_modSr (s : State) (n : Nat) (f : SubRing → SubRing) : (s.modSr n f).out = s.out := rfl
@[simp] theorem pendingF_modSr (s : State) (n : Nat) (f : SubRing → SubRing) : (s.modSr n f).pending = s.pending := rfl
@[simp] theorem partF_modCr (s : State) (n : Nat) (f : CompRing → CompRing) : (s.modCr n f).part = s.part := rfl
@[simp] theorem coreTimeF_modCr (s : State) (n : Nat) (f : CompRing → CompRing) : (s.modCr n f).coreTime = s.coreTime := rfl
@[simp] theorem regsF_modCr (s : State) (n : Nat) (f : CompRing → CompRing) : (s.modCr n f).regs = s.regs := rfl
@[simp] theorem regsRunF_modCr (s : State) (n : Nat) (f : CompRing → CompRing) : (s.modCr n f).regsRun = s.regsRun := rfl
@[simp] theorem odF_modCr (s : State) (n : Nat) (f : CompRing → CompRing) : (s.modCr n f).od = s.od := rfl
@[simp] theorem odRunF_modCr (s : State) (n : Nat) (f : CompRing → CompRing) : (s.modCr n f).odRun = s.odRun := rfl
@[simp] theorem odPendingF_modCr (s : State) (n : Nat) (f : CompRing → CompRing) : (s.modCr n f).odPending = s.odPending := rfl
@[simp] theorem storeF_modCr (s : State) (n : Nat) (f : CompRing → CompRing) : (s.modCr n f).store = s.store := rfl
@[simp] theorem storeRegsF_modCr (s : State) (n : Nat) (f : CompRing → CompRing) : (s.modCr n f).storeRegs = s.storeRegs := rfl
@[simp] theorem storeValidF_modCr (s : State) (n : Nat) (f : CompRing → CompRing) : (s.modCr n f).storeValid = s.storeValid := rfl
@[simp] theorem storeGenF_modCr (s : State) (n : Nat) (f : CompRing → CompRing) : (s.modCr n f).storeGen = s.storeGen := rfl
@[simp] theorem perSrcF_modCr (s : State) (n : Nat) (f : CompRing → CompRing) : (s.modCr n f).perSrc = s.perSrc := rfl
@[simp] theorem nonceF_modCr (s : State) (n : Nat) (f : CompRing → CompRing) : (s.modCr n f).nonce = s.nonce := rfl
@[simp] theorem asmF_modCr (s : State) (n : Nat) (f : CompRing → CompRing) : (s.modCr n f).asm = s.asm := rfl
@[simp] theorem odWaitF_modCr (s : State) (n : Nat) (f : CompRing → CompRing) : (s.modCr n f).odWait = s.odWait := rfl
@[simp] theorem commitBootF_modCr (s : State) (n : Nat) (f : CompRing → CompRing) : (s.modCr n f).commitBoot = s.commitBoot := rfl
@[simp] theorem failIndexF_modCr (s : State) (n : Nat) (f : CompRing → CompRing) : (s.modCr n f).failIndex = s.failIndex := rfl
@[simp] theorem failSubF_modCr (s : State) (n : Nat) (f : CompRing → CompRing) : (s.modCr n f).failSub = s.failSub := rfl
@[simp] theorem crossingF_modCr (s : State) (n : Nat) (f : CompRing → CompRing) : (s.modCr n f).crossing = s.crossing := rfl
@[simp] theorem flipMaskF_modCr (s : State) (n : Nat) (f : CompRing → CompRing) : (s.modCr n f).flipMask = s.flipMask := rfl
@[simp] theorem fetchStampF_modCr (s : State) (n : Nat) (f : CompRing → CompRing) : (s.modCr n f).fetchStamp = s.fetchStamp := rfl
@[simp] theorem writeGenF_modCr (s : State) (n : Nat) (f : CompRing → CompRing) : (s.modCr n f).writeGen = s.writeGen := rfl
@[simp] theorem crDoorF_modCr (s : State) (n : Nat) (f : CompRing → CompRing) : (s.modCr n f).crDoor = s.crDoor := rfl
@[simp] theorem fcF_modCr (s : State) (n : Nat) (f : CompRing → CompRing) : (s.modCr n f).fc = s.fc := rfl
@[simp] theorem recdF_modCr (s : State) (n : Nat) (f : CompRing → CompRing) : (s.modCr n f).recd = s.recd := rfl
@[simp] theorem healthF_modCr (s : State) (n : Nat) (f : CompRing → CompRing) : (s.modCr n f).health = s.health := rfl
@[simp] theorem hostTimeF_modCr (s : State) (n : Nat) (f : CompRing → CompRing) : (s.modCr n f).hostTime = s.hostTime := rfl
@[simp] theorem zlF_modCr (s : State) (n : Nat) (f : CompRing → CompRing) : (s.modCr n f).zl = s.zl := rfl
@[simp] theorem pwrF_modCr (s : State) (n : Nat) (f : CompRing → CompRing) : (s.modCr n f).pwr = s.pwr := rfl
@[simp] theorem secF_modCr (s : State) (n : Nat) (f : CompRing → CompRing) : (s.modCr n f).sec = s.sec := rfl
@[simp] theorem portF_modCr (s : State) (n : Nat) (f : CompRing → CompRing) : (s.modCr n f).port = s.port := rfl
@[simp] theorem srF_modCr (s : State) (n : Nat) (f : CompRing → CompRing) : (s.modCr n f).sr = s.sr := rfl
@[simp] theorem rengF_modCr (s : State) (n : Nat) (f : CompRing → CompRing) : (s.modCr n f).reng = s.reng := rfl
@[simp] theorem cmdsF_modCr (s : State) (n : Nat) (f : CompRing → CompRing) : (s.modCr n f).cmds = s.cmds := rfl
@[simp] theorem dirtyF_modCr (s : State) (n : Nat) (f : CompRing → CompRing) : (s.modCr n f).dirty = s.dirty := rfl
@[simp] theorem dchF_modCr (s : State) (n : Nat) (f : CompRing → CompRing) : (s.modCr n f).dch = s.dch := rfl
@[simp] theorem engF_modCr (s : State) (n : Nat) (f : CompRing → CompRing) : (s.modCr n f).eng = s.eng := rfl
@[simp] theorem dtuF_modCr (s : State) (n : Nat) (f : CompRing → CompRing) : (s.modCr n f).dtu = s.dtu := rfl
@[simp] theorem objF_modCr (s : State) (n : Nat) (f : CompRing → CompRing) : (s.modCr n f).obj = s.obj := rfl
@[simp] theorem resvF_modCr (s : State) (n : Nat) (f : CompRing → CompRing) : (s.modCr n f).resv = s.resv := rfl
@[simp] theorem purgeF_modCr (s : State) (n : Nat) (f : CompRing → CompRing) : (s.modCr n f).purge = s.purge := rfl
@[simp] theorem droppedF_modCr (s : State) (n : Nat) (f : CompRing → CompRing) : (s.modCr n f).dropped = s.dropped := rfl
@[simp] theorem codeRetiredF_modCr (s : State) (n : Nat) (f : CompRing → CompRing) : (s.modCr n f).codeRetired = s.codeRetired := rfl
@[simp] theorem poolF_modCr (s : State) (n : Nat) (f : CompRing → CompRing) : (s.modCr n f).pool = s.pool := rfl
@[simp] theorem headF_modCr (s : State) (n : Nat) (f : CompRing → CompRing) : (s.modCr n f).head = s.head := rfl
@[simp] theorem plinkF_modCr (s : State) (n : Nat) (f : CompRing → CompRing) : (s.modCr n f).plink = s.plink := rfl
@[simp] theorem paF_modCr (s : State) (n : Nat) (f : CompRing → CompRing) : (s.modCr n f).pa = s.pa := rfl
@[simp] theorem identF_modCr (s : State) (n : Nat) (f : CompRing → CompRing) : (s.modCr n f).ident = s.ident := rfl
@[simp] theorem chanF_modCr (s : State) (n : Nat) (f : CompRing → CompRing) : (s.modCr n f).chan = s.chan := rfl
@[simp] theorem mstageF_modCr (s : State) (n : Nat) (f : CompRing → CompRing) : (s.modCr n f).mstage = s.mstage := rfl
@[simp] theorem bootBadF_modCr (s : State) (n : Nat) (f : CompRing → CompRing) : (s.modCr n f).bootBad = s.bootBad := rfl
@[simp] theorem truF_modCr (s : State) (n : Nat) (f : CompRing → CompRing) : (s.modCr n f).tru = s.tru := rfl
@[simp] theorem calSetF_modCr (s : State) (n : Nat) (f : CompRing → CompRing) : (s.modCr n f).calSet = s.calSet := rfl
@[simp] theorem schedF_modCr (s : State) (n : Nat) (f : CompRing → CompRing) : (s.modCr n f).sched = s.sched := rfl
@[simp] theorem pdlF_modCr (s : State) (n : Nat) (f : CompRing → CompRing) : (s.modCr n f).pdl = s.pdl := rfl
@[simp] theorem gdlF_modCr (s : State) (n : Nat) (f : CompRing → CompRing) : (s.modCr n f).gdl = s.gdl := rfl
@[simp] theorem surfRetiredF_modCr (s : State) (n : Nat) (f : CompRing → CompRing) : (s.modCr n f).surfRetired = s.surfRetired := rfl
@[simp] theorem laneF_modCr (s : State) (n : Nat) (f : CompRing → CompRing) : (s.modCr n f).lane = s.lane := rfl
@[simp] theorem halfF_modCr (s : State) (n : Nat) (f : CompRing → CompRing) : (s.modCr n f).half = s.half := rfl
@[simp] theorem cruF_modCr (s : State) (n : Nat) (f : CompRing → CompRing) : (s.modCr n f).cru = s.cru := rfl
@[simp] theorem updatesF_modCr (s : State) (n : Nat) (f : CompRing → CompRing) : (s.modCr n f).updates = s.updates := rfl
@[simp] theorem openStripesF_modCr (s : State) (n : Nat) (f : CompRing → CompRing) : (s.modCr n f).openStripes = s.openStripes := rfl
@[simp] theorem savedStripesF_modCr (s : State) (n : Nat) (f : CompRing → CompRing) : (s.modCr n f).savedStripes = s.savedStripes := rfl
@[simp] theorem holesF_modCr (s : State) (n : Nat) (f : CompRing → CompRing) : (s.modCr n f).holes = s.holes := rfl
@[simp] theorem rebuildsF_modCr (s : State) (n : Nat) (f : CompRing → CompRing) : (s.modCr n f).rebuilds = s.rebuilds := rfl
@[simp] theorem verifiesF_modCr (s : State) (n : Nat) (f : CompRing → CompRing) : (s.modCr n f).verifies = s.verifies := rfl
@[simp] theorem rewritesF_modCr (s : State) (n : Nat) (f : CompRing → CompRing) : (s.modCr n f).rewrites = s.rewrites := rfl
@[simp] theorem readyF_modCr (s : State) (n : Nat) (f : CompRing → CompRing) : (s.modCr n f).ready = s.ready := rfl
@[simp] theorem cellF_modCr (s : State) (n : Nat) (f : CompRing → CompRing) : (s.modCr n f).cell = s.cell := rfl
@[simp] theorem mlaneF_modCr (s : State) (n : Nat) (f : CompRing → CompRing) : (s.modCr n f).mlane = s.mlane := rfl
@[simp] theorem pgF_modCr (s : State) (n : Nat) (f : CompRing → CompRing) : (s.modCr n f).pg = s.pg := rfl
@[simp] theorem plausF_modCr (s : State) (n : Nat) (f : CompRing → CompRing) : (s.modCr n f).plaus = s.plaus := rfl
@[simp] theorem mrecF_modCr (s : State) (n : Nat) (f : CompRing → CompRing) : (s.modCr n f).mrec = s.mrec := rfl
@[simp] theorem servoF_modCr (s : State) (n : Nat) (f : CompRing → CompRing) : (s.modCr n f).servo = s.servo := rfl
@[simp] theorem shockHeldF_modCr (s : State) (n : Nat) (f : CompRing → CompRing) : (s.modCr n f).shockHeld = s.shockHeld := rfl
@[simp] theorem spinF_modCr (s : State) (n : Nat) (f : CompRing → CompRing) : (s.modCr n f).spin = s.spin := rfl
@[simp] theorem memF_modCr (s : State) (n : Nat) (f : CompRing → CompRing) : (s.modCr n f).mem = s.mem := rfl
@[simp] theorem bufF_modCr (s : State) (n : Nat) (f : CompRing → CompRing) : (s.modCr n f).buf = s.buf := rfl
@[simp] theorem mccF_modCr (s : State) (n : Nat) (f : CompRing → CompRing) : (s.modCr n f).mcc = s.mcc := rfl
@[simp] theorem lifeF_modCr (s : State) (n : Nat) (f : CompRing → CompRing) : (s.modCr n f).life = s.life := rfl
@[simp] theorem freeF_modCr (s : State) (n : Nat) (f : CompRing → CompRing) : (s.modCr n f).free = s.free := rfl
@[simp] theorem outF_modCr (s : State) (n : Nat) (f : CompRing → CompRing) : (s.modCr n f).out = s.out := rfl
@[simp] theorem pendingF_modCr (s : State) (n : Nat) (f : CompRing → CompRing) : (s.modCr n f).pending = s.pending := rfl
@[simp] theorem partF_modIdr (s : State) (n : Nat) (f : IdRole → IdRole) : (s.modIdr n f).part = s.part := rfl
@[simp] theorem coreTimeF_modIdr (s : State) (n : Nat) (f : IdRole → IdRole) : (s.modIdr n f).coreTime = s.coreTime := rfl
@[simp] theorem regsF_modIdr (s : State) (n : Nat) (f : IdRole → IdRole) : (s.modIdr n f).regs = s.regs := rfl
@[simp] theorem regsRunF_modIdr (s : State) (n : Nat) (f : IdRole → IdRole) : (s.modIdr n f).regsRun = s.regsRun := rfl
@[simp] theorem odF_modIdr (s : State) (n : Nat) (f : IdRole → IdRole) : (s.modIdr n f).od = s.od := rfl
@[simp] theorem odRunF_modIdr (s : State) (n : Nat) (f : IdRole → IdRole) : (s.modIdr n f).odRun = s.odRun := rfl
@[simp] theorem odPendingF_modIdr (s : State) (n : Nat) (f : IdRole → IdRole) : (s.modIdr n f).odPending = s.odPending := rfl
@[simp] theorem storeF_modIdr (s : State) (n : Nat) (f : IdRole → IdRole) : (s.modIdr n f).store = s.store := rfl
@[simp] theorem storeRegsF_modIdr (s : State) (n : Nat) (f : IdRole → IdRole) : (s.modIdr n f).storeRegs = s.storeRegs := rfl
@[simp] theorem storeValidF_modIdr (s : State) (n : Nat) (f : IdRole → IdRole) : (s.modIdr n f).storeValid = s.storeValid := rfl
@[simp] theorem storeGenF_modIdr (s : State) (n : Nat) (f : IdRole → IdRole) : (s.modIdr n f).storeGen = s.storeGen := rfl
@[simp] theorem perSrcF_modIdr (s : State) (n : Nat) (f : IdRole → IdRole) : (s.modIdr n f).perSrc = s.perSrc := rfl
@[simp] theorem nonceF_modIdr (s : State) (n : Nat) (f : IdRole → IdRole) : (s.modIdr n f).nonce = s.nonce := rfl
@[simp] theorem asmF_modIdr (s : State) (n : Nat) (f : IdRole → IdRole) : (s.modIdr n f).asm = s.asm := rfl
@[simp] theorem odWaitF_modIdr (s : State) (n : Nat) (f : IdRole → IdRole) : (s.modIdr n f).odWait = s.odWait := rfl
@[simp] theorem commitBootF_modIdr (s : State) (n : Nat) (f : IdRole → IdRole) : (s.modIdr n f).commitBoot = s.commitBoot := rfl
@[simp] theorem failIndexF_modIdr (s : State) (n : Nat) (f : IdRole → IdRole) : (s.modIdr n f).failIndex = s.failIndex := rfl
@[simp] theorem failSubF_modIdr (s : State) (n : Nat) (f : IdRole → IdRole) : (s.modIdr n f).failSub = s.failSub := rfl
@[simp] theorem crossingF_modIdr (s : State) (n : Nat) (f : IdRole → IdRole) : (s.modIdr n f).crossing = s.crossing := rfl
@[simp] theorem flipMaskF_modIdr (s : State) (n : Nat) (f : IdRole → IdRole) : (s.modIdr n f).flipMask = s.flipMask := rfl
@[simp] theorem fetchStampF_modIdr (s : State) (n : Nat) (f : IdRole → IdRole) : (s.modIdr n f).fetchStamp = s.fetchStamp := rfl
@[simp] theorem writeGenF_modIdr (s : State) (n : Nat) (f : IdRole → IdRole) : (s.modIdr n f).writeGen = s.writeGen := rfl
@[simp] theorem crDoorF_modIdr (s : State) (n : Nat) (f : IdRole → IdRole) : (s.modIdr n f).crDoor = s.crDoor := rfl
@[simp] theorem fcF_modIdr (s : State) (n : Nat) (f : IdRole → IdRole) : (s.modIdr n f).fc = s.fc := rfl
@[simp] theorem recdF_modIdr (s : State) (n : Nat) (f : IdRole → IdRole) : (s.modIdr n f).recd = s.recd := rfl
@[simp] theorem healthF_modIdr (s : State) (n : Nat) (f : IdRole → IdRole) : (s.modIdr n f).health = s.health := rfl
@[simp] theorem hostTimeF_modIdr (s : State) (n : Nat) (f : IdRole → IdRole) : (s.modIdr n f).hostTime = s.hostTime := rfl
@[simp] theorem zlF_modIdr (s : State) (n : Nat) (f : IdRole → IdRole) : (s.modIdr n f).zl = s.zl := rfl
@[simp] theorem pwrF_modIdr (s : State) (n : Nat) (f : IdRole → IdRole) : (s.modIdr n f).pwr = s.pwr := rfl
@[simp] theorem secF_modIdr (s : State) (n : Nat) (f : IdRole → IdRole) : (s.modIdr n f).sec = s.sec := rfl
@[simp] theorem portF_modIdr (s : State) (n : Nat) (f : IdRole → IdRole) : (s.modIdr n f).port = s.port := rfl
@[simp] theorem srF_modIdr (s : State) (n : Nat) (f : IdRole → IdRole) : (s.modIdr n f).sr = s.sr := rfl
@[simp] theorem crF_modIdr (s : State) (n : Nat) (f : IdRole → IdRole) : (s.modIdr n f).cr = s.cr := rfl
@[simp] theorem rengF_modIdr (s : State) (n : Nat) (f : IdRole → IdRole) : (s.modIdr n f).reng = s.reng := rfl
@[simp] theorem cmdsF_modIdr (s : State) (n : Nat) (f : IdRole → IdRole) : (s.modIdr n f).cmds = s.cmds := rfl
@[simp] theorem dirtyF_modIdr (s : State) (n : Nat) (f : IdRole → IdRole) : (s.modIdr n f).dirty = s.dirty := rfl
@[simp] theorem dchF_modIdr (s : State) (n : Nat) (f : IdRole → IdRole) : (s.modIdr n f).dch = s.dch := rfl
@[simp] theorem engF_modIdr (s : State) (n : Nat) (f : IdRole → IdRole) : (s.modIdr n f).eng = s.eng := rfl
@[simp] theorem dtuF_modIdr (s : State) (n : Nat) (f : IdRole → IdRole) : (s.modIdr n f).dtu = s.dtu := rfl
@[simp] theorem objF_modIdr (s : State) (n : Nat) (f : IdRole → IdRole) : (s.modIdr n f).obj = s.obj := rfl
@[simp] theorem resvF_modIdr (s : State) (n : Nat) (f : IdRole → IdRole) : (s.modIdr n f).resv = s.resv := rfl
@[simp] theorem purgeF_modIdr (s : State) (n : Nat) (f : IdRole → IdRole) : (s.modIdr n f).purge = s.purge := rfl
@[simp] theorem droppedF_modIdr (s : State) (n : Nat) (f : IdRole → IdRole) : (s.modIdr n f).dropped = s.dropped := rfl
@[simp] theorem codeRetiredF_modIdr (s : State) (n : Nat) (f : IdRole → IdRole) : (s.modIdr n f).codeRetired = s.codeRetired := rfl
@[simp] theorem poolF_modIdr (s : State) (n : Nat) (f : IdRole → IdRole) : (s.modIdr n f).pool = s.pool := rfl
@[simp] theorem headF_modIdr (s : State) (n : Nat) (f : IdRole → IdRole) : (s.modIdr n f).head = s.head := rfl
@[simp] theorem plinkF_modIdr (s : State) (n : Nat) (f : IdRole → IdRole) : (s.modIdr n f).plink = s.plink := rfl
@[simp] theorem paF_modIdr (s : State) (n : Nat) (f : IdRole → IdRole) : (s.modIdr n f).pa = s.pa := rfl
@[simp] theorem chanF_modIdr (s : State) (n : Nat) (f : IdRole → IdRole) : (s.modIdr n f).chan = s.chan := rfl
@[simp] theorem mstageF_modIdr (s : State) (n : Nat) (f : IdRole → IdRole) : (s.modIdr n f).mstage = s.mstage := rfl
@[simp] theorem bootBadF_modIdr (s : State) (n : Nat) (f : IdRole → IdRole) : (s.modIdr n f).bootBad = s.bootBad := rfl
@[simp] theorem truF_modIdr (s : State) (n : Nat) (f : IdRole → IdRole) : (s.modIdr n f).tru = s.tru := rfl
@[simp] theorem calSetF_modIdr (s : State) (n : Nat) (f : IdRole → IdRole) : (s.modIdr n f).calSet = s.calSet := rfl
@[simp] theorem schedF_modIdr (s : State) (n : Nat) (f : IdRole → IdRole) : (s.modIdr n f).sched = s.sched := rfl
@[simp] theorem pdlF_modIdr (s : State) (n : Nat) (f : IdRole → IdRole) : (s.modIdr n f).pdl = s.pdl := rfl
@[simp] theorem gdlF_modIdr (s : State) (n : Nat) (f : IdRole → IdRole) : (s.modIdr n f).gdl = s.gdl := rfl
@[simp] theorem surfRetiredF_modIdr (s : State) (n : Nat) (f : IdRole → IdRole) : (s.modIdr n f).surfRetired = s.surfRetired := rfl
@[simp] theorem laneF_modIdr (s : State) (n : Nat) (f : IdRole → IdRole) : (s.modIdr n f).lane = s.lane := rfl
@[simp] theorem halfF_modIdr (s : State) (n : Nat) (f : IdRole → IdRole) : (s.modIdr n f).half = s.half := rfl
@[simp] theorem cruF_modIdr (s : State) (n : Nat) (f : IdRole → IdRole) : (s.modIdr n f).cru = s.cru := rfl
@[simp] theorem updatesF_modIdr (s : State) (n : Nat) (f : IdRole → IdRole) : (s.modIdr n f).updates = s.updates := rfl
@[simp] theorem openStripesF_modIdr (s : State) (n : Nat) (f : IdRole → IdRole) : (s.modIdr n f).openStripes = s.openStripes := rfl
@[simp] theorem savedStripesF_modIdr (s : State) (n : Nat) (f : IdRole → IdRole) : (s.modIdr n f).savedStripes = s.savedStripes := rfl
@[simp] theorem holesF_modIdr (s : State) (n : Nat) (f : IdRole → IdRole) : (s.modIdr n f).holes = s.holes := rfl
@[simp] theorem rebuildsF_modIdr (s : State) (n : Nat) (f : IdRole → IdRole) : (s.modIdr n f).rebuilds = s.rebuilds := rfl
@[simp] theorem verifiesF_modIdr (s : State) (n : Nat) (f : IdRole → IdRole) : (s.modIdr n f).verifies = s.verifies := rfl
@[simp] theorem rewritesF_modIdr (s : State) (n : Nat) (f : IdRole → IdRole) : (s.modIdr n f).rewrites = s.rewrites := rfl
@[simp] theorem readyF_modIdr (s : State) (n : Nat) (f : IdRole → IdRole) : (s.modIdr n f).ready = s.ready := rfl
@[simp] theorem cellF_modIdr (s : State) (n : Nat) (f : IdRole → IdRole) : (s.modIdr n f).cell = s.cell := rfl
@[simp] theorem mlaneF_modIdr (s : State) (n : Nat) (f : IdRole → IdRole) : (s.modIdr n f).mlane = s.mlane := rfl
@[simp] theorem pgF_modIdr (s : State) (n : Nat) (f : IdRole → IdRole) : (s.modIdr n f).pg = s.pg := rfl
@[simp] theorem plausF_modIdr (s : State) (n : Nat) (f : IdRole → IdRole) : (s.modIdr n f).plaus = s.plaus := rfl
@[simp] theorem mrecF_modIdr (s : State) (n : Nat) (f : IdRole → IdRole) : (s.modIdr n f).mrec = s.mrec := rfl
@[simp] theorem servoF_modIdr (s : State) (n : Nat) (f : IdRole → IdRole) : (s.modIdr n f).servo = s.servo := rfl
@[simp] theorem shockHeldF_modIdr (s : State) (n : Nat) (f : IdRole → IdRole) : (s.modIdr n f).shockHeld = s.shockHeld := rfl
@[simp] theorem spinF_modIdr (s : State) (n : Nat) (f : IdRole → IdRole) : (s.modIdr n f).spin = s.spin := rfl
@[simp] theorem memF_modIdr (s : State) (n : Nat) (f : IdRole → IdRole) : (s.modIdr n f).mem = s.mem := rfl
@[simp] theorem bufF_modIdr (s : State) (n : Nat) (f : IdRole → IdRole) : (s.modIdr n f).buf = s.buf := rfl
@[simp] theorem mccF_modIdr (s : State) (n : Nat) (f : IdRole → IdRole) : (s.modIdr n f).mcc = s.mcc := rfl
@[simp] theorem lifeF_modIdr (s : State) (n : Nat) (f : IdRole → IdRole) : (s.modIdr n f).life = s.life := rfl
@[simp] theorem freeF_modIdr (s : State) (n : Nat) (f : IdRole → IdRole) : (s.modIdr n f).free = s.free := rfl
@[simp] theorem outF_modIdr (s : State) (n : Nat) (f : IdRole → IdRole) : (s.modIdr n f).out = s.out := rfl
@[simp] theorem pendingF_modIdr (s : State) (n : Nat) (f : IdRole → IdRole) : (s.modIdr n f).pending = s.pending := rfl
@[simp] theorem partF_modLc (s : State) (n : Nat) (f : CellSt → CellSt) : (s.modLc n f).part = s.part := rfl
@[simp] theorem coreTimeF_modLc (s : State) (n : Nat) (f : CellSt → CellSt) : (s.modLc n f).coreTime = s.coreTime := rfl
@[simp] theorem regsF_modLc (s : State) (n : Nat) (f : CellSt → CellSt) : (s.modLc n f).regs = s.regs := rfl
@[simp] theorem regsRunF_modLc (s : State) (n : Nat) (f : CellSt → CellSt) : (s.modLc n f).regsRun = s.regsRun := rfl
@[simp] theorem odF_modLc (s : State) (n : Nat) (f : CellSt → CellSt) : (s.modLc n f).od = s.od := rfl
@[simp] theorem odRunF_modLc (s : State) (n : Nat) (f : CellSt → CellSt) : (s.modLc n f).odRun = s.odRun := rfl
@[simp] theorem odPendingF_modLc (s : State) (n : Nat) (f : CellSt → CellSt) : (s.modLc n f).odPending = s.odPending := rfl
@[simp] theorem storeF_modLc (s : State) (n : Nat) (f : CellSt → CellSt) : (s.modLc n f).store = s.store := rfl
@[simp] theorem storeRegsF_modLc (s : State) (n : Nat) (f : CellSt → CellSt) : (s.modLc n f).storeRegs = s.storeRegs := rfl
@[simp] theorem storeValidF_modLc (s : State) (n : Nat) (f : CellSt → CellSt) : (s.modLc n f).storeValid = s.storeValid := rfl
@[simp] theorem storeGenF_modLc (s : State) (n : Nat) (f : CellSt → CellSt) : (s.modLc n f).storeGen = s.storeGen := rfl
@[simp] theorem perSrcF_modLc (s : State) (n : Nat) (f : CellSt → CellSt) : (s.modLc n f).perSrc = s.perSrc := rfl
@[simp] theorem nonceF_modLc (s : State) (n : Nat) (f : CellSt → CellSt) : (s.modLc n f).nonce = s.nonce := rfl
@[simp] theorem asmF_modLc (s : State) (n : Nat) (f : CellSt → CellSt) : (s.modLc n f).asm = s.asm := rfl
@[simp] theorem odWaitF_modLc (s : State) (n : Nat) (f : CellSt → CellSt) : (s.modLc n f).odWait = s.odWait := rfl
@[simp] theorem commitBootF_modLc (s : State) (n : Nat) (f : CellSt → CellSt) : (s.modLc n f).commitBoot = s.commitBoot := rfl
@[simp] theorem failIndexF_modLc (s : State) (n : Nat) (f : CellSt → CellSt) : (s.modLc n f).failIndex = s.failIndex := rfl
@[simp] theorem failSubF_modLc (s : State) (n : Nat) (f : CellSt → CellSt) : (s.modLc n f).failSub = s.failSub := rfl
@[simp] theorem crossingF_modLc (s : State) (n : Nat) (f : CellSt → CellSt) : (s.modLc n f).crossing = s.crossing := rfl
@[simp] theorem flipMaskF_modLc (s : State) (n : Nat) (f : CellSt → CellSt) : (s.modLc n f).flipMask = s.flipMask := rfl
@[simp] theorem fetchStampF_modLc (s : State) (n : Nat) (f : CellSt → CellSt) : (s.modLc n f).fetchStamp = s.fetchStamp := rfl
@[simp] theorem writeGenF_modLc (s : State) (n : Nat) (f : CellSt → CellSt) : (s.modLc n f).writeGen = s.writeGen := rfl
@[simp] theorem crDoorF_modLc (s : State) (n : Nat) (f : CellSt → CellSt) : (s.modLc n f).crDoor = s.crDoor := rfl
@[simp] theorem fcF_modLc (s : State) (n : Nat) (f : CellSt → CellSt) : (s.modLc n f).fc = s.fc := rfl
@[simp] theorem recdF_modLc (s : State) (n : Nat) (f : CellSt → CellSt) : (s.modLc n f).recd = s.recd := rfl
@[simp] theorem healthF_modLc (s : State) (n : Nat) (f : CellSt → CellSt) : (s.modLc n f).health = s.health := rfl
@[simp] theorem hostTimeF_modLc (s : State) (n : Nat) (f : CellSt → CellSt) : (s.modLc n f).hostTime = s.hostTime := rfl
@[simp] theorem zlF_modLc (s : State) (n : Nat) (f : CellSt → CellSt) : (s.modLc n f).zl = s.zl := rfl
@[simp] theorem pwrF_modLc (s : State) (n : Nat) (f : CellSt → CellSt) : (s.modLc n f).pwr = s.pwr := rfl
@[simp] theorem secF_modLc (s : State) (n : Nat) (f : CellSt → CellSt) : (s.modLc n f).sec = s.sec := rfl
@[simp] theorem portF_modLc (s : State) (n : Nat) (f : CellSt → CellSt) : (s.modLc n f).port = s.port := rfl
@[simp] theorem srF_modLc (s : State) (n : Nat) (f : CellSt → CellSt) : (s.modLc n f).sr = s.sr := rfl
@[simp] theorem crF_modLc (s : State) (n : Nat) (f : CellSt → CellSt) : (s.modLc n f).cr = s.cr := rfl
@[simp] theorem rengF_modLc (s : State) (n : Nat) (f : CellSt → CellSt) : (s.modLc n f).reng = s.reng := rfl
@[simp] theorem cmdsF_modLc (s : State) (n : Nat) (f : CellSt → CellSt) : (s.modLc n f).cmds = s.cmds := rfl
@[simp] theorem dirtyF_modLc (s : State) (n : Nat) (f : CellSt → CellSt) : (s.modLc n f).dirty = s.dirty := rfl
@[simp] theorem dchF_modLc (s : State) (n : Nat) (f : CellSt → CellSt) : (s.modLc n f).dch = s.dch := rfl
@[simp] theorem engF_modLc (s : State) (n : Nat) (f : CellSt → CellSt) : (s.modLc n f).eng = s.eng := rfl
@[simp] theorem dtuF_modLc (s : State) (n : Nat) (f : CellSt → CellSt) : (s.modLc n f).dtu = s.dtu := rfl
@[simp] theorem objF_modLc (s : State) (n : Nat) (f : CellSt → CellSt) : (s.modLc n f).obj = s.obj := rfl
@[simp] theorem resvF_modLc (s : State) (n : Nat) (f : CellSt → CellSt) : (s.modLc n f).resv = s.resv := rfl
@[simp] theorem purgeF_modLc (s : State) (n : Nat) (f : CellSt → CellSt) : (s.modLc n f).purge = s.purge := rfl
@[simp] theorem droppedF_modLc (s : State) (n : Nat) (f : CellSt → CellSt) : (s.modLc n f).dropped = s.dropped := rfl
@[simp] theorem codeRetiredF_modLc (s : State) (n : Nat) (f : CellSt → CellSt) : (s.modLc n f).codeRetired = s.codeRetired := rfl
@[simp] theorem poolF_modLc (s : State) (n : Nat) (f : CellSt → CellSt) : (s.modLc n f).pool = s.pool := rfl
@[simp] theorem headF_modLc (s : State) (n : Nat) (f : CellSt → CellSt) : (s.modLc n f).head = s.head := rfl
@[simp] theorem plinkF_modLc (s : State) (n : Nat) (f : CellSt → CellSt) : (s.modLc n f).plink = s.plink := rfl
@[simp] theorem paF_modLc (s : State) (n : Nat) (f : CellSt → CellSt) : (s.modLc n f).pa = s.pa := rfl
@[simp] theorem identF_modLc (s : State) (n : Nat) (f : CellSt → CellSt) : (s.modLc n f).ident = s.ident := rfl
@[simp] theorem chanF_modLc (s : State) (n : Nat) (f : CellSt → CellSt) : (s.modLc n f).chan = s.chan := rfl
@[simp] theorem mstageF_modLc (s : State) (n : Nat) (f : CellSt → CellSt) : (s.modLc n f).mstage = s.mstage := rfl
@[simp] theorem bootBadF_modLc (s : State) (n : Nat) (f : CellSt → CellSt) : (s.modLc n f).bootBad = s.bootBad := rfl
@[simp] theorem truF_modLc (s : State) (n : Nat) (f : CellSt → CellSt) : (s.modLc n f).tru = s.tru := rfl
@[simp] theorem calSetF_modLc (s : State) (n : Nat) (f : CellSt → CellSt) : (s.modLc n f).calSet = s.calSet := rfl
@[simp] theorem schedF_modLc (s : State) (n : Nat) (f : CellSt → CellSt) : (s.modLc n f).sched = s.sched := rfl
@[simp] theorem pdlF_modLc (s : State) (n : Nat) (f : CellSt → CellSt) : (s.modLc n f).pdl = s.pdl := rfl
@[simp] theorem gdlF_modLc (s : State) (n : Nat) (f : CellSt → CellSt) : (s.modLc n f).gdl = s.gdl := rfl
@[simp] theorem surfRetiredF_modLc (s : State) (n : Nat) (f : CellSt → CellSt) : (s.modLc n f).surfRetired = s.surfRetired := rfl
@[simp] theorem laneF_modLc (s : State) (n : Nat) (f : CellSt → CellSt) : (s.modLc n f).lane = s.lane := rfl
@[simp] theorem halfF_modLc (s : State) (n : Nat) (f : CellSt → CellSt) : (s.modLc n f).half = s.half := rfl
@[simp] theorem cruF_modLc (s : State) (n : Nat) (f : CellSt → CellSt) : (s.modLc n f).cru = s.cru := rfl
@[simp] theorem updatesF_modLc (s : State) (n : Nat) (f : CellSt → CellSt) : (s.modLc n f).updates = s.updates := rfl
@[simp] theorem openStripesF_modLc (s : State) (n : Nat) (f : CellSt → CellSt) : (s.modLc n f).openStripes = s.openStripes := rfl
@[simp] theorem savedStripesF_modLc (s : State) (n : Nat) (f : CellSt → CellSt) : (s.modLc n f).savedStripes = s.savedStripes := rfl
@[simp] theorem holesF_modLc (s : State) (n : Nat) (f : CellSt → CellSt) : (s.modLc n f).holes = s.holes := rfl
@[simp] theorem rebuildsF_modLc (s : State) (n : Nat) (f : CellSt → CellSt) : (s.modLc n f).rebuilds = s.rebuilds := rfl
@[simp] theorem verifiesF_modLc (s : State) (n : Nat) (f : CellSt → CellSt) : (s.modLc n f).verifies = s.verifies := rfl
@[simp] theorem rewritesF_modLc (s : State) (n : Nat) (f : CellSt → CellSt) : (s.modLc n f).rewrites = s.rewrites := rfl
@[simp] theorem readyF_modLc (s : State) (n : Nat) (f : CellSt → CellSt) : (s.modLc n f).ready = s.ready := rfl
@[simp] theorem mlaneF_modLc (s : State) (n : Nat) (f : CellSt → CellSt) : (s.modLc n f).mlane = s.mlane := rfl
@[simp] theorem pgF_modLc (s : State) (n : Nat) (f : CellSt → CellSt) : (s.modLc n f).pg = s.pg := rfl
@[simp] theorem plausF_modLc (s : State) (n : Nat) (f : CellSt → CellSt) : (s.modLc n f).plaus = s.plaus := rfl
@[simp] theorem mrecF_modLc (s : State) (n : Nat) (f : CellSt → CellSt) : (s.modLc n f).mrec = s.mrec := rfl
@[simp] theorem servoF_modLc (s : State) (n : Nat) (f : CellSt → CellSt) : (s.modLc n f).servo = s.servo := rfl
@[simp] theorem shockHeldF_modLc (s : State) (n : Nat) (f : CellSt → CellSt) : (s.modLc n f).shockHeld = s.shockHeld := rfl
@[simp] theorem spinF_modLc (s : State) (n : Nat) (f : CellSt → CellSt) : (s.modLc n f).spin = s.spin := rfl
@[simp] theorem memF_modLc (s : State) (n : Nat) (f : CellSt → CellSt) : (s.modLc n f).mem = s.mem := rfl
@[simp] theorem bufF_modLc (s : State) (n : Nat) (f : CellSt → CellSt) : (s.modLc n f).buf = s.buf := rfl
@[simp] theorem mccF_modLc (s : State) (n : Nat) (f : CellSt → CellSt) : (s.modLc n f).mcc = s.mcc := rfl
@[simp] theorem lifeF_modLc (s : State) (n : Nat) (f : CellSt → CellSt) : (s.modLc n f).life = s.life := rfl
@[simp] theorem freeF_modLc (s : State) (n : Nat) (f : CellSt → CellSt) : (s.modLc n f).free = s.free := rfl
@[simp] theorem outF_modLc (s : State) (n : Nat) (f : CellSt → CellSt) : (s.modLc n f).out = s.out := rfl
@[simp] theorem pendingF_modLc (s : State) (n : Nat) (f : CellSt → CellSt) : (s.modLc n f).pending = s.pending := rfl
@[simp] theorem partF_modPg (s : State) (n : Nat) (f : PgSt → PgSt) : (s.modPg n f).part = s.part := rfl
@[simp] theorem coreTimeF_modPg (s : State) (n : Nat) (f : PgSt → PgSt) : (s.modPg n f).coreTime = s.coreTime := rfl
@[simp] theorem regsF_modPg (s : State) (n : Nat) (f : PgSt → PgSt) : (s.modPg n f).regs = s.regs := rfl
@[simp] theorem regsRunF_modPg (s : State) (n : Nat) (f : PgSt → PgSt) : (s.modPg n f).regsRun = s.regsRun := rfl
@[simp] theorem odF_modPg (s : State) (n : Nat) (f : PgSt → PgSt) : (s.modPg n f).od = s.od := rfl
@[simp] theorem odRunF_modPg (s : State) (n : Nat) (f : PgSt → PgSt) : (s.modPg n f).odRun = s.odRun := rfl
@[simp] theorem odPendingF_modPg (s : State) (n : Nat) (f : PgSt → PgSt) : (s.modPg n f).odPending = s.odPending := rfl
@[simp] theorem storeF_modPg (s : State) (n : Nat) (f : PgSt → PgSt) : (s.modPg n f).store = s.store := rfl
@[simp] theorem storeRegsF_modPg (s : State) (n : Nat) (f : PgSt → PgSt) : (s.modPg n f).storeRegs = s.storeRegs := rfl
@[simp] theorem storeValidF_modPg (s : State) (n : Nat) (f : PgSt → PgSt) : (s.modPg n f).storeValid = s.storeValid := rfl
@[simp] theorem storeGenF_modPg (s : State) (n : Nat) (f : PgSt → PgSt) : (s.modPg n f).storeGen = s.storeGen := rfl
@[simp] theorem perSrcF_modPg (s : State) (n : Nat) (f : PgSt → PgSt) : (s.modPg n f).perSrc = s.perSrc := rfl
@[simp] theorem nonceF_modPg (s : State) (n : Nat) (f : PgSt → PgSt) : (s.modPg n f).nonce = s.nonce := rfl
@[simp] theorem asmF_modPg (s : State) (n : Nat) (f : PgSt → PgSt) : (s.modPg n f).asm = s.asm := rfl
@[simp] theorem odWaitF_modPg (s : State) (n : Nat) (f : PgSt → PgSt) : (s.modPg n f).odWait = s.odWait := rfl
@[simp] theorem commitBootF_modPg (s : State) (n : Nat) (f : PgSt → PgSt) : (s.modPg n f).commitBoot = s.commitBoot := rfl
@[simp] theorem failIndexF_modPg (s : State) (n : Nat) (f : PgSt → PgSt) : (s.modPg n f).failIndex = s.failIndex := rfl
@[simp] theorem failSubF_modPg (s : State) (n : Nat) (f : PgSt → PgSt) : (s.modPg n f).failSub = s.failSub := rfl
@[simp] theorem crossingF_modPg (s : State) (n : Nat) (f : PgSt → PgSt) : (s.modPg n f).crossing = s.crossing := rfl
@[simp] theorem flipMaskF_modPg (s : State) (n : Nat) (f : PgSt → PgSt) : (s.modPg n f).flipMask = s.flipMask := rfl
@[simp] theorem fetchStampF_modPg (s : State) (n : Nat) (f : PgSt → PgSt) : (s.modPg n f).fetchStamp = s.fetchStamp := rfl
@[simp] theorem writeGenF_modPg (s : State) (n : Nat) (f : PgSt → PgSt) : (s.modPg n f).writeGen = s.writeGen := rfl
@[simp] theorem crDoorF_modPg (s : State) (n : Nat) (f : PgSt → PgSt) : (s.modPg n f).crDoor = s.crDoor := rfl
@[simp] theorem fcF_modPg (s : State) (n : Nat) (f : PgSt → PgSt) : (s.modPg n f).fc = s.fc := rfl
@[simp] theorem recdF_modPg (s : State) (n : Nat) (f : PgSt → PgSt) : (s.modPg n f).recd = s.recd := rfl
@[simp] theorem healthF_modPg (s : State) (n : Nat) (f : PgSt → PgSt) : (s.modPg n f).health = s.health := rfl
@[simp] theorem hostTimeF_modPg (s : State) (n : Nat) (f : PgSt → PgSt) : (s.modPg n f).hostTime = s.hostTime := rfl
@[simp] theorem zlF_modPg (s : State) (n : Nat) (f : PgSt → PgSt) : (s.modPg n f).zl = s.zl := rfl
@[simp] theorem pwrF_modPg (s : State) (n : Nat) (f : PgSt → PgSt) : (s.modPg n f).pwr = s.pwr := rfl
@[simp] theorem secF_modPg (s : State) (n : Nat) (f : PgSt → PgSt) : (s.modPg n f).sec = s.sec := rfl
@[simp] theorem portF_modPg (s : State) (n : Nat) (f : PgSt → PgSt) : (s.modPg n f).port = s.port := rfl
@[simp] theorem srF_modPg (s : State) (n : Nat) (f : PgSt → PgSt) : (s.modPg n f).sr = s.sr := rfl
@[simp] theorem crF_modPg (s : State) (n : Nat) (f : PgSt → PgSt) : (s.modPg n f).cr = s.cr := rfl
@[simp] theorem rengF_modPg (s : State) (n : Nat) (f : PgSt → PgSt) : (s.modPg n f).reng = s.reng := rfl
@[simp] theorem cmdsF_modPg (s : State) (n : Nat) (f : PgSt → PgSt) : (s.modPg n f).cmds = s.cmds := rfl
@[simp] theorem dirtyF_modPg (s : State) (n : Nat) (f : PgSt → PgSt) : (s.modPg n f).dirty = s.dirty := rfl
@[simp] theorem dchF_modPg (s : State) (n : Nat) (f : PgSt → PgSt) : (s.modPg n f).dch = s.dch := rfl
@[simp] theorem engF_modPg (s : State) (n : Nat) (f : PgSt → PgSt) : (s.modPg n f).eng = s.eng := rfl
@[simp] theorem dtuF_modPg (s : State) (n : Nat) (f : PgSt → PgSt) : (s.modPg n f).dtu = s.dtu := rfl
@[simp] theorem objF_modPg (s : State) (n : Nat) (f : PgSt → PgSt) : (s.modPg n f).obj = s.obj := rfl
@[simp] theorem resvF_modPg (s : State) (n : Nat) (f : PgSt → PgSt) : (s.modPg n f).resv = s.resv := rfl
@[simp] theorem purgeF_modPg (s : State) (n : Nat) (f : PgSt → PgSt) : (s.modPg n f).purge = s.purge := rfl
@[simp] theorem droppedF_modPg (s : State) (n : Nat) (f : PgSt → PgSt) : (s.modPg n f).dropped = s.dropped := rfl
@[simp] theorem codeRetiredF_modPg (s : State) (n : Nat) (f : PgSt → PgSt) : (s.modPg n f).codeRetired = s.codeRetired := rfl
@[simp] theorem poolF_modPg (s : State) (n : Nat) (f : PgSt → PgSt) : (s.modPg n f).pool = s.pool := rfl
@[simp] theorem headF_modPg (s : State) (n : Nat) (f : PgSt → PgSt) : (s.modPg n f).head = s.head := rfl
@[simp] theorem plinkF_modPg (s : State) (n : Nat) (f : PgSt → PgSt) : (s.modPg n f).plink = s.plink := rfl
@[simp] theorem paF_modPg (s : State) (n : Nat) (f : PgSt → PgSt) : (s.modPg n f).pa = s.pa := rfl
@[simp] theorem identF_modPg (s : State) (n : Nat) (f : PgSt → PgSt) : (s.modPg n f).ident = s.ident := rfl
@[simp] theorem chanF_modPg (s : State) (n : Nat) (f : PgSt → PgSt) : (s.modPg n f).chan = s.chan := rfl
@[simp] theorem mstageF_modPg (s : State) (n : Nat) (f : PgSt → PgSt) : (s.modPg n f).mstage = s.mstage := rfl
@[simp] theorem bootBadF_modPg (s : State) (n : Nat) (f : PgSt → PgSt) : (s.modPg n f).bootBad = s.bootBad := rfl
@[simp] theorem truF_modPg (s : State) (n : Nat) (f : PgSt → PgSt) : (s.modPg n f).tru = s.tru := rfl
@[simp] theorem calSetF_modPg (s : State) (n : Nat) (f : PgSt → PgSt) : (s.modPg n f).calSet = s.calSet := rfl
@[simp] theorem schedF_modPg (s : State) (n : Nat) (f : PgSt → PgSt) : (s.modPg n f).sched = s.sched := rfl
@[simp] theorem pdlF_modPg (s : State) (n : Nat) (f : PgSt → PgSt) : (s.modPg n f).pdl = s.pdl := rfl
@[simp] theorem gdlF_modPg (s : State) (n : Nat) (f : PgSt → PgSt) : (s.modPg n f).gdl = s.gdl := rfl
@[simp] theorem surfRetiredF_modPg (s : State) (n : Nat) (f : PgSt → PgSt) : (s.modPg n f).surfRetired = s.surfRetired := rfl
@[simp] theorem laneF_modPg (s : State) (n : Nat) (f : PgSt → PgSt) : (s.modPg n f).lane = s.lane := rfl
@[simp] theorem halfF_modPg (s : State) (n : Nat) (f : PgSt → PgSt) : (s.modPg n f).half = s.half := rfl
@[simp] theorem cruF_modPg (s : State) (n : Nat) (f : PgSt → PgSt) : (s.modPg n f).cru = s.cru := rfl
@[simp] theorem updatesF_modPg (s : State) (n : Nat) (f : PgSt → PgSt) : (s.modPg n f).updates = s.updates := rfl
@[simp] theorem openStripesF_modPg (s : State) (n : Nat) (f : PgSt → PgSt) : (s.modPg n f).openStripes = s.openStripes := rfl
@[simp] theorem savedStripesF_modPg (s : State) (n : Nat) (f : PgSt → PgSt) : (s.modPg n f).savedStripes = s.savedStripes := rfl
@[simp] theorem holesF_modPg (s : State) (n : Nat) (f : PgSt → PgSt) : (s.modPg n f).holes = s.holes := rfl
@[simp] theorem rebuildsF_modPg (s : State) (n : Nat) (f : PgSt → PgSt) : (s.modPg n f).rebuilds = s.rebuilds := rfl
@[simp] theorem verifiesF_modPg (s : State) (n : Nat) (f : PgSt → PgSt) : (s.modPg n f).verifies = s.verifies := rfl
@[simp] theorem rewritesF_modPg (s : State) (n : Nat) (f : PgSt → PgSt) : (s.modPg n f).rewrites = s.rewrites := rfl
@[simp] theorem readyF_modPg (s : State) (n : Nat) (f : PgSt → PgSt) : (s.modPg n f).ready = s.ready := rfl
@[simp] theorem cellF_modPg (s : State) (n : Nat) (f : PgSt → PgSt) : (s.modPg n f).cell = s.cell := rfl
@[simp] theorem mlaneF_modPg (s : State) (n : Nat) (f : PgSt → PgSt) : (s.modPg n f).mlane = s.mlane := rfl
@[simp] theorem plausF_modPg (s : State) (n : Nat) (f : PgSt → PgSt) : (s.modPg n f).plaus = s.plaus := rfl
@[simp] theorem mrecF_modPg (s : State) (n : Nat) (f : PgSt → PgSt) : (s.modPg n f).mrec = s.mrec := rfl
@[simp] theorem servoF_modPg (s : State) (n : Nat) (f : PgSt → PgSt) : (s.modPg n f).servo = s.servo := rfl
@[simp] theorem shockHeldF_modPg (s : State) (n : Nat) (f : PgSt → PgSt) : (s.modPg n f).shockHeld = s.shockHeld := rfl
@[simp] theorem spinF_modPg (s : State) (n : Nat) (f : PgSt → PgSt) : (s.modPg n f).spin = s.spin := rfl
@[simp] theorem memF_modPg (s : State) (n : Nat) (f : PgSt → PgSt) : (s.modPg n f).mem = s.mem := rfl
@[simp] theorem bufF_modPg (s : State) (n : Nat) (f : PgSt → PgSt) : (s.modPg n f).buf = s.buf := rfl
@[simp] theorem mccF_modPg (s : State) (n : Nat) (f : PgSt → PgSt) : (s.modPg n f).mcc = s.mcc := rfl
@[simp] theorem lifeF_modPg (s : State) (n : Nat) (f : PgSt → PgSt) : (s.modPg n f).life = s.life := rfl
@[simp] theorem freeF_modPg (s : State) (n : Nat) (f : PgSt → PgSt) : (s.modPg n f).free = s.free := rfl
@[simp] theorem outF_modPg (s : State) (n : Nat) (f : PgSt → PgSt) : (s.modPg n f).out = s.out := rfl
@[simp] theorem pendingF_modPg (s : State) (n : Nat) (f : PgSt → PgSt) : (s.modPg n f).pending = s.pending := rfl
@[simp] theorem partF_modPc (s : State) (n : Nat) (f : PcSt → PcSt) : (s.modPc n f).part = s.part := rfl
@[simp] theorem coreTimeF_modPc (s : State) (n : Nat) (f : PcSt → PcSt) : (s.modPc n f).coreTime = s.coreTime := rfl
@[simp] theorem regsF_modPc (s : State) (n : Nat) (f : PcSt → PcSt) : (s.modPc n f).regs = s.regs := rfl
@[simp] theorem regsRunF_modPc (s : State) (n : Nat) (f : PcSt → PcSt) : (s.modPc n f).regsRun = s.regsRun := rfl
@[simp] theorem odF_modPc (s : State) (n : Nat) (f : PcSt → PcSt) : (s.modPc n f).od = s.od := rfl
@[simp] theorem odRunF_modPc (s : State) (n : Nat) (f : PcSt → PcSt) : (s.modPc n f).odRun = s.odRun := rfl
@[simp] theorem odPendingF_modPc (s : State) (n : Nat) (f : PcSt → PcSt) : (s.modPc n f).odPending = s.odPending := rfl
@[simp] theorem storeF_modPc (s : State) (n : Nat) (f : PcSt → PcSt) : (s.modPc n f).store = s.store := rfl
@[simp] theorem storeRegsF_modPc (s : State) (n : Nat) (f : PcSt → PcSt) : (s.modPc n f).storeRegs = s.storeRegs := rfl
@[simp] theorem storeValidF_modPc (s : State) (n : Nat) (f : PcSt → PcSt) : (s.modPc n f).storeValid = s.storeValid := rfl
@[simp] theorem storeGenF_modPc (s : State) (n : Nat) (f : PcSt → PcSt) : (s.modPc n f).storeGen = s.storeGen := rfl
@[simp] theorem perSrcF_modPc (s : State) (n : Nat) (f : PcSt → PcSt) : (s.modPc n f).perSrc = s.perSrc := rfl
@[simp] theorem nonceF_modPc (s : State) (n : Nat) (f : PcSt → PcSt) : (s.modPc n f).nonce = s.nonce := rfl
@[simp] theorem asmF_modPc (s : State) (n : Nat) (f : PcSt → PcSt) : (s.modPc n f).asm = s.asm := rfl
@[simp] theorem odWaitF_modPc (s : State) (n : Nat) (f : PcSt → PcSt) : (s.modPc n f).odWait = s.odWait := rfl
@[simp] theorem commitBootF_modPc (s : State) (n : Nat) (f : PcSt → PcSt) : (s.modPc n f).commitBoot = s.commitBoot := rfl
@[simp] theorem failIndexF_modPc (s : State) (n : Nat) (f : PcSt → PcSt) : (s.modPc n f).failIndex = s.failIndex := rfl
@[simp] theorem failSubF_modPc (s : State) (n : Nat) (f : PcSt → PcSt) : (s.modPc n f).failSub = s.failSub := rfl
@[simp] theorem crossingF_modPc (s : State) (n : Nat) (f : PcSt → PcSt) : (s.modPc n f).crossing = s.crossing := rfl
@[simp] theorem flipMaskF_modPc (s : State) (n : Nat) (f : PcSt → PcSt) : (s.modPc n f).flipMask = s.flipMask := rfl
@[simp] theorem fetchStampF_modPc (s : State) (n : Nat) (f : PcSt → PcSt) : (s.modPc n f).fetchStamp = s.fetchStamp := rfl
@[simp] theorem writeGenF_modPc (s : State) (n : Nat) (f : PcSt → PcSt) : (s.modPc n f).writeGen = s.writeGen := rfl
@[simp] theorem crDoorF_modPc (s : State) (n : Nat) (f : PcSt → PcSt) : (s.modPc n f).crDoor = s.crDoor := rfl
@[simp] theorem fcF_modPc (s : State) (n : Nat) (f : PcSt → PcSt) : (s.modPc n f).fc = s.fc := rfl
@[simp] theorem recdF_modPc (s : State) (n : Nat) (f : PcSt → PcSt) : (s.modPc n f).recd = s.recd := rfl
@[simp] theorem healthF_modPc (s : State) (n : Nat) (f : PcSt → PcSt) : (s.modPc n f).health = s.health := rfl
@[simp] theorem hostTimeF_modPc (s : State) (n : Nat) (f : PcSt → PcSt) : (s.modPc n f).hostTime = s.hostTime := rfl
@[simp] theorem zlF_modPc (s : State) (n : Nat) (f : PcSt → PcSt) : (s.modPc n f).zl = s.zl := rfl
@[simp] theorem pwrF_modPc (s : State) (n : Nat) (f : PcSt → PcSt) : (s.modPc n f).pwr = s.pwr := rfl
@[simp] theorem secF_modPc (s : State) (n : Nat) (f : PcSt → PcSt) : (s.modPc n f).sec = s.sec := rfl
@[simp] theorem portF_modPc (s : State) (n : Nat) (f : PcSt → PcSt) : (s.modPc n f).port = s.port := rfl
@[simp] theorem srF_modPc (s : State) (n : Nat) (f : PcSt → PcSt) : (s.modPc n f).sr = s.sr := rfl
@[simp] theorem crF_modPc (s : State) (n : Nat) (f : PcSt → PcSt) : (s.modPc n f).cr = s.cr := rfl
@[simp] theorem rengF_modPc (s : State) (n : Nat) (f : PcSt → PcSt) : (s.modPc n f).reng = s.reng := rfl
@[simp] theorem cmdsF_modPc (s : State) (n : Nat) (f : PcSt → PcSt) : (s.modPc n f).cmds = s.cmds := rfl
@[simp] theorem dirtyF_modPc (s : State) (n : Nat) (f : PcSt → PcSt) : (s.modPc n f).dirty = s.dirty := rfl
@[simp] theorem dchF_modPc (s : State) (n : Nat) (f : PcSt → PcSt) : (s.modPc n f).dch = s.dch := rfl
@[simp] theorem engF_modPc (s : State) (n : Nat) (f : PcSt → PcSt) : (s.modPc n f).eng = s.eng := rfl
@[simp] theorem dtuF_modPc (s : State) (n : Nat) (f : PcSt → PcSt) : (s.modPc n f).dtu = s.dtu := rfl
@[simp] theorem objF_modPc (s : State) (n : Nat) (f : PcSt → PcSt) : (s.modPc n f).obj = s.obj := rfl
@[simp] theorem resvF_modPc (s : State) (n : Nat) (f : PcSt → PcSt) : (s.modPc n f).resv = s.resv := rfl
@[simp] theorem purgeF_modPc (s : State) (n : Nat) (f : PcSt → PcSt) : (s.modPc n f).purge = s.purge := rfl
@[simp] theorem droppedF_modPc (s : State) (n : Nat) (f : PcSt → PcSt) : (s.modPc n f).dropped = s.dropped := rfl
@[simp] theorem codeRetiredF_modPc (s : State) (n : Nat) (f : PcSt → PcSt) : (s.modPc n f).codeRetired = s.codeRetired := rfl
@[simp] theorem poolF_modPc (s : State) (n : Nat) (f : PcSt → PcSt) : (s.modPc n f).pool = s.pool := rfl
@[simp] theorem headF_modPc (s : State) (n : Nat) (f : PcSt → PcSt) : (s.modPc n f).head = s.head := rfl
@[simp] theorem plinkF_modPc (s : State) (n : Nat) (f : PcSt → PcSt) : (s.modPc n f).plink = s.plink := rfl
@[simp] theorem paF_modPc (s : State) (n : Nat) (f : PcSt → PcSt) : (s.modPc n f).pa = s.pa := rfl
@[simp] theorem identF_modPc (s : State) (n : Nat) (f : PcSt → PcSt) : (s.modPc n f).ident = s.ident := rfl
@[simp] theorem chanF_modPc (s : State) (n : Nat) (f : PcSt → PcSt) : (s.modPc n f).chan = s.chan := rfl
@[simp] theorem mstageF_modPc (s : State) (n : Nat) (f : PcSt → PcSt) : (s.modPc n f).mstage = s.mstage := rfl
@[simp] theorem bootBadF_modPc (s : State) (n : Nat) (f : PcSt → PcSt) : (s.modPc n f).bootBad = s.bootBad := rfl
@[simp] theorem truF_modPc (s : State) (n : Nat) (f : PcSt → PcSt) : (s.modPc n f).tru = s.tru := rfl
@[simp] theorem calSetF_modPc (s : State) (n : Nat) (f : PcSt → PcSt) : (s.modPc n f).calSet = s.calSet := rfl
@[simp] theorem schedF_modPc (s : State) (n : Nat) (f : PcSt → PcSt) : (s.modPc n f).sched = s.sched := rfl
@[simp] theorem pdlF_modPc (s : State) (n : Nat) (f : PcSt → PcSt) : (s.modPc n f).pdl = s.pdl := rfl
@[simp] theorem gdlF_modPc (s : State) (n : Nat) (f : PcSt → PcSt) : (s.modPc n f).gdl = s.gdl := rfl
@[simp] theorem surfRetiredF_modPc (s : State) (n : Nat) (f : PcSt → PcSt) : (s.modPc n f).surfRetired = s.surfRetired := rfl
@[simp] theorem laneF_modPc (s : State) (n : Nat) (f : PcSt → PcSt) : (s.modPc n f).lane = s.lane := rfl
@[simp] theorem halfF_modPc (s : State) (n : Nat) (f : PcSt → PcSt) : (s.modPc n f).half = s.half := rfl
@[simp] theorem cruF_modPc (s : State) (n : Nat) (f : PcSt → PcSt) : (s.modPc n f).cru = s.cru := rfl
@[simp] theorem updatesF_modPc (s : State) (n : Nat) (f : PcSt → PcSt) : (s.modPc n f).updates = s.updates := rfl
@[simp] theorem openStripesF_modPc (s : State) (n : Nat) (f : PcSt → PcSt) : (s.modPc n f).openStripes = s.openStripes := rfl
@[simp] theorem savedStripesF_modPc (s : State) (n : Nat) (f : PcSt → PcSt) : (s.modPc n f).savedStripes = s.savedStripes := rfl
@[simp] theorem holesF_modPc (s : State) (n : Nat) (f : PcSt → PcSt) : (s.modPc n f).holes = s.holes := rfl
@[simp] theorem rebuildsF_modPc (s : State) (n : Nat) (f : PcSt → PcSt) : (s.modPc n f).rebuilds = s.rebuilds := rfl
@[simp] theorem verifiesF_modPc (s : State) (n : Nat) (f : PcSt → PcSt) : (s.modPc n f).verifies = s.verifies := rfl
@[simp] theorem rewritesF_modPc (s : State) (n : Nat) (f : PcSt → PcSt) : (s.modPc n f).rewrites = s.rewrites := rfl
@[simp] theorem readyF_modPc (s : State) (n : Nat) (f : PcSt → PcSt) : (s.modPc n f).ready = s.ready := rfl
@[simp] theorem cellF_modPc (s : State) (n : Nat) (f : PcSt → PcSt) : (s.modPc n f).cell = s.cell := rfl
@[simp] theorem mlaneF_modPc (s : State) (n : Nat) (f : PcSt → PcSt) : (s.modPc n f).mlane = s.mlane := rfl
@[simp] theorem pgF_modPc (s : State) (n : Nat) (f : PcSt → PcSt) : (s.modPc n f).pg = s.pg := rfl
@[simp] theorem plausF_modPc (s : State) (n : Nat) (f : PcSt → PcSt) : (s.modPc n f).plaus = s.plaus := rfl
@[simp] theorem mrecF_modPc (s : State) (n : Nat) (f : PcSt → PcSt) : (s.modPc n f).mrec = s.mrec := rfl
@[simp] theorem servoF_modPc (s : State) (n : Nat) (f : PcSt → PcSt) : (s.modPc n f).servo = s.servo := rfl
@[simp] theorem shockHeldF_modPc (s : State) (n : Nat) (f : PcSt → PcSt) : (s.modPc n f).shockHeld = s.shockHeld := rfl
@[simp] theorem spinF_modPc (s : State) (n : Nat) (f : PcSt → PcSt) : (s.modPc n f).spin = s.spin := rfl
@[simp] theorem memF_modPc (s : State) (n : Nat) (f : PcSt → PcSt) : (s.modPc n f).mem = s.mem := rfl
@[simp] theorem mccF_modPc (s : State) (n : Nat) (f : PcSt → PcSt) : (s.modPc n f).mcc = s.mcc := rfl
@[simp] theorem lifeF_modPc (s : State) (n : Nat) (f : PcSt → PcSt) : (s.modPc n f).life = s.life := rfl
@[simp] theorem freeF_modPc (s : State) (n : Nat) (f : PcSt → PcSt) : (s.modPc n f).free = s.free := rfl
@[simp] theorem outF_modPc (s : State) (n : Nat) (f : PcSt → PcSt) : (s.modPc n f).out = s.out := rfl
@[simp] theorem pendingF_modPc (s : State) (n : Nat) (f : PcSt → PcSt) : (s.modPc n f).pending = s.pending := rfl
@[simp] theorem partF_modResv (s : State) (n : Nat) (f : Resv → Resv) : (s.modResv n f).part = s.part := rfl
@[simp] theorem coreTimeF_modResv (s : State) (n : Nat) (f : Resv → Resv) : (s.modResv n f).coreTime = s.coreTime := rfl
@[simp] theorem regsF_modResv (s : State) (n : Nat) (f : Resv → Resv) : (s.modResv n f).regs = s.regs := rfl
@[simp] theorem regsRunF_modResv (s : State) (n : Nat) (f : Resv → Resv) : (s.modResv n f).regsRun = s.regsRun := rfl
@[simp] theorem odF_modResv (s : State) (n : Nat) (f : Resv → Resv) : (s.modResv n f).od = s.od := rfl
@[simp] theorem odRunF_modResv (s : State) (n : Nat) (f : Resv → Resv) : (s.modResv n f).odRun = s.odRun := rfl
@[simp] theorem odPendingF_modResv (s : State) (n : Nat) (f : Resv → Resv) : (s.modResv n f).odPending = s.odPending := rfl
@[simp] theorem storeF_modResv (s : State) (n : Nat) (f : Resv → Resv) : (s.modResv n f).store = s.store := rfl
@[simp] theorem storeRegsF_modResv (s : State) (n : Nat) (f : Resv → Resv) : (s.modResv n f).storeRegs = s.storeRegs := rfl
@[simp] theorem storeValidF_modResv (s : State) (n : Nat) (f : Resv → Resv) : (s.modResv n f).storeValid = s.storeValid := rfl
@[simp] theorem storeGenF_modResv (s : State) (n : Nat) (f : Resv → Resv) : (s.modResv n f).storeGen = s.storeGen := rfl
@[simp] theorem perSrcF_modResv (s : State) (n : Nat) (f : Resv → Resv) : (s.modResv n f).perSrc = s.perSrc := rfl
@[simp] theorem nonceF_modResv (s : State) (n : Nat) (f : Resv → Resv) : (s.modResv n f).nonce = s.nonce := rfl
@[simp] theorem asmF_modResv (s : State) (n : Nat) (f : Resv → Resv) : (s.modResv n f).asm = s.asm := rfl
@[simp] theorem odWaitF_modResv (s : State) (n : Nat) (f : Resv → Resv) : (s.modResv n f).odWait = s.odWait := rfl
@[simp] theorem commitBootF_modResv (s : State) (n : Nat) (f : Resv → Resv) : (s.modResv n f).commitBoot = s.commitBoot := rfl
@[simp] theorem failIndexF_modResv (s : State) (n : Nat) (f : Resv → Resv) : (s.modResv n f).failIndex = s.failIndex := rfl
@[simp] theorem failSubF_modResv (s : State) (n : Nat) (f : Resv → Resv) : (s.modResv n f).failSub = s.failSub := rfl
@[simp] theorem crossingF_modResv (s : State) (n : Nat) (f : Resv → Resv) : (s.modResv n f).crossing = s.crossing := rfl
@[simp] theorem flipMaskF_modResv (s : State) (n : Nat) (f : Resv → Resv) : (s.modResv n f).flipMask = s.flipMask := rfl
@[simp] theorem fetchStampF_modResv (s : State) (n : Nat) (f : Resv → Resv) : (s.modResv n f).fetchStamp = s.fetchStamp := rfl
@[simp] theorem writeGenF_modResv (s : State) (n : Nat) (f : Resv → Resv) : (s.modResv n f).writeGen = s.writeGen := rfl
@[simp] theorem crDoorF_modResv (s : State) (n : Nat) (f : Resv → Resv) : (s.modResv n f).crDoor = s.crDoor := rfl
@[simp] theorem fcF_modResv (s : State) (n : Nat) (f : Resv → Resv) : (s.modResv n f).fc = s.fc := rfl
@[simp] theorem recdF_modResv (s : State) (n : Nat) (f : Resv → Resv) : (s.modResv n f).recd = s.recd := rfl
@[simp] theorem healthF_modResv (s : State) (n : Nat) (f : Resv → Resv) : (s.modResv n f).health = s.health := rfl
@[simp] theorem hostTimeF_modResv (s : State) (n : Nat) (f : Resv → Resv) : (s.modResv n f).hostTime = s.hostTime := rfl
@[simp] theorem zlF_modResv (s : State) (n : Nat) (f : Resv → Resv) : (s.modResv n f).zl = s.zl := rfl
@[simp] theorem pwrF_modResv (s : State) (n : Nat) (f : Resv → Resv) : (s.modResv n f).pwr = s.pwr := rfl
@[simp] theorem secF_modResv (s : State) (n : Nat) (f : Resv → Resv) : (s.modResv n f).sec = s.sec := rfl
@[simp] theorem portF_modResv (s : State) (n : Nat) (f : Resv → Resv) : (s.modResv n f).port = s.port := rfl
@[simp] theorem srF_modResv (s : State) (n : Nat) (f : Resv → Resv) : (s.modResv n f).sr = s.sr := rfl
@[simp] theorem crF_modResv (s : State) (n : Nat) (f : Resv → Resv) : (s.modResv n f).cr = s.cr := rfl
@[simp] theorem rengF_modResv (s : State) (n : Nat) (f : Resv → Resv) : (s.modResv n f).reng = s.reng := rfl
@[simp] theorem cmdsF_modResv (s : State) (n : Nat) (f : Resv → Resv) : (s.modResv n f).cmds = s.cmds := rfl
@[simp] theorem dirtyF_modResv (s : State) (n : Nat) (f : Resv → Resv) : (s.modResv n f).dirty = s.dirty := rfl
@[simp] theorem dchF_modResv (s : State) (n : Nat) (f : Resv → Resv) : (s.modResv n f).dch = s.dch := rfl
@[simp] theorem engF_modResv (s : State) (n : Nat) (f : Resv → Resv) : (s.modResv n f).eng = s.eng := rfl
@[simp] theorem dtuF_modResv (s : State) (n : Nat) (f : Resv → Resv) : (s.modResv n f).dtu = s.dtu := rfl
@[simp] theorem objF_modResv (s : State) (n : Nat) (f : Resv → Resv) : (s.modResv n f).obj = s.obj := rfl
@[simp] theorem purgeF_modResv (s : State) (n : Nat) (f : Resv → Resv) : (s.modResv n f).purge = s.purge := rfl
@[simp] theorem droppedF_modResv (s : State) (n : Nat) (f : Resv → Resv) : (s.modResv n f).dropped = s.dropped := rfl
@[simp] theorem codeRetiredF_modResv (s : State) (n : Nat) (f : Resv → Resv) : (s.modResv n f).codeRetired = s.codeRetired := rfl
@[simp] theorem poolF_modResv (s : State) (n : Nat) (f : Resv → Resv) : (s.modResv n f).pool = s.pool := rfl
@[simp] theorem headF_modResv (s : State) (n : Nat) (f : Resv → Resv) : (s.modResv n f).head = s.head := rfl
@[simp] theorem plinkF_modResv (s : State) (n : Nat) (f : Resv → Resv) : (s.modResv n f).plink = s.plink := rfl
@[simp] theorem paF_modResv (s : State) (n : Nat) (f : Resv → Resv) : (s.modResv n f).pa = s.pa := rfl
@[simp] theorem identF_modResv (s : State) (n : Nat) (f : Resv → Resv) : (s.modResv n f).ident = s.ident := rfl
@[simp] theorem chanF_modResv (s : State) (n : Nat) (f : Resv → Resv) : (s.modResv n f).chan = s.chan := rfl
@[simp] theorem mstageF_modResv (s : State) (n : Nat) (f : Resv → Resv) : (s.modResv n f).mstage = s.mstage := rfl
@[simp] theorem bootBadF_modResv (s : State) (n : Nat) (f : Resv → Resv) : (s.modResv n f).bootBad = s.bootBad := rfl
@[simp] theorem truF_modResv (s : State) (n : Nat) (f : Resv → Resv) : (s.modResv n f).tru = s.tru := rfl
@[simp] theorem calSetF_modResv (s : State) (n : Nat) (f : Resv → Resv) : (s.modResv n f).calSet = s.calSet := rfl
@[simp] theorem schedF_modResv (s : State) (n : Nat) (f : Resv → Resv) : (s.modResv n f).sched = s.sched := rfl
@[simp] theorem pdlF_modResv (s : State) (n : Nat) (f : Resv → Resv) : (s.modResv n f).pdl = s.pdl := rfl
@[simp] theorem gdlF_modResv (s : State) (n : Nat) (f : Resv → Resv) : (s.modResv n f).gdl = s.gdl := rfl
@[simp] theorem surfRetiredF_modResv (s : State) (n : Nat) (f : Resv → Resv) : (s.modResv n f).surfRetired = s.surfRetired := rfl
@[simp] theorem laneF_modResv (s : State) (n : Nat) (f : Resv → Resv) : (s.modResv n f).lane = s.lane := rfl
@[simp] theorem halfF_modResv (s : State) (n : Nat) (f : Resv → Resv) : (s.modResv n f).half = s.half := rfl
@[simp] theorem cruF_modResv (s : State) (n : Nat) (f : Resv → Resv) : (s.modResv n f).cru = s.cru := rfl
@[simp] theorem updatesF_modResv (s : State) (n : Nat) (f : Resv → Resv) : (s.modResv n f).updates = s.updates := rfl
@[simp] theorem openStripesF_modResv (s : State) (n : Nat) (f : Resv → Resv) : (s.modResv n f).openStripes = s.openStripes := rfl
@[simp] theorem savedStripesF_modResv (s : State) (n : Nat) (f : Resv → Resv) : (s.modResv n f).savedStripes = s.savedStripes := rfl
@[simp] theorem holesF_modResv (s : State) (n : Nat) (f : Resv → Resv) : (s.modResv n f).holes = s.holes := rfl
@[simp] theorem rebuildsF_modResv (s : State) (n : Nat) (f : Resv → Resv) : (s.modResv n f).rebuilds = s.rebuilds := rfl
@[simp] theorem verifiesF_modResv (s : State) (n : Nat) (f : Resv → Resv) : (s.modResv n f).verifies = s.verifies := rfl
@[simp] theorem rewritesF_modResv (s : State) (n : Nat) (f : Resv → Resv) : (s.modResv n f).rewrites = s.rewrites := rfl
@[simp] theorem readyF_modResv (s : State) (n : Nat) (f : Resv → Resv) : (s.modResv n f).ready = s.ready := rfl
@[simp] theorem cellF_modResv (s : State) (n : Nat) (f : Resv → Resv) : (s.modResv n f).cell = s.cell := rfl
@[simp] theorem mlaneF_modResv (s : State) (n : Nat) (f : Resv → Resv) : (s.modResv n f).mlane = s.mlane := rfl
@[simp] theorem pgF_modResv (s : State) (n : Nat) (f : Resv → Resv) : (s.modResv n f).pg = s.pg := rfl
@[simp] theorem plausF_modResv (s : State) (n : Nat) (f : Resv → Resv) : (s.modResv n f).plaus = s.plaus := rfl
@[simp] theorem mrecF_modResv (s : State) (n : Nat) (f : Resv → Resv) : (s.modResv n f).mrec = s.mrec := rfl
@[simp] theorem servoF_modResv (s : State) (n : Nat) (f : Resv → Resv) : (s.modResv n f).servo = s.servo := rfl
@[simp] theorem shockHeldF_modResv (s : State) (n : Nat) (f : Resv → Resv) : (s.modResv n f).shockHeld = s.shockHeld := rfl
@[simp] theorem spinF_modResv (s : State) (n : Nat) (f : Resv → Resv) : (s.modResv n f).spin = s.spin := rfl
@[simp] theorem memF_modResv (s : State) (n : Nat) (f : Resv → Resv) : (s.modResv n f).mem = s.mem := rfl
@[simp] theorem bufF_modResv (s : State) (n : Nat) (f : Resv → Resv) : (s.modResv n f).buf = s.buf := rfl
@[simp] theorem mccF_modResv (s : State) (n : Nat) (f : Resv → Resv) : (s.modResv n f).mcc = s.mcc := rfl
@[simp] theorem lifeF_modResv (s : State) (n : Nat) (f : Resv → Resv) : (s.modResv n f).life = s.life := rfl
@[simp] theorem freeF_modResv (s : State) (n : Nat) (f : Resv → Resv) : (s.modResv n f).free = s.free := rfl
@[simp] theorem outF_modResv (s : State) (n : Nat) (f : Resv → Resv) : (s.modResv n f).out = s.out := rfl
@[simp] theorem pendingF_modResv (s : State) (n : Nat) (f : Resv → Resv) : (s.modResv n f).pending = s.pending := rfl
@[simp] theorem partF_modPool (s : State) (n : Nat) (f : Pool → Pool) : (s.modPool n f).part = s.part := rfl
@[simp] theorem coreTimeF_modPool (s : State) (n : Nat) (f : Pool → Pool) : (s.modPool n f).coreTime = s.coreTime := rfl
@[simp] theorem regsF_modPool (s : State) (n : Nat) (f : Pool → Pool) : (s.modPool n f).regs = s.regs := rfl
@[simp] theorem regsRunF_modPool (s : State) (n : Nat) (f : Pool → Pool) : (s.modPool n f).regsRun = s.regsRun := rfl
@[simp] theorem odF_modPool (s : State) (n : Nat) (f : Pool → Pool) : (s.modPool n f).od = s.od := rfl
@[simp] theorem odRunF_modPool (s : State) (n : Nat) (f : Pool → Pool) : (s.modPool n f).odRun = s.odRun := rfl
@[simp] theorem odPendingF_modPool (s : State) (n : Nat) (f : Pool → Pool) : (s.modPool n f).odPending = s.odPending := rfl
@[simp] theorem storeF_modPool (s : State) (n : Nat) (f : Pool → Pool) : (s.modPool n f).store = s.store := rfl
@[simp] theorem storeRegsF_modPool (s : State) (n : Nat) (f : Pool → Pool) : (s.modPool n f).storeRegs = s.storeRegs := rfl
@[simp] theorem storeValidF_modPool (s : State) (n : Nat) (f : Pool → Pool) : (s.modPool n f).storeValid = s.storeValid := rfl
@[simp] theorem storeGenF_modPool (s : State) (n : Nat) (f : Pool → Pool) : (s.modPool n f).storeGen = s.storeGen := rfl
@[simp] theorem perSrcF_modPool (s : State) (n : Nat) (f : Pool → Pool) : (s.modPool n f).perSrc = s.perSrc := rfl
@[simp] theorem nonceF_modPool (s : State) (n : Nat) (f : Pool → Pool) : (s.modPool n f).nonce = s.nonce := rfl
@[simp] theorem asmF_modPool (s : State) (n : Nat) (f : Pool → Pool) : (s.modPool n f).asm = s.asm := rfl
@[simp] theorem odWaitF_modPool (s : State) (n : Nat) (f : Pool → Pool) : (s.modPool n f).odWait = s.odWait := rfl
@[simp] theorem commitBootF_modPool (s : State) (n : Nat) (f : Pool → Pool) : (s.modPool n f).commitBoot = s.commitBoot := rfl
@[simp] theorem failIndexF_modPool (s : State) (n : Nat) (f : Pool → Pool) : (s.modPool n f).failIndex = s.failIndex := rfl
@[simp] theorem failSubF_modPool (s : State) (n : Nat) (f : Pool → Pool) : (s.modPool n f).failSub = s.failSub := rfl
@[simp] theorem crossingF_modPool (s : State) (n : Nat) (f : Pool → Pool) : (s.modPool n f).crossing = s.crossing := rfl
@[simp] theorem flipMaskF_modPool (s : State) (n : Nat) (f : Pool → Pool) : (s.modPool n f).flipMask = s.flipMask := rfl
@[simp] theorem fetchStampF_modPool (s : State) (n : Nat) (f : Pool → Pool) : (s.modPool n f).fetchStamp = s.fetchStamp := rfl
@[simp] theorem writeGenF_modPool (s : State) (n : Nat) (f : Pool → Pool) : (s.modPool n f).writeGen = s.writeGen := rfl
@[simp] theorem crDoorF_modPool (s : State) (n : Nat) (f : Pool → Pool) : (s.modPool n f).crDoor = s.crDoor := rfl
@[simp] theorem fcF_modPool (s : State) (n : Nat) (f : Pool → Pool) : (s.modPool n f).fc = s.fc := rfl
@[simp] theorem recdF_modPool (s : State) (n : Nat) (f : Pool → Pool) : (s.modPool n f).recd = s.recd := rfl
@[simp] theorem healthF_modPool (s : State) (n : Nat) (f : Pool → Pool) : (s.modPool n f).health = s.health := rfl
@[simp] theorem hostTimeF_modPool (s : State) (n : Nat) (f : Pool → Pool) : (s.modPool n f).hostTime = s.hostTime := rfl
@[simp] theorem zlF_modPool (s : State) (n : Nat) (f : Pool → Pool) : (s.modPool n f).zl = s.zl := rfl
@[simp] theorem pwrF_modPool (s : State) (n : Nat) (f : Pool → Pool) : (s.modPool n f).pwr = s.pwr := rfl
@[simp] theorem secF_modPool (s : State) (n : Nat) (f : Pool → Pool) : (s.modPool n f).sec = s.sec := rfl
@[simp] theorem portF_modPool (s : State) (n : Nat) (f : Pool → Pool) : (s.modPool n f).port = s.port := rfl
@[simp] theorem srF_modPool (s : State) (n : Nat) (f : Pool → Pool) : (s.modPool n f).sr = s.sr := rfl
@[simp] theorem crF_modPool (s : State) (n : Nat) (f : Pool → Pool) : (s.modPool n f).cr = s.cr := rfl
@[simp] theorem rengF_modPool (s : State) (n : Nat) (f : Pool → Pool) : (s.modPool n f).reng = s.reng := rfl
@[simp] theorem cmdsF_modPool (s : State) (n : Nat) (f : Pool → Pool) : (s.modPool n f).cmds = s.cmds := rfl
@[simp] theorem dirtyF_modPool (s : State) (n : Nat) (f : Pool → Pool) : (s.modPool n f).dirty = s.dirty := rfl
@[simp] theorem dchF_modPool (s : State) (n : Nat) (f : Pool → Pool) : (s.modPool n f).dch = s.dch := rfl
@[simp] theorem engF_modPool (s : State) (n : Nat) (f : Pool → Pool) : (s.modPool n f).eng = s.eng := rfl
@[simp] theorem dtuF_modPool (s : State) (n : Nat) (f : Pool → Pool) : (s.modPool n f).dtu = s.dtu := rfl
@[simp] theorem objF_modPool (s : State) (n : Nat) (f : Pool → Pool) : (s.modPool n f).obj = s.obj := rfl
@[simp] theorem resvF_modPool (s : State) (n : Nat) (f : Pool → Pool) : (s.modPool n f).resv = s.resv := rfl
@[simp] theorem purgeF_modPool (s : State) (n : Nat) (f : Pool → Pool) : (s.modPool n f).purge = s.purge := rfl
@[simp] theorem droppedF_modPool (s : State) (n : Nat) (f : Pool → Pool) : (s.modPool n f).dropped = s.dropped := rfl
@[simp] theorem codeRetiredF_modPool (s : State) (n : Nat) (f : Pool → Pool) : (s.modPool n f).codeRetired = s.codeRetired := rfl
@[simp] theorem headF_modPool (s : State) (n : Nat) (f : Pool → Pool) : (s.modPool n f).head = s.head := rfl
@[simp] theorem plinkF_modPool (s : State) (n : Nat) (f : Pool → Pool) : (s.modPool n f).plink = s.plink := rfl
@[simp] theorem paF_modPool (s : State) (n : Nat) (f : Pool → Pool) : (s.modPool n f).pa = s.pa := rfl
@[simp] theorem identF_modPool (s : State) (n : Nat) (f : Pool → Pool) : (s.modPool n f).ident = s.ident := rfl
@[simp] theorem chanF_modPool (s : State) (n : Nat) (f : Pool → Pool) : (s.modPool n f).chan = s.chan := rfl
@[simp] theorem mstageF_modPool (s : State) (n : Nat) (f : Pool → Pool) : (s.modPool n f).mstage = s.mstage := rfl
@[simp] theorem bootBadF_modPool (s : State) (n : Nat) (f : Pool → Pool) : (s.modPool n f).bootBad = s.bootBad := rfl
@[simp] theorem truF_modPool (s : State) (n : Nat) (f : Pool → Pool) : (s.modPool n f).tru = s.tru := rfl
@[simp] theorem calSetF_modPool (s : State) (n : Nat) (f : Pool → Pool) : (s.modPool n f).calSet = s.calSet := rfl
@[simp] theorem schedF_modPool (s : State) (n : Nat) (f : Pool → Pool) : (s.modPool n f).sched = s.sched := rfl
@[simp] theorem pdlF_modPool (s : State) (n : Nat) (f : Pool → Pool) : (s.modPool n f).pdl = s.pdl := rfl
@[simp] theorem gdlF_modPool (s : State) (n : Nat) (f : Pool → Pool) : (s.modPool n f).gdl = s.gdl := rfl
@[simp] theorem surfRetiredF_modPool (s : State) (n : Nat) (f : Pool → Pool) : (s.modPool n f).surfRetired = s.surfRetired := rfl
@[simp] theorem laneF_modPool (s : State) (n : Nat) (f : Pool → Pool) : (s.modPool n f).lane = s.lane := rfl
@[simp] theorem halfF_modPool (s : State) (n : Nat) (f : Pool → Pool) : (s.modPool n f).half = s.half := rfl
@[simp] theorem cruF_modPool (s : State) (n : Nat) (f : Pool → Pool) : (s.modPool n f).cru = s.cru := rfl
@[simp] theorem updatesF_modPool (s : State) (n : Nat) (f : Pool → Pool) : (s.modPool n f).updates = s.updates := rfl
@[simp] theorem openStripesF_modPool (s : State) (n : Nat) (f : Pool → Pool) : (s.modPool n f).openStripes = s.openStripes := rfl
@[simp] theorem savedStripesF_modPool (s : State) (n : Nat) (f : Pool → Pool) : (s.modPool n f).savedStripes = s.savedStripes := rfl
@[simp] theorem holesF_modPool (s : State) (n : Nat) (f : Pool → Pool) : (s.modPool n f).holes = s.holes := rfl
@[simp] theorem rebuildsF_modPool (s : State) (n : Nat) (f : Pool → Pool) : (s.modPool n f).rebuilds = s.rebuilds := rfl
@[simp] theorem verifiesF_modPool (s : State) (n : Nat) (f : Pool → Pool) : (s.modPool n f).verifies = s.verifies := rfl
@[simp] theorem rewritesF_modPool (s : State) (n : Nat) (f : Pool → Pool) : (s.modPool n f).rewrites = s.rewrites := rfl
@[simp] theorem readyF_modPool (s : State) (n : Nat) (f : Pool → Pool) : (s.modPool n f).ready = s.ready := rfl
@[simp] theorem cellF_modPool (s : State) (n : Nat) (f : Pool → Pool) : (s.modPool n f).cell = s.cell := rfl
@[simp] theorem mlaneF_modPool (s : State) (n : Nat) (f : Pool → Pool) : (s.modPool n f).mlane = s.mlane := rfl
@[simp] theorem pgF_modPool (s : State) (n : Nat) (f : Pool → Pool) : (s.modPool n f).pg = s.pg := rfl
@[simp] theorem plausF_modPool (s : State) (n : Nat) (f : Pool → Pool) : (s.modPool n f).plaus = s.plaus := rfl
@[simp] theorem mrecF_modPool (s : State) (n : Nat) (f : Pool → Pool) : (s.modPool n f).mrec = s.mrec := rfl
@[simp] theorem servoF_modPool (s : State) (n : Nat) (f : Pool → Pool) : (s.modPool n f).servo = s.servo := rfl
@[simp] theorem shockHeldF_modPool (s : State) (n : Nat) (f : Pool → Pool) : (s.modPool n f).shockHeld = s.shockHeld := rfl
@[simp] theorem spinF_modPool (s : State) (n : Nat) (f : Pool → Pool) : (s.modPool n f).spin = s.spin := rfl
@[simp] theorem memF_modPool (s : State) (n : Nat) (f : Pool → Pool) : (s.modPool n f).mem = s.mem := rfl
@[simp] theorem bufF_modPool (s : State) (n : Nat) (f : Pool → Pool) : (s.modPool n f).buf = s.buf := rfl
@[simp] theorem mccF_modPool (s : State) (n : Nat) (f : Pool → Pool) : (s.modPool n f).mcc = s.mcc := rfl
@[simp] theorem lifeF_modPool (s : State) (n : Nat) (f : Pool → Pool) : (s.modPool n f).life = s.life := rfl
@[simp] theorem freeF_modPool (s : State) (n : Nat) (f : Pool → Pool) : (s.modPool n f).free = s.free := rfl
@[simp] theorem outF_modPool (s : State) (n : Nat) (f : Pool → Pool) : (s.modPool n f).out = s.out := rfl
@[simp] theorem pendingF_modPool (s : State) (n : Nat) (f : Pool → Pool) : (s.modPool n f).pending = s.pending := rfl
@[simp] theorem partF_modDc (s : State) (n : Nat) (f : DmaCh → DmaCh) : (s.modDc n f).part = s.part := rfl
@[simp] theorem coreTimeF_modDc (s : State) (n : Nat) (f : DmaCh → DmaCh) : (s.modDc n f).coreTime = s.coreTime := rfl
@[simp] theorem regsF_modDc (s : State) (n : Nat) (f : DmaCh → DmaCh) : (s.modDc n f).regs = s.regs := rfl
@[simp] theorem regsRunF_modDc (s : State) (n : Nat) (f : DmaCh → DmaCh) : (s.modDc n f).regsRun = s.regsRun := rfl
@[simp] theorem odF_modDc (s : State) (n : Nat) (f : DmaCh → DmaCh) : (s.modDc n f).od = s.od := rfl
@[simp] theorem odRunF_modDc (s : State) (n : Nat) (f : DmaCh → DmaCh) : (s.modDc n f).odRun = s.odRun := rfl
@[simp] theorem odPendingF_modDc (s : State) (n : Nat) (f : DmaCh → DmaCh) : (s.modDc n f).odPending = s.odPending := rfl
@[simp] theorem storeF_modDc (s : State) (n : Nat) (f : DmaCh → DmaCh) : (s.modDc n f).store = s.store := rfl
@[simp] theorem storeRegsF_modDc (s : State) (n : Nat) (f : DmaCh → DmaCh) : (s.modDc n f).storeRegs = s.storeRegs := rfl
@[simp] theorem storeValidF_modDc (s : State) (n : Nat) (f : DmaCh → DmaCh) : (s.modDc n f).storeValid = s.storeValid := rfl
@[simp] theorem storeGenF_modDc (s : State) (n : Nat) (f : DmaCh → DmaCh) : (s.modDc n f).storeGen = s.storeGen := rfl
@[simp] theorem perSrcF_modDc (s : State) (n : Nat) (f : DmaCh → DmaCh) : (s.modDc n f).perSrc = s.perSrc := rfl
@[simp] theorem nonceF_modDc (s : State) (n : Nat) (f : DmaCh → DmaCh) : (s.modDc n f).nonce = s.nonce := rfl
@[simp] theorem asmF_modDc (s : State) (n : Nat) (f : DmaCh → DmaCh) : (s.modDc n f).asm = s.asm := rfl
@[simp] theorem odWaitF_modDc (s : State) (n : Nat) (f : DmaCh → DmaCh) : (s.modDc n f).odWait = s.odWait := rfl
@[simp] theorem commitBootF_modDc (s : State) (n : Nat) (f : DmaCh → DmaCh) : (s.modDc n f).commitBoot = s.commitBoot := rfl
@[simp] theorem failIndexF_modDc (s : State) (n : Nat) (f : DmaCh → DmaCh) : (s.modDc n f).failIndex = s.failIndex := rfl
@[simp] theorem failSubF_modDc (s : State) (n : Nat) (f : DmaCh → DmaCh) : (s.modDc n f).failSub = s.failSub := rfl
@[simp] theorem crossingF_modDc (s : State) (n : Nat) (f : DmaCh → DmaCh) : (s.modDc n f).crossing = s.crossing := rfl
@[simp] theorem flipMaskF_modDc (s : State) (n : Nat) (f : DmaCh → DmaCh) : (s.modDc n f).flipMask = s.flipMask := rfl
@[simp] theorem fetchStampF_modDc (s : State) (n : Nat) (f : DmaCh → DmaCh) : (s.modDc n f).fetchStamp = s.fetchStamp := rfl
@[simp] theorem writeGenF_modDc (s : State) (n : Nat) (f : DmaCh → DmaCh) : (s.modDc n f).writeGen = s.writeGen := rfl
@[simp] theorem crDoorF_modDc (s : State) (n : Nat) (f : DmaCh → DmaCh) : (s.modDc n f).crDoor = s.crDoor := rfl
@[simp] theorem fcF_modDc (s : State) (n : Nat) (f : DmaCh → DmaCh) : (s.modDc n f).fc = s.fc := rfl
@[simp] theorem recdF_modDc (s : State) (n : Nat) (f : DmaCh → DmaCh) : (s.modDc n f).recd = s.recd := rfl
@[simp] theorem healthF_modDc (s : State) (n : Nat) (f : DmaCh → DmaCh) : (s.modDc n f).health = s.health := rfl
@[simp] theorem hostTimeF_modDc (s : State) (n : Nat) (f : DmaCh → DmaCh) : (s.modDc n f).hostTime = s.hostTime := rfl
@[simp] theorem zlF_modDc (s : State) (n : Nat) (f : DmaCh → DmaCh) : (s.modDc n f).zl = s.zl := rfl
@[simp] theorem pwrF_modDc (s : State) (n : Nat) (f : DmaCh → DmaCh) : (s.modDc n f).pwr = s.pwr := rfl
@[simp] theorem secF_modDc (s : State) (n : Nat) (f : DmaCh → DmaCh) : (s.modDc n f).sec = s.sec := rfl
@[simp] theorem portF_modDc (s : State) (n : Nat) (f : DmaCh → DmaCh) : (s.modDc n f).port = s.port := rfl
@[simp] theorem srF_modDc (s : State) (n : Nat) (f : DmaCh → DmaCh) : (s.modDc n f).sr = s.sr := rfl
@[simp] theorem crF_modDc (s : State) (n : Nat) (f : DmaCh → DmaCh) : (s.modDc n f).cr = s.cr := rfl
@[simp] theorem rengF_modDc (s : State) (n : Nat) (f : DmaCh → DmaCh) : (s.modDc n f).reng = s.reng := rfl
@[simp] theorem cmdsF_modDc (s : State) (n : Nat) (f : DmaCh → DmaCh) : (s.modDc n f).cmds = s.cmds := rfl
@[simp] theorem dirtyF_modDc (s : State) (n : Nat) (f : DmaCh → DmaCh) : (s.modDc n f).dirty = s.dirty := rfl
@[simp] theorem engF_modDc (s : State) (n : Nat) (f : DmaCh → DmaCh) : (s.modDc n f).eng = s.eng := rfl
@[simp] theorem dtuF_modDc (s : State) (n : Nat) (f : DmaCh → DmaCh) : (s.modDc n f).dtu = s.dtu := rfl
@[simp] theorem objF_modDc (s : State) (n : Nat) (f : DmaCh → DmaCh) : (s.modDc n f).obj = s.obj := rfl
@[simp] theorem resvF_modDc (s : State) (n : Nat) (f : DmaCh → DmaCh) : (s.modDc n f).resv = s.resv := rfl
@[simp] theorem purgeF_modDc (s : State) (n : Nat) (f : DmaCh → DmaCh) : (s.modDc n f).purge = s.purge := rfl
@[simp] theorem droppedF_modDc (s : State) (n : Nat) (f : DmaCh → DmaCh) : (s.modDc n f).dropped = s.dropped := rfl
@[simp] theorem codeRetiredF_modDc (s : State) (n : Nat) (f : DmaCh → DmaCh) : (s.modDc n f).codeRetired = s.codeRetired := rfl
@[simp] theorem poolF_modDc (s : State) (n : Nat) (f : DmaCh → DmaCh) : (s.modDc n f).pool = s.pool := rfl
@[simp] theorem headF_modDc (s : State) (n : Nat) (f : DmaCh → DmaCh) : (s.modDc n f).head = s.head := rfl
@[simp] theorem plinkF_modDc (s : State) (n : Nat) (f : DmaCh → DmaCh) : (s.modDc n f).plink = s.plink := rfl
@[simp] theorem paF_modDc (s : State) (n : Nat) (f : DmaCh → DmaCh) : (s.modDc n f).pa = s.pa := rfl
@[simp] theorem identF_modDc (s : State) (n : Nat) (f : DmaCh → DmaCh) : (s.modDc n f).ident = s.ident := rfl
@[simp] theorem chanF_modDc (s : State) (n : Nat) (f : DmaCh → DmaCh) : (s.modDc n f).chan = s.chan := rfl
@[simp] theorem mstageF_modDc (s : State) (n : Nat) (f : DmaCh → DmaCh) : (s.modDc n f).mstage = s.mstage := rfl
@[simp] theorem bootBadF_modDc (s : State) (n : Nat) (f : DmaCh → DmaCh) : (s.modDc n f).bootBad = s.bootBad := rfl
@[simp] theorem truF_modDc (s : State) (n : Nat) (f : DmaCh → DmaCh) : (s.modDc n f).tru = s.tru := rfl
@[simp] theorem calSetF_modDc (s : State) (n : Nat) (f : DmaCh → DmaCh) : (s.modDc n f).calSet = s.calSet := rfl
@[simp] theorem schedF_modDc (s : State) (n : Nat) (f : DmaCh → DmaCh) : (s.modDc n f).sched = s.sched := rfl
@[simp] theorem pdlF_modDc (s : State) (n : Nat) (f : DmaCh → DmaCh) : (s.modDc n f).pdl = s.pdl := rfl
@[simp] theorem gdlF_modDc (s : State) (n : Nat) (f : DmaCh → DmaCh) : (s.modDc n f).gdl = s.gdl := rfl
@[simp] theorem surfRetiredF_modDc (s : State) (n : Nat) (f : DmaCh → DmaCh) : (s.modDc n f).surfRetired = s.surfRetired := rfl
@[simp] theorem laneF_modDc (s : State) (n : Nat) (f : DmaCh → DmaCh) : (s.modDc n f).lane = s.lane := rfl
@[simp] theorem halfF_modDc (s : State) (n : Nat) (f : DmaCh → DmaCh) : (s.modDc n f).half = s.half := rfl
@[simp] theorem cruF_modDc (s : State) (n : Nat) (f : DmaCh → DmaCh) : (s.modDc n f).cru = s.cru := rfl
@[simp] theorem updatesF_modDc (s : State) (n : Nat) (f : DmaCh → DmaCh) : (s.modDc n f).updates = s.updates := rfl
@[simp] theorem openStripesF_modDc (s : State) (n : Nat) (f : DmaCh → DmaCh) : (s.modDc n f).openStripes = s.openStripes := rfl
@[simp] theorem savedStripesF_modDc (s : State) (n : Nat) (f : DmaCh → DmaCh) : (s.modDc n f).savedStripes = s.savedStripes := rfl
@[simp] theorem holesF_modDc (s : State) (n : Nat) (f : DmaCh → DmaCh) : (s.modDc n f).holes = s.holes := rfl
@[simp] theorem rebuildsF_modDc (s : State) (n : Nat) (f : DmaCh → DmaCh) : (s.modDc n f).rebuilds = s.rebuilds := rfl
@[simp] theorem verifiesF_modDc (s : State) (n : Nat) (f : DmaCh → DmaCh) : (s.modDc n f).verifies = s.verifies := rfl
@[simp] theorem rewritesF_modDc (s : State) (n : Nat) (f : DmaCh → DmaCh) : (s.modDc n f).rewrites = s.rewrites := rfl
@[simp] theorem readyF_modDc (s : State) (n : Nat) (f : DmaCh → DmaCh) : (s.modDc n f).ready = s.ready := rfl
@[simp] theorem cellF_modDc (s : State) (n : Nat) (f : DmaCh → DmaCh) : (s.modDc n f).cell = s.cell := rfl
@[simp] theorem mlaneF_modDc (s : State) (n : Nat) (f : DmaCh → DmaCh) : (s.modDc n f).mlane = s.mlane := rfl
@[simp] theorem pgF_modDc (s : State) (n : Nat) (f : DmaCh → DmaCh) : (s.modDc n f).pg = s.pg := rfl
@[simp] theorem plausF_modDc (s : State) (n : Nat) (f : DmaCh → DmaCh) : (s.modDc n f).plaus = s.plaus := rfl
@[simp] theorem mrecF_modDc (s : State) (n : Nat) (f : DmaCh → DmaCh) : (s.modDc n f).mrec = s.mrec := rfl
@[simp] theorem servoF_modDc (s : State) (n : Nat) (f : DmaCh → DmaCh) : (s.modDc n f).servo = s.servo := rfl
@[simp] theorem shockHeldF_modDc (s : State) (n : Nat) (f : DmaCh → DmaCh) : (s.modDc n f).shockHeld = s.shockHeld := rfl
@[simp] theorem spinF_modDc (s : State) (n : Nat) (f : DmaCh → DmaCh) : (s.modDc n f).spin = s.spin := rfl
@[simp] theorem memF_modDc (s : State) (n : Nat) (f : DmaCh → DmaCh) : (s.modDc n f).mem = s.mem := rfl
@[simp] theorem bufF_modDc (s : State) (n : Nat) (f : DmaCh → DmaCh) : (s.modDc n f).buf = s.buf := rfl
@[simp] theorem mccF_modDc (s : State) (n : Nat) (f : DmaCh → DmaCh) : (s.modDc n f).mcc = s.mcc := rfl
@[simp] theorem lifeF_modDc (s : State) (n : Nat) (f : DmaCh → DmaCh) : (s.modDc n f).life = s.life := rfl
@[simp] theorem freeF_modDc (s : State) (n : Nat) (f : DmaCh → DmaCh) : (s.modDc n f).free = s.free := rfl
@[simp] theorem outF_modDc (s : State) (n : Nat) (f : DmaCh → DmaCh) : (s.modDc n f).out = s.out := rfl
@[simp] theorem pendingF_modDc (s : State) (n : Nat) (f : DmaCh → DmaCh) : (s.modDc n f).pending = s.pending := rfl
@[simp] theorem partF_modEn (s : State) (n : Nat) (f : Engine → Engine) : (s.modEn n f).part = s.part := rfl
@[simp] theorem coreTimeF_modEn (s : State) (n : Nat) (f : Engine → Engine) : (s.modEn n f).coreTime = s.coreTime := rfl
@[simp] theorem regsF_modEn (s : State) (n : Nat) (f : Engine → Engine) : (s.modEn n f).regs = s.regs := rfl
@[simp] theorem regsRunF_modEn (s : State) (n : Nat) (f : Engine → Engine) : (s.modEn n f).regsRun = s.regsRun := rfl
@[simp] theorem odF_modEn (s : State) (n : Nat) (f : Engine → Engine) : (s.modEn n f).od = s.od := rfl
@[simp] theorem odRunF_modEn (s : State) (n : Nat) (f : Engine → Engine) : (s.modEn n f).odRun = s.odRun := rfl
@[simp] theorem odPendingF_modEn (s : State) (n : Nat) (f : Engine → Engine) : (s.modEn n f).odPending = s.odPending := rfl
@[simp] theorem storeF_modEn (s : State) (n : Nat) (f : Engine → Engine) : (s.modEn n f).store = s.store := rfl
@[simp] theorem storeRegsF_modEn (s : State) (n : Nat) (f : Engine → Engine) : (s.modEn n f).storeRegs = s.storeRegs := rfl
@[simp] theorem storeValidF_modEn (s : State) (n : Nat) (f : Engine → Engine) : (s.modEn n f).storeValid = s.storeValid := rfl
@[simp] theorem storeGenF_modEn (s : State) (n : Nat) (f : Engine → Engine) : (s.modEn n f).storeGen = s.storeGen := rfl
@[simp] theorem perSrcF_modEn (s : State) (n : Nat) (f : Engine → Engine) : (s.modEn n f).perSrc = s.perSrc := rfl
@[simp] theorem nonceF_modEn (s : State) (n : Nat) (f : Engine → Engine) : (s.modEn n f).nonce = s.nonce := rfl
@[simp] theorem asmF_modEn (s : State) (n : Nat) (f : Engine → Engine) : (s.modEn n f).asm = s.asm := rfl
@[simp] theorem odWaitF_modEn (s : State) (n : Nat) (f : Engine → Engine) : (s.modEn n f).odWait = s.odWait := rfl
@[simp] theorem commitBootF_modEn (s : State) (n : Nat) (f : Engine → Engine) : (s.modEn n f).commitBoot = s.commitBoot := rfl
@[simp] theorem failIndexF_modEn (s : State) (n : Nat) (f : Engine → Engine) : (s.modEn n f).failIndex = s.failIndex := rfl
@[simp] theorem failSubF_modEn (s : State) (n : Nat) (f : Engine → Engine) : (s.modEn n f).failSub = s.failSub := rfl
@[simp] theorem crossingF_modEn (s : State) (n : Nat) (f : Engine → Engine) : (s.modEn n f).crossing = s.crossing := rfl
@[simp] theorem flipMaskF_modEn (s : State) (n : Nat) (f : Engine → Engine) : (s.modEn n f).flipMask = s.flipMask := rfl
@[simp] theorem fetchStampF_modEn (s : State) (n : Nat) (f : Engine → Engine) : (s.modEn n f).fetchStamp = s.fetchStamp := rfl
@[simp] theorem writeGenF_modEn (s : State) (n : Nat) (f : Engine → Engine) : (s.modEn n f).writeGen = s.writeGen := rfl
@[simp] theorem crDoorF_modEn (s : State) (n : Nat) (f : Engine → Engine) : (s.modEn n f).crDoor = s.crDoor := rfl
@[simp] theorem fcF_modEn (s : State) (n : Nat) (f : Engine → Engine) : (s.modEn n f).fc = s.fc := rfl
@[simp] theorem recdF_modEn (s : State) (n : Nat) (f : Engine → Engine) : (s.modEn n f).recd = s.recd := rfl
@[simp] theorem healthF_modEn (s : State) (n : Nat) (f : Engine → Engine) : (s.modEn n f).health = s.health := rfl
@[simp] theorem hostTimeF_modEn (s : State) (n : Nat) (f : Engine → Engine) : (s.modEn n f).hostTime = s.hostTime := rfl
@[simp] theorem zlF_modEn (s : State) (n : Nat) (f : Engine → Engine) : (s.modEn n f).zl = s.zl := rfl
@[simp] theorem pwrF_modEn (s : State) (n : Nat) (f : Engine → Engine) : (s.modEn n f).pwr = s.pwr := rfl
@[simp] theorem secF_modEn (s : State) (n : Nat) (f : Engine → Engine) : (s.modEn n f).sec = s.sec := rfl
@[simp] theorem portF_modEn (s : State) (n : Nat) (f : Engine → Engine) : (s.modEn n f).port = s.port := rfl
@[simp] theorem srF_modEn (s : State) (n : Nat) (f : Engine → Engine) : (s.modEn n f).sr = s.sr := rfl
@[simp] theorem crF_modEn (s : State) (n : Nat) (f : Engine → Engine) : (s.modEn n f).cr = s.cr := rfl
@[simp] theorem rengF_modEn (s : State) (n : Nat) (f : Engine → Engine) : (s.modEn n f).reng = s.reng := rfl
@[simp] theorem cmdsF_modEn (s : State) (n : Nat) (f : Engine → Engine) : (s.modEn n f).cmds = s.cmds := rfl
@[simp] theorem dirtyF_modEn (s : State) (n : Nat) (f : Engine → Engine) : (s.modEn n f).dirty = s.dirty := rfl
@[simp] theorem dchF_modEn (s : State) (n : Nat) (f : Engine → Engine) : (s.modEn n f).dch = s.dch := rfl
@[simp] theorem dtuF_modEn (s : State) (n : Nat) (f : Engine → Engine) : (s.modEn n f).dtu = s.dtu := rfl
@[simp] theorem objF_modEn (s : State) (n : Nat) (f : Engine → Engine) : (s.modEn n f).obj = s.obj := rfl
@[simp] theorem resvF_modEn (s : State) (n : Nat) (f : Engine → Engine) : (s.modEn n f).resv = s.resv := rfl
@[simp] theorem purgeF_modEn (s : State) (n : Nat) (f : Engine → Engine) : (s.modEn n f).purge = s.purge := rfl
@[simp] theorem droppedF_modEn (s : State) (n : Nat) (f : Engine → Engine) : (s.modEn n f).dropped = s.dropped := rfl
@[simp] theorem codeRetiredF_modEn (s : State) (n : Nat) (f : Engine → Engine) : (s.modEn n f).codeRetired = s.codeRetired := rfl
@[simp] theorem poolF_modEn (s : State) (n : Nat) (f : Engine → Engine) : (s.modEn n f).pool = s.pool := rfl
@[simp] theorem headF_modEn (s : State) (n : Nat) (f : Engine → Engine) : (s.modEn n f).head = s.head := rfl
@[simp] theorem plinkF_modEn (s : State) (n : Nat) (f : Engine → Engine) : (s.modEn n f).plink = s.plink := rfl
@[simp] theorem paF_modEn (s : State) (n : Nat) (f : Engine → Engine) : (s.modEn n f).pa = s.pa := rfl
@[simp] theorem identF_modEn (s : State) (n : Nat) (f : Engine → Engine) : (s.modEn n f).ident = s.ident := rfl
@[simp] theorem chanF_modEn (s : State) (n : Nat) (f : Engine → Engine) : (s.modEn n f).chan = s.chan := rfl
@[simp] theorem mstageF_modEn (s : State) (n : Nat) (f : Engine → Engine) : (s.modEn n f).mstage = s.mstage := rfl
@[simp] theorem bootBadF_modEn (s : State) (n : Nat) (f : Engine → Engine) : (s.modEn n f).bootBad = s.bootBad := rfl
@[simp] theorem truF_modEn (s : State) (n : Nat) (f : Engine → Engine) : (s.modEn n f).tru = s.tru := rfl
@[simp] theorem calSetF_modEn (s : State) (n : Nat) (f : Engine → Engine) : (s.modEn n f).calSet = s.calSet := rfl
@[simp] theorem schedF_modEn (s : State) (n : Nat) (f : Engine → Engine) : (s.modEn n f).sched = s.sched := rfl
@[simp] theorem pdlF_modEn (s : State) (n : Nat) (f : Engine → Engine) : (s.modEn n f).pdl = s.pdl := rfl
@[simp] theorem gdlF_modEn (s : State) (n : Nat) (f : Engine → Engine) : (s.modEn n f).gdl = s.gdl := rfl
@[simp] theorem surfRetiredF_modEn (s : State) (n : Nat) (f : Engine → Engine) : (s.modEn n f).surfRetired = s.surfRetired := rfl
@[simp] theorem laneF_modEn (s : State) (n : Nat) (f : Engine → Engine) : (s.modEn n f).lane = s.lane := rfl
@[simp] theorem halfF_modEn (s : State) (n : Nat) (f : Engine → Engine) : (s.modEn n f).half = s.half := rfl
@[simp] theorem cruF_modEn (s : State) (n : Nat) (f : Engine → Engine) : (s.modEn n f).cru = s.cru := rfl
@[simp] theorem updatesF_modEn (s : State) (n : Nat) (f : Engine → Engine) : (s.modEn n f).updates = s.updates := rfl
@[simp] theorem openStripesF_modEn (s : State) (n : Nat) (f : Engine → Engine) : (s.modEn n f).openStripes = s.openStripes := rfl
@[simp] theorem savedStripesF_modEn (s : State) (n : Nat) (f : Engine → Engine) : (s.modEn n f).savedStripes = s.savedStripes := rfl
@[simp] theorem holesF_modEn (s : State) (n : Nat) (f : Engine → Engine) : (s.modEn n f).holes = s.holes := rfl
@[simp] theorem rebuildsF_modEn (s : State) (n : Nat) (f : Engine → Engine) : (s.modEn n f).rebuilds = s.rebuilds := rfl
@[simp] theorem verifiesF_modEn (s : State) (n : Nat) (f : Engine → Engine) : (s.modEn n f).verifies = s.verifies := rfl
@[simp] theorem rewritesF_modEn (s : State) (n : Nat) (f : Engine → Engine) : (s.modEn n f).rewrites = s.rewrites := rfl
@[simp] theorem readyF_modEn (s : State) (n : Nat) (f : Engine → Engine) : (s.modEn n f).ready = s.ready := rfl
@[simp] theorem cellF_modEn (s : State) (n : Nat) (f : Engine → Engine) : (s.modEn n f).cell = s.cell := rfl
@[simp] theorem mlaneF_modEn (s : State) (n : Nat) (f : Engine → Engine) : (s.modEn n f).mlane = s.mlane := rfl
@[simp] theorem pgF_modEn (s : State) (n : Nat) (f : Engine → Engine) : (s.modEn n f).pg = s.pg := rfl
@[simp] theorem plausF_modEn (s : State) (n : Nat) (f : Engine → Engine) : (s.modEn n f).plaus = s.plaus := rfl
@[simp] theorem mrecF_modEn (s : State) (n : Nat) (f : Engine → Engine) : (s.modEn n f).mrec = s.mrec := rfl
@[simp] theorem servoF_modEn (s : State) (n : Nat) (f : Engine → Engine) : (s.modEn n f).servo = s.servo := rfl
@[simp] theorem shockHeldF_modEn (s : State) (n : Nat) (f : Engine → Engine) : (s.modEn n f).shockHeld = s.shockHeld := rfl
@[simp] theorem spinF_modEn (s : State) (n : Nat) (f : Engine → Engine) : (s.modEn n f).spin = s.spin := rfl
@[simp] theorem memF_modEn (s : State) (n : Nat) (f : Engine → Engine) : (s.modEn n f).mem = s.mem := rfl
@[simp] theorem bufF_modEn (s : State) (n : Nat) (f : Engine → Engine) : (s.modEn n f).buf = s.buf := rfl
@[simp] theorem mccF_modEn (s : State) (n : Nat) (f : Engine → Engine) : (s.modEn n f).mcc = s.mcc := rfl
@[simp] theorem lifeF_modEn (s : State) (n : Nat) (f : Engine → Engine) : (s.modEn n f).life = s.life := rfl
@[simp] theorem freeF_modEn (s : State) (n : Nat) (f : Engine → Engine) : (s.modEn n f).free = s.free := rfl
@[simp] theorem outF_modEn (s : State) (n : Nat) (f : Engine → Engine) : (s.modEn n f).out = s.out := rfl
@[simp] theorem pendingF_modEn (s : State) (n : Nat) (f : Engine → Engine) : (s.modEn n f).pending = s.pending := rfl
@[simp] theorem partF_modCmd (s : State) (n : Nat) (f : Cmd → Cmd) : (s.modCmd n f).part = s.part := rfl
@[simp] theorem coreTimeF_modCmd (s : State) (n : Nat) (f : Cmd → Cmd) : (s.modCmd n f).coreTime = s.coreTime := rfl
@[simp] theorem regsF_modCmd (s : State) (n : Nat) (f : Cmd → Cmd) : (s.modCmd n f).regs = s.regs := rfl
@[simp] theorem regsRunF_modCmd (s : State) (n : Nat) (f : Cmd → Cmd) : (s.modCmd n f).regsRun = s.regsRun := rfl
@[simp] theorem odF_modCmd (s : State) (n : Nat) (f : Cmd → Cmd) : (s.modCmd n f).od = s.od := rfl
@[simp] theorem odRunF_modCmd (s : State) (n : Nat) (f : Cmd → Cmd) : (s.modCmd n f).odRun = s.odRun := rfl
@[simp] theorem odPendingF_modCmd (s : State) (n : Nat) (f : Cmd → Cmd) : (s.modCmd n f).odPending = s.odPending := rfl
@[simp] theorem storeF_modCmd (s : State) (n : Nat) (f : Cmd → Cmd) : (s.modCmd n f).store = s.store := rfl
@[simp] theorem storeRegsF_modCmd (s : State) (n : Nat) (f : Cmd → Cmd) : (s.modCmd n f).storeRegs = s.storeRegs := rfl
@[simp] theorem storeValidF_modCmd (s : State) (n : Nat) (f : Cmd → Cmd) : (s.modCmd n f).storeValid = s.storeValid := rfl
@[simp] theorem storeGenF_modCmd (s : State) (n : Nat) (f : Cmd → Cmd) : (s.modCmd n f).storeGen = s.storeGen := rfl
@[simp] theorem perSrcF_modCmd (s : State) (n : Nat) (f : Cmd → Cmd) : (s.modCmd n f).perSrc = s.perSrc := rfl
@[simp] theorem nonceF_modCmd (s : State) (n : Nat) (f : Cmd → Cmd) : (s.modCmd n f).nonce = s.nonce := rfl
@[simp] theorem asmF_modCmd (s : State) (n : Nat) (f : Cmd → Cmd) : (s.modCmd n f).asm = s.asm := rfl
@[simp] theorem odWaitF_modCmd (s : State) (n : Nat) (f : Cmd → Cmd) : (s.modCmd n f).odWait = s.odWait := rfl
@[simp] theorem commitBootF_modCmd (s : State) (n : Nat) (f : Cmd → Cmd) : (s.modCmd n f).commitBoot = s.commitBoot := rfl
@[simp] theorem failIndexF_modCmd (s : State) (n : Nat) (f : Cmd → Cmd) : (s.modCmd n f).failIndex = s.failIndex := rfl
@[simp] theorem failSubF_modCmd (s : State) (n : Nat) (f : Cmd → Cmd) : (s.modCmd n f).failSub = s.failSub := rfl
@[simp] theorem crossingF_modCmd (s : State) (n : Nat) (f : Cmd → Cmd) : (s.modCmd n f).crossing = s.crossing := rfl
@[simp] theorem flipMaskF_modCmd (s : State) (n : Nat) (f : Cmd → Cmd) : (s.modCmd n f).flipMask = s.flipMask := rfl
@[simp] theorem fetchStampF_modCmd (s : State) (n : Nat) (f : Cmd → Cmd) : (s.modCmd n f).fetchStamp = s.fetchStamp := rfl
@[simp] theorem writeGenF_modCmd (s : State) (n : Nat) (f : Cmd → Cmd) : (s.modCmd n f).writeGen = s.writeGen := rfl
@[simp] theorem crDoorF_modCmd (s : State) (n : Nat) (f : Cmd → Cmd) : (s.modCmd n f).crDoor = s.crDoor := rfl
@[simp] theorem fcF_modCmd (s : State) (n : Nat) (f : Cmd → Cmd) : (s.modCmd n f).fc = s.fc := rfl
@[simp] theorem recdF_modCmd (s : State) (n : Nat) (f : Cmd → Cmd) : (s.modCmd n f).recd = s.recd := rfl
@[simp] theorem healthF_modCmd (s : State) (n : Nat) (f : Cmd → Cmd) : (s.modCmd n f).health = s.health := rfl
@[simp] theorem hostTimeF_modCmd (s : State) (n : Nat) (f : Cmd → Cmd) : (s.modCmd n f).hostTime = s.hostTime := rfl
@[simp] theorem zlF_modCmd (s : State) (n : Nat) (f : Cmd → Cmd) : (s.modCmd n f).zl = s.zl := rfl
@[simp] theorem pwrF_modCmd (s : State) (n : Nat) (f : Cmd → Cmd) : (s.modCmd n f).pwr = s.pwr := rfl
@[simp] theorem secF_modCmd (s : State) (n : Nat) (f : Cmd → Cmd) : (s.modCmd n f).sec = s.sec := rfl
@[simp] theorem portF_modCmd (s : State) (n : Nat) (f : Cmd → Cmd) : (s.modCmd n f).port = s.port := rfl
@[simp] theorem srF_modCmd (s : State) (n : Nat) (f : Cmd → Cmd) : (s.modCmd n f).sr = s.sr := rfl
@[simp] theorem crF_modCmd (s : State) (n : Nat) (f : Cmd → Cmd) : (s.modCmd n f).cr = s.cr := rfl
@[simp] theorem rengF_modCmd (s : State) (n : Nat) (f : Cmd → Cmd) : (s.modCmd n f).reng = s.reng := rfl
@[simp] theorem dirtyF_modCmd (s : State) (n : Nat) (f : Cmd → Cmd) : (s.modCmd n f).dirty = s.dirty := rfl
@[simp] theorem dchF_modCmd (s : State) (n : Nat) (f : Cmd → Cmd) : (s.modCmd n f).dch = s.dch := rfl
@[simp] theorem engF_modCmd (s : State) (n : Nat) (f : Cmd → Cmd) : (s.modCmd n f).eng = s.eng := rfl
@[simp] theorem dtuF_modCmd (s : State) (n : Nat) (f : Cmd → Cmd) : (s.modCmd n f).dtu = s.dtu := rfl
@[simp] theorem objF_modCmd (s : State) (n : Nat) (f : Cmd → Cmd) : (s.modCmd n f).obj = s.obj := rfl
@[simp] theorem resvF_modCmd (s : State) (n : Nat) (f : Cmd → Cmd) : (s.modCmd n f).resv = s.resv := rfl
@[simp] theorem purgeF_modCmd (s : State) (n : Nat) (f : Cmd → Cmd) : (s.modCmd n f).purge = s.purge := rfl
@[simp] theorem droppedF_modCmd (s : State) (n : Nat) (f : Cmd → Cmd) : (s.modCmd n f).dropped = s.dropped := rfl
@[simp] theorem codeRetiredF_modCmd (s : State) (n : Nat) (f : Cmd → Cmd) : (s.modCmd n f).codeRetired = s.codeRetired := rfl
@[simp] theorem poolF_modCmd (s : State) (n : Nat) (f : Cmd → Cmd) : (s.modCmd n f).pool = s.pool := rfl
@[simp] theorem headF_modCmd (s : State) (n : Nat) (f : Cmd → Cmd) : (s.modCmd n f).head = s.head := rfl
@[simp] theorem plinkF_modCmd (s : State) (n : Nat) (f : Cmd → Cmd) : (s.modCmd n f).plink = s.plink := rfl
@[simp] theorem paF_modCmd (s : State) (n : Nat) (f : Cmd → Cmd) : (s.modCmd n f).pa = s.pa := rfl
@[simp] theorem identF_modCmd (s : State) (n : Nat) (f : Cmd → Cmd) : (s.modCmd n f).ident = s.ident := rfl
@[simp] theorem chanF_modCmd (s : State) (n : Nat) (f : Cmd → Cmd) : (s.modCmd n f).chan = s.chan := rfl
@[simp] theorem mstageF_modCmd (s : State) (n : Nat) (f : Cmd → Cmd) : (s.modCmd n f).mstage = s.mstage := rfl
@[simp] theorem bootBadF_modCmd (s : State) (n : Nat) (f : Cmd → Cmd) : (s.modCmd n f).bootBad = s.bootBad := rfl
@[simp] theorem truF_modCmd (s : State) (n : Nat) (f : Cmd → Cmd) : (s.modCmd n f).tru = s.tru := rfl
@[simp] theorem calSetF_modCmd (s : State) (n : Nat) (f : Cmd → Cmd) : (s.modCmd n f).calSet = s.calSet := rfl
@[simp] theorem schedF_modCmd (s : State) (n : Nat) (f : Cmd → Cmd) : (s.modCmd n f).sched = s.sched := rfl
@[simp] theorem pdlF_modCmd (s : State) (n : Nat) (f : Cmd → Cmd) : (s.modCmd n f).pdl = s.pdl := rfl
@[simp] theorem gdlF_modCmd (s : State) (n : Nat) (f : Cmd → Cmd) : (s.modCmd n f).gdl = s.gdl := rfl
@[simp] theorem surfRetiredF_modCmd (s : State) (n : Nat) (f : Cmd → Cmd) : (s.modCmd n f).surfRetired = s.surfRetired := rfl
@[simp] theorem laneF_modCmd (s : State) (n : Nat) (f : Cmd → Cmd) : (s.modCmd n f).lane = s.lane := rfl
@[simp] theorem halfF_modCmd (s : State) (n : Nat) (f : Cmd → Cmd) : (s.modCmd n f).half = s.half := rfl
@[simp] theorem cruF_modCmd (s : State) (n : Nat) (f : Cmd → Cmd) : (s.modCmd n f).cru = s.cru := rfl
@[simp] theorem updatesF_modCmd (s : State) (n : Nat) (f : Cmd → Cmd) : (s.modCmd n f).updates = s.updates := rfl
@[simp] theorem openStripesF_modCmd (s : State) (n : Nat) (f : Cmd → Cmd) : (s.modCmd n f).openStripes = s.openStripes := rfl
@[simp] theorem savedStripesF_modCmd (s : State) (n : Nat) (f : Cmd → Cmd) : (s.modCmd n f).savedStripes = s.savedStripes := rfl
@[simp] theorem holesF_modCmd (s : State) (n : Nat) (f : Cmd → Cmd) : (s.modCmd n f).holes = s.holes := rfl
@[simp] theorem rebuildsF_modCmd (s : State) (n : Nat) (f : Cmd → Cmd) : (s.modCmd n f).rebuilds = s.rebuilds := rfl
@[simp] theorem verifiesF_modCmd (s : State) (n : Nat) (f : Cmd → Cmd) : (s.modCmd n f).verifies = s.verifies := rfl
@[simp] theorem rewritesF_modCmd (s : State) (n : Nat) (f : Cmd → Cmd) : (s.modCmd n f).rewrites = s.rewrites := rfl
@[simp] theorem readyF_modCmd (s : State) (n : Nat) (f : Cmd → Cmd) : (s.modCmd n f).ready = s.ready := rfl
@[simp] theorem cellF_modCmd (s : State) (n : Nat) (f : Cmd → Cmd) : (s.modCmd n f).cell = s.cell := rfl
@[simp] theorem mlaneF_modCmd (s : State) (n : Nat) (f : Cmd → Cmd) : (s.modCmd n f).mlane = s.mlane := rfl
@[simp] theorem pgF_modCmd (s : State) (n : Nat) (f : Cmd → Cmd) : (s.modCmd n f).pg = s.pg := rfl
@[simp] theorem plausF_modCmd (s : State) (n : Nat) (f : Cmd → Cmd) : (s.modCmd n f).plaus = s.plaus := rfl
@[simp] theorem mrecF_modCmd (s : State) (n : Nat) (f : Cmd → Cmd) : (s.modCmd n f).mrec = s.mrec := rfl
@[simp] theorem servoF_modCmd (s : State) (n : Nat) (f : Cmd → Cmd) : (s.modCmd n f).servo = s.servo := rfl
@[simp] theorem shockHeldF_modCmd (s : State) (n : Nat) (f : Cmd → Cmd) : (s.modCmd n f).shockHeld = s.shockHeld := rfl
@[simp] theorem spinF_modCmd (s : State) (n : Nat) (f : Cmd → Cmd) : (s.modCmd n f).spin = s.spin := rfl
@[simp] theorem memF_modCmd (s : State) (n : Nat) (f : Cmd → Cmd) : (s.modCmd n f).mem = s.mem := rfl
@[simp] theorem bufF_modCmd (s : State) (n : Nat) (f : Cmd → Cmd) : (s.modCmd n f).buf = s.buf := rfl
@[simp] theorem mccF_modCmd (s : State) (n : Nat) (f : Cmd → Cmd) : (s.modCmd n f).mcc = s.mcc := rfl
@[simp] theorem lifeF_modCmd (s : State) (n : Nat) (f : Cmd → Cmd) : (s.modCmd n f).life = s.life := rfl
@[simp] theorem freeF_modCmd (s : State) (n : Nat) (f : Cmd → Cmd) : (s.modCmd n f).free = s.free := rfl
@[simp] theorem outF_modCmd (s : State) (n : Nat) (f : Cmd → Cmd) : (s.modCmd n f).out = s.out := rfl
@[simp] theorem pendingF_modCmd (s : State) (n : Nat) (f : Cmd → Cmd) : (s.modCmd n f).pending = s.pending := rfl
@[simp] theorem partF_modSpin (s : State) (f : Spin → Spin) : (s.modSpin f).part = s.part := rfl
@[simp] theorem coreTimeF_modSpin (s : State) (f : Spin → Spin) : (s.modSpin f).coreTime = s.coreTime := rfl
@[simp] theorem regsF_modSpin (s : State) (f : Spin → Spin) : (s.modSpin f).regs = s.regs := rfl
@[simp] theorem regsRunF_modSpin (s : State) (f : Spin → Spin) : (s.modSpin f).regsRun = s.regsRun := rfl
@[simp] theorem odF_modSpin (s : State) (f : Spin → Spin) : (s.modSpin f).od = s.od := rfl
@[simp] theorem odRunF_modSpin (s : State) (f : Spin → Spin) : (s.modSpin f).odRun = s.odRun := rfl
@[simp] theorem odPendingF_modSpin (s : State) (f : Spin → Spin) : (s.modSpin f).odPending = s.odPending := rfl
@[simp] theorem storeF_modSpin (s : State) (f : Spin → Spin) : (s.modSpin f).store = s.store := rfl
@[simp] theorem storeRegsF_modSpin (s : State) (f : Spin → Spin) : (s.modSpin f).storeRegs = s.storeRegs := rfl
@[simp] theorem storeValidF_modSpin (s : State) (f : Spin → Spin) : (s.modSpin f).storeValid = s.storeValid := rfl
@[simp] theorem storeGenF_modSpin (s : State) (f : Spin → Spin) : (s.modSpin f).storeGen = s.storeGen := rfl
@[simp] theorem perSrcF_modSpin (s : State) (f : Spin → Spin) : (s.modSpin f).perSrc = s.perSrc := rfl
@[simp] theorem nonceF_modSpin (s : State) (f : Spin → Spin) : (s.modSpin f).nonce = s.nonce := rfl
@[simp] theorem asmF_modSpin (s : State) (f : Spin → Spin) : (s.modSpin f).asm = s.asm := rfl
@[simp] theorem odWaitF_modSpin (s : State) (f : Spin → Spin) : (s.modSpin f).odWait = s.odWait := rfl
@[simp] theorem commitBootF_modSpin (s : State) (f : Spin → Spin) : (s.modSpin f).commitBoot = s.commitBoot := rfl
@[simp] theorem failIndexF_modSpin (s : State) (f : Spin → Spin) : (s.modSpin f).failIndex = s.failIndex := rfl
@[simp] theorem failSubF_modSpin (s : State) (f : Spin → Spin) : (s.modSpin f).failSub = s.failSub := rfl
@[simp] theorem crossingF_modSpin (s : State) (f : Spin → Spin) : (s.modSpin f).crossing = s.crossing := rfl
@[simp] theorem flipMaskF_modSpin (s : State) (f : Spin → Spin) : (s.modSpin f).flipMask = s.flipMask := rfl
@[simp] theorem fetchStampF_modSpin (s : State) (f : Spin → Spin) : (s.modSpin f).fetchStamp = s.fetchStamp := rfl
@[simp] theorem writeGenF_modSpin (s : State) (f : Spin → Spin) : (s.modSpin f).writeGen = s.writeGen := rfl
@[simp] theorem crDoorF_modSpin (s : State) (f : Spin → Spin) : (s.modSpin f).crDoor = s.crDoor := rfl
@[simp] theorem fcF_modSpin (s : State) (f : Spin → Spin) : (s.modSpin f).fc = s.fc := rfl
@[simp] theorem recdF_modSpin (s : State) (f : Spin → Spin) : (s.modSpin f).recd = s.recd := rfl
@[simp] theorem healthF_modSpin (s : State) (f : Spin → Spin) : (s.modSpin f).health = s.health := rfl
@[simp] theorem hostTimeF_modSpin (s : State) (f : Spin → Spin) : (s.modSpin f).hostTime = s.hostTime := rfl
@[simp] theorem zlF_modSpin (s : State) (f : Spin → Spin) : (s.modSpin f).zl = s.zl := rfl
@[simp] theorem pwrF_modSpin (s : State) (f : Spin → Spin) : (s.modSpin f).pwr = s.pwr := rfl
@[simp] theorem secF_modSpin (s : State) (f : Spin → Spin) : (s.modSpin f).sec = s.sec := rfl
@[simp] theorem portF_modSpin (s : State) (f : Spin → Spin) : (s.modSpin f).port = s.port := rfl
@[simp] theorem srF_modSpin (s : State) (f : Spin → Spin) : (s.modSpin f).sr = s.sr := rfl
@[simp] theorem crF_modSpin (s : State) (f : Spin → Spin) : (s.modSpin f).cr = s.cr := rfl
@[simp] theorem rengF_modSpin (s : State) (f : Spin → Spin) : (s.modSpin f).reng = s.reng := rfl
@[simp] theorem cmdsF_modSpin (s : State) (f : Spin → Spin) : (s.modSpin f).cmds = s.cmds := rfl
@[simp] theorem dirtyF_modSpin (s : State) (f : Spin → Spin) : (s.modSpin f).dirty = s.dirty := rfl
@[simp] theorem dchF_modSpin (s : State) (f : Spin → Spin) : (s.modSpin f).dch = s.dch := rfl
@[simp] theorem engF_modSpin (s : State) (f : Spin → Spin) : (s.modSpin f).eng = s.eng := rfl
@[simp] theorem dtuF_modSpin (s : State) (f : Spin → Spin) : (s.modSpin f).dtu = s.dtu := rfl
@[simp] theorem objF_modSpin (s : State) (f : Spin → Spin) : (s.modSpin f).obj = s.obj := rfl
@[simp] theorem resvF_modSpin (s : State) (f : Spin → Spin) : (s.modSpin f).resv = s.resv := rfl
@[simp] theorem purgeF_modSpin (s : State) (f : Spin → Spin) : (s.modSpin f).purge = s.purge := rfl
@[simp] theorem droppedF_modSpin (s : State) (f : Spin → Spin) : (s.modSpin f).dropped = s.dropped := rfl
@[simp] theorem codeRetiredF_modSpin (s : State) (f : Spin → Spin) : (s.modSpin f).codeRetired = s.codeRetired := rfl
@[simp] theorem poolF_modSpin (s : State) (f : Spin → Spin) : (s.modSpin f).pool = s.pool := rfl
@[simp] theorem headF_modSpin (s : State) (f : Spin → Spin) : (s.modSpin f).head = s.head := rfl
@[simp] theorem plinkF_modSpin (s : State) (f : Spin → Spin) : (s.modSpin f).plink = s.plink := rfl
@[simp] theorem paF_modSpin (s : State) (f : Spin → Spin) : (s.modSpin f).pa = s.pa := rfl
@[simp] theorem identF_modSpin (s : State) (f : Spin → Spin) : (s.modSpin f).ident = s.ident := rfl
@[simp] theorem chanF_modSpin (s : State) (f : Spin → Spin) : (s.modSpin f).chan = s.chan := rfl
@[simp] theorem mstageF_modSpin (s : State) (f : Spin → Spin) : (s.modSpin f).mstage = s.mstage := rfl
@[simp] theorem bootBadF_modSpin (s : State) (f : Spin → Spin) : (s.modSpin f).bootBad = s.bootBad := rfl
@[simp] theorem truF_modSpin (s : State) (f : Spin → Spin) : (s.modSpin f).tru = s.tru := rfl
@[simp] theorem calSetF_modSpin (s : State) (f : Spin → Spin) : (s.modSpin f).calSet = s.calSet := rfl
@[simp] theorem schedF_modSpin (s : State) (f : Spin → Spin) : (s.modSpin f).sched = s.sched := rfl
@[simp] theorem pdlF_modSpin (s : State) (f : Spin → Spin) : (s.modSpin f).pdl = s.pdl := rfl
@[simp] theorem gdlF_modSpin (s : State) (f : Spin → Spin) : (s.modSpin f).gdl = s.gdl := rfl
@[simp] theorem surfRetiredF_modSpin (s : State) (f : Spin → Spin) : (s.modSpin f).surfRetired = s.surfRetired := rfl
@[simp] theorem laneF_modSpin (s : State) (f : Spin → Spin) : (s.modSpin f).lane = s.lane := rfl
@[simp] theorem halfF_modSpin (s : State) (f : Spin → Spin) : (s.modSpin f).half = s.half := rfl
@[simp] theorem cruF_modSpin (s : State) (f : Spin → Spin) : (s.modSpin f).cru = s.cru := rfl
@[simp] theorem updatesF_modSpin (s : State) (f : Spin → Spin) : (s.modSpin f).updates = s.updates := rfl
@[simp] theorem openStripesF_modSpin (s : State) (f : Spin → Spin) : (s.modSpin f).openStripes = s.openStripes := rfl
@[simp] theorem savedStripesF_modSpin (s : State) (f : Spin → Spin) : (s.modSpin f).savedStripes = s.savedStripes := rfl
@[simp] theorem holesF_modSpin (s : State) (f : Spin → Spin) : (s.modSpin f).holes = s.holes := rfl
@[simp] theorem rebuildsF_modSpin (s : State) (f : Spin → Spin) : (s.modSpin f).rebuilds = s.rebuilds := rfl
@[simp] theorem verifiesF_modSpin (s : State) (f : Spin → Spin) : (s.modSpin f).verifies = s.verifies := rfl
@[simp] theorem rewritesF_modSpin (s : State) (f : Spin → Spin) : (s.modSpin f).rewrites = s.rewrites := rfl
@[simp] theorem readyF_modSpin (s : State) (f : Spin → Spin) : (s.modSpin f).ready = s.ready := rfl
@[simp] theorem cellF_modSpin (s : State) (f : Spin → Spin) : (s.modSpin f).cell = s.cell := rfl
@[simp] theorem mlaneF_modSpin (s : State) (f : Spin → Spin) : (s.modSpin f).mlane = s.mlane := rfl
@[simp] theorem pgF_modSpin (s : State) (f : Spin → Spin) : (s.modSpin f).pg = s.pg := rfl
@[simp] theorem plausF_modSpin (s : State) (f : Spin → Spin) : (s.modSpin f).plaus = s.plaus := rfl
@[simp] theorem mrecF_modSpin (s : State) (f : Spin → Spin) : (s.modSpin f).mrec = s.mrec := rfl
@[simp] theorem servoF_modSpin (s : State) (f : Spin → Spin) : (s.modSpin f).servo = s.servo := rfl
@[simp] theorem shockHeldF_modSpin (s : State) (f : Spin → Spin) : (s.modSpin f).shockHeld = s.shockHeld := rfl
@[simp] theorem memF_modSpin (s : State) (f : Spin → Spin) : (s.modSpin f).mem = s.mem := rfl
@[simp] theorem bufF_modSpin (s : State) (f : Spin → Spin) : (s.modSpin f).buf = s.buf := rfl
@[simp] theorem mccF_modSpin (s : State) (f : Spin → Spin) : (s.modSpin f).mcc = s.mcc := rfl
@[simp] theorem lifeF_modSpin (s : State) (f : Spin → Spin) : (s.modSpin f).life = s.life := rfl
@[simp] theorem freeF_modSpin (s : State) (f : Spin → Spin) : (s.modSpin f).free = s.free := rfl
@[simp] theorem outF_modSpin (s : State) (f : Spin → Spin) : (s.modSpin f).out = s.out := rfl
@[simp] theorem pendingF_modSpin (s : State) (f : Spin → Spin) : (s.modSpin f).pending = s.pending := rfl
@[simp] theorem partF_wb (s : State) (g : Fld) (b : Bool) (i j : Nat) : (s.wb g b i j).part = s.part := rfl
@[simp] theorem coreTimeF_wb (s : State) (g : Fld) (b : Bool) (i j : Nat) : (s.wb g b i j).coreTime = s.coreTime := rfl
@[simp] theorem regsRunF_wb (s : State) (g : Fld) (b : Bool) (i j : Nat) : (s.wb g b i j).regsRun = s.regsRun := rfl
@[simp] theorem odF_wb (s : State) (g : Fld) (b : Bool) (i j : Nat) : (s.wb g b i j).od = s.od := rfl
@[simp] theorem odRunF_wb (s : State) (g : Fld) (b : Bool) (i j : Nat) : (s.wb g b i j).odRun = s.odRun := rfl
@[simp] theorem odPendingF_wb (s : State) (g : Fld) (b : Bool) (i j : Nat) : (s.wb g b i j).odPending = s.odPending := rfl
@[simp] theorem storeF_wb (s : State) (g : Fld) (b : Bool) (i j : Nat) : (s.wb g b i j).store = s.store := rfl
@[simp] theorem storeRegsF_wb (s : State) (g : Fld) (b : Bool) (i j : Nat) : (s.wb g b i j).storeRegs = s.storeRegs := rfl
@[simp] theorem storeValidF_wb (s : State) (g : Fld) (b : Bool) (i j : Nat) : (s.wb g b i j).storeValid = s.storeValid := rfl
@[simp] theorem storeGenF_wb (s : State) (g : Fld) (b : Bool) (i j : Nat) : (s.wb g b i j).storeGen = s.storeGen := rfl
@[simp] theorem perSrcF_wb (s : State) (g : Fld) (b : Bool) (i j : Nat) : (s.wb g b i j).perSrc = s.perSrc := rfl
@[simp] theorem nonceF_wb (s : State) (g : Fld) (b : Bool) (i j : Nat) : (s.wb g b i j).nonce = s.nonce := rfl
@[simp] theorem asmF_wb (s : State) (g : Fld) (b : Bool) (i j : Nat) : (s.wb g b i j).asm = s.asm := rfl
@[simp] theorem odWaitF_wb (s : State) (g : Fld) (b : Bool) (i j : Nat) : (s.wb g b i j).odWait = s.odWait := rfl
@[simp] theorem commitBootF_wb (s : State) (g : Fld) (b : Bool) (i j : Nat) : (s.wb g b i j).commitBoot = s.commitBoot := rfl
@[simp] theorem failIndexF_wb (s : State) (g : Fld) (b : Bool) (i j : Nat) : (s.wb g b i j).failIndex = s.failIndex := rfl
@[simp] theorem failSubF_wb (s : State) (g : Fld) (b : Bool) (i j : Nat) : (s.wb g b i j).failSub = s.failSub := rfl
@[simp] theorem crossingF_wb (s : State) (g : Fld) (b : Bool) (i j : Nat) : (s.wb g b i j).crossing = s.crossing := rfl
@[simp] theorem flipMaskF_wb (s : State) (g : Fld) (b : Bool) (i j : Nat) : (s.wb g b i j).flipMask = s.flipMask := rfl
@[simp] theorem fetchStampF_wb (s : State) (g : Fld) (b : Bool) (i j : Nat) : (s.wb g b i j).fetchStamp = s.fetchStamp := rfl
@[simp] theorem writeGenF_wb (s : State) (g : Fld) (b : Bool) (i j : Nat) : (s.wb g b i j).writeGen = s.writeGen := rfl
@[simp] theorem crDoorF_wb (s : State) (g : Fld) (b : Bool) (i j : Nat) : (s.wb g b i j).crDoor = s.crDoor := rfl
@[simp] theorem fcF_wb (s : State) (g : Fld) (b : Bool) (i j : Nat) : (s.wb g b i j).fc = s.fc := rfl
@[simp] theorem recdF_wb (s : State) (g : Fld) (b : Bool) (i j : Nat) : (s.wb g b i j).recd = s.recd := rfl
@[simp] theorem healthF_wb (s : State) (g : Fld) (b : Bool) (i j : Nat) : (s.wb g b i j).health = s.health := rfl
@[simp] theorem hostTimeF_wb (s : State) (g : Fld) (b : Bool) (i j : Nat) : (s.wb g b i j).hostTime = s.hostTime := rfl
@[simp] theorem zlF_wb (s : State) (g : Fld) (b : Bool) (i j : Nat) : (s.wb g b i j).zl = s.zl := rfl
@[simp] theorem pwrF_wb (s : State) (g : Fld) (b : Bool) (i j : Nat) : (s.wb g b i j).pwr = s.pwr := rfl
@[simp] theorem secF_wb (s : State) (g : Fld) (b : Bool) (i j : Nat) : (s.wb g b i j).sec = s.sec := rfl
@[simp] theorem portF_wb (s : State) (g : Fld) (b : Bool) (i j : Nat) : (s.wb g b i j).port = s.port := rfl
@[simp] theorem srF_wb (s : State) (g : Fld) (b : Bool) (i j : Nat) : (s.wb g b i j).sr = s.sr := rfl
@[simp] theorem crF_wb (s : State) (g : Fld) (b : Bool) (i j : Nat) : (s.wb g b i j).cr = s.cr := rfl
@[simp] theorem rengF_wb (s : State) (g : Fld) (b : Bool) (i j : Nat) : (s.wb g b i j).reng = s.reng := rfl
@[simp] theorem cmdsF_wb (s : State) (g : Fld) (b : Bool) (i j : Nat) : (s.wb g b i j).cmds = s.cmds := rfl
@[simp] theorem dirtyF_wb (s : State) (g : Fld) (b : Bool) (i j : Nat) : (s.wb g b i j).dirty = s.dirty := rfl
@[simp] theorem dchF_wb (s : State) (g : Fld) (b : Bool) (i j : Nat) : (s.wb g b i j).dch = s.dch := rfl
@[simp] theorem engF_wb (s : State) (g : Fld) (b : Bool) (i j : Nat) : (s.wb g b i j).eng = s.eng := rfl
@[simp] theorem dtuF_wb (s : State) (g : Fld) (b : Bool) (i j : Nat) : (s.wb g b i j).dtu = s.dtu := rfl
@[simp] theorem objF_wb (s : State) (g : Fld) (b : Bool) (i j : Nat) : (s.wb g b i j).obj = s.obj := rfl
@[simp] theorem resvF_wb (s : State) (g : Fld) (b : Bool) (i j : Nat) : (s.wb g b i j).resv = s.resv := rfl
@[simp] theorem purgeF_wb (s : State) (g : Fld) (b : Bool) (i j : Nat) : (s.wb g b i j).purge = s.purge := rfl
@[simp] theorem droppedF_wb (s : State) (g : Fld) (b : Bool) (i j : Nat) : (s.wb g b i j).dropped = s.dropped := rfl
@[simp] theorem codeRetiredF_wb (s : State) (g : Fld) (b : Bool) (i j : Nat) : (s.wb g b i j).codeRetired = s.codeRetired := rfl
@[simp] theorem poolF_wb (s : State) (g : Fld) (b : Bool) (i j : Nat) : (s.wb g b i j).pool = s.pool := rfl
@[simp] theorem headF_wb (s : State) (g : Fld) (b : Bool) (i j : Nat) : (s.wb g b i j).head = s.head := rfl
@[simp] theorem plinkF_wb (s : State) (g : Fld) (b : Bool) (i j : Nat) : (s.wb g b i j).plink = s.plink := rfl
@[simp] theorem paF_wb (s : State) (g : Fld) (b : Bool) (i j : Nat) : (s.wb g b i j).pa = s.pa := rfl
@[simp] theorem identF_wb (s : State) (g : Fld) (b : Bool) (i j : Nat) : (s.wb g b i j).ident = s.ident := rfl
@[simp] theorem chanF_wb (s : State) (g : Fld) (b : Bool) (i j : Nat) : (s.wb g b i j).chan = s.chan := rfl
@[simp] theorem mstageF_wb (s : State) (g : Fld) (b : Bool) (i j : Nat) : (s.wb g b i j).mstage = s.mstage := rfl
@[simp] theorem bootBadF_wb (s : State) (g : Fld) (b : Bool) (i j : Nat) : (s.wb g b i j).bootBad = s.bootBad := rfl
@[simp] theorem truF_wb (s : State) (g : Fld) (b : Bool) (i j : Nat) : (s.wb g b i j).tru = s.tru := rfl
@[simp] theorem calSetF_wb (s : State) (g : Fld) (b : Bool) (i j : Nat) : (s.wb g b i j).calSet = s.calSet := rfl
@[simp] theorem schedF_wb (s : State) (g : Fld) (b : Bool) (i j : Nat) : (s.wb g b i j).sched = s.sched := rfl
@[simp] theorem pdlF_wb (s : State) (g : Fld) (b : Bool) (i j : Nat) : (s.wb g b i j).pdl = s.pdl := rfl
@[simp] theorem gdlF_wb (s : State) (g : Fld) (b : Bool) (i j : Nat) : (s.wb g b i j).gdl = s.gdl := rfl
@[simp] theorem surfRetiredF_wb (s : State) (g : Fld) (b : Bool) (i j : Nat) : (s.wb g b i j).surfRetired = s.surfRetired := rfl
@[simp] theorem laneF_wb (s : State) (g : Fld) (b : Bool) (i j : Nat) : (s.wb g b i j).lane = s.lane := rfl
@[simp] theorem halfF_wb (s : State) (g : Fld) (b : Bool) (i j : Nat) : (s.wb g b i j).half = s.half := rfl
@[simp] theorem cruF_wb (s : State) (g : Fld) (b : Bool) (i j : Nat) : (s.wb g b i j).cru = s.cru := rfl
@[simp] theorem updatesF_wb (s : State) (g : Fld) (b : Bool) (i j : Nat) : (s.wb g b i j).updates = s.updates := rfl
@[simp] theorem openStripesF_wb (s : State) (g : Fld) (b : Bool) (i j : Nat) : (s.wb g b i j).openStripes = s.openStripes := rfl
@[simp] theorem savedStripesF_wb (s : State) (g : Fld) (b : Bool) (i j : Nat) : (s.wb g b i j).savedStripes = s.savedStripes := rfl
@[simp] theorem holesF_wb (s : State) (g : Fld) (b : Bool) (i j : Nat) : (s.wb g b i j).holes = s.holes := rfl
@[simp] theorem rebuildsF_wb (s : State) (g : Fld) (b : Bool) (i j : Nat) : (s.wb g b i j).rebuilds = s.rebuilds := rfl
@[simp] theorem verifiesF_wb (s : State) (g : Fld) (b : Bool) (i j : Nat) : (s.wb g b i j).verifies = s.verifies := rfl
@[simp] theorem rewritesF_wb (s : State) (g : Fld) (b : Bool) (i j : Nat) : (s.wb g b i j).rewrites = s.rewrites := rfl
@[simp] theorem readyF_wb (s : State) (g : Fld) (b : Bool) (i j : Nat) : (s.wb g b i j).ready = s.ready := rfl
@[simp] theorem cellF_wb (s : State) (g : Fld) (b : Bool) (i j : Nat) : (s.wb g b i j).cell = s.cell := rfl
@[simp] theorem mlaneF_wb (s : State) (g : Fld) (b : Bool) (i j : Nat) : (s.wb g b i j).mlane = s.mlane := rfl
@[simp] theorem pgF_wb (s : State) (g : Fld) (b : Bool) (i j : Nat) : (s.wb g b i j).pg = s.pg := rfl
@[simp] theorem plausF_wb (s : State) (g : Fld) (b : Bool) (i j : Nat) : (s.wb g b i j).plaus = s.plaus := rfl
@[simp] theorem mrecF_wb (s : State) (g : Fld) (b : Bool) (i j : Nat) : (s.wb g b i j).mrec = s.mrec := rfl
@[simp] theorem servoF_wb (s : State) (g : Fld) (b : Bool) (i j : Nat) : (s.wb g b i j).servo = s.servo := rfl
@[simp] theorem shockHeldF_wb (s : State) (g : Fld) (b : Bool) (i j : Nat) : (s.wb g b i j).shockHeld = s.shockHeld := rfl
@[simp] theorem spinF_wb (s : State) (g : Fld) (b : Bool) (i j : Nat) : (s.wb g b i j).spin = s.spin := rfl
@[simp] theorem memF_wb (s : State) (g : Fld) (b : Bool) (i j : Nat) : (s.wb g b i j).mem = s.mem := rfl
@[simp] theorem bufF_wb (s : State) (g : Fld) (b : Bool) (i j : Nat) : (s.wb g b i j).buf = s.buf := rfl
@[simp] theorem mccF_wb (s : State) (g : Fld) (b : Bool) (i j : Nat) : (s.wb g b i j).mcc = s.mcc := rfl
@[simp] theorem lifeF_wb (s : State) (g : Fld) (b : Bool) (i j : Nat) : (s.wb g b i j).life = s.life := rfl
@[simp] theorem freeF_wb (s : State) (g : Fld) (b : Bool) (i j : Nat) : (s.wb g b i j).free = s.free := rfl
@[simp] theorem outF_wb (s : State) (g : Fld) (b : Bool) (i j : Nat) : (s.wb g b i j).out = s.out := rfl
@[simp] theorem pendingF_wb (s : State) (g : Fld) (b : Bool) (i j : Nat) : (s.wb g b i j).pending = s.pending := rfl
@[simp] theorem out_emit (s : State) (o : Out) : (s.emit o).out = o :: s.out := rfl

end Sys2Proof.Machine
end

