-- ==== Sys2Proof/Tests/Slice0.lean ====
section
/-! SUPPORT. Tests/Slice0.lean: small named tests: the checks of WellFormed refuse what they should, and for every statement of Obligations.lean with
hypotheses a concrete state and operands that meet them. -/

namespace Sys2Proof.Tests
open Sys2Proof Sys2Proof.Machine
-- One test at a time: side by side, their evaluations ask for more memory than a check has.
set_option Elab.async false

/-! WellFormed -/

/-- An MA_DRIVE frame without entries, with nine, and with a slot twice (02_attached_modules.md R36). -/
theorem test_driveEntries : (Instr.maDrive 0 []).check = some .driveEntries ∧ (Instr.maDrive 0 (List.replicate 9 (0, 0))).check = some .driveEntries
    ∧ (Instr.maDrive 0 [(3, 1), (3, 2)]).check = some .driveEntries ∧ (Instr.maDrive 0 [(3, 1), (4, 2)]).wellFormed = true := by decide
/-- The outcome is this next state. -/
def nextIs (r : Res) (t : State) : Bool := match r with | .next u => decide (u = t) | _ => false
theorem test_syncMetrics : (Instr.fieldReadEnd 0 [1, 2] 7).check = some .syncMetrics := by decide
theorem test_rates : (Instr.speedTick 0 0 0 [1, 2, 3, 4, 5]).check = some .rates := by decide
theorem test_noBytes : (Instr.hbmRead .shadow 0 0 []).check = some .noBytes ∧ (Instr.hbmWrite .shadow 0 [] []).check = some .noBytes
    ∧ (Instr.internalDescAbort []).check = some .noBytes := by decide
theorem test_requesters : (Instr.pailRequest 0 []).check = some .requesters ∧ (Instr.pailRequest 0 [4, 4]).check = some .requesters := by decide
theorem test_accessBytes : (Instr.mcAccess 0 0 (some [1, 2]) 3 .clean).check = some .accessBytes := by decide
theorem test_entryLength : (Instr.fetch (.entry [])).check = some .entryLength ∧ (Instr.fetch (.entry (List.replicate 17 0))).check = some .entryLength
    ∧ (Instr.rqRestart 0 []).check = some .entryLength := by decide
theorem test_dwords : (Instr.firmwareDownload 0 0 0 [1, 2, 3]).check = some .dwords := by decide
theorem test_entryUnits : (Instr.read 0 0 0 0 0 (List.replicate 15 (0, 0))).check = some .entryUnits
    ∧ (Instr.get 0 0 0 [1] 0 0 (List.replicate 14 (0, 0))).check = some .entryUnits := by decide
theorem test_accessSize : (Instr.registerWrite 0 0 0 3).check = some .accessSize ∧ (Instr.registerRead 0 0 0).check = some .accessSize := by decide

/-! StepTakesFrontCommand -/

theorem witness_StepTakesFrontCommand : State.reset.pending = [] := by decide

/-! EveryStepKeepsCanonicalForm -/

theorem witness_EveryStepKeepsCanonicalForm : State.reset.canonical = true ∧ step State.reset = .next { State.reset with coreTime := 1 } :=
  ⟨by decide, rfl⟩

/-! RollbackCounterOnlyRises -/

theorem witness_RollbackCounterOnlyRises : step State.reset = .next { State.reset with coreTime := 1 } := rfl

/-! AcknowledgedCommandsAreSentAtOnce -/

/-- A state whose link of actuator AL is UP and idle. -/
def upState : State := State.reset.wf PL_STATUS_STATE 2 1
theorem witness_AcknowledgedCommandsAreSentAtOnce : upState.laneFree (1 : Act).val ∧ upState.gateOpen (8 * 1 + 7) = false ∧ upState.headTaken 1 7 0xA = false
    ∧ upState.headTaken 1 0 0xF = false := by decide

/-! SlotRequestsWaitForClosedGates -/

theorem witness_SlotRequestsWaitForClosedGates :
    ((upState.modCh 15 (fun c => { c with wgate := true })).gateOpen (8 * (1 : Act).val + (7 : Fin 8).val) = true
      ∧ (upState.modCh 15 (fun c => { c with wgate := true })).headTaken 1 7 3 = false)
    ∧ ({ upState with pa := { upState.pa with head := [(8, 3)] } } : State).headTaken 1 7 3 = true
    ∧ (upState.modPl 1 (fun p => { p with held := [{ op := 2, payload := [7, 1] }] })).laneFree 1
    ∧ (upState.modPl 1 (fun p => { p with held := [{ op := 2, payload := [7, 1] }] })).gateOpen 15 = false
    ∧ ((upState.modPl 1 (fun p => { p with held := [{ op := 2, payload := [7, 1] }] })).plSt 1).held = [{ op := 2, payload := [BitVec.ofNat 8 7, 1] }] := by decide

/-! LinkTrainingAndFrames -/

/-- A state whose domain MOT is on. -/
def motState : State := State.reset.setDom domMOT 3
theorem witness_LinkTrainingAndFrames :
    (motState.dom domMOT = 3 ∧ motState.rb PL_CTRL_ENABLE 3 = false ∧ (motState.wf PL_CTRL_ENABLE 1 3).rb PL_CTRL_ENABLE 3 = true)
    ∧ (let s : State := (motState.wf PL_STATUS_STATE 1 3).modPl 3 (fun p => { p with step := 3, tries := 2 })
       s.rf PL_STATUS_STATE 3 = 1 ∧ (s.plSt 3).step = 3 ∧ (s.plSt 3).tries < 3)
    ∧ (let s : State := (motState.wf PL_STATUS_STATE 1 3).modPl 3 (fun p => { p with step := 4 })
       s.rf PL_STATUS_STATE 3 = 1 ∧ (s.plSt 3).step = 4)
    ∧ (let s : State := (motState.wf PL_CTRL_ENABLE 1 3).modPl 3 (fun p => { p with retrain := true })
       (s.plSt 3).retrain = true ∧ s.rf PL_STATUS_STATE 3 = 0 ∧ s.dom domMOT = 3 ∧ s.rb PL_CTRL_ENABLE 3 = true)
    ∧ ((motState.modPl 3 (fun p => { p with outst := some { op := 7, payload := [] } })).plSt 3).outst = some { op := 7, payload := [] } ∧ motState.rf PL_STATUS_LAST_SEQ 3 = (0 : Fin 16).val := by decide
theorem witness_LinkTrainingAndFrames2 : ((motState.plSt 3).queue = []) ∧ upState.laneFree (1 : Act).val := by decide

/-! Pa12EventsReportTheirFault -/

theorem witness_Pa12EventsReportTheirFault :
    (let s : State := State.reset.modPl 2 (fun p => { p with outst := some { op := 7, payload := [] }, overtemp := true, wedgeDn := 1 })
     (s.plSt 2).outst = some { op := 7, payload := [] } ∧ (s.plSt 2).retries < s.rf PL_CTRL_MAX_RETRY 2 ∧ (s.plSt 2).wedgeDn ≤ 1 ∧ (s.plSt 2).overtemp = true)
    ∧ ({ State.reset with pa := { State.reset.pa with head := [(17, 4)] } } : State).headChan 2 4 = some 17
    ∧ State.reset.headChan 2 10 = none ∧ (State.reset.plSt 2).overtemp = false ∧ (State.reset.sv 2).quiet = 0 := by decide

/-! IdentityMemoriesAreReadAndAdmitted -/

/-- The record set of role 6's neighbour in the tests: a head preamplifier (role 2) with a serial number, signed with key 0. -/
def idBytes : List Byte := [0x4F, 0x4C, 0x49, 0x44, 1, 0, 2, 0, 5, 0, 0, 0, 0, 0, 0, 0, 1, 0, 1, 0, 0x41]
def idState : State :=
  let s : State := State.reset.wf MOD_ADMIT_STATE 1 0 2
  { s with sec := { s.sec with dm := [(0, { st := .enrolled, key := 0, role := 0 })] }, ident := [(2, { tries := 3, buf := idBytes, recs := [] })] }
theorem witness_IdentityMemoriesAreReadAndAdmitted :
    ((State.reset.setDom domSYS 3).dom domSYS = 3 ∧ State.reset.part = .a44)
    ∧ (idState.rf MOD_ADMIT_STATE 0 2 = 1 ∧ (idState.idr 2).tries = 3 ∧ idState.admitReason 2 true = 0 ∧ idState.rf MOD_ADMIT_REREAD 0 2 = 0)
    ∧ ((State.reset.wf MOD_ADMIT_STATE 2 0 6).rf MOD_ADMIT_STATE 0 6 = 2 ∧ (State.reset.wf MOD_ADMIT_STATE 2 0 6).roleIdle 6 = true)
    ∧ ((State.reset.wf MOD_ADMIT_STATE 2 0 6).setAct 1 acFOLLOW).roleIdle 6 = false := by decide

/-! TruStateMachine -/

/-- A state whose TRU of actuator 0 is in state st, with its head flying and a spindle at target. -/
def truState (st : Nat) : State :=
  ((((State.reset.wf TRU_STATUS_STATE st 0).wf TRU_CTRL_ENABLE 1 0).wf SP_SPEED_SPEED (4 * State.reset.par 0x5010 1)).modTr 0 (fun x => { x with flying := true, kill := true }))
theorem witness_TruStateMachine :
    ((truState 0).rf TRU_STATUS_STATE 0 = 0 ∧ (truState 0).rf TRU_CTRL_ENABLE 0 = 1 ∧ ((truState 0).tr 0).flying = true ∧ (truState 0).spinOk = true)
    ∧ ((truState 1).rf TRU_STATUS_STATE 0 = 1 ∧ ((truState 1).tr 0).failed = false) ∧ (truState 2).rf TRU_STATUS_STATE 0 = 2
    ∧ ((truState 5).rf TRU_STATUS_STATE 0 = 5 ∧ (truState 5).rf TRU_CTRL_HOLD 0 = 0 ∧ ((truState 5).tr 0).kill = true)
    ∧ ((truState 5).wf TRU_CTRL_HOLD 1 0).rf TRU_CTRL_HOLD 0 = 1 ∧ ((truState 1).modTr 0 (fun x => { x with failed := true })).tr 0 = { (truState 1).tr 0 with failed := true } := by decide +kernel

/-! LossOfLockHoldsTheHalfStack -/

theorem witness_LossOfLockHoldsTheHalfStack : (State.reset.wf TRU_STATUS_STATE 4 3).rf TRU_STATUS_STATE 3 = 4
    ∧ (∀ n, n < 32 → (State.reset.wf TRU_STATUS_STATE 4 3).rf CAL_STATUS_STATE n ≠ 1) ∧ State.reset.rf TRU_STATUS_STATE 3 ≠ 4 := by decide

/-! FramesWedgesAndTrims -/

/-- A frame with its mark and number 5 on cylinder 0. -/
def frame5 : Frame :=
  { mark := true, index := some (BitVec.ofNat 16 (crc6 5 * 1024 + 5)), gray := 0, bad := [], rms := 10, amp := 100, agc := 0, a := 10, b := 10, c := 10, d := 10, carrier := 10 }
/-- A LOCKED, loaded actuator 0 with head 3 read by slot 2. -/
def wedgeState : State :=
  let s : State := (State.reset.wf TRU_STATUS_STATE 4 0).setAct 0 acFOLLOW
  { s with pa := { s.pa with head := [(2, 3)], mode := [(2, 1)] } }
/-- The wedge of its wedge number 7. -/
def wedge7 : Wedge := { sync := some 5, id := some (BitVec.ofNat 14 (crc5 7 * 512 + 7)), gray := 0, bad := [], n := 0, q := 0, amp := 1 }
theorem witness_FramesWedgesAndTrims :
    ((truState 1).rf TRU_STATUS_STATE 0 ≠ 3 ∧ (truState 1).rf TRU_STATUS_STATE 0 ≠ 4 ∧ (truState 3).rf TRU_STATUS_STATE 0 = 3 ∧ frame5.mark = true ∧ frameNumber frame5 = some 5
      ∧ ((truState 3).tr 0).prev = none ∧ frame5.bad = [])
    ∧ State.reset.slotHead 31 = 0xF
    ∧ (wedgeState.slotHead 2 ≠ 0xF ∧ tabGet 0 wedgeState.pa.mode 2 = 1 ∧ wedgeState.actLoaded (2 / 8) = true ∧ wedgeState.rf TRU_STATUS_STATE (2 / 8) = 4
      ∧ wedge7.sync = some 5 ∧ wedgeNumber wedge7 = some 7 ∧ (wedgeState.sv 0).seek = none ∧ wedgeState.rbit HT_CTRL_FREEZE 3 0 = false
      ∧ (wedgeState.hd 3).relearn = 0 ∧ (wedgeState.hd 3).check = 0)
    ∧ ((State.reset.ch 9).setup ≠ 7 ∧ ((State.reset.modCh 9 (fun c => { c with setup := 7 })).ch 9).setup = 7) := by decide +kernel

/-! FieldsAreReadIntoSlots -/

/-- A read command for the tests. -/
def readCmd : SecCmd :=
  { write := false, act := 0, head := 3, cyl := 0, pslot := 0, pail := 0, pool := none, stamp := 1, ix := 0, x := 0, tag := 0, why := .host, aborted := false, verify := false }
/-- Channel 2 about to read a field. -/
def fieldState : State :=
  (((wedgeState.modCh 2 (fun c => { c with target := some readCmd, rgate := true })).wf FE_CTRL_RDR_EN 7 2).wf FE_STATUS_RDR_ACT 7 2).wf VC_HEADS_READ_RDY 8 0
/-- Channel 2 with records of its slots. -/
def slotState (l : Tab SlotRec) : State := fieldState.modCh 2 (fun c => { c with sb := l })
theorem witness_FieldsAreReadIntoSlots :
    ((fieldState.ch 2).target = some readCmd ∧ readCmd.write = false ∧ (fieldState.atMinus8 2).freeSlot 2 = some 0 ∧ ((fieldState.atMinus8 2).ch 2).rgate = true
      ∧ (fieldState.atMinus8 2).rbit VC_HEADS_READ_RDY ((fieldState.atMinus8 2).slotHead 2) (2 / 8) = true)
    ∧ ((slotState ((List.range 4).map (fun k => (k, { SlotRec.free with st := 2 })))).atMinus8 2).freeSlot 2 = none
    ∧ ((slotState [(3, { SlotRec.free with st := 1 })]).filling 2 = some 3 ∧ ((slotState [(3, { SlotRec.free with st := 1 })]).ch 2).cut = false
      ∧ ((slotState [(3, { SlotRec.free with st := 1 })]).slotRec 2 3).taEnd = 0 ∧ fieldState.rf FE_CTRL_TA_EN 2 = 1)
    ∧ ((slotState [(3, { SlotRec.free with st := 1 })]).modCh 2 (fun c => { c with cut := true })).filling 2 = some 3
    ∧ (fieldState.rbit FE_STATUS_RDR_ACT 2 2 = true ∧ fieldState.rbit FE_FREEZE_GAIN 2 2 = false ∧ fieldState.rf FE_GAIN_r_AGC_DZ 2 2 ≤ 8 * fieldState.rf FE_GAIN_r_AGC_TGT 2 2 - 188
      ∧ 188 < 8 * fieldState.rf FE_GAIN_r_AGC_TGT 2 2 ∧ fieldState.rf FE_GAIN_r_GAIN 2 2 < 255)
    ∧ (State.reset.ch 2).rgate = false := by decide +kernel

/-! FrontEndWritesAndCalibration -/

theorem witness_FrontEndWritesAndCalibration :
    ((State.reset.ch 0).rgate = false ∧ (fieldState.ch 2).rgate = true)
    ∧ (let s : State := (slotState [(1, { SlotRec.free with st := 2 })]).modCh 2 (fun c => { c with reeq := [⟨1, 0, 0⟩, ⟨1, 0, 1⟩, ⟨1, 0, 2⟩] , refused := [⟨1, 0, 3⟩] })
       (s.slotRec 2 1).st = 2 ∧ 3 ≤ (s.ch 2).reeq.length ∧ (s.ch 2).refused = [⟨1, 0, 3⟩] ∧ (fieldState.ch 2).reeq.length < 3 ∧ (fieldState.ch 2).refused = [])
    ∧ (let s : State := wedgeState.wf CAL_CTRL_HEAD 3 2
       s.actLoaded (2 / 8) = true ∧ s.slotHead 2 = s.rf CAL_CTRL_HEAD 2 ∧ s.slotHead 2 ≠ 0xF ∧ s.rf TRU_STATUS_STATE (2 / 8) = 4 ∧ ∀ m, m < 32 → s.rf CAL_STATUS_STATE m ≠ 1)
    ∧ (let s : State := (wedgeState.wf CAL_STATUS_STATE 1 2).wf CAL_STATUS_STEP 8 2
       s.rf CAL_STATUS_STATE 2 = 1 ∧ (s.ch 2).calPaused = false ∧ s.rf CAL_STATUS_STEP 2 < 9) := by decide +kernel

/-! LanesAreRequestedGrantedAndRun -/

/-- Channel 2's slot 1 HELD at ladder step st. -/
def heldState (st : Nat) : State := State.reset.modCh 2 (fun c => { c with sb := [(1, { SlotRec.free with st := 2, step := st })] })
/-- Lane 5 decoding that slot. -/
def decodeState : State := (heldState 1).modLn 5 (fun l => { l with att := some { job := ⟨2, 1⟩, sweeps := 0, low := 3841, since := 0, width := 1, members := [], asked := true } })
theorem witness_LanesAreRequestedGrantedAndRun :
    (((heldState 0).slotRec 2 1).st ≠ 0 ∧ ((heldState 0).hf (2 / 16)).reqs = [] ∧ ((heldState 0).slotRec 2 0).st = 0)
    ∧ (((heldState 0).modHf 0 (fun x => { x with reqs := [⟨0, 2, 1, 0⟩] })).chooseLane 2 = some 4)
    ∧ (let s : State := (heldState 0).modLn 5 (fun l => { l with ib := [⟨2, 1⟩] })
       (s.ln 5).ib = [⟨2, 1⟩] ∧ (s.ln 5).att = none ∧ (s.ln 5).held = none ∧ s.rf LN_STATUS_STATE 5 = 0 ∧ (s.slotRec 2 1).step < 8)
    ∧ ((decodeState.slotRec 2 1).drop = 0 ∧ 0 + 1 < decodeState.pol 2 1 ∧ 0 < decodeState.pol 2 4)
    ∧ (let s : State := (heldState 0).modHf 0 (fun x => { x with store := [{ n := 2, k := 1, cmd := readCmd, status := 0 }] })
       (s.slotRec 2 1).st ≠ 3 ∧ ∀ i, i < 32 → (s.ln (32 * 0 + i)).held = none)
    ∧ ((decodeState.slotRec 2 1).st = 2 ∧ (decodeState.slotRec 2 1).step ≠ 0) := by decide +kernel

/-! LaneAndCellFaults -/

/-- Lane 63 in state st with retirement cause c. -/
def laneState (st c : Nat) : State := (State.reset.wf LN_STATUS_STATE st 63).wf LN_ERR_RET_CAUSE c 63
theorem witness_LaneAndCellFaults :
    ((laneState 0 0).rf LN_STATUS_STATE 63 = 0 ∧ ((laneState 0 0).ln 63).ib = [] ∧ ((laneState 0 0).ln 63).att = none ∧ (laneState 1 0).rf LN_STATUS_STATE 63 = 1)
    ∧ ((laneState 4 1).rf LN_STATUS_STATE 63 = 4 ∧ (laneState 4 1).rf LN_ERR_RET_CAUSE 63 = 1 ∧ (laneState 4 3).rf LN_ERR_RET_CAUSE 63 = 3)
    ∧ (laneState 5 0).rf LN_STATUS_STATE 63 = 5
    ∧ ((laneState 0 0).rf LN_STATUS_CELL_RET 63 = 0 ∧ ((laneState 0 0).wbit LN_STATUS_CELL_RET 15 true 63).rbit LN_STATUS_CELL_RET 15 63 = true)
    ∧ bitOf ({ State.reset with codeRetired := 2 } : State).codeRetired (1 - (0 : Fin 2).val) = true := by decide +kernel

/-! WriteChannelAndStripes -/

/-- A write command for the tests. -/
def writeCmd : SecCmd := { readCmd with write := true, why := .rewrite, verify := true }
/-- An update of stripe 0 for the tests. -/
def update0 : Update := { stripe := 0, pos := [], stamp := 1, gen := 1, form := .full, reads := [], mask := [0], parityDone := false, tmp := [], pool := 0 }
theorem witness_WriteChannelAndStripes :
    (let s : State := ((State.reset.wf WR_CTRL_EN 1 31).setDom 9 3).modCh 31 (fun c => { c with fifo := [writeCmd] })
     s.rf WR_CTRL_EN 31 = 1 ∧ s.dom (2 + 31 / 4) = 3 ∧ (s.ch 31).encoded = [] ∧ (s.ch 31).target = none ∧ writeCmd.write = true ∧ s.encodeNext 31 = some writeCmd)
    ∧ ((State.reset.ch 31).sets = none ∧ ((State.reset.modCh 31 (fun c => { c with sets := some (0, 0) })).ch 31).sets = some (0, 0))
    ∧ (State.reset.headChan 3 10 = none ∧ wedgeState.headChan 0 3 = some 2 ∧ holdCounts ((wedgeState.wf WR_STATUS_INHIBIT 2 2).rf WR_STATUS_INHIBIT 2) = true)
    ∧ State.reset.freshOf 5 = []
    ∧ (({ State.reset with updates := [update0] } : State).updateOf 0 = some update0 ∧ update0.parityDone = false
      ∧ ({ State.reset with updates := [{ update0 with reads := [1] }] } : State).readsDone { update0 with reads := [1] } = false)
    ∧ ((State.reset.modCh 2 (fun c => { c with reports := [(writeCmd, 0)] })).ch 2).reports = [(writeCmd, (State.reset.tr 0).verified)]
    ∧ (writeCmd.why = .rewrite ∧ writeCmd.verify = true ∧ 1 ≠ (State.reset.tr 0).verified) := by decide +kernel

/-! FullStripeUpdateOpensTheStripe -/

/-- Stripes of 2 + 2 members, two new sectors of stripe 0, loaded actuators and a pool of 8 Pails. -/
def stripeState : State :=
  let s : State := (((State.reset.setAct 0 acFOLLOW).setAct 1 acFOLLOW).setAct 2 acFOLLOW).setAct 3 acFOLLOW
  { s with odRun := [(odKey 0xC010 1, .num 2), (odKey 0xC010 2, .num 2), (odKey 0xC040 3, .num 8)]
           dirty := [{ x := 0, stamp := 1, first := 1, ns := 0, pail := 0, busy := false }, { x := 1, stamp := 1, first := 1, ns := 0, pail := 1024, busy := false }] }
theorem witness_FullStripeUpdateOpensTheStripe :
    0 < stripeState.geoD ∧ (∀ m, m < stripeState.geoD → (stripeState.freshOf 0).any (fun f => f.1 == m) = true) ∧ stripeState.updateOf 0 = none
    ∧ stripeState.pwr.pfail = false ∧ stripeState.holes = []
    ∧ (∀ m, m < stripeState.geoW → ((match stripeState.route 0 m [] with | .head _ _ => true | _ => false) = true)) ∧ stripeState.geoP ≤ stripeState.poolFree 0 := by decide +kernel

/-! RebuildsRewritesAndVerifies -/

def rebuild0 : Rebuild := { stripe := 7, pos := 31, cmd := some { readCmd with why := .stripeRead }, started := false, reads := [], pool := 0 }
theorem witness_RebuildsRewritesAndVerifies :
    (rebuild0.stripe = (7 : BitVec 32).toNat ∧ rebuild0.pos = 31 ∧ rebuild0.started = false ∧ rebuild0.cmd = some { readCmd with why := .stripeRead })
    ∧ (let c : SecCmd := { readCmd with why := .rewrite }
       ({ stripeState with rewrites := [(c, 2)] } : State).dirtyAt (c.x * 2 + c.ix) ≠ none ∧ c.ix < stripeState.geoD ∧ stripeState.bgHeld = false)
    ∧ (stripeState.geoD ≤ 3 ∧ (match stripeState.place 0 3 with | some pl => (stripeState.physOf pl.surface pl.cyl pl.lslot).isSome | none => false) = true)
    ∧ ({ State.reset with verifies := [readCmd] } : State).verifies = [readCmd]
    ∧ (({ State.reset with odRun := [(odKey 0xC010 1, .num 0), (odKey 0xC010 2, .num 0)] } : State).geoD = 0
      ∧ ({ State.reset with odRun := [(odKey 0xC010 1, .num 0), (odKey 0xC010 2, .num 0)] } : State).geoP = 0) := by decide +kernel

/-! CaptureAndReplay -/

/-- A replay of record 0. -/
def replayState (st : Nat) : State :=
  let s : State := ((State.reset.wf RP_STATUS_STATE st).setDom 10 3).wf RP_CTRL_STEPS 511
  { s with od := [(odKey 0xF010 2, .num 4)], cru := { s.cru with recs := [(0, { chan := 0, trig := 0, status := 0, seq := 0, stamp := 0, slot := .free, rpStatus := 0, rpSteps := [] })] } }
theorem witness_CaptureAndReplay :
    (((slotState [(0, { SlotRec.free with st := 3 })]).slotRec 2 0).st = 3 ∧ 0 < (replayState 0).ent 0xF010 2)
    ∧ ((replayState 0).rf RP_STATUS_STATE ≠ 1 ∧ (replayState 0).rf RP_IDX_IDX < (replayState 0).ent 0xF010 2 ∧ (tabFind (replayState 0).cru.recs 0).isSome = true ∧ (replayState 0).dom 10 = 3
      ∧ (replayState 0).rbit RP_CTRL_STEPS 0 = true ∧ ((replayState 0).hf 0).reqs = [])
    ∧ ((replayState 0).wf RP_IDX_IDX 4).ent 0xF010 2 ≤ ((replayState 0).wf RP_IDX_IDX 4).rf RP_IDX_IDX
    ∧ tabFind (replayState 0).cru.recs (((replayState 0).wf RP_IDX_IDX 3).rf RP_IDX_IDX) = none
    ∧ ((replayState 1).rf RP_STATUS_STATE = 1 ∧ (∀ k, k < 64 → ((replayState 1).ln k).att = none) ∧ (replayState 1).cru.rpLast = none) := by decide +kernel

/-! SequencerCommands -/

/-- Channel 10 with a target and a FIFO. -/
def seqState (t : Option SecCmd) (f : List SecCmd) : State :=
  State.reset.modCh 10 (fun c => { c with target := t, fifo := f, begun := true, ended := true, stack := [5, 6, 7] })
theorem witness_SequencerCommands :
    (((seqState none []).ch 10).fifo = [] ∧ ((seqState none []).ch 10).target = none ∧ ((seqState none []).ch 10).stack.length < 4)
    ∧ (let s : State := seqState (some readCmd) [{ readCmd with pslot := 1 }]
       (s.ch 10).cut = false ∧ (s.ch 10).begun = true ∧ (s.ch 10).ended = true ∧ readCmd.write = false ∧ readCmd.aborted = false)
    ∧ (({ (upState.modCh 10 (fun c => { c with target := some readCmd })) with pa := { upState.pa with head := [(10, 3)] } } : State).slotHead 10 = readCmd.head
      ∧ upState.laneFree (10 / 8) ∧ upState.gateOpen (8 * (10 / 8) + 10 % 8) = false)
    ∧ (State.reset.rf SQ_CTRL_RUN 10 = 0 ∨ State.reset.rf SQ_STATUS_HALTED 10 = 1 ∨ State.reset.dom (2 + 10 / 4) ≠ 3) := by decide +kernel

/-! SequencerControl -/

/-- Channel 31 powered and running a word that goes to 77; its TRIG stage. -/
def runState (pend : Nat) : State :=
  ((((State.reset.setDom 9 3).wf SQ_CTRL_RUN 1 31).wf SQ_STATUS_SWAP_PEND pend 31).wf SYN_NDIVk_BITS 0 3 7).modCh 31 (fun c =>
    { c with bank0 := { words := [77], entry := 0, imageId := 0 }, atSwap := true })
/-- A staged image of one word: NEXT 0, SWP. -/
def imageState : State :=
  let b : List Byte := [0x4F, 0x47, 0x53, 0x51, 1, 0, 0, 0, 9, 0, 0, 0, 1, 0, 0, 0] ++ List.replicate 16 0 ++ leBytes 16 (2 ^ 27) ++ List.replicate 64 0
  { State.reset with mstage := { State.reset.mstage with image := b }, od := [(odKey 0x6050 3, .num (2 ^ 31))], sec := { State.reset.sec with dm := [(0, { st := .enrolled, key := 0, role := 0 })] } }
theorem witness_SequencerControl :
    ((runState 0).rf SQ_CTRL_RUN 31 = 1 ∧ (runState 0).rf SQ_STATUS_HALTED 31 = 0 ∧ (runState 0).dom (2 + 31 / 4) = 3 ∧ (runState 0).rf SQ_STATUS_SWAP_PEND 31 = 0
      ∧ (runState 0).rf SYN_NDIVk_BITS (31 / 8) (31 % 8) = 0 ∧ (runState 0).sqWord 31 = 77)
    ∧ ((runState 0).rbit SQ_STATUS_EVT 4 31 = false ∧ ((runState 0).wbit SQ_STATUS_EVT 4 true 31).rbit SQ_STATUS_EVT 4 31 = true)
    ∧ (((runState 0).ch 31).target = none ∧ ((runState 0).ch 31).fifo = [])
    ∧ (imageState.imgReason imageState.mstage.image false = 5 ∧ imageState.imgReason imageState.mstage.image true = 0 ∧ imageState.stageChans = [31] ∧ imageState.rf SQ_STATUS_ACTIVE 31 = 0
      ∧ imageState.rf SQ_STATUS_STANDBY_VALID 31 = 0 ∧ imageState.rf SQ_CTRL_RUN 31 = 0)
    ∧ ((runState 1).rf SQ_STATUS_SWAP_PEND 31 = 1 ∧ ((runState 1).ch 31).atSwap = true ∧ (runState 1).rf SQ_STATUS_ACTIVE 31 = 0
      ∧ ((runState 0).wf SQ_STATUS_STANDBY_VALID 1 31).rf SQ_STATUS_STANDBY_VALID 31 = 1) := by decide +kernel

/-! LoopCellsRunAndMiss -/

/-- The spindle speed controller's cell 38 in force and live in closed loop, with an input, an output and lane 1 as asked. -/
def cellState (busy : Bool) (out : Option CellOut) : State :=
  let s : State := ((State.reset.setDom domMOT 3).wf SP_STATUS_MODE 3).modLc 38 (fun c => { c with live := true, run := out })
  { s with odRun := [(odKey 0x4126 1, .num 1)], mlane := if busy then [(1, [38])] else [] }
def out0 : CellOut :=
  { inp := ⟨0, 0, 0, true, 0⟩, e := 0, yf := 0, d := 0, i := 0, v := 0, u := 7, p := 0, bq := [], sat := false, transfer := false, clamp := false, numeric := false, gset := 0 }
theorem witness_LoopCellsRunAndMiss :
    ((cellState false none).cellRuns 38 = true ∧ (∀ m, m < 42 → ((cellState false none).lc m).ready = none) ∧ tabGet [] (cellState false none).mlane (cellLane 38) = []
      ∧ ((cellState false none).lc 38).run = none ∧ ((cellState false none).lc 38).live = true ∧ ((cellState false none).lc 38).due = false)
    ∧ ({ State.reset with odRun := [(odKey 0x4100 1, .num 0)] } : State).par 0x4100 1 = 0
    ∧ (tabGet [] (cellState true (some out0)).mlane (cellLane 38) = [38] ∧ ((cellState true (some out0)).lc 38).run = some out0 ∧ ((cellState true (some out0)).lc 38).missAt = [])
    ∧ (let s : State := State.reset.modLc 63 (fun c => { c with live := true, shadow := some (⟨0, 0, 0, true, 0⟩, 1, 2, 3) })
       s.mrec.rpSt ≠ 1 ∧ (∀ k, k < 42 → (s.lc k).ready = none) ∧ tabGet [] s.mlane (cellLane 63) = [] ∧ (s.lc 63).live = true) := by decide +kernel

/-! ProfilesRecordingAndReplay -/

/-- Profile channel 4 at position 10. -/
def pgState (pl : Option (Nat × Nat × Nat)) (stop : Bool) : State := State.reset.modPg 4 (fun q => { q with pos := 10, plan := pl, k := 7, stop := stop })
theorem witness_ProfilesRecordingAndReplay :
    (((pgState none false).pgc 4).stop = false ∧ ((pgState none false).pgc 4).plan = none ∧ ((pgState none false).pgc 4).pos = 10 ∧ ((pgState (some (1, 1, 1)) false).pgc 4).plan.isSome = true)
    ∧ (((pgState none true).pgc 4).stop = true ∧ ((pgState none true).sv 4).seek = none ∧ (pgState none true).rf VC_STATUS_STATE 4 ≠ 5)
    ∧ (4 * 1 + 2 * 1 + 1 ≤ ((pgState (some (1, 1, 1)) false).pgc 4).k + 1 ∧ ((pgState (some (1, 1, 1)) false).pgc 4).queued = none)
    ∧ (State.reset.mrec.st ≠ 1 ∧ State.reset.mrec.total = 0 ∧ State.reset.ent 0xF020 10 = 0 ∧ ({ State.reset with mrec := { State.reset.mrec with rpSt := 1, st := 1 } } : State).mrec.rpSt = 1) := by
  decide +kernel

/-! SeeksSettleAndFollow -/

/-- Actuator 0 in state st with a seek of no heads to cylinder 9. -/
def servoState (st : Nat) (rep : Bool) : State :=
  (State.reset.setAct 0 st).modSv 0 (fun v => { v with seek := some { cyl := 9, heads := [], writes := [], anchor := 0, step := 3, good := 0, repeated := rep } })
/-- The same with head 3 mapped to slot 2, its radial offset unknown. -/
def jogState : State :=
  let s : State := servoState 4 false
  { s with pa := { s.pa with head := [(2, 3)] }, od := [(odKey 0x4203 2, .num 0x80000000)] }
theorem witness_SeeksSettleAndFollow :
    ((servoState 2 false).hasAct 0 = true ∧ (servoState 2 false).act 0 = 2 ∧ (servoState 4 false).act 0 = 4 ∧ (servoState 4 false).mappedHeads 0 = [] ∧ (servoState 7 false).act 0 = 7)
    ∧ (State.reset.rf SYS_MODE_MODE ≠ 1 ∧ (State.reset.sv 0).seek = none ∧ (servoState 3 true).act 0 = 3)
    ∧ (State.reset.act 0 = 0 ∧ State.reset.rbit WR_STATUS_INHIBIT 8 (8 * 0) = false ∧ State.reset.headChan 0 3 = none)
    ∧ (jogState.headChan 0 3 = some 2 ∧ jogState.act 0 = 4 ∧ jogState.rf MA_STATUS_ACTIVE 0 = 0 ∧ jogState.seekO 0 3 0 false = none ∧ jogState.inReach 2 0 = true)
    ∧ ((∀ b, b < 4 → State.reset.act b ≠ 4) ∧ State.reset.rf SK_STATUS_ACTIVE = 0 ∧ State.reset.rf IF_STATUS_STUCK = 0 ∧ State.reset.rf IF_STATUS_CHATTER = 0
      ∧ (State.reset.wf SK_STATUS_ACTIVE 4).rf SK_STATUS_ACTIVE ≠ 0) := by decide +kernel

/-! LoadParkAndRetract -/

/-- Actuator 3 in state st. -/
def loadState (st : Nat) : State := (State.reset.setAct 3 st).wf SP_SPEED_SPEED (4 * State.reset.par 0x5010 1)
theorem witness_LoadParkAndRetract :
    ((loadState 0).act 3 = 0 ∧ (loadState 0).hasAct 3 = true ∧ (loadState 0).mayLoad 3 = true ∧ (loadState 0).spinOk = true ∧ (loadState 0).rbit WR_STATUS_INHIBIT 8 (8 * 3) = false)
    ∧ (((loadState 1).modSv 3 (fun v => { v with loadStep := 1 })).act 3 = 1 ∧ (loadState 1).mappedHeads 3 = [] ∧ (loadState 1).rf PL_STATUS_STATE 3 ≠ 2 ∧ ((loadState 1).sv 3).loadTries = 0)
    ∧ ((loadState 4).act 3 = 4 ∧ (loadState 5).act 3 = 5 ∧ (loadState 6).act 3 = 6 ∧ (loadState 6).spin.stopping = false ∧ ((loadState 6).sv 3).retireAt = false) := by decide +kernel

/-! SpindleStartsAndCatches -/

/-- The spindle in mode m and step k, both modules admitted. -/
def spState (m k : Nat) : State := ((((State.reset.wf SP_STATUS_MODE m).wf MOD_ADMIT_STATE modADMITTED 0 4).wf MOD_ADMIT_STATE modADMITTED 0 5).modSpin (fun p => { p with step := k }))
theorem witness_SpindleStartsAndCatches :
    ((spState 5 0).sp = 5 ∧ ((spState 0 0).wb SP_STATUS_CHOP_FAULT true).rb SP_STATUS_CHOP_FAULT = true ∧ (spState 6 0).rb SP_STATUS_CHOP_FAULT = false ∧ (spState 6 0).spAdmitted = true)
    ∧ ((spState 1 3).sp = 1 ∧ (spState 1 3).spin.step = 3 ∧ (spState 1 4).spin.pulses.length < 11 ∧ 20 * (204 : Int).natAbs ≤ 4096 ∧ 4096 < 20 * (-205 : Int).natAbs)
    ∧ ((((spState 1 4).modSpin (fun p => { p with pulses := List.replicate 11 100 })).spin.pulses ++ [104]).length = 12
      ∧ 103 * (List.replicate 11 100 ++ [104]).getD ((peakIx (List.replicate 11 100 ++ [104]) + 6) % 12) 0 ≤ 100 * (List.replicate 11 100 ++ [104]).getD (peakIx (List.replicate 11 100 ++ [104])) 0
      ∧ 100 * (List.replicate 12 100).getD (peakIx (List.replicate 12 100)) 0 < 103 * (List.replicate 12 100).getD ((peakIx (List.replicate 12 100) + 6) % 12) 0)
    ∧ ((spState 2 7).sp = 2 ∧ (spState 2 7).spin.tries ≠ 2 ∧ ((spState 2 7).modSpin (fun p => { p with tries := 2 })).spin.tries = 2 ∧ (spState 0 10).spin.step = 10)
    ∧ ((spState 7 0).spin.crossings < 11 ∧ 11 ≤ ((spState 7 0).modSpin (fun p => { p with crossings := 11 })).spin.crossings ∧ (spState 9 0).spin.zvThen ≠ 1 ∧ (spState 12 0).sp = 12)
    ∧ ((spState 1 1).sp = 1 ∧ (spState 1 1).spin.step = 1 ∧ (spState 0 0).spin.stopping = false) := by decide +kernel

/-! SpindleStopsHoldsAndTrips -/

theorem witness_SpindleStopsHoldsAndTrips :
    ((spState 11 0).sp = 11 ∧ (spState 4 0).sp = 4 ∧ (spState 4 0).allUnloaded = true ∧ (spState 4 0).spin.chopStop = false ∧ (spState 4 0).spinOk = false)
    ∧ (((spState 4 0).setAct 0 4).allUnloaded = false ∧ ((spState 4 0).setAct 0 4).parkAll.allUnloaded = false)
    ∧ (State.reset.rb SP_STATUS_BRAKE = false ∧ (State.reset.wb SP_STATUS_BRAKE true).rb SP_STATUS_BRAKE = true ∧ (State.reset.wb SP_STATUS_BRAKE true).rb SP_STATUS_CHOP_FAULT = false)
    ∧ ((spState 5 0).spin.samples.length < 2 ∧ (spState 4 0).rb IF_STATUS_TEMP_OOW = false ∧ (spState 5 0).overCurrent 0 0 = false) := by decide +kernel

/-! BufferReadsAndWrites -/

/-- The buffer filled, with three bytes from 0x2000000 on, the cache window elsewhere. -/
def memState : State := { State.reset with buf.filled := true, mem := [(0x2000000, 1), (0x2000001, 2), (0x2000005, 3)] }
def oneWait : BufOp := { req := .dma 0, addr := 0x2000000, len := 8, wr := none }
/-- A word of that page with two wrong bits, and a read that waits for it. -/
def waitState : State := { memState with buf.err := [(0x400000, 3)], buf.waits := [oneWait] }
theorem witness_BufferReadsAndWrites :
    (memState.inWindow 0x2000000 8 = false ∧ 0x2000000 + 8 ≤ memState.dataEnd ∧ (unitsOf 2048 0x2000000 8).any memState.pageHeld = false ∧ memState.buf.err = [] ∧ memState.buf.poison = [])
    ∧ (memState.buf.flip = none ∧ Memory.wf memState.mem = true ∧ memState.buf.filled = true ∧ 0x2000000 % 8 = 0 ∧ memState.pcOf (0x2000000 / 2048) = 0 ∧ memState.dataEnd < 0x3A0000000 + 1)
    ∧ (oneWait ∈ waitState.buf.waits ∧ oneWait.wr = none ∧ (waitState.needsStrong oneWait.addr oneWait.len).contains 0x4000 = true)
    ∧ (State.reset.rb HBM_FLIP_CTRL_MATCH = false ∧ (State.reset.wb HBM_FLIP_CTRL_MATCH true).rb HBM_FLIP_CTRL_MATCH = true ∧ State.reset.buf.filled = false ∧ State.reset.pcSt 0 = 0) := by
  decide +kernel
theorem witness_BufferReadsAndWrites_media : (∀ k, tabFind (tabDel memState.buf.media k) k = none) ∧ memState.buf.media = [] := ⟨fun _ => rfl, rfl⟩
/-- The same with every pseudo-channel ACTIVE and the fill still to come. -/
def pcState : State := (List.range 16).foldl (fun t p => t.wf HBM_PC_STATUS_STATE 1 p) State.reset
theorem witness_BufferReadsAndWrites_fill : pcState.buf.filled = false ∧ ∀ p, p < 16 → pcState.pcSt p ≠ 0 := by decide +kernel

/-! PseudoChannelsAreKeptAndRetired -/

/-- Pseudo-channel 5 relocates with its pointer at r. -/
def relocState (r : Nat) : State := (pcState.wf HBM_PC_STATUS_STATE 2 5).wf HBM_PC_RELOC_PTR r 5
theorem witness_PseudoChannelsAreKeptAndRetired :
    (refMult (State.reset.rf ECC_STATUS_REF_MULT) 40 = State.reset.rf ECC_STATUS_REF_MULT ∧ (1 : Nat) = refMult (State.reset.rf ECC_STATUS_REF_MULT) 90 ∧ (1 : Nat) ≠ State.reset.rf ECC_STATUS_REF_MULT)
    ∧ (({ State.reset with buf.hot := 9 } : State).buf.hot = 9 ∧ pcState.pcSt 5 = 1 ∧ (pcState.wf HBM_PC_STATUS_STATE 3 5).pcSt 5 = 3)
    ∧ (((List.range 16).map (fun i => (pcState.buf.track + i) % 16)).find? pcState.pcRuns = some 0 ∧ (pcState.pcv 0).retries < 3
      ∧ ((pcState.modPc 0 (fun x => { x with retries := 3 })).pcv 0).retries = 3)
    ∧ ((State.reset.setDom 16 3).dom 16 = 3 ∧ (∀ q, q < 16 → (State.reset.setDom 16 3).pcSt q = 0) ∧ (State.reset.setDom 16 2).dom 16 = 2 ∧ State.reset.buf.waits = [])
    ∧ ((pcState.pcv 5).ce ≤ pcState.par 0xC020 1 ∧ (pcState.par 0xC020 1 < ((pcState.modPc 5 (fun x => { x with ce := 10 ^ 9, ceBad := 9 })).pcv 5).ce)
      ∧ ((pcState.modPc 5 (fun x => { x with due := 4 })).pcv 5).due = 4 ∧ pcState.movedRows = none ∧ (relocState 0).movedRows.isSome = true)
    ∧ ((relocState 0).pcSt 5 = 2 ∧ ((relocState 0).pcv 5).held = false ∧ (relocState 7).rf HBM_PC_RELOC_PTR 5 = 7 ∧ 7 + 1 < (relocState 7).rowsMoved
      ∧ (relocState 491519).rf HBM_PC_RELOC_PTR 5 + 1 = (relocState 491519).rowsMoved ∧ (((relocState 0).modPc 5 (fun x => { x with held := true })).pcv 5).held = true) := by decide +kernel

/-! TheSkimmerLaps -/

/-- The Skimmer on a lap over the sixteen ACTIVE pseudo-channels. -/
def skimState : State := { (pcState.wb SKIM_CTRL_EN true) with buf.lap := true, buf.filled := true }
/-- All its rows read. -/
def skimEnd : State := (List.range 16).foldl (fun t p => t.modPc p (fun x => { x with row := 600000 })) skimState
theorem witness_TheSkimmerLaps :
    (skimState.rb SKIM_CTRL_EN = true ∧ (pcState.wb SKIM_CTRL_EN false).rb SKIM_CTRL_EN = false ∧ skimState.buf.lap = true ∧ skimState.buf.overdue = false ∧ skimState.lapDone = false ∧ skimEnd.lapDone = true)
    ∧ (skimState.buf.filled = true ∧ skimState.pcSt 3 = 1 ∧ 0 < skimState.lapRows 3 ∧ (skimState.rowPage 3 0).isSome = true ∧ (skimState.pcv 3).restarts ≠ 15 ∧ skimState.buf.err = []
      ∧ skimState.rf SKIM_LAP_MAX_MAX < 2 ^ 32) := by decide +kernel

/-! PailsAreGrantedAndReturned -/

/-- Pool 3 holds n Pails of 4 KiB from 0x2000000 on, those of l allocated. -/
def poolState (n : Nat) (l : List Nat) : State :=
  { State.reset with odRun := [(odKey 0xC043 1, .num 0x2000000), (odKey 0xC043 2, .num 12), (odKey 0xC043 3, .num n), (odKey 0xC043 4, .num 0)], pool := [(3, { Pool.reset with alloc := l })] }
/-- A WRITE with one Pail of pool 3 reserved. -/
def drawCmd : Cmd := 
  { stamp := 5, origin := 0, cid := 0, op := .write, ns := 1, lba := 0, count := 1, xs := [0], fua := false, port := 0, pasid := none, priOk := false, pool := 3, hlist := [], pails := [],
    req := [0], inPail := [], moved := [], landed := [], installed := [], issued := false, aborted := false, late := false, fails := [], detail := 0, result := 0, target := (0, 0), obj := none }
def drawState (r : Nat) : State := { (poolState 8 [0]) with cmds := [drawCmd], pool := [(3, { Pool.reset with alloc := [0], reserved := [(5, r)] })] }
/-- Channel 2's output-store entry waits for a Pail of pool 3. -/
def drawEnt : StoreEnt := { n := 2, k := 1, cmd := { readCmd with pool := some 3 }, status := 0 }
def entState : State := { (poolState 8 []) with half := [(0, { HalfSt.reset with store := [drawEnt] })] }
theorem witness_PailsAreGrantedAndReturned :
    (((poolState 8 [0]).pl 3).waiting = [] ∧ (poolState 8 [0]).poolCount 3 = 8 ∧ (poolState 8 [0]).poolFree 3 = 7 ∧ (poolState 8 [0]).par 0xC043 4 = 0 ∧ lowestFree ((poolState 8 [0]).pl 3).alloc 0 = 1)
    ∧ ((poolState 1 [0]).poolFree 3 = 0 ∧ (poolState 0 []).poolCount 3 = 0 ∧ (poolState 8 [0]).poolBase 3 = 0x2000000 ∧ (poolState 8 [0]).poolSize 3 = 4096 ∧ ((poolState 8 [0]).pl 3).alloc.contains 0 = true
      ∧ ((poolState 8 [0]).pl 3).alloc.contains 7 = false ∧ (0x2000000 + 4095 - 0x2000000) % 4096 ≠ 0)
    ∧ (State.reset.cmd 5 = none ∧ (drawState 2).cmd 5 = some drawCmd ∧ (drawState 2).reservedOf drawCmd = 2 ∧ (drawState 0).reservedOf drawCmd = 0 ∧ drawCmd.aborted = false)
    ∧ (State.reset.drawEntry 2 none = none ∧ entState.drawEntry 2 none = some drawEnt ∧ drawEnt.cmd.aborted = false) := by decide +kernel

/-! TheMetadataCacheServesItsWindow -/

/-- The cache in state st over the window of 1 MiB from 0 on, line 3 in way 2. -/
def mccState (st : Nat) : State :=
  { (State.reset.wf MCC_STATUS_STATE st) with odRun := [(odKey 0xC050 1, .num 0), (odKey 0xC050 2, .num 0x100000)], mcc.tags := [(16 * 3 + 2, 3)] }
def oneFill : McFill := { line := 9, way := 0, who := [(1, 1152, 8)], installs := true }
def oneMerge : MergeEnt := { granule := 4, bytes := [(1, 7)] }
/-- Way 1 locked over line 20 alone. -/
def lockState : State := ((mccState 1).wf MCC_LOCKk_BASE_LINE 20 0 1).wbit MCC_STATUS_LOCKED 1 true
theorem witness_TheMetadataCacheServesItsWindow :
    ((mccState 1).inWindow 384 8 = true ∧ (mccState 1).inWindow 0x200000 8 = false ∧ 0x200000 + 8 ≤ (mccState 1).dataEnd ∧ (mccState 1).mcState = 1 ∧ unitsOf 128 384 8 = [3] ∧ (mccState 1).mcWay 3 = some 2)
    ∧ (unitsOf 128 512 8 = [4] ∧ (mccState 1).mcWay 4 = none ∧ (mccState 1).mcc.fills = [] ∧ (mccState 1).mcVictim 4 = some 0 ∧ (mccState 1).mcc.merge = [] ∧ (mccState 1).buf.err = [] ∧ (mccState 1).buf.poison = [])
    ∧ (({ (mccState 1) with mcc.fills := [oneFill] } : State).mcc.fills = [oneFill] ∧ (mccState 1).mcc.waits = [] ∧ ({ (mccState 1) with mcc.merge := [oneMerge] } : State).mcc.merge = [oneMerge])
    ∧ ((mccState 4).mcState = 4 ∧ (mccState 2).mcState = 2 ∧ (mccState 0).mcState = 0 ∧ (mccState 3).mcState = 3 ∧ (mccState 1).mcc.inv = none)
    ∧ (lockState.rb MCC_LOCKk_BASE_EN 0 1 = false ∧ lockState.winBase ≤ 128 * lockState.rf MCC_LOCKk_BASE_LINE 0 1 ∧ lockState.rf MCC_LOCKk_SIZE_LINES 0 1 = 0 ∧ lockState.rbit MCC_STATUS_LOCKED 1 = true
      ∧ 128 * (lockState.rf MCC_LOCKk_BASE_LINE 0 1 + max 1 (lockState.rf MCC_LOCKk_SIZE_LINES 0 1)) ≤ lockState.winBase + lockState.winSize ∧ lockState.mcWay 20 = none)
    ∧ ((lockState.wb MCC_LOCKk_BASE_EN true 0 1).rb MCC_LOCKk_BASE_EN 0 1 = true ∧ ({ lockState with odRun := [(odKey 0xC050 1, .num 0x200000), (odKey 0xC050 2, .num 0x100000)] } : State).winBase = 0x200000) := by
  decide +kernel

/-! DmaRunsDescriptors -/

def oneDesc (op : Nat) : Desc :=
  { index := 0, opcode := op, flags := 0, port := 0, pasid := none, tag := 0, addrA := 0x1000, addrB := 0x2000000, length := 4096, list := [(0x1000, 4096)], bad := false, lost := false, owner := none }
def oneRun (l : List (Nat × Nat)) : RunDesc := { d := { oneDesc 1 with list := l }, pos := 0, bursts := [], parks := 0, row := 0, rowPage := 0, abort := 0, err := none, ended := false }
/-- Engine 1 on, channel 3 of it enabled with one descriptor queued at the head of the run list. -/
def dmaState (op : Nat) : State :=
  { (((State.reset.wb DE_CTRL_EN true 1).wb CH_CFG_EN true 1 3).wf CH_DQ_TAIL_INDEX 1 1 3) with
      dch := [(19, { DmaCh.reset with q := [oneDesc op] })], eng := [(1, { Engine.reset with runs := [19] })] }
/-- Channel c of engine 1 runs, or has run, a read. -/
def dmaRun (c : Nat) (x : Option RunDesc) (l : List RunDesc) : State :=
  { (State.reset.wb DE_CTRL_EN true 1) with dch := [(16 + c, { DmaCh.reset with run := x, issued := l })], eng := [(1, { Engine.reset with running := if x.isSome then some (16 + c) else none })] }
theorem witness_DmaRunsDescriptors :
    (((dmaState 1).en 1).retired = false ∧ ((dmaState 1).en 1).running = none ∧ (dmaState 1).rb DE_CTRL_EN 1 = true ∧ ((dmaState 1).en 1).runs = [19] ∧ ((dmaState 1).dc 19).q = [oneDesc 1]
      ∧ (dmaState 1).chEn 19 = true ∧ (dmaState 1).dqCount 19 = 1 ∧ (dmaState 1).slotFree 19 = true ∧ (dmaState 1).descBad (oneDesc 1) = false ∧ (dmaState 1).descBad { oneDesc 1 with bad := true } = true
      ∧ State.reset.chState 30 = 0 ∧ (State.reset.wb DE_CTRL_EN false 1).rb DE_CTRL_EN 1 = false)
    ∧ ((let s : State := { ((dmaState 1).wf CH_STATUS_STATE 1 1 3) with eng := [] }
        s.chState 19 = 1 ∧ s.engOf 19 = 1 ∧ (s.en 1).runs.contains 19 = false ∧ (s.en 1).running ≠ some 19 ∧ s.dqCount 19 ≠ 0))
    ∧ (let x := oneRun [(0x1000, 4096)]
       let s := dmaRun 3 (some x) []
       (s.en 1).running = some 19 ∧ s.nextBurst x = some (0x1000, 512) ∧ x.d.inside = false ∧ x.d.toHost = false ∧ (s.prt 0).ats = false ∧ s.rf DE_OUTSTANDING_READS 1 < 64 ∧ x.pos + 512 < x.d.length
         ∧ s.nextBurst (oneRun [(0x1000, 0)]) = some (0x1000, 0) ∧ (s.wf DE_OUTSTANDING_READS 64 1).rf DE_OUTSTANDING_READS 1 = 64)
    ∧ (let x := { oneRun [(0x1000, 4096)] with bursts := [(0, 128)], pos := 128 }
       let s := dmaRun 3 (some x) []
       (s.dc 19).issued = [] ∧ (s.dc 19).run = some x ∧ s.engOf 19 = 1 ∧ s.inWindow 0x2000000 128 = false ∧ 0x2000000 + 128 ≤ s.dataEnd)
    ∧ (let x := { oneRun [(0x1000, 4096)] with pos := 4096, ended := true }
       let s := dmaRun 14 none [x]
       (s.dc 30).issued = [x] ∧ s.chState 30 ≠ 6 ∧ bitOf ({ oneDesc 1 with flags := 1 } : Desc).flags 0 = true) := by decide +kernel

/-! DmaAbortsFaultsAndTranslations -/

def onePage (g : Option Nat) : PageReq := { group := g, port := 0, pasid := none, page := 5, write := false, who := [.chan 19] }
/-- Channel 3 of engine 1 parked on page 5 of port 0, with requests enabled there. -/
def parkedState (g : Option Nat) : State :=
  { ((dmaRun 3 (some (oneRun [(0x1000, 4096)])) []).wf CH_STATUS_STATE 4 1 3) with
      eng := [], port := [(0, { Port.reset with pri := true, alloc := 4 })], dtu.pri := [onePage g], dtu.ats := [(0, none, 7)] }
theorem witness_DmaAbortsFaultsAndTranslations :
    (State.reset.rf DE_ABORT_CHANNEL 1 < 14 ∧ (State.reset.wf DE_ABORT_CHANNEL 14 1).rf DE_ABORT_CHANNEL 1 = 14 ∧ State.reset.rf DE_ABORT_STATUS_RESULT 1 ≠ 1 ∧ State.reset.dqCount 30 = 0
      ∧ ((dmaRun 14 none [oneRun [(0x1000, 4096)]]).dc 30).issued = [oneRun [(0x1000, 4096)]] ∧ (oneRun []).d.index = State.reset.rf DE_ABORT_INDEX 1 ∧ 14 ≤ 30 % 16 ∧ 19 % 16 < 14)
    ∧ ((State.reset.en 1).retired = false ∧ (State.reset.en 2).retired = false ∧ ((State.reset.engineOut 1).en 1).retired = true ∧ ((State.reset.engineOut 1).en 1).handed = false
      ∧ ∀ k, k < 4 → k ≠ 1 → ((((State.reset.engineOut 0).engineOut 2).engineOut 3).en k).retired = true)
    ∧ (((0, none, 7) : Nat × Option Nat × Nat) ∈ (parkedState none).dtu.ats ∧ ((0, none, 8) : Nat × Option Nat × Nat) ∉ (parkedState none).dtu.ats ∧ (∀ k, k < 4 → ((parkedState none).en k).running = none)
      ∧ State.reset.dch = [] ∧ State.reset.dtu.inval = [] ∧ State.reset.dtu.pri = [])
    ∧ ((parkedState none).dtu.pri = [onePage none] ∧ (parkedState none).priUsable 0 = true ∧ 1 ≤ ((parkedState none).prt 0).alloc ∧ (parkedState (some 3)).dtu.pri = [onePage (some 3)]
      ∧ ((parkedState (some 3)).dc 19).run = some (oneRun [(0x1000, 4096)]) ∧ (parkedState (some 3)).chState 19 = 4 ∧ (parkedState (some 3)).engOf 19 = 1)
    ∧ (State.reset.dom 14 ≠ 3 ∧ (State.reset.setDom 14 3).dom 14 = 3 ∧ ((State.reset.setDom 14 3).modPrt 0 (fun x => { x with perst := false })).pwr.bootDone = false
      ∧ (((State.reset.setDom 14 3).modPrt 0 (fun x => { x with perst := false })).prt 0).perst = false) := by decide +kernel

/-! NvmeAdminCommands -/

/-- Port 0 enabled with its admin queue and one I/O queue pair; queue i holds one command. -/
def nvPort (i : Nat) : Port :=
  let p := Port.reset
  { p with linkUp := true, perst := false, en := true, rdy := true, cq := [(0, { NvCq.none with size := 4 }), (1, { NvCq.none with size := 4 })],
           sq := [(0, { NvSq.none with size := 4, tail := if i = 0 then 1 else 0 }), (1, { NvSq.none with size := 4, cq := 1, tail := if i = 1 then 1 else 0 })] }
def nvState (i : Nat) : State := { (State.reset.wf SYS_MODE_MODE 2) with pwr.ready := true, port := [(0, nvPort i)] }
/-- The same after the fetch of its admin command. -/
def nvAfter (s : State) : State :=
  match s.nextTurn with
  | some (t, p) => (((t.modSq 0 0 (fun x => { x with head := (x.head + 1) % max 1 x.size })).modCq 0 0 (fun x => { x with credits := x.credits + 1 })).turnCount p)
  | none => s
theorem witness_NvmeAdminCommands :
    ((nvState 0).nextTurn.any (fun x => decide (x.2 = nvPart 0 0)) = true ∧ (nvState 0).sec.sw = none ∧ (nvAfter (nvState 0)).mode ≠ 3 ∧ (nvAfter (nvState 0)).purge = none)
    ∧ (((nvAfter (nvState 0)).nvCq 0 7).size = 0 ∧ ((nvAfter (nvState 0)).nvCq 0 1).size ≠ 0 ∧ ((nvAfter (nvState 0)).nvSq 0 7).size = 0 ∧ ((nvAfter (nvState 0)).nvSq 0 1).size ≠ 0
      ∧ ((nvAfter (nvState 0)).prt 0).sq.any (fun p => p.2.cq == 1 && p.2.size != 0) = true ∧ ((nvAfter (nvState 0)).prt 0).aer = [] ∧ ((nvAfter (nvState 0)).prt 0).resvLog = [])
    ∧ (let s : State := (nvState 0).modPrt 0 (fun p => { p with aer := [1, 2, 3, 4], sq := [(0, { NvSq.none with size := 4, tail := 1 })] })
       4 ≤ ((nvAfter s).prt 0).aer.length ∧ ((nvAfter s).prt 0).sq.any (fun p => p.2.cq == 1 && p.2.size != 0) = false ∧ ((nvAfter s).nvCq 0 1).size ≠ 0)
    ∧ (({ nvState 0 with purge := some (nvPart 0 0, 5) } : State).purge = some (nvPart 0 0, 5) ∧ (nvState 0).dirty = [] ∧ (nvState 0).updates = [] ∧ State.reset.purge = none) := by decide +kernel

/-! NvmeIoCommandsAndReservations -/

/-- A state whose namespaces are ready, with a command in I/O queue 1 of port 0; the reservation of namespace 1 as given. -/
def resvState (r : Resv) : State := { (nvState 1) with resv := [(0, r)] }
def oneReg : Resv := { Resv.none with regs := [{ host := 2 ^ 128, ctrl := 1, key := 9 }] }
theorem witness_NvmeIoCommandsAndReservations :
    ((nvState 1).nextTurn.any (fun x => decide (x.2 = nvPart 0 1) && decide (x.1.cmds = []) && (x.1.admitCmd ((nvState 1).nvCmd 0 1 5 .read 1 0 0 false (some [])) true (x.1.hostOf 0)).2) = true ∧ (nvState 1).notReady = false ∧ (nvState 1).nsidValid 1 = true)
    ∧ (((resvState Resv.none).resvOf 0).keyOf ((resvState Resv.none).hostOf 0) = none ∧ ((resvState oneReg).resvOf 0).keyOf ((resvState oneReg).hostOf 0) = some 9
      ∧ ((resvState oneReg).resvOf 0).regs.length < 32 ∧ ((resvState oneReg).resvOf 0).holder = none)
    ∧ (let s := resvState { oneReg with holder := some (2 ^ 128), type := 3 }
       (s.resvOf 0).holder = some (s.hostOf 0) ∧ (s.resvOf 0).type = 3)
    ∧ (let s : State := { (nvState 1) with pwr.ready := false }
       s.nextTurn.any (fun x => decide (x.2 = nvPart 0 1) && x.1.notReady) = true)
    ∧ ((nvState 1).nextTurn.any (fun x => !(x.1.admitCmd { (nvState 1).nvCmd 0 1 5 .write 1 0 0 false (some [(0, 4096)]) with pool := 3 } true (x.1.hostOf 0)).2) = true) := by decide +kernel

/-! NvmeQueuesAndPortResets -/

theorem witness_NvmeQueuesAndPortResets :
    (((nvState 1).prt 0).en = true ∧ 3 < ((nvState 1).nvSq 0 1).size ∧ ((nvState 1).nvSq 0 9).size ≤ 0 ∧ (State.reset.prt 0).en = false)
    ∧ (let s : State := (nvState 1).modCq 0 1 (fun c => { c with tail := 3, head := 1 })
       (s.nvCq 0 1).holdback = [] ∧ 2 < (s.nvCq 0 1).size ∧ (s.nvCq 0 1).head < 2 * (s.nvCq 0 1).size ∧ (1 : Nat) = ((s.nvCq 0 1).size + 2 - (s.nvCq 0 1).head % (s.nvCq 0 1).size) % (s.nvCq 0 1).size ∧ 1 ≤ (s.nvCq 0 1).used)
    ∧ (let s : State := { State.reset with port := [(0, { Port.reset with linkUp := true })], pwr.startStep := 8 }
       (s.prt 0).linkUp = true ∧ (s.prt 0).en = false ∧ (s.prt 0).cfs = false ∧ 8 ≤ s.pwr.startStep ∧ (State.reset.prt 0).linkUp = false) := by decide +kernel

/-! EntriesReadBack -/

theorem witness_EntriesReadBack :
    listSum (operandList [((7 : BitVec 64), (8192 : BitVec 32)), (9, 4096)]) = 4096 * 3 ∧ (2 : Nat) + (3 + 15) / 16 + 1 ≤ 16 ∧ (1 : BitVec 8).toNat ≠ 0
    ∧ (parseEntry (moveEntry 2 true 1 5 6 3 [(7, 8192), (9, 4096)])).map (fun e => [e.opcode, e.units, e.nsid, e.cid, e.lba, e.count]) = some [2, 4, 1, 5, 6, 3] := by decide +kernel

/-! RingEntriesAreFetchedAndFinished -/

/-- Ring 5 ACTIVE with 64 units, its host memory at 0x10000, completion ring 3 with 64 entries; TAIL at t. -/
def ringState (t : Nat) : State :=
  { (State.reset.wf SYS_MODE_MODE 2) with
      pwr.ready := true, sr := [(5, { SubRing.free with st := 1, base := 0x10000, size := 6, cr := 3, tail := t, weight := 1, burst := 1 })], cr := [(3, { CompRing.free with st := 1, size := 6 })] }
/-- HEAD two units before the ring's end. -/
def ringEnd : State := { ringState 0 with sr := [(5, { SubRing.free with st := 1, base := 0x10000, size := 6, cr := 3, head := 62, tail := 0, weight := 1, burst := 1, release := [35] })] }
def doneCmd : Cmd := { drawCmd with origin := 5, inPail := [0], installed := [0] }
theorem witness_RingEntriesAreFetchedAndFinished :
    ((State.reset.nextTurn.isNone = true) ∧ (ringState 4).nextTurn.any (fun x => decide (x.2 = 5) && decide ((x.1.sring 5).covered = 4) && decide ((x.1.sring 5).head + 4 ≤ (x.1.sring 5).n)
        && decide ((x.1.sring 5).copies = []) && decide (attrPasid (x.1.sring 5).attr = none)) = true)
    ∧ (ringEnd.nextTurn.any (fun x => decide (x.2 = 5) && decide ((x.1.sring 5).covered = 2) && decide ((x.1.sring 5).head + (1 + 1) = (x.1.sring 5).n)) = true ∧ (ringEnd.sring 5).release = [35]
      ∧ (ringEnd.sring 5).held = false)
    ∧ ((parseEntry (entryBytes 0x03 1 false 1 9 0 [])).isSome = true ∧ entryUnits (entryBytes 0x03 1 false 1 9 0 []) = 1 ∧ entryOwn (List.replicate 16 0) = false
      ∧ (ringState 4).srEligible 5 = true ∧ ((ringState 4).sring 5).n = 64 ∧ (ringState 4).srEligible 6 = false ∧ (64 + 3 - 0) % 64 < ((ringState 4).sring 5).covered)
    ∧ (let s : State := { ringState 0 with cmds := [doneCmd] }
       s.cmd 5 = some doneCmd ∧ doneCmd.origin < nSR ∧ s.cmdDone doneCmd = true ∧ s.crTakes 3 = true ∧ s.cmdDone { doneCmd with installed := [] } = false ∧ (s.cring 3).used < (s.cring 3).n
         ∧ s.mayInstall { doneCmd with installed := [] } 0 = true ∧ s.mayInstall doneCmd 0 = false)
    ∧ (let s : State := { ringState 0 with cr := [(3, { CompRing.free with st := 1, size := 6, tail := 64 })] }
       (s.cring 3).n ≤ (s.cring 3).used ∧ (s.cring 3).wait = false) := by decide +kernel

/-! RingDoorbellsAndControls -/

/-- Ring set 0 selects ring 9 with good staged values, bound to completion ring 3. -/
def rqState (r : Nat) : State := (((ringState 0).wf RQ_SEL_RING r).wf RQ_CFG_SIZE_LOG2 7).wf RQ_BIND_TARGET 3
/-- Actuator 0 follows cylinder 9 with head 3 mapped to slot 2; a write waits for it. -/
def reachCmd : SecCmd := { readCmd with write := true, act := 0, head := 3, cyl := 9 }
def reachState : State :=
  let s : State := (State.reset.setAct 0 4).modSv 0 (fun v => { v with seek := some { cyl := 9, heads := [(3, 0)], writes := [], anchor := 0, step := 3, good := 0, repeated := false } })
  { s with pa := { s.pa with head := [(2, 3)] }, sched := [reachCmd] }
theorem witness_RingDoorbellsAndControls :
    (((ringState 4).sring 5).st = 1 ∧ 9 < ((ringState 4).sring 5).n ∧ ((ringState 4).sring 6).st = 0 ∧ ((ringState 4).cring 4).st = 0 ∧ ((ringState 4).cring 3).st = 1 ∧ ((ringState 4).cring 3).n ≤ 64)
    ∧ (let s : State := { ringState 0 with cr := [(3, { CompRing.free with st := 1, size := 6, tail := 5, signal := true })] }
       (2 * (s.cring 3).n + 4 - (s.cring 3).head) % (2 * (s.cring 3).n) ≤ (s.cring 3).used ∧ (s.cring 3).holdback = [] ∧ (s.cring 3).signal = true ∧ ((ringState 4).cring 3).signal = false)
    ∧ ((rqState 9).rqIsCr 0 = false ∧ ((rqState 9).sring ((rqState 9).rqRing 0)).st = 0 ∧ (rqState 9).rqParamBad 0 = false ∧ ((rqState 9).cring ((rqState 9).rf RQ_BIND_TARGET 0 0)).st = 1
      ∧ ((rqState 5).sring ((rqState 5).rqRing 0)).st = 1 ∧ ((rqState 9).wf RQ_CFG_SIZE_LOG2 5).rqParamBad 0 = true ∧ (((rqState 9).wf RQ_BIND_TARGET 4).cring 4).st ≠ 1 ∧ attrPrefetch ((rqState 5).rf RQ_ATTR_ATTR 0 0) ≤ 8)
    ∧ (let s : State := (rqState 5).modSr 5 (fun r => { r with st := 3, code := 4 })
       (s.sring (s.rqRing 0)).st = 3 ∧ (s.sring (s.rqRing 0)).code ≠ 0x0C ∧ s.rb RQ_CTRL_SKIP 0 0 = false)
    ∧ (let s : State := ((rqState 3).wb RQ_SEL_CR true)
       s.rqIsCr 0 = true ∧ s.rqRing 0 < nCR ∧ s.sr.any (fun p => p.2.cr == s.rqRing 0 && p.2.st != 0) = true)
    ∧ (reachState.sched = [reachCmd] ∧ reachState.act 0 = 4 ∧ reachState.headChan 0 3 = some 2 ∧ reachState.slotUsable 2 = true ∧ (reachState.ch 2).fifo.length < 8) := by decide +kernel

/-! ObjectsCompactLoadAndReload -/

/-- The object service with 8 stripes and 16 buckets; the index loaded or not. -/
def objState0 (l : Bool) : State := { State.reset with odRun := [(odKey 0xC070 1, .num 8), (odKey 0xC070 2, .num 4), (odKey 0xC071 1, .num 0x200000)], obj.loaded := l, pwr.startStep := 11 }
def objCmd0 : ObjCmd := { space := 1, key := [7], oflags := 2, valueLen := 0, arg := 5, pasid := none, extents := [], checked := false, stage := 0 }
def getCmd : Cmd := { drawCmd with op := .get, obj := some objCmd0 }
def slot0 : ObjSlot := { space := 1, key := [7], extents := [], valueLen := 0, gen := 4 }
theorem witness_ObjectsCompactLoadAndReload :
    ((objState0 false).objStripes ≠ 0 ∧ ({ State.reset with odRun := [(odKey 0xC070 1, .num 0)] } : State).objStripes = 0 ∧ (objState0 true).objState = 2 ∧ (objState0 true).objDenied .get objCmd0 = false ∧ (objState0 true).objDenied .get { objCmd0 with space := 2 } = true
      ∧ ((objState0 true).keySlot ((objState0 true).bucketOf 1 [7]) 1 [7]).isNone = true ∧ getCmd.op = .get)
    ∧ (let s : State := { objState0 true with obj.slots := [(32 * (objState0 true).bucketOf 1 [7], slot0)] }
       s.keySlot (s.bucketOf 1 [7]) 1 [7] = some (0, slot0) ∧ bitOf objCmd0.oflags 1 = true ∧ slot0.gen % 2 ^ 32 ≠ objCmd0.arg)
    ∧ ((objState0 true).compactStripe = none ∧ ({ objState0 true with obj.stripes := [(3, { live := 0, st := 2 })] } : State).compactStripe.isSome = decide (0 < (objState0 true).par 0xC070 4 * (objState0 true).geoD)
      ∧ (objState0 true).obj.pend = [] ∧ 11 ≤ (objState0 false).pwr.startStep ∧ (objState0 true).bgHeld = false) := by decide +kernel

/-! RegisterAccesses -/

/-- After reset, every domain ON. -/
def regState : State := State.reset.setDoms 0 (List.range 24)
theorem witness_RegisterAccesses :
    (tabFind regState.crossing 3 = none ∧ (3 : Nat) ≠ 4 ∧ regState.area18 0x000010 = .control 0 0x10 ∧ regState.area18 0x9FF000 = .unassigned ∧ regState.dom domSYS = 3
      ∧ regState.area18 (0xB00000 + 4) = .bits 0 0 1 ∧ regState.area18 0xA00004 = .masked 0 0 1)
    ∧ regState.area18 0x022008 = .block 0x22008 domSYS ∧ regState.wrEn 3 (0x22008 / 0x200000) = true ∧ regState.domRising domSYS = false ∧ regState.domOff 0x22008 domSYS = false
      ∧ regState.commitBusy = false ∧ ((fieldsAt 3 0x22008).map (fun p => p.1.key p.2.1 p.2.2)).Nodup ∧ (fieldsAt 3 0x22008).map (fun p => (p.1, p.2)) = [(MBX_DATA_DATA, 3, 0)]
    ∧ (regState.wf REGION_WR_EN_REQ 0xF7).wrEn 3 0 = false
    ∧ (State.reset.dom domMGT ≠ 3 ∧ State.reset.pwr.kind ≠ .exit ∧ State.reset.area18 0x17000 = .block 0x17000 domMGT)
    ∧ (State.reset.wf CFG_STATUS_STATE 1).commitBusy = true ∧ (fieldsAt 3 0x870004).any (fun p => p.1.acc == .rwc) = true := by decide +kernel

/-! WindowsMailboxAndCommit -/

theorem witness_WindowsMailboxAndCommit :
    (regState.dom domSYS = 3 ∧ regState.wrEn 3 1 = true ∧ (regState.wf SYS_MODE_MODE 2).mode = modeService ∧ (regState.wf SYS_MODE_MODE 1).mode ≠ modeService
      ∧ ((regState.wf SYS_MODE_MODE 2).wf REGION_WR_EN_REQ 0xF7 1).wrEn 3 1 = false)
    ∧ (regState.rb MBX_STATUS_BUSY 3 = false ∧ ((regState.wf MBX_CTRL_WID 1 3).mbxResult 3 1 true false) = 0 ∧ (regState.wb MBX_STATUS_BUSY true 3).rb MBX_STATUS_BUSY 3 = true)
    ∧ (regState.commitBusy = false ∧ (regState.wf CFG_STATUS_STATE 1).commitBusy = true ∧ (regState.wf CFG_STATUS_STATE 1).commitBoot = false ∧ regState.rb CFG_CTRL_CRC_REQ = true
      ∧ (regState.wb CFG_CTRL_CRC_REQ false).rb CFG_CTRL_CRC_REQ = false ∧ regState.odGet 0xC050 1 = regState.odInForce 0xC050 1 ∧ regState.odGet 0xC050 2 = regState.odInForce 0xC050 2
      ∧ (regState.odRun.map Prod.fst).Nodup ∧ isRwc 0x5010 1 = true ∧ isRwc 0x2020 7 = false) := by decide +kernel

/-! DictionaryAccesses -/

/-- All domains ON, the mode m, HOST_ROLE CONFIGURE. -/
def odState (m : Nat) : State := (regState.wf SYS_MODE_MODE m).odPut 0xB001 1 (.num 3)
theorem witness_DictionaryAccesses :
    (State.reset.odRuns = false ∧ (odState 1).odRuns = true ∧ (odState 1).sec.sw = none ∧ formatEntry 0x5010 1 = false ∧ odHighest 0x0FFF = none ∧ odHighest 0x5010 ≠ none
      ∧ (odState 1).odEntry 0x5010 200 = none ∧ (odState 1).srcRole 7 = 0 ∧ (odState 1).srcRole 0 = 3)
    ∧ (((odState 1).odEntry 0x5010 1).any (fun r => r.acc == .rwc && decide (odNeedRole 0x5010 r true ≤ 3) && !r.perSrc && r.ty.isNum && decide (r.ty.len ≠ 3)) = true
      ∧ ((odState 1).odEntry 0x2000 1).any (fun r => r.acc == .ro || r.acc == .const) = true ∧ ((odState 2).odEntry 0x2020 7).any (fun r => r.acc == .rws || r.acc == .rw) = true
      ∧ ((odState 1).wf CFG_STATUS_STATE 1).commitBusy = true)
    ∧ ((odState 1).odWriteStatus 3 0x5010 1 (leBytes ((odRow 0x5010 1).map (fun r => r.ty.len) |>.getD 0) 9000) false = 0 ∧ (odState 1).odWriteStatus 3 0x2001 1 [1] false = 0
      ∧ (odState 1).odWriteStatus 3 0x2020 2 [1] false = 0 ∧ (odState 1).odWriteStatus 3 0xB003 1 [1] false = 0 ∧ (odState 1).odWriteStatus 3 0x2001 1 [9] false ≠ 0)
    ∧ (((odState 1).regRead 2 0x022020 4).cause = 0 ∧ ((odState 1).regRead 2 0x022020 4).waits = false ∧ ((odState 1).regRead 2 0x9FF000 4).cause ≠ 0
      ∧ ((odState 1).odPut 0xB001 1 (.num 1)).srcRole 0 = 1 ∧ ((odState 1).regDo 2 0x214010 4 5).cause = 0) := by decide +kernel

/-! HostPathAndBuffers -/

/-- Bank 3 asks for entry 0x1000 of subindex 1, FIRST set. -/
def hostState : State := (((odState 1).wf OD_ADDR_INDEX 0x1000 3).wf OD_ADDR_SUBINDEX 1 3).wb OD_CTRL_FIRST true 3
def oneAsm (src : Nat) : Asm := { src := src, write := true, ix := 0x6050, sub := 2, total := 10, data := [1, 2], parts := 1 }
def oneSession : Session :=
  { number := 7, key := 1, role := 3, rxSeq := 4, txSeq := 2, lastResp := none, macFails := [], queue := [], outstanding := none, retries := 0, evSeq := 9, lost := 0 }
theorem witness_HostPathAndBuffers :
    (hostState.rb OD_STATUS_BUSY 3 = false ∧ hostState.odRuns = true ∧ hostState.sec.sw = none ∧ hostState.rb OD_CTRL_FIRST 3 = true ∧ hostState.rf OD_OFFSET_OFFSET 3 = 0
      ∧ (hostState.wf OD_OFFSET_OFFSET 4 3).rf OD_OFFSET_OFFSET 3 ≠ 0 ∧ hostState.asmOf (hostSrc 3) = none ∧ (hostState.wb OD_STATUS_BUSY true 3).rb OD_STATUS_BUSY 3 = true)
    ∧ ((((hostState.wf OD_CTRL_OP 0 3).wb OD_STATUS_DONE false 3).odReadReq (hostSrc 3) 0x1000 1 false false (.host 3)).2.any (fun p => decide (p.1 = 0 ∧ p.2.length ≤ 1024)) = true)
    ∧ (hostState.wf OD_LEN_LEN 2000 3).rf OD_LEN_LEN 3 = 2000 ∧ hostState.rf OD_LEN_LEN 3 ≤ 1024 ∧ (hostState.wb OD_CTRL_LAST true 3).rb OD_CTRL_LAST 3 = true
    ∧ (((hostState.wf OD_CTRL_OP 1 3).wb OD_STATUS_DONE false 3).odWriteReq (hostSrc 3) 0x1000 1 [] (.host 3)).2 = some (4, [])
    ∧ hostState.odPre (hostState.srcRole (hostSrc 3)) 0x1000 1 false false = 0 ∧ hostState.odPost 0x1000 1 false = 0
    ∧ (let s : State := { hostState with asm := [(1, oneAsm 9), (2, oneAsm 3)], zl.sessions := [(1, oneSession)] }
       tabFind s.asm 0 = none ∧ tabFind s.asm 1 = some (oneAsm 9) ∧ tabFind s.zl.sessions (9 - 8) = some oneSession ∧ tabFind s.asm 2 = some (oneAsm 3)) := by decide +kernel

/-! ZaleneSessions -/

/-- The link on, management key 1 enrolled for OPERATE. -/
def linkState : State := { odState 1 with sec.mg := [(1, { st := .enrolled, key := 5, role := 2 })] }
theorem witness_ZaleneSessions :
    (State.reset.zlOn = false ∧ linkState.zlOn = true ∧ linkState.zl.announce = 0 ∧ (linkState.mgSlot 1).st = .enrolled ∧ (linkState.mgSlot 2).st ≠ .enrolled ∧ linkState.zl.sessions.length < 8
      ∧ linkState.zl.handshakes.length ≤ 2 ∧ tabFind linkState.zl.handshakes 0 = none ∧ tabFind linkState.zl.sessions 0 = none ∧ linkState.zlFind 7 = none)
    ∧ (let s : State := { linkState with zl.handshakes := [(0, { number := 9, key := 1, role := 2 })], zl.sessions := [(1, oneSession)] }
       s.zl.handshakes.find? (fun p => p.2.number == 9) = some (0, { number := 9, key := 1, role := 2 }) ∧ s.zlFind 7 = some (1, oneSession) ∧ tabFind s.zl.sessions 1 = some oneSession
         ∧ (oneSession.macFails.filter (fun t => decide (s.coreTime.toNat < t + 1000 * cyclesPerMs)) ++ [s.coreTime.toNat]).length < 16)
    ∧ (State.reset.odPut 0x1010 10 (.num 5)).par 0x1010 10 ≠ 5 ∧ (State.reset.par 0x1010 10 = 0) ∧ ({ State.reset with odRun := [(odKey 0x1010 10, .num 5)] } : State).par 0x1010 10 = 5
    ∧ (List.replicate 15 0 ++ [0]).length = 16 ∧ (List.replicate 8 (0, oneSession)).length = 8 := by decide +kernel

/-! ZaleneRequests -/

/-- Session 7 open in slot 1 with role CONFIGURE. -/
def sessState (x : Session) (l : List (Nat × Asm)) : State := { linkState with zl.sessions := [(1, x)], asm := l }
def anEvent : Rec := ⟨1, 0, 1, false, false, 5, 0, 0, 0, 0, [], 0, 0, 0, 0, 0, 0⟩
theorem witness_ZaleneRequests :
    (let s := sessState oneSession []
     s.odRuns = true ∧ s.sec.sw = none ∧ s.zlFind 7 = some (1, oneSession) ∧ tabFind s.zl.sessions 1 = some oneSession ∧ s.zlFind 8 = none ∧ oneSession.rxSeq < 5 ∧ s.asmOf 9 = none
      ∧ ((s.putSession 1 { oneSession with rxSeq := 5, lastResp := none }).odReadReq 9 0x1000 1 false false (.zalene 1 0x20)).2.any (fun p => decide (p.1 = 0 ∧ p.2.length ≤ 1024)) = true
      ∧ ((s.putSession 1 { oneSession with rxSeq := 5, lastResp := none }).odWriteReq 9 0x1000 1 [] (.zalene 1 0x21)).2 = some (4, [])
      ∧ s.odPre 3 0x6050 2 true false = 0 ∧ (s.odEntry 0x1000 1).any (fun r => r.acc == .const) = true ∧ odHighest 0x5010 ≠ none ∧ s.odEntry 0x5010 1 ≠ none)
    ∧ ((sessState oneSession [(0, oneAsm 9)]).asmOf 9 = some (0, oneAsm 9) ∧ (oneAsm 9).data.length = 2 ∧ 2 + 4 < (oneAsm 9).total ∧ 2 + 8 = (oneAsm 9).total ∧ (oneAsm 9).parts < 3
      ∧ (oneAsm 9).write = true ∧ (sessState oneSession [(0, oneAsm 9)]).segTakes 7 = true ∧ (sessState oneSession []).odTakes 0x6050 2 = true)
    ∧ (let x : Session := { oneSession with queue := [anEvent] }
       x.queue = [anEvent] ∧ x.outstanding = none ∧ tabFind (sessState x []).zl.sessions (1 : Fin 8).val = some x ∧ (sessState x []).zlOn = true) := by decide +kernel

/-! FaultReportsAreCollected -/

def aFault (src cls : Nat) : FaultRec := State.reset.newFault src 0 cls 0 false
/-- Region SYS and its block 1 hold an active record of source src; its report waits for the chip. -/
def faultState (src cls : Nat) : State :=
  { regState with fc.block := [(1, aFault src cls)], fc.region := [(0, aFault src cls)], fc.up := [(0, .opened (aFault src cls))] }
def chipState (src cls : Nat) : State := { regState with fc.chip := some (aFault src cls), fc.up := [(0, .merge 9 1)] }
theorem witness_FaultReportsAreCollected :
    (tabFind regState.fc.block (0 * 128 + 1) = none ∧ tabFind regState.fc.region 0 = none ∧ regState.mrec.st ≠ 1 ∧ tabFind (faultState 5 1).fc.block (0 * 128 + 1) = some (aFault 5 1)
      ∧ (aFault 5 1).source ≠ 6 ∧ tabFind (faultState 5 1).fc.region 0 = some (aFault 5 1) ∧ tabFind (faultState 5 1).fc.block (0 * 128 + 2) = none)
    ∧ (takeUp 0 (faultState 5 1).fc.up = some (.opened (aFault 5 1), []) ∧ (faultState 5 1).fc.chip = none ∧ (aFault 5 1).cls ≤ 1 ∧ (aFault 5 2).cls = 2
      ∧ takeUp 1 (faultState 5 1).fc.up = none ∧ takeUp 0 (chipState 5 1).fc.up = some (.merge 9 1, []) ∧ (chipState 5 1).fc.chip = some (aFault 5 1))
    ∧ ((chipState 5 2).fc.chip = some (aFault 5 2) ∧ regState.fc.chip = none ∧ ¬ (srcRegion (srcId SYS 1 2) = MOT))
    ∧ ((regState.wf FC_FORCE_RESULT 1).rf FC_FORCE_RESULT = 1 ∧ regState.rf FC_FORCE_RESULT ≠ 1 ∧ (srcRow 0x1234).isSome = false ∧ (srcRow 0x1FC0).isSome = true
      ∧ (regState.wf FC_FORCE_SOURCE 0x1FC0).rf FC_FORCE_SOURCE = 0x1FC0 ∧ 2 < regState.classOf 0x1FC0 0 ∧ regState.mode ≠ modeTest ∧ (regState.wf SYS_MODE_MODE 1).mode = modeTest
      ∧ regState.rb FC_STATUS_FATAL = false ∧ (regState.wb FC_STATUS_FATAL true).rb FC_STATUS_FATAL = true) := by decide +kernel

/-! ChipFatalAndRestarts -/

/-- A C3 record of region SYS is active. -/
def c3State (rg src : Nat) : State := { regState with fc.chip := some (aFault src 3), fc.c3Regions := [rg] }
theorem witness_ChipFatalAndRestarts :
    (motState.rb FC_STATUS_FATAL = false ∧ (regState.wb FC_STATUS_FATAL true).rb FC_STATUS_FATAL = true ∧ srcRegion 0x1FC0 ≠ MOT)
    ∧ ((c3State 0 0x80).c3Waits 0 = true ∧ (c3State 0 0x80).c3Parked 0 = true ∧ regState.c3Waits 0 = false ∧ ((c3State 3 (srcId MOT 14 0)).c3Waits 3 = true ∧ (c3State 3 (srcId MOT 14 0)).c3Parked 3 = true)
      ∧ (c3State 3 0).sp = spSTOPPED ∧ ((c3State 3 0).spMode spRUN).sp = spRUN)
    ∧ (let s : State := { c3State 0 0x80 with fc.restarting := [0] }
       s.fc.restarting = [0] ∧ s.fc.c3Regions = [0] ∧ s.rf FC_STATUS_FATAL = 0 ∧ s.fc.chip = some (aFault 0x80 3))
    ∧ tabFind ({ regState with fc.restartEnd := [(0, 0)] } : State).fc.restartEnd 0 = some 0 ∧ regState.coreTime.toNat < 0 + 1000 * cyclesPerMs ∧ regState.entryRegions.contains 0 = false := by decide +kernel

/-! InputsAndWatchdog -/

theorem witness_InputsAndWatchdog :
    (regState.rbit IF_STATUS_CHATTER 3 = false ∧ (regState.wbit IF_STATUS_CHATTER 3 true).rbit IF_STATUS_CHATTER 3 = true ∧ regState.rbit IF_STATUS_LEVEL 3 = false
      ∧ (regState.wbit IF_STATUS_LEVEL 3 true).rbit IF_STATUS_LEVEL 3 = true ∧ regState.rbit IF_STATUS_STUCK 3 = false ∧ (regState.wbit IF_STATUS_STUCK 3 true).rbit IF_STATUS_STUCK 3 = true
      ∧ (regState.wbit IF_STATUS_LEVEL 0 true).rbit IF_STATUS_LEVEL 0 = true ∧ (regState.wbit IF_STATUS_LEVEL 1 true).rbit IF_STATUS_LEVEL 1 = true)
    ∧ (regState.rb IF_STATUS_TEMP_OOW = false ∧ (regState.wb IF_STATUS_TEMP_OOW true).rb IF_STATUS_TEMP_OOW = true ∧ (regState.wf SYS_MODE_MODE 2).mode = modeService ∧ regState.mode ≠ modeService)
    ∧ ((regState.wb WD_CTRL_EN false).rb WD_CTRL_EN = false ∧ (regState.wb WD_CTRL_EN true).rb WD_CTRL_EN = true ∧ regState.classOf 0x1FC0 0 ≤ 4) := by decide +kernel

/-! PowerEntriesAndWakes -/

/-- Every domain ON after start-up, state st, an entry or exit of the given kind to pend with stage k. -/
def powerState (st pend k : Nat) (kind : PwrKind) (l : List Participant) : State :=
  { ((regState.wf PWR_STATUS_STATE st).wf PWR_STATUS_PEND pend).wf PWR_STATUS_STAGE k with pwr.kind := kind, pwr.startStep := 12, pwr.waiting := l }
theorem witness_PowerEntriesAndWakes :
    ((powerState 1 0 0 .idle []).pwr.kind = .idle ∧ (powerState 1 0 0 .idle []).rf PWR_STATUS_STATE = 1 ∧ (powerState 0 3 0 .entry []).rf PWR_STATUS_PEND = 3 ∧ (powerState 0 3 0 .exit []).pwr.kind = .exit)
    ∧ (({ powerState 0 0 0 .idle [] with odRun := [(odKey 0x2020 3, .num 0)] } : State).par 0x2020 3 = 0 ∧ (powerState 0 0 0 .idle []).par 0x2020 3 ≠ 0 ∧ (powerState 0 0 0 .idle []).sectorsIdle = true)
    ∧ ((powerState 0 4 1 .forced []).stageParts 2 ≠ [] ∧ (powerState 0 4 1 .forced []).stageParts 1 = [] ∧ (powerState 0 4 1 .forced []).pwr.started = false ∧ (powerState 0 4 1 .forced []).rb PWR_STATUS_COMMITTED = false
      ∧ (powerState 0 4 5 .forced []).rf PWR_STATUS_STAGE = 5)
    ∧ ((powerState 0 1 1 .entry [.scheduler, .recorder]).ackOk .scheduler = true ∧ (powerState 0 1 1 .entry [.scheduler, .recorder]).pwr.waiting.erase .scheduler ≠ [] ∧ partUnbound .scheduler = false ∧ partUnbound .mce = true
      ∧ ((powerState 0 1 1 .entry [.scheduler]).modPrt 0 (fun p => { p with linkUp := true })).refusal .portA = some 2 ∧ (powerState 0 3 1 .entry [.spindle]).ackOk .spindle = true
      ∧ ((powerState 0 1 1 .entry [.mce]).wf RP_STATUS_STATE 1).ackOk .capture = false)
    ∧ ((wakeStates 0).contains 1 = true ∧ (wakeStates 2).contains 1 = false ∧ (wakeStates 1).contains 1 = true ∧ (powerState 1 0 0 .idle []).wakeOn 1 = false)
    ∧ ((powerState 0 1 1 .entry []).wb PWR_STATUS_COMMITTED true).rb PWR_STATUS_COMMITTED = true ∧ (powerState 0 1 1 .entry []).rf PWR_STATUS_COMMITTED = 0 ∧ (powerState 4 0 0 .idle []).rf PWR_STATUS_STATE = 4 := by decide +kernel

/-! ResetsClocksAndStartUp -/

def startState (k : Nat) : State := { regState with pwr.startStep := k, pwr.inReset := false, pwr.por := false }
theorem witness_ResetsClocksAndStartUp :
    (({ regState with pwr.por := false } : State).pwr.por = false ∧ ({ regState with pwr.inReset := true } : State).pwr.inReset = true ∧ (regState.wb CLK_STATUS_AON_SRC true).rb CLK_STATUS_AON_SRC = true
      ∧ regState.rbit CLK_STATUS_LOCK 2 = false ∧ (regState.wf CLK_STATUS_LOCK 15).rbit CLK_STATUS_LOCK 2 = true)
    ∧ ((startState 1).rb FC_STATUS_FATAL = false ∧ (startState 1).rf PWR_STATUS_STATE ≠ 4 ∧ (startState 4).mode ≠ modeService ∧ (startState 4).mode ≠ modeTest ∧ (startState 6).buf.filled = false
      ∧ (startState 8).spAdmitted = false ∧ (startState 9).sp ≠ spRUN ∧ ((List.range (startState 10).nAct).all (fun a => (startState 10).act a != acLOADING)) = true
      ∧ ((startState 8).wf MOD_ADMIT_STATE 2 0 4 |>.wf MOD_ADMIT_STATE 2 0 5).spAdmitted = true ∧ ((startState 7).wf CFG_STATUS_STATE 1).rf CFG_STATUS_STATE ≠ 0)
    ∧ ((startState 11).crossing = [] ∧ (startState 11).pwr.kind = .idle)
    ∧ (let s : State := { powerState 2 0 0 .exit [] with pwr.exitFrom := 2 }
       s.exitReady = true ∧ (s.setAct 1 acLOADING).exitReady = false)
    ∧ (let s : State := (powerState 0 3 5 .entry []).wb PWR_STATUS_COMMITTED true
       s.rb PWR_STATUS_COMMITTED = true ∧ s.rf PWR_STATUS_PEND = 3 ∧ s.pwr.pwrdisLater = false ∧ s.rb WAKE_STATUS_REPLAY = false) := by decide +kernel

/-! RecorderStagesAndFlushes -/

def recState (l : List (Bool × Rec)) (st : List Rec) (f : Freeze) (fl : Bool) : State := { regState with recd := { regState.recd with inbox := l, staged := st, freeze := f, flushing := fl } }
def minorRec : Rec := { anEvent with cls := 0 }
theorem witness_RecorderStagesAndFlushes :
    (minorRec.minor = true ∧ { anEvent with kind := 3 }.minor = false ∧ (recState [(false, minorRec)] [] .running false).recd.inbox = [(false, minorRec)] ∧ regState.recd.rate ≤ regState.par 0x9000 7
      ∧ regState.par 0x9000 7 < 2 ^ 32 ∧ regState.pwr.pfail = false)
    ∧ ((recState [] [anEvent] .freezing true).recd.flushing = true ∧ (recState [] [anEvent] .freezing true).recd.freeze ≠ .frozen ∧ regState.recd.blocked = false ∧ regState.recd.freeze = .running
      ∧ (recState [] [anEvent] .frozen true).recd.freeze = .frozen ∧ anEvent.seq < 16384 ∧ ([anEvent].map (fun r => r.seq)).Nodup)
    ∧ (regState.rcSlot (regState.rf RC_READ_AREA 3) (regState.rf RC_READ_INDEX 3) = none
      ∧ ({ regState with recd := { regState.recd with keep := [(0, anEvent)], cur := { regState.recd.cur with keepCount := 1 } } } : State).rcSlot 0 0 = some anEvent)
    ∧ (regState.indPresent 200 = false ∧ regState.indPresent 5 = true ∧ (regState.modHd 1 (fun x => { x with retired := true })).indRetired 5 = true ∧ regState.indRetired 0x87 = false ∧ regState.indOff 0x87 = true ∧ regState.indPresent 0x87 = true ∧ regState.bgHeld = false) := by decide +kernel

/-! RecorderClear -/

theorem witness_RecorderClear :
    (regState.mode ≠ modeService ∧ regState.recd.freeze = .running ∧ (regState.wf SYS_MODE_MODE 2).mode = modeService ∧ (recState [] [] .frozen false).recd.freeze ≠ .running)
    ∧ ((odState 1).odRuns = true ∧ (odState 1).sec.sw = none ∧ 2 ≤ (odState 1).srcRole 0 ∧ (odState 1).wrEn 2 SYS = true ∧ (odState 1).dom domSYS = 3 ∧ (odState 2).mode = modeService ∧ (odState 1).mode ≠ modeService)
    ∧ (tabFind regState.crossing 3 = none ∧ regState.wrEn 3 0 = true ∧ regState.fc.restarting = [] ∧ regState.rf RC_READ_AREA 3 = 0 ∧ regState.recd.cur.keepCount ≤ 0
      ∧ (regState.wf RC_READ_AREA 1 3).rf RC_READ_AREA 3 = 1 ∧ regState.recd.cur.wrapped = false ∧ regState.recd.cur.wrIdx ≤ 0) := by decide +kernel
/-- CMD = 3 in Service mode is answered MODE (R498), and outside it clears. -/
theorem test_clear_is_answered_mode_in_service :
    nextIs (exec (.dictionaryWrite 0 0x9000 9 [3]) (odState 2)) ((odState 2).emit (.od 0 6 [])) = true ∧ nextIs (exec (.registerWrite 3 0x014000 8 4) regState) regState.rcClear = true := by decide +kernel

/-! BitAliasWindow -/

theorem witness_BitAliasWindow :
    (3 : Fin 8).val ≠ 2 ∧ (regState.wf SYS_MODE_MODE 2).dom domSYS = 3 ∧ tabFind (regState.wf SYS_MODE_MODE 2).crossing 3 = none ∧ (regState.wf SYS_MODE_MODE 2).mode = modeService ∧ (regState.wf SYS_MODE_MODE 2).wrEn 3 4 = true
    ∧ (regState.wf SYS_MODE_MODE 2).area18 (0xB00000 + (4 * 0x8000 + 4 * 2) * 32 + 0 * 4) = .bits 4 8 0 ∧ (ctlFields 4 8).map (fun p => p.1.acc) = [.rw] := by decide +kernel
/-- The worked example of R415: REGION_TRACE.EN of MED is bit 0 of alias word 0x0F0_0100. -/
theorem test_alias_example : aliasAddr 4 8 0 = 0x0F00100 ∧ maskedAddr 3 4 0 = 0x0A30008 := by decide

/-! KeysConfirmationsAndQuote -/

/-- Management slots 1 (and 2) enrolled. -/
def keyState (two : Bool) : State := { odState 1 with sec.mg := if two then [(1, { st := .enrolled, key := 5, role := 2 }), (2, { st := .enrolled, key := 6, role := 3 })] else [(1, { st := .enrolled, key := 5, role := 2 })] }
theorem witness_KeysConfirmationsAndQuote :
    ((keyState true).odRuns = true ∧ (keyState true).odPre ((keyState true).srcRole 0) (keyIx true 1) 4 true false = 0 ∧ (keyState true).odPre ((keyState true).srcRole 0) (keyIx false 1) 3 true false = 0
      ∧ (keyState true).odPre ((keyState true).srcRole 7) (keyIx true 1) 4 true false ≠ 0 ∧ ((keyState true).keySlots true).countP (fun x => x.st == .enrolled) = 2 ∧ ((keyState false).keySlots true).countP (fun x => x.st == .enrolled) = 1
      ∧ ((keyState false).oneKey true 1).st = .enrolled ∧ ((keyState true).keySlots false).countP (fun x => x.st == .enrolled) = 0 ∧ (keyState true).wrEn 2 SYS = true ∧ State.reset.odRuns = false)
    ∧ ((keyState true).sec.sw = none ∧ (let s : State := { (keyState true).wb SEC_STATUS_PENDING_BOOT true with pwr.startStep := 12, sec.sel := { (keyState true).sec.sel with pending := 1 } }
       s.pwr.startStep = 12 ∧ s.rb SEC_STATUS_PENDING_BOOT = true ∧ s.sec.sel.pending ≠ 0xFF))
    ∧ ((keyState true).odPre ((keyState true).srcRole 0) 0xB030 2 false false = 0 ∧ (keyState true).odPre 0 0xB030 2 false false ≠ 0 ∧ (keyState true).dom (odOwner 0xB030 2).2 = 3 ∧ tabFind (keyState true).nonce 0 = none) := by decide +kernel

/-! FirmwareDownloadsCommitsAndSwitchover -/

/-- A download of source 0 is open and FW_SLOT is B; or a switch-over to B in state st. -/
def fwState (f : FwSource) : State := { (odState 1).setSrc 0xB050 3 0 2 with sec.dl := some { owner := f, size := 100, parts := 1 } }
def switchState (st : Nat) : State := { (odState 1).wf SEC_SWITCH_STATE st with sec.sw := some { slot := 1, old := 0, owner := .od 0, cid := 0 } }
/-- An image that passes every check of R512. -/
def goodImage : ImageInfo := { blankImage with readError := false, magicOk := true, version := 1, lengthOk := true, keyId := 1, svn := 7, sigOk := true }
theorem witness_FirmwareDownloadsCommitsAndSwitchover :
    ((switchState 3).sec.sw.isSome = true ∧ (switchState 3).rf SEC_SWITCH_STATE = 3 ∧ (switchState 4).rf SEC_SWITCH_STATE = 4)
    ∧ ((fwState (.od 0)).odRuns = true ∧ (fwState (.od 0)).sec.sw = none ∧ (odState 1).odWriteStatus 3 0xB050 2 [1, 2] false = 0 ∧ (odState 1).odWriteStatus 1 0xB050 2 [1, 2] false ≠ 0 ∧ (odState 1).sec.dl = none
      ∧ ((odState 1).setSrc 0xB050 1 0 64).src 0xB050 1 0 0 = 64 ∧ (fwState (.od 0)).srcRole 0 = 3 ∧ ((fwState (.od 0)).setSrc 0xB050 1 0 0x400000).src 0xB050 1 0 0 = 0x400000)
    ∧ ((fwState (.od 0)).src 0xB050 3 0 1 = 1 + 1 ∧ ([1, 2, 3, 4].all (fun v => (fwState (.od 0)).odWriteStatus 3 0xB050 4 (leBytes 1 v) false == 0)) = true ∧ (fwState (.od 0)).mode ≠ modeRecovery
      ∧ (fwState (.od 0)).rf SEC_STATUS_BOOT_SLOT = 0 ∧ (fwState (.od 0)).verifyImage goodImage = 0 ∧ (fwState (.od 0)).verifyImage blankImage ≠ 0
      ∧ ((fwState (.od 0)).wf SEC_STATUS_BOOT_SLOT 1).rf SEC_STATUS_BOOT_SLOT = 1)
    ∧ ((nvState 0).sec.sw = none ∧ (nvState 0).nextTurn.any (fun x => decide (x.2 = nvPart 0 0)) = true ∧ (nvAfter (nvState 0)).sec.dl = none ∧ (nvAfter { nvState 0 with sec.dl := some { owner := .nvme 0, size := 8, parts := 1 } }).sec.dl.isSome = true
      ∧ (nvAfter (nvState 0)).rf SEC_STATUS_BOOT_SLOT = 0 ∧ (nvAfter (nvState 0)).mode ≠ modeRecovery ∧ (nvAfter (nvState 0)).verifyImage goodImage = 0)
    ∧ ([0, 2, 5].all (fun n => (switchState n).rf SEC_SWITCH_STATE == n) = true ∧ (switchState 0).sec.sw = some { slot := 1, old := 0, owner := .od 0, cid := 0 }) := by decide +kernel

/-! MaintenanceAndFormatImages -/

/-- MT_UNIT of source 0 is u. -/
def mtState (u : Nat) : State := (odState 1).setSrc 0x2030 1 0 u
def recal0 : Recal := { src := 0, head := 3, groups := [1, 2], retried := [], slot := 0xFF, withdrawn := false }
def calState (g : Nat) : State := { (odState 1).setAct 0 acFOLLOW with sec.recal := [{ recal0 with groups := [g] }] }
theorem witness_MaintenanceAndFormatImages :
    ((mtState 5).odRuns = true ∧ (mtState 5).sec.sw = none ∧ (mtState 5).src 0x2030 1 0 0 = 5 ∧ [1, 2, 3].all (fun v => (mtState 5).odWriteStatus 3 0x2030 2 (leBytes 1 v) false == 0) = true ∧ (mtState 5).odWriteStatus 1 0x2030 2 (leBytes 1 1) false ≠ 0
      ∧ (mtState 5).srcRole 0 = 3 ∧ (mtState 5).mtUnitOk 5 = true ∧ (mtState 5).mtUnitOk 0x5000 = false ∧ [0x1003, 0x2003, 0x3003, 0x4003].all (fun u => (mtState u).mtUnitOk u) = true)
    ∧ (((mtState 5).ch 5).retired = false ∧ ((mtState 5).ch 5).retireBy = none ∧ (mtState 5).actLoaded 0 = false ∧ (mtState 5).atBoundary 5 = true ∧ ((mtState 5).modCh 5 (fun c => { c with rgate := true })).atBoundary 5 = false
      ∧ (mtState 0x1003).lnSt 3 = lnIDLE ∧ ((mtState 0x1003).wf LN_STATUS_STATE lnRETIRED 3).lnSt 3 = lnRETIRED ∧ ((mtState 0x1003).wf LN_ERR_RET_CAUSE 4 3).rf LN_ERR_RET_CAUSE 3 = 4
      ∧ ((mtState 0x2003).wf HBM_PC_STATUS_STATE pcACTIVE 3).pcSt 3 = pcACTIVE ∧ ((mtState 0x3003).en 3).retired = false ∧ ((mtState 0x3003).en 2).retired = false ∧ ((mtState 0x4003).hd 3).retired = false)
    ∧ (((mtState 5).setSrc 0x2030 3 0 6).src 0x2030 3 0 0xFF = 6 ∧ ((mtState 5).setSrc 0x2030 3 0 0).src 0x2030 3 0 0xFF = 0 ∧ (mtState 5).sec.recal = [] ∧ (calState 1).sec.recal ≠ [])
    ∧ (let g := (calState 0).groupAt 0
       recal0.head / 11 = 0 ∧ (calState g).groupAt 0 = g ∧ g < 8 ∧ (calState ((g + 1) % 8)).groupAt 0 ≠ (g + 1) % 8 ∧ (calState g).headChan 0 3 = none ∧ (calState g).spareSlot 0 = some 7
       ∧ (let s : State := { (calState g).wf TRU_STATUS_STATE 4 0 with pa.head := [(2, 3)] }
          s.headChan 0 3 = some 2 ∧ s.rf CAL_STATUS_STATE 2 ≠ 1 ∧ s.actLoaded 0 = true ∧ s.rf TRU_STATUS_STATE 0 = 4))
    ∧ ((mtState 5).odPre 3 0xB040 1 true false = 0 ∧ (mtState 5).odPost 0xB040 1 true = 0 ∧ (mtState 5).odPre 1 0xB040 1 true false ≠ 0 ∧ (mtState 5).slotHead 5 = 0xF ∧ ({ mtState 5 with pa.head := [(5, 3)] } : State).slotHead 5 ≠ 0xF
      ∧ (mtState 5).fmtOk { ix := 0x5010, sub := 1, value := leBytes 2 9000 } = ((odRow 0x5010 1).any (fun r => r.ty.len == 2))) := by decide +kernel

end Sys2Proof.Tests
end

section
/-! Every command answers a next state, and it keeps what `Kept` says (chapter 00: what each step holds). -/

namespace Sys2Proof.Machine
open Sys2Proof

/-- The answer is a next state, neither a fault nor a refusal. -/
def Answers (r : Res) : Prop := ∃ t : State, r = .next t

theorem Answers.next (t : State) : Answers (.next t) := ⟨t, rfl⟩

theorem Answers.ite {a b : Res} {c : Prop} [Decidable c] (ha : Answers a) (hb : Answers b) : Answers (if c then a else b) := by
  split <;> assumption

/-! The commands that look something up first answer a next state whether they find it or not. -/

theorem answers_execHeldSlotRequestSend (a : Act) (s : State) : Answers (execHeldSlotRequestSend a s) := by
  unfold execHeldSlotRequestSend
  split
  · exact .next _
  · exact .ite (.next _) (.next _)

theorem answers_execPa12RetryTimeout (a : Act) (s : State) : Answers (execPa12RetryTimeout a s) := by
  unfold execPa12RetryTimeout
  split
  · exact .next _
  · exact .ite (.next _) (.next _)

theorem answers_execIdentityTransferDone (role : Fin 12) (result : I3cResult) (s : State) : Answers (execIdentityTransferDone role result s) := by
  refine .ite (.next _) ?_
  cases result with
  | data bytes => exact .next _
  | nack => exact .next _
  | error => exact .next _

theorem answers_execTaDetect (n : Chan) (readers : BitVec 3) (start stop : BitVec 32) (s : State) : Answers (execTaDetect n readers start stop s) := by
  refine .ite (.next _) ?_
  simp only
  split <;> exact .next _

theorem answers_execOutputStoreFree (half : Fin 2) (s : State) : Answers (execOutputStoreFree half s) := by
  unfold execOutputStoreFree
  split <;> exact .next _

theorem answers_execPailRerequest (n : Chan) (s : State) : Answers (execPailRerequest n s) := by
  unfold execPailRerequest
  split <;> exact .next _

theorem answers_execPailWaitExpiry (n : Chan) (s : State) : Answers (execPailWaitExpiry n s) := by
  unfold execPailWaitExpiry
  split <;> exact .next _

theorem answers_execRegisterAccessTimeout (q : Fin 8) (s : State) : Answers (execRegisterAccessTimeout q s) := by
  unfold execRegisterAccessTimeout
  split <;> exact .next _

theorem answers_execRecordStage (s : State) : Answers (execRecordStage s) := by
  unfold execRecordStage
  split <;> exact .next _

theorem answers_execChipRecordOpen (r : Fin 5) (s : State) : Answers (execChipRecordOpen r s) := by
  unfold execChipRecordOpen
  split <;> exact .next _

theorem answers_execC2Remapped (us : Nat) (s : State) : Answers (execC2Remapped us s) := by
  unfold execC2Remapped
  split <;> exact .next _

/-- Most commands answer their next state outright; the named ones choose between next states. -/
theorem answers_exec (i : Instr) (s : State) : Answers (exec i s) := by
  cases i with
  | pa12RetryTimeout a => exact answers_execPa12RetryTimeout a s
  | heldSlotRequestSend a => exact answers_execHeldSlotRequestSend a s
  | overtemp a celsius => exact .ite (.ite (.next _) (.next _)) (.ite (.next _) (.next _))
  | linkTrainingTimeout a => exact .ite (.next _) (.ite (.next _) (.next _))
  | identityTransferDone role result => exact answers_execIdentityTransferDone role result s
  | truAcqStart a => exact .ite (.next _) (.next _)
  | relockLimitExpiry a => exact .ite (.next _) (.next _)
  | clockHeadFailTimeout a => exact .ite (.next _) (.next _)
  | taDetect n readers start stop => exact answers_execTaDetect n readers start stop s
  | outputStoreFree half => exact answers_execOutputStoreFree half s
  | retryBudgetExpiry n slot => exact .ite (.next _) (.ite (.next _) (.next _))
  | cellFault k c => exact .ite (.next _) (.ite (.next _) (.next _))
  | skHoldExpiry => exact .ite (.next _) (.next _)
  | holdTimeout => exact .ite (.next _) (.next _)
  | offsetCalDone u v => exact .ite (.ite (.next _) (.next _)) (.next _)
  | crossingTimeout => exact .ite (.next _) (.ite (.next _) (.next _))
  | chopperFault => exact .ite (.next _) (.next _)
  | pailRerequest n => exact answers_execPailRerequest n s
  | pailWaitExpiry n => exact answers_execPailWaitExpiry n s
  | registerAccessTimeout q => exact answers_execRegisterAccessTimeout q s
  | chipRecordOpen r => exact answers_execChipRecordOpen r s
  | c2Remapped us => exact answers_execC2Remapped us s
  | regionRestart r => exact .ite (.next _) (.next _)
  | regionRestartDone r us => exact .ite (.next _) (.next _)
  | watchdogExpiry => exact .ite (.next _) (.next _)
  | inputStuck i => exact .ite (.next _) (.next _)
  | inputChatter i => exact .ite (.next _) (.next _)
  | tempSenseWindow inside => exact .ite (.next _) (.ite (.next _) (.next _))
  | por released strap => exact .ite (.next _) (.ite (.next _) (.next _))
  | resetN released strap => exact .ite (.next _) (.ite (.next _) (.next _))
  | recordStage => exact answers_execRecordStage s
  | recorderFlush => exact .ite (.next _) (.next _)
  | pfailHeaderFinal => exact .ite (.next _) (.next _)
  | healthInterval t xs => exact .ite (.next _) (.next _)
  | _ => exact .next _

/-- One `kept_exec…` lemma for each command. -/
theorem keptR_exec (s : State) : ∀ i : Instr, KeptR s (exec i s)
  | .slotMap a slot head => kept_execSlotMap a slot head s (.refl s)
  | .slotMode a slot mode => kept_execSlotMode a slot mode s (.refl s)
  | .readBias a head reader code => kept_execReadBias a head reader code s (.refl s)
  | .writeCurrent a head code amp dur => kept_execWriteCurrent a head code amp dur s (.refl s)
  | .heater a head sel power => kept_execHeater a head sel power s (.refl s)
  | .maDrive a entries => kept_execMaDrive a entries s (.refl s)
  | .statusRead a => kept_execStatusRead a s (.refl s)
  | .linkReset a => kept_execLinkReset a s (.refl s)
  | .echo a bytes => kept_execEcho a bytes s (.refl s)
  | .pa12Response a frame bad => kept_execPa12Response a frame bad s (.refl s)
  | .pa12RetryTimeout a => kept_execPa12RetryTimeout a s (.refl s)
  | .heldSlotRequestSend a => kept_execHeldSlotRequestSend a s (.refl s)
  | .pa12LinkArbitrate a => kept_execPa12LinkArbitrate a s (.refl s)
  | .dnCrc a => kept_execDnCrc a s (.refl s)
  | .writerOpen a head => kept_execWriterOpen a head s (.refl s)
  | .writerShort a head => kept_execWriterShort a head s (.refl s)
  | .readerFault a head reader => kept_execReaderFault a head reader s (.refl s)
  | .heaterFault a head => kept_execHeaterFault a head s (.refl s)
  | .maOvercurrent a head => kept_execMaOvercurrent a head s (.refl s)
  | .overtemp a celsius => kept_execOvertemp a celsius s (.refl s)
  | .plEnable a v => kept_execPlEnable a v s (.refl s)
  | .plRetrain a => kept_execPlRetrain a s (.refl s)
  | .linkTrainingStepDone a => kept_execLinkTrainingStepDone a s (.refl s)
  | .linkTrainingTimeout a => kept_execLinkTrainingTimeout a s (.refl s)
  | .linkRetrainTimer a => kept_execLinkRetrainTimer a s (.refl s)
  | .identityReadStart => kept_execIdentityReadStart s (.refl s)
  | .identityTransferDone role result => kept_execIdentityTransferDone role result s (.refl s)
  | .identityTransferTimeout role => kept_execIdentityTransferTimeout role s (.refl s)
  | .moduleAdmission role sigOk => kept_execModuleAdmission role sigOk s (.refl s)
  | .modReread role => kept_execModReread role s (.refl s)
  | .truEnableWrite a enable hold => kept_execTruEnableWrite a enable hold s (.refl s)
  | .truAcqStart a => kept_execTruAcqStart a s (.refl s)
  | .truFreqAcquired a => kept_execTruFreqAcquired a s (.refl s)
  | .truPhaseAcquired a => kept_execTruPhaseAcquired a s (.refl s)
  | .truFrame a f => kept_execTruFrame a f s (.refl s)
  | .truLossPhase a => kept_execTruLossPhase a s (.refl s)
  | .truLossAmplitude a => kept_execTruLossAmplitude a s (.refl s)
  | .relockLimitExpiry a => kept_execRelockLimitExpiry a s (.refl s)
  | .truReacq a => kept_execTruReacq a s (.refl s)
  | .clockHeadFailTimeout a => kept_execClockHeadFailTimeout a s (.refl s)
  | .synthSlewDone n => kept_execSynthSlewDone n s (.refl s)
  | .wedgeRead n w => kept_execWedgeRead n w s (.refl s)
  | .htTrimWrite a head rro v => kept_execHtTrimWrite a head rro v s (.refl s)
  | .slotAllocate n => kept_execSlotAllocate n s (.refl s)
  | .fieldReadEnd n mets readers => kept_execFieldReadEnd n mets readers s (.refl s)
  | .adaptUpdate n r m => kept_execAdaptUpdate n r m s (.refl s)
  | .taDetect n readers start stop => kept_execTaDetect n readers start stop s (.refl s)
  | .feRegWrite n off v => kept_execFeRegWrite n off v s (.refl s)
  | .reeqRequest n slot pos profile => kept_execReeqRequest n slot pos profile s (.refl s)
  | .reeqDone n => kept_execReeqDone n s (.refl s)
  | .calStart n => kept_execCalStart n s (.refl s)
  | .calAbort n => kept_execCalAbort n s (.refl s)
  | .calPhaseDone n res read vals snr => kept_execCalPhaseDone n res read vals snr s (.refl s)
  | .laneRequest n slot retry => kept_execLaneRequest n slot retry s (.refl s)
  | .laneAllocate half => kept_execLaneAllocate half s (.refl s)
  | .decodeAttemptStart k => kept_execDecodeAttemptStart k s (.refl s)
  | .sweepEnd k unsat flips checkerOk crcOk physOk tagOk => kept_execSweepEnd k unsat flips checkerOk crcOk physOk tagOk s (.refl s)
  | .outputStoreFree half => kept_execOutputStoreFree half s (.refl s)
  | .retryBudgetExpiry n slot => kept_execRetryBudgetExpiry n slot s (.refl s)
  | .laneRetire k => kept_execLaneRetire k s (.refl s)
  | .laneRestore k => kept_execLaneRestore k s (.refl s)
  | .laneSelftestDone k pass => kept_execLaneSelftestDone k pass s (.refl s)
  | .laneFault k checker => kept_execLaneFault k checker s (.refl s)
  | .cellFault k c => kept_execCellFault k c s (.refl s)
  | .laneMemoryCorrected k => kept_execLaneMemoryCorrected k s (.refl s)
  | .codeTableFault copy k cell => kept_execCodeTableFault copy k cell s (.refl s)
  | .sectorEncodeDone n => kept_execSectorEncodeDone n s (.refl s)
  | .writeSetup n => kept_execWriteSetup n s (.refl s)
  | .wrCtrlWrite n v => kept_execWrCtrlWrite n v s (.refl s)
  | .writeHoldExpiry a head => kept_execWriteHoldExpiry a head s (.refl s)
  | .stripeUpdateStart stripe pool => kept_execStripeUpdateStart stripe pool s (.refl s)
  | .parityDone stripe busError => kept_execParityDone stripe busError s (.refl s)
  | .memberWritten n => kept_execMemberWritten n s (.refl s)
  | .rebuildStart stripe pos pool => kept_execRebuildStart stripe pos pool s (.refl s)
  | .rebuildDone stripe pos result => kept_execRebuildDone stripe pos result s (.refl s)
  | .verifyRead code => kept_execVerifyRead code s (.refl s)
  | .recoveryRewrite => kept_execRecoveryRewrite s (.refl s)
  | .captureDone n => kept_execCaptureDone n s (.refl s)
  | .capNext => kept_execCapNext s (.refl s)
  | .replayStart => kept_execReplayStart s (.refl s)
  | .replayAbort => kept_execReplayAbort s (.refl s)
  | .replayStepDone => kept_execReplayStepDone s (.refl s)
  | .microword n => kept_execMicroword n s (.refl s)
  | .pop n => kept_execPop n s (.refl s)
  | .advance n => kept_execAdvance n s (.refl s)
  | .done n => kept_execDone n s (.refl s)
  | .requeue n => kept_execRequeue n s (.refl s)
  | .map n => kept_execMap n s (.refl s)
  | .retarget n => kept_execRetarget n s (.refl s)
  | .call n imm next => kept_execCall n imm next s (.refl s)
  | .ret n => kept_execRet n s (.refl s)
  | .sequencerEvent n e bit => kept_execSequencerEvent n e bit s (.refl s)
  | .sequencerEccError n uncorrectable => kept_execSequencerEccError n uncorrectable s (.refl s)
  | .tgtWdogExpiry n => kept_execTgtWdogExpiry n s (.refl s)
  | .stageLoad sigOk => kept_execStageLoad sigOk s (.refl s)
  | .stageSwap => kept_execStageSwap s (.refl s)
  | .stageLoadSwap sigOk => kept_execStageLoadSwap sigOk s (.refl s)
  | .swapTake n => kept_execSwapTake n s (.refl s)
  | .swapLimitExpiry n => kept_execSwapLimitExpiry n s (.refl s)
  | .sqRun n v => kept_execSqRun n v s (.refl s)
  | .sqSwap n => kept_execSqSwap n s (.refl s)
  | .sqRestart n => kept_execSqRestart n s (.refl s)
  | .cellTrigger n y valid => kept_execCellTrigger n y valid s (.refl s)
  | .evalComplete n => kept_execEvalComplete n s (.refl s)
  | .deadlineMiss n => kept_execDeadlineMiss n s (.refl s)
  | .gainSetRequest n g => kept_execGainSetRequest n g s (.refl s)
  | .pgTarget c target => kept_execPgTarget c target s (.refl s)
  | .pgPeriod c => kept_execPgPeriod c s (.refl s)
  | .pgStop c => kept_execPgStop c s (.refl s)
  | .mcPeakClr lane => kept_execMcPeakClr lane s (.refl s)
  | .recStart => kept_execRecStart s (.refl s)
  | .recStop => kept_execRecStop s (.refl s)
  | .recClear => kept_execRecClear s (.refl s)
  | .replayCmdStart => kept_execReplayCmdStart s (.refl s)
  | .replayCmdStop => kept_execReplayCmdStop s (.refl s)
  | .shadowEval n => kept_execShadowEval n s (.refl s)
  | .seekRequest a cyl mask writes => kept_execSeekRequest a cyl mask writes s (.refl s)
  | .vcmSample a duty current => kept_execVcmSample a duty current s (.refl s)
  | .settleTimeout a => kept_execSettleTimeout a s (.refl s)
  | .headJog a head write => kept_execHeadJog a head write s (.refl s)
  | .shockQualify axis => kept_execShockQualify axis s (.refl s)
  | .skHoldExpiry => kept_execSkHoldExpiry s (.refl s)
  | .vcLoad a => kept_execVcLoad a s (.refl s)
  | .loadStepDone a => kept_execLoadStepDone a s (.refl s)
  | .loadStepTimeout a => kept_execLoadStepTimeout a s (.refl s)
  | .vcUnload a => kept_execVcUnload a s (.refl s)
  | .parkLatched a => kept_execParkLatched a s (.refl s)
  | .parkLimitExpiry a => kept_execParkLimitExpiry a s (.refl s)
  | .vcRetract a => kept_execVcRetract a s (.refl s)
  | .retT1Expiry a => kept_execRetT1Expiry a s (.refl s)
  | .retT2Expiry a fast => kept_execRetT2Expiry a fast s (.refl s)
  | .coilCurrentFault a => kept_execCoilCurrentFault a s (.refl s)
  | .vcTargetWrite a cyl => kept_execVcTargetWrite a cyl s (.refl s)
  | .spStart => kept_execSpStart s (.refl s)
  | .spStop => kept_execSpStop s (.refl s)
  | .spCoast => kept_execSpCoast s (.refl s)
  | .spReset turning => kept_execSpReset turning s (.refl s)
  | .currentTick iu iv vbus => kept_execCurrentTick iu iv vbus s (.refl s)
  | .speedTick current power ambient csb => kept_execSpeedTick current power ambient csb s (.refl s)
  | .holdPeriodSample x => kept_execHoldPeriodSample x s (.refl s)
  | .holdTimeout => kept_execHoldTimeout s (.refl s)
  | .detectTimeout => kept_execDetectTimeout s (.refl s)
  | .offsetCalDone u v => kept_execOffsetCalDone u v s (.refl s)
  | .testPulseDone peak => kept_execTestPulseDone peak s (.refl s)
  | .startAttemptTimeout => kept_execStartAttemptTimeout s (.refl s)
  | .startRestartDelay => kept_execStartRestartDelay s (.refl s)
  | .bemfCrossing interval angle amplitude => kept_execBemfCrossing interval angle amplitude s (.refl s)
  | .crossingTimeout => kept_execCrossingTimeout s (.refl s)
  | .ov1Cross above => kept_execOv1Cross above s (.refl s)
  | .chopperFault => kept_execChopperFault s (.refl s)
  | .ov2Trip => kept_execOv2Trip s (.refl s)
  | .undervoltTimeout => kept_execUndervoltTimeout s (.refl s)
  | .hbmTempSample t => kept_execHbmTempSample t s (.refl s)
  | .refreshDue p bank busy => kept_execRefreshDue p bank busy s (.refl s)
  | .hbmRetrack ok => kept_execHbmRetrack ok s (.refl s)
  | .hbmTrainingDone failed => kept_execHbmTrainingDone failed s (.refl s)
  | .bufferZeroFillDone => kept_execBufferZeroFillDone s (.refl s)
  | .hbmRead req addr len upset => kept_execHbmRead req addr len upset s (.refl s)
  | .hbmWrite req addr bytes upset => kept_execHbmWrite req addr bytes upset s (.refl s)
  | .strongDecode page word => kept_execStrongDecode page word s (.refl s)
  | .parityEntryWrite page => kept_execParityEntryWrite page s (.refl s)
  | .hbmFlipArm => kept_execHbmFlipArm s (.refl s)
  | .skimPage p rewritten upset => kept_execSkimPage p rewritten upset s (.refl s)
  | .skimLapEnd ms => kept_execSkimLapEnd ms s (.refl s)
  | .skimLapOverdue => kept_execSkimLapOverdue s (.refl s)
  | .skimRestart => kept_execSkimRestart s (.refl s)
  | .skimEnable v => kept_execSkimEnable v s (.refl s)
  | .ceRateWindow p => kept_execCeRateWindow p s (.refl s)
  | .pcRetire p => kept_execPcRetire p s (.refl s)
  | .hbmPcRetire p => kept_execHbmPcRetire p s (.refl s)
  | .pcQueueDrained p => kept_execPcQueueDrained p s (.refl s)
  | .relocRow p => kept_execRelocRow p s (.refl s)
  | .pailRequest pool rids => kept_execPailRequest pool rids s (.refl s)
  | .pailRelease pool rid ptr => kept_execPailRelease pool rid ptr s (.refl s)
  | .pailDraw stamp => kept_execPailDraw stamp s (.refl s)
  | .pailRerequest n => kept_execPailRerequest n s (.refl s)
  | .pailWaitExpiry n => kept_execPailWaitExpiry n s (.refl s)
  | .pailMinClr p => kept_execPailMinClr p s (.refl s)
  | .mcAccess port addr wr len fault => kept_execMcAccess port addr wr len fault s (.refl s)
  | .mcFillDone line => kept_execMcFillDone line s (.refl s)
  | .mergeDrain => kept_execMergeDrain s (.refl s)
  | .mcEnableWrite v => kept_execMcEnableWrite v s (.refl s)
  | .mcStateDone => kept_execMcStateDone s (.refl s)
  | .mcInvGo => kept_execMcInvGo s (.refl s)
  | .mcInvDone => kept_execMcInvDone s (.refl s)
  | .mcLockEn k v => kept_execMcLockEn k v s (.refl s)
  | .mcPreload k => kept_execMcPreload k s (.refl s)
  | .chDqDoorbell e c v => kept_execChDqDoorbell e c v s (.refl s)
  | .chCqHeadWrite e c v => kept_execChCqHeadWrite e c v s (.refl s)
  | .chEnable e c v => kept_execChEnable e c v s (.refl s)
  | .descStart e => kept_execDescStart e s (.refl s)
  | .burstIssue e => kept_execBurstIssue e s (.refl s)
  | .burstComplete e c pos ans => kept_execBurstComplete e c pos ans s (.refl s)
  | .recordWrite e c fails => kept_execRecordWrite e c fails s (.refl s)
  | .deAbortGo e => kept_execDeAbortGo e s (.refl s)
  | .internalDescAbort ds => kept_execInternalDescAbort ds s (.refl s)
  | .deEnableWrite e v => kept_execDeEnableWrite e v s (.refl s)
  | .atsResponse port pasid page ans => kept_execAtsResponse port pasid page ans s (.refl s)
  | .atsInvalidate port pasid page size => kept_execAtsInvalidate port pasid page size s (.refl s)
  | .pageRequestSend port => kept_execPageRequestSend port s (.refl s)
  | .prgResponse port group code => kept_execPrgResponse port group code s (.refl s)
  | .priTimeout port group => kept_execPriTimeout port group s (.refl s)
  | .dmaEngineFault e uncorrectable => kept_execDmaEngineFault e uncorrectable s (.refl s)
  | .nvmeCreateIoSq q cid qid size pc prio cqid base pool => kept_execNvmeCreateIoSq q cid qid size pc prio cqid base pool s (.refl s)
  | .nvmeDeleteIoSq q cid qid => kept_execNvmeDeleteIoSq q cid qid s (.refl s)
  | .nvmeCreateIoCq q cid qid size pc vector base => kept_execNvmeCreateIoCq q cid qid size pc vector base s (.refl s)
  | .nvmeDeleteIoCq q cid qid => kept_execNvmeDeleteIoCq q cid qid s (.refl s)
  | .getLogPage q cid lid rae offset list => kept_execGetLogPage q cid lid rae offset list s (.refl s)
  | .identify q cid cns nsid list => kept_execIdentify q cid cns nsid list s (.refl s)
  | .nvmeAbort q cid sqid target => kept_execNvmeAbort q cid sqid target s (.refl s)
  | .setFeatures q cid fid nsid v data => kept_execSetFeatures q cid fid nsid v data s (.refl s)
  | .getFeatures q cid fid nsid list => kept_execGetFeatures q cid fid nsid list s (.refl s)
  | .asynchronousEventRequest q cid => kept_execAsynchronousEventRequest q cid s (.refl s)
  | .firmwareDownload q cid offset bytes => kept_execFirmwareDownload q cid offset bytes s (.refl s)
  | .firmwareCommit q cid action slot im => kept_execFirmwareCommit q cid action slot im s (.refl s)
  | .mediaPurge q cid => kept_execMediaPurge q cid s (.refl s)
  | .mediaPurgeDone => kept_execMediaPurgeDone s (.refl s)
  | .nvmeFlush q sq cid nsid => kept_execNvmeFlush q sq cid nsid s (.refl s)
  | .nvmeWrite q sq cid nsid lba nlb fua list => kept_execNvmeWrite q sq cid nsid lba nlb fua list s (.refl s)
  | .nvmeRead q sq cid nsid lba nlb list => kept_execNvmeRead q sq cid nsid lba nlb list s (.refl s)
  | .nvmeWriteZeroes q sq cid nsid lba nlb fua => kept_execNvmeWriteZeroes q sq cid nsid lba nlb fua s (.refl s)
  | .nvmeCompare q sq cid nsid lba nlb mismatch list => kept_execNvmeCompare q sq cid nsid lba nlb mismatch list s (.refl s)
  | .datasetManagement q sq cid nsid => kept_execDatasetManagement q sq cid nsid s (.refl s)
  | .reservationRegister q sq cid nsid action iekey cptpl crkey nrkey => kept_execReservationRegister q sq cid nsid action iekey cptpl crkey nrkey s (.refl s)
  | .reservationReport q sq cid nsid eds list => kept_execReservationReport q sq cid nsid eds list s (.refl s)
  | .reservationAcquire q sq cid nsid action rtype crkey prkey => kept_execReservationAcquire q sq cid nsid action rtype crkey prkey s (.refl s)
  | .reservationRelease q sq cid nsid action rtype crkey => kept_execReservationRelease q sq cid nsid action rtype crkey s (.refl s)
  | .nvmeSqDoorbell q sq v => kept_execNvmeSqDoorbell q sq v s (.refl s)
  | .nvmeCqDoorbell q cq v => kept_execNvmeCqDoorbell q cq v s (.refl s)
  | .controllerReset q => kept_execControllerReset q s (.refl s)
  | .functionLevelReset q => kept_execFunctionLevelReset q s (.refl s)
  | .portLinkDown q => kept_execPortLinkDown q s (.refl s)
  | .srDoorbell n v headOwn => kept_execSrDoorbell n v headOwn s (.refl s)
  | .crHeadDoorbell c v => kept_execCrHeadDoorbell c v s (.refl s)
  | .fetch ans => kept_execFetch ans s (.refl s)
  | .prefetch n unit ans => kept_execPrefetch n unit ans s (.refl s)
  | .entryReleaseWrite n ans => kept_execEntryReleaseWrite n ans s (.refl s)
  | .pad n len => kept_execPad n len s (.refl s)
  | .read n nsid cid lba count list => kept_execRead n nsid cid lba count list s (.refl s)
  | .write n nsid cid lba count fua list => kept_execWrite n nsid cid lba count fua list s (.refl s)
  | .flush n nsid cid => kept_execFlush n nsid cid s (.refl s)
  | .writeZeroes n nsid cid lba count fua => kept_execWriteZeroes n nsid cid lba count fua s (.refl s)
  | .abort n cid ring target => kept_execAbort n cid ring target s (.refl s)
  | .sectorInstall stamp ix => kept_execSectorInstall stamp ix s (.refl s)
  | .commandFinish stamp ans => kept_execCommandFinish stamp ans s (.refl s)
  | .crVectorSignal c => kept_execCrVectorSignal c s (.refl s)
  | .sectorDispatch a at_ => kept_execSectorDispatch a at_ s (.refl s)
  | .rqCreate set => kept_execRqCreate set s (.refl s)
  | .rqDelete set => kept_execRqDelete set s (.refl s)
  | .rqRestart set entry => kept_execRqRestart set entry s (.refl s)
  | .rqFreeze set => kept_execRqFreeze set s (.refl s)
  | .rqUpdate set => kept_execRqUpdate set s (.refl s)
  | .put n cid fua space key oflags len arg list => kept_execPut n cid fua space key oflags len arg list s (.refl s)
  | .get n cid space key oflags arg list => kept_execGet n cid space key oflags arg list s (.refl s)
  | .delete n cid fua space key oflags arg => kept_execDelete n cid fua space key oflags arg s (.refl s)
  | .list n cid space key cursor list => kept_execList n cid space key cursor list s (.refl s)
  | .objectCompact pool => kept_execObjectCompact pool s (.refl s)
  | .objectIndexLoad bad => kept_execObjectIndexLoad bad s (.refl s)
  | .bucketReload b => kept_execBucketReload b s (.refl s)
  | .registerWrite q off v size => kept_execRegisterWrite q off v size s (.refl s)
  | .registerAccessTimeout q => kept_execRegisterAccessTimeout q s (.refl s)
  | .bitAliasWrite q r o bit v => kept_execBitAliasWrite q r o bit v s (.refl s)
  | .maskedWrite q r o half v => kept_execMaskedWrite q r o half v s (.refl s)
  | .mbxGo q late => kept_execMbxGo q late s (.refl s)
  | .cfgCommitGo q => kept_execCfgCommitGo q s (.refl s)
  | .cfgChecksDone => kept_execCfgChecksDone s (.refl s)
  | .cfgMramWritten => kept_execCfgMramWritten s (.refl s)
  | .cfgDiscard q => kept_execCfgDiscard q s (.refl s)
  | .odRead q => kept_execOdRead q s (.refl s)
  | .odWrite q => kept_execOdWrite q s (.refl s)
  | .odInfo q => kept_execOdInfo q s (.refl s)
  | .dictionaryWrite src ix sub value => kept_execDictionaryWrite src ix sub value s (.refl s)
  | .commit src v => kept_execCommit src v s (.refl s)
  | .registerGatewayData src wr => kept_execRegisterGatewayData src wr s (.refl s)
  | .assemblyBufferIdle b => kept_execAssemblyBufferIdle b s (.refl s)
  | .discover => kept_execDiscover s (.refl s)
  | .announce => kept_execAnnounce s (.refl s)
  | .sessionInit key role onCurve nonceC => kept_execSessionInit key role onCurve nonceC s (.refl s)
  | .sessionProve session sigOk macOk => kept_execSessionProve session sigOk macOk s (.refl s)
  | .handshakeTimeout h => kept_execHandshakeTimeout h s (.refl s)
  | .sessionClose session => kept_execSessionClose session s (.refl s)
  | .sessionIdleExpiry slot => kept_execSessionIdleExpiry slot s (.refl s)
  | .zaleneRead session seq ix sub running info => kept_execZaleneRead session seq ix sub running info s (.refl s)
  | .zaleneWrite session seq ix sub value => kept_execZaleneWrite session seq ix sub value s (.refl s)
  | .segRead session seq ix sub offset running => kept_execSegRead session seq ix sub offset running s (.refl s)
  | .segWrite session seq ix sub total => kept_execSegWrite session seq ix sub total s (.refl s)
  | .segment session seq offset bytes => kept_execSegment session seq offset bytes s (.refl s)
  | .segAbort session seq => kept_execSegAbort session seq s (.refl s)
  | .zaleneMacFail session => kept_execZaleneMacFail session s (.refl s)
  | .eventSend slot => kept_execEventSend slot s (.refl s)
  | .eventAck session seq evseq => kept_execEventAck session seq evseq s (.refl s)
  | .eventAckTimeout slot => kept_execEventAckTimeout slot s (.refl s)
  | .wake code => kept_execWake code s (.refl s)
  | .neighbourDiscovery kind => kept_execNeighbourDiscovery kind s (.refl s)
  | .duplicateNode => kept_execDuplicateNode s (.refl s)
  | .faultReport blk src cell detail => kept_execFaultReport blk src cell detail s (.refl s)
  | .chipRecordOpen r => kept_execChipRecordOpen r s (.refl s)
  | .c2Remapped us => kept_execC2Remapped us s (.refl s)
  | .regionRestart r => kept_execRegionRestart r s (.refl s)
  | .regionRestartDone r us => kept_execRegionRestartDone r us s (.refl s)
  | .chipFatal src => kept_execChipFatal src s (.refl s)
  | .fcForceGo => kept_execFcForceGo s (.refl s)
  | .fcClear => kept_execFcClear s (.refl s)
  | .wdKick key => kept_execWdKick key s (.refl s)
  | .wdCtrlWrite v => kept_execWdCtrlWrite v s (.refl s)
  | .watchdogExpiry => kept_execWatchdogExpiry s (.refl s)
  | .inputQualify pin level => kept_execInputQualify pin level s (.refl s)
  | .inputStuck pin => kept_execInputStuck pin s (.refl s)
  | .inputChatter pin => kept_execInputChatter pin s (.refl s)
  | .inputRequalify pin => kept_execInputRequalify pin s (.refl s)
  | .pfail vbus => kept_execPfail vbus s (.refl s)
  | .tempSenseWindow inside => kept_execTempSenseWindow inside s (.refl s)
  | .pwrGo q => kept_execPwrGo q s (.refl s)
  | .powerCmd src v => kept_execPowerCmd src v s (.refl s)
  | .idleTimerExpiry k => kept_execIdleTimerExpiry k s (.refl s)
  | .powerEntryStage => kept_execPowerEntryStage s (.refl s)
  | .participantAck p answer => kept_execParticipantAck p answer s (.refl s)
  | .participantDelayTimeout p => kept_execParticipantDelayTimeout p s (.refl s)
  | .domainsSwitched => kept_execDomainsSwitched s (.refl s)
  | .wakeEvent bit => kept_execWakeEvent bit s (.refl s)
  | .powerExitDone => kept_execPowerExitDone s (.refl s)
  | .pwrdis => kept_execPwrdis s (.refl s)
  | .swReset key => kept_execSwReset key s (.refl s)
  | .por released strap => kept_execPor released strap s (.refl s)
  | .resetN released strap => kept_execResetN released strap s (.refl s)
  | .perst port deasserted => kept_execPerst port deasserted s (.refl s)
  | .crystalLoss => kept_execCrystalLoss s (.refl s)
  | .pllLockLoss k => kept_execPllLockLoss k s (.refl s)
  | .startupStepDone microOk => kept_execStartupStepDone microOk s (.refl s)
  | .startupTablesRead bad => kept_execStartupTablesRead bad s (.refl s)
  | .recordStage => kept_execRecordStage s (.refl s)
  | .recorderFlush => kept_execRecorderFlush s (.refl s)
  | .flushTimer => kept_execFlushTimer s (.refl s)
  | .rcFlush => kept_execRcFlush s (.refl s)
  | .rcFreeze => kept_execRcFreeze s (.refl s)
  | .rcThaw => kept_execRcThaw s (.refl s)
  | .freezeLimitExpiry => kept_execFreezeLimitExpiry s (.refl s)
  | .rcClear => kept_execRcClear s (.refl s)
  | .rcReadGo q corrupt => kept_execRcReadGo q corrupt s (.refl s)
  | .pfailHeaderFinal => kept_execPfailHeaderFinal s (.refl s)
  | .healthInterval t xs => kept_execHealthInterval t xs s (.refl s)
  | .keySlotWrite src mgmt slot key role sigOk => kept_execKeySlotWrite src mgmt slot key role sigOk s (.refl s)
  | .secConfirm q => kept_execSecConfirm q s (.refl s)
  | .svnCommit q => kept_execSvnCommit q s (.refl s)
  | .secRecovery q => kept_execSecRecovery q s (.refl s)
  | .secTest q => kept_execSecTest q s (.refl s)
  | .modeReq src v => kept_execModeReq src v s (.refl s)
  | .fwChunk src bytes => kept_execFwChunk src bytes s (.refl s)
  | .downloadIdleTimeout => kept_execDownloadIdleTimeout s (.refl s)
  | .fwWrite src im => kept_execFwWrite src im s (.refl s)
  | .fwWriteAtReset src im => kept_execFwWriteAtReset src im s (.refl s)
  | .fwActivateAtReset src => kept_execFwActivateAtReset src s (.refl s)
  | .fwWriteNow src im => kept_execFwWriteNow src im s (.refl s)
  | .switchoverStepDone => kept_execSwitchoverStepDone s (.refl s)
  | .switchoverConfirmTimeout => kept_execSwitchoverConfirmTimeout s (.refl s)
  | .formatImage src check records hash => kept_execFormatImage src check records hash s (.refl s)
  | .quote src => kept_execQuote src s (.refl s)
  | .mtRetire src => kept_execMtRetire src s (.refl s)
  | .mtRestore src selftest => kept_execMtRestore src selftest s (.refl s)
  | .mtRecalibrate src => kept_execMtRecalibrate src s (.refl s)
  | .channelRemap n => kept_execChannelRemap n s (.refl s)
  | .dmaEngineHandover e => kept_execDmaEngineHandover e s (.refl s)
  | .recalGroupVisit a g waited => kept_execRecalGroupVisit a g waited s (.refl s)
  | .truCarrierReturn a => kept_execTruCarrierReturn a s (.refl s)
  | .mediaScrub stripe pool => kept_execMediaScrub stripe pool s (.refl s)
  | .hbmSelfRefreshEntry => kept_execHbmSelfRefreshEntry s (.refl s)
  | .pcieConfigAccess q req => kept_execPcieConfigAccess q req s (.refl s)
  | .registerRead q off size => kept_execRegisterRead q off size s (.refl s)
  | .nvmeControllerEnable q asq acq asqs acqs wrr => kept_execNvmeControllerEnable q asq acq asqs acqs wrr s (.refl s)

/-- Totality and the invariant together: the form in which claims about all commands use them. -/
theorem exec_next_kept (i : Instr) (s : State) : ∃ t : State, exec i s = .next t ∧ Kept s t := by
  obtain ⟨t, ht⟩ := answers_exec i s
  exact ⟨t, ht, keptR_exec s i t ht⟩

theorem step_of_pending_nil (s : State) (h : s.pending = []) : step s = .next { s with coreTime := s.coreTime + 1 } := by
  simp [step, h]

theorem step_of_pending_cons (c : Instr) (rest : List Instr) (s : State) :
    step { s with pending := c :: rest } = exec c { s with pending := rest } := rfl

/-- A field that the register file does not list stands at its reset value. -/
theorem rf_of_regs_nil (s : State) (h : s.regs = []) (f : Fld) (i j : Nat) : s.rf f i j = f.rst j := by
  simp [State.rf, h, tabGet, tabFind]

end Sys2Proof.Machine
end

section
/-! The claims of chapter 00 about commands, steps and the reset state. -/

namespace Sys2Proof.Machine
open Sys2Proof

/-- Settles O4: every command has a next state, and `Kept` holds the queue and the ordering code. -/
theorem commandsLeaveQueueAndPart : Obligations.CommandsLeaveQueueAndPart := by
  intro i s
  obtain ⟨t, ht, hk⟩ := exec_next_kept i s
  exact ⟨t, ht, hk.pending, hk.part⟩

/-- Settles O1: the two cases of `step`, by the queue. -/
theorem stepTakesFrontCommand : Obligations.StepTakesFrontCommand :=
  ⟨step_of_pending_cons, step_of_pending_nil⟩

/-- Settles O3: memory and register file are empty at reset. -/
theorem resetIsCanonical : Obligations.ResetIsCanonical :=
  ⟨by decide, rfl, rf_of_regs_nil State.reset rfl⟩

end Sys2Proof.Machine
end

section
/-! What the passes over the fields of one register leave and store: a write of the word (R7, R409) and the clearing of RC fields on a read. -/

namespace Sys2Proof.Machine
open Sys2Proof

/-- The key at which the register file lists copy (i, j) of a field. -/
abbrev fieldKey (p : Fld × Nat × Nat) : Nat := p.1.key p.2.1 p.2.2

/-- t differs from s in the register file alone, and there at keys of K alone. -/
structure RegsWithin (K : Nat → Prop) (s t : State) : Prop where
  frame : { t with regs := s.regs } = s
  other : ∀ k, ¬ K k → tabFind t.regs k = tabFind s.regs k

theorem RegsWithin.refl (K : Nat → Prop) (s : State) : RegsWithin K s s := ⟨rfl, fun _ _ => rfl⟩

theorem RegsWithin.trans {K : Nat → Prop} {s t u : State} (a : RegsWithin K s t) (b : RegsWithin K t u) : RegsWithin K s u :=
  ⟨by rw [← a.frame, ← b.frame], fun k hk => (b.other k hk).trans (a.other k hk)⟩

theorem RegsWithin.mono {K L : Nat → Prop} {s t : State} (a : RegsWithin K s t) (h : ∀ k, K k → L k) : RegsWithin L s t :=
  ⟨a.frame, fun k hk => a.other k (fun hK => hk (h k hK))⟩

theorem RegsWithin.ite {K : Nat → Prop} {s a b : State} {c : Prop} [Decidable c] (ha : RegsWithin K s a) (hb : RegsWithin K s b) :
    RegsWithin K s (if c then a else b) := by
  split <;> assumption

theorem regsWithin_wf (s : State) (f : Fld) (v i j : Nat) : RegsWithin (· = f.key i j) s (s.wf f v i j) :=
  ⟨rfl, fun _ hk => tabFind_tabSet_ne _ _ _ _ hk⟩

/-- A field's value depends on what is listed at its key alone. -/
theorem rf_congr {s t : State} {p : Fld × Nat × Nat} (h : tabFind t.regs (fieldKey p) = tabFind s.regs (fieldKey p)) :
    t.rf p.1 p.2.1 p.2.2 = s.rf p.1 p.2.1 p.2.2 := by
  simp only [State.rf, tabGet, h]

/-- The step of a pass over fields: it writes at the key of its own field alone. -/
def LocalStep (g : State → Fld × Nat × Nat → State) : Prop := ∀ t p, RegsWithin (· = fieldKey p) t (g t p)

theorem LocalStep.foldl_within {g : State → Fld × Nat × Nat → State} (hg : LocalStep g) (l : List (Fld × Nat × Nat)) (s : State) :
    RegsWithin (fun k => ∃ p ∈ l, fieldKey p = k) s (l.foldl g s) := by
  induction l generalizing s with
  | nil => exact .refl _ s
  | cons p r ih =>
    have first : RegsWithin (fun k => ∃ x ∈ p :: r, fieldKey x = k) s (g s p) :=
      (hg s p).mono fun _ hk => ⟨p, List.mem_cons_self, hk.symm⟩
    have rest : RegsWithin (fun k => ∃ x ∈ p :: r, fieldKey x = k) (g s p) (r.foldl g (g s p)) :=
      (ih (g s p)).mono fun _ ⟨x, hx, hk⟩ => ⟨x, List.mem_cons_of_mem p hx, hk⟩
    exact first.trans rest

/-- Where the keys are distinct, each field ends as its own step leaves it, taken from the value it had at first. -/
theorem LocalStep.foldl_rf {g : State → Fld × Nat × Nat → State} (hg : LocalStep g) {l : List (Fld × Nat × Nat)} (hl : (l.map fieldKey).Nodup)
    (s : State) {p : Fld × Nat × Nat} (hp : p ∈ l) :
    ∃ t : State, t.rf p.1 p.2.1 p.2.2 = s.rf p.1 p.2.1 p.2.2 ∧ (l.foldl g s).rf p.1 p.2.1 p.2.2 = (g t p).rf p.1 p.2.1 p.2.2 := by
  induction l generalizing s with
  | nil => cases hp
  | cons x r ih =>
    obtain ⟨hx, hr⟩ := List.nodup_cons.1 hl
    rcases List.mem_cons.1 hp with rfl | hp
    · have untouched : ¬ ∃ y ∈ r, fieldKey y = fieldKey p := fun ⟨y, hy, hk⟩ => hx (hk ▸ List.mem_map_of_mem hy)
      exact ⟨s, rfl, rf_congr ((hg.foldl_within r (g s p)).other _ untouched)⟩
    · obtain ⟨t, ht, hfold⟩ := ih hr (g s x) hp
      have hne : fieldKey p ≠ fieldKey x := fun h => hx (h ▸ List.mem_map_of_mem hp)
      exact ⟨t, ht.trans (rf_congr ((hg s x).other _ hne)), hfold⟩

/-! ### The word stored -/

/-- What an accepted write of the word v at block address a stores, field by field. -/
def State.storeWord (s : State) (q a v : Nat) : State :=
  (fieldsAt q a).foldl (fun t p => if t.writeVoid q a p.1 p.2.1 p.2.2 then t else t.writeFld p.1 p.2.1 p.2.2 v 0xFFFFFFFF) s

theorem regsWithin_writeFld (s : State) (f : Fld) (i j v m : Nat) : RegsWithin (· = f.key i j) s (s.writeFld f i j v m) := by
  unfold State.writeFld
  cases f.acc with
  | rw | rwc | w1c => exact regsWithin_wf ..
  | rws => exact .ite (.refl _ s) (regsWithin_wf ..)
  | w1s | wo | rc | ro => exact .refl _ s

theorem localStep_storeWord (q a v : Nat) :
    LocalStep (fun t p => if t.writeVoid q a p.1 p.2.1 p.2.2 then t else t.writeFld p.1 p.2.1 p.2.2 v 0xFFFFFFFF) :=
  fun t _ => .ite (.refl _ t) (regsWithin_writeFld ..)

theorem storeWord_within (s : State) (q a v : Nat) : RegsWithin (fun k => ∃ p ∈ fieldsAt q a, fieldKey p = k) s (s.storeWord q a v) :=
  (localStep_storeWord q a v).foldl_within _ s

/-- Fields that are read only, or whose bits act through their register's command, are not stored (R7). -/
theorem writeFld_of_not_stored (s : State) (f : Fld) (i j v m : Nat) (h : f.acc = .ro ∨ f.acc = .wo ∨ f.acc = .w1s ∨ f.acc = .rc) :
    s.writeFld f i j v m = s := by
  rcases h with h | h | h | h <;> simp only [State.writeFld, h]

/-- A word of ones selects every bit of a field that lies in the word. -/
theorem ones_field {lo w : Nat} (h : lo + w ≤ 32) : 0xFFFFFFFF / 2 ^ lo % 2 ^ w = 2 ^ w - 1 := by
  refine Nat.eq_of_testBit_eq fun i => ?_
  have ones : (0xFFFFFFFF : Nat) = 2 ^ 32 - 1 := by decide
  rw [ones, Nat.testBit_mod_two_pow, Nat.testBit_div_two_pow, Nat.testBit_two_pow_sub_one, Nat.testBit_two_pow_sub_one]
  by_cases hi : i < w
  · have hin : i + lo < 32 := by omega
    simp only [hi, hin, decide_true, Bool.and_self]
  · simp only [hi, decide_false, Bool.false_and]

/-- A write that selects all bits of a field replaces its value. -/
theorem xor_land_ones (old v w : Nat) (h : v < 2 ^ w) :
    Nat.xor (Nat.land old (Nat.xor (2 ^ w - 1) (2 ^ w - 1))) (Nat.land v (2 ^ w - 1)) = v := by
  change (old &&& ((2 ^ w - 1) ^^^ (2 ^ w - 1))) ^^^ (v &&& (2 ^ w - 1)) = v
  rw [Nat.xor_self, Nat.and_zero, Nat.zero_xor, Nat.and_two_pow_sub_one_eq_mod, Nat.mod_eq_of_lt h]

theorem rf_writeFld_rw (s : State) (f : Fld) (i j v : Nat) (hacc : f.acc = .rw) (hw : f.lo + f.width ≤ 32) :
    (s.writeFld f i j v 0xFFFFFFFF).rf f i j = v / 2 ^ f.lo % 2 ^ f.width := by
  have hlt : v / 2 ^ f.lo % 2 ^ f.width < 2 ^ f.width := Nat.mod_lt _ (Nat.two_pow_pos _)
  simp only [State.writeFld, hacc, ones_field hw, xor_land_ones _ _ _ hlt, rf_wf_same, Nat.mod_mod]

/-- Only SEC_CTRL and the channel registers of the DMA engines have writes that a rule makes void. -/
theorem writeVoid_of_outside (s : State) (q a : Nat) (f : Fld) (i j : Nat) (hsec : a ≠ 0x1800C) (hch : ¬ (0x450100 ≤ a ∧ a < 0x454000)) :
    s.writeVoid q a f i j = false := by
  have hch' : ¬ (0x450100 ≤ a ∧ a < 0x454000 ∧ 0x100 ≤ a % 0x1000) := fun h => hch ⟨h.1, h.2.1⟩
  simp [State.writeVoid, hsec, hch']

theorem rf_storeWord_of_not_stored (s : State) (q a v : Nat) (hl : ((fieldsAt q a).map fieldKey).Nodup) {p : Fld × Nat × Nat} (hp : p ∈ fieldsAt q a)
    (hacc : p.1.acc = .ro ∨ p.1.acc = .wo ∨ p.1.acc = .w1s ∨ p.1.acc = .rc) :
    (s.storeWord q a v).rf p.1 p.2.1 p.2.2 = s.rf p.1 p.2.1 p.2.2 := by
  obtain ⟨t, ht, hfold⟩ := (localStep_storeWord q a v).foldl_rf hl s hp
  rw [State.storeWord, hfold, writeFld_of_not_stored _ _ _ _ _ _ hacc, ite_self, ht]

theorem rf_storeWord_rw (s : State) (q a v : Nat) (hl : ((fieldsAt q a).map fieldKey).Nodup) {p : Fld × Nat × Nat} (hp : p ∈ fieldsAt q a)
    (hacc : p.1.acc = .rw) (hw : p.1.lo + p.1.width ≤ 32) (hsec : a ≠ 0x1800C) (hch : ¬ (0x450100 ≤ a ∧ a < 0x454000)) :
    (s.storeWord q a v).rf p.1 p.2.1 p.2.2 = v / 2 ^ p.1.lo % 2 ^ p.1.width := by
  obtain ⟨t, -, hfold⟩ := (localStep_storeWord q a v).foldl_rf hl s hp
  rw [State.storeWord, hfold, writeVoid_of_outside t q a _ _ _ hsec hch, if_neg Bool.false_ne_true, rf_writeFld_rw _ _ _ _ _ hacc hw]

/-! ### The RC fields cleared -/

theorem localStep_clearRc : LocalStep (fun t p => if p.1.acc = .rc then t.wf p.1 0 p.2.1 p.2.2 else t) :=
  fun t _ => .ite (regsWithin_wf ..) (.refl _ t)

theorem clearRc_frame (s : State) (l : List (Fld × Nat × Nat)) : { s.clearRc l with regs := s.regs } = s :=
  (localStep_clearRc.foldl_within l s).frame

theorem rf_clearRc (s : State) {l : List (Fld × Nat × Nat)} (hl : (l.map fieldKey).Nodup) {p : Fld × Nat × Nat} (hp : p ∈ l) :
    (s.clearRc l).rf p.1 p.2.1 p.2.2 = if p.1.acc = .rc then 0 else s.rf p.1 p.2.1 p.2.2 := by
  obtain ⟨t, ht, hfold⟩ := localStep_clearRc.foldl_rf hl s hp
  rw [State.clearRc, hfold]
  split
  · simp
  · exact ht

end Sys2Proof.Machine
end

section
/-! One access of a register (R409 to R418, R422, R423): what REGISTER_WRITE and REGISTER_READ answer, by the answer of the bus. -/

namespace Sys2Proof.Machine
open Sys2Proof

/-! ### The checks of a write and of a read -/

theorem regWrite_of_bad_size (s : State) (q off n v : Nat) (h : n ≠ 4 ∨ off % 4 ≠ 0) : s.regWrite q off n v = ⟨busSIZE, false, 0, s⟩ := if_pos h
theorem regRead_of_bad_size (s : State) (q off n : Nat) (h : n ≠ 4 ∨ off % 4 ≠ 0) : s.regRead q off n = ⟨busSIZE, false, 0, s⟩ := if_pos h

section Aligned
variable {s : State} {q off : Nat} (al : off % 4 = 0)
include al

theorem regWrite_of_unassigned (h : s.area18 off = .unassigned) (v : Nat) : s.regWrite q off 4 v = ⟨busUNASSIGNED, false, 0, s⟩ := by
  simp [State.regWrite, al, h]

theorem regRead_of_unassigned (h : s.area18 off = .unassigned) : s.regRead q off 4 = ⟨busUNASSIGNED, false, 0, s⟩ := by
  simp [State.regRead, al, h]

theorem regWrite_of_control {r o : Nat} (h : s.area18 off = .control r o) (v : Nat) : s.regWrite q off 4 v = ⟨busDIRECT, false, 0, s⟩ := by
  simp [State.regWrite, al, h]

theorem regRead_of_control {r o : Nat} (h : s.area18 off = .control r o) (hon : s.dom domSYS = 3) :
    s.regRead q off 4 = ⟨0, false, s.wordAt (ctlFields r o), s.clearRc (ctlFields r o)⟩ := by
  simp [State.regRead, al, h, hon]

theorem regRead_of_bits {r o b : Nat} (h : s.area18 off = .bits r o b) (hon : s.dom domSYS = 3) :
    s.regRead q off 4 = ⟨0, false, s.wordAt (ctlFields r o) / 2 ^ b % 2, s⟩ := by
  simp [State.regRead, al, h, hon]

theorem regRead_of_masked {r o half : Nat} (h : s.area18 off = .masked r o half) (hon : s.dom domSYS = 3) :
    s.regRead q off 4 = ⟨0, false, s.wordAt (ctlFields r o) / 2 ^ (16 * half) % 65536, s⟩ := by
  simp [State.regRead, al, h, hon]

section Block
variable {a d : Nat} (h : s.area18 off = .block a d)
include h

theorem regWrite_of_locked (hen : s.wrEn q (a / 0x200000) = false) (v : Nat) : s.regWrite q off 4 v = ⟨busLOCKED, false, 0, s⟩ := by
  simp [State.regWrite, al, h, hen]

theorem regWrite_of_rising (hen : s.wrEn q (a / 0x200000) = true) (hr : s.domRising d = true) (v : Nat) :
    s.regWrite q off 4 v = ⟨0, true, 0, s⟩ := by
  simp [State.regWrite, al, h, hen, hr]

theorem regRead_of_rising (hr : s.domRising d = true) : s.regRead q off 4 = ⟨0, true, 0, s⟩ := by
  simp [State.regRead, al, h, hr]

theorem regWrite_of_off (hen : s.wrEn q (a / 0x200000) = true) (hr : s.domRising d = false) (ho : s.domOff a d = true) (v : Nat) :
    s.regWrite q off 4 v = ⟨busPOWERED_OFF, false, 0, s⟩ := by
  simp [State.regWrite, al, h, hen, hr, ho]

theorem regRead_of_off (hr : s.domRising d = false) (ho : s.domOff a d = true) : s.regRead q off 4 = ⟨busPOWERED_OFF, false, 0, s⟩ := by
  simp [State.regRead, al, h, hr, ho]

theorem regRead_of_block (hr : s.domRising d = false) (ho : s.domOff a d = false) :
    s.regRead q off 4 = ⟨0, false, s.wordAt (fieldsAt q a), s.clearRc (fieldsAt q a)⟩ := by
  simp [State.regRead, al, h, hr, ho]

theorem regWrite_of_commit (hen : s.wrEn q (a / 0x200000) = true) (hr : s.domRising d = false) (ho : s.domOff a d = false) (hb : s.commitBusy = true)
    (hf : (fieldsAt q a).any (fun p => p.1.acc == .rwc) = true) (v : Nat) : s.regWrite q off 4 v = ⟨busCOMMIT_BUSY, false, 0, s⟩ := by
  simp only [State.regWrite, al, h, hen, hr, ho, hb, hf, ne_eq, not_true_eq_false, or_self, if_false, Bool.not_true, Bool.false_eq_true, Bool.and_self, if_true]

theorem regWrite_of_block (hen : s.wrEn q (a / 0x200000) = true) (hr : s.domRising d = false) (ho : s.domOff a d = false) (hb : s.commitBusy = false)
    (v : Nat) : s.regWrite q off 4 v = ⟨0, false, 0, s.storeWord q a v⟩ := by
  simp [State.regWrite, State.storeWord, al, h, hen, hr, ho, hb]

end Block
end Aligned

/-- A domain that is not ON rises where an exit runs (R417 step 3). -/
theorem domRising_of_exit {s : State} {d : Nat} (hd : s.dom d ≠ 3) (ha : d ≠ domAON) (hk : s.pwr.kind = .exit) : s.domRising d = true := by
  simp [State.domRising, hd, ha, hk]

theorem domRising_of_no_exit {s : State} {d : Nat} (hk : s.pwr.kind ≠ .exit) : s.domRising d = false := by
  simp [State.domRising, hk]

theorem domOff_of_not_on {s : State} {a d : Nat} (hd : s.dom d ≠ 3) (ha : d ≠ domAON) : s.domOff a d = true := by
  simp [State.domOff, hd, ha]

/-! ### The commands, by the answer of the bus -/

/-- A bus error or a wait has no operation of the register. -/
theorem regFull_of_no_effect {s : State} {q off n v : Nat} (h : (s.regWrite q off n v).cause ≠ 0 ∨ (s.regWrite q off n v).waits = true) :
    s.regFull q off n v = s.regWrite q off n v := by
  have hdo : s.regDo q off n v = s.regWrite q off n v := if_pos h
  rw [State.regFull, hdo]
  exact if_pos (h.imp_right .inl)

/-- An accepted write outside the control register of the host path has the register's operation after the word is stored. -/
theorem regFull_of_block {s t : State} {q off v a d : Nat} (h : s.area18 off = .block a d) (ha : a ≠ 0x16000)
    (hw : s.regWrite q off 4 v = ⟨0, false, 0, t⟩) : s.regFull q off 4 v = ⟨0, false, 0, s.regOp t q a v⟩ := by
  have hdo : s.regDo q off 4 v = ⟨0, false, 0, s.regOp t q a v⟩ := by simp [State.regDo, hw, h]
  rw [State.regFull, hdo, h]
  refine ite_eq_left_iff.2 fun _ => ?_
  split
  · next heq => exact absurd (Area18.block.inj heq).1 ha
  · rfl

section Waiting
variable {s : State} {q : Fin 8} {w : Access} (hw : tabFind s.crossing q.val = some w)
include hw

theorem exec_registerWrite_of_waiting (off : BitVec 24) (v : Word) (n : Nat) : exec (.registerWrite q off v n) s = .next s := by
  change Host.Outcome.next (s.regWriteCmd q.val off.toNat v.toNat n) = _
  simp [State.regWriteCmd, hw]

theorem exec_registerRead_of_waiting (off : BitVec 24) (n : Nat) : exec (.registerRead q off n) s = .next s := by
  change Host.Outcome.next (s.regReadCmd q.val off.toNat n) = _
  simp [State.regReadCmd, hw]

end Waiting

section Free
variable {s : State} {q : Fin 8} (free : tabFind s.crossing q.val = none) {off : BitVec 24} {n : Nat}
include free

theorem exec_registerWrite_of_free (v : Word) :
    exec (.registerWrite q off v n) s = .next (s.endWrite q.val off.toNat v.toNat (s.regFull q.val off.toNat n v.toNat)) := by
  change Host.Outcome.next (s.regWriteCmd q.val off.toNat v.toNat n) = _
  simp [State.regWriteCmd, free]

theorem exec_registerRead_of_free : exec (.registerRead q off n) s = .next (s.endRead q.val off.toNat (s.regRead q.val off.toNat n)) := by
  change Host.Outcome.next (s.regReadCmd q.val off.toNat n) = _
  simp [State.regReadCmd, free]

theorem exec_registerWrite_of_cause {v : Word} {c : Nat} (hc : c ≠ 0) (hw : s.regWrite q.val off.toNat n v.toNat = ⟨c, false, 0, s⟩) :
    exec (.registerWrite q off v n) s = .next ((s.busError q.val off.toNat c true).busReply q.val c true) := by
  rw [exec_registerWrite_of_free free, regFull_of_no_effect (by simp [hw, hc]), hw]
  simp [State.endWrite, hc]

theorem exec_registerRead_of_cause {c : Nat} (hc : c ≠ 0) (hr : s.regRead q.val off.toNat n = ⟨c, false, 0, s⟩) :
    exec (.registerRead q off n) s = .next ((s.busError q.val off.toNat c false).busReply q.val c false) := by
  rw [exec_registerRead_of_free free, hr]
  simp [State.endRead, hc]

theorem exec_registerWrite_of_waits {v : Word} (hw : s.regWrite q.val off.toNat n v.toNat = ⟨0, true, 0, s⟩) :
    exec (.registerWrite q off v n) s = .next { s with crossing := tabSet s.crossing q.val { off := off.toNat, wr := some v.toNat } } := by
  rw [exec_registerWrite_of_free free, regFull_of_no_effect (by simp [hw]), hw]
  simp [State.endWrite]

theorem exec_registerRead_of_waits (hr : s.regRead q.val off.toNat n = ⟨0, true, 0, s⟩) :
    exec (.registerRead q off n) s = .next { s with crossing := tabSet s.crossing q.val { off := off.toNat, wr := none } } := by
  rw [exec_registerRead_of_free free, hr]
  simp [State.endRead]

theorem exec_registerRead_of_value {x : Nat} {t : State} (hq : q.val ≠ 2) (hr : s.regRead q.val off.toNat n = ⟨0, false, x, t⟩) :
    exec (.registerRead q off n) s = .next (t.emit (.bus q.val 0 x)) := by
  rw [exec_registerRead_of_free free, hr]
  simp [State.endRead, hq]

theorem exec_registerWrite_of_block {v : Word} {a d : Nat} {t : State} (hq : q.val ≠ 2) (h : s.area18 off.toNat = .block a d) (ha : a ≠ 0x16000)
    (hw : s.regWrite q.val off.toNat 4 v.toNat = ⟨0, false, 0, t⟩) :
    exec (.registerWrite q off v 4) s = .next (s.regOp t q.val a v.toNat) := by
  rw [exec_registerWrite_of_free free, regFull_of_block h ha hw]
  simp [State.endWrite, hq]

theorem exec_registerAccessTimeout_of_free : exec (.registerAccessTimeout q) s = .next s := by
  change execRegisterAccessTimeout q s = _
  simp [execRegisterAccessTimeout, free]

end Free

theorem exec_registerAccessTimeout_of_waiting {s : State} {q : Fin 8} {w : Access} (hw : tabFind s.crossing q.val = some w) :
    exec (.registerAccessTimeout q) s =
      .next (({ s with crossing := tabDel s.crossing q.val }.busError q.val w.off 7 w.wr.isSome).busReply q.val 7 w.wr.isSome) := by
  change execRegisterAccessTimeout q s = _
  simp [execRegisterAccessTimeout, hw, busTIMEOUT]

/-! ### The record of a bus error (R423) -/

/-- The state in which a bus error is reported: the first error named, each counted. -/
def State.busLogged (s : State) (q off cause : Nat) (wr : Bool) : State :=
  (if s.rf REG_ERR_INFO_COUNT = 0 then
    ((((s.wf REG_ERR_ADDR_ADDR off).wf REG_ERR_INFO_REQ q).wb REG_ERR_INFO_WRITE wr).wf REG_ERR_INFO_CAUSE cause) else s).cnt REG_ERR_INFO_COUNT

theorem busError_eq_report (s : State) (q off cause : Nat) (wr : Bool) :
    s.busError q off cause wr = (s.busLogged q off cause wr).report (srcId SYS 18 cause) q off := rfl

theorem busLogged_frame (s : State) (q off cause : Nat) (wr : Bool) : { s.busLogged q off cause wr with regs := s.regs } = s := by
  unfold State.busLogged
  split <;> rfl

theorem rf_busLogged_count (s : State) (q off cause : Nat) (wr : Bool) :
    (s.busLogged q off cause wr).rf REG_ERR_INFO_COUNT = min (s.rf REG_ERR_INFO_COUNT + 1) (2 ^ REG_ERR_INFO_COUNT.width - 1) := by
  have hcut (x : Nat) : min x (2 ^ REG_ERR_INFO_COUNT.width - 1) % 2 ^ REG_ERR_INFO_COUNT.width = min x (2 ^ REG_ERR_INFO_COUNT.width - 1) :=
    Nat.mod_eq_of_lt (Nat.lt_of_le_of_lt (Nat.min_le_right _ _) (by decide))
  unfold State.busLogged State.cnt
  rw [rf_wf_same, hcut]
  split
  · simp [rf_wf, rf_wb, Fld.key, REG_ERR_INFO_COUNT, REG_ERR_ADDR_ADDR, REG_ERR_INFO_REQ, REG_ERR_INFO_WRITE, REG_ERR_INFO_CAUSE]
  · rfl

/-- Counting a bus error changes no other field. -/
theorem rf_cnt_errCount (s : State) (f : Fld) (h : f.key 0 0 ≠ REG_ERR_INFO_COUNT.key 0 0) : (s.cnt REG_ERR_INFO_COUNT).rf f = s.rf f :=
  rf_wf_ne _ _ _ _ _ _ _ _ h

theorem busLogged_of_first {s : State} (h : s.rf REG_ERR_INFO_COUNT = 0) (q off cause : Nat) (wr : Bool) :
    (s.busLogged q off cause wr).rf REG_ERR_ADDR_ADDR = off % 2 ^ 24 ∧ (s.busLogged q off cause wr).rf REG_ERR_INFO_REQ = q % 2 ^ 3
    ∧ (s.busLogged q off cause wr).rf REG_ERR_INFO_CAUSE = cause % 2 ^ REG_ERR_INFO_CAUSE.width ∧ (s.busLogged q off cause wr).rb REG_ERR_INFO_WRITE = wr := by
  unfold State.busLogged State.rb
  rw [if_pos h, rf_cnt_errCount _ _ (by decide), rf_cnt_errCount _ _ (by decide), rf_cnt_errCount _ _ (by decide), rf_cnt_errCount _ _ (by decide)]
  refine ⟨?_, ?_, ?_, ?_⟩
  · simp [rf_wf, rf_wb, Fld.key, REG_ERR_ADDR_ADDR, REG_ERR_INFO_REQ, REG_ERR_INFO_WRITE, REG_ERR_INFO_CAUSE]
  · simp [rf_wf, rf_wb, Fld.key, REG_ERR_INFO_REQ, REG_ERR_INFO_WRITE, REG_ERR_INFO_CAUSE]
  · simp
  · cases wr <;> simp [rf_wf, Fld.key, REG_ERR_INFO_WRITE, REG_ERR_INFO_CAUSE]

theorem busLogged_of_later {s : State} (h : s.rf REG_ERR_INFO_COUNT ≠ 0) (q off cause : Nat) (wr : Bool) :
    (s.busLogged q off cause wr).rf REG_ERR_ADDR_ADDR = s.rf REG_ERR_ADDR_ADDR
    ∧ (s.busLogged q off cause wr).rf REG_ERR_INFO_CAUSE = s.rf REG_ERR_INFO_CAUSE := by
  rw [State.busLogged, if_neg h]
  exact ⟨rf_cnt_errCount _ _ (by decide), rf_cnt_errCount _ _ (by decide)⟩

end Sys2Proof.Machine
end

section
/-! The claim of chapter 00 about register accesses. -/

namespace Sys2Proof.Machine
open Sys2Proof

section
variable {s : State} {q : Fin 8} {off : BitVec 24} {v : Word} (free : tabFind s.crossing q.val = none)
include free

/-- An access of another size, or misaligned. -/
theorem access_of_bad_size {n : Nat} (h : n ≠ 4 ∨ off.toNat % 4 ≠ 0) :
    exec (.registerWrite q off v n) s = .next ((s.busError q.val off.toNat 2 true).busReply q.val 2 true)
    ∧ exec (.registerRead q off n) s = .next ((s.busError q.val off.toNat 2 false).busReply q.val 2 false) :=
  ⟨exec_registerWrite_of_cause free (by decide) (regWrite_of_bad_size _ _ _ _ _ h), exec_registerRead_of_cause free (by decide) (regRead_of_bad_size _ _ _ _ h)⟩

variable (al : off.toNat % 4 = 0)
include al

theorem access_of_unassigned (h : s.area18 off.toNat = .unassigned) :
    exec (.registerWrite q off v 4) s = .next ((s.busError q.val off.toNat 1 true).busReply q.val 1 true)
    ∧ exec (.registerRead q off 4) s = .next ((s.busError q.val off.toNat 1 false).busReply q.val 1 false) :=
  ⟨exec_registerWrite_of_cause free (by decide) (regWrite_of_unassigned al h _), exec_registerRead_of_cause free (by decide) (regRead_of_unassigned al h)⟩

theorem access_of_control {r o : Nat} (h : s.area18 off.toNat = .control r o) :
    exec (.registerWrite q off v 4) s = .next ((s.busError q.val off.toNat 3 true).busReply q.val 3 true)
    ∧ (q.val ≠ 2 → s.dom domSYS = 3 → exec (.registerRead q off 4) s = .next ((s.clearRc (ctlFields r o)).emit (.bus q.val 0 (s.wordAt (ctlFields r o))))) :=
  ⟨exec_registerWrite_of_cause free (by decide) (regWrite_of_control al h _),
    fun hq hon => exec_registerRead_of_value free hq (regRead_of_control al h hon)⟩

section
variable {a d : Nat} (h : s.area18 off.toNat = .block a d)
include h

/-- A block whose domain an exit is powering on: the access waits. -/
theorem access_of_rising (hd : s.dom d ≠ 3) (ha : d ≠ domAON) (hk : s.pwr.kind = .exit) :
    (s.wrEn q.val (a / 0x200000) = true → exec (.registerWrite q off v 4) s = .next { s with crossing := tabSet s.crossing q.val { off := off.toNat, wr := some v.toNat } })
    ∧ exec (.registerRead q off 4) s = .next { s with crossing := tabSet s.crossing q.val { off := off.toNat, wr := none } } :=
  have rising : s.domRising d = true := domRising_of_exit hd ha hk
  ⟨fun hen => exec_registerWrite_of_waits free (regWrite_of_rising al h hen rising _), exec_registerRead_of_waits free (regRead_of_rising al h rising)⟩

/-- A block whose domain is not ON and that no exit powers on. -/
theorem access_of_powered_off (hd : s.dom d ≠ 3) (ha : d ≠ domAON) (hk : s.pwr.kind ≠ .exit) :
    (s.wrEn q.val (a / 0x200000) = true → exec (.registerWrite q off v 4) s = .next ((s.busError q.val off.toNat 6 true).busReply q.val 6 true))
    ∧ exec (.registerRead q off 4) s = .next ((s.busError q.val off.toNat 6 false).busReply q.val 6 false) :=
  have isOff : s.domOff a d = true := domOff_of_not_on hd ha
  have steady : s.domRising d = false := domRising_of_no_exit hk
  ⟨fun hen => exec_registerWrite_of_cause free (by decide) (regWrite_of_off al h hen steady isOff _),
    exec_registerRead_of_cause free (by decide) (regRead_of_off al h steady isOff)⟩

/-- A write that passes every check stores its word, then has its register's operation. -/
theorem write_of_accepted (hr : s.domRising d = false) (ho : s.domOff a d = false) (hen : s.wrEn q.val (a / 0x200000) = true) (hb : s.commitBusy = false)
    (hq : q.val ≠ 2) (ha : a ≠ 0x16000) : ∃ t : State, exec (.registerWrite q off v 4) s = .next (s.regOp t q.val a v.toNat)
      ∧ { t with regs := s.regs } = s
      ∧ (∀ k, (∀ p ∈ fieldsAt q.val a, p.1.key p.2.1 p.2.2 ≠ k) → tabFind t.regs k = tabFind s.regs k)
      ∧ (((fieldsAt q.val a).map (fun p => p.1.key p.2.1 p.2.2)).Nodup → ∀ p ∈ fieldsAt q.val a,
        (p.1.acc = .ro ∨ p.1.acc = .wo ∨ p.1.acc = .w1s ∨ p.1.acc = .rc → t.rf p.1 p.2.1 p.2.2 = s.rf p.1 p.2.1 p.2.2)
        ∧ (p.1.acc = .rw → p.1.lo + p.1.width ≤ 32 → a ≠ 0x1800C → ¬ (0x450100 ≤ a ∧ a < 0x454000) →
          t.rf p.1 p.2.1 p.2.2 = v.toNat / 2 ^ p.1.lo % 2 ^ p.1.width)) :=
  have stored := storeWord_within s q.val a v.toNat
  ⟨s.storeWord q.val a v.toNat, exec_registerWrite_of_block free hq h ha (regWrite_of_block al h hen hr ho hb _), stored.frame,
    fun k hk => stored.other k (fun ⟨p, hp, e⟩ => hk p hp e),
    fun hl _ hp => ⟨rf_storeWord_of_not_stored s _ _ _ hl hp, rf_storeWord_rw s _ _ _ hl hp⟩⟩

/-- A read that passes every check answers the word and clears the RC fields. -/
theorem read_of_accepted (hq : q.val ≠ 2) (hr : s.domRising d = false) (ho : s.domOff a d = false) :
    exec (.registerRead q off 4) s = .next ((s.clearRc (fieldsAt q.val a)).emit (.bus q.val 0 (s.wordAt (fieldsAt q.val a))))
    ∧ { s.clearRc (fieldsAt q.val a) with regs := s.regs } = s
    ∧ (((fieldsAt q.val a).map (fun p => p.1.key p.2.1 p.2.2)).Nodup → ∀ p ∈ fieldsAt q.val a,
      (s.clearRc (fieldsAt q.val a)).rf p.1 p.2.1 p.2.2 = if p.1.acc = .rc then 0 else s.rf p.1 p.2.1 p.2.2) :=
  ⟨exec_registerRead_of_value free hq (regRead_of_block al h hr ho), clearRc_frame _ _, fun hl _ hp => rf_clearRc s hl hp⟩

end
end

/-- R423: every bus error is reported and counted, the first one named. -/
theorem busError_logged (s : State) (q : Fin 8) (o c : Nat) (wr : Bool) : ∃ u : State, s.busError q.val o c wr = u.report (srcId SYS 18 c) q.val o
      ∧ { u with regs := s.regs } = s
      ∧ u.rf REG_ERR_INFO_COUNT = min (s.rf REG_ERR_INFO_COUNT + 1) (2 ^ REG_ERR_INFO_COUNT.width - 1)
      ∧ (s.rf REG_ERR_INFO_COUNT = 0 → u.rf REG_ERR_ADDR_ADDR = o % 2 ^ 24 ∧ u.rf REG_ERR_INFO_REQ = q.val
        ∧ u.rf REG_ERR_INFO_CAUSE = c % 2 ^ REG_ERR_INFO_CAUSE.width ∧ u.rb REG_ERR_INFO_WRITE = wr)
      ∧ (s.rf REG_ERR_INFO_COUNT ≠ 0 → u.rf REG_ERR_ADDR_ADDR = s.rf REG_ERR_ADDR_ADDR ∧ u.rf REG_ERR_INFO_CAUSE = s.rf REG_ERR_INFO_CAUSE) := by
  refine ⟨s.busLogged q.val o c wr, busError_eq_report .., busLogged_frame .., rf_busLogged_count .., fun h => ?_, fun h => busLogged_of_later h ..⟩
  have named := busLogged_of_first h q.val o c wr
  rwa [Nat.mod_eq_of_lt (show q.val < 2 ^ 3 from q.isLt)] at named

/-- Settles O44, by the area of the address and the checks of R417 in their order. -/
theorem registerAccesses : Obligations.RegisterAccesses := by
  intro s q off v
  refine ⟨fun w hw n => ⟨exec_registerWrite_of_waiting hw off v n, exec_registerRead_of_waiting hw off n⟩, fun free => ⟨fun n h => access_of_bad_size free h, fun al => ?_⟩,
    exec_registerAccessTimeout_of_free, fun w hw => exec_registerAccessTimeout_of_waiting hw, busError_logged s q⟩
  refine ⟨access_of_unassigned free al, fun r o h => access_of_control free al h,
    fun r o b h hq hon => exec_registerRead_of_value free hq (regRead_of_bits al h hon),
    fun r o b h hq hon => exec_registerRead_of_value free hq (regRead_of_masked al h hon), fun a d h => ?_⟩
  refine ⟨fun hen => exec_registerWrite_of_cause free (by decide) (regWrite_of_locked al h hen _), access_of_rising free al h, access_of_powered_off free al h,
    fun hr ho hen => ⟨fun hb hf => exec_registerWrite_of_cause free (by decide) (regWrite_of_commit al h hen hr ho hb hf _), write_of_accepted free al h hr ho hen⟩,
    read_of_accepted free al h⟩

end Sys2Proof.Machine
end

section
/-! The PA12 link takes a frame (R33, R34, R36, R38, R41): what a requester's frame does on a free lane, and which slot requests wait. -/

namespace Sys2Proof.Machine
open Sys2Proof

/-- R36: of all commands only MA_DRIVE is posted. -/
theorem posted_eq_false {op : Nat} (h : op ≠ 0x06) (payload : List Byte) : (PlFrame.mk op payload).posted = false := by
  simp [PlFrame.posted, h]

theorem plPut_of_ack (s : State) (a : Nat) {op : Nat} (h : op ≠ 0x06) (payload : List Byte) :
    s.plPut a { op := op, payload := payload } = s.pa12Sent a op payload := by
  rw [State.plPut, posted_eq_false h, if_neg Bool.false_ne_true, State.pa12Sent]

/-- A free lane takes every frame at once (R38, R41). -/
theorem plSend_of_laneFree {s : State} {a : Nat} (free : s.laneFree a) (i : Nat) (f : PlFrame) : s.plSend a i f = s.plPut a f := by
  obtain ⟨up, idle, none_out, empty⟩ := free
  have isUp : s.plUp a = true := by simp [State.plUp, up]
  have isFree : s.plFree a f = true := by simp [State.plFree, idle, none_out]
  simp [State.plSend, isUp, isFree, empty]

theorem plSend_ack_of_laneFree {s : State} {a : Nat} (free : s.laneFree a) (i : Nat) {op : Nat} (h : op ≠ 0x06) (payload : List Byte) :
    s.plSend a i { op := op, payload := payload } = s.pa12Sent a op payload := by
  rw [plSend_of_laneFree free, plPut_of_ack s a h]

theorem plSlotCmd_of_gateOpen {s : State} {a slot : Nat} (gate : s.gateOpen (8 * a + slot) = true) (f : PlFrame) :
    s.plSlotCmd a slot f = s.modPl a (fun p => { p with held := p.held ++ [f] }) := by
  rw [State.plSlotCmd, if_pos gate]

theorem plSlotCmd_of_gateClosed {s : State} {a slot : Nat} (gate : s.gateOpen (8 * a + slot) = false) (f : PlFrame) :
    s.plSlotCmd a slot f = s.plSend a plSEQ f := by
  rw [State.plSlotCmd, gate, if_neg Bool.false_ne_true]

/-! ### Payload bytes -/

theorem plByte_toNat (b : Byte) : plByte b.toNat = b := by simp [plByte]

theorem plByte_mod (n : Nat) : plByte (n % 256) = plByte n := BitVec.eq_of_toNat_eq (by simp [plByte])

theorem plArg_slot (slot : Fin 8) (v : Byte) : plArg [BitVec.ofNat 8 slot.val, v] 0 = slot.val := by
  have small : slot.val < 256 := by omega
  simp [plArg, small]

/-! ### The commands, by the link -/

theorem exec_slotMap_of_taken {s : State} {a : Act} {slot : Fin 8} {head : BitVec 4} (taken : s.headTaken a.val slot.val head.toNat = true) :
    exec (.slotMap a slot head) s = .next (s.emit (.note "SLOT_MAP refused" a.val slot.val)) := by
  change Host.Outcome.next (s.slotMap a.val slot.val head.toNat) = _
  rw [State.slotMap, if_pos taken]

theorem exec_slotMap_of_untaken {s : State} {a : Act} {slot : Fin 8} {head : BitVec 4} (untaken : s.headTaken a.val slot.val head.toNat = false) :
    exec (.slotMap a slot head) s =
      .next (s.plSlotCmd a.val slot.val { op := 0x01, payload := [BitVec.ofNat 8 slot.val, BitVec.ofNat 8 head.toNat] }) := by
  change Host.Outcome.next (s.slotMap a.val slot.val head.toNat) = _
  rw [State.slotMap, untaken, if_neg Bool.false_ne_true]
  rfl

theorem exec_slotMode (s : State) (a : Act) (slot : Fin 8) (mode : BitVec 8) :
    exec (.slotMode a slot mode) s = .next (s.plSlotCmd a.val slot.val { op := 0x02, payload := [BitVec.ofNat 8 slot.val, mode] }) := by
  change Host.Outcome.next (s.slotMode a.val slot.val mode.toNat) = _
  rw [State.slotMode, plByte_toNat]
  rfl

theorem exec_writeCurrent (s : State) (a : Act) (h : BitVec 8) (c : BitVec 6) (amp dur : BitVec 4) :
    exec (.writeCurrent a h c amp dur) s = .next (s.plSend a.val plCORE
      { op := 0x04, payload := [h, BitVec.ofNat 8 c.toNat, BitVec.ofNat 8 amp.toNat, BitVec.ofNat 8 dur.toNat] }) := by
  change Host.Outcome.next (s.writeCurrent a.val h.toNat c.toNat amp.toNat dur.toNat) = _
  rw [State.writeCurrent, plByte_toNat, Nat.mod_eq_of_lt c.isLt, Nat.mod_eq_of_lt amp.isLt, Nat.mod_eq_of_lt dur.isLt]
  rfl

theorem exec_heater (s : State) (a : Act) (h sel : BitVec 8) (p : BitVec 10) :
    exec (.heater a h sel p) s = .next (s.plSend a.val plCORE
      { op := 0x05, payload := [h, sel, BitVec.ofNat 8 (p.toNat % 256), BitVec.ofNat 8 (p.toNat / 256)] }) := by
  change Host.Outcome.next (s.heater a.val h.toNat sel.toNat p.toNat) = _
  rw [State.heater, plByte_toNat, plByte_toNat, ← plByte_mod p.toNat]
  rfl

/-- A held request goes to the link once the gates of its slot are closed (R33). -/
theorem exec_heldSlotRequestSend_of_gateClosed {s : State} {a : Act} {f : PlFrame} {rest : List PlFrame} (held : (s.plSt a.val).held = f :: rest)
    (gate : s.gateOpen (8 * a.val + plArg f.payload 0) = false) :
    exec (.heldSlotRequestSend a) s = .next ((s.modPl a.val (fun p => { p with held := rest })).plSend a.val plSEQ f) := by
  change execHeldSlotRequestSend a s = _
  unfold execHeldSlotRequestSend
  simp only [held, gate, if_neg Bool.false_ne_true]

/-- Which requests are held does not bear on the lane. -/
theorem laneFree_modPl_held {s : State} {a : Nat} (free : s.laneFree a) (l : List PlFrame) : (s.modPl a (fun p => { p with held := l })).laneFree a := by
  simpa [State.laneFree] using free

/-- Settles O6: each command hands its frame to the link, and a free lane takes it. -/
theorem acknowledgedCommandsAreSentAtOnce : Obligations.AcknowledgedCommandsAreSentAtOnce := by
  intro s a free
  have sent {op : Nat} (h : op ≠ 0x06) (i : Nat) (payload : List Byte) :
      Host.Outcome.next (s.plSend a.val i { op := op, payload := payload }) = (.next (s.pa12Sent a.val op payload) : Res) :=
    congrArg _ (plSend_ack_of_laneFree free i h payload)
  refine ⟨fun slot head gate untaken => ?_, fun slot mode gate => ?_, fun h r c => sent (by decide) plCORE _, fun h c amp dur => ?_, fun h sel p => ?_,
    sent (by decide) plCORE _, sent (by decide) plCORE _, fun b => sent (by decide) plCORE _⟩
  · rw [exec_slotMap_of_untaken untaken, plSlotCmd_of_gateClosed gate, sent (by decide)]
  · rw [exec_slotMode, plSlotCmd_of_gateClosed gate, sent (by decide)]
  · rw [exec_writeCurrent, sent (by decide)]
  · rw [exec_heater, sent (by decide)]

/-- Settles O7, by the gates of the slot and the check of R31. -/
theorem slotRequestsWaitForClosedGates : Obligations.SlotRequestsWaitForClosedGates := by
  intro s a
  refine ⟨fun slot head gate untaken => ?_, fun slot mode gate => ?_, fun _ _ => exec_slotMap_of_taken, fun slot op v rest free gate hop held => ?_⟩
  · rw [exec_slotMap_of_untaken untaken, plSlotCmd_of_gateOpen gate]
  · rw [exec_slotMode, plSlotCmd_of_gateOpen gate]
  · have acknowledged : op ≠ 0x06 := by omega
    rw [exec_heldSlotRequestSend_of_gateClosed held (by rwa [plArg_slot]), plSend_ack_of_laneFree (laneFree_modPl_held free rest) _ acknowledged]

end Sys2Proof.Machine
end

section
/-! The PA12 link's frames on the wire, its arbitration and its training (R34 to R38, R41, R43, R45). -/

namespace Sys2Proof.Machine
open Sys2Proof

/-! ### A frame's bytes read back (R34, R35) -/

theorem crc8Bit_lt {c : Nat} (h : c < 256) : crc8Bit c < 256 := by
  unfold crc8Bit
  split
  · exact Nat.xor_lt_two_pow (n := 8) (Nat.mod_lt _ (by decide)) (by decide)
  · omega

theorem crc8Byte_lt {c : Nat} (h : c < 256) (b : Byte) : crc8Byte c b < 256 :=
  List.foldlRecOn (motive := (· < 256)) _ _ (Nat.xor_lt_two_pow (n := 8) h b.isLt) fun _ hc _ _ => crc8Bit_lt hc

theorem crc8_lt (l : List Byte) : crc8 l < 256 :=
  List.foldlRecOn (motive := (· < 256)) l _ (by decide) fun _ hc b _ => crc8Byte_lt hc b

/-- The receiver of a frame reads what its sender put in it. -/
theorem plParse_plBytes {op seq : Nat} {payload : List Byte} (hop : op < 256) (hseq : seq < 16) (hlen : payload.length ≤ 32) :
    plParse (plBytes op seq payload) = some (op, seq, payload) := by
  have len_lt : payload.length < 256 := by omega
  have seq_lt : seq < 256 := by omega
  simp [plParse, plBytes, Nat.mod_eq_of_lt, hop, hseq, seq_lt, len_lt, hlen, crc8_lt, Nat.add_comm 3 payload.length]
  omega

/-! ### Fields of one register -/

/-- Fields of one register stand at different keys. -/
theorem Fld.key_ne_of_lo_ne {f g : Fld} (hbase : g.base = f.base) (hi : g.si = f.si) (hj : g.sj = f.sj) (hlo : g.lo ≠ f.lo) (i j : Nat) :
    g.key i j ≠ f.key i j := by
  simp [Fld.key, hbase, hi, hj, hlo]

/-- A flag written is read. -/
@[simp] theorem rb_wb_same (s : State) {f : Fld} (one : f.width = 1) (b : Bool) (i j : Nat) : (s.wb f b i j).rb f i j = b := by
  cases b <;> simp [State.rb, one]

/-- A link's CMD_BUSY is written without its STATE. -/
theorem plState_wb_cmdBusy (s : State) (b : Bool) (a : Nat) : (s.wb PL_STATUS_CMD_BUSY b a).rf PL_STATUS_STATE a = s.rf PL_STATUS_STATE a :=
  rf_wf_ne _ _ _ _ _ _ _ _ (Fld.key_ne_of_lo_ne (f := PL_STATUS_CMD_BUSY) (g := PL_STATUS_STATE) rfl rfl rfl (by decide) a 0)

/-- PL_STATUS is written without PL_CTRL.ENABLE. -/
theorem plEnable_wf_status (s : State) {f : Fld} (hbase : f.base = 0x874004) (hi : f.si = 0x1000) (v a : Nat) :
    (s.wf f v a).rf PL_CTRL_ENABLE a = s.rf PL_CTRL_ENABLE a := by
  have apart : PL_CTRL_ENABLE.key a 0 ≠ f.key a 0 := by
    simp only [Fld.key, hbase, hi, PL_CTRL_ENABLE]
    omega
  exact rf_wf_ne _ _ _ _ _ _ _ _ apart

theorem domMOT_wb_plEnable (s : State) (b : Bool) (a : Nat) : (s.wb PL_CTRL_ENABLE b a).dom domMOT = s.dom domMOT := by
  have apart : DOM_STATUS0_DOM.key 0 0 ≠ PL_CTRL_ENABLE.key a 0 := by
    simp only [Fld.key, DOM_STATUS0_DOM, PL_CTRL_ENABLE]
    omega
  simp only [State.dom, State.wb, rf_wf_ne _ _ _ _ _ _ _ _ apart]
  rfl

/-! ### Training -/

/-- The link of actuator a is at step 1 of R43 (K28.5 sent, waiting for symbol lock), with nothing outstanding and nothing waiting. -/
structure State.Training (s : State) (a : Nat) : Prop where
  state : s.rf PL_STATUS_STATE a = 1
  busy : s.rf PL_STATUS_CMD_BUSY a = 0
  step : (s.plSt a).step = 2
  outst : (s.plSt a).outst = none
  queue : (s.plSt a).queue = []

section
variable {s : State} {a : Nat} (mot : s.dom domMOT = 3) (enabled : s.rb PL_CTRL_ENABLE a = true)
include mot enabled

theorem plTrain_of_ready : s.plTrain a = ((s.wf PL_STATUS_STATE 1 a).wb PL_STATUS_CMD_BUSY false a).modPl a
    (fun p => { p with step := 2, tries := 0, outst := none, queue := [], held := [], sending := false }) := by
  rw [State.plTrain, if_pos ⟨mot, enabled⟩]

theorem plTrain_training : (s.plTrain a).Training a := by
  rw [plTrain_of_ready mot enabled]
  constructor
  case state => rw [rf_modPl, plState_wb_cmdBusy, rf_wf_same]; rfl
  all_goals simp

theorem pa_plTrain : (s.plTrain a).pa = s.pa := by rw [plTrain_of_ready mot enabled]; rfl

theorem rf_plEnable_plTrain : (s.plTrain a).rf PL_CTRL_ENABLE a = s.rf PL_CTRL_ENABLE a := by
  rw [plTrain_of_ready mot enabled, rf_modPl, State.wb, plEnable_wf_status _ rfl rfl, plEnable_wf_status _ rfl rfl]

end

/-- A write of ENABLE = 1 to a disabled link trains it (R43 step 1). -/
theorem plEnable_of_disabled {s : State} {a : Nat} (disabled : s.rb PL_CTRL_ENABLE a = false) :
    s.plEnable a true = (s.wb PL_CTRL_ENABLE true a).plTrain a := by
  simp [State.plEnable, disabled]

theorem plTrained_of_step3 {s : State} {a : Nat} (train : s.rf PL_STATUS_STATE a = 1) (three : (s.plSt a).step = 3) :
    s.plTrained a = ((s.wf PL_STATUS_LAST_SEQ ((s.rf PL_STATUS_LAST_SEQ a + 1) % 16) a).emit
      (.pa12 a (plBytes 0x0E ((s.rf PL_STATUS_LAST_SEQ a + 1) % 16) []))).modPl a (fun p => { p with step := 4 }) := by
  simp [State.plTrained, train, three]

/-- Step 4 of R43 ends training: the link is UP, and the PA12 has been reset. -/
theorem plTrained_of_step4 {s : State} {a : Nat} (train : s.rf PL_STATUS_STATE a = 1) (four : (s.plSt a).step = 4) :
    s.plTrained a = { (s.wf PL_STATUS_STATE 2 a).modPl a (fun p => { p with step := 0, tries := 0, retrain := false }) with
      pa := s.pa.apply a 0x0E [] } := by
  simp [State.plTrained, train, four]

theorem exec_linkTrainingTimeout_of_triesLeft {s : State} {a : Act} (train : s.rf PL_STATUS_STATE a.val = 1) (tries : (s.plSt a.val).tries < 3) :
    exec (.linkTrainingTimeout a) s = .next (s.modPl a.val (fun p => { p with step := 2, tries := p.tries + 1 })) := by
  change execLinkTrainingTimeout a s = _
  simp only [execLinkTrainingTimeout, train, tries, ne_eq, not_true_eq_false, if_true, if_false]

theorem exec_linkRetrainTimer_of_down {s : State} {a : Act} (retrain : (s.plSt a.val).retrain = true) (down : s.rf PL_STATUS_STATE a.val = 0) :
    exec (.linkRetrainTimer a) s = .next (s.plTrain a.val) := by
  change execLinkRetrainTimer a s = _
  simp [execLinkRetrainTimer, retrain, down]

/-! ### Arbitration, the posted frame, the response -/

theorem plArbitrate_of_nothingWaiting {s : State} {a : Nat} (empty : (s.plSt a).queue = []) : s.plArbitrate a = s.modPl a (fun p => { p with sending := false }) := by
  have none_next (ackFree : Bool) : plNext ackFree [] = none := by cases ackFree <;> rfl
  simp only [State.plArbitrate, plSt_modPl_same, empty, none_next]

theorem exec_maDrive_of_laneFree {s : State} {a : Act} (free : s.laneFree a.val) {l : List (Fin 8 × BitVec 16)} (entries : l ≠ []) (few : l.length ≤ 8) :
    exec (.maDrive a l) s = .next (s.plPut a.val { op := 0x06, payload := maPayload (l.map (fun e => (e.1.val, e.2.toNat))) }) := by
  change Host.Outcome.next (s.maDrive a.val (l.map (fun e => (e.1.val, e.2.toNat)))) = _
  have all : (l.map (fun e => (e.1.val, e.2.toNat))).take 8 = l.map (fun e => (e.1.val, e.2.toNat)) := List.take_of_length_le (by simpa using few)
  rw [State.maDrive, if_neg (by simpa using entries), all, plSend_of_laneFree free]

/-- A posted frame changes what the PA12 holds; its SEQ field is a free value (R36, R39). -/
theorem plPut_of_posted (s : State) (a : Nat) (payload : List Byte) : s.plPut a { op := 0x06, payload := payload } =
    { (s.useFree.emit (.pa12 a (plBytes 0x06 (Config.freeValue s.free).toNat payload))).modPl a (fun p => { p with sending := true }) with
      pa := s.pa.apply a 0x06 payload } := rfl

/-- Of the link a posted frame changes nothing but that the lane is taken. -/
theorem plSt_plPut_of_posted (s : State) (a : Nat) (payload : List Byte) :
    (s.plPut a { op := 0x06, payload := payload }).plSt a = { s.plSt a with sending := true } :=
  plSt_modPl_same (s.useFree.emit (.pa12 a (plBytes 0x06 (Config.freeValue s.free).toNat payload))) a (fun p => { p with sending := true })

/-- R36, R38: a response with status OK and the SEQ sent ends the command, which then has its effect. -/
theorem plResponse_ok {s : State} {a q op rop : Nat} {pay p : List Byte} (outst : (s.plSt a).outst = some { op := op, payload := pay }) (hop : op < 128)
    (hrop : rop = op + 128) (seq : s.rf PL_STATUS_LAST_SEQ a = q) (hq : q < 16) (hlen : p.length ≤ 31) :
    s.plResponse a (plBytes rop q (0 :: p)) false =
      State.plDone { ((s.wb PL_STATUS_CMD_BUSY false a).modPl a (fun x => { x with outst := none, lastResp := some (0, p) })).emit (.note "PA12 status" a 0) with
        pa := s.pa.apply a op pay } a op pay := by
  subst hrop
  have parsed : plParse (plBytes (op + 128) q (0 :: p)) = some (op + 128, q, 0 :: p) := plParse_plBytes (by omega) hq (Nat.succ_le_succ hlen)
  simp only [State.plResponse, parsed, outst, seq, Bool.false_eq_true, if_false, and_self, if_true]
  rfl

/-- STATUS_READ has no effect but its response (R36). -/
theorem exec_pa12Response_of_statusRead {s : State} {a : Act} {q : Nat} {p : List Byte} (outst : (s.plSt a.val).outst = some { op := 0x07, payload := [] })
    (seq : s.rf PL_STATUS_LAST_SEQ a.val = q) (hq : q < 16) (hlen : p.length ≤ 31) :
    exec (.pa12Response a (plBytes 0x87 q (0 :: p)) false) s =
      .next (((s.wb PL_STATUS_CMD_BUSY false a.val).modPl a.val (fun x => { x with outst := none, lastResp := some (0, p) })).emit (.note "PA12 status" a.val 0)) := by
  change Host.Outcome.next (s.plResponse a.val (plBytes 0x87 q (0 :: p)) false) = _
  rw [plResponse_ok outst (by decide) rfl seq hq hlen]
  rfl

/-- Settles O8: MA_DRIVE on a free lane, arbitration, the steps of training, the response. -/
theorem linkTrainingAndFrames : Obligations.LinkTrainingAndFrames := by
  intro s a
  refine ⟨fun l entries few free => ⟨_, exec_maDrive_of_laneFree free entries few, ?_⟩, fun empty => congrArg Host.Outcome.next (plArbitrate_of_nothingWaiting empty),
    fun mot disabled => ?_, fun mot enabled => ?_, fun train three => congrArg Host.Outcome.next (plTrained_of_step3 train three), fun train four => ?_,
    exec_linkTrainingTimeout_of_triesLeft, fun retrain down mot enabled => ?_, fun outst q p seq hlen => ?_⟩
  · obtain ⟨-, -, none_out, -⟩ := free
    have link := plSt_plPut_of_posted s a.val (maPayload (l.map (fun e => (e.1.val, e.2.toNat))))
    have occupied := congrArg Pl.sending link
    have unanswered := (congrArg Pl.outst link).trans none_out
    rw [plPut_of_posted] at unanswered occupied ⊢
    exact ⟨rfl, unanswered, occupied, rfl, rfl⟩
  · have on : (s.wb PL_CTRL_ENABLE true a.val).dom domMOT = 3 := by rw [domMOT_wb_plEnable, mot]
    have enabled : (s.wb PL_CTRL_ENABLE true a.val).rb PL_CTRL_ENABLE a.val = true := rb_wb_same s rfl true _ _
    have set : (s.wb PL_CTRL_ENABLE true a.val).rf PL_CTRL_ENABLE a.val = 1 := rf_wb_same s PL_CTRL_ENABLE true a.val 0
    have training := plTrain_training on enabled
    exact ⟨_, congrArg Host.Outcome.next (plEnable_of_disabled disabled), (rf_plEnable_plTrain on enabled).trans set,
      training.state, training.step, training.outst, training.queue, pa_plTrain on enabled⟩
  · have training := plTrain_training mot enabled
    exact ⟨_, rfl, training.state, training.busy, training.step, training.outst, pa_plTrain mot enabled⟩
  · have link := plSt_modPl_same (s.wf PL_STATUS_STATE 2 a.val) a.val (fun p => { p with step := 0, tries := 0, retrain := false })
    exact ⟨_, congrArg Host.Outcome.next (plTrained_of_step4 train four), rf_wf_same s PL_STATUS_STATE 2 a.val 0, congrArg Pl.step link, rfl⟩
  · have training := plTrain_training mot enabled
    exact ⟨_, exec_linkRetrainTimer_of_down retrain down, training.state, training.step⟩
  · have link := plSt_modPl_same (s.wb PL_STATUS_CMD_BUSY false a.val) a.val (fun x => { x with outst := none, lastResp := some (0, p) })
    exact ⟨_, exec_pa12Response_of_statusRead outst seq q.isLt hlen, rf_wb_same s PL_STATUS_CMD_BUSY false a.val 0, congrArg Pl.outst link, congrArg Pl.lastResp link, rfl, rfl, rfl⟩

end Sys2Proof.Machine
end

section
/-! The events of the PA12 and retries (R38 to R40, R127, R254): what a fault report leaves of the links and the actuators, then each event. -/

namespace Sys2Proof.Machine
open Sys2Proof

/-! ### What a report leaves (R461, R466) -/

/-- t counts the DN_CRC events of every link and the quiet wedges of every actuator as s does. A report in class C4 changes other parts of both
tables: it retracts the actuators and hands LINK_RESET to the links (R259, R466). -/
structure QuietKept (s t : State) : Prop where
  wedgeDn : ∀ a, (t.plSt a).wedgeDn = (s.plSt a).wedgeDn
  quiet : ∀ a, (t.sv a).quiet = (s.sv a).quiet

namespace QuietKept

theorem of_tables {s t : State} (hp : t.plink = s.plink) (hs : t.servo = s.servo) : QuietKept s t :=
  ⟨fun a => by rw [State.plSt, State.plSt, hp], fun a => by rw [State.sv, State.sv, hs]⟩

theorem refl (s : State) : QuietKept s s := of_tables rfl rfl

theorem trans {s t u : State} (h : QuietKept s t) (k : QuietKept t u) : QuietKept s u :=
  ⟨fun a => (k.wedgeDn a).trans (h.wedgeDn a), fun a => (k.quiet a).trans (h.quiet a)⟩

/-- An operation after an update of neither table. -/
theorem after_tables {s t u : State} (h : QuietKept t u) (hp : t.plink = s.plink) (hs : t.servo = s.servo) : QuietKept s u :=
  (of_tables hp hs).trans h

theorem ite {s t u : State} {c : Prop} [Decidable c] (ht : c → QuietKept s t) (hu : QuietKept s u) : QuietKept s (if c then t else u) := by
  split
  · next h => exact ht h
  · exact hu

theorem foldl {β : Type} {g : State → β → State} (hg : ∀ t b, QuietKept t (g t b)) (l : List β) (s : State) : QuietKept s (l.foldl g s) :=
  List.foldlRecOn (motive := QuietKept s) l g (refl s) fun t ht b _ => ht.trans (hg t b)

theorem wf (s : State) (f : Fld) (v i j : Nat) : QuietKept s (s.wf f v i j) := of_tables rfl rfl

theorem emit (s : State) (o : Out) : QuietKept s (s.emit o) := of_tables rfl rfl

theorem modPl (s : State) (a : Nat) {f : Pl → Pl} (hf : ∀ p, (f p).wedgeDn = p.wedgeDn) : QuietKept s (s.modPl a f) := by
  refine ⟨fun b => ?_, fun _ => rfl⟩
  by_cases h : b = a
  · rw [h, plSt_modPl_same, hf]
  · rw [plSt_modPl_ne _ _ _ _ h]

theorem modSv (s : State) (a : Nat) {f : Servo → Servo} (hf : ∀ v, (f v).quiet = v.quiet) : QuietKept s (s.modSv a f) := by
  refine ⟨fun _ => rfl, fun b => ?_⟩
  by_cases h : b = a
  · rw [h, sv_modSv_same, hf]
  · rw [sv_modSv_ne _ _ _ _ h]

end QuietKept

theorem quietKept_cutWrite (s : State) (n : Nat) : QuietKept s (s.cutWrite n) := by
  unfold State.cutWrite
  extract_lets channel hit counted
  refine .ite (fun _ => ?_) (.refl s)
  have count : QuietKept s counted := .ite (fun _ => .wf ..) (.refl s)
  exact count.trans (.of_tables rfl rfl)

theorem quietKept_sqEvent (s : State) (n e : Nat) : QuietKept s (s.sqEvent n e) :=
  .ite (fun _ => .wf ..) (.wf ..)

theorem quietKept_inhibit (s : State) (bit : Nat) (x : Bool) (n : Nat) : QuietKept s (s.inhibit bit x n) :=
  have written : QuietKept s (s.wbit WR_STATUS_INHIBIT bit x n) := .wf ..
  written.trans (.ite (fun _ => (quietKept_cutWrite _ n).trans (quietKept_sqEvent _ n evKILL)) (.refl _))

theorem quietKept_inhibits (s : State) (bit : Nat) (x : Bool) (ns : List Nat) : QuietKept s (s.inhibits bit x ns) :=
  .foldl (fun t n => quietKept_inhibit t bit x n) ns s

theorem quietKept_dropSeek (s : State) (a : Nat) : QuietKept s (s.dropSeek a) := by
  unfold State.dropSeek
  extract_lets noted idle
  have told : QuietKept s noted := by
    unfold noted
    split
    · exact .emit ..
    · exact .refl s
  have ended : QuietKept noted idle := .modSv noted a fun _ => rfl
  exact ((told.trans ended).trans (.wf ..)).trans (.wf ..)

theorem quietKept_startRetract (s : State) (a : Nat) : QuietKept s (s.startRetract a) := by
  unfold State.startRetract
  refine .ite (fun _ => ?_) (.refl s)
  extract_lets cut asked
  have closed : QuietKept s cut := .foldl quietKept_cutWrite (chansOf a) s
  have reset : QuietKept cut asked := .ite (fun _ => .modPl cut a fun _ => rfl) (.refl cut)
  have dropped : QuietKept asked (asked.dropSeek a) := quietKept_dropSeek asked a
  have stepped : QuietKept (asked.dropSeek a) ((asked.dropSeek a).modSv a (fun v => { v with retract := 1 })) := .modSv _ a fun _ => rfl
  exact ((((closed.trans reset).trans dropped).trans stepped).trans (.wf ..)).trans (.wf ..)

theorem quietKept_retractAll (s : State) : QuietKept s s.retractAll := .foldl quietKept_startRetract _ s

/-- A power entry that ends with no actuator to reload. -/
theorem quietKept_abortEntry (s : State) (result : Nat) : QuietKept s (s.abortEntry result false) := by
  unfold State.abortEntry
  refine .ite (fun _ => ?_) (.refl s)
  extract_lets parked ended freed released
  have h1 : QuietKept s ended := .of_tables rfl rfl
  have h2 : QuietKept ended freed := .ite (fun _ => quietKept_inhibits ended inhPOWER false _) (.refl ended)
  have h3 : QuietKept freed released := .foldl (fun t p => .emit t (.note "RELEASE" (partIndex p) 0)) _ freed
  exact ((h1.trans h2).trans h3).trans (.of_tables rfl rfl)

theorem quietKept_startFlush (s : State) : QuietKept s s.startFlush := .of_tables rfl rfl

theorem quietKept_chipFatal (s : State) : QuietKept s s.chipFatal := by
  unfold State.chipFatal
  refine .ite (fun _ => .refl s) ?_
  extract_lets latched collectors stopped shut rings ports told retracted ended
  have h1 : QuietKept s stopped := .of_tables rfl rfl
  have h2 : QuietKept stopped shut := quietKept_inhibits stopped inhFAULT true _
  have h3 : QuietKept shut ports := .of_tables rfl rfl
  have h4 : QuietKept ports told := .foldl (fun t (p : Nat × Port) => .emit t (.port p.1 "ERR_FATAL" 0)) _ ports
  have h5 : QuietKept told retracted := quietKept_retractAll told
  have h6 : QuietKept retracted ended := .ite (fun _ => (QuietKept.wf retracted PWR_STATUS_COMMITTED 0 0 0).trans (quietKept_abortEntry _ 7)) (.refl retracted)
  exact (((((h1.trans h2).trans h3).trans h4).trans h5).trans h6).trans (quietKept_startFlush ended)

theorem quietKept_dupUp (s : State) (rg src n : Nat) : QuietKept s (s.dupUp rg src n) := by
  unfold State.dupUp
  extract_lets collectors regional regionalCollectors waiting
  have h1 : QuietKept s regional := by
    unfold regional
    split
    · exact .ite (fun _ => .of_tables rfl rfl) (.refl s)
    · exact .refl s
  have h2 : QuietKept regional waiting := .of_tables rfl rfl
  refine (h1.trans h2).trans ?_
  split
  · exact .ite (fun _ => .of_tables rfl rfl) (.refl waiting)
  · exact .refl waiting

theorem quietKept_toRegion (s : State) (rg : Nat) (r : FaultRec) : QuietKept s (s.toRegion rg r) := by
  unfold State.toRegion
  split
  · exact .of_tables rfl rfl
  · exact .ite (fun _ => quietKept_dupUp ..) (.of_tables rfl rfl)

theorem quietKept_reportBy (s : State) (rg blk src cell cls detail : Nat) (forced : Bool) : QuietKept s (s.reportBy rg blk src cell cls detail forced) := by
  unfold State.reportBy
  extract_lets key recording recorded opened collectors collected
  have h1 : QuietKept s recorded := .ite (fun _ => .of_tables rfl rfl) (.refl s)
  have h2 : QuietKept recorded collected := by
    unfold collected
    split
    · exact (quietKept_toRegion ..).after_tables rfl rfl
    · refine .ite (fun _ => (quietKept_dupUp ..).after_tables rfl rfl) ?_
      extract_lets merged
      split <;> exact .of_tables rfl rfl
  exact (h1.trans h2).trans (.ite (fun _ => quietKept_chipFatal collected) (.refl collected))

theorem quietKept_report (s : State) (src cell detail : Nat) : QuietKept s (s.report src cell detail) := quietKept_reportBy ..

/-! ### The events (R38 to R40, R127, R254) -/

theorem exec_pa12RetryTimeout_of_retriesLeft {s : State} {a : Act} {f : PlFrame} (outst : (s.plSt a.val).outst = some f)
    (left : (s.plSt a.val).retries < s.rf PL_CTRL_MAX_RETRY a.val) :
    exec (.pa12RetryTimeout a) s = .next (((s.emit (.pa12 a.val (plBytes f.op (s.rf PL_STATUS_LAST_SEQ a.val) f.payload))).modPl a.val
      (fun p => { p with retries := p.retries + 1, sending := true })).report (srcId MED (100 + a.val) 32)) := by
  change execPa12RetryTimeout a s = _
  simp only [execPa12RetryTimeout, outst, left, if_true]
  rfl

/-- The state in which a DN_CRC event has been counted, before its report (R40). -/
def State.dnCounted (s : State) (a : Nat) : State := (s.cnt PL_STATUS_CRC_ERR_DN a).modPl a (fun p => { p with wedgeDn := p.wedgeDn + 1 })

theorem wedgeDn_dnCounted (s : State) (a : Nat) : ((s.dnCounted a).plSt a).wedgeDn = (s.plSt a).wedgeDn + 1 :=
  congrArg Pl.wedgeDn (plSt_modPl_same (s.cnt PL_STATUS_CRC_ERR_DN a) a _)

/-- R39: up to the second DN_CRC of a wedge period the event is counted and reported, and the servo is not told. -/
theorem exec_dnCrc_of_firstTwo {s : State} {a : Act} (few : (s.plSt a.val).wedgeDn ≤ 1) (calm : (s.sv a.val).quiet = 0) :
    exec (.dnCrc a) s = .next ((s.dnCounted a.val).report (srcId MED (plBlock a.val) 33)) := by
  have kept : QuietKept (s.dnCounted a.val) ((s.dnCounted a.val).report (srcId MED (plBlock a.val) 33)) := quietKept_report ..
  have still_calm : (((s.dnCounted a.val).report (srcId MED (plBlock a.val) 33)).sv a.val).quiet = 0 := (kept.quiet a.val).trans calm
  have below_three : (((s.dnCounted a.val).report (srcId MED (plBlock a.val) 33)).plSt a.val).wedgeDn ≠ 3 := by
    rw [kept.wedgeDn, wedgeDn_dnCounted]
    omega
  change execDnCrc a s = _
  rw [State.dnCounted] at *
  simp only [execDnCrc, still_calm, below_three, Nat.lt_irrefl, if_false]

section
variable {s : State} {a h : Nat}

/-- R40, R170: a writer fault of a mapped head stops its channel's writing. -/
theorem writerFault_of_mapped {n : Nat} (mapped : s.headChan a h = some n) (num : Nat) : s.writerFault a h num =
    ((s.inhibit inhWRITER true n).modHd (headIx a h) (fun x => { x with retiredWrite := true })).report (srcId MED (plBlock a) num) h := by
  simp only [State.writerFault, State.shutWrite, mapped]

theorem writerFault_of_unmapped (unmapped : s.headChan a h = none) (num : Nat) : s.writerFault a h num =
    (s.modHd (headIx a h) (fun x => { x with retiredWrite := true })).report (srcId MED (plBlock a) num) h := by
  simp only [State.writerFault, State.shutWrite, unmapped]

end

theorem exec_maOvercurrent_of_unmapped {s : State} {a : Act} {h : Fin 11} (unmapped : s.headChan a.val h.val = none) :
    exec (.maOvercurrent a h) s = .next ((s.wbit MA_STATUS_OVERCUR h.val true a.val).report (srcId MED (100 + a.val) 39) h.val) := by
  change execMaOvercurrent a h s = _
  have written : (s.wbit MA_STATUS_OVERCUR h.val true a.val).headChan a.val h.val = none := unmapped
  simp only [execMaOvercurrent, written]
  rfl

section
variable {s : State} {a : Act} {c : Int}

theorem exec_overtemp_of_rise (hot : 140 < c) (was : (s.plSt a.val).overtemp = false) : exec (.overtemp a c) s =
    .next (((s.modPl a.val (fun p => { p with overtemp := true })).inhibits inhOVERTEMP true (chansOf a.val)).report (srcId MED (plBlock a.val) 40)) := by
  change execOvertemp a c s = _
  rw [execOvertemp, if_pos hot, was, if_neg Bool.false_ne_true]

/-- Between the two limits of R40 the state stays. -/
theorem exec_overtemp_of_between (low : 130 ≤ c) (high : c ≤ 140) : exec (.overtemp a c) s = .next s := by
  change execOvertemp a c s = _
  rw [execOvertemp, if_neg (by omega), if_neg (by omega)]

theorem exec_overtemp_of_fall (cool : c < 130) (was : (s.plSt a.val).overtemp = true) : exec (.overtemp a c) s =
    .next ((s.modPl a.val (fun p => { p with overtemp := false })).inhibits inhOVERTEMP false (chansOf a.val)) := by
  change execOvertemp a c s = _
  rw [execOvertemp, if_neg (by omega), if_pos ⟨cool, was⟩]

end

/-- Settles O9, event by event. -/
theorem pa12EventsReportTheirFault : Obligations.Pa12EventsReportTheirFault := by
  intro s a
  exact ⟨fun _ => exec_pa12RetryTimeout_of_retriesLeft, fun few calm => ⟨_, exec_dnCrc_of_firstTwo few calm, rfl⟩,
    fun _ _ mapped => ⟨congrArg Host.Outcome.next (writerFault_of_mapped mapped 36), congrArg Host.Outcome.next (writerFault_of_mapped mapped 37)⟩,
    fun _ unmapped => congrArg Host.Outcome.next (writerFault_of_unmapped unmapped 36), fun _ => rfl, fun _ _ => rfl, fun _ => exec_maOvercurrent_of_unmapped,
    fun _ => exec_overtemp_of_rise, fun _ => exec_overtemp_of_between, fun _ => exec_overtemp_of_fall⟩

end Sys2Proof.Machine
end

section
/-! The identity memories (R47, R48, R52 to R55): a role starts reading, its transfers, its admission, its re-reading. -/

namespace Sys2Proof.Machine
open Sys2Proof

/-! ### Starting to read -/

theorem hasRole_of_a44 {s : State} (full : s.part = .a44) (r : Nat) : s.hasRole r = true := by
  simp only [State.hasRole, full]

/-- In t role r is read from offset 0, and its records are those of s. -/
structure RoleReading (s t : State) (r : Nat) : Prop where
  state : t.rf MOD_ADMIT_STATE 0 r = 1
  tries : (t.idr r).tries = 0
  buf : (t.idr r).buf = []
  recs : (t.idr r).recs = (s.idr r).recs

theorem idr_roleStart_same (s : State) (r : Nat) : (s.roleStart r).idr r = { s.idr r with tries := 0, buf := [] } :=
  idr_modIdr_same (s.wf MOD_ADMIT_STATE modREADING 0 r) r (fun x => { x with tries := 0, buf := [] })

theorem idr_roleStart_ne (s : State) {q r : Nat} (h : r ≠ q) : (s.roleStart q).idr r = s.idr r :=
  idr_modIdr_ne (s.wf MOD_ADMIT_STATE modREADING 0 q) q r (fun x => { x with tries := 0, buf := [] }) h

/-- Roles have registers of their own. -/
theorem admitState_roleStart_ne (s : State) {q r : Nat} (h : r ≠ q) : (s.roleStart q).rf MOD_ADMIT_STATE 0 r = s.rf MOD_ADMIT_STATE 0 r := by
  have apart : MOD_ADMIT_STATE.key 0 r ≠ MOD_ADMIT_STATE.key 0 q := by
    simp only [Fld.key, MOD_ADMIT_STATE]
    omega
  exact rf_wf_ne s _ _ _ _ _ _ _ apart

theorem recs_roleStart (s : State) (q r : Nat) : ((s.roleStart q).idr r).recs = (s.idr r).recs := by
  by_cases h : r = q
  · rw [h, idr_roleStart_same]
  · rw [idr_roleStart_ne s h]

theorem roleStart_reading (s : State) (r : Nat) : RoleReading s (s.roleStart r) r where
  state := rf_wf_same s MOD_ADMIT_STATE 1 0 r
  tries := by rw [idr_roleStart_same]
  buf := by rw [idr_roleStart_same]
  recs := recs_roleStart s r r

theorem RoleReading.roleStart {s t : State} {r : Nat} (h : RoleReading s t r) (q : Nat) : RoleReading s (t.roleStart q) r := by
  have recs : ((t.roleStart q).idr r).recs = (s.idr r).recs := (recs_roleStart t q r).trans h.recs
  by_cases same : r = q
  · obtain ⟨state, tries, buf, -⟩ := roleStart_reading t r
    rw [← same] at recs ⊢
    exact ⟨state, tries, buf, recs⟩
  · refine ⟨(admitState_roleStart_ne t same).trans h.state, ?_, ?_, recs⟩
    · rw [idr_roleStart_ne t same, h.tries]
    · rw [idr_roleStart_ne t same, h.buf]

/-- A pass that starts role r leaves it reading, whatever it starts before and after. -/
theorem foldl_roleStart_reading (s : State) {r : Nat} {l : List Nat} (h : r ∈ l) : RoleReading s (l.foldl State.roleStart s) r := by
  obtain ⟨before, after, rfl⟩ := List.append_of_mem h
  rw [List.foldl_append, List.foldl_cons]
  have recs : ((before.foldl State.roleStart s).idr r).recs = (s.idr r).recs :=
    List.foldlRecOn (motive := fun t => (t.idr r).recs = (s.idr r).recs) before _ rfl fun t ht q _ => (recs_roleStart t q r).trans ht
  obtain ⟨state, tries, buf, own⟩ := roleStart_reading (before.foldl State.roleStart s) r
  exact List.foldlRecOn (motive := fun t => RoleReading s t r) after _ ⟨state, tries, buf, own.trans recs⟩ fun _ ht q _ => ht.roleStart q

/-- On the A44, which has every role (R47), no role of the pass is absent. -/
theorem foldl_roles_of_a44 (l : List Nat) {s : State} (full : s.part = .a44) :
    l.foldl (fun t r => if t.hasRole r then t.roleStart r else t.wf MOD_ADMIT_STATE modABSENT 0 r) s = l.foldl State.roleStart s := by
  induction l generalizing s with
  | nil => rfl
  | cons q l ih =>
    have kept : (s.roleStart q).part = .a44 := full
    rw [List.foldl_cons, List.foldl_cons, if_pos (hasRole_of_a44 full q), ih kept]

theorem identityStart_of_a44 {s : State} (full : s.part = .a44) : s.identityStart = (List.range 12).foldl State.roleStart s :=
  foldl_roles_of_a44 _ full

theorem exec_identityReadStart_of_a44 {s : State} (on : s.dom domSYS = 3) (full : s.part = .a44) :
    exec .identityReadStart s = .next ((List.range 12).foldl State.roleStart s) := by
  change execIdentityReadStart s = _
  rw [execIdentityReadStart, if_pos on, identityStart_of_a44 full]

/-! ### Transfers (R48) -/

theorem roleRetry_of_triesLeft {s : State} {r : Nat} (left : (s.idr r).tries < 3) (reason : Nat) :
    s.roleRetry r reason = s.modIdr r (fun x => { x with tries := x.tries + 1 }) := by
  rw [State.roleRetry, if_pos left]

theorem roleRetry_of_exhausted {s : State} {r : Nat} (spent : (s.idr r).tries = 3) (reason : Nat) : s.roleRetry r reason = s.roleRefuse r reason := by
  rw [State.roleRetry, if_neg (by omega)]

section
variable {s : State} {r : Fin 12} (reading : s.rf MOD_ADMIT_STATE 0 r.val = modREADING)
include reading

theorem exec_identityTransferDone_of_data (b : List Byte) :
    exec (.identityTransferDone r (.data b)) s = .next (s.modIdr r.val (fun x => { x with tries := 0, buf := x.buf ++ b })) := by
  change execIdentityTransferDone r (.data b) s = _
  rw [execIdentityTransferDone, if_neg (not_not_intro reading)]

theorem exec_identityTransferDone_of_nack : exec (.identityTransferDone r .nack) s = .next (s.roleRetry r.val 0x01) := by
  change execIdentityTransferDone r .nack s = _
  rw [execIdentityTransferDone, if_neg (not_not_intro reading)]

theorem exec_identityTransferTimeout_of_reading : exec (.identityTransferTimeout r) s = .next (s.roleRetry r.val 0x02) := by
  change execIdentityTransferTimeout r s = _
  rw [execIdentityTransferTimeout, if_pos reading]

/-- A first admission: every check of R52 passes and the role is not re-read. -/
theorem exec_moduleAdmission_of_passed {ok : Bool} (passed : s.admitReason r.val ok = 0) (first : s.rf MOD_ADMIT_REREAD 0 r.val = 0) :
    exec (.moduleAdmission r ok) s =
      .next (((((s.wf MOD_ADMIT_STATE 2 0 r.val).wf MOD_ADMIT_REASON 0 0 r.val).wf MOD_ADMIT_KEY_INDEX (idKey (s.idr r.val).buf) 0 r.val).wb MOD_ADMIT_REREAD
        false 0 r.val).modIdr r.val (fun x => { x with recs := (idRecords 2048 (idBody (s.idr r.val).buf)).getD [] })) := by
  change Host.Outcome.next (s.moduleAdmit r.val ok) = _
  have not_again : s.rb MOD_ADMIT_REREAD 0 r.val = false := by simp [State.rb, first]
  rw [State.moduleAdmit, if_neg (not_not_intro reading)]
  simp only [passed, not_again, ne_eq, not_true_eq_false, if_false, Bool.false_and, Bool.false_eq_true]
  rfl

end

/-! ### Re-reading (R55) -/

theorem exec_modReread_of_admitted {s : State} {r : Fin 12} (full : s.part = .a44) (admitted : s.rf MOD_ADMIT_STATE 0 r.val = modADMITTED) :
    exec (.modReread r) s =
      .next (if s.roleIdle r.val then (s.wb MOD_ADMIT_REREAD true 0 r.val).roleStart r.val else s.wf MOD_ADMIT_REASON 0x0D 0 r.val) := by
  change Host.Outcome.next (s.modReread r.val) = _
  have accepted : ¬ ((!s.hasRole r.val) = true ∨ s.rf MOD_ADMIT_STATE 0 r.val = modREADING) := by
    simp [hasRole_of_a44 full, admitted, modREADING, modADMITTED]
  rw [State.modReread, if_neg accepted]

/-- Settles O10: the start, the transfers and the admission of a role that reads, the re-reading of an admitted one. -/
theorem identityMemoriesAreReadAndAdmitted : Obligations.IdentityMemoriesAreReadAndAdmitted := by
  intro s r
  refine ⟨fun on full => ?_, fun reading => ⟨exec_identityTransferDone_of_data reading, fun left => ?_, fun spent => ?_, fun _ => exec_moduleAdmission_of_passed reading⟩,
    fun full admitted idle => ?_, fun full admitted used => ?_⟩
  · obtain ⟨state, tries, buf, recs⟩ := foldl_roleStart_reading s (List.mem_range.2 r.isLt)
    exact ⟨_, exec_identityReadStart_of_a44 on full, state, tries, buf, recs⟩
  · rw [exec_identityTransferDone_of_nack reading, exec_identityTransferTimeout_of_reading reading, roleRetry_of_triesLeft left, roleRetry_of_triesLeft left]
    exact ⟨rfl, rfl⟩
  · rw [exec_identityTransferDone_of_nack reading, exec_identityTransferTimeout_of_reading reading, roleRetry_of_exhausted spent, roleRetry_of_exhausted spent]
    exact ⟨rfl, rfl⟩
  · rw [exec_modReread_of_admitted full admitted, if_pos idle]
    rfl
  · rw [exec_modReread_of_admitted full admitted, used, if_neg Bool.false_ne_true]

end Sys2Proof.Machine
end

section
/-! The states of a timing recovery unit (R61, R62, R64, R77, R81, R82): fields of blocks a page apart, then each command by the state it finds. -/

namespace Sys2Proof.Machine
open Sys2Proof

/-! ### Fields of blocks a page apart -/

/-- The copies of the field stand a page apart, as those of the channels and of the TRUs do. -/
def Fld.Paged (f : Fld) : Prop := f.si = 0x1000 ∧ f.sj = 0

/-- Where in its page the field stands: 32 * offset + lowest bit. -/
def Fld.place (f : Fld) : Nat := (f.base * 32 + f.lo) % 0x20000

theorem Fld.Paged.key_mod {f : Fld} (h : f.Paged) (i j : Nat) : f.key i j % 0x20000 = f.place := by
  obtain ⟨hi, hj⟩ := h
  simp only [Fld.key, Fld.place, hi, hj]
  omega

theorem Fld.key_ne_of_place_ne {f g : Fld} (hf : f.Paged) (hg : g.Paged) (h : g.place ≠ f.place) (i j i' j' : Nat) : g.key i' j' ≠ f.key i j :=
  fun same => h (by rw [← hg.key_mod i' j', same, hf.key_mod])

theorem rf_wf_of_place_ne (s : State) {f g : Fld} (hf : f.Paged) (hg : g.Paged) (h : g.place ≠ f.place) (v i j i' j' : Nat) :
    (s.wf f v i j).rf g i' j' = s.rf g i' j' :=
  rf_wf_ne _ _ _ _ _ _ _ _ (Fld.key_ne_of_place_ne hf hg h i j i' j')

/-! ### The commands, by the state of the TRU -/

/-- A write of TRU_CTRL leaves TRU_STATUS.STATE. -/
theorem truSt_ctrl (s : State) (a : Nat) (enable hold : Bool) :
    ((s.wb TRU_CTRL_ENABLE enable a).wb TRU_CTRL_HOLD hold a).truSt a = s.truSt a := by
  simp only [State.truSt, State.wb]
  rw [rf_wf_of_place_ne _ ⟨rfl, rfl⟩ ⟨rfl, rfl⟩ (by decide), rf_wf_of_place_ne _ ⟨rfl, rfl⟩ ⟨rfl, rfl⟩ (by decide)]

/-- The TRU is acquiring: in FREQ_ACQ, PHASE_ACQ or FRAME_SYNC. -/
def State.truAcquiring (s : State) (a : Nat) : Prop := s.truSt a = truFREQ ∨ s.truSt a = truPHASE ∨ s.truSt a = truSYNC

/-- HOLD = 1 ends an acquisition in HOLDOVER. -/
theorem truCtrl_hold_of_acquiring {s : State} {a : Nat} (acquiring : s.truAcquiring a) :
    s.truCtrl a true true = ((s.wb TRU_CTRL_ENABLE true a).wb TRU_CTRL_HOLD true a).setTru a truHOLDOVER := by
  have not_locked : s.truSt a ≠ truLOCKED := by
    rcases acquiring with h | h | h <;> rw [h] <;> decide
  have found := truSt_ctrl s a true true
  rw [State.truCtrl]
  simp only [found, Bool.not_true, Bool.false_eq_true, if_false, if_true, if_neg not_locked]
  exact if_pos acquiring

section
variable {s : State} {a : Act}

/-- R62: with all its conditions met, OFF leads to FREQ_ACQ. -/
theorem exec_truAcqStart_of_ready (off : s.truSt a.val = truOFF) (enabled : s.rf TRU_CTRL_ENABLE a.val = 1) (flying : (s.tr a.val).flying = true)
    (atSpeed : s.spinOk = true) : exec (.truAcqStart a) s = .next (s.setTru a.val truFREQ) :=
  if_pos ⟨off, beq_iff_eq.2 enabled, flying, atSpeed⟩

theorem exec_truFreqAcquired_of_freq (freq : s.truSt a.val = truFREQ) : exec (.truFreqAcquired a) s = .next (s.setTru a.val truPHASE) :=
  congrArg Host.Outcome.next (if_pos freq)

theorem exec_truPhaseAcquired_of_phase (phase : s.truSt a.val = truPHASE) : exec (.truPhaseAcquired a) s = .next (s.setTru a.val truSYNC) :=
  congrArg Host.Outcome.next (if_pos phase)

theorem exec_truCarrierReturn_of_free (holdover : s.truSt a.val = truHOLDOVER) (free : s.rf TRU_CTRL_HOLD a.val = 0) :
    exec (.truCarrierReturn a) s = .next (s.setTru a.val truFREQ) :=
  congrArg Host.Outcome.next (if_pos ⟨holdover, by simp [State.rb, free]⟩)

theorem exec_truCarrierReturn_of_held (held : s.rf TRU_CTRL_HOLD a.val = 1) : exec (.truCarrierReturn a) s = .next s :=
  congrArg Host.Outcome.next (if_neg fun h => by simp [State.rb, held] at h)

/-- REACQ of a TRU that is not LOCKED has no gate to close. -/
theorem truReacq_of_unlocked {a : Nat} (on : s.truSt a ≠ truOFF) (unlocked : s.truSt a ≠ truLOCKED) :
    s.truReacq a = (s.setTru a truFREQ).modTr a (fun t => { t with retired := false }) := by
  rw [State.truReacq, if_neg on, if_neg unlocked]

theorem exec_relockLimitExpiry_of_holdover (kill : (s.tr a.val).kill = true) (holdover : s.truSt a.val = truHOLDOVER) :
    exec (.relockLimitExpiry a) s = .next (((s.setTru a.val truFAILED).modTr a.val (fun t => { t with retired := true })).startPark a.val) :=
  if_pos ⟨kill, by rw [holdover]; decide⟩

theorem exec_clockHeadFailTimeout_of_first (flying : (s.tr a.val).flying = true) (freq : s.truSt a.val = truFREQ) (first : (s.tr a.val).failed = false) :
    exec (.clockHeadFailTimeout a) s = .next ((((s.modTr a.val (fun t => { t with failed := true })).startPark a.val).modSv a.val
      (fun v => { v with retireAt := true })).truReport a.val 1 0 0) :=
  if_pos ⟨flying, freq, by rw [first]; rfl⟩

theorem exec_clockHeadFailTimeout_of_failed (failed : (s.tr a.val).failed = true) : exec (.clockHeadFailTimeout a) s = .next s :=
  if_neg fun ⟨_, _, again⟩ => by simp [failed] at again

end

/-- Settles O11, command by command. -/
theorem truStateMachine : Obligations.TruStateMachine := by
  intro s a go
  refine ⟨rfl, fun acquiring => congrArg Host.Outcome.next (truCtrl_hold_of_acquiring acquiring), exec_truAcqStart_of_ready, exec_truFreqAcquired_of_freq,
    exec_truPhaseAcquired_of_phase, exec_truCarrierReturn_of_free, fun _ => exec_truCarrierReturn_of_held, fun idle => ?_, exec_relockLimitExpiry_of_holdover,
    exec_clockHeadFailTimeout_of_first, exec_clockHeadFailTimeout_of_failed⟩
  have on : s.truSt a.val ≠ truOFF := by rcases idle with h | h <;> rw [State.truSt, h] <;> decide
  have unlocked : s.truSt a.val ≠ truLOCKED := by rcases idle with h | h <;> rw [State.truSt, h] <;> decide
  exact congrArg Host.Outcome.next (truReacq_of_unlocked on unlocked)

end Sys2Proof.Machine
end

section
/-! Loss of lock (R65, R77 to R79): what closing the gates of a half-stack and requeueing its sectors keep, and what they bring about. -/

namespace Sys2Proof.Machine
open Sys2Proof

/-! ### A cause set is read -/

theorem bitOf_eq_testBit (v b : Nat) : bitOf v b = v.testBit b := by
  rw [bitOf, Nat.testBit_eq_decide_div_mod_eq]
  rfl

/-- The width of a field does not cut off a bit that lies in it. -/
theorem bitOf_mod_two_pow {b w : Nat} (h : b < w) (v : Nat) : bitOf (v % 2 ^ w) b = bitOf v b := by
  rw [bitOf_eq_testBit, bitOf_eq_testBit, Nat.testBit_mod_two_pow, decide_eq_true h, Bool.true_and]

theorem bitOf_setBit_true (v b : Nat) : bitOf (setBit v b true) b = true := by
  unfold setBit
  split
  · next already => exact already
  · next clear =>
    rw [bitOf_eq_testBit] at clear
    rw [if_pos rfl, bitOf_eq_testBit, Nat.add_comm, Nat.testBit_two_pow_add_eq, eq_false_of_ne_true clear, Bool.not_false]

theorem rbit_wbit_true {f : Fld} {b : Nat} (h : b < f.width) (s : State) (i j : Nat) : (s.wbit f b true i j).rbit f b i j = true := by
  rw [State.rbit, State.wbit, rf_wf_same, bitOf_mod_two_pow h, bitOf_setBit_true]

/-! ### What a kill keeps -/

/-- The counts and latches of a channel that a kill writes beside the inhibit causes. -/
def killFields : List Fld := [WR_STATUS_SUSPECT, SQ_STATUS_EVT, SQ_COUNT_EV_OVR]

/-- From s to t a kill goes on: no TRU has changed and no other register of a page; a channel held under TIMEBASE is still held, and a gate that is
closed is still closed. -/
structure KillKept (s t : State) : Prop where
  tru : t.tru = s.tru
  other : ∀ g : Fld, g.Paged → g.place ∉ (WR_STATUS_INHIBIT :: killFields).map Fld.place → ∀ i j, t.rf g i j = s.rf g i j
  held : ∀ n, s.rbit WR_STATUS_INHIBIT inhTIMEBASE n = true → t.rbit WR_STATUS_INHIBIT inhTIMEBASE n = true
  rgate : ∀ n, (s.ch n).rgate = false → (t.ch n).rgate = false
  wgate : ∀ n, (s.ch n).wgate = false → (t.ch n).wgate = false

namespace KillKept

theorem refl (s : State) : KillKept s s := ⟨rfl, fun _ _ _ _ _ => rfl, fun _ => id, fun _ => id, fun _ => id⟩

theorem trans {s t u : State} (h : KillKept s t) (k : KillKept t u) : KillKept s u where
  tru := k.tru.trans h.tru
  other g paged out i j := (k.other g paged out i j).trans (h.other g paged out i j)
  held n := k.held n ∘ h.held n
  rgate n := k.rgate n ∘ h.rgate n
  wgate n := k.wgate n ∘ h.wgate n

theorem ite {s t u : State} {c : Prop} [Decidable c] (ht : KillKept s t) (hu : KillKept s u) : KillKept s (if c then t else u) := by
  split <;> assumption

theorem foldl {β : Type} {g : State → β → State} (hg : ∀ t b, KillKept t (g t b)) (l : List β) (s : State) : KillKept s (l.foldl g s) :=
  List.foldlRecOn (motive := KillKept s) l g (refl s) fun t ht b _ => ht.trans (hg t b)

/-- What a kill keeps and one step of a pass brings about holds at the end of the pass. -/
theorem foldl_of_mem {β : Type} {g : State → β → State} (hg : ∀ t b, KillKept t (g t b)) {P : State → Prop} (kept : ∀ t u, KillKept t u → P t → P u)
    {b : β} (step : ∀ t, P (g t b)) {l : List β} (h : b ∈ l) (s : State) : P (l.foldl g s) := by
  obtain ⟨before, after, rfl⟩ := List.append_of_mem h
  rw [List.foldl_append, List.foldl_cons]
  exact kept _ _ (foldl hg after _) (step _)

theorem wf {f : Fld} (h : f ∈ killFields) (s : State) (v i j : Nat) : KillKept s (s.wf f v i j) := by
  have apart : ∀ f ∈ killFields, f.si = 0x1000 ∧ f.sj = 0 ∧ WR_STATUS_INHIBIT.place ≠ f.place := by decide
  obtain ⟨hi, hj, cause⟩ := apart f h
  refine ⟨rfl, fun g paged out i' j' => rf_wf_of_place_ne s ⟨hi, hj⟩ paged (fun same => out ?_) v i j i' j', fun n held => ?_, fun _ => id, fun _ => id⟩
  · exact List.mem_cons_of_mem _ (same ▸ List.mem_map_of_mem h)
  · rwa [State.rbit, rf_wf_of_place_ne s ⟨hi, hj⟩ ⟨rfl, rfl⟩ cause]

theorem modCh (s : State) (n : Nat) {f : ChanSt → ChanSt} (hr : ∀ c, c.rgate = false → (f c).rgate = false)
    (hw : ∀ c, c.wgate = false → (f c).wgate = false) : KillKept s (s.modCh n f) := by
  refine ⟨rfl, fun _ _ _ _ _ => rfl, fun _ => id, fun m closed => ?_, fun m closed => ?_⟩
  all_goals
    by_cases h : m = n
    · subst h
      simp [closed, hr, hw]
    · rwa [ch_modCh_ne _ _ _ _ h]

end KillKept

theorem killKept_setTimebase (s : State) (n : Nat) : KillKept s (s.wbit WR_STATUS_INHIBIT inhTIMEBASE true n) := by
  refine ⟨rfl, fun g paged out i j => rf_wf_of_place_ne s ⟨rfl, rfl⟩ paged (fun same => out ?_) _ n 0 i j, fun m held => ?_, fun _ => id, fun _ => id⟩
  · exact same ▸ List.mem_cons_self
  · by_cases h : m = n
    · rw [h]
      exact rbit_wbit_true (by decide) s n 0
    · have apart : WR_STATUS_INHIBIT.key m 0 ≠ WR_STATUS_INHIBIT.key n 0 := by
        simp only [Fld.key, WR_STATUS_INHIBIT]
        omega
      rwa [State.rbit, State.wbit, rf_wf_ne _ _ _ _ _ _ _ _ apart]

/-! ### The gates (R77 steps 1 and 2, R78) -/

theorem killKept_cutWrite (s : State) (n : Nat) : KillKept s (s.cutWrite n) := by
  unfold State.cutWrite
  extract_lets channel hit counted
  have count : KillKept s counted := .ite (.wf (by decide) ..) (.refl s)
  exact .ite (count.trans (.modCh _ n (fun _ => id) fun _ _ => rfl)) (.refl s)

theorem killKept_cutRead (s : State) (n : Nat) : KillKept s (s.cutRead n) :=
  .ite (.modCh _ n (fun _ _ => rfl) fun _ => id) (.refl s)

theorem killKept_shutGates (s : State) (n : Nat) : KillKept s (s.shutGates n) := (killKept_cutWrite s n).trans (killKept_cutRead _ n)

theorem killKept_sqEvent (s : State) (n e : Nat) : KillKept s (s.sqEvent n e) := .ite (.wf (by decide) ..) (.wf (by decide) ..)

theorem wgate_cutWrite (s : State) (n : Nat) : ((s.cutWrite n).ch n).wgate = false := by
  unfold State.cutWrite
  extract_lets channel hit counted
  split
  · rw [ch_modCh_same]
  · next closed => exact eq_false_of_ne_true closed

theorem rgate_cutRead (s : State) (n : Nat) : ((s.cutRead n).ch n).rgate = false := by
  unfold State.cutRead
  extract_lets channel hit
  split
  · rw [ch_modCh_same]
  · next closed => exact eq_false_of_ne_true closed

theorem gateOpen_eq_false {s : State} {n : Nat} : s.gateOpen n = false ↔ (s.ch n).rgate = false ∧ (s.ch n).wgate = false := Bool.or_eq_false_iff

theorem KillKept.gateShut {s t : State} (h : KillKept s t) (n : Nat) (shut : s.gateOpen n = false) : t.gateOpen n = false :=
  gateOpen_eq_false.2 ((gateOpen_eq_false.1 shut).imp (h.rgate n) (h.wgate n))

theorem gateOpen_shutGates (s : State) (n : Nat) : (s.shutGates n).gateOpen n = false :=
  gateOpen_eq_false.2 ⟨rgate_cutRead _ n, (killKept_cutRead _ n).wgate n (wgate_cutWrite s n)⟩

/-- After the cause is set, an edge closes the write gate and latches KILL. -/
theorem killKept_inhibit_of_set (s : State) (n : Nat) : KillKept (s.wbit WR_STATUS_INHIBIT inhTIMEBASE true n) (s.inhibit inhTIMEBASE true n) :=
  .ite ((killKept_cutWrite _ n).trans (killKept_sqEvent _ n evKILL)) (.refl _)

theorem killKept_inhibit (s : State) (n : Nat) : KillKept s (s.inhibit inhTIMEBASE true n) := (killKept_setTimebase s n).trans (killKept_inhibit_of_set s n)

theorem inhibit_held (s : State) (n : Nat) : (s.inhibit inhTIMEBASE true n).rbit WR_STATUS_INHIBIT inhTIMEBASE n = true :=
  (killKept_inhibit_of_set s n).held n (rbit_wbit_true (by decide) s n 0)

theorem killKept_killEvents (s : State) (l : List Nat) : KillKept s (l.foldl (fun t n => t.sqEvent n evKILL) s) :=
  .foldl (fun t n => killKept_sqEvent t n evKILL) l s

theorem killKept_inhibits (s : State) (l : List Nat) : KillKept s (s.inhibits inhTIMEBASE true l) := .foldl killKept_inhibit l s

theorem killKept_gateKill (s : State) (a : Nat) : KillKept s (s.gateKill a) :=
  ((KillKept.foldl killKept_shutGates (chansOf a) s).trans (killKept_inhibits _ _)).trans (killKept_killEvents _ _)

/-- R77 steps 1 and 2: every channel of the half-stack is held under TIMEBASE with both gates closed. -/
theorem gateKill_holds (s : State) {a n : Nat} (h : n ∈ chansOf a) :
    (s.gateKill a).rbit WR_STATUS_INHIBIT inhTIMEBASE n = true ∧ (s.gateKill a).gateOpen n = false := by
  have shut : (s.shutHalf a).gateOpen n = false :=
    KillKept.foldl_of_mem (P := (State.gateOpen · n = false)) killKept_shutGates (fun _ _ k => k.gateShut n) (gateOpen_shutGates · n) h s
  have held : ((s.shutHalf a).inhibits inhTIMEBASE true (chansOf a)).rbit WR_STATUS_INHIBIT inhTIMEBASE n = true :=
    KillKept.foldl_of_mem (P := (State.rbit · WR_STATUS_INHIBIT inhTIMEBASE n = true)) killKept_inhibit (fun _ _ k => k.held n) (inhibit_held · n) h _
  exact ⟨(killKept_killEvents _ _).held n held, ((killKept_inhibits _ _).trans (killKept_killEvents _ _)).gateShut n shut⟩

/-! ### The requeueing (R77 step 5, R78) -/

theorem killKept_requeue (s : State) (c : SecCmd) : KillKept s (s.requeue c) :=
  .ite (.refl s) ⟨rfl, fun _ _ _ _ _ => rfl, fun _ => id, fun _ => id, fun _ => id⟩

theorem killKept_cnt_suspect (s : State) (n : Nat) : KillKept s (s.cnt WR_STATUS_SUSPECT n) := .wf (by decide) ..

theorem killKept_lossRequeue (s : State) (n : Nat) : KillKept s (s.lossRequeue n) := by
  unfold State.lossRequeue
  extract_lets verified suspect fifo emptied counted
  have taken : KillKept s emptied := .modCh s n (fun _ => id) fun _ => id
  have returned : KillKept emptied counted := .foldl (fun t p => (killKept_cnt_suspect t n).trans (killKept_requeue _ p.1)) suspect emptied
  exact (taken.trans returned).trans (.foldl killKept_requeue fifo counted)

/-! ### The declaration (R65) -/

theorem truLoss_of_unlocked {s : State} {a : Nat} (unlocked : s.truSt a ≠ truLOCKED) (cause : Nat) : s.truLoss a cause = s := if_pos unlocked

/-- What a declaration writes in its own TRU: HOLDOVER, the cause, the count. -/
def State.lossDeclared (s : State) (a cause : Nat) : State :=
  ((s.setTru a truHOLDOVER).wf TRU_STATUS_LOSS_CAUSE cause a).cnt TRU_STATUS_LOSS_COUNT a

/-- Each channel's sectors go back, and its calibration ends. -/
def State.lossPass (s : State) (a : Nat) : State := (chansOf a).foldl (fun t n => (t.lossRequeue n).calFail n 0x02) s

/-- The half-stack when a loss has been declared and its sectors have gone back, before the report. -/
def State.lossTaken (s : State) (a cause : Nat) : State :=
  (((s.lossDeclared a cause).gateKill a).lossPass a).modTr a (fun t => { t with kill := true, widened := true, speedBad := 0 })

theorem truLoss_of_locked {s : State} {a : Nat} (locked : s.truSt a = truLOCKED) (cause : Nat) :
    s.truLoss a cause = (s.lossTaken a cause).truReport a 0 0 cause := if_neg (not_not_intro locked)

theorem truSt_lossDeclared (s : State) (a cause : Nat) : (s.lossDeclared a cause).rf TRU_STATUS_STATE a = truHOLDOVER := by
  rw [State.lossDeclared, State.cnt, rf_wf_of_place_ne _ ⟨rfl, rfl⟩ ⟨rfl, rfl⟩ (by decide), rf_wf_of_place_ne _ ⟨rfl, rfl⟩ ⟨rfl, rfl⟩ (by decide)]
  exact rf_wf_same ..

theorem lossCause_lossDeclared (s : State) (a : Nat) {cause : Nat} (h : cause < 8) : (s.lossDeclared a cause).rf TRU_STATUS_LOSS_CAUSE a = cause := by
  rw [State.lossDeclared, State.cnt, rf_wf_of_place_ne _ ⟨rfl, rfl⟩ ⟨rfl, rfl⟩ (by decide), rf_wf_same]
  exact Nat.mod_eq_of_lt h

theorem calState_lossDeclared (s : State) (a cause n : Nat) : (s.lossDeclared a cause).rf CAL_STATUS_STATE n = s.rf CAL_STATUS_STATE n := by
  simp only [State.lossDeclared, State.cnt, State.setTru]
  rw [rf_wf_of_place_ne _ ⟨rfl, rfl⟩ ⟨rfl, rfl⟩ (by decide), rf_wf_of_place_ne _ ⟨rfl, rfl⟩ ⟨rfl, rfl⟩ (by decide),
    rf_wf_of_place_ne _ ⟨rfl, rfl⟩ ⟨rfl, rfl⟩ (by decide), rf_modTr]

theorem good_lossDeclared (s : State) (a cause : Nat) : ((s.lossDeclared a cause).tr a).good = 0 :=
  congrArg Tru.good (tr_modTr_same s a (fun t => { t with good := 0, bad := 0, prev := none }))

theorem mem_chansOf {a n : Nat} : n ∈ chansOf a ↔ n / 8 = a := by
  simp only [chansOf, List.mem_map, List.mem_range]
  exact ⟨fun ⟨k, hk, e⟩ => by omega, fun h => ⟨n % 8, by omega, by omega⟩⟩

/-- A half-stack where no channel calibrates only requeues. -/
theorem killKept_lossPass {s : State} {a : Nat} (idle : ∀ n ∈ chansOf a, s.rf CAL_STATUS_STATE n ≠ 1) : KillKept s (s.lossPass a) := by
  refine List.foldlRecOn (motive := KillKept s) (chansOf a) _ (.refl s) fun t kept n hn => ?_
  have requeued : KillKept s (t.lossRequeue n) := kept.trans (killKept_lossRequeue t n)
  have no_calibration : (t.lossRequeue n).rf CAL_STATUS_STATE n ≠ 1 := by
    rw [requeued.other CAL_STATUS_STATE ⟨rfl, rfl⟩ (by decide)]
    exact idle n hn
  rwa [State.calFail, if_neg no_calibration]

section
variable {s : State} {a : Nat} (idle : ∀ n ∈ chansOf a, s.rf CAL_STATUS_STATE n ≠ 1) (cause : Nat)
include idle

/-- The requeueing, after the gates have closed. -/
theorem killKept_requeueing : KillKept ((s.lossDeclared a cause).gateKill a) (((s.lossDeclared a cause).gateKill a).lossPass a) := by
  refine killKept_lossPass fun n hn => ?_
  rw [(killKept_gateKill _ a).other CAL_STATUS_STATE ⟨rfl, rfl⟩ (by decide), calState_lossDeclared]
  exact idle n hn

theorem killKept_afterDeclaration : KillKept (s.lossDeclared a cause) (((s.lossDeclared a cause).gateKill a).lossPass a) :=
  (killKept_gateKill _ a).trans (killKept_requeueing idle cause)

/-- What the declaration has written in TRU_STATUS stands when the half-stack is held. -/
theorem rf_lossTaken {g : Fld} (paged : g.Paged) (out : g.place ∉ (WR_STATUS_INHIBIT :: killFields).map Fld.place) (i j : Nat) :
    (s.lossTaken a cause).rf g i j = (s.lossDeclared a cause).rf g i j := by
  rw [State.lossTaken, rf_modTr, (killKept_afterDeclaration idle cause).other g paged out]

theorem tr_lossTaken : (s.lossTaken a cause).tr a = { (s.lossDeclared a cause).tr a with kill := true, widened := true, speedBad := 0 } := by
  rw [State.lossTaken, tr_modTr_same, State.tr, State.tr, (killKept_afterDeclaration idle cause).tru]

theorem lossTaken_holds {n : Nat} (h : n ∈ chansOf a) :
    (s.lossTaken a cause).rbit WR_STATUS_INHIBIT inhTIMEBASE n = true ∧ (s.lossTaken a cause).gateOpen n = false := by
  obtain ⟨held, shut⟩ := gateKill_holds (s.lossDeclared a cause) h
  have kept := killKept_requeueing idle cause
  rw [State.rbit, State.lossTaken, rf_modTr, State.gateOpen, ch_modTr]
  exact ⟨kept.held n held, kept.gateShut n shut⟩

end

/-- Settles O12: the declaration, then the gates, then the requeueing; a TRU that is not LOCKED declares nothing. -/
theorem lossOfLockHoldsTheHalfStack : Obligations.LossOfLockHoldsTheHalfStack := by
  intro s a
  refine ⟨fun locked calibrates_none c k hc => ⟨s.lossTaken a.val k, ?_⟩,
    fun unlocked => ⟨congrArg Host.Outcome.next (truLoss_of_unlocked unlocked 1), congrArg Host.Outcome.next (truLoss_of_unlocked unlocked 2)⟩⟩
  have idle : ∀ n ∈ chansOf a.val, s.rf CAL_STATUS_STATE n ≠ 1 := fun n hn => calibrates_none n (by have := mem_chansOf.1 hn; omega)
  have small : k < 8 := by omega
  have declared : exec c s = .next ((s.lossTaken a.val k).report (srcId MED (32 + a.val) 0) 0 k) := by
    rcases hc with ⟨rfl, rfl⟩ | ⟨rfl, rfl⟩ <;> exact congrArg Host.Outcome.next (truLoss_of_locked locked _)
  have unit := tr_lossTaken idle k
  refine ⟨declared, ?_, ?_, congrArg Tru.kill unit, (congrArg Tru.good unit).trans (good_lossDeclared ..),
    fun n hn => (lossTaken_holds idle k (mem_chansOf.2 hn)).imp_right gateOpen_eq_false.1⟩
  · rw [rf_lossTaken idle k ⟨rfl, rfl⟩ (by decide), truSt_lossDeclared]
    rfl
  · rw [rf_lossTaken idle k ⟨rfl, rfl⟩ (by decide), lossCause_lossDeclared s a.val small]

end Sys2Proof.Machine
end

section
/-! The read front end (R113, R118 to R120, R123, R128): a slot record read after its update, then each command by the state it finds. -/

namespace Sys2Proof.Machine
open Sys2Proof

/-! ### A slot record after its update -/

@[simp] theorem slotRec_modSlot_same (s : State) (n k : Nat) (f : SlotRec → SlotRec) : (s.modSlot n k f).slotRec n k = f (s.slotRec n k) := by
  simp [State.slotRec, State.modSlot, tabMod]

/-- The records of a channel lie in its own state. -/
theorem slotRec_of_sb {s t : State} {n : Nat} (h : (t.ch n).sb = (s.ch n).sb) (k : Nat) : t.slotRec n k = s.slotRec n k := by
  rw [State.slotRec, State.slotRec, h]

/-! ### SLOT_ALLOCATE (R119, R120) -/

section
variable {s : State} {n : Nat} {c : SecCmd} (target : (s.ch n).target = some c) (read : c.write = false)
include target read

theorem slotAllocate_of_free {k : Nat} (free : (s.atMinus8 n).freeSlot n = some k) (gate : ((s.atMinus8 n).ch n).rgate = true)
    (ready : (s.atMinus8 n).rbit VC_HEADS_READ_RDY ((s.atMinus8 n).slotHead n) (chAct n) = true) :
    s.slotAllocate n = ((s.atMinus8 n).modSlot n k (fun _ => (s.atMinus8 n).newRec n c)).modCh n
      (fun x => { x with begun := true, fieldSeq := x.fieldSeq + 1 }) := by
  simp only [State.slotAllocate, target, read, free, gate, ready, Bool.false_eq_true, Bool.and_self, if_true, if_false]

theorem slotAllocate_of_full (full : (s.atMinus8 n).freeSlot n = none) :
    s.slotAllocate n = ((s.atMinus8 n).cnt SB_STATUS_OVERRUN n).chReport n 4 0 c.pslot := by
  simp only [State.slotAllocate, target, read, full, Bool.false_eq_true, if_false]

end

/-! ### FIELD_READ_END (R107, R108, R119) -/

/-- A record when its field has been read whole. -/
def SlotRec.hold (r : SlotRec) (mets : List Nat) (readers : Nat) (missed : Bool) : SlotRec :=
  { r with st := 2, mets := mets.take 17, rank := syncRank mets, readers := readers % 8, missed := missed }

/-- R108: the mark of the ranked candidates was missed. -/
def State.markMissed (s : State) (mets : List Nat) : Bool := (syncPrimary (s.ent 0x3000 2) (syncRank mets)).2

section
variable {s : State} {n k : Nat} (filling : s.filling n = some k) (mets : List Nat) (readers : Nat)
include filling

theorem fieldReadEnd_of_whole (whole : (s.ch n).cut = false) : s.fieldReadEnd n mets readers =
    (s.modCh n (fun c => { c with ended := true })).modSlot n k (fun r => r.hold mets readers (s.markMissed mets)) := by
  simp only [State.fieldReadEnd, filling, ch_modCh_same, whole, Bool.false_eq_true, if_false]
  rfl

/-- R78: the samples of a cut field are discarded. -/
theorem fieldReadEnd_of_cut (cut : (s.ch n).cut = true) :
    s.fieldReadEnd n mets readers = (s.modCh n (fun c => { c with ended := true })).freeRec n k := by
  simp only [State.fieldReadEnd, filling, ch_modCh_same, cut, if_true]

theorem slotRec_fieldReadEnd_of_whole (whole : (s.ch n).cut = false) :
    (s.fieldReadEnd n mets readers).slotRec n k = (s.slotRec n k).hold mets readers (s.markMissed mets) := by
  have kept : (s.modCh n (fun c => { c with ended := true })).slotRec n k = s.slotRec n k := slotRec_of_sb (by rw [ch_modCh_same]) k
  rw [fieldReadEnd_of_whole filling mets readers whole, slotRec_modSlot_same, kept]

end

/-! ### ADAPT_UPDATE (R113, R123) -/

/-- Below the top of its range an unsigned field steps up by one. -/
theorem stepField_up {w v : Nat} (h : v < 2 ^ w - 1) : stepField w false v 1 = v + 1 := by
  have cast : ((2 ^ w : Nat) : Int) = 2 ^ w := Int.natCast_pow 2 w
  have below : (v : Int) + 1 ≤ 2 ^ w - 1 := by omega
  rw [stepField, if_neg Bool.false_ne_true, Int.min_eq_right below, Int.max_eq_right (by omega)]
  exact Int.toNat_natCast (v + 1)

theorem adapt_of_gateClosed {s : State} {n : Nat} (closed : (s.ch n).rgate = false) (r : Nat) (m : Adapt) : s.adapt n r m = s := by
  simp [State.adapt, closed]

/-- R113: a mean that lies its dead zone or more below the target moves a gain in use up. -/
theorem adapt_gain_of_low {s : State} {n r m : Nat} (gate : (s.ch n).rgate = true) (used : s.rbit FE_STATUS_RDR_ACT r n = true)
    (live : s.rbit FE_FREEZE_GAIN r n = false) (low : m < 8 * s.rf FE_GAIN_r_AGC_TGT n r)
    (far : s.rf FE_GAIN_r_AGC_DZ n r ≤ 8 * s.rf FE_GAIN_r_AGC_TGT n r - m) :
    s.adapt n r (.gain m) = s.wf FE_GAIN_r_GAIN (stepField 8 false (s.rf FE_GAIN_r_GAIN n r) 1) n r := by
  have outside : s.rf FE_GAIN_r_AGC_DZ n r ≤ max m (8 * s.rf FE_GAIN_r_AGC_TGT n r) - min m (8 * s.rf FE_GAIN_r_AGC_TGT n r) := by
    rwa [Nat.max_eq_right (Nat.le_of_lt low), Nat.min_eq_left (Nat.le_of_lt low)]
  have not_met : (m != 8 * s.rf FE_GAIN_r_AGC_TGT n r) = true := bne_iff_ne.2 (Nat.ne_of_lt low)
  simp only [State.adapt, gate, used, live, outside, not_met, if_pos low, decide_true, Bool.not_true, Bool.not_false, Bool.or_self, Bool.and_self,
    Bool.false_eq_true, if_true, if_false]

/-! ### TA_DETECT (R128) -/

/-- A record with an asperity noted: its readers and its span join those noted before. -/
def SlotRec.noteTa (r : SlotRec) (readers : BitVec 3) (start stop : Nat) : SlotRec :=
  { r with ta := (BitVec.ofNat 3 r.ta ||| readers).toNat, taStart := min r.taStart start,
           taEnd := if r.taEnd = 0xFFFFFFFF then stop else max r.taEnd stop }

/-- The first asperity of a field is noted as it is. -/
theorem noteTa_of_none {r : SlotRec} (ta : r.ta = 0) (start0 : r.taStart = 0xFFFFFFFF) (end0 : r.taEnd = 0) (readers : BitVec 3) (start stop : BitVec 32) :
    r.noteTa readers start.toNat stop.toNat = { r with ta := readers.toNat, taStart := start.toNat, taEnd := stop.toNat } := by
  have inRange : start.toNat ≤ 0xFFFFFFFF := by omega
  simp [SlotRec.noteTa, ta, start0, end0, inRange]

/-- A count in a field is at most the largest value of the field. -/
theorem rf_cnt_same (s : State) (f : Fld) (i j k : Nat) : (s.cnt f i j k).rf f i j = min (s.rf f i j + k) (2 ^ f.width - 1) := by
  rw [State.cnt, rf_wf_same]
  exact Nat.mod_eq_of_lt (by have := Nat.two_pow_pos f.width; omega)

theorem exec_taDetect_of_filling {s : State} {n : Chan} {k : Nat} (enabled : s.rf FE_CTRL_TA_EN n.val = 1) (filling : s.filling n.val = some k)
    (readers : BitVec 3) (start stop : BitVec 32) : exec (.taDetect n readers start stop) s =
      .next ((s.cnt FE_TA_TA_COUNT n.val).modSlot n.val k (fun r => r.noteTa readers start.toNat stop.toNat)) := by
  have on : s.rb FE_CTRL_TA_EN n.val = true := beq_iff_eq.2 enabled
  have still : (s.cnt FE_TA_TA_COUNT n.val).filling n.val = some k := filling
  change execTaDetect n readers start stop s = _
  simp only [execTaDetect, on, still, Bool.not_true, Bool.false_eq_true, if_false]
  rfl

/-- Settles O14, command by command. -/
theorem fieldsAreReadIntoSlots : Obligations.FieldsAreReadIntoSlots := by
  intro s n b
  refine ⟨fun c k target read free gate ready => congrArg Host.Outcome.next (slotAllocate_of_free target read free gate ready),
    fun c target read full => congrArg Host.Outcome.next (slotAllocate_of_full target read full), fun k mets rd filling whole all => ?_,
    fun k mets rd filling cut => congrArg Host.Outcome.next (fieldReadEnd_of_cut filling _ _ cut), fun r m gate used live low far room => ?_,
    fun r m closed => congrArg Host.Outcome.next (adapt_of_gateClosed closed r.val m), fun k rd st sp enabled filling ta start0 end0 => ?_⟩
  · have held := slotRec_fieldReadEnd_of_whole filling (mets.map BitVec.toNat) rd.toNat whole
    have seventeen : (mets.map BitVec.toNat).take 17 = mets.map BitVec.toNat := List.take_of_length_le (by simp [all])
    have readers : rd.toNat % 8 = rd.toNat := Nat.mod_eq_of_lt rd.isLt
    refine ⟨_, rfl, ?_⟩
    rw [held, fieldReadEnd_of_whole filling _ _ whole]
    exact ⟨rfl, seventeen, readers, by rw [SlotRec.hold], rfl, rfl, rfl, rfl⟩
  · rw [← stepField_up (w := 8) room]
    exact congrArg Host.Outcome.next (adapt_gain_of_low gate used live low far)
  · have before : (s.cnt FE_TA_TA_COUNT n.val).slotRec n.val k = s.slotRec n.val k := rfl
    refine ⟨_, exec_taDetect_of_filling enabled filling rd st sp, ?_⟩
    rw [slotRec_modSlot_same, before, noteTa_of_none ta start0 end0]
    exact ⟨rfl, rfl, rfl, rf_cnt_same s FE_TA_TA_COUNT n.val 0 1⟩

end Sys2Proof.Machine
end

section
/-! Writes of the front end, port 1 of the equaliser and calibration (R124, R125, R129, R131, R132). -/

namespace Sys2Proof.Machine
open Sys2Proof

/-! ### FE_REG_WRITE (R129) -/

/-- The fields of FE_CTF of reader 1. -/
theorem feAt_ctf1 : feAt 0x058 = [(FE_CTF_r_FC, 1), (FE_CTF_r_BOOST, 1)] := by decide

theorem feRegWrite_ctf1 (s : State) (n v : Nat) : s.feRegWrite n 0x058 v =
    (s.feWriteField n (FE_CTF_r_FC, 1) (v % 32)).feWriteField n (FE_CTF_r_BOOST, 1) (v / 256 % 32) := by
  rw [State.feRegWrite, feAt_ctf1]
  simp [fieldOf, FE_CTF_r_FC, FE_CTF_r_BOOST]

/-- A write keeps its value for the field boundary, in place of one that waited for the same field. -/
def State.feStage (s : State) (n key v : Nat) : State :=
  (s.modCh n (fun c => { c with staged := (c.staged.filter (fun x => x.1 != key)) ++ [(key, v)] })).wb FE_STATUS_STAGED true n

section
variable {s : State} {n j : Nat} {f : Fld} (not_profile : f ≠ EQ_PROFp_r_t_TAP) (not_phase : f ≠ FE_PHASE_r_INT)
include not_profile not_phase

theorem feWriteField_of_gateClosed (closed : (s.ch n).rgate = false) (v : Nat) : s.feWriteField n (f, j) v = s.wf f v n j := by
  simp [State.feWriteField, not_profile, not_phase, closed]

theorem feWriteField_of_gateOpen (gate : (s.ch n).rgate = true) (v : Nat) :
    s.feWriteField n (f, j) v = s.feStage n (f.key n j) (v % 2 ^ f.width) := by
  simp [State.feWriteField, State.feStage, not_profile, not_phase, gate]

end

section
variable (s : State) (n key v : Nat)

theorem ch_feStage : (s.feStage n key v).ch n = { s.ch n with staged := (s.ch n).staged.filter (fun x => x.1 != key) ++ [(key, v)] } :=
  ch_modCh_same s n (fun c => { c with staged := c.staged.filter (fun x => x.1 != key) ++ [(key, v)] })

theorem rgate_feStage : ((s.feStage n key v).ch n).rgate = (s.ch n).rgate := by rw [ch_feStage]

theorem mem_staged_feStage_same : (key, v) ∈ ((s.feStage n key v).ch n).staged := by simp [ch_feStage]

theorem mem_staged_feStage_ne {p : Nat × Nat} (h : p ∈ (s.ch n).staged) (other : p.1 ≠ key) : p ∈ ((s.feStage n key v).ch n).staged := by
  simp [ch_feStage, h, other]

theorem stagedFlag_feStage : (s.feStage n key v).rf FE_STATUS_STAGED n = 1 := rf_wb_same (s.modCh n _) FE_STATUS_STAGED true n 0

/-- Of the registers staging writes FE_STATUS alone. -/
theorem rf_feStage {g : Fld} {i j : Nat} (h : g.key i j ≠ FE_STATUS_STAGED.key n 0) : (s.feStage n key v).rf g i j = s.rf g i j :=
  rf_wf_ne (s.modCh n _) FE_STATUS_STAGED g _ n 0 i j h

end

/-- FE_CTF of reader 1 is not FE_STATUS. -/
theorem ctf1_key_ne_staged {f : Fld} (hbase : f.base = 0x810048) (hi : f.si = 0x1000) (hj : f.sj = 0x10) (n : Nat) :
    f.key n 1 ≠ FE_STATUS_STAGED.key n 0 := by
  simp only [Fld.key, hbase, hi, hj, FE_STATUS_STAGED]
  omega

theorem feRegWrite_ctf1_of_gateClosed {s : State} {n : Nat} (closed : (s.ch n).rgate = false) (v : Nat) :
    s.feRegWrite n 0x058 v = (s.wf FE_CTF_r_FC (v % 32) n 1).wf FE_CTF_r_BOOST (v / 256 % 32) n 1 := by
  have still : ((s.wf FE_CTF_r_FC (v % 32) n 1).ch n).rgate = false := closed
  rw [feRegWrite_ctf1, feWriteField_of_gateClosed (by decide) (by decide) closed, feWriteField_of_gateClosed (by decide) (by decide) still]

theorem feRegWrite_ctf1_of_gateOpen {s : State} {n : Nat} (gate : (s.ch n).rgate = true) (v : Nat) : s.feRegWrite n 0x058 v =
    (s.feStage n (FE_CTF_r_FC.key n 1) (v % 32)).feStage n (FE_CTF_r_BOOST.key n 1) (v / 256 % 32) := by
  have fc_whole : v % 32 % 2 ^ FE_CTF_r_FC.width = v % 32 := Nat.mod_mod ..
  have boost_whole : v / 256 % 32 % 2 ^ FE_CTF_r_BOOST.width = v / 256 % 32 := Nat.mod_mod ..
  have still : ((s.feStage n (FE_CTF_r_FC.key n 1) (v % 32)).ch n).rgate = true := (rgate_feStage ..).trans gate
  rw [feRegWrite_ctf1, feWriteField_of_gateOpen (by decide) (by decide) gate, fc_whole, feWriteField_of_gateOpen (by decide) (by decide) still, boost_whole]

/-! ### Port 1 (R124, R125) -/

section
variable {s : State} {n : Nat} {q : Reeq} (profile : q.profile ≠ 7) (held : (s.slotRec n q.slot).st = 2)
include profile held

theorem reeqRequest_of_room (room : (s.ch n).reeq.length < 3) (first : (s.ch n).refused = []) :
    s.reeqRequest n q = s.modCh n (fun c => { c with reeq := c.reeq ++ [q] }) := by
  simp [State.reeqRequest, profile, held, room, first]

theorem reeqRequest_of_full (full : 3 ≤ (s.ch n).reeq.length) :
    s.reeqRequest n q = s.modCh n (fun c => { c with refused := c.refused ++ [q] }) := by
  have taken : ¬ (q.profile = 7 ∨ (s.slotRec n q.slot).st ≠ 2) := by simp only [profile, held, ne_eq, not_true_eq_false, or_self, not_false_eq_true]
  have no_room : ¬ ((s.ch n).reeq.length < 3 ∧ (s.ch n).refused = []) := fun h => Nat.not_lt.2 full h.1
  rw [State.reeqRequest, if_neg taken, if_neg no_room]

end

/-- Port 1 when its oldest request has ended and a refused one waits. -/
theorem exec_reeqDone_of_refused {s : State} {n : Chan} {x y : Reeq} {r q : List Reeq} (running : (s.ch n.val).reeq = x :: r)
    (waiting : (s.ch n.val).refused = y :: q) : ∃ t : State, exec (.reeqDone n) s = .next t ∧ (t.ch n.val).reeq = r ++ [y] ∧ (t.ch n.val).refused = q
      ∧ t.regs = s.regs := by
  refine ⟨_, rfl, ?_⟩
  rw [ch_modCh_same]
  simp [running, waiting]

/-! ### What the operations of a calibration leave -/

theorem fc_foldl {β : Type} {g : State → β → State} (hg : ∀ t b, (g t b).fc = t.fc) (l : List β) (s : State) : (l.foldl g s).fc = s.fc :=
  List.foldlRecOn (motive := fun t => t.fc = s.fc) l g rfl fun t ht b _ => (hg t b).trans ht

theorem fc_fePut (s : State) (n : Nat) (l : List (Fld × Nat)) (vs : List (Nat × Nat)) : (s.fePut n l vs).fc = s.fc :=
  fc_foldl (fun t v => by split <;> rfl) vs s

theorem fc_plPut (s : State) (a : Nat) (f : PlFrame) : (s.plPut a f).fc = s.fc := by
  unfold State.plPut
  split <;> rfl

theorem fc_plSend (s : State) (a i : Nat) (f : PlFrame) : (s.plSend a i f).fc = s.fc := by
  unfold State.plSend
  split
  · split
    · exact fc_plPut s a f
    · rfl
  · rfl

/-- The bookkeeping of a recalibration lies outside the registers and the fault collection (R523). -/
theorem recalNote_kept (s : State) (n g : Nat) (ok : Bool) : (s.recalNote n g ok).regs = s.regs ∧ (s.recalNote n g ok).fc = s.fc := by
  unfold State.recalNote
  split
  · exact ⟨rfl, rfl⟩
  · extract_lets
    split
    · split <;> exact ⟨rfl, rfl⟩
    · split <;> exact ⟨rfl, rfl⟩

theorem rf_recalNote (s : State) (n g : Nat) (ok : Bool) (f : Fld) (i j : Nat) : (s.recalNote n g ok).rf f i j = s.rf f i j := by
  rw [State.rf, State.rf, (recalNote_kept s n g ok).1]

/-! ### CAL_START (R131 step 1, R132) -/

/-- A calibration when it has been asked for, before its conditions are judged: the counts start and the values to restore are kept. -/
def State.calAsked (s : State) (n : Nat) : State :=
  (((s.wf CAL_STATUS_STEP 1 n).wf CAL_STATUS_SECTORS 0 n).wf CAL_STATUS_REASON 0 n).modCh n (fun c => { c with
    calPaused := false,
    calOld := s.feSnap n feElems ++ (List.range 3).map (fun r => (1000 + r, tabGet 0 s.pa.bias (3 * headIx (chAct n) (s.rf CAL_CTRL_HEAD n) + r))) })

/-- Asking writes CAL_STATUS alone. -/
theorem rf_calAsked (s : State) (n : Nat) {g : Fld} (paged : g.Paged)
    (out : g.place ∉ [CAL_STATUS_STEP, CAL_STATUS_SECTORS, CAL_STATUS_REASON].map Fld.place) (i j : Nat) : (s.calAsked n).rf g i j = s.rf g i j := by
  simp only [List.map_cons, List.map_nil, List.mem_cons, List.not_mem_nil, or_false, not_or] at out
  obtain ⟨step, sectors, reason⟩ := out
  rw [State.calAsked, rf_modCh, rf_wf_of_place_ne _ ⟨rfl, rfl⟩ paged reason, rf_wf_of_place_ne _ ⟨rfl, rfl⟩ paged sectors,
    rf_wf_of_place_ne _ ⟨rfl, rfl⟩ paged step]

theorem calStep_calAsked (s : State) (n : Nat) : (s.calAsked n).rf CAL_STATUS_STEP n = 1 := by
  rw [State.calAsked, rf_modCh, rf_wf_of_place_ne _ ⟨rfl, rfl⟩ ⟨rfl, rfl⟩ (by decide), rf_wf_of_place_ne _ ⟨rfl, rfl⟩ ⟨rfl, rfl⟩ (by decide), rf_wf_same]
  rfl

theorem calSectors_calAsked (s : State) (n : Nat) : (s.calAsked n).rf CAL_STATUS_SECTORS n = 0 := by
  rw [State.calAsked, rf_modCh, rf_wf_of_place_ne _ ⟨rfl, rfl⟩ ⟨rfl, rfl⟩ (by decide), rf_wf_same]
  rfl

/-- R131 step 1: with every condition of R132 met the channel calibrates and leaves the scheduler. -/
theorem calStart_of_ready {s : State} {n : Nat} (idle : s.rf CAL_STATUS_STATE n ≠ 1) (loaded : s.actLoaded (chAct n) = true)
    (mapped : s.slotHead n = s.rf CAL_CTRL_HEAD n) (present : s.slotHead n ≠ 0xF) (locked : s.rf TRU_STATUS_STATE (chAct n) = 4)
    (alone : ∀ m ∈ chansOf (chAct n), s.rf CAL_STATUS_STATE m ≠ 1) :
    s.calStart n = ((s.calAsked n).wf CAL_STATUS_STATE 1 n).modCh n (fun c => { c with withdrawn := true }) := by
  have ready : (!(s.calAsked n).actLoaded (chAct n) || (s.calAsked n).slotHead n != s.rf CAL_CTRL_HEAD n || s.rf CAL_CTRL_HEAD n == 0xF) = false := by
    have acts : (s.calAsked n).act (chAct n) = s.act (chAct n) := rf_calAsked s n ⟨rfl, rfl⟩ (by decide) _ _
    have same : (s.calAsked n).slotHead n = s.slotHead n := rfl
    rw [State.actLoaded] at loaded ⊢
    rw [mapped] at present
    simp [acts, loaded, same, mapped, present]
  have still_locked : ¬ (s.calAsked n).rf TRU_STATUS_STATE (chAct n) ≠ 4 :=
    not_not_intro ((rf_calAsked s n ⟨rfl, rfl⟩ (by decide) _ _).trans locked)
  have no_other : (chansOf (chAct n)).any (fun m => m != n && (s.calAsked n).rf CAL_STATUS_STATE m == 1) = false := by
    refine List.any_eq_false.2 fun m hm => ?_
    simp [rf_calAsked s n (g := CAL_STATUS_STATE) ⟨rfl, rfl⟩ (by decide), alone m hm]
  rw [State.calStart, if_neg idle]
  rw [State.calAsked] at ready still_locked no_other ⊢
  simp only [ready, if_neg still_locked, no_other, Bool.false_eq_true, if_false]

/-! ### An early end (R132) -/

/-- The set and the bias before the calibration are back. -/
def State.calRestored (s : State) (n : Nat) : State :=
  ((s.ch n).calOld.filter (fun v => decide (1000 ≤ v.1))).foldl
    (fun t v => t.plSend (chAct n) plCORE { op := 0x03, payload := [plByte (s.rf CAL_CTRL_HEAD n), plByte (v.1 - 1000), plByte v.2] })
    (s.fePut n feElems ((s.ch n).calOld.filter (fun v => decide (v.1 < 1000))))

/-- CAL_STATUS reads FAILED with the reason, and the channel is back with the scheduler. -/
def State.calFailed (s : State) (n reason : Nat) : State :=
  (((s.calRestored n).wf CAL_STATUS_STATE 3 n).wf CAL_STATUS_REASON reason n).modCh n (fun c => { c with withdrawn := false, calPaused := false })

/-- An early end before its report. -/
def State.calEnded (s : State) (n reason : Nat) : State :=
  (s.calFailed n reason).recalNote n ((s.calFailed n reason).groupAt (chAct n)) false

theorem calFail_of_calibrating {s : State} {n : Nat} (calibrates : s.rf CAL_STATUS_STATE n = 1) (reason : Nat) :
    s.calFail n reason = (s.calEnded n reason).chReport n 11 (s.rf CAL_CTRL_HEAD n) reason := if_pos calibrates

theorem calFail_of_idle {s : State} {n : Nat} (idle : s.rf CAL_STATUS_STATE n ≠ 1) (reason : Nat) : s.calFail n reason = s := if_neg idle

section
variable (s : State) (n reason : Nat)

theorem fc_calRestored : (s.calRestored n).fc = s.fc := (fc_foldl (fun t _ => fc_plSend t ..) _ _).trans (fc_fePut ..)

theorem fc_calEnded : (s.calEnded n reason).fc = s.fc := (recalNote_kept ..).2.trans (fc_calRestored s n)

theorem calState_calEnded : (s.calEnded n reason).rf CAL_STATUS_STATE n = 3 := by
  rw [State.calEnded, rf_recalNote, State.calFailed, rf_modCh, rf_wf_of_place_ne _ ⟨rfl, rfl⟩ ⟨rfl, rfl⟩ (by decide), rf_wf_same]
  rfl

theorem calReason_calEnded : (s.calEnded n reason).rf CAL_STATUS_REASON n = reason % 2 ^ 8 := by
  rw [State.calEnded, rf_recalNote, State.calFailed, rf_modCh, rf_wf_same]
  rfl

end

/-! ### CAL_PHASE_DONE (R131) -/

/-- A phase before the last that sets no element counts its sectors, shows its SNR and goes on to the next. -/
theorem calPhase_of_nothingSet {s : State} {n : Nat} (calibrates : s.rf CAL_STATUS_STATE n = 1) (runs : (s.ch n).calPaused = false)
    (early : s.rf CAL_STATUS_STEP n < 9) (read snr : Nat) : s.calPhase n .done read [] snr =
      ((s.cnt CAL_STATUS_SECTORS n 0 read).wf FE_SNR_SNR snr n).wf CAL_STATUS_STEP (s.rf CAL_STATUS_STEP n + 1) n := by
  have goes_on : ¬ (s.rf CAL_STATUS_STATE n ≠ 1 ∨ (s.ch n).calPaused = true) := by simp [calibrates, runs]
  have step : ((s.cnt CAL_STATUS_SECTORS n 0 read).wf FE_SNR_SNR snr n).rf CAL_STATUS_STEP n = s.rf CAL_STATUS_STEP n := by
    rw [State.cnt, rf_wf_of_place_ne _ ⟨rfl, rfl⟩ ⟨rfl, rfl⟩ (by decide), rf_wf_of_place_ne _ ⟨rfl, rfl⟩ ⟨rfl, rfl⟩ (by decide)]
  rw [State.calPhase, if_neg goes_on]
  simp only [step, List.filter_nil, List.foldl_nil, State.fePut, early, if_true]

/-- Settles O15, command by command. -/
theorem frontEndWritesAndCalibration : Obligations.FrontEndWritesAndCalibration := by
  intro s n
  have other_profile {pr : BitVec 3} (h : pr ≠ 7) : pr.toNat ≠ 7 := fun same => h (BitVec.eq_of_toNat_eq same)
  refine ⟨fun v closed => congrArg Host.Outcome.next (feRegWrite_ctf1_of_gateClosed closed v.toNat), fun v gate => ?_,
    fun slot p pr profile held room first => congrArg Host.Outcome.next (reeqRequest_of_room (other_profile profile) held room first),
    fun slot p pr profile held full => congrArg Host.Outcome.next (reeqRequest_of_full (other_profile profile) held full),
    fun _ _ _ _ => exec_reeqDone_of_refused, fun idle loaded mapped present locked none_calibrates => ?_,
    fun idle => congrArg Host.Outcome.next (calFail_of_idle idle 6), fun calibrates => ?_,
    fun r snr calibrates runs early => congrArg Host.Outcome.next (calPhase_of_nothingSet calibrates runs early r snr.toNat)⟩
  · have fc_apart := ctf1_key_ne_staged (f := FE_CTF_r_FC) rfl rfl rfl n.val
    have boost_apart := ctf1_key_ne_staged (f := FE_CTF_r_BOOST) rfl rfl rfl n.val
    have keys_apart : FE_CTF_r_FC.key n.val 1 ≠ FE_CTF_r_BOOST.key n.val 1 := 
      Fld.key_ne_of_lo_ne (f := FE_CTF_r_BOOST) (g := FE_CTF_r_FC) rfl rfl rfl (by decide) n.val 1
    refine ⟨_, congrArg Host.Outcome.next (feRegWrite_ctf1_of_gateOpen gate v.toNat), stagedFlag_feStage .., ?_, ?_,
      mem_staged_feStage_ne _ _ _ _ (mem_staged_feStage_same ..) keys_apart, mem_staged_feStage_same ..⟩
    · rw [rf_feStage _ _ _ _ fc_apart, rf_feStage _ _ _ _ fc_apart]
    · rw [rf_feStage _ _ _ _ boost_apart, rf_feStage _ _ _ _ boost_apart]
  · have alone : ∀ m ∈ chansOf (chAct n.val), s.rf CAL_STATUS_STATE m ≠ 1 := fun m hm =>
      none_calibrates m (by have := mem_chansOf.1 hm; rw [chAct] at this; omega)
    refine ⟨_, congrArg Host.Outcome.next (calStart_of_ready idle loaded mapped present locked alone), rf_wf_same (s.calAsked n.val) CAL_STATUS_STATE 1 n.val 0, ?_, ?_, ?_⟩
    · rw [rf_modCh, rf_wf_of_place_ne _ ⟨rfl, rfl⟩ ⟨rfl, rfl⟩ (by decide), calStep_calAsked]
    · rw [rf_modCh, rf_wf_of_place_ne _ ⟨rfl, rfl⟩ ⟨rfl, rfl⟩ (by decide), calSectors_calAsked]
    · rw [ch_modCh_same, ch_wf, State.calAsked, ch_modCh_same]
      exact ⟨rfl, rfl, rfl, rfl⟩
  · exact ⟨_, congrArg Host.Outcome.next (calFail_of_calibrating calibrates 6), calState_calEnded s n.val 6, calReason_calEnded s n.val 6, fc_calEnded s n.val 6⟩

end Sys2Proof.Machine
end

section
/-! The lanes of the Churn (R157 to R160): what a lane that goes out leaves as it was, then each command by the state it finds. -/

namespace Sys2Proof.Machine
open Sys2Proof

/-! ### What lies outside the Churn -/

/-- From s to t a step stays within the Churn: the fault collection, the channels and the emissions are as they were. -/
structure WithinChurn (s t : State) : Prop where
  fc : t.fc = s.fc
  chan : t.chan = s.chan
  out : t.out = s.out

namespace WithinChurn

theorem refl (s : State) : WithinChurn s s := ⟨rfl, rfl, rfl⟩

theorem trans {s t u : State} (h : WithinChurn s t) (k : WithinChurn t u) : WithinChurn s u :=
  ⟨k.fc.trans h.fc, k.chan.trans h.chan, k.out.trans h.out⟩

theorem foldl {β : Type} {g : State → β → State} (hg : ∀ t b, WithinChurn t (g t b)) (l : List β) (s : State) : WithinChurn s (l.foldl g s) :=
  List.foldlRecOn (motive := WithinChurn s) l g (refl s) fun t ht b _ => ht.trans (hg t b)

end WithinChurn

theorem withinChurn_laneReq (s : State) (q : LaneReq) : WithinChurn s (s.laneReq q) := ⟨rfl, rfl, rfl⟩

theorem withinChurn_memberFree (s : State) (m : Nat) : WithinChurn s (s.memberFree m) := by
  unfold State.memberFree
  split
  · exact ⟨rfl, rfl, rfl⟩
  · split <;> exact ⟨rfl, rfl, rfl⟩

/-! ### A lane goes out (R159) -/

section
variable (s : State) (k cause : Nat)

theorem withinChurn_laneOut : WithinChurn s (s.laneOut k cause) := by
  have members_freed : WithinChurn s (match (s.ln k).att with | some a => a.members.foldl (fun t m => t.memberFree m) s | none => s) := by
    split
    · exact .foldl withinChurn_memberFree _ s
    · exact .refl s
  have sectors_returned := WithinChurn.foldl (fun t (j : LJob) => withinChurn_laneReq t { kind := 1, n := j.n, k := j.k, lane := 0 }) (s.ln k).ib
  exact members_freed.trans ⟨(sectors_returned _).fc, (sectors_returned _).chan, (sectors_returned _).out⟩

theorem laneState_laneOut : (s.laneOut k cause).rf LN_STATUS_STATE k = lnRETIRED := by
  rw [State.laneOut, State.wb, rf_wf_of_place_ne _ ⟨rfl, rfl⟩ ⟨rfl, rfl⟩ (by decide), rf_wf_of_place_ne _ ⟨rfl, rfl⟩ ⟨rfl, rfl⟩ (by decide), rf_wf_same]
  rfl

theorem retCause_laneOut : (s.laneOut k cause).rf LN_ERR_RET_CAUSE k = cause % 2 ^ 4 := by
  rw [State.laneOut, State.wb, rf_wf_of_place_ne _ ⟨rfl, rfl⟩ ⟨rfl, rfl⟩ (by decide), rf_wf_same]
  rfl

end

/-! ### LANE_RETIRE, LANE_RESTORE and LANE_SELFTEST_DONE (R160) -/

section
variable {s : State} {k : Nat}

theorem laneRetire_of_idle (idle : s.rf LN_STATUS_STATE k = lnIDLE) : s.laneRetire k = s.laneOut k 4 := if_pos idle

theorem laneRetire_of_decoding (decoding : s.rf LN_STATUS_STATE k = lnDECODE) :
    s.laneRetire k = (s.wf LN_STATUS_STATE lnRETIRING k).wb LN_CTRL_RETIRE true k := by
  have busy : ¬ s.lnSt k = lnIDLE := fun idle => absurd (decoding.symm.trans idle) (by decide)
  rw [State.laneRetire, if_neg busy, if_pos (.inl decoding)]

theorem laneRestore_of_restorable (retired : s.rf LN_STATUS_STATE k = lnRETIRED) (cell : s.rf LN_ERR_RET_CAUSE k ≠ 2)
    (checker : s.rf LN_ERR_RET_CAUSE k ≠ 3) : s.laneRestore k = (s.wf LN_STATUS_STATE lnSELFTEST k).wb LN_CTRL_RESTORE true k :=
  if_pos ⟨retired, cell, checker⟩

theorem laneRestore_of_cellOrChecker (cause : s.rf LN_ERR_RET_CAUSE k = 2 ∨ s.rf LN_ERR_RET_CAUSE k = 3) : s.laneRestore k = s :=
  if_neg fun ⟨_, cell, checker⟩ => cause.elim cell checker

theorem laneTested_of_testing (testing : s.rf LN_STATUS_STATE k = lnSELFTEST) (pass : Bool) : s.laneTested k pass =
    if pass then ((s.wb LN_CTRL_RESTORE false k).wf LN_STATUS_STATE lnIDLE k).wf LN_ERR_RET_CAUSE 0 k
    else ((s.wb LN_CTRL_RESTORE false k).wf LN_STATUS_STATE lnRETIRED k).wf LN_ERR_RET_CAUSE 5 k :=
  if_neg (not_not_intro testing)

/-! ### LANE_FAULT and CELL_FAULT (R157 to R159) -/

theorem laneFault_of_retired (retired : s.rf LN_STATUS_STATE k = lnRETIRED) (cause num : Nat) : s.laneFault k cause num = s := if_pos retired

theorem laneFault_of_present (present : s.rf LN_STATUS_STATE k ≠ lnRETIRED) (cause num : Nat) :
    s.laneFault k cause num = (s.laneOut k cause).report (srcId MED (36 + k) num) := if_neg present

end

/-- R157: the retirement cause of a lane's fault and the number of its source agree, 3 for the checker and 1 for a memory. -/
theorem exec_laneFault (s : State) (k : Fin 64) (checker : Bool) :
    exec (.laneFault k checker) s = .next (s.laneFault k.val (if checker then 3 else 1) (if checker then 3 else 1)) := by
  cases checker <;> rfl

section
variable {s : State} {k : Fin 64} {c : Fin 16}

theorem exec_cellFault_of_retiredCell (retired : s.rbit LN_STATUS_CELL_RET c.val k.val = true) : exec (.cellFault k c) s = .next s := if_pos retired

theorem exec_cellFault_of_first (whole : s.rf LN_STATUS_CELL_RET k.val = 0) : exec (.cellFault k c) s =
    .next (((((s.wbit LN_STATUS_CELL_RET c.val true k.val).wb LN_STATUS_DEGRADED true k.val).report (srcId MED (36 + k.val) 2) c.val).modLn k.val
      (fun l => { l with att := l.att.map (fun a => { a with sweeps := 0, low := 3841, since := 0 }) })).wf LN_STATUS_ITER 0 k.val) := by
  have in_use : s.rbit LN_STATUS_CELL_RET c.val k.val = false := by simp [State.rbit, whole, bitOf]
  change execCellFault k c s = _
  simp only [execCellFault, in_use, whole, Bool.false_eq_true, beq_self_eq_true, if_true, if_false]
  rfl

end

/-- R157: with the other copy gone the report is a C3. -/
theorem exec_codeTableFault_of_otherRetired {s : State} {c : Fin 2} (gone : bitOf s.codeRetired (1 - c.val) = true) (k : Fin 64) (cell : Fin 16) :
    exec (.codeTableFault c k cell) s = .next (({ s with codeRetired := setBit s.codeRetired c.val true } : State).reportBy MED (36 + k.val)
      (0x9FC0 + c.val) cell.val 3 0 false) := by
  change execCodeTableFault c k cell s = _
  simp only [execCodeTableFault, gone, if_true]
  rfl

/-- Settles O17, command by command. -/
theorem laneAndCellFaults : Obligations.LaneAndCellFaults := by
  intro s k
  refine ⟨fun idle _ _ => ?_, fun decoding => congrArg Host.Outcome.next (laneRetire_of_decoding decoding),
    fun retired cell checker => congrArg Host.Outcome.next (laneRestore_of_restorable retired cell checker),
    fun _ cause => congrArg Host.Outcome.next (laneRestore_of_cellOrChecker cause),
    fun testing => ⟨congrArg Host.Outcome.next (laneTested_of_testing testing true), congrArg Host.Outcome.next (laneTested_of_testing testing false)⟩,
    fun present _ _ c => ?_, fun retired c => (exec_laneFault s k c).trans (congrArg Host.Outcome.next (laneFault_of_retired retired _ _)),
    fun _ retired => exec_cellFault_of_retiredCell retired, fun _ whole => exec_cellFault_of_first whole, rfl,
    fun _ cell gone => exec_codeTableFault_of_otherRetired gone k cell⟩
  · obtain ⟨fc, chan, out⟩ := withinChurn_laneOut s k.val 4
    exact ⟨_, congrArg Host.Outcome.next (laneRetire_of_idle idle), laneState_laneOut s k.val 4, retCause_laneOut s k.val 4, fc, chan, out⟩
  · refine ⟨_, (exec_laneFault s k c).trans (congrArg Host.Outcome.next (laneFault_of_present present _ _)), laneState_laneOut .., ?_,
      (withinChurn_laneOut ..).chan⟩
    rw [retCause_laneOut]
    cases c <;> rfl

end Sys2Proof.Machine
end

section
/-! The decoding of a sector (R138, R143, R146, R147, R149, R152): requests and grants, an attempt and its sweeps, the output store, the retry budget. -/

namespace Sys2Proof.Machine
open Sys2Proof

/-! ### LANE_REQUEST (R146) -/

/-- What an update makes of a half depends on the half as it stands. -/
theorem modHf_congr {s : State} {h : Nat} {f g : HalfSt → HalfSt} (same : f (s.hf h) = g (s.hf h)) : s.modHf h f = s.modHf h g :=
  congrArg (fun x => { s with half := tabSet s.half h x }) same

section
variable {s : State} {n : Fin 33} {slot : Fin 4}

theorem exec_laneRequest_of_free (free : (s.slotRec n.val slot.val).st = 0) (retry : Bool) : exec (.laneRequest n slot retry) s = .next s :=
  congrArg Host.Outcome.next (if_pos free)

/-- The first request of a half stands alone in its queue. -/
theorem exec_laneRequest_of_first (used : (s.slotRec n.val slot.val).st ≠ 0) (first : (s.hf (halfOf n.val)).reqs = []) (retry : Bool) :
    exec (.laneRequest n slot retry) s = .next (s.modHf (halfOf n.val)
      (fun x => { x with reqs := [{ kind := if retry then 1 else 0, n := n.val, k := slot.val, lane := 0 }] })) := by
  change execLaneRequest n slot retry s = _
  rw [execLaneRequest, if_neg used, State.laneReq]
  exact congrArg Host.Outcome.next (modHf_congr (by simp [first]))

end

theorem halfOf_chan (n : Chan) : halfOf n.val = n.val / 16 := if_neg (Nat.ne_of_lt n.isLt)

/-! ### LANE_ALLOCATE (R147) -/

/-- Every channel and VC has its turn, wherever the round starts. -/
theorem mem_rrOrder {n : Nat} (h : n ≤ 32) (start : Nat) : n ∈ rrOrder start :=
  List.mem_map.2 ⟨(n + 33 - start % 33) % 33, List.mem_range.2 (by omega), by omega⟩

section
variable {α : Type} (kind start : Nat) (f : LaneReq → Option α)

theorem pickReq_nil : pickReq [] kind start f = none := List.findSome?_eq_none_iff.2 fun _ _ => rfl

/-- A request that waits alone is picked, wherever the round starts. -/
theorem pickReq_of_single {q : LaneReq} {a : α} (ofKind : q.kind = kind) (known : q.n ≤ 32) (answer : f q = some a) :
    pickReq [q] kind start f = some (q, a) := by
  have turn (n : Nat) : ([q].filter (fun r => r.kind == kind && r.n == n)).findSome? (fun r => (f r).map (fun b => (r, b))) =
      if q.n = n then some (q, a) else none := by
    by_cases h : q.n = n <;> simp [ofKind, answer, h]
  simp only [pickReq, turn]
  cases picked : (rrOrder start).findSome? (fun n => if q.n = n then some (q, a) else none) with
  | none => exact absurd (List.findSome?_eq_none_iff.1 picked q.n (mem_rrOrder known start)) (by simp)
  | some p =>
    obtain ⟨n, _, hit⟩ := List.exists_of_findSome?_eq_some picked
    split at hit
    · exact hit.symm
    · cases hit

end

theorem grantJob_of_noRequest {s : State} {h : Nat} (none_waits : (s.hf h).reqs = []) (kind : Nat) : s.grantJob h kind = s := by
  simp only [State.grantJob, none_waits, pickReq_nil]

theorem grantGang_of_noRequest {s : State} {h : Nat} (none_waits : (s.hf h).reqs = []) : s.grantGang h = s := by
  simp only [State.grantGang, none_waits, pickReq_nil]

/-- A half after the grant of a live request: the request has left the queue and the round goes on behind its channel. -/
def HalfSt.grantedLive (x : HalfSt) (q : LaneReq) : HalfSt := { x with reqs := x.reqs.erase q, rrLive := (q.n + 1) % 33 }

/-- The state after a live request has been granted lane ln. -/
def State.grantedLive (s : State) (h : Nat) (q : LaneReq) (ln : Nat) : State :=
  ((s.modHf h (fun x => x.grantedLive q)).passPtr ln).modLn ln (fun l => { l with ib := l.ib ++ [{ n := q.n, k := q.k }] })

theorem hf_passPtr (s : State) (k h : Nat) : (s.passPtr k).hf h = { s.hf h with ptr := if h = laneHalf k then (k + 1) % 32 else (s.hf h).ptr } := by
  by_cases here : h = laneHalf k
  · rw [State.passPtr, here, hf_modHf_same, if_pos rfl]
  · rw [State.passPtr, hf_modHf_ne _ _ _ _ here, if_neg here]

theorem hf_grantedLive (s : State) (h : Nat) (q : LaneReq) (ln : Nat) :
    ((s.grantedLive h q ln).hf h).reqs = (s.hf h).reqs.erase q ∧ ((s.grantedLive h q ln).hf h).rrLive = (q.n + 1) % 33 := by
  rw [State.grantedLive, hf_modLn, hf_passPtr, hf_modHf_same]
  exact ⟨rfl, rfl⟩

theorem ib_grantedLive (s : State) (h : Nat) (q : LaneReq) (ln : Nat) :
    ((s.grantedLive h q ln).ln ln).ib = (s.ln ln).ib ++ [{ n := q.n, k := q.k }] := by
  rw [State.grantedLive, ln_modLn_same]
  rfl

section
variable {s : State} {q : LaneReq} {ln : Nat} (live : q.kind = 0) (known : q.n ≤ 32) (lane : s.chooseLane q.n = some ln)
include live known lane

theorem grantJob_of_singleLive {h : Nat} (waits : (s.hf h).reqs = [q]) : s.grantJob h 0 = s.grantedLive h q ln := by
  have picked := pickReq_of_single 0 (s.hf h).rrLive (fun r => s.chooseLane r.n) live known lane
  simp only [State.grantJob, waits, if_true, picked, Nat.zero_ne_one, if_false]
  rfl

theorem exec_laneAllocate_of_singleLive {h : Fin 2} (waits : (s.hf h.val).reqs = [q]) :
    exec (.laneAllocate h) s = .next (s.grantedLive h.val q ln) := by
  have none_waits : ((s.grantedLive h.val q ln).hf h.val).reqs = [] := by rw [(hf_grantedLive ..).1, waits, List.erase_cons_head]
  change execLaneAllocate h s = _
  rw [execLaneAllocate, grantJob_of_singleLive live known lane waits, grantJob_of_noRequest none_waits, grantGang_of_noRequest none_waits]

end

/-! ### DECODE_ATTEMPT_START and SWEEP_END (R138, R143) -/

/-- Below the deep step an attempt asks for no gang before its first sweep. -/
theorem attStart_of_notDeep {s : State} {k : Nat} {j : LJob} {r : List LJob} (buffered : (s.ln k).ib = j :: r) (no_attempt : (s.ln k).att = none)
    (none_held : (s.ln k).held = none) (idle : s.rf LN_STATUS_STATE k = lnIDLE) (not_deep : (s.slotRec j.n j.k).step < 8) : s.attStart k =
      (((s.modLn k (fun l => { l with att := some { job := j, sweeps := 0, low := 3841, since := 0, width := 1, members := [], asked := false } })).wf
        LN_STATUS_STATE lnDECODE k).wf LN_STATUS_CHANNEL j.n k).wf LN_STATUS_ITER 0 k := by
  have may_start : ¬ s.lnSt k ≠ lnIDLE := not_not_intro idle
  have deep : ((s.slotRec j.n j.k).step == 8) = false := beq_false_of_ne (Nat.ne_of_lt not_deep)
  simp only [State.attStart, buffered, no_attempt, none_held, if_neg may_start, deep, Bool.false_and, Bool.false_eq_true, if_false]

/-- The policy in force lies in the dictionary, beside registers and lanes. -/
theorem pol_swept (s : State) (k n sub iter : Nat) (f : LaneSt → LaneSt) :
    (((s.cnt LN_ITERS_ITERS k).wf LN_STATUS_ITER iter k).modLn k f).pol n sub = s.pol n sub := rfl

/-- A sweep that betters UNSAT without reaching 0, within the limits of its attempt. -/
theorem sweepEnd_of_better {s : State} {k u : Nat} {a : Att} (running : (s.ln k).att = some a) (kept : (s.slotRec a.job.n a.job.k).drop = 0)
    (not_deep : (s.slotRec a.job.n a.job.k).step < 8) (unsatisfied : 0 < u) (better : u < a.low) (below_max : a.sweeps + 1 < s.pol a.job.n 1)
    (stall_limit : 0 < s.pol a.job.n 4) (asked : a.asked = true) (flips : Nat) (ok1 ok2 ok3 ok4 : Bool) : s.sweepEnd k u flips ok1 ok2 ok3 ok4 =
      ((s.cnt LN_ITERS_ITERS k).wf LN_STATUS_ITER (a.sweeps + 1) k).modLn k (fun l =>
        { l with att := some { a with sweeps := a.sweeps + 1, low := u, since := 0 } }) := by
  have deep : ((s.slotRec a.job.n a.job.k).step == 8) = false := beq_false_of_ne (Nat.ne_of_lt not_deep)
  have within_limits : ¬ (a.sweeps + 1 = s.pol a.job.n 1 ∨ s.pol a.job.n 5 ≤ u ∧ s.pol a.job.n 4 ≤ 0) := by omega
  simp only [State.sweepEnd, running, kept, deep, better, asked, decide_true, Nat.min_eq_right (Nat.le_of_lt better), Nat.ne_of_gt unsatisfied, ne_eq,
    not_true_eq_false, false_and, true_and, Bool.not_true, Bool.not_false, Bool.false_eq_true, if_true, if_false, pol_swept, within_limits]

/-! ### OUTPUT_STORE_FREE (R149) -/

/-- From s to t a sector is handed over: the lanes, the halves of the Churn and the channels with their slot records are as they were. -/
structure HandedOver (s t : State) : Prop where
  lane : t.lane = s.lane
  half : t.half = s.half
  chan : t.chan = s.chan

namespace HandedOver

theorem refl (s : State) : HandedOver s s := ⟨rfl, rfl, rfl⟩

theorem trans {s t u : State} (h : HandedOver s t) (k : HandedOver t u) : HandedOver s u :=
  ⟨k.lane.trans h.lane, k.half.trans h.half, k.chan.trans h.chan⟩

theorem ite {s t u : State} {c : Prop} [Decidable c] (ht : HandedOver s t) (hu : HandedOver s u) : HandedOver s (if c then t else u) := by
  split <;> assumption

theorem foldl {β : Type} {g : State → β → State} (hg : ∀ t b, HandedOver t (g t b)) (l : List β) (s : State) : HandedOver s (l.foldl g s) :=
  List.foldlRecOn (motive := HandedOver s) l g (refl s) fun t ht b _ => ht.trans (hg t b)

end HandedOver

theorem handedOver_fillSector (s : State) (place : Nat) : HandedOver s (s.fillSector place) := .ite ⟨rfl, rfl, rfl⟩ (.refl s)

theorem handedOver_poolRose (s : State) (p : Nat) : HandedOver s (s.poolRose p) := .ite ⟨rfl, rfl, rfl⟩ (.refl s)

theorem handedOver_pailDrop (s : State) (id : Nat) : HandedOver s (s.pailDrop id) :=
  .trans (t := s.modPool (pailPool id) _) ⟨rfl, rfl, rfl⟩ (handedOver_poolRose ..)

theorem handedOver_pailsFree (s : State) (ids : List Nat) : HandedOver s (s.pailsFree ids) :=
  .foldl (fun t id => .ite (.refl t) (handedOver_pailDrop t id)) ids s

theorem handedOver_chEnter (s : State) (id : Nat) : HandedOver s (s.chEnter id) :=
  .ite (.refl s) (.ite ⟨rfl, rfl, rfl⟩ (.ite ⟨rfl, rfl, rfl⟩ ⟨rfl, rfl, rfl⟩))

theorem handedOver_modDc (s : State) (id : Nat) (f : DmaCh → DmaCh) : HandedOver s (s.modDc id f) := ⟨rfl, rfl, rfl⟩

theorem handedOver_setPtr (s : State) (ix lap : Fld) (id log2 v : Nat) : HandedOver s (s.setPtr ix lap id log2 v) := ⟨rfl, rfl, rfl⟩

theorem handedOver_queueDesc (s : State) (cs : List Nat) (d : Desc) : HandedOver s (s.queueDesc cs d) := by
  unfold State.queueDesc
  split
  · exact .refl s
  · exact ((handedOver_modDc ..).trans (handedOver_setPtr ..)).trans (handedOver_chEnter ..)

theorem handedOver_modCmd (s : State) (stamp : Nat) (f : Cmd → Cmd) : HandedOver s (s.modCmd stamp f) := ⟨rfl, rfl, rfl⟩

theorem handedOver_objReady (s : State) (c : Cmd) (ix pail : Nat) : HandedOver s (s.objReady c ix pail) := by
  unfold State.objReady
  split
  · exact .refl s
  · extract_lets marked
    have in_pail : HandedOver s marked := handedOver_modCmd ..
    exact .ite in_pail (in_pail.trans (handedOver_queueDesc ..))

theorem handedOver_hostReady (s : State) (q : SecCmd) : HandedOver s (s.hostReady q) := by
  unfold State.hostReady
  split
  · exact handedOver_pailsFree ..
  · have marked (f g : Cmd → Cmd) : HandedOver s ((s.modCmd q.stamp f).modCmd q.stamp g) := (handedOver_modCmd ..).trans (handedOver_modCmd ..)
    exact .ite (.refl s) (.ite (handedOver_objReady ..)
      (.ite ((marked ..).trans (handedOver_modCmd ..)) ((marked ..).trans (handedOver_queueDesc ..))))

theorem handedOver_deliver (s : State) (e : StoreEnt) : HandedOver s (s.deliver e) := by
  have filled := handedOver_fillSector s e.cmd.pail
  have ready : HandedOver s (if e.cmd.why = .host then (s.fillSector e.cmd.pail).hostReady e.cmd
      else { s.fillSector e.cmd.pail with ready := (s.fillSector e.cmd.pail).ready ++ [(e.cmd, e.status % 256)] }) :=
    .ite (filled.trans (handedOver_hostReady ..)) ⟨filled.lane, filled.half, filled.chan⟩
  exact .ite (.ite ready ⟨ready.lane, ready.half, ready.chan⟩) ready

/-- The state after an entry has left the store for its Pail. -/
def State.stored (s : State) (h : Nat) (e : StoreEnt) : State := (s.modHf h (fun x => { x with store := x.store.erase e })).deliver e

section
variable (s : State) (h : Nat) (e : StoreEnt)

theorem handedOver_stored : HandedOver (s.modHf h (fun x => { x with store := x.store.erase e })) (s.stored h e) := handedOver_deliver _ e

theorem slotRec_stored (n k : Nat) : (s.stored h e).slotRec n k = s.slotRec n k :=
  slotRec_of_sb (by rw [State.ch, State.ch, (handedOver_stored s h e).chan]; rfl) k

theorem store_stored : ((s.stored h e).hf h).store = (s.hf h).store.erase e := by
  rw [State.hf, (handedOver_stored s h e).half]
  exact congrArg HalfSt.store (hf_modHf_same s h _)

end

/-- With no lane of the half that holds a result, the entry's slot is released and no entry follows it. -/
theorem storeFree_of_noneHeld {s : State} {h : Nat} {e : StoreEnt} (not_captured : (s.slotRec e.n e.k).st ≠ 3)
    (none_held : ∀ i, i < 32 → (s.ln (32 * h + i)).held = none) : s.storeFree h e true = (s.stored h e).freeRec e.n e.k := by
  have released : (s.stored h e).slotDone e.n e.k = (s.stored h e).freeRec e.n e.k := by rw [State.slotDone, slotRec_stored, if_neg not_captured]
  have lanes (k : Nat) : ((s.stored h e).freeRec e.n e.k).ln k = s.ln k := by
    rw [State.freeRec, ln_modCh, State.ln, (handedOver_stored s h e).lane]
    rfl
  have search : ((List.range 32).map (fun i => 32 * h + i)).find? (fun k => (((s.stored h e).freeRec e.n e.k).ln k).held.isSome) = none := by
    simp only [lanes, List.find?_map, Option.map_eq_none_iff, List.find?_eq_none, List.mem_range, Function.comp_apply]
    intro i below
    rw [none_held i below]
    exact Bool.false_ne_true
  unfold State.storeFree
  extract_lets left delivered freed
  have freed_eq : freed = (s.stored h e).freeRec e.n e.k := released
  rw [freed_eq, search]

section
variable {s : State} {h : Fin 2}

theorem exec_outputStoreFree_of_empty (empty : (s.hf h.val).store = []) : exec (.outputStoreFree h) s = .next s := by
  change execOutputStoreFree h s = _
  rw [execOutputStoreFree, empty]
  rfl

theorem exec_outputStoreFree_of_oldest {e : StoreEnt} {r : List StoreEnt} (oldest : (s.hf h.val).store = e :: r) (pail : e.cmd.pool = none) :
    exec (.outputStoreFree h) s = .next (s.storeFree h.val e true) := by
  change execOutputStoreFree h s = _
  simp only [execOutputStoreFree, oldest, List.find?_cons, pail, Option.isNone_none]

end

/-! ### RETRY_BUDGET_EXPIRY (R152) -/

/-- An attempt on the sector completes first. -/
theorem exec_retryBudgetExpiry_of_running {s : State} {n : Chan} {slot : Fin 4} {k : Fin 64} {a : Att} (held : (s.slotRec n.val slot.val).st = 2)
    (retry : (s.slotRec n.val slot.val).step ≠ 0) (running : (s.ln k.val).att = some a) (job : a.job = { n := n.val, k := slot.val }) :
    exec (.retryBudgetExpiry n slot) s = .next (s.modSlot n.val slot.val (fun x => { x with budget := true })) := by
  have counts : ¬ ((s.slotRec n.val slot.val).st ≠ 2 ∨ (s.slotRec n.val slot.val).step = 0 ∧ (s.slotRec n.val slot.val).tried = []) := by
    simp [held, retry]
  have busy : (List.range 64).any (fun i => match ((s.modSlot n.val slot.val (fun x => { x with budget := true })).ln i).att with
      | some b => b.job == { n := n.val, k := slot.val } | none => false) = true :=
    List.any_eq_true.2 ⟨k.val, List.mem_range.2 k.isLt, by rw [State.modSlot, ln_modCh, running]; exact beq_iff_eq.2 job⟩
  change execRetryBudgetExpiry n slot s = _
  rw [execRetryBudgetExpiry, if_neg counts]
  exact if_pos (Bool.or_eq_true_iff.2 (.inl busy))

/-- Settles O16, command by command. -/
theorem lanesAreRequestedGrantedAndRun : Obligations.LanesAreRequestedGrantedAndRun := by
  intro s k n slot h
  refine ⟨fun used first retry => ?_, fun free => exec_laneRequest_of_free free, fun q ln waits live known lane => ?_,
    fun j r buffered no_attempt none_held idle not_deep => congrArg Host.Outcome.next (attStart_of_notDeep buffered no_attempt none_held idle not_deep),
    fun a u running kept not_deep unsatisfied better below_max stall_limit asked ok1 ok2 ok3 ok4 => congrArg Host.Outcome.next
      (sweepEnd_of_better running kept not_deep unsatisfied better below_max stall_limit asked 0 ok1 ok2 ok3 ok4),
    fun e r oldest pail _ _ not_captured none_held => ?_, exec_outputStoreFree_of_empty,
    fun a held retry running job => exec_retryBudgetExpiry_of_running held retry running job⟩
  · rw [← halfOf_chan] at first ⊢
    exact exec_laneRequest_of_first (n := ⟨n.val, by omega⟩) used first retry
  · obtain ⟨reqs, rrLive⟩ := hf_grantedLive s h.val q ln
    refine ⟨_, exec_laneAllocate_of_singleLive live known lane waits, ib_grantedLive s h.val q ln, ?_, rrLive, rfl⟩
    rw [reqs, waits, List.erase_cons_head]
  · refine ⟨_, (exec_outputStoreFree_of_oldest oldest pail).trans (congrArg Host.Outcome.next (storeFree_of_noneHeld not_captured none_held)), ?_, ?_⟩
    · rw [State.freeRec, hf_modCh, store_stored, oldest, List.erase_cons_head]
    · rw [State.freeRec, ch_modCh_same, State.ch, (handedOver_stored s h.val e).chan]
      rfl

end Sys2Proof.Machine
end

section
/-! The write channel and the members of a stripe update (R162, R163, R168, R170, R172, R180, R182, R195): what the operations of a link and of the Pails
leave, then each command by the state it finds. -/

namespace Sys2Proof.Machine
open Sys2Proof

/-! ### The encoder (R162, R163) -/

theorem exec_sectorEncodeDone_of_next {s : State} {n : Chan} {t : SecCmd} (next : s.encodeNext n.val = some t) :
    exec (.sectorEncodeDone n) s = .next (s.modCh n.val (fun c => { c with encoded := c.encoded ++ [t] })) := by
  change execSectorEncodeDone n s = _
  rw [execSectorEncodeDone, next]

/-- The encoder of a working channel that holds nothing takes the write at the front of the FIFO. -/
theorem encodeNext_of_first {s : State} {n : Nat} {t : SecCmd} {r : List SecCmd} (enabled : s.rf WR_CTRL_EN n = 1) (on : s.dom (2 + n / 4) = 3)
    (nothing_held : (s.ch n).encoded = []) (no_target : (s.ch n).target = none) (first : (s.ch n).fifo = t :: r) (write : t.write = true) :
    s.encodeNext n = some t := by
  have quad : s.quadOn n = true := beq_iff_eq.2 on
  have enable : s.rb WR_CTRL_EN n = true := beq_iff_eq.2 enabled
  simp [State.encodeNext, quad, enable, nothing_held, no_target, first, write]

/-! ### Causes that do not cut (R170) -/

/-- A cause that lets a sector end is set or cleared, and nothing else. -/
theorem inhibit_of_soft {bit : Nat} (soft : inhCuts bit = false) (s : State) (x : Bool) (n : Nat) :
    s.inhibit bit x n = s.wbit WR_STATUS_INHIBIT bit x n := by
  simp [State.inhibit, soft]

/-- WR_CTRL_WRITE (R195): EN, the software inhibit and cause 0, which follows it. -/
theorem wrCtrl_eq (s : State) (n v : Nat) : s.wrCtrl n v =
    ((s.wb WR_CTRL_EN (bitOf v 0) n).wb WR_CTRL_INHIBIT (bitOf v 1) n).wbit WR_STATUS_INHIBIT inhSOFTWARE (bitOf v 1) n := by
  rw [State.wrCtrl, inhibit_of_soft (by decide)]

/-! ### WRITE_SETUP (R166 to R168) -/

/-- From s to t acknowledged frames are handed to a link: the channels, the scheduler, the PA12s and the inhibit causes are as they were. -/
structure FramesHanded (s t : State) : Prop where
  chan : t.chan = s.chan
  sched : t.sched = s.sched
  pa : t.pa = s.pa
  causes : ∀ n, t.rf WR_STATUS_INHIBIT n = s.rf WR_STATUS_INHIBIT n

namespace FramesHanded

theorem refl (s : State) : FramesHanded s s := ⟨rfl, rfl, rfl, fun _ => rfl⟩

theorem trans {s t u : State} (h : FramesHanded s t) (k : FramesHanded t u) : FramesHanded s u :=
  ⟨k.chan.trans h.chan, k.sched.trans h.sched, k.pa.trans h.pa, fun n => (k.causes n).trans (h.causes n)⟩

end FramesHanded

theorem framesHanded_plPut (s : State) (a : Nat) {f : PlFrame} (ack : f.posted = false) : FramesHanded s (s.plPut a f) := by
  refine ⟨?_, ?_, ?_, fun n => ?_⟩
  all_goals simp only [State.plPut, ack, Bool.false_eq_true, if_false]
  case refine_4 =>
    rw [rf_modPl, rf_emit, State.wb, rf_wf_of_place_ne _ ⟨rfl, rfl⟩ ⟨rfl, rfl⟩ (by decide), rf_wf_of_place_ne _ ⟨rfl, rfl⟩ ⟨rfl, rfl⟩ (by decide)]
  all_goals rfl

theorem framesHanded_plSend (s : State) (a i : Nat) {f : PlFrame} (ack : f.posted = false) : FramesHanded s (s.plSend a i f) := by
  unfold State.plSend
  split
  · split
    · exact framesHanded_plPut s a ack
    · exact ⟨rfl, rfl, rfl, fun _ => rfl⟩
  · exact .refl s

theorem framesHanded_plSlotCmd (s : State) (a slot : Nat) {f : PlFrame} (ack : f.posted = false) : FramesHanded s (s.plSlotCmd a slot f) := by
  unfold State.plSlotCmd
  split
  · exact ⟨rfl, rfl, rfl, fun _ => rfl⟩
  · exact framesHanded_plSend s a plSEQ ack

theorem writeSetup_of_noSets {s : State} {n : Nat} (unloaded : (s.ch n).sets = none) : s.writeSetup n = s := by
  rw [State.writeSetup, unloaded]

/-- With sets loaded the three commands go out behind a cleared setup. -/
theorem framesHanded_writeSetup {s : State} {n : Nat} {sets : Nat × Nat} (loaded : (s.ch n).sets = some sets) :
    FramesHanded (s.setupNeed n) (s.writeSetup n) := by
  simp only [State.writeSetup, loaded]
  exact ((framesHanded_plSend _ _ _ rfl).trans (framesHanded_plSend _ _ _ rfl)).trans (framesHanded_plSlotCmd _ _ _ rfl)

/-- R168: a cleared setup holds the channel under SETUP. -/
theorem setupNeed_eq (s : State) (n : Nat) :
    s.setupNeed n = (s.modCh n (fun c => { c with setup := 0 })).wbit WR_STATUS_INHIBIT inhSETUP true n := inhibit_of_soft (by decide) ..

theorem exec_writeSetup_of_loaded {s : State} {n : Chan} {sets : Nat × Nat} (loaded : (s.ch n.val).sets = some sets) :
    ∃ t : State, exec (.writeSetup n) s = .next t ∧ (t.ch n.val).setup = 0 ∧ t.rbit WR_STATUS_INHIBIT inhSETUP n.val = true
      ∧ t.sched = s.sched ∧ t.pa = s.pa := by
  obtain ⟨chan, sched, pa, causes⟩ := framesHanded_writeSetup loaded
  rw [setupNeed_eq] at chan sched pa causes
  refine ⟨_, rfl, ?_, ?_, sched, pa⟩
  · rw [State.ch, chan]
    exact congrArg ChanSt.setup (ch_modCh_same s n.val (fun c => { c with setup := 0 }))
  · rw [State.rbit, causes]
    exact rbit_wbit_true (by decide) ..

/-! ### The geometry in force (R173 to R176) -/

/-- The entries in force follow from the dictionary in force and the part. -/
theorem par_congr {s t : State} (run : t.odRun = s.odRun) (part : t.part = s.part) : t.par = s.par := by
  funext ix sub
  rw [State.par, State.par, State.odInForce, State.odInForce, run, part]

section
variable {s t : State} (par : t.par = s.par)
include par

theorem geoD_congr : t.geoD = s.geoD := congrFun (congrFun par 0xC010) 1

theorem geoW_congr : t.geoW = s.geoW := by rw [State.geoW, State.geoW, State.geoD, State.geoD, State.geoP, State.geoP, par]

theorem geoK_congr : t.geoK = s.geoK := by rw [State.geoK, State.geoK, geoW_congr par]

theorem zn_congr : t.zn = s.zn := funext fun z => funext fun sub => congrFun (congrFun par (0x3100 + z)) sub

theorem cylsOf_congr : t.cylsOf = s.cylsOf := by
  funext z
  rw [State.cylsOf, State.cylsOf, zn_congr par]

theorem stripesIn_congr : t.stripesIn = s.stripesIn := by
  funext z
  rw [State.stripesIn, State.stripesIn, geoK_congr par, cylsOf_congr par, zn_congr par]

theorem stripeZone_congr : t.stripeZone = s.stripeZone := by
  have go (k z j : Nat) : State.stripeZone.go t k z j = State.stripeZone.go s k z j := by
    induction k generalizing z j with
    | zero => rfl
    | succ k ih => rw [State.stripeZone.go, State.stripeZone.go, stripesIn_congr par, ih]
  exact funext fun id => go 40 0 id

/-- The same entries in force place a member alike. -/
theorem place_congr (stripe m : Nat) : t.place stripe m = s.place stripe m := by
  unfold State.place
  rw [stripeZone_congr par, geoK_congr par, geoW_congr par, cylsOf_congr par, zn_congr par]

end

/-! ### WRITE_HOLD (R172, R184) -/

theorem holdExpiry_of_unmapped {s : State} {a h : Nat} (unmapped : s.headChan a h = none) : s.holdExpiry a h = s := by
  rw [State.holdExpiry, unmapped]

/-- A queued member write that still has a writer goes to it. -/
theorem reroute_of_head {s : State} {bad : Nat × Nat} {c : SecCmd} {b k : Nat} (route : s.route c.x c.ix [bad] = .head b k) :
    s.reroute bad c = { s with sched := s.sched ++ [{ c with act := b, head := k }] } := by
  rw [State.reroute, route]

/-- The routes of R184 follow from the heads, their actuators and the holes, not from what is queued. -/
theorem route_dequeued (s : State) (l : List SecCmd) (n : Nat) (f : ChanSt → ChanSt) (stripe m : Nat) (bad : List (Nat × Nat)) :
    (({ s with sched := l } : State).modCh n f).route stripe m bad = s.route stripe m bad := by
  have par : (({ s with sched := l } : State).modCh n f).par = s.par := par_congr rfl rfl
  unfold State.route
  rw [place_congr par]
  rfl

/-- The only member write that waits for a held head goes to the head that R184 gives it. -/
theorem holdExpiry_of_single {s : State} {a h n b k : Nat} {w : SecCmd} (mapped : s.headChan a h = some n)
    (held : holdCounts (s.rf WR_STATUS_INHIBIT n) = true) (queued : s.sched = [w]) (none_in_fifo : (s.ch n).fifo = [])
    (write : w.write = true) (member : w.why = .member) (act : w.act = a) (head : w.head = h) (route : s.route w.x w.ix [(a, h)] = .head b k) :
    (s.holdExpiry a h).sched = [{ w with act := b, head := k }] ∧ (s.holdExpiry a h).holes = s.holes ∧ (s.holdExpiry a h).openStripes = s.openStripes := by
  have mine : (w.write && w.why == .member && w.act == a && w.head == h) = true := by simp [write, member, act, head]
  simp only [State.holdExpiry, mapped, held, queued, none_in_fifo, List.filter_cons, List.filter_nil, mine, Bool.not_true, Bool.false_eq_true, if_true, if_false,
    List.append_nil, List.foldl_cons, List.foldl_nil]
  rw [reroute_of_head ((route_dequeued ..).trans route)]
  exact ⟨rfl, rfl, rfl⟩

/-! ### Pails (R316) -/

theorem poolRose_pools (s : State) (p : Nat) : { s.poolRose p with pool := s.pool } = s := by
  unfold State.poolRose
  split <;> rfl

theorem pailDrop_pools (s : State) (id : Nat) : { s.pailDrop id with pool := s.pool } = s :=
  congrArg (fun t : State => { t with pool := s.pool }) (poolRose_pools (s.modPool (pailPool id) _) _)

/-- Releasing Pails changes the Pools alone. -/
theorem pailsFree_pools (s : State) (ids : List Nat) : { s.pailsFree ids with pool := s.pool } = s := by
  refine List.foldlRecOn (motive := fun t : State => { t with pool := s.pool } = s) ids _ rfl fun t kept id _ => ?_
  split
  · exact kept
  · exact (congrArg (fun u : State => { u with pool := s.pool }) (pailDrop_pools t id)).trans kept

/-! ### PARITY_DONE (R180, R22, R300) -/

/-- An update that is dropped leaves the Pools, its reads and the list of updates changed, and nothing else. -/
theorem dropUpdate_pools (s : State) (u : Update) : { s.dropUpdate u with pool := s.pool } =
    { s with updates := s.updates.erase u, ready := s.ready.filter (fun r => !(r.1.why == .stripeRead && r.1.x == u.stripe)),
             sched := s.sched.filter (fun c => !(c.why == .stripeRead && c.x == u.stripe)) } := by
  unfold State.dropUpdate
  exact pailsFree_pools _ _

theorem dirty_dropUpdate (s : State) (u : Update) : (s.dropUpdate u).dirty = s.dirty := (congrArg State.dirty (dropUpdate_pools s u) :)

theorem geoD_dropUpdate (s : State) (u : Update) : (s.dropUpdate u).geoD = s.geoD :=
  geoD_congr (par_congr (congrArg State.odRun (dropUpdate_pools s u) :) (congrArg State.part (dropUpdate_pools s u) :))

/-- No sector newer than the media belongs to the stripe. -/
def State.Clean (s : State) (stripe : Nat) : Prop := ∀ d ∈ s.dirty, d.x / s.geoD ≠ stripe

section
variable {s : State} {stripe : Nat}

theorem busy_of_clean (clean : s.Clean stripe) : s.dirty.filter (fun x => x.busy && s.geoD != 0 && x.x / s.geoD == stripe) = [] :=
  List.filter_eq_nil_iff.2 fun d hd => by simp [clean d hd]

theorem dropDirty_of_clean (clean : s.Clean stripe) : s.dropDirty stripe = s := by
  have kept : s.dirty.filter (fun x => !([] : List Dirty).contains x) = s.dirty := List.filter_eq_self.2 fun _ _ => rfl
  rw [State.dropDirty, busy_of_clean clean]
  exact congrArg (fun l => ({ s with dirty := l } : State).pailsFree []) kept

/-- R22: a bus error abandons the update, and with no sector of it to fail no command ends. -/
theorem parityDone_of_busError {u : Update} (found : s.updateOf stripe = some u) (opened : u.parityDone = false) (clean : s.Clean stripe) :
    s.parityDone stripe true = ({ s with openStripes := s.openStripes.filter (fun o => o.stripe != stripe) } : State).dropUpdate u := by
  have still_clean : (({ s with openStripes := s.openStripes.filter (fun o => o.stripe != stripe) } : State).dropUpdate u).Clean stripe := by
    rw [State.Clean, dirty_dropUpdate, geoD_dropUpdate]
    exact clean
  simp only [State.parityDone, found, opened, busy_of_clean clean, List.map_nil, List.foldl_nil, Bool.false_eq_true, if_true, if_false]
  exact dropDirty_of_clean still_clean

theorem parityDone_of_reading {u : Update} (found : s.updateOf stripe = some u) (opened : u.parityDone = false) (reading : s.readsDone u = false) :
    s.parityDone stripe false = s := by
  simp only [State.parityDone, found, opened, reading, Bool.not_false, Bool.false_eq_true, if_true, if_false]

end

/-! ### STRIPE_UPDATE_START (R180) and MEMBER_WRITTEN (R182, R190) -/

theorem startUpdate_of_noFresh {s : State} {stripe : Nat} (none_new : s.freshOf stripe = []) (p : Nat) : s.startUpdate stripe p false = s :=
  if_pos (.inl ⟨none_new, rfl⟩)

section
variable {s : State} {n fr : Nat} {t : SecCmd} {r : List (SecCmd × Nat)} (oldest : (s.ch n).reports = (t, fr) :: r)
include oldest

theorem memberWritten_of_unverified (unverified : fr = (s.tr (chAct n)).verified) : s.memberWritten n = s := by
  simp only [State.memberWritten, oldest, unverified, if_true]

theorem memberWritten_of_rewrite (followed : fr ≠ (s.tr (chAct n)).verified) (rewrite : t.why = .rewrite) :
    s.memberWritten n = (s.modCh n (fun c => { c with reports := r })).rewritten t := by
  simp only [State.memberWritten, oldest, followed, rewrite, if_true, if_false]

end

/-- R190: a rewrite that asks for its verify read. -/
theorem rewritten_of_verify {s : State} {c : SecCmd} (verify : c.verify = true) : s.rewritten c =
    { s with cmds := s.cmds.filter (fun k => k.stamp != c.stamp), verifies := s.verifies ++ [{ c with write := false, why := .verify }] } := if_pos verify

/-- Settles O18, command by command. -/
theorem writeChannelAndStripes : Obligations.WriteChannelAndStripes := by
  intro s n stripe p
  refine ⟨fun t => exec_sectorEncodeDone_of_next, fun t r => encodeNext_of_first, fun unloaded => congrArg Host.Outcome.next (writeSetup_of_noSets unloaded),
    fun h g => exec_writeSetup_of_loaded, ⟨congrArg Host.Outcome.next (wrCtrl_eq s n.val 0), congrArg Host.Outcome.next (wrCtrl_eq s n.val 3)⟩,
    fun a h unmapped => congrArg Host.Outcome.next (holdExpiry_of_unmapped unmapped),
    fun a h c w mapped held queued none_in_fifo write member act head b k route =>
      ⟨_, rfl, holdExpiry_of_single mapped held queued none_in_fifo write member act head route⟩,
    fun none_new => congrArg Host.Outcome.next (startUpdate_of_noFresh none_new p.val), fun u found opened clean => ?_,
    fun u found opened reading => congrArg Host.Outcome.next (parityDone_of_reading found opened reading),
    fun t fr r oldest unverified => congrArg Host.Outcome.next (memberWritten_of_unverified oldest unverified),
    fun t fr r oldest followed rewrite verify => congrArg Host.Outcome.next
      ((memberWritten_of_rewrite oldest followed rewrite).trans (rewritten_of_verify verify))⟩
  have kept := dropUpdate_pools { s with openStripes := s.openStripes.filter (fun o => o.stripe != stripe.toNat) } u
  exact ⟨_, congrArg Host.Outcome.next (parityDone_of_busError found opened clean), (congrArg State.updates kept :),
    (congrArg State.openStripes kept :), (congrArg State.dirty kept :), (congrArg State.sched kept :)⟩

end Sys2Proof.Machine
end

section
/-! The full update of a stripe (R180, R182, R184): what drawing Pails leaves, then the update. -/

namespace Sys2Proof.Machine
open Sys2Proof

/-! ### What a fault report and the drawing of Pails leave -/

/-- What stripe updates work on: the generation, the updates with their open stripes, the new sectors, the queue of the scheduler and the holes. -/
def State.stripeWork (s : State) : BitVec 64 × List Update × List OpenStripe × List Dirty × List SecCmd × List Hole :=
  (s.writeGen, s.updates, s.openStripes, s.dirty, s.sched, s.holes)

/-- From s to t the stripe updates are as they were, and a power entry ends or goes on: what a fault report leaves (R461 to R463, R466). -/
structure WorkKept (s t : State) : Prop where
  work : t.stripeWork = s.stripeWork
  kind : t.pwr.kind = s.pwr.kind ∨ t.pwr.kind = .idle

namespace WorkKept

/-- A step within the reach of a report that leaves the power entry alone. -/
theorem of_within {s t : State} (work : t.stripeWork = s.stripeWork) (pwr : t.pwr = s.pwr) : WorkKept s t := ⟨work, .inl (by rw [pwr])⟩

theorem refl (s : State) : WorkKept s s := ⟨rfl, .inl rfl⟩

theorem trans {s t u : State} (h : WorkKept s t) (k : WorkKept t u) : WorkKept s u := by
  refine ⟨k.work.trans h.work, ?_⟩
  rcases k.kind with same | idle
  · rw [same]
    exact h.kind
  · exact .inr idle

/-- After a step that leaves the stripe updates and the power entry alone. -/
theorem after {s t u : State} (h : WorkKept t u) (work : t.stripeWork = s.stripeWork) (pwr : t.pwr = s.pwr) : WorkKept s u := (of_within work pwr).trans h

theorem ite {s t u : State} {c : Prop} [Decidable c] (ht : WorkKept s t) (hu : WorkKept s u) : WorkKept s (if c then t else u) := by
  split <;> assumption

theorem foldl {β : Type} {g : State → β → State} (hg : ∀ t b, WorkKept t (g t b)) (l : List β) (s : State) : WorkKept s (l.foldl g s) :=
  List.foldlRecOn (motive := WorkKept s) l g (refl s) fun t ht b _ => ht.trans (hg t b)

theorem wf (s : State) (f : Fld) (v i j : Nat) : WorkKept s (s.wf f v i j) := .of_within rfl rfl

theorem emit (s : State) (o : Out) : WorkKept s (s.emit o) := .of_within rfl rfl

theorem modSv (s : State) (a : Nat) (f : Servo → Servo) : WorkKept s (s.modSv a f) := .of_within rfl rfl

theorem modPl (s : State) (a : Nat) (f : Pl → Pl) : WorkKept s (s.modPl a f) := .of_within rfl rfl

theorem startFlush (s : State) : WorkKept s s.startFlush := .of_within rfl rfl

end WorkKept

theorem workKept_cutWrite (s : State) (n : Nat) : WorkKept s (s.cutWrite n) := by
  unfold State.cutWrite
  extract_lets channel hit counted
  have count : WorkKept s counted := .ite (.wf ..) (.refl s)
  exact .ite (count.trans (.of_within rfl rfl)) (.refl s)

theorem workKept_inhibit (s : State) (bit : Nat) (x : Bool) (n : Nat) : WorkKept s (s.inhibit bit x n) :=
  have event (t : State) : WorkKept t (t.sqEvent n evKILL) := .ite (.wf ..) (.wf ..)
  .trans (t := s.wbit WR_STATUS_INHIBIT bit x n) (.wf ..) (.ite ((workKept_cutWrite _ n).trans (event _)) (.refl _))

theorem workKept_inhibitAll (s : State) (bit : Nat) (x : Bool) : WorkKept s (s.inhibitAll bit x) :=
  .foldl (fun t n => workKept_inhibit t bit x n) _ s

theorem workKept_dropSeek (s : State) (a : Nat) : WorkKept s (s.dropSeek a) := by
  unfold State.dropSeek
  extract_lets noted idle
  have told : WorkKept s noted := by
    unfold noted
    split
    · exact .emit ..
    · exact .refl s
  exact ((told.trans (.modSv ..)).trans (.wf ..)).trans (.wf ..)

theorem workKept_startRetract (s : State) (a : Nat) : WorkKept s (s.startRetract a) := by
  unfold State.startRetract
  refine .ite ?_ (.refl s)
  extract_lets cut asked
  have closed : WorkKept s cut := .foldl workKept_cutWrite (chansOf a) s
  have reset : WorkKept cut asked := .ite (.modPl ..) (.refl cut)
  have dropped : WorkKept asked (asked.dropSeek a) := workKept_dropSeek asked a
  have stepped : WorkKept (asked.dropSeek a) ((asked.dropSeek a).modSv a (fun v => { v with retract := 1 })) := .modSv ..
  exact ((((closed.trans reset).trans dropped).trans stepped).trans (.wf ..)).trans (.wf ..)

/-- A power entry that ends with no actuator to reload. -/
theorem workKept_abortEntry (s : State) (result : Nat) : WorkKept s (s.abortEntry result false) := by
  unfold State.abortEntry
  extract_lets parked ended freed released
  have h1 : WorkKept s ended := .of_within rfl rfl
  have h2 : WorkKept ended freed := .ite (workKept_inhibitAll ended inhPOWER false) (.refl ended)
  have h3 : WorkKept freed released := .foldl (fun t p => .emit t (.note "RELEASE" (partIndex p) 0)) _ freed
  exact .ite (((h1.trans h2).trans h3).trans ⟨rfl, .inr rfl⟩) (.refl s)

theorem workKept_chipFatal (s : State) : WorkKept s s.chipFatal := by
  unfold State.chipFatal
  extract_lets latched collectors stopped shut rings ports told retracted ended
  have h1 : WorkKept s stopped := .of_within rfl rfl
  have h2 : WorkKept stopped shut := workKept_inhibitAll stopped inhFAULT true
  have h3 : WorkKept shut ports := .of_within rfl rfl
  have h4 : WorkKept ports told := .foldl (fun t (p : Nat × Port) => .emit t (.port p.1 "ERR_FATAL" 0)) _ ports
  have h5 : WorkKept told retracted := .foldl workKept_startRetract _ told
  have h6 : WorkKept retracted ended := .ite ((WorkKept.wf retracted PWR_STATUS_COMMITTED 0 0 0).trans (workKept_abortEntry _ 7)) (.refl retracted)
  exact .ite (.refl s) ((((((h1.trans h2).trans h3).trans h4).trans h5).trans h6).trans (.startFlush ended))

theorem workKept_dupUp (s : State) (rg src n : Nat) : WorkKept s (s.dupUp rg src n) := by
  unfold State.dupUp
  extract_lets collectors regional regionalCollectors waiting
  have h1 : WorkKept s regional := by
    unfold regional
    split
    · exact .ite (.of_within rfl rfl) (.refl s)
    · exact .refl s
  have h2 : WorkKept regional waiting := .of_within rfl rfl
  refine (h1.trans h2).trans ?_
  split
  · exact .ite (.of_within rfl rfl) (.refl waiting)
  · exact .refl waiting

theorem workKept_toRegion (s : State) (rg : Nat) (r : FaultRec) : WorkKept s (s.toRegion rg r) := by
  unfold State.toRegion
  split
  · exact .of_within rfl rfl
  · exact .ite (workKept_dupUp ..) (.of_within rfl rfl)

theorem workKept_reportBy (s : State) (rg blk src cell cls detail : Nat) (forced : Bool) : WorkKept s (s.reportBy rg blk src cell cls detail forced) := by
  unfold State.reportBy
  extract_lets key recording recorded opened collectors collected
  have h1 : WorkKept s recorded := .ite (.of_within rfl rfl) (.refl s)
  have h2 : WorkKept recorded collected := by
    unfold collected
    split
    · exact (workKept_toRegion ..).after rfl rfl
    · refine .ite ((workKept_dupUp ..).after rfl rfl) ?_
      extract_lets merged
      split <;> exact .of_within rfl rfl
  exact (h1.trans h2).trans (.ite (workKept_chipFatal collected) (.refl collected))

theorem workKept_report (s : State) (src cell detail : Nat) : WorkKept s (s.report src cell detail) := workKept_reportBy ..

theorem workKept_poolFell (s : State) (p : Nat) : WorkKept s (s.poolFell p) := by
  unfold State.poolFell
  extract_lets free lowest
  have h : WorkKept s lowest := .of_within rfl rfl
  exact h.trans (.ite ((workKept_report ..).after rfl rfl) (.refl lowest))

theorem workKept_pailTake (s : State) (p : Nat) : WorkKept s (s.pailTake p).1 := (workKept_poolFell ..).after rfl rfl

theorem workKept_takeMany (p n : Nat) (s : State) : WorkKept s (s.takeMany p n).1 := by
  induction n generalizing s with
  | zero => exact .refl s
  | succ n ih => exact (workKept_pailTake s p).trans (ih _)

/-! ### The full update (R180, R182, R184) -/

/-- All that a full update of a stripe with Pails of pool p asks for. -/
structure State.FullReady (s : State) (stripe p : Nat) : Prop where
  data : 0 < s.geoD
  new : ∀ m, m < s.geoD → (s.freshOf stripe).any (fun f => f.1 == m) = true
  idle : s.updateOf stripe = none
  room : s.openStripes.length < 4096
  power : s.pwr.pfail = false
  whole : s.holes = []
  writers : ∀ m, m < s.geoW → ∃ a h, s.route stripe m [] = .head a h
  pails : s.geoP ≤ s.poolFree p

/-- The state in which the next generation has been taken and the parity Pails have been drawn. -/
def State.parityDrawn (s : State) (p : Nat) : State := (({ s with writeGen := s.writeGen + 1 } : State).takeMany p s.geoP).1

/-- Update u enters the open-stripe table, and the new sectors of its stripe are busy. -/
def State.enterUpdate (s : State) (d : Nat) (u : Update) : State :=
  { s with openStripes := s.openStripes ++ [{ stripe := u.stripe, gen := u.gen, mask := u.mask }], updates := s.updates ++ [u],
           dirty := s.dirty.map (fun x => if d ≠ 0 ∧ x.x / d = u.stripe then { x with busy := true } else x) }

/-- The routes of R184 do not follow from the generation. -/
theorem route_of_generation (s : State) (g : BitVec 64) (stripe m : Nat) (bad : List (Nat × Nat)) :
    ({ s with writeGen := g } : State).route stripe m bad = s.route stripe m bad := by
  have par : ({ s with writeGen := g } : State).par = s.par := par_congr rfl rfl
  unfold State.route
  rw [place_congr par]
  rfl

theorem startUpdate_of_fullReady {s : State} {stripe p : Nat} (h : s.FullReady stripe p) : ∃ u : Update,
    s.startUpdate stripe p false = (s.parityDrawn p).enterUpdate s.geoD u ∧ u.stripe = stripe ∧ u.gen = (s.parityDrawn p).writeGen.toNat ∧ u.form = .full
      ∧ u.reads = [] ∧ u.mask = List.range s.geoW ∧ u.parityDone = false := by
  obtain ⟨data, new, idle, room, power, whole, writers, pails⟩ := h
  unfold State.startUpdate
  extract_lets d fresh upd holes form reads write stamp need failed cleared risen out mask drawn taken tmp parity pos entered told
  have upd_eq : upd = List.range d := List.filter_eq_self.2 fun m hm => new m (List.mem_range.1 hm)
  have holes_eq : holes = [] := by simp [holes, whole]
  have form_eq : form = .full := by simp [form, formOf, upd_eq]
  have reads_eq : reads = [] := by rw [show reads = formReads form d s.geoP upd from rfl, form_eq]; rfl
  have write_eq : write = List.range s.geoW := by
    simp [write, upd_eq, holes_eq, State.geoW, List.range_add, Nat.add_comm, d]
  have need_eq : need = s.geoP := by simp [need, reads_eq]
  have some_new : fresh ≠ [] := fun none_new => by
    have first := new 0 data
    rw [show s.freshOf stripe = [] from none_new] at first
    cases first
  have stops : ¬ ((fresh = [] ∧ (!false) = true) ∨ (s.updateOf stripe).isSome = true ∨ 4096 ≤ s.openStripes.length ∨ s.pwr.pfail = true) := by
    simp [some_new, idle, power, room]
  have routed : ∀ m ∈ write, ∃ a h, s.route stripe m [] = .head a h := fun m hm => writers m (List.mem_range.1 (write_eq ▸ hm))
  have no_fault : ¬ write.any (fun m => s.route stripe m [] == .fault) = true := by
    simp only [List.any_eq_true, beq_iff_eq, not_exists, not_and]
    intro m hm fault
    obtain ⟨a, k, head⟩ := routed m hm
    rw [head] at fault
    cases fault
  rw [if_neg stops, if_neg no_fault, need_eq, if_neg (Nat.not_lt.2 pails)]
  have out_eq : out = [] := List.filter_eq_nil_iff.2 fun m hm => by
    obtain ⟨a, k, head⟩ := routed m hm
    have same : risen.route stripe m [] = s.route stripe m [] := route_of_generation ..
    simp [same, head]
  have mask_eq : mask = List.range s.geoW := by simp [mask, out_eq, write_eq]
  have tmp_eq : tmp = [] := by simp [tmp, reads_eq]
  have taken_eq : taken = s.parityDrawn p := by rw [State.parityDrawn, ← need_eq]
  have told_eq : told = entered := by rw [show told = out.foldl (fun t m => t.omit_ stripe m) entered from rfl, out_eq, List.foldl_nil]
  rw [tmp_eq, List.foldl_nil, told_eq, ← taken_eq]
  exact ⟨{ stripe := stripe, pos := pos, stamp := stamp, gen := taken.writeGen.toNat, form := form, reads := reads, mask := mask, parityDone := false,
           tmp := tmp, pool := p }, rfl, rfl, rfl, form_eq, reads_eq, mask_eq, rfl⟩

/-- Settles O19: the generation rises, the parity Pails are drawn, and the update opens the stripe. -/
theorem fullStripeUpdateOpensTheStripe : Obligations.FullStripeUpdateOpensTheStripe := by
  intro s stripe p data new idle room power whole writers pails
  obtain ⟨u, formed, stripe_eq, gen, form, reads, mask, waits⟩ :=
    startUpdate_of_fullReady (s := s) ⟨data, new, idle, room, power, whole, writers, pails⟩
  have work : (s.parityDrawn p.val).stripeWork = ({ s with writeGen := s.writeGen + 1 } : State).stripeWork := (workKept_takeMany ..).work
  simp only [State.stripeWork, Prod.mk.injEq] at work
  obtain ⟨writeGen, updates, openStripes, dirty, sched, holes⟩ := work
  rw [writeGen] at gen
  refine ⟨_, u, congrArg Host.Outcome.next formed, writeGen, congrArg (· ++ [u]) updates, stripe_eq, form, reads, mask, gen, waits, ?_, ?_, sched,
    holes.trans whole⟩
  · rw [State.enterUpdate, openStripes, stripe_eq, gen, mask]
  · intro x hx here
    obtain ⟨y, -, rfl⟩ := List.mem_map.1 hx
    have place : (if s.geoD ≠ 0 ∧ y.x / s.geoD = u.stripe then { y with busy := true } else y).x = y.x := by split <;> rfl
    rw [place] at here
    rw [if_pos ⟨Nat.ne_of_gt data, here.trans stripe_eq.symm⟩]

end Sys2Proof.Machine
end

section
/-! Capture and replay (R192 to R194, R197): the record that is written, the start of a replay, its end. -/

namespace Sys2Proof.Machine
open Sys2Proof

/-! ### CAPTURE_DONE (R193) -/

/-- The entries as stored follow from the dictionary and the part. -/
theorem ent_congr {s t : State} (od : t.od = s.od) (part : t.part = s.part) : t.ent = s.ent := by
  funext ix sub
  rw [State.ent, State.ent, State.odGet, State.odGet, od, part]

/-- The record of a slot captured on channel n. -/
def State.capRec (s : State) (n : Nat) (r : SlotRec) : CapRec :=
  { chan := n, trig := r.trig, status := r.stat, seq := s.cru.seq, stamp := (match r.cmd with | some c => c.stamp | none => 0), slot := r,
    rpStatus := 0, rpSteps := [] }

/-- The record of slot k stands at CAP_WR_IDX. -/
def State.recordKept (s : State) (n k : Nat) : State :=
  { s with cru.recs := tabSet s.cru.recs (s.rf CAP_WR_IDX_IDX) (s.capRec n (s.slotRec n k)), cru.seq := s.cru.seq + 1 }

/-- CAP_WR_IDX moves on from index ix within the area. -/
def State.indexMoved (s : State) (ix : Nat) : State := s.wf CAP_WR_IDX_IDX (if capRecords s = 0 then 0 else (ix + 1) % capRecords s)

/-- CAP_STATE reads FULL when the area is full and does not wrap. -/
def State.markFull (s : State) : State := if capRecords s ≤ s.cru.recs.length ∧ s.rb CR_CTRL_WRAP = false then s.wf CR_STATUS_CAP_STATE 2 else s

theorem cru_markFull (s : State) : s.markFull.cru = s.cru := by
  unfold State.markFull
  split <;> rfl

theorem ch_markFull (s : State) (n : Nat) : s.markFull.ch n = s.ch n := by
  unfold State.markFull
  split <;> rfl

theorem capIndex_markFull (s : State) : s.markFull.rf CAP_WR_IDX_IDX = s.rf CAP_WR_IDX_IDX := by
  unfold State.markFull
  split
  · exact rf_wf_ne _ _ _ _ _ _ _ _ (by decide)
  · rfl

theorem captureDone_of_noneCaptured {s : State} {n : Nat} (none_captured : ∀ k, k < 4 → (s.slotRec n k).st ≠ 3) : s.captureDone n = s := by
  have search : (List.range 4).find? (fun k => (s.slotRec n k).st == 3) = none :=
    List.find?_eq_none.2 fun k hk => by simp [none_captured k (List.mem_range.1 hk)]
  rw [State.captureDone, search]

theorem captureDone_of_first {s : State} {n : Nat} (captured : (s.slotRec n 0).st = 3) :
    s.captureDone n = ((s.recordKept n 0).indexMoved (s.rf CAP_WR_IDX_IDX)).markFull.freeRec n 0 := by
  have search : (List.range 4).find? (fun k => (s.slotRec n k).st == 3) = some 0 := by
    simp [show List.range 4 = [0, 1, 2, 3] from rfl, captured]
  rw [State.captureDone, search]
  rfl

theorem capIndex_indexMoved {s : State} (area : 0 < s.ent 0xF010 2) (ix : Nat) :
    (s.indexMoved ix).rf CAP_WR_IDX_IDX = (ix + 1) % s.ent 0xF010 2 % 2 ^ CAP_WR_IDX_IDX.width := by
  have size : capRecords s ≠ 0 := Nat.ne_of_gt area
  rw [State.indexMoved, rf_wf_same, if_neg size, capRecords]

/-- R193: the record of the lowest captured slot is kept, and the slot is free again. -/
theorem exec_captureDone_of_first {s : State} {n : Chan} (captured : (s.slotRec n.val 0).st = 3) (area : 0 < s.ent 0xF010 2) :
    ∃ t : State, exec (.captureDone n) s = .next t ∧ t.cru.seq = s.cru.seq + 1 ∧ (t.ch n.val).sb = tabDel (s.ch n.val).sb 0
      ∧ t.rf CAP_WR_IDX_IDX = (s.rf CAP_WR_IDX_IDX + 1) % s.ent 0xF010 2 % 2 ^ CAP_WR_IDX_IDX.width
      ∧ tabFind t.cru.recs (s.rf CAP_WR_IDX_IDX) = some (s.capRec n.val (s.slotRec n.val 0)) := by
  have size : (s.recordKept n.val 0).ent 0xF010 2 = s.ent 0xF010 2 := congrFun (congrFun (ent_congr rfl rfl) _) _
  have cru : (((s.recordKept n.val 0).indexMoved (s.rf CAP_WR_IDX_IDX)).markFull.freeRec n.val 0).cru = (s.recordKept n.val 0).cru := cru_markFull _
  refine ⟨_, congrArg Host.Outcome.next (captureDone_of_first captured), ?_, ?_, ?_, ?_⟩
  · rw [cru, State.recordKept]
  · rw [State.freeRec, ch_modCh_same, ch_markFull]
    rfl
  · rw [State.freeRec, rf_modCh, capIndex_markFull, capIndex_indexMoved (size ▸ area), size]
  · rw [cru, State.recordKept, tabFind_tabSet_same]

/-! ### The end of a replay (R197) -/

section
variable (s : State)

theorem rpState_replayEnd {reason : Nat} (failed : reason ≠ 0) : (s.replayEnd reason).rf RP_STATUS_STATE = 3 := by
  rw [State.replayEnd, rf_modHf, rf_modCh, rf_wf_ne _ _ _ _ _ _ _ _ (by decide), rf_wf_same, if_neg failed]
  rfl

theorem rpReason_replayEnd (reason : Nat) : (s.replayEnd reason).rf RP_STATUS_REASON = reason % 2 ^ 8 := by
  rw [State.replayEnd, rf_modHf, rf_modCh, rf_wf_same]
  rfl

theorem cru_replayEnd (reason : Nat) : (s.replayEnd reason).cru = s.cru := rfl

end

/-! ### REPLAY_START (R194, R197) -/

/-- A replay that is asked for drops what an earlier one has left. -/
def State.replayAsked (s : State) : State := { s with cru.abort := false, cru.rpLast := none }

/-- The replay of record r is set up: it reads RUNNING, its steps are the enabled ones, and the record is in the slot of the replay channel. -/
def State.replayLoaded (s : State) (r : CapRec) : State :=
  ((({ s.replayAsked with cru.rpIdx := s.rf RP_IDX_IDX, cru.rpLeft := (List.range 9).filter (fun st => s.rbit RP_CTRL_STEPS st) } : State).wf
    RP_STATUS_STATE 1).wf RP_STATUS_REASON 0).modSlot 32 0 (fun _ =>
      { r.slot with st := 2, step := 0, tried := [], iters := 0, itLast := 0, unsat := 0, cmd := none })

section
variable {s : State}

theorem replayStart_of_running (running : s.rf RP_STATUS_STATE = 1) : s.replayStart = s := if_pos running

/-- The area is the one before the replay is asked for. -/
theorem size_replayAsked (s : State) : capRecords s.replayAsked = s.ent 0xF010 2 := congrFun (congrFun (ent_congr (s := s) rfl rfl) 0xF010) 2

section
variable (idle : s.rf RP_STATUS_STATE ≠ 1)
include idle

theorem replayStart_of_outside (outside : s.ent 0xF010 2 ≤ s.rf RP_IDX_IDX) : s.replayStart = s.replayAsked.replayEnd 1 := by
  rw [← size_replayAsked] at outside
  rw [State.replayStart, if_neg idle]
  exact if_pos outside

variable (inside : s.rf RP_IDX_IDX < s.ent 0xF010 2)
include inside

theorem replayStart_of_inside : s.replayStart = match tabFind s.cru.recs (s.rf RP_IDX_IDX) with
    | none => s.replayAsked.replayEnd 2
    | some r =>
      if !s.replayAsked.churnOn 0 && !(s.replayAsked.pol 32 10 == 1 && s.replayAsked.churnOn 1) then s.replayAsked.replayEnd 4
      else (s.replayLoaded r).replayNext 9 := by
  rw [← size_replayAsked] at inside
  rw [State.replayStart, if_neg idle]
  exact if_neg (Nat.not_le.2 inside)

theorem replayStart_of_empty (empty : tabFind s.cru.recs (s.rf RP_IDX_IDX) = none) : s.replayStart = s.replayAsked.replayEnd 2 := by
  rw [replayStart_of_inside idle inside, empty]

theorem replayStart_of_record {r : CapRec} (written : tabFind s.cru.recs (s.rf RP_IDX_IDX) = some r) (on : s.dom domCHA = 3) :
    s.replayStart = (s.replayLoaded r).replayNext 9 := by
  have churn : s.replayAsked.churnOn 0 = true := beq_iff_eq.2 on
  rw [replayStart_of_inside idle inside, written]
  simp [churn]

end

/-- The replay is at step 0, without a result, with the steps of l to come. -/
def State.atStep0 (s : State) (l : List Nat) : State := ({ s with cru.rpLeft := 0 :: l, cru.rpLast := none } : State).modSlot 32 0 (fun x => { x with step := 0 })

theorem slotState_atStep0 (s : State) (l : List Nat) : ((s.atStep0 l).slotRec 32 0).st = (s.slotRec 32 0).st := by
  rw [State.atStep0, slotRec_modSlot_same]
  rfl

/-- R194: step 0 needs no condition; its sector asks for a lane as a retry step of the replay channel. -/
theorem replayNext_of_step0 {l : List Nat} (left : s.cru.rpLeft = 0 :: l) (fuel : Nat) : s.replayNext (fuel + 1) =
    (s.atStep0 l).laneReq { kind := 1, n := 32, k := 0, lane := 0 } := by
  simp only [State.replayNext, left, ne_eq, not_true_eq_false, false_and, if_false]
  rfl

/-- With step 0 enabled it is the first. -/
theorem rpLeft_replayLoaded (enabled : s.rbit RP_CTRL_STEPS 0 = true) (r : CapRec) : ∃ l, (s.replayLoaded r).cru.rpLeft = 0 :: l := by
  refine ⟨((List.range 8).map Nat.succ).filter (fun st => s.rbit RP_CTRL_STEPS st), ?_⟩
  change (List.range 9).filter (fun st => s.rbit RP_CTRL_STEPS st) = _
  rw [List.range_succ_eq_map, List.filter_cons_of_pos (p := fun st => s.rbit RP_CTRL_STEPS st) enabled]

section
variable (s) (r : CapRec)

theorem rpState_replayLoaded : (s.replayLoaded r).rf RP_STATUS_STATE = 1 := by
  rw [State.replayLoaded, State.modSlot, rf_modCh, rf_wf_ne _ _ _ _ _ _ _ _ (by decide), rf_wf_same]
  rfl

theorem rpReason_replayLoaded : (s.replayLoaded r).rf RP_STATUS_REASON = 0 := by
  rw [State.replayLoaded, State.modSlot, rf_modCh, rf_wf_same]
  rfl

theorem slotState_replayLoaded : ((s.replayLoaded r).slotRec 32 0).st = 2 := by
  rw [State.replayLoaded, slotRec_modSlot_same]

end

/-- The first request of a half. -/
theorem laneReq_of_first {q : LaneReq} (first : (s.hf (halfOf q.n)).reqs = []) : s.laneReq q = s.modHf (halfOf q.n) (fun h => { h with reqs := [q] }) :=
  modHf_congr (by simp [first])

theorem exec_replayStart_of_record {r : CapRec} (idle : s.rf RP_STATUS_STATE ≠ 1) (inside : s.rf RP_IDX_IDX < s.ent 0xF010 2)
    (written : tabFind s.cru.recs (s.rf RP_IDX_IDX) = some r) (on : s.dom domCHA = 3) (enabled : s.rbit RP_CTRL_STEPS 0 = true) (first : (s.hf 0).reqs = []) :
    ∃ t : State, exec .replayStart s = .next t ∧ t.rf RP_STATUS_STATE = 1 ∧ t.rf RP_STATUS_REASON = 0 ∧ (t.slotRec 32 0).st = 2
      ∧ (t.hf 0).reqs = [{ kind := 1, n := 32, k := 0, lane := 0 }] ∧ t.cru.recs = s.cru.recs := by
  obtain ⟨l, left⟩ := rpLeft_replayLoaded enabled r
  have started := (replayStart_of_record idle inside written on).trans (replayNext_of_step0 left 8)
  rw [laneReq_of_first (q := { kind := 1, n := 32, k := 0, lane := 0 }) (by exact first)] at started
  refine ⟨_, congrArg Host.Outcome.next started, ?_, ?_, ?_, ?_, rfl⟩
  · exact rpState_replayLoaded s r
  · exact rpReason_replayLoaded s r
  · exact (slotState_atStep0 ..).trans (slotState_replayLoaded s r)
  · exact congrArg HalfSt.reqs (hf_modHf_same ..)

end

/-! ### REPLAY_ABORT and REPLAY_STEP_DONE (R193, R194, R197) -/

theorem replayAbort_of_idle {s : State} (idle : s.rf RP_STATUS_STATE ≠ 1) : s.replayAbort = s := if_pos idle

theorem replayAbort_of_noAttempt {s : State} (running : s.rf RP_STATUS_STATE = 1) (no_attempt : ∀ k, k < 64 → (s.ln k).att = none)
    (no_result : s.cru.rpLast = none) : s.replayAbort = s.replayEnd 3 := by
  have free : (List.range 64).any (fun k => match (s.ln k).att with | some a => a.job.n == 32 | none => false) = false :=
    List.any_eq_false.2 fun k hk => by simp [no_attempt k (List.mem_range.1 hk)]
  rw [State.replayAbort, if_neg (not_not_intro running)]
  exact if_neg (Bool.eq_false_iff.1 (Bool.or_eq_false_iff.2 ⟨free, by rw [no_result]; rfl⟩))

/-- A table in which the value of one key is changed in place. -/
theorem tabFind_map_at {α : Type} (t : Tab α) (a : Nat) (f : α → α) :
    tabFind (t.map (fun p => if p.1 = a then (p.1, f p.2) else p)) a = (tabFind t a).map f := by
  induction t with
  | nil => rfl
  | cons p r ih =>
    by_cases h : p.1 = a
    · simp [tabFind, h]
    · simp [tabFind, h, ih]

/-- The word of a step stands in its place, however few steps the record held. -/
theorem getD_padded_set {st : Nat} (known : st ≤ 8) (l : List Nat) (w : Nat) : ((l ++ List.replicate (9 - l.length) 0).set st w).getD st 0 = w := by
  have long : st < (l ++ List.replicate (9 - l.length) 0).length := by
    rw [List.length_append, List.length_replicate]
    omega
  simp [List.getD_eq_getElem?_getD, List.getElem?_set_self long]

/-- The step's result is in the record and with the sector. -/
def State.stepNoted (s : State) (low iter st : Nat) (conv : Bool) : State :=
  (s.setStep s.cru.rpIdx st (rpWord low iter true conv)).modSlot 32 0
    (fun x => if x.step ≤ 2 then { x with tried := x.tried ++ [(x.posOf x.step, low, conv)] } else x)

/-- The record has the status word w, and the step has left the list. -/
def State.stepLeft (s : State) (w : Nat) (r : List Nat) : State :=
  { s with cru.rpLeft := r, cru.rpLast := none,
           cru.recs := s.cru.recs.map (fun p => if p.1 = s.cru.rpIdx then (p.1, { p.2 with rpStatus := w }) else p) }

/-- The state behind a step that has ended. -/
def State.stepRecorded (s : State) (low iter st : Nat) (conv : Bool) (r : List Nat) : State :=
  (s.stepNoted low iter st conv).stepLeft (((s.stepNoted low iter st conv).slotRec 32 0).status (if conv then okCode st else 0x10)) r

section
variable {s : State} {low iter st : Nat} {conv : Bool} {r : List Nat}

theorem replayStep_of_abort (last : s.cru.rpLast = some (low, iter, conv)) (left : s.cru.rpLeft = st :: r) (running : s.rf RP_STATUS_STATE = 1)
    (asked : s.cru.abort = true) : s.replayStep = (s.stepRecorded low iter st conv r).replayEnd 3 := by
  have still : (s.stepRecorded low iter st conv r).cru.abort = true := asked
  rw [State.replayStep, last, left]
  simp only [running, ne_eq, not_true_eq_false, if_false]
  exact if_pos still

theorem word_setStep (known : st ≤ 8) (s : State) (ix w : Nat) :
    ∃ q, tabFind (s.setStep ix st w).cru.recs ix = some q ∧ q.rpSteps.getD st 0 = w :=
  ⟨_, tabFind_tabSet_same .., getD_padded_set known _ w⟩

theorem word_stepLeft {ix w : Nat} (here : s.cru.rpIdx = ix) (noted : ∃ q, tabFind s.cru.recs ix = some q ∧ q.rpSteps.getD st 0 = w) (status : Nat) :
    ∃ q, tabFind (s.stepLeft status r).cru.recs ix = some q ∧ q.rpSteps.getD st 0 = w := by
  obtain ⟨q, kept, word⟩ := noted
  subst here
  have changed := tabFind_map_at s.cru.recs s.cru.rpIdx (fun q => { q with rpStatus := status })
  rw [kept] at changed
  exact ⟨_, changed, word⟩

theorem word_stepRecorded (known : st ≤ 8) : ∃ q, tabFind (s.stepRecorded low iter st conv r).cru.recs s.cru.rpIdx = some q
    ∧ q.rpSteps.getD st 0 = rpWord low iter true conv := word_stepLeft rfl (word_setStep known s s.cru.rpIdx _) _

end

/-- Settles O21, command by command. -/
theorem captureAndReplay : Obligations.CaptureAndReplay := by
  intro s n
  refine ⟨rfl, fun none_captured => congrArg Host.Outcome.next (captureDone_of_noneCaptured none_captured), fun captured area => ?_,
    fun running => congrArg Host.Outcome.next (replayStart_of_running running),
    fun idle outside => ⟨_, congrArg Host.Outcome.next (replayStart_of_outside idle outside), rpState_replayEnd _ (by decide), rpReason_replayEnd .., rfl⟩,
    fun idle inside empty => ⟨_, congrArg Host.Outcome.next (replayStart_of_empty idle inside empty), rpState_replayEnd _ (by decide), rpReason_replayEnd .., rfl⟩,
    fun r idle inside written on enabled first => exec_replayStart_of_record idle inside written on enabled first,
    fun idle => congrArg Host.Outcome.next (replayAbort_of_idle idle),
    fun running no_attempt no_result => ⟨_, congrArg Host.Outcome.next (replayAbort_of_noAttempt running no_attempt no_result), rpState_replayEnd _ (by decide),
      rpReason_replayEnd ..⟩,
    fun low iter st conv r last left running asked known _ => ⟨_, congrArg Host.Outcome.next (replayStep_of_abort last left running asked),
      rpState_replayEnd _ (by decide), rpReason_replayEnd .., rfl, word_stepRecorded known⟩⟩
  obtain ⟨t, done, seq, sb, index, record⟩ := exec_captureDone_of_first captured area
  exact ⟨t, done, seq, sb, index, _, record, rfl, rfl, rfl, rfl, rfl⟩

end Sys2Proof.Machine
end

section
/-! Power entries and wakes (R170, R183, R476 to R483): the registers of the power controller, then requests, the handshake, wakes and PWRDIS. -/

namespace Sys2Proof.Machine
open Sys2Proof

/-! ### The registers of the power controller -/

theorem nChan_of_part {s t : State} (part : t.part = s.part) : t.nChan = s.nChan := by rw [State.nChan, State.nChan, State.nAct, State.nAct, part]

/-- From s to t the registers up to those of the power controller, the part and the open stripes are as they were. -/
structure StatusKept (s t : State) : Prop where
  status : ∀ g : Fld, g.base < 0x18000 → g.lo < 32 → t.rf g = s.rf g
  part : t.part = s.part
  openStripes : t.openStripes = s.openStripes
  byPwrdis : t.pwr.byPwrdis = s.pwr.byPwrdis

namespace StatusKept

theorem of_regs {s t : State} (regs : t.regs = s.regs) (part : t.part = s.part) (openStripes : t.openStripes = s.openStripes)
    (byPwrdis : t.pwr.byPwrdis = s.pwr.byPwrdis) : StatusKept s t :=
  ⟨fun g _ _ => by rw [State.rf, State.rf, regs], part, openStripes, byPwrdis⟩

theorem refl (s : State) : StatusKept s s := ⟨fun _ _ _ => rfl, rfl, rfl, rfl⟩

theorem trans {s t u : State} (h : StatusKept s t) (k : StatusKept t u) : StatusKept s u :=
  ⟨fun g base lo => (k.status g base lo).trans (h.status g base lo), k.part.trans h.part, k.openStripes.trans h.openStripes,
    k.byPwrdis.trans h.byPwrdis⟩

theorem ite {s t u : State} {c : Prop} [Decidable c] (ht : StatusKept s t) (hu : StatusKept s u) : StatusKept s (if c then t else u) := by
  split <;> assumption

theorem foldl {β : Type} {g : State → β → State} (hg : ∀ t b, StatusKept t (g t b)) (l : List β) (s : State) : StatusKept s (l.foldl g s) :=
  List.foldlRecOn (motive := StatusKept s) l g (refl s) fun t ht b _ => ht.trans (hg t b)

/-- The registers above the power controller's lie apart from them. -/
theorem wf {f : Fld} (above : 0x18000 ≤ f.base) (s : State) (v i j : Nat) : StatusKept s (s.wf f v i j) :=
  ⟨fun g base lo => rf_wf_ne _ _ _ _ _ _ _ _ (by simp only [Fld.key]; omega), rfl, rfl, rfl⟩

theorem nChan {s t : State} (h : StatusKept s t) : t.nChan = s.nChan := nChan_of_part h.part

end StatusKept

/-- A field of the power controller read after another one is written. -/
theorem rf_wf_power (s : State) {f g : Fld} (h : g.key 0 0 ≠ f.key 0 0) (v : Nat) : (s.wf f v).rf g = s.rf g := rf_wf_ne _ _ _ _ _ _ _ _ h

theorem rf_wb_power (s : State) {f g : Fld} (h : g.key 0 0 ≠ f.key 0 0) (b : Bool) : (s.wb f b).rf g = s.rf g := rf_wf_power s h _

/-- The inhibit causes are not among the power controller's registers. -/
theorem causes_wf (s : State) {f : Fld} (base : f.base < 0x810608) (lo : f.lo < 32) (v c : Nat) :
    (s.wf f v).rf WR_STATUS_INHIBIT c = s.rf WR_STATUS_INHIBIT c :=
  rf_wf_ne _ _ _ _ _ _ _ _ (by simp only [Fld.key, WR_STATUS_INHIBIT]; omega)

/-! ### The POWER cause (R170) -/

theorem bitOf_setBit (v b : Nat) (x : Bool) : bitOf (setBit v b x) b = x := by
  cases x with
  | true => exact bitOf_setBit_true v b
  | false =>
    unfold setBit
    split
    · next set =>
      have odd : v / 2 ^ b % 2 = 1 := beq_iff_eq.1 set
      have less : (v - 2 ^ b) / 2 ^ b = v / 2 ^ b - 1 := by simpa using Nat.sub_mul_div v (2 ^ b) 1
      rw [if_neg Bool.false_ne_true, bitOf, less]
      exact beq_false_of_ne (by omega)
    · next clear => exact eq_false_of_ne_true clear

theorem rbit_wbit {f : Fld} {b : Nat} (h : b < f.width) (s : State) (x : Bool) (i j : Nat) : (s.wbit f b x i j).rbit f b i j = x := by
  rw [State.rbit, State.wbit, rf_wf_same, bitOf_mod_two_pow h, bitOf_setBit]

theorem statusKept_inhibitPower (s : State) (x : Bool) (n : Nat) : StatusKept s (s.inhibit inhPOWER x n) := by
  rw [inhibit_of_soft (by decide)]
  exact .wf (by decide) ..

theorem statusKept_inhibitAll (s : State) (x : Bool) : StatusKept s (s.inhibitAll inhPOWER x) :=
  .foldl (fun t n => statusKept_inhibitPower t x n) _ s

/-- A channel of the pass has POWER as the pass leaves it. -/
theorem power_inhibits (s : State) (x : Bool) {ns : List Nat} {c : Nat} (h : c ∈ ns) : (s.inhibits inhPOWER x ns).rbit WR_STATUS_INHIBIT inhPOWER c = x := by
  obtain ⟨before, after, rfl⟩ := List.append_of_mem h
  rw [State.inhibits, List.foldl_append, List.foldl_cons]
  refine List.foldlRecOn (motive := fun t : State => t.rbit WR_STATUS_INHIBIT inhPOWER c = x) after _ ?_ fun t ht n _ => ?_
  · rw [inhibit_of_soft (by decide)]
    exact rbit_wbit (by decide) ..
  · rw [inhibit_of_soft (by decide)]
    by_cases same : n = c
    · rw [same]
      exact rbit_wbit (by decide) ..
    · have apart : WR_STATUS_INHIBIT.key c 0 ≠ WR_STATUS_INHIBIT.key n 0 := by
        simp only [Fld.key, WR_STATUS_INHIBIT]
        omega
      rwa [State.rbit, State.wbit, rf_wf_ne _ _ _ _ _ _ _ _ apart]

theorem power_inhibitAll (s : State) (x : Bool) {c : Nat} (h : c < s.nChan) : (s.inhibitAll inhPOWER x).rbit WR_STATUS_INHIBIT inhPOWER c = x :=
  power_inhibits s x (List.mem_range.2 h)

/-! ### R479 step 1: the request is accepted -/

/-- PWR_STATUS of an entry to n that begins. -/
def State.entryMarked (s : State) (n : Nat) : State :=
  ((((((s.wb PWR_STATUS_BUSY true).wf PWR_STATUS_PEND n).wf PWR_STATUS_RESULT 1).wb PWR_STATUS_COMMITTED false).wf PWR_STATUS_STAGE 0).wb
    PWR_STATUS_REQ_BUSY false).wb WAKE_STATUS_REPLAY false

/-- POWER holds writing from P2 on. -/
def State.entryHeld (s : State) (n : Nat) : State := if 2 ≤ n then s.inhibitAll inhPOWER true else s

/-- From P3 on a switch-over before its handoff is abandoned (R517). -/
def State.entrySwitch (s : State) (n : Nat) : State := if 3 ≤ n ∧ s.rf SEC_SWITCH_STATE ≤ 3 then s.swAbandon else s

theorem entryBegin_eq (s : State) (n : Nat) (kind : PwrKind) : s.entryBegin n kind = { ((s.entryMarked n).entryHeld n).entrySwitch n with
    pwr.kind := kind, pwr.waiting := [], pwr.acked := [], pwr.parked := [], pwr.started := false, pwr.pwrdisLater := false } := rfl

section
variable (s : State) (n : Nat)

theorem statusKept_entryHeld : StatusKept s (s.entryHeld n) := .ite (statusKept_inhibitAll s true) (.refl s)

theorem statusKept_runSlot (k : Nat) : StatusKept s (s.runSlot k) :=
  .trans (t := s.wf SEC_STATUS_BOOT_SLOT k) (.wf (by decide) ..) (.wf (by decide) ..)

theorem causes_runSlot (k c : Nat) : (s.runSlot k).rf WR_STATUS_INHIBIT c = s.rf WR_STATUS_INHIBIT c := by
  rw [State.runSlot, causes_wf _ (by decide) (by decide), causes_wf _ (by decide) (by decide)]

/-- The registers that an abandoned switch-over writes are the security block's. -/
theorem swAbandon_kept : StatusKept s s.swAbandon ∧ ∀ c, s.swAbandon.rf WR_STATUS_INHIBIT c = s.rf WR_STATUS_INHIBIT c := by
  unfold State.swAbandon
  split
  · next w _ =>
    split
    · exact ⟨.refl s, fun _ => rfl⟩
    · extract_lets back
      have run : StatusKept s back ∧ ∀ c, back.rf WR_STATUS_INHIBIT c = s.rf WR_STATUS_INHIBIT c := by
        unfold back
        split
        · exact ⟨statusKept_runSlot s w.old, causes_runSlot s w.old⟩
        · exact ⟨.refl s, fun _ => rfl⟩
      refine ⟨(run.1.trans (.wf (by decide) ..)).trans (.wf (by decide) ..), fun c => ?_⟩
      rw [causes_wf _ (by decide) (by decide), causes_wf _ (by decide) (by decide), run.2 c]
  · exact ⟨.refl s, fun _ => rfl⟩

theorem entrySwitch_kept : StatusKept s (s.entrySwitch n) ∧ ∀ c, (s.entrySwitch n).rf WR_STATUS_INHIBIT c = s.rf WR_STATUS_INHIBIT c := by
  unfold State.entrySwitch
  split
  · exact swAbandon_kept s
  · exact ⟨.refl s, fun _ => rfl⟩

theorem part_entryMarked : (s.entryMarked n).part = s.part := rfl

theorem causes_entryMarked (c : Nat) : (s.entryMarked n).rf WR_STATUS_INHIBIT c = s.rf WR_STATUS_INHIBIT c := by
  simp (disch := decide) only [State.entryMarked, State.wb, causes_wf]

variable (kind : PwrKind)

/-- From the writes of PWR_STATUS on the entry leaves the power controller's registers alone. -/
theorem statusKept_entryBegin : StatusKept (s.entryMarked n) (s.entryBegin n kind) := by
  rw [entryBegin_eq]
  exact ((statusKept_entryHeld (s.entryMarked n) n).trans (entrySwitch_kept ((s.entryMarked n).entryHeld n) n).1).trans (.of_regs rfl rfl rfl rfl)

theorem causes_entryBegin (c : Nat) : (s.entryBegin n kind).rf WR_STATUS_INHIBIT c = ((s.entryMarked n).entryHeld n).rf WR_STATUS_INHIBIT c := by
  rw [entryBegin_eq]
  exact (entrySwitch_kept ((s.entryMarked n).entryHeld n) n).2 c

/-- R479 step 1, R170: from P2 on every channel is held under POWER. -/
theorem power_entryBegin (deep : 2 ≤ n) {c : Nat} (h : c < s.nChan) : (s.entryBegin n kind).rbit WR_STATUS_INHIBIT inhPOWER c = true := by
  rw [State.rbit, causes_entryBegin, State.entryHeld, if_pos deep, ← State.rbit]
  exact power_inhibitAll (s.entryMarked n) true (Nat.lt_of_lt_of_eq h (nChan_of_part (part_entryMarked s n)).symm)

theorem causes_entryBegin_of_shallow (shallow : n < 2) (c : Nat) : (s.entryBegin n kind).rf WR_STATUS_INHIBIT c = s.rf WR_STATUS_INHIBIT c := by
  rw [causes_entryBegin, State.entryHeld, if_neg (Nat.not_le.2 shallow), causes_entryMarked]

theorem pwr_entryBegin : (s.entryBegin n kind).pwr.kind = kind ∧ (s.entryBegin n kind).pwr.waiting = [] ∧ (s.entryBegin n kind).pwr.started = false := by
  rw [entryBegin_eq]
  exact ⟨rfl, rfl, rfl⟩

/-- What PWR_STATUS reads when an entry has begun. -/
theorem status_entryBegin (small : n ≤ 4) :
    (s.entryBegin n kind).rb PWR_STATUS_BUSY = true ∧ (s.entryBegin n kind).rf PWR_STATUS_PEND = n ∧ (s.entryBegin n kind).rf PWR_STATUS_RESULT = 1
      ∧ (s.entryBegin n kind).rb PWR_STATUS_COMMITTED = false ∧ (s.entryBegin n kind).rf PWR_STATUS_STATE = s.rf PWR_STATUS_STATE := by
  have kept {g : Fld} (base : g.base < 0x18000) (lo : g.lo < 32) := (statusKept_entryBegin s n kind).status g base lo
  have fits : n % 2 ^ PWR_STATUS_PEND.width = n := Nat.mod_eq_of_lt (Nat.lt_of_le_of_lt small (by decide))
  simp only [State.rb]
  rw [kept (by decide) (by decide), kept (by decide) (by decide), kept (by decide) (by decide), kept (by decide) (by decide), kept (by decide) (by decide)]
  simp (disch := decide) only [State.entryMarked, rf_wb_power, rf_wf_power, rf_wb_same, rf_wf_same, fits]
  decide

end

/-! ### Requests (R476) -/

section
variable {s : State} {n : Nat}

section
variable (idle : s.pwr.kind = .idle)
include idle

theorem pwrRequest_of_unknown (unknown : 4 < n) : s.pwrRequest n = ((s.refuseWith blkPOWER 0x06).wf PWR_STATUS_RESULT 4).wb PWR_STATUS_REQ_BUSY false := by
  simp only [State.pwrRequest, idle, unknown, if_true]

theorem pwrRequest_of_inForce (known : n ≤ 4) (here : n = s.rf PWR_STATUS_STATE) :
    s.pwrRequest n = (s.wf PWR_STATUS_RESULT 2).wb PWR_STATUS_REQ_BUSY false := by
  simp only [State.pwrRequest, idle, if_neg (Nat.not_lt.2 known), if_pos here]

theorem pwrRequest_of_shallower (known : n ≤ 4) (shallower : n < s.rf PWR_STATUS_STATE) : s.pwrRequest n = (s.wb PWR_STATUS_REQ_BUSY false).wake 5 := by
  simp only [State.pwrRequest, idle, if_neg (Nat.not_lt.2 known), if_neg (Nat.ne_of_lt shallower), if_pos shallower]

theorem pwrRequest_of_deeper (known : n ≤ 4) (deeper : s.rf PWR_STATUS_STATE < n) : s.pwrRequest n = s.entryBegin n .entry := by
  simp only [State.pwrRequest, idle, if_neg (Nat.not_lt.2 known), if_neg (Nat.ne_of_gt deeper), if_neg (Nat.not_lt.2 (Nat.le_of_lt deeper))]

end

theorem pwrRequest_of_exit (exit : s.pwr.kind = .exit) : s.pwrRequest n = s.wb PWR_STATUS_REQ_BUSY true := by
  simp only [State.pwrRequest, exit]

section
variable (entry : s.pwr.kind = .entry)
include entry

theorem pwrRequest_of_entryAsDeep (deep : s.rf PWR_STATUS_PEND ≤ n) : s.pwrRequest n = s.wb PWR_STATUS_REQ_BUSY true := by
  simp only [State.pwrRequest, entry, if_neg (Nat.not_lt.2 deep)]

theorem pwrRequest_of_entryShallower (shallower : n < s.rf PWR_STATUS_PEND) : s.pwrRequest n = s.wake 5 := by
  simp only [State.pwrRequest, entry, if_pos shallower]

end

theorem wf_with_regs (s : State) (f : Fld) (v : Nat) (regs : Tab Nat) : { s.wf f v with regs } = { s with regs } := rfl

/-- A refused request is told in registers alone. -/
theorem refused_with_regs (s : State) : { ((s.refuseWith blkPOWER 0x06).wf PWR_STATUS_RESULT 4).wb PWR_STATUS_REQ_BUSY false with regs := s.regs } = s := by
  rw [State.wb, wf_with_regs, wf_with_regs, State.refuseWith, wf_with_regs, wf_with_regs]

/-- What PWR_STATUS and PWR_REFUSE read behind a request for a state that does not exist. -/
theorem refused_of_unknown (s : State) :
    let t := ((s.refuseWith blkPOWER 0x06).wf PWR_STATUS_RESULT 4).wb PWR_STATUS_REQ_BUSY false
    t.rf PWR_STATUS_RESULT = 4 ∧ t.rf PWR_REFUSE_REASON = 6 ∧ t.rf PWR_REFUSE_BLOCK = blkPOWER ∧ t.rb PWR_STATUS_REQ_BUSY = false := by
  simp (disch := decide) only [State.refuseWith, State.rb, rf_wb_power, rf_wf_power, rf_wb_same, rf_wf_same]
  decide

/-- IDLE_TIMER_EXPIRY: a timer that is off, or not the one of the state in force, or that finds the power controller at work, does nothing. -/
theorem exec_idleTimerExpiry_of_not {k : Fin 3} (h : s.par 0x2020 (3 + k.val) = 0 ∨ s.rf PWR_STATUS_STATE ≠ k.val ∨ s.pwr.kind ≠ .idle) :
    exec (.idleTimerExpiry k) s = .next s := by
  refine congrArg Host.Outcome.next (if_neg fun ⟨set, idle, _, here, _⟩ => ?_)
  rcases h with off | elsewhere | busy
  · exact set off
  · exact elsewhere here
  · exact busy idle

theorem exec_idleTimerExpiry_of_due {k : Fin 3} (set : s.par 0x2020 (3 + k.val) ≠ 0) (idle : s.pwr.kind = .idle) (up : s.pwr.startStep = 12)
    (here : s.rf PWR_STATUS_STATE = k.val) (quiet : s.sectorsIdle = true) : exec (.idleTimerExpiry k) s = .next (s.pwrRequest (k.val + 1)) :=
  congrArg Host.Outcome.next (if_pos ⟨set, idle, up, here, .inr quiet⟩)

/-! ### POWER_ENTRY_STAGE (R478, R479 step 2) -/

theorem entryStage_of_not (h : s.pwr.started = true ∨ s.rb PWR_STATUS_COMMITTED = true ∨ s.pwr.kind = .idle) : s.entryStage = s := by
  refine if_neg fun ⟨under_way, waits, open_, _⟩ => ?_
  rcases h with started | committed | idle
  · simp [started] at waits
  · simp [committed] at open_
  · simp [idle] at under_way

section
variable (forced : s.pwr.kind = .forced) (waits : s.pwr.started = false) (uncommitted : s.rb PWR_STATUS_COMMITTED = false)
include forced waits uncommitted

theorem entryStage_of_forced : s.entryStage =
    match ([1, 2, 3, 4, 5].filter (fun k => decide (s.rf PWR_STATUS_STAGE < k))).find? (fun k => s.stageParts k != []) with
    | some k => ({ s.wf PWR_STATUS_STAGE k with pwr.started := true, pwr.waiting := s.stageParts k } : State).stageAct k
    | none => s.commitPoint :=
  if_pos ⟨.inr forced, by rw [waits]; rfl, by rw [uncommitted]; rfl, by rw [forced]; rfl⟩

theorem entryStage_of_next {k : Nat} (later : s.rf PWR_STATUS_STAGE < k) (last : k ≤ 5) (parts : s.stageParts k ≠ [])
    (first : ∀ j, s.rf PWR_STATUS_STAGE < j → j < k → s.stageParts j = []) :
    s.entryStage = ({ s.wf PWR_STATUS_STAGE k with pwr.started := true, pwr.waiting := s.stageParts k } : State).stageAct k := by
  have search : ([1, 2, 3, 4, 5].filter (fun k => decide (s.rf PWR_STATUS_STAGE < k))).find? (fun k => s.stageParts k != []) = some k := by
    rw [show [1, 2, 3, 4, 5] = List.range' 1 5 from rfl, List.find?_filter, List.find?_range'_eq_some]
    refine ⟨by simp [later, parts], List.mem_range'_1.2 ⟨by omega, by omega⟩, fun j _ before => ?_⟩
    by_cases after : s.rf PWR_STATUS_STAGE < j
    · simp [first j after before]
    · simp [after]
  rw [entryStage_of_forced forced waits uncommitted, search]

theorem entryStage_of_noStage (none_left : ∀ k, s.rf PWR_STATUS_STAGE < k → k ≤ 5 → s.stageParts k = []) : s.entryStage = s.wb PWR_STATUS_COMMITTED true := by
  have search : ([1, 2, 3, 4, 5].filter (fun k => decide (s.rf PWR_STATUS_STAGE < k))).find? (fun k => s.stageParts k != []) = none := by
    refine List.find?_eq_none.2 fun k hk => ?_
    obtain ⟨stage, later⟩ := List.mem_filter.1 hk
    have last : k ≤ 5 := by
      simp only [List.mem_cons, List.not_mem_nil, or_false] at stage
      omega
    simp [none_left k (of_decide_eq_true later) last]
  rw [entryStage_of_forced forced waits uncommitted, search]
  rfl

end

/-! ### Answers of the participants (R477 to R479) -/

section
variable {p : Participant}

theorem partAnswer_of_notAsked (absent : p ∉ s.pwr.waiting) (a : Answer) : s.partAnswer p a = s := by
  simp [State.partAnswer, absent]

theorem partTimeout_of_notAsked (absent : p ∉ s.pwr.waiting) : s.partTimeout p = s := by
  simp [State.partTimeout, absent]

theorem partTimeout_of_unbound (unbound : partUnbound p = true) : s.partTimeout p = s := by
  simp [State.partTimeout, unbound]

theorem partAnswer_delay : s.partAnswer p .delay = s := by simp [State.partAnswer]

theorem partAnswer_ack_of_not (busy : s.ackOk p = false) : s.partAnswer p .ack = s := by simp [State.partAnswer, busy]

/-- The state in which p has acknowledged. -/
def State.ackNoted (s : State) (p : Participant) : State := { s with pwr.waiting := s.pwr.waiting.erase p, pwr.acked := s.pwr.acked ++ [p] }

theorem partDone_of_others (others : s.pwr.waiting.erase p ≠ []) : s.partDone p = s.ackNoted p := if_pos others

/-- The stage of an entry has ended. -/
def State.stageEnded (s : State) : State := { s with pwr.started := false }

theorem partDone_of_stageEnded (none_waits : s.pwr.waiting.erase p = []) : s.partDone p =
    if ([1, 2, 3, 4, 5].filter (fun k => decide ((s.ackNoted p).stageEnded.rf PWR_STATUS_STAGE < k))).all (fun k => (s.ackNoted p).stageEnded.stageParts k == [])
    then (s.ackNoted p).stageEnded.commitPoint else (s.ackNoted p).stageEnded := if_neg (not_not_intro none_waits)

/-- With the last of all participants the entry commits. -/
theorem partDone_of_last (alone : s.pwr.waiting = [p]) (last : s.rf PWR_STATUS_STAGE = 5) :
    s.partDone p = ({ s with pwr.waiting := [], pwr.acked := s.pwr.acked ++ [p], pwr.started := false } : State).wb PWR_STATUS_COMMITTED true := by
  have none_waits : s.pwr.waiting.erase p = [] := by rw [alone, List.erase_cons_head]
  have stage : (s.ackNoted p).stageEnded.rf PWR_STATUS_STAGE = 5 := last
  have no_stage : [1, 2, 3, 4, 5].filter (fun k => decide (5 < k)) = [] := by decide
  rw [partDone_of_stageEnded none_waits, stage, no_stage, List.all_nil, if_pos rfl, State.ackNoted, none_waits]
  rfl

section
variable (asked : p ∈ s.pwr.waiting)
include asked

theorem partAnswer_ack_of_ok (ok : s.ackOk p = true) : s.partAnswer p .ack = s.partDone p := by simp [State.partAnswer, asked, ok]

theorem partAnswer_refuse (entry : s.pwr.kind = .entry) {r : BitVec 8} (reason : s.refusal p = some r.toNat) :
    s.partAnswer p (.refuse r) = (s.refuseWith (partBlock p) r.toNat).abortEntry 4 true := by
  simp [State.partAnswer, asked, entry, reason]

/-- R477: the participant's report may itself end the entry, but it does not force one. -/
theorem partTimeout_of_entry (bound : partUnbound p = false) (entry : s.pwr.kind = .entry) :
    s.partTimeout p = ((s.refuseWith (partBlock p) 0).report (srcId SYS 0 0)).abortEntry 5 true := by
  have contains : s.pwr.waiting.contains p = true := List.contains_iff_mem.2 asked
  have kind : (s.refuseWith (partBlock p) 0).pwr.kind = .entry := entry
  have unforced : ((s.refuseWith (partBlock p) 0).report (srcId SYS 0 0)).pwr.kind ≠ .forced := by
    rcases (workKept_report (s.refuseWith (partBlock p) 0) (srcId SYS 0 0) 0 0).kind with same | idle
    · rw [same, kind]
      decide
    · rw [idle]
      decide
  simp only [State.partTimeout, contains, bound, Bool.not_true, Bool.or_self, Bool.false_eq_true, if_false, if_neg unforced]

end

end

end

/-! ### Wakes (R480, R481) -/

/-- The wake has been latched. -/
def State.wakeSeen (s : State) (bit : Nat) : State := s.wbit WAKE_STATUS_SEEN bit true

/-- The enables of the wakes do not follow from the latches. -/
theorem wakeOn_wakeSeen (s : State) (bit k : Nat) : (s.wakeSeen bit).wakeOn k = s.wakeOn k := by
  have enables : (s.wakeSeen bit).rf WAKE_EN_EN = s.rf WAKE_EN_EN := rf_wf_power s (by decide) _
  have ent : (s.wakeSeen bit).ent = s.ent := ent_congr rfl rfl
  have par : (s.wakeSeen bit).par = s.par := par_congr rfl rfl
  simp only [State.wakeOn, State.rbit, enables, ent, par]
  rfl

theorem rf_wakeSeen (s : State) {g : Fld} (h : g.key 0 0 ≠ WAKE_STATUS_SEEN.key 0 0) (bit : Nat) : (s.wakeSeen bit).rf g = s.rf g := rf_wf_power s h _

/-- A wake from outside, or a request, is always enabled. -/
theorem wakeOn_of_always (s : State) {bit : Nat} (always : bit = 0 ∨ bit = 5) : s.wakeOn bit = true := by
  rcases always with rfl | rfl <;> rfl

section
variable {s : State} {bit : Nat}

theorem wake_of_idleNotCounted (idle : s.pwr.kind = .idle) (not_counted : (wakeStates bit).contains (s.rf PWR_STATUS_STATE) = false) : s.wake bit = s := by
  refine if_pos ?_
  rw [not_counted, idle]
  rfl

section
variable (counts : ((wakeStates bit).contains (s.rf PWR_STATUS_STATE) || (s.pwr.kind != .idle && (wakeStates bit).contains (s.rf PWR_STATUS_PEND))) = true)
include counts

theorem wake_of_disabled (off : s.wakeOn bit = false) : s.wake bit = s.wakeSeen bit := by
  have still : (!(s.wakeSeen bit).wakeOn bit) = true := by rw [wakeOn_wakeSeen, off]; rfl
  refine (if_neg ?_).trans (if_pos still)
  rw [counts]
  exact Bool.false_ne_true

theorem wake_of_enabled (on : s.wakeOn bit = true) : s.wake bit = match s.pwr.kind with
    | .idle => if s.rf PWR_STATUS_STATE = 0 then s.wakeSeen bit else (s.wakeSeen bit).exitBegin
    | .entry => if (s.wakeSeen bit).rb PWR_STATUS_COMMITTED then (s.wakeSeen bit).wb WAKE_STATUS_REPLAY true
      else if s.rf PWR_STATUS_STATE = 0 then (s.wakeSeen bit).abortEntry 3 true else ((s.wakeSeen bit).abortEntry 3 true).exitBegin
    | .forced => if (s.wakeSeen bit).rb PWR_STATUS_COMMITTED then (s.wakeSeen bit).wb WAKE_STATUS_REPLAY true else s.wakeSeen bit
    | .exit => s.wakeSeen bit := by
  have still : ¬ (!(s.wakeSeen bit).wakeOn bit) = true := by
    rw [wakeOn_wakeSeen, on]
    exact Bool.false_ne_true
  refine (if_neg ?_).trans (if_neg still)
  rw [counts]
  exact Bool.false_ne_true

end

/-- R481: the exit from P1 begins at once. -/
theorem exitBegin_of_P1 (here : s.rf PWR_STATUS_STATE = 1) : s.exitBegin =
    { ((s.wb PWR_STATUS_BUSY true).wf PWR_STATUS_PEND 0).wb WAKE_STATUS_REPLAY false with pwr.kind := .exit, pwr.exitFrom := 1, pwr.byPwrdis := false } := by
  simp only [State.exitBegin, here]
  rfl

theorem wake_of_P1 (idle : s.pwr.kind = .idle) (here : s.rf PWR_STATUS_STATE = 1) (always : bit = 0 ∨ bit = 5) : s.wake bit = (s.wakeSeen bit).exitBegin := by
  have counts : ((wakeStates bit).contains (s.rf PWR_STATUS_STATE) || (s.pwr.kind != .idle && (wakeStates bit).contains (s.rf PWR_STATUS_PEND))) = true := by
    rw [here]
    rcases always with rfl | rfl <;> rfl
  rw [wake_of_enabled counts (wakeOn_of_always s always), idle]
  exact if_neg (by rw [here]; decide)

/-- Behind the commit point a wake waits for the replay. -/
theorem wake_of_committed (entry : s.pwr.kind = .entry) (committed : s.rb PWR_STATUS_COMMITTED = true) (always : bit = 0 ∨ bit = 5)
    (counted : (wakeStates bit).contains (s.rf PWR_STATUS_PEND) = true) : s.wake bit = (s.wakeSeen bit).wb WAKE_STATUS_REPLAY true := by
  have counts : ((wakeStates bit).contains (s.rf PWR_STATUS_STATE) || (s.pwr.kind != .idle && (wakeStates bit).contains (s.rf PWR_STATUS_PEND))) = true := by
    rw [counted, entry]
    exact Bool.or_true _
  have still : (s.wakeSeen bit).rb PWR_STATUS_COMMITTED = true := by rw [State.rb, rf_wakeSeen s (by decide)]; exact committed
  rw [wake_of_enabled counts (wakeOn_of_always s always), entry]
  exact if_pos still

end

/-- R480, R481: a wake out of P1 is latched, and the exit is under way. -/
theorem exit_of_P1 {s : State} {bit : Nat} (here : s.rf PWR_STATUS_STATE = 1) (known : bit < 6) :
    (s.wakeSeen bit).exitBegin.pwr.kind = .exit ∧ (s.wakeSeen bit).exitBegin.pwr.exitFrom = 1 ∧ (s.wakeSeen bit).exitBegin.rb PWR_STATUS_BUSY = true
      ∧ (s.wakeSeen bit).exitBegin.rbit WAKE_STATUS_SEEN bit = true := by
  have seen_here : (s.wakeSeen bit).rf PWR_STATUS_STATE = 1 := (rf_wakeSeen s (by decide) bit).trans here
  rw [exitBegin_of_P1 seen_here]
  refine ⟨rfl, rfl, ?_, ?_⟩
  · change (((((s.wakeSeen bit).wb PWR_STATUS_BUSY true).wf PWR_STATUS_PEND 0).wb WAKE_STATUS_REPLAY false).rf PWR_STATUS_BUSY == 1) = true
    simp (disch := decide) only [rf_wb_power, rf_wf_power, rf_wb_same]
    decide
  · change bitOf (((((s.wakeSeen bit).wb PWR_STATUS_BUSY true).wf PWR_STATUS_PEND 0).wb WAKE_STATUS_REPLAY false).rf WAKE_STATUS_SEEN) bit = true
    simp (disch := decide) only [rf_wb_power, rf_wf_power]
    exact rbit_wbit_true known s 0 0

/-! ### The end of an entry (R477, R479 step 3) -/

theorem statusKept_reloadParked (s : State) : StatusKept s s.reloadParked := by
  refine .foldl (fun t a => .ite (.trans (t := t.modSv a _) (.of_regs rfl rfl rfl rfl) (.wf (by decide) ..)) (.refl t)) _ s

/-- PWR_STATUS of an entry that has ended with a result. -/
def State.entryResult (s : State) (result : Nat) : State :=
  (((s.wf PWR_STATUS_RESULT result).wb PWR_STATUS_BUSY false).wf PWR_STATUS_STAGE 0).wf PWR_STATUS_PEND 0

/-- POWER stays only in P2 and deeper (R170). -/
def State.powerFreed (s : State) : State := if s.rf PWR_STATUS_STATE ≤ 1 then s.inhibitAll inhPOWER false else s

/-- The participants that had acknowledged are released. -/
def State.released (s : State) : State := s.pwr.acked.foldl (fun t p => t.emit (.note "RELEASE" (partIndex p) 0)) s

section
variable (s : State)

theorem statusKept_powerFreed : StatusKept s s.powerFreed := .ite (statusKept_inhibitAll s false) (.refl s)

theorem regs_released : s.released.regs = s.regs :=
  List.foldlRecOn (motive := fun t : State => t.regs = s.regs) s.pwr.acked _ rfl fun _ h _ _ => h

theorem statusKept_released : StatusKept s s.released := .foldl (fun t p => .of_regs (t := t.emit (.note "RELEASE" (partIndex p) 0)) rfl rfl rfl rfl) _ s

variable (result : Nat) (reload : Bool)

/-- The entry has ended in the registers. -/
def State.entryFreed : State := ((if reload then s.reloadParked else s).entryResult result).powerFreed.released

/-- The entry has ended in the power controller too. -/
def State.entryClosed : State :=
  { s with pwr.kind := .idle, pwr.waiting := [], pwr.acked := [], pwr.parked := [], pwr.started := false }

theorem rf_entryClosed (f : Fld) (i j : Nat) : s.entryClosed.rf f i j = s.rf f i j := rfl

theorem pwr_entryClosed : s.entryClosed.pwr.kind = .idle ∧ s.entryClosed.pwr.waiting = [] := ⟨rfl, rfl⟩

theorem abortEntry_of_open {s : State} (entry : s.pwr.kind = .entry ∨ s.pwr.kind = .forced) (uncommitted : s.rf PWR_STATUS_COMMITTED = 0) :
    s.abortEntry result reload = (s.entryFreed result reload).entryClosed := by
  rw [State.abortEntry, if_pos ⟨entry, uncommitted⟩]
  rfl

theorem statusKept_reload : StatusKept s (if reload = true then s.reloadParked else s) := .ite (statusKept_reloadParked s) (.refl s)

theorem rf_entryFreed {g : Fld} (base : g.base < 0x18000) (lo : g.lo < 32) :
    (s.entryFreed result reload).rf g = ((if reload then s.reloadParked else s).entryResult result).rf g :=
  ((statusKept_powerFreed _).trans (statusKept_released _)).status g base lo

theorem state_entryResult : (s.entryResult result).rf PWR_STATUS_STATE = s.rf PWR_STATUS_STATE := by
  simp (disch := decide) only [State.entryResult, rf_wb_power, rf_wf_power]

/-- What PWR_STATUS reads when an entry has ended. -/
theorem status_entryFreed (small : result < 16) :
    (s.entryFreed result reload).rf PWR_STATUS_RESULT = result ∧ (s.entryFreed result reload).rb PWR_STATUS_BUSY = false
      ∧ (s.entryFreed result reload).rf PWR_STATUS_STAGE = 0 ∧ (s.entryFreed result reload).rf PWR_STATUS_PEND = 0
      ∧ (s.entryFreed result reload).rf PWR_STATUS_STATE = s.rf PWR_STATUS_STATE := by
  have fits : result % 2 ^ PWR_STATUS_RESULT.width = result := Nat.mod_eq_of_lt small
  have state := (statusKept_reload s reload).status PWR_STATUS_STATE (by decide) (by decide)
  simp only [State.rb]
  rw [rf_entryFreed _ _ _ (by decide) (by decide), rf_entryFreed _ _ _ (by decide) (by decide), rf_entryFreed _ _ _ (by decide) (by decide),
    rf_entryFreed _ _ _ (by decide) (by decide), rf_entryFreed _ _ _ (by decide) (by decide), state_entryResult, state]
  simp (disch := decide) only [State.entryResult, rf_wb_power, rf_wf_power, rf_wb_same, rf_wf_same, fits]
  decide

/-- R170: an entry that ends in P0 or P1 frees every channel of POWER. -/
theorem power_entryFreed (shallow : s.rf PWR_STATUS_STATE ≤ 1) {c : Nat} (h : c < s.nChan) :
    (s.entryFreed result reload).rbit WR_STATUS_INHIBIT inhPOWER c = false := by
  have kept := statusKept_reload s reload
  have state : ((if reload = true then s.reloadParked else s).entryResult result).rf PWR_STATUS_STATE ≤ 1 := by
    rw [state_entryResult, kept.status PWR_STATUS_STATE (by decide) (by decide)]
    exact shallow
  have channels : ((if reload = true then s.reloadParked else s).entryResult result).nChan = s.nChan := kept.nChan
  rw [State.rbit, State.rf, State.entryFreed, regs_released, State.powerFreed, if_pos state]
  exact power_inhibitAll _ false (channels ▸ h)

end

/-! ### PWRDIS (R482, R483) -/

section
variable {s : State}

theorem pwrdis_of_forced (forced : s.pwr.kind = .forced) : s.pwrdis = { s with pwr.byPwrdis := true } := by
  simp only [State.pwrdis, forced]

theorem pwrdis_of_committed (entry : s.pwr.kind = .entry) (committed : s.rb PWR_STATUS_COMMITTED = true) :
    s.pwrdis = { s with pwr.byPwrdis := true, pwr.pwrdisLater := true } := by
  simp only [State.pwrdis, entry]
  exact if_pos committed

section
variable (idle : s.pwr.kind = .idle)
include idle

theorem pwrdis_of_P4 (here : s.rf PWR_STATUS_STATE = 4) : s.pwrdis = { s with pwr.byPwrdis := true } := by
  simp only [State.pwrdis, idle, and_true]
  exact if_pos here

theorem pwrdis_of_shallow (shallow : s.rf PWR_STATUS_STATE ≠ 4) : s.pwrdis = ({ s with pwr.byPwrdis := true } : State).forceEntry := by
  simp only [State.pwrdis, idle]
  exact if_neg fun h => shallow h.1

end

end

/-! ### A forced entry to P4 (R482, R183) -/

theorem forceEntry_eq (s : State) : s.forceEntry = (s.entryBegin 4 .forced).dropSectors := rfl

section
variable (s : State)

theorem regs_dropSectors : s.dropSectors.regs = s.regs := rfl

theorem pwr_dropSectors : s.dropSectors.pwr = s.pwr := rfl

theorem sched_dropSectors : s.dropSectors.sched = [] := rfl

theorem savedStripes_dropSectors : s.dropSectors.savedStripes = some s.openStripes := rfl

/-- R482, R183: the queue is dropped, the open stripes are saved and every channel is held. -/
theorem forceEntry_facts : s.forceEntry.pwr.kind = .forced ∧ s.forceEntry.rf PWR_STATUS_PEND = 4 ∧ s.forceEntry.sched = []
    ∧ s.forceEntry.savedStripes = some s.openStripes ∧ s.forceEntry.pwr.byPwrdis = s.pwr.byPwrdis
    ∧ ∀ c, c < s.nChan → s.forceEntry.rbit WR_STATUS_INHIBIT inhPOWER c = true := by
  obtain ⟨-, pend, -⟩ := status_entryBegin s 4 .forced (Nat.le_refl 4)
  have kept := statusKept_entryBegin s 4 .forced
  rw [forceEntry_eq, State.rf, regs_dropSectors, pwr_dropSectors, sched_dropSectors, savedStripes_dropSectors]
  refine ⟨?_, pend, rfl, congrArg some kept.openStripes, kept.byPwrdis, fun c h => ?_⟩
  · exact (pwr_entryBegin s 4 .forced).1
  · rw [State.rbit, State.rf, regs_dropSectors]
    exact power_entryBegin s 4 .forced (by decide) h

end

theorem forced_of_pwrdis {s : State} (idle : s.pwr.kind = .idle) (shallow : s.rf PWR_STATUS_STATE ≠ 4) :
    ∃ t : State, exec .pwrdis s = .next t ∧ t.pwr.kind = .forced ∧ t.rf PWR_STATUS_PEND = 4 ∧ t.sched = [] ∧ t.savedStripes = some s.openStripes
      ∧ t.pwr.byPwrdis = true ∧ ∀ c, c < s.nChan → t.rbit WR_STATUS_INHIBIT inhPOWER c = true :=
  ⟨_, congrArg Host.Outcome.next (pwrdis_of_shallow idle shallow), forceEntry_facts { s with pwr.byPwrdis := true }⟩

/-- Settles O53, request by request and answer by answer. -/
theorem powerEntriesAndWakes : Obligations.PowerEntriesAndWakes := by
  intro s
  refine ⟨fun _ => rfl,
    fun n => ⟨fun idle => ⟨fun unknown => ?unknown, pwrRequest_of_inForce idle, pwrRequest_of_shallower idle, fun known deeper => ?deeper⟩,
      pwrRequest_of_exit, pwrRequest_of_entryAsDeep, pwrRequest_of_entryShallower⟩,
    fun k => ⟨exec_idleTimerExpiry_of_not, exec_idleTimerExpiry_of_due⟩,
    fun h => congrArg Host.Outcome.next (entryStage_of_not h),
    fun forced waits uncommitted => ⟨fun k later last parts first => congrArg Host.Outcome.next
        (entryStage_of_next forced waits uncommitted later last parts first),
      fun none_left => congrArg Host.Outcome.next (entryStage_of_noStage forced waits uncommitted none_left)⟩,
    fun p => ⟨fun absent => ⟨fun a => congrArg Host.Outcome.next (partAnswer_of_notAsked absent a),
        congrArg Host.Outcome.next (partTimeout_of_notAsked absent)⟩, fun asked => ?asked⟩,
    fun b idle => ⟨fun not_counted => congrArg Host.Outcome.next (wake_of_idleNotCounted idle not_counted), fun counted off => ?disabled,
      fun here always => ⟨_, congrArg Host.Outcome.next (wake_of_P1 idle here always), exit_of_P1 here b.isLt⟩⟩,
    fun b entry committed always counted => congrArg Host.Outcome.next (wake_of_committed entry committed always counted),
    fun b entry uncommitted => ?ended,
    fun forced => congrArg Host.Outcome.next (pwrdis_of_forced forced),
    fun entry committed => congrArg Host.Outcome.next (pwrdis_of_committed entry committed),
    fun idle here => congrArg Host.Outcome.next (pwrdis_of_P4 idle here), forced_of_pwrdis⟩
  case unknown =>
    obtain ⟨result, reason, block, free⟩ := refused_of_unknown s
    exact ⟨_, pwrRequest_of_unknown idle unknown, result, reason, block, free, refused_with_regs s⟩
  case deeper =>
    obtain ⟨busy, pend, result, uncommitted, state⟩ := status_entryBegin s n .entry known
    obtain ⟨kind, waiting, unstarted⟩ := pwr_entryBegin s n .entry
    exact ⟨_, pwrRequest_of_deeper idle known deeper, kind, busy, pend, result, uncommitted, state, waiting, unstarted,
      fun deep _ => power_entryBegin s n .entry deep, causes_entryBegin_of_shallow s n .entry⟩
  case asked =>
    exact ⟨congrArg Host.Outcome.next partAnswer_delay, fun busy => congrArg Host.Outcome.next (partAnswer_ack_of_not busy),
      fun ok others => congrArg Host.Outcome.next ((partAnswer_ack_of_ok asked ok).trans (partDone_of_others others)),
      fun ok alone last => congrArg Host.Outcome.next ((partAnswer_ack_of_ok asked ok).trans (partDone_of_last alone last)),
      fun r entry reason => congrArg Host.Outcome.next (partAnswer_refuse asked entry reason),
      fun unbound => congrArg Host.Outcome.next (partTimeout_of_unbound unbound),
      fun bound entry => congrArg Host.Outcome.next (partTimeout_of_entry asked bound entry)⟩
  case disabled =>
    refine congrArg Host.Outcome.next (wake_of_disabled ?_ off)
    rw [counted]
    rfl
  case ended =>
    obtain ⟨result, free, stage, pend, state⟩ := status_entryFreed s 4 b (by decide)
    obtain ⟨kind, waiting⟩ := pwr_entryClosed (s.entryFreed 4 b)
    refine ⟨_, abortEntry_of_open 4 b entry uncommitted, kind, ?_⟩
    simp only [State.rb, State.rbit, rf_entryClosed]
    exact ⟨result, free, stage, pend, waiting, state, fun shallow _ => power_entryFreed s 4 b shallow⟩

end Sys2Proof.Machine
end

section
/-! The commands of a microword (R198, R200 to R204): what each makes of the channel, its queue and its registers. -/

namespace Sys2Proof.Machine
open Sys2Proof

/-! ### A released sector (R204) -/

/-- The channel behind the release of sector f. -/
def ChanSt.released (f : SecCmd) (c : ChanSt) : ChanSt :=
  { c with target := none, begun := false, cut := false, ended := false, barred := false, encoded := c.encoded.filter (fun e => e != f) }

section
variable {s : State} {n : Nat}

theorem releaseTarget_of_none (empty : (s.ch n).target = none) (out : Nat) : s.releaseTarget n out = s := by
  simp only [State.releaseTarget, empty]

theorem releaseTarget_of_read {f : SecCmd} (held : (s.ch n).target = some f) : s.releaseTarget n 0 = s.modCh n (ChanSt.released f) := by
  simp only [State.releaseTarget, held]
  rfl

theorem releaseTarget_of_notBegun {f : SecCmd} (held : (s.ch n).target = some f) :
    s.releaseTarget n 3 = (s.modCh n (ChanSt.released f)).requeue f := by
  simp only [State.releaseTarget, held]
  rfl

@[simp] theorem ch_requeue (s : State) (f : SecCmd) (k : Nat) : (s.requeue f).ch k = s.ch k := by
  unfold State.requeue
  split <;> rfl

@[simp] theorem regs_requeue (s : State) (f : SecCmd) : (s.requeue f).regs = s.regs := by
  unfold State.requeue
  split <;> rfl

theorem sched_requeue_of_live {f : SecCmd} (live : f.aborted = false) (s : State) : (s.requeue f).sched = s.sched ++ [f] := by
  rw [State.requeue, live, if_neg Bool.false_ne_true]

/-- A read field that has ended, and was not cut, was read. -/
theorem ChanSt.outcome_of_read {c : ChanSt} {f : SecCmd} (read : f.write = false) (whole : c.cut = false) (begun : c.begun = true) (ended : c.ended = true) :
    c.outcome f = 0 := by
  simp [ChanSt.outcome, read, whole, begun, ended]

/-! ### POP, RETARGET, DONE, REQUEUE, ADVANCE, MAP (R200, R204) -/

/-- The channel at the approach of sector f, in a zone of B bits (R200). -/
def ChanSt.aimed (bits : Nat) (f : SecCmd) (c : ChanSt) : ChanSt :=
  { c with foc := focFor bits c.tbit f.pslot, begun := false, ended := false, cut := false, barred := false }

theorem setFoc_of_some {f : SecCmd} (held : (s.ch n).target = some f) : s.setFoc n = s.modCh n (ChanSt.aimed (s.slotB n) f) := by
  simp only [State.setFoc, held]
  rfl

theorem sqPop_of_nil (idle : (s.ch n).fifo = []) : s.sqPop n = s.modCh n (fun c => { c with target := none }) := by
  simp only [State.sqPop, idle]

theorem sqPop_of_cons {f : SecCmd} {r : List SecCmd} (queue : (s.ch n).fifo = f :: r) :
    s.sqPop n = (s.modCh n (fun c => { c with target := some f, fifo := r })).modCh n (ChanSt.aimed (s.slotB n) f) := by
  have held : ((s.modCh n (fun c => { c with target := some f, fifo := r })).ch n).target = some f := by rw [ch_modCh_same]
  simp only [State.sqPop, queue]
  exact setFoc_of_some held

theorem sqDone_of_none (empty : (s.ch n).target = none) : s.sqDone n = s := by
  simp only [State.sqDone, empty]

theorem sqMap_of_none (empty : (s.ch n).target = none) : s.sqMap n = s := by
  simp only [State.sqMap, empty]

theorem sqRequeue_of_none (empty : (s.ch n).target = none) : s.sqRequeue n = s := by
  simp only [State.sqRequeue, empty]

theorem sqRequeue_of_live {f : SecCmd} (held : (s.ch n).target = some f) (live : f.aborted = false) :
    s.sqRequeue n = (s.modCh n (ChanSt.released f)).requeue f := by
  simp only [State.sqRequeue, held, live, Bool.false_eq_true, if_false]
  exact releaseTarget_of_notBegun held

theorem sqDone_of_read {f : SecCmd} (held : (s.ch n).target = some f) (read : f.write = false) (whole : (s.ch n).cut = false)
    (begun : (s.ch n).begun = true) (ended : (s.ch n).ended = true) : s.sqDone n = s.modCh n (ChanSt.released f) := by
  simp only [State.sqDone, held]
  rw [ChanSt.outcome_of_read read whole begun ended, releaseTarget_of_read held]

/-- With an empty FIFO no sector continues the run (R200). -/
theorem ChanSt.runNext_of_nil {c : ChanSt} (idle : c.fifo = []) : c.runNext = false := by
  rw [ChanSt.runNext, idle]
  cases c.target <;> rfl

/-- R204: ADVANCE with RUN_NEXT = 0 is DONE. -/
theorem sqAdvance_of_nil (idle : (s.ch n).fifo = []) : s.sqAdvance n = s.sqDone n := by
  rw [State.sqAdvance, ChanSt.runNext_of_nil idle, if_neg Bool.false_ne_true]

/-- The channel that goes on with sector g of its run, r being left in the FIFO; the gates stay (R204). -/
def ChanSt.advanced (g : SecCmd) (r : List SecCmd) (c : ChanSt) : ChanSt :=
  { c with target := some g, fifo := r, foc := c.foc - 36992, begun := false, ended := false, cut := false, barred := false }

theorem sqAdvance_of_run {f g : SecCmd} {r : List SecCmd} (queue : (s.ch n).fifo = g :: r) (follows : (s.ch n).runNext = true)
    (done : s.sqDone n = s.modCh n (ChanSt.released f)) : s.sqAdvance n = (s.modCh n (ChanSt.released f)).modCh n (ChanSt.advanced g r) := by
  have left : ((s.modCh n (ChanSt.released f)).ch n).fifo = g :: r := by rw [ch_modCh_same]; exact queue
  rw [State.sqAdvance, if_pos follows, done]
  simp only [left]
  rfl

theorem slotMode_of_shut {a slot : Nat} (shut : s.gateOpen (8 * a + slot) = false) (free : s.laneFree a) (mode : Nat) :
    s.slotMode a slot mode = s.pa12Sent a 0x02 [plByte slot, plByte mode] := by
  rw [State.slotMode, plSlotCmd_of_gateClosed shut, plSend_ack_of_laneFree free _ (by decide)]

/-- A slot that has the head is sent its mode alone. -/
theorem sqMap_of_mapped {f : SecCmd} (held : (s.ch n).target = some f) (mapped : s.slotHead n = f.head) :
    s.sqMap n = s.slotMode (chAct n) (chSlot n) (if f.write then 2 else 1) := by
  simp only [State.sqMap, held, if_pos mapped]

/-! ### CALL and RET (R202) -/

theorem sqCall_of_room (room : (s.ch n).stack.length < 4) (imm next : Nat) :
    s.sqCall n imm next = ((s.modCh n (fun c => { c with stack := imm :: c.stack })).wf SQ_STATUS_PC next n).wf
      SQ_STATUS_DEPTH ((s.ch n).stack.length + 1) n := if_neg (Nat.not_le.2 room)

theorem sqRet_of_cons {a : Nat} {r : List Nat} (stack : (s.ch n).stack = a :: r) :
    s.sqRet n = ((s.modCh n (fun c => { c with stack := r })).wf SQ_STATUS_PC a n).wf SQ_STATUS_DEPTH r.length n := by
  simp only [State.sqRet, stack]

/-! ### The channel cycle (R198) -/

theorem microword_of_stopped (stopped : s.rf SQ_CTRL_RUN n = 0 ∨ s.rf SQ_STATUS_HALTED n = 1 ∨ s.dom (2 + n / 4) ≠ 3) : s.microword n = s := by
  refine if_pos ?_
  rcases stopped with idle | halted | off
  · simp [State.rb, idle]
  · simp [State.rb, halted]
  · simp [State.quadOn, domQ, off]

end

/-- Settles O22, command by command. -/
theorem sequencerCommands : Obligations.SequencerCommands := by
  intro s n
  refine ⟨fun idle => congrArg Host.Outcome.next (sqPop_of_nil idle), fun f r queue => ⟨_, congrArg Host.Outcome.next (sqPop_of_cons queue), ?pop⟩,
    fun f held => congrArg Host.Outcome.next (setFoc_of_some held), fun imm next room => congrArg Host.Outcome.next (sqCall_of_room room imm.toNat next.toNat),
    fun a r stack => congrArg Host.Outcome.next (sqRet_of_cons stack),
    fun empty => ⟨congrArg Host.Outcome.next (sqDone_of_none empty), congrArg Host.Outcome.next (sqMap_of_none empty),
      congrArg Host.Outcome.next (sqRequeue_of_none empty)⟩,
    fun f held live => ⟨_, congrArg Host.Outcome.next (sqRequeue_of_live held live), ?requeue⟩,
    fun f held read _ whole begun ended => ⟨⟨_, congrArg Host.Outcome.next (sqDone_of_read held read whole begun ended), ?done⟩,
      fun idle => congrArg Host.Outcome.next (sqAdvance_of_nil idle)⟩,
    fun f g held read queue sameKind sameHead sameAct sameCyl nextSlot whole begun ended => ⟨_, congrArg Host.Outcome.next
      (sqAdvance_of_run queue ?follows (sqDone_of_read held read whole begun ended)), ?advance⟩,
    fun f held mapped shut free => congrArg Host.Outcome.next ?map, fun stopped => congrArg Host.Outcome.next (microword_of_stopped stopped)⟩
  case pop => simp [ChanSt.aimed, State.slotB, chAct, chSlot]
  case requeue => simp [ChanSt.released, sched_requeue_of_live live]
  case done => simp [ChanSt.released]
  case follows => simp [ChanSt.runNext, held, queue, read, sameKind, sameHead, sameAct, sameCyl, nextSlot]
  case advance => simp [ChanSt.advanced, ChanSt.released]
  case map =>
    rw [sqMap_of_mapped held mapped, chAct, chSlot, slotMode_of_shut shut free, apply_ite plByte]
    rfl

end Sys2Proof.Machine
end

section
/-! Events, faults, images, swaps and control of the sequencer (R198, R202, R203, R205, R207 to R212). -/

namespace Sys2Proof.Machine
open Sys2Proof

/-! ### The sequencer's registers (R212) -/

/-- Two fields of blocks a page apart that stand at different places of their pages. -/
def Fld.apart (f g : Fld) : Bool := f.si == 0x1000 && f.sj == 0 && g.si == 0x1000 && g.sj == 0 && g.place != f.place

theorem rf_wf_of_apart {f g : Fld} (h : f.apart g = true) (s : State) (v i j i' j' : Nat) : (s.wf f v i j).rf g i' j' = s.rf g i' j' := by
  simp only [Fld.apart, Bool.and_eq_true, beq_iff_eq, bne_iff_ne, and_assoc] at h
  obtain ⟨fi, fj, gi, gj, differ⟩ := h
  exact rf_wf_of_place_ne s ⟨fi, fj⟩ ⟨gi, gj⟩ differ v i j i' j'

theorem rf_wb_of_apart {f g : Fld} (h : f.apart g = true) (s : State) (b : Bool) (i j i' j' : Nat) : (s.wb f b i j).rf g i' j' = s.rf g i' j' :=
  rf_wf_of_apart h s _ i j i' j'

section
variable {s : State} {n : Nat}

theorem rb_of_set {f : Fld} {i j : Nat} (set : s.rf f i j = 1) : s.rb f i j = true := beq_iff_eq.2 set

theorem rb_of_clear {f : Fld} {i j : Nat} (clear : s.rf f i j = 0) : s.rb f i j = false := by rw [State.rb, clear]; rfl

/-! ### A word that branches without condition (R201, R202) -/

theorem fieldOf_of_lt {w lo : Nat} (h : w < 2 ^ lo) (width : Nat) : fieldOf w lo width = 0 := by
  rw [fieldOf, Nat.div_eq_of_lt h, Nat.zero_mod]

theorem bitOf_of_lt {w b : Nat} (h : w < 2 ^ b) : bitOf w b = false := by
  rw [bitOf, Nat.div_eq_of_lt h]
  rfl

/-- With no B in force no bit passes (R199). -/
theorem passBit_of_unzoned (unzoned : s.slotB n = 0) : s.passBit n = s := by
  unfold State.passBit
  exact if_pos unzoned

theorem pass8_of_unzoned (unzoned : s.slotB n = 0) : s.pass8 n = s := by
  rw [State.pass8]
  exact List.foldlRecOn (motive := (· = s)) _ _ rfl fun t same _ _ => by rw [same, passBit_of_unzoned unzoned]

theorem swapTake_of_none (none_pending : s.rf SQ_STATUS_SWAP_PEND n = 0) : s.swapTake n = s := by
  rw [State.swapTake, rb_of_clear none_pending]
  rfl

theorem sqTrace_of_off {w : Nat} (off : mwTRACEEN w = false) (s : State) (n : Nat) : s.sqTrace n w = s := by
  rw [State.sqTrace, off]
  rfl

theorem sqGates_of_none {w : Nat} (rg : mwRG w = 0) (wg : mwWG w = 0) (s : State) (n : Nat) (late : Bool) (bit : Int) :
    s.sqGates n w late bit = s := by
  simp only [State.sqGates, rg, wg]

theorem sqBranch_of_jump {w : Nat} (jump : mwBMODE w = 0) (s : State) (n : Nat) (c c2 : Bool) :
    s.sqBranch n w c c2 = s.wf SQ_STATUS_PC (mwNEXT w) n := by
  simp only [State.sqBranch, jump]

/-- An EVCLR of 0 clears no latch. -/
theorem evclr_of_zero (v : Nat) : (List.range 5).foldl (fun v e => if bitOf 0 e then setBit v e false else v) v = v := by
  have none_clears : ∀ e ∈ List.range 5, bitOf 0 e = false := by decide
  exact List.foldlRecOn (motive := (· = v)) _ _ rfl fun x same e mem => by rw [none_clears e mem, if_neg Bool.false_ne_true, same]

/-- A word below 2^12 has NEXT alone: no timing, no gate, no command, no event cleared, no swap point, no trace, and mode JUMP. -/
theorem fields_of_next {w : Nat} (small : w < 2 ^ 12) : mwNEXT w = w ∧ mwBMODE w = 0 ∧ mwTIMED w = false ∧ mwSWP w = false ∧ mwRG w = 0 ∧ mwWG w = 0
    ∧ mwCMD w = 0 ∧ mwEVCLR w = 0 ∧ mwTRACEEN w = false := by
  have above : ∀ b, 12 ≤ b → w < 2 ^ b := fun b h => Nat.lt_of_lt_of_le small (Nat.pow_le_pow_right (by decide) h)
  have next : mwNEXT w = w := by rw [mwNEXT, fieldOf, Nat.pow_zero, Nat.div_one, Nat.mod_eq_of_lt small]
  exact ⟨next, fieldOf_of_lt (above 12 (by decide)) _, bitOf_of_lt (above 26 (by decide)), bitOf_of_lt (above 27 (by decide)),
    fieldOf_of_lt (above 48 (by decide)) _, fieldOf_of_lt (above 50 (by decide)) _, fieldOf_of_lt (above 52 (by decide)) _,
    fieldOf_of_lt (above 56 (by decide)) _, bitOf_of_lt (above 88 (by decide))⟩

theorem microword_of_next (running : s.rf SQ_CTRL_RUN n = 1) (live : s.rf SQ_STATUS_HALTED n = 0) (on : s.dom (2 + n / 4) = 3)
    (none_pending : s.rf SQ_STATUS_SWAP_PEND n = 0) (unzoned : s.slotB n = 0) {w : Nat} (word : s.sqWord n = w) (small : w < 2 ^ 12) :
    s.microword n = ((s.wf SQ_STATUS_PC w n).wf SQ_STATUS_EVT ((s.wf SQ_STATUS_PC w n).rf SQ_STATUS_EVT n) n).modCh n
      (fun x => { x with waiting := false, atSwap := false }) := by
  obtain ⟨next, mode, timed, swp, rg, wg, cmd, evclr, trace⟩ := fields_of_next small
  have runs : (!s.quadOn n || !s.rb SQ_CTRL_RUN n || s.rb SQ_STATUS_HALTED n) = false := by
    simp [State.quadOn, domQ, on, rb_of_set running, rb_of_clear live]
  unfold State.microword
  simp only [runs, swapTake_of_none none_pending, word, timed, Bool.false_and, Bool.not_false, Bool.true_or, Bool.not_true, Bool.false_eq_true, if_false,
    sqTrace_of_off trace, sqGates_of_none rg wg, pass8_of_unzoned unzoned, cmd, State.sqCmd, sqBranch_of_jump mode, next, mode, evclr, evclr_of_zero, swp]
  rfl

/-! ### Events (R205) -/

theorem sqEvent_of_clear {e : Nat} (clear : s.rbit SQ_STATUS_EVT e n = false) : s.sqEvent n e = s.wbit SQ_STATUS_EVT e true n :=
  if_neg (by rw [clear]; decide)

theorem sqEvent_of_latched {e : Nat} (latched : s.rbit SQ_STATUS_EVT e n = true) : s.sqEvent n e = s.cnt SQ_COUNT_EV_OVR n := if_pos latched

/-! ### Gates that close, faults (R207) -/

theorem queue_cutWrite (s : State) (n : Nat) : ((s.cutWrite n).ch n).target = (s.ch n).target ∧ ((s.cutWrite n).ch n).fifo = (s.ch n).fifo := by
  unfold State.cutWrite
  extract_lets channel hit counted
  have count : counted.ch n = s.ch n := by
    dsimp only [counted]
    split <;> rfl
  split
  · rw [ch_modCh_same, count]
    exact ⟨rfl, rfl⟩
  · exact ⟨rfl, rfl⟩

theorem queue_cutRead (s : State) (n : Nat) : ((s.cutRead n).ch n).target = (s.ch n).target ∧ ((s.cutRead n).ch n).fifo = (s.ch n).fifo := by
  unfold State.cutRead
  extract_lets channel hit
  split
  · rw [ch_modCh_same]
    exact ⟨rfl, rfl⟩
  · exact ⟨rfl, rfl⟩

theorem queue_shutGates (s : State) (n : Nat) : ((s.shutGates n).ch n).target = (s.ch n).target ∧ ((s.shutGates n).ch n).fifo = (s.ch n).fifo := by
  obtain ⟨target, fifo⟩ := queue_cutWrite s n
  exact ⟨(queue_cutRead _ n).1.trans target, (queue_cutRead _ n).2.trans fifo⟩

theorem pc_shutGates (s : State) (n : Nat) : (s.shutGates n).rf SQ_STATUS_PC n = s.rf SQ_STATUS_PC n :=
  (killKept_shutGates s n).other SQ_STATUS_PC ⟨rfl, rfl⟩ (by decide) n 0

/-- Without a TARGET the gates close, and nothing goes back. -/
theorem sqDrop_of_none (empty : (s.ch n).target = none) : s.sqDrop n = s.shutGates n :=
  releaseTarget_of_none ((queue_shutGates s n).1.trans empty) _

/-- A sequencer without sectors has halted with cause 1, ECC_UE. -/
def State.sqHalted (s : State) (n : Nat) : State :=
  (((s.shutGates n).modCh n (fun c => { c with fifo := [], retired := true })).wb SQ_STATUS_HALTED true n).wf SQ_ERR_HALT_CAUSE 1 n

theorem sqHalt_of_empty (empty : (s.ch n).target = none) (idle : (s.ch n).fifo = []) :
    s.sqHalt n 1 = (s.sqHalted n).report (srcId MED n 1) 0 (s.rf SQ_STATUS_PC n) := by
  have fifo : ((s.shutGates n).ch n).fifo = [] := (queue_shutGates s n).2.trans idle
  simp only [State.sqHalt, sqDrop_of_none empty, fifo, List.foldl_nil, rf_modCh, pc_shutGates]
  rfl

theorem sqHalted_facts (s : State) (n : Nat) : (s.sqHalted n).rf SQ_STATUS_HALTED n = 1 ∧ (s.sqHalted n).rf SQ_ERR_HALT_CAUSE n = 1
    ∧ ((s.sqHalted n).ch n).rgate = false ∧ ((s.sqHalted n).ch n).wgate = false ∧ ((s.sqHalted n).ch n).retired = true := by
  obtain ⟨rgate, wgate⟩ := gateOpen_eq_false.1 (gateOpen_shutGates s n)
  simp (disch := decide) [State.sqHalted, rf_wf_of_apart, rgate, wgate, SQ_STATUS_HALTED, SQ_ERR_HALT_CAUSE]

/-! ### Images (R208 to R210) -/

/-- The stage shows reason r (R208). -/
def State.withReason (s : State) (r : Nat) : State := { s with mstage := { s.mstage with reason := r } }

@[simp] theorem rf_withReason (s : State) (r : Nat) (g : Fld) (i j : Nat) : (s.withReason r).rf g i j = s.rf g i j := rfl
@[simp] theorem ch_withReason (s : State) (r k : Nat) : (s.withReason r).ch k = s.ch k := rfl

/-- A reason is told in registers and in the stage alone. -/
theorem stageReason_leaves (s : State) (ns : List Nat) (r : Nat) :
    (s.stageReason ns r).mstage = { s.mstage with reason := r } ∧ (s.stageReason ns r).chan = s.chan := by
  have told : (ns.foldl (fun t n => t.wf SQ_STATUS_REASON r n) s).mstage = s.mstage ∧ (ns.foldl (fun t n => t.wf SQ_STATUS_REASON r n) s).chan = s.chan :=
    List.foldlRecOn (motive := fun t : State => t.mstage = s.mstage ∧ t.chan = s.chan) _ _ ⟨rfl, rfl⟩ fun _ same _ _ => same
  exact ⟨congrArg (fun m : Stage => { m with reason := r }) told.1, told.2⟩

theorem stageLoad_of_refused {ok : Bool} (refused : s.imgReason s.mstage.image ok ≠ 0) :
    s.stageLoad ok = s.stageReason s.stageChans (s.imgReason s.mstage.image ok) := by
  simp only [State.stageLoad, refused, false_and, if_false, ne_eq, not_false_eq_true, if_true]

/-- The standby bank of channel n, whose BANK0 is active, holds the staged image, and the load passed (R211 step 2). -/
def State.imageLoaded (s : State) (n : Nat) : State :=
  ((((s.modCh n (fun c => { c with bank1 := imgBank s.mstage.image })).wb SQ_STATUS_STANDBY_VALID true n).wf SQ_IMAGE_SB_IMAGE_ID
    (imgBank s.mstage.image).imageId n).wf SQ_STATUS_REASON 0 n).withReason 0

theorem imageLoaded_facts (s : State) (n : Nat) : (s.imageLoaded n).ch n = { s.ch n with bank1 := imgBank s.mstage.image }
    ∧ (s.imageLoaded n).rf SQ_STATUS_STANDBY_VALID n = 1 ∧ (s.imageLoaded n).rf SQ_STATUS_ACTIVE n = s.rf SQ_STATUS_ACTIVE n
    ∧ (s.imageLoaded n).rf SQ_STATUS_SWAP_PEND n = s.rf SQ_STATUS_SWAP_PEND n := by
  simp (disch := decide) [State.imageLoaded, rf_wf_of_apart, rf_wb_of_apart, SQ_STATUS_STANDBY_VALID]

theorem stageChans_imageLoaded (s : State) (n : Nat) : (s.imageLoaded n).stageChans = s.stageChans := rfl

theorem stageLoad_of_checked {ok : Bool} (alone : s.stageChans = [n]) (checked : s.imgReason s.mstage.image ok = 0) (none_pending : s.rf SQ_STATUS_SWAP_PEND n = 0)
    (bank0 : s.rf SQ_STATUS_ACTIVE n = 0) : s.stageLoad ok = s.imageLoaded n := by
  have free : [n].any (fun n => s.rb SQ_STATUS_SWAP_PEND n) = false := by simp [rb_of_clear none_pending]
  simp only [State.stageLoad, checked, alone, free, Bool.false_eq_true, and_false, if_false, ne_eq, not_true_eq_false, List.foldl_cons, List.foldl_nil,
    rb_of_clear bank0]
  rfl

/-! ### Swaps (R209, R211) -/

theorem swapReq_of_unverified (unverified : s.rf SQ_STATUS_STANDBY_VALID n = 0) :
    s.swapReq n = (s.wf SQ_STATUS_REASON 0x0C n).wb SQ_CTRL_SWAP false n := by
  rw [State.swapReq, rb_of_clear unverified]
  rfl

theorem swapReq_of_verified (verified : s.rf SQ_STATUS_STANDBY_VALID n = 1) (none_pending : s.rf SQ_STATUS_SWAP_PEND n = 0) :
    s.swapReq n = (s.wb SQ_STATUS_SWAP_PEND true n).modCh n (fun c => { c with atSwap := false }) := by
  rw [State.swapReq, rb_of_set verified, rb_of_clear none_pending]
  rfl

/-- STAGE_SWAP on channel n alone. -/
theorem stageSwap_of_one (alone : s.stageChans = [n]) :
    s.stageSwap = ((s.wf SQ_STATUS_REASON 0 n).swapReq n).withReason (if s.rb SQ_STATUS_STANDBY_VALID n then 0 else 0x0C) := by
  simp only [State.stageSwap, alone, List.foldl_cons, List.foldl_nil, List.any_cons, List.any_nil, Bool.or_false]
  cases s.rb SQ_STATUS_STANDBY_VALID n <;> rfl

theorem stageSwap_of_unverified (alone : s.stageChans = [n]) (unverified : s.rf SQ_STATUS_STANDBY_VALID n = 0) :
    s.stageSwap = (((s.wf SQ_STATUS_REASON 0 n).wf SQ_STATUS_REASON 0x0C n).wb SQ_CTRL_SWAP false n).withReason 0x0C := by
  have still : (s.wf SQ_STATUS_REASON 0 n).rf SQ_STATUS_STANDBY_VALID n = 0 := by rw [rf_wf_of_apart (by decide), unverified]
  rw [stageSwap_of_one alone, swapReq_of_unverified still, rb_of_clear unverified, if_neg Bool.false_ne_true]

theorem stageSwap_of_verified (alone : s.stageChans = [n]) (verified : s.rf SQ_STATUS_STANDBY_VALID n = 1) (none_pending : s.rf SQ_STATUS_SWAP_PEND n = 0) :
    s.stageSwap = (((s.wf SQ_STATUS_REASON 0 n).wb SQ_STATUS_SWAP_PEND true n).modCh n (fun c => { c with atSwap := false })).withReason 0 := by
  have still : (s.wf SQ_STATUS_REASON 0 n).rf SQ_STATUS_STANDBY_VALID n = 1 := by rw [rf_wf_of_apart (by decide), verified]
  have free : (s.wf SQ_STATUS_REASON 0 n).rf SQ_STATUS_SWAP_PEND n = 0 := by rw [rf_wf_of_apart (by decide), none_pending]
  rw [stageSwap_of_one alone, swapReq_of_verified still free, rb_of_set verified, if_pos rfl]

/-- STAGE_LOAD_SWAP where the load passed (R208). -/
theorem exec_stageLoadSwap_of_loaded {ok : Bool} (loaded : s.stageLoad ok = s.imageLoaded n) :
    exec (.stageLoadSwap ok) s = .next (s.imageLoaded n).stageSwap := by
  change Host.Outcome.next (if (s.stageLoad ok).mstage.reason = 0 then (s.stageLoad ok).stageSwap else s.stageLoad ok) = _
  rw [loaded]
  rfl

/-- The banks of channel n have changed roles, BANK1 being active now. -/
def State.banksSwapped (s : State) (n : Nat) : State :=
  let t : State := ((s.wb SQ_STATUS_ACTIVE true n).wb SQ_STATUS_SWAP_PEND false n).wb SQ_CTRL_SWAP false n
  (t.wf SQ_IMAGE_IMAGE_ID (t.sqBank n).imageId n).wf SQ_IMAGE_SB_IMAGE_ID (t.sqStandby n).imageId n

theorem swapTake_of_point (pending : s.rf SQ_STATUS_SWAP_PEND n = 1) (point : (s.ch n).atSwap = true) (bank0 : s.rf SQ_STATUS_ACTIVE n = 0) :
    s.swapTake n = (s.banksSwapped n).sqEntry n := by
  rw [State.swapTake, rb_of_set pending, rb_of_clear bank0, point]
  rfl

theorem banksSwapped_facts (s : State) (n : Nat) : (s.banksSwapped n).rf SQ_STATUS_ACTIVE n = 1 ∧ (s.banksSwapped n).rf SQ_STATUS_SWAP_PEND n = 0
    ∧ (s.banksSwapped n).ch n = s.ch n := by
  simp (disch := decide) [State.banksSwapped, rf_wf_of_apart, rf_wb_of_apart, SQ_STATUS_ACTIVE, SQ_STATUS_SWAP_PEND]

/-! ### Execution starts at ENTRY (R212) -/

theorem sqBank_of_bank0 (bank0 : s.rf SQ_STATUS_ACTIVE n = 0) : s.sqBank n = (s.ch n).bank0 := by
  rw [State.sqBank, rb_of_clear bank0, if_neg Bool.false_ne_true]

theorem sqBank_of_bank1 (bank1 : s.rf SQ_STATUS_ACTIVE n = 1) : s.sqBank n = (s.ch n).bank1 := by
  rw [State.sqBank, rb_of_set bank1, if_pos rfl]

theorem ch_sqEntry (s : State) (n : Nat) : (s.sqEntry n).ch n = { s.ch n with stack := [], waiting := false, atSwap := false } := by
  simp [State.sqEntry]

theorem pc_sqEntry (s : State) (n : Nat) : (s.sqEntry n).rf SQ_STATUS_PC n = (s.sqBank n).entry % 2 ^ SQ_STATUS_PC.width := by
  simp (disch := decide) [State.sqEntry, rf_wf_of_apart]

theorem depth_sqEntry (s : State) (n : Nat) : (s.sqEntry n).rf SQ_STATUS_DEPTH n = 0 := by
  simp [State.sqEntry]

theorem rf_sqEntry_of_apart {g : Fld} (pc : SQ_STATUS_PC.apart g = true) (depth : SQ_STATUS_DEPTH.apart g = true) (s : State) (n i j : Nat) :
    (s.sqEntry n).rf g i j = s.rf g i j := by
  rw [State.sqEntry, rf_wf_of_apart depth, rf_wf_of_apart pc, rf_modCh]

theorem sqRun_of_stopped (stopped : s.rf SQ_CTRL_RUN n = 0) : s.sqRun n true = (s.wb SQ_CTRL_RUN true n).sqEntry n := by
  simp only [State.sqRun, rb_of_clear stopped, Bool.false_eq_true, if_false, if_true]

theorem sqRestart_of_none (empty : (s.ch n).target = none) :
    s.sqRestart n = (((s.shutGates n).sqEntry n).wb SQ_STATUS_HALTED false n).wf SQ_ERR_HALT_CAUSE 0 n := by
  rw [State.sqRestart, sqDrop_of_none empty]

theorem sqSwap_of_none (none_pending : s.rf SQ_STATUS_SWAP_PEND n = 0) :
    s.sqSwap n = ((s.wb SQ_CTRL_SWAP true n).wf SQ_STATUS_REASON 0 n).swapReq n := by
  rw [State.sqSwap, rb_of_clear none_pending, if_neg Bool.false_ne_true]

end

/-- Settles O23, command by command. -/
theorem sequencerControl : Obligations.SequencerControl := by
  intro s n
  refine ⟨fun w running live on none_pending unzoned word small =>
      ⟨_, congrArg Host.Outcome.next (microword_of_next running live on none_pending unzoned word small), ?jump⟩,
    fun e clear => congrArg Host.Outcome.next (sqEvent_of_clear clear), fun e latched => congrArg Host.Outcome.next (sqEvent_of_latched latched), rfl,
    fun empty idle => ⟨_, congrArg Host.Outcome.next (sqHalt_of_empty empty idle), sqHalted_facts s n⟩,
    fun empty => congrArg Host.Outcome.next (if_pos (Option.isNone_iff_eq_none.2 empty)),
    fun ok refused => ⟨_, congrArg Host.Outcome.next (stageLoad_of_refused refused), stageReason_leaves s _ _⟩,
    fun ok checked alone none_pending bank0 => ⟨⟨_, congrArg Host.Outcome.next (stageLoad_of_checked alone checked none_pending bank0), ?loaded⟩, ?loadSwap⟩,
    fun alone unverified => ⟨_, congrArg Host.Outcome.next (stageSwap_of_unverified alone unverified), ?unverified⟩,
    fun pending => congrArg Host.Outcome.next (if_pos (rb_of_set pending)),
    fun pending point bank0 => ⟨_, congrArg Host.Outcome.next (swapTake_of_point pending point bank0), ?swapped⟩,
    fun stopped bank0 => ⟨_, congrArg Host.Outcome.next (sqRun_of_stopped stopped), ?started⟩,
    fun none_pending verified => ⟨_, congrArg Host.Outcome.next (sqSwap_of_none none_pending), ?requested⟩,
    fun empty => ⟨_, congrArg Host.Outcome.next (sqRestart_of_none empty), ?restarted⟩⟩
  case jump =>
    have pc : w % 2 ^ SQ_STATUS_PC.width = w := Nat.mod_eq_of_lt small
    simp (disch := decide) [rf_wf_of_apart, pc]
  case loaded =>
    obtain ⟨channel, verified, active, _⟩ := imageLoaded_facts s n
    simp [channel, verified, active, bank0]
  case loadSwap =>
    obtain ⟨channel, verified, _, free⟩ := imageLoaded_facts s n
    refine ⟨_, exec_stageLoadSwap_of_loaded (stageLoad_of_checked alone checked none_pending bank0), ?_⟩
    rw [stageSwap_of_verified ((stageChans_imageLoaded s n).trans alone) verified (free.trans none_pending)]
    simp [channel, SQ_STATUS_SWAP_PEND]
  case unverified =>
    rw [rf_withReason, rf_wb_of_apart (by decide), rf_wf_same]
    exact ⟨rfl, rfl⟩
  case swapped =>
    obtain ⟨bank1, none_pending, channel⟩ := banksSwapped_facts s n
    simp (disch := decide) [rf_sqEntry_of_apart, pc_sqEntry, sqBank_of_bank1 bank1, ch_sqEntry, bank1, none_pending, channel]
  case started =>
    have bank : (s.wb SQ_CTRL_RUN true n).rf SQ_STATUS_ACTIVE n = 0 := by rw [rf_wb_of_apart (by decide), bank0]
    simp (disch := decide) [rf_sqEntry_of_apart, pc_sqEntry, sqBank_of_bank0 bank, ch_sqEntry]
  case requested =>
    rw [swapReq_of_verified] <;> simp (disch := decide) [rf_wf_of_apart, rf_wb_of_apart, verified, none_pending]
  case restarted =>
    obtain ⟨rgate, wgate⟩ := gateOpen_eq_false.1 (gateOpen_shutGates s n)
    simp (disch := decide) [rf_wf_of_apart, rf_wb_of_apart, depth_sqEntry, ch_sqEntry, rgate, wgate]

end Sys2Proof.Machine
end

section
/-! What leaves the motion control engine alone (R213): a fault report, a park, a retract and a PA12 frame (R36, R41, R258, R259, R461 to R466). -/

namespace Sys2Proof.Machine
open Sys2Proof

/-- From s to t the motion control engine is as it was: its loop cells, the evaluations on its lanes, its profile channels. -/
structure EngineKept (s t : State) : Prop where
  cell : t.cell = s.cell
  mlane : t.mlane = s.mlane
  pg : t.pg = s.pg

namespace EngineKept

theorem refl (s : State) : EngineKept s s := ⟨rfl, rfl, rfl⟩

theorem trans {s t u : State} (h : EngineKept s t) (k : EngineKept t u) : EngineKept s u :=
  ⟨k.cell.trans h.cell, k.mlane.trans h.mlane, k.pg.trans h.pg⟩

theorem ite {s t u : State} {c : Prop} [Decidable c] (ht : EngineKept s t) (hu : EngineKept s u) : EngineKept s (if c then t else u) := by
  split <;> assumption

theorem foldl {β : Type} {g : State → β → State} (hg : ∀ t b, EngineKept t (g t b)) (l : List β) (s : State) : EngineKept s (l.foldl g s) :=
  List.foldlRecOn (motive := EngineKept s) l g (refl s) fun t ht b _ => ht.trans (hg t b)

theorem wf (s : State) (f : Fld) (v i j : Nat) : EngineKept s (s.wf f v i j) := ⟨rfl, rfl, rfl⟩

theorem emit (s : State) (o : Out) : EngineKept s (s.emit o) := ⟨rfl, rfl, rfl⟩

theorem modSv (s : State) (a : Nat) (f : Servo → Servo) : EngineKept s (s.modSv a f) := ⟨rfl, rfl, rfl⟩

theorem modPl (s : State) (a : Nat) (f : Pl → Pl) : EngineKept s (s.modPl a f) := ⟨rfl, rfl, rfl⟩

theorem startFlush (s : State) : EngineKept s s.startFlush := ⟨rfl, rfl, rfl⟩

/-- After an update that leaves the engine alone. -/
theorem after {s t u : State} (h : EngineKept t u) (cell : t.cell = s.cell) (mlane : t.mlane = s.mlane) (pg : t.pg = s.pg) : EngineKept s u :=
  trans ⟨cell, mlane, pg⟩ h

end EngineKept

theorem engineKept_cutWrite (s : State) (n : Nat) : EngineKept s (s.cutWrite n) := by
  unfold State.cutWrite
  extract_lets channel hit counted
  have count : EngineKept s counted := .ite (.wf ..) (.refl s)
  exact .ite (count.trans ⟨rfl, rfl, rfl⟩) (.refl s)

theorem engineKept_sqEvent (s : State) (n e : Nat) : EngineKept s (s.sqEvent n e) := .ite (.wf ..) (.wf ..)

theorem engineKept_inhibit (s : State) (bit : Nat) (x : Bool) (n : Nat) : EngineKept s (s.inhibit bit x n) :=
  .trans (t := s.wbit WR_STATUS_INHIBIT bit x n) (.wf ..) (.ite ((engineKept_cutWrite _ n).trans (engineKept_sqEvent _ n evKILL)) (.refl _))

theorem engineKept_inhibitAll (s : State) (bit : Nat) (x : Bool) : EngineKept s (s.inhibitAll bit x) :=
  .foldl (fun t n => engineKept_inhibit t bit x n) _ s

/-! ### Parks and retracts (R253, R258, R259) -/

theorem engineKept_dropSeek (s : State) (a : Nat) : EngineKept s (s.dropSeek a) := by
  unfold State.dropSeek
  cases (s.sv a).queued <;> exact ⟨rfl, rfl, rfl⟩

theorem engineKept_startPark (s : State) (a : Nat) : EngineKept s (s.startPark a) := by
  have held : EngineKept (s.dropSeek a) ((s.dropSeek a).softOff (chansOf a)) := .foldl (fun t n => .wf t ..) _ _
  exact .ite (((engineKept_dropSeek s a).trans held).trans (.wf ..)) (.refl s)

theorem engineKept_startRetract (s : State) (a : Nat) : EngineKept s (s.startRetract a) := by
  unfold State.startRetract
  extract_lets cut asked
  have closed : EngineKept s cut := .foldl engineKept_cutWrite (chansOf a) s
  have reset : EngineKept cut asked := .ite (.modPl ..) (.refl cut)
  have dropped : EngineKept asked (asked.dropSeek a) := engineKept_dropSeek asked a
  exact .ite (((((closed.trans reset).trans dropped).trans (.modSv ..)).trans (.wf ..)).trans (.wf ..)) (.refl s)

/-- A power entry that ends with no actuator to reload. -/
theorem engineKept_abortEntry (s : State) (result : Nat) : EngineKept s (s.abortEntry result false) := by
  unfold State.abortEntry
  extract_lets parked ended freed released
  have h1 : EngineKept s ended := ⟨rfl, rfl, rfl⟩
  have h2 : EngineKept ended freed := .ite (engineKept_inhibitAll ended inhPOWER false) (.refl ended)
  have h3 : EngineKept freed released := .foldl (fun t p => .emit t (.note "RELEASE" (partIndex p) 0)) _ freed
  exact .ite (((h1.trans h2).trans h3).trans ⟨rfl, rfl, rfl⟩) (.refl s)

/-! ### A fault report (R461 to R463, R466) -/

theorem engineKept_chipFatal (s : State) : EngineKept s s.chipFatal := by
  unfold State.chipFatal
  extract_lets latched collectors stopped shut rings ports told retracted ended
  have h1 : EngineKept s stopped := ⟨rfl, rfl, rfl⟩
  have h2 : EngineKept stopped shut := engineKept_inhibitAll stopped inhFAULT true
  have h3 : EngineKept shut ports := ⟨rfl, rfl, rfl⟩
  have h4 : EngineKept ports told := .foldl (fun t (p : Nat × Port) => .emit t (.port p.1 "ERR_FATAL" 0)) _ ports
  have h5 : EngineKept told retracted := .foldl engineKept_startRetract _ told
  have h6 : EngineKept retracted ended := .ite ((EngineKept.wf retracted PWR_STATUS_COMMITTED 0 0 0).trans (engineKept_abortEntry _ 7)) (.refl retracted)
  exact .ite (.refl s) ((((((h1.trans h2).trans h3).trans h4).trans h5).trans h6).trans (.startFlush ended))

theorem engineKept_dupUp (s : State) (rg src n : Nat) : EngineKept s (s.dupUp rg src n) := by
  unfold State.dupUp
  extract_lets collectors regional regionalCollectors waiting
  have h1 : EngineKept s regional := by
    unfold regional
    split
    · exact .ite ⟨rfl, rfl, rfl⟩ (.refl s)
    · exact .refl s
  have h2 : EngineKept regional waiting := ⟨rfl, rfl, rfl⟩
  refine (h1.trans h2).trans ?_
  split
  · exact .ite ⟨rfl, rfl, rfl⟩ (.refl waiting)
  · exact .refl waiting

theorem engineKept_toRegion (s : State) (rg : Nat) (r : FaultRec) : EngineKept s (s.toRegion rg r) := by
  unfold State.toRegion
  split
  · exact ⟨rfl, rfl, rfl⟩
  · exact .ite (engineKept_dupUp ..) ⟨rfl, rfl, rfl⟩

theorem engineKept_reportBy (s : State) (rg blk src cell cls detail : Nat) (forced : Bool) :
    EngineKept s (s.reportBy rg blk src cell cls detail forced) := by
  unfold State.reportBy
  extract_lets key recording recorded opened collectors collected
  have h1 : EngineKept s recorded := .ite ⟨rfl, rfl, rfl⟩ (.refl s)
  have h2 : EngineKept recorded collected := by
    unfold collected
    split
    · exact (engineKept_toRegion ..).after rfl rfl rfl
    · refine .ite ((engineKept_dupUp ..).after rfl rfl rfl) ?_
      extract_lets merged
      split <;> exact ⟨rfl, rfl, rfl⟩
  exact (h1.trans h2).trans (.ite (engineKept_chipFatal collected) (.refl collected))

theorem engineKept_report (s : State) (src cell detail : Nat) : EngineKept s (s.report src cell detail) := engineKept_reportBy ..

/-! ### A frame for the PA12 (R36, R41) -/

theorem engineKept_plPut (s : State) (a : Nat) (f : PlFrame) : EngineKept s (s.plPut a f) := .ite ⟨rfl, rfl, rfl⟩ ⟨rfl, rfl, rfl⟩

theorem engineKept_plSend (s : State) (a i : Nat) (f : PlFrame) : EngineKept s (s.plSend a i f) :=
  .ite (.ite (engineKept_plPut s a f) ⟨rfl, rfl, rfl⟩) (.refl s)

theorem engineKept_maDrive (s : State) (a : Nat) (l : List (Nat × Nat)) : EngineKept s (s.maDrive a l) :=
  .ite (.refl s) (engineKept_plSend ..)

end Sys2Proof.Machine
end

section
/-! The loop cells (R214 to R217, R221, R224 to R226, R232, R241, R242): the pick of a lane, the start of an evaluation, what the end of one leaves in
every cell, then each command by the state it finds. -/

namespace Sys2Proof.Machine
open Sys2Proof

/-! ### A lane takes its next cell (R216) -/

/-- Cell n is offered to a lane that would take `best`: its input counts with the earlier deadline. -/
def State.offerCell (s : State) (lane : Nat) (best : Option (Nat × Nat)) (n : Nat) : Option (Nat × Nat) :=
  if cellLane n = lane then
    match (s.lc n).ready with
    | some i => match best with
      | some b => if cellDue n i < b.2 then some (n, cellDue n i) else best
      | none => some (n, cellDue n i)
    | none => best
  else best

theorem cellPick_eq (s : State) (lane : Nat) : s.cellPick lane = (List.range 42).foldl (s.offerCell lane) none := rfl

section
variable {s : State} {n : Nat}

theorem offerCell_of_unready (unready : (s.lc n).ready = none) (lane : Nat) (best : Option (Nat × Nat)) : s.offerCell lane best n = best := by
  simp [State.offerCell, unready]

theorem offerCell_of_first {i : CellIn} (input : (s.lc n).ready = some i) : s.offerCell (cellLane n) none n = some (n, cellDue n i) := by
  simp [State.offerCell, input]

/-- Cells without an input do not change the pick. -/
theorem foldl_offerCell_of_unready {l : List Nat} (unready : ∀ m ∈ l, (s.lc m).ready = none) (lane : Nat) (best : Option (Nat × Nat)) :
    l.foldl (s.offerCell lane) best = best :=
  List.foldlRecOn (motive := (· = best)) l _ rfl fun _ same m mem => (offerCell_of_unready (unready m mem) ..).trans same

theorem cellPick_of_unready (unready : ∀ m, m < 42 → (s.lc m).ready = none) (lane : Nat) : s.cellPick lane = none :=
  foldl_offerCell_of_unready (fun m mem => unready m (List.mem_range.1 mem)) lane none

/-- The only cell with an input is picked by its lane. -/
theorem cellPick_of_one {i : CellIn} (live : n < 42) (input : (s.lc n).ready = some i) (others : ∀ m, m < 42 → m ≠ n → (s.lc m).ready = none) :
    s.cellPick (cellLane n) = some (n, cellDue n i) := by
  obtain ⟨before, after, split⟩ := List.append_of_mem (List.mem_range.2 live)
  have once : (before ++ n :: after).Nodup := split ▸ List.nodup_range
  have unready : ∀ m ∈ before ++ after, (s.lc m).ready = none := fun m mem =>
    others m (List.mem_range.1 (split ▸ by grind)) (by grind)
  rw [cellPick_eq, split, List.foldl_append, List.foldl_cons,
    foldl_offerCell_of_unready (fun m mem => unready m (List.mem_append_left _ mem)), offerCell_of_first input,
    foldl_offerCell_of_unready fun m mem => unready m (List.mem_append_right _ mem)]

theorem laneStep_of_free {d : Nat} {lane : Nat} (pick : s.cellPick lane = some (n, d)) (free : tabGet [] s.mlane lane = []) :
    s.laneStep lane = s.cellBegin n := by
  simp only [State.laneStep, pick, free]

/-! ### An evaluation begins (R221, R225, R226) -/

theorem par_modLc (s : State) (n : Nat) (f : CellSt → CellSt) : (s.modLc n f).par = s.par := rfl

/-- An evaluation reads the dictionary's values in force and the cell it is given. -/
theorem evalCell_of_par {t : State} (par : t.par = s.par) : t.evalCell = s.evalCell := by
  have biquad : t.biquad = s.biquad := by
    unfold State.biquad State.bqCoef
    rw [par]
  unfold State.evalCell State.bqChain State.gain
  rw [par, biquad]

/-- The gain set that the next start samples. -/
def CellSt.nextSet (c : CellSt) : Nat := c.greq.getD c.gset

/-- The cell has sampled its gain set request, and its evaluation o is under way. -/
def CellSt.started (c : CellSt) (o : CellOut) : CellSt := { c with ready := none, run := some o, gset := c.nextSet, greq := none, due := false }

/-- Cell n has taken input i, and its evaluation is in front on its lane. -/
def State.evalStarted (s : State) (n : Nat) (i : CellIn) : State :=
  let c := s.lc n
  { s.modLc n (CellSt.started · (s.evalCell n c i c.nextSet (c.due || c.nextSet != c.gset))) with
    mlane := tabMod [] s.mlane (cellLane n) (fun l => n :: l) }

/-- A live cell takes its input. -/
theorem cellBegin_of_live {i : CellIn} (input : (s.lc n).ready = some i) (live : (s.lc n).live = true) : s.cellBegin n = s.evalStarted n i := by
  simp only [State.cellBegin, input, live, if_true]
  rfl

theorem lc_evalStarted (s : State) (n : Nat) (i : CellIn) : (s.evalStarted n i).lc n =
    (s.lc n).started (s.evalCell n (s.lc n) i (s.lc n).nextSet ((s.lc n).due || (s.lc n).nextSet != (s.lc n).gset)) :=
  lc_modLc_same s n (CellSt.started · _)

theorem front_evalStarted (s : State) (n : Nat) (i : CellIn) :
    tabGet [] (s.evalStarted n i).mlane (cellLane n) = n :: tabGet [] s.mlane (cellLane n) := tabGet_tabMod_same ..

/-! ### CELL_TRIGGER (R214, R217) -/

theorem cellTrig_of_disabled (disabled : s.par (0x4100 + n) 1 = 0) (y r ff : Nat) (valid : Bool) :
    s.cellTrig n y r ff valid = s.modLc n (fun c => { c with live := false }) := by
  simp [State.cellTrig, State.cellRuns, disabled]

/-- Input i waits at cell n. -/
def State.withInput (s : State) (n : Nat) (i : CellIn) : State := s.modLc n (fun x => { x with ready := some i })

theorem lc_withInput (s : State) (n : Nat) (i : CellIn) : (s.withInput n i).lc n = { s.lc n with ready := some i } := lc_modLc_same ..

theorem cellTrig_of_idle (runs : s.cellRuns n = true) (unready : (s.lc n).ready = none) (resting : (s.lc n).run = none) (y r ff : Nat) (valid : Bool) :
    s.cellTrig n y r ff valid =
      (s.withInput n { y := y, r := r, ff := ff, valid := valid, time := s.coreTime.toNat }).laneStep (cellLane n) := by
  simp [State.cellTrig, State.withInput, runs, unready, resting]

/-- On a free lane where no cell waits, an input is evaluated at once. -/
theorem laneStep_withInput (cell : n < 42) (unready : ∀ m, m < 42 → (s.lc m).ready = none) (free : tabGet [] s.mlane (cellLane n) = [])
    (live : (s.lc n).live = true) (i : CellIn) : (s.withInput n i).laneStep (cellLane n) = (s.withInput n i).evalStarted n i := by
  have input : ((s.withInput n i).lc n).ready = some i := by rw [lc_withInput]
  have others : ∀ m, m < 42 → m ≠ n → ((s.withInput n i).lc m).ready = none := fun m h other =>
    (congrArg CellSt.ready (lc_modLc_ne s n m _ other)).trans (unready m h)
  rw [laneStep_of_free (cellPick_of_one cell input others) free, cellBegin_of_live input (by rw [lc_withInput, live])]

/-- What has begun when an input is evaluated at once. -/
theorem evalStarted_withInput (settled : (s.lc n).due = false) (i : CellIn) : ((s.withInput n i).evalStarted n i).lc n =
    (s.lc n).started (s.evalCell n { s.lc n with ready := some i } i (s.lc n).nextSet ((s.lc n).nextSet != (s.lc n).gset)) := by
  have eval : (s.withInput n i).evalCell = s.evalCell := evalCell_of_par rfl
  rw [lc_evalStarted, lc_withInput, eval, settled]
  rfl

end

end Sys2Proof.Machine
end

section
/-! The end of an evaluation (R216, R221, R225, R227, R232, R233), missed deadlines (R217) and shadows (R241, R242): what each leaves of the outcome of
every cell, then each command by the state it finds. -/

namespace Sys2Proof.Machine
open Sys2Proof

/-! ### What the cells keep of their last evaluation -/

/-- What a cell keeps of its last evaluation: the evaluation, the count, the output. -/
def CellSt.outcome (c : CellSt) : Option CellOut × Nat × Nat := (c.last, c.evals, c.uLast)

/-- From s to t every cell keeps the outcome of its last evaluation. -/
structure OutcomesKept (s t : State) : Prop where
  outcome : ∀ k, (t.lc k).outcome = (s.lc k).outcome

namespace OutcomesKept

theorem of_cell {s t : State} (cell : t.cell = s.cell) : OutcomesKept s t := ⟨fun k => by rw [State.lc, State.lc, cell]⟩

theorem refl (s : State) : OutcomesKept s s := .of_cell rfl

theorem trans {s t u : State} (h : OutcomesKept s t) (k : OutcomesKept t u) : OutcomesKept s u :=
  ⟨fun n => (k.outcome n).trans (h.outcome n)⟩

theorem ite {s t u : State} {c : Prop} [Decidable c] (ht : OutcomesKept s t) (hu : OutcomesKept s u) : OutcomesKept s (if c then t else u) := by
  split <;> assumption

theorem foldl {β : Type} {g : State → β → State} (hg : ∀ t b, OutcomesKept t (g t b)) (l : List β) (s : State) : OutcomesKept s (l.foldl g s) :=
  List.foldlRecOn (motive := OutcomesKept s) l g (refl s) fun t ht b _ => ht.trans (hg t b)

theorem modLc (s : State) (n : Nat) {f : CellSt → CellSt} (hf : ∀ c, (f c).outcome = c.outcome) : OutcomesKept s (s.modLc n f) := by
  refine ⟨fun k => ?_⟩
  by_cases h : k = n
  · rw [h, lc_modLc_same, hf]
  · rw [lc_modLc_ne _ _ _ _ h]

theorem wf (s : State) (f : Fld) (v i j : Nat) : OutcomesKept s (s.wf f v i j) := .of_cell rfl

theorem report (s : State) (src cell detail : Nat) : OutcomesKept s (s.report src cell detail) := .of_cell (engineKept_report ..).cell

theorem startPark (s : State) (a : Nat) : OutcomesKept s (s.startPark a) := .of_cell (engineKept_startPark ..).cell

end OutcomesKept

/-! ### A lane goes on (R216, R224) -/

theorem outcomesKept_cellBegin (s : State) (n : Nat) : OutcomesKept s (s.cellBegin n) := by
  unfold State.cellBegin
  split
  · exact .refl s
  · extract_lets enabled c g tr out taken
    have h1 : OutcomesKept s enabled := .ite (.refl s) (.modLc s n fun _ => rfl)
    have h2 : OutcomesKept enabled taken := .modLc enabled n fun _ => rfl
    exact (h1.trans h2).trans (.of_cell rfl)

theorem outcomesKept_laneStep (s : State) (lane : Nat) : OutcomesKept s (s.laneStep lane) := by
  unfold State.laneStep
  split
  · exact .refl s
  · split
    · exact outcomesKept_cellBegin ..
    · split
      · exact .ite (outcomesKept_cellBegin ..) (.refl s)
      · exact outcomesKept_cellBegin ..

/-! ### Recording, shadows, saturation (R232, R240, R241) -/

theorem outcomesKept_recordEval (s : State) (n : Nat) (o : CellOut) (evals : Nat) (winner : Bool) : OutcomesKept s (s.recordEval n o evals winner) :=
  .ite (.refl s) (.of_cell rfl)

theorem outcomesKept_feedShadows (s : State) (n : Nat) (o : CellOut) (evals : Nat) : OutcomesKept s (s.feedShadows n o evals) :=
  .foldl (fun t m => .ite (.modLc t m fun c => by cases h : c.shadow <;> rfl) (.refl t)) shadows s

theorem outcomesKept_offTrack (s : State) (n : Nat) : OutcomesKept s (s.offTrack n) := by
  unfold State.offTrack
  exact .ite (.refl s) (.of_cell (engineKept_inhibit ..).cell)

theorem outcomesKept_satCount (s : State) (n : Nat) (sat : Bool) : OutcomesKept s (s.satCount n sat) := by
  unfold State.satCount
  extract_lets cleared k counted reported
  have clear : OutcomesKept s cleared := .modLc s n fun _ => rfl
  have count : OutcomesKept s counted := .modLc s n fun _ => rfl
  have told : OutcomesKept s reported := count.trans (.report counted (satSource n) n 0)
  refine .ite (.ite (clear.trans (.of_cell rfl)) clear) (.ite count (.ite ?_ (.ite (told.trans (.startPark ..)) told)))
  exact told.trans (.trans (t := reported.modHd _ _) (.of_cell rfl) (outcomesKept_offTrack ..))

/-! ### The output is delivered (R218, R233, R245, R264) -/

theorem outcomesKept_resCheck (s : State) (k b src : Nat) (r : List Int) : OutcomesKept s (s.resCheck k b src r) := by
  unfold State.resCheck
  extract_lets p rf cnt checked
  have h : OutcomesKept s checked := .of_cell rfl
  exact .ite (h.trans (.report ..)) h

theorem outcomesKept_vcmResidual (s : State) (a : Nat) (valid : Bool) (x i : Int) : OutcomesKept s (s.vcmResidual a valid x i) := by
  unfold State.vcmResidual
  extract_lets p sampled before checked
  have h1 : OutcomesKept s sampled := .of_cell rfl
  have h2 : OutcomesKept s checked := h1.trans (outcomesKept_resCheck ..)
  exact .ite (.of_cell rfl) (.ite (.ite (h2.trans (.startPark ..)) h2) h1)

theorem outcomesKept_deliver (s : State) (n : Nat) (o : CellOut) : OutcomesKept s (s.deliver_ n o) := by
  unfold State.deliver_
  extract_lets h a demanded
  have demand : OutcomesKept s demanded := .wf ..
  refine .ite (.ite (.refl s) (.of_cell (engineKept_maDrive ..).cell)) (.ite (demand.trans (outcomesKept_vcmResidual ..)) (.ite (.wf ..) (.refl s)))

/-- The group's selection tells the cells that lost what to track, and counts the winner's saturation (R227). -/
theorem outcomesKept_groupSelect (s : State) : OutcomesKept s s.groupSelect := by
  unfold State.groupSelect
  extract_lets us win g selected g' spin delivered
  have h1 : OutcomesKept s selected := by
    refine .foldl (fun t x => ?_) us s
    split
    · exact .refl t
    · next o _ =>
      extract_lets recorded k i
      have h : OutcomesKept t recorded := outcomesKept_recordEval ..
      exact .ite (h.trans (outcomesKept_satCount ..)) (h.trans (.modLc _ _ fun _ => rfl))
  have h2 : OutcomesKept s delivered := h1.trans (.of_cell rfl)
  exact .ite (h2.trans (.modLc _ _ fun _ => rfl)) h2

/-! ### EVAL_COMPLETE (R216, R221) -/

section
variable {s : State} {n : Nat}

/-- The cell has its evaluation o behind it, and takes the input that came meanwhile. -/
def CellSt.finished (c : CellSt) (o : CellOut) : CellSt :=
  { c with iPrev := o.i, dPrev := o.d, ePrev := o.e, yPrev := o.yf, vPrev := o.v, uLast := o.u, bq := o.bq, run := none, last := some o,
           evals := c.evals + 1, ready := c.pend, pend := none }

theorem evalDone_of_none (resting : (s.lc n).run = none) : s.evalDone n = s := by
  simp [State.evalDone, resting]

/-- After the evaluation in front of a lane has finished, reports, recording, supervision, delivery and the lane's next cell keep its outcome. -/
theorem outcomesKept_evalDone {o : CellOut} {rest : List Nat} (front : tabGet [] s.mlane (cellLane n) = n :: rest) (running : (s.lc n).run = some o) :
    OutcomesKept (s.modLc n (CellSt.finished · o)) (s.evalDone n) := by
  unfold State.evalDone
  extract_lets lane
  split
  case h_2 other => exact absurd running (other n rest o front)
  case h_1 t behind out first own =>
    obtain ⟨rfl, rfl⟩ := List.cons.inj (front.symm.trans first)
    obtain rfl := Option.some.inj (running.symm.trans own)
    rw [if_neg (not_not_intro rfl)]
    extract_lets step freed finished clamped numeric busy loaded recorded delivered grouped
    have h1 : OutcomesKept (s.modLc n (CellSt.finished · o)) finished := .of_cell rfl
    have h2 : OutcomesKept finished clamped := .ite (.report ..) (.refl finished)
    have h3 : OutcomesKept clamped numeric := .ite ((OutcomesKept.wf ..).trans (.report ..)) (.refl clamped)
    have h4 : OutcomesKept numeric loaded := .of_cell rfl
    have h5 : OutcomesKept loaded recorded := .ite (.refl loaded) ((outcomesKept_recordEval ..).trans (outcomesKept_satCount ..))
    have h6 : OutcomesKept recorded delivered := (outcomesKept_feedShadows ..).trans (outcomesKept_deliver ..)
    have h7 : OutcomesKept delivered grouped := .ite (outcomesKept_groupSelect delivered) (.refl delivered)
    exact ((((((h1.trans h2).trans h3).trans h4).trans h5).trans h6).trans h7).trans (outcomesKept_laneStep grouped lane)

theorem outcome_evalDone {o : CellOut} {rest : List Nat} (front : tabGet [] s.mlane (cellLane n) = n :: rest) (running : (s.lc n).run = some o) :
    ((s.evalDone n).lc n).outcome = (some o, (s.lc n).evals + 1, o.u) :=
  ((outcomesKept_evalDone front running).outcome n).trans (congrArg CellSt.outcome (lc_modLc_same s n (CellSt.finished · o)))

/-! ### DEADLINE_MISS (R217) -/

theorem deadlineMiss_of_idle (unready : (s.lc n).ready = none) (resting : (s.lc n).run = none) : s.deadlineMiss n = s := by
  simp [State.deadlineMiss, unready, resting]

/-- One miss alone is far from the four within 100 evaluations. -/
theorem deadlineMiss_of_first (running : (s.lc n).run.isSome = true) (first : (s.lc n).missAt = []) : s.deadlineMiss n =
    ((s.modLc n (fun x => { x with misses := x.misses + 1, missAt := [(s.lc n).evals + 1] })).cnt MC_MISS_MISS (cellLane n)).report
      (srcId MOT (cellLane n) 2) n := by
  have under_way : (s.lc n).run.isNone = false := by simp [Option.isNone_eq_false_iff, running]
  have recent : (s.lc n).evals + 1 < (s.lc n).evals + 1 + 100 := by omega
  simp only [State.deadlineMiss, under_way, first, List.nil_append, List.filter_cons, recent, decide_true, if_true, List.filter_nil, Bool.and_false,
    Bool.false_eq_true, if_false]
  rfl

/-! ### SHADOW_EVAL (R216, R241, R242) -/

theorem shadowEval_of_none (empty : (s.lc n).shadow = none) : s.shadowEval n = s := by
  simp only [State.shadowEval, empty, ite_self]

theorem replayFeed_of_stopped (stopped : s.mrec.rpSt ≠ 1) (fuel : Nat) : s.replayFeed fuel = s := by
  cases fuel with
  | zero => rfl
  | succ fuel => exact if_pos (.inl stopped)

/-- An evaluation of a live shadow reaches no other cell, and the replay that does not run offers nothing behind it. -/
theorem shadowEval_of_input (idle : s.cellPick (cellLane n) = none) (free : tabGet [] s.mlane (cellLane n) = []) (live : (s.lc n).live = true)
    (stopped : s.mrec.rpSt ≠ 1) {i : CellIn} {g u e : Nat} (input : (s.lc n).shadow = some (i, g, u, e)) :
    ∃ (f : CellSt → CellSt) (o : CellOut), s.shadowEval n = s.modLc n f ∧ o.inp = i ∧ o.gset = g
      ∧ ∀ c, (f c).last = some o ∧ (f c).shadow = none ∧ (f c).evals = c.evals + 1 := by
  have runs : ((s.cellPick (cellLane n)).isSome || tabGet [] s.mlane (cellLane n) != []) = false := by simp [idle, free]
  unfold State.shadowEval
  simp only [runs, input, live, Bool.false_eq_true, if_false, if_true]
  exact ⟨_, s.evalCell n (s.lc n) i g _, replayFeed_of_stopped (by exact stopped) _, rfl, rfl, fun _ => ⟨rfl, rfl, rfl⟩⟩

end

/-- Settles O24, command by command. -/
theorem loopCellsRunAndMiss : Obligations.LoopCellsRunAndMiss := by
  intro s n
  refine ⟨fun y v disabled => congrArg Host.Outcome.next (cellTrig_of_disabled disabled ..), ?started,
    fun o front running => ⟨_, rfl, ?ended⟩, fun resting => congrArg Host.Outcome.next (evalDone_of_none resting), fun _ => rfl,
    fun unready resting => congrArg Host.Outcome.next (deadlineMiss_of_idle unready resting),
    fun running first => congrArg Host.Outcome.next (deadlineMiss_of_first running first),
    fun m empty => congrArg Host.Outcome.next (shadowEval_of_none empty), ?shadow⟩
  case started =>
    rintro y runs unready free resting live settled i rfl
    refine ⟨_, congrArg Host.Outcome.next ((cellTrig_of_idle runs (unready n n.isLt) resting ..).trans (laneStep_withInput n.isLt unready free live _)), ?_⟩
    rw [evalStarted_withInput settled, front_evalStarted]
    exact ⟨rfl, rfl, rfl, congrArg (n.val :: ·) free, rfl⟩
  case ended => simpa [CellSt.outcome] using outcome_evalDone front running
  case shadow =>
    intro m i g u e stopped unready free live input
    obtain ⟨f, o, evaluated, inp, gset, done⟩ := shadowEval_of_input (cellPick_of_unready unready _) free live stopped input
    obtain ⟨last, empty, count⟩ := done (s.lc (48 + m.val))
    refine ⟨_, o, congrArg Host.Outcome.next evaluated, ?_⟩
    rw [lc_modLc_same]
    exact ⟨last, inp, gset, empty, count, rfl, fun k h => lc_modLc_ne _ _ _ _ (by omega)⟩

end Sys2Proof.Machine
end

section
/-! Profile channels (R228 to R231), the load's peak (R243), the motion recording and its replay (R240, R242). -/

namespace Sys2Proof.Machine
open Sys2Proof

/-! ### Targets (R228, R230) -/

section
variable {s : State} {c : Nat}

theorem pgBegin_of_distance {x : Int} (away : x ≠ (s.pgc c).pos) : s.pgBegin c x =
    s.modPg c (fun q => { q with target := x, plan := some (s.pgPlan c (x - (s.pgc c).pos).natAbs 8192), k := 0 }) :=
  if_neg (by omega)

theorem pgBegin_of_position {x : Int} (there : x = (s.pgc c).pos) : s.pgBegin c x =
    s.modPg c (fun q => { q with target := x, plan := none, k := 0, queued := none }) :=
  if_pos (by omega)

theorem pgTarget_of_idle (free : (s.pgc c).stop = false) (idle : (s.pgc c).plan = none) (x : Int) : s.pgTarget c x = s.pgBegin c x := by
  simp [State.pgTarget, free, idle]

theorem pgTarget_of_planned (free : (s.pgc c).stop = false) (planned : (s.pgc c).plan.isSome = true) (x : Int) :
    s.pgTarget c x = s.modPg c (fun q => { q with queued := some x }) := by
  have busy : (s.pgc c).plan.isNone = false := by simp [Option.isNone_eq_false_iff, planned]
  simp [State.pgTarget, free, busy]

/-! ### PG_PERIOD (R229, R230) -/

/-- A stop is taken (R230): x holds, v, a and the queue are cleared; a channel stopped on its way stands where x is. -/
def PgSt.stopped (q : PgSt) : PgSt :=
  { q with plan := none, k := 0, v := 0, a := 0, queued := none, stop := false, pos := if q.plan.isSome then dyUnits 230 (bfVal q.x) 13 else q.pos }

/-- A profile has ended (R229): the channel is on its target at rest. -/
def PgSt.arrived (q : PgSt) : PgSt := { q with x := bfOf ⟨q.target, -13⟩, v := 0, a := 0, pos := q.target, plan := none, k := 0 }

theorem pgStep_of_stop (stop : (s.pgc c).stop = true) : s.pgStep c = (s.modPg c PgSt.stopped).wbit PG_CTRL_STOP c false := by
  rw [State.pgStep, if_pos stop]
  rfl

theorem pgStep_of_lastPeriod {plan : Nat × Nat × Nat} (free : (s.pgc c).stop = false) (planned : (s.pgc c).plan = some plan)
    (last : pgTotal plan ≤ (s.pgc c).k + 1) (alone : (s.pgc c).queued = none) : s.pgStep c = s.modPg c PgSt.arrived := by
  simp only [State.pgStep, free, planned, last, alone, Bool.false_eq_true, if_false, if_true]
  rfl

/-- With no seek and no park the end of a profile passes on to nothing. -/
theorem pgPeriod_of_quiet (seek : ((s.pgStep c).sv c).seek = none) (state : (s.pgStep c).act c ≠ acUNLOADING) : s.pgPeriod_ c = s.pgStep c := by
  simp [State.pgPeriod_, seek, state]

theorem pgPeriod_of_stop (stop : (s.pgc c).stop = true) (seek : (s.sv c).seek = none) (state : s.rf VC_STATUS_STATE c ≠ 5) :
    s.pgPeriod_ c = (s.modPg c PgSt.stopped).wbit PG_CTRL_STOP c false := by
  have apart : VC_STATUS_STATE.key c 0 ≠ PG_CTRL_STOP.key c 0 := by simp only [Fld.key, VC_STATUS_STATE, PG_CTRL_STOP]; omega
  have still : (s.pgStep c).act c = s.act c := by
    rw [pgStep_of_stop stop]
    exact rf_wf_ne _ _ _ _ _ _ _ _ apart
  rw [pgPeriod_of_quiet (by rw [pgStep_of_stop stop]; exact seek) (fun parks => state (still.symm.trans parks)), pgStep_of_stop stop]

theorem pgPeriod_of_lastPeriod {plan : Nat × Nat × Nat} (free : (s.pgc c).stop = false) (planned : (s.pgc c).plan = some plan)
    (last : pgTotal plan ≤ (s.pgc c).k + 1) (alone : (s.pgc c).queued = none) (seek : (s.sv c).seek = none) (state : s.rf VC_STATUS_STATE c ≠ 5) :
    s.pgPeriod_ c = s.modPg c PgSt.arrived := by
  have arrived := pgStep_of_lastPeriod free planned last alone
  rw [pgPeriod_of_quiet (by rw [arrived]; exact seek) (by rw [arrived]; exact state), arrived]

end

/-! ### The recording and its replay (R240, R242) -/

section
variable {s : State}

theorem recStop_of_running (running : s.mrec.st = 1) : s.recStop = { s with mrec := { s.mrec with st := 0 } } := if_pos running

theorem recClear_of_stopped (stopped : s.mrec.st ≠ 1) :
    s.recClear = { s with mrec := { s.mrec with recs := [], wr := 0, total := 0, lost := 0, st := 0 } } := by
  rw [State.recClear, if_neg stopped]

/-- A replay that finds no shadow busy ends at the write index as it stood. -/
theorem replayFeed_of_end (running : s.mrec.rpSt = 1) (free : ∀ m, (s.lc m).shadow = none) (past : s.mrec.rpEnd ≤ s.mrec.rpPos) (fuel : Nat) :
    s.replayFeed (fuel + 1) = { s with mrec := { s.mrec with rpSt := 2 } } := by
  have goes_on : ¬(s.mrec.rpSt ≠ 1 ∨ shadows.any (fun m => shadowMode s m == 2 && (s.lc m).shadow.isSome) = true) := by simp [running, free]
  rw [State.replayFeed, if_neg goes_on, if_pos (.inl past)]

/-- A replay from the start of an empty recording has no record to offer. -/
theorem replayFrom_of_empty (empty : s.mrec.total = 0) (start : s.ent 0xF020 10 = 0) (free : ∀ m, (s.lc m).shadow = none) :
    s.replayFrom = { s with mrec := { s.mrec with rpSt := 2, rpPos := s.recCount 0, rpEnd := 0 } } := by
  rw [State.replayFrom, start, empty]
  exact replayFeed_of_end (s := { s with mrec := { s.mrec with rpSt := 1, rpPos := s.recCount 0, rpEnd := 0 } }) rfl free (Nat.zero_le _) _

theorem replayHalt_of_running (running : s.mrec.rpSt = 1) : s.replayHalt = { s with mrec := { s.mrec with rpSt := 0 } } := if_pos running

end

/-- Settles O25, command by command. -/
theorem profilesRecordingAndReplay : Obligations.ProfilesRecordingAndReplay := by
  intro s c
  refine ⟨fun x free idle away => congrArg Host.Outcome.next ((pgTarget_of_idle free idle x).trans (pgBegin_of_distance away)),
    fun x free idle there => congrArg Host.Outcome.next ((pgTarget_of_idle free idle x).trans (pgBegin_of_position there)),
    fun x free planned => congrArg Host.Outcome.next (pgTarget_of_planned free planned x), rfl,
    fun stop seek state => ⟨_, congrArg Host.Outcome.next (pgPeriod_of_stop stop seek state), ?stopped⟩,
    fun plan free planned last alone seek state =>
      ⟨_, congrArg Host.Outcome.next (pgPeriod_of_lastPeriod free planned last alone seek state), ?arrived⟩,
    fun _ => rfl, rfl, fun running => congrArg Host.Outcome.next (recStop_of_running running),
    fun stopped => congrArg Host.Outcome.next (recClear_of_stopped stopped),
    fun empty start free => ⟨_, congrArg Host.Outcome.next (replayFrom_of_empty empty start free), rfl, rfl, rfl⟩,
    fun running => congrArg Host.Outcome.next (replayHalt_of_running running)⟩
  case stopped => simp [State.wbit, PgSt.stopped]
  case arrived => simp [PgSt.arrived]

end Sys2Proof.Machine
end

section
/-! The causes of write inhibit set and cleared (R170), then the qualified inputs, the temperature window and the AON watchdog (R469, R470, R472,
R483), each command by the input it finds. -/

namespace Sys2Proof.Machine
open Sys2Proof

/-! ### The causes of a channel (R170) -/

/-- Setting or clearing bit b changes neither what is below it nor what is above it. -/
theorem setBit_halves (v b : Nat) (x : Bool) : setBit v b x % 2 ^ b = v % 2 ^ b ∧ setBit v b x / 2 ^ b / 2 = v / 2 ^ b / 2 := by
  have unit : 0 < 2 ^ b := Nat.two_pow_pos b
  unfold setBit
  split
  · next set =>
    have odd : v / 2 ^ b % 2 = 1 := beq_iff_eq.1 set
    have reaches : 2 ^ b ≤ v := Nat.le_of_not_lt fun small => by simp [Nat.div_eq_of_lt small] at odd
    have less : (v - 2 ^ b) / 2 ^ b = v / 2 ^ b - 1 := by simpa using Nat.sub_mul_div v (2 ^ b) 1
    cases x with
    | true => exact ⟨rfl, rfl⟩
    | false =>
      refine ⟨(Nat.mod_eq_sub_mod reaches).symm, ?_⟩
      rw [if_neg Bool.false_ne_true, less]
      generalize v / 2 ^ b = q at odd ⊢
      omega
  · next clear =>
    have even : v / 2 ^ b % 2 ≠ 1 := fun odd => clear (beq_iff_eq.2 odd)
    cases x with
    | true =>
      refine ⟨Nat.add_mod_right .., ?_⟩
      rw [if_pos rfl, Nat.add_div_right v unit]
      generalize v / 2 ^ b = q at even ⊢
      omega
    | false => exact ⟨rfl, rfl⟩

theorem bitOf_setBit_ne {b c : Nat} (h : c ≠ b) (v : Nat) (x : Bool) : bitOf (setBit v b x) c = bitOf v c := by
  obtain ⟨low, high⟩ := setBit_halves v b x
  rw [bitOf_eq_testBit, bitOf_eq_testBit]
  rcases Nat.lt_or_gt_of_ne h with below | above
  · simpa [below] using congrArg (Nat.testBit · c) low
  · obtain ⟨d, rfl⟩ := Nat.exists_eq_add_of_le' (Nat.succ_le_of_lt above)
    simpa [Nat.testBit_div_two_pow, Nat.testBit_div_two, Nat.add_comm, Nat.add_left_comm] using congrArg (Nat.testBit · d) high

theorem rbit_wbit_ne {f : Fld} {b c : Nat} (width : c < f.width) (h : c ≠ b) (s : State) (x : Bool) (i j : Nat) :
    (s.wbit f b x i j).rbit f c i j = s.rbit f c i j := by
  rw [State.rbit, State.wbit, rf_wf_same, bitOf_mod_two_pow width, bitOf_setBit_ne h, State.rbit]

section
variable (s : State) (n m : Nat)

theorem causes_cutWrite : (s.cutWrite n).rf WR_STATUS_INHIBIT m = s.rf WR_STATUS_INHIBIT m := by
  unfold State.cutWrite
  extract_lets channel hit counted
  have count : counted.rf WR_STATUS_INHIBIT m = s.rf WR_STATUS_INHIBIT m := by
    unfold counted
    split
    · exact rf_wf_of_apart (by decide) ..
    · rfl
  split
  · exact count
  · rfl

theorem causes_sqEvent (e : Nat) : (s.sqEvent n e).rf WR_STATUS_INHIBIT m = s.rf WR_STATUS_INHIBIT m := by
  unfold State.sqEvent
  split <;> exact rf_wf_of_apart (by decide) ..

/-- The cut that a cause of kind I brings about changes no cause. -/
theorem causes_inhibit (bit : Nat) (x : Bool) :
    (s.inhibit bit x n).rf WR_STATUS_INHIBIT m = (s.wbit WR_STATUS_INHIBIT bit x n).rf WR_STATUS_INHIBIT m := by
  unfold State.inhibit
  extract_lets rises written
  split
  · rw [causes_sqEvent, causes_cutWrite]
  · rfl

end

/-- Cause `bit` is set or cleared on channel n; every other cause of every channel stays. -/
theorem cause_inhibit {b : Nat} (cause : b < 14) (s : State) (bit : Nat) (x : Bool) (n m : Nat) :
    (s.inhibit bit x n).rbit WR_STATUS_INHIBIT b m = if m = n ∧ b = bit then x else s.rbit WR_STATUS_INHIBIT b m := by
  have written : (s.inhibit bit x n).rbit WR_STATUS_INHIBIT b m = (s.wbit WR_STATUS_INHIBIT bit x n).rbit WR_STATUS_INHIBIT b m := by
    rw [State.rbit, causes_inhibit, State.rbit]
  rw [written]
  by_cases channel : m = n
  · subst channel
    by_cases this : b = bit
    · subst this
      rw [if_pos ⟨rfl, rfl⟩, rbit_wbit cause]
    · rw [if_neg (this ·.2), rbit_wbit_ne cause this]
  · have apart : WR_STATUS_INHIBIT.key m 0 ≠ WR_STATUS_INHIBIT.key n 0 := by
      simp only [Fld.key, WR_STATUS_INHIBIT]
      omega
    rw [if_neg (channel ·.1), State.rbit, State.wbit, rf_wf_ne _ _ _ _ _ _ _ _ apart, State.rbit]

theorem cause_inhibits {b : Nat} (cause : b < 14) (bit : Nat) (x : Bool) (ns : List Nat) (m : Nat) (s : State) :
    (s.inhibits bit x ns).rbit WR_STATUS_INHIBIT b m = if m ∈ ns ∧ b = bit then x else s.rbit WR_STATUS_INHIBIT b m := by
  induction ns generalizing s with
  | nil => simp [State.inhibits]
  | cons n ns ih =>
    change ((s.inhibit bit x n).inhibits bit x ns).rbit WR_STATUS_INHIBIT b m = _
    rw [ih, cause_inhibit cause]
    grind

theorem cause_inhibitAll {b : Nat} (cause : b < 14) (s : State) (bit : Nat) (x : Bool) (m : Nat) :
    (s.inhibitAll bit x).rbit WR_STATUS_INHIBIT b m = if m < s.nChan ∧ b = bit then x else s.rbit WR_STATUS_INHIBIT b m := by
  simp only [State.inhibitAll, cause_inhibits cause, State.allChans, List.mem_range]

/-! ### Inputs (R470, R283, R483, R255) -/

section
variable {s : State} {i : Fin 5}

theorem inputQualify_of_chatter (chatters : s.rbit IF_STATUS_CHATTER i.val = true) (l : Bool) : s.inputQualify i.val l = s := if_pos chatters

/-- A level that does not fall from active is shown, and nothing else. -/
theorem inputQualify_of_steady {l : Bool} (calm : s.rbit IF_STATUS_CHATTER i.val = false) (steady : (s.rbit IF_STATUS_LEVEL i.val && !l) = false) :
    s.inputQualify i.val l = s.wbit IF_STATUS_LEVEL i.val l := by
  simp [State.inputQualify, calm, steady]

/-- What the end of an active input i brings about. -/
def State.inputEnded (s : State) (i : Nat) : State :=
  if i = 0 then ({ s with pwr.pfail := false } : State).powerBack else if i = 1 then s.pwrdisOff else s.wbit SK_STATUS_ACTIVE (i - 2) false

theorem inputQualify_of_fall (calm : s.rbit IF_STATUS_CHATTER i.val = false) (active : s.rbit IF_STATUS_LEVEL i.val = true) :
    s.inputQualify i.val false = (s.wbit IF_STATUS_LEVEL i.val false).inputEnded i.val := by
  simp [State.inputQualify, State.inputEnded, calm, active]

theorem inputEnded_shock (shock : 2 ≤ i.val) (t : State) : t.inputEnded i.val = t.wbit SK_STATUS_ACTIVE (i.val - 2) false := by
  rw [State.inputEnded, if_neg (by omega), if_neg (by omega)]

theorem execInputStuck_of_quiet (quiet : s.rbit IF_STATUS_LEVEL i.val = false ∨ s.rbit IF_STATUS_STUCK i.val = true) : execInputStuck i s = .next s := by
  refine if_neg ?_
  rcases quiet with low | known <;> simp [*]

theorem execInputStuck_of_active (active : s.rbit IF_STATUS_LEVEL i.val = true) (new : s.rbit IF_STATUS_STUCK i.val = false) :
    execInputStuck i s = .next (if 2 ≤ i.val then
      (((s.wbit IF_STATUS_STUCK i.val true).report (srcId SYS 1 (2 * i.val))).report (srcId MOT 13 1) (i.val - 2)).inhibitAll inhSHOCK true
      else (s.wbit IF_STATUS_STUCK i.val true).report (srcId SYS 1 (2 * i.val))) := if_pos (by simp [active, new])

theorem execInputChatter_of_calm (calm : s.rbit IF_STATUS_CHATTER i.val = false) :
    execInputChatter i s = .next (if 2 ≤ i.val then ((s.wbit IF_STATUS_CHATTER i.val true).report (srcId SYS 1 (2 * i.val + 1))).inhibitAll inhSHOCK true
      else (s.wbit IF_STATUS_CHATTER i.val true).report (srcId SYS 1 (2 * i.val + 1))) := if_neg (by simp [calm])

/-- The level when an input is requalified: that of a stuck input ends. -/
def State.unstuck (s : State) (i : Nat) : State := if s.rbit IF_STATUS_STUCK i then s.wbit IF_STATUS_LEVEL i false else s

theorem execInputRequalify_eq (s : State) (i : Fin 5) :
    execInputRequalify i s = .next (((s.unstuck i.val).wbit IF_STATUS_CHATTER i.val false).wbit IF_STATUS_STUCK i.val false) := rfl

theorem unstuck_of_stuck (stuck : s.rbit IF_STATUS_STUCK i.val = true) : s.unstuck i.val = s.wbit IF_STATUS_LEVEL i.val false := if_pos stuck

theorem unstuck_of_clear (clear : s.rbit IF_STATUS_STUCK i.val = false) : s.unstuck i.val = s := if_neg (by simp [clear])

/-- LEVEL, STUCK, CHATTER and TEMP_OOW share a word at different bits. -/
theorem level_requalified (t : State) (i : Nat) :
    ((t.wbit IF_STATUS_CHATTER i false).wbit IF_STATUS_STUCK i false).rf IF_STATUS_LEVEL = t.rf IF_STATUS_LEVEL :=
  (rf_wf_ne _ IF_STATUS_STUCK IF_STATUS_LEVEL _ 0 0 0 0 (by decide)).trans (rf_wf_ne _ IF_STATUS_CHATTER IF_STATUS_LEVEL _ 0 0 0 0 (by decide))

theorem chatter_requalified (t : State) (i : Fin 5) :
    ((t.wbit IF_STATUS_CHATTER i.val false).wbit IF_STATUS_STUCK i.val false).rbit IF_STATUS_CHATTER i.val = false := by
  rw [State.rbit, State.wbit, rf_wf_ne _ IF_STATUS_STUCK IF_STATUS_CHATTER _ 0 0 0 0 (by decide), ← State.rbit, rbit_wbit i.isLt]

theorem execTempSenseWindow_of_known (known : s.rb IF_STATUS_TEMP_OOW = true) : execTempSenseWindow false s = .next s := by
  simp [execTempSenseWindow, known]

theorem execTempSenseWindow_of_new (new : s.rb IF_STATUS_TEMP_OOW = false) :
    execTempSenseWindow false s = .next ((s.wb IF_STATUS_TEMP_OOW true).report (srcId SYS 1 10)) := by
  simp [execTempSenseWindow, new]

end

/-! ### The watchdog (R469) -/

section
variable {s : State}

theorem wdKick_of_otherKey {k : BitVec 16} (wrong : k ≠ 0xA5C3) : s.wdKick k.toNat = s.cnt WD_STATUS_BAD_KICKS :=
  if_neg fun same => wrong (BitVec.eq_of_toNat_eq same)

theorem wdCtrl_of_service (service : s.mode = modeService) (v : Nat) : s.wdCtrl v = s.wf WD_CTRL_PERIOD v := by
  simp [State.wdCtrl, service]

/-- WD_CTRL written: PERIOD and EN. -/
def State.wdWritten (s : State) (v : Nat) : State := (s.wf WD_CTRL_PERIOD v).wb WD_CTRL_EN (bitOf v 16)

theorem wdCtrl_of_mode (mode : s.mode ≠ modeService) (v : Nat) : s.wdCtrl v =
    if bitOf v 16 && !s.rb WD_CTRL_EN then (s.wdWritten v).wf WD_STATUS_REMAIN (s.wdWritten v).wdPeriod else s.wdWritten v := by
  simp only [State.wdCtrl, if_neg mode]
  rfl

theorem wdCtrl_of_start (mode : s.mode ≠ modeService) {v : Nat} (on : bitOf v 16 = true) (was_off : s.rb WD_CTRL_EN = false) :
    s.wdCtrl v = (s.wdWritten v).wf WD_STATUS_REMAIN (s.wdWritten v).wdPeriod := by
  rw [wdCtrl_of_mode mode, if_pos (by simp [on, was_off])]

/-- Without a rise of EN the count goes on. -/
theorem wdCtrl_of_noStart (mode : s.mode ≠ modeService) {v : Nat} (no_rise : bitOf v 16 = false ∨ s.rb WD_CTRL_EN = true) :
    s.wdCtrl v = s.wdWritten v := by
  refine (wdCtrl_of_mode mode v).trans (if_neg ?_)
  rcases no_rise with off | was_on <;> simp [*]

theorem period_wdWritten (s : State) (v : Nat) : (s.wdWritten v).rf WD_CTRL_PERIOD = v % 2 ^ WD_CTRL_PERIOD.width :=
  (rf_wf_ne _ WD_CTRL_EN WD_CTRL_PERIOD _ 0 0 0 0 (by decide)).trans (rf_wf_same ..)

theorem enable_wdWritten (s : State) (v : Nat) : (s.wdWritten v).rb WD_CTRL_EN = bitOf v 16 := by
  rw [State.rb, State.wdWritten, rf_wb_same]
  cases bitOf v 16 <;> rfl

theorem remain_wdWritten (s : State) (v : Nat) : (s.wdWritten v).rf WD_STATUS_REMAIN = s.rf WD_STATUS_REMAIN :=
  (rf_wf_ne _ WD_CTRL_EN WD_STATUS_REMAIN _ 0 0 0 0 (by decide)).trans (rf_wf_ne _ WD_CTRL_PERIOD WD_STATUS_REMAIN _ 0 0 0 0 (by decide))

/-- Outside Service mode both fields of WD_CTRL are written, with or without a reload of the count. -/
theorem wdCtrl_fields (mode : s.mode ≠ modeService) (v : Nat) : (s.wdCtrl v).rf WD_CTRL_PERIOD = v % 2 ^ WD_CTRL_PERIOD.width
    ∧ (s.wdCtrl v).rb WD_CTRL_EN = bitOf v 16 ∧ { s.wdCtrl v with regs := s.regs } = s := by
  rw [wdCtrl_of_mode mode]
  split
  · refine ⟨?_, ?_, rfl⟩
    · rw [rf_wf_ne _ WD_STATUS_REMAIN WD_CTRL_PERIOD _ 0 0 0 0 (by decide), period_wdWritten]
    · rw [State.rb, rf_wf_ne _ WD_STATUS_REMAIN WD_CTRL_EN _ 0 0 0 0 (by decide), ← State.rb, enable_wdWritten]
  · exact ⟨period_wdWritten s v, enable_wdWritten s v, rfl⟩

theorem wdPeriod_wdWritten (s : State) (v : Nat) : (s.wdWritten v).wdPeriod = max (v % 2 ^ WD_CTRL_PERIOD.width) 1 := by
  rw [State.wdPeriod, period_wdWritten]

theorem execWatchdogExpiry_of_stopped (stopped : s.rb WD_CTRL_EN = false) : execWatchdogExpiry s = .next s := if_neg (by simp [stopped])

/-- R469, R456: the expiry is reported as a C4 whatever class is in force. -/
theorem execWatchdogExpiry_of_running (running : s.rb WD_CTRL_EN = true) (cls : s.classOf 0x1FC0 0 ≤ 4) :
    execWatchdogExpiry s = .next (((s.wb WD_STATUS_EXPIRED true).wf WD_STATUS_REMAIN 0).reportBy 0 127 0x1FC0 0 4 0 false) := by
  have raised : max 4 (((s.wb WD_STATUS_EXPIRED true).wf WD_STATUS_REMAIN 0).classOf 0x1FC0 0) = 4 := Nat.max_eq_left cls
  rw [execWatchdogExpiry, if_pos running, State.reportAs, raised]
  rfl

end

/-- Settles O52, command by command. -/
theorem inputsAndWatchdog : Obligations.InputsAndWatchdog := by
  intro s i
  refine ⟨fun chatters l => congrArg Host.Outcome.next (inputQualify_of_chatter chatters l),
    fun calm => ⟨congrArg Host.Outcome.next (inputQualify_of_steady calm (by simp)),
      fun inactive => congrArg Host.Outcome.next (inputQualify_of_steady calm (by simp [inactive])),
      fun active => ⟨fun shock => congrArg Host.Outcome.next ((inputQualify_of_fall calm active).trans (inputEnded_shock shock _)), ?pfail, ?pwrdis⟩⟩,
    execInputStuck_of_quiet, fun active new => ?stuck, fun chatters => if_pos chatters, fun calm => ?chatter,
    ⟨_, execInputRequalify_eq s i, chatter_requalified _ i, rbit_wbit i.isLt .., ?frame, fun stuck => ?unstuck,
      fun clear => by rw [level_requalified, unstuck_of_clear clear]⟩,
    fun n b => ⟨?held, fun cause other => ?others⟩, rfl, execTempSenseWindow_of_known, execTempSenseWindow_of_new, rfl,
    fun k wrong => congrArg Host.Outcome.next (wdKick_of_otherKey wrong),
    fun v => ⟨fun service => congrArg Host.Outcome.next (wdCtrl_of_service service v.toNat), fun mode => ⟨_, rfl, ?control⟩⟩,
    execWatchdogExpiry_of_stopped, execWatchdogExpiry_of_running⟩
  case pfail =>
    intro pin
    obtain rfl : i = 0 := Fin.ext pin
    exact congrArg Host.Outcome.next (inputQualify_of_fall calm active)
  case pwrdis =>
    intro pin
    obtain rfl : i = 1 := Fin.ext pin
    exact congrArg Host.Outcome.next (inputQualify_of_fall calm active)
  case stuck =>
    exact ⟨fun power => (execInputStuck_of_active active new).trans (by rw [if_neg (by omega)]),
      fun shock => (execInputStuck_of_active active new).trans (by rw [if_pos shock])⟩
  case chatter =>
    exact ⟨fun power => (execInputChatter_of_calm calm).trans (by rw [if_neg (by omega)]),
      fun shock => (execInputChatter_of_calm calm).trans (by rw [if_pos shock])⟩
  case frame =>
    unfold State.unstuck
    split <;> rfl
  case unstuck => rw [State.rbit, level_requalified, ← State.rbit, unstuck_of_stuck stuck, rbit_wbit i.isLt]
  case held =>
    rw [cause_inhibitAll (by decide)]
    by_cases mine : n < s.nChan <;> simp [mine]
  case others => rw [cause_inhibitAll cause, if_neg (other ·.2)]
  case control =>
    have enable : bitOf v.toNat 16 = v.getLsbD 16 := bitOf_eq_testBit v.toNat 16
    rw [← enable]
    obtain ⟨period, en, frame⟩ := wdCtrl_fields mode v.toNat
    refine ⟨period, en, frame, fun on was_off => ?_, fun no_rise => ?_⟩
    · rw [wdCtrl_of_start mode on was_off, rf_wf_same, wdPeriod_wdWritten]
      exact Nat.mod_eq_of_lt (Nat.max_lt.2 ⟨Nat.mod_lt _ (Nat.two_pow_pos _), by decide⟩)
    · rw [wdCtrl_of_noStart mode no_rise, remain_wdWritten]

end Sys2Proof.Machine
end

section
/-! Loading, parking and retracting (R257 to R260): what closed gates, saved trims and the spindle leave of an actuator, then each command by the
state of the actuator it finds. -/

namespace Sys2Proof.Machine
open Sys2Proof

/-! ### What lies outside the actuators' own records -/

/-- From s to t the actuators are as they were: their records, their registers and those below them in the register file; and so are the fault
collection, the lanes of the Churn, the part and the shock hold. -/
structure ServoKept (s t : State) : Prop where
  regs : ∀ k, k < 0x621000 * 32 → tabFind t.regs k = tabFind s.regs k
  servo : t.servo = s.servo
  fc : t.fc = s.fc
  lane : t.lane = s.lane
  part : t.part = s.part
  shockHeld : t.shockHeld = s.shockHeld

namespace ServoKept

theorem of_regs {s t : State} (regs : t.regs = s.regs) (servo : t.servo = s.servo) (fc : t.fc = s.fc) (lane : t.lane = s.lane) (part : t.part = s.part)
    (shockHeld : t.shockHeld = s.shockHeld) : ServoKept s t := ⟨fun _ _ => by rw [regs], servo, fc, lane, part, shockHeld⟩

theorem refl (s : State) : ServoKept s s := .of_regs rfl rfl rfl rfl rfl rfl

theorem trans {s t u : State} (h : ServoKept s t) (k : ServoKept t u) : ServoKept s u :=
  ⟨fun n low => (k.regs n low).trans (h.regs n low), k.servo.trans h.servo, k.fc.trans h.fc, k.lane.trans h.lane, k.part.trans h.part,
    k.shockHeld.trans h.shockHeld⟩

theorem ite {s t u : State} {c : Prop} [Decidable c] (ht : ServoKept s t) (hu : ServoKept s u) : ServoKept s (if c then t else u) := by
  split <;> assumption

theorem foldl {β : Type} {g : State → β → State} (hg : ∀ t b, ServoKept t (g t b)) (l : List β) (s : State) : ServoKept s (l.foldl g s) :=
  List.foldlRecOn (motive := ServoKept s) l g (refl s) fun t ht b _ => ht.trans (hg t b)

/-- The spindle's registers and all above it lie outside the actuators. -/
theorem wf {f : Fld} (above : 0x621000 ≤ f.base) (s : State) (v i j : Nat) : ServoKept s (s.wf f v i j) :=
  ⟨fun k low => tabFind_tabSet_ne _ _ _ _ (by simp only [Fld.key]; omega), rfl, rfl, rfl, rfl, rfl⟩

theorem modCh (s : State) (n : Nat) (f : ChanSt → ChanSt) : ServoKept s (s.modCh n f) := .of_regs rfl rfl rfl rfl rfl rfl

theorem modTr (s : State) (a : Nat) (f : Tru → Tru) : ServoKept s (s.modTr a f) := .of_regs rfl rfl rfl rfl rfl rfl

theorem modHd (s : State) (n : Nat) (f : HeadSt → HeadSt) : ServoKept s (s.modHd n f) := .of_regs rfl rfl rfl rfl rfl rfl

theorem modLc (s : State) (n : Nat) (f : CellSt → CellSt) : ServoKept s (s.modLc n f) := .of_regs rfl rfl rfl rfl rfl rfl

theorem modPl (s : State) (a : Nat) (f : Pl → Pl) : ServoKept s (s.modPl a f) := .of_regs rfl rfl rfl rfl rfl rfl

theorem modPg (s : State) (c : Nat) (f : PgSt → PgSt) : ServoKept s (s.modPg c f) := .of_regs rfl rfl rfl rfl rfl rfl

theorem modSpin (s : State) (f : Spin → Spin) : ServoKept s (s.modSpin f) := .of_regs rfl rfl rfl rfl rfl rfl

theorem odKeep (s : State) (ix sub : Nat) (v : OdVal) : ServoKept s (s.odKeep ix sub v) := .of_regs rfl rfl rfl rfl rfl rfl

theorem rf {s t : State} (h : ServoKept s t) {f : Fld} {i j : Nat} (low : f.key i j < 0x621000 * 32) : t.rf f i j = s.rf f i j := by
  simp only [State.rf, tabGet, h.regs _ low]

theorem sv {s t : State} (h : ServoKept s t) (a : Nat) : t.sv a = s.sv a := by rw [State.sv, State.sv, h.servo]

theorem act {s t : State} (h : ServoKept s t) (a : Act) : t.act a.val = s.act a.val := h.rf (by simp only [Fld.key, VC_STATUS_STATE]; omega)

end ServoKept

theorem servoKept_cutWrite (s : State) (n : Nat) : ServoKept s (s.cutWrite n) := by
  unfold State.cutWrite
  extract_lets channel hit counted
  have count : ServoKept s counted := .ite (.wf (by decide) ..) (.refl s)
  exact .ite (count.trans (.modCh ..)) (.refl s)

theorem servoKept_cutRead (s : State) (n : Nat) : ServoKept s (s.cutRead n) := .ite (.modCh ..) (.refl s)

theorem servoKept_shutGates (s : State) (n : Nat) : ServoKept s (s.shutGates n) := (servoKept_cutWrite s n).trans (servoKept_cutRead _ n)

theorem servoKept_sqEvent (s : State) (n e : Nat) : ServoKept s (s.sqEvent n e) := .ite (.wf (by decide) ..) (.wf (by decide) ..)

theorem servoKept_inhibit (s : State) (bit : Nat) (x : Bool) (n : Nat) : ServoKept s (s.inhibit bit x n) :=
  .trans (t := s.wbit WR_STATUS_INHIBIT bit x n) (.wf (by decide) ..)
    (.ite ((servoKept_cutWrite _ n).trans (servoKept_sqEvent _ n evKILL)) (.refl _))

theorem servoKept_inhibits (s : State) (bit : Nat) (x : Bool) (ns : List Nat) : ServoKept s (s.inhibits bit x ns) :=
  .foldl (fun t n => servoKept_inhibit t bit x n) ns s

theorem servoKept_softOff (s : State) (ns : List Nat) : ServoKept s (s.softOff ns) := .foldl (fun t _ => .wf (by decide) t ..) ns s

/-! ### The clock head (R61, R83) -/

theorem servoKept_gateKill (s : State) (a : Nat) : ServoKept s (s.gateKill a) :=
  ((ServoKept.foldl servoKept_shutGates (chansOf a) s).trans (servoKept_inhibits _ inhTIMEBASE true _)).trans
    (.foldl (fun t n => servoKept_sqEvent t n evKILL) _ _)

theorem servoKept_truOff (s : State) (a : Nat) : ServoKept s (s.truOff a) :=
  .ite (.refl s) ((((servoKept_gateKill s a).trans (.modTr ..)).trans (.wf (by decide) ..)).trans (.modTr ..))

theorem flying_truOff (s : State) (a : Nat) : ((s.truOff a).tr a).flying = (s.tr a).flying := by
  unfold State.truOff
  split
  · rfl
  · rw [tr_modTr_same, State.setTru, tr_wf, tr_modTr_same]
    exact congrArg (fun t : Tab Tru => (tabGet .reset t a).flying) (killKept_gateKill s a).tru

theorem servoKept_loadTrims (s : State) (a : Nat) : ServoKept s (s.loadTrims a) := by
  refine .foldl (fun t h => ?_) _ s
  split
  · exact .ite (((ServoKept.wf (by decide) t ..).trans (.wf (by decide) ..)).trans (.wf (by decide) ..)) (.modHd ..)
  · exact .modHd ..

theorem servoKept_saveServo (s : State) (a : Nat) : ServoKept s (s.saveServo a) :=
  .trans (t := s.saveTrims a) (.foldl (fun t _ => .odKeep t ..) _ s)
    (.foldl (fun t _ => (ServoKept.foldl (fun u (_ : Nat × Int) => .odKeep u ..) _ t).trans (.modHd ..)) _ _)

/-! ### The spindle that goes on once the actuators rest (R279, R280) -/

theorem servoKept_inhibitAll (s : State) (bit : Nat) (x : Bool) : ServoKept s (s.inhibitAll bit x) := servoKept_inhibits ..

theorem servoKept_cellPreset (s : State) (n v : Nat) : ServoKept s (s.cellPreset n v) := .modLc ..

theorem servoKept_gainReq (s : State) (n g : Nat) : ServoKept s (s.gainReq n g) := .modLc ..

theorem servoKept_spGo (s : State) (m vd vq : Nat) : ServoKept s (s.spGo m vd vq) := by
  unfold State.spGo
  extract_lets old entered held preset gated iq spin seeded grouped zeroed referred
  have h1 : ServoKept s entered := .wf (by decide) ..
  have h2 : ServoKept entered held := .ite (.refl _) ((ServoKept.wf (by decide) entered ..).trans (servoKept_inhibitAll ..))
  have h3 : ServoKept held preset := .ite (.refl _) ((servoKept_cellPreset ..).trans (servoKept_cellPreset ..))
  have driven : ServoKept held ((preset.gainReq 36 (spGain m)).gainReq 37 (spGain m)) :=
    (h3.trans (servoKept_gainReq preset 36 _)).trans (servoKept_gainReq _ 37 _)
  have h4 : ServoKept held gated := .ite (.wf (by decide) ..) driven
  have h5 : ServoKept gated seeded :=
    .ite (.refl _) (.trans (t := gated.modSpin fun p => { p with g := iq }) (.modSpin ..) (.foldl (fun t n => servoKept_cellPreset t n iq) _ _))
  have h6 : ServoKept gated grouped := .ite (.refl _) (h5.trans (.foldl (fun t n => servoKept_gainReq t n (spGain m)) _ _))
  have h7 : ServoKept grouped zeroed := .modLc ..
  have h8 : ServoKept zeroed referred := .ite (.modLc ..) (.ite (.modLc ..) (.refl _))
  have h9 : ServoKept referred referred.spClear := .ite (servoKept_inhibitAll ..) (.refl _)
  exact (((((h1.trans h2).trans h4).trans h6).trans h7).trans h8).trans h9

theorem servoKept_spMode (s : State) (m : Nat) : ServoKept s (s.spMode m) := .ite (servoKept_spGo ..) (servoKept_spGo ..)

theorem servoKept_spZvBrake (s : State) (next : Nat) : ServoKept s (s.spZvBrake next) := (servoKept_spMode s spZV).trans (.modSpin ..)

theorem servoKept_pgBegin (s : State) (c : Nat) (target : Int) : ServoKept s (s.pgBegin c target) := .ite (.modPg ..) (.modPg ..)

theorem servoKept_spPlan (s : State) (rpm : Nat) : ServoKept s (s.spPlan rpm) := (ServoKept.modPg s 4 _).trans (servoKept_pgBegin ..)

theorem servoKept_spProceed (s : State) : ServoKept s s.spProceed := by
  unfold State.spProceed
  extract_lets halted shorted stopped
  have h1 : ServoKept s halted := .modSpin ..
  have h2 : ServoKept s shorted := .ite (.ite h1 (h1.trans (servoKept_spZvBrake ..))) (.refl s)
  have h3 : ServoKept s stopped := h2.trans (.modSpin ..)
  have braked : ServoKept s ((stopped.spMode spBRAKE).spPlan 0) := (h3.trans (servoKept_spMode ..)).trans (servoKept_spPlan ..)
  exact .ite (.refl s) (.ite (.ite braked (.ite (h3.trans (servoKept_spZvBrake ..)) (.ite (h3.trans (.modSpin ..)) h3))) h2)

/-! ### The registers of an actuator (R262) -/

theorem act_setAct {st : Nat} (state : st < 8) (s : State) (a : Nat) : (s.setAct a st).act a = st := (rf_wf_same ..).trans (Nat.mod_eq_of_lt state)

theorem act_modSv (s : State) (b a : Nat) (f : Servo → Servo) : (s.modSv b f).act a = s.act a := rfl

theorem act_modTr (s : State) (b a : Nat) (f : Tru → Tru) : (s.modTr b f).act a = s.act a := rfl

theorem act_wf_of_apart {f : Fld} (h : f.apart VC_STATUS_STATE = true) (s : State) (v i a : Nat) : (s.wf f v i).act a = s.act a := rf_wf_of_apart h ..

section
variable {s : State} {a : Nat}

theorem actLoaded_eq_true (loaded : s.act a ≠ 0 ∧ s.act a ≠ 7) : s.actLoaded a = true := by
  simp [State.actLoaded, acUNLOADED, acRETIRED, loaded]

theorem actLoaded_eq_false (resting : s.act a = 0 ∨ s.act a = 7) : s.actLoaded a = false := by
  rcases resting with state | state <;> simp [State.actLoaded, acUNLOADED, acRETIRED, state]

/-! ### The seek ends, no head is ready (R253) -/

/-- What a park or a retract leaves of the actuator's record. -/
def Servo.dropped (v : Servo) : Servo := { v with seek := none, queued := none, loadStep := 0, parkStep := 0, contrib := [] }

/-- Beside the record and VC_HEADS only the refusal of a queued request is told. -/
theorem dropSeek_eq (s : State) (a : Nat) : ∃ o, s.dropSeek a =
    ((({ s with out := o } : State).modSv a Servo.dropped).wf VC_HEADS_READ_RDY 0 a).wf VC_HEADS_WRITE_RDY 0 a := by
  unfold State.dropSeek
  cases (s.sv a).queued <;> exact ⟨_, rfl⟩

theorem sv_dropSeek (s : State) (a : Nat) : (s.dropSeek a).sv a = (s.sv a).dropped := by
  obtain ⟨o, dropped⟩ := dropSeek_eq s a
  rw [dropped, sv_wf, sv_wf, sv_modSv_same]
  rfl

theorem rf_dropSeek {f : Fld} (read : VC_HEADS_READ_RDY.apart f = true) (write : VC_HEADS_WRITE_RDY.apart f = true) (s : State) (a i : Nat) :
    (s.dropSeek a).rf f i = s.rf f i := by
  obtain ⟨o, dropped⟩ := dropSeek_eq s a
  rw [dropped, rf_wf_of_apart write, rf_wf_of_apart read]
  rfl

theorem heads_dropSeek (s : State) (a : Nat) : (s.dropSeek a).rf VC_HEADS_READ_RDY a = 0 ∧ (s.dropSeek a).rf VC_HEADS_WRITE_RDY a = 0 := by
  obtain ⟨o, dropped⟩ := dropSeek_eq s a
  rw [dropped, rf_wf_of_apart (by decide), rf_wf_same, rf_wf_same]
  exact ⟨rfl, rfl⟩

/-- A park and a retract leave the fault collection, the lanes and the channels to what follows. -/
theorem collectors_dropSeek (s : State) (a : Nat) : (s.dropSeek a).fc = s.fc ∧ (s.dropSeek a).lane = s.lane ∧ (s.dropSeek a).chan = s.chan := by
  obtain ⟨o, dropped⟩ := dropSeek_eq s a
  rw [dropped]
  exact ⟨rfl, rfl, rfl⟩

/-! ### Parking (R258) -/

theorem startPark_of_idle (idle : s.act a = 0 ∨ s.act a = 5 ∨ s.act a = 6 ∨ s.act a = 7) : s.startPark a = s := by
  refine if_neg ?_
  rcases idle with state | state | state | state <;> simp [State.actLoaded, acUNLOADED, acRETIRED, acUNLOADING, acRETRACT, state]

theorem startPark_of_follow (follow : s.act a = 4) : s.startPark a = ((s.dropSeek a).softOff (chansOf a)).setAct a acUNLOADING :=
  if_pos (by simp [State.actLoaded, acUNLOADED, acRETIRED, acUNLOADING, acRETRACT, follow])

end

theorem startPark_follow {s : State} {a : Act} (follow : s.act a.val = 4) : (s.startPark a.val).act a.val = 5
    ∧ (s.startPark a.val).rf VC_HEADS_READ_RDY a.val = 0 ∧ (s.startPark a.val).rf VC_HEADS_WRITE_RDY a.val = 0
    ∧ (s.startPark a.val).sv a.val = (s.sv a.val).dropped ∧ (s.startPark a.val).fc = s.fc ∧ (s.startPark a.val).lane = s.lane := by
  have held : ServoKept (s.dropSeek a.val) ((s.dropSeek a.val).softOff (chansOf a.val)) := servoKept_softOff ..
  obtain ⟨read, write⟩ := heads_dropSeek s a.val
  obtain ⟨fc, lane, -⟩ := collectors_dropSeek s a.val
  rw [startPark_of_follow follow]
  refine ⟨act_setAct (by decide) .., ?_, ?_, ?_, held.fc.trans fc, held.lane.trans lane⟩
  · rw [State.setAct, rf_wf_of_apart (by decide), held.rf (by simp only [Fld.key, VC_HEADS_READ_RDY]; omega), read]
  · rw [State.setAct, rf_wf_of_apart (by decide), held.rf (by simp only [Fld.key, VC_HEADS_WRITE_RDY]; omega), write]
  · rw [State.setAct, sv_wf, held.sv, sv_dropSeek]

/-! ### Retracting (R259) -/

section
variable {s : State} {a : Nat}

theorem startRetract_of_idle (idle : s.act a = 0 ∨ s.act a = 6 ∨ s.act a = 7) : s.startRetract a = s := by
  refine if_neg ?_
  rcases idle with state | state | state <;> simp [State.actLoaded, acUNLOADED, acRETIRED, acRETRACT, state]

/-- The write pairs of a half-stack go to electrical idle (R32, R259 step 1). -/
def State.cutHalf (s : State) (a : Nat) : State := (chansOf a).foldl (fun t n => t.cutWrite n) s

/-- An UP link is handed LINK_RESET ahead of all that waits. -/
def State.resetAsked (s : State) (a : Nat) : State :=
  if s.rf PL_STATUS_STATE a = 2 then s.modPl a (fun p => { p with queue := (0, { op := 0x0E, payload := [] }) :: p.queue }) else s

theorem startRetract_of_follow (follow : s.act a = 4) : s.startRetract a = (((((s.cutHalf a).resetAsked a).dropSeek a).modSv a
    (fun v => { v with retract := 1 })).setAct a acRETRACT).cnt VC_STATUS_RETRACTS a :=
  if_pos (by simp [State.actLoaded, acUNLOADED, acRETIRED, acRETRACT, follow])

theorem chan_resetAsked (s : State) (a : Nat) : (s.resetAsked a).chan = s.chan := by
  unfold State.resetAsked
  split <;> rfl

theorem servoKept_cutAsked (s : State) (a : Nat) : ServoKept s ((s.cutHalf a).resetAsked a) :=
  .trans (t := s.cutHalf a) (.foldl servoKept_cutWrite _ s) (.ite (.modPl ..) (.refl _))

theorem wgate_cutHalf {n : Nat} (mine : n / 8 = a) (s : State) : ((s.cutHalf a).ch n).wgate = false := by
  have member : n ∈ chansOf a := List.mem_map.2 ⟨n % 8, List.mem_range.2 (Nat.mod_lt _ (by decide)), by omega⟩
  exact KillKept.foldl_of_mem (P := fun t => (t.ch n).wgate = false) killKept_cutWrite (fun _ _ kept => kept.wgate n) (wgate_cutWrite · n) member s

end

theorem startRetract_follow {s : State} {a : Act} (follow : s.act a.val = 4) : (s.startRetract a.val).act a.val = 6
    ∧ ((s.startRetract a.val).sv a.val).retract = 1 ∧ ((s.startRetract a.val).sv a.val).seek = none
    ∧ (s.startRetract a.val).rf VC_STATUS_RETRACTS a.val = min (s.rf VC_STATUS_RETRACTS a.val + 1) (2 ^ VC_STATUS_RETRACTS.width - 1)
    ∧ ∀ n, n / 8 = a.val → ((s.startRetract a.val).ch n).wgate = false := by
  have kept := servoKept_cutAsked s a.val
  have dropped := sv_dropSeek ((s.cutHalf a.val).resetAsked a.val) a.val
  rw [startRetract_of_follow follow]
  refine ⟨?_, ?_, ?_, ?_, fun n mine => ?_⟩
  · rw [State.cnt, act_wf_of_apart (by decide), act_setAct (by decide)]
    rfl
  · rw [State.cnt, State.setAct, sv_wf, sv_wf, sv_modSv_same]
  · rw [State.cnt, State.setAct, sv_wf, sv_wf, sv_modSv_same, dropped]
    rfl
  · rw [rf_cnt_same, State.setAct, rf_wf_of_apart (by decide), rf_modSv, rf_dropSeek (by decide) (by decide),
      kept.rf (by simp only [Fld.key, VC_STATUS_RETRACTS]; omega)]
  · have chan : (((s.cutHalf a.val).resetAsked a.val).dropSeek a.val).chan = (s.cutHalf a.val).chan :=
      (collectors_dropSeek ((s.cutHalf a.val).resetAsked a.val) a.val).2.2.trans (chan_resetAsked (s.cutHalf a.val) a.val)
    rw [State.cnt, State.setAct, ch_wf, ch_wf, ch_modSv, State.ch, chan]
    exact wgate_cutHalf mine s

/-! ### At rest on the latch (R257 to R259) -/

/-- The record of an actuator at rest. -/
def Servo.rested (v : Servo) : Servo := { v with parkStep := 0, retract := 0, loadStep := 0, seek := none }

/-- The clock head stands on the ramp, and the TRU is OFF. -/
def State.landed (s : State) (a : Nat) : State := if (s.tr a).flying then (s.modTr a (fun t => { t with flying := false })).truOff a else s

/-- Landed with its trims saved, an actuator that a fault retires is RETIRED and any other UNLOADED. -/
def State.latched (s : State) (a : Nat) : State :=
  (((s.landed a).saveServo a).setAct a (if ((s.landed a).sv a).retireAt then acRETIRED else acUNLOADED)).modSv a Servo.rested

theorem actRest_eq (s : State) (a : Nat) : s.actRest a = (s.latched a).spProceed := rfl

theorem servoKept_landed (s : State) (a : Nat) : ServoKept s (s.landed a) := .ite ((ServoKept.modTr ..).trans (servoKept_truOff ..)) (.refl s)

theorem actRest_rested (s : State) (a : Act) : (s.actRest a.val).act a.val = (if (s.sv a.val).retireAt then acRETIRED else acUNLOADED)
    ∧ (s.actRest a.val).sv a.val = (s.sv a.val).rested ∧ (s.actRest a.val).fc = s.fc := by
  have landed : ServoKept s (s.landed a.val) := servoKept_landed s a.val
  have saved : ServoKept s ((s.landed a.val).saveServo a.val) := landed.trans (servoKept_saveServo ..)
  have proceeds : ServoKept (s.latched a.val) (s.latched a.val).spProceed := servoKept_spProceed _
  rw [actRest_eq, proceeds.act, proceeds.sv, proceeds.fc, State.latched, landed.sv]
  refine ⟨?_, ?_, ?_⟩
  · rw [act_modSv, act_setAct (by split <;> decide)]
  · rw [sv_modSv_same, State.setAct, sv_wf, saved.sv]
  · rw [fcF_modSv, State.setAct, fcF_wf, saved.fc]

/-! ### PARK_LATCHED and the end of a retract (R258 step 4, R259 step 4) -/

section
variable {s : State}

theorem parkLatched_of_notUnloading {a : Nat} (busy : s.act a ≠ 5) : s.parkLatched a = s := if_neg (busy ·.1)

/-- An actuator that is not on its second try to load stays at rest. -/
theorem parkLatched_of_rest {a : Act} (unloads : s.act a.val = 5) (ramp : (s.sv a.val).parkStep = 3) (last : (s.sv a.val).loadTries ≠ 1) :
    s.parkLatched a.val = s.actRest a.val := by
  have no_retry : ¬(((s.actRest a.val).sv a.val).loadTries = 1 ∧ (s.actRest a.val).act a.val = acUNLOADED) := by
    rw [(actRest_rested s a).2.1]
    exact (last ·.1)
  rw [State.parkLatched, if_pos ⟨unloads, ramp⟩, if_neg no_retry]

/-- The milliactuator cells of a half-stack are disabled. -/
def State.cellsOff (s : State) (a : Nat) : State :=
  (chansOf a).foldl (fun t n => t.modLc n (fun c => { c with live := false, ready := none, pend := none, greq := none })) s

theorem servoKept_cellsOff (s : State) (a : Nat) : ServoKept s (s.cellsOff a) := .foldl (fun t n => .modLc t n _) _ s

/-- The state in which a retract has come to its end: the milliactuators are off. -/
def State.retracted (s : State) (a : Nat) (fast : Bool) : State :=
  ((if fast then s.modSv a (fun v => { v with fast := true, retireAt := true }) else s).cellsOff a).wf MA_STATUS_ACTIVE 0 a

theorem retractEnd_of_latch {a : Nat} (retracts : s.act a = 6) (latch : (s.sv a).retract = 2) (fast : Bool) : s.retractEnd a fast =
    if fast then ((s.retracted a fast).actRest a).report (srcId MOT (5 + a) 9) a else (s.retracted a fast).actRest a :=
  if_pos ⟨retracts, latch⟩

theorem retracted_kept (s : State) (a : Nat) (fast : Bool) : (s.retracted a fast).fc = s.fc
    ∧ (s.retracted a fast).sv a = if fast then { s.sv a with fast := true, retireAt := true } else s.sv a := by
  rw [State.retracted, fcF_wf, sv_wf, (servoKept_cellsOff ..).fc, (servoKept_cellsOff ..).sv]
  cases fast with
  | false => exact ⟨rfl, rfl⟩
  | true => exact ⟨rfl, sv_modSv_same ..⟩

end

/-! ### Loading (R257) -/

section
variable {s : State} {a : Nat}

/-- A load begins: step 1 of R257. -/
def Servo.loading (v : Servo) : Servo := { v with loadStep := 1, parkStep := 0, seek := none, queued := none }

theorem startLoad_of_ready (rests : s.act a = 0) (present : s.hasAct a = true) (may : s.mayLoad a = true) (spins : s.spinOk = true)
    (powered : s.rbit WR_STATUS_INHIBIT 8 (8 * a) = false) : s.startLoad a = (s.modSv a Servo.loading).setAct a acLOADING :=
  if_pos (by simp [rests, present, may, spins, inhPFAIL, powered, acUNLOADED])

theorem vcLoad_of_ready (rests : s.act a = 0) (present : s.hasAct a = true) (may : s.mayLoad a = true) (spins : s.spinOk = true)
    (powered : s.rbit WR_STATUS_INHIBIT 8 (8 * a) = false) :
    s.vcLoad a = ((s.modSv a (fun v => { v with loadTries := 0 })).modSv a Servo.loading).setAct a acLOADING :=
  startLoad_of_ready (s := s.modSv a (fun v => { v with loadTries := 0 })) rests present may spins powered

theorem loadNext_of_notLoading (busy : s.act a ≠ 1) : s.loadNext a = s := if_pos busy

/-- The clock head flies with the saved trims (R83). -/
theorem loadNext_of_ramp (loads : s.act a = 1) (first : (s.sv a).loadStep = 1) : s.loadNext a =
    ((s.modSv a (fun v => { v with loadStep := 2 })).loadTrims a).modTr a (fun t => { t with flying := true, retired := false, failed := false }) := by
  have loading : ¬s.act a ≠ acLOADING := fun away => away loads
  simp only [State.loadNext, if_neg loading, first]

theorem mappedHeads_congr {t : State} (pa : t.pa = s.pa) : t.mappedHeads a = s.mappedHeads a := by
  unfold State.mappedHeads State.slotHead
  rw [pa]

/-- Step 3 of R257: the actuator passes to the gains of FOLLOW. -/
def State.flown (s : State) (a : Nat) : State := ((s.modSv a (fun v => { v with loadStep := 3 })).gainReq (vcCell a) 2).wf VC_STATUS_GSEL 2 a

theorem heater_of_down (down : s.plUp a = false) (head sel power : Nat) : s.heater a head sel power = s := by
  rw [State.heater, State.plSend, down, if_neg Bool.false_ne_true]

/-- The heads' heaters get the codes of their flexes (R257 step 3). -/
def State.heated (s : State) (a : Nat) : State :=
  (List.range 11).foldl (fun t h => t.heater a h 0 (heaterCode (t.flyRec a h).1 (t.flyRec a h).2.1 (t.flyRec a h).2.2.1)) s

theorem heated_of_down (down : s.plUp a = false) : s.heated a = s :=
  List.foldlRecOn (motive := (· = s)) (List.range 11) _ rfl fun _ same _ _ => same ▸ heater_of_down down ..

theorem loadNext_of_second (loads : s.act a = 1) (second : (s.sv a).loadStep = 2) : s.loadNext a =
    (((s.flown a).heated a).mappedHeads a).foldl (fun t x => t.slotMode a (chSlot x.2) 1) ((s.flown a).heated a) := by
  have loading : ¬s.act a ≠ acLOADING := fun away => away loads
  rw [State.loadNext, if_neg loading, second]
  rfl

/-- Over a link that is not UP, to an actuator without mapped heads, nothing is sent. -/
theorem loadNext_of_fly (loads : s.act a = 1) (second : (s.sv a).loadStep = 2) (unmapped : s.mappedHeads a = []) (down : s.rf PL_STATUS_STATE a ≠ 2) :
    s.loadNext a = s.flown a := by
  have still_down : (s.flown a).plUp a = false := by
    rw [State.plUp, State.flown, rf_wf_of_apart (by decide)]
    exact beq_false_of_ne down
  have no_slots : (s.flown a).mappedHeads a = [] := (mappedHeads_congr rfl).trans unmapped
  rw [loadNext_of_second loads second, heated_of_down still_down, no_slots, List.foldl_nil]

theorem loadFail_of_notLoading (busy : s.act a ≠ 1) : s.loadFail a = s := if_pos (.inl busy)

/-- The record after a first failed load: the heads are on their way back to the latch, from where the load is tried again. -/
def Servo.loadFailed (v : Servo) : Servo := { v with loadStep := 0, loadTries := v.loadTries + 1, parkStep := 3 }

/-- The clock head of a failed load goes back to the ramp: it does not fly, its TRU is OFF, and the failure is counted (R366). -/
def State.grounded (s : State) (a : Nat) : State := ((s.modTr a (fun t => { t with flying := false })).truOff a).lifeCount 3

theorem servoKept_grounded (s : State) (a : Nat) : ServoKept s (s.grounded a) :=
  ((ServoKept.modTr ..).trans (servoKept_truOff ..)).trans (.of_regs rfl rfl rfl rfl rfl rfl)

theorem flying_grounded (s : State) (a : Nat) : ((s.grounded a).tr a).flying = false := by
  have life (t : State) : (t.lifeCount 3).tr a = t.tr a := rfl
  rw [State.grounded, life, flying_truOff, tr_modTr_same]

/-- The first failed load is not reported. -/
theorem loadFail_of_first (loads : s.act a = 1) (early : (s.sv a).loadStep < 3) (first : (s.sv a).loadTries = 0) : s.loadFail a =
    ((((s.grounded a).modSv a Servo.loadFailed).setAct a acUNLOADING).gainReq (vcCell a) 3).wf VC_STATUS_GSEL 3 a := by
  have fails : ¬(s.act a ≠ acLOADING ∨ 3 ≤ (s.sv a).loadStep) := by
    rw [loads]
    exact not_or.2 ⟨fun away => away rfl, Nat.not_le.2 early⟩
  simp only [State.loadFail, if_neg fails, first, decide_true, Bool.not_true, Bool.or_false, if_true]
  rfl

theorem loadFail_first (loads : s.act a = 1) (early : (s.sv a).loadStep < 3) (first : (s.sv a).loadTries = 0) : (s.loadFail a).act a = 5
    ∧ (s.loadFail a).sv a = (s.sv a).loadFailed ∧ (s.loadFail a).fc = s.fc ∧ ((s.loadFail a).tr a).flying = false := by
  have grounded : ServoKept s (s.grounded a) := servoKept_grounded s a
  rw [loadFail_of_first loads early first, State.gainReq, State.setAct]
  refine ⟨?_, ?_, ?_, ?_⟩
  · rw [act_wf_of_apart (by decide)]
    exact act_setAct (by decide) ..
  · rw [sv_wf, sv_modLc, sv_wf, sv_modSv_same, grounded.sv]
  · rw [fcF_wf, fcF_modLc, fcF_wf, fcF_modSv, grounded.fc]
  · rw [tr_wf, tr_modLc, tr_wf, tr_modSv, flying_grounded]

end

/-- Settles O27, command by command; source 34 of the park limit is a number of the model's own (log 28). -/
theorem loadParkAndRetract : Obligations.LoadParkAndRetract := by
  intro s a
  refine ⟨fun rests present may spins powered => ⟨_, congrArg Host.Outcome.next (vcLoad_of_ready rests present may spins powered), ?load⟩,
    fun loads first => ⟨_, congrArg Host.Outcome.next (loadNext_of_ramp loads first), ?ramp⟩,
    fun loads second unmapped down => congrArg Host.Outcome.next (loadNext_of_fly loads second unmapped down),
    fun busy => ⟨congrArg Host.Outcome.next (loadNext_of_notLoading busy), congrArg Host.Outcome.next (loadFail_of_notLoading busy)⟩,
    fun loads step first => ⟨_, rfl, ?fail⟩, fun follow => ⟨_, rfl, ?park⟩, fun follow => ⟨_, rfl, ?retract⟩,
    fun idle => ⟨congrArg Host.Outcome.next (startRetract_of_idle idle), congrArg Host.Outcome.next (startPark_of_idle ?unload)⟩,
    fun busy => ⟨congrArg Host.Outcome.next (parkLatched_of_notUnloading busy), congrArg Host.Outcome.next (if_neg busy)⟩,
    fun unloads ramp retire last _ => ⟨_, congrArg Host.Outcome.next (parkLatched_of_rest unloads ramp last), ?latched⟩,
    fun unloads => congrArg Host.Outcome.next (if_pos unloads), fun retracts first => congrArg Host.Outcome.next (if_pos ⟨retracts, first⟩),
    fun retracts latch retire _ => ⟨⟨_, congrArg Host.Outcome.next (retractEnd_of_latch retracts latch false), ?slow⟩,
      ⟨_, congrArg Host.Outcome.next (retractEnd_of_latch retracts latch true), ?fast⟩⟩,
    fun rests => congrArg Host.Outcome.next (if_neg ?rests), fun follow => congrArg Host.Outcome.next (if_pos ?follows)⟩
  case load =>
    have record : ((((s.modSv a.val (fun v => { v with loadTries := 0 })).modSv a.val Servo.loading).setAct a.val acLOADING).sv a.val) =
        ({ s.sv a.val with loadTries := 0 } : Servo).loading := by
      rw [State.setAct, sv_wf, sv_modSv_same, sv_modSv_same]
    rw [record]
    exact ⟨act_setAct (by decide) .., rfl, rfl, rfl, rfl⟩
  case ramp =>
    have trims : ServoKept (s.modSv a.val (fun v => { v with loadStep := 2 })) ((s.modSv a.val (fun v => { v with loadStep := 2 })).loadTrims a.val) :=
      servoKept_loadTrims ..
    rw [sv_modTr, trims.sv, sv_modSv_same, tr_modTr_same, act_modTr, trims.act, act_modSv]
    exact ⟨rfl, rfl, rfl, loads⟩
  case fail =>
    obtain ⟨act, record, fc, ramp⟩ := loadFail_first loads (by omega) first
    rw [record]
    exact ⟨act, by rw [Servo.loadFailed, first], rfl, rfl, fc, ramp⟩
  case park =>
    obtain ⟨act, read, write, record, fc, lane⟩ := startPark_follow follow
    rw [record]
    exact ⟨act, read, write, rfl, rfl, fc, lane⟩
  case retract => exact startRetract_follow follow
  case unload => exact idle.imp_right .inr
  case latched =>
    obtain ⟨act, record, fc⟩ := actRest_rested s a
    rw [act, record, if_pos retire]
    exact ⟨rfl, rfl, fc⟩
  case slow =>
    obtain ⟨act, record, fc⟩ := actRest_rested (s.retracted a.val false) a
    obtain ⟨still_fc, still⟩ := retracted_kept s a.val false
    rw [if_neg Bool.false_ne_true, act, record, fc, still, still_fc, if_neg Bool.false_ne_true, retire]
    exact ⟨rfl, rfl, rfl⟩
  case fast =>
    obtain ⟨act, record, -⟩ := actRest_rested (s.retracted a.val true) a
    rw [act, record, (retracted_kept s a.val true).2]
    exact ⟨rfl, rfl⟩
  case rests => simp [actLoaded_eq_false (.inl rests)]
  case follows => exact actLoaded_eq_true (by rw [follow]; decide)

end Sys2Proof.Machine
end

section
/-! Seeks, samples, head jogs and shock (R245 to R256, R262), each command by the state of the actuator it finds. -/

namespace Sys2Proof.Machine
open Sys2Proof

/-! ### Requests (R250, R253, R262) -/

section
variable {s : State} {a : Nat}

/-- The request is the queued one. -/
def State.seekQueued (s : State) (a cyl mask writes : Nat) : State :=
  s.modSv a (fun v => { v with queued := some (cyl, (List.range 11).filter (bitOf mask), (List.range 11).filter (bitOf writes)) })

/-- A request to an actuator that the part has, by the actuator's state. -/
theorem seekReq_of_present (present : s.hasAct a = true) (cyl mask writes : Nat) : s.seekReq a cyl mask writes =
    if s.act a = 2 ∨ s.act a = 1 then s.seekQueued a cyl mask writes
    else if s.act a = 3 ∨ s.act a = 4 then s.seekBegin a cyl mask writes false
    else s.emit (.note "seek refused" a cyl) := by
  simp only [State.seekReq, present, Bool.not_true, Bool.false_eq_true, if_false]
  rfl

theorem seekReq_of_busy (present : s.hasAct a = true) (busy : s.act a = 2 ∨ s.act a = 1) (cyl mask writes : Nat) :
    s.seekReq a cyl mask writes = s.seekQueued a cyl mask writes := by
  rw [seekReq_of_present present, if_pos busy]

theorem seekReq_of_ready (present : s.hasAct a = true) (ready : s.act a = 3 ∨ s.act a = 4) (cyl mask writes : Nat) :
    s.seekReq a cyl mask writes = s.seekBegin a cyl mask writes false := by
  rw [seekReq_of_present present, if_neg (by omega), if_pos ready]

theorem seekReq_of_unready (present : s.hasAct a = true) (unready : s.act a = 0 ∨ s.act a = 5 ∨ s.act a = 6 ∨ s.act a = 7) (cyl mask writes : Nat) :
    s.seekReq a cyl mask writes = s.emit (.note "seek refused" a cyl) := by
  rw [seekReq_of_present present, if_neg (by omega), if_neg (by omega)]

theorem vcTarget_of_notTest (mode : s.mode ≠ modeTest) (cyl : Nat) {b : Act} : s.vcTarget b.val cyl = s.wf VC_TARGET_CYL cyl b.val := by
  have still : (s.wf VC_TARGET_CYL cyl b.val).mode = s.mode :=
    rf_wf_ne _ _ _ _ _ _ _ _ (by simp only [Fld.key, SYS_MODE_MODE, VC_TARGET_CYL]; omega)
  exact if_neg (still ▸ mode)

/-! ### A seek without heads (R250, R251) -/

/-- Where no slot maps a head, no head has a channel. -/
theorem headChan_of_unmapped (unmapped : s.mappedHeads a = []) {h : Nat} (head : h < 11) : s.headChan a h = none := by
  refine List.find?_eq_none.2 fun n mine => ?_
  have empty : s.slotHead n = 0xF := by simpa using List.filterMap_eq_nil_iff.1 unmapped n mine
  simp only [empty, beq_iff_eq]
  omega

theorem seekSet_of_unmapped (unmapped : s.mappedHeads a = []) (z mask writes : Nat) : s.seekSet a z mask writes = [] := by
  refine List.foldlRecOn (motive := (· = [])) (List.range 11) _ rfl fun _ none h head => ?_
  subst none
  simp only [headChan_of_unmapped unmapped (List.mem_range.1 head), ite_self]

theorem seekZone_of_unmapped (unmapped : s.mappedHeads a = []) (z : Nat) : s.seekZone a z = s := by rw [State.seekZone, unmapped, List.foldl_nil]

/-- A seek to a cylinder that moves no head. -/
def Seek.bare (cyl writes : Nat) (again : Bool) : Seek :=
  { cyl := cyl, heads := [], writes := (List.range 11).filter (bitOf writes), anchor := cyl * 8192, step := 1, good := 0, repeated := again }

/-- The actuator alone seeks, to anchor register x: every head asked for is left out. -/
def State.bareSeek (s : State) (a cyl mask writes : Nat) (again : Bool) (x : Nat) : State :=
  ((((s.setAct a acSEEK).wf VC_HEADS_READ_RDY 0 a).wf VC_HEADS_WRITE_RDY 0 a).wf VC_ANCHOR_X x a).modSv a
    (fun v => { v with refused := (List.range 11).filter (bitOf mask), seek := some (.bare cyl writes again) })

/-- Beside the seek itself only the heads left out are told. -/
theorem seekBegin_of_unmapped (unmapped : s.mappedHeads a = []) (cyl mask writes : Nat) (again : Bool) :
    ∃ (x : Nat) (told : Option Out), s.seekBegin a cyl mask writes again =
      told.elim (s.bareSeek a cyl mask writes again x) (s.bareSeek a cyl mask writes again x).emit := by
  have mid : midSum [] = 0 := rfl
  simp only [State.seekBegin, seekSet_of_unmapped unmapped, List.map_nil, List.filterMap_nil, List.foldl_nil, List.any_nil, Bool.not_false, Bool.and_true,
    mid, Int.sub_zero, State.softOff]
  rw [seekZone_of_unmapped]
  · split
    · exact ⟨_, none, rfl⟩
    · exact ⟨_, some _, rfl⟩
  · refine (mappedHeads_congr ?_).trans unmapped
    split <;> rfl

/-- What such a seek leaves in the registers and the record of the actuator. -/
theorem seekBegin_unmapped (unmapped : s.mappedHeads a = []) (cyl mask writes : Nat) (again : Bool) : (s.seekBegin a cyl mask writes again).act a = 2
    ∧ (s.seekBegin a cyl mask writes again).rf VC_HEADS_READ_RDY a = 0 ∧ (s.seekBegin a cyl mask writes again).rf VC_HEADS_WRITE_RDY a = 0
    ∧ ((s.seekBegin a cyl mask writes again).sv a).seek = some (.bare cyl writes again)
    ∧ ((s.seekBegin a cyl mask writes again).sv a).refused = (List.range 11).filter (bitOf mask) := by
  obtain ⟨x, told, begun⟩ := seekBegin_of_unmapped unmapped cyl mask writes again
  have regs (f : Fld) : (s.seekBegin a cyl mask writes again).rf f a = (s.bareSeek a cyl mask writes again x).rf f a := by
    rw [begun]
    cases told <;> rfl
  have record : (s.seekBegin a cyl mask writes again).sv a = (s.bareSeek a cyl mask writes again x).sv a := by
    rw [begun]
    cases told <;> rfl
  rw [State.act, regs, regs, regs, record, State.bareSeek, sv_modSv_same]
  refine ⟨?_, ?_, ?_, rfl, rfl⟩
  · rw [rf_modSv, rf_wf_of_apart (by decide), rf_wf_of_apart (by decide), rf_wf_of_apart (by decide)]
    exact act_setAct (by decide) ..
  · rw [rf_modSv, rf_wf_of_apart (by decide), rf_wf_of_apart (by decide), rf_wf_same]
    rfl
  · rw [rf_modSv, rf_wf_of_apart (by decide), rf_wf_same]
    rfl

/-! ### SETTLE_TIMEOUT (R251 step 7, R260) -/

theorem settleTimeout_of_noSeek (none : (s.sv a).seek = none) : s.settleTimeout a = s := by rw [State.settleTimeout, none]

theorem settleTimeout_of_repeated {k : Seek} (seek : (s.sv a).seek = some k) (settles : s.act a = 3) (second : k.repeated = true) :
    s.settleTimeout a = (s.startPark a).report (srcId MOT (5 + a) 7) a := by
  have seeking : ¬(s.act a ≠ acSEEK ∧ s.act a ≠ acSETTLE) := fun away => away.2 settles
  simp only [State.settleTimeout, seek, if_neg seeking, second, if_true]

theorem settleTimeout_of_first {k : Seek} (seek : (s.sv a).seek = some k) (settles : s.act a = 3) (first : k.repeated = false) : s.settleTimeout a =
    ((s.cnt VC_STATUS_SEEK_FAIL a).report (srcId MOT (5 + a) 34) a).seekBegin a k.cyl (maskOf (k.heads.map Prod.fst)) (maskOf k.writes) true := by
  have seeking : ¬(s.act a ≠ acSEEK ∧ s.act a ≠ acSETTLE) := fun away => away.2 settles
  simp only [State.settleTimeout, seek, if_neg seeking, first, Bool.false_eq_true, if_false]

end

/-! ### VCM_SAMPLE of an unloaded actuator (R245, R248) -/

theorem sext_utrunc {i : Int} (low : -32768 ≤ i) (high : i ≤ 32767) : sext 16 (utrunc 16 i % 2 ^ 16) = i := by
  change (if (i % 65536).toNat % 65536 % 65536 < 32768 then (((i % 65536).toNat % 65536 % 65536 : Nat) : Int)
    else (((i % 65536).toNat % 65536 % 65536 : Nat) : Int) - 65536) = i
  split <;> omega

section
variable {s : State} {a : Nat}

/-- A wedge period begins on an even frame (R39, R260). -/
def State.wedgeTurn (s : State) (a : Nat) : State := if sampleFrame (s.tr a).sample % 2 = 0 then s.wedgePeriod a else s

/-- The measured current is shown, saturated to 16 bits. -/
def State.currentShown (s : State) (a : Nat) (i : Int) : State := s.wf VC_CURRENT_I_MEAS (utrunc 16 (max (-32768) (min 32767 i))) a

/-- The measured current and the sample of the frame are taken. -/
def State.sampled (s : State) (a : Nat) (i : Int) : State := ((s.currentShown a i).nextSample a).wedgeTurn a

theorem nextSample_kept (s : State) (a : Nat) : (s.nextSample a).regs = s.regs ∧ (s.nextSample a).cell = s.cell ∧ (s.nextSample a).fc = s.fc := by
  unfold State.nextSample
  split <;> exact ⟨rfl, rfl, rfl⟩

theorem wedgeTurn_kept (s : State) (a : Nat) : (s.wedgeTurn a).regs = s.regs ∧ (s.wedgeTurn a).cell = s.cell ∧ (s.wedgeTurn a).fc = s.fc := by
  unfold State.wedgeTurn
  split <;> exact ⟨rfl, rfl, rfl⟩

theorem sampled_kept (s : State) (a : Nat) (i : Int) :
    (s.sampled a i).regs = (s.currentShown a i).regs ∧ (s.sampled a i).cell = s.cell ∧ (s.sampled a i).fc = s.fc := by
  obtain ⟨regs, cell, fc⟩ := nextSample_kept (s.currentShown a i) a
  obtain ⟨turn_regs, turn_cell, turn_fc⟩ := wedgeTurn_kept ((s.currentShown a i).nextSample a) a
  exact ⟨turn_regs.trans regs, turn_cell.trans cell, turn_fc.trans fc⟩

theorem act_sampled (s : State) (a : Nat) (i : Int) : (s.sampled a i).act a = s.act a := by
  rw [State.act, State.rf, (sampled_kept s a i).1]
  exact rf_wf_of_apart (by decide) ..

/-- With the heads on the ramp the sample goes no further. -/
theorem vcmSample_of_unloaded {a : Act} (rests : s.act a.val = 0) (powered : s.rbit WR_STATUS_INHIBIT 8 (8 * a.val) = false) (d : Nat) (i : Int) :
    s.vcmSample a.val d i = (s.sampled a.val i).modSv a.val (fun v => { v with contrib := [] }) := by
  have still_powered : (s.sampled a.val i).rbit WR_STATUS_INHIBIT inhPFAIL (8 * a.val) = false := by
    have causes : (s.sampled a.val i).rf WR_STATUS_INHIBIT (8 * a.val) = s.rf WR_STATUS_INHIBIT (8 * a.val) := by
      rw [State.rf, (sampled_kept s a.val i).1]
      exact rf_wf_of_apart (by decide) ..
    rw [State.rbit, causes]
    exact powered
  have unloaded : (s.sampled a.val i).actLoaded a.val = false := actLoaded_eq_false (.inl ((act_sampled ..).trans rests))
  unfold State.vcmSample
  extract_lets told sampled retracted
  have same : retracted = s.sampled a.val i := if_neg (by
    change ¬((s.sampled a.val i).rbit WR_STATUS_INHIBIT inhPFAIL (8 * a.val) && _) = true
    simp [still_powered])
  rw [same]
  exact if_pos (by simp [unloaded])

theorem current_sampled {i : Int} (low : -32768 ≤ i) (high : i ≤ 32767) : sext 16 ((s.sampled a i).rf VC_CURRENT_I_MEAS a) = i := by
  have within : max (-32768) (min 32767 i) = i := by omega
  rw [State.rf, (sampled_kept s a i).1, ← State.rf, State.currentShown, rf_wf_same, within]
  exact sext_utrunc low high

end

/-! ### HEAD_JOG (R252) -/

section
variable {s : State} {a h : Nat}

theorem headJog_of_unmapped (unmapped : s.headChan a h = none) (w : Bool) : s.headJog a h w = s := by rw [State.headJog, unmapped]

/-- Heads no slot maps any more leave milliactuator control. -/
def State.unmappedReleased (s : State) (a : Nat) : State :=
  (List.range 11).foldl (fun t j => if (t.headChan a j).isSome then t else t.wbit MA_STATUS_ACTIVE j false a) s

theorem unmappedReleased_within (s : State) (a : Nat) : RegsWithin (· = MA_STATUS_ACTIVE.key a 0) s (s.unmappedReleased a) :=
  List.foldlRecOn (motive := RegsWithin (· = MA_STATUS_ACTIVE.key a 0) s) (List.range 11) _ (.refl ..) fun t kept j _ =>
    kept.trans (.ite (.refl ..) (regsWithin_wf t MA_STATUS_ACTIVE (setBit (t.rf MA_STATUS_ACTIVE a) j false) a 0))

theorem act_unmappedReleased (s : State) (a : Nat) : (s.unmappedReleased a).act a = s.act a :=
  rf_congr (p := (VC_STATUS_STATE, a, 0)) ((unmappedReleased_within s a).other _ (by simp only [fieldKey, Fld.key, VC_STATUS_STATE, MA_STATUS_ACTIVE]; omega))

/-- REACH and the offsets of a head follow from the dictionary and the modules, not from the registers. -/
theorem reach_unmappedReleased (s : State) (a : Nat) :
    (s.unmappedReleased a).inReach = s.inReach ∧ (s.unmappedReleased a).seekO = s.seekO := by
  have reach (t : State) (r : Tab Nat) : ({ t with regs := r } : State).inReach = t.inReach := rfl
  have offset (t : State) (r : Tab Nat) : ({ t with regs := r } : State).seekO = t.seekO := rfl
  have frame := (unmappedReleased_within s a).frame
  rw [← reach _ s.regs, ← offset _ s.regs, frame]
  exact ⟨rfl, rfl⟩

/-- The head's cell is asked for the gains of a seek, with displacement 0 (R252, R247). -/
def HeadSt.jogging (w : Bool) (y : HeadSt) : HeadSt := { y with disp := 0, writing := w, readRun := 0, writeRun := 0, badRun := 0 }

/-- Head h on channel n begins its jog alone; k is the seek it is part of. -/
def State.jogged (s : State) (a h n : Nat) (w : Bool) (k : Seek) : State :=
  ((((((s.inhibit inhOFFTRACK true n).wbit VC_HEADS_READ_RDY h false a).wbit VC_HEADS_WRITE_RDY h false a).modSv a
    (fun v => { v with seek := some k })).wbit MA_STATUS_ACTIVE h true a).modHd (headIx a h) (HeadSt.jogging w)).gainReq n 0

/-- A head whose radial offset is not known jogs to the anchor. -/
theorem headJog_of_unknown {n : Nat} {k : Seek} {w : Bool} (mapped : s.headChan a h = some n) (seek : (s.sv a).seek = some k) (follows : s.act a = 4)
    (unknown : s.seekO a h ((s.zoneOf k.cyl).getD 39) w = none) (reach : s.inReach n 0 = true) :
    ∃ j, s.headJog a h w = (s.unmappedReleased a).jogged a h n w j := by
  have following : ¬s.act a ≠ acFOLLOW := fun away => away follows
  obtain ⟨same_reach, same_offset⟩ := reach_unmappedReleased s a
  have offset : (s.unmappedReleased a).seekO a h ((s.zoneOf k.cyl).getD 39) w = none := by rw [same_offset, unknown]
  have near : (s.unmappedReleased a).inReach n 0 = true := by rw [same_reach, reach]
  rw [State.unmappedReleased] at offset near
  simp only [State.headJog, mapped, seek, if_neg following, offset, near, if_true]
  exact ⟨_, rfl⟩

end

/-- What a jog begun leaves of the actuator, the head and its cell. -/
theorem jogged_state (s : State) (a : Act) (h : Fin 11) (n : Nat) (w : Bool) (k : Seek) :
    ((s.jogged a.val h.val n w k).hd (11 * a.val + h.val)).disp = 0 ∧ ((s.jogged a.val h.val n w k).hd (11 * a.val + h.val)).writing = w
    ∧ ((s.jogged a.val h.val n w k).lc n).greq = some 0 ∧ (s.jogged a.val h.val n w k).act a.val = s.act a.val
    ∧ (s.jogged a.val h.val n w k).rbit VC_HEADS_READ_RDY h.val a.val = false := by
  have held : ServoKept s (s.inhibit inhOFFTRACK true n) := servoKept_inhibit ..
  have head (t : State) : (t.modHd (headIx a.val h.val) (HeadSt.jogging w)).hd (11 * a.val + h.val) = (t.hd (headIx a.val h.val)).jogging w :=
    hd_modHd_same ..
  rw [State.jogged, State.gainReq, hd_modLc, head, lc_modLc_same]
  refine ⟨rfl, rfl, rfl, ?_, ?_⟩
  · rw [State.act, rf_modLc, rf_modHd, State.wbit, rf_wf_of_apart (by decide), rf_modSv, State.wbit, rf_wf_of_apart (by decide), State.wbit,
      rf_wf_of_apart (by decide)]
    exact held.act a
  · rw [State.rbit, rf_modLc, rf_modHd, State.wbit, rf_wf_of_apart (by decide), rf_modSv, State.wbit, rf_wf_of_apart (by decide), ← State.rbit,
      rbit_wbit h.isLt]

/-! ### Shock (R255, R256) -/

section
variable {s : State}

theorem nChan_le (s : State) : s.nChan ≤ 32 := by
  rw [State.nChan, State.nAct]
  split <;> decide

/-- The shock is held, counted and shown, and stops writing on every channel. -/
def State.shockSet (s : State) (axis : Nat) : State :=
  (((({ s with shockHeld := true } : State).wbit SK_STATUS_ACTIVE axis true).cnt SK_STATUS_COUNT).inhibitAll inhSHOCK true)

/-- The channels are told (R205). -/
def State.shockTold (s : State) (axis : Nat) : State := (s.shockSet axis).allChans.foldl (fun t n => t.sqEvent n evSHOCK) (s.shockSet axis)

theorem servoKept_shockTold (s : State) (axis : Nat) :
    ServoKept ((({ s with shockHeld := true } : State).wbit SK_STATUS_ACTIVE axis true).cnt SK_STATUS_COUNT) (s.shockTold axis) :=
  (servoKept_inhibitAll _ inhSHOCK true).trans (.foldl (fun t n => servoKept_sqEvent t n evSHOCK) _ (s.shockSet axis))

theorem act_shockTold (s : State) (axis : Nat) (a : Act) : (s.shockTold axis).act a.val = s.act a.val := by
  have apart (f : Fld) (shock : f.base = 0x620004) : VC_STATUS_STATE.key a.val 0 ≠ f.key 0 0 := by
    simp only [Fld.key, VC_STATUS_STATE, shock]
    omega
  rw [(servoKept_shockTold s axis).act, State.act, State.cnt, rf_wf_ne _ _ _ _ _ _ _ _ (apart _ rfl), State.wbit, rf_wf_ne _ _ _ _ _ _ _ _ (apart _ rfl)]
  rfl

/-- Where no actuator follows, OFFTRACK is set on no head (R254). -/
theorem shockOn_of_noFollow (none_follows : ∀ b, b < 4 → s.act b ≠ 4) (axis : Nat) :
    s.shockOn axis = (s.shockTold axis).report (srcId MOT 13 0) axis := by
  have off_track : (s.shockTold axis).allChans.foldl (fun t n => if t.act (chAct n) = acFOLLOW then t.offTrack n else t) (s.shockTold axis) =
      s.shockTold axis := by
    refine List.foldlRecOn (motive := (· = s.shockTold axis)) _ _ rfl fun t same n mine => ?_
    have channel : n < 32 := Nat.lt_of_lt_of_le (List.mem_range.1 mine) (nChan_le _)
    have actuator : chAct n < 4 := by
      rw [chAct]
      omega
    have away : (s.shockTold axis).act (chAct n) ≠ acFOLLOW := by
      rw [act_shockTold s axis ⟨chAct n, actuator⟩]
      exact none_follows _ actuator
    rw [same, if_neg away]
  exact congrArg (fun t : State => t.report (srcId MOT 13 0) axis) off_track

theorem active_shockTold (s : State) (axis : Fin 3) : (s.shockTold axis.val).rbit SK_STATUS_ACTIVE axis.val = true := by
  have kept := servoKept_shockTold s axis.val
  rw [State.rbit, kept.rf (by decide), State.cnt, rf_wf_ne _ SK_STATUS_COUNT SK_STATUS_ACTIVE _ 0 0 0 0 (by decide), ← State.rbit, rbit_wbit axis.isLt]

theorem cause_shockTold (s : State) (axis : Nat) {n : Nat} (mine : n < s.nChan) : (s.shockTold axis).rbit WR_STATUS_INHIBIT inhSHOCK n = true := by
  have told : (s.shockTold axis).rf WR_STATUS_INHIBIT n = (s.shockSet axis).rf WR_STATUS_INHIBIT n :=
    List.foldlRecOn (motive := fun t : State => t.rf WR_STATUS_INHIBIT n = (s.shockSet axis).rf WR_STATUS_INHIBIT n) _ _ rfl
      fun t same m _ => (causes_sqEvent t m n evSHOCK).trans same
  rw [State.rbit, told, ← State.rbit, State.shockSet, cause_inhibitAll (by decide)]
  exact if_pos ⟨mine, rfl⟩

theorem execSkHoldExpiry_of_calm (quiet : s.rf SK_STATUS_ACTIVE = 0) (unstuck : s.rf IF_STATUS_STUCK = 0) (calm : s.rf IF_STATUS_CHATTER = 0) :
    execSkHoldExpiry s = .next (({ s with shockHeld := false } : State).inhibitAll inhSHOCK false) :=
  if_pos ⟨quiet, by rw [unstuck], by rw [calm]⟩

end

/-- Settles O26, command by command; source 34 of a repeated seek is a number of the model's own (log 28). -/
theorem seeksSettleAndFollow : Obligations.SeeksSettleAndFollow := by
  intro s a
  refine ⟨fun c m w present busy => congrArg Host.Outcome.next (seekReq_of_busy present busy ..),
    fun c m w present ready unmapped => ⟨_, congrArg Host.Outcome.next (seekReq_of_ready present ready ..), ?seek⟩,
    fun c m w present unready => congrArg Host.Outcome.next (seekReq_of_unready present unready ..),
    fun c mode => congrArg Host.Outcome.next (vcTarget_of_notTest mode c.toNat),
    fun none => congrArg Host.Outcome.next (settleTimeout_of_noSeek none),
    fun k seek settles second => congrArg Host.Outcome.next (settleTimeout_of_repeated seek settles second),
    fun k seek settles first => congrArg Host.Outcome.next (settleTimeout_of_first seek settles first),
    fun d i rests powered low high => ⟨_, congrArg Host.Outcome.next (vcmSample_of_unloaded rests powered d i), ?sample⟩,
    fun h w unmapped => congrArg Host.Outcome.next (headJog_of_unmapped unmapped w),
    fun h w n k mapped seek follows _ unknown reach => ?jog,
    fun x none_follows => ⟨s.shockTold x.val, congrArg Host.Outcome.next (shockOn_of_noFollow none_follows x.val), (servoKept_shockTold s x.val).shockHeld,
      active_shockTold s x, fun n mine => cause_shockTold s x.val mine⟩,
    fun quiet unstuck calm => ⟨_, execSkHoldExpiry_of_calm quiet unstuck calm, (servoKept_inhibitAll ..).shockHeld, fun n mine => ?clear⟩,
    fun active => if_neg fun calm => active calm.1⟩
  case seek =>
    obtain ⟨act, read, write, record, refused⟩ := seekBegin_unmapped unmapped c.toNat m.toNat w.toNat false
    exact ⟨act, read, write, ⟨_, record, rfl, rfl, rfl, rfl⟩, refused⟩
  case sample =>
    obtain ⟨-, cell, fc⟩ := sampled_kept s a.val i
    rw [rf_modSv, current_sampled low high, sv_modSv_same, act_modSv, act_sampled, rests]
    exact ⟨rfl, rfl, rfl, cell, fc⟩
  case jog =>
    obtain ⟨j, jog⟩ := headJog_of_unknown mapped seek follows unknown reach
    obtain ⟨disp, writing, gains, act, ready⟩ := jogged_state (s.unmappedReleased a.val) a h n w j
    exact ⟨_, congrArg Host.Outcome.next jog, disp, writing, gains, act.trans ((act_unmappedReleased s a.val).trans follows), ready⟩
  case clear =>
    rw [cause_inhibitAll (by decide)]
    exact if_pos ⟨mine, rfl⟩

end Sys2Proof.Machine
end

section
/-! What leaves the spindle alone, and what a change of its mode brings about (R267, R268, R272). -/

namespace Sys2Proof.Machine
open Sys2Proof

/-! ### What lies outside the spindle -/

/-- A field of the spindle's registers. -/
def Fld.ofSpindle (f : Fld) : Bool := decide (0x621000 ≤ f.base ∧ f.base < 0x622000 ∧ f.lo < 32)

/-- From s to t the spindle is as it was, in its registers and beside them; and so are the dictionary in force, the part and the stamped commands. -/
structure SpindleKept (s t : State) : Prop where
  reg : ∀ {f : Fld}, f.ofSpindle = true → t.rf f = s.rf f
  spin : t.spin = s.spin
  odRun : t.odRun = s.odRun
  part : t.part = s.part
  cmds : t.cmds = s.cmds

namespace SpindleKept

theorem of_regs {s t : State} (regs : t.regs = s.regs) (spin : t.spin = s.spin) (odRun : t.odRun = s.odRun) (part : t.part = s.part)
    (cmds : t.cmds = s.cmds) : SpindleKept s t := ⟨fun _ => by rw [State.rf, State.rf, regs], spin, odRun, part, cmds⟩

theorem refl (s : State) : SpindleKept s s := .of_regs rfl rfl rfl rfl rfl

theorem trans {s t u : State} (h : SpindleKept s t) (k : SpindleKept t u) : SpindleKept s u :=
  ⟨fun own => (k.reg own).trans (h.reg own), k.spin.trans h.spin, k.odRun.trans h.odRun, k.part.trans h.part, k.cmds.trans h.cmds⟩

theorem ite {s t u : State} {c : Prop} [Decidable c] (ht : SpindleKept s t) (hu : SpindleKept s u) : SpindleKept s (if c then t else u) := by
  split <;> assumption

theorem foldl {β : Type} {g : State → β → State} {l : List β} (hg : ∀ t, ∀ b ∈ l, SpindleKept t (g t b)) (s : State) : SpindleKept s (l.foldl g s) :=
  List.foldlRecOn (motive := SpindleKept s) l g (refl s) fun t ht b mem => ht.trans (hg t b mem)

/-- A register below the spindle's or above them. -/
theorem wf {f : Fld} {i j : Nat} (apart : f.key i j < 0x621000 * 32 ∨ 0x622000 * 32 ≤ f.key i j) (s : State) (v : Nat) : SpindleKept s (s.wf f v i j) := by
  refine ⟨fun {g} own => rf_wf_ne _ _ _ _ _ _ _ _ ?_, rfl, rfl, rfl, rfl⟩
  obtain ⟨base, top, lo⟩ := of_decide_eq_true own
  simp only [Fld.key] at *
  omega

theorem wf_above {f : Fld} (above : 0x622000 ≤ f.base) (s : State) (v i j : Nat) : SpindleKept s (s.wf f v i j) :=
  wf (.inr (by simp only [Fld.key]; omega)) s v

theorem emit (s : State) (o : Out) : SpindleKept s (s.emit o) := .of_regs rfl rfl rfl rfl rfl

theorem modLc (s : State) (n : Nat) (f : CellSt → CellSt) : SpindleKept s (s.modLc n f) := .of_regs rfl rfl rfl rfl rfl

theorem modPl (s : State) (a : Nat) (f : Pl → Pl) : SpindleKept s (s.modPl a f) := .of_regs rfl rfl rfl rfl rfl

theorem modSv (s : State) (a : Nat) (f : Servo → Servo) : SpindleKept s (s.modSv a f) := .of_regs rfl rfl rfl rfl rfl

theorem startFlush (s : State) : SpindleKept s s.startFlush := .of_regs rfl rfl rfl rfl rfl

/-- After an update that leaves the spindle alone. -/
theorem after {s t u : State} (h : SpindleKept t u) (regs : t.regs = s.regs) (spin : t.spin = s.spin) (odRun : t.odRun = s.odRun) (part : t.part = s.part)
    (cmds : t.cmds = s.cmds) : SpindleKept s u := trans (.of_regs regs spin odRun part cmds) h

theorem par {s t : State} (h : SpindleKept s t) : t.par = s.par := par_congr h.odRun h.part

theorem sp {s t : State} (h : SpindleKept s t) : t.sp = s.sp := h.reg (by decide)

theorem rb {s t : State} (h : SpindleKept s t) {f : Fld} (own : f.ofSpindle = true) : t.rb f = s.rb f := by rw [State.rb, State.rb, h.reg own]

theorem spinOk {s t : State} (h : SpindleKept s t) : t.spinOk = s.spinOk := by
  rw [State.spinOk, State.spinOk, h.par, h.reg (by decide)]

end SpindleKept

theorem spindleKept_cutWrite (s : State) (n : Nat) : SpindleKept s (s.cutWrite n) := by
  unfold State.cutWrite
  extract_lets channel hit counted
  have count : SpindleKept s counted := .ite (.wf_above (by decide) ..) (.refl s)
  exact .ite (count.trans (.of_regs rfl rfl rfl rfl rfl)) (.refl s)

theorem spindleKept_sqEvent (s : State) (n e : Nat) : SpindleKept s (s.sqEvent n e) := .ite (.wf_above (by decide) ..) (.wf_above (by decide) ..)

theorem spindleKept_inhibit (s : State) (bit : Nat) (x : Bool) (n : Nat) : SpindleKept s (s.inhibit bit x n) :=
  .trans (t := s.wbit WR_STATUS_INHIBIT bit x n) (.wf_above (by decide) ..)
    (.ite ((spindleKept_cutWrite _ n).trans (spindleKept_sqEvent _ n evKILL)) (.refl _))

theorem spindleKept_inhibitAll (s : State) (bit : Nat) (x : Bool) : SpindleKept s (s.inhibitAll bit x) :=
  .foldl (fun t n _ => spindleKept_inhibit t bit x n) s

/-! ### Retracts (R259) -/

theorem nAct_le (s : State) : s.nAct ≤ 4 := by
  rw [State.nAct]
  split <;> decide

section
variable {a : Nat} (actuator : a < 4)
include actuator

theorem spindleKept_dropSeek (s : State) : SpindleKept s (s.dropSeek a) := by
  obtain ⟨o, dropped⟩ := dropSeek_eq s a
  rw [dropped]
  have record : SpindleKept s (({ s with out := o } : State).modSv a Servo.dropped) := (SpindleKept.modSv ..).after rfl rfl rfl rfl rfl
  exact (record.trans (.wf (.inl (by simp only [Fld.key, VC_HEADS_READ_RDY]; omega)) ..)).trans
    (.wf (.inl (by simp only [Fld.key, VC_HEADS_WRITE_RDY]; omega)) ..)

theorem spindleKept_startRetract (s : State) : SpindleKept s (s.startRetract a) := by
  unfold State.startRetract
  extract_lets cut asked
  have closed : SpindleKept s cut := .foldl (fun t n _ => spindleKept_cutWrite t n) s
  have reset : SpindleKept cut asked := .ite (.modPl ..) (.refl cut)
  have stepped : SpindleKept asked ((asked.dropSeek a).modSv a (fun v => { v with retract := 1 })) :=
    (spindleKept_dropSeek actuator asked).trans (.modSv ..)
  exact .ite ((((closed.trans reset).trans stepped).trans (.wf (.inl (by simp only [Fld.key, VC_STATUS_STATE]; omega)) ..)).trans
    (.wf (.inl (by simp only [Fld.key, VC_STATUS_RETRACTS]; omega)) ..)) (.refl s)

end

theorem spindleKept_retractAll (s : State) : SpindleKept s s.retractAll :=
  .foldl (fun t _ mem => spindleKept_startRetract (Nat.lt_of_lt_of_le (List.mem_range.1 mem) (nAct_le s)) t) s

/-! ### A fault report (R461 to R463, R466) -/

/-- A power entry that ends with no actuator to reload. -/
theorem spindleKept_abortEntry (s : State) (result : Nat) : SpindleKept s (s.abortEntry result false) := by
  unfold State.abortEntry
  extract_lets parked ended freed released
  have h1 : SpindleKept s ended :=
    (((SpindleKept.wf (.inl (by decide)) s _).trans (.wf (.inl (by decide)) ..)).trans (.wf (.inl (by decide)) ..)).trans (.wf (.inl (by decide)) ..)
  have h2 : SpindleKept ended freed := .ite (spindleKept_inhibitAll ended inhPOWER false) (.refl ended)
  have h3 : SpindleKept freed released := .foldl (fun t p _ => .emit t (.note "RELEASE" (partIndex p) 0)) freed
  exact .ite (((h1.trans h2).trans h3).trans (.of_regs rfl rfl rfl rfl rfl)) (.refl s)

theorem spindleKept_chipFatal (s : State) : SpindleKept s s.chipFatal := by
  unfold State.chipFatal
  extract_lets latched collectors stopped shut rings ports told retracted ended
  have h1 : SpindleKept s latched := (SpindleKept.wf (.inl (by decide)) s _).trans (.wf (.inl (by decide)) ..)
  have h2 : SpindleKept latched shut := .trans (t := stopped) (.of_regs rfl rfl rfl rfl rfl) (spindleKept_inhibitAll stopped inhFAULT true)
  have h3 : SpindleKept shut ports := .of_regs rfl rfl rfl rfl rfl
  have h4 : SpindleKept ports told := .foldl (fun t (p : Nat × Port) _ => .emit t (.port p.1 "ERR_FATAL" 0)) ports
  have h5 : SpindleKept told retracted := spindleKept_retractAll told
  have h6 : SpindleKept retracted ended :=
    .ite ((SpindleKept.wf (f := PWR_STATUS_COMMITTED) (.inl (by decide)) retracted 0).trans (spindleKept_abortEntry _ 7)) (.refl retracted)
  exact .ite (.refl s) ((((((h1.trans h2).trans h3).trans h4).trans h5).trans h6).trans (.startFlush ended))

theorem spindleKept_dupUp (s : State) (rg src n : Nat) : SpindleKept s (s.dupUp rg src n) := by
  unfold State.dupUp
  extract_lets collectors regional regionalCollectors waiting
  have h1 : SpindleKept s regional := by
    unfold regional
    split
    · exact .ite (.of_regs rfl rfl rfl rfl rfl) (.refl s)
    · exact .refl s
  have h2 : SpindleKept s waiting := h1.trans (.of_regs rfl rfl rfl rfl rfl)
  split
  · exact .ite (h2.trans (.of_regs rfl rfl rfl rfl rfl)) h2
  · exact h2

theorem spindleKept_toRegion (s : State) (rg : Nat) (r : FaultRec) : SpindleKept s (s.toRegion rg r) := by
  unfold State.toRegion
  split
  · exact .of_regs rfl rfl rfl rfl rfl
  · exact .ite (spindleKept_dupUp ..) (.of_regs rfl rfl rfl rfl rfl)

theorem spindleKept_report (s : State) (src cell detail : Nat) : SpindleKept s (s.report src cell detail) := by
  unfold State.report State.reportBy
  extract_lets key recording recorded opened collectors collected
  have h1 : SpindleKept s recorded := .ite (.of_regs rfl rfl rfl rfl rfl) (.refl s)
  have h2 : SpindleKept recorded collected := by
    unfold collected
    split
    · exact (spindleKept_toRegion ..).after rfl rfl rfl rfl rfl
    · refine .ite ((spindleKept_dupUp ..).after rfl rfl rfl rfl rfl) ?_
      extract_lets merged
      split <;> exact .of_regs rfl rfl rfl rfl rfl
  exact (h1.trans h2).trans (.ite (spindleKept_chipFatal collected) (.refl collected))

/-! ### A trigger of a cell (R217) -/

theorem cellLane_lt (n : Nat) : cellLane n < 4 := by
  unfold cellLane
  repeat' split
  all_goals omega

theorem spindleKept_cellBegin (s : State) (n : Nat) : SpindleKept s (s.cellBegin n) := by
  unfold State.cellBegin
  split
  · exact .refl s
  · extract_lets enabled c g tr out taken
    have h1 : SpindleKept s enabled := .ite (.refl s) (.modLc s n _)
    exact h1.trans (.of_regs rfl rfl rfl rfl rfl)

theorem spindleKept_laneStep (s : State) (lane : Nat) : SpindleKept s (s.laneStep lane) := by
  unfold State.laneStep
  split
  · exact .refl s
  · split
    · exact spindleKept_cellBegin ..
    · split
      · exact .ite (spindleKept_cellBegin ..) (.refl s)
      · exact spindleKept_cellBegin ..

theorem spindleKept_cellOverrun (s : State) (n : Nat) : SpindleKept s (s.cellOverrun n) := by
  have lane := cellLane_lt n
  have counted : SpindleKept s ((s.modLc n (fun c => { c with overruns := c.overruns + 1 })).cnt MC_MISS_OVERRUN (cellLane n)) :=
    (SpindleKept.modLc s n _).trans (.wf (.inl (by simp only [Fld.key, MC_MISS_OVERRUN]; omega)) ..)
  exact counted.trans (spindleKept_report ..)

theorem spindleKept_cellTrig (s : State) (n y r ff : Nat) (valid : Bool) : SpindleKept s (s.cellTrig n y r ff valid) := by
  unfold State.cellTrig
  extract_lets i c t taken
  have queued : SpindleKept s t := .modLc ..
  have overrun : SpindleKept s ((s.modLc n (fun x => { x with ready := some i })).cellOverrun n) := (SpindleKept.modLc ..).trans (spindleKept_cellOverrun ..)
  have h : SpindleKept s taken := .ite overrun (.ite (.ite (queued.trans (spindleKept_cellOverrun ..)) queued) (.modLc ..))
  exact .ite (.ite (.refl s) (.modLc ..)) (h.trans (spindleKept_laneStep ..))

end Sys2Proof.Machine
end

section
/-! The changes of the spindle's mode (R267, R268, R272): the registers, causes and cells that a mode change sets. -/

namespace Sys2Proof.Machine
open Sys2Proof

/-! ### Fields of the spindle's registers -/

theorem rf_wf_spindle {f g : Fld} (apart : g.key 0 0 ≠ f.key 0 0) (s : State) (v : Nat) : (s.wf f v).rf g = s.rf g := rf_wf_ne _ _ _ _ _ _ _ _ apart

theorem rb_wf_spindle {f g : Fld} (apart : g.key 0 0 ≠ f.key 0 0) (s : State) (v : Nat) : (s.wf f v).rb g = s.rb g := by
  rw [State.rb, State.rb, rf_wf_spindle apart]

theorem causes_wf_spindle {f : Fld} (own : f.ofSpindle = true) (s : State) (v n : Nat) : (s.wf f v).rf WR_STATUS_INHIBIT n = s.rf WR_STATUS_INHIBIT n := by
  obtain ⟨-, top, lo⟩ := of_decide_eq_true own
  exact causes_wf s (by omega) lo v n

theorem sp_modSpin (s : State) (f : Spin → Spin) : (s.modSpin f).sp = s.sp := rfl

/-! ### The registers of a mode (R264, R267, R272) -/

section
variable (s : State) {m : Nat}

/-- The registers and inhibit causes of a mode m other than RUN: not AT_SPEED, and LOCKED only where the observer runs. -/
def State.modeSet (m : Nat) : State :=
  let held : State := ((s.wf SP_STATUS_MODE m).wb SP_STATUS_AT_SPEED false).inhibitAll inhSPINDLE true
  if currentModes.contains m then held else held.wb SP_STATUS_LOCKED false

theorem rf_modeSet {f : Fld} (own : f.ofSpindle = true) (apart : f.key 0 0 ≠ SP_STATUS_LOCKED.key 0 0) :
    (s.modeSet m).rf f = ((s.wf SP_STATUS_MODE m).wb SP_STATUS_AT_SPEED false).rf f := by
  unfold State.modeSet
  split
  · exact (spindleKept_inhibitAll ..).reg own
  · exact (rf_wf_spindle apart _ _).trans ((spindleKept_inhibitAll ..).reg own)

theorem sp_modeSet (code : m < 16) : (s.modeSet m).sp = m := by
  rw [State.sp, rf_modeSet s (by decide) (by decide), State.wb, rf_wf_spindle (by decide), rf_wf_same]
  exact Nat.mod_eq_of_lt code

theorem locked_modeSet : (s.modeSet m).rb SP_STATUS_LOCKED = (currentModes.contains m && s.rb SP_STATUS_LOCKED) := by
  unfold State.modeSet
  split
  · next observed =>
    rw [observed, (spindleKept_inhibitAll ..).rb (by decide), State.wb, rb_wf_spindle (by decide), rb_wf_spindle (by decide), Bool.true_and]
  · next unobserved => rw [rb_wb_same _ rfl, eq_false_of_ne_true unobserved, Bool.false_and]

theorem cause_modeSet {b : Nat} (cause : b < 14) (n : Nat) :
    (s.modeSet m).rbit WR_STATUS_INHIBIT b n = if n < s.nChan ∧ b = inhSPINDLE then true else s.rbit WR_STATUS_INHIBIT b n := by
  have held : (((s.wf SP_STATUS_MODE m).wb SP_STATUS_AT_SPEED false).inhibitAll inhSPINDLE true).rbit WR_STATUS_INHIBIT b n =
      if n < s.nChan ∧ b = inhSPINDLE then true else s.rbit WR_STATUS_INHIBIT b n := by
    rw [cause_inhibitAll cause, State.rbit, State.rbit, State.wb, causes_wf_spindle (by decide), causes_wf_spindle (by decide)]
    rfl
  unfold State.modeSet
  split
  · exact held
  · rw [State.rbit, State.wb, causes_wf_spindle (by decide)]
    exact held

/-- Setting a mode leaves the record, the stamped commands and the fault collection. -/
theorem modeSet_rest : (s.modeSet m).spin = s.spin ∧ (s.modeSet m).cmds = s.cmds ∧ (s.modeSet m).fc = s.fc := by
  have kept := spindleKept_inhibitAll ((s.wf SP_STATUS_MODE m).wb SP_STATUS_AT_SPEED false) inhSPINDLE true
  have fc := (servoKept_inhibitAll ((s.wf SP_STATUS_MODE m).wb SP_STATUS_AT_SPEED false) inhSPINDLE true).fc
  unfold State.modeSet
  split <;> exact ⟨kept.spin, kept.cmds, fc⟩

end

/-! ### The loop cells of a mode (R267, R268) -/

/-- From s to t only loop cells and the group's output move. -/
def CellsMoved (s t : State) : Prop := ∃ c g, t = { s with cell := c, spin.g := g }

namespace CellsMoved

theorem refl (s : State) : CellsMoved s s := ⟨_, _, rfl⟩

theorem trans {s t u : State} : CellsMoved s t → CellsMoved t u → CellsMoved s u := by
  rintro ⟨c, g, rfl⟩ ⟨c', g', rfl⟩
  exact ⟨c', g', rfl⟩

theorem ite {s t u : State} {c : Prop} [Decidable c] (ht : CellsMoved s t) (hu : CellsMoved s u) : CellsMoved s (if c then t else u) := by
  split <;> assumption

theorem modLc (s : State) (n : Nat) (f : CellSt → CellSt) : CellsMoved s (s.modLc n f) := ⟨_, _, rfl⟩

theorem foldl {β : Type} {g : State → β → State} (hg : ∀ t b, CellsMoved t (g t b)) (l : List β) (s : State) : CellsMoved s (l.foldl g s) :=
  List.foldlRecOn (motive := CellsMoved s) l g (refl s) fun t ht b _ => ht.trans (hg t b)

end CellsMoved

theorem spClear_of_notRun {s : State} (other : s.sp ≠ spRUN) : s.spClear = s := if_neg (other ·.1)

/-- Beside the registers and the causes, a change to a mode other than RUN moves loop cells. -/
theorem cellsMoved_spGo {m : Nat} (other : m ≠ spRUN) (code : m < 16) (s : State) (vd vq : Nat) : CellsMoved (s.modeSet m) (s.spGo m vd vq) := by
  unfold State.spGo
  extract_lets old entered held preset gated iq spin seeded grouped zeroed referred
  have h1 : CellsMoved (s.modeSet m) gated := by
    have driven : CellsMoved held ((preset.gainReq 36 (spGain m)).gainReq 37 (spGain m)) :=
      .trans (.ite (.refl _) ((CellsMoved.modLc ..).trans (.modLc ..))) ((CellsMoved.modLc ..).trans (.modLc ..))
    have set_held : held = ((s.wf SP_STATUS_MODE m).wb SP_STATUS_AT_SPEED false).inhibitAll inhSPINDLE true := if_neg other
    unfold State.modeSet gated
    rw [← set_held]
    cases currentModes.contains m with
    | true => exact driven
    | false => exact .refl _
  have h2 : CellsMoved gated seeded := .ite (.refl _) (.trans (t := gated.modSpin fun p => { p with g := iq }) ⟨_, _, rfl⟩ (.foldl (fun t n => .modLc ..) _ _))
  have h3 : CellsMoved gated grouped := .ite (.refl _) (h2.trans (.foldl (fun t n => .modLc ..) _ _))
  have h4 : CellsMoved grouped referred := .trans (t := zeroed) (.modLc ..) (.ite (.modLc ..) (.ite (.modLc ..) (.refl _)))
  have moved : CellsMoved (s.modeSet m) referred := (h1.trans h3).trans h4
  obtain ⟨c, g, eq⟩ := moved
  have mode : referred.sp = m := by
    rw [eq]
    exact sp_modeSet s code
  rw [spClear_of_notRun (mode ▸ other)]
  exact ⟨c, g, eq⟩

/-- What a change from s to a mode m other than RUN brings about; of the spindle's record only the group's output may move. -/
structure ModeTaken (s t : State) (m : Nat) : Prop where
  sp : t.sp = m
  atSpeed : t.rb SP_STATUS_AT_SPEED = false
  locked : t.rb SP_STATUS_LOCKED = (currentModes.contains m && s.rb SP_STATUS_LOCKED)
  reg : ∀ {f : Fld}, f.ofSpindle = true → f.key 0 0 ∉ [SP_STATUS_MODE, SP_STATUS_AT_SPEED, SP_STATUS_LOCKED].map (·.key 0 0) → t.rf f = s.rf f
  cause : ∀ {b : Nat}, b < 14 → ∀ n, t.rbit WR_STATUS_INHIBIT b n = if n < s.nChan ∧ b = inhSPINDLE then true else s.rbit WR_STATUS_INHIBIT b n
  spin : ∃ g, t.spin = { s.spin with g := g }
  cmds : t.cmds = s.cmds
  fc : t.fc = s.fc

theorem modeTaken_spGo {m : Nat} (other : m ≠ spRUN) (code : m < 16) (s : State) (vd vq : Nat) : ModeTaken s (s.spGo m vd vq) m := by
  obtain ⟨c, g, moved⟩ := cellsMoved_spGo other code s vd vq
  obtain ⟨spin, cmds, fc⟩ := modeSet_rest s (m := m)
  have reg {f : Fld} (own : f.ofSpindle = true) (apart : f.key 0 0 ≠ SP_STATUS_LOCKED.key 0 0) :
      (s.spGo m vd vq).rf f = ((s.wf SP_STATUS_MODE m).wb SP_STATUS_AT_SPEED false).rf f := by
    rw [moved]
    exact rf_modeSet s own apart
  have same_bit {f : Fld} {b i : Nat} : (s.spGo m vd vq).rbit f b i = (s.modeSet m).rbit f b i := by
    rw [moved]
    rfl
  refine ⟨?_, ?_, ?_, fun own apart => ?_, fun cause n => same_bit.trans (cause_modeSet s cause n), ?_, ?_, ?_⟩
  · rw [moved]
    exact sp_modeSet s code
  · rw [State.rb, reg (by decide) (by decide), ← State.rb, rb_wb_same _ rfl]
  · rw [moved]
    exact locked_modeSet s
  · simp only [List.map_cons, List.map_nil, List.mem_cons, List.not_mem_nil, or_false, not_or] at apart
    obtain ⟨mode, atSpeed, locked⟩ := apart
    rw [reg own locked, State.wb, rf_wf_spindle atSpeed, rf_wf_spindle mode]
  · exact ⟨g, by rw [moved, ← spin]⟩
  · rw [moved, ← cmds]
  · rw [moved, ← fc]

theorem modeTaken_spMode {m : Nat} (other : m ≠ spRUN) (code : m < 16) (s : State) : ModeTaken s (s.spMode m) m := by
  unfold State.spMode
  split <;> exact modeTaken_spGo other code ..

section
variable {s t : State} {m : Nat} (h : ModeTaken s t m)
include h

theorem ModeTaken.step : t.spin.step = s.spin.step := by
  obtain ⟨g, record⟩ := h.spin
  rw [record]

theorem ModeTaken.tries : t.spin.tries = s.spin.tries := by
  obtain ⟨g, record⟩ := h.spin
  rw [record]

theorem ModeTaken.stopping : t.spin.stopping = s.spin.stopping := by
  obtain ⟨g, record⟩ := h.spin
  rw [record]

theorem ModeTaken.crossings : t.spin.crossings = s.spin.crossings := by
  obtain ⟨g, record⟩ := h.spin
  rw [record]

theorem ModeTaken.rb {f : Fld} (own : f.ofSpindle = true)
    (apart : f.key 0 0 ∉ [SP_STATUS_MODE, SP_STATUS_AT_SPEED, SP_STATUS_LOCKED].map (·.key 0 0)) : t.rb f = s.rb f := by
  rw [State.rb, State.rb, h.reg own apart]

/-- SPINDLE stands on every channel (R272). -/
theorem ModeTaken.held {n : Nat} (mine : n < s.nChan) : t.rbit WR_STATUS_INHIBIT inhSPINDLE n = true := by
  rw [h.cause (by decide), if_pos ⟨mine, rfl⟩]

end

end Sys2Proof.Machine
end

section
/-! Starting, catching and resetting the spindle (R263, R265, R267, R271, R273, R279, R286), each command by the mode and the step it finds. -/

namespace Sys2Proof.Machine
open Sys2Proof

section
variable {s : State}

/-! ### SP_START (R271, R279) -/

theorem spStart_of_faulty (other : s.sp ≠ spHOLD) (fault : s.rb SP_STATUS_CHOP_FAULT = true) : s.spStart = s := by
  rw [State.spStart, if_neg other, if_pos (by simp [fault])]

theorem spStart_of_rest (rests : s.sp = spSTOPPED ∨ s.sp = spCOAST) (sound : s.rb SP_STATUS_CHOP_FAULT = false) (admitted : s.spAdmitted = true)
    (free : s.spin.stopping = false) : s.spStart = (s.modSpin (fun p => { p with tries := 0 })).spDetect := by
  have other : s.sp ≠ spHOLD := by rcases rests with mode | mode <;> simp [mode, spHOLD, spSTOPPED, spCOAST]
  rw [State.spStart, if_neg other, if_neg (by simp [sound, admitted, free]), if_pos rests]

theorem modeTaken_detect (s : State) : ModeTaken s (s.spMode spDETECT) spDETECT := modeTaken_spMode (by decide) (by decide) s

theorem sp_spDetect (s : State) : s.spDetect.sp = spDETECT := (modeTaken_detect s).sp

theorem tries_spDetect (s : State) : s.spDetect.spin.tries = s.spin.tries := (modeTaken_detect s).tries

theorem speed_spDetect (s : State) : s.spDetect.rf SP_SPEED_SPEED = s.rf SP_SPEED_SPEED := (modeTaken_detect s).reg (by decide) (by decide)

/-! ### Detection and test pulses (R265, R271 steps 1 to 7) -/

/-- The offsets of the current sensors are kept (R265). -/
def State.withOffsets (s : State) (u v : Int) : State := (s.wf SP_CAL_OFS_U (utrunc 12 u)).wf SP_CAL_OFS_V (utrunc 12 v)

section
variable (detects : s.sp = spDETECT) (third : s.spin.step = 3) {u v : Int}
include detects third

theorem execOffsetCalDone_of_small (small : 20 * u.natAbs ≤ 4096) (small' : 20 * v.natAbs ≤ 4096) : execOffsetCalDone u v s =
    .next ((s.withOffsets u v).modSpin (fun p => { p with step := 4, pulses := [], double := false })) := by
  rw [execOffsetCalDone, if_pos ⟨detects, third⟩, if_neg (by omega)]
  rfl

theorem execOffsetCalDone_of_large (large : 4096 < 20 * u.natAbs ∨ 4096 < 20 * v.natAbs) : execOffsetCalDone u v s =
    .next ((((s.withOffsets u v).spMode spFAILED).modSpin (fun p => { p with step := 0 })).spReport 0) := by
  rw [execOffsetCalDone, if_pos ⟨detects, third⟩, if_pos large]
  rfl

end

/-- The rotor's angle is known: the observer begins anew. -/
def Spin.aligned (p : Spin) : Spin :=
  { p with step := 7, pulses := [], below := 0, above := 0, allBelow := true, allAbove := true, omega := 0, efA := 0, efB := 0, iA := 0, iB := 0 }

section
variable (detects : s.sp = spDETECT) (fourth : s.spin.step = 4) {p : Nat}
include detects fourth

theorem testPulse_of_few (few : s.spin.pulses.length < 11) :
    s.testPulse p = s.modSpin (fun x => { x with pulses := s.spin.pulses ++ [p] }) := by
  simp [State.testPulse, detects, fourth, Nat.succ_lt_succ few]

variable {l : List Nat} (gathered : l = s.spin.pulses ++ [p]) (all : l.length = 12)
include gathered all

/-- The angle is an open value (log 9). -/
theorem testPulse_of_contrast (contrast : 103 * l.getD ((peakIx l + 6) % 12) 0 ≤ 100 * l.getD (peakIx l) 0) :
    ∃ angle, s.testPulse p = ((s.modSpin Spin.aligned).wf SP_SPEED_ANGLE angle).spMode spSTART := by
  subst gathered
  rw [State.testPulse, if_neg (by simp [detects, fourth]), if_neg (by omega), if_pos contrast]
  exact ⟨_, rfl⟩

theorem testPulse_of_flat (flat : 100 * l.getD (peakIx l) 0 < 103 * l.getD ((peakIx l + 6) % 12) 0) (first : s.spin.double = false) :
    s.testPulse p = s.modSpin (fun x => { x with pulses := [], double := true }) := by
  subst gathered
  rw [State.testPulse, if_neg (by simp [detects, fourth]), if_neg (by omega), if_neg (Nat.not_le.2 flat), if_pos (by simp [first])]

end

/-! ### Failed attempts (R271) -/

/-- The attempt is counted, and the spindle goes on at `step`. -/
def State.attemptCounted (s : State) (step : Nat) : State :=
  ((s.cnt SP_STATUS_START_FAILS).lifeCount 1).modSpin (fun p => { p with tries := s.spin.tries + 1, step := step })

theorem spAttemptFail_of_early (early : s.spin.tries ≠ 2) : s.spAttemptFail = (s.attemptCounted 10).spMode spSTOPPED := by
  have more : ¬s.spin.tries + 1 = 3 := by omega
  simp only [State.spAttemptFail, if_neg more]
  rfl

theorem spAttemptFail_of_third (third : s.spin.tries = 2) : s.spAttemptFail = ((s.attemptCounted 0).spMode spFAILED).spReport 1 := by
  have last : s.spin.tries + 1 = 3 := by omega
  simp only [State.spAttemptFail, if_pos last]
  rfl

/-! ### Crossings (R266, R271, R273) -/

theorem bemf_of_detect (detects : s.sp = spDETECT) (first : s.spin.step = 1) (i a m : Nat) :
    s.bemf i a m = (s.spMode spCATCH).modSpin (fun p => { p with step := 0, crossings := 0 }) := if_pos ⟨detects, first⟩

/-- The twelfth crossing has come: the speed v is known. -/
def State.speedKnown (s : State) (v : Nat) : State :=
  ((s.modSpin (fun p => { p with crossings := s.spin.crossings + 1 })).wf SP_SPEED_SPEED v).modSpin (fun p => { p with crossings := 0 })

/-- The rotor is taken up at its angle: the observer goes on with the speed w. -/
def State.takenUp (s : State) (angle w : Nat) : State :=
  (s.wf SP_SPEED_ANGLE angle).modSpin (fun p => { p with omega := w, near := 0, below := 0, above := 0, allBelow := true, allAbove := true })

section
variable (catches : s.sp = spCATCH)
include catches

theorem bemf_of_few (few : s.spin.crossings < 11) (i a m : Nat) :
    s.bemf i a m = s.modSpin (fun p => { p with crossings := s.spin.crossings + 1 }) := by
  simp [State.bemf, catches, spDETECT, spCATCH, Nat.succ_lt_succ few]

variable (last : 11 ≤ s.spin.crossings) {i : Nat}
include last

/-- The observer's speed is an open value (log 9). -/
theorem bemf_of_fast (fast : 4 * s.par 0x5010 16 ≤ s.catchSpeed i) (a m : Nat) : ∃ w, s.bemf i a m =
    (((s.speedKnown (s.catchSpeed i)).takenUp a w).spGo spACCEL 0 (bfOfRat m 1000)).spPlan (s.par 0x5010 1) := by
  rw [State.bemf, if_neg (by simp [catches, spDETECT, spCATCH]), if_pos catches, if_neg (by omega)]
  exact ⟨_, if_pos fast⟩

theorem bemf_of_slow (slow : s.catchSpeed i < 4 * s.par 0x5010 16) (a m : Nat) : s.bemf i a m = (s.speedKnown (s.catchSpeed i)).spZvBrake 1 := by
  rw [State.bemf, if_neg (by simp [catches, spDETECT, spCATCH]), if_pos catches, if_neg (by omega)]
  exact if_neg (Nat.not_le.2 slow)

end

theorem catchSpeed_lt (s : State) (i : Nat) : s.catchSpeed i < 2 ^ 16 := by
  rw [State.catchSpeed]
  omega

theorem speed_speedKnown (s : State) (i : Nat) : (s.speedKnown (s.catchSpeed i)).rf SP_SPEED_SPEED = s.catchSpeed i :=
  (rf_wf_same ..).trans (Nat.mod_eq_of_lt (catchSpeed_lt s i))

theorem takenUp_speedKnown (s : State) (i : Nat) (angle : BitVec 16) (w : Nat) :
    ((s.speedKnown (s.catchSpeed i)).takenUp angle.toNat w).sp = s.sp
    ∧ ((s.speedKnown (s.catchSpeed i)).takenUp angle.toNat w).rf SP_SPEED_SPEED = s.catchSpeed i
    ∧ ((s.speedKnown (s.catchSpeed i)).takenUp angle.toNat w).rf SP_SPEED_ANGLE = angle.toNat := by
  refine ⟨?_, ?_, ?_⟩
  · rw [State.takenUp, sp_modSpin, State.sp, rf_wf_spindle (by decide), State.speedKnown, rf_modSpin, rf_wf_spindle (by decide), rf_modSpin, State.sp]
  · rw [State.takenUp, rf_modSpin, rf_wf_spindle (by decide), speed_speedKnown]
  · rw [State.takenUp, rf_modSpin, rf_wf_same]
    exact Nat.mod_eq_of_lt angle.isLt

/-! ### Plans of PG4 (R228, R271) -/

theorem target_pgBegin (s : State) (c : Nat) (x : Int) : ((s.pgBegin c x).pgc c).target = x := by
  by_cases there : x = (s.pgc c).pos
  · rw [pgBegin_of_position there, pgc_modPg_same]
  · rw [pgBegin_of_distance there, pgc_modPg_same]

theorem pgBegin_eq (s : State) (c : Nat) (x : Int) : ∃ f, s.pgBegin c x = s.modPg c f := by
  by_cases there : x = (s.pgc c).pos
  · exact ⟨_, pgBegin_of_position there⟩
  · exact ⟨_, pgBegin_of_distance there⟩

/-- A plan concerns the profile channels alone. -/
theorem spPlan_eq (s : State) (rpm : Nat) : ∃ p, s.spPlan rpm = { s with pg := p } := by
  obtain ⟨f, begun⟩ := pgBegin_eq (s.modPg 4 _) 4 (rpm * 8192)
  exact ⟨_, begun⟩

theorem rf_spPlan (s : State) (rpm : Nat) (f : Fld) : (s.spPlan rpm).rf f = s.rf f := by
  obtain ⟨p, planned⟩ := spPlan_eq s rpm
  rw [planned]
  rfl

theorem sp_spPlan (s : State) (rpm : Nat) : (s.spPlan rpm).sp = s.sp := rf_spPlan ..

theorem lc_spPlan (s : State) (rpm n : Nat) : (s.spPlan rpm).lc n = s.lc n := by
  obtain ⟨p, planned⟩ := spPlan_eq s rpm
  rw [planned]
  rfl

/-! ### The preset of LC37 (R268) -/

theorem vPrev_gainReq (s : State) (n k g : Nat) : ((s.gainReq n g).lc k).vPrev = (s.lc k).vPrev := by
  by_cases same : k = n
  · rw [same, State.gainReq, lc_modLc_same]
  · rw [State.gainReq, lc_modLc_ne _ _ _ _ same]

theorem vPrev_cellPreset_ne {n k : Nat} (other : k ≠ n) (s : State) (v : Nat) : ((s.cellPreset n v).lc k).vPrev = (s.lc k).vPrev := by
  rw [State.cellPreset, lc_modLc_ne _ _ _ _ other]

theorem lc_spClear (s : State) (n : Nat) : s.spClear.lc n = s.lc n := by
  unfold State.spClear
  split
  · rw [State.lc, State.lc, (engineKept_inhibitAll ..).cell]
  · rfl

/-- Taken up with the bridge off, LC37 starts from the back-EMF. -/
theorem vPrev_spGo_accel (off : currentModes.contains s.sp = false) (vd vq : Nat) : ((s.spGo spACCEL vd vq).lc 37).vPrev = vq := by
  unfold State.spGo
  extract_lets old entered held preset gated iq spin seeded grouped zeroed referred
  have h1 : (preset.lc 37).vPrev = vq := by
    have preset_eq : preset = (held.cellPreset 36 vd).cellPreset 37 vq := if_neg (ne_true_of_eq_false off)
    rw [preset_eq, State.cellPreset, lc_modLc_same]
  have h2 : (gated.lc 37).vPrev = vq := ((vPrev_gainReq ..).trans (vPrev_gainReq ..)).trans h1
  have h3 : (seeded.lc 37).vPrev = vq := by
    unfold seeded
    split
    · exact h2
    · simp (disch := decide) only [List.foldl, vPrev_cellPreset_ne]
      exact h2
  have h4 : (grouped.lc 37).vPrev = vq :=
    ((((vPrev_gainReq ..).trans (vPrev_gainReq ..)).trans (vPrev_gainReq ..)).trans (vPrev_gainReq ..)).trans h3
  rw [lc_spClear]
  exact (congrArg CellSt.vPrev (lc_modLc_ne grouped 36 37 _ (by decide))).trans h4

/-! ### CROSSING_TIMEOUT (R273 step 4, R279 step 3), SP_RESET (R286) -/

theorem execCrossingTimeout_of_catch (catches : s.sp = spCATCH) :
    execCrossingTimeout s = .next ((s.wf SP_SPEED_SPEED 0).spDetect.modSpin (fun p => { p with step := 3 })) := if_pos catches

theorem execCrossingTimeout_of_short (shorted : s.sp = spZV) (stops : s.spin.zvThen ≠ 1) :
    execCrossingTimeout s = .next (((s.wf SP_SPEED_SPEED 0).spMode spSTOPPED).modSpin (fun p => { p with step := 0 })) := by
  rw [execCrossingTimeout, if_neg (by simp [shorted, spZV, spCATCH]), if_pos shorted, if_neg stops]

/-- The marks of the chopper and of OV2 are cleared. -/
def State.marksCleared (s : State) : State := (s.wb SP_STATUS_CHOP_FAULT false).wb SP_STATUS_OV2 false

theorem marks_marksCleared (s : State) : s.marksCleared.rb SP_STATUS_CHOP_FAULT = false ∧ s.marksCleared.rb SP_STATUS_OV2 = false := by
  refine ⟨?_, rb_wb_same _ rfl ..⟩
  rw [State.marksCleared, State.wb, rb_wf_spindle (by decide), rb_wb_same _ rfl]

theorem spReset_of_tripped (tripped : s.sp = spDISABLED ∨ s.sp = spFAILED) (turning : Bool) : s.spReset turning =
    (s.marksCleared.spMode (if turning then spCATCH else spSTOPPED)).modSpin
      (fun p => { p with step := 0, tries := 0, crossings := 0, overs := 0, chopStop := false, stopping := false }) := if_pos tripped

end

/-- Settles O28, command by command; that a failed attempt waits in STOPPED and that CATCH goes by the last interval is the model's reading (log 58). -/
theorem spindleStartsAndCatches : Obligations.SpindleStartsAndCatches := by
  intro s
  refine ⟨fun hold => congrArg Host.Outcome.next (if_pos hold), fun other fault => congrArg Host.Outcome.next (spStart_of_faulty other fault),
    fun rests sound admitted free => ⟨_, congrArg Host.Outcome.next (spStart_of_rest rests sound admitted free), ?start⟩,
    fun detects first => congrArg Host.Outcome.next (if_pos ⟨detects, first⟩), fun other => congrArg Host.Outcome.next (if_neg (other ·.1)),
    fun u v detects third small small' => execOffsetCalDone_of_small detects third small small',
    fun u v detects third large => ⟨_, execOffsetCalDone_of_large detects third large, ?offset⟩,
    fun p detects fourth few => congrArg Host.Outcome.next (testPulse_of_few detects fourth few),
    fun p i l detects fourth gathered all peak => ?pulses,
    fun starts early => ⟨_, congrArg Host.Outcome.next ((if_pos starts).trans (spAttemptFail_of_early early)), ?early⟩,
    fun starts third => ⟨_, congrArg Host.Outcome.next ((if_pos starts).trans (spAttemptFail_of_third third)), ?third⟩,
    fun rests waits => ⟨_, congrArg Host.Outcome.next (if_pos ⟨waits, rests⟩), ?again⟩,
    fun i g m detects first => ⟨_, congrArg Host.Outcome.next (bemf_of_detect detects first i g.toNat m), ?turning⟩,
    fun i g m catches few => congrArg Host.Outcome.next (bemf_of_few catches few i g.toNat m),
    fun i g m catches last => ?caught,
    fun catches => ⟨_, execCrossingTimeout_of_catch catches, ?standstill⟩,
    fun shorted stops => ⟨_, execCrossingTimeout_of_short shorted stops, ?stopped⟩,
    fun turning tripped => ⟨_, congrArg Host.Outcome.next (spReset_of_tripped tripped turning), ?reset⟩,
    fun turning enabled sound => congrArg Host.Outcome.next (if_neg (not_or.2 ⟨enabled, sound⟩))⟩
  case start =>
    have taken := modeTaken_detect (s.modSpin (fun p => { p with tries := 0 }))
    rw [sp_spDetect, tries_spDetect]
    exact ⟨rfl, rfl, rfl, taken.atSpeed, fun n mine => taken.held mine, taken.fc⟩
  case offset =>
    rw [sp_modSpin, (modeTaken_spMode (by decide) (by decide) _).sp]
    exact ⟨rfl, rfl⟩
  case pulses =>
    subst peak
    refine ⟨fun contrast => ?_, fun flat first => congrArg Host.Outcome.next (testPulse_of_flat detects fourth gathered all flat first)⟩
    obtain ⟨angle, aligned⟩ := testPulse_of_contrast detects fourth gathered all contrast
    have taken := modeTaken_spMode (m := spSTART) (by decide) (by decide) ((s.modSpin Spin.aligned).wf SP_SPEED_ANGLE angle)
    exact ⟨_, congrArg Host.Outcome.next aligned, taken.sp, taken.step, taken.fc⟩
  case early =>
    have taken := modeTaken_spMode (m := spSTOPPED) (by decide) (by decide) (s.attemptCounted 10)
    exact ⟨taken.sp, taken.step, taken.tries, (taken.reg (by decide) (by decide)).trans (rf_cnt_same ..), taken.fc⟩
  case third =>
    have taken := modeTaken_spMode (m := spFAILED) (by decide) (by decide) (s.attemptCounted 0)
    exact ⟨taken.sp, (taken.tries).trans (congrArg (· + 1) third)⟩
  case again => exact ⟨sp_spDetect s, rfl, tries_spDetect s⟩
  case turning =>
    have taken := modeTaken_spMode (m := spCATCH) (by decide) (by decide) s
    rw [sp_modSpin, taken.sp]
    exact ⟨rfl, rfl, taken.fc⟩
  case caught =>
    rcases Nat.lt_or_ge (s.catchSpeed i) (4 * s.par 0x5010 16) with slow | fast
    · have taken := modeTaken_spMode (m := spZV) (by decide) (by decide) (s.speedKnown (s.catchSpeed i))
      refine ⟨_, congrArg Host.Outcome.next (bemf_of_slow catches last slow g.toNat m), ?_⟩
      rw [State.spZvBrake, rf_modSpin, taken.reg (by decide) (by decide), speed_speedKnown, sp_modSpin, taken.sp]
      exact ⟨rfl, fun fast => absurd slow (Nat.not_lt.2 fast), fun _ => ⟨rfl, rfl⟩⟩
    · obtain ⟨w, up⟩ := bemf_of_fast catches last fast g.toNat m
      obtain ⟨sp, speed, angle⟩ := takenUp_speedKnown s i g w
      have taken := modeTaken_spGo (m := spACCEL) (by decide) (by decide) ((s.speedKnown (s.catchSpeed i)).takenUp g.toNat w) 0 (bfOfRat m 1000)
      have off : currentModes.contains ((s.speedKnown (s.catchSpeed i)).takenUp g.toNat w).sp = false := by rw [sp, catches]; decide
      refine ⟨_, congrArg Host.Outcome.next up, ?_⟩
      rw [rf_spPlan, taken.reg (by decide) (by decide), speed, sp_spPlan, taken.sp, rf_spPlan, taken.reg (by decide) (by decide), angle, lc_spPlan,
        vPrev_spGo_accel off]
      exact ⟨rfl, fun _ => ⟨rfl, rfl, rfl⟩, fun slow => absurd slow (Nat.not_lt.2 fast)⟩
  case standstill =>
    rw [sp_modSpin, sp_spDetect, rf_modSpin, speed_spDetect, rf_wf_same]
    exact ⟨rfl, rfl, rfl⟩
  case stopped =>
    have taken := modeTaken_spMode (m := spSTOPPED) (by decide) (by decide) (s.wf SP_SPEED_SPEED 0)
    rw [sp_modSpin, taken.sp, rf_modSpin, taken.reg (by decide) (by decide), rf_wf_same]
    exact ⟨rfl, rfl, rfl⟩
  case reset =>
    have taken := modeTaken_spMode (m := if turning then spCATCH else spSTOPPED) (by cases turning <;> decide) (by cases turning <;> decide) s.marksCleared
    obtain ⟨chopper, ov2⟩ := marks_marksCleared s
    rw [sp_modSpin, taken.sp, rb_modSpin, taken.rb (by decide) (by decide), chopper, rb_modSpin, taken.rb (by decide) (by decide), ov2]
    exact ⟨rfl, rfl, rfl, rfl, taken.fc⟩

end Sys2Proof.Machine
end

section
/-! Stopping, holding and protecting the spindle (R272, R277 to R281, R283, R284, R286), each command by the mode it finds. -/

namespace Sys2Proof.Machine
open Sys2Proof

section
variable {s : State}

/-! ### SP_STOP (R279) -/

theorem spStop_of_stopped (stopped : s.sp = spSTOPPED) : s.spStop = s.modSpin (fun p => { p with step := 0 }) := by
  rw [State.spStop, if_neg (by simp [stopped, spSTOPPED, spDISABLED, spFAILED]), if_pos stopped]

theorem spStop_of_hold (hold : s.sp = spHOLD) : s.spStop = s.modSpin (fun p => { p with want := 2 }) := by
  rw [State.spStop, if_neg (by simp [hold, spHOLD, spDISABLED, spFAILED]), if_neg (by simp [hold, spHOLD, spSTOPPED]), if_pos hold]

theorem spStop_of_turning (turning : s.sp ∉ [spDISABLED, spFAILED, spSTOPPED, spHOLD]) :
    s.spStop = (s.parkAll.modSpin (fun p => { p with stopping := true })).spProceed := by
  simp only [List.mem_cons, List.not_mem_nil, or_false, not_or] at turning
  obtain ⟨enabled, sound, starts, free⟩ := turning
  rw [State.spStop, if_neg (not_or.2 ⟨enabled, sound⟩), if_neg starts, if_neg free]

theorem actLoaded_of_allUnloaded (unloaded : s.allUnloaded = true) {a : Nat} (present : a < s.nAct) : s.actLoaded a = false := by
  have rests := List.all_eq_true.1 unloaded a (List.mem_range.2 present)
  simpa using rests

theorem parkAll_of_unloaded (unloaded : s.allUnloaded = true) : s.parkAll = s :=
  List.foldlRecOn (motive := (· = s)) (List.range s.nAct) _ rfl fun t same a mem => by
    rw [same, State.startPark, actLoaded_of_allUnloaded unloaded (List.mem_range.1 mem)]
    rfl

theorem spProceed_of_loaded (loaded : s.allUnloaded = false) : s.spProceed = s := if_pos (by simp [loaded])

section
variable (unloaded : s.allUnloaded = true) (sound : s.spin.chopStop = false) (stops : s.spin.stopping = true)
include unloaded sound stops

theorem spProceed_of_driven (driven : s.sp = spACCEL ∨ s.sp = spRUN) :
    s.spProceed = ((s.modSpin (fun p => { p with stopping := false })).spMode spBRAKE).spPlan 0 := by
  simp only [State.spProceed, unloaded, sound, stops, Bool.not_true, Bool.false_eq_true, if_false, if_true]
  exact if_pos driven

theorem spProceed_of_undriven (undriven : s.sp = spDETECT ∨ s.sp = spSTART ∨ s.sp = spCATCH ∨ s.sp = spCOAST) :
    s.spProceed = (s.modSpin (fun p => { p with stopping := false })).spZvBrake 0 := by
  have other : ¬(s.sp = spACCEL ∨ s.sp = spRUN) := by rcases undriven with mode | mode | mode | mode <;> rw [mode] <;> decide
  simp only [State.spProceed, unloaded, sound, stops, Bool.not_true, Bool.false_eq_true, if_false, if_true]
  exact (if_neg other).trans (if_pos undriven)

end

/-- The stop is asked for, and taken at once. -/
def State.stopTaken (s : State) : State := (s.modSpin (fun p => { p with stopping := true })).modSpin (fun p => { p with stopping := false })

section
variable (unloaded : s.allUnloaded = true) (sound : s.spin.chopStop = false)
include unloaded sound

theorem spStop_of_driven (driven : s.sp = spACCEL ∨ s.sp = spRUN) : s.spStop = (s.stopTaken.spMode spBRAKE).spPlan 0 := by
  have turning : s.sp ∉ [spDISABLED, spFAILED, spSTOPPED, spHOLD] := by rcases driven with mode | mode <;> rw [mode] <;> decide
  rw [spStop_of_turning turning, parkAll_of_unloaded unloaded]
  exact spProceed_of_driven (s := s.modSpin _) unloaded sound rfl driven

theorem spStop_of_undriven (undriven : s.sp = spDETECT ∨ s.sp = spSTART ∨ s.sp = spCATCH ∨ s.sp = spCOAST) : s.spStop = s.stopTaken.spZvBrake 0 := by
  have turning : s.sp ∉ [spDISABLED, spFAILED, spSTOPPED, spHOLD] := by rcases undriven with mode | mode | mode | mode <;> rw [mode] <;> decide
  rw [spStop_of_turning turning, parkAll_of_unloaded unloaded]
  exact spProceed_of_undriven (s := s.modSpin _) unloaded sound rfl undriven

end

/-! ### SP_COAST (R286) -/

theorem spCoast_of_loaded (loaded : s.allUnloaded = false) : s.spCoast = s := if_pos (.inl (by simp [loaded]))

theorem spCoast_of_driven (unloaded : s.allUnloaded = true) (driven : s.sp = spACCEL ∨ s.sp = spRUN ∨ s.sp = spBRAKE) :
    s.spCoast = (s.spMode spCOAST).modSpin (fun p => { p with step := 0 }) := by
  have turning : ¬(s.sp = spDISABLED ∨ s.sp = spFAILED ∨ s.sp = spSTOPPED) := by rcases driven with mode | mode | mode <;> rw [mode] <;> decide
  have free : s.sp ≠ spHOLD := by rcases driven with mode | mode | mode <;> rw [mode] <;> decide
  rw [State.spCoast, if_neg (not_or.2 ⟨by simp [unloaded], turning⟩), if_neg free]

/-! ### A faulty chopper (R280) -/

/-- The fault is marked, and nothing brakes the rotor electrically any more. -/
def State.chopperMarked (s : State) : State :=
  (s.wb SP_STATUS_CHOP_FAULT true).modSpin (fun p => { p with chopStop := true, g := bfMax p.g 0 })

/-- The current demanded of LC37 is not negative, and every actuator retracts. -/
def State.chopperStop (s : State) : State :=
  (if groupModes.contains s.sp then s.modLc 37 (fun c => { c with ref := bfMax c.ref 0 }) else s).retractAll

theorem execChopperFault_of_idle (idle : s.rb SP_STATUS_BRAKE = false) : execChopperFault s = .next s := if_neg (by simp [idle])

theorem execChopperFault_of_new (brakes : s.rb SP_STATUS_BRAKE = true) (new : s.rb SP_STATUS_CHOP_FAULT = false) :
    execChopperFault s = .next ((s.chopperMarked.chopperStop.spReport 6).spProceed) := if_pos (by simp [brakes, new])

theorem spindleKept_chopperStop (s : State) : SpindleKept s s.chopperStop := .trans (.ite (.modLc ..) (.refl s)) (spindleKept_retractAll _)

theorem chopperMarked_marks (s : State) :
    s.chopperMarked.rb SP_STATUS_CHOP_FAULT = true ∧ s.chopperMarked.spin.chopStop = true ∧ s.chopperMarked.sp = s.sp := by
  refine ⟨?_, rfl, ?_⟩
  · rw [State.chopperMarked, rb_modSpin, rb_wb_same _ rfl]
  · rw [State.chopperMarked, sp_modSpin, State.sp, State.wb, rf_wf_spindle (by decide), State.sp]

/-! ### The loss of power (R283) -/

theorem causes_startRetract (s : State) (a n : Nat) : (s.startRetract a).rf WR_STATUS_INHIBIT n = s.rf WR_STATUS_INHIBIT n := by
  unfold State.startRetract
  extract_lets cut asked
  have closed : cut.rf WR_STATUS_INHIBIT n = s.rf WR_STATUS_INHIBIT n :=
    List.foldlRecOn (motive := fun t : State => t.rf WR_STATUS_INHIBIT n = s.rf WR_STATUS_INHIBIT n) _ _ rfl
      fun t same m _ => (causes_cutWrite t m n).trans same
  have reset : asked.rf WR_STATUS_INHIBIT n = s.rf WR_STATUS_INHIBIT n := by
    unfold asked
    split
    · rw [rf_modPl, closed]
    · exact closed
  split
  · rw [State.cnt, rf_wf_of_apart (by decide), State.setAct, rf_wf_of_apart (by decide), rf_modSv, rf_dropSeek (by decide) (by decide), reset]
  · rfl

/-- PFAIL stands on every channel, and the actuators that write no field retract. -/
def State.powerInhibited (s : State) : State :=
  (List.range (s.inhibitAll inhPFAIL true).nAct).foldl (fun t a => if t.fieldWriting a then t else t.startRetract a) (s.inhibitAll inhPFAIL true)

theorem spindleKept_powerInhibited (s : State) : SpindleKept s s.powerInhibited :=
  (spindleKept_inhibitAll s inhPFAIL true).trans (.foldl (fun t _ mem => .ite (.refl t)
    (spindleKept_startRetract (Nat.lt_of_lt_of_le (List.mem_range.1 mem) (nAct_le _)) t)) _)

theorem cause_powerInhibited {n : Nat} (mine : n < s.nChan) : s.powerInhibited.rbit WR_STATUS_INHIBIT inhPFAIL n = true := by
  have retracted : s.powerInhibited.rf WR_STATUS_INHIBIT n = (s.inhibitAll inhPFAIL true).rf WR_STATUS_INHIBIT n :=
    List.foldlRecOn (motive := fun t : State => t.rf WR_STATUS_INHIBIT n = (s.inhibitAll inhPFAIL true).rf WR_STATUS_INHIBIT n) _ _ rfl
      fun t same a _ => by
        split
        · exact same
        · exact (causes_startRetract t a n).trans same
  rw [State.rbit, retracted, ← State.rbit, cause_inhibitAll (by decide), if_pos ⟨mine, rfl⟩]

theorem powerLost_eq (s : State) : s.powerLost =
    if s.powerInhibited.sp = spHOLD then s.powerInhibited.modSpin (fun p => { p with lostPower := true })
    else if s.powerInhibited.rb SP_STATUS_LOCKED = true ∧ s.powerInhibited.sp ≠ spGENERATE ∧ s.powerInhibited.sp ≠ spDISABLED
      ∧ s.powerInhibited.sp ≠ spFAILED then s.powerInhibited.spGenerate
    else s.powerInhibited := rfl

theorem powerLost_of_hold (hold : s.sp = spHOLD) : s.powerLost = s.powerInhibited.modSpin (fun p => { p with lostPower := true }) := by
  rw [powerLost_eq, (spindleKept_powerInhibited s).sp, if_pos hold]

theorem powerLost_of_unlocked (other : s.sp ≠ spHOLD) (unlocked : s.rb SP_STATUS_LOCKED = false) : s.powerLost = s.powerInhibited := by
  have kept := spindleKept_powerInhibited s
  rw [powerLost_eq, kept.sp, if_neg other, kept.rb (by decide), if_neg (by simp [unlocked])]

theorem powerLost_of_run (runs : s.sp = spRUN) (locked : s.rb SP_STATUS_LOCKED = true) : s.powerLost = s.powerInhibited.spGenerate := by
  have kept := spindleKept_powerInhibited s
  rw [powerLost_eq, kept.sp, runs, kept.rb (by decide), if_neg (by decide), if_pos ⟨locked, by decide⟩]

theorem sp_spGenerate (s : State) : s.spGenerate.sp = spGENERATE := (modeTaken_spMode (by decide) (by decide) s).sp

/-- A cause that stands when GENERATE is entered stands after it. -/
theorem cause_spGenerate {b n : Nat} (held : s.rbit WR_STATUS_INHIBIT b n = true) (cause : b < 14) : s.spGenerate.rbit WR_STATUS_INHIBIT b n = true := by
  have taken := modeTaken_spMode (m := spGENERATE) (by decide) (by decide) s
  rw [State.spGenerate, State.rbit, rf_modLc, ← State.rbit, taken.cause cause, held, ite_self]

theorem cause_powerLost {n : Nat} (mine : n < s.nChan) : s.powerLost.rbit WR_STATUS_INHIBIT inhPFAIL n = true := by
  have held := cause_powerInhibited mine
  rw [powerLost_eq]
  split
  · exact held
  · split
    · exact cause_spGenerate held (by decide)
    · exact held

end

end Sys2Proof.Machine
end

section
/-! Hold, current ticks and speed ticks (R264, R265, R272, R274, R275, R277, R278, R284), and the stops and trips of the spindle together. -/

namespace Sys2Proof.Machine
open Sys2Proof

section
variable {s : State}

/-! ### HOLD_PERIOD_SAMPLE (R277 steps 3 and 4, R278) -/

theorem flySpeed_of_unloaded (unloaded : s.allUnloaded = true) : s.flySpeed = s := if_neg (by simp [unloaded])

theorem spindleKept_flySpeed (s : State) : SpindleKept s s.flySpeed :=
  .ite ((spindleKept_retractAll s).trans (spindleKept_report ..)) (.refl s)

/-- Fewer than three samples decide nothing. -/
theorem holdSample_of_few (hold : s.sp = spHOLD) (few : s.spin.samples.length < 2) (unloaded : s.allUnloaded = true) (x : Int) :
    s.holdSample x = s.modSpin (fun p => { p with samples := s.spin.samples ++ [x], holdN := s.spin.holdN + 1 }) := by
  have all : (s.spin.samples ++ [x]).drop (s.spin.samples.length - 2) = s.spin.samples ++ [x] := by
    rw [Nat.sub_eq_zero_of_le (Nat.le_of_lt few), List.drop_zero]
  have two : (s.spin.samples ++ [x]).length ≠ 3 := by
    rw [List.length_append, List.length_singleton]
    omega
  simp only [State.holdSample, hold, ne_eq, not_true_eq_false, if_false, all, two, false_and, flySpeed_of_unloaded unloaded]
  rfl

/-! ### HOLD_TIMEOUT (R277 steps 5 and 6) -/

/-- The actuators retract, the spindle coasts and reports, and what HOLD kept is dropped. -/
def State.holdLost (s : State) : State :=
  ((s.retractAll.spMode spCOAST).spReport 3).modSpin (fun p => { p with want := 0, lostPower := false, crossings := 0 })

theorem execHoldTimeout_of_hold (hold : s.sp = spHOLD) : execHoldTimeout s = .next (s.holdLost.spMode spCATCH) := if_pos hold

/-! ### CURRENT_TICK (R264, R265, R277, R284) -/

/-- The samples are kept. -/
def State.withCurrents (s : State) (iu iv : Int) (vbus : Nat) : State :=
  ((s.wf SP_PHASE_IU (utrunc 16 iu)).wf SP_PHASE_IV (utrunc 16 iv)).wf SP_BUS_VBUS vbus

theorem sp_withCurrents (s : State) (iu iv : Int) (vbus : Nat) : (s.withCurrents iu iv vbus).sp = s.sp := by
  rw [State.sp, State.withCurrents, rf_wf_spindle (by decide), rf_wf_spindle (by decide), rf_wf_spindle (by decide), State.sp]

theorem currentTick_of_off (off : currentModes.contains s.sp = false) (iu iv : Int) (vbus : Nat) :
    s.currentTick iu iv vbus = s.withCurrents iu iv vbus := by
  have still_off : currentModes.contains (s.withCurrents iu iv vbus).sp = false := by rw [sp_withCurrents, off]
  exact if_pos (congrArg Bool.not still_off)

/-- No overcurrent, and the angle of a spindle in HOLD advances. -/
def State.holdAdvanced (s : State) (id iq angle : Nat) : State :=
  (((s.wf SP_CURRENT_ID id).wf SP_CURRENT_IQ iq).modSpin (fun p => { p with overs := 0 })).wf SP_SPEED_ANGLE angle

theorem sp_holdAdvanced (s : State) (id iq angle : Nat) : (s.holdAdvanced id iq angle).sp = s.sp := by
  rw [State.sp, State.holdAdvanced, rf_wf_spindle (by decide), rf_modSpin, rf_wf_spindle (by decide), rf_wf_spindle (by decide), State.sp]

theorem vbus_holdAdvanced (s : State) (iu iv : Int) (vbus : BitVec 16) (id iq angle : Nat) :
    ((s.withCurrents iu iv vbus.toNat).holdAdvanced id iq angle).rf SP_BUS_VBUS = vbus.toNat := by
  rw [State.holdAdvanced, rf_wf_spindle (by decide), rf_modSpin, rf_wf_spindle (by decide), rf_wf_spindle (by decide), State.withCurrents, rf_wf_same]
  exact Nat.mod_eq_of_lt vbus.isLt

/-- In HOLD the two current cells are triggered, and no step of another mode is taken. -/
theorem currentTick_of_hold (hold : s.sp = spHOLD) {iu iv : Int} (calm : s.overCurrent iu iv = false) (vbus : Nat) : ∃ id iq angle,
    SpindleKept ((s.withCurrents iu iv vbus).holdAdvanced id iq angle) (s.currentTick iu iv vbus) := by
  unfold State.currentTick
  extract_lets sampled th id iq converted checked observed advanced started braked generated triggered
  have mode : sampled.sp = spHOLD := (sp_withCurrents s iu iv vbus).trans hold
  have checked_eq : checked = converted.modSpin (fun p => { p with overs := 0 }) := if_neg (ne_true_of_eq_false calm)
  have checked_mode : checked.sp = spHOLD := by
    rw [checked_eq, sp_modSpin, State.sp, rf_wf_spindle (by decide), rf_wf_spindle (by decide)]
    exact mode
  have advanced_eq : advanced = sampled.holdAdvanced (utrunc 16 id) (utrunc 16 iq) (Config.realFn 276 [th, checked.spin.omega]).toNat := by
    refine (if_pos checked_mode).trans ?_
    rw [checked_eq]
    rfl
  have advanced_mode : advanced.sp = spHOLD := by rw [advanced_eq, sp_holdAdvanced, mode]
  have away {m : Nat} (other : spHOLD ≠ m) : advanced.sp ≠ m := advanced_mode ▸ other
  have started_eq : started = advanced := if_neg fun starts => away (by decide) starts.1
  have braked_eq : braked = advanced := (if_neg fun brakes => away (by decide) (started_eq ▸ brakes.1)).trans started_eq
  have generated_eq : generated = advanced := (if_neg fun generates => away (by decide) (braked_eq ▸ generates)).trans braked_eq
  have kept : SpindleKept generated (if currentModes.contains generated.sp then triggered.cellTrig 37 (bfOfRat iq 1000) (triggered.lc 37).ref 0 true
      else generated) := .ite ((spindleKept_cellTrig ..).trans (spindleKept_cellTrig ..)) (.refl _)
  refine ⟨utrunc 16 id, utrunc 16 iq, (Config.realFn 276 [th, checked.spin.omega]).toNat, ?_⟩
  rw [if_neg (by rw [mode]; decide)]
  exact (generated_eq.trans advanced_eq) ▸ kept

/-! ### SPEED_TICK (R272, R274, R275, R278) -/

theorem utrunc_lt (n : Nat) (v : Int) : utrunc n v < 2 ^ n := by
  have positive : (0 : Int) < ((2 ^ n : Nat) : Int) := Int.natCast_pos.2 (Nat.two_pow_pos n)
  have low := Int.emod_nonneg v (Int.ne_of_gt positive)
  have high := Int.emod_lt_of_pos v positive
  rw [utrunc]
  omega

/-- The temperatures within their window are kept, and nothing is reported. -/
theorem spTemp_of_inWindow (inside : s.rb IF_STATUS_TEMP_OOW = false) (ambient : Int) (current : Nat) : ∃ w a x y, s.spTemp ambient current =
    ((s.modSpin (fun p => { p with winding := w, ambient := a })).wf SP_TEMP_WINDING x).wf SP_TEMP_AMBIENT y := by
  unfold State.spTemp
  extract_lets oow amb reported w kept
  have quiet : reported = s := if_neg fun outside => ne_true_of_eq_false inside outside.1
  exact ⟨w, amb, _, _, by rw [← quiet]⟩

theorem measured_kept (inside : s.rb IF_STATUS_TEMP_OOW = false) (p a : Int) (c : Nat) : ((s.wf SP_BUS_PIN (utrunc 16 p)).spTemp a c).sp = s.sp
    ∧ ((s.wf SP_BUS_PIN (utrunc 16 p)).spTemp a c).spinOk = s.spinOk
    ∧ ((s.wf SP_BUS_PIN (utrunc 16 p)).spTemp a c).rf SP_BUS_PIN = utrunc 16 p := by
  have still_inside : (s.wf SP_BUS_PIN (utrunc 16 p)).rb IF_STATUS_TEMP_OOW = false := by rw [rb_wf_spindle (by decide), inside]
  obtain ⟨w, amb, x, y, temp⟩ := spTemp_of_inWindow still_inside a c
  rw [temp]
  refine ⟨?_, ?_, ?_⟩
  · rw [State.sp, rf_wf_spindle (by decide), rf_wf_spindle (by decide), rf_modSpin, rf_wf_spindle (by decide), State.sp]
  · rw [State.spinOk, State.spinOk, rf_wf_spindle (by decide), rf_wf_spindle (by decide), rf_modSpin, rf_wf_spindle (by decide)]
    rfl
  · rw [rf_wf_spindle (by decide), rf_wf_spindle (by decide), rf_modSpin, rf_wf_same]
    exact Nat.mod_eq_of_lt (utrunc_lt 16 p)

theorem spindleKept_resCheck (s : State) (k b src : Nat) (r : List Int) : SpindleKept s (s.resCheck k b src r) := by
  unfold State.resCheck
  extract_lets p rf cnt checked
  have h : SpindleKept s checked := .of_regs rfl rfl rfl rfl rfl
  exact .ite (h.trans (spindleKept_report ..)) h

theorem rf_spAccel {f : Fld} (own : f.ofSpindle = true)
    (apart : f.key 0 0 ∉ [SP_STATUS_MODE, SP_STATUS_AT_SPEED, SP_STATUS_LOCKED].map (·.key 0 0)) (s : State) : s.spAccel.rf f = s.rf f := by
  rw [State.spAccel, rf_modSpin, rf_spPlan]
  exact (modeTaken_spMode (by decide) (by decide) s).reg own apart

theorem sp_spAccel (s : State) : s.spAccel.sp = spACCEL := by
  rw [State.spAccel, sp_modSpin, sp_spPlan, (modeTaken_spMode (by decide) (by decide) s).sp]

/-- In RUN, off its speed and with no clock surface read, the spindle accelerates. -/
theorem speedTick_of_run (runs : s.sp = spRUN) (off_speed : s.spinOk = false) (inside : s.rb IF_STATUS_TEMP_OOW = false) (c : Nat) (p a : Int) :
    ∃ u, SpindleKept (((s.wf SP_BUS_PIN (utrunc 16 p)).spTemp a c)) u ∧ SpindleKept u.spAccel (s.speedTick c p a []) := by
  unfold State.speedTick
  extract_lets measured speed t38 t39 t40 triggered near driven filter iq plausible checked flown
  have kept : SpindleKept measured triggered :=
    .ite ((((spindleKept_cellTrig ..).trans (spindleKept_cellTrig ..)).trans (spindleKept_cellTrig ..)).trans (spindleKept_cellTrig ..)) (.refl measured)
  obtain ⟨sp, spinOk, -⟩ := measured_kept inside p a c
  have mode : triggered.sp = spRUN := kept.sp.trans (sp.trans runs)
  have slow : triggered.spinOk = false := kept.spinOk.trans (spinOk.trans off_speed)
  have driven_eq : driven = triggered.spAccel :=
    (if_neg (by rw [mode]; decide)).trans (if_pos ⟨mode, congrArg Bool.not slow⟩)
  have known : SpindleKept driven plausible := .of_regs rfl rfl rfl rfl rfl
  have supervised : SpindleKept plausible checked := .ite (spindleKept_resCheck ..) (.refl _)
  exact ⟨triggered, kept, driven_eq ▸ ((known.trans supervised).trans (spindleKept_flySpeed _)).trans (.foldl (fun t _ _ => .refl t) _)⟩

end

/-- Settles O29, command by command; that a stop below the brake speed shorts the windings is the model's reading (log 58). -/
theorem spindleStopsHoldsAndTrips : Obligations.SpindleStopsHoldsAndTrips := by
  intro s
  refine ⟨fun tripped => ⟨congrArg Host.Outcome.next (if_pos tripped), congrArg Host.Outcome.next (if_pos (.inr (tripped.imp_right .inl)))⟩,
    fun stopped => congrArg Host.Outcome.next (spStop_of_stopped stopped), fun hold => congrArg Host.Outcome.next (spStop_of_hold hold),
    fun driven unloaded sound => ⟨_, congrArg Host.Outcome.next (spStop_of_driven unloaded sound driven), ?brake⟩,
    fun undriven unloaded sound => ⟨_, congrArg Host.Outcome.next (spStop_of_undriven unloaded sound ?undriven), ?short⟩,
    fun runs loaded sound parks => congrArg Host.Outcome.next ((spStop_of_turning ?turning).trans (spProceed_of_loaded parks)),
    fun loaded => congrArg Host.Outcome.next (spCoast_of_loaded loaded),
    fun unloaded driven => ⟨_, congrArg Host.Outcome.next (spCoast_of_driven unloaded driven), ?coast⟩, fun above => rfl,
    fun idle => execChopperFault_of_idle idle, fun brakes new => ⟨s.chopperMarked.chopperStop, execChopperFault_of_new brakes new, ?chopper⟩,
    ⟨(s.spMode spDISABLED).wb SP_STATUS_OV2 true, rfl, ?ov2⟩,
    ⟨s.powerLost, rfl, fun n mine => cause_powerLost mine, fun other unlocked => ?unlocked, fun hold => by rw [powerLost_of_hold hold]; rfl,
      fun runs locked => by rw [powerLost_of_run runs locked, sp_spGenerate]; rfl⟩,
    fun x other => congrArg Host.Outcome.next (if_pos other),
    fun x hold few unloaded => congrArg Host.Outcome.next (holdSample_of_few hold few unloaded x),
    fun other => if_neg other, fun hold => ⟨_, execHoldTimeout_of_hold hold, ?lost⟩,
    fun u v b off => congrArg Host.Outcome.next (currentTick_of_off ?off u v b.toNat),
    fun u v b hold calm => ⟨_, rfl, ?held⟩, fun c p a runs off_speed inside _ _ => ⟨_, rfl, ?tick⟩⟩
  case brake =>
    have taken := modeTaken_spMode (m := spBRAKE) (by decide) (by decide) s.stopTaken
    obtain ⟨pg, planned⟩ := spPlan_eq (s.stopTaken.spMode spBRAKE) 0
    have target : (((s.stopTaken.spMode spBRAKE).spPlan 0).pgc 4).target = 0 := target_pgBegin ..
    rw [target, planned]
    exact ⟨taken.sp, taken.stopping, taken.atSpeed, rfl, taken.fc, taken.cmds⟩
  case undriven =>
    rcases undriven with mode | mode | mode | mode
    · exact .inl mode
    · exact .inr (.inl mode)
    · exact .inr (.inr (.inr mode))
    · exact .inr (.inr (.inl mode))
  case short =>
    have taken := modeTaken_spMode (m := spZV) (by decide) (by decide) s.stopTaken
    exact ⟨taken.sp, taken.stopping, rfl⟩
  case turning => rw [runs]; decide
  case coast =>
    have taken := modeTaken_spMode (m := spCOAST) (by decide) (by decide) s
    exact ⟨taken.sp, taken.locked, taken.fc⟩
  case chopper =>
    have kept := spindleKept_chopperStop s.chopperMarked
    obtain ⟨mark, stop, mode⟩ := chopperMarked_marks s
    exact ⟨(kept.rb (by decide)).trans mark, (congrArg Spin.chopStop kept.spin).trans stop, kept.sp.trans mode⟩
  case ov2 =>
    have taken := modeTaken_spMode (m := spDISABLED) (by decide) (by decide) s
    refine ⟨?_, rb_wb_same _ rfl .., ?_⟩
    · rw [State.sp, State.wb, rf_wf_spindle (by decide)]
      exact taken.sp
    · rw [State.wb, rb_wf_spindle (by decide), taken.locked]
      rfl
  case unlocked => rw [powerLost_of_unlocked other unlocked, (spindleKept_powerInhibited s).sp]
  case lost =>
    have taken := modeTaken_spMode (m := spCATCH) (by decide) (by decide) s.holdLost
    exact ⟨taken.sp, taken.crossings⟩
  case off => rcases off with mode | mode | mode | mode | mode | mode | mode <;> rw [mode] <;> rfl
  case held =>
    obtain ⟨id, iq, angle, kept⟩ := currentTick_of_hold hold calm b.toNat
    refine ⟨?_, ?_, ?_⟩
    · rw [kept.reg (by decide), vbus_holdAdvanced]
    · rw [kept.sp, sp_holdAdvanced, sp_withCurrents, hold]
    · rw [kept.spin]
      rfl
  case tick =>
    obtain ⟨u, kept, ticked⟩ := speedTick_of_run runs off_speed inside c p a
    obtain ⟨-, -, power⟩ := measured_kept inside p a c
    refine ⟨?_, ?_⟩
    · rw [ticked.sp, sp_spAccel]
      rfl
    · rw [ticked.reg (by decide), rf_spAccel (by decide) (by decide), kept.reg (by decide), power]

end Sys2Proof.Machine
end

section
/-! Every step keeps the canonical form (R287, R409, R421), for every command does (`exec_next_kept`). -/

namespace Sys2Proof.Machine
open Sys2Proof

theorem canonical_of_kept {s t : State} (kept : Kept s t) (canonical : s.canonical = true) : t.canonical = true := by
  simp only [State.canonical, Bool.and_eq_true] at *
  obtain ⟨⟨mem, regs⟩, run⟩ := canonical
  obtain ⟨regs', run'⟩ := kept.regs ⟨regs, run⟩
  exact ⟨⟨kept.mem mem, regs'⟩, run'⟩

/-- Settles O2, by the queue: an idle cycle touches neither memory nor registers, and the command at the front keeps the form. -/
theorem everyStepKeepsCanonicalForm : Obligations.EveryStepKeepsCanonicalForm := by
  intro s t canonical stepped
  cases queue : s.pending with
  | nil =>
    rw [step_of_pending_nil s queue] at stepped
    cases stepped
    exact canonical
  | cons c rest =>
    have front : step s = exec c { s with pending := rest } := by rw [step, queue]
    obtain ⟨u, next, kept⟩ := exec_next_kept c { s with pending := rest }
    rw [front, next] at stepped
    cases stepped
    exact canonical_of_kept kept canonical

end Sys2Proof.Machine
end

section
/-! What leaves the buffer's own records alone: a fault report (R461 to R463, R466), fields of the buffer's registers at different places, and the
passes over the pseudo-channels. -/

namespace Sys2Proof.Machine
open Sys2Proof

/-! ### A fault report -/

/-- From s to t the buffer's own records are as they were. -/
structure BufKept (s t : State) : Prop where
  buf : t.buf = s.buf

namespace BufKept

theorem refl (s : State) : BufKept s s := ⟨rfl⟩

theorem trans {s t u : State} (h : BufKept s t) (k : BufKept t u) : BufKept s u := ⟨k.buf.trans h.buf⟩

theorem ite {s t u : State} {c : Prop} [Decidable c] (ht : BufKept s t) (hu : BufKept s u) : BufKept s (if c then t else u) := by
  split <;> assumption

theorem foldl {β : Type} {g : State → β → State} (hg : ∀ t b, BufKept t (g t b)) (l : List β) (s : State) : BufKept s (l.foldl g s) :=
  List.foldlRecOn (motive := BufKept s) l g (refl s) fun t ht b _ => ht.trans (hg t b)

theorem wf (s : State) (f : Fld) (v i j : Nat) : BufKept s (s.wf f v i j) := ⟨rfl⟩

theorem emit (s : State) (o : Out) : BufKept s (s.emit o) := ⟨rfl⟩

theorem modSv (s : State) (a : Nat) (f : Servo → Servo) : BufKept s (s.modSv a f) := ⟨rfl⟩

theorem modPl (s : State) (a : Nat) (f : Pl → Pl) : BufKept s (s.modPl a f) := ⟨rfl⟩

theorem startFlush (s : State) : BufKept s s.startFlush := ⟨rfl⟩

/-- After an update that leaves the buffer's records alone. -/
theorem after {s t u : State} (h : BufKept t u) (buf : t.buf = s.buf) : BufKept s u := trans ⟨buf⟩ h

end BufKept

theorem bufKept_cutWrite (s : State) (n : Nat) : BufKept s (s.cutWrite n) := by
  unfold State.cutWrite
  extract_lets channel hit counted
  have count : BufKept s counted := .ite (.wf ..) (.refl s)
  exact .ite (count.trans ⟨rfl⟩) (.refl s)

theorem bufKept_inhibit (s : State) (bit : Nat) (x : Bool) (n : Nat) : BufKept s (s.inhibit bit x n) :=
  have event (t : State) : BufKept t (t.sqEvent n evKILL) := .ite (.wf ..) (.wf ..)
  .trans (t := s.wbit WR_STATUS_INHIBIT bit x n) (.wf ..) (.ite ((bufKept_cutWrite _ n).trans (event _)) (.refl _))

theorem bufKept_inhibitAll (s : State) (bit : Nat) (x : Bool) : BufKept s (s.inhibitAll bit x) :=
  .foldl (fun t n => bufKept_inhibit t bit x n) _ s

theorem bufKept_dropSeek (s : State) (a : Nat) : BufKept s (s.dropSeek a) := by
  obtain ⟨o, dropped⟩ := dropSeek_eq s a
  exact dropped ▸ ⟨rfl⟩

theorem bufKept_startRetract (s : State) (a : Nat) : BufKept s (s.startRetract a) := by
  unfold State.startRetract
  extract_lets cut asked
  have closed : BufKept s cut := .foldl bufKept_cutWrite (chansOf a) s
  have reset : BufKept cut asked := .ite (.modPl ..) (.refl cut)
  have dropped : BufKept asked (asked.dropSeek a) := bufKept_dropSeek asked a
  exact .ite (((((closed.trans reset).trans dropped).trans (.modSv ..)).trans (.wf ..)).trans (.wf ..)) (.refl s)

/-- A power entry that ends with no actuator to reload. -/
theorem bufKept_abortEntry (s : State) (result : Nat) : BufKept s (s.abortEntry result false) := by
  unfold State.abortEntry
  extract_lets parked ended freed released
  have h1 : BufKept s ended := ⟨rfl⟩
  have h2 : BufKept ended freed := .ite (bufKept_inhibitAll ended inhPOWER false) (.refl ended)
  have h3 : BufKept freed released := .foldl (fun t p => .emit t (.note "RELEASE" (partIndex p) 0)) _ freed
  exact .ite (((h1.trans h2).trans h3).trans ⟨rfl⟩) (.refl s)

theorem bufKept_chipFatal (s : State) : BufKept s s.chipFatal := by
  unfold State.chipFatal
  extract_lets latched collectors stopped shut rings ports told retracted ended
  have h1 : BufKept s shut := .trans (t := stopped) ⟨rfl⟩ (bufKept_inhibitAll stopped inhFAULT true)
  have h2 : BufKept shut told := .trans (t := ports) ⟨rfl⟩ (.foldl (fun t (p : Nat × Port) => .emit t (.port p.1 "ERR_FATAL" 0)) _ ports)
  have h3 : BufKept told retracted := .foldl bufKept_startRetract _ told
  have h4 : BufKept retracted ended := .ite ((BufKept.wf retracted PWR_STATUS_COMMITTED 0 0 0).trans (bufKept_abortEntry _ 7)) (.refl retracted)
  exact .ite (.refl s) ((((h1.trans h2).trans h3).trans h4).trans (.startFlush ended))

theorem bufKept_dupUp (s : State) (rg src n : Nat) : BufKept s (s.dupUp rg src n) := by
  unfold State.dupUp
  extract_lets collectors regional regionalCollectors waiting
  have h1 : BufKept s regional := by
    unfold regional
    split
    · exact .ite ⟨rfl⟩ (.refl s)
    · exact .refl s
  have h2 : BufKept s waiting := h1.trans ⟨rfl⟩
  split
  · exact .ite (h2.trans ⟨rfl⟩) h2
  · exact h2

theorem bufKept_toRegion (s : State) (rg : Nat) (r : FaultRec) : BufKept s (s.toRegion rg r) := by
  unfold State.toRegion
  split
  · exact ⟨rfl⟩
  · exact .ite (bufKept_dupUp ..) ⟨rfl⟩

theorem bufKept_report (s : State) (src cell detail : Nat) : BufKept s (s.report src cell detail) := by
  unfold State.report State.reportBy
  extract_lets key recording recorded opened collectors collected
  have h1 : BufKept s recorded := .ite ⟨rfl⟩ (.refl s)
  have h2 : BufKept recorded collected := by
    unfold collected
    split
    · exact (bufKept_toRegion ..).after rfl
    · refine .ite ((bufKept_dupUp ..).after rfl) ?_
      extract_lets merged
      split <;> exact ⟨rfl⟩
  exact (h1.trans h2).trans (.ite (bufKept_chipFatal collected) (.refl collected))

/-! ### Fields of the buffer's registers -/

/-- Two fields, each with one copy or with copies a page apart, that stand at different places of their pages. -/
def Fld.clearOf (f g : Fld) : Bool := f.si % 0x1000 == 0 && f.sj == 0 && g.si % 0x1000 == 0 && g.sj == 0 && g.place != f.place

theorem Fld.key_mod_place {f : Fld} (hi : f.si % 0x1000 = 0) (hj : f.sj = 0) (i j : Nat) : f.key i j % 0x20000 = f.place := by
  obtain ⟨n, pages⟩ := Nat.dvd_of_mod_eq_zero hi
  have split_key : f.key i j = f.base * 32 + f.lo + 0x20000 * (i * n) := by
    simp only [Fld.key, hj, pages]
    ring
  rw [split_key, Nat.add_mul_mod_self_left, Fld.place]

theorem rf_wf_of_clear {f g : Fld} (h : f.clearOf g = true) (s : State) (v i j i' j' : Nat) : (s.wf f v i j).rf g i' j' = s.rf g i' j' := by
  simp only [Fld.clearOf, Bool.and_eq_true, beq_iff_eq, bne_iff_ne, and_assoc] at h
  obtain ⟨fi, fj, gi, gj, differ⟩ := h
  refine rf_wf_ne _ _ _ _ _ _ _ _ fun same => differ ?_
  rw [← Fld.key_mod_place gi gj i' j', same, Fld.key_mod_place fi fj]

theorem rb_wf_of_clear {f g : Fld} (h : f.clearOf g = true) (s : State) (v i j i' j' : Nat) : (s.wf f v i j).rb g i' j' = s.rb g i' j' := by
  rw [State.rb, State.rb, rf_wf_of_clear h]

theorem pcSt_wf_of_clear {f : Fld} (h : f.clearOf HBM_PC_STATUS_STATE = true) (s : State) (v i j p : Nat) : (s.wf f v i j).pcSt p = s.pcSt p :=
  rf_wf_of_clear h ..

/-! ### Passes over the pseudo-channels -/

/-- The same value written to the copies of a field that a list names. -/
theorem rf_foldl_wf {f : Fld} (paged : f.si = 0x1000) (v q : Nat) (l : List Nat) (s : State) :
    (l.foldl (fun t p => t.wf f v p) s).rf f q = if q ∈ l then v % 2 ^ f.width else s.rf f q := by
  induction l generalizing s with
  | nil => rfl
  | cons p r ih =>
    rw [List.foldl_cons, ih]
    by_cases here : q = p
    · subst here
      simp
    · have apart : f.key q 0 ≠ f.key p 0 := by
        simp only [Fld.key, paged]
        omega
      simp only [rf_wf_ne _ _ _ _ _ _ _ _ apart, List.mem_cons, here, false_or]

/-- A pass over the records of the pseudo-channels changes nothing else. -/
theorem foldl_modPc_eq (f : PcSt → PcSt) (l : List Nat) (s : State) : ∃ pc, l.foldl (fun t p => t.modPc p f) s = { s with buf.pc := pc } := by
  induction l generalizing s with
  | nil => exact ⟨s.buf.pc, rfl⟩
  | cons p r ih =>
    obtain ⟨pc, rest⟩ := ih (s.modPc p f)
    exact ⟨pc, rest⟩

theorem pcv_foldl_modPc {f : PcSt → PcSt} (idempotent : ∀ x, f (f x) = f x) (q : Nat) (l : List Nat) (s : State) :
    (l.foldl (fun t p => t.modPc p f) s).pcv q = if q ∈ l then f (s.pcv q) else s.pcv q := by
  induction l generalizing s with
  | nil => rfl
  | cons p r ih =>
    rw [List.foldl_cons, ih]
    by_cases here : q = p
    · subst here
      simp [idempotent]
    · simp only [pcv_modPc_ne _ _ _ _ here, List.mem_cons, here, false_or]

end Sys2Proof.Machine
end

section
/-! The buffer's bytes (R287, R288, R294 to R299, R301): what a store and the clearing of a block do to each byte, what a read and a write do where no bit
is wrong and no page poisoned. -/

namespace Sys2Proof.Machine
open Sys2Proof

/-! ### Tables and lists of bytes -/

theorem tabFind_tabDel_ne {α : Type} {a b : Nat} (h : b ≠ a) (t : Tab α) : tabFind (tabDel t a) b = tabFind t b := by
  induction t with
  | nil => rfl
  | cons p r ih =>
    obtain ⟨k, v⟩ := p
    simp only [tabDel]
    split
    · next same =>
      have skip : k ≠ b := fun e => h (e ▸ same)
      simp only [tabFind, skip, if_false]
    · simp only [tabFind, ih]

theorem tabDel_of_absent {α : Type} {a : Nat} {t : Tab α} (absent : tabFind t a = none) : tabDel t a = t := by
  induction t with
  | nil => rfl
  | cons p r ih =>
    obtain ⟨k, v⟩ := p
    by_cases here : k = a
    · simp [tabFind, here] at absent
    · rw [tabFind, if_neg here] at absent
      rw [tabDel, if_neg here, ih absent]

theorem tabDel_comm {α : Type} {a b : Nat} (differ : a ≠ b) (t : Tab α) : tabDel (tabDel t a) b = tabDel (tabDel t b) a := by
  induction t with
  | nil => rfl
  | cons p r ih =>
    obtain ⟨k, v⟩ := p
    by_cases first : k = a
    · simp [tabDel, first, differ]
    · by_cases second : k = b
      · simp [tabDel, second, differ.symm]
      · simp [tabDel, first, second, ih]

theorem tabFind_filter_key {α : Type} {keep : Nat → Bool} {a : Nat} (kept : keep a = true) (t : Tab α) :
    tabFind (t.filter (fun p => keep p.1)) a = tabFind t a := by
  induction t with
  | nil => rfl
  | cons p r ih =>
    obtain ⟨k, v⟩ := p
    by_cases here : k = a
    · subst here
      simp [tabFind, kept]
    · by_cases keeps : keep k = true <;> simp [keeps, tabFind, here, ih]

theorem memGet_filter {keep : Nat → Bool} {a : Nat} (kept : keep a = true) (m : List Host.Cell) : memGet (m.filter (fun c => keep c.1)) a = memGet m a := by
  induction m with
  | nil => rfl
  | cons c r ih =>
    obtain ⟨k, v⟩ := c
    by_cases here : k = a
    · subst here
      simp [memGet, kept]
    · by_cases keeps : keep k = true <;> simp [keeps, memGet, here, ih]

/-! ### A byte stored -/

/-- The conditions under which a stored byte reads back: the fill of R554 has ended, and memory and the blocks read from the media are in canonical form. -/
structure State.Readable (s : State) : Prop where
  filled : s.buf.filled = true
  wf : Memory.wf s.mem = true
  media : ∀ k, tabFind (tabDel s.buf.media k) k = none

theorem readable_putByte {s : State} (h : s.Readable) (a : Nat) (v : Byte) : (s.putByte a v).Readable := by
  unfold State.putByte
  split
  · exact ⟨h.filled, h.wf, h.media⟩
  · exact ⟨h.filled, memSet_wf _ _ _ h.wf, h.media⟩

/-- A byte depends on the end of the fill, on its block's sector and the bytes written into it since, and on memory at its address alone. -/
theorem byteAt_congr {s t : State} {x : Nat} (filled : t.buf.filled = s.buf.filled) (media : tabFind t.buf.media (x / 4096) = tabFind s.buf.media (x / 4096))
    (overlay : tabFind t.buf.overlay x = tabFind s.buf.overlay x) (mem : memGet t.mem x = memGet s.mem x) : t.byteAt x = s.byteAt x := by
  rw [State.byteAt, State.byteAt, filled, media, overlay, mem]

theorem byteAt_putByte {s : State} (h : s.Readable) (a : Nat) (v : Byte) (x : Nat) : (s.putByte a v).byteAt x = if x = a then v else s.byteAt x := by
  rw [State.putByte]
  split
  · next sector =>
    obtain ⟨id, found⟩ := Option.isSome_iff_exists.1 sector
    split
    · next here => simp [State.byteAt, h.filled, here, found]
    · next other => exact byteAt_congr rfl rfl (tabFind_tabSet_ne _ _ _ _ other) rfl
  · next plain =>
    have none_found : tabFind s.buf.media (a / 4096) = none := Option.not_isSome_iff_eq_none.1 plain
    split
    · next here => simp [State.byteAt, h.filled, here, none_found, memGet_memSet_same _ _ _ h.wf]
    · next other => exact byteAt_congr rfl rfl rfl (memGet_memSet_ne _ other _)

/-- Stores touch memory and the bytes written into media blocks, nothing else. -/
theorem putBytes_eq (bs : List Byte) (s : State) (a : Nat) : ∃ m o, s.putBytes a bs = { s with mem := m, buf.overlay := o } := by
  induction bs generalizing s a with
  | nil => exact ⟨s.mem, s.buf.overlay, rfl⟩
  | cons b bs ih =>
    obtain ⟨m, o, rest⟩ := ih (s.putByte a b) (a + 1)
    refine ⟨m, o, rest.trans ?_⟩
    rw [State.putByte]
    split <;> rfl

theorem readable_putBytes (bs : List Byte) {s : State} (h : s.Readable) (a : Nat) : (s.putBytes a bs).Readable := by
  induction bs generalizing s a with
  | nil => exact h
  | cons b bs ih => exact ih (readable_putByte h a b) (a + 1)

theorem byteAt_putBytes (bs : List Byte) {s : State} (h : s.Readable) (a x : Nat) :
    (s.putBytes a bs).byteAt x = if a ≤ x ∧ x < a + bs.length then bs.getD (x - a) 0 else s.byteAt x := by
  induction bs generalizing s a with
  | nil =>
    rw [if_neg (by simp)]
    rfl
  | cons b bs ih =>
    rw [State.putBytes, ih (readable_putByte h a b), byteAt_putByte h, List.length_cons]
    by_cases here : x = a
    · subst here
      rw [if_neg (by omega), if_pos rfl, if_pos (by omega), Nat.sub_self, List.getD_cons_zero]
    · by_cases later : a + 1 ≤ x ∧ x < a + 1 + bs.length
      · obtain ⟨k, reach⟩ : ∃ k, x = a + (k + 1) := ⟨x - a - 1, by omega⟩
        subst reach
        rw [if_pos later, if_pos (by omega), Nat.add_sub_cancel_left, List.getD_cons_succ]
        congr 1
        omega
      · rw [if_neg later, if_neg here, if_neg (by omega)]

/-! ### A block cleared (R287) -/

theorem readable_clearBlock {s : State} (h : s.Readable) (k : Nat) : (s.clearBlock k).Readable := by
  refine ⟨h.filled, memZero_wf _ _ _ h.wf, fun j => ?_⟩
  change tabFind (tabDel (tabDel s.buf.media k) j) j = none
  by_cases same : j = k
  · rw [same, tabDel_of_absent (h.media k), h.media]
  · rw [tabDel_comm (Ne.symm same), tabFind_tabDel_ne same, h.media]

theorem byteAt_clearBlock {k x : Nat} (other : x / 4096 ≠ k) (s : State) : (s.clearBlock k).byteAt x = s.byteAt x := by
  refine byteAt_congr rfl (tabFind_tabDel_ne other _) ?_ ?_
  · exact tabFind_filter_key (keep := fun q => q / 4096 != k) (bne_iff_ne.2 other) _
  · refine memGet_filter (keep := fun q => !(decide (4096 * k ≤ q) && decide (q < 4096 * k + 4096))) ?_ _
    simp only [Bool.not_eq_true', Bool.and_eq_false_iff, decide_eq_false_iff_not]
    omega

/-! ### Reads and writes where no bit is wrong and no page poisoned (R294, R295, R299) -/

/-- No stored bit is wrong and no page is poisoned. -/
structure State.Sound (s : State) : Prop where
  err : s.buf.err = []
  poison : s.buf.poison = []

section
variable {s : State} (h : s.Sound)
include h

theorem errOf_of_sound (w : Nat) : s.errOf w = 0 := by rw [State.errOf, h.err]; rfl

theorem poisoned_of_sound (page : Nat) : s.poisoned page = false := by rw [State.poisoned, h.poison]; rfl

theorem lost_of_sound (w : Nat) : s.lost w = false := by
  simp [State.lost, State.lostMask, h.poison, tabGet, tabFind, bitOf]

theorem setErr_zero_of_sound (w : Nat) : s.setErr w 0 = s := by
  have err : tabDel s.buf.err w = s.buf.err := by rw [h.err]; rfl
  rw [State.setErr, if_pos rfl, err]

theorem unpoison_of_sound (w : Nat) : s.unpoison w = s := by simp [State.unpoison, lost_of_sound h]

theorem readWord_of_sound (w : Nat) : s.readWord w = (s, false) := by
  have clean : lightDecode 0 = some (false, 0) := rfl
  simp [State.readWord, lost_of_sound h, errOf_of_sound h, clean]

theorem needsStrong_of_sound (a n : Nat) : s.needsStrong a n = [] := by
  have clean : (lightDecode 0).isNone = false := rfl
  simp [State.needsStrong, errOf_of_sound h, clean]

theorem memRead_of_sound {a n : Nat} (inside : a + n ≤ s.dataEnd) : s.memRead a n = (s, false) := by
  rw [State.memRead, State.inData, decide_eq_true inside]
  exact List.foldlRecOn (motive := fun r => r = (s, false)) _ _ rfl fun r hr w _ => by rw [hr, readWord_of_sound h]; rfl

end

/-- The first byte of word w that bytes from a on fill, and one behind the last. -/
def wordLo (a w : Nat) : Nat := max a (8 * w)
def wordHi (a n w : Nat) : Nat := min (a + n) (8 * w + 8)

/-- The bytes that fall in word w. -/
def wordPart (a : Nat) (bytes : List Byte) (w : Nat) : List Byte := (bytes.drop (wordLo a w - a)).take (wordHi a bytes.length w - wordLo a w)

theorem sound_putBytes {s : State} (h : s.Sound) (a : Nat) (bs : List Byte) : (s.putBytes a bs).Sound := by
  obtain ⟨m, o, put⟩ := putBytes_eq bs s a
  rw [put]
  exact ⟨h.err, h.poison⟩

/-- A word of a write, whole or part: its bytes are stored and an armed flip is applied. -/
theorem writeWord_of_sound {s : State} (h : s.Sound) (w a : Nat) (bytes : List Byte) (full : Bool) :
    s.writeWord w a bytes full = ((s.putBytes (wordLo a w) (wordPart a bytes w)).flipTake w, false) := by
  have stored := sound_putBytes h (wordLo a w) (wordPart a bytes w)
  have written : (s.putBytes (wordLo a w) (wordPart a bytes w)).setErr w 0 = s.putBytes (wordLo a w) (wordPart a bytes w) := setErr_zero_of_sound stored w
  simp only [wordLo, wordHi, wordPart] at written stored ⊢
  simp only [State.writeWord, readWord_of_sound h, written, unpoison_of_sound stored, ite_self, Bool.false_eq_true, if_false]

theorem length_wordPart (a : Nat) (bytes : List Byte) (w : Nat) : (wordPart a bytes w).length = wordHi a bytes.length w - wordLo a w := by
  simp only [wordPart, wordHi, wordLo, List.length_take, List.length_drop]
  omega

theorem getD_wordPart {a w x : Nat} {bytes : List Byte} (lo : wordLo a w ≤ x) (hi : x < wordHi a bytes.length w) :
    (wordPart a bytes w).getD (x - wordLo a w) 0 = bytes.getD (x - a) 0 := by
  have reach : wordLo a w - a + (x - wordLo a w) = x - a := by
    simp only [wordLo] at *
    omega
  have within : x - wordLo a w < wordHi a bytes.length w - wordLo a w := by omega
  simp only [wordPart, List.getD_eq_getElem?_getD, List.getElem?_take_of_lt within, List.getElem?_drop, reach]

/-- Word w of a write takes the bytes at its addresses, and no other address changes. -/
theorem byteAt_putWord {s : State} (h : s.Readable) (a : Nat) (bytes : List Byte) (w x : Nat) :
    (s.putBytes (wordLo a w) (wordPart a bytes w)).byteAt x =
      if a ≤ x ∧ x < a + bytes.length ∧ x / 8 = w then bytes.getD (x - a) 0 else s.byteAt x := by
  rw [byteAt_putBytes _ h, length_wordPart]
  by_cases inside : a ≤ x ∧ x < a + bytes.length ∧ x / 8 = w
  · have lo : wordLo a w ≤ x := by
      simp only [wordLo]
      omega
    have hi : x < wordHi a bytes.length w := by
      simp only [wordHi]
      omega
    rw [if_pos inside, if_pos (by omega), getD_wordPart lo hi]
  · rw [if_neg inside, if_neg]
    simp only [wordLo, wordHi]
    omega

/-! ### The passes of a write (R295, R298, R299) -/

/-- The first pass: a 4 KiB block that the write covers no longer holds a media sector. -/
def State.blockPass (a n : Nat) (t : State) (k : Nat) : State := if a ≤ 4096 * k ∧ 4096 * k + 4096 ≤ a + n then t.clearBlock k else t

/-- The write covers the whole page. -/
def pageCovered (a n page : Nat) : Bool := decide (a ≤ 2048 * page ∧ 2048 * page + 2048 ≤ a + n)

/-- The entry of a page leaves the table of poisoned pages, and its parity the update buffer. -/
def State.pageRenewed (t : State) (page : Nat) : State := { t with buf.poison := tabDel t.buf.poison page, buf.parity := t.buf.parity.erase page }

/-- The second pass: the parity of a page that the write covers or touches. -/
def State.pagePass (a n : Nat) (t : State) (page : Nat) : State :=
  if pageCovered a n page then
    ((List.range 8).foldl (fun u k => u.setErr (u.parityWord page k) 0) (t.pageRenewed page)).poisonCounts (page % 16)
  else
    (if 512 ≤ t.buf.parity.length ∧ !t.buf.parity.contains page then t.parityFlush (t.buf.parity.headD 0) else t).parityMerge page

/-- The third pass: the words. -/
def wordPass (a : Nat) (bytes : List Byte) (t : State × Bool) (w : Nat) : State × Bool :=
  let r := t.1.writeWord w a bytes (pageCovered a bytes.length (w / 256))
  (r.1, t.2 || r.2)

theorem memWrite_of_inside {s : State} {a : Nat} {bytes : List Byte} (inside : a + bytes.length ≤ s.dataEnd) :
    s.memWrite a bytes = (wordsOf a bytes.length).foldl (wordPass a bytes)
      ((unitsOf 2048 a bytes.length).foldl (State.pagePass a bytes.length) ((unitsOf 4096 a bytes.length).foldl (State.blockPass a bytes.length) s), false) := by
  rw [State.memWrite, State.inData, decide_eq_true inside]
  rfl

/-- A page that a write touches without covering it: only the update buffer changes. -/
theorem pagePass_of_touched {a n page : Nat} (touched : pageCovered a n page = false) (t : State) :
    ∃ q, t.pagePass a n page = { t with buf.parity := q } := by
  have merged (u : State) : ∃ q, u.parityMerge page = { u with buf.parity := q } := by
    rw [State.parityMerge]
    split
    · exact ⟨u.buf.parity, rfl⟩
    · exact ⟨_, rfl⟩
  rw [State.pagePass, touched]
  split
  · contradiction
  · split
    · exact merged (t.parityFlush _)
    · exact merged t

/-- With no page poisoned a page takes its parity: only the update buffer and registers change. -/
theorem pagePass_eq {t : State} (h : t.Sound) (a n page : Nat) : ∃ r q, t.pagePass a n page = { t with regs := r, buf.parity := q } := by
  cases covered : pageCovered a n page with
  | false =>
    obtain ⟨q, touched⟩ := pagePass_of_touched covered t
    exact ⟨t.regs, q, touched⟩
  | true =>
    have dropped : tabDel t.buf.poison page = t.buf.poison := by rw [h.poison]; rfl
    have renewed : t.pageRenewed page = { t with buf.parity := t.buf.parity.erase page } := by rw [State.pageRenewed, dropped]
    have sound : (t.pageRenewed page).Sound := renewed ▸ ⟨h.err, h.poison⟩
    have fixed : (List.range 8).foldl (fun u k => u.setErr (u.parityWord page k) 0) (t.pageRenewed page) = t.pageRenewed page :=
      List.foldlRecOn (motive := fun u => u = t.pageRenewed page) _ _ rfl fun u hu k _ => by rw [hu, setErr_zero_of_sound sound]
    rw [State.pagePass, covered, if_pos rfl, fixed, renewed]
    exact ⟨_, _, rfl⟩

/-! ### A whole write (R295) -/

/-- Nothing stands in the way of a write: no bit is wrong, no page poisoned, no flip armed, and what is stored reads back. -/
structure State.Ready (s : State) : Prop where
  sound : s.Sound
  readable : s.Readable
  flip : s.buf.flip = none

/-- A pass of a write leaves the part ready, the bytes at the addresses P, the stamped commands and the collection of faults. -/
structure Passed (P : Nat → Prop) (s t : State) : Prop where
  ready : t.Ready
  byte : ∀ x, P x → t.byteAt x = s.byteAt x
  cmds : t.cmds = s.cmds
  fc : t.fc = s.fc

namespace Passed

variable {P : Nat → Prop}

theorem refl {s : State} (h : s.Ready) : Passed P s s := ⟨h, fun _ _ => rfl, rfl, rfl⟩

theorem trans {s t u : State} (h : Passed P s t) (k : Passed P t u) : Passed P s u :=
  ⟨k.ready, fun x hx => (k.byte x hx).trans (h.byte x hx), k.cmds.trans h.cmds, k.fc.trans h.fc⟩

theorem foldl {β : Type} {g : State → β → State} (hg : ∀ t b, t.Ready → Passed P t (g t b)) (l : List β) {s : State} (h : s.Ready) :
    Passed P s (l.foldl g s) :=
  List.foldlRecOn (motive := Passed P s) l g (refl h) fun t ht b _ => ht.trans (hg t b ht.ready)

end Passed

/-- An address that a write of n bytes from a on leaves alone. -/
def outside (a n x : Nat) : Prop := ¬ (a ≤ x ∧ x < a + n)

theorem passed_blockPass {t : State} (h : t.Ready) (a n k : Nat) : Passed (outside a n) t (t.blockPass a n k) := by
  rw [State.blockPass]
  split
  · next covered =>
    refine ⟨⟨⟨h.sound.err, h.sound.poison⟩, readable_clearBlock h.readable k, h.flip⟩, fun x out => byteAt_clearBlock ?_ t, rfl, rfl⟩
    rw [outside] at out
    omega
  · exact .refl h

theorem passed_pagePass {t : State} (h : t.Ready) (a n page : Nat) : Passed (outside a n) t (t.pagePass a n page) := by
  obtain ⟨r, q, eq⟩ := pagePass_eq h.sound a n page
  rw [eq]
  exact ⟨⟨⟨h.sound.err, h.sound.poison⟩, ⟨h.readable.filled, h.readable.wf, h.readable.media⟩, h.flip⟩, fun _ _ => rfl, rfl, rfl⟩

theorem passed_putWord {t : State} (h : t.Ready) (a : Nat) (bytes : List Byte) (w : Nat) :
    Passed (outside a bytes.length) t (t.putBytes (wordLo a w) (wordPart a bytes w)) := by
  have byte (x : Nat) (out : outside a bytes.length x) : (t.putBytes (wordLo a w) (wordPart a bytes w)).byteAt x = t.byteAt x := by
    rw [byteAt_putWord h.readable, if_neg fun inside => out ⟨inside.1, inside.2.1⟩]
  have sound := sound_putBytes h.sound (wordLo a w) (wordPart a bytes w)
  have readable := readable_putBytes (wordPart a bytes w) h.readable (wordLo a w)
  obtain ⟨m, o, eq⟩ := putBytes_eq (wordPart a bytes w) t (wordLo a w)
  rw [eq] at byte sound readable ⊢
  exact ⟨⟨sound, readable, h.flip⟩, byte, rfl, rfl⟩

/-- The bytes of a write are stored word by word. -/
def State.putWords (s : State) (a : Nat) (bytes : List Byte) (ws : List Nat) : State :=
  ws.foldl (fun t w => t.putBytes (wordLo a w) (wordPart a bytes w)) s

theorem passed_putWords {s : State} (h : s.Ready) (a : Nat) (bytes : List Byte) (ws : List Nat) :
    Passed (outside a bytes.length) s (s.putWords a bytes ws) :=
  .foldl (fun _ w ready => passed_putWord ready a bytes w) ws h

theorem foldl_wordPass_of_ready (a : Nat) (bytes : List Byte) (ws : List Nat) {s : State} (h : s.Ready) :
    ws.foldl (wordPass a bytes) (s, false) = (s.putWords a bytes ws, false) := by
  induction ws generalizing s with
  | nil => rfl
  | cons w ws ih =>
    have stored := (passed_putWord h a bytes w).ready
    have unarmed : (s.putBytes (wordLo a w) (wordPart a bytes w)).flipTake w = s.putBytes (wordLo a w) (wordPart a bytes w) := by
      rw [State.flipTake, stored.flip]
    have first : wordPass a bytes (s, false) w = (s.putBytes (wordLo a w) (wordPart a bytes w), false) := by
      rw [wordPass, writeWord_of_sound h.sound, unarmed]
      rfl
    rw [List.foldl_cons, first, ih stored]
    rfl

theorem byteAt_putWords (a : Nat) (bytes : List Byte) (x : Nat) (ws : List Nat) {s : State} (h : s.Ready) :
    (s.putWords a bytes ws).byteAt x = if a ≤ x ∧ x < a + bytes.length ∧ x / 8 ∈ ws then bytes.getD (x - a) 0 else s.byteAt x := by
  induction ws generalizing s with
  | nil => simp [State.putWords]
  | cons w ws ih =>
    have rest := ih (passed_putWord h a bytes w).ready
    rw [byteAt_putWord h.readable] at rest
    rw [State.putWords, List.foldl_cons, ← State.putWords, rest]
    by_cases later : a ≤ x ∧ x < a + bytes.length ∧ x / 8 ∈ ws
    · rw [if_pos later, if_pos ⟨later.1, later.2.1, List.mem_cons_of_mem w later.2.2⟩]
    · by_cases here : a ≤ x ∧ x < a + bytes.length ∧ x / 8 = w
      · rw [if_neg later, if_pos here, if_pos ⟨here.1, here.2.1, by simp [here.2.2]⟩]
      · rw [if_neg later, if_neg here, if_neg]
        simp only [List.mem_cons]
        tauto

theorem mem_wordsOf {a n x : Nat} (lo : a ≤ x) (hi : x < a + n) : x / 8 ∈ wordsOf a n := by
  have some_bytes : n ≠ 0 := by omega
  rw [wordsOf, unitsOf, if_neg some_bytes, List.mem_map]
  exact ⟨x / 8 - a / 8, List.mem_range.2 (by omega), by omega⟩

/-- A write inside the data region is no bus error; its addresses then read the bytes written, every other address as before. -/
theorem memWrite_of_ready {s : State} (h : s.Ready) {a : Nat} {bytes : List Byte} (inside : a + bytes.length ≤ s.dataEnd) :
    ∃ t, s.memWrite a bytes = (t, false) ∧ Passed (outside a bytes.length) s t
      ∧ ∀ x, t.byteAt x = if a ≤ x ∧ x < a + bytes.length then bytes.getD (x - a) 0 else s.byteAt x := by
  have blocks : Passed (outside a bytes.length) s _ :=
    .foldl (fun _ k ready => passed_blockPass ready a bytes.length k) (unitsOf 4096 a bytes.length) h
  have pages := blocks.trans (.foldl (fun _ page ready => passed_pagePass ready a bytes.length page) (unitsOf 2048 a bytes.length) blocks.ready)
  refine ⟨_, (memWrite_of_inside inside).trans (foldl_wordPass_of_ready a bytes _ pages.ready), pages.trans (passed_putWords pages.ready a bytes _), fun x => ?_⟩
  rw [byteAt_putWords a bytes x _ pages.ready]
  by_cases within : a ≤ x ∧ x < a + bytes.length
  · rw [if_pos ⟨within.1, within.2, mem_wordsOf within.1 within.2⟩, if_pos within]
  · rw [if_neg fun more => within ⟨more.1, more.2.1⟩, if_neg within, pages.byte x within]

end Sys2Proof.Machine
end

section
/-! Requests to the buffer, the flip, the fill (R287, R289, R294, R295, R297, R298, R301, R554): each command where nothing holds the request. -/

namespace Sys2Proof.Machine
open Sys2Proof

/-! ### The flip (R301) -/

/-- Address a is a multiple of 8: one unit of 2 KiB or 4 KiB holds the word. -/
theorem unitsOf_word {a u : Nat} (aligned : a % 8 = 0) (words : u % 8 = 0) : unitsOf u a 8 = [a / u] := by
  obtain ⟨k, unit⟩ := Nat.dvd_of_mod_eq_zero words
  obtain ⟨w, word⟩ := Nat.dvd_of_mod_eq_zero aligned
  have one : (a + 8 - 1) / u = a / u := by
    rw [unit, word, Nat.mul_div_mul_left _ _ (by decide : 0 < 8), ← Nat.div_div_eq_div_mul]
    congr 1
    omega
  rw [unitsOf, if_neg (by decide), one, Nat.sub_self]
  simp

/-- The armed flip has met word w: its stored error takes the mask, and the arming is spent. -/
def State.flipSpent (s : State) (w : Nat) : State :=
  { ((s.setErr w (Nat.xor (s.errOf w) s.flipMask.toNat)).wb HBM_FLIP_CTRL_ARM false) with buf.flip := none, flipMask := 0 }

theorem flipTake_of_match {s : State} {w pc : Nat} (armed : s.buf.flip = some (pc, none)) (hit : s.pcOf (w / 256) = pc) : s.flipTake w = s.flipSpent w := by
  simp [State.flipTake, State.flipSpent, armed, hit]

theorem errOf_setErr_of_sound {s : State} (h : s.Sound) (w m : Nat) : (s.setErr w m).errOf w = m := by
  by_cases zero : m = 0
  · rw [zero, setErr_zero_of_sound h, errOf_of_sound h]
  · simp [State.setErr, zero, State.errOf]

/-- The write of one aligned word stores its bytes and leaves everything the match of a flip reads as it was. -/
theorem memWrite_word {s : State} (h : s.Sound) {a : Nat} {bytes : List Byte} (aligned : a % 8 = 0) (eight : bytes.length = 8) (inside : a + 8 ≤ s.dataEnd) :
    ∃ v : State, s.memWrite a bytes = (v.flipTake (a / 8), false) ∧ v.Sound ∧ v.buf.flip = s.buf.flip ∧ v.flipMask = s.flipMask ∧ v.pcOf = s.pcOf := by
  have untouched : s.blockPass a 8 (a / 4096) = s := by
    rw [State.blockPass, if_neg]
    omega
  have partly : pageCovered a 8 (a / 2048) = false := by
    simp only [pageCovered, decide_eq_false_iff_not]
    omega
  obtain ⟨q, page⟩ := pagePass_of_touched partly s
  obtain ⟨m, o, put⟩ := putBytes_eq (wordPart a bytes (a / 8)) ({ s with buf.parity := q } : State) (wordLo a (a / 8))
  have sound : ({ s with buf.parity := q } : State).Sound := ⟨h.err, h.poison⟩
  refine ⟨{ s with mem := m, buf.parity := q, buf.overlay := o }, ?_, ⟨h.err, h.poison⟩, rfl, rfl, rfl⟩
  rw [memWrite_of_inside (by rw [eight]; exact inside), eight, wordsOf]
  simp only [unitsOf_word aligned, Nat.reduceMod, List.foldl_cons, List.foldl_nil, untouched, page]
  rw [wordPass, writeWord_of_sound sound, put]
  rfl

/-- The write of one aligned word with a flip armed on its pseudo-channel. -/
theorem memWrite_word_flipped {s : State} (h : s.Sound) {a pc : Nat} {bytes : List Byte} (aligned : a % 8 = 0) (eight : bytes.length = 8)
    (inside : a + 8 ≤ s.dataEnd) (armed : s.buf.flip = some (pc, none)) (hit : s.pcOf (a / 2048) = pc) :
    ∃ t, s.memWrite a bytes = (t, false) ∧ t.buf.flip = none ∧ t.flipMask = 0 ∧ t.errOf (a / 8) = s.flipMask.toNat ∧ t.rb HBM_FLIP_CTRL_ARM = false := by
  obtain ⟨v, written, sound, same_flip, same_mask, same_pc⟩ := memWrite_word h aligned eight inside
  have word_page : a / 8 / 256 = a / 2048 := by omega
  have taken := flipTake_of_match (s := v) (w := a / 8) (same_flip.trans armed) (by rw [same_pc, word_page, hit])
  have mask : (v.flipSpent (a / 8)).errOf (a / 8) = Nat.xor (v.errOf (a / 8)) v.flipMask.toNat := errOf_setErr_of_sound sound ..
  have from_zero : Nat.xor 0 s.flipMask.toNat = s.flipMask.toNat := Nat.zero_xor _
  rw [errOf_of_sound sound, same_mask, from_zero] at mask
  rw [taken] at written
  exact ⟨v.flipSpent (a / 8), written, rfl, rfl, mask, rb_wb_same (v.setErr ..) rfl false 0 0⟩

/-! ### Requests (R289, R294, R295, R297) -/

section
variable {s : State} (req : BufReq) {a n : Nat}

theorem serveOp_of_outside (o : BufOp) (beyond : s.dataEnd < o.addr + o.len) : s.serveOp o = s.busReact o.req o.addr := by
  have out : s.inData o.addr o.len = false := decide_eq_false (by omega)
  simp [State.serveOp, out]

theorem serveOp_read_of_sound (h : s.Sound) (plain : s.inWindow a n = false) (inside : a + n ≤ s.dataEnd)
    (free : (unitsOf 2048 a n).any s.pageHeld = false) :
    s.serveOp { req := req, addr := a, len := n, wr := none } = s.emit (.buffer req false (s.bytesAt a n)) := by
  have here : s.inData a n = true := decide_eq_true inside
  simp only [State.serveOp, State.bufRead, here, free, plain, needsStrong_of_sound h, memRead_of_sound h inside, Bool.not_true, Bool.false_eq_true, if_false,
    ne_eq, not_true_eq_false]

theorem serveOp_write {bytes : List Byte} (plain : s.inWindow a bytes.length = false) (inside : a + bytes.length ≤ s.dataEnd)
    (free : (unitsOf 2048 a bytes.length).any s.pageHeld = false) {t : State} (written : s.memWrite a bytes = (t, false)) :
    s.serveOp { req := req, addr := a, len := bytes.length, wr := some bytes } = t.emit (.buffer req false []) := by
  have here : s.inData a bytes.length = true := decide_eq_true inside
  simp only [State.serveOp, State.bufWrite, here, free, plain, written, Bool.not_true, Bool.false_eq_true, if_false, Bool.false_and]

end

/-! ### Strong decodes, the fill (R297, R554) -/

theorem strongDone_of_wanted {s : State} {page word : Nat} {o : BufOp} (waits : o ∈ s.buf.waits) (read : o.wr = none)
    (wanted : (s.needsStrong o.addr o.len).contains page = true) : s.strongDone page word = (s.strongDecode page word).serveWaits := by
  rw [State.strongDone, if_pos]
  exact List.any_eq_true.2 ⟨o, waits, by rw [read, wanted]; rfl⟩

theorem zeroFilled_of_trained {s : State} (unfilled : s.buf.filled = false) (trained : ∀ p, p < 16 → s.pcSt p ≠ 0) :
    s.zeroFilled = { s with mem := [], buf.err := [], buf.parity := [], buf.poison := [], buf.media := [], buf.overlay := [], buf.filled := true } := by
  have all : (List.range 16).any (fun p => s.pcSt p == pcUNTRAINED) = false := by
    simp only [List.any_eq_false, List.mem_range, beq_iff_eq]
    exact trained
  simp [State.zeroFilled, unfilled, all]

theorem zeroFilled_of_idle {s : State} (idle : s.buf.filled = true ∨ s.pcSt 0 = 0) : s.zeroFilled = s := by
  refine if_pos (idle.imp_right fun untrained => ?_)
  exact List.any_eq_true.2 ⟨0, by decide, beq_iff_eq.2 untrained⟩

/-- Settles O30, command by command; that a byte not written since the fill reads 0 is R554's. -/
theorem bufferReadsAndWrites : Obligations.BufferReadsAndWrites := by
  intro s
  refine ⟨fun req a n plain inside free err poison => ?read, fun req a bytes plain inside free err poison unarmed wf filled media => ?write,
    fun req a bytes pc aligned eight plain inside free err poison armed hit => ?flip, fun e a n beyond => ?beyond,
    fun p w none_waits => congrArg Host.Outcome.next (if_neg (by simp [none_waits])),
    fun p w o waits read wanted => congrArg Host.Outcome.next (strongDone_of_wanted waits read wanted), fun p => rfl,
    fun any_page => ?arm, fun one_page => ?armPage, fun unfilled trained => ?fill, fun idle => congrArg Host.Outcome.next (zeroFilled_of_idle idle)⟩
  case read => exact congrArg Host.Outcome.next (serveOp_read_of_sound (s := s.bufAwake) req ⟨err, poison⟩ plain inside free)
  case write =>
    obtain ⟨t, written, passed, bytes_read⟩ := memWrite_of_ready (s := s.bufAwake) ⟨⟨err, poison⟩, ⟨filled, wf, media⟩, unarmed⟩ inside
    exact ⟨t, congrArg Host.Outcome.next (serveOp_write (s := s.bufAwake) req plain inside free written), bytes_read, passed.ready.sound.err,
      passed.ready.sound.poison, passed.cmds, passed.fc⟩
  case flip =>
    obtain ⟨t, written, spent⟩ := memWrite_word_flipped (s := s.bufAwake) ⟨err, poison⟩ aligned eight inside armed hit
    rw [← eight] at plain inside free
    exact ⟨_, congrArg Host.Outcome.next (serveOp_write (s := s.bufAwake) req plain inside free written), spent⟩
  case beyond => exact congrArg Host.Outcome.next (serveOp_of_outside (s := s.bufAwake) _ beyond)
  case arm => exact congrArg Host.Outcome.next (by rw [State.flipArm, any_page]; rfl)
  case armPage => exact congrArg Host.Outcome.next (by rw [State.flipArm, one_page]; rfl)
  case fill => exact ⟨_, congrArg Host.Outcome.next (zeroFilled_of_trained unfilled trained), rfl, fun _ => rfl, rfl, rfl, rfl⟩

end Sys2Proof.Machine
end

section
/-! The Skimmer (R302, R303, R309): a page with nothing wrong, then each command by EN, the lap and the row it finds. -/

namespace Sys2Proof.Machine
open Sys2Proof

/-! ### A page with nothing wrong (R294, R297) -/

section
variable {s : State} (h : s.Sound)
include h

theorem pageErrs_of_sound (page : Nat) : s.pageErrs page = [] := by rw [State.pageErrs, h.err]; rfl

theorem parityErrs_of_sound (page : Nat) : s.parityErrs page = [] := by
  rw [State.parityErrs]
  split
  · rfl
  · simp [errOf_of_sound h]

theorem erased_of_sound (page : Nat) : s.erased page = [] := by rw [State.erased, pageErrs_of_sound h]; rfl

theorem rsLoad_of_sound (page i : Nat) : s.rsLoad page i = 0 := by
  rw [State.rsLoad, erased_of_sound h, pageErrs_of_sound h, parityErrs_of_sound h]
  rfl

theorem parityFix_of_sound (page : Nat) : s.parityFix page = s := by rw [State.parityFix, parityErrs_of_sound h]; rfl

theorem strongDecode_of_sound (page word : Nat) : s.strongDecode page word = s := by
  have within : (List.range 16).all (fun i => decide (s.rsLoad page i ≤ 4)) = true := by simp [rsLoad_of_sound h]
  rw [State.strongDecode, poisoned_of_sound h, if_neg Bool.false_ne_true, if_pos within]
  simp [pageErrs_of_sound h, parityFix_of_sound h]

/-- The check of a page with nothing wrong changes nothing. -/
theorem checkPage_of_sound (page : Nat) : s.checkPage page = s := by
  simp [State.checkPage, h.err, strongDecode_of_sound h]

end

/-! ### Laps (R303, R309) -/

/-- A pseudo-channel at the start of a lap. -/
def PcSt.lapped (x : PcSt) : PcSt := { x with row := 0, restarts := 0 }

/-- The state in which the pass over the pseudo-channels starts a lap. -/
def State.lapOpened (s : State) : State := { s with buf.lap := true, buf.overdue := false }

/-- A new lap starts with nothing overdue, memory and registers as they were. -/
theorem lapStart_eq (s : State) : ∃ pc, s.lapStart = { s.lapOpened with buf.pc := pc } := foldl_modPc_eq PcSt.lapped (List.range 16) s.lapOpened

theorem rf_lapStart (s : State) (f : Fld) (i j : Nat) : s.lapStart.rf f i j = s.rf f i j := by
  obtain ⟨pc, eq⟩ := lapStart_eq s
  rw [eq]
  rfl

/-- The lap runs, not overdue, over the same memory. -/
theorem lapStart_runs (s : State) : s.lapStart.buf.lap = true ∧ s.lapStart.buf.overdue = false ∧ s.lapStart.mem = s.mem := by
  obtain ⟨pc, eq⟩ := lapStart_eq s
  rw [eq]
  exact ⟨rfl, rfl, rfl⟩

/-- At row 0 of every pseudo-channel. -/
theorem pcv_lapStart {p : Nat} (channel : p < 16) (s : State) : (s.lapStart.pcv p).row = 0 ∧ (s.lapStart.pcv p).restarts = 0 := by
  have lapped : s.lapStart.pcv p = (s.lapOpened.pcv p).lapped :=
    (pcv_foldl_modPc (f := PcSt.lapped) (fun _ => rfl) p _ s.lapOpened).trans (if_pos (List.mem_range.2 channel))
  rw [lapped]
  exact ⟨rfl, rfl⟩

/-- The state of the registers at the end of a lap of ms milliseconds. -/
def State.lapCounted (s : State) (ms : Nat) : State :=
  ((s.wf SKIM_LAP_LAST ms).wf SKIM_LAP_MAX_MAX (max ms (s.rf SKIM_LAP_MAX_MAX))).cnt SKIM_COUNT_LAP_COUNT

theorem lapEnd_of_done {s : State} (on : s.rb SKIM_CTRL_EN = true) (lap : s.buf.lap = true) (done : s.lapDone = true) (ms : Nat) :
    s.lapEnd ms = (s.lapCounted ms).lapStart := by
  simp [State.lapEnd, State.lapCounted, on, lap, done]

/-- The last and the longest lap and the count of laps. -/
theorem rf_lapCounted {s : State} {ms : Nat} (last : ms < 2 ^ 32) (longest : s.rf SKIM_LAP_MAX_MAX < 2 ^ 32) :
    (s.lapCounted ms).rf SKIM_LAP_LAST = ms ∧ (s.lapCounted ms).rf SKIM_LAP_MAX_MAX = max ms (s.rf SKIM_LAP_MAX_MAX)
      ∧ (s.lapCounted ms).rf SKIM_COUNT_LAP_COUNT = min (s.rf SKIM_COUNT_LAP_COUNT + 1) (2 ^ SKIM_COUNT_LAP_COUNT.width - 1) := by
  refine ⟨?_, ?_, ?_⟩
  · rw [State.lapCounted, State.cnt, rf_wf_of_clear (by decide), rf_wf_of_clear (by decide), rf_wf_same]
    exact Nat.mod_eq_of_lt last
  · rw [State.lapCounted, State.cnt, rf_wf_of_clear (by decide), rf_wf_same]
    exact Nat.mod_eq_of_lt (max_lt last longest)
  · rw [State.lapCounted, rf_cnt_same, rf_wf_of_clear (by decide), rf_wf_of_clear (by decide)]

/-! ### Pages (R302, R303) -/

section
variable {s : State} {p page : Nat} (on : s.rb SKIM_CTRL_EN = true) (lap : s.buf.lap = true) (filled : s.buf.filled = true) (active : s.pcSt p = pcACTIVE)
  (left : (s.pcv p).row < s.lapRows p) (found : s.rowPage p (s.pcv p).row = some page)
include on lap filled active left found

theorem skimPage_of_sound (h : s.Sound) : s.skimPage p false = (s.cnt SKIM_FOUND_CORR 0 0 0).skimNext p := by
  have behind : ¬ s.lapRows p ≤ (s.pcv p).row := by omega
  have clean : (s.cnt SKIM_FOUND_CORR 0 0 0).poisoned page = false := poisoned_of_sound h page
  simp [State.skimPage, on, lap, filled, active, behind, found, checkPage_of_sound h, clean]

theorem skimPage_of_rewritten (few : (s.pcv p).restarts ≠ 15) :
    s.skimPage p true = (s.cnt SKIM_STATUS_RESTARTS).modPc p (fun x => { x with restarts := x.restarts + 1 }) := by
  have behind : ¬ s.lapRows p ≤ (s.pcv p).row := by omega
  have few' : ((s.cnt SKIM_STATUS_RESTARTS).pcv p).restarts ≠ 15 := few
  simp [State.skimPage, on, lap, filled, active, behind, found, few']

theorem skimPage_of_last (last : (s.pcv p).restarts = 15) :
    s.skimPage p true = ((s.cnt SKIM_STATUS_RESTARTS).cnt SKIM_STATUS_SKIPPED).skimNext p := by
  have behind : ¬ s.lapRows p ≤ (s.pcv p).row := by omega
  have last' : ((s.cnt SKIM_STATUS_RESTARTS).pcv p).restarts = 15 := last
  simp [State.skimPage, on, lap, filled, active, behind, found, last']

end

/-- Without EN no page is taken. -/
theorem skimPage_of_off {s : State} (off : s.rb SKIM_CTRL_EN = false) (p : Nat) (rewritten : Bool) : s.skimPage p rewritten = s := by
  simp [State.skimPage, off]

/-- Settles O32, command by command; that an overdue lap is source 32 of the Skimmer's block is the model's numbering (log 28). -/
theorem theSkimmerLaps : Obligations.TheSkimmerLaps := by
  intro s
  have en_max : (s.wf SKIM_LAP_MAX_MAX 0).rb SKIM_CTRL_EN = s.rb SKIM_CTRL_EN := rb_wf_of_clear (by decide) ..
  refine ⟨fun on => congrArg Host.Outcome.next (if_pos on),
    fun off => ⟨(s.wb SKIM_CTRL_EN true).lapStart, congrArg Host.Outcome.next (if_neg (by simp [off])), ?on⟩,
    rfl, fun off => congrArg Host.Outcome.next (if_neg (by simp [en_max, off])),
    fun on => ⟨(s.wf SKIM_LAP_MAX_MAX 0).lapStart, congrArg Host.Outcome.next (if_pos (en_max.trans on)), ?restart⟩,
    fun on lap fresh => congrArg Host.Outcome.next (if_pos (by simp [on, lap, fresh])),
    fun overdue => congrArg Host.Outcome.next (if_neg (by simp [overdue])),
    fun ms more => congrArg Host.Outcome.next (if_pos (by simp [more])),
    fun ms on lap done bound => ⟨_, congrArg Host.Outcome.next (lapEnd_of_done on lap done ms.toNat), ?ended⟩,
    fun p w off => congrArg Host.Outcome.next (skimPage_of_off off p.val w), fun p r on lap filled active row left page => ?page⟩
  case on =>
    obtain ⟨runs, fresh, mem⟩ := lapStart_runs (s.wb SKIM_CTRL_EN true)
    refine ⟨?_, runs, fresh, fun p channel => (pcv_lapStart channel _).1, mem⟩
    rw [State.rb, rf_lapStart]
    exact rb_wb_same s rfl true 0 0
  case restart => exact ⟨(rf_lapStart ..).trans (rf_wf_same ..), (lapStart_runs _).1, fun p channel => pcv_lapStart channel _⟩
  case ended =>
    obtain ⟨last, longest, count⟩ := rf_lapCounted ms.isLt bound
    simp only [rf_lapStart]
    exact ⟨last, longest, count, fun p channel => (pcv_lapStart channel _).1, (lapStart_runs _).2.1⟩
  case page =>
    subst row
    obtain ⟨g, found⟩ := Option.isSome_iff_exists.1 page
    exact ⟨fun err poison => congrArg Host.Outcome.next (skimPage_of_sound on lap filled active left found ⟨err, poison⟩),
      fun few => congrArg Host.Outcome.next (skimPage_of_rewritten on lap filled active left found few),
      fun last => congrArg Host.Outcome.next (skimPage_of_last on lap filled active left found last)⟩

end Sys2Proof.Machine
end

section
/-! The pseudo-channels (R290 to R292, R304 to R306): temperature, refresh, training and retirement, each command by the state it finds. -/

namespace Sys2Proof.Machine
open Sys2Proof

/-! ### Temperature (R290) -/

/-- The registers and the count after a reading of t. -/
def State.tempTaken (s : State) (t : Int) : State :=
  { ((s.wf ECC_STATUS_TEMP (utrunc 8 t)).wf ECC_STATUS_REF_MULT (refMult (s.rf ECC_STATUS_REF_MULT) t)) with buf.hot := if 125 < t then s.buf.hot + 1 else 0 }

/-- A change of the multiplier is reported. -/
def State.multReported (s : State) (t : Int) : State :=
  if refMult (s.rf ECC_STATUS_REF_MULT) t = s.rf ECC_STATUS_REF_MULT then s.tempTaken t
  else (s.tempTaken t).report (srcId DAT 16 38) 0 (refMult (s.rf ECC_STATUS_REF_MULT) t)

theorem hbmTemp_eq (s : State) (t : Int) :
    s.hbmTemp t = if (if 125 < t then s.buf.hot + 1 else 0) = 10 then (s.multReported t).report (srcId DAT 16 37) else s.multReported t := rfl

theorem bufKept_multReported (s : State) (t : Int) : BufKept (s.tempTaken t) (s.multReported t) := .ite (.refl _) (bufKept_report ..)

theorem hbmTemp_of_cool {s : State} {t : Int} (cool : t ≤ 125) : s.hbmTemp t = s.multReported t := by
  rw [hbmTemp_eq, if_neg (Int.not_lt.2 cool)]
  rfl

theorem tempTaken_of_cool {s : State} {t : Int} (cool : t ≤ 125) : s.tempTaken t =
    { ((s.wf ECC_STATUS_TEMP (utrunc 8 t)).wf ECC_STATUS_REF_MULT (refMult (s.rf ECC_STATUS_REF_MULT) t)) with buf.hot := 0 } := by
  rw [State.tempTaken, if_neg (Int.not_lt.2 cool)]

theorem hbmTemp_of_tenth {s : State} {t : Int} (above : 125 < t) (nine : s.buf.hot = 9) :
    s.hbmTemp t = (s.multReported t).report (srcId DAT 16 37) ∧ (s.multReported t).buf.hot = 10 := by
  have ten : (if 125 < t then s.buf.hot + 1 else 0) = 10 := by rw [if_pos above, nine]
  exact ⟨by rw [hbmTemp_eq, if_pos ten], (congrArg Buf.hot (bufKept_multReported s t).buf).trans ten⟩

/-- The three bands and their hysteresis. -/
theorem refMult_bands (t : Int) :
    (105 < t → refMult 0 t = 2) ∧ (85 < t → t ≤ 105 → refMult 0 t = 1) ∧ (t ≤ 85 → refMult 0 t = 0) ∧ (105 < t → refMult 1 t = 2)
      ∧ (82 ≤ t → t ≤ 105 → refMult 1 t = 1) ∧ (t < 82 → refMult 1 t = 0) ∧ (102 ≤ t → refMult 2 t = 2)
      ∧ (82 ≤ t → t < 102 → refMult 2 t = 1) ∧ (t < 82 → refMult 2 t = 0) := by
  simp only [refMult]
  grind

/-! ### Refresh (R291, R475) -/

section
variable {s : State} {p : Nat}

theorem pcRuns_of_idle (idle : s.pcSt p = 0 ∨ s.pcSt p = 3) : s.pcRuns p = false := by
  rcases idle with h | h <;> simp [State.pcRuns, h, pcACTIVE, pcRELOCATING]

theorem pcRuns_of_running (runs : s.pcSt p = 1 ∨ s.pcSt p = 2) : s.pcRuns p = true := by
  rcases runs with h | h <;> simp [State.pcRuns, h, pcACTIVE, pcRELOCATING]

theorem refreshDue_of_idle (idle : s.pcSt p = 0 ∨ s.pcSt p = 3) (bank : Nat) (busy : Bool) : s.refreshDue p bank busy = s := by
  simp [State.refreshDue, pcRuns_of_idle idle]

/-- A refresh of a busy bank joins those postponed. -/
theorem arrears_refreshDue_of_busy (runs : s.pcSt p = 1 ∨ s.pcSt p = 2) (bank : Nat) :
    (s.refreshDue p bank true).buf.arrears = tabSet s.buf.arrears (256 * p + bank) (min 8 (tabGet 0 s.buf.arrears (256 * p + bank) + 1)) := by
  have postponed : ¬ min 8 (tabGet 0 s.buf.arrears (256 * p + bank) + 1) = 0 := by omega
  simp [State.refreshDue, pcRuns_of_running runs, postponed]

end

/-! ### Re-tracking (R292, R306) -/

/-- PC q has failed its n-th re-track in a row, and its turn stays. -/
def State.trackFailed (s : State) (q n : Nat) : State := { (s.modPc q (fun x => { x with retries := n })) with buf.track := q }

section
variable {s : State} {q : Nat} (turn : ((List.range 16).map (fun i => (s.buf.track + i) % 16)).find? s.pcRuns = some q)
include turn

theorem retrack_of_ok : s.retrack true = { (s.modPc q (fun x => { x with retries := 0 })) with buf.track := (q + 1) % 16 } := by
  simp [State.retrack, turn]

theorem retrack_of_failed : s.retrack false = if (s.pcv q).retries + 1 = 4 ∨ s.pcSt q = pcRELOCATING then
    (s.trackFailed q ((s.pcv q).retries + 1)).report (srcId DAT 16 36) q else s.trackFailed q ((s.pcv q).retries + 1) := by
  simp only [State.retrack, turn, Bool.false_eq_true, if_false]
  rfl

theorem retrack_of_few (few : (s.pcv q).retries < 3) (active : s.pcSt q = 1) : s.retrack false = s.trackFailed q ((s.pcv q).retries + 1) := by
  rw [retrack_of_failed turn, if_neg]
  rw [active, pcRELOCATING]
  omega

theorem retrack_of_fourth (three : (s.pcv q).retries = 3) : s.retrack false = (s.trackFailed q 4).report (srcId DAT 16 36) q := by
  rw [retrack_of_failed turn, three, if_pos (.inl rfl)]

end

/-! ### A retired pseudo-channel (R304, R306) -/

theorem pcSt_wf_state {v : Nat} (state : v < 4) (s : State) (p q : Nat) : (s.wf HBM_PC_STATUS_STATE v p).pcSt q = if q = p then v else s.pcSt q := by
  rw [State.pcSt, rf_wf, Nat.mod_eq_of_lt (show v < 2 ^ HBM_PC_STATUS_STATE.width from state)]
  refine if_congr ?_ rfl rfl
  simp only [Fld.key, HBM_PC_STATUS_STATE]
  omega

/-- The registers of a pseudo-channel that is retired. -/
theorem rf_pcGone (s : State) (p : Nat) (f : Fld) (i : Nat) : (s.pcGone p).rf f i =
    (((((s.wf HBM_PC_STATUS_STATE pcRETIRED p).wb HBM_PC_CTRL_RETIRE false p).wf HBM_PC_REFPEND_ARREARS 0 p).wb ECC_STATUS_RESERVE_USED true).wf
      ECC_STATUS_RETIRED_PC p).rf f i := rfl

theorem pcSt_pcGone (s : State) (p q : Nat) : (s.pcGone p).pcSt q = if q = p then 3 else s.pcSt q := by
  rw [State.pcSt, rf_pcGone, ← State.pcSt, pcSt_wf_of_clear (by decide), State.wb, pcSt_wf_of_clear (by decide), pcSt_wf_of_clear (by decide), State.wb,
    pcSt_wf_of_clear (by decide), pcSt_wf_state (by decide)]
  rfl

/-- The reserve is used, and by which pseudo-channel. -/
theorem reserve_pcGone {p : Nat} (channel : p < 16) (s : State) :
    (s.pcGone p).rb ECC_STATUS_RESERVE_USED = true ∧ (s.pcGone p).rf ECC_STATUS_RETIRED_PC = p := by
  constructor
  · rw [State.rb, rf_pcGone, rf_wf_of_clear (by decide)]
    exact rb_wb_same _ rfl true 0 0
  · rw [rf_pcGone, rf_wf_same]
    exact Nat.mod_eq_of_lt channel

/-! ### Training (R292) -/

/-- The pseudo-channels that have passed run. -/
def State.activated (s : State) (bad : List Nat) : State :=
  ((List.range 16).filter (fun p => !bad.contains p)).foldl (fun t p => t.wf HBM_PC_STATUS_STATE pcACTIVE p) s

theorem pcSt_activated {bad : List Nat} {q : Nat} (channel : q < 16) (s : State) : (s.activated bad).pcSt q = if q ∈ bad then s.pcSt q else 1 := by
  rw [State.activated, State.pcSt, rf_foldl_wf rfl]
  by_cases failed : q ∈ bad <;> simp [failed, channel] <;> rfl

/-- PC p has failed: it is retired before use, with an empty copy phase. -/
def State.trainingLost (s : State) (p : Nat) : State := ((s.pcGone p).wf HBM_PC_STATUS_CAUSE 1 p).wf HBM_PC_RELOC_PTR s.rowsMoved p

/-- The end of training, by the pseudo-channels that have failed. -/
def State.trainedBut (s : State) : List Nat → State
  | [] => s.activated []
  | [p] => ((s.activated [p]).trainingLost p).report (srcId DAT p 32) p 1
  | bad => (s.activated bad).report (srcId DAT 16 36)

theorem trained_eq {s : State} (on : s.dom 16 = 3) (untrained : ∀ q, q < 16 → s.pcSt q = 0) (failed : Nat) :
    s.trained failed = s.trainedBut ((List.range 16).filter (fun p => bitOf failed p)) := by
  have all : (List.range 16).all (fun p => s.pcSt p == pcUNTRAINED) = true := by
    simp only [List.all_eq_true, List.mem_range, beq_iff_eq]
    exact untrained
  have proceed : ¬ (s.dom domHBP ≠ 3 ∨ (!(List.range 16).all (fun p => s.pcSt p == pcUNTRAINED)) = true) := by
    rw [all]
    simp [domHBP, on]
  rw [State.trained, if_neg proceed]
  generalize (List.range 16).filter (fun p => bitOf failed p) = bad
  rcases bad with _ | ⟨a, _ | ⟨b, l⟩⟩ <;> rfl

/-- One bit set names one pseudo-channel. -/
theorem failed_of_one (p : Fin 16) : (List.range 16).filter (fun q => bitOf (BitVec.ofNat 16 (2 ^ p.val)).toNat q) = [p.val] := by
  revert p
  decide

theorem fc_activated (s : State) (bad : List Nat) : (s.activated bad).fc = s.fc :=
  fc_foldl (g := fun t p => t.wf HBM_PC_STATUS_STATE pcACTIVE p) (fun _ _ => rfl) _ s

theorem pcSt_trainingLost (s : State) (p q : Nat) : (s.trainingLost p).pcSt q = if q = p then 3 else s.pcSt q := by
  rw [State.trainingLost, pcSt_wf_of_clear (by decide), pcSt_wf_of_clear (by decide), pcSt_pcGone]

theorem reserve_trainingLost {p : Nat} (channel : p < 16) (s : State) :
    (s.trainingLost p).rb ECC_STATUS_RESERVE_USED = true ∧ (s.trainingLost p).rf ECC_STATUS_RETIRED_PC = p := by
  obtain ⟨used, retired⟩ := reserve_pcGone channel s
  constructor
  · rw [State.trainingLost, rb_wf_of_clear (by decide), rb_wf_of_clear (by decide), used]
  · rw [State.trainingLost, rf_wf_of_clear (by decide), rf_wf_of_clear (by decide), retired]

/-! ### Self-refresh (R290, R475) -/

/-- The stack refreshes itself: no arrears are left. -/
def State.asleep (s : State) : State :=
  (List.range 16).foldl (fun t p => t.wf HBM_PC_REFPEND_ARREARS 0 p) { s with buf.selfRefresh := true, buf.arrears := [] }

theorem buf_asleep (s : State) : s.asleep.buf.selfRefresh = true ∧ s.asleep.buf.arrears = [] := by
  have kept : BufKept ({ s with buf.selfRefresh := true, buf.arrears := [] } : State) s.asleep := .foldl (fun t p => .wf t ..) _ _
  rw [kept.buf]
  exact ⟨rfl, rfl⟩

theorem refpend_asleep {q : Nat} (channel : q < 16) (s : State) : s.asleep.rf HBM_PC_REFPEND_ARREARS q = 0 := by
  rw [State.asleep, rf_foldl_wf rfl, if_pos (List.mem_range.2 channel)]
  rfl

/-! ### Causes of retirement (R304) -/

/-- A cause is taken: the pseudo-channel relocates, its intake held. -/
def State.relocTaken (s : State) (p cause : Nat) : State :=
  (((s.modPc p (fun x => { x with due := 0 })).wf HBM_PC_STATUS_STATE pcRELOCATING p).wf HBM_PC_STATUS_CAUSE cause p).modPc p
    (fun x => { x with held := true })

theorem pcSt_relocTaken (s : State) (p cause : Nat) : (s.relocTaken p cause).pcSt p = 2 :=
  (pcSt_wf_of_clear (by decide) ..).trans ((pcSt_wf_state (by decide) _ p p).trans (if_pos rfl))

theorem cause_relocTaken {cause : Nat} (named : cause < 8) (s : State) (p : Nat) : (s.relocTaken p cause).rf HBM_PC_STATUS_CAUSE p = cause :=
  (rf_wf_same ..).trans (Nat.mod_eq_of_lt named)

theorem pcv_relocTaken (s : State) (p cause : Nat) : (s.relocTaken p cause).pcv p = { s.pcv p with held := true, due := 0 } := by
  simp [State.relocTaken]

section
variable {s : State} {p : Nat}

theorem ceWindow_of_few (few : (s.pcv p).ce ≤ s.par 0xC020 1) : s.ceWindow p = s.modPc p (fun x => { x with ce := 0, ceBad := 0 }) := by
  have below : ¬ s.par 0xC020 1 < (s.pcv p).ce := by omega
  simp [State.ceWindow, below]

/-- The tenth second in a row above CE_LIM. -/
theorem ceWindow_of_tenth (above : s.par 0xC020 1 < (s.pcv p).ce) (nine : (s.pcv p).ceBad = 9) (undue : (s.pcv p).due = 0) :
    s.ceWindow p = (s.modPc p (fun x => { x with ce := 0, ceBad := 10 })).modPc p (fun x => { x with due := 2 }) := by
  simp [State.ceWindow, State.pcDue, above, nine, undue]

theorem pcRetire_of_active (active : s.pcSt p = 1) (undue : (s.pcv p).due = 0) :
    s.pcRetire p = (s.wb HBM_PC_CTRL_RETIRE true p).modPc p (fun x => { x with due := 5 }) :=
  have undue' : ((s.wb HBM_PC_CTRL_RETIRE true p).pcv p).due = 0 := undue
  (if_pos active).trans (if_pos undue')

theorem pcRetire_of_inactive (inactive : s.pcSt p ≠ 1) : s.pcRetire p = s := if_neg inactive

theorem pcTake_of_inactive (inactive : s.pcSt p ≠ 1) : s.pcTake p = s := if_pos (.inr inactive)

section
variable (active : s.pcSt p = 1) (met : (s.pcv p).due ≠ 0)
include active met

theorem pcTake_of_first (unmoved : s.movedRows = none) : s.pcTake p = s.relocTaken p (s.pcv p).due := by
  have takes : ¬ ((s.pcv p).due = 0 ∨ s.pcSt p ≠ pcACTIVE) := by simp [met, active, pcACTIVE]
  have unmoved' : (s.modPc p (fun x => { x with due := 0 })).movedRows = none := unmoved
  simp only [State.pcTake, if_neg takes, unmoved', Option.isSome_none, Bool.false_eq_true, if_false]
  rfl

theorem pcTake_of_second (moved : s.movedRows.isSome = true) :
    s.pcTake p = (s.modPc p (fun x => { x with due := 0 })).report (srcId DAT 16 35) p (s.pcv p).due := by
  have takes : ¬ ((s.pcv p).due = 0 ∨ s.pcSt p ≠ pcACTIVE) := by simp [met, active, pcACTIVE]
  have moved' : (s.modPc p (fun x => { x with due := 0 })).movedRows.isSome = true := moved
  simp only [State.pcTake, if_neg takes, moved', if_true]

end

/-! ### Relocation (R306) -/

theorem pcDrained_of_unheld (unheld : (s.pcv p).held = false) : s.pcDrained p = s := by simp [State.pcDrained, unheld]

/-- The relocation begins: the queue of the pseudo-channel has drained, and its intake resumes. -/
def State.relocStarted (s : State) (p : Nat) : State :=
  (({ s with buf.parity := s.buf.parity.filter (fun g => g % 16 != p) } : State).wf HBM_PC_RELOC_PTR 0 p).modPc p (fun x => { x with held := false })

theorem pcDrained_of_held (held : (s.pcv p).held = true) (none_waits : s.buf.waits = []) :
    s.pcDrained p = ((s.relocStarted p).report (srcId DAT p 32) p (s.rf HBM_PC_STATUS_CAUSE p)).serveWaits := by
  have cause : (s.relocStarted p).rf HBM_PC_STATUS_CAUSE p = s.rf HBM_PC_STATUS_CAUSE p :=
    rf_wf_of_clear (by decide) ({ s with buf.parity := s.buf.parity.filter (fun g => g % 16 != p) } : State) ..
  rw [← cause]
  exact if_neg (by simp [held, none_waits])

theorem relocRow_of_other (other : s.pcSt p ≠ 2) : s.relocRow p = s := if_pos (.inl other)

/-- A row with nothing wrong is moved. -/
theorem relocRow_of_sound (h : s.Sound) (relocates : s.pcSt p = 2) (resumed : (s.pcv p).held = false) {r : Nat} (row : s.rf HBM_PC_RELOC_PTR p = r)
    (left : r < s.rowsMoved) : s.relocRow p =
      if r + 1 = s.rowsMoved then (s.wf HBM_PC_RELOC_PTR (r + 1) p).pcGone p else s.wf HBM_PC_RELOC_PTR (r + 1) p := by
  have moves : ¬ (s.pcSt p ≠ pcRELOCATING ∨ (s.pcv p).held = true ∨ s.rowsMoved ≤ r) := by
    rw [relocates, resumed, pcRELOCATING]
    simpa using left
  have filtered : s.buf.err.filter (fun e => e.1 / 256 != 16 * r + p || s.lost e.1) = s.buf.err := by rw [h.err]; rfl
  simp only [State.relocRow, row, if_neg moves, checkPage_of_sound h, filtered]
  rfl

end

/-- Settles O31, command by command. The source numbers are the model's own (log 28), postponed refreshes are log 60, the end of a relocation and the
multiplier's jump are log 61. -/
theorem pseudoChannelsAreKeptAndRetired : Obligations.PseudoChannelsAreKeptAndRetired := by
  intro s p
  refine ⟨⟨fun t cool same => ?steady, fun t m cool mult change => ?changed, fun t above nine => ?hot, refMult_bands⟩,
    fun b w idle => congrArg Host.Outcome.next (refreshDue_of_idle idle b.toNat w),
    fun b runs => ⟨_, rfl, arrears_refreshDue_of_busy runs b.toNat⟩,
    fun q turn => ⟨congrArg Host.Outcome.next (retrack_of_ok turn), fun few active => congrArg Host.Outcome.next (retrack_of_few turn few active),
      fun three => congrArg Host.Outcome.next (retrack_of_fourth turn three)⟩,
    fun on untrained => ⟨⟨s.activated [], congrArg Host.Outcome.next (trained_eq on untrained 0), fun q channel => ?passed, fc_activated ..⟩,
      ⟨(s.activated [p.val]).trainingLost p.val, congrArg Host.Outcome.next ?oneFailed, ?lost, fun q channel other => ?others,
        reserve_trainingLost p.isLt _⟩, ⟨_, congrArg Host.Outcome.next (trained_eq on untrained 0x8001)⟩⟩,
    fun asleep none_waits => ⟨s.asleep, congrArg Host.Outcome.next (if_pos ⟨asleep, none_waits⟩), (buf_asleep s).1, (buf_asleep s).2,
      fun q channel => refpend_asleep channel s⟩,
    fun awake => congrArg Host.Outcome.next (if_neg fun both => awake both.1),
    fun few => congrArg Host.Outcome.next (ceWindow_of_few few),
    fun above nine undue => ⟨_, congrArg Host.Outcome.next (ceWindow_of_tenth above nine undue), ?tenth⟩,
    fun active undue => congrArg Host.Outcome.next (pcRetire_of_active active undue),
    fun inactive => ⟨congrArg Host.Outcome.next (pcRetire_of_inactive inactive), congrArg Host.Outcome.next (pcTake_of_inactive inactive)⟩,
    fun d active due some_cause => ?take,
    fun unheld => congrArg Host.Outcome.next (pcDrained_of_unheld unheld),
    fun held none_waits => ⟨s.relocStarted p.val, congrArg Host.Outcome.next (pcDrained_of_held held none_waits), ?resumed, ?start⟩,
    fun r relocates resumed row err poison => ?row, fun other => congrArg Host.Outcome.next (relocRow_of_other other)⟩
  case steady =>
    have unchanged : s.multReported t = s.tempTaken t := if_pos same
    rw [tempTaken_of_cool cool, same] at unchanged
    exact congrArg Host.Outcome.next ((hbmTemp_of_cool cool).trans unchanged)
  case changed =>
    subst mult
    have reported : s.multReported t = (s.tempTaken t).report (srcId DAT 16 38) 0 (refMult (s.rf ECC_STATUS_REF_MULT) t) := if_neg change
    rw [tempTaken_of_cool cool] at reported
    exact congrArg Host.Outcome.next ((hbmTemp_of_cool cool).trans reported)
  case hot =>
    obtain ⟨reported, ten⟩ := hbmTemp_of_tenth above nine
    exact ⟨_, congrArg Host.Outcome.next reported, ten⟩
  case passed =>
    rw [pcSt_activated channel, if_neg List.not_mem_nil]
  case oneFailed =>
    rw [trained_eq on untrained, failed_of_one]
    rfl
  case lost => rw [pcSt_trainingLost, if_pos rfl]
  case others =>
    rw [pcSt_trainingLost, if_neg other, pcSt_activated channel, if_neg (by simpa using other)]
  case tenth => exact ⟨by rw [pcv_modPc_same], by rw [pcv_modPc_same, pcv_modPc_same]⟩
  case take =>
    have met : (s.pcv p.val).due ≠ 0 := due ▸ some_cause
    refine ⟨fun unmoved => ⟨s.relocTaken p.val (s.pcv p.val).due, congrArg Host.Outcome.next (pcTake_of_first active met unmoved), pcSt_relocTaken .., ?_, ?_⟩,
      fun moved => ?_⟩
    · rw [due]
      exact cause_relocTaken (by omega) s p.val
    · rw [pcv_relocTaken]
      exact ⟨rfl, rfl, rfl⟩
    · rw [← due]
      exact congrArg Host.Outcome.next (pcTake_of_second active met moved)
  case resumed => rw [State.relocStarted, pcv_modPc_same]
  case start => exact rf_wf_same ..
  case row =>
    refine ⟨fun more => ?_, fun last => ⟨(s.wf HBM_PC_RELOC_PTR (r + 1) p.val).pcGone p.val, congrArg Host.Outcome.next ?_, ?_, ?_⟩⟩
    · exact congrArg Host.Outcome.next ((relocRow_of_sound ⟨err, poison⟩ relocates resumed row (by omega)).trans (if_neg (by omega)))
    · exact (relocRow_of_sound ⟨err, poison⟩ relocates resumed row (by omega)).trans (if_pos last)
    · rw [pcSt_pcGone, if_pos rfl]
    · obtain ⟨used, retired⟩ := reserve_pcGone p.isLt (s.wf HBM_PC_RELOC_PTR (r + 1) p.val)
      exact ⟨used, retired, rfl⟩

end Sys2Proof.Machine
end

section
/-! The rollback counter and the revocation fuse over every step (R508, R513). -/

namespace Sys2Proof.Machine
open Sys2Proof

/-- Settles O5: a step on an empty queue moves only the time; any other is a command, and `Kept` holds MIN_SVN and the fuse. -/
theorem rollbackCounterOnlyRises : Obligations.RollbackCounterOnlyRises := by
  intro s t hstep
  cases hp : s.pending with
  | nil =>
    rw [step_of_pending_nil s hp, Host.Outcome.next.injEq] at hstep
    subst hstep
    exact ⟨Nat.le_refl _, rfl⟩
  | cons c rest =>
    have front : exec c { s with pending := rest } = .next t := by
      rw [← step_of_pending_cons, ← hp]
      exact hstep
    have kept := keptR_exec { s with pending := rest } c t front
    exact ⟨kept.minSvn, kept.revoke0⟩

end Sys2Proof.Machine
end

section
/-! Little-endian fields of a string of bytes (R5): what `fieldAt` reads of a concatenation and of a number written by `leBytes`. -/

namespace Sys2Proof.Machine
open Sys2Proof

@[simp] theorem length_leBytes (n v : Nat) : (leBytes n v).length = n := by
  induction n generalizing v with
  | zero => rfl
  | succ n ih => simp [leBytes, ih]

@[simp] theorem leNat_leBytes (n v : Nat) : leNat (leBytes n v) = v % 256 ^ n := by
  induction n generalizing v with
  | zero => simp [leBytes, leNat, Nat.mod_one]
  | succ n ih => rw [leBytes, leNat, ih, BitVec.toNat_ofNat, Nat.pow_succ' (n := n), Nat.mod_mul]

theorem leBytes_zero (n : Nat) : leBytes n 0 = List.replicate n 0 := by
  induction n with
  | zero => rfl
  | succ n ih => simp [leBytes, ih, List.replicate_succ]

theorem drop_leBytes (o n v : Nat) : (leBytes n v).drop o = leBytes (n - o) (v / 256 ^ o) := by
  induction o generalizing n v with
  | zero => simp
  | succ o ih =>
    cases n with
    | zero => simp [leBytes]
    | succ n => rw [leBytes, List.drop_succ_cons, ih, Nat.div_div_eq_div_mul, Nat.pow_succ', Nat.succ_sub_succ]

theorem take_leBytes {k n : Nat} (h : k ≤ n) (v : Nat) : (leBytes n v).take k = leBytes k v := by
  induction k generalizing n v with
  | zero => simp [leBytes]
  | succ k ih =>
    obtain ⟨m, rfl⟩ : ∃ m, n = m + 1 := ⟨n - 1, by omega⟩
    rw [leBytes, leBytes, List.take_succ_cons, ih (by omega)]

/-- A part of a number written out is the number's digits there. -/
theorem fieldAt_leBytes {o k n : Nat} (h : o + k ≤ n) (v : Nat) : fieldAt (leBytes n v) o k = v / 256 ^ o % 256 ^ k := by
  rw [fieldAt, drop_leBytes, take_leBytes (by omega), leNat_leBytes]

theorem fieldAt_append_left {a : List Byte} {o n : Nat} (h : o + n ≤ a.length) (b : List Byte) : fieldAt (a ++ b) o n = fieldAt a o n := by
  rw [fieldAt, fieldAt, List.drop_append_of_le_length (by omega), List.take_append_of_le_length (by simp; omega)]

theorem fieldAt_append_right {a : List Byte} {o : Nat} (h : a.length ≤ o) (b : List Byte) (n : Nat) : fieldAt (a ++ b) o n = fieldAt b (o - a.length) n := by
  rw [fieldAt, fieldAt, List.drop_append, List.drop_eq_nil_of_le h, List.nil_append]

theorem byteOf_eq_fieldAt (bs : List Byte) (k : Nat) : byteOf bs k = fieldAt bs k 1 := by
  rw [byteOf, fieldAt, List.getD_eq_getElem?_getD, ← List.head?_drop]
  cases bs.drop k with
  | nil => rfl
  | cons b r => simp [leNat]

end Sys2Proof.Machine
end

section
/-! Entries of the submission rings, written from their fields and read back (R370, R371, R399, R400). -/

namespace Sys2Proof.Machine
open Sys2Proof

/-! ### The first unit (R370) -/

section
variable (op units : Nat) (fua : Bool) (nsid cid lba : Nat) (rest : List Byte)

/-- The first unit of an entry. -/
def headBytes : List Byte := leBytes 1 op ++ leBytes 1 (128 + (units - 1)) ++ leBytes 1 fua.toNat ++ leBytes 1 nsid ++ leBytes 4 cid ++ leBytes 8 lba

theorem entryBytes_eq : entryBytes op units fua nsid cid lba rest = headBytes op units fua nsid cid lba ++ rest := rfl

@[simp] theorem length_headBytes : (headBytes op units fua nsid cid lba).length = 16 := by simp [headBytes]

theorem fieldAt_entryBytes {o : Nat} (h : 16 ≤ o) (n : Nat) : fieldAt (entryBytes op units fua nsid cid lba rest) o n = fieldAt rest (o - 16) n := by
  rw [entryBytes_eq, fieldAt_append_right (by simpa), length_headBytes]

theorem byteOf_entryBytes_opcode : byteOf (entryBytes op units fua nsid cid lba rest) 0 = op % 256 := by
  simp [byteOf, entryBytes, leBytes]

theorem byteOf_entryBytes_units : byteOf (entryBytes op units fua nsid cid lba rest) 1 = (128 + (units - 1)) % 256 := by
  simp [byteOf, entryBytes, leBytes]

theorem byteOf_entryBytes_flags : byteOf (entryBytes op units fua nsid cid lba rest) 2 = fua.toNat := by
  cases fua <;> simp [byteOf, entryBytes, leBytes]

theorem byteOf_entryBytes_nsid : byteOf (entryBytes op units fua nsid cid lba rest) 3 = nsid % 256 := by
  simp [byteOf, entryBytes, leBytes]

theorem fieldAt_entryBytes_cid : fieldAt (entryBytes op units fua nsid cid lba rest) 4 4 = cid % 2 ^ 32 := by
  rw [entryBytes_eq, fieldAt_append_left (by simp), headBytes, fieldAt_append_left (by simp), fieldAt_append_right (by simp), fieldAt_leBytes (by simp)]
  simp

theorem fieldAt_entryBytes_lba {o n : Nat} (h : o + n ≤ 8) : fieldAt (entryBytes op units fua nsid cid lba rest) (8 + o) n = lba / 256 ^ o % 256 ^ n := by
  rw [entryBytes_eq, fieldAt_append_left (by simp; omega), headBytes, fieldAt_append_right (by simp), fieldAt_leBytes (by simp; omega)]
  simp

end

section
variable {op units nsid cid lba : Nat} (fua : Bool) (rest : List Byte)

theorem entryUnits_entryBytes (h1 : 1 ≤ units) (h16 : units ≤ 16) : entryUnits (entryBytes op units fua nsid cid lba rest) = units := by
  rw [entryUnits, byteOf_entryBytes_units]
  omega

theorem entryOwn_entryBytes (h16 : units ≤ 16) : entryOwn (entryBytes op units fua nsid cid lba rest) = true := by
  rw [entryOwn, byteOf_entryBytes_units, decide_eq_true_eq]
  omega

theorem headBad_entryBytes (h16 : units ≤ 16) (hlba : lba < 2 ^ 48) : headBad (entryBytes op units fua nsid cid lba rest) = false := by
  rw [headBad, byteOf_entryBytes_units, byteOf_entryBytes_flags, fieldAt_entryBytes_lba (o := 6) (h := by simp)]
  have own : (128 + (units - 1)) % 256 / 16 % 8 = 0 := by omega
  have top : lba / 256 ^ 6 = 0 := Nat.div_eq_of_lt (by simpa using hlba)
  have flag : fua.toNat / 2 = 0 := by cases fua <;> rfl
  rw [own, top, flag]
  rfl

theorem entryHead_entryBytes (hop : op < 256) (h1 : 1 ≤ units) (h16 : units ≤ 16) (hnsid : nsid < 256) (hcid : cid < 2 ^ 32) (hlba : lba < 2 ^ 48) :
    entryHead (entryBytes op units fua nsid cid lba rest) = Entry.mk op units fua nsid cid lba 0 [] (0, 0) none := by
  have flag : bitOf fua.toNat 0 = fua := by cases fua <;> rfl
  have low : fieldAt (entryBytes op units fua nsid cid lba rest) 8 6 = lba := by
    rw [fieldAt_entryBytes_lba (o := 0) (h := by simp), Nat.pow_zero, Nat.div_one, Nat.mod_eq_of_lt (by simpa using hlba)]
  rw [entryHead, entryUnits_entryBytes fua rest h1 h16, byteOf_entryBytes_opcode, byteOf_entryBytes_flags, byteOf_entryBytes_nsid, fieldAt_entryBytes_cid,
    flag, low, Nat.mod_eq_of_lt hop, Nat.mod_eq_of_lt hnsid, Nat.mod_eq_of_lt hcid]

end

/-! ### The host list (R333, R371) -/

theorem length_listBytes (l : List (Nat × Nat)) : (listBytes l).length = 16 * l.length := by
  induction l with
  | nil => rfl
  | cons e r ih => rw [listBytes, List.flatMap_cons, List.length_append, ← listBytes, ih]; simp; omega

/-- An element whose address fits 8 bytes and whose length the spec allows. -/
def ElemOk (e : Nat × Nat) : Prop := e.1 < 2 ^ 64 ∧ 1 ≤ e.2 ∧ e.2 ≤ 16777216

theorem elem_listBytes_cons (e : Nat × Nat) (r : List (Nat × Nat)) (h : ElemOk e) :
    fieldAt (listBytes (e :: r)) 0 8 = e.1 ∧ fieldAt (listBytes (e :: r)) 8 4 = e.2 ∧ fieldAt (listBytes (e :: r)) 12 4 = 0 := by
  obtain ⟨haddr, -, hlen⟩ := h
  rw [listBytes, List.flatMap_cons]
  refine ⟨?_, ?_, ?_⟩
  · rw [fieldAt_append_left (by simp), fieldAt_append_left (by simp), fieldAt_append_left (by simp), fieldAt_leBytes (by simp)]
    simpa using haddr
  · rw [fieldAt_append_left (by simp), fieldAt_append_left (by simp), fieldAt_append_right (by simp), fieldAt_leBytes (by simp)]
    simp
    omega
  · rw [fieldAt_append_left (by simp), fieldAt_append_right (by simp), fieldAt_leBytes (by simp)]
    simp

/-- The elements as `entryList` reads them off its units. -/
theorem elems_listBytes (p : List Byte) (u : Nat) (hp : p.length = 16 * u) (l : List (Nat × Nat)) (h : ∀ e ∈ l, ElemOk e) :
    (List.range l.length).map (fun i => (fieldAt (p ++ listBytes l) (16 * (u + i)) 8, fieldAt (p ++ listBytes l) (16 * (u + i) + 8) 4,
      fieldAt (p ++ listBytes l) (16 * (u + i) + 12) 4)) = l.map (fun e => (e.1, e.2, 0)) := by
  induction l generalizing p u with
  | nil => rfl
  | cons e r ih =>
    have split : p ++ listBytes (e :: r) = (p ++ listBytes [e]) ++ listBytes r := by simp [listBytes]
    have hlen : (p ++ listBytes [e]).length = 16 * (u + 1) := by rw [List.length_append, hp, length_listBytes]; simp; omega
    have tail := ih (p ++ listBytes [e]) (u + 1) hlen (fun x hx => h x (List.mem_cons_of_mem _ hx))
    obtain ⟨haddr, hsize, hzero⟩ := elem_listBytes_cons e r (h e List.mem_cons_self)
    rw [List.length_cons, List.range_succ_eq_map, List.map_cons, List.map_map, List.map_cons, ← tail, ← split]
    refine List.cons_eq_cons.2 ⟨?_, ?_⟩
    · rw [fieldAt_append_right (by omega), fieldAt_append_right (by omega), fieldAt_append_right (by omega), hp]
      simpa using ⟨haddr, hsize, hzero⟩
    · exact List.map_congr_left fun i _ => by simp [Nat.add_assoc, Nat.add_comm 1]

theorem entryList_listBytes {p : List Byte} {u : Nat} (hp : p.length = 16 * u) {l : List (Nat × Nat)} (h : ∀ e ∈ l, ElemOk e) :
    entryList (p ++ listBytes l) u l.length = some l := by
  rw [entryList, elems_listBytes p u hp l h]
  have allOk : (l.map (fun e => (e.1, e.2, 0))).all (fun e => decide (1 ≤ e.2.1 ∧ e.2.1 ≤ 16777216 ∧ e.2.2 = 0)) = true := by
    simp only [List.all_map, List.all_eq_true, Function.comp, decide_eq_true_eq]
    exact fun e he => ⟨(h e he).2.1, (h e he).2.2, trivial⟩
  rw [if_pos allOk, List.map_map]
  exact congrArg some (List.map_id l)

theorem elemOk_operandList {l : List (BitVec 64 × BitVec 32)} (h : ∀ x ∈ l, 1 ≤ x.2.toNat ∧ x.2.toNat ≤ 16777216) : ∀ e ∈ operandList l, ElemOk e := by
  intro e he
  obtain ⟨x, hx, rfl⟩ := List.mem_map.1 he
  exact ⟨x.1.isLt, h x hx⟩

@[simp] theorem length_operandList (l : List (BitVec 64 × BitVec 32)) : (operandList l).length = l.length := List.length_map ..

/-! ### READ, WRITE, WRITE_ZEROES (R371) -/

theorem entryCount_entryBytes {op units : Nat} {fua : Bool} {nsid cid lba count : Nat} (rest : List Byte) (h1 : 1 ≤ count) (h2 : count ≤ 65536) :
    entryCount (entryBytes op units fua nsid cid lba (leBytes 4 count ++ leBytes 12 0 ++ rest)) = some count := by
  have field : fieldAt (entryBytes op units fua nsid cid lba (leBytes 4 count ++ leBytes 12 0 ++ rest)) 16 4 = count := by
    rw [fieldAt_entryBytes _ _ _ _ _ _ _ (by omega), fieldAt_append_left (by simp), fieldAt_append_left (by simp), fieldAt_leBytes (by simp)]
    simp
    omega
  have zeros : fieldAt (entryBytes op units fua nsid cid lba (leBytes 4 count ++ leBytes 12 0 ++ rest)) 20 12 = 0 := by
    rw [fieldAt_entryBytes _ _ _ _ _ _ _ (by omega), fieldAt_append_left (by simp), fieldAt_append_right (by simp), fieldAt_leBytes (by simp)]
    simp
  rw [entryCount, field, zeros, if_pos ⟨h1, h2, rfl⟩]

theorem parseMove_moveEntry {op nsid cid lba count : Nat} (fua : Bool) {l : List (Nat × Nat)} (hop : op < 256) (hnsid : nsid < 256) (hcid : cid < 2 ^ 32)
    (hlba : lba < 2 ^ 48) (hl : ∀ e ∈ l, ElemOk e) (some1 : 1 ≤ l.length) (fits : l.length ≤ 14) (h1 : 1 ≤ count) (h2 : count ≤ 65536)
    (sum : listSum l = 4096 * count) :
    parseMove (moveEntry op fua nsid cid lba count l) = some (Entry.mk op (2 + l.length) fua nsid cid lba count l (0, 0) none) := by
  have elems : entryList (moveEntry op fua nsid cid lba count l) 2 (2 + l.length - 2) = some l := by
    rw [moveEntry, entryBytes_eq, ← List.append_assoc, Nat.add_sub_cancel_left]
    exact entryList_listBytes (by simp) hl
  have number : entryCount (moveEntry op fua nsid cid lba count l) = some count := entryCount_entryBytes _ h1 h2
  have head : entryHead (moveEntry op fua nsid cid lba count l) = Entry.mk op (2 + l.length) fua nsid cid lba 0 [] (0, 0) none :=
    entryHead_entryBytes fua _ hop (by omega) (by omega) hnsid hcid hlba
  rw [parseMove, head, if_neg (by simp; omega), number, elems]
  simp [sum]

theorem parseEntry_moveEntry {op nsid cid lba count : Nat} (fua : Bool) {l : List (Nat × Nat)} (hop : op = 1 ∨ op = 2) (hnsid : nsid < 256) (hcid : cid < 2 ^ 32)
    (hlba : lba < 2 ^ 48) (hl : ∀ e ∈ l, ElemOk e) (some1 : 1 ≤ l.length) (fits : l.length ≤ 14) (h1 : 1 ≤ count) (h2 : count ≤ 65536)
    (sum : listSum l = 4096 * count) :
    parseEntry (moveEntry op fua nsid cid lba count l) = some (Entry.mk op (2 + l.length) fua nsid cid lba count l (0, 0) none) := by
  have sound : headBad (moveEntry op fua nsid cid lba count l) = false := headBad_entryBytes fua _ (by omega) hlba
  have head : entryHead (moveEntry op fua nsid cid lba count l) = Entry.mk op (2 + l.length) fua nsid cid lba 0 [] (0, 0) none :=
    entryHead_entryBytes fua _ (by omega) (by omega) (by omega) hnsid hcid hlba
  rw [← parseMove_moveEntry fua (by omega) hnsid hcid hlba hl some1 fits h1 h2 sum, parseEntry, sound, head]
  rcases hop with rfl | rfl <;> rfl

theorem parseEntry_writeZeroes {nsid cid lba count : Nat} (fua : Bool) (hnsid : nsid < 256) (hcid : cid < 2 ^ 32) (hlba : lba < 2 ^ 48) (h1 : 1 ≤ count)
    (h2 : count ≤ 65536) :
    parseEntry (entryBytes 0x04 2 fua nsid cid lba (leBytes 4 count ++ leBytes 12 0)) = some (Entry.mk 4 2 fua nsid cid lba count [] (0, 0) none) := by
  have number := entryCount_entryBytes (op := 4) (units := 2) (fua := fua) (nsid := nsid) (cid := cid) (lba := lba) [] h1 h2
  rw [List.append_nil] at number
  rw [parseEntry, headBad_entryBytes fua _ (by omega) hlba, entryHead_entryBytes fua _ (by omega) (by omega) (by omega) hnsid hcid hlba]
  simp [number]

/-! ### PAD, FLUSH, ABORT (R371) -/

theorem parseEntry_pad {units : Nat} (h1 : 1 ≤ units) (h15 : units ≤ 15) :
    parseEntry (entryBytes 0 units false 0 0 0 []) = some (Entry.mk 0 units false 0 0 0 0 [] (0, 0) none) := by
  rw [parseEntry, headBad_entryBytes _ _ (by omega) (by simp), entryHead_entryBytes _ _ (by omega) h1 (by omega) (by omega) (by simp) (by simp)]
  exact if_pos h15

theorem parseEntry_flush {nsid cid : Nat} (hnsid : nsid < 256) (hcid : cid < 2 ^ 32) :
    parseEntry (entryBytes 0x03 1 false nsid cid 0 []) = some (Entry.mk 3 1 false nsid cid 0 0 [] (0, 0) none) := by
  rw [parseEntry, headBad_entryBytes _ _ (by omega) (by simp), entryHead_entryBytes _ _ (by omega) (by omega) (by omega) hnsid hcid (by simp)]
  rfl

theorem parseEntry_abort {cid ring target : Nat} (hcid : cid < 2 ^ 32) (hring : ring < 2 ^ 20) (htarget : target < 2 ^ 32) :
    parseEntry (entryBytes 0x08 2 false 0 cid 0 (leBytes 4 ring ++ leBytes 4 target ++ leBytes 8 0)) = some (Entry.mk 8 2 false 0 cid 0 0 [] (ring, target) none) := by
  have first : fieldAt (entryBytes 0x08 2 false 0 cid 0 (leBytes 4 ring ++ leBytes 4 target ++ leBytes 8 0)) 16 4 = ring := by
    rw [fieldAt_entryBytes _ _ _ _ _ _ _ (by omega), fieldAt_append_left (by simp), fieldAt_append_left (by simp), fieldAt_leBytes (by simp)]
    simp
    omega
  have second : fieldAt (entryBytes 0x08 2 false 0 cid 0 (leBytes 4 ring ++ leBytes 4 target ++ leBytes 8 0)) 20 4 = target := by
    rw [fieldAt_entryBytes _ _ _ _ _ _ _ (by omega), fieldAt_append_left (by simp), fieldAt_append_right (by simp), fieldAt_leBytes (by simp)]
    simp
    omega
  have zeros : fieldAt (entryBytes 0x08 2 false 0 cid 0 (leBytes 4 ring ++ leBytes 4 target ++ leBytes 8 0)) 24 8 = 0 := by
    rw [fieldAt_entryBytes _ _ _ _ _ _ _ (by omega), fieldAt_append_right (by simp), fieldAt_leBytes (by simp)]
    simp
  rw [parseEntry, headBad_entryBytes _ _ (by omega) (by simp), entryHead_entryBytes _ _ (by omega) (by omega) (by omega) (by omega) hcid (by simp)]
  show (if _ then some _ else none) = some _
  rw [first, second, zeros, if_pos ⟨rfl, hring, rfl⟩]

/-! ### Object entries (R399, R400) -/

/-- The second unit of an object entry, then its key and its list. -/
def objectBytes (space : Nat) (key : List Byte) (oflags len arg : Nat) (l : List (Nat × Nat)) : List Byte :=
  leBytes 1 space ++ leBytes 1 key.length ++ leBytes 2 oflags ++ leBytes 4 len ++ leBytes 8 arg ++ keyUnits key ++ listBytes l

theorem length_keyUnits (key : List Byte) : (keyUnits key).length = 16 * ((key.length + 15) / 16) := by
  rw [keyUnits, List.length_append, List.length_replicate]
  omega

section
variable (space : Nat) (key : List Byte) (oflags len arg : Nat) (l : List (Nat × Nat))

theorem fieldAt_objectBytes_space : fieldAt (objectBytes space key oflags len arg l) 0 1 = space % 256 := by
  simp [objectBytes, fieldAt_append_left, fieldAt_leBytes]

theorem fieldAt_objectBytes_klen : fieldAt (objectBytes space key oflags len arg l) 1 1 = key.length % 256 := by
  simp [objectBytes, fieldAt_append_left, fieldAt_append_right, fieldAt_leBytes]

theorem fieldAt_objectBytes_oflags : fieldAt (objectBytes space key oflags len arg l) 2 2 = oflags % 65536 := by
  simp [objectBytes, fieldAt_append_left, fieldAt_append_right, fieldAt_leBytes]

theorem fieldAt_objectBytes_len : fieldAt (objectBytes space key oflags len arg l) 4 4 = len % 2 ^ 32 := by
  simp [objectBytes, fieldAt_append_left, fieldAt_append_right, fieldAt_leBytes]

theorem fieldAt_objectBytes_arg {o n : Nat} (h : o + n ≤ 8) : fieldAt (objectBytes space key oflags len arg l) (8 + o) n = arg / 256 ^ o % 256 ^ n := by
  rw [objectBytes, List.append_assoc, fieldAt_append_left (by simp; omega), fieldAt_append_right (by simp), fieldAt_leBytes (by simp; omega)]
  simp

theorem take_drop_objectBytes_key : ((objectBytes space key oflags len arg l).drop 16).take key.length = key := by
  rw [objectBytes, List.append_assoc, List.drop_append_of_le_length (by simp), List.drop_eq_nil_of_le (by simp), List.nil_append, keyUnits, List.append_assoc,
    List.take_left]

end

/-- What R400 asks of an object entry's operands, by its opcode. -/
def ObjectOk (op ofl len : Nat) (l : List (Nat × Nat)) : Prop :=
  (op = 0x40 ∧ ofl ≤ 2 ∧ len ≤ 16777216 ∧ (len = 0 → l = []) ∧ (len ≠ 0 → l ≠ [] ∧ listSum l = len)) ∨ (op = 0x41 ∧ (ofl = 0 ∨ ofl = 2) ∧ len = 0 ∧ l ≠ [])
    ∨ (op = 0x42 ∧ (ofl = 0 ∨ ofl = 2) ∧ len = 0 ∧ l = []) ∨ (op = 0x43 ∧ ofl = 0 ∧ len = 0 ∧ l ≠ [])

/-- The list of an object entry fits its opcode and its value's length (R400). -/
theorem listFits_of_objectOk {op ofl len : Nat} {l : List (Nat × Nat)} (ok : ObjectOk op ofl len l) :
    (if op = 0x40 then (if len = 0 then l.length == 0 else decide (1 ≤ l.length) && listSum l == len) else if op = 0x42 then l.length == 0 else decide (1 ≤ l.length)) = true := by
  rcases ok with ⟨rfl, -, -, hnil, hsum⟩ | ⟨rfl, -, rfl, hl⟩ | ⟨rfl, -, rfl, rfl⟩ | ⟨rfl, -, rfl, hl⟩
  · by_cases h0 : len = 0
    · simp [h0, hnil h0]
    · simpa [h0, (hsum h0).2, Nat.one_le_iff_ne_zero] using (hsum h0).1
  · simpa [Nat.one_le_iff_ne_zero] using hl
  · rfl
  · simpa [Nat.one_le_iff_ne_zero] using hl

/-- The fields of the second unit pass the checks of R400. -/
theorem fieldsOk_of_objectOk {op ofl len : Nat} {l : List (Nat × Nat)} (ok : ObjectOk op ofl len l) :
    0x40 ≤ op ∧ op ≤ 0x43 ∧ ofl ≤ 2 ∧ oflagsOk op ofl = true ∧ len ≤ 16777216 ∧ (len ≠ 0 → op = 0x40) := by
  rcases ok with ⟨rfl, hofl, hlen, -, -⟩ | ⟨rfl, rfl | rfl, rfl, -⟩ | ⟨rfl, rfl | rfl, rfl, -⟩ | ⟨rfl, rfl, rfl, -⟩ <;> simp_all [oflagsOk]

section
variable {op cid space ofl len arg : Nat} (fua : Bool) {key : List Byte} {l : List (Nat × Nat)}

theorem entryList_objectEntry (hl : ∀ e ∈ l, ElemOk e) :
    entryList (objectEntry op fua cid space key ofl len arg l) (2 + (key.length + 15) / 16) l.length = some l := by
  rw [objectEntry, entryBytes_eq, ← List.append_assoc]
  exact entryList_listBytes (by simp [length_keyUnits]; omega) hl

theorem keyOf_objectEntry : ((objectEntry op fua cid space key ofl len arg l ++ List.replicate 256 0).drop 32).take key.length = key := by
  have split : objectEntry op fua cid space key ofl len arg l = headBytes op (2 + (key.length + 15) / 16 + l.length) fua 0 cid 0 ++ objectBytes space key ofl len arg l := rfl
  have enough : 16 + key.length ≤ (objectBytes space key ofl len arg l).length := by simp [objectBytes, length_keyUnits]; omega
  rw [split, List.append_assoc, List.drop_append, List.drop_eq_nil_of_le (by simp), List.nil_append, length_headBytes, List.drop_append_of_le_length (by omega),
    List.take_append_of_le_length (by simp; omega)]
  exact take_drop_objectBytes_key space key ofl len arg l

variable (hspace : space < 256) (space0 : space ≠ 0) (key1 : 1 ≤ key.length) (key128 : key.length ≤ 128) (fits : 2 + (key.length + 15) / 16 + l.length ≤ 16)
  (harg : arg < 2 ^ 32) (hcid : cid < 2 ^ 32) (hl : ∀ e ∈ l, ElemOk e) (ok : ObjectOk op ofl len l)
include hspace space0 key1 key128 fits harg hcid hl ok

theorem parseObject_objectEntry : parseObject (objectEntry op fua cid space key ofl len arg l) = some (Entry.mk op (2 + (key.length + 15) / 16 + l.length) fua 0 cid
    0 0 l (0, 0) (some { space := space, key := key, oflags := ofl, valueLen := len, arg := arg, pasid := none, extents := [], checked := false, stage := 0 })) := by
  obtain ⟨-, hop, hofl, flags, hlen, put⟩ := fieldsOk_of_objectOk ok
  have unit2 : ∀ {o : Nat}, 16 ≤ o → ∀ n, fieldAt (objectEntry op fua cid space key ofl len arg l) o n = fieldAt (objectBytes space key ofl len arg l) (o - 16) n :=
    fun h n => fieldAt_entryBytes _ _ _ _ _ _ _ h n
  have head : entryHead (objectEntry op fua cid space key ofl len arg l) = Entry.mk op (2 + (key.length + 15) / 16 + l.length) fua 0 cid 0 0 [] (0, 0) none :=
    entryHead_entryBytes fua _ (by omega) (by omega) fits (by omega) hcid (by omega)
  have lba0 : fieldAt (objectEntry op fua cid space key ofl len arg l) 8 8 = 0 := by
    rw [objectEntry, fieldAt_entryBytes_lba (o := 0) (h := by simp)]
    simp
  have fspace : byteOf (objectEntry op fua cid space key ofl len arg l) 16 = space := by
    rw [byteOf_eq_fieldAt, unit2 (by omega), fieldAt_objectBytes_space, Nat.mod_eq_of_lt hspace]
  have fklen : byteOf (objectEntry op fua cid space key ofl len arg l) 17 = key.length := by
    rw [byteOf_eq_fieldAt, unit2 (by omega), fieldAt_objectBytes_klen, Nat.mod_eq_of_lt (by omega)]
  have fofl : fieldAt (objectEntry op fua cid space key ofl len arg l) 18 2 = ofl := by rw [unit2 (by omega), fieldAt_objectBytes_oflags, Nat.mod_eq_of_lt (by omega)]
  have flen : fieldAt (objectEntry op fua cid space key ofl len arg l) 20 4 = len := by rw [unit2 (by omega), fieldAt_objectBytes_len, Nat.mod_eq_of_lt (by omega)]
  have farg : fieldAt (objectEntry op fua cid space key ofl len arg l) 24 4 = arg := by
    rw [unit2 (by omega), fieldAt_objectBytes_arg (o := 0) (h := by simp), Nat.pow_zero, Nat.div_one, Nat.mod_eq_of_lt (by simpa using harg)]
  have farg4 : fieldAt (objectEntry op fua cid space key ofl len arg l) 28 4 = 0 := by
    rw [unit2 (by omega), fieldAt_objectBytes_arg (o := 4) (h := by simp), Nat.div_eq_of_lt (by simpa using harg), Nat.zero_mod]
  have rest : 2 + (key.length + 15) / 16 + l.length - 2 - (key.length + 15) / 16 = l.length := by omega
  have checks : ¬ (2 + (key.length + 15) / 16 + l.length < 2 + (key.length + 15) / 16 ∨ (0 : Nat) ≠ 0 ∨ (0 : Nat) ≠ 0 ∨ space = 0 ∨ 128 < key.length ∨ (key.length = 0 ∧ op ≠ 0x43)
      ∨ (!oflagsOk op ofl) = true ∨ 16777216 < len ∨ (len ≠ 0 ∧ op ≠ 0x40) ∨ (0 : Nat) ≠ 0) := by
    rw [flags]
    simp
    exact ⟨space0, key128, fun h => absurd key1 (by simp [h]), hlen, put⟩
  rw [parseObject, head, fspace, fklen, fofl, flen, farg, farg4, lba0, keyOf_objectEntry]
  simp only [rest, entryList_objectEntry fua hl]
  rw [if_neg checks, if_pos (listFits_of_objectOk ok)]

theorem parseEntry_objectEntry : parseEntry (objectEntry op fua cid space key ofl len arg l) = some (Entry.mk op (2 + (key.length + 15) / 16 + l.length) fua 0 cid
    0 0 l (0, 0) (some { space := space, key := key, oflags := ofl, valueLen := len, arg := arg, pasid := none, extents := [], checked := false, stage := 0 })) := by
  obtain ⟨h40, h43, -⟩ := fieldsOk_of_objectOk ok
  have sound : headBad (objectEntry op fua cid space key ofl len arg l) = false := headBad_entryBytes fua _ fits (by omega)
  have head : entryHead (objectEntry op fua cid space key ofl len arg l) = Entry.mk op (2 + (key.length + 15) / 16 + l.length) fua 0 cid 0 0 [] (0, 0) none :=
    entryHead_entryBytes fua _ (by omega) (by omega) fits (by omega) hcid (by omega)
  rw [← parseObject_objectEntry fua hspace space0 key1 key128 fits harg hcid hl ok, parseEntry, sound, head]
  obtain rfl | rfl | rfl | rfl : op = 0x40 ∨ op = 0x41 ∨ op = 0x42 ∨ op = 0x43 := by omega
  all_goals rfl

end

/-- Settles O40: each form of entry by its own lemma. -/
theorem entriesReadBack : Obligations.EntriesReadBack := by
  intro fua nsid cid lba l hl
  have elems := elemOk_operandList hl
  refine ⟨fun op count hop some1 fits h1 h2 sum => ⟨?move, ?own, ?units⟩, fun n => parseEntry_pad (by omega) (by omega), parseEntry_flush nsid.isLt cid.isLt,
    fun count h1 h2 => parseEntry_writeZeroes fua nsid.isLt cid.isLt lba.isLt h1 h2, fun r x => parseEntry_abort cid.isLt r.isLt x.isLt,
    fun op ofl len space key arg space0 key1 key128 fits ok => ?object⟩
  case move =>
    have moved := parseEntry_moveEntry fua hop nsid.isLt cid.isLt lba.isLt elems (by simpa) (by simpa) h1 h2 sum
    rwa [length_operandList] at moved
  case own => exact entryOwn_entryBytes fua _ (by simp; omega)
  case units =>
    rw [moveEntry, entryUnits_entryBytes fua _ (by omega) (by simp; omega), length_operandList]
  case object =>
    have listed : ObjectOk op ofl len (operandList l) := by simpa [ObjectOk, operandList] using ok
    have parsed := parseEntry_objectEntry fua space.isLt space0 key1 key128 (by simpa using fits) arg.isLt cid.isLt elems listed
    rwa [length_operandList] at parsed

end Sys2Proof.Machine
end

section
/-! What a fault report leaves as it was: the reaction to it is confined to some parts of the state and to the registers of the fault collectors, the power
controller and the regions MOT and MED (R460 to R466). -/

namespace Sys2Proof.Machine
open Sys2Proof

/-- The registers a fault reaction may write: FC_STATUS, PWR_STATUS and those of MOT and MED. -/
def ReactionKey (k : Nat) : Prop := k / 32 = FC_STATUS_FATAL.base ∨ k / 32 = PWR_STATUS_STATE.base ∨ 0x600000 ≤ k / 32

/-- t, with what closing the gates, retracting and ending a power entry may change taken from s. -/
def State.unshut (t s : State) : State := { t with regs := s.regs, chan := s.chan, plink := s.plink, servo := s.servo, pwr := s.pwr, out := s.out }

/-- From s to t only what closing the gates, retracting and ending a power entry may change has changed. -/
structure Shut (s t : State) : Prop where
  rest : t.unshut s = s
  regs : ∀ k, ¬ ReactionKey k → tabFind t.regs k = tabFind s.regs k

namespace Shut

theorem refl (s : State) : Shut s s := ⟨rfl, fun _ _ => rfl⟩

theorem trans {s t u : State} (h : Shut s t) (k : Shut t u) : Shut s u :=
  ⟨(congrArg (·.unshut s) k.rest).trans h.rest, fun n hn => (k.regs n hn).trans (h.regs n hn)⟩

theorem ite {s t u : State} {c : Prop} [Decidable c] (ht : Shut s t) (hu : Shut s u) : Shut s (if c then t else u) := by
  split <;> assumption

theorem foldl {β : Type} {g : State → β → State} (hg : ∀ t b, Shut t (g t b)) (l : List β) (s : State) : Shut s (l.foldl g s) :=
  List.foldlRecOn (motive := Shut s) l g (refl s) fun t ht b _ => ht.trans (hg t b)

/-- A field of MOT or MED, of FC_STATUS or of PWR_STATUS is written. -/
theorem wf {f : Fld} {i j : Nat} (key : ReactionKey (f.key i j)) (s : State) (v : Nat) : Shut s (s.wf f v i j) :=
  ⟨rfl, fun _ hk => tabFind_tabSet_ne _ _ _ _ fun e => hk (e ▸ key)⟩

theorem of_rest {s t : State} (rest : t.unshut s = s) (regs : t.regs = s.regs) : Shut s t := ⟨rest, fun _ _ => by rw [regs]⟩

theorem modSv (s : State) (a : Nat) (f : Servo → Servo) : Shut s (s.modSv a f) := of_rest rfl rfl

theorem modPl (s : State) (a : Nat) (f : Pl → Pl) : Shut s (s.modPl a f) := of_rest rfl rfl

theorem emit (s : State) (o : Out) : Shut s (s.emit o) := of_rest rfl rfl

/-- A part of the state outside is as it was. -/
theorem part {s t : State} (h : Shut s t) {α : Type} {p : State → α} (outside : p (t.unshut s) = p t) : p t = p s :=
  outside.symm.trans (congrArg p h.rest)

end Shut

/-- t, with what a fault reaction may change taken from s. -/
def State.unreacted (t s : State) : State :=
  { t with fc := s.fc, regs := s.regs, chan := s.chan, plink := s.plink, servo := s.servo, sr := s.sr, port := s.port, pwr := s.pwr, recd := s.recd, mrec := s.mrec, out := s.out }

/-- From s to t only what a fault reaction may change has changed. -/
structure Reacted (s t : State) : Prop where
  rest : t.unreacted s = s
  regs : ∀ k, ¬ ReactionKey k → tabFind t.regs k = tabFind s.regs k

namespace Reacted

theorem refl (s : State) : Reacted s s := ⟨rfl, fun _ _ => rfl⟩

theorem trans {s t u : State} (h : Reacted s t) (k : Reacted t u) : Reacted s u :=
  ⟨(congrArg (·.unreacted s) k.rest).trans h.rest, fun n hn => (k.regs n hn).trans (h.regs n hn)⟩

theorem ite {s t u : State} {c : Prop} [Decidable c] (ht : Reacted s t) (hu : Reacted s u) : Reacted s (if c then t else u) := by
  split <;> assumption

theorem foldl {β : Type} {g : State → β → State} (hg : ∀ t b, Reacted t (g t b)) (l : List β) (s : State) : Reacted s (l.foldl g s) :=
  List.foldlRecOn (motive := Reacted s) l g (refl s) fun t ht b _ => ht.trans (hg t b)

/-- A field of MOT or MED, of FC_STATUS or of PWR_STATUS is written. -/
theorem wf {f : Fld} {i j : Nat} (key : ReactionKey (f.key i j)) (s : State) (v : Nat) : Reacted s (s.wf f v i j) :=
  ⟨rfl, fun _ hk => tabFind_tabSet_ne _ _ _ _ fun e => hk (e ▸ key)⟩

/-- Any other part is changed. -/
theorem of_rest {s t : State} (rest : t.unreacted s = s) (regs : t.regs = s.regs) : Reacted s t := ⟨rest, fun _ _ => by rw [regs]⟩

/-- After such a change. -/
theorem after {s t u : State} (h : Reacted t u) (rest : t.unreacted s = s) (regs : t.regs = s.regs) : Reacted s u := trans (of_rest rest regs) h

theorem of_shut {s t : State} (h : Shut s t) : Reacted s t :=
  ⟨congrArg (fun u : State => { u with fc := s.fc, sr := s.sr, port := s.port, recd := s.recd, mrec := s.mrec }) h.rest, h.regs⟩

theorem startFlush (s : State) : Reacted s s.startFlush := of_rest rfl rfl

end Reacted

theorem Fld.key_div (f : Fld) (lo : f.lo < 32) (i j : Nat) : f.key i j / 32 = f.base + i * f.si + j * f.sj := by
  rw [Fld.key]
  omega

/-- The registers of MOT and MED lie at the top of the window. -/
theorem reactionKey_of_base {f : Fld} (lo : f.lo < 32) (base : 0x600000 ≤ f.base) (i j : Nat) : ReactionKey (f.key i j) :=
  .inr (.inr (by rw [f.key_div lo]; omega))

theorem reactionKey_power {f : Fld} (lo : f.lo < 32) (base : f.base = PWR_STATUS_STATE.base) : ReactionKey (f.key 0 0) :=
  .inr (.inl (by rw [f.key_div lo]; omega))

theorem reactionKey_fault {f : Fld} (lo : f.lo < 32) (base : f.base = FC_STATUS_FATAL.base) : ReactionKey (f.key 0 0) :=
  .inl (by rw [f.key_div lo]; omega)

/-! ### The reaction to a C4 -/

theorem shut_cutWrite (s : State) (n : Nat) : Shut s (s.cutWrite n) := by
  unfold State.cutWrite
  extract_lets channel hit counted
  have count : Shut s counted := .ite (.wf (reactionKey_of_base (by decide) (by decide) n 0) s _) (.refl s)
  exact .ite (count.trans (.of_rest rfl rfl)) (.refl s)

theorem shut_sqEvent (s : State) (n e : Nat) : Shut s (s.sqEvent n e) :=
  .ite (.wf (reactionKey_of_base (by decide) (by decide) n 0) s _) (.wf (reactionKey_of_base (by decide) (by decide) n 0) s _)

theorem shut_inhibit (s : State) (bit : Nat) (x : Bool) (n : Nat) : Shut s (s.inhibit bit x n) :=
  .trans (t := s.wbit WR_STATUS_INHIBIT bit x n) (.wf (reactionKey_of_base (by decide) (by decide) n 0) s _)
    (.ite ((shut_cutWrite _ n).trans (shut_sqEvent _ n evKILL)) (.refl _))

theorem shut_inhibitAll (s : State) (bit : Nat) (x : Bool) : Shut s (s.inhibitAll bit x) :=
  .foldl (fun t n => shut_inhibit t bit x n) _ s

theorem shut_dropSeek (s : State) (a : Nat) : Shut s (s.dropSeek a) := by
  have ready (f : Fld) (lo : f.lo < 32) (base : 0x600000 ≤ f.base) (t : State) : Shut t (t.wf f 0 a) := .wf (reactionKey_of_base lo base a 0) t 0
  unfold State.dropSeek
  extract_lets refused left
  have told : Shut s refused := by
    unfold refused
    split
    · exact .of_rest rfl rfl
    · exact .refl s
  have dropped : Shut refused left := .of_rest rfl rfl
  exact ((told.trans dropped).trans (ready VC_HEADS_READ_RDY (by decide) (by decide) _)).trans (ready VC_HEADS_WRITE_RDY (by decide) (by decide) _)

theorem shut_startRetract (s : State) (a : Nat) : Shut s (s.startRetract a) := by
  unfold State.startRetract
  extract_lets cut asked
  have closed : Shut s cut := .foldl shut_cutWrite (chansOf a) s
  have reset : Shut cut asked := .ite (.modPl ..) (.refl cut)
  have dropped : Shut asked (asked.dropSeek a) := shut_dropSeek asked a
  have stepped : Shut (asked.dropSeek a) ((asked.dropSeek a).modSv a (fun v => { v with retract := 1 })) := .modSv ..
  exact .ite (((((closed.trans reset).trans dropped).trans stepped).trans
    (.wf (f := VC_STATUS_STATE) (reactionKey_of_base (by decide) (by decide) a 0) _ _)).trans
    (.wf (f := VC_STATUS_RETRACTS) (reactionKey_of_base (by decide) (by decide) a 0) _ _)) (.refl s)

/-- A power entry that ends with no actuator to reload. -/
theorem shut_abortEntry (s : State) (result : Nat) : Shut s (s.abortEntry result false) := by
  have power (f : Fld) (lo : f.lo < 32) (base : f.base = PWR_STATUS_STATE.base) (t : State) (v : Nat) : Shut t (t.wf f v) := .wf (reactionKey_power lo base) t v
  unfold State.abortEntry
  extract_lets parked ended freed released
  have h1 : Shut s ended :=
    (((power PWR_STATUS_RESULT (by decide) rfl s _).trans (power PWR_STATUS_BUSY (by decide) rfl _ _)).trans (power PWR_STATUS_STAGE (by decide) rfl _ _)).trans
      (power PWR_STATUS_PEND (by decide) rfl _ _)
  have h2 : Shut ended freed := .ite (shut_inhibitAll ended inhPOWER false) (.refl ended)
  have h3 : Shut freed released := .foldl (fun t p => .emit t (.note "RELEASE" (partIndex p) 0)) _ freed
  exact .ite (((h1.trans h2).trans h3).trans (.of_rest rfl rfl)) (.refl s)

theorem reacted_chipFatal (s : State) : Reacted s s.chipFatal := by
  unfold State.chipFatal
  extract_lets latched collectors stopped shut rings ports told retracted ended
  have h1 : Reacted s latched := (Reacted.wf (f := FC_STATUS_FATAL) (reactionKey_fault (by decide) rfl) s _).trans (.wf (f := FC_STATUS_HIGHEST) (reactionKey_fault (by decide) rfl) _ _)
  have h2 : Reacted latched stopped := .of_rest rfl rfl
  have h3 : Reacted stopped shut := .of_shut (shut_inhibitAll stopped inhFAULT true)
  have h4 : Reacted shut ports := .of_rest rfl rfl
  have h5 : Reacted ports told := .of_shut (.foldl (fun t (p : Nat × Port) => .emit t (.port p.1 "ERR_FATAL" 0)) _ ports)
  have h6 : Reacted told retracted := .of_shut (.foldl shut_startRetract _ told)
  have h7 : Reacted retracted ended :=
    .ite ((Reacted.wf (f := PWR_STATUS_COMMITTED) (reactionKey_power (by decide) rfl) retracted 0).trans (.of_shut (shut_abortEntry _ 7))) (.refl retracted)
  exact .ite (.refl s) (((((((h1.trans h2).trans h3).trans h4).trans h5).trans h6).trans h7).trans (.startFlush ended))

/-! ### The collection of a report -/

theorem reacted_dupUp (s : State) (rg src n : Nat) : Reacted s (s.dupUp rg src n) := by
  unfold State.dupUp
  extract_lets collectors regional regionalCollectors waiting
  have h1 : Reacted s regional := by
    unfold regional
    split
    · exact .ite (.of_rest rfl rfl) (.refl s)
    · exact .refl s
  have h2 : Reacted s waiting := h1.trans (.of_rest rfl rfl)
  split
  · exact .ite (h2.trans (.of_rest rfl rfl)) h2
  · exact h2

theorem reacted_toRegion (s : State) (rg : Nat) (r : FaultRec) : Reacted s (s.toRegion rg r) := by
  unfold State.toRegion
  split
  · exact .of_rest rfl rfl
  · exact .ite (reacted_dupUp ..) (.of_rest rfl rfl)

theorem reacted_reportBy (s : State) (rg blk src cell cls detail : Nat) (forced : Bool) : Reacted s (s.reportBy rg blk src cell cls detail forced) := by
  unfold State.reportBy
  extract_lets key recording recorded opened collectors collected
  have h1 : Reacted s recorded := .ite (.of_rest rfl rfl) (.refl s)
  have h2 : Reacted recorded collected := by
    unfold collected
    split
    · exact (reacted_toRegion ..).after rfl rfl
    · refine .ite ((reacted_dupUp ..).after rfl rfl) ?_
      extract_lets merged
      split <;> exact .of_rest rfl rfl
  exact (h1.trans h2).trans (.ite (reacted_chipFatal collected) (.refl collected))

theorem reacted_report (s : State) (src cell detail : Nat) : Reacted s (s.report src cell detail) := reacted_reportBy ..

theorem reacted_reportAs (s : State) (src cls cell detail : Nat) : Reacted s (s.reportAs src cls cell detail) := reacted_reportBy ..

/-- A register field outside the reaction's keeps its value. -/
theorem Reacted.rf {s t : State} (h : Reacted s t) {f : Fld} {i j : Nat} (key : ¬ ReactionKey (f.key i j)) : t.rf f i j = s.rf f i j := by
  rw [State.rf, State.rf, tabGet, tabGet, h.regs _ key]

/-- A part of the state outside the reaction's is as it was. -/
theorem Reacted.part {s t : State} (h : Reacted s t) {α : Type} {p : State → α} (outside : p (t.unreacted s) = p t) : p t = p s :=
  outside.symm.trans (congrArg p h.rest)

end Sys2Proof.Machine
end

section
/-! The Pail pools (R311 to R320, R555): what a grant, a release and a draw leave, then each command by the pool it finds. -/

namespace Sys2Proof.Machine
open Sys2Proof

/-! ### A pool's Pails under the pool's own bookkeeping (R319) -/

/-- An update that keeps the Pails allocated and reserved keeps FREE. -/
theorem poolFree_modPool (s : State) (p : Nat) {f : Pool → Pool} (alloc : (f (s.pl p)).alloc = (s.pl p).alloc) (reserved : (f (s.pl p)).reserved = (s.pl p).reserved) :
    (s.modPool p f).poolFree p = s.poolFree p := by
  rw [State.poolFree, pl_modPool_same, alloc, reserved]
  rfl

/-- With LOW_WATER 0 a grant raises no event. -/
theorem poolFell_of_noLowWater {s : State} {p : Nat} (none_low : s.par (0xC040 + p) 4 = 0) :
    s.poolFell p = s.modPool p (fun q => { q with minFree := min q.minFree (s.poolFree p) }) := by
  have par : (s.modPool p (fun q => { q with minFree := min q.minFree (s.poolFree p) })).par (0xC040 + p) 4 = 0 := none_low
  exact if_neg (by rw [par]; omega)

/-- From s to t the Pails of every pool stay allocated and reserved as they were, and the other pools stay whole. -/
structure PailsKept (s t : State) (p : Nat) : Prop where
  alloc : (t.pl p).alloc = (s.pl p).alloc
  reserved : (t.pl p).reserved = (s.pl p).reserved
  others : ∀ q, q ≠ p → t.pl q = s.pl q

theorem pl_of_pool {s t : State} (pool : t.pool = s.pool) (p : Nat) : t.pl p = s.pl p := by rw [State.pl, State.pl, pool]

theorem pailsKept_poolFell (s : State) (p : Nat) : PailsKept s (s.poolFell p) p := by
  have marked (t : State) {f : Pool → Pool} (alloc : (f (t.pl p)).alloc = (t.pl p).alloc) (reserved : (f (t.pl p)).reserved = (t.pl p).reserved) :
      PailsKept t (t.modPool p f) p := ⟨by rw [pl_modPool_same, alloc], by rw [pl_modPool_same, reserved], fun q hq => pl_modPool_ne _ _ _ _ hq⟩
  unfold State.poolFell
  extract_lets free lowest
  have h1 : PailsKept s lowest p := marked s rfl rfl
  split
  · have h2 : PailsKept lowest (lowest.modPool p (fun q => { q with low := true })) p := marked lowest rfl rfl
    have told := pl_of_pool ((reacted_report (lowest.modPool p (fun q => { q with low := true })) (srcId DAT (18 + p) 4) 0 free).part (p := State.pool) rfl)
    exact ⟨by rw [told, h2.alloc, h1.alloc], by rw [told, h2.reserved, h1.reserved], fun q hq => by rw [told, h2.others q hq, h1.others q hq]⟩
  · exact h1

/-- R316: the lowest free Pail is allocated, and nothing else of the pools changes but the marks of R319. -/
theorem pl_pailTake (s : State) (p : Nat) : ((s.pailTake p).1.pl p).alloc = insertIx (lowestFree (s.pl p).alloc 0) (s.pl p).alloc
    ∧ ((s.pailTake p).1.pl p).reserved = (s.pl p).reserved ∧ ∀ q, q ≠ p → (s.pailTake p).1.pl q = s.pl q := by
  obtain ⟨alloc, reserved, others⟩ := pailsKept_poolFell (s.modPool p (fun q => { q with alloc := insertIx (lowestFree (s.pl p).alloc 0) q.alloc })) p
  exact ⟨alloc.trans (by rw [pl_modPool_same]), reserved.trans (by rw [pl_modPool_same]), fun q hq => (others q hq).trans (pl_modPool_ne _ _ _ _ hq)⟩

theorem pool_queueDesc (s : State) (cs : List Nat) (d : Desc) : (s.queueDesc cs d).pool = s.pool := by
  have entered (t : State) (id : Nat) : (t.chEnter id).pool = t.pool := by
    unfold State.chEnter
    extract_lets engine
    split_ifs <;> rfl
  unfold State.queueDesc
  split
  · rfl
  · exact entered _ _

/-! ### PAIL_REQUEST (R315 to R318) -/

section
variable {s : State} {p r : Nat}

theorem pailRequest_of_enabled (idle : (s.pl p).waiting = []) (enabled : s.poolCount p ≠ 0) :
    s.pailRequest p [r] = (s.modPool p (fun q => { q with waiting := q.waiting ++ [r] })).pailCycle p := by
  rw [State.pailRequest, idle]
  exact if_neg enabled

theorem pailRequest_of_disabled (idle : (s.pl p).waiting = []) (disabled : s.poolCount p = 0) : s.pailRequest p [r] = s.noPool p r := by
  rw [State.pailRequest, idle]
  exact if_pos disabled

/-- A pool without a free Pail answers EMPTY. -/
theorem pailCycle_of_empty (waits : (s.pl p).waiting = [r]) (empty : s.poolFree p = 0) :
    s.pailCycle p = ((s.modPool p (fun q => { q with waiting := [] })).countEmpty p).pailAnswer r ansEMPTY 0 := by
  rw [State.pailCycle, waits]
  exact if_pos empty

/-- A free Pail goes to the one request; whether it was the last one makes no difference then, but to the list of those waiting. -/
theorem pailCycle_of_free (waits : (s.pl p).waiting = [r]) (free : s.poolFree p ≠ 0) : ∃ t : State, s.pailCycle p = t
    ∧ (t = (s.modPool p (fun q => { q with waiting := [] })).pailGrant p r
      ∨ t = ((s.modPool p (fun q => { q with waiting := [] })).pailGrant p r).modPool p (fun q => { q with waiting := [] })) := by
  refine ⟨_, rfl, ?_⟩
  rw [State.pailCycle, waits]
  dsimp only
  rw [if_neg free]
  split
  · exact .inr rfl
  · exact .inl rfl

/-- A requester that is neither a channel nor the scheduler's zeroing holds the Pail by its pointer. -/
theorem pailGrant_of_pointer (holder : 34 ≤ r) : s.pailGrant p r = (s.pailTake p).1.pailAnswer r ansGRANTED ((s.pailTake p).1.placeAddr (placeOf (s.pailTake p).2 0)) := by
  unfold State.pailGrant
  extract_lets take told
  rw [if_neg (by omega), if_neg (by omega)]

end

/-- The address of a Pail's first sector. -/
theorem placeAddr_pail (s : State) (p : Nat) {i : Nat} (h : i < 2 ^ 18) : s.placeAddr (placeOf (pailId p i) 0) = s.poolBase p + i * s.poolSize p := by
  have pail : placePail (placeOf (pailId p i) 0) = pailId p i := by rw [placePail, placeOf]; omega
  have sector : placeOf (pailId p i) 0 % 1024 = 0 := by rw [placeOf]; omega
  have pool : pailPool (pailId p i) = p := by rw [pailPool, pailId]; omega
  have ix : pailIx (pailId p i) = i := by rw [pailIx, pailId]; omega
  simp only [State.placeAddr, pail, sector, pool, ix, Nat.mul_zero, Nat.add_zero]

theorem exec_pailRequest_one (s : State) (p : Fin 16) (r : Fin 39) : exec (.pailRequest p [r]) s = .next (s.pailRequest p.val [r.val]) := rfl

/-- The state after a grant of the lowest free Pail i, with LOW_WATER 0. -/
structure State.Granted (s t : State) (p r i : Nat) : Prop where
  out : t.out = .note "Pail answer" (16 * r) (s.poolBase p + i * s.poolSize p) :: s.out
  alloc : (t.pl p).alloc = insertIx i (s.pl p).alloc
  waiting : (t.pl p).waiting = (s.pl p).waiting
  fc : t.fc = s.fc
  mem : t.mem = s.mem

theorem granted_pailGrant {s : State} {p r i : Nat} (hi : i < 2 ^ 18) (holder : 34 ≤ r) (none_low : s.par (0xC040 + p) 4 = 0)
    (lowest : lowestFree (s.pl p).alloc 0 = i) : s.Granted (s.pailGrant p r) p r i := by
  have taken : s.pailTake p = ((s.modPool p (fun q => { q with alloc := insertIx i q.alloc })).modPool p
      (fun q => { q with minFree := min q.minFree ((s.modPool p (fun q => { q with alloc := insertIx i q.alloc })).poolFree p) }), pailId p i) := by
    rw [State.pailTake, lowest]
    exact congrArg (·, pailId p i) (poolFell_of_noLowWater none_low)
  rw [pailGrant_of_pointer holder, taken, placeAddr_pail _ _ hi]
  exact ⟨rfl, by simp [State.pailAnswer], by simp [State.pailAnswer], rfl, rfl⟩

section
variable {s : State} {p : Fin 16} {r : Fin 39} (idle : (s.pl p.val).waiting = []) (enabled : s.poolCount p.val ≠ 0)
include idle enabled

theorem exec_pailRequest_of_free {i : Fin (2 ^ 18)} (holder : 34 ≤ r.val) (free : s.poolFree p.val ≠ 0) (none_low : s.par (0xC040 + p.val) 4 = 0)
    (lowest : lowestFree (s.pl p.val).alloc 0 = i.val) :
    ∃ t : State, exec (.pailRequest p [r]) s = .next t ∧ t.out = .note "Pail answer" (16 * r.val) (s.poolBase p.val + i.val * s.poolSize p.val) :: s.out
      ∧ (t.pl p.val).alloc = insertIx i.val (s.pl p.val).alloc ∧ (t.pl p.val).waiting = [] ∧ t.fc = s.fc ∧ t.mem = s.mem := by
  have asked : ((s.modPool p.val (fun q => { q with waiting := q.waiting ++ [r.val] })).pl p.val).waiting = [r.val] := by rw [pl_modPool_same, idle]; rfl
  have still : (s.modPool p.val (fun q => { q with waiting := q.waiting ++ [r.val] })).poolFree p.val ≠ 0 := by rwa [poolFree_modPool s p.val rfl rfl]
  obtain ⟨t, cycle, granted⟩ := pailCycle_of_free asked still
  rw [exec_pailRequest_one, pailRequest_of_enabled idle enabled, cycle]
  refine ⟨t, rfl, ?_⟩
  obtain ⟨out, alloc, waiting, fc, mem⟩ := granted_pailGrant (s := (s.modPool p.val (fun q => { q with waiting := q.waiting ++ [r.val] })).modPool p.val
    (fun q => { q with waiting := [] })) i.isLt holder none_low (by rw [pl_modPool_same, pl_modPool_same]; exact lowest)
  rw [pl_modPool_same, pl_modPool_same] at alloc waiting
  rcases granted with rfl | rfl
  · exact ⟨out, alloc, waiting, fc, mem⟩
  · exact ⟨out, by rw [pl_modPool_same]; exact alloc, by rw [pl_modPool_same], fc, mem⟩

theorem exec_pailRequest_of_empty (empty : s.poolFree p.val = 0) : ∃ t : State, exec (.pailRequest p [r]) s = .next t
    ∧ t.out = .note "Pail answer" (16 * r.val + 1) 0 :: s.out ∧ (t.pl p.val).alloc = (s.pl p.val).alloc
    ∧ t.rf PAIL_EMPTY_COUNT p.val = min (s.rf PAIL_EMPTY_COUNT p.val + 1) (2 ^ PAIL_EMPTY_COUNT.width - 1) ∧ t.fc = s.fc := by
  have asked : ((s.modPool p.val (fun q => { q with waiting := q.waiting ++ [r.val] })).pl p.val).waiting = [r.val] := by rw [pl_modPool_same, idle]; rfl
  have still : (s.modPool p.val (fun q => { q with waiting := q.waiting ++ [r.val] })).poolFree p.val = 0 := by rwa [poolFree_modPool s p.val rfl rfl]
  rw [exec_pailRequest_one, pailRequest_of_enabled idle enabled, pailCycle_of_empty asked still]
  refine ⟨_, rfl, rfl, ?_, ?_, ?_⟩
  · simp [State.pailAnswer, State.countEmpty, State.cnt]
  · rw [State.pailAnswer, rf_emit, State.countEmpty, rf_cnt_same, rf_modPool, rf_modPool, rf_modPool]
  · simp [State.pailAnswer, State.countEmpty, State.cnt]

end

theorem exec_pailRequest_of_disabled {s : State} {p : Fin 16} {r : Fin 39} (holder : 32 ≤ r.val) (idle : (s.pl p.val).waiting = []) (disabled : s.poolCount p.val = 0) :
    exec (.pailRequest p [r]) s = .next ((s.report (srcId DAT (18 + p.val) 3) r.val).emit (.note "Pail answer" (16 * r.val + 5) 0)) := by
  rw [exec_pailRequest_one, pailRequest_of_disabled idle disabled]
  exact congrArg Host.Outcome.next (if_neg (by omega))

/-! ### PAIL_RELEASE (R315, R319) -/

section
variable {s : State} {p r a : Nat}

/-- A release refused with a code of R315. -/
def State.releaseRefused (s : State) (p r a code : Nat) : State :=
  ((s.report (srcId DAT (18 + p) (code - 2)) r a).pailErr p r code).pailAnswer r code 0

theorem pailRelease_of_disabled (disabled : s.poolCount p = 0) : s.pailRelease p r a = (s.report (srcId DAT (18 + p) 3) r a).pailAnswer r ansNO_POOL 0 :=
  if_pos disabled

theorem pailRelease_of_outside (enabled : s.poolCount p ≠ 0) (outside : a < s.poolBase p ∨ s.poolBase p + s.poolCount p * s.poolSize p ≤ a) :
    s.pailRelease p r a = s.releaseRefused p r a ansRANGE := (if_neg enabled).trans (if_pos outside)

section
variable (low : s.poolBase p ≤ a) (high : a < s.poolBase p + s.poolCount p * s.poolSize p)
include low high

theorem pailRelease_of_inside : s.pailRelease p r a =
    if (a - s.poolBase p) % s.poolSize p ≠ 0 then s.releaseRefused p r a ansALIGN
    else if !(s.pl p).alloc.contains ((a - s.poolBase p) / s.poolSize p) then s.releaseRefused p r a ansDOUBLE_FREE
    else s.pailDrop (pailId p ((a - s.poolBase p) / s.poolSize p)) := by
  have enabled : s.poolCount p ≠ 0 := fun none_there => by rw [none_there] at high; omega
  exact (if_neg enabled).trans (if_neg (by omega))

theorem pailRelease_of_misaligned (misaligned : (a - s.poolBase p) % s.poolSize p ≠ 0) : s.pailRelease p r a = s.releaseRefused p r a ansALIGN := by
  rw [pailRelease_of_inside low high, if_pos misaligned]

end

section
variable {i : Nat} (start : a = s.poolBase p + i * s.poolSize p) (within : i < s.poolCount p)
include start within

theorem pailRelease_of_pail : s.pailRelease p r a =
    if !(s.pl p).alloc.contains i then s.releaseRefused p r a ansDOUBLE_FREE else s.pailDrop (pailId p i) := by
  have size : 0 < s.poolSize p := Nat.pow_pos (by omega)
  have below : i * s.poolSize p < s.poolCount p * s.poolSize p := Nat.mul_lt_mul_of_pos_right within size
  have offset : a - s.poolBase p = i * s.poolSize p := by omega
  rw [pailRelease_of_inside (by omega) (by omega), offset, if_neg (by simp), Nat.mul_div_cancel i size]

theorem pailRelease_of_free (free : (s.pl p).alloc.contains i = false) : s.pailRelease p r a = s.releaseRefused p r a ansDOUBLE_FREE := by
  rw [pailRelease_of_pail start within, free]
  rfl

theorem pailRelease_of_allocated (allocated : (s.pl p).alloc.contains i = true) : s.pailRelease p r a = s.pailDrop (pailId p i) := by
  rw [pailRelease_of_pail start within, allocated]
  rfl

end
end

/-- A Pail's release frees it alone. -/
theorem pl_pailDrop (s : State) (p : Nat) {i : Nat} (h : i < 2 ^ 18) :
    ((s.pailDrop (pailId p i)).pl p).alloc = (s.pl p).alloc.erase i ∧ ∀ q, q ≠ p → (s.pailDrop (pailId p i)).pl q = s.pl q := by
  have pool : pailPool (pailId p i) = p := by rw [pailPool, pailId]; omega
  have ix : pailIx (pailId p i) = i := by rw [pailIx, pailId]; omega
  rw [State.pailDrop, pool, ix, State.poolRose]
  split
  · exact ⟨by simp, fun q hq => by rw [pl_modPool_ne _ _ _ _ hq, pl_modPool_ne _ _ _ _ hq]⟩
  · exact ⟨by simp, fun q hq => pl_modPool_ne _ _ _ _ hq⟩

/-! ### PAIL_DRAW (R555) -/

theorem pailDraw_of_unreserved {s : State} {c : Cmd} {n : Nat} (found : s.cmd n = some c) (unreserved : s.reservedOf c = 0) : s.pailDraw n = s := by
  rw [State.pailDraw, found]
  exact if_pos (.inl unreserved)

/-- The state after a draw's reservation has been charged. -/
def State.drawCharged (s : State) (c : Cmd) : State :=
  s.modPool c.pool (fun q => { q with reserved := if s.reservedOf c = 1 then tabDel q.reserved c.stamp else tabSet q.reserved c.stamp (s.reservedOf c - 1) })

/-- A write's draw allocates by `pailTake` and queues a transfer, which touches no pool. -/
theorem pool_pailDraw_of_write {s : State} {c : Cmd} {n : Nat} (found : s.cmd n = some c) (stamp : c.stamp = n) (reserved : s.reservedOf c ≠ 0)
    (runs : c.aborted = false) (write : c.op = .write) : (s.pailDraw n).pool = ((s.drawCharged c).pailTake c.pool).1.pool := by
  subst stamp
  simp only [State.pailDraw, found, runs, write, reserved, Bool.false_eq_true, or_self, if_true, if_false, pool_queueDesc]
  rfl

/-- Settles O33, command by command. -/
theorem pailsAreGrantedAndReturned : Obligations.PailsAreGrantedAndReturned := by
  intro s p
  refine ⟨fun r i holder idle enabled free none_low lowest => exec_pailRequest_of_free idle enabled holder free none_low lowest,
    fun r idle enabled empty => exec_pailRequest_of_empty idle enabled empty, fun r holder idle disabled => exec_pailRequest_of_disabled holder idle disabled,
    fun r a => ⟨?disabled, ?range, ?align, fun i start within => ⟨?double, ?freed⟩⟩, ?unknown, ?unreserved, ?drawn, ?noEntry, ?again, ?expired, rfl⟩
  case disabled => exact fun disabled => congrArg Host.Outcome.next (pailRelease_of_disabled disabled)
  case range => exact fun enabled outside => congrArg Host.Outcome.next (pailRelease_of_outside enabled outside)
  case align => exact fun low high misaligned => congrArg Host.Outcome.next (pailRelease_of_misaligned low high misaligned)
  case double => exact fun free => congrArg Host.Outcome.next (pailRelease_of_free start within free)
  case freed =>
    intro allocated
    obtain ⟨alloc, others⟩ := pl_pailDrop s p.val i.isLt
    have kept := pailDrop_pools s (pailId p.val i.val)
    exact ⟨_, congrArg Host.Outcome.next (pailRelease_of_allocated start within allocated), alloc, others, (congrArg State.out kept :), (congrArg State.fc kept :),
      (congrArg State.regs kept :)⟩
  case unknown =>
    intro n unknown
    change Host.Outcome.next (s.pailDraw n.toNat) = _
    rw [State.pailDraw, unknown]
  case unreserved => exact fun n c found unreserved _ => congrArg Host.Outcome.next (pailDraw_of_unreserved found unreserved)
  case drawn =>
    intro n c found stamp reserved runs write
    obtain ⟨alloc, kept, others⟩ := pl_pailTake (s.drawCharged c) c.pool
    have drawn := pl_of_pool (pool_pailDraw_of_write found stamp reserved runs write)
    have charged : ((s.drawCharged c).pl c.pool).alloc = (s.pl c.pool).alloc := by rw [State.drawCharged, pl_modPool_same]
    refine ⟨_, rfl, ?_, fun q hq => ?_, fun two => ?_⟩
    · rw [drawn, alloc, charged]
    · rw [drawn, others q hq, State.drawCharged, pl_modPool_ne _ _ _ _ hq]
    · rw [drawn, kept, State.drawCharged, pl_modPool_same]
      exact if_neg (by omega)
  case noEntry =>
    intro n none_there
    change execPailRerequest n s = _ ∧ execPailWaitExpiry n s = _
    rw [execPailRerequest, execPailWaitExpiry, none_there]
    exact ⟨rfl, rfl⟩
  case again =>
    intro n e entry pool
    change execPailRerequest n s = _
    simp only [execPailRerequest, entry, pool]
    rfl
  case expired =>
    intro n e entry runs
    refine ⟨(s.storeFree (halfOf n.val) e false).requeue e.cmd, ?_, ?_⟩
    · change execPailWaitExpiry n s = _
      rw [execPailWaitExpiry, entry]
    · rw [State.requeue, runs]
      exact List.getLast?_concat

end Sys2Proof.Machine
end

section
/-! What an access to the buffer leaves as it was: reads and writes change the buffer, the flip mask, the registers of the ECC unit and of the
pseudo-channels, and what a report of theirs changes (R287 to R301). -/

namespace Sys2Proof.Machine
open Sys2Proof

/-- The registers of the ECC unit and of the pseudo-channels. -/
def MemoryKey (k : Nat) : Prop := 0x410000 ≤ k / 32 ∧ k / 32 < 0x421000

/-- t, with what an access to the buffer may change taken from s. -/
def State.unbuffered (t s : State) : State := { t.unreacted s with mem := s.mem, buf := s.buf, flipMask := s.flipMask }

/-- From s to t only what an access to the buffer may change has changed. -/
structure Buffered (s t : State) : Prop where
  rest : t.unbuffered s = s
  regs : ∀ k, ¬ ReactionKey k → ¬ MemoryKey k → tabFind t.regs k = tabFind s.regs k

namespace Buffered

theorem refl (s : State) : Buffered s s := ⟨rfl, fun _ _ _ => rfl⟩

theorem trans {s t u : State} (h : Buffered s t) (k : Buffered t u) : Buffered s u :=
  ⟨(congrArg (·.unbuffered s) k.rest).trans h.rest, fun n hr hm => (k.regs n hr hm).trans (h.regs n hr hm)⟩

theorem ite {s t u : State} {c : Prop} [Decidable c] (ht : Buffered s t) (hu : Buffered s u) : Buffered s (if c then t else u) := by
  split <;> assumption

theorem foldl {β : Type} {g : State → β → State} (hg : ∀ t b, Buffered t (g t b)) (l : List β) (s : State) : Buffered s (l.foldl g s) :=
  List.foldlRecOn (motive := Buffered s) l g (refl s) fun t ht b _ => ht.trans (hg t b)

/-- Passes that also carry an answer. -/
theorem foldl_fst {β γ : Type} {g : State × γ → β → State × γ} (hg : ∀ t b, Buffered t.1 (g t b).1) (l : List β) (p : State × γ) :
    Buffered p.1 (l.foldl g p).1 :=
  List.foldlRecOn (motive := fun r => Buffered p.1 r.1) l g (refl p.1) fun t ht b _ => ht.trans (hg t b)

theorem of_rest {s t : State} (rest : t.unbuffered s = s) (regs : t.regs = s.regs) : Buffered s t := ⟨rest, fun _ _ _ => by rw [regs]⟩

theorem of_reacted {s t : State} (h : Reacted s t) : Buffered s t :=
  ⟨congrArg (fun u : State => { u with mem := s.mem, buf := s.buf, flipMask := s.flipMask }) h.rest, fun k hr _ => h.regs k hr⟩

theorem wf {f : Fld} {i j : Nat} (key : MemoryKey (f.key i j)) (s : State) (v : Nat) : Buffered s (s.wf f v i j) :=
  ⟨rfl, fun _ _ hm => tabFind_tabSet_ne _ _ _ _ fun e => hm (e ▸ key)⟩

theorem setErr (s : State) (w m : Nat) : Buffered s (s.setErr w m) := of_rest rfl rfl

theorem modPc (s : State) (p : Nat) (f : PcSt → PcSt) : Buffered s (s.modPc p f) := of_rest rfl rfl

theorem after {s t u : State} (h : Buffered t u) (rest : t.unbuffered s = s) (regs : t.regs = s.regs) : Buffered s u := trans (of_rest rest regs) h

/-- A register field outside the buffer's and the reaction's keeps its value. -/
theorem rf {s t : State} (h : Buffered s t) {f : Fld} {i j : Nat} (reaction : ¬ ReactionKey (f.key i j)) (memory : ¬ MemoryKey (f.key i j)) :
    t.rf f i j = s.rf f i j := by
  rw [State.rf, State.rf, tabGet, tabGet, h.regs _ reaction memory]

/-- A part of the state outside the buffer's and the reaction's is as it was. -/
theorem part {s t : State} (h : Buffered s t) {α : Type} {p : State → α} (outside : p (t.unbuffered s) = p t) : p t = p s :=
  outside.symm.trans (congrArg p h.rest)

end Buffered

/-- A field of the ECC unit; and one of pseudo-channel p. -/
theorem memoryKey_ecc {f : Fld} (lo : f.lo < 32) (base : 0x410000 ≤ f.base ∧ f.base < 0x421000) : MemoryKey (f.key 0 0) := by
  rw [MemoryKey, f.key_div lo]
  omega

theorem memoryKey_pc {f : Fld} (lo : f.lo < 32) (step : f.si = 0x1000) (base : 0x410000 ≤ f.base ∧ f.base < 0x411000) {p : Nat} (hp : p < 16) :
    MemoryKey (f.key p 0) := by
  rw [MemoryKey, f.key_div lo, step]
  omega

theorem pcOf_lt (s : State) (page : Nat) : s.pcOf page < 16 := by
  rw [State.pcOf]
  split
  · exact Nat.mod_lt _ (by decide)
  · exact Nat.mod_lt _ (by decide)

theorem buffered_report (s : State) (src cell detail : Nat) : Buffered s (s.report src cell detail) := .of_reacted (reacted_report ..)

/-! ### The codes (R294, R296, R297) and poisoned pages (R299) -/

theorem buffered_lightFix (s : State) (w left : Nat) : Buffered s (s.lightFix w left) := by
  unfold State.lightFix
  extract_lets p back
  have h1 : Buffered s back := .ite (.setErr ..) (.refl s)
  have h2 : Buffered back (back.cnt ECC_CE_COUNT) := .wf (memoryKey_ecc (by decide) (by decide)) _ _
  have h3 (t : State) : Buffered t (t.cnt HBM_PC_CE_COUNT p) := .wf (memoryKey_pc (by decide) rfl (by decide) (pcOf_lt s _)) _ _
  exact ((((h1.trans h2).trans (h3 _)).trans (.modPc ..))).trans (buffered_report ..)

theorem buffered_poisonCounts (s : State) {p : Nat} (hp : p < 16) : Buffered s (s.poisonCounts p) :=
  .trans (t := s.wf ECC_STATUS_POISON s.buf.poison.length) (.wf (memoryKey_ecc (by decide) (by decide)) _ _)
    (.wf (f := HBM_PC_STATUS_POISON) (memoryKey_pc (by decide) rfl (by decide) hp) _ _)

theorem buffered_pcDue (s : State) (p cause : Nat) : Buffered s (s.pcDue p cause) := .ite (.modPc ..) (.refl s)

theorem buffered_poison (s : State) (page at_ : Nat) (ws : List Nat) : Buffered s (s.poison page at_ ws) := by
  unfold State.poison
  extract_lets new mask p buffer entered counted named shown
  have hp : p < 16 := Nat.mod_lt _ (by decide)
  have lost (t : State) (w : Nat) : Buffered t (((t.cnt ECC_UE_COUNT).cnt HBM_PC_SC_UE p).report (srcId DAT 16 34) p (256 * page + w)) :=
    have h1 : Buffered t (t.cnt ECC_UE_COUNT) := .wf (memoryKey_ecc (by decide) (by decide)) _ _
    have h2 (u : State) : Buffered u (u.cnt HBM_PC_SC_UE p) := .wf (memoryKey_pc (by decide) rfl (by decide) hp) _ _
    (h1.trans (h2 _)).trans (buffered_report ..)
  have h1 : Buffered s entered := .of_rest rfl rfl
  have h2 : Buffered entered counted := .foldl lost new entered
  have ecc (f : Fld) (lo : f.lo < 32) (base : 0x410000 ≤ f.base ∧ f.base < 0x421000) (t : State) (v : Nat) : Buffered t (t.wf f v) := .wf (memoryKey_ecc lo base) t v
  have h3 : Buffered counted named := .ite (.refl counted)
    (((ecc ECC_LAST_UE_PAGE (by decide) (by decide) _ _).trans (ecc ECC_LAST_UE_WORD (by decide) (by decide) _ _)).trans
      (ecc ECC_LAST_UE_VALID (by decide) (by decide) _ _))
  have h4 : Buffered named shown := buffered_poisonCounts named hp
  exact (((h1.trans h2).trans h3).trans h4).trans (.ite (buffered_pcDue ..) (.refl shown))

/-- The eight parity words of a page are recomputed. -/
theorem buffered_parityReset (s : State) (page : Nat) : Buffered s ((List.range 8).foldl (fun t k => t.setErr (t.parityWord page k) 0) s) :=
  .foldl (fun t k => .setErr t (t.parityWord page k) 0) _ s

theorem buffered_unpoison (s : State) (w : Nat) : Buffered s (s.unpoison w) := by
  unfold State.unpoison
  extract_lets page mask buffer entered whole
  have h1 : Buffered s entered := .of_rest rfl rfl
  have h2 : Buffered entered whole := .ite (buffered_parityReset ..) (.refl entered)
  exact .ite (.refl s) ((h1.trans h2).trans (buffered_poisonCounts _ (Nat.mod_lt _ (by decide))))

theorem buffered_strongCount (s : State) (page : Nat) : Buffered s (s.strongCount page) := by
  unfold State.strongCount
  extract_lets p now recent counted due
  have h1 : Buffered s (s.cnt ECC_SC_COUNT) := .wf (memoryKey_ecc (by decide) (by decide)) _ _
  have h2 (t : State) : Buffered t (t.cnt HBM_PC_SC_SC p) := .wf (memoryKey_pc (by decide) rfl (by decide) (pcOf_lt s _)) _ _
  have h3 : Buffered s counted := (h1.trans (h2 _)).trans (.modPc ..)
  exact (h3.trans (.ite (buffered_pcDue ..) (.refl counted))).trans (buffered_report ..)

theorem buffered_strongDecode (s : State) (page at_ : Nat) : Buffered s (s.strongDecode page at_) := by
  unfold State.strongDecode
  extract_lets bad fixes parity
  have h1 : Buffered s parity := .ite ((buffered_parityReset s page).trans (buffered_strongCount ..)) (.refl s)
  have h2 : Buffered parity ((bad.foldl (fun t e => t.setErr e.1 0) parity).strongCount page) :=
    (Buffered.foldl (fun t (e : Nat × Nat) => .setErr t e.1 0) bad parity).trans (buffered_strongCount ..)
  exact .ite (.refl s) (.ite (h1.trans (.ite h2 (.refl parity))) (buffered_poison ..))

/-! ### Reads and writes -/

theorem buffered_readWord (s : State) (w : Nat) : Buffered s (s.readWord w).1 := by
  unfold State.readWord
  split
  · exact .refl s
  · split
    · exact .refl s
    · exact buffered_lightFix ..
    · split
      · exact buffered_poison ..
      · exact buffered_strongDecode ..

theorem buffered_memRead (s : State) (a n : Nat) : Buffered s (s.memRead a n).1 := by
  unfold State.memRead
  split
  · exact .refl s
  · exact Buffered.foldl_fst (g := fun t w => ((t.1.readWord w).1, t.2 || (t.1.readWord w).2)) (fun t w => buffered_readWord t.1 w) (wordsOf a n) (s, false)

theorem buffered_flipTake (s : State) (w : Nat) : Buffered s (s.flipTake w) := by
  unfold State.flipTake
  split
  · exact .refl s
  · extract_lets mask applied buffer
    have spent : Buffered s applied := (Buffered.setErr s w _).trans (.wf (f := HBM_FLIP_CTRL_ARM) (memoryKey_ecc (by decide) (by decide)) _ _)
    exact .ite (spent.trans (.of_rest rfl rfl)) (.refl s)

theorem buffered_putBytes (s : State) (a : Nat) (bs : List Byte) : Buffered s (s.putBytes a bs) := by
  obtain ⟨m, o, put⟩ := putBytes_eq bs s a
  exact put ▸ .of_rest rfl rfl

theorem buffered_writeWord (s : State) (w a : Nat) (bytes : List Byte) (full : Bool) : Buffered s (s.writeWord w a bytes full).1 := by
  unfold State.writeWord
  extract_lets lo hi part stored whole r
  have h1 : Buffered s stored := (buffered_putBytes s lo part).trans (.setErr ..)
  have h2 : Buffered stored whole := .ite (.refl stored) (buffered_unpoison ..)
  have h3 : Buffered s r.1 := buffered_readWord s w
  split
  · exact (h1.trans h2).trans (buffered_flipTake ..)
  · split
    · exact h3
    · exact ((h3.trans (buffered_putBytes ..)).trans (.setErr ..)).trans (buffered_flipTake ..)

theorem buffered_pagePass (a n : Nat) (s : State) (page : Nat) : Buffered s (s.pagePass a n page) := by
  unfold State.pagePass
  have renewed : Buffered s (s.pageRenewed page) := .of_rest rfl rfl
  have merged (t : State) : Buffered t (t.parityMerge page) := .ite (.refl t) (.of_rest rfl rfl)
  exact .ite ((renewed.trans (buffered_parityReset ..)).trans (buffered_poisonCounts _ (Nat.mod_lt _ (by decide))))
    (.trans (t := if 512 ≤ s.buf.parity.length ∧ !s.buf.parity.contains page then s.parityFlush (s.buf.parity.headD 0) else s)
      (.ite (.of_rest rfl rfl) (.refl s)) (merged _))

theorem buffered_memWrite (s : State) (a : Nat) (bytes : List Byte) : Buffered s (s.memWrite a bytes).1 := by
  by_cases inside : a + bytes.length ≤ s.dataEnd
  · rw [memWrite_of_inside inside]
    have blocks (t : State) (k : Nat) : Buffered t (t.blockPass a bytes.length k) := .ite (.of_rest rfl rfl) (.refl t)
    exact ((Buffered.foldl blocks _ s).trans (.foldl (fun t page => buffered_pagePass a bytes.length t page) _ _)).trans
      (Buffered.foldl_fst (g := wordPass a bytes) (fun t w => buffered_writeWord t.1 w a bytes _) _ (_, false))
  · have refused : s.inData a bytes.length = false := decide_eq_false inside
    rw [State.memWrite, refused]
    exact .refl s

end Sys2Proof.Machine
end

section
/-! The metadata cache (R321 to R328): its merging buffer, then each command by the cache's state. -/

namespace Sys2Proof.Machine
open Sys2Proof

/-! ### The cache's registers -/

/-- A field of the cache lies outside what a report or an access to the buffer may write. -/
structure Fld.OfCache (f : Fld) : Prop where
  lo : f.lo < 32
  base : 0x440000 ≤ f.base
  top : f.base ≤ 0x441000
  step : f.si = 0
  copies : f.sj ≤ 8

theorem Fld.OfCache.apart {f : Fld} (h : f.OfCache) {j : Nat} (hj : j < 16) : ¬ ReactionKey (f.key 0 j) ∧ ¬ MemoryKey (f.key 0 j) := by
  obtain ⟨lo, base, top, step, copies⟩ := h
  have span : j * f.sj ≤ 16 * 8 := Nat.mul_le_mul (by omega) copies
  rw [ReactionKey, MemoryKey, f.key_div lo, step]
  simp only [FC_STATUS_FATAL, PWR_STATUS_STATE]
  omega

/-! ### The merging buffer under its writes (R323) -/

theorem runs_buffered (l : List (Nat × List Byte)) (g : Nat) (s : State) : Buffered s (l.foldl (fun t r => (t.memWrite (64 * g + r.1) r.2).1) s) :=
  .foldl (fun t r => buffered_memWrite t (64 * g + r.1) r.2) l s

/-- An entry that is written leaves the merging buffer; the rest of the cache is as it was. -/
theorem mcc_mergeWrite (s : State) (e : MergeEnt) : (s.mergeWrite e).mcc = { s.mcc with merge := s.mcc.merge.erase e } :=
  (runs_buffered (runsOf e.bytes) e.granule _).part (p := State.mcc) rfl

theorem mbUsed_mergeWrite (s : State) (e : MergeEnt) : (s.mergeWrite e).rf MCC_STATUS_MB_USED = (s.mcc.merge.erase e).length % 64 := by
  have left := congrArg (fun c => c.merge.length) (mcc_mergeWrite s e)
  exact (rf_wf_same ..).trans (congrArg (· % 64) left)

theorem rf_mergeWrite (s : State) (e : MergeEnt) {f : Fld} (cache : f.OfCache) (other : f.key 0 0 ≠ MCC_STATUS_MB_USED.key 0 0) :
    (s.mergeWrite e).rf f = s.rf f :=
  (rf_wf_ne _ _ _ _ _ _ _ _ other).trans ((runs_buffered (runsOf e.bytes) e.granule _).rf (cache.apart (by decide)).1 (cache.apart (by decide)).2)

theorem fills_mergeLine (s : State) (line : Nat) : (s.mergeLine line).mcc.fills = s.mcc.fills :=
  List.foldlRecOn (motive := fun t : State => t.mcc.fills = s.mcc.fills) _ _ rfl fun t h e _ => by rw [mcc_mergeWrite]; exact h

theorem rf_mergeLine (s : State) (line : Nat) {f : Fld} (cache : f.OfCache) (other : f.key 0 0 ≠ MCC_STATUS_MB_USED.key 0 0) :
    (s.mergeLine line).rf f = s.rf f :=
  List.foldlRecOn (motive := fun t : State => t.rf f = s.rf f) _ _ rfl fun t h e _ => (rf_mergeWrite t e cache other).trans h

theorem mergeLine_of_empty {s : State} (empty : s.mcc.merge = []) (line : Nat) : s.mergeLine line = s := by rw [State.mergeLine, empty]; rfl

/-! ### Bytes that enter the merging buffer (R322, R323) -/

/-- The entries after byte a has entered with value v. -/
def entriesPut (l : List MergeEnt) (a : Nat) (v : Byte) : List MergeEnt :=
  match l.find? (fun e => e.granule == a / 64) with
  | some e => l.map (fun x => if x = e then { x with bytes := tabSet x.bytes (a % 64) v.toNat } else x)
  | none => l ++ [{ granule := a / 64, bytes := [(a % 64, v.toNat)] }]

/-- What the entries give for byte x, over the byte d of memory. -/
def entriesByte (l : List MergeEnt) (d : Byte) (x : Nat) : Byte :=
  match l.find? (fun e => e.granule == x / 64) with
  | some e => (match tabFind e.bytes (x % 64) with | some v => BitVec.ofNat 8 v | none => d)
  | none => d

theorem cachedByte_eq (s : State) (x : Nat) : s.cachedByte x = entriesByte s.mcc.merge (s.byteAt x) x := rfl

theorem div_mod_64_eq {x a : Nat} (granule : x / 64 = a / 64) (offset : x % 64 = a % 64) : x = a := by omega

theorem granule_of_found {l : List MergeEnt} {g : Nat} {e : MergeEnt} (found : l.find? (fun e => e.granule == g) = some e) : e.granule = g := by
  simpa using List.find?_some found

theorem entriesByte_entriesPut (l : List MergeEnt) (a : Nat) (v d : Byte) (x : Nat) :
    entriesByte (entriesPut l a v) d x = if x = a then v else entriesByte l d x := by
  rw [entriesPut]
  split
  · next e found =>
    have keeps : (fun y : MergeEnt => y.granule == x / 64) ∘ (fun y => if y = e then { y with bytes := tabSet y.bytes (a % 64) v.toNat } else y) =
        fun y => y.granule == x / 64 := by
      funext y
      simp only [Function.comp_apply]
      split <;> rfl
    rw [entriesByte, List.find?_map, keeps]
    by_cases same : x / 64 = a / 64
    · rw [same, found, entriesByte, same, found]
      simp only [Option.map_some, if_true]
      by_cases offset : x % 64 = a % 64
      · simp [div_mod_64_eq same offset]
      · have other : x ≠ a := fun h => offset (h ▸ rfl)
        rw [tabFind_tabSet_ne _ _ _ _ offset, if_neg other]
    · have other : x ≠ a := fun h => same (h ▸ rfl)
      rw [if_neg other, entriesByte]
      cases at_x : l.find? (fun y => y.granule == x / 64) with
      | none => rfl
      | some y =>
        have differ : y ≠ e := by
          rintro rfl
          exact same ((granule_of_found at_x).symm.trans (granule_of_found found))
        simp only [Option.map_some, differ, if_false]
  · next absent =>
    rw [entriesByte, List.find?_append]
    by_cases same : x / 64 = a / 64
    · rw [entriesByte, same, absent]
      by_cases offset : x % 64 = a % 64
      · simp [tabFind, div_mod_64_eq same offset]
      · have other : x ≠ a := fun h => offset (h ▸ rfl)
        simp [tabFind, Ne.symm offset, other]
    · have other : x ≠ a := fun h => same (h ▸ rfl)
      have apart : ([{ granule := a / 64, bytes := [(a % 64, v.toNat)] }] : List MergeEnt).find? (fun y => y.granule == x / 64) = none := by
        simp [Ne.symm same]
      rw [apart, Option.or_none, if_neg other]
      rfl

/-- Byte a has an entry, or there is room for one. -/
def EntriesRoom (l : List MergeEnt) (a k : Nat) : Prop := ((∃ e ∈ l, e.granule = a / 64) ∧ l.length + k ≤ 32) ∨ l.length + k < 32

theorem granule_entriesPut (l : List MergeEnt) (a : Nat) (v : Byte) : ∃ e ∈ entriesPut l a v, e.granule = a / 64 := by
  rw [entriesPut]
  split
  · next e found =>
    exact ⟨_, List.mem_map_of_mem (List.mem_of_find?_eq_some found), by rw [if_pos rfl]; exact (granule_of_found found : e.granule = _)⟩
  · exact ⟨_, List.mem_append_right _ (List.mem_singleton.2 rfl), rfl⟩

theorem length_entriesPut {l : List MergeEnt} {a k : Nat} (room : EntriesRoom l a k) (v : Byte) : (entriesPut l a v).length + k ≤ 32 := by
  rw [entriesPut]
  split
  · rw [List.length_map]
    rcases room with ⟨-, h⟩ | h <;> omega
  · next absent =>
    rw [List.length_append, List.length_singleton]
    rcases room with ⟨⟨e, he, mine⟩, -⟩ | h
    · exact absurd (beq_iff_eq.2 mine) (List.find?_eq_none.1 absent e he)
    · omega

/-- A byte put without a drain touches the merging buffer and its count alone. -/
theorem mergePut_of_room {s : State} {a k : Nat} (room : EntriesRoom s.mcc.merge a k) (v : Byte) :
    ∃ r, s.mergePut a v = { s with mcc.merge := entriesPut s.mcc.merge a v, regs := r } := by
  cases found : s.mcc.merge.find? (fun e => e.granule == a / 64) with
  | some e =>
    refine ⟨s.regs, ?_⟩
    simp only [State.mergePut, entriesPut, found]
  | none =>
    have short : ¬ 32 ≤ s.mcc.merge.length := by
      rcases room with ⟨⟨e, he, mine⟩, -⟩ | h
      · exact absurd (beq_iff_eq.2 mine) (List.find?_eq_none.1 found e he)
      · omega
    simp only [State.mergePut, entriesPut, found, short, if_false]
    exact ⟨_, rfl⟩

/-- A run of bytes over k granule borders enters without a drain, and then reads back over what was there. -/
theorem mergePuts_of_room (bs : List Byte) : ∀ {s : State} {a : Nat}, (bs ≠ [] → EntriesRoom s.mcc.merge a ((a + bs.length - 1) / 64 - a / 64)) →
    ∃ m r, s.mergePuts a bs = { s with mcc.merge := m, regs := r }
      ∧ ∀ x d, entriesByte m d x = if a ≤ x ∧ x < a + bs.length then bs.getD (x - a) 0 else entriesByte s.mcc.merge d x := by
  induction bs with
  | nil =>
    intro s a _
    exact ⟨s.mcc.merge, s.regs, rfl, fun x d => by rw [if_neg (by simp)]⟩
  | cons b bs ih =>
    intro s a room
    obtain ⟨r, put⟩ := mergePut_of_room (room (List.cons_ne_nil b bs)) b
    have there := granule_entriesPut s.mcc.merge a b
    have short := length_entriesPut (room (List.cons_ne_nil b bs)) b
    rw [List.length_cons] at short
    have next_room (more : bs ≠ []) : EntriesRoom (entriesPut s.mcc.merge a b) (a + 1) ((a + 1 + bs.length - 1) / 64 - (a + 1) / 64) := by
      have some_left : 0 < bs.length := List.length_pos_iff.2 more
      by_cases same : (a + 1) / 64 = a / 64
      · exact .inl ⟨same ▸ there, by omega⟩
      · exact .inr (by omega)
    obtain ⟨m, q, rest, bytes⟩ := ih (s := s.mergePut a b) (by rw [put]; exact next_room)
    refine ⟨m, q, rest.trans (by rw [put]), fun x d => ?_⟩
    rw [bytes, put, entriesByte_entriesPut, List.length_cons]
    by_cases here : x = a
    · subst here
      rw [if_neg (by omega), if_pos rfl, if_pos (by omega), Nat.sub_self, List.getD_cons_zero]
    · by_cases later : a + 1 ≤ x ∧ x < a + 1 + bs.length
      · obtain ⟨k, reach⟩ : ∃ k, x = a + (k + 1) := ⟨x - a - 1, by omega⟩
        subst reach
        rw [if_pos later, if_pos (by omega), Nat.add_sub_cancel_left, List.getD_cons_succ]
        congr 1
        omega
      · rw [if_neg later, if_neg here, if_neg (by omega)]

/-- Bytes of memory under updates of the cache and of registers. -/
theorem byteAt_of_cache {s t : State} (mem : t.mem = s.mem) (buf : t.buf = s.buf) (x : Nat) : t.byteAt x = s.byteAt x :=
  byteAt_congr (by rw [buf]) (by rw [buf]) (by rw [buf]) (by rw [mem])

theorem cachedByte_congr {s t : State} (merge : t.mcc.merge = s.mcc.merge) (mem : t.mem = s.mem) (buf : t.buf = s.buf) (x : Nat) :
    t.cachedByte x = s.cachedByte x := by
  rw [cachedByte_eq, cachedByte_eq, merge, byteAt_of_cache mem buf]

/-! ### MC_ACCESS (R322 to R325) -/

/-- A pass of an access over its lines: a hit or a miss is counted, and a hit turns the tree. -/
def State.mcCounted (s : State) (l : Nat) : State :=
  match s.mcWay l with
  | some w => (s.cnt MCC_HITS_COUNT).mcTouch l w
  | none => s.cnt MCC_MISSES_COUNT

/-- What the passes leave: everything but the tree and the two counts. -/
structure Counted (s t : State) : Prop where
  rest : { t with mcc.plru := s.mcc.plru, regs := s.regs } = s
  regs : ∀ k, k ≠ MCC_HITS_COUNT.key 0 0 → k ≠ MCC_MISSES_COUNT.key 0 0 → tabFind t.regs k = tabFind s.regs k

theorem Counted.refl (s : State) : Counted s s := ⟨rfl, fun _ _ _ => rfl⟩

theorem Counted.trans {s t u : State} (h : Counted s t) (k : Counted t u) : Counted s u :=
  ⟨(congrArg (fun v : State => { v with mcc.plru := s.mcc.plru, regs := s.regs }) k.rest).trans h.rest,
    fun n hh hm => (k.regs n hh hm).trans (h.regs n hh hm)⟩

theorem Counted.rf {s t : State} (h : Counted s t) {f : Fld} {j : Nat} (hits : f.key 0 j ≠ MCC_HITS_COUNT.key 0 0) (misses : f.key 0 j ≠ MCC_MISSES_COUNT.key 0 0) :
    t.rf f 0 j = s.rf f 0 j := by
  rw [State.rf, State.rf, tabGet, tabGet, h.regs _ hits misses]

theorem Counted.part {s t : State} (h : Counted s t) {α : Type} {p : State → α} (outside : p { t with mcc.plru := s.mcc.plru, regs := s.regs } = p t) : p t = p s :=
  outside.symm.trans (congrArg p h.rest)

theorem counted_mcCounted (s : State) (l : Nat) : Counted s (s.mcCounted l) := by
  unfold State.mcCounted
  split
  · exact ⟨rfl, fun k hits _ => tabFind_tabSet_ne _ _ _ _ hits⟩
  · exact ⟨rfl, fun k _ misses => tabFind_tabSet_ne _ _ _ _ misses⟩

theorem counted_lines (ls : List Nat) (s : State) : Counted s (ls.foldl State.mcCounted s) :=
  List.foldlRecOn (motive := Counted s) ls _ (.refl s) fun t h l _ => h.trans (counted_mcCounted t l)

/-- Arrays without an error leave the state as it is. -/
theorem mcError_clean (s : State) (hit : Option Nat) : (match hit with | some l => s.mcError l .clean | none => s) = s := by cases hit <;> rfl

section
variable {s : State} {q : Fin 4} {a n : Nat}

/-- Outside the window memory serves the access. -/
theorem mcAccess_of_outside (outside : s.inWindow a n = false) (inside : a + n ≤ s.dataEnd) (sound : s.Sound) :
    s.mcAccess q.val a none n .clean = s.emit (.buffer (.cache q) false (s.bytesAt a n)) := by
  simp [State.mcAccess, State.bufRead, outside, memRead_of_sound sound inside]

/-- In the window and ENABLED a read with no error of the arrays looks its lines up. -/
theorem mcAccess_of_window (window : s.inWindow a n = true) (enabled : s.mcState = 1) : s.mcAccess q.val a none n .clean = s.mcRead (q.val, a, n) true := by
  have served : (!s.inWindow a n || s.mcState != mcENABLED) = false := by rw [window, enabled]; rfl
  unfold State.mcAccess
  extract_lets req serve len hit met
  have untouched : met = s := mcError_clean s hit
  rw [show (!s.inWindow a len || s.mcState != mcENABLED) = false from served, untouched]
  simp

theorem mcRead_of_hit {l w : Nat} (one : unitsOf 128 a n = [l]) (hit : s.mcWay l = some w) : s.mcRead (q.val, a, n) true =
    ((s.cnt MCC_HITS_COUNT).mcTouch l w).emit (.buffer (.cache q) false (s.cachedBytes a n)) := by
  simp only [State.mcRead, one, hit, List.filter_cons, List.filter_nil, List.foldl_cons, List.foldl_nil, Option.isNone_some, Bool.false_eq_true, if_true, if_false,
    Fin.ofNat_val_eq_self]
  rfl

theorem mcRead_of_miss {l : Nat} (one : unitsOf 128 a n = [l]) (miss : s.mcWay l = none) : s.mcRead (q.val, a, n) true =
    (s.cnt MCC_MISSES_COUNT).mcMiss l (q.val, a, n) := by
  simp [State.mcRead, one, miss]

end

/-- The way a missed line goes to does not depend on the counts. -/
theorem mcVictim_cnt (s : State) (l : Nat) : (s.cnt MCC_MISSES_COUNT).mcVictim l = s.mcVictim l := by
  have counted : Counted s (s.cnt MCC_MISSES_COUNT) := ⟨rfl, fun k _ misses => tabFind_tabSet_ne _ _ _ _ misses⟩
  have locked (k : Nat) : (s.cnt MCC_MISSES_COUNT).rbit MCC_STATUS_LOCKED k = s.rbit MCC_STATUS_LOCKED k := by
    rw [State.rbit, State.rbit, counted.rf (by decide) (by decide)]
  have base (k : Nat) : (s.cnt MCC_MISSES_COUNT).rf MCC_LOCKk_BASE_LINE 0 k = s.rf MCC_LOCKk_BASE_LINE 0 k := by
    refine counted.rf ?_ ?_ <;> simp only [Fld.key, MCC_LOCKk_BASE_LINE, MCC_HITS_COUNT, MCC_MISSES_COUNT] <;> omega
  have size (k : Nat) : (s.cnt MCC_MISSES_COUNT).rf MCC_LOCKk_SIZE_LINES 0 k = s.rf MCC_LOCKk_SIZE_LINES 0 k := by
    refine counted.rf ?_ ?_ <;> simp only [Fld.key, MCC_LOCKk_SIZE_LINES, MCC_HITS_COUNT, MCC_MISSES_COUNT] <;> omega
  have lock : (s.cnt MCC_MISSES_COUNT).lockOf l = s.lockOf l := by simp only [State.lockOf, locked, base, size]
  simp only [State.mcVictim, lock, locked]
  rfl

/-- The merging entries of the victim's line and of the missed line are written ahead of a fill into way w. -/
def State.mcEvicted (s : State) (l w : Nat) : State :=
  (match tabFind s.mcc.tags (16 * setOf l + w) with | some old => s.mergeLine old | none => s).mergeLine l

theorem mcMiss_of_idle {s : State} {l w : Nat} (idle : s.mcc.fills = []) (victim : s.mcVictim l = some w) (who : Nat × Nat × Nat) : s.mcMiss l who =
    { s.mcEvicted l w with mcc.tags := tabDel (s.mcEvicted l w).mcc.tags (16 * setOf l + w),
                           mcc.fills := (s.mcEvicted l w).mcc.fills ++ [{ line := l, way := w, who := [who], installs := true }] } := by
  have unshared : s.mcc.fills.any (fun f => f.line == l) = false := by rw [idle]; rfl
  have room : ¬ 16 ≤ s.mcc.fills.length := by rw [idle]; decide
  simp only [State.mcMiss, unshared, room, victim, Bool.false_eq_true, if_false]
  rfl

theorem mcEvicted_kept (s : State) (l w : Nat) : (s.mcEvicted l w).mcc.fills = s.mcc.fills ∧ (s.mcEvicted l w).rf MCC_MISSES_COUNT = s.rf MCC_MISSES_COUNT := by
  have misses_kept (t : State) (m : Nat) : (t.mergeLine m).rf MCC_MISSES_COUNT = t.rf MCC_MISSES_COUNT :=
    rf_mergeLine t m ⟨by decide, by decide, by decide, rfl, by decide⟩ (by decide)
  unfold State.mcEvicted
  split
  · exact ⟨(fills_mergeLine ..).trans (fills_mergeLine ..), (misses_kept ..).trans (misses_kept ..)⟩
  · exact ⟨fills_mergeLine .., misses_kept ..⟩

/-- A write of the window enters the empty merging buffer. -/
theorem mcAccess_write {s : State} {q : Fin 4} {a : Nat} {bs : List Byte} (window : s.inWindow a bs.length = true) (enabled : s.mcState = 1)
    (inside : a + bs.length ≤ s.dataEnd) (empty : s.mcc.merge = []) (short : bs.length ≤ 64) :
    ∃ t : State, s.mcAccess q.val a (some bs) 0 .clean = t.emit (.buffer (.cache q) false []) ∧ t.mem = s.mem
      ∧ ∀ x, t.cachedByte x = if a ≤ x ∧ x < a + bs.length then bs.getD (x - a) 0 else s.cachedByte x := by
  have counted := counted_lines (unitsOf 128 a bs.length) s
  generalize looked_up : (unitsOf 128 a bs.length).foldl State.mcCounted s = u at counted
  have merge : u.mcc.merge = [] := (counted.part (p := fun v => v.mcc.merge) rfl).trans empty
  have still_window : u.inWindow a bs.length = true := (counted.part (p := fun v => v.inWindow a bs.length) rfl).trans window
  have still_enabled : u.mcState = 1 := (counted.rf (by decide) (by decide)).trans enabled
  have still_inside : u.inData a bs.length = true := (counted.part (p := fun v => v.inData a bs.length) rfl).trans (decide_eq_true inside)
  obtain ⟨m, r, put, bytes⟩ := mergePuts_of_room bs (s := u) (a := a) fun _ => .inr (by rw [merge]; simp only [List.length_nil]; omega)
  have written : u.bufWrite a bs = ({ u with mcc.merge := m, regs := r }, false) := by
    rw [State.bufWrite, still_window, still_enabled, still_inside, put]
    rfl
  have served : (!s.inWindow a bs.length || s.mcState != mcENABLED) = false := by rw [window, enabled]; rfl
  refine ⟨{ u with mcc.merge := m, regs := r }, ?_, counted.part (p := State.mem) rfl, fun x => ?_⟩
  · unfold State.mcAccess
    extract_lets req serve len hit met passed
    have untouched : met = s := mcError_clean s hit
    have passes : passed = u := (congrArg (fun t : State => (unitsOf 128 a bs.length).foldl State.mcCounted t) untouched).trans looked_up
    rw [show (!s.inWindow a len || s.mcState != mcENABLED) = false from served, passes]
    simp only [Bool.false_eq_true, if_false, reduceCtorEq, or_self, and_false]
    rw [written, show req = .cache q from congrArg BufReq.cache (Fin.ofNat_val_eq_self q)]
  · have memory : ({ u with mcc.merge := m, regs := r } : State).byteAt x = s.byteAt x :=
      byteAt_of_cache (counted.part (p := State.mem) rfl) (counted.part (p := State.buf) rfl) x
    rw [cachedByte_eq, cachedByte_eq, memory, bytes, merge, empty]

/-! ### MC_FILL_DONE, MERGE_DRAIN (R323, R324) -/

/-- Answers to reads that wait for a fill leave the cache and memory as they are where no bit is wrong. -/
theorem mcAnswer_of_sound {s : State} (sound : s.Sound) (who : Nat × Nat × Nat) : ∃ o, s.mcAnswer who = s.emit o := by
  have untouched : (s.memRead who.2.1 who.2.2).1 = s := by
    by_cases inside : who.2.1 + who.2.2 ≤ s.dataEnd
    · rw [memRead_of_sound sound inside]
    · rw [State.memRead, State.inData, decide_eq_false inside]
      rfl
  simp only [State.mcAnswer, untouched]
  split <;> exact ⟨_, rfl⟩

/-- The fill's line is installed, and those who waited for it and for no other line are answered. -/
def State.mcFilled (s : State) (f : McFill) (line : Nat) : State :=
  ({ s with mcc.fills := s.mcc.fills.erase f, mcc.tags := tabSet s.mcc.tags (16 * setOf line + f.way) line } : State).mcTouch line f.way

def State.mcAnswered (s : State) (ws : List (Nat × Nat × Nat)) : State :=
  ws.foldl (fun t w => if t.mcc.fills.any (fun g => g.who.contains w) then t else t.mcAnswer w) s

/-- The reads that waited for a fill place try again. -/
def State.mcRetried (s : State) : State := s.mcc.waits.foldl (fun t w => t.mcRead w false) { s with mcc.waits := [] }

theorem mcFillDone_of_found {s : State} {f : McFill} {line : Nat} (found : s.mcc.fills.find? (fun g => g.line == line) = some f) (installs : f.installs = true)
    (enabled : s.mcState = 1) (sound : s.Sound) (inside : 128 * line + 128 ≤ s.dataEnd) :
    s.mcFillDone line = ((s.mcFilled f line).mcAnswered f.who).mcRetried := by
  have installed : (!false && f.installs && s.mcState == mcENABLED) = true := by rw [installs, enabled]; rfl
  rw [State.mcFillDone, found]
  dsimp only
  rw [memRead_of_sound sound inside]
  exact congrArg (fun t : State => (t.mcAnswered f.who).mcRetried) (if_pos installed)

theorem mcAnswered_of_sound (ws : List (Nat × Nat × Nat)) {s : State} (sound : s.Sound) : (s.mcAnswered ws).mcc = s.mcc ∧ (s.mcAnswered ws).mem = s.mem := by
  have kept : (s.mcAnswered ws).mcc = s.mcc ∧ (s.mcAnswered ws).mem = s.mem ∧ (s.mcAnswered ws).Sound := by
    refine List.foldlRecOn (motive := fun t : State => t.mcc = s.mcc ∧ t.mem = s.mem ∧ t.Sound) ws _ ⟨rfl, rfl, sound⟩ fun t h w _ => ?_
    obtain ⟨mcc, mem, still⟩ := h
    obtain ⟨o, told⟩ := mcAnswer_of_sound still w
    split
    · exact ⟨mcc, mem, still⟩
    · rw [told]
      exact ⟨mcc, mem, still.err, still.poison⟩
  exact ⟨kept.1, kept.2.1⟩

theorem mcFillDone_of_only {s : State} {f : McFill} {line : Nat} (only : s.mcc.fills = [f]) (mine : f.line = line) (installs : f.installs = true)
    (enabled : s.mcState = 1) (idle : s.mcc.waits = []) (sound : s.Sound) (inside : 128 * line + 128 ≤ s.dataEnd) :
    (s.mcFillDone line).mcc.fills = [] ∧ (s.mcFillDone line).mcc.tags = tabSet s.mcc.tags (16 * setOf line + f.way) line ∧ (s.mcFillDone line).mem = s.mem := by
  obtain ⟨mcc, mem⟩ := mcAnswered_of_sound f.who (s := s.mcFilled f line) ⟨sound.err, sound.poison⟩
  have none_waits : ((s.mcFilled f line).mcAnswered f.who).mcc.waits = [] := by rw [mcc]; exact idle
  rw [mcFillDone_of_found (by rw [only]; simp [mine]) installs enabled sound inside, State.mcRetried, none_waits, List.foldl_nil]
  refine ⟨?_, ?_, mem⟩
  · change ((s.mcFilled f line).mcAnswered f.who).mcc.fills = []
    rw [mcc]
    simp [State.mcFilled, State.mcTouch, only]
  · change ((s.mcFilled f line).mcAnswered f.who).mcc.tags = _
    rw [mcc]
    rfl

/-! ### MC_ENABLE_WRITE and MC_STATE_DONE (R325) -/

section
variable {s : State}

theorem mcEnable_of_disabled (disabled : s.mcState = 4) : s.mcEnable true = (s.wb MCC_CTRL_EN true).wf MCC_STATUS_STATE 1 := by
  rw [State.mcEnable, disabled]
  rfl

theorem mcEnable_of_ending (ending : s.mcState = 2 ∨ s.mcState = 3) : s.mcEnable true = (s.wb MCC_CTRL_EN true).wb MCC_STATUS_EN_PEND true := by
  rw [State.mcEnable]
  rcases ending with h | h <;> rw [h] <;> rfl

theorem mcEnable_false_of_enabled (enabled : s.mcState = 1) :
    s.mcEnable false = ((s.wb MCC_CTRL_EN false).wb MCC_STATUS_EN_PEND false).wf MCC_STATUS_STATE 2 := by
  rw [State.mcEnable, enabled]
  rfl

theorem mcEnable_false_of_other (other : s.mcState ≠ 1) : s.mcEnable false = (s.wb MCC_CTRL_EN false).wb MCC_STATUS_EN_PEND false := if_neg other

theorem mcStateDone_of_init (init : s.mcState = 0) :
    s.mcStateDone = s.cacheFlush.wf MCC_STATUS_STATE (if s.rb MCC_CTRL_EN then mcENABLED else mcDISABLED) := by
  rw [State.mcStateDone, init]
  rfl

theorem mcStateDone_of_draining (draining : s.mcState = 2) : s.mcStateDone = if s.mcc.merge = [] then s.wf MCC_STATUS_STATE mcINVALIDATING else s := by
  rw [State.mcStateDone, draining]
  rfl

theorem mcStateDone_of_invalidating (invalidating : s.mcState = 3) : s.mcStateDone =
    (s.cacheFlush.wf MCC_STATUS_STATE (if s.rb MCC_STATUS_EN_PEND then mcENABLED else mcDISABLED)).wb MCC_STATUS_EN_PEND false := by
  rw [State.mcStateDone, invalidating]
  rfl

/-! ### Invalidation, locks and preloads (R326, R327) -/

/-- What the walk of [b, b + n) makes of a fill. -/
def McFill.passed (b n : Nat) (f : McFill) : McFill := if decide (b ≤ f.line ∧ f.line < b + n) then { f with installs := false } else f

theorem mcInvDone_of_range {b n : Nat} (range : s.mcc.inv = some (b, n)) : s.mcInvDone =
    (({ s with mcc.inv := none, mcc.tags := s.mcc.tags.filter (fun p => !decide (b ≤ p.2 ∧ p.2 < b + n)), mcc.fills := s.mcc.fills.map (McFill.passed b n) } : State).wb
      MCC_STATUS_INV_BUSY false).wb MCC_INV_CTRL_GO false := by
  rw [State.mcInvDone, range]
  rfl

theorem mem_tags_mcInvDone {b n : Nat} (range : s.mcc.inv = some (b, n)) (x : Nat × Nat) :
    x ∈ s.mcInvDone.mcc.tags ↔ x ∈ s.mcc.tags ∧ ¬ (b ≤ x.2 ∧ x.2 < b + n) := by
  rw [mcInvDone_of_range range]
  change x ∈ s.mcc.tags.filter _ ↔ _
  rw [List.mem_filter, Bool.not_eq_true', decide_eq_false_iff_not]

theorem installs_mcInvDone {b n : Nat} (range : s.mcc.inv = some (b, n)) {f : McFill} (mem : f ∈ s.mcInvDone.mcc.fills) (low : b ≤ f.line) (high : f.line < b + n) :
    f.installs = false := by
  rw [mcInvDone_of_range range] at mem
  obtain ⟨g, -, rfl⟩ := List.mem_map.1 (show f ∈ s.mcc.fills.map (McFill.passed b n) from mem)
  unfold McFill.passed at low high ⊢
  split
  · rfl
  · next out =>
    rw [if_neg out] at low high
    exact absurd (decide_eq_true ⟨low, high⟩) out

theorem invBusy_mcInvDone {b n : Nat} (range : s.mcc.inv = some (b, n)) : s.mcInvDone.rb MCC_STATUS_INV_BUSY = false := by
  rw [mcInvDone_of_range range, State.rb, rf_wb, if_neg (by decide), rf_wb, if_pos rfl]
  rfl

section
variable {k : Nat}

theorem mcLock_of_locked (held : s.rb MCC_LOCKk_BASE_EN 0 k = true) : s.mcLock k true = s := if_pos held

theorem mcLock_of_below (open_ : s.rb MCC_LOCKk_BASE_EN 0 k = false) (below : 128 * s.rf MCC_LOCKk_BASE_LINE 0 k < s.winBase) :
    s.mcLock k true = s.wbit MCC_STATUS_LOCK_ERR k true := by
  simp [State.mcLock, open_, below]

theorem mcLock_of_inside (open_ : s.rb MCC_LOCKk_BASE_EN 0 k = false) (low : s.winBase ≤ 128 * s.rf MCC_LOCKk_BASE_LINE 0 k)
    (lines : s.rf MCC_LOCKk_SIZE_LINES 0 k ≤ 4096)
    (high : 128 * (s.rf MCC_LOCKk_BASE_LINE 0 k + max 1 (s.rf MCC_LOCKk_SIZE_LINES 0 k)) ≤ s.winBase + s.winSize) : s.mcLock k true =
    (({ s with mcc.tags := s.mcc.tags.filter (fun p => p.1 % 16 != k),
               mcc.fills := s.mcc.fills.map (fun f => if f.way = k then { f with installs := false } else f) } : State).wb MCC_LOCKk_BASE_EN true 0 k).wbit
      MCC_STATUS_LOCKED k true := by
  have fits : ¬ (4096 < max 1 (s.rf MCC_LOCKk_SIZE_LINES 0 k) ∨ 128 * s.rf MCC_LOCKk_BASE_LINE 0 k < s.winBase
      ∨ s.winBase + s.winSize < 128 * (s.rf MCC_LOCKk_BASE_LINE 0 k + max 1 (s.rf MCC_LOCKk_SIZE_LINES 0 k))) := by omega
  simp only [State.mcLock, open_, fits, Bool.false_eq_true, if_true, if_false]

theorem mcPreload_of_unlocked (unlocked : s.rbit MCC_STATUS_LOCKED k = false) : s.mcPreload k = s := if_pos (by rw [unlocked]; rfl)

theorem mcPreload_of_oneLine (locked : s.rbit MCC_STATUS_LOCKED k = true) (enabled : s.mcState = 1) (one : s.rf MCC_LOCKk_SIZE_LINES 0 k = 0)
    (missing : s.mcWay (s.rf MCC_LOCKk_BASE_LINE 0 k) = none) (empty : s.mcc.merge = []) (sound : s.Sound)
    (inside : 128 * s.rf MCC_LOCKk_BASE_LINE 0 k + 128 ≤ s.dataEnd) : s.mcPreload k =
    { s with mcc.tags := tabSet s.mcc.tags (16 * setOf (s.rf MCC_LOCKk_BASE_LINE 0 k) + k) (s.rf MCC_LOCKk_BASE_LINE 0 k) } := by
  have runs : (!s.rbit MCC_STATUS_LOCKED k || s.mcState != mcENABLED) = false := by rw [locked, enabled]; rfl
  simp only [State.mcPreload, runs, one, Nat.max_zero, List.range_one, List.foldl_cons, List.foldl_nil, Nat.add_zero, missing, mergeLine_of_empty empty,
    memRead_of_sound sound inside, Option.isSome_none, Bool.false_eq_true, if_false]

end
end

/-- Settles O34, command by command. -/
theorem theMetadataCacheServesItsWindow : Obligations.TheMetadataCacheServesItsWindow := by
  intro s
  refine ⟨?outside, ?hit, ?miss, ?write, ?unknown, ?filled, ?noEntry, ?drained, ?enable, ?enablePending, ?disable, ?disabled, ?init, ?drain, ?draining, ?invalidated,
    ?noWalk, ?walk, fun k => ⟨rfl, ?relock, ?refused, ?locked, ?noLock, ?preload⟩⟩
  case outside => exact fun q a n outside inside err poison => congrArg Host.Outcome.next (mcAccess_of_outside outside inside ⟨err, poison⟩)
  case hit =>
    exact fun q a n l w window enabled one hit => congrArg Host.Outcome.next ((mcAccess_of_window window enabled).trans (mcRead_of_hit one hit))
  case miss =>
    intro q a n l w window enabled one miss idle victim
    have issued := mcMiss_of_idle (s := s.cnt MCC_MISSES_COUNT) idle ((mcVictim_cnt s l).trans victim) (q.val, a.toNat, n)
    obtain ⟨fills, misses⟩ := mcEvicted_kept (s.cnt MCC_MISSES_COUNT) l w
    refine ⟨_, congrArg Host.Outcome.next ((mcAccess_of_window window enabled).trans ((mcRead_of_miss one miss).trans issued)), ?_, ?_⟩
    · change ((s.cnt MCC_MISSES_COUNT).mcEvicted l w).mcc.fills ++ _ = _
      rw [fills]
      exact congrArg (· ++ _) idle
    · refine misses.trans ((rf_wf_same ..).trans (Nat.mod_eq_of_lt ?_))
      have cap : 2 ^ MCC_MISSES_COUNT.width - 1 < 2 ^ MCC_MISSES_COUNT.width := by decide
      omega
  case write =>
    intro q a bs window enabled inside empty short
    obtain ⟨t, access, kept⟩ := mcAccess_write (q := q) window enabled inside empty short
    exact ⟨t, congrArg Host.Outcome.next access, kept⟩
  case unknown =>
    intro l unknown
    change Host.Outcome.next (s.mcFillDone l.toNat) = _
    rw [State.mcFillDone, unknown]
  case filled =>
    exact fun l f only mine installs enabled idle err poison inside => ⟨_, rfl, mcFillDone_of_only only mine installs enabled idle ⟨err, poison⟩ inside⟩
  case noEntry =>
    intro empty
    change Host.Outcome.next s.mergeDrain = _
    rw [State.mergeDrain, empty]
  case drained =>
    intro e r entries short
    have oldest : s.mergeDrain = s.mergeWrite e := by rw [State.mergeDrain, entries]
    have left : s.mcc.merge.erase e = r := by rw [entries, List.erase_cons_head]
    refine ⟨s.mergeWrite e, congrArg Host.Outcome.next oldest, ?_, ?_, ?_⟩
    · rw [mcc_mergeWrite, left]
    · rw [mbUsed_mergeWrite, left, Nat.mod_eq_of_lt short]
    · rw [mcc_mergeWrite]
  case enable => exact fun disabled => congrArg Host.Outcome.next (mcEnable_of_disabled disabled)
  case enablePending => exact fun ending => congrArg Host.Outcome.next (mcEnable_of_ending ending)
  case disable => exact fun enabled => congrArg Host.Outcome.next (mcEnable_false_of_enabled enabled)
  case disabled => exact fun other => congrArg Host.Outcome.next (mcEnable_false_of_other other)
  case init =>
    intro init
    refine ⟨_, congrArg Host.Outcome.next (mcStateDone_of_init init), (rf_wf_same ..).trans ?_, rfl, rfl⟩
    split <;> rfl
  case drain => exact fun draining empty => congrArg Host.Outcome.next ((mcStateDone_of_draining draining).trans (if_pos empty))
  case draining => exact fun draining more => congrArg Host.Outcome.next ((mcStateDone_of_draining draining).trans (if_neg more))
  case invalidated =>
    intro invalidating
    refine ⟨_, congrArg Host.Outcome.next (mcStateDone_of_invalidating invalidating), ?_, rb_wb_same _ rfl false 0 0, rfl⟩
    refine (rf_wf_ne _ _ _ _ _ _ _ _ (by decide)).trans ((rf_wf_same ..).trans ?_)
    split <;> rfl
  case noWalk =>
    intro idle
    constructor
    · change Host.Outcome.next s.mcInvDone = _
      rw [State.mcInvDone, idle]
    · exact congrArg Host.Outcome.next (if_neg (by rw [idle]; exact Bool.false_ne_true))
  case walk =>
    intro b n range
    refine ⟨congrArg Host.Outcome.next (if_pos (by rw [range]; rfl)), s.mcInvDone, rfl, ?_, invBusy_mcInvDone range, mem_tags_mcInvDone range,
      fun f mem low high => installs_mcInvDone range mem low high⟩
    rw [mcInvDone_of_range range]
    rfl
  case relock => exact fun held => congrArg Host.Outcome.next (mcLock_of_locked held)
  case refused => exact fun open_ below => congrArg Host.Outcome.next (mcLock_of_below open_ below)
  case locked =>
    intro open_ low lines high
    refine ⟨_, congrArg Host.Outcome.next (mcLock_of_inside open_ low lines high), ?_, rbit_wbit_true k.isLt _ 0 0, fun x => ?_⟩
    · have apart : MCC_LOCKk_BASE_EN.key 0 k.val ≠ MCC_STATUS_LOCKED.key 0 0 := by
        simp only [Fld.key, MCC_LOCKk_BASE_EN, MCC_STATUS_LOCKED]
        omega
      rw [State.rb, State.wbit, rf_wf_ne _ _ _ _ _ _ _ _ apart]
      exact rb_wb_same _ rfl true 0 k.val
    · change x ∈ s.mcc.tags.filter _ ↔ _
      rw [List.mem_filter, bne_iff_ne]
  case noLock => exact fun unlocked => congrArg Host.Outcome.next (mcPreload_of_unlocked unlocked)
  case preload =>
    exact fun locked enabled one missing empty err poison inside =>
      congrArg Host.Outcome.next (mcPreload_of_oneLine locked enabled one missing empty ⟨err, poison⟩ inside)

end Sys2Proof.Machine
end

section
/-! A completion counts READS down within the field's 7 bits (R336, R339, R350). -/

namespace Sys2Proof.Machine
open Sys2Proof

/-- A descriptor of channel 0 with a burst of no bytes under way. -/
def emptyBurst : RunDesc :=
  { d := lostDesc 0, pos := 0, bursts := [(0, 0)], parks := 0, row := 0, rowPage := 0, abort := 0, err := none, ended := false }

/-- Engine 0 runs it, and the state holds more reads outstanding than the field of R350 has room for. -/
def readsBeyondField : State :=
  { State.reset with dch := [(0, { q := [], run := some emptyBurst, issued := [], marked := [], retry := false })],
                     regs := [(DE_OUTSTANDING_READS.key 0 0, 300)] }

theorem reads_burstComplete_readsBeyondField : (readsBeyondField.burstComplete 0 0 (.data [])).rf DE_OUTSTANDING_READS = 43 := by decide +kernel

/-- Refutes O35: in a state that holds 300 outstanding reads in the 7-bit field, a completion leaves 299 cut to 7 bits, 43. -/
theorem not_dmaRunsDescriptors : ¬ Obligations.DmaRunsDescriptors := by
  intro h
  obtain ⟨-, -, -, -, -, -, -, -, -, -, -, completes, -, -⟩ := h readsBeyondField 0 0 0 rfl
  obtain ⟨lands, -⟩ := completes 0 emptyBurst 0 rfl rfl rfl rfl (by decide +kernel)
  obtain ⟨t, ran, -, reads⟩ := lands [] rfl (by decide +kernel) (by decide +kernel) rfl rfl
  have landed : readsBeyondField.burstComplete 0 0 (.data []) = t := Host.Outcome.next.inj ran
  rw [← landed] at reads
  exact absurd (reads_burstComplete_readsBeyondField.symm.trans reads) (by decide)

end Sys2Proof.Machine
end

section
/-! The DMA engines: what entering a run list, the end of a descriptor and a restart change, then each command of O36 by the case it takes (R341 to R348,
R353, R522). -/

namespace Sys2Proof.Machine
open Sys2Proof

theorem next_eq {t u : State} (h : t = u) : (Host.Outcome.next t : Res) = .next u := congrArg Host.Outcome.next h

/-! ### What a channel's moves change -/

theorem chEnter_with (s : State) (id : Nat) : ∃ eng regs, s.chEnter id = { s with eng := eng, regs := regs } := by
  unfold State.chEnter
  extract_lets e
  split_ifs
  · exact ⟨_, _, rfl⟩
  · exact ⟨_, _, rfl⟩
  · exact ⟨_, _, rfl⟩
  · exact ⟨_, _, rfl⟩

/-- Entering a run list keeps what an engine has been told of its retirement. -/
theorem handed_chEnter (s : State) (id e : Nat) : ((s.chEnter id).en e).handed = (s.en e).handed := by
  have joined (runs : List Nat) : ((s.modEn (s.engOf id) (fun x => { x with runs := x.runs ++ runs })).en e).handed = (s.en e).handed := by
    by_cases same : e = s.engOf id
    · rw [same, en_modEn_same]
    · rw [en_modEn_ne _ _ _ _ same]
  unfold State.chEnter
  extract_lets
  split_ifs
  · rfl
  · rfl
  · rfl
  · exact joined [id]

/-- The descriptor leaves the engine and waits for its record. -/
def endedCh (r : RunDesc) (c : DmaCh) : DmaCh :=
  { c with run := none, issued := c.issued ++ [{ r with ended := true }], marked := c.marked.erase r.d.index }

theorem descEnd_with (s : State) (id : Nat) (r : RunDesc) :
    ∃ eng regs pri, s.descEnd id r = { s.modDc id (endedCh r) with eng := eng, regs := regs, dtu.pri := pri } := by
  unfold State.descEnd
  extract_lets e left moved freed _ told _ kept idle
  obtain ⟨eng, regs, entered⟩ := chEnter_with idle id
  have settled : ∃ regs', idle = { kept with regs := regs' } := by
    unfold idle
    split
    · exact ⟨_, rfl⟩
    · exact ⟨_, rfl⟩
  obtain ⟨regs', set⟩ := settled
  exact ⟨eng, regs, kept.dtu.pri, by rw [entered, set]; rfl⟩

theorem dc_descEnd (s : State) (id : Nat) (r : RunDesc) : (s.descEnd id r).dc id = endedCh r (s.dc id) := by
  obtain ⟨eng, regs, pri, ended⟩ := descEnd_with s id r
  rw [ended]
  exact dc_modDc_same s id (endedCh r)

theorem prt_descEnd (s : State) (id : Nat) (r : RunDesc) (q : Nat) : (s.descEnd id r).prt q = s.prt q := by
  obtain ⟨eng, regs, pri, ended⟩ := descEnd_with s id r
  rw [ended]
  rfl

theorem chRestart_with (s : State) (id : Nat) : ∃ dch regs pri, s.chRestart id = { s with dch := dch, regs := regs, dtu.pri := pri } := by
  unfold State.chRestart
  extract_lets c back n again q left moved _ told
  split
  · exact ⟨_, _, _, rfl⟩
  · exact ⟨_, _, _, rfl⟩

/-! ### Aborts (R341) -/

section
variable {s : State} {e c : Nat}

theorem deAbort_of_busy (busy : s.rf DE_ABORT_STATUS_RESULT e = 1 ∨ s.rf DE_ABORT_CHANNEL e < 14) : s.deAbort e = s := if_pos busy

/-- With no abort pending, an abort of one of the channels 14 and 15 is tried. -/
theorem deAbort_of_idle (high : 14 ≤ c) (channel : s.rf DE_ABORT_CHANNEL e = c) (idle : s.rf DE_ABORT_STATUS_RESULT e ≠ 1) :
    s.deAbort e = if (s.descAbort (16 * e + c) (s.rf DE_ABORT_INDEX e)).2
      then ((s.descAbort (16 * e + c) (s.rf DE_ABORT_INDEX e)).1.wf DE_ABORT_STATUS_RESULT 1 e).wb DE_ABORT_GO true e
      else (s.descAbort (16 * e + c) (s.rf DE_ABORT_INDEX e)).1.wf DE_ABORT_STATUS_RESULT 4 e := by
  subst channel
  exact if_neg (by omega)

variable {id ix : Nat}

theorem descAbort_of_absent (issued : (s.dc id).issued = []) (idle : (s.dc id).run = none) (queue : s.dqCount id = 0) : s.descAbort id ix = (s, false) := by
  have gap : ptrGap (s.dqLog id) (s.dqTail id) (s.dqHead id) = 0 := queue
  simp [State.descAbort, issued, idle, gap]

theorem descAbort_of_issued {x : RunDesc} (issued : (s.dc id).issued = [x]) (index : x.d.index = ix) (fresh : x.abort = 0) :
    ∃ t : State, s.descAbort id ix = (t, true) ∧ t.regs = s.regs ∧ (t.dc id).issued = [{ x with abort := 2 }] := by
  refine ⟨_, if_pos (by simp [issued, index]), rfl, ?_⟩
  rw [dc_modDc_same, issued]
  simp [index, fresh]

theorem descAbort_of_running {x : RunDesc} (issued : (s.dc id).issued = []) (running : (s.dc id).run = some x) (index : x.d.index = ix) :
    s.descAbort id ix = (s.descEnd id { x with abort := 1 }, true) := by
  simp [State.descAbort, issued, running, index]

end

/-! ### Engine faults and the handover (R348, R522) -/

section
variable {s : State} {e : Nat}

theorem engineFault_of_retired (retired : (s.en e).retired = true) : s.engineFault e true = s := by simp [State.engineFault, retired]

theorem engineFault_of_last (serving : (s.en e).retired = false) (last : ∀ k, k < 4 → k ≠ e → (s.en k).retired = true) :
    s.engineFault e true = s.reportAs (srcId DAT (36 + e) 32) 4 := by
  have alone : (List.range 4).all (fun k => k == e || (s.en k).retired) = true := by
    rw [List.all_eq_true]
    intro k hk
    by_cases same : k = e
    · simp [same]
    · simp [last k (List.mem_range.1 hk) same]
  simp [State.engineFault, serving, alone]

theorem engineFault_of_another {k : Nat} (serving : (s.en e).retired = false) (hk : k < 4) (other : k ≠ e) (another : (s.en k).retired = false) :
    s.engineFault e true = (s.engineOut e).report (srcId DAT (36 + e) 3) := by
  have not_alone : ¬ (List.range 4).all (fun j => j == e || (s.en j).retired) = true := by
    intro all
    have := List.all_eq_true.1 all k (List.mem_range.2 hk)
    simp [other, another] at this
  simp [State.engineFault, serving, not_alone]

theorem handover_of_done (done : (s.en e).retired = false ∨ (s.en e).handed = true) : s.handover e = s :=
  if_pos (by rcases done with h | h <;> simp [h])

/-- The channels start again under the successor; the engine counts as handed over, and memory stays. -/
theorem handed_restarts (ids : List Nat) (s : State) (e : Nat) : ((ids.foldl (fun t id => (t.chRestart id).chEnter id) s).en e).handed = (s.en e).handed
    ∧ (ids.foldl (fun t id => (t.chRestart id).chEnter id) s).mem = s.mem := by
  refine List.foldlRecOn (motive := fun t : State => (t.en e).handed = (s.en e).handed ∧ t.mem = s.mem) _ _ ⟨rfl, rfl⟩ fun t ht id _ => ?_
  obtain ⟨dch, regs, pri, restarted⟩ := chRestart_with t id
  obtain ⟨eng, regs', entered⟩ := chEnter_with (t.chRestart id) id
  refine ⟨(handed_chEnter ..).trans ?_, ?_⟩
  · rw [restarted]
    exact ht.1
  · rw [entered, restarted]
    exact ht.2

theorem handover_of_retired (retired : (s.en e).retired = true) (waits : (s.en e).handed = false) :
    ((s.handover e).en e).handed = true ∧ (s.handover e).mem = s.mem := by
  have begun : ¬ (!(s.en e).retired || (s.en e).handed) = true := by simp [retired, waits]
  unfold State.handover
  rw [if_neg begun]
  extract_lets taken ids marked
  obtain ⟨handed, mem⟩ := handed_restarts ids marked e
  exact ⟨handed.trans (by rw [en_modEn_same]), mem⟩

end

/-! ### Translations (R343, R344) -/

/-- With no engine running, the channels that wait for a page are none. -/
theorem foldl_running_of_none {s : State} (idle : ∀ k, k < 4 → (s.en k).running = none) (f : State → Nat → Nat → State) :
    (List.range 4).foldl (fun t e => match (t.en e).running with | none => t | some id => f t e id) s = s :=
  List.foldlRecOn (motive := fun t : State => t = s) _ _ rfl fun t same e he => by rw [same, idle e (List.mem_range.1 he)]

theorem atsResponse_of_unasked {s : State} {port page : Nat} {pasid : Option Nat} (unasked : (port, pasid, page) ∉ s.dtu.ats) (ans : AtsAns) :
    s.atsResponse port pasid page ans = s := by
  simp [State.atsResponse, unasked]

theorem mem_tabSet_same {α : Type} (t : Tab α) (k : Nat) (v : α) : (k, v) ∈ tabSet t k v := by
  induction t with
  | nil => simp [tabSet]
  | cons p r ih =>
    rw [tabSet]
    split_ifs
    · simp
    · simp
    · exact List.mem_cons_of_mem _ ih

theorem atcPut_holds (s : State) (x : AtcEnt) : (s.atcPut x).dtu.ats = s.dtu.ats ∧ ∃ k, (k, x) ∈ (s.atcPut x).dtu.atc := ⟨rfl, _, mem_tabSet_same _ _ x⟩

/-- What a response leaves before the engines look at it. -/
def State.answered (s : State) (port : Nat) (pasid : Option Nat) (page : Nat) (ans : AtsAns) : State :=
  let t : State := { s with dtu.ats := s.dtu.ats.erase (port, pasid, page) }
  match ans with
  | .grant a r w k => t.atcPut { port := port, pasid := pasid, page := page / 2 ^ k.val * 2 ^ k.val, addr := a.toNat / 4096 / 2 ^ k.val * 2 ^ k.val * 4096, r := r, w := w, size := k.val }
  | .error => t

theorem en_answered (s : State) (port : Nat) (pasid : Option Nat) (page : Nat) (ans : AtsAns) (e : Nat) : (s.answered port pasid page ans).en e = s.en e := by
  cases ans <;> rfl

theorem atsResponse_of_asked {s : State} {port page : Nat} {pasid : Option Nat} (asked : (port, pasid, page) ∈ s.dtu.ats)
    (idle : ∀ k, k < 4 → (s.en k).running = none) (ans : AtsAns) : s.atsResponse port pasid page ans = s.answered port pasid page ans := by
  have known : ¬ (!s.dtu.ats.contains (port, pasid, page)) = true := by simp [asked]
  have still : ∀ k, k < 4 → ((s.answered port pasid page ans).en k).running = none := fun k hk => by rw [en_answered]; exact idle k hk
  unfold State.atsResponse
  rw [if_neg known]
  exact foldl_running_of_none still _

/-- With no burst under way an invalidation completes at once (R344). -/
theorem invalSend_of_idle {s : State} {v : Nat × Option Nat × Nat × Nat} (none_out : s.dch = []) (one : s.dtu.inval = [v]) :
    s.invalSend = { s with dtu.inval := [], out := .port v.1 "Invalidate Completion" v.2.2.1 :: s.out } := by
  have free : s.invalBusy v = false := by simp [State.invalBusy, none_out]
  simp only [State.invalSend, one, List.filter, free, Bool.not_false, List.foldl, State.emit]

theorem mem_atc_atsInvalidate {s : State} {port page : Nat} {pasid : Option Nat} (none_out : s.dch = []) (none_waits : s.dtu.inval = []) :
    (∀ x, x ∈ (s.atsInvalidate port pasid page 0).dtu.atc ↔ x ∈ s.dtu.atc ∧ ¬ (x.2.port = port ∧ x.2.pasid = pasid ∧ x.2.page / 2 ^ x.2.size = page / 2 ^ x.2.size))
      ∧ (s.atsInvalidate port pasid page 0).out = .port port "Invalidate Completion" page :: s.out ∧ (s.atsInvalidate port pasid page 0).dtu.inval = [] := by
  unfold State.atsInvalidate
  extract_lets hits
  rw [invalSend_of_idle (v := (port, pasid, page, 0)) ?none_out ?one]
  case none_out => exact none_out
  case one => simp [none_waits]
  refine ⟨fun x => ?_, rfl, rfl⟩
  simp only [hits, List.mem_filter, Nat.max_zero, Bool.not_eq_true', Bool.and_eq_false_iff, beq_eq_false_iff_ne]
  tauto

/-! ### Page requests (R345, R346) -/

section
variable {s : State} {q : Nat}

theorem pageRequestSend_of_none (none_waits : s.dtu.pri = []) : s.pageRequestSend q = s := by simp [State.pageRequestSend, none_waits]

theorem priEnd_of_none (none_waits : s.dtu.pri = []) (g : Nat) : s.priEnd q g = (s, none) := by simp [State.priEnd, none_waits]

theorem pageRequestSend_of_one {x : PageReq} (one : s.dtu.pri = [x]) (port : x.port = q) (fresh : x.group = none) (usable : s.priUsable q = true)
    (room : 1 ≤ (s.prt q).alloc) :
    s.pageRequestSend q = ({ s with dtu.pri := [{ x with group := some 0 }] } : State).emit (.port q "Page Request" (x.page * 512)) := by
  have used : (s.dtu.pri.filter (fun p => p.port == q)).filterMap (·.group) = [] := by simp [one, port, fresh]
  have oldest : s.dtu.pri.find? (fun p => p.port == q && p.group.isNone) = some x := by simp [one, port, fresh]
  have allowed : ¬ (!s.priUsable q || decide (min (s.prt q).alloc 512 ≤ 0)) = true := by
    rw [usable]
    simp
    omega
  simp only [State.pageRequestSend, oldest, used]
  rw [if_neg (by simpa using allowed), one]
  simp [lowestFree]

variable {g i : Nat} {x : PageReq} {r : RunDesc}

theorem priEnd_of_one (one : s.dtu.pri = [x]) (port : x.port = q) (group : x.group = some g) :
    s.priEnd q g = ({ s with dtu.pri := [] }, some x) := by
  simp [State.priEnd, one, port, group]

theorem prgResponse_success {t : State} (ends : s.priEnd q g = (t, some x)) :
    s.prgResponse q g .success = x.who.foldl (fun t w => t.pageOk w) (t.rejoin (whoChans x.who)) := by
  simp only [State.prgResponse, ends]

theorem prgResponse_invalid {t : State} (ends : s.priEnd q g = (t, some x)) : s.prgResponse q g .invalid = x.who.foldl (fun t w => t.pageBad 7 w) t := by
  simp only [State.prgResponse, ends]

theorem prgResponse_failure {t : State} (ends : s.priEnd q g = (t, some x)) :
    s.prgResponse q g .failure = x.who.foldl (fun t w => t.pageBad 8 w) (t.modPrt q (fun y => { y with respFail := true })) := by
  simp only [State.prgResponse, ends]

theorem prt_pageBad_chan (s : State) (src i p : Nat) : (s.pageBad src (.chan i)).prt p = s.prt p := by
  simp only [State.pageBad, State.priFail]
  split
  · split
    · exact prt_descEnd ..
    · rfl
  · rfl

/-- The parked channel fails with the source of the answer. -/
theorem pageBad_of_parked (running : (s.dc i).run = some r) (parked : s.chState i = 4) (src : Nat) :
    ∃ y : RunDesc, ((s.pageBad src (.chan i)).dc i).issued = (s.dc i).issued ++ [y] ∧ y.err.map (fun z => (z.1, z.2.1)) = some (4, src) := by
  have failed : s.pageBad src (.chan i) =
      s.descFail i r dmXLATE_FAULT src (match s.nextBurst r with | some (a, _) => a | none => 0) r.pos := by
    simp only [State.pageBad, State.priFail, running]
    exact if_pos parked
  rw [failed, State.descFail, dc_descEnd]
  exact ⟨_, rfl, rfl⟩

/-- A parked channel joins the head of its engine's run list. -/
theorem rejoin_of_parked (running : (s.dc i).run = some r) (parked : s.chState i = 4) (engine : s.engOf i < 4) :
    ((s.rejoin [i]).en (s.engOf i)).runs = i :: (s.en (s.engOf i)).runs ∧ (s.rejoin [i]).chState i = 2 ∧ (s.rejoin [i]).dtu = s.dtu
      ∧ (s.rejoin [i]).dc i = s.dc i := by
  unfold State.rejoin
  extract_lets back joined
  have alone : back = [i] := by simp [back, running, parked, chPARKED, insertIx]
  have joins (t : State) (e : Nat) : ((t.modEn e (fun x => { x with runs := back.filter (fun id => s.engOf id == e) ++ x.runs })).en (s.engOf i)).runs
      = if e = s.engOf i then i :: (t.en (s.engOf i)).runs else (t.en (s.engOf i)).runs := by
    by_cases same : e = s.engOf i
    · rw [same, en_modEn_same, alone]
      simp
    · rw [en_modEn_ne _ _ _ _ (Ne.symm same), if_neg same]
  have runs : (joined.en (s.engOf i)).runs = i :: (s.en (s.engOf i)).runs := by
    simp only [joined, show List.range 4 = [0, 1, 2, 3] from rfl, List.foldl, joins]
    generalize s.engOf i = e at engine
    interval_cases e <;> rfl
  have kept : joined.dtu = s.dtu ∧ joined.dch = s.dch :=
    List.foldlRecOn (motive := fun t : State => t.dtu = s.dtu ∧ t.dch = s.dch) _ _ ⟨rfl, rfl⟩ fun t same _ _ => same
  rw [alone]
  exact ⟨runs, rf_wf_same .., kept.1, congrArg (tabGet DmaCh.reset · i) kept.2⟩

end

/-! ### Configuration requests (R353) -/

section
variable {s : State} {q : Nat}

theorem configAccess_of_off (off : s.dom (14 + q) ≠ 3) (r : CfgReq) : s.configAccess q r = s := if_pos (.inl off)

/-- The link of a port in use comes up. -/
def State.linked (s : State) (q : Nat) : State := s.modPrt q (fun x => { x with linkUp := true })

theorem configAccess_of_booting (on : s.dom (14 + q) = 3) (released : (s.prt q).perst = false) (booting : s.pwr.bootDone = false) (r : CfgReq) :
    s.configAccess q r = (s.linked q).emit (.port q "CRS" 0) := by
  have access : s.dom (domPX q) = 3 := on
  simp [State.configAccess, access, released, State.linked, booting]

theorem configAccess_pasid (on : s.dom (14 + q) = 3) (released : (s.prt q).perst = false) (booted : s.pwr.bootDone = true) (v : Bool) :
    s.configAccess q (.pasid v) = ((s.linked q).emit (.port q "Cpl" 0)).modPrt q (fun x => { x with pasid := v }) := by
  have access : s.dom (domPX q) = 3 := on
  simp [State.configAccess, access, released, State.linked, booted]

theorem configAccess_ats_false (on : s.dom (14 + q) = 3) (released : (s.prt q).perst = false) (booted : s.pwr.bootDone = true) :
    s.configAccess q (.ats false) = { ((s.linked q).emit (.port q "Cpl" 0)).modPrt q (fun x => { x with ats := false }) with
      dtu.atc := s.dtu.atc.filter (fun x => x.2.port != q) } := by
  have access : s.dom (domPX q) = 3 := on
  simp [State.configAccess, access, released, State.linked, booted]

end

/-! ### The statement -/

/-- Settles O36: each command by the case it takes. -/
theorem dmaAbortsFaultsAndTranslations : Obligations.DmaAbortsFaultsAndTranslations := by
  intro s e
  refine ⟨fun busy => next_eq (deAbort_of_busy busy), ?abort, ?internalHigh, ?internal, rfl, fun retired => next_eq (engineFault_of_retired retired), ?fault,
    fun serving last => next_eq (engineFault_of_last serving last), fun done => next_eq (handover_of_done done), ?handover,
    fun q a g r unasked => next_eq (atsResponse_of_unasked unasked r), ?ats, ?invalidate, ?noPages, ?send, ?response, ?off, ?config⟩
  case abort =>
    intro c high channel idle
    refine ⟨fun issued still queue => ?_, fun x issued index fresh => ?_⟩
    · change Host.Outcome.next (s.deAbort e.val) = _
      rw [deAbort_of_idle high channel idle, descAbort_of_absent issued still queue]
      rfl
    · obtain ⟨t, aborted, regs, held⟩ := descAbort_of_issued issued index fresh
      refine ⟨_, next_eq (deAbort_of_idle high channel idle), ?_⟩
      rw [aborted]
      have key : DE_ABORT_STATUS_RESULT.key e.val 0 ≠ DE_ABORT_GO.key e.val 0 := by simp only [Fld.key, DE_ABORT_STATUS_RESULT, DE_ABORT_GO]; omega
      refine ⟨(rf_wf_ne _ _ _ _ _ _ _ _ key).trans (rf_wf_same ..), ?_, held⟩
      simp [State.rb, State.wb, DE_ABORT_GO]
  case internalHigh =>
    intro i k high
    exact next_eq (if_neg (by simpa using high))
  case internal =>
    intro i k x low issued running index
    refine ⟨_, next_eq ((if_pos low).trans (congrArg Prod.fst (descAbort_of_running issued running index))), ?_⟩
    rw [dc_descEnd, endedCh, issued]
    exact ⟨rfl, rfl⟩
  case fault =>
    intro serving ⟨k, hk, other, another⟩
    refine ⟨_, next_eq (engineFault_of_another serving hk other another), ?_⟩
    simp [State.engineOut, State.en, State.modEn, tabMod]
  case handover =>
    intro retired waits
    exact ⟨_, rfl, handover_of_retired retired waits⟩
  case ats =>
    intro q a g asked idle
    refine ⟨next_eq (atsResponse_of_asked asked idle .error), fun h r w => ?_⟩
    obtain ⟨ats, k, held⟩ := atcPut_holds { s with dtu.ats := s.dtu.ats.erase (q.val, a.map (·.toNat), g.toNat) }
      { port := q.val, pasid := a.map (·.toNat), page := g.toNat, addr := h.toNat / 4096 * 4096, r := r, w := w, size := 0 }
    refine ⟨_, k, next_eq (atsResponse_of_asked asked idle (.grant h r w 0)), ?_⟩
    simp only [State.answered, Fin.val_zero, Nat.pow_zero, Nat.div_one, Nat.mul_one]
    exact ⟨ats, held⟩
  case invalidate =>
    intro q a g none_out none_waits
    exact ⟨_, rfl, mem_atc_atsInvalidate none_out none_waits⟩
  case noPages =>
    intro q none_waits
    refine ⟨next_eq (pageRequestSend_of_none none_waits), fun g c => ⟨next_eq ?_, next_eq ?_⟩⟩
    · rw [State.prgResponse, priEnd_of_none none_waits]
    · rw [priEnd_of_none none_waits]
  case send =>
    intro q x one port fresh usable room
    exact next_eq (pageRequestSend_of_one one port fresh usable room)
  case response =>
    intro q g i x r one port group who running parked engine
    have ends := priEnd_of_one one port group
    have bad (t : State) (ran : (t.dc i).run = some r) (stands : t.chState i = 4) (src : Nat) :
        ∃ y : RunDesc, ((x.who.foldl (fun t w => t.pageBad src w) t).dc i).issued = (t.dc i).issued ++ [y] ∧ y.err.map (fun z => (z.1, z.2.1)) = some (4, src) := by
      rw [who]
      exact pageBad_of_parked ran stands src
    refine ⟨⟨_, next_eq (prgResponse_success ends), ?_⟩, ?_, ?_, ?_⟩
    · obtain ⟨runs, queued, pages, ch⟩ := rejoin_of_parked (s := { s with dtu.pri := [] }) running parked engine
      simp only [who, whoChans, List.filterMap, List.foldl, State.pageOk]
      exact ⟨runs, queued, congrArg Dtu.pri pages, (congrArg DmaCh.run ch).trans running⟩
    · obtain ⟨y, issued, err⟩ := bad (({ s with dtu.pri := [] } : State).modPrt q.val (fun p => { p with respFail := true })) running parked 8
      refine ⟨_, y, next_eq (prgResponse_failure ends), ?_, issued, err⟩
      rw [who]
      exact (congrArg Port.respFail (prt_pageBad_chan ..)).trans (congrArg Port.respFail (prt_modPrt_same ..))
    · obtain ⟨y, issued, err⟩ := bad { s with dtu.pri := [] } running parked 7
      exact ⟨_, y, next_eq (prgResponse_invalid ends), issued, err⟩
    · obtain ⟨y, issued, err⟩ := bad { s with dtu.pri := [] } running parked 9
      refine ⟨_, y, next_eq ?_, issued, err⟩
      rw [ends]
  case off =>
    intro q r off
    exact next_eq (configAccess_of_off off r)
  case config =>
    intro q on released
    refine ⟨fun r booting => next_eq (configAccess_of_booting on released booting r), fun v booted => ⟨_, next_eq (configAccess_pasid on released booted v), ?_⟩,
      fun booted => ⟨_, next_eq (configAccess_ats_false on released booted), ?_, fun x kept => ?_⟩⟩
    · refine ⟨congrArg Port.pasid (prt_modPrt_same ..), (congrArg Port.linkUp (prt_modPrt_same ..)).trans ?_, rfl⟩
      exact congrArg Port.linkUp (prt_modPrt_same s q.val (fun x => { x with linkUp := true }))
    · exact congrArg Port.ats (prt_modPrt_same ((s.linked q.val).emit (.port q.val "Cpl" 0)) q.val (fun x => { x with ats := false }))
    · exact bne_iff_ne.1 (List.mem_filter.1 kept).2

end Sys2Proof.Machine
end

section
/-! Admin commands of the NVMe controllers: each by the answer it takes, once its queue holds the turn (R355 to R363, R517). -/

namespace Sys2Proof.Machine
open Sys2Proof

/-! ### Fetching an admin command (R360, R382) -/

/-- What the fetch of an admin command leaves: its queue's head moves, its completion queue owes an entry more, and the turn counts. -/
def State.adminFetched (t : State) (q : Nat) : State :=
  ((t.modSq q 0 (fun x => { x with head := (x.head + 1) % max 1 x.size })).modCq q 0 (fun x => { x with credits := x.credits + 1 })).turnCount (nvPart q 0)

section
variable {s t : State} {q cid : Nat} {f : State → State × Option (Nat × Nat)}

theorem adminRun_of_switch (switching : s.sec.sw ≠ none) : s.adminRun q cid f = s := if_pos (Option.isSome_iff_ne_none.2 switching)

/-- A command that completes. -/
theorem adminRun_of_answer (settled : s.sec.sw = none) (turn : s.nextTurn = some (t, nvPart q 0)) {r : State} {st d : Nat}
    (answer : f (t.adminFetched q) = (r, some (st, d))) : s.adminRun q cid f = r.adminDone q cid st d := by
  unfold State.adminFetched at answer
  simp only [State.adminRun, settled, turn, Option.isSome_none, Bool.false_eq_true, if_false, if_true, answer]

/-- A command that completes later. -/
theorem adminRun_of_wait (settled : s.sec.sw = none) (turn : s.nextTurn = some (t, nvPart q 0)) {r : State} (waits : f (t.adminFetched q) = (r, none)) :
    s.adminRun q cid f = r := by
  unfold State.adminFetched at waits
  simp only [State.adminRun, settled, turn, Option.isSome_none, Bool.false_eq_true, if_false, if_true, waits]

end

/-! ### What each command answers -/

section
variable {u : State} {q : Nat}

theorem createCq_of_free {qid size vector base : Nat} (low : 1 ≤ qid) (high : qid ≤ 1024) (free : (u.nvCq q qid).size = 0) (some_size : 1 ≤ size)
    (fits : size ≤ 4095) (known : vector ≤ 1024) :
    u.createCq q qid size vector base true = ok0 (u.modCq q qid (fun _ => { NvCq.none with base := base, size := size + 1, vector := vector })) := by
  rw [State.createCq, if_neg (by omega), if_neg (by omega), if_neg (by omega)]
  rfl

theorem createCq_of_used {qid size vector base : Nat} (used : (u.nvCq q qid).size ≠ 0) : u.createCq q qid size vector base true = fail0 u scQID :=
  if_pos (.inr (.inr used))

theorem createSq_of_free {qid size prio cqid base pool : Nat} (low : 1 ≤ qid) (high : qid ≤ 1024) (free : (u.nvSq q qid).size = 0) (some_size : 1 ≤ size)
    (fits : size ≤ 4095) (cqLow : 1 ≤ cqid) (cqHigh : cqid ≤ 1024) (bound : (u.nvCq q cqid).size ≠ 0) :
    u.createSq q qid size prio cqid base pool true =
      ok0 (u.modSq q qid (fun _ => { NvSq.none with base := base, cq := cqid, size := size + 1, prio := prio, pool := pool })) := by
  rw [State.createSq, if_neg (by omega), if_neg (by omega), if_neg (by omega), if_neg bound]
  rfl

theorem createSq_of_noSize {qid size prio cqid base pool : Nat} (low : 1 ≤ qid) (high : qid ≤ 1024) (free : (u.nvSq q qid).size = 0) (noSize : size = 0) :
    u.createSq q qid size prio cqid base pool true = fail0 u scQSIZE := by
  rw [State.createSq, if_neg (by omega)]
  exact if_pos (.inl noSize)

theorem deleteSq_of_held {qid : Nat} (io : qid ≠ 0) (held : (u.nvSq q qid).size ≠ 0) : u.deleteSq q qid =
    ok0 (((u.discardCmds (nvPart q qid)).turnEnd (nvPart q qid)).modPrt q (fun p => { p with sq := tabDel p.sq qid })) :=
  if_neg (by simp [io, held])

theorem deleteCq_of_held {qid : Nat} (io : qid ≠ 0) (held : (u.nvCq q qid).size ≠ 0) : u.deleteCq q qid =
    if (u.prt q).sq.any (fun p => p.2.cq == qid && p.2.size != 0) then fail0 u scQDELETE
    else ok0 ((u.priDrop (.comp (nvComp q qid))).modPrt q (fun p => { p with cq := tabDel p.cq qid })) :=
  if_neg (by simp [io, held])

theorem recoveryStops_of_mode (mode : u.mode ≠ 3) : u.recoveryStops = false := by simp [State.recoveryStops, modeRecovery, mode]

theorem getLog_of_page {lid offset : Nat} {rae : Bool} {list : List (Nat × Nat)} (mode : u.mode ≠ 3) (aligned : offset % 4 = 0) (other : lid ≠ 0x80) {bs : List Byte}
    (page : u.logPage q lid = some (u, bs)) : u.getLog q lid offset rae list =
      ok0 (u.hostPut q list (((bs.drop offset).take (listSum list)) ++ List.replicate (listSum list - (bs.drop offset).length) 0)) := by
  simp [State.getLog, recoveryStops_of_mode mode, aligned, page, other]

theorem getLog_of_noPage {lid offset : Nat} {rae : Bool} {list : List (Nat × Nat)} (mode : u.mode ≠ 3) (aligned : offset % 4 = 0) (absent : u.logPage q lid = none) :
    u.getLog q lid offset rae list = fail0 u scLOG := by
  simp [State.getLog, recoveryStops_of_mode mode, aligned, absent]

theorem setFeatures_timestamp {ns v : Nat} {data : List Byte} (mode : u.mode ≠ 3) :
    u.setFeatures q 0x0E ns v data = ok0 { u with hostTime := some (leNat (data.take 6), u.coreTime.toNat) } := by
  simp [State.setFeatures, recoveryStops_of_mode mode, featIds]

theorem setFeatures_of_unknown {fid ns v : Nat} {data : List Byte} (mode : u.mode ≠ 3) (unknown : fid ∉ featIds) :
    u.setFeatures q fid ns v data = fail0 u scFIELD := by
  simp [State.setFeatures, recoveryStops_of_mode mode, unknown]

theorem getFeatures_queues {ns : Nat} {list : List (Nat × Nat)} (mode : u.mode ≠ 3) : u.getFeatures q 0x07 ns list = (u, some (0, 0x03FF03FF)) := by
  simp [State.getFeatures, recoveryStops_of_mode mode, featIds]

theorem getFeatures_of_unknown {fid ns : Nat} {list : List (Nat × Nat)} (mode : u.mode ≠ 3) (unknown : fid ∉ featIds) :
    u.getFeatures q fid ns list = fail0 u scFIELD := by
  simp [State.getFeatures, recoveryStops_of_mode mode, unknown]

/-- With no notification to tell, a request waits. -/
theorem eventAsk_of_first {cid : Nat} (mode : u.mode ≠ 3) (first : (u.prt q).aer = []) (quiet : (u.prt q).resvLog = []) :
    u.eventAsk q cid = (u.modPrt q (fun p => { p with aer := p.aer ++ [cid] }), none) := by
  simp [State.eventAsk, recoveryStops_of_mode mode, first, State.eventPost, quiet]

theorem eventAsk_of_full {cid : Nat} (mode : u.mode ≠ 3) (full : 4 ≤ (u.prt q).aer.length) : u.eventAsk q cid = fail0 u scAER := by
  simp [State.eventAsk, recoveryStops_of_mode mode, full]

theorem nvAbort_of_io {i k : Nat} (mode : u.mode ≠ 3) (io : i ≠ 0) :
    u.nvAbort q i k = ((u.abortReach (nvPart q i) k none).1, some (0, if (u.abortReach (nvPart q i) k none).2 = 0 then 0 else 1)) := by
  simp [State.nvAbort, recoveryStops_of_mode mode, io]

theorem mediaPurge_of_idle {cid : Nat} (mode : u.mode ≠ 3) (idle : u.purge = none) :
    u.mediaPurge q cid = ({ u with purge := some (nvPart q 0, cid), pwr.ready := false }, none) := by
  simp [State.mediaPurge, recoveryStops_of_mode mode, idle]

theorem mediaPurge_of_busy {cid : Nat} (mode : u.mode ≠ 3) (busy : u.purge ≠ none) : u.mediaPurge q cid = fail0 u scNOTREADY := by
  simp [State.mediaPurge, recoveryStops_of_mode mode, Option.isSome_iff_ne_none.2 busy]

end

/-! ### The end of a purge (R363) -/

theorem purgeDone_of_none {s : State} (idle : s.purge = none) : s.purgeDone = s := by rw [State.purgeDone, idle]

theorem purgeDone_of_waiting {s : State} {p : Nat × Nat} (purging : s.purge = some p) (dirty : s.dirty ≠ []) : s.purgeDone = s := by
  simp [State.purgeDone, purging, dirty]

theorem partPort_nvPart_zero (q : Nat) : partPort (nvPart q 0) = q := by
  rw [partPort, nvPart]
  omega

theorem purgeDone_of_written {s : State} {q : Fin 2} {k : Nat} (purging : s.purge = some (nvPart q.val 0, k)) (dirty : s.dirty = []) (updates : s.updates = []) :
    ∃ z : State, s.purgeDone = z.adminDone q.val k 0 0 ∧ z.purge = none ∧ z.holes = [] ∧ z.obj.slots = [] := by
  have named : nvPart q.val 0 ≠ 2 ^ 32 := by
    rw [nvPart, nSR]
    omega
  have written : ¬ (s.dirty ≠ [] ∨ s.updates ≠ []) := by simp [dirty, updates]
  simp only [State.purgeDone, purging]
  rw [if_neg written, if_neg named, partPort_nvPart_zero]
  exact ⟨_, rfl, rfl, rfl, rfl⟩

/-! ### The statement -/

/-- Settles O37: each admin command by its answer. -/
theorem nvmeAdminCommands : Obligations.NvmeAdminCommands := by
  intro s t u q cid turn fetched
  change u = t.adminFetched q.val at fetched
  have at_turn {f : State → State × Option (Nat × Nat)} (settled : s.sec.sw = none) {r : State} {st d : Nat} (answer : f u = (r, some (st, d))) :
      (Host.Outcome.next (s.adminRun q.val cid.toNat f) : Res) = .next (r.adminDone q.val cid.toNat st d) :=
    next_eq (adminRun_of_answer settled turn (by rwa [← fetched]))
  have waits {f : State → State × Option (Nat × Nat)} (settled : s.sec.sw = none) {r : State} (answer : f u = (r, none)) :
      (Host.Outcome.next (s.adminRun q.val cid.toNat f) : Res) = .next r :=
    next_eq (adminRun_of_wait settled turn (by rwa [← fetched]))
  refine ⟨⟨fun qid switching => ⟨next_eq (adminRun_of_switch switching), next_eq (adminRun_of_switch switching)⟩, ?queues, ?pages⟩,
    fun idle => next_eq (purgeDone_of_none idle), fun k purging => ⟨fun dirty => next_eq (purgeDone_of_waiting purging dirty), fun dirty updates => ?_⟩⟩
  case queues =>
    intro settled qid n v base
    exact ⟨fun low high free some_size fits known => at_turn settled (createCq_of_free low high free some_size fits known),
      fun used => at_turn settled (createCq_of_used used),
      fun low high free some_size fits cqLow cqHigh bound p l => at_turn settled (createSq_of_free low high free some_size fits cqLow cqHigh bound),
      fun low high free noSize p l => at_turn settled (createSq_of_noSize low high free noSize),
      fun io held => at_turn settled (deleteSq_of_held io held),
      fun io held bound => at_turn settled ((deleteCq_of_held io held).trans (if_pos bound)),
      fun io held free => at_turn settled ((deleteCq_of_held io held).trans (if_neg (by simp [free])))⟩
  case pages =>
    intro settled mode ns v l data o b
    exact ⟨at_turn settled rfl, at_turn settled rfl, fun aligned => at_turn settled (getLog_of_page mode aligned (by decide) rfl),
      fun aligned => at_turn settled (getLog_of_noPage mode aligned rfl), at_turn settled (setFeatures_timestamp mode),
      at_turn settled (setFeatures_of_unknown mode (by decide)), at_turn settled (getFeatures_queues mode), at_turn settled (getFeatures_of_unknown mode (by decide)),
      fun first quiet => waits settled (eventAsk_of_first mode first quiet), fun full => at_turn settled (eventAsk_of_full mode full),
      fun i k io => at_turn settled (nvAbort_of_io mode io), fun idle => waits settled (mediaPurge_of_idle mode idle),
      fun busy => at_turn settled (mediaPurge_of_busy mode busy)⟩
  · obtain ⟨z, done, rest⟩ := purgeDone_of_written purging dirty updates
    exact ⟨z, next_eq done, rest⟩

end Sys2Proof.Machine
end

section
/-! I/O commands and reservations of the NVMe controllers: the claim of a command, then each command by what it does at its stamp (R356 to R365, R381). -/

namespace Sys2Proof.Machine
open Sys2Proof

/-! ### The claim (R381) -/

/-- A command's stamp is new. -/
def State.FreshStamp (s : State) : Prop := s.cmds.length < 65536 ∧ ∀ k ∈ s.cmds, k.stamp ≠ s.fetchStamp.toNat

/-- The commands after a new one has been stamped. -/
def State.stamped (s : State) (c : Cmd) : State := { s with fetchStamp := s.fetchStamp + 1, cmds := s.cmds ++ [c] }

theorem cmd_stamped {s : State} (fresh : s.FreshStamp) {c : Cmd} (stamp : c.stamp = s.fetchStamp.toNat) : (s.stamped c).cmd s.fetchStamp.toNat = some c := by
  have others : s.cmds.find? (fun k => k.stamp == s.fetchStamp.toNat) = none :=
    List.find?_eq_none.2 fun k hk => by simpa using fresh.2 k hk
  rw [State.cmd, State.stamped, List.find?_append, others]
  simp [stamp]

/-- A command that has failed at its stamp only enters the list. -/
theorem cmdStart_of_failed {s : State} (fresh : s.FreshStamp) {c : Cmd} (stamp : c.stamp = s.fetchStamp.toNat) (failed : c.fails ≠ []) :
    (s.stamped c).cmdStart s.fetchStamp.toNat = s.stamped c := by
  rw [State.cmdStart, cmd_stamped fresh stamp]
  exact if_pos failed

theorem cmdStart_of_other {s : State} (fresh : s.FreshStamp) {c : Cmd} (stamp : c.stamp = s.fetchStamp.toNat) (op : c.op = .other) :
    (s.stamped c).cmdStart s.fetchStamp.toNat = s.stamped c := by
  rw [State.cmdStart, cmd_stamped fresh stamp]
  simp [op, CmdOp.writes, CmdOp.reads]

/-- The commands of R361. -/
def CmdOp.io (o : CmdOp) : Prop := o = .read ∨ o = .write ∨ o = .zeroes ∨ o = .compare ∨ o = .flush

theorem preFail_of_notReady {s : State} {c : Cmd} (io : c.op.io) (notReady : s.notReady = true) (nsOk : Bool) (host : Nat) : s.preFail c nsOk host = some 4 := by
  rcases io with h | h | h | h | h <;> simp [State.preFail, h, notReady]

theorem preFail_of_other {s : State} {c : Cmd} (op : c.op = .other) (nsOk : Bool) (host : Nat) : s.preFail c nsOk host = none := by
  simp [State.preFail, op]

/-- R363: while no namespace is ready the command enters the list failed. -/
theorem admitCmd_of_notReady {s : State} (fresh : s.FreshStamp) {c : Cmd} (io : c.op.io) (notReady : s.notReady = true) (nsOk : Bool) (host : Nat) :
    s.admitCmd c nsOk host = (s.stamped { c with stamp := s.fetchStamp.toNat, fails := [4] }, true) := by
  have abort : ¬ (c.op = .abort ∧ 64 ≤ s.cmds.countP (fun k => k.op == .abort)) := by
    rcases io with h | h | h | h | h <;> simp [h]
  have started := cmdStart_of_failed fresh (c := { c with stamp := s.fetchStamp.toNat, fails := [4] }) rfl (List.cons_ne_nil _ _)
  rw [State.admitCmd, if_neg (by have := fresh.1; omega), if_neg abort]
  simp only [preFail_of_notReady io notReady, State.newStamp]
  exact congrArg (·, true) started

theorem admitCmd_of_other {s : State} (fresh : s.FreshStamp) (c : Cmd) (nsOk : Bool) (host : Nat) :
    s.admitCmd { c with op := .other, fails := [] } nsOk host = (s.stamped { c with op := .other, fails := [], stamp := s.fetchStamp.toNat }, true) := by
  have started := cmdStart_of_other fresh (c := { c with op := .other, fails := [], stamp := s.fetchStamp.toNat }) rfl rfl
  rw [State.admitCmd, if_neg (by have := fresh.1; omega), if_neg (by simp), preFail_of_other rfl]
  exact congrArg (·, true) started

/-! ### The fetch of an I/O command (R360) -/

/-- What the fetch of a claimed command leaves. -/
def State.ioFetched (x : State) (t : State) (q i : Nat) : State :=
  ((x.modCq q (t.nvSq q i).cq (fun y => { y with credits := y.credits + 1 })).modSq q i (fun y => { y with head := (y.head + 1) % max 1 y.size })).turnCount (nvPart q i)

theorem cmd_ioFetched (x t : State) (q i stamp : Nat) : (x.ioFetched t q i).cmd stamp = x.cmd stamp := by
  unfold State.ioFetched State.turnCount
  split
  · split <;> rfl
  · rfl

section
variable {s t x : State} {q i : Nat} {c : Cmd} {nsOk : Bool} {eff : State → Nat → State × Option Nat}

/-- A command without an effect of its own: claimed, or left in its queue. -/
theorem nvRun_noEff (turn : s.nextTurn = some (t, nvPart q i)) (io : i ≠ 0) :
    s.nvRun q i c nsOk noEff = (let r := t.admitCmd { c with pool := (t.nvSq q i).pool } nsOk (t.hostOf q); if r.2 then r.1.ioFetched t q i else r.1) := by
  simp only [State.nvRun, turn, io, ne_eq, not_false_eq_true, and_true, if_true, noEff]
  split_ifs
  · split
    · split_ifs <;> rfl
    · rfl
  · rfl

/-- A claimed command that has not failed does what it does at its stamp. -/
theorem nvRun_of_done (turn : s.nextTurn = some (t, nvPart q i)) (io : i ≠ 0) {k : Cmd}
    (admitted : t.admitCmd { c with pool := (t.nvSq q i).pool } nsOk (t.hostOf q) = (x, true)) (held : x.cmd t.fetchStamp.toNat = some k) (good : k.fails = [])
    {r : State} (effect : eff (x.ioFetched t q i) t.fetchStamp.toNat = (r, none)) : s.nvRun q i c nsOk eff = r := by
  have stands : (x.ioFetched t q i).cmd t.fetchStamp.toNat = some k := (cmd_ioFetched ..).trans held
  unfold State.ioFetched at stands effect
  simp only [State.nvRun, turn, io, ne_eq, not_false_eq_true, and_true, if_true, admitted, stands, good, not_true, if_false, effect]

/-- Or it meets a failure there. -/
theorem nvRun_of_refused (turn : s.nextTurn = some (t, nvPart q i)) (io : i ≠ 0) {k : Cmd}
    (admitted : t.admitCmd { c with pool := (t.nvSq q i).pool } nsOk (t.hostOf q) = (x, true)) (held : x.cmd t.fetchStamp.toNat = some k) (good : k.fails = [])
    {r : State} {f : Nat} (effect : eff (x.ioFetched t q i) t.fetchStamp.toNat = (r, some f)) : s.nvRun q i c nsOk eff = r.cmdFail t.fetchStamp.toNat f 0 := by
  have stands : (x.ioFetched t q i).cmd t.fetchStamp.toNat = some k := (cmd_ioFetched ..).trans held
  unfold State.ioFetched at stands effect
  simp only [State.nvRun, turn, io, ne_eq, not_false_eq_true, and_true, if_true, admitted, stands, good, not_true, if_false, effect]

end

/-! ### Reservations (R364, R365) -/

section
variable {u : State} {q k : Nat}

theorem resvRegister_of_new {n r : Nat} {b : Bool} (new : (u.resvOf k).keyOf (u.hostOf q) = none) (room : (u.resvOf k).regs.length < 32) :
    u.resvRegister q k 0 0 r n b =
      ((u.modResv k (fun x => { x with regs := x.regs ++ [{ host := u.hostOf q, ctrl := q + 1, key := n }] })).resvBump k, none) := by
  simp [State.resvRegister, new, room]

theorem resvRegister_of_another {n r m : Nat} {b : Bool} (held : (u.resvOf k).keyOf (u.hostOf q) = some m) (other : m ≠ n) :
    u.resvRegister q k 0 0 r n b = (u, some 5) := by
  simp [State.resvRegister, held, other]

theorem resvAcquire_of_free {type key p st : Nat} (some_type : type ≠ 0) (known : type ≤ 6) (right : (u.resvOf k).keyOf (u.hostOf q) = some key)
    (free : (u.resvOf k).holder = none) :
    u.resvAcquire q k 0 type key p st = (u.modResv k (fun x => { x with holder := some (u.hostOf q), type := type }), none) := by
  simp [State.resvAcquire, some_type, Nat.not_lt.2 known, right, free]

theorem resvAcquire_of_wrongKey {type key p st : Nat} (some_type : type ≠ 0) (known : type ≤ 6) (wrong : (u.resvOf k).keyOf (u.hostOf q) ≠ some key) :
    u.resvAcquire q k 0 type key p st = (u, some 5) := by
  simp [State.resvAcquire, some_type, Nat.not_lt.2 known, wrong]

theorem resvRelease_of_holder {type key : Nat} (right : (u.resvOf k).keyOf (u.hostOf q) = some key) (holds : (u.resvOf k).holder = some (u.hostOf q)) :
    u.resvRelease q k 0 type key = if (u.resvOf k).type ≠ type then (u, some 0x102) else (u.resvFree q k, none) := by
  simp [State.resvRelease, right, Resv.holds, holds]

end

theorem type_of_fin (y : Fin 6) : (BitVec.ofNat 8 (y.val + 1)).toNat = y.val + 1 := by
  rw [BitVec.toNat_ofNat]
  omega

/-! ### The statement -/

/-- Settles O38: the claim of each I/O command, and what the others do at their stamp. -/
theorem nvmeIoCommandsAndReservations : Obligations.NvmeIoCommandsAndReservations := by
  intro s t q i cid turn io
  refine ⟨fun x nsid lba nlb f m l c d formed => ?moves, fun u nsid c ready valid room stamps command fetched => ?others⟩
  case moves =>
    have run : exec d s = .next (s.nvRun q.val i.toNat c (s.nsidValid nsid.toNat) noEff) ∧ c.op.io := by
      rcases formed with ⟨rfl, rfl⟩ | ⟨rfl, rfl⟩ | ⟨rfl, rfl⟩ | ⟨rfl, rfl⟩ | ⟨rfl, one, rfl⟩
      · exact ⟨rfl, .inl rfl⟩
      · exact ⟨rfl, .inr (.inl rfl)⟩
      · exact ⟨rfl, .inr (.inr (.inl rfl))⟩
      · exact ⟨rfl, .inr (.inr (.inr (.inl rfl)))⟩
      · refine ⟨?_, .inr (.inr (.inr (.inr rfl)))⟩
        change Host.Outcome.next _ = _
        simp only [one, decide_false, Bool.false_eq_true, if_false, Bool.false_or]
    obtain ⟨runs, isIo⟩ := run
    rw [runs, nvRun_noEff turn io]
    refine ⟨fun admitted => by rw [admitted]; rfl, fun refused => by rw [refused]; rfl, fun notReady room stamps => ?_⟩
    rw [admitCmd_of_notReady (c := { c with pool := (t.nvSq q.val i.toNat).pool }) ⟨room, stamps⟩ isIo notReady]
    rfl
  case others =>
    have fresh : t.FreshStamp := ⟨room, stamps⟩
    change u = ((t.stamped c).ioFetched t q.val i.toNat) at fetched
    have admitted := admitCmd_of_other fresh { newCmd (nvPart q.val i.toNat) cid.toNat .other with ns := nsid.toNat - 1, port := q.val, pool := (t.nvSq q.val i.toNat).pool }
      true (t.hostOf q.val)
    subst command
    have does {eff : State → Nat → State × Option Nat} {r : State} (effect : eff u t.fetchStamp.toNat = (r, none)) :
        (Host.Outcome.next (s.nvOther q.val i.toNat cid.toNat nsid.toNat eff) : Res) = .next r := by
      rw [fetched] at effect
      rw [State.nvOther, ready, valid]
      exact next_eq (nvRun_of_done turn io admitted (cmd_stamped fresh rfl) rfl effect)
    have fails {eff : State → Nat → State × Option Nat} {f : Nat} (effect : eff u t.fetchStamp.toNat = (u, some f)) :
        (Host.Outcome.next (s.nvOther q.val i.toNat cid.toNat nsid.toNat eff) : Res) = .next (u.cmdFail t.fetchStamp.toNat f 0) := by
      rw [fetched] at effect ⊢
      rw [State.nvOther, ready, valid]
      exact next_eq (nvRun_of_refused turn io admitted (cmd_stamped fresh rfl) rfl effect)
    refine ⟨does rfl, fun n k b new regs => does (resvRegister_of_new new regs), fun n k b m held other => fails (resvRegister_of_another held other),
      fun k p y right free => does ?_, fun k p y wrong => fails ?_, fun k y right holds => ⟨fun same => does ?_, fun differs => fails ?_⟩,
      fun l => ⟨does rfl, fails rfl⟩⟩
    · simp only [type_of_fin]
      exact resvAcquire_of_free (by omega) (by omega) right free
    · simp only [type_of_fin]
      exact resvAcquire_of_wrongKey (by omega) (by omega) wrong
    · exact (resvRelease_of_holder right holds).trans (if_neg (not_not.2 same))
    · exact (resvRelease_of_holder right holds).trans (if_pos differs)

end Sys2Proof.Machine
end

section
/-! What freezing rings, failing waiters and aborting commands leave as it was (R345, R362, R386, R387, R392): the relation `Halted`. -/

namespace Sys2Proof.Machine
open Sys2Proof

/-! ### A report keeps every port's link -/

/-- The ports after a C4: both controllers fail (R466). -/
def fatalPorts (l : Tab Port) : Tab Port :=
  tabMod .reset (tabMod .reset l 0 (fun p => { p with cfs := true, frozen := true })) 1 (fun p => { p with cfs := true, frozen := true })

theorem Shut.port {s t : State} (h : Shut s t) : t.port = s.port := h.part (p := State.port) rfl

theorem port_startFlush (s : State) : s.startFlush.port = s.port := rfl

theorem port_chipFatal (s : State) : s.chipFatal.port = if s.rb FC_STATUS_FATAL then s.port else fatalPorts s.port := by
  unfold State.chipFatal
  extract_lets latched collectors stopped shut rings ports told retracted ended
  have h1 : shut.port = s.port := (shut_inhibitAll stopped inhFAULT true).port
  have h2 : ports.port = fatalPorts s.port := congrArg fatalPorts h1
  have h3 : Shut ports told := .foldl (fun t (p : Nat × Port) => .emit t (.port p.1 "ERR_FATAL" 0)) _ ports
  have h4 : Shut told retracted := .foldl shut_startRetract _ told
  have h5 : Shut retracted ended :=
    .ite ((Shut.wf (f := PWR_STATUS_COMMITTED) (reactionKey_power (by decide) rfl) retracted 0).trans (shut_abortEntry _ 7)) (.refl retracted)
  have h6 : ended.port = fatalPorts s.port := ((h3.trans h4).trans h5).port.trans h2
  split
  · rfl
  · exact (port_startFlush ended).trans h6

theorem linkUp_fatalPorts (l : Tab Port) (p : Nat) : (tabGet Port.reset (fatalPorts l) p).linkUp = (tabGet Port.reset l p).linkUp := by
  have kept (l : Tab Port) (k : Nat) : (tabGet Port.reset (tabMod .reset l k (fun x => { x with cfs := true, frozen := true })) p).linkUp = (tabGet Port.reset l p).linkUp := by
    by_cases same : p = k
    · rw [tabMod, same, tabGet_tabSet_same]
    · rw [tabMod, tabGet_tabSet_ne _ _ _ _ _ same]
  exact (kept _ 1).trans (kept l 0)

theorem linkUp_chipFatal (s : State) (p : Nat) : (s.chipFatal.prt p).linkUp = (s.prt p).linkUp := by
  rw [State.prt, port_chipFatal]
  split
  · rfl
  · exact linkUp_fatalPorts ..

theorem port_dupUp (s : State) (rg src n : Nat) : (s.dupUp rg src n).port = s.port := by
  unfold State.dupUp
  extract_lets collectors regional regionalCollectors waiting
  have h1 : regional.port = s.port := by
    unfold regional
    split
    · split <;> rfl
    · rfl
  split
  · split
    · exact h1
    · exact h1
  · exact h1

theorem port_toRegion (s : State) (rg : Nat) (r : FaultRec) : (s.toRegion rg r).port = s.port := by
  unfold State.toRegion
  split
  · rfl
  · split
    · exact port_dupUp ..
    · rfl

theorem linkUp_reportBy (s : State) (rg blk src cell cls detail : Nat) (forced : Bool) (p : Nat) :
    ((s.reportBy rg blk src cell cls detail forced).prt p).linkUp = (s.prt p).linkUp := by
  unfold State.reportBy
  extract_lets key recording recorded opened collectors collected
  have h1 : recorded.port = s.port := by
    unfold recorded
    split <;> rfl
  have h2 : collected.port = recorded.port := by
    unfold collected
    split
    · exact port_toRegion ..
    · split
      · exact port_dupUp ..
      · extract_lets merged
        split <;> rfl
  have h3 : (collected.prt p).linkUp = (s.prt p).linkUp := by rw [State.prt, State.prt, h2, h1]
  split
  · exact (linkUp_chipFatal ..).trans h3
  · exact h3

/-! ### The relation -/

/-- t, with the work of the channels, commands and rings taken from s. -/
def State.unworked (t s : State) : State :=
  { t with dch := s.dch, eng := s.eng, dtu.pri := s.dtu.pri, cmds := s.cmds, sched := s.sched, rebuilds := s.rebuilds, pool := s.pool, cr := s.cr, reng := s.reng,
           purge := s.purge }

/-- t, with what a halt may change taken from s. -/
def State.unhalted (t s : State) : State := (t.unreacted s).unworked s

/-- From s to t only what a halt may change has changed; a quiet one reports nothing. -/
structure Halted (quiet : Bool) (s t : State) : Prop where
  rest : t.unhalted s = s
  link : ∀ p, (t.prt p).linkUp = (s.prt p).linkUp
  faults : quiet = true → t.fc = s.fc ∧ t.rf FC_STATUS_FATAL = s.rf FC_STATUS_FATAL

namespace Halted

variable {quiet : Bool}

theorem refl (s : State) : Halted quiet s s := ⟨rfl, fun _ => rfl, fun _ => ⟨rfl, rfl⟩⟩

theorem trans {s t u : State} (h : Halted quiet s t) (k : Halted quiet t u) : Halted quiet s u :=
  ⟨(congrArg (·.unhalted s) k.rest).trans h.rest, fun p => (k.link p).trans (h.link p),
    fun q => ⟨(k.faults q).1.trans (h.faults q).1, (k.faults q).2.trans (h.faults q).2⟩⟩

theorem ite {s t u : State} {c : Prop} [Decidable c] (ht : Halted quiet s t) (hu : Halted quiet s u) : Halted quiet s (if c then t else u) := by
  split <;> assumption

theorem foldl {β : Type} {g : State → β → State} (hg : ∀ t b, Halted quiet t (g t b)) (l : List β) (s : State) : Halted quiet s (l.foldl g s) :=
  List.foldlRecOn (motive := Halted quiet s) l g (refl s) fun t ht b _ => ht.trans (hg t b)

/-- A part outside the ports, the registers and the collectors is changed. -/
theorem of_rest {s t : State} (rest : t.unhalted s = s) (port : t.port = s.port) (fc : t.fc = s.fc) (regs : t.regs = s.regs) : Halted quiet s t :=
  ⟨rest, fun p => by rw [State.prt, State.prt, port], fun _ => ⟨fc, by rw [State.rf, State.rf, regs]⟩⟩

/-- A register of a unit beyond the fault collectors is written. -/
theorem wf {f : Fld} (beyond : 0x20000 ≤ f.base) (s : State) (v i j : Nat) : Halted quiet s (s.wf f v i j) :=
  ⟨rfl, fun _ => rfl, fun _ => ⟨rfl, rf_wf_ne _ _ _ _ _ _ _ _ (by
    have : 0x20000 * 32 ≤ f.key i j := by rw [Fld.key]; omega
    have : FC_STATUS_FATAL.key 0 0 < 0x20000 * 32 := by decide
    omega)⟩⟩

theorem modPrt (s : State) (q : Nat) {f : Port → Port} (link : (f (s.prt q)).linkUp = (s.prt q).linkUp) : Halted quiet s (s.modPrt q f) :=
  ⟨rfl, fun p => by
    by_cases same : p = q
    · rw [same, prt_modPrt_same, link]
    · rw [prt_modPrt_ne _ _ _ _ same], fun _ => ⟨rfl, rfl⟩⟩

theorem modEn (s : State) (e : Nat) (f : Engine → Engine) : Halted quiet s (s.modEn e f) := of_rest rfl rfl rfl rfl

theorem modDc (s : State) (id : Nat) (f : DmaCh → DmaCh) : Halted quiet s (s.modDc id f) := of_rest rfl rfl rfl rfl

theorem modCmd (s : State) (stamp : Nat) (f : Cmd → Cmd) : Halted quiet s (s.modCmd stamp f) := of_rest rfl rfl rfl rfl

theorem modSr (s : State) (n : Nat) (f : SubRing → SubRing) : Halted quiet s (s.modSr n f) := of_rest rfl rfl rfl rfl

theorem modCr (s : State) (n : Nat) (f : CompRing → CompRing) : Halted quiet s (s.modCr n f) := of_rest rfl rfl rfl rfl

theorem modCq (s : State) (q i : Nat) (f : NvCq → NvCq) : Halted quiet s (s.modCq q i f) := modPrt s q rfl

theorem modPool (s : State) (p : Nat) (f : Pool → Pool) : Halted quiet s (s.modPool p f) := of_rest rfl rfl rfl rfl

theorem report (s : State) (src cell detail : Nat) : Halted false s (s.report src cell detail) :=
  ⟨congrArg (·.unworked s) (reacted_report s src cell detail).rest, fun p => linkUp_reportBy .., fun h => absurd h (by decide)⟩

theorem loud {s t : State} (h : Halted quiet s t) : Halted false s t := ⟨h.rest, h.link, fun h => absurd h (by decide)⟩

/-- A part of the state outside is as it was. -/
theorem part {s t : State} (h : Halted quiet s t) {α : Type} {p : State → α} (outside : p (t.unhalted s) = p t) : p t = p s :=
  outside.symm.trans (congrArg p h.rest)

theorem purge (s : State) (p : Option (Nat × Nat)) : Halted quiet s { s with purge := p } := of_rest rfl rfl rfl rfl

section
variable {s t : State} (h : Halted quiet s t)
include h

theorem atc : t.dtu.atc = s.dtu.atc := h.part (p := fun u => u.dtu.atc) rfl
theorem resv : t.resv = s.resv := h.part (p := State.resv) rfl
theorem mem : t.mem = s.mem := h.part (p := State.mem) rfl
theorem dirty : t.dirty = s.dirty := h.part (p := State.dirty) rfl

end

end Halted

/-! ### Descriptors (R335, R341) -/

section
variable {quiet : Bool}

theorem halted_setCh (s : State) (id st : Nat) : Halted quiet s (s.setCh id st) := .wf (by decide) ..

theorem halted_setPtr (s : State) {ix lap : Fld} (hix : 0x20000 ≤ ix.base) (hlap : 0x20000 ≤ lap.base) (id log2 v : Nat) : Halted quiet s (s.setPtr ix lap id log2 v) :=
  (Halted.wf hix ..).trans (.wf hlap ..)

theorem halted_chEnter (s : State) (id : Nat) : Halted quiet s (s.chEnter id) := by
  unfold State.chEnter
  extract_lets e
  exact .ite (.refl s) (.ite (halted_setCh ..) (.ite (halted_setCh ..) ((Halted.modEn ..).trans (halted_setCh ..))))

theorem halted_descEnd (s : State) (id : Nat) (r : RunDesc) : Halted quiet s (s.descEnd id r) := by
  unfold State.descEnd
  extract_lets e left moved freed _ told _ kept idle
  have h1 : Halted quiet s left := .modDc ..
  have h2 : Halted quiet left moved := halted_setPtr _ (by decide) (by decide) ..
  have h3 : Halted quiet moved kept := .of_rest rfl rfl rfl rfl
  have h4 : Halted quiet kept idle := .ite (.refl kept) (halted_setCh ..)
  exact (((h1.trans h2).trans h3).trans h4).trans (halted_chEnter ..)

theorem halted_descAbort (s : State) (id ix : Nat) : Halted quiet s (s.descAbort id ix).1 := by
  unfold State.descAbort
  extract_lets c
  split
  · exact .modDc ..
  · split
    · split
      · exact halted_descEnd ..
      · split
        · exact .modDc ..
        · exact .refl s
    · split
      · exact .modDc ..
      · exact .refl s

theorem halted_abortDescs (s : State) (stamp : Nat) : Halted quiet s (s.abortDescs stamp) :=
  .foldl (fun t (c : Nat × DmaCh) => .foldl (fun u (d : Desc) => halted_descAbort u c.1 d.index) _ t) _ s

/-! ### Commands (R392) -/

theorem halted_sqEvent (s : State) (n e : Nat) : Halted quiet s (s.sqEvent n e) := .ite (.wf (by decide) ..) (.wf (by decide) ..)

theorem halted_abortSectors (s : State) (stamp : Nat) : Halted quiet s (s.abortSectors stamp) := by
  unfold State.abortSectors
  extract_lets mine dropped
  have h1 : Halted quiet s dropped := .of_rest rfl rfl rfl rfl
  refine h1.trans (.foldl (fun t n => ?_) _ dropped)
  have marked (f : ChanSt → ChanSt) : Halted quiet t (t.modCh n f) := .of_rest rfl rfl rfl rfl
  exact .ite (.refl t) ((marked _).trans (.ite (halted_sqEvent ..) (.refl _)))

theorem halted_returnReserved (s : State) (c : Cmd) : Halted quiet s (s.returnReserved c) :=
  .ite (.refl s) ((Halted.modPool ..).trans (.ite (.modPool ..) (.refl _)))

theorem halted_abortCmd (s : State) (c : Cmd) : Halted quiet s (s.abortCmd c) :=
  (((Halted.modCmd ..).trans (halted_abortDescs ..)).trans (halted_abortSectors ..)).trans (halted_returnReserved ..)

theorem halted_discardCmds (s : State) (p : Nat) : Halted quiet s (s.discardCmds p) :=
  .foldl (fun t c => (halted_abortCmd t c).trans ((Halted.modCmd ..).trans (.ite (.modCr ..) (.modCq ..)))) _ s

theorem halted_turnEnd (s : State) (p : Nat) : Halted quiet s (s.turnEnd p) := by
  unfold State.turnEnd
  split
  · exact .ite (.of_rest rfl rfl rfl rfl) (.refl s)
  · exact .refl s

theorem halted_priDrop (s : State) (w : PriWho) : Halted quiet s (s.priDrop w) := .of_rest rfl rfl rfl rfl

/-! ### Freezes (R386) and failed waiters (R346) -/

theorem halted_ctrlFatal (s : State) (q : Nat) : Halted quiet s (s.ctrlFatal q) :=
  (Halted.modPrt s q (f := fun p => { p with cfs := true, frozen := true }) rfl).trans (.foldl (fun t i => halted_discardCmds t (nvPart q i)) _ _)

end

theorem halted_freezeRing (s : State) (n code detail cid : Nat) : Halted false s (s.freezeRing n code detail cid) :=
  .ite ((((Halted.modSr ..).trans (halted_priDrop ..)).trans (halted_turnEnd ..)).trans ((Halted.wf (f := RE_COUNT_FREEZES) (by decide) ..).trans (.report ..))) (.refl s)

theorem halted_freezeCr (s : State) (c code : Nat) : Halted false s (s.freezeCr c code) := by
  unfold State.freezeCr
  extract_lets r st frozen told
  have h1 : Halted false s frozen := .modCr ..
  have h2 : Halted false frozen told := ((halted_priDrop ..).trans (.wf (f := RE_COUNT_FREEZES) (by decide) ..)).trans (.report ..)
  exact .ite (.refl s) ((h1.trans h2).trans (.foldl (fun t (p : Nat × SubRing) => halted_freezeRing t p.1 0x09 0 0) _ _))

theorem halted_pageBad (s : State) (src : Nat) (w : PriWho) : Halted false s (s.pageBad src w) := by
  cases w with
  | chan id =>
    simp only [State.pageBad, State.priFail]
    split
    · exact .ite (halted_descEnd ..) (.refl s)
    · exact .refl s
  | fetch n => exact .ite (halted_freezeRing ..) (.refl s)
  | release n => exact (Halted.modSr ..).trans (halted_freezeRing ..)
  | comp c => exact .ite ((Halted.modCr ..).trans (halted_freezeCr ..)) (halted_ctrlFatal ..)

end Sys2Proof.Machine
end

section
/-! Doorbells of the NVMe queues, the enabling of a controller and the resets of a port (R354, R360, R365, R383, R488). -/

namespace Sys2Proof.Machine
open Sys2Proof

/-! ### Doorbells (R360, R383) -/

section
variable {s : State} {q i v : Nat}

theorem sqDoorbell_of_inside (enabled : (s.prt q).en = true) (inside : v % 65536 < (s.nvSq q i).size) :
    s.sqDoorbell q i v = s.modSq q i (fun y => { y with tail := v % 65536 }) :=
  if_pos (by simp [enabled, inside]; omega)

theorem sqDoorbell_of_ignored (ignored : (s.prt q).en = false ∨ (s.nvSq q i).size ≤ v % 65536) : s.sqDoorbell q i v = s :=
  if_neg (by rcases ignored with h | h <;> simp [h])

theorem cqDoorbell_of_ignored (ignored : (s.prt q).en = false ∨ (s.nvCq q i).size ≤ v % 65536) : s.cqDoorbell q i v = s :=
  if_pos (by rcases ignored with h | h <;> simp [h])

theorem nvCq_modCq_same (s : State) (q i : Nat) (f : NvCq → NvCq) : (s.modCq q i f).nvCq q i = f (s.nvCq q i) := by
  rw [State.nvCq, State.modCq, prt_modPrt_same]
  simp only [tabMod, tabGet_tabSet_same]
  rfl

theorem cqDrain_of_empty (empty : (s.nvCq q i).holdback = []) (k : Nat) : State.cqDrain k s q i = s := by
  cases k with
  | zero => rfl
  | succ k => simp only [State.cqDrain, empty]

theorem cqDoorbell_of_freed {n : Nat} (enabled : (s.prt q).en = true) (empty : (s.nvCq q i).holdback = []) (inside : v % 65536 < (s.nvCq q i).size)
    (freed : n = ((s.nvCq q i).size + v % 65536 - (s.nvCq q i).head % (s.nvCq q i).size) % (s.nvCq q i).size) (moves : n ≠ 0) (written : n ≤ (s.nvCq q i).used) :
    s.cqDoorbell q i v = s.modCq q i (fun y => { y with head := (y.head + n) % (2 * y.size), credits := y.credits - n }) := by
  have taken : ¬ (!(s.prt q).en || (s.nvCq q i).size == 0 || decide ((s.nvCq q i).size ≤ v % 65536)) = true := by
    simp [enabled, inside]
    omega
  have some_freed : ¬ (((s.nvCq q i).size + v % 65536 - (s.nvCq q i).head % (s.nvCq q i).size) % (s.nvCq q i).size = 0 ∧ (s.nvCq q i).used = (s.nvCq q i).size) :=
    fun h => moves (freed.trans h.1)
  simp only [State.cqDoorbell]
  rw [if_neg taken, if_neg some_freed, ← freed, if_neg (by omega)]
  exact cqDrain_of_empty (by rw [nvCq_modCq_same]; exact empty) 128

end

/-! ### Enabling a controller (R488, R514) -/

section
variable {s : State} {q asq acq asqs acqs : Nat} {w : Bool}

/-- The controller is enabled with its two admin queues. -/
def enabledPort (asq acq asqs acqs : Nat) (w : Bool) (p : Port) : Port :=
  { p with en := true, rdy := true, sq := [(0, { NvSq.none with base := asq, size := asqs + 1 })], cq := [(0, { NvCq.none with base := acq, size := acqs + 1 })],
           feat := tabSet p.feat 0x100 w.toNat }

theorem ctrlEnable_of_ready (linked : (s.prt q).linkUp = true) (disabled : (s.prt q).en = false) (sound : (s.prt q).cfs = false) (started : 8 ≤ s.pwr.startStep)
    (some_sq : asqs ≠ 0) (some_cq : acqs ≠ 0) : s.ctrlEnable q asq acq asqs acqs w = s.modPrt q (enabledPort asq acq asqs acqs w) :=
  if_pos (by simp [linked, disabled, sound, started, some_sq, some_cq])

theorem ctrlEnable_of_ignored (ignored : (s.prt q).linkUp = false ∨ (s.prt q).en = true) : s.ctrlEnable q asq acq asqs acqs w = s :=
  if_neg (by rcases ignored with h | h <;> simp [h])

theorem enabled_modPrt : let t := s.modPrt q (enabledPort asq acq asqs acqs w)
    (t.prt q).en = true ∧ (t.prt q).rdy = true ∧ t.nvSq q 0 = { NvSq.none with base := asq, size := asqs + 1 } ∧ t.nvCq q 0 = { NvCq.none with base := acq, size := acqs + 1 }
      ∧ t.wrr q = w ∧ ∀ p, p ≠ q → t.prt p = s.prt p := by
  refine ⟨?_, ?_, ?_, ?_, ?_, fun p other => prt_modPrt_ne _ _ _ _ other⟩
  · rw [prt_modPrt_same]; rfl
  · rw [prt_modPrt_same]; rfl
  · rw [State.nvSq, prt_modPrt_same]; rfl
  · rw [State.nvCq, prt_modPrt_same]; rfl
  · rw [State.wrr, State.feature, prt_modPrt_same]
    simp only [enabledPort, tabGet_tabSet_same]
    cases w <;> rfl

end

/-! ### Resets (R354, R365) -/

/-- The controller's queues and what waits in them are gone. -/
def resetCtrl (fatal : Bool) (x : Port) : Port := { x with en := false, rdy := false, cfs := fatal, frozen := fatal, sq := [], cq := [], feat := [], aer := [] }

theorem ctrlReset_eq (s : State) (q : Nat) : ∃ t : State, Halted true s t ∧ s.ctrlReset q = t.modPrt q (resetCtrl (s.rb FC_STATUS_FATAL)) := by
  unfold State.ctrlReset
  extract_lets discarded dropped purged fatal
  have h1 : Halted true s discarded := .foldl (fun t i => (halted_discardCmds t (nvPart q i)).trans (halted_turnEnd ..)) _ s
  have h2 : Halted true discarded dropped := .foldl (fun t i => halted_priDrop t (.comp (nvComp q i))) _ _
  have h3 : Halted true s purged := (h1.trans h2).trans (.purge ..)
  have same : fatal = s.rb FC_STATUS_FATAL := congrArg (· == 1) (h3.faults rfl).2
  exact ⟨purged, h3, by rw [same]; rfl⟩

/-- A port's configuration is forgotten; its reset pin, link, failure and error log stay. -/
def resetPort (x : Port) : Port := { Port.reset with perst := x.perst, linkUp := x.linkUp, cfs := x.cfs, frozen := x.frozen, errLog := x.errLog }

/-- What a port's reset leaves: its link, nothing translated for it, and the reservations and memory. -/
theorem portReset_eq (s : State) (q : Nat) : ∃ t : State, s.portReset q = t.modPrt q resetPort ∧ (t.prt q).linkUp = (s.prt q).linkUp
    ∧ (∀ x, x ∈ t.dtu.atc → x.2.port ≠ q) ∧ t.resv = s.resv ∧ t.mem = s.mem := by
  obtain ⟨u, halted, reset⟩ := ctrlReset_eq s q
  unfold State.portReset
  extract_lets ctrl mine frozen lost _ forgotten failed
  have h1 : Halted false s ctrl := by
    unfold ctrl
    rw [reset]
    exact halted.loud.trans (.modPrt _ _ rfl)
  have h2 : Halted false ctrl frozen := .foldl (fun t n => (halted_freezeRing t n 0x0B 0 0).trans (halted_discardCmds ..)) _ _
  have h3 : Halted false forgotten failed := .foldl (fun t (x : PageReq) => .foldl (fun u w => halted_pageBad u 9 w) _ t) _ _
  have h4 := h1.trans h2
  have none_left : ∀ x ∈ forgotten.dtu.atc, x.2.port ≠ q := fun x hx => bne_iff_ne.1 (List.mem_filter.1 hx).2
  have kept : forgotten.prt q = frozen.prt q ∧ forgotten.resv = frozen.resv ∧ forgotten.mem = frozen.mem := ⟨rfl, rfl, rfl⟩
  obtain ⟨ports, resv, mem⟩ := kept
  refine ⟨failed, rfl, ?_, ?_, ?_, ?_⟩
  · rw [h3.link, ports, h4.link]
  · rw [h3.atc]
    exact none_left
  · rw [h3.resv, resv, h4.resv]
  · rw [h3.mem, mem, h4.mem]

/-! ### The statement -/

/-- Settles O39: each doorbell and reset by what it leaves. -/
theorem nvmeQueuesAndPortResets : Obligations.NvmeQueuesAndPortResets := by
  intro s q
  refine ⟨fun i v enabled inside => next_eq (sqDoorbell_of_inside enabled inside), fun i v ignored => next_eq (sqDoorbell_of_ignored ignored), ?freed,
    fun i v ignored => next_eq (cqDoorbell_of_ignored ignored), ?enable, fun a c m n w ignored => next_eq (ctrlEnable_of_ignored ignored), ?reset, ?function, ?down⟩
  case freed =>
    intro i v c n enabled held empty inside _ freed moves written
    subst held
    exact next_eq (cqDoorbell_of_freed enabled empty inside freed moves written)
  case enable =>
    intro a c m n w linked disabled sound started some_sq some_cq
    exact ⟨_, next_eq (ctrlEnable_of_ready linked disabled sound started some_sq some_cq), enabled_modPrt⟩
  case reset =>
    obtain ⟨t, halted, reset⟩ := ctrlReset_eq s q.val
    refine ⟨_, next_eq reset, ?_⟩
    rw [prt_modPrt_same]
    exact ⟨rfl, rfl, rfl, rfl, rfl, rfl, halted.resv, halted.mem, halted.dirty, (halted.faults rfl).1⟩
  case function =>
    obtain ⟨t, reset, link, atc, resv, mem⟩ := portReset_eq s q.val
    refine ⟨_, next_eq reset, ?_⟩
    rw [prt_modPrt_same]
    exact ⟨rfl, rfl, rfl, rfl, rfl, link, atc, resv, mem⟩
  case down =>
    obtain ⟨t, reset, link, atc, resv, mem⟩ := portReset_eq s q.val
    refine ⟨_, next_eq (congrArg (fun u : State => u.modPrt q.val (fun x => { x with linkUp := false })) reset), ?_⟩
    rw [prt_modPrt_same, prt_modPrt_same]
    exact ⟨rfl, rfl, rfl, rfl, resv, mem⟩

end Sys2Proof.Machine
end

section
/-! Ring entries: what is fetched, prefetched, released, completed and installed (R370 to R391). -/

namespace Sys2Proof.Machine
open Sys2Proof

/-! ### The opcode that a parsed entry carries (R370) -/

theorem opcode_parseMove {bs : List Byte} {e : Entry} (parsed : parseMove bs = some e) : e.opcode = byteOf bs 0 := by
  unfold parseMove at parsed
  extract_lets h at parsed
  split at parsed
  · cases parsed
  · split at parsed
    · split at parsed
      · exact congrArg Entry.opcode (Option.some.inj parsed).symm
      · cases parsed
    · cases parsed

theorem opcode_parseObject {bs : List Byte} {e : Entry} (parsed : parseObject bs = some e) : e.opcode = byteOf bs 0 := by
  unfold parseObject at parsed
  extract_lets h op space klen ofl vlen ku n at parsed
  split at parsed
  · cases parsed
  · split at parsed
    · cases parsed
    · extract_lets fits at parsed
      split at parsed
      · exact congrArg Entry.opcode (Option.some.inj parsed).symm
      · cases parsed

theorem opcode_parseEntry {bs : List Byte} {e : Entry} (parsed : parseEntry bs = some e) : e.opcode = byteOf bs 0 := by
  have own {c : Prop} [Decidable c] (h : (if c then some (entryHead bs) else none) = some e) : e.opcode = byteOf bs 0 := by
    split at h
    · exact congrArg Entry.opcode (Option.some.inj h).symm
    · cases h
  unfold parseEntry at parsed
  extract_lets h at parsed
  split at parsed
  · cases parsed
  · split at parsed
    · exact own parsed
    · exact opcode_parseMove parsed
    · exact opcode_parseMove parsed
    · exact own parsed
    · split at parsed
      · obtain ⟨c, -, built⟩ := Option.map_eq_some_iff.1 parsed
        exact congrArg Entry.opcode built.symm
      · cases parsed
    · split at parsed
      · exact congrArg Entry.opcode (Option.some.inj parsed).symm
      · cases parsed
    · exact opcode_parseObject parsed
    · exact opcode_parseObject parsed
    · exact opcode_parseObject parsed
    · exact opcode_parseObject parsed
    · cases parsed

/-! ### Fetching (R372, R381, R386) -/

/-- The ring without the copy of the entry at its head. -/
def State.headFresh (t : State) (n : Nat) : State := { t with sr := tabMod .free t.sr n (fun r => { r with copies := r.copies.filter (fun c => c.1 != r.head) }) }

theorem sring_headFresh (t : State) (n : Nat) : (t.headFresh n).sring n = { t.sring n with copies := (t.sring n).copies.filter (fun c => c.1 != (t.sring n).head) } :=
  sring_modSr_same t n (fun r => { r with copies := r.copies.filter (fun c => c.1 != r.head) })

theorem tabFind_filter_self {α : Type} (l : Tab α) (k : Nat) : tabFind (l.filter (fun c => c.1 != k)) k = none := by
  induction l with
  | nil => rfl
  | cons c r ih =>
    rw [List.filter_cons]
    split
    · next other => rw [tabFind, if_neg (bne_iff_ne.1 other), ih]
    · exact ih

section
variable {s t : State} {n : Nat}

/-- Without a copy of the entry at the head, the host's answer decides. -/
theorem fetchEntry_entry (open_ : attrPasid (t.sring n).attr = none) (fresh : tabFind (t.sring n).copies (t.sring n).head = none) (bs : List Byte) :
    t.fetchEntry n (.entry bs) = t.entryTake n bs := by simp [State.fetchEntry, open_, fresh]

theorem fetchEntry_fault (open_ : attrPasid (t.sring n).attr = none) (fresh : tabFind (t.sring n).copies (t.sring n).head = none) :
    t.fetchEntry n .fault = t.entryFrozen n 0x07 0 0 := by simp [State.fetchEntry, open_, fresh]

theorem fetchEntry_ur (open_ : attrPasid (t.sring n).attr = none) (fresh : tabFind (t.sring n).copies (t.sring n).head = none) :
    t.fetchEntry n .ur = t.entryFrozen n 0x06 2 0 := by simp [State.fetchEntry, open_, fresh]

theorem fetchEntry_poisoned (open_ : attrPasid (t.sring n).attr = none) (fresh : tabFind (t.sring n).copies (t.sring n).head = none) :
    t.fetchEntry n .poisoned = t.entryFrozen n 0x06 5 0 := by simp [State.fetchEntry, open_, fresh]

/-- An entry written out, of the ring that holds the turn, is taken. -/
theorem ringEntry_of_turn {units : Nat} (turn : s.nextTurn = some (t, n)) (fits : units ≤ 16) (open_ : attrPasid ((t.headFresh n).sring n).attr = none) (bs : List Byte) :
    s.ringEntry n units bs = (t.headFresh n).entryTake n bs := by
  have fresh : tabFind ((t.headFresh n).sring n).copies ((t.headFresh n).sring n).head = none := by
    rw [sring_headFresh]
    exact tabFind_filter_self ..
  have taken := fetchEntry_entry open_ fresh bs
  simp only [State.ringEntry, turn, fits, and_self, if_true]
  exact taken

theorem fetch_of_turn (turn : s.nextTurn = some (t, n)) (ring : n < nSR) (a : FetchAns) : s.fetch a = t.fetchEntry n a := by
  simp only [State.fetch, turn]
  exact if_pos ring

theorem entryTake_of_unowned {bs : List Byte} (unowned : entryOwn bs = false) : s.entryTake n bs = s.entryFrozen n 0x04 0 (fieldAt bs 4 4) :=
  if_pos (by simp [unowned])

/-- A command that parses, is covered and fits is claimed and passed, or where a claim fails stays. -/
theorem entryTake_of_command {bs : List Byte} {e : Entry} (own : entryOwn bs = true) (parsed : parseEntry bs = some e) (command : byteOf bs 0 ≠ 0)
    (covered : entryUnits bs ≤ (s.sring n).covered) (fits : (s.sring n).head + entryUnits bs ≤ (s.sring n).n) {x : State} {b : Bool}
    (admitted : s.admitCmd (s.ringCmd n e) (s.nsidOk e) (s.hostOf (attrPort (s.sring n).attr)) = (x, b)) :
    s.entryTake n bs = if b then ((x.modCr (s.sring n).cr (fun c => { c with credits := c.credits + 1 })).passEntry n (entryUnits bs) (entryUnits bs - 1)).turnCount n else x := by
  have other : e.opcode ≠ 0 := opcode_parseEntry parsed ▸ command
  simp only [State.entryTake, own, parsed, admitted, Bool.not_true, Bool.false_eq_true, if_false, Nat.not_lt.2 covered, Nat.not_lt.2 fits, other]

/-- A PAD is passed where it ends at the ring's end. -/
theorem entryTake_of_pad {units : Nat} (h1 : 1 ≤ units) (h15 : units ≤ 15) (covered : units ≤ (s.sring n).covered) (fits : (s.sring n).head + units ≤ (s.sring n).n) :
    s.entryTake n (entryBytes 0 units false 0 0 0 []) = if (s.sring n).head + units = (s.sring n).n then s.passEntry n units (units - 1) else s.entryFrozen n 0x03 0 0 := by
  simp only [State.entryTake, entryOwn_entryBytes _ _ (show units ≤ 16 by omega), entryUnits_entryBytes _ _ h1 (show units ≤ 16 by omega),
    parseEntry_pad h1 h15, fieldAt_entryBytes_cid, Bool.not_true, Bool.false_eq_true, if_false, Nat.not_lt.2 covered, Nat.not_lt.2 fits, if_true, Nat.zero_mod]

/-! ### Prefetches and releases (R374, R384) -/

theorem prefetch_of_ineligible (ineligible : s.srEligible n = false) (u : Nat) (a : FetchAns) : s.prefetch n u a = s := if_pos (by simp [ineligible])

theorem prefetch_of_covered {u : Nat} (eligible : s.srEligible n = true) (inside : u < (s.sring n).n)
    (covered : ((s.sring n).n + u - (s.sring n).head) % (s.sring n).n < (s.sring n).covered) (bs : List Byte) :
    s.prefetch n u (.entry bs) = (s.modSr n (fun x => { x with copies := tabSet x.copies u bs })).prefetchRoom := by
  simp [State.prefetch, eligible, Nat.not_le.2 inside, Nat.not_le.2 covered]

theorem releaseWrite_of_none (none_passed : (s.sring n).release = []) (a : WrAns) : s.releaseWrite n a = s := by simp only [State.releaseWrite, none_passed]

theorem releaseWrite_ok {x : Nat} {r : List Nat} (oldest : (s.sring n).release = x :: r) (free : (s.sring n).held = false) :
    s.releaseWrite n .ok = (s.modSr n (fun y => { y with release := r })).emit
      (.hostWrite (attrPort (s.sring n).attr) ((s.sring n).base + 16 * (x / 16) + 1) (leBytes 1 (x % 16))) := by
  simp [State.releaseWrite, oldest, free]

theorem releaseWrite_fault {x : Nat} {r : List Nat} (oldest : (s.sring n).release = x :: r) (free : (s.sring n).held = false) :
    s.releaseWrite n .fault = s.freezeRing n 0x08 0 0 := by
  simp [State.releaseWrite, oldest, free]

end

/-! ### Completions and installs (R379, R383, R385) -/

section
variable {s : State} {stamp : Nat} {c : Cmd}

theorem commandFinish_of_absent (absent : s.cmd stamp = none) (a : WrAns) : s.commandFinish stamp a = s := by simp only [State.commandFinish, absent]

theorem commandFinish_of_ring (held : s.cmd stamp = some c) (ring : c.origin < nSR) (a : WrAns) :
    s.commandFinish stamp a = if !s.cmdDone c then s else if !s.crTakes (s.sring c.origin).cr then s else ((s.cmdResult c).1.crPut (s.sring c.origin).cr
      { cid := c.cid, ring := c.origin, result := (s.cmdResult c).2, status := c.status, detail := if c.status = 6 then c.detail else 0, late := c.late } a).cmdFree c := by
  have named : c.origin ≠ 2 ^ 32 := by
    rw [nSR] at ring
    omega
  simp only [State.commandFinish, held, named, ring, if_true, if_false]

theorem sectorInstall_of_absent (absent : s.cmd stamp = none) (i : Nat) : s.sectorInstall stamp i = s := by simp only [State.sectorInstall, absent]

theorem sectorInstall_of_write (held : s.cmd stamp = some c) (sectors : c.obj = none) (write : c.op = .write) (live : c.aborted = false) (i : Nat) :
    s.sectorInstall stamp i = if i < c.count ∧ s.mayInstall c i = true then (s.install c i).objAdvance else s := by
  simp [State.sectorInstall, held, sectors, write, live]

end

section
variable {s : State} {c : Nat}

theorem crPut_of_room (active : (s.cring c).st = 1) (ready : (s.cring c).wait = false) (empty : (s.cring c).holdback = []) (room : (s.cring c).used < (s.cring c).n) (e : CqEnt) :
    s.crPut c e .ok = s.crWrite c e :=
  if_neg (by simp [active, ready, empty, room])

theorem crPut_of_full (full : (s.cring c).n ≤ (s.cring c).used) (e : CqEnt) : s.crPut c e .ok = s.modCr c (fun x => { x with holdback := x.holdback ++ [e] }) :=
  if_pos (.inr (.inr (.inr full)))

end

/-! ### The statement -/

/-- Settles O41: each clause by the lemma of its command. -/
theorem ringEntriesAreFetchedAndFinished : Obligations.RingEntriesAreFetchedAndFinished := by
  intro s n
  refine ⟨?idle, ?turn, fun u a ineligible => next_eq (prefetch_of_ineligible ineligible _ a),
    fun u bs eligible inside covered => next_eq (prefetch_of_covered eligible inside covered bs), fun none_passed a => next_eq (releaseWrite_of_none none_passed a),
    fun x r oldest free => ⟨next_eq (releaseWrite_ok oldest free), next_eq (releaseWrite_fault oldest free)⟩,
    fun k a absent => ⟨next_eq (commandFinish_of_absent absent a), fun i => next_eq (sectorInstall_of_absent absent _)⟩, ?finish,
    fun c e active ready => ⟨fun empty room => crPut_of_room active ready empty room e, fun full => crPut_of_full full e⟩, ?install⟩
  case idle =>
    intro idle a
    exact next_eq (by simp only [State.fetch, idle])
  case turn =>
    intro t w turn fresh open_
    change w = t.headFresh n.toNat at fresh
    subst fresh
    refine ⟨?entries, ?pad, ?failures⟩
    case entries =>
      intro d bs e x b written parsed covered fits admitted
      have formed : ∃ op units fua nsid cid lba rest, op % 256 ≠ 0 ∧ units ≤ 16 ∧ bs = entryBytes op units fua nsid cid lba rest
          ∧ exec d s = .next (s.ringEntry n.toNat units bs) := by
        rcases written with ⟨nsid, cid, lba, k, l, rfl, short, rfl⟩ | ⟨nsid, cid, lba, k, f, l, rfl, short, rfl⟩ | ⟨nsid, cid, rfl, rfl⟩ | ⟨nsid, cid, lba, k, f, rfl, rfl⟩
          | ⟨cid, r, y, rfl, rfl⟩ | ⟨cid, f, p, key, o, v, y, l, short, ⟨rfl, rfl⟩ | ⟨rfl, rfl⟩ | ⟨rfl, rfl, rfl⟩ | ⟨rfl, rfl⟩⟩
        · exact ⟨1, _, _, _, _, _, _, by decide, by omega, by rw [moveEntry, length_operandList], rfl⟩
        · exact ⟨2, _, _, _, _, _, _, by decide, by omega, by rw [moveEntry, length_operandList], rfl⟩
        · exact ⟨3, _, _, _, _, _, _, by decide, by omega, rfl, rfl⟩
        · exact ⟨4, _, _, _, _, _, _, by decide, by omega, rfl, rfl⟩
        · exact ⟨8, _, _, _, _, _, _, by decide, by omega, rfl, rfl⟩
        · exact ⟨0x40, _, _, _, _, _, _, by decide, short, by rw [objectEntry, length_operandList], rfl⟩
        · exact ⟨0x41, _, _, _, _, _, _, by decide, short, by rw [objectEntry, length_operandList], rfl⟩
        · exact ⟨0x42, _, _, _, _, _, _, by decide, short, rfl, rfl⟩
        · exact ⟨0x43, _, _, _, _, _, _, by decide, short, by rw [objectEntry, length_operandList], rfl⟩
      obtain ⟨op, units, fua, nsid, cid, lba, rest, command, short, rfl, runs⟩ := formed
      rw [runs, ringEntry_of_turn turn short open_]
      exact next_eq (entryTake_of_command (entryOwn_entryBytes _ _ short) parsed (by rwa [byteOf_entryBytes_opcode]) covered fits admitted)
    case pad =>
      intro k small covered
      have pads := entryTake_of_pad (s := t.headFresh n.toNat) (n := n.toNat) (units := k.toNat + 1) (by omega) (by omega) covered
      refine ⟨fun ends => next_eq ?_, fun inside => next_eq ?_⟩
      · rw [ringEntry_of_turn turn (by omega) open_, pads (by omega), if_pos ends, Nat.add_sub_cancel]
      · rw [ringEntry_of_turn turn (by omega) open_, pads (by omega), if_neg (by omega)]
    case failures =>
      intro uncopied direct
      have fresh : tabFind (t.sring n.toNat).copies (t.sring n.toNat).head = none := by rw [uncopied]; rfl
      have fetched (a : FetchAns) := fetch_of_turn turn n.isLt a
      refine ⟨next_eq ((fetched _).trans (fetchEntry_fault direct fresh)), next_eq ((fetched _).trans (fetchEntry_ur direct fresh)),
        next_eq ((fetched _).trans (fetchEntry_poisoned direct fresh)), fun bs unowned => next_eq ((fetched _).trans ((fetchEntry_entry direct fresh bs).trans ?_))⟩
      exact entryTake_of_unowned unowned
  case finish =>
    intro k a c held ring
    refine ⟨fun working => next_eq ?_, fun done takes => next_eq ?_⟩
    · rw [commandFinish_of_ring held ring, working]
      rfl
    · rw [commandFinish_of_ring held ring, done, takes]
      rfl
  case install =>
    intro k i c held sectors write live
    refine ⟨fun inside may => next_eq ?_, fun waits => next_eq ?_⟩
    · rw [sectorInstall_of_write held sectors write live, if_pos ⟨inside, may⟩]
    · rw [sectorInstall_of_write held sectors write live, if_neg (by simp [waits])]

end Sys2Proof.Machine
end

section
/-! Doorbells of the rings, the ring operations and the dispatch of sectors (R369, R375 to R379, R386, R388, R393, R394). -/

namespace Sys2Proof.Machine
open Sys2Proof

/-! ### Doorbells (R375, R377 to R379) -/

section
variable {s : State} {n : Nat}

theorem srDoorbell_of_active (active : (s.sring n).st = 1) (tail : Nat) (own : Bool) :
    s.srDoorbell n tail own = if (s.sring n).n ≤ tail then s.freezeRing n 0x05 0 0 else s.modSr n (fun x => { x with tail := tail, full := tail == x.head && own }) :=
  if_pos (.inl active)

theorem srDoorbell_of_free (free : (s.sring n).st = 0) (tail : Nat) (own : Bool) : s.srDoorbell n tail own = { s with dropped := s.dropped + 1 } := by
  simp [State.srDoorbell, free]

end

section
variable {s : State} {c v : Nat}

/-- The value of a completion doorbell is kept. -/
def State.doorKept (s : State) (c v : Nat) : State := { s with crDoor := tabSet s.crDoor c (v % 2 ^ 17) }

theorem crDoorbell_of_free (free : (s.cring c).st = 0) : s.crDoorbell c v = s.doorKept c v := if_pos free

theorem crDoorbell_of_active {h : Nat} (active : (s.cring c).st = 1) (head : h = v % 65536 + v / 65536 % 2 * (s.cring c).n) :
    s.crDoorbell c v = if (s.cring c).n ≤ v % 65536 ∨ (s.cring c).used < (2 * (s.cring c).n + h - (s.cring c).head) % (2 * (s.cring c).n) then (s.doorKept c v).freezeCr c 0x0D
      else State.crDrain 128 ((s.doorKept c v).modCr c
        (fun x => { x with head := h, credits := x.credits - (2 * (s.cring c).n + h - (s.cring c).head) % (2 * (s.cring c).n) })) c := by
  subst head
  exact if_neg (by rw [active]; decide)

theorem crDrain_of_empty (empty : (s.cring c).holdback = []) (k : Nat) : State.crDrain k s c = s := by
  cases k with
  | zero => rfl
  | succ k => simp only [State.crDrain, empty]

end

/-! ### Ring operations (R388, R394) -/

section
variable {s : State} {j : Nat}

theorem rqBad_of_sub (sub : s.rqIsCr j = false) : s.rqBad j = false := by simp [State.rqBad, sub]

theorem rqBad_of_inRange (inRange : s.rqRing j < nCR) : s.rqBad j = false := by simp [State.rqBad, Nat.not_le.2 inRange]

theorem rqCreate_of_used (sub : s.rqIsCr j = false) (used : (s.sring (s.rqRing j)).st ≠ 0) : s.rqCreate j = s.rqDone j 2 := by
  simp [State.rqCreate, rqBad_of_sub sub, sub, used, rqIN_USE]

theorem rqCreate_of_badParam (sub : s.rqIsCr j = false) (free : (s.sring (s.rqRing j)).st = 0) (bad : s.rqParamBad j = true) : s.rqCreate j = s.rqDone j 5 := by
  simp [State.rqCreate, rqBad_of_sub sub, sub, free, bad, rqBAD_PARAM]

theorem rqCreate_of_noCr (sub : s.rqIsCr j = false) (free : (s.sring (s.rqRing j)).st = 0) (good : s.rqParamBad j = false)
    (unbound : (s.cring (s.rf RQ_BIND_TARGET 0 j)).st ≠ 1) : s.rqCreate j = s.rqDone j 6 := by
  simp [State.rqCreate, rqBad_of_sub sub, sub, free, good, unbound, rqNO_CR]

/-- The ring that the staged values of set j describe. -/
def State.stagedRing (s : State) (j : Nat) : SubRing :=
  { SubRing.free with st := 1, base := s.rqBase j, attr := s.rf RQ_ATTR_ATTR 0 j, cr := s.rf RQ_BIND_TARGET 0 j, size := s.rf RQ_CFG_SIZE_LOG2 0 j,
                      pool := s.rf RQ_CFG_POOL 0 j, weight := max 1 (s.rf RQ_CFG_WEIGHT 0 j), burst := s.rf RQ_CFG_BURST 0 j + 1 }

theorem rqCreate_of_bound (sub : s.rqIsCr j = false) (free : (s.sring (s.rqRing j)).st = 0) (good : s.rqParamBad j = false)
    (bound : (s.cring (s.rf RQ_BIND_TARGET 0 j)).st = 1) :
    s.rqCreate j = ({ s with sr := tabSet s.sr (s.rqRing j) (s.stagedRing j) } : State).rqDone j 0 := by
  simp [State.rqCreate, rqBad_of_sub sub, sub, free, good, bound, State.stagedRing, rqOK]

theorem rqDelete_of_free (sub : s.rqIsCr j = false) (free : (s.sring (s.rqRing j)).st = 0) : s.rqDelete j = s.rqDone j 0 := by
  simp [State.rqDelete, rqBad_of_sub sub, sub, free, rqOK]

theorem rqDelete_of_bound (comp : s.rqIsCr j = true) (inRange : s.rqRing j < nCR) (bound : s.sr.any (fun p => p.2.cr == s.rqRing j && p.2.st != 0) = true) :
    s.rqDelete j = s.rqDone j 4 := by
  simp only [State.rqDelete, rqBad_of_inRange inRange, comp, bound, rqBOUND, Bool.false_eq_true, if_false, if_true]

/-- What a restart reads stands apart from the RESTART bit, which it clears first. -/
theorem rf_restart_cleared (s : State) (j : Nat) {f : Fld} (step : f.si = 0 ∧ f.sj = 0x40)
    (other : f.base * 32 + f.lo ≠ RQ_CTRL_RESTART.base * 32 + RQ_CTRL_RESTART.lo) : (s.wb RQ_CTRL_RESTART false 0 j).rf f 0 j = s.rf f 0 j := by
  refine rf_wf_ne _ _ _ _ _ _ _ _ fun same => other ?_
  simp only [Fld.key, step, RQ_CTRL_RESTART] at same ⊢
  omega

theorem rqIsCr_restart_cleared (sub : s.rqIsCr j = false) : (s.wb RQ_CTRL_RESTART false 0 j).rqIsCr j = false := by
  rw [State.rqIsCr, State.rb, rf_restart_cleared s j (by decide) (by decide)]
  exact sub

theorem rqRestart_of_notFrozen (sub : s.rqIsCr j = false) (running : (s.sring (s.rqRing j)).st ≠ 3) (bs : List Byte) :
    s.rqRestart j bs = (s.wb RQ_CTRL_RESTART false 0 j).rqDone j 3 := by
  have kind := rqIsCr_restart_cleared sub
  have ring : ((s.wb RQ_CTRL_RESTART false 0 j).sring (s.rqRing j)).st ≠ 3 := running
  simp only [State.rqRestart, rqBad_of_sub kind, kind, ring, Bool.false_eq_true, if_false, not_false_eq_true, true_or, if_true, ne_eq, rqNOT_FROZEN]

theorem rqRestart_of_frozen (sub : s.rqIsCr j = false) (frozen : (s.sring (s.rqRing j)).st = 3) (own : (s.sring (s.rqRing j)).code ≠ 0x0C)
    (run : s.rb RQ_CTRL_SKIP 0 j = false) (bs : List Byte) : s.rqRestart j bs = ((s.wb RQ_CTRL_RESTART false 0 j).rqActive (s.rqRing j)).rqDone j 0 := by
  have kind := rqIsCr_restart_cleared sub
  have skip : (s.wb RQ_CTRL_RESTART false 0 j).rb RQ_CTRL_SKIP 0 j = false := by
    rw [State.rb, rf_restart_cleared s j (by decide) (by decide)]
    exact run
  have ring : ¬ (((s.wb RQ_CTRL_RESTART false 0 j).sring (s.rqRing j)).st ≠ 3 ∨ ((s.wb RQ_CTRL_RESTART false 0 j).sring (s.rqRing j)).code = 0x0C) :=
    not_or.2 ⟨not_not.2 frozen, own⟩
  simp only [State.rqRestart, rqBad_of_sub kind, kind, skip, Bool.false_eq_true, if_false, Bool.not_false, true_or, if_true, rqOK]
  exact if_neg ring

theorem rqFreeze_sub (sub : s.rqIsCr j = false) : s.rqFreeze j = (s.freezeRing (s.rqRing j) 0x0A 0 0).rqDone j 0 := by
  simp [State.rqFreeze, rqBad_of_sub sub, sub, rqOK]

theorem rqFreeze_comp (comp : s.rqIsCr j = true) (inRange : s.rqRing j < nCR) : s.rqFreeze j = (s.freezeCr (s.rqRing j) 0x0A).rqDone j 0 := by
  simp [State.rqFreeze, rqBad_of_inRange inRange, comp, rqOK]

theorem rqUpdate_of_active (sub : s.rqIsCr j = false) (active : (s.sring (s.rqRing j)).st = 1) (legal : attrPrefetch (s.rf RQ_ATTR_ATTR 0 j) ≤ 8) :
    s.rqUpdate j = (s.modSr (s.rqRing j) (fun r => { r with
      upd := some (max 1 (s.rf RQ_CFG_WEIGHT 0 j), s.rf RQ_CFG_BURST 0 j + 1, attrPrefetch (s.rf RQ_ATTR_ATTR 0 j)) })).rqDone j 0 := by
  simp [State.rqUpdate, rqBad_of_sub sub, sub, active, Nat.not_lt.2 legal, rqOK]

end

/-! ### Freezes (R386, R387) -/

theorem sring_turnEnd (s : State) (p n : Nat) : (s.turnEnd p).sring n = s.sring n ∧ (s.turnEnd p).cmds = s.cmds := by
  unfold State.turnEnd
  split
  · split <;> exact ⟨rfl, rfl⟩
  · exact ⟨rfl, rfl⟩

/-- A ring that freezes with an empty detail. -/
def frozenRing (code stamp : Nat) (x : SubRing) : SubRing :=
  { x with st := 3, code := code, detail := 0, cid := 0, errHead := x.head, errStamp := stamp, copies := [] }

theorem freezeRing_of_active {s : State} {n : Nat} (active : (s.sring n).st = 1) (code : Nat) :
    ∃ u : State, s.freezeRing n code 0 0 = u.report (srcId HST 4 code) n 0 ∧ (u.sring n).st = 3 ∧ (u.sring n).code = code ∧ (u.sring n).errHead = (s.sring n).head
      ∧ (u.sring n).copies = [] ∧ u.cmds = s.cmds := by
  let frozen := s.modSr n (frozenRing code (s.fetchStamp.toNat % 2 ^ 32))
  let told := ((frozen.priDrop (.fetch n)).turnEnd n).cnt RE_COUNT_FREEZES
  have ring : told.sring n = frozenRing code (s.fetchStamp.toNat % 2 ^ 32) (s.sring n) :=
    (sring_turnEnd (frozen.priDrop (.fetch n)) n n).1.trans (sring_modSr_same s n (frozenRing code (s.fetchStamp.toNat % 2 ^ 32)))
  have cmds : told.cmds = s.cmds := (sring_turnEnd (frozen.priDrop (.fetch n)) n n).2
  refine ⟨told, if_pos (.inl active), ?_⟩
  rw [ring]
  exact ⟨rfl, rfl, rfl, rfl, cmds⟩

/-! ### The dispatch of sectors (R393) -/

section
variable {s : State} {a : Nat}

theorem readTwins_of_others (others : ∀ c ∈ s.sched, c.act ≠ a) : s.sched.map (fun c => if c.act = a then s.readTwin c else c) = s.sched :=
  (List.map_congr_left fun c hc => if_neg (others c hc)).trans (List.map_id _)

/-- With nothing to do for the actuator nothing changes. -/
theorem dispatch_of_others (others : ∀ c ∈ s.sched, c.act ≠ a) (x : Nat) : s.dispatch a x = s := by
  unfold State.dispatch
  rw [readTwins_of_others others]
  extract_lets same mine lt here
  have none_mine : mine = [] := List.filter_eq_nil_iff.2 fun c hc => by simp [others c hc]
  have none_here : here.1 = [] := by
    unfold here
    split
    · split
      · rw [none_mine]; rfl
      · rfl
    · rfl
  rw [if_neg (not_not.2 none_here), none_mine]
  exact ite_self _

/-- The one command of an actuator that follows its cylinder goes to its head's FIFO. -/
theorem dispatch_of_one {c : SecCmd} {k : Seek} {n : Nat} (one : s.sched = [c]) (own : c.act = a) (write : c.write = true) (follows : s.act a = 4)
    (seek : (s.sv a).seek = some k) (reach : k.cyl = c.cyl) (mapped : s.headChan a c.head = some n) (usable : s.slotUsable n = true)
    (taken : (k.heads.map Prod.fst).contains c.head = true) (room : (s.ch n).fifo.length < 8) (x : Nat) :
    s.dispatch a x = { (s.modCh n (fun y => { y with fifo := y.fifo ++ [c] })) with sched := [] } := by
  have same : s.sched.map (fun c => if c.act = a then s.readTwin c else c) = s.sched := by
    rw [one]
    simp [own, State.readTwin, write]
  have sent : s.dispatchOne a (k.heads.map Prod.fst) c = { (s.modCh n (fun y => { y with fifo := y.fifo ++ [c] })) with sched := s.sched.erase c } := by
    simp only [State.dispatchOne, mapped, usable, taken, room, Bool.not_true, Bool.false_eq_true, if_false, if_true]
  unfold State.dispatch
  rw [same]
  extract_lets t mine lt here
  have all_mine : mine = [c] := by
    unfold mine t
    rw [one]
    simp [own]
  have all_here : here = ([c], k.heads.map Prod.fst) := by
    unfold here t
    rw [all_mine, seek]
    simp [follows, acFOLLOW, reach]
  rw [all_here, if_pos (List.cons_ne_nil _ _)]
  exact sent.trans (by rw [one, List.erase_cons_head])

end

/-! ### The statement -/

/-- Settles O42: each doorbell, ring operation and dispatch by its case. -/
theorem ringDoorbellsAndControls : Obligations.RingDoorbellsAndControls := by
  intro s
  refine ⟨fun n v b active => ⟨fun inside => next_eq ?tail, fun beyond => next_eq ?beyond⟩, fun n v b free => next_eq (srDoorbell_of_free free _ b),
    fun c v free => next_eq (crDoorbell_of_free free), fun c v h active head => ⟨fun beyond => next_eq ?crBeyond, fun inside empty passed => next_eq ?crPassed⟩,
    fun c => ⟨fun quiet => next_eq (if_neg (by simp [quiet])), fun due => next_eq (if_pos due)⟩, ?ring, fun j comp inRange bound => next_eq (rqDelete_of_bound comp inRange bound),
    fun j comp inRange => next_eq (rqFreeze_comp comp inRange), fun n code active => freezeRing_of_active active code, fun a x others => next_eq (dispatch_of_others others _),
    fun a x c k n one own write follows seek reach mapped usable taken room => next_eq (dispatch_of_one one own write follows seek reach mapped usable taken room _)⟩
  case tail => rw [srDoorbell_of_active active, if_neg (by omega)]
  case beyond => rw [srDoorbell_of_active active, if_pos beyond]
  case crBeyond =>
    rw [crDoorbell_of_active active head, if_pos (.inl beyond)]
    rfl
  case crPassed =>
    rw [crDoorbell_of_active active head, if_neg (by omega)]
    exact crDrain_of_empty (by rw [cring_modCr_same]; exact empty) 128
  case ring =>
    intro j sub
    refine ⟨fun used => next_eq (rqCreate_of_used sub used), fun free bad => next_eq (rqCreate_of_badParam sub free bad),
      fun free good unbound => next_eq (rqCreate_of_noCr sub free good unbound), fun free good bound => ⟨_, next_eq (rqCreate_of_bound sub free good bound), ?_, rfl⟩,
      fun free => next_eq (rqDelete_of_free sub free), fun frozen own run bs => ⟨_, next_eq (rqRestart_of_frozen sub frozen own run bs), ?_⟩,
      fun running bs => next_eq (rqRestart_of_notFrozen sub running bs), next_eq (rqFreeze_sub sub), fun active legal => next_eq (rqUpdate_of_active sub active legal)⟩
    · exact tabGet_tabSet_same ..
    · have ring : (((s.wb RQ_CTRL_RESTART false 0 j).rqActive (s.rqRing j)).rqDone j 0).sring (s.rqRing j)
          = { s.sring (s.rqRing j) with st := 1, code := 0, cid := 0, errHead := 0, detail := 0, errStamp := 0 } :=
        sring_modSr_same (s.wb RQ_CTRL_RESTART false 0 j.val) (s.rqRing j.val) (fun r => { r with st := 1, code := 0, cid := 0, errHead := 0, detail := 0, errStamp := 0 })
      rw [ring]
      exact ⟨rfl, rfl, rfl, rf_wf_same ..⟩

end Sys2Proof.Machine
end

section
/-! The object service: the checks of a command, compaction, the load of the index and the reload of a bucket (R396 to R407). -/

namespace Sys2Proof.Machine
open Sys2Proof

/-! ### Checks at a command's turn (R407) -/

section
variable {s : State} {c : Cmd} {o : ObjCmd}

/-- The command counts as checked. -/
def State.objChecked (s : State) (c : Cmd) : State := s.modObj c.stamp (fun x => { x with checked := true })

theorem objCheck_of_loading (stripes : s.objStripes ≠ 0) (loading : s.obj.loaded = false) : s.objCheck c o = (s.objChecked c).cmdFail c.stamp 0x04 0 := by
  have state : (s.objChecked c).objState ≠ 2 := by
    change (if s.objStripes = 0 then 0 else if s.obj.loaded then 2 else 1) ≠ 2
    rw [if_neg stripes, loading]
    decide
  unfold State.objCheck
  extract_lets t genBad key
  refine (if_pos state).trans ?_
  exact if_neg stripes

theorem objCheck_of_off (off : s.objStripes = 0) : s.objCheck c o = ((s.objChecked c).cmdFail c.stamp 0x04 0).cmdFail c.stamp 0x28 0 := by
  have state : (s.objChecked c).objState ≠ 2 := by
    change (if s.objStripes = 0 then 0 else if s.obj.loaded then 2 else 1) ≠ 2
    rw [if_pos off]
    decide
  unfold State.objCheck
  extract_lets t genBad key
  refine (if_pos state).trans ?_
  exact if_pos off

theorem objCheck_of_denied (ready : s.objState = 2) (denied : s.objDenied c.op o = true) : s.objCheck c o = (s.objChecked c).cmdFail c.stamp 0x27 0 := by
  unfold State.objCheck
  extract_lets t genBad key
  refine (if_neg (not_not.2 (show t.objState = 2 from ready))).trans ?_
  exact if_pos denied

/-- A GET or DELETE of a key not held. -/
theorem objCheck_of_noKey (ready : s.objState = 2) (open_ : s.objDenied c.op o = false) (op : c.op = .get ∨ c.op = .delete)
    (absent : s.keySlot (s.bucketOf o.space o.key) o.space o.key = none) : s.objCheck c o = (s.objChecked c).cmdFail c.stamp 0x20 0 := by
  unfold State.objCheck
  extract_lets t genBad key
  have key_none : key = none := absent
  have allowed : ¬ t.objDenied c.op o = true := by rw [show t.objDenied c.op o = false from open_]; decide
  refine (if_neg (not_not.2 (show t.objState = 2 from ready))).trans ((if_neg allowed).trans ?_)
  rcases op with op | op
  · rw [op, key_none]; rfl
  · rw [op, key_none]; rfl

/-- Its generation is not the one asked for. -/
theorem objCheck_of_otherGen (ready : s.objState = 2) (open_ : s.objDenied c.op o = false) (op : c.op = .get ∨ c.op = .delete) {k : Nat} {v : ObjSlot}
    (held : s.keySlot (s.bucketOf o.space o.key) o.space o.key = some (k, v)) (asks : bitOf o.oflags 1 = true) (differs : v.gen % 2 ^ 32 ≠ o.arg) :
    s.objCheck c o = (s.objChecked c).cmdFail c.stamp 0x22 0 := by
  unfold State.objCheck
  extract_lets t genBad key
  have key_some : key = some (k, v) := held
  have allowed : ¬ t.objDenied c.op o = true := by rw [show t.objDenied c.op o = false from open_]; decide
  have bad : genBad v = true := Bool.and_eq_true_iff.2 ⟨asks, bne_iff_ne.2 differs⟩
  refine (if_neg (not_not.2 (show t.objState = 2 from ready))).trans ((if_neg allowed).trans ?_)
  rcases op with op | op
  · rw [op, key_some]
    exact if_pos bad
  · rw [op, key_some]
    exact if_pos bad

end

/-! ### Compaction (R404) -/

theorem objCompact_of_nothing {s : State} (nothing : s.objState ≠ 2 ∨ s.compactStripe = none) (p : Nat) : s.objCompact p = s := by
  rcases nothing with h | h
  · exact if_pos h
  · simp only [State.objCompact, h, ite_self]

/-- With no command under way every live value of the stripe moves. -/
theorem objCompact_of_stripe {s : State} {k : Nat} (ready : s.objState = 2) (stripe : s.compactStripe = some k) (idle : s.cmds = []) (p : Nat) :
    s.objCompact p = (s.obj.slots.filter (fun x => x.2.extents.any (fun e => (extentParts s.geoD e).any (fun q => q.1 == k)))).foldl
      (fun u x => u.compactMove p (x.1 / 32) x.2) s := by
  simp [State.objCompact, ready, stripe, idle]

/-! ### The load and the reload (R405, R407) -/

theorem objLoad_of_notDue {s : State} (notDue : s.objStripes = 0 ∨ s.obj.loaded = true ∨ s.pwr.startStep < 11) (l : List Nat) : s.objLoad l = s := if_pos notDue

/-- The image of the media where every bucket is good. -/
def State.objLoaded (s : State) : State :=
  { s with obj.slots := s.obj.media, obj.media := s.obj.media, obj.stripes := stripesFrom s.geoD s.obj.media, obj.front := none, obj.pend := [], obj.loaded := true }

theorem objLoad_of_due {s : State} (stripes : s.objStripes ≠ 0) (fresh : s.obj.loaded = false) (due : 11 ≤ s.pwr.startStep) :
    s.objLoad [] = s.objLoaded.objAdvance := by
  have whole : s.obj.media.filter (fun p => !([] : List Nat).contains (p.1 / 32)) = s.obj.media := List.filter_eq_self.2 fun _ _ => rfl
  have asked : ¬ (s.objStripes = 0 ∨ s.obj.loaded = true ∨ s.pwr.startStep < 11) := by simp [stripes, fresh]; omega
  rw [State.objLoad, if_neg asked]
  simp only [whole]
  rfl

theorem tabFind_filter {α : Type} (l : Tab α) (p : Nat → Bool) {k : Nat} (kept : p k = true) : tabFind (l.filter (fun x => p x.1)) k = tabFind l k := by
  induction l with
  | nil => rfl
  | cons x r ih =>
    rw [List.filter_cons]
    by_cases same : x.1 = k
    · rw [if_pos (same ▸ kept), tabFind, tabFind, if_pos same, if_pos same]
    · split
      · rw [tabFind, tabFind, if_neg same, if_neg same, ih]
      · rw [ih, tabFind, if_neg same]

theorem tabFind_foldl_tabSet {α : Type} (l : List (Nat × α)) (t : Tab α) {k : Nat} (apart : ∀ x ∈ l, k ≠ x.1) :
    tabFind (l.foldl (fun t x => tabSet t x.1 x.2) t) k = tabFind t k :=
  List.foldlRecOn (motive := fun u => tabFind u k = tabFind t k) _ _ rfl fun _ same x hx => (tabFind_tabSet_ne _ _ _ _ (apart x hx)).trans same

/-- A bucket from the media, with no change under way, over the other buckets. -/
def reloadedSlots (slots media : Tab ObjSlot) (b : Nat) : Tab ObjSlot :=
  (media.filter (fun p => p.1 / 32 == b)).foldl (fun t p => tabSet t p.1 p.2) (slots.filter (fun p => p.1 / 32 != b))

theorem tabFind_reloadedSlots (slots media : Tab ObjSlot) {b k : Nat} (other : k / 32 ≠ b) : tabFind (reloadedSlots slots media b) k = tabFind slots k := by
  have apart : ∀ x ∈ media.filter (fun p => p.1 / 32 == b), k ≠ x.1 := by
    intro x hx same
    have inside := (List.mem_filter.1 hx).2
    exact other (same ▸ beq_iff_eq.1 inside)
  exact (tabFind_foldl_tabSet _ _ apart).trans (tabFind_filter slots (fun n => n / 32 != b) (bne_iff_ne.2 other))

theorem bucketReload_of_settled {s : State} (settled : s.obj.pend = []) (b : Nat) :
    s.bucketReload b = { s.report (srcId HST 6 33) b b with obj.slots := reloadedSlots s.obj.slots s.obj.media b } := by
  have obj : (s.report (srcId HST 6 33) b b).obj = s.obj := (reacted_report ..).part (p := State.obj) rfl
  have none_due : (s.report (srcId HST 6 33) b b).obj.pend.filter (fun e => e.bucket == b) = [] := by rw [obj, settled]; rfl
  unfold State.bucketReload
  extract_lets t base slots
  rw [none_due]
  have same : slots = reloadedSlots s.obj.slots s.obj.media b := by
    unfold slots base t
    rw [obj]
    rfl
  rw [List.foldl_nil, same]

/-! ### The statement -/

/-- Settles O43: each check, and compaction, load and reload by what they leave. -/
theorem objectsCompactLoadAndReload : Obligations.ObjectsCompactLoadAndReload := by
  intro s
  refine ⟨?checks, fun p nothing => next_eq ?nothing, fun p k free ready stripe idle => next_eq ?moves, fun l notDue => next_eq (objLoad_of_notDue notDue _),
    fun stripes fresh due => ⟨s.objLoaded, next_eq (objLoad_of_due stripes fresh due), rfl, rfl, rfl, ?ready, rfl⟩,
    fun b settled => ⟨_, next_eq (bucketReload_of_settled settled _), fun k other => tabFind_reloadedSlots _ _ other⟩⟩
  case checks =>
    intro c o t checked
    subst checked
    exact ⟨objCheck_of_loading, objCheck_of_off, objCheck_of_denied, fun ready open_ op => ⟨objCheck_of_noKey ready open_ op,
      fun k v held asks differs => objCheck_of_otherGen ready open_ op held asks differs⟩⟩
  case nothing => rw [objCompact_of_nothing nothing, ite_self]
  case moves =>
    rw [free]
    exact objCompact_of_stripe ready stripe idle p.val
  case ready =>
    change (if s.objStripes = 0 then 0 else 2) = 2
    exact if_neg stripes

end Sys2Proof.Machine
end

section
/-! The windows of the control pages (R412 to R415): where an aliasing or a masked word lies, which fields a control page has, and what a write of some
of a register's bits stores. -/

namespace Sys2Proof.Machine
open Sys2Proof

/-! ### Addresses -/

theorem area18_aliasAddr (s : State) {r o b : Nat} (ho : o < 8192) (hb : b < 32) :
    s.area18 (aliasAddr r (4 * o) b) = .bits r (4 * o) b := by
  have above : ¬ aliasAddr r (4 * o) b < 0xA00000 := by unfold aliasAddr; omega
  have beyond : ¬ aliasAddr r (4 * o) b < 0xA50000 := by unfold aliasAddr; omega
  have inside : 0xB00000 ≤ aliasAddr r (4 * o) b := by unfold aliasAddr; omega
  have word : (aliasAddr r (4 * o) b - 0xB00000) / 128 * 4 = r * 0x8000 + 4 * o := by unfold aliasAddr; omega
  have bit : (aliasAddr r (4 * o) b - 0xB00000) / 4 % 32 = b := by unfold aliasAddr; omega
  have page : (r * 0x8000 + 4 * o) / 0x8000 = r := by omega
  have offset : (r * 0x8000 + 4 * o) % 0x8000 = 4 * o := by omega
  simp only [State.area18, above, beyond, inside, if_false, if_true, word, bit, page, offset]

theorem area18_maskedAddr (s : State) {r o h : Nat} (hr : r < 5) (ho : o < 8192) (hh : h < 2) :
    s.area18 (maskedAddr r (4 * o) h) = .masked r (4 * o) h := by
  have above : ¬ maskedAddr r (4 * o) h < 0xA00000 := by unfold maskedAddr; omega
  have inside : maskedAddr r (4 * o) h < 0xA50000 := by unfold maskedAddr; omega
  have word : (maskedAddr r (4 * o) h - 0xA00000) / 8 * 4 = r * 0x8000 + 4 * o := by unfold maskedAddr; omega
  have half : (maskedAddr r (4 * o) h - 0xA00000) / 4 % 2 = h := by unfold maskedAddr; omega
  have page : (r * 0x8000 + 4 * o) / 0x8000 = r := by omega
  have offset : (r * 0x8000 + 4 * o) % 0x8000 = 4 * o := by omega
  simp only [State.area18, above, inside, if_false, if_true, word, half, page, offset]

theorem aliasAddr_aligned (r o b : Nat) : aliasAddr r (4 * o) b % 4 = 0 := by unfold aliasAddr; omega

theorem maskedAddr_aligned (r o h : Nat) : maskedAddr r (4 * o) h % 4 = 0 := by unfold maskedAddr; omega

/-! ### The fields of the control pages (R415) -/

/-- The register found at an address of the window proper lies there. -/
theorem Fld.address_of_at {f : Fld} {a i j : Nat} (h : f.at 0 a = some (i, j)) : a = f.base + i * f.si + j * f.sj ∧ i < f.ni ∧ j < f.nj := by
  by_cases below : a < f.base
  · simp [Fld.at, below] at h
  · simp only [Fld.at, Nat.zero_mul, Nat.add_zero, ite_self, below, if_false, Option.ite_none_right_eq_some, Option.some.injEq, Prod.mk.injEq] at h
    obtain ⟨⟨hi, hj, hr⟩, rfl, rfl⟩ := h
    refine ⟨?_, hi, hj⟩
    by_cases hsi : f.si = 0
    · simp only [hsi, if_true] at hr ⊢
      omega
    · simp only [hsi, if_false] at hr ⊢
      have whole := Nat.div_add_mod' (a - f.base) f.si
      omega

/-- All copies of the field lie in block pages of one region, or beyond the window. -/
def Fld.offControl (f : Fld) : Bool :=
  Nat.ble 0xA00000 f.base
    || (Nat.ble 0x8000 (f.base % 0x200000)
      && Nat.ble (f.base % 0x200000 + (bif Nat.beq f.si 0x1000000 then 0 else (f.ni - 1) * f.si) + (f.nj - 1) * f.sj) 0x1FFFFF)

theorem Fld.at_control_of_offControl {f : Fld} (off : f.offControl = true) {r o : Nat} (hr : r < 5) (ho : o < 0x8000) :
    f.at 0 (r * 0x200000 + o) = none := by
  rcases hat : f.at 0 (r * 0x200000 + o) with _ | ⟨i, j⟩
  · rfl
  obtain ⟨haddr, hi, hj⟩ := Fld.address_of_at hat
  simp only [Fld.offControl, Bool.or_eq_true, Bool.and_eq_true, Nat.ble_eq] at off
  have hjs : j * f.sj ≤ (f.nj - 1) * f.sj := Nat.mul_le_mul_right _ (by omega)
  rcases off with high | ⟨low, span⟩
  · omega
  · by_cases banked : f.si = 0x1000000
    · simp only [banked, show Nat.beq 0x1000000 0x1000000 = true from rfl, cond_true] at span haddr
      have first : i = 0 := by omega
      omega
    · simp only [show Nat.beq f.si 0x1000000 = false from Bool.eq_false_iff.2 fun h => banked (Nat.eq_of_beq_eq_true h), cond_false] at span
      have his : i * f.si ≤ (f.ni - 1) * f.si := Nat.mul_le_mul_right _ (by omega)
      omega

theorem filter_offControl : allFlds.filter (fun f => !f.offControl) = [SYS_MODE_MODE, REGION_WR_EN_REQ, REGION_TRACE_EN] := by decide +kernel

theorem mode_at_control {r o : Nat} (ho : o < 0x8000) :
    SYS_MODE_MODE.at 0 (r * 0x200000 + o) = if r = 0 ∧ o = 0 then some (0, 0) else none := by
  split
  · next h => rw [h.1, h.2]; rfl
  · rcases hat : SYS_MODE_MODE.at 0 (r * 0x200000 + o) with _ | ⟨i, j⟩
    · rfl
    obtain ⟨ha, hi, hj⟩ := Fld.address_of_at hat
    simp only [SYS_MODE_MODE] at ha
    omega

theorem req_at_control {r o : Nat} (hr : r < 5) (ho : o < 0x8000) :
    REGION_WR_EN_REQ.at 0 (r * 0x200000 + o) = if o = 4 then some (r, 0) else none := by
  split
  · next h => subst h; interval_cases r <;> rfl
  · rcases hat : REGION_WR_EN_REQ.at 0 (r * 0x200000 + o) with _ | ⟨i, j⟩
    · rfl
    obtain ⟨ha, hi, hj⟩ := Fld.address_of_at hat
    simp only [REGION_WR_EN_REQ] at ha
    omega

theorem trace_at_control {r o : Nat} (hr : r < 5) (ho : o < 0x8000) :
    REGION_TRACE_EN.at 0 (r * 0x200000 + o) = if o = 8 then some (r, 0) else none := by
  split
  · next h => subst h; interval_cases r <;> rfl
  · rcases hat : REGION_TRACE_EN.at 0 (r * 0x200000 + o) with _ | ⟨i, j⟩
    · rfl
    obtain ⟨ha, hi, hj⟩ := Fld.address_of_at hat
    simp only [REGION_TRACE_EN] at ha
    omega

theorem filterMap_at_control (l : List Fld) {r o : Nat} (hr : r < 5) (ho : o < 0x8000) :
    l.filterMap (fun f => (f.at 0 (r * 0x200000 + o)).map (fun p => (f, p.1, p.2)))
      = (l.filter (fun f => !f.offControl)).filterMap (fun f => (f.at 0 (r * 0x200000 + o)).map (fun p => (f, p.1, p.2))) := by
  rw [List.filterMap_filter]
  refine List.filterMap_congr fun f _ => ?_
  cases off : f.offControl with
  | false => rfl
  | true => rw [Fld.at_control_of_offControl off hr ho]; rfl

theorem fieldsAt_zero (a : Nat) : fieldsAt 0 a = allFlds.filterMap (fun f => (f.at 0 a).map (fun p => (f, p.1, p.2))) :=
  if_neg fun h => absurd h.1 (by decide)

theorem fieldsAt_control {r o a : Nat} (hr : r < 5) (ho : o < 0x8000) (ha : a = r * 0x200000 + o) :
    fieldsAt 0 a = [SYS_MODE_MODE, REGION_WR_EN_REQ, REGION_TRACE_EN].filterMap (fun f => (f.at 0 a).map (fun p => (f, p.1, p.2))) := by
  subst ha
  rw [fieldsAt_zero, filterMap_at_control allFlds hr ho, filter_offControl]

/-- The three fields of the control pages, each where its register lies. -/
theorem controlFields_found {r o a : Nat} (mode : SYS_MODE_MODE.at 0 a = if r = 0 ∧ o = 0 then some (0, 0) else none)
    (req : REGION_WR_EN_REQ.at 0 a = if o = 4 then some (r, 0) else none) (trace : REGION_TRACE_EN.at 0 a = if o = 8 then some (r, 0) else none) :
    [SYS_MODE_MODE, REGION_WR_EN_REQ, REGION_TRACE_EN].filterMap (fun f => (f.at 0 a).map (fun p => (f, p.1, p.2)))
      = if r = 0 ∧ o = 0 then [(SYS_MODE_MODE, 0, 0)] else if o = 4 then [(REGION_WR_EN_REQ, r, 0)] else if o = 8 then [(REGION_TRACE_EN, r, 0)] else [] := by
  simp only [List.filterMap_cons, List.filterMap_nil, mode, req, trace]
  by_cases first : r = 0 ∧ o = 0
  · simp [first]
  · by_cases second : o = 4
    · simp [second]
    · by_cases third : o = 8 <;> simp [first, second, third]

/-- A control page has a register at offsets 4 and 8, and that of region SYS at offset 0; each has one field. -/
theorem ctlFields_eq {r o : Nat} (hr : r < 5) (ho : o < 0x8000) :
    ctlFields r o = if r = 0 ∧ o = 0 then [(SYS_MODE_MODE, 0, 0)] else if o = 4 then [(REGION_WR_EN_REQ, r, 0)] else if o = 8 then [(REGION_TRACE_EN, r, 0)] else [] := by
  rw [← controlFields_found (mode_at_control ho) (req_at_control hr ho) (trace_at_control hr ho), ← fieldsAt_control hr ho rfl]
  rfl

theorem ctlFields_of_mem {r o : Nat} (hr : r < 5) (ho : o < 0x8000) {p : Fld × Nat × Nat} (hp : p ∈ ctlFields r o) : ctlFields r o = [p] := by
  have short : ctlFields r o = [] ∨ ∃ x, ctlFields r o = [x] := by
    rw [ctlFields_eq hr ho]
    split
    · exact .inr ⟨_, rfl⟩
    · split
      · exact .inr ⟨_, rfl⟩
      · split
        · exact .inr ⟨_, rfl⟩
        · exact .inl rfl
  rcases short with none | ⟨x, one⟩
  · rw [none] at hp
    cases hp
  · rw [one] at hp ⊢
    rw [List.mem_singleton.1 hp]

/-! ### The bits a write selects (R7) -/

/-- The value of a field after a write of v under the mask m. -/
def Fld.merged (f : Fld) (old v m : Nat) : Nat :=
  Nat.xor (Nat.land old (Nat.xor (m / 2 ^ f.lo % 2 ^ f.width) (2 ^ f.width - 1))) (Nat.land (v / 2 ^ f.lo % 2 ^ f.width) (m / 2 ^ f.lo % 2 ^ f.width))

/-- The value of a W1C field after a write of v under the mask m. -/
def Fld.cleared (f : Fld) (old v m : Nat) : Nat :=
  Nat.land old (Nat.xor (Nat.land (v / 2 ^ f.lo % 2 ^ f.width) (m / 2 ^ f.lo % 2 ^ f.width)) (2 ^ f.width - 1))

theorem testBit_field (f : Fld) (v : Nat) {k : Nat} (hk : k < f.width) : (v / 2 ^ f.lo % 2 ^ f.width).testBit k = v.testBit (f.lo + k) := by
  rw [Nat.testBit_mod_two_pow, Nat.testBit_div_two_pow, Nat.add_comm k]
  simp only [hk, decide_true, Bool.true_and]

theorem testBit_ones {k w : Nat} (hk : k < w) : (2 ^ w - 1).testBit k = true := by
  rw [Nat.testBit_two_pow_sub_one]
  exact decide_eq_true hk

theorem testBit_merged (f : Fld) (old v m : Nat) {k : Nat} (hk : k < f.width) :
    (f.merged old v m).testBit k = if m.testBit (f.lo + k) then v.testBit (f.lo + k) else old.testBit k := by
  change ((old &&& (_ ^^^ _)) ^^^ (_ &&& _)).testBit k = _
  rw [Nat.testBit_xor, Nat.testBit_and, Nat.testBit_xor, Nat.testBit_and, testBit_field f v hk, testBit_field f m hk, testBit_ones hk]
  cases m.testBit (f.lo + k) <;> simp

theorem testBit_cleared (f : Fld) (old v m : Nat) {k : Nat} (hk : k < f.width) :
    (f.cleared old v m).testBit k = (old.testBit k && !(v.testBit (f.lo + k) && m.testBit (f.lo + k))) := by
  change (old &&& ((_ &&& _) ^^^ _)).testBit k = _
  rw [Nat.testBit_and, Nat.testBit_xor, Nat.testBit_and, testBit_field f v hk, testBit_field f m hk, testBit_ones hk, Bool.xor_true]

theorem writeFld_of_rw (s : State) {f : Fld} (acc : f.acc = .rw ∨ f.acc = .rwc) (i j v m : Nat) :
    s.writeFld f i j v m = s.wf f (f.merged (s.rf f i j) v m) i j := by
  rcases acc with acc | acc <;> simp only [State.writeFld, acc, Fld.merged]

theorem writeFld_of_w1c (s : State) {f : Fld} (acc : f.acc = .w1c) (i j v m : Nat) :
    s.writeFld f i j v m = s.wf f (f.cleared (s.rf f i j) v m) i j := by
  simp only [State.writeFld, acc, Fld.cleared]

theorem writeFld_of_rws_service {s : State} (service : s.mode = modeService) {f : Fld} (acc : f.acc = .rws) (i j v m : Nat) : s.writeFld f i j v m = s := by
  simp only [State.writeFld, acc, service, if_true]

theorem writeFld_of_rws {s : State} (mode : s.mode ≠ modeService) {f : Fld} (acc : f.acc = .rws) (i j v m : Nat) :
    s.writeFld f i j v m = s.wf f (f.merged (s.rf f i j) v m) i j := by
  simp only [State.writeFld, acc, mode, if_false, Fld.merged]

/-- A bit stored in a field is read back. -/
theorem bitOf_wf (s : State) (f : Fld) (i j x : Nat) {k : Nat} (hk : k < f.width) : bitOf ((s.wf f x i j).rf f i j) k = x.testBit k := by
  rw [rf_wf_same, bitOf_mod_two_pow hk, bitOf_eq_testBit]

/-- A bit outside the mask keeps its value, whatever the field's access. -/
theorem bitOf_writeFld_of_unselected (s : State) (f : Fld) (i j v m : Nat) {k : Nat} (hk : k < f.width) (out : m.testBit (f.lo + k) = false) :
    bitOf ((s.writeFld f i j v m).rf f i j) k = bitOf (s.rf f i j) k := by
  have kept : bitOf ((s.wf f (f.merged (s.rf f i j) v m) i j).rf f i j) k = bitOf (s.rf f i j) k := by
    rw [bitOf_wf _ _ _ _ _ hk, testBit_merged f _ _ _ hk, out, bitOf_eq_testBit]
    rfl
  rcases acc : f.acc with _ | _ | _ | _ | _ | _ | _ | _
  case rw => rwa [writeFld_of_rw s (.inl acc)]
  case rwc => rwa [writeFld_of_rw s (.inr acc)]
  case rws =>
    by_cases service : s.mode = modeService
    · rw [writeFld_of_rws_service service acc]
    · rwa [writeFld_of_rws service acc]
  case w1c => rw [writeFld_of_w1c s acc, bitOf_wf _ _ _ _ _ hk, testBit_cleared f _ _ _ hk, out, Bool.and_false, Bool.not_false, Bool.and_true, bitOf_eq_testBit]
  all_goals rw [writeFld_of_not_stored s f i j v m (by simp [acc])]

theorem bitOf_writeFld_rw (s : State) {f : Fld} (acc : f.acc = .rw) (i j v m : Nat) {k : Nat} (hk : k < f.width) (sel : m.testBit (f.lo + k) = true) :
    bitOf ((s.writeFld f i j v m).rf f i j) k = v.testBit (f.lo + k) := by
  rw [writeFld_of_rw s (.inl acc), bitOf_wf _ _ _ _ _ hk, testBit_merged f _ _ _ hk, if_pos sel]

theorem bitOf_writeFld_w1c (s : State) {f : Fld} (acc : f.acc = .w1c) (i j v m : Nat) {k : Nat} (hk : k < f.width) (sel : m.testBit (f.lo + k) = true) :
    bitOf ((s.writeFld f i j v m).rf f i j) k = (bitOf (s.rf f i j) k && !v.testBit (f.lo + k)) := by
  rw [writeFld_of_w1c s acc, bitOf_wf _ _ _ _ _ hk, testBit_cleared f _ _ _ hk, sel, Bool.and_true, bitOf_eq_testBit]

/-! ### A write of a control page's register -/

theorem localStep_ctlWrite (v m : Nat) : LocalStep (fun t p => t.writeFld p.1 p.2.1 p.2.2 v m) := fun _ _ => regsWithin_writeFld ..

theorem ctlWrite_within (s : State) (r o v m : Nat) : RegsWithin (fun k => ∃ p ∈ ctlFields r o, fieldKey p = k) s (s.ctlWrite r o v m) :=
  (localStep_ctlWrite v m).foldl_within _ s

theorem ctlWrite_of_mem (s : State) {r o : Nat} (hr : r < 5) (ho : o < 0x8000) {p : Fld × Nat × Nat} (hp : p ∈ ctlFields r o) (v m : Nat) :
    s.ctlWrite r o v m = s.writeFld p.1 p.2.1 p.2.2 v m := by
  rw [State.ctlWrite, ctlFields_of_mem hr ho hp]
  rfl

/-! ### The two windows as commands (R413, R414) -/

theorem endWrite_of_cause (s : State) (q off v : Nat) {c : Nat} (hc : c ≠ 0) : s.endWrite q off v ⟨c, false, 0, s⟩ = (s.busError q off c true).busReply q c true := by
  simp [State.endWrite, hc]

theorem endWrite_of_stored (s t : State) {q : Nat} (hq : q ≠ 2) (off v : Nat) : s.endWrite q off v ⟨0, false, 0, t⟩ = t := by
  simp [State.endWrite, hq]

section Bits
variable {s : State} {off r o b : Nat} (al : off % 4 = 0) (area : s.area18 off = .bits r o b)
include al area

theorem regWrite_bits_of_window (mode : s.mode ≠ modeService) (q v : Nat) : s.regWrite q off 4 v = ⟨busWINDOW, false, 0, s⟩ := by
  simp [State.regWrite, al, area, mode]

theorem regWrite_bits_of_locked (mode : s.mode = modeService) (ho : o ≠ 4) {q : Nat} (locked : s.wrEn q r = false) (v : Nat) :
    s.regWrite q off 4 v = ⟨busLOCKED, false, 0, s⟩ := by
  simp [State.regWrite, al, area, mode, ho, locked]

theorem regWrite_bits (mode : s.mode = modeService) {q : Nat} (enabled : o = 4 ∨ s.wrEn q r = true) (on : s.dom domSYS = 3) (v : Nat) :
    s.regWrite q off 4 v = ⟨0, false, 0, s.ctlWrite r o (v % 2 * 2 ^ b) (2 ^ b)⟩ := by
  have free : ¬ (o ≠ 4 ∧ (!s.wrEn q r) = true) := by
    rintro ⟨ho, locked⟩
    rcases enabled with h | h
    · exact ho h
    · simp [h] at locked
  simp only [State.regWrite, al, area, mode, on, free, ne_eq, not_true_eq_false, or_self, if_false]

/-- Only bit 0 of the value counts (R413). -/
theorem regWrite_bits_low {v w : Nat} (low : v % 2 = w % 2) (q : Nat) : s.regWrite q off 4 v = s.regWrite q off 4 w := by
  simp only [State.regWrite, al, area, low]

/-- A write of the aliasing window never waits. -/
theorem regWrite_bits_waits (q v : Nat) : (s.regWrite q off 4 v).waits = false := by
  simp only [State.regWrite, al, area]
  split <;> [rfl; split] <;> [rfl; split] <;> [rfl; split] <;> rfl

end Bits

section Masked
variable {s : State} {off r o h : Nat} (al : off % 4 = 0) (area : s.area18 off = .masked r o h)
include al area

theorem regWrite_masked_of_window (mode : s.mode = modeService) (q v : Nat) : s.regWrite q off 4 v = ⟨busWINDOW, false, 0, s⟩ := by
  simp [State.regWrite, al, area, mode]

theorem regWrite_masked (mode : s.mode ≠ modeService) {q : Nat} (enabled : o = 4 ∨ s.wrEn q r = true) (on : s.dom domSYS = 3) (v : Nat) :
    s.regWrite q off 4 v = ⟨0, false, 0, s.ctlWrite r o (v % 65536 * 2 ^ (16 * h)) (v / 65536 % 65536 * 2 ^ (16 * h))⟩ := by
  have free : ¬ (o ≠ 4 ∧ (!s.wrEn q r) = true) := by
    rintro ⟨ho, locked⟩
    rcases enabled with h | h
    · exact ho h
    · simp [h] at locked
  simp only [State.regWrite, al, area, mode, on, free, ne_eq, not_true_eq_false, or_self, if_false]

end Masked

section Windows
variable (s : State) (q : Fin 8) (r : Fin 5) (o : BitVec 13)

theorem exec_bitAliasWrite (b : Fin 32) (v : Word) : exec (.bitAliasWrite q r o b v) s =
    .next (s.endWrite q.val (aliasAddr r.val (4 * o.toNat) b.val) v.toNat (s.regWrite q.val (aliasAddr r.val (4 * o.toNat) b.val) 4 v.toNat)) := rfl

theorem exec_maskedWrite (h : Fin 2) (v : Word) : exec (.maskedWrite q r o h v) s =
    .next (s.endWrite q.val (maskedAddr r.val (4 * o.toNat) h.val) v.toNat (s.regWrite q.val (maskedAddr r.val (4 * o.toNat) h.val) 4 v.toNat)) := rfl

theorem area18_bits (b : Fin 32) : s.area18 (aliasAddr r.val (4 * o.toNat) b.val) = .bits r.val (4 * o.toNat) b.val :=
  area18_aliasAddr s o.isLt b.isLt

theorem area18_masked (h : Fin 2) : s.area18 (maskedAddr r.val (4 * o.toNat) h.val) = .masked r.val (4 * o.toNat) h.val :=
  area18_maskedAddr s r.isLt o.isLt h.isLt

variable {s q r o}

/-- The offset of a register's number: the register REGION_WR_EN is number 1. -/
theorem enabled_of_number (h : o = 1 ∨ s.wrEn q.val r.val = true) : 4 * o.toNat = 4 ∨ s.wrEn q.val r.val = true :=
  h.imp_left (fun e => by rw [e]; rfl)

theorem bitAliasWrite_of_enabled (hq : q.val ≠ 2) (on : s.dom domSYS = 3) (enabled : o = 1 ∨ s.wrEn q.val r.val = true) (mode : s.mode = modeService)
    (b : Fin 32) (v : Word) : exec (.bitAliasWrite q r o b v) s = .next (s.ctlWrite r.val (4 * o.toNat) (v.toNat % 2 * 2 ^ b.val) (2 ^ b.val)) := by
  rw [exec_bitAliasWrite, regWrite_bits (aliasAddr_aligned ..) (area18_bits s r o b) mode (enabled_of_number enabled) on, endWrite_of_stored _ _ hq]

theorem bitAliasWrite_of_window (mode : s.mode ≠ modeService) (b : Fin 32) (v : Word) : exec (.bitAliasWrite q r o b v) s =
    .next ((s.busError q.val (aliasAddr r.val (4 * o.toNat) b.val) 4 true).busReply q.val 4 true) := by
  rw [exec_bitAliasWrite, regWrite_bits_of_window (aliasAddr_aligned ..) (area18_bits s r o b) mode, endWrite_of_cause _ _ _ _ (by decide)]
  rfl

theorem bitAliasWrite_of_locked (mode : s.mode = modeService) (ho : o ≠ 1) (locked : s.wrEn q.val r.val = false) (b : Fin 32) (v : Word) :
    exec (.bitAliasWrite q r o b v) s = .next ((s.busError q.val (aliasAddr r.val (4 * o.toNat) b.val) 5 true).busReply q.val 5 true) := by
  have other : 4 * o.toNat ≠ 4 := fun h => ho (BitVec.eq_of_toNat_eq (by rw [show (1 : BitVec 13).toNat = 1 from rfl]; omega))
  rw [exec_bitAliasWrite, regWrite_bits_of_locked (aliasAddr_aligned ..) (area18_bits s r o b) mode other locked, endWrite_of_cause _ _ _ _ (by decide)]
  rfl

theorem maskedWrite_of_window (mode : s.mode = modeService) (h : Fin 2) (v : Word) : exec (.maskedWrite q r o h v) s =
    .next ((s.busError q.val (maskedAddr r.val (4 * o.toNat) h.val) 4 true).busReply q.val 4 true) := by
  rw [exec_maskedWrite, regWrite_masked_of_window (maskedAddr_aligned ..) (area18_masked s r o h) mode, endWrite_of_cause _ _ _ _ (by decide)]
  rfl

theorem maskedWrite_of_enabled (hq : q.val ≠ 2) (on : s.dom domSYS = 3) (enabled : o = 1 ∨ s.wrEn q.val r.val = true) (mode : s.mode ≠ modeService)
    (h : Fin 2) (v : Word) : exec (.maskedWrite q r o h v) s =
    .next (s.ctlWrite r.val (4 * o.toNat) (v.toNat % 65536 * 2 ^ (16 * h.val)) (v.toNat / 65536 * 2 ^ (16 * h.val))) := by
  have top : v.toNat / 65536 % 65536 = v.toNat / 65536 := Nat.mod_eq_of_lt (by have := v.isLt; omega)
  rw [exec_maskedWrite, regWrite_masked (maskedAddr_aligned ..) (area18_masked s r o h) mode (enabled_of_number enabled) on, endWrite_of_stored _ _ hq, top]

end Windows

end Sys2Proof.Machine
end

section
/-! The claim about the bit-aliasing window (R413). -/

namespace Sys2Proof.Machine
open Sys2Proof

theorem toNat_and_one (v : Word) : (v &&& 1).toNat % 2 = v.toNat % 2 := by
  rw [BitVec.toNat_and, show (1 : Word).toNat = 1 from rfl, Nat.and_one_is_mod, Nat.mod_mod]

theorem bitAliasWrite_low (s : State) (q : Fin 8) (r : Fin 5) (o : BitVec 13) (b : Fin 32) (v : Word) :
    exec (.bitAliasWrite q r o b v) s = exec (.bitAliasWrite q r o b (v &&& 1)) s := by
  have al := aliasAddr_aligned r.val o.toNat b.val
  have area := area18_bits s r o b
  rw [exec_bitAliasWrite, exec_bitAliasWrite, ← regWrite_bits_low al area (toNat_and_one v).symm]
  simp only [State.endWrite, regWrite_bits_waits al area, Bool.false_eq_true, if_false]

/-- The value and the mask that an aliasing write presents: bit b alone. -/
theorem testBit_aliasMask (b i : Nat) : (2 ^ b).testBit i = decide (b = i) := Nat.testBit_two_pow

theorem testBit_aliasValue (v : Word) (b : Nat) : (v.toNat % 2 * 2 ^ b).testBit b = v.getLsbD 0 := by
  rw [Nat.testBit_mul_two_pow, Nat.sub_self, Nat.testBit_mod_two_pow v.toNat 1 0]
  simp [BitVec.getLsbD]

/-- What an aliasing write stores in the field of its register. -/
theorem ctlWrite_alias {s : State} (service : s.mode = modeService) {r o : Nat} (hr : r < 5) (ho : o < 0x8000) {p : Fld × Nat × Nat} (hp : p ∈ ctlFields r o)
    (b : Nat) (v : Word) (t : State) (ht : t = s.ctlWrite r o (v.toNat % 2 * 2 ^ b) (2 ^ b)) :
    (∀ k, k < p.1.width → p.1.lo + k ≠ b → bitOf (t.rf p.1 p.2.1 p.2.2) k = bitOf (s.rf p.1 p.2.1 p.2.2) k)
    ∧ (p.1.acc = .rw → p.1.lo ≤ b → b < p.1.lo + p.1.width → bitOf (t.rf p.1 p.2.1 p.2.2) (b - p.1.lo) = v.getLsbD 0)
    ∧ (p.1.acc = .w1c → p.1.lo ≤ b → b < p.1.lo + p.1.width → bitOf (t.rf p.1 p.2.1 p.2.2) (b - p.1.lo) = (bitOf (s.rf p.1 p.2.1 p.2.2) (b - p.1.lo) && !v.getLsbD 0))
    ∧ (p.1.acc = .ro ∨ p.1.acc = .rc ∨ p.1.acc = .rws → t.rf p.1 p.2.1 p.2.2 = s.rf p.1 p.2.1 p.2.2) := by
  rw [ctlWrite_of_mem s hr ho hp] at ht
  subst ht
  have at_b {x : Nat} (lo : p.1.lo ≤ b) : (x.testBit (p.1.lo + (b - p.1.lo))) = x.testBit b := by rw [Nat.add_sub_cancel' lo]
  have sel (lo : p.1.lo ≤ b) : (2 ^ b).testBit (p.1.lo + (b - p.1.lo)) = true := by rw [at_b lo, Nat.testBit_two_pow_self]
  refine ⟨fun k hk other => ?_, fun acc lo hi => ?_, fun acc lo hi => ?_, fun acc => ?_⟩
  · exact bitOf_writeFld_of_unselected s _ _ _ _ _ hk (by rw [testBit_aliasMask]; exact decide_eq_false (Ne.symm other))
  · rw [bitOf_writeFld_rw s acc _ _ _ _ (by omega) (sel lo), at_b lo, testBit_aliasValue]
  · rw [bitOf_writeFld_w1c s acc _ _ _ _ (by omega) (sel lo), at_b lo, testBit_aliasValue]
  · rcases acc with acc | acc | acc
    · rw [writeFld_of_not_stored s _ _ _ _ _ (.inl acc)]
    · rw [writeFld_of_not_stored s _ _ _ _ _ (.inr (.inr (.inr acc)))]
    · rw [writeFld_of_rws_service service acc]

/-- Settles O57: the aliasing word lies in the window, its read is a bit of the register's word, its write reaches that bit alone. -/
theorem bitAliasWindow : Obligations.BitAliasWindow := by
  intro s q r o b v hq on free c a hc ha
  have addr : a = aliasAddr r.val (4 * o.toNat) b.val := by rw [ha, hc, aliasAddr]
  have area : s.area18 a = .bits r.val (4 * o.toNat) b.val := addr ▸ area18_bits s r o b
  have inside : a < 2 ^ 24 := by
    have := r.isLt; have := o.isLt; have := b.isLt
    omega
  have offset : (BitVec.ofNat 24 a).toNat = a := Nat.mod_eq_of_lt inside
  have al : a % 4 = 0 := addr ▸ aliasAddr_aligned r.val o.toNat b.val
  have ho : 4 * o.toNat < 0x8000 := by have := o.isLt; omega
  refine ⟨area, ⟨_, Nat.mod_lt _ (by decide), rfl, ?_⟩, bitAliasWrite_low s q r o b v, fun mode enabled => ?_⟩
  · exact exec_registerRead_of_value free hq (by rw [offset]; exact regRead_of_bits al area on)
  · have within := ctlWrite_within s r.val (4 * o.toNat) (v.toNat % 2 * 2 ^ b.val) (2 ^ b.val)
    exact ⟨_, bitAliasWrite_of_enabled hq on enabled mode b v, within.frame, fun p hp => ctlWrite_alias mode r.isLt ho hp b.val v _ rfl,
      fun k hk => within.other k (fun ⟨p, hp, e⟩ => hk p hp e)⟩

end Sys2Proof.Machine
end

section
/-! The mailbox (R419, R420) and the commit of the configuration (R421, R422, R424). -/

namespace Sys2Proof.Machine
open Sys2Proof

/-! ### A masked write of REGION_WR_EN (R415) -/

theorem merged_lt (f : Fld) (old v m : Nat) : f.merged old v m < 2 ^ f.width := by
  have field (x : Nat) : x / 2 ^ f.lo % 2 ^ f.width < 2 ^ f.width := Nat.mod_lt _ (Nat.two_pow_pos _)
  have ones : 2 ^ f.width - 1 < 2 ^ f.width := Nat.sub_lt (Nat.two_pow_pos _) (by decide)
  exact Nat.xor_lt_two_pow (Nat.and_lt_two_pow _ (Nat.xor_lt_two_pow (field m) ones)) (Nat.and_lt_two_pow _ (field m))

theorem req_ctlWrite {s : State} (mode : s.mode ≠ modeService) {r : Nat} (hr : r < 5) (v m : Nat) :
    (s.ctlWrite r 4 v m).rf REGION_WR_EN_REQ r = REGION_WR_EN_REQ.merged (s.rf REGION_WR_EN_REQ r) v m := by
  have listed : (REGION_WR_EN_REQ, r, 0) ∈ ctlFields r 4 := by
    rw [ctlFields_eq hr (by decide), if_neg (by omega), if_pos rfl]
    exact List.mem_singleton_self _
  rw [ctlWrite_of_mem s hr (by decide) listed, writeFld_of_rws mode rfl, rf_wf_same, Nat.mod_eq_of_lt (merged_lt ..)]

/-! ### The mailbox -/

theorem mbxData_key_ne {f : Fld} (base : f.base = 0x22004) (si : f.si = 0x1000000) (sj : f.sj = 0) (lo : f.lo < 32) (q j : Nat) (hj : j < 4) :
    MBX_DATA_DATA.key q j ≠ f.key q 0 := by
  simp only [Fld.key, base, si, sj, MBX_DATA_DATA]
  omega

/-- The mailbox words do not depend on the status word. -/
theorem mbxData_of_status (s : State) {f : Fld} (base : f.base = 0x22004) (si : f.si = 0x1000000) (sj : f.sj = 0) (lo : f.lo < 32) (v q : Nat) :
    (s.wf f v q).mbxData q = s.mbxData q := by
  have word (j : Nat) (hj : j < 4) : (s.wf f v q).rf MBX_DATA_DATA q j = s.rf MBX_DATA_DATA q j :=
    rf_wf_ne _ _ _ _ _ _ _ _ (mbxData_key_ne base si sj lo q j hj)
  simp only [State.mbxData, word 0 (by decide), word 1 (by decide), word 2 (by decide), word 3 (by decide)]

/-- The status word after a transfer that does not capture a value. -/
def State.mbxEnded (s : State) (q res : Nat) : State := ((s.wb MBX_STATUS_VALID false q).wb MBX_STATUS_BUSY false q).wf MBX_STATUS_RESULT res q

theorem frame_wf {s e : State} (frame : { e with regs := s.regs } = s) (f : Fld) (v i j : Nat) : { e.wf f v i j with regs := s.regs } = s := frame

theorem mbxEnded_frame (s : State) (q res : Nat) : { s.mbxEnded q res with regs := s.regs } = s :=
  frame_wf (frame_wf (frame_wf rfl ..) ..) ..

theorem mbxData_mbxEnded (s : State) (q res : Nat) : (s.mbxEnded q res).mbxData q = s.mbxData q := by
  have busy (u : State) (b : Bool) : (u.wb MBX_STATUS_BUSY b q).mbxData q = u.mbxData q := mbxData_of_status u rfl rfl rfl (by decide) _ q
  have valid (u : State) (b : Bool) : (u.wb MBX_STATUS_VALID b q).mbxData q = u.mbxData q := mbxData_of_status u rfl rfl rfl (by decide) _ q
  rw [State.mbxEnded, mbxData_of_status _ rfl rfl rfl (by decide), busy, valid]

theorem status_mbxEnded (s : State) (q : Nat) {res : Nat} (small : res < 16) : (s.mbxEnded q res).rf MBX_STATUS_RESULT q = res
    ∧ (s.mbxEnded q res).rb MBX_STATUS_BUSY q = false ∧ (s.mbxEnded q res).rb MBX_STATUS_VALID q = false := by
  have cut : res % 2 ^ MBX_STATUS_RESULT.width = res := Nat.mod_eq_of_lt small
  refine ⟨(rf_wf_same ..).trans cut, ?_, ?_⟩
  · simp [State.mbxEnded, State.rb, rf_wf, Fld.key, MBX_STATUS_RESULT, MBX_STATUS_BUSY]
  · simp [State.mbxEnded, State.rb, rf_wf, rf_wb, Fld.key, MBX_STATUS_RESULT, MBX_STATUS_BUSY, MBX_STATUS_VALID]

theorem mbxResult_lt (s : State) (q wid : Nat) (wr late : Bool) : s.mbxResult q wid wr late < 16 := by
  unfold State.mbxResult
  split
  · decide
  · split <;> [decide; split] <;> [decide; split] <;> [decide; split] <;> decide

theorem wideVal_lt (s : State) (wid : Nat) : s.wideVal wid < 2 ^ 128 := by
  have mask := s.flipMask.isLt
  have stamp := s.fetchStamp.isLt
  have gen := s.writeGen.isLt
  have time := s.coreTime.isLt
  unfold State.wideVal
  split <;> omega

theorem mbxData_setMbxData (s : State) (q : Nat) {v : Nat} (small : v < 2 ^ 128) : (s.setMbxData q v).mbxData q = v := by
  simp [State.setMbxData, State.mbxData, rf_wf, Fld.key, MBX_DATA_DATA]
  omega

/-- The words written leave the status word. -/
theorem rf_setMbxData (s : State) {f : Fld} (base : f.base = 0x22004) (si : f.si = 0x1000000) (sj : f.sj = 0) (lo : f.lo < 32) (q v : Nat) :
    (s.setMbxData q v).rf f q = s.rf f q := by
  have apart (j : Nat) (hj : j < 4) : f.key q 0 ≠ MBX_DATA_DATA.key q j := (mbxData_key_ne base si sj lo q j hj).symm
  rw [State.setMbxData, rf_wf_ne _ _ _ _ _ _ _ _ (apart 3 (by decide)), rf_wf_ne _ _ _ _ _ _ _ _ (apart 2 (by decide)),
    rf_wf_ne _ _ _ _ _ _ _ _ (apart 1 (by decide)), rf_wf_ne _ _ _ _ _ _ _ _ (apart 0 (by decide))]

/-- What a transfer leaves, given its result. -/
structure MbxDone (s t : State) (q res : Nat) (wr : Bool) : Prop where
  result : t.rf MBX_STATUS_RESULT q = res
  busy : t.rb MBX_STATUS_BUSY q = false
  frame : { t with regs := s.regs, flipMask := s.flipMask } = s
  captured : t.rf MBX_STATUS_RESULT q = 0 → wr = false → t.mbxData q = s.wideVal (s.rf MBX_CTRL_WID q) ∧ t.rb MBX_STATUS_VALID q = true ∧ t.flipMask = s.flipMask
  written : t.rf MBX_STATUS_RESULT q = 0 → wr = true → t.flipMask = BitVec.ofNat 72 (s.mbxData q) ∧ t.rb MBX_STATUS_VALID q = false
  refused : t.rf MBX_STATUS_RESULT q ≠ 0 → t.mbxData q = s.mbxData q ∧ t.flipMask = s.flipMask ∧ t.rb MBX_STATUS_VALID q = false

/-- The state after a read: the whole value in the words, VALID set. -/
def State.mbxCaptured (s : State) (q : Nat) : State := ((s.mbxEnded q 0).setMbxData q (s.wideVal (s.rf MBX_CTRL_WID q))).wb MBX_STATUS_VALID true q

theorem mbxCaptured_frame (s : State) (q : Nat) : { s.mbxCaptured q with regs := s.regs } = s :=
  frame_wf (frame_wf (frame_wf (frame_wf (frame_wf (mbxEnded_frame s q 0) ..) ..) ..) ..) ..

theorem mbxData_mbxCaptured (s : State) (q : Nat) : (s.mbxCaptured q).mbxData q = s.wideVal (s.rf MBX_CTRL_WID q) :=
  (mbxData_of_status _ rfl rfl rfl (by decide) _ q).trans (mbxData_setMbxData _ q (wideVal_lt s _))

/-- Capturing a value leaves RESULT and BUSY. -/
theorem rf_captured (u : State) (q v : Nat) {f : Fld} (base : f.base = 0x22004) (si : f.si = 0x1000000) (sj : f.sj = 0) (lo : f.lo < 32) (ne : f.lo ≠ 0) :
    ((u.setMbxData q v).wb MBX_STATUS_VALID true q).rf f q = u.rf f q :=
  (rf_wf_ne _ _ _ _ _ _ _ _ (Fld.key_ne_of_lo_ne base si sj ne q 0)).trans (rf_setMbxData u base si sj lo q v)

theorem status_mbxCaptured (s : State) (q : Nat) : (s.mbxCaptured q).rf MBX_STATUS_RESULT q = 0 ∧ (s.mbxCaptured q).rb MBX_STATUS_BUSY q = false
    ∧ (s.mbxCaptured q).rb MBX_STATUS_VALID q = true := by
  obtain ⟨result, busy, -⟩ := status_mbxEnded s q (res := 0) (by decide)
  rw [State.rb] at busy
  have result' := rf_captured (s.mbxEnded q 0) q (s.wideVal (s.rf MBX_CTRL_WID q)) (f := MBX_STATUS_RESULT) rfl rfl rfl (by decide) (by decide)
  have busy' := rf_captured (s.mbxEnded q 0) q (s.wideVal (s.rf MBX_CTRL_WID q)) (f := MBX_STATUS_BUSY) rfl rfl rfl (by decide) (by decide)
  unfold State.mbxCaptured
  refine ⟨result'.trans result, ?_, rb_wb_same _ rfl _ _ _⟩
  rw [State.rb, busy']
  exact busy

theorem frame_of_flipMask {s e : State} (frame : { e with regs := s.regs } = s) (x : BitVec 72) :
    { ({ e with flipMask := x } : State) with regs := s.regs, flipMask := s.flipMask } = s :=
  congrArg (fun u : State => { u with flipMask := s.flipMask }) frame

theorem flipMask_of_frame {s e : State} (frame : { e with regs := s.regs } = s) : e.flipMask = s.flipMask := (congrArg State.flipMask frame :)

section
variable {s : State} {q : Nat} {late : Bool} (idle : s.rb MBX_STATUS_BUSY q = false)
include idle

theorem mbxGo_of_refused {res : Nat} (result : s.mbxResult q (s.rf MBX_CTRL_WID q) (s.rb MBX_CTRL_WRITE q) late = res) (refused : res ≠ 0) :
    s.mbxGo q late = s.mbxEnded q res := by
  subst result
  simp only [State.mbxGo, idle, Bool.false_eq_true, if_false, if_pos refused]
  rfl

theorem mbxGo_of_write (result : s.mbxResult q (s.rf MBX_CTRL_WID q) (s.rb MBX_CTRL_WRITE q) late = 0) (write : s.rb MBX_CTRL_WRITE q = true) :
    s.mbxGo q late = { s.mbxEnded q 0 with flipMask := BitVec.ofNat 72 (s.mbxData q) } := by
  rw [write] at result
  rw [← mbxData_mbxEnded s q 0]
  simp only [State.mbxGo, idle, Bool.false_eq_true, if_false, result, ne_eq, not_true_eq_false, write, if_true]
  rfl

theorem mbxGo_of_read (result : s.mbxResult q (s.rf MBX_CTRL_WID q) (s.rb MBX_CTRL_WRITE q) late = 0) (read : s.rb MBX_CTRL_WRITE q = false) :
    s.mbxGo q late = s.mbxCaptured q := by
  rw [read] at result
  simp only [State.mbxGo, idle, Bool.false_eq_true, if_false, result, ne_eq, not_true_eq_false, read]
  rfl

theorem mbxGo_done : MbxDone s (s.mbxGo q late) q (s.mbxResult q (s.rf MBX_CTRL_WID q) (s.rb MBX_CTRL_WRITE q) late) (s.rb MBX_CTRL_WRITE q) := by
  rcases ended : s.mbxResult q (s.rf MBX_CTRL_WID q) (s.rb MBX_CTRL_WRITE q) late with _ | n
  · cases write : s.rb MBX_CTRL_WRITE q with
    | true =>
      rw [mbxGo_of_write idle ended write]
      obtain ⟨result, busy, valid⟩ := status_mbxEnded s q (res := 0) (by decide)
      exact ⟨result, busy, frame_of_flipMask (mbxEnded_frame s q 0) _, fun _ h => absurd h (by decide), fun _ _ => ⟨rfl, valid⟩, fun h => absurd result h⟩
    | false =>
      rw [mbxGo_of_read idle ended write]
      obtain ⟨result, busy, valid⟩ := status_mbxCaptured s q
      exact ⟨result, busy, frame_of_flipMask (mbxCaptured_frame s q) s.flipMask, fun _ _ => ⟨mbxData_mbxCaptured s q, valid, flipMask_of_frame (mbxCaptured_frame s q)⟩, fun _ h => absurd h (by decide), fun h => absurd result h⟩
  · have small : n + 1 < 16 := ended ▸ mbxResult_lt s q _ _ late
    obtain ⟨result, busy, valid⟩ := status_mbxEnded s q small
    rw [mbxGo_of_refused idle ended (Nat.succ_ne_zero n)]
    exact ⟨result, busy, frame_of_flipMask (mbxEnded_frame s q _) s.flipMask, fun h => absurd (result.symm.trans h) (Nat.succ_ne_zero n), fun h => absurd (result.symm.trans h) (Nat.succ_ne_zero n),
      fun _ => ⟨mbxData_mbxEnded s q _, flipMask_of_frame (mbxEnded_frame s q _), valid⟩⟩

end

theorem mbxGo_of_busy {s : State} {q : Nat} (busy : s.rb MBX_STATUS_BUSY q = true) (late : Bool) : s.mbxGo q late = s := if_pos busy

/-! ### The steps of a commit -/

theorem commitGo_of_busy {s : State} (busy : s.commitBusy = true) (q : Nat) : s.commitGo q = s := if_pos busy

theorem commitGo_of_idle {s : State} (idle : s.commitBusy = false) {q : Nat} (hq : q < 8) :
    (s.commitGo q).rf CFG_STATUS_STATE = 1 ∧ (s.commitGo q).rf CFG_STATUS_REQ = q ∧ (s.commitGo q).rb CFG_STATUS_DONE = false
    ∧ (s.commitGo q).rb CFG_STATUS_REFUSED = false ∧ (s.commitGo q).rb CFG_STATUS_BOOT = false
    ∧ { s.commitGo q with regs := s.regs, commitBoot := s.commitBoot } = s := by
  have go : s.commitGo q = { (((((((s.wf CFG_STATUS_STATE 1).wf CFG_STATUS_REQ q).wb CFG_STATUS_DONE false).wb CFG_STATUS_REFUSED false).wb CFG_STATUS_CRC_BAD false).wb
        CFG_STATUS_BOOT false)) with commitBoot := false } := if_neg (by simp [idle])
  have fields (f : Fld) : (s.commitGo q).rf f = ((((((s.wf CFG_STATUS_STATE 1).wf CFG_STATUS_REQ q).wb CFG_STATUS_DONE false).wb CFG_STATUS_REFUSED false).wb
      CFG_STATUS_CRC_BAD false).wb CFG_STATUS_BOOT false).rf f := by rw [go]; rfl
  simp (disch := decide) only [State.rb, fields, rf_wb_power, rf_wf_power, rf_wf_same, rf_wb_same]
  refine ⟨rfl, Nat.mod_eq_of_lt hq, rfl, rfl, rfl, ?_⟩
  rw [go]
  rfl

theorem commitChecked_of_other {s : State} (other : s.rf CFG_STATUS_STATE ≠ 1) : s.commitChecked = s := if_pos other

/-- The staged CRC is stored first; the requester's expected CRC is another register. -/
theorem expect_staged (s : State) (v q : Nat) : (s.wf CFG_CRC_STAGED_CRC v).rf CFG_CRC_EXPECT_CRC q = s.rf CFG_CRC_EXPECT_CRC q := by
  refine rf_wf_ne _ _ _ _ _ _ _ _ ?_
  simp only [Fld.key, CFG_CRC_STAGED_CRC, CFG_CRC_EXPECT_CRC]
  omega

/-- Without a CRC check asked for, the checks of R435 decide. -/
theorem crc_unasked {s : State} (unasked : s.rb CFG_CTRL_CRC_REQ = false) : (!(s.wf CFG_CRC_STAGED_CRC s.cfgCrc).commitBoot
      && (s.wf CFG_CRC_STAGED_CRC s.cfgCrc).rb CFG_CTRL_CRC_REQ && (s.wf CFG_CRC_STAGED_CRC s.cfgCrc).rf CFG_CRC_STAGED_CRC
        != (s.wf CFG_CRC_STAGED_CRC s.cfgCrc).rf CFG_CRC_EXPECT_CRC ((s.wf CFG_CRC_STAGED_CRC s.cfgCrc).rf CFG_STATUS_REQ)) = false := by
  have unasked' : (s.wf CFG_CRC_STAGED_CRC s.cfgCrc).rb CFG_CTRL_CRC_REQ = false := by rw [State.rb, rf_wf_power s (by decide), ← State.rb, unasked]
  rw [unasked', Bool.and_false, Bool.false_and]

section
variable {s : State} (checking : s.rf CFG_STATUS_STATE = 1)
include checking

theorem commitChecked_of_crcBad (request : s.commitBoot = false) (asked : s.rb CFG_CTRL_CRC_REQ = true) (differs : s.cfgCrc % 2 ^ 32 ≠ s.rf CFG_CRC_EXPECT_CRC (s.rf CFG_STATUS_REQ)) :
    s.commitChecked = (s.wf CFG_CRC_STAGED_CRC s.cfgCrc).commitRefuse 1 0 0 true := by
  have staged : (s.wf CFG_CRC_STAGED_CRC s.cfgCrc).rf CFG_CRC_STAGED_CRC = s.cfgCrc % 2 ^ 32 := rf_wf_same ..
  have asked' : (s.wf CFG_CRC_STAGED_CRC s.cfgCrc).rb CFG_CTRL_CRC_REQ = true := by rw [State.rb, rf_wf_power s (by decide), ← State.rb, asked]
  have bad : (!(s.wf CFG_CRC_STAGED_CRC s.cfgCrc).commitBoot && (s.wf CFG_CRC_STAGED_CRC s.cfgCrc).rb CFG_CTRL_CRC_REQ
      && (s.wf CFG_CRC_STAGED_CRC s.cfgCrc).rf CFG_CRC_STAGED_CRC
        != (s.wf CFG_CRC_STAGED_CRC s.cfgCrc).rf CFG_CRC_EXPECT_CRC ((s.wf CFG_CRC_STAGED_CRC s.cfgCrc).rf CFG_STATUS_REQ)) = true := by
    rw [show (s.wf CFG_CRC_STAGED_CRC s.cfgCrc).commitBoot = s.commitBoot from rfl, request, staged, asked', rf_wf_power (f := CFG_CRC_STAGED_CRC) s (by decide),
      expect_staged]
    simpa using differs
  rw [State.commitChecked, if_neg (not_not.2 checking)]
  exact if_pos bad

theorem commitChecked_of_failed (unasked : s.rb CFG_CTRL_CRC_REQ = false) {r ix sub : Nat} {a : Option Admission}
    (failed : (s.wf CFG_CRC_STAGED_CRC s.cfgCrc).commitChecks = some (r, ix, sub, a)) :
    ∃ u : State, (u = s.wf CFG_CRC_STAGED_CRC s.cfgCrc ∨ ∃ x, u = (s.wf CFG_CRC_STAGED_CRC s.cfgCrc).setAdmission x)
      ∧ s.commitChecked = u.commitRefuse r ix sub false := by
  have unasked' := crc_unasked unasked
  cases a with
  | none =>
    refine ⟨_, .inl rfl, ?_⟩
    simp only [State.commitChecked, checking, ne_eq, not_true_eq_false, unasked', failed, if_false, Bool.false_eq_true]
  | some x =>
    refine ⟨_, .inr ⟨x, rfl⟩, ?_⟩
    simp only [State.commitChecked, checking, ne_eq, not_true_eq_false, unasked', failed, if_false, Bool.false_eq_true]

theorem commitChecked_of_passed (unasked : s.rb CFG_CTRL_CRC_REQ = false) (passed : (s.wf CFG_CRC_STAGED_CRC s.cfgCrc).commitChecks = none) :
    s.commitChecked = (s.wf CFG_CRC_STAGED_CRC s.cfgCrc).commitPass := by
  simp only [State.commitChecked, checking, ne_eq, not_true_eq_false, crc_unasked unasked, passed, if_false, Bool.false_eq_true]

end

theorem commitRefuse_of_request {u : State} (request : u.commitBoot = false) (r ix sub : Nat) (bad : Bool) : u.commitRefuse r ix sub bad =
    { ((((u.wb CFG_STATUS_REFUSED true).wb CFG_STATUS_CRC_BAD bad).wf CFG_STATUS_REASON r).wb CFG_STATUS_DONE true).wf CFG_STATUS_STATE 0
      with failIndex := ix, failSub := sub } :=
  if_neg (by rw [show State.commitBoot _ = u.commitBoot from rfl, request]; decide)

/-- A refused commit says why and leaves the running configuration. -/
theorem commitRefuse_fields {u : State} (request : u.commitBoot = false) (r ix sub : Nat) (bad : Bool) :
    (u.commitRefuse r ix sub bad).rb CFG_STATUS_REFUSED = true ∧ (u.commitRefuse r ix sub bad).rb CFG_STATUS_CRC_BAD = bad
    ∧ (u.commitRefuse r ix sub bad).rf CFG_STATUS_REASON = r % 256 ∧ (u.commitRefuse r ix sub bad).rf CFG_STATUS_STATE = 0 := by
  have fields (f : Fld) : (u.commitRefuse r ix sub bad).rf f
      = (((((u.wb CFG_STATUS_REFUSED true).wb CFG_STATUS_CRC_BAD bad).wf CFG_STATUS_REASON r).wb CFG_STATUS_DONE true).wf CFG_STATUS_STATE 0).rf f := by
    rw [commitRefuse_of_request request]
    rfl
  simp (disch := decide) only [State.rb, fields, rf_wb_power, rf_wf_power, rf_wf_same, rf_wb_same]
  refine ⟨rfl, ?_, rfl, rfl⟩
  cases bad <;> rfl

theorem commitRefuse_kept {u : State} (request : u.commitBoot = false) (r ix sub : Nat) (bad : Bool) :
    (u.commitRefuse r ix sub bad).failIndex = ix ∧ (u.commitRefuse r ix sub bad).failSub = sub ∧ (u.commitRefuse r ix sub bad).odRun = u.odRun
    ∧ (u.commitRefuse r ix sub bad).regsRun = u.regsRun ∧ (u.commitRefuse r ix sub bad).od = u.od := by
  rw [commitRefuse_of_request request]
  exact ⟨rfl, rfl, rfl, rfl, rfl⟩

/-! ### The commit point -/

/-- The registers and the staged values are those of s. -/
structure SameConfig (s t : State) : Prop where
  regs : t.regs = s.regs
  od : t.od = s.od

theorem SameConfig.refl (s : State) : SameConfig s s := ⟨rfl, rfl⟩

theorem SameConfig.trans {s t u : State} (a : SameConfig s t) (b : SameConfig t u) : SameConfig s u := ⟨b.regs.trans a.regs, b.od.trans a.od⟩

theorem SameConfig.ite {s t u : State} {c : Prop} [Decidable c] (a : SameConfig s t) (b : SameConfig s u) : SameConfig s (if c then t else u) := by
  split <;> assumption

theorem SameConfig.foldl {α : Type} {s t : State} (first : SameConfig s t) (l : List α) {g : State → α → State} (step : ∀ u x, SameConfig u (g u x)) :
    SameConfig s (l.foldl g t) :=
  List.foldlRecOn (motive := fun u => SameConfig s u) _ _ first fun _ same _ _ => same.trans (step _ _)

theorem sameConfig_linkChange (s : State) : SameConfig s s.linkChange := by
  simp only [State.linkChange]
  split <;> split <;> exact ⟨rfl, rfl⟩

theorem sameConfig_cellChange (s : State) (n : Nat) : SameConfig s (s.cellChange n) := by
  unfold State.cellChange
  exact .ite (.refl s) (.ite ⟨rfl, rfl⟩ (.ite ⟨rfl, rfl⟩ (.refl s)))

theorem sameConfig_poolRestart (s : State) (p n : Nat) : SameConfig s (s.poolRestart p n) := ⟨rfl, rfl⟩

/-- What comes into force where the cache window stays. -/
theorem release_inForce {s : State} (base : s.odGet 0xC050 1 = s.odInForce 0xC050 1) (size : s.odGet 0xC050 2 = s.odInForce 0xC050 2) :
    s.release.odRun = s.od ∧ s.release.regsRun = s.regs.filter (fun p => rwcKey p.1) ∧ s.release.odPending = [] ∧ s.release.regs = s.regs := by
  have unmoved : ((s.odGet 0xC050 1 != s.odInForce 0xC050 1) || (s.odGet 0xC050 2 != s.odInForce 0xC050 2)) = false := by
    rw [base, size, bne_self_eq_false, bne_self_eq_false, Bool.or_self]
  unfold State.release
  extract_lets win cells pools
  have cellsSame : SameConfig s cells := by
    refine SameConfig.foldl ?_ _ sameConfig_cellChange
    rw [show win = false from unmoved]
    exact sameConfig_linkChange s
  have poolsSame : SameConfig cells pools := (SameConfig.refl cells).foldl _ fun u p => .ite (sameConfig_poolRestart ..) (.refl u)
  have same := cellsSame.trans poolsSame
  clear_value pools
  exact ⟨same.od, by rw [same.regs], rfl, same.regs⟩

/-- The status of a commit that passes, over the released configuration. -/
def State.commitMark (u : State) : State :=
  { ((((u.wf CFG_STATUS_STATE 2).wf CFG_STATUS_REASON 0).wf CFG_CRC_RUNNING_CRC (u.rf CFG_CRC_STAGED_CRC)).setAdmission
      (admit0 0)) with failIndex := 0, failSub := 0 }

theorem commitPass_eq (s : State) : s.commitPass = s.release.commitMark := by rw [State.commitPass, State.commitMark]

theorem commitMark_kept (u : State) : u.commitMark.odRun = u.odRun ∧ u.commitMark.regsRun = u.regsRun ∧ u.commitMark.odPending = u.odPending := by
  simp only [State.commitMark, State.setAdmission, State.odPut, State.wf, and_self]

theorem commitMark_fields (u : State) : u.commitMark.rf CFG_STATUS_STATE = 2 ∧ u.commitMark.rf CFG_STATUS_REASON = 0
    ∧ u.commitMark.rf CFG_CRC_RUNNING_CRC = u.rf CFG_CRC_STAGED_CRC % 2 ^ 32 := by
  have fields (f : Fld) : u.commitMark.rf f = (((u.wf CFG_STATUS_STATE 2).wf CFG_STATUS_REASON 0).wf CFG_CRC_RUNNING_CRC
      (u.rf CFG_CRC_STAGED_CRC)).rf f := rfl
  simp (disch := decide) only [fields, rf_wf_power, rf_wf_same]
  exact ⟨rfl, rfl, rfl⟩

theorem commitPass_inForce {s : State} (base : s.odGet 0xC050 1 = s.odInForce 0xC050 1) (size : s.odGet 0xC050 2 = s.odInForce 0xC050 2) :
    s.commitPass.odRun = s.od ∧ s.commitPass.regsRun = s.regs.filter (fun p => rwcKey p.1) ∧ s.commitPass.odPending = []
    ∧ s.commitPass.rf CFG_STATUS_STATE = 2 ∧ s.commitPass.rf CFG_STATUS_REASON = 0 ∧ s.commitPass.rf CFG_CRC_RUNNING_CRC = s.rf CFG_CRC_STAGED_CRC % 2 ^ 32 := by
  obtain ⟨run, regsRun, pend, regs⟩ := release_inForce base size
  obtain ⟨run', regsRun', pend'⟩ := commitMark_kept s.release
  obtain ⟨state, reason, crc⟩ := commitMark_fields s.release
  have staged : s.release.rf CFG_CRC_STAGED_CRC = s.rf CFG_CRC_STAGED_CRC := by simp only [State.rf, regs]
  rw [commitPass_eq]
  exact ⟨run'.trans run, regsRun'.trans regsRun, pend'.trans pend, state, reason, by rw [crc, staged]⟩

/-! ### The copies in MRAM and the discarded values -/

theorem commitStored_of_other {s : State} (other : s.rf CFG_STATUS_STATE ≠ 2) : s.commitStored = s := if_neg other

theorem commitStored_of_applying {s : State} (applying : s.rf CFG_STATUS_STATE = 2) :
    s.commitStored = ((s.saveStore).wb CFG_STATUS_DONE true).wf CFG_STATUS_STATE 0 := if_pos applying

/-- What a table holds after the entries of a list with distinct keys are put in. -/
theorem tabFind_foldl_tabSet_of_nodup {α : Type} (l : List (Nat × α)) (distinct : (l.map Prod.fst).Nodup) (t : Tab α) (k : Nat) :
    tabFind (l.foldl (fun t x => tabSet t x.1 x.2) t) k = (tabFind l k).or (tabFind t k) := by
  induction l generalizing t with
  | nil => rfl
  | cons x r ih =>
    obtain ⟨fresh, distinct⟩ := List.nodup_cons.1 distinct
    by_cases same : x.1 = k
    · subst same
      have apart : ∀ y ∈ r, x.1 ≠ y.1 := fun y hy e => fresh (e ▸ List.mem_map_of_mem hy)
      rw [List.foldl_cons, tabFind_foldl_tabSet _ _ apart, tabFind_tabSet_same, tabFind, if_pos rfl]
      rfl
    · rw [List.foldl_cons, ih distinct, tabFind_tabSet_ne _ _ _ _ (Ne.symm same), tabFind, if_neg same]

theorem tabFind_filter_none {α : Type} (l : Tab α) (p : Nat → Bool) {k : Nat} (dropped : p k = false) : tabFind (l.filter (fun x => p x.1)) k = none := by
  induction l with
  | nil => rfl
  | cons x r ih =>
    rw [List.filter_cons]
    split
    · next kept => rw [tabFind, if_neg (fun same => by rw [same, dropped] at kept; cases kept), ih]
    · exact ih

/-- The key of an entry names its index and subindex. -/
theorem odKey_div (ix : Nat) {sub : Nat} (h : sub < 256) : odKey ix sub / 256 = ix ∧ odKey ix sub % 256 = sub := by
  unfold odKey
  omega

theorem discard_frame (s : State) : { s.discard with od := s.od, regs := s.regs } = s := rfl

theorem odGet_discard {s : State} (distinct : (s.odRun.map Prod.fst).Nodup) (ix : Nat) {sub : Nat} (h : sub < 256) :
    s.discard.odGet ix sub = if isRwc ix sub = true then s.odInForce ix sub else s.odGet ix sub := by
  obtain ⟨index, subindex⟩ := odKey_div ix h
  have distinct' : ((s.odRun.filter (fun p => isRwc (p.1 / 256) (p.1 % 256))).map Prod.fst).Nodup := distinct.sublist (List.filter_sublist.map _)
  have found := tabFind_foldl_tabSet_of_nodup _ distinct' (s.od.filter (fun p => !isRwc (p.1 / 256) (p.1 % 256))) (odKey ix sub)
  have put : tabFind s.discard.od (odKey ix sub) = (tabFind (s.odRun.filter (fun p => isRwc (p.1 / 256) (p.1 % 256))) (odKey ix sub)).or
      (tabFind (s.od.filter (fun p => !isRwc (p.1 / 256) (p.1 % 256))) (odKey ix sub)) := found
  have kind : isRwc (odKey ix sub / 256) (odKey ix sub % 256) = isRwc ix sub := by rw [index, subindex]
  rw [State.odGet, put]
  cases rwc : isRwc ix sub with
  | true =>
    rw [rwc] at kind
    rw [tabFind_filter s.odRun (fun n => isRwc (n / 256) (n % 256)) kind,
      tabFind_filter_none s.od (fun n => !isRwc (n / 256) (n % 256)) (by rw [kind]; rfl), Option.or_none, if_pos rfl]
    rfl
  | false =>
    rw [rwc] at kind
    rw [tabFind_filter_none s.odRun (fun n => isRwc (n / 256) (n % 256)) kind,
      tabFind_filter s.od (fun n => !isRwc (n / 256) (n % 256)) (by rw [kind]; rfl), Option.none_or, if_neg (by decide)]
    rfl

end Sys2Proof.Machine
end

section
/-! The claim about windows, mailbox and commit. -/

namespace Sys2Proof.Machine
open Sys2Proof

theorem exec_mbxGo (s : State) (q : Fin 8) (late : Bool) : exec (.mbxGo q late) s = .next (s.mbxGo q.val late) := rfl
theorem exec_cfgCommitGo (s : State) (q : Fin 8) : exec (.cfgCommitGo q) s = .next (s.commitGo q.val) := rfl
theorem exec_cfgChecksDone (s : State) : exec .cfgChecksDone s = .next s.commitChecked := rfl
theorem exec_cfgMramWritten (s : State) : exec .cfgMramWritten s = .next s.commitStored := rfl
theorem exec_cfgDiscard (s : State) (q : Fin 8) : exec (.cfgDiscard q) s = .next (if s.commitBusy then s else s.discard) := rfl

/-- The checks of a requested commit (R424 steps 2 to 5). -/
theorem commitChecked_outcomes {s : State} (checking : s.rf CFG_STATUS_STATE = 1) (request : s.commitBoot = false) :
    (s.rb CFG_CTRL_CRC_REQ = true → s.cfgCrc % 2 ^ 32 ≠ s.rf CFG_CRC_EXPECT_CRC (s.rf CFG_STATUS_REQ) → s.commitChecked.rb CFG_STATUS_REFUSED = true
      ∧ s.commitChecked.rb CFG_STATUS_CRC_BAD = true ∧ s.commitChecked.rf CFG_STATUS_REASON = 1 ∧ s.commitChecked.rf CFG_STATUS_STATE = 0
      ∧ s.commitChecked.odRun = s.odRun ∧ s.commitChecked.regsRun = s.regsRun ∧ s.commitChecked.od = s.od)
    ∧ (s.rb CFG_CTRL_CRC_REQ = false → ∀ r ix sub a, (s.wf CFG_CRC_STAGED_CRC s.cfgCrc).commitChecks = some (r, ix, sub, a) →
      s.commitChecked.rb CFG_STATUS_REFUSED = true ∧ s.commitChecked.rf CFG_STATUS_REASON = r % 256 ∧ s.commitChecked.failIndex = ix
      ∧ s.commitChecked.failSub = sub ∧ s.commitChecked.rf CFG_STATUS_STATE = 0 ∧ s.commitChecked.odRun = s.odRun ∧ s.commitChecked.regsRun = s.regsRun) := by
  refine ⟨fun asked differs => ?_, fun unasked r ix sub a failed => ?_⟩
  · have request' : (s.wf CFG_CRC_STAGED_CRC s.cfgCrc).commitBoot = false := request
    rw [commitChecked_of_crcBad checking request asked differs]
    obtain ⟨refused, bad, reason, state⟩ := commitRefuse_fields request' 1 0 0 true
    obtain ⟨-, -, run, regsRun, od⟩ := commitRefuse_kept request' 1 0 0 true
    exact ⟨refused, bad, reason, state, run, regsRun, od⟩
  · obtain ⟨u, from_staged, outcome⟩ := commitChecked_of_failed checking unasked failed
    have same : u.commitBoot = s.commitBoot ∧ u.odRun = s.odRun ∧ u.regsRun = s.regsRun := by
      rcases from_staged with rfl | ⟨x, rfl⟩ <;> exact ⟨rfl, rfl, rfl⟩
    obtain ⟨boot, run, regsRun⟩ := same
    obtain ⟨refused, -, reason, state⟩ := commitRefuse_fields (boot.trans request) r ix sub false
    obtain ⟨index, subindex, run', regsRun', -⟩ := commitRefuse_kept (boot.trans request) r ix sub false
    rw [outcome]
    exact ⟨refused, reason, index, subindex, state, run'.trans run, regsRun'.trans regsRun⟩

/-- Settles O45: the windows by the area of their words, the mailbox by its result, the commit step by step. -/
theorem windowsMailboxAndCommit : Obligations.WindowsMailboxAndCommit := by
  intro s q v
  refine ⟨fun r o b h => ⟨area18_bits s r o b, area18_masked s r o h, fun hq on enabled => ⟨fun mode => ?_, fun mode => ?_⟩, fun mode ho locked => ?_⟩,
    fun r o w m => ?_, fun r mode => ?_, fun late => ⟨fun busy => ?_, fun idle => ?_⟩, fun busy => ?_, fun idle => ?_, fun other => ?_, fun checking request => ?_,
    fun other => ?_, fun applying => ?_, fun idle distinct => ?_⟩
  · exact ⟨bitAliasWrite_of_enabled hq on enabled mode b v, maskedWrite_of_window mode h v⟩
  · exact ⟨maskedWrite_of_enabled hq on enabled mode h v, bitAliasWrite_of_window mode b v⟩
  · exact bitAliasWrite_of_locked mode ho locked b v
  · exact ⟨(ctlWrite_within s r o w m).frame, fun k hk => (ctlWrite_within s r o w m).other k (fun ⟨p, hp, e⟩ => hk p hp e)⟩
  · exact (req_ctlWrite mode r.isLt _ _).trans (by simp [Fld.merged, REGION_WR_EN_REQ])
  · rw [exec_mbxGo, mbxGo_of_busy busy]
  · have done := mbxGo_done idle (late := late)
    exact ⟨_, exec_mbxGo s q late, done.result, done.busy, done.frame, done.captured, done.written, done.refused⟩
  · rw [exec_cfgCommitGo, exec_cfgDiscard, commitGo_of_busy busy, if_pos busy]
    exact ⟨rfl, rfl⟩
  · exact ⟨_, exec_cfgCommitGo s q, commitGo_of_idle idle q.isLt⟩
  · rw [exec_cfgChecksDone, commitChecked_of_other other]
  · obtain ⟨crcBad, failed⟩ := commitChecked_outcomes checking request
    refine ⟨_, exec_cfgChecksDone s, crcBad, failed, fun unasked passed base size => ?_⟩
    rw [commitChecked_of_passed checking unasked passed]
    obtain ⟨run, regsRun, pend, state, reason, crc⟩ := commitPass_inForce (s := s.wf CFG_CRC_STAGED_CRC s.cfgCrc) base size
    refine ⟨run, regsRun, pend, state, reason, crc.trans ?_⟩
    rw [rf_wf_same]
    exact Nat.mod_mod _ _
  · rw [exec_cfgMramWritten, commitStored_of_other other]
  · refine ⟨_, exec_cfgMramWritten s, ?_⟩
    rw [commitStored_of_applying applying]
    refine ⟨rfl, rfl, rfl, ?_, ?_, rfl, rfl, rfl⟩
    · rw [rf_wf_same]
      rfl
    · rw [State.rb, rf_wf_power _ (by decide), rf_wb_same]
      rfl
  · refine ⟨s.discard, by rw [exec_cfgDiscard, idle]; rfl, discard_frame s, fun ix sub => odGet_discard distinct ix.toNat sub.isLt⟩

end Sys2Proof.Machine
end

section
/-! Writes of the object dictionary (R427 to R436): the answer of each check, and what a write that passes them does. -/

namespace Sys2Proof.Machine
open Sys2Proof

/-! ### The checks of R432 -/

theorem odPre_of_noObject (s : State) {ix : Nat} (none : odHighest ix = none) (role sub : Nat) (wr img : Bool) : s.odPre role ix sub wr img = 1 := by
  simp only [State.odPre, none]
  rfl

section Row
variable {s : State} {ix sub : Nat} {r : OdRow} (object : odHighest ix ≠ none)
include object

theorem odPre_of_noSub (noRow : s.odEntry ix sub = none) (role : Nat) (wr img : Bool) : s.odPre role ix sub wr img = 2 := by
  obtain ⟨h, object⟩ := Option.ne_none_iff_exists'.1 object
  simp only [State.odPre, object, noRow]
  rfl

variable (row : s.odEntry ix sub = some r)
include row

theorem odPre_of_row (role : Nat) (wr img : Bool) : s.odPre role ix sub wr img =
    if role < odNeedRole ix r wr ∨ role = 0 then odROLE
    else if wr && !img && formatEntry ix sub && s.ent 0xB040 3 == 1 then odROLE
    else if wr && (r.acc == .const || r.acc == .ro) then odREADONLY
    else if !wr && r.acc == .wo then odWRITEONLY
    else if wr && s.mode == modeService && (r.acc == .rws || modeEntry ix sub) then odMODE
    else if wr && s.commitBusy && (r.acc == .rwc || r.chk || (ix == 0x2001 && sub == 1)) then odBUSY
    else odOK := by
  obtain ⟨h, object⟩ := Option.ne_none_iff_exists'.1 object
  simp only [State.odPre, object, row]

theorem odPre_of_role {role : Nat} {wr : Bool} (low : role < odNeedRole ix r wr ∨ role = 0) (img : Bool) : s.odPre role ix sub wr img = 3 := by
  rw [odPre_of_row object row, if_pos low]
  rfl

section Write
variable {role : Nat} (high : odNeedRole ix r true ≤ role) (known : role ≠ 0) (unlocked : s.ent 0xB040 3 = 1 → formatEntry ix sub = false)
include high known unlocked

theorem odPre_of_allowed : s.odPre role ix sub true false =
    if r.acc == .const || r.acc == .ro then odREADONLY
    else if s.mode == modeService && (r.acc == .rws || modeEntry ix sub) then odMODE
    else if s.commitBusy && (r.acc == .rwc || r.chk || (ix == 0x2001 && sub == 1)) then odBUSY
    else odOK := by
  have trusted : ¬ (role < odNeedRole ix r true ∨ role = 0) := by omega
  have open_ : (formatEntry ix sub && s.ent 0xB040 3 == 1) = false := by
    by_cases locked : s.ent 0xB040 3 = 1
    · rw [unlocked locked, Bool.false_and]
    · rw [beq_eq_false_iff_ne.2 locked, Bool.and_false]
  simp only [odPre_of_row object row, if_neg trusted, Bool.not_false, Bool.true_and, open_, Bool.false_eq_true, if_false, Bool.not_true, Bool.false_and]

theorem odPre_of_readOnly (fixed : r.acc = .const ∨ r.acc = .ro) : s.odPre role ix sub true false = 4 := by
  rw [odPre_of_allowed object row high known unlocked]
  rcases fixed with h | h <;> rw [h] <;> rfl

theorem odPre_of_service (acc : r.acc = .rws) (mode : s.mode = modeService) : s.odPre role ix sub true false = 6 := by
  rw [odPre_of_allowed object row high known unlocked, acc, mode]
  rfl

/-- A staged entry is refused with COMMIT_BUSY alone. -/
theorem odPre_of_staged (acc : r.acc = .rwc) (plain : modeEntry ix sub = false) :
    s.odPre role ix sub true false = if s.commitBusy then 7 else 0 := by
  rw [odPre_of_allowed object row high known unlocked, acc, plain]
  simp only [show ((OdAcc.rwc == .const || OdAcc.rwc == .ro) = false) from rfl, show (OdAcc.rwc == .rws || false) = false from rfl,
    show (OdAcc.rwc == .rwc) = true from rfl, Bool.and_false, Bool.true_or, Bool.and_true, Bool.false_eq_true, if_false]
  rfl

end Write
end Row

theorem odWriteStatus_of_pre {s : State} {role ix sub a : Nat} {img : Bool} (pre : s.odPre role ix sub true img = a) (refused : a ≠ 0) (v : List Byte) :
    s.odWriteStatus role ix sub v img = a := by
  subst pre
  exact if_pos refused

/-- A number of another length. -/
theorem odWriteStatus_of_length {s : State} {role ix sub : Nat} {r : OdRow} (pre : s.odPre role ix sub true false = 0) (row : s.odEntry ix sub = some r)
    (num : r.ty.isNum = true) {v : List Byte} (len : v.length ≠ r.ty.len) : s.odWriteStatus role ix sub v false = 8 := by
  have bad : s.odValue ix sub r v = 8 := by
    simp only [State.odValue, num, if_true, bne_iff_ne.2 len]
    rfl
  simp only [State.odWriteStatus, pre, row, bad]
  rfl

/-! ### Entries that act (R428) -/

/-- The entries whose writes act instead of storing a value, and those that are judged with a signature. -/
def actingEntries : List (Nat × Nat) :=
  (List.range 4).map (fun k => (0xB010 + k, 3)) ++ (List.range 8).map (fun k => (0xB020 + k, 4))
  ++ [(0xB040, 1), (0x2001, 1), (0x2020, 2), (0x2030, 2), (0x6050, 2), (0x6050, 4), (0x9000, 9), (0xB003, 1), (0xB030, 1), (0xB050, 2), (0xB050, 4),
    (0xF020, 4), (0xF020, 9)]

/-- A value is staged, or stored outside Service mode. -/
def storedEntry (ix sub : Nat) : Bool := match odRowAny ix sub with | some r => r.acc == .rwc || r.acc == .rws | none => false

theorem acting_not_stored : ∀ p ∈ actingEntries, (decide (p.2 ≠ 0) && decide (0x120C ≤ p.1) && !storedEntry p.1 p.2) = true := by decide +kernel

theorem odEntry_eq_odRowAny (s : State) {ix sub : Nat} (hs : sub ≠ 0) (hi : 0x120C ≤ ix) : s.odEntry ix sub = odRowAny ix sub := by
  rw [State.odEntry, if_neg hs, if_neg (by omega)]

theorem not_acting_of_stored {s : State} {ix sub : Nat} {r : OdRow} (row : s.odEntry ix sub = some r) (acc : r.acc = .rwc ∨ r.acc = .rws) :
    (ix, sub) ∉ actingEntries := by
  intro mem
  have fact := acting_not_stored _ mem
  simp only [Bool.and_eq_true, decide_eq_true_eq, Bool.not_eq_true'] at fact
  obtain ⟨⟨hs, hi⟩, stored⟩ := fact
  rw [odEntry_eq_odRowAny s hs hi] at row
  rw [storedEntry, row] at stored
  rcases acc with acc | acc <;> simp [acc] at stored

theorem mem_acting_of_key {ix : Nat} (h : 0xB010 ≤ ix ∧ ix < 0xB014) : (ix, 3) ∈ actingEntries := by
  refine List.mem_append_left _ (List.mem_append_left _ (List.mem_map.2 ⟨ix - 0xB010, List.mem_range.2 (by omega), ?_⟩))
  rw [Nat.add_sub_cancel' h.1]

theorem mem_acting_of_mgmtKey {ix : Nat} (h : 0xB020 ≤ ix ∧ ix < 0xB028) : (ix, 4) ∈ actingEntries := by
  refine List.mem_append_left _ (List.mem_append_right _ (List.mem_map.2 ⟨ix - 0xB020, List.mem_range.2 (by omega), ?_⟩))
  rw [Nat.add_sub_cancel' h.1]

theorem mem_acting_of_format : (0xB040, 1) ∈ actingEntries := by decide

theorem modeEntry_of_not_acting {ix sub : Nat} (plain : (ix, sub) ∉ actingEntries) : modeEntry ix sub = false := by
  rw [← Bool.not_eq_true]
  intro h
  simp only [modeEntry, Bool.or_eq_true, Bool.and_eq_true, decide_eq_true_eq, beq_iff_eq] at h
  rcases h with (⟨hi, rfl⟩ | ⟨hi, rfl⟩) | ⟨rfl, rfl⟩
  · exact plain (mem_acting_of_key hi)
  · exact plain (mem_acting_of_mgmtKey hi)
  · exact plain mem_acting_of_format

/-! ### A written value (R427 to R429) -/

/-- Checks that come before the value's are answered whatever the entry. -/
theorem odWrite_of_pre {s : State} {src ix sub a : Nat} (pre : s.odPre (s.srcRole src) ix sub true false = a) (refused : a ≠ 0) (v : List Byte) :
    s.odWrite src ix sub v = (s, a) := by
  unfold State.odWrite
  split
  · next key =>
    obtain ⟨lo, hi, rfl⟩ := key
    have ixe : keyIx false (ix - 0xB010) = ix := by simp only [keyIx]; simp; omega
    simp only [State.keyBytesWrite, ixe]
    simp only [Bool.false_eq_true, if_false, pre]
    exact if_pos refused
  · split
    · next key =>
      obtain ⟨lo, hi, rfl⟩ := key
      have ixe : keyIx true (ix - 0xB020) = ix := by simp only [keyIx]; simp; omega
      simp only [State.keyBytesWrite, ixe, if_true, pre]
      exact if_pos refused
    · simp only [odWriteStatus_of_pre pre refused]
      exact if_pos refused

section Plain
variable {s : State} {src ix sub : Nat} (plain : (ix, sub) ∉ actingEntries)
include plain

theorem odWrite_of_status {a : Nat} {v : List Byte} (status : s.odWriteStatus (s.srcRole src) ix sub v false = a) (refused : a ≠ 0) :
    s.odWrite src ix sub v = (s, a) := by
  have notKey : ¬ (0xB010 ≤ ix ∧ ix < 0xB014 ∧ sub = 3) := fun h => plain (h.2.2 ▸ mem_acting_of_key ⟨h.1, h.2.1⟩)
  have notMgmt : ¬ (0xB020 ≤ ix ∧ ix < 0xB028 ∧ sub = 4) := fun h => plain (h.2.2 ▸ mem_acting_of_mgmtKey ⟨h.1, h.2.1⟩)
  simp only [State.odWrite, notKey, notMgmt, if_false, status]
  exact if_pos refused

/-- The default of R428: no entry of the model's list. -/
theorem odAct_of_plain (r : OdRow) (v : List Byte) (shared : r.perSrc = false) (acc : r.acc = .rwc ∨ r.acc = .rws) :
    s.odAct src ix sub r v = (s.odStore ix sub r v, odOK) := by
  unfold State.odAct
  split
  case h_13 =>
    have rw_ne : r.acc ≠ .rw := by rcases acc with h | h <;> rw [h] <;> decide
    have wo_ne : r.acc ≠ .wo := by rcases acc with h | h <;> rw [h] <;> decide
    simp only [shared, Bool.false_eq_true, if_false, rw_ne, wo_ne]
  all_goals exact absurd (by decide) plain

theorem odWrite_of_passed {r : OdRow} {v : List Byte} (row : s.odEntry ix sub = some r) (status : s.odWriteStatus (s.srcRole src) ix sub v false = 0)
    (shared : r.perSrc = false) (acc : r.acc = .rwc ∨ r.acc = .rws) : s.odWrite src ix sub v = (s.odStore ix sub r v, 0) := by
  have notKey : ¬ (0xB010 ≤ ix ∧ ix < 0xB014 ∧ sub = 3) := fun h => plain (h.2.2 ▸ mem_acting_of_key ⟨h.1, h.2.1⟩)
  have notMgmt : ¬ (0xB020 ≤ ix ∧ ix < 0xB028 ∧ sub = 4) := fun h => plain (h.2.2 ▸ mem_acting_of_mgmtKey ⟨h.1, h.2.1⟩)
  have notFormat : ¬ (ix = 0xB040 ∧ sub = 1) := fun h => plain (h.1 ▸ h.2 ▸ mem_acting_of_format)
  simp only [State.odWrite, notKey, notMgmt, notFormat, if_false, status, row, odAct_of_plain plain r v shared acc]
  rfl

end Plain

theorem odStore_of_staged (s : State) {ix sub : Nat} {r : OdRow} (num : r.ty.isNum = true) (acc : r.acc = .rwc) (v : List Byte) :
    s.odStore ix sub r v = { s with od := tabSet s.od (odKey ix sub) (.num (leNat v)) } := by
  simp only [State.odStore, num, acc, if_true]
  rfl

theorem mem_insertIx (a b : Nat) (l : List Nat) : a ∈ insertIx b l ↔ a = b ∨ a ∈ l := by
  induction l with
  | nil => simp [insertIx]
  | cons c r ih =>
    rw [insertIx]
    split
    · simp
    · split
      · next same => simp [same]
      · rw [List.mem_cons, ih, List.mem_cons]
        tauto

/-- What a stored number leaves: its entry, the store where it is persistent, PENDING where it is judged at commit. -/
structure OdStored (s t : State) (ix sub : Nat) (r : OdRow) (x : OdVal) : Prop where
  value : t.odGet ix sub = x
  run : t.odRun = s.odRun
  regs : t.regs = s.regs
  other : ∀ k, k ≠ odKey ix sub → tabFind t.od k = tabFind s.od k ∧ tabFind t.store k = tabFind s.store k
  store : t.store = if r.p then tabSet s.store (odKey ix sub) x else s.store
  pending : odKey ix sub ∈ t.odPending ↔ r.chk = true ∨ odKey ix sub ∈ s.odPending

theorem odStore_of_rws (s : State) {ix sub : Nat} {r : OdRow} (num : r.ty.isNum = true) (acc : r.acc = .rws) (v : List Byte) :
    OdStored s (s.odStore ix sub r v) ix sub r (.num (leNat v)) := by
  have unstaged : ¬ r.acc = .rwc := by rw [acc]; decide
  simp only [State.odStore, num, unstaged, if_true, if_false]
  cases p : r.p <;> cases c : r.chk
  all_goals
    refine ⟨?_, rfl, rfl, fun k hk => ⟨?_, ?_⟩, ?_, ?_⟩
    · simp [State.odGet, State.odKeep, State.odPut]
    · simp [State.odKeep, State.odPut, tabFind_tabSet_ne _ _ _ _ hk]
    · simp [State.odKeep, State.odPut, tabFind_tabSet_ne _ _ _ _ hk]
    · simp [State.odKeep, State.odPut, p]
    · simp [State.odKeep, State.odPut, c, mem_insertIx]

/-! ### The register gateway (R436) -/

theorem gateway_object : odHighest 0x2002 ≠ none := by decide +kernel

/-- DATA is a U32, RW. -/
def gatewayRow : OdRow := ⟨0x2002, 1, 2, 1, .u32, .rw, false, false, false, false, none, 0, 0x0, 0x0, 0⟩

theorem gateway_row (s : State) : s.odEntry 0x2002 2 = some gatewayRow := by
  rw [odEntry_eq_odRowAny s (by decide) (by decide)]
  decide +kernel

theorem odPre_gateway {s : State} (wr : Bool) : s.odPre 3 0x2002 2 wr false = 0 := by
  rw [odPre_of_row gateway_object (gateway_row s)]
  have unlisted : formatEntry 0x2002 2 = false := by decide
  have plain : modeEntry 0x2002 2 = false := by decide
  have need : odNeedRole 0x2002 gatewayRow wr = 3 := rfl
  have acc : gatewayRow.acc = .rw := rfl
  have unchecked : gatewayRow.chk = false := rfl
  cases wr <;> simp [unlisted, plain, need, acc, unchecked] <;> rfl

theorem odPre_gateway_of_low {s : State} {role : Nat} (low : role < 3) (wr : Bool) : s.odPre role 0x2002 2 wr false = 3 :=
  odPre_of_role gateway_object (gateway_row s) (.inl low) false

theorem odWriteStatus_gateway (s : State) (w : Word) : s.odWriteStatus 3 0x2002 2 (leBytes 4 w.toNat) false = 0 := by
  have value : s.odValue 0x2002 2 gatewayRow (leBytes 4 w.toNat) = 0 := by
    have len : (leBytes 4 w.toNat).length = gatewayRow.ty.len := length_leBytes ..
    have num : gatewayRow.ty.isNum = true := rfl
    have notBool : (gatewayRow.ty == .bool) = false := rfl
    simp [State.odValue, len, num, notBool]
    rfl
  simp only [State.odWriteStatus, odPre_gateway, gateway_row, value]
  rfl

theorem leNat_word (w : Word) : leNat (leBytes 4 w.toNat) = w.toNat := by
  rw [leNat_leBytes]
  exact Nat.mod_eq_of_lt w.isLt

theorem gwEnd_of_value (s : State) (who : OdWho) (off : Nat) (wr : Option Nat) {r : Answer18} (ended : r.waits = false) (good : r.cause = 0) :
    s.gwEnd who off wr r = (r.st, some (0, if wr.isSome then [] else leBytes 4 r.value)) := by
  simp only [State.gwEnd, ended, good, Bool.false_eq_true, if_false, ne_eq, not_true_eq_false]
  rfl

theorem gwEnd_of_cause (s : State) (who : OdWho) (off : Nat) (wr : Option Nat) {r : Answer18} (ended : r.waits = false) (bad : r.cause ≠ 0) :
    s.gwEnd who off wr r = (s.busError 2 off r.cause wr.isSome, some (gwStatus r.cause, [])) := by
  simp only [State.gwEnd, ended, Bool.false_eq_true, if_false]
  exact if_pos bad

theorem gwEnd_of_wait (s : State) (who : OdWho) (off : Nat) (wr : Option Nat) {r : Answer18} (waits : r.waits = true) :
    s.gwEnd who off wr r = ({ s with crossing := tabSet s.crossing 2 { off := off, wr := wr }, odWait := some (who, wr.isSome) }, none) := if_pos waits

theorem odReadReq_gateway {s : State} {src : Nat} (role : s.srcRole src = 3) (who : OdWho) :
    s.odReadReq src 0x2002 2 false false who = s.gwRead src who := by
  simp only [State.odReadReq, role, odPre_gateway]
  rfl

theorem odWriteReq_gateway {s : State} {src : Nat} (role : s.srcRole src = 3) (w : Word) (who : OdWho) :
    s.odWriteReq src 0x2002 2 (leBytes 4 w.toNat) who = s.gwWrite src w.toNat who := by
  simp only [State.odWriteReq, role, odWriteStatus_gateway, leNat_word]
  rfl

theorem odReadReq_gateway_of_low {s : State} {src : Nat} (low : s.srcRole src < 3) (who : OdWho) :
    s.odReadReq src 0x2002 2 false false who = (s, some (3, [])) := by
  simp only [State.odReadReq, odPre_gateway_of_low low]
  rfl

theorem odWriteReq_gateway_of_low {s : State} {src : Nat} (low : s.srcRole src < 3) (v : List Byte) (who : OdWho) :
    s.odWriteReq src 0x2002 2 v who = (s, some (3, [])) := by
  simp only [State.odWriteReq, odWriteStatus_of_pre (odPre_gateway_of_low low true) (by decide)]
  rfl

end Sys2Proof.Machine
end

section
/-! The claim about dictionary accesses. -/

namespace Sys2Proof.Machine
open Sys2Proof

section
variable {s : State} {src : Fin 16}

theorem exec_dictionaryWrite (ix : BitVec 16) (sub : BitVec 8) (v : List Byte) : exec (.dictionaryWrite src ix sub v) s =
    .next (if s.odTakes ix.toNat sub.toNat then State.odRaw src.val (s.odWriteReq src.val ix.toNat sub.toNat v (.raw src.val)) else s) := rfl

theorem exec_gatewayData (w : Option Word) : exec (.registerGatewayData src w) s =
    .next (if s.odRuns then State.odRaw src.val (match w with
      | some v => s.odWriteReq src.val 0x2002 2 (leBytes 4 v.toNat) (.raw src.val)
      | none => s.odReadReq src.val 0x2002 2 false false (.raw src.val)) else s) := rfl

theorem exec_gatewayData_none (runs : s.odRuns = true) : exec (.registerGatewayData src none) s =
    .next (State.odRaw src.val (s.odReadReq src.val 0x2002 2 false false (.raw src.val))) := by
  rw [exec_gatewayData, if_pos runs]

theorem exec_gatewayData_some (runs : s.odRuns = true) (w : Word) : exec (.registerGatewayData src (some w)) s =
    .next (State.odRaw src.val (s.odWriteReq src.val 0x2002 2 (leBytes 4 w.toNat) (.raw src.val))) := by
  rw [exec_gatewayData, if_pos runs]

/-- A stopped engine answers nothing. -/
theorem stopped_engine (stopped : s.odRuns = false) (ix : BitVec 16) (sub : BitVec 8) (v : List Byte) :
    exec (.dictionaryWrite src ix sub v) s = .next s ∧ ∀ (b : BitVec 8) (w : Option Word), exec (.commit src b) s = .next s
      ∧ exec (.powerCmd src b) s = .next s ∧ exec (.modeReq src b) s = .next s ∧ exec (.registerGatewayData src w) s = .next s := by
  have closed (r : State × Nat) : s.odDone src.val r = s := by rw [State.odDone, stopped]; rfl
  refine ⟨?_, fun b w => ⟨next_eq (closed _), next_eq (closed _), next_eq (closed _), ?_⟩⟩
  · rw [exec_dictionaryWrite, State.odTakes, stopped]
    rfl
  · rw [exec_gatewayData, stopped]
    rfl

/-- A write outside the gateway's DATA, while the engine takes it. -/
theorem exec_dictionaryWrite_of_taken (runs : s.odRuns = true) (steady : s.sec.sw = none) {ix : BitVec 16} {sub : BitVec 8} (other : ¬ (ix = 0x2002 ∧ sub = 2))
    {v : List Byte} {t : State} {a : Nat} (written : s.odWrite src.val ix.toNat sub.toNat v = (t, a)) :
    exec (.dictionaryWrite src ix sub v) s = .next (t.emit (.od src.val a [])) := by
  have takes : s.odTakes ix.toNat sub.toNat = true := by rw [State.odTakes, runs, steady]; rfl
  have plain : ¬ (ix.toNat = 0x2002 ∧ sub.toNat = 2) := fun h => other ⟨BitVec.eq_of_toNat_eq h.1, BitVec.eq_of_toNat_eq h.2⟩
  rw [exec_dictionaryWrite, if_pos takes, State.odWriteReq, if_neg plain, written]
  rfl

/-- A command that is an entry's write. -/
theorem odDone_of_status (runs : s.odRuns = true) {i j : Nat} {b : BitVec 8} {f : State → State} :
    (s.odWriteStatus (s.srcRole src.val) i j [b] false = 0 → s.odDone src.val (s.odCommand src.val i j b.toNat f) = (f s).emit (.od src.val 0 []))
    ∧ (s.odWriteStatus (s.srcRole src.val) i j [b] false ≠ 0 → s.odDone src.val (s.odCommand src.val i j b.toNat f)
      = s.emit (.od src.val (s.odWriteStatus (s.srcRole src.val) i j [b] false) [])) := by
  have byte : leBytes 1 b.toNat = [b] := by simp [leBytes]
  refine ⟨fun passed => ?_, fun refused => ?_⟩
  · rw [State.odDone, if_pos runs, State.odCommand, byte, passed]
    rfl
  · rw [State.odDone, if_pos runs, State.odCommand, byte]
    simp only [show s.odWriteStatus (s.srcRole src.val) i j [b] false ≠ odOK from refused, if_true, ne_eq, not_false_eq_true]
    rfl

end

/-- Settles O46: each answer of a write is that of the first check it fails. -/
theorem dictionaryAccesses : Obligations.DictionaryAccesses := by
  intro s src ix sub v
  refine ⟨fun stopped => stopped_engine stopped ix sub v, fun runs steady other unlocked => ⟨?_, ?_, ?_, ?_⟩, fun runs b => ⟨?_, rfl, fun idle => ?_⟩,
    fun runs role r => ⟨?_, ?_⟩, fun runs low _ w => ?_⟩
  · intro noObject
    exact exec_dictionaryWrite_of_taken runs steady other (odWrite_of_pre (odPre_of_noObject s noObject _ _ _ _) (by decide) v)
  · intro object noRow
    exact exec_dictionaryWrite_of_taken runs steady other (odWrite_of_pre (odPre_of_noSub object noRow _ _ _) (by decide) v)
  · intro r object row
    refine ⟨fun low => ?_, fun high known => ⟨fun fixed => ?_, fun acc mode => ?_, fun acc busy => ?_, fun acc idle num len => ?_⟩⟩
    · exact exec_dictionaryWrite_of_taken runs steady other (odWrite_of_pre (odPre_of_role object row (.inl low) false) (by decide) v)
    · exact exec_dictionaryWrite_of_taken runs steady other (odWrite_of_pre (odPre_of_readOnly object row high known unlocked fixed) (by decide) v)
    · exact exec_dictionaryWrite_of_taken runs steady other (odWrite_of_pre (odPre_of_service object row high known unlocked acc mode) (by decide) v)
    · have pre := odPre_of_staged object row high known unlocked acc (modeEntry_of_not_acting (not_acting_of_stored row (.inl acc)))
      rw [busy] at pre
      exact exec_dictionaryWrite_of_taken runs steady other (odWrite_of_pre pre (by decide) v)
    · have plain := not_acting_of_stored row (.inl acc)
      have pre := odPre_of_staged object row high known unlocked acc (modeEntry_of_not_acting plain)
      rw [idle] at pre
      exact exec_dictionaryWrite_of_taken runs steady other (odWrite_of_status plain (odWriteStatus_of_length pre row num len) (by decide))
  · intro r row status shared num
    refine ⟨fun acc => ?_, fun acc => ?_⟩
    · have written := odWrite_of_passed (not_acting_of_stored row (.inl acc)) row status shared (.inl acc)
      rw [odStore_of_staged s num acc v] at written
      exact exec_dictionaryWrite_of_taken runs steady other written
    · have written := odWrite_of_passed (not_acting_of_stored row (.inr acc)) row status shared (.inr acc)
      have stored := odStore_of_rws s (ix := ix.toNat) (sub := sub.toNat) num acc v
      exact ⟨_, exec_dictionaryWrite_of_taken runs steady other written, stored.value, stored.run, stored.regs, stored.other, stored.store, stored.pending⟩
  · intro i j f g h
    simp only [Prod.mk.injEq] at h
    rcases h with ⟨rfl, rfl, rfl, rfl⟩ | ⟨rfl, rfl, rfl, rfl⟩ | ⟨rfl, rfl, rfl, rfl⟩
    all_goals exact ⟨fun passed => next_eq ((odDone_of_status runs).1 passed), fun refused => next_eq ((odDone_of_status runs).2 refused)⟩
  · simp [State.odCommit, idle]
  · rintro rfl
    refine ⟨fun ended good => ?_, fun ended bad => ?_, fun waits => ?_⟩
    · rw [exec_gatewayData_none runs, odReadReq_gateway role, State.gwRead, gwEnd_of_value _ _ _ _ ended good]
      rfl
    · rw [exec_gatewayData_none runs, odReadReq_gateway role, State.gwRead, gwEnd_of_cause _ _ _ _ ended bad]
      rfl
    · rw [exec_gatewayData_none runs, odReadReq_gateway role, State.gwRead, gwEnd_of_wait _ _ _ _ waits]
      rfl
  · rintro w rfl
    refine ⟨fun ended good => ?_, fun ended bad => ?_⟩
    · rw [exec_gatewayData_some runs, odWriteReq_gateway role, State.gwWrite, gwEnd_of_value _ _ _ _ ended good]
      rfl
    · rw [exec_gatewayData_some runs, odWriteReq_gateway role, State.gwWrite, gwEnd_of_cause _ _ _ _ ended bad]
      rfl
  · cases w with
    | none =>
      rw [exec_gatewayData_none runs, odReadReq_gateway_of_low low]
      rfl
    | some w =>
      rw [exec_gatewayData_some runs, odWriteReq_gateway_of_low low]
      rfl

end Sys2Proof.Machine
end

section
/-! The host path to the dictionary (R453, R454): the words of a requester's bank, and the answer to its request. -/

namespace Sys2Proof.Machine
open Sys2Proof

/-! ### Bytes in words -/

theorem leNat_lt (b : List Byte) : leNat b < 256 ^ b.length := by
  induction b with
  | nil => decide
  | cons x r ih =>
    have byte := x.isLt
    rw [leNat, List.length_cons, Nat.pow_succ]
    omega

theorem leBytes_leNat (b : List Byte) : leBytes b.length (leNat b) = b := by
  induction b with
  | nil => rfl
  | cons x r ih =>
    have byte := x.isLt
    have low : BitVec.ofNat 8 (x.toNat + 256 * leNat r) = x := BitVec.eq_of_toNat_eq (by rw [BitVec.toNat_ofNat]; omega)
    have high : (x.toNat + 256 * leNat r) / 256 = leNat r := by omega
    rw [leNat, List.length_cons, leBytes, low, high, ih]

/-- Bytes listed in words of four, each word beginning with its part, are read back. -/
theorem take_flatMap_words (m : Nat) (v : List Byte) (f : Nat → List Byte) (fits : v.length ≤ 4 * m) (four : ∀ i, (f i).length = 4)
    (part : ∀ i, 4 * i < v.length → (f i).take ((v.drop (4 * i)).take 4).length = (v.drop (4 * i)).take 4) : ((List.range m).flatMap f).take v.length = v := by
  induction m generalizing v f with
  | zero =>
    have empty : v = [] := List.eq_nil_of_length_eq_zero (by omega)
    rw [empty]
    rfl
  | succ m ih =>
    rw [List.range_succ_eq_map, List.flatMap_cons, List.flatMap_map]
    by_cases short : v.length ≤ 4
    · by_cases empty : v.length = 0
      · rw [List.eq_nil_of_length_eq_zero empty]
        rfl
      · have first := part 0 (by omega)
        rw [Nat.mul_zero, List.drop_zero, List.take_of_length_le short] at first
        rw [List.take_append_of_le_length (by rw [four]; exact short), first]
    · have first := part 0 (by omega)
      have whole : (v.take 4).length = 4 := by rw [List.length_take]; omega
      rw [Nat.mul_zero, List.drop_zero, whole, List.take_of_length_le (Nat.le_of_eq (four 0))] at first
      have rest := ih (v.drop 4) (fun i => f i.succ) (by rw [List.length_drop]; omega) (fun i => four _) (fun i hi => by
        rw [List.length_drop] at hi
        have next := part (i + 1) (by omega)
        rw [Nat.mul_succ, Nat.add_comm] at next
        rw [List.drop_drop]
        exact next)
      rw [List.length_drop] at rest
      rw [List.take_append, four, rest, List.take_of_length_le (by rw [four]; omega), first, List.take_append_drop]

/-! ### The words of a bank -/

/-- Two registers of the host path's bank at different places. -/
def Fld.hostApart (f g : Fld) : Bool := f.si == 0x1000000 && f.sj == 0 && g.si == 0x1000000 && g.sj == 0 && (f.base * 32 + f.lo != g.base * 32 + g.lo)

theorem rf_wf_of_hostApart {f g : Fld} (h : f.hostApart g = true) (s : State) (v q : Nat) : (s.wf f v q).rf g q = s.rf g q := by
  simp only [Fld.hostApart, Bool.and_eq_true, beq_iff_eq, bne_iff_ne, and_assoc] at h
  obtain ⟨fi, fj, gi, gj, ne⟩ := h
  refine rf_wf_ne _ _ _ _ _ _ _ _ ?_
  simp only [Fld.key, fi, fj, gi, gj]
  omega

theorem rf_wb_of_hostApart {f g : Fld} (h : f.hostApart g = true) (s : State) (b : Bool) (q : Nat) : (s.wb f b q).rf g q = s.rf g q :=
  rf_wf_of_hostApart h s _ q

/-- A register of a bank and a register that has no banks. -/
def Fld.unbanked (f g : Fld) : Bool :=
  f.si == 0x1000000 && f.sj == 0 && decide (f.lo < 32) && decide (g.lo < 32) && decide (f.base < 0x1000000) && decide (g.base < 0x1000000) && f.base != g.base

theorem rf_wf_of_unbanked {f g : Fld} (h : f.unbanked g = true) (s : State) (v q : Nat) : (s.wf f v q).rf g = s.rf g := by
  simp only [Fld.unbanked, Bool.and_eq_true, beq_iff_eq, bne_iff_ne, decide_eq_true_eq, and_assoc] at h
  obtain ⟨fi, fj, flo, glo, fb, gb, ne⟩ := h
  refine rf_wf_ne _ _ _ _ _ _ _ _ ?_
  simp only [Fld.key, fi, fj]
  omega

/-- A register of the bank that is no data word. -/
def Fld.hostHead (f : Fld) : Bool := f.si == 0x1000000 && f.sj == 0 && decide (f.lo < 32) && decide (f.base < 0x16400)

theorem key_data_ne {f : Fld} (h : f.hostHead = true) (q j : Nat) : f.key q 0 ≠ OD_DATA_DATA.key q j := by
  simp only [Fld.hostHead, Bool.and_eq_true, beq_iff_eq, decide_eq_true_eq, and_assoc] at h
  obtain ⟨fi, fj, flo, fb⟩ := h
  simp only [Fld.key, fi, fj, OD_DATA_DATA]
  omega

theorem data_wf_of_hostHead {f : Fld} (h : f.hostHead = true) (s : State) (v q j : Nat) : (s.wf f v q).rf OD_DATA_DATA q j = s.rf OD_DATA_DATA q j :=
  rf_wf_ne _ _ _ _ _ _ _ _ (key_data_ne h q j).symm

theorem hostPart_congr {s t : State} {q : Nat} (same : ∀ j, t.rf OD_DATA_DATA q j = s.rf OD_DATA_DATA q j) (n : Nat) : t.hostPart q n = s.hostPart q n := by
  simp only [State.hostPart, same]

/-! ### The bytes of an answer -/

/-- One word of the answer: its part of the value, then what the word held. -/
def State.hostWord (t : State) (q : Nat) (v : List Byte) (i : Nat) : State :=
  t.wf OD_DATA_DATA (leNat ((v.drop (4 * i)).take 4 ++ (leBytes 4 (t.rf OD_DATA_DATA q i)).drop ((v.drop (4 * i)).take 4).length)) q i

theorem hostData_eq (s : State) (q : Nat) (v : List Byte) : s.hostData q v = (List.range ((v.length + 3) / 4)).foldl (fun t i => t.hostWord q v i) s := rfl

theorem frame_foldl_hostWord (s : State) (q : Nat) (v : List Byte) (l : List Nat) : { l.foldl (fun t i => t.hostWord q v i) s with regs := s.regs } = s :=
  List.foldlRecOn (motive := fun t : State => { t with regs := s.regs } = s) _ _ rfl fun _ frame _ _ => frame

theorem rf_foldl_hostWord {f : Fld} (h : f.hostHead = true) (s : State) (q : Nat) (v : List Byte) (l : List Nat) :
    (l.foldl (fun t i => t.hostWord q v i) s).rf f q = s.rf f q :=
  List.foldlRecOn (motive := fun t : State => t.rf f q = s.rf f q) _ _ rfl fun _ same _ _ => (rf_wf_ne _ _ _ _ _ _ _ _ (key_data_ne h q _)).trans same

/-- A word put holds its part of the value. -/
theorem word_holds_part (s : State) (q : Nat) (v : List Byte) (n : Nat) {i : Nat} (hi : i < n) :
    (leBytes 4 (((List.range n).foldl (fun t i => t.hostWord q v i) s).rf OD_DATA_DATA q i)).take ((v.drop (4 * i)).take 4).length = (v.drop (4 * i)).take 4 := by
  induction n with
  | zero => omega
  | succ n ih =>
    rw [List.range_succ, List.foldl_append, List.foldl_cons, List.foldl_nil]
    generalize (List.range n).foldl (fun t i => t.hostWord q v i) s = t at ih ⊢
    by_cases last : i = n
    · subst last
      have short : ((v.drop (4 * i)).take 4).length ≤ 4 := List.length_take_le ..
      rw [State.hostWord, rf_wf_same]
      generalize (v.drop (4 * i)).take 4 = part at short ⊢
      have four : (part ++ (leBytes 4 (t.rf OD_DATA_DATA q i)).drop part.length).length = 4 := by
        rw [List.length_append, List.length_drop, length_leBytes]
        omega
      have bound := leNat_lt (part ++ (leBytes 4 (t.rf OD_DATA_DATA q i)).drop part.length)
      rw [four] at bound
      have whole := leBytes_leNat (part ++ (leBytes 4 (t.rf OD_DATA_DATA q i)).drop part.length)
      rw [four] at whole
      rw [Nat.mod_eq_of_lt (show leNat (part ++ _) < 2 ^ OD_DATA_DATA.width from bound), whole, List.take_append_of_le_length (Nat.le_refl _), List.take_length]
    · have apart : OD_DATA_DATA.key q i ≠ OD_DATA_DATA.key q n := by
        simp only [Fld.key, OD_DATA_DATA]
        omega
      rw [State.hostWord, rf_wf_ne _ _ _ _ _ _ _ _ apart]
      exact ih (by omega)

/-- The value lies in OD_DATA. -/
theorem hostPart_hostData (s : State) (q : Nat) {v : List Byte} (small : v.length ≤ 1024) : (s.hostData q v).hostPart q v.length = v :=
  take_flatMap_words 256 v _ (by omega) (fun _ => length_leBytes ..) fun i hi => by
    rw [hostData_eq]
    exact word_holds_part s q v _ (by omega)

/-! ### The end of a request (R453) -/

/-- The status word of a request that has ended. -/
def State.hostEnded (u : State) (q status len : Nat) : State :=
  ((((u.wf OD_STATUS_STATUS status q).wf OD_STATUS_RLEN len q).wb OD_STATUS_DONE true q).wb OD_STATUS_BUSY false q).wb OD_CTRL_GO false q

theorem hostDone_eq (s : State) (q status : Nat) (v : List Byte) : s.hostDone q status v = (s.hostData q v).hostEnded q status v.length := rfl

theorem frame_hostEnded {s u : State} (frame : { u with regs := s.regs } = s) (q status len : Nat) : { u.hostEnded q status len with regs := s.regs } = s :=
  frame_wf (frame_wf (frame_wf (frame_wf (frame_wf frame ..) ..) ..) ..) ..

theorem hostEnded_fields (u : State) (q : Nat) {status len : Nat} (byte : status < 256) (small : len ≤ 1024) :
    (u.hostEnded q status len).rf OD_STATUS_STATUS q = status ∧ (u.hostEnded q status len).rf OD_STATUS_RLEN q = len
    ∧ (u.hostEnded q status len).rb OD_STATUS_DONE q = true ∧ (u.hostEnded q status len).rb OD_STATUS_BUSY q = false
    ∧ (u.hostEnded q status len).rf OD_TOTAL_TOTAL q = u.rf OD_TOTAL_TOTAL q := by
  have len_cut : len % 2 ^ OD_STATUS_RLEN.width = len := Nat.mod_eq_of_lt (by simp only [OD_STATUS_RLEN]; omega)
  have status_cut : status % 2 ^ OD_STATUS_STATUS.width = status := Nat.mod_eq_of_lt byte
  unfold State.hostEnded
  simp (disch := decide) only [State.rb, rf_wb_of_hostApart, rf_wf_of_hostApart, rf_wf_same, rf_wb_same, len_cut, status_cut]
  exact ⟨trivial, trivial, rfl, rfl, trivial⟩

theorem data_hostEnded (u : State) (q status len j : Nat) : (u.hostEnded q status len).rf OD_DATA_DATA q j = u.rf OD_DATA_DATA q j := by
  simp (disch := decide) only [State.hostEnded, State.wb, data_wf_of_hostHead]

/-- What an answered request leaves in its bank. -/
structure HostAnswered (r u : State) (q status : Nat) (v : List Byte) : Prop where
  status : u.rf OD_STATUS_STATUS q = status
  len : u.rf OD_STATUS_RLEN q = v.length
  data : u.hostPart q v.length = v
  done : u.rb OD_STATUS_DONE q = true
  idle : u.rb OD_STATUS_BUSY q = false
  total : u.rf OD_TOTAL_TOTAL q = r.rf OD_TOTAL_TOTAL q
  frame : { u with regs := r.regs } = r

theorem hostDone_answered (r : State) (q : Nat) {status : Nat} (byte : status < 256) {v : List Byte} (small : v.length ≤ 1024) :
    HostAnswered r (r.hostDone q status v) q status v := by
  obtain ⟨hs, hl, hd, hb, ht⟩ := hostEnded_fields (r.hostData q v) q byte small
  rw [hostDone_eq]
  exact ⟨hs, hl, (hostPart_congr (fun j => data_hostEnded _ q status v.length j) _).trans (hostPart_hostData r q small), hd, hb,
    ht.trans (rf_foldl_hostWord (by decide) r q v _), frame_hostEnded (frame_foldl_hostWord r q v _) q status v.length⟩

/-! ### The start of a request -/

/-- The state in which a request runs: OP written, DONE cleared. -/
def State.hostStarted (s : State) (q op : Nat) : State := (s.wf OD_CTRL_OP op q).wb OD_STATUS_DONE false q

theorem odRuns_wf (s : State) {f : Fld} (dom : f.unbanked DOM_STATUS1_DOM = true) (v q : Nat) : (s.wf f v q).odRuns = s.odRuns := by
  have same : (s.wf f v q).dom domMGT = s.dom domMGT := by
    rw [State.dom, State.dom, if_neg (by decide), if_neg (by decide), rf_wf_of_unbanked dom]
  rw [State.odRuns, State.odRuns, State.zlOn, State.zlOn, same]
  rfl

theorem hostOp_of_two (s : State) (op : Nat) : s.hostOp 2 op = s := rfl

section Start
variable {s : State} {q : Nat} (own : q ≠ 2)
include own

theorem hostOp_of_ignored (ignored : s.rb OD_STATUS_BUSY q = true ∨ s.odRuns = false) (op : Nat) : s.hostOp q op = s.wf OD_CTRL_OP op q := by
  have busy : (s.wf OD_CTRL_OP op q).rb OD_STATUS_BUSY q = s.rb OD_STATUS_BUSY q := by rw [State.rb, rf_wf_of_hostApart (by decide), ← State.rb]
  rw [State.hostOp, if_neg own]
  refine if_pos ?_
  rw [busy, odRuns_wf s (by decide)]
  rcases ignored with h | h
  · exact .inr (.inl h)
  · exact .inr (.inr (.inl (by rw [h]; rfl)))

variable (idle : s.rb OD_STATUS_BUSY q = false) (runs : s.odRuns = true)
include idle runs

theorem hostOp_starts {op : Nat} (free : op = 1 → s.sec.sw = none) :
    ¬ (q = 2 ∨ (s.wf OD_CTRL_OP op q).rb OD_STATUS_BUSY q = true ∨ (!(s.wf OD_CTRL_OP op q).odRuns) = true
      ∨ (op = 1 ∧ (!(s.wf OD_CTRL_OP op q).odTakes ((s.wf OD_CTRL_OP op q).rf OD_ADDR_INDEX q) ((s.wf OD_CTRL_OP op q).rf OD_ADDR_SUBINDEX q)) = true)) := by
  have busy : (s.wf OD_CTRL_OP op q).rb OD_STATUS_BUSY q = false := by rw [State.rb, rf_wf_of_hostApart (by decide), ← State.rb, idle]
  have running : (s.wf OD_CTRL_OP op q).odRuns = true := (odRuns_wf s (by decide) op q).trans runs
  rintro (h | h | h | ⟨h, h'⟩)
  · exact own h
  · rw [busy] at h
    cases h
  · rw [running] at h
    cases h
  · have steady : (s.wf OD_CTRL_OP op q).sec.sw = none := free h
    rw [State.odTakes, running, steady] at h'
    cases h'

theorem hostOp_read (steady : s.sec.sw = none) : s.hostOp q 0 =
    if s.rb OD_CTRL_FIRST q then
      (if s.rf OD_OFFSET_OFFSET q ≠ 0 then (s.hostStarted q 0).hostDone q 0x10 []
       else (s.hostStarted q 0).hostReadFirst q (hostSrc q) (s.rf OD_ADDR_INDEX q) (s.rf OD_ADDR_SUBINDEX q) (s.rb OD_CTRL_RUNNING q))
    else (s.hostStarted q 0).hostReadNext q (hostSrc q) (s.rf OD_ADDR_INDEX q) (s.rf OD_ADDR_SUBINDEX q) (s.rf OD_OFFSET_OFFSET q) := by
  rw [State.hostOp, if_neg own]
  unfold State.hostGo
  refine (if_neg (hostOp_starts own idle runs (op := 0) (fun _ => steady))).trans ?_
  simp (disch := decide) only [State.rb, rf_wb_of_hostApart, rf_wf_of_hostApart]
  rfl

theorem hostOp_write (steady : s.sec.sw = none) : s.hostOp q 1 =
    if 1024 < s.rf OD_LEN_LEN q then (s.hostStarted q 1).hostDone q 0x08 []
    else (s.hostStarted q 1).hostWrite q (hostSrc q) (s.rf OD_ADDR_INDEX q) (s.rf OD_ADDR_SUBINDEX q) (s.rf OD_OFFSET_OFFSET q) (s.rb OD_CTRL_FIRST q)
      (s.rb OD_CTRL_LAST q) (s.hostPart q (s.rf OD_LEN_LEN q)) := by
  have words (j : Nat) : ((s.wf OD_CTRL_OP 1 q).wb OD_STATUS_DONE false q).rf OD_DATA_DATA q j = s.rf OD_DATA_DATA q j := by
    rw [State.wb, data_wf_of_hostHead (by decide), data_wf_of_hostHead (by decide)]
  rw [State.hostOp, if_neg own]
  unfold State.hostGo
  refine (if_neg (hostOp_starts own idle runs (op := 1) (fun _ => steady))).trans ?_
  simp only [hostPart_congr words]
  simp (disch := decide) only [State.rb, rf_wb_of_hostApart, rf_wf_of_hostApart]
  rfl

/-- INFO runs during a switch-over too. -/
theorem hostOp_info {b : List Byte} {u : State}
    (answer : (s.hostStarted q 2).odReadReq (hostSrc q) (s.rf OD_ADDR_INDEX q) (s.rf OD_ADDR_SUBINDEX q) false true (.host q) = (u, some (0, b))) :
    s.hostOp q 2 = u.hostDone q 0 b := by
  have ix : (s.wf OD_CTRL_OP 2 q).rf OD_ADDR_INDEX q = s.rf OD_ADDR_INDEX q := rf_wf_of_hostApart (by decide) ..
  have sub : (s.wf OD_CTRL_OP 2 q).rf OD_ADDR_SUBINDEX q = s.rf OD_ADDR_SUBINDEX q := rf_wf_of_hostApart (by decide) ..
  rw [State.hostStarted] at answer
  rw [State.hostOp, if_neg own]
  unfold State.hostGo
  refine (if_neg (hostOp_starts own idle runs (op := 2) (fun h => absurd h (by decide)))).trans ?_
  simp only [ix, sub, answer]

end Start

/-! ### Reads and writes of a bank -/

theorem hostReadNext_of_none {t : State} {src : Nat} (none : t.asmOf src = none) (q ix sub off : Nat) : t.hostReadNext q src ix sub off = t.hostDone q 0x10 [] := by
  simp only [State.hostReadNext, none]
  rfl

theorem hostReadFirst_of_error {t r : State} {q src ix sub n : Nat} {running : Bool} (answer : t.odReadReq src ix sub running false (.host q) = (r, some (n, [])))
    (bad : n ≠ 0) : t.hostReadFirst q src ix sub running = r.hostDone q n [] := by
  simp only [State.hostReadFirst, answer]
  exact if_pos bad

theorem hostReadFirst_of_value {t r : State} {q src ix sub : Nat} {running : Bool} {v : List Byte}
    (answer : t.odReadReq src ix sub running false (.host q) = (r, some (0, v))) (small : v.length ≤ 1024) :
    t.hostReadFirst q src ix sub running = (r.wf OD_TOTAL_TOTAL v.length q).hostDone q 0 v := by
  simp only [State.hostReadFirst, answer]
  refine (if_neg (by decide)).trans ?_
  exact if_pos small

theorem asmDrop_of_none {t : State} {src : Nat} (none : t.asmOf src = none) : t.asmDrop src = t := by
  have kept : t.asm.filter (fun p => p.2.src != src) = t.asm := by
    refine List.filter_eq_self.2 fun p hp => ?_
    have other := List.find?_eq_none.1 none p hp
    exact bne_iff_ne.2 (fun h => other (beq_iff_eq.2 h))
  rw [State.asmDrop, kept]

theorem hostWrite_of_offset {t : State} {off : Nat} (far : off ≠ 0) (q src ix sub : Nat) (last : Bool) (part : List Byte) :
    t.hostWrite q src ix sub off true last part = t.hostDone q 0x10 [] := by
  simp only [State.hostWrite, if_true]
  exact if_pos far

theorem hostWrite_of_whole {t r : State} {q src ix sub n : Nat} {part : List Byte} (none : t.asmOf src = none)
    (answer : t.odWriteReq src ix sub part (.host q) = (r, some (n, []))) : t.hostWrite q src ix sub 0 true true part = r.hostDone q n [] := by
  simp only [State.hostWrite, if_true, ne_eq, not_true_eq_false, if_false, asmDrop_of_none none, answer]
  rfl

/-! ### INFO (R432) -/

theorem odPost_read_wf {s : State} {f : Fld} (dom0 : f.unbanked DOM_STATUS0_DOM = true) (dom1 : f.unbanked DOM_STATUS1_DOM = true) (v q ix sub : Nat) :
    (s.wf f v q).odPost ix sub false = s.odPost ix sub false := by
  have same (d : Nat) : (s.wf f v q).dom d = s.dom d := by
    simp only [State.dom, rf_wf_of_unbanked dom0, rf_wf_of_unbanked dom1]
  simp only [State.odPost, Bool.false_and, same, Bool.false_eq_true, if_false]

theorem odReadReq_info {s : State} {src ix sub : Nat} (pre : s.odPre (s.srcRole src) ix sub false false = 0) (post : s.odPost ix sub false = 0) (running : Bool)
    (who : OdWho) : s.odReadReq src ix sub running true who = (s, some (0, s.odInfo ix sub)) := by
  have post' : (if ix = 0x2002 ∧ sub = 2 then odOK else s.odPost ix sub false) = 0 := by
    split
    · rfl
    · exact post
  simp only [State.odReadReq, pre, post']
  rfl

/-- The description of an entry has 8 bytes. -/
theorem length_odInfo {s : State} {role ix sub : Nat} {wr img : Bool} (pre : s.odPre role ix sub wr img = 0) : (s.odInfo ix sub).length = 8 := by
  cases row : s.odEntry ix sub with
  | none =>
    cases object : odHighest ix with
    | none =>
      rw [odPre_of_noObject s object] at pre
      cases pre
    | some h =>
      rw [odPre_of_noSub (by rw [object]; exact Option.some_ne_none h) row] at pre
      cases pre
  | some r =>
    simp only [State.odInfo, row, List.length_append, length_leBytes]

/-! ### Idle buffers (R443) -/

theorem zlPut_of_open {s : State} {slot : Nat} {x : Session} (found : tabFind s.zl.sessions slot = some x) (type status : Nat) (payload : List Byte) :
    s.zlPut slot type status payload =
      ({ s with zl.sessions := tabSet s.zl.sessions slot { x with txSeq := (x.txSeq + 1) % 2 ^ 32, lastResp := some { type := type, seq := (x.txSeq + 1) % 2 ^ 32, status := status, payload := payload } } } : State).emit
        (.zalene type x.number ((x.txSeq + 1) % 2 ^ 32) status payload) := by
  simp only [State.zlPut, found]

theorem asmIdle_of_none {s : State} {b : Nat} (none : tabFind s.asm b = none) : s.asmIdle b = s := by
  simp only [State.asmIdle, none]

theorem asmIdle_of_quiet {s : State} {b : Nat} {a : Asm} (held : tabFind s.asm b = some a) (quiet : a.write = false ∨ a.src < 8) :
    s.asmIdle b = { s with asm := tabDel s.asm b } := by
  have unanswered : ¬ (a.write && decide (8 ≤ a.src)) = true := by
    rcases quiet with h | h
    · rw [h, Bool.false_and]
      exact Bool.false_ne_true
    · rw [decide_eq_false (by omega), Bool.and_false]
      exact Bool.false_ne_true
  simp only [State.asmIdle, held, if_neg unanswered]

theorem asmIdle_of_session {s : State} {b : Nat} {a : Asm} (held : tabFind s.asm b = some a) (write : a.write = true) (session : 8 ≤ a.src) :
    s.asmIdle b = ({ s with asm := tabDel s.asm b } : State).zlPut (a.src - 8) 0x25 0x10 (ackPayload a.data.length) := by
  simp only [State.asmIdle, held, write, decide_eq_true session, Bool.and_true, if_true]
  rfl

end Sys2Proof.Machine
end

section
/-! The claim about the host path. -/

namespace Sys2Proof.Machine
open Sys2Proof

theorem exec_odRead (s : State) (q : Fin 8) : exec (.odRead q) s = .next (s.hostOp q.val 0) := rfl
theorem exec_odWrite (s : State) (q : Fin 8) : exec (.odWrite q) s = .next (s.hostOp q.val 1) := rfl
theorem exec_odInfo (s : State) (q : Fin 8) : exec (.odInfo q) s = .next (s.hostOp q.val 2) := rfl
theorem exec_assemblyBufferIdle (s : State) (b : Fin 4) : exec (.assemblyBufferIdle b) s = .next (s.asmIdle b.val) := rfl

/-- A first part of a value of at most 1,024 bytes, or the answer of a check. -/
theorem hostReadFirst_answered {t r : State} {q src ix sub n : Nat} {running : Bool} {v : List Byte}
    (answer : t.odReadReq src ix sub running false (.host q) = (r, some (n, v))) (small : v.length ≤ 1024) (byte : n < 256) (empty : n ≠ 0 → v = []) :
    ∃ u : State, t.hostReadFirst q src ix sub running = u ∧ u.rf OD_STATUS_STATUS q = n ∧ u.rf OD_STATUS_RLEN q = v.length ∧ u.hostPart q v.length = v
      ∧ u.rb OD_STATUS_DONE q = true ∧ u.rb OD_STATUS_BUSY q = false ∧ (n = 0 → u.rf OD_TOTAL_TOTAL q = v.length) ∧ { u with regs := r.regs } = r := by
  by_cases bad : n ≠ 0
  · have none := empty bad
    subst none
    have ended := hostDone_answered r q byte small
    exact ⟨_, hostReadFirst_of_error answer bad, ended.status, ended.len, ended.data, ended.done, ended.idle, fun h => absurd h bad, ended.frame⟩
  · have good : n = 0 := not_not.1 bad
    subst good
    have ended := hostDone_answered (r.wf OD_TOTAL_TOTAL v.length q) q byte small
    have total : v.length % 2 ^ OD_TOTAL_TOTAL.width = v.length := Nat.mod_eq_of_lt (by simp only [OD_TOTAL_TOTAL]; omega)
    refine ⟨_, hostReadFirst_of_value answer small, ended.status, ended.len, ended.data, ended.done, ended.idle, fun _ => ended.total.trans ((rf_wf_same ..).trans total), ?_⟩
    exact congrArg (fun u : State => { u with regs := r.regs }) ended.frame

/-- Settles O47: the bank's words before and after a request, and what an idle buffer leaves. -/
theorem hostPathAndBuffers : Obligations.HostPathAndBuffers := by
  intro s q
  refine ⟨fun two => ?_, fun own ignored => ?_, fun t own idle runs steady ht => ?_, fun t own idle runs steady ht => ?_, fun t own idle runs ht pre post => ?_,
    fun b => ⟨fun none => ?_, fun a held quiet => ?_, fun a x held write session found => ?_⟩⟩
  · rw [exec_odRead, exec_odWrite, exec_odInfo, two]
    exact ⟨rfl, rfl, rfl⟩
  · rw [exec_odRead, exec_odWrite, exec_odInfo, hostOp_of_ignored own ignored, hostOp_of_ignored own ignored, hostOp_of_ignored own ignored]
    exact ⟨rfl, rfl, rfl⟩
  · replace ht : t = s.hostStarted q.val 0 := ht
    subst ht
    rw [exec_odRead, hostOp_read own idle runs steady]
    refine ⟨fun first far => ?_, fun later none => ?_, fun r n v first zero small answer byte empty => ?_⟩
    · rw [if_pos first, if_pos far]
    · rw [later, if_neg (by decide), hostReadNext_of_none (t := s.hostStarted q.val 0) none]
    · rw [if_pos first, if_neg (not_not.2 zero)]
      obtain ⟨u, hu, rest⟩ := hostReadFirst_answered answer small byte empty
      exact ⟨u, by rw [hu], rest⟩
  · replace ht : t = s.hostStarted q.val 1 := ht
    subst ht
    rw [exec_odWrite, hostOp_write own idle runs steady]
    refine ⟨fun long => ?_, fun short first far => ?_, fun r n short first last zero none answer => ?_⟩
    · rw [if_pos long]
    · rw [if_neg (by omega), first, hostWrite_of_offset far]
    · rw [if_neg (by omega), first, last, zero, hostWrite_of_whole (t := s.hostStarted q.val 1) none answer]
  · replace ht : t = s.hostStarted q.val 2 := ht
    subst ht
    have post' : (s.hostStarted q.val 2).odPost (s.rf OD_ADDR_INDEX q.val) (s.rf OD_ADDR_SUBINDEX q.val) false = 0 := by
      rw [State.hostStarted, State.wb, odPost_read_wf (by decide) (by decide), odPost_read_wf (by decide) (by decide), post]
    have pre' : (s.hostStarted q.val 2).odPre ((s.hostStarted q.val 2).srcRole (hostSrc q.val)) (s.rf OD_ADDR_INDEX q.val) (s.rf OD_ADDR_SUBINDEX q.val) false false = 0 := pre
    refine ⟨?_, length_odInfo pre⟩
    rw [exec_odInfo, hostOp_info own idle runs (odReadReq_info pre' post' false (.host q.val))]
    rfl
  · rw [exec_assemblyBufferIdle, asmIdle_of_none none]
  · rw [exec_assemblyBufferIdle, asmIdle_of_quiet held quiet]
  · refine ⟨_, exec_assemblyBufferIdle s b, ?_⟩
    rw [asmIdle_of_session held write session, zlPut_of_open (s := { s with asm := tabDel s.asm b.val }) (x := x) found]
    exact ⟨rfl, rfl, rfl, rfl⟩

end Sys2Proof.Machine
end

section
/-! The Zalene link's sessions (R438 to R446, R452): discovery, the handshake, failed MACs, and the end of a session. -/

namespace Sys2Proof.Machine
open Sys2Proof

/-! ### The commands of the link -/

section
variable (s : State)

theorem exec_discover : exec .discover s = .next (if s.zlOn then { s with zl.announce := s.zl.announce + 1 } else s) := rfl
theorem exec_announce : exec .announce s =
    .next (if s.zlOn && s.zl.announce != 0 then ({ s with zl.announce := s.zl.announce - 1 } : State).zlSend0 0x02 0 s.announceBytes else s) := rfl
theorem exec_duplicateNode : exec .duplicateNode s = .next (if s.zlOn then s.zlReport zlNODE s.nodeId else s) := rfl
theorem exec_sessionInit (k : Fin 8) (r : BitVec 8) (c : Bool) (n : BitVec 128) : exec (.sessionInit k r c n) s = .next (s.sessionInit k.val r.toNat c) := rfl
theorem exec_sessionProve (n : BitVec 16) (a b : Bool) : exec (.sessionProve n a b) s = .next (s.sessionProve n.toNat a b) := rfl
theorem exec_sessionClose (n : BitVec 16) : exec (.sessionClose n) s = .next (s.sessionClose n.toNat) := rfl
theorem exec_zaleneMacFail (n : BitVec 16) : exec (.zaleneMacFail n) s = .next (s.zlMacFail n.toNat) := rfl
theorem exec_neighbourDiscovery (k : NdKind) : exec (.neighbourDiscovery k) s = .next (s.neighbour k) := rfl
theorem exec_wake (c : BitVec 32) : exec (.wake c) s = .next (s.zlWake c.toNat) := rfl

end

/-! ### While the link is off -/

section Off
variable {s : State} (off : s.zlOn = false)
include off

theorem sessionInit_of_off (key role : Nat) (onCurve : Bool) : s.sessionInit key role onCurve = s := if_pos (by rw [off]; rfl)
theorem sessionProve_of_off (n : Nat) (a b : Bool) : s.sessionProve n a b = s := if_pos (by rw [off]; rfl)
theorem sessionClose_of_off (n : Nat) : s.sessionClose n = s := if_pos (by rw [off]; rfl)
theorem zlMacFail_of_off (n : Nat) : s.zlMacFail n = s := if_pos (by rw [off]; rfl)
theorem neighbour_of_off (k : NdKind) : s.neighbour k = s := if_pos (by rw [off]; rfl)

theorem zlWake_of_other {code : Nat} (other : code = 0 ∨ code ≠ s.par 0x1010 10) : s.zlWake code = s := by
  have unmatched : ¬ (code ≠ 0 ∧ code = s.par 0x1010 10) := fun h => other.elim h.1 (fun ne => ne h.2)
  simp only [State.zlWake, off, Bool.false_eq_true, if_false, if_neg unmatched]

theorem zlWake_of_code {code : Nat} (set : code ≠ 0) (same : code = s.par 0x1010 10) : s.zlWake code = s.wake 2 := by
  simp only [State.zlWake, off, Bool.false_eq_true, if_false, if_pos (And.intro set same)]

end Off

/-! ### The handshake (R446) -/

/-- Of eleven candidates at most nine numbers in use leave one. -/
theorem sessionNumber_free (used : List Nat) (few : used.length ≤ 9) (c : Nat) :
    ∃ m, ((List.range 11).map (fun i => (c + i - 1) % 65535 + 1)).find? (fun n => !used.contains n) = some m ∧ 0 < m ∧ m ≤ 65535 ∧ m ∉ used := by
  cases found : ((List.range 11).map (fun i => (c + i - 1) % 65535 + 1)).find? (fun n => !used.contains n) with
  | some m =>
    have free := List.find?_some found
    obtain ⟨i, -, hm⟩ := List.mem_map.1 (List.mem_of_find?_eq_some found)
    have bound := Nat.mod_lt (c + i - 1) (show 0 < 65535 by decide)
    refine ⟨m, rfl, by omega, by omega, fun mem => ?_⟩
    rw [List.contains_iff_mem.2 mem] at free
    cases free
  | none =>
    have all_used : ∀ i < 11, (c + i - 1) % 65535 + 1 ∈ used := by
      intro i hi
      have taken := List.find?_eq_none.1 found _ (List.mem_map.2 ⟨i, List.mem_range.2 hi, rfl⟩)
      rw [Bool.not_eq_true, Bool.not_eq_false'] at taken
      exact List.contains_iff_mem.1 taken
    have distinct : ((List.range 10).map (fun i => (c + (i + 1) - 1) % 65535 + 1)).Nodup := by
      refine List.Nodup.map_on (fun i hi j hj same => ?_) List.nodup_range
      rw [List.mem_range] at hi hj
      omega
    have inside : (List.range 10).map (fun i => (c + (i + 1) - 1) % 65535 + 1) ⊆ used := by
      intro x hx
      obtain ⟨i, hi, rfl⟩ := List.mem_map.1 hx
      exact all_used (i + 1) (by have := List.mem_range.1 hi; omega)
    have ten := (List.subperm_of_subset distinct inside).length_le
    rw [List.length_map, List.length_range] at ten
    omega

/-- A session number is not 0 and not in use. -/
theorem sessionNumber_unused {s : State} (sessions : s.zl.sessions.length < 8) (handshakes : s.zl.handshakes.length ≤ 2) :
    0 < s.sessionNumber ∧ s.sessionNumber ≤ 65535 ∧ (∀ p ∈ s.zl.sessions, p.2.number ≠ s.sessionNumber) ∧ (∀ p ∈ s.zl.handshakes, p.2.number ≠ s.sessionNumber) := by
  have few : (s.zl.sessions.map (fun p => p.2.number) ++ s.zl.handshakes.map (fun p => p.2.number)).length ≤ 9 := by
    rw [List.length_append, List.length_map, List.length_map]
    omega
  obtain ⟨m, found, low, high, fresh⟩ := sessionNumber_free _ few s.zl.nextNumber
  have number : s.sessionNumber = m := by
    unfold State.sessionNumber
    exact congrArg (fun o : Option Nat => o.getD s.zl.nextNumber) found
  rw [number]
  refine ⟨low, high, fun p hp same => fresh ?_, fun p hp same => fresh ?_⟩
  · exact List.mem_append_left _ (same ▸ List.mem_map_of_mem hp)
  · exact List.mem_append_right _ (same ▸ List.mem_map_of_mem hp)

/-- The lowest free entry of a table of two. -/
theorem find_range_of_lowest {α : Type} (t : Tab α) {n k : Nat} (hk : k < n) (free : tabFind t k = none) (lower : ∀ g < k, (tabFind t g).isSome = true) :
    (List.range n).find? (fun h => (tabFind t h).isNone) = some k := by
  refine List.find?_range_eq_some.2 ⟨by rw [free]; rfl, List.mem_range.2 hk, fun g hg => ?_⟩
  have full := lower g hg
  cases held : tabFind t g with
  | none => rw [held] at full; cases full
  | some _ => rfl

theorem find_range_of_full {α : Type} (t : Tab α) {n : Nat} (full : ∀ g < n, (tabFind t g).isSome = true) :
    (List.range n).find? (fun h => (tabFind t h).isNone) = none := by
  refine List.find?_eq_none.2 fun g hg => ?_
  have held := full g (List.mem_range.1 hg)
  cases entry : tabFind t g with
  | none => rw [entry] at held; cases held
  | some _ => exact Bool.false_ne_true

section On
variable {s : State} (on : s.zlOn = true)
include on

section Init
variable {key role : Nat} {onCurve : Bool}

theorem sessionInit_of_auth (bad : (s.mgSlot key).st ≠ .enrolled ∨ onCurve = false) : s.sessionInit key role onCurve = s.zlSend0 0x10 0x12 [] := by
  have refused : (s.mgSlot key).st ≠ .enrolled ∨ (!onCurve) = true := bad.imp_right (fun h => by rw [h]; rfl)
  simp only [State.sessionInit, on, Bool.not_true, Bool.false_eq_true, if_false]
  exact if_pos refused

variable (enrolled : (s.mgSlot key).st = .enrolled) (curve : onCurve = true)
include enrolled curve

theorem sessionInit_of_many (many : 8 ≤ s.zl.sessions.length) : s.sessionInit key role onCurve = s.zlSend0 0x10 0x0F [] := by
  simp only [State.sessionInit, on, enrolled, curve, many, Bool.not_true, Bool.false_eq_true, ne_eq, not_true_eq_false, or_self, if_false, if_true]
  rfl

variable (few : s.zl.sessions.length < 8)
include few

theorem sessionInit_of_busy (full : (List.range 2).find? (fun h => (tabFind s.zl.handshakes h).isNone) = none) :
    s.sessionInit key role onCurve = s.zlSend0 0x10 0x0F [] := by
  have room : ¬ 8 ≤ s.zl.sessions.length := by omega
  simp only [State.sessionInit, on, enrolled, curve, room, full, Bool.not_true, Bool.false_eq_true, ne_eq, not_true_eq_false, or_self, if_false]
  rfl

/-- A handshake starts with its number, its key and the lower role. -/
theorem sessionInit_of_free {h : Nat} (free : (List.range 2).find? (fun h => (tabFind s.zl.handshakes h).isNone) = some h) :
    (s.sessionInit key role onCurve).zl.handshakes = tabSet s.zl.handshakes h { number := s.sessionNumber, key := key, role := min role (s.mgSlot key).role }
    ∧ (s.sessionInit key role onCurve).zl.sessions = s.zl.sessions ∧ (s.sessionInit key role onCurve).regs = s.regs
    ∧ (s.sessionInit key role onCurve).od = s.od := by
  have room : ¬ 8 ≤ s.zl.sessions.length := by omega
  simp only [State.sessionInit, on, enrolled, curve, room, free, Bool.not_true, Bool.false_eq_true, ne_eq, not_true_eq_false, or_self, if_false]
  exact ⟨rfl, rfl, rfl, rfl⟩

end Init

/-! ### The end of the handshake (R446 steps 3 and 4) -/

section Prove
variable {n h : Nat} {x : Handshake} (found : s.zl.handshakes.find? (fun p => p.2.number == n) = some (h, x))
include found

theorem sessionProve_of_unverified {a b : Bool} (bad : a = false ∨ b = false) :
    s.sessionProve n a b = ({ s with zl.handshakes := tabDel s.zl.handshakes h } : State).zlSend0 0x12 0x12 [] := by
  have refused : (!a || !b) = true := by rcases bad with e | e <;> simp [e]
  simp only [State.sessionProve, on, found, refused, Bool.not_true, Bool.false_eq_true, if_false, if_true]
  rfl

theorem sessionProve_of_verified {k : Nat} (free : (List.range 8).find? (fun k => (tabFind s.zl.sessions k).isNone) = some k) :
    s.sessionProve n true true = ({ s with zl.handshakes := tabDel s.zl.handshakes h } : State).sessionOpen k x := by
  simp only [State.sessionProve, on, found, free, Bool.not_true, Bool.or_self, Bool.false_eq_true, if_false]

end Prove

theorem sessionProve_of_unknown {n : Nat} (handshake : s.zl.handshakes.find? (fun p => p.2.number == n) = none) (session : s.zlFind n = none) (a b : Bool) :
    s.sessionProve n a b = s.zlSend0 0x12 0x11 [] := by
  simp only [State.sessionProve, on, handshake, session, Bool.not_true, Bool.false_eq_true, if_false]
  rfl

/-! ### The end of a session -/

theorem sessionClose_of_unknown {n : Nat} (session : s.zlFind n = none) : s.sessionClose n = s.zlSend0 0x14 0x11 [] := by
  simp only [State.sessionClose, on, session, Bool.not_true, Bool.false_eq_true, if_false]
  rfl

theorem sessionClose_of_open {n k : Nat} {x : Session} (session : s.zlFind n = some (k, x)) : s.sessionClose n = (s.zlPut k 0x14 0 []).sessionEnd k := by
  simp only [State.sessionClose, on, session, Bool.not_true, Bool.false_eq_true, if_false]
  rfl

theorem zlMacFail_of_unknown {n : Nat} (some_ : n ≠ 0) (session : s.zlFind n = none) : s.zlMacFail n = s.zlSend0 0x00 0x11 [] := by
  have number : (n == 0) = false := beq_eq_false_iff_ne.2 some_
  simp only [State.zlMacFail, on, number, session, Bool.not_true, Bool.or_self, Bool.false_eq_true, if_false]
  rfl

theorem zlMacFail_of_open {n k : Nat} {x : Session} (some_ : n ≠ 0) (session : s.zlFind n = some (k, x)) : s.zlMacFail n = s.macFail k x := by
  have number : (n == 0) = false := beq_eq_false_iff_ne.2 some_
  simp only [State.zlMacFail, on, number, session, Bool.not_true, Bool.or_self, Bool.false_eq_true, if_false]

theorem neighbour_solicitation : s.neighbour .solicitation = s.emit (.note "neighbour advertisement" 0 0) := if_neg (by rw [on]; exact Bool.false_ne_true)

theorem neighbour_echo : s.neighbour .echo = s.emit (.note "ICMPv6 echo reply" 0 0) := if_neg (by rw [on]; exact Bool.false_ne_true)

theorem neighbour_dadOk (st : Bool) : s.neighbour (.dadOk st) = if st then { s with zl.staticBad := false } else { s with zl.addrBad := false } :=
  if_neg (by rw [on]; exact Bool.false_ne_true)

theorem neighbour_dadDuplicate (st : Bool) : s.neighbour (.dadDuplicate st) =
    (if st then { s with zl.staticBad := true } else { s with zl.addrBad := true } : State).zlReport zlADDR st.toNat :=
  if_neg (by rw [on]; exact Bool.false_ne_true)

theorem zlWake_of_on (code : Nat) : s.zlWake code = s.zlSend0 0x3F 0 [] := if_pos on

end On

/-- A session as it is opened, before its ACCEPT. -/
def State.newSession (s : State) (h : Handshake) : Session :=
  { number := h.number, key := h.key, role := h.role, rxSeq := 1, txSeq := 0, lastResp := none, macFails := [], queue := [], outstanding := none, retries := 0,
    evSeq := (Config.freeValue s.free).toNat % 2 ^ 32, lost := 0 }

theorem sessionOpen_eq (s : State) (k : Nat) (h : Handshake) : s.sessionOpen k h =
    (s.useFree.putSession k (s.newSession h)).zlPut k 0x13 0 (leBytes 1 h.role ++ leBytes 1 0 ++ leBytes 2 (s.par 0x1020 2)) := rfl

/-- ACCEPT goes out with SEQ 1. -/
theorem sessionOpen_opens (s : State) (k : Nat) (h : Handshake) : ∃ y : Session,
    (s.sessionOpen k h).zl.handshakes = s.zl.handshakes
    ∧ (s.sessionOpen k h).zl.sessions = tabSet (tabSet s.zl.sessions k { y with txSeq := 0, lastResp := none }) k y
    ∧ y.number = h.number ∧ y.key = h.key ∧ y.role = h.role ∧ y.rxSeq = 1 ∧ y.txSeq = 1 ∧ y.queue = [] ∧ y.outstanding = none
    ∧ (s.sessionOpen k h).out = .zalene 0x13 h.number 1 0 (leBytes 1 h.role ++ leBytes 1 0 ++ leBytes 2 (s.par 0x1020 2)) :: s.out := by
  have stored : tabFind (s.useFree.putSession k (s.newSession h)).zl.sessions k = some (s.newSession h) := tabFind_tabSet_same ..
  refine ⟨{ s.newSession h with txSeq := 1, lastResp := some { type := 0x13, seq := 1, status := 0, payload := leBytes 1 h.role ++ leBytes 1 0 ++ leBytes 2 (s.par 0x1020 2) } }, ?_⟩
  rw [sessionOpen_eq, zlPut_of_open stored]
  exact ⟨rfl, rfl, rfl, rfl, rfl, rfl, rfl, rfl, rfl, rfl⟩

theorem macFail_of_few (s : State) {k : Nat} {x : Session} {l : List Nat}
    (hl : l = x.macFails.filter (fun t => decide (s.coreTime.toNat < t + 1000 * cyclesPerMs)) ++ [s.coreTime.toNat]) (few : l.length < 16) :
    s.macFail k x = (s.zlCount 5).putSession k { x with macFails := l } := by
  subst hl
  exact if_neg (by omega)

theorem macFail_of_sixteen (s : State) {k : Nat} {x : Session} {l : List Nat}
    (hl : l = x.macFails.filter (fun t => decide (s.coreTime.toNat < t + 1000 * cyclesPerMs)) ++ [s.coreTime.toNat]) (many : 16 ≤ l.length) :
    s.macFail k x = (((s.zlCount 5).putSession k { x with macFails := l }).sessionEnd k).report (srcId SYS 7 34) 0 k := by
  subst hl
  exact if_pos many

theorem sessionClose_closes {s : State} (on : s.zlOn = true) {n k : Nat} {x : Session} (found : s.zlFind n = some (k, x)) (held : tabFind s.zl.sessions k = some x) :
    (s.sessionClose n).out = .zalene 0x14 x.number ((x.txSeq + 1) % 2 ^ 32) 0 [] :: s.out ∧ (s.sessionClose n).asm = s.asm.filter (fun p => p.2.src != 8 + k)
    ∧ ∀ j, j ≠ k → tabFind (s.sessionClose n).zl.sessions j = tabFind s.zl.sessions j := by
  rw [sessionClose_of_open on found, zlPut_of_open held]
  exact ⟨rfl, rfl, fun j other => (tabFind_tabDel_ne other _).trans (tabFind_tabSet_ne _ _ _ _ other)⟩

/-! ### The claim about sessions -/

/-- While the link is off only WAKE acts. -/
theorem link_off {s : State} (off : s.zlOn = false) : exec .discover s = .next s ∧ exec .announce s = .next s ∧ exec .duplicateNode s = .next s
      ∧ (∀ k r c n, exec (.sessionInit k r c n) s = .next s) ∧ (∀ n a b, exec (.sessionProve n a b) s = .next s)
      ∧ (∀ n, exec (.sessionClose n) s = .next s ∧ exec (.zaleneMacFail n) s = .next s) ∧ (∀ k, exec (.neighbourDiscovery k) s = .next s)
      ∧ (∀ c : BitVec 32, (c.toNat = 0 ∨ c.toNat ≠ s.par 0x1010 10 → exec (.wake c) s = .next s)
        ∧ (c.toNat ≠ 0 → c.toNat = s.par 0x1010 10 → exec (.wake c) s = .next (s.wake 2))) := by
  refine ⟨?_, ?_, ?_, fun k r c n => ?_, fun n a b => ?_, fun n => ⟨?_, ?_⟩, fun k => ?_, fun c => ⟨fun other => ?_, fun set same => ?_⟩⟩
  · rw [exec_discover, off]; rfl
  · rw [exec_announce, off]; rfl
  · rw [exec_duplicateNode, off]; rfl
  · rw [exec_sessionInit, sessionInit_of_off off]
  · rw [exec_sessionProve, sessionProve_of_off off]
  · rw [exec_sessionClose, sessionClose_of_off off]
  · rw [exec_zaleneMacFail, zlMacFail_of_off off]
  · rw [exec_neighbourDiscovery, neighbour_of_off off]
  · rw [exec_wake, zlWake_of_other off other]
  · rw [exec_wake, zlWake_of_code off set same]

/-- Settles O48: each command of the link by what it finds, the handshake's number by counting those in use. -/
theorem zaleneSessions : Obligations.ZaleneSessions := by
  intro s
  refine ⟨link_off, fun type status p => rfl, fun on => ⟨?_, fun none_due => ?_, fun due => ?_, ?_, ?_, ?_, ?_, ?_, ?_, ?_, fun c => ?_, fun k r c n => ⟨fun bad => ?_, fun enrolled curve many => ?_,
    fun enrolled curve few first second => ?_, fun h enrolled curve few handshakes free lower => ?_⟩, fun n a b h x found => ⟨fun bad => ?_, fun k ha hb free lower => ?_⟩, fun n a b handshake session => ?_,
    fun n session => ⟨?_, fun some_ => ?_⟩, fun n k x found held => ⟨?_, fun some_ l hl => ⟨fun few => ?_, fun many => ?_⟩⟩⟩, fun h => rfl, fun k => rfl⟩
  · rw [exec_discover, if_pos on]
  · rw [exec_announce, none_due, bne_self_eq_false, Bool.and_false]
    rfl
  · rw [exec_announce, on, bne_iff_ne.2 due]
    rfl
  · rw [exec_duplicateNode, if_pos on]
    rfl
  · rw [exec_neighbourDiscovery, neighbour_solicitation on]
  · rw [exec_neighbourDiscovery, neighbour_echo on]
  · rw [exec_neighbourDiscovery, neighbour_dadOk on, if_pos rfl]
  · rw [exec_neighbourDiscovery, neighbour_dadOk on, if_neg Bool.false_ne_true]
  · rw [exec_neighbourDiscovery, neighbour_dadDuplicate on, if_pos rfl]
    rfl
  · rw [exec_neighbourDiscovery, neighbour_dadDuplicate on, if_neg Bool.false_ne_true]
    rfl
  · rw [exec_wake, zlWake_of_on on]
  · rw [exec_sessionInit, sessionInit_of_auth on bad]
  · rw [exec_sessionInit, sessionInit_of_many on enrolled curve many]
  · have full := find_range_of_full s.zl.handshakes (n := 2) (fun g hg => by
      interval_cases g
      · exact first
      · exact second)
    rw [exec_sessionInit, sessionInit_of_busy on enrolled curve few full]
  · have lowest := find_range_of_lowest s.zl.handshakes h.isLt free (fun g hg => lower ⟨g, by omega⟩ hg)
    obtain ⟨low, high, sessions, others⟩ := sessionNumber_unused few handshakes
    exact ⟨_, s.sessionNumber, exec_sessionInit s k r c n, low, high, sessions, others, sessionInit_of_free on enrolled curve few lowest⟩
  · rw [exec_sessionProve, sessionProve_of_unverified on found bad]
  · have lowest := find_range_of_lowest s.zl.sessions k.isLt free (fun g hg => lower ⟨g, by omega⟩ hg)
    obtain ⟨y, opened⟩ := sessionOpen_opens { s with zl.handshakes := tabDel s.zl.handshakes h } k.val x
    subst ha hb
    exact ⟨_, y, by rw [exec_sessionProve, sessionProve_of_verified on found lowest], opened⟩
  · rw [exec_sessionProve, sessionProve_of_unknown on handshake session]
  · rw [exec_sessionClose, sessionClose_of_unknown on session]
  · rw [exec_zaleneMacFail, zlMacFail_of_unknown on (fun h => some_ (BitVec.eq_of_toNat_eq h)) session]
  · exact ⟨_, exec_sessionClose s n, sessionClose_closes on found held⟩
  · rw [exec_zaleneMacFail, zlMacFail_of_open on (fun h => some_ (BitVec.eq_of_toNat_eq h)) found, macFail_of_few s hl few]
  · rw [exec_zaleneMacFail, zlMacFail_of_open on (fun h => some_ (BitVec.eq_of_toNat_eq h)) found, macFail_of_sixteen s hl many]

end Sys2Proof.Machine
end

section
/-! Requests of a Zalene session (R441 to R445, R450): what the sequence number lets run, segmented transfers, and events. -/

namespace Sys2Proof.Machine
open Sys2Proof

/-! ### The sequence number (R444) -/

theorem zlRequest_of_stopped {s : State} (stopped : s.odRuns = false) (n q type : Nat) (f : State → Nat → State) : s.zlRequest n q type f = s :=
  if_pos (by rw [stopped]; rfl)

theorem zlSeq_of_lower (s : State) (k : Nat) {x : Session} {q : Nat} (lower : q < x.rxSeq) (f : State → State) : s.zlSeq k x q f = s.zlCount 4 := if_pos lower

theorem zlSeq_of_equal (s : State) (k : Nat) {x : Session} {q : Nat} {r : Resp} (equal : q = x.rxSeq) (kept : x.lastResp = some r) (f : State → State) :
    s.zlSeq k x q f = s.emit (.zalene r.type x.number r.seq r.status r.payload) := by
  simp only [State.zlSeq, equal, lt_irrefl, if_false, if_true, kept]

theorem zlSeq_of_greater (s : State) (k : Nat) {x : Session} {q : Nat} (greater : x.rxSeq < q) (f : State → State) :
    s.zlSeq k x q f = f (s.putSession k { x with rxSeq := q, lastResp := none }) := by
  rw [State.zlSeq, if_neg (by omega), if_neg (by omega)]

section Runs
variable {s : State} (runs : s.odRuns = true)
include runs

theorem zlRequest_of_zero (q type : Nat) (f : State → Nat → State) : s.zlRequest 0 q type f = s.zlSend0 type 3 [] := by
  simp only [State.zlRequest, runs, Bool.not_true, Bool.false_eq_true, if_false, if_true]
  rfl

variable {n : Nat} (some_ : n ≠ 0)
include some_

theorem zlRequest_of_unknown (unknown : s.zlFind n = none) (q type : Nat) (f : State → Nat → State) : s.zlRequest n q type f = s.zlSend0 type 0x11 [] := by
  simp only [State.zlRequest, runs, some_, unknown, Bool.not_true, Bool.false_eq_true, if_false]
  rfl

theorem zlRequest_of_open {k : Nat} {x : Session} (found : s.zlFind n = some (k, x)) (q type : Nat) (f : State → Nat → State) :
    s.zlRequest n q type f = s.zlSeq k x q (fun t => f t k) := by
  simp only [State.zlRequest, runs, some_, found, Bool.not_true, Bool.false_eq_true, if_false]

theorem zlRequest_runs {k : Nat} {x : Session} (found : s.zlFind n = some (k, x)) {q : Nat} (greater : x.rxSeq < q) (type : Nat) (f : State → Nat → State) :
    s.zlRequest n q type f = f (s.putSession k { x with rxSeq := q, lastResp := none }) k := by
  rw [zlRequest_of_open runs some_ found, zlSeq_of_greater s k greater]

end Runs

/-- A command that is a request of type `type` on session n, with sequence q. -/
def IsRequest (s : State) (f : Instr) (n q type : Nat) : Prop := ∃ g : State → Nat → State, exec f s = .next (s.zlRequest n q type g)

/-- What the sequence number decides of a request, before it runs. -/
theorem request_checks {s : State} {f : Instr} {n : BitVec 16} {q : BitVec 32} {type : Nat} (request : IsRequest s f n.toNat q.toNat type) :
    (s.odRuns = false → exec f s = .next s)
    ∧ (s.odRuns = true → (n = 0 → exec f s = .next (s.zlSend0 type 3 [])) ∧ (n ≠ 0 → s.zlFind n.toNat = none → exec f s = .next (s.zlSend0 type 0x11 []))
      ∧ (∀ (k : Nat) (x : Session), n ≠ 0 → s.zlFind n.toNat = some (k, x) → (q.toNat < x.rxSeq → exec f s = .next (s.zlCount 4))
        ∧ (∀ r, q.toNat = x.rxSeq → x.lastResp = some r → exec f s = .next (s.emit (.zalene r.type x.number r.seq r.status r.payload))))) := by
  obtain ⟨g, request⟩ := request
  have named (some_ : n ≠ 0) : n.toNat ≠ 0 := fun h => some_ (BitVec.eq_of_toNat_eq h)
  refine ⟨fun stopped => ?_, fun runs => ⟨fun zero => ?_, fun some_ unknown => ?_, fun k x some_ found => ⟨fun lower => ?_, fun r equal kept => ?_⟩⟩⟩
  · rw [request, zlRequest_of_stopped stopped]
  · subst zero
    rw [request]
    exact next_eq (zlRequest_of_zero runs _ _ _)
  · rw [request, zlRequest_of_unknown runs (named some_) unknown]
  · rw [request, zlRequest_of_open runs (named some_) found, zlSeq_of_lower s k lower]
  · rw [request, zlRequest_of_open runs (named some_) found, zlSeq_of_equal s k equal kept]

/-! ### The requests as commands -/

section Commands
variable (s : State) (n : BitVec 16) (q : BitVec 32)

theorem exec_segRead (ix : BitVec 16) (sub : BitVec 8) (off : BitVec 32) (run : Bool) : exec (.segRead n q ix sub off run) s =
    .next (s.zlRequest n.toNat q.toNat 0x22 (fun t slot =>
      if off = 0 then t.segReadFirst slot ix.toNat sub.toNat run else t.segReadNext slot ix.toNat sub.toNat off.toNat)) := rfl

theorem exec_segWrite (ix : BitVec 16) (sub : BitVec 8) (total : BitVec 32) : exec (.segWrite n q ix sub total) s =
    .next (s.zlRequest n.toNat q.toNat 0x23 (fun t slot => t.segWrite slot ix.toNat sub.toNat total.toNat)) := rfl

theorem exec_segment (off : BitVec 32) (v : List Byte) : exec (.segment n q off v) s =
    .next (if s.segTakes n.toNat then s.zlRequest n.toNat q.toNat 0x24 (fun t slot => t.segPart slot off.toNat v) else s) := rfl

theorem exec_segAbort : exec (.segAbort n q) s = .next (s.zlRequest n.toNat q.toNat 0x26 (fun t slot => (t.asmDrop (8 + slot)).zlPut slot 0x26 0 [])) := rfl

theorem exec_eventAck (ev : BitVec 32) : exec (.eventAck n q ev) s = .next (s.zlRequest n.toNat q.toNat 0x31 (fun t slot => t.eventAck slot ev.toNat)) := rfl

theorem exec_zaleneWrite (ix : BitVec 16) (sub : BitVec 8) (v : List Byte) : exec (.zaleneWrite n q ix sub v) s =
    .next (s.zlWrite n.toNat q.toNat ix.toNat sub.toNat v) := rfl

theorem exec_zaleneRead (ix : BitVec 16) (sub : BitVec 8) (run info : Bool) : exec (.zaleneRead n q ix sub run info) s =
    .next (s.zlRead n.toNat q.toNat ix.toNat sub.toNat run info) := rfl

end Commands

theorem zlRead_of_some (s : State) {n : Nat} (some_ : n ≠ 0) (q ix sub : Nat) (run info : Bool) : s.zlRead n q ix sub run info =
    s.zlRequest n q 0x20 (fun t slot => State.zlReadEnd slot ix sub info (t.odReadReq (8 + slot) ix sub run info (.zalene slot 0x20))) := if_neg some_

theorem zlWrite_of_taken {s : State} {ix sub : Nat} (takes : s.odTakes ix sub = true) (n q : Nat) (v : List Byte) : s.zlWrite n q ix sub v =
    s.zlRequest n q 0x21 (fun t slot => if 1024 < v.length then t.zlPut slot 0x21 odFRAME []
      else State.zlEnd slot 0x21 [] (t.odWriteReq (8 + slot) ix sub v (.zalene slot 0x21))) := if_neg (by rw [takes]; exact Bool.false_ne_true)

/-! ### Answers (R441) -/

theorem zlReadEnd_of_error {k st : Nat} (bad : st ≠ 0) (ix sub : Nat) (info : Bool) (r : State) (w : List Byte) :
    State.zlReadEnd k ix sub info (r, some (st, w)) = r.zlPut k 0x20 st [] := if_pos bad

theorem zlReadEnd_of_info (k ix sub : Nat) (r : State) (w : List Byte) : State.zlReadEnd k ix sub true (r, some (0, w)) = r.zlPut k 0x20 0 w := rfl

theorem zlReadEnd_of_value (k ix sub : Nat) (r : State) {w : List Byte} (small : w.length ≤ 1024) :
    State.zlReadEnd k ix sub false (r, some (0, w)) = r.zlPut k 0x20 0 (readPayload (r.odCode ix sub) w) := by
  have fits : ¬ 1024 < w.length := by omega
  simp only [State.zlReadEnd, fits, if_false, Bool.false_eq_true]
  rfl

theorem zlEnd_of_answer (k type : Nat) (payload : List Byte) (r : State) (st : Nat) (w : List Byte) :
    State.zlEnd k type payload (r, some (st, w)) = r.zlPut k type st payload := rfl

/-! ### Segmented reads (R443) -/

theorem segReadFirst_of_error {t r : State} {k ix sub st : Nat} {run : Bool} {w : List Byte} (answer : t.odReadReq (8 + k) ix sub run false (.zalene k 0x22) = (r, some (st, w)))
    (bad : st ≠ 0) : t.segReadFirst k ix sub run = r.zlPut k 0x22 st [] := by
  simp only [State.segReadFirst, answer]
  exact if_pos bad

theorem segReadFirst_of_short {t r : State} {k ix sub : Nat} {run : Bool} {w : List Byte} (answer : t.odReadReq (8 + k) ix sub run false (.zalene k 0x22) = (r, some (0, w)))
    (small : w.length ≤ 1024) : t.segReadFirst k ix sub run = r.zlPut k 0x22 0 (segPayload w.length w) := by
  simp only [State.segReadFirst, answer]
  exact (if_neg (by decide)).trans (if_pos small)

theorem segReadNext_of_none {t : State} {k : Nat} (none : t.asmOf (8 + k) = none) (ix sub off : Nat) : t.segReadNext k ix sub off = t.zlPut k 0x22 0x10 [] := by
  simp only [State.segReadNext, none]
  rfl

/-- The last part of a snapshot releases its buffer. -/
theorem segReadNext_of_last {t : State} {k b off : Nat} {a : Asm} (held : t.asmOf (8 + k) = some (b, a)) (read : a.write = false) (next : a.parts = off)
    (total : a.total = a.data.length) (inside : off < a.total) (last : a.total ≤ off + 1024) :
    t.segReadNext k a.ix a.sub off = (t.asmDrop (8 + k)).zlPut k 0x22 0 (segPayload a.total (a.data.drop off)) := by
  have part : (a.data.drop off).take 1024 = a.data.drop off := List.take_of_length_le (by rw [List.length_drop]; omega)
  have ends : a.total ≤ off + (a.data.drop off).length := by rw [List.length_drop]; omega
  simp only [State.segReadNext, held, read, next, part, ends, bne_self_eq_false, Bool.or_self, Bool.false_eq_true, if_false, if_true]
  rfl

/-! ### Segmented writes (R443) -/

theorem segPart_of_none {t : State} {k : Nat} (none : t.asmOf (8 + k) = none) (off : Nat) (v : List Byte) : t.segPart k off v = t.zlPut k 0x25 0x10 (ackPayload 0) := by
  simp only [State.segPart, none]
  rfl

section Part
variable {t : State} {k b off : Nat} {a : Asm} {v : List Byte} (held : t.asmOf (8 + k) = some (b, a)) (write : a.write = true) (fits : v.length ≤ 1024)
include held write fits

theorem segPart_of_misplaced (misplaced : a.data.length ≠ off) :
    t.segPart k off v = (t.asmDrop (8 + k)).zlPut k 0x25 0x10 (ackPayload a.data.length) := by
  have framed : ¬ 1024 < v.length := by omega
  simp only [State.segPart, held, framed, write, bne_iff_ne.2 misplaced, Bool.not_true, Bool.false_or, Bool.true_or, if_false, if_true]
  rfl

variable (place : a.data.length = off)
include place

theorem segPart_of_last (last : off + v.length = a.total) :
    t.segPart k off v = State.zlEnd k 0x25 (ackPayload a.total) ((t.asmDrop (8 + k)).odWriteReq (8 + k) a.ix a.sub (a.data ++ v) (.zalene k 0x25)) := by
  have framed : ¬ 1024 < v.length := by omega
  have whole : (a.data ++ v).length = a.total := by rw [List.length_append]; omega
  simp only [State.segPart, held, framed, write, place, whole, bne_self_eq_false, lt_irrefl, decide_false, Bool.not_true, Bool.or_self, Bool.false_eq_true, if_false, if_true]

theorem segPart_of_inner (more : off + v.length < a.total) : t.segPart k off v =
    if a.parts = 3 then ({ t with asm := tabSet t.asm b { a with data := a.data ++ v, parts := 0 } } : State).zlPut k 0x25 0 (ackPayload (off + v.length))
    else { t with asm := tabSet t.asm b { a with data := a.data ++ v, parts := a.parts + 1 } } := by
  have framed : ¬ 1024 < v.length := by omega
  have length : (a.data ++ v).length = off + v.length := by rw [List.length_append, place]
  have partial_ : ¬ (off + v.length = a.total) := by omega
  have inside : ¬ (a.total < off + v.length) := by omega
  simp only [State.segPart, held, framed, write, place, length, partial_, inside, bne_self_eq_false, decide_false, Bool.not_true, Bool.or_self, Bool.false_eq_true, if_false]
  rfl

end Part

/-- The buffer of a SEG_WRITE is the lowest free one. -/
theorem asmOpen_of_free {t : State} {a : Asm} {b : Nat} (unheld : t.asmOf a.src = none) (free : t.asmFree = some b) :
    t.asmOpen a = ({ t with asm := tabSet t.asm b a }, 0) := by
  simp only [State.asmOpen, asmDrop_of_none unheld, free]
  rfl

theorem asmOpen_of_full {t : State} {a : Asm} (unheld : t.asmOf a.src = none) (full : t.asmFree = none) : t.asmOpen a = (t, 0x0F) := by
  simp only [State.asmOpen, asmDrop_of_none unheld, full]
  rfl

section SegWrite
variable {t : State} {k ix sub total : Nat} (allowed : t.odPre (t.srcRole (8 + k)) ix sub true false = 0) (short : total ≤ 131072) (unheld : t.asmOf (8 + k) = none)
include allowed short unheld

theorem segWrite_of_free {b : Nat} (free : t.asmFree = some b) : t.segWrite k ix sub total =
    ({ t with asm := tabSet t.asm b { src := 8 + k, write := true, ix := ix, sub := sub, total := total, data := [], parts := 0 } } : State).zlPut k 0x23 0
      (leBytes 1 4 ++ leBytes 3 0) := by
  have fits : ¬ 131072 < total := by omega
  have opened := asmOpen_of_free (a := { src := 8 + k, write := true, ix := ix, sub := sub, total := total, data := [], parts := 0 }) unheld free
  simp only [State.segWrite, allowed, fits, opened, if_false]
  rfl

theorem segWrite_of_full (full : t.asmFree = none) : t.segWrite k ix sub total = t.zlPut k 0x23 0x0F [] := by
  have fits : ¬ 131072 < total := by omega
  have refused := asmOpen_of_full (a := { src := 8 + k, write := true, ix := ix, sub := sub, total := total, data := [], parts := 0 }) unheld full
  simp only [State.segWrite, allowed, fits, refused, if_false]
  rfl

end SegWrite

/-! ### Events (R450) -/

theorem eventAck_of_own {s : State} {k ev : Nat} {x : Session} {o : EvOut} (held : tabFind s.zl.sessions k = some x) (out : x.outstanding = some o) (own : o.seq = ev) :
    s.eventAck k ev = s.putSession k { x with outstanding := none, retries := 0, queue := x.queue.drop 1 } := by
  simp only [State.eventAck, held, out, own, if_true]

theorem eventAck_of_other {s : State} {k ev : Nat} {x : Session} {o : EvOut} (held : tabFind s.zl.sessions k = some x) (out : x.outstanding = some o) (other : o.seq ≠ ev) :
    s.eventAck k ev = s := by
  simp only [State.eventAck, held, out, other, if_false]

theorem eventSend_of_quiet {s : State} {k : Nat} {x : Session} (held : tabFind s.zl.sessions k = some x)
    (quiet : x.queue = [] ∨ x.outstanding ≠ none ∨ s.zlOn = false) : s.eventSend k = s := by
  simp only [State.eventSend, held]
  split
  · rfl
  · next r l queue =>
    refine if_pos ?_
    rcases quiet with h | h | h
    · rw [queue] at h
      cases h
    · rw [Option.isSome_iff_ne_none.2 h, Bool.or_true]
    · rw [h]
      rfl

theorem eventSend_of_head {s : State} {k : Nat} {x : Session} {r : Rec} {l : List Rec} (held : tabFind s.zl.sessions k = some x) (queue : x.queue = r :: l)
    (free : x.outstanding = none) (on : s.zlOn = true) : s.eventSend k =
      (s.putSession k { x with txSeq := (x.txSeq + 1) % 2 ^ 32, outstanding := some { seq := x.evSeq, frame := (x.txSeq + 1) % 2 ^ 32, lost := x.lost }, retries := 0, evSeq := (x.evSeq + 1) % 2 ^ 32, lost := 0 }).emit
        (.zalene 0x30 x.number ((x.txSeq + 1) % 2 ^ 32) 0 (leBytes 4 x.evSeq ++ leBytes 4 x.lost ++ r.bytes)) := by
  simp only [State.eventSend, held, queue, free, on, Option.isSome_none, Bool.not_true, Bool.or_self, Bool.false_eq_true, if_false]
  rfl

theorem eventTimeout_of_none {s : State} {k : Nat} {x : Session} (held : tabFind s.zl.sessions k = some x) (none : x.outstanding = none) : s.eventTimeout k = s := by
  simp only [State.eventTimeout, held, none]

section Timeout
variable {s : State} {k : Nat} {x : Session} {r : Rec} {l : List Rec} {o : EvOut} (held : tabFind s.zl.sessions k = some x) (queue : x.queue = r :: l)
  (out : x.outstanding = some o)
include held queue out

theorem eventTimeout_of_retry (few : x.retries < 3) : s.eventTimeout k =
    (s.putSession k { x with retries := x.retries + 1 }).emit (.zalene 0x30 x.number o.frame 0 (leBytes 4 o.seq ++ leBytes 4 o.lost ++ r.bytes)) := by
  simp only [State.eventTimeout, held, queue, out, few, if_true]
  rfl

theorem eventTimeout_of_spent (spent : 3 ≤ x.retries) : s.eventTimeout k = (s.sessionEnd k).report (srcId SYS 7 34) 0 k := by
  simp only [State.eventTimeout, held, queue, out, show ¬ x.retries < 3 by omega, if_false]
  rfl

end Timeout

/-! ### Reads without a session (R428) -/

theorem object_1000 : odHighest 0x1000 ≠ none := by decide +kernel

theorem zlRead0_of_other {s : State} {ix sub : Nat} {r : OdRow} (object : odHighest ix ≠ none) (row : s.odEntry ix sub = some r) (other : ix ≠ 0x1000) (info : Bool) :
    s.zlRead0 ix sub info = s.zlSend0 0x20 3 [] := by
  obtain ⟨h, object⟩ := Option.ne_none_iff_exists'.1 object
  simp only [State.zlRead0, object, row]
  exact if_pos (.inl other)

theorem zlRead0_of_const {s : State} {sub : Nat} {r : OdRow} (row : s.odEntry 0x1000 sub = some r) (const : r.acc = .const) :
    s.zlRead0 0x1000 sub false = s.zlSend0 0x20 0 (readPayload r.ty.code (s.odBytes 0 0x1000 sub false)) := by
  obtain ⟨h, object⟩ := Option.ne_none_iff_exists'.1 object_1000
  simp only [State.zlRead0, object, row]
  exact if_neg (by rintro (h | h) <;> [exact h rfl; exact h const])

/-! ### A request that runs -/

/-- While a session's request runs, its role and the checks of its writes are those it had before. -/
theorem srcRole_putSession (s : State) (k : Nat) (x : Session) : (s.putSession k x).srcRole (8 + k) = x.role := by
  have above : ¬ 8 + k < 2 := by omega
  have above' : ¬ 8 + k < 7 := by omega
  have above'' : ¬ 8 + k = 7 := by omega
  simp only [State.srcRole, above, above', above'', if_false, Nat.add_sub_cancel_left]
  rw [State.putSession, tabFind_tabSet_same]

theorem segTakes_of_running {s : State} (runs : s.odRuns = true) (steady : s.sec.sw = none) (n : Nat) : s.segTakes n = true := by
  have takes (ix sub : Nat) : s.odTakes ix sub = true := by rw [State.odTakes, runs, steady]; rfl
  simp only [State.segTakes, takes]
  split
  · split <;> rfl
  · rfl

/-! ### The claim about requests -/

/-- Every request of the claim is one on its session with its type. -/
theorem requests_are_requests (s : State) (n : BitVec 16) (q : BitVec 32) (ix : BitVec 16) (sub : BitVec 8) (v : List Byte) (off total ev : BitVec 32) (run info : Bool)
    (f : Instr) (type : Nat) (kind : (f, type) = (Instr.segRead n q ix sub off run, 0x22) ∨ (f, type) = (Instr.segWrite n q ix sub total, 0x23)
      ∨ (f, type) = (Instr.segAbort n q, 0x26) ∨ (f, type) = (Instr.eventAck n q ev, 0x31)
      ∨ (s.odTakes ix.toNat sub.toNat = true ∧ (f, type) = (Instr.zaleneWrite n q ix sub v, 0x21))
      ∨ (s.segTakes n.toNat = true ∧ (f, type) = (Instr.segment n q off v, 0x24)) ∨ (n ≠ 0 ∧ (f, type) = (Instr.zaleneRead n q ix sub run info, 0x20))) :
    IsRequest s f n.toNat q.toNat type := by
  simp only [Prod.mk.injEq] at kind
  rcases kind with ⟨rfl, rfl⟩ | ⟨rfl, rfl⟩ | ⟨rfl, rfl⟩ | ⟨rfl, rfl⟩ | ⟨takes, rfl, rfl⟩ | ⟨takes, rfl, rfl⟩ | ⟨some_, rfl, rfl⟩
  · exact ⟨_, exec_segRead s n q ix sub off run⟩
  · exact ⟨_, exec_segWrite s n q ix sub total⟩
  · exact ⟨_, exec_segAbort s n q⟩
  · exact ⟨_, exec_eventAck s n q ev⟩
  · exact ⟨_, by rw [exec_zaleneWrite, zlWrite_of_taken takes]⟩
  · exact ⟨_, by rw [exec_segment, if_pos takes]⟩
  · exact ⟨_, by rw [exec_zaleneRead, zlRead_of_some s (fun h => some_ (BitVec.eq_of_toNat_eq h))]⟩

/-- The lowest free assembly buffer of the four. -/
theorem asmFree_of_lowest {s : State} (b : Fin 4) (free : tabFind s.asm b.val = none) (lower : ∀ g : Fin 4, g.val < b.val → (tabFind s.asm g.val).isSome = true) :
    s.asmFree = some b.val :=
  find_range_of_lowest s.asm b.isLt free (fun g hg => lower ⟨g, by omega⟩ hg)

theorem asmFree_of_full {s : State} (full : ∀ g : Fin 4, (tabFind s.asm g.val).isSome = true) : s.asmFree = none :=
  find_range_of_full s.asm (fun g hg => full ⟨g, hg⟩)

section Running
variable {s t : State} {n ix : BitVec 16} {q off total ev : BitVec 32} {sub : BitVec 8} {v : List Byte} {run info : Bool} {k : Nat} {x : Session}
  (runs : s.odRuns = true) (some_ : n ≠ 0) (found : s.zlFind n.toNat = some (k, x)) (greater : x.rxSeq < q.toNat)
  (ht : t = s.putSession k { x with rxSeq := q.toNat, lastResp := none })
include runs some_ found greater ht

/-- A request with a greater sequence runs on the session it has marked. -/
theorem request_runs {f : Instr} {type : Nat} {g : State → Nat → State} (request : exec f s = .next (s.zlRequest n.toNat q.toNat type g)) : exec f s = .next (g t k) := by
  rw [request, zlRequest_runs runs (fun h => some_ (BitVec.eq_of_toNat_eq h)) found greater, ← ht]

theorem zaleneRead_runs : exec (.zaleneRead n q ix sub run info) s =
    .next (State.zlReadEnd k ix.toNat sub.toNat info (t.odReadReq (8 + k) ix.toNat sub.toNat run info (.zalene k 0x20))) :=
  request_runs runs some_ found greater ht (g := fun t slot => State.zlReadEnd slot ix.toNat sub.toNat info (t.odReadReq (8 + slot) ix.toNat sub.toNat run info (.zalene slot 0x20)))
    (by rw [exec_zaleneRead, zlRead_of_some s (fun h => some_ (BitVec.eq_of_toNat_eq h))])

theorem segRead_runs_first (first : off = 0) : exec (.segRead n q ix sub off run) s = .next (t.segReadFirst k ix.toNat sub.toNat run) := by
  rw [request_runs runs some_ found greater ht (exec_segRead s n q ix sub off run), if_pos first]

theorem segRead_runs_next (later : off ≠ 0) : exec (.segRead n q ix sub off run) s = .next (t.segReadNext k ix.toNat sub.toNat off.toNat) := by
  rw [request_runs runs some_ found greater ht (exec_segRead s n q ix sub off run), if_neg later]

theorem zaleneWrite_runs (steady : s.sec.sw = none) (fits : v.length ≤ 1024) : exec (.zaleneWrite n q ix sub v) s =
    .next (State.zlEnd k 0x21 [] (t.odWriteReq (8 + k) ix.toNat sub.toNat v (.zalene k 0x21))) := by
  have takes : s.odTakes ix.toNat sub.toNat = true := by rw [State.odTakes, runs, steady]; rfl
  have request : exec (.zaleneWrite n q ix sub v) s = .next (s.zlRequest n.toNat q.toNat 0x21 (fun t slot => if 1024 < v.length then t.zlPut slot 0x21 odFRAME []
      else State.zlEnd slot 0x21 [] (t.odWriteReq (8 + slot) ix.toNat sub.toNat v (.zalene slot 0x21)))) := by rw [exec_zaleneWrite, zlWrite_of_taken takes]
  rw [request_runs runs some_ found greater ht request, if_neg (by omega)]

theorem segment_runs (steady : s.sec.sw = none) : exec (.segment n q off v) s = .next (t.segPart k off.toNat v) :=
  request_runs runs some_ found greater ht (g := fun t slot => t.segPart slot off.toNat v) (by rw [exec_segment, if_pos (segTakes_of_running runs steady _)])

theorem segWrite_runs : exec (.segWrite n q ix sub total) s = .next (t.segWrite k ix.toNat sub.toNat total.toNat) :=
  request_runs runs some_ found greater ht (exec_segWrite s n q ix sub total)

theorem eventAck_runs : exec (.eventAck n q ev) s = .next (t.eventAck k ev.toNat) := request_runs runs some_ found greater ht (exec_eventAck s n q ev)

theorem segAbort_runs : exec (.segAbort n q) s = .next ((t.asmDrop (8 + k)).zlPut k 0x26 0 []) := request_runs runs some_ found greater ht (exec_segAbort s n q)

end Running

/-- Settles O49: each request by its session and sequence number, then by the dictionary's answer or the buffer it finds. -/
theorem zaleneRequests : Obligations.ZaleneRequests := by
  intro s n q ix sub v off total ev run info
  refine ⟨fun f type kind => request_checks (requests_are_requests s n q ix sub v off total ev run info f type kind), fun k x t runs steady some_ found greater ht => ?_,
    fun k x type st p held => ⟨zlPut_of_open held type st p, fun quiet => ?_, fun r l queue free on => ?_, fun r l o queue out on => ⟨fun few => ?_, fun spent => ?_⟩, fun none => ?_⟩,
    fun runs => ⟨fun other object row => ?_, fun r page row const plain => ?_⟩⟩
  · have read := zaleneRead_runs runs some_ found greater ht (ix := ix) (sub := sub) (run := run) (info := info)
    have segment := segment_runs runs some_ found greater ht steady (off := off) (v := v)
    have asm : t.asm = s.asm := by rw [ht]; rfl
    have asmOf : t.asmOf (8 + k) = s.asmOf (8 + k) := by rw [State.asmOf, asm, State.asmOf]
    have drop : ({ t with asm := s.asm.filter (fun p => p.2.src != 8 + k) } : State) = t.asmDrop (8 + k) := by rw [State.asmDrop, asm]
    refine ⟨fun r st w answer => ⟨fun bad => ?_, fun good asked => ?_, fun good plain small => ?_⟩, fun r st w fits answer => ?_, fun r st w first answer => ⟨fun bad => ?_, fun good small => ?_⟩,
      fun unheld => ⟨fun later => ?_, ?_⟩, fun b a held => ⟨fun isRead hix hsub next later whole inside last => ?_, fun write place fits more => ⟨fun few => ?_, fun fourth => ?_⟩, fun write misplaced fits => ?_,
        fun r st w write place fits last answer => ?_⟩, ?_, fun allowed open_ short => ⟨fun b unheld free lower => ?_, fun unheld full => ?_⟩, fun o open_ out => ⟨fun own => ?_, fun other => ?_⟩⟩
    · rw [read, answer, zlReadEnd_of_error bad]
    · subst good asked
      rw [read, answer, zlReadEnd_of_info]
    · subst good plain
      rw [read, answer, zlReadEnd_of_value _ _ _ _ small]
      rfl
    · rw [zaleneWrite_runs runs some_ found greater ht steady fits, answer, zlEnd_of_answer]
    · rw [segRead_runs_first runs some_ found greater ht first, segReadFirst_of_error answer bad]
    · subst good
      rw [segRead_runs_first runs some_ found greater ht first, segReadFirst_of_short answer small]
      rfl
    · rw [segRead_runs_next runs some_ found greater ht later, segReadNext_of_none (asmOf.trans unheld)]
    · rw [segment, segPart_of_none (asmOf.trans unheld)]
      rfl
    · have part : (a.data.drop off.toNat).length = a.total - off.toNat := by rw [List.length_drop, whole]
      rw [segRead_runs_next runs some_ found greater ht later, ← hix, ← hsub, segReadNext_of_last (asmOf.trans held) isRead next whole inside last, drop, segPayload, part]
    · rw [segment, segPart_of_inner (asmOf.trans held) write fits place more, if_neg (by omega), asm]
    · rw [segment, segPart_of_inner (asmOf.trans held) write fits place more, if_pos fourth, asm]
      rfl
    · rw [segment, segPart_of_misplaced (asmOf.trans held) write fits misplaced, drop]
      rfl
    · rw [drop] at answer
      rw [segment, segPart_of_last (asmOf.trans held) write fits place last, answer, zlEnd_of_answer]
      rfl
    · rw [segAbort_runs runs some_ found greater ht, drop]
    · have allowed' : t.odPre (t.srcRole (8 + k)) ix.toNat sub.toNat true false = 0 := by
        subst ht
        rw [srcRole_putSession]
        exact allowed
      have free' : t.asmFree = some b.val := by
        have lowest := asmFree_of_lowest b free lower
        rw [State.asmFree] at lowest ⊢
        rw [asm, lowest]
      rw [segWrite_runs runs some_ found greater ht, segWrite_of_free allowed' short (asmOf.trans unheld) free', asm]
    · have allowed' : t.odPre (t.srcRole (8 + k)) ix.toNat sub.toNat true false = 0 := by
        subst ht
        rw [srcRole_putSession]
        exact allowed
      have full' : t.asmFree = none := by
        have none_free := asmFree_of_full full
        rw [State.asmFree] at none_free ⊢
        rw [asm, none_free]
      rw [segWrite_runs runs some_ found greater ht, segWrite_of_full allowed' short (asmOf.trans unheld) full']
    · have marked : tabFind t.zl.sessions k = some { x with rxSeq := q.toNat, lastResp := none } := by
        subst ht
        exact tabFind_tabSet_same ..
      rw [eventAck_runs runs some_ found greater ht, eventAck_of_own marked out own]
    · have marked : tabFind t.zl.sessions k = some { x with rxSeq := q.toNat, lastResp := none } := by
        subst ht
        exact tabFind_tabSet_same ..
      rw [eventAck_runs runs some_ found greater ht, eventAck_of_other marked out other]
  · exact next_eq (eventSend_of_quiet held quiet)
  · exact next_eq (eventSend_of_head held queue free on)
  · exact next_eq ((if_pos on).trans (eventTimeout_of_retry held queue out few))
  · exact next_eq ((if_pos on).trans (eventTimeout_of_spent held queue out spent))
  · refine next_eq ?_
    split
    · exact eventTimeout_of_none held none
    · rfl
  · obtain ⟨r, row⟩ := Option.ne_none_iff_exists'.1 row
    refine next_eq ((if_pos rfl).trans ((if_pos runs).trans ?_))
    exact zlRead0_of_other object row (fun h => other (BitVec.eq_of_toNat_eq h)) info
  · subst page plain
    exact next_eq ((if_pos rfl).trans ((if_pos runs).trans (zlRead0_of_const row const)))

end Sys2Proof.Machine
end

section
/-! The fault collectors (R455 to R468): the records a report opens, merges into or adds to, at its block, its region and the chip. -/

namespace Sys2Proof.Machine
open Sys2Proof

/-! ### Nothing but the collectors changes -/

/-- t differs from s in the collectors alone. -/
def FcOnly (s t : State) : Prop := { t with fc := s.fc } = s

theorem FcOnly.of_fc (s : State) (fc : Fc) : FcOnly s { s with fc := fc } := rfl

theorem FcOnly.trans {s t u : State} (a : FcOnly s t) (b : FcOnly t u) : FcOnly s u := by
  have put := congrArg (fun x : State => ({ x with fc := s.fc } : State)) (show ({ u with fc := t.fc } : State) = t from b)
  exact put.trans (show ({ t with fc := s.fc } : State) = s from a)

/-! ### Duplicates (R462) -/

/-- What a duplicate leaves of the collectors above its block. -/
structure DupAdded (s t : State) (src n : Nat) : Prop where
  frame : FcOnly s t
  block : t.fc.block = s.fc.block
  waiting : t.fc.up.length = s.fc.up.length
  chip : ∀ r, s.fc.chip = some r → r.source = src → t.fc.chip = some (r.addDup n)

theorem dupUp_added (s : State) (rg src n : Nat) : DupAdded s (s.dupUp rg src n) src n := by
  unfold State.dupUp
  extract_lets collectors regional regionalCollectors waiting
  have h1 : FcOnly s regional ∧ regional.fc.block = s.fc.block ∧ regional.fc.up = s.fc.up ∧ regional.fc.chip = s.fc.chip := by
    unfold regional
    split
    · split
      · exact ⟨rfl, rfl, rfl, rfl⟩
      · exact ⟨rfl, rfl, rfl, rfl⟩
    · exact ⟨rfl, rfl, rfl, rfl⟩
  obtain ⟨frame, block, up, chip⟩ := h1
  have h2 : FcOnly s waiting ∧ waiting.fc.block = s.fc.block ∧ waiting.fc.up.length = s.fc.up.length ∧ waiting.fc.chip = s.fc.chip :=
    ⟨frame.trans (.of_fc regional _), block, (List.length_map ..).trans (congrArg List.length up), chip⟩
  clear_value waiting
  obtain ⟨frame, block, up, chip⟩ := h2
  split
  · next r held =>
    split
    · next same =>
      refine ⟨frame.trans (.of_fc waiting _), block, up, fun q open_ _ => ?_⟩
      rw [chip, open_] at held
      rw [Option.some.inj held]
    · next other =>
      refine ⟨frame, block, up, fun q open_ same => ?_⟩
      rw [chip, open_] at held
      exact absurd (Option.some.inj held ▸ same) other
  · next empty =>
    refine ⟨frame, block, up, fun q open_ _ => ?_⟩
    rw [chip, open_] at empty
    cases empty

/-! ### A report below C4 outside a recording (R461) -/

section Calm
variable {s : State} {rg cls : Nat} (calm : rg ≠ MOT ∨ s.mrec.st ≠ 1)
include calm

theorem unarmed : ¬ (rg = MOT ∧ 2 ≤ cls ∧ s.mrec.st = 1 ∧ s.ent 0xF020 5 = 2 ∧ s.mrec.left.isNone = true) := by
  rintro ⟨region, -, recording, -⟩
  exact calm.elim (fun h => h region) (fun h => h recording)

variable (below : cls < 4) {blk src : Nat}
include below

theorem reportBy_of_closed (closed : tabFind s.fc.block (rg * 128 + blk) = none) (cell detail : Nat) (f : Bool) : s.reportBy rg blk src cell cls detail f =
    ({ s with fc.block := tabSet s.fc.block (rg * 128 + blk) (s.newFault src cell cls detail f) } : State).toRegion rg (s.newFault src cell cls detail f) := by
  simp only [State.reportBy, if_neg (unarmed calm), closed, show ¬ cls = 4 by omega, if_false]

theorem reportBy_of_same {q : FaultRec} (held : tabFind s.fc.block (rg * 128 + blk) = some q) (same : q.source = src) (cell detail : Nat) (f : Bool) :
    s.reportBy rg blk src cell cls detail f = ({ s with fc.block := tabSet s.fc.block (rg * 128 + blk) (q.addDup 1) } : State).dupUp rg src 1 := by
  simp only [State.reportBy, if_neg (unarmed calm), held, same, show ¬ cls = 4 by omega, if_true, if_false]

section Merge
variable {q : FaultRec} (held : tabFind s.fc.block (rg * 128 + blk) = some q) (other : q.source ≠ src)
include held other

theorem reportBy_of_merge {g : FaultRec} (region : tabFind s.fc.region rg = some g) (cell detail : Nat) (f : Bool) : s.reportBy rg blk src cell cls detail f =
    { s with fc.block := tabSet s.fc.block (rg * 128 + blk) (q.merge src cls), fc.region := tabSet s.fc.region rg (g.merge src cls), fc.up := s.fc.up ++ [(rg, .merge src cls)] } := by
  simp only [State.reportBy, if_neg (unarmed calm), held, other, region, show ¬ cls = 4 by omega, if_false]

theorem reportBy_of_lone (region : tabFind s.fc.region rg = none) (cell detail : Nat) (f : Bool) : s.reportBy rg blk src cell cls detail f =
    { s with fc.block := tabSet s.fc.block (rg * 128 + blk) (q.merge src cls) } := by
  simp only [State.reportBy, if_neg (unarmed calm), held, other, region, show ¬ cls = 4 by omega, if_false]

end Merge

end Calm

theorem toRegion_of_closed {u : State} {rg : Nat} (closed : tabFind u.fc.region rg = none) (r : FaultRec) :
    u.toRegion rg r = { u with fc.region := tabSet u.fc.region rg r, fc.up := u.fc.up ++ [(rg, .opened r)] } := by
  simp only [State.toRegion, closed]

theorem toRegion_of_merge {u : State} {rg : Nat} {q : FaultRec} (held : tabFind u.fc.region rg = some q) {r : FaultRec} (other : q.source ≠ r.source) :
    u.toRegion rg r = { u with fc.region := tabSet u.fc.region rg (q.merge r.source r.cls), fc.up := u.fc.up ++ [(rg, .merge r.source r.cls)] } := by
  simp only [State.toRegion, held, other, if_false]

theorem fcOnly_toRegion (u : State) (rg : Nat) (r : FaultRec) : FcOnly u (u.toRegion rg r) := by
  unfold State.toRegion
  split
  · rfl
  · split
    · exact (dupUp_added ..).frame
    · rfl

/-- A report below C4 changes the collectors alone, outside a recording. -/
theorem fcOnly_reportBy {s : State} {rg cls : Nat} (below : cls < 4) (calm : rg ≠ MOT ∨ s.mrec.st ≠ 1) (blk src cell detail : Nat) (f : Bool) :
    FcOnly s (s.reportBy rg blk src cell cls detail f) := by
  cases held : tabFind s.fc.block (rg * 128 + blk) with
  | none =>
    rw [reportBy_of_closed calm below held]
    exact (FcOnly.of_fc s _).trans (fcOnly_toRegion ..)
  | some q =>
    by_cases same : q.source = src
    · rw [reportBy_of_same calm below held same]
      exact (FcOnly.of_fc s _).trans (dupUp_added ..).frame
    · cases region : tabFind s.fc.region rg with
      | none =>
        rw [reportBy_of_lone calm below held same region]
        rfl
      | some g =>
        rw [reportBy_of_merge calm below held same region]
        rfl

/-! ### FAULT_REPORT -/

theorem exec_faultReport_of_plain (s : State) (b : BitVec 7) (src : BitVec 16) (cell : BitVec 20) (d : BitVec 32)
    (plain : ¬ (srcRegion src.toNat = MOT ∧ srcBlock src.toNat < 4 ∧ srcNumber src.toNat = 0)) : exec (.faultReport b src cell d) s =
    .next (s.reportBy (srcRegion src.toNat) b.toNat src.toNat cell.toNat (s.reportClass src.toNat cell.toNat) d.toNat false) :=
  congrArg (fun t : State => (Host.Outcome.next (t.reportBy (srcRegion src.toNat) b.toNat src.toNat cell.toNat (s.reportClass src.toNat cell.toNat) d.toNat false) : Res))
    (if_neg plain)

/-- The correctable errors of a lane's cell-state memory. -/
theorem lane_source {k : Nat} (hk : k < 4) : (BitVec.ofNat 16 (srcId MOT k 0)).toNat = srcId MOT k 0 ∧ srcRegion (srcId MOT k 0) = MOT ∧ srcBlock (srcId MOT k 0) = k
    ∧ srcNumber (srcId MOT k 0) = 0 ∧ srcId MOT k 0 ≠ 0x9FC0 ∧ srcId MOT k 0 ≠ 0x9FC1 := by
  interval_cases k <;> decide

theorem localAction_lane (s : State) {k : Nat} (hk : k < 4) (cell : Nat) : s.localAction (srcId MOT k 0) cell = s.quiet (fun t => t.cnt MC_ERR_ECC_CORR k) := by
  interval_cases k <;> rfl

theorem exec_faultReport_of_lane (s : State) (k : Fin 4) (c : BitVec 20) (d : BitVec 32) : ∃ u : State,
    exec (.faultReport ⟨k.val, by omega⟩ (BitVec.ofNat 16 (srcId MOT k.val 0)) c d) s =
      .next (u.reportBy MOT k.val (srcId MOT k.val 0) c.toNat (s.classOf (srcId MOT k.val 0) c.toNat) d.toNat false)
    ∧ u.rf MC_ERR_ECC_CORR k.val = min (s.rf MC_ERR_ECC_CORR k.val + 1) (2 ^ MC_ERR_ECC_CORR.width - 1) ∧ u.fc = s.fc := by
  obtain ⟨source, region, block, number, notCode0, notCode1⟩ := lane_source k.isLt
  have counted := localAction_lane s k.isLt c.toNat
  have plain : s.reportClass (srcId MOT k.val 0) c.toNat = s.classOf (srcId MOT k.val 0) c.toNat := by
    simp only [State.reportClass, notCode0, notCode1, if_false, Bool.false_eq_true]
  refine ⟨s.quiet (fun t => t.cnt MC_ERR_ECC_CORR k.val), ?_, rf_cnt_same .., rfl⟩
  change Host.Outcome.next _ = _
  rw [source, region, block, number, if_pos ⟨rfl, k.isLt, rfl⟩, counted, plain]
  rfl

/-! ### The chip collector (R462, R463) -/

section Chip
variable {s : State} {r : Fin 5}

theorem exec_chipRecordOpen_of_none (none : takeUp r.val s.fc.up = none) : exec (.chipRecordOpen r) s = .next s := by
  change execChipRecordOpen r s = _
  simp only [execChipRecordOpen, none]

theorem exec_chipRecordOpen_of_report {u : UpReport} {l : List (Nat × UpReport)} (waits : takeUp r.val s.fc.up = some (u, l)) :
    exec (.chipRecordOpen r) s = .next (({ s with fc.up := l } : State).chipTake r.val u) := by
  change execChipRecordOpen r s = _
  simp only [execChipRecordOpen, waits]

end Chip

/-- The chip's record of a report that opens it, counted. -/
def State.chipOpened (s : State) (f : FaultRec) : State := ({ s with fc.chip := some f } : State).cnt FC_STATUS_RECORDS

theorem chipTake_of_empty {s : State} (empty : s.fc.chip = none) (rg : Nat) (f : FaultRec) : s.chipTake rg (.opened f) =
    if f.cls ≤ 1 ∨ f.cls = 4 then ((s.chipOpened f).react1 rg f.source f.cls).enqueueRec true (((s.chipOpened f).react1 rg f.source f.cls).faultRec f)
    else (s.chipOpened f).react1 rg f.source f.cls := by
  simp only [State.chipTake, empty]
  rfl

theorem react1_of_low {s : State} {cls : Nat} (low : cls ≤ 2) (rg src : Nat) : s.react1 rg src cls = (s.takeOn rg src cls).raiseHighest cls := by
  simp only [State.react1, show ¬ cls = 3 by omega, show ¬ cls = 4 by omega, if_false]

theorem takeOn_of_lowest {s : State} {cls : Nat} (low : cls ≤ 1) (rg src : Nat) : s.takeOn rg src cls = s := by
  simp only [State.takeOn, show ¬ cls = 2 by omega, show ¬ cls = 3 by omega, if_false]

theorem takeOn_of_two (s : State) (rg src : Nat) : s.takeOn rg src 2 = { s with fc.c2Sources := s.fc.c2Sources ++ [src] } := rfl

/-- The reaction to a class of at most 2: the unit of a C2 is taken on, HIGHEST is raised. -/
structure ReactedLow (s t : State) (src cls : Nat) : Prop where
  chip : t.fc.chip = s.fc.chip
  up : t.fc.up = s.fc.up
  regions : t.fc.c3Regions = s.fc.c3Regions
  sources : t.fc.c2Sources = if cls = 2 then s.fc.c2Sources ++ [src] else s.fc.c2Sources
  recd : t.recd = s.recd
  highest : t.rf FC_STATUS_HIGHEST = max (s.rf FC_STATUS_HIGHEST) cls % 8
  records : t.rf FC_STATUS_RECORDS = s.rf FC_STATUS_RECORDS

theorem react1_low (s : State) {cls : Nat} (low : cls ≤ 2) (rg src : Nat) : ReactedLow s (s.react1 rg src cls) src cls := by
  rw [react1_of_low low]
  by_cases two : cls = 2
  · subst two
    rw [takeOn_of_two]
    exact ⟨rfl, rfl, rfl, rfl, rfl, rf_wf_same .., rf_wf_power _ (by decide) _⟩
  · rw [takeOn_of_lowest (by omega)]
    exact ⟨rfl, rfl, rfl, (if_neg two).symm, rfl, rf_wf_same .., rf_wf_power _ (by decide) _⟩

/-- A report that opens the chip's record, below C3. -/
theorem chipTake_opens {s : State} (empty : s.fc.chip = none) (rg : Nat) {f : FaultRec} (low : f.cls ≤ 2) :
    (s.chipTake rg (.opened f)).fc.chip = some f ∧ (s.chipTake rg (.opened f)).fc.up = s.fc.up
    ∧ (s.chipTake rg (.opened f)).rf FC_STATUS_RECORDS = min (s.rf FC_STATUS_RECORDS + 1) (2 ^ FC_STATUS_RECORDS.width - 1)
    ∧ (s.chipTake rg (.opened f)).rf FC_STATUS_HIGHEST = max (s.rf FC_STATUS_HIGHEST) f.cls % 8
    ∧ (f.cls ≤ 1 → ∃ x : Rec, (s.chipTake rg (.opened f)).recd.inbox = s.recd.inbox ++ [(true, x)] ∧ x.source = f.source ∧ x.cls = f.cls ∧ x.detail = f.detail
      ∧ (s.chipTake rg (.opened f)).fc.c2Sources = s.fc.c2Sources)
    ∧ (f.cls = 2 → (s.chipTake rg (.opened f)).recd = s.recd ∧ (s.chipTake rg (.opened f)).fc.c2Sources = s.fc.c2Sources ++ [f.source])
    ∧ (s.chipTake rg (.opened f)).fc.c3Regions = s.fc.c3Regions := by
  have reaction := react1_low (s.chipOpened f) low rg f.source
  have counted : (s.chipOpened f).rf FC_STATUS_RECORDS = min (s.rf FC_STATUS_RECORDS + 1) (2 ^ FC_STATUS_RECORDS.width - 1) := rf_cnt_same ..
  have highest : (s.chipOpened f).rf FC_STATUS_HIGHEST = s.rf FC_STATUS_HIGHEST := rf_wf_power _ (by decide) _
  rw [chipTake_of_empty empty]
  generalize (s.chipOpened f).react1 rg f.source f.cls = t at reaction
  by_cases lowest : f.cls ≤ 1
  · rw [if_pos (.inl lowest)]
    refine ⟨reaction.chip, reaction.up, reaction.records.trans counted, by rw [← highest]; exact reaction.highest, fun _ => ⟨t.faultRec f, ?_, rfl, rfl, rfl, ?_⟩,
      fun two => absurd two (by omega), reaction.regions⟩
    · exact congrArg (fun x : Recorder => x.inbox ++ [(true, t.faultRec f)]) reaction.recd
    · exact reaction.sources.trans (if_neg (by omega))
  · have two : f.cls = 2 := by omega
    rw [if_neg (by omega)]
    exact ⟨reaction.chip, reaction.up, reaction.records.trans counted, by rw [← highest]; exact reaction.highest, fun h => absurd h lowest,
      fun _ => ⟨reaction.recd, reaction.sources.trans (if_pos two)⟩, reaction.regions⟩

theorem chipTake_of_duplicate {s : State} {c f : FaultRec} (open_ : s.fc.chip = some c) (same : c.source = f.source) (rg : Nat) :
    s.chipTake rg (.opened f) = { s with fc.chip := some (c.addDup (1 + f.dup)) } := by
  simp only [State.chipTake, open_, same, if_true]

theorem chipTake_of_merge {s : State} {c : FaultRec} {cls : Nat} (open_ : s.fc.chip = some c) (low : cls ≤ 1) (rg src : Nat) :
    s.chipTake rg (.merge src cls) = ({ s with fc.chip := some (c.merge src cls) } : State).raiseHighest cls := by
  simp only [State.chipTake, open_]
  rw [react1_of_low (by omega), takeOn_of_lowest low]

/-! ### The end of a C2 (R464 step 5) -/

theorem exec_c2Remapped_of_other {s : State} {us : Nat} (other : s.fc.chip = none ∨ ∃ r, s.fc.chip = some r ∧ r.cls ≠ 2) : exec (.c2Remapped us) s = .next s := by
  change execC2Remapped us s = _
  rcases other with none | ⟨r, open_, cls⟩
  · simp only [execC2Remapped, none]
  · simp only [execC2Remapped, open_, cls, if_false]

theorem exec_c2Remapped_of_two {s : State} {us : Nat} {r : FaultRec} (open_ : s.fc.chip = some r) (two : r.cls = 2) : exec (.c2Remapped us) s = .next (s.endRecord us) := by
  change execC2Remapped us s = _
  simp only [execC2Remapped, open_, two, if_true]

/-- The chip's record with its measured interruption, sent to the recorder, before it closes. -/
def State.recordSent (s : State) (r : FaultRec) : State := ({ s with fc.chip := some r } : State).enqueueRec false (s.faultRec r)

theorem endRecord_of_open {s : State} {r : FaultRec} (open_ : s.fc.chip = some r) (us : Nat) :
    s.endRecord us = (s.recordSent { r with interrupt := min us 65535 }).closeChip := by
  simp only [State.endRecord, open_]
  rfl

theorem closeChip_closes {t : State} {r : FaultRec} (open_ : t.fc.chip = some r) :
    t.closeChip.fc.chip = none ∧ t.closeChip.fc.last = some r ∧ t.closeChip.fc.c2Sources = [] ∧ t.closeChip.recd = t.recd ∧ FcOnly t t.closeChip := by
  simp only [State.closeChip, open_]
  exact ⟨trivial, trivial, trivial, trivial, rfl⟩

theorem endRecord_ends {s : State} {r : FaultRec} (open_ : s.fc.chip = some r) (us : Nat) : ∃ x : Rec, (s.endRecord us).fc.chip = none
    ∧ (s.endRecord us).fc.last = some { r with interrupt := min us 65535 } ∧ (s.endRecord us).fc.c2Sources = []
    ∧ (s.endRecord us).recd.inbox = s.recd.inbox ++ [(false, x)] ∧ x.source = r.source ∧ x.interrupt = min us 65535
    ∧ { s.endRecord us with fc := s.fc, recd.inbox := s.recd.inbox } = s := by
  obtain ⟨chip, last, sources, recd, frame⟩ := closeChip_closes (t := s.recordSent { r with interrupt := min us 65535 }) rfl
  rw [endRecord_of_open open_]
  refine ⟨s.faultRec { r with interrupt := min us 65535 }, chip, last, sources, congrArg Recorder.inbox recd, rfl, rfl, ?_⟩
  exact congrArg (fun t : State => { t with fc := s.fc, recd.inbox := s.recd.inbox }) frame

/-! ### Forced reports and CLEAR (R459, R468) -/

theorem exec_fcForceGo (s : State) : exec .fcForceGo s = .next s.fcForce := rfl
theorem exec_fcClear (s : State) : exec .fcClear s = .next s.fcClear := rfl

theorem fcForce_of_pending {s : State} (pending : s.rf FC_FORCE_RESULT = 1) : s.fcForce = s := if_pos pending

section Force
variable {s : State} (ready : s.rf FC_FORCE_RESULT ≠ 1)
include ready

theorem fcForce_of_refused (bad : (srcRow (s.rf FC_FORCE_SOURCE)).isSome = false
      ∨ (s.mode ≠ modeTest ∧ 2 < s.classOf (s.rf FC_FORCE_SOURCE) (s.rf FC_FORCE_CELL_CELL))) : s.fcForce = s.wf FC_FORCE_RESULT 3 := by
  have refused : ((srcRow (s.rf FC_FORCE_SOURCE)).isSome && (s.mode == modeTest || decide (s.classOf (s.rf FC_FORCE_SOURCE) (s.rf FC_FORCE_CELL_CELL) ≤ 2))) = false := by
    rcases bad with h | ⟨mode, high⟩
    · rw [h, Bool.false_and]
    · rw [beq_eq_false_iff_ne.2 mode, decide_eq_false (by omega), Bool.or_self, Bool.and_false]
  simp only [State.fcForce, ready, refused, if_false, Bool.false_eq_true]

theorem fcForce_of_allowed (known : (srcRow (s.rf FC_FORCE_SOURCE)).isSome = true)
    (allowed : s.mode = modeTest ∨ s.classOf (s.rf FC_FORCE_SOURCE) (s.rf FC_FORCE_CELL_CELL) ≤ 2) : s.fcForce =
    ((s.localAction (s.rf FC_FORCE_SOURCE) (s.rf FC_FORCE_CELL_CELL)).reportBy (srcRegion (s.rf FC_FORCE_SOURCE)) (srcBlock (s.rf FC_FORCE_SOURCE)) (s.rf FC_FORCE_SOURCE)
      (s.rf FC_FORCE_CELL_CELL) (s.reportClass (s.rf FC_FORCE_SOURCE) (s.rf FC_FORCE_CELL_CELL)) 0 true).wf FC_FORCE_RESULT 2 := by
  have taken : ((srcRow (s.rf FC_FORCE_SOURCE)).isSome && (s.mode == modeTest || decide (s.classOf (s.rf FC_FORCE_SOURCE) (s.rf FC_FORCE_CELL_CELL) ≤ 2))) = true := by
    rw [known, Bool.true_and, Bool.or_eq_true, beq_iff_eq, decide_eq_true_eq]
    exact allowed
  simp only [State.fcForce, ready, taken, if_false, if_true]

end Force

/-! ### The claim about reports -/

/-- A report opens, adds to or merges into the records of its block and its region. -/
theorem reports_are_collected (s : State) (rg blk src cell cls detail : Nat) (f : Bool) (below : cls < 4) (calm : rg ≠ MOT ∨ s.mrec.st ≠ 1) :
    (tabFind s.fc.block (rg * 128 + blk) = none → tabFind s.fc.region rg = none → s.reportBy rg blk src cell cls detail f =
      { s with fc.block := tabSet s.fc.block (rg * 128 + blk) (s.newFault src cell cls detail f), fc.region := tabSet s.fc.region rg (s.newFault src cell cls detail f), fc.up := s.fc.up ++ [(rg, .opened (s.newFault src cell cls detail f))] })
    ∧ (∀ q, tabFind s.fc.block (rg * 128 + blk) = none → tabFind s.fc.region rg = some q → q.source ≠ src → s.reportBy rg blk src cell cls detail f =
      { s with fc.block := tabSet s.fc.block (rg * 128 + blk) (s.newFault src cell cls detail f), fc.region := tabSet s.fc.region rg (q.merge src cls), fc.up := s.fc.up ++ [(rg, .merge src cls)] })
    ∧ (∀ q g, tabFind s.fc.block (rg * 128 + blk) = some q → q.source ≠ src → tabFind s.fc.region rg = some g → s.reportBy rg blk src cell cls detail f =
      { s with fc.block := tabSet s.fc.block (rg * 128 + blk) (q.merge src cls), fc.region := tabSet s.fc.region rg (g.merge src cls), fc.up := s.fc.up ++ [(rg, .merge src cls)] })
    ∧ (∀ q, tabFind s.fc.block (rg * 128 + blk) = some q → q.source = src → ∃ t : State, s.reportBy rg blk src cell cls detail f = t ∧ { t with fc := s.fc } = s
      ∧ t.fc.block = tabSet s.fc.block (rg * 128 + blk) { q with ovf := true, dup := min (q.dup + 1) 65535 } ∧ t.fc.up.length = s.fc.up.length
      ∧ (∀ r, s.fc.chip = some r → r.source = src → t.fc.chip = some { r with ovf := true, dup := min (r.dup + 1) 65535 }))
    ∧ { s.reportBy rg blk src cell cls detail f with fc := s.fc } = s := by
  refine ⟨fun closed region => ?_, fun q closed region other => ?_, fun q g held other region => reportBy_of_merge calm below held other region cell detail f,
    fun q held same => ?_, fcOnly_reportBy below calm blk src cell detail f⟩
  · exact (reportBy_of_closed calm below closed cell detail f).trans (toRegion_of_closed (u := { s with fc.block := tabSet s.fc.block (rg * 128 + blk) (s.newFault src cell cls detail f) }) region _)
  · exact (reportBy_of_closed calm below closed cell detail f).trans (toRegion_of_merge (u := { s with fc.block := tabSet s.fc.block (rg * 128 + blk) (s.newFault src cell cls detail f) }) region (r := s.newFault src cell cls detail f) other)
  · have added := dupUp_added { s with fc.block := tabSet s.fc.block (rg * 128 + blk) (q.addDup 1) } rg src 1
    rw [reportBy_of_same calm below held same]
    exact ⟨_, rfl, (FcOnly.of_fc s _).trans added.frame, added.block, added.waiting, added.chip⟩

/-- Settles O50: by what the collectors hold. -/
theorem faultReportsAreCollected : Obligations.FaultReportsAreCollected := by
  intro s
  refine ⟨fun rg blk src cell cls detail f below calm => reports_are_collected s rg blk src cell cls detail f below calm, fun b src cell d plain => exec_faultReport_of_plain s b src cell d plain,
    exec_faultReport_of_lane s, fun r => ⟨exec_chipRecordOpen_of_none, fun f l waits empty low => ?_, fun f l c waits open_ same => ?_, fun src cls l c waits open_ low => ?_⟩,
    fun us => ⟨exec_c2Remapped_of_other, fun r open_ two => ?_⟩, fun pending => ?_, fun ready bad => ?_, fun ready known allowed => ?_, fun fatal => ?_,
    fun alive => ⟨fun none => ?_, fun r open_ => ?_⟩⟩
  · exact ⟨_, exec_chipRecordOpen_of_report waits, chipTake_opens (s := { s with fc.up := l }) empty r.val low⟩
  · rw [exec_chipRecordOpen_of_report waits, chipTake_of_duplicate (s := { s with fc.up := l }) open_ same]
  · rw [exec_chipRecordOpen_of_report waits, chipTake_of_merge (s := { s with fc.up := l }) open_ low]
    rfl
  · obtain ⟨x, ended⟩ := endRecord_ends open_ us
    exact ⟨_, x, exec_c2Remapped_of_two open_ two, ended⟩
  · rw [exec_fcForceGo, fcForce_of_pending pending]
  · rw [exec_fcForceGo, fcForce_of_refused ready bad]
  · exact ⟨_, by rw [exec_fcForceGo, fcForce_of_allowed ready known allowed], rfl⟩
  · rw [exec_fcClear, State.fcClear, if_pos fatal]
  · simp only [exec_fcClear, State.fcClear, alive, none, Bool.false_eq_true, if_false]
  · simp only [exec_fcClear, State.fcClear, alive, open_, Bool.false_eq_true, if_false]

end Sys2Proof.Machine
end

section
/-! Storing records (22_recorder_health.md R494, R495): what a flush keeps, where each staged record is found after it. -/

namespace Sys2Proof.Machine
open Sys2Proof

/-- What storing a record keeps: everything but the two areas and their counts. -/
structure Stores (d e : Recorder) : Prop where
  inbox : e.inbox = d.inbox
  freeze : e.freeze = d.freeze
  gen : e.cur.gen = d.cur.gen
  seqNext : e.cur.seqNext = d.cur.seqNext
  clearCount : e.cur.clearCount = d.cur.clearCount

theorem Stores.refl (d : Recorder) : Stores d d := ⟨rfl, rfl, rfl, rfl, rfl⟩

theorem Stores.trans {d e f : Recorder} (h : Stores d e) (g : Stores e f) : Stores d f :=
  ⟨g.inbox.trans h.inbox, g.freeze.trans h.freeze, g.gen.trans h.gen, g.seqNext.trans h.seqNext, g.clearCount.trans h.clearCount⟩

theorem store_of_low (d : Recorder) {r : Rec} (low : r.seq < 16384) :
    d.store r = { d with keep := tabSet d.keep r.seq r, cur.keepCount := max d.cur.keepCount (r.seq + 1) } := if_pos low

theorem store_of_high (d : Recorder) {r : Rec} (high : 16384 ≤ r.seq) : (d.store r).keep = d.keep ∧ (d.store r).ring = tabSet d.ring d.cur.wrIdx r
    ∧ (d.store r).cur.wrIdx = (d.cur.wrIdx + 1) % 16384 ∧ (d.store r).cur.keepCount = d.cur.keepCount := by
  rw [Recorder.store, if_neg (Nat.not_lt.mpr high)]
  exact ⟨rfl, rfl, rfl, rfl⟩

theorem stores_store (d : Recorder) (r : Rec) : Stores d (d.store r) := by
  unfold Recorder.store
  split
  · exact ⟨rfl, rfl, rfl, rfl, rfl⟩
  · exact ⟨rfl, rfl, rfl, rfl, rfl⟩

theorem stores_foldl (l : List Rec) (d : Recorder) : Stores d (l.foldl Recorder.store d) :=
  List.foldlRecOn (motive := fun e : Recorder => Stores d e) l _ (Stores.refl d) (fun e he r _ => he.trans (stores_store e r))

/-- A record of another SEQ leaves a keep slot. -/
theorem store_keep_ne (d : Recorder) {r : Rec} {k : Nat} (other : r.seq ≠ k) : tabFind (d.store r).keep k = tabFind d.keep k := by
  rcases Nat.lt_or_ge r.seq 16384 with low | high
  · rw [store_of_low d low]
    exact tabFind_tabSet_ne _ _ _ _ other.symm
  · rw [(store_of_high d high).1]

theorem foldl_store_keep_ne {k : Nat} (l : List Rec) (d : Recorder) (other : ∀ r ∈ l, r.seq ≠ k) : tabFind (l.foldl Recorder.store d).keep k = tabFind d.keep k :=
  List.foldlRecOn (motive := fun e : Recorder => tabFind e.keep k = tabFind d.keep k) l _ rfl (fun e he r hr => (store_keep_ne e (other r hr)).trans he)

/-- A record of low SEQ is found in its keep slot. -/
theorem foldl_store_keep_mem (l : List Rec) (d : Recorder) (nodup : (l.map (fun r => r.seq)).Nodup) {r : Rec} (mem : r ∈ l) (low : r.seq < 16384) :
    tabFind (l.foldl Recorder.store d).keep r.seq = some r := by
  induction l generalizing d with
  | nil => cases mem
  | cons x l ih =>
    obtain ⟨fresh, rest⟩ := List.nodup_cons.mp nodup
    rcases List.mem_cons.mp mem with rfl | later
    · have others : ∀ y ∈ l, y.seq ≠ r.seq := fun y hy e => fresh (List.mem_map.mpr ⟨y, hy, e⟩)
      rw [List.foldl_cons, foldl_store_keep_ne l _ others, store_of_low d low]
      exact tabFind_tabSet_same ..
    · exact ih _ rest later

theorem store_count_le (d : Recorder) (r : Rec) : d.cur.keepCount ≤ (d.store r).cur.keepCount := by
  rcases Nat.lt_or_ge r.seq 16384 with low | high
  · rw [store_of_low d low]
    exact Nat.le_max_left ..
  · exact (store_of_high d high).2.2.2.ge

theorem foldl_store_count_le (l : List Rec) (d : Recorder) : d.cur.keepCount ≤ (l.foldl Recorder.store d).cur.keepCount :=
  List.foldlRecOn (motive := fun e : Recorder => d.cur.keepCount ≤ e.cur.keepCount) l _ (Nat.le_refl _) (fun e he r _ => he.trans (store_count_le e r))

theorem foldl_store_count_mem (l : List Rec) (d : Recorder) {r : Rec} (mem : r ∈ l) (low : r.seq < 16384) : r.seq < (l.foldl Recorder.store d).cur.keepCount := by
  induction l generalizing d with
  | nil => cases mem
  | cons x l ih =>
    rcases List.mem_cons.mp mem with rfl | later
    · refine Nat.lt_of_lt_of_le ?_ (foldl_store_count_le l _)
      rw [store_of_low d low]
      exact Nat.le_max_right ..
    · exact ih _ later

theorem foldl_store_ring_of_low (l : List Rec) (d : Recorder) (low : ∀ r ∈ l, r.seq < 16384) : (l.foldl Recorder.store d).ring = d.ring :=
  List.foldlRecOn (motive := fun e : Recorder => e.ring = d.ring) l _ rfl (fun e he r hr => (congrArg Recorder.ring (store_of_low e (low r hr))).trans he)

/-- A flush: nothing stays staged, the header is the counts, one generation on. -/
theorem flush_counts (d : Recorder) : d.flush.staged = [] ∧ d.flush.header = d.flush.cur ∧ d.flush.cur.gen = d.cur.gen + 1 ∧ d.flush.cur.seqNext = d.cur.seqNext
    ∧ d.flush.cur.clearCount = d.cur.clearCount ∧ d.flush.inbox = d.inbox ∧ d.flush.freeze = d.freeze := by
  have kept := stores_foldl d.staged d
  exact ⟨rfl, rfl, congrArg (· + 1) kept.gen, kept.seqNext, kept.clearCount, kept.inbox, kept.freeze⟩

theorem flush_areas (d : Recorder) : d.flush.keep = (d.staged.foldl Recorder.store d).keep ∧ d.flush.ring = (d.staged.foldl Recorder.store d).ring
    ∧ d.flush.cur.keepCount = (d.staged.foldl Recorder.store d).cur.keepCount ∧ d.flush.cur.wrIdx = (d.staged.foldl Recorder.store d).cur.wrIdx := ⟨rfl, rfl, rfl, rfl⟩

/-- Staged records of low SEQ go to their keep slots. -/
theorem flush_low (d : Recorder) (low : ∀ r ∈ d.staged, r.seq < 16384) (nodup : (d.staged.map (fun r => r.seq)).Nodup) :
    d.flush.ring = d.ring ∧ (∀ r ∈ d.staged, tabFind d.flush.keep r.seq = some r ∧ r.seq < d.flush.cur.keepCount)
      ∧ ∀ k, (∀ r ∈ d.staged, r.seq ≠ k) → tabFind d.flush.keep k = tabFind d.keep k := by
  obtain ⟨keep, ring, count, -⟩ := flush_areas d
  rw [keep, ring, count]
  exact ⟨foldl_store_ring_of_low _ d low, fun r hr => ⟨foldl_store_keep_mem _ d nodup hr (low r hr), foldl_store_count_mem _ d hr (low r hr)⟩,
    fun k other => foldl_store_keep_ne _ d other⟩

/-- One staged record of high SEQ goes to the ring at WR_IDX. -/
theorem flush_high (d : Recorder) {r : Rec} (alone : d.staged = [r]) (high : 16384 ≤ r.seq) :
    d.flush.ring = tabSet d.ring d.cur.wrIdx r ∧ d.flush.cur.wrIdx = (d.cur.wrIdx + 1) % 16384 ∧ d.flush.keep = d.keep := by
  obtain ⟨keep, ring, -, wrIdx⟩ := flush_areas d
  rw [keep, ring, wrIdx, alone]
  exact ⟨(store_of_high d high).2.1, (store_of_high d high).2.2.1, (store_of_high d high).1⟩

end Sys2Proof.Machine
end

section
/-! Staging, freezing, clearing and reading records, and the claims about the recorder. -/

namespace Sys2Proof.Machine
open Sys2Proof

theorem length_body (r : Rec) : r.body.length = 60 := by
  unfold Rec.body
  simp only [List.length_append, length_leBytes]

theorem length_bytes (r : Rec) : r.bytes.length = 64 := by
  rw [Rec.bytes, List.length_append, length_body, length_leBytes]

section
variable {s : State} {r : Rec}

/-! ### Staging (R493) -/

theorem exec_recordStage_of_nil (none : s.recd.inbox = []) : exec .recordStage s = .next s := by
  rw [show exec .recordStage s = execRecordStage s from rfl, execRecordStage, none]

theorem exec_recordStage_of_cons {l : List (Bool × Rec)} (waits : s.recd.inbox = (false, r) :: l) :
    exec .recordStage s = .next (({ s with recd.inbox := l } : State).stage r) := by
  rw [show exec .recordStage s = execRecordStage s from rfl, execRecordStage, waits]
  rfl

theorem stage_of_rate (minor : r.minor = true) (fast : s.par 0x9000 7 < s.recd.rate) :
    s.stage r = ({ s with recd.cur.suppressed := min (s.recd.cur.suppressed + 1) (2 ^ 32 - 1) } : State).cnt RC_LOST_SUPPRESSED := by
  unfold State.stage
  rw [if_pos (by simp [minor, fast])]

theorem stage_of_full (major : r.minor = false) (full : 512 ≤ s.recd.staged.length) (running : s.recd.freeze = .running) :
    s.stage r = ({ s with recd.cur.lost := min (s.recd.cur.lost + 1) (2 ^ 32 - 1), recd.lostInFreeze := s.recd.lostInFreeze } : State).cnt RC_LOST_LOST := by
  unfold State.stage
  rw [if_neg (by simp [major]), if_pos (by simpa [major] using full), running]
  rfl

/-- A record that enters: it takes the next SEQ, and the sessions that watch its class queue it. -/
def State.entered (s : State) (r : Rec) : State :=
  ({ s with recd.staged := s.recd.staged ++ [{ r with seq := s.recd.cur.seqNext }], recd.cur.seqNext := s.recd.cur.seqNext + 1,
            recd.rate := if r.minor then s.recd.rate + 1 else s.recd.rate } : State).queueEvents { r with seq := s.recd.cur.seqNext }

theorem stage_of_room (steady : r.minor = true → s.recd.rate ≤ s.par 0x9000 7) (room : s.recd.staged.length < if r.minor then 448 else 512) :
    s.stage r = if r.kind = 0 ∧ 3 ≤ r.cls then (s.entered r).endFreeze.startFlush
      else if 256 ≤ (s.entered r).recd.staged.length ∨ (s.entered r).pwr.pfail then (s.entered r).startFlush else s.entered r := by
  have slow : ¬ (r.minor && decide (s.par 0x9000 7 < s.recd.rate)) = true := by
    rw [Bool.and_eq_true, decide_eq_true_eq]
    exact fun h => Nat.not_lt.mpr (steady h.1) h.2
  unfold State.stage
  rw [if_neg slow, if_neg (Nat.not_le.mpr room)]
  rfl

theorem not_severe_of_minor (minor : r.minor = true) : ¬ (r.kind = 0 ∧ 3 ≤ r.cls) := by
  simp only [Rec.minor, Bool.and_eq_true, decide_eq_true_eq] at minor
  omega

theorem not_minor_of_kind (kind : r.kind = 2 ∨ r.kind = 3) : r.minor = false := by
  simp only [Rec.minor, Bool.and_eq_false_iff, decide_eq_false_iff_not]
  omega

/-- A minor record with room enters, and nothing else happens below 256 staged records. -/
theorem stage_of_minor (minor : r.minor = true) (steady : s.recd.rate ≤ s.par 0x9000 7) (room : s.recd.staged.length < 255) (powered : s.pwr.pfail = false) :
    s.stage r = s.entered r := by
  have few : ¬ (256 ≤ (s.entered r).recd.staged.length ∨ (s.entered r).pwr.pfail = true) := by
    simp only [State.entered, State.queueEvents, List.length_append, List.length_singleton, powered, Bool.false_eq_true, or_false]
    omega
  rw [stage_of_room (fun _ => steady) (by rw [if_pos minor]; omega), if_neg (not_severe_of_minor minor), if_neg few]

/-- A mark or a summary that makes 256 staged records or more starts a flush. -/
theorem stage_of_many (kind : r.kind = 2 ∨ r.kind = 3) (many : 255 ≤ s.recd.staged.length) (room : s.recd.staged.length < 512) :
    s.stage r = (s.entered r).startFlush := by
  have major := not_minor_of_kind kind
  have full : 256 ≤ (s.entered r).recd.staged.length ∨ (s.entered r).pwr.pfail = true := by
    refine .inl ?_
    simp only [State.entered, State.queueEvents, List.length_append, List.length_singleton]
    omega
  rw [stage_of_room (fun minor => by rw [major] at minor; cases minor) (by rw [major]; exact room), if_neg (by omega), if_pos full]

/-! ### Flushes and freezes (R494, R497) -/

theorem mramOpen_iff : s.mramOpen = true ↔ s.recd.freeze ≠ .frozen ∧ s.recd.blocked = false := by
  simp [State.mramOpen]

theorem recorderFlush_of_closed (closed : s.recd.flushing = false ∨ s.recd.freeze = .frozen ∨ s.recd.blocked = true) : exec .recorderFlush s = .next s := by
  refine if_neg fun h => ?_
  rw [Bool.and_eq_true, mramOpen_iff] at h
  obtain ⟨flushing, moving, unblocked⟩ := h
  rcases closed with idle | frozen | blocked
  · rw [idle] at flushing
    cases flushing
  · exact moving frozen
  · rw [unblocked] at blocked
    cases blocked

theorem recorderFlush_of_open (flushing : s.recd.flushing = true) (moving : s.recd.freeze ≠ .frozen) (unblocked : s.recd.blocked = false) :
    exec .recorderFlush s = .next { s.wb RC_CTRL_FLUSH false with
      recd := { s.recd.flush with flushing := false, freeze := if s.recd.freeze = .freezing then .frozen else s.recd.freeze } } :=
  if_pos (by rw [flushing, mramOpen_iff.mpr ⟨moving, unblocked⟩]; rfl)

theorem endFreeze_of_running (running : s.recd.freeze = .running) : s.endFreeze = s := if_pos running

theorem endFreeze_of_frozen (frozen : s.recd.freeze ≠ .running) : s.endFreeze =
    { s with recd.freeze := .running, recd.inbox := s.recd.inbox ++ [(false, s.mkRec 3 0 0 0 0x04 s.recd.lostInFreeze 0)], recd.flushing := true } := if_neg frozen

/-! ### Reading a slot (R499) -/

theorem rcRead_of_empty {q : Nat} (none : s.rcSlot (s.rf RC_READ_AREA q) (s.rf RC_READ_INDEX q) = none) (b : Bool) :
    s.rcRead q b = s.wf RC_READ_RESULT 3 q := by
  rw [State.rcRead, none]

/-- The words that a read puts into RC_DATA. -/
def State.dataWords (s : State) (q : Nat) (ws : List Nat) : State := (List.range 16).foldl (fun t w => t.wf RC_DATA_DATA (ws.getD w 0) q w) s

theorem dataWords_frame (s : State) (q : Nat) (ws : List Nat) : { s.dataWords q ws with regs := s.regs } = s :=
  List.foldlRecOn (motive := fun t : State => { t with regs := s.regs } = s) (List.range 16) _ rfl
    (fun _ ht w _ => frame_wf ht RC_DATA_DATA _ q w)

theorem rcRead_of_record {q : Nat} (found : s.rcSlot (s.rf RC_READ_AREA q) (s.rf RC_READ_INDEX q) = some r) :
    s.rcRead q false = (s.dataWords q (recWords r.bytes)).wf RC_READ_RESULT 2 q := by
  rw [State.rcRead, found]
  rfl

theorem rcRead_of_corrupt {q : Nat} (found : s.rcSlot (s.rf RC_READ_AREA q) (s.rf RC_READ_INDEX q) = some r) :
    ∃ (ws : List Nat) (n : Nat), s.rcRead q true = ({ s.dataWords q ws with free := n } : State).wf RC_READ_RESULT 4 q := by
  rw [State.rcRead, found]
  exact ⟨_, _, rfl⟩

theorem key_data_inj {q w v : Nat} (other : w ≠ v) : RC_DATA_DATA.key q w ≠ RC_DATA_DATA.key q v := by
  simp only [Fld.key, RC_DATA_DATA]
  omega

theorem key_data_ne_result (q w : Nat) : RC_DATA_DATA.key q w ≠ RC_READ_RESULT.key q 0 := by
  simp only [Fld.key, RC_DATA_DATA, RC_READ_RESULT]
  omega

theorem foldl_data_rf (q : Nat) (ws : List Nat) {w : Nat} (n : Nat) (h : w < n) :
    ((List.range n).foldl (fun t v => t.wf RC_DATA_DATA (ws.getD v 0) q v) s).rf RC_DATA_DATA q w = ws.getD w 0 % 2 ^ 32 := by
  induction n with
  | zero => exact absurd h (Nat.not_lt_zero w)
  | succ n ih =>
    rw [List.range_succ, List.foldl_append, List.foldl_cons, List.foldl_nil]
    by_cases last : w = n
    · rw [last]
      exact rf_wf_same ..
    · rw [rf_wf_ne _ _ _ _ _ _ _ _ (key_data_inj last)]
      exact ih (by omega)

theorem getD_recWords (b : List Byte) {w : Nat} (hw : w < 16) : (recWords b).getD w 0 = leNat ((b.drop (4 * w)).take 4) := by
  simp [recWords, hw]

/-- The words of a record fit RC_DATA. -/
theorem recWords_lt (b : List Byte) (w : Nat) : leNat ((b.drop (4 * w)).take 4) < 2 ^ 32 := by
  have short : ((b.drop (4 * w)).take 4).length ≤ 4 := List.length_take_le ..
  exact Nat.lt_of_lt_of_le (leNat_lt _) (Nat.pow_le_pow_right (n := 256) (by decide) short)

theorem rf_dataWords (q : Nat) (b : List Byte) {w : Nat} (hw : w < 16) :
    ((s.dataWords q (recWords b)).wf RC_READ_RESULT 2 q).rf RC_DATA_DATA q w = leNat ((b.drop (4 * w)).take 4) := by
  rw [rf_wf_ne _ _ _ _ _ _ _ _ (key_data_ne_result q w), State.dataWords, foldl_data_rf q _ 16 hw, getD_recWords b hw, Nat.mod_eq_of_lt (recWords_lt b w)]

/-- A read of one slot: empty, whole, or corrupt. -/
theorem exec_rcReadGo (q : Fin 8) : (∀ b, s.rcSlot (s.rf RC_READ_AREA q.val) (s.rf RC_READ_INDEX q.val) = none → exec (.rcReadGo q b) s = .next (s.wf RC_READ_RESULT 3 q.val))
    ∧ (∀ r, s.rcSlot (s.rf RC_READ_AREA q.val) (s.rf RC_READ_INDEX q.val) = some r →
      (∃ t : State, exec (.rcReadGo q false) s = .next t ∧ t.rf RC_READ_RESULT q.val = 2 ∧ { t with regs := s.regs } = s
        ∧ (∀ w, w < 16 → t.rf RC_DATA_DATA q.val w = leNat ((r.bytes.drop (4 * w)).take 4)))
      ∧ (∃ t : State, exec (.rcReadGo q true) s = .next t ∧ t.rf RC_READ_RESULT q.val = 4 ∧ { t with regs := s.regs, free := s.free } = s)) := by
  refine ⟨fun b none => next_eq (rcRead_of_empty none b), fun r found => ⟨⟨_, next_eq (rcRead_of_record found), rf_wf_same .., frame_wf (dataWords_frame ..) .., fun w hw => ?_⟩, ?_⟩⟩
  · exact rf_dataWords q.val r.bytes hw
  · obtain ⟨ws, n, read⟩ := rcRead_of_corrupt found
    exact ⟨_, next_eq read, rf_wf_same .., congrArg (fun u : State => { u with free := s.free }) (dataWords_frame s q.val ws)⟩

/-! ### The last header of a power failure (R496), health (R502, R503) -/

theorem pfailHeaderFinal_of_powered (powered : s.pwr.pfail = false) : exec .pfailHeaderFinal s = .next s := if_neg (by rw [powered]; decide)

/-- What the last header is written from. -/
def State.lastWrite (s : State) : Recorder := if s.mramOpen then s.recd.flush else s.recd.writeHeader

theorem pfailHeaderFinal_of_failed (failed : s.pwr.pfail = true) :
    exec .pfailHeaderFinal s = .next { s with recd := { s.lastWrite with flushing := false, blocked := true } } := if_pos failed

theorem lastWrite_header : s.lastWrite.header = s.lastWrite.cur ∧ s.lastWrite.cur.gen = s.recd.cur.gen + 1 := by
  unfold State.lastWrite
  split
  · exact ⟨(flush_counts s.recd).2.1, (flush_counts s.recd).2.2.1⟩
  · exact ⟨rfl, rfl⟩

theorem lastWrite_of_open (moving : s.recd.freeze ≠ .frozen) (unblocked : s.recd.blocked = false) : s.lastWrite = s.recd.flush :=
  if_pos (mramOpen_iff.mpr ⟨moving, unblocked⟩)

theorem lastWrite_of_frozen (frozen : s.recd.freeze = .frozen) : s.lastWrite = s.recd.writeHeader :=
  if_neg fun h => (mramOpen_iff.mp h).1 frozen

theorem healthSample_of_absent {t : Nat} {x : Sample} (absent : s.indPresent x.k.toNat = false) : s.healthSample t x = s := if_pos (by rw [absent]; rfl)

theorem healthSample_of_retired {t : Nat} {x : Sample} (present : s.indPresent x.k.toNat = true) (retired : s.indRetired x.k.toNat = true) :
    s.healthSample t x = { s with health := tabSet s.health x.k.toNat { s.ind x.k.toNat with conf := 3 } } := by
  simp only [State.healthSample, present, retired, Bool.not_true, Bool.false_eq_true, if_false, if_true]
  rfl

theorem healthSample_of_off {t : Nat} {x : Sample} (present : s.indPresent x.k.toNat = true) (kept : s.indRetired x.k.toNat = false) (off : s.indOff x.k.toNat = true) :
    s.healthSample t x = { s with health := tabSet s.health x.k.toNat { s.ind x.k.toNat with conf := 4 } } := by
  simp only [State.healthSample, present, kept, off, Bool.not_true, Bool.false_eq_true, if_false, if_true]
  rfl

/-- The flush in progress. -/
theorem recorderFlush_flushes (flushing : s.recd.flushing = true) (moving : s.recd.freeze ≠ .frozen) (unblocked : s.recd.blocked = false) :
    ∃ t : State, exec .recorderFlush s = .next t ∧ t.recd.staged = [] ∧ t.recd.flushing = false ∧ t.recd.header = t.recd.cur
      ∧ t.recd.cur.gen = s.recd.cur.gen + 1 ∧ t.recd.cur.seqNext = s.recd.cur.seqNext ∧ t.recd.inbox = s.recd.inbox ∧ (s.recd.freeze = .freezing → t.recd.freeze = .frozen) ∧ (s.recd.freeze = .running → t.recd.freeze = .running)
      ∧ ((∀ r ∈ s.recd.staged, r.seq < 16384) → (s.recd.staged.map (fun r => r.seq)).Nodup → t.recd.ring = s.recd.ring ∧ (∀ r ∈ s.recd.staged, tabFind t.recd.keep r.seq = some r ∧ r.seq < t.recd.cur.keepCount)
        ∧ ∀ k, (∀ r ∈ s.recd.staged, r.seq ≠ k) → tabFind t.recd.keep k = tabFind s.recd.keep k)
      ∧ (∀ r, s.recd.staged = [r] → 16384 ≤ r.seq → t.recd.ring = tabSet s.recd.ring s.recd.cur.wrIdx r ∧ t.recd.cur.wrIdx = (s.recd.cur.wrIdx + 1) % 16384 ∧ t.recd.keep = s.recd.keep) := by
  obtain ⟨staged, header, gen, seqNext, -, inbox, -⟩ := flush_counts s.recd
  exact ⟨_, recorderFlush_of_open flushing moving unblocked, staged, rfl, header, gen, seqNext, inbox, fun freezing => if_pos freezing,
    fun running => (if_neg (by rw [running]; decide)).trans running, fun low nodup => flush_low s.recd low nodup, fun r alone high => flush_high s.recd alone high⟩

end

/-- Settles O55: each staged record's place is found by induction on the staged ones. -/
theorem recorderStagesAndFlushes : Obligations.RecorderStagesAndFlushes := by
  intro s
  refine ⟨exec_recordStage_of_nil, fun chip r l waits => ⟨?_, ?_, ?_, ?_⟩, recorderFlush_of_closed, recorderFlush_flushes, rfl, rfl, fun running => ⟨?_, ?_, ?_⟩,
    fun frozen => ⟨?_, ?_⟩, fun r => ⟨length_body r, rfl, length_bytes r⟩, exec_rcReadGo, pfailHeaderFinal_of_powered, fun failed => ?_, fun h => ⟨fun held => ?_, fun x => ?_⟩⟩
  · rintro rfl minor fast
    refine ⟨_, (exec_recordStage_of_cons waits).trans (next_eq (stage_of_rate minor fast)), ?_, ?_⟩
    · rfl
    · rfl
  · rintro rfl major full running
    refine ⟨_, (exec_recordStage_of_cons waits).trans (next_eq (stage_of_full major full running)), ?_, ?_⟩
    · rfl
    · rfl
  · rintro rfl minor steady room powered
    refine ⟨_, (exec_recordStage_of_cons waits).trans (next_eq (stage_of_minor minor steady room powered)), ?_, ?_, rfl⟩
    · simp only [State.entered, State.queueEvents, minor, if_true]
    · simp only [State.entered, State.queueEvents, List.length_map]
  · rintro rfl kind many room
    exact ⟨_, (exec_recordStage_of_cons waits).trans (next_eq (stage_of_many kind many room)), rfl, rfl⟩
  · exact next_eq (if_pos running)
  · exact next_eq (endFreeze_of_running running)
  · exact next_eq (endFreeze_of_running running)
  · exact next_eq (if_neg frozen)
  · rintro c (rfl | rfl)
    · exact next_eq (endFreeze_of_frozen frozen)
    · exact next_eq (endFreeze_of_frozen frozen)
  · refine ⟨_, pfailHeaderFinal_of_failed failed, rfl, rfl, lastWrite_header.1, lastWrite_header.2, rfl, fun moving unblocked => ?_, fun frozen => ?_⟩
    · exact (congrArg Recorder.staged (lastWrite_of_open moving unblocked)).trans (flush_counts s.recd).1
    · exact (congrArg Recorder.staged (lastWrite_of_frozen frozen)).trans rfl
  · exact if_neg (by rw [held]; decide)
  · exact ⟨healthSample_of_absent, healthSample_of_retired, healthSample_of_off⟩

end Sys2Proof.Machine
end

section
/-! Clearing the recorder (22_recorder_health.md R498), and the claim about it. -/

namespace Sys2Proof.Machine
open Sys2Proof

section
variable {s : State}

theorem rcClear_of_closed (closed : s.mode = modeService ∨ s.recd.freeze ≠ .running) : s.rcClear = s := if_pos closed

/-- The recorder after a clear: flushed, its counts zeroed in a new header, CLEARED staged as record 0. -/
def State.cleared (s : State) : Recorder :=
  let d := ({ s.recd.flush with cur.keepCount := 0, cur.wrIdx := 0, cur.wrapped := false, cur.seqNext := 0 } : Recorder).writeHeader
  { d with cur.clearCount := d.cur.clearCount + 1, flushing := false, staged := [s.mkRec 3 0 0 0 0x01 (d.cur.clearCount + 1) 0], cur.seqNext := 1 }

theorem rcClear_of_open (mode : s.mode ≠ modeService) (running : s.recd.freeze = .running) : s.rcClear = { s with recd := s.cleared } :=
  if_neg fun h => h.elim mode (fun moved => moved running)

theorem rcSlot_of_beyond {area ix : Nat} (beyond : (area = 0 ∧ s.recd.cur.keepCount ≤ ix) ∨ (area ≠ 0 ∧ s.recd.cur.wrapped = false ∧ s.recd.cur.wrIdx ≤ ix)) :
    s.rcSlot area ix = none := by
  unfold State.rcSlot
  rcases beyond with ⟨keep, high⟩ | ⟨ring, fresh, high⟩
  · rw [if_pos keep, if_neg (Nat.not_lt.mpr high)]
  · rw [if_neg ring, if_neg (by rw [fresh, Bool.false_or, decide_eq_true_eq]; exact Nat.not_lt.mpr high)]

theorem rcSlot_cleared (area ix : Nat) : ({ s with recd := s.cleared } : State).rcSlot area ix = none := by
  by_cases keep : area = 0
  · exact rcSlot_of_beyond (.inl ⟨keep, Nat.zero_le ix⟩)
  · exact rcSlot_of_beyond (.inr ⟨keep, rfl, Nat.zero_le ix⟩)

/-- A clear takes effect: the whole of what R498 lists. -/
theorem rcClear_clears (mode : s.mode ≠ modeService) (running : s.recd.freeze = .running) : ∃ (t : State) (d : Recorder), exec .rcClear s = .next t ∧ s.rcClear = t ∧ { t with recd := s.recd } = s ∧ d = s.recd.flush
      ∧ t.recd.keep = d.keep ∧ t.recd.ring = d.ring ∧ t.recd.header.gen = d.cur.gen + 1 ∧ t.recd.header.keepCount = 0 ∧ t.recd.header.wrIdx = 0 ∧ t.recd.header.wrapped = false ∧ t.recd.header.seqNext = 0
      ∧ t.recd.cur.keepCount = 0 ∧ t.recd.cur.wrIdx = 0 ∧ t.recd.cur.wrapped = false ∧ t.recd.cur.clearCount = s.recd.cur.clearCount + 1
      ∧ (∃ r : Rec, t.recd.staged = [r] ∧ r.seq = 0 ∧ r.kind = 3 ∧ r.detail = 0x01 ∧ r.ext0 = s.recd.cur.clearCount + 1 ∧ t.recd.cur.seqNext = 1)
      ∧ (∀ r ∈ s.recd.staged, r.seq < 16384 → (s.recd.staged.map (fun x => x.seq)).Nodup → tabFind t.recd.keep r.seq = some r)
      ∧ (∀ area ix, t.rcSlot area ix = none) ∧ (∀ (q : Fin 8) (b : Bool), exec (.rcReadGo q b) t = .next (t.wf RC_READ_RESULT 3 q.val)) := by
  have count : s.recd.flush.cur.clearCount + 1 = s.recd.cur.clearCount + 1 := congrArg (· + 1) (flush_counts s.recd).2.2.2.2.1
  exact ⟨{ s with recd := s.cleared }, s.recd.flush, next_eq (rcClear_of_open mode running), rcClear_of_open mode running, rfl, rfl, rfl, rfl, rfl, rfl, rfl, rfl, rfl, rfl, rfl, rfl,
    count, ⟨_, rfl, rfl, rfl, rfl, count, rfl⟩, fun r mem low nodup => foldl_store_keep_mem s.recd.staged s.recd nodup mem low, rcSlot_cleared,
    fun q b => (exec_rcReadGo q).1 b (rcSlot_cleared _ _)⟩

/-! ### The dictionary's CMD (R500) -/

/-- The row of CMD of the recorder. -/
def recorderCmdRow : OdRow := ⟨0x9000, 1, 9, 1, .u8, .wo, false, false, false, false, some (0x1, 0x4), 0, 0x0, 0x0, 0⟩

theorem recorderCmd_row (s : State) : s.odEntry 0x9000 9 = some recorderCmdRow := by
  rw [odEntry_eq_odRowAny s (by decide) (by decide)]
  decide +kernel

theorem odPre_recorderCmd {role : Nat} (high : 2 ≤ role) : s.odPre role 0x9000 9 true false = 0 := by
  rw [odPre_of_row (by decide +kernel) (recorderCmd_row s)]
  have unlisted : formatEntry 0x9000 9 = false := by decide
  have plain : modeEntry 0x9000 9 = false := by decide
  have need : odNeedRole 0x9000 recorderCmdRow true = 2 := rfl
  have acc : recorderCmdRow.acc = .wo := rfl
  have unchecked : recorderCmdRow.chk = false := rfl
  rw [need, if_neg (by omega)]
  simp [unlisted, plain, acc, unchecked]
  rfl

theorem odWriteStatus_recorderCmd {role : Nat} (high : 2 ≤ role) (enabled : s.wrEn 2 SYS = true) (on : s.dom domSYS = 3) :
    s.odWriteStatus role 0x9000 9 [3] false = 0 := by
  have value : s.odValue 0x9000 9 recorderCmdRow [3] = 0 := rfl
  have owner : odOwner 0x9000 9 = (SYS, domSYS) := by decide
  have post : s.odPost 0x9000 9 true = 0 := by simp [State.odPost, owner, enabled, on]; rfl
  simp only [State.odWriteStatus, odPre_recorderCmd high, recorderCmd_row, value, post]
  rfl

theorem odWrite_recorderCmd {src : Nat} (high : 2 ≤ s.srcRole src) (enabled : s.wrEn 2 SYS = true) (on : s.dom domSYS = 3) :
    s.odWrite src 0x9000 9 [3] = if s.mode = modeService then (s, odMODE) else (s.rcClear, odOK) := by
  have acted : s.odAct src 0x9000 9 recorderCmdRow [3] = if s.mode = modeService then (s, odMODE) else (s.rcClear, odOK) := by
    by_cases service : s.mode = modeService
    · exact (if_pos ⟨rfl, service⟩).trans (if_pos service).symm
    · exact (if_neg fun h => service h.2).trans (if_neg service).symm
  simp only [State.odWrite, odWriteStatus_recorderCmd high enabled on, recorderCmd_row]
  exact acted

/-! ### The register RC_CTRL (R500) -/

theorem area18_rcCtrl (s : State) : s.area18 0x014000 = .block 0x014000 domSYS := by
  have present : s.pageAbsent 0x014000 = false := by
    unfold State.pageAbsent
    cases s.part <;> rfl
  have found : s.blockArea 0x014000 = .block 0x014000 domSYS := by
    rw [State.blockArea, present]
    rfl
  simpa [State.area18] using found

theorem fieldsAt_rcCtrl : ∀ q : Fin 8, fieldsAt q.val 0x014000 = [(RC_CTRL_FREEZE, 0, 0), (RC_CTRL_THAW, 0, 0), (RC_CTRL_FLUSH, 0, 0), (RC_CTRL_CLEAR, 0, 0)] := by
  decide +kernel

/-- Its four bits start operations and store nothing. -/
theorem regWrite_rcCtrl {q : Fin 8} (enabled : s.wrEn q.val 0 = true) (on : s.dom domSYS = 3) (calm : s.fc.restarting = []) (v : Nat) :
    s.regWrite q.val 0x014000 4 v = ⟨0, false, 0, s⟩ := by
  have steady : s.domRising domSYS = false := by simp [State.domRising, on]
  have up : s.domOff 0x014000 domSYS = false := by simp [State.domOff, on, calm]
  have plain (f : Fld) (w1s : f.acc = .w1s) : (if s.writeVoid q.val 0x014000 f 0 0 then s else s.writeFld f 0 0 v 0xFFFFFFFF) = s := by
    simp [State.writeFld, w1s]
  have uncommitted : ([(RC_CTRL_FREEZE, 0, 0), (RC_CTRL_THAW, 0, 0), (RC_CTRL_FLUSH, 0, 0), (RC_CTRL_CLEAR, 0, 0)] : List (Fld × Nat × Nat)).any (fun p => p.1.acc == .rwc) = false := rfl
  simp only [State.regWrite, area18_rcCtrl, fieldsAt_rcCtrl, uncommitted, enabled, steady, up, List.foldl_cons, List.foldl_nil, plain RC_CTRL_FREEZE rfl, plain RC_CTRL_THAW rfl,
    plain RC_CTRL_FLUSH rfl, plain RC_CTRL_CLEAR rfl]
  simp

end

/-- Settles O56: a clear empties both areas, so every slot is beyond the counts. -/
theorem recorderClear : Obligations.RecorderClear := by
  intro s
  refine ⟨fun closed => ⟨next_eq (rcClear_of_closed closed), rcClear_of_closed closed⟩, rcClear_clears, ?_, fun src runs steady role enabled on => ⟨fun service => ?_, fun mode => ?_⟩, ?_⟩
  · rintro area ix q b rfl rfl beyond
    refine (exec_rcReadGo q).1 b (rcSlot_of_beyond (beyond.imp_right fun ⟨ring, fresh, high⟩ => ⟨?_, fresh, high⟩))
    rw [ring]
    decide
  · exact exec_dictionaryWrite_of_taken runs steady (by decide) ((odWrite_recorderCmd role enabled on).trans (if_pos service))
  · exact exec_dictionaryWrite_of_taken runs steady (by decide) ((odWrite_recorderCmd role enabled on).trans (if_neg mode))
  · intro q other free enabled on calm
    exact exec_registerWrite_of_block free (off := 0x014000) (v := 8) other (area18_rcCtrl s) (by decide) (regWrite_rcCtrl enabled on calm _)

end Sys2Proof.Machine
end

section
/-! Key slots, confirmation, MIN_SVN and the quote (23_security_maintenance.md R508 to R525), and the claim about them. -/

namespace Sys2Proof.Machine
open Sys2Proof

/-! ### Key slots (R508) -/

section
variable {s : State}

theorem keyPut_of_last {m : Bool} {k role : Nat} {sig : Bool} {key : BitVec 512} (zero : key = 0) (one : (s.keySlots m).countP (fun x => x.st == .enrolled) = 1)
    (enrolled : (s.oneKey m k).st = .enrolled) : s.keyPut m k key role sig = (s, odBAD) := by
  refine if_pos ?_
  rw [beq_iff_eq.mpr zero, one, enrolled]
  rfl

/-- The zero key of the only enrolled slot is refused, any other write passes this check. -/
theorem keyPut_of_not_last {m : Bool} {k role : Nat} {sig : Bool} {key : BitVec 512} (more : key = 0 → (s.keySlots m).countP (fun x => x.st == .enrolled) ≠ 1 ∨ (s.oneKey m k).st ≠ .enrolled) :
    s.keyPut m k key role sig = if m && !(key == 0) && !decide (1 ≤ role ∧ role ≤ 3) then (s, odRANGE)
      else if !s.wrEn 2 SYS then (s, odLOCKED)
      else if (s.keySlots m).countP (fun x => x.st == .enrolled) ≠ 0 ∧ !sig then (s, odAUTH)
      else if key == 0 then (if m then (s.putKey m k { st := .revoked, key := 0, role := 0 }).closeKey k else s.putKey m k { st := .revoked, key := 0, role := 0 }, odOK)
      else (s.putKey m k { st := .enrolled, key := key, role := if m then role else 0 }, odOK) := by
  refine (if_neg ?_).trans rfl
  simp only [Bool.and_eq_true, beq_iff_eq]
  rintro ⟨⟨zero, one⟩, enrolled⟩
  exact (more zero).elim (fun h => h one) (fun h => h enrolled)

theorem keyPut_of_role {k role : Nat} {sig : Bool} {key : BitVec 512} (some : key ≠ 0) (bad : role = 0 ∨ 3 < role) : s.keyPut true k key role sig = (s, odRANGE) := by
  rw [keyPut_of_not_last (fun zero => absurd zero some)]
  have range : ¬ (1 ≤ role ∧ role ≤ 3) := by omega
  refine if_pos ?_
  rw [beq_eq_false_iff_ne.mpr some, decide_eq_false range]
  rfl

section
variable {m : Bool} {k role : Nat} {sig : Bool} {key : BitVec 512}
  (more : key = 0 → (s.keySlots m).countP (fun x => x.st == .enrolled) ≠ 1 ∨ (s.oneKey m k).st ≠ .enrolled) (ranged : key ≠ 0 → m = true → 1 ≤ role ∧ role ≤ 3)
include more ranged

theorem keyPut_of_ranged : s.keyPut m k key role sig = if !s.wrEn 2 SYS then (s, odLOCKED)
    else if (s.keySlots m).countP (fun x => x.st == .enrolled) ≠ 0 ∧ !sig then (s, odAUTH)
    else if key == 0 then (if m then (s.putKey m k { st := .revoked, key := 0, role := 0 }).closeKey k else s.putKey m k { st := .revoked, key := 0, role := 0 }, odOK)
    else (s.putKey m k { st := .enrolled, key := key, role := if m then role else 0 }, odOK) := by
  rw [keyPut_of_not_last more]
  refine if_neg ?_
  simp only [Bool.and_eq_true, Bool.not_eq_true', beq_eq_false_iff_ne, decide_eq_false_iff_not]
  rintro ⟨⟨mgmt, some⟩, bad⟩
  exact bad (ranged some mgmt)

theorem keyPut_of_locked (locked : s.wrEn 2 SYS = false) : s.keyPut m k key role sig = (s, odLOCKED) := by
  rw [keyPut_of_ranged more ranged, if_pos (by rw [locked]; rfl)]

theorem keyPut_of_unsigned (enabled : s.wrEn 2 SYS = true) (live : (s.keySlots m).countP (fun x => x.st == .enrolled) ≠ 0) (unsigned : sig = false) :
    s.keyPut m k key role sig = (s, odAUTH) := by
  rw [keyPut_of_ranged more ranged, if_neg (by rw [enabled]; decide), if_pos ⟨live, by rw [unsigned]; rfl⟩]

theorem keyPut_of_authentic (enabled : s.wrEn 2 SYS = true) (authentic : (s.keySlots m).countP (fun x => x.st == .enrolled) = 0 ∨ sig = true) :
    s.keyPut m k key role sig = if key == 0 then (if m then (s.putKey m k { st := .revoked, key := 0, role := 0 }).closeKey k else s.putKey m k { st := .revoked, key := 0, role := 0 }, odOK)
      else (s.putKey m k { st := .enrolled, key := key, role := if m then role else 0 }, odOK) := by
  rw [keyPut_of_ranged more ranged, if_neg (by rw [enabled]; decide), if_neg ?_]
  rintro ⟨live, unsigned⟩
  rcases authentic with none | signed
  · exact live none
  · rw [signed] at unsigned
    cases unsigned

end

/-! ### Revoking a key -/

/-- Ending the sessions of a revoked management key leaves the stores and the registers. -/
theorem closeKey_kept (s : State) (k : Nat) : (s.closeKey k).sec = s.sec ∧ (s.closeKey k).regs = s.regs :=
  List.foldlRecOn (motive := fun t : State => t.sec = s.sec ∧ t.regs = s.regs) (s.zl.sessions.filter (fun p : Nat × Session => p.2.key == k)) (fun t p => t.sessionEnd p.1) ⟨rfl, rfl⟩
    (fun _ h _ _ => h)

theorem closeKey_of_one {k n : Nat} {x : Session} (one : s.zl.sessions = [(n, x)]) : (s.closeKey k).zl.sessions = if x.key = k then [] else [(n, x)] := by
  by_cases same : x.key = k
  · simp [State.closeKey, State.sessionEnd, one, same, tabDel]
  · simp [State.closeKey, one, same]

/-- Slot k of a store revoked, with the sessions of a management key. -/
def State.revoke (s : State) (m : Bool) (k : Nat) : State :=
  if m then (s.putKey m k { st := .revoked, key := 0, role := 0 }).closeKey k else s.putKey m k { st := .revoked, key := 0, role := 0 }

theorem sec_revoke (s : State) (m : Bool) (k : Nat) : (s.revoke m k).sec = (s.putKey m k { st := .revoked, key := 0, role := 0 }).sec ∧ (s.revoke m k).regs = s.regs := by
  cases m with
  | false => exact ⟨rfl, rfl⟩
  | true => exact closeKey_kept (s.putKey true k { st := .revoked, key := 0, role := 0 }) k

theorem oneKey_of_sec {t u : State} (same : t.sec = u.sec) (m : Bool) (k : Nat) : t.oneKey m k = u.oneKey m k := by
  unfold State.oneKey State.mgSlot State.dmSlot
  rw [same]

theorem oneKey_putKey_same (m : Bool) (k : Nat) (v : KeySlot) : (s.putKey m k v).oneKey m k = v := by
  cases m <;> exact tabGet_tabSet_same ..

theorem oneKey_putKey_ne (m n : Bool) {j k : Nat} (other : j ≠ k) (v : KeySlot) : (s.putKey m k v).oneKey n j = s.oneKey n j := by
  cases m <;> cases n
  · exact tabGet_tabSet_ne _ _ _ _ _ other
  · rfl
  · rfl
  · exact tabGet_tabSet_ne _ _ _ _ _ other

/-! ### A store with an enrolled slot keeps one -/

/-- The number of slots of a store. -/
def slotCount (m : Bool) : Nat := if m then 8 else 4

theorem keySlots_eq (m : Bool) : s.keySlots m = (List.range (slotCount m)).map (s.oneKey m) := by
  cases m <;> rfl

theorem live_pos_iff (m : Bool) : 0 < (s.keySlots m).countP (fun x => x.st == .enrolled) ↔ ∃ j, j < slotCount m ∧ (s.oneKey m j).st = .enrolled := by
  rw [keySlots_eq, List.countP_pos_iff]
  simp only [List.mem_map, List.mem_range, exists_exists_and_eq_and, beq_iff_eq]

/-- Where slot k is not the only enrolled one, another is. -/
theorem exists_other_enrolled {m : Bool} {k : Nat} (live : 0 < (s.keySlots m).countP (fun x => x.st == .enrolled))
    (more : (s.keySlots m).countP (fun x => x.st == .enrolled) ≠ 1 ∨ (s.oneKey m k).st ≠ .enrolled) : ∃ j, j < slotCount m ∧ j ≠ k ∧ (s.oneKey m j).st = .enrolled := by
  by_contra none
  have alone : ∀ j, j < slotCount m → (s.oneKey m j).st = .enrolled → j = k := fun j hj enrolled => by_contra fun other => none ⟨j, hj, other, enrolled⟩
  obtain ⟨j, hj, enrolled⟩ := (live_pos_iff m).mp live
  have slot : (s.oneKey m k).st = .enrolled := alone j hj enrolled ▸ enrolled
  have few : (s.keySlots m).countP (fun x => x.st == .enrolled) ≤ 1 := by
    calc (s.keySlots m).countP (fun x => x.st == .enrolled)
        = (List.range (slotCount m)).countP (fun j => (s.oneKey m j).st == .enrolled) := by rw [keySlots_eq, List.countP_map]; rfl
      _ ≤ (List.range (slotCount m)).count k := List.countP_mono_left fun j hj h => by
          rw [alone j (List.mem_range.mp hj) (beq_iff_eq.mp h)]
          exact beq_self_eq_true k
      _ ≤ 1 := List.nodup_iff_count_le_one.mp List.nodup_range k
  exact more.elim (fun several => several (by omega)) (fun empty => empty slot)

theorem live_revoke {m : Bool} {k : Nat} (live : 0 < (s.keySlots m).countP (fun x => x.st == .enrolled))
    (more : (s.keySlots m).countP (fun x => x.st == .enrolled) ≠ 1 ∨ (s.oneKey m k).st ≠ .enrolled) : 0 < ((s.revoke m k).keySlots m).countP (fun x => x.st == .enrolled) := by
  obtain ⟨j, hj, other, enrolled⟩ := exists_other_enrolled live more
  refine (live_pos_iff m).mpr ⟨j, hj, ?_⟩
  rw [oneKey_of_sec (sec_revoke s m k).1, oneKey_putKey_ne m m other]
  exact enrolled

theorem live_putKey {m : Bool} {k : Nat} {v : KeySlot} (valid : v.st = .enrolled) (live : 0 < (s.keySlots m).countP (fun x => x.st == .enrolled)) :
    0 < ((s.putKey m k v).keySlots m).countP (fun x => x.st == .enrolled) := by
  obtain ⟨j, hj, enrolled⟩ := (live_pos_iff m).mp live
  refine (live_pos_iff m).mpr ⟨j, hj, ?_⟩
  by_cases same : j = k
  · rw [same, oneKey_putKey_same]
    exact valid
  · rw [oneKey_putKey_ne m m same]
    exact enrolled

theorem live_keyPut {m : Bool} {k role : Nat} {sig : Bool} {key : BitVec 512} (live : 0 < (s.keySlots m).countP (fun x => x.st == .enrolled)) :
    0 < ((s.keyPut m k key role sig).1.keySlots m).countP (fun x => x.st == .enrolled) := by
  by_cases last : key = 0 ∧ (s.keySlots m).countP (fun x => x.st == .enrolled) = 1 ∧ (s.oneKey m k).st = .enrolled
  · obtain ⟨zero, one, enrolled⟩ := last
    rw [keyPut_of_last zero one enrolled]
    exact live
  · have more : key = 0 → (s.keySlots m).countP (fun x => x.st == .enrolled) ≠ 1 ∨ (s.oneKey m k).st ≠ .enrolled := fun zero => by
      by_contra h
      rw [not_or, not_not, not_not] at h
      exact last ⟨zero, h⟩
    rw [keyPut_of_not_last more]
    split
    · exact live
    split
    · exact live
    split
    · exact live
    split
    case isTrue zero => exact live_revoke live (more (beq_iff_eq.mp zero))
    case isFalse => exact live_putKey rfl live

/-! ### The command -/

section
variable {src : Fin 16} {m : Bool} {k : Fin 8} {key : BitVec 512} {role : BitVec 8} {sig : Bool}

theorem exec_keySlotWrite_of_stopped (stopped : s.odRuns = false) : exec (.keySlotWrite src m k key role sig) s = .next s :=
  next_eq (if_neg (by rw [stopped]; decide))

theorem exec_keySlotWrite_of_refused (runs : s.odRuns = true) {a : Nat} (pre : a = s.odPre (s.srcRole src.val) (keyIx m k.val) (if m then 4 else 3) true false) (refused : a ≠ 0) :
    exec (.keySlotWrite src m k key role sig) s = .next (s.emit (.od src.val a [])) := by
  have answer : s.keyWrite src.val m k.val key role.toNat sig = (s, a) := by
    rw [pre] at refused ⊢
    exact if_pos refused
  exact next_eq ((if_pos runs).trans (by rw [answer]; rfl))

theorem exec_keySlotWrite_of_passed (runs : s.odRuns = true) (pre : s.odPre (s.srcRole src.val) (keyIx m k.val) (if m then 4 else 3) true false = 0) :
    exec (.keySlotWrite src m k key role sig) s = .next ((s.keyPut m k.val key role.toNat sig).1.emit (.od src.val (s.keyPut m k.val key role.toNat sig).2 [])) := by
  have answer : s.keyWrite src.val m k.val key role.toNat sig = s.keyPut m k.val key role.toNat sig := if_neg (not_not.mpr pre)
  exact next_eq ((if_pos runs).trans (by rw [answer]; rfl))

end

/-! ### Confirmation, MIN_SVN, requests for the next reset (R513, R515, R525) -/

theorem isCore_of_core {q : Nat} (low : 3 ≤ q) (high : q ≤ 6) : isCore q = true := by simp [isCore, low, high]

theorem not_isCore {q : Nat} (other : q < 3 ∨ 6 < q) : isCore q = false := by
  rw [isCore, Bool.and_eq_false_iff, decide_eq_false_iff_not, decide_eq_false_iff_not]
  omega

theorem only_cores {q : Fin 8} (other : q.val < 3 ∨ 6 < q.val) (c : Instr) (request : c = .secConfirm q ∨ c = .svnCommit q ∨ c = .secRecovery q ∨ c = .secTest q) :
    exec c s = .next s := by
  have stranger := not_isCore other
  rcases request with rfl | rfl | rfl | rfl
  · exact next_eq (if_pos (by rw [stranger]; rfl))
  · exact next_eq (if_pos (by rw [stranger]; rfl))
  · exact next_eq (if_neg (by rw [stranger]; decide))
  · exact next_eq (if_neg (by rw [stranger]; decide))

section
variable {q : Nat} (core : isCore q = true)
include core

theorem secConfirm_of_steady (steady : s.sec.sw = none) : s.secConfirm q = if s.pwr.startStep = 12 ∧ s.rb SEC_STATUS_PENDING_BOOT = true then
    (s.writeSel (fun r => { r with active := if r.pending = 0xFF then r.active else r.pending, pending := 0xFF, tries := 0 })).wb SEC_STATUS_PENDING_BOOT false else s := by
  rw [State.secConfirm, core, steady]
  rfl

theorem svnCommit_of_core : s.svnCommit q = if s.verifyImage (s.image (1 - s.rf SEC_STATUS_BOOT_SLOT)) = 0 ∧ (s.image (1 - s.rf SEC_STATUS_BOOT_SLOT)).svn.toNat < s.rf SEC_FWSVN_FW_SVN then s
    else { s with sec.minSvn := max s.sec.minSvn (s.rf SEC_FWSVN_FW_SVN) } := by
  rw [State.svnCommit, core]
  rfl

end

/-! ### The quote (R519) -/

/-- The hash of the running image: free bytes in Recovery. -/
def State.runHash (s : State) : List Byte :=
  if s.mode = modeRecovery then ((s.freeBytes 160).2.drop 128).take 32 else hashBytes (s.image (s.rf SEC_STATUS_BOOT_SLOT)).hash

/-- The hash of the other slot's image, where it verifies. -/
def State.otherHash (s : State) : List Byte :=
  if s.verifyImage (s.image (1 - s.rf SEC_STATUS_BOOT_SLOT)) = 0 then hashBytes (s.image (1 - s.rf SEC_STATUS_BOOT_SLOT)).hash else List.replicate 32 0

/-- The five hashes of a quote. -/
def State.quoteHashes (s : State) : List Byte :=
  s.runHash ++ s.otherHash ++ (s.freeBytes 160).2.take 32 ++ hashBytes s.sec.formatHash ++ ((s.freeBytes 160).2.drop 32).take 32

theorem length_freeBytes (n : Nat) : (s.freeBytes n).2.length = n := by simp [State.freeBytes]

theorem length_hashBytes (h : BitVec 256) : (hashBytes h).length = 32 := length_leBytes ..

theorem length_runHash : s.runHash.length = 32 := by
  unfold State.runHash
  split
  · simp [length_freeBytes]
  · exact length_hashBytes _

theorem length_otherHash : s.otherHash.length = 32 := by
  unfold State.otherHash
  split
  · exact length_hashBytes _
  · exact List.length_replicate ..

theorem length_quoteHashes : s.quoteHashes.length = 160 := by
  simp [State.quoteHashes, length_runHash, length_otherHash, length_hashBytes, length_freeBytes]

/-- The magic, the version, the mode and the nonce of zeros: the first 40 bytes. -/
def State.quoteHead (s : State) : List Byte := [0x4F, 0x41, 0x54, 0x51] ++ leBytes 2 1 ++ leBytes 1 s.mode ++ leBytes 1 0

/-- What follows the quote's count. -/
def State.quoteTail (s : State) : List Byte := leBytes 8 s.coreTime.toNat ++ ((s.freeBytes 160).2.drop 64).take 64

/-- The bytes of a quote without a nonce. -/
theorem quoteBytes_eq {src : Nat} (fresh : tabFind s.nonce src = none) : (s.quoteBytes src).2 = s.quoteHead ++ (List.replicate 32 0 ++ (s.quoteHashes ++ (leBytes 4 (s.rf CFG_CRC_RUNNING_CRC)
    ++ (leBytes 4 s.sec.minSvn ++ (leBytes 4 (s.rf SEC_FWSVN_FW_SVN) ++ (leBytes 4 s.sec.bootCount ++ (leBytes 8 (s.sec.quoteCount + 1) ++ s.quoteTail))))))) := by
  have nonce : tabGet (List.replicate 32 (0 : Byte)) s.nonce src = List.replicate 32 0 := by rw [tabGet, fresh]; rfl
  have split : (s.quoteBytes src).2 = s.quoteHead ++ tabGet (List.replicate 32 (0 : Byte)) s.nonce src ++ s.runHash ++ s.otherHash ++ (s.freeBytes 160).2.take 32 ++ hashBytes s.sec.formatHash
      ++ ((s.freeBytes 160).2.drop 32).take 32 ++ leBytes 4 (s.rf CFG_CRC_RUNNING_CRC) ++ leBytes 4 s.sec.minSvn ++ leBytes 4 (s.rf SEC_FWSVN_FW_SVN) ++ leBytes 4 s.sec.bootCount
      ++ leBytes 8 (s.sec.quoteCount + 1) ++ leBytes 8 s.coreTime.toNat ++ ((s.freeBytes 160).2.drop 64).take 64 := rfl
  rw [split, nonce]
  simp only [State.quoteHashes, State.quoteTail, List.append_assoc]

theorem length_quoteHead : s.quoteHead.length = 8 := by simp [State.quoteHead]

/-- A part of appended bytes is read at its offset. -/
theorem take_drop_append {a p b : List Byte} {n k : Nat} (ha : a.length = n) (hp : p.length = k) : ((a ++ (p ++ b)).drop n).take k = p := by
  rw [List.drop_left' ha, List.take_left' hp]

/-- Appended bytes are passed over. -/
theorem take_drop_skip {a b : List Byte} {n : Nat} (ha : a.length = n) (m k : Nat) : ((a ++ b).drop (n + m)).take k = (b.drop m).take k := by
  rw [← List.drop_drop, List.drop_left' ha]

theorem quoteBytes_magic (s : State) (src : Nat) : (s.quoteBytes src).2.take 4 = [0x4F, 0x41, 0x54, 0x51] := by
  unfold State.quoteBytes
  simp only [List.append_assoc]
  exact List.take_left' rfl

/-- A quote's places. -/
theorem quoteBytes_places {src : Nat} (fresh : tabFind s.nonce src = none) : ∃ b : List Byte, b = (s.quoteBytes src).2 ∧ b.length = 296 ∧ b[6]? = some (BitVec.ofNat 8 s.mode)
    ∧ (b.drop 8).take 32 = List.replicate 32 0 ∧ (b.drop 204).take 4 = leBytes 4 s.sec.minSvn ∧ (b.drop 216).take 8 = leBytes 8 (s.sec.quoteCount + 1)
    ∧ (b.drop 224).take 8 = leBytes 8 s.coreTime.toNat := by
  refine ⟨_, rfl, ?_, ?_, ?_, ?_, ?_, ?_⟩
  all_goals rw [quoteBytes_eq fresh]
  · simp [length_quoteHead, length_quoteHashes, State.quoteTail, length_freeBytes]
  · rfl
  · exact take_drop_append length_quoteHead (List.length_replicate ..)
  · exact (take_drop_skip length_quoteHead 196 4).trans ((take_drop_skip (List.length_replicate ..) 164 4).trans ((take_drop_skip length_quoteHashes 4 4).trans
      (take_drop_append (length_leBytes ..) (length_leBytes ..))))
  · exact (take_drop_skip length_quoteHead 208 8).trans ((take_drop_skip (List.length_replicate ..) 176 8).trans ((take_drop_skip length_quoteHashes 16 8).trans
      ((take_drop_skip (length_leBytes ..) 12 8).trans ((take_drop_skip (length_leBytes ..) 8 8).trans ((take_drop_skip (length_leBytes ..) 4 8).trans
        (take_drop_append (length_leBytes ..) (length_leBytes ..)))))))
  · exact (take_drop_skip length_quoteHead 216 8).trans ((take_drop_skip (List.length_replicate ..) 184 8).trans ((take_drop_skip length_quoteHashes 24 8).trans
      ((take_drop_skip (length_leBytes ..) 20 8).trans ((take_drop_skip (length_leBytes ..) 16 8).trans ((take_drop_skip (length_leBytes ..) 12 8).trans
        ((take_drop_skip (length_leBytes ..) 8 8).trans (take_drop_append (length_leBytes ..) (length_leBytes ..))))))))

theorem quote_of_refused {src a : Nat} (runs : s.odRuns = true) (pre : a = s.odPre (s.srcRole src) 0xB030 2 false false) (refused : a ≠ 0) :
    s.quote src = s.emit (.od src a []) := by
  rw [pre] at refused ⊢
  exact (if_neg (by rw [runs]; decide)).trans (if_pos refused)

theorem quote_of_off {src : Nat} (runs : s.odRuns = true) (pre : s.odPre (s.srcRole src) 0xB030 2 false false = 0) (off : s.dom (odOwner 0xB030 2).2 ≠ 3) :
    s.quote src = s.emit (.od src odOFF []) := by
  have post : s.odPost 0xB030 2 false = odOFF := if_pos off
  refine (if_neg (by rw [runs]; decide)).trans ((if_neg (not_not.mpr pre)).trans ((if_pos (by rw [post]; decide)).trans ?_))
  rw [post]
  rfl

theorem quote_of_passed {src : Nat} (runs : s.odRuns = true) (pre : s.odPre (s.srcRole src) 0xB030 2 false false = 0) (on : s.dom (odOwner 0xB030 2).2 = 3) :
    s.quote src = { s.useFree with sec.quoteCount := s.sec.quoteCount + 1, out := .od src 0 (s.quoteBytes src).2 :: .quote src (s.sec.quoteCount + 1) (s.quoteBytes src).2 :: s.out } := by
  have post : s.odPost 0xB030 2 false = 0 := if_neg (not_not.mpr on)
  exact (if_neg (by rw [runs]; decide)).trans ((if_neg (not_not.mpr pre)).trans (if_neg (not_not.mpr post)))

end

/-- Settles O58: a write of the zero key leaves an enrolled slot, as the last one is refused. -/
theorem keysConfirmationsAndQuote : Obligations.KeysConfirmationsAndQuote := by
  intro s
  refine ⟨fun src m k key role sig a pre => ⟨fun stopped => ⟨exec_keySlotWrite_of_stopped stopped, next_eq (if_pos (by rw [stopped]; rfl))⟩,
    fun runs refused => exec_keySlotWrite_of_refused runs pre refused, fun runs passed live hlive => ?_, fun live => ?_⟩,
    fun q => ⟨only_cores, fun low high => ⟨fun steady idle => ?_, fun steady step waits pending => ?_, fun i hi => ⟨?_, ?_⟩, ?_, ?_⟩⟩,
    fun src a runs pre => ⟨fun refused => next_eq (quote_of_refused runs pre refused), fun passed off => ?_, fun passed on => ?_⟩⟩
  · have written := exec_keySlotWrite_of_passed runs (pre.symm.trans passed) (key := key) (role := role) (sig := sig)
    subst hlive
    refine ⟨fun zero one enrolled => ?_, fun some mgmt bad => ?_, fun more ranged => ⟨fun locked => ?_, fun enabled live unsigned => ?_, fun enabled authentic => ⟨fun some => ?_, fun zero => ?_⟩⟩⟩
    · rw [written, keyPut_of_last zero one enrolled]
      rfl
    · subst mgmt
      rw [written, keyPut_of_role some bad]
      rfl
    · rw [written, keyPut_of_locked more ranged locked]
    · rw [written, keyPut_of_unsigned more ranged enabled live unsigned]
    · rw [written, keyPut_of_authentic more ranged enabled authentic, if_neg (by rw [beq_iff_eq]; exact some)]
      rfl
    · rw [keyPut_of_authentic more ranged enabled authentic, if_pos (beq_iff_eq.mpr zero)] at written
      have kept := sec_revoke s m k.val
      refine ⟨s.revoke m k.val, written, ?_, kept.2, ?_, fun j _ other => ⟨?_, ?_⟩, ?_⟩
      · rw [oneKey_of_sec kept.1]
        exact oneKey_putKey_same ..
      · rintro rfl
        rfl
      · exact (oneKey_of_sec kept.1 true j).trans (oneKey_putKey_ne m true other _)
      · exact (oneKey_of_sec kept.1 false j).trans (oneKey_putKey_ne m false other _)
      · rintro n x rfl one
        exact closeKey_of_one one
  · by_cases runs : s.odRuns = true
    · by_cases refused : a = 0
      · exact ⟨_, exec_keySlotWrite_of_passed runs (pre.symm.trans refused), live_keyPut live⟩
      · exact ⟨_, exec_keySlotWrite_of_refused runs pre refused, live⟩
    · exact ⟨s, exec_keySlotWrite_of_stopped (Bool.not_eq_true _ ▸ runs), live⟩
  · refine next_eq ((secConfirm_of_steady (isCore_of_core low high) steady).trans (if_neg fun h => ?_))
    rcases idle with early | none
    · exact early h.1
    · rw [none] at h
      exact absurd h.2 (by decide)
  · refine ⟨_, next_eq ((secConfirm_of_steady (isCore_of_core low high) steady).trans (if_pos ⟨step, waits⟩)), rb_wb_same _ rfl .., ?_, rfl⟩
    simp only [State.writeSel, State.wb, State.wf, if_neg pending]
  · subst hi
    exact fun verified lower => next_eq ((svnCommit_of_core (isCore_of_core low high)).trans (if_pos ⟨verified, lower⟩))
  · subst hi
    intro open'
    refine ⟨_, next_eq ((svnCommit_of_core (isCore_of_core low high)).trans (if_neg fun h => ?_)), Nat.le_max_left .., Nat.le_max_right .., rfl⟩
    exact open'.elim (fun bad => bad h.1) (fun high => Nat.not_lt.mpr high h.2)
  · exact next_eq (if_pos (isCore_of_core low high))
  · exact next_eq (if_pos (isCore_of_core low high))
  · exact next_eq (quote_of_off runs (pre.symm.trans passed) off)
  · refine ⟨_, _, next_eq (quote_of_passed runs (pre.symm.trans passed) on), rfl, rfl, rfl, quoteBytes_magic .., fun fresh => ?_⟩
    obtain ⟨b, hb, len, mode, nonce, svn, count, time⟩ := quoteBytes_places fresh
    rw [← hb, svn, count, time]
    exact ⟨len, mode, nonce, leNat_leBytes .., leNat_leBytes .., leNat_leBytes ..⟩

end Sys2Proof.Machine
end

section
/-! Firmware: downloads, commits and the steps of a switch-over (23_security_maintenance.md R512 to R518), and the claim about them. -/

namespace Sys2Proof.Machine
open Sys2Proof

section
variable {s : State} {src : Fin 16}

/-! ### Requests held while a switch-over runs (R517) -/

theorem odHeld_of_switchover (runs : s.sec.sw.isSome = true) (src : Nat) (r : State × Nat) : s.odHeld src r = s := if_pos runs

theorem odHeld_of_steady (runs : s.odRuns = true) (steady : s.sec.sw = none) (src : Nat) (r : State × Nat) : s.odHeld src r = r.1.emit (.od src r.2 []) :=
  (if_neg (by rw [steady]; decide)).trans (if_pos runs)

/-- Background work is held in QUIESCE and HANDOFF. -/
theorem bgHeld_of_handoff (runs : s.sec.sw.isSome = true) (step : s.rf SEC_SWITCH_STATE = 3 ∨ s.rf SEC_SWITCH_STATE = 4) : s.bgHeld = true := by
  rw [State.bgHeld, runs]
  rcases step with quiesce | handoff
  · rw [quiesce]
    rfl
  · rw [handoff]
    rfl

/-! ### Parts of a download (R516) -/

theorem fwPart_of_first {owner : FwSource} {o n : Nat} (none : s.sec.dl = none) : s.fwPart owner o n = if o ≠ 0 then (s, odSEGMENT) else if 2 ^ 22 < n then (s, odRANGE)
    else ({ s with sec.dl := some { owner := owner, size := n, parts := 1 } }, odOK) := by
  rw [State.fwPart, none]

theorem fwPart_of_open {owner : FwSource} {o n : Nat} {d : Download} (opened : s.sec.dl = some d) : s.fwPart owner o n = if d.owner ≠ owner then (s, odNORES)
    else if 2 ^ 22 < o + n then (s, odRANGE) else ({ s with sec.dl := some { d with size := max d.size (o + n), parts := d.parts + 1 } }, odOK) := by
  rw [State.fwPart, opened]

theorem exec_fwChunk (runs : s.odRuns = true) (steady : s.sec.sw = none) (l : List Byte) :
    exec (.fwChunk src l) s = .next ((s.fwChunk src l).1.emit (.od src.val (s.fwChunk src l).2 [])) := next_eq (odHeld_of_steady runs steady _ _)

theorem fwChunk_of_refused {l : List Byte} {a : Nat} (status : a = s.odWriteStatus (s.srcRole src.val) 0xB050 2 l false) (refused : a ≠ 0) : s.fwChunk src l = (s, a) := by
  rw [status] at refused ⊢
  exact if_pos refused

theorem fwChunk_of_passed {l : List Byte} (status : s.odWriteStatus (s.srcRole src.val) 0xB050 2 l false = 0) :
    s.fwChunk src l = s.fwPart (.od src) (s.src 0xB050 1 src.val 0) l.length := if_neg (not_not.mpr status)

/-! ### Commits (R516) -/

theorem verifyImage_of_sec {t u : State} (revoke : t.sec.revoke0 = u.sec.revoke0) (svn : t.sec.minSvn = u.sec.minSvn) (i : ImageInfo) : t.verifyImage i = u.verifyImage i := by
  unfold State.verifyImage
  rw [revoke, svn]

theorem verifyImage_lt (s : State) (i : ImageInfo) : s.verifyImage i < 8 := by
  unfold State.verifyImage
  repeat' split
  all_goals decide

theorem fwForeign_of_owner {owner : FwSource} {d : Download} (opened : s.sec.dl = some d) (mine : d.owner = owner) (action : Nat) : s.fwForeign owner action = false := by
  rw [State.fwForeign, opened]
  simp [mine]

theorem fwForeign_of_other {owner : FwSource} {d : Download} (opened : s.sec.dl = some d) (other : d.owner ≠ owner) {action : Nat} (new : action ≠ 2) : s.fwForeign owner action = true := by
  rw [State.fwForeign, opened]
  simp [other, new]

/-- A commit that takes the download notes its outcome. -/
def State.dlTaken (s : State) (r : Nat) : State := ({ s with sec.dl := none } : State).wf SEC_SWITCH_RESULT r

/-- What a commit of action 0, 1 or 3 does with a slot that holds its image. -/
def State.acted (s : State) (owner : FwSource) (cid action slot : Nat) : State :=
  if action = 1 then s.setPending slot
  else if action = 3 then { s.wf SEC_SWITCH_STATE 2 with sec.sw := some { slot := slot, old := s.rf SEC_STATUS_BOOT_SLOT, owner := owner, cid := cid } }
  else s

section
variable {owner : FwSource} {d : Download} (opened : s.sec.dl = some d) (mine : d.owner = owner) {cid action slot : Nat} (new : action ≠ 2) {i : ImageInfo}
include opened mine new

theorem fwCommit_of_running (mode : s.mode ≠ modeRecovery) (runs : slot = s.rf SEC_STATUS_BOOT_SLOT) : s.fwCommit owner cid action slot i = (s.dlTaken 0x12, 0x12) := by
  have boot : ({ s with sec.dl := none } : State).rf SEC_STATUS_BOOT_SLOT = slot := runs.symm
  have kept : ({ s with sec.dl := none } : State).mode ≠ modeRecovery := mode
  simp only [State.fwCommit, opened, mine, beq_self_eq_true, new, ne_eq, not_false_eq_true, and_self, if_true, if_false, boot, kept]
  rfl

theorem fwCommit_of_bad (other : s.mode = modeRecovery ∨ slot ≠ s.rf SEC_STATUS_BOOT_SLOT) (bad : s.verifyImage i ≠ 0) :
    s.fwCommit owner cid action slot i = (s.dlTaken (s.verifyImage i), s.verifyImage i) := by
  have apart : ¬ (({ s with sec.dl := none } : State).mode ≠ modeRecovery ∧ slot = ({ s with sec.dl := none } : State).rf SEC_STATUS_BOOT_SLOT) :=
    fun h => other.elim h.1 (fun apart => apart h.2)
  have verdict : ({ s with sec.dl := none } : State).verifyImage i = s.verifyImage i := rfl
  simp only [State.fwCommit, opened, mine, beq_self_eq_true, new, ne_eq, not_false_eq_true, and_self, if_true, if_false, apart, Bool.not_true, Bool.false_eq_true, verdict, bad]
  rfl

theorem fwCommit_of_good (other : s.mode = modeRecovery ∨ slot ≠ s.rf SEC_STATUS_BOOT_SLOT) (good : s.verifyImage i = 0) :
    s.fwCommit owner cid action slot i = (((s.dlTaken 0).putImage slot i).acted owner cid action slot, 0) := by
  have apart : ¬ (({ s with sec.dl := none } : State).mode ≠ modeRecovery ∧ slot = ({ s with sec.dl := none } : State).rf SEC_STATUS_BOOT_SLOT) :=
    fun h => other.elim h.1 (fun apart => apart h.2)
  have verdict : ({ s with sec.dl := none } : State).verifyImage i = 0 := good
  simp only [State.fwCommit, opened, mine, beq_self_eq_true, new, ne_eq, not_false_eq_true, and_self, if_true, if_false, apart, Bool.not_true, Bool.false_eq_true, verdict,
    not_true_eq_false, or_false]
  by_cases pending : action = 1
  · simp only [State.acted, pending, if_true]
    rfl
  · simp only [State.acted, pending, if_false]
    rfl

end

/-- A slot holds a new image, and nothing of the selection but a request for Recovery has changed. -/
structure ImageStored (s t : State) (slot : Nat) (i : ImageInfo) : Prop where
  image : t.image slot = i
  other : t.image (1 - slot) = s.image (1 - slot)
  regs : t.regs = s.regs
  od : t.od = s.od
  out : t.out = s.out
  port : t.port = s.port
  dl : t.sec.dl = s.sec.dl
  sw : t.sec.sw = s.sec.sw
  active : t.sec.sel.active = s.sec.sel.active
  pending : t.sec.sel.pending = s.sec.sel.pending
  recovered : s.mode = modeRecovery → s.sec.sel.recoveryReq = true → t.sec.sel.recoveryReq = false
  selected : s.mode ≠ modeRecovery → t.sec.sel = s.sec.sel

/-- The image of a slot, stored. -/
def State.storeImage (s : State) (slot : Nat) (i : ImageInfo) : State := if slot = 0 then { s with sec.imgA := i } else { s with sec.imgB := i }

theorem imageStored_storeImage (s : State) {slot : Nat} (two : slot < 2) (i : ImageInfo) (free : ¬ (s.mode = modeRecovery ∧ s.sec.sel.recoveryReq = true)) :
    ImageStored s (s.storeImage slot i) slot i := by
  have never : s.mode = modeRecovery → s.sec.sel.recoveryReq = true → False := fun mode request => free ⟨mode, request⟩
  rcases (by omega : slot = 0 ∨ slot = 1) with rfl | rfl
  · exact ⟨rfl, rfl, rfl, rfl, rfl, rfl, rfl, rfl, rfl, rfl, fun mode request => (never mode request).elim, fun _ => rfl⟩
  · exact ⟨rfl, rfl, rfl, rfl, rfl, rfl, rfl, rfl, rfl, rfl, fun mode request => (never mode request).elim, fun _ => rfl⟩

theorem imageStored_recovered (s : State) {slot : Nat} (two : slot < 2) (i : ImageInfo) (mode : s.mode = modeRecovery) :
    ImageStored s ((s.storeImage slot i).writeSel (fun r => { r with recoveryReq := false })) slot i := by
  rcases (by omega : slot = 0 ∨ slot = 1) with rfl | rfl
  · exact ⟨rfl, rfl, rfl, rfl, rfl, rfl, rfl, rfl, rfl, rfl, fun _ _ => rfl, fun other => absurd mode other⟩
  · exact ⟨rfl, rfl, rfl, rfl, rfl, rfl, rfl, rfl, rfl, rfl, fun _ _ => rfl, fun other => absurd mode other⟩

theorem storeImage_request (s : State) (slot : Nat) (i : ImageInfo) : (s.storeImage slot i).mode = s.mode ∧ (s.storeImage slot i).sec.sel = s.sec.sel := by
  unfold State.storeImage
  split
  · exact ⟨rfl, rfl⟩
  · exact ⟨rfl, rfl⟩

theorem imageStored_putImage (s : State) {slot : Nat} (two : slot < 2) (i : ImageInfo) : ImageStored s (s.putImage slot i) slot i := by
  obtain ⟨mode, sel⟩ := storeImage_request s slot i
  have put : s.putImage slot i = if s.mode = modeRecovery ∧ s.sec.sel.recoveryReq = true then (s.storeImage slot i).writeSel (fun r => { r with recoveryReq := false })
      else s.storeImage slot i := by
    rw [← mode, ← sel]
    rfl
  rw [put]
  by_cases asked : s.mode = modeRecovery ∧ s.sec.sel.recoveryReq = true
  · rw [if_pos asked]
    exact imageStored_recovered s two i asked.1
  · rw [if_neg asked]
    exact imageStored_storeImage s two i asked

/-- A commit to slot `slot` that has stored its image. -/
def State.committed (s : State) (slot : Nat) (i : ImageInfo) : State := (s.dlTaken 0).putImage slot i

theorem mode_dlTaken (s : State) (r : Nat) : (s.dlTaken r).mode = s.mode := rf_wf_power ({ s with sec.dl := none } : State) (by decide) r

section
variable (s) {slot : Nat} (two : slot < 2) (i : ImageInfo)
include two

theorem committed_stored : ImageStored (s.dlTaken 0) (s.committed slot i) slot i := imageStored_putImage (s.dlTaken 0) two i

theorem rf_committed (f : Fld) : (s.committed slot i).rf f = (s.dlTaken 0).rf f := by
  have regs := (committed_stored s two i).regs
  simp only [State.rf, regs]

theorem rf_committed_result : (s.committed slot i).rf SEC_SWITCH_RESULT = 0 := by
  rw [rf_committed s two i]
  exact rf_wf_same ..

theorem rf_committed_boot : (s.committed slot i).rf SEC_STATUS_BOOT_SLOT = s.rf SEC_STATUS_BOOT_SLOT := by
  rw [rf_committed s two i]
  exact rf_wf_power _ (by decide) _

end

theorem rf_dlTaken {r : Nat} (small : r < 256) : (s.dlTaken r).rf SEC_SWITCH_RESULT = r := (rf_wf_same ..).trans (Nat.mod_eq_of_lt small)

theorem acted_zero (s : State) (owner : FwSource) (cid slot : Nat) : s.acted owner cid 0 slot = s := rfl
theorem acted_one (s : State) (owner : FwSource) (cid slot : Nat) : s.acted owner cid 1 slot = s.setPending slot := rfl
theorem acted_three (s : State) (owner : FwSource) (cid slot : Nat) : s.acted owner cid 3 slot
    = { s.wf SEC_SWITCH_STATE 2 with sec.sw := some { slot := slot, old := s.rf SEC_STATUS_BOOT_SLOT, owner := owner, cid := cid } } := rfl

/-! ### FW_CMD (R518) -/

theorem exec_fwCmd (runs : s.odRuns = true) (steady : s.sec.sw = none) {v : Nat} {c : Instr} {im : ImageInfo}
    (command : (v = 1 ∧ c = .fwWrite src im) ∨ (v = 2 ∧ c = .fwWriteAtReset src im) ∨ (v = 4 ∧ c = .fwWriteNow src im)) :
    exec c s = .next ((s.fwCmd src v im).1.emit (.od src.val (s.fwCmd src v im).2 [])) := by
  rcases command with ⟨rfl, rfl⟩ | ⟨rfl, rfl⟩ | ⟨rfl, rfl⟩
  all_goals exact next_eq (odHeld_of_steady runs steady _ _)

theorem fwCmd_of_foreign {v : Nat} {im : ImageInfo} (status : s.odWriteStatus (s.srcRole src.val) 0xB050 4 (leBytes 1 v) false = 0) (foreign : s.fwForeign (.od src) (v - 1) = true) :
    s.fwCmd src v im = (s, odNORES) := (if_neg (not_not.mpr status)).trans (if_pos foreign)

theorem fwCmd_of_own {v j : Nat} {im : ImageInfo} (status : s.odWriteStatus (s.srcRole src.val) 0xB050 4 (leBytes 1 v) false = 0) (own : s.fwForeign (.od src) (v - 1) = false)
    (slot : s.src 0xB050 3 src.val 1 = j + 1) : s.fwCmd src v im = ((s.fwCommit (.od src) 0 (v - 1) j im).1, 0) := by
  refine (if_neg (not_not.mpr status)).trans ((if_neg (by rw [own]; decide)).trans ?_)
  rw [slot]
  rfl

/-- What a dictionary commit of action v - 1 leaves, where it stores its image. -/
theorem stored_commit (s : State) (src : Fin 16) {j v : Nat} (two : j < 2) (im : ImageInfo) (value : v = 1 ∨ v = 2 ∨ v = 4) (steady : s.sec.sw = none) :
    ∃ t : State, t = (s.committed j im).acted (.od src) 0 (v - 1) j ∧ t.sec.dl = none ∧ t.od = s.od ∧ t.out = s.out ∧ t.image (1 - j) = s.image (1 - j)
      ∧ t.rf SEC_SWITCH_RESULT = 0 ∧ t.image j = im ∧ t.sec.sel.active = s.sec.sel.active ∧ (v = 2 → t.sec.sel.pending = j ∧ t.sec.sel.tries = 0) ∧ (v ≠ 2 → t.sec.sel.pending = s.sec.sel.pending)
      ∧ (v = 4 → t.rf SEC_SWITCH_STATE = 2 ∧ t.sec.sw = some { slot := j, old := s.rf SEC_STATUS_BOOT_SLOT, owner := .od src, cid := 0 }) ∧ (v ≠ 4 → t.sec.sw = none)
      ∧ (s.mode = modeRecovery → s.sec.sel.recoveryReq = true → t.sec.sel.recoveryReq = false) := by
  have stored := committed_stored s two im
  have result := rf_committed_result s two im
  have boot := rf_committed_boot s two im
  have recovered : s.mode = modeRecovery → s.sec.sel.recoveryReq = true → (s.committed j im).sec.sel.recoveryReq = false := fun mode =>
    stored.recovered ((mode_dlTaken s 0).trans mode)
  rcases value with rfl | rfl | rfl
  · exact ⟨_, rfl, stored.dl, stored.od, stored.out, stored.other, result, stored.image, stored.active, fun h => absurd h (by decide), fun _ => stored.pending,
      fun h => absurd h (by decide), fun _ => stored.sw.trans steady, recovered⟩
  · exact ⟨_, rfl, stored.dl, stored.od, stored.out, stored.other, result, stored.image, stored.active, fun _ => ⟨rfl, rfl⟩, fun h => absurd rfl h,
      fun h => absurd h (by decide), fun _ => stored.sw.trans steady, recovered⟩
  · refine ⟨_, rfl, stored.dl, stored.od, stored.out, stored.other, ?_, stored.image, stored.active, fun h => absurd h (by decide), fun _ => stored.pending,
      fun _ => ⟨rf_wf_same .., ?_⟩, fun h => absurd rfl h, recovered⟩
    · exact (rf_wf_power (s.committed j im) (by decide) 2).trans result
    · rw [← boot]
      rfl

/-- ACTIVATE_AT_RESET of a slot as it is. -/
theorem fwCommit_of_activate (s : State) (owner : FwSource) (cid slot : Nat) (i : ImageInfo) : (s.fwCommit owner cid 2 slot i).1
    = if s.verifyImage (s.image slot) ≠ 0 then s.wf SEC_SWITCH_RESULT (s.verifyImage (s.image slot)) else (s.wf SEC_SWITCH_RESULT (s.verifyImage (s.image slot))).setPending slot := by
  unfold State.fwCommit
  simp only [ne_eq, not_true_eq_false, false_and, if_false, if_true, or_true]
  split
  · rfl
  · rfl

theorem exec_fwActivate (runs : s.odRuns = true) (steady : s.sec.sw = none) {j : Nat} (status : s.odWriteStatus (s.srcRole src.val) 0xB050 4 (leBytes 1 3) false = 0)
    (slot : s.src 0xB050 3 src.val 1 = j + 1) :
    exec (.fwActivateAtReset src) s = .next ((s.fwCommit (.od src) 0 2 j blankImage).1.emit (.od src.val 0 [])) := by
  refine next_eq ((odHeld_of_steady runs steady _ _).trans ?_)
  rw [fwCmd_of_own status rfl slot]

end

end Sys2Proof.Machine
end

section
/-! The NVMe firmware commands, the steps of a switch-over and the entries that abandon it (23_security_maintenance.md R516, R517). -/

namespace Sys2Proof.Machine
open Sys2Proof

/-! ### Firmware Commit (R516) -/

section
variable {u : State} {q : Fin 2} {cid action slot : Nat} {i : ImageInfo}

theorem nvCommit_of_action (beyond : 3 < action) : u.nvCommit q cid action slot i = fail0 u scFIELD := if_pos beyond

theorem nvCommit_of_slot (known : action ≤ 3) (beyond : 2 < slot) : u.nvCommit q cid action slot i = fail0 u 0x106 := by
  obtain ⟨k, rfl⟩ : ∃ k, slot = k + 3 := ⟨slot - 3, by omega⟩
  exact if_neg (Nat.not_lt.mpr known)

theorem nvCommit_of_foreign (known : action ≤ 3) {k : Nat} (place : u.nvSlot slot = some k) (foreign : u.fwForeign (.nvme q) action = true) :
    u.nvCommit q cid action slot i = fail0 u scFIELD := by
  simp only [State.nvCommit, Nat.not_lt.mpr known, if_false, place, foreign, if_true]

theorem nvCommit_of_own (known : action ≤ 3) {k : Nat} (place : u.nvSlot slot = some k) (own : u.fwForeign (.nvme q) action = false) {t : State} {r : Nat}
    (commit : u.fwCommit (.nvme q) cid action k i = (t, r)) : u.nvCommit q cid action slot i = if r = rsRUNNING then fail0 t 0x106 else if r ≠ 0 then fail0 t 0x107
      else if action = 3 then (t, none) else ok0 t := by
  simp only [State.nvCommit, Nat.not_lt.mpr known, if_false, place, own, Bool.false_eq_true, commit]

end

section
variable {s t : State} {q : Fin 2} {cid : BitVec 16} (steady : s.sec.sw = none) (turn : s.nextTurn = some (t, nvPart q.val 0))
include steady turn

theorem exec_firmwareDownload (o : BitVec 32) (l : List Byte) : exec (.firmwareDownload q cid o l) s =
    .next (((t.adminFetched q.val).fwPart (.nvme q) o.toNat l.length).1.adminDone q.val cid.toNat
      (if ((t.adminFetched q.val).fwPart (.nvme q) o.toNat l.length).2 = odOK then 0 else scFIELD) 0) := next_eq (adminRun_of_answer steady turn rfl)

theorem exec_firmwareCommit_of_answer {action slot : BitVec 3} {im : ImageInfo} {r : State} {st d : Nat}
    (answer : (t.adminFetched q.val).nvCommit q cid.toNat action.toNat slot.toNat im = (r, some (st, d))) :
    exec (.firmwareCommit q cid action slot im) s = .next (r.adminDone q.val cid.toNat st d) := next_eq (adminRun_of_answer steady turn answer)

theorem exec_firmwareCommit_of_wait {action slot : BitVec 3} {im : ImageInfo} {r : State}
    (waits : (t.adminFetched q.val).nvCommit q cid.toNat action.toNat slot.toNat im = (r, none)) : exec (.firmwareCommit q cid action slot im) s = .next r :=
  next_eq (adminRun_of_wait steady turn waits)

/-- Parts of a download by its command. -/
theorem firmwareDownload_answers (o : BitVec 32) (l : List Byte) (none : (t.adminFetched q.val).sec.dl = none) :
    (o.toNat ≠ 0 → exec (.firmwareDownload q cid o l) s = .next ((t.adminFetched q.val).adminDone q.val cid.toNat scFIELD 0))
    ∧ (o.toNat = 0 → l.length ≤ 2 ^ 22 → exec (.firmwareDownload q cid o l) s
      = .next (({ t.adminFetched q.val with sec.dl := some { owner := .nvme q, size := l.length, parts := 1 } } : State).adminDone q.val cid.toNat 0 0)) := by
  refine ⟨fun late => ?_, fun first fits => ?_⟩
  · rw [exec_firmwareDownload steady turn, fwPart_of_first none, if_pos late]
    rfl
  · rw [exec_firmwareDownload steady turn, fwPart_of_first none, if_neg (not_not.mpr first), if_neg (Nat.not_lt.mpr fits)]
    rfl

/-- The download of another source. -/
theorem firmware_of_other {d : Download} (opened : (t.adminFetched q.val).sec.dl = some d) (other : d.owner ≠ .nvme q) (o : BitVec 32) (l : List Byte) (im : ImageInfo) :
    exec (.firmwareDownload q cid o l) s = .next ((t.adminFetched q.val).adminDone q.val cid.toNat scFIELD 0)
    ∧ exec (.firmwareCommit q cid 0 1 im) s = .next ((t.adminFetched q.val).adminDone q.val cid.toNat scFIELD 0) := by
  refine ⟨?_, exec_firmwareCommit_of_answer steady turn (nvCommit_of_foreign (by decide) (k := 0) rfl (fwForeign_of_other opened other (by decide)))⟩
  rw [exec_firmwareDownload steady turn, fwPart_of_open opened, if_pos other]
  rfl

/-- The commits of the owner, while slot A runs. -/
theorem firmwareCommit_of_owner {d : Download} (opened : (t.adminFetched q.val).sec.dl = some d) (mine : d.owner = .nvme q) (boot : (t.adminFetched q.val).rf SEC_STATUS_BOOT_SLOT = 0)
    (mode : (t.adminFetched q.val).mode ≠ modeRecovery) (im : ImageInfo) {u : State} (hu : u = t.adminFetched q.val) : ∃ w : State, w.sec.dl = none
      ∧ exec (.firmwareCommit q cid 1 1 im) s = .next (w.adminDone q.val cid.toNat 0x106 0) ∧ w.rf SEC_SWITCH_RESULT = 0x12
      ∧ (u.verifyImage im ≠ 0 → ∃ x : State, exec (.firmwareCommit q cid 3 0 im) s = .next (x.adminDone q.val cid.toNat 0x107 0) ∧ x.rf SEC_SWITCH_RESULT = u.verifyImage im ∧ x.image 1 = u.image 1)
      ∧ (u.verifyImage im = 0 → (∃ x : State, exec (.firmwareCommit q cid 0 2 im) s = .next (x.adminDone q.val cid.toNat 0 0) ∧ x.image 1 = im ∧ x.image 0 = u.image 0 ∧ x.sec.sel = u.sec.sel)
        ∧ (∃ x : State, exec (.firmwareCommit q cid 3 2 im) s = .next x ∧ x.image 1 = im ∧ x.rf SEC_SWITCH_STATE = 2 ∧ x.sec.sw = some { slot := 1, old := 0, owner := .nvme q, cid := cid.toNat } ∧ x.port = u.port ∧ x.out = u.out)) := by
  rw [← hu] at opened boot mode
  have own (action : Nat) := fwForeign_of_owner opened mine action
  have answers {action slot : BitVec 3} {im : ImageInfo} {r : State} {st d : Nat} := @exec_firmwareCommit_of_answer s t q cid steady turn action slot im r st d
  have waits {action slot : BitVec 3} {im : ImageInfo} {r : State} := @exec_firmwareCommit_of_wait s t q cid steady turn action slot im r
  rw [← hu] at answers waits
  have apart : u.mode = modeRecovery ∨ (1 : Nat) ≠ u.rf SEC_STATUS_BOOT_SLOT := .inr (by rw [boot]; decide)
  have running : u.fwCommit (.nvme q) cid.toNat 1 0 im = (u.dlTaken 0x12, 0x12) := fwCommit_of_running opened mine (by decide) mode boot.symm
  refine ⟨u.dlTaken 0x12, rfl, answers (nvCommit_of_own (by decide) rfl (own 1) running), rf_dlTaken (by decide), fun bad => ?_, fun good => ⟨?_, ?_⟩⟩
  · have small := verifyImage_lt u im
    have commit := fwCommit_of_bad opened mine (cid := cid.toNat) (action := 3) (by decide) apart bad
    have place : u.nvSlot 0 = some 1 := congrArg (fun k => some (1 - k)) boot
    have answer := nvCommit_of_own (by decide) place (own 3) commit
    rw [if_neg (by unfold rsRUNNING; omega), if_pos bad] at answer
    exact ⟨u.dlTaken (u.verifyImage im), answers answer, rf_dlTaken (by omega), rfl⟩
  · have stored := committed_stored u (slot := 1) (by decide) im
    have commit := fwCommit_of_good opened mine (cid := cid.toNat) (action := 0) (by decide) apart good
    exact ⟨u.committed 1 im, answers (nvCommit_of_own (by decide) rfl (own 0) commit), stored.image, stored.other, stored.selected (fun h => mode ((mode_dlTaken u 0).symm.trans h))⟩
  · have stored := committed_stored u (slot := 1) (by decide) im
    have commit := fwCommit_of_good opened mine (cid := cid.toNat) (action := 3) (by decide) apart good
    refine ⟨_, waits (nvCommit_of_own (by decide) rfl (own 3) commit), stored.image, rf_wf_same .., ?_, stored.port, stored.out⟩
    have old := rf_committed_boot u (slot := 1) (by decide) im
    exact congrArg (fun k => some (Switchover.mk 1 k (.nvme q) cid.toNat)) (old.trans boot)

end

/-! ### The steps of a switch-over (R517) -/

section
variable {s : State} {w : Switchover} (runs : s.sec.sw = some w)
include runs

theorem swStep_of_abandoned (step : s.rf SEC_SWITCH_STATE = 0) : s.swStep = s.swDone w scINTERNAL := by simp only [State.swStep, runs, step]
theorem swStep_of_load (step : s.rf SEC_SWITCH_STATE = 2) : s.swStep = (s.wf SEC_SWITCH_STATE 3).wf WD_STATUS_REMAIN s.wdPeriod := by simp only [State.swStep, runs, step]
theorem swStep_of_quiesce (step : s.rf SEC_SWITCH_STATE = 3) : s.swStep = s.wf SEC_SWITCH_STATE 4 := by simp only [State.swStep, runs, step]
theorem swStep_of_handoff (step : s.rf SEC_SWITCH_STATE = 4) : s.swStep = ((s.runSlot w.slot).wf SEC_SWITCH_STATE 5).wf WD_STATUS_REMAIN s.wdPeriod := by
  simp only [State.swStep, runs, step]
theorem swStep_of_confirm (step : s.rf SEC_SWITCH_STATE = 5) : s.swStep = s.swConfirm w := by simp only [State.swStep, runs, step]

theorem swRevert_of_other (step : s.rf SEC_SWITCH_STATE ≠ 5) : s.swRevert = s := by
  rw [State.swRevert, runs]
  exact if_neg step

theorem swRevert_of_confirm (step : s.rf SEC_SWITCH_STATE = 5) :
    s.swRevert = ((((s.runSlot w.old).wf SEC_SWITCH_STATE 0).wf SEC_SWITCH_RESULT 0x10).swDone w scINTERNAL).report (srcId SYS 8 32) 0 w.slot := by
  rw [State.swRevert, runs]
  exact if_pos step

theorem secConfirm_of_confirm {q : Nat} (core : isCore q = true) (step : s.rf SEC_SWITCH_STATE = 5) : s.secConfirm q = s.swConfirm w := by
  rw [State.secConfirm, core, runs]
  exact if_pos step

theorem swAbandon_of_early (early : s.rf SEC_SWITCH_STATE ≠ 0) (before : s.rf SEC_SWITCH_STATE ≠ 5) : s.swAbandon = (s.wf SEC_SWITCH_STATE 0).wf SEC_SWITCH_RESULT 0x11 := by
  simp only [State.swAbandon, runs, early, before, if_false]

end

theorem swDone_of_dictionary {s : State} {w : Switchover} {src : Fin 16} (owner : w.owner = .od src) (st : Nat) : s.swDone w st = { s with sec.sw := none } := by
  rw [State.swDone, owner]

/-- The slot that runs. -/
theorem rf_runSlot (s : State) {k : Nat} (two : k < 2) : (s.runSlot k).rf SEC_STATUS_BOOT_SLOT = k ∧ (s.runSlot k).rf SEC_FWSVN_FW_SVN = (s.image k).svn.toNat := by
  refine ⟨?_, (rf_wf_same ..).trans (Nat.mod_eq_of_lt (s.image k).svn.isLt)⟩
  rw [State.runSlot, rf_wf_power _ (by decide), rf_wf_same]
  exact Nat.mod_eq_of_lt two

/-! ### Entries to P3 and P4 (R517) -/

/-- Where the switch-over stands does not depend on the hold of an entry. -/
theorem rf_inhibitPower {g : Fld} (base : g.base < 0x810608) (lo : g.lo < 32) (s : State) (x : Bool) : (s.inhibitAll inhPOWER x).rf g = s.rf g ∧ (s.inhibitAll inhPOWER x).sec = s.sec := by
  refine List.foldlRecOn (motive := fun t : State => t.rf g = s.rf g ∧ t.sec = s.sec) s.allChans (fun t n => t.inhibit inhPOWER x n) ⟨rfl, rfl⟩ fun t kept n _ => ?_
  rw [inhibit_of_soft (by decide)]
  refine ⟨(rf_wf_ne _ _ _ _ _ _ _ _ ?_).trans kept.1, kept.2⟩
  simp only [Fld.key, WR_STATUS_INHIBIT]
  omega

theorem entryHeld_kept (s : State) (n : Nat) : (s.entryHeld n).rf SEC_SWITCH_STATE = s.rf SEC_SWITCH_STATE ∧ (s.entryHeld n).sec = s.sec := by
  unfold State.entryHeld
  split
  · exact rf_inhibitPower (by decide) (by decide) s true
  · exact ⟨rfl, rfl⟩

theorem entryMarked_step (s : State) (n : Nat) : (s.entryMarked n).rf SEC_SWITCH_STATE = s.rf SEC_SWITCH_STATE := by
  simp (disch := decide) only [State.entryMarked, rf_wb_power, rf_wf_power]

/-- An entry to P3 or P4 abandons a switch-over before its handoff, and leaves a later one. -/
theorem entryBegin_switchover {s : State} {w : Switchover} (runs : s.sec.sw = some w) {k : Nat} (deep : 3 ≤ k) (e : PwrKind) :
    (s.rf SEC_SWITCH_STATE = 2 ∨ s.rf SEC_SWITCH_STATE = 3 → (s.entryBegin k e).rf SEC_SWITCH_STATE = 0 ∧ (s.entryBegin k e).rf SEC_SWITCH_RESULT = 0x11)
    ∧ (s.rf SEC_SWITCH_STATE = 4 ∨ s.rf SEC_SWITCH_STATE = 5 → (s.entryBegin k e).rf SEC_SWITCH_STATE = s.rf SEC_SWITCH_STATE) := by
  obtain ⟨step, sec⟩ := entryHeld_kept (s.entryMarked k) k
  rw [entryMarked_step] at step
  have kept : ((s.entryMarked k).entryHeld k).sec.sw = some w := (congrArg Sec.sw sec).trans runs
  refine ⟨fun early => ?_, fun late => ?_⟩
  · have abandoned : ((s.entryMarked k).entryHeld k).entrySwitch k = (((s.entryMarked k).entryHeld k).wf SEC_SWITCH_STATE 0).wf SEC_SWITCH_RESULT 0x11 :=
      (if_pos ⟨deep, by omega⟩).trans (swAbandon_of_early kept (by omega) (by omega))
    rw [entryBegin_eq, abandoned]
    exact ⟨(rf_wf_power _ (by decide) _).trans (rf_wf_same ..), rf_wf_same ..⟩
  · have left : ((s.entryMarked k).entryHeld k).entrySwitch k = (s.entryMarked k).entryHeld k := if_neg (by omega)
    rw [entryBegin_eq, left]
    exact step

/-! ### The claim -/

section
variable {s : State}

theorem held_by_switchover (runs : s.sec.sw.isSome = true) (src : Fin 16) (q : Fin 2) (cid : BitVec 16) (im : ImageInfo) (bytes : List Byte) (o : BitVec 32) (x y : BitVec 3) (c : Instr)
    (held : c = .fwChunk src bytes ∨ c = .fwWrite src im ∨ c = .fwWriteAtReset src im ∨ c = .fwActivateAtReset src ∨ c = .fwWriteNow src im ∨ c = .mtRetire src ∨ c = .mtRecalibrate src
      ∨ c = .firmwareDownload q cid o bytes ∨ c = .firmwareCommit q cid x y im) : exec c s = .next s := by
  have dictionary (r : State × Nat) := next_eq (odHeld_of_switchover runs src.val r)
  have nvme (f : State → State × Option (Nat × Nat)) := next_eq (adminRun_of_switch (q := q.val) (cid := cid.toNat) (f := f) (Option.isSome_iff_ne_none.mp runs))
  rcases held with rfl | rfl | rfl | rfl | rfl | rfl | rfl | rfl | rfl
  · exact dictionary _
  · exact dictionary _
  · exact dictionary _
  · exact dictionary _
  · exact dictionary _
  · exact dictionary _
  · exact dictionary _
  · exact nvme _
  · exact nvme _

theorem background_held (held : s.bgHeld = true) (c : Instr) (p : Fin 16) (h : BitVec 32) (l : List Sample)
    (background : c = .recoveryRewrite ∨ c = .mediaScrub h p ∨ c = .objectCompact p ∨ c = .healthInterval h l) : exec c s = .next s := by
  rcases background with rfl | rfl | rfl | rfl
  · exact next_eq (if_pos held)
  · exact next_eq (if_pos held)
  · exact next_eq (if_pos held)
  · exact if_pos held

/-- Commits of a new image by a dictionary source. -/
theorem fwCmd_answers (runs : s.odRuns = true) (steady : s.sec.sw = none) {src : Fin 16} {im : ImageInfo} {d : Download} {j : Nat} (slot : s.src 0xB050 3 src.val 1 = j + 1) (two : j < 2) {v : Nat} {c : Instr}
    (command : (v = 1 ∧ c = .fwWrite src im) ∨ (v = 2 ∧ c = .fwWriteAtReset src im) ∨ (v = 4 ∧ c = .fwWriteNow src im))
    (status : s.odWriteStatus (s.srcRole src.val) 0xB050 4 (leBytes 1 v) false = 0) (opened : s.sec.dl = some d) :
    (d.owner ≠ .od src → exec c s = .next (s.emit (.od src.val odNORES [])))
    ∧ (d.owner = .od src → ∃ t : State, exec c s = .next (t.emit (.od src.val 0 [])) ∧ t.sec.dl = none ∧ t.od = s.od ∧ t.out = s.out ∧ t.image (1 - j) = s.image (1 - j)
      ∧ (s.mode ≠ modeRecovery → j = s.rf SEC_STATUS_BOOT_SLOT → t.rf SEC_SWITCH_RESULT = 0x12 ∧ t.sec = { s.sec with dl := none })
      ∧ (s.mode = modeRecovery ∨ j ≠ s.rf SEC_STATUS_BOOT_SLOT →
        (s.verifyImage im ≠ 0 → t.rf SEC_SWITCH_RESULT = s.verifyImage im ∧ t.sec = { s.sec with dl := none })
        ∧ (s.verifyImage im = 0 → t.rf SEC_SWITCH_RESULT = 0 ∧ t.image j = im ∧ t.sec.sel.active = s.sec.sel.active ∧ (v = 2 → t.sec.sel.pending = j ∧ t.sec.sel.tries = 0) ∧ (v ≠ 2 → t.sec.sel.pending = s.sec.sel.pending)
          ∧ (v = 4 → t.rf SEC_SWITCH_STATE = 2 ∧ t.sec.sw = some { slot := j, old := s.rf SEC_STATUS_BOOT_SLOT, owner := .od src, cid := 0 }) ∧ (v ≠ 4 → t.sec.sw = none)
          ∧ (s.mode = modeRecovery → s.sec.sel.recoveryReq = true → t.sec.sel.recoveryReq = false)))) := by
  have value : v = 1 ∨ v = 2 ∨ v = 4 := command.imp And.left (.imp And.left And.left)
  have new : v - 1 ≠ 2 := by omega
  have executed := exec_fwCmd runs steady command
  refine ⟨fun other => ?_, fun mine => ?_⟩
  · rw [executed, fwCmd_of_foreign status (fwForeign_of_other opened other new)]
  · rw [fwCmd_of_own status (fwForeign_of_owner opened mine _) slot] at executed
    by_cases running : s.mode ≠ modeRecovery ∧ j = s.rf SEC_STATUS_BOOT_SLOT
    · obtain ⟨mode, boot⟩ := running
      rw [fwCommit_of_running opened mine new mode boot] at executed
      exact ⟨s.dlTaken 0x12, executed, rfl, rfl, rfl, rfl, fun _ _ => ⟨rf_dlTaken (by decide), rfl⟩, fun h => absurd h (not_or.mpr ⟨mode, not_not.mpr boot⟩)⟩
    · have apart : s.mode = modeRecovery ∨ j ≠ s.rf SEC_STATUS_BOOT_SLOT := by
        by_contra h
        rw [not_or] at h
        exact running ⟨h.1, not_not.mp h.2⟩
      have never : s.mode ≠ modeRecovery → j = s.rf SEC_STATUS_BOOT_SLOT → False := fun mode boot => running ⟨mode, boot⟩
      by_cases good : s.verifyImage im = 0
      · rw [fwCommit_of_good opened mine new apart good] at executed
        obtain ⟨t, ht, dl, od, out, other, stored⟩ := stored_commit s src two im value steady
        rw [State.committed] at ht
        rw [← ht] at executed
        exact ⟨t, executed, dl, od, out, other, fun mode boot => (never mode boot).elim, fun _ => ⟨fun bad => absurd good bad, fun _ => stored⟩⟩
      · rw [fwCommit_of_bad opened mine new apart good] at executed
        exact ⟨s.dlTaken (s.verifyImage im), executed, rfl, rfl, rfl, rfl, fun mode boot => (never mode boot).elim,
          fun _ => ⟨fun _ => ⟨rf_dlTaken (Nat.lt_trans (verifyImage_lt s im) (by decide)), rfl⟩, fun verified => absurd verified good⟩⟩

/-- The confirmation of a switch-over that a dictionary source began. -/
theorem swConfirm_of_dictionary {w : Switchover} {src : Fin 16} (owner : w.owner = .od src) : (s.swConfirm w).rf SEC_SWITCH_STATE = 0 ∧ (s.swConfirm w).rf SEC_SWITCH_RESULT = 0
    ∧ (s.swConfirm w).rb SEC_STATUS_PENDING_BOOT = false ∧ (s.swConfirm w).sec = { s.sec with sw := none, sel := { s.sec.sel with active := w.slot, gen := s.sec.sel.gen + 1 } } := by
  rw [State.swConfirm, swDone_of_dictionary owner]
  refine ⟨?_, ?_, rb_wb_same _ rfl .., rfl⟩
  · exact (rf_wb_power _ (by decide) false).trans ((rf_wf_power _ (by decide) 0).trans (rf_wf_same ..))
  · exact (rf_wb_power _ (by decide) false).trans (rf_wf_same ..)

end

/-- Settles O59: each step of a switch-over and each commit by the checks of R512 that it fails first. -/
theorem firmwareDownloadsCommitsAndSwitchover : Obligations.FirmwareDownloadsCommitsAndSwitchover := by
  intro s
  refine ⟨fun src q cid im bytes o x y runs => ⟨held_by_switchover runs src q cid im bytes o x y, fun step => background_held (bgHeld_of_handoff runs step)⟩,
    fun src l a o runs steady ha ho => ⟨fun refused => ?_, fun passed => ⟨fun none => ⟨fun late => ?_, fun first fits => ?_⟩, fun d opened => ⟨fun other => ?_, fun mine beyond => ?_, fun mine fits => ?_⟩⟩⟩,
    rfl, fun src im d j runs steady slot two => ⟨fun v c command status opened => fwCmd_answers runs steady slot two command status opened, fun status => ?_⟩,
    fun t u q cid im l o j steady turn hu => ?_, fun steady => ⟨?_, ?_⟩, fun w runs => ?_⟩
  · rw [exec_fwChunk runs steady, fwChunk_of_refused ha refused]
  · rw [exec_fwChunk runs steady, fwChunk_of_passed (ha.symm.trans passed), ← ho, fwPart_of_first none, if_pos late]
  · rw [exec_fwChunk runs steady, fwChunk_of_passed (ha.symm.trans passed), ← ho, fwPart_of_first none, if_neg (not_not.mpr first), if_neg (Nat.not_lt.mpr fits)]
    rfl
  · rw [exec_fwChunk runs steady, fwChunk_of_passed (ha.symm.trans passed), ← ho, fwPart_of_open opened, if_pos other]
  · rw [exec_fwChunk runs steady, fwChunk_of_passed (ha.symm.trans passed), ← ho, fwPart_of_open opened, if_neg (not_not.mpr mine), if_pos beyond]
  · rw [exec_fwChunk runs steady, fwChunk_of_passed (ha.symm.trans passed), ← ho, fwPart_of_open opened, if_neg (not_not.mpr mine), if_neg (Nat.not_lt.mpr fits)]
    rfl
  · refine ⟨_, exec_fwActivate runs steady status slot, ?_, ?_⟩
    · rw [fwCommit_of_activate]
      have small := verifyImage_lt s (s.image j)
      split
      · exact (rf_wf_same ..).trans (Nat.mod_eq_of_lt (Nat.lt_trans small (by decide)))
      · exact (rf_wf_same ..).trans (Nat.mod_eq_of_lt (Nat.lt_trans small (by decide)))
    · rw [fwCommit_of_activate]
      by_cases good : s.verifyImage (s.image j) = 0
      · rw [if_neg (not_not.mpr good), if_pos good]
        rfl
      · rw [if_pos good, if_neg good]
        rfl
  · have fetched : u = t.adminFetched q.val := hu
    subst fetched
    refine ⟨firmwareDownload_answers steady turn o l, fun d opened other => firmware_of_other steady turn opened other o l im, fun beyond => ?_, ?_,
      fun d opened mine boot mode => firmwareCommit_of_owner steady turn opened mine boot mode im rfl⟩
    · exact exec_firmwareCommit_of_answer steady turn (nvCommit_of_slot (by decide) beyond)
    · exact exec_firmwareCommit_of_answer steady turn (nvCommit_of_action (by decide))
  · exact next_eq (by rw [State.swStep, steady])
  · exact next_eq (by rw [State.swRevert, steady])
  · refine ⟨fun step => next_eq (swStep_of_load runs step), fun step => next_eq (swStep_of_quiesce runs step), fun step two => ?_, fun step => next_eq (swRevert_of_other runs step),
      fun src owner => ⟨fun step => ?_, fun step => ⟨fun k low high => ?_, ?_, fun two => ?_⟩⟩, fun k e deep => entryBegin_switchover runs (by omega) e⟩
    · obtain ⟨boot, svn⟩ := rf_runSlot s two
      refine ⟨_, next_eq (swStep_of_handoff runs step), ?_, ?_, ?_, rfl⟩
      · exact (rf_wf_power _ (by decide) _).trans (rf_wf_same ..)
      · exact (rf_wf_power _ (by decide) _).trans ((rf_wf_power _ (by decide) 5).trans boot)
      · exact (rf_wf_power _ (by decide) _).trans ((rf_wf_power _ (by decide) 5).trans svn)
    · exact next_eq ((swStep_of_abandoned runs step).trans (swDone_of_dictionary owner _))
    · exact (next_eq (secConfirm_of_confirm runs (isCore_of_core low high) step)).trans (next_eq (swStep_of_confirm runs step)).symm
    · exact ⟨_, next_eq (swStep_of_confirm runs step), swConfirm_of_dictionary owner⟩
    · refine ⟨(((s.runSlot w.old).wf SEC_SWITCH_STATE 0).wf SEC_SWITCH_RESULT 0x10).swDone w scINTERNAL, next_eq (swRevert_of_confirm runs step), ?_⟩
      rw [swDone_of_dictionary owner]
      refine ⟨(rf_wf_power _ (by decide) _).trans (rf_wf_same ..), rf_wf_same .., ?_, rfl⟩
      exact (rf_wf_power _ (by decide) 0x10).trans ((rf_wf_power _ (by decide) 0).trans (rf_runSlot s two).1)

end Sys2Proof.Machine
end

section
/-! Maintenance of units (23_security_maintenance.md R520 to R524): retirement, restoring, recalibration and the remap of a retired channel. -/

namespace Sys2Proof.Machine
open Sys2Proof

/-! ### The command's state (R520) -/

section
variable {s : State}

theorem src_setMt (s : State) (src st reason d : Nat) : (s.setMt src st reason).src 0x2030 4 src d = st ∧ (s.setMt src st reason).src 0x2030 5 src d = reason := by
  have apart : odKey 0x2030 4 * 16 + src ≠ odKey 0x2030 5 * 16 + src := by
    simp only [odKey]
    omega
  exact ⟨(tabGet_tabSet_ne _ _ _ _ _ apart).trans (tabGet_tabSet_same ..), tabGet_tabSet_same ..⟩

/-- What a value of MT_CMD does. -/
def State.mtAct (s : State) (src v : Nat) (b : Bool) : State := if v = 1 then s.mtRetire src else if v = 2 then s.mtRestore src b else s.mtRecal src

section
variable {src : Fin 16} {v : Nat} {c : Instr} {b : Bool} (command : (v = 1 ∧ c = .mtRetire src) ∨ (v = 2 ∧ c = .mtRestore src b) ∨ (v = 3 ∧ c = .mtRecalibrate src))
include command

theorem exec_mt (runs : s.odRuns = true) (steady : s.sec.sw = none) : exec c s = .next ((s.odCommand src.val 0x2030 2 v (fun t => t.mtAct src.val v b)).1.emit
    (.od src.val (s.odCommand src.val 0x2030 2 v (fun t => t.mtAct src.val v b)).2 [])) := by
  rcases command with ⟨rfl, rfl⟩ | ⟨rfl, rfl⟩ | ⟨rfl, rfl⟩
  all_goals exact next_eq (odHeld_of_steady runs steady _ _)

theorem exec_mt_of_refused (runs : s.odRuns = true) (steady : s.sec.sw = none) {a : Nat} (status : a = s.odWriteStatus (s.srcRole src.val) 0x2030 2 (leBytes 1 v) false) (refused : a ≠ 0) :
    exec c s = .next (s.emit (.od src.val a [])) := by
  have answer : s.odCommand src.val 0x2030 2 v (fun t => t.mtAct src.val v b) = (s, a) := by
    rw [status] at refused ⊢
    exact if_pos refused
  rw [exec_mt command runs steady, answer]

theorem exec_mt_of_passed (runs : s.odRuns = true) (steady : s.sec.sw = none) (status : s.odWriteStatus (s.srcRole src.val) 0x2030 2 (leBytes 1 v) false = 0) :
    exec c s = .next ((s.mtAct src.val v b).emit (.od src.val 0 [])) := by
  have answer : s.odCommand src.val 0x2030 2 v (fun t => t.mtAct src.val v b) = (s.mtAct src.val v b, 0) := if_neg (not_not.mpr status)
  rw [exec_mt command runs steady, answer]

end

/-! ### RETIRE (R521, R522, R524) -/

section
variable {src u k : Nat} (hu : u = s.src 0x2030 1 src 0) (hk : k = mtNum u)
include hu

theorem mtRetire_of_absent (absent : s.mtUnitOk u = false) : s.mtRetire src = s.setMt src 3 1 := by
  subst hu
  exact if_pos (by rw [absent]; rfl)

theorem mtRestore_of_absent (absent : s.mtUnitOk u = false) (b : Bool) : s.mtRestore src b = s.setMt src 3 1 := by
  subst hu
  exact if_pos (by rw [absent]; rfl)

theorem mtRecal_of_bad (bad : mtKind u ≠ 4 ∨ s.mtUnitOk u = false) : s.mtRecal src = s.setMt src 3 1 := by
  subst hu
  exact if_pos (bad.imp_right fun absent => by rw [absent]; rfl)

variable (ok : s.mtUnitOk u = true)
include ok hk

theorem mtRetire_channel (kind : mtKind u = 0) : s.mtRetire src = if (s.ch k).retired || (s.ch k).retireBy.isSome then s.setMt src 3 3
    else if s.actLoaded (k / 8) && (chansOf (k / 8)).all (fun n => n == k || (s.ch n).retired) then s.setMt src 3 2
    else if s.atBoundary k then (s.chanOut k).setMt src 2 0 else (s.modCh k (fun x => { x with retireBy := some src })).setMt src 1 0 := by
  subst hu hk
  simp only [State.mtRetire, ok, kind, Bool.not_true, Bool.false_eq_true, if_false]

theorem mtRetire_lane (kind : mtKind u = 1) : s.mtRetire src = if s.lnSt k = lnRETIRED ∨ s.lnSt k = lnRETIRING then s.setMt src 3 3 else (s.laneRetire k).setMt src 2 0 := by
  subst hu hk
  simp only [State.mtRetire, ok, kind, Bool.not_true, Bool.false_eq_true, if_false]

theorem mtRetire_pseudo (kind : mtKind u = 2) : s.mtRetire src = if s.pcSt k = pcRETIRED ∨ s.pcSt k = pcRELOCATING then s.setMt src 3 3 else (s.pcRetire k).setMt src 2 0 := by
  subst hu hk
  simp only [State.mtRetire, ok, kind, Bool.not_true, Bool.false_eq_true, if_false]

theorem mtRetire_engine (kind : mtKind u = 3) : s.mtRetire src = if (s.en k).retired then s.setMt src 3 3
    else if (List.range 4).all (fun e => e == k || (s.en e).retired) then s.setMt src 3 2 else ((s.engineOut k).modEn k (fun x => { x with soft := true })).setMt src 2 0 := by
  subst hu hk
  simp only [State.mtRetire, ok, kind, Bool.not_true, Bool.false_eq_true, if_false]

theorem mtRetire_head (kind : mtKind u = 4) : s.mtRetire src = if (s.hd k).retired = true then s.setMt src 3 3 else (s.modHd k (fun x => { x with retired := true })).setMt src 2 0 := by
  subst hu hk
  simp only [State.mtRetire, ok, kind, Bool.not_true, Bool.false_eq_true, if_false]

/-! ### RESTORE -/

theorem mtRestore_channel (kind : mtKind u = 0) (b : Bool) : s.mtRestore src b = if !(s.ch k).retired then s.setMt src 3 3
    else if s.rf SQ_ERR_HALT_CAUSE k = 1 then s.setMt src 3 7 else ((s.sqRestart k).modCh k (fun x => { x with retired := false })).setMt src 2 0 := by
  subst hu hk
  simp only [State.mtRestore, ok, kind, Bool.not_true, Bool.false_eq_true, if_false]

theorem mtRestore_lane (kind : mtKind u = 1) (b : Bool) : s.mtRestore src b = if s.lnSt k ≠ lnRETIRED then s.setMt src 3 3
    else if s.rf LN_ERR_RET_CAUSE k = 2 ∨ s.rf LN_ERR_RET_CAUSE k = 3 then s.setMt src 3 7
    else if b then ((s.laneRestore k).laneTested k true).setMt src 2 0 else ((s.laneRestore k).laneTested k false).setMt src 3 4 := by
  subst hu hk
  simp only [State.mtRestore, ok, kind, Bool.not_true, Bool.false_eq_true, if_false]

theorem mtRestore_pseudo (kind : mtKind u = 2) (b : Bool) : s.mtRestore src b = s.setMt src 3 7 := by
  subst hu hk
  simp only [State.mtRestore, ok, kind, Bool.not_true, Bool.false_eq_true, if_false]

theorem mtRestore_engine (kind : mtKind u = 3) (b : Bool) : s.mtRestore src b = if !(s.en k).retired then s.setMt src 3 3
    else if !(s.en k).soft then s.setMt src 3 7 else if b then (s.engineBack k).setMt src 2 0 else s.setMt src 3 4 := by
  subst hu hk
  simp only [State.mtRestore, ok, kind, Bool.not_true, Bool.false_eq_true, if_false]

theorem mtRestore_head (kind : mtKind u = 4) (b : Bool) : s.mtRestore src b = if !(s.hd k).retired then s.setMt src 3 3
    else if b then (s.modHd k (fun x => { x with retired := false })).setMt src 2 0 else s.setMt src 3 4 := by
  subst hu hk
  simp only [State.mtRestore, ok, kind, Bool.not_true, Bool.false_eq_true, if_false]

/-! ### RECALIBRATE (R523) -/

theorem mtRecal_head (kind : mtKind u = 4) : s.mtRecal src = if s.sec.recal.any (fun r => r.head / 11 == k / 11) then s.setMt src 3 0x06
    else if (List.range 8).filter (fun g => bitOf (s.src 0x2030 3 src 0xFF) g) = [] then s.setMt src 2 0
    else { s.setMt src 1 0 with sec.recal := s.sec.recal ++ [{ src := src, head := k, groups := (List.range 8).filter (fun g => bitOf (s.src 0x2030 3 src 0xFF) g), retried := [], slot := 0xFF, withdrawn := false }] } := by
  subst hu hk
  have head : ¬ (mtKind (s.src 0x2030 1 src 0) ≠ 4 ∨ (!s.mtUnitOk (s.src 0x2030 1 src 0)) = true) := by
    rw [kind, ok]
    decide
  exact if_neg head

end

/-! ### What the units read afterwards -/

theorem chanOut_eq (s : State) (k : Nat) : (s.chanOut k).ch k = { s.ch k with fifo := [], retired := true, retireBy := none } ∧ ((s.chanOut k).lc k).live = false := by
  have kept : ((s.ch k).fifo.foldl (fun t c => t.requeue c) (s.modCh k (fun c => { c with fifo := [], retired := true, retireBy := none }))).chan
      = (s.modCh k (fun c => { c with fifo := [], retired := true, retireBy := none })).chan :=
    List.foldlRecOn (motive := fun t : State => t.chan = (s.modCh k (fun c => { c with fifo := [], retired := true, retireBy := none })).chan) (s.ch k).fifo (fun t c => t.requeue c) rfl
      (fun t ht c _ => by
        refine Eq.trans ?_ ht
        unfold State.requeue
        split
        · rfl
        · rfl)
  refine ⟨?_, ?_⟩
  · exact (congrArg (fun t => tabGet ChanSt.reset t k) kept).trans (tabGet_tabSet_same ..)
  · exact congrArg CellSt.live (tabGet_tabSet_same ..)

end

end Sys2Proof.Machine
end

section
/-! The units after MT_CMD, and its outcomes by unit (23_security_maintenance.md R521 to R524). -/

namespace Sys2Proof.Machine
open Sys2Proof

section
variable {s : State} {k : Nat}

/-! ### What each unit reads afterwards -/

/-- MT_STATE is OK and MT_REASON is 0 after a command that is done. -/
theorem done_setMt (s : State) (src : Nat) : (s.setMt src 2 0).src 0x2030 4 src 0 = 2 ∧ (s.setMt src 2 0).src 0x2030 5 src 0 = 0 := src_setMt ..

theorem lnSt_setMt (s : State) (src st reason k : Nat) : (s.setMt src st reason).lnSt k = s.lnSt k := rfl

theorem en_setMt (s : State) (src st reason k : Nat) : (s.setMt src st reason).en k = s.en k := rfl

theorem pcRetire_due (active : s.pcSt k = pcACTIVE) : ((s.pcRetire k).pcv k).due ≠ 0 := by
  have same : (s.wb HBM_PC_CTRL_RETIRE true k).pcv k = s.pcv k := rfl
  have begun : s.pcRetire k = (s.wb HBM_PC_CTRL_RETIRE true k).pcDue k 5 := if_pos active
  rw [begun, State.pcDue]
  by_cases idle : (s.pcv k).due = 0
  · rw [if_pos (by rw [same]; exact idle)]
    have set := tabGet_tabSet_same PcSt.reset (s.wb HBM_PC_CTRL_RETIRE true k).buf.pc k { (s.wb HBM_PC_CTRL_RETIRE true k).pcv k with due := 5 }
    exact ne_of_eq_of_ne (congrArg PcSt.due set) (by decide : (5 : Nat) ≠ 0)
  · rw [if_neg (by rw [same]; exact idle)]
    exact idle

theorem en_engineOut (s : State) (k : Nat) : ((((s.engineOut k).modEn k (fun x => { x with soft := true })).en k).retired = true
    ∧ (((s.engineOut k).modEn k (fun x => { x with soft := true })).en k).soft = true)
    ∧ ∀ e, e ≠ k → ((s.engineOut k).modEn k (fun x => { x with soft := true })).en e = s.en e := by
  have out : ((s.engineOut k).en k).retired = true := congrArg Engine.retired (tabGet_tabSet_same ..)
  have set : ((s.engineOut k).modEn k (fun x => { x with soft := true })).en k = { (s.engineOut k).en k with soft := true } := tabGet_tabSet_same ..
  rw [set]
  exact ⟨⟨out, rfl⟩, fun e other => (tabGet_tabSet_ne _ _ _ _ _ other).trans (tabGet_tabSet_ne _ _ _ _ _ other)⟩

/-- Moving run lists between engines retires none of them. -/
theorem retired_modEn_runs (s : State) (e k : Nat) (f : List Nat → List Nat) : ((s.modEn e (fun x => { x with runs := f x.runs })).en k).retired = (s.en k).retired := by
  by_cases same : k = e
  · subst same
    exact (congrArg Engine.retired (tabGet_tabSet_same ..)).trans rfl
  · exact congrArg Engine.retired (tabGet_tabSet_ne _ _ _ _ _ same)

theorem retired_engineBack (s : State) (k : Nat) : ((s.engineBack k).en k).retired = false := by
  have back : ((s.modEn k (fun x => { x with retired := false, handed := false, soft := false })).en k).retired = false := congrArg Engine.retired (tabGet_tabSet_same ..)
  unfold State.engineBack
  refine List.foldlRecOn (motive := fun t : State => (t.en k).retired = false) (List.range 16) _ back fun t ht c _ => ?_
  have dropped : (((List.range 4).foldl (fun w j => w.modEn j (fun x => { x with runs := x.runs.erase (16 * k + c) })) t).en k).retired = false :=
    List.foldlRecOn (motive := fun w : State => (w.en k).retired = false) (List.range 4) (fun w j => w.modEn j (fun x => { x with runs := x.runs.erase (16 * k + c) })) ht
      (fun w hw j _ => (retired_modEn_runs w j k (fun l => l.erase (16 * k + c))).trans hw)
  dsimp only
  split
  · exact (retired_modEn_runs _ k k (fun l => l ++ [16 * k + c])).trans dropped
  · exact dropped

theorem laneTested_of_restored (retired : s.lnSt k = lnRETIRED) (cell : s.rf LN_ERR_RET_CAUSE k ≠ 2) (checker : s.rf LN_ERR_RET_CAUSE k ≠ 3) (b : Bool) :
    ((s.laneRestore k).laneTested k b).lnSt k = if b then lnIDLE else lnRETIRED := by
  have testing : ((s.wf LN_STATUS_STATE lnSELFTEST k).wb LN_CTRL_RESTORE true k).lnSt k = lnSELFTEST := by
    rw [State.lnSt, State.wb, rf_wf_of_place_ne _ ⟨rfl, rfl⟩ ⟨rfl, rfl⟩ (by decide), rf_wf_same]
    rfl
  rw [laneRestore_of_restorable retired cell checker, State.laneTested, if_neg (not_not.mpr testing)]
  cases b with
  | true =>
    rw [if_pos rfl, if_pos rfl, State.lnSt, rf_wf_of_place_ne _ ⟨rfl, rfl⟩ ⟨rfl, rfl⟩ (by decide), rf_wf_same]
    rfl
  | false =>
    rw [if_neg Bool.false_ne_true, if_neg Bool.false_ne_true, State.lnSt, rf_wf_of_place_ne _ ⟨rfl, rfl⟩ ⟨rfl, rfl⟩ (by decide), rf_wf_same]
    rfl

end

/-! ### Outcomes -/

section
variable {s : State} {src u k : Nat} (hu : u = s.src 0x2030 1 src 0) (hk : k = mtNum u) (ok : s.mtUnitOk u = true)
include hu hk ok

theorem retired_channel (kind : mtKind u = 0) : ((s.ch k).retired = true ∨ (s.ch k).retireBy ≠ none → s.mtRetire src = s.setMt src 3 3)
    ∧ ((s.ch k).retired = false → (s.ch k).retireBy = none → s.actLoaded (k / 8) = true → (∀ n ∈ chansOf (k / 8), n ≠ k → (s.ch n).retired = true) → s.mtRetire src = s.setMt src 3 2)
    ∧ ((s.ch k).retired = false → (s.ch k).retireBy = none → s.actLoaded (k / 8) = false → s.atBoundary k = false → s.mtRetire src = (s.modCh k (fun x => { x with retireBy := some src })).setMt src 1 0)
    ∧ ((s.ch k).retired = false → (s.ch k).retireBy = none → s.actLoaded (k / 8) = false → s.atBoundary k = true →
      ((s.mtRetire src).ch k).retired = true ∧ ((s.mtRetire src).ch k).fifo = [] ∧ ((s.mtRetire src).lc k).live = false ∧ (s.mtRetire src).src 0x2030 4 src 0 = 2 ∧ (s.mtRetire src).src 0x2030 5 src 0 = 0) := by
  have retire := mtRetire_channel hu hk ok kind
  have free (active : (s.ch k).retired = false) (unasked : (s.ch k).retireBy = none) : ¬ ((s.ch k).retired || (s.ch k).retireBy.isSome) = true := by
    rw [active, unasked]
    decide
  have parked (unloaded : s.actLoaded (k / 8) = false) : ¬ (s.actLoaded (k / 8) && (chansOf (k / 8)).all (fun n => n == k || (s.ch n).retired)) = true := by
    rw [unloaded]
    exact Bool.false_ne_true
  refine ⟨fun already => ?_, fun active unasked loaded others => ?_, fun active unasked unloaded moving => ?_, fun active unasked unloaded boundary => ?_⟩
  · refine retire.trans (if_pos ?_)
    rw [Bool.or_eq_true, Option.isSome_iff_ne_none]
    exact already
  · have last : (chansOf (k / 8)).all (fun n => n == k || (s.ch n).retired) = true := List.all_eq_true.mpr fun n hn => by
      by_cases same : n = k
      · rw [beq_iff_eq.mpr same]
        rfl
      · rw [others n hn same, Bool.or_true]
    rw [retire, if_neg (free active unasked), if_pos (by rw [loaded, last]; rfl)]
  · rw [retire, if_neg (free active unasked), if_neg (parked unloaded), if_neg (by rw [moving]; decide)]
  · rw [retire, if_neg (free active unasked), if_neg (parked unloaded), if_pos boundary]
    obtain ⟨channel, cell⟩ := chanOut_eq s k
    exact ⟨congrArg ChanSt.retired channel, congrArg ChanSt.fifo channel, cell, done_setMt ..⟩

theorem retired_lane (kind : mtKind u = 1) : (s.lnSt k = lnRETIRED ∨ s.lnSt k = lnRETIRING → s.mtRetire src = s.setMt src 3 3)
    ∧ (s.lnSt k = lnIDLE → (s.mtRetire src).lnSt k = lnRETIRED ∧ (s.mtRetire src).src 0x2030 4 src 0 = 2) := by
  have retire := mtRetire_lane hu hk ok kind
  refine ⟨fun already => retire.trans (if_pos already), fun idle => ?_⟩
  rw [retire, if_neg (by rw [idle]; decide), laneRetire_of_idle idle]
  exact ⟨laneState_laneOut s k 4, (done_setMt ..).1⟩

theorem retired_pseudo (kind : mtKind u = 2) : (s.pcSt k = pcRETIRED ∨ s.pcSt k = pcRELOCATING → s.mtRetire src = s.setMt src 3 3)
    ∧ (s.pcSt k = pcACTIVE → (s.mtRetire src).src 0x2030 4 src 0 = 2 ∧ ((s.mtRetire src).pcv k).due ≠ 0) := by
  have retire := mtRetire_pseudo hu hk ok kind
  refine ⟨fun already => retire.trans (if_pos already), fun active => ?_⟩
  rw [retire, if_neg (by rw [active]; decide)]
  exact ⟨(done_setMt ..).1, pcRetire_due active⟩

theorem retired_engine (kind : mtKind u = 3) : ((s.en k).retired = true → s.mtRetire src = s.setMt src 3 3)
    ∧ ((s.en k).retired = false → (∀ e, e < 4 → e ≠ k → (s.en e).retired = true) → s.mtRetire src = s.setMt src 3 2)
    ∧ (∀ e, e < 4 → e ≠ k → (s.en e).retired = false → (s.en k).retired = false →
      ((s.mtRetire src).en k).retired = true ∧ ((s.mtRetire src).en k).soft = true ∧ (s.mtRetire src).en e = s.en e ∧ (s.mtRetire src).src 0x2030 4 src 0 = 2) := by
  have retire := mtRetire_engine hu hk ok kind
  refine ⟨fun already => retire.trans (if_pos already), fun active others => ?_, fun e low other kept active => ?_⟩
  · have last : (List.range 4).all (fun e => e == k || (s.en e).retired) = true := List.all_eq_true.mpr fun e he => by
      by_cases same : e = k
      · rw [beq_iff_eq.mpr same]
        rfl
      · rw [others e (List.mem_range.mp he) same, Bool.or_true]
    rw [retire, if_neg (by rw [active]; decide), if_pos last]
  · have more : ¬ (List.range 4).all (fun e => e == k || (s.en e).retired) = true := fun all => by
      have e_out := List.all_eq_true.mp all e (List.mem_range.mpr low)
      rw [kept, beq_eq_false_iff_ne.mpr other] at e_out
      cases e_out
    rw [retire, if_neg (by rw [active]; decide), if_neg more]
    obtain ⟨⟨out, soft⟩, others⟩ := en_engineOut s k
    exact ⟨out, soft, others e other, (done_setMt ..).1⟩

theorem restored_channel (kind : mtKind u = 0) (b : Bool) : ((s.ch k).retired = false → s.mtRestore src b = s.setMt src 3 3)
    ∧ ((s.ch k).retired = true → s.rf SQ_ERR_HALT_CAUSE k = 1 → s.mtRestore src b = s.setMt src 3 7)
    ∧ ((s.ch k).retired = true → s.rf SQ_ERR_HALT_CAUSE k ≠ 1 → ((s.mtRestore src b).ch k).retired = false ∧ (s.mtRestore src b).src 0x2030 4 src 0 = 2) := by
  have restore := mtRestore_channel hu hk ok kind b
  refine ⟨fun active => restore.trans (if_pos (by rw [active]; rfl)), fun retired halted => ?_, fun retired runs => ?_⟩
  · rw [restore, if_neg (by rw [retired]; decide), if_pos halted]
  · rw [restore, if_neg (by rw [retired]; decide), if_neg runs]
    exact ⟨congrArg ChanSt.retired (tabGet_tabSet_same ..), (done_setMt ..).1⟩

theorem restored_lane (kind : mtKind u = 1) (b : Bool) : (s.lnSt k ≠ lnRETIRED → s.mtRestore src b = s.setMt src 3 3)
    ∧ (s.lnSt k = lnRETIRED → s.rf LN_ERR_RET_CAUSE k = 2 ∨ s.rf LN_ERR_RET_CAUSE k = 3 → s.mtRestore src b = s.setMt src 3 7)
    ∧ (s.lnSt k = lnRETIRED → s.rf LN_ERR_RET_CAUSE k = 4 → (s.mtRestore src b).lnSt k = (if b then lnIDLE else lnRETIRED)
      ∧ (s.mtRestore src b).src 0x2030 4 src 0 = (if b then 2 else 3) ∧ (s.mtRestore src b).src 0x2030 5 src 0 = (if b then 0 else 4)) := by
  have restore := mtRestore_lane hu hk ok kind b
  refine ⟨fun active => restore.trans (if_pos active), fun retired cause => ?_, fun retired cause => ?_⟩
  · rw [restore, if_neg (not_not.mpr retired), if_pos cause]
  · rw [restore, if_neg (not_not.mpr retired), if_neg (by omega)]
    have tested := laneTested_of_restored retired (by omega) (by omega) b
    cases b with
    | true =>
      simp only [if_true] at tested ⊢
      exact ⟨(lnSt_setMt _ src 2 0 k).trans tested, src_setMt _ src 2 0 0⟩
    | false =>
      simp only [Bool.false_eq_true, if_false] at tested ⊢
      exact ⟨(lnSt_setMt _ src 3 4 k).trans tested, src_setMt _ src 3 4 0⟩

theorem restored_engine (kind : mtKind u = 3) (b : Bool) : ((s.en k).retired = false → s.mtRestore src b = s.setMt src 3 3)
    ∧ ((s.en k).retired = true → (s.en k).soft = false → s.mtRestore src b = s.setMt src 3 7)
    ∧ ((s.en k).retired = true → (s.en k).soft = true → (b = false → s.mtRestore src b = s.setMt src 3 4)
      ∧ (b = true → ((s.mtRestore src b).en k).retired = false ∧ (s.mtRestore src b).src 0x2030 4 src 0 = 2)) := by
  have restore := mtRestore_engine hu hk ok kind b
  refine ⟨fun active => restore.trans (if_pos (by rw [active]; rfl)), fun retired hard => ?_, fun retired soft => ⟨?_, ?_⟩⟩
  · rw [restore, if_neg (by rw [retired]; decide), if_pos (by rw [hard]; rfl)]
  · rintro rfl
    rw [restore, if_neg (by rw [retired]; decide), if_neg (by rw [soft]; decide), if_neg Bool.false_ne_true]
  · rintro rfl
    rw [restore, if_neg (by rw [retired]; decide), if_neg (by rw [soft]; decide), if_pos rfl]
    rw [en_setMt]
    exact ⟨retired_engineBack s k, (done_setMt ..).1⟩

theorem restored_head (kind : mtKind u = 4) (b : Bool) : s.mtRestore src b = if (s.hd k).retired = false then s.setMt src 3 3
    else if b then (s.modHd k (fun x => { x with retired := false })).setMt src 2 0 else s.setMt src 3 4 := by
  rw [mtRestore_head hu hk ok kind b]
  cases (s.hd k).retired <;> rfl

theorem recalibrated_head (kind : mtKind u = 4) : ((∃ r ∈ s.sec.recal, r.head / 11 = k / 11) → s.mtRecal src = s.setMt src 3 6)
    ∧ ((∀ r ∈ s.sec.recal, r.head / 11 ≠ k / 11) → (s.src 0x2030 3 src 0xFF = 0 → s.mtRecal src = s.setMt src 2 0)
      ∧ (s.src 0x2030 3 src 0xFF = 6 → s.mtRecal src = { s.setMt src 1 0 with
        sec.recal := s.sec.recal ++ [{ src := src, head := k, groups := [1, 2], retried := [], slot := 0xFF, withdrawn := false }] })) := by
  have recal := mtRecal_head hu hk ok kind
  refine ⟨fun ⟨r, hr, same⟩ => ?_, fun others => ?_⟩
  · have any : s.sec.recal.any (fun r => r.head / 11 == k / 11) = true := List.any_eq_true.mpr ⟨r, hr, beq_iff_eq.mpr same⟩
    exact recal.trans (if_pos any)
  have free : ¬ s.sec.recal.any (fun r => r.head / 11 == k / 11) = true := fun any => by
    obtain ⟨r, hr, same⟩ := List.any_eq_true.mp any
    exact others r hr (beq_iff_eq.mp same)
  rw [if_neg free] at recal
  refine ⟨fun none => ?_, fun two => ?_⟩
  · rw [none] at recal
    exact recal
  · rw [two] at recal
    exact recal

end

/-- What MT_CMD does with a unit that the part has. -/
theorem mtAct_of_absent {s : State} {src u v : Nat} (hu : u = s.src 0x2030 1 src 0) (known : v = 1 ∨ v = 2 ∨ v = 3) (absent : s.mtUnitOk u = false) (b : Bool) :
    s.mtAct src v b = s.setMt src 3 1 := by
  rcases known with rfl | rfl | rfl
  · exact mtRetire_of_absent hu absent
  · exact mtRestore_of_absent hu absent b
  · exact mtRecal_of_bad hu (.inr absent)

end Sys2Proof.Machine
end

section
/-! Visits of a recalibration, the remap of a retired channel, format images, and the claim about maintenance (R518 to R524). -/

namespace Sys2Proof.Machine
open Sys2Proof

/-! ### RECAL_GROUP_VISIT (R523) -/

section
variable {s : State} {a g : Nat} {w : Bool}

theorem recalVisit_of_none (others : ∀ r ∈ s.sec.recal, r.head / 11 ≠ a ∨ r.slot ≠ 0xFF) : s.recalVisit a g w = s := by
  have absent : s.sec.recal.find? (fun r => r.head / 11 == a && r.slot == 0xFF) = none := List.find?_eq_none.mpr fun r hr found => by
    simp only [Bool.and_eq_true, beq_iff_eq] at found
    exact (others r hr).elim (fun h => h found.1) (fun h => h found.2)
  rw [State.recalVisit, absent]

variable {r : Recal} {l : List Nat} (one : s.sec.recal = [r]) (here : r.head / 11 = a) (waiting : r.slot = 0xFF)
include one here waiting

theorem recal_found : s.sec.recal.find? (fun r => r.head / 11 == a && r.slot == 0xFF) = some r := by
  rw [one]
  simp [here, waiting]

variable (groups : r.groups = g :: l)
include groups

theorem recalVisit_of_other {h : Nat} (other : h ≠ g) : s.recalVisit a h w = s := by
  have next : r.groups.head? ≠ some h := by
    rw [groups]
    exact fun same => other (Option.some.inj same).symm
  simp only [State.recalVisit, recal_found one here waiting, next, ne_eq, not_false_eq_true, if_true]

theorem recalVisit_of_away (away : s.groupAt a ≠ g) : s.recalVisit a g w = if w then s.seekReq a (s.zn (5 * g) 1) (2 ^ (r.head % 11)) 0 else s := by
  have next : ¬ r.groups.head? ≠ some g := by
    rw [groups]
    exact not_not.mpr rfl
  simp only [State.recalVisit, recal_found one here waiting, next, away, ne_eq, not_false_eq_true, if_true, if_false]

variable (at_group : s.groupAt a = g)
include at_group

theorem recalVisit_of_unmapped (unmapped : s.headChan a (r.head % 11) = none) : (s.spareSlot a = none → s.recalVisit a g w = s)
    ∧ ∀ n, s.spareSlot a = some n → s.recalVisit a g w = ({ s with sec.recal := [{ r with withdrawn := true }] } : State).slotMap a (n % 8) (r.head % 11) := by
  have next : ¬ r.groups.head? ≠ some g := by
    rw [groups]
    exact not_not.mpr rfl
  refine ⟨fun none => ?_, fun n spare => ?_⟩
  · simp only [State.recalVisit, recal_found one here waiting, next, at_group, ne_eq, not_true_eq_false, if_false, unmapped, none]
  · simp only [State.recalVisit, recal_found one here waiting, next, at_group, ne_eq, not_true_eq_false, if_false, unmapped, spare]
    rw [one]
    simp only [List.map_cons, List.map_nil, if_true]

theorem recalVisit_of_mapped {n : Nat} (mapped : s.headChan a (r.head % 11) = some n) :
    s.recalVisit a g w = (({ s with sec.recal := [{ r with slot := n }] } : State).wf CAL_CTRL_HEAD (r.head % 11) n).calStart n := by
  have next : ¬ r.groups.head? ≠ some g := by
    rw [groups]
    exact not_not.mpr rfl
  simp only [State.recalVisit, recal_found one here waiting, next, at_group, ne_eq, not_true_eq_false, if_false, mapped]
  rw [one]
  simp only [List.map_cons, List.map_nil, if_true]

/-- The head's own slot calibrates. -/
theorem recalVisit_calibrates {n : Nat} (mapped : s.headChan a (r.head % 11) = some n) (idle : s.rf CAL_STATUS_STATE n ≠ 1) (loaded : s.actLoaded a = true)
    (locked : s.rf TRU_STATUS_STATE a = 4) (alone : ∀ m ∈ chansOf a, s.rf CAL_STATUS_STATE m ≠ 1) : ∃ t : State, s.recalVisit a g w = t ∧ t.sec = { s.sec with recal := [{ r with slot := n }] }
      ∧ t.rf CAL_CTRL_HEAD n = r.head % 11 ∧ t.rf CAL_STATUS_STATE n = 1 ∧ (t.ch n).withdrawn = true := by
  obtain ⟨k, hk, hn⟩ := List.mem_map.mp (List.mem_of_find?_eq_some mapped)
  have actuator : chAct n = a := by
    rw [List.mem_range] at hk
    unfold chAct
    omega
  have found : (s.slotHead n == r.head % 11) = true := List.find?_some (p := fun n => s.slotHead n == r.head % 11) mapped
  have head : s.slotHead n = r.head % 11 := beq_iff_eq.mp found
  have small : r.head % 11 < 11 := Nat.mod_lt _ (by decide)
  have asked : (({ s with sec.recal := [{ r with slot := n }] } : State).wf CAL_CTRL_HEAD (r.head % 11) n).rf CAL_CTRL_HEAD n = r.head % 11 :=
    (rf_wf_same ..).trans (Nat.mod_eq_of_lt (Nat.lt_trans small (by decide)))
  have kept {f : Fld} (paged : f.Paged) (place : f.place ≠ CAL_CTRL_HEAD.place) (i : Nat) :
      (({ s with sec.recal := [{ r with slot := n }] } : State).wf CAL_CTRL_HEAD (r.head % 11) n).rf f i = s.rf f i :=
    rf_wf_of_place_ne ({ s with sec.recal := [{ r with slot := n }] } : State) ⟨rfl, rfl⟩ paged place ..
  have started := calStart_of_ready (s := ({ s with sec.recal := [{ r with slot := n }] } : State).wf CAL_CTRL_HEAD (r.head % 11) n) (n := n)
    (by rw [kept ⟨rfl, rfl⟩ (by decide)]; exact idle) (by rw [actuator, State.actLoaded, State.act, kept ⟨rfl, rfl⟩ (by decide)]; exact loaded) (head.trans asked.symm)
    (by rw [show (({ s with sec.recal := [{ r with slot := n }] } : State).wf CAL_CTRL_HEAD (r.head % 11) n).slotHead n = s.slotHead n from rfl, head]; omega)
    (by rw [actuator, kept ⟨rfl, rfl⟩ (by decide)]; exact locked)
    (fun m hm => by rw [kept ⟨rfl, rfl⟩ (by decide)]; exact alone m (actuator ▸ hm))
  refine ⟨_, (recalVisit_of_mapped one here waiting groups at_group mapped).trans started, rfl, ?_, ?_, ?_⟩
  · rw [rf_modCh, rf_wf_of_place_ne _ ⟨rfl, rfl⟩ ⟨rfl, rfl⟩ (by decide)]
    exact (rf_calAsked _ n ⟨rfl, rfl⟩ (by decide) _ _).trans asked
  · rw [rf_modCh, rf_wf_same]
    rfl
  · exact congrArg ChanSt.withdrawn (tabGet_tabSet_same ..)

end

/-! ### CHANNEL_REMAP (R521) -/

/-- From s to t only a link and what it sends have changed. -/
structure LinkOnly (s t : State) : Prop where
  chan : t.chan = s.chan
  cell : t.cell = s.cell
  sched : t.sched = s.sched
  perSrc : t.perSrc = s.perSrc

theorem LinkOnly.refl (s : State) : LinkOnly s s := ⟨rfl, rfl, rfl, rfl⟩

theorem LinkOnly.trans {s t u : State} (h : LinkOnly s t) (g : LinkOnly t u) : LinkOnly s u :=
  ⟨g.chan.trans h.chan, g.cell.trans h.cell, g.sched.trans h.sched, g.perSrc.trans h.perSrc⟩

theorem linkOnly_plPut (s : State) (a : Nat) (f : PlFrame) : LinkOnly s (s.plPut a f) := by
  unfold State.plPut
  split
  · exact ⟨rfl, rfl, rfl, rfl⟩
  · exact ⟨rfl, rfl, rfl, rfl⟩

theorem linkOnly_plSlotCmd (s : State) (a slot : Nat) (f : PlFrame) : LinkOnly s (s.plSlotCmd a slot f) := by
  unfold State.plSlotCmd State.plSend
  split
  · exact ⟨rfl, rfl, rfl, rfl⟩
  split
  · split
    · exact linkOnly_plPut s a f
    · exact ⟨rfl, rfl, rfl, rfl⟩
  · exact .refl s

theorem linkOnly_slotMap (s : State) (a slot h : Nat) : LinkOnly s (s.slotMap a slot h) := by
  unfold State.slotMap
  split
  · exact ⟨rfl, rfl, rfl, rfl⟩
  · exact linkOnly_plSlotCmd ..

section
variable {s : State} {n : Nat}

/-- A channel whose loop cell is disabled. -/
def State.cellOff (s : State) (n : Nat) : State := s.modLc n (fun c => { c with live := false, ready := none })

/-- The unmapping of a retired channel's head, and its mapping to a free slot. -/
def State.unmapped (s : State) (n : Nat) : State :=
  if s.slotHead n = 0xF then s.cellOff n
  else
    let t : State := (s.cellOff n).slotMap (n / 8) (n % 8) 0xF
    if t.sched.any (fun c => c.act == n / 8 && c.head == s.slotHead n) then
      match (chansOf (n / 8)).find? (fun m => t.slotUsable m && t.slotHead m == 0xF) with
      | some m => t.plSlotCmd (n / 8) (m % 8) { op := 0x01, payload := [plByte (m % 8), plByte (s.slotHead n)] }
      | none => t
    else t

theorem channelRemap_of_unasked (unasked : (s.ch n).retireBy = none) : s.channelRemap n = if !(s.ch n).retired then s else s.unmapped n := by
  simp only [State.channelRemap, unasked]
  rfl

theorem channelRemap_of_asked {src : Nat} (asked : (s.ch n).retireBy = some src) : s.channelRemap n =
    if s.atBoundary n then (if !(((s.chanOut n).setMt src 2 0).ch n).retired then (s.chanOut n).setMt src 2 0 else ((s.chanOut n).setMt src 2 0).unmapped n)
    else if !(s.ch n).retired then s else s.unmapped n := by
  simp only [State.channelRemap, asked]
  by_cases boundary : s.atBoundary n = true
  · simp only [boundary, if_true]
    rfl
  · simp only [boundary]
    rfl

/-- Unmapping leaves the channel, its requester's state and a disabled cell. -/
theorem linkOnly_unmapped (s : State) (n : Nat) : LinkOnly (s.cellOff n) (s.unmapped n) := by
  unfold State.unmapped
  split
  · exact .refl _
  have mapped := linkOnly_slotMap (s.cellOff n) (n / 8) (n % 8) 0xF
  dsimp only
  split
  · split
    · exact mapped.trans (linkOnly_plSlotCmd ..)
    · exact mapped
  · exact mapped

theorem ch_of_linkOnly {t u : State} (h : LinkOnly t u) (n : Nat) : u.ch n = t.ch n := congrArg (fun c => tabGet ChanSt.reset c n) h.chan
theorem lc_of_linkOnly {t u : State} (h : LinkOnly t u) (n : Nat) : u.lc n = t.lc n := congrArg (fun c => tabGet CellSt.reset c n) h.cell
theorem src_of_linkOnly {t u : State} (h : LinkOnly t u) (ix sub src d : Nat) : u.src ix sub src d = t.src ix sub src d :=
  congrArg (fun c => tabGet d c (odKey ix sub * 16 + src)) h.perSrc

theorem ch_setMt (s : State) (src st reason n : Nat) : (s.setMt src st reason).ch n = s.ch n := rfl

/-- A waiting RETIRE is taken at the boundary. -/
theorem channelRemap_retires {src : Nat} (asked : (s.ch n).retireBy = some src) (boundary : s.atBoundary n = true) : ((s.channelRemap n).ch n).retired = true ∧ ((s.channelRemap n).ch n).retireBy = none
    ∧ ((s.channelRemap n).ch n).fifo = [] ∧ ((s.channelRemap n).lc n).live = false ∧ (s.channelRemap n).src 0x2030 4 src 0 = 2 := by
  have out : ((s.chanOut n).setMt src 2 0).ch n = { s.ch n with fifo := [], retired := true, retireBy := none } := (ch_setMt ..).trans (chanOut_eq s n).1
  have remap : s.channelRemap n = ((s.chanOut n).setMt src 2 0).unmapped n := by
    rw [channelRemap_of_asked asked, if_pos boundary, out]
    rfl
  have kept := linkOnly_unmapped ((s.chanOut n).setMt src 2 0) n
  have channel : (((s.chanOut n).setMt src 2 0).unmapped n).ch n = { s.ch n with fifo := [], retired := true, retireBy := none } := (ch_of_linkOnly kept n).trans out
  rw [remap, channel, lc_of_linkOnly kept, src_of_linkOnly kept]
  exact ⟨rfl, rfl, rfl, congrArg CellSt.live (tabGet_tabSet_same ..), (src_setMt ..).1⟩

/-- A retired channel with nothing scheduled. -/
theorem channelRemap_of_retired (retired : (s.ch n).retired = true) (unasked : (s.ch n).retireBy = none) : (s.slotHead n = 0xF → s.channelRemap n = s.cellOff n)
    ∧ (s.slotHead n ≠ 0xF → s.sched = [] → s.channelRemap n = (s.cellOff n).slotMap (n / 8) (n % 8) 0xF) := by
  have remap : s.channelRemap n = s.unmapped n := (channelRemap_of_unasked unasked).trans (if_neg (by rw [retired]; decide))
  refine ⟨fun free => remap.trans (if_pos free), fun mapped idle => ?_⟩
  have empty : ((s.cellOff n).slotMap (n / 8) (n % 8) 0xF).sched = [] := (linkOnly_slotMap ..).sched.trans idle
  refine remap.trans ((if_neg mapped).trans (if_neg ?_))
  rw [empty]
  exact Bool.false_ne_true

end

end Sys2Proof.Machine
end

section
/-! Format images (R518), and the claim about maintenance. -/

namespace Sys2Proof.Machine
open Sys2Proof

/-! ### What a format image writes -/

/-- A record of a format image writes the dictionary alone. -/
structure FormatKept (s t : State) : Prop where
  regs : t.regs = s.regs
  odRun : t.odRun = s.odRun
  out : t.out = s.out

theorem FormatKept.refl (s : State) : FormatKept s s := ⟨rfl, rfl, rfl⟩

theorem FormatKept.trans {s t u : State} (h : FormatKept s t) (g : FormatKept t u) : FormatKept s u := ⟨g.regs.trans h.regs, g.odRun.trans h.odRun, g.out.trans h.out⟩

theorem formatKept_odStore (s : State) (ix sub : Nat) (r : OdRow) (v : List Byte) : FormatKept s (s.odStore ix sub r v) := by
  unfold State.odStore
  dsimp only
  split
  · exact ⟨rfl, rfl, rfl⟩
  have put (x : OdVal) : FormatKept s (if r.p then s.odKeep ix sub x else s.odPut ix sub x) := by
    split
    · exact ⟨rfl, rfl, rfl⟩
    · exact ⟨rfl, rfl, rfl⟩
  split
  · exact (put _).trans ⟨rfl, rfl, rfl⟩
  · exact put _

theorem formatKept_fmtPut (s : State) (x : FmtRecord) : FormatKept s (s.fmtPut x) := by
  unfold State.fmtPut
  split
  · split
    · exact formatKept_odStore ..
    · exact .refl s
  · exact .refl s

theorem formatKept_records (l : List FmtRecord) (s : State) : FormatKept s (l.foldl (fun t x => t.fmtPut x) s) :=
  List.foldlRecOn (motive := fun t : State => FormatKept s t) l (fun t x => t.fmtPut x) (.refl s) (fun t ht x _ => ht.trans (formatKept_fmtPut t x))

section
variable {s : State}

theorem fmtPut_of_staged {x : FmtRecord} {r : OdRow} (row : s.odEntry x.ix.toNat x.sub.toNat = some r) (acc : r.acc = .rwc)
    (status : s.odWriteStatus 3 x.ix.toNat x.sub.toNat x.value true = 0) :
    s.fmtPut x = s.odPut x.ix.toNat x.sub.toNat (if r.ty.isNum then .num (leNat x.value) else .bytes x.value) := by
  have stored : s.odStore x.ix.toNat x.sub.toNat r x.value = s.odPut x.ix.toNat x.sub.toNat (if r.ty.isNum then .num (leNat x.value) else .bytes x.value) := if_pos acc
  have passed : s.odWriteStatus 3 x.ix.toNat x.sub.toNat x.value true = odOK := status
  simp only [State.fmtPut, row, passed, if_true, stored]

/-! ### The answers of FORMAT_IMAGE -/

section
variable {src : Fin 16} {check : Fin 7} {l : List FmtRecord} {h : BitVec 256} (runs : s.odRuns = true) (steady : s.sec.sw = none)
include runs steady

theorem exec_formatImage {t : State} {a : Nat} (answer : s.formatImage src.val check.val l h = (t, a)) : exec (.formatImage src check l h) s = .next (t.emit (.od src.val a [])) := by
  refine next_eq ((odHeld_of_steady runs steady _ _).trans ?_)
  rw [answer]

theorem formatImage_of_refused {a : Nat} (pre : a = s.odPre (s.srcRole src.val) 0xB040 1 true false) (refused : a ≠ 0) :
    exec (.formatImage src check l h) s = .next (s.emit (.od src.val a [])) := by
  refine exec_formatImage runs steady ?_
  rw [pre] at refused ⊢
  exact if_pos refused

variable (pre : s.odPre (s.srcRole src.val) 0xB040 1 true false = 0)
include pre

theorem formatImage_of_locked (locked : s.wrEn 2 (odOwner 0xB040 1).1 = false) : exec (.formatImage src check l h) s = .next (s.emit (.od src.val odLOCKED [])) := by
  have post : s.odPost 0xB040 1 true = odLOCKED := if_pos (by rw [locked]; rfl)
  refine exec_formatImage runs steady ((if_neg (not_not.mpr pre)).trans ((if_pos ?_).trans ?_))
  · rw [post]
    decide
  · rw [post]

theorem formatImage_of_applied (post : s.odPost 0xB040 1 true = 0) {t : State} {a : Nat} (applied : s.fmtApply check.val l h = (t, a)) :
    exec (.formatImage src check l h) s = .next (t.emit (.od src.val a [])) :=
  exec_formatImage runs steady ((if_neg (not_not.mpr pre)).trans ((if_neg (not_not.mpr post)).trans applied))

end

theorem fmtApply_of_check {check : Nat} (failed : check ≠ 0) (l : List FmtRecord) (h : BitVec 256) :
    s.fmtApply check l h = ({ s with sec.formatReason := check }, if check = 4 ∨ check = 5 then odAUTH else 9) := if_pos failed

theorem fmtApply_of_bad {l : List FmtRecord} (bad : ∃ x ∈ l, s.fmtOk x = false) (h : BitVec 256) : s.fmtApply 0 l h = ({ s with sec.formatReason := 0x0D }, 9) := by
  obtain ⟨x, hx, wrong⟩ := bad
  have refused : l.all s.fmtOk = false := List.all_eq_false.mpr ⟨x, hx, by rw [wrong]; decide⟩
  exact (if_neg (by decide)).trans (if_pos (by rw [refused]; rfl))

theorem fmtApply_of_good {l : List FmtRecord} (good : ∀ x ∈ l, s.fmtOk x = true) (h : BitVec 256) :
    s.fmtApply 0 l h = ({ l.foldl (fun t x => t.fmtPut x) s with sec.formatReason := 0, sec.formatHash := h }, 0) := by
  have allowed : l.all s.fmtOk = true := List.all_eq_true.mpr good
  exact (if_neg (by decide)).trans (if_neg (by rw [allowed]; decide))

end

/-- Settles O60: each unit's outcome by its own lemma; the remap turns on a link command leaving the channel alone. -/
theorem maintenanceAndFormatImages : Obligations.MaintenanceAndFormatImages := by
  intro s
  refine ⟨fun src u k runs steady hu hk v c b command => ⟨fun a ha refused => exec_mt_of_refused command runs steady ha refused, fun status => ?_⟩,
    fun a g w => ⟨fun others => next_eq (recalVisit_of_none others), fun r l one here waiting groups => ⟨fun h other => ?_, fun away => ?_, fun there => ⟨fun unmapped => ⟨?_, ?_⟩, ?_⟩⟩⟩,
    fun n => ⟨fun active idle => ?_, fun src _ asked boundary => ⟨_, rfl, channelRemap_retires asked boundary⟩, ?_⟩,
    fun src check l h runs steady => ⟨fun a ha refused => formatImage_of_refused runs steady ha refused, fun pre => ⟨formatImage_of_locked runs steady pre, fun post => ⟨?_, ?_, ?_⟩⟩⟩⟩
  · refine ⟨_, exec_mt_of_passed command runs steady status, fun absent => mtAct_of_absent hu (command.imp And.left (.imp And.left And.left)) absent b, fun ok => ⟨?_, ?_, ?_⟩⟩
    · rintro rfl
      exact ⟨retired_channel hu hk ok, retired_lane hu hk ok, retired_pseudo hu hk ok, retired_engine hu hk ok, mtRetire_head hu hk ok⟩
    · rintro rfl
      exact ⟨fun kind => restored_channel hu hk ok kind b, fun kind => restored_lane hu hk ok kind b, fun kind => mtRestore_pseudo hu hk ok kind b,
        fun kind => restored_engine hu hk ok kind b, fun kind => restored_head hu hk ok kind b⟩
    · rintro rfl
      exact ⟨fun other => mtRecal_of_bad hu (.inl other), recalibrated_head hu hk ok⟩
  · exact next_eq (recalVisit_of_other one here waiting groups (fun same => other (Fin.ext same)))
  · exact next_eq (recalVisit_of_away one here waiting groups away)
  · exact fun none => next_eq ((recalVisit_of_unmapped one here waiting groups there unmapped).1 none)
  · exact fun n spare => next_eq ((recalVisit_of_unmapped one here waiting groups there unmapped).2 n spare)
  · intro n mapped idle loaded locked alone
    obtain ⟨t, visited, rest⟩ := recalVisit_calibrates one here waiting groups there mapped idle loaded locked alone (w := w)
    exact ⟨t, next_eq visited, rest⟩
  · have stays : (if !(s.ch n.val).retired then s else s.unmapped n.val) = s := if_pos (by rw [active]; rfl)
    cases asked : (s.ch n.val).retireBy with
    | none => exact next_eq ((channelRemap_of_unasked asked).trans stays)
    | some src =>
      have moving : ¬ s.atBoundary n.val = true := by
        rcases idle with none | moving
        · rw [asked] at none
          cases none
        · rw [moving]
          decide
      exact next_eq ((channelRemap_of_asked asked).trans ((if_neg moving).trans stays))
  · rintro retired unasked t rfl
    obtain ⟨free, mapped⟩ := channelRemap_of_retired retired unasked
    exact ⟨fun none => next_eq (free none), fun some idle => next_eq (mapped some idle)⟩
  · exact fun failed => formatImage_of_applied runs steady pre post (fmtApply_of_check failed l h)
  · intro passed bad
    refine formatImage_of_applied runs steady pre post ?_
    rw [passed]
    exact fmtApply_of_bad bad h
  · intro passed good
    have kept := formatKept_records l s
    refine ⟨{ l.foldl (fun t x => t.fmtPut x) s with sec.formatReason := 0, sec.formatHash := h }, formatImage_of_applied runs steady pre post ?_, rfl, rfl, kept.regs, kept.odRun, kept.out, ?_, ?_⟩
    · rw [passed]
      exact fmtApply_of_good good h
    · rintro rfl
      rfl
    · rintro x r rfl row acc status
      rw [List.foldl_cons, List.foldl_nil, fmtPut_of_staged row acc status]
      exact ⟨rfl, rfl⟩

end Sys2Proof.Machine
end

section
/-! Domains (21_power_clocks_startup.md R474, R475): one field of DOM_STATUS for each, set and read. -/

namespace Sys2Proof.Machine
open Sys2Proof

/-! ### Two bits of a word -/

/-- A word with its field d between what stands above and below it. -/
def fieldWord (d q z low : Nat) : Nat := 4 ^ d * (4 * q + z) + low

theorem fieldWord_of_word (v d : Nat) : v = fieldWord d (v / 4 ^ d / 4) (v / 4 ^ d % 4) (v % 4 ^ d) := by
  rw [fieldWord, Nat.div_add_mod, Nat.div_add_mod]

theorem put2_eq (v d x : Nat) : put2 v d x = fieldWord d (v / 4 ^ d / 4) (x % 4) (v % 4 ^ d) := by
  have value := fieldWord_of_word v d
  simp only [fieldWord, Nat.mul_add, Nat.mul_comm (4 ^ d) (v / 4 ^ d % 4), Nat.mul_comm (4 ^ d) (x % 4)] at value ⊢
  rw [put2]
  omega

section
variable {d q z low : Nat} (small : z < 4) (below : low < 4 ^ d)
include small below

theorem fieldWord_same : fieldWord d q z low / 4 ^ d % 4 = z := by
  rw [fieldWord, Nat.mul_add_div (Nat.pow_pos (by decide)), Nat.div_eq_of_lt below]
  omega

theorem fieldWord_above {e : Nat} (above : d < e) : fieldWord d q z low / 4 ^ e = q / 4 ^ (e - d - 1) := by
  have power : 4 ^ e = 4 ^ d * (4 * 4 ^ (e - d - 1)) := by
    rw [← Nat.pow_succ', ← Nat.pow_add]
    congr 1
    omega
  rw [power, ← Nat.div_div_eq_div_mul, ← Nat.div_div_eq_div_mul, fieldWord, Nat.mul_add_div (Nat.pow_pos (by decide)), Nat.div_eq_of_lt below]
  congr 1
  omega

end

theorem fieldWord_below {d e : Nat} (q z low : Nat) (under : e < d) : fieldWord d q z low / 4 ^ e % 4 = low / 4 ^ e % 4 := by
  have power : 4 ^ d = 4 ^ e * (4 * 4 ^ (d - e - 1)) := by
    rw [← Nat.pow_succ', ← Nat.pow_add]
    congr 1
    omega
  rw [fieldWord, power, Nat.mul_assoc, Nat.mul_add_div (Nat.pow_pos (by decide)), Nat.mul_assoc]
  omega

theorem put2_same (v d x : Nat) : put2 v d x / 4 ^ d % 4 = x % 4 := by
  rw [put2_eq]
  exact fieldWord_same (Nat.mod_lt _ (by decide)) (Nat.mod_lt _ (Nat.pow_pos (by decide)))

theorem put2_ne (v x : Nat) {d e : Nat} (other : d ≠ e) : put2 v d x / 4 ^ e % 4 = v / 4 ^ e % 4 := by
  have low := Nat.mod_lt v (Nat.pow_pos (n := d) (by decide : 0 < 4))
  conv_rhs => rw [fieldWord_of_word v d]
  rw [put2_eq]
  rcases Nat.lt_or_gt_of_ne other with above | under
  · rw [fieldWord_above (Nat.mod_lt _ (by decide)) low above, fieldWord_above (Nat.mod_lt _ (by decide)) low above]
  · rw [fieldWord_below _ _ _ under, fieldWord_below _ _ _ under]

/-- The upper limit of a register does not reach its fields. -/
theorem mod_field (v : Nat) {e w : Nat} (within : e < w) : v % 2 ^ (2 * w) / 4 ^ e % 4 = v / 4 ^ e % 4 := by
  have power : 2 ^ (2 * w) = 4 ^ e * (4 * 4 ^ (w - e - 1)) := by
    rw [Nat.pow_mul, ← Nat.pow_succ', ← Nat.pow_add]
    congr 1
    omega
  rw [power, Nat.mod_mul_right_div_self, Nat.mod_mul_right_mod]

/-! ### Domains -/

section
variable (s : State)

theorem dom_setDom_same {d : Nat} (low : d < 24) (x : Nat) : (s.setDom d x).dom d = x % 4 := by
  unfold State.setDom State.dom
  split
  · next first =>
    rw [rf_wf_same]
    exact (mod_field _ (w := 16) first).trans (put2_same ..)
  · next second =>
    rw [rf_wf_same]
    exact (mod_field _ (w := 8) (by omega)).trans (put2_same ..)

theorem dom_setDom_ne {d e : Nat} (low : d < 24) (other : e < 24) (apart : d ≠ e) (x : Nat) : (s.setDom d x).dom e = s.dom e := by
  unfold State.setDom State.dom
  by_cases first : d < 16
  · rw [if_pos first]
    by_cases here : e < 16
    · rw [if_pos here, if_pos here, rf_wf_same]
      exact (mod_field _ (w := 16) here).trans (put2_ne _ _ apart)
    · rw [if_neg here, if_neg here, rf_wf_power _ (by decide)]
  · rw [if_neg first]
    by_cases here : e < 16
    · rw [if_pos here, if_pos here, rf_wf_power _ (by decide)]
    · rw [if_neg here, if_neg here, rf_wf_same]
      exact (mod_field _ (w := 8) (by omega)).trans (put2_ne _ _ (by omega))

/-- A register other than DOM_STATUS keeps its value. -/
theorem rf_setDom {g : Fld} (zero : g.key 0 0 ≠ DOM_STATUS0_DOM.key 0 0) (one : g.key 0 0 ≠ DOM_STATUS1_DOM.key 0 0) (d x : Nat) : (s.setDom d x).rf g = s.rf g := by
  unfold State.setDom
  split
  · exact rf_wf_power s zero _
  · exact rf_wf_power s one _

/-- Setting a domain changes registers alone. -/
theorem setDom_frame (d x : Nat) : { s.setDom d x with regs := s.regs } = s := by
  unfold State.setDom
  split
  · exact frame_wf rfl ..
  · exact frame_wf rfl ..

theorem rf_setDoms {g : Fld} (zero : g.key 0 0 ≠ DOM_STATUS0_DOM.key 0 0) (one : g.key 0 0 ≠ DOM_STATUS1_DOM.key 0 0) (p : Nat) (ds : List Nat) : (s.setDoms p ds).rf g = s.rf g :=
  List.foldlRecOn (motive := fun t : State => t.rf g = s.rf g) ds (fun t d => t.setDom d (t.domIn p d)) rfl (fun t ht d _ => (rf_setDom t zero one d _).trans ht)

theorem setDoms_frame (p : Nat) (ds : List Nat) : { s.setDoms p ds with regs := s.regs } = s :=
  List.foldlRecOn (motive := fun t : State => { t with regs := s.regs } = s) ds (fun t d => t.setDom d (t.domIn p d)) rfl
    (fun t ht d _ => (congrArg (fun u : State => { u with regs := s.regs }) (setDom_frame t d (t.domIn p d))).trans ht)

/-- A domain whose state in p is x, whatever the configuration. -/
theorem dom_setDoms {p d x : Nat} {ds : List Nat} (low : ∀ e ∈ ds, e < 24) (mem : d ∈ ds) (state : ∀ t : State, t.domIn p d = x) : (s.setDoms p ds).dom d = x % 4 := by
  obtain ⟨before, after, rfl⟩ := List.append_of_mem mem
  rw [State.setDoms, List.foldl_append, List.foldl_cons]
  refine List.foldlRecOn (motive := fun t : State => t.dom d = x % 4) after _ ?_ fun t ht e he => ?_
  · rw [state]
    exact dom_setDom_same _ (low d mem) x
  · by_cases same : e = d
    · rw [same, state]
      exact dom_setDom_same _ (low d mem) x
    · exact (dom_setDom_ne t (low e (List.mem_append_right _ (List.mem_cons_of_mem _ he))) (low d mem) same _).trans ht

end

end Sys2Proof.Machine
end

section
/-! Resets and the steps of start-up (21_power_clocks_startup.md R484 to R490, R512). -/

namespace Sys2Proof.Machine
open Sys2Proof

/-! ### Resets (R485) -/

/-- What a reset keeps: the contents of MRAM, flash and the media. -/
structure ResetKept (s t : State) : Prop where
  mode : t.mode = modeBoot
  step : t.pwr.startStep = State.reset.pwr.startStep
  queues : t.cmds = [] ∧ t.sr = [] ∧ t.dirty = [] ∧ t.zl.sessions = [] ∧ t.od = [] ∧ t.odRun = []
  store : t.store = s.store ∧ t.storeValid = s.storeValid ∧ t.writeGen = s.writeGen
  media : t.holes = s.holes ∧ t.gdl = s.gdl ∧ t.pdl = s.pdl
  recorder : t.recd.keep = s.recd.keep ∧ t.recd.ring = s.recd.ring ∧ t.recd.header = s.recd.header
  keys : t.sec.dm = s.sec.dm ∧ t.sec.mg = s.sec.mg ∧ t.sec.minSvn = s.sec.minSvn ∧ t.sec.imgA = s.sec.imgA ∧ t.sec.imgB = s.sec.imgB
  rest : t.health = s.health ∧ t.part = s.part ∧ t.pending = s.pending

theorem mode_resetWith (s : State) (bit : Nat) : (s.resetWith bit).mode = modeBoot :=
  (rf_wf_power s.coldReset (f := RST_CAUSE_CAUSE) (g := SYS_MODE_MODE) (by decide) (2 ^ bit)).trans rfl

theorem cause_resetWith (s : State) {bit : Nat} (small : bit < 4) : (s.resetWith bit).rf RST_CAUSE_CAUSE = 2 ^ bit :=
  (rf_wf_same s.coldReset RST_CAUSE_CAUSE (2 ^ bit) 0 0).trans (Nat.mod_eq_of_lt (Nat.pow_lt_pow_right (by decide) small))

theorem resetKept_resetWith (s : State) (bit : Nat) : ResetKept s (s.resetWith bit) :=
  ⟨mode_resetWith s bit, rfl, ⟨rfl, rfl, rfl, rfl, rfl, rfl⟩, ⟨rfl, rfl, rfl⟩, ⟨rfl, rfl, rfl⟩, ⟨rfl, rfl, rfl⟩, ⟨rfl, rfl, rfl, rfl, rfl⟩, ⟨rfl, rfl, rfl⟩⟩

theorem resetKept_sampleStrap {s t : State} (h : ResetKept s t) (strap : Nat) : ResetKept s (t.sampleStrap strap) :=
  ⟨h.mode, h.step, h.queues, h.store, h.media, h.recorder, h.keys, h.rest⟩

section
variable {s : State}

/-- The three resets that start the part. -/
theorem reset_resets (c : Instr) (bit : Nat) (strap : BitVec 8)
    (reset : (c, bit) = (Instr.swReset 0x5A3C, 2) ∨ (s.pwr.por = false ∧ (c, bit) = (Instr.resetN true strap, 1)) ∨ (s.pwr.inReset = false ∧ (c, bit) = (Instr.por true strap, 0))) :
    ∃ t : State, exec c s = .next t ∧ t.rf RST_CAUSE_CAUSE = 2 ^ bit ∧ ResetKept s t ∧ t.zl.strap = (if bit = 2 then s.zl.strap else strap.toNat) := by
  rcases reset with soft | ⟨powered, hard⟩ | ⟨free, power⟩
  · obtain ⟨rfl, rfl⟩ := Prod.mk.inj soft
    exact ⟨s.resetWith 2, rfl, cause_resetWith s (by decide), resetKept_resetWith s 2, rfl⟩
  · obtain ⟨rfl, rfl⟩ := Prod.mk.inj hard
    refine ⟨(s.resetWith 1).sampleStrap strap.toNat, ?_, cause_resetWith s (by decide), resetKept_sampleStrap (resetKept_resetWith s 1) _, rfl⟩
    exact if_neg (by rw [powered]; decide)
  · obtain ⟨rfl, rfl⟩ := Prod.mk.inj power
    refine ⟨(s.resetWith 0).sampleStrap strap.toNat, ?_, cause_resetWith s (by decide), resetKept_sampleStrap (resetKept_resetWith s 0) _, rfl⟩
    exact if_neg (by rw [free]; decide)

/-! ### Start-up (R488) -/

/-- Start-up does not run. -/
def State.startHeld (s : State) : Bool := s.pwr.inReset || s.pwr.por || s.rb FC_STATUS_FATAL || (s.rf PWR_STATUS_STATE == 4 && s.pwr.kind != .exit)

theorem exec_startupStepDone (m : Bool) : exec (.startupStepDone m) s = .next (s.startStepDone m) := rfl

theorem startStepDone_of_held {m : Bool} (held : s.startHeld = true) : s.startStepDone m = s := if_pos held

theorem startHeld_of (held : s.pwr.inReset = true ∨ s.pwr.por = true ∨ s.rb FC_STATUS_FATAL = true ∨ (s.rf PWR_STATUS_STATE = 4 ∧ s.pwr.kind ≠ .exit)) : s.startHeld = true := by
  simp only [State.startHeld, Bool.or_eq_true, Bool.and_eq_true, beq_iff_eq, bne_iff_ne]
  rcases held with reset | por | fatal | off
  · exact .inl (.inl (.inl reset))
  · exact .inl (.inl (.inr por))
  · exact .inl (.inr fatal)
  · exact .inr off

section
variable (free : s.startHeld = false) {m : Bool}
include free

theorem startStepDone_of_none (none : s.startNext m = none) : s.startStepDone m = s := by
  rw [State.startHeld] at free
  simp only [State.startStepDone, free, Bool.false_eq_true, if_false, none]

theorem startStepDone_of_some {k : Nat} {t : State} (next : s.startNext m = some (k, t)) : s.startStepDone m = { t with pwr.startStep := k } := by
  rw [State.startHeld] at free
  simp only [State.startStepDone, free, Bool.false_eq_true, if_false, next]

/-- Each step runs when the one before has met its condition. -/
theorem startup_steps : (s.pwr.startStep = 1 → ∃ t : State, exec (.startupStepDone m) s = .next t ∧ t.pwr.startStep = 2 ∧ t.fc.alive = true ∧ t.dom domAON = 3)
    ∧ (s.pwr.startStep = 3 → exec (.startupStepDone m) s = .next { s.bootSelect with pwr.startStep := 4 })
    ∧ (s.pwr.startStep = 4 → s.mode ≠ modeService → s.mode ≠ modeTest → exec (.startupStepDone m) s = .next { s with pwr.bootDone := true, pwr.startStep := 4 })
    ∧ (s.pwr.startStep = 6 → s.buf.filled = false ∨ s.rolesRead = false → exec (.startupStepDone m) s = .next s)
    ∧ (s.pwr.startStep = 6 → s.buf.filled = true → s.rolesRead = true → exec (.startupStepDone m) s = .next { s.commitGoBoot with pwr.startStep := 7 })
    ∧ (s.pwr.startStep = 7 → s.rf CFG_STATUS_STATE ≠ 0 ∨ s.rb CFG_STATUS_REFUSED = true ∨ s.mode = modeRecovery → exec (.startupStepDone m) s = .next s)
    ∧ (s.pwr.startStep = 8 → s.spAdmitted = false → exec (.startupStepDone m) s = .next s)
    ∧ (s.pwr.startStep = 8 → s.spAdmitted = true → exec (.startupStepDone m) s = .next { s.spStart with pwr.startStep := 9 })
    ∧ (s.pwr.startStep = 9 → s.sp ≠ spRUN → exec (.startupStepDone m) s = .next s)
    ∧ (s.pwr.startStep = 10 → (∀ a, a < s.nAct → s.act a ≠ acLOADING) → exec (.startupStepDone m) s = .next { s with pwr.startStep := 11 })
    ∧ (s.pwr.startStep = 12 → exec (.startupStepDone m) s = .next s) := by
  have runs {k : Nat} {t : State} (next : s.startNext m = some (k, t)) := next_eq (startStepDone_of_some free next)
  have waits (none : s.startNext m = none) := next_eq (startStepDone_of_none free none)
  refine ⟨fun step => ?_, fun step => ?_, fun step service test => ?_, fun step missing => ?_, fun step filled roles => ?_, fun step busy => ?_, fun step refused => ?_, fun step admitted => ?_,
    fun step slow => ?_, fun step loaded => ?_, fun step => ?_⟩
  · refine ⟨_, runs (k := 2) (t := { (s.wb CLK_STATUS_AON_SRC true).setDom domAON 3 with fc.alive := true }) ?_, rfl, rfl, dom_setDom_same (s.wb CLK_STATUS_AON_SRC true) (d := domAON) (by decide) 3⟩
    simp only [State.startNext, step]
  · exact runs (by simp only [State.startNext, step])
  · refine runs (k := 4) (t := { s with pwr.bootDone := true }) ?_
    have other : ¬ (({ s with pwr.bootDone := true } : State).mode = modeService ∨ ({ s with pwr.bootDone := true } : State).mode = modeTest) := not_or.mpr ⟨service, test⟩
    simp only [State.startNext, step]
    exact if_neg other
  · refine waits ?_
    have absent : ¬ (s.buf.filled && s.rolesRead) = true := by
      rw [Bool.and_eq_true]
      rintro ⟨filled, roles⟩
      rcases missing with empty | unread
      · rw [filled] at empty
        cases empty
      · rw [roles] at unread
        cases unread
    simp only [State.startNext, step, if_neg absent]
  · refine runs ?_
    simp only [State.startNext, step, filled, roles, Bool.and_self, if_true]
  · refine waits ?_
    have closed : ¬ (s.rf CFG_STATUS_STATE = 0 ∧ (!s.rb CFG_STATUS_REFUSED) = true ∧ s.mode ≠ modeRecovery) := by
      rintro ⟨idle, accepted, mode⟩
      rcases busy with busy | refused | recovery
      · exact busy idle
      · rw [refused] at accepted
        cases accepted
      · exact mode recovery
    simp only [State.startNext, step, if_neg closed]
  · exact waits (by simp only [State.startNext, step, refused, Bool.false_eq_true, if_false])
  · exact runs (by simp only [State.startNext, step, admitted, if_true])
  · refine waits ?_
    have below : ¬ (s.sp = spRUN ∧ s.rb SP_STATUS_AT_SPEED = true) := fun h => slow h.1
    simp only [State.startNext, step, if_neg below]
  · refine runs ?_
    have settled : (List.range s.nAct).all (fun a => s.act a != acLOADING) = true := List.all_eq_true.mpr fun a ha => bne_iff_ne.mpr (loaded a (List.mem_range.mp ha))
    simp only [State.startNext, step, settled, if_true]
  · exact waits (by simp only [State.startNext, step])

end

/-! ### Steps 11 and 12: the tables (R183, R488) -/

theorem finishCrossings_of_none (none : s.crossing = []) : s.finishCrossings = s := by
  have same : ({ s with crossing := [] } : State) = s := by
    rw [← none]
  unfold State.finishCrossings
  split
  · rfl
  · rw [none, same]
    rfl

theorem startReady_of_idle (idle : s.pwr.kind = .idle) : s.startReady = { s with pwr.ready := s.mode == modeService && s.purge.isNone } := by
  refine if_neg ?_
  change ¬ s.pwr.kind = .exit
  rw [idle]
  decide

/-- What the repair of one saved stripe notes: a new generation, or its members that failed as suspect. -/
def State.repairNote (t : State) (bad : List (Nat × Nat)) (o : OpenStripe) : State :=
  match bad.filter (fun b => b.1 == o.stripe) with
  | [] => { t with writeGen := t.writeGen + 1 }
  | bs => { t with holes := bs.foldl (fun hs b => hs.filter (fun h => !(h.stripe == b.1 && h.pos == b.2)) ++ [{ stripe := b.1, pos := b.2, suspect := true }]) t.holes }

theorem repairNote_frame (t : State) (bad : List (Nat × Nat)) (o : OpenStripe) : { t.repairNote bad o with writeGen := t.writeGen, holes := t.holes } = t := by
  unfold State.repairNote
  split
  · rfl
  · rfl

theorem repairNotes_frame (l : List OpenStripe) (bad : List (Nat × Nat)) (s : State) : { l.foldl (fun t o => t.repairNote bad o) s with writeGen := s.writeGen, holes := s.holes } = s :=
  List.foldlRecOn (motive := fun t : State => { t with writeGen := s.writeGen, holes := s.holes } = s) l (fun t o => t.repairNote bad o) rfl
    (fun t ht o _ => (congrArg (fun u : State => { u with writeGen := s.writeGen, holes := s.holes }) (repairNote_frame t bad o)).trans ht)

theorem stripeRepair_of_some {l : List OpenStripe} (saved : s.savedStripes = some l) (bad : List (Nat × Nat)) :
    s.stripeRepair bad = { l.foldl (fun t o => t.repairNote bad o) s with savedStripes := none } := by
  unfold State.stripeRepair
  rw [saved]
  rfl

theorem stripeRepair_of_none (unsaved : s.savedStripes = none) (bad : List (Nat × Nat)) : s.stripeRepair bad = if s.pwr.cause = 1 then s.report (srcId DAT 35 4) else s := by
  unfold State.stripeRepair
  rw [unsaved]

/-- Saved stripes are repaired by new generations and holes alone. -/
theorem stripeRepair_of_saved (saved : s.savedStripes ≠ none) (bad : List (Nat × Nat)) : (s.stripeRepair bad).pwr = s.pwr ∧ (s.stripeRepair bad).crossing = s.crossing
    ∧ (s.stripeRepair bad).regs = s.regs ∧ (s.stripeRepair bad).purge = s.purge ∧ (s.stripeRepair bad).savedStripes = none := by
  obtain ⟨l, hl⟩ := Option.ne_none_iff_exists'.mp saved
  have frame := repairNotes_frame l bad s
  rw [stripeRepair_of_some hl]
  exact ⟨(congrArg State.pwr frame :), (congrArg State.crossing frame :), (congrArg State.regs frame :), (congrArg State.purge frame :), rfl⟩

theorem stripeRepair_quiet (idle : s.pwr.kind = .idle) (bad : List (Nat × Nat)) : (s.stripeRepair bad).pwr.kind = .idle ∧ (s.stripeRepair bad).crossing = s.crossing := by
  by_cases saved : s.savedStripes = none
  · rw [stripeRepair_of_none saved]
    split
    · refine ⟨?_, (reacted_report s (srcId DAT 35 4) 0 0).part rfl⟩
      exact (workKept_report s (srcId DAT 35 4) 0 0).kind.elim (fun same => same.trans idle) id
    · exact ⟨idle, rfl⟩
  · obtain ⟨pwr, crossing, -⟩ := stripeRepair_of_saved saved bad
    exact ⟨(congrArg Pwr.kind pwr).trans idle, crossing⟩

/-- The tables read at step 11. -/
theorem startupTablesRead_reads (l : List (BitVec 32 × Fin 32)) (none : s.crossing = []) (idle : s.pwr.kind = .idle) : (s.pwr.startStep ≠ 11 → exec (.startupTablesRead l) s = .next s)
    ∧ (s.pwr.startStep = 11 → ∃ t : State, exec (.startupTablesRead l) s = .next t ∧ t.pwr.startStep = 12
      ∧ (s.savedStripes ≠ .none → t.pwr.ready = (s.mode == modeService && s.purge.isNone) ∧ t.savedStripes = .none ∧ t.regs = s.regs)) := by
  refine ⟨fun other => next_eq ?_, fun step => ?_⟩
  · rw [State.tablesRead, if_neg other]
    exact finishCrossings_of_none none
  · obtain ⟨quiet, crossing⟩ := stripeRepair_quiet idle (l.map (fun b => (b.1.toNat, b.2.val)))
    have read : s.tablesRead (l.map (fun b => (b.1.toNat, b.2.val))) = ({ s.stripeRepair (l.map (fun b => (b.1.toNat, b.2.val))) with pwr.startStep := 12 } : State).startReady := if_pos step
    rw [startReady_of_idle (s := { s.stripeRepair (l.map (fun b => (b.1.toNat, b.2.val))) with pwr.startStep := 12 }) quiet] at read
    refine ⟨s.tablesRead (l.map (fun b => (b.1.toNat, b.2.val))), next_eq (finishCrossings_of_none ?_), ?_, fun saved => ?_⟩
    · rw [read]
      exact crossing.trans none
    · rw [read]
    · obtain ⟨-, -, regs, purge, gone⟩ := stripeRepair_of_saved saved (l.map (fun b => (b.1.toNat, b.2.val)))
      rw [read]
      refine ⟨?_, gone, regs⟩
      change ((s.stripeRepair (l.map (fun b => (b.1.toNat, b.2.val)))).mode == modeService && (s.stripeRepair (l.map (fun b => (b.1.toNat, b.2.val)))).purge.isNone) = _
      rw [purge, State.mode, State.rf, regs]
      rfl

end

end Sys2Proof.Machine
end

section
/-! The end of an exit and the switch of the domains (21_power_clocks_startup.md R474, R475, R479, R481), and the claim about resets and start-up. -/

namespace Sys2Proof.Machine
open Sys2Proof

section
variable {s : State}

/-! ### The end of an exit (R481) -/

/-- The hold of an entry writes registers alone. -/
theorem inhibitPower_frame (s : State) (x : Bool) : { s.inhibitAll inhPOWER x with regs := s.regs } = s := by
  refine List.foldlRecOn (motive := fun t : State => { t with regs := s.regs } = s) s.allChans (fun t n => t.inhibit inhPOWER x n) rfl fun t ht n _ => ?_
  rw [inhibit_of_soft (by decide)]
  exact frame_wf ht ..

/-- P0 is noted and the hold ends. -/
def State.exitNoted (s : State) : State :=
  { ((((s.setDoms 0 domQCH).inhibitAll inhPOWER false).wf PWR_STATUS_STATE 0).wb PWR_STATUS_BUSY false).wf PWR_STATUS_PEND 0 with pwr.kind := .idle }

/-- The sequencers that were running begin again at ENTRY. -/
def State.sqAgain (s : State) : State := s.allChans.foldl (fun t n => if t.rb SQ_CTRL_RUN n then t.sqEntry n else t) s

theorem exitEnd_of_P2 (from2 : s.pwr.exitFrom = 2) : s.exitEnd = s.exitNoted.sqAgain := by
  simp only [State.exitEnd, from2]
  rfl

theorem crossing_exitNoted (s : State) : s.exitNoted.crossing = s.crossing := by
  have hold := congrArg State.crossing (inhibitPower_frame (s.setDoms 0 domQCH) false)
  have domains := congrArg State.crossing (setDoms_frame s 0 domQCH)
  exact hold.trans domains

theorem exitNoted_reads (s : State) : s.exitNoted.rf PWR_STATUS_STATE = 0 ∧ s.exitNoted.rb PWR_STATUS_BUSY = false ∧ ∀ c, c < s.nChan → s.exitNoted.rbit WR_STATUS_INHIBIT inhPOWER c = false := by
  have part : (s.setDoms 0 domQCH).part = s.part := (congrArg State.part (setDoms_frame s 0 domQCH) :)
  have held (c : Nat) (h : c < s.nChan) := power_inhibitAll (s.setDoms 0 domQCH) false (Nat.lt_of_lt_of_eq h (nChan_of_part part).symm)
  have busy : s.exitNoted.rf PWR_STATUS_BUSY = 0 := (rf_wf_power _ (by decide) 0).trans (rf_wb_same ..)
  refine ⟨?_, ?_, fun c h => ?_⟩
  · exact (rf_wf_power _ (by decide) 0).trans ((rf_wb_power _ (by decide) false).trans (rf_wf_same ..))
  · rw [State.rb, busy]
    rfl
  · have same : s.exitNoted.rf WR_STATUS_INHIBIT c = ((s.setDoms 0 domQCH).inhibitAll inhPOWER false).rf WR_STATUS_INHIBIT c :=
      (causes_wf _ (by decide) (by decide) 0 c).trans ((causes_wf _ (by decide) (by decide) _ c).trans (causes_wf _ (by decide) (by decide) 0 c))
    rw [State.rbit, same]
    exact held c h

/-- Beginning again writes the sequencers' registers and stacks. -/
theorem sqAgain_kept (s : State) : { s.sqAgain with regs := s.regs, chan := s.chan } = s ∧ StatusKept s s.sqAgain ∧ ∀ c, s.sqAgain.rf WR_STATUS_INHIBIT c = s.rf WR_STATUS_INHIBIT c := by
  have entry (t : State) (n : Nat) : { t.sqEntry n with regs := t.regs, chan := t.chan } = t ∧ StatusKept t (t.sqEntry n) ∧ ∀ c, (t.sqEntry n).rf WR_STATUS_INHIBIT c = t.rf WR_STATUS_INHIBIT c := by
    refine ⟨rfl, ?_, fun c => rf_sqEntry_of_apart (by decide) (by decide) t n c 0⟩
    unfold State.sqEntry
    exact (StatusKept.trans (s := t) (t := t.modCh n (fun c => { c with stack := [], waiting := false, atSwap := false })) (.of_regs rfl rfl rfl rfl) (.wf (f := SQ_STATUS_PC) (by decide) ..)).trans (.wf (f := SQ_STATUS_DEPTH) (by decide) ..)
  refine List.foldlRecOn (motive := fun t : State => { t with regs := s.regs, chan := s.chan } = s ∧ StatusKept s t ∧ ∀ c, t.rf WR_STATUS_INHIBIT c = s.rf WR_STATUS_INHIBIT c)
    s.allChans (fun t n => if t.rb SQ_CTRL_RUN n then t.sqEntry n else t) ⟨rfl, .refl s, fun _ => rfl⟩ fun t ht n _ => ?_
  obtain ⟨frame, status, causes⟩ := ht
  split
  · obtain ⟨one, kept, same⟩ := entry t n
    exact ⟨(congrArg (fun u : State => { u with regs := s.regs, chan := s.chan }) one).trans frame, status.trans kept, fun c => (same c).trans (causes c)⟩
  · exact ⟨frame, status, causes⟩

/-- An exit from P2 whose condition holds ends in P0 with POWER clear. -/
theorem powerExitDone_ends (exit : s.pwr.kind = .exit) (ready : s.exitReady = true) (none : s.crossing = []) (from2 : s.pwr.exitFrom = 2) :
    ∃ t : State, exec .powerExitDone s = .next t ∧ t.rf PWR_STATUS_STATE = 0 ∧ t.rb PWR_STATUS_BUSY = false ∧ t.pwr.kind = .idle
      ∧ ∀ c, c < s.nChan → t.rbit WR_STATUS_INHIBIT inhPOWER c = false := by
  obtain ⟨state, busy, held⟩ := exitNoted_reads s
  obtain ⟨frame, status, causes⟩ := sqAgain_kept s.exitNoted
  have ended : s.exitDone = s.exitNoted.sqAgain := (if_pos ⟨exit, ready⟩).trans (exitEnd_of_P2 from2)
  have crossing : s.exitNoted.sqAgain.crossing = [] := (congrArg State.crossing frame :).trans ((crossing_exitNoted s).trans none)
  refine ⟨s.exitNoted.sqAgain, next_eq ?_, ?_, ?_, (congrArg (fun t : State => t.pwr.kind) frame :), fun c h => ?_⟩
  · rw [ended]
    exact finishCrossings_of_none crossing
  · exact (status.status PWR_STATUS_STATE (by decide) (by decide)).trans state
  · rw [State.rb, status.status PWR_STATUS_BUSY (by decide) (by decide), ← State.rb]
    exact busy
  · rw [State.rbit, causes c]
    exact held c h

theorem powerExitDone_of_waiting (exit : s.pwr.kind = .exit) (waiting : s.exitReady = false) : exec .powerExitDone s = .next s := by
  have stays : s.exitDone = s := if_neg fun h => by
    rw [waiting] at h
    cases h.2
  refine next_eq ?_
  rw [stays]
  exact if_pos exit

/-! ### The switch of the domains (R474, R475, R479) -/

/-- What the switch of the domains keeps of the part. -/
structure SwitchKept (s t : State) : Prop where
  lane : t.lane = s.lane
  od : t.od = s.od
  odRun : t.odRun = s.odRun
  replay : t.rf WAKE_STATUS_REPLAY = s.rf WAKE_STATUS_REPLAY

namespace SwitchKept

theorem refl (s : State) : SwitchKept s s := ⟨rfl, rfl, rfl, rfl⟩

theorem trans {s t u : State} (h : SwitchKept s t) (g : SwitchKept t u) : SwitchKept s u :=
  ⟨g.lane.trans h.lane, g.od.trans h.od, g.odRun.trans h.odRun, g.replay.trans h.replay⟩

theorem wf {f : Fld} (above : 0x18000 ≤ f.base) (s : State) (v i j : Nat) : SwitchKept s (s.wf f v i j) :=
  ⟨rfl, rfl, rfl, (StatusKept.wf above s v i j).status WAKE_STATUS_REPLAY (by decide) (by decide)⟩

theorem foldl {β : Type} {g : State → β → State} (hg : ∀ t b, SwitchKept t (g t b)) (l : List β) (s : State) : SwitchKept s (l.foldl g s) :=
  List.foldlRecOn (motive := fun t : State => SwitchKept s t) l g (refl s) fun t ht b _ => ht.trans (hg t b)

end SwitchKept

/-- The heads of a following actuator are ready no longer. -/
def State.headsOff (s : State) : State :=
  (List.range s.nAct).foldl (fun t a => if t.act a = acFOLLOW then ((t.softOff (chansOf a)).wf VC_HEADS_READ_RDY 0 a).wf VC_HEADS_WRITE_RDY 0 a else t) s

theorem switchKept_headsOff (s : State) : SwitchKept s s.headsOff := by
  have soft (t : State) (ns : List Nat) : SwitchKept t (t.softOff ns) := .foldl (fun u n => .wf (f := WR_STATUS_INHIBIT) (by decide) u _ n 0) ns t
  refine .foldl (fun t a => ?_) _ s
  split
  · exact ((soft t (chansOf a)).trans (.wf (f := VC_HEADS_READ_RDY) (by decide) ..)).trans (.wf (f := VC_HEADS_WRITE_RDY) (by decide) ..)
  · exact .refl t

theorem switchKept_loseMotion (s : State) : SwitchKept s s.loseMotion := by
  unfold State.loseMotion
  extract_lets keep lost
  have filtered : SwitchKept s lost := by
    refine ⟨rfl, rfl, rfl, ?_⟩
    have here : tabFind (s.regs.filter (fun p => rwcKey p.1 || !keyIn [domMOT, domSPN] p.1)) (WAKE_STATUS_REPLAY.key 0 0) = tabFind s.regs (WAKE_STATUS_REPLAY.key 0 0) :=
      tabFind_filter s.regs (fun k => rwcKey k || !keyIn [domMOT, domSPN] k) (by decide +kernel)
    change tabGet _ _ _ = tabGet _ _ _
    simp only [tabGet]
    rw [show lost.regs = s.regs.filter (fun p => rwcKey p.1 || !keyIn [domMOT, domSPN] p.1) from rfl, here]
  exact filtered.trans (.foldl (fun t a => .wf (f := VC_STATUS_STATE) (by decide) t _ a 0) keep lost)

/-- What the domains lose in the switch to P1, P2 or P3. -/
def State.domainsLost (s : State) (n : Nat) : State := if n = 3 then s.loseQuads.headsOff.loseMotion else s.loseQuads.headsOff

theorem switchKept_domainsLost (s : State) (n : Nat) : SwitchKept s.loseQuads (s.domainsLost n) := by
  unfold State.domainsLost
  split
  · exact (switchKept_headsOff _).trans (switchKept_loseMotion _)
  · exact switchKept_headsOff _

/-- An entry that ends OK in state n. -/
def State.entryOk (s : State) (n : Nat) : State :=
  { ((((((s.wf PWR_STATUS_STATE n).wf PWR_STATUS_RESULT 2).wb PWR_STATUS_BUSY false).wf PWR_STATUS_STAGE 0).wb PWR_STATUS_COMMITTED false).wf PWR_STATUS_PEND 0) with
    pwr.kind := .idle, pwr.waiting := [], pwr.acked := [], pwr.parked := [], pwr.started := false, pwr.pwrdisLater := false }

theorem entryOk_keeps (s : State) (n : Nat) : (s.entryOk n).pwr.kind = .idle ∧ (s.entryOk n).lane = s.lane ∧ (s.entryOk n).od = s.od ∧ (s.entryOk n).odRun = s.odRun :=
  ⟨rfl, rfl, rfl, rfl⟩

theorem setDoms_keeps (s : State) (p : Nat) (ds : List Nat) : (s.setDoms p ds).lane = s.lane ∧ (s.setDoms p ds).od = s.od ∧ (s.setDoms p ds).odRun = s.odRun := by
  have frame := setDoms_frame s p ds
  exact ⟨(congrArg State.lane frame :), (congrArg State.od frame :), (congrArg State.odRun frame :)⟩

theorem entryOk_reads (s : State) {n : Nat} (small : n ≤ 3) : (s.entryOk n).rf PWR_STATUS_STATE = n ∧ (s.entryOk n).rf PWR_STATUS_RESULT = 2 ∧ (s.entryOk n).rb PWR_STATUS_BUSY = false
    ∧ (s.entryOk n).rb PWR_STATUS_COMMITTED = false ∧ (s.entryOk n).rf WAKE_STATUS_REPLAY = s.rf WAKE_STATUS_REPLAY ∧ ∀ d, (s.entryOk n).dom d = s.dom d := by
  have fits : n % 2 ^ PWR_STATUS_STATE.width = n := Nat.mod_eq_of_lt (Nat.lt_of_le_of_lt small (by decide))
  have other {g : Fld} (apart : ∀ f ∈ [PWR_STATUS_STATE, PWR_STATUS_RESULT, PWR_STATUS_BUSY, PWR_STATUS_STAGE, PWR_STATUS_COMMITTED, PWR_STATUS_PEND], g.key 0 0 ≠ f.key 0 0) :
      (s.entryOk n).rf g = s.rf g := by
    simp only [List.forall_mem_cons, List.not_mem_nil, false_imp_iff, implies_true, and_true] at apart
    obtain ⟨state, result, busy, stage, committed, pend⟩ := apart
    exact (rf_wf_power _ pend 0).trans ((rf_wb_power _ committed false).trans ((rf_wf_power _ stage 0).trans ((rf_wb_power _ busy false).trans ((rf_wf_power _ result 2).trans
      (rf_wf_power s state n)))))
  refine ⟨?_, ?_, ?_, ?_, other (by decide), fun d => ?_⟩
  · change ((((((s.wf PWR_STATUS_STATE n).wf PWR_STATUS_RESULT 2).wb PWR_STATUS_BUSY false).wf PWR_STATUS_STAGE 0).wb PWR_STATUS_COMMITTED false).wf PWR_STATUS_PEND 0).rf PWR_STATUS_STATE = n
    simp (disch := decide) only [rf_wb_power, rf_wf_power, rf_wf_same, fits]
  · change ((((((s.wf PWR_STATUS_STATE n).wf PWR_STATUS_RESULT 2).wb PWR_STATUS_BUSY false).wf PWR_STATUS_STAGE 0).wb PWR_STATUS_COMMITTED false).wf PWR_STATUS_PEND 0).rf PWR_STATUS_RESULT = 2
    simp (disch := decide) only [rf_wb_power, rf_wf_power, rf_wf_same]
    rfl
  · change ((((((s.wf PWR_STATUS_STATE n).wf PWR_STATUS_RESULT 2).wb PWR_STATUS_BUSY false).wf PWR_STATUS_STAGE 0).wb PWR_STATUS_COMMITTED false).wf PWR_STATUS_PEND 0).rb PWR_STATUS_BUSY = false
    rw [State.rb]
    simp (disch := decide) only [rf_wb_power, rf_wf_power, rf_wb_same]
    rfl
  · change ((((((s.wf PWR_STATUS_STATE n).wf PWR_STATUS_RESULT 2).wb PWR_STATUS_BUSY false).wf PWR_STATUS_STAGE 0).wb PWR_STATUS_COMMITTED false).wf PWR_STATUS_PEND 0).rb PWR_STATUS_COMMITTED = false
    rw [State.rb]
    simp (disch := decide) only [rf_wf_power, rf_wb_same]
    rfl
  · unfold State.dom
    rw [other (by decide), other (by decide)]

/-- The state of a domain that the configuration does not turn off. -/
theorem domIn_fixed {n : Nat} (low : 1 ≤ n) (high : n ≤ 3) (t : State) : t.domIn n domCHA = 1 ∧ t.domIn n domAON = 3 ∧ t.domIn n domMGT = 3 ∧ t.domIn n domMOT = if n ≤ 2 then 3 else 0 := by
  rcases (by omega : n = 1 ∨ n = 2 ∨ n = 3) with rfl | rfl | rfl
  · exact ⟨rfl, rfl, rfl, rfl⟩
  · exact ⟨rfl, rfl, rfl, rfl⟩
  · exact ⟨rfl, rfl, rfl, rfl⟩

/-- What the switch to P4 leaves. -/
def State.domainsCold (s : State) : State :=
  { s.coldReset with regs := s.regs.filter (fun p => keyIn [domAON] p.1),
                     fc := { s.fc with block := [], region := [], up := [] }, pwr := { s.pwr with startStep := 2, ready := false, bootDone := false } }

/-- The domains of an entry to n have switched. -/
def State.switched (s : State) (n : Nat) : State := ((if n = 4 then s.domainsCold else s.domainsLost n).setDoms n (List.range 24)).entryOk n

theorem domainsSwitched_eq (s : State) : s.domainsSwitched = if s.pwr.kind != .idle && s.pwr.kind != .exit && s.rb PWR_STATUS_COMMITTED then
    (if s.pwr.pwrdisLater = true ∧ s.rf PWR_STATUS_PEND ≠ 4 then (s.switched (s.rf PWR_STATUS_PEND)).forceEntry
      else if (s.switched (s.rf PWR_STATUS_PEND)).rb WAKE_STATUS_REPLAY then (s.switched (s.rf PWR_STATUS_PEND)).exitBegin else s.switched (s.rf PWR_STATUS_PEND)) else s := rfl

theorem switched_of_shallow {n : Nat} (high : n ≤ 3) : s.switched n = ((s.domainsLost n).setDoms n (List.range 24)).entryOk n := by
  have shallow : ¬ n = 4 := by omega
  rw [State.switched, if_neg shallow]

theorem domainsSwitched_of_uncommitted (waiting : s.pwr.kind = .idle ∨ s.pwr.kind = .exit ∨ s.rb PWR_STATUS_COMMITTED = false) : s.domainsSwitched = s := by
  refine if_neg fun h => ?_
  rw [Bool.and_eq_true, Bool.and_eq_true, bne_iff_ne, bne_iff_ne] at h
  obtain ⟨⟨moves, enters⟩, committed⟩ := h
  rcases waiting with idle | exit | open'
  · exact moves idle
  · exact enters exit
  · rw [committed] at open'
    cases open'

section
variable {n : Nat} (entry : s.pwr.kind = .entry) (committed : s.rb PWR_STATUS_COMMITTED = true) (pend : s.rf PWR_STATUS_PEND = n) (high : n ≤ 3)
  (alone : s.pwr.pwrdisLater = false) (asleep : s.rb WAKE_STATUS_REPLAY = false)
include entry committed pend high alone asleep

theorem domainsSwitched_of_entry : s.domainsSwitched = ((s.domainsLost n).setDoms n (List.range 24)).entryOk n := by
  have goes : (s.pwr.kind != .idle && s.pwr.kind != .exit && s.rb PWR_STATUS_COMMITTED) = true := by
    rw [entry, committed]
    rfl
  have quiet : (((s.domainsLost n).setDoms n (List.range 24)).entryOk n).rb WAKE_STATUS_REPLAY = false := by
    have lost := (switchKept_domainsLost s n).replay
    have kept : (((s.domainsLost n).setDoms n (List.range 24)).entryOk n).rf WAKE_STATUS_REPLAY = s.rf WAKE_STATUS_REPLAY :=
      (entryOk_reads _ high).2.2.2.2.1.trans ((rf_setDoms _ (by decide) (by decide) n _).trans lost)
    rw [State.rb, kept]
    exact asleep
  rw [domainsSwitched_eq, if_pos goes, pend, switched_of_shallow high, alone, if_neg (fun h => Bool.false_ne_true h.1), quiet]
  rfl

/-- An entry past its commit point ends OK in its state. -/
theorem domainsSwitched_ends (low : 1 ≤ n) : ∃ t : State, exec .domainsSwitched s = .next t
    ∧ t.rf PWR_STATUS_STATE = n ∧ t.rf PWR_STATUS_RESULT = 2 ∧ t.rb PWR_STATUS_BUSY = false ∧ t.rb PWR_STATUS_COMMITTED = false ∧ t.pwr.kind = .idle ∧ t.dom domCHA = 1 ∧ t.dom domAON = 3 ∧ t.dom domMGT = 3
    ∧ (n = 3 → t.dom domMOT = 0) ∧ (n ≤ 2 → t.dom domMOT = 3) ∧ t.lane = [] ∧ t.od = s.od ∧ t.odRun = s.odRun := by
  obtain ⟨state, result, busy, ended, -, dom⟩ := entryOk_reads ((s.domainsLost n).setDoms n (List.range 24)) high
  have domains {d x : Nat} (here : d < 24) (fixed : ∀ t : State, t.domIn n d = x) : (((s.domainsLost n).setDoms n (List.range 24)).entryOk n).dom d = x % 4 :=
    (dom d).trans (dom_setDoms _ (fun e he => List.mem_range.mp he) (List.mem_range.mpr here) fixed)
  have motion := domains (d := domMOT) (by decide) (fun t => (domIn_fixed low high t).2.2.2)
  have lost := switchKept_domainsLost s n
  obtain ⟨-, lane, od, odRun⟩ := entryOk_keeps ((s.domainsLost n).setDoms n (List.range 24)) n
  refine ⟨((s.domainsLost n).setDoms n (List.range 24)).entryOk n, next_eq (domainsSwitched_of_entry entry committed pend high alone asleep), state, result, busy, ended, (entryOk_keeps _ n).1,
    domains (by decide) (fun t => (domIn_fixed low high t).1), domains (by decide) (fun t => (domIn_fixed low high t).2.1), domains (by decide) (fun t => (domIn_fixed low high t).2.2.1),
    fun three => ?_, fun two => ?_, ?_, ?_, ?_⟩
  · rw [motion, three]
    rfl
  · rw [motion, if_pos two]
  · rw [lane, (setDoms_keeps (s.domainsLost n) n _).1, lost.lane]
    rfl
  · rw [od, (setDoms_keeps (s.domainsLost n) n _).2.1, lost.od]
    rfl
  · rw [odRun, (setDoms_keeps (s.domainsLost n) n _).2.2, lost.odRun]
    rfl

end

end

/-- Settles O54: a reset by what its fresh state keeps, a step of start-up by its condition, a switch by the domains it sets. -/
theorem resetsClocksAndStartUp : Obligations.ResetsClocksAndStartUp := by
  intro s
  refine ⟨fun k other => next_eq (if_neg fun same => other (BitVec.eq_of_toNat_eq same)), fun c bit strap reset => ?_, fun strap => ⟨⟨_, rfl, rfl, rfl, rfl, rfl⟩, ⟨_, rfl, rfl, rfl, rfl, rfl, rfl⟩, ?_, ?_⟩,
    fun internal => ?_, fun crystal => ?_, fun k => ⟨fun lost => ?_, fun locked => ?_⟩, fun m => ⟨fun held => ?_, fun reset por fatal off => ?_⟩,
    fun l none idle => startupTablesRead_reads l none idle, powerExitDone_of_waiting, powerExitDone_ends, fun waiting => next_eq (domainsSwitched_of_uncommitted waiting),
    fun n entry committed pend low high alone asleep => domainsSwitched_ends entry committed pend high alone asleep low⟩
  · obtain ⟨t, ran, cause, kept, strapped⟩ := reset_resets c bit strap reset
    obtain ⟨cmds, sr, dirty, sessions, od, odRun⟩ := kept.queues
    obtain ⟨store, valid, gen⟩ := kept.store
    obtain ⟨holes, gdl, pdl⟩ := kept.media
    obtain ⟨keep, ring, header⟩ := kept.recorder
    obtain ⟨dm, mg, svn, imgA, imgB⟩ := kept.keys
    obtain ⟨health, part, pending⟩ := kept.rest
    exact ⟨t, ran, cause, kept.mode, kept.step, cmds, sr, dirty, sessions, od, odRun, store, valid, gen, holes, gdl, pdl, keep, ring, header, dm, mg, svn, imgA, imgB, health, part, pending, strapped⟩
  · exact fun powered => if_pos powered
  · exact fun reset => if_pos reset
  · exact next_eq (if_neg (by rw [internal]; decide))
  · exact next_eq (if_pos crystal)
  · exact next_eq (if_neg (by rw [lost]; decide))
  · exact next_eq (if_pos locked)
  · exact next_eq (startStepDone_of_held (startHeld_of held))
  · refine startup_steps ?_
    rw [State.startHeld, reset, por, fatal, beq_eq_false_iff_ne.mpr off]
    rfl

end Sys2Proof.Machine
end

section
/-! The reaction to a C4 (20_faults.md R466): what latching FATAL, stopping ALIVE, closing the gates, freezing the rings and retracting leave behind. -/

namespace Sys2Proof.Machine
open Sys2Proof

/-! ### What the steps after the latch keep -/

/-- From s to t only what `Shut` allows has changed; FC_STATUS and the causes FAULT stay, and an actuator at most begins to retract. -/
structure Stilled (s t : State) : Prop where
  shut : Shut s t
  status : ∀ g : Fld, g.base = FC_STATUS_FATAL.base → g.lo < 32 → t.rf g = s.rf g
  fault : ∀ n, t.rbit WR_STATUS_INHIBIT inhFAULT n = s.rbit WR_STATUS_INHIBIT inhFAULT n
  act : ∀ a, a < 4 → t.act a = s.act a ∨ t.act a = acRETRACT

namespace Stilled

theorem refl (s : State) : Stilled s s := ⟨.refl s, fun _ _ _ => rfl, fun _ => rfl, fun _ _ => .inl rfl⟩

theorem trans {s t u : State} (h : Stilled s t) (k : Stilled t u) : Stilled s u :=
  ⟨h.shut.trans k.shut, fun g base lo => (k.status g base lo).trans (h.status g base lo), fun n => (k.fault n).trans (h.fault n),
    fun a present => (k.act a present).elim (fun same => (h.act a present).imp same.trans same.trans) .inr⟩

theorem ite {s t u : State} {c : Prop} [Decidable c] (ht : Stilled s t) (hu : Stilled s u) : Stilled s (if c then t else u) := by
  split <;> assumption

theorem foldl {β : Type} {g : State → β → State} {l : List β} (hg : ∀ t, ∀ b ∈ l, Stilled t (g t b)) (s : State) : Stilled s (l.foldl g s) :=
  List.foldlRecOn (motive := Stilled s) l g (refl s) fun t ht b mem => ht.trans (hg t b mem)

/-- The registers stay. -/
theorem of_regs {s t : State} (rest : t.unshut s = s) (regs : t.regs = s.regs) : Stilled s t :=
  ⟨.of_rest rest regs, fun g _ _ => by rw [State.rf, State.rf, regs], fun n => by rw [State.rbit, State.rbit, State.rf, State.rf, regs],
    fun a _ => .inl (by rw [State.act, State.act, State.rf, State.rf, regs])⟩

/-- A field of PWR_STATUS is written. -/
theorem power {f : Fld} (own : f.base = PWR_STATUS_STATE.base) (lo : f.lo < 32) (s : State) (v : Nat) : Stilled s (s.wf f v) := by
  refine ⟨.wf (reactionKey_power lo own) s v, fun g base low => rf_wf_ne _ _ _ _ _ _ _ _ ?_, fun n => ?_, fun a _ => .inl (rf_wf_ne _ _ _ _ _ _ _ _ ?_)⟩
  · simp only [Fld.key, own, base, FC_STATUS_FATAL, PWR_STATUS_STATE]
    omega
  · rw [State.rbit, causes_wf s (by rw [own]; decide) lo v n, State.rbit]
  · simp only [Fld.key, own, VC_STATUS_STATE, PWR_STATUS_STATE]
    omega

end Stilled

theorem stilled_inhibitPower (s : State) : Stilled s (s.inhibitAll inhPOWER false) := by
  have kept := statusKept_inhibitAll s false
  refine ⟨shut_inhibitAll .., fun g base lo => kept.status g (by rw [base]; decide) lo, fun n => ?_, fun a present => .inl ?_⟩
  · rw [cause_inhibitAll (by decide), if_neg (fun h => absurd h.2 (by decide))]
  · exact (servoKept_inhibitAll s inhPOWER false).rf (by simp only [Fld.key, VC_STATUS_STATE]; omega)

/-- A power entry that ends with no actuator to reload. -/
theorem stilled_abortEntry (s : State) (result : Nat) : Stilled s (s.abortEntry result false) := by
  unfold State.abortEntry
  extract_lets parked ended freed released
  have h1 : Stilled s ended := (((Stilled.power (f := PWR_STATUS_RESULT) rfl (by decide) s _).trans (.power (f := PWR_STATUS_BUSY) rfl (by decide) ..)).trans
    (.power (f := PWR_STATUS_STAGE) rfl (by decide) ..)).trans (.power (f := PWR_STATUS_PEND) rfl (by decide) ..)
  have h2 : Stilled ended freed := .ite (stilled_inhibitPower ended) (.refl ended)
  have h3 : Stilled freed released := .foldl (fun t p _ => .of_regs (t := t.emit (.note "RELEASE" (partIndex p) 0)) rfl rfl) freed
  exact .ite (((h1.trans h2).trans h3).trans (.of_regs rfl rfl)) (.refl s)

/-! ### Retracting every loaded actuator -/

theorem startRetract_of_loaded {s : State} {a : Nat} (loaded : s.actLoaded a = true) (moves : s.act a ≠ acRETRACT) :
    s.startRetract a = (((((s.cutHalf a).resetAsked a).dropSeek a).modSv a (fun v => { v with retract := 1 })).setAct a acRETRACT).cnt VC_STATUS_RETRACTS a :=
  if_pos (by rw [loaded, Bool.true_and, bne_iff_ne]; exact moves)

/-- The actuator retracts, or is not loaded. -/
def State.stowed (s : State) (a : Nat) : Prop := s.act a = acRETRACT ∨ s.actLoaded a = false

theorem stowed_or_loaded (s : State) (a : Nat) : s.stowed a ∨ (s.actLoaded a = true ∧ s.act a ≠ acRETRACT) := by
  rw [State.stowed, ← Bool.not_eq_true]
  tauto

theorem startRetract_of_stowed {s : State} {a : Nat} (still : s.stowed a) : s.startRetract a = s := by
  refine if_neg fun h => ?_
  rw [Bool.and_eq_true, bne_iff_ne] at h
  obtain ⟨loaded, moves⟩ := h
  rcases still with retracts | unloaded
  · exact moves retracts
  · rw [unloaded] at loaded
    cases loaded

theorem act_startRetract_of_loaded {s : State} {a : Nat} (loaded : s.actLoaded a = true) (moves : s.act a ≠ acRETRACT) : (s.startRetract a).act a = acRETRACT := by
  rw [startRetract_of_loaded loaded moves, State.cnt, act_wf_of_apart (by decide)]
  exact act_setAct (by decide) ..

theorem stowed_startRetract (s : State) (a : Nat) : (s.startRetract a).stowed a := by
  rcases stowed_or_loaded s a with still | ⟨loaded, moves⟩
  · rw [startRetract_of_stowed still]
    exact still
  · exact .inl (act_startRetract_of_loaded loaded moves)

theorem act_startRetract_ne (s : State) {a b : Nat} (other : b ≠ a) (actuator : b < 4) : (s.startRetract a).act b = s.act b := by
  rcases stowed_or_loaded s a with still | ⟨loaded, moves⟩
  · rw [startRetract_of_stowed still]
  · have set (t : State) : (t.setAct a acRETRACT).act b = t.act b := rf_wf_ne _ _ _ _ _ _ _ _ (by simp only [Fld.key, VC_STATUS_STATE]; omega)
    rw [startRetract_of_loaded loaded moves, State.cnt, act_wf_of_apart (by decide), set, act_modSv, State.act, rf_dropSeek (by decide) (by decide),
      (servoKept_cutAsked s a).rf (by simp only [Fld.key, VC_STATUS_STATE]; omega)]
    rfl

section
variable {g : Fld} (base : g.base = FC_STATUS_FATAL.base) (lo : g.lo < 32) (s : State) (a : Nat)
include base lo

theorem faults_wf_above {f : Fld} (above : 0x600000 ≤ f.base) (v : Nat) : (s.wf f v a).rf g = s.rf g :=
  rf_wf_ne _ _ _ _ _ _ _ _ (by simp only [Fld.key, base, FC_STATUS_FATAL]; omega)

theorem faults_dropSeek : (s.dropSeek a).rf g = s.rf g := by
  obtain ⟨o, dropped⟩ := dropSeek_eq s a
  rw [dropped, faults_wf_above base lo _ a (by decide), faults_wf_above base lo _ a (by decide)]
  rfl

theorem faults_startRetract : (s.startRetract a).rf g = s.rf g := by
  rcases stowed_or_loaded s a with still | ⟨loaded, moves⟩
  · rw [startRetract_of_stowed still]
  · rw [startRetract_of_loaded loaded moves, State.cnt, faults_wf_above base lo _ a (by decide), State.setAct, faults_wf_above base lo _ a (by decide), rf_modSv,
      faults_dropSeek base lo, (servoKept_cutAsked s a).rf (by simp only [Fld.key, base, FC_STATUS_FATAL]; omega)]

end

theorem stilled_startRetract (s : State) (a : Nat) : Stilled s (s.startRetract a) := by
  refine ⟨shut_startRetract s a, fun g base lo => faults_startRetract base lo s a, fun n => ?_, fun b actuator => ?_⟩
  · rw [State.rbit, causes_startRetract, State.rbit]
  · by_cases same : b = a
    · rw [same]
      rcases stowed_or_loaded s a with still | ⟨loaded, moves⟩
      · exact .inl (congrArg (State.act · a) (startRetract_of_stowed still))
      · exact .inr (act_startRetract_of_loaded loaded moves)
    · exact .inl (act_startRetract_ne s same actuator)

theorem stilled_retractAll (s : State) : Stilled s s.retractAll := .foldl (fun t a _ => stilled_startRetract t a) s

/-- A stowed actuator stays so. -/
theorem Stilled.stowed {s t : State} (h : Stilled s t) {a : Nat} (actuator : a < 4) (still : s.stowed a) : t.stowed a := by
  rcases h.act a actuator with same | retracts
  · rw [State.stowed, State.actLoaded, same]
    exact still
  · exact .inl retracts

theorem stowed_retractAll (s : State) {a : Nat} (present : a < s.nAct) : s.retractAll.stowed a := by
  obtain ⟨before, after, here⟩ := List.append_of_mem (List.mem_range.2 present)
  rw [State.retractAll, here, List.foldl_append, List.foldl_cons]
  exact Stilled.stowed (.foldl (fun t b _ => stilled_startRetract t b) _) (Nat.lt_of_lt_of_le present (nAct_le s)) (stowed_startRetract _ a)

/-! ### FATAL -/

theorem frozen_fatalPorts (l : Tab Port) (q : Fin 2) : (tabGet Port.reset (fatalPorts l) q.val).cfs = true ∧ (tabGet Port.reset (fatalPorts l) q.val).frozen = true := by
  have last : tabGet Port.reset (fatalPorts l) 1 = { (tabGet Port.reset (tabMod .reset l 0 (fun p => { p with cfs := true, frozen := true })) 1) with cfs := true, frozen := true } :=
    tabGet_tabSet_same ..
  have first : tabGet Port.reset (fatalPorts l) 0 = { (tabGet Port.reset l 0) with cfs := true, frozen := true } :=
    (tabGet_tabSet_ne _ _ _ _ _ (by decide)).trans (tabGet_tabSet_same ..)
  rcases (by omega : q.val = 0 ∨ q.val = 1) with zero | one
  · rw [zero, first]
    exact ⟨rfl, rfl⟩
  · rw [one, last]
    exact ⟨rfl, rfl⟩

/-- What a C4 leaves. -/
structure Fatal (s t : State) : Prop where
  fatal : t.rb FC_STATUS_FATAL = true
  highest : t.rf FC_STATUS_HIGHEST = 4
  alive : t.fc.alive = false
  inhibited : ∀ n, n < s.nChan → t.rbit WR_STATUS_INHIBIT inhFAULT n = true
  rings : ∀ p ∈ t.sr, p.2.st ≠ 1 ∧ p.2.st ≠ 2
  stowed : ∀ a, a < s.nAct → t.stowed a
  flushing : t.recd.flushing = true

theorem rings_frozen (l : Tab SubRing) : ∀ p ∈ l.map (fun p => if p.2.st = 1 ∨ p.2.st = 2 then (p.1, { p.2 with st := 3, code := 0x0C, copies := [] }) else p), p.2.st ≠ 1 ∧ p.2.st ≠ 2 := by
  intro p mem
  obtain ⟨q, -, rfl⟩ := List.mem_map.1 mem
  split
  · exact (by decide : 3 ≠ 1 ∧ 3 ≠ 2)
  · next idle => exact not_or.1 idle

theorem chipFatal_of_fatal {s : State} (fatal : s.rb FC_STATUS_FATAL = true) : s.chipFatal = s := if_pos fatal

theorem fatal_chipFatal {s : State} (first : s.rb FC_STATUS_FATAL = false) : Fatal s s.chipFatal := by
  unfold State.chipFatal
  extract_lets latched collectors stopped shut rings ports told retracted ended
  have latch : latched.rb FC_STATUS_FATAL = true ∧ latched.rf FC_STATUS_HIGHEST = 4 :=
    ⟨(congrArg (· == 1) (rf_wf_power _ (by decide) 4)).trans (rb_wb_same (f := FC_STATUS_FATAL) s rfl true 0 0), rf_wf_same ..⟩
  have stopped_rf (g : Fld) (i : Nat) : stopped.rf g i = latched.rf g i := rfl
  have stopped_alive : stopped.fc.alive = false := rfl
  have stopped_part : stopped.part = s.part := rfl
  have closed : ServoKept stopped shut := servoKept_inhibitAll ..
  have shut_fault (n : Nat) (channel : n < stopped.nChan) : shut.rbit WR_STATUS_INHIBIT inhFAULT n = true := (cause_inhibitAll (by decide) ..).trans (if_pos ⟨channel, rfl⟩)
  have ports_kept : ServoKept shut ports := .of_regs rfl rfl rfl rfl rfl rfl
  have ports_fault (n : Nat) : ports.rbit WR_STATUS_INHIBIT inhFAULT n = shut.rbit WR_STATUS_INHIBIT inhFAULT n := rfl
  have ports_rings : ∀ p ∈ ports.sr, p.2.st ≠ 1 ∧ p.2.st ≠ 2 := rings_frozen shut.sr
  have told_still : Stilled ports told := .foldl (fun t (p : Nat × Port) _ => .of_regs (t := t.emit (.port p.1 "ERR_FATAL" 0)) rfl rfl) ports
  have retracted_still : Stilled told retracted := stilled_retractAll told
  have retracted_stowed (a : Nat) (present : a < told.nAct) : retracted.stowed a := stowed_retractAll told present
  have ended_still : Stilled retracted ended :=
    .ite ((Stilled.power (f := PWR_STATUS_COMMITTED) rfl (by decide) retracted 0).trans (stilled_abortEntry _ 7)) (.refl retracted)
  clear_value ended retracted told ports rings shut stopped collectors latched
  have still : Stilled ports ended := (told_still.trans retracted_still).trans ended_still
  have before : ServoKept stopped ports := closed.trans ports_kept
  have status {g : Fld} (base : g.base = FC_STATUS_FATAL.base) (lo : g.lo < 32) : ended.rf g = latched.rf g :=
    (still.status g base lo).trans ((before.rf (by simp only [Fld.key, base, FC_STATUS_FATAL]; omega)).trans (stopped_rf g 0))
  have told_part : told.part = s.part := ((told_still.shut.part (p := State.part) rfl).trans before.part).trans stopped_part
  obtain ⟨fatal, highest⟩ := latch
  rw [first, if_neg Bool.false_ne_true]
  refine ⟨?_, (status (g := FC_STATUS_HIGHEST) rfl (by decide)).trans highest, ?_, fun n channel => ?_, ?_, fun a present => ?_, rfl⟩
  · exact (congrArg (· == 1) (status (g := FC_STATUS_FATAL) rfl (by decide))).trans fatal
  · exact (congrArg Fc.alive ((still.shut.part (p := State.fc) rfl).trans before.fc)).trans stopped_alive
  · exact (still.fault n).trans ((ports_fault n).trans (shut_fault n (by rwa [nChan_of_part stopped_part])))
  · rw [show ended.startFlush.sr = ports.sr from still.shut.part (p := State.sr) rfl]
    exact ports_rings
  · have here : a < told.nAct := by
      rw [State.nAct, told_part]
      exact present
    exact ended_still.stowed (Nat.lt_of_lt_of_le here (nAct_le told)) (retracted_stowed a here)

theorem ports_chipFatal {s : State} (first : s.rb FC_STATUS_FATAL = false) (q : Fin 2) : (s.chipFatal.prt q.val).cfs = true ∧ (s.chipFatal.prt q.val).frozen = true := by
  rw [State.prt, port_chipFatal, first, if_neg Bool.false_ne_true]
  exact frozen_fatalPorts ..

end Sys2Proof.Machine
end

section
/-! A C4 reported, and the restart of a region after a C3 (20_faults.md R465 to R468, R479), with the claim about both. -/

namespace Sys2Proof.Machine
open Sys2Proof

/-! ### The report of a C4 -/

theorem alive_dupUp (s : State) (rg src n : Nat) : (s.dupUp rg src n).fc.alive = s.fc.alive := by
  unfold State.dupUp
  extract_lets collectors regional regionalCollectors waiting
  have same : waiting.fc.alive = s.fc.alive := by
    change regional.fc.alive = s.fc.alive
    unfold regional
    split
    · split <;> rfl
    · rfl
  clear_value waiting
  split
  · split <;> exact same
  · exact same

theorem alive_toRegion (s : State) (rg : Nat) (r : FaultRec) : (s.toRegion rg r).fc.alive = s.fc.alive := by
  unfold State.toRegion
  split
  · rfl
  · split
    · exact alive_dupUp ..
    · rfl

/-- A report of class C4 was collected from s, before the chip reacts. -/
structure Gathered (s t : State) (rg : Nat) : Prop where
  frame : { t with fc := s.fc } = { s with mrec := t.mrec }
  alive : t.fc.alive = s.fc.alive
  record : rg ≠ MOT → t.mrec = s.mrec

theorem reportBy_of_C4 (s : State) (rg blk src cell detail : Nat) (f : Bool) : ∃ t, s.reportBy rg blk src cell 4 detail f = t.chipFatal ∧ Gathered s t rg := by
  unfold State.reportBy
  extract_lets key recording recorded opened collectors collected
  refine ⟨collected, if_pos rfl, ?_⟩
  have armed : { recorded with mrec := s.mrec } = s ∧ recorded.fc = s.fc ∧ (rg ≠ MOT → recorded.mrec = s.mrec) := by
    unfold recorded
    split
    · next arms => exact ⟨rfl, rfl, fun other => absurd arms.1 other⟩
    · exact ⟨rfl, rfl, fun _ => rfl⟩
  have gathers : FcOnly recorded collected ∧ collected.fc.alive = recorded.fc.alive := by
    unfold collected
    split
    · exact ⟨(FcOnly.of_fc recorded _).trans (fcOnly_toRegion ..), alive_toRegion ..⟩
    · split
      · exact ⟨(FcOnly.of_fc recorded _).trans (dupUp_added ..).frame, alive_dupUp ..⟩
      · extract_lets merged
        split <;> exact ⟨rfl, rfl⟩
  clear_value collected recorded
  obtain ⟨armFrame, fc, record⟩ := armed
  obtain ⟨frame, alive⟩ := gathers
  have mrec : collected.mrec = recorded.mrec := (congrArg State.mrec frame :)
  have put := congrArg (fun x : State => ({ x with fc := s.fc } : State)) frame
  have same := congrArg (fun x : State => ({ x with mrec := collected.mrec } : State)) armFrame
  refine ⟨?_, alive.trans (congrArg Fc.alive fc), fun other => mrec.trans (record other)⟩
  refine (put.trans ?_).trans same
  rw [mrec, ← fc]

section
variable {s : State}

theorem chipFatal_first (src : BitVec 16) (first : s.rb FC_STATUS_FATAL = false) : ∃ t : State, exec (.chipFatal src) s = .next t ∧ Fatal s t
    ∧ (∀ q : Fin 2, (t.prt q.val).cfs = true ∧ (t.prt q.val).frozen = true) ∧ t.od = s.od ∧ t.odRun = s.odRun := by
  obtain ⟨u, reported, gathered⟩ := reportBy_of_C4 s (srcRegion src.toNat) (srcBlock src.toNat) src.toNat 0 0 false
  have regs : u.regs = s.regs := (congrArg State.regs gathered.frame :)
  have part : u.part = s.part := (congrArg State.part gathered.frame :)
  have open_ : u.rb FC_STATUS_FATAL = false := by rw [State.rb, State.rf, regs]; exact first
  have fatal := fatal_chipFatal open_
  have kept : Reacted u u.chipFatal := reacted_chipFatal u
  refine ⟨u.chipFatal, next_eq ?_, ⟨fatal.fatal, fatal.highest, fatal.alive, fun n channel => fatal.inhibited n (by rwa [nChan_of_part part]), fatal.rings,
    fun a present => fatal.stowed a (by rw [State.nAct, part]; exact present), fatal.flushing⟩, ports_chipFatal open_, ?_, ?_⟩
  · rw [reported]
    exact chipFatal_of_fatal fatal.fatal
  · exact (kept.part (p := State.od) rfl).trans (congrArg State.od gathered.frame :)
  · exact (kept.part (p := State.odRun) rfl).trans (congrArg State.odRun gathered.frame :)

theorem chipFatal_again (src : BitVec 16) (fatal : s.rb FC_STATUS_FATAL = true) (calm : srcRegion src.toNat ≠ MOT) :
    ∃ t : State, exec (.chipFatal src) s = .next t ∧ { t with fc := s.fc } = s ∧ t.fc.alive = s.fc.alive := by
  obtain ⟨u, reported, gathered⟩ := reportBy_of_C4 s (srcRegion src.toNat) (srcBlock src.toNat) src.toNat 0 0 false
  have regs : u.regs = s.regs := (congrArg State.regs gathered.frame :)
  have latched : u.rb FC_STATUS_FATAL = true := by rw [State.rb, State.rf, regs]; exact fatal
  refine ⟨u, next_eq ?_, ?_, gathered.alive⟩
  · rw [reported, chipFatal_of_fatal latched, chipFatal_of_fatal latched]
  · rw [gathered.frame, gathered.record calm]

/-! ### The restart of a region (R465) -/

/-- The restart of a region whose C3 waits starts with a flush. -/
def State.restartNoted (s : State) (r : Nat) : State := { s.startFlush with fc.restarting := s.fc.restarting ++ [r] }

/-- What the restart of region r does to its blocks. -/
def State.restarted (s : State) (r : Nat) : State :=
  if r = SYS then s.restartSys else if r = HST then s.restartHst else if r = DAT then s.restartDat else if r = MOT then s.restartMot else s.restartMed

theorem exec_regionRestart_of_blocked {r : Fin 5} (blocked : s.c3Waits r.val = false ∨ s.c3Parked r.val = false) : exec (.regionRestart r) s = .next s := by
  refine if_neg fun h => ?_
  rw [Bool.and_eq_true] at h
  rcases blocked with idle | loaded
  · rw [idle] at h
    cases h.1
  · rw [loaded] at h
    cases h.2

theorem exec_regionRestart_of_ready {r : Fin 5} (waits : s.c3Waits r.val = true) (parked : s.c3Parked r.val = true) :
    exec (.regionRestart r) s = .next ((s.restartNoted r.val).restarted r.val) := by
  have both : (s.c3Waits r.val && s.c3Parked r.val) = true := by rw [waits, parked]; rfl
  exact if_pos both

end

/-! #### SYS: a switch-over is abandoned -/

theorem swAbandon_of_none (s : State) (none : s.sec.sw = none) : s.swAbandon = s := by
  simp only [State.swAbandon, none]

/-- An abandoned switch-over writes registers alone. -/
theorem swAbandon_frame (s : State) : { s.swAbandon with regs := s.regs } = s := by
  cases sw : s.sec.sw with
  | none => rw [swAbandon_of_none s sw]
  | some w =>
    simp only [State.swAbandon, sw]
    split
    · rfl
    · split <;> rfl

theorem swAbandon_idle {s : State} {w : Switchover} (sw : s.sec.sw = some w) : s.swAbandon.rf SEC_SWITCH_STATE = 0 := by
  simp only [State.swAbandon, sw]
  split
  · assumption
  · exact (rf_wf_power _ (by decide) _).trans (rf_wf_same ..)

/-- What the restart of SYS leaves. -/
structure SysRestarted (s t : State) : Prop where
  sessions : t.zl.sessions = []
  handshakes : t.zl.handshakes = []
  asm : t.asm = []
  fc : t.fc = s.fc
  recd : t.recd = s.recd
  odRun : t.odRun = s.odRun
  sw : t.sec.sw = s.sec.sw
  regs : t.regs = s.swAbandon.regs

theorem restartSys_leaves (s : State) : SysRestarted s s.restartSys := by
  have frame := swAbandon_frame s
  exact ⟨rfl, rfl, rfl, (congrArg State.fc frame :), (congrArg State.recd frame :), (congrArg State.odRun frame :), (congrArg (fun t : State => t.sec.sw) frame :), rfl⟩

/-! #### MOT: a running spindle coasts -/

/-- A spindle that turns under control coasts, to be started again when its region is back. -/
def State.coasting (s : State) : State :=
  if restartModes.contains s.sp then (s.spMode spCOAST).modSpin (fun p => { p with want := 0, lostPower := false, restart := 1 }) else s

/-- The lanes of the control engine and the path generators drop their work. -/
def State.motDropped (s : State) : State :=
  { s with mlane := [], cell := s.cell.map (fun p => (p.1, { p.2 with run := none, ready := none, pend := none, greq := none })),
           pg := s.pg.map (fun p => (p.1, { p.2 with v := 0, a := 0, plan := none, queued := none, stop := false })) }

/-- No driver of an actuator is active, none demands current and no path is asked to stop. -/
def State.motCleared (s : State) : State :=
  (List.range s.nAct).foldl (fun t a => (t.wf MA_STATUS_ACTIVE 0 a).wf VC_CURRENT_I_DEM 0 a) (s.wf PG_CTRL_STOP 0)

theorem restartMot_eq (s : State) : s.restartMot = s.coasting.motDropped.motCleared := rfl

theorem spindleKept_motCleared (s : State) : SpindleKept s s.motCleared := by
  refine (SpindleKept.wf (f := PG_CTRL_STOP) (.inl (by decide)) s 0).trans (.foldl (fun t a mem => ?_) _)
  have actuator : a < 4 := Nat.lt_of_lt_of_le (List.mem_range.1 mem) (nAct_le s)
  exact (SpindleKept.wf (f := MA_STATUS_ACTIVE) (.inl (by simp only [Fld.key, MA_STATUS_ACTIVE]; omega)) t 0).trans
    (.wf (f := VC_CURRENT_I_DEM) (.inl (by simp only [Fld.key, VC_CURRENT_I_DEM]; omega)) _ 0)

theorem spindleKept_restartMot (s : State) : SpindleKept s.coasting s.restartMot :=
  .trans (t := s.coasting.motDropped) (.of_regs rfl rfl rfl rfl rfl) (spindleKept_motCleared _)

theorem fc_motCleared (s : State) : s.motCleared.fc = s.fc :=
  List.foldlRecOn (motive := fun t : State => t.fc = s.fc) (List.range s.nAct) (fun t a => (t.wf MA_STATUS_ACTIVE 0 a).wf VC_CURRENT_I_DEM 0 a) rfl fun _ h _ _ => h

/-- A spindle in RUN coasts. -/
theorem restartMot_of_run {s : State} (run : s.sp = spRUN) : s.restartMot.sp = spCOAST ∧ s.restartMot.spin.restart = 1 ∧ s.restartMot.fc = s.fc := by
  have kept := spindleKept_restartMot s
  have coasts : s.coasting = (s.spMode spCOAST).modSpin (fun p => { p with want := 0, lostPower := false, restart := 1 }) := if_pos (by rw [run]; rfl)
  have taken := modeTaken_spMode (m := spCOAST) (by decide) (by decide) s
  refine ⟨?_, ?_, ?_⟩
  · rw [kept.sp, coasts]
    exact taken.sp
  · rw [kept.spin, coasts]
    rfl
  · rw [restartMot_eq, fc_motCleared]
    exact (congrArg State.fc coasts).trans taken.fc

/-- A stopped spindle stays so. -/
theorem restartMot_of_stopped {s : State} (stopped : s.sp = spSTOPPED) : s.restartMot.sp = spSTOPPED := by
  have stays : s.coasting = s := if_neg (by rw [stopped]; decide)
  rw [(spindleKept_restartMot s).sp, stays]
  exact stopped

section
variable {s : State} {r : Fin 5}

theorem regionRestart_runs (waits : s.c3Waits r.val = true) (parked : s.c3Parked r.val = true) : ∃ t : State, exec (.regionRestart r) s = .next t
    ∧ (r.val = HST → t.reng.turn = none) ∧ (r.val = MED → t.cru.copies = [])
    ∧ (r.val = SYS → t.fc.restarting = s.fc.restarting ++ [SYS] ∧ t.zl.sessions = [] ∧ t.zl.handshakes = [] ∧ t.asm = [] ∧ t.recd.flushing = true ∧ t.odRun = s.odRun
      ∧ (s.sec.sw = none → t.regs = s.regs) ∧ (s.sec.sw.isSome = true → t.rf SEC_SWITCH_STATE = 0) ∧ t.sec.sw = s.sec.sw)
    ∧ (r.val = MOT → s.sp = spRUN → t.sp = spCOAST ∧ t.spin.restart = 1 ∧ t.fc.restarting = s.fc.restarting ++ [MOT]) ∧ (r.val = MOT → s.sp = spSTOPPED → t.sp = spSTOPPED) := by
  refine ⟨_, exec_regionRestart_of_ready waits parked, fun host => ?_, fun media => ?_, fun system => ?_, fun motion run => ?_, fun motion stopped => ?_⟩
  · rw [host]
    rfl
  · rw [media]
    rfl
  · rw [system]
    have left := restartSys_leaves (s.restartNoted SYS)
    change ((s.restartNoted SYS).restartSys).fc.restarting = _ ∧ _
    refine ⟨congrArg Fc.restarting left.fc, left.sessions, left.handshakes, left.asm, congrArg Recorder.flushing left.recd, left.odRun, fun none => ?_, fun some_ => ?_, left.sw⟩
    · have stays : (s.restartNoted SYS).swAbandon = s.restartNoted SYS := swAbandon_of_none _ none
      exact left.regs.trans (congrArg State.regs stays :)
    · obtain ⟨w, sw⟩ := Option.isSome_iff_exists.1 some_
      have idle : (s.restartNoted SYS).swAbandon.rf SEC_SWITCH_STATE = 0 := swAbandon_idle sw
      exact (congrArg (fun regs : Tab Nat => tabGet (SEC_SWITCH_STATE.rst 0) regs (SEC_SWITCH_STATE.key 0 0)) left.regs).trans idle
  · rw [motion]
    obtain ⟨sp, restart, fc⟩ := restartMot_of_run (s := s.restartNoted MOT) run
    exact ⟨sp, restart, congrArg Fc.restarting fc⟩
  · rw [motion]
    exact restartMot_of_stopped (s := s.restartNoted MOT) stopped

/-! ### The end of a restart (R465, R464) -/

theorem exec_regionRestartDone_of_other (other : s.fc.restarting.contains r.val = false) (us : Nat) : exec (.regionRestartDone r us) s = .next s :=
  if_neg (by rw [other]; decide)

end

/-- The restart of r has ended at the core's time. -/
def State.restartEnded (s : State) (r : Nat) : State :=
  { s with fc.restarting := s.fc.restarting.erase r, fc.c3Regions := s.fc.c3Regions.erase r, fc.restartEnd := tabSet s.fc.restartEnd r s.coreTime.toNat }

/-- With the last region back the channels are free of FAULT. -/
def State.faultFreed (s : State) : State := if s.fc.restarting = [] ∧ s.rf FC_STATUS_FATAL = 0 then s.inhibitAll inhFAULT false else s

/-- With every region of the C3 back its record closes. -/
def State.c3Closed (s : State) (us : Nat) : State := if s.fc.c3Regions = [] ∧ s.rf FC_STATUS_FATAL = 0 then s.endRecord us else s

theorem exec_regionRestartDone_of_restarting {s : State} {r : Fin 5} (restarts : s.fc.restarting.contains r.val = true) (us : Nat) : exec (.regionRestartDone r us) s =
    .next ((if r.val = MOT then (s.restartEnded r.val).restartMotDone else if r.val = MED then (s.restartEnded r.val).restartMedDone else s.restartEnded r.val).faultFreed.c3Closed us) :=
  if_pos restarts

theorem endRecord_keeps {s : State} {f : FaultRec} (open_ : s.fc.chip = some f) (us : Nat) :
    (s.endRecord us).fc.restarting = s.fc.restarting ∧ (s.endRecord us).fc.restartEnd = s.fc.restartEnd ∧ (s.endRecord us).regs = s.regs := by
  rw [endRecord_of_open open_]
  exact ⟨rfl, rfl, rfl⟩

section
variable {s : State} {r : Fin 5} (last : s.fc.restarting = [r.val]) (only : s.fc.c3Regions = [r.val]) (alive : s.rf FC_STATUS_FATAL = 0)
  (plain : r.val = SYS ∨ r.val = HST ∨ r.val = DAT)
include last only alive plain

theorem exec_regionRestartDone_of_last (us : Nat) : exec (.regionRestartDone r us) s = .next (((s.restartEnded r.val).inhibitAll inhFAULT false).endRecord us) := by
  have here : s.fc.restarting.contains r.val = true := by rw [last]; simp
  have none : (s.restartEnded r.val).fc.restarting = [] := (congrArg (fun l : List Nat => l.erase r.val) last).trans (by simp)
  have closed : (s.restartEnded r.val).fc.c3Regions = [] := (congrArg (fun l : List Nat => l.erase r.val) only).trans (by simp)
  have kept : ServoKept (s.restartEnded r.val) ((s.restartEnded r.val).inhibitAll inhFAULT false) := servoKept_inhibitAll ..
  have notMot : r.val ≠ MOT := by rcases plain with h | h | h <;> rw [h] <;> decide
  have notMed : r.val ≠ MED := by rcases plain with h | h | h <;> rw [h] <;> decide
  have alive' : ((s.restartEnded r.val).inhibitAll inhFAULT false).rf FC_STATUS_FATAL = 0 := (kept.rf (by decide)).trans alive
  have regions : ((s.restartEnded r.val).inhibitAll inhFAULT false).fc.c3Regions = [] := (congrArg Fc.c3Regions kept.fc).trans closed
  have freed : (s.restartEnded r.val).faultFreed = (s.restartEnded r.val).inhibitAll inhFAULT false := if_pos ⟨none, alive⟩
  rw [exec_regionRestartDone_of_restarting here, if_neg notMot, if_neg notMed, freed]
  exact next_eq (if_pos ⟨regions, alive'⟩)

theorem regionRestartDone_ends (us : Nat) (f : FaultRec) (open_ : s.fc.chip = some f) : ∃ t : State, exec (.regionRestartDone r us) s = .next t ∧ t.fc.restarting = [] ∧ t.fc.chip = none
    ∧ t.fc.last = some { f with interrupt := min us 65535 } ∧ t.fc.restartEnd = tabSet s.fc.restartEnd r.val s.coreTime.toNat
    ∧ (∀ n, n < s.nChan → t.rbit WR_STATUS_INHIBIT inhFAULT n = false) := by
  have fc := (servoKept_inhibitAll (s.restartEnded r.val) inhFAULT false).fc
  have none : (s.restartEnded r.val).fc.restarting = [] := (congrArg (fun l : List Nat => l.erase r.val) last).trans (by simp)
  have chip : ((s.restartEnded r.val).inhibitAll inhFAULT false).fc.chip = some f := (congrArg Fc.chip fc).trans open_
  obtain ⟨-, closed, ended, -⟩ := endRecord_ends chip us
  obtain ⟨restarting, times, regs⟩ := endRecord_keeps chip us
  refine ⟨_, exec_regionRestartDone_of_last last only alive plain us, restarting.trans ((congrArg Fc.restarting fc).trans none), closed, ended,
    times.trans (congrArg Fc.restartEnd fc), fun n channel => ?_⟩
  rw [State.rbit, State.rf, regs]
  exact (cause_inhibitAll (by decide) (s.restartEnded r.val) inhFAULT false n).trans (if_pos ⟨channel, rfl⟩)

end

/-- A second C3 of a region within 1 s of the end of its restart is a C4. -/
theorem c3Begin_of_recent {s : State} {rg t0 : Nat} (src : Nat) (ended : tabFind s.fc.restartEnd rg = some t0) (soon : s.coreTime.toNat < t0 + 1000 * cyclesPerMs)
    (apart : s.entryRegions.contains rg = false) : s.c3Begin rg src = s.chipFatal := by
  have within : s.coreTime.toNat - t0 < 1000 * cyclesPerMs := by
    have unit : 0 < 1000 * cyclesPerMs := by decide
    omega
  simp only [State.c3Begin, apart, Bool.false_eq_true, if_false, ended, within, if_true]

/-- Settles O51: a C4 by what its steps leave, region by region for a restart, and the record by the end of the last region. -/
theorem chipFatalAndRestarts : Obligations.ChipFatalAndRestarts := by
  intro s
  refine ⟨fun src first => ?_, chipFatal_of_fatal, fun src fatal calm => chipFatal_again src fatal calm, fun r => ⟨exec_regionRestart_of_blocked, regionRestart_runs,
    exec_regionRestartDone_of_other, fun last only alive plain us f open_ => regionRestartDone_ends last only alive plain us f open_⟩,
    fun rg src t0 ended soon _ apart => c3Begin_of_recent src ended soon apart⟩
  obtain ⟨t, ran, fatal, ports, od, odRun⟩ := chipFatal_first src first
  exact ⟨t, ran, fatal.fatal, fatal.highest, fatal.alive, by rw [State.fltN, fatal.fatal]; rfl, fatal.inhibited, fatal.rings, ports, fatal.stowed, fatal.flushing, od, odRun⟩

end Sys2Proof.Machine
end
